-- ==== Sys2Proof/Word.lean ====
section
/-! DEFINITION. The plain words of the KX7: bytes, register words, lanes, accumulators and the 128-bit words
that posts and Orchard accesses carry (R4, R5, R9, R68). -/

namespace Sys2Proof

/-- One byte of a memory. -/
abbrev Byte := BitVec 8
/-- A 32-bit register word or V-register lane (R5, R9). -/
abbrev Word := BitVec 32
/-- One lane of an accumulator (R5, A72). -/
abbrev Acc := BitVec 72
/-- A 128-bit event, voice or command word (R132, R180, R229). -/
abbrev Quad := BitVec 128

/-- Bits `[hi:lo]` of a natural number. -/
def natBits (x hi lo : Nat) : Nat := (x / 2 ^ lo) % 2 ^ (hi + 1 - lo)

/-- Bit `b` of a natural number. -/
def natBit (x b : Nat) : Bool := (x / 2 ^ b) % 2 == 1

/-- A Boolean as the number 0 or 1. -/
def b2n (b : Bool) : Nat := if b then 1 else 0

end Sys2Proof
end

