-- ==== Sys2Proof/Syntax.lean ====
section
/-! DEFINITION. The commands of the KX7, one constructor per row of the opcode table, with their operands. -/

namespace Sys2Proof

/-- The masters that reach register space (R26, R397). -/
inductive Master where
  | steward | pcie | spi | twin
deriving DecidableEq, Repr

/-- The master IDs of R26. -/
def Master.id : Master → Nat
  | .steward => 0x50
  | .pcie => 0x58
  | .spi => 0x59
  | .twin => 0x5B

/-- Which core issues an instruction: a logical engine core (R27) or the steward (R148). -/
inductive CoreSel where
  | ec (n : Fin 64)
  | steward
deriving DecidableEq, Repr

/-- The fields of an instruction word other than OP (R103). -/
structure CoreWord where
  sat : Bool
  flg : Bool
  vd : Fin 32
  va : Fin 32
  vb : Fin 32
  acc : Fin 4
  sub : BitVec 7
  mv : BitVec 32
deriving DecidableEq, Repr

/-- A memory with error correction (R260, R266): Orchard, external memory, or the DMEM of a logical core. -/
inductive FMem where
  | orchard | dram
  | dmem (n : Fin 64)
deriving DecidableEq, Repr

/-- A disturbance of a memory from outside: the 32-bit lane, or the 8-byte word of external memory, by its index, and whether
error correction loses it. -/
structure Upset where
  mem : FMem
  ix : Nat
  lost : Bool
deriving DecidableEq, Repr

/-- What a memory read finds in the 16-byte word that it reads first (R260, R261, R266): the lanes are those of the word; or
which disturbances have come, wherever in the memories, up to this read. -/
inductive Ecc where
  | clean
  | corrected
  | uncorrectable (lanes : BitVec 4)
  | disturbed (us : List Upset)
deriving DecidableEq, Repr

/-- What a 10 ms gate measures of a reference (R48, R53). -/
inductive Gate where
  | good | offNominal | stopped
deriving DecidableEq, Repr

/-- The state a twin partner reports when the link comes up (R378). -/
inductive Partner where
  | undecided | active | standby
deriving DecidableEq, Repr

/-- The partner found, and whether it runs the same images (R378). -/
structure Found where
  partner : Partner
  same : Bool
deriving DecidableEq, Repr

/-- What an ACK frame brings beside its number: whether its CRC is good, and the credits that it grants (R385). -/
structure Ack where
  crcOk : Bool
  credits : Fin 65
deriving DecidableEq, Repr

/-- A slip of a port: two frames start in an engine-sample interval, or, with `again`, none does (R274). -/
structure Slip where
  port : Fin 32
  again : Bool
deriving DecidableEq, Repr

/-- An edge of the input that a timer captures, and for how many TCLK the input then stays stable (R312). -/
structure CaptureEdge where
  timer : Fin 64
  rising : Bool
  held : Nat
deriving DecidableEq, Repr

/-- A UART's transmitter may begin a character, with CTS at a level (R321). -/
structure SendStart where
  uart : Fin 6
  cts : Bool
deriving DecidableEq, Repr

/-- A bit of a character as the receiver's samples at ticks 7, 8 and 9 show it (R318). -/
abbrev Sampled := Bool × Bool × Bool

/-- One mirrored item of a MIRROR frame (R381). A sequenced write carries an address of R371's space and the base of the
port's DRAM window in MiB; the bytes of a host's write to Orchard or external memory carry their enables. -/
inductive MirrorItem where
  | write (m : Master) (addr : BitVec 24) (w : Word)
  | seqWrite (h : Fin 2) (n : Word) (addr : Word) (base : BitVec 14) (ws : List Word)
  | hostOrchard (m : Master) (off : Fin 67108864) (bytes : List (Option Byte))
  | hostDram (m : Master) (addr : BitVec 36) (bytes : List (Option Byte))
  | post (m : Master) (pip : Fin 16384) (w : Quad)
  | voice (m : Master) (w : Quad)
  | scene (m : Master) (w : Quad)
  | uart (n : Fin 6) (pip : Fin 16384) (w : Quad)
  | unitEvent (n : Fin 256) (frc : Nat)
  | currant (w : Quad)
deriving DecidableEq, Repr

/-- What a COPY frame carries (R388): one register word, or bytes of a mirrored memory. -/
inductive CopyItem where
  | reg (addr : BitVec 24) (w : Word)
  | orchard (addr : Nat) (bytes : List Byte)
  | dram (addr : Nat) (bytes : List Byte)
deriving DecidableEq, Repr

/-- Why a chain frame travels, and the status it carries (R444). -/
structure ChainHdr where
  hop : Fin 64
  up : Bool
  crcOk : Bool
deriving DecidableEq, Repr

/-- The level a service-link DRIVE puts on a ball (R457). -/
inductive DriveLevel where
  | high | low | square
deriving DecidableEq, Repr

/-- What a connectivity test finds of one pair of balls (R461). -/
inductive PairSeen where
  | pass | stuckHigh | stuckLow | openLine
  | short (other : Nat)
deriving DecidableEq, Repr

/-- The balls the service link may name (R457, R458): a ball with a claim slot, or a ball without one. -/
inductive Ball where
  | slot (n : Fin 1024)
  | free (k : Fin 12)
deriving DecidableEq, Repr

/-- Where a chip's straps and wake inputs stand (R476, R482). -/
inductive WakeSrc where
  | uart (n : Fin 6) | spi | pcie | timer
deriving DecidableEq, Repr

inductive Instr where
  -- register space
  | registerWrite (m : Master) (addr : BitVec 24) (w : Word)
  | readClear (m : Master) (addr : BitVec 24)
  | latchingRead (m : Master) (addr : BitVec 24)
  | stageWordWrite (m : Master) (addr : BitVec 24) (w : Word)
  | claimTake (m : Master) (slot : Fin 2048)
  | claimDrop (m : Master) (slot : Fin 2048)
  | evrouteWrite (m : Master) (n : Fin 256) (w : Word)
  | unitEventDeliver (n : Fin 256)
  -- engine
  | engineRunRequest (m : Master) (atFrc : Bool)
  | engineStopRequest (m : Master) (atFrc : Bool)
  | engineStartTarget
  | engineFirstDispatch
  | engineStopTarget
  | engineStopped
  | rateWrite (m : Master) (w : Word)
  | rateChangeApply
  | blockTick
  | deadlineCheck
  -- clock unit
  | refQualificationGate (n : Fin 5) (g : Gate)
  | refGlitch
  | refStop (missing : Bool)
  | holdoverTimeout
  | pullInComplete
  | revertTimeout (i : Fin 5)
  | refpriWrite (m : Master) (i : Fin 5) (w : Word)
  | reacq (m : Master) (w : Word)
  | acquireLock
  | freerunTimeout
  | mclkoEnable (m : Master) (n : Fin 8)
  | mclkoDisable (m : Master) (n : Fin 8)
  | mclkoDivWrite (m : Master) (n : Fin 8) (div : Fin 16)
  | mclkoStarted (n : Fin 8)
  | mclkoStopped (n : Fin 8)
  | syncoutEnable (m : Master) (src : Fin 4)
  | syncoutDisable (m : Master)
  | frcLoadGo (m : Master)
  | frcLoadApply
  -- compute instructions
  | nop (c : CoreSel) (i : CoreWord)
  | vadd (c : CoreSel) (i : CoreWord)
  | vsub (c : CoreSel) (i : CoreWord)
  | vmul (c : CoreSel) (i : CoreWord)
  | vmin (c : CoreSel) (i : CoreWord)
  | vmax (c : CoreSel) (i : CoreWord)
  | vabs (c : CoreSel) (i : CoreWord)
  | vneg (c : CoreSel) (i : CoreWord)
  | vshl (c : CoreSel) (i : CoreWord)
  | vshr (c : CoreSel) (i : CoreWord)
  | vand (c : CoreSel) (i : CoreWord)
  | vor (c : CoreSel) (i : CoreWord)
  | vxor (c : CoreSel) (i : CoreWord)
  | vcmp (c : CoreSel) (i : CoreWord)
  | vsel (c : CoreSel) (i : CoreWord)
  | vperm (c : CoreSel) (i : CoreWord)
  | mac (c : CoreSel) (i : CoreWord)
  | msu (c : CoreSel) (i : CoreWord)
  | mpy (c : CoreSel) (i : CoreWord)
  | ftap (c : CoreSel) (i : CoreWord)
  | ftap2 (c : CoreSel) (i : CoreWord)
  | cmac (c : CoreSel) (i : CoreWord)
  | cmpy (c : CoreSel) (i : CoreWord)
  | cmacj (c : CoreSel) (i : CoreWord)
  | rdacc (c : CoreSel) (i : CoreWord)
  | clra (c : CoreSel) (i : CoreWord)
  | ashf (c : CoreSel) (i : CoreWord)
  | amov (c : CoreSel) (i : CoreWord)
  | tlerp (c : CoreSel) (i : CoreWord)
  | phrd (c : CoreSel) (i : CoreWord)
  | prmrd (c : CoreSel) (i : CoreWord)
  | evpop (c : CoreSel) (i : CoreWord)
  -- memory, flow and system instructions
  | ld (c : CoreSel) (i : CoreWord)
  | st (c : CoreSel) (i : CoreWord)
  | lds (c : CoreSel) (i : CoreWord)
  | ldi (c : CoreSel) (i : CoreWord)
  | aimm (c : CoreSel) (i : CoreWord)
  | aadd (c : CoreSel) (i : CoreWord)
  | afold (c : CoreSel) (i : CoreWord)
  | amovx (c : CoreSel) (i : CoreWord)
  | br (c : CoreSel) (i : CoreWord)
  | brc (c : CoreSel) (i : CoreWord)
  | call (c : CoreSel) (i : CoreWord)
  | ret (c : CoreSel) (i : CoreWord)
  | loop (c : CoreSel) (i : CoreWord)
  | loopv (c : CoreSel) (i : CoreWord)
  | qpostPip (c : CoreSel) (i : CoreWord)
  | qpostVoice (c : CoreSel) (i : CoreWord)
  | qpostScene (c : CoreSel) (i : CoreWord)
  | qdone (c : CoreSel) (i : CoreWord)
  | vmrptLevel (c : CoreSel) (i : CoreWord)
  | vmrptEnded (c : CoreSel) (i : CoreWord)
  | dma (c : CoreSel) (i : CoreWord)
  | dmaw (c : CoreSel) (i : CoreWord)
  | fence (c : CoreSel) (i : CoreWord)
  | swi (c : CoreSel) (i : CoreWord)
  | rdsysTime (c : CoreSel) (i : CoreWord)
  | rdsysIdent (c : CoreSel) (i : CoreWord)
  | rdsysState (c : CoreSel) (i : CoreWord)
  | rdsysRate (c : CoreSel) (i : CoreWord)
  | rdsysDma (c : CoreSel) (i : CoreWord)
  | illegalInstruction (c : CoreSel) (op : Fin 64) (i : CoreWord)
  | stewardEvpop (i : CoreWord)
  | stewardSwiWait (i : CoreWord)
  -- cores and Quince
  | pipStart (c : Fin 64)
  | qdoneComplete (c : Fin 64)
  | urgentPreempt (c : Fin 64)
  | orchardLoadComplete (c : CoreSel) (e : Ecc)
  | orchardStoreWritten (c : CoreSel)
  | dmaDescriptorStart (c : CoreSel) (ch : Fin 4)
  | dmaDescriptorDone (c : CoreSel) (ch : Fin 4) (e : Ecc)
  | coreHalt (m : Master) (c : Fin 64)
  | coreResume (m : Master) (c : Fin 64)
  | swiqPop (m : Master)
  | pipWrite (m : Master) (p : Fin 16384) (k : Fin 16) (w : Word)
  | pipEnable (m : Master) (p : Fin 16384) (w : Word)
  | pipDisable (m : Master) (p : Fin 16384)
  | slistCommit (m : Master) (w : Word)
  | affinityCommit (m : Master) (c : Fin 8) (w : Word)
  | qnDeadlineWrite (m : Master) (w : Word)
  | hostPostPip (m : Master) (p : Fin 16384)
  | hostPostVoice (m : Master)
  | heldPostAccept
  | heldEventReady
  | urgentPlacement
  | roundRobinPlacement (c : Fin 64)
  | prefetchComplete (c : Fin 64)
  | qnImgWrite (m : Master) (i : Fin 1024) (w : Word)
  | coreParityError (c : Fin 64) (imem : Bool)
  | repairCopyComplete
  -- voice manager and phasor bank
  | noteOn (src : BitVec 8) (w : Quad)
  | deferredNoteStart (g : Fin 256)
  | stealResume (g : Fin 256)
  | noteOff (src : BitVec 8) (w : Quad)
  | noteChange (src : BitVec 8) (w : Quad)
  | hold (src : BitVec 8) (w : Quad)
  | allOff (src : BitVec 8) (w : Quad)
  | kill (src : BitVec 8) (w : Quad)
  | ctrl (src : BitVec 8) (w : Quad)
  | phPhase (w : Quad)
  | phRate (w : Quad)
  | phSlope (w : Quad)
  | phasorHeldApply
  | phasorDirectWrite (m : Master) (p : Fin 8192) (w : Word)
  | joinDecrement (g : Fin 256)
  | vmEnable (m : Master) (w : Word)
  | vmDisable (m : Master)
  | vmShutdownComplete
  | voiceGroupEnable (m : Master) (g : Fin 256) (w : Word)
  | voiceGroupDisable (m : Master) (g : Fin 256)
  -- Bramble
  | quadEnable (m : Master) (q : Fin 512) (w : Word)
  | quadDisable (m : Master) (q : Fin 512)
  | nextEntryWrite (m : Master) (d : Fin 4096) (w : Word)
  | swapArm (m : Master)
  | swapDisarm (m : Master)
  | swapAtTick
  | swapComplete
  | crossfadeEnd (d : Fin 4096)
  -- parameters and scenes
  | paramCommand (src : BitVec 8) (w : Quad)
  | heldCommandApply
  | recallCommand (src : BitVec 8) (w : Quad)
  | recallArm (m : Master) (scene : Fin 1024)
  | recallDisarm (m : Master)
  | recallListChecked
  | recallTimeout
  | recallApply
  -- Orchard and external memory
  | orcOwnWrite (m : Master) (n : Fin 64) (owner : BitVec 8)
  | handoverDrainComplete (n : Fin 64)
  | ownerGroupWrite (m : Master) (g : Fin 32) (k : Fin 3) (w : Word)
  | loanStart
  | loanCopyComplete (repair : Bool)
  | loanTestComplete (repair : Bool) (pass : Bool)
  | dmcEnable (m : Master)
  | dmcDisable (m : Master)
  | dmcTrainingComplete
  | dmcTrainingFailed
  | dmcShutdownComplete
  -- audio ports
  | portEnable (m : Master) (n : Fin 32)
  | portDisable (m : Master) (n : Fin 32)
  | portOn (n : Fin 32)
  | portShutdownComplete (n : Fin 32)
  | portFramingError (n : Fin 32)
  | portSlip (x : Slip)
  | portClockLost (n : Fin 32) (rateErr : Bool)
  | portClockReturn (n : Fin 32)
  | maskWrite (m : Master) (n : Fin 32) (out : Bool) (mask : Word)
  | maskApply (n : Fin 32)
  | portGroupArm (m : Master) (g : Fin 8)
  | portGroupDisarm (m : Master) (g : Fin 8)
  | portGroupStart (g : Fin 8)
  -- ASRC
  | asrcLock (t : Fin 48) (ratio : Word)
  | asrcChannelOn (c : Fin 512)
  | asrcChannelOff (c : Fin 512)
  | asrcRangeError (c : Fin 512)
  | asrcSpareTakeover (c : Fin 512)
  -- AES3
  | aesRxEnable (m : Master) (r : Fin 8)
  | aesRxDisable (m : Master) (r : Fin 8)
  | aesRxLock (r : Fin 8) (nom : Fin 5)
  | aesRxUnlock (r : Fin 8)
  | aesBlockStored (r : Fin 8) (u : Fin 2) (len : Nat) (cs us : BitVec 192)
  | aesSubframeParityError (r : Fin 8) (u : Fin 2)
  | aesTxEnable (m : Master) (t : Fin 8)
  | aesTxDisable (m : Master) (t : Fin 8)
  | aesTxOn (t : Fin 8)
  | aesTxOff (t : Fin 8)
  | aesTxCsWrite (m : Master) (t : Fin 8) (u : Fin 2) (user : Bool) (w : Word)
  | aesTxCsApply (t : Fin 8)
  -- timers
  | timerEnable (m : Master) (n : Fin 64)
  | timerDisable (m : Master) (n : Fin 64)
  | timerStart (n : Fin 64)
  | lapStart (n : Fin 64)
  | compareMatch (n : Fin 64) (b : Bool)
  | timerShutdownComplete (n : Fin 64)
  | timerReloadWrite (m : Master) (n : Fin 64) (w : Word)
  | compareWrite (m : Master) (n : Fin 64) (b : Bool) (w : Word)
  | timerCntRead (m : Master) (n : Fin 64)
  | timerGroupArm (m : Master) (g : Fin 8)
  | timerGroupDisarm (m : Master) (g : Fin 8)
  | timerGroupGo (m : Master) (g : Fin 8)
  | timerGroupStart (g : Fin 8)
  | capture (x : CaptureEdge)
  | captRead (m : Master) (n : Fin 64)
  | swcap (m : Master) (n : Fin 64)
  -- UARTs and MIDI
  | uartEnable (m : Master) (n : Fin 6) (w : Word)
  | uartDisable (m : Master) (n : Fin 6) (w : Word)
  | uartOn (n : Fin 6)
  | uartOff (n : Fin 6)
  | characterReceived (n : Fin 6) (start : Bool) (first : Sampled) (data : List Sampled) (par : Sampled) (stops : List Sampled)
  | rxRead (m : Master) (n : Fin 6)
  | txWrite (m : Master) (n : Fin 6) (data : Byte)
  | characterTransmit (x : SendStart)
  | divisorWrite (m : Master) (n : Fin 6) (w : Word)
  | uartBreak (n : Fin 6)
  | lineRetire (n : Fin 6)
  | lineRearm (m : Master) (n : Fin 6) (w : Word)
  | recoveryRequest (heldMs : Nat) (syncInTime : Bool) (sync : List Byte)
  | uartWake (n : Fin 6)
  | midiChannelMessage (n : Fin 6)
  | midiCommonMessage (n : Fin 6)
  | midiRealtimeMessage (n : Fin 6)
  | midiSysexEvent (n : Fin 6)
  -- Damson
  | damsonEnable (m : Master) (n : Fin 16)
  | damsonDisable (m : Master) (n : Fin 16)
  | damsonOn (n : Fin 16)
  | damsonOff (n : Fin 16)
  | damsonCodeWrite (m : Master) (n : Fin 16) (code : BitVec 24)
  | deglitchHoldEnd (n : Fin 16)
  | slewComplete (n : Fin 16)
  | dacclrAssert
  | dacclrRelease
  | spanWrite (m : Master) (n : Fin 16) (span : Fin 4)
  | spanSafeReached (n : Fin 16)
  | spanSwitch (n : Fin 16)
  | spanSettleEnd (n : Fin 16)
  | damsonStageSwap (n : Fin 16)
  | shortCircuitOnset (n : Fin 16)
  | shortCircuitCleared (n : Fin 16)
  -- Currant and meters
  | rotationConversion (code : BitVec 16)
  | scanConversion (code : BitVec 16)
  | meterPeakRead (m : Master) (k : Fin 1024)
  | peakHoldExpire (k : Fin 1024)
  | loudnessReset (m : Master) (g : Fin 64) (w : Word)
  | loudnessUpdate (g : Fin 64)
  -- host interfaces
  | pcieRegisterAccess (write : Bool) (addr : BitVec 24) (w : Word) (aligned : Bool)
  | pcieOrchardAccess (write : Bool) (off : Fin 67108864) (bytes : List (Option Byte))
  | pcieDramAccess (write : Bool) (off : Fin 268435456) (bytes : List (Option Byte))
  | pcieLinkChange (up l1 : Bool) (width gen : Fin 4)
  | sequencedWriteGo (m : Master) (n : Word)
  | spiWrite (addr : Word) (ws : List Word) (early : Bool)
  | spiRead (addr : Word) (len : Fin 256) (ready early : Bool)
  | spiSwrite (addr : Word) (seq : Word) (ws : List Word) (early : Bool)
  | spiStat
  | spiBadCommand (cmd : Byte)
  | hostStreamBlockWrite (m : Master) (w : Word)
  -- twin pair
  | twinEnable (m : Master) (w : Word)
  | twinDisable (m : Master) (w : Word)
  | twinPartnerFound (x : Found)
  | twinBootwaitExpire (hb : Bool)
  | twinLaneEnable (m : Master) (l : Fin 4)
  | twinLaneDisable (m : Master) (l : Fin 4)
  | twinLaneCrcRetire (l : Fin 4)
  | twinMirrorFrame (seq : BitVec 24) (crcOk : Bool) (tick : Nat) (item : MirrorItem)
  | twinAckFrame (seq : BitVec 24) (a : Ack)
  | twinNakFrame (seq : BitVec 24) (crcOk : Bool)
  | twinStatusFrame (seq : BitVec 24) (crcOk : Bool) (blk : Nat) (crc : Word)
  | twinAudioFrame (seq : BitVec 24) (crcOk : Bool) (blk : Nat) (c : Fin 128) (xs : List Word)
  | twinCopyFrame (seq : BitVec 24) (crcOk : Bool) (item : CopyItem)
  | twinUpdateFrame (seq : BitVec 24) (crcOk : Bool) (bytes : List Byte)
  | twinHandoverFrame (seq : BitVec 24) (crcOk : Bool)
  | frameResendTimeout (seq : BitVec 24)
  | mirrorRelease
  | resyncCopyComplete
  | resyncEngineStart
  | resyncTimeout
  | heartbeatSample (level : Bool)
  | takeover
  | twinSwap (m : Master) (w : Word)
  | twinTake (m : Master) (w : Word)
  | twinResync (m : Master) (w : Word)
  | watchdogKick (m : Master) (w : Word)
  | watchdogExpire
  -- protection and Medlar
  | unfreezeResume (m : Master) (target : BitVec 8)
  | unfreezeAbandon (m : Master) (target : BitVec 8)
  | stewardRestart
  | rotationStart
  | rotationCopyComplete
  | rotationSwitch
  | rotationTestComplete (pass : Bool) (march : Bool)
  | ageingRead (k : Fin 206) (slow : BitVec 16)
  -- Graft
  | sessionOpen (m : Master) (chain : Bool)
  | sessionClose (m : Master)
  | sessionTimeout
  | xferGo (m : Master) (w : Word)
  | pieceConsumed
  | activationArm (m : Master)
  | activationDisarm (m : Master)
  | activationAtF
  | trialHealthy (m : Master)
  | trialCommit (m : Master)
  | trialFail (m : Master)
  | trialTimeout
  | settingsCopyWrite (format : BitVec 16) (body : List Byte) (readBack : Bool)
  | ownerCodeEntry (m : Master) (w : Word)
  | unlockLockoutEnd
  | chainOffer (h : ChainHdr)
  | chainData (h : ChainHdr) (bytes : List Byte)
  | chainStaged (h : ChainHdr) (status : Byte)
  | chainArm (h : ChainHdr) (digest : BitVec 256) (f : Nat)
  | chainReady (h : ChainHdr)
  | chainGo (h : ChainHdr) (digest : BitVec 256) (f : Nat)
  | chainVersion (h : ChainHdr)
  | chainCommit (h : ChainHdr)
  | chainAbort (h : ChainHdr) (status : Byte)
  -- Rind recovery
  | rindInfo
  | rindBaud (n : Nat)
  | rindCode (digits : List (Fin 10))
  | rindLoad (n : Nat)
  | rindLoadBlock (k : Nat) (bytes : List Byte) (crcOk : Bool)
  | rindEraseset
  | rindBoot
  -- service link
  | hello
  | ping
  | echoOn
  | echoOff
  | baud (n : Nat)
  | baudRevertTimeout
  | commandLineTooLong
  | unknownCommand
  | rd (addr : Nat) (n : Nat)
  | wr (addr : Nat) (w : Word)
  | drive (b : Ball) (l : DriveLevel)
  | release (b : Option Ball)
  | read (b : Ball) (samples : List Bool)
  | loopUart (n : Fin 6) (ext : Bool) (got : List (Option (Byte × Bool × Bool × Bool)))
  | loopPort (n m : Fin 32) (seen : List PairSeen)
  | loopAes (t r : Fin 8) (lockMs : Option Nat) (cs : BitVec 192)
  | dset (n : Fin 16) (uv : Int) (span : Fin 4)
  | dsetHoldCheck (n : Fin 16)
  | dmeas (n : Fin 16)
  | doff (n : Fin 16)
  | ain (n : Fin 8)
  | mon
  | faults (k : Fin 257)
  | spares
  | map
  | viol (k : Fin 17)
  | unfreeze (target : Nat) (abandon : Bool)
  | code (digits : List (Fin 10))
  | updOpen
  | updLoad (bytes : List Byte)
  | updStat
  | updArm (rel : Bool) (t : Nat)
  | updDisarm
  | updCommit
  | updClose
  | updInfo
  | recover
  | serviceLinkRearm
  -- power, reset, boot
  | supplyBad (k : Fin 12)
  | supplyGood (k : Fin 12)
  | porstAssert (low : Bool)
  | coldReset (boot : BitVec 2) (role : Bool)
  | digestCheckComplete (good : Bool)
  | firmwareStart
  | warmReset (boot : BitVec 2)
  | sysRstWarm (m : Master) (boot : BitVec 2)
  | standbyRequest (m : Master) (w : Word)
  | standbyEntered
  | wake (src : WakeSrc)
  | wakeTimerExpire
  -- JTAG
  | bypass
  | samplePreload (cells : List (Nat × Bool))
  | extest
  | idcode
  | highz
  | clamp
  | trstAssert
  -- GPIO, late rows
  | gpioEnable (m : Master) (n : Fin 48) (w : Word)
  | gpioDisable (m : Master) (n : Fin 48) (w : Word)
  | gpioEdge (n : Fin 48) (rising : Bool)
  | syncoutStarted
  | syncoutStopped
  | asrcRangeReturn (c : Fin 512)
  | asrcCoefficientParityError (c : Fin 512) (again : Bool)
  | twinLaneOn (l : Fin 4)
deriving DecidableEq, Repr

end Sys2Proof
end

