-- ==== Sys2Proof/Decode.lean ====
section
/-! DEFINITION. The command a word spells. The command table gives its rows no bits, so no word of the table's numbering
spells one; an engine core's 64-bit instruction word spells the command that issues it (R103, R105). -/

namespace Sys2Proof

/-- No row of the table gives bits: no word spells a command. DESIGN CHOICE: log entry 139. -/
def decodeTableWord (_nbits _w : Nat) : Option Instr := none

/-! ### Instruction words (R103, R105) -/

/-- The OP field of an instruction word, bits [63:58]. -/
def opOf (w : BitVec 64) : Fin 64 := (w.extractLsb' 58 6).toFin

/-- The other fields of an instruction word (R103). -/
def coreWordOf (w : BitVec 64) : CoreWord :=
  { sat := w.getLsbD 57, flg := w.getLsbD 56, vd := (w.extractLsb' 51 5).toFin, va := (w.extractLsb' 46 5).toFin,
    vb := (w.extractLsb' 41 5).toFin, acc := (w.extractLsb' 39 2).toFin, sub := w.extractLsb' 32 7, mv := w.extractLsb' 0 32 }

/-- The instruction word of an operation and its fields (R103). -/
def wordOfCore (op : Fin 64) (i : CoreWord) : BitVec 64 :=
  BitVec.ofNat 64 (op.val * 2 ^ 58 + b2n i.sat * 2 ^ 57 + b2n i.flg * 2 ^ 56 + i.vd.val * 2 ^ 51 + i.va.val * 2 ^ 46 +
    i.vb.val * 2 ^ 41 + i.acc.val * 2 ^ 39 + i.sub.toNat * 2 ^ 32 + i.mv.toNat)

/-- The operation of an OP value (R105), by SUB where the table has a row for each of its kinds; a reserved value, or a
reserved kind, is an illegal instruction. The selectors 5 to 15 of RDSYS go to one of its rows, which write 0 for them. -/
def opInstr (c : CoreSel) (op : Fin 64) (i : CoreWord) : Instr :=
  match op.val with
  | 0x00 => .nop c i
  | 0x01 => .vadd c i
  | 0x02 => .vsub c i
  | 0x03 => .vmul c i
  | 0x04 => .vmin c i
  | 0x05 => .vmax c i
  | 0x06 => .vabs c i
  | 0x07 => .vneg c i
  | 0x08 => .vshl c i
  | 0x09 => .vshr c i
  | 0x0a => .vand c i
  | 0x0b => .vor c i
  | 0x0c => .vxor c i
  | 0x0d => .vcmp c i
  | 0x0e => .vsel c i
  | 0x0f => .vperm c i
  | 0x10 => .mac c i
  | 0x11 => .msu c i
  | 0x12 => .mpy c i
  | 0x13 => .ftap c i
  | 0x14 => .ftap2 c i
  | 0x15 => .cmac c i
  | 0x16 => .cmpy c i
  | 0x17 => .cmacj c i
  | 0x18 => .rdacc c i
  | 0x19 => .clra c i
  | 0x1a => .ashf c i
  | 0x1b => .amov c i
  | 0x1c => .tlerp c i
  | 0x1d => .phrd c i
  | 0x1e => .prmrd c i
  | 0x1f => match c with | .ec _ => .evpop c i | .steward => .stewardEvpop i
  | 0x20 => .ld c i
  | 0x21 => .st c i
  | 0x22 => .ldi c i
  | 0x23 => .lds c i
  | 0x24 => .aimm c i
  | 0x25 => .aadd c i
  | 0x26 => .afold c i
  | 0x27 => .amovx c i
  | 0x28 => .br c i
  | 0x29 => .brc c i
  | 0x2a => .call c i
  | 0x2b => .ret c i
  | 0x2c => .loop c i
  | 0x2d => .loopv c i
  | 0x30 => match natBits i.sub.toNat 1 0 with
    | 0 => .qpostPip c i
    | 1 => .qpostVoice c i
    | 2 => .qpostScene c i
    | _ => .illegalInstruction c op i
  | 0x31 => .qdone c i
  | 0x32 => .dma c i
  | 0x33 => .dmaw c i
  | 0x34 => .fence c i
  | 0x35 => match c with | .ec _ => .swi c i | .steward => .stewardSwiWait i
  | 0x36 => match natBits i.sub.toNat 1 0 with
    | 0 => .vmrptLevel c i
    | 1 => .vmrptEnded c i
    | _ => .illegalInstruction c op i
  | 0x37 => match natBits i.sub.toNat 3 0 with
    | 0 => .rdsysTime c i
    | 1 => .rdsysIdent c i
    | 2 => .rdsysState c i
    | 3 => .rdsysRate c i
    | _ => .rdsysDma c i
  | _ => .illegalInstruction c op i

/-- The command that issues an instruction word on a core. -/
def coreInstr (c : CoreSel) (w : BitVec 64) : Instr := opInstr c (opOf w) (coreWordOf w)

end Sys2Proof
end

