-- ==== Sys2Proof/Config.lean ====
section
/-! DEFINITION. What the spec leaves open, or leaves to the world outside the chip: values with no body, so that nothing
in Lean can evaluate them or lean on one of them. Each takes what it depends on. -/

namespace Sys2Proof.Config

/-- The factory trim word of the root PLL (R57). -/
opaque trimWord : Word
/-- The bytes of Rind, the mask ROM, whose contents the spec does not give (R148). -/
opaque rind : Nat → Byte
/-- A 32-bit value the spec does not fix. DESIGN CHOICE: log entry 126. -/
opaque freeWord : Nat → Word
/-- CCLK cycles spent in RUN, STALL or WAIT, and in STALL or WAIT, which the model does not count (R101). -/
opaque busyCycles : Nat → Nat
opaque stallCycles : Nat → Nat
/-- The error of a ramp of shape 2–6, within the bound of R230. -/
opaque rampError (shape t len : Nat) (v0 v1 : Int) : Nat
/-- The error of a crossfade weight, within the bound of R221. -/
opaque fadeError (shape t len side : Nat) : Nat
/-- What source endpoint `e` brings in from outside the chip at one engine sample, by a count of draws: the word of a port
slot or AES3 subframe, or the output of an ASRC channel, and the V bit of a subframe (R206, R273, R283, R290).
DESIGN CHOICE: log entry 36. -/
opaque inWord (e k : Nat) : Word
opaque inV (e k : Nat) : Bool
/-- The far-side sample of an output ASRC channel, whose filter the spec does not give (R283). -/
opaque farSample (c k : Nat) : Word

/-- The Ed25519 public key that the product maker has written to a fuse slot (R433). -/
opaque fuseKey : Nat → List Byte
/-- The Ed25519 check of a signature over a message by a public key (R432, R433), whose standard is not the spec's.
DESIGN CHOICE: log entry 86. -/
opaque signed : List Byte → List Byte → List Byte → Bool
/-- What memories hold once their contents are no longer guaranteed (R472). -/
opaque lostCells : Nat → List (Nat × Byte)

/-- Where the steward firmware is entered: in the chosen slot (R477), and in Rind at a restart (R402).
DESIGN CHOICE: log entry 81. -/
opaque firmwareEntry : Word
opaque rindEntry : Word

end Sys2Proof.Config
end

