-- ==== Sys2Proof/Machine/State.lean ====
section
/-! DEFINITION. The state of the KX7 as plain data, and the state after reset.

Every architectural register is a field of the register file `State.regs`; the fields are named one by one in
Sys2Proof/Machine/Registers.lean (`F.*` the spec's registers, `I.*` the numbers a unit keeps that no register shows).
What is not a number (queues, lists, the cores' banks) stands in the structures below. -/

namespace Sys2Proof.Machine

/-- The key of a field: 32 times its register's base address plus its lowest bit, and the register's index. -/
abbrev Key := Nat × Nat
/-- A register file in canonical form: rising keys, and no field listed at its reset value. -/
abbrev Regs := List (Key × Nat)
/-- A memory in canonical form: rising addresses, and no byte listed that is 0. -/
abbrev Mem := List Host.Cell
/-- A sparse file of numbers by index; an unlisted index reads 0. -/
abbrev File := List (Nat × Nat)

/-- One field of one register: its key, its width and its reset value. -/
structure Fld where
  id : Nat
  ix : Nat
  width : Nat
  rst : Nat
deriving DecidableEq, Repr

/-- One master's latch of one table (R503). -/
structure Latch where
  master : Nat
  table : Nat
  entry : Nat
  words : List Nat
deriving DecidableEq, Repr

/-- A result in flight in a bank (R77): the instruction count at which it becomes visible, and whether it is a
post-modify (R79). -/
structure Pend where
  due : Nat
  idx : Nat
  val : Nat
  post : Bool
deriving DecidableEq, Repr

/-- A DMEM byte a recent store replaced: loads issued before `due` still read `old` (R77, local store). -/
structure Ovl where
  due : Nat
  addr : Nat
  old : Byte
deriving DecidableEq, Repr

/-- An Orchard load that waits for its data (R77, R142): its offset, the count of the core's Orchard stores that are
written before it, what it writes, as register-file indices and the memory lanes they take, and whether it waits for a
handover (R255). -/
structure LoadWait where
  addr : Nat
  after : Nat
  dst : List (Nat × Nat)
  held : Bool
deriving DecidableEq, Repr

/-- A word of memory in which a read finds an error (R260, R266): the index of its 32-bit lane, or of its 8-byte word in
external memory, and whether it is uncorrectable; an uncorrectable one holds 0. -/
structure Flaw where
  ix : Nat
  lost : Bool
deriving DecidableEq, Repr

/-- One event for an EVENT pip (R162 to R166): its word, level, poster, arrival number, ready number, the block it
is held for, and whether it still occupies a queue entry. -/
structure QEvent where
  pip : Nat
  word : Nat
  level : Nat
  master : Nat
  arr : Nat
  ready : Nat
  heldBlk : Option Nat
  entry : Bool
deriving DecidableEq, Repr

/-- A pip placed on a core, in its NEXT slot or running (R97, R99, R173), with the events that it started with (R121), and
whether the voice manager has cut its slot (R189). -/
structure PipRun where
  pip : Nat
  copy : List Nat
  blk : Nat
  ev : Option QEvent
  ready : Nat
  frame : Nat
  landed : Bool
  posts : Nat
  skip : Nat
  reruns : Nat
  level : Option Nat
  ended : Bool
  qdone : Bool
  late : Bool
  load : Bool
  isrc : Nat
  idram : Bool
  ilen : Nat
  events : List Nat
  cut : Bool
deriving DecidableEq, Repr

/-- One bank of a core (R68). `r` is its register file, by the indices of Machine/Operands.lean. -/
structure Bank where
  r : File
  pend : List Pend
  ovl : List Ovl
  n : Nat
  lv : Nat
  pc : Nat
  slots : Nat
  target : Option Nat
  closes : Bool
  run : Option PipRun
  events : List Nat
  head : Nat
  load : Option LoadWait
deriving DecidableEq, Repr

/-- One queued DMA descriptor (R95, R135): its channel 0–3, and the words it still has to move. -/
structure Desc where
  ch : Nat
  sd : Bool
  src : Nat
  dd : Bool
  dst : Nat
  words : Nat
  fences : Nat
  running : Bool
deriving DecidableEq, Repr

/-- A posted Orchard store (R142): the bytes it writes, by address, and whether it waits for a handover (R255). -/
structure OStore where
  bytes : List Host.Cell
  held : Bool
deriving DecidableEq, Repr

/-- One IMEM overlay frame (R74, R75, R172). -/
structure Frame where
  valid : Bool
  loading : Bool
  image : Nat
  stale : Bool
  used : Nat
deriving DecidableEq, Repr

/-- One logical core (0–63), or the steward core (64): both banks, the NEXT slot, the memories, the DMA queues, the
Orchard store buffer and the run state. -/
structure Core where
  p : Bank
  s : Bank
  shadow : Bool
  next : Option PipRun
  frames : List (Nat × Frame)
  imem : Mem
  dmem : Mem
  flaws : List Flaw
  dma : List Desc
  stores : List OStore
  storesDone : Nat
  halted : Bool
  swiStop : Bool
  frozen : Bool
  vskip : Bool
  vchan : Option Nat
  stall : Bool
  heldPost : Bool
  gated : Bool
  lastPc : Nat
  lastBank : Bool
deriving DecidableEq, Repr

/-- The two places a post waits when the event queue is full (R164). -/
inductive PostKind where
  | pip | voice
deriving DecidableEq, Repr

/-- A post held back (R164): its source, what it posts, and the core that stalls on it, if a core does. -/
structure HeldPost where
  kind : PostKind
  src : Nat
  pip : Nat
  level : Option Nat
  word : Nat
  core : Option Nat
deriving DecidableEq, Repr

/-- Quince beyond its registers (R152 to R175). -/
structure Quince where
  queue : List QEvent
  held : List HeldPost
  cur : List (Nat × Int)
  withdrawn : List Nat
deriving DecidableEq, Repr

/-- One entry of the SWI queue (R139). -/
structure SwiEntry where
  code : Nat
  who : Nat
  frc : Nat
  pc : Nat
deriving DecidableEq, Repr


/-- A voice word that Quince has accepted and the voice manager has not yet taken (R181, R188, R189): its source, the
block in which it is to be handled, whether it is READY and whether it is late, and the block in which a NOTE_ON was
deferred for want of idle slots. -/
structure VWord where
  word : Nat
  src : Nat
  blk : Nat
  ready : Bool
  late : Bool
  wait : Option Nat
deriving DecidableEq, Repr

/-- An event attached to the render pip of a slot for a block (R183). -/
structure Attach where
  slot : Nat
  blk : Nat
  word : Nat
deriving DecidableEq, Repr

/-- The voice manager and phasor bank beyond their registers: words waiting, the READY ones first, in ready order, and the
others in arrival order; the attach store; and held phasor commands in arrival order (R181, R183, R200). -/
structure Voice where
  words : List VWord
  attach : List Attach
  phasor : List Nat
deriving DecidableEq, Repr

/-- One piece of a parameter's curve (R230): start sample, start value, target, length, shape, and whether the voice
manager asked for it. -/
structure Seg where
  n : Nat
  v0 : Int
  v1 : Int
  len : Nat
  shape : Nat
  vm : Bool
deriving DecidableEq, Repr

/-- A parameter's curve (R228): the value before its first piece, and its pieces by rising start. -/
structure Curve where
  base : Int
  segs : List Seg
deriving DecidableEq, Repr

/-- An accepted parameter command held for its block (R232, R234). -/
structure PCmd where
  prm : Nat
  n : Nat
  v1 : Int
  len : Nat
  shape : Nat
  src : Nat
deriving DecidableEq, Repr

/-- The recall in progress (R238): whether S was named, S, the scene, the list's entries once checked, the ramps
reserved and whether a swap is armed for it. -/
structure Recall where
  now : Bool
  start : Nat
  scene : Nat
  src : Nat
  entries : List (Nat × Nat)
  reserved : Nat
  swap : Bool
deriving DecidableEq, Repr

/-- The scene engine beyond its registers. -/
structure Scene where
  curves : List (Nat × Curve)
  cmds : List PCmd
  waiting : List (Nat × Nat)
  rcl : Option Recall
deriving DecidableEq, Repr

/-- A received character with its flags and the FRC of its start edge (R320, R332). -/
structure RxChar where
  data : Nat
  perr : Bool
  ferr : Bool
  noise : Bool
  edge : Nat
deriving DecidableEq, Repr

/-- A UART's FIFOs and its MIDI parser (R320, R331): running status, the message being gathered with its first edge,
RS and NOISE marks, and the SysEx bytes gathered with whether they hold the 0xF0. -/
structure Uart where
  rx : List RxChar
  tx : List Nat
  run : Option Nat
  msg : List Nat
  edge : Nat
  rs : Bool
  noisy : Bool
  sysex : Option (List Nat)
  sysStart : Bool
deriving DecidableEq, Repr

/-- One source that a Bramble destination reads (R222, R223): the endpoint, its frozen weight as an outgoing side, its
mute gain in sixteenths, its last good sample, and whether it is absent or muted by an overrun. -/
structure Contrib where
  src : Nat
  w : Int
  g : Nat
  held : Int
  absent : Bool
  ovm : Bool
deriving DecidableEq, Repr

/-- A crossfade: its first sample S, shape and length (R221). -/
structure Fade where
  start : Nat
  shape : Nat
  len : Nat
deriving DecidableEq, Repr

/-- A destination's running state: its contributions, oldest first and the current one last; its crossfade; the change
of a swap that its stream has not reached, as S and the new entry; the next sample it handles; and the last samples it
received, of a block and two more (R219 to R223, R273). -/
structure Route where
  cs : List Contrib
  fade : Option Fade
  change : Option (Nat × Nat)
  pos : Nat
  y : List Int
deriving DecidableEq, Repr

/-- A mirrored item waiting for its release tick (R382), by the FRC of that tick. -/
structure MItem where
  tick : Nat
  item : MirrorItem
  seq : Nat
  acked : Bool
deriving DecidableEq, Repr

/-- A frame sent on the twin link and kept for resending (R384, R385). -/
structure TxFrame where
  seq : Nat
  kind : Nat
  tick : Nat
  item : Option MirrorItem
  words : List Nat
  tries : Nat
  acked : Bool
  /-- PCLK count when it was last sent. -/
  sent : Nat
deriving DecidableEq, Repr

/-- The twin link beyond its registers (R377 to R395): items held, frames sent, frames held for credit, the blocks'
output CRCs, the samples received for twin sources, and the pages that a copy pass has still to send. -/
structure Twin where
  items : List MItem
  tx : List TxFrame
  waiting : List MItem
  crcs : List (Nat × Nat)
  audio : List (Nat × Nat × List Nat)
  pages : List Nat
deriving DecidableEq, Repr

/-- The service link and Rind's recovery link (R447 to R469): the balls driven, and the lines sent since the last
command began, replies and notices. -/
structure Service where
  drives : List (Ball × DriveLevel)
  out : List String
deriving DecidableEq, Repr

/-- What a PCIe transaction does. -/
inductive PKind where
  | regWrite | regRead | orcWrite | orcRead | dramWrite | dramRead
deriving DecidableEq, Repr

/-- A PCIe transaction that waits behind a held posted write (R369): its address or offset, its data word, and its bytes
with their enables. -/
structure PReq where
  kind : PKind
  addr : Nat
  w : Nat
  bytes : List (Option Byte)
deriving DecidableEq, Repr

/-- The host ports beyond their registers: PCIe transactions waiting (R369), the read the SPI port holds as address,
length and words (R373), and what the last window or SPI transaction returned. -/
structure HostPort where
  pcieq : List PReq
  spiHeld : Option (Nat × Nat × List Nat)
  out : List Byte
deriving DecidableEq, Repr

/-- An image slot of the boot flash (R424): STATE, COMMITNO, the manifest and the installed parts in its order. -/
structure ImgSlot where
  state : Nat
  commitno : Nat
  manifest : List Byte
  parts : List (List Byte)
deriving DecidableEq, Repr

/-- The boot flash (R423): its density in MiB, its two image slots and its two settings copies, header first. -/
structure Flash where
  mib : Nat
  slotA : ImgSlot
  slotB : ImgSlot
  copy0 : List Byte
  copy1 : List Byte
deriving DecidableEq, Repr

/-- A chain frame sent (R444): its type, its HOP, whether it goes upward, and its payload. -/
structure ChainFrame where
  type : Nat
  hop : Nat
  up : Bool
  bytes : List Byte
deriving DecidableEq, Repr

/-- Graft beyond its registers (R436 to R446): the piece being consumed, the package so far, the parts expanded so far,
the chain frames sent in the session, and the hops that have answered the step in hand. -/
structure Graft where
  piece : List Byte
  pkg : List Byte
  parts : List (List Byte)
  sent : List ChainFrame
  hops : List Nat
deriving DecidableEq, Repr

/-- The whole machine. -/
structure State where
  /-- Every register field of the spec and every kept number of a unit. -/
  regs : Regs
  /-- The frame counter FRC, 64 bits (R62). -/
  frc : Nat
  /-- FRC before the last advance: the samples in (frcPrev, frc] have just passed. -/
  frcPrev : Nat
  /-- CCLK cycles since the last tick, 0 at the tick (R20, R140). -/
  cclk : Nat
  /-- TCLK periods since the clock started (R44): the time base of timers and meters. -/
  tclk : Nat
  /-- The model's own count of free values taken. -/
  free : Nat
  /-- Words staged per (register address, master) (R505). -/
  staged : Regs
  /-- The read latches (R503). -/
  latches : List Latch
  /-- Unit events raised and not yet delivered, with the FRC at which each was raised (R29). -/
  toDeliver : List (Nat × Nat)
  /-- The steward's event queue (R150). -/
  stewardQ : List (Nat × Nat)
  /-- The SWI queue (R139). -/
  swiq : List SwiEntry
  /-- The cores, 0–63 logical, 64 the steward; an unlisted core is at reset. -/
  cores : List (Nat × Core)
  /-- Orchard's bytes, by offset from 0x1000_0000 (R248). -/
  orchard : Mem
  /-- External memory's bytes (R265). -/
  dram : Mem
  /-- The lanes of Orchard in which a read finds an error (R260). -/
  orcFlaws : List Flaw
  /-- The 8-byte words of external memory in which a read finds an error (R266). -/
  dramFlaws : List Flaw
  /-- Pages written since their copy was sent to the twin partner, by their keys (R388). -/
  dirty : List Nat
  /-- Quince. -/
  qn : Quince
  /-- Faults charged within the window: unit, physical number, TCLK (R409). -/
  faults : List (Nat × Nat × Nat)
  /-- The voice manager and phasor bank. -/
  vm : Voice
  /-- The parameter and scene engine. -/
  scn : Scene
  /-- The UARTs. -/
  uarts : List (Nat × Uart)
  /-- The destinations that receive or have received a source (R214, R216). -/
  routes : List (Nat × Route)
  /-- What the external sources have brought in over the last two blocks: by stream FRC, each source and its sample
  (R208). -/
  hold : List (Nat × List (Nat × Int))
  /-- The twin link. -/
  twin : Twin
  /-- The service link. -/
  svc : Service
  /-- The host ports. -/
  host : HostPort
  /-- The boot flash, which no reset changes. -/
  flash : Flash
  /-- Graft. -/
  graft : Graft
  /-- The cells that the boundary register holds (R499). -/
  jtag : List (Nat × Bool)
  /-- The commands that wait, first in, first out. -/
  pending : List Instr
deriving DecidableEq, Repr

/-- No command of this model ends in a fault: the spec answers every access with a defined effect, and an access to
an address it says does not exist has a defined result (R11, R100, R366, R372). Nobody raises one. -/
inductive Fault where
deriving DecidableEq, Repr

/-- Why a command is refused. -/
inductive Refusal where
  /-- Raised by `exec` for a command that has no meaning yet, named by its mnemonic. Safe: the machine stops. -/
  | notModelled (mnemonic : String)
deriving DecidableEq, Repr

/-- A bank after reset. -/
def Bank.reset : Bank :=
  { r := [], pend := [], ovl := [], n := 0, lv := 0, pc := 0, slots := 0, target := none, closes := false,
    run := none, events := [], head := 0, load := none }

/-- A core after reset: IDLE in the primary bank, every register 0. -/
def Core.reset : Core :=
  { p := Bank.reset, s := Bank.reset, shadow := false, next := none, frames := [], imem := [], dmem := [],
    flaws := [], dma := [], stores := [], storesDone := 0, halted := false, swiStop := false, frozen := false, vskip := false,
    vchan := none, stall := false, heldPost := false, gated := false, lastPc := 0, lastBank := false }

/-- The steward begins to run at an address, its private SRAM cleared. Reset enters Rind at its base (R148, R477).
DESIGN CHOICE: log entry 82. -/
def Core.steward (pc : Nat) : Core := { Core.reset with p := { Bank.reset with pc := pc } }

/-- A frame after reset: empty. -/
def Frame.reset : Frame := { valid := false, loading := false, image := 0, stale := false, used := 0 }

/-- A UART with empty FIFOs and an idle parser. -/
def Uart.reset : Uart :=
  { rx := [], tx := [], run := none, msg := [], edge := 0, rs := false, noisy := false, sysex := none, sysStart := false }

/-- A destination that receives zero. -/
def Route.reset : Route := { cs := [], fade := none, change := none, pos := 0, y := [] }

/-- An erased image slot (R424). -/
def ImgSlot.empty : ImgSlot := { state := 0xFFFFFFFF, commitno := 0xFFFFFFFF, manifest := [], parts := [] }

/-- An erased boot flash of 64 MiB. DESIGN CHOICE: log entry 83. -/
def Flash.blank : Flash := { mib := 64, slotA := ImgSlot.empty, slotB := ImgSlot.empty, copy0 := [], copy1 := [] }

/-- Graft with nothing staged. -/
def Graft.reset : Graft := { piece := [], pkg := [], parts := [], sent := [], hops := [] }

/-- The machine right after a cold reset: every register field at its reset value, nothing listed in any memory or
queue, FRC 0. DESIGN CHOICE: log entry 2. DESIGN CHOICE: log entry 127. DESIGN CHOICE: log entry 140. -/
def State.reset : State :=
  { regs := [], frc := 0, frcPrev := 0, cclk := 0, tclk := 0, free := 0, staged := [], latches := [],
    toDeliver := [], stewardQ := [], swiq := [], cores := [(64, Core.steward 0x08000000)], orchard := [], dram := [],
    orcFlaws := [], dramFlaws := [], dirty := [],
    qn := { queue := [], held := [], cur := [], withdrawn := [] },
    faults := [],
    vm := { words := [], attach := [], phasor := [] },
    scn := { curves := [], cmds := [], waiting := [], rcl := none },
    uarts := [],
    routes := [], hold := [],
    twin := { items := [], tx := [], waiting := [], crcs := [], audio := [], pages := [] },
    svc := { drives := [], out := [] },
    host := { pcieq := [], spiHeld := none, out := [] },
    flash := Flash.blank,
    graft := Graft.reset,
    jtag := [],
    pending := [] }

end Sys2Proof.Machine
end

