-- ==== Sys2Proof/Machine/Registers.lean ====
section
/-! DEFINITION. The register map of the KX7 (R9, R24), field by field: `F.<register>_<field>` names one field of one
register by its key, width and reset value, `I.<name>` a number that a unit keeps and no register shows, and `regTable`
lists the readable layout with every field's access type (R10). -/

namespace Sys2Proof.Machine

/-- The access types of R10. -/
inductive Access where
  | rw | ro | wo | w1c | w1s | rc
deriving DecidableEq, Repr

/-- A field's reset value as a function of the register's index. -/
inductive Rst where
  | c (v : Nat) | first | ix | monHi | monLo
deriving DecidableEq, Repr

/-- The reset lower bounds of the monitor windows (R354). -/
def monLoRst : List Nat := [1238, 1485, 713, 760, 1710, 1710, 3135, 3135, 998, 475, 855, 1140]
/-- The reset upper bounds of the monitor windows (R354). -/
def monHiRst : List Nat := [1262, 1515, 788, 840, 1890, 1890, 3465, 3465, 1103, 525, 945, 1260]

/-- The reset value at index `n`. -/
def Rst.at : Rst → Nat → Nat
  | .c v, _ => v
  | .first, n => if n = 0 then 1 else 0
  | .ix, n => n
  | .monHi, n => monHiRst.getD n 0
  | .monLo, n => monLoRst.getD n 0

/-- One field of a row of the register map. -/
structure RegField where
  lo : Nat
  width : Nat
  acc : Access
  rst : Rst
deriving DecidableEq, Repr

/-- One row of the register map: base, outer stride and count, inner stride and count, and fields. -/
structure RegRow where
  base : Nat
  stride1 : Nat
  count1 : Nat
  stride2 : Nat
  count2 : Nat
  fields : List RegField
deriving DecidableEq, Repr

/-- `SYS_ID` at 0x000000 (spec/00_scope.md). -/
def F.SYS_ID_ID : Fld := ⟨0, 0, 32, 1264060160⟩
/-- `SYS_ENGINE` at 0x000010 (spec/01_architecture.md). -/
def F.SYS_ENGINE_STATUS : Fld := ⟨536, 0, 8, 0⟩
def F.SYS_ENGINE_OVR : Fld := ⟨520, 0, 1, 0⟩
def F.SYS_ENGINE_AT : Fld := ⟨517, 0, 1, 0⟩
def F.SYS_ENGINE_RUN : Fld := ⟨516, 0, 1, 0⟩
def F.SYS_ENGINE_STATE : Fld := ⟨512, 0, 2, 0⟩
/-- `SYS_ENGINE_FRC_LO` at 0x000014 (spec/01_architecture.md). -/
def F.SYS_ENGINE_FRC_LO_F : Fld := ⟨640, 0, 32, 0⟩
/-- `SYS_ENGINE_FRC_HI` at 0x000018 (spec/01_architecture.md). -/
def F.SYS_ENGINE_FRC_HI_F : Fld := ⟨768, 0, 32, 0⟩
/-- `SYS_RATE` at 0x000020 (spec/01_architecture.md). -/
def F.SYS_RATE_STATUS : Fld := ⟨1048, 0, 8, 0⟩
def F.SYS_RATE_BLOCK : Fld := ⟨1028, 0, 2, 1⟩
def F.SYS_RATE_MULT : Fld := ⟨1026, 0, 2, 1⟩
def F.SYS_RATE_FAMILY : Fld := ⟨1024, 0, 1, 0⟩
/-- `SYS_EVT` at 0x000024 (spec/01_architecture.md). -/
def F.SYS_EVT_CONFLICT : Fld := ⟨1154, 0, 1, 0⟩
def F.SYS_EVT_STATE : Fld := ⟨1152, 0, 1, 0⟩
/-- `SYS_SHOW` at 0x000030 (spec/20_update_and_settings.md). -/
def F.SYS_SHOW_SHOW : Fld := ⟨1536, 0, 1, 0⟩
/-- `SYS_UNFREEZE` at 0x000034 (spec/19_faults_and_spares.md). -/
def F.SYS_UNFREEZE_STATUS : Fld := ⟨1688, 0, 8, 0⟩
def F.SYS_UNFREEZE_ACTION : Fld := ⟨1672, 0, 2, 0⟩
def F.SYS_UNFREEZE_MASTER : Fld := ⟨1664, 0, 8, 0⟩
/-- `SYS_CLAIMSTAT` at 0x000040 (spec/01_architecture.md). -/
def F.SYS_CLAIMSTAT_CLAIM_OWNER : Fld := ⟨2064, 0, 16, 0⟩
def F.SYS_CLAIMSTAT_SLOT : Fld := ⟨2048, 0, 11, 0⟩
/-- `SYS_CLAIMREQ` at 0x000044 (spec/01_architecture.md). -/
def F.SYS_CLAIMREQ_REQUESTER : Fld := ⟨2192, 0, 16, 0⟩
def F.SYS_CLAIMREQ_STATUS : Fld := ⟨2176, 0, 8, 0⟩
/-- `SYS_PWR` at 0x000060 (spec/22_power_reset_boot.md). -/
def F.SYS_PWR_STATUS : Fld := ⟨3096, 0, 8, 0⟩
def F.SYS_PWR_REQ : Fld := ⟨3088, 0, 1, 0⟩
def F.SYS_PWR_WK_TIMER : Fld := ⟨3083, 0, 1, 0⟩
def F.SYS_PWR_WK_PCIE : Fld := ⟨3082, 0, 1, 0⟩
def F.SYS_PWR_WK_SPI : Fld := ⟨3081, 0, 1, 0⟩
def F.SYS_PWR_WK_UART : Fld := ⟨3080, 0, 1, 0⟩
def F.SYS_PWR_PEW : Fld := ⟨3079, 0, 1, 0⟩
def F.SYS_PWR_WTIMER : Fld := ⟨3078, 0, 1, 0⟩
def F.SYS_PWR_WPCIE : Fld := ⟨3077, 0, 1, 0⟩
def F.SYS_PWR_WSPI : Fld := ⟨3076, 0, 1, 0⟩
def F.SYS_PWR_STATE : Fld := ⟨3072, 0, 2, 1⟩
/-- `SYS_RST` at 0x000064 (spec/22_power_reset_boot.md). -/
def F.SYS_RST_WARM : Fld := ⟨3231, 0, 1, 0⟩
def F.SYS_RST_RSTOUT : Fld := ⟨3200, 0, 1, 0⟩
/-- `SYS_RSTCAUSE` at 0x000068 (spec/22_power_reset_boot.md). -/
def F.SYS_RSTCAUSE_BOOT : Fld := ⟨3338, 0, 2, 0⟩
def F.SYS_RSTCAUSE_BADSTRAP : Fld := ⟨3337, 0, 1, 0⟩
def F.SYS_RSTCAUSE_SAFE : Fld := ⟨3336, 0, 1, 0⟩
def F.SYS_RSTCAUSE_WARM : Fld := ⟨3333, 0, 1, 0⟩
def F.SYS_RSTCAUSE_FALLBACK : Fld := ⟨3332, 0, 1, 0⟩
def F.SYS_RSTCAUSE_ACTIVATE : Fld := ⟨3331, 0, 1, 0⟩
def F.SYS_RSTCAUSE_SRST : Fld := ⟨3330, 0, 1, 0⟩
def F.SYS_RSTCAUSE_SUPPLY : Fld := ⟨3329, 0, 1, 0⟩
def F.SYS_RSTCAUSE_COLD : Fld := ⟨3328, 0, 1, 0⟩
/-- `SYS_WAKET` at 0x00006C (spec/22_power_reset_boot.md). -/
def F.SYS_WAKET_T : Fld := ⟨3456, 0, 16, 0⟩
/-- `SYS_EVROUTE` at 0x000400 (spec/01_architecture.md). -/
def F.SYS_EVROUTE_KIND (n : Nat) : Fld := ⟨32798, n, 2, 3⟩
def F.SYS_EVROUTE_LEVEL (n : Nat) : Fld := ⟨32792, n, 4, 0⟩
def F.SYS_EVROUTE_VECTOR (n : Nat) : Fld := ⟨32784, n, 6, 0⟩
def F.SYS_EVROUTE_PIP (n : Nat) : Fld := ⟨32768, n, 14, 0⟩
/-- `SYS_CLAIM` at 0x002000 (spec/01_architecture.md). -/
def F.SYS_CLAIM_OWNER (n : Nat) : Fld := ⟨262160, n, 16, 0⟩
def F.SYS_CLAIM_DROP (n : Nat) : Fld := ⟨262145, n, 1, 0⟩
def F.SYS_CLAIM_TAKE (n : Nat) : Fld := ⟨262144, n, 1, 0⟩
/-- `CLK_CTRL` at 0x010000 (spec/02_clocks_and_timeline.md). -/
def F.CLK_CTRL_REACQ : Fld := ⟨2097183, 0, 1, 0⟩
def F.CLK_CTRL_REVERT : Fld := ⟨2097182, 0, 1, 1⟩
def F.CLK_CTRL_BW : Fld := ⟨2097176, 0, 2, 1⟩
def F.CLK_CTRL_REVERT_T : Fld := ⟨2097168, 0, 8, 10⟩
def F.CLK_CTRL_HOLDOVER_MAX : Fld := ⟨2097152, 0, 10, 100⟩
/-- `CLK_STAT` at 0x010004 (spec/02_clocks_and_timeline.md). -/
def F.CLK_STAT_STATUS : Fld := ⟨2097304, 0, 8, 0⟩
def F.CLK_STAT_ACTIVE : Fld := ⟨2097296, 0, 3, 7⟩
def F.CLK_STAT_MODE : Fld := ⟨2097288, 0, 3, 0⟩
/-- `CLK_PPM` at 0x010008 (spec/02_clocks_and_timeline.md). -/
def F.CLK_PPM_PPM : Fld := ⟨2097408, 0, 32, 0⟩
/-- `CLK_EVT` at 0x01000C (spec/02_clocks_and_timeline.md). -/
def F.CLK_EVT_EVT : Fld := ⟨2097536, 0, 7, 0⟩
/-- `CLK_GLITCH` at 0x010010 (spec/02_clocks_and_timeline.md). -/
def F.CLK_GLITCH_N : Fld := ⟨2097664, 0, 16, 0⟩
/-- `CLK_FRC_SET_LO` at 0x010028 (spec/02_clocks_and_timeline.md). -/
def F.CLK_FRC_SET_LO_V : Fld := ⟨2098432, 0, 32, 0⟩
/-- `CLK_FRC_SET_HI` at 0x01002C (spec/02_clocks_and_timeline.md). -/
def F.CLK_FRC_SET_HI_V : Fld := ⟨2098560, 0, 32, 0⟩
/-- `CLK_FRC_LOAD` at 0x010030 (spec/02_clocks_and_timeline.md). -/
def F.CLK_FRC_LOAD_GO : Fld := ⟨2098688, 0, 1, 0⟩
/-- `CLK_REFPRI` at 0x010040 (spec/02_clocks_and_timeline.md). -/
def F.CLK_REFPRI_EN (n : Nat) : Fld := ⟨2099231, n, 1, (if n = 0 then 1 else 0)⟩
def F.CLK_REFPRI_KIND (n : Nat) : Fld := ⟨2099224, n, 3, 0⟩
def F.CLK_REFPRI_INST (n : Nat) : Fld := ⟨2099216, n, 5, 0⟩
def F.CLK_REFPRI_NOM (n : Nat) : Fld := ⟨2099208, n, 3, 0⟩
def F.CLK_REFPRI_REJ (n : Nat) : Fld := ⟨2099201, n, 1, 0⟩
def F.CLK_REFPRI_QUAL (n : Nat) : Fld := ⟨2099200, n, 1, 0⟩
/-- `CLK_MCLKO` at 0x010060 (spec/02_clocks_and_timeline.md). -/
def F.CLK_MCLKO_DIV (n : Nat) : Fld := ⟨2100232, n, 4, 7⟩
def F.CLK_MCLKO_EN (n : Nat) : Fld := ⟨2100228, n, 1, 0⟩
def F.CLK_MCLKO_STATE (n : Nat) : Fld := ⟨2100224, n, 2, 0⟩
/-- `CLK_SYNCOUT` at 0x010080 (spec/02_clocks_and_timeline.md). -/
def F.CLK_SYNCOUT_SRC : Fld := ⟨2101256, 0, 2, 0⟩
def F.CLK_SYNCOUT_EN : Fld := ⟨2101252, 0, 1, 0⟩
def F.CLK_SYNCOUT_STATE : Fld := ⟨2101248, 0, 2, 0⟩
/-- `PRT_CTRL` at 0x020000 (spec/19_faults_and_spares.md). -/
def F.PRT_CTRL_STWRST : Fld := ⟨4194304, 0, 1, 1⟩
/-- `PRT_VCNT` at 0x020004 (spec/19_faults_and_spares.md). -/
def F.PRT_VCNT_N : Fld := ⟨4194432, 0, 16, 0⟩
/-- `PRT_FROZEN` at 0x020010 (spec/19_faults_and_spares.md). -/
def F.PRT_FROZEN_M (n : Nat) : Fld := ⟨4194816, n, 32, 0⟩
/-- `PRT_EVT` at 0x020020 (spec/19_faults_and_spares.md). -/
def F.PRT_EVT_EVT : Fld := ⟨4195328, 0, 6, 0⟩
/-- `PRT_VLOG` at 0x020100 (spec/19_faults_and_spares.md). -/
def F.PRT_VLOG_W (n k : Nat) : Fld := ⟨4202496, n * 4 + k, 32, 0⟩
/-- `ORC_OWN` at 0x028000 (spec/11_memory.md). -/
def F.ORC_OWN_PENDING (n : Nat) : Fld := ⟨5242911, n, 1, 0⟩
def F.ORC_OWN_PREV (n : Nat) : Fld := ⟨5242888, n, 8, 0⟩
def F.ORC_OWN_OWNER (n : Nat) : Fld := ⟨5242880, n, 8, 80⟩
/-- `ORC_STAT` at 0x028100 (spec/11_memory.md). -/
def F.ORC_STAT_STATUS : Fld := ⟨5251096, 0, 8, 0⟩
def F.ORC_STAT_FREE : Fld := ⟨5251072, 0, 3, 4⟩
/-- `ORC_GRP_LO` at 0x028200 (spec/11_memory.md). -/
def F.ORC_GRP_LO_M (n : Nat) : Fld := ⟨5259264, n, 32, 0⟩
/-- `ORC_GRP_HI` at 0x028204 (spec/11_memory.md). -/
def F.ORC_GRP_HI_M (n : Nat) : Fld := ⟨5259392, n, 32, 0⟩
/-- `ORC_GRP_X` at 0x028208 (spec/11_memory.md). -/
def F.ORC_GRP_X_TWIN (n : Nat) : Fld := ⟨5259531, n, 1, 0⟩
def F.ORC_GRP_X_SPI (n : Nat) : Fld := ⟨5259529, n, 1, 0⟩
def F.ORC_GRP_X_PCIE (n : Nat) : Fld := ⟨5259528, n, 1, 0⟩
def F.ORC_GRP_X_GRAFT (n : Nat) : Fld := ⟨5259526, n, 1, 0⟩
def F.ORC_GRP_X_BRM (n : Nat) : Fld := ⟨5259524, n, 1, 0⟩
def F.ORC_GRP_X_SCN (n : Nat) : Fld := ⟨5259523, n, 1, 0⟩
def F.ORC_GRP_X_VM (n : Nat) : Fld := ⟨5259522, n, 1, 0⟩
def F.ORC_GRP_X_STW (n : Nat) : Fld := ⟨5259520, n, 1, 0⟩
/-- `ORC_MAP` at 0x028400 (spec/11_memory.md). -/
def F.ORC_MAP_LOAN (n : Nat) : Fld := ⟨5275678, n, 2, 0⟩
def F.ORC_MAP_SPARE (n : Nat) : Fld := ⟨5275664, n, 7, 0⟩
def F.ORC_MAP_PHYS (n : Nat) : Fld := ⟨5275648, n, 7, n⟩
/-- `ORC_ECCCNT` at 0x028600 (spec/11_memory.md). -/
def F.ORC_ECCCNT_UNCORR : Fld := ⟨5292048, 0, 16, 0⟩
def F.ORC_ECCCNT_CORR : Fld := ⟨5292032, 0, 16, 0⟩
/-- `ORC_ECCLOG` at 0x028604 (spec/11_memory.md). -/
def F.ORC_ECCLOG_V : Fld := ⟨5292191, 0, 1, 0⟩
def F.ORC_ECCLOG_PHYS : Fld := ⟨5292184, 0, 7, 0⟩
def F.ORC_ECCLOG_LANES : Fld := ⟨5292180, 0, 4, 0⟩
def F.ORC_ECCLOG_WORD : Fld := ⟨5292160, 0, 16, 0⟩
/-- `MDL_CTRL` at 0x030000 (spec/19_faults_and_spares.md). -/
def F.MDL_CTRL_BT : Fld := ⟨6291487, 0, 1, 1⟩
def F.MDL_CTRL_CT : Fld := ⟨6291486, 0, 1, 1⟩
def F.MDL_CTRL_CRITSTOP : Fld := ⟨6291485, 0, 1, 0⟩
def F.MDL_CTRL_INTV : Fld := ⟨6291456, 0, 8, 10⟩
/-- `MDL_CLASS` at 0x030004 (spec/19_faults_and_spares.md). -/
def F.MDL_CLASS_WINDOW : Fld := ⟨6291592, 0, 8, 10⟩
def F.MDL_CLASS_COUNT : Fld := ⟨6291584, 0, 4, 8⟩
/-- `MDL_AGE` at 0x030008 (spec/19_faults_and_spares.md). -/
def F.MDL_AGE_PERIOD : Fld := ⟨6291728, 0, 8, 60⟩
def F.MDL_AGE_THR : Fld := ⟨6291712, 0, 16, 500⟩
/-- `MDL_SPARES` at 0x03000C (spec/19_faults_and_spares.md). -/
def F.MDL_SPARES_ASRC : Fld := ⟨6291856, 0, 6, 32⟩
def F.MDL_SPARES_BANKS : Fld := ⟨6291848, 0, 3, 4⟩
def F.MDL_SPARES_CORES : Fld := ⟨6291840, 0, 4, 8⟩
/-- `MDL_COVER` at 0x030010 (spec/19_faults_and_spares.md). -/
def F.MDL_COVER_CSUSP : Fld := ⟨6291999, 0, 1, 0⟩
def F.MDL_COVER_BSUSP : Fld := ⟨6291998, 0, 1, 0⟩
def F.MDL_COVER_TSUSP : Fld := ⟨6291997, 0, 1, 0⟩
def F.MDL_COVER_BTESTED : Fld := ⟨6291976, 0, 8, 0⟩
def F.MDL_COVER_CTESTED : Fld := ⟨6291968, 0, 8, 0⟩
/-- `MDL_EVT` at 0x030020 (spec/19_faults_and_spares.md). -/
def F.MDL_EVT_EVT : Fld := ⟨6292480, 0, 7, 0⟩
/-- `MDL_LOGHEAD` at 0x030024 (spec/19_faults_and_spares.md). -/
def F.MDL_LOGHEAD_WRAP : Fld := ⟨6292639, 0, 1, 0⟩
def F.MDL_LOGHEAD_NEXT : Fld := ⟨6292608, 0, 8, 0⟩
/-- `MDL_MAP` at 0x030100 (spec/19_faults_and_spares.md). -/
def F.MDL_MAP_PHASE (n : Nat) : Fld := ⟨6299678, n, 2, 0⟩
def F.MDL_MAP_SPARE (n : Nat) : Fld := ⟨6299664, n, 7, 0⟩
def F.MDL_MAP_PHYS (n : Nat) : Fld := ⟨6299648, n, 7, n⟩
/-- `MDL_AGEV` at 0x030400 (spec/19_faults_and_spares.md). -/
def F.MDL_AGEV_SLOW (n : Nat) : Fld := ⟨6324224, n, 16, 0⟩
/-- `MDL_LOG` at 0x031000 (spec/19_faults_and_spares.md). -/
def F.MDL_LOG_W (n k : Nat) : Fld := ⟨6422528, n * 4 + k, 32, 0⟩
/-- `CFG_SESS` at 0x040000 (spec/20_update_and_settings.md). -/
def F.CFG_SESS_STATUS : Fld := ⟨8388632, 0, 8, 0⟩
def F.CFG_SESS_REASON : Fld := ⟨8388624, 0, 8, 0⟩
def F.CFG_SESS_HOLDER : Fld := ⟨8388616, 0, 8, 0⟩
def F.CFG_SESS_CLOSE : Fld := ⟨8388613, 0, 1, 0⟩
def F.CFG_SESS_OPEN : Fld := ⟨8388612, 0, 1, 0⟩
def F.CFG_SESS_SRC : Fld := ⟨8388608, 0, 3, 0⟩
/-- `CFG_XFER_ADDR` at 0x040004 (spec/20_update_and_settings.md). -/
def F.CFG_XFER_ADDR_ADDR : Fld := ⟨8388736, 0, 32, 0⟩
/-- `CFG_XFER` at 0x040008 (spec/20_update_and_settings.md). -/
def F.CFG_XFER_GO : Fld := ⟨8388895, 0, 1, 0⟩
def F.CFG_XFER_LEN : Fld := ⟨8388864, 0, 16, 0⟩
/-- `CFG_STAGE` at 0x04000C (spec/20_update_and_settings.md). -/
def F.CFG_STAGE_REASON : Fld := ⟨8389016, 0, 8, 0⟩
def F.CFG_STAGE_PSTATE : Fld := ⟨8389008, 0, 3, 0⟩
def F.CFG_STAGE_PART : Fld := ⟨8389000, 0, 4, 0⟩
def F.CFG_STAGE_BUSY : Fld := ⟨8388996, 0, 1, 0⟩
def F.CFG_STAGE_STATE : Fld := ⟨8388992, 0, 3, 0⟩
/-- `CFG_ACT` at 0x040010 (spec/20_update_and_settings.md). -/
def F.CFG_ACT_REASON : Fld := ⟨8389144, 0, 8, 0⟩
def F.CFG_ACT_DISARM : Fld := ⟨8389125, 0, 1, 0⟩
def F.CFG_ACT_ARM : Fld := ⟨8389124, 0, 1, 0⟩
def F.CFG_ACT_STATE : Fld := ⟨8389120, 0, 1, 0⟩
/-- `CFG_ACT_FRC_LO` at 0x040014 (spec/20_update_and_settings.md). -/
def F.CFG_ACT_FRC_LO_F : Fld := ⟨8389248, 0, 32, 0⟩
/-- `CFG_ACT_FRC_HI` at 0x040018 (spec/20_update_and_settings.md). -/
def F.CFG_ACT_FRC_HI_F : Fld := ⟨8389376, 0, 32, 0⟩
/-- `CFG_TRIAL` at 0x04001C (spec/20_update_and_settings.md). -/
def F.CFG_TRIAL_COMMIT : Fld := ⟨8389535, 0, 1, 0⟩
def F.CFG_TRIAL_FAIL : Fld := ⟨8389534, 0, 1, 0⟩
def F.CFG_TRIAL_HEALTHY : Fld := ⟨8389533, 0, 1, 0⟩
def F.CFG_TRIAL_ACTIVE : Fld := ⟨8389532, 0, 1, 0⟩
def F.CFG_TRIAL_REMAIN : Fld := ⟨8389504, 0, 10, 0⟩
/-- `CFG_EVT` at 0x040020 (spec/20_update_and_settings.md). -/
def F.CFG_EVT_EVT : Fld := ⟨8389632, 0, 8, 0⟩
/-- `CFG_XFER_OFF` at 0x040024 (spec/20_update_and_settings.md). -/
def F.CFG_XFER_OFF_N : Fld := ⟨8389760, 0, 32, 0⟩
/-- `CFG_UNLOCK` at 0x040050 (spec/20_update_and_settings.md). -/
def F.CFG_UNLOCK_CODE : Fld := ⟨8391168, 0, 32, 0⟩
/-- `CFG_OPT` at 0x040054 (spec/20_update_and_settings.md). -/
def F.CFG_OPT_DOWNGRADE : Fld := ⟨8391296, 0, 1, 0⟩
/-- `CFG_CHAIN` at 0x040060 (spec/20_update_and_settings.md). -/
def F.CFG_CHAIN_LAST : Fld := ⟨8391711, 0, 1, 0⟩
def F.CFG_CHAIN_EN : Fld := ⟨8391710, 0, 1, 0⟩
def F.CFG_CHAIN_BAUD : Fld := ⟨8391680, 0, 22, 0⟩
/-- `QN_CTRL` at 0x050000 (spec/06_quince_scheduler.md). -/
def F.QN_CTRL_URGRES : Fld := ⟨10485776, 0, 11, 64⟩
def F.QN_CTRL_HOLDEV : Fld := ⟨10485760, 0, 1, 0⟩
/-- `QN_STAT` at 0x050004 (spec/06_quince_scheduler.md). -/
def F.QN_STAT_STATUS : Fld := ⟨10485912, 0, 8, 0⟩
def F.QN_STAT_CLAMP : Fld := ⟨10485896, 0, 1, 0⟩
/-- `QN_DEADLINE` at 0x050008 (spec/06_quince_scheduler.md). -/
def F.QN_DEADLINE_V : Fld := ⟨10486016, 0, 32, 126976⟩
/-- `QN_EVW` at 0x05000C (spec/06_quince_scheduler.md). -/
def F.QN_EVW_W : Fld := ⟨10486144, 0, 8, 16⟩
/-- `QN_EVQ` at 0x050010 (spec/06_quince_scheduler.md). -/
def F.QN_EVQ_HWM : Fld := ⟨10486288, 0, 13, 3840⟩
def F.QN_EVQ_USED : Fld := ⟨10486272, 0, 13, 0⟩
/-- `QN_MAXQ` at 0x050014 (spec/06_quince_scheduler.md). -/
def F.QN_MAXQ_N : Fld := ⟨10486400, 0, 13, 0⟩
/-- `QN_LATE` at 0x050018 (spec/06_quince_scheduler.md). -/
def F.QN_LATE_N : Fld := ⟨10486528, 0, 32, 0⟩
/-- `QN_OVRCNT` at 0x05001C (spec/06_quince_scheduler.md). -/
def F.QN_OVRCNT_N : Fld := ⟨10486656, 0, 32, 0⟩
/-- `QN_EVT` at 0x050020 (spec/06_quince_scheduler.md). -/
def F.QN_EVT_EVT : Fld := ⟨10486784, 0, 6, 0⟩
/-- `QN_REFUSE` at 0x050024 (spec/06_quince_scheduler.md). -/
def F.QN_REFUSE_REASON : Fld := ⟨10486940, 0, 4, 0⟩
def F.QN_REFUSE_MASTER : Fld := ⟨10486928, 0, 8, 0⟩
def F.QN_REFUSE_PIP : Fld := ⟨10486912, 0, 14, 0⟩
/-- `QN_GRPW` at 0x050040 (spec/06_quince_scheduler.md). -/
def F.QN_GRPW_W (n : Nat) : Fld := ⟨10487808, n, 8, 16⟩
/-- `QN_AFF_LO` at 0x050080 (spec/06_quince_scheduler.md). -/
def F.QN_AFF_LO_MASK (n : Nat) : Fld := ⟨10489856, n, 32, 4294967295⟩
/-- `QN_AFF_HI` at 0x050084 (spec/06_quince_scheduler.md). -/
def F.QN_AFF_HI_MASK (n : Nat) : Fld := ⟨10489984, n, 32, 4294967295⟩
/-- `QN_SLIST_IDX` at 0x0500C0 (spec/06_quince_scheduler.md). -/
def F.QN_SLIST_IDX_I : Fld := ⟨10491904, 0, 14, 0⟩
/-- `QN_IMG0` at 0x058000 (spec/06_quince_scheduler.md). -/
def F.QN_IMG0_SRCW (n : Nat) : Fld := ⟨11534336, n, 32, 0⟩
/-- `QN_IMG1` at 0x058004 (spec/06_quince_scheduler.md). -/
def F.QN_IMG1_D (n : Nat) : Fld := ⟨11534495, n, 1, 0⟩
def F.QN_IMG1_SRCWH (n : Nat) : Fld := ⟨11534491, n, 4, 0⟩
def F.QN_IMG1_LENW (n : Nat) : Fld := ⟨11534464, n, 11, 0⟩
/-- `VM_CTRL` at 0x060000 (spec/07_voices_and_phasors.md). -/
def F.VM_CTRL_EN : Fld := ⟨12582943, 0, 1, 0⟩
def F.VM_CTRL_EMPTY : Fld := ⟨12582942, 0, 1, 0⟩
def F.VM_CTRL_SLOTS : Fld := ⟨12582928, 0, 13, 4096⟩
def F.VM_CTRL_RESERVE : Fld := ⟨12582912, 0, 9, 128⟩
/-- `VM_STAT` at 0x060004 (spec/07_voices_and_phasors.md). -/
def F.VM_STAT_STATUS : Fld := ⟨12583064, 0, 8, 0⟩
def F.VM_STAT_STATE : Fld := ⟨12583040, 0, 2, 0⟩
/-- `VM_BASE` at 0x060008 (spec/07_voices_and_phasors.md). -/
def F.VM_BASE_PIPBASE : Fld := ⟨12583184, 0, 14, 0⟩
def F.VM_BASE_GAINBASE : Fld := ⟨12583168, 0, 16, 0⟩
/-- `VM_FADE` at 0x06000C (spec/07_voices_and_phasors.md). -/
def F.VM_FADE_FADE : Fld := ⟨12583296, 0, 10, 64⟩
/-- `VM_COUNT` at 0x060010 (spec/07_voices_and_phasors.md). -/
def F.VM_COUNT_PLAYING : Fld := ⟨12583440, 0, 13, 0⟩
def F.VM_COUNT_FADING : Fld := ⟨12583424, 0, 9, 0⟩
/-- `VM_EVT` at 0x060020 (spec/07_voices_and_phasors.md). -/
def F.VM_EVT_EVT : Fld := ⟨12583936, 0, 4, 0⟩
/-- `VM_REFUSE` at 0x060024 (spec/07_voices_and_phasors.md). -/
def F.VM_REFUSE_REASON : Fld := ⟨12584092, 0, 4, 0⟩
def F.VM_REFUSE_GROUP : Fld := ⟨12584080, 0, 8, 0⟩
def F.VM_REFUSE_NOTE : Fld := ⟨12584064, 0, 16, 0⟩
/-- `VM_STEALS` at 0x060028 (spec/07_voices_and_phasors.md). -/
def F.VM_STEALS_N : Fld := ⟨12584192, 0, 32, 0⟩
/-- `VM_ORPHANS` at 0x06002C (spec/07_voices_and_phasors.md). -/
def F.VM_ORPHANS_N : Fld := ⟨12584320, 0, 32, 0⟩
/-- `VM_DEFERS` at 0x060030 (spec/07_voices_and_phasors.md). -/
def F.VM_DEFERS_N : Fld := ⟨12584448, 0, 32, 0⟩
/-- `VM_CUTS` at 0x060034 (spec/07_voices_and_phasors.md). -/
def F.VM_CUTS_N : Fld := ⟨12584576, 0, 32, 0⟩
/-- `VM_GRP0` at 0x061000 (spec/07_voices_and_phasors.md). -/
def F.VM_GRP0_EN (n : Nat) : Fld := ⟨12714015, n, 1, 0⟩
def F.VM_GRP0_LAYERS (n : Nat) : Fld := ⟨12714012, n, 3, 0⟩
def F.VM_GRP0_STEAL (n : Nat) : Fld := ⟨12714010, n, 2, 0⟩
def F.VM_GRP0_RETRIG (n : Nat) : Fld := ⟨12714008, n, 2, 0⟩
def F.VM_GRP0_PRIO (n : Nat) : Fld := ⟨12714005, n, 3, 0⟩
def F.VM_GRP0_GLIM (n : Nat) : Fld := ⟨12713984, n, 13, 4096⟩
/-- `VM_GRP1` at 0x061004 (spec/07_voices_and_phasors.md). -/
def F.VM_GRP1_TPL_RND (n : Nat) : Fld := ⟨12714128, n, 14, 0⟩
def F.VM_GRP1_TPL_ON (n : Nat) : Fld := ⟨12714112, n, 14, 0⟩
/-- `VM_GRP2` at 0x061008 (spec/07_voices_and_phasors.md). -/
def F.VM_GRP2_JV (n : Nat) : Fld := ⟨12714271, n, 1, 0⟩
def F.VM_GRP2_JOIN (n : Nat) : Fld := ⟨12714240, n, 14, 0⟩
/-- `VM_GRP3` at 0x06100C (spec/07_voices_and_phasors.md). -/
def F.VM_GRP3_STRIDE (n : Nat) : Fld := ⟨12714368, n, 32, 0⟩
/-- `VM_GCNT` at 0x062000 (spec/07_voices_and_phasors.md). -/
def F.VM_GCNT_HOLD (n : Nat) : Fld := ⟨12845087, n, 1, 0⟩
def F.VM_GCNT_FADING (n : Nat) : Fld := ⟨12845072, n, 13, 0⟩
def F.VM_GCNT_PLAYING (n : Nat) : Fld := ⟨12845056, n, 13, 0⟩
/-- `SCN_RCL` at 0x070000 (spec/09_parameters_and_scenes.md). -/
def F.SCN_RCL_STATUS : Fld := ⟨14680088, 0, 8, 0⟩
def F.SCN_RCL_MASTER : Fld := ⟨14680080, 0, 8, 0⟩
def F.SCN_RCL_SCENE : Fld := ⟨14680070, 0, 10, 0⟩
def F.SCN_RCL_DISARM : Fld := ⟨14680069, 0, 1, 0⟩
def F.SCN_RCL_ARM : Fld := ⟨14680068, 0, 1, 0⟩
def F.SCN_RCL_STATE : Fld := ⟨14680064, 0, 2, 0⟩
/-- `SCN_STAT` at 0x070004 (spec/09_parameters_and_scenes.md). -/
def F.SCN_STAT_STATUS : Fld := ⟨14680216, 0, 8, 0⟩
/-- `SCN_RCL_FRC_LO` at 0x070008 (spec/09_parameters_and_scenes.md). -/
def F.SCN_RCL_FRC_LO_S : Fld := ⟨14680320, 0, 32, 0⟩
/-- `SCN_RCL_FRC_HI` at 0x07000C (spec/09_parameters_and_scenes.md). -/
def F.SCN_RCL_FRC_HI_S : Fld := ⟨14680448, 0, 32, 0⟩
/-- `SCN_RAMPS` at 0x070010 (spec/09_parameters_and_scenes.md). -/
def F.SCN_RAMPS_RSV : Fld := ⟨14680592, 0, 14, 0⟩
def F.SCN_RAMPS_ACTIVE : Fld := ⟨14680576, 0, 14, 0⟩
/-- `SCN_EVT` at 0x070020 (spec/09_parameters_and_scenes.md). -/
def F.SCN_EVT_EVT : Fld := ⟨14681088, 0, 4, 0⟩
/-- `SCN_REFUSE` at 0x070024 (spec/09_parameters_and_scenes.md). -/
def F.SCN_REFUSE_REASON : Fld := ⟨14681244, 0, 4, 0⟩
def F.SCN_REFUSE_MASTER : Fld := ⟨14681232, 0, 8, 0⟩
def F.SCN_REFUSE_INDEX : Fld := ⟨14681216, 0, 16, 0⟩
/-- `SCN_LATE` at 0x070028 (spec/09_parameters_and_scenes.md). -/
def F.SCN_LATE_N : Fld := ⟨14681344, 0, 32, 0⟩
/-- `SCN_DIR0` at 0x078000 (spec/09_parameters_and_scenes.md). -/
def F.SCN_DIR0_SRCW (n : Nat) : Fld := ⟨15728640, n, 32, 0⟩
/-- `SCN_DIR1` at 0x078004 (spec/09_parameters_and_scenes.md). -/
def F.SCN_DIR1_D (n : Nat) : Fld := ⟨15728799, n, 1, 0⟩
def F.SCN_DIR1_SRCWH (n : Nat) : Fld := ⟨15728795, n, 4, 0⟩
def F.SCN_DIR1_COUNT (n : Nat) : Fld := ⟨15728768, n, 17, 0⟩
/-- `BRM_SWAP` at 0x080000 (spec/08_bramble_routing.md). -/
def F.BRM_SWAP_STATUS : Fld := ⟨16777240, 0, 8, 0⟩
def F.BRM_SWAP_MASTER : Fld := ⟨16777232, 0, 8, 0⟩
def F.BRM_SWAP_DISARM : Fld := ⟨16777221, 0, 1, 0⟩
def F.BRM_SWAP_ARM : Fld := ⟨16777220, 0, 1, 0⟩
def F.BRM_SWAP_STATE : Fld := ⟨16777216, 0, 2, 0⟩
/-- `BRM_SWAP_FRC_LO` at 0x080004 (spec/08_bramble_routing.md). -/
def F.BRM_SWAP_FRC_LO_S : Fld := ⟨16777344, 0, 32, 0⟩
/-- `BRM_SWAP_FRC_HI` at 0x080008 (spec/08_bramble_routing.md). -/
def F.BRM_SWAP_FRC_HI_S : Fld := ⟨16777472, 0, 32, 0⟩
/-- `BRM_SWAP_BAD` at 0x08000C (spec/08_bramble_routing.md). -/
def F.BRM_SWAP_BAD_REASON : Fld := ⟨16777628, 0, 4, 0⟩
def F.BRM_SWAP_BAD_DEST : Fld := ⟨16777600, 0, 12, 0⟩
/-- `BRM_SWAPCNT` at 0x080010 (spec/08_bramble_routing.md). -/
def F.BRM_SWAPCNT_N : Fld := ⟨16777728, 0, 32, 0⟩
/-- `BRM_EVT` at 0x080020 (spec/08_bramble_routing.md). -/
def F.BRM_EVT_EVT : Fld := ⟨16778240, 0, 5, 0⟩
/-- `BRM_LOAD` at 0x080024 (spec/08_bramble_routing.md). -/
def F.BRM_LOAD_OCC : Fld := ⟨16778368, 0, 10, 0⟩
/-- `BRM_LOSTSRC` at 0x080028 (spec/08_bramble_routing.md). -/
def F.BRM_LOSTSRC_REASON : Fld := ⟨16778524, 0, 4, 0⟩
def F.BRM_LOSTSRC_SRC : Fld := ⟨16778496, 0, 12, 0⟩
/-- `BRM_XDROP` at 0x08002C (spec/08_bramble_routing.md). -/
def F.BRM_XDROP_N : Fld := ⟨16778624, 0, 32, 0⟩
/-- `BRM_QUAD0` at 0x081000 (spec/08_bramble_routing.md). -/
def F.BRM_QUAD0_BASE (n : Nat) : Fld := ⟨16908288, n, 32, 0⟩
/-- `BRM_QUAD1` at 0x081004 (spec/08_bramble_routing.md). -/
def F.BRM_QUAD1_EN (n : Nat) : Fld := ⟨16908447, n, 1, 0⟩
def F.BRM_QUAD1_DIR (n : Nat) : Fld := ⟨16908446, n, 1, 0⟩
def F.BRM_QUAD1_DEPTH (n : Nat) : Fld := ⟨16908444, n, 2, 0⟩
def F.BRM_QUAD1_PRODUCER (n : Nat) : Fld := ⟨16908416, n, 14, 0⟩
/-- `BRM_MTAP` at 0x082000 (spec/08_bramble_routing.md). -/
def F.BRM_MTAP_EN (n : Nat) : Fld := ⟨17039391, n, 1, 0⟩
def F.BRM_MTAP_SIDE (n : Nat) : Fld := ⟨17039372, n, 1, 0⟩
def F.BRM_MTAP_EP (n : Nat) : Fld := ⟨17039360, n, 12, 0⟩
/-- `LIVE` at 0x900000 (spec/08_bramble_routing.md). -/
def F.LIVE_EN (n : Nat) : Fld := ⟨301989919, n, 1, 0⟩
def F.LIVE_XS (n : Nat) : Fld := ⟨301989917, n, 2, 0⟩
def F.LIVE_XLEN (n : Nat) : Fld := ⟨301989904, n, 11, 0⟩
def F.LIVE_SRC (n : Nat) : Fld := ⟨301989888, n, 12, 0⟩
/-- `LIVE1` at 0x900004 (spec/08_bramble_routing.md). -/
def F.LIVE1_XF (n : Nat) : Fld := ⟨301990047, n, 1, 0⟩
def F.LIVE1_ABS (n : Nat) : Fld := ⟨301990046, n, 1, 0⟩
def F.LIVE1_OVM (n : Nat) : Fld := ⟨301990045, n, 1, 0⟩
def F.LIVE1_XREM (n : Nat) : Fld := ⟨301990016, n, 11, 0⟩
/-- `NEXT` at 0x908000 (spec/08_bramble_routing.md). -/
def F.NEXT_EN (n : Nat) : Fld := ⟨303038495, n, 1, 0⟩
def F.NEXT_XS (n : Nat) : Fld := ⟨303038493, n, 2, 0⟩
def F.NEXT_XLEN (n : Nat) : Fld := ⟨303038480, n, 11, 0⟩
def F.NEXT_SRC (n : Nat) : Fld := ⟨303038464, n, 12, 0⟩
/-- `AP_CTRL` at 0x090000 (spec/12_audio_ports.md). -/
def F.AP_CTRL_STATUS (n : Nat) : Fld := ⟨18874392, n, 8, 0⟩
def F.AP_CTRL_EN (n : Nat) : Fld := ⟨18874372, n, 1, 0⟩
def F.AP_CTRL_STATE (n : Nat) : Fld := ⟨18874368, n, 2, 0⟩
/-- `AP_CFG` at 0x090004 (spec/12_audio_ports.md). -/
def F.AP_CFG_MASTER (n : Nat) : Fld := ⟨18874527, n, 1, 0⟩
def F.AP_CFG_PATH (n : Nat) : Fld := ⟨18874526, n, 1, 0⟩
def F.AP_CFG_I2S (n : Nat) : Fld := ⟨18874525, n, 1, 0⟩
def F.AP_CFG_BCKPOL (n : Nat) : Fld := ⟨18874524, n, 1, 0⟩
def F.AP_CFG_FSPOL (n : Nat) : Fld := ⟨18874523, n, 1, 0⟩
def F.AP_CFG_FSW (n : Nat) : Fld := ⟨18874521, n, 2, 0⟩
def F.AP_CFG_MRATE (n : Nat) : Fld := ⟨18874519, n, 2, 1⟩
def F.AP_CFG_WIDTH (n : Nat) : Fld := ⟨18874517, n, 2, 2⟩
def F.AP_CFG_SLOTS (n : Nat) : Fld := ⟨18874512, n, 5, 7⟩
def F.AP_CFG_GRPEN (n : Nat) : Fld := ⟨18874507, n, 1, 0⟩
def F.AP_CFG_GRP (n : Nat) : Fld := ⟨18874504, n, 3, 0⟩
def F.AP_CFG_OFFSET (n : Nat) : Fld := ⟨18874496, n, 6, 0⟩
/-- `AP_FRAME` at 0x090008 (spec/12_audio_ports.md). -/
def F.AP_FRAME_LEAD (n : Nat) : Fld := ⟨18874648, n, 8, 0⟩
def F.AP_FRAME_TAIL (n : Nat) : Fld := ⟨18874640, n, 8, 0⟩
def F.AP_FRAME_FLEN (n : Nat) : Fld := ⟨18874624, n, 12, 256⟩
/-- `AP_IMASK` at 0x09000C (spec/12_audio_ports.md). -/
def F.AP_IMASK_M (n : Nat) : Fld := ⟨18874752, n, 32, 0⟩
/-- `AP_OMASK` at 0x090010 (spec/12_audio_ports.md). -/
def F.AP_OMASK_M (n : Nat) : Fld := ⟨18874880, n, 32, 0⟩
/-- `AP_ASRC` at 0x090014 (spec/12_audio_ports.md). -/
def F.AP_ASRC_OBASE (n : Nat) : Fld := ⟨18875024, n, 9, 0⟩
def F.AP_ASRC_IBASE (n : Nat) : Fld := ⟨18875008, n, 9, 0⟩
/-- `AP_STAT` at 0x090018 (spec/12_audio_ports.md). -/
def F.AP_STAT_FLENM (n : Nat) : Fld := ⟨18875156, n, 12, 0⟩
def F.AP_STAT_MPEND (n : Nat) : Fld := ⟨18875144, n, 1, 0⟩
def F.AP_STAT_DRV (n : Nat) : Fld := ⟨18875143, n, 1, 0⟩
def F.AP_STAT_RATEERR (n : Nat) : Fld := ⟨18875142, n, 1, 0⟩
def F.AP_STAT_CLKLOSS (n : Nat) : Fld := ⟨18875141, n, 1, 0⟩
def F.AP_STAT_GWAIT (n : Nat) : Fld := ⟨18875140, n, 1, 0⟩
/-- `AP_FRATE` at 0x09001C (spec/12_audio_ports.md). -/
def F.AP_FRATE_R (n : Nat) : Fld := ⟨18875264, n, 32, 0⟩
/-- `AP_EVT` at 0x090020 (spec/12_audio_ports.md). -/
def F.AP_EVT_EVT (n : Nat) : Fld := ⟨18875392, n, 6, 0⟩
/-- `AP_CNT` at 0x090024 (spec/12_audio_ports.md). -/
def F.AP_CNT_SLIP (n : Nat) : Fld := ⟨18875536, n, 16, 0⟩
def F.AP_CNT_FRAMEERR (n : Nat) : Fld := ⟨18875520, n, 16, 0⟩
/-- `AP_GRP` at 0x098000 (spec/12_audio_ports.md). -/
def F.AP_GRP_STATUS (n : Nat) : Fld := ⟨19922968, n, 8, 0⟩
def F.AP_GRP_DISARM (n : Nat) : Fld := ⟨19922949, n, 1, 0⟩
def F.AP_GRP_ARM (n : Nat) : Fld := ⟨19922948, n, 1, 0⟩
def F.AP_GRP_STATE (n : Nat) : Fld := ⟨19922944, n, 1, 0⟩
/-- `AP_GRP_FRC_LO` at 0x098004 (spec/12_audio_ports.md). -/
def F.AP_GRP_FRC_LO_S (n : Nat) : Fld := ⟨19923072, n, 32, 0⟩
/-- `AP_GRP_FRC_HI` at 0x098008 (spec/12_audio_ports.md). -/
def F.AP_GRP_FRC_HI_S (n : Nat) : Fld := ⟨19923200, n, 32, 0⟩
/-- `ASRC_STAT` at 0x0A0000 (spec/12_audio_ports.md). -/
def F.ASRC_STAT_FREE : Fld := ⟨20971520, 0, 6, 32⟩
/-- `ASRC_EVT` at 0x0A0020 (spec/12_audio_ports.md). -/
def F.ASRC_EVT_EVT : Fld := ⟨20972544, 0, 5, 0⟩
/-- `ASRC_CH` at 0x0A1000 (spec/12_audio_ports.md). -/
def F.ASRC_CH_OWNER (n : Nat) : Fld := ⟨21102608, n, 16, 0⟩
def F.ASRC_CH_DIR (n : Nat) : Fld := ⟨21102607, n, 1, 0⟩
def F.ASRC_CH_LOCK (n : Nat) : Fld := ⟨21102606, n, 1, 0⟩
def F.ASRC_CH_FREEW (n : Nat) : Fld := ⟨21102605, n, 1, 0⟩
def F.ASRC_CH_RANGE (n : Nat) : Fld := ⟨21102604, n, 1, 0⟩
def F.ASRC_CH_PHYS (n : Nat) : Fld := ⟨21102594, n, 10, n⟩
def F.ASRC_CH_STATE (n : Nat) : Fld := ⟨21102592, n, 2, 0⟩
/-- `ASRC_RATIO` at 0x0A2000 (spec/12_audio_ports.md). -/
def F.ASRC_RATIO_R (n : Nat) : Fld := ⟨21233664, n, 32, 0⟩
/-- `AES_RXCTRL` at 0x0B0000 (spec/12_audio_ports.md). -/
def F.AES_RXCTRL_STATUS (n : Nat) : Fld := ⟨23068696, n, 8, 0⟩
def F.AES_RXCTRL_EN (n : Nat) : Fld := ⟨23068676, n, 1, 0⟩
def F.AES_RXCTRL_STATE (n : Nat) : Fld := ⟨23068672, n, 2, 0⟩
/-- `AES_RXCFG` at 0x0B0004 (spec/12_audio_ports.md). -/
def F.AES_RXCFG_PATH (n : Nat) : Fld := ⟨23068831, n, 1, 0⟩
def F.AES_RXCFG_VMUTE (n : Nat) : Fld := ⟨23068830, n, 1, 0⟩
def F.AES_RXCFG_ABASE (n : Nat) : Fld := ⟨23068800, n, 9, 0⟩
/-- `AES_RXSTAT` at 0x0B0008 (spec/12_audio_ports.md). -/
def F.AES_RXSTAT_NOM (n : Nat) : Fld := ⟨23068936, n, 4, 0⟩
def F.AES_RXSTAT_CRCERR (n : Nat) : Fld := ⟨23068932, n, 2, 0⟩
def F.AES_RXSTAT_PRO (n : Nat) : Fld := ⟨23068930, n, 2, 0⟩
def F.AES_RXSTAT_LOCK (n : Nat) : Fld := ⟨23068928, n, 1, 0⟩
/-- `AES_RXEVT` at 0x0B000C (spec/12_audio_ports.md). -/
def F.AES_RXEVT_EVT (n : Nat) : Fld := ⟨23069056, n, 4, 0⟩
/-- `AES_RXCNT` at 0x0B0010 (spec/12_audio_ports.md). -/
def F.AES_RXCNT_PERR (n : Nat) : Fld := ⟨23069200, n, 16, 0⟩
def F.AES_RXCNT_BLKERR (n : Nat) : Fld := ⟨23069184, n, 16, 0⟩
/-- `AES_RXCS0` at 0x0B0040 (spec/12_audio_ports.md). -/
def F.AES_RXCS0_W (n k : Nat) : Fld := ⟨23070720, n * 6 + k, 32, 0⟩
/-- `AES_RXU0` at 0x0B0080 (spec/12_audio_ports.md). -/
def F.AES_RXU0_W (n k : Nat) : Fld := ⟨23072768, n * 6 + k, 32, 0⟩
/-- `AES_RXCS1` at 0x0B0060 (spec/12_audio_ports.md). -/
def F.AES_RXCS1_W (n k : Nat) : Fld := ⟨23071744, n * 6 + k, 32, 0⟩
/-- `AES_RXU1` at 0x0B00A0 (spec/12_audio_ports.md). -/
def F.AES_RXU1_W (n k : Nat) : Fld := ⟨23073792, n * 6 + k, 32, 0⟩
/-- `AES_TXCTRL` at 0x0B1000 (spec/12_audio_ports.md). -/
def F.AES_TXCTRL_STATUS (n : Nat) : Fld := ⟨23199768, n, 8, 0⟩
def F.AES_TXCTRL_EN (n : Nat) : Fld := ⟨23199748, n, 1, 0⟩
def F.AES_TXCTRL_STATE (n : Nat) : Fld := ⟨23199744, n, 2, 0⟩
/-- `AES_TXCFG` at 0x0B1004 (spec/12_audio_ports.md). -/
def F.AES_TXCFG_PATH (n : Nat) : Fld := ⟨23199903, n, 1, 0⟩
def F.AES_TXCFG_VAUTO (n : Nat) : Fld := ⟨23199902, n, 1, 0⟩
def F.AES_TXCFG_VAL (n : Nat) : Fld := ⟨23199901, n, 1, 0⟩
def F.AES_TXCFG_CSSEP (n : Nat) : Fld := ⟨23199900, n, 1, 0⟩
def F.AES_TXCFG_CRCGEN (n : Nat) : Fld := ⟨23199899, n, 1, 0⟩
def F.AES_TXCFG_UEN (n : Nat) : Fld := ⟨23199898, n, 1, 0⟩
def F.AES_TXCFG_SRC (n : Nat) : Fld := ⟨23199897, n, 1, 0⟩
def F.AES_TXCFG_RX (n : Nat) : Fld := ⟨23199894, n, 3, 0⟩
def F.AES_TXCFG_NOM (n : Nat) : Fld := ⟨23199891, n, 3, 2⟩
def F.AES_TXCFG_ABASE (n : Nat) : Fld := ⟨23199872, n, 9, 0⟩
/-- `AES_TXEVT` at 0x0B100C (spec/12_audio_ports.md). -/
def F.AES_TXEVT_EVT (n : Nat) : Fld := ⟨23200128, n, 3, 0⟩
/-- `AES_TXCS0` at 0x0B1040 (spec/12_audio_ports.md). -/
def F.AES_TXCS0_W (n k : Nat) : Fld := ⟨23201792, n * 6 + k, 32, 0⟩
/-- `AES_TXU0` at 0x0B1080 (spec/12_audio_ports.md). -/
def F.AES_TXU0_W (n k : Nat) : Fld := ⟨23203840, n * 6 + k, 32, 0⟩
/-- `AES_TXCS1` at 0x0B1060 (spec/12_audio_ports.md). -/
def F.AES_TXCS1_W (n k : Nat) : Fld := ⟨23202816, n * 6 + k, 32, 0⟩
/-- `AES_TXU1` at 0x0B10A0 (spec/12_audio_ports.md). -/
def F.AES_TXU1_W (n k : Nat) : Fld := ⟨23204864, n * 6 + k, 32, 0⟩
/-- `TMR_GRP` at 0x0C0000 (spec/13_timers.md). -/
def F.TMR_GRP_STATUS (n : Nat) : Fld := ⟨25165848, n, 8, 0⟩
def F.TMR_GRP_GO (n : Nat) : Fld := ⟨25165830, n, 1, 0⟩
def F.TMR_GRP_DISARM (n : Nat) : Fld := ⟨25165829, n, 1, 0⟩
def F.TMR_GRP_ARM (n : Nat) : Fld := ⟨25165828, n, 1, 0⟩
def F.TMR_GRP_STATE (n : Nat) : Fld := ⟨25165824, n, 1, 0⟩
/-- `TMR_GRP_FRC_LO` at 0x0C0004 (spec/13_timers.md). -/
def F.TMR_GRP_FRC_LO_S (n : Nat) : Fld := ⟨25165952, n, 32, 0⟩
/-- `TMR_GRP_FRC_HI` at 0x0C0008 (spec/13_timers.md). -/
def F.TMR_GRP_FRC_HI_S (n : Nat) : Fld := ⟨25166080, n, 32, 0⟩
/-- `TMR_CTRL` at 0x0C1000 (spec/13_timers.md). -/
def F.TMR_CTRL_STATUS (n : Nat) : Fld := ⟨25296920, n, 8, 0⟩
def F.TMR_CTRL_SWCAP (n : Nat) : Fld := ⟨25296904, n, 1, 0⟩
def F.TMR_CTRL_EN (n : Nat) : Fld := ⟨25296900, n, 1, 0⟩
def F.TMR_CTRL_STATE (n : Nat) : Fld := ⟨25296896, n, 2, 0⟩
/-- `TMR_MODE` at 0x0C1004 (spec/13_timers.md). -/
def F.TMR_MODE_KX4CMP (n : Nat) : Fld := ⟨25297055, n, 1, 0⟩
def F.TMR_MODE_CASC (n : Nat) : Fld := ⟨25297054, n, 1, 0⟩
def F.TMR_MODE_SHUT (n : Nat) : Fld := ⟨25297053, n, 1, 0⟩
def F.TMR_MODE_GRPEN (n : Nat) : Fld := ⟨25297051, n, 1, 0⟩
def F.TMR_MODE_GRP (n : Nat) : Fld := ⟨25297048, n, 3, 0⟩
def F.TMR_MODE_PRE (n : Nat) : Fld := ⟨25297024, n, 16, 0⟩
/-- `TMR_RELOAD` at 0x0C1008 (spec/13_timers.md). -/
def F.TMR_RELOAD_V (n : Nat) : Fld := ⟨25297152, n, 32, 4294967295⟩
/-- `TMR_PHASE` at 0x0C100C (spec/13_timers.md). -/
def F.TMR_PHASE_V (n : Nat) : Fld := ⟨25297280, n, 32, 0⟩
/-- `TMR_CNT` at 0x0C1010 (spec/13_timers.md). -/
def F.TMR_CNT_V (n : Nat) : Fld := ⟨25297408, n, 32, 0⟩
/-- `TMR_CMPA` at 0x0C1018 (spec/13_timers.md). -/
def F.TMR_CMPA_V (n : Nat) : Fld := ⟨25297664, n, 32, 0⟩
/-- `TMR_CMPB` at 0x0C101C (spec/13_timers.md). -/
def F.TMR_CMPB_V (n : Nat) : Fld := ⟨25297792, n, 32, 0⟩
/-- `TMR_INTA` at 0x0C1020 (spec/13_timers.md). -/
def F.TMR_INTA_V (n : Nat) : Fld := ⟨25297920, n, 32, 0⟩
/-- `TMR_INTB` at 0x0C1024 (spec/13_timers.md). -/
def F.TMR_INTB_V (n : Nat) : Fld := ⟨25298048, n, 32, 0⟩
/-- `TMR_OUT` at 0x0C1028 (spec/13_timers.md). -/
def F.TMR_OUT_OE (n : Nat) : Fld := ⟨25298184, n, 1, 0⟩
def F.TMR_OUT_IDLE (n : Nat) : Fld := ⟨25298182, n, 1, 0⟩
def F.TMR_OUT_LAPACT (n : Nat) : Fld := ⟨25298180, n, 2, 0⟩
def F.TMR_OUT_AACT (n : Nat) : Fld := ⟨25298178, n, 2, 0⟩
def F.TMR_OUT_BACT (n : Nat) : Fld := ⟨25298176, n, 2, 0⟩
/-- `TMR_CAPCFG` at 0x0C102C (spec/13_timers.md). -/
def F.TMR_CAPCFG_CEN (n : Nat) : Fld := ⟨25298319, n, 1, 0⟩
def F.TMR_CAPCFG_CSRC (n : Nat) : Fld := ⟨25298312, n, 7, 0⟩
def F.TMR_CAPCFG_EDGE (n : Nat) : Fld := ⟨25298308, n, 2, 0⟩
def F.TMR_CAPCFG_FILT (n : Nat) : Fld := ⟨25298304, n, 4, 0⟩
/-- `TMR_CAPT` at 0x0C1030 (spec/13_timers.md). -/
def F.TMR_CAPT_V (n : Nat) : Fld := ⟨25298432, n, 32, 0⟩
/-- `TMR_CAPT_PEND` at 0x0C1034 (spec/13_timers.md). -/
def F.TMR_CAPT_PEND_V (n : Nat) : Fld := ⟨25298560, n, 32, 0⟩
/-- `TMR_STAT` at 0x0C103C (spec/13_timers.md). -/
def F.TMR_STAT_FULL (n : Nat) : Fld := ⟨25298831, n, 1, 0⟩
def F.TMR_STAT_PEND (n : Nat) : Fld := ⟨25298830, n, 1, 0⟩
def F.TMR_STAT_APEND (n : Nat) : Fld := ⟨25298829, n, 1, 0⟩
def F.TMR_STAT_BPEND (n : Nat) : Fld := ⟨25298828, n, 1, 0⟩
def F.TMR_STAT_LEVEL (n : Nat) : Fld := ⟨25298827, n, 1, 0⟩
def F.TMR_STAT_EVT (n : Nat) : Fld := ⟨25298816, n, 7, 0⟩
/-- `U_CTRL` at 0x0D0000 (spec/14_uarts_and_midi.md). -/
def F.U_CTRL_STATUS (n : Nat) : Fld := ⟨27263000, n, 8, 0⟩
def F.U_CTRL_WAKE (n : Nat) : Fld := ⟨27262986, n, 1, 0⟩
def F.U_CTRL_LOOP (n : Nat) : Fld := ⟨27262985, n, 1, 0⟩
def F.U_CTRL_DRAIN (n : Nat) : Fld := ⟨27262984, n, 1, 0⟩
def F.U_CTRL_EN (n : Nat) : Fld := ⟨27262980, n, 1, 0⟩
def F.U_CTRL_STATE (n : Nat) : Fld := ⟨27262976, n, 2, 0⟩
/-- `U_CFG` at 0x0D0004 (spec/14_uarts_and_midi.md). -/
def F.U_CFG_MIDI (n : Nat) : Fld := ⟨27263113, n, 1, 0⟩
def F.U_CFG_FLOW (n : Nat) : Fld := ⟨27263112, n, 1, 0⟩
def F.U_CFG_STOP (n : Nat) : Fld := ⟨27263109, n, 1, 0⟩
def F.U_CFG_PAR (n : Nat) : Fld := ⟨27263106, n, 3, 0⟩
def F.U_CFG_DBITS (n : Nat) : Fld := ⟨27263104, n, 2, 3⟩
/-- `U_DIV` at 0x0D0008 (spec/14_uarts_and_midi.md). -/
def F.U_DIV_DIVI (n : Nat) : Fld := ⟨27263238, n, 16, 106⟩
def F.U_DIV_DIVF (n : Nat) : Fld := ⟨27263232, n, 6, 43⟩
/-- `U_FLOW` at 0x0D0018 (spec/14_uarts_and_midi.md). -/
def F.U_FLOW_TXTHR (n : Nat) : Fld := ⟨27263768, n, 7, 0⟩
def F.U_FLOW_RXTHR (n : Nat) : Fld := ⟨27263760, n, 7, 1⟩
def F.U_FLOW_RTSHI (n : Nat) : Fld := ⟨27263752, n, 7, 48⟩
def F.U_FLOW_RTSLO (n : Nat) : Fld := ⟨27263744, n, 7, 16⟩
/-- `U_STAT` at 0x0D001C (spec/14_uarts_and_midi.md). -/
def F.U_STAT_LINE_LVL (n : Nat) : Fld := ⟨27263884, n, 1, 1⟩
def F.U_STAT_RXST (n : Nat) : Fld := ⟨27263882, n, 2, 0⟩
def F.U_STAT_DPEND (n : Nat) : Fld := ⟨27263881, n, 1, 0⟩
def F.U_STAT_CTS (n : Nat) : Fld := ⟨27263880, n, 1, 0⟩
def F.U_STAT_RTS (n : Nat) : Fld := ⟨27263879, n, 1, 0⟩
/-- `U_EVT` at 0x0D0020 (spec/14_uarts_and_midi.md). -/
def F.U_EVT_EVT (n : Nat) : Fld := ⟨27264000, n, 9, 0⟩
/-- `U_CNT` at 0x0D0024 (spec/14_uarts_and_midi.md). -/
def F.U_CNT_OVR (n : Nat) : Fld := ⟨27264152, n, 8, 0⟩
def F.U_CNT_ERR (n : Nat) : Fld := ⟨27264144, n, 8, 0⟩
def F.U_CNT_BRK (n : Nat) : Fld := ⟨27264136, n, 8, 0⟩
def F.U_CNT_NOISE (n : Nat) : Fld := ⟨27264128, n, 8, 0⟩
/-- `U_LINE` at 0x0D0028 (spec/14_uarts_and_midi.md). -/
def F.U_LINE_REARM (n : Nat) : Fld := ⟨27264287, n, 1, 0⟩
def F.U_LINE_LINEFAULT_T (n : Nat) : Fld := ⟨27264256, n, 16, 500⟩
/-- `U_MIDI` at 0x0D0030 (spec/14_uarts_and_midi.md). -/
def F.U_MIDI_DROPAS (n : Nat) : Fld := ⟨27264541, n, 1, 0⟩
def F.U_MIDI_DROPCLK (n : Nat) : Fld := ⟨27264540, n, 1, 0⟩
def F.U_MIDI_PIP (n : Nat) : Fld := ⟨27264512, n, 14, 0⟩
/-- `U_MIDIDLY` at 0x0D0034 (spec/14_uarts_and_midi.md). -/
def F.U_MIDIDLY_DELAY (n : Nat) : Fld := ⟨27264640, n, 16, 0⟩
/-- `DMS_GSTAT` at 0x0E0000 (spec/15_damson_outputs.md). -/
def F.DMS_GSTAT_CLRLVL : Fld := ⟨29360144, 0, 1, 0⟩
def F.DMS_GSTAT_SPOK : Fld := ⟨29360128, 0, 16, 0⟩
/-- `DMS_CTRL` at 0x0E1000 (spec/15_damson_outputs.md). -/
def F.DMS_CTRL_STATUS (n : Nat) : Fld := ⟨29491224, n, 8, 0⟩
def F.DMS_CTRL_EN (n : Nat) : Fld := ⟨29491204, n, 1, 0⟩
def F.DMS_CTRL_STATE (n : Nat) : Fld := ⟨29491200, n, 3, 0⟩
/-- `DMS_CFG` at 0x0E1004 (spec/15_damson_outputs.md). -/
def F.DMS_CFG_MODE (n : Nat) : Fld := ⟨29491359, n, 1, 0⟩
def F.DMS_CFG_INIT_SRC (n : Nat) : Fld := ⟨29491358, n, 1, 0⟩
def F.DMS_CFG_SAFESEL (n : Nat) : Fld := ⟨29491356, n, 2, 0⟩
/-- `DMS_SPAN` at 0x0E1008 (spec/15_damson_outputs.md). -/
def F.DMS_SPAN_PEND (n : Nat) : Fld := ⟨29491487, n, 1, 0⟩
def F.DMS_SPAN_ACTIVE (n : Nat) : Fld := ⟨29491460, n, 2, 0⟩
def F.DMS_SPAN_SPAN (n : Nat) : Fld := ⟨29491456, n, 2, 0⟩
/-- `DMS_CODE` at 0x0E100C (spec/15_damson_outputs.md). -/
def F.DMS_CODE_C (n : Nat) : Fld := ⟨29491584, n, 24, 0⟩
/-- `DMS_CLRCODE` at 0x0E1010 (spec/15_damson_outputs.md). -/
def F.DMS_CLRCODE_C (n : Nat) : Fld := ⟨29491712, n, 24, 0⟩
/-- `DMS_INITCODE` at 0x0E1014 (spec/15_damson_outputs.md). -/
def F.DMS_INITCODE_C (n : Nat) : Fld := ⟨29491840, n, 24, 0⟩
/-- `DMS_DGL` at 0x0E1018 (spec/15_damson_outputs.md). -/
def F.DMS_DGL_HOLD (n : Nat) : Fld := ⟨29491992, n, 6, 4⟩
def F.DMS_DGL_THR (n : Nat) : Fld := ⟨29491968, n, 24, 1048576⟩
/-- `DMS_SLEW` at 0x0E101C (spec/15_damson_outputs.md). -/
def F.DMS_SLEW_CLR_EN (n : Nat) : Fld := ⟨29492104, n, 1, 0⟩
def F.DMS_SLEW_SLEWT (n : Nat) : Fld := ⟨29492096, n, 4, 10⟩
/-- `DMS_STAT` at 0x0E1020 (spec/15_damson_outputs.md). -/
def F.DMS_STAT_CW (n : Nat) : Fld := ⟨29492233, n, 1, 0⟩
def F.DMS_STAT_RET (n : Nat) : Fld := ⟨29492232, n, 1, 0⟩
def F.DMS_STAT_SPOK (n : Nat) : Fld := ⟨29492231, n, 1, 0⟩
def F.DMS_STAT_STAGE (n : Nat) : Fld := ⟨29492230, n, 1, 0⟩
def F.DMS_STAT_DRV (n : Nat) : Fld := ⟨29492229, n, 1, 0⟩
def F.DMS_STAT_SC (n : Nat) : Fld := ⟨29492228, n, 1, 0⟩
def F.DMS_STAT_FORCED (n : Nat) : Fld := ⟨29492227, n, 1, 0⟩
def F.DMS_STAT_SLEWING (n : Nat) : Fld := ⟨29492226, n, 1, 0⟩
def F.DMS_STAT_HOLDING (n : Nat) : Fld := ⟨29492225, n, 1, 0⟩
/-- `DMS_EVT` at 0x0E1024 (spec/15_damson_outputs.md). -/
def F.DMS_EVT_EVT (n : Nat) : Fld := ⟨29492352, n, 6, 0⟩
/-- `CUR_CTRL` at 0x0F0000 (spec/16_currant_measurement.md). -/
def F.CUR_CTRL_STATUS : Fld := ⟨31457304, 0, 8, 0⟩
def F.CUR_CTRL_SCAN : Fld := ⟨31457284, 0, 1, 0⟩
/-- `CUR_STAT` at 0x0F0004 (spec/16_currant_measurement.md). -/
def F.CUR_STAT_LIVE60 : Fld := ⟨31457408, 0, 1, 0⟩
/-- `CUR_MONSTAT` at 0x0F0008 (spec/16_currant_measurement.md). -/
def F.CUR_MONSTAT_CRIT : Fld := ⟨31457553, 0, 1, 0⟩
def F.CUR_MONSTAT_WARN : Fld := ⟨31457552, 0, 1, 0⟩
def F.CUR_MONSTAT_WIN : Fld := ⟨31457536, 0, 12, 0⟩
/-- `CUR_LBSTAT` at 0x0F000C (spec/16_currant_measurement.md). -/
def F.CUR_LBSTAT_LB : Fld := ⟨31457664, 0, 16, 0⟩
/-- `CUR_LBTOL` at 0x0F0010 (spec/16_currant_measurement.md). -/
def F.CUR_LBTOL_TOL : Fld := ⟨31457792, 0, 16, 5000⟩
/-- `CUR_TEMPTH` at 0x0F0014 (spec/16_currant_measurement.md). -/
def F.CUR_TEMPTH_WARN : Fld := ⟨31457936, 0, 16, 12800⟩
def F.CUR_TEMPTH_CRIT : Fld := ⟨31457920, 0, 16, 14080⟩
/-- `CUR_EVT` at 0x0F0020 (spec/16_currant_measurement.md). -/
def F.CUR_EVT_EVT : Fld := ⟨31458304, 0, 5, 0⟩
/-- `CUR_SCAN` at 0x0F0100 (spec/16_currant_measurement.md). -/
def F.CUR_SCAN_V (n : Nat) : Fld := ⟨31465503, n, 1, 0⟩
def F.CUR_SCAN_PRM (n : Nat) : Fld := ⟨31465502, n, 1, 0⟩
def F.CUR_SCAN_PSHAPE (n : Nat) : Fld := ⟨31465501, n, 1, 0⟩
def F.CUR_SCAN_AVG (n : Nat) : Fld := ⟨31465496, n, 3, 0⟩
def F.CUR_SCAN_CH (n : Nat) : Fld := ⟨31465488, n, 6, 0⟩
def F.CUR_SCAN_PARAM (n : Nat) : Fld := ⟨31465472, n, 16, 0⟩
/-- `CUR_MON` at 0x0F0200 (spec/16_currant_measurement.md). -/
def F.CUR_MON_HI (n : Nat) : Fld := ⟨31473680, n, 16, (Rst.monHi.at n)⟩
def F.CUR_MON_LO (n : Nat) : Fld := ⟨31473664, n, 16, (Rst.monLo.at n)⟩
/-- `CUR_RES` at 0x0F0400 (spec/16_currant_measurement.md). -/
def F.CUR_RES_VALID (n : Nat) : Fld := ⟨31490079, n, 1, 0⟩
def F.CUR_RES_CODE (n : Nat) : Fld := ⟨31490048, n, 16, 0⟩
/-- `CUR_MTR0` at 0x0F4000 (spec/16_currant_measurement.md). -/
def F.CUR_MTR0_TPK (n : Nat) : Fld := ⟨31981584, n, 16, 0⟩
def F.CUR_MTR0_SPK (n : Nat) : Fld := ⟨31981568, n, 16, 0⟩
/-- `CUR_MTR1` at 0x0F4004 (spec/16_currant_measurement.md). -/
def F.CUR_MTR1_DPK (n : Nat) : Fld := ⟨31981712, n, 16, 0⟩
def F.CUR_MTR1_RMS (n : Nat) : Fld := ⟨31981696, n, 16, 0⟩
/-- `CUR_MCFG` at 0x0F4008 (spec/16_currant_measurement.md). -/
def F.CUR_MCFG_EN (n : Nat) : Fld := ⟨31981855, n, 1, 0⟩
def F.CUR_MCFG_OUT (n : Nat) : Fld := ⟨31981854, n, 1, 0⟩
def F.CUR_MCFG_TAU (n : Nat) : Fld := ⟨31981852, n, 2, 0⟩
def F.CUR_MCFG_HOLD (n : Nat) : Fld := ⟨31981846, n, 6, 0⟩
def F.CUR_MCFG_DECAY (n : Nat) : Fld := ⟨31981838, n, 8, 0⟩
def F.CUR_MCFG_LGRP (n : Nat) : Fld := ⟨31981832, n, 6, 0⟩
def F.CUR_MCFG_LWT (n : Nat) : Fld := ⟨31981830, n, 2, 0⟩
/-- `CUR_MTR3` at 0x0F400C (spec/16_currant_measurement.md). -/
def F.CUR_MTR3_OVCNT (n : Nat) : Fld := ⟨31981952, n, 16, 0⟩
/-- `CUR_LG0` at 0x0F8000 (spec/16_currant_measurement.md). -/
def F.CUR_LG0_RUN (n : Nat) : Fld := ⟨32505887, n, 1, 0⟩
def F.CUR_LG0_RESET (n : Nat) : Fld := ⟨32505886, n, 1, 0⟩
/-- `CUR_LG1` at 0x0F8004 (spec/16_currant_measurement.md). -/
def F.CUR_LG1_M (n : Nat) : Fld := ⟨32506000, n, 16, 32768⟩
def F.CUR_LG1_S (n : Nat) : Fld := ⟨32505984, n, 16, 32768⟩
/-- `CUR_LG2` at 0x0F8008 (spec/16_currant_measurement.md). -/
def F.CUR_LG2_I (n : Nat) : Fld := ⟨32506128, n, 16, 32768⟩
/-- `HIF_LINK` at 0x100000 (spec/17_host_interfaces.md). -/
def F.HIF_LINK_L1 : Fld := ⟨33554441, 0, 1, 0⟩
def F.HIF_LINK_UP : Fld := ⟨33554440, 0, 1, 0⟩
def F.HIF_LINK_WIDTH : Fld := ⟨33554436, 0, 2, 0⟩
def F.HIF_LINK_GEN : Fld := ⟨33554432, 0, 2, 0⟩
/-- `HIF_VSEL_LO` at 0x100004 (spec/17_host_interfaces.md). -/
def F.HIF_VSEL_LO_V : Fld := ⟨33554560, 0, 32, 0⟩
/-- `HIF_VSEL_HI` at 0x100008 (spec/17_host_interfaces.md). -/
def F.HIF_VSEL_HI_V : Fld := ⟨33554688, 0, 32, 0⟩
/-- `HIF_DWIN` at 0x100010 (spec/17_host_interfaces.md). -/
def F.HIF_DWIN_BASE (n : Nat) : Fld := ⟨33554944, n, 14, 0⟩
/-- `HIF_EVT` at 0x100020 (spec/17_host_interfaces.md). -/
def F.HIF_EVT_EVT : Fld := ⟨33555456, 0, 5, 0⟩
/-- `HIF_ERR` at 0x100024 (spec/17_host_interfaces.md). -/
def F.HIF_ERR_PCIE : Fld := ⟨33555600, 0, 16, 0⟩
def F.HIF_ERR_SPI : Fld := ⟨33555584, 0, 16, 0⟩
/-- `HIF_SW_LAST` at 0x100028 (spec/17_host_interfaces.md). -/
def F.HIF_SW_LAST_N (n : Nat) : Fld := ⟨33555712, n, 32, 0⟩
/-- `HIF_HS_BASE` at 0x100080 (spec/17_host_interfaces.md). -/
def F.HIF_HS_BASE_A (n : Nat) : Fld := ⟨33558528, n, 32, 0⟩
/-- `HIF_HS_CFG` at 0x100084 (spec/17_host_interfaces.md). -/
def F.HIF_HS_CFG_EN (n : Nat) : Fld := ⟨33558687, n, 1, 0⟩
def F.HIF_HS_CFG_DEPTH (n : Nat) : Fld := ⟨33558680, n, 4, 0⟩
def F.HIF_HS_CFG_NCH (n : Nat) : Fld := ⟨33558656, n, 7, 0⟩
/-- `HIF_HS_BLK0` at 0x100088 (spec/17_host_interfaces.md). -/
def F.HIF_HS_BLK0_J : Fld := ⟨33558784, 0, 32, 0⟩
/-- `HIF_HS_BLK1` at 0x100098 (spec/17_host_interfaces.md). -/
def F.HIF_HS_BLK1_J : Fld := ⟨33559296, 0, 32, 0⟩
/-- `HIF_HS_CNT` at 0x10008C (spec/17_host_interfaces.md). -/
def F.HIF_HS_CNT_UNDER : Fld := ⟨33558928, 0, 16, 0⟩
/-- `HIF_MSIX` at 0x108000 (spec/17_host_interfaces.md). -/
def F.HIF_MSIX_W (n k : Nat) : Fld := ⟨34603008, n * 3 + k, 32, 0⟩
/-- `HIF_MSIXV` at 0x10800C (spec/17_host_interfaces.md). -/
def F.HIF_MSIXV_MASK (n : Nat) : Fld := ⟨34603392, n, 1, 1⟩
/-- `HIF_PBA` at 0x109000 (spec/17_host_interfaces.md). -/
def F.HIF_PBA_P (n : Nat) : Fld := ⟨34734080, n, 32, 0⟩
/-- `TWN_CTRL` at 0x110000 (spec/18_twin_pair.md). -/
def F.TWN_CTRL_STATUS : Fld := ⟨35651608, 0, 8, 0⟩
def F.TWN_CTRL_SWAP : Fld := ⟨35651607, 0, 1, 0⟩
def F.TWN_CTRL_TAKE : Fld := ⟨35651606, 0, 1, 0⟩
def F.TWN_CTRL_COLD : Fld := ⟨35651605, 0, 1, 0⟩
def F.TWN_CTRL_RESYNC : Fld := ⟨35651604, 0, 1, 0⟩
def F.TWN_CTRL_MATCHN : Fld := ⟨35651592, 0, 8, 64⟩
def F.TWN_CTRL_EN : Fld := ⟨35651588, 0, 1, 0⟩
def F.TWN_CTRL_STATE : Fld := ⟨35651584, 0, 2, 0⟩
/-- `TWN_STAT` at 0x110004 (spec/18_twin_pair.md). -/
def F.TWN_STAT_LANES : Fld := ⟨35651720, 0, 4, 0⟩
def F.TWN_STAT_PEERHB : Fld := ⟨35651718, 0, 1, 0⟩
def F.TWN_STAT_HBIN : Fld := ⟨35651717, 0, 1, 0⟩
def F.TWN_STAT_STRAP : Fld := ⟨35651716, 0, 1, 0⟩
def F.TWN_STAT_SYNC : Fld := ⟨35651714, 0, 2, 0⟩
def F.TWN_STAT_ROLE : Fld := ⟨35651712, 0, 2, 0⟩
/-- `TWN_WDOG` at 0x110008 (spec/18_twin_pair.md). -/
def F.TWN_WDOG_KICK : Fld := ⟨35651871, 0, 1, 0⟩
def F.TWN_WDOG_PERIOD : Fld := ⟨35651840, 0, 16, 20⟩
/-- `TWN_TIME` at 0x11000C (spec/18_twin_pair.md). -/
def F.TWN_TIME_BOOTWAIT : Fld := ⟨35651984, 0, 8, 50⟩
def F.TWN_TIME_RSYNC_T : Fld := ⟨35651976, 0, 8, 10⟩
def F.TWN_TIME_LEADT : Fld := ⟨35651968, 0, 8, 8⟩
/-- `TWN_CRC_L` at 0x110010 (spec/18_twin_pair.md). -/
def F.TWN_CRC_L_C : Fld := ⟨35652096, 0, 32, 0⟩
/-- `TWN_CRC_P` at 0x110014 (spec/18_twin_pair.md). -/
def F.TWN_CRC_P_C : Fld := ⟨35652224, 0, 32, 0⟩
/-- `TWN_CRCBLK` at 0x110018 (spec/18_twin_pair.md). -/
def F.TWN_CRCBLK_J : Fld := ⟨35652352, 0, 32, 0⟩
/-- `TWN_CNT` at 0x11001C (spec/18_twin_pair.md). -/
def F.TWN_CNT_MISM : Fld := ⟨35652496, 0, 16, 0⟩
def F.TWN_CNT_RSYNC : Fld := ⟨35652488, 0, 8, 0⟩
def F.TWN_CNT_LANE : Fld := ⟨35652480, 0, 8, 0⟩
/-- `TWN_EVT` at 0x110020 (spec/18_twin_pair.md). -/
def F.TWN_EVT_EVT : Fld := ⟨35652608, 0, 7, 0⟩
/-- `TWN_OBANK_LO` at 0x110030 (spec/18_twin_pair.md). -/
def F.TWN_OBANK_LO_M : Fld := ⟨35653120, 0, 32, 4294967295⟩
/-- `TWN_OBANK_HI` at 0x110034 (spec/18_twin_pair.md). -/
def F.TWN_OBANK_HI_M : Fld := ⟨35653248, 0, 32, 4294967295⟩
/-- `TWN_RGN0` at 0x110040 (spec/18_twin_pair.md). -/
def F.TWN_RGN0_SRCW (n : Nat) : Fld := ⟨35653632, n, 32, 0⟩
/-- `TWN_RGN1` at 0x110044 (spec/18_twin_pair.md). -/
def F.TWN_RGN1_D (n : Nat) : Fld := ⟨35653791, n, 1, 0⟩
def F.TWN_RGN1_SRCWH (n : Nat) : Fld := ⟨35653787, n, 4, 0⟩
def F.TWN_RGN1_LEN (n : Nat) : Fld := ⟨35653760, n, 20, 0⟩
/-- `TWN_LANE` at 0x110080 (spec/18_twin_pair.md). -/
def F.TWN_LANE_CRCERR (n : Nat) : Fld := ⟨35655696, n, 16, 0⟩
def F.TWN_LANE_EN (n : Nat) : Fld := ⟨35655684, n, 1, 0⟩
def F.TWN_LANE_STATE (n : Nat) : Fld := ⟨35655680, n, 2, 0⟩
/-- `DMC_CTRL` at 0x120000 (spec/11_memory.md). -/
def F.DMC_CTRL_EN : Fld := ⟨37748740, 0, 1, 0⟩
/-- `DMC_STAT` at 0x120004 (spec/11_memory.md). -/
def F.DMC_STAT_STATUS : Fld := ⟨37748888, 0, 8, 0⟩
def F.DMC_STAT_SIZE : Fld := ⟨37748868, 0, 16, 0⟩
def F.DMC_STAT_STATE : Fld := ⟨37748864, 0, 2, 0⟩
/-- `DMC_CFG` at 0x120008 (spec/11_memory.md). -/
def F.DMC_CFG_REUSE : Fld := ⟨37749001, 0, 1, 0⟩
def F.DMC_CFG_ECC : Fld := ⟨37749000, 0, 1, 0⟩
def F.DMC_CFG_RANKS : Fld := ⟨37748999, 0, 1, 0⟩
def F.DMC_CFG_CAP : Fld := ⟨37748996, 0, 2, 0⟩
def F.DMC_CFG_RATE : Fld := ⟨37748994, 0, 2, 0⟩
def F.DMC_CFG_TYPE : Fld := ⟨37748992, 0, 1, 0⟩
/-- `DMC_ECCCNT` at 0x120010 (spec/11_memory.md). -/
def F.DMC_ECCCNT_UNCORR : Fld := ⟨37749264, 0, 16, 0⟩
def F.DMC_ECCCNT_CORR : Fld := ⟨37749248, 0, 16, 0⟩
/-- `DMC_ECCLOG_LO` at 0x120014 (spec/11_memory.md). -/
def F.DMC_ECCLOG_LO_A : Fld := ⟨37749376, 0, 32, 0⟩
/-- `DMC_ECCLOG_HI` at 0x120018 (spec/11_memory.md). -/
def F.DMC_ECCLOG_HI_V : Fld := ⟨37749535, 0, 1, 0⟩
def F.DMC_ECCLOG_HI_A : Fld := ⟨37749504, 0, 8, 0⟩
/-- `DMC_BW` at 0x120020 (spec/11_memory.md). -/
def F.DMC_BW_N : Fld := ⟨37749760, 0, 32, 0⟩
/-- `DMC_EVT` at 0x120024 (spec/11_memory.md). -/
def F.DMC_EVT_EVT : Fld := ⟨37749888, 0, 3, 0⟩
/-- `PIN_GP` at 0x130000 (spec/23_electrical_and_package.md). -/
def F.PIN_GP_STATUS (n : Nat) : Fld := ⟨39845912, n, 8, 0⟩
def F.PIN_GP_PULL (n : Nat) : Fld := ⟨39845896, n, 2, 1⟩
def F.PIN_GP_IEDGE (n : Nat) : Fld := ⟨39845894, n, 2, 0⟩
def F.PIN_GP_IN (n : Nat) : Fld := ⟨39845893, n, 1, 0⟩
def F.PIN_GP_EN (n : Nat) : Fld := ⟨39845892, n, 1, 0⟩
def F.PIN_GP_DIR (n : Nat) : Fld := ⟨39845891, n, 1, 0⟩
def F.PIN_GP_OUT (n : Nat) : Fld := ⟨39845890, n, 1, 0⟩
def F.PIN_GP_STATE (n : Nat) : Fld := ⟨39845888, n, 2, 0⟩
/-- `PIN_EVT_LO` at 0x130100 (spec/23_electrical_and_package.md). -/
def F.PIN_EVT_LO_EDGE : Fld := ⟨39854080, 0, 32, 0⟩
/-- `PIN_EVT_HI` at 0x130104 (spec/23_electrical_and_package.md). -/
def F.PIN_EVT_HI_EDGE : Fld := ⟨39854208, 0, 16, 0⟩
/-- `EC_CTRL` at 0x200000 (spec/03_engine_core.md). -/
def F.EC_CTRL_HALT (n : Nat) : Fld := ⟨67108864, n, 1, 0⟩
/-- `EC_BUSY` at 0x200010 (spec/03_engine_core.md). -/
def F.EC_BUSY_CYC (n : Nat) : Fld := ⟨67109376, n, 32, 0⟩
/-- `EC_BUSYMAX` at 0x200014 (spec/03_engine_core.md). -/
def F.EC_BUSYMAX_CYC (n : Nat) : Fld := ⟨67109504, n, 32, 0⟩
/-- `EC_STALL` at 0x200018 (spec/03_engine_core.md). -/
def F.EC_STALL_CYC (n : Nat) : Fld := ⟨67109632, n, 32, 0⟩
/-- `VT0` at 0xA00000 (spec/07_voices_and_phasors.md). -/
def F.VT0_STATE (n : Nat) : Fld := ⟨335544349, n, 3, 0⟩
def F.VT0_DET (n : Nat) : Fld := ⟨335544348, n, 1, 0⟩
def F.VT0_NEW (n : Nat) : Fld := ⟨335544347, n, 1, 0⟩
def F.VT0_LAYER (n : Nat) : Fld := ⟨335544344, n, 3, 0⟩
def F.VT0_GROUP (n : Nat) : Fld := ⟨335544336, n, 8, 0⟩
def F.VT0_NOTE (n : Nat) : Fld := ⟨335544320, n, 16, 0⟩
/-- `VT1` at 0xA00004 (spec/07_voices_and_phasors.md). -/
def F.VT1_FIRST (n : Nat) : Fld := ⟨335544448, n, 12, 0⟩
/-- `VT2` at 0xA00008 (spec/07_voices_and_phasors.md). -/
def F.VT2_FRCLO (n : Nat) : Fld := ⟨335544576, n, 32, 0⟩
/-- `VT3` at 0xA0000C (spec/07_voices_and_phasors.md). -/
def F.VT3_FRCHI (n : Nat) : Fld := ⟨335544704, n, 32, 0⟩
/-- `VT4` at 0xA00010 (spec/07_voices_and_phasors.md). -/
def F.VT4_LEVEL (n : Nat) : Fld := ⟨335544832, n, 32, 0⟩
/-- `VT5` at 0xA00014 (spec/07_voices_and_phasors.md). -/
def F.VT5_FADEEND (n : Nat) : Fld := ⟨335544960, n, 32, 0⟩
/-- `PIP0` at 0xC00000 (spec/06_quince_scheduler.md). -/
def F.PIP0_IMAGE (n : Nat) : Fld := ⟨402653200, n, 16, 0⟩
def F.PIP0_MBZ (n : Nat) : Fld := ⟨402653198, n, 2, 0⟩
def F.PIP0_ENTRY (n : Nat) : Fld := ⟨402653184, n, 14, 0⟩
/-- `PIP1` at 0xC00004 (spec/06_quince_scheduler.md). -/
def F.PIP1_CLASS (n : Nat) : Fld := ⟨402653343, n, 1, 0⟩
def F.PIP1_REC (n : Nat) : Fld := ⟨402653342, n, 1, 0⟩
def F.PIP1_EN (n : Nat) : Fld := ⟨402653341, n, 1, 0⟩
def F.PIP1_SINK (n : Nat) : Fld := ⟨402653340, n, 1, 0⟩
def F.PIP1_GL (n : Nat) : Fld := ⟨402653336, n, 4, 0⟩
def F.PIP1_SER (n : Nat) : Fld := ⟨402653335, n, 1, 0⟩
def F.PIP1_AFF (n : Nat) : Fld := ⟨402653332, n, 3, 0⟩
def F.PIP1_TS (n : Nat) : Fld := ⟨402653331, n, 1, 0⟩
def F.PIP1_MBZ (n : Nat) : Fld := ⟨402653326, n, 5, 0⟩
def F.PIP1_DEP (n : Nat) : Fld := ⟨402653312, n, 14, 0⟩
/-- `PIP2` at 0xC00008 (spec/06_quince_scheduler.md). -/
def F.PIP2_SL (n : Nat) : Fld := ⟨402653471, n, 1, 0⟩
def F.PIP2_MBZ (n : Nat) : Fld := ⟨402653454, n, 17, 0⟩
def F.PIP2_SLIST (n : Nat) : Fld := ⟨402653440, n, 14, 0⟩
/-- `PIP3` at 0xC0000C (spec/06_quince_scheduler.md). -/
def F.PIP3_ARG0 (n : Nat) : Fld := ⟨402653568, n, 32, 0⟩
/-- `PIP4` at 0xC00010 (spec/06_quince_scheduler.md). -/
def F.PIP4_ARG1 (n : Nat) : Fld := ⟨402653696, n, 32, 0⟩
/-- `PIPSA` at 0xC00014 (spec/06_quince_scheduler.md). -/
def F.PIPSA_SRCW (n k : Nat) : Fld := ⟨402653824, n * 4 + k, 32, 0⟩
/-- `PIPSB` at 0xC00018 (spec/06_quince_scheduler.md). -/
def F.PIPSB_D (n k : Nat) : Fld := ⟨402653983, n * 4 + k, 1, 0⟩
def F.PIPSB_SRCWH (n k : Nat) : Fld := ⟨402653979, n * 4 + k, 4, 0⟩
def F.PIPSB_DSTW (n k : Nat) : Fld := ⟨402653965, n * 4 + k, 14, 0⟩
def F.PIPSB_MBZ (n k : Nat) : Fld := ⟨402653963, n * 4 + k, 2, 0⟩
def F.PIPSB_LENW (n k : Nat) : Fld := ⟨402653952, n * 4 + k, 11, 0⟩
/-- `PIP13` at 0xC00034 (spec/06_quince_scheduler.md). -/
def F.PIP13_STATE (n : Nat) : Fld := ⟨402654877, n, 3, 0⟩
def F.PIP13_QCOUNT (n : Nat) : Fld := ⟨402654864, n, 13, 0⟩
def F.PIP13_CNT (n : Nat) : Fld := ⟨402654848, n, 14, 0⟩
/-- `PIP14` at 0xC00038 (spec/06_quince_scheduler.md). -/
def F.PIP14_LASTBLK (n : Nat) : Fld := ⟨402654976, n, 32, 4294967295⟩

/-- Kept: the word a master's last register read returned (R10). -/
def I.RDATA (n : Nat) : Fld := ⟨536870912, n, 64, 0⟩
/-- Kept: engine start target F (R40). -/
def I.ENG_TGT : Fld := ⟨536870913, 0, 64, 0⟩
/-- Kept: 1: FRC has reached the start target and landing has started (R40). -/
def I.ENG_LANDED : Fld := ⟨536870914, 0, 1, 0⟩
/-- Kept: 1: a stop is pending (R40). -/
def I.ENG_STOPP : Fld := ⟨536870915, 0, 1, 0⟩
/-- Kept: stop target (R40). -/
def I.ENG_STOPT : Fld := ⟨536870916, 0, 64, 0⟩
/-- Kept: 1: the stop was requested while STARTING (R40). -/
def I.ENG_FROMSTART : Fld := ⟨536870917, 0, 1, 0⟩
/-- Kept: 1: RUN was written while STOPPING (R42). -/
def I.ENG_RESTART : Fld := ⟨536870918, 0, 1, 0⟩
/-- Kept: start target requested while STOPPING, 0 with AT clear (R42). -/
def I.ENG_REQ : Fld := ⟨536870919, 0, 64, 0⟩
/-- Kept: reference entry that was lost, 7 none (R52). -/
def I.CLK_LOST : Fld := ⟨536870920, 0, 3, 7⟩
/-- Kept: 1: the unit has left ACQUIRE once since PORST#, so FRC counts (R62). -/
def I.CLK_STARTED : Fld := ⟨536870921, 0, 1, 0⟩
/-- Kept: glitched edges in a row (R50). -/
def I.CLK_GLRUN : Fld := ⟨536870922, 0, 5, 0⟩
/-- Kept: TCLK count at the last glitched edge (R50). -/
def I.CLK_GLAT : Fld := ⟨536870923, 0, 64, 0⟩
/-- Kept: 1: a rate change waits for its FRC value (R65). -/
def I.RATE_PEND : Fld := ⟨536870924, 0, 1, 0⟩
/-- Kept: FRC value at which the pending rate change applies (R65). -/
def I.RATE_AT : Fld := ⟨536870925, 0, 64, 0⟩
/-- Kept: MULT in effect (R65). -/
def I.RATE_M : Fld := ⟨536870926, 0, 2, 1⟩
/-- Kept: BLOCK in effect (R65). -/
def I.RATE_B : Fld := ⟨536870927, 0, 2, 1⟩
/-- Kept: FAMILY in effect (R66). -/
def I.RATE_F : Fld := ⟨536870928, 0, 1, 0⟩
/-- Kept: 1: an FRC load waits for the next sample (R64). -/
def I.FRC_LOADP : Fld := ⟨536870929, 0, 1, 0⟩
/-- Kept: divider in effect of an MCLKO output (R60). -/
def I.MCLKO_DIV (n : Nat) : Fld := ⟨536870930, n, 4, 7⟩
/-- Kept: source in effect of SYNCOUT (R61). -/
def I.SYNC_SRC : Fld := ⟨536870931, 0, 2, 0⟩
/-- Kept: a master's own last violation record (index 4 × master + word) (R400). -/
def I.VREC (n : Nat) : Fld := ⟨536870932, n, 32, 0⟩
/-- Kept: entries in the fault log ring, 256 at most (R416). -/
def I.MDL_LOGN : Fld := ⟨536870933, 0, 9, 0⟩
/-- Kept: sequence number of the next frame sent (R384). -/
def I.TWN_TXSEQ : Fld := ⟨536870934, 0, 24, 0⟩
/-- Kept: sequence number expected of the partner's next frame (R385). -/
def I.TWN_RXSEQ : Fld := ⟨536870935, 0, 24, 0⟩
/-- Kept: MIRROR frames this chip may still send (R385). -/
def I.TWN_CREDIT : Fld := ⟨536870936, 0, 8, 64⟩
/-- Kept: 1: HOLDOVER_MAX has elapsed with no other qualified reference (R52). -/
def I.CLK_HOEXP : Fld := ⟨536870937, 0, 1, 0⟩
/-- Kept: value of the waiting FRC load (R64). -/
def I.FRC_LOADV : Fld := ⟨536870938, 0, 64, 0⟩
/-- Kept: one more than the FRC of the last block tick raised, 0 none (R15). -/
def I.TICKED : Fld := ⟨536870939, 0, 64, 0⟩
/-- Kept: successor list word (index 4 × list + word) (R155). -/
def I.SLIST (n : Nat) : Fld := ⟨536870940, n, 32, 0⟩
/-- Kept: 1: a completion has been counted since the pip was enabled (R157). -/
def I.PIP_DONE (n : Nat) : Fld := ⟨536870941, n, 1, 0⟩
/-- Kept: 1: the GRAPH pip is armed (R156). -/
def I.PIP_ARM (n : Nat) : Fld := ⟨536870942, n, 1, 0⟩
/-- Kept: block the GRAPH pip is armed for (R156). -/
def I.PIP_BLK (n : Nat) : Fld := ⟨536870943, n, 64, 0⟩
/-- Kept: ready number of a READY GRAPH pip (R169). -/
def I.PIP_RDY (n : Nat) : Fld := ⟨536870944, n, 64, 0⟩
/-- Kept: arrival number of the next event (R164). -/
def I.QN_ARR : Fld := ⟨536870945, 0, 64, 0⟩
/-- Kept: ready number given next (R165). -/
def I.QN_RDY : Fld := ⟨536870946, 0, 64, 0⟩
/-- Kept: pip starts counted, for the age of frames (R170). -/
def I.QN_START : Fld := ⟨536870947, 0, 64, 0⟩
/-- Kept: one more than the block last armed, 0 none (R159). -/
def I.QN_ARMBLK : Fld := ⟨536870948, 0, 64, 0⟩
/-- Kept: one more than the last block that overran, 0 none (R161). -/
def I.QN_OVRBLK : Fld := ⟨536870949, 0, 64, 0⟩
/-- Kept: number of the note that the slot belongs to (R177). -/
def I.VT_NUM (n : Nat) : Fld := ⟨536870950, n, 64, 0⟩
/-- Kept: block that holds the last sample of the slot's fade (R187). -/
def I.VT_FADEBLK (n : Nat) : Fld := ⟨536870951, n, 64, 0⟩
/-- Kept: number of the next note (R177). -/
def I.VM_NUM : Fld := ⟨536870952, 0, 64, 0⟩
/-- Kept: 1: the group's first word waits, and its later words behind it (R189). -/
def I.VM_BLK (n : Nat) : Fld := ⟨536870953, n, 1, 0⟩
/-- Kept: 1: notes of the group still wait to be faded out (R203). -/
def I.VM_GKILL (n : Nat) : Fld := ⟨536870954, n, 1, 0⟩
/-- Kept: one more than the block for which the join pip was decremented, 0 none (R192). -/
def I.VM_JOINED (n : Nat) : Fld := ⟨536870955, n, 64, 0⟩
/-- Kept: phase P of the phasor (R198). -/
def I.PH_P (n : Nat) : Fld := ⟨536870956, n, 48, 0⟩
/-- Kept: step D of the phasor (R198). -/
def I.PH_D (n : Nat) : Fld := ⟨536870957, n, 48, 0⟩
/-- Kept: slope G of the phasor (R198). -/
def I.PH_G (n : Nat) : Fld := ⟨536870958, n, 32, 0⟩
/-- Kept: EN of a quad in effect, taken at a tick (R211). -/
def I.QUAD_EN (n : Nat) : Fld := ⟨536870959, n, 1, 0⟩
/-- Kept: 1: Bramble is not admitted to the quad's bank for this block (R212). -/
def I.QUAD_SKIP (n : Nat) : Fld := ⟨536870960, n, 1, 0⟩
/-- Kept: S of the armed swap (R217). -/
def I.SWAP_S : Fld := ⟨536870961, 0, 64, 0⟩
/-- Kept: F of the swap made (R219). -/
def I.SWAP_F : Fld := ⟨536870962, 0, 64, 0⟩
/-- Kept: one more than the last block for which the sink pip was unfinished at the deadline (R213). -/
def I.PIP_OVM (n : Nat) : Fld := ⟨536870963, n, 64, 0⟩
/-- Kept: EN of a meter tap in effect (R225). -/
def I.MTAP_EN (n : Nat) : Fld := ⟨536870964, n, 1, 0⟩
/-- Kept: SIDE of a meter tap in effect (R225). -/
def I.MTAP_SIDE (n : Nat) : Fld := ⟨536870965, n, 1, 0⟩
/-- Kept: EP of a meter tap in effect (R225). -/
def I.MTAP_EP (n : Nat) : Fld := ⟨536870966, n, 12, 0⟩
/-- Kept: input mask in effect (R280). -/
def I.AP_IMASK (n : Nat) : Fld := ⟨536870967, n, 32, 0⟩
/-- Kept: output mask in effect (R280). -/
def I.AP_OMASK (n : Nat) : Fld := ⟨536870968, n, 32, 0⟩
/-- Kept: EN of a host ring in effect, taken at a tick (R375). -/
def I.HS_EN (n : Nat) : Fld := ⟨536870969, n, 1, 0⟩
/-- Kept: 1: Bramble is not admitted to the ring's bank for this block (R375). -/
def I.HS_SKIP (n : Nat) : Fld := ⟨536870970, n, 1, 0⟩
/-- Kept: one more than the input block found complete, by block index modulo 4 (R375). -/
def I.HS_OK (n : Nat) : Fld := ⟨536870971, n, 64, 0⟩
/-- Kept: 1: the channel waits for a spare to deliver data, and is absent (R288). -/
def I.ASRC_GONE (n : Nat) : Fld := ⟨536870972, n, 1, 0⟩
/-- Kept: 1: the waiting port takes part in its group's armed start (R277). -/
def I.AP_JOIN (n : Nat) : Fld := ⟨536870973, n, 1, 0⟩
/-- Kept: 1: the feature that owns the channel wants it in service (R284). -/
def I.ASRC_EN (n : Nat) : Fld := ⟨536870974, n, 1, 0⟩
/-- Kept: 1: the logical channel is retired without a spare (R288). -/
def I.ASRC_DEAD (n : Nat) : Fld := ⟨536870975, n, 1, 0⟩
/-- Kept: 1: the physical channel is retired (R288). -/
def I.ASRC_PRET (n : Nat) : Fld := ⟨536870976, n, 1, 0⟩
/-- Kept: 1: the physical channel's last coefficient check failed (R408). -/
def I.ASRC_PAR (n : Nat) : Fld := ⟨536870977, n, 1, 0⟩
/-- Kept: sets staged for the next Z preamble: bit 2 × user + u (R294). -/
def I.AES_TXP (n : Nat) : Fld := ⟨536870978, n, 4, 0⟩
/-- Kept: channel-status and user words being sent (index 24 t + 12 user + 6 u + w) (R294). -/
def I.AES_TXE (n : Nat) : Fld := ⟨536870979, n, 32, 0⟩
/-- Kept: count at the channel's last step that a command gave (R297). -/
def I.TMR_BASE (n : Nat) : Fld := ⟨536870980, n, 32, 0⟩
/-- Kept: TCLK time of that step (R297). -/
def I.TMR_AT (n : Nat) : Fld := ⟨536870981, n, 64, 0⟩
/-- Kept: RELOAD of the lap in progress (R298). -/
def I.TMR_RLD (n : Nat) : Fld := ⟨536870982, n, 32, 4294967295⟩
/-- Kept: TMR_OUT in effect (R298). -/
def I.TMR_OUTE (n : Nat) : Fld := ⟨536870983, n, 9, 0⟩
/-- Kept: pending value of compare A (R306). -/
def I.TMR_PA (n : Nat) : Fld := ⟨536870984, n, 32, 0⟩
/-- Kept: pending value of compare B (R306). -/
def I.TMR_PB (n : Nat) : Fld := ⟨536870985, n, 32, 0⟩
/-- Kept: 1: software has written A's pending value in this lap (R307). -/
def I.TMR_WA (n : Nat) : Fld := ⟨536870986, n, 1, 0⟩
/-- Kept: 1: software has written B's pending value in this lap (R307). -/
def I.TMR_WB (n : Nat) : Fld := ⟨536870987, n, 1, 0⟩
/-- Kept: 1: compare A has matched in this lap, or is not armed for it (R306). -/
def I.TMR_MA (n : Nat) : Fld := ⟨536870988, n, 1, 0⟩
/-- Kept: 1: compare B has matched in this lap, or is not armed for it (R306). -/
def I.TMR_MB (n : Nat) : Fld := ⟨536870989, n, 1, 0⟩
/-- Kept: TMR_SNAP for a reading master (index 256 n + master) (R302). -/
def I.TMR_SNAP (n : Nat) : Fld := ⟨536870990, n, 32, 0⟩
/-- Kept: TMR_CSNAP for a reading master (index 256 n + master) (R315). -/
def I.TMR_CSNAP (n : Nat) : Fld := ⟨536870991, n, 32, 0⟩
/-- Kept: divisor in effect (R319). -/
def I.U_DIVE (n : Nat) : Fld := ⟨536870992, n, 22, 6827⟩
/-- Kept: PCLK at which the character in the transmit shifter ends (R319). -/
def I.U_TXEND (n : Nat) : Fld := ⟨536870993, n, 64, 0⟩
/-- Kept: the code the channel goes to, pending while SPANCHG (R339). -/
def I.DMS_TGT (n : Nat) : Fld := ⟨536870994, n, 24, 0⟩
/-- Kept: voltage in µV from which the slew limiter moves (R338). -/
def I.DMS_FROM (n : Nat) : Fld := ⟨536870995, n, 22, 0⟩
/-- Kept: voltage in µV to which the slew limiter moves (R338). -/
def I.DMS_TO (n : Nat) : Fld := ⟨536870996, n, 22, 0⟩
/-- Kept: PCLK count at which the move begins (R338). -/
def I.DMS_SAT (n : Nat) : Fld := ⟨536870997, n, 64, 0⟩
/-- Kept: PCLK count at which the hold or the step of a span change ends (R339). -/
def I.DMS_DUE (n : Nat) : Fld := ⟨536870998, n, 64, 0⟩
/-- Kept: ramp of the stream: 0 none, 1 in, 2 out (R343). -/
def I.DMS_RDIR (n : Nat) : Fld := ⟨536870999, n, 2, 0⟩
/-- Kept: FRC at which the ramp began (R343). -/
def I.DMS_RAT (n : Nat) : Fld := ⟨536871000, n, 64, 0⟩
/-- Kept: step of the span change: 0 none, 1 to SAFE, 2 hold, 3 settle, 4 to the code (R344). -/
def I.DMS_PH (n : Nat) : Fld := ⟨536871001, n, 3, 0⟩
/-- Kept: span being switched to (R344). -/
def I.DMS_NSPAN (n : Nat) : Fld := ⟨536871002, n, 2, 0⟩
/-- Kept: 1: the span written is held for ON or for the end of the sequence (R344). -/
def I.DMS_HELD (n : Nat) : Fld := ⟨536871003, n, 1, 0⟩
/-- Kept: 1: DACCLR# has gone low and not come back (R343). -/
def I.DMS_LOW : Fld := ⟨536871004, 0, 1, 0⟩
/-- Kept: 1: the board holds DACCLR# low (R343). -/
def I.DMS_OUTER : Fld := ⟨536871005, 0, 1, 0⟩
/-- Kept: 1: the output stage has failed or is worn (index 2 × channel + stage) (R347). -/
def I.DMS_UNFIT (n : Nat) : Fld := ⟨536871006, n, 1, 0⟩
/-- Kept: 1: the spare stage has been told to take over (R347). -/
def I.DMS_SWAP (n : Nat) : Fld := ⟨536871007, n, 1, 0⟩
/-- Kept: 1: Rind has enabled Currant (R352). -/
def I.CUR_EN : Fld := ⟨536871008, 0, 1, 0⟩
/-- Kept: number of the next conversion slot, if it lies ahead (R352). -/
def I.CUR_SLOT : Fld := ⟨536871009, 0, 64, 0⟩
/-- Kept: place of the next rotation channel among the 32 (R352). -/
def I.CUR_ROT : Fld := ⟨536871010, 0, 5, 0⟩
/-- Kept: readings in a row on the other side of the channel's window, or of the tap's tolerance (R354). -/
def I.CUR_RUN (n : Nat) : Fld := ⟨536871011, n, 3, 0⟩
/-- Kept: readings in a row above a threshold, to 4 (index 2 × sensor + 1 for CRIT) (R354). -/
def I.CUR_HOT (n : Nat) : Fld := ⟨536871012, n, 3, 0⟩
/-- Kept: readings in a row at least 2 °C below a threshold, to 4 (index 2 × sensor + 1 for CRIT) (R354). -/
def I.CUR_COOL (n : Nat) : Fld := ⟨536871013, n, 3, 0⟩
/-- Kept: further judged readings left to re-judge a loopback mismatch (R408). -/
def I.CUR_REJ (n : Nat) : Fld := ⟨536871014, n, 3, 0⟩
/-- Kept: 1: a pass of the scan list is under way (R353). -/
def I.CUR_PASS : Fld := ⟨536871015, 0, 1, 0⟩
/-- Kept: scan entries of the pass (R353). -/
def I.CUR_LIST (n : Nat) : Fld := ⟨536871016, n, 32, 0⟩
/-- Kept: entry being converted (R353). -/
def I.CUR_ENT : Fld := ⟨536871017, 0, 6, 0⟩
/-- Kept: conversions of the entry so far (R353). -/
def I.CUR_CNT : Fld := ⟨536871018, 0, 8, 0⟩
/-- Kept: their sum, two's complement (R353). -/
def I.CUR_SUM : Fld := ⟨536871019, 0, 32, 0⟩
/-- Kept: result of the entry at the last tick: VALID and CODE (R356). -/
def I.CUR_POST (n : Nat) : Fld := ⟨536871020, n, 17, 0⟩
/-- Kept: 1: the maxima of word 0 hold a sample (R359). -/
def I.MTR_N (n : Nat) : Fld := ⟨536871021, n, 1, 0⟩
/-- Kept: 1: OVCNT has counted since it was read (R360). -/
def I.MTR_OVD (n : Nat) : Fld := ⟨536871022, n, 1, 0⟩
/-- Kept: 1: the display peak falls (R361). -/
def I.MTR_FALL (n : Nat) : Fld := ⟨536871023, n, 1, 0⟩
/-- Kept: 1: the display peak holds a measure (R361). -/
def I.MTR_DN (n : Nat) : Fld := ⟨536871024, n, 1, 0⟩
/-- Kept: TCLK of the true peak shown, or at which it began to fall (R361). -/
def I.MTR_FAT (n : Nat) : Fld := ⟨536871025, n, 64, 0⟩
/-- Kept: one more than the TCLK at which an output meter last exceeded -60 dBFS, 0 none (R362). -/
def I.CUR_LIVEAT : Fld := ⟨536871026, 0, 64, 0⟩
/-- Kept: updates since the group's measures were restarted (R363). -/
def I.LG_N (n : Nat) : Fld := ⟨536871027, n, 32, 0⟩
/-- Kept: TCLK from which the group's updates count (R363). -/
def I.LG_AT (n : Nat) : Fld := ⟨536871028, n, 64, 0⟩
/-- Kept: 1: the group's membership has changed since the last tick (R363). -/
def I.LG_MEM (n : Nat) : Fld := ⟨536871029, n, 1, 0⟩
/-- Kept: 1: the physical core is retired (R411). -/
def I.PC_RET (n : Nat) : Fld := ⟨536871030, n, 1, 0⟩
/-- Kept: 1: the physical core receives a copy or is being tested (R405). -/
def I.PC_BUSY (n : Nat) : Fld := ⟨536871031, n, 1, 0⟩
/-- Kept: 1: the physical bank is retired (R411). -/
def I.PB_RET (n : Nat) : Fld := ⟨536871032, n, 1, 0⟩
/-- Kept: 1: the physical bank receives a copy, stands in or is being tested (R258). -/
def I.PB_BUSY (n : Nat) : Fld := ⟨536871033, n, 1, 0⟩
/-- Kept: one more than the logical core in rotation, in COPY or SWITCH, 0 none (R405). -/
def I.ROT_N : Fld := ⟨536871034, 0, 7, 0⟩
/-- Kept: one more than the physical core under test, 0 none (R405). -/
def I.ROT_TEST : Fld := ⟨536871035, 0, 7, 0⟩
/-- Kept: logical core whose old physical core is under test (R405). -/
def I.ROT_OF : Fld := ⟨536871036, 0, 6, 0⟩
/-- Kept: logical core whose turn comes next (R404). -/
def I.ROT_NEXT : Fld := ⟨536871037, 0, 6, 0⟩
/-- Kept: one more than the logical bank on background loan, 0 none (R404). -/
def I.LOAN_N : Fld := ⟨536871038, 0, 7, 0⟩
/-- Kept: logical bank whose turn comes next (R404). -/
def I.LOAN_NEXT : Fld := ⟨536871039, 0, 6, 0⟩
/-- Kept: 1: an interval of the rotations has expired during one (R404). -/
def I.ROT_DUE : Fld := ⟨536871040, 0, 1, 0⟩
/-- Kept: 1: an interval of the bank loans has expired during one (R404). -/
def I.LOAN_DUE : Fld := ⟨536871041, 0, 1, 0⟩
/-- Kept: one more than the logical bank on repair loan, 0 none (R413). -/
def I.RPL_N : Fld := ⟨536871042, 0, 7, 0⟩
/-- Kept: 1: the bank that the repair loan releases is tested (R413). -/
def I.RPL_TEST : Fld := ⟨536871043, 0, 1, 0⟩
/-- Kept: order of a bank repair that waits, 0 none (R414). -/
def I.RPL_ORD (n : Nat) : Fld := ⟨536871044, n, 32, 0⟩
/-- Kept: 1: the bank that a waiting repair loan releases will be tested (R413). -/
def I.RPL_TORD (n : Nat) : Fld := ⟨536871045, n, 1, 0⟩
/-- Kept: one more than the logical core in repair, 0 none (R412). -/
def I.RPS_N : Fld := ⟨536871046, 0, 7, 0⟩
/-- Kept: order of a core repair that waits, 0 none (R414). -/
def I.RPS_ORD (n : Nat) : Fld := ⟨536871047, n, 32, 0⟩
/-- Kept: repairs classified (R414). -/
def I.RP_SEQ : Fld := ⟨536871048, 0, 32, 0⟩
/-- Kept: one more than the TCLK at which the logical core was last tested, 0 never (R406). -/
def I.CTEST_AT (n : Nat) : Fld := ⟨536871049, n, 64, 0⟩
/-- Kept: one more than the TCLK at which the logical bank was last tested, 0 never (R406). -/
def I.BTEST_AT (n : Nat) : Fld := ⟨536871050, n, 64, 0⟩
/-- Kept: one more than the spare physical channel that is to take over, 0 none (R288). -/
def I.ASRC_NEW (n : Nat) : Fld := ⟨536871051, n, 10, 0⟩
/-- Kept: PCLK count at which the spare began to run in parallel (R288). -/
def I.ASRC_RPAT (n : Nat) : Fld := ⟨536871052, n, 64, 0⟩
/-- Kept: MSI-X messages sent for a vector (R368). -/
def I.MSIX_SENT (n : Nat) : Fld := ⟨536871053, n, 32, 0⟩
/-- Kept: 1: PEWAKE# is driven low (R482). -/
def I.PEWAKE : Fld := ⟨536871054, 0, 1, 0⟩
/-- Kept: status byte of the previous SPI transaction (R371). -/
def I.SPI_ST : Fld := ⟨536871055, 0, 8, 0⟩
/-- Kept: 1: the last PCIe read was answered with completer abort (R366). -/
def I.PE_ABORT : Fld := ⟨536871056, 0, 1, 0⟩
/-- Kept: credits that this chip has still to grant (R385). -/
def I.TWN_OWED : Fld := ⟨536871057, 0, 8, 0⟩
/-- Kept: 1: the partner has reported HEALTHY in a trial of the manifest that runs here (R443). -/
def I.TWN_PHLT : Fld := ⟨536871058, 0, 1, 0⟩
/-- Kept: 1: the partner runs the same images (R388). -/
def I.TWN_SAME : Fld := ⟨536871059, 0, 1, 0⟩
/-- Kept: PCLK count when the pair was enabled (R378). -/
def I.TWN_ENAT : Fld := ⟨536871060, 0, 64, 0⟩
/-- Kept: PCLK count when resynchronisation began (R388). -/
def I.TWN_RSAT : Fld := ⟨536871061, 0, 64, 0⟩
/-- Kept: PCLK count at the last KICK (R389). -/
def I.TWN_WDAT : Fld := ⟨536871062, 0, 64, 0⟩
/-- Kept: copy pass being sent: 0 none, 1 of everything, 2 to 5 of the pages written since (R388). -/
def I.TWN_CPASS : Fld := ⟨536871063, 0, 3, 0⟩
/-- Kept: place of the next COPY frame in the pass (R388). -/
def I.TWN_CPOS : Fld := ⟨536871064, 0, 64, 0⟩
/-- Kept: 1: a planned handover is pending (R392). -/
def I.TWN_SWAP : Fld := ⟨536871065, 0, 1, 0⟩
/-- Kept: one more than the tick at which a forced exchange of roles is due, 0 none (R392). -/
def I.TWN_XCH : Fld := ⟨536871066, 0, 64, 0⟩
/-- Kept: 1: the partner is lost (R385). -/
def I.TWN_LOST : Fld := ⟨536871067, 0, 1, 0⟩
/-- Kept: matching blocks in a row (R388). -/
def I.TWN_MATCH : Fld := ⟨536871068, 0, 8, 0⟩
/-- Kept: 1: a partner CRC waits for the local one (R387). -/
def I.TWN_PV : Fld := ⟨536871069, 0, 1, 0⟩
/-- Kept: block of the waiting partner CRC (R387). -/
def I.TWN_PBLK : Fld := ⟨536871070, 0, 64, 0⟩
/-- Kept: the waiting partner CRC (R387). -/
def I.TWN_PCRC : Fld := ⟨536871071, 0, 32, 0⟩
/-- Kept: 1: a STATUS frame has come since the last tick (R388). -/
def I.TWN_GOT : Fld := ⟨536871072, 0, 1, 0⟩
/-- Kept: STATUS frames missing in a row (R388). -/
def I.TWN_MISS : Fld := ⟨536871073, 0, 2, 0⟩
/-- Kept: level of TW_HB_OUT (R389). -/
def I.TWN_HBO : Fld := ⟨536871074, 0, 1, 0⟩
/-- Kept: one more than the tick at which this chip did not change TW_HB_OUT, 0 none (R390). -/
def I.TWN_HBF : Fld := ⟨536871075, 0, 64, 0⟩
/-- Kept: 1: this chip changed TW_HB_OUT at the last tick (R390). -/
def I.TWN_HBP : Fld := ⟨536871076, 0, 1, 0⟩
/-- Kept: 1: TWN_WDOG.PERIOD has passed without a KICK (R389). -/
def I.TWN_WDX : Fld := ⟨536871077, 0, 1, 0⟩
/-- Kept: 1: the copy passes are over (R388). -/
def I.TWN_CPD : Fld := ⟨536871078, 0, 1, 0⟩
/-- Kept: tick T at which the standby starts (R388). -/
def I.TWN_T : Fld := ⟨536871079, 0, 64, 0⟩
/-- Kept: 1: both chips were ACTIVE, and this one becomes STANDBY at its next tick (R378). -/
def I.TWN_DEMOTE : Fld := ⟨536871080, 0, 1, 0⟩
/-- Kept: low word of the FRC being loaded from the partner (R388). -/
def I.TWN_FRCLO : Fld := ⟨536871081, 0, 32, 0⟩
/-- Kept: 1: the supply is bad (R470). -/
def I.PW_BAD (n : Nat) : Fld := ⟨536871082, n, 1, 0⟩
/-- Kept: 1: PORST# is low (R471). -/
def I.PW_PORST : Fld := ⟨536871083, 0, 1, 0⟩
/-- Kept: 1: the KX7 is hold-safe (R471). -/
def I.PW_HOLD : Fld := ⟨536871084, 0, 1, 0⟩
/-- Kept: 1: a supply became bad after release, so memories are not guaranteed (R472). -/
def I.PW_LOST : Fld := ⟨536871085, 0, 1, 0⟩
/-- Kept: level of PWRSRC (R439). -/
def I.PWRSRC : Fld := ⟨536871086, 0, 1, 0⟩
/-- Kept: 0 Rind boots, 1 the steward firmware runs, 2 Rind recovery (R477). -/
def I.BOOT_PH : Fld := ⟨536871087, 0, 2, 0⟩
/-- Kept: slot chosen or running: 0 none, 1 A, 2 B (R477). -/
def I.BOOT_SLOT : Fld := ⟨536871088, 0, 2, 0⟩
/-- Kept: 1: the digests of the chosen slot are checked (R477). -/
def I.BOOT_DIG : Fld := ⟨536871089, 0, 1, 0⟩
/-- Kept: 1: the U0 check is decided (R479). -/
def I.BOOT_U0 : Fld := ⟨536871090, 0, 1, 0⟩
/-- Kept: 1: the slot was chosen from TRIAL (R442). -/
def I.BOOT_TRIAL : Fld := ⟨536871091, 0, 1, 0⟩
/-- Kept: 1: a slot that read BOOTED was set to FAILED, to be reported (R425). -/
def I.FB_PEND : Fld := ⟨536871092, 0, 1, 0⟩
/-- Kept: settings copy selected: 0 none, 1 copy 0, 2 copy 1 (R427). -/
def I.SET_COPY : Fld := ⟨536871093, 0, 2, 0⟩
/-- Kept: one more than the copy that an uncommitted image writes to, 0 none (R429). -/
def I.SET_SLOT : Fld := ⟨536871094, 0, 2, 0⟩
/-- Kept: 1: the last settings write was read back (R428). -/
def I.SET_OK : Fld := ⟨536871095, 0, 1, 0⟩
/-- Kept: TCLK at which the trial began (R442). -/
def I.TRIAL_AT : Fld := ⟨536871096, 0, 64, 0⟩
/-- Kept: a byte of the digest of the owner code, all zero when none is set (R430). -/
def I.OWN_DIG (n : Nat) : Fld := ⟨536871097, n, 8, 0⟩
/-- Kept: 1: Rind has not yet applied the BOOT record (R475). -/
def I.RSTOUT_B : Fld := ⟨536871098, 0, 1, 0⟩
/-- Kept: 1: the key slot's fuses are written (R433). -/
def I.KEY_WR (n : Nat) : Fld := ⟨536871099, n, 1, 0⟩
/-- Kept: 1: the key slot is revoked (R433). -/
def I.KEY_REV (n : Nat) : Fld := ⟨536871100, n, 1, 0⟩
/-- Kept: 1: the session is unlocked (R445). -/
def I.CFG_UNL : Fld := ⟨536871101, 0, 1, 0⟩
/-- Kept: wrong owner codes in the session (R445). -/
def I.CFG_WRONG : Fld := ⟨536871102, 0, 3, 0⟩
/-- Kept: 1: CFG_UNLOCK is refused for 60 s (R445). -/
def I.CFG_LOCKO : Fld := ⟨536871103, 0, 1, 0⟩
/-- Kept: package offset of the next part (R438). -/
def I.CFG_CUR : Fld := ⟨536871104, 0, 32, 0⟩
/-- Kept: 1: the target slot has been erased for this staging (R438). -/
def I.CFG_ERASED : Fld := ⟨536871105, 0, 1, 0⟩
/-- Kept: 1: this chip activates when the handover completes (R443). -/
def I.ACT_PAIR : Fld := ⟨536871106, 0, 1, 0⟩
/-- Kept: HOP of this unit (R444). -/
def I.CH_HOP : Fld := ⟨536871107, 0, 6, 0⟩
/-- Kept: 1: this unit is the head of a chain update (R444). -/
def I.CH_HEAD : Fld := ⟨536871108, 0, 1, 0⟩
/-- Kept: 1: a hop has answered with a failure (R446). -/
def I.CH_BAD : Fld := ⟨536871109, 0, 1, 0⟩
/-- Kept: 1: this unit cannot stage and only forwards (R446). -/
def I.CH_CANT : Fld := ⟨536871110, 0, 1, 0⟩
/-- Kept: 1: the answer of the step in hand has been sent (R446). -/
def I.CH_SENT : Fld := ⟨536871111, 0, 1, 0⟩
/-- Kept: package bytes that Rind still awaits (R448). -/
def I.RL_LEFT : Fld := ⟨536871112, 0, 32, 0⟩
/-- Kept: block that Rind awaits (R448). -/
def I.RL_BLK : Fld := ⟨536871113, 0, 32, 0⟩
/-- Kept: 1: the owner code has been entered in recovery (R447). -/
def I.RL_UNL : Fld := ⟨536871114, 0, 1, 0⟩
/-- Kept: rate of Rind's line in baud (R447). -/
def I.RL_BAUD : Fld := ⟨536871115, 0, 32, 115200⟩
/-- Kept: boundary-scan instruction in force: 0 BYPASS, 1 SAMPLE/PRELOAD, 2 EXTEST, 3 IDCODE, 4 HIGHZ, 5 CLAMP (R499). -/
def I.JTAG_IR : Fld := ⟨536871116, 0, 3, 3⟩
/-- Kept: the IDCODE last captured for shifting out (R499). -/
def I.JTAG_DR : Fld := ⟨536871117, 0, 32, 0⟩
/-- Kept: 1: the service link echoes (R450). -/
def I.SL_ECHO : Fld := ⟨536871118, 0, 1, 1⟩
/-- Kept: rate of the service link in baud (R452). -/
def I.SL_BAUD : Fld := ⟨536871119, 0, 32, 115200⟩
/-- Kept: 1: no line with a valid terminator has come since the rate was changed (R452). -/
def I.SL_NEW : Fld := ⟨536871120, 0, 1, 0⟩
/-- Kept: 1: a DSET holds the channel (R463). -/
def I.DSET_ON (n : Nat) : Fld := ⟨536871121, n, 1, 0⟩
/-- Kept: DMS_CFG as the DSET left it (R464). -/
def I.DSET_CFG (n : Nat) : Fld := ⟨536871122, n, 32, 0⟩
/-- Kept: DMS_SPAN.SPAN as the DSET left it (R464). -/
def I.DSET_SPAN (n : Nat) : Fld := ⟨536871123, n, 2, 0⟩
/-- Kept: DMS_CODE as the DSET left it (R464). -/
def I.DSET_CODE (n : Nat) : Fld := ⟨536871124, n, 24, 0⟩
/-- Kept: EN of a reference entry in effect, taken at its gate (R56). -/
def I.REF_EN (n : Nat) : Fld := ⟨536871125, n, 1, (if n = 0 then 1 else 0)⟩
/-- Kept: KIND of a reference entry in effect (R56). -/
def I.REF_KIND (n : Nat) : Fld := ⟨536871126, n, 3, 0⟩
/-- Kept: INST of a reference entry in effect (R56). -/
def I.REF_INST (n : Nat) : Fld := ⟨536871127, n, 5, 0⟩
/-- Kept: TCLK at which the root frequency's offset in CLK_PPM was taken (R54). -/
def I.CLK_WORDAT : Fld := ⟨536871128, 0, 64, 0⟩
/-- Kept: the tuning word held in HOLDOVER, I32 in 0.001 ppm (R51). -/
def I.CLK_HELD : Fld := ⟨536871129, 0, 32, 0⟩
/-- Kept: TCLK at which HOLDOVER was entered (R51). -/
def I.CLK_HELDAT : Fld := ⟨536871130, 0, 64, 0⟩
/-- Kept: the offset of the selected reference, I32 in 0.001 ppm (R54). -/
def I.CLK_REFPPM : Fld := ⟨536871131, 0, 32, 0⟩
/-- Kept: PCLK periods since release, from the root or the FRO (R67). -/
def I.PCLK : Fld := ⟨536871132, 0, 64, 0⟩
/-- Kept: 1: the block that the output quad drains in this period is incomplete (R213). -/
def I.QUAD_INC (n : Nat) : Fld := ⟨536871133, n, 1, 0⟩
/-- Kept: source reads made since the last tick (R218). -/
def I.BRM_RD : Fld := ⟨536871134, 0, 64, 0⟩
/-- Kept: destination writes made since the last tick (R218). -/
def I.BRM_WR : Fld := ⟨536871135, 0, 64, 0⟩
/-- Kept: one more than the block of the partner's last AUDIO or STATUS frame (R386). -/
def I.TWN_SEEN : Fld := ⟨536871136, 0, 64, 0⟩
/-- Kept: one more than the FRC of the sample whose input words a framing error makes zero (R270). -/
def I.AP_ZERO (n : Nat) : Fld := ⟨536871137, n, 64, 0⟩
/-- Kept: one more than the FRC of the sample at which a slip repeats the last input words (R274). -/
def I.AP_REP (n : Nat) : Fld := ⟨536871138, n, 64, 0⟩
/-- Kept: frames started since the port's lead or shutdown began (R276). -/
def I.AP_FRM (n : Nat) : Fld := ⟨536871139, n, 64, 0⟩
/-- Kept: fraction of a slave's frame that has passed, in TCLK times 0.01 Hz (R276). -/
def I.AP_ACC (n : Nat) : Fld := ⟨536871140, n, 64, 0⟩
/-- Kept: 1: SHUTTING begins at the next frame start (R276). -/
def I.AP_STOP (n : Nat) : Fld := ⟨536871141, n, 1, 0⟩
/-- Kept: S of an armed start group, taken at the arm (R277). -/
def I.AP_GS (n : Nat) : Fld := ⟨536871142, n, 64, 0⟩
/-- Kept: framing errors in a row (R279). -/
def I.AP_FERR (n : Nat) : Fld := ⟨536871143, n, 3, 0⟩
/-- Kept: 1: the frame in hand has had a framing error (R279). -/
def I.AP_FBAD (n : Nat) : Fld := ⟨536871144, n, 1, 0⟩
/-- Kept: 1: the drivers of a slave port have been released to the twin partner (R393). -/
def I.AP_HIZ (n : Nat) : Fld := ⟨536871145, n, 1, 0⟩
/-- Kept: 1: a frame has started since the pending mask was written (R280). -/
def I.AP_MRDY (n : Nat) : Fld := ⟨536871146, n, 1, 0⟩
/-- Kept: output slots added in this frame (R280). -/
def I.AP_ONEW (n : Nat) : Fld := ⟨536871147, n, 32, 0⟩
/-- Kept: how far the channel is ramped down, in 64ths (R284). -/
def I.ASRC_ATT (n : Nat) : Fld := ⟨536871148, n, 7, 0⟩
/-- Kept: fraction of a far sample that has passed in a fade, in units of 2^-24 (R284). -/
def I.ASRC_ACC (n : Nat) : Fld := ⟨536871149, n, 64, 0⟩
/-- Kept: 1: the ratio tracker is locked: ports, then receivers, then transmitters (R285). -/
def I.TRK_LOCK (n : Nat) : Fld := ⟨536871150, n, 1, 0⟩
/-- Kept: ratio of a locked tracker (R285). -/
def I.TRK_RATIO (n : Nat) : Fld := ⟨536871151, n, 32, 0⟩
/-- Kept: one more than the FRC of the sample at which a parity error repeats the last one (R290). -/
def I.AES_REP (n : Nat) : Fld := ⟨536871152, n, 64, 0⟩
/-- Kept: how far a subframe is ramped down for V, in 16ths (R290). -/
def I.AES_ATT (n : Nat) : Fld := ⟨536871153, n, 5, 0⟩
/-- Kept: frame rate of a receiver when it last locked, in 0.01 Hz (R293). -/
def I.RX_RATE (n : Nat) : Fld := ⟨536871154, n, 32, 0⟩
/-- Kept: fraction of the frame of a transmitter that follows a receiver that has passed, in TCLK times 0.01 Hz (R293). -/
def I.TX_ACC (n : Nat) : Fld := ⟨536871155, n, 64, 0⟩
/-- Kept: frames started since the transmitter began (R295). -/
def I.TX_FRM (n : Nat) : Fld := ⟨536871156, n, 64, 0⟩
/-- Kept: frames started at which a transmitter that is SHUTTING has sent its closing block (R295). -/
def I.TX_END (n : Nat) : Fld := ⟨536871157, n, 64, 0⟩
/-- Kept: one more than the TCLK of the last Z preamble (R294). -/
def I.TX_ZAT (n : Nat) : Fld := ⟨536871158, n, 64, 0⟩
/-- Kept: 1: the transmitter's driver has been released to the twin partner (R393). -/
def I.TX_HIZ (n : Nat) : Fld := ⟨536871159, n, 1, 0⟩
/-- Kept: channel-status and user words staged (index 24 t + 12 user + 6 u + w) (R294). -/
def I.AES_TXS (n : Nat) : Fld := ⟨536871160, n, 32, 0⟩
/-- Kept: TCLK at which a set was staged (index 4 t + 2 user + u) (R294). -/
def I.AES_TXAT (n : Nat) : Fld := ⟨536871161, n, 64, 0⟩
/-- Kept: 1: the core has had a pip since the last tick (R241). -/
def I.EC_WORK (n : Nat) : Fld := ⟨536871162, n, 1, 0⟩
/-- Kept: the length of a piece that waits for a handover, 0 with none (R255). -/
def I.CFG_LATE : Fld := ⟨536871163, 0, 17, 0⟩
/-- Kept: the address of the piece in hand (R255). -/
def I.CFG_LATE_A : Fld := ⟨536871164, 0, 32, 0⟩
/-- Kept: TCLK edge of the present sample that commands to the timers have led up to (R299). -/
def I.TM_NOW : Fld := ⟨536871165, 0, 64, 0⟩
/-- Kept: 1: the channel counts (R303). -/
def I.TMR_RUN (n : Nat) : Fld := ⟨536871166, n, 1, 0⟩
/-- Kept: 1: the channel waited when its group was armed (R304). -/
def I.TMR_JOIN (n : Nat) : Fld := ⟨536871167, n, 1, 0⟩
/-- Kept: 1: the channel starts at the next TCLK edge by its group's GO (R304). -/
def I.TMR_GO (n : Nat) : Fld := ⟨536871168, n, 1, 0⟩
/-- Kept: divisor in effect in the receiver (R319). -/
def I.U_DIVR (n : Nat) : Fld := ⟨536871169, n, 22, 6827⟩
/-- Kept: 1: the transmitter has still to take the divisor (R319). -/
def I.U_TPEND (n : Nat) : Fld := ⟨536871170, n, 1, 0⟩
/-- Kept: 1: the receiver has still to take the divisor (R319). -/
def I.U_RPEND (n : Nat) : Fld := ⟨536871171, n, 1, 0⟩
/-- Kept: 1: a start edge has been heard, and the character is being received (R318). -/
def I.U_RXON (n : Nat) : Fld := ⟨536871172, n, 1, 0⟩
/-- Kept: FRC of that edge (R332). -/
def I.U_EDGE (n : Nat) : Fld := ⟨536871173, n, 64, 0⟩
/-- Kept: character in the transmit shifter (R316). -/
def I.U_TXSH (n : Nat) : Fld := ⟨536871174, n, 8, 0⟩
/-- Kept: PCLK at which its start bit began (R316). -/
def I.U_TXAT (n : Nat) : Fld := ⟨536871175, n, 64, 0⟩
/-- Kept: 1: the driver of UnTX has been released to the twin partner (R393). -/
def I.U_HIZ (n : Nat) : Fld := ⟨536871176, n, 1, 0⟩

/-- Rows of the register map, part 0. -/
def regTable0 : List RegRow := [
  ⟨0x0, 0x0, 1, 0x0, 1, [⟨0, 32, .ro, (.c 1264060160)⟩]⟩,
  ⟨0x10, 0x0, 1, 0x0, 1, [⟨24, 8, .ro, (.c 0)⟩, ⟨8, 1, .w1c, (.c 0)⟩, ⟨5, 1, .rw, (.c 0)⟩, ⟨4, 1, .rw, (.c 0)⟩, ⟨0, 2, .ro, (.c 0)⟩]⟩,
  ⟨0x14, 0x0, 1, 0x0, 1, [⟨0, 32, .rw, (.c 0)⟩]⟩,
  ⟨0x18, 0x0, 1, 0x0, 1, [⟨0, 32, .rw, (.c 0)⟩]⟩,
  ⟨0x20, 0x0, 1, 0x0, 1, [⟨24, 8, .ro, (.c 0)⟩, ⟨4, 2, .rw, (.c 1)⟩, ⟨2, 2, .rw, (.c 1)⟩, ⟨0, 1, .rw, (.c 0)⟩]⟩,
  ⟨0x24, 0x0, 1, 0x0, 1, [⟨2, 1, .w1c, (.c 0)⟩, ⟨0, 1, .w1c, (.c 0)⟩]⟩,
  ⟨0x30, 0x0, 1, 0x0, 1, [⟨0, 1, .rw, (.c 0)⟩]⟩,
  ⟨0x34, 0x0, 1, 0x0, 1, [⟨24, 8, .ro, (.c 0)⟩, ⟨8, 2, .wo, (.c 0)⟩, ⟨0, 8, .wo, (.c 0)⟩]⟩,
  ⟨0x40, 0x0, 1, 0x0, 1, [⟨16, 16, .ro, (.c 0)⟩, ⟨0, 11, .ro, (.c 0)⟩]⟩,
  ⟨0x44, 0x0, 1, 0x0, 1, [⟨16, 16, .ro, (.c 0)⟩, ⟨0, 8, .ro, (.c 0)⟩]⟩,
  ⟨0x60, 0x0, 1, 0x0, 1, [⟨24, 8, .ro, (.c 0)⟩, ⟨16, 1, .wo, (.c 0)⟩, ⟨11, 1, .w1c, (.c 0)⟩, ⟨10, 1, .w1c, (.c 0)⟩, ⟨9, 1, .w1c, (.c 0)⟩, ⟨8, 1, .w1c, (.c 0)⟩, ⟨7, 1, .rw, (.c 0)⟩, ⟨6, 1, .rw, (.c 0)⟩, ⟨5, 1, .rw, (.c 0)⟩, ⟨4, 1, .rw, (.c 0)⟩, ⟨0, 2, .ro, (.c 1)⟩]⟩,
  ⟨0x64, 0x0, 1, 0x0, 1, [⟨31, 1, .wo, (.c 0)⟩, ⟨0, 1, .rw, (.c 0)⟩]⟩,
  ⟨0x68, 0x0, 1, 0x0, 1, [⟨10, 2, .ro, (.c 0)⟩, ⟨9, 1, .ro, (.c 0)⟩, ⟨8, 1, .ro, (.c 0)⟩, ⟨5, 1, .ro, (.c 0)⟩, ⟨4, 1, .ro, (.c 0)⟩, ⟨3, 1, .ro, (.c 0)⟩, ⟨2, 1, .ro, (.c 0)⟩, ⟨1, 1, .ro, (.c 0)⟩, ⟨0, 1, .ro, (.c 0)⟩]⟩,
  ⟨0x6C, 0x0, 1, 0x0, 1, [⟨0, 16, .rw, (.c 0)⟩]⟩,
  ⟨0x400, 0x4, 256, 0x0, 1, [⟨30, 2, .rw, (.c 3)⟩, ⟨24, 4, .rw, (.c 0)⟩, ⟨16, 6, .rw, (.c 0)⟩, ⟨0, 14, .rw, (.c 0)⟩]⟩,
  ⟨0x2000, 0x4, 2048, 0x0, 1, [⟨16, 16, .ro, (.c 0)⟩, ⟨1, 1, .wo, (.c 0)⟩, ⟨0, 1, .wo, (.c 0)⟩]⟩,
  ⟨0x10000, 0x0, 1, 0x0, 1, [⟨31, 1, .wo, (.c 0)⟩, ⟨30, 1, .rw, (.c 1)⟩, ⟨24, 2, .rw, (.c 1)⟩, ⟨16, 8, .rw, (.c 10)⟩, ⟨0, 10, .rw, (.c 100)⟩]⟩,
  ⟨0x10004, 0x0, 1, 0x0, 1, [⟨24, 8, .ro, (.c 0)⟩, ⟨16, 3, .ro, (.c 7)⟩, ⟨8, 3, .ro, (.c 0)⟩]⟩,
  ⟨0x10008, 0x0, 1, 0x0, 1, [⟨0, 32, .ro, (.c 0)⟩]⟩,
  ⟨0x1000C, 0x0, 1, 0x0, 1, [⟨0, 7, .w1c, (.c 0)⟩]⟩]
/-- Rows of the register map, part 1. -/
def regTable1 : List RegRow := [
  ⟨0x10010, 0x0, 1, 0x0, 1, [⟨0, 16, .rc, (.c 0)⟩]⟩,
  ⟨0x10028, 0x0, 1, 0x0, 1, [⟨0, 32, .rw, (.c 0)⟩]⟩,
  ⟨0x1002C, 0x0, 1, 0x0, 1, [⟨0, 32, .rw, (.c 0)⟩]⟩,
  ⟨0x10030, 0x0, 1, 0x0, 1, [⟨0, 1, .wo, (.c 0)⟩]⟩,
  ⟨0x10040, 0x4, 5, 0x0, 1, [⟨31, 1, .rw, .first⟩, ⟨24, 3, .rw, (.c 0)⟩, ⟨16, 5, .rw, (.c 0)⟩, ⟨8, 3, .rw, (.c 0)⟩, ⟨1, 1, .ro, (.c 0)⟩, ⟨0, 1, .ro, (.c 0)⟩]⟩,
  ⟨0x10060, 0x4, 8, 0x0, 1, [⟨8, 4, .rw, (.c 7)⟩, ⟨4, 1, .rw, (.c 0)⟩, ⟨0, 2, .ro, (.c 0)⟩]⟩,
  ⟨0x10080, 0x0, 1, 0x0, 1, [⟨8, 2, .rw, (.c 0)⟩, ⟨4, 1, .rw, (.c 0)⟩, ⟨0, 2, .ro, (.c 0)⟩]⟩,
  ⟨0x20000, 0x0, 1, 0x0, 1, [⟨0, 1, .rw, (.c 1)⟩]⟩,
  ⟨0x20004, 0x0, 1, 0x0, 1, [⟨0, 16, .rc, (.c 0)⟩]⟩,
  ⟨0x20010, 0x4, 3, 0x0, 1, [⟨0, 32, .ro, (.c 0)⟩]⟩,
  ⟨0x20020, 0x0, 1, 0x0, 1, [⟨0, 6, .w1c, (.c 0)⟩]⟩,
  ⟨0x20100, 0x10, 16, 0x4, 4, [⟨0, 32, .ro, (.c 0)⟩]⟩,
  ⟨0x28000, 0x4, 64, 0x0, 1, [⟨31, 1, .ro, (.c 0)⟩, ⟨8, 8, .ro, (.c 0)⟩, ⟨0, 8, .rw, (.c 80)⟩]⟩,
  ⟨0x28100, 0x0, 1, 0x0, 1, [⟨24, 8, .ro, (.c 0)⟩, ⟨0, 3, .ro, (.c 4)⟩]⟩,
  ⟨0x28200, 0x10, 32, 0x0, 1, [⟨0, 32, .rw, (.c 0)⟩]⟩,
  ⟨0x28204, 0x10, 32, 0x0, 1, [⟨0, 32, .rw, (.c 0)⟩]⟩,
  ⟨0x28208, 0x10, 32, 0x0, 1, [⟨11, 1, .rw, (.c 0)⟩, ⟨9, 1, .rw, (.c 0)⟩, ⟨8, 1, .rw, (.c 0)⟩, ⟨6, 1, .rw, (.c 0)⟩, ⟨4, 1, .rw, (.c 0)⟩, ⟨3, 1, .rw, (.c 0)⟩, ⟨2, 1, .rw, (.c 0)⟩, ⟨0, 1, .rw, (.c 0)⟩]⟩,
  ⟨0x28400, 0x4, 64, 0x0, 1, [⟨30, 2, .ro, (.c 0)⟩, ⟨16, 7, .ro, (.c 0)⟩, ⟨0, 7, .ro, .ix⟩]⟩,
  ⟨0x28600, 0x0, 1, 0x0, 1, [⟨16, 16, .rc, (.c 0)⟩, ⟨0, 16, .rc, (.c 0)⟩]⟩,
  ⟨0x28604, 0x0, 1, 0x0, 1, [⟨31, 1, .w1c, (.c 0)⟩, ⟨24, 7, .ro, (.c 0)⟩, ⟨20, 4, .ro, (.c 0)⟩, ⟨0, 16, .ro, (.c 0)⟩]⟩]
/-- Rows of the register map, part 2. -/
def regTable2 : List RegRow := [
  ⟨0x30000, 0x0, 1, 0x0, 1, [⟨31, 1, .rw, (.c 1)⟩, ⟨30, 1, .rw, (.c 1)⟩, ⟨29, 1, .rw, (.c 0)⟩, ⟨0, 8, .rw, (.c 10)⟩]⟩,
  ⟨0x30004, 0x0, 1, 0x0, 1, [⟨8, 8, .rw, (.c 10)⟩, ⟨0, 4, .rw, (.c 8)⟩]⟩,
  ⟨0x30008, 0x0, 1, 0x0, 1, [⟨16, 8, .rw, (.c 60)⟩, ⟨0, 16, .rw, (.c 500)⟩]⟩,
  ⟨0x3000C, 0x0, 1, 0x0, 1, [⟨16, 6, .ro, (.c 32)⟩, ⟨8, 3, .ro, (.c 4)⟩, ⟨0, 4, .ro, (.c 8)⟩]⟩,
  ⟨0x30010, 0x0, 1, 0x0, 1, [⟨31, 1, .ro, (.c 0)⟩, ⟨30, 1, .ro, (.c 0)⟩, ⟨29, 1, .ro, (.c 0)⟩, ⟨8, 8, .ro, (.c 0)⟩, ⟨0, 8, .ro, (.c 0)⟩]⟩,
  ⟨0x30020, 0x0, 1, 0x0, 1, [⟨0, 7, .w1c, (.c 0)⟩]⟩,
  ⟨0x30024, 0x0, 1, 0x0, 1, [⟨31, 1, .ro, (.c 0)⟩, ⟨0, 8, .ro, (.c 0)⟩]⟩,
  ⟨0x30100, 0x4, 64, 0x0, 1, [⟨30, 2, .ro, (.c 0)⟩, ⟨16, 7, .ro, (.c 0)⟩, ⟨0, 7, .ro, .ix⟩]⟩,
  ⟨0x30400, 0x4, 206, 0x0, 1, [⟨0, 16, .ro, (.c 0)⟩]⟩,
  ⟨0x31000, 0x10, 256, 0x4, 4, [⟨0, 32, .ro, (.c 0)⟩]⟩,
  ⟨0x40000, 0x0, 1, 0x0, 1, [⟨24, 8, .ro, (.c 0)⟩, ⟨16, 8, .ro, (.c 0)⟩, ⟨8, 8, .ro, (.c 0)⟩, ⟨5, 1, .wo, (.c 0)⟩, ⟨4, 1, .wo, (.c 0)⟩, ⟨0, 3, .ro, (.c 0)⟩]⟩,
  ⟨0x40004, 0x0, 1, 0x0, 1, [⟨0, 32, .rw, (.c 0)⟩]⟩,
  ⟨0x40008, 0x0, 1, 0x0, 1, [⟨31, 1, .wo, (.c 0)⟩, ⟨0, 16, .rw, (.c 0)⟩]⟩,
  ⟨0x4000C, 0x0, 1, 0x0, 1, [⟨24, 8, .ro, (.c 0)⟩, ⟨16, 3, .ro, (.c 0)⟩, ⟨8, 4, .ro, (.c 0)⟩, ⟨4, 1, .ro, (.c 0)⟩, ⟨0, 3, .ro, (.c 0)⟩]⟩,
  ⟨0x40010, 0x0, 1, 0x0, 1, [⟨24, 8, .ro, (.c 0)⟩, ⟨5, 1, .wo, (.c 0)⟩, ⟨4, 1, .wo, (.c 0)⟩, ⟨0, 1, .ro, (.c 0)⟩]⟩,
  ⟨0x40014, 0x0, 1, 0x0, 1, [⟨0, 32, .rw, (.c 0)⟩]⟩,
  ⟨0x40018, 0x0, 1, 0x0, 1, [⟨0, 32, .rw, (.c 0)⟩]⟩,
  ⟨0x4001C, 0x0, 1, 0x0, 1, [⟨31, 1, .wo, (.c 0)⟩, ⟨30, 1, .wo, (.c 0)⟩, ⟨29, 1, .w1s, (.c 0)⟩, ⟨28, 1, .ro, (.c 0)⟩, ⟨0, 10, .ro, (.c 0)⟩]⟩,
  ⟨0x40020, 0x0, 1, 0x0, 1, [⟨0, 8, .w1c, (.c 0)⟩]⟩,
  ⟨0x40024, 0x0, 1, 0x0, 1, [⟨0, 32, .ro, (.c 0)⟩]⟩]
/-- Rows of the register map, part 3. -/
def regTable3 : List RegRow := [
  ⟨0x40050, 0x0, 1, 0x0, 1, [⟨0, 32, .wo, (.c 0)⟩]⟩,
  ⟨0x40054, 0x0, 1, 0x0, 1, [⟨0, 1, .rw, (.c 0)⟩]⟩,
  ⟨0x40060, 0x0, 1, 0x0, 1, [⟨31, 1, .rw, (.c 0)⟩, ⟨30, 1, .rw, (.c 0)⟩, ⟨0, 22, .rw, (.c 0)⟩]⟩,
  ⟨0x50000, 0x0, 1, 0x0, 1, [⟨16, 11, .rw, (.c 64)⟩, ⟨0, 1, .rw, (.c 0)⟩]⟩,
  ⟨0x50004, 0x0, 1, 0x0, 1, [⟨24, 8, .ro, (.c 0)⟩, ⟨8, 1, .ro, (.c 0)⟩]⟩,
  ⟨0x50008, 0x0, 1, 0x0, 1, [⟨0, 32, .rw, (.c 126976)⟩]⟩,
  ⟨0x5000C, 0x0, 1, 0x0, 1, [⟨0, 8, .rw, (.c 16)⟩]⟩,
  ⟨0x50010, 0x0, 1, 0x0, 1, [⟨16, 13, .rw, (.c 3840)⟩, ⟨0, 13, .ro, (.c 0)⟩]⟩,
  ⟨0x50014, 0x0, 1, 0x0, 1, [⟨0, 13, .rc, (.c 0)⟩]⟩,
  ⟨0x50018, 0x0, 1, 0x0, 1, [⟨0, 32, .rc, (.c 0)⟩]⟩,
  ⟨0x5001C, 0x0, 1, 0x0, 1, [⟨0, 32, .rc, (.c 0)⟩]⟩,
  ⟨0x50020, 0x0, 1, 0x0, 1, [⟨0, 6, .w1c, (.c 0)⟩]⟩,
  ⟨0x50024, 0x0, 1, 0x0, 1, [⟨28, 4, .ro, (.c 0)⟩, ⟨16, 8, .ro, (.c 0)⟩, ⟨0, 14, .ro, (.c 0)⟩]⟩,
  ⟨0x50040, 0x4, 16, 0x0, 1, [⟨0, 8, .rw, (.c 16)⟩]⟩,
  ⟨0x50080, 0x8, 8, 0x0, 1, [⟨0, 32, .rw, (.c 4294967295)⟩]⟩,
  ⟨0x50084, 0x8, 8, 0x0, 1, [⟨0, 32, .rw, (.c 4294967295)⟩]⟩,
  ⟨0x500C0, 0x0, 1, 0x0, 1, [⟨0, 14, .rw, (.c 0)⟩]⟩,
  ⟨0x58000, 0x8, 1024, 0x0, 1, [⟨0, 32, .rw, (.c 0)⟩]⟩,
  ⟨0x58004, 0x8, 1024, 0x0, 1, [⟨31, 1, .rw, (.c 0)⟩, ⟨27, 4, .rw, (.c 0)⟩, ⟨0, 11, .rw, (.c 0)⟩]⟩,
  ⟨0x60000, 0x0, 1, 0x0, 1, [⟨31, 1, .rw, (.c 0)⟩, ⟨30, 1, .rw, (.c 0)⟩, ⟨16, 13, .rw, (.c 4096)⟩, ⟨0, 9, .rw, (.c 128)⟩]⟩]
/-- Rows of the register map, part 4. -/
def regTable4 : List RegRow := [
  ⟨0x60004, 0x0, 1, 0x0, 1, [⟨24, 8, .ro, (.c 0)⟩, ⟨0, 2, .ro, (.c 0)⟩]⟩,
  ⟨0x60008, 0x0, 1, 0x0, 1, [⟨16, 14, .rw, (.c 0)⟩, ⟨0, 16, .rw, (.c 0)⟩]⟩,
  ⟨0x6000C, 0x0, 1, 0x0, 1, [⟨0, 10, .rw, (.c 64)⟩]⟩,
  ⟨0x60010, 0x0, 1, 0x0, 1, [⟨16, 13, .ro, (.c 0)⟩, ⟨0, 9, .ro, (.c 0)⟩]⟩,
  ⟨0x60020, 0x0, 1, 0x0, 1, [⟨0, 4, .w1c, (.c 0)⟩]⟩,
  ⟨0x60024, 0x0, 1, 0x0, 1, [⟨28, 4, .ro, (.c 0)⟩, ⟨16, 8, .ro, (.c 0)⟩, ⟨0, 16, .ro, (.c 0)⟩]⟩,
  ⟨0x60028, 0x0, 1, 0x0, 1, [⟨0, 32, .rc, (.c 0)⟩]⟩,
  ⟨0x6002C, 0x0, 1, 0x0, 1, [⟨0, 32, .rc, (.c 0)⟩]⟩,
  ⟨0x60030, 0x0, 1, 0x0, 1, [⟨0, 32, .rc, (.c 0)⟩]⟩,
  ⟨0x60034, 0x0, 1, 0x0, 1, [⟨0, 32, .rc, (.c 0)⟩]⟩,
  ⟨0x61000, 0x10, 256, 0x0, 1, [⟨31, 1, .rw, (.c 0)⟩, ⟨28, 3, .rw, (.c 0)⟩, ⟨26, 2, .rw, (.c 0)⟩, ⟨24, 2, .rw, (.c 0)⟩, ⟨21, 3, .rw, (.c 0)⟩, ⟨0, 13, .rw, (.c 4096)⟩]⟩,
  ⟨0x61004, 0x10, 256, 0x0, 1, [⟨16, 14, .rw, (.c 0)⟩, ⟨0, 14, .rw, (.c 0)⟩]⟩,
  ⟨0x61008, 0x10, 256, 0x0, 1, [⟨31, 1, .rw, (.c 0)⟩, ⟨0, 14, .rw, (.c 0)⟩]⟩,
  ⟨0x6100C, 0x10, 256, 0x0, 1, [⟨0, 32, .rw, (.c 0)⟩]⟩,
  ⟨0x62000, 0x4, 256, 0x0, 1, [⟨31, 1, .ro, (.c 0)⟩, ⟨16, 13, .ro, (.c 0)⟩, ⟨0, 13, .ro, (.c 0)⟩]⟩,
  ⟨0x70000, 0x0, 1, 0x0, 1, [⟨24, 8, .ro, (.c 0)⟩, ⟨16, 8, .ro, (.c 0)⟩, ⟨6, 10, .rw, (.c 0)⟩, ⟨5, 1, .wo, (.c 0)⟩, ⟨4, 1, .wo, (.c 0)⟩, ⟨0, 2, .ro, (.c 0)⟩]⟩,
  ⟨0x70004, 0x0, 1, 0x0, 1, [⟨24, 8, .ro, (.c 0)⟩]⟩,
  ⟨0x70008, 0x0, 1, 0x0, 1, [⟨0, 32, .rw, (.c 0)⟩]⟩,
  ⟨0x7000C, 0x0, 1, 0x0, 1, [⟨0, 32, .rw, (.c 0)⟩]⟩,
  ⟨0x70010, 0x0, 1, 0x0, 1, [⟨16, 14, .ro, (.c 0)⟩, ⟨0, 14, .ro, (.c 0)⟩]⟩]
/-- Rows of the register map, part 5. -/
def regTable5 : List RegRow := [
  ⟨0x70020, 0x0, 1, 0x0, 1, [⟨0, 4, .w1c, (.c 0)⟩]⟩,
  ⟨0x70024, 0x0, 1, 0x0, 1, [⟨28, 4, .ro, (.c 0)⟩, ⟨16, 8, .ro, (.c 0)⟩, ⟨0, 16, .ro, (.c 0)⟩]⟩,
  ⟨0x70028, 0x0, 1, 0x0, 1, [⟨0, 32, .rc, (.c 0)⟩]⟩,
  ⟨0x78000, 0x8, 1024, 0x0, 1, [⟨0, 32, .rw, (.c 0)⟩]⟩,
  ⟨0x78004, 0x8, 1024, 0x0, 1, [⟨31, 1, .rw, (.c 0)⟩, ⟨27, 4, .rw, (.c 0)⟩, ⟨0, 17, .rw, (.c 0)⟩]⟩,
  ⟨0x80000, 0x0, 1, 0x0, 1, [⟨24, 8, .ro, (.c 0)⟩, ⟨16, 8, .ro, (.c 0)⟩, ⟨5, 1, .wo, (.c 0)⟩, ⟨4, 1, .wo, (.c 0)⟩, ⟨0, 2, .ro, (.c 0)⟩]⟩,
  ⟨0x80004, 0x0, 1, 0x0, 1, [⟨0, 32, .rw, (.c 0)⟩]⟩,
  ⟨0x80008, 0x0, 1, 0x0, 1, [⟨0, 32, .rw, (.c 0)⟩]⟩,
  ⟨0x8000C, 0x0, 1, 0x0, 1, [⟨28, 4, .ro, (.c 0)⟩, ⟨0, 12, .ro, (.c 0)⟩]⟩,
  ⟨0x80010, 0x0, 1, 0x0, 1, [⟨0, 32, .ro, (.c 0)⟩]⟩,
  ⟨0x80020, 0x0, 1, 0x0, 1, [⟨0, 5, .w1c, (.c 0)⟩]⟩,
  ⟨0x80024, 0x0, 1, 0x0, 1, [⟨0, 10, .ro, (.c 0)⟩]⟩,
  ⟨0x80028, 0x0, 1, 0x0, 1, [⟨28, 4, .ro, (.c 0)⟩, ⟨0, 12, .ro, (.c 0)⟩]⟩,
  ⟨0x8002C, 0x0, 1, 0x0, 1, [⟨0, 32, .rc, (.c 0)⟩]⟩,
  ⟨0x81000, 0x8, 512, 0x0, 1, [⟨0, 32, .rw, (.c 0)⟩]⟩,
  ⟨0x81004, 0x8, 512, 0x0, 1, [⟨31, 1, .rw, (.c 0)⟩, ⟨30, 1, .rw, (.c 0)⟩, ⟨28, 2, .rw, (.c 0)⟩, ⟨0, 14, .rw, (.c 0)⟩]⟩,
  ⟨0x82000, 0x4, 1024, 0x0, 1, [⟨31, 1, .rw, (.c 0)⟩, ⟨12, 1, .rw, (.c 0)⟩, ⟨0, 12, .rw, (.c 0)⟩]⟩,
  ⟨0x900000, 0x8, 4096, 0x0, 1, [⟨31, 1, .ro, (.c 0)⟩, ⟨29, 2, .ro, (.c 0)⟩, ⟨16, 11, .ro, (.c 0)⟩, ⟨0, 12, .ro, (.c 0)⟩]⟩,
  ⟨0x900004, 0x8, 4096, 0x0, 1, [⟨31, 1, .ro, (.c 0)⟩, ⟨30, 1, .ro, (.c 0)⟩, ⟨29, 1, .ro, (.c 0)⟩, ⟨0, 11, .ro, (.c 0)⟩]⟩,
  ⟨0x908000, 0x8, 4096, 0x0, 1, [⟨31, 1, .rw, (.c 0)⟩, ⟨29, 2, .rw, (.c 0)⟩, ⟨16, 11, .rw, (.c 0)⟩, ⟨0, 12, .rw, (.c 0)⟩]⟩]
/-- Rows of the register map, part 6. -/
def regTable6 : List RegRow := [
  ⟨0x90000, 0x400, 32, 0x0, 1, [⟨24, 8, .ro, (.c 0)⟩, ⟨4, 1, .rw, (.c 0)⟩, ⟨0, 2, .ro, (.c 0)⟩]⟩,
  ⟨0x90004, 0x400, 32, 0x0, 1, [⟨31, 1, .rw, (.c 0)⟩, ⟨30, 1, .rw, (.c 0)⟩, ⟨29, 1, .rw, (.c 0)⟩, ⟨28, 1, .rw, (.c 0)⟩, ⟨27, 1, .rw, (.c 0)⟩, ⟨25, 2, .rw, (.c 0)⟩, ⟨23, 2, .rw, (.c 1)⟩, ⟨21, 2, .rw, (.c 2)⟩, ⟨16, 5, .rw, (.c 7)⟩, ⟨11, 1, .rw, (.c 0)⟩, ⟨8, 3, .rw, (.c 0)⟩, ⟨0, 6, .rw, (.c 0)⟩]⟩,
  ⟨0x90008, 0x400, 32, 0x0, 1, [⟨24, 8, .rw, (.c 0)⟩, ⟨16, 8, .rw, (.c 0)⟩, ⟨0, 12, .rw, (.c 256)⟩]⟩,
  ⟨0x9000C, 0x400, 32, 0x0, 1, [⟨0, 32, .rw, (.c 0)⟩]⟩,
  ⟨0x90010, 0x400, 32, 0x0, 1, [⟨0, 32, .rw, (.c 0)⟩]⟩,
  ⟨0x90014, 0x400, 32, 0x0, 1, [⟨16, 9, .rw, (.c 0)⟩, ⟨0, 9, .rw, (.c 0)⟩]⟩,
  ⟨0x90018, 0x400, 32, 0x0, 1, [⟨20, 12, .ro, (.c 0)⟩, ⟨8, 1, .ro, (.c 0)⟩, ⟨7, 1, .ro, (.c 0)⟩, ⟨6, 1, .ro, (.c 0)⟩, ⟨5, 1, .ro, (.c 0)⟩, ⟨4, 1, .ro, (.c 0)⟩]⟩,
  ⟨0x9001C, 0x400, 32, 0x0, 1, [⟨0, 32, .ro, (.c 0)⟩]⟩,
  ⟨0x90020, 0x400, 32, 0x0, 1, [⟨0, 6, .w1c, (.c 0)⟩]⟩,
  ⟨0x90024, 0x400, 32, 0x0, 1, [⟨16, 16, .rc, (.c 0)⟩, ⟨0, 16, .rc, (.c 0)⟩]⟩,
  ⟨0x98000, 0x10, 8, 0x0, 1, [⟨24, 8, .ro, (.c 0)⟩, ⟨5, 1, .wo, (.c 0)⟩, ⟨4, 1, .wo, (.c 0)⟩, ⟨0, 1, .ro, (.c 0)⟩]⟩,
  ⟨0x98004, 0x10, 8, 0x0, 1, [⟨0, 32, .rw, (.c 0)⟩]⟩,
  ⟨0x98008, 0x10, 8, 0x0, 1, [⟨0, 32, .rw, (.c 0)⟩]⟩,
  ⟨0xA0000, 0x0, 1, 0x0, 1, [⟨0, 6, .ro, (.c 32)⟩]⟩,
  ⟨0xA0020, 0x0, 1, 0x0, 1, [⟨0, 5, .w1c, (.c 0)⟩]⟩,
  ⟨0xA1000, 0x4, 512, 0x0, 1, [⟨16, 16, .ro, (.c 0)⟩, ⟨15, 1, .ro, (.c 0)⟩, ⟨14, 1, .ro, (.c 0)⟩, ⟨13, 1, .ro, (.c 0)⟩, ⟨12, 1, .ro, (.c 0)⟩, ⟨2, 10, .ro, .ix⟩, ⟨0, 2, .ro, (.c 0)⟩]⟩,
  ⟨0xA2000, 0x4, 512, 0x0, 1, [⟨0, 32, .ro, (.c 0)⟩]⟩,
  ⟨0xB0000, 0x100, 8, 0x0, 1, [⟨24, 8, .ro, (.c 0)⟩, ⟨4, 1, .rw, (.c 0)⟩, ⟨0, 2, .ro, (.c 0)⟩]⟩,
  ⟨0xB0004, 0x100, 8, 0x0, 1, [⟨31, 1, .rw, (.c 0)⟩, ⟨30, 1, .rw, (.c 0)⟩, ⟨0, 9, .rw, (.c 0)⟩]⟩,
  ⟨0xB0008, 0x100, 8, 0x0, 1, [⟨8, 4, .ro, (.c 0)⟩, ⟨4, 2, .ro, (.c 0)⟩, ⟨2, 2, .ro, (.c 0)⟩, ⟨0, 1, .ro, (.c 0)⟩]⟩]
/-- Rows of the register map, part 7. -/
def regTable7 : List RegRow := [
  ⟨0xB000C, 0x100, 8, 0x0, 1, [⟨0, 4, .w1c, (.c 0)⟩]⟩,
  ⟨0xB0010, 0x100, 8, 0x0, 1, [⟨16, 16, .rc, (.c 0)⟩, ⟨0, 16, .rc, (.c 0)⟩]⟩,
  ⟨0xB0040, 0x100, 8, 0x4, 6, [⟨0, 32, .ro, (.c 0)⟩]⟩,
  ⟨0xB0080, 0x100, 8, 0x4, 6, [⟨0, 32, .ro, (.c 0)⟩]⟩,
  ⟨0xB0060, 0x100, 8, 0x4, 6, [⟨0, 32, .ro, (.c 0)⟩]⟩,
  ⟨0xB00A0, 0x100, 8, 0x4, 6, [⟨0, 32, .ro, (.c 0)⟩]⟩,
  ⟨0xB1000, 0x100, 8, 0x0, 1, [⟨24, 8, .ro, (.c 0)⟩, ⟨4, 1, .rw, (.c 0)⟩, ⟨0, 2, .ro, (.c 0)⟩]⟩,
  ⟨0xB1004, 0x100, 8, 0x0, 1, [⟨31, 1, .rw, (.c 0)⟩, ⟨30, 1, .rw, (.c 0)⟩, ⟨29, 1, .rw, (.c 0)⟩, ⟨28, 1, .rw, (.c 0)⟩, ⟨27, 1, .rw, (.c 0)⟩, ⟨26, 1, .rw, (.c 0)⟩, ⟨25, 1, .rw, (.c 0)⟩, ⟨22, 3, .rw, (.c 0)⟩, ⟨19, 3, .rw, (.c 2)⟩, ⟨0, 9, .rw, (.c 0)⟩]⟩,
  ⟨0xB100C, 0x100, 8, 0x0, 1, [⟨0, 3, .w1c, (.c 0)⟩]⟩,
  ⟨0xB1040, 0x100, 8, 0x4, 6, [⟨0, 32, .rw, (.c 0)⟩]⟩,
  ⟨0xB1080, 0x100, 8, 0x4, 6, [⟨0, 32, .rw, (.c 0)⟩]⟩,
  ⟨0xB1060, 0x100, 8, 0x4, 6, [⟨0, 32, .rw, (.c 0)⟩]⟩,
  ⟨0xB10A0, 0x100, 8, 0x4, 6, [⟨0, 32, .rw, (.c 0)⟩]⟩,
  ⟨0xC0000, 0x10, 8, 0x0, 1, [⟨24, 8, .ro, (.c 0)⟩, ⟨6, 1, .wo, (.c 0)⟩, ⟨5, 1, .wo, (.c 0)⟩, ⟨4, 1, .wo, (.c 0)⟩, ⟨0, 1, .ro, (.c 0)⟩]⟩,
  ⟨0xC0004, 0x10, 8, 0x0, 1, [⟨0, 32, .rw, (.c 0)⟩]⟩,
  ⟨0xC0008, 0x10, 8, 0x0, 1, [⟨0, 32, .rw, (.c 0)⟩]⟩,
  ⟨0xC1000, 0x40, 64, 0x0, 1, [⟨24, 8, .ro, (.c 0)⟩, ⟨8, 1, .wo, (.c 0)⟩, ⟨4, 1, .rw, (.c 0)⟩, ⟨0, 2, .ro, (.c 0)⟩]⟩,
  ⟨0xC1004, 0x40, 64, 0x0, 1, [⟨31, 1, .rw, (.c 0)⟩, ⟨30, 1, .rw, (.c 0)⟩, ⟨29, 1, .rw, (.c 0)⟩, ⟨27, 1, .rw, (.c 0)⟩, ⟨24, 3, .rw, (.c 0)⟩, ⟨0, 16, .rw, (.c 0)⟩]⟩,
  ⟨0xC1008, 0x40, 64, 0x0, 1, [⟨0, 32, .rw, (.c 4294967295)⟩]⟩,
  ⟨0xC100C, 0x40, 64, 0x0, 1, [⟨0, 32, .rw, (.c 0)⟩]⟩]
/-- Rows of the register map, part 8. -/
def regTable8 : List RegRow := [
  ⟨0xC1010, 0x40, 64, 0x0, 1, [⟨0, 32, .ro, (.c 0)⟩]⟩,
  ⟨0xC1018, 0x40, 64, 0x0, 1, [⟨0, 32, .rw, (.c 0)⟩]⟩,
  ⟨0xC101C, 0x40, 64, 0x0, 1, [⟨0, 32, .rw, (.c 0)⟩]⟩,
  ⟨0xC1020, 0x40, 64, 0x0, 1, [⟨0, 32, .rw, (.c 0)⟩]⟩,
  ⟨0xC1024, 0x40, 64, 0x0, 1, [⟨0, 32, .rw, (.c 0)⟩]⟩,
  ⟨0xC1028, 0x40, 64, 0x0, 1, [⟨8, 1, .rw, (.c 0)⟩, ⟨6, 1, .rw, (.c 0)⟩, ⟨4, 2, .rw, (.c 0)⟩, ⟨2, 2, .rw, (.c 0)⟩, ⟨0, 2, .rw, (.c 0)⟩]⟩,
  ⟨0xC102C, 0x40, 64, 0x0, 1, [⟨15, 1, .rw, (.c 0)⟩, ⟨8, 7, .rw, (.c 0)⟩, ⟨4, 2, .rw, (.c 0)⟩, ⟨0, 4, .rw, (.c 0)⟩]⟩,
  ⟨0xC1030, 0x40, 64, 0x0, 1, [⟨0, 32, .ro, (.c 0)⟩]⟩,
  ⟨0xC1034, 0x40, 64, 0x0, 1, [⟨0, 32, .ro, (.c 0)⟩]⟩,
  ⟨0xC103C, 0x40, 64, 0x0, 1, [⟨15, 1, .ro, (.c 0)⟩, ⟨14, 1, .ro, (.c 0)⟩, ⟨13, 1, .ro, (.c 0)⟩, ⟨12, 1, .ro, (.c 0)⟩, ⟨11, 1, .ro, (.c 0)⟩, ⟨0, 7, .w1c, (.c 0)⟩]⟩,
  ⟨0xD0000, 0x1000, 6, 0x0, 1, [⟨24, 8, .ro, (.c 0)⟩, ⟨10, 1, .rw, (.c 0)⟩, ⟨9, 1, .rw, (.c 0)⟩, ⟨8, 1, .rw, (.c 0)⟩, ⟨4, 1, .rw, (.c 0)⟩, ⟨0, 2, .ro, (.c 0)⟩]⟩,
  ⟨0xD0004, 0x1000, 6, 0x0, 1, [⟨9, 1, .rw, (.c 0)⟩, ⟨8, 1, .rw, (.c 0)⟩, ⟨5, 1, .rw, (.c 0)⟩, ⟨2, 3, .rw, (.c 0)⟩, ⟨0, 2, .rw, (.c 3)⟩]⟩,
  ⟨0xD0008, 0x1000, 6, 0x0, 1, [⟨6, 16, .rw, (.c 106)⟩, ⟨0, 6, .rw, (.c 43)⟩]⟩,
  ⟨0xD0018, 0x1000, 6, 0x0, 1, [⟨24, 7, .rw, (.c 0)⟩, ⟨16, 7, .rw, (.c 1)⟩, ⟨8, 7, .rw, (.c 48)⟩, ⟨0, 7, .rw, (.c 16)⟩]⟩,
  ⟨0xD001C, 0x1000, 6, 0x0, 1, [⟨12, 1, .ro, (.c 1)⟩, ⟨10, 2, .ro, (.c 0)⟩, ⟨9, 1, .ro, (.c 0)⟩, ⟨8, 1, .ro, (.c 0)⟩, ⟨7, 1, .ro, (.c 0)⟩]⟩,
  ⟨0xD0020, 0x1000, 6, 0x0, 1, [⟨0, 9, .w1c, (.c 0)⟩]⟩,
  ⟨0xD0024, 0x1000, 6, 0x0, 1, [⟨24, 8, .rc, (.c 0)⟩, ⟨16, 8, .rc, (.c 0)⟩, ⟨8, 8, .rc, (.c 0)⟩, ⟨0, 8, .rc, (.c 0)⟩]⟩,
  ⟨0xD0028, 0x1000, 6, 0x0, 1, [⟨31, 1, .wo, (.c 0)⟩, ⟨0, 16, .rw, (.c 500)⟩]⟩,
  ⟨0xD0030, 0x1000, 6, 0x0, 1, [⟨29, 1, .rw, (.c 0)⟩, ⟨28, 1, .rw, (.c 0)⟩, ⟨0, 14, .rw, (.c 0)⟩]⟩,
  ⟨0xD0034, 0x1000, 6, 0x0, 1, [⟨0, 16, .rw, (.c 0)⟩]⟩]
/-- Rows of the register map, part 9. -/
def regTable9 : List RegRow := [
  ⟨0xE0000, 0x0, 1, 0x0, 1, [⟨16, 1, .ro, (.c 0)⟩, ⟨0, 16, .ro, (.c 0)⟩]⟩,
  ⟨0xE1000, 0x40, 16, 0x0, 1, [⟨24, 8, .ro, (.c 0)⟩, ⟨4, 1, .rw, (.c 0)⟩, ⟨0, 3, .ro, (.c 0)⟩]⟩,
  ⟨0xE1004, 0x40, 16, 0x0, 1, [⟨31, 1, .rw, (.c 0)⟩, ⟨30, 1, .rw, (.c 0)⟩, ⟨28, 2, .rw, (.c 0)⟩]⟩,
  ⟨0xE1008, 0x40, 16, 0x0, 1, [⟨31, 1, .ro, (.c 0)⟩, ⟨4, 2, .ro, (.c 0)⟩, ⟨0, 2, .rw, (.c 0)⟩]⟩,
  ⟨0xE100C, 0x40, 16, 0x0, 1, [⟨0, 24, .rw, (.c 0)⟩]⟩,
  ⟨0xE1010, 0x40, 16, 0x0, 1, [⟨0, 24, .rw, (.c 0)⟩]⟩,
  ⟨0xE1014, 0x40, 16, 0x0, 1, [⟨0, 24, .rw, (.c 0)⟩]⟩,
  ⟨0xE1018, 0x40, 16, 0x0, 1, [⟨24, 6, .rw, (.c 4)⟩, ⟨0, 24, .rw, (.c 1048576)⟩]⟩,
  ⟨0xE101C, 0x40, 16, 0x0, 1, [⟨8, 1, .rw, (.c 0)⟩, ⟨0, 4, .rw, (.c 10)⟩]⟩,
  ⟨0xE1020, 0x40, 16, 0x0, 1, [⟨9, 1, .ro, (.c 0)⟩, ⟨8, 1, .ro, (.c 0)⟩, ⟨7, 1, .ro, (.c 0)⟩, ⟨6, 1, .ro, (.c 0)⟩, ⟨5, 1, .ro, (.c 0)⟩, ⟨4, 1, .ro, (.c 0)⟩, ⟨3, 1, .ro, (.c 0)⟩, ⟨2, 1, .ro, (.c 0)⟩, ⟨1, 1, .ro, (.c 0)⟩]⟩,
  ⟨0xE1024, 0x40, 16, 0x0, 1, [⟨0, 6, .w1c, (.c 0)⟩]⟩,
  ⟨0xF0000, 0x0, 1, 0x0, 1, [⟨24, 8, .ro, (.c 0)⟩, ⟨4, 1, .rw, (.c 0)⟩]⟩,
  ⟨0xF0004, 0x0, 1, 0x0, 1, [⟨0, 1, .ro, (.c 0)⟩]⟩,
  ⟨0xF0008, 0x0, 1, 0x0, 1, [⟨17, 1, .ro, (.c 0)⟩, ⟨16, 1, .ro, (.c 0)⟩, ⟨0, 12, .ro, (.c 0)⟩]⟩,
  ⟨0xF000C, 0x0, 1, 0x0, 1, [⟨0, 16, .ro, (.c 0)⟩]⟩,
  ⟨0xF0010, 0x0, 1, 0x0, 1, [⟨0, 16, .rw, (.c 5000)⟩]⟩,
  ⟨0xF0014, 0x0, 1, 0x0, 1, [⟨16, 16, .rw, (.c 12800)⟩, ⟨0, 16, .rw, (.c 14080)⟩]⟩,
  ⟨0xF0020, 0x0, 1, 0x0, 1, [⟨0, 5, .w1c, (.c 0)⟩]⟩,
  ⟨0xF0100, 0x4, 64, 0x0, 1, [⟨31, 1, .rw, (.c 0)⟩, ⟨30, 1, .rw, (.c 0)⟩, ⟨29, 1, .rw, (.c 0)⟩, ⟨24, 3, .rw, (.c 0)⟩, ⟨16, 6, .rw, (.c 0)⟩, ⟨0, 16, .rw, (.c 0)⟩]⟩,
  ⟨0xF0200, 0x4, 12, 0x0, 1, [⟨16, 16, .rw, .monHi⟩, ⟨0, 16, .rw, .monLo⟩]⟩]
/-- Rows of the register map, part 10. -/
def regTable10 : List RegRow := [
  ⟨0xF0400, 0x4, 64, 0x0, 1, [⟨31, 1, .ro, (.c 0)⟩, ⟨0, 16, .ro, (.c 0)⟩]⟩,
  ⟨0xF4000, 0x10, 1024, 0x0, 1, [⟨16, 16, .rc, (.c 0)⟩, ⟨0, 16, .rc, (.c 0)⟩]⟩,
  ⟨0xF4004, 0x10, 1024, 0x0, 1, [⟨16, 16, .ro, (.c 0)⟩, ⟨0, 16, .ro, (.c 0)⟩]⟩,
  ⟨0xF4008, 0x10, 1024, 0x0, 1, [⟨31, 1, .rw, (.c 0)⟩, ⟨30, 1, .rw, (.c 0)⟩, ⟨28, 2, .rw, (.c 0)⟩, ⟨22, 6, .rw, (.c 0)⟩, ⟨14, 8, .rw, (.c 0)⟩, ⟨8, 6, .rw, (.c 0)⟩, ⟨6, 2, .rw, (.c 0)⟩]⟩,
  ⟨0xF400C, 0x10, 1024, 0x0, 1, [⟨0, 16, .rc, (.c 0)⟩]⟩,
  ⟨0xF8000, 0x10, 64, 0x0, 1, [⟨31, 1, .rw, (.c 0)⟩, ⟨30, 1, .wo, (.c 0)⟩]⟩,
  ⟨0xF8004, 0x10, 64, 0x0, 1, [⟨16, 16, .ro, (.c 32768)⟩, ⟨0, 16, .ro, (.c 32768)⟩]⟩,
  ⟨0xF8008, 0x10, 64, 0x0, 1, [⟨16, 16, .ro, (.c 32768)⟩]⟩,
  ⟨0x100000, 0x0, 1, 0x0, 1, [⟨9, 1, .ro, (.c 0)⟩, ⟨8, 1, .ro, (.c 0)⟩, ⟨4, 2, .ro, (.c 0)⟩, ⟨0, 2, .ro, (.c 0)⟩]⟩,
  ⟨0x100004, 0x0, 1, 0x0, 1, [⟨0, 32, .rw, (.c 0)⟩]⟩,
  ⟨0x100008, 0x0, 1, 0x0, 1, [⟨0, 32, .rw, (.c 0)⟩]⟩,
  ⟨0x100010, 0x4, 2, 0x0, 1, [⟨0, 14, .rw, (.c 0)⟩]⟩,
  ⟨0x100020, 0x0, 1, 0x0, 1, [⟨0, 5, .w1c, (.c 0)⟩]⟩,
  ⟨0x100024, 0x0, 1, 0x0, 1, [⟨16, 16, .rc, (.c 0)⟩, ⟨0, 16, .rc, (.c 0)⟩]⟩,
  ⟨0x100028, 0x4, 2, 0x0, 1, [⟨0, 32, .rw, (.c 0)⟩]⟩,
  ⟨0x100080, 0x10, 2, 0x0, 1, [⟨0, 32, .rw, (.c 0)⟩]⟩,
  ⟨0x100084, 0x10, 2, 0x0, 1, [⟨31, 1, .rw, (.c 0)⟩, ⟨24, 4, .rw, (.c 0)⟩, ⟨0, 7, .rw, (.c 0)⟩]⟩,
  ⟨0x100088, 0x0, 1, 0x0, 1, [⟨0, 32, .rw, (.c 0)⟩]⟩,
  ⟨0x100098, 0x0, 1, 0x0, 1, [⟨0, 32, .ro, (.c 0)⟩]⟩,
  ⟨0x10008C, 0x0, 1, 0x0, 1, [⟨16, 16, .rc, (.c 0)⟩]⟩]
/-- Rows of the register map, part 11. -/
def regTable11 : List RegRow := [
  ⟨0x108000, 0x10, 64, 0x4, 3, [⟨0, 32, .rw, (.c 0)⟩]⟩,
  ⟨0x10800C, 0x10, 64, 0x0, 1, [⟨0, 1, .rw, (.c 1)⟩]⟩,
  ⟨0x109000, 0x4, 2, 0x0, 1, [⟨0, 32, .ro, (.c 0)⟩]⟩,
  ⟨0x110000, 0x0, 1, 0x0, 1, [⟨24, 8, .ro, (.c 0)⟩, ⟨23, 1, .wo, (.c 0)⟩, ⟨22, 1, .wo, (.c 0)⟩, ⟨21, 1, .rw, (.c 0)⟩, ⟨20, 1, .wo, (.c 0)⟩, ⟨8, 8, .rw, (.c 64)⟩, ⟨4, 1, .rw, (.c 0)⟩, ⟨0, 2, .ro, (.c 0)⟩]⟩,
  ⟨0x110004, 0x0, 1, 0x0, 1, [⟨8, 4, .ro, (.c 0)⟩, ⟨6, 1, .ro, (.c 0)⟩, ⟨5, 1, .ro, (.c 0)⟩, ⟨4, 1, .ro, (.c 0)⟩, ⟨2, 2, .ro, (.c 0)⟩, ⟨0, 2, .ro, (.c 0)⟩]⟩,
  ⟨0x110008, 0x0, 1, 0x0, 1, [⟨31, 1, .wo, (.c 0)⟩, ⟨0, 16, .rw, (.c 20)⟩]⟩,
  ⟨0x11000C, 0x0, 1, 0x0, 1, [⟨16, 8, .rw, (.c 50)⟩, ⟨8, 8, .rw, (.c 10)⟩, ⟨0, 8, .rw, (.c 8)⟩]⟩,
  ⟨0x110010, 0x0, 1, 0x0, 1, [⟨0, 32, .ro, (.c 0)⟩]⟩,
  ⟨0x110014, 0x0, 1, 0x0, 1, [⟨0, 32, .ro, (.c 0)⟩]⟩,
  ⟨0x110018, 0x0, 1, 0x0, 1, [⟨0, 32, .ro, (.c 0)⟩]⟩,
  ⟨0x11001C, 0x0, 1, 0x0, 1, [⟨16, 16, .rc, (.c 0)⟩, ⟨8, 8, .rc, (.c 0)⟩, ⟨0, 8, .rc, (.c 0)⟩]⟩,
  ⟨0x110020, 0x0, 1, 0x0, 1, [⟨0, 7, .w1c, (.c 0)⟩]⟩,
  ⟨0x110030, 0x0, 1, 0x0, 1, [⟨0, 32, .rw, (.c 4294967295)⟩]⟩,
  ⟨0x110034, 0x0, 1, 0x0, 1, [⟨0, 32, .rw, (.c 4294967295)⟩]⟩,
  ⟨0x110040, 0x8, 8, 0x0, 1, [⟨0, 32, .rw, (.c 0)⟩]⟩,
  ⟨0x110044, 0x8, 8, 0x0, 1, [⟨31, 1, .rw, (.c 0)⟩, ⟨27, 4, .rw, (.c 0)⟩, ⟨0, 20, .rw, (.c 0)⟩]⟩,
  ⟨0x110080, 0x4, 4, 0x0, 1, [⟨16, 16, .rc, (.c 0)⟩, ⟨4, 1, .rw, (.c 0)⟩, ⟨0, 2, .ro, (.c 0)⟩]⟩,
  ⟨0x120000, 0x0, 1, 0x0, 1, [⟨4, 1, .rw, (.c 0)⟩]⟩,
  ⟨0x120004, 0x0, 1, 0x0, 1, [⟨24, 8, .ro, (.c 0)⟩, ⟨4, 16, .ro, (.c 0)⟩, ⟨0, 2, .ro, (.c 0)⟩]⟩,
  ⟨0x120008, 0x0, 1, 0x0, 1, [⟨9, 1, .rw, (.c 0)⟩, ⟨8, 1, .rw, (.c 0)⟩, ⟨7, 1, .rw, (.c 0)⟩, ⟨4, 2, .rw, (.c 0)⟩, ⟨2, 2, .rw, (.c 0)⟩, ⟨0, 1, .rw, (.c 0)⟩]⟩]
/-- Rows of the register map, part 12. -/
def regTable12 : List RegRow := [
  ⟨0x120010, 0x0, 1, 0x0, 1, [⟨16, 16, .rc, (.c 0)⟩, ⟨0, 16, .rc, (.c 0)⟩]⟩,
  ⟨0x120014, 0x0, 1, 0x0, 1, [⟨0, 32, .ro, (.c 0)⟩]⟩,
  ⟨0x120018, 0x0, 1, 0x0, 1, [⟨31, 1, .w1c, (.c 0)⟩, ⟨0, 8, .ro, (.c 0)⟩]⟩,
  ⟨0x120020, 0x0, 1, 0x0, 1, [⟨0, 32, .ro, (.c 0)⟩]⟩,
  ⟨0x120024, 0x0, 1, 0x0, 1, [⟨0, 3, .w1c, (.c 0)⟩]⟩,
  ⟨0x130000, 0x4, 48, 0x0, 1, [⟨24, 8, .ro, (.c 0)⟩, ⟨8, 2, .rw, (.c 1)⟩, ⟨6, 2, .rw, (.c 0)⟩, ⟨5, 1, .ro, (.c 0)⟩, ⟨4, 1, .rw, (.c 0)⟩, ⟨3, 1, .rw, (.c 0)⟩, ⟨2, 1, .rw, (.c 0)⟩, ⟨0, 2, .ro, (.c 0)⟩]⟩,
  ⟨0x130100, 0x0, 1, 0x0, 1, [⟨0, 32, .w1c, (.c 0)⟩]⟩,
  ⟨0x130104, 0x0, 1, 0x0, 1, [⟨0, 16, .w1c, (.c 0)⟩]⟩,
  ⟨0x200000, 0x4000, 64, 0x0, 1, [⟨0, 1, .rw, (.c 0)⟩]⟩,
  ⟨0x200010, 0x4000, 64, 0x0, 1, [⟨0, 32, .ro, (.c 0)⟩]⟩,
  ⟨0x200014, 0x4000, 64, 0x0, 1, [⟨0, 32, .rc, (.c 0)⟩]⟩,
  ⟨0x200018, 0x4000, 64, 0x0, 1, [⟨0, 32, .ro, (.c 0)⟩]⟩,
  ⟨0xA00000, 0x40, 4096, 0x0, 1, [⟨29, 3, .ro, (.c 0)⟩, ⟨28, 1, .ro, (.c 0)⟩, ⟨27, 1, .ro, (.c 0)⟩, ⟨24, 3, .ro, (.c 0)⟩, ⟨16, 8, .ro, (.c 0)⟩, ⟨0, 16, .ro, (.c 0)⟩]⟩,
  ⟨0xA00004, 0x40, 4096, 0x0, 1, [⟨0, 12, .ro, (.c 0)⟩]⟩,
  ⟨0xA00008, 0x40, 4096, 0x0, 1, [⟨0, 32, .ro, (.c 0)⟩]⟩,
  ⟨0xA0000C, 0x40, 4096, 0x0, 1, [⟨0, 32, .ro, (.c 0)⟩]⟩,
  ⟨0xA00010, 0x40, 4096, 0x0, 1, [⟨0, 32, .ro, (.c 0)⟩]⟩,
  ⟨0xA00014, 0x40, 4096, 0x0, 1, [⟨0, 32, .ro, (.c 0)⟩]⟩,
  ⟨0xC00000, 0x40, 16384, 0x0, 1, [⟨16, 16, .rw, (.c 0)⟩, ⟨14, 2, .rw, (.c 0)⟩, ⟨0, 14, .rw, (.c 0)⟩]⟩,
  ⟨0xC00004, 0x40, 16384, 0x0, 1, [⟨31, 1, .rw, (.c 0)⟩, ⟨30, 1, .rw, (.c 0)⟩, ⟨29, 1, .rw, (.c 0)⟩, ⟨28, 1, .rw, (.c 0)⟩, ⟨24, 4, .rw, (.c 0)⟩, ⟨23, 1, .rw, (.c 0)⟩, ⟨20, 3, .rw, (.c 0)⟩, ⟨19, 1, .rw, (.c 0)⟩, ⟨14, 5, .rw, (.c 0)⟩, ⟨0, 14, .rw, (.c 0)⟩]⟩]
/-- Rows of the register map, part 13. -/
def regTable13 : List RegRow := [
  ⟨0xC00008, 0x40, 16384, 0x0, 1, [⟨31, 1, .rw, (.c 0)⟩, ⟨14, 17, .rw, (.c 0)⟩, ⟨0, 14, .rw, (.c 0)⟩]⟩,
  ⟨0xC0000C, 0x40, 16384, 0x0, 1, [⟨0, 32, .rw, (.c 0)⟩]⟩,
  ⟨0xC00010, 0x40, 16384, 0x0, 1, [⟨0, 32, .rw, (.c 0)⟩]⟩,
  ⟨0xC00014, 0x40, 16384, 0x8, 4, [⟨0, 32, .rw, (.c 0)⟩]⟩,
  ⟨0xC00018, 0x40, 16384, 0x8, 4, [⟨31, 1, .rw, (.c 0)⟩, ⟨27, 4, .rw, (.c 0)⟩, ⟨13, 14, .rw, (.c 0)⟩, ⟨11, 2, .rw, (.c 0)⟩, ⟨0, 11, .rw, (.c 0)⟩]⟩,
  ⟨0xC00034, 0x40, 16384, 0x0, 1, [⟨29, 3, .ro, (.c 0)⟩, ⟨16, 13, .ro, (.c 0)⟩, ⟨0, 14, .ro, (.c 0)⟩]⟩,
  ⟨0xC00038, 0x40, 16384, 0x0, 1, [⟨0, 32, .ro, (.c 4294967295)⟩]⟩]
/-- The register map. -/
def regTable : List RegRow :=
  regTable0 ++ regTable1 ++ regTable2 ++ regTable3 ++ regTable4 ++ regTable5 ++ regTable6 ++ regTable7 ++ regTable8 ++ regTable9 ++ regTable10 ++ regTable11 ++ regTable12 ++ regTable13

end Sys2Proof.Machine
end

