-- ==== Sys2Proof/Machine/Ops.lean ====
section
/-! DEFINITION. The named operations over tables, memories and registers: reading and writing one field, one register
word by its access types (R10 to R13), one byte or word of a memory, the read latches (R503), and the status codes. -/

namespace Sys2Proof.Machine

/-! ### Tables -/

/-- The value listed for a key, else the default. -/
def tabGet {K V : Type} [DecidableEq K] (d : V) : List (K × V) → K → V
  | [], _ => d
  | (k', v) :: t, k => if k' = k then v else tabGet d t k

/-- A key and value put before the first greater key. -/
def tabIns {K V : Type} (lt : K → K → Bool) (k : K) (v : V) : List (K × V) → List (K × V)
  | [] => [(k, v)]
  | (k', v') :: t => if lt k k' then (k, v) :: (k', v') :: t else (k', v') :: tabIns lt k v t

/-- The table without a key. -/
def tabDel {K V : Type} [DecidableEq K] (k : K) (m : List (K × V)) : List (K × V) :=
  m.filter (fun e => !decide (e.1 = k))

/-- The table with one key's value replaced; the default value is not listed. -/
def tabSet {K V : Type} [DecidableEq K] [DecidableEq V] (lt : K → K → Bool) (d : V) (m : List (K × V)) (k : K)
    (v : V) : List (K × V) :=
  if v = d then tabDel k m else tabIns lt k v (tabDel k m)

/-- The order of indices and addresses. -/
def natLt (a b : Nat) : Bool := decide (a < b)
/-- The order of field keys. -/
def keyLt (a b : Key) : Bool := decide (a.1 < b.1) || (decide (a.1 = b.1) && decide (a.2 < b.2))

/-- A number of a sparse file. -/
def fileGet (m : File) (k : Nat) : Nat := tabGet 0 m k
def fileSet (m : File) (k v : Nat) : File := tabSet natLt 0 m k v

/-! ### Register fields -/

/-- The field's bits of a written word. -/
def Fld.of (f : Fld) (w : Nat) : Nat := (w / 2 ^ (f.id % 32)) % 2 ^ f.width

namespace State

/-- The value of a register field. -/
def get (s : State) (f : Fld) : Nat := tabGet f.rst s.regs (f.id, f.ix)

/-- One field set; bits beyond its width are dropped. -/
def set (s : State) (f : Fld) (v : Nat) : State :=
  { s with regs := tabSet keyLt f.rst s.regs (f.id, f.ix) (v % 2 ^ f.width) }

/-- A one-bit field as a Boolean. -/
def on (s : State) (f : Fld) : Bool := decide (s.get f ≠ 0)
/-- One field set from its bits of a written word (RW). -/
def put (s : State) (f : Fld) (w : Nat) : State := s.set f (f.of w)
/-- Several fields set from a written word. -/
def puts (s : State) (fs : List Fld) (w : Nat) : State := fs.foldl (fun s f => s.put f w) s
/-- A flag set or cleared. -/
def flag (s : State) (f : Fld) (b : Bool) : State := s.set f (b2n b)
/-- A counter increased by `n`, saturating at its width (R13). -/
def bump (s : State) (f : Fld) (n : Nat) : State := s.set f (min (s.get f + n) (2 ^ f.width - 1))
/-- A written W1C field: the bits written 1 are cleared (R10). -/
def clear1 (s : State) (f : Fld) (w : Nat) : State := s.set f (s.get f &&& (2 ^ f.width - 1 ^^^ f.of w))
/-- Two 32-bit fields as one 64-bit value. -/
def pair (s : State) (lo hi : Fld) : Nat := s.get lo + 2 ^ 32 * s.get hi

end State

/-! ### The register map -/

/-- The indices of an address within a row of the register map. -/
def RegRow.find (r : RegRow) (addr : Nat) : Option (Nat × Nat) :=
  if addr < r.base then none
  else
    let d := addr - r.base
    let i := if r.stride1 = 0 then 0 else d / r.stride1
    let e := if r.stride1 = 0 then d else d % r.stride1
    let k := if r.stride2 = 0 then 0 else e / r.stride2
    let z := if r.stride2 = 0 then e else e % r.stride2
    if z = 0 ∧ i < r.count1 ∧ k < r.count2 then some (i, k) else none

/-- The row that an address lies in, with the outer index and the index of its fields' keys. -/
def findReg (addr : Nat) : List RegRow → Option (RegRow × Nat × Nat)
  | [] => none
  | r :: t =>
    match r.find addr with
    | some (i, k) => some (r, i, i * r.count2 + k)
    | none => findReg addr t

/-- A row's field at an index. -/
def RegField.fld (f : RegField) (r : RegRow) (i ix : Nat) : Fld := ⟨r.base * 32 + f.lo, ix, f.width, f.rst.at i⟩

namespace State

/-- The word a row reads: every readable field in place, reserved bits 0 (R11). -/
def rowWord (s : State) (r : RegRow) (i ix : Nat) : Nat :=
  r.fields.foldl (fun w f => if f.acc = .wo then w else w + 2 ^ f.lo * s.get (f.fld r i ix)) 0

/-- The word that a plain register reads; an empty offset reads 0 (R11). -/
def regWord (s : State) (addr : Nat) : Nat :=
  match findReg addr regTable with
  | some (r, i, ix) => s.rowWord r i ix
  | none => 0

/-- A read's clearing of a register's RC fields (R10, R13). -/
def regClear (s : State) (addr : Nat) : State :=
  match findReg addr regTable with
  | some (r, i, ix) => r.fields.foldl (fun s f => if f.acc = .rc then s.set (f.fld r i ix) 0 else s) s
  | none => s

/-- A write of a row by its fields' access types (R10). -/
def rowStore (s : State) (r : RegRow) (i ix w : Nat) : State :=
  r.fields.foldl (fun s f =>
    match f.acc with
    | .rw => s.put (f.fld r i ix) w
    | .w1c => s.clear1 (f.fld r i ix) w
    | .w1s => s.set (f.fld r i ix) (s.get (f.fld r i ix) ||| (f.fld r i ix).of w)
    | .ro | .wo | .rc => s) s

/-- A field that a write can change (R10). -/
def RegField.writable (f : RegField) : Bool := !decide (f.acc = .ro) && !decide (f.acc = .rc)
/-- A register with a field that a write can change stands at the address (R10, R11). -/
def takesWrite (addr : Nat) : Bool :=
  match findReg addr regTable with
  | some (r, _, _) => r.fields.any RegField.writable
  | none => false

/-- A write of a plain register by its fields' access types; an empty offset takes no effect (R11). -/
def regStore (s : State) (addr w : Nat) : State :=
  match findReg addr regTable with
  | some (r, i, ix) => s.rowStore r i ix w
  | none => s

/-- A write of a plain register, with the status that its unit reports for one: an offset that no writable register
occupies takes no effect at all (R11). -/
def plainStore (s : State) (addr w : Nat) (report : State → State) : State :=
  if takesWrite addr then report (s.regStore addr w) else s

/-! ### Latches and staged words -/

/-- A master's latch of a table replaced (R503). -/
def setLatch (s : State) (m table entry : Nat) (ws : List Nat) : State :=
  { s with latches := { master := m, table := table, entry := entry, words := ws } ::
      s.latches.filter (fun l => !(decide (l.master = m) && decide (l.table = table))) }

/-- The latched word `k` of an entry, if the master's latch holds that entry (R503). -/
def latched (s : State) (m table entry k : Nat) : Option Nat :=
  match s.latches.find? (fun l => decide (l.master = m) && decide (l.table = table)) with
  | some l => if l.entry = entry then l.words[k]? else none
  | none => none

/-- The word a master has staged at an address, if it has (R505). A staged word `w` is kept as 2w + 1, so that a staged 0 is
told from none. DESIGN CHOICE: log entry 141. -/
def stagedAt (s : State) (m addr : Nat) : Option Nat :=
  let v := tabGet 0 s.staged (addr, m)
  if v = 0 then none else some (v / 2)
/-- The word staged, 0 where there is none. -/
def stagedWord (s : State) (m addr : Nat) : Nat := (s.stagedAt m addr).getD 0
def stage (s : State) (m addr w : Nat) : State :=
  { s with staged := tabSet keyLt 0 s.staged (addr, m) (2 * (w % 2 ^ 32) + 1) }
/-- A staged word comes into effect in its field, and nothing is staged there any more; where none is staged the field
stays as it is. -/
def takeStaged (s : State) (m addr : Nat) (f : Fld) : State :=
  match s.stagedAt m addr with
  | some w => { s with staged := tabDel (addr, m) s.staged }.set f w
  | none => s

end State

/-! ### Memories -/

/-- One byte of a memory; a byte nothing has written reads 0. DESIGN CHOICE: log entry 3. -/
def memGet (m : Mem) (a : Nat) : Byte := tabGet 0 m a
def memSet (m : Mem) (a : Nat) (b : Byte) : Mem := tabSet natLt 0 m a b

/-- `n` bytes from an address, lowest first. -/
def memBytes (m : Mem) (a : Nat) : Nat → List Byte
  | 0 => []
  | n + 1 => memGet m a :: memBytes m (a + 1) n

/-- Bytes written from an address. -/
def memWrite (m : Mem) (a : Nat) : List Byte → Mem
  | [] => m
  | b :: t => memWrite (memSet m a b) (a + 1) t

/-- The bytes of cells written one by one. -/
def memCells (m : Mem) (cs : List Host.Cell) : Mem := cs.foldl (fun m c => memSet m c.1 c.2) m

/-- A little-endian number from its bytes (R9, R70). -/
def leNat : List Byte → Nat
  | [] => 0
  | b :: t => b.toNat + 256 * leNat t

/-- The `n` little-endian bytes of a number. -/
def leBytes (x : Nat) : Nat → List Byte
  | 0 => []
  | n + 1 => BitVec.ofNat 8 x :: leBytes (x / 256) n

/-- A 32-bit word of a memory. -/
def mem32 (m : Mem) (a : Nat) : Nat := leNat (memBytes m a 4)
/-- A 128-bit word of a memory. -/
def mem128 (m : Mem) (a : Nat) : Nat := leNat (memBytes m a 16)
def memSet32 (m : Mem) (a w : Nat) : Mem := memWrite m a (leBytes w 4)
def memSet128 (m : Mem) (a w : Nat) : Mem := memWrite m a (leBytes w 16)

/-- Canonical form: rising addresses and no byte listed that is 0. -/
def memSorted : Mem → Bool
  | [] => true
  | [c] => decide (c.2 ≠ 0)
  | c :: d :: t => decide (c.2 ≠ 0) && decide (c.1 < d.1) && memSorted (d :: t)

/-- A memory is in canonical form. -/
def Memory.wf (m : Mem) : Bool := memSorted m

/-! ### Numbers -/

/-- A `w`-bit number as a signed integer. -/
def sint (w x : Nat) : Int := if x % 2 ^ w < 2 ^ (w - 1) then ((x % 2 ^ w : Nat) : Int) else ((x % 2 ^ w : Nat) : Int) - 2 ^ w
/-- An integer modulo 2^w. -/
def wrap (w : Nat) (x : Int) : Nat := (x % (2 ^ w : Int)).toNat
/-- The 32-bit lane `l` of a 128-bit word. -/
def lane (x l : Nat) : Nat := natBits x (32 * l + 31) (32 * l)
/-- A 128-bit word from four lanes. -/
def quad (a b c d : Nat) : Nat := a % 2 ^ 32 + 2 ^ 32 * (b % 2 ^ 32) + 2 ^ 64 * (c % 2 ^ 32) + 2 ^ 96 * (d % 2 ^ 32)
/-- The next multiple of `b` at or above `x`. -/
def roundUp (x b : Nat) : Nat := if b = 0 then x else ((x + b - 1) / b) * b
/-- Is `a` at or after `b`, as 32-bit serial numbers, within `n`? -/
def serialIn (a b n : Nat) : Bool := decide ((a + 2 ^ 32 - b % 2 ^ 32) % 2 ^ 32 ≤ n)
/-- The value nearest `ref` with the low 48 bits `x`: in [ref − 2⁴⁷, ref + 2⁴⁷) (R165). -/
def extend48 (x ref : Nat) : Nat :=
  let d := (x % 2 ^ 48 + 2 ^ 48 - ref % 2 ^ 48) % 2 ^ 48
  if d < 2 ^ 47 then ref + d else ref + d - 2 ^ 48

/-! ### Status codes (R14) -/

def stOK : Nat := 0
def stBUSY : Nat := 1
def stCONFLICT : Nat := 2
def stREFUSED : Nat := 3
def stBADARG : Nat := 4
def stNOSPARE : Nat := 5
def stTIMEOUT : Nat := 6
def stAUTH : Nat := 7
def stFORMAT : Nat := 8
def stWAIT : Nat := 0x80

/-- The state codes of R37. -/
def unitOFF : Nat := 0
def unitSTARTING : Nat := 1
def unitON : Nat := 2
def unitSHUTTING : Nat := 3

/-- The bit of an action word (R504). -/
def bits (w : Nat) (bs : List Nat) : Nat := (bs.filter (fun b => natBit w b)).length

end Sys2Proof.Machine
end

