-- ==== Sys2Proof/Machine/Events.lean ====
section
/-! DEFINITION. What every unit shares: the cores' lookup, unit events and their causes (R28, R29, R506), claims (R31 to
R35), violations (R396 to R400) and the fault log (R408, R409, R416). -/

namespace Sys2Proof.Machine

namespace State

/-- A core: 0–63 logical, 64 the steward. -/
def core (s : State) (n : Nat) : Core := tabGet Core.reset s.cores n
def setCore (s : State) (n : Nat) (c : Core) : State := { s with cores := tabSet natLt Core.reset s.cores n c }

/-- The samples per block in effect: 8, 16, 32 or 64 (R43). -/
def blockLen (s : State) : Nat := 8 * 2 ^ s.get I.RATE_B
/-- The rate multiple M in effect (R46). -/
def multM (s : State) : Nat := 2 ^ s.get I.RATE_M
/-- CCLK cycles per block (R46). -/
def blockCycles (s : State) : Nat := 16384 / s.multM * s.blockLen
/-- The index of the present block (R62). -/
def blockIx (s : State) : Nat := s.frc / s.blockLen
/-- Fe in Hz (R46). -/
def rateHz (s : State) : Nat := (if s.on I.RATE_F then 44100 else 48000) * s.multM
/-- TCLK periods per second (R44). -/
def tclkHz (s : State) : Nat := if s.on I.RATE_F then 45158400 else 49152000
/-- FRC has just reached `t`: it lies among the samples of the last advance, or is the present one.
DESIGN CHOICE: log entry 6. -/
def reached (s : State) (t : Nat) : Bool := decide (t ≤ s.frc) && (decide (s.frcPrev < t) || decide (t = s.frc))

end State

/-! ### Unit events (R28, R29, R506) -/

/-- The status field that holds event `n`'s causes, and the mask of them. Event 248's cause is the SWI queue itself. -/
def evCause (n : Nat) : Option (Fld × Nat) :=
  if n = 0 then some (F.SYS_EVT_STATE, 1)
  else if n = 1 then some (F.SYS_ENGINE_OVR, 1)
  else if n = 2 then some (F.SYS_EVT_CONFLICT, 1)
  else if n < 8 then none
  else if n < 15 then some (F.CLK_EVT_EVT, 2 ^ (n - 8))
  else if n = 15 then none
  else if n < 22 then some (F.PRT_EVT_EVT, 2 ^ (n - 16))
  else if n < 24 then none
  else if n < 31 then some (F.MDL_EVT_EVT, 2 ^ (n - 24))
  else if n = 31 then none
  else if n < 40 then some (F.CFG_EVT_EVT, 2 ^ (n - 32))
  else if n < 46 then some (F.QN_EVT_EVT, 2 ^ (n - 40))
  else if n < 48 then none
  else if n < 52 then some (F.VM_EVT_EVT, 2 ^ (n - 48))
  else if n < 56 then none
  else if n < 60 then some (F.SCN_EVT_EVT, 2 ^ (n - 56))
  else if n < 64 then none
  else if n < 69 then some (F.BRM_EVT_EVT, 2 ^ (n - 64))
  else if n < 72 then none
  else if n < 104 then some (F.AP_EVT_EVT (n - 72), 0x3F)
  else if n < 109 then some (F.ASRC_EVT_EVT, 2 ^ (n - 104))
  else if n < 112 then none
  else if n < 120 then some (F.AES_RXEVT_EVT (n - 112), 0xF)
  else if n < 128 then some (F.AES_TXEVT_EVT (n - 120), 7)
  else if n < 192 then some (F.TMR_STAT_EVT (n - 128), 0x7F)
  else if n < 198 then some (F.U_EVT_EVT (n - 192), 0x1FF)
  else if n < 200 then none
  else if n < 216 then some (F.DMS_EVT_EVT (n - 200), 0x3F)
  else if n < 221 then some (F.CUR_EVT_EVT, 2 ^ (n - 216))
  else if n < 224 then none
  else if n < 229 then some (F.HIF_EVT_EVT, 2 ^ (n - 224))
  else if n < 232 then none
  else if n < 239 then some (F.TWN_EVT_EVT, 2 ^ (n - 232))
  else if n < 240 then none
  else if n < 243 then some (F.DMC_EVT_EVT, 2 ^ (n - 240))
  else none

namespace State

/-- Event `n` is pending: one of its causes is set (R29); event 248 while the SWI queue holds an entry (R139), event
244 while an edge cause is set (R500). -/
def evPending (s : State) (n : Nat) : Bool :=
  if n = 248 then decide (s.swiq ≠ [])
  else if n = 244 then s.on F.PIN_EVT_LO_EDGE || s.on F.PIN_EVT_HI_EDGE
  else match evCause n with
    | some (f, m) => decide (s.get f &&& m ≠ 0)
    | none => false

/-- A delivery made due, unless the event was already pending (R29). A cause cleared before the delivery does not take it
back. DESIGN CHOICE: log entry 143. -/
def notify (s : State) (n : Nat) (was : Bool) : State :=
  if was then s else { s with toDeliver := s.toDeliver.filter (fun e => !decide (e.1 = n)) ++ [(n, s.frc)] }

/-- Event `n` raised with cause bits `c` of its status field. -/
def raiseBits (s : State) (n c : Nat) : State :=
  match evCause n with
  | some (f, _) => (s.set f (s.get f ||| c)).notify n (s.evPending n)
  | none => s

/-- Event `n`, which has one cause of its own, raised. -/
def raise (s : State) (n : Nat) : State :=
  match evCause n with
  | some (_, m) => s.raiseBits n m
  | none => s

/-- Cause `c` of event `n`, which has several causes, raised. -/
def raiseCause (s : State) (n c : Nat) : State := s.raiseBits n (2 ^ c)

/-- The engine's run state changed, with event 0 (R506); `SYS_PWR` reads RUN or IDLE by it (R480). -/
def setEngine (s : State) (st : Nat) : State :=
  ((s.set F.SYS_ENGINE_STATE st).set F.SYS_PWR_STATE (if st = 0 then 1 else 0)).raise 0

/-! ### Claims (R31 to R35) -/

/-- A claim refused with CONFLICT: the slot, its owner and the requester are recorded and event 2 raised (R33). -/
def conflict (s : State) (slot requester : Nat) : State :=
  (((s.set F.SYS_CLAIMSTAT_CLAIM_OWNER (s.get (F.SYS_CLAIM_OWNER slot))).set F.SYS_CLAIMSTAT_SLOT slot).set
    F.SYS_CLAIMREQ_REQUESTER requester |>.set F.SYS_CLAIMREQ_STATUS stCONFLICT).raise 2

/-- The first of the slots that another owner holds, in the order of the feature's needs. DESIGN CHOICE: log entry 142. -/
def claimBar (s : State) (fid : Nat) (slots : List Nat) : Option Nat :=
  slots.find? (fun k => decide (s.get (F.SYS_CLAIM_OWNER k) ≠ 0) && decide (s.get (F.SYS_CLAIM_OWNER k) ≠ fid))

/-- All the slots taken for a feature. -/
def claimAll (s : State) (fid : Nat) (slots : List Nat) : State :=
  slots.foldl (fun s k => s.set (F.SYS_CLAIM_OWNER k) fid) s

/-- A feature's enable makes all its claims and goes on, or none and reports CONFLICT in its own STATUS (R33). -/
def withClaims (s : State) (fid : Nat) (slots : List Nat) (status : Fld) (go : State → State) : State :=
  match s.claimBar fid slots with
  | some k => (s.conflict k fid).set status stCONFLICT
  | none => go (s.claimAll fid slots)

/-- Some of a feature's claims released (R34). -/
def unclaim (s : State) (fid : Nat) (slots : List Nat) : State :=
  slots.foldl (fun s k => if s.get (F.SYS_CLAIM_OWNER k) = fid then s.set (F.SYS_CLAIM_OWNER k) 0 else s) s

/-- Every claim of a feature released at OFF (R34): the slots it holds leave the table of listed owners. -/
def unclaimAll (s : State) (fid : Nat) : State :=
  { s with regs := s.regs.filter (fun e => !(decide (e.1.1 = (F.SYS_CLAIM_OWNER 0).id) && decide (e.2 = fid))) }

/-- The claims of a feature that are none of `keep` released (R34, R281). -/
def unclaimBut (s : State) (fid : Nat) (keep : List Nat) : State :=
  { s with regs := s.regs.filter (fun e =>
      !(decide (e.1.1 = (F.SYS_CLAIM_OWNER 0).id) && decide (e.2 = fid) && !keep.contains e.1.2)) }

/-! ### Violations (R396 to R400) -/

/-- The bit of `PRT_FROZEN` of a master ID: word and bit. -/
def frozenBit (m : Nat) : Option (Nat × Nat) :=
  if m < 72 then some (m / 32, m % 32)
  else if m = 0x50 then some (2, 16)
  else if m = 0x58 then some (2, 24)
  else if m = 0x59 then some (2, 25)
  else if m = 0x5B then some (2, 27)
  else none

/-- The master is frozen (R400). -/
def isFrozen (s : State) (m : Nat) : Bool :=
  match frozenBit m with
  | some (w, b) => natBit (s.get (F.PRT_FROZEN_M w)) b
  | none => false

/-- The master's frozen bit set or cleared. -/
def setFrozen (s : State) (m : Nat) (b : Bool) : State :=
  match frozenBit m with
  | some (w, k) =>
    let v := s.get (F.PRT_FROZEN_M w)
    s.set (F.PRT_FROZEN_M w) (if b then v ||| 2 ^ k else v &&& (2 ^ 32 - 1 ^^^ 2 ^ k))
  | none => s

/-- The physical core behind a logical core (R27); the steward is master 0x50. -/
def masterOf (s : State) (n : Nat) : Nat := if n < 64 then s.get (F.MDL_MAP_PHYS n) else 0x50

/-- The words of a violation record (R400). -/
def violWords (s : State) (m kind bank pip addr pc : Nat) : List Nat :=
  [kind * 2 ^ 24 + m * 2 ^ 16 + bank * 2 ^ 14 + pip, addr % 2 ^ 32, s.frc % 2 ^ 32,
   pc % 2 ^ 16 * 2 ^ 16 + natBits s.frc 47 32]

/-- The log moved one entry down, from entry `i` on. -/
def vlogShift : Nat → State → State
  | 0, s => s
  | i + 1, s =>
    vlogShift i ([0, 1, 2, 3].foldl (fun s k => s.set (F.PRT_VLOG_W (i + 1) k) (s.get (F.PRT_VLOG_W i k))) s)

/-- The four words of one entry of a log set. -/
def setWords (s : State) (f : Nat → Fld) (ws : List Nat) : State :=
  (ws.zipIdx).foldl (fun s e => s.set (f e.2) e.1) s

/-- A violation recorded, counted, its master frozen, and event 16 raised (R399, R400). -/
def violate (s : State) (m kind bank pip addr pc : Nat) : State :=
  let ws := s.violWords m kind bank pip addr pc
  (((((vlogShift 15 s).setWords (F.PRT_VLOG_W 0) ws).setWords (fun k => I.VREC (4 * m + k)) ws).bump F.PRT_VCNT_N 1
    ).setFrozen m true).raise 16

/-! ### The fault log (R408, R409, R416) -/

/-- One entry made in the fault log, with event 24 or 25 (R416). -/
def mdlEntry (s : State) (fault unit inst : Nat) (perm : Bool) (action wcount detail logical : Nat) : State :=
  let i := s.get F.MDL_LOGHEAD_NEXT
  let full := decide (256 ≤ s.get I.MDL_LOGN)
  let ws := [fault * 2 ^ 24 + unit * 2 ^ 16 + inst % 2 ^ 16,
    b2n perm * 2 ^ 31 + action * 2 ^ 28 + min wcount 15 * 2 ^ 24 + detail % 2 ^ 16, s.frc % 2 ^ 32,
    logical % 2 ^ 16 * 2 ^ 16 + natBits s.frc 47 32]
  let s := (s.setWords (F.MDL_LOG_W i) ws).set F.MDL_LOGHEAD_NEXT (i + 1)
  let s := if full then s.set F.MDL_LOGHEAD_WRAP 1 else s.set I.MDL_LOGN (s.get I.MDL_LOGN + 1)
  s.raise (if perm then 25 else 24)

/-- The faults charged within the longest window there can be, the present one included (R409). DESIGN CHOICE: log entry 8. -/
def mdlWindow (s : State) (unit inst : Nat) : List (Nat × Nat × Nat) :=
  (unit, inst, s.tclk) :: s.faults.filter (fun e => decide (s.tclk ≤ e.2.2 + 255 * s.tclkHz))

/-- A fault charged to a unit within the window (R409). -/
def inWindow (s : State) (unit inst : Nat) (e : Nat × Nat × Nat) : Bool :=
  decide (e.1 = unit) && decide (e.2.1 = inst) && decide (s.tclk ≤ e.2.2 + s.get F.MDL_CLASS_WINDOW * s.tclkHz)

/-- A fault is counted in its unit's window unless it is an overrun or a monitor fault (R409). -/
def mdlCounted (fault : Nat) : Bool := !(decide (fault = 0x0A) || decide (fault = 0x0C))

/-- The number of faults of the unit in the window after charging one. -/
def mdlCount (s : State) (fault unit inst : Nat) : Nat :=
  if mdlCounted fault then ((s.mdlWindow unit inst).filter (s.inWindow unit inst)).length else 0

/-- Transient or permanent (R409): `ok` says that the fault was corrected or its retry succeeded. -/
def mdlPermanent (s : State) (fault unit inst : Nat) (ok : Bool) : Bool :=
  if fault = 4 ∨ fault = 5 ∨ fault = 6 ∨ fault = 0x0B then true
  else if mdlCounted fault then !ok || decide (s.get F.MDL_CLASS_COUNT ≤ s.mdlCount fault unit inst)
  else false

/-- A fault charged, classified and entered in the log; `tact` and `pact` are the actions of the two classes. A
corrected fault 0x01 is entered only when it is the first in the window or permanent (R416). -/
def mdlFault (s : State) (fault unit inst : Nat) (ok : Bool) (tact pact detail logical : Nat) : State :=
  let perm := s.mdlPermanent fault unit inst ok
  let n := s.mdlCount fault unit inst
  let t := if mdlCounted fault then { s with faults := s.mdlWindow unit inst } else s
  if fault = 1 ∧ perm = false ∧ 1 < n then t
  else t.mdlEntry fault unit inst perm (if perm then pact else tact) n detail logical

end State

end Sys2Proof.Machine
end

