-- ==== Sys2Proof/Machine/Guard.lean ====
section
/-! DEFINITION. Which master's write reaches a register (R376, R381 to R383, R397), and what happens to one that does
not: a violation, a discarded access, or a mirrored item held for its release tick. -/

namespace Sys2Proof.Machine

/-- The pair-local windows of R381: never mirrored. `ORC_` shares the window base of `PRT_` but not its prefix. -/
def pairLocal (addr : Nat) : Bool :=
  decide (addr / 4 = 0x34 / 4) || (decide (0x20000 ≤ addr) && decide (addr < 0x28000)) ||
  decide (addr / 0x10000 = 3) || decide (addr / 0x10000 = 4) || decide (addr / 0x10000 = 0x10) ||
  decide (addr / 0x10000 = 0x11) || decide (addr / 0x10000 = 0x14)

/-- A write that R397 does not admit. -/
def regwin (m : Master) (addr : Nat) : Bool :=
  let prt := decide (0x20000 ≤ addr) && decide (addr < 0x28000)
  let mdl := decide (addr / 0x10000 = 3)
  let orc := decide (0x28000 ≤ addr) && decide (addr < 0x30000)
  match m with
  | .steward => false
  | .pcie | .spi => prt || mdl
  | .twin => prt || mdl || orc || pairLocal addr

/-- A host master. -/
def isHost (m : Master) : Bool := decide (m = .pcie) || decide (m = .spi)

namespace State

/-- An access of a host port refused or discarded and counted (R376). -/
def hostReject (s : State) (m : Master) : State :=
  match m with
  | .pcie => s.bump F.HIF_ERR_PCIE 1
  | .spi => s.bump F.HIF_ERR_SPI 1
  | .steward | .twin => s

/-- The chip is the active one of a pair whose link is up, and mirrors what reaches it (R381, R384).
DEDUCED: log entry 16. -/
def mirrors (s : State) : Bool := decide (s.get F.TWN_STAT_ROLE = 1) && s.on F.TWN_STAT_LANES
/-- The chip is the standby of a pair. -/
def standby (s : State) : Bool := decide (s.get F.TWN_STAT_ROLE = 2)

/-- The release tick of an item accepted now: the first tick at least LEADT µs later (R382). -/
def releaseTick (s : State) : Nat :=
  roundUp (s.frc + (s.get F.TWN_TIME_LEADT * s.rateHz + 999999) / 1000000) s.blockLen

/-- A frame sent on the link and kept for resending, the last 256 at most (R385). -/
def sendFrame (s : State) (kind tick : Nat) (item : Option MirrorItem) (words : List Nat) : State :=
  let f : TxFrame := { seq := s.get I.TWN_TXSEQ, kind := kind, tick := tick, item := item, words := words,
                       tries := 0, acked := false, sent := s.get I.PCLK }
  { s with twin := { s.twin with tx := (s.twin.tx ++ [f]).drop (s.twin.tx.length + 1 - 256) } }.set
    I.TWN_TXSEQ (s.get I.TWN_TXSEQ + 1)

/-- An item mirrored: held for its release tick, and sent when a credit is left (R382, R385). -/
def mirror (s : State) (item : MirrorItem) : State :=
  let credit := decide (s.get I.TWN_CREDIT ≠ 0)
  let it : MItem :=
    { tick := s.releaseTick, item := item, seq := if credit then s.get I.TWN_TXSEQ else 2 ^ 24, acked := false }
  let held := { s with twin := { s.twin with items := s.twin.items ++ [it] } }
  if credit then (held.sendFrame 1 it.tick (some item) []).set I.TWN_CREDIT (s.get I.TWN_CREDIT - 1)
  else { held with twin := { held.twin with waiting := held.twin.waiting ++ [it] } }

/-- Would a register write of this master be performed, now or at a release tick? -/
def admitted (s : State) (m : Master) (addr : Nat) : Bool :=
  !(s.isFrozen m.id && !(isHost m && decide (addr < 0x10000))) && !regwin m addr &&
  !(isHost m && s.standby && !pairLocal addr)

/-- A PCIe post is held back, or transactions wait behind one (R369). -/
def pcieBusy (s : State) : Bool := s.qn.held.any (fun h => decide (h.src = 0x58)) || decide (s.host.pcieq ≠ [])

/-- A PCIe transaction queued behind a held post (R369). -/
def pcieWait (s : State) (r : PReq) : State := { s with host := { s.host with pcieq := s.host.pcieq ++ [r] } }

/-- A register write under the rules of its master: performed by `eff`, queued, mirrored, discarded, or a violation. -/
def guardWrite (s : State) (m : Master) (addr w : Nat) (eff : State → State) : State :=
  if decide (m = .pcie) && s.pcieBusy then s.pcieWait { kind := .regWrite, addr := addr, w := w, bytes := [] }
  else if s.isFrozen m.id && !(isHost m && decide (addr < 0x10000)) then s.hostReject m
  else if regwin m addr then (s.violate m.id 8 0 0 addr 0).hostReject m
  else if isHost m && !pairLocal addr && s.standby then s.hostReject m
  else if isHost m && !pairLocal addr && s.mirrors then
    s.mirror (.write m (BitVec.ofNat 24 addr) (BitVec.ofNat 32 w))
  else eff s

/-- A PCIe read is answered with completer abort, or not (R366, R376). -/
def answerRead (s : State) (m : Master) (abort : Bool) : State := if m = .pcie then s.flag I.PE_ABORT abort else s

/-- A register read under the rules of its master: a frozen port reaches the `SYS_` window only (R376). -/
def guardRead (s : State) (m : Master) (addr : Nat) (eff : State → State) : State :=
  if decide (m = .pcie) && s.pcieBusy then s.pcieWait { kind := .regRead, addr := addr, w := 0, bytes := [] }
  else if s.isFrozen m.id && !(isHost m && decide (addr < 0x10000)) then
    (s.hostReject m).answerRead m true
  else eff (s.answerRead m false)

/-- A post of the steward's, which no host write carries: discarded on a standby, mirrored by an active chip (R381). -/
def mirrorPost (s : State) (m : Master) (item : MirrorItem) (eff : State → State) : State :=
  if m ≠ .steward then eff s
  else if s.standby then s else if s.mirrors then s.mirror item else eff s

/-- The reply of a read, kept for the reading master. -/
def reply (s : State) (m : Master) (w : Nat) : State := s.set (I.RDATA m.id) w

end State

end Sys2Proof.Machine
end

