-- ==== Sys2Proof/Machine/Units.lean ====
section
/-! DEFINITION. The start and shutdown rules every unit follows (R37 to R39), and the outcome of a command. -/

namespace Sys2Proof.Machine

/-- The answer of every command: a next state. -/
abbrev Out := Host.Outcome State Fault Refusal

namespace State

/-- A write of an enable bit by state (R38): `start` makes the start-up from OFF (its claims and checks included) and
sets the enable itself when it is granted; `shut` begins the shutdown. -/
def enableWrite (s : State) (en st : Fld) (want : Bool) (start shut : State → State) : State :=
  if s.on en = want then s
  else if want then
    if s.get st = unitOFF then start s else s.set en 1
  else if s.get st = unitSTARTING ∨ s.get st = unitON then shut ((s.set en 0).set st unitSHUTTING)
  else s.set en 0

/-- The end of a shutdown (R38, R39): `off` releases what the unit holds, unless the enable has been set again, and then
the unit passes through OFF to STARTING with its claims. -/
def shutDone (s : State) (en st : Fld) (off restart : State → State) : State :=
  if s.get st = unitSHUTTING then
    if s.on en then restart (s.set st unitSTARTING) else off (s.set st unitOFF)
  else s

/-- The end of a start-up. -/
def startDone (s : State) (st : Fld) (go : State → State) : State :=
  if s.get st = unitSTARTING then go (s.set st unitON) else s

end State

end Sys2Proof.Machine
end

