-- ==== Sys2Proof/Machine/Clock.lean ====
section
/-! DEFINITION. The clock unit (R44 to R67): references, holdover, clock outputs, FRC loads and rate changes. -/

namespace Sys2Proof.Machine

/-- `CLK_STAT.MODE` values. -/
def clkACQUIRE : Nat := 0
def clkLOCKED : Nat := 1
def clkPULLING : Nat := 2
def clkHOLDOVER : Nat := 3
def clkFREERUN : Nat := 4

/-- The audio ports, AES3 transmitters, MCLKO outputs, `SYNCOUT` and AUDIO-mode Damson channels that R66 lists are all
OFF. -/
def State.clockUsersOff (s : State) : Bool :=
  (List.range 32).all (fun n => decide (s.get (F.AP_CTRL_STATE n) = unitOFF)) &&
  (List.range 8).all (fun n => decide (s.get (F.AES_TXCTRL_STATE n) = unitOFF)) &&
  (List.range 8).all (fun n => decide (s.get (F.CLK_MCLKO_STATE n) = unitOFF)) &&
  decide (s.get F.CLK_SYNCOUT_STATE = unitOFF) &&
  (List.range 16).all (fun n =>
    decide (s.get (F.DMS_CTRL_STATE n) = unitOFF) || decide (s.get (F.DMS_CFG_MODE n) = 0))

namespace State

def clkStatus (s : State) (v : Nat) : State := s.set F.CLK_STAT_STATUS v

/-! ### The root frequency (R51, R54, R57) -/

/-- The offset in `CLK_PPM`, in 0.001 ppm. -/
def ppm (s : State) : Int := sint 32 (s.get F.CLK_PPM_PPM)

/-- The offset set, as of now. -/
def setPpm (s : State) (x : Int) : State := (s.set F.CLK_PPM_PPM (wrap 32 x)).set I.CLK_WORDAT s.tclk

/-- A free value from −`b` to `b`. -/
def freeWithin (s : State) (b : Nat) : Int := (((Config.freeWord s.free).toNat % (2 * b + 1) : Nat) : Int) - b

/-- The next free value is a new one. -/
def drawn (s : State) : State := { s with free := s.free + 1 }

/-- The window of R48 about the nominal frequency, ±0.5 %, in 0.001 ppm. -/
def refWindow : Nat := 5000000

/-- How far the root frequency may have moved since its offset was taken: 10 ppm/s (R54). -/
def slewSpan (s : State) : Nat := 10000 * (s.tclk - s.get I.CLK_WORDAT) / s.tclkHz

/-- The offset nearest to `x` that the slew limit lets the root reach (R54). -/
def slewTo (s : State) (x : Int) : Int := max (s.ppm - s.slewSpan) (min (s.ppm + s.slewSpan) x)

/-- How far HOLDOVER may drift from the tuning word held: for 60 s 1 ppm and 0.2 ppm per kelvin of a change of die
temperature, which is free; after that the slew limit alone holds (R51). -/
def holdDrift (s : State) : Nat :=
  if s.tclk - s.get I.CLK_HELDAT ≤ 60 * s.tclkHz then 1000 + 200 * ((Config.freeWord (s.free + 1)).toNat % 256)
  else 2 * refWindow

/-- Where the root frequency goes (R51, R54, R57): in HOLDOVER about the word held, while pulling in at most 10 ppm beyond
the reference, while LOCKED after the reference wherever that moves within its window. -/
def ppmTarget (s : State) : Int :=
  if s.get F.CLK_STAT_MODE = clkHOLDOVER then
    sint 32 (s.get I.CLK_HELD) + max (-(s.holdDrift : Int)) (min s.holdDrift (s.freeWithin (2 * refWindow)))
  else if s.get F.CLK_STAT_MODE = clkPULLING then sint 32 (s.get I.CLK_REFPPM) + s.freeWithin 10000
  else s.freeWithin refWindow

/-- The root frequency's offset brought up to the present time. ACQUIRE has no slew limit; before the first lock, and on
the factory trim of FREERUN, it stands. DESIGN CHOICE: log entry 144. -/
def ppmNow (s : State) : State :=
  let m := s.get F.CLK_STAT_MODE
  if m = clkACQUIRE then if s.on I.CLK_STARTED then s.drawn.setPpm (s.freeWithin refWindow) else s
  else if m = clkFREERUN ∨ s.slewSpan = 0 then s
  else { s with free := s.free + 2 }.setPpm (s.slewTo s.ppmTarget)

/-- The offset of the reference that is selected: free within its window (R48). -/
def drawRef (s : State) : State := (s.set I.CLK_REFPPM (wrap 32 (s.freeWithin refWindow))).drawn

/-! ### References (R47 to R57) -/

/-- The setting of entry `i` comes into effect (R56). -/
def refTake (s : State) (i : Nat) : State :=
  ((s.set (I.REF_EN i) (s.get (F.CLK_REFPRI_EN i))).set (I.REF_KIND i) (s.get (F.CLK_REFPRI_KIND i))).set (I.REF_INST i)
    (s.get (F.CLK_REFPRI_INST i))

/-- The sources whose own state R48 requires: a receiver locked, a slave port ON. -/
def refPresent (s : State) (i : Nat) : Bool :=
  let k := s.get (I.REF_INST i)
  if s.get (I.REF_KIND i) = 2 then s.on (F.AES_RXSTAT_LOCK k)
  else if s.get (I.REF_KIND i) = 3 then
    decide (s.get (F.AP_CTRL_STATE k) = unitON) && !s.on (F.AP_CFG_MASTER k)
  else true

/-- Entry `i` may be selected: in its setting in effect it is enabled, qualified, and its source is in the state that R48
requires. -/
def refUsable (s : State) (i : Nat) : Bool := s.on (I.REF_EN i) && s.on (F.CLK_REFPRI_QUAL i) && s.refPresent i

/-- The entries that follow source `inst` of a kind are no longer qualified: the receiver has lost its lock, or the port has
left ON (R48). -/
def refDrop (s : State) (kind inst : Nat) : State :=
  (List.range 5).foldl (fun s i =>
    if s.get (I.REF_KIND i) = kind ∧ s.get (I.REF_INST i) = inst then s.set (F.CLK_REFPRI_QUAL i) 0 else s) s

/-- The usable entry of the highest priority other than `lost`. -/
def bestRef (s : State) (lost : Nat) : Option Nat :=
  (List.range 5).find? (fun i => decide (i ≠ lost) && s.refUsable i)

/-- The clock unit takes its reference from `CLK_REFPRI`: a standby follows its partner instead, whatever that holds (R380). -/
def refsServe (s : State) : Bool := !s.standby

/-- The unit follows a reference. -/
def following (s : State) : Bool :=
  decide (s.get F.CLK_STAT_MODE = clkLOCKED) || decide (s.get F.CLK_STAT_MODE = clkPULLING)

/-- Entry `i` selected, with pull-in (R54) and event 11 if it was not the active one. -/
def selectRef (s : State) (i : Nat) : State :=
  let changed := decide (s.get F.CLK_STAT_ACTIVE ≠ i)
  let s := ((((s.ppmNow.drawRef.set F.CLK_STAT_ACTIVE i).set F.CLK_STAT_MODE clkPULLING).set I.CLK_LOST 7).set
    I.CLK_HOEXP 0).set I.CLK_GLRUN 0
  if changed then s.raise 11 else s

/-- HOLDOVER_MAX elapses (R52). -/
def holdoverEnd (s : State) : State :=
  if s.get F.CLK_STAT_MODE = clkHOLDOVER ∧ s.get I.CLK_HOEXP = 0 ∧ s.refsServe then
    match s.bestRef (s.get I.CLK_LOST) with
    | some i => s.selectRef i
    | none => s.set I.CLK_HOEXP 1
  else s

/-- HOLDOVER on the last tuning word, with event 10 (R51). -/
def holdOver (s : State) : State :=
  let s := s.ppmNow
  ((((((s.set I.CLK_LOST (s.get F.CLK_STAT_ACTIVE)).set F.CLK_STAT_MODE clkHOLDOVER).set I.CLK_HOEXP 0).set
    I.CLK_GLRUN 0).set I.CLK_HELD (s.get F.CLK_PPM_PPM)).set I.CLK_HELDAT s.tclk).raise 10

/-- HOLDOVER entered; a `HOLDOVER_MAX` of 0 falls back at once (R52). -/
def enterHoldover (s : State) : State :=
  if s.get F.CLK_CTRL_HOLDOVER_MAX = 0 then s.holdOver.holdoverEnd else s.holdOver

/-- ACQUIRE entered: no active reference; FRC holds until lock (R57, R58). -/
def enterAcquire (s : State) : State :=
  (((s.ppmNow.set F.CLK_STAT_MODE clkACQUIRE).set F.CLK_STAT_ACTIVE 7).set I.CLK_LOST 7).set I.CLK_GLRUN 0

/-- Re-selection without the holdover wait (R52, R56). -/
def reselect (s : State) : State :=
  match s.bestRef (s.get F.CLK_STAT_ACTIVE) with
  | some i => s.selectRef i
  | none => s.holdOver.set I.CLK_HOEXP 1

/-- What a newly qualified entry `i` leads to (R52, R57). -/
def qualified (s : State) (i : Nat) : State :=
  if !s.on (I.REF_EN i) || !s.refsServe then s
  else if s.get F.CLK_STAT_MODE = clkHOLDOVER then
    if s.get I.CLK_LOST = i ∨ s.on I.CLK_HOEXP then s.selectRef i else s
  else if s.get F.CLK_STAT_MODE = clkFREERUN then
    if s.get F.SYS_ENGINE_STATE = 0 then s.enterAcquire else s.selectRef i
  else s

/-- A qualification gate of entry `i` ends, from which its setting is in effect (R48, R53, R56). -/
def refGate (s : State) (i : Nat) (g : Gate) : State :=
  let s := s.refTake i
  match g with
  | .good =>
    if s.refPresent i then
      let s := (s.set (F.CLK_REFPRI_QUAL i) 1).set (F.CLK_REFPRI_REJ i) 0
      s.qualified i
    else s.set (F.CLK_REFPRI_QUAL i) 0
  | .offNominal =>
    let t := s.set (F.CLK_REFPRI_QUAL i) 0
    if s.following ∧ s.get F.CLK_STAT_ACTIVE = i then ((t.set (F.CLK_REFPRI_REJ i) 1).raise 12).enterHoldover
    else t
  | .stopped => s.set (F.CLK_REFPRI_QUAL i) 0

/-- TCLK periods in a nominal period of entry `i` (R47). -/
def refPeriod (s : State) (i : Nat) : Nat :=
  match s.get (F.CLK_REFPRI_NOM i) with
  | 0 => 2
  | 1 => 1536
  | n => 1024 / 2 ^ (n - 2)

/-- The edge before the present one of the active reference was a good one: no glitched edge was less than two nominal
periods ago (R50). DEDUCED: log entry 12. -/
def afterGood (s : State) : Bool :=
  decide (s.get I.CLK_GLRUN = 0) || decide (s.get I.CLK_GLAT + 2 * s.refPeriod (s.get F.CLK_STAT_ACTIVE) ≤ s.tclk)

/-- A glitched edge of the active reference; one after a good edge begins a run (R50). -/
def refGlitched (s : State) : State :=
  if s.following ∧ s.refsServe then
    let t := if s.afterGood then (s.set I.CLK_GLRUN 0).raise 13 else s
    ((t.bump F.CLK_GLITCH_N 1).bump I.CLK_GLRUN 1).set I.CLK_GLAT s.tclk
  else s

/-- A stop of the active reference: missing edges, or 16 glitched edges in a row (R50, R51). -/
def refStopped (s : State) (missing : Bool) : State :=
  if s.following ∧ s.refsServe ∧ (missing ∨ 16 ≤ s.get I.CLK_GLRUN) then
    (s.set (F.CLK_REFPRI_QUAL (s.get F.CLK_STAT_ACTIVE)) 0).enterHoldover
  else s

/-- The slew limit lets the root be within 0.1 ppm of the reference (R54). -/
def refReached (s : State) : Bool :=
  let r := sint 32 (s.get I.CLK_REFPPM)
  decide (r - 100 ≤ s.slewTo r) && decide (s.slewTo r ≤ r + 100)

/-- Pull-in ends, not before the frequency can have reached the reference's (R54). -/
def pullInDone (s : State) : State :=
  if s.get F.CLK_STAT_MODE = clkPULLING ∧ s.refReached then
    ((s.setPpm (s.slewTo (sint 32 (s.get I.CLK_REFPPM)))).set F.CLK_STAT_MODE clkLOCKED).raise 14
  else s

/-- A higher-priority entry has stayed qualified for REVERT_T (R55). -/
def revertTo (s : State) (i : Nat) : State :=
  if s.refsServe ∧ s.following ∧ s.on F.CLK_CTRL_REVERT ∧ s.refUsable i ∧ i < s.get F.CLK_STAT_ACTIVE then s.selectRef i else s

/-- The pairs of source and nominal code that R47's table marks "—", codes outside it, and receivers outside 0–7. "48 kHz family only" is judged
by the family in effect. DEDUCED: log entry 13. DESIGN CHOICE: log entry 145. -/
def refpriBad (s : State) (w : Nat) : Bool :=
  let kind := (F.CLK_REFPRI_KIND 0).of w
  let nom := (F.CLK_REFPRI_NOM 0).of w
  decide (4 < kind) || (decide (kind = 0) && decide (nom ≠ 0)) || (decide (kind < 4) && decide (4 < nom)) ||
  ((decide (kind = 2) || decide (kind = 3)) && decide (nom = 0)) ||
  (decide (kind ≠ 0) && decide (kind < 4) && decide (nom = 1) && s.on I.RATE_F) ||
  (decide (kind = 2) && decide (7 < (F.CLK_REFPRI_INST 0).of w))

/-- A write of `CLK_REFPRI[i]` (R47, R56). -/
def refpriSet (s : State) (i w : Nat) : State :=
  if s.refpriBad w then s.clkStatus stBADARG
  else
    let t := (s.puts [F.CLK_REFPRI_EN i, F.CLK_REFPRI_KIND i, F.CLK_REFPRI_INST i, F.CLK_REFPRI_NOM i] w).clkStatus stOK
    if s.get F.CLK_STAT_ACTIVE = i ∧ s.get F.CLK_STAT_MODE ≠ clkFREERUN then
      ((t.refTake i).set (F.CLK_REFPRI_QUAL i) 0).reselect
    else t

/-- A write of `CLK_CTRL`, with or without REACQ (R57, R58). -/
def clkCtrlSet (s : State) (w : Nat) : State :=
  let fs := [F.CLK_CTRL_REVERT, F.CLK_CTRL_BW, F.CLK_CTRL_REVERT_T, F.CLK_CTRL_HOLDOVER_MAX]
  if natBit w 31 then
    if s.get F.SYS_ENGINE_STATE = 0 ∧ s.clockUsersOff then ((s.puts fs w).enterAcquire).clkStatus stOK
    else s.clkStatus stREFUSED
  else (s.puts fs w).clkStatus stOK

/-- ACQUIRE locks to the best qualified reference; FRC counts on (R57, R58, R62). -/
def acquireDone (s : State) : State :=
  if s.get F.CLK_STAT_MODE = clkACQUIRE then
    match if s.refsServe then s.bestRef 7 else some 7 with
    | some i =>
      let t := s.drawRef
      ((((t.setPpm (sint 32 (t.get I.CLK_REFPPM))).set F.CLK_STAT_ACTIVE i).set F.CLK_STAT_MODE clkLOCKED).set
        I.CLK_STARTED 1).raise 9
    | none => s
  else s

/-- A standby's clock follows its partner's timing, and pulls in to it; no entry of `CLK_REFPRI` is active (R380).
DEDUCED: log entry 73. -/
def partnerClock (s : State) : State :=
  if s.get F.CLK_STAT_MODE = clkACQUIRE then s
  else ((((s.ppmNow.drawRef.set F.CLK_STAT_ACTIVE 7).set F.CLK_STAT_MODE clkPULLING).set I.CLK_LOST 7).set I.CLK_HOEXP 0).set
    I.CLK_GLRUN 0

/-- The factory trim word of FREERUN, within ±1000 ppm of nominal, in 0.001 ppm (R57). -/
def trimPpm : Int := ((Config.trimWord.toNat % 2000001 : Nat) : Int) - 1000000

/-- No reference qualifies within 100 ms of ACQUIRE: FREERUN on the factory trim word (R57). -/
def acquireTimeout (s : State) : State :=
  if s.get F.CLK_STAT_MODE = clkACQUIRE then
    match s.bestRef 7 with
    | some _ => s
    | none => ((s.setPpm trimPpm).set F.CLK_STAT_MODE clkFREERUN).set I.CLK_STARTED 1
  else s

/-! ### Clock outputs (R59 to R61) -/

/-- Claim slots of MCLKOn and SYNCOUT (R507). -/
def mclkoSlot (n : Nat) : Nat := (6 + n) * 32 + 31
def syncoutSlot : Nat := 479

/-- A write of `CLK_MCLKO[n]` (R59, R60). -/
def mclkoSet (s : State) (n w : Nat) : State :=
  let div := (F.CLK_MCLKO_DIV n).of w
  if div < 6 then s.clkStatus stBADARG
  else
    let put (s : State) : State :=
      let s := s.set (F.CLK_MCLKO_DIV n) div
      if s.get (F.CLK_MCLKO_STATE n) = unitOFF then s.set (I.MCLKO_DIV n) div else s
    let want := natBit w 4
    if want && !s.on (F.CLK_MCLKO_EN n) && decide (s.get (F.CLK_MCLKO_STATE n) = unitOFF) then
      s.withClaims (0x0100 + n) [mclkoSlot n] F.CLK_STAT_STATUS (fun s =>
        (((put s).set (F.CLK_MCLKO_EN n) 1).set (F.CLK_MCLKO_STATE n) unitSTARTING).clkStatus stOK)
    else
      ((put s).enableWrite (F.CLK_MCLKO_EN n) (F.CLK_MCLKO_STATE n) want id id).clkStatus stOK

/-- Root periods since the clock started: TCLK is root / 64, and CCLK root / 4 within the present sample (R44, R59). -/
def rootCount (s : State) : Nat := 64 * s.tclk + 4 * (s.cclk % (16384 / s.multM))

/-- The level of MCLKOn: a square wave of root / 2^DIV that rises at the wraps of its counter, low while OFF or before its
first edge (R59, R60). -/
def mclkoHigh (s : State) (n : Nat) : Bool :=
  let st := s.get (F.CLK_MCLKO_STATE n)
  let p := 2 ^ s.get (I.MCLKO_DIV n)
  decide (2 ≤ st) && decide (s.rootCount % p < p / 2)

/-- Samples from one rising edge of `SYNCOUT` to the next: M at Fb, 1 at Fe, B for the tick pulse (R61). -/
def syncoutPeriod (s : State) : Nat :=
  if s.get I.SYNC_SRC = 0 then s.multM else if s.get I.SYNC_SRC = 1 then 1 else s.blockLen

/-- The present sample's instant is a rising edge of `SYNCOUT` (R61). -/
def syncoutRises (s : State) : Bool :=
  decide (s.get F.CLK_SYNCOUT_STATE = unitON) && decide (s.frc % s.syncoutPeriod = 0)

/-- The level of `SYNCOUT`: a 50 % word clock, or a pulse of one sample at the tick (R61). -/
def syncoutHigh (s : State) : Bool :=
  let p := s.syncoutPeriod
  let c := 16384 / s.multM
  decide (2 ≤ s.get F.CLK_SYNCOUT_STATE) &&
    if s.get I.SYNC_SRC = 2 then decide (s.frc % p = 0)
    else decide (2 * (s.frc % p * c + s.cclk % c) < p * c)

/-- The samples up to the present one pass: an MCLKO output that is ON takes its new divider at a wrap of its counter, and
`SYNCOUT` its new source at the end of its period; `t` is the TCLK count before (R60, R61). DEDUCED: log entry 14. -/
def outputWraps (s : State) (t : Nat) : State :=
  let s := (List.range 8).foldl (fun s n =>
    let p := 2 ^ s.get (I.MCLKO_DIV n)
    if s.get (F.CLK_MCLKO_STATE n) = unitON ∧ 64 * t / p ≠ 64 * s.tclk / p then
      s.set (I.MCLKO_DIV n) (s.get (F.CLK_MCLKO_DIV n))
    else s) s
  if s.get F.CLK_SYNCOUT_STATE = unitON ∧ s.frcPrev / s.syncoutPeriod ≠ s.frc / s.syncoutPeriod then
    s.set I.SYNC_SRC (s.get F.CLK_SYNCOUT_SRC)
  else s

/-- A write of `CLK_SYNCOUT` (R61). -/
def syncoutSet (s : State) (w : Nat) : State :=
  let src := F.CLK_SYNCOUT_SRC.of w
  if src = 3 then s.clkStatus stBADARG
  else
    let want := natBit w 4
    if want && !s.on F.CLK_SYNCOUT_EN && decide (s.get F.CLK_SYNCOUT_STATE = unitOFF) then
      s.withClaims 0x0108 [syncoutSlot] F.CLK_STAT_STATUS (fun s =>
        (((s.set F.CLK_SYNCOUT_SRC src).set F.CLK_SYNCOUT_EN 1).set F.CLK_SYNCOUT_STATE unitSTARTING).clkStatus stOK)
    else ((s.set F.CLK_SYNCOUT_SRC src).enableWrite F.CLK_SYNCOUT_EN F.CLK_SYNCOUT_STATE want id id).clkStatus stOK

/-! ### FRC loads (R64) -/

/-- A write of `CLK_FRC_LOAD` (R64). DEDUCED: log entry 15. -/
def frcLoadSet (s : State) (w : Nat) : State :=
  let v := s.pair F.CLK_FRC_SET_LO_V F.CLK_FRC_SET_HI_V
  if !natBit w 0 then s
  else if s.get F.SYS_ENGINE_STATE ≠ 0 then s.clkStatus stREFUSED
  else if v % 64 ≠ 0 then s.clkStatus stBADARG
  else ((s.set I.FRC_LOADP 1).set I.FRC_LOADV v).clkStatus stOK

/-- FRC set to `v`: only a target at `v` itself is reached, a tick is due there where `v` begins a block, and a pending rate
change applies there (R15, R64, R65). -/
def frcSet (s : State) (v : Nat) : State :=
  let s := { s with frc := v % 2 ^ 64, frcPrev := v % 2 ^ 64 - 1 }.set I.TICKED 0
  if s.on I.RATE_PEND then s.set I.RATE_AT v else s

/-- The waiting load applies at the next sample (R64). -/
def frcLoadDone (s : State) : State :=
  if s.on I.FRC_LOADP ∧ s.get F.CLK_STAT_MODE ≠ clkACQUIRE then
    (s.set I.FRC_LOADP 0).frcSet (s.get I.FRC_LOADV)
  else s

/-- A read of `CLK_FRC_LO` latches the high word for the reading master (R63, R503). -/
def frcLoRead (s : State) (m : Master) : State :=
  (s.setLatch m.id 0 0 [0, s.frc / 2 ^ 32]).reply m (s.frc % 2 ^ 32)

/-- The word a read of `CLK_FRC_HI` returns. -/
def frcHiWord (s : State) (m : Master) : Nat := (s.latched m.id 0 0 1).getD (s.frc / 2 ^ 32)

/-! ### Rate changes (R43, R65, R66) -/

/-- A write of `SYS_RATE` (R43, R65, R66, R502). -/
def rateSet (s : State) (w : Nat) : State :=
  if s.get F.SYS_ENGINE_STATE ≠ 0 then s.set F.SYS_RATE_STATUS stREFUSED
  else if F.SYS_RATE_MULT.of w = 3 then s.set F.SYS_RATE_STATUS stBADARG
  else
    let t := (s.puts [F.SYS_RATE_BLOCK, F.SYS_RATE_MULT, F.SYS_RATE_FAMILY] w).set F.SYS_RATE_STATUS stOK
    if t.get F.SYS_RATE_BLOCK = s.get I.RATE_B ∧ t.get F.SYS_RATE_MULT = s.get I.RATE_M ∧
        t.get F.SYS_RATE_FAMILY = s.get I.RATE_F then t.set I.RATE_PEND 0
    else (t.set I.RATE_PEND 1).set I.RATE_AT ((s.frc / 64 + 1) * 64)

/-- `QN_DEADLINE` measured against the rate in effect: beyond C − 1024 it is clamped, with event 45 (R160). -/
def deadlineClamp (s : State) : State :=
  if s.blockCycles - 1024 < s.get F.QN_DEADLINE_V then (s.set F.QN_STAT_CLAMP 1).raise 45
  else s.set F.QN_STAT_CLAMP 0

/-- The deadline in use (R160). -/
def deadline (s : State) : Nat := min (s.get F.QN_DEADLINE_V) (s.blockCycles - 1024)

/-- The pending rate change takes effect, once FRC has reached its value; it is never left waiting for a value that FRC has
passed (R65, R66). -/
def rateApply (s : State) : State :=
  if s.on I.RATE_PEND ∧ s.get I.RATE_AT ≤ s.frc then
    let fam := decide (s.get F.SYS_RATE_FAMILY ≠ s.get I.RATE_F)
    let s := (((s.set I.RATE_PEND 0).set I.RATE_M (s.get F.SYS_RATE_MULT)).set I.RATE_B (s.get F.SYS_RATE_BLOCK)).set
      I.RATE_F (s.get F.SYS_RATE_FAMILY)
    (if fam then s.enterAcquire else s).deadlineClamp
  else s

end State

/-! ### The commands -/

def execRefQualificationGate (i : Fin 5) (g : Gate) (s : State) : Out := .next (s.refGate i g)
def execRefGlitch (s : State) : Out := .next s.refGlitched
def execRefStop (missing : Bool) (s : State) : Out := .next (s.refStopped missing)
def execHoldoverTimeout (s : State) : Out := .next s.holdoverEnd
def execPullInComplete (s : State) : Out := .next s.pullInDone
def execRevertTimeout (i : Fin 5) (s : State) : Out := .next (s.revertTo i)

def execRefpriWrite (m : Master) (i : Fin 5) (w : Word) (s : State) : Out :=
  .next (s.guardWrite m (0x10040 + 4 * i) w.toNat (fun s => s.refpriSet i w.toNat))

def execReacq (m : Master) (w : Word) (s : State) : Out :=
  .next (s.guardWrite m 0x10000 (w ||| 0x80000000).toNat (fun s => s.clkCtrlSet (w ||| 0x80000000).toNat))

def execAcquireLock (s : State) : Out := .next s.acquireDone
def execFreerunTimeout (s : State) : Out := .next s.acquireTimeout

/-- The word that sets EN of `CLK_MCLKO[n]` and keeps its DIV. -/
def State.mclkoWord (s : State) (n : Nat) (en : Bool) : Nat := s.get (F.CLK_MCLKO_DIV n) * 2 ^ 8 + b2n en * 2 ^ 4

def execMclkoEnable (m : Master) (n : Fin 8) (s : State) : Out :=
  .next (s.guardWrite m (0x10060 + 4 * n) (s.mclkoWord n true) (fun s => s.mclkoSet n (s.mclkoWord n true)))
def execMclkoDisable (m : Master) (n : Fin 8) (s : State) : Out :=
  .next (s.guardWrite m (0x10060 + 4 * n) (s.mclkoWord n false) (fun s => s.mclkoSet n (s.mclkoWord n false)))

/-- The write of DIV keeps EN. -/
def execMclkoDivWrite (m : Master) (n : Fin 8) (div : Fin 16) (s : State) : Out :=
  let w := div.val * 2 ^ 8 + s.get (F.CLK_MCLKO_EN n) * 2 ^ 4
  .next (s.guardWrite m (0x10060 + 4 * n) w (fun s => s.mclkoSet n w))

def execMclkoStarted (n : Fin 8) (s : State) : Out :=
  .next (s.startDone (F.CLK_MCLKO_STATE n) (fun s => s.set (I.MCLKO_DIV n) (s.get (F.CLK_MCLKO_DIV n))))
def execMclkoStopped (n : Fin 8) (s : State) : Out :=
  .next (s.shutDone (F.CLK_MCLKO_EN n) (F.CLK_MCLKO_STATE n)
    (fun s => (s.unclaimAll (0x0100 + n)).set (I.MCLKO_DIV n) (s.get (F.CLK_MCLKO_DIV n)))
    (fun s => s.set (I.MCLKO_DIV n) (s.get (F.CLK_MCLKO_DIV n))))

def execSyncoutEnable (m : Master) (src : Fin 4) (s : State) : Out :=
  .next (s.guardWrite m 0x10080 (src.val * 2 ^ 8 + 2 ^ 4) (fun s => s.syncoutSet (src.val * 2 ^ 8 + 2 ^ 4)))
def execSyncoutDisable (m : Master) (s : State) : Out :=
  .next (s.guardWrite m 0x10080 (s.get F.CLK_SYNCOUT_SRC * 2 ^ 8)
    (fun s => s.syncoutSet (s.get F.CLK_SYNCOUT_SRC * 2 ^ 8)))
def execSyncoutStarted (s : State) : Out :=
  .next (s.startDone F.CLK_SYNCOUT_STATE (fun s => s.set I.SYNC_SRC (s.get F.CLK_SYNCOUT_SRC)))
def execSyncoutStopped (s : State) : Out :=
  .next (s.shutDone F.CLK_SYNCOUT_EN F.CLK_SYNCOUT_STATE (fun s => s.unclaimAll 0x0108) id)

def execFrcLoadGo (m : Master) (s : State) : Out :=
  .next (s.guardWrite m 0x10030 1 (fun s => s.frcLoadSet 1))
def execFrcLoadApply (s : State) : Out := .next s.frcLoadDone

def execRateWrite (m : Master) (w : Word) (s : State) : Out :=
  .next (s.guardWrite m 0x20 w.toNat (fun s => s.rateSet w.toNat))
def execRateChangeApply (s : State) : Out := .next s.rateApply

end Sys2Proof.Machine
end

