-- ==== Sys2Proof/Machine/Shapes.lean ====
section
/-! DEFINITION. The curves of ramps and crossfades (R221, R230) and levels in decibels (R359), as integers: an ideal
value in fixed point, within the bound that the spec gives, plus a free error of at most that bound. -/

namespace Sys2Proof.Machine

/-- The integer nearest `a / b`, halves upwards. -/
def rndDiv (a : Int) (b : Nat) : Int := if b = 0 then 0 else (2 * a + b) / (2 * b : Int)

/-- A number kept within bounds. -/
def clampI (lo hi x : Int) : Int := max lo (min hi x)

/-- The scale 2⁶⁰ of the fixed-point values below. -/
def fxOne : Int := 2 ^ 60
/-- π / 2 in that scale. -/
def fxHalfPi : Int := 1811004864519280711

/-- Terms of a power series: each is the last times `x` over the product of the next two (or one) indices, negated. -/
def fxSeries (x : Int) (step : Nat) : Nat → Nat → Int → Int
  | 0, _, _ => 0
  | fuel + 1, n, term =>
    let d : Int := if step = 2 then ((n + 1) * (n + 2) : Nat) else ((n + 1 : Nat) : Int)
    term + fxSeries x step fuel (n + step) (-(term * x / fxOne) / d)

/-- cos(π num / (2 den)). -/
def fxCos (num den : Nat) : Int :=
  let th := fxHalfPi * num / (max den 1 : Nat)
  fxSeries (th * th / fxOne) 2 14 0 fxOne

/-- sin(π num / (2 den)), as the cosine of the complement. -/
def fxSin (num den : Nat) : Int := fxCos (den - num) den

/-- e^(−k num / den). -/
def fxExp (k num den : Nat) : Int := fxSeries (fxOne * (k * num : Nat) / (max den 1 : Nat)) 1 48 0 fxOne

/-- The shape's share of the way from v0 to v1 at `t` of `len`, shapes 2 to 6 (R230). -/
def shapeShare (shape t len : Nat) : Int :=
  let ex (k : Nat) : Int := (fxOne - fxExp k t len) * fxOne / (fxOne - fxExp k 1 1)
  match shape with
  | 2 => ex 2
  | 3 => ex 4
  | 4 => ex 8
  | 5 => fxOne - fxCos t len
  | _ => fxSin t len

/-- An integer free between the real numbers `lo` and `hi`, given as numerators over `den`. -/
def freeBetween (e : Nat) (lo hi : Int) (den : Nat) : Int :=
  let a := -((-lo) / (den : Int))
  a + (e % (hi / (den : Int) - a + 1).toNat : Nat)

/-- A free error between `-b` and `b`. -/
def freeSlack (e b : Nat) : Int := ((e % (2 * b + 1) : Nat) : Int) - b

/-- A ramp of shape 2 to 6 at `t` of `len` (R230): any integer within 1 LSB and 2⁻²⁴ of the span of its ideal value.
DESIGN CHOICE: log entry 30. -/
def rampAt (shape t len : Nat) (v0 v1 : Int) : Int :=
  let ideal := v0 * 2 ^ 60 + (v1 - v0) * shapeShare shape t len
  let b : Int := 2 ^ 60 + (v1 - v0).natAbs * 2 ^ 36
  freeBetween (Config.rampError shape t len v0 v1) (ideal - b) (ideal + b) (2 ^ 60)

/-- The weight of a crossfade's outgoing or incoming side (R221): within 1 LSB of the ideal value. -/
def fadeWeight (shape t len : Nat) (incoming : Bool) : Int :=
  let ideal : Int :=
    if shape = 1 then rndDiv (2 ^ 27 * ((if incoming then t else len - t : Nat) : Int)) len
    else rndDiv (2 ^ 27 * (if incoming then fxSin t len else fxCos t len)) (2 ^ 60)
  ideal + freeSlack (Config.fadeError shape t len (b2n incoming)) 1

/-! ### Levels (R359) -/

/-- 20 log₁₀(x / 2²⁷) · 128 is at least `l − 1/2`. -/
def levelGe (x : Nat) (l : Int) : Bool :=
  let e := 2 * l - 1
  if 0 ≤ e then decide (10 ^ e.toNat * 2 ^ (27 * 5120) ≤ x ^ 5120)
  else decide (2 ^ (27 * 5120) ≤ x ^ 5120 * 10 ^ (-e).toNat)

/-- The greatest level that `x` reaches, by halving steps. -/
def levelFind (x : Nat) : Nat → Int → Int
  | 0, l => l
  | k + 1, l => if levelGe x (l + 2 ^ k) then levelFind x k (l + 2 ^ k) else levelFind x k l

/-- A peak as a level in 1/128 dB, I16; 0x8000 below −200 dB. -/
def levelOf (x : Nat) : Nat :=
  if x = 0 ∨ levelGe x (-25600) = false then 0x8000 else wrap 16 (levelFind x 15 (-25600))

/-- A level read back as an integer that orders levels. -/
def levelMax (a b : Nat) : Nat := if sint 16 a < sint 16 b then b else a

end Sys2Proof.Machine
end

