-- ==== Sys2Proof/Machine/Samples.lean ====
section
/-! DEFINITION. Sample words: the conversions of R8, and the samples that a Bramble destination has received. -/

namespace Sys2Proof.Machine

/-- A number kept within the signed range of `b` + 1 bits. -/
def clampPort (b : Nat) (x : Int) : Int := clampI (-(2 ^ b)) (2 ^ b - 1) x

/-- A word of a slot of `w` bits as S5.27 (R8). -/
def portIn (w x : Nat) : Int :=
  if w = 16 then sint 16 x * 2 ^ 12 else if w = 24 then sint 24 x * 2 ^ 4 else (sint 32 x + 8) / 16

/-- An S5.27 value as a word of a slot of `w` bits: clamped to ±1.0, converted, and clamped to the word's range (R8). -/
def portOut (w : Nat) (x : Int) : Nat :=
  let c := clampI (-(2 ^ 27)) (2 ^ 27) x
  if w = 16 then wrap 16 (clampPort 15 ((c + 2 ^ 11) / 2 ^ 12))
  else if w = 24 then wrap 24 (clampPort 23 ((c + 8) / 16))
  else wrap 32 (clampPort 31 (c * 16))

/-- A value scaled by `k` of `n` parts, halves upwards. -/
def scaled (x : Int) (k n : Nat) : Int := (2 * x * (k : Int) + n) / (2 * n : Nat)

namespace State

/-- EXTEST, HIGHZ or CLAMP is in force: the units see their balls as in hold-safe (R499). -/
def boundary (s : State) : Bool :=
  decide (s.get I.JTAG_IR = 2) || decide (s.get I.JTAG_IR = 4) || decide (s.get I.JTAG_IR = 5)

/-- TCLK periods in one engine sample (R44, R46). -/
def sampleTclks (s : State) : Nat := 1024 / s.multM

/-- A time that began at the PCLK count `t` has lasted `us` µs by the end of the present sample. -/
def lasted (s : State) (t us : Nat) : Bool :=
  decide (t * 1000000 + us * (4 * s.tclkHz) < (s.get I.PCLK + 4 * s.sampleTclks) * 1000000)

/-- A destination's running state. -/
def route (s : State) (d : Nat) : Route := tabGet Route.reset s.routes d

/-- The sample of stream FRC `m` that a destination has received, of those it keeps; else zero. -/
def receivedAt (s : State) (d m : Nat) : Int :=
  let r := s.route d
  if m < r.pos ∧ r.pos ≤ m + r.y.length then r.y.getD (m + r.y.length - r.pos) 0 else 0

end State

end Sys2Proof.Machine
end

