-- ==== Sys2Proof/Machine/Damson.lean ====
section
/-! DEFINITION. Damson analogue outputs (R333 to R350). Voltages are whole microvolts, as `DMS_OUTV` reports them; times are
PCLK periods, four to a period of the modulators' clock, which also runs on the FRO before the first lock (R337). -/

namespace Sys2Proof.Machine

/-- Bottom and width of a span in µV (R333). -/
def spanVb (sp : Nat) : Nat := [0, 0, 875000, 250000].getD sp 0
def spanVw (sp : Nat) : Nat := if sp % 2 = 0 then 1250000 else 2500000
def vcmo : Nat := 1500000
/-- The voltage of a DC code (R334). -/
def codeUv (sp code : Nat) : Nat := spanVb sp + (code * spanVw sp + 2 ^ 23) / 2 ^ 24
/-- The code that an AUDIO channel converts a sample to (R334). -/
def streamCode (x : Int) : Nat :=
  (clampI 0 0xFFFFFF (0x800000 + (clampI (-(2 ^ 27)) (2 ^ 27) x + 8) / 16)).toNat
/-- µV that the slew limiter moves in `k` periods of a clock of `hz`, at SLEWT `t`: the lower of its two rates (R338). -/
def slewUv (t hz k : Nat) : Nat := min (k * 10 ^ 12 / hz) (k * (25 * 10 ^ 11) / (hz * 2 ^ t))
/-- The first whole period in which it has moved `d` µV. -/
def slewTicks (t hz d : Nat) : Nat :=
  max ((d * hz + 10 ^ 12 - 1) / 10 ^ 12) ((d * hz * 2 ^ t + 25 * 10 ^ 11 - 1) / (25 * 10 ^ 11))
/-- SPANCHG, a phase of ON (R344). -/
def dmsSPANCHG : Nat := 4
def dmsAddr (n o : Nat) : Nat := 0xE1000 + 0x40 * n + o

namespace State

def dmsStatus (s : State) (n v : Nat) : State := s.set (F.DMS_CTRL_STATUS n) v
def dmsState (s : State) (n : Nat) : Nat := s.get (F.DMS_CTRL_STATE n)
def dmsAudio (s : State) (n : Nat) : Bool := s.on (F.DMS_CFG_MODE n)

/-- The channels' time, its rate, and the length of a time in µs. -/
def dmsNow (s : State) : Nat := s.get I.PCLK
def dmsHz (s : State) : Nat := 4 * s.tclkHz
def dmsUs (s : State) (us : Nat) : Nat := (us * s.dmsHz + 999999) / 1000000

/-- What the limiter has to go, and when it arrives there. -/
def dmsSpan (s : State) (n : Nat) : Nat :=
  max (s.get (I.DMS_FROM n)) (s.get (I.DMS_TO n)) - min (s.get (I.DMS_FROM n)) (s.get (I.DMS_TO n))
def dmsArrives (s : State) (n : Nat) : Nat :=
  s.get (I.DMS_SAT n) + slewTicks (s.get (F.DMS_SLEW_SLEWT n)) s.dmsHz (s.dmsSpan n)

/-- An event of a channel at time `t` falls in the present sample, or has been passed. -/
def dmsDue (s : State) (t : Nat) : Bool := decide (t < s.dmsNow + 4 * s.sampleTclks)

/-- The slew limiter's present setpoint, `DMS_OUTV` (R338). -/
def dmsOut (s : State) (n : Nat) : Nat :=
  let a := s.get (I.DMS_FROM n)
  let b := s.get (I.DMS_TO n)
  if !s.on (F.DMS_STAT_SLEWING n) then b
  else
    let d := slewUv (s.get (F.DMS_SLEW_SLEWT n)) s.dmsHz (s.dmsNow - s.get (I.DMS_SAT n))
    if a ≤ b then min b (a + d) else max b (a - d)

/-! ### The stream (R335, R343, R344, R346) -/

/-- The channel passes its stream on: ON with no force and the limiter at rest, or in the ramp of its shutdown. -/
def dmsStreaming (s : State) (n : Nat) : Bool :=
  s.dmsAudio n && ((decide (s.dmsState n = unitON) && !s.on (F.DMS_STAT_FORCED n) && !s.on (F.DMS_STAT_SLEWING n)) ||
    (decide (s.dmsState n = unitSHUTTING) && decide (s.dmsNow < s.get (I.DMS_SAT n))))

/-- The 64ths of the stream in the present sample: a ramp in or out takes 64 samples (R343, R344, R346). -/
def dmsGain (s : State) (n : Nat) : Nat :=
  let k := min 64 (s.frc - s.get (I.DMS_RAT n))
  match s.get (I.DMS_RDIR n) with
  | 0 => 64
  | 1 => k
  | _ => 64 - k

/-- The voltage of the sample that has left Bramble, with the ramp about VCMO. DEDUCED: log entry 51. -/
def dmsStream (s : State) (n : Nat) : Nat :=
  let v := codeUv (s.get (F.DMS_SPAN_ACTIVE n)) (streamCode (s.receivedAt (0x610 + n) (s.frc - 2 * s.blockLen)))
  ((vcmo : Int) + scaled ((v : Int) - vcmo) (s.dmsGain n) 64).toNat

/-- What the channel puts on its ball, but for a short: 0 V where the stage is disabled (R341, R346). -/
def dmsBall (s : State) (n : Nat) : Nat :=
  if s.dmsState n = unitOFF then 0 else if s.dmsStreaming n then s.dmsStream n else s.dmsOut n

/-- The stream begins to ramp in (R343, R344), or out (R346). -/
def dmsRamp (s : State) (n dir : Nat) : State := (s.set (I.DMS_RDIR n) dir).set (I.DMS_RAT n) s.frc

/-- The output set to a voltage at once, and moved to one by the slew limiter from time `t` on. -/
def dmsJump (s : State) (n v : Nat) : State :=
  (((s.set (I.DMS_FROM n) v).set (I.DMS_TO n) v).set (I.DMS_SAT n) s.dmsNow).set (F.DMS_STAT_SLEWING n) 0
def dmsSlewAt (s : State) (n v t : Nat) : State :=
  let v0 := s.dmsBall n
  ((((s.set (I.DMS_FROM n) v0).set (I.DMS_TO n) v).set (I.DMS_SAT n) t).flag (F.DMS_STAT_SLEWING n) (v0 ≠ v)).set
    (F.DMS_STAT_HOLDING n) 0
def dmsSlewTo (s : State) (n v : Nat) : State := s.dmsSlewAt n v s.dmsNow

/-- The voltage a code or stream gives in the active span; an AUDIO channel's limiter rests at VCMO (R334, R335). -/
def dmsGoal (s : State) (n : Nat) : Nat :=
  if s.dmsAudio n then vcmo else codeUv (s.get (F.DMS_SPAN_ACTIVE n)) (s.get (I.DMS_TGT n))

/-- The voltage SAFE of a change to span `sp` (R344). -/
def dmsSafe (s : State) (n sp : Nat) : Nat :=
  match s.get (F.DMS_CFG_SAFESEL n) with
  | 0 => if sp < 2 then 0 else vcmo
  | 1 => 0
  | _ => vcmo

/-- `DACCLR#` forces the channel now (R343). -/
def dmsClr (s : State) (n : Nat) : Bool := s.on I.DMS_LOW && s.on (F.DMS_SLEW_CLR_EN n)

/-! ### Start and shutdown (R342, R346) -/

/-- A start from OFF (R342, R347). DEDUCED: log entry 49. -/
def dmsStart (s : State) (n t : Nat) : State :=
  let code := if s.on (F.DMS_STAT_CW n) then s.get (F.DMS_CODE_C n)
    else if s.on (F.DMS_CFG_INIT_SRC n) then s.get (F.DMS_INITCODE_C n) else s.get (F.DMS_CLRCODE_C n)
  let forced := s.dmsClr n
  let s := (((s.set (F.DMS_CTRL_STATE n) unitSTARTING).set (I.DMS_TGT n)
    (if forced then s.get (F.DMS_CLRCODE_C n) else code)).flag (F.DMS_STAT_FORCED n) forced).dmsJump n 0
  let s := (s.dmsRamp n 0).set (F.DMS_STAT_SC n) 0
  let s := s.flag (F.DMS_STAT_SPOK n) (s.get (I.DMS_UNFIT (2 * n + (1 - s.get (F.DMS_STAT_STAGE n)))) = 0)
  s.dmsSlewAt n (s.dmsGoal n) t

/-- The sequence to span `sp` begins at time `t` (R344). -/
def dmsSpanBegin (s : State) (n sp t : Nat) : State :=
  (((((s.dmsSlewAt n (s.dmsSafe n sp) t).set (F.DMS_CTRL_STATE n) dmsSPANCHG).set (I.DMS_PH n) 1).set (I.DMS_NSPAN n) sp).set
    (I.DMS_HELD n) 0).set (F.DMS_SPAN_PEND n) 1

/-- The held span, if it still differs, runs its sequence (R344, R345). -/
def dmsHeldSpan (s : State) (n t : Nat) : State :=
  if s.on (I.DMS_HELD n) ∧ s.get (F.DMS_SPAN_SPAN n) ≠ s.get (F.DMS_SPAN_ACTIVE n) then
    s.dmsSpanBegin n (s.get (F.DMS_SPAN_SPAN n)) t
  else (s.set (I.DMS_HELD n) 0).set (F.DMS_SPAN_PEND n) 0

/-- The start target is reached (R342). -/
def dmsOn (s : State) (n : Nat) : State :=
  if s.dmsState n = unitSTARTING then
    (((s.dmsJump n (s.get (I.DMS_TO n))).set (F.DMS_CTRL_STATE n) unitON).raiseCause (200 + n) 0).dmsHeldSpan n (s.dmsArrives n)
  else s

/-- SHUTTING begins: a stream ramps to VCMO first; of a span change only what has been switched stands (R345, R346). -/
def dmsShut (s : State) (n : Nat) : State :=
  let s := if s.dmsStreaming n then
      ((s.dmsRamp n 2).dmsJump n vcmo |>.set (F.DMS_CTRL_STATE n) unitSHUTTING).dmsSlewAt n 0 (s.dmsNow + 64 * (4 * s.sampleTclks))
    else (s.dmsSlewTo n 0).set (F.DMS_CTRL_STATE n) unitSHUTTING
  let held := s.on (I.DMS_HELD n) || decide (s.get (F.DMS_SPAN_SPAN n) ≠ s.get (F.DMS_SPAN_ACTIVE n))
  (((s.set (I.DMS_PH n) 0).set (F.DMS_STAT_FORCED n) 0).flag (F.DMS_SPAN_PEND n) held)

/-- A write of `DMS_CTRL` (R38, R336, R348). -/
def dmsCtrlSet (s : State) (n w : Nat) : State :=
  let want := natBit w 4
  let st := s.dmsState n
  if want = s.on (F.DMS_CTRL_EN n) then s.dmsStatus n stOK
  else if want then
    if st ≠ unitOFF then (s.set (F.DMS_CTRL_EN n) 1).dmsStatus n stOK
    else if (s.dmsAudio n && decide (s.get (F.DMS_SPAN_ACTIVE n) < 2)) || decide (s.get (F.DMS_CFG_SAFESEL n) = 3) then
      s.dmsStatus n stBADARG
    else if s.on (F.DMS_STAT_RET n) then s.dmsStatus n stNOSPARE
    else ((s.set (F.DMS_CTRL_EN n) 1).dmsStart n s.dmsNow).dmsStatus n stOK
  else
    let s := (s.set (F.DMS_CTRL_EN n) 0).dmsStatus n stOK
    if st = unitSHUTTING ∨ st = unitOFF then s else s.dmsShut n

/-- A channel that is OFF takes the span written (R344, R345). -/
def dmsSpanOff (s : State) (n : Nat) : State :=
  ((s.set (F.DMS_SPAN_ACTIVE n) (s.get (F.DMS_SPAN_SPAN n))).set (F.DMS_SPAN_PEND n) 0).set (I.DMS_HELD n) 0

/-- 0 V is reached: the stage is disabled, and a held span applies (R344, R346, R38). -/
def dmsOff (s : State) (n : Nat) : State :=
  if s.dmsState n = unitSHUTTING then
    let t := s.dmsArrives n
    let s := ((s.dmsJump n 0).dmsSpanOff n).raiseCause (200 + n) 1
    if s.on (F.DMS_CTRL_EN n) then s.dmsStart n t
    else (s.set (F.DMS_CTRL_STATE n) unitOFF).set (F.DMS_STAT_SC n) 0
  else s

/-! ### Codes (R339, R340, R342 to R345) -/

/-- A write of `DMS_CODE`. DEDUCED: log entry 51. -/
def dmsCode (s : State) (n code : Nat) : State :=
  let s := ((s.set (F.DMS_CODE_C n) code).set (F.DMS_STAT_CW n) 1).dmsStatus n stOK
  let st := s.dmsState n
  if st = unitOFF ∨ st = unitSHUTTING ∨ s.on (F.DMS_STAT_FORCED n) ∨ s.dmsAudio n then s
  else
    let old := s.get (I.DMS_TGT n)
    let s := s.set (I.DMS_TGT n) code
    if st = dmsSPANCHG then if s.get (I.DMS_PH n) = 4 then s.dmsSlewTo n (s.dmsGoal n) else s
    else if st = unitSTARTING then s.dmsSlewTo n (s.dmsGoal n)
    else if s.on (F.DMS_STAT_HOLDING n) then s
    else if s.on (F.DMS_STAT_SLEWING n) then s.dmsSlewTo n (s.dmsGoal n)
    else if max old code - min old code ≤ s.get (F.DMS_DGL_THR n) then s.dmsJump n (s.dmsGoal n)
    else (s.set (F.DMS_STAT_HOLDING n) 1).set (I.DMS_DUE n) (s.dmsNow + s.dmsUs (s.get (F.DMS_DGL_HOLD n) + 1))

/-- The hold ends (R339). -/
def dmsHoldEnd (s : State) (n : Nat) : State :=
  if s.on (F.DMS_STAT_HOLDING n) then s.dmsSlewAt n (s.dmsGoal n) (s.get (I.DMS_DUE n)) else s

/-- The limiter reaches its setpoint; in step 5 that ends SPANCHG, and a stream ramps in from VCMO (R338, R343, R344). -/
def dmsSlewDone (s : State) (n : Nat) : State :=
  let st := s.dmsState n
  let t := s.dmsArrives n
  if st = unitON ∧ s.on (F.DMS_STAT_SLEWING n) then (s.dmsJump n (s.get (I.DMS_TO n))).dmsRamp n 1
  else if st = dmsSPANCHG ∧ s.get (I.DMS_PH n) = 4 then
    ((((s.dmsJump n (s.get (I.DMS_TO n))).set (F.DMS_CTRL_STATE n) unitON).set (I.DMS_PH n) 0).dmsRamp n 1
      |>.raiseCause (200 + n) 2).dmsHeldSpan n t
  else if st = dmsSPANCHG ∧ s.get (I.DMS_PH n) ≠ 1 then s.dmsJump n (s.get (I.DMS_TO n))
  else s

/-- A channel goes to its target again, or takes it as its pending code while SPANCHG. -/
def dmsRetarget (s : State) (n code : Nat) : State :=
  let s := s.set (I.DMS_TGT n) code
  if s.dmsState n = dmsSPANCHG ∧ s.get (I.DMS_PH n) ≠ 4 then s else s.dmsSlewTo n (s.dmsGoal n)

/-- The force on one channel begins or ends; a stream then ramps in (R343, R345, R346). -/
def dmsForce (s : State) (n : Nat) : State :=
  let st := s.dmsState n
  let want := s.dmsClr n
  if st = unitOFF ∨ st = unitSHUTTING ∨ s.on (F.DMS_STAT_FORCED n) = want then s
  else
    ((s.dmsRetarget n (if want then s.get (F.DMS_CLRCODE_C n) else s.get (F.DMS_CODE_C n))).flag (F.DMS_STAT_FORCED n) want
      ).dmsRamp n 1

/-- A level of `DACCLR#` (R343). -/
def dmsClrLevel (s : State) (high : Bool) : State :=
  (List.range 16).foldl (fun s n => s.dmsForce n) ((s.flag I.DMS_LOW (!high)).flag F.DMS_GSTAT_CLRLVL high)

/-! ### Spans (R344, R345) -/

/-- A write of `DMS_SPAN`. -/
def dmsSpanSet (s : State) (n w : Nat) : State :=
  let sp := w % 4
  let st := s.dmsState n
  if s.dmsAudio n && decide (sp < 2) then s.dmsStatus n stBADARG
  else
    let s := (s.set (F.DMS_SPAN_SPAN n) sp).dmsStatus n stOK
    let hold (s : State) : State := (s.set (I.DMS_HELD n) 1).set (F.DMS_SPAN_PEND n) 1
    if st = unitOFF then s.set (F.DMS_SPAN_ACTIVE n) sp
    else if st = unitSTARTING ∨ st = unitSHUTTING then hold s
    else if st = unitON then if sp = s.get (F.DMS_SPAN_ACTIVE n) then s else s.dmsSpanBegin n sp s.dmsNow
    else if s.get (I.DMS_PH n) < 3 then
      let safe := s.dmsSafe n sp
      let s := s.set (I.DMS_NSPAN n) sp
      if safe = s.get (I.DMS_TO n) then s else (s.set (I.DMS_PH n) 1).dmsSlewTo n safe
    else hold s

/-- The steps of a span change: SAFE reached, switch, settled; the hold and the settling last 50 µs each. -/
def dmsSafeReached (s : State) (n : Nat) : State :=
  if s.dmsState n = dmsSPANCHG ∧ s.get (I.DMS_PH n) = 1 then
    ((s.dmsJump n (s.get (I.DMS_TO n))).set (I.DMS_PH n) 2).set (I.DMS_DUE n) (s.dmsArrives n + s.dmsUs 50)
  else s
def dmsSwitch (s : State) (n : Nat) : State :=
  if s.dmsState n = dmsSPANCHG ∧ s.get (I.DMS_PH n) = 2 then
    ((s.set (F.DMS_SPAN_ACTIVE n) (s.get (I.DMS_NSPAN n))).set (I.DMS_PH n) 3).set (I.DMS_DUE n)
      (s.get (I.DMS_DUE n) + s.dmsUs 50)
  else s
def dmsSettled (s : State) (n : Nat) : State :=
  if s.dmsState n = dmsSPANCHG ∧ s.get (I.DMS_PH n) = 3 then
    (s.set (I.DMS_PH n) 4).dmsSlewAt n (s.dmsGoal n) (s.get (I.DMS_DUE n))
  else s

/-- A step of a channel that the limiter's arrival makes, or the end of a timed phase: it takes place in the sample in which
it is due, and its time counts from there. DEDUCED: log entry 51. -/
def dmsAtArrival (s : State) (n : Nat) (f : State → State) : State := if s.dmsDue (s.dmsArrives n) then f s else s
def dmsAtDue (s : State) (n : Nat) (f : State → State) : State := if s.dmsDue (s.get (I.DMS_DUE n)) then f s else s

/-! ### Stages and shorts (R347, R348, R350) -/

/-- The spare stage takes over (R347). -/
def dmsStageSwap (s : State) (n : Nat) : State :=
  if s.on (I.DMS_SWAP n) then
    (((s.set (I.DMS_SWAP n) 0).set (F.DMS_STAT_STAGE n) (1 - s.get (F.DMS_STAT_STAGE n))).set (F.DMS_STAT_SPOK n) 0
      ).raiseCause (200 + n) 4
  else s

/-- The channel is retired: OFF at once (R348). -/
def dmsRetire (s : State) (n : Nat) : State :=
  ((((((((s.dmsJump n 0).set (F.DMS_CTRL_STATE n) unitOFF).set (F.DMS_CTRL_EN n) 0).set (F.DMS_STAT_RET n) 1).set
    (F.DMS_STAT_HOLDING n) 0).set (F.DMS_STAT_FORCED n) 0).set (F.DMS_STAT_SC n) 0).set (I.DMS_PH n) 0
    |>.dmsSpanOff n |>.dmsStatus n stNOSPARE).raiseCause (200 + n) 5

/-- The stage begins to limit its current, and stops (R350); the voltage it slews back from is the ball's. A stage whose drive
is held high-impedance carries none (R349). -/
def dmsShort (s : State) (n : Nat) : State :=
  if s.dmsState n = unitOFF ∨ s.standby ∨ s.on (F.DMS_STAT_SC n) then s else (s.set (F.DMS_STAT_SC n) 1).raiseCause (200 + n) 3
/-- DESIGN CHOICE: log entry 50. -/
def dmsUnshort (s : State) (n : Nat) : State :=
  if s.on (F.DMS_STAT_SC n) then
    let goal := s.get (I.DMS_TO n)
    let s := { s.set (F.DMS_STAT_SC n) 0 with free := s.free + 1 }
    ((s.dmsJump n ((Config.freeWord s.free).toNat % 3000001)).set (F.DMS_STAT_SLEWING n) 1).dmsSlewTo n goal
  else s

/-- A write of another register of a channel, at offset `o` (R336, R338, R343). -/
def dmsPlain (s : State) (n o w : Nat) : State :=
  if o = 0x04 ∧ s.dmsState n ≠ unitOFF then s.dmsStatus n stBUSY
  else
    let out := s.dmsOut n
    let s := s.plainStore (dmsAddr n o) w (fun s => s.dmsStatus n stOK)
    let s := if o = 0x1C ∧ s.get (I.DMS_SAT n) ≤ s.dmsNow then (s.set (I.DMS_FROM n) out).set (I.DMS_SAT n) s.dmsNow else s
    if o = 0x1C then s.dmsForce n
    else if o = 0x10 ∧ s.on (F.DMS_STAT_FORCED n) then s.dmsRetarget n (s.get (F.DMS_CLRCODE_C n))
    else s

end State

/-! ### The commands -/

def execDamsonEnable (m : Master) (n : Fin 16) (s : State) : Out :=
  .next (s.guardWrite m (dmsAddr n 0) 0x10 (fun s => s.dmsCtrlSet n 0x10))
def execDamsonDisable (m : Master) (n : Fin 16) (s : State) : Out :=
  .next (s.guardWrite m (dmsAddr n 0) 0 (fun s => s.dmsCtrlSet n 0))
def execDamsonOn (n : Fin 16) (s : State) : Out := .next (s.dmsAtArrival n (fun s => s.dmsOn n))
def execDamsonOff (n : Fin 16) (s : State) : Out := .next (s.dmsAtArrival n (fun s => s.dmsOff n))
def execDamsonCodeWrite (m : Master) (n : Fin 16) (code : BitVec 24) (s : State) : Out :=
  .next (s.guardWrite m (dmsAddr n 0x0C) code.toNat (fun s => s.dmsCode n code.toNat))
def execDeglitchHoldEnd (n : Fin 16) (s : State) : Out := .next (s.dmsAtDue n (fun s => s.dmsHoldEnd n))
def execSlewComplete (n : Fin 16) (s : State) : Out := .next (s.dmsAtArrival n (fun s => s.dmsSlewDone n))
def execSpanWrite (m : Master) (n : Fin 16) (span : Fin 4) (s : State) : Out :=
  .next (s.guardWrite m (dmsAddr n 8) span.val (fun s => s.dmsSpanSet n span.val))
def execSpanSafeReached (n : Fin 16) (s : State) : Out := .next (s.dmsAtArrival n (fun s => s.dmsSafeReached n))
def execSpanSwitch (n : Fin 16) (s : State) : Out := .next (s.dmsAtDue n (fun s => s.dmsSwitch n))
def execSpanSettleEnd (n : Fin 16) (s : State) : Out := .next (s.dmsAtDue n (fun s => s.dmsSettled n))
def execDamsonStageSwap (n : Fin 16) (s : State) : Out := .next (s.dmsStageSwap n)
def execShortCircuitOnset (n : Fin 16) (s : State) : Out := .next (s.dmsShort n)
def execShortCircuitCleared (n : Fin 16) (s : State) : Out := .next (s.dmsUnshort n)

end Sys2Proof.Machine
end

