-- ==== Sys2Proof/Machine/Balls.lean ====
section
/-! DEFINITION. The balls that the service link may name (R457, R458, R496, R507), their drives, and the lines it sends. -/

namespace Sys2Proof.Machine

/-- The signal name of the ball whose claim slot is `n`: its first function's name, by R507; none where no ball with a slot
lies there. -/
def slotName (n : Nat) : Option String :=
  let r := n / 32
  let c := n % 32
  let k (x : Nat) : String := toString x
  if r = 0 then some ("AP" ++ k c ++ "_BCLK")
  else if r = 1 then some ("AP" ++ k c ++ "_FS")
  else if r = 2 then some ("AP" ++ k c ++ "_DI")
  else if r = 3 then some ("AP" ++ k c ++ "_DO")
  else if 6 ≤ r ∧ r < 22 ∧ c = 0 then some ("TOUT" ++ k (r - 6))
  else if 6 ≤ r ∧ r < 22 ∧ c = 1 then some ("TOUT" ++ k (r + 10))
  else if 6 ≤ r ∧ r < 22 ∧ c = 2 then some ("TIN" ++ k (r - 6))
  else if 6 ≤ r ∧ r < 22 ∧ c = 3 then some ("TIN" ++ k (r + 10))
  else if 6 ≤ r ∧ r < 10 ∧ c = 4 then some ("AESI" ++ k (r - 2))
  else if 10 ≤ r ∧ r < 14 ∧ c = 4 then some ("AESO" ++ k (r - 6))
  else if 22 ≤ r ∧ r < 26 ∧ c < 4 then some ("U" ++ k (r - 22) ++ ["TX", "RX", "RTS", "CTS"].getD c "")
  else if 14 ≤ r ∧ r < 18 ∧ c = 4 then some ("U4" ++ ["TX", "RX", "RTS", "CTS"].getD (r - 14) "")
  else if 18 ≤ r ∧ r < 22 ∧ c = 4 then some ("U5" ++ ["TX", "RX", "RTS", "CTS"].getD (r - 18) "")
  else if 6 ≤ r ∧ r < 14 ∧ c = 31 then some ("MCLKO" ++ k (r - 6))
  else if r = 14 ∧ c = 31 then some "SYNCOUT"
  else none

/-- The balls without a claim slot that the link may drive (R458). -/
def slotlessName (k : Nat) : Option String :=
  ["SYNCIN", "HS_CLK", "HS_CS#", "HS_MOSI", "HS_MISO", "HS_IRQ#", "PERST#", "PEWAKE#", "RSTOUT#", "DACCLR#", "PWRSRC"][k]?

/-- A ball's name. -/
def ballName : Ball → Option String
  | .slot n => slotName n
  | .free k => slotlessName k

/-- The balls of `DACCLR#` and `PWRSRC`, whose levels units read. -/
def ballDACCLR : Ball := .free 9
def ballPWRSRC : Ball := .free 10

namespace State

/-- A line sent on U0 by the service link or by Rind. -/
def say (s : State) (l : String) : State := { s with svc := { s.svc with out := s.svc.out ++ [l] } }

/-- The level of a driven square wave: 1 kHz counted from TCLK (R457). DEDUCED: log entry 128. -/
def squareLevel (s : State) : Bool := decide (s.tclk * 2000 / s.tclkHz % 2 = 0)

/-- The level the service link drives on a ball, if it drives it (R457). -/
def driven (s : State) (b : Ball) : Option Bool :=
  match s.svc.drives.find? (fun d => decide (d.1 = b)) with
  | some (_, .high) => some true
  | some (_, .low) => some false
  | some (_, .square) => some s.squareLevel
  | none => none

/-- `DACCLR#` as Damson reads it: driven by the link, else as the board leaves it (R343, R458).
DESIGN CHOICE: log entry 48. -/
def dacclrRefresh (s : State) : State :=
  let low := match s.driven ballDACCLR with | some l => !l | none => s.on I.DMS_OUTER
  if low = s.on I.DMS_LOW then s else s.dmsClrLevel (!low)

/-- The board changes the level of `DACCLR#` (R343). -/
def dacclrOutside (s : State) (high : Bool) : State := (s.flag I.DMS_OUTER (!high)).dacclrRefresh

/-- A drive without a claim slot. -/
def slotlessDrive (d : Ball × DriveLevel) : Bool :=
  match d.1 with
  | .slot _ => false
  | .free _ => true

/-- The balls without a claim slot are no longer driven once the engine leaves STOPPED, with a notice each (R458). -/
def endSlotlessDrives (s : State) : State :=
  let ds := s.svc.drives.filter slotlessDrive
  let t := { s with svc := { s.svc with drives := s.svc.drives.filter (fun d => !slotlessDrive d) } }
  (ds.foldl (fun s d => s.say ("! RELEASED " ++ (ballName d.1).getD "" ++ " 0000")) t).dacclrRefresh

end State

/-! ### The commands -/

def execDacclrAssert (s : State) : Out := .next (s.dacclrOutside false)
def execDacclrRelease (s : State) : Out := .next (s.dacclrOutside true)

end Sys2Proof.Machine
end

