-- ==== Sys2Proof/Machine/Engine.lean ====
section
/-! DEFINITION. Requests to start and stop the engine (R40 to R42), and the claim registers (R31 to R34, R504). What
happens at the targets stands in Machine/Tick.lean. -/

namespace Sys2Proof.Machine

namespace State

/-! ### Start and stop requests (R40, R42) -/

/-- The first block boundary at least 2 × B samples after FRC (R42). -/
def earliest (s : State) : Nat := roundUp (s.frc + 2 * s.blockLen) s.blockLen

/-- The requested F rounded up to a block boundary (R40). -/
def askedF (s : State) : Nat := roundUp (s.pair F.SYS_ENGINE_FRC_LO_F F.SYS_ENGINE_FRC_HI_F) s.blockLen

/-- The lead R42 asks of F, when AT is set. -/
def targetOk (s : State) (at_ : Bool) : Bool := !at_ || decide (s.frc + 2 * s.blockLen ≤ s.askedF)

/-- The target of a request (R42). -/
def targetOf (s : State) (at_ : Bool) : Nat := if at_ then s.askedF else s.earliest

/-- RUN, AT and STATUS of an accepted request. -/
def engineAccept (s : State) (run at_ : Bool) : State :=
  ((s.flag F.SYS_ENGINE_RUN run).flag F.SYS_ENGINE_AT at_).set F.SYS_ENGINE_STATUS stOK

/-- A start from STOPPED with target `f` (R40). -/
def engineStart (s : State) (f : Nat) : State :=
  ((((s.set I.ENG_TGT f).set I.ENG_LANDED 0).set I.ENG_STOPP 0).set I.ENG_RESTART 0).endSlotlessDrives.setEngine 1

/-- A request with RUN = 1 (R40, R42). -/
def engineRun (s : State) (at_ : Bool) : State :=
  match s.get F.SYS_ENGINE_STATE with
  | 0 => (s.engineStart (s.targetOf at_)).engineAccept true at_
  | 3 => ((s.set I.ENG_RESTART 1).set I.ENG_REQ (if at_ then s.askedF else 0)).engineAccept true at_
  | _ => if s.on I.ENG_STOPP then (s.set I.ENG_STOPP 0).engineAccept true at_
         else s.set F.SYS_ENGINE_STATUS stOK

/-- A request with RUN = 0 (R40, R42). -/
def engineStop (s : State) (at_ : Bool) : State :=
  match s.get F.SYS_ENGINE_STATE with
  | 1 =>
    if s.on I.ENG_STOPP then s.set F.SYS_ENGINE_STATUS stOK
    else if s.on I.ENG_LANDED ∨ s.get I.ENG_TGT ≤ s.frc then
      (((s.set I.ENG_STOPP 1).set I.ENG_FROMSTART 1).set I.ENG_STOPT (s.get I.ENG_TGT + s.blockLen)).engineAccept
        false at_
    else (s.engineAccept false at_).setEngine 0
  | 2 =>
    if s.on I.ENG_STOPP then s.set F.SYS_ENGINE_STATUS stOK
    else (((s.set I.ENG_STOPP 1).set I.ENG_FROMSTART 0).set I.ENG_STOPT (s.targetOf at_)).engineAccept false at_
  | 3 => (s.set I.ENG_RESTART 0).engineAccept false at_
  | _ => s.engineAccept false at_

/-- A write of `SYS_ENGINE` (R40, R42, R501): a request with AT needs its lead in every state; OVR is W1C, and a refused
write clears nothing. -/
def engineSet (s : State) (w : Nat) : State :=
  if s.targetOk (natBit w 5) then
    (if natBit w 4 then s.engineRun (natBit w 5) else s.engineStop (natBit w 5)).clear1 F.SYS_ENGINE_OVR w
  else s.set F.SYS_ENGINE_STATUS stBADARG

/-! ### Claim registers (R33, R34) -/

/-- `SYS_CLAIMREQ` records the writer. -/
def claimReq (s : State) (m : Master) (status : Nat) : State :=
  (s.set F.SYS_CLAIMREQ_REQUESTER (0xFF00 + m.id)).set F.SYS_CLAIMREQ_STATUS status

/-- TAKE of a slot (`SYS_CLAIM[n]`). -/
def claimTake (s : State) (m : Master) (slot : Nat) : State :=
  let me := 0xFF00 + m.id
  if slot < 1632 ∨ 1695 < slot then s.claimReq m stBADARG
  else if s.get (F.SYS_CLAIM_OWNER slot) = 0 ∨ s.get (F.SYS_CLAIM_OWNER slot) = me then
    (s.set (F.SYS_CLAIM_OWNER slot) me).claimReq m stOK
  else s.conflict slot me

/-- DROP of a slot: the holder, or the steward for a slot that any master holds. -/
def claimDrop (s : State) (m : Master) (slot : Nat) : State :=
  let own := s.get (F.SYS_CLAIM_OWNER slot)
  if own = 0xFF00 + m.id ∨ (m = .steward ∧ 0xFF00 ≤ own) then s.set (F.SYS_CLAIM_OWNER slot) 0
  else s.claimReq m stREFUSED

/-- A write of `SYS_CLAIM[n]` (R504). -/
def claimSet (s : State) (m : Master) (slot w : Nat) : State :=
  if natBit w 0 && natBit w 1 then s.claimReq m stBADARG
  else if natBit w 0 then s.claimTake m slot
  else if natBit w 1 then s.claimDrop m slot
  else s

/-! ### Event routing (R30) -/

/-- The pip is an EVENT pip. -/
def isEventPip (s : State) (p : Nat) : Bool := s.on (F.PIP1_CLASS p)

/-- Where event `n` goes (R30). -/
def routingOf (s : State) (n : Nat) : List Nat :=
  [s.get (F.SYS_EVROUTE_KIND n), s.get (F.SYS_EVROUTE_LEVEL n), s.get (F.SYS_EVROUTE_VECTOR n), s.get (F.SYS_EVROUTE_PIP n)]

/-- A write of `SYS_EVROUTE[n]` (R30): a pip that is not an EVENT pip falls back to the steward with event 17, and a
pending event whose routing changes is delivered once to the new destination. -/
def evrouteSet (s : State) (n w : Nat) : State :=
  let was := s.evPending n
  let t := s.puts [F.SYS_EVROUTE_KIND n, F.SYS_EVROUTE_LEVEL n, F.SYS_EVROUTE_VECTOR n, F.SYS_EVROUTE_PIP n] w
  let t := if t.get (F.SYS_EVROUTE_KIND n) = 2 ∧ t.isEventPip (t.get (F.SYS_EVROUTE_PIP n)) = false then
      (t.set (F.SYS_EVROUTE_KIND n) 3).raise 17
    else t
  if was ∧ t.routingOf n ≠ s.routingOf n then t.notify n false else t

end State

/-! ### The commands -/

def execEngineRunRequest (m : Master) (atFrc : Bool) (s : State) : Out :=
  .next (s.guardWrite m 0x10 (0x10 + b2n atFrc * 0x20) (fun s => s.engineSet (0x10 + b2n atFrc * 0x20)))
def execEngineStopRequest (m : Master) (atFrc : Bool) (s : State) : Out :=
  .next (s.guardWrite m 0x10 (b2n atFrc * 0x20) (fun s => s.engineSet (b2n atFrc * 0x20)))

def execClaimTake (m : Master) (slot : Fin 2048) (s : State) : Out :=
  .next (s.guardWrite m (0x2000 + 4 * slot) 1 (fun s => s.claimSet m slot 1))
def execClaimDrop (m : Master) (slot : Fin 2048) (s : State) : Out :=
  .next (s.guardWrite m (0x2000 + 4 * slot) 2 (fun s => s.claimSet m slot 2))

def execEvrouteWrite (m : Master) (n : Fin 256) (w : Word) (s : State) : Out :=
  .next (s.guardWrite m (0x400 + 4 * n) w.toNat (fun s => s.evrouteSet n w.toNat))

end Sys2Proof.Machine
end

