-- ==== Sys2Proof/Machine/Orchard.lean ====
section
/-! DEFINITION. Orchard's owners and handovers, and the external memory controller (R248 to R266). Loans stand with
Medlar in Machine/Medlar.lean. -/

namespace Sys2Proof.Machine

/-- The Orchard range of the core map (R72, R248). -/
def orcBase : Nat := 0x10000000
def orcSize : Nat := 0x4000000
/-- The logical bank of an Orchard offset. -/
def bankOf (off : Nat) : Nat := off / 0x100000 % 64

/-- An owner code that R250 lists. -/
def ownerValid (o : Nat) : Bool :=
  decide (o < 0x40) || [0x50, 0x52, 0x53, 0x54, 0x56, 0x58, 0x59, 0x5B].contains o ||
  (decide (0x60 ≤ o) && decide (o < 0x80))

/-- The accessor of an Orchard request: a logical core, or another master by its ID (R250, R251). -/
inductive Accessor where
  | core (n : Nat) | other (id : Nat)
deriving DecidableEq, Repr

/-- A core as Orchard sees it. -/
def accessorOf (n : Nat) : Accessor := if n = 64 then .other 0x50 else .core n

/-- The flaws left once cells are written, for units of `u` bytes. DESIGN CHOICE: log entry 160. -/
def mend (fs : List Flaw) (u : Nat) (cs : List Host.Cell) : List Flaw :=
  fs.filter (fun f => !cs.any (fun c => decide (c.1 / u = f.ix)))

/-- The flaws left once `n` bytes from an address are written. -/
def mendRange (fs : List Flaw) (u a n : Nat) : List Flaw :=
  fs.filter (fun f => !(decide (a ≤ u * f.ix + u - 1) && decide (u * f.ix < a + n)))

/-- The flaws of the units that a read of `n` bytes meets. -/
def flawsIn (fs : List Flaw) (u a n : Nat) : List Flaw :=
  fs.filter (fun f => decide (a ≤ u * f.ix + u - 1) && decide (u * f.ix < a + n))

namespace Core

/-- The core has requests that bank `n` accepted before its handover (R255): the load that waits, and the stores not behind
one that is itself held back. DESIGN CHOICE: log entry 98. -/
def inFlight (c : Core) (n : Nat) : Bool :=
  let q := c.stores.takeWhile (fun o => !o.held)
  let waits (b : Bank) : Bool :=
    match b.load with
    | some l => !l.held && decide (bankOf l.addr = n) && decide (l.after ≤ c.storesDone + q.length)
    | none => false
  q.any (fun o => o.bytes.any (fun b => decide (bankOf b.1 = n))) || waits c.p || waits c.s

/-- The requests that waited for the handover of bank `n` are accepted. -/
def admitHeld (c : Core) (n : Nat) : Core :=
  let free (b : Bank) : Bank :=
    { b with load := b.load.map (fun l => { l with held := l.held && !decide (bankOf l.addr = n) }) }
  { c with p := free c.p, s := free c.s
           stores := c.stores.map (fun o =>
             { o with held := o.held && !o.bytes.any (fun b => decide (bankOf b.1 = n)) }) }

end Core

namespace State

/-- The master is a member of owner group `g` (R252). -/
def inGroup (s : State) (g : Nat) : Accessor → Bool
  | .core n => if n < 32 then natBit (s.get (F.ORC_GRP_LO_M g)) n else natBit (s.get (F.ORC_GRP_HI_M g)) (n - 32)
  | .other id =>
    if id = 0x50 then s.on (F.ORC_GRP_X_STW g)
    else if id = 0x52 then s.on (F.ORC_GRP_X_VM g)
    else if id = 0x53 then s.on (F.ORC_GRP_X_SCN g)
    else if id = 0x54 then s.on (F.ORC_GRP_X_BRM g)
    else if id = 0x56 then s.on (F.ORC_GRP_X_GRAFT g)
    else if id = 0x58 then s.on (F.ORC_GRP_X_PCIE g)
    else if id = 0x59 then s.on (F.ORC_GRP_X_SPI g)
    else if id = 0x5B then s.on (F.ORC_GRP_X_TWIN g)
    else false

/-- A bank's owner admits an accessor (R251). -/
def admits (s : State) (bank : Nat) (a : Accessor) : Bool :=
  let o := s.get (F.ORC_OWN_OWNER bank)
  if 0x60 ≤ o then s.inGroup (o - 0x60) a
  else match a with
    | .core n => decide (o = n)
    | .other id => decide (o = id)

/-- A logical bank retired without a spare reads 0 and discards writes (R411). -/
def bankRetired (s : State) (bank : Nat) : Bool := decide (s.get (F.ORC_MAP_PHYS bank) = 0x7F)

/-- One Orchard byte, by offset. -/
def orcByte (s : State) (off : Nat) : Byte := if s.bankRetired (bankOf off) then 0 else memGet s.orchard off
/-- `n` Orchard bytes. -/
def orcBytes (s : State) (off : Nat) : Nat → List Byte
  | 0 => []
  | n + 1 => s.orcByte off :: s.orcBytes (off + 1) n
def orc32 (s : State) (off : Nat) : Nat := leNat (s.orcBytes off 4)
def orc128 (s : State) (off : Nat) : Nat := leNat (s.orcBytes off 16)
/-- The pages that a resynchronisation copies and that hold a byte, by their keys: twice their address, and 1 more in DRAM.
They are those of the banks of `TWN_OBANK` and of the regions of `TWN_RGN` (R388). -/
def pagesAt (s : State) (dram : Bool) (a : Nat) : List Nat :=
  let bank : List Nat :=
    if !dram && natBit (s.get (if bankOf a < 32 then F.TWN_OBANK_LO_M else F.TWN_OBANK_HI_M)) (bankOf a % 32) then
      [2 * (a / 4096 * 4096)]
    else []
  bank ++ (List.range 8).filterMap (fun r =>
    let base := 16 * (s.get (F.TWN_RGN0_SRCW r) + 2 ^ 32 * s.get (F.TWN_RGN1_SRCWH r))
    if s.on (F.TWN_RGN1_D r) = dram ∧ base ≤ a ∧ a < base + 4096 * s.get (F.TWN_RGN1_LEN r) then
      some (2 * (base + (a - base) / 4096 * 4096) + b2n dram)
    else none)

/-- The pages written, while the copies of a resynchronisation are being sent (R388, step 4). -/
def dirtied (s : State) (dram : Bool) (cs : List Host.Cell) : List Nat :=
  if s.get I.TWN_CPASS = 0 then s.dirty else ((cs.flatMap (fun c => s.pagesAt dram c.1)) ++ s.dirty).eraseDups

/-- Orchard cells written, those of a retired bank discarded; a lane written holds no error (R260). -/
def orcWrite (s : State) (cs : List Host.Cell) : State :=
  { s with orchard := memCells s.orchard (cs.filter (fun c => !s.bankRetired (bankOf c.1)))
           orcFlaws := mend s.orcFlaws 4 cs
           dirty := s.dirtied false cs }
/-- DRAM cells written. -/
def dramWrite (s : State) (cs : List Host.Cell) : State :=
  { s with dram := memCells s.dram cs, dramFlaws := mend s.dramFlaws 8 cs, dirty := s.dirtied true cs }

/-- The configured DRAM size in bytes, 0 unless the controller is ON (R265). -/
def dramSize (s : State) : Nat :=
  if s.get F.DMC_STAT_STATE = unitON then s.get F.DMC_STAT_SIZE * 0x100000 else 0

/-- `n` bytes from a source: DRAM, or an Orchard address of the core map. -/
def srcBytes (s : State) (dram : Bool) (a n : Nat) : List Byte :=
  if dram then memBytes s.dram a n else s.orcBytes (a - orcBase) n

/-- A range lies in Orchard's core-map range. -/
def inOrchard (a n : Nat) : Bool := decide (orcBase ≤ a) && decide (a + n ≤ orcBase + orcSize)

/-- Every bank a range touches admits the accessor. -/
def rangeAdmits (s : State) (acc : Accessor) (a n : Nat) : Bool :=
  if n = 0 then true
  else
    let b := (a - orcBase) / 0x100000
    (List.range ((a - orcBase + n - 1) / 0x100000 - b + 1)).all (fun k => s.admits (b + k) acc)

/-- A bank that a range touches is being handed over: what its new owner asks waits (R255). -/
def rangePending (s : State) (a n : Nat) : Bool :=
  if n = 0 then false
  else
    let b := (a - orcBase) / 0x100000
    (List.range ((a - orcBase + n - 1) / 0x100000 - b + 1)).any (fun k => s.on (F.ORC_OWN_PENDING (b + k)))

def orcStatus (s : State) (v : Nat) : State := s.set F.ORC_STAT_STATUS v

/-- The master may hand the bank over: the steward, the owner, or a member of the owning group (R254). -/
def mayHandOver (s : State) (m : Master) (n : Nat) : Bool :=
  decide (m = .steward) || s.admits n (.other m.id)

/-- A write of `ORC_OWN[n]` (R254, R255): `drain` performs what the bank has accepted under the old owner. -/
def ownSet (s : State) (m : Master) (n w : Nat) (drain : State → State) : State :=
  let o := (F.ORC_OWN_OWNER n).of w
  if !s.mayHandOver m n then s.orcStatus stREFUSED
  else if s.on (F.ORC_OWN_PENDING n) then s.orcStatus stBUSY
  else if !ownerValid o then s.orcStatus stBADARG
  else if o = s.get (F.ORC_OWN_OWNER n) then s.orcStatus stOK
  else
    let s := drain s
    ((((s.set (F.ORC_OWN_PREV n) (s.get (F.ORC_OWN_OWNER n))).set (F.ORC_OWN_PENDING n) 1).set
      (F.ORC_OWN_OWNER n) o).orcStatus stOK)

/-- The end of the handover of bank `n`, once nothing that it accepted under the old owner is in flight: what waits is
served (R255). -/
def handoverDone (s : State) (n : Nat) : State :=
  if s.on (F.ORC_OWN_PENDING n) && !s.cores.any (fun e => e.2.inFlight n) then
    let s := ((s.set (F.ORC_OWN_PENDING n) 0).set (F.ORC_OWN_PREV n) 0).raise 20
    { s with cores := s.cores.map (fun e => (e.1, e.2.admitHeld n)) }
  else s

/-- Group `g` owns a bank. -/
def groupOwns (s : State) (g : Nat) : Bool :=
  (List.range 64).any (fun n => decide (s.get (F.ORC_OWN_OWNER n) = 0x60 + g))

/-- The member bits of a word of an owner group. -/
def groupMask (k : Nat) : Nat := if k = 2 then 0xB5D else 2 ^ 32 - 1

/-- The member word `k` of group `g`: LO, HI or X. -/
def groupWord (s : State) (g k : Nat) : Nat :=
  if k = 0 then s.get (F.ORC_GRP_LO_M g)
  else if k = 1 then s.get (F.ORC_GRP_HI_M g)
  else s.regWord (0x28208 + 16 * g)

/-- A write of one word of an owner group: no member leaves while the group owns a bank (R252). -/
def groupSet (s : State) (g k w : Nat) : State :=
  let old := s.groupWord g k
  let new := w &&& groupMask k
  if old &&& new ≠ old ∧ s.groupOwns g then s.orcStatus stREFUSED
  else
    (if k = 0 then s.set (F.ORC_GRP_LO_M g) new
     else if k = 1 then s.set (F.ORC_GRP_HI_M g) new
     else s.puts [F.ORC_GRP_X_STW g, F.ORC_GRP_X_VM g, F.ORC_GRP_X_SCN g, F.ORC_GRP_X_BRM g, F.ORC_GRP_X_GRAFT g,
       F.ORC_GRP_X_PCIE g, F.ORC_GRP_X_SPI g, F.ORC_GRP_X_TWIN g] new).orcStatus stOK

/-! ### Errors (R260, R261) -/

/-- The physical bank that serves reads of logical bank `n` (R258). -/
def physBank (s : State) (n : Nat) : Nat :=
  if s.get (F.ORC_MAP_LOAN n) = 2 then s.get (F.ORC_MAP_SPARE n) else s.get (F.ORC_MAP_PHYS n)

/-- An uncorrectable Orchard read recorded and counted, with event 21 (R261). -/
def orcUncorrectable (s : State) (off lanes : Nat) : State :=
  let n := bankOf off
  (((((s.bump F.ORC_ECCCNT_UNCORR 1).set F.ORC_ECCLOG_V 1).set F.ORC_ECCLOG_PHYS (s.physBank n)).set
    F.ORC_ECCLOG_LANES lanes).set F.ORC_ECCLOG_WORD (off % 0x100000 / 16)).raise 21

/-- A memory is disturbed from outside: a lane, or an 8-byte word, holds an error that its next read finds, and holds 0 if
the error is uncorrectable (R260, R261, R266). Without inline ECC no error of external memory is detected.
DESIGN CHOICE: log entry 160. -/
def upset (s : State) (u : Upset) : State :=
  let zero (m : Mem) (k : Nat) : Mem := if u.lost then memWrite m (k * u.ix) (List.replicate k 0) else m
  let f : Flaw := { ix := u.ix, lost := u.lost }
  match u.mem with
  | .orchard =>
    if u.ix < orcSize / 4 then { s with orchard := zero s.orchard 4, orcFlaws := s.orcFlaws ++ [f] } else s
  | .dram =>
    if s.on F.DMC_CFG_ECC ∧ u.ix < s.dramSize / 8 then { s with dram := zero s.dram 8, dramFlaws := s.dramFlaws ++ [f] }
    else s
  | .dmem n =>
    let c := s.core n
    if u.ix < 0x10000 then s.setCore n { c with dmem := zero c.dmem 4, flaws := c.flaws ++ [f] } else s

/-- What a command finds in a 16-byte word of `mem`, as disturbances of its lanes, or of its two halves. -/
def upsetWord (s : State) (mem : FMem) (a : Nat) (e : Ecc) : State :=
  let u := if mem = .dram then 8 else 4
  match e with
  | .clean => s
  | .corrected => s.upset { mem := mem, ix := a / 16 * 16 / u, lost := false }
  | .uncorrectable l =>
    ((List.range 4).filter (fun k => l.toNat.testBit k && (decide (u = 4) || decide (k % 2 = 0) || !l.toNat.testBit (k - 1)))).foldl
      (fun s k => s.upset { mem := mem, ix := a / 16 * 16 / u + 4 * k / u, lost := true }) s
  | .disturbed _ => s

/-- The disturbances that a read's row brings, of any memory. -/
def disturb (s : State) (e : Ecc) : State :=
  match e with
  | .disturbed us => us.foldl (fun s u => s.upset u) s
  | .clean | .corrected | .uncorrectable _ => s

/-- A DRAM read found an error (R266). -/
def dramError (s : State) (a : Nat) (corrected : Bool) : State :=
  if !s.on F.DMC_CFG_ECC then s
  else if corrected then (s.bump F.DMC_ECCCNT_CORR 1).mdlFault 9 7 0 true 0 3 0 0xFFFF
  else
    ((((s.bump F.DMC_ECCCNT_UNCORR 1).set F.DMC_ECCLOG_LO_A (a / 8 * 8)).set F.DMC_ECCLOG_HI_A (a / 2 ^ 32)).set
      F.DMC_ECCLOG_HI_V 1).raise 242 |>.mdlFault 9 7 0 false 0 3 0 0xFFFF

/-! ### The controller (R264) -/

/-- The configured capacity in MiB: the installed capacity, 7/8 of it with inline ECC (R266). -/
def dmcMiB (s : State) : Nat :=
  let c := 2048 * 2 ^ s.get F.DMC_CFG_CAP
  if s.on F.DMC_CFG_ECC then c / 8 * 7 else c

def dmcStatus (s : State) (v : Nat) : State := s.set F.DMC_STAT_STATUS v

/-- A write of `DMC_CTRL` (R264). -/
def dmcSet (s : State) (w : Nat) : State :=
  (s.enableWrite F.DMC_CTRL_EN F.DMC_STAT_STATE (natBit w 4)
    (fun s => (s.set F.DMC_CTRL_EN 1).set F.DMC_STAT_STATE unitSTARTING)
    (fun s => s.set F.DMC_STAT_SIZE 0)).dmcStatus stOK

/-- A write of `DMC_CFG` (R264). -/
def dmcCfgSet (s : State) (w : Nat) : State :=
  if s.get F.DMC_STAT_STATE ≠ unitOFF then s.dmcStatus stBUSY
  else (s.puts [F.DMC_CFG_REUSE, F.DMC_CFG_ECC, F.DMC_CFG_RANKS, F.DMC_CFG_CAP, F.DMC_CFG_RATE, F.DMC_CFG_TYPE]
    w).dmcStatus stOK

/-- Training succeeds (R264). -/
def dmcTrained (s : State) : State :=
  s.startDone F.DMC_STAT_STATE (fun s => ((s.set F.DMC_STAT_SIZE s.dmcMiB).dmcStatus stOK).raise 240)

/-- Training fails: OFF, with TIMEOUT and event 241; the enable reads back as it was written (R38, R264).
DESIGN CHOICE: log entry 32. -/
def dmcFailed (s : State) : State :=
  if s.get F.DMC_STAT_STATE = unitSTARTING then
    ((s.set F.DMC_STAT_STATE unitOFF).dmcStatus stTIMEOUT).raise 241
  else s

/-- The devices are in self-refresh (R264). -/
def dmcOff (s : State) : State := s.shutDone F.DMC_CTRL_EN F.DMC_STAT_STATE id id

end State

/-! ### The commands -/


def execOwnerGroupWrite (m : Master) (g : Fin 32) (k : Fin 3) (w : Word) (s : State) : Out :=
  .next (s.guardWrite m (0x28200 + 16 * g + 4 * k) w.toNat (fun s => s.groupSet g k w.toNat))
def execDmcEnable (m : Master) (s : State) : Out := .next (s.guardWrite m 0x120000 0x10 (fun s => s.dmcSet 0x10))
def execDmcDisable (m : Master) (s : State) : Out := .next (s.guardWrite m 0x120000 0 (fun s => s.dmcSet 0))
def execDmcTrainingComplete (s : State) : Out := .next s.dmcTrained
def execDmcTrainingFailed (s : State) : Out := .next s.dmcFailed
def execDmcShutdownComplete (s : State) : Out := .next s.dmcOff

end Sys2Proof.Machine
end

