-- ==== Sys2Proof/Machine/Quince.lean ====
section
/-! DEFINITION. Quince: the pip store, posting, the event queue, the block cycle, placement and prefetch (R152 to R175).
Completion and start, which reach into the voice manager, stand in Machine/Voice.lean. -/

namespace Sys2Proof.Machine

namespace State

/-- Quince's event queue and held posts replaced. -/
def setQueue (s : State) (q : List QEvent) : State := { s with qn := { s.qn with queue := q } }
def setHeld (s : State) (h : List HeldPost) : State := { s with qn := { s.qn with held := h } }

def qnStatus (s : State) (v : Nat) : State := s.set F.QN_STAT_STATUS v

/-! ### The pip store (R152 to R154) -/

/-- Words 0 to 12 of a pip. -/
def pipWords (s : State) (p : Nat) : List Nat := (List.range 13).map (fun k => s.regWord (0xC00000 + 64 * p + 4 * k))

/-- Segment `k` of a pip: source, DRAM flag, DMEM destination and length, in bytes (R152). -/
def segSrc (s : State) (p k : Nat) : Nat :=
  16 * (s.get (F.PIPSA_SRCW p k) + 2 ^ 32 * s.get (F.PIPSB_SRCWH p k))
def segBytes (s : State) (p k : Nat) : Nat := 16 * s.get (F.PIPSB_LENW p k)
def segDst (s : State) (p k : Nat) : Nat := 16 * s.get (F.PIPSB_DSTW p k)

/-- A segment outside its source region, DMEM or the length limit (R153). -/
def segBad (s : State) (p k : Nat) : Bool :=
  let n := s.segBytes p k
  let dram := s.on (F.PIPSB_D p k)
  (decide (n ≠ 0) &&
    (decide (1024 * 16 < n) || decide (0x40000 < s.segDst p k + n) ||
     (if dram then decide (s.dramSize < s.segSrc p k + n) else !inOrchard (s.segSrc p k) n))) ||
  s.on (F.PIPSB_MBZ p k) || (!dram && s.on (F.PIPSB_SRCWH p k))

/-- A used segment outside the urgent window (R76). -/
def segOutsideWindow (s : State) (p k : Nat) : Bool :=
  decide (s.segBytes p k ≠ 0) && (decide (s.segDst p k < 0x3C000) || decide (0x40000 < s.segDst p k + s.segBytes p k))

def anySegOutside (s : State) (p : Nat) : Bool := [0, 1, 2, 3].any (fun k => s.segOutsideWindow p k)

/-- The pip, with word 1 already as written, fails a check of R153. -/
def pipBad (s : State) (p : Nat) : Bool :=
  let img := s.get (F.PIP0_IMAGE p)
  let ev := s.on (F.PIP1_CLASS p)
  decide (1024 ≤ img) || decide (s.get (F.PIP0_ENTRY p) % 8 ≠ 0) ||
  decide (16 * s.get (F.QN_IMG1_LENW img) ≤ s.get (F.PIP0_ENTRY p)) ||
  s.on (F.PIP0_MBZ p) || s.on (F.PIP1_MBZ p) || s.on (F.PIP2_MBZ p) ||
  (ev && (s.on (F.PIP1_REC p) || s.on (F.PIP1_DEP p) || s.on (F.PIP2_SL p))) ||
  [0, 1, 2, 3].any (fun k => s.segBad p k) ||
  (ev && decide (s.get (F.PIP1_GL p) < 4) && s.anySegOutside p)

/-- The fields of word 1. -/
def pip1Fields (p : Nat) : List Fld :=
  [F.PIP1_CLASS p, F.PIP1_REC p, F.PIP1_EN p, F.PIP1_SINK p, F.PIP1_GL p, F.PIP1_SER p, F.PIP1_AFF p, F.PIP1_TS p,
   F.PIP1_MBZ p, F.PIP1_DEP p]

/-- A pip enabled: no completion yet, and an idle one not armed until a tick arms it (R157). -/
def pipFresh (s : State) (p : Nat) : State :=
  let s := (s.set (F.PIP14_LASTBLK p) (2 ^ 32 - 1)).set (I.PIP_DONE p) 0
  if s.get (F.PIP13_STATE p) = 0 then s.set (I.PIP_ARM p) 0 else s

/-- The pip lies in the voice manager's range while that is not OFF (R190). -/
def vmPip (s : State) (p : Nat) : Bool :=
  decide (s.get F.VM_STAT_STATE ≠ unitOFF) && decide (s.get F.VM_BASE_PIPBASE ≤ p) &&
  decide (p < s.get F.VM_BASE_PIPBASE + 2 * s.get F.VM_CTRL_SLOTS)

/-- A write of word 1 (R153, R154, R190). -/
def pipWord1 (s : State) (p w : Nat) : State :=
  if s.vmPip p then s.qnStatus stBUSY
  else if s.on (F.PIP1_EN p) then
    if natBit w 29 then s.qnStatus stBUSY else (s.set (F.PIP1_EN p) 0).qnStatus stOK
  else
    let t := s.puts (pip1Fields p) w
    if natBit w 29 then if t.pipBad p then s.qnStatus stBADARG else (t.pipFresh p).qnStatus stOK
    else t.qnStatus stOK

/-- A write of a word of the pip store (R152, R154). -/
def pipWord (s : State) (p k w : Nat) : State :=
  if k = 1 then s.pipWord1 p w
  else if s.vmPip p then s.qnStatus stBUSY
  else if 13 ≤ k then s.qnStatus stOK
  else if s.on (F.PIP1_EN p) then s.qnStatus stBUSY
  else (s.regStore (0xC00000 + 64 * p + 4 * k) w).qnStatus stOK

/-! ### Cores as Quince sees them (R75, R97, R167, R172) -/

def frame (c : Core) (f : Nat) : Frame := tabGet Frame.reset c.frames f
def setFrame (c : Core) (f : Nat) (x : Frame) : Core := { c with frames := tabSet natLt Frame.reset c.frames f x }

/-- A frame is locked while it holds the image of the running or the NEXT pip (R75, R173). -/
def frameLocked (c : Core) (f : Nat) : Bool :=
  (match c.p.run with | some r => decide (r.frame = f) | none => false) ||
  (match c.s.run with | some r => decide (r.frame = f) | none => false) ||
  (match c.next with | some r => decide (r.frame = f) | none => false)

/-- Frames whose image was rewritten lose it when they unlock (R172). -/
def unlockFrames (c : Core) : Core :=
  [0, 1, 2, 3].foldl (fun c f =>
    let x := frame c f
    if x.stale ∧ !frameLocked c f then setFrame c f { x with valid := false, stale := false } else c) c

/-- A prefetch abandoned: a frame being loaded holds nothing (R158, R168). -/
def abandonLoad (c : Core) (f : Nat) : Core :=
  let x := frame c f
  if x.loading then setFrame c f { x with loading := false, valid := false } else c

/-- The core takes pips (R167). -/
def takesPips (s : State) (n : Nat) : Bool :=
  let c := s.core n
  !c.frozen && !c.halted && !s.on (F.EC_CTRL_HALT n)

/-- Logical core `n` is in the affinity mask of class `k`. -/
def inClass (s : State) (k n : Nat) : Bool :=
  if n < 32 then natBit (s.get (F.QN_AFF_LO_MASK k)) n else natBit (s.get (F.QN_AFF_HI_MASK k)) (n - 32)

def pipOnCore (s : State) (p n : Nat) : Bool := s.inClass (s.get (F.PIP1_AFF p)) n

/-- Event 44 when a READY pip has no core in its mask that takes pips (R167). -/
def checkCores (s : State) (p : Nat) : State :=
  if (List.range 64).any (fun n => s.pipOnCore p n && s.takesPips n) then s else s.raise 44

/-! ### EVENT pips as their events stand (R152) -/

/-- The runs of a pip on the cores: those in NEXT slots and those running. -/
def pipNext (s : State) (p : Nat) : Bool :=
  (List.range 64).any (fun n => match (s.core n).next with | some r => decide (r.pip = p) | none => false)
def pipRunning (s : State) (p : Nat) : Bool :=
  (List.range 64).any (fun n =>
    (match (s.core n).p.run with | some r => decide (r.pip = p) | none => false) ||
    (match (s.core n).s.run with | some r => decide (r.pip = p) | none => false))

/-- Core `n` holds pip `p` in its NEXT slot or runs it in its primary bank. -/
def pipOn (s : State) (p n : Nat) : Bool :=
  (match (s.core n).next with | some r => decide (r.pip = p) | none => false) ||
  (match (s.core n).p.run with | some r => decide (r.pip = p) | none => false)

/-- STATE and QCOUNT of an EVENT pip brought up to date (R152, word 13). -/
def refreshEvent (s : State) (p : Nat) : State :=
  let mine := s.qn.queue.filter (fun e => decide (e.pip = p))
  let st := if s.pipRunning p then 4 else if s.pipNext p then 3
    else if mine.any (fun e => e.heldBlk.isNone) then 2 else if mine ≠ [] then 5 else 0
  (s.set (F.PIP13_STATE p) st).set (F.PIP13_QCOUNT p) mine.length

/-! ### The event queue (R162 to R166) -/

/-- Queue entries in use (R162): events not yet placed, and voice words the voice manager has not taken. -/
def evqUsed (s : State) : Nat := (s.qn.queue.filter (fun e => e.entry)).length + s.vm.words.length

/-- `QN_EVQ.USED` and `QN_MAXQ` brought up to date; event 40 when HWM is reached. -/
def syncUsed (s : State) : State :=
  let u := s.evqUsed
  let old := s.get F.QN_EVQ_USED
  let t := (s.set F.QN_EVQ_USED u).set F.QN_MAXQ_N (max u (s.get F.QN_MAXQ_N))
  if old < s.get F.QN_EVQ_HWM ∧ s.get F.QN_EVQ_HWM ≤ u then t.raise 40 else t

/-- The queue is full for a post of a level; VOICE posts count as levels 4–15 (R163). -/
def queueFull (s : State) (level : Nat) : Bool :=
  if level < 4 then decide (4096 ≤ s.evqUsed) else decide (4096 ≤ s.evqUsed + s.get F.QN_CTRL_URGRES)

/-- The reason a post is refused, if it is: the lowest code of those that hold (R166). DESIGN CHOICE: log entry 152. -/
def postReason (s : State) (p level : Nat) : Option Nat :=
  if !s.on (F.PIP1_EN p) then some 1
  else if !s.on (F.PIP1_CLASS p) then some 2
  else if level < 4 ∧ s.anySegOutside p then some 3
  else if s.get (F.QN_AFF_LO_MASK (s.get (F.PIP1_AFF p))) = 0 ∧ s.get (F.QN_AFF_HI_MASK (s.get (F.PIP1_AFF p))) = 0
  then some 4 else none

/-- A refusal recorded, with event 41 (R166). -/
def recordRefusal (s : State) (reason src p : Nat) : State :=
  (((s.set F.QN_REFUSE_REASON reason).set F.QN_REFUSE_MASTER src).set F.QN_REFUSE_PIP p).raise 41

/-- The next ready number. -/
def takeReady (s : State) : State := s.set I.QN_RDY (s.get I.QN_RDY + 1)

/-- An event enters the queue: held for its block, or READY, and late when its block is being computed or past (R18,
R165). The period k computes block k − 1 (R159). `entry` says that it takes an entry (R162). -/
def accept (s : State) (p word level src : Nat) (timed : Bool) (entry : Bool := true) : State :=
  let blk := extend48 (word / 2 ^ 80) s.frc / s.blockLen
  let held := timed && decide (s.blockIx < blk + 1)
  let e : QEvent :=
    { pip := p, word := word % 2 ^ 128, level := level, master := src, arr := s.get I.QN_ARR,
      ready := s.get I.QN_RDY, heldBlk := (if held then some blk else none), entry := entry }
  let s := (s.setQueue (s.qn.queue ++ [e])).set I.QN_ARR (s.get I.QN_ARR + 1)
  let s := if held then s else (s.takeReady).checkCores p
  let s := if timed && !held then (s.bump F.QN_LATE_N 1).raise 42 else s
  (s.refreshEvent p).syncUsed

/-- A post that has reached the queue: refused, or accepted (R164, R166). The caller has seen to a full queue. -/
def settlePost (s : State) (p word level src : Nat) (timed : Bool) (entry : Bool := true) : State :=
  match s.postReason p level with
  | some r => s.recordRefusal r src p
  | none => s.accept p word level src timed entry

/-- The level of a post that names none: the pip's GL (R166). -/
def postLevel (s : State) (p : Nat) : Nat := s.get (F.PIP1_GL p)

/-- A post would be held back: acceptable, and the queue is full for it, or an earlier post of its source waits. -/
def wouldHold (s : State) (p src : Nat) : Bool :=
  s.qn.held.any (fun h => decide (h.src = src)) ||
  ((s.postReason p (s.postLevel p)).isNone && s.queueFull (s.postLevel p))

/-- A post of an EVENT pip by a core or a host (R162, R164). -/
def postPip (s : State) (p word src : Nat) (core : Option Nat) : State :=
  if s.wouldHold p src then
    let h : HeldPost := { kind := .pip, src := src, pip := p, level := none, word := word, core := core }
    s.setHeld (s.qn.held ++ [h])
  else s.settlePost p word (s.postLevel p) src (s.on (F.PIP1_TS p))

/-- Held events whose block is now computed, or past, become READY in arrival order (R165). -/
def releaseHeld (s : State) : State :=
  let due (e : QEvent) : Bool := match e.heldBlk with | some b => decide (b + 1 ≤ s.blockIx) | none => false
  s.qn.queue.foldl (fun t e =>
    if due e then
      let q := t.qn.queue.map (fun x =>
        if x.arr = e.arr then { x with ready := t.get I.QN_RDY, heldBlk := none } else x)
      (((t.setQueue q).takeReady).checkCores e.pip).refreshEvent e.pip
    else t) s

/-! ### The block cycle (R156 to R161) -/

/-- The indices of the pips whose EN is set, ascending. -/
def enabledPips (s : State) : List Nat :=
  (s.regs.filter (fun e => decide (e.1.1 = (F.PIP1_EN 0).id) && decide (e.2 ≠ 0))).map (fun e => e.1.2)

/-- The indices of the pips that are armed. -/
def armedPips (s : State) : List Nat :=
  (s.regs.filter (fun e => decide (e.1.1 = (I.PIP_ARM 0).id) && decide (e.2 ≠ 0))).map (fun e => e.1.2)

/-- A GRAPH pip becomes READY (R156, R158); its ready time is a number of its own. DESIGN CHOICE: log entry 150. -/
def makeReady (s : State) (p : Nat) : State :=
  ((((s.set (F.PIP13_STATE p) 2).set (I.PIP_RDY p) (s.get I.QN_RDY))).takeReady).checkCores p

/-- The NEXT slot of a core emptied, its prefetch abandoned. -/
def dropNext (s : State) (n : Nat) : State :=
  let c := s.core n
  match c.next with
  | some r => s.setCore n (unlockFrames (abandonLoad { c with next := none } r.frame))
  | none => s

/-- The GRAPH pips in NEXT slots leave them, and those running are late. -/
def graphLate (s : State) : State :=
  (List.range 64).foldl (fun s n =>
    let c := s.core n
    let s := match c.next with
      | some r => if r.ev.isNone then s.dropNext n else s
      | none => s
    let c := s.core n
    match c.p.run with
    | some r => if r.ev.isNone then s.setCore n { c with p := { c.p with run := some { r with late := true } } } else s
    | none => s) s

/-- The armed pips whose state `gone` names are withdrawn for their block. -/
def disarm (s : State) (gone : Nat → Bool) : State :=
  s.armedPips.foldl (fun s p =>
    if gone (s.get (F.PIP13_STATE p)) then (s.set (I.PIP_ARM p) 0).set (F.PIP13_STATE p) 0 else s) s

/-- At a tick every GRAPH pip not yet started is withdrawn, and none is armed any more for the block before (R158). -/
def withdrawGraph (s : State) : State :=
  let s := s.graphLate.disarm (fun st => decide (st ≠ 4))
  s.armedPips.foldl (fun s p => s.set (I.PIP_ARM p) 0) s

/-- At an overrun the GRAPH pips that are READY or in a NEXT slot are withdrawn; those WAITING are not (R161). -/
def withdrawReady (s : State) : State := s.graphLate.disarm (fun st => decide (st = 2) || decide (st = 3))

/-- Every enabled recurring GRAPH pip is armed for block `j`, and every one-shot not yet run; those with DEP = 0 become READY
in ascending index. A one-shot clears its own EN at its completion; one that is RUN has run (R158).
DESIGN CHOICE: log entry 151. -/
def rearm (s : State) (j : Nat) : State :=
  let s := (s.enabledPips).foldl (fun s p =>
    if s.on (F.PIP1_CLASS p) then s
    else
      let s := s.set (F.PIP13_CNT p) (s.get (F.PIP1_DEP p))
      let again := decide (s.get (F.PIP13_STATE p) ≠ 4) || s.on (F.PIP1_REC p)
      let s := if again then (s.set (I.PIP_ARM p) 1).set (I.PIP_BLK p) j else s
      if s.get (F.PIP13_STATE p) = 4 then s
      else if s.get (F.PIP1_DEP p) = 0 then s.makeReady p
      else s.set (F.PIP13_STATE p) 1) s
  s.set I.QN_ARMBLK (j + 1)

/-- One successor's count decremented (R156). -/
def decrement (s : State) (p j : Nat) : State :=
  if !s.on (F.PIP1_EN p) || s.on (F.PIP1_CLASS p) || !s.on (I.PIP_ARM p) || decide (s.get (I.PIP_BLK p) ≠ j) then s
  else if s.get (F.PIP13_CNT p) = 0 then s.raise 43
  else
    let t := s.set (F.PIP13_CNT p) (s.get (F.PIP13_CNT p) - 1)
    if s.get (F.PIP13_CNT p) = 1 ∧ s.get (F.PIP13_STATE p) ≠ 4 then t.makeReady p else t

/-- The valid entries of a successor list, in order (R155). -/
def successors (s : State) (l : Nat) : List Nat :=
  [0, 1, 2, 3].flatMap (fun w =>
    let x := s.get (I.SLIST (4 * l + w))
    (if natBit x 15 then [natBits x 13 0] else []) ++ (if natBit x 31 then [natBits x 29 16] else []))

/-- A GRAPH pip's completion counted once per block (R156 to R158); a late one decrements nothing (R23, R161). -/
def countCompletion (s : State) (p blk : Nat) (late : Bool) : State :=
  if s.on (I.PIP_DONE p) ∧ s.get (F.PIP14_LASTBLK p) = blk % 2 ^ 32 then s
  else
    let s := (s.set (I.PIP_DONE p) 1).set (F.PIP14_LASTBLK p) blk
    let s := if !late && s.on (F.PIP2_SL p) then
        (s.successors (s.get (F.PIP2_SLIST p))).foldl (fun s q => s.decrement q blk) s
      else s
    if s.on (F.PIP1_REC p) then s else s.set (F.PIP1_EN p) 0

/-- The state of a GRAPH pip after its run ends: armed again for a later block, or IDLE, and armed for its own block until
the next tick, so that a decrement too many is found (R23, R156). -/
def graphAfterRun (s : State) (p blk : Nat) (late : Bool) : State :=
  if late && s.on (I.PIP_ARM p) && decide (s.get (I.PIP_BLK p) ≠ blk) then
    if s.get (F.PIP13_CNT p) = 0 then s.makeReady p else s.set (F.PIP13_STATE p) 1
  else s.set (F.PIP13_STATE p) 0

/-! ### Placement (R167 to R173) -/


/-- The source, DRAM flag, destination and length of segment `k` of a copied pip. -/
def copySeg (c : List Nat) (k : Nat) : Nat × Bool × Nat × Nat :=
  let a := c.getD (5 + 2 * k) 0
  let b := c.getD (6 + 2 * k) 0
  (16 * (a + 2 ^ 32 * natBits b 30 27), natBit b 31, 16 * natBits b 26 13, 16 * natBits b 10 0)

/-- The frame for a pip's image on a core, and whether it must be loaded (R170). DEDUCED: log entry 33. -/
def pickFrame (c : Core) (urgent : Bool) (img : Nat) : Nat × Bool :=
  let allowed := if urgent then [3] else [0, 1, 2]
  match allowed.find? (fun f => (frame c f).valid && decide ((frame c f).image = img) && !(frame c f).stale) with
  | some f => (f, false)
  | none =>
    if urgent then (3, true)
    else
      let free := allowed.filter (fun f => !frameLocked c f)
      match free with
      | [] => (0, true)
      | f :: fs => (fs.foldl (fun b g => if (frame c g).used < (frame c b).used then g else b) f, true)

/-- An image or segment source outside the core's address map or the DRAM (R171). -/
def srcUnmapped (s : State) (dram : Bool) (a n : Nat) : Bool :=
  decide (n ≠ 0) && (if dram then decide (s.dramSize < a + n) else !inOrchard a n)

/-- The first bad source of a placement, if there is one. -/
def badSource (s : State) (r : PipRun) : Option Nat :=
  if r.load && s.srcUnmapped r.idram r.isrc r.ilen then some r.isrc
  else ((List.range 4).map (copySeg r.copy)).findSome? (fun g => if s.srcUnmapped g.2.1 g.1 g.2.2.2 then some g.1 else none)

/-- The first source a placed pip's prefetch may not read (R171, kind OWNER). -/
def unownedSource (s : State) (n : Nat) (r : PipRun) : Option Nat :=
  let bad (dram : Bool) (a len : Nat) : Bool := !dram && !s.rangeAdmits (.core n) a len
  if r.load && bad r.idram r.isrc r.ilen then some r.isrc
  else ((List.range 4).map (copySeg r.copy)).findSome? (fun g => if bad g.2.1 g.1 g.2.2.2 then some g.1 else none)

/-- A source of a prefetch lies in a bank that is being handed over (R255). -/
def sourcePending (s : State) (r : PipRun) : Bool :=
  (r.load && !r.idram && s.rangePending r.isrc r.ilen) ||
    ((List.range 4).map (copySeg r.copy)).any (fun g => !g.2.1 && s.rangePending g.1 g.2.2.2)

/-- A rotation in COPY of core `n` is abandoned and its spare freed (R403, R414). -/
def dropRotation (s : State) (n : Nat) : State :=
  if s.get (F.MDL_MAP_PHASE n) = 1 then
    (((s.set (I.PC_BUSY (s.get (F.MDL_MAP_SPARE n))) 0).set (F.MDL_MAP_PHASE n) 0).set (F.MDL_MAP_SPARE n) 0).set I.ROT_N 0
  else s

/-- A core frozen with its DMA (R399), by a violation of kind `kind`. -/
def freezeCore (s : State) (n kind pip addr pc : Nat) : State :=
  let c := s.core n
  let s := if n < 64 then s.dropRotation n else s
  (s.violate (s.masterOf n) kind (b2n c.shadow) pip addr pc).setCore n { c with frozen := true }

/-- A pip whose prefetch violates leaves the NEXT slot disabled, and its core is frozen (R171). -/
def prefetchViolation (s : State) (n : Nat) (r : PipRun) (kind addr : Nat) : State :=
  let s := s.dropNext n
  let s := s.set (F.PIP1_EN r.pip) 0
  let s := if r.ev.isNone then (s.set (F.PIP13_STATE r.pip) 0).set (I.PIP_ARM r.pip) 0 else s.refreshEvent r.pip
  s.freezeCore n kind r.pip addr (s.core n).p.pc

/-- A pip put in the NEXT slot of core `n`, its image and segments under way, or refused by R171's checks. -/
def place (s : State) (n p : Nat) (ev : Option QEvent) (ready : Nat) : State :=
  let c := s.core n
  let urgent := match ev with | some e => decide (e.level < 4) | none => false
  let copy := s.pipWords p
  let img := natBits (copy.getD 0 0) 31 16
  let (f, load) := pickFrame c urgent img
  let r : PipRun :=
    { pip := p, copy := copy, blk := s.get (I.PIP_BLK p), ev := ev.map (fun e => { e with entry := false }), ready := ready,
      frame := f, landed := false, posts := 0, skip := 0, reruns := 0, level := none, ended := false, qdone := false,
      late := false, load := load,
      isrc := 16 * (s.get (F.QN_IMG0_SRCW img) + 2 ^ 32 * s.get (F.QN_IMG1_SRCWH img)),
      idram := s.on (F.QN_IMG1_D img), ilen := 16 * s.get (F.QN_IMG1_LENW img), events := [],
      cut := false }
  let x := frame c f
  let c := if load then setFrame c f { x with valid := false, loading := true, image := img, stale := false } else c
  let s := (s.setCore n { c with next := some r }).set (I.EC_WORK n) 1
  let s := if ev.isNone then s.set (F.PIP13_STATE p) 3 else (s.refreshEvent p).syncUsed
  match s.badSource r with
  | some a => s.prefetchViolation n r 2 a
  | none => s

/-- An event taken out of the queue. -/
def unqueue (s : State) (e : QEvent) : State :=
  s.setQueue (s.qn.queue.filter (fun x => !decide (x.arr = e.arr)))

/-- A READY event of a disabled pip is discarded at dispatch and recorded (R154, R166). -/
def discardEvent (s : State) (e : QEvent) : State :=
  ((((s.unqueue e).recordRefusal 1 e.master e.pip).refreshEvent e.pip).syncUsed)

/-- A pip in a NEXT slot that has not started returns to its group or level, its ready time unchanged (R168). -/
def returnNext (s : State) (n : Nat) : State :=
  match (s.core n).next with
  | none => s
  | some r =>
    let s := s.dropNext n
    match r.ev with
    | some e => (s.setQueue (s.qn.queue ++ [e])).refreshEvent e.pip
    | none => s.set (F.PIP13_STATE r.pip) 2

/-- An EVENT pip with SER = 1 that is in a NEXT slot or running blocks its other events (R167). -/
def serBlocked (s : State) (p : Nat) : Bool := s.on (F.PIP1_SER p) && (s.pipNext p || s.pipRunning p)

/-- READY events of the urgent levels, or of levels 4–15, best first: lowest level, then oldest. -/
def readyEvents (s : State) (urgent : Bool) : List QEvent :=
  let es := s.qn.queue.filter (fun e => e.heldBlk.isNone && (decide (e.level < 4) == urgent) && !s.serBlocked e.pip)
  let key (e : QEvent) : Nat := if urgent then e.ready else e.arr
  es.foldr (fun e acc =>
    let before (a : QEvent) : Bool := decide (a.level < e.level) || (decide (a.level = e.level) && decide (key a < key e))
    acc.filter before ++ [e] ++ acc.filter (fun a => !before a)) []

/-- `EC_STAT.STATE` of a core (R101). DEDUCED: log entry 20. -/
def coreState (s : State) (n : Nat) : Nat :=
  let c := s.core n
  let b := if c.shadow then c.s else c.p
  if c.frozen then 5
  else if c.halted then 4
  else match b.run with
    | some r =>
      if !r.landed then 3
      else if c.stall || c.heldPost || b.load.isSome then 2 else 1
    | none => if c.next.isSome then 3 else 0

/-- How well a core suits an urgent pip (R168): smaller is better; none if it does not qualify. -/
def urgentRank (s : State) (p n : Nat) : Option Nat :=
  let c := s.core n
  let urgentNext := match c.next with
    | some r => (match r.ev with | some e => decide (e.level < 4) | none => false)
    | none => false
  if !s.pipOnCore p n || !s.takesPips n || c.shadow || c.s.run.isSome || urgentNext then none
  else match s.coreState n with
    | 0 => some n
    | 3 => some (64 + n)
    | _ => some (128 + n)

/-- The best core for an urgent pip. -/
def urgentCore (s : State) (p : Nat) : Option Nat :=
  ((List.range 64).filterMap (s.urgentRank p)).foldl (fun b r =>
    match b with | some x => some (min x r) | none => some r) none |>.map (fun r => r % 64)

/-- The urgent placement of the first READY urgent event with a qualifying core (R168); events of disabled pips are
discarded as they reach dispatch. -/
def placeUrgent (s : State) : State :=
  (s.readyEvents true).foldl (fun (acc : State × Bool) e =>
    let (s, done) := acc
    if done then (s, true)
    else if !s.on (F.PIP1_EN e.pip) then (s.discardEvent e, false)
    else match s.urgentCore e.pip with
      | some n => (((s.returnNext n).unqueue e).place n e.pip (some e) e.ready, true)
      | none => (s, false)) (s, false) |>.1

/-- The READY GRAPH pips of group `g` that core `n` may run, best first: ready time, then index (R169). -/
def readyGraph (s : State) (g n : Nat) : Option Nat :=
  (s.armedPips.filter (fun p => decide (s.get (F.PIP13_STATE p) = 2) && decide (s.get (F.PIP1_GL p) = g) &&
    !s.on (F.PIP1_CLASS p) && s.pipOnCore p n)).foldl (fun b p =>
      match b with
      | some q => if s.get (I.PIP_RDY p) < s.get (I.PIP_RDY q) then some p else some q
      | none => some p) none

/-- The best READY event of levels 4–15 for core `n` (R169), none while HOLDEV is set. -/
def readyEvent (s : State) (n : Nat) : Option QEvent :=
  if s.on F.QN_CTRL_HOLDEV then none else (s.readyEvents false).find? (fun e => s.pipOnCore e.pip n)

/-- The weight of group `g`, 16 being the EV group. -/
def grpWeight (s : State) (g : Nat) : Nat := if g < 16 then s.get (F.QN_GRPW_W g) else s.get F.QN_EVW_W

/-- The smooth weighted round-robin decision for core `n` (R169): the chosen group and the credits after it. -/
def rrDecide (s : State) (n : Nat) : Option (Nat × List (Nat × Int)) :=
  let elig (g : Nat) : Bool := if g < 16 then (s.readyGraph g n).isSome else (s.readyEvent n).isSome
  let gs := (List.range 17).filter elig
  let cur := gs.foldl (fun cur g => tabSet natLt 0 cur g (tabGet 0 cur g + (s.grpWeight g : Int))) s.qn.cur
  let total : Int := gs.foldl (fun t g => t + (s.grpWeight g : Int)) 0
  match gs with
  | [] => none
  | g0 :: gt =>
    let best := gt.foldl (fun b g => if tabGet 0 cur b < tabGet 0 cur g then g else b) g0
    some (best, tabSet natLt 0 cur best (tabGet 0 cur best - total))

/-- An urgent event waits for this core. -/
def urgentWaiting (s : State) (n : Nat) : Bool := (s.readyEvents true).any (fun e => s.pipOnCore e.pip n)

/-- The events of disabled pips that stand first for core `n` reach dispatch there and are discarded (R154).
DESIGN CHOICE: log entry 153. -/
def purgeDisabled (n : Nat) : Nat → State → State
  | 0, s => s
  | k + 1, s =>
    match s.readyEvent n with
    | some e => if s.on (F.PIP1_EN e.pip) then s else purgeDisabled n k (s.discardEvent e)
    | none => s

/-- The placement decision for the empty NEXT slot of core `n` (R169). -/
def placeRoundRobin (s : State) (n : Nat) : State :=
  if (s.core n).next.isSome || !s.takesPips n || s.urgentWaiting n then s
  else
    let s := purgeDisabled n s.qn.queue.length s
    match s.rrDecide n with
    | none => s
    | some (g, cur) =>
      let t := { s with qn := { s.qn with cur := cur } }
      if g < 16 then
        match s.readyGraph g n with
        | some p => t.place n p none (s.get (I.PIP_RDY p))
        | none => s
      else match s.readyEvent n with
        | some e => (t.unqueue e).place n e.pip (some e) e.ready
        | none => s

/-- The segments of a placed pip copied into DMEM (R170). -/
def landSegs (s : State) (r : PipRun) (d : Mem) : Mem :=
  (List.range 4).foldl (fun d k =>
    let g := copySeg r.copy k
    memWrite d g.2.2.1 (s.srcBytes g.2.1 g.1 g.2.2.2)) d

/-- The errors left in DMEM once the segments of a placed pip are written (R262). -/
def landFlaws (r : PipRun) (fs : List Flaw) : List Flaw :=
  (List.range 4).foldl (fun fs k =>
    let g := copySeg r.copy k
    mendRange fs 4 g.2.2.1 g.2.2.2) fs

/-- A pip's image and segments land (R170). -/
def landRun (s : State) (c : Core) (r : PipRun) : Core :=
  let c := if r.load then
      setFrame { c with imem := memWrite c.imem (r.frame * 0x4000) (s.srcBytes r.idram r.isrc r.ilen) } r.frame
        { frame c r.frame with valid := true, loading := false }
    else c
  { c with dmem := s.landSegs r c.dmem, flaws := landFlaws r c.flaws }

/-! ### Registers -/

/-- A write of `QN_DEADLINE` (R160). -/
def deadlineSet (s : State) (w : Nat) : State :=
  if w < 1024 ∨ s.blockCycles - 1024 < w then s.qnStatus stBADARG
  else ((s.set F.QN_DEADLINE_V w).set F.QN_STAT_CLAMP 0).qnStatus stOK

/-- A write of `QN_SLIST_DATA[w]`: words 0–2 staged, word 3 commits the list (R155); a word not staged stays as it is.
DESIGN CHOICE: log entry 141. -/
def slistSet (s : State) (m : Master) (k w : Nat) : State :=
  let w := w &&& 0xBFFFBFFF
  if k < 3 then (s.stage m.id (0x500C4 + 4 * k) w).qnStatus stOK
  else
    let l := s.get F.QN_SLIST_IDX_I
    (([0, 1, 2].foldl (fun s j => s.takeStaged m.id (0x500C4 + 4 * j) (I.SLIST (4 * l + j))) s).set (I.SLIST (4 * l + 3)) w
      ).qnStatus stOK

/-- A write of an affinity mask: LO staged, HI commits both. DESIGN CHOICE: log entry 141. -/
def affSet (s : State) (m : Master) (k : Nat) (hi : Bool) (w : Nat) : State :=
  if hi then ((s.takeStaged m.id (0x50080 + 8 * k) (F.QN_AFF_LO_MASK k)).set (F.QN_AFF_HI_MASK k) w).qnStatus stOK
  else (s.stage m.id (0x50080 + 8 * k) w).qnStatus stOK

/-- Every frame that holds image `i`, or is loading it, loses it, the locked ones when they unlock (R172). -/
def dropImage (s : State) (i : Nat) : State :=
  (List.range 64).foldl (fun s n =>
    let c := s.core n
    s.setCore n (unlockFrames ([0, 1, 2, 3].foldl (fun c f =>
      let x := frame c f
      if (x.valid ∨ x.loading) ∧ x.image = i then setFrame c f { x with stale := true } else c) c))) s

/-- A write of `QN_IMG[i]`: word 0 staged, word 1 applies the entry (R172). DESIGN CHOICE: log entry 141. -/
def imgSet (s : State) (m : Master) (i : Nat) (k w : Nat) : State :=
  let a := 0x58000 + 8 * i
  if k = 0 then (s.stage m.id a w).qnStatus stOK
  else if 1024 < natBits w 10 0 ∨ (natBit w 31 = false ∧ natBits w 30 27 ≠ 0) then s.qnStatus stBADARG
  else
    (((s.takeStaged m.id a (F.QN_IMG0_SRCW i)).puts [F.QN_IMG1_D i, F.QN_IMG1_SRCWH i, F.QN_IMG1_LENW i] w
      ).dropImage i).qnStatus stOK

/-- The event word a master has staged in `QN_POST_W`. -/
def stagedQuad (s : State) (m : Master) (a : Nat) : Nat :=
  quad (s.stagedWord m.id a) (s.stagedWord m.id (a + 4)) (s.stagedWord m.id (a + 8)) (s.stagedWord m.id (a + 12))

/-- A plain `QN_` register written with its check. -/
def qnPlain (s : State) (a w : Nat) : State :=
  if a = 0x50000 ∧ 1024 < F.QN_CTRL_URGRES.of w then s.qnStatus stBADARG
  else if (a = 0x5000C ∨ (0x50040 ≤ a ∧ a < 0x50080)) ∧ w % 256 = 0 then s.qnStatus stBADARG
  else s.plainStore a w (fun s => s.qnStatus stOK)

/-- A host's post of the staged word to an EVENT pip (R162); the SPI host is told to repeat instead of being held. -/
def hostPost (s : State) (m : Master) (p : Nat) : State :=
  let w := s.stagedQuad m 0x50100
  if m = .spi ∧ s.wouldHold p m.id then s
  else (s.mirrorPost m (.post m (Fin.ofNat 16384 p) (BitVec.ofNat 128 w)) (fun s => s.postPip p w m.id none)).qnStatus stOK

/-! ### Halting (R101, R167) -/

/-- A write of `EC_CTRL` (R101): HALT withdraws the NEXT pip, and the core halts once nothing runs. -/
def coreCtrlSet (s : State) (n w : Nat) : State :=
  if natBit w 0 then
    let pip := (s.core n).next.map (fun r => r.pip)
    let s := (s.set (F.EC_CTRL_HALT n) 1).returnNext n
    let c := s.core n
    let s := if c.p.run.isNone ∧ c.s.run.isNone then s.setCore n { c with halted := true } else s
    match pip with
    | some p => s.checkCores p
    | none => s
  else
    let s := s.set (F.EC_CTRL_HALT n) 0
    s.setCore n { s.core n with halted := false, swiStop := false }

end State

/-! ### The commands -/

def execCoreHalt (m : Master) (c : Fin 64) (s : State) : Out :=
  .next (s.guardWrite m (0x200000 + 0x4000 * c) 1 (fun s => s.coreCtrlSet c 1))
def execCoreResume (m : Master) (c : Fin 64) (s : State) : Out :=
  .next (s.guardWrite m (0x200000 + 0x4000 * c) 0 (fun s => s.coreCtrlSet c 0))

def execPipWrite (m : Master) (p : Fin 16384) (k : Fin 16) (w : Word) (s : State) : Out :=
  .next (s.guardWrite m (0xC00000 + 64 * p + 4 * k) w.toNat (fun s => s.pipWord p k w.toNat))
/-- The write of word 1 with EN = 1. -/
def execPipEnable (m : Master) (p : Fin 16384) (w : Word) (s : State) : Out :=
  let w := (w ||| 0x20000000).toNat
  .next (s.guardWrite m (0xC00000 + 64 * p + 4) w (fun s => s.pipWord1 p w))
/-- The write of word 1 with EN = 0, its other fields as they stand. -/
def execPipDisable (m : Master) (p : Fin 16384) (s : State) : Out :=
  let w := s.regWord (0xC00000 + 64 * p + 4) &&& (2 ^ 32 - 1 ^^^ 2 ^ 29)
  .next (s.guardWrite m (0xC00000 + 64 * p + 4) w (fun s => s.pipWord1 p w))

def execSlistCommit (m : Master) (w : Word) (s : State) : Out :=
  .next (s.guardWrite m 0x500D0 w.toNat (fun s => s.slistSet m 3 w.toNat))
def execAffinityCommit (m : Master) (c : Fin 8) (w : Word) (s : State) : Out :=
  .next (s.guardWrite m (0x50084 + 8 * c) w.toNat (fun s => s.affSet m c true w.toNat))
def execQnDeadlineWrite (m : Master) (w : Word) (s : State) : Out :=
  .next (s.guardWrite m 0x50008 w.toNat (fun s => s.deadlineSet w.toNat))
def execQnImgWrite (m : Master) (i : Fin 1024) (w : Word) (s : State) : Out :=
  .next (s.guardWrite m (0x58004 + 8 * i) w.toNat (fun s => s.imgSet m i 1 w.toNat))

def execHostPostPip (m : Master) (p : Fin 16384) (s : State) : Out :=
  .next (s.guardWrite m 0x50110 p.val (fun s => s.hostPost m p))

def execUrgentPlacement (s : State) : Out := .next s.placeUrgent
def execRoundRobinPlacement (c : Fin 64) (s : State) : Out := .next (s.placeRoundRobin c)

end Sys2Proof.Machine
end

