-- ==== Sys2Proof/Machine/Params.lean ====
section
/-! DEFINITION. The parameter store, ramps and parameter commands (R226 to R235). Recalls stand in
Machine/Recall.lean. A parameter's VALUE and SLOPE are computed from its curve for the block being computed, which is the
line the scene engine prepared (R227, R228). -/

namespace Sys2Proof.Machine

def Curve.reset : Curve := { base := 0, segs := [] }



/-- A piece of a curve at sample `t`, at or after its start (R230). Shapes 2–6 lie within R230's bound of
their ideal curve. -/
def Seg.at (g : Seg) (t : Nat) : Int :=
  if g.shape = 0 ∨ g.len = 0 ∨ g.n + g.len ≤ t then g.v1
  else if g.shape = 1 then g.v0 + rndDiv ((g.v1 - g.v0) * ((t - g.n : Nat) : Int)) g.len
  else rampAt g.shape (t - g.n) g.len g.v0 g.v1

/-- The curve at sample `t`: its last piece begun, else the value before it (R228). -/
def Curve.at (c : Curve) (t : Nat) : Int :=
  match (c.segs.filter (fun g => decide (g.n ≤ t))).getLast? with
  | some g => g.at t
  | none => c.base

/-- The curve holds a ramp that is not yet freed when the block from `f` is prepared (R233). -/
def Curve.ramping (c : Curve) (f : Nat) : Bool :=
  match c.segs.getLast? with
  | some g => decide (g.shape ≠ 0) && decide (g.len ≠ 0) && decide (f < g.n + g.len)
  | none => false

/-- A new piece from `n`: it replaces every piece from there on (R231). -/
def Curve.put (c : Curve) (g : Seg) : Curve :=
  { c with segs := c.segs.filter (fun x => decide (x.n < g.n)) ++ [g] }

/-- The pieces no sample from `f` on needs dropped. -/
def Curve.trim (c : Curve) (f : Nat) : Curve :=
  match (c.segs.filter (fun g => decide (g.n + g.len ≤ f))).getLast? with
  | some g => { base := g.v1, segs := c.segs.filter (fun x => decide (g.n < x.n)) }
  | none => c

namespace State

def curve (s : State) (k : Nat) : Curve := tabGet Curve.reset s.scn.curves k
def setCurve (s : State) (k : Nat) (c : Curve) : State :=
  { s with scn := { s.scn with curves := tabSet natLt Curve.reset s.scn.curves k c } }

/-- The first sample of the block being computed, and of the block being prepared (R159, R227). -/
def computedFrom (s : State) : Nat := (s.blockIx - 1) * s.blockLen
def preparedFrom (s : State) : Nat := s.blockIx * s.blockLen

/-- Blocks are being prepared: RUNNING, or STARTING once landing has begun (R232). -/
def preparing (s : State) : Bool :=
  decide (s.get F.SYS_ENGINE_STATE = 2) || (decide (s.get F.SYS_ENGINE_STATE = 1) && s.on I.ENG_LANDED)

/-- VALUE and SLOPE of a parameter for the block being computed (R226, R228). DEDUCED: log entry 31. -/
def prmValue (s : State) (k : Nat) : Nat := wrap 32 ((s.curve k).at s.computedFrom)
def prmSlope (s : State) (k : Nat) : Nat :=
  wrap 32 (rndDiv ((s.curve k).at (s.computedFrom + s.blockLen - 1) - (s.curve k).at s.computedFrom) (s.blockLen - 1))

/-- Ramps in use (`SCN_RAMPS.ACTIVE`), and those of the voice manager among them. -/
def rampsActive (s : State) : Nat := (s.scn.curves.filter (fun e => e.2.ramping s.preparedFrom)).length
def rampsVm (s : State) : Nat :=
  (s.scn.curves.filter (fun e => e.2.ramping s.preparedFrom &&
    (match e.2.segs.getLast? with | some g => g.vm | none => false))).length

/-- Ramps free for commands: 7936 less those in use and those reserved (R233). -/
def rampsFree (s : State) : Nat :=
  7936 - (s.rampsActive - s.rampsVm) - (match s.scn.rcl with | some r => r.reserved | none => 0)

def scnStatus (s : State) (v : Nat) : State := s.set F.SCN_STAT_STATUS v

/-- A command refused and recorded, with event 58 (R229, R233, R235, R238). -/
def refuseCmd (s : State) (reason src index : Nat) : State :=
  (((s.set F.SCN_REFUSE_REASON reason).set F.SCN_REFUSE_MASTER src).set F.SCN_REFUSE_INDEX index).raise 58

/-- A parameter set at once, without a ramp (R232). -/
def prmSet (s : State) (k : Nat) (v : Int) : State := s.setCurve k { base := v, segs := [] }

/-- A parameter's held commands without those that arrived before `c` and start at or after it (R231). -/
def supersede (cs : List PCmd) (c : PCmd) : List PCmd :=
  let before := cs.takeWhile (fun x => decide (x ≠ c))
  before.filter (fun x => !(decide (x.prm = c.prm) && decide (c.n ≤ x.n))) ++ cs.drop before.length

/-- A command applied to its parameter's curve from `n` (R231, R233); `extra` ramps are reserved for it. -/
def applyCmd (s : State) (c : PCmd) (extra : Nat) : State :=
  if !s.preparing then s.prmSet c.prm c.v1
  else
    let cur := (s.curve c.prm).trim s.computedFrom
    let needs := decide (c.shape ≠ 0) && decide (c.len ≠ 0) && !cur.ramping s.preparedFrom
    if needs && decide (s.rampsFree + extra = 0) then s.refuseCmd 2 c.src c.prm
    else
      let s := { s with scn := { s.scn with cmds := supersede s.scn.cmds c } }
      let v0 := cur.at c.n
      s.setCurve c.prm (cur.put { n := c.n, v0 := v0, v1 := c.v1, len := c.len, shape := c.shape, vm := false })

/-- A request of the voice manager, applied at once (R235). -/
def vmRamp (s : State) (k n : Nat) (v1 : Int) (len shape : Nat) : State :=
  if !s.preparing then s.prmSet k v1
  else
    let cur := (s.curve k).trim s.computedFrom
    s.setCurve k (cur.put { n := n, v0 := cur.at n, v1 := v1, len := len, shape := shape, vm := true })

/-- A fade ramp abandoned: the value it has reached at the first sample being prepared is held (R235). -/
def abandonRamp (s : State) (k : Nat) : State :=
  let cur := s.curve k
  if cur.ramping s.preparedFrom then
    s.setCurve k (cur.put { n := s.preparedFrom, v0 := cur.at s.preparedFrom, v1 := cur.at s.preparedFrom, len := 0,
                            shape := 0, vm := false })
  else s

/-- The length L = M × 8^E of a command's entry word 0. -/
def entryLen (w0 : Nat) : Nat := natBits w0 25 16 * 8 ^ natBits w0 27 26

/-- A parameter entry word 0 that matches R230 and R236: KIND 0, a shape other than 7, and SET without a length. -/
def entryOk (w0 : Nat) : Bool :=
  !natBit w0 31 && decide (natBits w0 30 28 ≠ 7) && (decide (natBits w0 30 28 ≠ 0) || decide (natBits w0 27 16 = 0))

/-- The parameter is a gain of the voice manager's slots, kept for it while it is not OFF (R235). -/
def vmGain (s : State) (k : Nat) : Bool :=
  decide (s.get F.VM_STAT_STATE ≠ unitOFF) && decide (s.get F.VM_BASE_GAINBASE ≤ k) &&
  decide (k < s.get F.VM_BASE_GAINBASE + s.get F.VM_CTRL_SLOTS)

/-- A scene command word that R229's table does not allow. -/
def cmdBad (w : Nat) : Bool :=
  let w0 := natBits w 63 32
  decide (natBits w 71 65 ≠ 0) ||
  (if natBits w 79 72 = 1 then !entryOk w0
   else if natBits w 79 72 = 2 then decide (natBits w0 31 10 ≠ 0) || decide (natBits w 31 0 ≠ 0)
   else true)

/-- The command store is full (R234). -/
def storeFull (s : State) : Bool := decide (4096 ≤ s.scn.cmds.length)

/-- Held commands whose block is prepared apply, in arrival order (R231, R232). -/
def applyDue (s : State) : State :=
  (s.scn.cmds.filter (fun c => decide (c.n / s.blockLen ≤ s.blockIx))).foldl (fun s c =>
    if s.scn.cmds.contains c then
      let s := s.applyCmd c 0
      { s with scn := { s.scn with cmds := s.scn.cmds.erase c } }
    else s) s

/-- A post that has found no room waits behind the others (R234). -/
def waitCmd (s : State) (src w : Nat) : State :=
  { s with scn := { s.scn with waiting := s.scn.waiting ++ [(src, w)] } }

/-- A PARAM command accepted, or kept waiting while the store has no room to hold it (R229 to R235). -/
def paramNow (s : State) (src w : Nat) : State :=
  let w0 := natBits w 63 32
  if cmdBad w || decide (natBits w 79 72 ≠ 1) then s.refuseCmd 1 src (natBits w 47 32)
  else
    let k := natBits w0 15 0
    if s.vmGain k then s.refuseCmd 3 src k
    else
      let c (n : Nat) : PCmd :=
        { prm := k, n := n, v1 := sint 32 (natBits w 31 0), len := entryLen w0, shape := natBits w0 30 28, src := src }
      if !s.preparing then s.applyCmd (c s.frc) 0
      else if natBit w 64 then s.applyDue.applyCmd (c s.preparedFrom) 0
      else
        let n := extend48 (w / 2 ^ 80) s.frc
        if n < s.preparedFrom then ((s.applyDue.bump F.SCN_LATE_N 1).raise 59).applyCmd (c s.preparedFrom) 0
        else if n / s.blockLen = s.blockIx then s.applyDue.applyCmd (c n) 0
        else if s.storeFull then s.waitCmd src w
        else { s with scn := { s.scn with cmds := s.scn.cmds ++ [c n] } }

/-- A PARAM command of a source: it does not pass one of the same source that waits. DESIGN CHOICE: log entry 159. -/
def paramCmd (s : State) (src w : Nat) : State :=
  if s.scn.waiting.any (fun x => decide (x.1 = src)) then s.waitCmd src w else s.paramNow src w

/-- The posts that wait are taken up again, in their order (R234). -/
def paramRetry (s : State) : State :=
  s.scn.waiting.foldl (fun s x => s.paramCmd x.1 x.2) { s with scn := { s.scn with waiting := [] } }

/-- The held commands of the block being prepared apply, and those that waited for room come in. -/
def applyHeld (s : State) : State := s.applyDue.paramRetry

/-- The flush at the entry to STOPPING: every ramp ends at its target, and every held command applies, each with VALUE v1
and SLOPE 0 at once (R232). -/
def flushParams (s : State) : State :=
  let fin (c : Curve) : Int := match c.segs.getLast? with | some g => g.v1 | none => c.base
  let s := (s.scn.curves.filter (fun e => e.2.segs ≠ [])).foldl (fun s e => s.prmSet e.1 (fin e.2)) s
  let s := s.scn.cmds.foldl (fun s c => s.prmSet c.prm c.v1) s
  { s with scn := { s.scn with cmds := [] } }.paramRetry

/-- The pieces that no block from the present one on needs are dropped at a tick. -/
def trimCurves (s : State) : State :=
  (s.scn.curves.filter (fun e => e.2.segs ≠ [])).foldl (fun s e => s.setCurve e.1 (e.2.trim s.computedFrom)) s

/-- A write of `SCN_DIR[s]`: word 0 staged, word 1 applies the entry. -/
def dirSet (s : State) (m : Master) (i k w : Nat) : State :=
  let a := 0x78000 + 8 * i
  let busy := match s.scn.rcl with | some r => decide (r.scene = i) | none => false
  if busy then s.scnStatus stBADARG
  else if k = 0 then (s.stage m.id a w).scnStatus stOK
  else if (natBit w 31 = false ∧ natBits w 30 27 ≠ 0) ∨ 65536 < natBits w 16 0 then s.scnStatus stBADARG
  else ((s.takeStaged m.id a (F.SCN_DIR0_SRCW i)).puts
      [F.SCN_DIR1_D i, F.SCN_DIR1_SRCWH i, F.SCN_DIR1_COUNT i] w).scnStatus stOK

end State

/-! ### The commands -/

def execParamCommand (src : BitVec 8) (w : Quad) (s : State) : Out := .next (s.paramCmd src.toNat w.toNat)

end Sys2Proof.Machine
end

