-- ==== Sys2Proof/Machine/Phasor.lean ====
section
/-! DEFINITION. The phasor bank (R198 to R201). -/

namespace Sys2Proof.Machine

namespace State

/-- The state of phasor `p` at the first sample of the block being computed, as integers (R198). -/
def phP (s : State) (p : Nat) : Int := (s.get (I.PH_P p) : Int)
def phD (s : State) (p : Nat) : Int := sint 48 (s.get (I.PH_D p))
def phG (s : State) (p : Nat) : Int := sint 32 (s.get (I.PH_G p))

/-- `step(t)`, signed 48-bit, and `phase(t)`, unsigned 48-bit (R199). -/
def phStep (s : State) (p : Nat) (t : Int) : Int := sint 48 (wrap 48 (s.phD p + s.phG p * t))
def phPhase (s : State) (p : Nat) (t : Int) : Nat := wrap 48 (s.phP p + s.phD p * t + s.phG p * t * (t + 1) / 2)

/-- A phasor's state replaced. -/
def phSet (s : State) (p : Nat) (P D G : Int) : State :=
  ((s.set (I.PH_P p) (wrap 48 P)).set (I.PH_D p) (wrap 48 D)).set (I.PH_G p) (wrap 32 G)

/-- The P that makes the phase at `o` equal to `ph` (R200). -/
def phBack (ph D G o : Int) : Int := ph - D * o - G * o * (o + 1) / 2

/-- A phasor command applied at offset `o` (R200). -/
def phApply (s : State) (w : Nat) (o : Int) : State :=
  let p := natBits w 60 48
  let v := natBits w 47 0
  let D := s.phD p
  let G := s.phG p
  match natBits w 79 72 with
  | 0x10 => s.phSet p (phBack v D G o) D G
  | 0x11 =>
    let D' := sint 48 v - G * o
    s.phSet p (phBack (s.phPhase p o) D' G o) D' G
  | _ =>
    let G' := sint 32 (natBits w 47 16)
    let D' := s.phStep p o - G' * o
    s.phSet p (phBack (s.phPhase p o) D' G' o) D' G'

/-- The phasors advance and commands wait for their blocks only while the graph is computed (R201). -/
def phRunning (s : State) : Bool := decide (s.get I.QN_ARMBLK = s.blockIx) && decide (s.blockIx ≠ 0)

/-- A phasor command at acceptance: applied, or held for its block (R200, R201). -/
def phCommand (s : State) (w : Nat) : State :=
  let n := extend48 (w / 2 ^ 80) s.frc
  if !s.phRunning then s.phApply w 0
  else if s.blockIx ≤ n / s.blockLen then { s with vm := { s.vm with phasor := s.vm.phasor ++ [w] } }
  else s.phApply w ((n : Int) - (s.computedFrom : Int))

/-- Held phasor commands whose block is computed apply, in arrival order (R200). -/
def phRelease (s : State) : State :=
  s.vm.phasor.foldl (fun s w =>
    let n := extend48 (w / 2 ^ 80) s.frc
    if n / s.blockLen < s.blockIx then
      ({ s with vm := { s.vm with phasor := s.vm.phasor.erase w } }).phApply w ((n : Int) - (s.computedFrom : Int))
    else s) s

/-- At STOPPED every held phasor command applies with o = 0 (R201). -/
def phFlush (s : State) : State :=
  { s.vm.phasor.foldl (fun s w => s.phApply w 0) s with vm := { s.vm with phasor := [] } }

/-- The phasors with a step or slope: only these move. -/
def phMoving (s : State) : List Nat :=
  ((s.regs.filter (fun e => decide (e.1.1 = (I.PH_D 0).id) || decide (e.1.1 = (I.PH_G 0).id))).map
    (fun e => e.1.2)).eraseDups

/-- The next block's start state becomes current (R199). -/
def phAdvance (s : State) : State :=
  s.phMoving.foldl (fun s p => s.phSet p (s.phPhase p s.blockLen) (s.phStep p s.blockLen) (s.phG p)) s

/-! ### The table (R198, R201) -/

/-- Word `k` of a phasor's entry. -/
def phWord (s : State) (p k : Nat) : Nat :=
  let P := s.get (I.PH_P p)
  let D := s.get (I.PH_D p)
  match k with
  | 0 => P % 2 ^ 32
  | 1 => D % 2 ^ 16 * 2 ^ 16 + P / 2 ^ 32
  | 2 => D / 2 ^ 16
  | _ => s.get (I.PH_G p)

/-- Word `k` of phasor `p` as the master has staged it, if it has. -/
def phStaged (s : State) (m : Master) (p k : Nat) : Nat := (s.stagedAt m.id (0x400000 + 16 * p + 4 * k)).getD (s.phWord p k)

/-- The master's staging of every phasor but `p`, or of all, dropped. -/
def phUnstage (s : State) (m : Master) (keep : Option Nat) : State :=
  { s with staged := s.staged.filter (fun e =>
      !(decide (e.1.2 = m.id) && decide (0x400000 ≤ e.1.1) && decide (e.1.1 < 0x420000) &&
        decide (keep ≠ some ((e.1.1 - 0x400000) / 16)))) }

/-- A direct write of word `k` of phasor `p` (R201). -/
def phDirect (s : State) (m : Master) (p k w : Nat) : State :=
  if k < 3 then (s.phUnstage m (some p)).stage m.id (0x400000 + 16 * p + 4 * k) w
  else
    let w0 := s.phStaged m p 0
    let w1 := s.phStaged m p 1
    let w2 := s.phStaged m p 2
    let own := (s.staged.filter (fun e => decide (e.1.2 = m.id) && decide ((e.1.1 - 0x400000) / 16 = p) &&
      decide (0x400000 ≤ e.1.1) && decide (e.1.1 < 0x420000)))
    let s := if own = [] then s else s.phUnstage m none
    s.phSet p (w0 + 2 ^ 32 * (w1 % 2 ^ 16)) (w1 / 2 ^ 16 + 2 ^ 16 * w2) (sint 32 w)

end State

/-! ### The commands -/

def execPhasorHeldApply (s : State) : Out := .next s.phRelease
/-- The write of word 3, which applies the master's staging (R201). -/
def execPhasorDirectWrite (m : Master) (p : Fin 8192) (w : Word) (s : State) : Out :=
  .next (s.guardWrite m (0x400000 + 16 * p + 12) w.toNat (fun s => s.phDirect m p 3 w.toNat))

end Sys2Proof.Machine
end

