-- ==== Sys2Proof/Machine/Voice.lean ====
section
/-! DEFINITION. The voice manager (R176 to R197, R202 to R204), and what the end of a pip does for it and for the
parts of Quince that reach into it: QDONE completion (R98, R157, R187, R197) and held posts (R164). -/

namespace Sys2Proof.Machine

namespace State

/-! ### Slots and notes (R176 to R179) -/

/-- The slots that are not IDLE, ascending. -/
def busySlots (s : State) : List Nat :=
  (s.regs.filter (fun e => decide (e.1.1 = (F.VT0_STATE 0).id) && decide (e.2 ≠ 0))).map (fun e => e.1.2)

def slotState (s : State) (k : Nat) : Nat := s.get (F.VT0_STATE k)
/-- The slot counts as playing: ON, HELD or RELEASE. -/
def slotPlaying (s : State) (k : Nat) : Bool := decide (1 ≤ s.slotState k) && decide (s.slotState k ≤ 3)

def playing (s : State) : Nat := (s.busySlots.filter (fun k => s.slotPlaying k)).length
def fading (s : State) : Nat := (s.busySlots.filter (fun k => decide (s.slotState k = 4))).length
def groupPlaying (s : State) (g : Nat) : Nat :=
  (s.busySlots.filter (fun k => s.slotPlaying k && decide (s.get (F.VT0_GROUP k) = g))).length
def groupFading (s : State) (g : Nat) : Nat :=
  (s.busySlots.filter (fun k => decide (s.slotState k = 4) && decide (s.get (F.VT0_GROUP k) = g))).length

/-- The slots of note number `num` that are not IDLE. -/
def noteSlots (s : State) (num : Nat) : List Nat := s.busySlots.filter (fun k => decide (s.get (I.VT_NUM k) = num))

/-- The numbers of the notes with a slot that is not IDLE. -/
def notes (s : State) : List Nat := (s.busySlots.map (fun k => s.get (I.VT_NUM k))).eraseDups

/-- A note's slots are all ON, HELD or RELEASE. -/
def noteLive (s : State) (num : Nat) : Bool := (s.noteSlots num).all (fun k => s.slotPlaying k)

/-- The state of a live note, which its slots share. -/
def noteState (s : State) (num : Nat) : Nat := match s.noteSlots num with | k :: _ => s.slotState k | [] => 0
def noteGroup (s : State) (num : Nat) : Nat := match s.noteSlots num with | k :: _ => s.get (F.VT0_GROUP k) | [] => 0

/-- The note's number is addressable in its group (R178). -/
def noteAddressable (s : State) (num : Nat) : Bool :=
  s.noteLive num && (s.noteSlots num).all (fun k => !s.on (F.VT0_DET k))

/-- The addressable note with a group and note ID (R178). -/
def addressed (s : State) (g id : Nat) : Option Nat :=
  s.notes.find? (fun n => s.noteAddressable n &&
    (s.noteSlots n).all (fun k => decide (s.get (F.VT0_GROUP k) = g) && decide (s.get (F.VT0_NOTE k) = id)))

/-- The live notes of a group. -/
def groupNotes (s : State) (g : Nat) : List Nat :=
  s.notes.filter (fun n => s.noteLive n && decide (s.noteGroup n = g))

def renderPip (s : State) (k : Nat) : Nat := s.get F.VM_BASE_PIPBASE + 2 * k + 1
def onPip (s : State) (k : Nat) : Nat := s.get F.VM_BASE_PIPBASE + 2 * k
def gainPrm (s : State) (k : Nat) : Nat := s.get F.VM_BASE_GAINBASE + k

/-! ### Words (R180) -/

def vwType (w : Nat) : Nat := natBits w 79 72
def vwGroup (w : Nat) : Nat := natBits w 71 64
def vwNote (w : Nat) : Nat := natBits w 63 48
def vwValue (w : Nat) : Nat := natBits w 47 16

/-- A word the voice manager synthesises (R180): type, group, note, sample and flags. -/
def vmWord (type g note n flags : Nat) : Nat :=
  flags + 2 ^ 48 * note + 2 ^ 64 * g + 2 ^ 72 * type + 2 ^ 80 * (n % 2 ^ 48)

/-- The reason a voice word is refused at acceptance, if it is (R180, R200). -/
def voiceBad (w : Nat) : Option Nat :=
  let t := vwType w
  if t = 0x10 ∨ t = 0x11 then if natBits w 71 61 ≠ 0 then some 4 else none
  else if t = 0x12 then if natBits w 71 61 ≠ 0 ∨ natBits w 15 0 ≠ 0 then some 4 else none
  else if 1 ≤ t ∧ t ≤ 7 then
    if natBits w 15 8 ≠ 0 ∨ ((t = 5 ∨ t = 6) ∧ vwValue w ≠ 0) then some 4 else none
  else some 3

def vmRefuse (s : State) (reason w : Nat) : State :=
  (((s.set F.VM_REFUSE_REASON reason).set F.VM_REFUSE_GROUP (vwGroup w)).set F.VM_REFUSE_NOTE (vwNote w)).raise 48

/-- A word that names no addressable note (R194, R195). DEDUCED: log entry 34. -/
def orphan (s : State) : State := (s.bump F.VM_ORPHANS_N 1).raise 50

/-! ### Attaching (R183, R121, R122) -/

/-- The block being handled. DEDUCED: log entry 25. -/
def handledBlk (s : State) : Nat := s.blockIx - 1

/-- An event attached to a slot's render pip; event 51 when the store fills. -/
def attach (s : State) (k w : Nat) : State :=
  let s := { s with vm := { s.vm with attach := s.vm.attach ++ [{ slot := k, blk := s.handledBlk, word := w }] } }
  if s.vm.attach.length = 8192 then s.raise 51 else s

/-- An event attached to every slot of a note. -/
def attachNote (s : State) (num w : Nat) : State := (s.noteSlots num).foldl (fun s k => s.attach k w) s

/-- Every slot of a note that is not IDLE put in a state (R177). -/
def setNote (s : State) (num st : Nat) : State := (s.noteSlots num).foldl (fun s k => s.set (F.VT0_STATE k) st) s

/-! ### Fades and endings (R186, R187, R197) -/

/-- Every slot of a note goes to FADING from sample `n`, with `w` attached and its gain ramped to 0 (R186, R187). -/
def fadeNote (s : State) (num n w : Nat) : State :=
  let L := s.get F.VM_FADE_FADE
  (s.noteSlots num).foldl (fun s k =>
    (((((s.attach k w).set (F.VT0_STATE k) 4).set (F.VT5_FADEEND k) (n + L - 1)).set (I.VT_FADEBLK k)
      ((n + L - 1) / s.blockLen)).vmRamp (s.gainPrm k) n 0 L 1)) s

/-- The KILL a fade attaches when no KILL word named the note (R180, R186): bit 15, and bit 14 for a stolen note.
DEDUCED: log entry 28. -/
def killWord (s : State) (num n : Nat) (stolen : Bool) : Nat :=
  match s.noteSlots num with
  | k :: _ => vmWord 6 (s.get (F.VT0_GROUP k)) (s.get (F.VT0_NOTE k)) n (if stolen then 0xC000 else 0x8000)
  | [] => vmWord 6 0 0 n 0x8000

/-- The fade of a note would leave more than 256 slots FADING (R188). -/
def fadeTooMany (s : State) (num : Nat) : Bool := decide (256 < s.fading + (s.noteSlots num).length)

/-- The attach store has no room for an event of every slot of a note (R183). -/
def attachFull (s : State) (num : Nat) : Bool := decide (8192 < s.vm.attach.length + (s.noteSlots num).length)

/-- The live notes of a group fade as by KILL, as far as R188 and the attach store allow; the flag stays while some are left,
which is counted once as a wait (R188, R203). -/
def killGroup (s : State) (g : Nat) : State :=
  let t := (s.groupNotes g).foldl (fun s num =>
    if s.fadeTooMany num || s.attachFull num then s
    else s.fadeNote num s.computedFrom (s.killWord num s.computedFrom false)) s
  let left := decide (t.groupNotes g ≠ [])
  (if left && !s.on (I.VM_GKILL g) then t.bump F.VM_DEFERS_N 1 else t).flag (I.VM_GKILL g) left

/-- A slot returns to IDLE: its render pip disabled, its attached events dropped (R187, R197).
DESIGN CHOICE: log entry 27. -/
def endSlot (s : State) (k : Nat) : State :=
  let s := ((((s.set (F.VT0_STATE k) 0).set (F.VT0_DET k) 0).set (F.VT0_NEW k) 0).set (F.VT5_FADEEND k) 0).set
    (F.PIP1_EN (s.renderPip k)) 0
  { s with vm := { s.vm with attach := s.vm.attach.filter (fun a => decide (a.slot ≠ k)) } }

/-! ### Stealing (R184, R185) -/

/-- A note's place in the order of a steal policy: the smaller list comes first (R184). -/
def stealKey (s : State) (policy num : Nat) : List Nat :=
  let ks := s.noteSlots num
  let age := match ks with | k :: _ => s.pair (F.VT2_FRCLO k) (F.VT3_FRCHI k) | [] => 0
  let level := (ks.map (fun k => s.get (F.VT4_LEVEL k))).foldl max 0
  let rank := 3 - s.noteState num
  let low := ks.headD 0
  match policy with
  | 0 => [age, low]
  | 1 => [level, low]
  | 2 => [rank, age, low]
  | _ => [rank, level, low]

/-- Lexicographic order of keys. -/
def keyBefore : List Nat → List Nat → Bool
  | a :: as, b :: bs => if a < b then true else if b < a then false else keyBefore as bs
  | _, _ => false

/-- The steal candidates among the groups that `ok` admits (R184). -/
def candidates (s : State) (ok : Nat → Bool) : List Nat :=
  s.notes.filter (fun n => s.noteLive n && ok (s.noteGroup n) && (s.noteSlots n).all (fun k => !s.on (F.VT0_NEW k)))

def victim (s : State) (ok : Nat → Bool) (policy : Nat) : Option Nat :=
  match s.candidates ok with
  | [] => none
  | c :: cs => some (cs.foldl (fun b n => if keyBefore (s.stealKey policy n) (s.stealKey policy b) then n else b) c)

/-- How the handling of a word ends: done, refused, or waiting with what has been done so far, for fades to complete (R188) or,
when `idle`, for slots to become IDLE (R189). -/
inductive Handled where
  | done (s : State) | refused (reason : Nat) | waits (idle : Bool) (s : State)

/-- Notes stolen while a limit is exceeded (R185), at most `fuel` of them. -/
def stealWhile (exceeds : State → Bool) (ok : Nat → Bool) (policy n : Nat) : Nat → State → Handled
  | 0, s => .done s
  | fuel + 1, s =>
    if exceeds s then
      match s.victim ok policy with
      | none => .refused 2
      | some v =>
        if s.fadeTooMany v then .waits false s
        else stealWhile exceeds ok policy n fuel (((s.fadeNote v n (s.killWord v n true))).bump F.VM_STEALS_N 1)
    else .done s

/-- The IDLE slots in service, ascending. -/
def idleSlots (s : State) : List Nat :=
  (List.range (s.get F.VM_CTRL_SLOTS)).filter (fun k => decide (s.slotState k = 0))

/-- Samples to the end of a slot's fade, counted from 2^31 before FRC. -/
def fadeLeft (s : State) (k : Nat) : Nat := (s.get (F.VT5_FADEEND k) + 2 ^ 32 + 2 ^ 31 - s.frc % 2 ^ 32) % 2 ^ 32

/-- The FADING slots nearest the end of their fades, `c` of them (R189). -/
def cutSlots (s : State) (c : Nat) : List Nat :=
  let fs := s.busySlots.filter (fun k => decide (s.slotState k = 4))
  ((fs.foldr (fun k acc =>
    let before (a : Nat) : Bool := decide (s.fadeLeft a < s.fadeLeft k)
    acc.filter before ++ [k] ++ acc.filter (fun a => !before a)) [])).take c

/-- The runs of a pip that a core has already taken go on from Quince's copy, and their end is nothing to the slot that has
been cut (R173, R189). -/
def cutRuns (s : State) (p : Nat) : State :=
  let mark (r : PipRun) : PipRun := if r.pip = p then { r with cut := true } else r
  (List.range 64).foldl (fun s n =>
    if s.pipOn p n then
      let c := s.core n
      s.setCore n { c with next := c.next.map mark, p := { c.p with run := c.p.run.map mark } }
    else s) s

/-- A FADING slot cut from sample `n` (R189). DEDUCED: log entry 21. -/
def cutSlot (s : State) (n k : Nat) : State :=
  (((s.cutRuns (s.renderPip k)).endSlot k).vmRamp (s.gainPrm k) n 0 0 0).bump F.VM_CUTS_N 1

/-! ### Allocation (R190, R191) -/

/-- A template copied into a pip of slot `k`, with the changes of R190, and enabled under R153: a refused enable leaves word
1 as it was, with EN = 0, and reads BADARG. DEDUCED: log entry 23. -/
def copyPip (s : State) (tpl dst k layer g : Nat) : State :=
  let stride := s.get (F.VM_GRP3_STRIDE g)
  let ws := s.pipWords tpl
  let a := 16 * (ws.getD 5 0 + 2 ^ 32 * natBits (ws.getD 6 0) 30 27) + stride * k
  let ws := ((((ws.set 3 (k + layer * 2 ^ 12 + g * 2 ^ 16)).set 4 ((ws.getD 4 0 + stride * k) % 2 ^ 32)).set 5
    (a / 16 % 2 ^ 32)).set 6 (ws.getD 6 0 &&& 0x87FFFFFF ||| (a / 2 ^ 36 % 16) * 2 ^ 27))
  let s := (ws.zipIdx).foldl (fun s e => if e.2 = 1 then s else s.regStore (0xC00000 + 64 * dst + 4 * e.2) e.1)
    (s.set (F.PIP1_EN dst) 0)
  let t := (s.puts (pip1Fields dst) (ws.getD 1 0)).set (F.PIP1_EN dst) 1
  if t.pipBad dst then s.qnStatus stBADARG else (t.pipFresh dst).qnStatus stOK

/-- Slot `k` taken for layer `i` of a new note (R190, R191); the note-on pip of layer 0 inherits the word's queue entry, and
the others take none (R162). -/
def takeSlot (s : State) (w src n num first : Nat) (k i : Nat) : State :=
  let g := vwGroup w
  let s := ((((((((((s.set (F.VT0_STATE k) 1).set (F.VT0_DET k) 0).set (F.VT0_NEW k) 1).set (F.VT0_LAYER k) i).set
    (F.VT0_GROUP k) g).set (F.VT0_NOTE k) (vwNote w)).set (F.VT1_FIRST k) first).set (F.VT2_FRCLO k) n).set
    (F.VT3_FRCHI k) (n / 2 ^ 32)).set (F.VT4_LEVEL k) 0x7FFFFFFF).set (F.VT5_FADEEND k) 0 |>.set (I.VT_NUM k) num
  let s := s.vmRamp (s.gainPrm k) n 0x08000000 0 0
  let s := s.copyPip (s.get (F.VM_GRP1_TPL_ON g)) (s.onPip k) k i g
  let s := s.copyPip (s.get (F.VM_GRP1_TPL_RND g)) (s.renderPip k) k i g
  let p := s.renderPip k
  let s := if s.phRunning ∧ s.on (F.PIP1_EN p) then
      ((((s.set (I.PIP_ARM p) 1).set (I.PIP_BLK p) s.handledBlk).set (F.PIP13_CNT p) 1).set (F.PIP13_STATE p) 1)
    else s
  (s.attach k w).settlePost (s.onPip k) w (s.postLevel (s.onPip k)) src false (decide (i = 0))

/-- The slots of a new note taken, layer 0 in the lowest. -/
def allocate (s : State) (w src n : Nat) (slots : List Nat) : State :=
  let num := s.get I.VM_NUM
  let s := s.set I.VM_NUM (num + 1)
  (slots.zipIdx).foldl (fun s e => s.takeSlot w src n num (slots.headD 0) e.1 e.2) s

/-- A NOTE_ON that finds its note free (R185, R189). -/
def noteOnFree (s : State) (w src n : Nat) : Handled :=
  let g := vwGroup w
  let L := s.get (F.VM_GRP0_LAYERS g) + 1
  let pol := s.get (F.VM_GRP0_STEAL g)
  let own := stealWhile (fun t => decide (t.get (F.VM_GRP0_GLIM g) < t.groupPlaying g + L)) (fun h => decide (h = g))
    pol n 4096 s
  match own with
  | .refused r => .refused r
  | .waits d t => .waits d t
  | .done s1 =>
    match stealWhile (fun t => decide (t.get F.VM_CTRL_SLOTS < t.playing + L + t.get F.VM_CTRL_RESERVE))
        (fun h => decide (s1.get (F.VM_GRP0_PRIO g) ≤ s1.get (F.VM_GRP0_PRIO h))) pol n 4096 s1 with
    | .refused r => .refused r
    | .waits d t => .waits d t
    | .done s2 =>
      let idle := s2.idleSlots
      if L ≤ idle.length then .done (s2.allocate w src n (idle.take L))
      else if s2.on F.VM_CTRL_EMPTY then
        let s3 := (s2.cutSlots (L - idle.length)).foldl (fun s k => s.cutSlot n k) s2
        .done (s3.allocate w src n (s3.idleSlots.take L))
      else .waits true s2

/-- NOTE_ON (R185, R193). -/
def noteOn (s : State) (w src n : Nat) : Handled :=
  let g := vwGroup w
  if vwNote w = 0xFFFF then .refused 4
  else match s.addressed g (vwNote w) with
    | none => s.noteOnFree w src n
    | some num =>
      match s.get (F.VM_GRP0_RETRIG g) with
      | 1 => .done ((s.attachNote num w).setNote num 1)
      | 2 =>
        if s.fadeTooMany num then .waits false s
        else (s.fadeNote num n (s.killWord num n false)).noteOnFree w src n
      | _ =>
        let s := if s.noteState num ≠ 3 then
            (s.attachNote num (vmWord 2 g (vwNote w) n 0x8000)).setNote num 3 else s
        ((s.noteSlots num).foldl (fun s k => s.set (F.VT0_DET k) 1) s).noteOnFree w src n

/-- NOTE_OFF (voice state table, R194, R195). DEDUCED: log entry 22. -/
def noteOff (s : State) (w : Nat) : State :=
  match s.addressed (vwGroup w) (vwNote w) with
  | none => s.orphan
  | some num =>
    if s.noteState num = 1 then
      if s.on (F.VM_GCNT_HOLD (vwGroup w)) then s.setNote num 2 else (s.attachNote num w).setNote num 3
    else s

/-- NOTE_CHANGE, and CTRL of one note. -/
def noteAttach (s : State) (w : Nat) : State :=
  match s.addressed (vwGroup w) (vwNote w) with
  | none => s.orphan
  | some num => s.attachNote num w

/-- CTRL (R180). -/
def noteCtrl (s : State) (w : Nat) : State :=
  if vwNote w = 0xFFFF then
    ((s.groupNotes (vwGroup w)).filter s.noteAddressable).foldl (fun s num => s.attachNote num w) s
  else s.noteAttach w

/-- The notes of a group in one of two states released by a synthesised NOTE_OFF at sample `n`. -/
def releaseNotes (s : State) (g n : Nat) (st : Nat → Bool) : State :=
  (s.groupNotes g).foldl (fun s num =>
    if st (s.noteState num) then
      let id := match s.noteSlots num with | k :: _ => s.get (F.VT0_NOTE k) | [] => 0
      (s.attachNote num (vmWord 2 g id n 0x8000)).setNote num 3
    else s) s

/-- HOLD (R180). -/
def groupHold (s : State) (w n : Nat) : State :=
  let g := vwGroup w
  if vwValue w ≠ 0 then s.set (F.VM_GCNT_HOLD g) 1
  else (s.set (F.VM_GCNT_HOLD g) 0).releaseNotes g n (fun st => decide (st = 2))

/-- ALL_OFF (R180). -/
def allOff (s : State) (w n : Nat) : State :=
  s.releaseNotes (vwGroup w) n (fun st => decide (st = 1) || decide (st = 2))

/-- KILL of one note, or of every note of the group (R180); the notes whose fade would exceed 256 slots wait (R188). -/
def killNotes (s : State) (w n : Nat) : Handled :=
  let g := vwGroup w
  if vwNote w = 0xFFFF then
    let t := (s.groupNotes g).foldl (fun s num => if s.fadeTooMany num then s else s.fadeNote num n w) s
    if t.groupNotes g = [] then .done t else .waits false t
  else match s.addressed g (vwNote w) with
    | none => .done s.orphan
    | some num => if s.fadeTooMany num then .waits false s else .done (s.fadeNote num n w)

/-- One word handled at sample `n` (R185 to R195, R202, R203). -/
def handleWord (s : State) (w src n : Nat) : Handled :=
  if s.get F.VM_STAT_STATE ≠ unitON then .refused 5
  else if !s.on (F.VM_GRP0_EN (vwGroup w)) then .refused 1
  else match vwType w with
    | 1 => s.noteOn w src n
    | 2 => .done (s.noteOff w)
    | 3 => .done (s.noteAttach w)
    | 4 => .done (s.groupHold w n)
    | 5 => .done (s.allOff w n)
    | 6 => s.killNotes w n
    | _ => .done (s.noteCtrl w)

/-! ### Acceptance and taking of words (R162, R164, R181, R183, R189) -/

/-- The sample of a waiting word: its own, or the first of the block being computed for a late or deferred one, or one whose
block has passed (R185, R189). -/
def wordSample (s : State) (v : VWord) : Nat :=
  if v.late ∨ v.wait.isSome ∨ v.blk < s.handledBlk then s.computedFrom else extend48 (v.word / 2 ^ 80) s.frc

/-- The first word the voice manager can take, in ready order: its group not waiting, the attach store not full (R181,
R183). -/
def nextWord (s : State) : Option VWord :=
  if 8192 ≤ s.vm.attach.length then none
  else s.vm.words.find? (fun v => v.ready && !s.on (I.VM_BLK (vwGroup v.word)))

def setWaiting (s : State) (ws : List VWord) : State := { s with vm := { s.vm with words := ws } }

/-- What the handling of a word makes of the machine, its queue entry freed, or inherited by the pip it posts (R162); a word
whose events the attach store cannot hold is not taken (R183). `again` says that it had been waiting.
DESIGN CHOICE: log entry 154. -/
def handled (s : State) (v : VWord) (again : Bool) : State :=
  let free := s.setWaiting (s.vm.words.erase v)
  let g := vwGroup v.word
  match free.handleWord v.word v.src (s.wordSample v) with
  | .done t =>
    if 8192 < t.vm.attach.length then s
    else
      let t := if v.wait.isSome && !v.late then (t.bump F.QN_LATE_N 1).raise 42 else t
      (t.set (I.VM_BLK g) 0).syncUsed
  | .refused r => ((free.vmRefuse r v.word).set (I.VM_BLK g) 0).syncUsed
  | .waits idle t =>
    if 8192 < t.vm.attach.length then s
    else
      let t := (t.setWaiting (s.vm.words.map (fun x =>
        if x = v then { v with wait := if idle then some s.handledBlk else v.wait } else x))).set (I.VM_BLK g) 1
      let t := if again then t else t.bump F.VM_DEFERS_N 1
      if idle && v.wait.isNone then t.raise 49 else t

/-- A word taken: handled, refused without effect, or left waiting at the head of its group (R185, R188, R189). -/
def takeWord (s : State) (v : VWord) : State := s.handled v false

/-- The row's word is taken if it is the next one (R181). DESIGN CHOICE: log entry 24. -/
def takeNamed (s : State) (type src w : Nat) : State :=
  match s.nextWord with
  | some v => if v.word = w ∧ v.src = src ∧ vwType w = type then s.takeWord v else s
  | none => s

/-- A waiting group's first word tried again while the attach store is not full; a deferred NOTE_ON starts no earlier than in
the block after, and then counts late (R183, R188, R189). DEDUCED: log entry 26. -/
def retryGroup (s : State) (g : Nat) (noteOn : Bool) : State :=
  if !s.on (I.VM_BLK g) then s
  else match s.vm.words.find? (fun v => v.ready && decide (vwGroup v.word = g)) with
    | none => s.set (I.VM_BLK g) 0
    | some v =>
      if ((decide (vwType v.word = 1)) != noteOn) || decide (8192 ≤ s.vm.attach.length) ||
          decide (v.wait = some s.handledBlk) then s
      else s.handled v true

/-- A voice word accepted by Quince (R181): phasor commands go to the bank at once, other words wait for their block,
a late one for the next block computed. -/
def acceptVoice (s : State) (w src : Nat) : State :=
  if 0x10 ≤ vwType w then
    if s.get F.VM_STAT_STATE = unitON then s.phCommand w else s.vmRefuse 5 w
  else
    let blk := extend48 (w / 2 ^ 80) s.frc / s.blockLen
    let late := decide (blk < s.blockIx)
    let v : VWord := { word := w, src := src, blk := if late then s.blockIx else blk, ready := false, late := late,
                       wait := none }
    let s := if late then (s.bump F.QN_LATE_N 1).raise 42 else s
    ({ s with vm := { s.vm with words := s.vm.words ++ [v] } }).syncUsed

/-- A voice word would be held back (R164, R180). -/
def voiceHold (s : State) (w src : Nat) : Bool :=
  s.qn.held.any (fun h => decide (h.src = src)) || ((voiceBad w).isNone && s.queueFull 4)

/-- A voice word that has reached the queue. -/
def settleVoice (s : State) (w src : Nat) : State :=
  match voiceBad w with
  | some r => s.vmRefuse r w
  | none => s.acceptVoice w src

/-- A voice word posted by a core or a host (R162, R164, R181). -/
def postVoice (s : State) (w src : Nat) (core : Option Nat) : State :=
  if s.voiceHold w src then
    let h : HeldPost := { kind := .voice, src := src, pip := 0, level := none, word := w, core := core }
    s.setHeld (s.qn.held ++ [h])
  else s.settleVoice w src

/-- The first post of each source among those held back. -/
def firstHeld : List HeldPost → List Nat → List HeldPost
  | [], _ => []
  | h :: t, seen => if seen.contains h.src then firstHeld t seen else h :: firstHeld t (h.src :: seen)

/-- A held post settled, and its core released from the stall. -/
def settleHeld (s : State) (h : HeldPost) : State :=
  let s := s.setHeld (s.qn.held.erase h)
  let s := match h.kind with
    | .pip => s.settlePost h.pip h.word (h.level.getD (s.postLevel h.pip)) h.src
        (h.level.isNone && s.on (F.PIP1_TS h.pip))
    | .voice => s.settleVoice h.word h.src
  match h.core with
  | some n => s.setCore n { s.core n with heldPost := false }
  | none => s

/-- The first held post that no longer meets a full queue is accepted, or refused (R164). -/
def acceptHeldPost (s : State) : State :=
  let fits (h : HeldPost) : Bool :=
    match h.kind with
    | .pip =>
      let l := h.level.getD (s.postLevel h.pip)
      (s.postReason h.pip l).isSome || !s.queueFull l
    | .voice => (voiceBad h.word).isSome || !s.queueFull 4
  match (firstHeld s.qn.held []).find? fits with
  | some h => s.settleHeld h
  | none => s

/-- A word made READY joins the READY ones in ready order: by its block, a late one, which was READY at its acceptance,
first (R165, R181). -/
def joinWords (v : VWord) (ws : List VWord) : List VWord :=
  let key (x : VWord) : Nat := 2 * x.blk + if x.late then 0 else 1
  ws.filter (fun x => decide (key x < key v)) ++ [v] ++ ws.filter (fun x => !decide (key x < key v))

/-- Voice words whose block is computed become READY (R181). -/
def releaseWords (s : State) : State :=
  let due (v : VWord) : Bool := !v.ready && decide (v.blk < s.blockIx)
  let news := ((s.vm.words.filter due).foldr joinWords []).map (fun v => { v with ready := true })
  s.setWaiting (s.vm.words.filter (fun v => v.ready) ++ news ++ s.vm.words.filter (fun v => !v.ready && !due v))

/-- A host's voice post (R181); the SPI host is told to repeat instead of being held. -/
def hostVoice (s : State) (m : Master) : State :=
  let w := s.stagedQuad m 0x50100
  if m = .spi ∧ s.voiceHold w m.id then s
  else (s.mirrorPost m (.voice m (BitVec.ofNat 128 w)) (fun s => s.postVoice w m.id none)).qnStatus stOK

/-- A write of `QN_POST_CMD`. -/
def postCmd (s : State) (m : Master) (w : Nat) : State :=
  match natBits w 15 14 with
  | 0 => s.hostPost m (natBits w 13 0)
  | 1 => s.hostVoice m
  | _ => s.qnStatus stBADARG

/-! ### Joins (R192) -/

/-- A GRAPH pip is armed for block `j` and has not completed it. -/
def armedOpen (s : State) (p j : Nat) : Bool :=
  s.on (I.PIP_ARM p) && decide (s.get (I.PIP_BLK p) = j) &&
  !(s.on (I.PIP_DONE p) && decide (s.get (F.PIP14_LASTBLK p) = j % 2 ^ 32))

/-- The group's words that became READY at the tick have been handled, and its render pips armed for the block have
completed (R192). -/
def joinReady (s : State) (g : Nat) : Bool :=
  s.on (F.VM_GRP2_JV g) &&
  (s.vm.words.all (fun v => decide (v.blk ≠ s.handledBlk) || decide (vwGroup v.word ≠ g))) &&
  (s.busySlots.all (fun k => decide (s.get (F.VT0_GROUP k) ≠ g) || !s.armedOpen (s.renderPip k) s.handledBlk))

/-- The join pip decremented once per block (R192). -/
def joinDown (s : State) (g : Nat) : State :=
  if s.phRunning && s.joinReady g && decide (s.get (I.VM_JOINED g) ≠ s.blockIx) then
    (s.decrement (s.get (F.VM_GRP2_JOIN g)) s.handledBlk).set (I.VM_JOINED g) s.blockIx
  else s

/-! ### Registers (R202, R203) -/

def vmStatus (s : State) (v : Nat) : State := s.set F.VM_STAT_STATUS v

/-- An enable R202 refuses. -/
def vmBad (s : State) : Bool :=
  decide (16384 < s.get F.VM_BASE_PIPBASE + 2 * s.get F.VM_CTRL_SLOTS) ||
  decide (65536 < s.get F.VM_BASE_GAINBASE + s.get F.VM_CTRL_SLOTS) ||
  decide (s.get F.VM_CTRL_SLOTS < s.get F.VM_CTRL_RESERVE)

def vmFields : List Fld := [F.VM_CTRL_EMPTY, F.VM_CTRL_SLOTS, F.VM_CTRL_RESERVE]

/-- SHUTTING: every note fades as by KILL (R202). -/
def vmShut (s : State) : State := (List.range 256).foldl (fun s g => s.killGroup g) s

/-- A write of `VM_CTRL` (R202). DEDUCED: log entry 29. -/
def vmSet (s : State) (w : Nat) : State :=
  let want := natBit w 31
  if s.get F.VM_STAT_STATE = unitOFF then
    if 256 < F.VM_CTRL_RESERVE.of w ∨ F.VM_CTRL_SLOTS.of w = 0 ∨ 4096 < F.VM_CTRL_SLOTS.of w then s.vmStatus stBADARG
    else
      let t := s.puts vmFields w
      if !want then (t.set F.VM_CTRL_EN 0).vmStatus stOK
      else if t.vmBad then s.vmStatus stBADARG
      else ((t.set F.VM_CTRL_EN 1).set F.VM_STAT_STATE unitON).vmStatus stOK
  else
    (s.enableWrite F.VM_CTRL_EN F.VM_STAT_STATE want id vmShut).vmStatus
      (if (s.puts vmFields w).regs = s.regs then stOK else stBUSY)

/-- Every slot is IDLE (R202). -/
def vmOff (s : State) : State :=
  if s.busySlots = [] then s.shutDone F.VM_CTRL_EN F.VM_STAT_STATE id (fun s => s.set F.VM_STAT_STATE unitON) else s

/-- The fields of a group's word 0. -/
def grp0Fields (g : Nat) : List Fld :=
  [F.VM_GRP0_EN g, F.VM_GRP0_LAYERS g, F.VM_GRP0_STEAL g, F.VM_GRP0_RETRIG g, F.VM_GRP0_PRIO g, F.VM_GRP0_GLIM g]

/-- The pip lies in the voice manager's range (R203). -/
def inVmRange (s : State) (p : Nat) : Bool :=
  decide (s.get F.VM_BASE_PIPBASE ≤ p) && decide (p < s.get F.VM_BASE_PIPBASE + 2 * s.get F.VM_CTRL_SLOTS)

/-- A group enable that R203 refuses, its word 0 already as written. -/
def grpBad (s : State) (g : Nat) : Bool :=
  let on := s.get (F.VM_GRP1_TPL_ON g)
  let rnd := s.get (F.VM_GRP1_TPL_RND g)
  let jv := s.on (F.VM_GRP2_JV g)
  let join := s.get (F.VM_GRP2_JOIN g)
  !(s.on (F.PIP1_CLASS on) && !s.on (F.PIP1_EN on)) ||
  !(!s.on (F.PIP1_CLASS rnd) && !s.on (F.PIP1_EN rnd) && s.on (F.PIP1_REC rnd) && !s.on (F.PIP1_DEP rnd) &&
    !s.on (F.PIP2_SL rnd)) ||
  (jv && s.on (F.PIP1_CLASS join)) || s.inVmRange on || s.inVmRange rnd || (jv && s.inVmRange join) ||
  decide (s.get (F.VM_GRP3_STRIDE g) % 16 ≠ 0) || decide (4096 < s.get (F.VM_GRP0_GLIM g)) ||
  decide (s.get (F.VM_GRP0_GLIM g) = 0) || decide (s.get (F.VM_GRP0_RETRIG g) = 3)

/-- A write of word 0 of `VM_GRP[g]` (R203). -/
def grpSet (s : State) (g w : Nat) : State :=
  if s.on (F.VM_GRP0_EN g) then
    if natBit w 31 then s.vmStatus stBUSY
    else ((s.set (F.VM_GRP0_EN g) 0).killGroup g).vmStatus stOK
  else
    let t := s.puts (grp0Fields g) w
    if natBit w 31 && t.grpBad g then s.vmStatus stBADARG else t.vmStatus stOK

/-- A write of words 1–3 of `VM_GRP[g]`. -/
def grpWord (s : State) (g k w : Nat) : State :=
  if k = 0 then s.grpSet g w
  else if s.on (F.VM_GRP0_EN g) then s.vmStatus stBUSY
  else (s.regStore (0x61000 + 16 * g + 4 * k) w).vmStatus stOK

/-- A write of the other `VM_` registers. -/
def vmPlain (s : State) (a w : Nat) : State :=
  if a = 0x60008 ∧ s.get F.VM_STAT_STATE ≠ unitOFF then s.vmStatus stBUSY
  else if a = 0x6000C ∧ (w % 1024 < 16 ∨ 512 < w % 1024) then s.vmStatus stBADARG
  else s.plainStore a w (fun s => s.vmStatus stOK)

/-! ### The event buffer of a render pip (R121, R183) -/

/-- The slot whose render pip `p` is, while the voice manager is not OFF (R190). -/
def slotOfRender (s : State) (p : Nat) : Option Nat :=
  let b := s.get F.VM_BASE_PIPBASE
  if s.get F.VM_STAT_STATE ≠ unitOFF ∧ b ≤ p ∧ p < b + 2 * s.get F.VM_CTRL_SLOTS ∧ (p - b) % 2 = 1
  then some ((p - b) / 2) else none

/-- The sample offset of an attached event in the block from `f`; 0 for a late one (R121). -/
def eventOff (f w : Nat) : Nat := extend48 (w / 2 ^ 80) f - f

/-- The events due for a slot's render pip, by offset and then arrival; beyond 64 they wait a block, in their place among the
arrivals, and count late (R122, R183). -/
def fillEvents (s : State) (k blk : Nat) : State × List Nat :=
  let f := blk * s.blockLen
  let mine (a : Attach) : Bool := decide (a.slot = k) && decide (a.blk ≤ blk)
  let due := (s.vm.attach.zipIdx).filter (fun e => mine e.1)
  let sorted := due.foldr (fun a acc =>
    let before (b : Attach × Nat) : Bool := decide (eventOff f b.1.word < eventOff f a.1.word)
    acc.filter before ++ [a] ++ acc.filter (fun b => !before b)) []
  let taken := sorted.take 64
  let left := (s.vm.attach.zipIdx).filter (fun e => !taken.contains e)
  let s := { s with vm := { s.vm with
    attach := left.map (fun e => if mine e.1 then { e.1 with blk := blk + 1 } else e.1) } }
  let s := if sorted.length ≤ 64 then s else (s.bump F.QN_LATE_N (sorted.length - 64)).raise 42
  (s, taken.map (fun e => e.1.word))

/-! ### Starting and completing a pip (R91, R93, R97, R98) -/

/-- The state of a bank at pip start (R97): results of the previous pip have all become visible; LC, LS and LE are 0.
DESIGN CHOICE: log entry 19. DESIGN CHOICE: log entry 147. -/
def startBank (b : Bank) (r : PipRun) (events : List Nat) : Bank :=
  let file := (b.pend.foldl (fun f p => fileSet f p.idx p.val) b.r).filter (fun e =>
    decide (e.1 < 128) || (decide (160 ≤ e.1) && decide (e.1 < 192)) || (decide (208 ≤ e.1) && decide (e.1 < 225)))
  { r := fileSet (fileSet file 174 (r.copy.getD 3 0)) 175 (r.copy.getD 4 0), pend := [], ovl := [], n := b.n, lv := 0,
    pc := r.frame * 0x4000 + natBits (r.copy.getD 0 0) 13 0, slots := 0, target := none, closes := false,
    run := some r, events := events, head := 0, load := none }

/-- The events a pip starts with (R121): a pip that is run again starts with those of its first run. -/
def startEvents (s : State) (r : PipRun) : State × List Nat :=
  if r.reruns ≠ 0 then (s, r.events)
  else match r.ev with
  | some e => (s, [e.word])
  | none => match s.slotOfRender r.pip with
    | some k => s.fillEvents k r.blk
    | none => (s, [])

/-- The pip's urgency, by the level of its event (R91). -/
def urgentRun (r : PipRun) : Bool := match r.ev with | some e => decide (e.level < 4) | none => false

/-- The NEXT pip of a core starts in its bank (R91, R93, R97); an urgent one swaps banks. -/
def startPip (s : State) (n : Nat) (r : PipRun) : State :=
  let (s, ev) := s.startEvents r
  let r := { r with events := ev }
  let c := s.core n
  let x := frame c r.frame
  let c := setFrame { c with next := none } r.frame { x with used := s.get I.QN_START + 1 }
  let c := if urgentRun r then { c with s := startBank c.s r ev, shadow := true }
    else { c with p := startBank c.p r ev }
  let s := (s.setCore n c).set I.QN_START (s.get I.QN_START + 1)
  if r.ev.isNone then s.set (F.PIP13_STATE r.pip) 4 else s.refreshEvent r.pip

/-- A core between pips takes its landed NEXT pip (R97). -/
def pipStart (s : State) (n : Nat) : State :=
  let c := s.core n
  match c.next with
  | some r =>
    if r.landed && c.p.run.isNone && !c.shadow && !c.frozen && !c.halted then s.startPip n r else s
  | none => s

/-- An urgent pip preempts at an instruction boundary outside delay slots (R91); a held QPOST has not come to one (R164). -/
def preempt (s : State) (n : Nat) : State :=
  let c := s.core n
  match c.next with
  | some r =>
    if r.landed && urgentRun r && c.p.run.isSome && !c.shadow && decide (c.p.slots = 0) && !c.frozen && !c.halted &&
        !c.heldPost
    then (s.setCore n { c with stall := false }).startPip n r else s
  | none => s

/-- What the voice manager does when a render pip's completion is counted (R187, R197). -/
def renderDone (s : State) (r : PipRun) : State :=
  match s.slotOfRender r.pip with
  | none => s
  | some k =>
    if s.slotState k = 0 then s
    else
      let s := match r.level with | some l => s.set (F.VT4_LEVEL k) l | none => s
      if r.ended then (s.endSlot k).abandonRamp (s.gainPrm k)
      else if s.slotState k = 4 ∧ s.get (I.VT_FADEBLK k) ≤ r.blk then s.endSlot k
      else s

/-- The completion of a note-on pip decrements its render pip as a successor, for the block in which the note starts
(R191). -/
def noteOnDone (s : State) (p : Nat) : State :=
  match s.slotOfRender (p + 1) with
  | some k => s.decrement (p + 1) (s.pair (F.VT2_FRCLO k) (F.VT3_FRCHI k) / s.blockLen)
  | none => s

/-- Quince's side of a completed run (R156 to R158, R162). -/
def completeRun (s : State) (r : PipRun) : State :=
  if r.cut then s
  else match r.ev with
  | some _ => (s.refreshEvent r.pip).noteOnDone r.pip
  | none =>
    let counted := !(s.on (I.PIP_DONE r.pip) && decide (s.get (F.PIP14_LASTBLK r.pip) = r.blk % 2 ^ 32))
    let s := (s.countCompletion r.pip r.blk r.late).graphAfterRun r.pip r.blk r.late
    if counted then s.renderDone r else s

/-- A pip's QDONE completes once its stores are written and its bank's DMA is idle (R93, R98). -/
def qdoneDone (s : State) (n : Nat) : State :=
  let c := s.core n
  let b := if c.shadow then c.s else c.p
  match b.run with
  | none => s
  | some r =>
    let busy := c.dma.any (fun d => if c.shadow then decide (2 ≤ d.ch) else decide (d.ch < 2))
    if !r.qdone || decide (c.stores ≠ []) || busy || b.load.isSome || c.frozen then s
    else
      let b := { b with run := none, lv := 0 }
      let c := if c.shadow then { c with s := b, shadow := false } else { c with p := b }
      let c := unlockFrames c
      let c := if s.on (F.EC_CTRL_HALT n) ∧ c.p.run.isNone then { c with halted := true } else c
      (s.setCore n c).completeRun r

end State

/-! ### The commands -/

def execNoteOn (src : BitVec 8) (w : Quad) (s : State) : Out := .next (s.takeNamed 1 src.toNat w.toNat)
def execNoteOff (src : BitVec 8) (w : Quad) (s : State) : Out := .next (s.takeNamed 2 src.toNat w.toNat)
def execNoteChange (src : BitVec 8) (w : Quad) (s : State) : Out := .next (s.takeNamed 3 src.toNat w.toNat)
def execHold (src : BitVec 8) (w : Quad) (s : State) : Out := .next (s.takeNamed 4 src.toNat w.toNat)
def execAllOff (src : BitVec 8) (w : Quad) (s : State) : Out := .next (s.takeNamed 5 src.toNat w.toNat)
def execKill (src : BitVec 8) (w : Quad) (s : State) : Out := .next (s.takeNamed 6 src.toNat w.toNat)
def execCtrl (src : BitVec 8) (w : Quad) (s : State) : Out := .next (s.takeNamed 7 src.toNat w.toNat)

def execDeferredNoteStart (g : Fin 256) (s : State) : Out := .next (s.retryGroup g true)
/-- A steal or KILL that waited for fades goes on (R188), as do notes a disabled group still has to fade. -/
def execStealResume (g : Fin 256) (s : State) : Out :=
  let s := if s.on (I.VM_GKILL g) then s.killGroup g else s
  .next (s.retryGroup g (match s.vm.words.find? (fun v => v.ready && decide (State.vwGroup v.word = g.val)) with
    | some v => decide (State.vwType v.word = 1)
    | none => false))

/-- A phasor command accepted: its own type in the word's type field (R180, R200). -/
def State.phasorRow (s : State) (type w : Nat) : State :=
  if State.vwType w = type then State.settleVoice s w 0 else s

def execPhPhase (w : Quad) (s : State) : Out := .next (s.phasorRow 0x10 w.toNat)
def execPhRate (w : Quad) (s : State) : Out := .next (s.phasorRow 0x11 w.toNat)
def execPhSlope (w : Quad) (s : State) : Out := .next (s.phasorRow 0x12 w.toNat)

def execJoinDecrement (g : Fin 256) (s : State) : Out := .next (s.joinDown g)

def execVmEnable (m : Master) (w : Word) (s : State) : Out :=
  .next (s.guardWrite m 0x60000 (w ||| 0x80000000).toNat (fun s => s.vmSet (w ||| 0x80000000).toNat))
/-- The write of `VM_CTRL` with EN = 0, its other fields as they stand. -/
def execVmDisable (m : Master) (s : State) : Out :=
  let w := s.regWord 0x60000 &&& 0x7FFFFFFF
  .next (s.guardWrite m 0x60000 w (fun s => s.vmSet w))
def execVmShutdownComplete (s : State) : Out := .next s.vmOff

def execVoiceGroupEnable (m : Master) (g : Fin 256) (w : Word) (s : State) : Out :=
  .next (s.guardWrite m (0x61000 + 16 * g) (w ||| 0x80000000).toNat (fun s => s.grpSet g (w ||| 0x80000000).toNat))
def execVoiceGroupDisable (m : Master) (g : Fin 256) (s : State) : Out :=
  let w := s.regWord (0x61000 + 16 * g) &&& 0x7FFFFFFF
  .next (s.guardWrite m (0x61000 + 16 * g) w (fun s => s.grpSet g w))

def execHostPostVoice (m : Master) (s : State) : Out :=
  .next (s.guardWrite m 0x50110 0x4000 (fun s => s.hostVoice m))

/-- Held events and voice words whose block is computed become READY (R165, R181). -/
def execHeldEventReady (s : State) : Out := .next s.releaseHeld.releaseWords

def execPipStart (c : Fin 64) (s : State) : Out := .next (s.pipStart c)
def execUrgentPreempt (c : Fin 64) (s : State) : Out := .next (s.preempt c)
def execQdoneComplete (c : Fin 64) (s : State) : Out := .next (s.qdoneDone c)

end Sys2Proof.Machine
end

