-- ==== Sys2Proof/Machine/Bramble.lean ====
section
/-! DEFINITION. Bramble, the routing fabric (R205 to R225): the quads, the LIVE and NEXT tables, swaps, crossfades, mutes,
and the movement of samples, each at the engine-sample instant that R208 gives it. -/

namespace Sys2Proof.Machine

/-- A source number that names nothing (R205). -/
def srcReserved (e : Nat) : Bool := decide (0x610 ≤ e) && decide (e < 0x6FF)
/-- A destination number that names nothing (R205). -/
def dstReserved (d : Nat) : Bool := decide (0x620 ≤ d) && decide (d < 0x700)
/-- The endpoint is a stream buffer channel. -/
def isSb (e : Nat) : Bool := decide (0x800 ≤ e)
/-- The source that is always zero. -/
def epSilence : Nat := 0x6FF
/-- The sources whose samples come from outside Orchard: all but stream buffers and SILENCE. -/
def isExternal (e : Nat) : Bool := !isSb e && decide (e ≠ epSilence)

namespace State

def setRoute (s : State) (d : Nat) (r : Route) : State :=
  { s with routes := tabSet natLt Route.reset s.routes d r }

def brmStatus (s : State) (v : Nat) : State := s.set F.BRM_SWAP_STATUS v

/-! ### Quads (R210 to R212) -/

def quadDepth (s : State) (q : Nat) : Nat := 2 + s.get (F.BRM_QUAD1_DEPTH q)

/-- The Orchard offset of sample `o` of block `j` of channel 4q + l (R210). -/
def quadAddr (s : State) (q l j o : Nat) : Nat :=
  s.get (F.BRM_QUAD0_BASE q) + ((j % s.quadDepth q) * s.blockLen + o) * 16 + 4 * l - orcBase

/-- The enabled entries of LIVE, or of NEXT, by destination. -/
def enabledEntries (s : State) (next : Bool) : List Nat :=
  let f := if next then F.NEXT_EN 0 else F.LIVE_EN 0
  (s.regs.filter (fun e => decide (e.1.1 = f.id) && decide (e.2 ≠ 0))).map (fun e => e.1.2)

def entrySrc (s : State) (next : Bool) (d : Nat) : Nat := if next then s.get (F.NEXT_SRC d) else s.get (F.LIVE_SRC d)

/-- The table names a channel of quad `q` in the role that a direction other than `out` gives it. -/
def quadMisused (s : State) (next : Bool) (q : Nat) (out : Bool) : Bool :=
  let inQ (e : Nat) : Bool := isSb e && decide ((e - 0x800) / 4 = q)
  (s.enabledEntries next).any (fun d => if out then inQ d else inQ (s.entrySrc next d))

/-- An enable that R211 refuses, word 1 already as written. -/
def quadBad (s : State) (q : Nat) : Bool :=
  let base := s.get (F.BRM_QUAD0_BASE q)
  let out := s.on (F.BRM_QUAD1_DIR q)
  let prod := s.get (F.BRM_QUAD1_PRODUCER q)
  decide (base % 16 ≠ 0) || !inOrchard base 1 || decide (s.get (F.BRM_QUAD1_DEPTH q) = 3) ||
  decide (0x100000 < base % 0x100000 + s.quadDepth q * 1024) ||
  (out && (s.on (F.PIP1_CLASS prod) || !s.on (F.PIP1_SINK prod))) ||
  s.quadMisused false q out || (decide (s.get F.BRM_SWAP_STATE = 1) && s.quadMisused true q out)

/-- A write of word `k` of `BRM_QUAD[q]` (R211, R501). -/
def quadSet (s : State) (q k w : Nat) : State :=
  if s.on (F.BRM_QUAD1_EN q) then
    if k = 1 ∧ natBit w 31 = false then (s.set (F.BRM_QUAD1_EN q) 0).brmStatus stOK else s.brmStatus stBUSY
  else if k = 0 then (s.put (F.BRM_QUAD0_BASE q) w).brmStatus stOK
  else
    let t := s.puts [F.BRM_QUAD1_EN q, F.BRM_QUAD1_DIR q, F.BRM_QUAD1_DEPTH q, F.BRM_QUAD1_PRODUCER q] w
    if natBit w 31 && t.quadBad q then s.brmStatus stBADARG else t.brmStatus stOK

/-! ### NEXT and swaps (R214 to R220) -/

/-- A NEXT word that R215 discards. -/
def nextBad (d w : Nat) : Bool :=
  dstReserved d || srcReserved ((F.NEXT_SRC d).of w) || decide ((F.NEXT_XS d).of w = 3) ||
  decide (1024 < (F.NEXT_XLEN d).of w)

/-- Word 0 of a NEXT entry stored. -/
def nextPut (s : State) (d w : Nat) : State := s.puts [F.NEXT_EN d, F.NEXT_XS d, F.NEXT_XLEN d, F.NEXT_SRC d] w

/-- A write of a NEXT entry's word 0 (R215). -/
def nextSet (s : State) (d w : Nat) : State :=
  if s.get F.BRM_SWAP_STATE ≠ 0 then s.brmStatus stBUSY
  else if nextBad d w then s.brmStatus stBADARG
  else (s.nextPut d w).brmStatus stOK

/-- A write of a NEXT entry's word 1, which holds nothing (R215). -/
def nextWord1 (s : State) (d : Nat) : State :=
  if s.get F.BRM_SWAP_STATE ≠ 0 then s.brmStatus stBUSY
  else if dstReserved d then s.brmStatus stBADARG
  else s.brmStatus stOK

/-- A stream buffer channel used against its enabled quad's direction. -/
def roleBad (s : State) (e : Nat) (asSource : Bool) : Bool :=
  let q := (e - 0x800) / 4
  isSb e && s.on (F.BRM_QUAD1_EN q) && (s.on (F.BRM_QUAD1_DIR q) != asSource)

/-- The first failing entry of NEXT, and why (R218). DEDUCED: log entry 37. -/
def swapFault (s : State) : Option (Nat × Nat) :=
  let ds := s.enabledEntries true
  match ds.findSome? (fun d =>
      let e := s.get (F.NEXT_SRC d)
      if isSb d && isSb e then some (d, 1)
      else if s.roleBad d false || s.roleBad e true then some (d, 2)
      else none) with
  | some r => some r
  | none => if s.multM = 4 ∧ 2048 < ds.length then (ds[2048]?).map (fun d => (d, 3)) else none

/-- The swap armed for sample `S` by a master, as R217 to R219 allow. -/
def swapArm (s : State) (id S : Nat) : State :=
  if s.get F.BRM_SWAP_STATE ≠ 0 then s.brmStatus stBUSY
  else if S < s.frc + 2 * s.blockLen then s.brmStatus stBADARG
  else match s.swapFault with
    | some (d, r) => ((s.set F.BRM_SWAP_BAD_DEST d).set F.BRM_SWAP_BAD_REASON r).brmStatus stBADARG
    | none => (((s.set F.BRM_SWAP_STATE 1).set F.BRM_SWAP_MASTER id).set I.SWAP_S S).brmStatus stOK

/-- DISARM (R219). -/
def swapDisarm (s : State) : State :=
  if s.get F.BRM_SWAP_STATE = 2 then s.brmStatus stBUSY else (s.set F.BRM_SWAP_STATE 0).brmStatus stOK

/-- A write of `BRM_SWAP` (R219, R504). -/
def swapSet (s : State) (m : Master) (w : Nat) : State :=
  if natBit w 4 && natBit w 5 then s.brmStatus stBADARG
  else if natBit w 4 then s.swapArm m.id (s.pair F.BRM_SWAP_FRC_LO_S F.BRM_SWAP_FRC_HI_S)
  else if natBit w 5 then s.swapDisarm
  else s.brmStatus stOK

/-- The destinations that LIVE or NEXT lists. -/
def listedDests (s : State) : List Nat :=
  ((s.regs.filter (fun e => decide (e.1.1 / 32 = (F.LIVE_EN 0).id / 32) || decide (e.1.1 / 32 = (F.NEXT_EN 0).id / 32))).map
    (fun e => e.1.2)).eraseDups

/-- Destination `d`'s NEXT entry becomes LIVE; a changed destination takes a change at S (R219, R220). -/
def swapDest (s : State) (S : Nat) (d : Nat) : State :=
  let changed := decide (s.get (F.NEXT_EN d) ≠ s.get (F.LIVE_EN d)) || decide (s.get (F.NEXT_SRC d) ≠ s.get (F.LIVE_SRC d))
  let w := s.get (F.NEXT_EN d) * 2 ^ 31 + s.get (F.NEXT_XS d) * 2 ^ 29 + s.get (F.NEXT_XLEN d) * 2 ^ 16 + s.get (F.NEXT_SRC d)
  let s := (((s.set (F.LIVE_EN d) (s.get (F.NEXT_EN d))).set (F.LIVE_XS d) (s.get (F.NEXT_XS d))).set (F.LIVE_XLEN d)
    (s.get (F.NEXT_XLEN d))).set (F.LIVE_SRC d) (s.get (F.NEXT_SRC d))
  if changed then s.setRoute d { s.route d with change := some (S, w) } else s

/-- The swap at tick F (R217, R219). -/
def swapTick (s : State) : State :=
  let S := s.get I.SWAP_S
  let F' := S - S % s.blockLen
  if s.get F.BRM_SWAP_STATE = 1 ∧ s.reached F' then
    (((s.listedDests.foldl (fun s d => s.swapDest S d) s).set F.BRM_SWAP_STATE 2).set I.SWAP_F F').raise 64
  else s

/-- The swap complete at tick F + 3 × B: NEXT holds a copy of LIVE (R219). -/
def swapDone (s : State) : State :=
  if s.get F.BRM_SWAP_STATE = 2 ∧ s.get I.SWAP_F + 3 * s.blockLen ≤ s.frc then
    let s := s.listedDests.foldl (fun s d =>
      (((s.set (F.NEXT_EN d) (s.get (F.LIVE_EN d))).set (F.NEXT_XS d) (s.get (F.LIVE_XS d))).set (F.NEXT_XLEN d)
        (s.get (F.LIVE_XLEN d))).set (F.NEXT_SRC d) (s.get (F.LIVE_SRC d))) s
    ((s.set F.BRM_SWAP_STATE 0).set F.BRM_SWAPCNT_N (s.get F.BRM_SWAPCNT_N + 1)).raise 65
  else s

/-! ### Sources (R223) -/

/-- A DIRECT receiver is framed at Fe: the code of its measured rate is that of Fe (R47, R206, R292). -/
def rxAtFe (s : State) (r : Nat) : Bool := decide (2 ^ s.get (F.AES_RXSTAT_NOM r) = 4 * s.multM)

/-- A DIRECT port is framed at Fe: a master by its rate, a slave as long as its clock is not lost (R206, R274). -/
def apAtFe (s : State) (n : Nat) : Bool :=
  !s.on (F.AP_CFG_MASTER n) || decide (2 ^ s.get (F.AP_CFG_MRATE n) = s.multM)

/-- The partner's engine is RUNNING: its last AUDIO or STATUS frame is of a block that a running partner reports now (R386,
R387). DEDUCED: log entry 69. -/
def partnerRuns (s : State) (j : Nat) : Bool := decide (j ≤ s.get I.TWN_SEEN + 3) && decide (s.get I.TWN_SEEN ≠ 0)

/-- Why a source is absent at the instant of sample `m`, none while it is present (R206, R223, R224). Which reason
`BRM_LOSTSRC` gives a unit that is ON and not framed at Fe is a DESIGN CHOICE: log entry 155. -/
def absentReason (s : State) (e m : Nat) : Option Nat :=
  let j := m / s.blockLen
  if e < 0x400 then
    let n := e / 32
    if s.get (F.AP_CTRL_STATE n) ≠ unitON ∨ s.on (F.AP_CFG_PATH n) ∨ s.apAtFe n = false ∨
        natBit (s.get (I.AP_IMASK n)) (e % 32) = false then some 1
    else if s.on (F.AP_STAT_CLKLOSS n) then some 3 else none
  else if e < 0x600 then
    let c := e - 0x400
    if s.on (I.ASRC_DEAD c) then some 2
    else if s.get (F.ASRC_CH_STATE c) ≠ unitON ∨ s.on (F.ASRC_CH_DIR c) ∨ s.on (I.ASRC_GONE c) then some 1 else none
  else if e < 0x610 then
    let r := (e - 0x600) / 2
    if s.get (F.AES_RXCTRL_STATE r) ≠ unitON ∨ s.on (F.AES_RXCFG_PATH r) then some 1
    else if !s.on (F.AES_RXSTAT_LOCK r) ∨ s.rxAtFe r = false then some 3 else none
  else if e = epSilence then none
  else if e < 0x700 then some 1
  else if e < 0x780 then
    if !s.on (I.HS_EN 0) ∨ s.get (F.HIF_HS_CFG_NCH 0) < e - 0x700 ∨ s.on (I.HS_SKIP 0) ∨ s.get (I.HS_OK (j % 4)) ≠ j + 1
    then some 1 else none
  else if e < 0x800 then
    if s.on F.TWN_CTRL_EN && s.on F.TWN_STAT_LANES && s.partnerRuns j then none else some 1
  else
    let q := (e - 0x800) / 4
    if !s.on (I.QUAD_EN q) ∨ !s.on (F.BRM_QUAD1_DIR q) ∨ s.on (I.QUAD_SKIP q) then some 4 else none

/-- A change of state, with event 66 and `BRM_LOSTSRC` for each of the sources `es` that it makes absent (R224). -/
def losing (s : State) (es : List Nat) (f : State → State) : State :=
  let t := f s
  (es.filter (fun e => (s.absentReason e s.frc).isNone)).foldl (fun u e =>
    match t.absentReason e t.frc with
    | some r => ((u.set F.BRM_LOSTSRC_REASON r).set F.BRM_LOSTSRC_SRC e).raise 66
    | none => u) t

/-- The producer of output quad `q` has not completed block `j` in time (R213). -/
def incomplete (s : State) (q j : Nat) : Bool :=
  let p := s.get (F.BRM_QUAD1_PRODUCER q)
  !s.on (I.PIP_DONE p) || decide (s.get (F.PIP14_LASTBLK p) ≠ j % 2 ^ 32) || decide (s.get (I.PIP_OVM p) = j + 1)

/-- The source is a channel of an output quad whose block in hand is incomplete. -/
def overrunMuted (s : State) (e : Nat) : Bool := isSb e && s.on (I.QUAD_INC ((e - 0x800) / 4))

/-- The Orchard offset of sample `o` of channel `c` of block `j` of host ring `d` (R375). -/
def ringAddr (s : State) (d c j o : Nat) : Nat :=
  let n := s.get (F.HIF_HS_CFG_NCH d) + 1
  s.get (F.HIF_HS_BASE_A d) + ((j % max (s.get (F.HIF_HS_CFG_DEPTH d)) 1) * s.blockLen + o) * n * 4 + 4 * c - orcBase

/-- What source `e` brought in at sample `m`, none if it was absent (R208). -/
def heldAt (s : State) (e m : Nat) : Option Int :=
  match s.hold.find? (fun h => decide (h.1 = m)) with
  | some h => (h.2.find? (fun x => decide (x.1 = e))).map (·.2)
  | none => none

/-- The word that a framed source brings in for sample `m`: zero (`cut`) for a frame that a framing error cut short, the last
sample again where R274 or R290 repeats it (`keep`), else the word from outside. -/
def framedWord (s : State) (e m width : Nat) (cut keep : Nat) : Int :=
  if cut = m + 1 then 0
  else if keep = m + 1 then (s.heldAt e (m - 1)).getD 0
  else portIn width (Config.inWord e s.free).toNat

/-- The sample that a present external source brings in at the instant of sample `m` (R8, R206, R273, R290). What comes from
outside the chip is free. DESIGN CHOICE: log entry 36. -/
def inSample (s : State) (e m : Nat) : Int :=
  let j := m / s.blockLen
  let o := m % s.blockLen
  if e < 0x400 then
    let n := e / 32
    s.framedWord e m (16 + 8 * s.get (F.AP_CFG_WIDTH n)) (s.get (I.AP_ZERO n)) (s.get (I.AP_REP n))
  else if e < 0x600 then
    scaled (sint 32 (Config.inWord e s.free).toNat) (64 - s.get (I.ASRC_ATT (e - 0x400))) 64
  else if e < 0x610 then
    scaled (s.framedWord e m 24 0 (s.get (I.AES_REP (e - 0x600)))) (16 - s.get (I.AES_ATT (e - 0x600))) 16
  else if e < 0x780 then sint 32 (s.orc32 (s.ringAddr 0 (e - 0x700) j o))
  else match s.twin.audio.find? (fun a => decide (a.1 = j) && decide (a.2.1 = e - 0x780)) with
    | some a => sint 32 (a.2.2.getD o 0)
    | none => 0

/-- The sample of stream FRC `m` of source `e`, none if the source is absent (R208, R223). -/
def sourceAt (s : State) (e m : Nat) : Option Int :=
  if e = epSilence then some 0
  else if isSb e then
    if (s.absentReason e m).isSome then none
    else some (sint 32 (s.orc32 (s.quadAddr ((e - 0x800) / 4) ((e - 0x800) % 4) (m / s.blockLen) (m % s.blockLen))))
  else s.heldAt e m

/-- A present source's contribution starts in service; an absent one's at zero. -/
def newContrib (s : State) (e m : Nat) : Contrib :=
  let gone := (s.sourceAt e m).isNone
  { src := e, w := 2 ^ 27, g := if gone then 0 else 16, held := 0, absent := gone, ovm := false }

end State

/-! ### One destination, sample by sample (R221 to R223) -/

/-- The narrowing of a product of two S5.27 values: round half up, and clamp (R6, R7). -/
def narrow27 (x : Int) : Int := clampI (-(2 ^ 31)) (2 ^ 31 - 1) ((x + 2 ^ 26) / 2 ^ 27)

/-- A contribution at one sample: its state after it, and its value (R223). -/
def Contrib.next (c : Contrib) (good : Bool) (x : Int) : Contrib × Int :=
  if good then
    let g := min 16 (c.g + 1)
    ({ c with g := g, held := x }, if g = 16 then x else (x * g + 8) / 16)
  else
    let g := c.g - 1
    ({ c with g := g }, (c.held * g + 8) / 16)

/-- The crossfade is in progress at sample `m`. -/
def Fade.inAt (f : Fade) (m : Nat) : Bool := decide (f.start ≤ m) && decide (m < f.start + f.len)

/-- A destination's value from its contributions' values at sample `m` (R221, R222). -/
def Route.mix (r : Route) (vs : List Int) (m : Nat) : Int :=
  match r.fade with
  | some f =>
    if f.inAt m then
      let olds := (r.cs.dropLast.zip vs.dropLast).foldl (fun a p => a + narrow27 (p.1.w * p.2)) 0
      let old := clampI (-(2 ^ 31)) (2 ^ 31 - 1) olds
      clampI (-(2 ^ 31)) (2 ^ 31 - 1)
        (narrow27 (fadeWeight f.shape (m - f.start) f.len false * old) +
         narrow27 (fadeWeight f.shape (m - f.start) f.len true * vs.getLastD 0))
    else vs.getLastD 0
  | none => vs.getLastD 0

/-- The outgoing sides of a new crossfade at S: a running crossfade freezes at S − 1 (R222). -/
def Route.outgoing (r : Route) (S : Nat) : List Contrib :=
  let last := r.cs.getLast?.map (fun c => { c with w := (2 ^ 27 : Int) })
  match r.fade, last with
  | _, none => []
  | some f, some c =>
    if f.inAt S then
      let t := S - 1 - f.start
      r.cs.dropLast.map (fun c => { c with w := narrow27 (fadeWeight f.shape t f.len false * c.w) }) ++
        [{ c with w := fadeWeight f.shape t f.len true }]
    else [c]
  | none, some c => [c]

namespace State

/-- A change taken at its sample S, before sample `m`: a cut, or a crossfade with at most two outgoing sources (R220 to
R222). -/
def takeChange (s : State) (d : Nat) (S w m : Nat) : State :=
  let r := s.route d
  let e := if natBit w 31 then natBits w 11 0 else epSilence
  let c := s.newContrib e m
  let xs := natBits w 30 29
  let len := natBits w 26 16
  if xs = 0 ∨ len = 0 then s.setRoute d { r with cs := [c], fade := none, change := none }
  else
    let outs := r.outgoing S
    let outs := if outs = [] then [s.newContrib epSilence m] else outs
    let s := if 2 < outs.length then (s.bump F.BRM_XDROP_N 1).raise 68 else s
    s.setRoute d { r with cs := outs.drop (outs.length - 2) ++ [c], fade := some ⟨S, xs, len⟩, change := none }

/-- How many samples a destination keeps: those of a block, and the two that R273's output frame lags. -/
def keptSamples (s : State) : Nat := s.blockLen + 2

/-- Sample `m` of a destination: its change, if due; its contributions one sample on; their mix, scaled by `tail` of 16ths
(or of another count) towards a stop, and zero while `zero` (R40, R41, R220 to R223). -/
def routeSample (s : State) (d m : Nat) (zero : Bool) (tail : Option (Nat × Nat)) : State :=
  let s := match (s.route d).change with
    | some (S, w) => if S ≤ m then s.takeChange d S w m else s
    | none => s
  let r := s.route d
  let steps := r.cs.map (fun c =>
    let x := s.sourceAt c.src m
    let mute := x.isSome && s.overrunMuted c.src
    let (c', v) := c.next (x.isSome && !mute) (x.getD 0)
    ({ c' with absent := x.isNone, ovm := mute }, v))
  let v := if zero then 0 else r.mix (steps.map (·.2)) m
  let v := match tail with
    | some (k, n) => scaled v k n
    | none => v
  s.setRoute d { r with cs := steps.map (·.1), pos := m + 1,
                        y := (r.y ++ [v]).drop (r.y.length + 1 - s.keptSamples) }

/-- The destinations with a running state. -/
def routed (s : State) (sb : Bool) : List Nat := (s.routes.map (·.1)).filter (fun d => isSb d == sb)

/-- The scale of sample `m` before a stop at `t`, which takes `span` samples (R40, R41). DEDUCED: log entry 10. -/
def tailScale (t span m : Nat) : Option (Nat × Nat) := if m < t ∧ t - 1 - m < span then some (t - 1 - m, span) else none

/-! ### Landing and draining (R208 to R213) -/

/-- The quads whose channels Bramble moves. -/
def quadsOn (s : State) : List Nat :=
  (s.regs.filter (fun e => decide (e.1.1 = (I.QUAD_EN 0).id) && decide (e.2 ≠ 0))).map (fun e => e.1.2)

/-- The little-endian bytes of one sample at an Orchard offset. -/
def sampleCells (off : Nat) (v : Int) : List Host.Cell := (leBytes (wrap 32 v) 4).zipIdx.map (fun e => (off + e.2, e.1))

/-- The external sources that anything listens to: LIVE's, the running contributions' and the source-side meter taps'. -/
def listened (s : State) : List Nat :=
  ((s.enabledEntries false).map (fun d => s.get (F.LIVE_SRC d)) ++ s.routes.flatMap (fun e => e.2.cs.map (·.src)) ++
    ((s.regs.filter (fun e => decide (e.1.1 = (I.MTAP_EN 0).id) && decide (e.2 ≠ 0))).map (fun e => e.1.2)).filterMap
      (fun k => if s.on (I.MTAP_SIDE k) then none else some (s.get (I.MTAP_EP k)))).eraseDups.filter isExternal

/-- What the external sources bring in at the instant of sample `m` is held for two blocks (R208). -/
def recordIn (s : State) (m : Nat) : State :=
  match s.listened with
  | [] => s
  | es => { s with
      hold := (m, es.filterMap (fun e => if (s.absentReason e m).isSome then none else some (e, s.inSample e m))) ::
        s.hold.filter (fun h => decide (h.1 < m) && decide (m ≤ h.1 + 2 * s.blockLen)),
      free := s.free + 1 }

/-- Sample `m` landed into the input quads: a destination without a source receives zeros (R208, R216). -/
def landSample (s : State) (m : Nat) : State :=
  let s := (s.routed true).foldl (fun s d => s.routeSample d m false none) s
  s.quadsOn.foldl (fun s q =>
    if s.on (F.BRM_QUAD1_DIR q) || s.on (I.QUAD_SKIP q) then s
    else s.orcWrite ((List.range 4).flatMap (fun l =>
      sampleCells (s.quadAddr q l (m / s.blockLen) (m % s.blockLen)) (s.receivedAt (0x800 + 4 * q + l) m)))) s

/-- The source of some contribution of a destination is a stream buffer. -/
def engineFed (s : State) (d : Nat) : Bool := (s.route d).cs.any (fun c => isSb c.src)

/-- Sample `m` of the host's output ring (R375). -/
def drainRing (s : State) (m : Nat) : State :=
  if !s.on (I.HS_EN 1) || s.on (I.HS_SKIP 1) then s
  else s.orcWrite ((List.range (s.get (F.HIF_HS_CFG_NCH 1) + 1)).flatMap (fun c =>
    sampleCells (s.ringAddr 1 c (m / s.blockLen) (m % s.blockLen)) (s.receivedAt (0x700 + c) m)))

/-- Sample `m` drained to the external destinations; `fed` says that its block was computed (R40, R208). -/
def drainSample (s : State) (m : Nat) (fed : Bool) (tail : Option (Nat × Nat)) : State :=
  ((s.routed false).foldl (fun s d => s.routeSample d m (!fed && s.engineFed d) tail) s).drainRing m

/-- The source reads and the destination writes of one sample counted (R218, R246). -/
def countMoves (s : State) (sb : Bool) : State :=
  let ds := s.routed sb
  let reads := (ds.map (fun d => (s.route d).cs.length)).foldl (· + ·) 0
  let writes := if sb then 4 * (s.quadsOn.filter (fun q => !s.on (F.BRM_QUAD1_DIR q))).length else ds.length
  (s.set I.BRM_RD (s.get I.BRM_RD + reads)).set I.BRM_WR (s.get I.BRM_WR + writes)

/-- Every external destination receives zero (R209). -/
def silenceAll (s : State) : State :=
  { s with hold := [], routes := s.routes.map (fun e => if isSb e.1 then e else (e.1, { e.2 with y := [] })) }

/-- What a quad's enable and ownership are for period `k`, which begins, and whether the block that it drains is incomplete
(R211 to R213). -/
def quadTick (s : State) (k q : Nat) : State :=
  let s := s.set (I.QUAD_EN q) (s.get (F.BRM_QUAD1_EN q))
  let s := s.flag (I.QUAD_INC q) (s.on (F.BRM_QUAD1_DIR q) && (decide (k < 2) || s.incomplete q (k - 2)))
  if s.on (I.QUAD_EN q) && !s.admits (bankOf (s.get (F.BRM_QUAD0_BASE q) - orcBase)) (.other 0x54) then
    (s.set (I.QUAD_SKIP q) 1).raise 67
  else s.set (I.QUAD_SKIP q) 0

/-- Enables and owners of quads and rings at tick `k` (R211, R212, R375). -/
def brmEnables (s : State) (k : Nat) : State :=
  let qs := ((s.regs.filter (fun e => decide (e.1.1 = (F.BRM_QUAD1_EN 0).id) || decide (e.1.1 = (I.QUAD_EN 0).id))).map
    (fun e => e.1.2)).eraseDups
  let s := qs.foldl (fun s q => s.quadTick k q) s
  [0, 1].foldl (fun s d =>
    let s := s.set (I.HS_EN d) (s.get (F.HIF_HS_CFG_EN d))
    if s.on (I.HS_EN d) && !(inOrchard (s.get (F.HIF_HS_BASE_A d)) 1 &&
        s.admits (bankOf (s.get (F.HIF_HS_BASE_A d) - orcBase)) (.other 0x54)) then
      (s.set (I.HS_SKIP d) 1).raise 67
    else s.set (I.HS_SKIP d) 0) s

/-- The sources whose presence a tick decides: channels of quads, of the host's input ring, and of the twin link. -/
def tickSources (s : State) : List Nat :=
  ((s.regs.filter (fun e => decide (e.1.1 = (I.QUAD_EN 0).id) || decide (e.1.1 = (F.BRM_QUAD1_EN 0).id))).map
    (fun e => e.1.2)).eraseDups.flatMap (fun q => (List.range 4).map (fun l => 0x800 + 4 * q + l)) ++
  (if s.on (I.HS_EN 0) then (List.range 128).map (0x700 + ·) else []) ++
  (if s.get I.TWN_SEEN = 0 then [] else (List.range 128).map (0x780 + ·))

/-- The sources that a tick has made absent: present for the sample before it in `old` (R224). -/
def lostAtTick (s old : State) : State :=
  (old.tickSources.filter (fun e => (old.absentReason e (old.frc - 1)).isNone)).foldl (fun u e =>
    match s.absentReason e s.frc with
    | some r => ((u.set F.BRM_LOSTSRC_REASON r).set F.BRM_LOSTSRC_SRC e).raise 66
    | none => u) s

/-! ### LIVE's status word (R214) -/

/-- The crossfade samples a destination still has to handle. -/
def xrem (s : State) (d : Nat) : Nat :=
  let r := s.route d
  match r.fade with
  | some f => f.start + f.len - max f.start r.pos
  | none => 0

/-- Word 1 of a LIVE entry. -/
def liveWord1 (s : State) (d : Nat) : Nat :=
  let r := s.route d
  let n := s.xrem d
  let used := if n = 0 then r.cs.drop (r.cs.length - 1) else r.cs
  b2n (decide (n ≠ 0)) * 2 ^ 31 + b2n (used.any (·.absent)) * 2 ^ 30 + b2n (used.any (·.ovm)) * 2 ^ 29 + n

/-- The end of a crossfade: the new source alone remains (R221). -/
def fadeEnd (s : State) (d : Nat) : State :=
  let r := s.route d
  if r.fade.isSome ∧ s.xrem d = 0 then s.setRoute d { r with fade := none, cs := r.cs.drop (r.cs.length - 1) } else s

end State

/-! ### The commands -/

def execQuadEnable (m : Master) (q : Fin 512) (w : Word) (s : State) : Out :=
  .next (s.guardWrite m (0x81004 + 8 * q) (w ||| 0x80000000).toNat (fun s => s.quadSet q 1 (w ||| 0x80000000).toNat))
/-- The write of word 1 with EN = 0, its other fields as they stand. -/
def execQuadDisable (m : Master) (q : Fin 512) (s : State) : Out :=
  let w := s.regWord (0x81004 + 8 * q) &&& 0x7FFFFFFF
  .next (s.guardWrite m (0x81004 + 8 * q) w (fun s => s.quadSet q 1 w))
def execNextEntryWrite (m : Master) (d : Fin 4096) (w : Word) (s : State) : Out :=
  .next (s.guardWrite m (0x908000 + 8 * d) w.toNat (fun s => s.nextSet d w.toNat))
def execSwapArm (m : Master) (s : State) : Out :=
  .next (s.guardWrite m 0x80000 0x10 (fun s => s.swapSet m 0x10))
def execSwapDisarm (m : Master) (s : State) : Out :=
  .next (s.guardWrite m 0x80000 0x20 (fun s => s.swapSet m 0x20))
def execSwapAtTick (s : State) : Out := .next s.swapTick
def execSwapComplete (s : State) : Out := .next s.swapDone
def execCrossfadeEnd (d : Fin 4096) (s : State) : Out := .next (s.fadeEnd d)

end Sys2Proof.Machine
end

