-- ==== Sys2Proof/Machine/Recall.lean ====
section
/-! DEFINITION. Scene recall (R236 to R239). -/

namespace Sys2Proof.Machine

/-- What is wrong with a scene entry, or the ramp it needs. -/
inductive EntryCheck where
  | ok | format | gain
deriving DecidableEq, Repr

/-- A route entry of a scene list (R236): everything but KIND and DEST is 0, and word 1 is a NEXT word that R215 takes. -/
def routeEntryOk (w0 w1 : Nat) : Bool :=
  natBit w0 31 && decide (natBits w0 30 12 = 0) && decide (natBits w1 28 27 = 0) && decide (natBits w1 15 12 = 0) &&
  !State.nextBad (natBits w0 11 0) w1

namespace State

def setRcl (s : State) (r : Option Recall) : State := { s with scn := { s.scn with rcl := r } }
def rclStatus (s : State) (v : Nat) : State := s.set F.SCN_RCL_STATUS v

/-- The address of entry `i` of a scene's list, and whether it lies in DRAM (R237). -/
def listAddr (s : State) (scene i : Nat) : Nat :=
  16 * (s.get (F.SCN_DIR0_SRCW scene) + 2 ^ 32 * s.get (F.SCN_DIR1_SRCWH scene)) + 8 * i

/-- Entry `i` cannot be read (R237). -/
def entryUnreadable (s : State) (scene i : Nat) : Bool :=
  let a := s.listAddr scene i
  if s.on (F.SCN_DIR1_D scene) then decide (s.dramSize < a + 8)
  else !inOrchard a 8 || !s.rangeAdmits (.other 0x53) a 8

/-- Entry `i`, word 0 and word 1. -/
def entryAt (s : State) (scene i : Nat) : Nat × Nat :=
  let b := s.srcBytes (s.on (F.SCN_DIR1_D scene)) (s.listAddr scene i) 8
  (leNat (b.take 4), leNat (b.drop 4))

/-- One entry judged (R236, R235). DEDUCED: log entry 38. -/
def entryCheck (s : State) (e : Nat × Nat) : EntryCheck :=
  if natBit e.1 31 then if routeEntryOk e.1 e.2 then .ok else .format
  else if !entryOk e.1 then .format
  else if s.vmGain (natBits e.1 15 0) then .gain else .ok

/-- The parameter entry needs a ramp. -/
def entryRamps (e : Nat × Nat) : Bool := !natBit e.1 31 && decide (natBits e.1 30 28 ≠ 0) && decide (entryLen e.1 ≠ 0)

/-- The list read and checked from entry `i`, with the parameters that need ramps so far (R238): the entries, or the
reason and number of the first that fails. -/
def checkList (s : State) (scene free : Nat) : Nat → Nat → List Nat → List (Nat × Nat) → Sum (Nat × Nat) (List (Nat × Nat) × Nat)
  | 0, _, ps, es => .inr (es.reverse, ps.length)
  | fuel + 1, i, ps, es =>
    if s.entryUnreadable scene i then .inl (4, i)
    else
      let e := s.entryAt scene i
      match s.entryCheck e with
      | .format => .inl (4, i)
      | .gain => .inl (3, i)
      | .ok =>
        let k := natBits e.1 15 0
        let ps := if entryRamps e && !ps.contains k then k :: ps else ps
        if free < ps.length then .inl (2, i) else checkList s scene free fuel (i + 1) ps (e :: es)

/-- The recall ends: reserved ramps freed, and its swap disarmed if one is armed (R238). -/
def recallEnd (s : State) (status : Nat) : State :=
  let armed := match s.scn.rcl with | some r => r.swap | none => false
  let s := if armed && decide (s.get F.BRM_SWAP_STATE = 1) then s.set F.BRM_SWAP_STATE 0 else s
  (((s.setRcl none).set F.SCN_RCL_STATE 0).set F.SCN_RAMPS_RSV 0).rclStatus status

/-- The recall abandoned, with event 57. -/
def recallAbandon (s : State) (status : Nat) : State := (s.recallEnd status).raise 57

/-- Abandoned for an entry, recorded in `SCN_REFUSE`. -/
def recallRefuse (s : State) (status reason src index : Nat) : State :=
  ((((s.set F.SCN_REFUSE_REASON reason).set F.SCN_REFUSE_MASTER src).set F.SCN_REFUSE_INDEX index).recallAbandon status)

/-- A request (R238): S is none for a command with NOW. -/
def recallRequest (s : State) (src scene : Nat) (S : Option Nat) : State :=
  if s.get F.SCN_RCL_STATE ≠ 0 then (s.refuseCmd 5 src scene).rclStatus stBUSY
  else if s.get F.SYS_ENGINE_STATE ≠ 2 then s.rclStatus stREFUSED
  else if (match S with | some t => decide (t < s.frc + 2 * s.blockLen) | none => false) ||
      decide (s.get (F.SCN_DIR1_COUNT scene) = 0) then s.rclStatus stBADARG
  else
    let r : Recall := { now := S.isNone, start := S.getD 0, scene := scene, src := src, entries := [], reserved := 0,
                        swap := false }
    (((s.setRcl (some r)).set F.SCN_RCL_STATE 1).set F.SCN_RCL_MASTER src).rclStatus stOK

/-- A RECALL command (R229, R238). -/
def recallCmd (s : State) (src w : Nat) : State :=
  if cmdBad w || decide (natBits w 79 72 ≠ 2) then s.refuseCmd 1 src (natBits w 47 32)
  else s.recallRequest src (natBits w 41 32) (if natBit w 64 then none else some (extend48 (w / 2 ^ 80) s.frc))

/-- A write of `SCN_RCL` (R238, R501, R504). -/
def rclSet (s : State) (m : Master) (w : Nat) : State :=
  let scene := natBits w 15 6
  if natBit w 4 && natBit w 5 then s.rclStatus stBADARG
  else if natBit w 4 then
    let t := s.recallRequest m.id scene (some (s.pair F.SCN_RCL_FRC_LO_S F.SCN_RCL_FRC_HI_S))
    if t.get F.SCN_RCL_STATUS = stOK then t.set F.SCN_RCL_SCENE scene else t
  else if natBit w 5 then (s.recallEnd stOK).set F.SCN_RCL_SCENE scene
  else s.set F.SCN_RCL_SCENE scene

/-- A recall whose S − 2 × B has passed before its list was checked (R238). -/
def recallLate (s : State) (r : Recall) : Bool := !r.now && decide (r.start < s.frc + 2 * s.blockLen)

/-- The TIMEOUT of STAGING (R238). -/
def recallTimeout (s : State) : State :=
  match s.scn.rcl with
  | some r => if s.get F.SCN_RCL_STATE = 1 ∧ s.recallLate r then s.recallAbandon stTIMEOUT else s
  | none => s

/-- The route entries of a checked list written to NEXT (R239). -/
def writeRoutes (s : State) (es : List (Nat × Nat)) : State :=
  es.foldl (fun s e => if natBit e.1 31 then s.nextPut (natBits e.1 11 0) e.2 else s) s

/-- The list has been checked (R238). -/
def recallChecked (s : State) : State :=
  match s.scn.rcl with
  | none => s
  | some r =>
    if s.get F.SCN_RCL_STATE ≠ 1 then s
    else if s.recallLate r then s.recallAbandon stTIMEOUT
    else match s.checkList r.scene s.rampsFree (s.get (F.SCN_DIR1_COUNT r.scene)) 0 [] [] with
      | .inl (reason, i) => s.recallRefuse (if reason = 2 then stREFUSED else stFORMAT) reason r.src i
      | .inr (es, n) =>
        let S := if r.now then s.earliest else r.start
        let routes := es.any (fun e => natBit e.1 31)
        let held (sw : Bool) (s : State) : State :=
          ((s.setRcl (some { r with start := S, entries := es, reserved := n, swap := sw })).set F.SCN_RAMPS_RSV n).set
            F.SCN_RCL_STATE 2
        if !routes then held false s
        else if s.get F.BRM_SWAP_STATE ≠ 0 then s.recallAbandon stBUSY
        else
          let s := (((s.writeRoutes es).set F.BRM_SWAP_FRC_LO_S (S % 2 ^ 32)).set F.BRM_SWAP_FRC_HI_S (S / 2 ^ 32)).swapArm
            0x53 S
          if s.get F.BRM_SWAP_STATUS = stOK then held true s else s.recallAbandon stBADARG

/-- The parameter commands of a checked list, with start S. -/
def recallCmds (r : Recall) : List PCmd :=
  (r.entries.filter (fun e => !natBit e.1 31)).map (fun e =>
    { prm := natBits e.1 15 0, n := r.start, v1 := sint 32 e.2, len := entryLen e.1, shape := natBits e.1 30 28,
      src := r.src })

/-- Tick F: the parameter entries apply with start S, after every command accepted before (R238). -/
def recallApply (s : State) : State :=
  match s.scn.rcl with
  | none => s
  | some r =>
    if s.get F.SCN_RCL_STATE = 2 ∧ s.reached (r.start - r.start % s.blockLen) then
      let s := ((s.applyHeld.setRcl none).set F.SCN_RCL_STATE 0).set F.SCN_RAMPS_RSV 0
      ((recallCmds r).foldl (fun s c => s.applyCmd c r.reserved) s).raise 56
    else s

end State

/-! ### The commands -/

def execRecallCommand (src : BitVec 8) (w : Quad) (s : State) : Out := .next (s.recallCmd src.toNat w.toNat)
def execRecallArm (m : Master) (scene : Fin 1024) (s : State) : Out :=
  .next (s.guardWrite m 0x70000 (scene.val * 2 ^ 6 + 0x10) (fun s => s.rclSet m (scene.val * 2 ^ 6 + 0x10)))
/-- The write of DISARM keeps SCENE. -/
def execRecallDisarm (m : Master) (s : State) : Out :=
  let w := s.get F.SCN_RCL_SCENE * 2 ^ 6 + 0x20
  .next (s.guardWrite m 0x70000 w (fun s => s.rclSet m w))

def execRecallTimeout (s : State) : Out := .next s.recallTimeout
def execRecallApply (s : State) : Out := .next s.recallApply

end Sys2Proof.Machine
end

