-- ==== Sys2Proof/Machine/Ports.lean ====
section
/-! DEFINITION. Audio ports, slot masks, start groups, ASRC channels and AES3 transceivers (R267 to R296). -/

namespace Sys2Proof.Machine

/-- Feature IDs (R25, R32, R296). -/
def fidPort (n : Nat) : Nat := 0x0900 + n
def fidAesRx (r : Nat) : Nat := 0x0B00 + r
def fidAesTx (t : Nat) : Nat := 0x0B08 + t

/-- Claim slots of the transceivers' balls (R296, R507). -/
def aesInSlot (r : Nat) : Nat := if r < 4 then 92 + r else [196, 228, 260, 292].getD (r - 4) 0
def aesOutSlot (t : Nat) : Nat := if t < 4 then 124 + t else [324, 356, 388, 420].getD (t - 4) 0

/-- The set bits of a mask. -/
def maskBits (m : Nat) : List Nat := (List.range 32).filter (fun b => natBit m b)

namespace State

/-! ### ASRC channels (R283 to R286) -/

def asrcSlot (s : State) (c : Nat) : Nat := 1088 + s.get (F.ASRC_CH_PHYS c)

/-- The channels a feature uses. -/
def asrcOf (s : State) (fid : Nat) : List Nat :=
  (s.regs.filter (fun e => decide (e.1.1 = (F.ASRC_CH_OWNER 0).id) && decide (e.2 = fid))).map (fun e => e.1.2)

/-- The source endpoints of a feature's channels. -/
def asrcSources (s : State) (fid : Nat) : List Nat := (s.asrcOf fid).map (0x400 + ·)

/-- The ratio tracker of a feature: ports 0–31, receivers, transmitters. -/
def trackerOf (fid : Nat) : Nat := if fid < 0x0B00 then fid - 0x0900 else fid - 0x0B00 + 32
/-- The feature behind a ratio tracker. -/
def trackerFid (t : Nat) : Nat := if t < 32 then fidPort t else fidAesRx (t - 32)

/-- A channel joins its tracker: with the exact ratio of a far clock derived from the root, locked at once, or with the
ratio of a tracker that is locked already (R285). -/
def asrcJoin (s : State) (fid : Nat) (exact : Option Nat) (c : Nat) : State :=
  match exact with
  | some r => ((s.set (F.ASRC_CH_LOCK c) 1).set (F.ASRC_RATIO_R c) r).raise 104
  | none =>
    let t := trackerOf fid
    if s.on (I.TRK_LOCK t) then (s.set (F.ASRC_CH_LOCK c) 1).set (F.ASRC_RATIO_R c) (s.get (I.TRK_RATIO t)) else s

/-- A channel set to work for a feature (R284). -/
def asrcTake (s : State) (fid : Nat) (dir : Nat) (exact : Option Nat) (c : Nat) : State :=
  let s := ((s.set (I.ASRC_EN c) 1).set (F.ASRC_CH_OWNER c) fid).set (F.ASRC_CH_DIR c) dir
  if s.get (F.ASRC_CH_STATE c) ≠ unitOFF then s
  else
    ((((s.set (F.ASRC_CH_STATE c) unitSTARTING).set (F.ASRC_CH_FREEW c) 0).set (F.ASRC_CH_RANGE c) 0).set (I.ASRC_ATT c) 0
      ).asrcJoin fid exact c

/-- A channel told to shut down: it fades from the level it has (R284). -/
def asrcDrop (s : State) (c : Nat) : State :=
  let s := s.set (I.ASRC_EN c) 0
  if s.get (F.ASRC_CH_STATE c) = unitOFF ∨ s.get (F.ASRC_CH_STATE c) = unitSHUTTING then s
  else (s.set (F.ASRC_CH_STATE c) unitSHUTTING).set (I.ASRC_ACC c) (s.get (I.ASRC_ATT c) * 2 ^ 24)

/-- All the channels of a feature told to shut down. -/
def asrcDropAll (s : State) (fid : Nat) : State := (s.asrcOf fid).foldl (fun s c => s.asrcDrop c) s

/-- A channel's claim and owner given up at OFF (R34, R283). -/
def asrcRelease (s : State) (c : Nat) : State :=
  ((((s.unclaim (s.get (F.ASRC_CH_OWNER c)) [s.asrcSlot c]).set (F.ASRC_CH_OWNER c) 0).set (F.ASRC_CH_LOCK c) 0).set
    (F.ASRC_RATIO_R c) 0).set (F.ASRC_CH_FREEW c) 0 |>.set (F.ASRC_CH_RANGE c) 0

/-- A channel's 64-sample fade has ended (R284). -/
def asrcOff (s : State) (c : Nat) : State :=
  if s.get (F.ASRC_CH_STATE c) = unitSHUTTING ∧ s.get (I.ASRC_ATT c) = 64 then
    if s.on (I.ASRC_EN c) then (s.set (F.ASRC_CH_STATE c) unitSTARTING).set (I.ASRC_ATT c) 0
    else (s.set (F.ASRC_CH_STATE c) unitOFF).asrcRelease c
  else s

/-- A channel's domain is locked and its far side delivers data (R284). -/
def asrcOn (s : State) (c : Nat) : State :=
  if s.get (F.ASRC_CH_STATE c) = unitSTARTING ∧ s.on (F.ASRC_CH_LOCK c) then s.set (F.ASRC_CH_STATE c) unitON else s

/-- The channels of a far clock freewheel, with event 105 (R286). -/
def asrcFreewheel (s : State) (fid : Nat) : State :=
  let cs := (s.asrcOf fid).filter (fun c => !s.on (F.ASRC_CH_FREEW c))
  if cs = [] then s else (cs.foldl (fun s c => s.set (F.ASRC_CH_FREEW c) 1) s).raise 105

/-- The far clock is back (R286). -/
def asrcReturn (s : State) (fid : Nat) : State := (s.asrcOf fid).foldl (fun s c => s.set (F.ASRC_CH_FREEW c) 0) s

/-- The ratio leaves the range of R283, and comes back (R286). -/
def asrcRange (s : State) (c : Nat) (out : Bool) : State :=
  if s.get (F.ASRC_CH_STATE c) ≠ unitON ∨ s.on (F.ASRC_CH_RANGE c) = out then s
  else if out then (s.set (F.ASRC_CH_RANGE c) 1).raise 106
  else s.set (F.ASRC_CH_RANGE c) 0

/-- An input channel ramps to zero, and stays there, while its far clock or its ratio is lost and until the tracker is
within LOCK again (R286). DEDUCED: log entry 156. -/
def asrcMuted (s : State) (c : Nat) : Bool :=
  s.on (F.ASRC_CH_FREEW c) || s.on (F.ASRC_CH_RANGE c) || !s.on (F.ASRC_CH_LOCK c)

/-- One engine sample of a channel's ramp: an input channel moves by a 64th, in or out; the fade of an output channel is
counted in far samples, by its ratio (R284, R286). -/
def asrcRamp (s : State) (c : Nat) : State :=
  let a := s.get (I.ASRC_ATT c)
  let st := s.get (F.ASRC_CH_STATE c)
  if st = unitSHUTTING then
    let r := s.get (F.ASRC_RATIO_R c)
    let step := if s.on (F.ASRC_CH_DIR c) ∧ r ≠ 0 then r else 2 ^ 24
    let acc := s.get (I.ASRC_ACC c) + step
    (s.set (I.ASRC_ACC c) acc).set (I.ASRC_ATT c) (min 64 (acc / 2 ^ 24))
  else if st = unitON ∧ s.get (F.ASRC_CH_DIR c) = 0 then
    s.set (I.ASRC_ATT c) (if s.asrcMuted c then min 64 (a + 1) else a - 1)
  else s

/-- One engine sample of every channel that is not OFF. -/
def asrcRamps (s : State) : State :=
  ((s.regs.filter (fun e => decide (e.1.1 = (F.ASRC_CH_STATE 0).id))).map (fun e => e.1.2)).foldl (fun s c => s.asrcRamp c) s

/-- What an output channel sends to its far side now (R283, R284). -/
def asrcSends (s : State) (c : Nat) : Int :=
  scaled (sint 32 (Config.farSample c s.tclk).toNat) (64 - s.get (I.ASRC_ATT c)) 64

/-! ### Ports (R267 to R281) -/

def apStatus (s : State) (n v : Nat) : State := s.set (F.AP_CTRL_STATUS n) v
def apSlots (s : State) (n : Nat) : Nat := if s.on (F.AP_CFG_I2S n) then 2 else s.get (F.AP_CFG_SLOTS n) + 1
def apWidth (s : State) (n : Nat) : Nat := 16 + 8 * s.get (F.AP_CFG_WIDTH n)
def apRate (s : State) (n : Nat) : Nat := 2 ^ s.get (F.AP_CFG_MRATE n)
def apBase (s : State) : Nat := if s.on I.RATE_F then 44100 else 48000
def apMaster (s : State) (n : Nat) : Bool := s.on (F.AP_CFG_MASTER n)

/-- The DIRECT endpoints of a port's slots, and those of its input channels. -/
def apSources (s : State) (n : Nat) : List Nat := (List.range 32).map (32 * n + ·) ++ s.asrcSources (fidPort n)

/-- The channels of a mask's slots. -/
def apChans (s : State) (n : Nat) (out : Bool) (mask : Nat) : List Nat :=
  if s.on (F.AP_CFG_PATH n) then
    (maskBits mask).map (fun b => (if out then s.get (F.AP_ASRC_OBASE n) else s.get (F.AP_ASRC_IBASE n)) + b)
  else []

/-- Masks that R272 refuses at an enable: a slot at or above SLOTS, or a channel number above 511. -/
def apMaskBad (s : State) (n im om : Nat) : Bool :=
  decide (2 ^ s.apSlots n ≤ im ||| om) || (s.apChans n false im ++ s.apChans n true om).any (fun c => decide (511 < c))

/-- An enable that R272 refuses. -/
def apBad (s : State) (n : Nat) : Bool :=
  let flen := s.get (F.AP_FRAME_FLEN n)
  let i2s := s.on (F.AP_CFG_I2S n)
  let r := s.apRate n
  (!i2s && decide (s.get (F.AP_CFG_FSW n) = 3)) || decide (s.get (F.AP_CFG_MRATE n) = 3) ||
  decide (s.get (F.AP_CFG_WIDTH n) = 3) || decide (flen < 16) || decide (2048 < flen) ||
  (if i2s then decide (flen % 2 ≠ 0) || decide (flen < 2 * s.apWidth n + 2)
   else decide (flen < s.get (F.AP_CFG_OFFSET n) + s.apSlots n * s.apWidth n)) ||
  (s.apMaster n && (!List.contains [32, 64, 128, 256, 512, 1024, 2048] flen || decide (49152000 < r * s.apBase * flen))) ||
  (s.apMaster n && !s.on (F.AP_CFG_PATH n) && decide (r ≠ s.multM)) ||
  s.apMaskBad n (s.get (F.AP_IMASK_M n)) (s.get (F.AP_OMASK_M n))

/-- The slots a port needs with given masks (R281). -/
def apNeeds (s : State) (n im om : Nat) : List Nat :=
  [n, 32 + n] ++ (if im = 0 then [] else [64 + n]) ++ (if om = 0 then [] else [96 + n]) ++
  (s.apChans n false im ++ s.apChans n true om).map s.asrcSlot

/-- The claims that a port keeps: those it needs, and the channels that still fade (R281). -/
def apKeeps (s : State) (n : Nat) (needs : List Nat) : List Nat :=
  needs ++ ((s.asrcOf (fidPort n)).filter (fun c => decide (s.get (F.ASRC_CH_STATE c) ≠ unitOFF))).map s.asrcSlot

/-- The exact ratio of a master's far clock, 8.24 (R285). -/
def apExact (s : State) (n : Nat) : Option Nat :=
  if s.apMaster n then some (s.apRate n * 2 ^ 24 / s.multM) else none

/-- The channels of the port's masks set to work. -/
def apTakeChans (s : State) (n im om : Nat) : State :=
  let ex := s.apExact n
  let s := (s.apChans n false im).foldl (fun s c => s.asrcTake (fidPort n) 0 ex c) s
  (s.apChans n true om).foldl (fun s c => s.asrcTake (fidPort n) 1 ex c) s

/-- The frame rate of a slave, measured from outside: within 0.5 % of Fe on the DIRECT path, else from 8 kHz to 384 kHz
(R270, R274), in 0.01 Hz. -/
def apMeasured (s : State) (n : Nat) (direct : Bool) : State :=
  let k := (Config.freeWord s.free).toNat
  let fe := s.rateHz * 100
  { s.set (F.AP_FRATE_R n) (if direct then fe - fe / 200 + k % (fe / 100 + 1) else 800000 + k % 37600001) with
    free := s.free + 1 }

/-- What the port measures of its frames: exact for a master (R269), else from outside. -/
def apMeasure (s : State) (n : Nat) : State :=
  if s.apMaster n then
    (s.set (F.AP_STAT_FLENM n) (s.get (F.AP_FRAME_FLEN n))).set (F.AP_FRATE_R n) (s.apRate n * s.apBase * 100)
  else
    let s := s.apMeasured n (!s.on (F.AP_CFG_PATH n))
    { s.set (F.AP_STAT_FLENM n) (16 + (Config.freeWord s.free).toNat % 2033) with free := s.free + 1 }

/-- Frames from a frame start at FRC `m` to the first frame that starts at or after `S` (R277). A slave's are taken at its
measured rate. DESIGN CHOICE: log entry 41. -/
def apFramesTo (s : State) (n m S : Nat) : Nat :=
  if s.apMaster n then ((S - m) * s.apRate n + s.multM - 1) / s.multM
  else ((S - m) * s.get (F.AP_FRATE_R n) + s.rateHz * 100 - 1) / (s.rateHz * 100)

/-- A port enters STARTING: it waits for its group's start, or leads in from its next frame start (R277, R278). -/
def apStart (s : State) (n : Nat) : State :=
  let s := [I.AP_FRM n, I.AP_ACC n, I.AP_STOP n, I.AP_FERR n, I.AP_FBAD n, F.AP_STAT_CLKLOSS n, F.AP_STAT_RATEERR n,
      F.AP_STAT_GWAIT n, I.AP_JOIN n].foldl (fun s f => s.set f 0)
    (((s.set (F.AP_CTRL_STATE n) unitSTARTING).flag (I.AP_HIZ n) s.standby).apMeasure n)
  if s.on (F.AP_CFG_GRPEN n) then
    let g := s.get (F.AP_CFG_GRP n)
    let joins := s.on (F.AP_GRP_STATE g) &&
      decide (s.get (F.AP_FRAME_LEAD n) < s.apFramesTo n s.frc (s.get (I.AP_GS g)))
    (s.set (F.AP_STAT_GWAIT n) 1).flag (I.AP_JOIN n) joins
  else s

/-- An enable (R272, R281): from OFF the port starts; while SHUTTING it starts again after OFF, and claims what masks
written meanwhile need beyond what it holds. DEDUCED: log entry 42. -/
def apEnable (s : State) (n : Nat) : State :=
  if s.apBad n then s.apStatus n stBADARG
  else
    let im := s.get (F.AP_IMASK_M n)
    let om := s.get (F.AP_OMASK_M n)
    s.withClaims (fidPort n) (s.apNeeds n im om) (F.AP_CTRL_STATUS n) (fun s =>
      let s := s.set (F.AP_CTRL_EN n) 1
      (if s.get (F.AP_CTRL_STATE n) = unitOFF then (s.apTakeChans n im om).apStart n else s).apStatus n stOK)

/-- SHUTTING begins; the port's channels fade too, and a reference that follows its FSYNC goes (R48, R276, R284). -/
def apShut (s : State) (n : Nat) : State :=
  s.losing (s.apSources n) (fun s =>
    [I.AP_FRM n, I.AP_STOP n, F.AP_STAT_GWAIT n, I.AP_JOIN n].foldl (fun s f => s.set f 0)
      (((s.set (F.AP_CTRL_STATE n) unitSHUTTING).asrcDropAll (fidPort n)).refDrop 3 n))

/-- The enable cleared: a start-up is abandoned at once; from ON the port goes on to its next frame start (R38, R276). -/
def apDisable (s : State) (n : Nat) : State :=
  let s := s.set (F.AP_CTRL_EN n) 0
  if s.get (F.AP_CTRL_STATE n) = unitSTARTING then s.apShut n
  else if s.get (F.AP_CTRL_STATE n) = unitON then s.set (I.AP_STOP n) 1
  else s

/-- A write of `APn_CTRL` (R38, R276). -/
def apCtrlSet (s : State) (n w : Nat) : State :=
  if natBit w 4 = s.on (F.AP_CTRL_EN n) then s.apStatus n stOK
  else if natBit w 4 then s.apEnable n
  else (s.apDisable n).apStatus n stOK

/-- The port is on its way to a group's start: its own lead, counted towards S, and S itself (R277). -/
def apGroupWait (s : State) (n : Nat) : Bool :=
  s.on (I.AP_JOIN n) && decide (s.frc < s.get (I.AP_GS (s.get (F.AP_CFG_GRP n))))

/-- The lead frames have passed: a master counts its own; a slave's come from outside (R276, R277). -/
def apLed (s : State) (n : Nat) : Bool :=
  !s.apGroupWait n &&
  if s.apMaster n then !s.on (F.AP_STAT_GWAIT n) && decide (s.get (F.AP_FRAME_LEAD n) < s.get (I.AP_FRM n))
  else !s.on (F.AP_STAT_GWAIT n) || s.on (I.AP_JOIN n)

/-- The first data frame (R276). -/
def apOn (s : State) (n : Nat) : State :=
  if s.get (F.AP_CTRL_STATE n) = unitSTARTING ∧ s.apLed n ∧ s.get (F.AP_STAT_CLKLOSS n) = 0 then
    (([F.AP_STAT_GWAIT n, I.AP_JOIN n, I.AP_ONEW n].foldl (fun s f => s.set f 0) (s.set (F.AP_CTRL_STATE n) unitON)
      ).raiseCause (72 + n) 0)
  else s

/-- The masks written while the port was not OFF apply (R280). -/
def apMasks (s : State) (n : Nat) : State :=
  (((s.set (I.AP_IMASK n) (s.get (F.AP_IMASK_M n))).set (I.AP_OMASK n) (s.get (F.AP_OMASK_M n))).set
    (F.AP_STAT_MPEND n) 0).set (I.AP_MRDY n) 0

/-- Balls, and channels at OFF, released; channels still fading keep theirs (R34, R281). -/
def apReleaseAll (s : State) (n : Nat) : State :=
  let s := s.unclaimBut (fidPort n) (s.apKeeps n [])
  (s.asrcOf (fidPort n)).foldl (fun s c => if s.get (F.ASRC_CH_STATE c) = unitOFF then s.asrcRelease c else s) s

/-- The 16 frames of the fade and the TAIL frames have passed; a slave's come from outside, and wait for its clock
(R276). -/
def apTailed (s : State) (n : Nat) : Bool :=
  decide (s.get (F.AP_STAT_CLKLOSS n) = 0) &&
  (!s.apMaster n || decide (16 + s.get (F.AP_FRAME_TAIL n) < s.get (I.AP_FRM n)))

/-- OFF is reached; an enable set again restarts the port (R276, R38). -/
def apShutDone (s : State) (n : Nat) : State :=
  if s.get (F.AP_CTRL_STATE n) = unitSHUTTING ∧ s.apTailed n then
    let s := ((s.apMasks n).raiseCause (72 + n) 1).set (I.TRK_LOCK n) 0
    if s.on (F.AP_CTRL_EN n) then
      let im := s.get (F.AP_IMASK_M n)
      let om := s.get (F.AP_OMASK_M n)
      ((s.unclaimBut (fidPort n) (s.apKeeps n (s.apNeeds n im om))).apTakeChans n im om).apStart n
    else (s.set (F.AP_CTRL_STATE n) unitOFF).apReleaseAll n
  else s

def apSlave (s : State) (n : Nat) : Bool := !s.apMaster n && decide (s.get (F.AP_CTRL_STATE n) ≠ unitOFF)

/-- A slave has lost its clock (R279, R274, R286). -/
def apLost (s : State) (n : Nat) (rateErr : Bool) : State :=
  if !s.apSlave n || s.on (F.AP_STAT_CLKLOSS n) || (rateErr && s.on (F.AP_CFG_PATH n)) then s
  else
    s.losing (s.apSources n) (fun s =>
      let s := if rateErr then s.apMeasured n false else s
      (((s.set (F.AP_STAT_CLKLOSS n) 1).flag (F.AP_STAT_RATEERR n) rateErr).raiseCause (72 + n) 2).asrcFreewheel (fidPort n))

/-- A framing error of a slave: framing restarts at the new FSYNC, the words of the incomplete frame are zero, and the
fourth in a row loses the clock (R270, R279). -/
def apFraming (s : State) (n : Nat) : State :=
  if s.apSlave n then
    let s := (((s.bump (F.AP_CNT_FRAMEERR n) 1).set (I.AP_ZERO n) (s.frc + 1)).set (I.AP_FBAD n) 1).raiseCause (72 + n) 5
    let s := (s.set (I.AP_ACC n) 0).set (I.AP_FERR n) (min 4 (s.get (I.AP_FERR n) + 1))
    if s.get (I.AP_FERR n) = 4 then s.apLost n false else s
  else s

/-- A slip of a slave on the DIRECT path (R274): two frames start in the interval, and the earlier word is dropped, or
none does, and the last one is repeated. -/
def apSlip (s : State) (n : Nat) (again : Bool) : State :=
  if s.apSlave n && !s.on (F.AP_CFG_PATH n) then
    ((if again then s.set (I.AP_REP n) (s.frc + 1) else s).bump (F.AP_CNT_SLIP n) 1).raiseCause (72 + n) 4
  else s

/-- 16 good frames in a row (R279). -/
def apBack (s : State) (n : Nat) : State :=
  if s.on (F.AP_STAT_CLKLOSS n) then
    ([F.AP_STAT_CLKLOSS n, F.AP_STAT_RATEERR n, I.AP_FERR n, I.AP_FBAD n].foldl (fun s f => s.set f 0) s).raiseCause
      (72 + n) 3 |>.asrcReturn (fidPort n)
  else s

/-! ### Frames (R267 to R271, R276 to R280) -/

/-- The frames of port `n` that start in the TCLK periods from `t0` to `t1`, and what is left of a slave's frame: a master's
count from the root counter, a slave's run at its measured rate, one to a sample on the DIRECT path, and none while its
clock is lost (R269, R273, R276). -/
def apFrames (s : State) (n t0 t1 : Nat) : Nat × Nat :=
  if s.apMaster n then (t1 * s.apRate n / 1024 - t0 * s.apRate n / 1024, 0)
  else if s.on (F.AP_STAT_CLKLOSS n) then (0, s.get (I.AP_ACC n))
  else if !s.on (F.AP_CFG_PATH n) then (1, 0)
  else
    let a := s.get (I.AP_ACC n) + (t1 - t0) * s.get (F.AP_FRATE_R n)
    (a / (s.tclkHz * 100), a % (s.tclkHz * 100))

/-- The TCLK edges at which those frames start; a slave's are taken at the sample's end. -/
def apFrameEdges (s : State) (n t0 t1 : Nat) : List Nat :=
  let k := (s.apFrames n t0 t1).1
  if s.get (F.AP_CTRL_STATE n) = unitOFF then []
  else if s.apMaster n then
    (List.range k).map (fun i => ((t0 * s.apRate n / 1024 + 1 + i) * 1024 + s.apRate n - 1) / s.apRate n)
  else List.replicate k t1

/-- A frame start of a port that waits for its group's start: its lead begins LEAD frames before the first data frame
(R277). -/
def apLeadIn (s : State) (n m : Nat) : State :=
  let j := s.apFramesTo n m (s.get (I.AP_GS (s.get (F.AP_CFG_GRP n))))
  let lead := s.get (F.AP_FRAME_LEAD n)
  if s.on (I.AP_JOIN n) ∧ j ≤ lead then (s.set (F.AP_STAT_GWAIT n) 0).set (I.AP_FRM n) (lead + 1 - j) else s

/-- `k` frame starts of port `n`, at FRC `m`. -/
def apFrame (s : State) (n m k : Nat) : State :=
  let st := s.get (F.AP_CTRL_STATE n)
  let s := if s.on (I.AP_FBAD n) then s.set (I.AP_FBAD n) 0 else s.set (I.AP_FERR n) 0
  let s := ((if s.on (F.AP_STAT_MPEND n) then s.set (I.AP_MRDY n) 1 else s).set (I.AP_ONEW n) 0).flag (I.AP_HIZ n) s.standby
  if st = unitON then
    if s.on (I.AP_STOP n) then (s.apShut n).set (I.AP_FRM n) k else s
  else if st = unitSTARTING ∧ s.on (F.AP_STAT_GWAIT n) then s.apLeadIn n m
  else s.set (I.AP_FRM n) (s.get (I.AP_FRM n) + k)

/-- The time from TCLK `t0` to `t1` passes for the ports that are not OFF; FRC is then `m`. -/
def apPass (s : State) (m t0 t1 : Nat) : State :=
  ((s.regs.filter (fun e => decide (e.1.1 = (F.AP_CTRL_STATE 0).id))).map (fun e => e.1.2)).foldl (fun s n =>
    let (k, acc) := s.apFrames n t0 t1
    let s := s.set (I.AP_ACC n) acc
    if k = 0 then s else s.apFrame n m k) s

/-- The balls' drivers are enabled: the port has left OFF, and the chip is no standby (R282). At a takeover a master's change
hands at the tick, a slave's at its first frame start from then on (R393). -/
def apDriven (s : State) (n : Nat) : Bool :=
  decide (s.get (F.AP_CTRL_STATE n) ≠ unitOFF) && !(if s.apMaster n then s.standby else s.on (I.AP_HIZ n))

/-- A master's clocks run (R276). -/
def apClocked (s : State) (n : Nat) : Bool :=
  let st := s.get (F.AP_CTRL_STATE n)
  s.apMaster n && (decide (2 ≤ st) || (decide (st = 1) && decide (s.get (I.AP_FRM n) ≠ 0)))

/-- Root periods in a BCLK period of a master, and the sampling edges since its frame start (R269). -/
def apBclkPeriod (s : State) (n : Nat) : Nat := 65536 / (s.apRate n * max 1 (s.get (F.AP_FRAME_FLEN n)))
def apEdge (s : State) (n : Nat) : Nat := s.rootCount % (65536 / s.apRate n) / max 1 (s.apBclkPeriod n)

/-- The level that a master drives on BCLK: the sampling edge is the rising one with BCKPOL = 0, and the idle level low
(R267, R276); none where it does not drive. -/
def apBclk (s : State) (n : Nat) : Option Bool :=
  if s.apMaster n && s.apDriven n then
    let p := s.apBclkPeriod n
    some (if s.apClocked n then decide (s.rootCount % p < p / 2) != s.on (F.AP_CFG_BCKPOL n) else s.on (F.AP_CFG_BCKPOL n))
  else none

/-- BCLK periods for which FSYNC is active (R269): the low half of the word clock in I²S mode (R268). -/
def apFsyncWidth (s : State) (n : Nat) : Nat :=
  if s.on (F.AP_CFG_I2S n) ∨ s.get (F.AP_CFG_FSW n) = 2 then s.get (F.AP_FRAME_FLEN n) / 2
  else if s.get (F.AP_CFG_FSW n) = 1 then s.apWidth n else 1

/-- The level that a master drives on FSYNC: active from the launch edge before the frame start (R267 to R269). -/
def apFsync (s : State) (n : Nat) : Option Bool :=
  if s.apMaster n && s.apDriven n then
    let p := s.apBclkPeriod n
    let active := s.apClocked n &&
      decide ((s.rootCount + p / 2) % (p * s.get (F.AP_FRAME_FLEN n)) < p * s.apFsyncWidth n)
    some (active != (s.on (F.AP_CFG_I2S n) || s.on (F.AP_CFG_FSPOL n)))
  else none

/-- The first sampling edge of a slot (R267, R268). -/
def apSlotEdge (s : State) (n k : Nat) : Nat :=
  if s.on (F.AP_CFG_I2S n) then 1 + k * (s.get (F.AP_FRAME_FLEN n) / 2) else s.get (F.AP_CFG_OFFSET n) + k * s.apWidth n

/-- The slot whose bit time holds a sampling edge of the frame, if one does. -/
def apSlotAt (s : State) (n edge : Nat) : Option Nat :=
  (List.range (s.apSlots n)).find? (fun k =>
    decide (s.apSlotEdge n k ≤ edge) && decide (edge < s.apSlotEdge n k + s.apWidth n))

/-- The sample that the frame in progress carries in output slot `k`: what the endpoint received two samples ago (R273), or
what its ASRC channel sends (R275). -/
def apSample (s : State) (n k : Nat) : Int :=
  if s.on (F.AP_CFG_PATH n) then s.asrcSends (s.get (F.AP_ASRC_OBASE n) + k)
  else s.receivedAt (32 * n + k) (s.frc - 2 * s.blockLen - 2)

/-- The word that SDO carries in slot `k` of the frame in progress, none where it is high-impedance (R8, R271, R276,
R280, R282). -/
def apSlotWord (s : State) (n k : Nat) : Option Nat :=
  let st := s.get (F.AP_CTRL_STATE n)
  if !s.apDriven n || natBit (s.get (I.AP_OMASK n)) k = false || decide (s.apSlots n ≤ k) ||
      (decide (st = unitSTARTING) && decide (s.get (I.AP_FRM n) = 0)) then none
  else if st = unitON ∧ natBit (s.get (I.AP_ONEW n)) k = false then some (portOut (s.apWidth n) (s.apSample n k))
  else if st = unitSHUTTING ∧ 1 ≤ s.get (I.AP_FRM n) ∧ s.get (I.AP_FRM n) ≤ 16 then
    some (portOut (s.apWidth n) (scaled (s.apSample n k) (16 - s.get (I.AP_FRM n)) 16))
  else some 0

/-- The bit that SDO carries at a sampling edge of the frame in progress, MSB first (R267, R271). -/
def apSdo (s : State) (n edge : Nat) : Option Bool :=
  (s.apSlotAt n edge).bind (fun k =>
    (s.apSlotWord n k).map (fun w => natBit w (s.apWidth n - 1 - (edge - s.apSlotEdge n k))))

/-! ### Masks (R280, R281) -/

def apMaskFld (n : Nat) (out : Bool) : Fld := if out then F.AP_OMASK_M n else F.AP_IMASK_M n

/-- A write of a mask that waits for a frame start, or for OFF (R280). -/
def apMaskPend (s : State) (n : Nat) (out : Bool) (w : Nat) : State :=
  (((s.set (apMaskFld n out) w).set (F.AP_STAT_MPEND n) 1).set (I.AP_MRDY n) 0).apStatus n stOK

/-- A write of a mask (R280, R281). DEDUCED: log entry 42. -/
def apMaskSet (s : State) (n : Nat) (out : Bool) (w : Nat) : State :=
  let st := s.get (F.AP_CTRL_STATE n)
  let bad := if st = unitSHUTTING then s.apMaskBad n (if out then 0 else w) (if out then w else 0)
    else (s.apChans n out w).any (fun c => decide (511 < c))
  if st = unitOFF then ((s.set (apMaskFld n out) w).apMasks n).apStatus n stOK
  else if st = unitSHUTTING ∧ s.get (F.AP_CTRL_EN n) = 0 then s.apMaskPend n out w
  else if bad then s.apStatus n stBADARG
  else
    let need := (if w = 0 then [] else [if out then 96 + n else 64 + n]) ++ (s.apChans n out w).map s.asrcSlot
    s.withClaims (fidPort n) need (F.AP_CTRL_STATUS n) (fun s => s.apMaskPend n out w)

/-- Pending masks apply at a frame start that follows the write (R280, R281): an added output slot sends zero in this
frame, and what the masks no longer need is released, a channel once it is OFF. -/
def apMaskApply (s : State) (n : Nat) : State :=
  let st := s.get (F.AP_CTRL_STATE n)
  if s.on (F.AP_STAT_MPEND n) ∧ s.on (I.AP_MRDY n) ∧ (st = unitSTARTING ∨ st = unitON) then
    s.losing (s.apSources n) (fun s =>
      let im := s.get (F.AP_IMASK_M n)
      let om := s.get (F.AP_OMASK_M n)
      let keep := s.apChans n false im ++ s.apChans n true om
      let s := (s.asrcOf (fidPort n)).foldl (fun s c => if keep.contains c then s else s.asrcDrop c) s
      let s := s.set (I.AP_ONEW n) (om &&& (2 ^ 32 - 1 ^^^ s.get (I.AP_OMASK n)))
      let s := (s.apMasks n).apTakeChans n im om
      s.unclaimBut (fidPort n) (s.apKeeps n (s.apNeeds n im om)))
  else s

/-- A write of `APn_CFG`, `APn_FRAME` or `APn_ASRC` (R272). -/
def apPlain (s : State) (n a w : Nat) : State :=
  if s.get (F.AP_CTRL_STATE n) ≠ unitOFF then s.apStatus n stBUSY else s.plainStore a w (fun s => s.apStatus n stOK)

/-! ### Start groups (R277, R278) -/

def apGroupS (s : State) (g : Nat) : Nat := s.pair (F.AP_GRP_FRC_LO_S g) (F.AP_GRP_FRC_HI_S g)

/-- The ports that wait for group `g`'s start, and those that take part in it. -/
def apWaiting (s : State) (g : Nat) : List Nat :=
  (List.range 32).filter (fun n => s.on (F.AP_STAT_GWAIT n) && decide (s.get (F.AP_CFG_GRP n) = g))
def apJoined (s : State) (g : Nat) : List Nat :=
  (List.range 32).filter (fun n => s.on (I.AP_JOIN n) && decide (s.get (F.AP_CFG_GRP n) = g))

/-- DISARM: the members go on waiting, those in their lead too (R277). -/
def apDisarm (s : State) (g : Nat) : State :=
  if s.on (F.AP_GRP_STATE g) then
    ((s.apJoined g).foldl (fun s n => ((s.set (I.AP_JOIN n) 0).set (F.AP_STAT_GWAIT n) 1).set (I.AP_FRM n) 0) s).set
      (F.AP_GRP_STATE g) 0
  else s

/-- A write of `AP_GRP[g]` (R277, R504); S is taken at the arm. -/
def apGroupSet (s : State) (g w : Nat) : State :=
  if natBit w 4 && natBit w 5 then s.set (F.AP_GRP_STATUS g) stBADARG
  else if natBit w 4 then
    if s.on (F.AP_GRP_STATE g) then s.set (F.AP_GRP_STATUS g) stBUSY
    else if s.apGroupS g < s.frc + 1024 + 2 * s.blockLen then s.set (F.AP_GRP_STATUS g) stBADARG
    else
      ((((s.apWaiting g).foldl (fun s n => s.set (I.AP_JOIN n) 1) s).set (F.AP_GRP_STATE g) 1).set (I.AP_GS g)
        (s.apGroupS g)).set (F.AP_GRP_STATUS g) stOK
  else if natBit w 5 then (s.apDisarm g).set (F.AP_GRP_STATUS g) stOK
  else s

/-- Instant S of group `g`: the group is IDLE, and its members go on to their first data frame, their next frame start if
none of their frames starts at S (R277). -/
def apGroupStart (s : State) (g : Nat) : State :=
  if s.on (F.AP_GRP_STATE g) ∧ s.get (I.AP_GS g) ≤ s.frc then
    ((s.apJoined g).foldl (fun s n =>
      (if s.on (F.AP_STAT_GWAIT n) then (s.set (F.AP_STAT_GWAIT n) 0).set (I.AP_FRM n) (s.get (F.AP_FRAME_LEAD n)) else s).set
        (I.AP_JOIN n) 0) s).set (F.AP_GRP_STATE g) 0
  else s

/-! ### AES3 receivers (R289 to R292) -/

def rxStatus (s : State) (r v : Nat) : State := s.set (F.AES_RXCTRL_STATUS r) v
/-- The channels of a transceiver on the ASRC path. -/
def aesChans (path : Bool) (base : Nat) : List Nat := if path then [base, base + 1] else []

/-- The sources that a receiver feeds: its subframes and its channels. -/
def rxSources (s : State) (r : Nat) : List Nat := [0x600 + 2 * r, 0x601 + 2 * r] ++ s.asrcSources (fidAesRx r)

/-- The transmitters that follow a receiver (R293). -/
def txFollowing (s : State) (r : Nat) : List Nat :=
  (List.range 8).filter (fun t => s.on (F.AES_TXCFG_SRC t) && decide (s.get (F.AES_TXCFG_RX t) = r) &&
    decide (s.get (F.AES_TXCTRL_STATE t) ≠ unitOFF))

/-- Lock is gained, with its event; the far clock of the receiver's channels, and of those of the transmitters that follow
it, is back (R286, R289, R293). The rate is within 0.5 % of a nominal code's, or any that a receiver takes. -/
def rxLock (s : State) (r nom : Nat) : State :=
  if s.get (F.AES_RXCTRL_STATE r) = unitON ∧ s.get (F.AES_RXSTAT_LOCK r) = 0 then
    let k := (Config.freeWord s.free).toNat
    let hz := if nom = 1 then 3200000 else s.apBase * 100 * 2 ^ (nom - 2)
    let rate := if nom = 0 then 3150000 + k % 16250001 else hz - hz / 200 + k % (hz / 100 + 1)
    let s := ((s.drawn.set (F.AES_RXSTAT_LOCK r) 1).set (F.AES_RXSTAT_NOM r) nom).set (I.RX_RATE r) rate
    ((s.raiseCause (112 + r) 0).txFollowing r).foldl (fun s t => s.asrcReturn (fidAesTx t))
      ((s.raiseCause (112 + r) 0).asrcReturn (fidAesRx r))
  else s

/-- Lock is lost, with its event; a following transmitter holds its rate (R48, R286, R289, R293). -/
def rxUnlock (s : State) (r : Nat) : State :=
  if s.on (F.AES_RXSTAT_LOCK r) then
    s.losing (s.rxSources r) (fun s =>
      let s := (((s.set (F.AES_RXSTAT_LOCK r) 0).raiseCause (112 + r) 1).asrcFreewheel (fidAesRx r)).refDrop 2 r
      (s.txFollowing r).foldl (fun s t => s.asrcFreewheel (fidAesTx t)) s)
  else s

/-- A write of `AES_RXCTRL` (R292, R296): a receiver has no start or shutdown sequence of its own, and one that is disabled
loses its lock. DEDUCED: log entry 40. -/
def rxCtrlSet (s : State) (r w : Nat) : State :=
  let want := natBit w 4
  let cs := aesChans (s.on (F.AES_RXCFG_PATH r)) (s.get (F.AES_RXCFG_ABASE r))
  if want = s.on (F.AES_RXCTRL_EN r) then s.rxStatus r stOK
  else if want then
    if cs.any (fun c => decide (511 < c)) then s.rxStatus r stBADARG
    else s.withClaims (fidAesRx r) (aesInSlot r :: cs.map s.asrcSlot) (F.AES_RXCTRL_STATUS r) (fun s =>
      ((cs.foldl (fun s c => s.asrcTake (fidAesRx r) 0 none c) s).set (F.AES_RXCTRL_EN r) 1).set (F.AES_RXCTRL_STATE r) unitON
        |>.rxStatus r stOK)
  else
    s.rxUnlock r |>.losing (s.rxSources r) (fun s =>
      (((((s.asrcDropAll (fidAesRx r)).set (F.AES_RXCTRL_EN r) 0).set (F.AES_RXCTRL_STATE r) unitOFF).set
        (I.TRK_LOCK (32 + r)) 0).unclaim (fidAesRx r) [aesInSlot r]).rxStatus r stOK)

/-- One engine sample of a subframe's ramp: out while its samples have V = 1 and VMUTE is set, else in (R290). -/
def aesRamp (s : State) (r u : Nat) : State :=
  let a := s.get (I.AES_ATT (2 * r + u))
  let out := s.on (F.AES_RXCFG_VMUTE r) && Config.inV (0x600 + 2 * r + u) s.free
  s.set (I.AES_ATT (2 * r + u)) (if out then min 16 (a + 1) else a - 1)

/-- One engine sample of the subframes of every receiver that is ON. -/
def aesRamps (s : State) : State :=
  ((s.regs.filter (fun e => decide (e.1.1 = (F.AES_RXCTRL_STATE 0).id))).map (fun e => e.1.2)).foldl (fun s r =>
    (s.aesRamp r 0).aesRamp r 1) s

/-- The AES3 check byte over the first 23 bytes of a block: x⁸ + x⁴ + x³ + x² + 1, preset to ones, first bit first. -/
def crccStep (c : Nat) (b : Bool) : Nat :=
  let fb := natBit c 7 != b
  let c := c * 2 % 256
  if fb then c ^^^ 0x1D else c
/-- PRESUMED: log entry 39. -/
def crcc (cs : Nat) : Nat :=
  let c := (List.range 184).foldl (fun c k => crccStep c (natBit cs k)) 0xFF
  (List.range 8).foldl (fun r k => r + 2 ^ k * b2n (natBit c (7 - k))) 0

/-- The words of a received block. -/
def rxWords (s : State) (r u : Nat) (cs us : Nat) : State :=
  (List.range 6).foldl (fun s k =>
    (s.set (if u = 0 then F.AES_RXCS0_W r k else F.AES_RXCS1_W r k) (cs / 2 ^ (32 * k))).set
      (if u = 0 then F.AES_RXU0_W r k else F.AES_RXU1_W r k) (us / 2 ^ (32 * k))) s

/-- Bit `u` of a two-bit field. -/
def setBit2 (s : State) (f : Fld) (u : Nat) (b : Bool) : State :=
  s.set f (if b then s.get f ||| 2 ^ u else s.get f &&& (3 ^^^ 2 ^ u))

/-- A block of subframe `u` is complete (R291). -/
def rxBlock (s : State) (r u len cs us : Nat) : State :=
  if !s.on (F.AES_RXSTAT_LOCK r) then s
  else if len ≠ 192 then s.bump (F.AES_RXCNT_BLKERR r) 1
  else
    let pro := natBit cs 0
    let bad := pro && decide (natBits cs 191 184 ≠ crcc cs)
    let s := (((s.rxWords r u cs us).setBit2 (F.AES_RXSTAT_PRO r) u pro).setBit2 (F.AES_RXSTAT_CRCERR r) u bad).raiseCause
      (112 + r) 2
    if bad then (s.bump (F.AES_RXCNT_BLKERR r) 1).raiseCause (112 + r) 3 else s

/-- A subframe with a parity error: counted, and the previous good sample stands in for it (R290). -/
def rxParity (s : State) (r u : Nat) : State :=
  if s.on (F.AES_RXSTAT_LOCK r) then (s.bump (F.AES_RXCNT_PERR r) 1).set (I.AES_REP (2 * r + u)) (s.frc + 1) else s

/-! ### Trackers (R285) -/

/-- The far clock of a tracker comes from outside: a slave port's, a receiver's, and that of a transmitter that follows
one; and its feature is in service. -/
def trackerRuns (s : State) (t : Nat) : Bool :=
  if t < 32 then s.apSlave t
  else if t < 40 then s.on (F.AES_RXCTRL_EN (t - 32))
  else s.on (F.AES_TXCFG_SRC (t - 40)) && decide (s.get (F.AES_TXCTRL_STATE (t - 40)) ≠ unitOFF)

/-- A tracker reports LOCK, for all its channels. -/
def asrcLocked (s : State) (t ratio : Nat) : State :=
  if s.trackerRuns t then
    ((s.asrcOf (trackerFid t)).foldl (fun s c => (s.set (F.ASRC_CH_LOCK c) 1).set (F.ASRC_RATIO_R c) ratio)
      ((s.set (I.TRK_LOCK t) 1).set (I.TRK_RATIO t) ratio)).raise 104
  else s

/-! ### AES3 transmitters (R293 to R295) -/

def txStatus (s : State) (t v : Nat) : State := s.set (F.AES_TXCTRL_STATUS t) v

/-- An enable that R293 refuses. -/
def txBad (s : State) (t : Nat) : Bool :=
  let nom := s.get (F.AES_TXCFG_NOM t)
  let src := s.on (F.AES_TXCFG_SRC t)
  let asrc := s.on (F.AES_TXCFG_PATH t)
  decide (nom = 0) || decide (4 < nom) || (!src && decide (nom = 1) && s.on I.RATE_F) ||
  (!asrc && (src || decide (nom = 1) || decide (2 ^ (nom - 2) ≠ s.multM))) ||
  (asrc && decide (510 < s.get (F.AES_TXCFG_ABASE t)))

/-- The exact ratio of a root-derived transmitter, 8.24. -/
def txExact (s : State) (t : Nat) : Option Nat :=
  if s.on (F.AES_TXCFG_SRC t) then none
  else
    let nom := s.get (F.AES_TXCFG_NOM t)
    some (if nom = 1 then 2 * 2 ^ 24 / (3 * s.multM) else 2 ^ (nom - 2) * 2 ^ 24 / s.multM)

def txChans (s : State) (t : Nat) : List Nat := aesChans (s.on (F.AES_TXCFG_PATH t)) (s.get (F.AES_TXCFG_ABASE t))

/-- The channels of a transmitter set to work. -/
def txTake (s : State) (t : Nat) : State :=
  let ex := s.txExact t
  (s.txChans t).foldl (fun s c => s.asrcTake (fidAesTx t) 1 ex c) s

/-- SHUTTING begins: zero to the end of the current block, and through one further block (R295). -/
def txShut (s : State) (t : Nat) : State :=
  let blocks := (s.get (I.TX_FRM t) + 191) / 192
  ((s.set (F.AES_TXCTRL_EN t) 0).set (F.AES_TXCTRL_STATE t) unitSHUTTING |>.set (I.TX_END t) (192 * (blocks + 1) + 1)
    ).asrcDropAll (fidAesTx t)

/-- STARTING begins, at the transmitter's first frame (R295). -/
def txStart (s : State) (t : Nat) : State :=
  let s := [I.TX_FRM t, I.TX_ACC t, I.TX_ZAT t].foldl (fun s f => s.set f 0) (s.txTake t)
  (s.flag (I.TX_HIZ t) s.standby).set (F.AES_TXCTRL_STATE t) unitSTARTING

/-- A write of `AES_TXCTRL` (R293, R295, R296). -/
def txCtrlSet (s : State) (t w : Nat) : State :=
  let st := s.get (F.AES_TXCTRL_STATE t)
  if natBit w 4 = s.on (F.AES_TXCTRL_EN t) then s.txStatus t stOK
  else if natBit w 4 then
    if s.txBad t then s.txStatus t stBADARG
    else s.withClaims (fidAesTx t) (aesOutSlot t :: (s.txChans t).map s.asrcSlot) (F.AES_TXCTRL_STATUS t) (fun s =>
      let s := s.set (F.AES_TXCTRL_EN t) 1
      (if st = unitOFF then s.txStart t else s).txStatus t stOK)
  else (if st = unitSHUTTING then s.set (F.AES_TXCTRL_EN t) 0 else s.txShut t).txStatus t stOK

/-- The rate of a transmitter that follows a receiver: the receiver's last, which it holds while that is unlocked (R293). -/
def txRate (s : State) (t : Nat) : Nat := s.get (I.RX_RATE (s.get (F.AES_TXCFG_RX t)))

/-- Frames of the transmitter that start in the TCLK periods from `t0` to `t1`, and what is left: at the root-derived rate
of NOM, or at that of the receiver followed (R293). -/
def txFrames (s : State) (t t0 t1 : Nat) : Nat × Nat :=
  if s.on (F.AES_TXCFG_SRC t) then
    let a := s.get (I.TX_ACC t) + (t1 - t0) * s.txRate t
    (a / (s.tclkHz * 100), a % (s.tclkHz * 100))
  else
    let p := if s.get (F.AES_TXCFG_NOM t) = 1 then 1536 else 1024 / 2 ^ (s.get (F.AES_TXCFG_NOM t) - 2)
    (t1 / p - t0 / p, 0)

/-- The time from TCLK `t0` to `t1` passes for the transmitters that are not OFF; a frame whose number is a multiple of 192
begins with a Z preamble. -/
def txPass (s : State) (t0 t1 : Nat) : State :=
  ((s.regs.filter (fun e => decide (e.1.1 = (F.AES_TXCTRL_STATE 0).id))).map (fun e => e.1.2)).foldl (fun s t =>
    let (k, acc) := s.txFrames t t0 t1
    let n := s.get (I.TX_FRM t)
    let s := if k = 0 then s else s.flag (I.TX_HIZ t) s.standby
    let s := (s.set (I.TX_ACC t) acc).set (I.TX_FRM t) (n + k)
    if (n + 191) / 192 = (n + k + 191) / 192 then s else s.set (I.TX_ZAT t) (t1 + 1)) s

/-- ON at the next Z preamble (R295). -/
def txOnNow (s : State) (t : Nat) : State := s.startDone (F.AES_TXCTRL_STATE t) (fun s => s.raiseCause (120 + t) 0)

/-- The block of zero audio has been sent: one that follows a receiver is counted outside. -/
def txOn (s : State) (t : Nat) : State :=
  if s.on (F.AES_TXCFG_SRC t) ∨ 192 < s.get (I.TX_FRM t) then s.txOnNow t else s

/-- The last block has been sent, and the ball is low (R295). -/
def txOffNow (s : State) (t : Nat) : State :=
  s.shutDone (F.AES_TXCTRL_EN t) (F.AES_TXCTRL_STATE t)
    (fun s => ((s.set (I.TRK_LOCK (40 + t)) 0).unclaim (fidAesTx t) [aesOutSlot t]).raiseCause (120 + t) 1)
    (fun s => (s.raiseCause (120 + t) 1).txStart t)

def txOff (s : State) (t : Nat) : State :=
  if s.on (F.AES_TXCFG_SRC t) ∨ s.get (I.TX_END t) ≤ s.get (I.TX_FRM t) then s.txOffNow t else s

def txWord (t u : Nat) (user : Bool) (k : Nat) : Fld :=
  match user, u with
  | false, 0 => F.AES_TXCS0_W t k
  | false, _ => F.AES_TXCS1_W t k
  | true, 0 => F.AES_TXU0_W t k
  | true, _ => F.AES_TXU1_W t k

/-- The sets of a transmitter: 2 × user + u. -/
def txSet (u : Nat) (user : Bool) : Nat := 2 * b2n user + u

/-- A write of word `k` of a set; word 5 stages the set as it then stands (R294). -/
def txSetWord (s : State) (t u : Nat) (user : Bool) (k w : Nat) : State :=
  let s := (s.set (txWord t u user k) w).txStatus t stOK
  if k = 5 then
    let s := (List.range 6).foldl (fun s k =>
      s.set (I.AES_TXS (24 * t + 6 * txSet u user + k)) (s.get (txWord t u user k))) s
    (s.set (I.AES_TXP t) (s.get (I.AES_TXP t) ||| 2 ^ txSet u user)).set (I.AES_TXAT (4 * t + txSet u user)) s.tclk
  else s

/-- TCLK periods in a frame of the transmitter. -/
def txPeriod (s : State) (t : Nat) : Nat :=
  if s.on (F.AES_TXCFG_SRC t) then s.tclkHz * 100 / max 1 (s.txRate t)
  else if s.get (F.AES_TXCFG_NOM t) = 1 then 1536 else 1024 / 2 ^ (s.get (F.AES_TXCFG_NOM t) - 2)

/-- The staged sets that the last Z preamble takes: those written at least one frame before it (R294). -/
def txDue (s : State) (t : Nat) : List Nat :=
  (List.range 4).filter (fun k => natBit (s.get (I.AES_TXP t)) k && decide (s.get (F.AES_TXCTRL_STATE t) ≠ unitOFF) &&
    decide (s.get (I.AES_TXAT (4 * t + k)) + s.txPeriod t < s.get (I.TX_ZAT t)))

/-- Staged sets apply at a Z preamble (R294). -/
def txApply (s : State) (t : Nat) : State :=
  match s.txDue t with
  | [] => s
  | ks =>
    (ks.foldl (fun s k =>
      ((List.range 6).foldl (fun s i => s.set (I.AES_TXE (24 * t + 6 * k + i)) (s.get (I.AES_TXS (24 * t + 6 * k + i)))) s).set
        (I.AES_TXP t) (s.get (I.AES_TXP t) &&& (15 ^^^ 2 ^ k))) s).raiseCause (120 + t) 2

/-! ### What a transmitter sends (R293 to R295) -/

/-- It sends audio: ON, and the receiver that it follows, if any, is locked. -/
def txAudio (s : State) (t : Nat) : Bool :=
  decide (s.get (F.AES_TXCTRL_STATE t) = unitON) &&
  (!s.on (F.AES_TXCFG_SRC t) || s.on (F.AES_RXSTAT_LOCK (s.get (F.AES_TXCFG_RX t))))

/-- The destination that feeds a subframe. -/
def txDest (s : State) (t u : Nat) : Nat :=
  if s.on (F.AES_TXCFG_PATH t) then 0x400 + s.get (F.AES_TXCFG_ABASE t) + u else 0x600 + 2 * t + u

/-- The 24-bit audio word of a subframe of the frame in progress (R8, R290, R293). Its place in the stream is that of R273.
DEDUCED: log entry 157. -/
def txAudioWord (s : State) (t u : Nat) : Nat :=
  if !s.txAudio t then 0
  else if s.on (F.AES_TXCFG_PATH t) then portOut 24 (s.asrcSends (s.get (F.AES_TXCFG_ABASE t) + u))
  else portOut 24 (s.receivedAt (s.txDest t u) (s.frc - 2 * s.blockLen - 2))

/-- The V bit of a subframe (R293, R294, R295). -/
def txV (s : State) (t u : Nat) : Bool :=
  !s.txAudio t || s.on (F.AES_TXCFG_VAL t) ||
  (s.on (F.AES_TXCFG_VAUTO t) && natBits (s.liveWord1 (s.txDest t u)) 30 29 != 0)

/-- A staged set in effect, as the 192 bits of a block. -/
def txBlockBits (s : State) (t k : Nat) : Nat :=
  (List.range 6).foldl (fun x i => x + s.get (I.AES_TXE (24 * t + 6 * k + i)) * 2 ^ (32 * i)) 0

/-- The channel status sent in a subframe: set A's unless CSSEP is set, with byte 23 computed for a professional block if
CRCGEN is set (R294). -/
def txStatusBits (s : State) (t u : Nat) : Nat :=
  let x := s.txBlockBits t (if s.on (F.AES_TXCFG_CSSEP t) then u else 0)
  if s.on (F.AES_TXCFG_CRCGEN t) && natBit x 0 then x % 2 ^ 184 + crcc x * 2 ^ 184 else x

/-- The user bits sent in a subframe. -/
def txUserBits (s : State) (t u : Nat) : Nat := if s.on (F.AES_TXCFG_UEN t) then s.txBlockBits t (2 + u) else 0

/-- The number of the frame in progress within its block. -/
def txFrameNo (s : State) (t : Nat) : Nat := (s.get (I.TX_FRM t) - 1) % 192

/-- Time slots 4 to 31 of a subframe of the frame in progress: the word, V, U, C and even parity P (R290, R294). None where
the ball carries no frame: held high-impedance on a standby (R282), which changes hands at a frame start (R393), or low
(R295). -/
def txSubframe (s : State) (t u : Nat) : Option Nat :=
  if s.get (F.AES_TXCTRL_STATE t) = unitOFF ∨ s.get (I.TX_FRM t) = 0 ∨ s.on (I.TX_HIZ t) then none
  else
    let i := s.txFrameNo t
    let x := s.txAudioWord t u + b2n (s.txV t u) * 2 ^ 24 + b2n (natBit (s.txUserBits t u) i) * 2 ^ 25 +
      b2n (natBit (s.txStatusBits t u) i) * 2 ^ 26
    some (x + (bits x (List.range 27)) % 2 * 2 ^ 27)

/-- The level of a transmitter's ball while it carries no frame: high-impedance on a standby, else low (R282, R295). -/
def txIdle (s : State) (t : Nat) : Option Bool := if s.on (I.TX_HIZ t) then none else some false

end State

/-! ### The commands -/

def execPortEnable (m : Master) (n : Fin 32) (s : State) : Out :=
  .next (s.guardWrite m (0x90000 + 0x400 * n) 0x10 (fun s => s.apCtrlSet n 0x10))
def execPortDisable (m : Master) (n : Fin 32) (s : State) : Out :=
  .next (s.guardWrite m (0x90000 + 0x400 * n) 0 (fun s => s.apCtrlSet n 0))
def execPortOn (n : Fin 32) (s : State) : Out := .next (s.apOn n)
def execPortShutdownComplete (n : Fin 32) (s : State) : Out := .next (s.apShutDone n)
def execPortFramingError (n : Fin 32) (s : State) : Out := .next (s.apFraming n)
def execPortSlip (x : Slip) (s : State) : Out := .next (s.apSlip x.port x.again)
def execPortClockLost (n : Fin 32) (rateErr : Bool) (s : State) : Out := .next (s.apLost n rateErr)
def execPortClockReturn (n : Fin 32) (s : State) : Out := .next (s.apBack n)
def execMaskWrite (m : Master) (n : Fin 32) (out : Bool) (mask : Word) (s : State) : Out :=
  .next (s.guardWrite m (0x9000C + 0x400 * n + 4 * b2n out) mask.toNat (fun s => s.apMaskSet n out mask.toNat))
def execMaskApply (n : Fin 32) (s : State) : Out := .next (s.apMaskApply n)
def execPortGroupArm (m : Master) (g : Fin 8) (s : State) : Out :=
  .next (s.guardWrite m (0x98000 + 16 * g) 0x10 (fun s => s.apGroupSet g 0x10))
def execPortGroupDisarm (m : Master) (g : Fin 8) (s : State) : Out :=
  .next (s.guardWrite m (0x98000 + 16 * g) 0x20 (fun s => s.apGroupSet g 0x20))
def execPortGroupStart (g : Fin 8) (s : State) : Out := .next (s.apGroupStart g)

def execAsrcLock (t : Fin 48) (ratio : Word) (s : State) : Out := .next (s.asrcLocked t ratio.toNat)
def execAsrcChannelOn (c : Fin 512) (s : State) : Out := .next (s.asrcOn c)
def execAsrcChannelOff (c : Fin 512) (s : State) : Out := .next (s.asrcOff c)
def execAsrcRangeError (c : Fin 512) (s : State) : Out := .next (s.asrcRange c true)
def execAsrcRangeReturn (c : Fin 512) (s : State) : Out := .next (s.asrcRange c false)

def execAesRxEnable (m : Master) (r : Fin 8) (s : State) : Out :=
  .next (s.guardWrite m (0xB0000 + 0x100 * r) 0x10 (fun s => s.rxCtrlSet r 0x10))
def execAesRxDisable (m : Master) (r : Fin 8) (s : State) : Out :=
  .next (s.guardWrite m (0xB0000 + 0x100 * r) 0 (fun s => s.rxCtrlSet r 0))
def execAesRxLock (r : Fin 8) (nom : Fin 5) (s : State) : Out := .next (s.rxLock r nom)
def execAesRxUnlock (r : Fin 8) (s : State) : Out := .next (s.rxUnlock r)
def execAesBlockStored (r : Fin 8) (u : Fin 2) (len : Nat) (cs us : BitVec 192) (s : State) : Out :=
  .next (s.rxBlock r u len cs.toNat us.toNat)
def execAesSubframeParityError (r : Fin 8) (u : Fin 2) (s : State) : Out := .next (s.rxParity r u)
def execAesTxEnable (m : Master) (t : Fin 8) (s : State) : Out :=
  .next (s.guardWrite m (0xB1000 + 0x100 * t) 0x10 (fun s => s.txCtrlSet t 0x10))
def execAesTxDisable (m : Master) (t : Fin 8) (s : State) : Out :=
  .next (s.guardWrite m (0xB1000 + 0x100 * t) 0 (fun s => s.txCtrlSet t 0))
def execAesTxOn (t : Fin 8) (s : State) : Out := .next (s.txOn t)
def execAesTxOff (t : Fin 8) (s : State) : Out := .next (s.txOff t)
def execAesTxCsWrite (m : Master) (t : Fin 8) (u : Fin 2) (user : Bool) (w : Word) (s : State) : Out :=
  .next (s.guardWrite m (0xB1054 + 0x100 * t + 32 * u + 64 * b2n user) w.toNat
    (fun s => s.txSetWord t u user 5 w.toNat))
def execAesTxCsApply (t : Fin 8) (s : State) : Out := .next (s.txApply t)

end Sys2Proof.Machine
end

