-- ==== Sys2Proof/Machine/Timers.lean ====
section
/-! DEFINITION. Timers and counters (R297 to R315). Time passes for them with every sample, step by step where something
happens; a command that names a lap start, a match, a start or an end lets it pass up to that edge within the sample. -/

namespace Sys2Proof.Machine

def fidTmr (n : Nat) : Nat := 0x0C00 + n
/-- Claim slots of `TOUT` k and `TIN` k (R507). -/
def toutSlot (k : Nat) : Nat := if k < 16 then (6 + k) * 32 else (k - 10) * 32 + 1
def tinSlot (k : Nat) : Nat := if k < 16 then (6 + k) * 32 + 2 else (k - 10) * 32 + 3

/-- An output action applied to a level: none, set, clear, toggle (R310). -/
def outAct (act level : Nat) : Nat :=
  match act with
  | 0 => level
  | 1 => 1
  | 2 => 0
  | _ => 1 - level

namespace State

def tmStatus (s : State) (n v : Nat) : State := s.set (F.TMR_CTRL_STATUS n) v
def tmState (s : State) (n : Nat) : Nat := s.get (F.TMR_CTRL_STATE n)

/-- The members of the cascade whose lowest channel is `n` (R300). -/
def tmMembers (s : State) (n : Nat) : List Nat :=
  n :: ((List.range 63).takeWhile (fun i => decide (n + 1 + i < 64) && s.on (F.TMR_MODE_CASC (n + 1 + i)))).map
    (fun i => n + 1 + i)

/-- TCLK runs (R57, R67, R471, R481). -/
def tclkRuns (s : State) : Bool := s.on I.CLK_STARTED && decide (s.get F.SYS_PWR_STATE ≠ 3) && !s.on I.PW_HOLD

/-- The TCLK edge that has been reached: the present sample's first, or a later one of it that a command has led up to.
DEDUCED: log entry 43. -/
def tmNow (s : State) : Nat := max s.tclk (s.get I.TM_NOW)

/-- The TCLK of a step of channel `n`. -/
def tmPre (s : State) (n : Nat) : Nat := s.get (F.TMR_MODE_PRE n) + 1

/-- The count of a channel at an edge up to which nothing happens after its last step that did something (R297, R300). -/
def tmCountAt (s : State) (n t : Nat) : Nat :=
  if s.on (F.TMR_MODE_CASC n) ∨ s.get (I.TMR_RUN n) = 0 then s.get (I.TMR_BASE n)
  else (s.get (I.TMR_BASE n) + (t - s.get (I.TMR_AT n)) / s.tmPre n) % 2 ^ 32

/-- The live count. -/
def tmCount (s : State) (n : Nat) : Nat := s.tmCountAt n s.tmNow

/-- The last step of a counting channel taken as the present one. -/
def tmRebase (s : State) (n : Nat) : State :=
  if s.on (F.TMR_MODE_CASC n) ∨ s.get (I.TMR_RUN n) = 0 then s
  else
    let k := (s.tmNow - s.get (I.TMR_AT n)) / s.tmPre n
    (s.set (I.TMR_BASE n) ((s.get (I.TMR_BASE n) + k) % 2 ^ 32)).set (I.TMR_AT n) (s.get (I.TMR_AT n) + k * s.tmPre n)

def tmLevel (s : State) (n act : Nat) : State := s.set (F.TMR_STAT_LEVEL n) (outAct act (s.get (F.TMR_STAT_LEVEL n)))

/-! ### The two compares -/

def cmpLive (n : Nat) (b : Bool) : Fld := if b then F.TMR_CMPB_V n else F.TMR_CMPA_V n
def cmpPend (n : Nat) (b : Bool) : Fld := if b then I.TMR_PB n else I.TMR_PA n
def cmpFlag (n : Nat) (b : Bool) : Fld := if b then F.TMR_STAT_BPEND n else F.TMR_STAT_APEND n
def cmpSoft (n : Nat) (b : Bool) : Fld := if b then I.TMR_WB n else I.TMR_WA n
def cmpMatched (n : Nat) (b : Bool) : Fld := if b then I.TMR_MB n else I.TMR_MA n
def cmpInt (n : Nat) (b : Bool) : Fld := if b then F.TMR_INTB_V n else F.TMR_INTA_V n
def cmpAct (s : State) (n : Nat) (b : Bool) : Nat := (s.get (I.TMR_OUTE n) / (if b then 1 else 4)) % 4

/-- A write of a compare (R306, R308, R309); while the channel is OFF no lap is in progress and the value is live at once. -/
def cmpSet (s : State) (n : Nat) (b : Bool) (v : Nat) : State :=
  let s := (s.tmStatus n stOK).tmRebase n
  if s.on (F.TMR_MODE_KX4CMP n) then s.set (cmpLive n b) v
  else if s.tmState n = unitOFF then (s.set (cmpLive n b) v).set (cmpFlag n b) 0
  else if s.get (cmpMatched n b) = 0 ∧ s.tmCount n < v then s.set (cmpLive n b) v
  else ((s.set (cmpPend n b) v).set (cmpFlag n b) 1).set (cmpSoft n b) 1

/-- A lap start's part for a compare: a pending value becomes live (R306). -/
def cmpLap (s : State) (n : Nat) (b : Bool) : State :=
  let s := (s.set (cmpMatched n b) 0).set (cmpSoft n b) 0
  if s.on (cmpFlag n b) ∧ s.get (F.TMR_MODE_KX4CMP n) = 0 then
    (s.set (cmpLive n b) (s.get (cmpPend n b))).set (cmpFlag n b) 0
  else s

/-- A step enters count `c`: a compare whose live value that is matches (R306 to R308, R310). -/
def cmpMatch (s : State) (n : Nat) (b : Bool) (c : Nat) : State :=
  let v := s.get (cmpLive n b)
  let kx4 := s.on (F.TMR_MODE_KX4CMP n)
  if v ≠ c ∨ s.get (I.TMR_RLD n) < v ∨ (kx4 = false ∧ s.on (cmpMatched n b)) then s
  else
    let s := ((s.set (cmpMatched n b) 1).tmLevel n (s.cmpAct n b)).raiseCause (128 + n) (b2n b)
    let i := s.get (cmpInt n b)
    let r := (v + i) % (s.get (I.TMR_RLD n) + 1)
    if i = 0 then s
    else if kx4 then s.set (cmpLive n b) r
    else if s.on (cmpSoft n b) then s
    else (s.set (cmpPend n b) r).set (cmpFlag n b) 1

/-! ### Steps, laps and cascades (R297, R298, R300) -/

/-- The count that the next step enters, and whether that step is a lap start (R297). -/
def tmNext (s : State) (k : Nat) : Nat :=
  let c := s.get (I.TMR_BASE k)
  if c = s.get (I.TMR_RLD k) then 0 else (c + 1) % 2 ^ 32
def tmLaps (s : State) (k : Nat) : Bool := decide (s.tmNext k = 0)

/-- The lap start of a channel: what was held for it applies, and its action (R298, R306, R310). -/
def lapOne (s : State) (n : Nat) : State :=
  let s := (s.set (I.TMR_RLD n) (s.get (F.TMR_RELOAD_V n))).set (I.TMR_OUTE n) (s.regWord (0xC1028 + 0x40 * n))
  let s := (s.cmpLap n false).cmpLap n true
  (s.tmLevel n (natBits (s.get (I.TMR_OUTE n)) 5 4)).raiseCause (128 + n) 2

/-- One step of one channel: lap start, then A, then B (R297, R310). -/
def tmStep (s : State) (k : Nat) : State :=
  let c := s.tmNext k
  let t := s.set (I.TMR_BASE k) c
  let t := if c = 0 then t.lapOne k else t
  (t.cmpMatch k false c).cmpMatch k true c

/-- A step of the first of these channels; its lap start steps the one above, on the same edge (R300). -/
def tmSteps : List Nat → State → State
  | [], s => s
  | k :: ks, s => if s.tmLaps k then tmSteps ks (s.tmStep k) else s.tmStep k

/-- The steps that take a channel to its next lap start. -/
def tmToLap (s : State) (n : Nat) : Nat :=
  let c := s.get (I.TMR_BASE n)
  if c ≤ s.get (I.TMR_RLD n) then s.get (I.TMR_RLD n) - c + 1 else 2 ^ 32 - c

/-- The steps that take it to its next lap start or live value. -/
def tmToEvent (s : State) (n : Nat) : Nat :=
  let c := s.get (I.TMR_BASE n)
  let z := s.tmToLap n
  let upTo (v : Nat) : Nat := if c < v then min z (v - c) else z
  min (upTo (s.get (F.TMR_CMPA_V n))) (upTo (s.get (F.TMR_CMPB_V n)))

/-! ### Enable, start and stop (R301 to R305, R310, R311) -/

/-- An enable that R301 or R310 refuses. -/
def tmBad (s : State) (n : Nat) : Bool :=
  let ms := s.tmMembers n
  s.on (F.TMR_MODE_CASC n) || decide (4 < ms.length) || s.on (F.TMR_MODE_CASC 0) ||
  ms.any (fun k => decide (s.get (F.TMR_RELOAD_V k) < s.get (F.TMR_PHASE_V k)) || (s.on (F.TMR_OUT_OE k) && decide (32 ≤ k))) ||
  decide (96 ≤ s.get (F.TMR_CAPCFG_CSRC n)) || decide (s.get (F.TMR_CAPCFG_EDGE n) = 3)

/-- The slots a cascade claims (R301, R311). -/
def tmNeeds (s : State) (n : Nat) : List Nat :=
  let ms := s.tmMembers n
  ms.map (fun k => 1024 + k) ++ (ms.filter (fun k => s.on (F.TMR_OUT_OE k))).map toutSlot ++
  (if s.on (F.TMR_CAPCFG_CEN n) ∧ s.get (F.TMR_CAPCFG_CSRC n) < 32 then [tinSlot (s.get (F.TMR_CAPCFG_CSRC n))] else [])

/-- Every member's STATE. -/
def tmAll (s : State) (n st : Nat) : State := (s.tmMembers n).foldl (fun s k => s.set (F.TMR_CTRL_STATE k) st) s

/-- STARTING at edge `t`: outputs at IDLE (R303). -/
def tmStarting (s : State) (n t : Nat) : State :=
  let s := (s.tmMembers n).foldl (fun s k => s.set (F.TMR_STAT_LEVEL k) (s.get (F.TMR_OUT_IDLE k))) (s.tmAll n unitSTARTING)
  (([I.TMR_JOIN n, I.TMR_GO n].foldl (fun s f => s.set f 0) s)).set (I.TMR_AT n) t

/-- The bit EN of `TMR_CTRL` written (R38, R301, R305). While the channel is SHUTTING, an enable claims what it needs beyond
what it holds, for the start that follows. -/
def tmEnable (s : State) (n : Nat) (want : Bool) : State :=
  if want = s.on (F.TMR_CTRL_EN n) then s.tmStatus n stOK
  else if want then
    if s.tmBad n then s.tmStatus n stBADARG
    else s.withClaims (fidTmr n) (s.tmNeeds n) (F.TMR_CTRL_STATUS n) (fun s =>
      let s := s.set (F.TMR_CTRL_EN n) 1
      (if s.tmState n = unitOFF then s.tmStarting n s.tmNow else s).tmStatus n stOK)
  else
    let t := (s.set (F.TMR_CTRL_EN n) 0).tmStatus n stOK
    if s.tmState n = unitSTARTING then (t.tmAll n unitSHUTTING).set (I.TMR_AT n) s.tmNow
    else if s.tmState n = unitON then t.tmAll n unitSHUTTING
    else t

/-- The output level that the actions of counts 0 to PHASE give (R303). -/
def tmPhaseLevel (s : State) (k : Nat) : Nat :=
  let ph := s.get (F.TMR_PHASE_V k)
  let a := s.get (F.TMR_CMPA_V k)
  let b := s.get (F.TMR_CMPB_V k)
  let l0 := outAct (natBits (s.get (I.TMR_OUTE k)) 5 4) (s.get (F.TMR_OUT_IDLE k))
  let actA (l : Nat) : Nat := if a ≤ ph then outAct (s.cmpAct k false) l else l
  let actB (l : Nat) : Nat := if b ≤ ph then outAct (s.cmpAct k true) l else l
  if a ≤ b then actB (actA l0) else actA (actB l0)

/-- One member starts at edge `t` (R303). -/
def tmStartOne (s : State) (k t : Nat) : State :=
  let ph := s.get (F.TMR_PHASE_V k)
  let s := (((s.set (I.TMR_BASE k) ph).set (I.TMR_AT k) t).set (I.TMR_RUN k) 1).set (F.TMR_CTRL_STATE k) unitON
  let s := [false, true].foldl (fun s b =>
    (s.flag (cmpMatched k b) (decide (s.get (cmpLive k b) ≤ ph))).set (cmpSoft k b) 0) s
  (s.set (F.TMR_STAT_LEVEL k) (s.tmPhaseLevel k)).raiseCause (128 + k) 5

/-- A waiting cascade starts, all members on edge `t` (R303). -/
def tmStart (s : State) (n t : Nat) : State :=
  if s.tmState n = unitSTARTING ∧ s.get (F.TMR_MODE_CASC n) = 0 then
    (s.tmMembers n).foldl (fun s k => s.tmStartOne k t) s
  else s

/-- SHUTTING ends at edge `t`: the counts hold, outputs go to IDLE, what was held applies, and the claims are released; an
enable set again starts the cascade anew (R305, R34, R38). DEDUCED: log entry 43. -/
def tmOff (s : State) (n t : Nat) : State :=
  let s := (s.tmMembers n).foldl (fun s k =>
    ((((s.set (I.TMR_RUN k) 0).set (F.TMR_STAT_LEVEL k) (s.get (F.TMR_OUT_IDLE k))).set (I.TMR_RLD k)
      (s.get (F.TMR_RELOAD_V k))).set (I.TMR_OUTE k) (s.regWord (0xC1028 + 0x40 * k))).raiseCause (128 + k) 6) s
  if s.on (F.TMR_CTRL_EN n) then (s.unclaimBut (fidTmr n) (s.tmNeeds n)).tmStarting n t
  else (s.tmAll n unitOFF).unclaimAll (fidTmr n)

/-! ### Time passes (R297, R303, R305) -/

/-- The steps after which a cascade that is SHUTTING ends: at its lap's end, or at its next step (R305). -/
def tmToEnd (s : State) (n : Nat) : Nat := if s.on (F.TMR_MODE_SHUT n) then 1 else s.tmToLap n

/-- The edge at which the next thing happens to the cascade of lowest channel `n`, none while it waits or is OFF. -/
def tmDue (s : State) (n : Nat) : Option Nat :=
  let at0 := s.get (I.TMR_AT n)
  if s.tmState n = unitSTARTING then
    if s.on (F.TMR_MODE_GRPEN n) && !s.on (I.TMR_GO n) then none else some (at0 + 1)
  else if s.tmState n = unitSHUTTING then
    if s.on (I.TMR_RUN n) then some (at0 + min (s.tmToEnd n) (s.tmToEvent n) * s.tmPre n) else some (at0 + 1)
  else if s.tmState n = unitON then some (at0 + s.tmToEvent n * s.tmPre n)
  else none

/-- What happens then, at edge `t`: the start, the end, or a step. -/
def tmHappens (s : State) (n t : Nat) : State :=
  if s.tmState n = unitSTARTING then s.tmStart n t
  else if s.get (I.TMR_RUN n) = 0 then s.tmOff n t
  else
    let e := s.tmToEvent n
    let d := if s.tmState n = unitSHUTTING then min (s.tmToEnd n) e else e
    let u := (s.set (I.TMR_BASE n) ((s.get (I.TMR_BASE n) + d - 1) % 2 ^ 32)).set (I.TMR_AT n) t
    if s.tmState n = unitSHUTTING ∧ d = s.tmToEnd n then u.tmOff n t else tmSteps (u.tmMembers n) u

/-- Everything that happens to it up to edge `t`. -/
def tmRun (n t : Nat) : Nat → State → State
  | 0, s => s
  | fuel + 1, s =>
    match s.tmDue n with
    | some d => if t < d then s else tmRun n t fuel (s.tmHappens n d)
    | none => s

/-- The lowest channels of the cascades that are not OFF. -/
def tmActive (s : State) : List Nat :=
  ((s.regs.filter (fun e => decide (e.1.1 = (F.TMR_CTRL_STATE 0).id))).map (fun e => e.1.2)).filter
    (fun n => s.get (F.TMR_MODE_CASC n) == 0)

def tmRunTo (s : State) (n t : Nat) : State := tmRun n t (t + 2 - s.get (I.TMR_AT n)) s

/-! ### Registers -/

/-- A capture of every member's count at edge `t` (R312, R313). -/
def tmCapture (s : State) (n t : Nat) : State :=
  if !s.on (F.TMR_CAPCFG_CEN n) || s.on (F.TMR_MODE_CASC n) || decide (s.tmState n < 2) then s
  else
    let full := s.on (F.TMR_STAT_FULL n)
    let pend := s.on (F.TMR_STAT_PEND n)
    let s := (s.tmMembers n).foldl (fun s k =>
      s.set (if full then F.TMR_CAPT_PEND_V k else F.TMR_CAPT_V k) (s.tmCountAt k t)) s
    let s := if full then s.set (F.TMR_STAT_PEND n) 1 else s.set (F.TMR_STAT_FULL n) 1
    let s := s.raiseCause (128 + n) 3
    if pend then s.raiseCause (128 + n) 4 else s

/-- Internal capture source `src` occurs now: every channel that selects it captures (R312). -/
def tmFire (s : State) (src : Nat) : State :=
  (s.tmActive.filter (fun n => decide (s.get (F.TMR_CAPCFG_CSRC n) = 32 + src))).foldl (fun s n => s.tmCapture n s.tmNow) s

/-- An edge of the input that channel `n` selects, which then stays stable for `held` TCLK: a `TIN` edge of the kind that EDGE
names and no shorter than FILT, or a source outside the chip: a Z preamble received, `SYNCIN`, the PLL reference. The sources
within the chip are captured where they occur, and the reserved ones never (R312). -/
def tmInput (s : State) (n : Nat) (rising : Bool) (held : Nat) : State :=
  let src := s.get (F.TMR_CAPCFG_CSRC n)
  let e := s.get (F.TMR_CAPCFG_EDGE n)
  let tin := decide (src < 32) && (decide (e = 2) || (decide (e = 0) == rising)) && decide (s.get (F.TMR_CAPCFG_FILT n) ≤ held)
  if s.boundary then s
  else if tin || (decide (71 ≤ src) && decide (src < 79)) || (decide (src = 87) && rising) || decide (src = 88) then
    s.tmCapture n s.tmNow
  else s

/-- A write of `TMR_CTRL[n]`: the enable, then a software capture (R312). -/
def tmCtrlSet (s : State) (n w : Nat) : State :=
  let s := s.tmEnable n (natBit w 4)
  if natBit w 8 && decide (s.get (F.TMR_CAPCFG_CSRC n) = 95) then s.tmCapture n s.tmNow else s

/-- A write of `TMR_RELOAD[n]` (R298). -/
def tmReload (s : State) (n w : Nat) : State :=
  let s := (s.set (F.TMR_RELOAD_V n) w).tmStatus n stOK
  if s.tmState n = unitOFF then s.set (I.TMR_RLD n) w else s

/-- A write of another register of channel `n` at offset `o`: the actions of `TMR_OUT` take effect at once while the channel
is OFF, and its IDLE while it is STARTING (R298, R303). -/
def tmPlain (s : State) (n o w : Nat) : State :=
  if (o = 0x04 ∨ o = 0x2C) ∧ s.tmState n ≠ unitOFF then s.tmStatus n stBUSY
  else s.plainStore (0xC1000 + 0x40 * n + o) w (fun s =>
    let s := s.tmStatus n stOK
    if o = 0x28 ∧ s.tmState n = unitOFF then s.set (I.TMR_OUTE n) (s.regWord (0xC1028 + 0x40 * n))
    else if o = 0x28 ∧ s.tmState n = unitSTARTING then s.set (F.TMR_STAT_LEVEL n) (s.get (F.TMR_OUT_IDLE n))
    else s)

/-- A read of `TMR_CNT[n]`: the lowest channel's read snapshots every member for the reader (R302). -/
def tmCntRead (s : State) (m : Master) (n : Nat) : State :=
  let v := s.tmCount n
  let s := if s.on (F.TMR_MODE_CASC n) then s else
    (s.tmMembers n).foldl (fun s k => s.set (I.TMR_SNAP (256 * k + m.id)) (s.tmCount k)) s
  s.reply m v

/-- A read of `TMR_CAPT[n]` (R313, R315). -/
def tmCaptRead (s : State) (m : Master) (n : Nat) : State :=
  let s := s.reply m (s.get (F.TMR_CAPT_V n))
  if s.on (F.TMR_MODE_CASC n) then s
  else
    let ms := s.tmMembers n
    let s := ms.foldl (fun s k => s.set (I.TMR_CSNAP (256 * k + m.id)) (s.get (F.TMR_CAPT_V k))) s
    if s.on (F.TMR_STAT_PEND n) then
      (ms.foldl (fun s k => s.set (F.TMR_CAPT_V k) (s.get (F.TMR_CAPT_PEND_V k))) s).set (F.TMR_STAT_PEND n) 0
    else s.set (F.TMR_STAT_FULL n) 0

/-! ### Groups (R304) -/

def tmGroupS (s : State) (g : Nat) : Nat := s.pair (F.TMR_GRP_FRC_LO_S g) (F.TMR_GRP_FRC_HI_S g)

/-- The lowest channels waiting for group `g`. -/
def tmWaiting (s : State) (g : Nat) : List Nat :=
  (List.range 64).filter (fun n => decide (s.tmState n = unitSTARTING) && s.get (F.TMR_MODE_CASC n) == 0 &&
    s.on (F.TMR_MODE_GRPEN n) && decide (s.get (F.TMR_MODE_GRP n) = g))

/-- The members of group `g` that waited when it was armed start on edge `t`, and the group is IDLE (R304). -/
def tmGroupGo (s : State) (g t : Nat) : State :=
  (((s.tmWaiting g).filter (fun n => s.on (I.TMR_JOIN n))).foldl (fun s n => s.tmStart n t) s).set (F.TMR_GRP_STATE g) 0

/-- The groups whose instant is that of sample `m`, at edge `t`. -/
def tmGroupsAt (s : State) (m t : Nat) : State :=
  ((List.range 8).filter (fun g => s.on (F.TMR_GRP_STATE g) && decide (s.tmGroupS g = m))).foldl (fun s g => s.tmGroupGo g t) s

/-- Everything that happens to the timers up to edge `t` of the present sample. -/
def tmRunAll (s : State) (t : Nat) : State :=
  let s := s.tmGroupsAt s.frc s.tclk
  (s.tmActive.foldl (fun s n => s.tmRunTo n t) s).set I.TM_NOW t

/-- Time passes up to edge `t`, if the present sample reaches so far. DEDUCED: log entry 43. -/
def tmReach (s : State) (t : Option Nat) : State :=
  match t with
  | some t => if s.tclkRuns && decide (t ≤ s.tclk + s.sampleTclks) then s.tmRunAll t else s
  | none => s

/-- Sample `m` passes, from edge `t0` to edge `t1`; `at src` are the edges at which an internal capture source occurs. -/
def tmPass (s : State) (m t0 t1 : Nat) (src : Nat → List Nat) : State :=
  let s := s.tmGroupsAt m t0
  s.tmActive.foldl (fun s n =>
    let c := s.get (F.TMR_CAPCFG_CSRC n)
    let ts := if s.on (F.TMR_CAPCFG_CEN n) && decide (32 ≤ c) then src (c - 32) else []
    (ts.foldl (fun s t => (s.tmRunTo n t).tmCapture n t) s).tmRunTo n t1) s

/-- A write of `TMR_GRP[g]` (R304, R504): an arm notes who waits; a GO is followed at the next TCLK edge. -/
def tmGroupSet (s : State) (g w : Nat) : State :=
  let st (v : Nat) (s : State) : State := s.set (F.TMR_GRP_STATUS g) v
  let mark (f : Nat → Fld) (v : Nat) (s : State) : State := (s.tmWaiting g).foldl (fun s n => s.set (f n) v) s
  if 1 < bits w [4, 5, 6] then st stBADARG s
  else if natBit w 4 then
    if s.on (F.TMR_GRP_STATE g) then st stBUSY s
    else if s.tmGroupS g < s.frc + 8 then st stBADARG s
    else st stOK ((mark I.TMR_JOIN 1 s).set (F.TMR_GRP_STATE g) 1)
  else if natBit w 5 then st stOK ((mark I.TMR_JOIN 0 s).set (F.TMR_GRP_STATE g) 0)
  else if natBit w 6 then
    let ws := s.tmWaiting g
    let t := ws.foldl (fun s n => (s.set (I.TMR_GO n) 1).set (I.TMR_AT n) s.tmNow) s
    st stOK (t.tmReach (some (s.tmNow + 1)))
  else s

/-- Instant S of group `g` (R304). -/
def tmGroupStart (s : State) (g : Nat) : State :=
  if s.on (F.TMR_GRP_STATE g) ∧ s.reached (s.tmGroupS g) then s.tmGroupGo g s.tclk else s

/-! ### Commanded edges -/

/-- The lowest channel of the cascade that `n` belongs to (R300). -/
def tmLowest (s : State) : Nat → Nat
  | 0 => 0
  | n + 1 => if s.on (F.TMR_MODE_CASC (n + 1)) then tmLowest s n else n + 1

/-- The next edge at which channel `n`'s cascade steps the channel above its members below `n`, and `n` itself: the lowest
channel's next step, or a member's when every member below it stands at its lap's end. -/
def tmStepEdge (s : State) (n : Nat) : Option Nat :=
  let l := s.tmLowest n
  let at0 := s.get (I.TMR_AT l)
  if s.tmState l ≠ unitON then none
  else if l = n then some (at0 + s.tmPre l)
  else if (List.range (n - l - 1)).all (fun i => s.tmLaps (l + 1 + i)) then some (at0 + s.tmToLap l * s.tmPre l)
  else none

/-- The edge of channel `n`'s next lap start. -/
def tmLapEdge (s : State) (n : Nat) : Option Nat :=
  if s.tmLowest n = n then
    if s.tmState n = unitON then some (s.get (I.TMR_AT n) + s.tmToLap n * s.tmPre n) else none
  else if s.tmLaps n then s.tmStepEdge n else none

/-- The live value of a compare, and RELOAD, once the next lap has started. -/
def cmpAfterLap (s : State) (n : Nat) (b : Bool) : Nat :=
  if s.on (cmpFlag n b) ∧ s.get (F.TMR_MODE_KX4CMP n) = 0 then s.get (cmpPend n b) else s.get (cmpLive n b)

/-- The edge of the next match of a compare of channel `n`: in this lap or the next, and for a member of a cascade only at its
next step (R306, R308). -/
def tmMatchEdge (s : State) (n : Nat) (b : Bool) : Option Nat :=
  let c := s.get (I.TMR_BASE n)
  let v := s.get (cmpLive n b)
  let v' := s.cmpAfterLap n b
  let now := decide (c < v) && decide (v ≤ s.get (I.TMR_RLD n)) && (s.on (F.TMR_MODE_KX4CMP n) || s.get (cmpMatched n b) == 0)
  if s.tmLowest n = n then
    let at0 := s.get (I.TMR_AT n)
    if s.tmState n ≠ unitON then none
    else if now then some (at0 + (v - c) * s.tmPre n)
    else if v' ≤ s.get (F.TMR_RELOAD_V n) then some (at0 + (s.tmToLap n + v') * s.tmPre n)
    else none
  else if s.tmLaps n then (if v' = 0 then s.tmStepEdge n else none)
  else if now && decide (v = c + 1) then s.tmStepEdge n else none

/-- The start of a channel that waits for no group, or for the edge after its group's GO. -/
def tmStartEdge (s : State) (n : Nat) : Option Nat :=
  if s.tmState n = unitSTARTING ∧ s.get (F.TMR_MODE_CASC n) = 0 then s.tmDue n else none

/-- The end of SHUTTING (R305). -/
def tmEndEdge (s : State) (n : Nat) : Option Nat :=
  if s.tmState n = unitSHUTTING ∧ s.get (F.TMR_MODE_CASC n) = 0 then
    some (s.get (I.TMR_AT n) + (if s.on (I.TMR_RUN n) then s.tmToEnd n * s.tmPre n else 1))
  else none

end State

/-! ### The commands -/

def tmAddr (n o : Nat) : Nat := 0xC1000 + 0x40 * n + o

def execTimerEnable (m : Master) (n : Fin 64) (s : State) : Out :=
  .next (s.guardWrite m (tmAddr n 0) 0x10 (fun s => s.tmCtrlSet n 0x10))
def execTimerDisable (m : Master) (n : Fin 64) (s : State) : Out :=
  .next (s.guardWrite m (tmAddr n 0) 0 (fun s => s.tmCtrlSet n 0))
def execTimerStart (n : Fin 64) (s : State) : Out := .next (s.tmReach (s.tmStartEdge n))
def execLapStart (n : Fin 64) (s : State) : Out := .next (s.tmReach (s.tmLapEdge n))
def execCompareMatch (n : Fin 64) (b : Bool) (s : State) : Out :=
  .next (s.tmReach (s.tmMatchEdge n b))
def execTimerShutdownComplete (n : Fin 64) (s : State) : Out := .next (s.tmReach (s.tmEndEdge n))
def execTimerReloadWrite (m : Master) (n : Fin 64) (w : Word) (s : State) : Out :=
  .next (s.guardWrite m (tmAddr n 8) w.toNat (fun s => s.tmReload n w.toNat))
def execCompareWrite (m : Master) (n : Fin 64) (b : Bool) (w : Word) (s : State) : Out :=
  .next (s.guardWrite m (tmAddr n (0x18 + 4 * b2n b)) w.toNat (fun s => s.cmpSet n b w.toNat))
def execTimerCntRead (m : Master) (n : Fin 64) (s : State) : Out :=
  .next (s.guardRead m (tmAddr n 0x10) (fun s => s.tmCntRead m n))
def execTimerGroupArm (m : Master) (g : Fin 8) (s : State) : Out :=
  .next (s.guardWrite m (0xC0000 + 16 * g) 0x10 (fun s => s.tmGroupSet g 0x10))
def execTimerGroupDisarm (m : Master) (g : Fin 8) (s : State) : Out :=
  .next (s.guardWrite m (0xC0000 + 16 * g) 0x20 (fun s => s.tmGroupSet g 0x20))
def execTimerGroupGo (m : Master) (g : Fin 8) (s : State) : Out :=
  .next (s.guardWrite m (0xC0000 + 16 * g) 0x40 (fun s => s.tmGroupSet g 0x40))
def execTimerGroupStart (g : Fin 8) (s : State) : Out := .next (s.tmGroupStart g)
/-- The edge that reaches a channel (R312). -/
def execCapture (x : CaptureEdge) (s : State) : Out := .next (s.tmInput x.timer x.rising x.held)
def execCaptRead (m : Master) (n : Fin 64) (s : State) : Out :=
  .next (s.guardRead m (tmAddr n 0x30) (fun s => s.tmCaptRead m n))
/-- The write of SWCAP keeps EN. -/
def execSwcap (m : Master) (n : Fin 64) (s : State) : Out :=
  let w := 0x100 + 0x10 * s.get (F.TMR_CTRL_EN n)
  .next (s.guardWrite m (tmAddr n 0) w (fun s => s.tmCtrlSet n w))

end Sys2Proof.Machine
end

