-- ==== Sys2Proof/Machine/Uarts.lean ====
section
/-! DEFINITION. UARTs and MIDI event mode (R316 to R332). A character arrives in two commands, its start edge and, once its
stop bit is decided, its samples; the transmitter is busy for its character time. The break of U0 stands with the service
link (R453), wake with power. -/

namespace Sys2Proof.Machine

def fidUart (n : Nat) : Nat := 0x0D00 + n

/-- The claim slot of one of a UART's balls: 0 TX, 1 RX, 2 RTS, 3 CTS (R507). -/
def uartSlot (n k : Nat) : Nat :=
  if n < 4 then (22 + n) * 32 + k else if n = 4 then 452 + 32 * k else 580 + 32 * k

/-- The window of a UART register. -/
def uAddr (n o : Nat) : Nat := 0xD0000 + 0x1000 * n + o

/-! ### The MIDI parser (R331, R332) -/

/-- Data bytes a message with this status takes. -/
def midiNeeds (st : Nat) : Nat :=
  if st < 0xC0 then 2 else if st < 0xE0 then 1 else if st < 0xF0 then 2
  else if st = 0xF2 then 2 else if st = 0xF1 ∨ st = 0xF3 then 1 else 0

/-- An event the parser produces: its kind, its first (or last) edge, its bytes in order and its flags. -/
structure MidiEvent where
  kind : Nat
  edge : Nat
  bytes : List Nat
  flags : Nat
deriving DecidableEq, Repr

/-- What one byte at the head of the FIFO does: the parser after it, whether the byte is used up, an event completed, and
whether the byte is discarded and counted. -/
structure MidiStep where
  u : Uart
  used : Bool
  event : Option MidiEvent
  bad : Bool
deriving DecidableEq, Repr

/-- The SysEx gathered so far as an event. -/
def Uart.sysexEvent (u : Uart) (bs : List Nat) (edge flags : Nat) : MidiEvent :=
  { kind := 0x43, edge := edge, bytes := bs, flags := flags + b2n u.sysStart * 2 + b2n u.noisy * 16 }

/-- A complete message as an event. -/
def Uart.message (_u : Uart) (kind : Nat) (bs : List Nat) (edge : Nat) (rs noisy : Bool) : MidiEvent :=
  { kind := kind, edge := edge, bytes := bs, flags := b2n rs + b2n noisy * 16 }

/-- The incomplete message dropped. -/
def Uart.drop (u : Uart) : Uart := { u with msg := [], rs := false, noisy := false }

/-- A status or data byte that begins or continues a message with status `st`, when `got` bytes make it complete. -/
def Uart.take (u : Uart) (kind st : Nat) (got : List Nat) (edge : Nat) (rs noisy : Bool) : MidiStep :=
  if midiNeeds st + 1 ≤ got.length then
    { u := u.drop, used := true, event := some (u.message kind got edge rs noisy), bad := false }
  else { u := { u with msg := got, edge := edge, rs := rs, noisy := noisy }, used := true, event := none, bad := false }

/-- A byte inside SysEx that belongs to it: 6 bytes, or the 0xF7, make an event. DEDUCED: log entry 46. -/
def Uart.gather (u : Uart) (c : RxChar) (bs : List Nat) : MidiStep :=
  let bs' := bs ++ [c.data]
  let v := { u with noisy := u.noisy || c.noise }
  if c.data = 0xF7 then
    { u := { v with sysex := none, sysStart := false, noisy := false }, used := true,
      event := some (v.sysexEvent bs' c.edge 4), bad := false }
  else if bs'.length = 6 then
    { u := { v with sysex := some [], sysStart := false, noisy := false }, used := true,
      event := some (v.sysexEvent bs' c.edge 0), bad := false }
  else { u := { v with sysex := some bs', edge := c.edge }, used := true, event := none, bad := false }

/-- A byte met outside SysEx. -/
def Uart.plain (u : Uart) (c : RxChar) : MidiStep :=
  let b := c.data
  let junk : MidiStep := { u := u, used := true, event := none, bad := true }
  if b < 0x80 then
    match u.msg with
    | st :: _ => u.take (if st < 0xF0 then 0x40 else 0x41) st (u.msg ++ [b]) u.edge u.rs (u.noisy || c.noise)
    | [] => match u.run with
      | some st => u.take 0x40 st [st, b] c.edge true c.noise
      | none => junk
  else if b < 0xF0 then ({ u.drop with run := some b }).take 0x40 b [b] c.edge false c.noise
  else if b = 0xF0 then
    { u := { u.drop with run := none, sysex := some [0xF0], sysStart := true, noisy := c.noise, edge := c.edge },
      used := true, event := none, bad := false }
  else if b = 0xF7 then junk
  else ({ u.drop with run := none }).take 0x41 b [b] c.edge false c.noise

/-- One byte at the head of the FIFO parsed (R331). `dropClk` and `dropAs` are DROPCLK and DROPAS. -/
def Uart.parse (u : Uart) (c : RxChar) (dropClk dropAs : Bool) : MidiStep :=
  if c.ferr || c.perr then
    { u := { u.drop with run := none, sysex := none, sysStart := false }, used := true, event := none, bad := true }
  else if 0xF8 ≤ c.data then
    if (c.data = 0xF8 && dropClk) || (c.data = 0xFE && dropAs) then
      { u := u, used := true, event := none, bad := false }
    else { u := u, used := true, event := some (u.message 0x42 [c.data] c.edge false c.noise), bad := false }
  else match u.sysex with
    | some bs =>
      if c.data < 0x80 ∨ c.data = 0xF7 then u.gather c bs
      else
        { u := { u with sysex := none, sysStart := false, noisy := false }, used := false,
          event := some (u.sysexEvent bs u.edge 8), bad := false }
    | none => u.plain c

/-- The event word (R332). -/
def MidiEvent.word (e : MidiEvent) (n delay : Nat) : Nat :=
  let bs := (e.bytes.zipIdx).foldl (fun a x => a + x.1 * 2 ^ (56 - 8 * x.2)) 0
  e.flags + bs + (if e.kind = 0x43 then e.bytes.length else 0) * 2 ^ 64 + n * 2 ^ 68 + e.kind * 2 ^ 72 +
    ((e.edge + delay) % 2 ^ 48) * 2 ^ 80

namespace State

def uart (s : State) (n : Nat) : Uart := tabGet Uart.reset s.uarts n
def setUart (s : State) (n : Nat) (u : Uart) : State := { s with uarts := tabSet natLt Uart.reset s.uarts n u }
def uStatus (s : State) (n v : Nat) : State := s.set (F.U_CTRL_STATUS n) v
def uState (s : State) (n : Nat) : Nat := s.get (F.U_CTRL_STATE n)
def uMidi (s : State) (n : Nat) : Bool := s.on (F.U_CFG_MIDI n)

/-- Receive activity reaches the FIFO: the receiver runs and the line is not retired (R323, R327). -/
def uRxLive (s : State) (n : Nat) : Bool := decide (2 ≤ s.uState n) && decide (s.get (F.U_STAT_RXST n) = 0)

/-- RTS and the threshold causes after a change of level (R321, R322). -/
def uLevels (s : State) (n : Nat) : State :=
  let lv := (s.uart n).rx.length
  let s := if s.uState n = unitOFF then s.set (F.U_STAT_RTS n) 0
    else if !s.on (F.U_CFG_FLOW n) then s.set (F.U_STAT_RTS n) 1
    else if s.get (F.U_FLOW_RTSHI n) ≤ lv then s.set (F.U_STAT_RTS n) 0
    else if lv ≤ s.get (F.U_FLOW_RTSLO n) then s.set (F.U_STAT_RTS n) 1
    else s
  let cause (s : State) (c : Nat) (b : Bool) : State :=
    if b && !natBit (s.get (F.U_EVT_EVT n)) c then s.raiseCause (192 + n) c else s
  let s := cause s 0 (s.uRxLive n && decide (s.get (F.U_FLOW_RXTHR n) ≤ lv))
  cause s 1 (decide (2 ≤ s.uState n) && decide ((s.uart n).tx.length ≤ s.get (F.U_FLOW_TXTHR n)))

/-- The head of the FIFO parsed. -/
def uParse (s : State) (n : Nat) : Option MidiStep :=
  match (s.uart n).rx with
  | [] => none
  | c :: _ => some ((s.uart n).parse c (s.on (F.U_MIDI_DROPCLK n)) (s.on (F.U_MIDI_DROPAS n)))

/-- A parsed head committed. -/
def uCommit (s : State) (n : Nat) (p : MidiStep) : State :=
  let rest := (s.uart n).rx
  let s := s.setUart n { p.u with rx := if p.used then rest.drop 1 else rest }
  if p.bad then (s.bump (F.U_CNT_ERR n) 1).raiseCause (192 + n) 3 else s

/-- The event path takes every byte that completes no event (R330). -/
def uDrain (n : Nat) : Nat → State → State
  | 0, s => s
  | fuel + 1, s =>
    match s.uParse n with
    | some p => if p.event.isSome then s else uDrain n fuel (s.uCommit n p)
    | none => s

/-- The post of a MIDI event: mirrored by an active chip, discarded on a standby (R381). -/
def uPost (s : State) (n word : Nat) : State :=
  let pip := s.get (F.U_MIDI_PIP n)
  if s.standby then s
  else if s.mirrors then s.mirror (.uart (Fin.ofNat 6 n) (Fin.ofNat 16384 pip) (BitVec.ofNat 128 word))
  else s.postPip pip word (0xF0 + n) none

/-- The next event of UART `n`, if it is of this kind and Quince's queue takes it (R330 to R332). -/
def uMidiEvent (s : State) (n kind : Nat) : State :=
  if !s.uMidi n || !s.uRxLive n then s
  else match s.uParse n with
    | none => s
    | some p => match p.event with
      | none => s
      | some e =>
        if e.kind ≠ kind ∨ s.wouldHold (s.get (F.U_MIDI_PIP n)) (0xF0 + n) then s
        else (uDrain n 64 ((s.uCommit n p).uPost n (e.word n (s.get (F.U_MIDIDLY_DELAY n))))).uLevels n

/-- A character enters the receive FIFO (R318, R320). -/
def uReceive (s : State) (n : Nat) (c : RxChar) : State :=
  if !s.uRxLive n then s
  else if 64 ≤ (s.uart n).rx.length then (s.bump (F.U_CNT_OVR n) 1).raiseCause (192 + n) 2
  else
    let u := s.uart n
    let s := s.setUart n { u with rx := u.rx ++ [c] }
    let s := if c.noise then s.bump (F.U_CNT_NOISE n) 1 else s
    let s := if (c.ferr || c.perr) && !s.uMidi n then (s.bump (F.U_CNT_ERR n) 1).raiseCause (192 + n) 3 else s
    (if s.uMidi n then uDrain n 64 s else s).uLevels n

/-- The word a read of `Un_RX` returns (R330). -/
def uRxWord (s : State) (n : Nat) : Nat :=
  if s.uMidi n then 0x8000
  else match (s.uart n).rx with
    | [] => 0x8000
    | c :: _ => c.data % 256 + b2n c.perr * 2 ^ 8 + b2n c.ferr * 2 ^ 9 + b2n c.noise * 2 ^ 10

/-- A read of `Un_RX` removes the oldest entry (R320). -/
def uRxRead (s : State) (m : Master) (n : Nat) : State :=
  let w := s.uRxWord n
  let u := s.uart n
  ((if s.uMidi n then s else s.setUart n { u with rx := u.rx.drop 1 }).uLevels n).reply m w

/-- The steward alone writes U0, U4 and U5 (R325). -/
def uOwned (n : Nat) (m : Master) : Bool := (n = 0 || n = 4 || n = 5) && decide (m ≠ .steward)

/-- A write of a UART's window by a master that may make it. -/
def uWrite (s : State) (m : Master) (n : Nat) (eff : State → State) : State :=
  if uOwned n m then s.uStatus n stREFUSED else eff s

/-- A write of `Un_TX` (R320). -/
def uTxWrite (s : State) (n b : Nat) : State :=
  let u := s.uart n
  if 64 ≤ u.tx.length then s.uStatus n stBUSY
  else ((s.setUart n { u with tx := u.tx ++ [b % 256] }).uLevels n).uStatus n stOK

/-- The parity bit of data with `k` ones, if there is one (R316). -/
def uParity (s : State) (n k : Nat) : Option Bool :=
  match s.get (F.U_CFG_PAR n) with
  | 0 => none
  | 1 => some (decide (k % 2 = 1))
  | 2 => some (decide (k % 2 = 0))
  | 3 => some true
  | _ => some false

/-- Data bits of a character, and all its bits (R316). -/
def uData (s : State) (n : Nat) : Nat := 5 + s.get (F.U_CFG_DBITS n)
def uBits (s : State) (n : Nat) : Nat := 1 + s.uData n + b2n (s.on (F.U_CFG_PAR n)) + 1 + s.get (F.U_CFG_STOP n)

/-- The levels of a character's bits as they are sent (R316): start, data LSB first, parity, stop. -/
def uFrame (s : State) (n b : Nat) : List Bool :=
  let ds := (List.range (s.uData n)).map (natBit b)
  [false] ++ ds ++ (s.uParity n (ds.filter id).length).toList ++ List.replicate (1 + s.get (F.U_CFG_STOP n)) true

/-- PCLK periods of `k` bits at divisor `d`, in 64ths: 16 × D PCLK a bit (R317). -/
def uBitsPclk (k d : Nat) : Nat := (k * d + 3) / 4

/-- A character stands in the transmit shifter; one is being received, or looped back (R323, R324). -/
def uSending (s : State) (n : Nat) : Bool := decide (s.get I.PCLK < s.get (I.U_TXEND n))
def uHearing (s : State) (n : Nat) : Bool := s.on (I.U_RXON n) || (s.on (F.U_CTRL_LOOP n) && s.uSending n)

/-- What the transmitter puts on its line: the bit in hand of the character in the shifter, else high (R316, R317). -/
def uLine (s : State) (n : Nat) : Bool :=
  !s.uSending n ||
    (s.uFrame n (s.get (I.U_TXSH n))).getD ((s.get I.PCLK - s.get (I.U_TXAT n)) * 4 / max 1 (s.get (I.U_DIVE n))) true

/-- The level that ball `UnTX` is driven to, from STARTING on: held high in a loopback (R324, R471); none where it is not
driven: with the UART OFF, or by a standby, of U1 to U3 (R379). -/
def uTxBall (s : State) (n : Nat) : Option Bool :=
  if s.uState n = unitOFF ∨ s.on (I.U_HIZ n) then none else some (s.on (F.U_CTRL_LOOP n) || s.uLine n)

/-- The transmitter sends a stop bit, or is idle. -/
def uRests (s : State) (n : Nat) : Bool :=
  !s.uSending n || decide (s.uBits n - 1 - s.get (F.U_CFG_STOP n) ≤
    (s.get I.PCLK - s.get (I.U_TXAT n)) * 4 / max 1 (s.get (I.U_DIVE n)))

/-- The drivers of U1 to U3 change hands between the chips of a pair in a stop bit, or when idle (R393). Both transmitters
send alike. -/
def uartDrives (s : State) : State :=
  [1, 2, 3].foldl (fun s n => if s.uRests n then s.flag (I.U_HIZ n) s.standby else s) s

/-- The divisor as last written. -/
def uDiv (s : State) (n : Nat) : Nat := s.regWord (uAddr n 8)

/-- A direction takes the divisor written: the receiver, or the transmitter; DPEND reads whether one has still to take it
(R319). -/
def uTake (s : State) (n : Nat) (rx : Bool) : State :=
  let s := if rx then (s.set (I.U_DIVR n) (s.uDiv n)).set (I.U_RPEND n) 0
    else (s.set (I.U_DIVE n) (s.uDiv n)).set (I.U_TPEND n) 0
  s.flag (F.U_STAT_DPEND n) (s.on (I.U_RPEND n) || s.on (I.U_TPEND n))

/-! ### Receiving (R318, R324, R326) -/

/-- The receiver accepts a start bit: ON, not retired, and none in hand (R323, R327). -/
def uAccepts (s : State) (n : Nat) : Bool :=
  decide (s.uState n = unitON) && decide (s.get (F.U_STAT_RXST n) = 0) && !s.on (I.U_RXON n)

/-- A start edge heard: its FRC, the divisor pending, and the capture source of the timers (R312, R319, R332). -/
def uStart (s : State) (n : Nat) : State :=
  (((s.set (I.U_RXON n) 1).set (I.U_EDGE n) s.frc).uTake n true).tmFire (33 + n)

/-- A falling edge on the idle `UnRX`; a receiver in loopback does not hear it. -/
def uEdge (s : State) (n : Nat) : State :=
  let s := s.set (F.U_STAT_LINE_LVL n) 0
  if s.uAccepts n && !s.on (F.U_CTRL_LOOP n) && !s.boundary then s.uStart n else s

/-- The majority of three samples, and whether one disagrees with it (R318). -/
def majority (x : Sampled) : Bool := (x.1 && x.2.1) || (x.2.1 && x.2.2) || (x.1 && x.2.2)
def disagrees (x : Sampled) : Bool := !(x.1 == x.2.1 && x.2.1 == x.2.2)

/-- The bits of a character in their order, each by its samples; a bit that is not given is high. -/
def uSamples (s : State) (n : Nat) (first : Sampled) (data : List Sampled) (par : Sampled) (stops : List Sampled) :
    List Sampled :=
  let some' (k : Nat) (xs : List Sampled) : List Sampled := (List.range k).map (fun i => xs.getD i (true, true, true))
  [first] ++ some' (s.uData n) data ++ (if s.on (F.U_CFG_PAR n) then [par] else []) ++
    some' (1 + s.get (F.U_CFG_STOP n)) stops

/-- The character that samples spell (R318). DESIGN CHOICE: log entry 44. -/
def uChar (s : State) (n : Nat) (xs : List Sampled) : RxChar :=
  let ls := xs.map majority
  let k := s.uData n
  let ds := (ls.drop 1).take k
  let p := s.uParity n (ds.filter id).length
  let stops := ls.drop (1 + k + b2n p.isSome)
  { data := (ds.zipIdx.map (fun d => b2n d.1 * 2 ^ d.2)).foldl (· + ·) 0
    perr := p.any (fun p => ls.getD (1 + k) true != p), ferr := stops.contains false
    noise := (xs.drop 1).any disagrees, edge := s.get (I.U_EDGE n) }

/-- A break: the receiver waits for the line to go high (R326). DEDUCED: log entry 45. -/
def uBroken (s : State) (n : Nat) : State :=
  if s.uRxLive n then (s.bump (F.U_CNT_BRK n) 1).raiseCause (192 + n) 4 else s

/-- The character whose start edge was heard ends: its edge was a glitch, it is a break, or it is received (R318, R326). -/
def uEnds (s : State) (n : Nat) (xs : List Sampled) : State :=
  let s := s.flag (F.U_STAT_LINE_LVL n) (majority (xs.getLastD (true, true, true)))
  if s.get (I.U_RXON n) = 0 then s
  else
    let s := s.set (I.U_RXON n) 0
    if (xs.head?.map majority).getD true then s
    else if xs.all (fun x => !majority x) then s.uBroken n
    else s.uReceive n (s.uChar n xs)

/-- The receiver hears a break on the pin: in loopback it hears the transmitter alone (R324). -/
def uHears (s : State) (n : Nat) : Bool := (s.uAccepts n || s.on (I.U_RXON n)) && !s.on (F.U_CTRL_LOOP n) && !s.boundary

/-- A break on the pin (R326). -/
def uBreak (s : State) (n : Nat) : State :=
  let heard := s.uHears n
  let s := s.set (F.U_STAT_LINE_LVL n) 0
  if heard then (s.set (I.U_RXON n) 0).uBroken n else s

/-! ### Sending (R316, R319, R321, R323, R324) -/

/-- The transmitter begins a character, with CTS at `cts`; with LOOP the receiver hears it. DESIGN CHOICE: log entry 44. -/
def uTransmit (s : State) (n : Nat) (cts : Bool) : State :=
  let u := s.uart n
  let shut := decide (s.uState n = unitSHUTTING)
  let may := decide (s.uState n = unitON) || (shut && s.on (F.U_CTRL_DRAIN n))
  if s.uSending n || !may then s
  else
    let s := if s.on (F.U_CFG_FLOW n) then s.flag (F.U_STAT_CTS n) cts else s
    match u.tx with
    | [] => s
    | b :: rest =>
      if s.on (F.U_CFG_FLOW n) && !shut && !cts then s
      else
        let s := (s.setUart n { u with tx := rest }).uTake n false
        let s := ((s.set (I.U_TXSH n) b).set (I.U_TXAT n) (s.get I.PCLK)).set (I.U_TXEND n)
          (s.get I.PCLK + uBitsPclk (s.uBits n) (s.get (I.U_DIVE n)))
        let s := s.uLevels n
        if s.on (F.U_CTRL_LOOP n) && s.uAccepts n then
          let t := s.uStart n
          (t.set (I.U_RXON n) 0).uReceive n (t.uChar n ((t.uFrame n b).map (fun l => (l, l, l))))
        else s

/-- A write of `Un_DIV` (R319): a direction that is idle takes it at once, one in a character at its next start bit. -/
def uDivSet (s : State) (n w : Nat) : State :=
  if (F.U_DIV_DIVI n).of w = 0 then s.uStatus n stBADARG
  else
    let s := (s.puts [F.U_DIV_DIVI n, F.U_DIV_DIVF n] w).uStatus n stOK
    let busy (b : Bool) : Bool := decide (s.uState n ≠ unitOFF) && b
    let step (s : State) (rx b : Bool) : State :=
      if busy b then (s.set (if rx then I.U_RPEND n else I.U_TPEND n) 1).set (F.U_STAT_DPEND n) 1 else s.uTake n rx
    step (step s false (s.uSending n)) true (s.uHearing n)

/-- The slots a UART claims (R323). -/
def uNeeds (s : State) (n : Nat) : List Nat :=
  [uartSlot n 0, uartSlot n 1] ++ (if s.on (F.U_CFG_FLOW n) then [uartSlot n 2, uartSlot n 3] else [])

/-- An enable that R316 or R330 refuses. -/
def uBad (s : State) (n : Nat) : Bool :=
  decide (4 < s.get (F.U_CFG_PAR n)) || (s.uMidi n && (n = 0 || n = 4 || n = 5))

/-- A write of `Un_CTRL` (R38, R323). -/
def uCtrlSet (s : State) (n w : Nat) : State :=
  let want := natBit w 4
  let put (s : State) : State := s.puts [F.U_CTRL_WAKE n, F.U_CTRL_LOOP n, F.U_CTRL_DRAIN n] w
  if want && !s.on (F.U_CTRL_EN n) && decide (s.uState n = unitOFF) then
    if s.uBad n then s.uStatus n stBADARG
    else s.withClaims (fidUart n) (s.uNeeds n) (F.U_CTRL_STATUS n) (fun s =>
      ((((put s).set (F.U_CTRL_EN n) 1).set (F.U_CTRL_STATE n) unitSTARTING).uLevels n).uStatus n stOK)
  else ((put s).enableWrite (F.U_CTRL_EN n) (F.U_CTRL_STATE n) want id id).uStatus n stOK

/-- One bit time after the start (R323). -/
def uOn (s : State) (n : Nat) : State :=
  s.startDone (F.U_CTRL_STATE n) (fun s => (s.raiseCause (192 + n) 6).uLevels n)

/-- The FIFOs emptied, and a pending divisor taken. -/
def uEmpty (s : State) (n : Nat) : State :=
  (((s.setUart n Uart.reset).uTake n false).uTake n true)

/-- The shutdown ends, once the shifters have completed their characters and a DRAIN has emptied the FIFO (R323). -/
def uOff (s : State) (n : Nat) : State :=
  if s.uSending n || s.on (I.U_RXON n) || (s.on (F.U_CTRL_DRAIN n) && decide ((s.uart n).tx ≠ [])) then s
  else s.shutDone (F.U_CTRL_EN n) (F.U_CTRL_STATE n)
    (fun s => (((s.uEmpty n).unclaimAll (fidUart n)).uLevels n).raiseCause (192 + n) 7)
    (fun s => (s.uEmpty n).raiseCause (192 + n) 7)

/-- A line retired (R327, R411): permanent, with no spare. DEDUCED: log entry 47. -/
def uRetire (s : State) (n : Nat) : State :=
  if s.uState n = unitOFF ∨ s.on (F.U_STAT_RXST n) ∨ s.get (F.U_LINE_LINEFAULT_T n) = 0 then s
  else
    let s := ((s.set (F.U_STAT_RXST n) 1).set (I.U_RXON n) 0).set (F.U_STAT_LINE_LVL n) 0
    ((s.raiseCause (192 + n) 5).mdlFault 0x0B 6 n false 3 3 0 n).raise 27

/-- A write of `Un_LINE` (R327). -/
def uLineSet (s : State) (n w : Nat) : State :=
  if natBit w 31 then
    if s.get (F.U_STAT_LINE_LVL n) = 0 then s.uStatus n stREFUSED
    else (((s.put (F.U_LINE_LINEFAULT_T n) w).set (F.U_STAT_RXST n) 0).uLevels n).uStatus n stOK
  else (s.put (F.U_LINE_LINEFAULT_T n) w).uStatus n stOK

/-- A write of another register of a UART, at offset `o`. -/
def uPlain (s : State) (n o w : Nat) : State :=
  if (o = 0x04 ∨ o = 0x30 ∨ o = 0x34) ∧ s.uState n ≠ unitOFF then s.uStatus n stBUSY
  else if o = 0x18 ∧ (natBits w 14 8 ≤ natBits w 6 0 ∨ 64 < natBits w 6 0 ∨ 64 < natBits w 14 8 ∨ 64 < natBits w 22 16 ∨
      64 < natBits w 30 24) then s.uStatus n stBADARG
  else s.plainStore (uAddr n o) w (fun s => (s.uLevels n).uStatus n stOK)

end State

/-! ### The commands -/

def execUartEnable (m : Master) (n : Fin 6) (w : Word) (s : State) : Out :=
  let w := (w ||| 0x10).toNat
  .next (s.guardWrite m (uAddr n 0) w (fun s => s.uWrite m n (fun s => s.uCtrlSet n w)))
def execUartDisable (m : Master) (n : Fin 6) (w : Word) (s : State) : Out :=
  let w := (w &&& 0xFFFFFFEF).toNat
  .next (s.guardWrite m (uAddr n 0) w (fun s => s.uWrite m n (fun s => s.uCtrlSet n w)))
def execUartOn (n : Fin 6) (s : State) : Out := .next (s.uOn n)
def execUartOff (n : Fin 6) (s : State) : Out := .next (s.uOff n)

/-- A character's start edge on `UnRX`, or, once its stop bit is decided, its bits (R318). -/
def execCharacterReceived (n : Fin 6) (start : Bool) (first : Sampled) (data : List Sampled) (par : Sampled)
    (stops : List Sampled) (s : State) : Out :=
  .next (if start then s.uEdge n else s.uEnds n (s.uSamples n first data par stops))
def execRxRead (m : Master) (n : Fin 6) (s : State) : Out :=
  .next (s.guardRead m (uAddr n 0x10) (fun s => s.uRxRead m n))
def execTxWrite (m : Master) (n : Fin 6) (data : Byte) (s : State) : Out :=
  .next (s.guardWrite m (uAddr n 0x0C) data.toNat (fun s => s.uWrite m n (fun s => s.uTxWrite n data.toNat)))
def execCharacterTransmit (x : SendStart) (s : State) : Out := .next (s.uTransmit x.uart x.cts)
def execDivisorWrite (m : Master) (n : Fin 6) (w : Word) (s : State) : Out :=
  .next (s.guardWrite m (uAddr n 8) w.toNat (fun s => s.uWrite m n (fun s => s.uDivSet n w.toNat)))
def execLineRetire (n : Fin 6) (s : State) : Out := .next (s.uRetire n)
/-- The write of `Un_LINE` with REARM = 1. -/
def execLineRearm (m : Master) (n : Fin 6) (w : Word) (s : State) : Out :=
  let w := (w ||| 0x80000000).toNat
  .next (s.guardWrite m (uAddr n 0x28) w (fun s => s.uWrite m n (fun s => s.uLineSet n w)))
def execMidiChannelMessage (n : Fin 6) (s : State) : Out := .next (s.uMidiEvent n 0x40)
def execMidiCommonMessage (n : Fin 6) (s : State) : Out := .next (s.uMidiEvent n 0x41)
def execMidiRealtimeMessage (n : Fin 6) (s : State) : Out := .next (s.uMidiEvent n 0x42)
def execMidiSysexEvent (n : Fin 6) (s : State) : Out := .next (s.uMidiEvent n 0x43)

end Sys2Proof.Machine
end

