-- ==== Sys2Proof/Machine/Currant.lean ====
section
/-! DEFINITION. Currant, the measurement unit (R351 to R363): the supervisory ADC, its monitors and loopback judge, the
wipers' parameter posts, the meter points and the loudness groups. -/

namespace Sys2Proof.Machine

/-- The rotation's channels, in order (R352). -/
def rotChannel (k : Nat) : Nat := if k < 16 then k else k + 8

/-- A channel that reports a signed temperature (R351). -/
def chSigned (ch : Nat) : Bool := decide (24 ≤ ch) && decide (ch < 28)

/-- The divider of a supply channel (R351). -/
def chDivider (ch : Nat) : Nat := if ch = 34 ∨ ch = 35 then 2 else 1

/-- A mean of `2^avg` readings, rounded half up (R353). -/
def scanMean (sum : Int) (avg : Nat) : Int := (2 * sum + 2 ^ avg) / 2 ^ (avg + 1)

namespace State

/-- A free word, and the state that has taken it. -/
def fresh (s : State) : Nat × State := ((Config.freeWord s.free).toNat, { s with free := s.free + 1 })

def curStatus (s : State) (v : Nat) : State := s.set F.CUR_CTRL_STATUS v

/-! ### Monitors (R354, R408, R415) -/

/-- A run of readings on the other side: counted to 4, and then `flip` (R354, R355). -/
def runOf (s : State) (ch : Nat) (other : Bool) (flip : State → State) : State :=
  if !other then s.set (I.CUR_RUN ch) 0
  else if s.get (I.CUR_RUN ch) + 1 < 4 then s.set (I.CUR_RUN ch) (s.get (I.CUR_RUN ch) + 1)
  else flip (s.set (I.CUR_RUN ch) 0)

/-- A reading outside its window `CUR_MON`, in millivolts (R351, R354). -/
def monOutside (s : State) (ch code : Nat) : Bool :=
  let v := code * 3125 * chDivider ch
  decide (v < s.get (F.CUR_MON_LO (ch - 28)) * 65536) || decide (s.get (F.CUR_MON_HI (ch - 28)) * 65536 < v)

/-- A supply or reference reading judged. -/
def monJudge (s : State) (ch code : Nat) : State :=
  let b := ch - 28
  let isOut := natBit (s.get F.CUR_MONSTAT_WIN) b
  s.runOf ch (s.monOutside ch code != isOut) (fun s =>
    let s := s.set F.CUR_MONSTAT_WIN (s.get F.CUR_MONSTAT_WIN ^^^ 2 ^ b)
    if isOut then s else (s.raise 216).mdlFault 0x0C 9 ch true 0 0 0 0xFFFF)

/-- The steward's response to CRIT, and to WARN (R406, R415). -/
def tempAction (s : State) (crit : Bool) (ch : Nat) : State :=
  if crit then
    let s := ((s.raise 218).mdlFault 0x0C 9 ch true 0 0 0 0xFFFF).raise 30
    if s.on F.MDL_CTRL_CRITSTOP then s.engineStop false else s
  else (((s.raise 217).mdlFault 0x0C 9 ch true 4 4 0 0xFFFF).set F.MDL_COVER_TSUSP 1).raise 28

/-- One threshold of one sensor: 4 readings above set the flag; the flag clears once every sensor has read 2 °C (256
units) below 4 times (R354). DEDUCED: log entry 52. -/
def tempJudge (s : State) (ch : Nat) (t : Int) (crit : Bool) : State :=
  let i := 2 * (ch - 24) + b2n crit
  let thr := sint 16 (s.get (if crit then F.CUR_TEMPTH_CRIT else F.CUR_TEMPTH_WARN))
  let flag := if crit then F.CUR_MONSTAT_CRIT else F.CUR_MONSTAT_WARN
  let hot := if thr < t then min 4 (s.get (I.CUR_HOT i) + 1) else 0
  let cool := if t + 256 ≤ thr then min 4 (s.get (I.CUR_COOL i) + 1) else 0
  let s := (s.set (I.CUR_HOT i) hot).set (I.CUR_COOL i) cool
  if hot = 4 ∧ s.on flag = false then (s.set flag 1).tempAction crit ch
  else if s.on flag ∧ (List.range 4).all (fun k => decide (s.get (I.CUR_COOL (2 * k + b2n crit)) = 4)) then
    let s := s.set flag 0
    if crit then s else s.set F.MDL_COVER_TSUSP 0
  else s

/-- A result written and judged by its monitor (R353, R354). -/
def curResult (s : State) (ch code : Nat) : State :=
  let s := (s.set (F.CUR_RES_CODE ch) code).set (F.CUR_RES_VALID ch) 1
  if chSigned ch then (s.tempJudge ch (sint 16 code) false).tempJudge ch (sint 16 code) true
  else if 28 ≤ ch then s.monJudge ch code
  else s

/-! ### Loopback (R355, R408) -/

/-- A tap's reading is judged. -/
def tapJudged (s : State) (n : Nat) : Bool :=
  !s.dmsAudio n && decide (s.dmsState n = unitON) && !s.on (F.DMS_STAT_SLEWING n) && !s.on (F.DMS_STAT_HOLDING n) &&
  !s.on (F.DMS_STAT_SC n) && !s.on (F.DMS_STAT_FORCED n)

/-- The tap differs from `DMS_OUTV` by more than the tolerance. -/
def tapOff (s : State) (n code : Nat) : Bool :=
  decide (s.get F.CUR_LBTOL_TOL * 65536 < (((code * 3125000 : Nat) : Int) - ((s.dmsOut n * 65536 : Nat) : Int)).natAbs)

/-- A permanent fault of the stage in service: the spare stage is told to take over, or the channel retires (R347, R348,
R411). -/
def dmsPermanent (s : State) (n : Nat) : State :=
  if s.on (F.DMS_STAT_SPOK n) then (s.set (I.DMS_SWAP n) 1).raise 26 else (s.dmsRetire n).raise 27

/-- A loopback fault charged to the stage in service; a permanent one replaces it. -/
def tapFault (s : State) (n : Nat) (ok : Bool) : State :=
  let u := 2 * n + s.get (F.DMS_STAT_STAGE n)
  let perm := s.mdlPermanent 7 4 u ok
  let pact := if s.on (F.DMS_STAT_SPOK n) then 2 else 3
  let s := s.mdlFault 7 4 u ok 1 pact 0 n
  if perm then ((s.set (I.DMS_UNFIT u) 1).set (I.CUR_REJ n) 0).dmsPermanent n else s.set (I.CUR_REJ n) 4

/-- A rotation reading of tap `n` (R355); a reported mismatch is judged over 4 further readings (R408). -/
def tapJudge (s : State) (n code : Nat) : State :=
  if !s.tapJudged n then s
  else
    let bad := s.tapOff n code
    let isOut := natBit (s.get F.CUR_LBSTAT_LB) n
    let rej := s.get (I.CUR_REJ n)
    let s := if rej = 0 then s
      else if !bad then s.set (I.CUR_REJ n) 0
      else if rej = 1 then s.tapFault n false
      else s.set (I.CUR_REJ n) (rej - 1)
    s.runOf n (bad != isOut) (fun s =>
      let s := s.set F.CUR_LBSTAT_LB (s.get F.CUR_LBSTAT_LB ^^^ 2 ^ n)
      if isOut then s else (s.raise 219).tapFault n true)

/-- The next conversion slot, from the present sample on, that is a rotation slot, or is not: a slot lasts 192 PCLK, and
those ≡ 15 (mod 16) are the rotation's (R351, R352). -/
def curSlot (s : State) (rot : Bool) : Nat :=
  let k := max (s.get I.CUR_SLOT) ((s.get I.PCLK + 191) / 192)
  if rot then k + (15 - k % 16) else if k % 16 = 15 then k + 1 else k

/-- Currant, enabled by Rind and not stopped in STANDBY, makes a conversion in the present sample's next slot of the kind; with
none left in it, or while it does not run, nothing is converted (R352). DEDUCED: log entry 52. -/
def inSlot (s : State) (rot : Bool) (f : State → State) : State :=
  let k := s.curSlot rot
  if s.get I.CUR_EN = 0 ∨ s.get F.SYS_PWR_STATE = 3 ∨ s.on I.PW_HOLD ∨ s.get I.PCLK + 4 * s.sampleTclks ≤ 192 * k then s
  else f (s.set I.CUR_SLOT (k + 1))

/-- A rotation slot: the next of the 32 channels (R352). -/
def rotation (s : State) (code : Nat) : State :=
  let ch := rotChannel (s.get I.CUR_ROT)
  let s := (s.set I.CUR_ROT (s.get I.CUR_ROT + 1)).curResult ch code
  if ch < 16 then s.tapJudge ch code else s

/-! ### The scan list (R353) -/

def listV (w : Nat) : Bool := natBit w 31
def listAvg (w : Nat) : Nat := natBits w 26 24
def listCh (w : Nat) : Nat := natBits w 21 16

/-- The next valid entry of the pass from `e` on. -/
def nextEntry (s : State) (e : Nat) : Option Nat :=
  (List.range 64).find? (fun i => decide (e ≤ i) && listV (s.get (I.CUR_LIST i)))

/-- A pass begins with the entries as they stand; without a valid entry there is none. -/
def beginPass (s : State) : State :=
  let s := (List.range 64).foldl (fun s e => s.set (I.CUR_LIST e) (s.regWord (0xF0100 + 4 * e))) s
  match s.nextEntry 0 with
  | some e => (((s.set I.CUR_PASS 1).set I.CUR_ENT e).set I.CUR_CNT 0).set I.CUR_SUM 0
  | none => s

/-- One conversion of the current entry. -/
def scanStep (s : State) (code : Nat) : State :=
  let e := s.get I.CUR_ENT
  let w := s.get (I.CUR_LIST e)
  let v : Int := if chSigned (listCh w) then sint 16 code else (code : Int)
  let sum := sint 32 (s.get I.CUR_SUM) + v
  let n := s.get I.CUR_CNT + 1
  if n < 2 ^ listAvg w then (s.set I.CUR_CNT n).set I.CUR_SUM (wrap 32 sum)
  else
    let s := ((s.curResult (listCh w) (wrap 16 (scanMean sum (listAvg w)))).set I.CUR_CNT 0).set I.CUR_SUM 0
    match s.nextEntry (e + 1) with
    | some e' => s.set I.CUR_ENT e'
    | none => s.set I.CUR_PASS 0

/-- A scan slot (R353). -/
def scanSlot (s : State) (code : Nat) : State :=
  if s.get F.CUR_CTRL_SCAN = 0 then s
  else
    let s := if s.on I.CUR_PASS then s else s.beginPass
    if s.on I.CUR_PASS then s.scanStep code else s

/-- A write of `CUR_CTRL`: without SCAN the pass ends. -/
def curCtrlSet (s : State) (w : Nat) : State :=
  let s := (s.put F.CUR_CTRL_SCAN w).curStatus stOK
  if natBit w 4 then s else s.set I.CUR_PASS 0

/-- A write of `CUR_SCAN[e]` (R351). -/
def curScanSet (s : State) (e w : Nat) : State :=
  if 39 < (F.CUR_SCAN_CH e).of w then s.curStatus stBADARG else (s.regStore (0xF0100 + 4 * e) w).curStatus stOK

/-- Currant's post: discarded on a standby, mirrored by an active chip (R381). -/
def curPost (s : State) (w : Nat) : State :=
  if s.standby then s else if s.mirrors then s.mirror (.currant (BitVec.ofNat 128 w)) else s.paramCmd 0xE0 w

/-- The wipers' posts at a tick (R356, R357): an entry of the list in effect whose result has changed. -/
def wiperPosts (s : State) : State :=
  (List.range 64).foldl (fun s e =>
    let w := s.get (I.CUR_LIST e)
    let ch := listCh w
    let code := s.get (F.CUR_RES_CODE ch)
    let v := s.get (F.CUR_RES_VALID ch) * 2 ^ 16 + code
    if !(listV w && natBit w 30) then s.set (I.CUR_POST e) v
    else if v = s.get (I.CUR_POST e) then s
    else
      let lin := natBit w 29
      let w0 := (if lin then 1 else 0) * 2 ^ 28 + (if lin then s.blockLen else 0) * 2 ^ 16 + natBits w 15 0
      (s.set (I.CUR_POST e) v).curPost (1 * 2 ^ 72 + 2 ^ 64 + w0 * 2 ^ 32 + code * 2 ^ 11)) s

/-! ### Meter points (R358 to R362) -/

/-- A meter's measures restarted (R358). -/
def meterReset (s : State) (k : Nat) : State :=
  [F.CUR_MTR0_TPK k, F.CUR_MTR0_SPK k, F.CUR_MTR1_DPK k, F.CUR_MTR1_RMS k].foldl (fun s f => s.set f 0x8000)
    ((((s.set (F.CUR_MTR3_OVCNT k) 0).set (I.MTR_N k) 0).set (I.MTR_FALL k) 0).set (I.MTR_DN k) 0)

/-- The display peak at TCLK `t`: held, or falling by DECAY × 32 units of 1/128 dB a second (R361). -/
def displayAt (s : State) (m t : Nat) : Nat :=
  if s.get (I.MTR_FALL m) = 0 then s.get (F.CUR_MTR1_DPK m)
  else
    let d := s.get (F.CUR_MCFG_DECAY m) * 32 * (t - s.get (I.MTR_FAT m)) / s.tclkHz
    let v := sint 16 (s.get (F.CUR_MTR1_DPK m)) - d
    if v < -25600 then 0x8000 else wrap 16 v

/-- A true peak at TCLK `t`: a higher one than shown is held anew (R361). -/
def displayPeak (s : State) (m tpk t : Nat) : State :=
  if s.get (I.MTR_DN m) = 0 ∨ sint 16 (s.displayAt m t) < sint 16 tpk then
    (((s.set (F.CUR_MTR1_DPK m) tpk).set (I.MTR_DN m) 1).set (I.MTR_FALL m) 0).set (I.MTR_FAT m) t
  else s

/-- Word 1 of a meter as it reads now. -/
def meterWord1 (s : State) (m : Nat) : Nat := s.displayAt m s.tclk * 2 ^ 16 + s.get (F.CUR_MTR1_RMS m)

/-- A sample taken by a meter at TCLK `now`. The true peak and the RMS come from filters the spec does not give.
DESIGN CHOICE: log entry 53. -/
def meterTake (s : State) (m : Nat) (x : Int) (now : Nat) : State :=
  let spk := levelOf x.natAbs
  let (t, s) := s.fresh
  let (r, s) := s.fresh
  let tpk := t % 2 ^ 16
  let first := s.get (I.MTR_N m) = 0
  let s := s.set (F.CUR_MTR0_SPK m) (if first then spk else levelMax (s.get (F.CUR_MTR0_SPK m)) spk)
  let s := s.set (F.CUR_MTR0_TPK m) (if first then tpk else levelMax (s.get (F.CUR_MTR0_TPK m)) tpk)
  let s := ((s.set (I.MTR_N m) 1).set (F.CUR_MTR1_RMS m) (r % 2 ^ 16)).displayPeak m tpk now
  let s := if x.natAbs < 2 ^ 27 then s
    else
      let s := s.bump (F.CUR_MTR3_OVCNT m) 1
      if s.on (I.MTR_OVD m) then s else (s.set (I.MTR_OVD m) 1).raise 220
  if s.on (F.CUR_MCFG_OUT m) ∧ 134217 < x.natAbs then s.set I.CUR_LIVEAT (now + 1) else s

/-- The running points whose samples are handled at the landing of sample `m`, or at its draining, take theirs: what a
destination receives, or what a source brings, zero where it is absent (R208, R225, R358). `i` counts the samples passed
since the state's TCLK. DESIGN CHOICE: log entry 11. -/
def meterSample (s : State) (m i : Nat) (landing : Bool) : State :=
  let ms := (s.regs.filter (fun e => decide (e.1.1 = (F.CUR_MCFG_EN 0).id) && decide (e.2 ≠ 0))).map (fun e => e.1.2)
  (ms.filter (fun k => s.on (I.MTAP_EN k) && (isSb (s.get (I.MTAP_EP k)) == s.on (I.MTAP_SIDE k)) == landing)).foldl (fun s k =>
    let e := s.get (I.MTAP_EP k)
    s.meterTake k (if s.on (I.MTAP_SIDE k) then s.receivedAt e m else (s.sourceAt e m).getD 0) (s.tclk + i * s.sampleTclks)) s

/-- LIVE60 (R362). -/
def live60 (s : State) : State :=
  s.flag F.CUR_STAT_LIVE60
    (decide (s.get I.CUR_LIVEAT ≠ 0) && decide (s.tclk + 1 ≤ s.get I.CUR_LIVEAT + 2 * s.tclkHz))

/-- A tap change at a tick resets the point's measures (R225, R358). -/
def tapTick (s : State) (m : Nat) : State :=
  if s.get (I.MTAP_EN m) = s.get (F.BRM_MTAP_EN m) ∧ s.get (I.MTAP_SIDE m) = s.get (F.BRM_MTAP_SIDE m) ∧
      s.get (I.MTAP_EP m) = s.get (F.BRM_MTAP_EP m) then s
  else
    (((s.set (I.MTAP_EN m) (s.get (F.BRM_MTAP_EN m))).set (I.MTAP_SIDE m) (s.get (F.BRM_MTAP_SIDE m))).set (I.MTAP_EP m)
      (s.get (F.BRM_MTAP_EP m))).meterReset m

/-- A loudness group's measures restarted (R363). -/
def lgRestart (s : State) (g : Nat) : State :=
  (((((s.set (I.LG_N g) 0).set (I.LG_MEM g) 0).set (I.LG_AT g) s.tclk).set (F.CUR_LG1_M g) 0x8000).set
    (F.CUR_LG1_S g) 0x8000).set (F.CUR_LG2_I g) 0x8000

/-- The meters' part of a tick: taps change, and groups whose membership has changed restart (R225, R358, R363). -/
def meterTick (s : State) : State :=
  let idx (f : Fld) : List Nat := (s.regs.filter (fun e => decide (e.1.1 = f.id))).map (fun e => e.1.2)
  let ms := (idx (F.BRM_MTAP_EN 0) ++ idx (F.BRM_MTAP_SIDE 0) ++ idx (F.BRM_MTAP_EP 0) ++ idx (I.MTAP_EN 0) ++
    idx (I.MTAP_SIDE 0) ++ idx (I.MTAP_EP 0)).eraseDups
  let s := ms.foldl (fun s m => s.tapTick m) s
  (idx (I.LG_MEM 0)).foldl (fun s g => s.lgRestart g) s

/-- A write of `CUR_MCFG[m]`; a change of membership marks the groups it touches (R363). -/
def mcfgSet (s : State) (m w : Nat) : State :=
  if (F.CUR_MCFG_LWT m).of w = 3 then s.curStatus stBADARG
  else
    let g := s.get (F.CUR_MCFG_LGRP m)
    let l := s.get (F.CUR_MCFG_LWT m)
    let g' := (F.CUR_MCFG_LGRP m).of w
    let l' := (F.CUR_MCFG_LWT m).of w
    let s := (s.regStore (0xF4008 + 16 * m) w).curStatus stOK
    if g = g' ∧ l = l' then s
    else
      let s := if l = 0 then s else s.set (I.LG_MEM g) 1
      if l' = 0 then s else s.set (I.LG_MEM g') 1

/-- A read of word 0: the maxima returned and restarted, words 1 and 3 latched (R360). DEDUCED: log entry 54. -/
def meterRead (s : State) (m : Master) (k : Nat) : State :=
  let w (o : Nat) : Nat := s.regWord (0xF4000 + 16 * k + o)
  let s := (s.setLatch m.id 6 k [w 0, s.meterWord1 k, 0, w 12]).reply m (w 0)
  ((s.set (F.CUR_MTR0_TPK k) 0x8000).set (F.CUR_MTR0_SPK k) 0x8000).set (I.MTR_N k) 0

/-- The latches of a meter give up `v` counts of word 3, so that no later read returns them again (R13). -/
def latchTake (s : State) (k v : Nat) : State :=
  { s with latches := s.latches.map (fun l =>
      if l.table = 6 ∧ l.entry = k then { l with words := l.words.modify 3 (· - v) } else l) }

/-- A read of word 3: the latched count if the reader holds it. What is returned leaves the counter and every master's
latch of that meter: each event is counted once (R13, R360). DEDUCED: log entry 54. -/
def meterOvRead (s : State) (m : Master) (k : Nat) : State :=
  let v := (s.latched m.id 6 k 3).getD (s.get (F.CUR_MTR3_OVCNT k))
  (((s.reply m v).set (F.CUR_MTR3_OVCNT k) (s.get (F.CUR_MTR3_OVCNT k) - v)).set (I.MTR_OVD k) 0).latchTake k v

/-- The display peak's hold of HOLD × 0.1 s ends in the present sample, or has been over (R361). DEDUCED: log entry 55. -/
def peakFall (s : State) (k : Nat) : State :=
  let t := s.get (I.MTR_FAT k) + s.get (F.CUR_MCFG_HOLD k) * s.tclkHz / 10
  if s.on (F.CUR_MCFG_EN k) ∧ s.on (I.MTR_DN k) ∧ s.get (I.MTR_FALL k) = 0 ∧ t < s.tclk + s.sampleTclks then
    (s.set (I.MTR_FALL k) 1).set (I.MTR_FAT k) t
  else s

/-! ### Loudness (R363) -/

/-- A write of word 0 of a group; the windows of M and S fill anew from where RUN is set. DEDUCED: log entry 56. -/
def lgSet (s : State) (g w : Nat) : State :=
  let runs := s.on (F.CUR_LG0_RUN g)
  let s := (s.put (F.CUR_LG0_RUN g) w).curStatus stOK
  if natBit w 30 then s.lgRestart g
  else if natBit w 31 && !runs then
    (((s.set (I.LG_N g) 0).set (I.LG_AT g) s.tclk).set (F.CUR_LG1_M g) 0x8000).set (F.CUR_LG1_S g) 0x8000
  else s

/-- The update every 100 ms: M from 400 ms, S from 3 s, I from the 400 ms blocks; the filtered and gated values come
from a standard outside the spec (R363). -/
def lgUpdate (s : State) (g : Nat) : State :=
  if s.get (F.CUR_LG0_RUN g) = 0 ∨ s.tclk + s.sampleTclks ≤ s.get (I.LG_AT g) + (s.get (I.LG_N g) + 1) * s.tclkHz / 10 then s
  else
    let n := min (s.get (I.LG_N g) + 1) (2 ^ 32 - 1)
    let (a, s) := s.fresh
    let (b, s) := s.fresh
    let (c, s) := s.fresh
    let s := (s.set (I.LG_N g) n).set (F.CUR_LG1_M g) (if n < 4 then 0x8000 else a % 2 ^ 16)
    (s.set (F.CUR_LG1_S g) (if n < 30 then 0x8000 else b % 2 ^ 16)).set (F.CUR_LG2_I g)
      (if n < 4 then s.get (F.CUR_LG2_I g) else c % 2 ^ 16)

end State

/-! ### The commands -/

def execRotationConversion (code : BitVec 16) (s : State) : Out := .next (s.inSlot true (fun s => s.rotation code.toNat))
def execScanConversion (code : BitVec 16) (s : State) : Out := .next (s.inSlot false (fun s => s.scanSlot code.toNat))
def execMeterPeakRead (m : Master) (k : Fin 1024) (s : State) : Out :=
  .next (s.guardRead m (0xF4000 + 16 * k) (fun s => s.meterRead m k))
def execPeakHoldExpire (k : Fin 1024) (s : State) : Out := .next (s.peakFall k)
/-- The write of word 0 with RESET = 1. -/
def execLoudnessReset (m : Master) (g : Fin 64) (w : Word) (s : State) : Out :=
  .next (s.guardWrite m (0xF8000 + 16 * g) (w ||| 0x40000000).toNat (fun s => s.lgSet g (w ||| 0x40000000).toNat))
def execLoudnessUpdate (g : Fin 64) (s : State) : Out := .next (s.lgUpdate g)

end Sys2Proof.Machine
end

