-- ==== Sys2Proof/Machine/Medlar.lean ====
section
/-! DEFINITION. Medlar (R404 to R416, R258, R288): rotations, loans, repairs, retirement and the ageing sensors. A free
spare is the one of the lowest number. -/

namespace Sys2Proof.Machine

namespace State

/-! ### Spares (R411) -/

/-- A physical core or bank that serves no logical unit, is not retired, and is not on loan or under test.
DESIGN CHOICE: log entry 57. -/
def coreSpare (s : State) (p : Nat) : Bool :=
  !s.on (I.PC_RET p) && !s.on (I.PC_BUSY p) && (List.range 64).all (fun n => decide (s.get (F.MDL_MAP_PHYS n) ≠ p))
def bankSpare (s : State) (p : Nat) : Bool :=
  !s.on (I.PB_RET p) && !s.on (I.PB_BUSY p) && (List.range 64).all (fun n => decide (s.get (F.ORC_MAP_PHYS n) ≠ p))

def freeCores (s : State) : List Nat := (List.range 72).filter s.coreSpare
def freeBanks (s : State) : List Nat := (List.range 68).filter s.bankSpare

/-- `MDL_SPARES`, `ORC_STAT.FREE` and `ASRC_STAT.FREE` brought up to date. -/
def syncSpares (s : State) : State :=
  ((((s.set F.MDL_SPARES_CORES s.freeCores.length).set F.MDL_SPARES_BANKS s.freeBanks.length).set F.ORC_STAT_FREE
    s.freeBanks.length).set F.MDL_SPARES_ASRC (s.get F.ASRC_STAT_FREE))

/-- The units tested within the last 64 × INTV seconds (R406). -/
def tested (s : State) (f : Nat → Fld) : Nat :=
  ((List.range 64).filter (fun n => decide (s.get (f n) ≠ 0) &&
    decide (s.tclk + 1 ≤ s.get (f n) + 64 * s.get F.MDL_CTRL_INTV * s.tclkHz))).length

/-- BTESTED and CTESTED brought up to date. DEDUCED: log entry 63. -/
def syncCover (s : State) : State :=
  (s.set F.MDL_COVER_BTESTED (s.tested I.BTEST_AT)).set F.MDL_COVER_CTESTED (s.tested I.CTEST_AT)

/-- A core or bank has been retired with NOSPARE (R389). -/
def nospare (s : State) : Bool :=
  (List.range 64).any (fun n => decide (s.get (F.MDL_MAP_PHYS n) = 0x7F) || decide (s.get (F.ORC_MAP_PHYS n) = 0x7F))

/-! ### Repair swaps (R410, R412, R414) -/

/-- The active bank of a core, and a core with it replaced. -/
def activeBank (c : Core) : Bank := if c.shadow then c.s else c.p
def withActive (c : Core) (b : Bank) : Core := if c.shadow then { c with s := b } else { c with p := b }

/-- The run in a bank to be repeated from its copy (R99, R173): as many posts are suppressed as its runs have made, those
included that a failed re-run had still to repeat. DEDUCED: log entry 61. -/
def repeatRun (r : PipRun) (load : Bool) : PipRun :=
  { r with landed := false, load := load, reruns := r.reruns + 1, skip := r.posts + r.skip, posts := 0, qdone := false,
           level := none, ended := false }

/-- The interrupted pip of core `n` is set to run again there; its frame loads again when `load` (R262, R410). -/
def rerun (s : State) (n : Nat) (load : Bool) : State :=
  let c := s.core n
  let b := activeBank c
  match b.run with
  | none => s
  | some r =>
    let c := if load then setFrame c r.frame { frame c r.frame with valid := false, loading := true } else c
    let ch (d : Desc) : Bool := if c.shadow then decide (2 ≤ d.ch) else decide (d.ch < 2)
    let c := { c with dma := c.dma.filter (fun d => !ch d), stall := false, heldPost := false }
    s.setCore n (withActive c { b with run := some (repeatRun r load), load := none, pend := [], ovl := [] })

/-- The core of the class that takes a pip whose own core has been retired (R412). -/
def otherCore (s : State) (p n : Nat) : Option Nat :=
  (List.range 64).find? (fun k => decide (k ≠ n) && s.pipOnCore p k && s.takesPips k)

/-- A logical core retired without a spare (R411, R412): its interrupted pip moves to another core of its class, or is
withdrawn for the block. -/
def retireCore (s : State) (n : Nat) : State :=
  let c := s.core n
  let b := activeBank c
  let s := ((s.set (I.PC_RET (s.get (F.MDL_MAP_PHYS n))) 1).set (F.MDL_MAP_PHYS n) 0x7F).set (F.MDL_MAP_PHASE n) 0
  let s := (s.returnNext n).setCore n { withActive (s.core n) { b with run := none } with frozen := true, next := none }
  let s := s.raise 27
  match b.run with
  | none => s.syncSpares
  | some r =>
    let s := match s.otherCore r.pip n with
      | some k =>
        let s := s.returnNext k
        let (f, _) := pickFrame (s.core k) (urgentRun r) (natBits (r.copy.getD 0 0) 31 16)
        let r' := { repeatRun r true with frame := f }
        let x := frame (s.core k) f
        s.setCore k { setFrame (s.core k) f { x with valid := false, loading := true,
                                                     image := natBits (r.copy.getD 0 0) 31 16, stale := false } with
                      next := some r' } |>.set (I.EC_WORK k) 1
      | none =>
        if r.ev.isSome then s.refreshEvent r.pip
        else (s.set (F.PIP13_STATE r.pip) 0).set (I.PIP_ARM r.pip) 0
    s.syncSpares

/-- The next repair in turn: the lowest order among those that wait. DEDUCED: log entry 60. -/
def nextRepair (s : State) (ord : Nat → Fld) : Option Nat :=
  ((List.range 64).filter (fun n => decide (s.get (ord n) ≠ 0))).foldl (fun b n =>
    match b with
    | some k => if s.get (ord n) < s.get (ord k) then some n else some k
    | none => some n) none

/-- The repair swap of logical core `n` takes its spare and copies, or the core is retired; it waits for a background
rotation past COPY to free one (R412, R414). -/
def swapBegin (s : State) (n : Nat) : State :=
  let k := s.get I.ROT_N - 1
  let s := if s.freeCores = [] ∧ s.get I.ROT_N ≠ 0 then s.dropRotation k else s
  match s.freeCores with
  | p :: _ =>
    ((((((s.set (I.RPS_ORD n) 0).set I.RPS_N (n + 1)).set (I.PC_BUSY p) 1).set (F.MDL_MAP_PHASE n) 3).set
      (F.MDL_MAP_SPARE n) p)).syncSpares
  | [] => if s.get I.ROT_N ≠ 0 ∨ s.get I.ROT_TEST ≠ 0 then s else (s.set (I.RPS_ORD n) 0).retireCore n

/-- The waiting core repair whose turn it is begins (R414). -/
def swapNext (s : State) : State :=
  if s.get I.RPS_N ≠ 0 then s
  else match s.nextRepair I.RPS_ORD with
    | some n => s.swapBegin n
    | none => s

/-- The spare that receives the copy of core `n` fails: the rotation or repair begins again with another spare (R414). -/
def copyAgain (s : State) (n : Nat) : State :=
  let s := (s.set (F.MDL_MAP_PHASE n) 0).set (F.MDL_MAP_SPARE n) 0
  if s.get I.RPS_N = n + 1 then ((s.set I.RPS_N 0).set (I.RPS_ORD n) 1).swapBegin n
  else match s.freeCores with
    | q :: _ => ((s.set (I.PC_BUSY q) 1).set (F.MDL_MAP_PHASE n) 1).set (F.MDL_MAP_SPARE n) q
    | [] => s.set I.ROT_N 0

/-- A permanent fault of a physical core (R411): in service it stops and is repaired; a spare is retired. -/
def coreRetired (s : State) (p : Nat) : State :=
  match (List.range 64).find? (fun n => decide (s.get (F.MDL_MAP_PHYS n) = p)) with
  | none =>
    let s := (s.set (I.PC_RET p) 1).set (I.PC_BUSY p) 0
    match (List.range 64).find? (fun n => decide (s.get (F.MDL_MAP_PHASE n) ≠ 0) && decide (s.get (F.MDL_MAP_SPARE n) = p)) with
    | some n => (s.copyAgain n).syncSpares
    | none => s.syncSpares
  | some n =>
    if s.get (I.RPS_ORD n) ≠ 0 ∨ s.get I.RPS_N = n + 1 then s
    else
      let s := s.dropRotation n
      let s := (s.returnNext n)
      let s := s.setCore n { s.core n with frozen := true }
      (((s.set I.RP_SEQ (s.get I.RP_SEQ + 1)).set (I.RPS_ORD n) (s.get I.RP_SEQ + 1))).swapNext

/-- ACTION of a permanent fault of a core or a bank: a spare is brought in, or none is free. -/
def spareAction (free : List Nat) : Nat := if free = [] then 3 else 2

/-- A parity error of the running pip of core `n` (R262, R410). -/
def parityError (s : State) (n : Nat) (imem : Bool) : State :=
  match (activeBank (s.core n)).run with
  | none => s
  | some r =>
    let p := s.masterOf n
    let ok := decide (r.reruns = 0)
    let perm := s.mdlPermanent 3 1 p ok
    if (s.core n).frozen then s
    else
      let s := s.mdlFault 3 1 p ok 1 (spareAction s.freeCores) r.pip n
      if perm then s.coreRetired p else s.rerun n imem

/-- The copy of a repair swap ends: the spare is in service, and the interrupted pip runs again on it (R412). -/
def repairDone (s : State) : State :=
  if s.get I.RPS_N = 0 then s
  else
    let n := s.get I.RPS_N - 1
    let p := s.get (F.MDL_MAP_SPARE n)
    let s := ((((((s.set (I.PC_RET (s.get (F.MDL_MAP_PHYS n))) 1).set (F.MDL_MAP_PHYS n) p).set (F.MDL_MAP_SPARE n) 0).set
      (F.MDL_MAP_PHASE n) 0).set (I.PC_BUSY p) 0).set I.RPS_N 0).raise 26
    let c := s.core n
    let s := s.setCore n { c with frozen := s.isFrozen p, frames := [], flaws := [] }
    ((s.rerun n true).syncSpares).swapNext

/-! ### Rotations (R403 to R406) -/

/-- The next logical core in turn that is in service. DEDUCED: log entry 58. -/
def rotTurn (s : State) : Option Nat :=
  ((List.range 64).map (fun i => (s.get I.ROT_NEXT + i) % 64)).find? (fun n =>
    decide (s.get (F.MDL_MAP_PHYS n) ≠ 0x7F) && decide (s.get (F.MDL_MAP_PHASE n) = 0) && !(s.core n).frozen)

/-- An interval expires: the next rotation begins, waits or is suspended (R404, R406). -/
def rotStart (s : State) : State :=
  if s.get F.MDL_CTRL_CT = 0 then s
  else if s.get I.ROT_N ≠ 0 ∨ s.get I.ROT_TEST ≠ 0 then s.set I.ROT_DUE 1
  else if s.on F.CUR_MONSTAT_WARN then s
  else match s.freeCores, s.rotTurn with
    | [], _ => (s.set F.MDL_COVER_CSUSP 1).raise 28
    | _, none => s
    | p :: _, some n =>
      ((((((s.set F.MDL_COVER_CSUSP 0).set (I.PC_BUSY p) 1).set I.ROT_N (n + 1)).set I.ROT_NEXT (n + 1)).set
        (F.MDL_MAP_PHASE n) 1).set (F.MDL_MAP_SPARE n) p).syncSpares

/-- COPY ends (R405). -/
def rotCopied (s : State) : State :=
  let n := s.get I.ROT_N - 1
  if s.get I.ROT_N ≠ 0 ∧ s.get (F.MDL_MAP_PHASE n) = 1 then s.set (F.MDL_MAP_PHASE n) 2 else s

/-- The core is between pips or IDLE, with no urgent pip running or placed (R405). -/
def rotReady (s : State) (n : Nat) : Bool :=
  let c := s.core n
  c.p.run.isNone && !c.shadow && !c.frozen &&
  (match c.next with | some r => !urgentRun r | none => true)

/-- The switch (R405): the logical core's state is the spare's from now on. -/
def rotSwitch (s : State) : State :=
  let n := s.get I.ROT_N - 1
  let old := s.get (F.MDL_MAP_PHYS n)
  let p := s.get (F.MDL_MAP_SPARE n)
  if s.get I.ROT_N ≠ 0 ∧ s.get (F.MDL_MAP_PHASE n) = 2 ∧ s.rotReady n then
    let s := s.setCore n { s.core n with flaws := [] }
    (((((((s.set (F.MDL_MAP_PHYS n) p).set (F.MDL_MAP_PHASE n) 0).set (F.MDL_MAP_SPARE n) 0).set (I.PC_BUSY p) 0).set
      (I.PC_BUSY old) 1).set I.ROT_N 0).set I.ROT_TEST (old + 1)).set I.ROT_OF n |>.syncSpares
  else s

/-- The tests of the old core end (R405). DEDUCED: log entry 59. -/
def rotTested (s : State) (pass march : Bool) : State :=
  if s.get I.ROT_TEST = 0 then s
  else
    let p := s.get I.ROT_TEST - 1
    let s := ((s.set I.ROT_TEST 0).set (I.PC_BUSY p) 0).set (I.CTEST_AT (s.get I.ROT_OF)) (s.tclk + 1)
    let s := if pass then s
      else ((s.set (I.PC_RET p) 1).mdlFault (if march then 4 else 5) 1 p false 2 2 0 0xFFFF).raise 26
    let s := (s.syncSpares.syncCover).swapNext
    if s.on I.ROT_DUE then (s.set I.ROT_DUE 0).rotStart else s

/-! ### Loans (R258, R404, R413, R414) -/

/-- The loan of bank `n` in COPY is abandoned (R414). -/
def dropLoan (s : State) (n : Nat) : State :=
  if s.get (F.ORC_MAP_LOAN n) = 1 then
    (((s.set (I.PB_BUSY (s.get (F.ORC_MAP_SPARE n))) 0).set (F.ORC_MAP_LOAN n) 0).set (F.ORC_MAP_SPARE n) 0).set I.LOAN_N 0
  else s

/-- The next logical bank in turn that is in service. -/
def loanTurn (s : State) : Option Nat :=
  ((List.range 64).map (fun i => (s.get I.LOAN_NEXT + i) % 64)).find? (fun n =>
    decide (s.get (F.ORC_MAP_PHYS n) ≠ 0x7F) && decide (s.get (F.ORC_MAP_LOAN n) = 0))

/-- A loan of bank `n` to spare `p` begins. -/
def lend (s : State) (n p : Nat) : State :=
  (((s.set (I.PB_BUSY p) 1).set (F.ORC_MAP_LOAN n) 1).set (F.ORC_MAP_SPARE n) p).syncSpares

/-- An interval expires: the next background loan (R404, R406). -/
def loanBegin (s : State) : State :=
  if s.get F.MDL_CTRL_BT = 0 then s
  else if s.get I.LOAN_N ≠ 0 then s.set I.LOAN_DUE 1
  else if s.on F.CUR_MONSTAT_WARN then s
  else match s.freeBanks, s.loanTurn with
    | [], _ => (s.set F.MDL_COVER_BSUSP 1).raise 28
    | _, none => s
    | p :: _, some n => (((s.set F.MDL_COVER_BSUSP 0).set I.LOAN_N (n + 1)).set I.LOAN_NEXT (n + 1)).lend n p

/-- A logical bank retired without a spare (R411). -/
def retireBank (s : State) (n : Nat) : State :=
  (((s.set (I.PB_RET (s.get (F.ORC_MAP_PHYS n))) 1).set (F.ORC_MAP_PHYS n) 0x7F).raise 27).syncSpares

/-- The repair loan of bank `n` takes its spare, waits for a background loan past COPY, or the bank is retired.
DEDUCED: log entry 62. -/
def repairLoan (s : State) (n : Nat) : State :=
  let k := s.get I.LOAN_N - 1
  let s := if (s.freeBanks = [] ∨ k = n) ∧ s.get I.LOAN_N ≠ 0 then s.dropLoan k else s
  if s.get I.LOAN_N = n + 1 then s
  else match s.freeBanks with
    | p :: _ =>
      (((s.set (I.RPL_ORD n) 0).set I.RPL_N (n + 1)).set I.RPL_TEST (s.get (I.RPL_TORD n))).lend n p
    | [] => if s.get I.LOAN_N ≠ 0 then s else (s.set (I.RPL_ORD n) 0).retireBank n

/-- The waiting bank repair whose turn it is begins. -/
def loanNext (s : State) : State :=
  if s.get I.RPL_N ≠ 0 then s
  else match s.nextRepair I.RPL_ORD with
    | some n => s.repairLoan n
    | none => s

/-- A loan's end: the spare is in service. -/
def loanEnd (s : State) (n : Nat) : State :=
  let p := s.get (F.ORC_MAP_SPARE n)
  (((s.set (F.ORC_MAP_PHYS n) p).set (F.ORC_MAP_SPARE n) 0).set (F.ORC_MAP_LOAN n) 0).set (I.PB_BUSY p) 0

/-- The loan of bank `n` is abandoned because the spare that stands in fails (R414): it serves until another spare holds its
copy. The bank that a repair was to replace is retired. DEDUCED: log entry 62. -/
def standInFails (s : State) (n : Nat) : State :=
  let old := s.get (F.ORC_MAP_PHYS n)
  let s := s.loanEnd n
  (if s.get I.LOAN_N = n + 1 then s.set I.LOAN_N 0 else (s.set I.RPL_N 0).set (I.PB_RET old) 1).syncSpares

/-- A bank repair classified: of logical bank `n`, its released bank to be tested or not. -/
def bankRepair (s : State) (n : Nat) (test : Bool) : State :=
  let s := if s.get (F.ORC_MAP_LOAN n) = 2 then s.standInFails n else s
  if s.get (I.RPL_ORD n) ≠ 0 ∨ s.get I.RPL_N = n + 1 ∨ s.bankRetired n then s
  else
    (((s.set I.RP_SEQ (s.get I.RP_SEQ + 1)).set (I.RPL_ORD n) (s.get I.RP_SEQ + 1)).flag (I.RPL_TORD n) test).loanNext

/-- A permanent fault of a bank that serves no logical bank. If it receives the copy of one, its loan begins again with another
spare (R414). -/
def spareBankRetired (s : State) (p : Nat) : State :=
  let s := (s.set (I.PB_RET p) 1).set (I.PB_BUSY p) 0
  match (List.range 64).find? (fun n => decide (s.get (F.ORC_MAP_LOAN n) = 1) && decide (s.get (F.ORC_MAP_SPARE n) = p)) with
  | none => s.syncSpares
  | some n =>
    let s := (s.set (F.ORC_MAP_LOAN n) 0).set (F.ORC_MAP_SPARE n) 0
    if s.get I.LOAN_N = n + 1 then
      match s.freeBanks with
      | q :: _ => s.lend n q
      | [] => (s.set I.LOAN_N 0).syncSpares
    else (((s.set I.RPL_N 0).set (I.RPL_ORD n) 1).repairLoan n).syncSpares

/-- A fault of the bank that serves an Orchard read (R260, R261, R408). -/
def bankFault (s : State) (fault off : Nat) : State :=
  let n := bankOf off
  let p := s.physBank n
  let perm := s.mdlPermanent fault 2 p true
  let act := spareAction s.freeBanks
  let s := s.mdlFault fault 2 p true (if fault = 2 then 1 else 0) act (off % 0x100000 / 16) n
  if fault = 2 then s.bankRepair n true else if perm then s.bankRepair n false else s

/-! ### Errors that a read meets (R260 to R262, R266) -/

/-- The words of flaws, for words of `k` units. -/
def flawWords (fs : List Flaw) (k : Nat) : List Nat :=
  fs.foldl (fun ws f => if ws.contains (f.ix / k) then ws else ws ++ [f.ix / k]) []

/-- A master reads Orchard word `w` (R260, R261): a corrected lane is written back and counted, an uncorrectable one
recorded; no lane of a retired bank holds an error. -/
def meetOrcWord (s : State) (w : Nat) : State :=
  let mine (f : Flaw) : Bool := decide (f.ix / 4 = w)
  let lanes := ((s.orcFlaws.filter mine).filter (·.lost)).foldl (fun l f => l ||| 2 ^ (f.ix % 4)) 0
  if s.bankRetired (bankOf (16 * w)) then s
  else
    let t := if (s.orcFlaws.filter mine).any (fun f => !f.lost) then
        ({ s with orcFlaws := s.orcFlaws.filter (fun f => f.lost || !mine f) }.bump F.ORC_ECCCNT_CORR 1).bankFault 1 (16 * w)
      else s
    if lanes = 0 then t else (t.orcUncorrectable (16 * w) lanes).bankFault 2 (16 * w)

/-- A master reads `n` bytes of Orchard. -/
def meetOrc (s : State) (off n : Nat) : State :=
  (flawWords (flawsIn s.orcFlaws 4 (off / 16 * 16) (if n = 0 then 0 else (off + n + 15) / 16 * 16 - off / 16 * 16)) 4).foldl
    (fun s w => s.meetOrcWord w) s

/-- A master reads `n` bytes of external memory (R266). -/
def meetDram (s : State) (a n : Nat) : State :=
  (flawWords (flawsIn s.dramFlaws 8 a n) 1).foldl (fun s w =>
    let mine (f : Flaw) : Bool := decide (f.ix = w)
    if (s.dramFlaws.filter mine).any (·.lost) then s.dramError (8 * w) false
    else ({ s with dramFlaws := s.dramFlaws.filter (fun f => !mine f) }).dramError (8 * w) true) s

/-- A core, or its local DMA, reads `n` bytes of its DMEM (R260, R262): a corrected lane is charged to the core, an
uncorrectable one is a core parity error. -/
def meetDmem (s : State) (n a len : Nat) : State :=
  let fs := flawsIn (s.core n).flaws 4 a len
  let s := (flawWords (fs.filter (fun f => !f.lost)) 4).foldl (fun s w =>
    let c := s.core n
    let p := s.masterOf n
    let t := s.setCore n { c with flaws := c.flaws.filter (fun f => f.lost || !decide (f.ix / 4 = w)) }
    let u := t.mdlFault 1 1 p true 0 (spareAction t.freeCores) w n
    if t.mdlPermanent 1 1 p true then u.coreRetired p else u) s
  if fs.any (·.lost) then s.parityError n false else s

/-- A source of `n` bytes is read: DRAM, or an Orchard address of the core map. -/
def meetSource (s : State) (dram : Bool) (a n : Nat) : State :=
  if n = 0 then s else if dram then s.meetDram a n else s.meetOrc (a - orcBase) n

/-- The sources of a pip's prefetch are read (R170). -/
def meetSources (s : State) (r : PipRun) : State :=
  let s := if r.load then s.meetSource r.idram r.isrc r.ilen else s
  ((List.range 4).map (copySeg r.copy)).foldl (fun s g => s.meetSource g.2.1 g.1 g.2.2.2) s

/-! ### Prefetches that land (R170, R171) -/

/-- The segments, and the image of a pip that is to be repeated, have landed: it starts again in its bank. -/
def rerunLanded (s : State) (n : Nat) (r : PipRun) : State :=
  let c := s.landRun (s.core n) r
  let b := activeBank c
  (s.setCore n (withActive c (startBank b { r with landed := true } b.events))).meetSources r

/-- The NEXT pip's image and segments land, if its sources admit the core (R170, R171). -/
def prefetchedNext (s : State) (n : Nat) : State :=
  let k := s.core n
  match k.next with
  | some r =>
    if r.landed || k.frozen then s
    else match s.unownedSource n r with
      | some a => s.prefetchViolation n r 3 a
      | none =>
        if s.sourcePending r then s
        else (s.setCore n { s.landRun k r with next := some { r with landed := true } }).meetSources r
  | none => s

/-- A prefetch completes: that of a pip to be repeated, else the NEXT pip's. -/
def prefetched (s : State) (n : Nat) : State :=
  let c := s.core n
  match (activeBank c).run with
  | some r =>
    if r.landed || c.frozen then s.prefetchedNext n else if s.sourcePending r then s else s.rerunLanded n r
  | none => s.prefetchedNext n

/-! ### Loans that end -/

/-- COPY ends (R258, R413): the released bank is tested, or retired without a test. The spare, which serves the reads from now
on, holds every word as error correction gave it. DESIGN CHOICE: log entry 160. -/
def loanCopied (s : State) (repair : Bool) : State :=
  let k := if repair then s.get I.RPL_N else s.get I.LOAN_N
  let n := k - 1
  if k = 0 ∨ s.get (F.ORC_MAP_LOAN n) ≠ 1 then s
  else
    let s := { s with orcFlaws := s.orcFlaws.filter (fun f => !decide (f.ix / 0x40000 = n)) }
    if repair ∧ s.get I.RPL_TEST = 0 then
      let old := s.get (F.ORC_MAP_PHYS n)
      ((((s.loanEnd n).set (I.PB_RET old) 1).set I.RPL_N 0).raise 26).syncSpares.loanNext
    else s.set (F.ORC_MAP_LOAN n) 2

/-- The March test of the released bank ends (R258, R413). -/
def loanTested (s : State) (repair pass : Bool) : State :=
  let k := if repair then s.get I.RPL_N else s.get I.LOAN_N
  let n := k - 1
  if k = 0 ∨ s.get (F.ORC_MAP_LOAN n) ≠ 2 then s
  else
    let old := s.get (F.ORC_MAP_PHYS n)
    let full := repair && decide (s.get F.MDL_CLASS_COUNT ≤ (s.faults.filter (s.inWindow 2 old)).length)
    let s := s.loanEnd n
    let s := if repair then s.set I.RPL_N 0 else (s.set I.LOAN_N 0).set (I.BTEST_AT n) (s.tclk + 1)
    let s := if !pass then (s.set (I.PB_RET old) 1).mdlFault 4 2 old false 2 2 0 0xFFFF else if full then
      s.set (I.PB_RET old) 1 else s
    let s := if repair || !pass then s.raise 26 else s
    let s := s.syncSpares.syncCover.loanNext
    if !repair && s.on I.LOAN_DUE then (s.set I.LOAN_DUE 0).loanBegin else s

/-! ### ASRC spares (R288, R408) -/

/-- The free spare ASRC channels. -/
def freeAsrc (s : State) : List Nat :=
  (List.range 544).filter (fun p => !s.on (I.ASRC_PRET p) &&
    (List.range 512).all (fun c => decide (s.get (F.ASRC_CH_PHYS c) ≠ p) && decide (s.get (I.ASRC_NEW c) ≠ p + 1)))

/-- The physical channel of logical channel `c` is retired; `failed` says that it already delivers nothing. -/
def asrcReplace (s : State) (c : Nat) (failed : Bool) : State :=
  if s.get (I.ASRC_NEW c) ≠ 0 ∨ s.on (I.ASRC_DEAD c) then s
  else s.losing [0x400 + c] (fun s =>
    let s := s.set (I.ASRC_PRET (s.get (F.ASRC_CH_PHYS c))) 1
    match s.freeAsrc with
    | p :: _ =>
      (((((s.set (I.ASRC_NEW c) (p + 1)).flag (I.ASRC_GONE c) failed).set (I.ASRC_RPAT c) (s.get I.PCLK)).set F.ASRC_STAT_FREE
        (s.get F.ASRC_STAT_FREE - 1)).syncSpares).raise 26
    | [] => (((s.set (I.ASRC_DEAD c) 1).raise 108).raise 27))

/-- The spare takes over, after a fault found before failure at a tick when it has run in parallel for 4 ms (R288); the claim
of the physical channel moves with it. -/
def asrcTakeover (s : State) (c : Nat) : State :=
  let k := s.get (I.ASRC_NEW c)
  if k = 0 ∨ s.get (I.ASRC_GONE c) = 0 ∧ (s.frc % s.blockLen ≠ 0 ∨ s.lasted (s.get (I.ASRC_RPAT c)) 4000 = false) then s
  else
    let own := s.get (F.SYS_CLAIM_OWNER (s.asrcSlot c))
    let s := s.set (F.SYS_CLAIM_OWNER (s.asrcSlot c)) 0
    let s := ((s.set (F.ASRC_CH_PHYS c) (k - 1)).set (I.ASRC_NEW c) 0).set (I.ASRC_GONE c) 0
    (s.set (F.SYS_CLAIM_OWNER (s.asrcSlot c)) own).raise 107

/-- A coefficient parity error (R408): reloaded, and permanent when the next check fails too. -/
def asrcParity (s : State) (c : Nat) (again : Bool) : State :=
  let p := s.get (F.ASRC_CH_PHYS c)
  let ok := !(again && s.on (I.ASRC_PAR p))
  let perm := s.mdlPermanent 8 3 p ok
  let s := (s.mdlFault 8 3 p ok 1 (spareAction s.freeAsrc) 0 c).set (I.ASRC_PAR p) 1
  if perm then s.asrcReplace c true else s

/-! ### Ageing (R407) -/

/-- A worn unit (R407): fault 0x06, event 29, and its replacement while it still works. DEDUCED: log entry 161. -/
def worn (s : State) (k : Nat) : State :=
  if k < 72 then
    if s.on (I.PC_RET k) then s
    else
      let n := (List.range 64).find? (fun n => decide (s.get (F.MDL_MAP_PHYS n) = k))
      if n.any (fun n => decide (s.get (I.RPS_ORD n) ≠ 0) || decide (s.get I.RPS_N = n + 1)) then s
      else ((s.mdlFault 6 1 k false 2 (spareAction s.freeCores) 0 (n.getD 0xFFFF)).raise 29).coreRetired k
  else if k < 140 then
    let p := k - 72
    if s.on (I.PB_RET p) then s
    else
      let n := (List.range 64).find? (fun n => decide (s.physBank n = p))
      if n.any (fun n => decide (s.get (I.RPL_ORD n) ≠ 0) ||
          decide (s.get I.RPL_N = n + 1) && decide (s.get (F.ORC_MAP_LOAN n) ≠ 2)) then s
      else
        let s := (s.mdlFault 6 2 p false 2 (spareAction s.freeBanks) 0 (n.getD 0xFFFF)).raise 29
        match n with
        | some n => s.bankRepair n false
        | none => s.spareBankRetired p
  else if k < 172 then
    let u := k - 140
    if s.on (I.DMS_UNFIT u) then s
    else
      let n := u / 2
      let inUse := decide (u % 2 = s.get (F.DMS_STAT_STAGE n))
      let s := ((s.mdlFault 6 4 u false 2 (if s.on (F.DMS_STAT_SPOK n) then 2 else 3) 0 n).raise 29).set (I.DMS_UNFIT u) 1
      if inUse then s.dmsPermanent n else s.set (F.DMS_STAT_SPOK n) 0
  else
    let g := k - 172
    let ps := (List.range 16).map (fun i => 16 * g + i)
    let held := (List.range 512).filter (fun c => ps.any (fun p => decide (s.get (I.ASRC_NEW c) = p + 1)))
    let cs := (List.range 512).filter (fun c => ps.contains (s.get (F.ASRC_CH_PHYS c)) && decide (s.get (I.ASRC_NEW c) = 0) &&
      !s.on (I.ASRC_DEAD c))
    let fresh := ps.any (fun p => !s.on (I.ASRC_PRET p))
    let s := if fresh then
        (ps.foldl (fun s p => s.set (I.ASRC_PRET p) 1)
          (s.mdlFault 6 3 (16 * g) false 2 (spareAction s.freeAsrc) 0 0xFFFF)).raise 29
      else s
    let s := held.foldl (fun s c => s.set (I.ASRC_NEW c) 0) s
    (((List.range 512).filter (fun c => held.contains c || cs.contains c)).foldl
      (fun s c => s.asrcReplace c (s.on (I.ASRC_GONE c))) (s.set F.ASRC_STAT_FREE s.freeAsrc.length)).syncSpares

/-- An ageing sensor read (R407). -/
def ageing (s : State) (k slow : Nat) : State :=
  let s := s.set (F.MDL_AGEV_SLOW k) slow
  if s.get F.MDL_AGE_THR < slow then s.worn k else s

/-! ### Registers -/

/-- A write of `MDL_CTRL`, `MDL_CLASS` or another Medlar register; one that BADARG names has no effect.
DEDUCED: log entry 64. -/
def mdlSet (s : State) (a w : Nat) : State :=
  if a = 0x30000 ∧ w % 256 = 0 then s
  else if a = 0x30004 ∧ w % 16 < 2 then s
  else s.regStore a w

end State

/-! ### The commands -/

def execPrefetchComplete (c : Fin 64) (s : State) : Out := .next (s.prefetched c)
def execCoreParityError (c : Fin 64) (imem : Bool) (s : State) : Out := .next (s.parityError c imem)
def execRepairCopyComplete (s : State) : Out := .next s.repairDone
def execRotationStart (s : State) : Out := .next s.rotStart
def execRotationCopyComplete (s : State) : Out := .next s.rotCopied
def execRotationSwitch (s : State) : Out := .next s.rotSwitch
def execRotationTestComplete (pass march : Bool) (s : State) : Out := .next (s.rotTested pass march)
def execLoanStart (s : State) : Out := .next s.loanBegin
def execLoanCopyComplete (repair : Bool) (s : State) : Out := .next (s.loanCopied repair)
def execLoanTestComplete (repair pass : Bool) (s : State) : Out := .next (s.loanTested repair pass)
def execAsrcSpareTakeover (c : Fin 512) (s : State) : Out := .next (s.asrcTakeover c)
def execAsrcCoefficientParityError (c : Fin 512) (again : Bool) (s : State) : Out := .next (s.asrcParity c again)
def execAgeingRead (k : Fin 206) (slow : BitVec 16) (s : State) : Out := .next (s.ageing k slow.toNat)

end Sys2Proof.Machine
end

