-- ==== Sys2Proof/Machine/Host.lean ====
section
/-! DEFINITION. The registers of the host interfaces (R364 to R376): the PCIe link, MSI-X, the staging of sequenced
writes and the audio rings. The transactions themselves stand in Machine/Access.lean. -/

namespace Sys2Proof.Machine

/-- The count of sequenced writes that a host port keeps (R374). -/
def swPort : Master → Option Nat
  | .pcie => some 0
  | .spi => some 1
  | _ => none

namespace State

/-! ### The link and MSI-X (R364, R368) -/

/-- The link's state changes, with event 224; once it is up `PEWAKE#` is released (R482). -/
def linkChange (s : State) (up l1 : Bool) (width gen : Nat) : State :=
  if s.on F.HIF_LINK_UP = up ∧ s.on F.HIF_LINK_L1 = l1 ∧ s.get F.HIF_LINK_WIDTH = width ∧ s.get F.HIF_LINK_GEN = gen then s
  else
    let s := (((s.flag F.HIF_LINK_UP up).flag F.HIF_LINK_L1 l1).set F.HIF_LINK_WIDTH width).set F.HIF_LINK_GEN gen
    (if up then s.set I.PEWAKE 0 else s).raise 224

/-- Vector `v` is assigned to `HS_IRQ#` (R368). -/
def vecSpi (s : State) (v : Nat) : Bool :=
  natBit (if v < 32 then s.get F.HIF_VSEL_LO_V else s.get F.HIF_VSEL_HI_V) (v % 32)

/-- An unmasked pending vector sends its message (R368). -/
def msixFlush (s : State) (v : Nat) : State :=
  let p := s.get (F.HIF_PBA_P (v / 32))
  if natBit p (v % 32) ∧ s.get (F.HIF_MSIXV_MASK v) = 0 then
    (s.set (F.HIF_PBA_P (v / 32)) (p &&& (2 ^ 32 - 1 ^^^ 2 ^ (v % 32)))).set (I.MSIX_SENT v) (s.get (I.MSIX_SENT v) + 1)
  else s

/-- An event routed to vector `v` becomes pending (R368). DESIGN CHOICE: log entry 66. -/
def msixPend (s : State) (v : Nat) : State :=
  if s.vecSpi v then s
  else (s.set (F.HIF_PBA_P (v / 32)) (s.get (F.HIF_PBA_P (v / 32)) ||| 2 ^ (v % 32))).msixFlush v

/-- `HS_IRQ#` is asserted (R368). -/
def hsIrq (s : State) : Bool :=
  (List.range 256).any (fun n => s.evPending n && decide (s.get (F.SYS_EVROUTE_KIND n) = 1) &&
    s.vecSpi (s.get (F.SYS_EVROUTE_VECTOR n)))

/-- A write of the MSI-X table: a vector unmasked sends what it owes. -/
def msixSet (s : State) (a w : Nat) : State := (s.regStore a w).msixFlush ((a - 0x108000) / 16 % 64)

/-! ### Sequenced writes (R374) -/

/-- What a sequenced write with number `n` meets: performed, a duplicate, or refused. -/
inductive SeqKind where
  | go | dup | bad
deriving DecidableEq, Repr

def seqKind (s : State) (h n : Nat) : SeqKind :=
  let last := s.get (F.HIF_SW_LAST_N h)
  let d := (last + 2 ^ 32 - n % 2 ^ 32) % 2 ^ 32
  if n % 2 ^ 32 = (last + 1) % 2 ^ 32 then .go
  else if d < 2 ^ 31 then .dup else .bad

/-- The words a master has staged for `HIF_SW_GO`. -/
def seqWords (s : State) (m : Master) : List Nat :=
  (List.range (s.stagedWord m.id 0x100034 % 8 + 1)).map (fun k => s.stagedWord m.id (0x100040 + 4 * k))

/-! ### Rings (R375) -/

/-- An enable of ring `d` that is refused, its configuration already as written. DEDUCED: log entry 65. -/
def ringBad (s : State) (d : Nat) : Bool :=
  let base := s.get (F.HIF_HS_BASE_A d)
  let depth := s.get (F.HIF_HS_CFG_DEPTH d)
  decide (depth < 2) || decide (base % 16 ≠ 0) ||
  decide (0x100000 < base % 0x100000 + depth * 256 * (s.get (F.HIF_HS_CFG_NCH d) + 1))

/-- A write of `HIF_HS_CFG[d]`, discarded while EN is 1 unless it clears EN. -/
def ringSet (s : State) (d w : Nat) : State :=
  if s.on (F.HIF_HS_CFG_EN d) then if natBit w 31 then s else s.set (F.HIF_HS_CFG_EN d) 0
  else
    let t := s.puts [F.HIF_HS_CFG_EN d, F.HIF_HS_CFG_DEPTH d, F.HIF_HS_CFG_NCH d] w
    if natBit w 31 && t.ringBad d then s else t

def ringBase (s : State) (d w : Nat) : State :=
  if s.on (F.HIF_HS_CFG_EN d) then s else s.set (F.HIF_HS_BASE_A d) w

/-- The output ring completes block `j` (R375). -/
def ringReady (s : State) (j : Nat) : State :=
  if s.on (I.HS_EN 1) && !s.on (I.HS_SKIP 1) then (s.set F.HIF_HS_BLK1_J j).raise 226 else s

/-- Block `k` of the input ring is due at tick `k`: marked complete by the host, or an underrun (R375). -/
def ringDue (s : State) (k : Nat) : State :=
  if s.on (I.HS_EN 0) then
    if serialIn (s.get F.HIF_HS_BLK0_J) k (s.get (F.HIF_HS_CFG_DEPTH 0) - 1) then s.set (I.HS_OK (k % 4)) (k + 1)
    else (s.bump F.HIF_HS_CNT_UNDER 1).raise 227
  else s

/-- A write of another `HIF_` register; the staging registers are held for each master. -/
def hifSet (s : State) (m : Master) (a w : Nat) : State :=
  if a = 0x100030 ∨ (0x100040 ≤ a ∧ a < 0x100060) then s.stage m.id a w
  else if a = 0x100034 then s.stage m.id a (w % 8)
  else if a = 0x100080 ∨ a = 0x100090 then s.ringBase ((a - 0x100080) / 16) w
  else if a = 0x100084 ∨ a = 0x100094 then s.ringSet ((a - 0x100084) / 16) w
  else if 0x108000 ≤ a ∧ a < 0x108400 then s.msixSet a w
  else s.regStore a w

end State

/-! ### The commands -/

def execPcieLinkChange (up l1 : Bool) (width gen : Fin 4) (s : State) : Out := .next (s.linkChange up l1 width gen)
/-- The write of `HIF_HS_BLK[0]`. -/
def execHostStreamBlockWrite (m : Master) (w : Word) (s : State) : Out :=
  .next (s.guardWrite m 0x100088 w.toNat (fun s => s.regStore 0x100088 w.toNat))

end Sys2Proof.Machine
end

