-- ==== Sys2Proof/Machine/Twin.lean ====
section
/-! DEFINITION. The twin pair (R377 to R394): roles, the link and its frames, output comparison, resynchronisation,
heartbeat and takeover. The release of mirrored items stands in Machine/Access.lean. -/

namespace Sys2Proof.Machine

def roleSOLO : Nat := 0
def roleACTIVE : Nat := 1
def roleSTANDBY : Nat := 2
def syncNONE : Nat := 0
def syncRESYNC : Nat := 1
def syncTRACKING : Nat := 2

namespace State

def twnStatus (s : State) (v : Nat) : State := s.set F.TWN_CTRL_STATUS v
def role (s : State) : Nat := s.get F.TWN_STAT_ROLE
def sync (s : State) : Nat := s.get F.TWN_STAT_SYNC
def setSync (s : State) (v : Nat) : State := s.set F.TWN_STAT_SYNC v
def linkUp (s : State) : Bool := s.on F.TWN_CTRL_EN && s.on F.TWN_STAT_LANES

/-! ### Roles (R378, R380) -/

/-- The usable entries other than the twin partner's (R380). -/
def ownRef (s : State) : Option Nat :=
  (List.range 5).find? (fun i => s.refUsable i && decide (s.get (I.REF_KIND i) ≠ 4))

/-- The clock re-selects its own reference (R380, R56). -/
def ownClock (s : State) : State :=
  match s.ownRef with
  | some i => s.selectRef i
  | none => s.holdOver.set I.CLK_HOEXP 1

/-- The role changed, with event 232. A standby's clock follows its partner; a chip that takes the outputs from STANDBY
re-selects its own reference, and one that leaves the pair any. -/
def setRole (s : State) (r : Nat) : State :=
  if s.role = r then s
  else
    let s' := (s.set F.TWN_STAT_ROLE r).raise 232
    if r = roleSTANDBY then s'.partnerClock
    else if s.role ≠ roleSTANDBY ∨ s.get F.CLK_STAT_MODE = clkACQUIRE then s'
    else if r = roleACTIVE then s'.ownClock
    else s'.reselect

/-! ### Resynchronisation (R388) -/

/-- The standby's engine stops at once (R388, step 1). DEDUCED: log entry 73. -/
def standbyStop (s : State) : State :=
  if s.get F.SYS_ENGINE_STATE = 0 then s
  else (((((s.set I.ENG_STOPP 0).set I.ENG_LANDED 0).set I.ENG_RESTART 0).set F.SYS_ENGINE_RUN 0).setEngine 0).phFlush.silenceAll

/-- The copies that the active chip sends begin anew, or end without one (R388). -/
def copyStart (s : State) (pass : Nat) : State :=
  { (s.set I.TWN_CPASS pass).set I.TWN_CPOS 0 with dirty := [], twin := { s.twin with pages := [] } }

/-- Resynchronisation begins (steps 1 and 2): the standby stops its engine; the active chip, whose view of its partner
changes, sends its copies. With images that differ it stops here. DESIGN CHOICE: log entry 72. -/
def resyncStart (s : State) : State :=
  let s := ((((s.setSync syncRESYNC).set I.TWN_MATCH 0).set I.TWN_CPD 0).set I.TWN_RSAT (s.get I.PCLK)).raise 237
  let s := if s.role = roleSTANDBY then s.standbyStop else s.copyStart 1
  if s.on I.TWN_SAME then s else (s.setSync syncNONE).set I.TWN_CPASS 0

/-- The role becomes STANDBY beside a partner that drives: it resynchronises. DEDUCED: log entry 73. -/
def becomeStandby (s : State) : State := (s.setRole roleSTANDBY).resyncStart

/-- The partner is found (R378). DESIGN CHOICE: log entry 72. -/
def partnerFound (s : State) (p : Partner) (same : Bool) : State :=
  if !s.linkUp then s
  else
    let s := (s.flag I.TWN_SAME same).set I.TWN_PHLT 0
    if s.role = roleSOLO then
      match p with
      | .active => s.becomeStandby
      | .standby => (s.setRole roleACTIVE).resyncStart
      | .undecided => if s.on F.TWN_STAT_STRAP then (s.setRole roleACTIVE).resyncStart else s.becomeStandby
    else if s.role = roleACTIVE then
      if p = .active ∧ s.get F.TWN_STAT_STRAP = 0 then s.set I.TWN_DEMOTE 1 else s.resyncStart
    else if p = .active ∧ s.sync = syncNONE then s.resyncStart
    else s

/-- BOOTWAIT ends without a partner (R378). -/
def bootwaitEnd (s : State) (hb : Bool) : State :=
  if s.lasted (s.get I.TWN_ENAT) (100000 * s.get F.TWN_TIME_BOOTWAIT) ∧ s.on F.TWN_CTRL_EN ∧ s.role = roleSOLO ∧
      s.linkUp = false ∧ (s.on F.TWN_STAT_STRAP ∨ hb = false) then
    s.setRole roleACTIVE
  else s

/-! ### Lanes (R384) -/

/-- `TWN_CTRL.STATE` follows the enable and the lanes. -/
def syncLink (s : State) : State :=
  s.set F.TWN_CTRL_STATE (if !s.on F.TWN_CTRL_EN then unitOFF else if s.on F.TWN_STAT_LANES then unitON else unitSTARTING)

/-- The twin sources. -/
def twinSources : List Nat := (List.range 128).map (0x780 + ·)

/-- Lane `l` joins or leaves the frame rotation; without a lane the twin sources are absent (R384, R386). -/
def laneBit (s : State) (l : Nat) (b : Bool) : State :=
  s.losing twinSources (fun s =>
    let v := s.get F.TWN_STAT_LANES
    (s.set F.TWN_STAT_LANES (if b then v ||| 2 ^ l else v &&& (15 ^^^ 2 ^ l))).syncLink)

/-- A write of `TWN_LANE[l]`; a lane goes OFF at once. DEDUCED: log entry 67. -/
def laneSet (s : State) (l w : Nat) : State :=
  let s := s.twnStatus stOK
  s.enableWrite (F.TWN_LANE_EN l) (F.TWN_LANE_STATE l) (natBit w 4)
    (fun s => (s.set (F.TWN_LANE_EN l) 1).set (F.TWN_LANE_STATE l) unitSTARTING)
    (fun s => (s.set (F.TWN_LANE_STATE l) unitOFF).laneBit l false)

/-- A lane reaches ON, with event 236. -/
def laneOn (s : State) (l : Nat) : State := s.startDone (F.TWN_LANE_STATE l) (fun s => (s.laneBit l true).raise 236)

/-- A lane with more than 16 bad frames in 1 ms is taken to OFF (R384). -/
def laneRetire (s : State) (l : Nat) : State :=
  if s.get (F.TWN_LANE_STATE l) = unitON then
    ((((s.set (F.TWN_LANE_EN l) 0).set (F.TWN_LANE_STATE l) unitOFF).laneBit l false).bump F.TWN_CNT_LANE 1).raise 236
  else s

/-- The lane that carries a frame: frames are dealt over the lanes that are ON in turn. DESIGN CHOICE: log entry 68. -/
def laneOf (s : State) (seq : Nat) : Nat :=
  let on := (List.range 4).filter (fun l => natBit (s.get F.TWN_STAT_LANES) l)
  on.getD (seq % max on.length 1) 0

/-! ### Frames (R384, R385) -/

/-- An ACK, with the credits it grants, or a NAK, which are not numbered among the frames kept for resending. -/
def sendControl (s : State) (kind seq : Nat) (ws : List Nat) : State :=
  let f : TxFrame :=
    { seq := seq, kind := kind, tick := 0, item := none, words := ws, tries := 0, acked := true, sent := s.get I.PCLK }
  { s with twin := { s.twin with tx := (s.twin.tx ++ [f]).drop (s.twin.tx.length + 1 - 256) } }

/-- The credits that an ACK grants: those of the MIRROR frames received, none while the event queue is full (R385). `k` is 1
for a MIRROR frame. DESIGN CHOICE: log entry 68. -/
def grant (s : State) (k : Nat) : Nat := if s.queueFull 4 then 0 else s.get I.TWN_OWED + k

/-- The ACK of a frame. -/
def ackTx (s : State) (seq k : Nat) : State :=
  (s.sendControl 2 seq [s.grant k]).set I.TWN_OWED (s.get I.TWN_OWED + k - s.grant k)

/-- A numbered frame received: in order and whole, it takes effect and is acknowledged; else it is discarded and the first
missing number is named in a NAK. -/
def received (s : State) (seq : Nat) (crcOk : Bool) (k : Nat) (eff : State → State) : State :=
  if !s.linkUp then s
  else
    let want := s.get I.TWN_RXSEQ
    if !crcOk then (s.bump (F.TWN_LANE_CRCERR (s.laneOf seq)) 1).sendControl 3 want []
    else if seq ≠ want then s.sendControl 3 want []
    else eff (((s.set I.TWN_RXSEQ (want + 1)).set I.TWN_LOST 0).ackTx seq k)

/-- The partner is lost for R382 and R389. -/
def partnerLost (s : State) : State :=
  if s.on I.TWN_LOST then s else (((s.set I.TWN_LOST 1).setSync syncNONE).set I.TWN_CPASS 0).raise 233

/-- A frame's resend, or after 4 of them the partner's loss (R385): a NAK asks for one, or its acknowledgement has not come. -/
def resend (s : State) (seq : Nat) : State :=
  match s.twin.tx.find? (fun f => decide (f.seq = seq) && !f.acked) with
  | none => s
  | some f =>
    if 4 ≤ f.tries then s.partnerLost
    else
      let again (g : TxFrame) : TxFrame := if g.seq = seq ∧ g.acked = false then
          { g with tries := g.tries + 1, sent := s.get I.PCLK } else g
      { s with twin := { s.twin with tx := s.twin.tx.map again } }

/-- 64 µs have passed since the frame was last sent (R385). -/
def resendDue (s : State) (seq : Nat) : State :=
  if s.twin.tx.any (fun f => decide (f.seq = seq) && !f.acked && s.lasted f.sent 64) then s.resend seq else s

/-- A credit used for the next MIRROR frame that waits. -/
def sendWaiting (s : State) : State :=
  match s.twin.waiting with
  | [] => s
  | it :: rest =>
    if s.get I.TWN_CREDIT = 0 then s
    else
      let n := s.get I.TWN_TXSEQ
      let number (x : MItem) : MItem :=
        if x.seq = 2 ^ 24 ∧ x.tick = it.tick ∧ x.item = it.item ∧ x.acked = false then { x with seq := n } else x
      let s := { s with twin := { s.twin with waiting := rest, items := s.twin.items.map number } }
      (s.sendFrame 1 it.tick (some it.item) []).set I.TWN_CREDIT (s.get I.TWN_CREDIT - 1)

/-- Credits come in: MIRROR frames that wait are sent with them. -/
def credited (s : State) (k : Nat) : State :=
  (List.range k).foldl (fun s _ => s.sendWaiting) (s.set I.TWN_CREDIT (min 64 (s.get I.TWN_CREDIT + k)))

/-- An ACK: its frame is done, its item acknowledged, and the credits that it grants are in. -/
def ackRx (s : State) (seq : Nat) (crcOk : Bool) (credits : Nat) : State :=
  if !s.linkUp then s
  else if !crcOk then (s.bump (F.TWN_LANE_CRCERR (s.laneOf seq)) 1)
  else if s.twin.tx.any (fun f => decide (f.seq = seq) && !f.acked) then
    let done (g : TxFrame) : TxFrame := if g.seq = seq then { g with acked := true } else g
    let held (x : MItem) : MItem := if x.seq = seq then { x with acked := true } else x
    let s := { s with twin := { s.twin with tx := s.twin.tx.map done, items := s.twin.items.map held } }
    (s.set I.TWN_LOST 0).credited credits
  else s

/-- A NAK: every frame from the number named is resent. -/
def nakRx (s : State) (seq : Nat) (crcOk : Bool) : State :=
  if !s.linkUp then s
  else if !crcOk then s.bump (F.TWN_LANE_CRCERR (s.laneOf seq)) 1
  else
    (s.twin.tx.filter (fun f => !f.acked && decide ((f.seq + 2 ^ 24 - seq) % 2 ^ 24 < 2 ^ 23))).foldl
      (fun s f => s.resend f.seq) s

/-- A MIRROR frame: the item is held for its release tick (R382). -/
def mirrorRx (s : State) (tick seq : Nat) (item : MirrorItem) : State :=
  if s.role = roleSTANDBY then
    { s with twin := { s.twin with
      items := s.twin.items ++ [{ tick := tick, item := item, seq := seq, acked := true }] } }
  else s

/-! ### Output comparison (R387, R388) -/

/-- The CRCs of one block compared; only blocks in a row count. DEDUCED: log entry 71. -/
def compareCrc (s : State) (blk own partner : Nat) : State :=
  let n := if blk % 2 ^ 32 = (s.get F.TWN_CRCBLK_J + 1) % 2 ^ 32 then min 255 (s.get I.TWN_MATCH + 1) else 1
  let s := (((s.set F.TWN_CRC_L_C own).set F.TWN_CRC_P_C partner).set F.TWN_CRCBLK_J blk).set I.TWN_PV 0
  if own = partner then
    let s := s.set I.TWN_MATCH n
    if s.sync = syncRESYNC ∧ s.get F.TWN_CTRL_MATCHN ≤ n then
      let s := s.setSync syncTRACKING
      if s.role = roleSTANDBY then s.raise 235 else s
    else s
  else
    let s := s.set I.TWN_MATCH 0
    if s.role = roleSTANDBY then ((s.raise 234).bump F.TWN_CNT_MISM 1).resyncStart
    else if s.sync = syncTRACKING then s.resyncStart else s

/-- A STATUS frame (R387). -/
def statusRx (s : State) (blk crc : Nat) : State :=
  let s := ((s.set I.TWN_GOT 1).set I.TWN_MISS 0).set I.TWN_SEEN (blk + 1)
  match s.twin.crcs.find? (fun c => decide (c.1 = blk)) with
  | some c => s.compareCrc blk c.2 crc
  | none => ((s.set I.TWN_PV 1).set I.TWN_PBLK blk).set I.TWN_PCRC crc

/-- The external destinations that the output CRC covers, ascending (R387). -/
def crcDests (s : State) : List Nat :=
  (s.enabledEntries false).filter (fun d => !isSb d && !(decide (0x780 ≤ d) && decide (d < 0x800)))

/-- The output CRC of block `blk`, just drained. -/
def outputCrc (s : State) (blk : Nat) : Nat :=
  crc32 (s.crcDests.flatMap (fun d =>
    (List.range s.blockLen).flatMap (fun o => leBytes (wrap 32 (s.receivedAt d (blk * s.blockLen + o))) 4)))

/-- The CRC of a block drained kept for the partner's, which may come later. -/
def keepCrc (s : State) (blk : Nat) : State :=
  { s with twin := { s.twin with crcs := (s.twin.crcs ++ [(blk, s.outputCrc blk)]).drop (s.twin.crcs.length + 1 - 8) } }

/-- A chip of a pair reports block `blk` at tick `blk` + 3, and compares a CRC that came before its own (R387). -/
def reportCrc (s : State) (blk : Nat) : State :=
  match s.twin.crcs.find? (fun c => decide (c.1 = blk)) with
  | none => s
  | some c =>
    let s := if s.linkUp && decide (s.role ≠ roleSOLO) then s.sendFrame 4 blk none [c.2] else s
    if s.on I.TWN_PV ∧ s.get I.TWN_PBLK = blk then s.compareCrc blk c.2 (s.get I.TWN_PCRC) else s

/-- Missing STATUS frames counted at a tick (R388). -/
def statusMissing (s : State) : State :=
  if s.role = roleSTANDBY ∧ s.sync = syncTRACKING then
    if s.on I.TWN_GOT then s.set I.TWN_GOT 0
    else if s.get I.TWN_MISS = 0 then s.set I.TWN_MISS 1
    else (s.set I.TWN_MISS 0).setSync syncNONE
  else s.set I.TWN_GOT 0

/-! ### Copies (R386, R388) -/

/-- Every field of a register set from a copied word, whatever its access type; a successor list is named by the index that
`QN_SLIST_IDX` holds. DEDUCED: log entry 70. -/
def poke (s : State) (addr w : Nat) : State :=
  if 0x400000 ≤ addr ∧ addr < 0x420000 then
    let p := (addr - 0x400000) / 16
    let P := s.get (I.PH_P p)
    let D := s.get (I.PH_D p)
    match addr % 16 / 4 with
    | 0 => s.set (I.PH_P p) (P / 2 ^ 32 * 2 ^ 32 + w)
    | 1 => (s.set (I.PH_P p) (P % 2 ^ 32 + w % 2 ^ 16 * 2 ^ 32)).set (I.PH_D p) (D / 2 ^ 16 * 2 ^ 16 + w / 2 ^ 16)
    | 2 => s.set (I.PH_D p) (D % 2 ^ 16 + w * 2 ^ 16)
    | _ => s.set (I.PH_G p) w
  else if 0x800000 ≤ addr ∧ addr < 0x880000 then
    if addr % 8 = 0 then s.prmSet ((addr - 0x800000) / 8) (sint 32 w) else s
  else if 0x500C4 ≤ addr ∧ addr < 0x500D4 then
    s.set (I.SLIST (4 * s.get F.QN_SLIST_IDX_I + (addr - 0x500C4) / 4)) w
  else match findReg addr regTable with
  | some (r, i, ix) => r.fields.foldl (fun s f => s.put (f.fld r i ix) w) s
  | none => s

/-- A COPY frame on the standby. The two words of FRC, the high one last, are the twin load that R64 refers to.
DESIGN CHOICE: log entry 76. -/
def copyRx (s : State) (c : CopyItem) : State :=
  if s.role ≠ roleSTANDBY ∨ s.sync ≠ syncRESYNC then s
  else match c with
    | .reg a w =>
      if a.toNat = 0x10020 then s.set I.TWN_FRCLO w.toNat
      else if a.toNat = 0x10024 then s.frcSet (s.get I.TWN_FRCLO + 2 ^ 32 * w.toNat)
      else s.poke a.toNat w.toNat
    | .orchard a bs => s.orcWrite ((bs.zipIdx).map (fun e => ((a + e.2) % orcSize, e.1)))
    | .dram a bs => s.dramWrite ((bs.zipIdx).map (fun e => ((a + e.2) % 2 ^ 34, e.1)))

/-- An AUDIO frame: the samples that follow those it has brought of the block which the partner drains; the block lands
three blocks later (R386). DEDUCED: log entry 69. -/
def audioRx (s : State) (blk c : Nat) (xs : List Nat) : State :=
  let mine (a : Nat × Nat × List Nat) : Bool := decide (a.1 = blk + 3) && decide (a.2.1 = c)
  let had := ((s.twin.audio.find? mine).map (fun a => a.2.2)).getD []
  { s with twin := { s.twin with audio := s.twin.audio.filter (fun a => !mine a) ++ [(blk + 3, c, had ++ xs)] } }.set
    I.TWN_SEEN (blk + 1)

/-- Old blocks of twin sources dropped; without the link there are none (R386). -/
def audioDrop (s : State) : State :=
  if s.linkUp then
    { s with twin := { s.twin with audio := s.twin.audio.filter (fun a => decide (s.blockIx ≤ a.1 + 3)) } }
  else { s with twin := { s.twin with audio := [] } }.set I.TWN_SEEN 0

/-- Sample `m` of the twin destinations, just drained, sent (R386). DEDUCED: log entry 69. -/
def audioSend (s : State) (m : Nat) : State :=
  if !s.linkUp then s
  else ((s.routes.map (·.1)).filter (fun d => decide (0x780 ≤ d) && decide (d < 0x800))).foldl (fun s d =>
    s.sendFrame 5 (m / s.blockLen) none [d - 0x780, wrap 32 (s.receivedAt d m)]) s

/-! ### What the active chip copies (R388, steps 3 and 4) -/

/-- The rows of the register map that are copied: the registers of mirrored units, but the engine's, the power's and the
clock's own state. DESIGN CHOICE: log entry 76. -/
def copyRows : List RegRow :=
  regTable.filter (fun r => !pairLocal r.base &&
    (decide (0x50000 ≤ r.base) || decide (r.base = 0x400) || (decide (0x10000 ≤ r.base) && r.fields.any RegField.writable)))

/-- The address of word `j` of some rows, and the number of words before a row's end. -/
def rowWordAt : List RegRow → Nat → Option Nat
  | [], _ => none
  | r :: t, j =>
    if j < r.count1 * r.count2 then some (r.base + j / r.count2 * r.stride1 + j % r.count2 * r.stride2)
    else rowWordAt t (j - r.count1 * r.count2)

/-- The words of register space that are copied. -/
def copyWords : Nat := (copyRows.map (fun r => r.count1 * r.count2)).foldl (· + ·) 0

/-- What precedes the pages: the registers, the phasor table, the parameter store and the successor lists, each list after
its index. -/
def copyReg (s : State) (j : Nat) : Option (Nat × Nat) :=
  if j < copyWords then (rowWordAt copyRows j).map (fun a => (a, s.regWord a))
  else if j - copyWords < 32768 then
    let i := j - copyWords
    some (0x400000 + 4 * i, s.phWord (i / 4) (i % 4))
  else if j - copyWords - 32768 < 65536 then
    let i := j - copyWords - 32768
    some (0x800000 + 8 * i, s.prmValue i)
  else
    let i := j - copyWords - 98304
    if i < 81920 then
      some (if i % 5 = 0 then (0x500C0, i / 5) else (0x500C0 + 4 * (i % 5), s.get (I.SLIST (4 * (i / 5) + (i % 5 - 1)))))
    else none

/-- The number of words before the pages. -/
def copyHead : Nat := copyWords + 98304 + 81920

/-- Page `k` of a first pass, by its key: those of the banks, then those of the regions. -/
def firstPage (s : State) (k : Nat) : Option Nat :=
  let banks := (List.range 64).filter (fun c => natBit (s.get (if c < 32 then F.TWN_OBANK_LO_M else F.TWN_OBANK_HI_M)) (c % 32))
  if k < 256 * banks.length then some (2 * (banks.getD (k / 256) 0 * 0x100000 + k % 256 * 4096))
  else
    let find := (List.range 8).foldl (fun (x : Nat × Option Nat) r =>
      let n := s.get (F.TWN_RGN1_LEN r)
      if x.2.isSome then x
      else if x.1 < n then
        (x.1, some (2 * (16 * (s.get (F.TWN_RGN0_SRCW r) + 2 ^ 32 * s.get (F.TWN_RGN1_SRCWH r)) + 4096 * x.1) +
          b2n (s.on (F.TWN_RGN1_D r))))
      else (x.1 - n, none)) (k - 256 * banks.length, none)
    find.2

/-- A quarter of a page sent: its kind, its address and its bytes. -/
def sendPage (s : State) (page q : Nat) : State :=
  let a := page / 2 + 1024 * q
  let bs := if page % 2 = 1 then memBytes s.dram a 1024 else s.orcBytes a 1024
  let s := if q = 0 then { s with dirty := s.dirty.filter (fun p => decide (p ≠ page)) } else s
  s.sendFrame 6 0 none ((1 + page % 2) :: a :: bs.map (·.toNat))

/-- One COPY frame: of the first pass, then of a pass over the pages written since their copy, of which there are 4 at most;
the copies end with a pass that finds none. -/
def sendCopy (s : State) : State :=
  let pass := s.get I.TWN_CPASS
  let i := s.get I.TWN_CPOS
  let next (s : State) : State := s.set I.TWN_CPOS (i + 1)
  let endPass (s : State) : State :=
    if s.dirty = [] ∨ pass = 5 then s.copyStart 0
    else { (s.set I.TWN_CPASS (pass + 1)).set I.TWN_CPOS 0 with twin := { s.twin with pages := s.dirty } }
  if pass = 1 then
    if i ≤ copyHead then
      match s.copyReg (i - 1) with
      | some (a, w) => next (s.sendFrame 6 0 none [0, a, w])
      | none => next s
    else match s.firstPage ((i - copyHead - 1) / 4) with
      | some p => next (s.sendPage p ((i - copyHead - 1) % 4))
      | none => endPass s
  else match s.twin.pages[i / 4]? with
    | some p => next (s.sendPage p (i % 4))
    | none => endPass s

/-- COPY frames sent while fewer than 256 frames wait for their acknowledgement, `n` of them at most. -/
def sendCopies : Nat → State → State
  | 0, s => s
  | n + 1, s =>
    if s.get I.TWN_CPASS = 0 ∨ s.get I.TWN_CPOS = 0 ∧ s.get I.TWN_CPASS = 1 ∨ !s.linkUp ∨
        256 ≤ (s.twin.tx.filter (fun f => !f.acked)).length then s
    else sendCopies n s.sendCopy

/-- The copies of one engine sample, at the rate of the lanes that are ON (R384). DESIGN CHOICE: log entry 76. -/
def copyRun (s : State) : State :=
  if s.get I.TWN_CPASS = 0 then s
  else sendCopies (s.sampleTclks * bits (s.get F.TWN_STAT_LANES) (List.range 4) * 10 ^ 10 / (s.tclkHz * 8352)) s

/-- At a tick the copies begin with FRC (R388, step 1). -/
def copyTick (s : State) : State :=
  if s.get I.TWN_CPASS = 1 ∧ s.get I.TWN_CPOS = 0 ∧ s.linkUp then
    ((s.sendFrame 6 0 none [0, 0x10020, s.frc % 2 ^ 32]).sendFrame 6 0 none [0, 0x10024, s.frc / 2 ^ 32]).set I.TWN_CPOS 1
  else s

/-! ### The standby's start (R388, steps 5 and 6) -/

/-- The copy passes are over (R388, step 5): T is the next tick. -/
def copyDone (s : State) : State :=
  if s.role = roleSTANDBY ∧ s.sync = syncRESYNC ∧ s.get I.TWN_CPD = 0 then
    (s.set I.TWN_CPD 1).set I.TWN_T (roundUp (s.frc + 1) s.blockLen)
  else s

/-- The standby starts its engine at block T / B. -/
def resyncEngine (s : State) : State :=
  if s.role = roleSTANDBY ∧ s.sync = syncRESYNC ∧ s.on I.TWN_CPD ∧ s.get F.SYS_ENGINE_STATE = 0 ∧
      s.get I.TWN_T ≤ s.frc + s.blockLen then
    (s.engineStart (s.get I.TWN_T)).set F.SYS_ENGINE_RUN 1
  else s

/-- RSYNC_T passes without TRACKING: from step 1 again, counted. -/
def resyncAgain (s : State) : State :=
  if s.role ≠ roleSOLO ∧ s.sync = syncRESYNC ∧ s.lasted (s.get I.TWN_RSAT) (1000000 * s.get F.TWN_TIME_RSYNC_T) then
    (s.bump F.TWN_CNT_RSYNC 1).resyncStart
  else s

/-! ### Heartbeat and takeover (R389 to R392) -/

/-- The heartbeat condition (R389). -/
def hbGood (s : State) : Bool :=
  if s.role = roleACTIVE then
    !s.on I.TWN_WDX && !s.on F.CUR_MONSTAT_CRIT && !s.nospare && !s.on I.TWN_SWAP
  else decide (s.role = roleSTANDBY) && decide (s.sync = syncTRACKING)

/-- `TW_HB_OUT` at a tick. -/
def hbTick (s : State) : State :=
  if !s.on F.TWN_CTRL_EN then s
  else if s.hbGood then ((s.set I.TWN_HBO (1 - s.get I.TWN_HBO)).set I.TWN_HBP 1).set I.TWN_HBF 0
  else (s.set I.TWN_HBP 0).set I.TWN_HBF (s.frc + 1)

/-- The sample of `TW_HB_IN`, B / 2 samples after a tick. -/
def hbSample (s : State) (level : Bool) : State :=
  if s.frc % s.blockLen ≠ s.blockLen / 2 then s
  else
    let t := (s.flag F.TWN_STAT_PEERHB (s.on F.TWN_STAT_HBIN != level)).flag F.TWN_STAT_HBIN level
    if level && !s.on F.TWN_STAT_HBIN then t.tmFire 57 else t

/-- What a chip does at tick k + 2 (R390 to R392), and at the tick of a forced exchange. -/
def takeover (s : State) : State :=
  if s.frc % s.blockLen ≠ 0 then s
  else if s.on I.TWN_DEMOTE then (s.set I.TWN_DEMOTE 0).becomeStandby
  else if s.get I.TWN_XCH ≠ 0 ∧ s.get I.TWN_XCH ≤ s.frc + 1 then
    let s := s.set I.TWN_XCH 0
    if s.role = roleACTIVE then (s.setRole roleSTANDBY).setSync syncNONE
    else if s.role = roleSTANDBY then s.setRole roleACTIVE else s
  else if s.role = roleACTIVE then
    if s.get I.TWN_HBF = 0 ∨ s.frc < s.get I.TWN_HBF then s
    else
      let s := (s.set I.TWN_HBF 0).set I.TWN_SWAP 0
      if s.on F.TWN_STAT_PEERHB then (s.setRole roleSTANDBY).setSync syncNONE else s.raise 233
  else if s.role = roleSTANDBY ∧ s.get F.TWN_STAT_PEERHB = 0 then
    if s.sync = syncTRACKING ∧ s.on I.TWN_HBP then (s.setRole roleACTIVE).setSync syncNONE
    else if s.on F.TWN_CTRL_COLD then ((s.setRole roleACTIVE).setSync syncNONE).raise 238
    else s.raise 238
  else s

/-- The partner announces a forced exchange (R392): it is due at the second tick. -/
def handoverRx (s : State) : State :=
  if s.role = roleACTIVE ∧ s.get I.TWN_XCH = 0 then s.set I.TWN_XCH (roundUp (s.frc + 1) s.blockLen + s.blockLen + 1)
  else s

/-! ### Registers -/

/-- The pair disabled: SOLO at once. -/
def pairOff (s : State) : State :=
  s.losing twinSources (fun s => (((s.set F.TWN_CTRL_EN 0).set I.TWN_CPASS 0).setSync syncNONE).setRole roleSOLO |>.syncLink)

/-- The chip's state forbids the action that a write of `TWN_CTRL` asks for (R388, R392). -/
def twnRefuses (s : State) (w : Nat) : Bool :=
  (natBit w 23 && !(decide (s.role = roleACTIVE) && decide (s.sync = syncTRACKING))) ||
    (natBit w 22 && !(decide (s.role = roleSTANDBY) && s.linkUp)) || (natBit w 20 && decide (s.role = roleSOLO))

/-- The enable of the pair as a write leaves it. -/
def twnEnable (s : State) (want : Bool) : State :=
  if want = s.on F.TWN_CTRL_EN then s
  else if want then ((s.set F.TWN_CTRL_EN 1).set I.TWN_ENAT (s.get I.PCLK)).syncLink
  else s.pairOff

/-- A write of `TWN_CTRL` (R378, R392, R501, R502, R504): an action is refused by the state before the write or after its
enable. DEDUCED: log entry 74. -/
def twnSet (s : State) (w : Nat) : State :=
  if 1 < bits w [20, 22, 23] then s.twnStatus stBADARG
  else
    let t := s.twnEnable (natBit w 4)
    if s.twnRefuses w || t.twnRefuses w then s.twnStatus stREFUSED
    else if F.TWN_CTRL_MATCHN.of w = 0 then s.twnStatus stBADARG
    else
      let t := (t.puts [F.TWN_CTRL_COLD, F.TWN_CTRL_MATCHN] w).twnStatus stOK
      if natBit w 23 then (t.set I.TWN_SWAP 1).sendFrame 8 0 none []
      else if natBit w 22 then
        (t.set I.TWN_XCH (roundUp (t.frc + 1) t.blockLen + t.blockLen + 1)).sendFrame 8 0 none []
      else if natBit w 20 then t.resyncStart
      else t

/-- A write of `TWN_WDOG`: the steward's KICK restarts the period (R389). -/
def wdogSet (s : State) (m : Master) (w : Nat) : State :=
  let s := (s.put F.TWN_WDOG_PERIOD w).twnStatus stOK
  if natBit w 31 ∧ m = .steward then (s.set I.TWN_WDX 0).set I.TWN_WDAT (s.get I.PCLK) else s

/-- PERIOD ms have passed since the last KICK (R389). -/
def wdogExpire (s : State) : State :=
  if s.lasted (s.get I.TWN_WDAT) (1000 * s.get F.TWN_WDOG_PERIOD) then s.set I.TWN_WDX 1 else s

/-- A write of another `TWN_` register. -/
def twnPlain (s : State) (a w : Nat) : State :=
  if 0x110040 ≤ a ∧ a < 0x110080 ∧ a % 8 = 4 ∧ natBit w 31 = false ∧ natBits w 30 27 ≠ 0 then s.twnStatus stBADARG
  else s.plainStore a w (fun s => s.twnStatus stOK)

end State

/-! ### The commands -/

def execTwinEnable (m : Master) (w : Word) (s : State) : Out :=
  .next (s.guardWrite m 0x110000 (w ||| 0x10).toNat (fun s => s.twnSet (w ||| 0x10).toNat))
def execTwinDisable (m : Master) (w : Word) (s : State) : Out :=
  .next (s.guardWrite m 0x110000 (w &&& 0xFFFFFFEF).toNat (fun s => s.twnSet (w &&& 0xFFFFFFEF).toNat))
def execTwinSwap (m : Master) (w : Word) (s : State) : Out :=
  .next (s.guardWrite m 0x110000 (w ||| 0x800000).toNat (fun s => s.twnSet (w ||| 0x800000).toNat))
def execTwinTake (m : Master) (w : Word) (s : State) : Out :=
  .next (s.guardWrite m 0x110000 (w ||| 0x400000).toNat (fun s => s.twnSet (w ||| 0x400000).toNat))
def execTwinResync (m : Master) (w : Word) (s : State) : Out :=
  .next (s.guardWrite m 0x110000 (w ||| 0x100000).toNat (fun s => s.twnSet (w ||| 0x100000).toNat))

def execTwinBootwaitExpire (hb : Bool) (s : State) : Out := .next (s.bootwaitEnd hb)
def execTwinLaneEnable (m : Master) (l : Fin 4) (s : State) : Out :=
  .next (s.guardWrite m (0x110080 + 4 * l) 0x10 (fun s => s.laneSet l 0x10))
def execTwinLaneDisable (m : Master) (l : Fin 4) (s : State) : Out :=
  .next (s.guardWrite m (0x110080 + 4 * l) 0 (fun s => s.laneSet l 0))
def execTwinLaneOn (l : Fin 4) (s : State) : Out := .next (s.laneOn l)
def execTwinLaneCrcRetire (l : Fin 4) (s : State) : Out := .next (s.laneRetire l)
def execTwinMirrorFrame (seq : BitVec 24) (crcOk : Bool) (tick : Nat) (item : MirrorItem) (s : State) : Out :=
  .next (s.received seq.toNat crcOk 1 (fun s => s.mirrorRx tick seq.toNat item))
def execTwinAckFrame (seq : BitVec 24) (a : Ack) (s : State) : Out := .next (s.ackRx seq.toNat a.crcOk a.credits)
def execTwinNakFrame (seq : BitVec 24) (crcOk : Bool) (s : State) : Out := .next (s.nakRx seq.toNat crcOk)
def execTwinStatusFrame (seq : BitVec 24) (crcOk : Bool) (blk : Nat) (crc : Word) (s : State) : Out :=
  .next (s.received seq.toNat crcOk 0 (fun s => s.statusRx blk crc.toNat))
def execTwinAudioFrame (seq : BitVec 24) (crcOk : Bool) (blk : Nat) (c : Fin 128) (xs : List Word) (s : State) : Out :=
  .next (s.received seq.toNat crcOk 0 (fun s => s.audioRx blk c (xs.map (·.toNat))))
def execTwinCopyFrame (seq : BitVec 24) (crcOk : Bool) (item : CopyItem) (s : State) : Out :=
  .next (s.received seq.toNat crcOk 0 (fun s => s.copyRx item))
def execTwinHandoverFrame (seq : BitVec 24) (crcOk : Bool) (s : State) : Out :=
  .next (s.received seq.toNat crcOk 0 (fun s => s.handoverRx))
def execFrameResendTimeout (seq : BitVec 24) (s : State) : Out := .next (s.resendDue seq.toNat)
def execResyncCopyComplete (s : State) : Out := .next s.copyDone
def execResyncEngineStart (s : State) : Out := .next s.resyncEngine
def execResyncTimeout (s : State) : Out := .next s.resyncAgain
def execHeartbeatSample (level : Bool) (s : State) : Out := .next (s.hbSample level)
def execTakeover (s : State) : Out := .next s.takeover
def execWatchdogKick (m : Master) (w : Word) (s : State) : Out :=
  .next (s.guardWrite m 0x110008 (w ||| 0x80000000).toNat (fun s => s.wdogSet m (w ||| 0x80000000).toNat))
def execWatchdogExpire (s : State) : Out := .next s.wdogExpire

end Sys2Proof.Machine
end

