-- ==== Sys2Proof/Machine/Power.lean ====
section
/-! DEFINITION. Power, reset, boot and standby (R470 to R484), the boot flash (R423 to R430), and taking a reset. -/

namespace Sys2Proof.Machine

/-! ### The boot flash (R424 to R430) -/

def slotEMPTY : Nat := 0xFFFFFFFF
def slotSTAGED : Nat := 0xFFFFFF00
def slotTRIAL : Nat := 0xFFFF0000
def slotBOOTED : Nat := 0xFF000000
def slotGOOD : Nat := 0x0F000000
def slotFAILED : Nat := 0

/-- A slot's STATE as `CFG_SLOT` reports it; any other value reads FAILED (R424). -/
def slotCode (x : ImgSlot) : Nat :=
  if x.state = slotEMPTY then 0 else if x.state = slotSTAGED then 1 else if x.state = slotTRIAL then 2
  else if x.state = slotBOOTED then 3 else if x.state = slotGOOD then 4 else 5

/-- `a` is higher than `b` by 32-bit serial arithmetic. -/
def serialHigher (a b : Nat) : Bool := decide (a ≠ b) && decide ((a + 2 ^ 32 - b) % 2 ^ 32 < 2 ^ 31)

/-- A little-endian word and half-word of a list of bytes. -/
def word32 (bs : List Byte) (o : Nat) : Nat := leNat ((bs.drop o).take 4)
def word16 (bs : List Byte) (o : Nat) : Nat := leNat ((bs.drop o).take 2)

/-- A manifest's SEQ, PRODUCT, FORMATS and FLAGS (R432). -/
def mfSeq (m : List Byte) : Nat := word32 m 8
def mfProduct (m : List Byte) : Nat := word32 m 32
def mfFormats (m : List Byte) : List Nat := ((List.range 8).map (fun i => word16 m (16 + 2 * i))).filter (fun f => decide (f ≠ 0))
def mfFlags (m : List Byte) : Nat := word32 m 12

/-- A settings copy (R426, R427). -/
def copyFormat (c : List Byte) : Nat := word16 c 4
def copySeq (c : List Byte) : Nat := word32 c 8
def copyBody (c : List Byte) : List Byte := (c.drop 32).take (word32 c 12)
def copyValid (c : List Byte) : Bool :=
  decide (word32 c 0 = 0x5453584B) && decide (word32 c 12 ≤ 1048544) && decide (32 + word32 c 12 ≤ c.length) &&
  decide (crc32 (copyBody c) = word32 c 16)

/-- The settings copy that a firmware declaring `fs` selects: 0 none, 1 copy 0, 2 copy 1 (R427). -/
def selectCopy (f : Flash) (fs : List Nat) : Nat :=
  let ok (c : List Byte) : Bool := copyValid c && fs.contains (copyFormat c)
  match ok f.copy0, ok f.copy1 with
  | false, false => 0
  | true, false => 1
  | false, true => 2
  | true, true => if serialHigher (copySeq f.copy1) (copySeq f.copy0) then 2 else 1

/-- Copy 1 is the one written next: it holds the lower SEQ, or is invalid, or both are alike (R428). -/
def writesCopy1 (f : Flash) : Bool :=
  if !copyValid f.copy1 then true
  else if !copyValid f.copy0 then false
  else !serialHigher (copySeq f.copy1) (copySeq f.copy0)

/-- The 32-byte header of a copy (R426). -/
def copyHeader (format seq : Nat) (body : List Byte) : List Byte :=
  leBytes 0x5453584B 4 ++ leBytes format 2 ++ leBytes 0 2 ++ leBytes seq 4 ++ leBytes body.length 4 ++
  leBytes (crc32 body) 4 ++ List.replicate 12 0

/-- A flash's slot: 1 for A, 2 for B. -/
def Flash.slot (f : Flash) (i : Nat) : ImgSlot := if i = 2 then f.slotB else f.slotA
def Flash.setSlot (f : Flash) (i : Nat) (x : ImgSlot) : Flash := if i = 2 then { f with slotB := x } else { f with slotA := x }

/-- The GOOD slot with the higher COMMITNO (R425, step 3): 0 none, 1 A, 2 B. -/
def goodSlot (f : Flash) : Nat :=
  match slotCode f.slotA == 4, slotCode f.slotB == 4 with
  | false, false => 0
  | true, false => 1
  | false, true => 2
  | true, true => if serialHigher f.slotB.commitno f.slotA.commitno then 2 else 1

/-- A slot that reads BOOTED is set to FAILED (R425, step 1). -/
def failBooted (x : ImgSlot) : ImgSlot := if x.state = slotBOOTED then { x with state := slotFAILED } else x

/-- The slot chosen at a reset, the flash after the choice, and whether a trial begins with it (R423, R425). -/
def chooseSlot (f : Flash) : Flash × Nat × Bool :=
  let f := { f with slotA := failBooted f.slotA, slotB := failBooted f.slotB }
  if f.mib < 32 then (f, 0, false)
  else if f.slotA.state = slotTRIAL then ({ f with slotA := { f.slotA with state := slotBOOTED } }, 1, true)
  else if f.slotB.state = slotTRIAL then ({ f with slotB := { f.slotB with state := slotBOOTED } }, 2, true)
  else (f, goodSlot f, false)

namespace State

def setFlash (s : State) (f : Flash) : State := { s with flash := f }

/-- The slot that runs, or was chosen: 0 none, 1 A, 2 B. -/
def bootSlot (s : State) : Nat := s.get I.BOOT_SLOT

/-- The running slot's manifest. -/
def runManifest (s : State) : List Byte := (s.flash.slot s.bootSlot).manifest

/-- In a pair, a chip that is healthy in its trial tells its partner so, with the digest of its manifest (R443). -/
def tellHealthy (s : State) : State :=
  if s.linkUp && decide (s.role ≠ roleSOLO) && s.on F.CFG_TRIAL_ACTIVE && s.on F.CFG_TRIAL_HEALTHY then
    s.sendFrame 7 0 none (4 :: (sha256 s.runManifest).map (·.toNat))
  else s

/-- Rind enters recovery (R447). -/
def enterRecovery (s : State) : State :=
  (((s.set I.BOOT_PH 2).set I.BOOT_SLOT 0).set I.RL_UNL 0).set I.RL_BAUD 115200 |>.say "RIND 1"

/-- Rind chooses the slot to boot, or enters recovery (R425). -/
def selectSlot (s : State) : State :=
  let booted := decide (s.flash.slotA.state = slotBOOTED) || decide (s.flash.slotB.state = slotBOOTED)
  let (f, k, trial) := chooseSlot s.flash
  let s := (((s.setFlash f).set I.BOOT_SLOT k).flag I.BOOT_TRIAL trial).set I.BOOT_DIG 0
  let s := if booted then s.set I.FB_PEND 1 else s
  if k = 0 then s.enterRecovery else s

/-! ### The BOOT record (R430) -/

/-- The words of the record for one Damson channel, as register writes. -/
def bootDamson (s : State) (body : List Byte) (n : Nat) : State :=
  let w (k : Nat) : Nat := word32 body (28 * n + 4 * k)
  let s := (s.dmsPlain n 0x04 (w 0)).dmsSpanSet n (w 1)
  let s := ((s.dmsPlain n 0x1C (w 2)).dmsPlain n 0x18 (w 3)).dmsPlain n 0x10 (w 4)
  (s.dmsPlain n 0x14 (w 5)).dmsCtrlSet n (w 6)

/-- The record applied from the copy that the booting firmware selects; with none, every register keeps its value and
no owner code is set. -/
def bootRecord (s : State) : State :=
  let k := selectCopy s.flash (mfFormats (s.flash.slot s.bootSlot).manifest)
  let s := s.set I.SET_COPY k
  let body := copyBody (if k = 2 then s.flash.copy1 else s.flash.copy0)
  let own (i : Nat) : Nat := if k = 0 then 0 else (body.getD (480 + i) 0).toNat
  let s := (List.range 32).foldl (fun s i => s.set (I.OWN_DIG i) (own i)) s
  if k = 0 then (List.range 16).foldl (fun s n => s.dmsCtrlSet n 0) s
  else
    let s := (List.range 16).foldl (fun s n => s.bootDamson body n) s
    let s := (List.range 5).foldl (fun s i => s.refpriSet i (word32 body (448 + 4 * i))) s
    ((s.clkCtrlSet (word32 body 468)).dmcCfgSet (word32 body 472)).regStore 0x40060 (word32 body 476)

/-- Steps 2 to 4 of the boot sequence (R477): the slot, the BOOT record, and the memory controller's enable. -/
def bootSteps (s : State) : State :=
  let s := s.selectSlot
  if s.get I.BOOT_PH = 2 then (List.range 16).foldl (fun s n => s.dmsCtrlSet n 0) s
  else (((s.bootRecord).set I.CUR_EN 1).set I.RSTOUT_B 0).dmcSet 0x10

/-- The straps sampled at a release (R476), then the boot, or Rind recovery. -/
def release (s : State) (boot : Nat) : State :=
  let s := (((s.set F.SYS_RSTCAUSE_BOOT boot).flag F.SYS_RSTCAUSE_BADSTRAP (boot = 3)).flag F.SYS_RSTCAUSE_SAFE (boot = 2)).set
    I.RSTOUT_B 1
  if boot = 1 then (List.range 16).foldl (fun s n => s.dmsCtrlSet n 0) s.enterRecovery else s.bootSteps

/-! ### Resets (R472 to R474) -/

/-- A key's register address; the numbers that no register shows lie above register space. -/
def keyAddr (k : Key) : Nat := k.1 / 32

/-- The kept numbers that no reset changes: fuses, pins and the supply state. -/
def fixedKeys : List Nat :=
  [(I.KEY_WR 0).id, (I.KEY_REV 0).id, I.PWRSRC.id, I.DMS_LOW.id, I.DMS_OUTER.id, (I.PW_BAD 0).id, I.PW_PORST.id,
   I.PW_HOLD.id, I.PW_LOST.id, I.TWN_HBO.id, I.JTAG_IR.id, I.JTAG_DR.id]

/-- What a cold reset keeps of the register file: pins' levels and fuses. -/
def coldKeeps (k : Key) : Bool := fixedKeys.contains k.1 || decide (k.1 = (F.PIN_GP_IN 0).id)

/-- The kept numbers of the units that a warm reset leaves alone: the clock unit, Medlar's map, log and retirements, the
Damson channels, and a chain's head. -/
def warmKeys : List Nat :=
  [(I.REF_EN 0).id, (I.REF_KIND 0).id, (I.REF_INST 0).id, I.CLK_WORDAT.id, I.CLK_HELD.id, I.CLK_HELDAT.id, I.CLK_REFPPM.id,
   I.PCLK.id, I.CLK_LOST.id, I.CLK_STARTED.id, I.CLK_GLRUN.id, I.CLK_GLAT.id, I.CLK_HOEXP.id, I.RATE_PEND.id, I.RATE_AT.id,
   I.RATE_M.id, I.RATE_B.id, I.RATE_F.id, I.FRC_LOADP.id, I.FRC_LOADV.id, I.TICKED.id, I.MDL_LOGN.id] ++
  [(I.PC_RET 0).id, (I.PB_RET 0).id, (I.ASRC_PRET 0).id, (I.ASRC_DEAD 0).id] ++
  [(I.DMS_TGT 0).id, (I.DMS_FROM 0).id, (I.DMS_TO 0).id, (I.DMS_SAT 0).id, (I.DMS_DUE 0).id, (I.DMS_RDIR 0).id,
   (I.DMS_RAT 0).id, (I.DMS_PH 0).id, (I.DMS_NSPAN 0).id,
   (I.DMS_HELD 0).id, (I.DMS_UNFIT 0).id, (I.DMS_SWAP 0).id] ++
  [I.CH_HEAD.id, I.CH_HOP.id, F.TWN_STAT_STRAP.id, F.SYS_RATE_BLOCK.id, F.SYS_RATE_MULT.id, F.SYS_RATE_FAMILY.id]

/-- What a warm reset keeps of the register file (R474): beside what no reset changes, the clock unit but its outputs,
`MDL_MAP`, `ORC_MAP`, `ASRC_CH.PHYS`, the fault log, and the Damson channels but CW and their events.
DEDUCED: log entry 79. -/
def warmKeeps (k : Key) : Bool :=
  let a := keyAddr k
  coldKeeps k || warmKeys.contains k.1 ||
  (decide (0x10000 ≤ a) && decide (a < 0x20000) && !(decide (0x10060 ≤ a) && decide (a < 0x10084))) ||
  decide (k.1 = (F.MDL_MAP_PHYS 0).id) || decide (k.1 = (F.ORC_MAP_PHYS 0).id) || decide (k.1 = (F.ASRC_CH_PHYS 0).id) ||
  decide (a = 0x30024) || (decide (0x31000 ≤ a) && decide (a < 0x32000)) ||
  (decide (0xE1000 ≤ a) && decide (a < 0xE2000) && decide (k.1 ≠ (F.DMS_STAT_CW 0).id) && decide (k.1 ≠ (F.DMS_EVT_EVT 0).id))

/-- What every reset keeps beside registers: the flash, the pending commands, the boundary cells and the lines sent. -/
def resetTo (s : State) (keep : Key → Bool) : State :=
  { State.reset with
    regs := s.regs.filter (fun e => keep e.1)
    free := s.free, flash := s.flash, jtag := s.jtag, pending := s.pending
    svc := { drives := [], out := s.svc.out } }

/-- The cells of a memory whose contents are no longer guaranteed, below a size. -/
def lostMem (n size : Nat) : Mem :=
  ((Config.lostCells n).filter (fun c => decide (c.1 < size))).foldl (fun m c => memSet m c.1 c.2) []

/-- Orchard, external memory and the cores' memories lost. DESIGN CHOICE: log entry 78. -/
def loseMemories (s : State) : State :=
  let c (n : Nat) : Nat × Core :=
    let m (k size : Nat) : Mem := lostMem (s.free + k + 2 * n) size
    (n, { s.core n with imem := m 2 0x10000, dmem := m 3 0x80000, flaws := [] })
  { s with orchard := lostMem s.free orcSize, dram := lostMem (s.free + 1) (2 ^ 34), orcFlaws := [], dramFlaws := [],
           cores := (List.range 65).map c, free := s.free + 132 }

/-- Hold-safe entered (R471): every unit is in its reset state. DEDUCED: log entry 77. DEDUCED: log entry 80. -/
def holdSafe (s : State) (lost : Bool) : State :=
  if s.on I.PW_HOLD then s
  else ((s.set I.PW_HOLD 1).flag I.PW_LOST lost).resetTo coldKeeps

/-- Hold-safe may end: every supply is good and `PORST#` is high. -/
def holdEnds (s : State) : Bool :=
  s.on I.PW_HOLD && !s.on I.PW_PORST && (List.range 12).all (fun k => !s.on (I.PW_BAD k))

/-- A cold reset (R473): tREL after hold-safe ends. -/
def coldReset (s : State) (boot : Nat) (role : Bool) : State :=
  if s.holdEnds then
    let lost := s.on I.PW_LOST
    let s := (((s.resetTo coldKeeps).set I.PW_HOLD 0).set I.PW_LOST 0).loseMemories
    let s := (s.flag F.TWN_STAT_STRAP role).set (if lost then F.SYS_RSTCAUSE_SUPPLY else F.SYS_RSTCAUSE_COLD) 1
    s.release boot
  else s

/-- A warm reset by the cause that `cause` records (R474). FRC, the clocks and the memories run on or are kept; from STANDBY
it is a wake (R482). -/
def warmReset (s : State) (cause : Fld) (boot : Nat) : State :=
  if s.on I.PW_HOLD then s
  else
    let keepCore (e : Nat × Core) : Nat × Core :=
      if e.1 = 64 then (64, Core.steward 0x08000000) else (e.1, { Core.reset with dmem := e.2.dmem, flaws := e.2.flaws })
    let t := s.resetTo warmKeeps
    let t := { t with frc := s.frc, frcPrev := s.frcPrev, cclk := s.cclk, tclk := s.tclk, orchard := s.orchard,
                      dram := s.dram, orcFlaws := s.orcFlaws, dramFlaws := s.dramFlaws, cores := s.cores.map keepCore,
                      graft := { Graft.reset with hops := s.graft.hops } }
    let t := if s.get F.SYS_PWR_STATE = 3 then t.enterAcquire else t
    ((t.set cause 1).syncSpares).release boot

/-- `SYS_RST` written (R474, R475); WARM is the steward's. -/
def rstSet (s : State) (m : Master) (w boot : Nat) : State :=
  let s := s.put F.SYS_RST_RSTOUT w
  if natBit w 31 ∧ m = .steward then s.warmReset F.SYS_RSTCAUSE_WARM boot else s

/-- `RSTOUT#` is low (R475). -/
def rstoutLow (s : State) : Bool := s.on I.PW_HOLD || s.on I.RSTOUT_B || s.on F.SYS_RST_RSTOUT

/-! ### The rest of the boot (R477, R479, R442) -/

/-- Step 5: the digests of the chosen slot's parts; a mismatch fails the slot, and selection begins again. -/
def digestsChecked (s : State) (good : Bool) : State :=
  if s.get I.BOOT_PH ≠ 0 ∨ s.bootSlot = 0 then s
  else if good then s.set I.BOOT_DIG 1
  else
    let k := s.bootSlot
    let c := s.get I.SET_COPY
    let s := (s.setFlash (s.flash.setSlot k { s.flash.slot k with state := slotFAILED })).selectSlot
    if s.get I.BOOT_PH = 2 then s
    else if selectCopy s.flash (mfFormats (s.flash.slot s.bootSlot).manifest) = c then s else s.bootRecord

/-- Step 7: the U0 check (R328, R479). -/
def recoveryCheck (s : State) (held : Nat) (inTime : Bool) (sync : List Byte) : State :=
  if s.get I.BOOT_PH ≠ 0 ∨ s.on I.BOOT_U0 then s
  else
    let s := s.set I.BOOT_U0 1
    if 100 ≤ held ∧ held ≤ 2000 ∧ inTime ∧ sync = [0x55, 0x55, 0x4B, 0x58] then s.enterRecovery
    else if 2000 < held then (s.set (F.U_STAT_RXST 0) 1).set (F.U_STAT_LINE_LVL 0) 0 else s

/-- Step 8: the steward firmware starts (R477) and enables U0 for its link (R449); a slot that was TRIAL is in trial (R442), and a slot that was found
BOOTED is reported (R425). DEDUCED: log entry 85. -/
def firmwareRuns (s : State) : State :=
  if s.get I.BOOT_PH ≠ 0 ∨ s.bootSlot = 0 ∨ s.get I.BOOT_DIG = 0 ∨ s.get I.BOOT_U0 = 0 ∨
      s.get F.CLK_STAT_MODE = clkACQUIRE ∨ s.get F.DMC_STAT_STATE = unitSTARTING then s
  else
    let s := ((s.set I.BOOT_PH 1).setCore 64 (Core.steward Config.firmwareEntry.toNat)).uCtrlSet 0 0x10
    let s := if s.on I.BOOT_TRIAL then
        (((s.set F.CFG_TRIAL_ACTIVE 1).set I.TRIAL_AT s.tclk).set I.BOOT_TRIAL 0).raise 37
      else s
    let s := if s.on I.FB_PEND then (s.set I.FB_PEND 0).raise 39 else s
    s.say "KX7 READY"

/-! ### STANDBY (R481 to R484) -/

/-- Every unit that R481 names is OFF. -/
def standbyReady (s : State) : Bool :=
  decide (s.get F.SYS_ENGINE_STATE = 0) && decide (s.role = roleSOLO) &&
  (List.range 32).all (fun n => decide (s.get (F.AP_CTRL_STATE n) = unitOFF)) &&
  (List.range 8).all (fun n => decide (s.get (F.AES_RXCTRL_STATE n) = unitOFF) &&
    decide (s.get (F.AES_TXCTRL_STATE n) = unitOFF) && decide (s.get (F.CLK_MCLKO_STATE n) = unitOFF)) &&
  (List.range 512).all (fun c => decide (s.get (F.ASRC_CH_STATE c) = unitOFF)) &&
  decide (s.get F.CLK_SYNCOUT_STATE = unitOFF) &&
  (List.range 64).all (fun n => decide (s.get (F.TMR_CTRL_STATE n) = unitOFF)) &&
  (List.range 16).all (fun n => decide (s.get (F.DMS_CTRL_STATE n) = unitOFF)) &&
  decide (s.get F.DMC_STAT_STATE = unitOFF) && !s.on F.CUR_CTRL_SCAN

/-- A write of `SYS_PWR` (R481, R501): refused, it changes nothing. -/
def pwrSet (s : State) (m : Master) (w : Nat) : State :=
  if m ≠ .steward ∨ (natBit w 16 ∧ (s.standbyReady = false ∨ s.get F.SYS_PWR_STATE ≠ 1)) then
    s.set F.SYS_PWR_STATUS stREFUSED
  else
    let s := (s.regStore 0x60 w).set F.SYS_PWR_STATUS stOK
    if natBit w 16 then s.set F.SYS_PWR_STATE 2 else s

/-- The clocks have stopped (R481); the PCIe link goes down. -/
def standbyOn (s : State) : State :=
  if s.get F.SYS_PWR_STATE = 2 then
    (s.set F.SYS_PWR_STATE 3).linkChange false false 0 0
  else s

/-- The source may wake the KX7 (R482, R327). -/
def wakes (s : State) (src : WakeSrc) : Bool :=
  match src with
  | .uart n => s.on (F.U_CTRL_WAKE n) && decide (s.get (F.U_STAT_RXST n) = 0)
  | .spi => s.on F.SYS_PWR_WSPI
  | .pcie => s.on F.SYS_PWR_WPCIE
  | .timer => s.on F.SYS_PWR_WTIMER && decide (s.get F.SYS_WAKET_T ≠ 0)

/-- WAKESRC names the source alone. -/
def wakeSrc (s : State) (src : WakeSrc) : State :=
  (((s.flag F.SYS_PWR_WK_UART (match src with | .uart _ => true | _ => false)).flag F.SYS_PWR_WK_SPI (src = .spi)).flag
    F.SYS_PWR_WK_PCIE (src = .pcie)).flag F.SYS_PWR_WK_TIMER (src = .timer)

/-- A wake (R482 to R484): from STANDBY the clock unit re-acquires; while it is being entered the entry is abandoned. A
UART's start edge also raises its cause 8 (R329), and the waking SPI transaction is answered WAIT. -/
def wakeBy (s : State) (src : WakeSrc) : State :=
  let st := s.get F.SYS_PWR_STATE
  if (st ≠ 2 ∧ st ≠ 3) ∨ s.wakes src = false then s
  else
    let s := (s.wakeSrc src).set F.SYS_PWR_STATE 1
    let s := if st = 3 then s.enterAcquire else s
    let s := match src with
      | .uart n => (s.raiseCause (192 + n) 8).uEdge n
      | .spi => s.set I.SPI_ST stWAIT
      | _ => s
    if s.on F.SYS_PWR_PEW ∧ s.get F.HIF_LINK_UP = 0 then s.set I.PEWAKE 1 else s

end State

/-! ### The commands -/

def execSupplyBad (k : Fin 12) (s : State) : Out := .next ((s.set (I.PW_BAD k) 1).holdSafe true)
def execSupplyGood (k : Fin 12) (s : State) : Out := .next (s.set (I.PW_BAD k) 0)
def execPorstAssert (low : Bool) (s : State) : Out :=
  .next (if low then (s.set I.PW_PORST 1).holdSafe false else s.set I.PW_PORST 0)
def execColdReset (boot : BitVec 2) (role : Bool) (s : State) : Out := .next (s.coldReset boot.toNat role)
def execDigestCheckComplete (good : Bool) (s : State) : Out := .next (s.digestsChecked good)
def execFirmwareStart (s : State) : Out := .next s.firmwareRuns
def execWarmReset (boot : BitVec 2) (s : State) : Out := .next (s.warmReset F.SYS_RSTCAUSE_SRST boot.toNat)
def execSysRstWarm (m : Master) (boot : BitVec 2) (s : State) : Out :=
  let w := 0x80000000 + s.get F.SYS_RST_RSTOUT
  .next (s.guardWrite m 0x64 w (fun s => s.rstSet m w boot.toNat))
def execRecoveryRequest (heldMs : Nat) (syncInTime : Bool) (sync : List Byte) (s : State) : Out :=
  .next (s.recoveryCheck heldMs syncInTime sync)
def execStandbyRequest (m : Master) (w : Word) (s : State) : Out :=
  .next (s.guardWrite m 0x60 (w ||| 0x10000).toNat (fun s => s.pwrSet m (w ||| 0x10000).toNat))
def execStandbyEntered (s : State) : Out := .next s.standbyOn
def execWake (src : WakeSrc) (s : State) : Out := .next (s.wakeBy src)
def execWakeTimerExpire (s : State) : Out := .next (s.wakeBy .timer)
def execUartWake (n : Fin 6) (s : State) : Out := .next (s.wakeBy (.uart n))

end Sys2Proof.Machine
end

