-- ==== Sys2Proof/Machine/Operands.lean ====
section
/-! DEFINITION. What an instruction reads at issue (R106): registers of the active bank, lanes, accumulators, operand
forms (R110, R124) and the addresses of moves (R82 to R86), for the cores and for the steward's scalar subset (R148). -/

namespace Sys2Proof.Machine

/-! ### The register file of a bank

V register r, lane l stands at 4r + l; the lanes of accumulator k at 128 + 4k + l as another MAC sees them, and at
144 + 4k + l as RDACC, ASHF and AMOV see them (R77); X, XM, XL and XB from 160, 176, 192 and 208; LR, the lane flags and
SV at 224, 225 and 226; LC, LS and LE of loop level v at 232 + 4v. -/

def ixV (r l : Nat) : Nat := 4 * (r % 32) + l
def ixAdd (k l : Nat) : Nat := 128 + 4 * k + l
def ixAcc (k l : Nat) : Nat := 144 + 4 * k + l
/-- The address register of a class (R124): 0 X, 1 XM, 2 XL, 3 XB, 4 LR. -/
def ixReg (cls i : Nat) : Nat := if cls = 4 then 224 else 160 + 16 * cls + i
def ixLR : Nat := 224
def ixLF : Nat := 225
def ixSV : Nat := 226
def ixLC (v : Nat) : Nat := 232 + 4 * v
def ixLS (v : Nat) : Nat := 233 + 4 * v
def ixLE (v : Nat) : Nat := 234 + 4 * v

namespace Bank

/-- One register of a bank. -/
def rd (b : Bank) (k : Nat) : Nat := fileGet b.r k
def put (b : Bank) (k v : Nat) : Bank := { b with r := fileSet b.r k v }

/-- The results that become visible to the instruction about to issue: the post-modifies first, so that an explicit write
is kept, then the others in issue order, so that the later issue is kept (R77, R79). -/
def settle (b : Bank) : Bank :=
  let ready := b.pend.filter (fun p => decide (p.due ≤ b.n))
  let f (b : Bank) (p : Pend) : Bank := b.put p.idx p.val
  let b' := (ready.filter (fun p => !p.post)).foldl f ((ready.filter (fun p => p.post)).foldl f b)
  { b' with pend := b.pend.filter (fun p => decide (b.n < p.due)), ovl := b.ovl.filter (fun o => decide (b.n < o.due)) }

/-- `CSR` (R68): the lane flags, the active loop levels and SV. -/
def csr (b : Bank) : Nat := b.rd ixLF + 16 * b.lv + 4096 * b.rd ixSV

/-- A byte of DMEM as a load of this bank sees it: a store is visible two instructions after its issue (R77). -/
def loadByte (b : Bank) (m : Mem) (a : Nat) : Byte :=
  match b.ovl.find? (fun o => decide (o.addr = a)) with
  | some o => o.old
  | none => memGet m a

def loadBytes (b : Bank) (m : Mem) (a : Nat) : Nat → List Byte
  | 0 => []
  | n + 1 => b.loadByte m a :: b.loadBytes m (a + 1) n

end Bank

/-! ### What an instruction sees -/

/-- A core's logical number; the steward is core 64. -/
def CoreSel.ix : CoreSel → Nat
  | .ec n => n.val
  | .steward => 64

/-- What an instruction reads at issue: the machine, the core and its active bank with every visible result, and its own
fields. -/
structure Seen where
  s : State
  n : Nat
  c : Core
  b : Bank
  i : CoreWord

namespace Seen

/-- The instruction is the steward's. -/
def stw (x : Seen) : Bool := decide (x.n = 64)
/-- The lanes that operations work on: four, or lane 0 alone on the steward (R148). -/
def lanes (x : Seen) : List Nat := if x.stw then [0] else [0, 1, 2, 3]

/-- Lane `l` of V register `r`; on the steward lanes 1 to 3 read 0. DEDUCED: log entry 89. -/
def v (x : Seen) (r l : Nat) : Nat := if x.stw && decide (l ≠ 0) then 0 else x.b.rd (ixV r l)
def va (x : Seen) (l : Nat) : Nat := x.v x.i.va l
def vb (x : Seen) (l : Nat) : Nat := x.v x.i.vb l
/-- Lanes as signed integers. -/
def sva (x : Seen) (l : Nat) : Int := sint 32 (x.va l)
def svb (x : Seen) (l : Nat) : Int := sint 32 (x.vb l)

/-- Bits of SUB. -/
def sub (x : Seen) : Nat := x.i.sub.toNat
def subf (x : Seen) (hi lo : Nat) : Nat := natBits x.i.sub.toNat hi lo
def subb (x : Seen) (k : Nat) : Bool := natBit x.i.sub.toNat k

/-- The second operand `b(l)`: lane-wise, or one lane of VB broadcast (R110). -/
def bl (x : Seen) (l : Nat) : Nat := if x.subb 6 && !x.stw then x.vb (x.subf 5 4) else x.vb l
def sbl (x : Seen) (l : Nat) : Int := sint 32 (x.bl l)

/-- The 8-lane window over VA and the next register (R110). -/
def window (x : Seen) (j : Nat) : Int := sint 32 (if j < 4 then x.va j else x.v (x.i.va + 1) (j - 4))

/-- An accumulator lane as a MAC addend, and as RDACC, ASHF and AMOV read it. -/
def addend (x : Seen) (l : Nat) : Int := sint 72 (x.b.rd (ixAdd x.i.acc l))
def accum (x : Seen) (k l : Nat) : Int := sint 72 (x.b.rd (ixAcc k l))

/-- Address registers (R124). -/
def reg (x : Seen) (cls i : Nat) : Nat := x.b.rd (ixReg cls i)
def X (x : Seen) (i : Nat) : Nat := x.reg 0 i
def LF (x : Seen) (l : Nat) : Bool := natBit (x.b.rd ixLF) l

/-- The immediate. -/
def imm (x : Seen) : Nat := x.i.mv.toNat
def mvf (x : Seen) (hi lo : Nat) : Nat := natBits x.i.mv.toNat hi lo
def mvb (x : Seen) (k : Nat) : Bool := natBit x.i.mv.toNat k

/-- What an address register holds of a value: XL drops its low and high bits (R83, R148), LR is 16 bits wide on a core. -/
def regMask (x : Seen) (cls v : Nat) : Nat :=
  if cls = 2 then (v &&& if x.stw then 0x00FFFFFC else 0x00FFFFF0)
  else if cls = 4 ∧ x.stw = false then v % 2 ^ 16 else v % 2 ^ 32

/-! ### Addresses (R82) -/

/-- A value folded into [XBi, XBi + XLi). -/
def fold (x : Seen) (i : Nat) (a : Int) : Int := x.reg 3 i + (a - x.reg 3 i) % (x.reg 2 i : Int)

/-- A move through Xi is circular. -/
def circ (x : Seen) (i : Nat) (c : Bool) : Bool := c && decide (x.reg 2 i ≠ 0)

/-- The address of an access through Xi with word offset `off`. -/
def addr (x : Seen) (i : Nat) (c : Bool) (off : Int) : Nat :=
  if x.circ i c && decide (off ≠ 0) then wrap 32 (x.fold i (x.X i + 16 * off)) else wrap 32 (x.X i + 16 * off)

/-- The pointer after its post-modify by XMj. -/
def postmod (x : Seen) (i j : Nat) (c : Bool) : Nat :=
  let a : Int := x.X i + sint 32 (x.reg 1 j)
  wrap 32 (if x.circ i c then x.fold i a else a)

/-! ### Time (R140) -/

/-- The first sample of the block being computed: that of the pip's own block, for a GRAPH pip. DEDUCED: log entry 101. -/
def blockFrom (x : Seen) : Nat :=
  match x.b.run with
  | some r => if r.ev.isNone then r.blk * x.s.blockLen else x.s.computedFrom
  | none => x.s.computedFrom

end Seen

end Sys2Proof.Machine
end

