-- ==== Sys2Proof/Machine/Flags.lean ====
section
/-! DEFINITION. Narrowing, clamps and flags: the results of an instruction as writes that become visible later (R6, R69,
R77, R80, R81, R110, R112, R129). -/

namespace Sys2Proof.Machine

/-- One result: its latency in instructions, the register it goes to, and its value. -/
structure Wr where
  lat : Nat
  idx : Nat
  val : Nat
deriving DecidableEq, Repr

/-- Round half up after a shift right (R6, R110). -/
def rhu (x : Int) (n : Nat) : Int := if n = 0 then x else (x + 2 ^ (n - 1)) / 2 ^ n

/-- The value clamped or wrapped to 32 bits, and whether it was clamped (R81, R110). -/
def fit (sat : Bool) (x : Int) : Nat × Bool :=
  if sat then (wrap 32 (clampI (-(2 ^ 31)) (2 ^ 31 - 1) x), decide (x < -(2 ^ 31)) || decide (2 ^ 31 - 1 < x))
  else (wrap 32 x, false)

/-- The condition of VCMP (R112) on two lanes. -/
def cmpLanes (c : Nat) (a b : Nat) : Bool :=
  match c with
  | 0 => decide (a = b)
  | 1 => decide (a ≠ b)
  | 2 => decide (sint 32 a < sint 32 b)
  | 3 => decide (sint 32 a ≤ sint 32 b)
  | 4 => decide (sint 32 b < sint 32 a)
  | 5 => decide (sint 32 b ≤ sint 32 a)
  | 6 => decide (a < b)
  | _ => decide (b ≤ a)

namespace Seen

/-- Lane writes of V register `r`, in every lane that operations work on. -/
def vec (x : Seen) (lat r : Nat) (f : Nat → Nat) : List Wr := x.lanes.map (fun l => ⟨lat, ixV r l, f l % 2 ^ 32⟩)

/-- Lane writes of VD that go through `fit`; a clamp sets SV when it becomes visible (R69, R81, R141). -/
def fitVec (x : Seen) (lat : Nat) (f : Nat → Int) : List Wr :=
  x.vec lat x.i.vd (fun l => (fit x.i.sat (f l)).1) ++
  (if x.lanes.any (fun l => (fit x.i.sat (f l)).2) then [⟨lat, ixSV, 1⟩] else [])

/-- Writes of the accumulator that ACC names, modulo 2⁷²: seen by the next addend, and by a transfer three instructions
later (R77, R80, R113). -/
def accVec (x : Seen) (f : Nat → Int) : List Wr :=
  x.lanes.flatMap (fun l => [⟨1, ixAdd x.i.acc l, wrap 72 (f l)⟩, ⟨3, ixAcc x.i.acc l, wrap 72 (f l)⟩])

/-- VCMP's result: the lanes of VD and the lane flags, visible together (R111). -/
def cmpVec (x : Seen) : List Wr :=
  let f (l : Nat) : Bool := cmpLanes (x.subf 2 0) (x.va l) (x.bl l)
  x.vec 2 x.i.vd (fun l => if f l then 2 ^ 32 - 1 else 0) ++
  [⟨2, ixLF, x.lanes.foldl (fun m l => m + b2n (f l) * 2 ^ l) 0⟩]

/-- An explicit write of an address register or LR, visible after `lat` instructions (R124). -/
def regWr (x : Seen) (lat cls i v : Nat) : List Wr := [⟨lat, ixReg cls i, x.regMask cls v⟩]

/-- The running pip's event buffer holds an event (R121); on the steward, its event queue does. DESIGN CHOICE: log
entry 148. -/
def eventLeft (x : Seen) : Bool :=
  if x.stw then decide (x.s.stewardQ ≠ []) else decide (x.b.head < x.b.events.length)

/-- The condition of a BRC (R129); kind 7 is reserved. -/
def cond (x : Seen) : Bool :=
  let lf := x.b.rd ixLF
  match x.subf 6 4 with
  | 0 => if x.stw then natBit lf 0 else natBit lf (x.subf 1 0)
  | 1 => decide (lf ≠ 0)
  | 2 => if x.stw then natBit lf 0 else decide (lf = 15)
  | 3 => decide (x.X (x.subf 3 0) = 0)
  | 4 => decide (sint 32 (x.X (x.subf 3 0)) < 0)
  | 5 => decide (x.b.rd ixSV ≠ 0)
  | _ => x.eventLeft

end Seen

end Sys2Proof.Machine
end

