-- ==== Sys2Proof/Machine/CoreBase.lean ====
section
/-! DEFINITION. The cores' flow: going on to the next instruction (R87 to R90, R127), stopping on a violation (R100,
R399), and unfreezing (R401, R402). -/

namespace Sys2Proof.Machine

/-! ### Violation kinds (R398) -/

def vkILLOP : Nat := 1
def vkMAP : Nat := 2
def vkOWNER : Nat := 3
def vkFRAME : Nat := 4
def vkURGWIN : Nat := 5
def vkLOOP : Nat := 6
def vkDMA : Nat := 7

namespace Bank

/-- The PC after an instruction that does not branch: back to LS, or on, where the innermost loop ends (R88).
DEDUCED: log entry 96. -/
def seqNext (b : Bank) (mod : Nat) : Bank :=
  let k := b.lv - 1
  if b.lv ≠ 0 ∧ b.rd (ixLE k) = b.pc then
    if 1 < b.rd (ixLC k) then { b.put (ixLC k) (b.rd (ixLC k) - 1) with pc := b.rd (ixLS k) }
    else { b with lv := k, pc := (b.pc + 8) % mod }
  else { b with pc := (b.pc + 8) % mod }

/-- The loop levels that stay open after a taken BR or BRC to `t` (R90). -/
def openLevels (b : Bank) (t : Nat) : Nat :=
  let inside (k : Nat) : Bool := decide (b.rd (ixLS k) ≤ t) && decide (t ≤ b.rd (ixLE k))
  if 1 ≤ b.lv ∧ inside 0 = false then 0
  else if 2 ≤ b.lv ∧ inside 1 = false then 1 else b.lv

/-- The PC after the instruction at it, a delay slot included: the target follows the second slot (R127).
DEDUCED: log entry 95. -/
def advance (b : Bank) (mod : Nat) : Bank :=
  if b.slots = 0 then b.seqNext mod
  else
    let c := { b with slots := b.slots - 1 }
    match b.slots, b.target with
    | 1, some t => { c with pc := t, target := none, closes := false, lv := if b.closes then b.openLevels t else b.lv }
    | _, _ => c.seqNext mod

end Bank

/-- The size of a core's PC space: 16 bits, or 32 on the steward (R68, R148). -/
def pcMod (n : Nat) : Nat := if n = 64 then 2 ^ 32 else 2 ^ 16

/-- An instruction address in the core's address map. -/
def pcAddr (n pc : Nat) : Nat := if n = 64 then pc else 0x08000000 + pc

/-- DMA channels of a bank (R95). -/
def bankChan (shadow : Bool) (d : Desc) : Bool := if shadow then decide (2 ≤ d.ch) else decide (d.ch < 2)

/-- The head of a channel's queue removed. -/
def dropDesc (ch : Nat) : List Desc → List Desc
  | [] => []
  | d :: t => if d.ch = ch then t else d :: dropDesc ch t

/-- The head descriptor of a channel, and empty ones behind it, complete. -/
def finishHead (ch : Nat) : Nat → List Desc → List Desc
  | 0, q => dropDesc ch q
  | k + 1, q =>
    let q := dropDesc ch q
    match q.find? (fun d => decide (d.ch = ch)) with
    | some d => if d.words = 0 then finishHead ch k q else q
    | none => q

namespace State

/-- The index of the running pip, 0 with none. -/
def runPip (c : Core) : Nat := match (activeBank c).run with | some r => r.pip | none => 0

/-- A violation of core `n` (R100, R147, R399): nothing of the instruction takes effect; `chan` names the channel whose
descriptor committed it, when no instruction did. DEDUCED: log entry 92. -/
def coreViolation (s : State) (n kind addr : Nat) (chan : Option Nat) : State :=
  let c := s.core n
  let s := s.freezeCore n kind (runPip c) addr (activeBank c).pc
  s.setCore n { s.core n with vskip := chan.isNone, vchan := chan, stall := false }

/-- The logical core behind a physical one. -/
def logicalOf (s : State) (p : Nat) : Option Nat := (List.range 64).find? (fun n => decide (s.get (F.MDL_MAP_PHYS n) = p))

/-- RESUME of a core (R401): on behind the offending instruction, or without the offending descriptor. -/
def resumeCore (s : State) (n : Nat) : State :=
  let c := s.core n
  let c := if c.vskip then withActive c ((activeBank c).advance (pcMod n)) else c
  let q := match c.vchan with | some ch => finishHead ch c.dma.length c.dma | none => c.dma
  s.setCore n { c with frozen := false, vskip := false, vchan := none, dma := q }

/-- A pip that ends without completing: its EN is cleared, and it decrements no successor (R401). -/
def endPip (s : State) (r : PipRun) : State :=
  let s := s.set (F.PIP1_EN r.pip) 0
  match r.ev with
  | some _ => s.refreshEvent r.pip
  | none => (s.set (F.PIP13_STATE r.pip) 0).set (I.PIP_ARM r.pip) 0

/-- ABANDON of a core (R401): the frozen bank's pip ends, its DMA queues are emptied, and a shadow bank swaps back.
DEDUCED: log entry 107. -/
def abandonCore (s : State) (n : Nat) : State :=
  let c := s.core n
  let b := activeBank c
  let c' := withActive c { b with run := none, lv := 0, slots := 0, target := none, closes := false, load := none }
  let c' := { c' with frozen := false, vskip := false, vchan := none, stall := false, heldPost := false, shadow := false,
                      dma := c.dma.filter (fun d => !bankChan c.shadow d) }
  let c' := if s.on (F.EC_CTRL_HALT n) ∧ c'.p.run.isNone then { c' with halted := true } else c'
  let s := (s.setHeld (s.qn.held.filter (fun h => !decide (h.core = some n)))).setCore n (unlockFrames c')
  match b.run with
  | some r => s.endPip r
  | none => s

/-- A core unfrozen by RESUME or ABANDON; a bank with nothing running has nothing to abandon. -/
def unfreezeCore (s : State) (n action : Nat) : State :=
  if action = 1 ∧ (activeBank (s.core n)).run.isSome then s.abandonCore n else s.resumeCore n

def unfreezeStatus (s : State) (v : Nat) : State := s.set F.SYS_UNFREEZE_STATUS v

/-- The IDs of R26 that name a master. DEDUCED: log entry 108. -/
def masterValid (m : Nat) : Bool :=
  decide (m < 72) || (decide (0x50 ≤ m) && decide (m ≤ 0x56)) || decide (m = 0x58) || decide (m = 0x59) || decide (m = 0x5B)

/-- The named master goes on (R401). -/
def unfreezeMaster (s : State) (m action : Nat) : State :=
  let s := s.setFrozen m false
  if m < 72 then match s.logicalOf m with | some n => s.unfreezeCore n action | none => s
  else if m = 0x50 then s.resumeCore 64
  else s

/-- A write of `SYS_UNFREEZE` (R401): the checks in order. -/
def unfreezeSet (s : State) (m : Master) (w : Nat) : State :=
  let who := w % 256
  let action := natBits w 9 8
  if isHost m ∧ s.isFrozen m.id ∧ who ≠ m.id then s.unfreezeStatus stREFUSED
  else if masterValid who = false ∨ 2 ≤ action then s.unfreezeStatus stBADARG
  else if s.isFrozen who = false then s.unfreezeStatus stOK
  else (s.unfreezeMaster who action).unfreezeStatus stOK

end State

/-! ### The commands -/

def execUnfreezeResume (m : Master) (target : BitVec 8) (s : State) : Out :=
  .next (s.guardWrite m 0x34 target.toNat (fun s => s.unfreezeSet m target.toNat))
def execUnfreezeAbandon (m : Master) (target : BitVec 8) (s : State) : Out :=
  .next (s.guardWrite m 0x34 (0x100 + target.toNat) (fun s => s.unfreezeSet m (0x100 + target.toNat)))

end Sys2Proof.Machine
end

