-- ==== Sys2Proof/Machine/Transfer.lean ====
section
/-! DEFINITION. Transfers by local DMA (R143, R144), the handover of a bank with what it has accepted (R254 to R256), and the
check of a scene's list (R237, R238), which read memories with their errors (R260 to R262, R266). -/

namespace Sys2Proof.Machine

/-! ### Descriptors that run (R143, R144) -/

/-- The head descriptor of a channel. -/
def headDesc (c : Core) (ch : Nat) : Option Desc := c.dma.find? (fun d => decide (d.ch = ch))

/-- The head descriptor of a channel replaced. -/
def putHead (d : Desc) : List Desc → List Desc
  | [] => []
  | e :: t => if e.ch = d.ch then d :: t else e :: putHead d t

/-- Bytes with their addresses. -/
def placeBytes (a : Nat) : List Byte → List Host.Cell
  | [] => []
  | b :: t => (a, b) :: placeBytes (a + 1) t

namespace State

/-- The head descriptor of a channel begins, once the Orchard stores before it are written (R143). -/
def dmaStart (s : State) (n ch : Nat) : State :=
  let c := s.core n
  match headDesc c ch with
  | some d =>
    if d.fences ≤ c.storesDone ∧ c.frozen = false then s.setCore n { c with dma := putHead { d with running := true } c.dma }
    else s
  | none => s

/-- The words of one side that the memory admits: up to the first bank the core does not own (R136), or the end of DRAM. -/
def sideWords (s : State) (n : Nat) (dram : Bool) (a words : Nat) : Nat :=
  if dram then min words ((s.dramSize - a) / 16)
  else if a < orcBase then words
  else
    let b := bankOf (a - orcBase)
    let room := (0x100000 - (a - orcBase) % 0x100000) / 16
    if !s.admits b (accessorOf n) then 0
    else if words ≤ room || s.admits (b + 1) (accessorOf n) then words else room

/-- The words of one side before the first bank that is being handed over (R255). -/
def sideServed (s : State) (dram : Bool) (a words : Nat) : Nat :=
  if dram || decide (a < orcBase) then words
  else
    let b := bankOf (a - orcBase)
    let room := (0x100000 - (a - orcBase) % 0x100000) / 16
    if s.on (F.ORC_OWN_PENDING b) then 0
    else if words ≤ room || !s.on (F.ORC_OWN_PENDING (b + 1)) then words else room

/-- The words of a DMEM source before one that the core's error correction has lost while a pip runs (R262). -/
def sideWhole (c : Core) (d : Desc) : Nat :=
  if d.sd || decide (0x08000000 ≤ d.src) || (activeBank c).run.isNone then d.words
  else (((flawsIn c.flaws 4 d.src (16 * d.words)).filter (·.lost)).map (fun f => (4 * f.ix - d.src) / 16)).foldl min d.words

/-- The bytes a transfer reads. -/
def dmaRead (s : State) (n : Nat) (d : Desc) (k : Nat) : List Byte :=
  let c := s.core n
  if d.sd then memBytes s.dram d.src k
  else if d.src < 0x08000000 then memBytes c.dmem d.src k
  else if d.src < orcBase then
    if n = 64 then (List.range k).map (fun j => Config.rind (d.src - 0x08000000 + j)) else memBytes c.imem (d.src - 0x08000000) k
  else s.orcBytes (d.src - orcBase) k

/-- The errors that the read of `k` bytes meets (R260, R261, R266). -/
def dmaMeets (s : State) (n : Nat) (d : Desc) (k : Nat) : State :=
  if d.sd then s.meetDram d.src k
  else if d.src < 0x08000000 then s.meetDmem n d.src k
  else if d.src < orcBase then s
  else s.meetOrc (d.src - orcBase) k

/-- The bytes a transfer writes. -/
def dmaStore (s : State) (n : Nat) (d : Desc) (bs : List Byte) : State :=
  if d.dd then s.dramWrite (placeBytes d.dst bs)
  else if d.dst < orcBase then
    let c := s.core n
    s.setCore n { c with dmem := memWrite c.dmem d.dst bs, flaws := mendRange c.flaws 4 d.dst bs.length }
  else s.orcWrite (placeBytes (d.dst - orcBase) bs)

/-- The next `k` words of a running descriptor moved; it ends with its last word. -/
def dmaMove (s : State) (n ch : Nat) (d : Desc) (k : Nat) : State :=
  if k = 0 then s
  else
    let t := s.dmaStore n d (s.dmaRead n d (16 * k))
    let c := t.core n
    let d' := { d with src := d.src + 16 * k, dst := d.dst + 16 * k, words := d.words - k }
    (t.setCore n { c with dma := if k = d.words then finishHead ch c.dma.length c.dma else putHead d' c.dma }).dmaMeets n d
      (16 * k)

/-- What the first word of a transfer turns out to hold. -/
def dmaFinds (s : State) (n : Nat) (d : Desc) (e : Ecc) : State :=
  if d.sd then s.upsetWord .dram d.src e
  else if d.src < 0x08000000 then (if h : n < 64 then s.upsetWord (.dmem ⟨n, h⟩) d.src e else s)
  else if d.src < orcBase then s
  else s.upsetWord .orchard (d.src - orcBase) e

/-- The head descriptor of a channel moves its words (R144). It waits at a bank that is being handed over, and stops before a
word that is not admitted, which freezes the core (R136, R255). -/
def dmaDone (s : State) (n ch : Nat) (e : Ecc) : State :=
  let c := s.core n
  match headDesc c ch with
  | none => s
  | some d =>
    if d.running = false ∨ c.frozen then s
    else
      let s := s.dmaFinds n d e
      let rd := s.sideWords n d.sd d.src d.words
      let wr := s.sideWords n d.dd d.dst d.words
      let served := min (s.sideServed d.sd d.src d.words) (s.sideServed d.dd d.dst d.words)
      let whole := sideWhole (s.core n) d
      let k := min (min rd wr) (min served whole)
      let t := s.dmaMove n ch d k
      if k = d.words then t
      else if k = whole then t.meetDmem n (d.src + 16 * k) 16
      else if k < min rd wr then t
      else
        let a := if rd ≤ wr then d.src else d.dst
        t.coreViolation n (if (if rd ≤ wr then d.sd else d.dd) then vkDMA else vkOWNER) ((a + 16 * k) % 2 ^ 32) (some ch)

/-! ### Handover (R254 to R256) -/

/-- The words of one side that lie in bank `b`. -/
def wordsIn (b : Nat) (dram : Bool) (a words : Nat) : Nat :=
  if dram || decide (a < orcBase) || decide (bankOf (a - orcBase) ≠ b) then 0
  else min words ((0x100000 - (a - orcBase) % 0x100000) / 16)

/-- The words of the running descriptors of core `n` that bank `b` has accepted by now are performed: at most 64 of each, a
free number. DESIGN CHOICE: log entry 98. -/
def acceptedWords (s : State) (b n : Nat) : State :=
  [0, 1, 2, 3].foldl (fun s ch =>
    let c := s.core n
    match headDesc c ch with
    | some d =>
      let there := max (wordsIn b d.sd d.src d.words) (wordsIn b d.dd d.dst d.words)
      if d.running && !c.frozen && decide (there ≠ 0) then
        let (w, s) := s.fresh
        s.dmaMove n ch d (min (min (w % 65) there) (min (sideWhole c d)
          (min (s.sideWords n d.sd d.src d.words) (s.sideWords n d.dd d.dst d.words))))
      else s
    | none => s) s

/-- A write of `ORC_OWN[n]` (R254 to R256). -/
def handOver (s : State) (m : Master) (n w : Nat) : State :=
  s.ownSet m n w (fun s => s.cores.foldl (fun s e => s.acceptedWords n e.1) s)

/-! ### The check of a scene's list (R237, R238) -/

/-- The list is read and checked; it waits while a bank of it is being handed over (R255). -/
def listChecked (s : State) : State :=
  match s.scn.rcl with
  | none => s
  | some r =>
    let a := s.listAddr r.scene 0
    let count := s.get (F.SCN_DIR1_COUNT r.scene)
    let n := 8 * ((List.range count).takeWhile (fun i => !s.entryUnreadable r.scene i)).length
    let dram := s.on (F.SCN_DIR1_D r.scene)
    if !dram && s.rangePending a n then s
    else if s.get F.SCN_RCL_STATE = 1 ∧ s.recallLate r = false then s.recallChecked.meetSource dram a n
    else s.recallChecked

end State

/-! ### The commands -/

def execDmaDescriptorStart (c : CoreSel) (ch : Fin 4) (s : State) : Out := .next (s.dmaStart (CoreSel.ix c) ch)
def execDmaDescriptorDone (c : CoreSel) (ch : Fin 4) (e : Ecc) (s : State) : Out :=
  .next ((s.disturb e).dmaDone (CoreSel.ix c) ch e)
def execOrcOwnWrite (m : Master) (n : Fin 64) (owner : BitVec 8) (s : State) : Out :=
  .next (s.guardWrite m (0x28000 + 4 * n) owner.toNat (fun s => s.handOver m n owner.toNat))
def execRecallListChecked (s : State) : Out := .next s.listChecked

end Sys2Proof.Machine
end

