-- ==== Sys2Proof/Machine/Gpio.lean ====
section
/-! DEFINITION. The GPIO pins (R496 to R498, R500) and boundary scan (R499). -/

namespace Sys2Proof.Machine

/-- The claim slot of GP n (R500, R507). -/
def gpSlot (n : Nat) : Nat := if n < 32 then toutSlot n else tinSlot (n - 32)
/-- GP n's feature ID (R496). -/
def gpFid (n : Nat) : Nat := 0x1300 + n

namespace State

/-- The ball of GP `n` is driven by the GPIO itself; a standby drives no `TOUT` (R379). -/
def gpDrives (s : State) (n : Nat) : Bool :=
  decide (s.get (F.PIN_GP_STATE n) = unitON) && s.on (F.PIN_GP_DIR n) && !(decide (n < 32) && s.standby)

/-- The ball of GP `n` is driven as a timer's output. -/
def gpTimed (s : State) (n : Nat) : Bool :=
  decide (n < 32) && decide (s.get (F.SYS_CLAIM_OWNER (gpSlot n)) = fidTmr n) && !s.standby

/-- The present level of GP `n`'s ball: as driven, else as the last edge left it (R498). DEDUCED: log entry 109. -/
def gpLevel (s : State) (n : Nat) : Bool :=
  if s.boundary then false
  else if s.gpDrives n then s.on (F.PIN_GP_OUT n)
  else if s.gpTimed n then s.on (F.TMR_STAT_LEVEL n)
  else match s.driven (.slot (Fin.ofNat 1024 (gpSlot n))) with
    | some l => l
    | none => s.on (F.PIN_GP_IN n)

/-- An edge on GP `n`: its cause and event 244 when IEDGE selects it (R500). -/
def gpEdge (s : State) (n : Nat) (rising : Bool) : State :=
  let was := s.evPending 244
  if natBit (s.get (F.PIN_GP_IEDGE n)) (if rising then 0 else 1) then
    (if n < 32 then s.set F.PIN_EVT_LO_EDGE (s.get F.PIN_EVT_LO_EDGE ||| 2 ^ n)
     else s.set F.PIN_EVT_HI_EDGE (s.get F.PIN_EVT_HI_EDGE ||| 2 ^ (n - 32))).notify 244 was
  else s

/-- The level kept after a change that began with level `was`, with its edge. -/
def gpChanged (s : State) (n : Nat) (was : Bool) : State :=
  let now := s.gpLevel n
  let s := s.flag (F.PIN_GP_IN n) now
  if now = was then s else s.gpEdge n now

/-- The fields of `PIN_GP[n]` that a write sets, EN apart. -/
def gpFields (n : Nat) : List Fld := [F.PIN_GP_PULL n, F.PIN_GP_IEDGE n, F.PIN_GP_DIR n, F.PIN_GP_OUT n]

/-- A write of `PIN_GP[n]` (R500): EN claims the ball or releases it. -/
def gpSet (s : State) (n w : Nat) : State :=
  let st (s : State) (v : Nat) : State := s.set (F.PIN_GP_STATUS n) v
  let was := s.gpLevel n
  if (F.PIN_GP_PULL n).of w = 3 then st s stBADARG
  else if natBit w 4 && !s.on (F.PIN_GP_EN n) then
    s.withClaims (gpFid n) [gpSlot n] (F.PIN_GP_STATUS n) (fun s =>
      (st (((s.puts (gpFields n) w).set (F.PIN_GP_EN n) 1).set (F.PIN_GP_STATE n) unitON) stOK).gpChanged n was)
  else if !natBit w 4 && s.on (F.PIN_GP_EN n) then
    (st ((((s.puts (gpFields n) w).set (F.PIN_GP_EN n) 0).set (F.PIN_GP_STATE n) unitOFF).unclaim (gpFid n) [gpSlot n])
      stOK).gpChanged n was
  else (st (s.puts (gpFields n) w) stOK).gpChanged n was

/-- An edge on the ball from outside: none reaches a unit while the boundary register holds the balls (R499), and none
shows on a ball that is driven from inside. -/
def gpOutside (s : State) (n : Nat) (rising : Bool) : State :=
  if s.boundary || s.gpDrives n || s.gpTimed n || (s.driven (.slot (Fin.ofNat 1024 (gpSlot n)))).isSome then s
  else (s.flag (F.PIN_GP_IN n) rising).gpEdge n rising

/-- The edges that timers' outputs have shown since they were last looked at, at the end of a sample (R310, R500).
DEDUCED: log entry 109. -/
def gpTimers (s : State) : State :=
  (s.tmActive.filter (fun n => s.gpTimed n)).foldl (fun s n => s.gpChanged n (s.on (F.PIN_GP_IN n))) s

/-- A boundary-scan instruction taken (R499). -/
def jtagIr (s : State) (k : Nat) : State := s.set I.JTAG_IR k

/-- The IDCODE: version, part number and bit 0 as R499 gives them; the manufacturer code, which it does not, free.
DESIGN CHOICE: log entry 110. -/
def idcodeWord : Nat := 0x10B77001 + 2 * natBits (Config.freeWord (2 ^ 40)).toNat 10 0

end State

/-! ### The commands -/

/-- The write of `PIN_GP[n]` with EN = 1. -/
def execGpioEnable (m : Master) (n : Fin 48) (w : Word) (s : State) : Out :=
  .next (s.guardWrite m (0x130000 + 4 * n) (w ||| 0x10).toNat (fun s => s.gpSet n (w ||| 0x10).toNat))
/-- The write of `PIN_GP[n]` with EN = 0. -/
def execGpioDisable (m : Master) (n : Fin 48) (w : Word) (s : State) : Out :=
  .next (s.guardWrite m (0x130000 + 4 * n) (w &&& 0xFFFFFFEF).toNat (fun s => s.gpSet n (w &&& 0xFFFFFFEF).toNat))
def execGpioEdge (n : Fin 48) (rising : Bool) (s : State) : Out := .next (s.gpOutside n rising)

def execBypass (s : State) : Out := .next (s.jtagIr 0)
/-- The cells preloaded into the boundary register. -/
def execSamplePreload (cells : List (Nat × Bool)) (s : State) : Out := .next ({ s with jtag := cells }.jtagIr 1)
def execExtest (s : State) : Out := .next (s.jtagIr 2)
def execIdcode (s : State) : Out := .next ((s.jtagIr 3).set I.JTAG_DR State.idcodeWord)
def execHighz (s : State) : Out := .next (s.jtagIr 4)
/-- `TRST#` low: the TAP is reset, and the boundary register leaves the balls alone. PRESUMED (IEEE 1149.1): IDCODE is
selected. PRESUMED: log entry 87. -/
def execTrstAssert (s : State) : Out := .next (s.jtagIr 3)
def execClamp (s : State) : Out := .next (s.jtagIr 5)

end Sys2Proof.Machine
end

