-- ==== Sys2Proof/Machine/Pins.lean ====
section
/-! DEFINITION. What the KX7 does to each ball (R267 to R271, R282, R295, R310, R321, R324, R379, R471, R475, R494 to R499). The
owner of a ball's claim slot drives it; a standby drives none of the joined balls. -/

namespace Sys2Proof.Machine

/-- A weak pull (R488). -/
inductive Pull where | none | down | up
deriving DecidableEq, Repr

/-- What is seen of the KX7 on a ball: nothing driven, with the pull that the spec names there, if it names one; a level; the
bits that a port's data output carries at the sampling edges of its frame in progress; the two subframes, slots 4 to 31, that
an AES3 output carries; or what the boundary register holds, whose cells the spec does not number. -/
inductive OnBall where
  | released (pull : Option Pull)
  | level (high : Bool)
  | frame (bits : List (Option Bool))
  | subframes (a b : Nat)
  | scan
deriving DecidableEq, Repr

/-- The slots of `AESO` balls without a port's function (R507). -/
def aesoSlots : List Nat := [324, 356, 388, 420]
/-- The slots of `UnTX`, `UnRX` and `UnCTS`. -/
def uartHighSlots : List Nat := (List.range 6).flatMap (fun n => [uartSlot n 0, uartSlot n 1, uartSlot n 3])

/-- The pull of an unclaimed ball (R497). -/
def unclaimedPull (k : Nat) : Pull :=
  if k / 32 = 3 ∨ aesoSlots.contains k then .none else if uartHighSlots.contains k then .up else .down

/-- The pull that `PIN_GP.PULL` selects (R500). -/
def pullOf (p : Nat) : Pull := if p = 0 then .none else if p = 1 then .down else .up

/-- A level that may not be driven. -/
def OnBall.ofLevel : Option Bool → OnBall
  | some b => .level b
  | none => .released none

namespace State

/-- What a port's feature does to its ball `k` (R267 to R271, R282). -/
def portOnBall (s : State) (n k : Nat) : OnBall :=
  if k < 32 then .ofLevel (s.apBclk n)
  else if k < 64 then .ofLevel (s.apFsync n)
  else if k < 96 then .released none
  else if s.apDriven n then .frame ((List.range (s.get (F.AP_FRAME_FLEN n))).map (s.apSdo n))
  else .released (some .none)

/-- What a transmitter does to its ball (R282, R295). -/
def aesOnBall (s : State) (t : Nat) : OnBall :=
  match s.txSubframe t 0, s.txSubframe t 1 with
  | some a, some b => .subframes a b
  | _, _ => .ofLevel (s.txIdle t)

/-- What a UART does to its ball `k`: TX; RTS, which is asserted low; its inputs (R321, R324). -/
def uartOnBall (s : State) (n k : Nat) : OnBall :=
  if k = uartSlot n 0 then .ofLevel (s.uTxBall n)
  else if k = uartSlot n 2 then .level (!s.on (F.U_STAT_RTS n))
  else .released none

/-- What a GPIO does to its ball (R379, R500). -/
def gpOnBall (s : State) (n : Nat) : OnBall :=
  if s.gpDrives n then .level (s.on (F.PIN_GP_OUT n)) else .released (some (pullOf (s.get (F.PIN_GP_PULL n))))

/-- What the feature `o` that holds the claim slot of ball `k` does to it (R379, R496, R498). -/
def ownerOnBall (s : State) (o k : Nat) : OnBall :=
  let n := o % 256
  match o / 256 with
  | 0x01 => if s.standby then .released none else .level (if n = 8 then s.syncoutHigh else s.mclkoHigh n)
  | 0x09 => s.portOnBall n k
  | 0x0B => if n < 8 then .released none else s.aesOnBall (n - 8)
  | 0x0C => if k = toutSlot n ∧ n < 32 ∧ s.standby = false then .level (s.on (F.TMR_STAT_LEVEL n)) else .released none
  | 0x0D => s.uartOnBall n k
  | 0x13 => s.gpOnBall n
  | 0x14 => .ofLevel (s.driven (.slot (Fin.ofNat 1024 k)))
  | _ => .released none

/-- What the KX7 does to the ball with claim slot `k`: nothing while hold-safe or in HIGHZ (R471, R499), what its owner does,
or, unclaimed, nothing (R497). -/
def onBall (s : State) (k : Nat) : OnBall :=
  let o := s.get (F.SYS_CLAIM_OWNER k)
  if s.on I.PW_HOLD ∨ s.get I.JTAG_IR = 4 then .released (some (unclaimedPull k))
  else if s.boundary then .scan
  else if o = 0 then .released (some (unclaimedPull k))
  else s.ownerOnBall o k

/-- The outputs without a claim slot that hold a level of their own: `HS_IRQ#` and `PEWAKE#`, open-drain, `RSTOUT#`, and
`TW_HB_OUT`, as ball 11 (R368, R389, R458, R471, R475, R482). -/
def onFreeBall (s : State) (k : Fin 12) : OnBall :=
  let low (b : Bool) : OnBall := if b then .level false else .released none
  if s.on I.PW_HOLD then if k = 8 ∨ k = 11 then .level false else .released none
  else if s.get I.JTAG_IR = 4 then .released none
  else if s.boundary then .scan
  else match s.driven (.free k) with
    | some l => .level l
    | none =>
      if k = 5 then low s.hsIrq
      else if k = 7 then low (s.on I.PEWAKE)
      else if k = 8 then .level (!s.rstoutLow)
      else if k = 11 then .level (s.on I.TWN_HBO)
      else .released none

end State

end Sys2Proof.Machine
end

