-- ==== Sys2Proof/Machine/Graft.lean ====
section
/-! DEFINITION. Graft: sessions, staging, activation, trial and settings (R426 to R443, R445). The chain stands in
Machine/Chain.lean, recovery in Machine/Rind.lean. -/

namespace Sys2Proof.Machine

/-! ### Reason codes -/

def rsnSESSION_BUSY : Nat := 1
def rsnDOWNGRADE : Nat := 2
def rsnLIVE : Nat := 3
def rsnBACKUP_POWER : Nat := 4
def rsnOWNER_LOCK : Nat := 5
def rsnNOTSTAGED : Nat := 6
def rsnBASE : Nat := 7
def rsnDIGEST : Nat := 8
def rsnTOOBIG : Nat := 9
def rsnTRIAL : Nat := 0xA
def rsnPARTNER : Nat := 0xB
def rsnPRODUCT : Nat := 0xC
def rsnCHAIN : Nat := 0xD
def rsnFORMAT : Nat := 0xE

/-! ### Manifests and parts (R432 to R434) -/

/-- Byte `o` of a list. -/
def byteAt (bs : List Byte) (o : Nat) : Nat := (bs.getD o 0).toNat
def sliceOf (bs : List Byte) (o n : Nat) : List Byte := (bs.drop o).take n

def mfParts (m : List Byte) : Nat := byteAt m 7
def mfLen (m : List Byte) : Nat := 128 + 96 * mfParts m
def mfKey (m : List Byte) : Nat := byteAt m 6
def partOff (i : Nat) : Nat := 64 + 96 * i
def partKind (m : List Byte) (i : Nat) : Nat := byteAt m (partOff i)
def partIsPartner (m : List Byte) (i : Nat) : Bool := decide (128 ≤ partKind m i)
def partEnc (m : List Byte) (i : Nat) : Nat := byteAt m (partOff i + 1)
def partPlen (m : List Byte) (i : Nat) : Nat := word32 m (partOff i + 4)
def partIlen (m : List Byte) (i : Nat) : Nat := word32 m (partOff i + 8)
def partIdig (m : List Byte) (i : Nat) : List Byte := sliceOf m (partOff i + 16) 32
def partBdig (m : List Byte) (i : Nat) : List Byte := sliceOf m (partOff i + 48) 32

/-- The parts that this chip installs: its own, or the partner's on the chip that is the partner (R443). -/
def partMine (partner : Bool) (m : List Byte) (i : Nat) : Bool := partIsPartner m i == partner
def mineOf (partner : Bool) (m : List Byte) : List Nat := (List.range (mfParts m)).filter (partMine partner m)

/-- Parts of kind `k` among some. -/
def kindCount (m : List Byte) (is : List Nat) (k : Nat) : Nat := (is.filter (fun i => decide (partKind m i % 128 = k))).length

/-- The form of R432. -/
def manifestFormed (m : List Byte) : Bool :=
  let n := mfParts m
  let own := mineOf false m
  let par := mineOf true m
  decide (word32 m 0 = 0x464E4D47) && decide (word16 m 4 = 1) && decide (1 ≤ n) && decide (n ≤ 8) &&
  decide (mfFlags m < 4) && (sliceOf m 36 28).all (fun b => decide (b = 0)) &&
  (List.range n).all (fun i =>
    decide (1 ≤ partKind m i % 128) && decide (partKind m i % 128 ≤ 3) && decide (partEnc m i ≤ 1) &&
    decide (word16 m (partOff i + 2) = 0) && decide (word32 m (partOff i + 12) = 0) &&
    (sliceOf m (partOff i + 80) 16).all (fun b => decide (b = 0)) &&
    (decide (partEnc m i = 1) || (partBdig m i).all (fun b => decide (b = 0)))) &&
  decide (kindCount m own 1 = 1) && decide (kindCount m own 2 ≤ 1) && decide (kindCount m par 1 ≤ 1) &&
  decide (kindCount m par 2 ≤ 1)

/-- Apply the operations of a delta to a base (R434): none when they are malformed or never end. -/
def deltaOps (base : List Byte) : Nat → List Byte → List Byte → Option (List Byte)
  | 0, _, _ => none
  | fuel + 1, ops, out =>
    match ops with
    | [] => none
    | c :: t =>
      let a := word32 t 0
      let n := word32 t 4
      match c.toNat with
      | 0 => some out
      | 1 => if base.length < a + n ∨ t.length < 8 then none else deltaOps base fuel (t.drop 8) (out ++ sliceOf base a n)
      | 2 => if t.length < 4 + a then none else deltaOps base fuel (t.drop (4 + a)) (out ++ sliceOf t 4 a)
      | 3 => if t.length < 5 then none else deltaOps base fuel (t.drop 5) (out ++ List.replicate a (t.getD 4 0))
      | _ => none

/-- A delta part expanded. -/
def deltaExpand (base d : List Byte) (ilen : Nat) : Option (List Byte) :=
  if word32 d 0 ≠ 0x44465247 ∨ word16 d 4 ≠ 1 ∨ word32 d 8 ≠ base.length ∨ word32 d 12 ≠ ilen then none
  else match deltaOps base (d.length + 1) (d.drop 16) [] with
    | some out => if out.length = ilen then some out else none
    | none => none

namespace State

/-! ### Status and sessions (R436) -/

/-- STATUS and REASON of the last `CFG_` write. -/
def cfgStatus (s : State) (st reason : Nat) : State := (s.set F.CFG_SESS_STATUS st).set F.CFG_SESS_REASON reason
def cfgOk (s : State) : State := s.cfgStatus stOK 0

def setGraft (s : State) (g : Graft) : State := { s with graft := g }

/-- A chain frame sent. -/
def sendChain (s : State) (type hop : Nat) (up : Bool) (bs : List Byte) : State :=
  if s.on F.CFG_CHAIN_EN && (up || !s.on F.CFG_CHAIN_LAST) then
    s.setGraft { s.graft with sent := s.graft.sent ++ [{ type := type, hop := hop, up := up, bytes := bs }] }
  else s

/-- The session is held by this master. -/
def holdsSession (s : State) (m : Master) : Bool :=
  decide (s.get F.CFG_SESS_SRC ≠ 0) && decide (s.get F.CFG_SESS_HOLDER = m.id)

/-- A write that only the holder may make: refused when no session is held, BUSY from another master.
DEDUCED: log entry 113. -/
def asHolder (s : State) (m : Master) (go : State → State) : State :=
  if s.get F.CFG_SESS_SRC = 0 then s.cfgStatus stREFUSED 0
  else if !s.holdsSession m then s.cfgStatus stBUSY rsnSESSION_BUSY
  else go s

/-- The session source of a master's OPEN. -/
def sessSrc (m : Master) (chain : Bool) : Nat :=
  match m with
  | .steward => if chain then 4 else 1
  | .spi => 2
  | .pcie | .twin => 3

/-- A session opened; with `CFG_CHAIN.EN` a unit that opens one from another source than chain-up is the head, and offers
its package (R444, R446). -/
def sessBegin (s : State) (m : Master) (src : Nat) : State :=
  let s := ((((s.set F.CFG_SESS_SRC src).set F.CFG_SESS_HOLDER m.id).set I.CFG_UNL 0).set I.CFG_WRONG 0).cfgOk.raise 32
  if s.on F.CFG_TRIAL_ACTIVE then s
  else
    let s := (((s.set I.CH_BAD 0).set I.CH_CANT 0).set I.CH_SENT 0).setGraft { s.graft with sent := [], hops := [] }
    if src ≠ 4 ∧ s.on F.CFG_CHAIN_EN then ((s.set I.CH_HEAD 1).set I.CH_HOP 0).sendChain 0x10 0 false []
    else s.set I.CH_HEAD 0

def sessOpen (s : State) (m : Master) (chain : Bool) : State :=
  if s.get F.CFG_SESS_SRC ≠ 0 then s.cfgStatus stBUSY rsnSESSION_BUSY else s.sessBegin m (sessSrc m chain)

/-! ### Staging (R437, R438) -/

/-- The slot that is not running, which staging writes. -/
def targetSlot (s : State) : Nat := if s.bootSlot = 1 then 2 else 1
def putSlot (s : State) (k : Nat) (x : ImgSlot) : State := s.setFlash (s.flash.setSlot k x)

/-- Staging given up: a slot that has been erased for it stays EMPTY. -/
def stageDrop (s : State) (st : Nat) : State :=
  let s := if s.on I.CFG_ERASED then s.putSlot s.targetSlot ImgSlot.empty else s
  ((s.setGraft { s.graft with piece := [], pkg := [], parts := [] }).set I.CFG_ERASED 0).set F.CFG_STAGE_BUSY 0
    |>.set F.CFG_STAGE_STATE st

/-- The staging result told to the partner, when this chip is the one whose parts came in UPDATE frames (R443). -/
def tellPartner (s : State) : State :=
  if s.role = roleSTANDBY ∧ s.linkUp then s.sendFrame 7 0 none [0, s.get F.CFG_STAGE_STATE] else s

/-- The staging result reported up the chain (R446). -/
def tellChain (s : State) (st reason : Nat) : State :=
  if s.get F.CFG_SESS_SRC = 4 ∧ s.on I.CH_SENT = false then
    (s.set I.CH_SENT 1).sendChain 0x12 (s.get I.CH_HOP) true [BitVec.ofNat 8 st, BitVec.ofNat 8 reason]
  else s

/-- A staging failure, with event 34. DEDUCED: log entry 112. -/
def stageFail (s : State) (st reason : Nat) : State :=
  ((((s.stageDrop 4).set F.CFG_STAGE_REASON reason).cfgStatus st reason).raise 34).tellPartner.tellChain st reason

/-- The manifest of the GOOD slot, if there is one. -/
def goodManifest (s : State) : Option (List Byte) :=
  if goodSlot s.flash = 0 then none else some (s.flash.slot (goodSlot s.flash)).manifest

/-- The bytes of the parts that this chip installs, each rounded up to 4 KiB. -/
def imageSize (partner : Bool) (m : List Byte) : Nat :=
  (mineOf partner m).foldl (fun n i => n + roundUp (partIlen m i) 4096) 0
def slotSize (s : State) : Nat := if 64 ≤ s.flash.mib then 0x1800000 else 0xE00000

/-- This chip stages the partner parts of the active chip's manifest. -/
def asPartner (s : State) : Bool := decide (s.role = roleSTANDBY)

/-- What is wrong with a complete manifest: status and reason (R432, R433, R435, R438); Rind's rules in `rind`. -/
def manifestFault (s : State) (m : List Byte) (rind : Bool) : Option (Nat × Nat) :=
  if !manifestFormed m then some (stFORMAT, rsnFORMAT)
  else if 4 ≤ mfKey m ∨ s.on (I.KEY_WR (mfKey m)) = false ∨ s.on (I.KEY_REV (mfKey m)) = true ∨
      Config.signed (Config.fuseKey (mfKey m)) (m.take (mfLen m - 64)) (m.drop (mfLen m - 64)) = false then
    some (stAUTH, 0)
  else if !rind && !s.on F.CFG_OPT_DOWNGRADE &&
      (match s.goodManifest with | some g => !serialHigher (mfSeq m) (mfSeq g) | none => false) then
    some (stREFUSED, rsnDOWNGRADE)
  else if (match s.goodManifest with | some g => decide (mfProduct m ≠ mfProduct g) | none => false) then
    some (stREFUSED, rsnPRODUCT)
  else if s.slotSize < imageSize s.asPartner m then some (stBADARG, rsnTOOBIG)
  else if rind && (List.range (mfParts m)).any (fun i => decide (partEnc m i = 1)) then some (stFORMAT, rsnFORMAT)
  else none

/-- The part of the running slot that a delta builds on (R434). -/
def basePart (s : State) (kind : Nat) (dig : List Byte) : Option (List Byte) :=
  let x := s.flash.slot s.bootSlot
  let own := mineOf s.asPartner x.manifest
  ((own.zip x.parts).find? (fun e => decide (partKind x.manifest e.1 % 128 = kind) && decide (sha256 e.2 = dig))).map
    (fun e => e.2)

/-- A part as it will be installed, or the failure. -/
def expandPart (s : State) (m : List Byte) (i : Nat) (bs : List Byte) : Except (Nat × Nat) (List Byte) :=
  let out := if partEnc m i = 0 then Except.ok bs
    else match s.basePart (partKind m i % 128) (partBdig m i) with
      | none => .error (stFORMAT, rsnBASE)
      | some b => match deltaExpand b bs (partIlen m i) with
        | some x => .ok x
        | none => .error (stFORMAT, rsnFORMAT)
  match out with
  | .ok x => if x.length = partIlen m i ∧ sha256 x = partIdig m i then .ok x else .error (stAUTH, rsnDIGEST)
  | .error e => .error e

/-- Every part is written and checked: the manifest is written into the record, and the slot is STAGED. -/
def stageDone (s : State) (m : List Byte) : State :=
  let s := s.putSlot s.targetSlot { ImgSlot.empty with state := slotSTAGED, manifest := m, parts := s.graft.parts }
  ((((s.setGraft { s.graft with pkg := [], parts := [] }).set I.CFG_ERASED 0).set F.CFG_STAGE_STATE 3).raise
    33).tellPartner.tellChain stOK 0

/-- The package bytes consumed as far as they go: the manifest, then part by part. DEDUCED: log entry 111. -/
def stageSteps : Nat → State → State
  | 0, s => s
  | fuel + 1, s =>
    let pkg := s.graft.pkg
    if s.get F.CFG_STAGE_STATE = 1 then
      if pkg.length < 8 ∨ pkg.length < mfLen pkg then s
      else
        let m := pkg.take (mfLen pkg)
        match s.manifestFault m false with
        | some e => s.stageFail e.1 e.2
        | none =>
          if s.on F.CFG_TRIAL_ACTIVE then s.stageFail stREFUSED rsnTRIAL
          else
            let s := (((s.putSlot s.targetSlot ImgSlot.empty).set I.CFG_ERASED 1).set I.CFG_CUR (mfLen m)).set
              F.CFG_STAGE_STATE 2
            let s := s.set F.CFG_STAGE_PART 0
            stageSteps fuel (if s.role = roleACTIVE ∧ mineOf true m ≠ [] then s.sendFrame 7 0 none (1 :: m.map (·.toNat)) else s)
    else if s.get F.CFG_STAGE_STATE = 2 then
      let m := pkg.take (mfLen pkg)
      let i := s.get F.CFG_STAGE_PART
      let cur := s.get I.CFG_CUR
      if mfParts m ≤ i then s.stageDone m
      else if !partMine s.asPartner m i && s.asPartner then stageSteps fuel (s.set F.CFG_STAGE_PART (i + 1))
      else if pkg.length < cur + partPlen m i then s
      else
        let bs := sliceOf pkg cur (partPlen m i)
        let t := (s.set I.CFG_CUR (cur + partPlen m i)).set F.CFG_STAGE_PART (i + 1)
        if !partMine s.asPartner m i then
          stageSteps fuel (if s.role = roleACTIVE then t.sendFrame 7 0 none (1 :: bs.map (·.toNat)) else t)
        else match s.expandPart m i bs with
          | .error e => s.stageFail e.1 e.2
          | .ok x => stageSteps fuel (t.setGraft { t.graft with parts := t.graft.parts ++ [x] })
    else s

/-- Package bytes taken in (R437); bytes after the end of one package begin the next. -/
def stageBytes (s : State) (bs : List Byte) : State :=
  let st := s.get F.CFG_STAGE_STATE
  let s := if st = 1 ∨ st = 2 then s
    else (((s.setGraft { s.graft with pkg := [], parts := [] }).set F.CFG_STAGE_STATE 1).set F.CFG_XFER_OFF_N 0).set
      F.CFG_STAGE_REASON 0
  let s := (s.setGraft { s.graft with pkg := s.graft.pkg ++ bs }).set F.CFG_XFER_OFF_N (s.get F.CFG_XFER_OFF_N + bs.length)
  stageSteps 12 s

/-- DATA frames of a piece, 4096 bytes each at most (R444). -/
def sendData : Nat → List Byte → State → State
  | 0, _, s => s
  | fuel + 1, bs, s => if bs = [] then s else sendData fuel (bs.drop 4096) (s.sendChain 0x11 0 false (bs.take 4096))

/-- A write of `CFG_XFER` (R437). -/
def xferSet (s : State) (m : Master) (w : Nat) : State :=
  s.asHolder m (fun s =>
    let n := w % 2 ^ 16 + 1
    let a := s.get F.CFG_XFER_ADDR_ADDR
    if !natBit w 31 then (s.put F.CFG_XFER_LEN w).cfgOk
    else if s.on F.CFG_STAGE_BUSY ∨ s.on F.CFG_ACT_STATE then s.cfgStatus stBUSY 0
    else if !inOrchard a n then s.cfgStatus stBADARG 0
    else if !s.rangeAdmits (.other 0x56) a n then s.cfgStatus stREFUSED 0
    else
      let late := s.rangePending a n
      let t := if late then s.setGraft { s.graft with piece := [] }
        else (s.setGraft { s.graft with piece := s.orcBytes (a - orcBase) n }).meetOrc (a - orcBase) n
      ((((t.set I.CFG_LATE (if late then n else 0)).set I.CFG_LATE_A a).put F.CFG_XFER_LEN w).set F.CFG_STAGE_BUSY 1).cfgOk)

/-- The piece in hand; one that waited for a handover is read now (R255). -/
def takePiece (s : State) : List Byte × State :=
  let n := s.get I.CFG_LATE
  let a := s.get I.CFG_LATE_A - orcBase
  if n = 0 then (s.graft.piece, s) else (s.orcBytes a n, (s.meetOrc a n).set I.CFG_LATE 0)

/-- A piece has been consumed (R437, R438); the head of a chain sends it on (R446). DEDUCED: log entry 114. -/
def pieceDone (s : State) : State :=
  if !s.on F.CFG_STAGE_BUSY || s.rangePending (s.get I.CFG_LATE_A) (s.get I.CFG_LATE) then s
  else
    let (bs, s) := s.takePiece
    let s := (s.setGraft { s.graft with piece := [] }).set F.CFG_STAGE_BUSY 0
    (if s.on I.CH_HEAD then sendData 16 bs s else s).stageBytes bs

/-! ### Activation (R439 to R441, R443) -/

/-- `PWRSRC` is high, as its function reads it (R458). -/
def pwrsrcHigh (s : State) : Bool := (s.driven (.free 10)).getD (s.on I.PWRSRC)

/-- A refusal state holds (R439). -/
def refusal (s : State) : Option Nat :=
  if (s.get F.SYS_ENGINE_STATE = 2 ∧ s.on F.CUR_STAT_LIVE60) ∨ s.on F.SYS_SHOW_SHOW then some rsnLIVE
  else if s.pwrsrcHigh || (natBit (s.get F.CUR_MONSTAT_WIN) 7 &&
      decide (s.get (F.CUR_RES_CODE 35) * 3125 * chDivider 35 < s.get (F.CUR_MON_LO 7) * 65536)) then some rsnBACKUP_POWER
  else if (List.range 32).any (fun i => decide (s.get (I.OWN_DIG i) ≠ 0)) && !s.on I.CFG_UNL then some rsnOWNER_LOCK
  else none

/-- The STAGED slot: 0 none. -/
def stagedSlot (s : State) : Nat :=
  if slotCode s.flash.slotA = 1 then 1 else if slotCode s.flash.slotB = 1 then 2 else 0
def stagedManifest (s : State) : List Byte := (s.flash.slot s.stagedSlot).manifest
/-- The staged manifest names partner parts. -/
def stagedPair (s : State) : Bool := decide (mineOf true s.stagedManifest ≠ [])

def activationF (s : State) : Nat := s.pair F.CFG_ACT_FRC_LO_F F.CFG_ACT_FRC_HI_F

/-- Why an arm is refused, in the order of R502; F is at least a second ahead. -/
def armFault (s : State) : Option (Nat × Nat) :=
  if s.stagedSlot = 0 then some (stREFUSED, rsnNOTSTAGED)
  else if s.stagedPair && !s.asPartner && (decide (s.role = roleSOLO) || decide (s.get F.CFG_STAGE_PSTATE ≠ 3)) then
    some (stREFUSED, rsnPARTNER)
  else match s.refusal with
    | some r => some (stREFUSED, r)
    | none => if s.activationF < s.frc + s.rateHz then some (stBADARG, 0) else none

/-- The manifest digest and F as an ARM or GO frame carries them (R444). -/
def armBytes (s : State) : List Byte := sha256 s.stagedManifest ++ leBytes s.activationF 8

/-- Armed: event 35; the partner whose parts are staged is armed with it, and a chain is asked (R443, R446). -/
def armNow (s : State) : State :=
  let s := (((s.set F.CFG_ACT_STATE 1).set F.CFG_ACT_REASON 0).cfgOk).raise 35
  let s := if s.stagedPair ∧ s.role = roleACTIVE then s.sendFrame 7 0 none (2 :: (leBytes s.activationF 8).map (·.toNat)) else s
  if s.on I.CH_HEAD then s.sendChain 0x13 0 false s.armBytes else s

/-- ARM (R440). -/
def actArm (s : State) : State :=
  match s.armFault with
  | some e => (s.set F.CFG_ACT_REASON e.2).cfgStatus e.1 e.2
  | none => s.armNow

/-- DISARM. -/
def actDisarm (s : State) : State :=
  let s := if s.on F.CFG_ACT_STATE ∧ s.role = roleACTIVE ∧ s.stagedPair then s.sendFrame 7 0 none [3] else s
  (s.set F.CFG_ACT_STATE 0).cfgOk

/-- A write of `CFG_ACT` (R440, R504). -/
def actSet (s : State) (m : Master) (w : Nat) : State :=
  s.asHolder m (fun s =>
    if natBit w 4 && natBit w 5 then s.cfgStatus stBADARG 0
    else if natBit w 4 then s.actArm
    else if natBit w 5 then s.actDisarm
    else s.cfgOk)

/-- Activation is given up: IDLE, with the reason and event 36; the slot stays STAGED, and a chain is told (R441, R446). -/
def actDrop (s : State) (reason : Nat) : State :=
  let s := ((s.set F.CFG_ACT_STATE 0).set F.CFG_ACT_REASON reason).raise 36
  let abort : List Byte := [BitVec.ofNat 8 stREFUSED, BitVec.ofNat 8 reason]
  (s.sendChain 0x18 (s.get I.CH_HOP) true abort).sendChain 0x18 (s.get I.CH_HOP) false abort

/-- The boot straps as the last release left them. DEDUCED: log entry 84. -/
def strapBoot (s : State) : Nat := s.get F.SYS_RSTCAUSE_BOOT

/-- The slot is TRIAL, and the KX7 resets internally (R441). -/
def activate (s : State) : State :=
  let k := s.stagedSlot
  (s.putSlot k { s.flash.slot k with state := slotTRIAL }).warmReset F.SYS_RSTCAUSE_ACTIVATE s.strapBoot

/-- The head has sent GO. -/
def goSent (s : State) : Bool := s.graft.sent.any (fun f => decide (f.type = 0x15))

/-- FRC has reached F, or a handover the active chip waits for is complete (R441, R443, R395). DEDUCED: log entry 115. -/
def actAtF (s : State) : State :=
  if !s.on F.CFG_ACT_STATE || decide (s.frc < s.activationF) || decide (s.stagedSlot = 0) then s
  else if s.on I.ACT_PAIR then if s.role = roleSTANDBY then s.activate else s
  else match s.refusal with
    | some r => s.actDrop r
    | none =>
      if s.on I.CH_HEAD && s.on F.CFG_CHAIN_EN && !s.on F.CFG_CHAIN_LAST && !s.goSent then s.actDrop rsnCHAIN
      else if s.stagedPair && decide (s.role = roleACTIVE) then s.set I.ACT_PAIR 1
      else s.activate

/-- The session closes (R436): an incomplete staging and an armed activation are given up. -/
def sessEnd (s : State) : State :=
  if s.get F.CFG_SESS_SRC = 0 then s
  else
    let st := s.get F.CFG_STAGE_STATE
    let s := if st = 1 ∨ st = 2 then s.stageDrop 0 else s
    let s := if s.on F.CFG_ACT_STATE then s.actDisarm else s
    (((s.set F.CFG_SESS_SRC 0).set F.CFG_SESS_HOLDER 0).set I.CFG_UNL 0).raise 32

/-- CLOSE: by the holder; with no session it has nothing to do. -/
def sessClose (s : State) (m : Master) : State :=
  if s.get F.CFG_SESS_SRC = 0 then s.cfgOk
  else if !s.holdsSession m then s.cfgStatus stBUSY rsnSESSION_BUSY
  else s.sessEnd.cfgOk

/-- A write of `CFG_SESS` (R436, R502, R504). -/
def sessSet (s : State) (m : Master) (chain : Bool) (w : Nat) : State :=
  if natBit w 4 && natBit w 5 then
    if s.get F.CFG_SESS_SRC ≠ 0 then s.cfgStatus stBUSY rsnSESSION_BUSY else s.cfgStatus stBADARG 0
  else if natBit w 4 then s.sessOpen m chain
  else if natBit w 5 then s.sessClose m
  else s.cfgOk

/-! ### Trial (R442, R443) -/


/-- `CFG_TRIAL.REMAIN`: 600 s from the trial's begin. -/
def trialRemain (s : State) : Nat :=
  if s.on F.CFG_TRIAL_ACTIVE then 600 - (s.tclk - s.get I.TRIAL_AT) / s.tclkHz else 0

/-- The key slots below KEY are revoked by a manifest with REVOKE (R433). -/
def revoke (s : State) (m : List Byte) : State :=
  if natBit (mfFlags m) 1 then (List.range 4).foldl (fun s k => if k < mfKey m then s.set (I.KEY_REV k) 1 else s) s else s

/-- The trial slot is GOOD, with event 38. -/
def commitNow (s : State) : State :=
  let k := s.bootSlot
  let n := (s.flash.slot (3 - k)).commitno + 1
  let s := s.putSlot k { s.flash.slot k with state := slotGOOD, commitno := n % 2 ^ 32 }
  (((s.revoke s.runManifest).set F.CFG_TRIAL_ACTIVE 0).set I.SET_SLOT 0).raise 38

/-- The other chip of a pair is as R443 asks: it is healthy with the same manifest, and the standby tracks. -/
def pairHealthy (s : State) : Bool := decide (s.role = roleSOLO) || decide (s.sync = syncTRACKING) && s.on I.TWN_PHLT

/-- HEALTHY: with AUTOCOMMIT outside a chain and a pair the trial is committed; a chain unit reports its version. -/
def healthy (s : State) : State :=
  let s := (s.set F.CFG_TRIAL_HEALTHY 1).cfgOk.tellHealthy
  if !s.on F.CFG_TRIAL_ACTIVE then s
  else if natBit (mfFlags s.runManifest) 0 ∧ s.on F.CFG_CHAIN_EN = false ∧ s.role = roleSOLO then s.commitNow
  else if s.on F.CFG_CHAIN_EN ∧ s.on I.CH_HEAD = false then s.sendChain 0x16 (s.get I.CH_HOP) true [0, 0]
  else s

/-- The hops that have answered step `k` of a chain update (1 STAGED, 2 READY, 3 VERSION), and whether every hop that
staged has done so. -/
def hopAnswered (s : State) (k h : Nat) : Bool := s.graft.hops.contains (64 * k + h)
def chainHops (s : State) : List Nat := (s.graft.hops.filter (fun x => decide (x / 64 = 1))).map (fun x => x % 64)
def allHops (s : State) (k : Nat) : Bool := !s.on I.CH_BAD && s.chainHops.all (fun h => s.hopAnswered k h)

/-- COMMIT (R442, R443, R446). -/
def trialCommit (s : State) : State :=
  if !s.on F.CFG_TRIAL_ACTIVE || !s.on F.CFG_TRIAL_HEALTHY || !s.pairHealthy ||
      (s.on I.CH_HEAD && s.on F.CFG_CHAIN_EN && !s.allHops 3) then s.cfgStatus stREFUSED 0
  else
    let s := s.commitNow.cfgOk
    if s.on I.CH_HEAD then s.sendChain 0x17 0 false [] else s

/-- The fallback of a trial: the slot is FAILED, and the GOOD slot boots (R442). -/
def fallback (s : State) : State :=
  if !s.on F.CFG_TRIAL_ACTIVE then s
  else
    let k := s.bootSlot
    (s.putSlot k { s.flash.slot k with state := slotFAILED }).warmReset F.SYS_RSTCAUSE_FALLBACK s.strapBoot
      |>.set I.FB_PEND 1

/-- A write of `CFG_TRIAL` (R442, R501, R502, R504): HEALTHY and FAIL are the steward's, COMMIT the holder's, and a refused
COMMIT takes HEALTHY with it. -/
def trialSet (s : State) (m : Master) (w : Nat) : State :=
  if (natBit w 30 || natBit w 29) && decide (m ≠ .steward) then
    s.asHolder m (fun s => s.cfgStatus stREFUSED 0)
  else if natBit w 31 then
    s.asHolder m (fun s =>
      if natBit w 30 then s.cfgStatus stBADARG 0
      else
        let h := if natBit w 29 then s.healthy else s
        if s.on F.CFG_TRIAL_ACTIVE && !h.on F.CFG_TRIAL_ACTIVE then h
        else
          let t := h.trialCommit
          if t.get F.CFG_SESS_STATUS = stOK then t else s.cfgStatus stREFUSED 0)
  else if natBit w 30 then
    (if natBit w 29 then s.healthy else s).cfgOk.fallback
  else if natBit w 29 then s.healthy
  else s.asHolder m (fun s => s.cfgOk)

/-! ### Settings (R427 to R430) and owner codes (R445) -/

/-- The selected copy's digest of the owner code; zeros with no copy. -/
def loadOwner (s : State) (body : List Byte) : State :=
  (List.range 32).foldl (fun s i => s.set (I.OWN_DIG i) (byteAt body (480 + i))) s

/-- The copy slot that the steward writes: copy 1 when true (R428, R429). -/
def settingsTarget (s : State) : Bool :=
  if s.on F.CFG_TRIAL_ACTIVE ∧ s.get I.SET_SLOT ≠ 0 then decide (s.get I.SET_SLOT = 2) else writesCopy1 s.flash

/-- The higher SEQ of the two copies. -/
def highSeq (f : Flash) : Nat :=
  match copyValid f.copy0, copyValid f.copy1 with
  | true, true => if serialHigher (copySeq f.copy1) (copySeq f.copy0) then copySeq f.copy1 else copySeq f.copy0
  | true, false => copySeq f.copy0
  | false, true => copySeq f.copy1
  | false, false => 0

/-- The settings written into one copy and read back (R428, R429). DEDUCED: log entry 117. -/
def settingsWrite (s : State) (format : Nat) (body : List Byte) (ok : Bool) : State :=
  if s.get I.BOOT_PH ≠ 1 ∨ 1048544 < body.length then s
  else
    let one := s.settingsTarget
    let fs := mfFormats s.runManifest
    let s := if s.on F.CFG_TRIAL_ACTIVE ∧ selectCopy s.flash fs = 0 then s.set I.SET_SLOT (b2n one + 1) else s
    let c : List Byte := if ok then copyHeader format ((highSeq s.flash + 1) % 2 ^ 32) body ++ body else []
    let s := s.setFlash (if one then { s.flash with copy1 := c } else { s.flash with copy0 := c })
    let k := selectCopy s.flash fs
    let s := (s.flag I.SET_OK ok).set I.SET_COPY k
    s.loadOwner (if k = 0 then [] else copyBody (if k = 2 then s.flash.copy1 else s.flash.copy0))

/-- The digits of a BCD code, leading unused nibbles being 0xF (R445); none when it is malformed. -/
def bcdDigits (w : Nat) : Option (List Nat) :=
  let ns := ((List.range 8).reverse.map (fun i => natBits w (4 * i + 3) (4 * i))).dropWhile (fun d => decide (d = 15))
  if ns ≠ [] ∧ ns.all (fun d => decide (d < 10)) then some ns else none

/-- The digits are the owner code's. -/
def ownerMatches (s : State) (ds : List Nat) : Bool :=
  decide ((sha256 (ds.map (fun d => BitVec.ofNat 8 (0x30 + d)))).map (·.toNat) = (List.range 32).map (fun i => s.get (I.OWN_DIG i)))

/-- An owner code entered (R445): a fifth wrong code locks the entry for 60 s. -/
def ownerEntry (s : State) (ds : Option (List Nat)) : State :=
  if s.get F.CFG_SESS_SRC = 0 ∨ s.on I.CFG_LOCKO then s.cfgStatus stREFUSED 0
  else match ds with
    | none => s.cfgStatus stBADARG 0
    | some ds =>
      if s.ownerMatches ds then (s.set I.CFG_UNL 1).cfgOk
      else
        let s := s.bump I.CFG_WRONG 1
        (if 5 ≤ s.get I.CFG_WRONG then s.set I.CFG_LOCKO 1 else s).cfgStatus stAUTH 0

/-- No owner code is set. -/
def noOwner (s : State) : Bool := (List.range 32).all (fun i => decide (s.get (I.OWN_DIG i) = 0))

/-- A write of `CFG_OPT` (R445). -/
def optSet (s : State) (w : Nat) : State :=
  if s.on I.CFG_UNL || s.noOwner then (s.put F.CFG_OPT_DOWNGRADE w).cfgOk else s.cfgStatus stREFUSED 0

/-- A write of a `CFG_` register. -/
def cfgSet (s : State) (m : Master) (a w : Nat) : State :=
  if a = 0x40000 then s.sessSet m false w
  else if a = 0x40008 then s.xferSet m w
  else if a = 0x40010 then s.actSet m w
  else if a = 0x4001C then s.trialSet m w
  else if a = 0x40050 then s.ownerEntry (bcdDigits w)
  else if a = 0x40054 then s.optSet w
  else s.plainStore a w cfgOk

/-! ### Views of the flash (R424, R427) -/

/-- The words of `CFG_SLOT[s]`. -/
def slotView (s : State) (i k : Nat) : Nat :=
  let x := s.flash.slot (i + 1)
  if k = 0 then slotCode x * 2 ^ 29 + b2n (s.bootSlot = i + 1) * 2 ^ 28 + x.commitno % 2 ^ 28
  else if x.manifest = [] then 0 else mfSeq x.manifest

/-- `CFG_SET` and `CFG_SETSEQ`. -/
def selectedCopy (s : State) : Option (List Byte) :=
  if s.get I.SET_COPY = 0 then none else some (if s.get I.SET_COPY = 2 then s.flash.copy1 else s.flash.copy0)
def setView (s : State) : Nat :=
  match s.selectedCopy with
  | none => 2 ^ 31
  | some c => (s.get I.SET_COPY - 1) * 2 ^ 16 + copyFormat c
def setSeqView (s : State) : Nat := match s.selectedCopy with | some c => copySeq c | none => 0

/-! ### The partner's side (R443, R395) -/

/-- An UPDATE frame: that the partner is healthy; on the active chip the partner's staging state; on the standby package
bytes, an arm at F, or a disarm. DESIGN CHOICE: log entry 75. -/
def updateRx (s : State) (bs : List Byte) : State :=
  match bs with
  | [] => s
  | k :: t =>
    if k = 4 then s.flag I.TWN_PHLT (t = sha256 s.runManifest)
    else if s.role = roleACTIVE then if k = 0 then s.set F.CFG_STAGE_PSTATE (byteAt t 0) else s
    else if s.role ≠ roleSTANDBY then s
    else match k.toNat with
      | 1 => s.stageBytes t
      | 2 =>
        let s := (s.set F.CFG_ACT_FRC_LO_F (word32 t 0)).set F.CFG_ACT_FRC_HI_F (word32 t 4)
        if s.stagedSlot ≠ 0 ∧ s.refusal = none then (s.set F.CFG_ACT_STATE 1).raise 35 else s
      | 3 => s.set F.CFG_ACT_STATE 0
      | _ => s

end State

/-! ### The commands -/

def execSessionOpen (m : Master) (chain : Bool) (s : State) : Out :=
  .next (s.guardWrite m 0x40000 0x10 (fun s => s.sessSet m chain 0x10))
def execSessionClose (m : Master) (s : State) : Out := .next (s.guardWrite m 0x40000 0x20 (fun s => s.sessSet m false 0x20))
def execSessionTimeout (s : State) : Out := .next s.sessEnd
def execXferGo (m : Master) (w : Word) (s : State) : Out :=
  .next (s.guardWrite m 0x40008 (w ||| 0x80000000).toNat (fun s => s.xferSet m (w ||| 0x80000000).toNat))
def execPieceConsumed (s : State) : Out := .next s.pieceDone
def execActivationArm (m : Master) (s : State) : Out := .next (s.guardWrite m 0x40010 0x10 (fun s => s.actSet m 0x10))
def execActivationDisarm (m : Master) (s : State) : Out := .next (s.guardWrite m 0x40010 0x20 (fun s => s.actSet m 0x20))
def execActivationAtF (s : State) : Out := .next s.actAtF
def execTrialHealthy (m : Master) (s : State) : Out :=
  .next (s.guardWrite m 0x4001C 0x20000000 (fun s => s.trialSet m 0x20000000))
def execTrialCommit (m : Master) (s : State) : Out :=
  .next (s.guardWrite m 0x4001C 0x80000000 (fun s => s.trialSet m 0x80000000))
def execTrialFail (m : Master) (s : State) : Out :=
  .next (s.guardWrite m 0x4001C 0x40000000 (fun s => s.trialSet m 0x40000000))
/-- DESIGN CHOICE: log entry 118. -/
def execTrialTimeout (s : State) : Out := .next s.fallback
def execSettingsCopyWrite (format : BitVec 16) (body : List Byte) (readBack : Bool) (s : State) : Out :=
  .next (s.settingsWrite format.toNat body readBack)
def execOwnerCodeEntry (m : Master) (w : Word) (s : State) : Out :=
  .next (s.guardWrite m 0x40050 w.toNat (fun s => s.cfgSet m 0x40050 w.toNat))
def execUnlockLockoutEnd (s : State) : Out := .next ((s.set I.CFG_LOCKO 0).set I.CFG_WRONG 0)
/-- The partner is found, and is told at once if this chip is healthy in its trial (R378, R443). -/
def execTwinPartnerFound (x : Found) (s : State) : Out := .next (s.partnerFound x.partner x.same).tellHealthy
def execTwinUpdateFrame (seq : BitVec 24) (crcOk : Bool) (bytes : List Byte) (s : State) : Out :=
  .next (s.received seq.toNat crcOk 0 (fun s => s.updateRx bytes))

end Sys2Proof.Machine
end

