-- ==== Sys2Proof/Machine/Chain.lean ====
section
/-! DEFINITION. Chain updates (R444, R446): the frames that a unit receives on U4 and U5. A downward frame comes from the
head's side, an upward frame from below. -/

namespace Sys2Proof.Machine

namespace State

/-- A frame with a good CRC goes to `eff`; a bad one is dropped and answered with the last status frame (R444). -/
def chainFrame (s : State) (h : ChainHdr) (eff : State → State) : State :=
  if !s.on F.CFG_CHAIN_EN then s
  else if h.crcOk then eff s
  else match (s.graft.sent.filter (fun f => f.up)).getLast? with
    | some f => s.sendChain f.type f.hop true f.bytes
    | none => s

/-- A downward frame sent on, its HOP one higher; HOP is 63 at most. DEDUCED: log entry 116. -/
def passDown (s : State) (type : Nat) (h : ChainHdr) (bs : List Byte) : State :=
  if h.hop.val < 63 then s.sendChain type (h.hop + 1) false bs else s

/-- An upward frame sent on unchanged. -/
def passUp (s : State) (type : Nat) (h : ChainHdr) (bs : List Byte) : State := s.sendChain type h.hop true bs

/-- A status code and reason. -/
def statusBytes (st reason : Nat) : List Byte := [BitVec.ofNat 8 st, BitVec.ofNat 8 reason]

/-- OFFER: a chain-up session is opened, or the unit only forwards (R446). -/
def offerRx (s : State) (h : ChainHdr) : State :=
  let s := s.passDown 0x10 h []
  if s.get F.CFG_SESS_SRC ≠ 0 then
    ((s.set I.CH_CANT 1).set I.CH_HOP (h.hop + 1)).sendChain 0x12 (h.hop + 1) true (statusBytes stBUSY rsnSESSION_BUSY)
  else (s.sessBegin .steward 4).set I.CH_HOP (h.hop + 1)

/-- DATA: forwarded, and staged in a chain-up session. -/
def dataRx (s : State) (h : ChainHdr) (bs : List Byte) : State :=
  let s := s.passDown 0x11 h bs
  if s.get F.CFG_SESS_SRC = 4 ∧ s.on I.CH_SENT = false then s.stageBytes bs else s

/-- An answer of step `k` from below: counted at the head, forwarded by any other unit. -/
def answerRx (s : State) (k type : Nat) (h : ChainHdr) (bs : List Byte) (bad : Bool) : State :=
  if s.on I.CH_HEAD then
    let s := s.setGraft { s.graft with hops := s.graft.hops ++ [64 * k + h.hop] }
    if bad then s.set I.CH_BAD 1 else s
  else s.passUp type h bs

/-- The staged manifest is the one that a frame names. -/
def digestIs (s : State) (digest : BitVec 256) : Bool :=
  decide (s.stagedSlot ≠ 0) && decide (beNat (sha256 s.stagedManifest) = digest.toNat)

/-- The 40 bytes of an ARM or GO frame. -/
def armPayload (digest : BitVec 256) (f : Nat) : List Byte := (leBytes digest.toNat 32).reverse ++ leBytes f 8

/-- F put where an arm reads it. -/
def setF (s : State) (f : Nat) : State := (s.set F.CFG_ACT_FRC_LO_F f).set F.CFG_ACT_FRC_HI_F (f / 2 ^ 32)

/-- ARM: the unit checks R439 and R440 and answers READY or ABORT. -/
def armRx (s : State) (h : ChainHdr) (digest : BitVec 256) (f : Nat) : State :=
  let s := (s.passDown 0x13 h (armPayload digest f)).setF f
  match (if s.digestIs digest then s.armFault else some (stREFUSED, rsnNOTSTAGED)) with
  | none => s.sendChain 0x14 (s.get I.CH_HOP) true (statusBytes stOK 0)
  | some e => s.sendChain 0x18 (s.get I.CH_HOP) true (statusBytes e.1 e.2)

/-- READY: with one from every hop the head sends GO. -/
def readyRx (s : State) (h : ChainHdr) : State :=
  let s := s.answerRx 2 0x14 h (statusBytes stOK 0) false
  if s.on I.CH_HEAD && s.on F.CFG_ACT_STATE && s.allHops 2 && !s.goSent then s.sendChain 0x15 0 false s.armBytes else s

/-- GO: with a lead of Fe / 4 the unit arms; any other answers ABORT. -/
def goRx (s : State) (h : ChainHdr) (digest : BitVec 256) (f : Nat) : State :=
  let s := (s.passDown 0x15 h (armPayload digest f)).setF f
  if s.get F.CFG_SESS_SRC = 4 ∧ s.digestIs digest ∧ s.refusal = none ∧ 4 * s.frc + s.rateHz ≤ 4 * f then
    (s.set F.CFG_ACT_STATE 1).raise 35
  else s.sendChain 0x18 (s.get I.CH_HOP) true (statusBytes stREFUSED (s.refusal.getD rsnCHAIN))

/-- COMMIT: forwarded; a unit healthy in trial commits (R442). -/
def commitRx (s : State) (h : ChainHdr) : State :=
  let s := s.passDown 0x17 h []
  if s.on F.CFG_TRIAL_ACTIVE && s.on F.CFG_TRIAL_HEALTHY then s.commitNow else s

/-- ABORT: forwarded the way it goes; an armed unit disarms, and a unit in trial falls back. -/
def abortRx (s : State) (h : ChainHdr) (status : Byte) : State :=
  let bs : List Byte := [status, 0]
  let s := if h.up then (if s.on I.CH_HEAD then (s.set I.CH_BAD 1).sendChain 0x18 0 false bs else s.passUp 0x18 h bs)
    else s.passDown 0x18 h bs
  let s := if s.on F.CFG_ACT_STATE then
      ((s.set F.CFG_ACT_STATE 0).set F.CFG_ACT_REASON rsnCHAIN).raise 36
    else s
  s.fallback

end State

/-! ### The commands -/

def execChainOffer (h : ChainHdr) (s : State) : Out := .next (s.chainFrame h (fun s => s.offerRx h))
def execChainData (h : ChainHdr) (bytes : List Byte) (s : State) : Out := .next (s.chainFrame h (fun s => s.dataRx h bytes))
def execChainStaged (h : ChainHdr) (status : Byte) (s : State) : Out :=
  .next (s.chainFrame h (fun s => s.answerRx 1 0x12 h [status, 0] (decide (status ≠ 0))))
def execChainArm (h : ChainHdr) (digest : BitVec 256) (f : Nat) (s : State) : Out :=
  .next (s.chainFrame h (fun s => s.armRx h digest f))
def execChainReady (h : ChainHdr) (s : State) : Out := .next (s.chainFrame h (fun s => s.readyRx h))
def execChainGo (h : ChainHdr) (digest : BitVec 256) (f : Nat) (s : State) : Out :=
  .next (s.chainFrame h (fun s => s.goRx h digest f))
def execChainVersion (h : ChainHdr) (s : State) : Out :=
  .next (s.chainFrame h (fun s => s.answerRx 3 0x16 h (State.statusBytes stOK 0) false))
def execChainCommit (h : ChainHdr) (s : State) : Out := .next (s.chainFrame h (fun s => s.commitRx h))
def execChainAbort (h : ChainHdr) (status : Byte) (s : State) : Out := .next (s.chainFrame h (fun s => s.abortRx h status))

end Sys2Proof.Machine
end

