-- ==== Sys2Proof/Machine/Rind.lean ====
section
/-! DEFINITION. Rind's recovery commands (R447, R448): they act in recovery only, and answer on U0. -/

namespace Sys2Proof.Machine

/-- A number in upper-case hexadecimal, `n` digits. -/
def hexDigit (d : Nat) : Char := if d < 10 then Char.ofNat (48 + d) else Char.ofNat (55 + d)
def hexStr (n x : Nat) : String := String.ofList ((List.range n).reverse.map (fun i => hexDigit (x / 16 ^ i % 16)))

namespace State

/-- Rind is in recovery. -/
def inRecovery (s : State) (go : State → State) : State := if s.get I.BOOT_PH = 2 then go s else s

/-- A final line: `OK`, or `ERR` with a code of R14. -/
def sayOk (s : State) : State := s.say "OK"
def sayErr (s : State) (st : Nat) : State := s.say ("ERR " ++ hexStr 2 st)

/-- A slot and a settings copy as `INFO` reports them. -/
def slotInfo (x : ImgSlot) : String :=
  " " ++ hexStr 8 x.state ++ " " ++ hexStr 8 (if x.manifest = [] then 0 else mfSeq x.manifest) ++ " " ++ hexStr 8 x.commitno
def copyInfo (c : List Byte) : String := " " ++ hexStr 4 (copyFormat c) ++ " " ++ hexStr 8 (copySeq c)

def rindInfo (s : State) : State :=
  s.say ("OK" ++ slotInfo s.flash.slotA ++ slotInfo s.flash.slotB ++ copyInfo s.flash.copy0 ++ copyInfo s.flash.copy1)

/-- The owner code held in the settings, in the copy with the higher SEQ: the digest of 32 bytes, zeros with none. -/
def heldOwner (s : State) : List Byte :=
  let c0 := s.flash.copy0
  let c1 := s.flash.copy1
  let c := if copyValid c1 && (!copyValid c0 || serialHigher (copySeq c1) (copySeq c0)) then c1 else c0
  if copyValid c then sliceOf (copyBody c) 480 32 else []
def ownerHeld (s : State) : Bool := s.heldOwner.any (fun b => decide (b ≠ 0))
/-- `LOAD` and `ERASESET` are refused while a held code has not been entered. -/
def rindLocked (s : State) : Bool := s.ownerHeld && !s.on I.RL_UNL

def rindCode (s : State) (ds : List Nat) : State :=
  if s.on I.CFG_LOCKO then s.sayErr stREFUSED
  else if ds = [] ∨ 8 < ds.length then s.sayErr stBADARG
  else if s.ownerHeld ∧ sha256 (ds.map (fun d => BitVec.ofNat 8 (0x30 + d))) = s.heldOwner then
    (s.set I.RL_UNL 1).sayOk
  else
    let s := s.bump I.CFG_WRONG 1
    (if 5 ≤ s.get I.CFG_WRONG then s.set I.CFG_LOCKO 1 else s).sayErr stAUTH

/-- The slot that R425 would not boot (R447). -/
def rindSlot (s : State) : Nat :=
  match goodSlot s.flash with
  | 1 => 2
  | 2 => 1
  | _ => 1

def rindLoad (s : State) (n : Nat) : State :=
  if s.rindLocked then s.sayErr stREFUSED
  else if n = 0 then s.sayErr stBADARG
  else ((s.set I.RL_LEFT n).set I.RL_BLK 0).setGraft { s.graft with pkg := [], parts := [] }

/-- The own parts of a whole package, expanded and checked (R448). -/
def rindParts (s : State) (m pkg : List Byte) : Except (Nat × Nat) (List (List Byte)) :=
  let rec go : List Nat → Nat → List (List Byte) → Except (Nat × Nat) (List (List Byte))
    | [], _, ps => .ok ps
    | i :: t, cur, ps =>
      if partIsPartner m i then go t (cur + partPlen m i) ps
      else match s.expandPart m i (sliceOf pkg cur (partPlen m i)) with
        | .error e => .error e
        | .ok x => go t (cur + partPlen m i) (ps ++ [x])
  go (List.range (mfParts m)) (mfLen m) []

/-- The whole package staged and the slot set to TRIAL, or refused with its slot EMPTY. -/
def rindStage (s : State) : State :=
  let pkg := s.graft.pkg
  let m := pkg.take (mfLen pkg)
  let s := s.setGraft { s.graft with pkg := [], parts := [] }
  if pkg.length < 8 ∨ pkg.length < mfLen pkg then s.sayErr stFORMAT
  else match s.manifestFault m true with
    | some e => s.sayErr e.1
    | none =>
      let k := s.rindSlot
      match s.rindParts m pkg with
      | .error e => (s.putSlot k ImgSlot.empty).sayErr e.1
      | .ok ps => (s.putSlot k { ImgSlot.empty with state := slotTRIAL, manifest := m, parts := ps }).sayOk

/-- A block with its CRC: acknowledged in turn, or asked for again. -/
def rindBlock (s : State) (k : Nat) (bs : List Byte) (ok : Bool) : State :=
  let left := s.get I.RL_LEFT
  let want := s.get I.RL_BLK
  if left = 0 then s
  else if !ok ∨ k ≠ want ∨ bs.length ≠ min left 4096 then s.say ("NAK " ++ toString want)
  else
    let s := ((s.set I.RL_LEFT (left - bs.length)).set I.RL_BLK (want + 1)).setGraft { s.graft with pkg := s.graft.pkg ++ bs }
    let s := s.say ("ACK " ++ toString want)
    if left = bs.length then s.rindStage else s

end State

/-! ### The commands -/

def execRindInfo (s : State) : Out := .next (s.inRecovery State.rindInfo)
def execRindBaud (n : Nat) (s : State) : Out :=
  .next (s.inRecovery (fun s => if n < 9600 ∨ 3000000 < n then s.sayErr stBADARG else s.sayOk.set I.RL_BAUD n))
def execRindCode (digits : List (Fin 10)) (s : State) : Out :=
  .next (s.inRecovery (fun s => s.rindCode (digits.map (·.val))))
def execRindLoad (n : Nat) (s : State) : Out := .next (s.inRecovery (fun s => s.rindLoad n))
def execRindLoadBlock (k : Nat) (bytes : List Byte) (crcOk : Bool) (s : State) : Out :=
  .next (s.inRecovery (fun s => s.rindBlock k bytes crcOk))
def execRindEraseset (s : State) : Out :=
  .next (s.inRecovery (fun s =>
    if s.rindLocked then s.sayErr stREFUSED else (s.setFlash { s.flash with copy0 := [], copy1 := [] }).sayOk))
/-- Reset, and boot under R425. -/
def execRindBoot (s : State) : Out := .next (s.inRecovery (fun s => s.warmReset F.SYS_RSTCAUSE_SRST 0))

end Sys2Proof.Machine
end

