-- ==== Sys2Proof/Machine/Bus.lean ====
section
/-! DEFINITION. The register space as a bus (R9 to R11, R24, R101, R102, R501 to R505): what a write or a read of one
address does, window by window, by the handlers of the units. -/

namespace Sys2Proof.Machine

namespace State

/-! ### Writes -/

def sysWrite (s : State) (m : Master) (a w : Nat) : State :=
  if a = 0x10 then s.engineSet w
  else if a = 0x20 then s.rateSet w
  else if a = 0x34 then s.unfreezeSet m w
  else if a = 0x60 then s.pwrSet m w
  else if a = 0x64 then s.rstSet m w s.strapBoot
  else if 0x400 ≤ a ∧ a < 0x800 then s.evrouteSet ((a - 0x400) / 4) w
  else if 0x2000 ≤ a ∧ a < 0x4000 then s.claimSet m ((a - 0x2000) / 4) w
  else s.regStore a w

def clkWrite (s : State) (a w : Nat) : State :=
  if a = 0x10000 then s.clkCtrlSet w
  else if a = 0x10030 then s.frcLoadSet w
  else if 0x10040 ≤ a ∧ a < 0x10054 then s.refpriSet ((a - 0x10040) / 4) w
  else if 0x10060 ≤ a ∧ a < 0x10080 then s.mclkoSet ((a - 0x10060) / 4) w
  else if a = 0x10080 then s.syncoutSet w
  else s.plainStore a w (fun s => s.clkStatus stOK)

/-- The `PRT_` and `ORC_` registers, which share a window base. -/
def prtWrite (s : State) (m : Master) (a w : Nat) : State :=
  if a < 0x28000 then s.regStore a w
  else if a < 0x28100 then s.handOver m ((a - 0x28000) / 4) w
  else if 0x28200 ≤ a ∧ a < 0x28400 ∧ a % 16 < 12 then s.groupSet ((a - 0x28200) / 16) (a % 16 / 4) w
  else s.plainStore a w (fun s => s.orcStatus stOK)

def qnWrite (s : State) (m : Master) (a w : Nat) : State :=
  if a = 0x50008 then s.deadlineSet w
  else if 0x50080 ≤ a ∧ a < 0x500C0 then s.affSet m ((a - 0x50080) / 8) (a % 8 = 4) w
  else if 0x500C4 ≤ a ∧ a < 0x500D4 then s.slistSet m ((a - 0x500C4) / 4) w
  else if 0x50100 ≤ a ∧ a < 0x50110 then (s.stage m.id a w).qnStatus stOK
  else if a = 0x50110 then s.postCmd m w
  else if 0x58000 ≤ a ∧ a < 0x5A000 then s.imgSet m ((a - 0x58000) / 8) (a % 8 / 4) w
  else s.qnPlain a w

def vmWrite (s : State) (a w : Nat) : State :=
  if a = 0x60000 then s.vmSet w
  else if 0x61000 ≤ a ∧ a < 0x62000 then s.grpWord ((a - 0x61000) / 16) (a % 16 / 4) w
  else s.vmPlain a w

/-- The parameter command a master has staged, posted by a write of `SCN_POST_CMD` (R229, R234): while the store is full
a PCIe post waits, and an SPI transaction performs nothing. -/
def postScene (s : State) (m : Master) (w : Nat) : State :=
  if !natBit w 0 then s.scnStatus stOK
  else
    let q := s.stagedQuad m 0x70100
    if storeFull s && isHost m then
      if m = .pcie then s.pcieWait { kind := .regWrite, addr := 0x70110, w := w, bytes := [] } else s
    else
      (s.mirrorPost m (.scene m (BitVec.ofNat 128 q)) (fun s =>
        if natBits q 79 72 = 2 then s.recallCmd m.id q else s.paramCmd m.id q)).scnStatus stOK

def scnWrite (s : State) (m : Master) (a w : Nat) : State :=
  if a = 0x70000 then s.rclSet m w
  else if 0x70100 ≤ a ∧ a < 0x70110 then (s.stage m.id a w).scnStatus stOK
  else if a = 0x70110 then s.postScene m w
  else if 0x78000 ≤ a ∧ a < 0x7A000 then s.dirSet m ((a - 0x78000) / 8) (a % 8 / 4) w
  else s.plainStore a w (fun s => s.scnStatus stOK)

def brmWrite (s : State) (m : Master) (a w : Nat) : State :=
  if a = 0x80000 then s.swapSet m w
  else if 0x81000 ≤ a ∧ a < 0x82000 then s.quadSet ((a - 0x81000) / 8) (a % 8 / 4) w
  else s.plainStore a w (fun s => s.brmStatus stOK)

def apWrite (s : State) (a w : Nat) : State :=
  if 0x98000 ≤ a then
    if a % 16 = 0 ∧ a < 0x98080 then s.apGroupSet ((a - 0x98000) / 16) w else s.regStore a w
  else
    let n := (a - 0x90000) / 0x400
    let o := a % 0x400
    if o = 0 then s.apCtrlSet n w
    else if o = 0x0C then s.apMaskSet n false w
    else if o = 0x10 then s.apMaskSet n true w
    else if o = 4 ∨ o = 8 ∨ o = 0x14 then s.apPlain n a w
    else s.plainStore a w (fun s => s.apStatus n stOK)

/-- A word of a transmitter's channel status or user data: its subframe, and whether it is user data. -/
def aesWrite (s : State) (a w : Nat) : State :=
  let n := a % 0x1000 / 0x100
  let o := a % 0x100
  if 8 ≤ n then s.regStore a w
  else if a < 0xB1000 then
    if o = 0 then s.rxCtrlSet n w else s.plainStore a w (fun s => s.rxStatus n stOK)
  else if a < 0xB2000 then
    if o = 0 then s.txCtrlSet n w
    else if 0x40 ≤ o ∧ o < 0xC0 ∧ o % 0x20 < 0x18 then
      s.txSetWord n ((o - 0x40) / 0x20 % 2) (decide (0x80 ≤ o)) (o % 0x20 / 4) w
    else s.plainStore a w (fun s => s.txStatus n stOK)
  else s.regStore a w

def tmrWrite (s : State) (a w : Nat) : State :=
  if a < 0xC1000 then
    if a % 16 = 0 ∧ a < 0xC0080 then s.tmGroupSet ((a - 0xC0000) / 16) w else s.regStore a w
  else if a < 0xC2000 then
    let n := (a - 0xC1000) / 0x40
    let o := a % 0x40
    if o = 0 then s.tmCtrlSet n w
    else if o = 8 then s.tmReload n w
    else if o = 0x18 then s.cmpSet n false w
    else if o = 0x1C then s.cmpSet n true w
    else s.tmPlain n o w
  else s

def uartWrite (s : State) (m : Master) (a w : Nat) : State :=
  let n := (a - 0xD0000) / 0x1000
  let o := a % 0x1000
  if 6 ≤ n then s
  else s.uWrite m n (fun s =>
    if o = 0 then s.uCtrlSet n w
    else if o = 8 then s.uDivSet n w
    else if o = 0x0C then s.uTxWrite n w
    else if o = 0x28 then s.uLineSet n w
    else s.uPlain n o w)

def dmsWrite (s : State) (a w : Nat) : State :=
  if a < 0xE1000 ∨ 0xE1400 ≤ a then s.regStore a w
  else
    let n := (a - 0xE1000) / 0x40
    let o := a % 0x40
    if o = 0 then s.dmsCtrlSet n w
    else if o = 8 then s.dmsSpanSet n w
    else if o = 0x0C then s.dmsCode n (w % 2 ^ 24)
    else s.dmsPlain n o w

def curWrite (s : State) (a w : Nat) : State :=
  if a = 0xF0000 then s.curCtrlSet w
  else if 0xF0100 ≤ a ∧ a < 0xF0200 then s.curScanSet ((a - 0xF0100) / 4) w
  else if 0xF4000 ≤ a ∧ a < 0xF8000 ∧ a % 16 = 8 then s.mcfgSet ((a - 0xF4000) / 16) w
  else if 0xF8000 ≤ a ∧ a < 0xF8400 ∧ a % 16 = 0 then s.lgSet ((a - 0xF8000) / 16) w
  else s.plainStore a w (fun s => s.curStatus stOK)

def twnWrite (s : State) (m : Master) (a w : Nat) : State :=
  if a = 0x110000 then s.twnSet w
  else if a = 0x110008 then s.wdogSet m w
  else if 0x110080 ≤ a ∧ a < 0x110090 then s.laneSet ((a - 0x110080) / 4) w
  else s.twnPlain a w

def dmcWrite (s : State) (a w : Nat) : State :=
  if a = 0x120000 then s.dmcSet w
  else if a = 0x120008 then s.dmcCfgSet w
  else s.plainStore a w (fun s => s.dmcStatus stOK)

def pinWrite (s : State) (a w : Nat) : State :=
  if a < 0x1300C0 then s.gpSet ((a - 0x130000) / 4) w else s.regStore a w

/-- The parameter store is RO (R226), `EC_` a core's window (R101), and the tables and the pip store follow. -/
def tableWrite (s : State) (m : Master) (a w : Nat) : State :=
  if 0x200000 ≤ a ∧ a < 0x300000 then
    if a % 0x4000 = 0 then s.coreCtrlSet ((a - 0x200000) / 0x4000) w else s.regStore a w
  else if 0x400000 ≤ a ∧ a < 0x420000 then s.phDirect m ((a - 0x400000) / 16) (a % 16 / 4) w
  else if 0x800000 ≤ a ∧ a < 0x880000 then s.scnStatus stBADARG
  else if 0x908000 ≤ a ∧ a < 0x910000 then
    if a % 8 = 0 then s.nextSet ((a - 0x908000) / 8) w else s.nextWord1 ((a - 0x908000) / 8)
  else if 0xC00000 ≤ a ∧ a < 0xD00000 then s.pipWord ((a - 0xC00000) / 64) (a % 64 / 4) w
  else s.regStore a w

/-- A write of one address by a master that may make it, but for `HIF_SW_GO`. -/
def regWrite0 (s : State) (m : Master) (a w : Nat) : State :=
  if a % 4 ≠ 0 then s
  else match a / 0x10000 with
    | 0 => s.sysWrite m a w
    | 1 => s.clkWrite a w
    | 2 => s.prtWrite m a w
    | 3 => s.mdlSet a w
    | 4 => s.cfgSet m a w
    | 5 => s.qnWrite m a w
    | 6 => s.vmWrite a w
    | 7 => s.scnWrite m a w
    | 8 => s.brmWrite m a w
    | 9 => s.apWrite a w
    | 0xA => s.regStore a w
    | 0xB => s.aesWrite a w
    | 0xC => s.tmrWrite a w
    | 0xD => s.uartWrite m a w
    | 0xE => s.dmsWrite a w
    | 0xF => s.curWrite a w
    | 0x10 => s.hifSet m a w
    | 0x11 => s.twnWrite m a w
    | 0x12 => s.dmcWrite a w
    | 0x13 => s.pinWrite a w
    | 0x14 => s
    | _ => s.tableWrite m a w

/-- Words written to successive addresses of the register space. -/
def writeWords (s : State) (m : Master) (a : Nat) : List Nat → State
  | [] => s
  | w :: t => (s.regWrite0 m a w).writeWords m (a + 4) t

/-! ### Reads -/

/-- A read of word `k` of an entry of `n` words whose word 0 latches the others (R503). -/
def latchRead (s : State) (m : Master) (table entry n k : Nat) (live : Nat → Nat) : State :=
  if k = 0 then (s.setLatch m.id table entry ((List.range n).map live)).reply m (live 0)
  else s.reply m ((s.latched m.id table entry k).getD (live k))

/-- Word `k` of `SYS_VREC` as a master sees it (R400). -/
def vrecWord (s : State) (m : Master) (k : Nat) : Nat :=
  if s.isFrozen m.id then s.get (I.VREC (4 * m.id + k)) else s.get (F.PRT_VLOG_W 0 k)

/-- Word `k` of `STW_SWIQ` (R139). -/
def swiqWord (s : State) (k : Nat) : Nat :=
  match s.swiq with
  | [] => 0
  | e :: _ => [e.code, e.who, e.frc, e.pc].getD k 0

/-- A read of word 3 of `STW_SWIQ` removes the entry. -/
def swiqTake (s : State) (m : Master) : State := { s.reply m (s.swiqWord 3) with swiq := s.swiq.drop 1 }

/-- The registers of a bank as the snapshot of R102 shows them. -/
def bankWord (b : Bank) (o : Nat) : Nat :=
  let b := b.settle
  if o < 0x200 then b.rd (ixV (o / 16) (o % 16 / 4))
  else if o < 0x300 then
    let x := b.rd (ixAcc ((o - 0x200) / 64) (o % 64 / 16))
    match o % 16 / 4 with
    | 0 => natBits x 31 0
    | 1 => natBits x 63 32
    | 2 => natBits x 71 64
    | _ => 0
  else if o < 0x400 then b.rd (ixReg ((o - 0x300) / 64) (o % 64 / 4))
  else if o < 0x418 then b.rd (ixLC 0 + (o - 0x400) / 12 * 4 + (o - 0x400) % 12 / 4)
  else if o = 0x418 then b.csr
  else if o = 0x41C then b.pc
  else if o = 0x420 then b.rd ixLR
  else 0

/-- A word of the window of logical core `n`, by offset (R101, R102). DEDUCED: log entry 129. -/
def coreWord (s : State) (n o : Nat) : Nat :=
  let c := s.core n
  let b := (activeBank c).settle
  let st := s.coreState n
  if o = 4 then st + 16 * b.lv + 256 * b2n c.shadow + 4096 * b.rd ixSV
  else if o = 8 then c.lastPc + 2 ^ 31 * b2n c.lastBank
  else if o = 0x0C then
    (match c.next with | some r => 2 ^ 31 + 2 ^ 16 * r.pip | none => 0) +
    (match b.run with | some r => 2 ^ 15 + r.pip | none => 0)
  else if 0x20 ≤ o ∧ o < 0x30 then
    let f := (o - 0x20) / 4
    let x := frame c f
    2 ^ 31 * b2n x.valid + 2 ^ 30 * b2n x.loading + 2 ^ 29 * b2n (frameLocked c f) +
      (if x.valid || x.loading then x.image else 0)
  else if 0x1000 ≤ o ∧ o < 0x2000 then
    if st = 4 ∨ st = 5 then bankWord (if o < 0x1800 then c.p else c.s) (o % 0x800) else 0
  else s.regWord (0x200000 + 0x4000 * n + o)

/-- The registers whose words are worked out from the rest of the state when they are read. -/
def viewWord (s : State) (m : Master) (a : Nat) : Nat :=
  if a = 0x30010 then s.syncCover.regWord a
  else if 0x40030 ≤ a ∧ a < 0x40040 then s.slotView ((a - 0x40030) / 8) (a % 8 / 4)
  else if a = 0x40040 then s.setView
  else if a = 0x40044 then s.setSeqView
  else if a = 0x4001C then (s.set F.CFG_TRIAL_REMAIN s.trialRemain).regWord a
  else if 0x500C4 ≤ a ∧ a < 0x500D4 then s.get (I.SLIST (4 * s.get F.QN_SLIST_IDX_I + (a - 0x500C4) / 4))
  else if (0x50100 ≤ a ∧ a < 0x50110) ∨ (0x70100 ≤ a ∧ a < 0x70110) then s.stagedWord m.id a
  else if a = 0x100030 ∨ a = 0x100034 ∨ (0x100040 ≤ a ∧ a < 0x100060) then s.stagedWord m.id a
  else if a = 0x60010 then ((s.set F.VM_COUNT_PLAYING s.playing).set F.VM_COUNT_FADING s.fading).regWord a
  else if 0x62000 ≤ a ∧ a < 0x62400 then
    let g := (a - 0x62000) / 4
    ((s.set (F.VM_GCNT_PLAYING g) (s.groupPlaying g)).set (F.VM_GCNT_FADING g) (s.groupFading g)).regWord a
  else if a = 0x70010 then (s.set F.SCN_RAMPS_ACTIVE s.rampsActive).regWord a
  else if 0x90000 ≤ a ∧ a < 0x98000 ∧ a % 0x400 = 0x18 then
    let n := (a - 0x90000) / 0x400
    (s.flag (F.AP_STAT_DRV n) (decide (s.get (F.AP_CTRL_STATE n) ≠ unitOFF) && !s.standby)).regWord a
  else if a = 0xE0000 then
    (s.set F.DMS_GSTAT_SPOK ((List.range 16).foldl (fun x n => x + 2 ^ n * s.get (F.DMS_STAT_SPOK n)) 0)).regWord a
  else if 0xE1000 ≤ a ∧ a < 0xE1400 ∧ a % 0x40 = 0x20 then
    let n := (a - 0xE1000) / 0x40
    (s.flag (F.DMS_STAT_DRV n) (decide (s.dmsState n ≠ unitOFF) && !s.standby)).regWord a
  else if 0xE1000 ≤ a ∧ a < 0xE1400 ∧ a % 0x40 = 0x0C then
    let n := (a - 0xE1000) / 0x40
    if s.dmsState n = dmsSPANCHG ∧ s.dmsAudio n = false then s.get (I.DMS_TGT n) else s.get (F.DMS_CODE_C n)
  else if 0xE1000 ≤ a ∧ a < 0xE1400 ∧ a % 0x40 = 0x28 then s.dmsOut ((a - 0xE1000) / 0x40)
  else if 0xC1000 ≤ a ∧ a < 0xC2000 ∧ a % 0x40 = 0x14 then s.get (I.TMR_SNAP (256 * ((a - 0xC1000) / 0x40) + m.id))
  else if 0xC1000 ≤ a ∧ a < 0xC2000 ∧ a % 0x40 = 0x38 then s.get (I.TMR_CSNAP (256 * ((a - 0xC1000) / 0x40) + m.id))
  else if 0xD0000 ≤ a ∧ a < 0xD6000 ∧ a % 0x1000 = 0x14 then
    let u := s.uart ((a - 0xD0000) / 0x1000)
    2 ^ 16 * u.rx.length + u.tx.length
  else if 0x130000 ≤ a ∧ a < 0x1300C0 then
    let n := (a - 0x130000) / 4
    (s.flag (F.PIN_GP_IN n) (s.gpLevel n)).regWord a
  else if 0x140100 ≤ a ∧ a < 0x14010C then s.swiqWord ((a - 0x140100) / 4)
  else if a = 0x140110 then s.swiq.length
  else if 0x200000 ≤ a ∧ a < 0x300000 then s.coreWord ((a - 0x200000) / 0x4000) (a % 0x4000)
  else if 0x900000 ≤ a ∧ a < 0x908000 ∧ a % 8 = 4 then s.liveWord1 ((a - 0x900000) / 8)
  else s.regWord a

/-- A plain read: the word, and its RC fields cleared (R10, R13). -/
def plainRead (s : State) (m : Master) (a : Nat) : State := (s.reply m (s.viewWord m a)).regClear a

/-- A read of one address by a master that may make it, its word kept for the master. -/
def regRead (s : State) (m : Master) (a : Nat) : State :=
  if a % 4 ≠ 0 then s.reply m 0
  else if 0x50 ≤ a ∧ a < 0x60 then s.latchRead m 8 0 4 ((a - 0x50) / 4) (s.vrecWord m)
  else if a = 0x10008 then s.ppmNow.reply m (s.ppmNow.get F.CLK_PPM_PPM)
  else if a = 0x10020 then s.frcLoRead m
  else if a = 0x10024 then s.reply m (s.frcHiWord m)
  else if 0x20100 ≤ a ∧ a < 0x20200 then
    let i := (a - 0x20100) / 16
    s.latchRead m 7 i 4 (a % 16 / 4) (fun k => s.get (F.PRT_VLOG_W i k))
  else if 0x31000 ≤ a ∧ a < 0x32000 then
    let i := (a - 0x31000) / 16
    s.latchRead m 9 i 4 (a % 16 / 4) (fun k => s.get (F.MDL_LOG_W i k))
  else if 0xB0000 ≤ a ∧ a < 0xB0800 ∧ 0x40 ≤ a % 0x100 ∧ a % 0x100 < 0xC0 ∧ a % 0x20 < 0x18 then
    let base := a / 0x20 * 0x20
    s.latchRead m (if a % 0x100 < 0x80 then 4 else 5) (2 * ((a - 0xB0000) / 0x100) + a % 0x40 / 0x20) 6 (a % 0x20 / 4)
      (fun k => s.regWord (base + 4 * k))
  else if 0xC1000 ≤ a ∧ a < 0xC2000 ∧ a % 0x40 = 0x10 then s.tmCntRead m ((a - 0xC1000) / 0x40)
  else if 0xC1000 ≤ a ∧ a < 0xC2000 ∧ a % 0x40 = 0x30 then s.tmCaptRead m ((a - 0xC1000) / 0x40)
  else if 0xD0000 ≤ a ∧ a < 0xD6000 ∧ a % 0x1000 = 0x10 then s.uRxRead m ((a - 0xD0000) / 0x1000)
  else if 0xF4000 ≤ a ∧ a < 0xF8000 ∧ a % 16 = 0 then s.meterRead m ((a - 0xF4000) / 16)
  else if 0xF4000 ≤ a ∧ a < 0xF8000 ∧ a % 16 = 4 then
    s.reply m ((s.latched m.id 6 ((a - 0xF4000) / 16) 1).getD (s.meterWord1 ((a - 0xF4000) / 16)))
  else if 0xF4000 ≤ a ∧ a < 0xF8000 ∧ a % 16 = 12 then s.meterOvRead m ((a - 0xF4000) / 16)
  else if a = 0x120014 ∨ a = 0x120018 then
    s.latchRead m 10 0 2 ((a - 0x120014) / 4) (fun k => s.regWord (0x120014 + 4 * k))
  else if a = 0x14010C then s.swiqTake m
  else if 0x400000 ≤ a ∧ a < 0x420000 then
    let p := (a - 0x400000) / 16
    s.latchRead m 1 p 4 (a % 16 / 4) (s.phWord p)
  else if 0x800000 ≤ a ∧ a < 0x880000 then
    let k := (a - 0x800000) / 8
    s.latchRead m 3 k 2 (a % 8 / 4) (fun w => if w = 0 then s.prmValue k else s.prmSlope k)
  else if 0xA00000 ≤ a ∧ a < 0xA40000 ∧ a % 64 < 24 then
    let base := a / 64 * 64
    s.latchRead m 2 ((a - 0xA00000) / 64) 6 (a % 64 / 4) (fun k => s.regWord (base + 4 * k))
  else s.plainRead m a

/-- The word of a master's last read. -/
def readWord (s : State) (m : Master) : Nat := s.get (I.RDATA m.id)

/-! ### The steward restarts (R402) -/

/-- A steward frozen for 100 ms is restarted from Rind while STWRST is set, which a trial boot takes as a failure (R442). -/
def stewardRestart (s : State) : State :=
  if s.isFrozen 0x50 && s.on F.PRT_CTRL_STWRST then
    let s := ((s.setCore 64 (Core.steward Config.rindEntry.toNat)).setFrozen 0x50 false).raise 18
    if s.on F.CFG_TRIAL_ACTIVE then s.fallback else s
  else s

end State

end Sys2Proof.Machine
end

