-- ==== Sys2Proof/Machine/Access.lean ====
section
/-! DEFINITION. Accesses from outside: sequenced writes (R374, R383), the PCIe windows (R365 to R369), SPI transactions
(R371 to R373), the release of mirrored items (R382), held posts and commands (R164, R232), and the delivery of unit events
(R29, R30, R175, R368). -/

namespace Sys2Proof.Machine

/-- Where an SPI address lies (R371): a register, an Orchard offset, or an offset from the DRAM window. -/
inductive SpiPlace where
  | reg (a : Nat) | orc (off : Nat) | dram (off : Nat) | none
deriving DecidableEq, Repr

/-- The place of one word. -/
def spiPlace (a : Nat) : SpiPlace :=
  if a % 4 ≠ 0 then .none
  else if a < 0x1000000 then .reg a
  else if 0x10000000 ≤ a ∧ a < 0x14000000 then .orc (a - 0x10000000)
  else if 0x20000000 ≤ a ∧ a < 0x30000000 then .dram (a - 0x20000000)
  else .none

/-- The enabled bytes of a transfer as cells from an address. -/
def enabledCells (a : Nat) (bs : List (Option Byte)) : List Host.Cell :=
  (bs.zipIdx).filterMap (fun e => e.1.map (fun b => (a + e.2, b)))

/-- A word's bytes, all enabled. -/
def wordBytes (w : Nat) : List (Option Byte) := (leBytes w 4).map some

namespace State

/-- A place that the master does not reach: a DRAM address beyond the configured size, or no place at all (R372). -/
def placeBad (s : State) (base : Nat) : SpiPlace → Bool
  | .none => true
  | .dram off => decide (s.dramSize < base * 0x100000 + off + 4)
  | _ => false

/-- The violation that a write of one word commits: its kind, if there is one (R251, R397). -/
def placeViolation (s : State) (m : Master) : SpiPlace → Option Nat
  | .reg a => if regwin m a then some 8 else none
  | .orc off => if s.admits (bankOf off) (.other m.id) then none else some 3
  | _ => none

/-- The address of a place in its violation record. -/
def placeAddr : SpiPlace → Nat
  | .reg a => a
  | .orc off => orcBase + off
  | _ => 0

/-- A place in a pair-local window (R381). -/
def placeLocal : SpiPlace → Bool
  | .reg a => pairLocal a
  | _ => false

/-- Bytes written to Orchard by a master, under ownership (R253). DEDUCED: log entry 123. -/
def hostOrcWrite (s : State) (m : Master) (off : Nat) (bs : List (Option Byte)) : State :=
  let cs := enabledCells off bs
  match cs.find? (fun c => !s.admits (bankOf c.1) (.other m.id)) with
  | some c => (s.violate m.id 3 0 0 (orcBase + c.1) 0).hostReject m
  | none => s.orcWrite cs

/-! ### Sequenced writes (R374, R383) -/

/-- One word of a transaction performed at once; `HIF_SW_GO` within a sequenced write writes nothing. -/
def putWord (s : State) (m : Master) (base : Nat) (p : SpiPlace) (w : Nat) : State :=
  match p with
  | .reg a => s.regWrite0 m a w
  | .orc off => s.hostOrcWrite m off (wordBytes w)
  | .dram off => s.dramWrite (enabledCells (base * 0x100000 + off) (wordBytes w))
  | .none => s

/-- The words of a transaction with their places. -/
def placed (a : Nat) (ws : List Nat) : List (SpiPlace × Nat) := (ws.zipIdx).map (fun e => (spiPlace (a + 4 * e.2), e.1))

/-- A sequenced write refused (R374). -/
def seqRefuse (s : State) (m : Master) : State := (s.hostReject m).raise 228

/-- A sequenced write as it meets LAST: performed once, discarded and counted as a duplicate, or refused (R374). -/
def seqApply (s : State) (m : Master) (h n : Nat) (eff : State → State) : State :=
  match s.seqKind h n with
  | .bad => s.seqRefuse m
  | .dup => s.hostReject m
  | .go => (eff s).set (F.HIF_SW_LAST_N h) n

/-- The master of a host port's sequence. -/
def portMaster (h : Nat) : Master := if h = 0 then .pcie else .spi

/-- The words of a sequenced write performed: on a standby those of the pair-local windows act on the other chip alone. -/
def seqWords' (s : State) (m : Master) (base : Nat) (ps : List (SpiPlace × Nat)) : State :=
  ps.foldl (fun s p => if s.standby && placeLocal p.1 then s else s.putWord m base p.1 p.2) s

/-- A sequenced write by a host port: one that reaches mirrored windows is mirrored whole, and meets LAST at its release
tick (R382, R383). DEDUCED: log entry 121. -/
def seqWrite (s : State) (m : Master) (h n a base : Nat) (ws : List Nat) : State :=
  let ps := placed a ws
  match ps.findSome? (fun p => (s.placeViolation m p.1).map (fun k => (k, placeAddr p.1))) with
  | some (k, addr) => (s.violate m.id k 0 0 addr 0).hostReject m
  | none =>
    if ps.all (fun p => placeLocal p.1) then s.seqApply m h n (fun s => s.seqWords' m base ps)
    else if s.standby then s.hostReject m
    else if s.mirrors then
      s.mirror (.seqWrite (Fin.ofNat 2 h) (BitVec.ofNat 32 n) (BitVec.ofNat 32 a) (BitVec.ofNat 14 base)
        (ws.map (BitVec.ofNat 32)))
    else s.seqApply m h n (fun s => s.seqWords' m base ps)

/-- A write of `HIF_SW_GO`: the staged words at the staged register address. Only the host ports keep a sequence.
DEDUCED: log entry 122. -/
def swGo (s : State) (m : Master) (n : Nat) : State :=
  match swPort m with
  | some h =>
    let a := s.stagedWord m.id 0x100030
    let ws := s.seqWords m
    if a % 4 = 0 ∧ a + 4 * ws.length ≤ 0x1000000 then s.seqWrite m h n a 0 ws
    else s.seqApply m h n id
  | none => s

/-- A write of one address by a master that may make it. -/
def regWrite (s : State) (m : Master) (a w : Nat) : State :=
  if a = 0x100038 then s.swGo m w else s.regWrite0 m a w

/-! ### PCIe (R365 to R369) -/

/-- Bytes returned by a window read. -/
def returnBytes (s : State) (bs : List Byte) : State := { s with host := { s.host with out := bs } }

/-- A PCIe access refused: a read answered with completer abort, a write discarded, and the access recorded (R366). -/
def pcieRefuse (s : State) (write : Bool) : State :=
  let s := s.hostReject .pcie
  if write then s else (s.returnBytes []).answerRead .pcie true

/-- A window read answered with data. -/
def pcieAnswer (s : State) (bs : List Byte) : State := (s.returnBytes bs).answerRead .pcie false

/-- A BAR0 access (R366). -/
def pcieReg (s : State) (write : Bool) (a w : Nat) : State :=
  if write then s.guardWrite .pcie a w (fun s => s.regWrite .pcie a w)
  else s.guardRead .pcie a (fun s => s.regRead .pcie a)

/-- A BAR2 access (R367, R376, R381). One that the bank admits while it is being handed over waits (R255). -/
def pcieOrc (s : State) (write : Bool) (off : Nat) (bs : List (Option Byte)) : State :=
  let cells := enabledCells off (if write then bs else bs.map (fun _ => some 0))
  if s.isFrozen Master.pcie.id then s.pcieRefuse write
  else match cells.find? (fun c => !s.admits (bankOf c.1) (.other Master.pcie.id)) with
    | some c => (s.violate Master.pcie.id 3 0 0 (orcBase + c.1) 0).pcieRefuse write
    | none =>
      if write && s.standby then s.pcieRefuse true
      else if write && s.mirrors then s.mirror (.hostOrchard .pcie (Fin.ofNat 67108864 off) bs)
      else if cells.any (fun c => s.on (F.ORC_OWN_PENDING (bankOf c.1))) then
        s.pcieWait { kind := if write then .orcWrite else .orcRead, addr := off, w := 0, bytes := bs }
      else if write then s.orcWrite cells
      else (s.pcieAnswer (s.orcBytes off bs.length)).meetOrc off bs.length

/-- A BAR4 access (R365, R367). -/
def pcieDram (s : State) (write : Bool) (off : Nat) (bs : List (Option Byte)) : State :=
  let a := s.get (F.HIF_DWIN_BASE 0) * 0x100000 + off
  if s.isFrozen Master.pcie.id then s.pcieRefuse write
  else if s.dramSize < a + bs.length then s.pcieRefuse write
  else if write then
    if s.standby then s.pcieRefuse true
    else if s.mirrors then s.mirror (.hostDram .pcie (BitVec.ofNat 36 a) bs)
    else s.dramWrite (enabledCells a bs)
  else (s.pcieAnswer (memBytes s.dram a bs.length)).meetDram a bs.length

/-- A transaction that waits while a post of the host is held back (R369). DESIGN CHOICE: log entry 18. -/
def pcieOrdered (s : State) (r : PReq) (go : State → State) : State := if s.pcieBusy then s.pcieWait r else go s

/-- A transaction that has waited. DESIGN CHOICE: log entry 125. -/
def pciePerform (s : State) (r : PReq) : State :=
  match r.kind with
  | .regWrite => s.pcieReg true r.addr r.w
  | .regRead => s.pcieReg false r.addr 0
  | .orcWrite => s.pcieOrdered r (fun s => s.pcieOrc true r.addr r.bytes)
  | .orcRead => s.pcieOrdered r (fun s => s.pcieOrc false r.addr r.bytes)
  | .dramWrite => s.pcieOrdered r (fun s => s.pcieDram true r.addr r.bytes)
  | .dramRead => s.pcieOrdered r (fun s => s.pcieDram false r.addr r.bytes)

/-- The transactions that waited go on, in order, until one of them has to wait again (R369). -/
def pcieDrain (s : State) : State :=
  s.host.pcieq.foldl (fun s r => s.pciePerform r) { s with host := { s.host with pcieq := [] } }

/-! ### SPI (R370 to R373) -/

/-- The end of an SPI transaction: its status byte, and what `HS_MISO` carried after it. DEDUCED: log entry 119. -/
def spiEnd (s : State) (st : Nat) (data : List Byte) : State :=
  ({ s with host := { s.host with out := BitVec.ofNat 8 st :: data } }).set I.SPI_ST st

/-- The data held for a repeated READ discarded (R373). -/
def spiForget (s : State) : State := { s with host := { s.host with spiHeld := none } }

/-- A transaction refused, and counted. -/
def spiRefuse (s : State) (st : Nat) : State := (s.hostReject .spi).spiEnd st []

/-- The base of the port's DRAM window. -/
def spiBase (s : State) : Nat := s.get (F.HIF_DWIN_BASE 1)

/-- The status that the places of a transaction give before anything is performed: none if it may go on (R372, R376). -/
def spiFault (s : State) (ps : List SpiPlace) : Option Nat :=
  let sys (p : SpiPlace) : Bool := match p with | .reg a => decide (a < 0x10000) | _ => false
  if s.isFrozen Master.spi.id && !ps.all sys then some stREFUSED
  else if ps.any (s.placeBad s.spiBase) then some stBADARG
  else none

/-- A post that the port would have to hold back, or a word of a bank that is being handed over (R255): the word is not
performed, and the transaction answers WAIT. -/
def spiBlocked (s : State) (p : SpiPlace) (w : Nat) : Bool :=
  match p with
  | .reg a =>
    (decide (a = 0x50110) &&
      ((decide (natBits w 15 14 = 0) && s.wouldHold (natBits w 13 0) Master.spi.id) ||
       (decide (natBits w 15 14 = 1) && s.voiceHold (s.stagedQuad .spi 0x50100) Master.spi.id))) ||
    (decide (a = 0x70110) && natBit w 0 && storeFull s)
  | .orc off => s.on (F.ORC_OWN_PENDING (bankOf off))
  | _ => false

/-- One word of a WRITE: a register under the rules of its master, or memory. -/
def spiPut (s : State) (p : SpiPlace) (w : Nat) : State :=
  match p with
  | .reg a => s.guardWrite .spi a w (fun s => s.regWrite .spi a w)
  | .orc off =>
    if s.mirrors then s.mirror (.hostOrchard .spi (Fin.ofNat 67108864 off) (wordBytes w))
    else s.orcWrite (enabledCells off (wordBytes w))
  | .dram off =>
    let a := s.spiBase * 0x100000 + off
    if s.mirrors then s.mirror (.hostDram .spi (BitVec.ofNat 36 a) (wordBytes w))
    else s.dramWrite (enabledCells a (wordBytes w))
  | .none => s

/-- The words of a WRITE performed in order, or none where one of them meets back-pressure (R372). DEDUCED: log entry 120. -/
def spiPutAll : List (SpiPlace × Nat) → State → Option State
  | [], s => some s
  | (p, w) :: t, s => if !s.mirrors && s.spiBlocked p w then none else spiPutAll t (s.spiPut p w)

/-- The violation of a transaction, taken as REFUSED (R376). -/
def spiViolate (s : State) (k addr : Nat) : State := (s.violate Master.spi.id k 0 0 addr 0).spiRefuse stREFUSED

/-- A write transaction once its words are in: the checks of R372 and R376, then `go`. -/
def spiWriteChecked (s : State) (ps : List (SpiPlace × Nat)) (go : State → State) : State :=
  match s.spiFault (ps.map (·.1)) with
  | some st => s.spiRefuse st
  | none =>
    match ps.findSome? (fun p => (s.placeViolation .spi p.1).map (fun k => (k, placeAddr p.1))) with
    | some (k, a) => s.spiViolate k a
    | none =>
      if s.standby && !ps.all (fun p => placeLocal p.1) then s.spiRefuse stREFUSED else go s

/-- A WRITE (R371, R372). -/
def spiWrite (s : State) (a : Nat) (ws : List Nat) (early : Bool) : State :=
  let s := s.spiForget
  if early then s.raise 225
  else
    let ps := placed a ws
    s.spiWriteChecked ps (fun s =>
      match spiPutAll ps s with
      | some t => t.spiEnd stOK []
      | none => s.spiEnd stWAIT [])

/-- Back-pressure on a sequenced write: one of its words would have to be held back. -/
def seqBlocked : List (SpiPlace × Nat) → State → Bool
  | [], _ => false
  | (p, w) :: t, s => s.spiBlocked p w || seqBlocked t (s.putWord .spi s.spiBase p w)

/-- An SWRITE (R374). -/
def spiSwrite (s : State) (a n : Nat) (ws : List Nat) (early : Bool) : State :=
  let s := s.spiForget
  if early then s.raise 225
  else
    let ps := placed a ws
    let mirrored := s.mirrors && !ps.all (fun p => placeLocal p.1)
    s.spiWriteChecked ps (fun s =>
      if !mirrored && decide (s.seqKind 1 n = .bad) then (s.seqRefuse .spi).spiEnd stBADARG []
      else if !mirrored && decide (s.seqKind 1 n = .go) && seqBlocked ps s then s.spiEnd stWAIT []
      else (s.seqWrite .spi 1 n a s.spiBase ws).spiEnd stOK [])

/-- The word at a place read by the SPI port. -/
def spiGet (s : State) (p : SpiPlace) : State × Nat :=
  match p with
  | .reg a => let t := s.regRead .spi a; (t, t.readWord .spi)
  | .orc off => (s.meetOrc off 4, s.orc32 off)
  | .dram off => (s.meetDram (s.spiBase * 0x100000 + off) 4, mem32 s.dram (s.spiBase * 0x100000 + off))
  | .none => (s, 0)

/-- The words of a READ, taken in order. -/
def spiGetAll : List SpiPlace → State → State × List Nat
  | [], s => (s, [])
  | p :: t, s =>
    let (s, w) := s.spiGet p
    let (s, ws) := spiGetAll t s
    (s, w :: ws)

/-- The data of a READ on `HS_MISO`. -/
def spiData (ws : List Nat) : List Byte := ws.flatMap (fun w => leBytes w 4)

/-- A READ of `len + 1` words (R371 to R373). A repeat of one that answered WAIT returns what it held. -/
def spiRead (s : State) (a len : Nat) (ready early : Bool) : State :=
  let ps := (List.range (len + 1)).map (fun i => spiPlace (a + 4 * i))
  if early then s.spiForget.raise 225
  else
    let held := match s.host.spiHeld with
      | some (b, n, ws) => if b = a ∧ n = len then some ws else none
      | none => none
    let s := s.spiForget
    match s.spiFault ps with
    | some st => s.spiRefuse st
    | none =>
      match held with
      | some ws => s.spiEnd stOK (spiData ws)
      | none =>
        match ps.findSome? (fun p => match p with
            | .orc off => if s.admits (bankOf off) (.other Master.spi.id) then none else some (orcBase + off)
            | _ => none) with
        | some addr => s.spiViolate 3 addr
        | none =>
          if ps.any (fun p => match p with | .orc off => s.on (F.ORC_OWN_PENDING (bankOf off)) | _ => false) then
            s.spiEnd stWAIT []
          else
            let (s, ws) := spiGetAll ps s
            if ready then s.spiEnd stOK (spiData ws)
            else ({ s with host := { s.host with spiHeld := some (a, len, ws) } }).spiEnd stWAIT []

/-- A STAT: the status byte of the previous transaction, then `HIF_SW_LAST[1]` (R371). -/
def spiStat (s : State) : State :=
  { s.spiForget with host := { s.spiForget.host with
      out := BitVec.ofNat 8 (s.get I.SPI_ST) :: leBytes (s.get (F.HIF_SW_LAST_N 1)) 4 } }

/-! ### The delivery of unit events (R29, R30, R175, R368) -/

/-- The master code of a post that a unit event makes (`QN_REFUSE.MASTER`). -/
def srcUnitEvent : Nat := 0xFE

/-- A delivery made, and no longer due. -/
def delivered (s : State) (n : Nat) : State := { s with toDeliver := s.toDeliver.filter (fun e => !decide (e.1 = n)) }

/-- An event put in the steward's queue, which ungates a waiting steward (R150). -/
def toSteward (s : State) (n frc : Nat) : State :=
  let t := { s with stewardQ := s.stewardQ ++ [(n, frc)] }
  t.setCore 64 { t.core 64 with gated := false }

/-- The event word of a unit event posted to a pip (R175). -/
def eventWord (n frc : Nat) : Nat := n + 2 ^ 80 * (frc % 2 ^ 48)

/-- The route of event `n` falls back to the steward (R30). -/
def routeFallback (s : State) (n : Nat) : State := (s.set (F.SYS_EVROUTE_KIND n) 3).raise 17

/-- Event `n` posted to its pip at its level, READY at once; held where the queue is full and `hold` says so. -/
def postEvent (s : State) (n frc src : Nat) (hold : Bool) : State :=
  let p := s.get (F.SYS_EVROUTE_PIP n)
  let l := s.get (F.SYS_EVROUTE_LEVEL n)
  if hold && (s.postReason p l).isNone && s.queueFull l then
    s.setHeld (s.qn.held ++ [{ kind := .pip, src := src, pip := p, level := some l, word := eventWord n frc, core := none }])
  else s.settlePost p (eventWord n frc) l src false

/-- Event `n`, raised at `frc`, delivered by its route. On a pair a delivery to a pip is mirrored by the active chip and
discarded on the standby (R381). -/
def deliver (s : State) (n frc : Nat) : State :=
  match s.get (F.SYS_EVROUTE_KIND n) with
  | 0 => s.delivered n
  | 1 => (s.delivered n).msixPend (s.get (F.SYS_EVROUTE_VECTOR n))
  | 2 =>
    let p := s.get (F.SYS_EVROUTE_PIP n)
    let l := s.get (F.SYS_EVROUTE_LEVEL n)
    if s.standby then s.delivered n
    else if !s.isEventPip p then ((s.delivered n).toSteward n frc).routeFallback n
    else if s.mirrors then (s.delivered n).mirror (.unitEvent (Fin.ofNat 256 n) frc)
    else if (s.postReason p l).isNone && s.queueFull l then s
    else (s.delivered n).postEvent n frc srcUnitEvent false
  | _ => (s.delivered n).toSteward n frc

/-- The delivery of event `n`, if one is due (R29). -/
def unitEvent (s : State) (n : Nat) : State :=
  match s.toDeliver.find? (fun e => decide (e.1 = n)) with
  | some e => s.deliver n e.2
  | none => s

/-! ### The release of mirrored items (R382) -/

/-- The source that Quince records for a forwarded post: the twin link on a standby. -/
def forwarded (s : State) (src : Nat) : Nat := if s.standby then Master.twin.id else src

/-- A parameter or recall command. -/
def sceneCmd (s : State) (src q : Nat) : State :=
  if natBits q 79 72 = 2 then s.recallCmd src q else s.paramCmd src q

/-- A host's register write at its release. -/
def releaseWrite (s : State) (m : Master) (a w : Nat) : State :=
  if s.standby ∧ a = 0x50110 ∧ natBits w 15 14 = 0 then
    (s.postPip (natBits w 13 0) (s.stagedQuad m 0x50100) Master.twin.id none).qnStatus stOK
  else if s.standby ∧ a = 0x50110 ∧ natBits w 15 14 = 1 then
    (s.postVoice (s.stagedQuad m 0x50100) Master.twin.id none).qnStatus stOK
  else s.regWrite m a w

/-- One item takes effect at its release tick. What R397 does not admit from the link is a violation of the link.
DEDUCED: log entry 124. -/
def releaseItem (s : State) (i : MirrorItem) : State :=
  match i with
  | .write m a w =>
    if s.standby && regwin .twin a.toNat then s.violate Master.twin.id 8 0 0 a.toNat 0
    else s.releaseWrite m a.toNat w.toNat
  | .seqWrite h n a base ws =>
    let m := portMaster h
    s.seqApply m h n.toNat (fun s => s.seqWords' m base.toNat (placed a.toNat (ws.map (·.toNat))))
  | .hostOrchard m off bs => s.hostOrcWrite m off bs
  | .hostDram _ a bs => if s.dramSize < a.toNat + bs.length then s else s.dramWrite (enabledCells a.toNat bs)
  | .post m p w => s.postPip p w.toNat (s.forwarded m.id) none
  | .voice m w => s.postVoice w.toNat (s.forwarded m.id) none
  | .scene m w => s.sceneCmd m.id w.toNat
  | .uart n p w => s.postPip p w.toNat (s.forwarded (0xF0 + n)) none
  | .unitEvent n frc => s.postEvent n frc srcUnitEvent true
  | .currant w => s.paramCmd 0xE0 w.toNat

/-- A host's write to a bank of Orchard that is being handed over waits there (R255). -/
def itemWaits (s : State) : MirrorItem → Bool
  | .hostOrchard _ off bs => (enabledCells off bs).any (fun c => s.on (F.ORC_OWN_PENDING (bankOf c.1)))
  | _ => false

/-- The items whose release tick has come, in order of acceptance, up to one that waits. -/
def dueItems (s : State) : List MItem :=
  (s.twin.items.filter (fun i => decide (i.tick ≤ s.frc))).takeWhile (fun i => !s.itemWaits i.item)

/-- The standby has not reached the tick from which it applies items (R388, step 5). -/
def beforeT (s : State) (i : MItem) : Bool :=
  s.standby && decide (s.sync = syncRESYNC) && (!s.on I.TWN_CPD || decide (i.tick < s.get I.TWN_T))

/-- The release of every due item. A frozen link stops applying them (R399); an item that the standby has not acknowledged
costs the active chip's partner view its SYNC. -/
def releaseItems (s : State) : State :=
  if s.standby && s.isFrozen Master.twin.id then s.setSync syncNONE
  else
    let due := s.dueItems
    let t := { s with twin := { s.twin with items := s.twin.items.filter (fun i => !due.contains i) } }
    due.foldl (fun s i =>
      if s.standby && s.isFrozen Master.twin.id then s.setSync syncNONE
      else if s.beforeT i then s
      else
        let s := if decide (s.role = roleACTIVE) && !i.acked then s.setSync syncNONE else s
        s.releaseItem i.item) t

end State

/-! ### The commands -/

def execRegisterWrite (m : Master) (addr : BitVec 24) (w : Word) (s : State) : Out :=
  .next (s.guardWrite m addr.toNat w.toNat (fun s => s.regWrite m addr.toNat w.toNat))
/-- A write of a word that is staged until its partner is written (R505). -/
def execStageWordWrite (m : Master) (addr : BitVec 24) (w : Word) (s : State) : Out :=
  .next (s.guardWrite m addr.toNat w.toNat (fun s => s.regWrite m addr.toNat w.toNat))
/-- A read of a register with RC fields (R13). -/
def execReadClear (m : Master) (addr : BitVec 24) (s : State) : Out :=
  .next (s.guardRead m addr.toNat (fun s => s.regRead m addr.toNat))
/-- A read of a latching word (R503). -/
def execLatchingRead (m : Master) (addr : BitVec 24) (s : State) : Out :=
  .next (s.guardRead m addr.toNat (fun s => s.regRead m addr.toNat))
/-- The read of `STW_SWIQ[3]` (R139). -/
def execSwiqPop (m : Master) (s : State) : Out := .next (s.guardRead m 0x14010C (fun s => s.swiqTake m))
def execStewardRestart (s : State) : Out := .next s.stewardRestart

/-- A BAR0 access that is not one aligned DWORD is refused (R366). -/
def execPcieRegisterAccess (write : Bool) (addr : BitVec 24) (w : Word) (aligned : Bool) (s : State) : Out :=
  .next (if aligned && decide (addr.toNat % 4 = 0) then s.pcieReg write addr.toNat w.toNat else s.pcieRefuse write)
def execPcieOrchardAccess (write : Bool) (off : Fin 67108864) (bytes : List (Option Byte)) (s : State) : Out :=
  .next (s.pcieOrdered { kind := if write then .orcWrite else .orcRead, addr := off, w := 0, bytes := bytes }
    (fun s => s.pcieOrc write off bytes))
def execPcieDramAccess (write : Bool) (off : Fin 268435456) (bytes : List (Option Byte)) (s : State) : Out :=
  .next (s.pcieOrdered { kind := if write then .dramWrite else .dramRead, addr := off, w := 0, bytes := bytes }
    (fun s => s.pcieDram write off bytes))
def execSequencedWriteGo (m : Master) (n : Word) (s : State) : Out :=
  .next (s.guardWrite m 0x100038 n.toNat (fun s => s.swGo m n.toNat))

def execSpiWrite (addr : Word) (ws : List Word) (early : Bool) (s : State) : Out :=
  .next (s.spiWrite addr.toNat (ws.map (·.toNat)) early)
def execSpiRead (addr : Word) (len : Fin 256) (ready early : Bool) (s : State) : Out :=
  .next (s.spiRead addr.toNat len ready early)
def execSpiSwrite (addr : Word) (seq : Word) (ws : List Word) (early : Bool) (s : State) : Out :=
  .next (s.spiSwrite addr.toNat seq.toNat (ws.map (·.toNat)) early)
def execSpiStat (s : State) : Out := .next s.spiStat
def execSpiBadCommand (_cmd : Byte) (s : State) : Out := .next (s.spiForget.spiRefuse stBADARG)

def execUnitEventDeliver (n : Fin 256) (s : State) : Out := .next (s.unitEvent n)
def execMirrorRelease (s : State) : Out := .next s.releaseItems
/-- A held post accepted, and the host transactions behind it (R164, R369). -/
def execHeldPostAccept (s : State) : Out := .next s.acceptHeldPost.pcieDrain
/-- A handover ends, and the host transactions that waited for it go on (R255, R369). -/
def execHandoverDrainComplete (n : Fin 64) (s : State) : Out := .next (s.handoverDone n).pcieDrain
/-- Held parameter commands applied, and the host transactions behind a full store (R232, R234). -/
def execHeldCommandApply (s : State) : Out := .next s.applyHeld.pcieDrain

end Sys2Proof.Machine
end

