-- ==== Sys2Proof/Machine/CoreIssue.lean ====
section
/-! DEFINITION. The issue of an instruction by a core: whether it may issue, its fetch (R74), the accesses of its move or of
its own (R72, R76, R82, R107, R108, R123), and what it leaves behind (R77 to R79, R127, R142). -/

namespace Sys2Proof.Machine

/-- What an instruction does beyond going on: its results, post-modifies, an Orchard load, DMEM bytes and Orchard bytes
stored, a register load or store of the steward, the bank after it, the rest of the machine after it, and the words of DMEM it
reads that hold an error (R260). -/
structure Eff where
  wr : List Wr
  post : List (Nat × Nat)
  load : Option (Nat × List (Nat × Nat))
  dm : List Host.Cell
  orc : Option (List Host.Cell)
  regLoad : Option (Nat × List Nat)
  regStore : Option (Nat × Nat)
  bank : Bank → Bank
  sys : State → State
  flawed : List Nat

def Eff.none : Eff :=
  { wr := [], post := [], load := Option.none, dm := [], orc := Option.none, regLoad := Option.none, regStore := Option.none,
    bank := id, sys := id, flawed := [] }

/-- What becomes of an instruction at its issue slot: a violation of a kind at an address, a wait, or its effect. -/
inductive Act where
  | viol (kind addr : Nat)
  | wait
  | go (e : Eff)

/-- An effect carried on. -/
def Act.then (a : Act) (f : Eff → Act) : Act :=
  match a with
  | .go e => f e
  | .viol k x => .viol k x
  | .wait => .wait

def Act.wr (a : Act) (w : List Wr) : Act := a.then (fun e => .go { e with wr := e.wr ++ w })
def Act.bank (a : Act) (f : Bank → Bank) : Act := a.then (fun e => .go { e with bank := f })
/-- An effect whose reads of DMEM meet the errors of the words in `l`. -/
def Act.meets (a : Act) (l : List Nat) : Act := a.then (fun e => .go { e with flawed := e.flawed ++ l })
def Act.sys (a : Act) (f : State → State) : Act := a.then (fun e => .go { e with sys := f })

/-- An instruction whose only effect is its results. -/
def results (w : List Wr) : Act := Act.wr (.go Eff.none) w

/-! ### Where an access falls (R72, R149) -/

inductive Site where
  | loc (a : Nat) | orc (off : Nat) | regs (a : Nat) | rind (off : Nat) | bad (kind : Nat)
deriving DecidableEq, Repr

/-- The size of a core's DMEM, or of the steward's private SRAM. -/
def dmemSize (n : Nat) : Nat := if n = 64 then 0x80000 else 0x40000
/-- The first byte of the urgent window (R76). -/
def urgWindow : Nat := 0x3C000

namespace Seen

/-- The instruction's own address in the core's map. -/
def pcAt (x : Seen) : Nat := pcAddr x.n x.b.pc

/-- An illegal instruction or sequence (R147). -/
def illop (x : Seen) : Act := .viol vkILLOP x.pcAt

/-- The region of an access (R72, R76, R149, R253). An access through a circular pointer is judged by this map alone, in
whichever region it falls. DESIGN CHOICE: log entry 146. -/
def site (x : Seen) (store : Bool) (a : Nat) : Site :=
  if a < dmemSize x.n then
    if store && x.c.shadow && decide (a < urgWindow) then .bad vkURGWIN else .loc a
  else if State.inOrchard a 1 then
    if x.s.admits (bankOf (a - orcBase)) (accessorOf x.n) then .orc (a - orcBase) else .bad vkOWNER
  else if x.stw && decide (0x20000000 ≤ a) && decide (a < 0x21000000) then .regs (a - 0x20000000)
  else if x.stw && !store && decide (0x08000000 ≤ a) && decide (a < 0x08020000) then .rind (a - 0x08000000)
  else .bad vkMAP

/-- The address an access is logged with: that of its aligned word (R71, R148). DEDUCED: log entry 94. -/
def wordAt (x : Seen) (a : Nat) : Nat := if x.stw then a / 4 * 4 else a / 16 * 16

/-- The memory lane that address bits [3:2] pick (R71). -/
def mlane (a : Nat) : Nat := a / 4 % 4

/-- Where a vector load puts the lanes of its word: lane for lane, or the word at the address in the steward's one lane. -/
def vecDst (x : Seen) (a r : Nat) : List (Nat × Nat) :=
  if x.stw then [(ixV r 0, mlane a)] else [0, 1, 2, 3].map (fun l => (ixV r l, l))

/-- The words a vector store writes, by memory lane. -/
def vecSrc (x : Seen) (a r : Nat) : List (Nat × Nat) :=
  if x.stw then [(mlane a, x.v r 0)] else [0, 1, 2, 3].map (fun l => (l, x.v r l))

/-- The register an index names holds of a loaded word what it can (R83, R148). -/
def loadMask (stw : Bool) (idx v : Nat) : Nat :=
  if 192 ≤ idx ∧ idx < 208 then v &&& (if stw then 0x00FFFFFC else 0x00FFFFF0) else v

/-- The word of DMEM at `a`, if a read of it finds an error. -/
def flawedAt (x : Seen) (a : Nat) : List Nat :=
  if flawsIn x.c.flaws 4 (a / 16 * 16) 16 = [] then [] else [a / 16 * 16]

/-- A load of the word at `a`, its memory lanes going to registers; the other register writes in `also` become visible with
it (R77, R125). A register access of the steward waits for its Orchard stores (R151). DEDUCED: log entry 99. -/
def loads (x : Seen) (a : Nat) (dst also : List (Nat × Nat)) (e : Eff) : Act :=
  let loc (lat w : Nat) (bad : List Nat) : Act := .go { e with flawed := e.flawed ++ bad, wr := e.wr ++
    (also.map (fun d => ⟨lat, d.1, d.2⟩) ++ dst.map (fun d => ⟨lat, d.1, loadMask x.stw d.1 (lane w d.2)⟩)) }
  match x.site false a with
  | .loc a => loc 3 (leNat (x.b.loadBytes x.c.dmem (a / 16 * 16) 16)) (x.flawedAt a)
  | .rind off => loc 3 (leNat ((List.range 16).map (fun k => Config.rind (off / 16 * 16 + k)))) []
  | .orc off => .go { e with wr := e.wr ++ also.map (fun d => ⟨1, d.1, d.2⟩), load := some (off / 16 * 16, dst) }
  | .regs a =>
    if x.c.stores ≠ [] then .wait
    else .go { e with wr := e.wr ++ also.map (fun d => ⟨1, d.1, d.2⟩), regLoad := some (a / 4 * 4, dst.map (·.1)) }
  | .bad k => .viol k (x.wordAt a)

/-- A store of words at the memory lanes of the word at `a` (R142: the Orchard store buffer holds 8; R151: a register
access of the steward waits for its Orchard stores). -/
def stores (x : Seen) (a : Nat) (ws : List (Nat × Nat)) (e : Eff) : Act :=
  let cells (base : Nat) : List Host.Cell :=
    ws.flatMap (fun w => (leBytes w.2 4).zipIdx.map (fun b => (base / 16 * 16 + 4 * w.1 + b.2, b.1)))
  match x.site true a with
  | .loc a => .go { e with dm := cells a }
  | .orc off => if 8 ≤ x.c.stores.length then .wait else .go { e with orc := some (cells off) }
  | .regs a => if x.c.stores ≠ [] then .wait else .go { e with regStore := ws.head?.map (fun w => (a / 4 * 4, w.2)) }
  | .rind _ => .viol vkMAP (x.wordAt a)
  | .bad k => .viol k (x.wordAt a)

/-- A pointer's post-modify. -/
def modifies (x : Seen) (i j : Nat) (c : Bool) (a : Act) : Act :=
  a.then (fun e => .go { e with post := e.post ++ [(ixReg 0 i, x.postmod i j c)] })

/-! ### The fields of MOVE (R107, R108) -/

def xi (x : Seen) : Nat := x.mvf 24 21
def mj (x : Seen) : Nat := x.mvf 20 17
def circF (x : Seen) : Bool := x.mvb 16
def vr (x : Seen) : Nat := x.mvf 29 25
/-- The address of a load or store move, and of LD, ST and LDS (R82, R123). -/
def own (x : Seen) : Nat := x.addr x.xi x.circF (sint 16 (x.mvf 15 0))

/-- The two addresses of a tap move. -/
def tapLoad (x : Seen) : Nat := x.addr x.xi x.circF 0
def tapStore (x : Seen) : Nat := if x.mvf 15 12 = x.xi then x.tapLoad else x.addr (x.mvf 15 12) (x.mvb 7) 0

/-- The parallel move (R107, R108). -/
def move (x : Seen) : Act :=
  match x.mvf 31 30 with
  | 0 => .go Eff.none
  | 1 => x.modifies x.xi x.mj x.circF (x.loads x.own (x.vecDst x.own x.vr) [] Eff.none)
  | 2 => x.modifies x.xi x.mj x.circF (x.stores x.own (x.vecSrc x.own x.vr) Eff.none)
  | _ =>
    let a := (x.loads x.tapLoad (x.vecDst x.tapLoad x.vr) [] Eff.none).then
      (x.stores x.tapStore (x.vecSrc x.tapStore (x.mvf 6 2)))
    let a := x.modifies x.xi x.mj x.circF a
    if x.mvf 15 12 = x.xi then a else x.modifies (x.mvf 15 12) (x.mvf 11 8) (x.mvb 7) a

/-- A compute instruction: its move and its results (R109). -/
def compute (x : Seen) (w : List Wr) : Act := x.move.wr w

/-- A compute instruction that the steward lacks (R149). -/
def vectorOnly (x : Seen) (w : List Wr) : Act := if x.stw then x.illop else x.compute w

end Seen

/-! ### The issue -/

namespace State

/-- The core is at a boundary where its next instruction may issue: it runs a pip, or is the steward, and neither waits for
data or a post nor is frozen, halted, gated or without clock (R78, R98, R100, R139, R150, R482). -/
def canIssue (s : State) (n : Nat) : Bool :=
  let c := s.core n
  let b := activeBank c
  let runs := if n = 64 then !s.on I.PW_HOLD else match b.run with | some r => r.landed && !r.qdone | none => false
  runs && decide (s.get F.SYS_PWR_STATE ≠ 3) && b.load.isNone && !c.heldPost && !c.frozen && !c.halted && !c.gated

/-- The fetch at the PC is a violation, if it is one (R74, R149). -/
def fetchBad (s : State) (n : Nat) : Option Nat :=
  let c := s.core n
  let pc := (activeBank c).pc
  if n = 64 then
    if pc < 0x80000 ∨ (0x08000000 ≤ pc ∧ pc < 0x08020000) then none else some vkMAP
  else if (frame c (pc / 0x4000 % 4)).valid && (decide (pc / 0x4000 % 4 = 3) == c.shadow) then none
  else some vkFRAME

/-- The instruction word at the PC, little-endian in IMEM, or in private SRAM or Rind on the steward (R103, R148). -/
def fetchWord (s : State) (n : Nat) : BitVec 64 :=
  let c := s.core n
  let pc := (activeBank c).pc
  BitVec.ofNat 64 (leNat (
    if n ≠ 64 then memBytes c.imem pc 8
    else if pc < 0x80000 then memBytes c.dmem pc 8
    else (List.range 8).map (fun k => Config.rind (pc - 0x08000000 + k))))

/-- The instruction that a core would issue next, from the word at its PC; the command that issues one carries it.
DESIGN CHOICE: log entry 88. -/
def nextInstr (s : State) (c : CoreSel) : Instr := coreInstr c (s.fetchWord (CoreSel.ix c))

/-- What the instruction about to issue sees: its bank with every result due. -/
def seen (s : State) (n : Nat) (i : CoreWord) : Seen :=
  let c := withActive (s.core n) (activeBank (s.core n)).settle
  { s := s, n := n, c := c, b := activeBank c, i := i }

/-- The core after an instruction that takes effect; what it asks of a bank that is being handed over waits (R255). -/
def coreAfter (x : Seen) (e : Eff) : Core :=
  let n := x.b.n
  let mods := e.post.map (fun p => Pend.mk (n + 1) p.1 p.2 true)
  let wrs := e.wr.map (fun w => Pend.mk (n + w.lat) w.idx w.val false)
  let olds := e.dm.map (fun c => Ovl.mk (n + 2) c.1 (memGet x.c.dmem c.1))
  let held (off : Nat) : Bool := x.s.on (F.ORC_OWN_PENDING (bankOf off))
  let load := e.load.map (fun l => LoadWait.mk l.1 (x.c.storesDone + x.c.stores.length) l.2 (held l.1))
  let b := { x.b with pend := x.b.pend ++ mods ++ wrs, ovl := x.b.ovl ++ olds, load := load, n := n + 1 }
  let c := withActive x.c (e.bank (b.advance (pcMod x.n)))
  { c with dmem := memCells c.dmem e.dm, flaws := mend c.flaws 4 e.dm
           stores := c.stores ++ (match e.orc with
             | some cs => [{ bytes := cs, held := cs.any (fun b => held b.1) }]
             | none => [])
           stall := false, lastPc := x.b.pc, lastBank := c.shadow }

/-- A steward's register load: the word read, visible to the next instruction (R151). -/
def regLoad (s : State) (n : Nat) (l : Nat × List Nat) : State :=
  let t := s.guardRead .steward l.1 (fun s => s.regRead .steward l.1)
  let b := (t.core n).p
  let w := t.readWord .steward
  let b := { b with pend := b.pend ++ l.2.map (fun d => Pend.mk b.n d (Seen.loadMask true d w) false) }
  t.setCore n { t.core n with p := b }

/-- The machine after an instruction that takes effect; an error found in DMEM is met last (R260, R262). -/
def commit (s : State) (x : Seen) (e : Eff) : State :=
  let s := s.setCore x.n (coreAfter x e)
  let s := match e.regStore with
    | some (a, w) => s.guardWrite .steward a w (fun s => s.regWrite .steward a w)
    | none => s
  let s := match e.regLoad with
    | some l => s.regLoad x.n l
    | none => s
  e.flawed.foldl (fun s a => s.meetDmem x.n a 16) (e.sys s)

/-- An instruction issued by a core: nothing where the core is not at an issue slot. DESIGN CHOICE: log entry 88. -/
def issue (s : State) (n : Nat) (i : CoreWord) (f : Seen → Act) : State :=
  if s.canIssue n = false then s
  else match s.fetchBad n with
    | some k => s.coreViolation n k (pcAddr n (activeBank (s.core n)).pc) none
    | none =>
      let x := s.seen n i
      match f x with
      | .viol k a => s.coreViolation n k a none
      | .wait => s.setCore n { s.core n with stall := true }
      | .go e => s.commit x e

end State

end Sys2Proof.Machine
end

