-- ==== Sys2Proof/Machine/CoreAlu.lean ====
section
/-! DEFINITION. NOP and the vector ALU, OP 0x00 to 0x0F (R104, R110 to R112). -/

namespace Sys2Proof.Machine

namespace Seen

def opNop (x : Seen) : Act := x.compute []
def opVadd (x : Seen) : Act := x.compute (x.fitVec 2 (fun l => x.sva l + x.sbl l))
def opVsub (x : Seen) : Act := x.compute (x.fitVec 2 (fun l => x.sva l - x.sbl l))
/-- The product, at the S5.27 scale or as I32. -/
def opVmul (x : Seen) : Act :=
  x.compute (x.fitVec 2 (fun l => if x.subb 0 then x.sva l * x.sbl l else rhu (x.sva l * x.sbl l) 27))
/-- The smaller and the greater of two lanes, unsigned with FLG. -/
def opVmin (x : Seen) : Act :=
  x.compute (x.vec 2 x.i.vd (fun l =>
    if x.i.flg then min (x.va l) (x.bl l) else if x.sva l ≤ x.sbl l then x.va l else x.bl l))
def opVmax (x : Seen) : Act :=
  x.compute (x.vec 2 x.i.vd (fun l =>
    if x.i.flg then max (x.va l) (x.bl l) else if x.sbl l ≤ x.sva l then x.va l else x.bl l))
def opVabs (x : Seen) : Act := x.compute (x.fitVec 2 (fun l => (x.sva l).natAbs))
def opVneg (x : Seen) : Act := x.compute (x.fitVec 2 (fun l => -x.sva l))
/-- The shift count of lane `l`. -/
def shiftBy (x : Seen) (l : Nat) : Nat := if x.subb 5 then natBits (x.vb l) 4 0 else x.subf 4 0
def opVshl (x : Seen) : Act := x.compute (x.fitVec 2 (fun l => x.sva l * 2 ^ x.shiftBy l))
/-- Arithmetic with rounding, or logical with FLG. -/
def opVshr (x : Seen) : Act :=
  x.compute (x.vec 2 x.i.vd (fun l =>
    if x.i.flg then x.va l / 2 ^ x.shiftBy l else wrap 32 (rhu (x.sva l) (x.shiftBy l))))
def opVand (x : Seen) : Act :=
  x.compute (x.vec 2 x.i.vd (fun l => x.va l &&& (if x.i.flg then 2 ^ 32 - 1 - x.bl l else x.bl l)))
def opVor (x : Seen) : Act := x.compute (x.vec 2 x.i.vd (fun l => x.va l ||| x.bl l))
def opVxor (x : Seen) : Act := x.compute (x.vec 2 x.i.vd (fun l => x.va l ^^^ x.bl l))
def opVcmp (x : Seen) : Act := x.compute x.cmpVec
def opVsel (x : Seen) : Act := x.compute (x.vec 2 x.i.vd (fun l => if x.LF l then x.va l else x.vb l))
/-- Lanes of VA chosen by s = {FLG, SUB}. -/
def opVperm (x : Seen) : Act :=
  x.vectorOnly (x.vec 2 x.i.vd (fun l =>
    let k := 128 * b2n x.i.flg + x.sub
    x.va (natBits k (2 * l + 1) (2 * l))))

end Seen

/-! ### The commands -/

def execNop (c : CoreSel) (i : CoreWord) (s : State) : Out := .next (s.issue (CoreSel.ix c) i Seen.opNop)
def execVadd (c : CoreSel) (i : CoreWord) (s : State) : Out := .next (s.issue (CoreSel.ix c) i Seen.opVadd)
def execVsub (c : CoreSel) (i : CoreWord) (s : State) : Out := .next (s.issue (CoreSel.ix c) i Seen.opVsub)
def execVmul (c : CoreSel) (i : CoreWord) (s : State) : Out := .next (s.issue (CoreSel.ix c) i Seen.opVmul)
def execVmin (c : CoreSel) (i : CoreWord) (s : State) : Out := .next (s.issue (CoreSel.ix c) i Seen.opVmin)
def execVmax (c : CoreSel) (i : CoreWord) (s : State) : Out := .next (s.issue (CoreSel.ix c) i Seen.opVmax)
def execVabs (c : CoreSel) (i : CoreWord) (s : State) : Out := .next (s.issue (CoreSel.ix c) i Seen.opVabs)
def execVneg (c : CoreSel) (i : CoreWord) (s : State) : Out := .next (s.issue (CoreSel.ix c) i Seen.opVneg)
def execVshl (c : CoreSel) (i : CoreWord) (s : State) : Out := .next (s.issue (CoreSel.ix c) i Seen.opVshl)
def execVshr (c : CoreSel) (i : CoreWord) (s : State) : Out := .next (s.issue (CoreSel.ix c) i Seen.opVshr)
def execVand (c : CoreSel) (i : CoreWord) (s : State) : Out := .next (s.issue (CoreSel.ix c) i Seen.opVand)
def execVor (c : CoreSel) (i : CoreWord) (s : State) : Out := .next (s.issue (CoreSel.ix c) i Seen.opVor)
def execVxor (c : CoreSel) (i : CoreWord) (s : State) : Out := .next (s.issue (CoreSel.ix c) i Seen.opVxor)
def execVcmp (c : CoreSel) (i : CoreWord) (s : State) : Out := .next (s.issue (CoreSel.ix c) i Seen.opVcmp)
def execVsel (c : CoreSel) (i : CoreWord) (s : State) : Out := .next (s.issue (CoreSel.ix c) i Seen.opVsel)
def execVperm (c : CoreSel) (i : CoreWord) (s : State) : Out := .next (s.issue (CoreSel.ix c) i Seen.opVperm)

end Sys2Proof.Machine
end

