-- ==== Sys2Proof/Machine/CoreFlow.lean ====
section
/-! DEFINITION. Flow of control, OP 0x28 to 0x2D (R87 to R90, R127 to R131). -/

namespace Sys2Proof.Machine

namespace Seen

/-- The instruction is the last or the last but one of an active level's body (R89). -/
def bodyEnd (x : Seen) : Bool :=
  (List.range x.b.lv).any (fun k =>
    let le := x.b.rd (ixLE k)
    decide (x.b.pc = le) || (decide (x.b.pc + 8 = le) && decide (x.b.rd (ixLS k) ≤ x.b.pc)))

/-- What R147 and R89 forbid of any branch-class instruction. -/
def flowBad (x : Seen) : Option Act :=
  if x.b.slots ≠ 0 then some x.illop
  else if x.bodyEnd then some (.viol vkLOOP x.pcAt)
  else none

/-- A relative target, and the target in a pointer; bits [2:0] of any target are ignored (R127, R148). -/
def target (x : Seen) (t : Int) : Nat := (t % (pcMod x.n : Int)).toNat / 8 * 8
def relTarget (x : Seen) : Nat := x.target ((x.b.pc : Int) + 8 * sint 16 (x.mvf 15 0))
def ptrTarget (x : Seen) : Nat := x.target (x.X (x.subf 3 0))

/-- Two delay slots follow; then the target, if the instruction is taken. -/
def slotsTo (t : Option Nat) (closes : Bool) (b : Bank) : Bank := { b with slots := 2, target := t, closes := closes }

/-- A branch-class instruction without a violation of its own. -/
def jump (x : Seen) (t : Option Nat) (closes : Bool) (w : List Wr) : Act :=
  match x.flowBad with
  | some v => v
  | none => (results w).bank (slotsTo t closes)

def opBr (x : Seen) : Act := x.jump (some (if x.i.flg then x.ptrTarget else x.relTarget)) true []
/-- Condition kind 7 is illegal. -/
def opBrc (x : Seen) : Act :=
  if x.subf 6 4 = 7 then x.illop
  else x.jump (if x.cond != x.i.flg then some x.relTarget else none) true []
/-- LR is visible to instructions issued from P + 24. -/
def opCall (x : Seen) : Act :=
  x.jump (some (if x.i.flg then x.ptrTarget else x.relTarget)) false (x.regWr 3 4 0 ((x.b.pc + 24) % pcMod x.n))
def opRet (x : Seen) : Act :=
  x.jump (some (if x.i.flg then x.ptrTarget else x.target (x.reg 4 0))) false []

/-- The end of the body that a LOOP opens. -/
def loopEnd (x : Seen) : Nat := (x.b.pc + 8 + 8 * x.mvf 10 0) % pcMod x.n
def loopStart (x : Seen) : Nat := (x.b.pc + 8) % pcMod x.n

/-- What R89, R131 and R147 forbid of a LOOP. -/
def loopBad (x : Seen) : Option Act :=
  match x.flowBad with
  | some v => some v
  | none =>
    if 2 ≤ x.b.lv ∨ (x.b.lv = 1 ∧ x.b.rd (ixLE 0) < x.loopEnd) then some (.viol vkLOOP x.pcAt) else none

/-- A level opened, or its body skipped with a count of 0 (R88). -/
def openLoop (x : Seen) (count : Nat) (b : Bank) : Bank :=
  if count = 0 then { b with pc := (x.loopEnd + 8) % pcMod x.n }
  else { ((b.put (ixLC b.lv) count).put (ixLS b.lv) x.loopStart).put (ixLE b.lv) x.loopEnd with lv := b.lv + 1 }

def loopOf (x : Seen) (count : Nat) : Act :=
  match x.loopBad with
  | some v => v
  | none => (results []).bank (x.openLoop count)

def opLoop (x : Seen) : Act := x.loopOf (x.mvf 31 16)
def opLoopv (x : Seen) : Act := x.loopOf (x.X (x.subf 3 0))

end Seen

/-! ### The commands -/

def execBr (c : CoreSel) (i : CoreWord) (s : State) : Out := .next (s.issue (CoreSel.ix c) i Seen.opBr)
def execBrc (c : CoreSel) (i : CoreWord) (s : State) : Out := .next (s.issue (CoreSel.ix c) i Seen.opBrc)
def execCall (c : CoreSel) (i : CoreWord) (s : State) : Out := .next (s.issue (CoreSel.ix c) i Seen.opCall)
def execRet (c : CoreSel) (i : CoreWord) (s : State) : Out := .next (s.issue (CoreSel.ix c) i Seen.opRet)
def execLoop (c : CoreSel) (i : CoreWord) (s : State) : Out := .next (s.issue (CoreSel.ix c) i Seen.opLoop)
def execLoopv (c : CoreSel) (i : CoreWord) (s : State) : Out := .next (s.issue (CoreSel.ix c) i Seen.opLoopv)

end Sys2Proof.Machine
end

