-- ==== Sys2Proof/Machine/CoreSys.lean ====
section
/-! DEFINITION. System instructions, OP 0x30, 0x31 and 0x34 to 0x37, reserved and illegal instructions (R132 to R134, R138
to R141, R147 to R150). -/

namespace Sys2Proof.Machine

namespace State

/-- A core's post of kind `k`: 0 a pip, 1 a voice word, 2 a scene command (R132). DEDUCED: log entry 17. -/
def corePost (s : State) (n k p w : Nat) : State :=
  let src := s.masterOf n
  match k with
  | 0 => s.postPip p w src (some n)
  | 1 => s.postVoice w src (some n)
  | _ => s.sceneCmd src w

/-- The core stalls while its post is held back (R132, R164). -/
def stallOnHeld (s : State) (n : Nat) : State :=
  if s.qn.held.any (fun h => decide (h.core = some n)) then s.setCore n { s.core n with heldPost := true } else s

/-- The running pip of a core changed. -/
def onRun (s : State) (n : Nat) (f : PipRun → PipRun) : State :=
  let c := s.core n
  let b := activeBank c
  s.setCore n (withActive c { b with run := b.run.map f })

/-- A post issued: counted in the run, and suppressed while a re-run repeats posts already made (R99). -/
def runPost (s : State) (n k p w : Nat) : State :=
  let skip := match (activeBank (s.core n)).run with | some r => r.skip | none => 0
  let s := s.onRun n (fun r => { r with posts := r.posts + 1, skip := r.skip - 1 })
  if skip = 0 then (s.corePost n k p w).stallOnHeld n else s

end State

namespace Seen

/-- The word that a post carries: VA at issue. -/
def postWord (x : Seen) : Nat := quad (x.va 0) (x.va 1) (x.va 2) (x.va 3)

/-- The posts of this run that are suppressed. -/
def skips (x : Seen) : Nat := match x.b.run with | some r => r.skip | none => 0

/-- QPOST of kind `k`; kind 3 is illegal (R132, R147), and a scene command waits for room (R234).
DESIGN CHOICE: log entry 102. -/
def qpost (k : Nat) (x : Seen) : Act :=
  if x.subf 1 0 = 3 then x.illop
  else if k = 2 ∧ x.skips = 0 ∧ x.s.storeFull then .wait
  else x.move.sys (fun s => s.runPost x.n k (x.X (x.subf 5 2) % 2 ^ 14) x.postWord)
def opQpostPip (x : Seen) : Act := x.qpost 0
def opQpostVoice (x : Seen) : Act := x.qpost 1
def opQpostScene (x : Seen) : Act := x.qpost 2

/-- QDONE ends the pip's issue and closes its loop levels (R98, R133). -/
def opQdone (x : Seen) : Act :=
  if x.stw then x.illop
  else x.move.bank (fun b =>
    { b with run := b.run.map (fun r => { r with qdone := true }), lv := 0, slots := 0, target := none, closes := false })

/-- VMRPT: the last report of each kind is kept for the pip's QDONE; kinds 2 and 3 are illegal (R134, R149). -/
def report (x : Seen) (f : PipRun → PipRun) : Act :=
  if x.stw || decide (2 ≤ x.subf 1 0) then x.illop
  else x.move.bank (fun b => { b with run := b.run.map f })
def opVmrptLevel (x : Seen) : Act := x.report (fun r => { r with level := some (x.va 0) })
def opVmrptEnded (x : Seen) : Act := x.report (fun r => { r with ended := true })

/-- Descriptors outstanding in channel `d` of the active bank. -/
def outstanding (x : Seen) (d : Nat) : Nat :=
  (x.c.dma.filter (fun e => decide (e.ch = (if x.c.shadow then 2 + d else d)))).length

/-- FENCE waits for the core's Orchard stores, and with SUB[0] for the bank's DMA (R138). -/
def opFence (x : Seen) : Act :=
  if x.c.stores ≠ [] ∨ (x.subb 0 ∧ (x.outstanding 0 ≠ 0 ∨ x.outstanding 1 ≠ 0)) then .wait else x.move

/-- An entry for the steward's SWI queue (R139). -/
def swiEntry (x : Seen) : SwiEntry :=
  { code := x.imm, who := 2 ^ 16 * State.runPip x.c + 2 ^ 15 * b2n x.c.shadow + x.n, frc := x.s.frc, pc := x.b.pc }

/-- The steward's wait: its clock is gated until its event queue holds an event (R150). DEDUCED: log entry 105. -/
def opStewardWait (x : Seen) : Act :=
  if !x.i.flg then x.illop
  else (results []).sys (fun s =>
    if s.stewardQ = [] then s.setCore x.n { s.core x.n with gated := true } else s)

/-- SWI: an entry queued with event 248; with FLG the core then stops (R139). DEDUCED: log entry 104. -/
def opSwi (x : Seen) : Act :=
  if x.stw then x.opStewardWait
  else if 16 ≤ x.s.swiq.length then .wait
  else (results []).sys (fun s =>
    let t := ({ s with swiq := s.swiq ++ [x.swiEntry] }).notify 248 (s.evPending 248)
    if x.i.flg then
      (t.setCore x.n { t.core x.n with halted := true, swiStop := true }).set (F.EC_CTRL_HALT x.n) 1
    else t)

/-! ### RDSYS (R140, R141) -/

/-- The four lanes of a selector; 5 to 15 read 0. -/
def rdsys (x : Seen) (f : Nat → Nat) : Act :=
  x.compute (x.vec 2 x.i.vd (fun l => if 5 ≤ x.subf 3 0 then 0 else f l))

def ofFour (a b c d l : Nat) : Nat := match l with | 0 => a | 1 => b | 2 => c | _ => d

def opRdsysTime (x : Seen) : Act :=
  x.rdsys (ofFour x.s.frc (x.s.frc / 2 ^ 32) x.blockFrom (x.blockFrom / 2 ^ 32))
def opRdsysIdent (x : Seen) : Act :=
  x.rdsys (ofFour (if x.stw then 0x50 else x.n) (State.runPip x.c) (b2n x.c.shadow) (x.blockFrom / x.s.blockLen))

/-- SV as a clear at issue leaves it: a clamp that becomes visible at this instruction sets it again (R141). -/
def svAfterClear (x : Seen) : Nat :=
  let b := State.activeBank (x.s.core x.n)
  b2n (b.pend.any (fun p => decide (p.due = b.n) && decide (p.idx = ixSV)))

def opRdsysState (x : Seen) : Act :=
  (x.rdsys (ofFour x.b.csr (x.reg 4 0) x.b.pc 0)).bank (fun b =>
    if x.i.flg ∧ x.subf 3 0 < 5 then b.put ixSV x.svAfterClear else b)
def opRdsysRate (x : Seen) : Act :=
  x.rdsys (ofFour x.s.rateHz x.s.blockLen x.s.blockCycles x.s.cclk)
def opRdsysDma (x : Seen) : Act :=
  x.rdsys (ofFour (x.outstanding 0) (x.outstanding 1) x.c.stores.length 0)

/-! ### Reserved opcodes and illegal sequences (R147, R149) -/

/-- The opcodes outside the steward's subset, SWI with FLG = 0 apart. -/
def notSteward (op : Nat) : Bool := [0x0F, 0x13, 0x14, 0x15, 0x16, 0x17, 0x1C, 0x1D, 0x31, 0x36].contains op

/-- The violation of an instruction of opcode `op`, if it is one of R147. DESIGN CHOICE: log entry 103. -/
def illegal (x : Seen) (op : Nat) : Option Act :=
  if op = 0x2E ∨ op = 0x2F ∨ 0x38 ≤ op ∨ (x.stw ∧ (notSteward op ∨ (op = 0x35 ∧ x.i.flg = false))) ∨
      (op = 0x29 ∧ x.subf 6 4 = 7) ∨ (op = 0x30 ∧ x.subf 1 0 = 3) ∨ (op = 0x36 ∧ 2 ≤ x.subf 1 0) ∨
      (op = 0x27 ∧ 5 ≤ x.subf 2 0) then some x.illop
  else if 0x28 ≤ op ∧ op ≤ 0x2B then x.flowBad
  else if op = 0x2C ∨ op = 0x2D then x.loopBad
  else none

end Seen

/-! ### The commands -/

def execQpostPip (c : CoreSel) (i : CoreWord) (s : State) : Out := .next (s.issue (CoreSel.ix c) i Seen.opQpostPip)
def execQpostVoice (c : CoreSel) (i : CoreWord) (s : State) : Out := .next (s.issue (CoreSel.ix c) i Seen.opQpostVoice)
def execQpostScene (c : CoreSel) (i : CoreWord) (s : State) : Out := .next (s.issue (CoreSel.ix c) i Seen.opQpostScene)
def execQdone (c : CoreSel) (i : CoreWord) (s : State) : Out := .next (s.issue (CoreSel.ix c) i Seen.opQdone)
def execVmrptLevel (c : CoreSel) (i : CoreWord) (s : State) : Out := .next (s.issue (CoreSel.ix c) i Seen.opVmrptLevel)
def execVmrptEnded (c : CoreSel) (i : CoreWord) (s : State) : Out := .next (s.issue (CoreSel.ix c) i Seen.opVmrptEnded)
def execFence (c : CoreSel) (i : CoreWord) (s : State) : Out := .next (s.issue (CoreSel.ix c) i Seen.opFence)
def execSwi (c : CoreSel) (i : CoreWord) (s : State) : Out := .next (s.issue (CoreSel.ix c) i Seen.opSwi)
def execRdsysTime (c : CoreSel) (i : CoreWord) (s : State) : Out := .next (s.issue (CoreSel.ix c) i Seen.opRdsysTime)
def execRdsysIdent (c : CoreSel) (i : CoreWord) (s : State) : Out := .next (s.issue (CoreSel.ix c) i Seen.opRdsysIdent)
def execRdsysState (c : CoreSel) (i : CoreWord) (s : State) : Out := .next (s.issue (CoreSel.ix c) i Seen.opRdsysState)
def execRdsysRate (c : CoreSel) (i : CoreWord) (s : State) : Out := .next (s.issue (CoreSel.ix c) i Seen.opRdsysRate)
def execRdsysDma (c : CoreSel) (i : CoreWord) (s : State) : Out := .next (s.issue (CoreSel.ix c) i Seen.opRdsysDma)
/-- An instruction that R147 forbids: a violation. One that it does not forbid is not this command's and does nothing. -/
def execIllegalInstruction (c : CoreSel) (op : Fin 64) (i : CoreWord) (s : State) : Out :=
  .next (if ((s.seen (CoreSel.ix c) i).illegal op).isSome then
    s.issue (CoreSel.ix c) i (fun x => (x.illegal op).getD .wait) else s)
def execStewardSwiWait (i : CoreWord) (s : State) : Out := .next (s.issue 64 i Seen.opStewardWait)

end Sys2Proof.Machine
end

