-- ==== Sys2Proof/Machine/CoreDma.lean ====
section
/-! DEFINITION. Local DMA, OP 0x32 and 0x33 (R95, R96, R135 to R137, R143). The running of the descriptors stands in
Machine/Transfer.lean. -/

namespace Sys2Proof.Machine

/-- The sides of a transfer (R95): DMEM or private SRAM, IMEM or Rind, Orchard, DRAM. -/
inductive DRegion where
  | dmem | imem | orchard | dram
deriving DecidableEq, Repr

/-- The pairs of R95. -/
def dmaPair : DRegion → DRegion → Bool
  | .dmem, .orchard | .orchard, .dmem | .dmem, .dram | .dram, .dmem | .orchard, .dram | .dram, .orchard
  | .imem, .dmem => true
  | _, _ => false

/-- The region of `bytes` bytes from an address of a core's map; an empty range may lie just past the end (R135). -/
def mapRegion (n a bytes : Nat) : Option DRegion :=
  if a + bytes ≤ dmemSize n then some .dmem
  else if 0x08000000 ≤ a ∧ a + bytes ≤ 0x08000000 + (if n = 64 then 0x20000 else 0x10000) then some .imem
  else if orcBase ≤ a ∧ a + bytes ≤ orcBase + orcSize then some .orchard
  else none

/-- The region of one side of a transfer; a DRAM range lies within the configured size (R136). -/
def State.dmaRegion (s : State) (n : Nat) (dram : Bool) (a bytes : Nat) : Option DRegion :=
  if dram then (if a + bytes ≤ s.dramSize then some .dram else none) else mapRegion n a bytes

namespace Seen

/-! ### The descriptor in VA (R135) -/

def dSD (x : Seen) : Bool := natBit (x.va 2) 31
def dDD (x : Seen) : Bool := natBit (x.va 2) 30
def dSrc (x : Seen) : Nat := (x.va 0 + if x.dSD then 2 ^ 32 * natBits (x.va 2) 15 8 else 0) / 16 * 16
def dDst (x : Seen) : Nat := (x.va 1 + if x.dDD then 2 ^ 32 * natBits (x.va 2) 23 16 else 0) / 16 * 16
def dLen (x : Seen) : Nat := natBits (x.va 3) 20 0
def dBytes (x : Seen) : Nat := x.dLen / 16 * 16
def dReserved (x : Seen) : Bool :=
  decide (natBits (x.va 2) 29 24 ≠ 0) || decide (natBits (x.va 2) 7 0 ≠ 0) || decide (natBits (x.va 3) 31 21 ≠ 0)

def dFrom (x : Seen) : Option DRegion := x.s.dmaRegion x.n x.dSD x.dSrc x.dBytes
def dTo (x : Seen) : Option DRegion := x.s.dmaRegion x.n x.dDD x.dDst x.dBytes

/-- The transfer is one that R136 admits, its urgent window apart. -/
def dmaOk (x : Seen) : Bool :=
  !x.dReserved && decide (x.dLen ≤ 0x100000) &&
  match x.dFrom, x.dTo with
  | some a, some b => dmaPair a b
  | _, _ => false

/-- The channel that SUB[0] names in the active bank (R95). -/
def dChan (x : Seen) : Nat := x.subf 0 0 + if x.c.shadow then 2 else 0

/-- The descriptor queued; an empty one at the head of its queue is complete at once (R135). The DMA sees no Orchard store
issued before it unwritten (R143). -/
def dmaQueue (x : Seen) (s : State) : State :=
  let c := s.core x.n
  let fences := x.c.storesDone + x.c.stores.length
  let d : Desc := { ch := x.dChan, sd := x.dSD, src := x.dSrc, dd := x.dDD, dst := x.dDst, words := x.dBytes / 16,
                    fences := fences, running := false }
  if x.dBytes = 0 ∧ x.outstanding (x.subf 0 0) = 0 then s else s.setCore x.n { c with dma := c.dma ++ [d] }

/-- DMA: it waits for a free place in its queue, is checked, and its move executes (R95, R136). A shadow-bank descriptor
that fails the urgent window and another check is logged as DMA. DEDUCED: log entry 93. DEDUCED: log entry 97.
DESIGN CHOICE: log entry 149. -/
def opDma (x : Seen) : Act :=
  if 4 ≤ x.outstanding (x.subf 0 0) then .wait
  else if x.dmaOk = false then .viol vkDMA ((if x.dFrom.isNone then x.dSrc else x.dDst) % 2 ^ 32)
  else if x.c.shadow ∧ x.dTo = some .dmem ∧ x.dDst < urgWindow then .viol vkURGWIN (x.dDst % 2 ^ 32)
  else x.move.sys x.dmaQueue

/-- DMAW: it waits until its channel, or with FLG both, holds at most SUB[2:0] descriptors (R137). -/
def opDmaw (x : Seen) : Act :=
  let n := x.subf 2 0
  if (if x.i.flg then n < x.outstanding 0 ∨ n < x.outstanding 1 else n < x.outstanding (x.subf 3 3)) then .wait else x.move

end Seen

/-! ### The commands -/

def execDma (c : CoreSel) (i : CoreWord) (s : State) : Out := .next (s.issue (CoreSel.ix c) i Seen.opDma)
def execDmaw (c : CoreSel) (i : CoreWord) (s : State) : Out := .next (s.issue (CoreSel.ix c) i Seen.opDmaw)

end Sys2Proof.Machine
end

