-- ==== Sys2Proof/Machine/CoreMac.lean ====
section
/-! DEFINITION. Multiply-accumulate and accumulator transfers, OP 0x10 to 0x1B (R113 to R115). -/

namespace Sys2Proof.Machine

namespace Seen

/-- The product sum of a lane, negated with FLG (R113). -/
def signed (x : Seen) (p : Int) : Int := if x.i.flg then -p else p

def opMac (x : Seen) : Act := x.compute (x.accVec (fun l => x.addend l + x.signed (x.sva l * x.sbl l)))
def opMsu (x : Seen) : Act := x.compute (x.accVec (fun l => x.addend l + x.signed (-(x.sva l * x.sbl l))))
def opMpy (x : Seen) : Act := x.compute (x.accVec (fun l => x.signed (x.sva l * x.sbl l)))
def opFtap (x : Seen) : Act :=
  x.vectorOnly (x.accVec (fun l => x.addend l + x.signed (x.window (l + x.subf 1 0) * x.svb (x.subf 3 2))))
def opFtap2 (x : Seen) : Act :=
  x.vectorOnly (x.accVec (fun l =>
    let s := x.subf 1 0
    let h := x.subf 2 2
    x.addend l + x.signed (x.window (l + s) * x.svb (2 * h) + x.window (l + s + 1) * x.svb (2 * h + 1))))

/-- The complex product of a pair in lane `l`, its real part in the even lane (R114). -/
def complex (x : Seen) (conj : Bool) (l : Nat) : Int :=
  let p := l / 2
  let q := if x.subb 6 then x.subf 4 4 else p
  let ar := x.sva (2 * p)
  let ai := x.sva (2 * p + 1)
  let br := x.svb (2 * q)
  let bi := if conj then -x.svb (2 * q + 1) else x.svb (2 * q + 1)
  x.signed (if l % 2 = 0 then ar * br - ai * bi else ar * bi + ai * br)

def opCmac (x : Seen) : Act := x.vectorOnly (x.accVec (fun l => x.addend l + x.complex false l))
def opCmpy (x : Seen) : Act := x.vectorOnly (x.accVec (fun l => x.complex false l))
def opCmacj (x : Seen) : Act := x.vectorOnly (x.accVec (fun l => x.addend l + x.complex true l))

/-- A raw slice of an accumulator lane (R115). -/
def slice (k : Nat) (a : Int) : Nat :=
  match k with
  | 0 => wrap 72 a % 2 ^ 32
  | 1 => wrap 72 a / 2 ^ 32 % 2 ^ 32
  | 2 => wrap 32 (sint 8 (wrap 72 a / 2 ^ 64))
  | _ => 0

/-- The narrowing of R7, or a raw slice with FLG. -/
def opRdacc (x : Seen) : Act :=
  x.compute (if x.i.flg then x.vec 2 x.i.vd (fun l => slice (x.subf 1 0) (x.accum x.i.acc l))
    else x.fitVec 2 (fun l => rhu (x.accum x.i.acc l) (27 - min (x.subf 4 0) 27)))

/-- An insert of `v` into the accumulator value `a` (R115). -/
def insert (k : Nat) (a : Int) (v : Nat) : Int :=
  let u := wrap 72 a
  match k with
  | 0 => (u / 2 ^ 32 * 2 ^ 32 + v : Nat)
  | 1 => (u / 2 ^ 64 * 2 ^ 64 + v * 2 ^ 32 + u % 2 ^ 32 : Nat)
  | 2 => (v % 256 * 2 ^ 64 + u % 2 ^ 64 : Nat)
  | _ => sint 32 v * 2 ^ 27

def opClra (x : Seen) : Act :=
  x.compute (x.accVec (fun l => if x.i.flg then insert (x.subf 1 0) (x.addend l) (x.va l) else 0))

/-- A shift by SUB as a signed number. -/
def opAshf (x : Seen) : Act :=
  let k := sint 7 x.sub
  x.compute (x.accVec (fun l =>
    if 0 ≤ k then x.accum x.i.acc l * 2 ^ k.toNat else rhu (x.accum x.i.acc l) (-k).toNat))
def opAmov (x : Seen) : Act := x.compute (x.accVec (fun l => x.signed (x.accum (x.subf 1 0) l)))

end Seen

/-! ### The commands -/

def execMac (c : CoreSel) (i : CoreWord) (s : State) : Out := .next (s.issue (CoreSel.ix c) i Seen.opMac)
def execMsu (c : CoreSel) (i : CoreWord) (s : State) : Out := .next (s.issue (CoreSel.ix c) i Seen.opMsu)
def execMpy (c : CoreSel) (i : CoreWord) (s : State) : Out := .next (s.issue (CoreSel.ix c) i Seen.opMpy)
def execFtap (c : CoreSel) (i : CoreWord) (s : State) : Out := .next (s.issue (CoreSel.ix c) i Seen.opFtap)
def execFtap2 (c : CoreSel) (i : CoreWord) (s : State) : Out := .next (s.issue (CoreSel.ix c) i Seen.opFtap2)
def execCmac (c : CoreSel) (i : CoreWord) (s : State) : Out := .next (s.issue (CoreSel.ix c) i Seen.opCmac)
def execCmpy (c : CoreSel) (i : CoreWord) (s : State) : Out := .next (s.issue (CoreSel.ix c) i Seen.opCmpy)
def execCmacj (c : CoreSel) (i : CoreWord) (s : State) : Out := .next (s.issue (CoreSel.ix c) i Seen.opCmacj)
def execRdacc (c : CoreSel) (i : CoreWord) (s : State) : Out := .next (s.issue (CoreSel.ix c) i Seen.opRdacc)
def execClra (c : CoreSel) (i : CoreWord) (s : State) : Out := .next (s.issue (CoreSel.ix c) i Seen.opClra)
def execAshf (c : CoreSel) (i : CoreWord) (s : State) : Out := .next (s.issue (CoreSel.ix c) i Seen.opAshf)
def execAmov (c : CoreSel) (i : CoreWord) (s : State) : Out := .next (s.issue (CoreSel.ix c) i Seen.opAmov)

end Sys2Proof.Machine
end

