-- ==== Sys2Proof/Machine/CoreMem.lean ====
section
/-! DEFINITION. Loads, stores, immediates and address registers, OP 0x20 to 0x27 (R123 to R126), and the arrival of Orchard
data and stores (R77, R92, R142, R145). -/

namespace Sys2Proof.Machine

namespace Seen

/-- The register lane of a lane form; the steward has one lane (R148). -/
def rlane (x : Seen) (l : Nat) : Nat := if x.stw then 0 else l

/-- Lanes of `r` other than the one written, as `f` gives them. -/
def otherLanes (x : Seen) (r k : Nat) (f : Nat → Nat) : List (Nat × Nat) :=
  (x.lanes.filter (fun l => !decide (l = k))).map (fun l => (ixV r l, f l))

/-- LD in its four forms (R125): lanes it does not write keep their value at issue, or are 0. -/
def opLd (x : Seen) : Act :=
  let a := x.own
  let k := x.rlane (x.subf 3 2)
  let one := [(ixV x.vr k, mlane a)]
  x.modifies x.xi x.mj x.circF (match x.subf 1 0 with
    | 0 => x.loads a (x.vecDst a x.vr) [] Eff.none
    | 1 => x.loads a one (x.otherLanes x.vr k (x.v x.vr)) Eff.none
    | 2 => x.loads a (x.lanes.map (fun l => (ixV x.vr l, mlane a))) [] Eff.none
    | _ => x.loads a one (x.otherLanes x.vr k (fun _ => 0)) Eff.none)

/-- The words that lanes chosen by the flags store, or by their absence. -/
def flagged (x : Seen) (a : Nat) (want : Bool) : List (Nat × Nat) :=
  if x.stw then (if x.LF 0 == want then x.vecSrc a x.vr else [])
  else (x.vecSrc a x.vr).filter (fun w => x.LF w.1 == want)

/-- ST in its four forms (R125). -/
def opSt (x : Seen) : Act :=
  let a := x.own
  x.modifies x.xi x.mj x.circF (match x.subf 1 0 with
    | 0 => x.stores a (x.vecSrc a x.vr) Eff.none
    | 1 => x.stores a [(mlane a, x.v x.vr (x.rlane (x.subf 3 2)))] Eff.none
    | 2 => x.stores a (x.flagged a true) Eff.none
    | _ => x.stores a (x.flagged a false) Eff.none)

/-- LDS: a word into an address register. DEDUCED: log entry 91. -/
def opLds (x : Seen) : Act :=
  x.modifies x.xi x.mj x.circF (x.loads x.own [(ixReg (x.subf 1 0) (x.i.vd % 16), mlane x.own)] [] Eff.none)

/-- LDI: the lanes that the mask names, and no others; or an address register. DEDUCED: log entry 100. -/
def opLdi (x : Seen) : Act :=
  if x.subb 2 then results (x.regWr 2 (x.subf 1 0) (x.i.vd % 16) x.imm)
  else results ((x.vec 2 x.i.vd (fun _ => x.imm)).filter (fun w => x.stw || x.subb (3 + w.idx % 4)))

def opAimm (x : Seen) : Act :=
  results (x.regWr 2 (x.subf 1 0) (x.i.vd % 16) (x.reg (x.subf 1 0) (x.i.vd % 16) + x.imm))

/-- AADD: the sum or difference, folded with the buffer of Xd when SUB[0] is set and XLd is not 0. -/
def opAadd (x : Seen) : Act :=
  let d : Nat := x.i.vd % 16
  let m := sint 32 (x.reg 1 (x.i.vb % 16))
  let r : Int := x.X (x.i.va % 16) + (if x.i.flg then -m else m)
  x.compute (x.regWr 2 0 d (wrap 32 (if x.subb 0 && decide (x.reg 2 d ≠ 0) then x.fold d r else r)))

/-- AFOLD: the circular post-modify with a modifier of 0. -/
def opAfold (x : Seen) : Act :=
  let d : Nat := x.i.vd % 16
  x.compute (if x.reg 2 d = 0 then [] else x.regWr 2 0 d (wrap 32 (x.fold d (x.X d))))

/-- AMOVX between a lane and an address register or LR; classes 5 to 7 are illegal (R147). -/
def opAmovx (x : Seen) : Act :=
  let cls := x.subf 2 0
  let k := x.rlane (x.subf 4 3)
  let j : Nat := x.i.vb % 16
  if 5 ≤ cls then x.illop
  else if x.i.flg then x.compute (x.regWr 2 cls j (x.va k))
  else x.compute (x.vec 2 x.i.vd (fun l => if l = k then x.reg cls j else x.v x.i.vd l))

end Seen

namespace State

/-- The oldest posted store written (R142, R145), unless it waits for a handover (R255). DESIGN CHOICE: log entry 106. -/
def storeWritten (s : State) (n : Nat) : State :=
  let c := s.core n
  match c.stores with
  | [] => s
  | o :: rest =>
    if o.held then s else (s.setCore n { c with stores := rest, storesDone := c.storesDone + 1 }).orcWrite o.bytes

/-- Posted stores written up to a count. -/
def storesUpTo (n upto : Nat) : Nat → State → State
  | 0, s => s
  | k + 1, s => if (s.core n).storesDone < upto then storesUpTo n upto k (s.storeWritten n) else s

/-- The bank of core `n` whose load the memory answers: the active one's, else the other's (R92). -/
def loadingBank (c : Core) : Option Bool :=
  if (activeBank c).load.isSome then some c.shadow
  else if (if c.shadow then c.p else c.s).load.isSome then some (!c.shadow) else none

/-- An Orchard word arrives in the bank that asked for it, after the core's earlier stores and a handover it waits for (R77,
R92, R142, R255, R261). -/
def loadArrives (s : State) (n : Nat) (e : Ecc) : State :=
  match loadingBank (s.core n) with
  | none => s
  | some sh =>
    match (if sh then (s.core n).s else (s.core n).p).load with
    | none => s
    | some l =>
      let s := storesUpTo n l.after (s.core n).stores.length s
      if l.held ∨ (s.core n).storesDone < l.after then s
      else
        let s := s.upsetWord .orchard l.addr e
        let w := s.orc128 l.addr
        let c := s.core n
        let b := if sh then c.s else c.p
        let b := { b with load := none, pend := b.pend ++ l.dst.map (fun d =>
          Pend.mk b.n d.1 (Seen.loadMask (decide (n = 64)) d.1 (lane w d.2)) false) }
        (s.setCore n (if sh then { c with s := b } else { c with p := b })).meetOrc l.addr 16

end State

/-! ### The commands -/

def execLd (c : CoreSel) (i : CoreWord) (s : State) : Out := .next (s.issue (CoreSel.ix c) i Seen.opLd)
def execSt (c : CoreSel) (i : CoreWord) (s : State) : Out := .next (s.issue (CoreSel.ix c) i Seen.opSt)
def execLds (c : CoreSel) (i : CoreWord) (s : State) : Out := .next (s.issue (CoreSel.ix c) i Seen.opLds)
def execLdi (c : CoreSel) (i : CoreWord) (s : State) : Out := .next (s.issue (CoreSel.ix c) i Seen.opLdi)
def execAimm (c : CoreSel) (i : CoreWord) (s : State) : Out := .next (s.issue (CoreSel.ix c) i Seen.opAimm)
def execAadd (c : CoreSel) (i : CoreWord) (s : State) : Out := .next (s.issue (CoreSel.ix c) i Seen.opAadd)
def execAfold (c : CoreSel) (i : CoreWord) (s : State) : Out := .next (s.issue (CoreSel.ix c) i Seen.opAfold)
def execAmovx (c : CoreSel) (i : CoreWord) (s : State) : Out := .next (s.issue (CoreSel.ix c) i Seen.opAmovx)
def execOrchardLoadComplete (c : CoreSel) (e : Ecc) (s : State) : Out :=
  .next ((s.disturb e).loadArrives (CoreSel.ix c) e)
def execOrchardStoreWritten (c : CoreSel) (s : State) : Out := .next (s.storeWritten (CoreSel.ix c))

end Sys2Proof.Machine
end

