-- ==== Sys2Proof/Machine/CoreServices.lean ====
section
/-! DEFINITION. Reads from the engine's services, OP 0x1C to 0x1F (R116 to R122, R150). -/

namespace Sys2Proof.Machine

namespace Seen

/-! ### Tables (R116, R117) -/

/-- The base of the table, its size code and its number of entries. -/
def tabBase (x : Seen) : Nat := x.X (x.subf 3 0) / 4 * 4
def tabLog (x : Seen) : Nat := 6 + x.subf 6 4

/-- Entry `i` of the table, as a load at issue sees it. -/
def entry (x : Seen) (i : Nat) : Int := sint 32 (leNat (x.b.loadBytes x.c.dmem (x.tabBase + 4 * i) 4))

/-- The entry below the position in lane `l`, and the one above it. -/
def below (x : Seen) (l : Nat) : Nat := x.va l / 2 ^ (32 - x.tabLog)
def above (x : Seen) (l : Nat) : Nat :=
  let i := x.below l
  if i + 1 < 2 ^ x.tabLog then i + 1 else if x.i.flg then i else 0

/-- The interpolated value of lane `l`. -/
def interp (x : Seen) (l : Nat) : Nat :=
  let i := x.below l
  let j := x.above l
  let f : Nat := x.va l * 2 ^ x.tabLog / 2 ^ 16 % 2 ^ 16
  wrap 32 (x.entry i + rhu ((x.entry j - x.entry i) * (f : Int)) 16)

/-- The words of DMEM read for the lanes in which a read finds an error (R260, R262). -/
def tabFlaws (x : Seen) : List Nat :=
  ([0, 1, 2, 3].flatMap (fun l => [x.below l, x.above l])).flatMap (fun k => x.flawedAt (x.tabBase + 4 * k)) |>.eraseDups

/-- The whole table must lie in DMEM; judged at issue. -/
def opTlerp (x : Seen) : Act :=
  if x.stw then x.illop
  else if dmemSize x.n < x.tabBase + 4 * 2 ^ x.tabLog then .viol vkMAP x.tabBase
  else (x.compute (x.vec 4 x.i.vd x.interp)).meets x.tabFlaws

/-! ### Phasors and parameters (R118, R119) -/

/-- A wrap position: `x / y` of a sample in S5.27, below 1. -/
def wrapPos (a y : Int) : Nat := min (wrap 32 ((a * 2 ^ 28 + y) / (2 * y))) 0x07FFFFFF

/-- The phase of lane `l`, and where it wrapped. -/
def phaseAt (x : Seen) (l : Nat) : Nat := x.s.phPhase (x.va 0 % 2 ^ 13) ((x.subf 5 0 + l : Nat) : Int)
def wrapAt (x : Seen) (l : Nat) : Nat :=
  let ph : Int := (x.phaseAt l : Nat)
  let d := x.s.phStep (x.va 0 % 2 ^ 13) ((x.subf 5 0 + l : Nat) : Int)
  if 0 < d ∧ ph < d then wrapPos ph d
  else if d < 0 ∧ 2 ^ 48 + d ≤ ph then wrapPos (2 ^ 48 - ph) (-d)
  else 0x80000000

def opPhrd (x : Seen) : Act :=
  x.vectorOnly (x.vec 4 x.i.vd (fun l => x.phaseAt l / 2 ^ 16) ++ x.vec 4 (x.i.vd + 1 : Nat) x.wrapAt)

/-- The parameter and the sample that lane `l` reads; the steward reads `val` of one parameter (R150). -/
def prmIndex (x : Seen) (l : Nat) : Nat := (if x.subb 6 then x.va l else x.va 0) % 2 ^ 16
def prmTime (x : Seen) (l : Nat) : Nat :=
  if x.stw then 0 else if x.subb 6 then x.subf 5 0 else x.subf 5 0 + l

def opPrmrd (x : Seen) : Act :=
  x.compute (x.fitVec 4 (fun l =>
    let k := x.prmIndex l
    sint 32 (x.s.prmValue k) + sint 32 (x.s.prmSlope k) * (x.prmTime l : Int)))

/-! ### Events (R121, R150) -/

/-- The next event of the running pip's buffer: its word in VD, the events left and its offset in the next register. -/
def popCore (x : Seen) : Act :=
  match x.b.events[x.b.head]? with
  | none => x.compute (x.vec 4 x.i.vd (fun _ => 0) ++
      x.vec 4 (x.i.vd + 1 : Nat) (fun l => if l = 0 then 2 ^ 32 - 1 else 0))
  | some e =>
    let head := if x.subb 0 then x.b.head else x.b.head + 1
    let left := x.b.events.length - head
    (x.compute (x.vec 4 x.i.vd (lane e) ++ x.vec 4 (x.i.vd + 1 : Nat) (fun l =>
      if l = 0 then left else if l = 1 then State.eventOff x.blockFrom e else 0))).bank (fun b => { b with head := head })

/-- The next unit event of the steward's queue: its number in lane 0 of VD, and the FRC in lane 1, which R148 lets no later
instruction read. DEDUCED: log entry 90. -/
def popSteward (x : Seen) : Act :=
  match x.s.stewardQ with
  | [] => x.compute (x.vec 4 x.i.vd (fun _ => 0) ++ x.vec 4 (x.i.vd + 1 : Nat) (fun _ => 2 ^ 32 - 1))
  | e :: rest =>
    let q := if x.subb 0 then e :: rest else rest
    (x.compute ([⟨4, ixV x.i.vd 0, e.1⟩, ⟨4, ixV x.i.vd 1, e.2 % 2 ^ 32⟩] ++
      x.vec 4 (x.i.vd + 1 : Nat) (fun _ => q.length))).sys (fun s => { s with stewardQ := q })

def opEvpop (x : Seen) : Act := if x.stw then x.popSteward else x.popCore

end Seen

/-! ### The commands -/

def execTlerp (c : CoreSel) (i : CoreWord) (s : State) : Out := .next (s.issue (CoreSel.ix c) i Seen.opTlerp)
def execPhrd (c : CoreSel) (i : CoreWord) (s : State) : Out := .next (s.issue (CoreSel.ix c) i Seen.opPhrd)
def execPrmrd (c : CoreSel) (i : CoreWord) (s : State) : Out := .next (s.issue (CoreSel.ix c) i Seen.opPrmrd)
def execEvpop (c : CoreSel) (i : CoreWord) (s : State) : Out := .next (s.issue (CoreSel.ix c) i Seen.opEvpop)
def execStewardEvpop (i : CoreWord) (s : State) : Out := .next (s.issue 64 i Seen.popSteward)

end Sys2Proof.Machine
end

