-- ==== Sys2Proof/Machine/Service.lean ====
section
/-! DEFINITION. The Ahnand service link (R449 to R468): the steward firmware's commands on U0, their replies, and the balls
they drive. A command acts while the firmware runs; a line's text is what the command carries. -/

namespace Sys2Proof.Machine

/-! ### Texts -/

/-- A decimal number of `d` digits at least. -/
def padded (d n : Nat) : String :=
  let t := toString n
  String.ofList (List.replicate (d - t.length) '0') ++ t
/-- A fixed-point number given in units of 10^−d. -/
def fixedStr (d n : Nat) : String := toString (n / 10 ^ d) ++ "." ++ padded d (n % 10 ^ d)
/-- A voltage in µV to four decimals, and a reading's voltage (R351). -/
def voltStr (uv : Nat) : String := fixedStr 4 ((uv + 50) / 100)
def codeMicro (code div : Nat) : Nat := (code * 3125000 * div + 32768) / 65536

def reasonName (r : Nat) : String :=
  ["", "SESSION_BUSY", "DOWNGRADE", "LIVE", "BACKUP_POWER", "OWNER_LOCK", "NOTSTAGED", "BASE", "DIGEST", "TOOBIG", "TRIAL",
    "PARTNER", "PRODUCT", "CHAIN", "FORMAT"].getD r ""

/-- The feature ID of the link's drives (R457). -/
def fidLink : Nat := 0x1400

/-- The rates that `BAUD` accepts (R452). -/
def linkRates : List Nat := [115200, 230400, 460800, 921600, 1000000, 1500000, 2000000, 3000000]

/-- The names of Currant's supply channels, from channel 28 on (R351). -/
def supplyName (ch : Nat) : String :=
  ["VREF", "VCMO", "VDD", "VDDM", "AVDD18", "VDDIO18", "VDDIO33", "AVDD33", "VDD2H", "VDDQ", "SerDes0.9", "SerDes1.2"].getD
    (ch - 28) ""

namespace State

/-! ### Replies (R451) -/

def sayErrWord (s : State) (st : Nat) (word : String) : State := s.say ("ERR " ++ hexStr 2 st ++ " " ++ word)

/-- The final line for a STATUS and a Graft reason. -/
def sayResult (s : State) (st reason : Nat) : State :=
  if st = stOK then s.sayOk
  else if (st = stBUSY ∨ st = stREFUSED) ∧ reason ≠ 0 then s.sayErrWord st (reasonName reason)
  else s.sayErr st

/-- The final line for the last `CFG_` write. -/
def sayCfg (s : State) : State := s.sayResult (s.get F.CFG_SESS_STATUS) (s.get F.CFG_SESS_REASON)

/-- The firmware runs and can answer: booted, clocked and not frozen. DEDUCED: log entry 130. -/
def firmwareUp (s : State) : Bool :=
  decide (s.get I.BOOT_PH = 1) && !s.on I.PW_HOLD && decide (s.get F.SYS_PWR_STATE ≠ 3) && !s.isFrozen 0x50

/-- A command line: the lines sent are those since it began, and it proves the line's rate (R452).
DESIGN CHOICE: log entry 131. -/
def linkLine (s : State) (go : State → State) : State :=
  if s.firmwareUp then go ({ s with svc := { s.svc with out := [] } }.set I.SL_NEW 0) else s

/-! ### The line (R452 to R454) -/

/-- The divisor of a rate, to the nearest 64th (R317). DEDUCED: log entry 133. -/
def linkDiv (s : State) (n : Nat) : Nat := (2 * s.tclkHz * 16 + n) / (2 * n)

def linkBaud (s : State) (n : Nat) : State :=
  if linkRates.contains n then (((s.sayOk).uDivSet 0 (s.linkDiv n)).set I.SL_BAUD n).set I.SL_NEW 1 else s.sayErr stBADARG

/-- No valid line within 5 s of a change of rate. -/
def linkRevert (s : State) : State :=
  if s.firmwareUp ∧ s.on I.SL_NEW then ((s.uDivSet 0 (s.linkDiv 115200)).set I.SL_BAUD 115200).set I.SL_NEW 0 else s

/-- A break on `U0RX` (R453); the receiver counts it as on any UART (R326). -/
def linkBreak (s : State) : State :=
  if s.firmwareUp ∧ s.uHears 0 then
    let t := (({ s.uBreak 0 with svc := { s.svc with out := [] } }.set (F.U_CFG_DBITS 0) 3).set (F.U_CFG_PAR 0) 0).set
      (F.U_CFG_STOP 0) 0
    (((t.uDivSet 0 (s.linkDiv 115200)).set I.SL_BAUD 115200).set I.SL_NEW 0).set I.SL_ECHO 1 |>.say "KX7 READY"
  else s.uBreak 0

/-- U0 is retired and its line has been high for 1 s (R454). -/
def linkRearm (s : State) : State :=
  if s.firmwareUp ∧ s.on (F.U_STAT_RXST 0) ∧ s.on (F.U_STAT_LINE_LVL 0) then
    (s.uLineSet 0 (2 ^ 31 + s.get (F.U_LINE_LINEFAULT_T 0))).say "KX7 READY"
  else s

/-! ### Registers (R455, R456) -/

def roleName (s : State) : String := ["SOLO", "ACTIVE", "STANDBY"].getD s.role "SOLO"
def engineName (s : State) : String := ["STOPPED", "STARTING", "RUNNING", "STOPPING"].getD (s.get F.SYS_ENGINE_STATE) ""

def linkHello (s : State) : State :=
  let seq := if s.runManifest = [] then 0 else mfSeq s.runManifest
  (s.say ("KX7 " ++ hexStr 8 (s.regWord 0) ++ " SEQ " ++ toString seq ++ " ROLE " ++ s.roleName ++ " ENG " ++ s.engineName)).sayOk

/-- A line for the word at an address, read as the steward. -/
def linkWord (s : State) (a : Nat) : State :=
  let s := s.regRead .steward a
  s.say (hexStr 8 a ++ " " ++ hexStr 8 (s.readWord .steward))

/-- DEDUCED: log entry 132. -/
def linkRd (s : State) (a n : Nat) : State :=
  if a % 4 ≠ 0 ∨ n = 0 ∨ 64 < n ∨ 0x1000000 < a + 4 * n then s.sayErr stBADARG
  else ((List.range n).foldl (fun s k => s.linkWord (a + 4 * k)) s).sayOk

def linkWr (s : State) (a w : Nat) : State :=
  if a % 4 ≠ 0 ∨ 0x1000000 ≤ a then s.sayErr stBADARG
  else if s.sync = syncTRACKING ∧ pairLocal a = false then s.sayErrWord stREFUSED "TRACKING"
  else (s.regWrite .steward a w).sayOk

/-! ### Balls (R457 to R459) -/

/-- The balls of `U0TX` and `U0RX` are never driven. -/
def driveName (b : Ball) : Option String :=
  match b with
  | .slot n => if n.val = 704 ∨ n.val = 705 then none else slotName n
  | .free k => slotlessName k

/-- The claim slot of a ball, and its owner; 0 for a ball without a slot. -/
def ballSlots : Ball → List Nat
  | .slot n => [n.val]
  | .free _ => []
def ballOwner (s : State) (b : Ball) : Nat := ((ballSlots b).map (fun n => s.get (F.SYS_CLAIM_OWNER n))).headD 0

/-- The unit instance that holds a slot also drives its ball: a port its data output and, as a master, its clocks; a
transmitter, a clock output, a timer output, a UART's TX and RTS, and a GPIO as an output. -/
def ownerDrives (s : State) (owner slot : Nat) : Bool :=
  let n := owner % 256
  match owner / 256 with
  | 0x01 => true
  | 0x09 => decide (slot / 32 = 3) || (decide (slot < 64) && s.on (F.AP_CFG_MASTER n))
  | 0x0B => decide (8 ≤ n)
  | 0x0C => decide (slot % 32 < 2)
  | 0x0D => decide (slot = uartSlot n 0) || decide (slot = uartSlot n 2)
  | 0x13 => s.on (F.PIN_GP_DIR n)
  | _ => false

/-- The level of a ball's drive replaced, or the drive begun. -/
def putDrive (s : State) (b : Ball) (l : DriveLevel) : State :=
  { s with svc := { s.svc with drives := s.svc.drives.filter (fun d => !decide (d.1 = b)) ++ [(b, l)] } }

/-- A drive that passed its checks: the slot claimed, and a ball without one announced (R458). -/
def beginDrive (s : State) (b : Ball) (l : DriveLevel) (name : String) : State :=
  let s := ((s.claimAll fidLink (ballSlots b)).putDrive b l).dacclrRefresh.sayOk
  match b with
  | .slot _ => s
  | .free _ => s.say ("! TAKEN " ++ name)

def linkDrive (s : State) (b : Ball) (l : DriveLevel) : State :=
  match driveName b with
  | none => s.sayErr stBADARG
  | some name =>
    let owner := s.ballOwner b
    if s.svc.drives.any (fun d => decide (d.1 = b)) then (s.putDrive b l).dacclrRefresh.sayOk
    else if s.on F.SYS_SHOW_SHOW then s.sayErrWord stREFUSED "SHOW"
    else if s.role = roleSTANDBY then s.sayErrWord stREFUSED "STANDBY"
    else if ballSlots b = [] ∧ s.get F.SYS_ENGINE_STATE ≠ 0 then s.sayErrWord stREFUSED "ENGINE"
    else if s.ownerDrives owner ((ballSlots b).headD 0) then s.sayErrWord stREFUSED "NOTOFF"
    else if owner ≠ 0 then s.sayErrWord stCONFLICT (hexStr 4 owner)
    else s.beginDrive b l name

/-- Drives ended: their slots are free. -/
def endDrives (s : State) (gone : Ball → Bool) : State :=
  let ds := s.svc.drives.filter (fun d => gone d.1)
  let t := { s with svc := { s.svc with drives := s.svc.drives.filter (fun d => !gone d.1) } }
  (ds.foldl (fun s d => s.unclaim fidLink (ballSlots d.1)) t).dacclrRefresh

def linkRelease (s : State) (b : Option Ball) : State :=
  match b with
  | none => (s.endDrives (fun _ => true)).sayOk
  | some b => if (driveName b).isNone then s.sayErr stBADARG else (s.endDrives (fun x => decide (x = b))).sayOk

/-- The levels that the ball's receiver showed. DEDUCED: log entry 137. -/
def linkRead (s : State) (b : Ball) (xs : List Bool) : State :=
  match ballName b with
  | none => s.sayErr stBADARG
  | some name =>
    let h := (xs.filter (fun x => x)).length
    if xs = [] ∨ 1000 < xs.length then s.sayErr stBADARG
    else if xs.length = 1 then (s.say (name ++ (if h = 1 then " H" else " L"))).sayOk
    else (s.say (name ++ " H " ++ toString h ++ " L " ++ toString (xs.length - h))).sayOk

/-! ### Loopbacks (R460 to R462) -/

/-- What the UART received is read at once: byte `k` correct, and its FERR, PERR and NOISE marks. -/
def loopByte (s : State) (n : Nat) (e : Option (Byte × Bool × Bool × Bool)) : State :=
  match e with
  | none => s
  | some (b, f, p, z) =>
    (s.uReceive n { data := b.toNat, perr := p, ferr := f, noise := z, edge := s.frc }).uRxRead .steward n

/-- The 256 entries: through the internal path every byte comes back as it was sent. -/
def loopGot (ext : Bool) (got : List (Option (Byte × Bool × Bool × Bool))) : List (Option (Byte × Bool × Bool × Bool)) :=
  if ext then (List.range 256).map (fun k => (got[k]?).getD none)
  else (List.range 256).map (fun k => some (BitVec.ofNat 8 k, false, false, false))

def loopCount (f : Byte × Bool × Bool × Bool → Bool) (xs : List (Option (Byte × Bool × Bool × Bool))) : Nat :=
  (xs.filter (fun x => match x with | some e => f e | none => false)).length

/-- The report of a loopback. -/
def loopReport (xs : List (Option (Byte × Bool × Bool × Bool))) : String :=
  let good := (xs.zipIdx.filter (fun e => match e.1 with | some (b, _) => decide (b.toNat = e.2) | none => false)).length
  if good = 256 then "PASS 256/256"
  else "FAIL " ++ toString good ++ "/256 FERR " ++ toString (loopCount (fun e => e.2.1) xs) ++ " PERR " ++
    toString (loopCount (fun e => e.2.2.1) xs) ++ " NOISE " ++ toString (loopCount (fun e => e.2.2.2) xs)

/-- A chain session is open. -/
def chainSession (s : State) : Bool :=
  decide (s.get F.CFG_SESS_SRC = 4) || (decide (s.get F.CFG_SESS_SRC ≠ 0) && s.on F.CFG_CHAIN_EN)

/-- DESIGN CHOICE: log entry 134. -/
def linkLoopUart (s : State) (n : Nat) (ext : Bool) (got : List (Option (Byte × Bool × Bool × Bool))) : State :=
  if n = 0 then s.sayErr stBADARG
  else if (n = 4 ∨ n = 5) ∧ s.chainSession then s.sayErrWord stBUSY "SESSION_BUSY"
  else if s.uState n ≠ unitOFF then s.sayErrWord stREFUSED "NOTOFF"
  else
    let cfg := ((((s.set (F.U_CFG_DBITS n) 3).set (F.U_CFG_PAR n) 0).set (F.U_CFG_STOP n) 0).set (F.U_CFG_FLOW n) 0).set
      (F.U_CFG_MIDI n) 0
    let t := (cfg.uDivSet n (s.linkDiv 115200)).uCtrlSet n (0x10 + if ext then 0 else 2 ^ ((F.U_CTRL_LOOP n).id % 32))
    if t.uState n = unitOFF then s.sayErrWord stCONFLICT (hexStr 4 (t.get F.SYS_CLAIMSTAT_CLAIM_OWNER))
    else
      let xs := loopGot ext got
      let t := xs.foldl (fun s e => s.loopByte n e) (t.uOn n)
      (((t.uCtrlSet n 0).uOff n).say (loopReport xs)).sayOk

/-- The ball pairs that a port test drives and reads. -/
def portPairs (n m : Nat) : List (Nat × Nat) :=
  if n = m then [(96 + n, 64 + n)] else [(96 + n, 64 + m), (n, m), (32 + n, 32 + m)]

def pairReport (p : Nat × Nat) (r : PairSeen) : String :=
  let name (k : Nat) : String := (slotName k).getD ""
  name p.1 ++ ">" ++ name p.2 ++ (match r with
    | .pass => " PASS"
    | .stuckHigh => " FAIL STUCK H"
    | .stuckLow => " FAIL STUCK L"
    | .openLine => " FAIL OPEN"
    | .short k => " FAIL SHORT " ++ name k)

/-- The pairs' results are what the board shows; the balls are released at the end. -/
def linkLoopPort (s : State) (n m : Nat) (seen : List PairSeen) : State :=
  if s.get (F.AP_CTRL_STATE n) ≠ unitOFF ∨ s.get (F.AP_CTRL_STATE m) ≠ unitOFF then s.sayErrWord stREFUSED "NOTOFF"
  else if s.role = roleSTANDBY then s.sayErrWord stREFUSED "STANDBY"
  else match s.claimBar fidLink ((portPairs n m).map (·.1)) with
    | some k => s.sayErrWord stCONFLICT (hexStr 4 (s.get (F.SYS_CLAIM_OWNER k)))
    | none =>
      let used (b : Ball) : Bool := (portPairs n m).any (fun p => ballSlots b = [p.1])
      (((portPairs n m).zip seen).foldl (fun s e => s.say (pairReport e.1 e.2)) (s.endDrives used)).sayOk

/-- The channel-status pattern of the test, bytes 0–22: 0x01 to 0x17. -/
def aesPattern : Nat := (List.range 23).foldl (fun x k => x + (k + 1) * 256 ^ k) 0

/-- The transmitter as the test sets it; NOM 2 takes the ASRC path where the engine's rate is another (R293). -/
def aesTestTx (s : State) (t : Nat) : State :=
  let s := ((((s.set (F.AES_TXCFG_NOM t) 2).set (F.AES_TXCFG_SRC t) 0).set (F.AES_TXCFG_CRCGEN t) 1).set
    (F.AES_TXCFG_CSSEP t) 0).flag (F.AES_TXCFG_PATH t) (s.multM ≠ 1)
  (List.range 6).foldl (fun s k => s.set (F.AES_TXCS0_W t k) (aesPattern / 2 ^ (32 * k))) s

/-- Both transceivers returned to OFF. -/
def aesTestOff (s : State) (t r : Nat) : State := ((s.txCtrlSet t 0).txOffNow t).rxCtrlSet r 0

/-- The first byte of the pattern that came otherwise. -/
def aesMiss (cs : Nat) : Option Nat := (List.range 23).find? (fun k => decide (natBits cs (8 * k + 7) (8 * k) ≠ k + 1))

def linkLoopAes (s : State) (t r : Nat) (lock : Option Nat) (cs : Nat) : State :=
  if s.get (F.AES_TXCTRL_STATE t) ≠ unitOFF ∨ s.get (F.AES_RXCTRL_STATE r) ≠ unitOFF then s.sayErrWord stREFUSED "NOTOFF"
  else if s.role = roleSTANDBY then s.sayErrWord stREFUSED "STANDBY"
  else
    let u := ((s.aesTestTx t).txCtrlSet t 0x10).rxCtrlSet r 0x10
    if u.get (F.AES_TXCTRL_STATE t) = unitOFF ∨ u.get (F.AES_RXCTRL_STATE r) = unitOFF then
      (u.aesTestOff t r).sayErrWord stCONFLICT (hexStr 4 (u.get F.SYS_CLAIMSTAT_CLAIM_OWNER))
    else match lock with
      | some ms =>
        if 50 < ms then ((u.txOnNow t).aesTestOff t r).sayErr stTIMEOUT
        else
          let u := ((((u.txOnNow t).rxLock r 2).rxBlock r 0 192 cs 0).rxBlock r 1 192 cs 0).aesTestOff t r
          let u := u.say ("LOCK " ++ toString ms)
          let u := u.say (match aesMiss cs with | none => "CS PASS" | some k => "CS FAIL byte " ++ toString k)
          (u.say (if natBits cs 191 184 = crcc cs then "CRC PASS" else "CRC FAIL")).sayOk
      | none => ((u.txOnNow t).aesTestOff t r).sayErr stTIMEOUT

/-! ### Analogue outputs and measurements (R463 to R465) -/

/-- The code of a voltage in µV, rounded half up; it may lie outside the span. -/
def dsetCode (span : Nat) (uv : Int) : Int :=
  (2 * (uv - spanVb span) * 2 ^ 24 + spanVw span) / (2 * spanVw span)

/-- The steps of a start, a span change, a hold and a slew that the command waits for, in their order. -/
def dsetWait (s : State) (n : Nat) : State :=
  ((((((s.dmsOn n).dmsSafeReached n).dmsSwitch n).dmsSettled n).dmsSlewDone n).dmsHoldEnd n).dmsSlewDone n

/-- The report of a setting: the mean of the tap's readings against the voltage asked for. -/
def dsetReport (s : State) (n code : Nat) (uv : Int) (r : Nat) : String :=
  let got := codeMicro r 1
  let d : Int := got - uv
  let pass := decide (d.natAbs ≤ s.get F.CUR_LBTOL_TOL)
  "AOUT" ++ toString n ++ " CODE " ++ hexStr 6 code ++ " READ " ++ voltStr got ++ " V DIFF " ++ (if d < 0 then "-" else "+") ++
    fixedStr 1 ((d.natAbs + 50) / 100) ++ " mV " ++ (if pass then "PASS" else "FAIL")

/-- A DSET that may proceed: its writes, the wait and the reading, which the model leaves open. -/
def dsetRun (s : State) (n code span : Nat) (uv : Int) : State :=
  let s := if s.dmsState n = unitOFF then s.set (F.DMS_CFG_MODE n) 0 else s
  let s := (s.dmsSpanSet n span).dsetWait n
  let s := (((s.dmsCode n code).dmsCtrlSet n 0x10).dsetWait n).set (I.DSET_ON n) 1
  let s := ((s.set (I.DSET_CFG n) (s.regWord (dmsAddr n 4))).set (I.DSET_SPAN n) span).set (I.DSET_CODE n) code
  let (r, s) := s.fresh
  (s.say (s.dsetReport n code uv (r % 65536))).sayOk

/-- DEDUCED: log entry 135. -/
def linkDset (s : State) (n : Nat) (uv : Int) (span : Nat) : State :=
  let c := dsetCode span uv
  if s.on (F.DMS_STAT_RET n) then s.sayErr stNOSPARE
  else if s.on F.SYS_SHOW_SHOW then s.sayErrWord stREFUSED "SHOW"
  else if s.role = roleSTANDBY then s.sayErrWord stREFUSED "STANDBY"
  else if s.dmsState n ≠ unitOFF ∧ s.on (I.DSET_ON n) = false then s.sayErrWord stREFUSED "NOTOFF"
  else if s.get F.SYS_ENGINE_STATE ≠ 0 then s.sayErrWord stREFUSED "ENGINE"
  else if c < 0 ∨ 0xFFFFFF < c then s.sayErr stBADARG
  else s.dsetRun n c.toNat span uv

/-- The 10 ms check of a held channel (R464). -/
def dsetCheck (s : State) (n : Nat) : State :=
  let same := decide (s.regWord (dmsAddr n 4) = s.get (I.DSET_CFG n)) &&
    decide (s.get (F.DMS_SPAN_SPAN n) = s.get (I.DSET_SPAN n)) && decide (s.get (F.DMS_CODE_C n) = s.get (I.DSET_CODE n))
  if s.firmwareUp ∧ s.on (I.DSET_ON n) ∧ same = false then (s.set (I.DSET_ON n) 0).say ("! DSET " ++ toString n ++ " LOST")
  else s

def linkDmeas (s : State) (n : Nat) : State :=
  (s.say ("AOUT" ++ toString n ++ " READ " ++ voltStr (codeMicro (s.get (F.CUR_RES_CODE n)) 1) ++ " V")).sayOk
def linkDoff (s : State) (n : Nat) : State := ((s.dmsCtrlSet n 0).set (I.DSET_ON n) 0).sayOk
def linkAin (s : State) (n : Nat) : State :=
  let c := s.get (F.CUR_RES_CODE (16 + n))
  (s.say ("AIN" ++ toString n ++ " " ++ voltStr (codeMicro c 1) ++ " V CODE " ++ hexStr 4 c)).sayOk

/-- A supply against its window by its last reading, and a temperature in tenths of a degree. -/
def monLine (s : State) (ch : Nat) : String :=
  let c := s.get (F.CUR_RES_CODE ch)
  if ch < 28 then
    let t := sint 16 c
    let tenths := (2 * t * 10 + 128) / 256
    "TEMP" ++ toString (ch - 24) ++ " " ++ (if tenths < 0 then "-" else "") ++ fixedStr 1 tenths.natAbs ++ " C"
  else
    let v := c * 3125 * chDivider ch
    supplyName ch ++ " " ++ fixedStr 3 ((v + 32768) / 65536) ++ " V " ++
      (if v < s.get (F.CUR_MON_LO (ch - 28)) * 65536 then "LOW"
       else if s.get (F.CUR_MON_HI (ch - 28)) * 65536 < v then "HIGH" else "OK")
/-- DEDUCED: log entry 136. -/
def linkMon (s : State) : State :=
  (((List.range 12).map (28 + ·) ++ [24, 25, 26, 27]).foldl (fun (s : State) ch => s.say (s.monLine ch)) s).sayOk

/-! ### Faults, spares, maps and violations (R455, R466) -/

def faultLine (s : State) (i : Nat) : String :=
  let w (k : Nat) : Nat := s.get (F.MDL_LOG_W i k)
  hexStr 2 i ++ " " ++ hexStr 12 (w 2 + 2 ^ 32 * (w 3 % 2 ^ 16)) ++ " " ++ hexStr 2 (w 0 / 2 ^ 24) ++ " " ++
    hexStr 2 (w 0 / 2 ^ 16) ++ " " ++ hexStr 4 (w 0) ++ " " ++ hexStr 4 (w 3 / 2 ^ 16) ++ " " ++
    (if natBit (w 1) 31 then "P" else "T") ++ " " ++ hexStr 1 (natBits (w 1) 30 28) ++ " " ++ hexStr 1 (natBits (w 1) 27 24) ++
    " " ++ hexStr 4 (w 1)

/-- The newest `k` entries, newest first. -/
def linkFaults (s : State) (k : Nat) : State :=
  if k = 0 then s.sayErr stBADARG
  else ((List.range (min k (s.get I.MDL_LOGN))).foldl (fun s j =>
    s.say (s.faultLine ((s.get F.MDL_LOGHEAD_NEXT + 255 - j) % 256))) s).sayOk

def linkSpares (s : State) : State :=
  let c := s.syncCover
  let flags := (if s.on F.MDL_COVER_CSUSP then "C" else "") ++ (if s.on F.MDL_COVER_BSUSP then "B" else "") ++
    (if s.on F.MDL_COVER_TSUSP then "T" else "")
  let stages := (List.range 16).foldl (fun x n => x + 2 ^ n * s.get (F.DMS_STAT_SPOK n)) 0
  ((s.say ("CORES " ++ toString (s.get F.MDL_SPARES_CORES) ++ " BANKS " ++ toString (s.get F.MDL_SPARES_BANKS) ++ " ASRC " ++
      toString (s.get F.MDL_SPARES_ASRC) ++ " STAGES " ++ hexStr 4 stages)).say
    ("COVER C " ++ toString (c.get F.MDL_COVER_CTESTED) ++ " B " ++ toString (c.get F.MDL_COVER_BTESTED) ++ " SUSP " ++
      (if flags = "" then "-" else flags))).sayOk

def linkMap (s : State) : State :=
  let line (unit : String) (f : Nat → Fld) (s : State) (n : Nat) : State :=
    s.say (unit ++ toString n ++ " P" ++ hexStr 2 (s.get (f n)))
  ((List.range 64).foldl (line "OB" F.ORC_MAP_PHYS) ((List.range 64).foldl (line "EC" F.MDL_MAP_PHYS) s)).sayOk

/-- The newest entries of the violation log; an entry nothing has written has no kind. -/
def linkViol (s : State) (k : Nat) : State :=
  if k = 0 then s.sayErr stBADARG
  else
    let w (i j : Nat) : Nat := s.get (F.PRT_VLOG_W i j)
    (((List.range k).filter (fun i => decide (w i 0 / 2 ^ 24 ≠ 0))).foldl (fun s i =>
      s.say (hexStr 8 (w i 0) ++ " " ++ hexStr 8 (w i 1) ++ " " ++ hexStr 8 (w i 2) ++ " " ++ hexStr 8 (w i 3))) s).sayOk

def linkUnfreeze (s : State) (who : Nat) (abandon : Bool) : State :=
  if 255 < who then s.sayErr stBADARG
  else
    let s := s.unfreezeSet .steward (who + 0x100 * b2n abandon)
    s.sayResult (s.get F.SYS_UNFREEZE_STATUS) 0

/-! ### Updates and recovery (R445, R467, R468) -/

def linkCode (s : State) (ds : List Nat) : State :=
  (s.ownerEntry (if ds = [] ∨ 8 < ds.length then none else some ds)).sayCfg

def linkOpen (s : State) : State := (s.sessOpen .steward false).sayCfg

/-- The pieces of a package, 65,536 bytes each at most, consumed one after the other (R437). -/
def linkPieces : Nat → List Byte → State → State
  | 0, _, s => s
  | fuel + 1, bs, s =>
    if bs = [] then s
    else linkPieces fuel (bs.drop 65536)
      ((((s.setGraft { s.graft with piece := bs.take 65536 }).set I.CFG_LATE 0).set F.CFG_STAGE_BUSY 1).pieceDone)

def linkLoad (s : State) (bs : List Byte) : State :=
  if bs = [] then s.sayErr stBADARG
  else if s.holdsSession .steward = false then (s.asHolder .steward id).sayCfg
  else if s.on F.CFG_STAGE_BUSY ∨ s.on F.CFG_ACT_STATE then s.sayErr stBUSY
  else
    let s := (List.range ((bs.length + 4095) / 4096)).foldl (fun (s : State) k => s.say ("ACK " ++ toString k)) s
    let s := linkPieces (bs.length / 65536 + 1) bs s.cfgOk
    if s.get F.CFG_STAGE_STATE = 4 then s.sayResult (s.get F.CFG_SESS_STATUS) (s.get F.CFG_STAGE_REASON) else s.sayOk

def linkArm (s : State) (rel : Bool) (t : Nat) : State :=
  let f := if rel then s.frc + t * s.rateHz else t
  (s.asHolder .steward (fun s => ((s.set F.CFG_ACT_FRC_LO_F f).set F.CFG_ACT_FRC_HI_F (f / 2 ^ 32)).actSet .steward 0x10)).sayCfg

def linkInfo (s : State) : State :=
  let line (name : String) (ws : List Nat) (s : State) : State := s.say (ws.foldl (fun t w => t ++ " " ++ hexStr 8 w) name)
  (line "SET" [s.setView] (line "B" [s.slotView 1 0, s.slotView 1 1] (line "A" [s.slotView 0 0, s.slotView 0 1] s))).sayOk

/-- A reset into Rind recovery, unless a refusal state holds. -/
def linkRecover (s : State) : State :=
  match s.refusal with
  | some r => s.sayErrWord stREFUSED (reasonName r)
  | none =>
    let t := s.warmReset F.SYS_RSTCAUSE_WARM s.strapBoot
    ({ t with svc := { t.svc with out := ["OK"] } }).enterRecovery

end State

/-! ### The commands -/

def execHello (s : State) : Out := .next (s.linkLine State.linkHello)
def execPing (s : State) : Out := .next (s.linkLine State.sayOk)
def execEchoOn (s : State) : Out := .next (s.linkLine (fun s => (s.set I.SL_ECHO 1).sayOk))
def execEchoOff (s : State) : Out := .next (s.linkLine (fun s => (s.set I.SL_ECHO 0).sayOk))
def execBaud (n : Nat) (s : State) : Out := .next (s.linkLine (fun s => s.linkBaud n))
def execBaudRevertTimeout (s : State) : Out := .next s.linkRevert
def execCommandLineTooLong (s : State) : Out := .next (s.linkLine (fun s => s.sayErr stBADARG))
def execUnknownCommand (s : State) : Out := .next (s.linkLine (fun s => s.sayErr stBADARG))
def execRd (addr n : Nat) (s : State) : Out := .next (s.linkLine (fun s => s.linkRd addr n))
def execWr (addr : Nat) (w : Word) (s : State) : Out := .next (s.linkLine (fun s => s.linkWr addr w.toNat))
def execDrive (b : Ball) (l : DriveLevel) (s : State) : Out := .next (s.linkLine (fun s => s.linkDrive b l))
def execRelease (b : Option Ball) (s : State) : Out := .next (s.linkLine (fun s => s.linkRelease b))
def execRead (b : Ball) (samples : List Bool) (s : State) : Out := .next (s.linkLine (fun s => s.linkRead b samples))
def execLoopUart (n : Fin 6) (ext : Bool) (got : List (Option (Byte × Bool × Bool × Bool))) (s : State) : Out :=
  .next (s.linkLine (fun s => s.linkLoopUart n ext got))
def execLoopPort (n m : Fin 32) (seen : List PairSeen) (s : State) : Out :=
  .next (s.linkLine (fun s => s.linkLoopPort n m seen))
def execLoopAes (t r : Fin 8) (lockMs : Option Nat) (cs : BitVec 192) (s : State) : Out :=
  .next (s.linkLine (fun s => s.linkLoopAes t r lockMs cs.toNat))
def execDset (n : Fin 16) (uv : Int) (span : Fin 4) (s : State) : Out := .next (s.linkLine (fun s => s.linkDset n uv span))
def execDsetHoldCheck (n : Fin 16) (s : State) : Out := .next (s.dsetCheck n)
def execDmeas (n : Fin 16) (s : State) : Out := .next (s.linkLine (fun s => s.linkDmeas n))
def execDoff (n : Fin 16) (s : State) : Out := .next (s.linkLine (fun s => s.linkDoff n))
def execAin (n : Fin 8) (s : State) : Out := .next (s.linkLine (fun s => s.linkAin n))
def execMon (s : State) : Out := .next (s.linkLine State.linkMon)
def execFaults (k : Fin 257) (s : State) : Out := .next (s.linkLine (fun s => s.linkFaults k))
def execSpares (s : State) : Out := .next (s.linkLine State.linkSpares)
def execMap (s : State) : Out := .next (s.linkLine State.linkMap)
def execViol (k : Fin 17) (s : State) : Out := .next (s.linkLine (fun s => s.linkViol k))
def execUnfreeze (target : Nat) (abandon : Bool) (s : State) : Out :=
  .next (s.linkLine (fun s => s.linkUnfreeze target abandon))
def execCode (digits : List (Fin 10)) (s : State) : Out :=
  .next (s.linkLine (fun s => s.linkCode (digits.map (·.val))))
def execUpdOpen (s : State) : Out := .next (s.linkLine State.linkOpen)
def execUpdLoad (bytes : List Byte) (s : State) : Out := .next (s.linkLine (fun s => s.linkLoad bytes))
def execUpdStat (s : State) : Out := .next (s.linkLine (fun s => (s.say (hexStr 8 (s.viewWord .steward 0x4000C))).sayOk))
def execUpdArm (rel : Bool) (t : Nat) (s : State) : Out := .next (s.linkLine (fun s => s.linkArm rel t))
def execUpdDisarm (s : State) : Out := .next (s.linkLine (fun s => (s.actSet .steward 0x20).sayCfg))
def execUpdCommit (s : State) : Out := .next (s.linkLine (fun s => (s.trialSet .steward 0x80000000).sayCfg))
def execUpdClose (s : State) : Out := .next (s.linkLine (fun s => (s.sessClose .steward).sayCfg))
def execUpdInfo (s : State) : Out := .next (s.linkLine State.linkInfo)
def execRecover (s : State) : Out := .next (s.linkLine State.linkRecover)
def execServiceLinkRearm (s : State) : Out := .next s.linkRearm
/-- A break; on U0 it also returns the service link to its first rate (R453). -/
def execUartBreak (n : Fin 6) (s : State) : Out := .next (if n = 0 then s.linkBreak else s.uBreak n)

end Sys2Proof.Machine
end

