-- ==== Sys2Proof/Machine/Tick.lean ====
section
/-! DEFINITION. The block cycle (R15 to R23): the sample and the tick, the deadline, and what happens at the engine's
targets (R40 to R42). -/

namespace Sys2Proof.Machine

namespace State

/-! ### Samples -/

/-- FRC counts: the clock has first left ACQUIRE, is not in ACQUIRE now, and the clocks are not stopped (R57, R58, R62,
R481). -/
def clockRuns (s : State) : Bool :=
  s.on I.CLK_STARTED && decide (s.get F.CLK_STAT_MODE ≠ clkACQUIRE) && decide (s.get F.SYS_PWR_STATE ≠ 3)

/-- CCLK cycles in one engine sample (R44, R46). -/
def sampleCycles (s : State) : Nat := 16384 / s.multM

/-- The PCLK domain runs for `n` samples' time: four PCLK periods in one of TCLK (R44). -/
def pclkRun (s : State) (n : Nat) : State := s.set I.PCLK (s.get I.PCLK + n * (4 * s.sampleTclks))

/-! ### What moves with each sample (R16, R208, R209) -/

/-- Sample `m` is landed at its instant: it lies at or after the start target (R40). -/
def lands (s : State) (m : Nat) : Bool :=
  decide (s.get F.SYS_ENGINE_STATE ≠ 0) && (s.on I.ENG_LANDED || decide (s.get I.ENG_TGT = m)) && decide (s.get I.ENG_TGT ≤ m)

/-- Sample `m` is drained: it was landed, and lies before the stop target (R40, R41). -/
def drains (s : State) (m : Nat) : Bool :=
  decide (s.get F.SYS_ENGINE_STATE ≠ 0) && s.on I.ENG_LANDED && decide (s.get I.ENG_TGT ≤ m) &&
  (decide (s.get F.SYS_ENGINE_STATE ≠ 3) || decide (m < s.get I.ENG_STOPT))

/-- The drained sample is one that was computed: not of a stop from STARTING (R40). -/
def drainsFed (s : State) : Bool := !(decide (s.get F.SYS_ENGINE_STATE = 3) && s.on I.ENG_FROMSTART)

/-- The closing ramp at sample `m` of a stop: over 16 samples, or the one block of a stop from STARTING with B = 8 (R40,
R41). DEDUCED: log entry 10. -/
def drainTail (s : State) (m : Nat) : Option (Nat × Nat) :=
  let t := s.get I.ENG_STOPT
  if s.get F.SYS_ENGINE_STATE = 3 ∨ s.on I.ENG_STOPP then tailScale t (min 16 (t - s.get I.ENG_TGT)) m else none

/-- The Orchard offset from which Bramble reads sample `m` of source `e`, if it lies there and is present (R206, R212). -/
def readsFrom (s : State) (e m : Nat) : Option Nat :=
  if (s.absentReason e m).isSome then none
  else if isSb e then some (s.quadAddr ((e - 0x800) / 4) ((e - 0x800) % 4) (m / s.blockLen) (m % s.blockLen))
  else if 0x700 ≤ e ∧ e < 0x780 then some (s.ringAddr 0 (e - 0x700) (m / s.blockLen) (m % s.blockLen))
  else none

/-- The errors that Bramble's reads of sample `m` of some sources meet (R260, R261). -/
def meetBramble (s : State) (es : List Nat) (m : Nat) : State :=
  if s.orcFlaws = [] then s else (es.eraseDups.filterMap (fun e => s.readsFrom e m)).foldl (fun s a => s.meetOrc a 4) s

/-- The stream buffers that destinations read. -/
def sbRead (s : State) (sb : Bool) : List Nat :=
  (s.routed sb).flatMap (fun d => ((s.route d).cs.map (·.src)).filter isSb)

/-- The instant of sample `m`: what the external sources bring in is held, the sample lands, and the one 2 × B before it is
drained (R208). DEDUCED: log entry 35. -/
def moveSample (s : State) (m : Nat) : State :=
  let s := s.asrcRamps.aesRamps
  let s := if s.lands m then
      ((((s.recordIn m).landSample m).countMoves true).meetBramble (s.listened ++ s.sbRead true) m).meterSample m (m - s.frc) true
    else s
  let d := m - 2 * s.blockLen
  if 2 * s.blockLen ≤ m ∧ s.drains d then
    ((((s.drainSample d s.drainsFed (s.drainTail d)).countMoves false).audioSend d).meetBramble (s.sbRead false) d).meterSample d
      (m - s.frc) false
  else s

/-- The timers' time from edge `t0` to `t1` passes in `u`, a state with the frames of `s` started: the edges at which frames
of the ports and Z preambles sent begin are their capture sources (R312). -/
def timersPass (s u : State) (m t0 t1 : Nat) : State :=
  u.tmPass m t0 t1 (fun src =>
    if src < 32 then (if s.apMaster src && !u.apClocked src then [] else s.apFrameEdges src t0 t1)
    else if 47 ≤ src ∧ src < 55 ∧ u.get (I.TX_ZAT (src - 47)) ≠ s.get (I.TX_ZAT (src - 47)) then [t1]
    else [])

/-- The `i`-th sample from now passes: what moves at its instant, the frames that start up to the next one, and the timers. -/
def passSample (s : State) (i : Nat) : State :=
  let t0 := s.tclk + i * s.sampleTclks
  let t1 := t0 + s.sampleTclks
  let s' := (s.moveSample (s.frc + i)).live60.copyRun.uartDrives
  (s'.timersPass ((s'.apPass (s.frc + i + 1) t0 t1).txPass t0 t1) (s.frc + i) t0 t1).gpTimers

/-- `n` samples pass (R62). DEDUCED: log entry 7. -/
def advance (s : State) (n : Nat) : State :=
  if n = 0 then s
  else
    let s := (List.range n).foldl (fun s i => s.passSample i) s
    (({ s with frcPrev := s.frc, frc := (s.frc + n) % 2 ^ 64, cclk := s.cclk + n * s.sampleCycles,
               tclk := s.tclk + n * s.sampleTclks }.pclkRun n).outputWraps s.tclk).dacclrRefresh

/-- One sample's time passes with FRC held: in ACQUIRE the root's clocks run on, before the first lock only the PCLK domain,
on the FRO; in STANDBY and while hold-safe none does (R57, R58, R67, R471, R481). DEDUCED: log entry 7. -/
def holdTime (s : State) : State :=
  if s.get F.SYS_PWR_STATE = 3 ∨ s.on I.PW_HOLD then s
  else if s.on I.CLK_STARTED then
    let t := s.tclk + s.sampleTclks
    ({ (s.timersPass ((s.apPass s.frc s.tclk t).txPass s.tclk t) s.frc s.tclk t).gpTimers with tclk := t }.pclkRun
      1).dacclrRefresh.live60
  else s.pclkRun 1

/-! ### What a tick reports of the blocks (R208, R211, R212, R375, R386, R387) -/

/-- Sample `m` was drained in the period before this tick. -/
def wasDrained (s : State) (k back : Nat) : Bool := decide (back ≤ k) && s.drains ((k - back) * s.blockLen)

/-- Bramble, the rings and the meters at tick `k`: block `k` − 1 has landed, block `k` − 3 has drained, and the enables for
the period are taken; the sources that this makes absent are reported. -/
def moveBlocks (s : State) (k : Nat) : State :=
  let t := s.meterTick
  let t := if t.wasDrained k 3 then ((t.ringReady (k - 3)).keepCrc (k - 3)).reportCrc (k - 3) else t
  let t := (t.brmEnables k).audioDrop
  (if t.lands (k * t.blockLen) then t.ringDue k else t).lostAtTick s

/-! ### Quince at a tick (R158, R159, R199) -/

/-- The graph re-armed for the block that this period computes, and the phasors advanced, once for a tick. -/
def rearmTick (s : State) : State :=
  if s.blockIx = 0 ∨ s.phRunning then s else (s.rearm (s.blockIx - 1)).phAdvance

/-- Every credit of the round-robin is 0 (R169), and no slot counts as allocated in this block. -/
def creditsZero (s : State) : State :=
  let news := (s.regs.filter (fun e => decide (e.1.1 = (F.VT0_NEW 0).id))).map (fun e => e.1.2)
  (news.foldl (fun s k => s.set (F.VT0_NEW k) 0) { s with qn := { s.qn with cur := [] } })

/-! ### The figures latched at a tick, which the model does not count -/

/-- `EC_BUSY`, `EC_BUSYMAX` and `EC_STALL` of core `n` (R101, R241): free values no greater than the cycles of a block, nor
STALL than BUSY; 0 for a core that has had no pip. -/
def latchCore (s : State) (n : Nat) : State :=
  let worked := s.on (I.EC_WORK n)
  let b := if worked then Config.busyCycles s.free % (s.blockCycles + 1) else 0
  let w := if worked then Config.stallCycles s.free % (b + 1) else 0
  let c := s.core n
  ({ (((s.set (F.EC_BUSY_CYC n) b).set (F.EC_BUSYMAX_CYC n) (max b (s.get (F.EC_BUSYMAX_CYC n)))).set (F.EC_STALL_CYC n) w)
    with free := s.free + 1 }).flag (I.EC_WORK n) (c.next.isSome || c.p.run.isSome || c.s.run.isSome)

/-- `BRM_LOAD` of the last period: the source reads, or the destination writes if those were more, of the 4 in each of its
FCLK cycles, in units of 1/1024 (R218, R246). DEDUCED: log entry 158. -/
def brmLoad (s : State) : State :=
  let n := max (s.get I.BRM_RD) (s.get I.BRM_WR)
  ((s.set F.BRM_LOAD_OCC (min 1023 (n * 1024 / (2 * s.blockCycles)))).set I.BRM_RD 0).set I.BRM_WR 0

/-- The loads of the last period; `DMC_BW` is a free value, 0 while the controller is not ON. -/
def latchLoads (s : State) : State :=
  let s := (List.range 64).foldl (fun s n => s.latchCore n) s
  let (b, s) := s.fresh
  s.brmLoad.set F.DMC_BW_N (if s.get F.DMC_STAT_STATE = unitON then b else 0)

/-! ### The tick (R15) -/

/-- The present sample begins a block, and its tick has not been raised. -/
def tickDue (s : State) : Bool := decide (s.frc % s.blockLen = 0) && decide (s.get I.TICKED ≠ s.frc + 1)
/-- FRC of the next tick: the present sample's, if it is due and not yet raised. -/
def tickFrc (s : State) : Nat := if s.tickDue then s.frc else (s.frc / s.blockLen + 1) * s.blockLen

/-- What the units do at tick `k` (R16); the mirrored items due take effect before Quince re-arms (R382). -/
def tickWork (s : State) (k : Nat) : State :=
  let s := (s.raise 8).moveBlocks k
  let s := (if s.dueItems = [] then s else s.releaseItems).copyTick
  let s := s.withdrawGraph.creditsZero
  let s := if s.get F.SYS_ENGINE_STATE = 2 then s.rearmTick else s
  s.trimCurves.wiperPosts.hbTick.statusMissing.latchLoads

/-- The tick at the present sample. -/
def tickHere (s : State) : State :=
  (({ s with cclk := 0 }.set I.TICKED (s.frc + 1)).tmFire 32).tickWork s.blockIx


/-! ### The deadline (R20, R161) -/

/-- The sink is armed for block `j` and has not issued QDONE. -/
def sinkLate (s : State) (j p : Nat) : Bool :=
  s.on (F.PIP1_SINK p) && !s.on (F.PIP1_CLASS p) && s.on (I.PIP_ARM p) && decide (s.get (I.PIP_BLK p) = j) &&
  !(s.on (I.PIP_DONE p) && decide (s.get (F.PIP14_LASTBLK p) = j % 2 ^ 32))

/-- The sinks of block `j` that are unfinished; one whose EN was cleared while it was armed still counts (R154). -/
def lateSinks (s : State) (j : Nat) : List Nat := s.armedPips.filter (fun p => s.sinkLate j p)

/-- Block `j` overruns: its unfinished sinks mute their destinations (R213), the fault is logged as transient (R22), and
the pips not yet started are withdrawn. DEDUCED: log entry 9. -/
def overrun (s : State) (j : Nat) (ps : List Nat) : State :=
  let s := ps.foldl (fun s p => s.set (I.PIP_OVM p) (j + 1)) s
  let s := (s.raise 1).mdlFault 0x0A 8 0 true 0 0 0 0xFFFF
  ((s.withdrawReady).bump F.QN_OVRCNT_N 1).set I.QN_OVRBLK (j + 1)

/-- The check, made once an overrun has not yet been found for the block that this period computes. -/
def checkSinks (s : State) : State :=
  let j := s.blockIx - 1
  if s.phRunning ∧ s.get I.QN_OVRBLK ≠ j + 1 then
    let ps := s.lateSinks j
    if ps = [] then s else s.overrun j ps
  else s

/-- The check at the deadline, if `n` samples from now pass over it. -/
def checkWithin (s : State) (n : Nat) : State :=
  if s.cclk < s.deadline ∧ s.deadline ≤ s.cclk + n * s.sampleCycles then s.checkSinks else s

/-- The samples up to the next tick pass, and it is raised; a deadline that they pass over is checked.
DESIGN CHOICE: log entry 5. -/
def blockTick (s : State) : State :=
  let n := s.tickFrc - s.frc
  if s.clockRuns then ((s.checkWithin n).advance n).tickHere else s

/-- The CCLK count after the tick reaches the deadline: the samples up to it pass, and the check is made. -/
def deadlineCheck (s : State) : State :=
  if s.clockRuns then
    let d := s.deadline
    let s := s.advance (d / s.sampleCycles - s.frc % s.blockLen)
    ({ s with cclk := max s.cclk d }).checkSinks
  else s

/-! ### The engine's targets (R40 to R42) -/

/-- FRC reaches the start target: landing begins. DESIGN CHOICE: log entry 1. -/
def startTarget (s : State) : State :=
  if s.get F.SYS_ENGINE_STATE = 1 ∧ s.on I.ENG_LANDED = false ∧ s.reached (s.get I.ENG_TGT) then s.set I.ENG_LANDED 1
  else s

/-- The tick at F + B with no stop pending: RUNNING, and the first dispatch on block F / B. -/
def firstDispatch (s : State) : State :=
  if s.get F.SYS_ENGINE_STATE = 1 ∧ s.on I.ENG_LANDED ∧ s.on I.ENG_STOPP = false ∧
      s.reached (s.get I.ENG_TGT + s.blockLen) then
    (s.setEngine 2).rearmTick
  else s

/-- A recall in progress is abandoned when the engine enters STOPPING (R238). -/
def stopRecall (s : State) : State := if s.get F.SCN_RCL_STATE = 0 then s else s.recallAbandon stREFUSED

/-- The tick at the stop target: from RUNNING the last block is armed; every ramp ends at its target and held commands
apply (R232). -/
def stopTarget (s : State) : State :=
  let st := s.get F.SYS_ENGINE_STATE
  if (st = 1 ∨ st = 2) ∧ s.on I.ENG_STOPP ∧ s.reached (s.get I.ENG_STOPT) then
    ((if st = 2 then s.rearmTick else s).setEngine 3).flushParams.stopRecall
  else s

/-- The start target of a restart: the requested F if it still leaves 2 × B samples, else the first boundary that does
(R42). -/
def restartTarget (s : State) : Nat :=
  let f := s.get I.ENG_REQ
  if f ≠ 0 ∧ s.frc + 2 * s.blockLen ≤ f then f else s.earliest

/-- The tick 2 × B after the stop target: STOPPED, held phasor commands apply (R201), and a restart takes its target. -/
def stopped (s : State) : State :=
  if s.get F.SYS_ENGINE_STATE = 3 ∧ s.reached (s.get I.ENG_STOPT + 2 * s.blockLen) then
    let again := s.on I.ENG_RESTART
    let s := ((((s.set I.ENG_STOPP 0).set I.ENG_FROMSTART 0).set I.ENG_LANDED 0).setEngine 0).phFlush.silenceAll
    if again then s.engineStart s.restartTarget else s
  else s

/-! ### Idling -/

/-- With no command waiting, the tick due at the present sample is raised, or one engine sample passes, with a deadline that
falls in it and a tick that it reaches; where FRC stands, a sample's time. DESIGN CHOICE: log entry 4. -/
def idle (s : State) : State :=
  if s.clockRuns then
    if s.tickDue then s.tickHere
    else
      let t := (s.checkWithin 1).advance 1
      if t.tickDue then t.tickHere else t
  else s.holdTime

end State

/-! ### The commands -/

def execBlockTick (s : State) : Out := .next s.blockTick
def execDeadlineCheck (s : State) : Out := .next s.deadlineCheck
def execEngineStartTarget (s : State) : Out := .next s.startTarget
def execEngineFirstDispatch (s : State) : Out := .next s.firstDispatch
def execEngineStopTarget (s : State) : Out := .next s.stopTarget
def execEngineStopped (s : State) : Out := .next s.stopped

end Sys2Proof.Machine
end

