-- ==== Sys2Proof/Machine/Dispatch.lean ====
section
/-! DEFINITION. The dispatch: one arm per command, each a direct call of its meaning. -/

namespace Sys2Proof.Machine

def exec (i : Instr) (s : State) : Host.Outcome State Fault Refusal :=
  match i with
  | .registerWrite m addr w => Sys2Proof.Machine.execRegisterWrite m addr w s
  | .readClear m addr => Sys2Proof.Machine.execReadClear m addr s
  | .latchingRead m addr => Sys2Proof.Machine.execLatchingRead m addr s
  | .stageWordWrite m addr w => Sys2Proof.Machine.execStageWordWrite m addr w s
  | .claimTake m slot => Sys2Proof.Machine.execClaimTake m slot s
  | .claimDrop m slot => Sys2Proof.Machine.execClaimDrop m slot s
  | .evrouteWrite m n w => Sys2Proof.Machine.execEvrouteWrite m n w s
  | .unitEventDeliver n => Sys2Proof.Machine.execUnitEventDeliver n s
  | .engineRunRequest m atFrc => Sys2Proof.Machine.execEngineRunRequest m atFrc s
  | .engineStopRequest m atFrc => Sys2Proof.Machine.execEngineStopRequest m atFrc s
  | .engineStartTarget => Sys2Proof.Machine.execEngineStartTarget s
  | .engineFirstDispatch => Sys2Proof.Machine.execEngineFirstDispatch s
  | .engineStopTarget => Sys2Proof.Machine.execEngineStopTarget s
  | .engineStopped => Sys2Proof.Machine.execEngineStopped s
  | .rateWrite m w => Sys2Proof.Machine.execRateWrite m w s
  | .rateChangeApply => Sys2Proof.Machine.execRateChangeApply s
  | .blockTick => Sys2Proof.Machine.execBlockTick s
  | .deadlineCheck => Sys2Proof.Machine.execDeadlineCheck s
  | .refQualificationGate n g => Sys2Proof.Machine.execRefQualificationGate n g s
  | .refGlitch => Sys2Proof.Machine.execRefGlitch s
  | .refStop missing => Sys2Proof.Machine.execRefStop missing s
  | .holdoverTimeout => Sys2Proof.Machine.execHoldoverTimeout s
  | .pullInComplete => Sys2Proof.Machine.execPullInComplete s
  | .revertTimeout ix => Sys2Proof.Machine.execRevertTimeout ix s
  | .refpriWrite m ix w => Sys2Proof.Machine.execRefpriWrite m ix w s
  | .reacq m w => Sys2Proof.Machine.execReacq m w s
  | .acquireLock => Sys2Proof.Machine.execAcquireLock s
  | .freerunTimeout => Sys2Proof.Machine.execFreerunTimeout s
  | .mclkoEnable m n => Sys2Proof.Machine.execMclkoEnable m n s
  | .mclkoDisable m n => Sys2Proof.Machine.execMclkoDisable m n s
  | .mclkoDivWrite m n div => Sys2Proof.Machine.execMclkoDivWrite m n div s
  | .mclkoStarted n => Sys2Proof.Machine.execMclkoStarted n s
  | .mclkoStopped n => Sys2Proof.Machine.execMclkoStopped n s
  | .syncoutEnable m src => Sys2Proof.Machine.execSyncoutEnable m src s
  | .syncoutDisable m => Sys2Proof.Machine.execSyncoutDisable m s
  | .frcLoadGo m => Sys2Proof.Machine.execFrcLoadGo m s
  | .frcLoadApply => Sys2Proof.Machine.execFrcLoadApply s
  | .nop c ix => Sys2Proof.Machine.execNop c ix s
  | .vadd c ix => Sys2Proof.Machine.execVadd c ix s
  | .vsub c ix => Sys2Proof.Machine.execVsub c ix s
  | .vmul c ix => Sys2Proof.Machine.execVmul c ix s
  | .vmin c ix => Sys2Proof.Machine.execVmin c ix s
  | .vmax c ix => Sys2Proof.Machine.execVmax c ix s
  | .vabs c ix => Sys2Proof.Machine.execVabs c ix s
  | .vneg c ix => Sys2Proof.Machine.execVneg c ix s
  | .vshl c ix => Sys2Proof.Machine.execVshl c ix s
  | .vshr c ix => Sys2Proof.Machine.execVshr c ix s
  | .vand c ix => Sys2Proof.Machine.execVand c ix s
  | .vor c ix => Sys2Proof.Machine.execVor c ix s
  | .vxor c ix => Sys2Proof.Machine.execVxor c ix s
  | .vcmp c ix => Sys2Proof.Machine.execVcmp c ix s
  | .vsel c ix => Sys2Proof.Machine.execVsel c ix s
  | .vperm c ix => Sys2Proof.Machine.execVperm c ix s
  | .mac c ix => Sys2Proof.Machine.execMac c ix s
  | .msu c ix => Sys2Proof.Machine.execMsu c ix s
  | .mpy c ix => Sys2Proof.Machine.execMpy c ix s
  | .ftap c ix => Sys2Proof.Machine.execFtap c ix s
  | .ftap2 c ix => Sys2Proof.Machine.execFtap2 c ix s
  | .cmac c ix => Sys2Proof.Machine.execCmac c ix s
  | .cmpy c ix => Sys2Proof.Machine.execCmpy c ix s
  | .cmacj c ix => Sys2Proof.Machine.execCmacj c ix s
  | .rdacc c ix => Sys2Proof.Machine.execRdacc c ix s
  | .clra c ix => Sys2Proof.Machine.execClra c ix s
  | .ashf c ix => Sys2Proof.Machine.execAshf c ix s
  | .amov c ix => Sys2Proof.Machine.execAmov c ix s
  | .tlerp c ix => Sys2Proof.Machine.execTlerp c ix s
  | .phrd c ix => Sys2Proof.Machine.execPhrd c ix s
  | .prmrd c ix => Sys2Proof.Machine.execPrmrd c ix s
  | .evpop c ix => Sys2Proof.Machine.execEvpop c ix s
  | .ld c ix => Sys2Proof.Machine.execLd c ix s
  | .st c ix => Sys2Proof.Machine.execSt c ix s
  | .lds c ix => Sys2Proof.Machine.execLds c ix s
  | .ldi c ix => Sys2Proof.Machine.execLdi c ix s
  | .aimm c ix => Sys2Proof.Machine.execAimm c ix s
  | .aadd c ix => Sys2Proof.Machine.execAadd c ix s
  | .afold c ix => Sys2Proof.Machine.execAfold c ix s
  | .amovx c ix => Sys2Proof.Machine.execAmovx c ix s
  | .br c ix => Sys2Proof.Machine.execBr c ix s
  | .brc c ix => Sys2Proof.Machine.execBrc c ix s
  | .call c ix => Sys2Proof.Machine.execCall c ix s
  | .ret c ix => Sys2Proof.Machine.execRet c ix s
  | .loop c ix => Sys2Proof.Machine.execLoop c ix s
  | .loopv c ix => Sys2Proof.Machine.execLoopv c ix s
  | .qpostPip c ix => Sys2Proof.Machine.execQpostPip c ix s
  | .qpostVoice c ix => Sys2Proof.Machine.execQpostVoice c ix s
  | .qpostScene c ix => Sys2Proof.Machine.execQpostScene c ix s
  | .qdone c ix => Sys2Proof.Machine.execQdone c ix s
  | .vmrptLevel c ix => Sys2Proof.Machine.execVmrptLevel c ix s
  | .vmrptEnded c ix => Sys2Proof.Machine.execVmrptEnded c ix s
  | .dma c ix => Sys2Proof.Machine.execDma c ix s
  | .dmaw c ix => Sys2Proof.Machine.execDmaw c ix s
  | .fence c ix => Sys2Proof.Machine.execFence c ix s
  | .swi c ix => Sys2Proof.Machine.execSwi c ix s
  | .rdsysTime c ix => Sys2Proof.Machine.execRdsysTime c ix s
  | .rdsysIdent c ix => Sys2Proof.Machine.execRdsysIdent c ix s
  | .rdsysState c ix => Sys2Proof.Machine.execRdsysState c ix s
  | .rdsysRate c ix => Sys2Proof.Machine.execRdsysRate c ix s
  | .rdsysDma c ix => Sys2Proof.Machine.execRdsysDma c ix s
  | .illegalInstruction c op ix => Sys2Proof.Machine.execIllegalInstruction c op ix s
  | .stewardEvpop ix => Sys2Proof.Machine.execStewardEvpop ix s
  | .stewardSwiWait ix => Sys2Proof.Machine.execStewardSwiWait ix s
  | .pipStart c => Sys2Proof.Machine.execPipStart c s
  | .qdoneComplete c => Sys2Proof.Machine.execQdoneComplete c s
  | .urgentPreempt c => Sys2Proof.Machine.execUrgentPreempt c s
  | .orchardLoadComplete c e => Sys2Proof.Machine.execOrchardLoadComplete c e s
  | .orchardStoreWritten c => Sys2Proof.Machine.execOrchardStoreWritten c s
  | .dmaDescriptorStart c ch => Sys2Proof.Machine.execDmaDescriptorStart c ch s
  | .dmaDescriptorDone c ch e => Sys2Proof.Machine.execDmaDescriptorDone c ch e s
  | .coreHalt m c => Sys2Proof.Machine.execCoreHalt m c s
  | .coreResume m c => Sys2Proof.Machine.execCoreResume m c s
  | .swiqPop m => Sys2Proof.Machine.execSwiqPop m s
  | .pipWrite m p k w => Sys2Proof.Machine.execPipWrite m p k w s
  | .pipEnable m p w => Sys2Proof.Machine.execPipEnable m p w s
  | .pipDisable m p => Sys2Proof.Machine.execPipDisable m p s
  | .slistCommit m w => Sys2Proof.Machine.execSlistCommit m w s
  | .affinityCommit m c w => Sys2Proof.Machine.execAffinityCommit m c w s
  | .qnDeadlineWrite m w => Sys2Proof.Machine.execQnDeadlineWrite m w s
  | .hostPostPip m p => Sys2Proof.Machine.execHostPostPip m p s
  | .hostPostVoice m => Sys2Proof.Machine.execHostPostVoice m s
  | .heldPostAccept => Sys2Proof.Machine.execHeldPostAccept s
  | .heldEventReady => Sys2Proof.Machine.execHeldEventReady s
  | .urgentPlacement => Sys2Proof.Machine.execUrgentPlacement s
  | .roundRobinPlacement c => Sys2Proof.Machine.execRoundRobinPlacement c s
  | .prefetchComplete c => Sys2Proof.Machine.execPrefetchComplete c s
  | .qnImgWrite m ix w => Sys2Proof.Machine.execQnImgWrite m ix w s
  | .coreParityError c imem => Sys2Proof.Machine.execCoreParityError c imem s
  | .repairCopyComplete => Sys2Proof.Machine.execRepairCopyComplete s
  | .noteOn src w => Sys2Proof.Machine.execNoteOn src w s
  | .deferredNoteStart g => Sys2Proof.Machine.execDeferredNoteStart g s
  | .stealResume g => Sys2Proof.Machine.execStealResume g s
  | .noteOff src w => Sys2Proof.Machine.execNoteOff src w s
  | .noteChange src w => Sys2Proof.Machine.execNoteChange src w s
  | .hold src w => Sys2Proof.Machine.execHold src w s
  | .allOff src w => Sys2Proof.Machine.execAllOff src w s
  | .kill src w => Sys2Proof.Machine.execKill src w s
  | .ctrl src w => Sys2Proof.Machine.execCtrl src w s
  | .phPhase w => Sys2Proof.Machine.execPhPhase w s
  | .phRate w => Sys2Proof.Machine.execPhRate w s
  | .phSlope w => Sys2Proof.Machine.execPhSlope w s
  | .phasorHeldApply => Sys2Proof.Machine.execPhasorHeldApply s
  | .phasorDirectWrite m p w => Sys2Proof.Machine.execPhasorDirectWrite m p w s
  | .joinDecrement g => Sys2Proof.Machine.execJoinDecrement g s
  | .vmEnable m w => Sys2Proof.Machine.execVmEnable m w s
  | .vmDisable m => Sys2Proof.Machine.execVmDisable m s
  | .vmShutdownComplete => Sys2Proof.Machine.execVmShutdownComplete s
  | .voiceGroupEnable m g w => Sys2Proof.Machine.execVoiceGroupEnable m g w s
  | .voiceGroupDisable m g => Sys2Proof.Machine.execVoiceGroupDisable m g s
  | .quadEnable m q w => Sys2Proof.Machine.execQuadEnable m q w s
  | .quadDisable m q => Sys2Proof.Machine.execQuadDisable m q s
  | .nextEntryWrite m d w => Sys2Proof.Machine.execNextEntryWrite m d w s
  | .swapArm m => Sys2Proof.Machine.execSwapArm m s
  | .swapDisarm m => Sys2Proof.Machine.execSwapDisarm m s
  | .swapAtTick => Sys2Proof.Machine.execSwapAtTick s
  | .swapComplete => Sys2Proof.Machine.execSwapComplete s
  | .crossfadeEnd d => Sys2Proof.Machine.execCrossfadeEnd d s
  | .paramCommand src w => Sys2Proof.Machine.execParamCommand src w s
  | .heldCommandApply => Sys2Proof.Machine.execHeldCommandApply s
  | .recallCommand src w => Sys2Proof.Machine.execRecallCommand src w s
  | .recallArm m scene => Sys2Proof.Machine.execRecallArm m scene s
  | .recallDisarm m => Sys2Proof.Machine.execRecallDisarm m s
  | .recallListChecked => Sys2Proof.Machine.execRecallListChecked s
  | .recallTimeout => Sys2Proof.Machine.execRecallTimeout s
  | .recallApply => Sys2Proof.Machine.execRecallApply s
  | .orcOwnWrite m n owner => Sys2Proof.Machine.execOrcOwnWrite m n owner s
  | .handoverDrainComplete n => Sys2Proof.Machine.execHandoverDrainComplete n s
  | .ownerGroupWrite m g k w => Sys2Proof.Machine.execOwnerGroupWrite m g k w s
  | .loanStart => Sys2Proof.Machine.execLoanStart s
  | .loanCopyComplete repair => Sys2Proof.Machine.execLoanCopyComplete repair s
  | .loanTestComplete repair pass => Sys2Proof.Machine.execLoanTestComplete repair pass s
  | .dmcEnable m => Sys2Proof.Machine.execDmcEnable m s
  | .dmcDisable m => Sys2Proof.Machine.execDmcDisable m s
  | .dmcTrainingComplete => Sys2Proof.Machine.execDmcTrainingComplete s
  | .dmcTrainingFailed => Sys2Proof.Machine.execDmcTrainingFailed s
  | .dmcShutdownComplete => Sys2Proof.Machine.execDmcShutdownComplete s
  | .portEnable m n => Sys2Proof.Machine.execPortEnable m n s
  | .portDisable m n => Sys2Proof.Machine.execPortDisable m n s
  | .portOn n => Sys2Proof.Machine.execPortOn n s
  | .portShutdownComplete n => Sys2Proof.Machine.execPortShutdownComplete n s
  | .portFramingError n => Sys2Proof.Machine.execPortFramingError n s
  | .portSlip x => Sys2Proof.Machine.execPortSlip x s
  | .portClockLost n rateErr => Sys2Proof.Machine.execPortClockLost n rateErr s
  | .portClockReturn n => Sys2Proof.Machine.execPortClockReturn n s
  | .maskWrite m n out mask => Sys2Proof.Machine.execMaskWrite m n out mask s
  | .maskApply n => Sys2Proof.Machine.execMaskApply n s
  | .portGroupArm m g => Sys2Proof.Machine.execPortGroupArm m g s
  | .portGroupDisarm m g => Sys2Proof.Machine.execPortGroupDisarm m g s
  | .portGroupStart g => Sys2Proof.Machine.execPortGroupStart g s
  | .asrcLock t ratio => Sys2Proof.Machine.execAsrcLock t ratio s
  | .asrcChannelOn c => Sys2Proof.Machine.execAsrcChannelOn c s
  | .asrcChannelOff c => Sys2Proof.Machine.execAsrcChannelOff c s
  | .asrcRangeError c => Sys2Proof.Machine.execAsrcRangeError c s
  | .asrcSpareTakeover c => Sys2Proof.Machine.execAsrcSpareTakeover c s
  | .aesRxEnable m r => Sys2Proof.Machine.execAesRxEnable m r s
  | .aesRxDisable m r => Sys2Proof.Machine.execAesRxDisable m r s
  | .aesRxLock r nom => Sys2Proof.Machine.execAesRxLock r nom s
  | .aesRxUnlock r => Sys2Proof.Machine.execAesRxUnlock r s
  | .aesBlockStored r u len cs us => Sys2Proof.Machine.execAesBlockStored r u len cs us s
  | .aesSubframeParityError r u => Sys2Proof.Machine.execAesSubframeParityError r u s
  | .aesTxEnable m t => Sys2Proof.Machine.execAesTxEnable m t s
  | .aesTxDisable m t => Sys2Proof.Machine.execAesTxDisable m t s
  | .aesTxOn t => Sys2Proof.Machine.execAesTxOn t s
  | .aesTxOff t => Sys2Proof.Machine.execAesTxOff t s
  | .aesTxCsWrite m t u user w => Sys2Proof.Machine.execAesTxCsWrite m t u user w s
  | .aesTxCsApply t => Sys2Proof.Machine.execAesTxCsApply t s
  | .timerEnable m n => Sys2Proof.Machine.execTimerEnable m n s
  | .timerDisable m n => Sys2Proof.Machine.execTimerDisable m n s
  | .timerStart n => Sys2Proof.Machine.execTimerStart n s
  | .lapStart n => Sys2Proof.Machine.execLapStart n s
  | .compareMatch n b => Sys2Proof.Machine.execCompareMatch n b s
  | .timerShutdownComplete n => Sys2Proof.Machine.execTimerShutdownComplete n s
  | .timerReloadWrite m n w => Sys2Proof.Machine.execTimerReloadWrite m n w s
  | .compareWrite m n b w => Sys2Proof.Machine.execCompareWrite m n b w s
  | .timerCntRead m n => Sys2Proof.Machine.execTimerCntRead m n s
  | .timerGroupArm m g => Sys2Proof.Machine.execTimerGroupArm m g s
  | .timerGroupDisarm m g => Sys2Proof.Machine.execTimerGroupDisarm m g s
  | .timerGroupGo m g => Sys2Proof.Machine.execTimerGroupGo m g s
  | .timerGroupStart g => Sys2Proof.Machine.execTimerGroupStart g s
  | .capture x => Sys2Proof.Machine.execCapture x s
  | .captRead m n => Sys2Proof.Machine.execCaptRead m n s
  | .swcap m n => Sys2Proof.Machine.execSwcap m n s
  | .uartEnable m n w => Sys2Proof.Machine.execUartEnable m n w s
  | .uartDisable m n w => Sys2Proof.Machine.execUartDisable m n w s
  | .uartOn n => Sys2Proof.Machine.execUartOn n s
  | .uartOff n => Sys2Proof.Machine.execUartOff n s
  | .characterReceived n start first data par stops => Sys2Proof.Machine.execCharacterReceived n start first data par stops s
  | .rxRead m n => Sys2Proof.Machine.execRxRead m n s
  | .txWrite m n data => Sys2Proof.Machine.execTxWrite m n data s
  | .characterTransmit x => Sys2Proof.Machine.execCharacterTransmit x s
  | .divisorWrite m n w => Sys2Proof.Machine.execDivisorWrite m n w s
  | .uartBreak n => Sys2Proof.Machine.execUartBreak n s
  | .lineRetire n => Sys2Proof.Machine.execLineRetire n s
  | .lineRearm m n w => Sys2Proof.Machine.execLineRearm m n w s
  | .recoveryRequest heldMs syncInTime sync => Sys2Proof.Machine.execRecoveryRequest heldMs syncInTime sync s
  | .uartWake n => Sys2Proof.Machine.execUartWake n s
  | .midiChannelMessage n => Sys2Proof.Machine.execMidiChannelMessage n s
  | .midiCommonMessage n => Sys2Proof.Machine.execMidiCommonMessage n s
  | .midiRealtimeMessage n => Sys2Proof.Machine.execMidiRealtimeMessage n s
  | .midiSysexEvent n => Sys2Proof.Machine.execMidiSysexEvent n s
  | .damsonEnable m n => Sys2Proof.Machine.execDamsonEnable m n s
  | .damsonDisable m n => Sys2Proof.Machine.execDamsonDisable m n s
  | .damsonOn n => Sys2Proof.Machine.execDamsonOn n s
  | .damsonOff n => Sys2Proof.Machine.execDamsonOff n s
  | .damsonCodeWrite m n code => Sys2Proof.Machine.execDamsonCodeWrite m n code s
  | .deglitchHoldEnd n => Sys2Proof.Machine.execDeglitchHoldEnd n s
  | .slewComplete n => Sys2Proof.Machine.execSlewComplete n s
  | .dacclrAssert => Sys2Proof.Machine.execDacclrAssert s
  | .dacclrRelease => Sys2Proof.Machine.execDacclrRelease s
  | .spanWrite m n span => Sys2Proof.Machine.execSpanWrite m n span s
  | .spanSafeReached n => Sys2Proof.Machine.execSpanSafeReached n s
  | .spanSwitch n => Sys2Proof.Machine.execSpanSwitch n s
  | .spanSettleEnd n => Sys2Proof.Machine.execSpanSettleEnd n s
  | .damsonStageSwap n => Sys2Proof.Machine.execDamsonStageSwap n s
  | .shortCircuitOnset n => Sys2Proof.Machine.execShortCircuitOnset n s
  | .shortCircuitCleared n => Sys2Proof.Machine.execShortCircuitCleared n s
  | .rotationConversion code => Sys2Proof.Machine.execRotationConversion code s
  | .scanConversion code => Sys2Proof.Machine.execScanConversion code s
  | .meterPeakRead m k => Sys2Proof.Machine.execMeterPeakRead m k s
  | .peakHoldExpire k => Sys2Proof.Machine.execPeakHoldExpire k s
  | .loudnessReset m g w => Sys2Proof.Machine.execLoudnessReset m g w s
  | .loudnessUpdate g => Sys2Proof.Machine.execLoudnessUpdate g s
  | .pcieRegisterAccess write addr w aligned => Sys2Proof.Machine.execPcieRegisterAccess write addr w aligned s
  | .pcieOrchardAccess write off bytes => Sys2Proof.Machine.execPcieOrchardAccess write off bytes s
  | .pcieDramAccess write off bytes => Sys2Proof.Machine.execPcieDramAccess write off bytes s
  | .pcieLinkChange up l1 width gen => Sys2Proof.Machine.execPcieLinkChange up l1 width gen s
  | .sequencedWriteGo m n => Sys2Proof.Machine.execSequencedWriteGo m n s
  | .spiWrite addr ws early => Sys2Proof.Machine.execSpiWrite addr ws early s
  | .spiRead addr len ready early => Sys2Proof.Machine.execSpiRead addr len ready early s
  | .spiSwrite addr seq ws early => Sys2Proof.Machine.execSpiSwrite addr seq ws early s
  | .spiStat => Sys2Proof.Machine.execSpiStat s
  | .spiBadCommand cmd => Sys2Proof.Machine.execSpiBadCommand cmd s
  | .hostStreamBlockWrite m w => Sys2Proof.Machine.execHostStreamBlockWrite m w s
  | .twinEnable m w => Sys2Proof.Machine.execTwinEnable m w s
  | .twinDisable m w => Sys2Proof.Machine.execTwinDisable m w s
  | .twinPartnerFound x => Sys2Proof.Machine.execTwinPartnerFound x s
  | .twinBootwaitExpire hb => Sys2Proof.Machine.execTwinBootwaitExpire hb s
  | .twinLaneEnable m l => Sys2Proof.Machine.execTwinLaneEnable m l s
  | .twinLaneDisable m l => Sys2Proof.Machine.execTwinLaneDisable m l s
  | .twinLaneCrcRetire l => Sys2Proof.Machine.execTwinLaneCrcRetire l s
  | .twinMirrorFrame seq crcOk tick item => Sys2Proof.Machine.execTwinMirrorFrame seq crcOk tick item s
  | .twinAckFrame seq a => Sys2Proof.Machine.execTwinAckFrame seq a s
  | .twinNakFrame seq crcOk => Sys2Proof.Machine.execTwinNakFrame seq crcOk s
  | .twinStatusFrame seq crcOk blk crc => Sys2Proof.Machine.execTwinStatusFrame seq crcOk blk crc s
  | .twinAudioFrame seq crcOk blk c xs => Sys2Proof.Machine.execTwinAudioFrame seq crcOk blk c xs s
  | .twinCopyFrame seq crcOk item => Sys2Proof.Machine.execTwinCopyFrame seq crcOk item s
  | .twinUpdateFrame seq crcOk bytes => Sys2Proof.Machine.execTwinUpdateFrame seq crcOk bytes s
  | .twinHandoverFrame seq crcOk => Sys2Proof.Machine.execTwinHandoverFrame seq crcOk s
  | .frameResendTimeout seq => Sys2Proof.Machine.execFrameResendTimeout seq s
  | .mirrorRelease => Sys2Proof.Machine.execMirrorRelease s
  | .resyncCopyComplete => Sys2Proof.Machine.execResyncCopyComplete s
  | .resyncEngineStart => Sys2Proof.Machine.execResyncEngineStart s
  | .resyncTimeout => Sys2Proof.Machine.execResyncTimeout s
  | .heartbeatSample level => Sys2Proof.Machine.execHeartbeatSample level s
  | .takeover => Sys2Proof.Machine.execTakeover s
  | .twinSwap m w => Sys2Proof.Machine.execTwinSwap m w s
  | .twinTake m w => Sys2Proof.Machine.execTwinTake m w s
  | .twinResync m w => Sys2Proof.Machine.execTwinResync m w s
  | .watchdogKick m w => Sys2Proof.Machine.execWatchdogKick m w s
  | .watchdogExpire => Sys2Proof.Machine.execWatchdogExpire s
  | .unfreezeResume m target => Sys2Proof.Machine.execUnfreezeResume m target s
  | .unfreezeAbandon m target => Sys2Proof.Machine.execUnfreezeAbandon m target s
  | .stewardRestart => Sys2Proof.Machine.execStewardRestart s
  | .rotationStart => Sys2Proof.Machine.execRotationStart s
  | .rotationCopyComplete => Sys2Proof.Machine.execRotationCopyComplete s
  | .rotationSwitch => Sys2Proof.Machine.execRotationSwitch s
  | .rotationTestComplete pass march => Sys2Proof.Machine.execRotationTestComplete pass march s
  | .ageingRead k slow => Sys2Proof.Machine.execAgeingRead k slow s
  | .sessionOpen m chain => Sys2Proof.Machine.execSessionOpen m chain s
  | .sessionClose m => Sys2Proof.Machine.execSessionClose m s
  | .sessionTimeout => Sys2Proof.Machine.execSessionTimeout s
  | .xferGo m w => Sys2Proof.Machine.execXferGo m w s
  | .pieceConsumed => Sys2Proof.Machine.execPieceConsumed s
  | .activationArm m => Sys2Proof.Machine.execActivationArm m s
  | .activationDisarm m => Sys2Proof.Machine.execActivationDisarm m s
  | .activationAtF => Sys2Proof.Machine.execActivationAtF s
  | .trialHealthy m => Sys2Proof.Machine.execTrialHealthy m s
  | .trialCommit m => Sys2Proof.Machine.execTrialCommit m s
  | .trialFail m => Sys2Proof.Machine.execTrialFail m s
  | .trialTimeout => Sys2Proof.Machine.execTrialTimeout s
  | .settingsCopyWrite format body readBack => Sys2Proof.Machine.execSettingsCopyWrite format body readBack s
  | .ownerCodeEntry m w => Sys2Proof.Machine.execOwnerCodeEntry m w s
  | .unlockLockoutEnd => Sys2Proof.Machine.execUnlockLockoutEnd s
  | .chainOffer h => Sys2Proof.Machine.execChainOffer h s
  | .chainData h bytes => Sys2Proof.Machine.execChainData h bytes s
  | .chainStaged h status => Sys2Proof.Machine.execChainStaged h status s
  | .chainArm h digest f => Sys2Proof.Machine.execChainArm h digest f s
  | .chainReady h => Sys2Proof.Machine.execChainReady h s
  | .chainGo h digest f => Sys2Proof.Machine.execChainGo h digest f s
  | .chainVersion h => Sys2Proof.Machine.execChainVersion h s
  | .chainCommit h => Sys2Proof.Machine.execChainCommit h s
  | .chainAbort h status => Sys2Proof.Machine.execChainAbort h status s
  | .rindInfo => Sys2Proof.Machine.execRindInfo s
  | .rindBaud n => Sys2Proof.Machine.execRindBaud n s
  | .rindCode digits => Sys2Proof.Machine.execRindCode digits s
  | .rindLoad n => Sys2Proof.Machine.execRindLoad n s
  | .rindLoadBlock k bytes crcOk => Sys2Proof.Machine.execRindLoadBlock k bytes crcOk s
  | .rindEraseset => Sys2Proof.Machine.execRindEraseset s
  | .rindBoot => Sys2Proof.Machine.execRindBoot s
  | .hello => Sys2Proof.Machine.execHello s
  | .ping => Sys2Proof.Machine.execPing s
  | .echoOn => Sys2Proof.Machine.execEchoOn s
  | .echoOff => Sys2Proof.Machine.execEchoOff s
  | .baud n => Sys2Proof.Machine.execBaud n s
  | .baudRevertTimeout => Sys2Proof.Machine.execBaudRevertTimeout s
  | .commandLineTooLong => Sys2Proof.Machine.execCommandLineTooLong s
  | .unknownCommand => Sys2Proof.Machine.execUnknownCommand s
  | .rd addr n => Sys2Proof.Machine.execRd addr n s
  | .wr addr w => Sys2Proof.Machine.execWr addr w s
  | .drive b l => Sys2Proof.Machine.execDrive b l s
  | .release b => Sys2Proof.Machine.execRelease b s
  | .read b samples => Sys2Proof.Machine.execRead b samples s
  | .loopUart n ext got => Sys2Proof.Machine.execLoopUart n ext got s
  | .loopPort n m seen => Sys2Proof.Machine.execLoopPort n m seen s
  | .loopAes t r lockMs cs => Sys2Proof.Machine.execLoopAes t r lockMs cs s
  | .dset n uv span => Sys2Proof.Machine.execDset n uv span s
  | .dsetHoldCheck n => Sys2Proof.Machine.execDsetHoldCheck n s
  | .dmeas n => Sys2Proof.Machine.execDmeas n s
  | .doff n => Sys2Proof.Machine.execDoff n s
  | .ain n => Sys2Proof.Machine.execAin n s
  | .mon => Sys2Proof.Machine.execMon s
  | .faults k => Sys2Proof.Machine.execFaults k s
  | .spares => Sys2Proof.Machine.execSpares s
  | .map => Sys2Proof.Machine.execMap s
  | .viol k => Sys2Proof.Machine.execViol k s
  | .unfreeze target abandon => Sys2Proof.Machine.execUnfreeze target abandon s
  | .code digits => Sys2Proof.Machine.execCode digits s
  | .updOpen => Sys2Proof.Machine.execUpdOpen s
  | .updLoad bytes => Sys2Proof.Machine.execUpdLoad bytes s
  | .updStat => Sys2Proof.Machine.execUpdStat s
  | .updArm rel t => Sys2Proof.Machine.execUpdArm rel t s
  | .updDisarm => Sys2Proof.Machine.execUpdDisarm s
  | .updCommit => Sys2Proof.Machine.execUpdCommit s
  | .updClose => Sys2Proof.Machine.execUpdClose s
  | .updInfo => Sys2Proof.Machine.execUpdInfo s
  | .recover => Sys2Proof.Machine.execRecover s
  | .serviceLinkRearm => Sys2Proof.Machine.execServiceLinkRearm s
  | .supplyBad k => Sys2Proof.Machine.execSupplyBad k s
  | .supplyGood k => Sys2Proof.Machine.execSupplyGood k s
  | .porstAssert low => Sys2Proof.Machine.execPorstAssert low s
  | .coldReset boot role => Sys2Proof.Machine.execColdReset boot role s
  | .digestCheckComplete good => Sys2Proof.Machine.execDigestCheckComplete good s
  | .firmwareStart => Sys2Proof.Machine.execFirmwareStart s
  | .warmReset boot => Sys2Proof.Machine.execWarmReset boot s
  | .sysRstWarm m boot => Sys2Proof.Machine.execSysRstWarm m boot s
  | .standbyRequest m w => Sys2Proof.Machine.execStandbyRequest m w s
  | .standbyEntered => Sys2Proof.Machine.execStandbyEntered s
  | .wake src => Sys2Proof.Machine.execWake src s
  | .wakeTimerExpire => Sys2Proof.Machine.execWakeTimerExpire s
  | .bypass => Sys2Proof.Machine.execBypass s
  | .samplePreload cells => Sys2Proof.Machine.execSamplePreload cells s
  | .extest => Sys2Proof.Machine.execExtest s
  | .idcode => Sys2Proof.Machine.execIdcode s
  | .highz => Sys2Proof.Machine.execHighz s
  | .clamp => Sys2Proof.Machine.execClamp s
  | .trstAssert => Sys2Proof.Machine.execTrstAssert s
  | .gpioEnable m n w => Sys2Proof.Machine.execGpioEnable m n w s
  | .gpioDisable m n w => Sys2Proof.Machine.execGpioDisable m n w s
  | .gpioEdge n rising => Sys2Proof.Machine.execGpioEdge n rising s
  | .syncoutStarted => Sys2Proof.Machine.execSyncoutStarted s
  | .syncoutStopped => Sys2Proof.Machine.execSyncoutStopped s
  | .asrcRangeReturn c => Sys2Proof.Machine.execAsrcRangeReturn c s
  | .asrcCoefficientParityError c again => Sys2Proof.Machine.execAsrcCoefficientParityError c again s
  | .twinLaneOn l => Sys2Proof.Machine.execTwinLaneOn l s

end Sys2Proof.Machine
end

