-- ==== Sys2Proof/Safety.lean ====
section
/-! DEFINITION. The terms in which claims are stated: what a command may have changed, which writes are performed at once,
and the form that the addressed memories keep. -/

namespace Sys2Proof.Machine

/-- Two memories in canonical form. -/
def memsOk (p : Mem × Mem) : Prop := Memory.wf p.1 = true ∧ Memory.wf p.2 = true

namespace State

/-- The memories behind the address map: Orchard (R248) and external memory (R265). -/
def mems (s : State) : Mem × Mem := (s.orchard, s.dram)

/-- Both addressed memories are in canonical form. -/
def MemOk (s : State) : Prop := memsOk s.mems

/-- From `s` to `t` no register field outside `fs` changes, and nothing that is no register field. -/
def OnlyRegs (s t : State) (fs : List Fld) : Prop :=
  t = { s with regs := t.regs } ∧
  ∀ f : Fld, (f.id, f.ix) ∉ fs.map (fun g => (g.id, g.ix)) → t.get f = s.get f

/-- The same, but that deliveries of unit events may have become due. -/
def OnlyRegsEv (s t : State) (fs : List Fld) : Prop :=
  t = { s with regs := t.regs, toDeliver := t.toDeliver } ∧
  ∀ f : Fld, (f.id, f.ix) ∉ fs.map (fun g => (g.id, g.ix)) → t.get f = s.get f

/-- The same, but that free values may have been taken too. -/
def OnlyRegsFree (s t : State) (fs : List Fld) : Prop :=
  t = { s with regs := t.regs, toDeliver := t.toDeliver, free := t.free } ∧
  ∀ f : Fld, (f.id, f.ix) ∉ fs.map (fun g => (g.id, g.ix)) → t.get f = s.get f

/-- No register field outside `fs` changes, neither addressed memory does, nor FRC, nor the queue. -/
def KeepsRegs (s t : State) (fs : List Fld) : Prop :=
  (t.mems = s.mems ∧ t.frc = s.frc ∧ t.pending = s.pending) ∧
  ∀ f : Fld, (f.id, f.ix) ∉ fs.map (fun g => (g.id, g.ix)) → t.get f = s.get f

/-- No register field outside `fs` changes. -/
def KeepsFields (s t : State) (fs : List Fld) : Prop :=
  ∀ f : Fld, (f.id, f.ix) ∉ fs.map (fun g => (g.id, g.ix)) → t.get f = s.get f

/-- No register field of another name than those in `fs` changes, whatever its index. -/
def KeepsNames (s t : State) (fs : List Fld) : Prop := ∀ f : Fld, f.id ∉ fs.map (fun g => g.id) → t.get f = s.get f

/-- A register write of master `m` at `addr` is performed at once: the master is not frozen, may write there, and neither
waits behind a held post nor is the twin's to decide (R369, R376, R381, R397). -/
def performs (s : State) (m : Master) (addr : Nat) : Bool :=
  !(decide (m = .pcie) && s.pcieBusy) && !(s.isFrozen m.id && !(isHost m && decide (addr < 0x10000))) &&
  !regwin m addr && !(isHost m && !pairLocal addr && (s.standby || s.mirrors))

/-- A register read of master `m` at `addr` is answered at once: the port is not frozen out of the address, and no post
held for PCIe stands before it (R369, R376). -/
def reads (s : State) (m : Master) (addr : Nat) : Bool :=
  !(decide (m = .pcie) && s.pcieBusy) && !(s.isFrozen m.id && !(isHost m && decide (addr < 0x10000)))

/-- The claim slots that a feature holds, and may leave when it lets go of them all (R34). -/
def heldSlots (s : State) (fid : Nat) : List Fld :=
  (s.regs.filter (fun e => decide (e.1.1 = (F.SYS_CLAIM_OWNER 0).id) && decide (e.2 = fid))).map
    (fun e => F.SYS_CLAIM_OWNER e.1.2)

/-- What a qualification gate of entry `i` writes: its state, and its setting in effect (R48, R56). -/
def refFields (i : Nat) : List Fld :=
  [F.CLK_REFPRI_QUAL i, F.CLK_REFPRI_REJ i, I.REF_EN i, I.REF_KIND i, I.REF_INST i]

/-- What a change of the clock unit's mode writes beside MODE: the offset of the root, of the reference and of the word that
HOLDOVER holds (R51, R54, R57), the active reference and the runs of glitches (R50, R52). -/
def modeFields : List Fld :=
  [F.CLK_STAT_MODE, F.CLK_STAT_ACTIVE, F.CLK_EVT_EVT, F.CLK_PPM_PPM, I.CLK_WORDAT, I.CLK_REFPPM, I.CLK_HELD, I.CLK_HELDAT,
    I.CLK_LOST, I.CLK_HOEXP, I.CLK_GLRUN]

/-- The image and the segments of pip `p` can be read where its words say (R171). -/
def sourcesOk (s : State) (p : Nat) : Bool :=
  let copy := s.pipWords p
  let img := natBits (copy.getD 0 0) 31 16
  !s.srcUnmapped (s.on (F.QN_IMG1_D img)) (16 * (s.get (F.QN_IMG0_SRCW img) + 2 ^ 32 * s.get (F.QN_IMG1_SRCWH img)))
    (16 * s.get (F.QN_IMG1_LENW img)) &&
  (List.range 4).all (fun k => !s.srcUnmapped (copySeg copy k).2.1 (copySeg copy k).1 (copySeg copy k).2.2.2)

/-- What the removal of the NEXT pip of core `n` writes (R168). -/
def returnFields (s : State) (n : Nat) : List Fld :=
  match (s.core n).next with
  | none => []
  | some r => match r.ev with
    | some e => [F.PIP13_STATE e.pip, F.PIP13_QCOUNT e.pip]
    | none => [F.PIP13_STATE r.pip]

/-- What a start of timer channel `k` writes (R303, R308). -/
def tmStartFields (k : Nat) : List Fld :=
  [I.TMR_BASE k, I.TMR_AT k, I.TMR_RUN k, F.TMR_CTRL_STATE k, I.TMR_MA k, I.TMR_MB k, I.TMR_WA k, I.TMR_WB k,
    F.TMR_STAT_LEVEL k, F.TMR_STAT_EVT k]

/-- What the steps of timer channel `k` write, its lap start included (R297, R298, R306 to R308, R310). -/
def tmLapFields (k : Nat) : List Fld :=
  [I.TMR_BASE k, I.TMR_AT k, I.TMR_RLD k, I.TMR_OUTE k, I.TMR_MA k, I.TMR_MB k, I.TMR_WA k, I.TMR_WB k, I.TMR_PA k,
    I.TMR_PB k, F.TMR_CMPA_V k, F.TMR_CMPB_V k, F.TMR_STAT_APEND k, F.TMR_STAT_BPEND k, F.TMR_STAT_LEVEL k, F.TMR_STAT_EVT k]

/-- Edge `e` can be reached within the present sample, and until then nothing happens to a timer but to the cascade whose
lowest channel is `n` (R297). -/
def tmAlone (s : State) (n e : Nat) : Bool :=
  s.tclkRuns && decide (e ≤ s.tclk + s.sampleTclks) && decide (s.tmActive = [n]) &&
  (List.range 8).all (fun g => s.get (F.TMR_GRP_STATE g) == 0)

/-- The register places of the pip store (R152), of any pip. -/
def pipNames : List Fld :=
  [F.PIP0_IMAGE 0, F.PIP0_MBZ 0, F.PIP0_ENTRY 0, F.PIP1_CLASS 0, F.PIP1_REC 0, F.PIP1_EN 0, F.PIP1_SINK 0, F.PIP1_GL 0,
    F.PIP1_SER 0, F.PIP1_AFF 0, F.PIP1_TS 0, F.PIP1_MBZ 0, F.PIP1_DEP 0, F.PIP2_SL 0, F.PIP2_MBZ 0, F.PIP2_SLIST 0,
    F.PIP3_ARG0 0, F.PIP4_ARG1 0, F.PIPSA_SRCW 0 0, F.PIPSB_D 0 0, F.PIPSB_SRCWH 0 0, F.PIPSB_DSTW 0 0, F.PIPSB_MBZ 0 0,
    F.PIPSB_LENW 0 0, F.PIP13_STATE 0, F.PIP13_QCOUNT 0, F.PIP13_CNT 0, F.PIP14_LASTBLK 0, I.PIP_DONE 0, I.PIP_ARM 0,
    I.PIP_BLK 0, I.PIP_RDY 0]

/-- The register places that the taking of a word other than NOTE_ON may write (R177, R181, R183, R194). -/
def wordNames : List Fld :=
  [F.VT0_STATE 0, F.VM_ORPHANS_N, F.VM_EVT_EVT, F.QN_EVQ_USED, F.QN_MAXQ_N, F.QN_EVT_EVT]

/-- The register places of a voice slot and of the notes' numbers (R176, R178). -/
def slotNames : List Fld :=
  [F.VT0_STATE 0, F.VT0_DET 0, F.VT0_NEW 0, F.VT0_LAYER 0, F.VT0_GROUP 0, F.VT0_NOTE 0, F.VT1_FIRST 0, F.VT2_FRCLO 0,
    F.VT3_FRCHI 0, F.VT4_LEVEL 0, F.VT5_FADEEND 0, I.VT_NUM 0, I.VM_NUM]

/-- The word would start a note at once: its note ID is free, no limit is exceeded and slots enough are IDLE (R185). -/
def roomFor (s : State) (w : Nat) : Bool :=
  let g := vwGroup w
  let L := s.get (F.VM_GRP0_LAYERS g) + 1
  decide (vwNote w ≠ 0xFFFF) && (s.addressed g (vwNote w)).isNone && !s.vmBad &&
  decide (s.groupPlaying g + L ≤ s.get (F.VM_GRP0_GLIM g)) &&
  decide (s.playing + L + s.get F.VM_CTRL_RESERVE ≤ s.get F.VM_CTRL_SLOTS) && decide (L ≤ s.idleSlots.length)

/-- The slots that the word's note would take: the lowest IDLE ones (R190). -/
def slotsFor (s : State) (w : Nat) : List Nat := s.idleSlots.take (s.get (F.VM_GRP0_LAYERS (vwGroup w)) + 1)

/-- The first READY word of a group (R188). -/
def firstOf (s : State) (g : Nat) : Option VWord := s.vm.words.find? (fun v => v.ready && decide (vwGroup v.word = g))

/-- The attach store holds `k` events more (R183). -/
def roomToAttach (s : State) (k : Nat) : Bool := decide (s.vm.attach.length + k ≤ 8192)

/-- One word of the master's handling, attached to every slot of a note for the block handled (R183). -/
def attachedTo (s : State) (num w : Nat) : List Attach :=
  (s.noteSlots num).map (fun k => { slot := k, blk := s.handledBlk, word := w })

/-- The word `v` is the one taken next and had not to wait, it is this row's, the voice manager is ON and the group enabled
(R181, R202, R203). -/
def takesNow (s : State) (type src w : Nat) (v : VWord) : Bool :=
  decide (s.nextWord = some v) && v.wait.isNone && decide (v.word = w) && decide (v.src = src) && decide (vwType w = type) &&
  decide (s.get F.VM_STAT_STATE = unitON) && s.on (F.VM_GRP0_EN (vwGroup w))

/-- The register places of the ASRC channels and of their trackers (R283 to R286). -/
def asrcNames : List Fld :=
  [I.ASRC_EN 0, F.ASRC_CH_OWNER 0, F.ASRC_CH_DIR 0, F.ASRC_CH_STATE 0, F.ASRC_CH_FREEW 0, F.ASRC_CH_RANGE 0,
    F.ASRC_CH_LOCK 0, F.ASRC_RATIO_R 0, I.ASRC_ATT 0, I.ASRC_ACC 0, I.TRK_LOCK 0, F.ASRC_EVT_EVT]

/-- What the start of port `n` writes (R276 to R278). -/
def portStart (n : Nat) : List Fld :=
  [F.AP_CTRL_STATE n, F.AP_CTRL_STATUS n, F.AP_STAT_CLKLOSS n, F.AP_STAT_RATEERR n, F.AP_STAT_GWAIT n, F.AP_STAT_FLENM n,
    F.AP_FRATE_R n, I.AP_JOIN n, I.AP_FRM n, I.AP_ACC n, I.AP_STOP n, I.AP_FERR n, I.AP_FBAD n, I.AP_HIZ n]

/-- The fields of the ASRC channels that a feature uses: `f` of each. -/
def chFields (s : State) (fid : Nat) (f : Nat → Fld) : List Fld := (s.asrcOf fid).map f

/-- Where the loss of a source is recorded (R224). -/
def lostNames : List Fld := [F.BRM_LOSTSRC_REASON, F.BRM_LOSTSRC_SRC, F.BRM_EVT_EVT]

/-- Where a fault is logged (R408, R416). -/
def faultNames : List Fld := [F.MDL_LOG_W 0 0, F.MDL_LOGHEAD_NEXT, F.MDL_LOGHEAD_WRAP, I.MDL_LOGN, F.MDL_EVT_EVT]

/-- Where the post of an event is shown (R152, R162 to R166). -/
def postNames : List Fld :=
  [F.QN_EVQ_USED, F.QN_MAXQ_N, F.QN_EVT_EVT, I.QN_ARR, I.QN_RDY, F.QN_LATE_N, F.PIP13_STATE 0, F.PIP13_QCOUNT 0]

/-- The head of UART `n`'s FIFO without errors, and the parser outside SysEx or in it (R331). -/
def uHead (s : State) (n : Nat) (c : RxChar) (sysex : Option (List Nat)) (msg : List Nat) : Bool :=
  s.uMidi n && s.uRxLive n && decide ((s.uart n).rx.head? = some c) && !c.ferr && !c.perr &&
  decide ((s.uart n).sysex = sysex) && decide ((s.uart n).msg = msg)

/-- A post of UART `n` enters Quince's queue at once (R164, R166, R381). -/
def uPosts (s : State) (n : Nat) : Bool :=
  let p := s.get (F.U_MIDI_PIP n)
  !s.standby && !s.mirrors && !s.wouldHold p (0xF0 + n) && (s.postReason p (s.postLevel p)).isNone

/-- The slew limiter's fields of Damson channel `n` (R338, R339). -/
def slewFields (n : Nat) : List Fld :=
  [I.DMS_FROM n, I.DMS_TO n, I.DMS_SAT n, F.DMS_STAT_SLEWING n, F.DMS_STAT_HOLDING n]

/-- Where the ramp of Damson channel `n`'s stream is kept (R343, R344, R346). -/
def rampFields (n : Nat) : List Fld := [I.DMS_RDIR n, I.DMS_RAT n]

/-- Currant runs, and a conversion slot of the rotation, or of the scan list, falls in the present sample (R351, R352). -/
def converts (s : State) (rot : Bool) : Bool :=
  decide (s.get I.CUR_EN ≠ 0) && decide (s.get F.SYS_PWR_STATE ≠ 3) && !s.on I.PW_HOLD &&
  decide (192 * s.curSlot rot < s.get I.PCLK + 4 * s.sampleTclks)

/-- The words that a read of a meter's peaks returns and latches (R360, R503). -/
def meterWords (s : State) (k : Nat) : List Nat :=
  [s.regWord (0xF4000 + 16 * k), s.meterWord1 k, 0, s.regWord (0xF400C + 16 * k)]

/-- The machine after a warm reset by `cause` with the straps `boot` (R474, R476): FRC, the memories, the waiting commands and
Medlar's map are kept, the engine is STOPPED and nothing waits in Quince. -/
abbrev WarmDone (s t : State) (cause : Fld) (boot : Nat) : Prop :=
  t.frc = s.frc ∧ t.mems = s.mems ∧ t.pending = s.pending ∧ t.get cause = 1 ∧ t.get F.SYS_RSTCAUSE_BOOT = boot % 4 ∧
  t.get F.SYS_ENGINE_STATE = 0 ∧ t.qn.queue = [] ∧ t.vm.words = [] ∧ t.svc.drives = [] ∧
  ∀ k, t.get (F.MDL_MAP_PHYS k) = s.get (F.MDL_MAP_PHYS k)

/-- From `s` to `t` only register fields, the twin link's frames and the events due change. -/
abbrev OnlyTwin (s t : State) (fs : List Fld) : Prop :=
  t = { s with regs := t.regs, toDeliver := t.toDeliver, twin := t.twin } ∧ s.KeepsFields t fs

/-- A numbered frame was taken: the next number is expected, the partner is there, and an ACK is sent with the credits that
it grants, for a MIRROR frame (`k` = 1) one more (R384, R385). -/
abbrev Acked (s t : State) (seq k : Nat) : Prop :=
  t.get I.TWN_RXSEQ = (seq + 1) % 2 ^ 24 ∧ t.get I.TWN_LOST = 0 ∧
  t.get I.TWN_OWED = (s.get I.TWN_OWED + k - s.grant k) % 256 ∧
  t.twin.tx = (s.twin.tx ++ [(⟨seq, 2, 0, none, [s.grant k], 0, true, s.get I.PCLK⟩ : TxFrame)]).drop
    (s.twin.tx.length + 1 - 256)

/-- The number of the next frame is `seq` and the link is up: the frame is received in order (R385). -/
def inTurn (s : State) (seq : Nat) : Bool := s.linkUp && decide (s.get I.TWN_RXSEQ = seq)

/-- What the change of a role writes (R378, R380). -/
def roleNames : List Fld := [F.TWN_STAT_ROLE, F.TWN_EVT_EVT] ++ modeFields

/-- What the start of the active chip's copies writes (R388). -/
def copyNames : List Fld := [F.TWN_STAT_SYNC, I.TWN_MATCH, I.TWN_CPD, I.TWN_RSAT, I.TWN_CPASS, I.TWN_CPOS, F.TWN_EVT_EVT]

/-- What the start of resynchronisation writes (R388): on the standby the engine stops. -/
def resyncNames : List Fld :=
  copyNames ++ [I.ENG_STOPP, I.ENG_LANDED, I.ENG_RESTART, F.SYS_ENGINE_RUN, F.SYS_ENGINE_STATE, F.SYS_PWR_STATE,
    F.SYS_EVT_STATE, I.PH_P 0, I.PH_D 0, I.PH_G 0]

/-- Resynchronisation began between `s` and `t` (R388, steps 1 and 2): RESYNC, or NONE between images that differ, no match
counted, the time of it kept, and a standby's engine STOPPED. -/
abbrev Resyncs (s t : State) : Prop :=
  t.get F.TWN_STAT_SYNC = b2n (t.on I.TWN_SAME) ∧ t.get I.TWN_MATCH = 0 ∧ t.get I.TWN_RSAT = s.get I.PCLK % 2 ^ 64 ∧
  t.get F.TWN_EVT_EVT / 32 % 2 = 1 ∧ (t.get F.TWN_STAT_ROLE = 2 → t.get F.SYS_ENGINE_STATE = 0) ∧
  t.twin.items = s.twin.items ∧ t.mems = s.mems ∧ t.frc = s.frc ∧ t.cores = s.cores ∧ t.qn = s.qn ∧ t.pending = s.pending

/-- Where the free spares are counted (R405, R411). -/
def spareNames : List Fld := [F.MDL_SPARES_CORES, F.MDL_SPARES_BANKS, F.ORC_STAT_FREE, F.MDL_SPARES_ASRC]

/-- Where the units tested are counted (R406). -/
def coverNames : List Fld := [F.MDL_COVER_BTESTED, F.MDL_COVER_CTESTED]

/-- The service link answered with `lines`, and besides them only register fields in `fs` changed (R451, R452). -/
abbrev Replies (s t : State) (lines : List String) (fs : List Fld) : Prop :=
  t = { s with regs := t.regs, svc := { s.svc with out := lines } } ∧ s.KeepsFields t (I.SL_NEW :: fs)

/-- The register places of the UARTs, of claims, and of a read's reply (R34, R315 to R332). -/
def uartNames : List Fld :=
  [F.U_CTRL_STATUS 0, F.U_CTRL_WAKE 0, F.U_CTRL_LOOP 0, F.U_CTRL_DRAIN 0, F.U_CTRL_EN 0, F.U_CTRL_STATE 0,
    F.U_CFG_MIDI 0, F.U_CFG_FLOW 0, F.U_CFG_STOP 0, F.U_CFG_PAR 0, F.U_CFG_DBITS 0, F.U_DIV_DIVI 0, F.U_DIV_DIVF 0,
    F.U_FLOW_TXTHR 0, F.U_FLOW_RXTHR 0, F.U_FLOW_RTSHI 0, F.U_FLOW_RTSLO 0, F.U_STAT_LINE_LVL 0, F.U_STAT_RXST 0,
    F.U_STAT_DPEND 0, F.U_STAT_CTS 0, F.U_STAT_RTS 0, F.U_EVT_EVT 0, F.U_CNT_OVR 0, F.U_CNT_ERR 0, F.U_CNT_BRK 0,
    F.U_CNT_NOISE 0, F.U_LINE_REARM 0, F.U_LINE_LINEFAULT_T 0, F.U_MIDI_DROPAS 0, F.U_MIDI_DROPCLK 0, F.U_MIDI_PIP 0,
    F.U_MIDIDLY_DELAY 0, I.U_DIVE 0, I.U_TXEND 0, I.U_DIVR 0, I.U_TPEND 0,
    I.U_RPEND 0, I.U_RXON 0, I.U_EDGE 0, I.U_TXSH 0, I.U_TXAT 0, I.U_HIZ 0, F.SYS_CLAIM_OWNER 0, F.SYS_CLAIMSTAT_CLAIM_OWNER,
    F.SYS_CLAIMSTAT_SLOT, F.SYS_CLAIMREQ_REQUESTER, F.SYS_CLAIMREQ_STATUS, F.SYS_EVT_CONFLICT, I.RDATA 0]

/-- The register places of Damson's channels, and what `DSET` keeps of one (R333 to R350, R463, R464). -/
def dmsNames : List Fld :=
  [F.DMS_GSTAT_CLRLVL, F.DMS_GSTAT_SPOK, F.DMS_CTRL_STATUS 0, F.DMS_CTRL_EN 0, F.DMS_CTRL_STATE 0, F.DMS_CFG_MODE 0,
    F.DMS_CFG_INIT_SRC 0, F.DMS_CFG_SAFESEL 0, F.DMS_SPAN_PEND 0, F.DMS_SPAN_ACTIVE 0, F.DMS_SPAN_SPAN 0,
    F.DMS_CODE_C 0, F.DMS_CLRCODE_C 0, F.DMS_INITCODE_C 0, F.DMS_DGL_HOLD 0, F.DMS_DGL_THR 0, F.DMS_SLEW_CLR_EN 0,
    F.DMS_SLEW_SLEWT 0, F.DMS_STAT_CW 0, F.DMS_STAT_RET 0, F.DMS_STAT_SPOK 0, F.DMS_STAT_STAGE 0, F.DMS_STAT_DRV 0,
    F.DMS_STAT_SC 0, F.DMS_STAT_FORCED 0, F.DMS_STAT_SLEWING 0, F.DMS_STAT_HOLDING 0, F.DMS_EVT_EVT 0, I.DMS_TGT 0,
    I.DMS_DUE 0, I.DMS_RDIR 0, I.DMS_RAT 0,
    I.DMS_FROM 0, I.DMS_TO 0, I.DMS_SAT 0, I.DMS_PH 0, I.DMS_NSPAN 0, I.DMS_HELD 0, I.DMS_LOW, I.DMS_OUTER,
    I.DMS_UNFIT 0, I.DMS_SWAP 0, I.DSET_ON 0, I.DSET_CFG 0, I.DSET_SPAN 0, I.DSET_CODE 0]

/-- The register places of the AES3 transceivers and their claims (R34, R289 to R295). -/
def aesNames : List Fld :=
  [F.AES_RXCTRL_STATUS 0, F.AES_RXCTRL_EN 0, F.AES_RXCTRL_STATE 0, F.AES_RXCFG_PATH 0, F.AES_RXCFG_VMUTE 0,
    F.AES_RXCFG_ABASE 0, F.AES_RXSTAT_NOM 0, F.AES_RXSTAT_CRCERR 0, F.AES_RXSTAT_PRO 0, F.AES_RXSTAT_LOCK 0,
    F.AES_RXEVT_EVT 0, F.AES_RXCNT_PERR 0, F.AES_RXCNT_BLKERR 0, F.AES_RXCS0_W 0 0, F.AES_RXU0_W 0 0,
    F.AES_RXCS1_W 0 0, F.AES_RXU1_W 0 0, F.AES_TXCTRL_STATUS 0, F.AES_TXCTRL_EN 0, F.AES_TXCTRL_STATE 0,
    F.AES_TXCFG_PATH 0, F.AES_TXCFG_VAUTO 0, F.AES_TXCFG_VAL 0, F.AES_TXCFG_CSSEP 0, F.AES_TXCFG_CRCGEN 0,
    F.AES_TXCFG_UEN 0, F.AES_TXCFG_SRC 0, F.AES_TXCFG_RX 0, F.AES_TXCFG_NOM 0, F.AES_TXCFG_ABASE 0,
    F.AES_TXEVT_EVT 0, F.AES_TXCS0_W 0 0, F.AES_TXU0_W 0 0, F.AES_TXCS1_W 0 0, F.AES_TXU1_W 0 0, I.AES_TXP 0,
    I.AES_TXE 0, I.AES_REP 0, I.AES_ATT 0, I.RX_RATE 0, I.TX_ACC 0, I.TX_FRM 0, I.TX_END 0, I.TX_ZAT 0, I.TX_HIZ 0,
    I.AES_TXS 0, I.AES_TXAT 0, F.SYS_CLAIM_OWNER 0, F.SYS_CLAIMSTAT_CLAIM_OWNER, F.SYS_CLAIMSTAT_SLOT, F.SYS_CLAIMREQ_REQUESTER,
    F.SYS_CLAIMREQ_STATUS, F.SYS_EVT_CONFLICT]

end State

/-! ### Instructions -/

/-- Register `idx` as an instruction `k` issue slots after the next one reads it, if none writes it in between (R77). -/
def Bank.readIn (b : Bank) (k idx : Nat) : Nat := ({ b with n := b.n + k } : Bank).settle.rd idx

/-- A 32-bit result that SAT clamps, or that wraps (R81, R110). -/
abbrev Narrowed (sat : Bool) (v : Nat) (z : Int) : Prop :=
  (sat = false → (v : Int) = z % 2 ^ 32) ∧ (sat = true → sint 32 v = max (-(2 ^ 31)) (min (2 ^ 31 - 1) z))

/-- A 72-bit result modulo 2⁷² (R80). -/
abbrev Wrapped (v : Nat) (z : Int) : Prop := (v : Int) = z % 2 ^ 72

namespace Seen

/-- The parallel move of the instruction does what it does within the core: it is no violation, waits for nothing, meets no
error of a memory, and is no register access of the steward's (R107 to R109, R151). -/
def moves (x : Seen) : Bool :=
  match x.move with
  | .go e => e.regLoad.isNone && e.regStore.isNone && e.flawed.isEmpty
  | _ => false

/-- What that move does. -/
def moved (x : Seen) : Eff :=
  match x.move with
  | .go e => e
  | _ => Eff.none

end Seen

namespace State

/-- Core `n` stands at an issue slot with nothing against its fetch (R74, R78, R98). -/
def ready (s : State) (n : Nat) : Bool := s.canIssue n && (s.fetchBad n).isNone

/-- The active bank of core `n`. -/
def liveBank (s : State) (n : Nat) : Bank := activeBank (s.core n)

/-- Besides its move's effect, going on and `f`, the instruction that core `n` issued left results for the registers `dst`
in its bank, and nothing else: no other core, register or memory changes (R77, R106). -/
abbrev ResultsAnd (s t : State) (n : Nat) (i : CoreWord) (dst : List Nat) (f : Bank → Bank) : Prop :=
  let c := coreAfter (s.seen n i) (s.seen n i).moved
  t = s.setCore n (withActive c { f (activeBank c) with pend := (t.liveBank n).pend }) ∧
  (t.liveBank n).pend.take (activeBank c).pend.length = (activeBank c).pend ∧
  ∀ p ∈ (t.liveBank n).pend.drop (activeBank c).pend.length, p.idx ∈ dst

/-- The same with no change but the results. -/
abbrev ResultsOnly (s t : State) (n : Nat) (i : CoreWord) (dst : List Nat) : Prop := ResultsAnd s t n i dst id

/-- Core `n` went on past the instruction it issued: only that core changes, in it only its active bank, DMEM and its
posted stores, and in the bank only what is about to become visible; a store leaves no error of DMEM behind (R260). -/
abbrev WentOn (s t : State) (n : Nat) (i : CoreWord) : Prop :=
  t = s.setCore n (t.core n) ∧
  t.liveBank n = { (s.seen n i).b.advance (pcMod n) with
    pend := (t.liveBank n).pend, ovl := (t.liveBank n).ovl, load := (t.liveBank n).load, n := (s.liveBank n).n + 1 } ∧
  t.core n = { withActive (s.seen n i).c (t.liveBank n) with
    dmem := (t.core n).dmem, flaws := (t.core n).flaws, stores := (t.core n).stores, stall := false,
    lastPc := (s.liveBank n).pc, lastBank := (s.core n).shadow } ∧
  ∀ f ∈ (t.core n).flaws, f ∈ (s.core n).flaws

/-- Core `n` issued an instruction without a move, and its bank became `b`: nothing else of the machine changes. -/
abbrev FlowsTo (s t : State) (n : Nat) (i : CoreWord) (b : Bank) : Prop :=
  t = s.setCore n { withActive (s.seen n i).c { b with n := (s.seen n i).b.n + 1 } with
    stall := false, lastPc := (s.seen n i).b.pc, lastBank := (s.seen n i).c.shadow }

/-- The lanes of V register `r`, and those with the flag SV, as destinations. -/
def vDst (r : Fin 32) : List Nat := [0, 1, 2, 3].map (fun l => ixV r l)
def fDst (r : Fin 32) : List Nat := ixSV :: vDst r
/-- The lanes of accumulator `k` as a destination. -/
def aDst (k : Fin 4) : List Nat := [0, 1, 2, 3].flatMap (fun l => [ixAdd k l, ixAcc k l])

end State

end Sys2Proof.Machine
end

