-- ==== Sys2Proof/Certificates/Slice0/Obligations.lean ====
section
/-! DEFINITION. The statements for the provers: that the commands of each family complete and with what effect and frame,
the queue, the rules cited one by one, and the invariant of every step. Each clause of a completion statement names a
command, conditions on the state and the operands alone, and the next state: the fields that the rules give, and everything
that stays. -/

open Sys2Proof Sys2Proof.Machine

/-- The queue is first in, first out: a step with a command in front is that command on the rest of the queue. Where
the spec leaves a point open the clauses follow the model's choices: log entry 138. -/
def Obligations.StepRunsTheFrontCommand : Prop :=
  ∀ (s : State) (c : Instr) (rest : List Instr), s.pending = c :: rest → step s = exec c { s with pending := rest }

/-- R10, R11, R13, R139, R154, R376, R381, R396 to R400, R503, R505: a register write or read that reaches its
register does what the register's access type says, and one that does not is queued, discarded and counted, or a
violation. Where the spec leaves a point open the clauses follow the model's choices: log entries 16, 18. -/
def Obligations.RegisterAccessesComplete : Prop :=
  ∀ (s : State) (m : Master) (w : Word),
    (∀ a : BitVec 24, s.performs m a.toNat = true → a.toNat % 4 ≠ 0 →
      ∃ t, exec (.registerWrite m a w) s = .next t ∧ t = s) ∧
    (s.performs m 0x11000C = true →
      ∃ t, exec (.registerWrite m 0x11000C w) s = .next t ∧ t.get F.TWN_TIME_LEADT = natBits w.toNat 7 0 ∧
        t.get F.TWN_TIME_RSYNC_T = natBits w.toNat 15 8 ∧ t.get F.TWN_TIME_BOOTWAIT = natBits w.toNat 23 16 ∧
        t.get F.TWN_CTRL_STATUS = stOK ∧
        s.OnlyRegs t [F.TWN_TIME_LEADT, F.TWN_TIME_RSYNC_T, F.TWN_TIME_BOOTWAIT, F.TWN_CTRL_STATUS]) ∧
    (∀ p : Fin 16384, s.performs m (0xC00000 + 64 * p + 12) = true → s.vmPip p = false → s.get (F.PIP1_EN p) = 0 →
      ∃ t, exec (.registerWrite m (BitVec.ofNat 24 (0xC00000 + 64 * p + 12)) w) s = .next t ∧
        t.get (F.PIP3_ARG0 p) = w.toNat ∧ t.get F.QN_STAT_STATUS = stOK ∧
        s.OnlyRegs t [F.PIP3_ARG0 p, F.QN_STAT_STATUS]) ∧
    (∀ p : Fin 16384, s.performs m (0xC00000 + 64 * p + 12) = true → s.vmPip p = false → s.get (F.PIP1_EN p) ≠ 0 →
      ∃ t, exec (.registerWrite m (BitVec.ofNat 24 (0xC00000 + 64 * p + 12)) w) s = .next t ∧
        t.get F.QN_STAT_STATUS = stBUSY ∧ s.OnlyRegs t [F.QN_STAT_STATUS]) ∧
    (∀ a : BitVec 24, m = .spi → s.isFrozen m.id = true → 0x10000 ≤ a.toNat →
      ∃ t, exec (.registerWrite m a w) s = .next t ∧ t.get F.HIF_ERR_SPI = min (s.get F.HIF_ERR_SPI + 1) (2 ^ 16 - 1) ∧
        s.OnlyRegs t [F.HIF_ERR_SPI]) ∧
    (∀ a : BitVec 24, m = .spi → s.isFrozen m.id = false → regwin m a.toNat = true →
      ∃ t, exec (.registerWrite m a w) s = .next t ∧ t.isFrozen m.id = true ∧
        t.get (F.PRT_VLOG_W 0 0) = 8 * 2 ^ 24 + 0x59 * 2 ^ 16 ∧ t.get (F.PRT_VLOG_W 0 1) = a.toNat ∧
        t.get F.PRT_VCNT_N = min (s.get F.PRT_VCNT_N + 1) (2 ^ 16 - 1) ∧ t.get F.PRT_EVT_EVT % 2 = 1 ∧
        t.get F.HIF_ERR_SPI = min (s.get F.HIF_ERR_SPI + 1) (2 ^ 16 - 1) ∧
        t = { s with regs := t.regs, toDeliver := t.toDeliver } ∧
        s.KeepsNames t [F.PRT_VLOG_W 0 0, I.VREC 0, F.PRT_VCNT_N, F.PRT_FROZEN_M 0, F.PRT_EVT_EVT, F.HIF_ERR_SPI]) ∧
    (∀ a : BitVec 24, m = .spi → s.isFrozen m.id = false → regwin m a.toNat = false → pairLocal a.toNat = false →
      s.get F.TWN_STAT_ROLE = 1 → s.get F.TWN_STAT_LANES ≠ 0 → s.get I.TWN_CREDIT = 0 →
      ∃ t, exec (.registerWrite m a w) s = .next t ∧
        t = { s with twin := { s.twin with
          items := s.twin.items ++ [{ tick := s.releaseTick, item := .write m a w, seq := 2 ^ 24, acked := false }],
          waiting := s.twin.waiting ++ [{ tick := s.releaseTick, item := .write m a w, seq := 2 ^ 24, acked := false }] } }) ∧
    (∀ a : BitVec 24, m = .pcie → s.pcieBusy = true →
      ∃ t, exec (.registerWrite m a w) s = .next t ∧
        t = { s with host := { s.host with pcieq := s.host.pcieq ++ [⟨.regWrite, a.toNat, w.toNat, []⟩] } }) ∧
    (∀ k : Fin 4, s.performs m (0x50100 + 4 * k) = true →
      ∃ t, exec (.stageWordWrite m (BitVec.ofNat 24 (0x50100 + 4 * k)) w) s = .next t ∧
        t.stagedWord m.id (0x50100 + 4 * k) = w.toNat ∧ t.get F.QN_STAT_STATUS = stOK ∧
        (∀ a : Nat, a ≠ 0x50100 + 4 * k → t.stagedWord m.id a = s.stagedWord m.id a) ∧
        t = { s with regs := t.regs, staged := t.staged } ∧ s.KeepsFields t [F.QN_STAT_STATUS]) ∧
    (s.performs .steward 0x30020 = true →
      ∃ t, exec (.registerWrite .steward 0x30020 w) s = .next t ∧
        (∀ k : Fin 7, natBit (t.get F.MDL_EVT_EVT) k = (natBit (s.get F.MDL_EVT_EVT) k && !natBit w.toNat k)) ∧
        s.OnlyRegs t [F.MDL_EVT_EVT]) ∧
    (s.reads m 0x50018 = true →
      ∃ t, exec (.readClear m 0x50018) s = .next t ∧ t.readWord m = s.get F.QN_LATE_N % 2 ^ 32 ∧
        t.get F.QN_LATE_N = 0 ∧ s.OnlyRegs t [I.RDATA m.id, F.QN_LATE_N, I.PE_ABORT]) ∧
    (s.reads m 0x10020 = true →
      ∃ t, exec (.latchingRead m 0x10020) s = .next t ∧ t.readWord m = s.frc % 2 ^ 32 ∧
        t.latched m.id 0 0 1 = some (s.frc / 2 ^ 32) ∧ t = { s with regs := t.regs, latches := t.latches } ∧
        s.KeepsFields t [I.RDATA m.id, I.PE_ABORT]) ∧
    (∀ (e : SwiEntry) (rest : List SwiEntry), s.reads m 0x14010C = true → s.swiq = e :: rest →
      ∃ t, exec (.swiqPop m) s = .next t ∧ t.readWord m = e.pc % 2 ^ 32 ∧ t.swiq = rest ∧
        t = { s with regs := t.regs, swiq := rest } ∧ s.KeepsFields t [I.RDATA m.id, I.PE_ABORT]) ∧
    (s.isFrozen 0x50 = true → s.get F.PRT_CTRL_STWRST ≠ 0 → s.get F.CFG_TRIAL_ACTIVE = 0 →
      ∃ t, exec .stewardRestart s = .next t ∧ t.core 64 = Core.steward Config.rindEntry.toNat ∧ t.isFrozen 0x50 = false ∧
        t.get F.PRT_EVT_EVT / 4 % 2 = 1 ∧ (∀ k : Fin 64, t.core k = s.core k) ∧
        t = { s with regs := t.regs, toDeliver := t.toDeliver, cores := t.cores } ∧
        s.KeepsFields t [F.PRT_FROZEN_M 2, F.PRT_EVT_EVT])

/-- R29, R30, R150, R164, R232, R368, R382: a unit event is delivered by its route, held posts and commands go on, and
a mirrored item takes effect at its release tick. Where the spec leaves a point open the clauses follow the model's
choices: log entries 1, 16, 18, 124. -/
def Obligations.DeliveriesComplete : Prop :=
  ∀ (s : State) (n : Fin 256),
    (∀ frc : Nat, s.toDeliver.find? (fun e => decide (e.1 = n.val)) = some (n.val, frc) →
      s.get (F.SYS_EVROUTE_KIND n) = 0 →
      ∃ t, exec (.unitEventDeliver n) s = .next t ∧
        t = { s with toDeliver := s.toDeliver.filter (fun e => !decide (e.1 = n.val)) }) ∧
    (∀ frc v : Nat, s.toDeliver.find? (fun e => decide (e.1 = n.val)) = some (n.val, frc) →
      s.get (F.SYS_EVROUTE_KIND n) = 1 → s.get (F.SYS_EVROUTE_VECTOR n) = v → s.vecSpi v = false →
      s.get (F.HIF_MSIXV_MASK v) = 0 →
      ∃ t, exec (.unitEventDeliver n) s = .next t ∧ t.get (I.MSIX_SENT v) = (s.get (I.MSIX_SENT v) + 1) % 2 ^ 32 ∧
        natBit (t.get (F.HIF_PBA_P (v / 32))) (v % 32) = false ∧
        t = { s with regs := t.regs, toDeliver := s.toDeliver.filter (fun e => !decide (e.1 = n.val)) } ∧
        s.KeepsFields t [I.MSIX_SENT v, F.HIF_PBA_P (v / 32)]) ∧
    (∀ frc v : Nat, s.toDeliver.find? (fun e => decide (e.1 = n.val)) = some (n.val, frc) →
      s.get (F.SYS_EVROUTE_KIND n) = 1 → s.get (F.SYS_EVROUTE_VECTOR n) = v → s.vecSpi v = false →
      s.get (F.HIF_MSIXV_MASK v) ≠ 0 →
      ∃ t, exec (.unitEventDeliver n) s = .next t ∧ natBit (t.get (F.HIF_PBA_P (v / 32))) (v % 32) = true ∧
        t = { s with regs := t.regs, toDeliver := s.toDeliver.filter (fun e => !decide (e.1 = n.val)) } ∧
        s.KeepsFields t [F.HIF_PBA_P (v / 32)]) ∧
    (∀ frc p l : Nat, s.toDeliver.find? (fun e => decide (e.1 = n.val)) = some (n.val, frc) →
      s.get (F.SYS_EVROUTE_KIND n) = 2 → s.get (F.SYS_EVROUTE_PIP n) = p → s.get (F.SYS_EVROUTE_LEVEL n) = l →
      s.standby = false → s.mirrors = false → s.isEventPip p = true → s.postReason p l = none → s.queueFull l = false →
      ∃ t, exec (.unitEventDeliver n) s = .next t ∧
        t.qn.queue = s.qn.queue ++ [
          { pip := p, word := State.eventWord n frc % 2 ^ 128, level := l, master := 0xFE, arr := s.get I.QN_ARR,
            ready := s.get I.QN_RDY, heldBlk := none, entry := true }] ∧
        s.KeepsNames t State.postNames) ∧
    (∀ frc : Nat, s.toDeliver.find? (fun e => decide (e.1 = n.val)) = some (n.val, frc) →
      s.get (F.SYS_EVROUTE_KIND n) = 3 →
      ∃ t, exec (.unitEventDeliver n) s = .next t ∧ t.stewardQ = s.stewardQ ++ [(n.val, frc)] ∧
        (t.core 64).gated = false ∧ (∀ k : Fin 64, t.core k = s.core k) ∧
        t = { s with toDeliver := s.toDeliver.filter (fun e => !decide (e.1 = n.val)), stewardQ := t.stewardQ,
                     cores := t.cores }) ∧
    (∀ h : HeldPost, s.qn.held = [h] → h.kind = .pip → h.level = none → h.core = none → s.host.pcieq = [] →
      s.postReason h.pip (s.postLevel h.pip) = none → s.queueFull (s.postLevel h.pip) = false →
      s.get (F.PIP1_TS h.pip) = 0 →
      ∃ t, exec .heldPostAccept s = .next t ∧ t.qn.held = [] ∧
        t.qn.queue = s.qn.queue ++ [
          { pip := h.pip, word := h.word % 2 ^ 128, level := s.postLevel h.pip, master := h.src, arr := s.get I.QN_ARR,
            ready := s.get I.QN_RDY, heldBlk := none, entry := true }] ∧
        t = { s with regs := t.regs, toDeliver := t.toDeliver, qn := t.qn } ∧ s.KeepsNames t State.postNames) ∧
    (∀ c : PCmd, s.scn.cmds = [c] → c.n / s.blockLen ≤ s.blockIx → s.preparing = true → s.rampsFree ≠ 0 →
      s.host.pcieq = [] → s.scn.waiting = [] →
      ∃ t, exec .heldCommandApply s = .next t ∧ t.scn.cmds = [] ∧
        t.curve c.prm = ((s.curve c.prm).trim s.computedFrom).put
          ⟨c.n, ((s.curve c.prm).trim s.computedFrom).at c.n, c.v1, c.len, c.shape, false⟩ ∧
        (∀ k : Nat, k ≠ c.prm → t.curve k = s.curve k) ∧
        t = { s with scn := { s.scn with curves := t.scn.curves, cmds := [] } }) ∧
    (∀ (i : MItem) (off : Fin 67108864) (bs : List (Option Byte)), s.get F.TWN_STAT_ROLE = 1 → s.twin.items = [i] →
      i.tick ≤ s.frc → i.acked = true → i.item = .hostOrchard .pcie off bs →
      (enabledCells off bs).all (fun c => s.admits (bankOf c.1) (.other Master.pcie.id)) = true → s.itemWaits i.item = false →
      ∃ t, exec .mirrorRelease s = .next t ∧ t.twin.items = [] ∧
        (∀ c ∈ enabledCells off bs, memGet t.orchard c.1 =
          (if s.bankRetired (bankOf c.1) then memGet s.orchard c.1 else c.2)) ∧
        (∀ x : Nat, x ∉ (enabledCells off bs).map (fun c => c.1) → memGet t.orchard x = memGet s.orchard x) ∧
        t = { s with orchard := t.orchard, orcFlaws := t.orcFlaws, dirty := t.dirty, twin := { s.twin with items := [] } }) ∧
    (∀ i : MItem, s.isFrozen Master.twin.id = false ∨ s.standby = false → s.twin.items = [i] → i.tick ≤ s.frc →
      s.itemWaits i.item = true → ∃ t, exec .mirrorRelease s = .next t ∧ t = s) ∧
    (∀ (i : MItem) (a : BitVec 24) (w : Word), s.get F.TWN_STAT_ROLE = 2 → s.get F.TWN_STAT_SYNC = 2 → s.twin.items = [i] →
      i.tick ≤ s.frc → i.item = .write .pcie a w → s.isFrozen Master.twin.id = false → regwin .twin a.toNat = true →
      ∃ t, exec .mirrorRelease s = .next t ∧ t.twin.items = [] ∧ t.isFrozen Master.twin.id = true ∧
        t.get (F.PRT_VLOG_W 0 0) = 8 * 2 ^ 24 + 0x5B * 2 ^ 16 ∧ t.get (F.PRT_VLOG_W 0 1) = a.toNat ∧
        t = { s with regs := t.regs, toDeliver := t.toDeliver, twin := { s.twin with items := [] } } ∧
        s.KeepsNames t [F.PRT_VLOG_W 0 0, I.VREC 0, F.PRT_VCNT_N, F.PRT_FROZEN_M 0, F.PRT_EVT_EVT])

/-- R365 to R374: a host's accesses to registers, Orchard and external memory, sequenced writes, and the five SPI
commands. Where the spec leaves a point open the clauses follow the model's choices: log entries 119, 120, 121, 122,
123, 125. -/
def Obligations.HostAccessesComplete : Prop :=
  ∀ (s : State),
    (∀ (a : BitVec 24) (w : Word), s.reads .pcie a.toNat = true → a.toNat = 0x50018 →
      ∃ t, exec (.pcieRegisterAccess false a w true) s = .next t ∧ t.readWord .pcie = s.get F.QN_LATE_N % 2 ^ 32 ∧
        t.get I.PE_ABORT = 0 ∧ s.OnlyRegs t [I.RDATA 0x58, F.QN_LATE_N, I.PE_ABORT]) ∧
    (∀ (write : Bool) (a : BitVec 24) (w : Word),
      ∃ t, exec (.pcieRegisterAccess write a w false) s = .next t ∧
        t.get F.HIF_ERR_PCIE = min (s.get F.HIF_ERR_PCIE + 1) (2 ^ 16 - 1) ∧ (write = false → t.get I.PE_ABORT = 1) ∧
        t = { s with regs := t.regs, host := { s.host with out := t.host.out } } ∧
        s.KeepsFields t [F.HIF_ERR_PCIE, I.PE_ABORT]) ∧
    (∀ (off : Fin 67108864) (bs : List (Option Byte)), s.pcieBusy = false → s.isFrozen 0x58 = false → s.standby = false →
      s.mirrors = false → (enabledCells off bs).all (fun c => s.admits (bankOf c.1) (.other 0x58)) = true →
      (enabledCells off bs).all (fun c => decide (s.get (F.ORC_OWN_PENDING (bankOf c.1)) = 0)) = true →
      ∃ t, exec (.pcieOrchardAccess true off bs) s = .next t ∧
        (∀ c ∈ enabledCells off bs, memGet t.orchard c.1 =
          (if s.bankRetired (bankOf c.1) then memGet s.orchard c.1 else c.2)) ∧
        (∀ x : Nat, x ∉ (enabledCells off bs).map (fun c => c.1) → memGet t.orchard x = memGet s.orchard x) ∧
        t = { s with orchard := t.orchard, orcFlaws := t.orcFlaws, dirty := t.dirty }) ∧
    (∀ (off : Fin 67108864) (bs : List (Option Byte)), s.pcieBusy = false → s.isFrozen 0x58 = false → s.standby = false →
      s.mirrors = false → (enabledCells off bs).all (fun c => s.admits (bankOf c.1) (.other 0x58)) = true →
      (enabledCells off bs).any (fun c => decide (s.get (F.ORC_OWN_PENDING (bankOf c.1)) ≠ 0)) = true →
      ∃ t, exec (.pcieOrchardAccess true off bs) s = .next t ∧
        t = { s with host := { s.host with pcieq := s.host.pcieq ++ [⟨.orcWrite, off.val, 0, bs⟩] } }) ∧
    (∀ (off : Fin 67108864) (bs : List (Option Byte)), s.pcieBusy = false → s.isFrozen 0x58 = false →
      (enabledCells off (bs.map (fun _ => some 0))).all (fun c => s.admits (bankOf c.1) (.other 0x58)) = true →
      (enabledCells off (bs.map (fun _ => some 0))).all (fun c => decide (s.get (F.ORC_OWN_PENDING (bankOf c.1)) = 0)) =
        true →
      ∃ t, exec (.pcieOrchardAccess false off bs) s = .next t ∧ t.host.out = s.orcBytes off bs.length ∧
        t.get I.PE_ABORT = 0 ∧ t.mems = s.mems ∧
        (s.orcFlaws = [] → t = { s with regs := t.regs, host := { s.host with out := t.host.out } } ∧
          s.KeepsFields t [I.PE_ABORT])) ∧
    (∀ (off : Fin 268435456) (bs : List (Option Byte)), s.pcieBusy = false → s.isFrozen 0x58 = false → s.standby = false →
      s.mirrors = false → s.get (F.HIF_DWIN_BASE 0) * 0x100000 + off + bs.length ≤ s.dramSize →
      ∃ t, exec (.pcieDramAccess true off bs) s = .next t ∧
        (∀ c ∈ enabledCells (s.get (F.HIF_DWIN_BASE 0) * 0x100000 + off) bs, memGet t.dram c.1 = c.2) ∧
        (∀ x : Nat, x ∉ (enabledCells (s.get (F.HIF_DWIN_BASE 0) * 0x100000 + off) bs).map (fun c => c.1) →
          memGet t.dram x = memGet s.dram x) ∧
        t = { s with dram := t.dram, dramFlaws := t.dramFlaws, dirty := t.dirty }) ∧
    (∀ (write : Bool) (off : Fin 268435456) (bs : List (Option Byte)), s.pcieBusy = false → s.isFrozen 0x58 = false →
      s.dramSize < s.get (F.HIF_DWIN_BASE 0) * 0x100000 + off + bs.length →
      ∃ t, exec (.pcieDramAccess write off bs) s = .next t ∧
        t.get F.HIF_ERR_PCIE = min (s.get F.HIF_ERR_PCIE + 1) (2 ^ 16 - 1) ∧ (write = false → t.get I.PE_ABORT = 1) ∧
        t = { s with regs := t.regs, host := { s.host with out := t.host.out } } ∧
        s.KeepsFields t [F.HIF_ERR_PCIE, I.PE_ABORT]) ∧
    (∀ n : Word, s.performs .pcie 0x100038 = true → s.seqKind 0 n.toNat = .go → s.stagedWord 0x58 0x100030 = 0x100088 →
      s.stagedWord 0x58 0x100034 = 0 →
      ∃ t, exec (.sequencedWriteGo .pcie n) s = .next t ∧ t.get (F.HIF_SW_LAST_N 0) = n.toNat ∧
        (s.standby = false → t.get F.HIF_HS_BLK0_J = s.stagedWord 0x58 0x100040 % 2 ^ 32) ∧
        s.OnlyRegs t [F.HIF_SW_LAST_N 0, F.HIF_HS_BLK0_J]) ∧
    (∀ n : Word, s.performs .pcie 0x100038 = true → s.seqKind 0 n.toNat = .dup → s.stagedWord 0x58 0x100030 = 0x100088 →
      s.stagedWord 0x58 0x100034 = 0 →
      ∃ t, exec (.sequencedWriteGo .pcie n) s = .next t ∧
        t.get F.HIF_ERR_PCIE = min (s.get F.HIF_ERR_PCIE + 1) (2 ^ 16 - 1) ∧ s.OnlyRegs t [F.HIF_ERR_PCIE]) ∧
    (∀ (off : Fin 67108864) (w : Word), off.val % 4 = 0 → s.isFrozen 0x59 = false → s.standby = false → s.mirrors = false →
      s.admits (bankOf off) (.other 0x59) = true → s.get (F.ORC_OWN_PENDING (bankOf off)) = 0 →
      ∃ t, exec (.spiWrite (BitVec.ofNat 32 (0x10000000 + off)) [w] false) s = .next t ∧ t.get I.SPI_ST = stOK ∧
        t.host.out = [0] ∧ t.host.spiHeld = none ∧
        (∀ c ∈ enabledCells off (wordBytes w.toNat), memGet t.orchard c.1 =
          (if s.bankRetired (bankOf c.1) then memGet s.orchard c.1 else c.2)) ∧
        (∀ x : Nat, x ∉ (enabledCells off (wordBytes w.toNat)).map (fun c => c.1) →
          memGet t.orchard x = memGet s.orchard x) ∧
        t = { s with regs := t.regs, orchard := t.orchard, orcFlaws := t.orcFlaws, dirty := t.dirty,
                     host := { s.host with out := [0], spiHeld := none } } ∧
        s.KeepsFields t [I.SPI_ST]) ∧
    (∀ (a : Word) (ws : List Word),
      ∃ t, exec (.spiWrite a ws true) s = .next t ∧ t.get F.HIF_EVT_EVT / 2 % 2 = 1 ∧ t.host.spiHeld = none ∧
        t = { s with regs := t.regs, toDeliver := t.toDeliver, host := { s.host with spiHeld := none } } ∧
        s.KeepsFields t [F.HIF_EVT_EVT]) ∧
    (∀ off : Fin 67108864, off.val % 4 = 0 → s.isFrozen 0x59 = false → s.admits (bankOf off) (.other 0x59) = true →
      s.host.spiHeld = none → s.get (F.ORC_OWN_PENDING (bankOf off)) = 0 →
      ∃ t, exec (.spiRead (BitVec.ofNat 32 (0x10000000 + off)) 0 true false) s = .next t ∧ t.get I.SPI_ST = stOK ∧
        t.host.out = 0 :: leBytes (s.orc32 off) 4 ∧ t.mems = s.mems ∧
        (s.orcFlaws = [] →
          t = { s with regs := t.regs, host := { s.host with out := t.host.out } } ∧ s.KeepsFields t [I.SPI_ST])) ∧
    (∀ off : Fin 67108864, off.val % 4 = 0 → s.isFrozen 0x59 = false → s.admits (bankOf off) (.other 0x59) = true →
      s.host.spiHeld = none → s.get (F.ORC_OWN_PENDING (bankOf off)) ≠ 0 →
      ∃ t, exec (.spiRead (BitVec.ofNat 32 (0x10000000 + off)) 0 true false) s = .next t ∧ t.get I.SPI_ST = stWAIT ∧
        t.mems = s.mems ∧ t = { s with regs := t.regs, host := { s.host with out := t.host.out } } ∧
        s.KeepsFields t [I.SPI_ST]) ∧
    (∀ (a : Word) (len : Fin 256) (ws : List Nat), s.isFrozen 0x59 = false →
      ((List.range (len + 1)).map (fun i => spiPlace (a.toNat + 4 * i))).any (s.placeBad s.spiBase) = false →
      s.host.spiHeld = some (a.toNat, len.val, ws) →
      ∃ t, exec (.spiRead a len true false) s = .next t ∧ t.get I.SPI_ST = stOK ∧
        t.host.out = 0 :: ws.flatMap (fun w => leBytes w 4) ∧
        t = { s with regs := t.regs, host := { s.host with out := t.host.out, spiHeld := none } } ∧
        s.KeepsFields t [I.SPI_ST]) ∧
    (∀ (seq : Word) (w : Word), s.isFrozen 0x59 = false → s.seqKind 1 seq.toNat = .go → s.standby = false →
      ∃ t, exec (.spiSwrite 0x100088 seq [w] false) s = .next t ∧ t.get I.SPI_ST = stOK ∧
        t.get (F.HIF_SW_LAST_N 1) = seq.toNat ∧ t.get F.HIF_HS_BLK0_J = w.toNat ∧ t.host.out = [0] ∧
        t = { s with regs := t.regs, host := { s.host with out := [0], spiHeld := none } } ∧
        s.KeepsFields t [I.SPI_ST, F.HIF_SW_LAST_N 1, F.HIF_HS_BLK0_J]) ∧
    (∀ (seq : Word) (w : Word), s.isFrozen 0x59 = false → s.seqKind 1 seq.toNat = .bad →
      ∃ t, exec (.spiSwrite 0x100088 seq [w] false) s = .next t ∧ t.get I.SPI_ST = stBADARG ∧
        t.get F.HIF_EVT_EVT / 16 % 2 = 1 ∧ t.get F.HIF_ERR_SPI = min (s.get F.HIF_ERR_SPI + 1) (2 ^ 16 - 1) ∧
        s.KeepsRegs t [I.SPI_ST, F.HIF_EVT_EVT, F.HIF_ERR_SPI]) ∧
    (∃ t, exec .spiStat s = .next t ∧
      t.host.out = BitVec.ofNat 8 (s.get I.SPI_ST) :: leBytes (s.get (F.HIF_SW_LAST_N 1)) 4 ∧
      t = { s with host := { s.host with out := t.host.out, spiHeld := none } }) ∧
    (∀ cmd : Byte,
      ∃ t, exec (.spiBadCommand cmd) s = .next t ∧ t.get I.SPI_ST = stBADARG ∧
        t.get F.HIF_ERR_SPI = min (s.get F.HIF_ERR_SPI + 1) (2 ^ 16 - 1) ∧ t.host.out = [4] ∧
        t = { s with regs := t.regs, host := { s.host with out := [4], spiHeld := none } } ∧
        s.KeepsFields t [I.SPI_ST, F.HIF_ERR_SPI])

/-- R401: `SYS_UNFREEZE` by RESUME and ABANDON, its checks in order. Where the spec leaves a point open the clauses
follow the model's choices: log entries 107, 108. -/
def Obligations.UnfreezeCommandsComplete : Prop :=
  ∀ (s : State) (m : Master) (x : BitVec 8), s.performs m 0x34 = true →
    isHost m = false ∨ s.isFrozen m.id = false ∨ x.toNat = m.id →
    (State.masterValid x.toNat = false →
      ∃ t, exec (.unfreezeResume m x) s = .next t ∧ t.get F.SYS_UNFREEZE_STATUS = stBADARG ∧
        s.OnlyRegs t [F.SYS_UNFREEZE_STATUS]) ∧
    (State.masterValid x.toNat = true → s.isFrozen x.toNat = false →
      ∃ t, exec (.unfreezeResume m x) s = .next t ∧ t.get F.SYS_UNFREEZE_STATUS = stOK ∧
        s.OnlyRegs t [F.SYS_UNFREEZE_STATUS]) ∧
    (x.toNat = 0x58 ∨ x.toNat = 0x59 ∨ x.toNat = 0x5B → s.isFrozen x.toNat = true →
      ∃ t, exec (.unfreezeResume m x) s = .next t ∧ t.isFrozen x.toNat = false ∧ t.get F.SYS_UNFREEZE_STATUS = stOK ∧
        s.OnlyRegs t [F.PRT_FROZEN_M 2, F.SYS_UNFREEZE_STATUS]) ∧
    (∀ n : Nat, x.toNat < 72 → s.isFrozen x.toNat = true → s.logicalOf x.toNat = some n → (s.core n).vskip = true →
      ∃ t, exec (.unfreezeResume m x) s = .next t ∧ t.isFrozen x.toNat = false ∧ t.get F.SYS_UNFREEZE_STATUS = stOK ∧
        (t.core n).frozen = false ∧
        State.activeBank (t.core n) = (State.activeBank (s.core n)).advance (pcMod n) ∧
        (∀ k : Fin 65, k.val ≠ n → t.core k = s.core k) ∧ t = { s with regs := t.regs, cores := t.cores } ∧
        s.KeepsNames t [F.PRT_FROZEN_M 0, F.SYS_UNFREEZE_STATUS]) ∧
    (∀ (n : Nat) (r : PipRun), x.toNat < 72 → s.isFrozen x.toNat = true → s.logicalOf x.toNat = some n →
      (State.activeBank (s.core n)).run = some r → r.ev = none → s.qn.held = [] →
      ∃ t, exec (.unfreezeAbandon m x) s = .next t ∧ t.isFrozen x.toNat = false ∧ t.get F.SYS_UNFREEZE_STATUS = stOK ∧
        (t.core n).frozen = false ∧ (t.core n).shadow = false ∧ t.get (F.PIP1_EN r.pip) = 0 ∧
        t.get (F.PIP13_STATE r.pip) = 0 ∧ (t.core n).dma = (s.core n).dma.filter (fun d => !bankChan (s.core n).shadow d) ∧
        (∀ k : Fin 65, k.val ≠ n → t.core k = s.core k) ∧
        t = { s with regs := t.regs, cores := t.cores } ∧
        s.KeepsNames t [F.PRT_FROZEN_M 0, F.SYS_UNFREEZE_STATUS, F.PIP1_EN 0, F.PIP13_STATE 0, I.PIP_ARM 0])

/-- R31 to R34, R504: what TAKE and DROP of a claim slot do, for slots that the master may and may not have; R30: a
write of an event's route. Where the spec leaves a point open the clauses follow the model's choices: log entry 142.
-/
def Obligations.ClaimsAndRoutesComplete : Prop :=
  ∀ (s : State) (m : Master) (slot : Fin 2048),
    (s.performs m (0x2000 + 4 * slot) = true → 1632 ≤ slot.val → slot.val ≤ 1695 →
      s.get (F.SYS_CLAIM_OWNER slot) = 0 ∨ s.get (F.SYS_CLAIM_OWNER slot) = 0xFF00 + m.id →
      ∃ t, exec (.claimTake m slot) s = .next t ∧ t.get (F.SYS_CLAIM_OWNER slot) = 0xFF00 + m.id ∧
        t.get F.SYS_CLAIMREQ_REQUESTER = 0xFF00 + m.id ∧ t.get F.SYS_CLAIMREQ_STATUS = stOK ∧
        s.OnlyRegs t [F.SYS_CLAIM_OWNER slot, F.SYS_CLAIMREQ_REQUESTER, F.SYS_CLAIMREQ_STATUS]) ∧
    (s.performs m (0x2000 + 4 * slot) = true → 1632 ≤ slot.val → slot.val ≤ 1695 → s.get (F.SYS_CLAIM_OWNER slot) ≠ 0 →
      s.get (F.SYS_CLAIM_OWNER slot) ≠ 0xFF00 + m.id →
      ∃ t, exec (.claimTake m slot) s = .next t ∧
        t.get F.SYS_CLAIMSTAT_CLAIM_OWNER = s.get (F.SYS_CLAIM_OWNER slot) % 2 ^ 16 ∧
        t.get F.SYS_CLAIMSTAT_SLOT = slot.val ∧ t.get F.SYS_CLAIMREQ_REQUESTER = 0xFF00 + m.id ∧
        t.get F.SYS_CLAIMREQ_STATUS = stCONFLICT ∧ t.get F.SYS_EVT_CONFLICT = 1 ∧
        s.OnlyRegsEv t [F.SYS_CLAIMSTAT_CLAIM_OWNER, F.SYS_CLAIMSTAT_SLOT, F.SYS_CLAIMREQ_REQUESTER, F.SYS_CLAIMREQ_STATUS,
          F.SYS_EVT_CONFLICT]) ∧
    (s.performs m (0x2000 + 4 * slot) = true →
      s.get (F.SYS_CLAIM_OWNER slot) = 0xFF00 + m.id ∨ (m = .steward ∧ 0xFF00 ≤ s.get (F.SYS_CLAIM_OWNER slot)) →
      ∃ t, exec (.claimDrop m slot) s = .next t ∧ t.get (F.SYS_CLAIM_OWNER slot) = 0 ∧
        s.OnlyRegs t [F.SYS_CLAIM_OWNER slot]) ∧
    (s.performs m (0x2000 + 4 * slot) = true → s.get (F.SYS_CLAIM_OWNER slot) ≠ 0xFF00 + m.id → m ≠ .steward →
      ∃ t, exec (.claimDrop m slot) s = .next t ∧ t.get F.SYS_CLAIMREQ_STATUS = stREFUSED ∧
        s.OnlyRegs t [F.SYS_CLAIMREQ_REQUESTER, F.SYS_CLAIMREQ_STATUS]) ∧
    (∀ (n : Fin 256) (w : Word), s.performs m (0x400 + 4 * n) = true → natBits w.toNat 31 30 ≠ 2 →
      s.evPending n = false ∨ (F.SYS_EVROUTE_KIND n).of w.toNat = s.get (F.SYS_EVROUTE_KIND n) ∧
        (F.SYS_EVROUTE_LEVEL n).of w.toNat = s.get (F.SYS_EVROUTE_LEVEL n) ∧
        (F.SYS_EVROUTE_VECTOR n).of w.toNat = s.get (F.SYS_EVROUTE_VECTOR n) ∧
        (F.SYS_EVROUTE_PIP n).of w.toNat = s.get (F.SYS_EVROUTE_PIP n) →
      ∃ t, exec (.evrouteWrite m n w) s = .next t ∧ t.get (F.SYS_EVROUTE_KIND n) = natBits w.toNat 31 30 ∧
        s.OnlyRegs t [F.SYS_EVROUTE_KIND n, F.SYS_EVROUTE_LEVEL n, F.SYS_EVROUTE_VECTOR n, F.SYS_EVROUTE_PIP n])

/-- R40 to R42: a request to run takes its target and enters STARTING with event 0, or cancels a stop not yet reached;
a request to stop takes the stop target; one in STOPPING withdraws a restart; a target too near is refused in every
state. Where the spec leaves a point open the clauses follow the model's choices: log entry 6. -/
def Obligations.EngineRequestsComplete : Prop :=
  ∀ (s : State) (m : Master) (a : Bool), s.performs m 0x10 = true →
    (s.get F.SYS_ENGINE_STATE = 0 → s.targetOk a = true →
      ∃ t, exec (.engineRunRequest m a) s = .next t ∧ t.get F.SYS_ENGINE_STATE = 1 ∧ t.get F.SYS_ENGINE_RUN = 1 ∧
        t.get F.SYS_ENGINE_STATUS = stOK ∧ t.get I.ENG_TGT = s.targetOf a % 2 ^ 64 ∧ t.get F.SYS_EVT_STATE = 1 ∧
        (s.svc.drives.filter State.slotlessDrive = [] → s.dacclrRefresh = s →
          s.OnlyRegsEv t [F.SYS_ENGINE_STATE, F.SYS_ENGINE_RUN, F.SYS_ENGINE_AT, F.SYS_ENGINE_STATUS, F.SYS_ENGINE_OVR,
            F.SYS_PWR_STATE, F.SYS_EVT_STATE, I.ENG_TGT, I.ENG_LANDED, I.ENG_STOPP, I.ENG_RESTART])) ∧
    (s.get F.SYS_ENGINE_STATE = 1 ∨ s.get F.SYS_ENGINE_STATE = 2 → s.get I.ENG_STOPP ≠ 0 → s.targetOk a = true →
      ∃ t, exec (.engineRunRequest m a) s = .next t ∧ t.get I.ENG_STOPP = 0 ∧ t.get F.SYS_ENGINE_RUN = 1 ∧
        t.get F.SYS_ENGINE_STATUS = stOK ∧
        s.OnlyRegs t [F.SYS_ENGINE_RUN, F.SYS_ENGINE_AT, F.SYS_ENGINE_STATUS, F.SYS_ENGINE_OVR, I.ENG_STOPP]) ∧
    (s.targetOk a = false →
      ∃ t, exec (.engineRunRequest m a) s = .next t ∧ t.get F.SYS_ENGINE_STATUS = stBADARG ∧
        s.OnlyRegs t [F.SYS_ENGINE_STATUS]) ∧
    (s.targetOk a = false →
      ∃ t, exec (.engineStopRequest m a) s = .next t ∧ t.get F.SYS_ENGINE_STATUS = stBADARG ∧
        s.OnlyRegs t [F.SYS_ENGINE_STATUS]) ∧
    (s.get F.SYS_ENGINE_STATE = 3 → s.targetOk a = true →
      ∃ t, exec (.engineRunRequest m a) s = .next t ∧ t.get I.ENG_RESTART = 1 ∧ t.get F.SYS_ENGINE_RUN = 1 ∧
        t.get F.SYS_ENGINE_STATUS = stOK ∧
        s.OnlyRegs t [F.SYS_ENGINE_RUN, F.SYS_ENGINE_AT, F.SYS_ENGINE_STATUS, F.SYS_ENGINE_OVR, I.ENG_RESTART, I.ENG_REQ]) ∧
    (s.get F.SYS_ENGINE_STATE = 2 → s.get I.ENG_STOPP = 0 → s.targetOk a = true →
      ∃ t, exec (.engineStopRequest m a) s = .next t ∧ t.get I.ENG_STOPP = 1 ∧
        t.get I.ENG_STOPT = s.targetOf a % 2 ^ 64 ∧ t.get F.SYS_ENGINE_RUN = 0 ∧ t.get F.SYS_ENGINE_STATUS = stOK ∧
        s.OnlyRegs t [F.SYS_ENGINE_RUN, F.SYS_ENGINE_AT, F.SYS_ENGINE_STATUS, F.SYS_ENGINE_OVR, I.ENG_STOPP, I.ENG_FROMSTART,
          I.ENG_STOPT]) ∧
    (s.get F.SYS_ENGINE_STATE = 1 → s.get I.ENG_STOPP = 0 → s.get I.ENG_LANDED = 0 → s.frc < s.get I.ENG_TGT →
      s.targetOk a = true →
      ∃ t, exec (.engineStopRequest m a) s = .next t ∧ t.get F.SYS_ENGINE_STATE = 0 ∧ t.get F.SYS_ENGINE_RUN = 0 ∧
        t.get F.SYS_ENGINE_STATUS = stOK ∧ t.get F.SYS_EVT_STATE = 1 ∧
        s.OnlyRegsEv t [F.SYS_ENGINE_STATE, F.SYS_ENGINE_RUN, F.SYS_ENGINE_AT, F.SYS_ENGINE_STATUS, F.SYS_ENGINE_OVR,
          F.SYS_PWR_STATE, F.SYS_EVT_STATE]) ∧
    (s.get F.SYS_ENGINE_STATE = 3 → s.targetOk a = true →
      ∃ t, exec (.engineStopRequest m a) s = .next t ∧ t.get I.ENG_RESTART = 0 ∧ t.get F.SYS_ENGINE_RUN = 0 ∧
        t.get F.SYS_ENGINE_STATUS = stOK ∧
        s.OnlyRegs t [F.SYS_ENGINE_RUN, F.SYS_ENGINE_AT, F.SYS_ENGINE_STATUS, F.SYS_ENGINE_OVR, I.ENG_RESTART])

/-- R48, R50 to R57, R62: what the qualification gates, the faults and the timers of the references do. A gate takes
the entry's setting into effect; the offset of the root is brought up to date where the mode changes (log entry 144).
-/
def Obligations.ReferenceEventsComplete : Prop :=
  ∀ (s : State) (i : Fin 5),
    ((s.refTake i).refPresent i = true → s.get (F.CLK_REFPRI_EN i) = 1 → s.refsServe = true →
      s.get F.CLK_STAT_MODE = clkHOLDOVER → s.get I.CLK_LOST = i.val ∨ s.get I.CLK_HOEXP ≠ 0 →
      ∃ t, exec (.refQualificationGate i .good) s = .next t ∧ t.get (F.CLK_REFPRI_QUAL i) = 1 ∧
        t.get (F.CLK_REFPRI_REJ i) = 0 ∧ t.get F.CLK_STAT_ACTIVE = i.val ∧ t.get F.CLK_STAT_MODE = clkPULLING ∧
        t.get (I.REF_KIND i) = s.get (F.CLK_REFPRI_KIND i) % 8 ∧ s.OnlyRegsFree t (State.refFields i ++ State.modeFields)) ∧
    ((s.refTake i).refPresent i = true → s.get F.CLK_STAT_MODE ≠ clkHOLDOVER → s.get F.CLK_STAT_MODE ≠ clkFREERUN →
      ∃ t, exec (.refQualificationGate i .good) s = .next t ∧ t.get (F.CLK_REFPRI_QUAL i) = 1 ∧
        t.get (F.CLK_REFPRI_REJ i) = 0 ∧ t.get (I.REF_EN i) = s.get (F.CLK_REFPRI_EN i) % 2 ∧
        s.OnlyRegs t (State.refFields i)) ∧
    ((s.refTake i).refPresent i = false →
      ∃ t, exec (.refQualificationGate i .good) s = .next t ∧ t.get (F.CLK_REFPRI_QUAL i) = 0 ∧
        s.OnlyRegs t (State.refFields i)) ∧
    (s.following = true → s.get F.CLK_STAT_ACTIVE = i.val → s.get F.CLK_CTRL_HOLDOVER_MAX ≠ 0 →
      ∃ t, exec (.refQualificationGate i .offNominal) s = .next t ∧ t.get (F.CLK_REFPRI_QUAL i) = 0 ∧
        t.get (F.CLK_REFPRI_REJ i) = 1 ∧ t.get F.CLK_STAT_MODE = clkHOLDOVER ∧
        t.get F.CLK_EVT_EVT / 16 % 2 = 1 ∧ t.get F.CLK_EVT_EVT / 4 % 2 = 1 ∧
        s.OnlyRegsFree t (State.refFields i ++ State.modeFields)) ∧
    (∃ t, exec (.refQualificationGate i .stopped) s = .next t ∧ t.get (F.CLK_REFPRI_QUAL i) = 0 ∧
      s.OnlyRegs t (State.refFields i)) ∧
    (s.following = true → s.refsServe = true →
      ∃ t, exec .refGlitch s = .next t ∧ t.get F.CLK_GLITCH_N = min (s.get F.CLK_GLITCH_N + 1) (2 ^ 16 - 1) ∧
        t.get I.CLK_GLAT = s.tclk ∧
        (s.afterGood = true → t.get I.CLK_GLRUN = 1 ∧ t.get F.CLK_EVT_EVT / 32 % 2 = 1) ∧
        (s.afterGood = false → t.toDeliver = s.toDeliver ∧ s.get I.CLK_GLRUN ≤ t.get I.CLK_GLRUN) ∧
        s.OnlyRegsEv t [F.CLK_GLITCH_N, I.CLK_GLRUN, I.CLK_GLAT, F.CLK_EVT_EVT]) ∧
    (∀ missing : Bool, s.following = true → s.refsServe = true → missing = true ∨ 16 ≤ s.get I.CLK_GLRUN →
      s.get F.CLK_CTRL_HOLDOVER_MAX ≠ 0 →
      ∃ t, exec (.refStop missing) s = .next t ∧ t.get F.CLK_STAT_MODE = clkHOLDOVER ∧
        t.get (F.CLK_REFPRI_QUAL (s.get F.CLK_STAT_ACTIVE)) = 0 ∧ t.get F.CLK_EVT_EVT / 4 % 2 = 1 ∧
        t.get I.CLK_LOST = s.get F.CLK_STAT_ACTIVE % 8 ∧ t.get I.CLK_HELD = t.get F.CLK_PPM_PPM ∧
        s.OnlyRegsFree t (F.CLK_REFPRI_QUAL (s.get F.CLK_STAT_ACTIVE) :: State.modeFields)) ∧
    (s.following = true → s.refsServe = true → s.get F.CLK_CTRL_HOLDOVER_MAX = 0 → s.get F.CLK_STAT_ACTIVE < 5 →
      s.bestRef (s.get F.CLK_STAT_ACTIVE) = some i →
      ∃ t, exec (.refStop true) s = .next t ∧ t.get F.CLK_STAT_ACTIVE = i.val ∧ t.get F.CLK_STAT_MODE = clkPULLING ∧
        s.OnlyRegsFree t (F.CLK_REFPRI_QUAL (s.get F.CLK_STAT_ACTIVE) :: State.modeFields)) ∧
    (s.get F.CLK_STAT_MODE = clkHOLDOVER → s.get I.CLK_HOEXP = 0 → s.refsServe = true →
      s.bestRef (s.get I.CLK_LOST) = some i →
      ∃ t, exec .holdoverTimeout s = .next t ∧ t.get F.CLK_STAT_ACTIVE = i.val ∧ t.get F.CLK_STAT_MODE = clkPULLING ∧
        s.OnlyRegsFree t State.modeFields) ∧
    (s.get F.CLK_STAT_MODE = clkHOLDOVER → s.get I.CLK_HOEXP = 0 → s.refsServe = true →
      s.bestRef (s.get I.CLK_LOST) = none →
      ∃ t, exec .holdoverTimeout s = .next t ∧ t.get I.CLK_HOEXP = 1 ∧ s.OnlyRegs t [I.CLK_HOEXP]) ∧
    (s.get F.CLK_STAT_MODE = clkPULLING → s.refReached = true →
      ∃ t, exec .pullInComplete s = .next t ∧ t.get F.CLK_STAT_MODE = clkLOCKED ∧ t.get F.CLK_EVT_EVT / 64 % 2 = 1 ∧
        s.OnlyRegsEv t [F.CLK_STAT_MODE, F.CLK_EVT_EVT, F.CLK_PPM_PPM, I.CLK_WORDAT]) ∧
    (s.following = true → s.refsServe = true → s.get F.CLK_CTRL_REVERT ≠ 0 → s.refUsable i = true →
      i.val < s.get F.CLK_STAT_ACTIVE →
      ∃ t, exec (.revertTimeout i) s = .next t ∧ t.get F.CLK_STAT_ACTIVE = i.val ∧ t.get F.CLK_STAT_MODE = clkPULLING ∧
        t.get F.CLK_EVT_EVT / 8 % 2 = 1 ∧ s.OnlyRegsFree t State.modeFields) ∧
    (s.get F.CLK_STAT_MODE = clkACQUIRE → s.refsServe = true → s.bestRef 7 = some i →
      ∃ t, exec .acquireLock s = .next t ∧ t.get F.CLK_STAT_ACTIVE = i.val ∧ t.get F.CLK_STAT_MODE = clkLOCKED ∧
        t.get F.CLK_EVT_EVT / 2 % 2 = 1 ∧ t.get I.CLK_STARTED = 1 ∧
        s.OnlyRegsFree t (I.CLK_STARTED :: State.modeFields)) ∧
    (s.get F.CLK_STAT_MODE = clkACQUIRE → s.bestRef 7 = none →
      ∃ t, exec .freerunTimeout s = .next t ∧ t.get F.CLK_STAT_MODE = clkFREERUN ∧ t.get I.CLK_STARTED = 1 ∧
        -1000000 ≤ sint 32 (t.get F.CLK_PPM_PPM) ∧ sint 32 (t.get F.CLK_PPM_PPM) ≤ 1000000 ∧
        s.OnlyRegs t [F.CLK_STAT_MODE, I.CLK_STARTED, F.CLK_PPM_PPM, I.CLK_WORDAT])

/-- R43, R47, R57 to R66: writes of the reference entries, of REACQ, of the rate and of the frame counter's load, and
when a rate change and a load take effect. Where the spec leaves a point open the clauses follow the model's choices:
log entries 13, 15, 145. -/
def Obligations.ClockWritesComplete : Prop :=
  ∀ (s : State) (m : Master) (w : Word),
    (∀ i : Fin 5, s.performs m (0x10040 + 4 * i) = true → s.refpriBad w.toNat = false →
      ¬(s.get F.CLK_STAT_ACTIVE = i.val ∧ s.get F.CLK_STAT_MODE ≠ clkFREERUN) →
      ∃ t, exec (.refpriWrite m i w) s = .next t ∧ t.get F.CLK_STAT_STATUS = stOK ∧
        t.get (F.CLK_REFPRI_EN i) = (F.CLK_REFPRI_EN i).of w.toNat ∧
        t.get (F.CLK_REFPRI_KIND i) = (F.CLK_REFPRI_KIND i).of w.toNat ∧
        t.get (F.CLK_REFPRI_NOM i) = (F.CLK_REFPRI_NOM i).of w.toNat ∧
        s.OnlyRegs t [F.CLK_STAT_STATUS, F.CLK_REFPRI_EN i, F.CLK_REFPRI_KIND i, F.CLK_REFPRI_INST i, F.CLK_REFPRI_NOM i]) ∧
    (∀ i : Fin 5, s.performs m (0x10040 + 4 * i) = true → s.refpriBad w.toNat = false →
      s.get F.CLK_STAT_ACTIVE = i.val → s.get F.CLK_STAT_MODE ≠ clkFREERUN → s.bestRef i = none →
      ∃ t, exec (.refpriWrite m i w) s = .next t ∧ t.get F.CLK_STAT_STATUS = stOK ∧
        t.get (F.CLK_REFPRI_QUAL i) = 0 ∧ t.get F.CLK_STAT_MODE = clkHOLDOVER ∧ t.get I.CLK_HOEXP = 1 ∧
        t.get (F.CLK_REFPRI_EN i) = (F.CLK_REFPRI_EN i).of w.toNat ∧
        t.get (I.REF_EN i) = (F.CLK_REFPRI_EN i).of w.toNat ∧
        s.OnlyRegsFree t ([F.CLK_STAT_STATUS, F.CLK_REFPRI_EN i, F.CLK_REFPRI_KIND i, F.CLK_REFPRI_INST i,
          F.CLK_REFPRI_NOM i] ++ State.refFields i ++ State.modeFields)) ∧
    (s.performs m 0x10000 = true → s.get F.SYS_ENGINE_STATE = 0 → s.clockUsersOff = true →
      ∃ t, exec (.reacq m w) s = .next t ∧ t.get F.CLK_STAT_STATUS = stOK ∧ t.get F.CLK_STAT_MODE = clkACQUIRE ∧
        t.get F.CLK_STAT_ACTIVE = 7 ∧
        s.OnlyRegsFree t ([F.CLK_STAT_STATUS, F.CLK_CTRL_REVERT, F.CLK_CTRL_BW, F.CLK_CTRL_REVERT_T,
          F.CLK_CTRL_HOLDOVER_MAX] ++ State.modeFields)) ∧
    (s.performs m 0x10000 = true → s.get F.SYS_ENGINE_STATE ≠ 0 ∨ s.clockUsersOff = false →
      ∃ t, exec (.reacq m w) s = .next t ∧ t.get F.CLK_STAT_STATUS = stREFUSED ∧ s.OnlyRegs t [F.CLK_STAT_STATUS]) ∧
    (s.performs m 0x10030 = true → s.get F.SYS_ENGINE_STATE = 0 → s.pair F.CLK_FRC_SET_LO_V F.CLK_FRC_SET_HI_V % 64 = 0 →
      ∃ t, exec (.frcLoadGo m) s = .next t ∧ t.get F.CLK_STAT_STATUS = stOK ∧ t.get I.FRC_LOADP = 1 ∧
        t.get I.FRC_LOADV = s.pair F.CLK_FRC_SET_LO_V F.CLK_FRC_SET_HI_V % 2 ^ 64 ∧
        s.OnlyRegs t [F.CLK_STAT_STATUS, I.FRC_LOADP, I.FRC_LOADV]) ∧
    (s.get I.FRC_LOADP ≠ 0 → s.get F.CLK_STAT_MODE ≠ clkACQUIRE →
      ∃ t, exec .frcLoadApply s = .next t ∧ t.frc = s.get I.FRC_LOADV % 2 ^ 64 ∧ t.get I.FRC_LOADP = 0 ∧
        t = { s with regs := t.regs, frc := t.frc, frcPrev := t.frcPrev } ∧
        ∀ f : Fld, f.id ≠ I.FRC_LOADP.id → f.id ≠ I.RATE_AT.id → f.id ≠ I.TICKED.id → t.get f = s.get f) ∧
    (s.performs m 0x20 = true → s.get F.SYS_ENGINE_STATE = 0 → F.SYS_RATE_MULT.of w.toNat ≠ 3 →
      ∃ t, exec (.rateWrite m w) s = .next t ∧ t.get F.SYS_RATE_STATUS = stOK ∧
        t.get F.SYS_RATE_BLOCK = F.SYS_RATE_BLOCK.of w.toNat ∧ t.get F.SYS_RATE_MULT = F.SYS_RATE_MULT.of w.toNat ∧
        t.get F.SYS_RATE_FAMILY = F.SYS_RATE_FAMILY.of w.toNat ∧
        (F.SYS_RATE_BLOCK.of w.toNat ≠ s.get I.RATE_B → t.get I.RATE_PEND = 1) ∧
        s.OnlyRegs t [F.SYS_RATE_STATUS, F.SYS_RATE_BLOCK, F.SYS_RATE_MULT, F.SYS_RATE_FAMILY, I.RATE_PEND, I.RATE_AT]) ∧
    (s.performs m 0x20 = true → s.get F.SYS_ENGINE_STATE ≠ 0 →
      ∃ t, exec (.rateWrite m w) s = .next t ∧ t.get F.SYS_RATE_STATUS = stREFUSED ∧ s.OnlyRegs t [F.SYS_RATE_STATUS]) ∧
    (s.get I.RATE_PEND ≠ 0 → s.get I.RATE_AT ≤ s.frc →
      ∃ t, exec .rateChangeApply s = .next t ∧ t.get I.RATE_PEND = 0 ∧ t.get I.RATE_M = s.get F.SYS_RATE_MULT % 4 ∧
        t.get I.RATE_B = s.get F.SYS_RATE_BLOCK % 4 ∧ t.get I.RATE_F = s.get F.SYS_RATE_FAMILY % 2 ∧
        (s.get F.SYS_RATE_FAMILY ≠ s.get I.RATE_F → t.get F.CLK_STAT_MODE = clkACQUIRE) ∧
        s.OnlyRegsFree t ([I.RATE_PEND, I.RATE_M, I.RATE_B, I.RATE_F, F.QN_STAT_CLAMP, F.QN_EVT_EVT] ++ State.modeFields))

/-- R38, R59 to R61: the clock outputs: enable, disable, the divider, the end of the start-up and of the shutdown.
Where the spec leaves a point open the clauses follow the model's choices: log entries 1, 14. -/
def Obligations.ClockOutputsComplete : Prop :=
  ∀ (s : State) (m : Master) (n : Fin 8),
    (s.performs m (0x10060 + 4 * n) = true → 6 ≤ s.get (F.CLK_MCLKO_DIV n) → s.get (F.CLK_MCLKO_DIV n) < 16 →
      s.get (F.CLK_MCLKO_EN n) = 0 → s.get (F.CLK_MCLKO_STATE n) = unitOFF →
      s.get (F.SYS_CLAIM_OWNER (State.mclkoSlot n)) = 0 →
      ∃ t, exec (.mclkoEnable m n) s = .next t ∧ t.get (F.CLK_MCLKO_EN n) = 1 ∧ t.get (F.CLK_MCLKO_STATE n) = unitSTARTING ∧
        t.get (F.SYS_CLAIM_OWNER (State.mclkoSlot n)) = 0x0100 + n ∧ t.get F.CLK_STAT_STATUS = stOK ∧
        s.OnlyRegs t [F.CLK_MCLKO_EN n, F.CLK_MCLKO_STATE n, F.CLK_MCLKO_DIV n, I.MCLKO_DIV n,
          F.SYS_CLAIM_OWNER (State.mclkoSlot n), F.CLK_STAT_STATUS]) ∧
    (s.performs m (0x10060 + 4 * n) = true → 6 ≤ s.get (F.CLK_MCLKO_DIV n) → s.get (F.CLK_MCLKO_DIV n) < 16 →
      s.get (F.CLK_MCLKO_EN n) ≠ 0 →
      s.get (F.CLK_MCLKO_STATE n) = unitSTARTING ∨ s.get (F.CLK_MCLKO_STATE n) = unitON →
      ∃ t, exec (.mclkoDisable m n) s = .next t ∧ t.get (F.CLK_MCLKO_EN n) = 0 ∧
        t.get (F.CLK_MCLKO_STATE n) = unitSHUTTING ∧ t.get F.CLK_STAT_STATUS = stOK ∧
        s.OnlyRegs t [F.CLK_MCLKO_EN n, F.CLK_MCLKO_STATE n, F.CLK_MCLKO_DIV n, F.CLK_STAT_STATUS]) ∧
    (∀ div : Fin 16, s.performs m (0x10060 + 4 * n) = true → 6 ≤ div.val → s.get (F.CLK_MCLKO_EN n) < 2 →
      ∃ t, exec (.mclkoDivWrite m n div) s = .next t ∧ t.get (F.CLK_MCLKO_DIV n) = div.val ∧
        t.get F.CLK_STAT_STATUS = stOK ∧ s.OnlyRegs t [F.CLK_MCLKO_DIV n, I.MCLKO_DIV n, F.CLK_STAT_STATUS]) ∧
    (∀ div : Fin 16, s.performs m (0x10060 + 4 * n) = true → div.val < 6 →
      ∃ t, exec (.mclkoDivWrite m n div) s = .next t ∧ t.get F.CLK_STAT_STATUS = stBADARG ∧
        s.OnlyRegs t [F.CLK_STAT_STATUS]) ∧
    (s.get (F.CLK_MCLKO_STATE n) = unitSTARTING →
      ∃ t, exec (.mclkoStarted n) s = .next t ∧ t.get (F.CLK_MCLKO_STATE n) = unitON ∧
        t.get (I.MCLKO_DIV n) = s.get (F.CLK_MCLKO_DIV n) % 16 ∧ s.OnlyRegs t [F.CLK_MCLKO_STATE n, I.MCLKO_DIV n]) ∧
    (s.get (F.CLK_MCLKO_STATE n) = unitSHUTTING → s.get (F.CLK_MCLKO_EN n) = 0 →
      ∃ t, exec (.mclkoStopped n) s = .next t ∧ t.get (F.CLK_MCLKO_STATE n) = unitOFF ∧
        (∀ k, t.get (F.SYS_CLAIM_OWNER k) ≠ 0x0100 + n) ∧
        s.OnlyRegs t ([F.CLK_MCLKO_STATE n, I.MCLKO_DIV n] ++ s.heldSlots (0x0100 + n))) ∧
    (s.get (F.CLK_MCLKO_STATE n) = unitSHUTTING → s.get (F.CLK_MCLKO_EN n) ≠ 0 →
      ∃ t, exec (.mclkoStopped n) s = .next t ∧ t.get (F.CLK_MCLKO_STATE n) = unitSTARTING ∧
        s.OnlyRegs t [F.CLK_MCLKO_STATE n, I.MCLKO_DIV n]) ∧
    (∀ src : Fin 4, s.performs m 0x10080 = true → src.val ≠ 3 → s.get F.CLK_SYNCOUT_EN = 0 →
      s.get F.CLK_SYNCOUT_STATE = unitOFF → s.get (F.SYS_CLAIM_OWNER State.syncoutSlot) = 0 →
      ∃ t, exec (.syncoutEnable m src) s = .next t ∧ t.get F.CLK_SYNCOUT_EN = 1 ∧ t.get F.CLK_SYNCOUT_SRC = src.val ∧
        t.get F.CLK_SYNCOUT_STATE = unitSTARTING ∧ t.get (F.SYS_CLAIM_OWNER State.syncoutSlot) = 0x0108 ∧
        t.get F.CLK_STAT_STATUS = stOK ∧
        s.OnlyRegs t [F.CLK_SYNCOUT_EN, F.CLK_SYNCOUT_SRC, F.CLK_SYNCOUT_STATE, F.SYS_CLAIM_OWNER State.syncoutSlot,
          F.CLK_STAT_STATUS]) ∧
    (s.performs m 0x10080 = true → s.get F.CLK_SYNCOUT_SRC < 3 → s.get F.CLK_SYNCOUT_EN ≠ 0 →
      s.get F.CLK_SYNCOUT_STATE = unitSTARTING ∨ s.get F.CLK_SYNCOUT_STATE = unitON →
      ∃ t, exec (.syncoutDisable m) s = .next t ∧ t.get F.CLK_SYNCOUT_EN = 0 ∧
        t.get F.CLK_SYNCOUT_STATE = unitSHUTTING ∧ t.get F.CLK_STAT_STATUS = stOK ∧
        s.OnlyRegs t [F.CLK_SYNCOUT_EN, F.CLK_SYNCOUT_SRC, F.CLK_SYNCOUT_STATE, F.CLK_STAT_STATUS]) ∧
    (s.get F.CLK_SYNCOUT_STATE = unitSTARTING →
      ∃ t, exec .syncoutStarted s = .next t ∧ t.get F.CLK_SYNCOUT_STATE = unitON ∧
        t.get I.SYNC_SRC = s.get F.CLK_SYNCOUT_SRC % 4 ∧ s.OnlyRegs t [F.CLK_SYNCOUT_STATE, I.SYNC_SRC]) ∧
    (s.get F.CLK_SYNCOUT_STATE = unitSHUTTING → s.get F.CLK_SYNCOUT_EN = 0 →
      ∃ t, exec .syncoutStopped s = .next t ∧ t.get F.CLK_SYNCOUT_STATE = unitOFF ∧
        (∀ k, t.get (F.SYS_CLAIM_OWNER k) ≠ 0x0108) ∧
        s.OnlyRegs t (F.CLK_SYNCOUT_STATE :: s.heldSlots 0x0108))

/-- R40 to R42, R201, R232, R238: what happens when FRC reaches a target of the engine. Where the spec leaves a point
open the clauses follow the model's choices: log entries 1, 6. -/
def Obligations.EngineTargetsComplete : Prop :=
  ∀ s : State,
    (s.get F.SYS_ENGINE_STATE = 1 → s.get I.ENG_LANDED = 0 → s.reached (s.get I.ENG_TGT) = true →
      ∃ t, exec .engineStartTarget s = .next t ∧ t.get I.ENG_LANDED = 1 ∧ s.OnlyRegs t [I.ENG_LANDED]) ∧
    (s.get F.SYS_ENGINE_STATE = 1 → s.get I.ENG_LANDED ≠ 0 → s.get I.ENG_STOPP = 0 →
      s.reached (s.get I.ENG_TGT + s.blockLen) = true →
      ∃ t, exec .engineFirstDispatch s = .next t ∧ t.get F.SYS_ENGINE_STATE = 2 ∧ t.get F.SYS_EVT_STATE = 1 ∧
        (s.blockIx ≠ 0 → s.phRunning = false → t.get I.QN_ARMBLK = s.blockIx % 2 ^ 64) ∧
        t = { s with regs := t.regs, toDeliver := t.toDeliver } ∧
        s.KeepsNames t [F.SYS_ENGINE_STATE, F.SYS_PWR_STATE, F.SYS_EVT_STATE, I.PIP_ARM 0, I.PIP_BLK 0, F.PIP13_CNT 0,
          F.PIP13_STATE 0, I.PIP_RDY 0, I.QN_RDY, F.QN_EVT_EVT, I.QN_ARMBLK, I.PH_P 0, I.PH_D 0, I.PH_G 0]) ∧
    (s.get F.SYS_ENGINE_STATE = 1 ∨ s.get F.SYS_ENGINE_STATE = 2 → s.get I.ENG_STOPP ≠ 0 →
      s.reached (s.get I.ENG_STOPT) = true →
      ∃ t, exec .engineStopTarget s = .next t ∧ t.get F.SYS_ENGINE_STATE = 3 ∧ t.get F.SYS_EVT_STATE = 1 ∧
        t.scn.cmds = [] ∧ (s.get F.SCN_RCL_STATE ≠ 0 → t.get F.SCN_RCL_STATE = 0 ∧ t.get F.SCN_RCL_STATUS = stREFUSED) ∧
        t = { s with regs := t.regs, toDeliver := t.toDeliver, scn := t.scn } ∧
        s.KeepsNames t [F.SYS_ENGINE_STATE, F.SYS_PWR_STATE, F.SYS_EVT_STATE, I.PIP_ARM 0, I.PIP_BLK 0, F.PIP13_CNT 0,
          F.PIP13_STATE 0, I.PIP_RDY 0, I.QN_RDY, F.QN_EVT_EVT, I.QN_ARMBLK, I.PH_P 0, I.PH_D 0, I.PH_G 0,
          F.BRM_SWAP_STATE, F.SCN_RCL_STATE, F.SCN_RCL_STATUS, F.SCN_RAMPS_RSV, F.SCN_EVT_EVT, F.SCN_REFUSE_REASON,
          F.SCN_REFUSE_MASTER, F.SCN_REFUSE_INDEX]) ∧
    (s.get F.SYS_ENGINE_STATE = 3 → s.reached (s.get I.ENG_STOPT + 2 * s.blockLen) = true → s.get I.ENG_RESTART = 0 →
      ∃ t, exec .engineStopped s = .next t ∧ t.get F.SYS_ENGINE_STATE = 0 ∧ t.get F.SYS_EVT_STATE = 1 ∧
        t.get F.SYS_PWR_STATE = 1 ∧ t.vm.phasor = [] ∧ t.mems = s.mems ∧ t.frc = s.frc ∧
        (∀ k, t.get (F.SYS_CLAIM_OWNER k) = s.get (F.SYS_CLAIM_OWNER k)) ∧
        (∀ k, t.get (F.PIP1_EN k) = s.get (F.PIP1_EN k))) ∧
    (s.get F.SYS_ENGINE_STATE = 3 → s.reached (s.get I.ENG_STOPT + 2 * s.blockLen) = true → s.get I.ENG_RESTART ≠ 0 →
      ∃ t, exec .engineStopped s = .next t ∧ t.get F.SYS_ENGINE_STATE = 1 ∧ t.vm.phasor = [] ∧
        t.get I.ENG_TGT = s.restartTarget % 2 ^ 64 ∧ t.mems = s.mems ∧ t.frc = s.frc)

/-- R15, R20 to R22, R160, R161: the tick comes at a block boundary, with event 8; at the deadline an unfinished sink
makes the block overrun, with OVR, its count and event 1. Where a pair has items to release at the tick, those act too
(R388), so the frame is said for none. Where the spec leaves a point open the clauses follow the model's choices: log
entries 5, 9, 158. -/
def Obligations.TickAndDeadlineComplete : Prop :=
  ∀ s : State,
    (s.clockRuns = true → s.tickFrc < 2 ^ 64 → s.twin.items = [] →
      ∃ t, exec .blockTick s = .next t ∧ t.frc = s.tickFrc ∧ t.frc % s.blockLen = 0 ∧ t.cclk = 0 ∧
        t.get F.CLK_EVT_EVT % 2 = 1 ∧ t.get I.TICKED = (t.frc + 1) % 2 ^ 64 ∧ t.dram = s.dram ∧
        t = { s with regs := t.regs, frc := t.frc, frcPrev := t.frcPrev, cclk := t.cclk, tclk := t.tclk, free := t.free,
                     toDeliver := t.toDeliver, cores := t.cores, orchard := t.orchard, orcFlaws := t.orcFlaws,
                     dirty := t.dirty, qn := t.qn, vm := t.vm, scn := t.scn,
                     routes := t.routes, hold := t.hold, twin := t.twin, faults := t.faults }) ∧
    (s.clockRuns = true → s.phRunning = true → s.get I.QN_OVRBLK ≠ s.blockIx →
      s.frc % s.blockLen = 0 → s.deadline / s.sampleCycles < s.blockLen → s.frc + s.blockLen ≤ 2 ^ 64 →
      s.lateSinks (s.blockIx - 1) ≠ [] →
      ∃ t, exec .deadlineCheck s = .next t ∧ t.frc = s.frc + s.deadline / s.sampleCycles ∧ s.deadline ≤ t.cclk ∧
        t.get F.SYS_ENGINE_OVR = 1 ∧ t.get F.QN_OVRCNT_N = min (s.get F.QN_OVRCNT_N + 1) (2 ^ 32 - 1) ∧
        (∀ p ∈ s.lateSinks (s.blockIx - 1), t.get (I.PIP_OVM p) = s.blockIx % 2 ^ 64) ∧ t.dram = s.dram ∧
        t.pending = s.pending ∧ t.get F.SYS_ENGINE_STATE = s.get F.SYS_ENGINE_STATE) ∧
    (s.clockRuns = true → s.phRunning = true → s.frc % s.blockLen = 0 → s.deadline / s.sampleCycles < s.blockLen →
      s.frc + s.blockLen ≤ 2 ^ 64 → s.lateSinks (s.blockIx - 1) = [] →
      ∃ t, exec .deadlineCheck s = .next t ∧ t.frc = s.frc + s.deadline / s.sampleCycles ∧ s.deadline ≤ t.cclk ∧
        t.get F.SYS_ENGINE_OVR = s.get F.SYS_ENGINE_OVR ∧ t.get F.QN_OVRCNT_N = s.get F.QN_OVRCNT_N ∧ t.dram = s.dram ∧
        t.pending = s.pending ∧ t.get F.SYS_ENGINE_STATE = s.get F.SYS_ENGINE_STATE)

/-- R104, R107 to R112: a NOP and each vector ALU instruction, with any move that stays within the core, leaves its
lanes (and VCMP its flags, a clamp SV) for the second instruction after it, and changes nothing else. Where the spec
leaves a point open the clauses follow the model's choices: log entry 88. -/
def Obligations.VectorAluComplete : Prop :=
  ∀ (s : State) (c : CoreSel) (i : CoreWord) (n : Nat) (x : Seen), CoreSel.ix c = n → s.seen n i = x → s.ready n = true →
    x.moves = true →
    (∃ t, exec (.nop c i) s = .next t ∧ s.ResultsOnly t n i []) ∧
    (∃ t, exec (.vadd c i) s = .next t ∧
      (∀ l ∈ x.lanes, Narrowed i.sat ((t.liveBank n).readIn 1 (ixV i.vd l))
        (x.sva l + x.sbl l)) ∧
      (i.sat = true → (∃ l ∈ x.lanes, x.sva l + x.sbl l < -(2 ^ 31) ∨ 2 ^ 31 - 1 < x.sva l + x.sbl l) →
        (t.liveBank n).readIn 1 (ixSV) = 1) ∧
      s.ResultsOnly t n i (State.fDst i.vd)) ∧
    (∃ t, exec (.vsub c i) s = .next t ∧
      (∀ l ∈ x.lanes, Narrowed i.sat ((t.liveBank n).readIn 1 (ixV i.vd l))
        (x.sva l - x.sbl l)) ∧
      s.ResultsOnly t n i (State.fDst i.vd)) ∧
    (∃ t, exec (.vmul c i) s = .next t ∧
      (∀ l ∈ x.lanes, Narrowed i.sat ((t.liveBank n).readIn 1 (ixV i.vd l))
        (if natBit i.sub.toNat 0 then x.sva l * x.sbl l else (x.sva l * x.sbl l + 2 ^ 26) / 2 ^ 27)) ∧
      s.ResultsOnly t n i (State.fDst i.vd)) ∧
    (∃ t, exec (.vmin c i) s = .next t ∧
      (i.flg = true → ∀ l ∈ x.lanes, (t.liveBank n).readIn 1 (ixV i.vd l) =
        min (x.va l) (x.bl l) % 2 ^ 32) ∧
      (i.flg = false → ∀ l ∈ x.lanes, sint 32 ((t.liveBank n).readIn 1 (ixV i.vd l)) =
        min (x.sva l) (x.sbl l)) ∧
      s.ResultsOnly t n i (State.vDst i.vd)) ∧
    (∃ t, exec (.vmax c i) s = .next t ∧
      (i.flg = true → ∀ l ∈ x.lanes, (t.liveBank n).readIn 1 (ixV i.vd l) =
        max (x.va l) (x.bl l) % 2 ^ 32) ∧
      (i.flg = false → ∀ l ∈ x.lanes, sint 32 ((t.liveBank n).readIn 1 (ixV i.vd l)) =
        max (x.sva l) (x.sbl l)) ∧
      s.ResultsOnly t n i (State.vDst i.vd)) ∧
    (∃ t, exec (.vabs c i) s = .next t ∧
      (∀ l ∈ x.lanes, Narrowed i.sat ((t.liveBank n).readIn 1 (ixV i.vd l))
        (((x.sva l).natAbs : Int))) ∧
      s.ResultsOnly t n i (State.fDst i.vd)) ∧
    (∃ t, exec (.vneg c i) s = .next t ∧
      (∀ l ∈ x.lanes, Narrowed i.sat ((t.liveBank n).readIn 1 (ixV i.vd l))
        (-(x.sva l))) ∧
      s.ResultsOnly t n i (State.fDst i.vd)) ∧
    (∃ t, exec (.vshl c i) s = .next t ∧
      (∀ l ∈ x.lanes, Narrowed i.sat ((t.liveBank n).readIn 1 (ixV i.vd l))
        (x.sva l * 2 ^ (x.shiftBy l))) ∧
      s.ResultsOnly t n i (State.fDst i.vd)) ∧
    (∃ t, exec (.vshr c i) s = .next t ∧
      (i.flg = true → ∀ l ∈ x.lanes, (t.liveBank n).readIn 1 (ixV i.vd l) =
        x.va l / 2 ^ (x.shiftBy l) % 2 ^ 32) ∧
      (i.flg = false → ∀ l ∈ x.lanes, (t.liveBank n).readIn 1 (ixV i.vd l) =
        wrap 32 (rhu (x.sva l) (x.shiftBy l))) ∧
      s.ResultsOnly t n i (State.vDst i.vd)) ∧
    (∃ t, exec (.vand c i) s = .next t ∧
      (i.flg = false → ∀ l ∈ x.lanes, (t.liveBank n).readIn 1 (ixV i.vd l) =
        (x.va l &&& x.bl l) % 2 ^ 32) ∧
      (i.flg = true → ∀ l ∈ x.lanes, (t.liveBank n).readIn 1 (ixV i.vd l) =
        (x.va l &&& (2 ^ 32 - 1 - x.bl l)) % 2 ^ 32) ∧
      s.ResultsOnly t n i (State.vDst i.vd)) ∧
    (∃ t, exec (.vor c i) s = .next t ∧
      (∀ l ∈ x.lanes, (t.liveBank n).readIn 1 (ixV i.vd l) =
        (x.va l ||| x.bl l) % 2 ^ 32) ∧
      s.ResultsOnly t n i (State.vDst i.vd)) ∧
    (∃ t, exec (.vxor c i) s = .next t ∧
      (∀ l ∈ x.lanes, (t.liveBank n).readIn 1 (ixV i.vd l) =
        (x.va l ^^^ x.bl l) % 2 ^ 32) ∧
      s.ResultsOnly t n i (State.vDst i.vd)) ∧
    (∃ t, exec (.vcmp c i) s = .next t ∧
      (∀ l ∈ x.lanes, (t.liveBank n).readIn 1 (ixV i.vd l) =
        (if cmpLanes (natBits i.sub.toNat 2 0) (x.va l) (x.bl l) then 2 ^ 32 - 1 else 0)) ∧
      (∀ l ∈ x.lanes, natBit ((t.liveBank n).readIn 1 (ixLF)) l =
        cmpLanes (natBits i.sub.toNat 2 0) (x.va l) (x.bl l)) ∧
      s.ResultsOnly t n i (ixLF :: State.vDst i.vd)) ∧
    (∃ t, exec (.vsel c i) s = .next t ∧
      (∀ l ∈ x.lanes, (t.liveBank n).readIn 1 (ixV i.vd l) =
        (if natBit ((s.liveBank n).settle.rd ixLF) l then x.va l else x.vb l) % 2 ^ 32) ∧
      s.ResultsOnly t n i (State.vDst i.vd)) ∧
    (c ≠ .steward → ∃ t, exec (.vperm c i) s = .next t ∧
      (∀ l ∈ [0, 1, 2, 3], (t.liveBank n).readIn 1 (ixV i.vd l) =
        x.va (natBits (128 * b2n i.flg + i.sub.toNat) (2 * l + 1) (2 * l)) % 2 ^ 32) ∧
      s.ResultsOnly t n i (State.vDst i.vd))

/-- R113 to R115: each multiply-accumulate instruction and accumulator transfer, with any move that stays within the
core, leaves its accumulator lanes for the next addend and the third transfer after it (RDACC its vector lanes for the
second instruction), and changes nothing else. Where the spec leaves a point open the clauses follow the model's
choices: log entry 88. -/
def Obligations.AccumulatorInstructionsComplete : Prop :=
  ∀ (s : State) (c : CoreSel) (i : CoreWord) (n : Nat) (x : Seen), CoreSel.ix c = n → s.seen n i = x → s.ready n = true →
    x.moves = true →
    (∃ t, exec (.mac c i) s = .next t ∧
      (∀ l ∈ x.lanes, Wrapped ((t.liveBank n).readIn 0 (ixAdd i.acc l)) (x.addend l + (if i.flg then -(x.sva l * x.sbl l) else x.sva l * x.sbl l)) ∧
        Wrapped ((t.liveBank n).readIn 2 (ixAcc i.acc l)) (x.addend l + (if i.flg then -(x.sva l * x.sbl l) else x.sva l * x.sbl l))) ∧
      s.ResultsOnly t n i (State.aDst i.acc)) ∧
    (∃ t, exec (.msu c i) s = .next t ∧
      (∀ l ∈ x.lanes, Wrapped ((t.liveBank n).readIn 0 (ixAdd i.acc l)) (x.addend l - (if i.flg then -(x.sva l * x.sbl l) else x.sva l * x.sbl l)) ∧
        Wrapped ((t.liveBank n).readIn 2 (ixAcc i.acc l)) (x.addend l - (if i.flg then -(x.sva l * x.sbl l) else x.sva l * x.sbl l))) ∧
      s.ResultsOnly t n i (State.aDst i.acc)) ∧
    (∃ t, exec (.mpy c i) s = .next t ∧
      (∀ l ∈ x.lanes, Wrapped ((t.liveBank n).readIn 0 (ixAdd i.acc l)) ((if i.flg then -(x.sva l * x.sbl l) else x.sva l * x.sbl l)) ∧
        Wrapped ((t.liveBank n).readIn 2 (ixAcc i.acc l)) ((if i.flg then -(x.sva l * x.sbl l) else x.sva l * x.sbl l))) ∧
      s.ResultsOnly t n i (State.aDst i.acc)) ∧
    (c ≠ .steward → ∃ t, exec (.ftap c i) s = .next t ∧
      (∀ l ∈ x.lanes, Wrapped ((t.liveBank n).readIn 0 (ixAdd i.acc l)) (x.addend l + (if i.flg then -(x.window (l + natBits i.sub.toNat 1 0) * x.svb (natBits i.sub.toNat 3 2)) else x.window (l + natBits i.sub.toNat 1 0) * x.svb (natBits i.sub.toNat 3 2))) ∧
        Wrapped ((t.liveBank n).readIn 2 (ixAcc i.acc l)) (x.addend l + (if i.flg then -(x.window (l + natBits i.sub.toNat 1 0) * x.svb (natBits i.sub.toNat 3 2)) else x.window (l + natBits i.sub.toNat 1 0) * x.svb (natBits i.sub.toNat 3 2)))) ∧
      s.ResultsOnly t n i (State.aDst i.acc)) ∧
    (c ≠ .steward → ∃ t, exec (.ftap2 c i) s = .next t ∧
      (∀ l ∈ x.lanes, Wrapped ((t.liveBank n).readIn 0 (ixAdd i.acc l)) (x.addend l + (if i.flg then -(x.window (l + natBits i.sub.toNat 1 0) * x.svb (2 * natBits i.sub.toNat 2 2) +
          x.window (l + natBits i.sub.toNat 1 0 + 1) * x.svb (2 * natBits i.sub.toNat 2 2 + 1)) else x.window (l + natBits i.sub.toNat 1 0) * x.svb (2 * natBits i.sub.toNat 2 2) +
          x.window (l + natBits i.sub.toNat 1 0 + 1) * x.svb (2 * natBits i.sub.toNat 2 2 + 1))) ∧
        Wrapped ((t.liveBank n).readIn 2 (ixAcc i.acc l)) (x.addend l + (if i.flg then -(x.window (l + natBits i.sub.toNat 1 0) * x.svb (2 * natBits i.sub.toNat 2 2) +
          x.window (l + natBits i.sub.toNat 1 0 + 1) * x.svb (2 * natBits i.sub.toNat 2 2 + 1)) else x.window (l + natBits i.sub.toNat 1 0) * x.svb (2 * natBits i.sub.toNat 2 2) +
          x.window (l + natBits i.sub.toNat 1 0 + 1) * x.svb (2 * natBits i.sub.toNat 2 2 + 1)))) ∧
      s.ResultsOnly t n i (State.aDst i.acc)) ∧
    (c ≠ .steward → ∃ t, exec (.cmac c i) s = .next t ∧
      (∀ p ∈ [0, 1], ∀ q ∈ [0, 1], q = (if natBit i.sub.toNat 6 then natBits i.sub.toNat 4 4 else p) →
        Wrapped ((t.liveBank n).readIn 0 (ixAdd i.acc (2 * p))) (x.addend (2 * p) + (if i.flg then -(x.sva (2 * p) * x.svb (2 * q) - x.sva (2 * p + 1) * x.svb (2 * q + 1)) else x.sva (2 * p) * x.svb (2 * q) - x.sva (2 * p + 1) * x.svb (2 * q + 1))) ∧
        Wrapped ((t.liveBank n).readIn 2 (ixAcc i.acc (2 * p))) (x.addend (2 * p) + (if i.flg then -(x.sva (2 * p) * x.svb (2 * q) - x.sva (2 * p + 1) * x.svb (2 * q + 1)) else x.sva (2 * p) * x.svb (2 * q) - x.sva (2 * p + 1) * x.svb (2 * q + 1))) ∧
        Wrapped ((t.liveBank n).readIn 0 (ixAdd i.acc (2 * p + 1))) (x.addend (2 * p + 1) + (if i.flg then -(x.sva (2 * p) * x.svb (2 * q + 1) + x.sva (2 * p + 1) * x.svb (2 * q)) else x.sva (2 * p) * x.svb (2 * q + 1) + x.sva (2 * p + 1) * x.svb (2 * q))) ∧
        Wrapped ((t.liveBank n).readIn 2 (ixAcc i.acc (2 * p + 1))) (x.addend (2 * p + 1) + (if i.flg then -(x.sva (2 * p) * x.svb (2 * q + 1) + x.sva (2 * p + 1) * x.svb (2 * q)) else x.sva (2 * p) * x.svb (2 * q + 1) + x.sva (2 * p + 1) * x.svb (2 * q)))) ∧
      s.ResultsOnly t n i (State.aDst i.acc)) ∧
    (c ≠ .steward → ∃ t, exec (.cmpy c i) s = .next t ∧
      (∀ p ∈ [0, 1], ∀ q ∈ [0, 1], q = (if natBit i.sub.toNat 6 then natBits i.sub.toNat 4 4 else p) →
        Wrapped ((t.liveBank n).readIn 0 (ixAdd i.acc (2 * p))) ((if i.flg then -(x.sva (2 * p) * x.svb (2 * q) - x.sva (2 * p + 1) * x.svb (2 * q + 1)) else x.sva (2 * p) * x.svb (2 * q) - x.sva (2 * p + 1) * x.svb (2 * q + 1))) ∧
        Wrapped ((t.liveBank n).readIn 2 (ixAcc i.acc (2 * p))) ((if i.flg then -(x.sva (2 * p) * x.svb (2 * q) - x.sva (2 * p + 1) * x.svb (2 * q + 1)) else x.sva (2 * p) * x.svb (2 * q) - x.sva (2 * p + 1) * x.svb (2 * q + 1))) ∧
        Wrapped ((t.liveBank n).readIn 0 (ixAdd i.acc (2 * p + 1))) ((if i.flg then -(x.sva (2 * p) * x.svb (2 * q + 1) + x.sva (2 * p + 1) * x.svb (2 * q)) else x.sva (2 * p) * x.svb (2 * q + 1) + x.sva (2 * p + 1) * x.svb (2 * q))) ∧
        Wrapped ((t.liveBank n).readIn 2 (ixAcc i.acc (2 * p + 1))) ((if i.flg then -(x.sva (2 * p) * x.svb (2 * q + 1) + x.sva (2 * p + 1) * x.svb (2 * q)) else x.sva (2 * p) * x.svb (2 * q + 1) + x.sva (2 * p + 1) * x.svb (2 * q)))) ∧
      s.ResultsOnly t n i (State.aDst i.acc)) ∧
    (c ≠ .steward → ∃ t, exec (.cmacj c i) s = .next t ∧
      (∀ p ∈ [0, 1], ∀ q ∈ [0, 1], q = (if natBit i.sub.toNat 6 then natBits i.sub.toNat 4 4 else p) →
        Wrapped ((t.liveBank n).readIn 0 (ixAdd i.acc (2 * p))) (x.addend (2 * p) + (if i.flg then -(x.sva (2 * p) * x.svb (2 * q) + x.sva (2 * p + 1) * x.svb (2 * q + 1)) else x.sva (2 * p) * x.svb (2 * q) + x.sva (2 * p + 1) * x.svb (2 * q + 1))) ∧
        Wrapped ((t.liveBank n).readIn 2 (ixAcc i.acc (2 * p))) (x.addend (2 * p) + (if i.flg then -(x.sva (2 * p) * x.svb (2 * q) + x.sva (2 * p + 1) * x.svb (2 * q + 1)) else x.sva (2 * p) * x.svb (2 * q) + x.sva (2 * p + 1) * x.svb (2 * q + 1))) ∧
        Wrapped ((t.liveBank n).readIn 0 (ixAdd i.acc (2 * p + 1))) (x.addend (2 * p + 1) + (if i.flg then -(x.sva (2 * p + 1) * x.svb (2 * q) - x.sva (2 * p) * x.svb (2 * q + 1)) else x.sva (2 * p + 1) * x.svb (2 * q) - x.sva (2 * p) * x.svb (2 * q + 1))) ∧
        Wrapped ((t.liveBank n).readIn 2 (ixAcc i.acc (2 * p + 1))) (x.addend (2 * p + 1) + (if i.flg then -(x.sva (2 * p + 1) * x.svb (2 * q) - x.sva (2 * p) * x.svb (2 * q + 1)) else x.sva (2 * p + 1) * x.svb (2 * q) - x.sva (2 * p) * x.svb (2 * q + 1)))) ∧
      s.ResultsOnly t n i (State.aDst i.acc)) ∧
    (∃ t, exec (.rdacc c i) s = .next t ∧
      (i.flg = false → ∀ l ∈ x.lanes, Narrowed i.sat ((t.liveBank n).readIn 1 (ixV i.vd l))
        (rhu (x.accum i.acc l) (27 - min (natBits i.sub.toNat 4 0) 27))) ∧
      (i.flg = true → natBits i.sub.toNat 1 0 = 0 → ∀ l ∈ x.lanes,
        (t.liveBank n).readIn 1 (ixV i.vd l) = wrap 72 (x.accum i.acc l) % 2 ^ 32) ∧
      (i.flg = true → natBits i.sub.toNat 1 0 = 1 → ∀ l ∈ x.lanes,
        (t.liveBank n).readIn 1 (ixV i.vd l) = wrap 72 (x.accum i.acc l) / 2 ^ 32 % 2 ^ 32) ∧
      (i.flg = true → natBits i.sub.toNat 1 0 = 2 → ∀ l ∈ x.lanes,
        sint 32 ((t.liveBank n).readIn 1 (ixV i.vd l)) = sint 8 (wrap 72 (x.accum i.acc l) / 2 ^ 64)) ∧
      s.ResultsOnly t n i (State.fDst i.vd)) ∧
    (∃ t, exec (.clra c i) s = .next t ∧
      (i.flg = false → ∀ l ∈ x.lanes, Wrapped ((t.liveBank n).readIn 0 (ixAdd i.acc l)) 0 ∧
        Wrapped ((t.liveBank n).readIn 2 (ixAcc i.acc l)) 0) ∧
      (i.flg = true → natBits i.sub.toNat 1 0 = 3 → ∀ l ∈ x.lanes,
        Wrapped ((t.liveBank n).readIn 2 (ixAcc i.acc l)) (x.sva l * 2 ^ 27)) ∧
      (i.flg = true → natBits i.sub.toNat 1 0 = 0 → ∀ l ∈ x.lanes,
        (t.liveBank n).readIn 2 (ixAcc i.acc l) % 2 ^ 32 = x.va l % 2 ^ 32) ∧
      (i.flg = true → ∀ l ∈ x.lanes, x.va l < 2 ^ 32 → 
        (natBits i.sub.toNat 1 0 = 0 → (t.liveBank n).readIn 2 (ixAcc i.acc l) / 2 ^ 32 = wrap 72 (x.addend l) / 2 ^ 32) ∧
        (natBits i.sub.toNat 1 0 = 1 → (t.liveBank n).readIn 2 (ixAcc i.acc l) / 2 ^ 32 % 2 ^ 32 = x.va l ∧
          (t.liveBank n).readIn 2 (ixAcc i.acc l) % 2 ^ 32 = wrap 72 (x.addend l) % 2 ^ 32 ∧
          (t.liveBank n).readIn 2 (ixAcc i.acc l) / 2 ^ 64 = wrap 72 (x.addend l) / 2 ^ 64) ∧
        (natBits i.sub.toNat 1 0 = 2 → (t.liveBank n).readIn 2 (ixAcc i.acc l) / 2 ^ 64 = x.va l % 2 ^ 8 ∧
          (t.liveBank n).readIn 2 (ixAcc i.acc l) % 2 ^ 64 = wrap 72 (x.addend l) % 2 ^ 64)) ∧
      s.ResultsOnly t n i (State.aDst i.acc)) ∧
    (∃ t, exec (.ashf c i) s = .next t ∧
      (∀ l ∈ x.lanes, Wrapped ((t.liveBank n).readIn 2 (ixAcc i.acc l))
        (if 0 ≤ sint 7 i.sub.toNat then x.accum i.acc l * 2 ^ (sint 7 i.sub.toNat).toNat
          else rhu (x.accum i.acc l) (-(sint 7 i.sub.toNat)).toNat)) ∧
      s.ResultsOnly t n i (State.aDst i.acc)) ∧
    (∃ t, exec (.amov c i) s = .next t ∧
      (∀ l ∈ x.lanes, Wrapped ((t.liveBank n).readIn 0 (ixAdd i.acc l)) ((if i.flg then -(x.accum (natBits i.sub.toNat 1 0) l) else x.accum (natBits i.sub.toNat 1 0) l)) ∧
        Wrapped ((t.liveBank n).readIn 2 (ixAcc i.acc l)) ((if i.flg then -(x.accum (natBits i.sub.toNat 1 0) l) else x.accum (natBits i.sub.toNat 1 0) l))) ∧
      s.ResultsOnly t n i (State.aDst i.acc))

/-- R116 to R122, R150: table interpolation, phasor and parameter reads, and the taking of events, by the cores and by
the steward, leave their lanes for the fourth instruction after them. Where the spec leaves a point open the clauses
follow the model's choices: log entries 88, 90, 101. -/
def Obligations.ServiceReadsComplete : Prop :=
  ∀ (s : State) (c : CoreSel) (i : CoreWord) (n : Nat) (x : Seen), CoreSel.ix c = n → s.seen n i = x → s.ready n = true →
    x.moves = true →
    (c ≠ .steward → (s.core n).flaws = [] → x.tabBase + 4 * 2 ^ (6 + natBits i.sub.toNat 6 4) ≤ 0x40000 →
      ∃ t, exec (.tlerp c i) s = .next t ∧
        (∀ l ∈ [0, 1, 2, 3], ∀ k ∈ [6 + natBits i.sub.toNat 6 4], ∀ a ∈ [x.va l / 2 ^ (32 - k)],
          ∀ b ∈ [if a + 1 < 2 ^ k then a + 1 else if i.flg then a else 0],
          (t.liveBank n).readIn 3 (ixV i.vd l) =
            wrap 32 (x.entry a + rhu ((x.entry b - x.entry a) * ((x.va l * 2 ^ k / 2 ^ 16 % 2 ^ 16 : Nat) : Int)) 16)) ∧
        s.ResultsOnly t n i (State.vDst i.vd)) ∧
    (c ≠ .steward →
      ∃ t, exec (.phrd c i) s = .next t ∧
        (∀ l ∈ [0, 1, 2, 3], ∀ p ∈ [x.va 0 % 2 ^ 13], ∀ o ∈ [natBits i.sub.toNat 5 0 + l],
          (t.liveBank n).readIn 3 (ixV i.vd l) = s.phPhase p (o : Nat) / 2 ^ 16 % 2 ^ 32 ∧
          (s.phStep p (o : Nat) = 0 → (t.liveBank n).readIn 3 (ixV (i.vd + 1 : Nat) l) = 0x80000000) ∧
          (0 < s.phStep p (o : Nat) → (s.phPhase p (o : Nat) : Int) < s.phStep p (o : Nat) →
            (t.liveBank n).readIn 3 (ixV (i.vd + 1 : Nat) l) =
              Seen.wrapPos (s.phPhase p (o : Nat) : Nat) (s.phStep p (o : Nat)) % 2 ^ 32)) ∧
        s.ResultsOnly t n i (State.vDst i.vd ++ [0, 1, 2, 3].map (fun l => ixV (i.vd + 1 : Nat) l))) ∧
    (∃ t, exec (.prmrd c i) s = .next t ∧
      (natBit i.sub.toNat 6 = false → c ≠ .steward → ∀ l ∈ [0, 1, 2, 3], ∀ k ∈ [x.va 0 % 2 ^ 16],
        Narrowed i.sat ((t.liveBank n).readIn 3 (ixV i.vd l))
          (sint 32 (s.prmValue k) + sint 32 (s.prmSlope k) * ((natBits i.sub.toNat 5 0 + l : Nat) : Int))) ∧
      (natBit i.sub.toNat 6 = true → c ≠ .steward → ∀ l ∈ [0, 1, 2, 3], ∀ k ∈ [x.va l % 2 ^ 16],
        Narrowed i.sat ((t.liveBank n).readIn 3 (ixV i.vd l))
          (sint 32 (s.prmValue k) + sint 32 (s.prmSlope k) * ((natBits i.sub.toNat 5 0 : Nat) : Int))) ∧
      s.ResultsOnly t n i (State.fDst i.vd)) ∧
    (∀ e : Nat, c ≠ .steward → x.b.events[x.b.head]? = some e →
      ∃ t, exec (.evpop c i) s = .next t ∧ (∀ l ∈ [0, 1, 2, 3], (t.liveBank n).readIn 3 (ixV i.vd l) = lane e l) ∧
        (t.liveBank n).head = (if natBit i.sub.toNat 0 then x.b.head else x.b.head + 1) ∧
        (t.liveBank n).readIn 3 (ixV (i.vd + 1 : Nat) 0) = (x.b.events.length - (t.liveBank n).head) % 2 ^ 32 ∧
        s.ResultsAnd t n i (State.vDst i.vd ++ [0, 1, 2, 3].map (fun l => ixV (i.vd + 1 : Nat) l))
          (fun b => { b with head := (t.liveBank n).head })) ∧
    (c ≠ .steward → x.b.events[x.b.head]? = none →
      ∃ t, exec (.evpop c i) s = .next t ∧ (∀ l ∈ [0, 1, 2, 3], (t.liveBank n).readIn 3 (ixV i.vd l) = 0) ∧
        (t.liveBank n).readIn 3 (ixV (i.vd + 1 : Nat) 0) = 2 ^ 32 - 1 ∧
        s.ResultsOnly t n i (State.vDst i.vd ++ [0, 1, 2, 3].map (fun l => ixV (i.vd + 1 : Nat) l))) ∧
    (∀ (e : Nat × Nat) (rest : List (Nat × Nat)), c = .steward → s.stewardQ = e :: rest →
      ∃ t, exec (.stewardEvpop i) s = .next t ∧ (t.liveBank n).readIn 3 (ixV i.vd 0) = e.1 % 2 ^ 32 ∧
        (t.liveBank n).readIn 3 (ixV i.vd 1) = e.2 % 2 ^ 32 ∧
        t.stewardQ = (if natBit i.sub.toNat 0 then e :: rest else rest) ∧
        (t.liveBank n).readIn 3 (ixV (i.vd + 1 : Nat) 0) = t.stewardQ.length % 2 ^ 32 ∧
        s.ResultsOnly { t with stewardQ := s.stewardQ } n i [ixV i.vd 0, ixV i.vd 1, ixV (i.vd + 1 : Nat) 0])

/-- R71, R72, R77, R82, R92, R123 to R126, R142, R145: loads, stores, immediates and address-register instructions,
the arrival of Orchard data and the writing of posted stores. Where the spec leaves a point open the clauses follow
the model's choices: log entries 88, 91, 100. -/
def Obligations.MemoryInstructionsComplete : Prop :=
  ∀ (s : State) (c : CoreSel) (i : CoreWord) (n : Nat) (x : Seen), CoreSel.ix c = n → s.seen n i = x → s.ready n = true →
    (natBits i.sub.toNat 1 0 = 0 → (s.core n).flaws = [] → x.own < dmemSize n → (∀ p ∈ x.b.pend, p.idx ≠ ixReg 0 x.xi) →
      ∃ t, exec (.ld c i) s = .next t ∧
        (∀ d ∈ x.vecDst x.own x.vr, (t.liveBank n).readIn 2 d.1 =
          lane (leNat (x.b.loadBytes x.c.dmem (x.own / 16 * 16) 16)) d.2) ∧
        (t.liveBank n).readIn 0 (ixReg 0 x.xi) = x.postmod x.xi x.mj x.circF ∧
        (∀ p ∈ (t.liveBank n).pend.drop x.b.pend.length, p.idx ∈ ixReg 0 x.xi :: (x.vecDst x.own x.vr).map (fun d => d.1)) ∧
        (t.core n).dmem = (s.core n).dmem ∧ (t.core n).stores = (s.core n).stores ∧ (t.liveBank n).ovl = x.b.ovl ∧
        (t.liveBank n).load = none ∧ (t.liveBank n).pend.take x.b.pend.length = x.b.pend ∧ s.WentOn t n i) ∧
    (natBits i.sub.toNat 1 0 = 1 → (s.core n).flaws = [] → x.own < dmemSize n →
      ∃ t, exec (.ld c i) s = .next t ∧
        (t.liveBank n).readIn 2 (ixV x.vr (if c = .steward then 0 else natBits i.sub.toNat 3 2)) =
          lane (leNat (x.b.loadBytes x.c.dmem (x.own / 16 * 16) 16)) (x.own / 4 % 4) ∧
        (c ≠ .steward → ∀ l ∈ [0, 1, 2, 3], l ≠ natBits i.sub.toNat 3 2 →
          (t.liveBank n).readIn 2 (ixV x.vr l) = x.v x.vr l) ∧ s.WentOn t n i) ∧
    (natBits i.sub.toNat 1 0 = 2 → (s.core n).flaws = [] → x.own < dmemSize n →
      ∃ t, exec (.ld c i) s = .next t ∧
        (∀ l ∈ x.lanes, (t.liveBank n).readIn 2 (ixV x.vr l) =
          lane (leNat (x.b.loadBytes x.c.dmem (x.own / 16 * 16) 16)) (x.own / 4 % 4)) ∧ s.WentOn t n i) ∧
    (natBits i.sub.toNat 1 0 = 3 → (s.core n).flaws = [] → x.own < dmemSize n →
      ∃ t, exec (.ld c i) s = .next t ∧
        (c ≠ .steward → ∀ l ∈ [0, 1, 2, 3], (t.liveBank n).readIn 2 (ixV x.vr l) =
          (if l = natBits i.sub.toNat 3 2 then
            lane (leNat (x.b.loadBytes x.c.dmem (x.own / 16 * 16) 16)) (x.own / 4 % 4) else 0)) ∧ s.WentOn t n i) ∧
    (natBits i.sub.toNat 1 0 = 0 → dmemSize n ≤ x.own → State.inOrchard x.own 1 = true →
      s.admits (bankOf (x.own - orcBase)) (accessorOf n) = true →
      ∃ t, exec (.ld c i) s = .next t ∧
        (t.liveBank n).load = some ⟨(x.own - orcBase) / 16 * 16, (s.core n).storesDone + (s.core n).stores.length,
          x.vecDst x.own x.vr, s.on (F.ORC_OWN_PENDING (bankOf (x.own - orcBase)))⟩ ∧
        (t.core n).dmem = (s.core n).dmem ∧ (t.core n).stores = (s.core n).stores ∧ s.WentOn t n i) ∧
    (natBits i.sub.toNat 1 0 = 0 → x.own < dmemSize n → x.c.shadow = false →
      ∃ t, exec (.st c i) s = .next t ∧
        (∀ w ∈ x.vecSrc x.own x.vr, ∀ k ∈ [0, 1, 2, 3],
          memGet (t.core n).dmem (x.own / 16 * 16 + 4 * w.1 + k) = (leBytes w.2 4).getD k 0) ∧
        (∀ a : Nat, a ∉ (x.vecSrc x.own x.vr).flatMap (fun w => [0, 1, 2, 3].map (fun k => x.own / 16 * 16 + 4 * w.1 + k)) →
          memGet (t.core n).dmem a = memGet (s.core n).dmem a) ∧
        (t.core n).stores = (s.core n).stores ∧ (t.liveBank n).load = none ∧
        (∀ p ∈ (t.liveBank n).pend.drop x.b.pend.length, p.idx = ixReg 0 x.xi) ∧ s.WentOn t n i) ∧
    (natBits i.sub.toNat 1 0 = 1 → x.own < dmemSize n → x.c.shadow = false →
      ∃ t, exec (.st c i) s = .next t ∧
        (∀ k ∈ [0, 1, 2, 3], memGet (t.core n).dmem (x.own / 4 * 4 + k) =
          (leBytes (x.v x.vr (if c = .steward then 0 else natBits i.sub.toNat 3 2)) 4).getD k 0) ∧
        (∀ a : Nat, a / 4 ≠ x.own / 4 → memGet (t.core n).dmem a = memGet (s.core n).dmem a) ∧ s.WentOn t n i) ∧
    (∀ want : Bool, natBits i.sub.toNat 1 0 = (if want then 2 else 3) → x.own < dmemSize n → x.c.shadow = false →
      c ≠ .steward →
      ∃ t, exec (.st c i) s = .next t ∧
        (∀ l ∈ [0, 1, 2, 3], ∀ k ∈ [0, 1, 2, 3], memGet (t.core n).dmem (x.own / 16 * 16 + 4 * l + k) =
          (if natBit (x.b.rd ixLF) l = want then (leBytes (x.v x.vr l) 4).getD k 0
           else memGet (s.core n).dmem (x.own / 16 * 16 + 4 * l + k))) ∧
        (∀ a : Nat, a / 16 ≠ x.own / 16 → memGet (t.core n).dmem a = memGet (s.core n).dmem a) ∧ s.WentOn t n i) ∧
    (natBits i.sub.toNat 1 0 = 0 → dmemSize n ≤ x.own → State.inOrchard x.own 1 = true →
      s.admits (bankOf (x.own - orcBase)) (accessorOf n) = true → (s.core n).stores.length < 8 →
      ∃ t, exec (.st c i) s = .next t ∧
        (t.core n).stores = (s.core n).stores ++ [⟨(x.vecSrc x.own x.vr).flatMap (fun w =>
          (leBytes w.2 4).zipIdx.map (fun b => ((x.own - orcBase) / 16 * 16 + 4 * w.1 + b.2, b.1))),
          x.vecSrc x.own x.vr ≠ [] && s.on (F.ORC_OWN_PENDING (bankOf (x.own - orcBase)))⟩] ∧
        (t.core n).dmem = (s.core n).dmem ∧ s.WentOn t n i) ∧
    ((s.core n).flaws = [] → x.own < dmemSize n → (∀ p ∈ x.b.pend, p.idx ≠ ixReg 0 x.xi) →
      ∃ t, exec (.lds c i) s = .next t ∧
        (t.liveBank n).readIn 2 (ixReg (natBits i.sub.toNat 1 0) (i.vd % 16)) =
          Seen.loadMask (decide (n = 64)) (ixReg (natBits i.sub.toNat 1 0) (i.vd % 16))
            (lane (leNat (x.b.loadBytes x.c.dmem (x.own / 16 * 16) 16)) (x.own / 4 % 4)) ∧
        (∀ p ∈ (t.liveBank n).pend.drop x.b.pend.length,
          p.idx = ixReg 0 x.xi ∨ p.idx = ixReg (natBits i.sub.toNat 1 0) (i.vd % 16)) ∧
        (t.core n).dmem = (s.core n).dmem ∧ (t.core n).stores = (s.core n).stores ∧ s.WentOn t n i) ∧
    (natBit i.sub.toNat 2 = false →
      ∃ t, exec (.ldi c i) s = .next t ∧
        (c ≠ .steward → ∀ l ∈ [0, 1, 2, 3], (t.liveBank n).readIn 1 (ixV i.vd l) =
          (if natBit i.sub.toNat (3 + l) then i.mv.toNat else x.b.readIn 2 (ixV i.vd l))) ∧
        (c = .steward → (t.liveBank n).readIn 1 (ixV i.vd 0) = i.mv.toNat) ∧
        (∀ p ∈ (t.liveBank n).pend.drop x.b.pend.length, p.idx ∈ (if c = .steward then [ixV i.vd 0] else
          ([0, 1, 2, 3].filter (fun l => natBit i.sub.toNat (3 + l))).map (fun l => ixV i.vd l))) ∧
        (t.core n).dmem = (s.core n).dmem ∧ (t.core n).stores = (s.core n).stores ∧ s.WentOn t n i) ∧
    (natBit i.sub.toNat 2 = true →
      ∃ t, exec (.ldi c i) s = .next t ∧
        (t.liveBank n).readIn 1 (ixReg (natBits i.sub.toNat 1 0) (i.vd % 16)) =
          x.regMask (natBits i.sub.toNat 1 0) i.mv.toNat ∧
        (∀ p ∈ (t.liveBank n).pend.drop x.b.pend.length, p.idx = ixReg (natBits i.sub.toNat 1 0) (i.vd % 16)) ∧
        (t.core n).dmem = (s.core n).dmem ∧ (t.core n).stores = (s.core n).stores ∧ s.WentOn t n i) ∧
    (∃ t, exec (.aimm c i) s = .next t ∧
        (t.liveBank n).readIn 1 (ixReg (natBits i.sub.toNat 1 0) (i.vd % 16)) =
          x.regMask (natBits i.sub.toNat 1 0) (x.b.rd (ixReg (natBits i.sub.toNat 1 0) (i.vd % 16)) + i.mv.toNat) ∧
        (∀ p ∈ (t.liveBank n).pend.drop x.b.pend.length, p.idx = ixReg (natBits i.sub.toNat 1 0) (i.vd % 16)) ∧
        (t.core n).dmem = (s.core n).dmem ∧ (t.core n).stores = (s.core n).stores ∧ s.WentOn t n i) ∧
    (x.moves = true →
      ∃ t, exec (.aadd c i) s = .next t ∧
        (∀ r ∈ [(x.X (i.va % 16) : Int) + (if i.flg then -(sint 32 (x.reg 1 (i.vb % 16))) else sint 32 (x.reg 1 (i.vb % 16)))],
          (t.liveBank n).readIn 1 (ixReg 0 (i.vd % 16)) =
            (if natBit i.sub.toNat 0 && decide (x.reg 2 (i.vd % 16) ≠ 0) then wrap 32 (x.fold (i.vd % 16) r)
             else wrap 32 r)) ∧
        s.ResultsOnly t n i [ixReg 0 (i.vd % 16)]) ∧
    (x.moves = true → x.reg 2 (i.vd % 16) ≠ 0 →
      ∃ t, exec (.afold c i) s = .next t ∧
        (t.liveBank n).readIn 1 (ixReg 0 (i.vd % 16)) = wrap 32 (x.fold (i.vd % 16) (x.X (i.vd % 16))) ∧
        s.ResultsOnly t n i [ixReg 0 (i.vd % 16)]) ∧
    (x.moves = true → x.reg 2 (i.vd % 16) = 0 →
      ∃ t, exec (.afold c i) s = .next t ∧ s.ResultsOnly t n i []) ∧
    (x.moves = true → natBits i.sub.toNat 2 0 < 5 → i.flg = true →
      ∃ t, exec (.amovx c i) s = .next t ∧
        (t.liveBank n).readIn 1 (ixReg (natBits i.sub.toNat 2 0) (i.vb % 16)) = x.regMask (natBits i.sub.toNat 2 0)
          (x.va (if c = .steward then 0 else natBits i.sub.toNat 4 3)) ∧
        s.ResultsOnly t n i [ixReg (natBits i.sub.toNat 2 0) (i.vb % 16)]) ∧
    (x.moves = true → natBits i.sub.toNat 2 0 < 5 → i.flg = false →
      ∃ t, exec (.amovx c i) s = .next t ∧
        (∀ l ∈ x.lanes, (t.liveBank n).readIn 1 (ixV i.vd l) =
          (if l = (if c = .steward then 0 else natBits i.sub.toNat 4 3) then x.reg (natBits i.sub.toNat 2 0) (i.vb % 16)
           else x.v i.vd l) % 2 ^ 32) ∧
        s.ResultsOnly t n i (State.vDst i.vd))

/-- R77, R92, R142, R145, R260, R261: an Orchard word arrives in the bank that asked for it, and the oldest posted
store is written. A word with a corrected error is counted; of one with an uncorrectable error those lanes arrive as
0, and it is recorded. A command's error operand is as if the disturbance had come before it (log entry 160). -/
def Obligations.OrchardTrafficCompletes : Prop :=
  ∀ (s : State) (c : CoreSel) (n : Nat), CoreSel.ix c = n →
    (∀ l : LoadWait, (s.core n).shadow = false → s.orcFlaws = [] → l.held = false → (s.core n).p.load = some l → l.after ≤ (s.core n).storesDone →
      (l.dst.map (fun d => d.1)).Nodup →
      ∃ t, exec (.orchardLoadComplete c .clean) s = .next t ∧ (t.core n).p.load = none ∧
        (∀ d ∈ l.dst, (t.core n).p.readIn 0 d.1 = Seen.loadMask (decide (n = 64)) d.1 (lane (s.orc128 l.addr) d.2)) ∧
        (∀ k : Fin 65, k.val ≠ n → t.core k = s.core k) ∧ (t.core n).dmem = (s.core n).dmem ∧
        t = { s with cores := t.cores }) ∧
    (∀ (o : OStore) (rest : List OStore), o.held = false → (s.core n).stores = o :: rest → (o.bytes.map (fun b => b.1)).Nodup →
      ∃ t, exec (.orchardStoreWritten c) s = .next t ∧ (t.core n).stores = rest ∧
        (t.core n).storesDone = (s.core n).storesDone + 1 ∧
        (∀ b ∈ o.bytes, memGet t.orchard b.1 = (if s.bankRetired (bankOf b.1) then memGet s.orchard b.1 else b.2)) ∧
        (∀ a : Nat, a ∉ o.bytes.map (fun b => b.1) → memGet t.orchard a = memGet s.orchard a) ∧
        (∀ k : Fin 65, k.val ≠ n → t.core k = s.core k) ∧ t.orcFlaws = mend s.orcFlaws 4 o.bytes ∧
        t = { s with orchard := t.orchard, orcFlaws := t.orcFlaws, dirty := s.dirtied false o.bytes, cores := t.cores }) ∧
    (∀ l : LoadWait, (s.core n).shadow = false → s.orcFlaws = [] → l.held = false → (s.core n).p.load = some l → l.after ≤ (s.core n).storesDone →
      (l.dst.map (fun d => d.1)).Nodup → l.addr % 16 = 0 → l.addr < orcSize → s.bankRetired (bankOf l.addr) = false →
      ∃ t, exec (.orchardLoadComplete c .corrected) s = .next t ∧ (t.core n).p.load = none ∧
        (∀ d ∈ l.dst, (t.core n).p.readIn 0 d.1 = Seen.loadMask (decide (n = 64)) d.1 (lane (s.orc128 l.addr) d.2)) ∧
        t.get F.ORC_ECCCNT_CORR = min (s.get F.ORC_ECCCNT_CORR + 1) (2 ^ 16 - 1) ∧
        t.get F.ORC_ECCCNT_UNCORR = s.get F.ORC_ECCCNT_UNCORR ∧ t.orcFlaws = [] ∧ t.orchard = s.orchard) ∧
    (∀ (l : LoadWait) (lanes : BitVec 4), (s.core n).shadow = false → s.orcFlaws = [] → l.held = false → (s.core n).p.load = some l → l.after ≤ (s.core n).storesDone →
      (l.dst.map (fun d => d.1)).Nodup → l.addr % 16 = 0 → l.addr < orcSize → s.bankRetired (bankOf l.addr) = false →
      (∀ d ∈ l.dst, d.2 < 4) → lanes ≠ 0 →
      ∃ t, exec (.orchardLoadComplete c (.uncorrectable lanes)) s = .next t ∧ (t.core n).p.load = none ∧
        (∀ d ∈ l.dst, (t.core n).p.readIn 0 d.1 =
          Seen.loadMask (decide (n = 64)) d.1 (if lanes.getLsbD d.2 then 0 else lane (s.orc128 l.addr) d.2)) ∧
        t.get F.ORC_ECCCNT_UNCORR = min (s.get F.ORC_ECCCNT_UNCORR + 1) (2 ^ 16 - 1) ∧ t.get F.ORC_ECCLOG_V = 1 ∧
        t.get F.ORC_ECCLOG_LANES = lanes.toNat ∧ t.get F.ORC_ECCLOG_WORD = l.addr % 0x100000 / 16 ∧
        t.get F.ORC_ECCLOG_PHYS = s.physBank (bankOf l.addr) % 2 ^ 7) ∧
    (∀ (l : LoadWait) (e : Ecc), (s.core n).shadow = false → l.held = false → (s.core n).p.load = some l →
      l.after ≤ (s.core n).storesDone →
      exec (.orchardLoadComplete c e) s =
        exec (.orchardLoadComplete c .clean) ((s.disturb e).upsetWord .orchard l.addr e))

/-- R87 to R90, R127 to R131, R147, R148: branches, calls and returns take effect after their two delay slots, LOOP
opens a level or skips its body, and the end of a body goes back or closes its level. Where the spec leaves a point
open the clauses follow the model's choices: log entry 88. -/
def Obligations.FlowInstructionsComplete : Prop :=
  ∀ (s : State) (c : CoreSel) (i : CoreWord) (n : Nat) (x : Seen), CoreSel.ix c = n → s.seen n i = x → s.ready n = true →
    x.b.slots = 0 → x.bodyEnd = false →
    (∃ t, exec (.br c i) s = .next t ∧
      s.FlowsTo t n i { x.b with
        pc := (x.b.pc + 8) % pcMod n, slots := 2, closes := true,
        target := some (x.target (if i.flg then x.X (natBits i.sub.toNat 3 0)
          else (x.b.pc : Int) + 8 * sint 16 (natBits i.mv.toNat 15 0))) }) ∧
    (∀ taken : Bool, natBits i.sub.toNat 6 4 ≠ 7 → x.cond = (taken != i.flg) →
      ∃ t, exec (.brc c i) s = .next t ∧
        s.FlowsTo t n i { x.b with
          pc := (x.b.pc + 8) % pcMod n, slots := 2, closes := true,
          target := if taken then some (x.target ((x.b.pc : Int) + 8 * sint 16 (natBits i.mv.toNat 15 0))) else none }) ∧
    (∃ t, exec (.call c i) s = .next t ∧
      (t.liveBank n).readIn 2 (ixReg 4 0) = (x.b.pc + 24) % pcMod n ∧
      (∀ p ∈ (t.liveBank n).pend.drop x.b.pend.length, p.idx = ixReg 4 0) ∧
      (t.liveBank n).pend.take x.b.pend.length = x.b.pend ∧
      s.FlowsTo t n i { x.b with
        pc := (x.b.pc + 8) % pcMod n, slots := 2, closes := false, pend := (t.liveBank n).pend,
        target := some (x.target (if i.flg then x.X (natBits i.sub.toNat 3 0)
          else (x.b.pc : Int) + 8 * sint 16 (natBits i.mv.toNat 15 0))) }) ∧
    (∃ t, exec (.ret c i) s = .next t ∧
      s.FlowsTo t n i { x.b with
        pc := (x.b.pc + 8) % pcMod n, slots := 2, closes := false,
        target := some (x.target (if i.flg then x.X (natBits i.sub.toNat 3 0) else x.reg 4 0)) }) ∧
    (x.b.lv = 0 ∨ x.b.lv = 1 ∧ x.loopEnd ≤ x.b.rd (ixLE 0) → natBits i.mv.toNat 31 16 ≠ 0 →
      ∃ t, exec (.loop c i) s = .next t ∧
        (t.liveBank n).rd (ixLC x.b.lv) = natBits i.mv.toNat 31 16 ∧
        (t.liveBank n).rd (ixLS x.b.lv) = (x.b.pc + 8) % pcMod n ∧
        (t.liveBank n).rd (ixLE x.b.lv) = (x.b.pc + 8 + 8 * natBits i.mv.toNat 10 0) % pcMod n ∧
        (∀ k : Nat, k ≠ ixLC x.b.lv → k ≠ ixLS x.b.lv → k ≠ ixLE x.b.lv → (t.liveBank n).rd k = x.b.rd k) ∧
        s.FlowsTo t n i { x.b with pc := (x.b.pc + 8) % pcMod n, lv := x.b.lv + 1, r := (t.liveBank n).r }) ∧
    (x.b.lv = 0 ∨ x.b.lv = 1 ∧ x.loopEnd ≤ x.b.rd (ixLE 0) → natBits i.mv.toNat 31 16 = 0 →
      ∃ t, exec (.loop c i) s = .next t ∧
        s.FlowsTo t n i { x.b with
          pc := ((x.b.pc + 8 + 8 * natBits i.mv.toNat 10 0) % pcMod n + 8) % pcMod n }) ∧
    (x.b.lv = 0 ∨ x.b.lv = 1 ∧ x.loopEnd ≤ x.b.rd (ixLE 0) → x.X (natBits i.sub.toNat 3 0) ≠ 0 →
      ∃ t, exec (.loopv c i) s = .next t ∧
        (t.liveBank n).rd (ixLC x.b.lv) = x.X (natBits i.sub.toNat 3 0) ∧
        (t.liveBank n).rd (ixLS x.b.lv) = (x.b.pc + 8) % pcMod n ∧
        (t.liveBank n).rd (ixLE x.b.lv) = (x.b.pc + 8 + 8 * natBits i.mv.toNat 10 0) % pcMod n ∧
        (∀ k : Nat, k ≠ ixLC x.b.lv → k ≠ ixLS x.b.lv → k ≠ ixLE x.b.lv → (t.liveBank n).rd k = x.b.rd k) ∧
        s.FlowsTo t n i { x.b with pc := (x.b.pc + 8) % pcMod n, lv := x.b.lv + 1, r := (t.liveBank n).r }) ∧
    (x.b.lv = 0 ∨ x.b.lv = 1 ∧ x.loopEnd ≤ x.b.rd (ixLE 0) → x.X (natBits i.sub.toNat 3 0) = 0 →
      ∃ t, exec (.loopv c i) s = .next t ∧
        s.FlowsTo t n i { x.b with
          pc := ((x.b.pc + 8 + 8 * natBits i.mv.toNat 10 0) % pcMod n + 8) % pcMod n })

/-- R88, R90, R127: after the second delay slot of a taken branch the core goes on at its target; at the end of the
innermost level's body it goes back to the start while counts remain, and past it after the last. Where the spec
leaves a point open the clauses follow the model's choices: log entries 88, 95, 96. -/
def Obligations.SlotsAndLoopEndsGoOn : Prop :=
  ∀ (s : State) (c : CoreSel) (i : CoreWord) (n : Nat) (x : Seen), CoreSel.ix c = n → s.seen n i = x → s.ready n = true →
    natBits i.mv.toNat 31 30 = 0 →
    (∀ a : Nat, x.b.slots = 1 → x.b.target = some a → x.b.closes = false →
      ∃ t, exec (.nop c i) s = .next t ∧
        s.FlowsTo t n i { x.b with pc := a, slots := 0, target := none }) ∧
    (∀ a : Nat, x.b.slots = 1 → x.b.target = some a → x.b.closes = true →
      ∃ t, exec (.nop c i) s = .next t ∧
        (∀ k ∈ [0, 1], k < (t.liveBank n).lv → x.b.rd (ixLS k) ≤ a ∧ a ≤ x.b.rd (ixLE k)) ∧
        (t.liveBank n).lv ≤ x.b.lv ∧
        s.FlowsTo t n i { x.b with pc := a, slots := 0, target := none, closes := false, lv := (t.liveBank n).lv }) ∧
    (∀ k : Nat, x.b.slots = 0 → x.b.lv = k + 1 → x.b.rd (ixLE k) = x.b.pc → 1 < x.b.rd (ixLC k) →
      ∃ t, exec (.nop c i) s = .next t ∧ (t.liveBank n).rd (ixLC k) = x.b.rd (ixLC k) - 1 ∧
        (∀ j : Nat, j ≠ ixLC k → (t.liveBank n).rd j = x.b.rd j) ∧
        s.FlowsTo t n i { x.b with pc := x.b.rd (ixLS k), r := (t.liveBank n).r }) ∧
    (∀ k : Nat, x.b.slots = 0 → x.b.lv = k + 1 → x.b.rd (ixLE k) = x.b.pc → x.b.rd (ixLC k) ≤ 1 →
      ∃ t, exec (.nop c i) s = .next t ∧
        s.FlowsTo t n i { x.b with pc := (x.b.pc + 8) % pcMod n, lv := k })

/-- R132 to R134, R138 to R141, R150: posts, the end of a pip, voice reports, the fence, software interrupts and the
system reads. Where the spec leaves a point open the clauses follow the model's choices: log entries 88, 102, 105. -/
def Obligations.SystemInstructionsComplete : Prop :=
  ∀ (s : State) (c : CoreSel) (i : CoreWord) (n : Nat) (x : Seen), CoreSel.ix c = n → s.seen n i = x → s.ready n = true →
    (∀ p : Nat, x.moves = true → natBits i.sub.toNat 1 0 ≠ 3 → x.skips = 0 → s.qn.held = [] →
      x.X (natBits i.sub.toNat 5 2) % 2 ^ 14 = p → s.wouldHold p (s.masterOf n) = false →
      s.postReason p (s.postLevel p) = none → s.get (F.PIP1_TS p) = 0 →
      ∃ t, exec (.qpostPip c i) s = .next t ∧
        t.qn.queue = s.qn.queue ++ [
          { pip := p, word := x.postWord, level := s.postLevel p, master := s.masterOf n,
            arr := s.get I.QN_ARR, ready := s.get I.QN_RDY, heldBlk := none, entry := true }] ∧
        t.core n = ((s.setCore n (State.coreAfter x x.moved)).onRun n (fun r => { r with posts := r.posts + 1, skip := r.skip - 1 })).core n ∧
        (∀ k : Fin 65, k.val ≠ n → t.core k = s.core k) ∧
        t = { s with regs := t.regs, toDeliver := t.toDeliver, cores := t.cores, qn := { s.qn with queue := t.qn.queue } } ∧
        s.KeepsFields t [I.QN_ARR, I.QN_RDY, F.QN_EVT_EVT, F.PIP13_STATE p, F.PIP13_QCOUNT p, F.QN_EVQ_USED,
          F.QN_MAXQ_N]) ∧
    (∀ r : PipRun, x.moves = true → natBits i.sub.toNat 1 0 ≠ 3 → x.b.run = some r → r.skip ≠ 0 →
      ∃ t, exec (.qpostPip c i) s = .next t ∧
        s.ResultsAnd t n i [] (fun b => { b with run := some { r with posts := r.posts + 1, skip := r.skip - 1 } })) ∧
    (∀ b : Nat, x.moves = true → natBits i.sub.toNat 1 0 ≠ 3 → x.skips = 0 → s.qn.held = [] →
      State.voiceBad x.postWord = none → State.vwType x.postWord < 0x10 →
      s.voiceHold x.postWord (s.masterOf n) = false →
      extend48 (x.postWord / 2 ^ 80) s.frc / s.blockLen = b → s.blockIx ≤ b →
      ∃ t, exec (.qpostVoice c i) s = .next t ∧
        t.vm.words = s.vm.words ++ [{ word := x.postWord, src := s.masterOf n, blk := b, ready := false, late := false, wait := none }] ∧
        t.core n = ((s.setCore n (State.coreAfter x x.moved)).onRun n (fun r => { r with posts := r.posts + 1, skip := r.skip - 1 })).core n ∧
        (∀ k : Fin 65, k.val ≠ n → t.core k = s.core k) ∧
        t = { s with regs := t.regs, toDeliver := t.toDeliver, cores := t.cores, vm := { s.vm with words := t.vm.words } } ∧
        s.KeepsFields t [F.QN_EVQ_USED, F.QN_MAXQ_N, F.QN_EVT_EVT]) ∧
    (x.moves = true → natBits i.sub.toNat 1 0 ≠ 3 → x.skips = 0 → s.storeFull = false → s.qn.held = [] →
      natBits x.postWord 79 72 = 1 → State.cmdBad x.postWord = false → s.vmGain (natBits x.postWord 47 32) = false →
      s.preparing = false →
      ∃ t, exec (.qpostScene c i) s = .next t ∧
        (∀ k, (t.curve (natBits x.postWord 47 32)).at k = sint 32 x.postWord) ∧
        (∀ k, k ≠ natBits x.postWord 47 32 → t.curve k = s.curve k) ∧
        t.core n = ((s.setCore n (State.coreAfter x x.moved)).onRun n (fun r => { r with posts := r.posts + 1, skip := r.skip - 1 })).core n ∧
        (∀ k : Fin 65, k.val ≠ n → t.core k = s.core k) ∧
        t = { s with cores := t.cores, scn := { s.scn with curves := t.scn.curves } }) ∧
    (c ≠ .steward → x.moves = true →
      ∃ t, exec (.qdone c i) s = .next t ∧
        s.ResultsAnd t n i [] (fun b => { b with run := (t.liveBank n).run, lv := 0, slots := 0, target := none, closes := false }) ∧
        (∃ r, x.b.run = some r ∧ (t.liveBank n).run = some { r with qdone := true })) ∧
    (∀ r : PipRun, c ≠ .steward → x.moves = true → natBits i.sub.toNat 1 0 < 2 → x.b.run = some r →
      ∃ t, exec (.vmrptLevel c i) s = .next t ∧
        s.ResultsAnd t n i [] (fun b => { b with run := some { r with level := some (x.va 0) } })) ∧
    (∀ r : PipRun, c ≠ .steward → x.moves = true → natBits i.sub.toNat 1 0 < 2 → x.b.run = some r →
      ∃ t, exec (.vmrptEnded c i) s = .next t ∧
        s.ResultsAnd t n i [] (fun b => { b with run := some { r with ended := true } })) ∧
    (x.moves = true → (s.core n).stores = [] →
      natBit i.sub.toNat 0 = false ∨ x.outstanding 0 = 0 ∧ x.outstanding 1 = 0 →
      ∃ t, exec (.fence c i) s = .next t ∧ s.ResultsOnly t n i []) ∧
    ((s.core n).stores ≠ [] ∨ natBit i.sub.toNat 0 = true ∧ x.outstanding 0 ≠ 0 →
      ∃ t, exec (.fence c i) s = .next t ∧ t = s.setCore n { s.core n with stall := true }) ∧
    (c ≠ .steward → s.swiq.length < 16 →
      ∃ t, exec (.swi c i) s = .next t ∧
        t.swiq = s.swiq ++ [⟨i.mv.toNat, 2 ^ 16 * State.runPip x.c + 2 ^ 15 * b2n x.c.shadow + n, s.frc, x.b.pc⟩] ∧
        (s.swiq = [] → (248, s.frc) ∈ t.toDeliver) ∧
        (t.get (F.EC_CTRL_HALT n) = if i.flg then 1 else s.get (F.EC_CTRL_HALT n)) ∧
        t.core n = { State.coreAfter x Eff.none with halted := i.flg, swiStop := i.flg || (s.core n).swiStop } ∧
        (∀ k : Fin 65, k.val ≠ n → t.core k = s.core k) ∧
        t = { s with regs := t.regs, toDeliver := t.toDeliver, cores := t.cores, swiq := t.swiq } ∧
        s.KeepsFields t [F.EC_CTRL_HALT n]) ∧
    (c ≠ .steward → 16 ≤ s.swiq.length →
      ∃ t, exec (.swi c i) s = .next t ∧ t = s.setCore n { s.core n with stall := true }) ∧
    (c = .steward → i.flg = true →
      ∃ t, exec (.stewardSwiWait i) s = .next t ∧
        t = s.setCore n { State.coreAfter x Eff.none with gated := decide (s.stewardQ = []) }) ∧
    (natBits i.sub.toNat 3 0 = 0 → x.moves = true →
      ∃ t, exec (.rdsysTime c i) s = .next t ∧ s.ResultsOnly t n i (State.vDst i.vd) ∧
        (t.liveBank n).readIn 1 (ixV i.vd 0) = s.frc % 2 ^ 32 ∧
        (c ≠ .steward → (t.liveBank n).readIn 1 (ixV i.vd 1) = s.frc / 2 ^ 32 % 2 ^ 32 ∧
          (t.liveBank n).readIn 1 (ixV i.vd 2) = x.blockFrom % 2 ^ 32 ∧
          (t.liveBank n).readIn 1 (ixV i.vd 3) = x.blockFrom / 2 ^ 32 % 2 ^ 32)) ∧
    (natBits i.sub.toNat 3 0 = 1 → x.moves = true →
      ∃ t, exec (.rdsysIdent c i) s = .next t ∧ s.ResultsOnly t n i (State.vDst i.vd) ∧
        (c = .steward → (t.liveBank n).readIn 1 (ixV i.vd 0) = 0x50) ∧
        (c ≠ .steward → (t.liveBank n).readIn 1 (ixV i.vd 0) = n ∧
          (t.liveBank n).readIn 1 (ixV i.vd 1) = State.runPip x.c % 2 ^ 32 ∧
          (t.liveBank n).readIn 1 (ixV i.vd 2) = b2n (s.core n).shadow ∧
          (t.liveBank n).readIn 1 (ixV i.vd 3) = x.blockFrom / s.blockLen % 2 ^ 32)) ∧
    (natBits i.sub.toNat 3 0 = 2 → x.moves = true →
      ∃ t, exec (.rdsysState c i) s = .next t ∧
        (t.liveBank n).readIn 1 (ixV i.vd 0) = x.b.csr % 2 ^ 32 ∧
        (c ≠ .steward → (t.liveBank n).readIn 1 (ixV i.vd 1) = x.reg 4 0 % 2 ^ 32 ∧
          (t.liveBank n).readIn 1 (ixV i.vd 2) = x.b.pc % 2 ^ 32 ∧ (t.liveBank n).readIn 1 (ixV i.vd 3) = 0) ∧
        (i.flg = false → s.ResultsOnly t n i (State.vDst i.vd)) ∧
        (i.flg = true → (s.liveBank n).pend = [] → (t.liveBank n).rd ixSV = 0 ∧
          s.ResultsAnd t n i (State.vDst i.vd) (fun b => { b with r := (t.liveBank n).r }) ∧
          ∀ k : Nat, k ≠ ixSV → (t.liveBank n).rd k = x.b.rd k)) ∧
    (natBits i.sub.toNat 3 0 = 3 → x.moves = true →
      ∃ t, exec (.rdsysRate c i) s = .next t ∧ s.ResultsOnly t n i (State.vDst i.vd) ∧
        (t.liveBank n).readIn 1 (ixV i.vd 0) = s.rateHz % 2 ^ 32 ∧
        (c ≠ .steward → (t.liveBank n).readIn 1 (ixV i.vd 1) = s.blockLen % 2 ^ 32 ∧
          (t.liveBank n).readIn 1 (ixV i.vd 2) = s.blockCycles % 2 ^ 32 ∧
          (t.liveBank n).readIn 1 (ixV i.vd 3) = s.cclk % 2 ^ 32)) ∧
    (natBits i.sub.toNat 3 0 = 4 → x.moves = true →
      ∃ t, exec (.rdsysDma c i) s = .next t ∧ s.ResultsOnly t n i (State.vDst i.vd) ∧
        (t.liveBank n).readIn 1 (ixV i.vd 0) = x.outstanding 0 % 2 ^ 32 ∧
        (c ≠ .steward → (t.liveBank n).readIn 1 (ixV i.vd 1) = x.outstanding 1 % 2 ^ 32 ∧
          (t.liveBank n).readIn 1 (ixV i.vd 2) = (s.core n).stores.length % 2 ^ 32 ∧
          (t.liveBank n).readIn 1 (ixV i.vd 3) = 0))

/-- R100, R147, R149, R399, R400: a reserved opcode, and an instruction that the steward lacks, is a violation of kind
ILLOP: the core is frozen at it, its register snapshot and memories as they stood, and the violation logged, counted
and reported. Where the spec leaves a point open the clauses follow the model's choices: log entries 88, 92, 103. -/
def Obligations.IllegalInstructionsFreezeTheCore : Prop :=
  ∀ (s : State) (c : CoreSel) (i : CoreWord) (n : Nat) (x : Seen) (op : Fin 64), CoreSel.ix c = n → s.seen n i = x → s.ready n = true →
    (op.val ∈ [0x2E, 0x2F] ∨ 0x38 ≤ op.val ∨
        c = .steward ∧ op.val ∈ [0x0F, 0x13, 0x14, 0x15, 0x16, 0x17, 0x1C, 0x1D, 0x31, 0x36] →
      s.masterOf n < 72 ∨ n = 64 → State.runPip x.c < 2 ^ 14 →
      ∃ t, exec (.illegalInstruction c op i) s = .next t ∧
        t.core n = { s.core n with frozen := true, vskip := true, vchan := none, stall := false } ∧
        (∀ k : Fin 65, k.val ≠ n → t.core k = s.core k) ∧
        t.get (F.PRT_VLOG_W 0 0) = 2 ^ 24 + 2 ^ 16 * s.masterOf n + 2 ^ 14 * b2n x.c.shadow + State.runPip x.c ∧
        t.get (F.PRT_VLOG_W 0 1) = pcAddr n x.b.pc % 2 ^ 32 ∧
        t.get F.PRT_VCNT_N = min (s.get F.PRT_VCNT_N + 1) (2 ^ 16 - 1) ∧ t.get F.PRT_EVT_EVT % 2 = 1 ∧
        t.isFrozen (s.masterOf n) = true ∧
        t = { s with regs := t.regs, toDeliver := t.toDeliver, cores := t.cores } ∧
        s.KeepsNames t [F.PRT_VLOG_W 0 0, I.VREC 0, F.PRT_VCNT_N, F.PRT_FROZEN_M 0, F.PRT_EVT_EVT, I.PC_BUSY 0,
          F.MDL_MAP_PHASE 0, F.MDL_MAP_SPARE 0, I.ROT_N])

/-- R95, R96, R135 to R137, R143, R144: a descriptor is queued, waited for, begun once the stores before it are
written, and moves its words. Where the spec leaves a point open the clauses follow the model's choices: log entries
88, 97, 98, 160. -/
def Obligations.LocalDmaCompletes : Prop :=
  ∀ (s : State) (c : CoreSel) (i : CoreWord) (n : Nat) (x : Seen), CoreSel.ix c = n → s.seen n i = x →
    (s.ready n = true → x.outstanding (natBits i.sub.toNat 0 0) < 4 → x.moves = true → x.dmaOk = true → x.c.shadow = false →
      x.dBytes ≠ 0 →
      ∃ t, exec (.dma c i) s = .next t ∧
        (∀ m ∈ [State.coreAfter x x.moved], t = s.setCore n { m with dma := m.dma ++ [
          { ch := natBits i.sub.toNat 0 0, sd := natBit (x.va 2) 31, dd := natBit (x.va 2) 30,
            src := (x.va 0 + if natBit (x.va 2) 31 then 2 ^ 32 * natBits (x.va 2) 15 8 else 0) / 16 * 16,
            dst := (x.va 1 + if natBit (x.va 2) 30 then 2 ^ 32 * natBits (x.va 2) 23 16 else 0) / 16 * 16,
            words := natBits (x.va 3) 20 0 / 16, fences := (s.core n).storesDone + (s.core n).stores.length,
            running := false }] })) ∧
    (s.ready n = true → 4 ≤ x.outstanding (natBits i.sub.toNat 0 0) →
      ∃ t, exec (.dma c i) s = .next t ∧ t = s.setCore n { s.core n with stall := true }) ∧
    (s.ready n = true → x.moves = true →
      (if i.flg then x.outstanding 0 ≤ natBits i.sub.toNat 2 0 ∧ x.outstanding 1 ≤ natBits i.sub.toNat 2 0
       else x.outstanding (natBits i.sub.toNat 3 3) ≤ natBits i.sub.toNat 2 0) →
      ∃ t, exec (.dmaw c i) s = .next t ∧ s.ResultsOnly t n i []) ∧
    (s.ready n = true → i.flg = false → natBits i.sub.toNat 2 0 < x.outstanding (natBits i.sub.toNat 3 3) →
      ∃ t, exec (.dmaw c i) s = .next t ∧ t = s.setCore n { s.core n with stall := true }) ∧
    (∀ (ch : Fin 4) (d : Desc) (rest : List Desc), (s.core n).dma = d :: rest → d.ch = ch.val →
      d.fences ≤ (s.core n).storesDone → (s.core n).frozen = false →
      ∃ t, exec (.dmaDescriptorStart c ch) s = .next t ∧
        t = s.setCore n { s.core n with dma := { d with running := true } :: rest }) ∧
    (∀ (ch : Fin 4) (d : Desc), (s.core n).dma = [d] → d.ch = ch.val → d.running = true → (s.core n).frozen = false →
      d.sd = false → d.dd = false → d.src + 16 * d.words ≤ dmemSize n → orcBase ≤ d.dst →
      d.dst - orcBase + 16 * d.words ≤ orcSize → d.dst % 16 = 0 → d.words ≤ 0x10000 →
      (∀ b : Fin 64, s.admits b (accessorOf n) = true ∧ s.get (F.ORC_OWN_PENDING b) = 0) → (s.core n).flaws = [] →
      ∃ t, exec (.dmaDescriptorDone c ch .clean) s = .next t ∧ (t.core n).dma = [] ∧
        (∀ k : Nat, k < 16 * d.words → memGet t.orchard (d.dst - orcBase + k) =
          if s.bankRetired (bankOf (d.dst - orcBase + k)) then memGet s.orchard (d.dst - orcBase + k)
          else memGet (s.core n).dmem (d.src + k)) ∧
        (∀ a : Nat, a < d.dst - orcBase ∨ d.dst - orcBase + 16 * d.words ≤ a → memGet t.orchard a = memGet s.orchard a) ∧
        t.core n = { s.core n with dma := [] } ∧ (∀ k : Fin 65, k.val ≠ n → t.core k = s.core k) ∧
        t = { s with cores := t.cores, orchard := t.orchard, orcFlaws := t.orcFlaws, dirty := t.dirty }) ∧
    (∀ (ch : Fin 4) (d : Desc), (s.core n).dma = [d] → d.ch = ch.val → d.running = true → (s.core n).frozen = false →
      d.sd = false → d.dd = false → d.dst + 16 * d.words ≤ dmemSize n → orcBase ≤ d.src →
      d.src - orcBase + 16 * d.words ≤ orcSize → d.src % 16 = 0 → d.words ≤ 0x10000 →
      (∀ b : Fin 64, s.admits b (accessorOf n) = true ∧ s.get (F.ORC_OWN_PENDING b) = 0) → s.orcFlaws = [] →
      ∃ t, exec (.dmaDescriptorDone c ch .clean) s = .next t ∧
        (∀ k : Nat, k < 16 * d.words → memGet (t.core n).dmem (d.dst + k) = s.orcByte (d.src - orcBase + k)) ∧
        (∀ a : Nat, a < d.dst ∨ d.dst + 16 * d.words ≤ a → memGet (t.core n).dmem a = memGet (s.core n).dmem a) ∧
        t.core n = { s.core n with dma := [], dmem := (t.core n).dmem, flaws := (t.core n).flaws } ∧
        (∀ k : Fin 65, k.val ≠ n → t.core k = s.core k) ∧ t = { s with cores := t.cores }) ∧
    (∀ (ch : Fin 4) (d : Desc), (s.core n).dma = [d] → d.ch = ch.val → d.running = true → (s.core n).frozen = false →
      d.sd = true → d.dd = false → d.dst + 16 * d.words ≤ dmemSize n → d.src % 16 = 0 → d.src + 16 * d.words ≤ s.dramSize →
      s.dramFlaws = [] →
      ∃ t, exec (.dmaDescriptorDone c ch .clean) s = .next t ∧
        (∀ k : Nat, k < 16 * d.words → memGet (t.core n).dmem (d.dst + k) = memGet s.dram (d.src + k)) ∧
        (∀ a : Nat, a < d.dst ∨ d.dst + 16 * d.words ≤ a → memGet (t.core n).dmem a = memGet (s.core n).dmem a) ∧
        t.core n = { s.core n with dma := [], dmem := (t.core n).dmem, flaws := (t.core n).flaws } ∧
        (∀ k : Fin 65, k.val ≠ n → t.core k = s.core k) ∧ t = { s with cores := t.cores }) ∧
    (∀ (ch : Fin 4) (d : Desc), (s.core n).dma = [d] → d.ch = ch.val → d.running = true → (s.core n).frozen = false →
      d.sd = false → d.dd = true → d.src + 16 * d.words ≤ dmemSize n → d.dst % 16 = 0 → d.dst + 16 * d.words ≤ s.dramSize →
      (s.core n).flaws = [] →
      ∃ t, exec (.dmaDescriptorDone c ch .clean) s = .next t ∧
        (∀ k : Nat, k < 16 * d.words → memGet t.dram (d.dst + k) = memGet (s.core n).dmem (d.src + k)) ∧
        (∀ a : Nat, a < d.dst ∨ d.dst + 16 * d.words ≤ a → memGet t.dram a = memGet s.dram a) ∧
        t.core n = { s.core n with dma := [] } ∧ (∀ k : Fin 65, k.val ≠ n → t.core k = s.core k) ∧
        t = { s with cores := t.cores, dram := t.dram, dramFlaws := t.dramFlaws, dirty := t.dirty }) ∧
    (∀ (ch : Fin 4) (d : Desc) (e : Ecc), headDesc (s.core n) ch = some d → d.running = true → (s.core n).frozen = false →
      exec (.dmaDescriptorDone c ch e) s = exec (.dmaDescriptorDone c ch .clean) ((s.disturb e).dmaFinds n d e))

/-- R152 to R155, R160, R163, R172: writes of the pip store, of a successor list, of an affinity mask, of the deadline
and of an image entry. Where the spec leaves a point open the clauses follow the model's choices: log entry 141. -/
def Obligations.QuinceWritesComplete : Prop :=
  ∀ (s : State) (m : Master) (p : Fin 16384) (w : Word),
    (s.performs m (0xC00000 + 64 * p) = true → s.vmPip p = false → s.get (F.PIP1_EN p) = 0 →
      ∃ t, exec (.pipWrite m p 0 w) s = .next t ∧ t.get (F.PIP0_IMAGE p) = (F.PIP0_IMAGE p).of w.toNat ∧
        t.get (F.PIP0_ENTRY p) = (F.PIP0_ENTRY p).of w.toNat ∧ t.get F.QN_STAT_STATUS = stOK ∧
        s.OnlyRegs t [F.PIP0_IMAGE p, F.PIP0_ENTRY p, F.PIP0_MBZ p, F.QN_STAT_STATUS]) ∧
    (∀ k : Fin 16, s.performs m (0xC00000 + 64 * p + 4 * k) = true → k.val ≠ 1 → k.val < 13 → s.vmPip p = false →
      s.get (F.PIP1_EN p) = 0 →
      ∃ t, exec (.pipWrite m p k w) s = .next t ∧
        t = (s.regStore (0xC00000 + 64 * p + 4 * k) w.toNat).set F.QN_STAT_STATUS stOK) ∧
    (∀ k : Fin 16, s.performs m (0xC00000 + 64 * p + 4 * k) = true → k.val ≠ 1 → k.val < 13 → s.get (F.PIP1_EN p) ≠ 0 →
      ∃ t, exec (.pipWrite m p k w) s = .next t ∧ t.get F.QN_STAT_STATUS = stBUSY ∧ s.OnlyRegs t [F.QN_STAT_STATUS]) ∧
    (s.performs m (0xC00000 + 64 * p + 4) = true → s.vmPip p = false → s.get (F.PIP1_EN p) = 0 →
      (s.puts (State.pip1Fields p) (w ||| 0x20000000).toNat).pipBad p = false →
      ∃ t, exec (.pipEnable m p w) s = .next t ∧ t.get (F.PIP1_EN p) = 1 ∧ t.get F.QN_STAT_STATUS = stOK ∧
        t.get (F.PIP14_LASTBLK p) = 2 ^ 32 - 1 ∧
        s.OnlyRegs t (State.pip1Fields p ++ [F.PIP14_LASTBLK p, I.PIP_DONE p, F.QN_STAT_STATUS])) ∧
    (s.performs m (0xC00000 + 64 * p + 4) = true → s.vmPip p = false → s.get (F.PIP1_EN p) = 0 →
      (s.puts (State.pip1Fields p) (w ||| 0x20000000).toNat).pipBad p = true →
      ∃ t, exec (.pipEnable m p w) s = .next t ∧ t.get F.QN_STAT_STATUS = stBADARG ∧ s.OnlyRegs t [F.QN_STAT_STATUS]) ∧
    (s.performs m (0xC00000 + 64 * p + 4) = true → s.vmPip p = false → s.get (F.PIP1_EN p) ≠ 0 →
      ∃ t, exec (.pipDisable m p) s = .next t ∧ t.get (F.PIP1_EN p) = 0 ∧ t.get F.QN_STAT_STATUS = stOK ∧
        s.OnlyRegs t [F.PIP1_EN p, F.QN_STAT_STATUS]) ∧
    (s.performs m 0x500D0 = true →
      ∃ t, exec (.slistCommit m w) s = .next t ∧
        (∀ j : Fin 3, t.get (I.SLIST (4 * s.get F.QN_SLIST_IDX_I + j)) =
          (match s.stagedAt m.id (0x500C4 + 4 * j) with
            | some v => v % 2 ^ 32
            | none => s.get (I.SLIST (4 * s.get F.QN_SLIST_IDX_I + j))) ∧ t.stagedAt m.id (0x500C4 + 4 * j) = none) ∧
        t.get (I.SLIST (4 * s.get F.QN_SLIST_IDX_I + 3)) = (w &&& 0xBFFFBFFF).toNat ∧ t.get F.QN_STAT_STATUS = stOK ∧
        s.OnlyRegs { t with staged := s.staged } [I.SLIST (4 * s.get F.QN_SLIST_IDX_I), I.SLIST (4 * s.get F.QN_SLIST_IDX_I + 1),
          I.SLIST (4 * s.get F.QN_SLIST_IDX_I + 2), I.SLIST (4 * s.get F.QN_SLIST_IDX_I + 3), F.QN_STAT_STATUS]) ∧
    (∀ k : Fin 8, s.performs m (0x50084 + 8 * k) = true →
      ∃ t, exec (.affinityCommit m k w) s = .next t ∧
        (∀ v : Nat, s.stagedAt m.id (0x50080 + 8 * k) = some v → t.get (F.QN_AFF_LO_MASK k) = v % 2 ^ 32) ∧
        (s.stagedAt m.id (0x50080 + 8 * k) = none → t.get (F.QN_AFF_LO_MASK k) = s.get (F.QN_AFF_LO_MASK k)) ∧
        t.stagedAt m.id (0x50080 + 8 * k) = none ∧
        t.get (F.QN_AFF_HI_MASK k) = w.toNat ∧ t.get F.QN_STAT_STATUS = stOK ∧
        s.OnlyRegs { t with staged := s.staged } [F.QN_AFF_LO_MASK k, F.QN_AFF_HI_MASK k, F.QN_STAT_STATUS]) ∧
    (s.performs m 0x50008 = true → 1024 ≤ w.toNat → w.toNat + 1024 ≤ s.blockCycles → s.blockCycles ≤ 2 ^ 20 →
      ∃ t, exec (.qnDeadlineWrite m w) s = .next t ∧ t.get F.QN_DEADLINE_V = w.toNat ∧ t.get F.QN_STAT_CLAMP = 0 ∧
        t.get F.QN_STAT_STATUS = stOK ∧ s.OnlyRegs t [F.QN_DEADLINE_V, F.QN_STAT_CLAMP, F.QN_STAT_STATUS]) ∧
    (s.performs m 0x50008 = true → w.toNat < 1024 ∨ s.blockCycles < w.toNat + 1024 →
      ∃ t, exec (.qnDeadlineWrite m w) s = .next t ∧ t.get F.QN_STAT_STATUS = stBADARG ∧
        s.OnlyRegs t [F.QN_STAT_STATUS]) ∧
    (∀ i : Fin 1024, s.performs m (0x58004 + 8 * i) = true → natBits w.toNat 10 0 ≤ 1024 →
      natBit w.toNat 31 = true ∨ natBits w.toNat 30 27 = 0 →
      ∃ t, exec (.qnImgWrite m i w) s = .next t ∧
        (∀ v : Nat, s.stagedAt m.id (0x58000 + 8 * i) = some v → t.get (F.QN_IMG0_SRCW i) = v % 2 ^ 32) ∧
        (s.stagedAt m.id (0x58000 + 8 * i) = none → t.get (F.QN_IMG0_SRCW i) = s.get (F.QN_IMG0_SRCW i)) ∧
        t.get (F.QN_IMG1_LENW i) = natBits w.toNat 10 0 ∧ t.get F.QN_STAT_STATUS = stOK ∧
        (∀ c : Fin 64, ∀ f : Fin 4, (State.frame (t.core c) f).valid = true ∨ (State.frame (t.core c) f).loading = true → (State.frame (t.core c) f).image = i.val →
          (State.frame (t.core c) f).stale = true) ∧
        t = { s with regs := t.regs, cores := t.cores, staged := t.staged } ∧
        s.KeepsFields t [F.QN_IMG0_SRCW i, F.QN_IMG1_D i, F.QN_IMG1_SRCWH i, F.QN_IMG1_LENW i, F.QN_STAT_STATUS])

/-- R101, R162 to R169: a core is halted and resumed; a host's post enters the queue or is refused; an urgent event
and a GRAPH pip are placed in a core's NEXT slot. Where the spec leaves a point open the clauses follow the model's
choices: log entries 1, 33, 150, 151, 152, 153. -/
def Obligations.QuinceDispatchCompletes : Prop :=
  ∀ (s : State) (m : Master) (c : Fin 64),
    (s.performs m (0x200000 + 0x4000 * c) = true →
      ∃ t, exec (.coreHalt m c) s = .next t ∧ t.get (F.EC_CTRL_HALT c) = 1 ∧ (t.core c).next = none ∧
        ((s.core c).p.run = none → (s.core c).s.run = none → (t.core c).halted = true) ∧
        (∀ k : Fin 65, k.val ≠ c.val → t.core k = s.core k) ∧
        t = { s with regs := t.regs, toDeliver := t.toDeliver, cores := t.cores, qn := t.qn } ∧
        s.KeepsFields t ([F.EC_CTRL_HALT c, F.QN_EVT_EVT] ++ s.returnFields c)) ∧
    (s.performs m (0x200000 + 0x4000 * c) = true →
      ∃ t, exec (.coreResume m c) s = .next t ∧ t.get (F.EC_CTRL_HALT c) = 0 ∧
        t.core c = { s.core c with halted := false, swiStop := false } ∧
        (∀ k : Fin 65, k.val ≠ c.val → t.core k = s.core k) ∧
        t = { s with regs := t.regs, cores := t.cores } ∧ s.KeepsFields t [F.EC_CTRL_HALT c]) ∧
    (∀ p : Fin 16384, s.performs m 0x50110 = true → s.standby = false → s.mirrors = false → s.wouldHold p m.id = false →
      s.postReason p (s.postLevel p) = none → s.get (F.PIP1_TS p) = 0 →
      ∃ t, exec (.hostPostPip m p) s = .next t ∧ t.get F.QN_STAT_STATUS = stOK ∧
        t.qn.queue = s.qn.queue ++ [
          { pip := p, word := s.stagedQuad m 0x50100 % 2 ^ 128, level := s.postLevel p, master := m.id,
            arr := s.get I.QN_ARR, ready := s.get I.QN_RDY, heldBlk := none, entry := true }] ∧
        t = { s with regs := t.regs, toDeliver := t.toDeliver, qn := t.qn } ∧
        s.KeepsFields t [F.QN_STAT_STATUS, I.QN_ARR, I.QN_RDY, F.QN_EVT_EVT, F.PIP13_STATE p, F.PIP13_QCOUNT p,
          F.QN_EVQ_USED, F.QN_MAXQ_N]) ∧
    (∀ (p : Fin 16384) (r : Nat), s.performs m 0x50110 = true → s.standby = false → s.mirrors = false →
      s.wouldHold p m.id = false → s.postReason p (s.postLevel p) = some r →
      ∃ t, exec (.hostPostPip m p) s = .next t ∧ t.get F.QN_REFUSE_REASON = r % 16 ∧
        t.get F.QN_REFUSE_MASTER = m.id ∧ t.get F.QN_REFUSE_PIP = p.val ∧ t.get F.QN_EVT_EVT / 2 % 2 = 1 ∧
        s.OnlyRegsEv t [F.QN_STAT_STATUS, F.QN_REFUSE_REASON, F.QN_REFUSE_MASTER, F.QN_REFUSE_PIP, F.QN_EVT_EVT]) ∧
    (∀ e : QEvent, (s.readyEvents true).head? = some e → s.get (F.PIP1_EN e.pip) ≠ 0 → s.urgentCore e.pip = some c.val →
      s.sourcesOk e.pip = true →
      ∃ t, exec .urgentPlacement s = .next t ∧
        (∃ r, (t.core c).next = some r ∧ r.pip = e.pip ∧ r.ev = some { e with entry := false } ∧
          r.copy = s.pipWords e.pip) ∧
        (∀ x ∈ t.qn.queue, x.arr ≠ e.arr) ∧ (∀ k : Fin 65, k.val ≠ c.val → t.core k = s.core k) ∧
        t = { s with regs := t.regs, toDeliver := t.toDeliver, cores := t.cores, qn := t.qn } ∧
        s.KeepsFields t ([I.EC_WORK c, F.PIP13_STATE e.pip, F.PIP13_QCOUNT e.pip, F.QN_EVQ_USED, F.QN_MAXQ_N, F.QN_EVT_EVT] ++
          s.returnFields c)) ∧
    (∀ (p g : Nat) (cur : List (Nat × Int)), (s.core c).next = none → s.takesPips c = true → s.urgentWaiting c = false →
      (s.readyEvents false).all (fun e => s.on (F.PIP1_EN e.pip)) = true → s.rrDecide c = some (g, cur) → g < 16 →
      s.readyGraph g c = some p → s.sourcesOk p = true →
      ∃ t, exec (.roundRobinPlacement c) s = .next t ∧
        (∃ r, (t.core c).next = some r ∧ r.pip = p ∧ r.ev = none ∧ r.copy = s.pipWords p ∧ r.blk = s.get (I.PIP_BLK p)) ∧
        t.get (F.PIP13_STATE p) = 3 ∧ t.qn.cur = cur ∧ (∀ k : Fin 65, k.val ≠ c.val → t.core k = s.core k) ∧
        t = { s with regs := t.regs, cores := t.cores, qn := { s.qn with cur := t.qn.cur } } ∧
        s.KeepsFields t [I.EC_WORK c, F.PIP13_STATE p]) ∧
    (∀ (e : QEvent) (g : Nat) (cur : List (Nat × Int)), (s.core c).next = none → s.takesPips c = true →
      s.urgentWaiting c = false → (s.readyEvents false).all (fun e => s.on (F.PIP1_EN e.pip)) = true →
      s.rrDecide c = some (g, cur) → 16 ≤ g → s.readyEvent c = some e → s.sourcesOk e.pip = true →
      ∃ t, exec (.roundRobinPlacement c) s = .next t ∧
        (∃ r, (t.core c).next = some r ∧ r.pip = e.pip ∧ r.ev = some { e with entry := false }) ∧
        (∀ x ∈ t.qn.queue, x.arr ≠ e.arr) ∧ t.qn.cur = cur ∧ (∀ k : Fin 65, k.val ≠ c.val → t.core k = s.core k) ∧
        t = { s with regs := t.regs, toDeliver := t.toDeliver, cores := t.cores, qn := t.qn } ∧
        s.KeepsFields t [I.EC_WORK c, F.PIP13_STATE e.pip, F.PIP13_QCOUNT e.pip, F.QN_EVQ_USED, F.QN_MAXQ_N, F.QN_EVT_EVT])

/-- R177 to R195: what the voice manager does with the word it takes next: a note starts in the lowest IDLE slots,
goes to RELEASE or HELD, gets events attached, fades; a word is refused while the unit is not ON or its group is not
enabled. Where the spec leaves a point open the clauses follow the model's choices: log entries 22, 24, 28, 34. -/
def Obligations.VoiceWordsComplete : Prop :=
  ∀ (s : State) (src : BitVec 8) (w : Quad) (v : VWord),
    (s.takesNow 1 src.toNat w.toNat v = true → s.roomFor w.toNat = true → s.roomToAttach (s.slotsFor w.toNat).length = true →
      ∃ t, exec (.noteOn src w) s = .next t ∧
        (∀ k ∈ s.slotsFor w.toNat, t.get (F.VT0_STATE k) = 1 ∧ t.get (F.VT0_GROUP k) = State.vwGroup w.toNat ∧
          t.get (F.VT0_NOTE k) = State.vwNote w.toNat ∧ t.get (F.VT2_FRCLO k) = s.wordSample v % 2 ^ 32 ∧
          t.get (F.VT4_LEVEL k) = 0x7FFFFFFF) ∧
        (∀ k, k ∉ s.slotsFor w.toNat → t.get (F.VT0_STATE k) = s.get (F.VT0_STATE k)) ∧
        t.vm.words = s.vm.words.erase v ∧
        t = { s with regs := t.regs, toDeliver := t.toDeliver, vm := t.vm, qn := t.qn, scn := { s.scn with curves := t.scn.curves } } ∧
        s.KeepsNames t (State.slotNames ++ State.pipNames ++ State.wordNames ++
          [I.QN_ARR, I.QN_RDY, F.QN_REFUSE_REASON, F.QN_REFUSE_MASTER, F.QN_REFUSE_PIP])) ∧
    (∀ num : Nat, s.takesNow 2 src.toNat w.toNat v = true →
      s.addressed (State.vwGroup w.toNat) (State.vwNote w.toNat) = some num → s.noteState num = 1 →
      s.get (F.VM_GCNT_HOLD (State.vwGroup w.toNat)) = 0 → s.roomToAttach (s.noteSlots num).length = true →
      ∃ t, exec (.noteOff src w) s = .next t ∧ (∀ k ∈ s.noteSlots num, t.get (F.VT0_STATE k) = 3) ∧
        (∀ k, k ∉ s.noteSlots num → t.get (F.VT0_STATE k) = s.get (F.VT0_STATE k)) ∧
        t.vm.attach = s.vm.attach ++ s.attachedTo num w.toNat ∧ t.vm.words = s.vm.words.erase v ∧
        t = { s with regs := t.regs, toDeliver := t.toDeliver, vm := { s.vm with words := t.vm.words, attach := t.vm.attach } } ∧
        s.KeepsNames t State.wordNames) ∧
    (∀ num : Nat, s.takesNow 2 src.toNat w.toNat v = true →
      s.addressed (State.vwGroup w.toNat) (State.vwNote w.toNat) = some num → s.noteState num = 1 →
      s.get (F.VM_GCNT_HOLD (State.vwGroup w.toNat)) ≠ 0 →
      ∃ t, exec (.noteOff src w) s = .next t ∧ (∀ k ∈ s.noteSlots num, t.get (F.VT0_STATE k) = 2) ∧
        (∀ k, k ∉ s.noteSlots num → t.get (F.VT0_STATE k) = s.get (F.VT0_STATE k)) ∧
        t = { s with regs := t.regs, toDeliver := t.toDeliver, vm := { s.vm with words := s.vm.words.erase v } } ∧
        s.KeepsNames t State.wordNames) ∧
    (s.takesNow 2 src.toNat w.toNat v = true → s.addressed (State.vwGroup w.toNat) (State.vwNote w.toNat) = none →
      ∃ t, exec (.noteOff src w) s = .next t ∧ t.get F.VM_ORPHANS_N = min (s.get F.VM_ORPHANS_N + 1) (2 ^ 32 - 1) ∧
        t.get F.VM_EVT_EVT / 4 % 2 = 1 ∧
        t = { s with regs := t.regs, toDeliver := t.toDeliver, vm := { s.vm with words := s.vm.words.erase v } } ∧
        s.KeepsFields t [F.VM_ORPHANS_N, F.VM_EVT_EVT, F.QN_EVQ_USED, F.QN_MAXQ_N, F.QN_EVT_EVT]) ∧
    (∀ num : Nat, s.takesNow 3 src.toNat w.toNat v = true →
      s.addressed (State.vwGroup w.toNat) (State.vwNote w.toNat) = some num → s.roomToAttach (s.noteSlots num).length = true →
      ∃ t, exec (.noteChange src w) s = .next t ∧
        t = { s with regs := t.regs, toDeliver := t.toDeliver,
                     vm := { s.vm with words := s.vm.words.erase v, attach := s.vm.attach ++ s.attachedTo num w.toNat } } ∧
        s.KeepsFields t [F.VM_EVT_EVT, F.QN_EVQ_USED, F.QN_MAXQ_N, F.QN_EVT_EVT]) ∧
    (∀ num : Nat, s.takesNow 3 src.toNat w.toNat v = true →
      s.addressed (State.vwGroup w.toNat) (State.vwNote w.toNat) = some num → s.roomToAttach (s.noteSlots num).length = false →
      ∃ t, exec (.noteChange src w) s = .next t ∧ t = s) ∧
    (∀ num : Nat, s.takesNow 7 src.toNat w.toNat v = true → State.vwNote w.toNat ≠ 0xFFFF →
      s.addressed (State.vwGroup w.toNat) (State.vwNote w.toNat) = some num → s.roomToAttach (s.noteSlots num).length = true →
      ∃ t, exec (.ctrl src w) s = .next t ∧
        t = { s with regs := t.regs, toDeliver := t.toDeliver,
                     vm := { s.vm with words := s.vm.words.erase v, attach := s.vm.attach ++ s.attachedTo num w.toNat } } ∧
        s.KeepsFields t [F.VM_EVT_EVT, F.QN_EVQ_USED, F.QN_MAXQ_N, F.QN_EVT_EVT]) ∧
    (s.takesNow 4 src.toNat w.toNat v = true → State.vwValue w.toNat ≠ 0 →
      ∃ t, exec (.hold src w) s = .next t ∧ t.get (F.VM_GCNT_HOLD (State.vwGroup w.toNat)) = 1 ∧
        t = { s with regs := t.regs, toDeliver := t.toDeliver, vm := { s.vm with words := s.vm.words.erase v } } ∧
        s.KeepsFields t [F.VM_GCNT_HOLD (State.vwGroup w.toNat), F.QN_EVQ_USED, F.QN_MAXQ_N, F.QN_EVT_EVT]) ∧
    (s.takesNow 4 src.toNat w.toNat v = true → State.vwValue w.toNat = 0 → s.roomToAttach s.busySlots.length = true →
      ∃ t, exec (.hold src w) s = .next t ∧ t.get (F.VM_GCNT_HOLD (State.vwGroup w.toNat)) = 0 ∧
        (∀ num ∈ s.groupNotes (State.vwGroup w.toNat), s.noteState num = 2 →
          ∀ k ∈ s.noteSlots num, t.get (F.VT0_STATE k) = 3) ∧
        t = { s with regs := t.regs, toDeliver := t.toDeliver, vm := { s.vm with words := t.vm.words, attach := t.vm.attach } } ∧
        s.KeepsNames t (F.VM_GCNT_HOLD 0 :: State.wordNames)) ∧
    (s.takesNow 5 src.toNat w.toNat v = true → s.roomToAttach s.busySlots.length = true →
      ∃ t, exec (.allOff src w) s = .next t ∧
        (∀ num ∈ s.groupNotes (State.vwGroup w.toNat), ∀ k ∈ s.noteSlots num, t.get (F.VT0_STATE k) = 3) ∧
        (∀ k, s.get (F.VT0_STATE k) = 0 → t.get (F.VT0_STATE k) = 0) ∧ t.vm.words = s.vm.words.erase v ∧
        t = { s with regs := t.regs, toDeliver := t.toDeliver, vm := { s.vm with words := t.vm.words, attach := t.vm.attach } } ∧
        s.KeepsNames t State.wordNames) ∧
    (∀ num : Nat, s.takesNow 6 src.toNat w.toNat v = true → State.vwNote w.toNat ≠ 0xFFFF →
      s.addressed (State.vwGroup w.toNat) (State.vwNote w.toNat) = some num → s.fadeTooMany num = false →
      s.roomToAttach (s.noteSlots num).length = true →
      ∃ t, exec (.kill src w) s = .next t ∧
        (∀ k ∈ s.noteSlots num, t.get (F.VT0_STATE k) = 4 ∧
          t.get (F.VT5_FADEEND k) = (s.wordSample v + s.get F.VM_FADE_FADE - 1) % 2 ^ 32) ∧
        t.vm.attach = s.vm.attach ++ s.attachedTo num w.toNat ∧ t.vm.words = s.vm.words.erase v ∧
        t = { s with regs := t.regs, toDeliver := t.toDeliver, vm := { s.vm with words := t.vm.words, attach := t.vm.attach },
                     scn := { s.scn with curves := t.scn.curves } } ∧
        s.KeepsNames t ([F.VT5_FADEEND 0, I.VT_FADEBLK 0] ++ State.wordNames)) ∧
    (s.nextWord = some v → v.word = w.toNat → v.src = src.toNat → State.vwType w.toNat = 1 →
      s.get F.VM_STAT_STATE ≠ unitON →
      ∃ t, exec (.noteOn src w) s = .next t ∧ t.get F.VM_REFUSE_REASON = 5 ∧
        t.get F.VM_REFUSE_GROUP = State.vwGroup w.toNat ∧ t.get F.VM_REFUSE_NOTE = State.vwNote w.toNat ∧
        t.get F.VM_EVT_EVT % 2 = 1 ∧
        t = { s with regs := t.regs, toDeliver := t.toDeliver, vm := { s.vm with words := s.vm.words.erase v } } ∧
        s.KeepsFields t [F.VM_REFUSE_REASON, F.VM_REFUSE_GROUP, F.VM_REFUSE_NOTE, F.VM_EVT_EVT, F.QN_EVQ_USED, F.QN_MAXQ_N,
          F.QN_EVT_EVT])

/-- R187 to R189, R202, R203: a waiting group goes on: a NOTE_ON starts late, a KILL or a disabled group's notes fade.
Where the spec leaves a point open the clauses follow the model's choices: log entries 24, 26. -/
def Obligations.WaitingGroupsComplete : Prop :=
  ∀ (s : State) (g : Fin 256) (v : VWord),
    (s.get (I.VM_BLK g) ≠ 0 → s.firstOf g = some v → State.vwType v.word = 1 → State.vwGroup v.word = g.val →
      s.get F.VM_STAT_STATE = unitON → s.get (F.VM_GRP0_EN g) ≠ 0 → s.roomFor v.word = true →
      s.roomToAttach (s.slotsFor v.word).length = true → v.wait ≠ some s.handledBlk →
      ∃ t, exec (.deferredNoteStart g) s = .next t ∧ t.get (I.VM_BLK g) = 0 ∧
        (∀ k ∈ s.slotsFor v.word, t.get (F.VT0_STATE k) = 1 ∧ t.get (F.VT0_GROUP k) = g.val ∧
          t.get (F.VT2_FRCLO k) = s.wordSample v % 2 ^ 32) ∧
        (v.wait ≠ none → s.wordSample v = s.computedFrom) ∧
        (v.wait ≠ none → v.late = false → t.get F.QN_LATE_N = min (s.get F.QN_LATE_N + 1) (2 ^ 32 - 1) ∧
          t.get F.QN_EVT_EVT / 4 % 2 = 1) ∧
        (v.wait = none ∨ v.late = true → t.get F.QN_LATE_N = s.get F.QN_LATE_N) ∧ t.vm.words = s.vm.words.erase v ∧
        t = { s with regs := t.regs, toDeliver := t.toDeliver, vm := t.vm, qn := t.qn, scn := { s.scn with curves := t.scn.curves } } ∧
        s.KeepsNames t (State.slotNames ++ State.pipNames ++ State.wordNames ++
          [I.VM_BLK 0, F.QN_LATE_N, I.QN_ARR, I.QN_RDY, F.QN_REFUSE_REASON, F.QN_REFUSE_MASTER, F.QN_REFUSE_PIP])) ∧
    (∀ num : Nat, s.get (I.VM_GKILL g) = 0 → s.get (I.VM_BLK g) ≠ 0 → s.firstOf g = some v → State.vwType v.word = 6 →
      State.vwNote v.word ≠ 0xFFFF → s.get F.VM_STAT_STATE = unitON → s.get (F.VM_GRP0_EN g) ≠ 0 →
      s.addressed g (State.vwNote v.word) = some num → s.fadeTooMany num = false → v.wait = none →
      s.roomToAttach (s.noteSlots num).length = true →
      ∃ t, exec (.stealResume g) s = .next t ∧ t.get (I.VM_BLK g) = 0 ∧
        (∀ k ∈ s.noteSlots num, t.get (F.VT0_STATE k) = 4) ∧ t.vm.words = s.vm.words.erase v ∧
        t = { s with regs := t.regs, toDeliver := t.toDeliver, vm := { s.vm with words := t.vm.words, attach := t.vm.attach },
                     scn := { s.scn with curves := t.scn.curves } } ∧
        s.KeepsNames t ([I.VM_BLK 0, F.VT5_FADEEND 0, I.VT_FADEBLK 0] ++ State.wordNames)) ∧
    (∀ num : Nat, s.get (I.VM_GKILL g) ≠ 0 → s.get (I.VM_BLK g) = 0 → s.groupNotes g = [num] → s.fadeTooMany num = false →
      s.roomToAttach (s.noteSlots num).length = true →
      ∃ t, exec (.stealResume g) s = .next t ∧ (∀ k ∈ s.noteSlots num, t.get (F.VT0_STATE k) = 4) ∧
        t.get (I.VM_GKILL g) = 0 ∧
        t = { s with regs := t.regs, toDeliver := t.toDeliver, vm := { s.vm with attach := t.vm.attach },
                     scn := { s.scn with curves := t.scn.curves } } ∧
        s.KeepsNames t [I.VM_GKILL 0, F.VT0_STATE 0, F.VT5_FADEEND 0, I.VT_FADEBLK 0, F.VM_EVT_EVT])

/-- R192, R201 to R203: the voice manager is enabled, refused and disabled, its groups too; every slot IDLE ends a
shutdown; a join pip is decremented once per block; the write of word 3 applies a direct write of a phasor. Where the
spec leaves a point open the clauses follow the model's choices: log entries 24, 29. -/
def Obligations.VoiceUnitCompletes : Prop :=
  ∀ (s : State) (m : Master) (g : Fin 256) (w : Word),
    (s.performs m 0x60000 = true → s.get F.VM_STAT_STATE = unitOFF →
      1 ≤ natBits w.toNat 28 16 → natBits w.toNat 28 16 ≤ 4096 → natBits w.toNat 8 0 ≤ 256 →
      natBits w.toNat 8 0 ≤ natBits w.toNat 28 16 →
      s.get F.VM_BASE_PIPBASE + 2 * natBits w.toNat 28 16 ≤ 16384 →
      s.get F.VM_BASE_GAINBASE + natBits w.toNat 28 16 ≤ 65536 →
      ∃ t, exec (.vmEnable m w) s = .next t ∧ t.get F.VM_CTRL_EN = 1 ∧ t.get F.VM_STAT_STATE = unitON ∧
        t.get F.VM_CTRL_SLOTS = natBits w.toNat 28 16 ∧ t.get F.VM_CTRL_RESERVE = natBits w.toNat 8 0 ∧
        t.get F.VM_CTRL_EMPTY = natBits w.toNat 30 30 ∧ t.get F.VM_STAT_STATUS = stOK ∧
        s.OnlyRegs t (State.vmFields ++ [F.VM_CTRL_EN, F.VM_STAT_STATE, F.VM_STAT_STATUS])) ∧
    (s.performs m 0x60000 = true → s.get F.VM_STAT_STATE = unitOFF →
      natBits w.toNat 28 16 = 0 ∨ 4096 < natBits w.toNat 28 16 ∨ 256 < natBits w.toNat 8 0 →
      ∃ t, exec (.vmEnable m w) s = .next t ∧ t.get F.VM_STAT_STATUS = stBADARG ∧ s.OnlyRegs t [F.VM_STAT_STATUS]) ∧
    (s.performs m 0x60000 = true → s.get F.VM_CTRL_EN ≠ 0 → s.get F.VM_STAT_STATE = unitON →
      ∃ t, exec (.vmDisable m) s = .next t ∧ t.get F.VM_CTRL_EN = 0 ∧ t.get F.VM_STAT_STATE = unitSHUTTING ∧
        t = { s with regs := t.regs, toDeliver := t.toDeliver, vm := { s.vm with attach := t.vm.attach },
                     scn := { s.scn with curves := t.scn.curves } } ∧
        s.KeepsNames t [F.VM_CTRL_EN, F.VM_STAT_STATE, F.VM_STAT_STATUS, I.VM_GKILL 0, F.VT0_STATE 0, F.VT5_FADEEND 0,
          I.VT_FADEBLK 0, F.VM_EVT_EVT, F.VM_DEFERS_N]) ∧
    (s.get F.VM_STAT_STATE = unitSHUTTING → s.get F.VM_CTRL_EN = 0 → s.busySlots = [] →
      ∃ t, exec .vmShutdownComplete s = .next t ∧ t.get F.VM_STAT_STATE = unitOFF ∧ s.OnlyRegs t [F.VM_STAT_STATE]) ∧
    (s.performs m (0x61000 + 16 * g) = true → s.get (F.VM_GRP0_EN g) = 0 →
      (s.puts (State.grp0Fields g) (w ||| 0x80000000).toNat).grpBad g = false →
      ∃ t, exec (.voiceGroupEnable m g w) s = .next t ∧ t.get (F.VM_GRP0_EN g) = 1 ∧
        t.get (F.VM_GRP0_LAYERS g) = natBits w.toNat 30 28 ∧ t.get (F.VM_GRP0_GLIM g) = natBits w.toNat 12 0 ∧
        t.get F.VM_STAT_STATUS = stOK ∧ s.OnlyRegs t (State.grp0Fields g ++ [F.VM_STAT_STATUS])) ∧
    (s.performs m (0x61000 + 16 * g) = true → s.get (F.VM_GRP0_EN g) = 0 →
      (s.puts (State.grp0Fields g) (w ||| 0x80000000).toNat).grpBad g = true →
      ∃ t, exec (.voiceGroupEnable m g w) s = .next t ∧ t.get F.VM_STAT_STATUS = stBADARG ∧
        s.OnlyRegs t [F.VM_STAT_STATUS]) ∧
    (s.performs m (0x61000 + 16 * g) = true → s.get (F.VM_GRP0_EN g) ≠ 0 →
      ∃ t, exec (.voiceGroupDisable m g) s = .next t ∧ t.get (F.VM_GRP0_EN g) = 0 ∧ t.get F.VM_STAT_STATUS = stOK ∧
        (∀ num : Nat, s.groupNotes g = [num] → s.fadeTooMany num = false → s.attachFull num = false →
          ∀ k ∈ s.noteSlots num, t.get (F.VT0_STATE k) = 4) ∧
        t = { s with regs := t.regs, toDeliver := t.toDeliver, vm := { s.vm with attach := t.vm.attach },
                     scn := { s.scn with curves := t.scn.curves } } ∧
        s.KeepsNames t [F.VM_GRP0_EN 0, F.VM_STAT_STATUS, I.VM_GKILL 0, F.VT0_STATE 0, F.VT5_FADEEND 0, I.VT_FADEBLK 0,
          F.VM_EVT_EVT, F.VM_DEFERS_N]) ∧
    (∀ p : Nat, s.phRunning = true → s.joinReady g = true → s.get (I.VM_JOINED g) ≠ s.blockIx → s.get (F.VM_GRP2_JOIN g) = p →
      s.get (F.PIP1_EN p) ≠ 0 → s.get (F.PIP1_CLASS p) = 0 → s.get (I.PIP_ARM p) ≠ 0 →
      s.get (I.PIP_BLK p) = s.handledBlk → 1 < s.get (F.PIP13_CNT p) →
      ∃ t, exec (.joinDecrement g) s = .next t ∧ t.get (F.PIP13_CNT p) = (s.get (F.PIP13_CNT p) - 1) % 2 ^ 16 ∧
        t.get (I.VM_JOINED g) = s.blockIx % 2 ^ 64 ∧ s.OnlyRegs t [F.PIP13_CNT p, I.VM_JOINED g]) ∧
    (∀ p : Fin 8192, s.performs m (0x400000 + 16 * p + 12) = true →
      ∃ t, exec (.phasorDirectWrite m p w) s = .next t ∧ t.get (I.PH_G p) = w.toNat ∧
        t.get (I.PH_P p) = s.phStaged m p 0 % 2 ^ 32 + 2 ^ 32 * (s.phStaged m p 1 % 2 ^ 16) ∧
        t.get (I.PH_D p) = s.phStaged m p 1 / 2 ^ 16 % 2 ^ 16 + 2 ^ 16 * (s.phStaged m p 2 % 2 ^ 32) ∧
        t = { s with regs := t.regs, staged := t.staged } ∧ s.KeepsFields t [I.PH_P p, I.PH_D p, I.PH_G p])

/-- R198 to R201: a phasor command applied at offset `o` sets what it names there and keeps the rest; one for a later
block is held; the held ones apply when their block is computed. Where the spec leaves a point open the clauses follow
the model's choices: log entry 24. -/
def Obligations.PhasorCommandsComplete : Prop :=
  ∀ (s : State) (w : Quad) (o : Int), s.get F.VM_STAT_STATE = unitON → State.voiceBad w.toNat = none →
    o = (if s.phRunning then ((extend48 (w.toNat / 2 ^ 80) s.frc : Nat) : Int) - ((s.computedFrom : Nat) : Int) else 0) →
    (State.vwType w.toNat = 0x10 → s.phRunning = false ∨ extend48 (w.toNat / 2 ^ 80) s.frc / s.blockLen < s.blockIx →
      ∃ t, exec (.phPhase w) s = .next t ∧ t.phPhase (natBits w.toNat 60 48) o = natBits w.toNat 47 0 ∧
        t.phD (natBits w.toNat 60 48) = s.phD (natBits w.toNat 60 48) ∧
        t.phG (natBits w.toNat 60 48) = s.phG (natBits w.toNat 60 48) ∧
        s.OnlyRegs t [I.PH_P (natBits w.toNat 60 48), I.PH_D (natBits w.toNat 60 48), I.PH_G (natBits w.toNat 60 48)]) ∧
    (State.vwType w.toNat = 0x11 → s.phRunning = false ∨ extend48 (w.toNat / 2 ^ 80) s.frc / s.blockLen < s.blockIx →
      ∃ t, exec (.phRate w) s = .next t ∧ t.phStep (natBits w.toNat 60 48) o = sint 48 (natBits w.toNat 47 0) ∧
        t.phPhase (natBits w.toNat 60 48) o = s.phPhase (natBits w.toNat 60 48) o ∧
        t.phG (natBits w.toNat 60 48) = s.phG (natBits w.toNat 60 48) ∧
        s.OnlyRegs t [I.PH_P (natBits w.toNat 60 48), I.PH_D (natBits w.toNat 60 48), I.PH_G (natBits w.toNat 60 48)]) ∧
    (State.vwType w.toNat = 0x12 → s.phRunning = false ∨ extend48 (w.toNat / 2 ^ 80) s.frc / s.blockLen < s.blockIx →
      ∃ t, exec (.phSlope w) s = .next t ∧ t.phG (natBits w.toNat 60 48) = sint 32 (natBits w.toNat 47 16) ∧
        t.phStep (natBits w.toNat 60 48) o = s.phStep (natBits w.toNat 60 48) o ∧
        t.phPhase (natBits w.toNat 60 48) o = s.phPhase (natBits w.toNat 60 48) o ∧
        s.OnlyRegs t [I.PH_P (natBits w.toNat 60 48), I.PH_D (natBits w.toNat 60 48), I.PH_G (natBits w.toNat 60 48)]) ∧
    (State.vwType w.toNat = 0x10 → s.phRunning = true → s.blockIx ≤ extend48 (w.toNat / 2 ^ 80) s.frc / s.blockLen →
      ∃ t, exec (.phPhase w) s = .next t ∧ t = { s with vm := { s.vm with phasor := s.vm.phasor ++ [w.toNat] } }) ∧
    (s.vm.phasor = [w.toNat] → State.vwType w.toNat = 0x11 → s.phRunning = true →
      extend48 (w.toNat / 2 ^ 80) s.frc / s.blockLen < s.blockIx →
      ∃ t, exec .phasorHeldApply s = .next t ∧ t.vm.phasor = [] ∧
        t.phStep (natBits w.toNat 60 48) o = sint 48 (natBits w.toNat 47 0) ∧
        t.phPhase (natBits w.toNat 60 48) o = s.phPhase (natBits w.toNat 60 48) o ∧
        t = { s with regs := t.regs, vm := { s.vm with phasor := [] } } ∧
        s.KeepsFields t [I.PH_P (natBits w.toNat 60 48), I.PH_D (natBits w.toNat 60 48), I.PH_G (natBits w.toNat 60 48)])

/-- R91, R93, R97, R98, R156 to R158, R165, R181, R187: a landed pip starts, an urgent one preempts, a completed one
is counted; a voice word is posted, and held events and words become READY. Where the spec leaves a point open the
clauses follow the model's choices: log entry 19. -/
def Obligations.PipRunsComplete : Prop :=
  ∀ (s : State) (m : Master) (c : Fin 64) (r : PipRun),
    ((s.core c).next = some r → r.landed = true → (s.core c).p.run = none → (s.core c).shadow = false →
      (s.core c).frozen = false → (s.core c).halted = false → r.ev = none → s.slotOfRender r.pip = none → r.reruns = 0 →
      ∃ t, exec (.pipStart c) s = .next t ∧ (t.core c).p.run = some { r with events := [] } ∧ (t.core c).p.events = [] ∧
        (t.core c).next = none ∧
        (t.core c).p.pc = r.frame * 0x4000 + natBits (r.copy.getD 0 0) 13 0 ∧ t.get (F.PIP13_STATE r.pip) = 4 ∧
        (∀ k : Fin 65, k.val ≠ c.val → t.core k = s.core k) ∧ t = { s with regs := t.regs, cores := t.cores } ∧
        s.KeepsFields t [I.QN_START, F.PIP13_STATE r.pip]) ∧
    ((s.core c).next = some r → r.landed = true → (s.core c).p.run = none → (s.core c).shadow = false →
      (s.core c).frozen = false → (s.core c).halted = false → r.ev = none → r.reruns ≠ 0 →
      ∃ t, exec (.pipStart c) s = .next t ∧ (t.core c).p.run = some r ∧ (t.core c).p.events = r.events ∧
        (t.core c).p.head = 0 ∧ (t.core c).next = none ∧ t.vm = s.vm ∧ t.get (F.PIP13_STATE r.pip) = 4 ∧
        (∀ k : Fin 65, k.val ≠ c.val → t.core k = s.core k) ∧ t = { s with regs := t.regs, cores := t.cores } ∧
        s.KeepsFields t [I.QN_START, F.PIP13_STATE r.pip]) ∧
    (∀ e : QEvent, (s.core c).next = some r → r.landed = true → r.ev = some e → e.level < 4 →
      (s.core c).p.run.isSome = true → (s.core c).shadow = false → (s.core c).p.slots = 0 → (s.core c).frozen = false →
      (s.core c).halted = false → (s.core c).heldPost = false → r.reruns = 0 →
      ∃ t, exec (.urgentPreempt c) s = .next t ∧ (t.core c).shadow = true ∧ (t.core c).s.run = some { r with events := [e.word] } ∧
        (t.core c).p = (s.core c).p ∧ (t.core c).s.events = [e.word] ∧ (t.core c).next = none ∧
        (∀ k : Fin 65, k.val ≠ c.val → t.core k = s.core k) ∧ t = { s with regs := t.regs, cores := t.cores } ∧
        s.KeepsFields t [I.QN_START, F.PIP13_STATE r.pip, F.PIP13_QCOUNT r.pip]) ∧
    ((s.core c).p.run = some r → (s.core c).shadow = false → r.qdone = true → (s.core c).stores = [] →
      (s.core c).dma = [] → (s.core c).p.load = none → (s.core c).frozen = false → r.ev = none → r.late = false →
      s.slotOfRender r.pip = none → s.get (F.PIP2_SL r.pip) = 0 →
      s.get (I.PIP_DONE r.pip) = 0 ∨ s.get (F.PIP14_LASTBLK r.pip) ≠ r.blk % 2 ^ 32 →
      ∃ t, exec (.qdoneComplete c) s = .next t ∧ (t.core c).p.run = none ∧
        t.get (F.PIP14_LASTBLK r.pip) = r.blk % 2 ^ 32 ∧ t.get (F.PIP13_STATE r.pip) = 0 ∧
        t.get (F.PIP1_EN r.pip) = (if s.get (F.PIP1_REC r.pip) = 0 then 0 else s.get (F.PIP1_EN r.pip)) ∧
        (∀ k : Fin 65, k.val ≠ c.val → t.core k = s.core k) ∧ t = { s with regs := t.regs, cores := t.cores } ∧
        s.KeepsFields t [F.PIP14_LASTBLK r.pip, F.PIP13_STATE r.pip, F.PIP1_EN r.pip, I.PIP_DONE r.pip, I.PIP_ARM r.pip]) ∧
    (∀ k : Nat, (s.core c).p.run = some r → (s.core c).shadow = false → r.qdone = true → (s.core c).stores = [] →
      (s.core c).dma = [] → (s.core c).p.load = none → (s.core c).frozen = false → r.ev = none → r.ended = true →
      s.get (I.PIP_DONE r.pip) = 0 → s.slotOfRender r.pip = some k → s.get (F.VT0_STATE k) ≠ 0 →
      ∃ t, exec (.qdoneComplete c) s = .next t ∧ t.get (F.VT0_STATE k) = 0 ∧ t.get (F.VT0_DET k) = 0 ∧
        (∀ a ∈ t.vm.attach, a.slot ≠ k) ∧
        t = { s with regs := t.regs, toDeliver := t.toDeliver, cores := t.cores, vm := t.vm, scn := t.scn } ∧
        s.KeepsNames t (State.slotNames ++ State.pipNames ++ [I.QN_RDY, F.QN_EVT_EVT])) ∧
    (∀ b : Nat, s.performs m 0x50110 = true → s.standby = false → s.mirrors = false →
      State.voiceBad (s.stagedQuad m 0x50100) = none → State.vwType (s.stagedQuad m 0x50100) < 0x10 →
      s.voiceHold (s.stagedQuad m 0x50100) m.id = false →
      extend48 (s.stagedQuad m 0x50100 / 2 ^ 80) s.frc / s.blockLen = b → s.blockIx ≤ b →
      ∃ t, exec (.hostPostVoice m) s = .next t ∧ t.get F.QN_STAT_STATUS = stOK ∧
        t = { s with regs := t.regs, toDeliver := t.toDeliver, vm := { s.vm with words := s.vm.words ++ [
          { word := s.stagedQuad m 0x50100, src := m.id, blk := b, ready := false, late := false, wait := none }] } } ∧
        s.KeepsFields t [F.QN_STAT_STATUS, F.QN_EVQ_USED, F.QN_MAXQ_N, F.QN_EVT_EVT]) ∧
    (∃ t, exec .heldEventReady s = .next t ∧
        (∀ e ∈ t.qn.queue, ∀ b, e.heldBlk = some b → s.blockIx ≤ b) ∧
        (∀ x ∈ t.vm.words, x.ready = false → s.blockIx ≤ x.blk) ∧
        (∀ x ∈ s.vm.words, { x with ready := x.ready || decide (x.blk < s.blockIx) } ∈ t.vm.words) ∧
        (s.vm.words.filter (fun x => x.ready)) <+: t.vm.words ∧
        t.vm.words.length = s.vm.words.length ∧ t.qn.queue.map (fun e => e.word) = s.qn.queue.map (fun e => e.word) ∧
        t = { s with regs := t.regs, toDeliver := t.toDeliver, qn := { s.qn with queue := t.qn.queue },
                     vm := { s.vm with words := t.vm.words } } ∧
        s.KeepsNames t [I.QN_RDY, F.QN_EVT_EVT, F.PIP13_STATE 0, F.PIP13_QCOUNT 0])

/-- R229 to R235: what a scene command for a parameter does: refused and recorded, applied at once while the engine
prepares no blocks, put into the curve of its parameter, or held for its block. Where the spec leaves a point open the
clauses follow the model's choices: log entries 31, 159. -/
def Obligations.ParamCommandCompletes : Prop :=
  ∀ (s : State) (src : BitVec 8) (w : BitVec 128), natBits w.toNat 79 72 = 1 →
    (State.cmdBad w.toNat = true →
      ∃ t, exec (.paramCommand src w) s = .next t ∧ t.get F.SCN_REFUSE_REASON = 1 ∧ t.get F.SCN_REFUSE_MASTER = src.toNat ∧
        t.get F.SCN_EVT_EVT / 4 % 2 = 1 ∧
        s.OnlyRegsEv t [F.SCN_REFUSE_REASON, F.SCN_REFUSE_MASTER, F.SCN_REFUSE_INDEX, F.SCN_EVT_EVT]) ∧
    (State.cmdBad w.toNat = false → s.vmGain (natBits w.toNat 47 32) = true →
      ∃ t, exec (.paramCommand src w) s = .next t ∧ t.get F.SCN_REFUSE_REASON = 3 ∧
        t.get F.SCN_REFUSE_MASTER = src.toNat ∧ t.get F.SCN_REFUSE_INDEX = natBits w.toNat 47 32 ∧
        s.OnlyRegsEv t [F.SCN_REFUSE_REASON, F.SCN_REFUSE_MASTER, F.SCN_REFUSE_INDEX, F.SCN_EVT_EVT]) ∧
    (State.cmdBad w.toNat = false → s.vmGain (natBits w.toNat 47 32) = false → s.preparing = false →
      ∃ t, exec (.paramCommand src w) s = .next t ∧ (∀ n, (t.curve (natBits w.toNat 47 32)).at n = sint 32 w.toNat) ∧
        (∀ k, k ≠ natBits w.toNat 47 32 → t.curve k = s.curve k) ∧
        t = { s with scn := { s.scn with curves := t.scn.curves } }) ∧
    (State.cmdBad w.toNat = false → s.vmGain (natBits w.toNat 47 32) = false → s.preparing = true → natBit w.toNat 64 = true →
      s.rampsFree ≠ 0 →
      ∃ t, exec (.paramCommand src w) s = .next t ∧
        t.curve (natBits w.toNat 47 32) = ((s.curve (natBits w.toNat 47 32)).trim s.computedFrom).put
          { n := s.preparedFrom, v0 := ((s.curve (natBits w.toNat 47 32)).trim s.computedFrom).at s.preparedFrom,
            v1 := sint 32 w.toNat, len := State.entryLen (natBits w.toNat 63 32), shape := natBits w.toNat 62 60, vm := false } ∧
        (∀ k, k ≠ natBits w.toNat 47 32 → t.curve k = s.curve k) ∧
        t = { s with scn := { s.scn with curves := t.scn.curves, cmds := t.scn.cmds } }) ∧
    (∀ n : Nat, State.cmdBad w.toNat = false → s.vmGain (natBits w.toNat 47 32) = false → s.preparing = true →
      natBit w.toNat 64 = false → extend48 (w.toNat / 2 ^ 80) s.frc = n → s.preparedFrom ≤ n → n / s.blockLen ≠ s.blockIx →
      ∃ t, exec (.paramCommand src w) s = .next t ∧
        t = { s with scn := { s.scn with cmds := s.scn.cmds ++ [
          { prm := natBits w.toNat 47 32, n := n, v1 := sint 32 w.toNat, len := State.entryLen (natBits w.toNat 63 32),
            shape := natBits w.toNat 62 60, src := src.toNat }] } })

/-- R236 to R239: a recall is requested by a command or by `SCN_RCL`, disarmed, checked, timed out and applied. Where
the spec leaves a point open the clauses follow the model's choices: log entries 1, 38. -/
def Obligations.RecallCommandsComplete : Prop :=
  ∀ (s : State) (m : Master),
    (∀ (src : BitVec 8) (w : BitVec 128), State.cmdBad w.toNat = false → natBits w.toNat 79 72 = 2 → natBit w.toNat 64 = true →
      s.get F.SCN_RCL_STATE = 0 → s.get F.SYS_ENGINE_STATE = 2 → s.get (F.SCN_DIR1_COUNT (natBits w.toNat 41 32)) ≠ 0 →
      ∃ t, exec (.recallCommand src w) s = .next t ∧ t.get F.SCN_RCL_STATE = 1 ∧ t.get F.SCN_RCL_MASTER = src.toNat ∧
        t.get F.SCN_RCL_STATUS = stOK ∧
        (∃ r, t.scn.rcl = some r ∧ r.now = true ∧ r.scene = natBits w.toNat 41 32 ∧ r.src = src.toNat) ∧
        t = { s with regs := t.regs, scn := { s.scn with rcl := t.scn.rcl } } ∧
        s.KeepsFields t [F.SCN_RCL_STATE, F.SCN_RCL_MASTER, F.SCN_RCL_STATUS]) ∧
    (∀ scene : Fin 1024, s.performs m 0x70000 = true → s.get F.SCN_RCL_STATE = 0 → s.get F.SYS_ENGINE_STATE = 2 →
      s.frc + 2 * s.blockLen ≤ s.pair F.SCN_RCL_FRC_LO_S F.SCN_RCL_FRC_HI_S → s.get (F.SCN_DIR1_COUNT scene) ≠ 0 →
      ∃ t, exec (.recallArm m scene) s = .next t ∧ t.get F.SCN_RCL_STATE = 1 ∧ t.get F.SCN_RCL_MASTER = m.id ∧
        t.get F.SCN_RCL_STATUS = stOK ∧ t.get F.SCN_RCL_SCENE = scene.val ∧
        (∃ r, t.scn.rcl = some r ∧ r.now = false ∧ r.start = s.pair F.SCN_RCL_FRC_LO_S F.SCN_RCL_FRC_HI_S ∧
          r.scene = scene.val) ∧
        t = { s with regs := t.regs, scn := { s.scn with rcl := t.scn.rcl } } ∧
        s.KeepsFields t [F.SCN_RCL_STATE, F.SCN_RCL_MASTER, F.SCN_RCL_STATUS, F.SCN_RCL_SCENE]) ∧
    (∀ scene : Fin 1024, s.performs m 0x70000 = true → s.get F.SCN_RCL_STATE ≠ 0 →
      ∃ t, exec (.recallArm m scene) s = .next t ∧ t.get F.SCN_RCL_STATUS = stBUSY ∧ t.get F.SCN_REFUSE_REASON = 5 ∧
        s.OnlyRegsEv t [F.SCN_RCL_STATUS, F.SCN_REFUSE_REASON, F.SCN_REFUSE_MASTER, F.SCN_REFUSE_INDEX, F.SCN_EVT_EVT]) ∧
    (s.performs m 0x70000 = true →
      ∃ t, exec (.recallDisarm m) s = .next t ∧ t.get F.SCN_RCL_STATE = 0 ∧ t.get F.SCN_RCL_STATUS = stOK ∧
        t.get F.SCN_RAMPS_RSV = 0 ∧ t.scn.rcl = none ∧ t = { s with regs := t.regs, scn := { s.scn with rcl := none } } ∧
        s.KeepsFields t [F.SCN_RCL_STATE, F.SCN_RCL_STATUS, F.SCN_RCL_SCENE, F.SCN_RAMPS_RSV, F.BRM_SWAP_STATE]) ∧
    (∀ (r : Recall) (es : List (Nat × Nat)) (n : Nat), s.scn.rcl = some r → s.get F.SCN_RCL_STATE = 1 →
      s.recallLate r = false → s.checkList r.scene s.rampsFree (s.get (F.SCN_DIR1_COUNT r.scene)) 0 [] [] = .inr (es, n) →
      es.any (fun e => natBit e.1 31) = false →
      ∃ t, exec .recallListChecked s = .next t ∧ t.get F.SCN_RCL_STATE = 2 ∧ t.get F.SCN_RAMPS_RSV = n % 2 ^ 16 ∧
        (∃ r', t.scn.rcl = some r' ∧ r'.entries = es ∧ r'.reserved = n ∧
          r'.start = (if r.now then s.earliest else r.start)) ∧
        t = { s with regs := t.regs, scn := { s.scn with rcl := t.scn.rcl } } ∧
        s.KeepsFields t [F.SCN_RCL_STATE, F.SCN_RAMPS_RSV]) ∧
    (∀ (r : Recall) (reason i : Nat), s.scn.rcl = some r → r.swap = false → s.get F.SCN_RCL_STATE = 1 →
      s.recallLate r = false →
      s.checkList r.scene s.rampsFree (s.get (F.SCN_DIR1_COUNT r.scene)) 0 [] [] = .inl (reason, i) →
      ∃ t, exec .recallListChecked s = .next t ∧ t.get F.SCN_RCL_STATE = 0 ∧
        t.get F.SCN_RCL_STATUS = (if reason = 2 then stREFUSED else stFORMAT) ∧ t.get F.SCN_EVT_EVT / 2 % 2 = 1 ∧
        t = { s with regs := t.regs, toDeliver := t.toDeliver, scn := { s.scn with rcl := none } } ∧
        s.KeepsFields t [F.SCN_RCL_STATE, F.SCN_RCL_STATUS, F.SCN_RAMPS_RSV, F.SCN_REFUSE_REASON, F.SCN_REFUSE_MASTER,
          F.SCN_REFUSE_INDEX, F.SCN_EVT_EVT]) ∧
    (∀ r : Recall, s.scn.rcl = some r → s.get F.SCN_RCL_STATE = 1 → s.recallLate r = true →
      ∃ t, exec .recallTimeout s = .next t ∧ t.get F.SCN_RCL_STATE = 0 ∧ t.get F.SCN_RCL_STATUS = stTIMEOUT ∧
        t.get F.SCN_EVT_EVT / 2 % 2 = 1 ∧
        t = { s with regs := t.regs, toDeliver := t.toDeliver, scn := { s.scn with rcl := none } } ∧
        s.KeepsFields t [F.SCN_RCL_STATE, F.SCN_RCL_STATUS, F.SCN_RAMPS_RSV, F.BRM_SWAP_STATE, F.SCN_EVT_EVT]) ∧
    (∀ r : Recall, s.scn.rcl = some r → s.get F.SCN_RCL_STATE = 2 →
      s.reached (r.start - r.start % s.blockLen) = true →
      ∃ t, exec .recallApply s = .next t ∧ t.get F.SCN_RCL_STATE = 0 ∧ t.get F.SCN_RAMPS_RSV = 0 ∧ t.scn.rcl = none ∧
        t.get F.SCN_EVT_EVT % 2 = 1 ∧
        (∀ e, r.entries = [e] → natBit e.1 31 = false → natBits e.1 30 28 = 0 →
          (t.curve (natBits e.1 15 0)).at r.start = sint 32 e.2) ∧
        t = { s with regs := t.regs, toDeliver := t.toDeliver, scn := t.scn } ∧
        s.KeepsFields t [F.SCN_RCL_STATE, F.SCN_RAMPS_RSV, F.SCN_REFUSE_REASON, F.SCN_REFUSE_MASTER, F.SCN_REFUSE_INDEX,
          F.SCN_EVT_EVT])

/-- R210, R211, R215 to R221: quads are enabled and disabled, NEXT entries written or discarded, swaps armed,
disarmed, performed at their tick and completed, and a crossfade ends with the new source alone. Where the spec leaves
a point open the clauses follow the model's choices: log entries 1, 35, 37, 155. -/
def Obligations.BrambleCommandsComplete : Prop :=
  ∀ (s : State) (m : Master),
    (∀ (q : Fin 512) (w : Word), s.performs m (0x81004 + 8 * q) = true → s.get (F.BRM_QUAD1_EN q) = 0 →
      (s.puts [F.BRM_QUAD1_EN q, F.BRM_QUAD1_DIR q, F.BRM_QUAD1_DEPTH q, F.BRM_QUAD1_PRODUCER q]
        (w ||| 0x80000000).toNat).quadBad q = false →
      ∃ t, exec (.quadEnable m q w) s = .next t ∧ t.get (F.BRM_QUAD1_EN q) = 1 ∧
        t.get (F.BRM_QUAD1_DIR q) = natBits w.toNat 30 30 ∧ t.get (F.BRM_QUAD1_DEPTH q) = natBits w.toNat 29 28 ∧
        t.get (F.BRM_QUAD1_PRODUCER q) = natBits w.toNat 13 0 ∧ t.get F.BRM_SWAP_STATUS = stOK ∧
        s.OnlyRegs t [F.BRM_QUAD1_EN q, F.BRM_QUAD1_DIR q, F.BRM_QUAD1_DEPTH q, F.BRM_QUAD1_PRODUCER q,
          F.BRM_SWAP_STATUS]) ∧
    (∀ (q : Fin 512) (w : Word), s.performs m (0x81004 + 8 * q) = true → s.get (F.BRM_QUAD1_EN q) = 0 →
      (s.puts [F.BRM_QUAD1_EN q, F.BRM_QUAD1_DIR q, F.BRM_QUAD1_DEPTH q, F.BRM_QUAD1_PRODUCER q]
        (w ||| 0x80000000).toNat).quadBad q = true →
      ∃ t, exec (.quadEnable m q w) s = .next t ∧ t.get F.BRM_SWAP_STATUS = stBADARG ∧
        s.OnlyRegs t [F.BRM_SWAP_STATUS]) ∧
    (∀ q : Fin 512, s.performs m (0x81004 + 8 * q) = true → s.get (F.BRM_QUAD1_EN q) ≠ 0 →
      ∃ t, exec (.quadDisable m q) s = .next t ∧ t.get (F.BRM_QUAD1_EN q) = 0 ∧ t.get F.BRM_SWAP_STATUS = stOK ∧
        s.OnlyRegs t [F.BRM_QUAD1_EN q, F.BRM_SWAP_STATUS]) ∧
    (∀ (d : Fin 4096) (w : Word), s.performs m (0x908000 + 8 * d) = true → s.get F.BRM_SWAP_STATE = 0 →
      State.nextBad d w.toNat = false →
      ∃ t, exec (.nextEntryWrite m d w) s = .next t ∧ t.get (F.NEXT_EN d) = natBits w.toNat 31 31 ∧
        t.get (F.NEXT_XS d) = natBits w.toNat 30 29 ∧ t.get (F.NEXT_XLEN d) = natBits w.toNat 26 16 ∧
        t.get (F.NEXT_SRC d) = natBits w.toNat 11 0 ∧ t.get F.BRM_SWAP_STATUS = stOK ∧
        s.OnlyRegs t [F.NEXT_EN d, F.NEXT_XS d, F.NEXT_XLEN d, F.NEXT_SRC d, F.BRM_SWAP_STATUS]) ∧
    (∀ (d : Fin 4096) (w : Word), s.performs m (0x908000 + 8 * d) = true → s.get F.BRM_SWAP_STATE = 0 →
      State.nextBad d w.toNat = true →
      ∃ t, exec (.nextEntryWrite m d w) s = .next t ∧ t.get F.BRM_SWAP_STATUS = stBADARG ∧
        s.OnlyRegs t [F.BRM_SWAP_STATUS]) ∧
    (∀ (d : Fin 4096) (w : Word), s.performs m (0x908000 + 8 * d) = true → s.get F.BRM_SWAP_STATE ≠ 0 →
      ∃ t, exec (.nextEntryWrite m d w) s = .next t ∧ t.get F.BRM_SWAP_STATUS = stBUSY ∧
        s.OnlyRegs t [F.BRM_SWAP_STATUS]) ∧
    (s.performs m 0x80000 = true → s.get F.BRM_SWAP_STATE = 0 →
      s.frc + 2 * s.blockLen ≤ s.pair F.BRM_SWAP_FRC_LO_S F.BRM_SWAP_FRC_HI_S → s.swapFault = none →
      ∃ t, exec (.swapArm m) s = .next t ∧ t.get F.BRM_SWAP_STATE = 1 ∧ t.get F.BRM_SWAP_MASTER = m.id ∧
        t.get I.SWAP_S = s.pair F.BRM_SWAP_FRC_LO_S F.BRM_SWAP_FRC_HI_S % 2 ^ 64 ∧ t.get F.BRM_SWAP_STATUS = stOK ∧
        s.OnlyRegs t [F.BRM_SWAP_STATE, F.BRM_SWAP_MASTER, I.SWAP_S, F.BRM_SWAP_STATUS]) ∧
    (∀ d r : Nat, s.performs m 0x80000 = true → s.get F.BRM_SWAP_STATE = 0 →
      s.frc + 2 * s.blockLen ≤ s.pair F.BRM_SWAP_FRC_LO_S F.BRM_SWAP_FRC_HI_S → s.swapFault = some (d, r) →
      ∃ t, exec (.swapArm m) s = .next t ∧ t.get F.BRM_SWAP_BAD_DEST = d % 2 ^ 12 ∧
        t.get F.BRM_SWAP_BAD_REASON = r % 4 ∧ t.get F.BRM_SWAP_STATUS = stBADARG ∧
        s.OnlyRegs t [F.BRM_SWAP_BAD_DEST, F.BRM_SWAP_BAD_REASON, F.BRM_SWAP_STATUS]) ∧
    (s.performs m 0x80000 = true → s.get F.BRM_SWAP_STATE = 0 →
      s.pair F.BRM_SWAP_FRC_LO_S F.BRM_SWAP_FRC_HI_S < s.frc + 2 * s.blockLen →
      ∃ t, exec (.swapArm m) s = .next t ∧ t.get F.BRM_SWAP_STATUS = stBADARG ∧ s.OnlyRegs t [F.BRM_SWAP_STATUS]) ∧
    (s.performs m 0x80000 = true → s.get F.BRM_SWAP_STATE ≠ 2 →
      ∃ t, exec (.swapDisarm m) s = .next t ∧ t.get F.BRM_SWAP_STATE = 0 ∧ t.get F.BRM_SWAP_STATUS = stOK ∧
        s.OnlyRegs t [F.BRM_SWAP_STATE, F.BRM_SWAP_STATUS]) ∧
    (s.performs m 0x80000 = true → s.get F.BRM_SWAP_STATE = 2 →
      ∃ t, exec (.swapDisarm m) s = .next t ∧ t.get F.BRM_SWAP_STATUS = stBUSY ∧ s.OnlyRegs t [F.BRM_SWAP_STATUS]) ∧
    (s.get F.BRM_SWAP_STATE = 1 → s.reached (s.get I.SWAP_S - s.get I.SWAP_S % s.blockLen) = true →
      ∃ t, exec .swapAtTick s = .next t ∧ t.get F.BRM_SWAP_STATE = 2 ∧ t.get F.BRM_EVT_EVT % 2 = 1 ∧
        (∀ d, t.get (F.LIVE_EN d) = s.get (F.NEXT_EN d) % 2 ∧ t.get (F.LIVE_SRC d) = s.get (F.NEXT_SRC d) % 2 ^ 12 ∧
          t.get (F.LIVE_XS d) = s.get (F.NEXT_XS d) % 4 ∧ t.get (F.LIVE_XLEN d) = s.get (F.NEXT_XLEN d) % 2 ^ 11) ∧
        t = { s with regs := t.regs, toDeliver := t.toDeliver, routes := t.routes } ∧
        s.KeepsNames t [F.LIVE_EN 0, F.LIVE_XS 0, F.LIVE_XLEN 0, F.LIVE_SRC 0, F.BRM_SWAP_STATE, I.SWAP_F, F.BRM_EVT_EVT]) ∧
    (s.get F.BRM_SWAP_STATE = 2 → s.get I.SWAP_F + 3 * s.blockLen ≤ s.frc →
      ∃ t, exec .swapComplete s = .next t ∧ t.get F.BRM_SWAP_STATE = 0 ∧ t.get F.BRM_EVT_EVT / 2 % 2 = 1 ∧
        t.get F.BRM_SWAPCNT_N = (s.get F.BRM_SWAPCNT_N + 1) % 2 ^ 32 ∧
        (∀ d, t.get (F.NEXT_EN d) = s.get (F.LIVE_EN d) % 2 ∧ t.get (F.NEXT_SRC d) = s.get (F.LIVE_SRC d) % 2 ^ 12 ∧
          t.get (F.NEXT_XS d) = s.get (F.LIVE_XS d) % 4 ∧ t.get (F.NEXT_XLEN d) = s.get (F.LIVE_XLEN d) % 2 ^ 11) ∧
        t = { s with regs := t.regs, toDeliver := t.toDeliver } ∧
        s.KeepsNames t [F.NEXT_EN 0, F.NEXT_XS 0, F.NEXT_XLEN 0, F.NEXT_SRC 0, F.BRM_SWAP_STATE, F.BRM_SWAPCNT_N,
          F.BRM_EVT_EVT]) ∧
    (∀ (d : Fin 4096) (c : Contrib), (s.route d).fade.isSome = true → s.xrem d = 0 → (s.route d).cs.getLast? = some c →
      ∃ t, exec (.crossfadeEnd d) s = .next t ∧ (t.route d).fade = none ∧ (t.route d).cs = [c] ∧
        (t.route d).change = (s.route d).change ∧ (∀ k : Fin 4096, k ≠ d → t.route k = s.route k) ∧
        t = { s with routes := t.routes })

/-- R250 to R255, R261, R264, R266, R38: ownership of a bank is handed over, or refused; an owner group's members; the
DRAM controller starts, trains, fails and stops. Where the spec leaves a point open the clauses follow the model's
choices: log entries 1, 32, 98, 160. -/
def Obligations.OrchardAndDramCommandsComplete : Prop :=
  ∀ (s : State) (m : Master),
    (∀ (n : Fin 64) (o : BitVec 8), s.performs m (0x28000 + 4 * n) = true → s.mayHandOver m n = true →
      s.get (F.ORC_OWN_PENDING n) = 0 → ownerValid o.toNat = true → o.toNat ≠ s.get (F.ORC_OWN_OWNER n) →
      ∃ t, exec (.orcOwnWrite m n o) s = .next t ∧ t.get (F.ORC_OWN_OWNER n) = o.toNat ∧
        t.get (F.ORC_OWN_PREV n) = s.get (F.ORC_OWN_OWNER n) % 256 ∧ t.get (F.ORC_OWN_PENDING n) = 1 ∧
        t.get F.ORC_STAT_STATUS = stOK ∧
        s.OnlyRegs t [F.ORC_OWN_OWNER n, F.ORC_OWN_PREV n, F.ORC_OWN_PENDING n, F.ORC_STAT_STATUS]) ∧
    (∀ (n : Fin 64) (o : BitVec 8), s.performs m (0x28000 + 4 * n) = true → s.mayHandOver m n = false →
      ∃ t, exec (.orcOwnWrite m n o) s = .next t ∧ t.get F.ORC_STAT_STATUS = stREFUSED ∧
        s.OnlyRegs t [F.ORC_STAT_STATUS]) ∧
    (∀ n : Fin 64, s.get (F.ORC_OWN_PENDING n) ≠ 0 →
      ∃ t, exec (.handoverDrainComplete n) s = .next t ∧ t.get (F.ORC_OWN_PENDING n) = 0 ∧ t.get (F.ORC_OWN_PREV n) = 0 ∧
        t.get F.PRT_EVT_EVT / 16 % 2 = 1 ∧
        s.OnlyRegsEv t [F.ORC_OWN_PENDING n, F.ORC_OWN_PREV n, F.PRT_EVT_EVT]) ∧
    (∀ (g : Fin 32) (w : Word), s.performs m (0x28200 + 16 * g) = true → s.groupOwns g = false →
      ∃ t, exec (.ownerGroupWrite m g 0 w) s = .next t ∧ t.get (F.ORC_GRP_LO_M g) = w.toNat ∧
        t.get F.ORC_STAT_STATUS = stOK ∧ s.OnlyRegs t [F.ORC_GRP_LO_M g, F.ORC_STAT_STATUS]) ∧
    (∀ (g : Fin 32) (w : Word), s.performs m (0x28200 + 16 * g + 4) = true → s.groupOwns g = false →
      ∃ t, exec (.ownerGroupWrite m g 1 w) s = .next t ∧ t.get (F.ORC_GRP_HI_M g) = w.toNat ∧
        t.get F.ORC_STAT_STATUS = stOK ∧ s.OnlyRegs t [F.ORC_GRP_HI_M g, F.ORC_STAT_STATUS]) ∧
    (∀ (g : Fin 32) (w : Word), s.performs m (0x28200 + 16 * g) = true → s.groupOwns g = true →
      s.get (F.ORC_GRP_LO_M g) &&& w.toNat ≠ s.get (F.ORC_GRP_LO_M g) → s.get (F.ORC_GRP_LO_M g) < 2 ^ 32 →
      ∃ t, exec (.ownerGroupWrite m g 0 w) s = .next t ∧ t.get F.ORC_STAT_STATUS = stREFUSED ∧
        s.OnlyRegs t [F.ORC_STAT_STATUS]) ∧
    (s.performs m 0x120000 = true → s.get F.DMC_CTRL_EN = 0 → s.get F.DMC_STAT_STATE = unitOFF →
      ∃ t, exec (.dmcEnable m) s = .next t ∧ t.get F.DMC_CTRL_EN = 1 ∧ t.get F.DMC_STAT_STATE = unitSTARTING ∧
        t.get F.DMC_STAT_STATUS = stOK ∧ s.OnlyRegs t [F.DMC_CTRL_EN, F.DMC_STAT_STATE, F.DMC_STAT_STATUS]) ∧
    (s.performs m 0x120000 = true → s.get F.DMC_CTRL_EN ≠ 0 →
      s.get F.DMC_STAT_STATE = unitSTARTING ∨ s.get F.DMC_STAT_STATE = unitON →
      ∃ t, exec (.dmcDisable m) s = .next t ∧ t.get F.DMC_CTRL_EN = 0 ∧ t.get F.DMC_STAT_STATE = unitSHUTTING ∧
        t.get F.DMC_STAT_SIZE = 0 ∧ t.get F.DMC_STAT_STATUS = stOK ∧
        s.OnlyRegs t [F.DMC_CTRL_EN, F.DMC_STAT_STATE, F.DMC_STAT_SIZE, F.DMC_STAT_STATUS]) ∧
    (s.get F.DMC_STAT_STATE = unitSTARTING →
      ∃ t, exec .dmcTrainingComplete s = .next t ∧ t.get F.DMC_STAT_STATE = unitON ∧
        t.get F.DMC_STAT_SIZE = s.dmcMiB % 2 ^ 16 ∧ t.get F.DMC_STAT_STATUS = stOK ∧ t.get F.DMC_EVT_EVT % 2 = 1 ∧
        s.OnlyRegsEv t [F.DMC_STAT_STATE, F.DMC_STAT_SIZE, F.DMC_STAT_STATUS, F.DMC_EVT_EVT]) ∧
    (s.get F.DMC_STAT_STATE = unitSTARTING →
      ∃ t, exec .dmcTrainingFailed s = .next t ∧ t.get F.DMC_STAT_STATE = unitOFF ∧
        t.get F.DMC_STAT_STATUS = stTIMEOUT ∧ t.get F.DMC_EVT_EVT / 2 % 2 = 1 ∧
        s.OnlyRegsEv t [F.DMC_STAT_STATE, F.DMC_STAT_STATUS, F.DMC_EVT_EVT]) ∧
    (s.get F.DMC_STAT_STATE = unitSHUTTING → s.get F.DMC_CTRL_EN = 0 →
      ∃ t, exec .dmcShutdownComplete s = .next t ∧ t.get F.DMC_STAT_STATE = unitOFF ∧
        s.OnlyRegs t [F.DMC_STAT_STATE])

/-- R267 to R281: a port is enabled with its claims, refused, disabled, comes ON, shuts down, counts framing errors
and slips, loses its clock and gets it back; its masks are written and applied; a start group is armed, disarmed and
starts. Where the spec leaves a point open the clauses follow the model's choices: log entries 1, 41, 42, 155. -/
def Obligations.PortCommandsComplete : Prop :=
  ∀ (s : State) (m : Master) (n : Fin 32),
    (s.performs m (0x90000 + 0x400 * n) = true → s.get (F.AP_CTRL_EN n) = 0 → s.get (F.AP_CTRL_STATE n) = unitOFF →
      s.apBad n = false →
      s.claimBar (fidPort n) (s.apNeeds n (s.get (F.AP_IMASK_M n)) (s.get (F.AP_OMASK_M n))) = none →
      ∃ t, exec (.portEnable m n) s = .next t ∧ t.get (F.AP_CTRL_EN n) = 1 ∧ t.get (F.AP_CTRL_STATE n) = unitSTARTING ∧
        t.get (F.AP_CTRL_STATUS n) = stOK ∧ t.get (F.AP_STAT_CLKLOSS n) = 0 ∧
        t.get (F.AP_STAT_GWAIT n) = s.get (F.AP_CFG_GRPEN n) % 2 ∧
        (s.get (F.AP_CFG_MASTER n) ≠ 0 → t.get (F.AP_FRATE_R n) = s.apRate n * s.apBase * 100 % 2 ^ 32 ∧
          t.get (F.AP_STAT_FLENM n) = s.get (F.AP_FRAME_FLEN n) % 2 ^ 12) ∧
        (∀ k ∈ s.apNeeds n (s.get (F.AP_IMASK_M n)) (s.get (F.AP_OMASK_M n)),
          t.get (F.SYS_CLAIM_OWNER k) = fidPort n % 2 ^ 16) ∧
        t = { s with regs := t.regs, toDeliver := t.toDeliver, free := t.free } ∧
        s.KeepsNames t (F.AP_CTRL_EN 0 :: F.SYS_CLAIM_OWNER 0 :: (State.portStart 0 ++ State.asrcNames))) ∧
    (s.performs m (0x90000 + 0x400 * n) = true → s.get (F.AP_CTRL_EN n) = 0 → s.get (F.AP_CTRL_STATE n) = unitOFF →
      s.apBad n = true →
      ∃ t, exec (.portEnable m n) s = .next t ∧ t.get (F.AP_CTRL_STATUS n) = stBADARG ∧
        s.OnlyRegs t [F.AP_CTRL_STATUS n]) ∧
    (s.performs m (0x90000 + 0x400 * n) = true → s.get (F.AP_CTRL_EN n) ≠ 0 → s.get (F.AP_CTRL_STATE n) = unitSTARTING →
      ∃ t, exec (.portDisable m n) s = .next t ∧ t.get (F.AP_CTRL_EN n) = 0 ∧ t.get (F.AP_CTRL_STATE n) = unitSHUTTING ∧
        t.get (F.AP_CTRL_STATUS n) = stOK ∧ t.get (F.AP_STAT_GWAIT n) = 0 ∧ t.get (I.AP_FRM n) = 0 ∧
        (∀ c ∈ s.asrcOf (fidPort n), t.get (I.ASRC_EN c) = 0) ∧
        t = { s with regs := t.regs, toDeliver := t.toDeliver } ∧
        s.KeepsNames t ([F.AP_CTRL_EN 0, F.AP_CTRL_STATE 0, F.AP_CTRL_STATUS 0, F.AP_STAT_GWAIT 0, I.AP_JOIN 0, I.AP_FRM 0,
          I.AP_STOP 0, I.ASRC_EN 0, F.ASRC_CH_STATE 0, I.ASRC_ACC 0, F.CLK_REFPRI_QUAL 0] ++ State.lostNames)) ∧
    (s.performs m (0x90000 + 0x400 * n) = true → s.get (F.AP_CTRL_EN n) ≠ 0 → s.get (F.AP_CTRL_STATE n) = unitON →
      ∃ t, exec (.portDisable m n) s = .next t ∧ t.get (F.AP_CTRL_EN n) = 0 ∧ t.get (F.AP_CTRL_STATE n) = unitON ∧
        t.get (I.AP_STOP n) = 1 ∧ t.get (F.AP_CTRL_STATUS n) = stOK ∧
        s.OnlyRegs t [F.AP_CTRL_EN n, I.AP_STOP n, F.AP_CTRL_STATUS n]) ∧
    (s.get (F.AP_CTRL_STATE n) = unitSTARTING → s.apLed n = true → s.get (F.AP_STAT_CLKLOSS n) = 0 →
      ∃ t, exec (.portOn n) s = .next t ∧ t.get (F.AP_CTRL_STATE n) = unitON ∧ t.get (F.AP_STAT_GWAIT n) = 0 ∧
        t.get (F.AP_EVT_EVT n) % 2 = 1 ∧
        s.OnlyRegsEv t [F.AP_CTRL_STATE n, F.AP_STAT_GWAIT n, I.AP_JOIN n, I.AP_ONEW n, F.AP_EVT_EVT n]) ∧
    (s.get (F.AP_CTRL_STATE n) = unitSHUTTING → s.get (F.AP_CTRL_EN n) = 0 → s.apTailed n = true →
      ∃ t, exec (.portShutdownComplete n) s = .next t ∧ t.get (F.AP_CTRL_STATE n) = unitOFF ∧
        t.get (F.AP_EVT_EVT n) / 2 % 2 = 1 ∧
        (∀ k ∈ [n.val, 32 + n.val, 64 + n.val, 96 + n.val], t.get (F.SYS_CLAIM_OWNER k) ≠ fidPort n) ∧
        t.get (I.AP_IMASK n) = s.get (F.AP_IMASK_M n) % 2 ^ 32 ∧ t.get (I.AP_OMASK n) = s.get (F.AP_OMASK_M n) % 2 ^ 32 ∧
        t = { s with regs := t.regs, toDeliver := t.toDeliver } ∧
        s.KeepsNames t ([F.AP_CTRL_STATE 0, F.AP_EVT_EVT 0, I.AP_IMASK 0, I.AP_OMASK 0, F.AP_STAT_MPEND 0,
          I.AP_MRDY 0, F.SYS_CLAIM_OWNER 0] ++ State.asrcNames)) ∧
    (s.get (F.AP_CFG_MASTER n) = 0 → s.get (F.AP_CTRL_STATE n) ≠ unitOFF →
      s.get (I.AP_FERR n) < 3 ∨ s.get (F.AP_STAT_CLKLOSS n) ≠ 0 →
      ∃ t, exec (.portFramingError n) s = .next t ∧
        t.get (F.AP_CNT_FRAMEERR n) = min (s.get (F.AP_CNT_FRAMEERR n) + 1) (2 ^ 16 - 1) ∧
        t.get (F.AP_EVT_EVT n) / 32 % 2 = 1 ∧
        s.OnlyRegsEv t [F.AP_CNT_FRAMEERR n, F.AP_EVT_EVT n, I.AP_ZERO n, I.AP_FBAD n, I.AP_ACC n, I.AP_FERR n]) ∧
    (s.get (F.AP_CFG_MASTER n) = 0 → s.get (F.AP_CTRL_STATE n) ≠ unitOFF → 3 ≤ s.get (I.AP_FERR n) →
      s.get (F.AP_STAT_CLKLOSS n) = 0 →
      ∃ t, exec (.portFramingError n) s = .next t ∧ t.get (F.AP_STAT_CLKLOSS n) = 1 ∧ t.get (F.AP_STAT_RATEERR n) = 0 ∧
        t.get (F.AP_CNT_FRAMEERR n) = min (s.get (F.AP_CNT_FRAMEERR n) + 1) (2 ^ 16 - 1) ∧
        t.get (F.AP_EVT_EVT n) / 32 % 2 = 1 ∧ t.get (F.AP_EVT_EVT n) / 4 % 2 = 1 ∧
        t = { s with regs := t.regs, toDeliver := t.toDeliver } ∧
        s.KeepsNames t ([F.AP_CNT_FRAMEERR 0, F.AP_EVT_EVT 0, I.AP_ZERO 0, I.AP_FBAD 0, I.AP_ACC 0, I.AP_FERR 0,
          F.AP_STAT_CLKLOSS 0, F.AP_STAT_RATEERR 0, F.ASRC_CH_FREEW 0, F.ASRC_EVT_EVT] ++ State.lostNames)) ∧
    (∀ again : Bool, s.get (F.AP_CFG_MASTER n) = 0 → s.get (F.AP_CTRL_STATE n) ≠ unitOFF → s.get (F.AP_CFG_PATH n) = 0 →
      ∃ t, exec (.portSlip ⟨n, again⟩) s = .next t ∧
        t.get (F.AP_CNT_SLIP n) = min (s.get (F.AP_CNT_SLIP n) + 1) (2 ^ 16 - 1) ∧
        t.get (F.AP_EVT_EVT n) / 16 % 2 = 1 ∧
        (again = false → t.get (I.AP_REP n) = s.get (I.AP_REP n)) ∧
        (again = true → t.get (I.AP_REP n) = (s.frc + 1) % 2 ^ 64) ∧
        s.OnlyRegsEv t [F.AP_CNT_SLIP n, F.AP_EVT_EVT n, I.AP_REP n]) ∧
    (∀ b : Bool, s.get (F.AP_CFG_MASTER n) = 0 → s.get (F.AP_CTRL_STATE n) ≠ unitOFF → s.get (F.AP_STAT_CLKLOSS n) = 0 →
      (b = true → s.get (F.AP_CFG_PATH n) = 0) →
      ∃ t, exec (.portClockLost n b) s = .next t ∧ t.get (F.AP_STAT_CLKLOSS n) = 1 ∧ t.get (F.AP_STAT_RATEERR n) = b2n b ∧
        t.get (F.AP_EVT_EVT n) / 4 % 2 = 1 ∧ (∀ c ∈ s.asrcOf (fidPort n), t.get (F.ASRC_CH_FREEW c) ≠ 0) ∧
        t = { s with regs := t.regs, toDeliver := t.toDeliver, free := t.free } ∧
        s.KeepsNames t ([F.AP_STAT_CLKLOSS 0, F.AP_STAT_RATEERR 0, F.AP_FRATE_R 0, F.AP_EVT_EVT 0, F.ASRC_CH_FREEW 0,
          F.ASRC_EVT_EVT] ++ State.lostNames)) ∧
    (s.get (F.AP_STAT_CLKLOSS n) ≠ 0 →
      ∃ t, exec (.portClockReturn n) s = .next t ∧ t.get (F.AP_STAT_CLKLOSS n) = 0 ∧ t.get (F.AP_STAT_RATEERR n) = 0 ∧
        t.get (F.AP_EVT_EVT n) / 8 % 2 = 1 ∧ (∀ c ∈ s.asrcOf (fidPort n), t.get (F.ASRC_CH_FREEW c) = 0) ∧
        t = { s with regs := t.regs, toDeliver := t.toDeliver } ∧
        s.KeepsNames t [F.AP_STAT_CLKLOSS 0, F.AP_STAT_RATEERR 0, I.AP_FERR 0, I.AP_FBAD 0, F.AP_EVT_EVT 0,
          F.ASRC_CH_FREEW 0]) ∧
    (∀ (b : Bool) (w : Word), s.performs m (0x9000C + 0x400 * n + 4 * b2n b) = true → s.get (F.AP_CTRL_STATE n) = unitOFF →
      ∃ t, exec (.maskWrite m n b w) s = .next t ∧ t.get (State.apMaskFld n b) = w.toNat ∧
        t.get (if b then I.AP_OMASK n else I.AP_IMASK n) = w.toNat ∧ t.get (F.AP_CTRL_STATUS n) = stOK ∧
        s.OnlyRegs t [State.apMaskFld n b, I.AP_IMASK n, I.AP_OMASK n, F.AP_STAT_MPEND n, I.AP_MRDY n,
          F.AP_CTRL_STATUS n]) ∧
    (∀ (b : Bool) (w : Word), s.performs m (0x9000C + 0x400 * n + 4 * b2n b) = true → s.get (F.AP_CTRL_STATE n) = unitON →
      s.get (F.AP_CFG_PATH n) = 0 → s.get (F.SYS_CLAIM_OWNER (if b then 96 + n else 64 + n)) = 0 →
      ∃ t, exec (.maskWrite m n b w) s = .next t ∧ t.get (State.apMaskFld n b) = w.toNat ∧
        t.get (F.AP_STAT_MPEND n) = 1 ∧ t.get (F.AP_CTRL_STATUS n) = stOK ∧
        (w ≠ 0 → t.get (F.SYS_CLAIM_OWNER (if b then 96 + n else 64 + n)) = fidPort n % 2 ^ 16) ∧
        s.OnlyRegs t [State.apMaskFld n b, F.AP_STAT_MPEND n, I.AP_MRDY n, F.AP_CTRL_STATUS n,
          F.SYS_CLAIM_OWNER (if b then 96 + n else 64 + n)]) ∧
    (s.get (F.AP_STAT_MPEND n) ≠ 0 → s.get (I.AP_MRDY n) ≠ 0 → s.get (F.AP_CTRL_STATE n) = unitON →
      ∃ t, exec (.maskApply n) s = .next t ∧ t.get (F.AP_STAT_MPEND n) = 0 ∧
        t.get (I.AP_IMASK n) = s.get (F.AP_IMASK_M n) % 2 ^ 32 ∧ t.get (I.AP_OMASK n) = s.get (F.AP_OMASK_M n) % 2 ^ 32 ∧
        (∀ b : Fin 32, natBit (t.get (I.AP_ONEW n)) b =
          (natBit (s.get (F.AP_OMASK_M n)) b && !natBit (s.get (I.AP_OMASK n)) b)) ∧
        t = { s with regs := t.regs, toDeliver := t.toDeliver } ∧
        s.KeepsNames t ([I.AP_IMASK 0, I.AP_OMASK 0, I.AP_ONEW 0, I.AP_MRDY 0, F.AP_STAT_MPEND 0, F.SYS_CLAIM_OWNER 0] ++
          State.asrcNames ++ State.lostNames)) ∧
    (∀ g : Fin 8, s.performs m (0x98000 + 16 * g) = true → s.get (F.AP_GRP_STATE g) = 0 →
      s.frc + 1024 + 2 * s.blockLen ≤ s.apGroupS g →
      ∃ t, exec (.portGroupArm m g) s = .next t ∧ t.get (F.AP_GRP_STATE g) = 1 ∧ t.get (F.AP_GRP_STATUS g) = stOK ∧
        t.get (I.AP_GS g) = s.apGroupS g % 2 ^ 64 ∧ (∀ k ∈ s.apWaiting g, t.get (I.AP_JOIN k) = 1) ∧
        s.OnlyRegs t ([F.AP_GRP_STATE g, F.AP_GRP_STATUS g, I.AP_GS g] ++ (s.apWaiting g).map I.AP_JOIN)) ∧
    (∀ g : Fin 8, s.performs m (0x98000 + 16 * g) = true → s.get (F.AP_GRP_STATE g) ≠ 0 →
      ∃ t, exec (.portGroupArm m g) s = .next t ∧ t.get (F.AP_GRP_STATUS g) = stBUSY ∧
        s.OnlyRegs t [F.AP_GRP_STATUS g]) ∧
    (∀ g : Fin 8, s.performs m (0x98000 + 16 * g) = true →
      ∃ t, exec (.portGroupDisarm m g) s = .next t ∧ t.get (F.AP_GRP_STATE g) = 0 ∧ t.get (F.AP_GRP_STATUS g) = stOK ∧
        (s.get (F.AP_GRP_STATE g) ≠ 0 → ∀ k ∈ s.apJoined g, t.get (I.AP_JOIN k) = 0 ∧ t.get (F.AP_STAT_GWAIT k) = 1) ∧
        s.OnlyRegs t ([F.AP_GRP_STATE g, F.AP_GRP_STATUS g] ++ (s.apJoined g).map I.AP_JOIN ++
          (s.apJoined g).map F.AP_STAT_GWAIT ++ (s.apJoined g).map I.AP_FRM)) ∧
    (∀ g : Fin 8, s.get (F.AP_GRP_STATE g) ≠ 0 → s.get (I.AP_GS g) ≤ s.frc →
      ∃ t, exec (.portGroupStart g) s = .next t ∧ t.get (F.AP_GRP_STATE g) = 0 ∧
        (∀ k ∈ s.apJoined g, t.get (I.AP_JOIN k) = 0 ∧ t.get (F.AP_STAT_GWAIT k) = 0) ∧
        s.OnlyRegs t ([F.AP_GRP_STATE g] ++ (s.apJoined g).map I.AP_JOIN ++ (s.apJoined g).map F.AP_STAT_GWAIT ++
          (s.apJoined g).map I.AP_FRM))

/-- R283 to R286: ASRC channels lock, come ON, fade out to OFF, and freewheel while their ratio is out of range. Where
the spec leaves a point open the clauses follow the model's choices: log entries 1, 156. -/
def Obligations.AsrcCommandsComplete : Prop :=
  ∀ (s : State) (c : Fin 512),
    (∀ (k : Fin 48) (ratio : Word), s.trackerRuns k = true →
      ∃ t, exec (.asrcLock k ratio) s = .next t ∧ t.get (I.TRK_LOCK k) = 1 ∧
        (∀ x ∈ s.asrcOf (State.trackerFid k), t.get (F.ASRC_CH_LOCK x) = 1 ∧ t.get (F.ASRC_RATIO_R x) = ratio.toNat) ∧
        t.get F.ASRC_EVT_EVT % 2 = 1 ∧
        s.OnlyRegsEv t (s.chFields (State.trackerFid k) F.ASRC_CH_LOCK ++ s.chFields (State.trackerFid k) F.ASRC_RATIO_R ++
          [I.TRK_LOCK k, I.TRK_RATIO k, F.ASRC_EVT_EVT])) ∧
    (s.get (F.ASRC_CH_STATE c) = unitSTARTING → s.get (F.ASRC_CH_LOCK c) ≠ 0 →
      ∃ t, exec (.asrcChannelOn c) s = .next t ∧ t.get (F.ASRC_CH_STATE c) = unitON ∧
        s.OnlyRegs t [F.ASRC_CH_STATE c]) ∧
    (s.get (F.ASRC_CH_STATE c) = unitSHUTTING → s.get (I.ASRC_EN c) = 0 → s.get (F.ASRC_CH_OWNER c) ≠ 0 →
      s.get (I.ASRC_ATT c) = 64 →
      ∃ t, exec (.asrcChannelOff c) s = .next t ∧ t.get (F.ASRC_CH_STATE c) = unitOFF ∧ t.get (F.ASRC_CH_OWNER c) = 0 ∧
        t.get (F.ASRC_CH_LOCK c) = 0 ∧ t.get (F.ASRC_RATIO_R c) = 0 ∧
        t.get (F.SYS_CLAIM_OWNER (s.asrcSlot c)) ≠ s.get (F.ASRC_CH_OWNER c) ∧
        s.OnlyRegs t [F.ASRC_CH_STATE c, F.ASRC_CH_OWNER c, F.ASRC_CH_LOCK c, F.ASRC_RATIO_R c, F.ASRC_CH_FREEW c,
          F.ASRC_CH_RANGE c, F.SYS_CLAIM_OWNER (s.asrcSlot c)]) ∧
    (s.get (F.ASRC_CH_STATE c) = unitON → s.get (F.ASRC_CH_RANGE c) = 0 →
      ∃ t, exec (.asrcRangeError c) s = .next t ∧ t.get (F.ASRC_CH_RANGE c) = 1 ∧ t.get F.ASRC_EVT_EVT / 4 % 2 = 1 ∧
        s.OnlyRegsEv t [F.ASRC_CH_RANGE c, F.ASRC_EVT_EVT]) ∧
    (s.get (F.ASRC_CH_STATE c) = unitON → s.get (F.ASRC_CH_RANGE c) ≠ 0 →
      ∃ t, exec (.asrcRangeReturn c) s = .next t ∧ t.get (F.ASRC_CH_RANGE c) = 0 ∧ s.OnlyRegs t [F.ASRC_CH_RANGE c])

/-- R289 to R296: AES3 receivers and transmitters are enabled with their claims and disabled, lock and unlock, store
their channel status, count errors, and take staged sets at a Z preamble. Where the spec leaves a point open the
clauses follow the model's choices: log entries 1, 40, 157. -/
def Obligations.AesCommandsComplete : Prop :=
  ∀ (s : State) (m : Master) (r : Fin 8),
    (s.performs m (0xB0000 + 0x100 * r) = true → s.get (F.AES_RXCTRL_EN r) = 0 → s.get (F.AES_RXCFG_PATH r) = 0 →
      s.get (F.SYS_CLAIM_OWNER (aesInSlot r)) = 0 →
      ∃ t, exec (.aesRxEnable m r) s = .next t ∧ t.get (F.AES_RXCTRL_EN r) = 1 ∧ t.get (F.AES_RXCTRL_STATE r) = unitON ∧
        t.get (F.AES_RXCTRL_STATUS r) = stOK ∧ t.get (F.SYS_CLAIM_OWNER (aesInSlot r)) = fidAesRx r ∧
        s.OnlyRegs t [F.AES_RXCTRL_EN r, F.AES_RXCTRL_STATE r, F.AES_RXCTRL_STATUS r, F.SYS_CLAIM_OWNER (aesInSlot r)]) ∧
    (s.performs m (0xB0000 + 0x100 * r) = true → s.get (F.AES_RXCTRL_EN r) ≠ 0 →
      ∃ t, exec (.aesRxDisable m r) s = .next t ∧ t.get (F.AES_RXCTRL_EN r) = 0 ∧ t.get (F.AES_RXCTRL_STATE r) = unitOFF ∧
        t.get (F.AES_RXSTAT_LOCK r) = 0 ∧ t.get (F.AES_RXCTRL_STATUS r) = stOK ∧
        t.get (F.SYS_CLAIM_OWNER (aesInSlot r)) ≠ fidAesRx r ∧
        (s.get (F.AES_RXSTAT_LOCK r) ≠ 0 → t.get (F.AES_RXEVT_EVT r) / 2 % 2 = 1) ∧
        t = { s with regs := t.regs, toDeliver := t.toDeliver } ∧
        s.KeepsNames t ([F.AES_RXCTRL_EN 0, F.AES_RXCTRL_STATE 0, F.AES_RXSTAT_LOCK 0, F.AES_RXCTRL_STATUS 0,
          F.AES_RXEVT_EVT 0, F.SYS_CLAIM_OWNER 0, I.ASRC_EN 0, F.ASRC_CH_STATE 0, I.ASRC_ACC 0, F.ASRC_CH_FREEW 0,
          F.ASRC_EVT_EVT, I.TRK_LOCK 0, F.CLK_REFPRI_QUAL 0] ++ State.lostNames)) ∧
    (∀ nom : Fin 5, s.get (F.AES_RXCTRL_STATE r) = unitON → s.get (F.AES_RXSTAT_LOCK r) = 0 →
      ∃ t, exec (.aesRxLock r nom) s = .next t ∧ t.get (F.AES_RXSTAT_LOCK r) = 1 ∧ t.get (F.AES_RXSTAT_NOM r) = nom.val ∧
        t.get (F.AES_RXEVT_EVT r) % 2 = 1 ∧ (∀ c ∈ s.asrcOf (fidAesRx r), t.get (F.ASRC_CH_FREEW c) = 0) ∧
        (∀ k ∈ s.txFollowing r, ∀ c ∈ s.asrcOf (fidAesTx k), t.get (F.ASRC_CH_FREEW c) = 0) ∧
        t = { s with regs := t.regs, toDeliver := t.toDeliver, free := t.free } ∧
        s.KeepsNames t [F.AES_RXSTAT_LOCK 0, F.AES_RXSTAT_NOM 0, F.AES_RXEVT_EVT 0, I.RX_RATE 0, F.ASRC_CH_FREEW 0]) ∧
    (s.get (F.AES_RXSTAT_LOCK r) ≠ 0 →
      ∃ t, exec (.aesRxUnlock r) s = .next t ∧ t.get (F.AES_RXSTAT_LOCK r) = 0 ∧ t.get (F.AES_RXEVT_EVT r) / 2 % 2 = 1 ∧
        (∀ c ∈ s.asrcOf (fidAesRx r), t.get (F.ASRC_CH_FREEW c) ≠ 0) ∧
        (∀ k ∈ s.txFollowing r, ∀ c ∈ s.asrcOf (fidAesTx k), t.get (F.ASRC_CH_FREEW c) ≠ 0) ∧
        t = { s with regs := t.regs, toDeliver := t.toDeliver } ∧
        s.KeepsNames t ([F.AES_RXSTAT_LOCK 0, F.AES_RXEVT_EVT 0, F.ASRC_CH_FREEW 0, F.ASRC_EVT_EVT, F.CLK_REFPRI_QUAL 0] ++
          State.lostNames)) ∧
    (∀ (u : Fin 2) (cs us : BitVec 192), s.get (F.AES_RXSTAT_LOCK r) ≠ 0 →
      ∃ t, exec (.aesBlockStored r u 192 cs us) s = .next t ∧
        (∀ k : Fin 6, t.get (if u = 0 then F.AES_RXCS0_W r k else F.AES_RXCS1_W r k) = natBits cs.toNat (32 * k + 31) (32 * k) ∧
          t.get (if u = 0 then F.AES_RXU0_W r k else F.AES_RXU1_W r k) = natBits us.toNat (32 * k + 31) (32 * k)) ∧
        t.get (F.AES_RXSTAT_PRO r) / 2 ^ u.val % 2 = cs.toNat % 2 ∧ t.get (F.AES_RXEVT_EVT r) / 4 % 2 = 1 ∧
        t = { s with regs := t.regs, toDeliver := t.toDeliver } ∧
        s.KeepsNames t [F.AES_RXCS0_W 0 0, F.AES_RXCS1_W 0 0, F.AES_RXU0_W 0 0, F.AES_RXU1_W 0 0, F.AES_RXSTAT_PRO 0,
          F.AES_RXSTAT_CRCERR 0, F.AES_RXEVT_EVT 0, F.AES_RXCNT_BLKERR 0]) ∧
    (∀ (u : Fin 2) (len : Nat) (cs us : BitVec 192), s.get (F.AES_RXSTAT_LOCK r) ≠ 0 → len ≠ 192 →
      ∃ t, exec (.aesBlockStored r u len cs us) s = .next t ∧
        t.get (F.AES_RXCNT_BLKERR r) = min (s.get (F.AES_RXCNT_BLKERR r) + 1) (2 ^ 16 - 1) ∧
        s.OnlyRegs t [F.AES_RXCNT_BLKERR r]) ∧
    (∀ u : Fin 2, s.get (F.AES_RXSTAT_LOCK r) ≠ 0 →
      ∃ t, exec (.aesSubframeParityError r u) s = .next t ∧
        t.get (F.AES_RXCNT_PERR r) = min (s.get (F.AES_RXCNT_PERR r) + 1) (2 ^ 16 - 1) ∧
        t.get (I.AES_REP (2 * r + u)) = (s.frc + 1) % 2 ^ 64 ∧
        s.OnlyRegs t [F.AES_RXCNT_PERR r, I.AES_REP (2 * r + u)]) ∧
    (s.performs m (0xB1000 + 0x100 * r) = true → s.get (F.AES_TXCTRL_EN r) = 0 → s.get (F.AES_TXCTRL_STATE r) = unitOFF →
      s.txBad r = false → s.get (F.AES_TXCFG_PATH r) = 0 → s.get (F.SYS_CLAIM_OWNER (aesOutSlot r)) = 0 →
      ∃ t, exec (.aesTxEnable m r) s = .next t ∧ t.get (F.AES_TXCTRL_EN r) = 1 ∧
        t.get (F.AES_TXCTRL_STATE r) = unitSTARTING ∧ t.get (F.AES_TXCTRL_STATUS r) = stOK ∧
        t.get (F.SYS_CLAIM_OWNER (aesOutSlot r)) = fidAesTx r ∧
        s.OnlyRegs t [F.AES_TXCTRL_EN r, F.AES_TXCTRL_STATE r, F.AES_TXCTRL_STATUS r, F.SYS_CLAIM_OWNER (aesOutSlot r),
          I.TX_FRM r, I.TX_ACC r, I.TX_ZAT r, I.TX_HIZ r]) ∧
    (s.performs m (0xB1000 + 0x100 * r) = true → s.get (F.AES_TXCTRL_EN r) = 0 → s.get (F.AES_TXCTRL_STATE r) = unitOFF →
      s.txBad r = true →
      ∃ t, exec (.aesTxEnable m r) s = .next t ∧ t.get (F.AES_TXCTRL_STATUS r) = stBADARG ∧
        s.OnlyRegs t [F.AES_TXCTRL_STATUS r]) ∧
    (s.performs m (0xB1000 + 0x100 * r) = true → s.get (F.AES_TXCTRL_EN r) ≠ 0 → s.get (F.AES_TXCTRL_STATE r) = unitON →
      ∃ t, exec (.aesTxDisable m r) s = .next t ∧ t.get (F.AES_TXCTRL_EN r) = 0 ∧
        t.get (F.AES_TXCTRL_STATE r) = unitSHUTTING ∧ t.get (F.AES_TXCTRL_STATUS r) = stOK ∧
        (∀ c ∈ s.asrcOf (fidAesTx r), t.get (I.ASRC_EN c) = 0) ∧
        t.get (I.TX_END r) = (192 * ((s.get (I.TX_FRM r) + 191) / 192 + 1) + 1) % 2 ^ 64 ∧
        s.OnlyRegs t ([F.AES_TXCTRL_EN r, F.AES_TXCTRL_STATE r, F.AES_TXCTRL_STATUS r, I.TX_END r] ++
          s.chFields (fidAesTx r) I.ASRC_EN ++ s.chFields (fidAesTx r) F.ASRC_CH_STATE ++ s.chFields (fidAesTx r) I.ASRC_ACC)) ∧
    (s.get (F.AES_TXCTRL_STATE r) = unitSTARTING → s.get (F.AES_TXCFG_SRC r) ≠ 0 ∨ 192 < s.get (I.TX_FRM r) →
      ∃ t, exec (.aesTxOn r) s = .next t ∧ t.get (F.AES_TXCTRL_STATE r) = unitON ∧ t.get (F.AES_TXEVT_EVT r) % 2 = 1 ∧
        s.OnlyRegsEv t [F.AES_TXCTRL_STATE r, F.AES_TXEVT_EVT r]) ∧
    (s.get (F.AES_TXCTRL_STATE r) = unitSHUTTING → s.get (F.AES_TXCTRL_EN r) = 0 →
      s.get (F.AES_TXCFG_SRC r) ≠ 0 ∨ s.get (I.TX_END r) ≤ s.get (I.TX_FRM r) →
      ∃ t, exec (.aesTxOff r) s = .next t ∧ t.get (F.AES_TXCTRL_STATE r) = unitOFF ∧ t.get (F.AES_TXEVT_EVT r) / 2 % 2 = 1 ∧
        t.get (F.SYS_CLAIM_OWNER (aesOutSlot r)) ≠ fidAesTx r ∧
        s.OnlyRegsEv t [F.AES_TXCTRL_STATE r, F.AES_TXEVT_EVT r, I.TRK_LOCK (40 + r), F.SYS_CLAIM_OWNER (aesOutSlot r)]) ∧
    (∀ (u : Fin 2) (b : Bool) (w : Word), s.performs m (0xB1054 + 0x100 * r + 32 * u + 64 * b2n b) = true →
      ∃ t, exec (.aesTxCsWrite m r u b w) s = .next t ∧ t.get (State.txWord r u b 5) = w.toNat ∧
        t.get (I.AES_TXP r) / 2 ^ (2 * b2n b + u.val) % 2 = 1 ∧
        (∀ k : Fin 6, t.get (I.AES_TXS (24 * r + 6 * (2 * b2n b + u) + k)) =
          (if k = 5 then w.toNat else s.get (State.txWord r u b k) % 2 ^ 32)) ∧
        t.get (I.AES_TXAT (4 * r + (2 * b2n b + u))) = s.tclk % 2 ^ 64 ∧
        s.OnlyRegs t ([State.txWord r u b 5, I.AES_TXP r, I.AES_TXAT (4 * r + (2 * b2n b + u)), F.AES_TXCTRL_STATUS r] ++
          (List.range 6).map (fun k => I.AES_TXS (24 * r + 6 * (2 * b2n b + u) + k)))) ∧
    (s.txDue r ≠ [] →
      ∃ t, exec (.aesTxCsApply r) s = .next t ∧ t.get (F.AES_TXEVT_EVT r) / 4 % 2 = 1 ∧
        (∀ k : Fin 4, natBit (t.get (I.AES_TXP r)) k = (natBit (s.get (I.AES_TXP r)) k && !(s.txDue r).contains k.val)) ∧
        (∀ (k : Fin 4) (i : Fin 6), t.get (I.AES_TXE (24 * r + 6 * k + i)) =
          (if (s.txDue r).contains k.val then s.get (I.AES_TXS (24 * r + 6 * k + i)) % 2 ^ 32
           else s.get (I.AES_TXE (24 * r + 6 * k + i)))) ∧
        s.OnlyRegsEv t ([I.AES_TXP r, F.AES_TXEVT_EVT r] ++ (List.range 24).map (fun k => I.AES_TXE (24 * r.val + k))))

/-- R301 to R306, R308, R310, R311: an enable that nothing refuses takes the claims and puts the members of the
cascade in STARTING at their IDLE levels; a disable puts them in SHUTTING; a start counts from PHASE with RELOAD and
the output enables taken; the end of a shutdown leaves them OFF at IDLE with event 128 + n cause 6; writes of RELOAD
and of a compare take effect at once while OFF. Where the spec leaves a point open the clauses follow the model's
choices: log entry 43. -/
def Obligations.TimerEnableAndStopComplete : Prop :=
  ∀ (s : State) (m : Master) (n : Fin 64),
    (s.performs m (tmAddr n 0) = true → s.get (F.TMR_CTRL_EN n) = 0 → s.tmState n = unitOFF → s.tmBad n = false →
      s.claimBar (fidTmr n) (s.tmNeeds n) = none →
      ∃ t, exec (.timerEnable m n) s = .next t ∧ t.get (F.TMR_CTRL_EN n) = 1 ∧ t.get (F.TMR_CTRL_STATUS n) = stOK ∧
        (∀ k ∈ s.tmMembers n, t.get (F.TMR_CTRL_STATE k) = unitSTARTING ∧
          t.get (F.TMR_STAT_LEVEL k) = s.get (F.TMR_OUT_IDLE k) % 2) ∧
        (∀ k ∈ s.tmNeeds n, t.get (F.SYS_CLAIM_OWNER k) = fidTmr n % 65536) ∧
        s.OnlyRegs t ([F.TMR_CTRL_EN n, F.TMR_CTRL_STATUS n, I.TMR_JOIN n, I.TMR_GO n, I.TMR_AT n] ++
          (s.tmMembers n).map F.TMR_CTRL_STATE ++ (s.tmMembers n).map F.TMR_STAT_LEVEL ++ (s.tmNeeds n).map F.SYS_CLAIM_OWNER)) ∧
    (s.performs m (tmAddr n 0) = true → s.get (F.TMR_CTRL_EN n) = 1 →
      s.tmState n = unitSTARTING ∨ s.tmState n = unitON →
      ∃ t, exec (.timerDisable m n) s = .next t ∧ t.get (F.TMR_CTRL_EN n) = 0 ∧ t.get (F.TMR_CTRL_STATUS n) = stOK ∧
        (∀ k ∈ s.tmMembers n, t.get (F.TMR_CTRL_STATE k) = unitSHUTTING) ∧
        s.OnlyRegs t ([F.TMR_CTRL_EN n, F.TMR_CTRL_STATUS n, I.TMR_AT n] ++ (s.tmMembers n).map F.TMR_CTRL_STATE)) ∧
    (∀ e : Nat, s.tmStartEdge n = some e → s.tmAlone n e = true →
      ∃ t, exec (.timerStart n) s = .next t ∧
        (∀ k ∈ s.tmMembers n, t.get (F.TMR_CTRL_STATE k) = unitON ∧ t.get (I.TMR_RUN k) = 1 ∧
          t.get (I.TMR_BASE k) = s.get (F.TMR_PHASE_V k) % 2 ^ 32 ∧ t.get (I.TMR_AT k) = e % 2 ^ 64 ∧
          t.get (F.TMR_STAT_LEVEL k) = s.tmPhaseLevel k % 2 ∧ t.get (F.TMR_STAT_EVT k) / 32 % 2 = 1) ∧
        s.OnlyRegsEv t (I.TM_NOW :: (s.tmMembers n).flatMap State.tmStartFields)) ∧
    (s.tmState n = unitSTARTING → s.get (F.TMR_MODE_CASC n) = 0 → s.get (F.TMR_MODE_GRPEN n) = 1 →
      s.get (I.TMR_GO n) = 0 →
      ∃ t, exec (.timerStart n) s = .next t ∧ t = s) ∧
    (∀ e : Nat, s.tmEndEdge n = some e → s.tmAlone n e = true → s.get (F.TMR_CTRL_EN n) = 0 →
      ∃ t, exec (.timerShutdownComplete n) s = .next t ∧
        (∀ k ∈ s.tmMembers n, t.get (F.TMR_CTRL_STATE k) = unitOFF ∧ t.get (I.TMR_RUN k) = 0 ∧
          t.get (I.TMR_RLD k) = s.get (F.TMR_RELOAD_V k) % 2 ^ 32 ∧
          t.get (F.TMR_STAT_LEVEL k) = s.get (F.TMR_OUT_IDLE k) % 2 ∧ t.get (F.TMR_STAT_EVT k) / 64 % 2 = 1) ∧
        (∀ k, t.get (F.SYS_CLAIM_OWNER k) = if s.get (F.SYS_CLAIM_OWNER k) = fidTmr n then 0 else s.get (F.SYS_CLAIM_OWNER k)) ∧
        t = { s with regs := t.regs, toDeliver := t.toDeliver } ∧
        ∀ f : Fld, f.id ≠ (F.SYS_CLAIM_OWNER 0).id →
          (f.id, f.ix) ∉ (I.TM_NOW :: (s.tmMembers n).flatMap (fun k => State.tmStartFields k ++ State.tmLapFields k)).map
            (fun g => (g.id, g.ix)) → t.get f = s.get f) ∧
    (∀ w : Word, s.performs m (tmAddr n 8) = true →
      ∃ t, exec (.timerReloadWrite m n w) s = .next t ∧ t.get (F.TMR_RELOAD_V n) = w.toNat ∧
        t.get (F.TMR_CTRL_STATUS n) = stOK ∧
        (t.get (I.TMR_RLD n) = if s.tmState n = unitOFF then w.toNat else s.get (I.TMR_RLD n)) ∧
        s.OnlyRegs t [F.TMR_RELOAD_V n, F.TMR_CTRL_STATUS n, I.TMR_RLD n]) ∧
    (∀ (b : Bool) (w : Word), s.performs m (tmAddr n (0x18 + 4 * b2n b)) = true → s.tmState n = unitOFF →
      ∃ t, exec (.compareWrite m n b w) s = .next t ∧ t.get (State.cmpLive n b) = w.toNat ∧ t.get (F.TMR_CTRL_STATUS n) = stOK ∧
        s.OnlyRegs t [F.TMR_CTRL_STATUS n, State.cmpLive n b, State.cmpFlag n b, I.TMR_BASE n, I.TMR_AT n])

/-- R297, R298, R304, R306 to R308, R310, R312, R313: what a lap start, a compare match, a capture, reads of the count
and of a capture, and the commands of a start group do. Where the spec leaves a point open the clauses follow the
model's choices: log entry 43. -/
def Obligations.TimerCountEventsComplete : Prop :=
  ∀ (s : State) (m : Master) (n : Fin 64) (g : Fin 8),
    (∀ e : Nat, s.get (F.TMR_MODE_CASC n) = 0 → s.tmLapEdge n = some e → s.tmAlone n e = true →
      ∃ t, exec (.lapStart n) s = .next t ∧ t.get (I.TMR_BASE n) = 0 ∧ t.get (I.TMR_AT n) = e % 2 ^ 64 ∧
        t.get (I.TMR_RLD n) = s.get (F.TMR_RELOAD_V n) % 2 ^ 32 ∧ t.get (F.TMR_STAT_EVT n) / 4 % 2 = 1 ∧
        (∀ b, s.tmToEvent n = s.tmToLap n → s.get (F.TMR_MODE_KX4CMP n) = 0 → s.get (State.cmpFlag n b) ≠ 0 →
          s.get (State.cmpInt n b) = 0 →
          t.get (State.cmpLive n b) = s.get (State.cmpPend n b) % 2 ^ 32 ∧ t.get (State.cmpFlag n b) = 0) ∧
        s.OnlyRegsEv t (I.TM_NOW :: (s.tmMembers n).flatMap State.tmLapFields)) ∧
    (∀ (b : Bool) (e v c : Nat), s.get (F.TMR_MODE_CASC n) = 0 → s.tmMatchEdge n b = some e → s.tmAlone n e = true →
      s.get (State.cmpLive n b) = v → s.get (I.TMR_BASE n) = c → c < v → v ≤ s.get (I.TMR_RLD n) →
      v = c + s.tmToEvent n → s.get (State.cmpMatched n b) = 0 → s.get (State.cmpLive n (!b)) ≠ v →
      ∃ t, exec (.compareMatch n b) s = .next t ∧ t.get (I.TMR_BASE n) = v % 2 ^ 32 ∧ t.get (I.TMR_AT n) = e % 2 ^ 64 ∧
        t.get (State.cmpMatched n b) = 1 ∧
        t.get (F.TMR_STAT_LEVEL n) = outAct (s.cmpAct n b) (s.get (F.TMR_STAT_LEVEL n)) % 2 ∧
        t.get (F.TMR_STAT_EVT n) / 2 ^ b2n b % 2 = 1 ∧
        (s.get (State.cmpInt n b) ≠ 0 → s.get (F.TMR_MODE_KX4CMP n) = 0 → s.get (State.cmpSoft n b) = 0 →
          t.get (State.cmpFlag n b) = 1 ∧ t.get (State.cmpPend n b) =
            (v + s.get (State.cmpInt n b)) % (s.get (I.TMR_RLD n) + 1) % 2 ^ 32) ∧
        s.OnlyRegsEv t [I.TM_NOW, I.TMR_BASE n, I.TMR_AT n, State.cmpMatched n b, F.TMR_STAT_LEVEL n, F.TMR_STAT_EVT n,
          State.cmpLive n b, State.cmpPend n b, State.cmpFlag n b]) ∧
    (∀ (b : Bool) (e v c : Nat), s.get (F.TMR_MODE_CASC n) = 0 → s.tmMatchEdge n b = some e → s.tmAlone n e = true →
      (∀ b, s.get (State.cmpLive n b) = v ∧ s.get (State.cmpMatched n b) = 0) → s.get (I.TMR_BASE n) = c → c < v →
      v ≤ s.get (I.TMR_RLD n) → v = c + s.tmToEvent n →
      ∃ t, exec (.compareMatch n b) s = .next t ∧
        t.get (F.TMR_STAT_LEVEL n) =
          outAct (s.cmpAct n true) (outAct (s.cmpAct n false) (s.get (F.TMR_STAT_LEVEL n)) % 2) % 2 ∧
        t.get (F.TMR_STAT_EVT n) % 4 = 3 ∧ s.OnlyRegsEv t (I.TM_NOW :: State.tmLapFields n)) ∧
    (∀ (rising : Bool) (held : Nat), s.get (F.TMR_CAPCFG_CEN n) ≠ 0 → s.get (F.TMR_MODE_CASC n) = 0 → 2 ≤ s.tmState n →
      s.boundary = false → s.get (F.TMR_CAPCFG_CSRC n) < 32 → s.get (F.TMR_CAPCFG_FILT n) ≤ held →
      s.get (F.TMR_CAPCFG_EDGE n) = (if rising then 0 else 1) ∨ s.get (F.TMR_CAPCFG_EDGE n) = 2 →
      ∃ t, exec (.capture ⟨n, rising, held⟩) s = .next t ∧ t.get (F.TMR_STAT_EVT n) / 8 % 2 = 1 ∧
        (s.get (F.TMR_STAT_FULL n) = 0 → t.get (F.TMR_STAT_FULL n) = 1 ∧
          ∀ k ∈ s.tmMembers n, t.get (F.TMR_CAPT_V k) = s.tmCount k % 2 ^ 32) ∧
        (s.get (F.TMR_STAT_FULL n) ≠ 0 → t.get (F.TMR_STAT_PEND n) = 1 ∧
          ∀ k ∈ s.tmMembers n, t.get (F.TMR_CAPT_PEND_V k) = s.tmCount k % 2 ^ 32) ∧
        s.OnlyRegsEv t ([F.TMR_STAT_FULL n, F.TMR_STAT_PEND n, F.TMR_STAT_EVT n] ++ (s.tmMembers n).map F.TMR_CAPT_V ++
          (s.tmMembers n).map F.TMR_CAPT_PEND_V)) ∧
    (∀ (rising : Bool) (held : Nat), s.get (F.TMR_CAPCFG_CSRC n) < 32 →
      held < s.get (F.TMR_CAPCFG_FILT n) ∨ s.get (F.TMR_CAPCFG_EDGE n) = (if rising then 1 else 0) →
      ∃ t, exec (.capture ⟨n, rising, held⟩) s = .next t ∧ t = s) ∧
    (∀ (rising : Bool) (held : Nat), 32 ≤ s.get (F.TMR_CAPCFG_CSRC n) → s.get (F.TMR_CAPCFG_CSRC n) < 71 →
      ∃ t, exec (.capture ⟨n, rising, held⟩) s = .next t ∧ t = s) ∧
    (s.performs m (tmAddr n 0) = true → s.get (F.TMR_CAPCFG_CSRC n) = 95 → s.get (F.TMR_CAPCFG_CEN n) ≠ 0 →
      s.get (F.TMR_MODE_CASC n) = 0 → 2 ≤ s.tmState n → s.get (F.TMR_STAT_FULL n) = 0 →
      ∃ t, exec (.swcap m n) s = .next t ∧ t.get (F.TMR_CTRL_STATUS n) = stOK ∧ t.get (F.TMR_STAT_FULL n) = 1 ∧
        t.get (F.TMR_STAT_EVT n) / 8 % 2 = 1 ∧
        (∀ k ∈ s.tmMembers n, t.get (F.TMR_CAPT_V k) = s.tmCount k % 2 ^ 32) ∧
        s.OnlyRegsEv t ([F.TMR_CTRL_STATUS n, F.TMR_STAT_FULL n, F.TMR_STAT_PEND n, F.TMR_STAT_EVT n] ++
          (s.tmMembers n).map F.TMR_CAPT_V)) ∧
    (s.reads m (tmAddr n 0x30) = true → s.get (F.TMR_MODE_CASC n) = 0 →
      ∃ t, exec (.captRead m n) s = .next t ∧ t.get (I.RDATA m.id) = s.get (F.TMR_CAPT_V n) % 2 ^ 64 ∧
        (s.get (F.TMR_STAT_PEND n) = 0 → t.get (F.TMR_STAT_FULL n) = 0) ∧
        (s.get (F.TMR_STAT_PEND n) ≠ 0 → t.get (F.TMR_STAT_PEND n) = 0 ∧
          ∀ k ∈ s.tmMembers n, t.get (F.TMR_CAPT_V k) = s.get (F.TMR_CAPT_PEND_V k) % 2 ^ 32) ∧
        s.OnlyRegs t ([I.RDATA m.id, I.PE_ABORT, F.TMR_STAT_FULL n, F.TMR_STAT_PEND n] ++ (s.tmMembers n).map F.TMR_CAPT_V ++
          (s.tmMembers n).map (fun k => I.TMR_CSNAP (256 * k + m.id)))) ∧
    (s.reads m (tmAddr n 0x10) = true →
      ∃ t, exec (.timerCntRead m n) s = .next t ∧ t.get (I.RDATA m.id) = s.tmCount n % 2 ^ 64 ∧
        s.OnlyRegs t ([I.RDATA m.id, I.PE_ABORT] ++ (s.tmMembers n).map (fun k => I.TMR_SNAP (256 * k + m.id)))) ∧
    (s.performs m (0xC0000 + 16 * g) = true → s.get (F.TMR_GRP_STATE g) = 0 → s.frc + 8 ≤ s.tmGroupS g →
      ∃ t, exec (.timerGroupArm m g) s = .next t ∧ t.get (F.TMR_GRP_STATE g) = 1 ∧ t.get (F.TMR_GRP_STATUS g) = stOK ∧
        (∀ k ∈ s.tmWaiting g, t.get (I.TMR_JOIN k) = 1) ∧
        s.OnlyRegs t ([F.TMR_GRP_STATE g, F.TMR_GRP_STATUS g] ++ (s.tmWaiting g).map I.TMR_JOIN)) ∧
    (s.performs m (0xC0000 + 16 * g) = true →
      ∃ t, exec (.timerGroupDisarm m g) s = .next t ∧ t.get (F.TMR_GRP_STATE g) = 0 ∧ t.get (F.TMR_GRP_STATUS g) = stOK ∧
        (∀ k ∈ s.tmWaiting g, t.get (F.TMR_CTRL_STATE k) = unitSTARTING ∧ t.get (I.TMR_JOIN k) = 0) ∧
        s.OnlyRegs t ([F.TMR_GRP_STATE g, F.TMR_GRP_STATUS g] ++ (s.tmWaiting g).map I.TMR_JOIN)) ∧
    (s.performs m (0xC0000 + 16 * g) = true → s.tclkRuns = true → s.tmNow + 1 ≤ s.tclk + s.sampleTclks →
      (∀ k ∈ s.tmActive, k ∈ s.tmWaiting g) → (∀ h : Fin 8, s.get (F.TMR_GRP_STATE h) = 0) →
      ∃ t, exec (.timerGroupGo m g) s = .next t ∧ t.get (F.TMR_GRP_STATUS g) = stOK ∧
        (∀ k ∈ s.tmWaiting g, t.get (F.TMR_CTRL_STATE k) = unitON ∧ t.get (I.TMR_AT k) = (s.tmNow + 1) % 2 ^ 64) ∧
        s.OnlyRegsEv t ([F.TMR_GRP_STATUS g, I.TM_NOW] ++ (s.tmWaiting g).map I.TMR_GO ++
          (s.tmWaiting g).flatMap (fun n => (s.tmMembers n).flatMap State.tmStartFields))) ∧
    (s.performs m (0xC0000 + 16 * g) = true → s.tclkRuns = false →
      ∃ t, exec (.timerGroupGo m g) s = .next t ∧ t.get (F.TMR_GRP_STATUS g) = stOK ∧
        (∀ k ∈ s.tmWaiting g, t.get (I.TMR_GO k) = 1) ∧
        s.OnlyRegs t ([F.TMR_GRP_STATUS g] ++ (s.tmWaiting g).map I.TMR_GO ++ (s.tmWaiting g).map I.TMR_AT)) ∧
    (s.get (F.TMR_GRP_STATE g) ≠ 0 → s.reached (s.tmGroupS g) = true →
      ∃ t, exec (.timerGroupStart g) s = .next t ∧ t.get (F.TMR_GRP_STATE g) = 0 ∧
        (∀ k ∈ s.tmWaiting g, t.get (F.TMR_CTRL_STATE k) = (if s.get (I.TMR_JOIN k) = 0 then unitSTARTING else unitON)) ∧
        s.OnlyRegsEv t (F.TMR_GRP_STATE g :: (s.tmWaiting g).flatMap (fun n => (s.tmMembers n).flatMap State.tmStartFields)))

/-- R316 to R327: a UART is enabled with its claims, disabled, comes ON and goes OFF; characters are received, read,
queued and sent; the divisor is written; a line is retired and rearmed; a break is counted. The bits of a character as
the transmitter sends them spell it at the receiver without an error. Where the spec leaves a point open the clauses
follow the model's choices: log entries 1, 44, 45, 47. -/
def Obligations.UartCommandsComplete : Prop :=
  ∀ (s : State) (m : Master) (n : Fin 6) (w : Word),
    (s.performs m (uAddr n 0) = true → State.uOwned n m = false → s.get (F.U_CTRL_EN n) = 0 → s.uState n = unitOFF →
      s.uBad n = false → s.claimBar (fidUart n) (s.uNeeds n) = none →
      ∃ t, exec (.uartEnable m n w) s = .next t ∧ t.get (F.U_CTRL_EN n) = 1 ∧ t.get (F.U_CTRL_STATE n) = unitSTARTING ∧
        t.get (F.U_CTRL_STATUS n) = stOK ∧ t.get (F.U_CTRL_LOOP n) = natBits w.toNat 9 9 ∧
        (∀ k ∈ s.uNeeds n, t.get (F.SYS_CLAIM_OWNER k) = fidUart n) ∧
        s.OnlyRegsEv t ([F.U_CTRL_EN n, F.U_CTRL_STATE n, F.U_CTRL_STATUS n, F.U_CTRL_WAKE n, F.U_CTRL_LOOP n, F.U_CTRL_DRAIN n,
          F.U_STAT_RTS n, F.U_EVT_EVT n] ++ (s.uNeeds n).map F.SYS_CLAIM_OWNER)) ∧
    (s.performs m (uAddr n 0) = true → State.uOwned n m = true →
      ∃ t, exec (.uartEnable m n w) s = .next t ∧ t.get (F.U_CTRL_STATUS n) = stREFUSED ∧
        s.OnlyRegs t [F.U_CTRL_STATUS n]) ∧
    (s.performs m (uAddr n 0) = true → State.uOwned n m = false → s.get (F.U_CTRL_EN n) = 1 → s.uState n = unitON →
      ∃ t, exec (.uartDisable m n w) s = .next t ∧ t.get (F.U_CTRL_EN n) = 0 ∧ t.get (F.U_CTRL_STATE n) = unitSHUTTING ∧
        t.get (F.U_CTRL_DRAIN n) = natBits w.toNat 8 8 ∧ t.get (F.U_CTRL_STATUS n) = stOK ∧
        s.OnlyRegs t [F.U_CTRL_EN n, F.U_CTRL_STATE n, F.U_CTRL_STATUS n, F.U_CTRL_WAKE n, F.U_CTRL_LOOP n,
          F.U_CTRL_DRAIN n]) ∧
    (s.uState n = unitSTARTING →
      ∃ t, exec (.uartOn n) s = .next t ∧ t.get (F.U_CTRL_STATE n) = unitON ∧ t.get (F.U_EVT_EVT n) / 64 % 2 = 1 ∧
        s.OnlyRegsEv t [F.U_CTRL_STATE n, F.U_EVT_EVT n, F.U_STAT_RTS n]) ∧
    (s.uState n = unitSHUTTING → s.get (F.U_CTRL_EN n) = 0 → s.get (F.U_CTRL_DRAIN n) = 0 ∨ (s.uart n).tx = [] →
      s.uSending n = false → s.get (I.U_RXON n) = 0 →
      ∃ t, exec (.uartOff n) s = .next t ∧ t.get (F.U_CTRL_STATE n) = unitOFF ∧ t.get (F.U_EVT_EVT n) / 128 % 2 = 1 ∧
        (t.uart n).rx = [] ∧ (t.uart n).tx = [] ∧ t.get (F.U_STAT_RTS n) = 0 ∧
        t.get (I.U_DIVE n) = s.uDiv n % 2 ^ 22 ∧ t.get (I.U_DIVR n) = s.uDiv n % 2 ^ 22 ∧
        t.get (F.U_STAT_DPEND n) = 0 ∧ (∀ k, t.get (F.SYS_CLAIM_OWNER k) ≠ fidUart n) ∧
        t = { s with regs := t.regs, toDeliver := t.toDeliver, uarts := t.uarts } ∧
        s.KeepsFields t ([F.U_CTRL_STATE n, F.U_EVT_EVT n, F.U_STAT_RTS n, I.U_DIVE n, I.U_TPEND n, I.U_DIVR n, I.U_RPEND n,
          F.U_STAT_DPEND n] ++
          s.heldSlots (fidUart n))) ∧
    (∀ (first par : Sampled) (data stops : List Sampled), s.uAccepts n = true → s.get (F.U_CTRL_LOOP n) = 0 → s.boundary = false →
      (∀ k ∈ s.tmActive, s.get (F.TMR_CAPCFG_CSRC k) ≠ 65 + n) →
      ∃ t, exec (.characterReceived n true first data par stops) s = .next t ∧ t.get (I.U_RXON n) = 1 ∧
        t.get (I.U_EDGE n) = s.frc % 2 ^ 64 ∧ t.get (F.U_STAT_LINE_LVL n) = 0 ∧ t.get (I.U_DIVR n) = s.uDiv n % 2 ^ 22 ∧
        s.OnlyRegs t [F.U_STAT_LINE_LVL n, I.U_RXON n, I.U_EDGE n, I.U_DIVR n, I.U_RPEND n, F.U_STAT_DPEND n]) ∧
    (∀ (first par : Sampled) (data stops : List Sampled) (x : RxChar), s.get (I.U_RXON n) ≠ 0 → s.uRxLive n = true →
      s.uMidi n = false → (s.uart n).rx.length < 64 → State.majority first = false →
      (s.uSamples n first data par stops).any State.majority = true →
      x = s.uChar n (s.uSamples n first data par stops) →
      ∃ t, exec (.characterReceived n false first data par stops) s = .next t ∧
        t.uart n = { s.uart n with rx := (s.uart n).rx ++ [x] } ∧ t.get (I.U_RXON n) = 0 ∧
        t.get (F.U_CNT_ERR n) = (if x.ferr || x.perr then min (s.get (F.U_CNT_ERR n) + 1) 255 else s.get (F.U_CNT_ERR n)) ∧
        t.get (F.U_CNT_NOISE n) = (if x.noise then min (s.get (F.U_CNT_NOISE n) + 1) 255 else s.get (F.U_CNT_NOISE n)) ∧
        (∀ k : Fin 6, k ≠ n → t.uart k = s.uart k) ∧
        t = { s with regs := t.regs, toDeliver := t.toDeliver, uarts := t.uarts } ∧
        s.KeepsFields t [F.U_STAT_LINE_LVL n, I.U_RXON n, F.U_CNT_NOISE n, F.U_CNT_ERR n, F.U_EVT_EVT n, F.U_STAT_RTS n]) ∧
    (∀ (first par : Sampled) (data stops : List Sampled), s.get (I.U_RXON n) ≠ 0 → s.uRxLive n = true → 64 ≤ (s.uart n).rx.length →
      State.majority first = false → (s.uSamples n first data par stops).any State.majority = true →
      ∃ t, exec (.characterReceived n false first data par stops) s = .next t ∧
        t.get (F.U_CNT_OVR n) = min (s.get (F.U_CNT_OVR n) + 1) 255 ∧ t.get (F.U_EVT_EVT n) / 4 % 2 = 1 ∧
        s.OnlyRegsEv t [F.U_STAT_LINE_LVL n, I.U_RXON n, F.U_CNT_OVR n, F.U_EVT_EVT n]) ∧
    (∀ (first par : Sampled) (data stops : List Sampled), s.get (I.U_RXON n) ≠ 0 → State.majority first = true →
      ∃ t, exec (.characterReceived n false first data par stops) s = .next t ∧ t.get (I.U_RXON n) = 0 ∧
        s.OnlyRegs t [F.U_STAT_LINE_LVL n, I.U_RXON n]) ∧
    (∀ (first par : Sampled) (data stops : List Sampled), s.get (I.U_RXON n) ≠ 0 → s.uRxLive n = true →
      (s.uSamples n first data par stops).any State.majority = false →
      ∃ t, exec (.characterReceived n false first data par stops) s = .next t ∧ t.get (I.U_RXON n) = 0 ∧ t.get (F.U_STAT_LINE_LVL n) = 0 ∧
        t.get (F.U_CNT_BRK n) = min (s.get (F.U_CNT_BRK n) + 1) 255 ∧ t.get (F.U_EVT_EVT n) / 16 % 2 = 1 ∧
        s.OnlyRegsEv t [F.U_STAT_LINE_LVL n, I.U_RXON n, F.U_CNT_BRK n, F.U_EVT_EVT n]) ∧
    (∀ (c : RxChar) (rest : List RxChar), s.reads m (uAddr n 0x10) = true → s.uMidi n = false → (s.uart n).rx = c :: rest →
      ∃ t, exec (.rxRead m n) s = .next t ∧
        t.get (I.RDATA m.id) =
          (c.data % 256 + b2n c.perr * 2 ^ 8 + b2n c.ferr * 2 ^ 9 + b2n c.noise * 2 ^ 10) % 2 ^ 32 ∧
        t.uart n = { s.uart n with rx := rest } ∧ (∀ k : Fin 6, k ≠ n → t.uart k = s.uart k) ∧
        t = { s with regs := t.regs, toDeliver := t.toDeliver, uarts := t.uarts } ∧
        s.KeepsFields t [I.RDATA m.id, I.PE_ABORT, F.U_EVT_EVT n, F.U_STAT_RTS n]) ∧
    (∀ data : Byte, s.performs m (uAddr n 0x0C) = true → State.uOwned n m = false → (s.uart n).tx.length < 64 →
      ∃ t, exec (.txWrite m n data) s = .next t ∧ t.uart n = { s.uart n with tx := (s.uart n).tx ++ [data.toNat] } ∧
        t.get (F.U_CTRL_STATUS n) = stOK ∧ (∀ k : Fin 6, k ≠ n → t.uart k = s.uart k) ∧
        t = { s with regs := t.regs, toDeliver := t.toDeliver, uarts := t.uarts } ∧
        s.KeepsFields t [F.U_CTRL_STATUS n, F.U_EVT_EVT n, F.U_STAT_RTS n]) ∧
    (∀ data : Byte, s.performs m (uAddr n 0x0C) = true → State.uOwned n m = false → 64 ≤ (s.uart n).tx.length →
      ∃ t, exec (.txWrite m n data) s = .next t ∧ t.get (F.U_CTRL_STATUS n) = stBUSY ∧
        s.OnlyRegs t [F.U_CTRL_STATUS n]) ∧
    (∀ (cts : Bool) (b : Nat) (rest : List Nat), (s.uart n).tx = b :: rest → s.uState n = unitON →
      s.get (F.U_CTRL_LOOP n) = 0 → s.uSending n = false → s.get (F.U_CFG_FLOW n) = 0 ∨ cts = true →
      ∃ t, exec (.characterTransmit ⟨n, cts⟩) s = .next t ∧ t.uart n = { s.uart n with tx := rest } ∧
        t.get (I.U_TXSH n) = b % 2 ^ 8 ∧ t.get (I.U_TXAT n) = s.get I.PCLK ∧ t.get (I.U_DIVE n) = s.uDiv n % 2 ^ 22 ∧
        t.get (I.U_TXEND n) = (s.get I.PCLK + State.uBitsPclk (s.uBits n) (s.uDiv n % 2 ^ 22)) % 2 ^ 64 ∧
        t.get (F.U_STAT_DPEND n) = b2n (s.get (I.U_RPEND n) ≠ 0) ∧ (∀ k : Fin 6, k ≠ n → t.uart k = s.uart k) ∧
        t = { s with regs := t.regs, toDeliver := t.toDeliver, uarts := t.uarts } ∧
        s.KeepsFields t [I.U_DIVE n, I.U_TPEND n, F.U_STAT_DPEND n, F.U_STAT_CTS n, I.U_TXSH n, I.U_TXAT n, I.U_TXEND n,
          F.U_EVT_EVT n, F.U_STAT_RTS n]) ∧
    (s.uState n = unitON → s.uSending n = false → s.get (F.U_CFG_FLOW n) ≠ 0 →
      ∃ t, exec (.characterTransmit ⟨n, false⟩) s = .next t ∧ t.get (F.U_STAT_CTS n) = 0 ∧ s.OnlyRegs t [F.U_STAT_CTS n]) ∧
    (∀ (b : Nat) (rest : List Nat), (s.uart n).tx = b :: rest → s.get (F.U_CTRL_LOOP n) ≠ 0 → s.get (F.U_CFG_FLOW n) = 0 →
      s.uSending n = false → s.uAccepts n = true → s.uMidi n = false → (s.uart n).rx.length < 64 →
      (∀ k ∈ s.tmActive, s.get (F.TMR_CAPCFG_CSRC k) ≠ 65 + n) →
      ∃ t, exec (.characterTransmit ⟨n, true⟩) s = .next t ∧
        t.uart n = { s.uart n with tx := rest, rx := (s.uart n).rx ++ [
          { data := b % 2 ^ s.uData n, perr := false, ferr := false, noise := false, edge := s.frc % 2 ^ 64 }] } ∧
        t.get (F.U_STAT_LINE_LVL n) = s.get (F.U_STAT_LINE_LVL n) ∧ t.uTxBall n = (if s.get (I.U_HIZ n) = 0 then some true else none) ∧
        t = { s with regs := t.regs, toDeliver := t.toDeliver, uarts := t.uarts } ∧
        s.KeepsFields t [I.U_DIVE n, I.U_TPEND n, I.U_DIVR n, I.U_RPEND n, F.U_STAT_DPEND n, I.U_TXSH n, I.U_TXAT n,
          I.U_TXEND n, I.U_EDGE n, I.U_RXON n, F.U_EVT_EVT n, F.U_STAT_RTS n]) ∧
    (s.performs m (uAddr n 8) = true → State.uOwned n m = false → natBits w.toNat 21 6 = 0 →
      ∃ t, exec (.divisorWrite m n w) s = .next t ∧ t.get (F.U_CTRL_STATUS n) = stBADARG ∧
        s.OnlyRegs t [F.U_CTRL_STATUS n]) ∧
    (s.performs m (uAddr n 8) = true → State.uOwned n m = false → natBits w.toNat 21 6 ≠ 0 →
      ∃ t, exec (.divisorWrite m n w) s = .next t ∧ t.get (F.U_DIV_DIVI n) = natBits w.toNat 21 6 ∧
        t.get (F.U_DIV_DIVF n) = natBits w.toNat 5 0 ∧ t.get (F.U_CTRL_STATUS n) = stOK ∧
        (s.uState n = unitOFF ∨ s.uSending n = false → t.get (I.U_DIVE n) = natBits w.toNat 21 0) ∧
        (s.uState n = unitOFF ∨ s.uHearing n = false → t.get (I.U_DIVR n) = natBits w.toNat 21 0) ∧
        (s.uState n ≠ unitOFF → s.uSending n = true → t.get (I.U_DIVE n) = s.get (I.U_DIVE n) ∧ t.get (F.U_STAT_DPEND n) = 1) ∧
        (s.uState n ≠ unitOFF → s.uHearing n = true → t.get (I.U_DIVR n) = s.get (I.U_DIVR n) ∧ t.get (F.U_STAT_DPEND n) = 1) ∧
        s.OnlyRegs t [F.U_DIV_DIVI n, F.U_DIV_DIVF n, F.U_CTRL_STATUS n, I.U_DIVE n, I.U_TPEND n, I.U_DIVR n, I.U_RPEND n,
          F.U_STAT_DPEND n]) ∧
    (s.uState n ≠ unitOFF → s.get (F.U_STAT_RXST n) = 0 → s.get (F.U_LINE_LINEFAULT_T n) ≠ 0 →
      ∃ t, exec (.lineRetire n) s = .next t ∧ t.get (F.U_STAT_RXST n) = 1 ∧ t.get (F.U_EVT_EVT n) / 32 % 2 = 1 ∧
        t.get (F.MDL_LOG_W (s.get F.MDL_LOGHEAD_NEXT) 0) = 0x0B * 2 ^ 24 + 6 * 2 ^ 16 + n.val ∧
        t = { s with regs := t.regs, toDeliver := t.toDeliver, faults := t.faults } ∧
        s.KeepsNames t ([F.U_STAT_RXST 0, I.U_RXON 0, F.U_STAT_LINE_LVL 0, F.U_EVT_EVT 0] ++ State.faultNames)) ∧
    (s.performs m (uAddr n 0x28) = true → State.uOwned n m = false → s.get (F.U_STAT_LINE_LVL n) ≠ 0 →
      ∃ t, exec (.lineRearm m n w) s = .next t ∧ t.get (F.U_STAT_RXST n) = 0 ∧
        t.get (F.U_LINE_LINEFAULT_T n) = natBits w.toNat 15 0 ∧ t.get (F.U_CTRL_STATUS n) = stOK ∧
        s.OnlyRegsEv t [F.U_STAT_RXST n, F.U_LINE_LINEFAULT_T n, F.U_CTRL_STATUS n, F.U_EVT_EVT n, F.U_STAT_RTS n]) ∧
    (s.performs m (uAddr n 0x28) = true → State.uOwned n m = false → s.get (F.U_STAT_LINE_LVL n) = 0 →
      ∃ t, exec (.lineRearm m n w) s = .next t ∧ t.get (F.U_CTRL_STATUS n) = stREFUSED ∧
        s.OnlyRegs t [F.U_CTRL_STATUS n]) ∧
    (n ≠ 0 → s.uHears n = true → s.uRxLive n = true →
      ∃ t, exec (.uartBreak n) s = .next t ∧ t.get (F.U_CNT_BRK n) = min (s.get (F.U_CNT_BRK n) + 1) 255 ∧
        t.get (F.U_STAT_LINE_LVL n) = 0 ∧ t.get (F.U_EVT_EVT n) / 16 % 2 = 1 ∧
        t.get (I.U_RXON n) = 0 ∧
        s.OnlyRegsEv t [F.U_STAT_LINE_LVL n, I.U_RXON n, F.U_CNT_BRK n, F.U_EVT_EVT n]) ∧
    (∀ b : Nat, b < 2 ^ s.uData n →
      s.uSamples n (false, false, false) (((s.uFrame n b).drop 1).map (fun l => (l, l, l)))
          ((s.uFrame n b).getD (1 + s.uData n) true, (s.uFrame n b).getD (1 + s.uData n) true,
            (s.uFrame n b).getD (1 + s.uData n) true) [] = (s.uFrame n b).map (fun l => (l, l, l)) ∧
        s.uChar n ((s.uFrame n b).map (fun l => (l, l, l))) =
          { data := b, perr := false, ferr := false, noise := false, edge := s.get (I.U_EDGE n) } ∧
        (s.uFrame n b).length = s.uBits n)

/-- R330 to R332: the head of the receive FIFO completes a message or a SysEx event, which is posted to the pip of the
UART with its bytes, its flags, the UART and the sample of its edge. Where the spec leaves a point open the clauses
follow the model's choices: log entry 46. -/
def Obligations.MidiCommandsComplete : Prop :=
  ∀ (s : State) (n : Fin 6) (c : RxChar), s.uPosts n = true →
    (∀ st d : Nat, s.uHead n c none [st, d] = true → 0x80 ≤ st → st < 0xC0 → c.data < 0x80 →
      ∃ t, exec (.midiChannelMessage n) s = .next t ∧ t.qn.queue.length = s.qn.queue.length + 1 ∧
        t.qn.queue.getLast?.map (fun q => (q.pip, q.word, q.master)) = some (s.get (F.U_MIDI_PIP n),
          (MidiEvent.word ⟨0x40, (s.uart n).edge, [st, d, c.data], b2n (s.uart n).rs + b2n ((s.uart n).noisy || c.noise) * 16⟩ n (s.get (F.U_MIDIDLY_DELAY n))) % 2 ^ 128,
          0xF0 + n.val) ∧
        t = { s with regs := t.regs, toDeliver := t.toDeliver, uarts := t.uarts, qn := { s.qn with queue := t.qn.queue } } ∧
        s.KeepsNames t ([F.U_EVT_EVT 0, F.U_STAT_RTS 0, F.U_CNT_ERR 0] ++ State.postNames)) ∧
    (∀ msg : List Nat, s.uHead n c none msg = true → c.data = 0xF6 →
      ∃ t, exec (.midiCommonMessage n) s = .next t ∧ t.qn.queue.length = s.qn.queue.length + 1 ∧
        t.qn.queue.getLast?.map (fun q => (q.pip, q.word, q.master)) = some (s.get (F.U_MIDI_PIP n),
          (MidiEvent.word ⟨0x41, c.edge, [0xF6], b2n c.noise * 16⟩ n
            (s.get (F.U_MIDIDLY_DELAY n))) % 2 ^ 128, 0xF0 + n.val) ∧
        t = { s with regs := t.regs, toDeliver := t.toDeliver, uarts := t.uarts, qn := { s.qn with queue := t.qn.queue } } ∧
        s.KeepsNames t ([F.U_EVT_EVT 0, F.U_STAT_RTS 0, F.U_CNT_ERR 0] ++ State.postNames)) ∧
    (∀ (x : Option (List Nat)) (msg : List Nat), s.uHead n c x msg = true → 0xF8 ≤ c.data → c.data < 0x100 →
      s.get (F.U_MIDI_DROPCLK n) = 0 → s.get (F.U_MIDI_DROPAS n) = 0 →
      ∃ t, exec (.midiRealtimeMessage n) s = .next t ∧ t.qn.queue.length = s.qn.queue.length + 1 ∧
        t.qn.queue.getLast?.map (fun q => (q.pip, q.word, q.master)) = some (s.get (F.U_MIDI_PIP n),
          (MidiEvent.word ⟨0x42, c.edge, [c.data], b2n c.noise * 16⟩ n
            (s.get (F.U_MIDIDLY_DELAY n))) % 2 ^ 128, 0xF0 + n.val) ∧
        t = { s with regs := t.regs, toDeliver := t.toDeliver, uarts := t.uarts, qn := { s.qn with queue := t.qn.queue } } ∧
        s.KeepsNames t ([F.U_EVT_EVT 0, F.U_STAT_RTS 0, F.U_CNT_ERR 0] ++ State.postNames)) ∧
    (∀ bs msg : List Nat, s.uHead n c (some bs) msg = true → c.data = 0xF7 →
      ∃ t, exec (.midiSysexEvent n) s = .next t ∧ t.qn.queue.length = s.qn.queue.length + 1 ∧
        t.qn.queue.getLast?.map (fun q => (q.pip, q.word, q.master)) = some (s.get (F.U_MIDI_PIP n),
          (MidiEvent.word ⟨0x43, c.edge, bs ++ [0xF7], 4 + b2n (s.uart n).sysStart * 2 + b2n ((s.uart n).noisy || c.noise) * 16⟩ n
            (s.get (F.U_MIDIDLY_DELAY n))) % 2 ^ 128, 0xF0 + n.val) ∧
        t = { s with regs := t.regs, toDeliver := t.toDeliver, uarts := t.uarts, qn := { s.qn with queue := t.qn.queue } } ∧
        s.KeepsNames t ([F.U_EVT_EVT 0, F.U_STAT_RTS 0, F.U_CNT_ERR 0] ++ State.postNames))

/-- R333 to R350: a Damson channel starts from OFF at 0 V towards its code, is refused, comes ON, shuts down; a code
moves the output or begins a hold; a span change runs its steps; the stages swap; a short is reported; `DACCLR#`
forces the code. Where the spec leaves a point open the clauses follow the model's choices: log entries 1, 49, 50, 51.
-/
def Obligations.DamsonCommandsComplete : Prop :=
  ∀ (s : State) (m : Master) (n : Fin 16),
    (s.performs m (dmsAddr n 0) = true → s.get (F.DMS_CTRL_EN n) = 0 → s.dmsState n = unitOFF →
      s.get (F.DMS_CFG_MODE n) = 0 → s.get (F.DMS_CFG_SAFESEL n) < 3 → s.get (F.DMS_STAT_RET n) = 0 → s.get I.DMS_LOW = 0 →
      s.get (F.DMS_STAT_CW n) ≠ 0 →
      ∃ t, exec (.damsonEnable m n) s = .next t ∧ t.get (F.DMS_CTRL_EN n) = 1 ∧ t.dmsState n = unitSTARTING ∧
        t.get (F.DMS_CTRL_STATUS n) = stOK ∧ t.get (I.DMS_FROM n) = 0 ∧
        t.get (I.DMS_TO n) = codeUv (s.get (F.DMS_SPAN_ACTIVE n)) (s.get (F.DMS_CODE_C n) % 2 ^ 24) % 2 ^ 22 ∧
        t.get (F.DMS_STAT_SLEWING n) =
          (if codeUv (s.get (F.DMS_SPAN_ACTIVE n)) (s.get (F.DMS_CODE_C n) % 2 ^ 24) = 0 then 0 else 1) ∧
        s.OnlyRegs t (State.slewFields n ++ [F.DMS_CTRL_EN n, F.DMS_CTRL_STATE n, F.DMS_CTRL_STATUS n, I.DMS_TGT n,
          F.DMS_STAT_FORCED n, F.DMS_STAT_SPOK n, F.DMS_STAT_SC n] ++ State.rampFields n)) ∧
    (s.performs m (dmsAddr n 0) = true → s.get (F.DMS_CTRL_EN n) = 0 → s.dmsState n = unitOFF →
      s.get (F.DMS_CFG_SAFESEL n) < 3 → s.get (F.DMS_CFG_MODE n) = 0 → s.get (F.DMS_STAT_RET n) ≠ 0 →
      ∃ t, exec (.damsonEnable m n) s = .next t ∧ t.get (F.DMS_CTRL_STATUS n) = stNOSPARE ∧
        s.OnlyRegs t [F.DMS_CTRL_STATUS n]) ∧
    (s.performs m (dmsAddr n 0) = true → s.get (F.DMS_CTRL_EN n) ≠ 0 → s.dmsState n = unitON → s.dmsStreaming n = false →
      ∃ t, exec (.damsonDisable m n) s = .next t ∧ t.get (F.DMS_CTRL_EN n) = 0 ∧ t.dmsState n = unitSHUTTING ∧
        t.get (F.DMS_CTRL_STATUS n) = stOK ∧ t.get (I.DMS_FROM n) = s.dmsBall n % 2 ^ 22 ∧ t.get (I.DMS_TO n) = 0 ∧
        t.get (F.DMS_STAT_FORCED n) = 0 ∧
        s.OnlyRegs t (State.slewFields n ++ [F.DMS_CTRL_EN n, F.DMS_CTRL_STATE n, F.DMS_CTRL_STATUS n, I.DMS_PH n,
          F.DMS_STAT_FORCED n, F.DMS_SPAN_PEND n])) ∧
    (s.performs m (dmsAddr n 0) = true → s.get (F.DMS_CTRL_EN n) ≠ 0 → s.dmsState n = unitON → s.dmsStreaming n = true →
      ∃ t, exec (.damsonDisable m n) s = .next t ∧ t.get (F.DMS_CTRL_EN n) = 0 ∧ t.dmsState n = unitSHUTTING ∧
        t.get (I.DMS_RDIR n) = 2 ∧ t.get (I.DMS_RAT n) = s.frc % 2 ^ 64 ∧ t.get (I.DMS_FROM n) = vcmo ∧
        t.get (I.DMS_TO n) = 0 ∧ t.get (I.DMS_SAT n) = (s.dmsNow + 64 * (4 * s.sampleTclks)) % 2 ^ 64 ∧
        s.OnlyRegs t (State.slewFields n ++ [F.DMS_CTRL_EN n, F.DMS_CTRL_STATE n, F.DMS_CTRL_STATUS n, I.DMS_PH n,
          F.DMS_STAT_FORCED n, F.DMS_SPAN_PEND n] ++ State.rampFields n)) ∧
    (s.dmsDue (s.dmsArrives n) = true → s.dmsState n = unitSTARTING → s.get (I.DMS_HELD n) = 0 →
      ∃ t, exec (.damsonOn n) s = .next t ∧ t.dmsState n = unitON ∧ t.get (F.DMS_EVT_EVT n) % 2 = 1 ∧
        t.get (F.DMS_STAT_SLEWING n) = 0 ∧
        s.OnlyRegsEv t (State.slewFields n ++ [F.DMS_CTRL_STATE n, F.DMS_EVT_EVT n, I.DMS_HELD n, F.DMS_SPAN_PEND n])) ∧
    (s.dmsDue (s.dmsArrives n) = true → s.dmsState n = unitSHUTTING → s.get (F.DMS_CTRL_EN n) = 0 →
      ∃ t, exec (.damsonOff n) s = .next t ∧ t.dmsState n = unitOFF ∧ t.dmsOut n = 0 ∧ t.get (F.DMS_EVT_EVT n) / 2 % 2 = 1 ∧
        t.get (F.DMS_SPAN_ACTIVE n) = s.get (F.DMS_SPAN_SPAN n) % 4 ∧
        s.OnlyRegsEv t (State.slewFields n ++ [F.DMS_CTRL_STATE n, F.DMS_EVT_EVT n, F.DMS_SPAN_ACTIVE n, F.DMS_SPAN_PEND n,
          I.DMS_HELD n, F.DMS_STAT_SC n])) ∧
    (∀ code : BitVec 24, s.performs m (dmsAddr n 0x0C) = true → s.dmsState n = unitOFF →
      ∃ t, exec (.damsonCodeWrite m n code) s = .next t ∧ t.get (F.DMS_CODE_C n) = code.toNat ∧
        t.get (F.DMS_STAT_CW n) = 1 ∧ t.get (F.DMS_CTRL_STATUS n) = stOK ∧
        s.OnlyRegs t [F.DMS_CODE_C n, F.DMS_STAT_CW n, F.DMS_CTRL_STATUS n]) ∧
    (∀ code : BitVec 24, s.performs m (dmsAddr n 0x0C) = true → s.dmsState n = unitON → s.get (F.DMS_STAT_FORCED n) = 0 →
      s.get (F.DMS_CFG_MODE n) = 0 → s.get (F.DMS_STAT_HOLDING n) = 0 → s.get (F.DMS_STAT_SLEWING n) = 0 →
      max (s.get (I.DMS_TGT n)) code.toNat - min (s.get (I.DMS_TGT n)) code.toNat ≤ s.get (F.DMS_DGL_THR n) →
      ∃ t, exec (.damsonCodeWrite m n code) s = .next t ∧
        t.dmsOut n = codeUv (s.get (F.DMS_SPAN_ACTIVE n)) code.toNat % 2 ^ 22 ∧ t.get (F.DMS_CTRL_STATUS n) = stOK ∧
        s.OnlyRegs t [F.DMS_CODE_C n, F.DMS_STAT_CW n, F.DMS_CTRL_STATUS n, I.DMS_TGT n, I.DMS_FROM n, I.DMS_TO n,
          I.DMS_SAT n, F.DMS_STAT_SLEWING n]) ∧
    (∀ code : BitVec 24, s.performs m (dmsAddr n 0x0C) = true → s.dmsState n = unitON → s.get (F.DMS_STAT_FORCED n) = 0 →
      s.get (F.DMS_CFG_MODE n) = 0 → s.get (F.DMS_STAT_HOLDING n) = 0 → s.get (F.DMS_STAT_SLEWING n) = 0 →
      s.get (F.DMS_DGL_THR n) < max (s.get (I.DMS_TGT n)) code.toNat - min (s.get (I.DMS_TGT n)) code.toNat →
      ∃ t, exec (.damsonCodeWrite m n code) s = .next t ∧ t.get (F.DMS_STAT_HOLDING n) = 1 ∧ t.dmsOut n = s.dmsOut n ∧
        t.get (I.DMS_DUE n) = (s.dmsNow + s.dmsUs (s.get (F.DMS_DGL_HOLD n) + 1)) % 2 ^ 64 ∧
        s.OnlyRegs t [F.DMS_CODE_C n, F.DMS_STAT_CW n, F.DMS_CTRL_STATUS n, I.DMS_TGT n, F.DMS_STAT_HOLDING n,
          I.DMS_DUE n]) ∧
    (s.dmsDue (s.get (I.DMS_DUE n)) = true → s.get (F.DMS_STAT_HOLDING n) ≠ 0 →
      ∃ t, exec (.deglitchHoldEnd n) s = .next t ∧ t.get (F.DMS_STAT_HOLDING n) = 0 ∧
        t.get (F.DMS_STAT_SLEWING n) = (if s.dmsBall n = s.dmsGoal n then 0 else 1) ∧
        t.get (I.DMS_SAT n) = s.get (I.DMS_DUE n) % 2 ^ 64 ∧
        t.get (I.DMS_FROM n) = s.dmsBall n % 2 ^ 22 ∧ t.get (I.DMS_TO n) = s.dmsGoal n % 2 ^ 22 ∧
        s.OnlyRegs t (State.slewFields n)) ∧
    (s.dmsDue (s.dmsArrives n) = true → s.dmsState n = unitON → s.get (F.DMS_STAT_SLEWING n) ≠ 0 →
      ∃ t, exec (.slewComplete n) s = .next t ∧ t.get (F.DMS_STAT_SLEWING n) = 0 ∧
        t.dmsOut n = s.get (I.DMS_TO n) % 2 ^ 22 ∧ t.get (I.DMS_RDIR n) = 1 ∧ t.get (I.DMS_RAT n) = s.frc % 2 ^ 64 ∧
        s.OnlyRegs t (State.slewFields n ++ State.rampFields n)) ∧
    (s.dmsDue (s.dmsArrives n) = true → s.dmsState n = dmsSPANCHG → s.get (I.DMS_PH n) = 4 → s.get (I.DMS_HELD n) = 0 →
      ∃ t, exec (.slewComplete n) s = .next t ∧ t.dmsState n = unitON ∧ t.get (F.DMS_EVT_EVT n) / 4 % 2 = 1 ∧
        t.dmsOut n = s.get (I.DMS_TO n) % 2 ^ 22 ∧ t.get (I.DMS_RDIR n) = 1 ∧
        s.OnlyRegsEv t (State.slewFields n ++ [F.DMS_CTRL_STATE n, I.DMS_PH n, F.DMS_EVT_EVT n, I.DMS_HELD n,
          F.DMS_SPAN_PEND n] ++ State.rampFields n)) ∧
    (∀ sp : Fin 4, s.performs m (dmsAddr n 8) = true → s.dmsState n = unitOFF →
      s.get (F.DMS_CFG_MODE n) = 0 ∨ 2 ≤ sp.val →
      ∃ t, exec (.spanWrite m n sp) s = .next t ∧ t.get (F.DMS_SPAN_SPAN n) = sp.val ∧
        t.get (F.DMS_SPAN_ACTIVE n) = sp.val ∧ t.get (F.DMS_CTRL_STATUS n) = stOK ∧
        s.OnlyRegs t [F.DMS_SPAN_SPAN n, F.DMS_SPAN_ACTIVE n, F.DMS_CTRL_STATUS n]) ∧
    (∀ sp : Fin 4, s.performs m (dmsAddr n 8) = true → s.dmsState n = unitON → sp.val ≠ s.get (F.DMS_SPAN_ACTIVE n) →
      s.get (F.DMS_CFG_MODE n) = 0 ∨ 2 ≤ sp.val →
      ∃ t, exec (.spanWrite m n sp) s = .next t ∧ t.dmsState n = dmsSPANCHG ∧ t.get (F.DMS_SPAN_PEND n) = 1 ∧
        t.get (I.DMS_TO n) = s.dmsSafe n sp % 2 ^ 22 ∧ t.get (F.DMS_SPAN_ACTIVE n) = s.get (F.DMS_SPAN_ACTIVE n) ∧
        s.OnlyRegs t (State.slewFields n ++ [F.DMS_SPAN_SPAN n, F.DMS_CTRL_STATUS n, F.DMS_CTRL_STATE n, I.DMS_PH n,
          I.DMS_NSPAN n, I.DMS_HELD n, F.DMS_SPAN_PEND n])) ∧
    (s.dmsDue (s.dmsArrives n) = true → s.dmsState n = dmsSPANCHG → s.get (I.DMS_PH n) = 1 →
      ∃ t, exec (.spanSafeReached n) s = .next t ∧ t.get (I.DMS_PH n) = 2 ∧ t.dmsOut n = s.get (I.DMS_TO n) % 2 ^ 22 ∧
        t.get (I.DMS_DUE n) = (s.dmsArrives n + s.dmsUs 50) % 2 ^ 64 ∧
        s.OnlyRegs t (I.DMS_PH n :: I.DMS_DUE n :: State.slewFields n)) ∧
    (s.dmsDue (s.get (I.DMS_DUE n)) = true → s.dmsState n = dmsSPANCHG → s.get (I.DMS_PH n) = 2 →
      ∃ t, exec (.spanSwitch n) s = .next t ∧ t.get (F.DMS_SPAN_ACTIVE n) = s.get (I.DMS_NSPAN n) % 4 ∧
        t.get (I.DMS_PH n) = 3 ∧ t.get (I.DMS_DUE n) = (s.get (I.DMS_DUE n) + s.dmsUs 50) % 2 ^ 64 ∧
        s.OnlyRegs t [F.DMS_SPAN_ACTIVE n, I.DMS_PH n, I.DMS_DUE n]) ∧
    (s.dmsDue (s.get (I.DMS_DUE n)) = true → s.dmsState n = dmsSPANCHG → s.get (I.DMS_PH n) = 3 →
      ∃ t, exec (.spanSettleEnd n) s = .next t ∧ t.get (I.DMS_PH n) = 4 ∧
        t.get (F.DMS_STAT_SLEWING n) = (if s.dmsBall n = s.dmsGoal n then 0 else 1) ∧
        t.get (I.DMS_TO n) = s.dmsGoal n % 2 ^ 22 ∧ s.OnlyRegs t (I.DMS_PH n :: State.slewFields n)) ∧
    (s.get (I.DMS_SWAP n) ≠ 0 →
      ∃ t, exec (.damsonStageSwap n) s = .next t ∧ t.get (F.DMS_STAT_STAGE n) = (1 - s.get (F.DMS_STAT_STAGE n)) % 2 ∧
        t.get (F.DMS_STAT_SPOK n) = 0 ∧ t.get (F.DMS_EVT_EVT n) / 16 % 2 = 1 ∧
        s.OnlyRegsEv t [I.DMS_SWAP n, F.DMS_STAT_STAGE n, F.DMS_STAT_SPOK n, F.DMS_EVT_EVT n]) ∧
    (s.dmsState n ≠ unitOFF → s.standby = false → s.get (F.DMS_STAT_SC n) = 0 →
      ∃ t, exec (.shortCircuitOnset n) s = .next t ∧ t.get (F.DMS_STAT_SC n) = 1 ∧ t.get (F.DMS_EVT_EVT n) / 8 % 2 = 1 ∧
        s.OnlyRegsEv t [F.DMS_STAT_SC n, F.DMS_EVT_EVT n]) ∧
    (s.get (F.DMS_STAT_SC n) ≠ 0 →
      ∃ t, exec (.shortCircuitCleared n) s = .next t ∧ t.get (F.DMS_STAT_SC n) = 0 ∧
        t.get (F.DMS_STAT_SLEWING n) = (if t.get (I.DMS_FROM n) = s.get (I.DMS_TO n) then 0 else 1) ∧
        t.get (I.DMS_TO n) = s.get (I.DMS_TO n) % 2 ^ 22 ∧ t = { s with regs := t.regs, free := s.free + 1 } ∧
        s.KeepsFields t (F.DMS_STAT_SC n :: State.slewFields n)) ∧
    (s.driven ballDACCLR = none → s.get I.DMS_LOW = 0 →
      ∃ t, exec .dacclrAssert s = .next t ∧ t.get I.DMS_LOW = 1 ∧ t.get F.DMS_GSTAT_CLRLVL = 0 ∧
        (∀ k : Fin 16, s.get (F.DMS_SLEW_CLR_EN k) ≠ 0 → s.dmsState k = unitON → s.get (F.DMS_STAT_FORCED k) = 0 →
          t.get (F.DMS_STAT_FORCED k) = 1 ∧ t.get (I.DMS_TGT k) = s.get (F.DMS_CLRCODE_C k) % 2 ^ 24) ∧
        t = { s with regs := t.regs } ∧
        s.KeepsNames t ([I.DMS_OUTER, I.DMS_LOW, F.DMS_GSTAT_CLRLVL, F.DMS_STAT_FORCED 0, I.DMS_TGT 0] ++
          State.slewFields 0 ++ State.rampFields 0)) ∧
    (s.driven ballDACCLR = none → s.get I.DMS_LOW ≠ 0 →
      ∃ t, exec .dacclrRelease s = .next t ∧ t.get I.DMS_LOW = 0 ∧ t.get F.DMS_GSTAT_CLRLVL = 1 ∧
        (∀ k : Fin 16, s.dmsState k = unitON → s.get (F.DMS_STAT_FORCED k) ≠ 0 →
          t.get (F.DMS_STAT_FORCED k) = 0 ∧ t.get (I.DMS_TGT k) = s.get (F.DMS_CODE_C k) % 2 ^ 24) ∧
        t = { s with regs := t.regs } ∧
        s.KeepsNames t ([I.DMS_OUTER, I.DMS_LOW, F.DMS_GSTAT_CLRLVL, F.DMS_STAT_FORCED 0, I.DMS_TGT 0] ++
          State.slewFields 0 ++ State.rampFields 0))

/-- R351 to R363: what a conversion of the rotation and of the scan list writes, and what the meters' and loudness
groups' reads, resets and updates do. Where the spec leaves a point open the clauses follow the model's choices: log
entries 11, 52, 53, 54, 55, 56. -/
def Obligations.CurrantCommandsComplete : Prop :=
  ∀ (s : State) (m : Master) (code : BitVec 16),
    (s.converts true = true → s.get I.CUR_ROT < 16 → s.tapJudged (s.get I.CUR_ROT) = false →
      ∃ t, exec (.rotationConversion code) s = .next t ∧ t.get (F.CUR_RES_CODE (s.get I.CUR_ROT)) = code.toNat ∧
        t.get (F.CUR_RES_VALID (s.get I.CUR_ROT)) = 1 ∧ t.get I.CUR_ROT = s.get I.CUR_ROT + 1 ∧
        s.OnlyRegs t [I.CUR_SLOT, I.CUR_ROT, F.CUR_RES_CODE (s.get I.CUR_ROT), F.CUR_RES_VALID (s.get I.CUR_ROT)]) ∧
    (∀ ch : Nat, s.converts true = true → s.get I.CUR_ROT + 8 = ch → 28 ≤ ch → ch < 40 →
      s.monOutside ch code.toNat = false → s.get F.CUR_MONSTAT_WIN / 2 ^ (ch - 28) % 2 = 0 →
      ∃ t, exec (.rotationConversion code) s = .next t ∧ t.get (F.CUR_RES_CODE ch) = code.toNat ∧
        t.get (F.CUR_RES_VALID ch) = 1 ∧ t.get (I.CUR_RUN ch) = 0 ∧ t.get I.CUR_ROT = (s.get I.CUR_ROT + 1) % 32 ∧
        s.OnlyRegs t [I.CUR_SLOT, I.CUR_ROT, F.CUR_RES_CODE ch, F.CUR_RES_VALID ch, I.CUR_RUN ch]) ∧
    (∀ ch : Nat, s.converts true = true → s.get I.CUR_ROT + 8 = ch → 28 ≤ ch → ch < 40 →
      s.monOutside ch code.toNat = true → s.get F.CUR_MONSTAT_WIN / 2 ^ (ch - 28) % 2 = 0 → s.get (I.CUR_RUN ch) = 3 →
      ∃ t, exec (.rotationConversion code) s = .next t ∧ t.get (F.CUR_RES_CODE ch) = code.toNat ∧
        t.get F.CUR_MONSTAT_WIN / 2 ^ (ch - 28) % 2 = 1 ∧ t.get F.CUR_EVT_EVT % 2 = 1 ∧
        t.get (F.MDL_LOG_W (s.get F.MDL_LOGHEAD_NEXT) 0) = 0x0C * 2 ^ 24 + 9 * 2 ^ 16 + ch ∧
        t = { s with regs := t.regs, toDeliver := t.toDeliver, faults := t.faults } ∧
        s.KeepsNames t ([I.CUR_SLOT, I.CUR_ROT, F.CUR_RES_CODE 0, F.CUR_RES_VALID 0, I.CUR_RUN 0, F.CUR_MONSTAT_WIN, F.CUR_EVT_EVT] ++
          State.faultNames)) ∧
    (∀ e w : Nat, s.converts false = true → s.get F.CUR_CTRL_SCAN ≠ 0 → s.get I.CUR_PASS ≠ 0 → s.get I.CUR_ENT = e →
      s.get (I.CUR_LIST e) = w → State.listAvg w = 0 → State.listCh w < 24 → s.get I.CUR_CNT = 0 → s.get I.CUR_SUM = 0 →
      ∃ t, exec (.scanConversion code) s = .next t ∧ t.get (F.CUR_RES_CODE (State.listCh w)) = code.toNat ∧
        t.get (F.CUR_RES_VALID (State.listCh w)) = 1 ∧
        (s.nextEntry (e + 1) = none → t.get I.CUR_PASS = 0) ∧ (∀ k, s.nextEntry (e + 1) = some k → t.get I.CUR_ENT = k % 64) ∧
        s.OnlyRegs t [I.CUR_SLOT, F.CUR_RES_CODE (State.listCh w), F.CUR_RES_VALID (State.listCh w), I.CUR_CNT, I.CUR_SUM, I.CUR_ENT,
          I.CUR_PASS]) ∧
    (∀ w : Nat, s.converts false = true → s.get F.CUR_CTRL_SCAN ≠ 0 → s.get I.CUR_PASS ≠ 0 →
      s.get (I.CUR_LIST (s.get I.CUR_ENT)) = w → s.get I.CUR_CNT + 1 < 2 ^ State.listAvg w →
      ∃ t, exec (.scanConversion code) s = .next t ∧ t.get I.CUR_CNT = s.get I.CUR_CNT + 1 ∧
        s.OnlyRegs t [I.CUR_SLOT, I.CUR_CNT, I.CUR_SUM]) ∧
    (∀ k : Fin 1024, s.reads m (0xF4000 + 16 * k) = true →
      ∃ t, exec (.meterPeakRead m k) s = .next t ∧ t.get (I.RDATA m.id) = s.regWord (0xF4000 + 16 * k) % 2 ^ 32 ∧
        t.get (F.CUR_MTR0_TPK k) = 0x8000 ∧ t.get (F.CUR_MTR0_SPK k) = 0x8000 ∧
        t.latches.head?.map (fun l => (l.master, l.table, l.entry, l.words)) = some (m.id, 6, k.val, s.meterWords k) ∧
        t = { s with regs := t.regs, latches := t.latches } ∧
        s.KeepsFields t [I.RDATA m.id, I.PE_ABORT, F.CUR_MTR0_TPK k, F.CUR_MTR0_SPK k, I.MTR_N k]) ∧
    (∀ k : Fin 1024, s.get (F.CUR_MCFG_EN k) ≠ 0 → s.get (I.MTR_DN k) ≠ 0 → s.get (I.MTR_FALL k) = 0 →
      s.get (I.MTR_FAT k) + s.get (F.CUR_MCFG_HOLD k) * s.tclkHz / 10 < s.tclk + s.sampleTclks →
      ∃ t, exec (.peakHoldExpire k) s = .next t ∧ t.get (I.MTR_FALL k) = 1 ∧
        t.get (I.MTR_FAT k) = (s.get (I.MTR_FAT k) + s.get (F.CUR_MCFG_HOLD k) * s.tclkHz / 10) % 2 ^ 64 ∧
        t.get (F.CUR_MTR1_DPK k) = s.get (F.CUR_MTR1_DPK k) ∧ s.OnlyRegs t [I.MTR_FALL k, I.MTR_FAT k]) ∧
    (∀ (g : Fin 64) (w : Word), s.performs m (0xF8000 + 16 * g) = true →
      ∃ t, exec (.loudnessReset m g w) s = .next t ∧ t.get (F.CUR_LG0_RUN g) = natBits w.toNat 31 31 ∧
        t.get (F.CUR_LG1_M g) = 0x8000 ∧ t.get (F.CUR_LG1_S g) = 0x8000 ∧ t.get (F.CUR_LG2_I g) = 0x8000 ∧
        t.get F.CUR_CTRL_STATUS = stOK ∧
        s.OnlyRegs t [F.CUR_LG0_RUN g, F.CUR_CTRL_STATUS, I.LG_N g, I.LG_MEM g, I.LG_AT g, F.CUR_LG1_M g, F.CUR_LG1_S g,
          F.CUR_LG2_I g]) ∧
    (∀ g : Fin 64, s.get (F.CUR_LG0_RUN g) ≠ 0 →
      s.get (I.LG_AT g) + (s.get (I.LG_N g) + 1) * s.tclkHz / 10 < s.tclk + s.sampleTclks →
      ∃ t, exec (.loudnessUpdate g) s = .next t ∧ t.get (I.LG_N g) = min (s.get (I.LG_N g) + 1) (2 ^ 32 - 1) ∧
        (s.get (I.LG_N g) < 3 → t.get (F.CUR_LG1_M g) = 0x8000 ∧ t.get (F.CUR_LG2_I g) = 0x8000) ∧
        (s.get (I.LG_N g) < 29 → t.get (F.CUR_LG1_S g) = 0x8000) ∧ t = { s with regs := t.regs, free := s.free + 3 } ∧
        s.KeepsFields t [I.LG_N g, F.CUR_LG1_M g, F.CUR_LG1_S g, F.CUR_LG2_I g])

/-- R170, R262, R288, R404 to R416: prefetches land, an interrupted pip is repeated, rotations and loans pass through
their phases, repairs put spares into service, and faults and worn units are charged. Where the spec leaves a point
open the clauses follow the model's choices: log entries 1, 57, 58, 59, 60, 61, 62, 63, 64, 160, 161. -/
def Obligations.MedlarCommandsComplete : Prop :=
  ∀ (s : State) (c : Fin 64) (n : Nat),
    (∀ r : PipRun, (State.activeBank (s.core c)).run = none → (s.core c).next = some r → r.landed = false →
      (s.core c).frozen = false → s.unownedSource c r = none → s.sourcePending r = false → s.orcFlaws = [] →
      s.dramFlaws = [] →
      ∃ t, exec (.prefetchComplete c) s = .next t ∧ (t.core c).next = some { r with landed := true } ∧
        (t.core c).dmem = (s.landRun (s.core c) r).dmem ∧ (∀ k : Fin 65, k.val ≠ c.val → t.core k = s.core k) ∧
        t = { s with cores := t.cores }) ∧
    (∀ (r : PipRun) (imem : Bool), (State.activeBank (s.core c)).run = some r → r.reruns = 0 → (s.core c).frozen = false →
      s.mdlPermanent 3 1 (s.masterOf c) true = false →
      ∃ t, exec (.coreParityError c imem) s = .next t ∧
        (State.activeBank (t.core c)).run = some (State.repeatRun r imem) ∧ t.get F.MDL_EVT_EVT % 2 = 1 ∧
        (∀ k : Fin 65, k.val ≠ c.val → t.core k = s.core k) ∧
        t = { s with regs := t.regs, toDeliver := t.toDeliver, cores := t.cores, faults := t.faults } ∧
        s.KeepsNames t State.faultNames) ∧
    (s.get I.RPS_N = n + 1 → s.nextRepair I.RPS_ORD = none →
      ∃ t, exec .repairCopyComplete s = .next t ∧ t.get (F.MDL_MAP_PHYS n) = s.get (F.MDL_MAP_SPARE n) % 128 ∧
        t.get (F.MDL_MAP_PHASE n) = 0 ∧ t.get (I.PC_RET (s.get (F.MDL_MAP_PHYS n))) = 1 ∧
        t.get F.MDL_EVT_EVT / 4 % 2 = 1 ∧ t.get I.RPS_N = 0 ∧
        t = { s with regs := t.regs, toDeliver := t.toDeliver, cores := t.cores } ∧
        s.KeepsFields t (State.spareNames ++ [F.MDL_MAP_PHYS n, F.MDL_MAP_SPARE n, F.MDL_MAP_PHASE n, I.RPS_N,
          I.PC_RET (s.get (F.MDL_MAP_PHYS n)), I.PC_BUSY (s.get (F.MDL_MAP_SPARE n)), F.MDL_EVT_EVT])) ∧
    (∀ (p : Nat) (ps : List Nat), s.get F.MDL_CTRL_CT ≠ 0 → s.get I.ROT_N = 0 → s.get I.ROT_TEST = 0 →
      s.get F.CUR_MONSTAT_WARN = 0 → s.freeCores = p :: ps → s.rotTurn = some n →
      ∃ t, exec .rotationStart s = .next t ∧ t.get (F.MDL_MAP_PHASE n) = 1 ∧ t.get (F.MDL_MAP_SPARE n) = p ∧
        t.get I.ROT_N = n + 1 ∧ t.get F.MDL_COVER_CSUSP = 0 ∧
        s.OnlyRegs t (State.spareNames ++ [F.MDL_COVER_CSUSP, I.PC_BUSY p, I.ROT_N, I.ROT_NEXT, F.MDL_MAP_PHASE n,
          F.MDL_MAP_SPARE n])) ∧
    (s.get F.MDL_CTRL_CT ≠ 0 → s.get I.ROT_N = 0 → s.get I.ROT_TEST = 0 → s.get F.CUR_MONSTAT_WARN = 0 → s.freeCores = [] →
      ∃ t, exec .rotationStart s = .next t ∧ t.get F.MDL_COVER_CSUSP = 1 ∧ t.get F.MDL_EVT_EVT / 16 % 2 = 1 ∧
        s.OnlyRegsEv t [F.MDL_COVER_CSUSP, F.MDL_EVT_EVT]) ∧
    (s.get I.ROT_N = n + 1 → s.get (F.MDL_MAP_PHASE n) = 1 →
      ∃ t, exec .rotationCopyComplete s = .next t ∧ t.get (F.MDL_MAP_PHASE n) = 2 ∧ s.OnlyRegs t [F.MDL_MAP_PHASE n]) ∧
    (s.get I.ROT_N = n + 1 → s.get (F.MDL_MAP_PHASE n) = 2 → s.rotReady n = true →
      ∃ t, exec .rotationSwitch s = .next t ∧ t.get (F.MDL_MAP_PHYS n) = s.get (F.MDL_MAP_SPARE n) % 128 ∧
        t.get (F.MDL_MAP_PHASE n) = 0 ∧ t.get I.ROT_N = 0 ∧ t.get I.ROT_TEST = (s.get (F.MDL_MAP_PHYS n) + 1) % 128 ∧
        t.core n = { s.core n with flaws := [] } ∧ (∀ k : Fin 65, k.val ≠ n → t.core k = s.core k) ∧
        t = { s with regs := t.regs, cores := t.cores } ∧
        s.KeepsFields t (State.spareNames ++ [F.MDL_MAP_PHYS n, F.MDL_MAP_PHASE n, F.MDL_MAP_SPARE n,
          I.PC_BUSY (s.get (F.MDL_MAP_SPARE n)), I.PC_BUSY (s.get (F.MDL_MAP_PHYS n)), I.ROT_N, I.ROT_TEST, I.ROT_OF])) ∧
    (∀ march : Bool, s.get I.ROT_TEST = n + 1 → s.nextRepair I.RPS_ORD = none → s.get I.ROT_DUE = 0 →
      ∃ t, exec (.rotationTestComplete true march) s = .next t ∧ t.get I.ROT_TEST = 0 ∧ t.get (I.PC_BUSY n) = 0 ∧
        t.get (I.CTEST_AT (s.get I.ROT_OF)) = (s.tclk + 1) % 2 ^ 64 ∧
        s.OnlyRegs t (State.spareNames ++ State.coverNames ++ [I.ROT_TEST, I.PC_BUSY n, I.CTEST_AT (s.get I.ROT_OF)])) ∧
    (∀ march : Bool, s.get I.ROT_TEST = n + 1 → s.nextRepair I.RPS_ORD = none → s.get I.ROT_DUE = 0 →
      ∃ t, exec (.rotationTestComplete false march) s = .next t ∧ t.get (I.PC_RET n) = 1 ∧
        t.get F.MDL_EVT_EVT / 2 % 4 = 3 ∧
        t = { s with regs := t.regs, toDeliver := t.toDeliver, faults := t.faults } ∧
        s.KeepsNames t (State.faultNames ++ State.spareNames ++ State.coverNames ++ [I.ROT_TEST, I.PC_BUSY 0, I.PC_RET 0,
          I.CTEST_AT 0])) ∧
    (∀ (march : Bool) (k : Nat), s.get I.ROT_TEST = n + 1 → s.nextRepair I.RPS_ORD = none → s.get I.ROT_DUE ≠ 0 →
      s.get F.MDL_CTRL_CT ≠ 0 → s.get I.ROT_N = 0 → s.get F.CUR_MONSTAT_WARN = 0 → s.rotTurn = some k →
      (s.set (I.PC_BUSY n) 0).freeCores ≠ [] →
      ∃ t, exec (.rotationTestComplete true march) s = .next t ∧ t.get I.ROT_DUE = 0 ∧ t.get I.ROT_TEST = 0 ∧
        t.get I.ROT_N = k + 1 ∧ t.get (F.MDL_MAP_PHASE k) = 1 ∧
        t.get (F.MDL_MAP_SPARE k) ∈ (s.set (I.PC_BUSY n) 0).freeCores ∧
        t = { s with regs := t.regs } ∧
        s.KeepsNames t (State.spareNames ++ State.coverNames ++ [I.ROT_TEST, I.ROT_DUE, I.PC_BUSY 0, I.CTEST_AT 0,
          F.MDL_COVER_CSUSP, I.ROT_N, I.ROT_NEXT, F.MDL_MAP_PHASE 0, F.MDL_MAP_SPARE 0])) ∧
    (∀ (p : Nat) (ps : List Nat), s.get F.MDL_CTRL_BT ≠ 0 → s.get I.LOAN_N = 0 → s.get F.CUR_MONSTAT_WARN = 0 →
      s.freeBanks = p :: ps → s.loanTurn = some n →
      ∃ t, exec .loanStart s = .next t ∧ t.get (F.ORC_MAP_LOAN n) = 1 ∧ t.get (F.ORC_MAP_SPARE n) = p ∧
        t.get I.LOAN_N = n + 1 ∧ t.get F.MDL_COVER_BSUSP = 0 ∧
        s.OnlyRegs t (State.spareNames ++ [F.MDL_COVER_BSUSP, I.PB_BUSY p, I.LOAN_N, I.LOAN_NEXT, F.ORC_MAP_LOAN n,
          F.ORC_MAP_SPARE n])) ∧
    (s.get I.LOAN_N = n + 1 → s.get (F.ORC_MAP_LOAN n) = 1 →
      ∃ t, exec (.loanCopyComplete false) s = .next t ∧ t.get (F.ORC_MAP_LOAN n) = 2 ∧
        t.orcFlaws = s.orcFlaws.filter (fun f => !decide (f.ix / 0x40000 = n)) ∧
        t = { s with regs := t.regs, orcFlaws := t.orcFlaws } ∧ s.KeepsFields t [F.ORC_MAP_LOAN n]) ∧
    (s.get I.RPL_N = n + 1 → s.get (F.ORC_MAP_LOAN n) = 1 → s.get I.RPL_TEST = 0 → s.nextRepair I.RPL_ORD = none →
      ∃ t, exec (.loanCopyComplete true) s = .next t ∧ t.get (F.ORC_MAP_PHYS n) = s.get (F.ORC_MAP_SPARE n) % 128 ∧
        t.get (F.ORC_MAP_LOAN n) = 0 ∧ t.get (I.PB_RET (s.get (F.ORC_MAP_PHYS n))) = 1 ∧
        t.get F.MDL_EVT_EVT / 4 % 2 = 1 ∧
        t.orcFlaws = s.orcFlaws.filter (fun f => !decide (f.ix / 0x40000 = n)) ∧
        t = { s with regs := t.regs, toDeliver := t.toDeliver, orcFlaws := t.orcFlaws } ∧
        s.KeepsFields t (State.spareNames ++ [F.ORC_MAP_PHYS n, F.ORC_MAP_SPARE n, F.ORC_MAP_LOAN n,
          I.PB_BUSY (s.get (F.ORC_MAP_SPARE n)), I.PB_RET (s.get (F.ORC_MAP_PHYS n)), I.RPL_N, F.MDL_EVT_EVT])) ∧
    (s.get I.LOAN_N = n + 1 → s.get (F.ORC_MAP_LOAN n) = 2 → s.nextRepair I.RPL_ORD = none →
      s.get I.LOAN_DUE = 0 →
      ∃ t, exec (.loanTestComplete false true) s = .next t ∧
        t.get (F.ORC_MAP_PHYS n) = s.get (F.ORC_MAP_SPARE n) % 128 ∧ t.get (F.ORC_MAP_LOAN n) = 0 ∧ t.get I.LOAN_N = 0 ∧
        t.get (I.BTEST_AT n) = (s.tclk + 1) % 2 ^ 64 ∧
        s.OnlyRegs t (State.spareNames ++ State.coverNames ++ [F.ORC_MAP_PHYS n, F.ORC_MAP_SPARE n, F.ORC_MAP_LOAN n,
          I.PB_BUSY (s.get (F.ORC_MAP_SPARE n)), I.LOAN_N, I.BTEST_AT n])) ∧
    (s.get I.LOAN_N = n + 1 → s.get (F.ORC_MAP_LOAN n) = 2 → s.nextRepair I.RPL_ORD = none →
      s.get I.LOAN_DUE = 0 →
      ∃ t, exec (.loanTestComplete false false) s = .next t ∧
        t.get (F.ORC_MAP_PHYS n) = s.get (F.ORC_MAP_SPARE n) % 128 ∧
        t.get (I.PB_RET (s.get (F.ORC_MAP_PHYS n))) = 1 ∧ t.get F.MDL_EVT_EVT / 2 % 4 = 3 ∧
        t = { s with regs := t.regs, toDeliver := t.toDeliver, faults := t.faults } ∧
        s.KeepsNames t (State.faultNames ++ State.spareNames ++ State.coverNames ++ [F.ORC_MAP_PHYS 0, F.ORC_MAP_SPARE 0,
          F.ORC_MAP_LOAN 0, I.PB_BUSY 0, I.PB_RET 0, I.LOAN_N, I.BTEST_AT 0])) ∧
    (∀ h : Fin 512, s.get (I.ASRC_NEW h) = n + 1 →
      s.get (I.ASRC_GONE h) ≠ 0 ∨ s.frc % s.blockLen = 0 ∧ s.lasted (s.get (I.ASRC_RPAT h)) 4000 = true →
      ∃ t, exec (.asrcSpareTakeover h) s = .next t ∧ t.get (F.ASRC_CH_PHYS h) = n % 1024 ∧ t.get (I.ASRC_NEW h) = 0 ∧
        t.get (F.SYS_CLAIM_OWNER (1088 + n % 1024)) = s.get (F.SYS_CLAIM_OWNER (s.asrcSlot h)) % 2 ^ 16 ∧
        t.get F.ASRC_EVT_EVT / 8 % 2 = 1 ∧
        s.OnlyRegsEv t [F.SYS_CLAIM_OWNER (s.asrcSlot h), F.SYS_CLAIM_OWNER (1088 + n % 1024), F.ASRC_CH_PHYS h,
          I.ASRC_NEW h, I.ASRC_GONE h, F.ASRC_EVT_EVT]) ∧
    (∀ h : Fin 512, s.mdlPermanent 8 3 (s.get (F.ASRC_CH_PHYS h)) true = false →
      ∃ t, exec (.asrcCoefficientParityError h false) s = .next t ∧ t.get (I.ASRC_PAR (s.get (F.ASRC_CH_PHYS h))) = 1 ∧
        t.get F.MDL_EVT_EVT % 2 = 1 ∧ t = { s with regs := t.regs, toDeliver := t.toDeliver, faults := t.faults } ∧
        s.KeepsNames t (I.ASRC_PAR 0 :: State.faultNames)) ∧
    (∀ (k : Fin 206) (slow : BitVec 16), slow.toNat ≤ s.get F.MDL_AGE_THR →
      ∃ t, exec (.ageingRead k slow) s = .next t ∧ t.get (F.MDL_AGEV_SLOW k) = slow.toNat ∧
        s.OnlyRegs t [F.MDL_AGEV_SLOW k]) ∧
    (∀ (k : Fin 72) (slow : BitVec 16), s.get F.MDL_AGE_THR < slow.toNat → s.coreSpare k = true →
      (∀ j : Fin 64, s.get (F.MDL_MAP_PHASE j) = 0 ∨ s.get (F.MDL_MAP_SPARE j) ≠ k) →
      ∃ t, exec (.ageingRead (k.castLE (by decide)) slow) s = .next t ∧ t.get (F.MDL_AGEV_SLOW k) = slow.toNat ∧
        t.get (I.PC_RET k) = 1 ∧ t.get F.MDL_EVT_EVT / 32 % 2 = 1 ∧ t.get F.MDL_EVT_EVT / 2 % 2 = 1 ∧
        t = { s with regs := t.regs, toDeliver := t.toDeliver, faults := t.faults } ∧
        s.KeepsNames t (State.faultNames ++ State.spareNames ++ [F.MDL_AGEV_SLOW 0, I.PC_RET 0, I.PC_BUSY 0]))

/-- R364, R368, R375, R482: the PCIe link changes and the host marks a block of its input ring. R496 to R500: a GPIO
pin is enabled with its claim and disabled, an edge sets its cause, and a boundary-scan instruction is taken. Where
the spec leaves a point open the clauses follow the model's choices: log entry 109. -/
def Obligations.HostPortAndPinCommandsComplete : Prop :=
  ∀ (s : State) (m : Master) (n : Fin 48) (w : Word),
    (∀ (up l1 : Bool) (width gen : Fin 4), s.on F.HIF_LINK_UP ≠ up →
      ∃ t, exec (.pcieLinkChange up l1 width gen) s = .next t ∧ t.get F.HIF_LINK_UP = b2n up ∧ t.get F.HIF_LINK_L1 = b2n l1 ∧
        t.get F.HIF_LINK_WIDTH = width.val ∧ t.get F.HIF_LINK_GEN = gen.val ∧ t.get F.HIF_EVT_EVT % 2 = 1 ∧
        (up = true → t.get I.PEWAKE = 0) ∧
        s.OnlyRegsEv t [F.HIF_LINK_UP, F.HIF_LINK_L1, F.HIF_LINK_WIDTH, F.HIF_LINK_GEN, F.HIF_EVT_EVT, I.PEWAKE]) ∧
    (s.performs m 0x100088 = true →
      ∃ t, exec (.hostStreamBlockWrite m w) s = .next t ∧ t.get F.HIF_HS_BLK0_J = w.toNat ∧
        s.OnlyRegs t [F.HIF_HS_BLK0_J]) ∧
    (s.performs m (0x130000 + 4 * n) = true → natBits w.toNat 9 8 ≠ 3 → s.get (F.PIN_GP_EN n) = 0 →
      s.get (F.SYS_CLAIM_OWNER (gpSlot n)) = 0 →
      ∃ t, exec (.gpioEnable m n w) s = .next t ∧ t.get (F.PIN_GP_EN n) = 1 ∧ t.get (F.PIN_GP_STATE n) = unitON ∧
        t.get (F.PIN_GP_STATUS n) = stOK ∧ t.get (F.PIN_GP_OUT n) = natBits w.toNat 2 2 ∧
        t.get (F.PIN_GP_DIR n) = natBits w.toNat 3 3 ∧ t.get (F.SYS_CLAIM_OWNER (gpSlot n)) = gpFid n ∧
        s.OnlyRegsEv t (State.gpFields n ++ [F.PIN_GP_EN n, F.PIN_GP_STATE n, F.PIN_GP_STATUS n, F.PIN_GP_IN n,
          F.PIN_EVT_LO_EDGE, F.PIN_EVT_HI_EDGE, F.SYS_CLAIM_OWNER (gpSlot n)])) ∧
    (s.performs m (0x130000 + 4 * n) = true → natBits w.toNat 9 8 = 3 →
      ∃ t, exec (.gpioEnable m n w) s = .next t ∧ t.get (F.PIN_GP_STATUS n) = stBADARG ∧
        s.OnlyRegs t [F.PIN_GP_STATUS n]) ∧
    (s.performs m (0x130000 + 4 * n) = true → natBits w.toNat 9 8 ≠ 3 → s.get (F.PIN_GP_EN n) ≠ 0 →
      ∃ t, exec (.gpioDisable m n w) s = .next t ∧ t.get (F.PIN_GP_EN n) = 0 ∧ t.get (F.PIN_GP_STATE n) = unitOFF ∧
        t.get (F.PIN_GP_STATUS n) = stOK ∧ t.get (F.SYS_CLAIM_OWNER (gpSlot n)) ≠ gpFid n ∧
        s.OnlyRegsEv t (State.gpFields n ++ [F.PIN_GP_EN n, F.PIN_GP_STATE n, F.PIN_GP_STATUS n, F.PIN_GP_IN n,
          F.PIN_EVT_LO_EDGE, F.PIN_EVT_HI_EDGE, F.SYS_CLAIM_OWNER (gpSlot n)])) ∧
    (∀ b : Bool, s.boundary = false → s.gpDrives n = false → s.gpTimed n = false → s.driven (.slot (Fin.ofNat 1024 (gpSlot n))) = none →
      s.get (F.PIN_GP_IEDGE n) / (if b then 1 else 2) % 2 = 1 →
      ∃ t, exec (.gpioEdge n b) s = .next t ∧ t.get (F.PIN_GP_IN n) = b2n b ∧
        (n.val < 32 → t.get F.PIN_EVT_LO_EDGE / 2 ^ n.val % 2 = 1) ∧
        (32 ≤ n.val → t.get F.PIN_EVT_HI_EDGE / 2 ^ (n.val - 32) % 2 = 1) ∧
        s.OnlyRegsEv t [F.PIN_GP_IN n, F.PIN_EVT_LO_EDGE, F.PIN_EVT_HI_EDGE]) ∧
    (∃ t, exec .bypass s = .next t ∧ t.get I.JTAG_IR = 0 ∧ s.OnlyRegs t [I.JTAG_IR]) ∧
    (∀ cells : List (Nat × Bool),
      ∃ t, exec (.samplePreload cells) s = .next t ∧ t.get I.JTAG_IR = 1 ∧ t.jtag = cells ∧
        t = { s with regs := t.regs, jtag := t.jtag } ∧ s.KeepsFields t [I.JTAG_IR]) ∧
    (∃ t, exec .extest s = .next t ∧ t.get I.JTAG_IR = 2 ∧ t.boundary = true ∧ s.OnlyRegs t [I.JTAG_IR]) ∧
    (∃ t, exec .idcode s = .next t ∧ t.get I.JTAG_IR = 3 ∧ t.get I.JTAG_DR % 2 = 1 ∧ t.get I.JTAG_DR / 2 ^ 28 = 1 ∧
      t.get I.JTAG_DR / 2 ^ 12 % 2 ^ 16 = 0x0B77 ∧ s.OnlyRegs t [I.JTAG_IR, I.JTAG_DR]) ∧
    (∃ t, exec .highz s = .next t ∧ t.get I.JTAG_IR = 4 ∧ t.boundary = true ∧ s.OnlyRegs t [I.JTAG_IR]) ∧
    (∃ t, exec .clamp s = .next t ∧ t.get I.JTAG_IR = 5 ∧ t.boundary = true ∧ s.OnlyRegs t [I.JTAG_IR]) ∧
    (∃ t, exec .trstAssert s = .next t ∧ t.boundary = false ∧ s.OnlyRegs t [I.JTAG_IR])

/-- R444, R446: what a unit of a chain does with each kind of frame whose CRC is good. Where the spec leaves a point
open the clauses follow the model's choices: log entry 116. -/
def Obligations.ChainFramesComplete : Prop :=
  ∀ (s : State) (h : ChainHdr), s.get F.CFG_CHAIN_EN ≠ 0 → h.crcOk = true →
    (s.get F.CFG_SESS_SRC = 0 → s.get F.CFG_TRIAL_ACTIVE = 0 →
      ∃ t, exec (.chainOffer h) s = .next t ∧ t.get F.CFG_SESS_SRC = 4 ∧ t.get F.CFG_SESS_HOLDER = 0x50 ∧
        t.get I.CH_HOP = (h.hop.val + 1) % 64 ∧ t.get I.CH_HEAD = 0 ∧ t.get F.CFG_EVT_EVT % 2 = 1 ∧
        t = { s with regs := t.regs, toDeliver := t.toDeliver, graft := { s.graft with sent := [], hops := [] } } ∧
        s.KeepsFields t [F.CFG_SESS_SRC, F.CFG_SESS_HOLDER, I.CFG_UNL, I.CFG_WRONG, F.CFG_SESS_STATUS, F.CFG_SESS_REASON,
          F.CFG_EVT_EVT, I.CH_BAD, I.CH_CANT, I.CH_SENT, I.CH_HEAD, I.CH_HOP]) ∧
    (s.get F.CFG_SESS_SRC ≠ 0 →
      ∃ t, exec (.chainOffer h) s = .next t ∧ t.get I.CH_CANT = 1 ∧ t.get I.CH_HOP = (h.hop.val + 1) % 64 ∧
        t.graft.sent.getLast? = some ⟨0x12, h.hop.val + 1, true, State.statusBytes stBUSY rsnSESSION_BUSY⟩ ∧
        t = { s with regs := t.regs, graft := { s.graft with sent := t.graft.sent } } ∧
        s.KeepsFields t [I.CH_CANT, I.CH_HOP]) ∧
    (∀ bs : List Byte, s.get F.CFG_SESS_SRC = 4 → s.get I.CH_SENT = 0 → s.get F.CFG_STAGE_STATE = 0 → bs.length < 8 →
      ∃ t, exec (.chainData h bs) s = .next t ∧ t.graft.pkg = bs ∧ t.get F.CFG_STAGE_STATE = 1 ∧
        t.get F.CFG_XFER_OFF_N = bs.length ∧
        (s.get F.CFG_CHAIN_LAST = 0 → h.hop.val < 63 →
          t.graft.sent.getLast? = some ⟨0x11, h.hop.val + 1, false, bs⟩) ∧
        t = { s with regs := t.regs, graft := { s.graft with sent := t.graft.sent, pkg := bs, parts := [] } } ∧
        s.KeepsFields t [F.CFG_STAGE_STATE, F.CFG_XFER_OFF_N, F.CFG_STAGE_REASON]) ∧
    (∀ st : Byte, s.get I.CH_HEAD ≠ 0 →
      ∃ t, exec (.chainStaged h st) s = .next t ∧ t.graft.hops = s.graft.hops ++ [64 + h.hop.val] ∧
        t.get I.CH_BAD = (if st = 0 then s.get I.CH_BAD else 1) ∧
        t = { s with regs := t.regs, graft := { s.graft with hops := t.graft.hops } } ∧ s.KeepsFields t [I.CH_BAD]) ∧
    (∀ st : Byte, s.get I.CH_HEAD = 0 →
      ∃ t, exec (.chainStaged h st) s = .next t ∧ t.graft.sent = s.graft.sent ++ [⟨0x12, h.hop.val, true, [st, 0]⟩] ∧
        t = { s with graft := { s.graft with sent := t.graft.sent } }) ∧
    (∀ (d : BitVec 256) (f : Nat), s.digestIs d = true → (s.setF f).armFault = none →
      ∃ t, exec (.chainArm h d f) s = .next t ∧
        t.graft.sent.getLast? = some ⟨0x14, s.get I.CH_HOP, true, State.statusBytes stOK 0⟩ ∧
        t.get F.CFG_ACT_FRC_LO_F = f % 2 ^ 32 ∧ t.get F.CFG_ACT_FRC_HI_F = f / 2 ^ 32 % 2 ^ 32 ∧
        t = { s with regs := t.regs, graft := { s.graft with sent := t.graft.sent } } ∧
        s.KeepsFields t [F.CFG_ACT_FRC_LO_F, F.CFG_ACT_FRC_HI_F]) ∧
    (∀ (d : BitVec 256) (f : Nat), s.digestIs d = false →
      ∃ t, exec (.chainArm h d f) s = .next t ∧
        t.graft.sent.getLast? = some ⟨0x18, s.get I.CH_HOP, true, State.statusBytes stREFUSED rsnNOTSTAGED⟩ ∧
        t = { s with regs := t.regs, graft := { s.graft with sent := t.graft.sent } } ∧
        s.KeepsFields t [F.CFG_ACT_FRC_LO_F, F.CFG_ACT_FRC_HI_F]) ∧
    (s.get I.CH_HEAD ≠ 0 → s.get F.CFG_ACT_STATE = 0 →
      ∃ t, exec (.chainReady h) s = .next t ∧ t.graft.hops = s.graft.hops ++ [128 + h.hop.val] ∧
        t = { s with graft := { s.graft with hops := t.graft.hops } }) ∧
    (s.get I.CH_HEAD ≠ 0 → s.get F.CFG_ACT_STATE ≠ 0 → s.get I.CH_BAD = 0 → s.goSent = false →
      s.get F.CFG_CHAIN_LAST = 0 → s.chainHops = [h.hop.val] →
      ∃ t, exec (.chainReady h) s = .next t ∧ t.graft.sent = s.graft.sent ++ [⟨0x15, 0, false, s.armBytes⟩] ∧
        t = { s with graft := { s.graft with sent := t.graft.sent, hops := s.graft.hops ++ [128 + h.hop.val] } }) ∧
    (∀ (d : BitVec 256) (f : Nat), s.get F.CFG_SESS_SRC = 4 → s.digestIs d = true → s.refusal = none →
      4 * s.frc + s.rateHz ≤ 4 * f →
      ∃ t, exec (.chainGo h d f) s = .next t ∧ t.get F.CFG_ACT_STATE = 1 ∧ t.get F.CFG_EVT_EVT / 8 % 2 = 1 ∧
        t.get F.CFG_ACT_FRC_LO_F = f % 2 ^ 32 ∧
        t = { s with regs := t.regs, toDeliver := t.toDeliver, graft := { s.graft with sent := t.graft.sent } } ∧
        s.KeepsFields t [F.CFG_ACT_STATE, F.CFG_EVT_EVT, F.CFG_ACT_FRC_LO_F, F.CFG_ACT_FRC_HI_F]) ∧
    (s.get I.CH_HEAD ≠ 0 →
      ∃ t, exec (.chainVersion h) s = .next t ∧ t.graft.hops = s.graft.hops ++ [192 + h.hop.val] ∧
        t = { s with graft := { s.graft with hops := t.graft.hops } }) ∧
    (∀ k : Nat, s.get F.CFG_TRIAL_ACTIVE ≠ 0 → s.get F.CFG_TRIAL_HEALTHY ≠ 0 → s.bootSlot = k → k = 1 ∨ k = 2 →
      ∃ t, exec (.chainCommit h) s = .next t ∧ (t.flash.slot k).state = slotGOOD ∧
        (t.flash.slot k).commitno = ((s.flash.slot (3 - k)).commitno + 1) % 2 ^ 32 ∧ t.get F.CFG_TRIAL_ACTIVE = 0 ∧
        t.get F.CFG_EVT_EVT / 64 % 2 = 1 ∧ t.flash.slot (3 - k) = s.flash.slot (3 - k) ∧
        t = { s with regs := t.regs, toDeliver := t.toDeliver, flash := t.flash,
                     graft := { s.graft with sent := t.graft.sent } } ∧
        s.KeepsNames t [F.CFG_TRIAL_ACTIVE, F.CFG_EVT_EVT, I.SET_SLOT, I.KEY_REV 0]) ∧
    (∀ st : Byte, s.get F.CFG_TRIAL_ACTIVE = 0 → s.get F.CFG_ACT_STATE ≠ 0 →
      ∃ t, exec (.chainAbort h st) s = .next t ∧ t.get F.CFG_ACT_STATE = 0 ∧ t.get F.CFG_ACT_REASON = rsnCHAIN ∧
        t.get F.CFG_EVT_EVT / 16 % 2 = 1 ∧
        t = { s with regs := t.regs, toDeliver := t.toDeliver, graft := { s.graft with sent := t.graft.sent } } ∧
        s.KeepsFields t [F.CFG_ACT_STATE, F.CFG_ACT_REASON, F.CFG_EVT_EVT, I.CH_BAD])

/-- R447, R448: what Rind answers to each of its commands in recovery. Where the spec leaves a point open the clauses
follow the model's choices: log entry 84. -/
def Obligations.RecoveryCommandsComplete : Prop :=
  ∀ s : State, s.get I.BOOT_PH = 2 →
    (∃ t, exec .rindInfo s = .next t ∧
      t = { s with svc := { s.svc with out := s.svc.out ++ ["OK" ++ State.slotInfo s.flash.slotA ++
        State.slotInfo s.flash.slotB ++ State.copyInfo s.flash.copy0 ++ State.copyInfo s.flash.copy1] } }) ∧
    (∀ n : Nat, 9600 ≤ n → n ≤ 3000000 →
      ∃ t, exec (.rindBaud n) s = .next t ∧ t.get I.RL_BAUD = n ∧ t.svc.out = s.svc.out ++ ["OK"] ∧
        t = { s with regs := t.regs, svc := { s.svc with out := t.svc.out } } ∧ s.KeepsFields t [I.RL_BAUD]) ∧
    (∀ n : Nat, n < 9600 ∨ 3000000 < n →
      ∃ t, exec (.rindBaud n) s = .next t ∧ t = { s with svc := { s.svc with out := s.svc.out ++ ["ERR 04"] } }) ∧
    (∀ ds : List (Fin 10), s.get I.CFG_LOCKO = 0 → 1 ≤ ds.length → ds.length ≤ 8 → s.ownerHeld = true →
      sha256 (ds.map (fun d => BitVec.ofNat 8 (0x30 + d.val))) = s.heldOwner →
      ∃ t, exec (.rindCode ds) s = .next t ∧ t.get I.RL_UNL = 1 ∧ t.svc.out = s.svc.out ++ ["OK"] ∧
        t = { s with regs := t.regs, svc := { s.svc with out := t.svc.out } } ∧ s.KeepsFields t [I.RL_UNL]) ∧
    (∀ ds : List (Fin 10), s.get I.CFG_LOCKO = 0 → 1 ≤ ds.length → ds.length ≤ 8 → s.ownerHeld = false →
      ∃ t, exec (.rindCode ds) s = .next t ∧ t.get I.CFG_WRONG = min (s.get I.CFG_WRONG + 1) 7 ∧
        (4 ≤ s.get I.CFG_WRONG → t.get I.CFG_LOCKO = 1) ∧
        t = { s with regs := t.regs, svc := { s.svc with out := t.svc.out } } ∧
        s.KeepsFields t [I.CFG_WRONG, I.CFG_LOCKO]) ∧
    (∀ n : Nat, s.rindLocked = false → n ≠ 0 →
      ∃ t, exec (.rindLoad n) s = .next t ∧ t.get I.RL_LEFT = n % 2 ^ 32 ∧ t.get I.RL_BLK = 0 ∧
        t = { s with regs := t.regs, graft := { s.graft with pkg := [], parts := [] } } ∧
        s.KeepsFields t [I.RL_LEFT, I.RL_BLK]) ∧
    (∀ (k : Nat) (bs : List Byte), s.get I.RL_BLK = k → 4096 < s.get I.RL_LEFT → bs.length = 4096 →
      ∃ t, exec (.rindLoadBlock k bs true) s = .next t ∧ t.get I.RL_LEFT = (s.get I.RL_LEFT - 4096) % 2 ^ 32 ∧
        t.get I.RL_BLK = (k + 1) % 2 ^ 32 ∧ t.graft.pkg = s.graft.pkg ++ bs ∧
        t.svc.out = s.svc.out ++ ["ACK " ++ toString k] ∧
        t = { s with regs := t.regs, graft := { s.graft with pkg := t.graft.pkg }, svc := { s.svc with out := t.svc.out } } ∧
        s.KeepsFields t [I.RL_LEFT, I.RL_BLK]) ∧
    (∀ (k : Nat) (bs : List Byte), s.get I.RL_LEFT ≠ 0 →
      ∃ t, exec (.rindLoadBlock k bs false) s = .next t ∧
        t = { s with svc := { s.svc with out := s.svc.out ++ ["NAK " ++ toString (s.get I.RL_BLK)] } }) ∧
    (s.rindLocked = false →
      ∃ t, exec .rindEraseset s = .next t ∧ 
        t = { s with flash := { s.flash with copy0 := [], copy1 := [] }, svc := { s.svc with out := s.svc.out ++ ["OK"] } }) ∧
    (s.rindLocked = true →
      ∃ t, exec .rindEraseset s = .next t ∧ t.flash = s.flash ∧
        t = { s with svc := { s.svc with out := s.svc.out ++ ["ERR 03"] } }) ∧
    (s.get I.PW_HOLD = 0 → ∃ t, exec .rindBoot s = .next t ∧ s.WarmDone t F.SYS_RSTCAUSE_SRST 0)

/-- R436 to R443, R445: sessions are opened and closed, a piece staged, activation armed, disarmed, dropped and
performed, a trial committed or ended, settings written, and owner codes entered. Where the spec leaves a point open
the clauses follow the model's choices: log entries 111, 112, 113, 114, 115, 117, 118. -/
def Obligations.GraftCommandsComplete : Prop :=
  ∀ (s : State) (m : Master),
    (∀ (seq : BitVec 24) (x : Byte), s.inTurn seq.toNat = true → s.role = roleACTIVE →
      ∃ t, exec (.twinUpdateFrame seq true [0, x]) s = .next t ∧ t.get F.CFG_STAGE_PSTATE = x.toNat % 8 ∧
        s.Acked t seq.toNat 0 ∧ t = { s with regs := t.regs, twin := { s.twin with tx := t.twin.tx } } ∧
        s.KeepsFields t [F.CFG_STAGE_PSTATE, I.TWN_RXSEQ, I.TWN_LOST, I.TWN_OWED]) ∧
    (∀ (seq : BitVec 24) (d : List Byte), s.inTurn seq.toNat = true → d = sha256 s.runManifest →
      ∃ t, exec (.twinUpdateFrame seq true (4 :: d)) s = .next t ∧ t.get I.TWN_PHLT = 1 ∧ s.Acked t seq.toNat 0 ∧
        t = { s with regs := t.regs, twin := { s.twin with tx := t.twin.tx } } ∧
        s.KeepsFields t [I.TWN_PHLT, I.TWN_RXSEQ, I.TWN_LOST, I.TWN_OWED]) ∧
    (∀ c : Bool, s.performs m 0x40000 = true → s.get F.CFG_SESS_SRC = 0 → s.get F.CFG_TRIAL_ACTIVE = 0 →
      s.get F.CFG_CHAIN_EN = 0 →
      ∃ t, exec (.sessionOpen m c) s = .next t ∧ t.get F.CFG_SESS_SRC = State.sessSrc m c ∧
        t.get F.CFG_SESS_HOLDER = m.id ∧ t.get F.CFG_SESS_STATUS = stOK ∧ t.get F.CFG_EVT_EVT % 2 = 1 ∧
        t = { s with regs := t.regs, toDeliver := t.toDeliver, graft := { s.graft with sent := [], hops := [] } } ∧
        s.KeepsFields t [F.CFG_SESS_SRC, F.CFG_SESS_HOLDER, I.CFG_UNL, I.CFG_WRONG, F.CFG_SESS_STATUS, F.CFG_SESS_REASON,
          F.CFG_EVT_EVT, I.CH_BAD, I.CH_CANT, I.CH_SENT, I.CH_HEAD]) ∧
    (∀ c : Bool, s.performs m 0x40000 = true → s.get F.CFG_SESS_SRC ≠ 0 →
      ∃ t, exec (.sessionOpen m c) s = .next t ∧ t.get F.CFG_SESS_STATUS = stBUSY ∧
        t.get F.CFG_SESS_REASON = rsnSESSION_BUSY ∧ s.OnlyRegs t [F.CFG_SESS_STATUS, F.CFG_SESS_REASON]) ∧
    (s.performs m 0x40000 = true → s.holdsSession m = true → s.get F.CFG_STAGE_STATE ≠ 1 → s.get F.CFG_STAGE_STATE ≠ 2 →
      s.get F.CFG_ACT_STATE = 0 →
      ∃ t, exec (.sessionClose m) s = .next t ∧ t.get F.CFG_SESS_SRC = 0 ∧ t.get F.CFG_SESS_HOLDER = 0 ∧
        t.get F.CFG_SESS_STATUS = stOK ∧ t.get F.CFG_EVT_EVT % 2 = 1 ∧
        s.OnlyRegsEv t [F.CFG_SESS_SRC, F.CFG_SESS_HOLDER, I.CFG_UNL, F.CFG_SESS_STATUS, F.CFG_SESS_REASON,
          F.CFG_EVT_EVT]) ∧
    (s.get F.CFG_SESS_SRC ≠ 0 → s.get F.CFG_STAGE_STATE ≠ 1 → s.get F.CFG_STAGE_STATE ≠ 2 → s.get F.CFG_ACT_STATE = 0 →
      ∃ t, exec .sessionTimeout s = .next t ∧ t.get F.CFG_SESS_SRC = 0 ∧ t.get F.CFG_SESS_HOLDER = 0 ∧
        t.get F.CFG_EVT_EVT % 2 = 1 ∧ s.OnlyRegsEv t [F.CFG_SESS_SRC, F.CFG_SESS_HOLDER, I.CFG_UNL, F.CFG_EVT_EVT]) ∧
    (∀ w : Word, s.performs m 0x40008 = true → s.holdsSession m = true → s.get F.CFG_STAGE_BUSY = 0 →
      s.get F.CFG_ACT_STATE = 0 → State.inOrchard (s.get F.CFG_XFER_ADDR_ADDR) (w.toNat % 2 ^ 16 + 1) = true →
      s.rangeAdmits (.other 0x56) (s.get F.CFG_XFER_ADDR_ADDR) (w.toNat % 2 ^ 16 + 1) = true →
      s.rangePending (s.get F.CFG_XFER_ADDR_ADDR) (w.toNat % 2 ^ 16 + 1) = false → s.orcFlaws = [] →
      ∃ t, exec (.xferGo m w) s = .next t ∧ t.get F.CFG_STAGE_BUSY = 1 ∧ t.get F.CFG_SESS_STATUS = stOK ∧
        t.graft.piece = s.orcBytes (s.get F.CFG_XFER_ADDR_ADDR - orcBase) (w.toNat % 2 ^ 16 + 1) ∧
        t = { s with regs := t.regs, graft := { s.graft with piece := t.graft.piece } } ∧
        s.KeepsFields t [F.CFG_XFER_LEN, F.CFG_STAGE_BUSY, F.CFG_SESS_STATUS, F.CFG_SESS_REASON, I.CFG_LATE, I.CFG_LATE_A]) ∧
    (∀ w : Word, s.performs m 0x40008 = true → s.holdsSession m = true → s.get F.CFG_STAGE_BUSY = 0 →
      s.get F.CFG_ACT_STATE = 0 → State.inOrchard (s.get F.CFG_XFER_ADDR_ADDR) (w.toNat % 2 ^ 16 + 1) = true →
      s.rangeAdmits (.other 0x56) (s.get F.CFG_XFER_ADDR_ADDR) (w.toNat % 2 ^ 16 + 1) = true →
      s.rangePending (s.get F.CFG_XFER_ADDR_ADDR) (w.toNat % 2 ^ 16 + 1) = true →
      ∃ t, exec (.xferGo m w) s = .next t ∧ t.get F.CFG_STAGE_BUSY = 1 ∧ t.get F.CFG_SESS_STATUS = stOK ∧
        t.get I.CFG_LATE = w.toNat % 2 ^ 16 + 1 ∧ t.get I.CFG_LATE_A = s.get F.CFG_XFER_ADDR_ADDR % 2 ^ 32 ∧
        t = { s with regs := t.regs, graft := { s.graft with piece := [] } } ∧
        s.KeepsFields t [F.CFG_XFER_LEN, F.CFG_STAGE_BUSY, F.CFG_SESS_STATUS, F.CFG_SESS_REASON, I.CFG_LATE, I.CFG_LATE_A]) ∧
    (∀ w : Word, s.performs m 0x40008 = true → s.holdsSession m = true → s.get F.CFG_STAGE_BUSY = 0 →
      s.get F.CFG_ACT_STATE = 0 → State.inOrchard (s.get F.CFG_XFER_ADDR_ADDR) (w.toNat % 2 ^ 16 + 1) = false →
      ∃ t, exec (.xferGo m w) s = .next t ∧ t.get F.CFG_SESS_STATUS = stBADARG ∧
        s.OnlyRegs t [F.CFG_SESS_STATUS, F.CFG_SESS_REASON]) ∧
    (∀ bs : List Byte, s.get F.CFG_STAGE_BUSY ≠ 0 → s.get I.CH_HEAD = 0 → s.get F.CFG_STAGE_STATE = 0 →
      s.rangePending (s.get I.CFG_LATE_A) (s.get I.CFG_LATE) = false → s.orcFlaws = [] → bs.length < 8 →
      bs = (if s.get I.CFG_LATE = 0 then s.graft.piece else s.orcBytes (s.get I.CFG_LATE_A - orcBase) (s.get I.CFG_LATE)) →
      ∃ t, exec .pieceConsumed s = .next t ∧ t.get F.CFG_STAGE_BUSY = 0 ∧ t.get F.CFG_STAGE_STATE = 1 ∧
        t.graft.pkg = bs ∧ t.get F.CFG_XFER_OFF_N = bs.length ∧ t.get I.CFG_LATE = 0 ∧
        t = { s with regs := t.regs, graft := { s.graft with piece := [], pkg := t.graft.pkg, parts := [] } } ∧
        s.KeepsFields t [F.CFG_STAGE_BUSY, F.CFG_STAGE_STATE, F.CFG_XFER_OFF_N, F.CFG_STAGE_REASON, I.CFG_LATE]) ∧
    (s.get F.CFG_STAGE_BUSY ≠ 0 → s.rangePending (s.get I.CFG_LATE_A) (s.get I.CFG_LATE) = true →
      ∃ t, exec .pieceConsumed s = .next t ∧ t = s) ∧
    (s.performs m 0x40010 = true → s.holdsSession m = true → s.armFault = none → s.role = roleSOLO → s.get I.CH_HEAD = 0 →
      ∃ t, exec (.activationArm m) s = .next t ∧ t.get F.CFG_ACT_STATE = 1 ∧ t.get F.CFG_SESS_STATUS = stOK ∧
        t.get F.CFG_EVT_EVT / 8 % 2 = 1 ∧
        s.OnlyRegsEv t [F.CFG_ACT_STATE, F.CFG_ACT_REASON, F.CFG_SESS_STATUS, F.CFG_SESS_REASON, F.CFG_EVT_EVT]) ∧
    (∀ st r : Nat, s.performs m 0x40010 = true → s.holdsSession m = true → s.armFault = some (st, r) →
      ∃ t, exec (.activationArm m) s = .next t ∧ t.get F.CFG_SESS_STATUS = st % 256 ∧ t.get F.CFG_ACT_REASON = r % 256 ∧
        s.OnlyRegs t [F.CFG_ACT_REASON, F.CFG_SESS_STATUS, F.CFG_SESS_REASON]) ∧
    (s.performs m 0x40010 = true → s.holdsSession m = true → s.role = roleSOLO →
      ∃ t, exec (.activationDisarm m) s = .next t ∧ t.get F.CFG_ACT_STATE = 0 ∧ t.get F.CFG_SESS_STATUS = stOK ∧
        s.OnlyRegs t [F.CFG_ACT_STATE, F.CFG_SESS_STATUS, F.CFG_SESS_REASON]) ∧
    (∀ r : Nat, s.get F.CFG_ACT_STATE ≠ 0 → s.activationF ≤ s.frc → s.stagedSlot ≠ 0 → s.get I.ACT_PAIR = 0 →
      s.refusal = some r →
      ∃ t, exec .activationAtF s = .next t ∧ t.get F.CFG_ACT_STATE = 0 ∧ t.get F.CFG_ACT_REASON = r % 256 ∧
        t.get F.CFG_EVT_EVT / 16 % 2 = 1 ∧ t.flash = s.flash ∧
        t = { s with regs := t.regs, toDeliver := t.toDeliver, graft := { s.graft with sent := t.graft.sent } } ∧
        s.KeepsFields t [F.CFG_ACT_STATE, F.CFG_ACT_REASON, F.CFG_EVT_EVT]) ∧
    (s.get F.CFG_ACT_STATE ≠ 0 → s.activationF ≤ s.frc → s.stagedSlot ≠ 0 → s.get I.ACT_PAIR = 0 → s.refusal = none →
      s.get I.CH_HEAD = 0 → s.role = roleSOLO → s.get I.PW_HOLD = 0 →
      ∃ t, exec .activationAtF s = .next t ∧ s.WarmDone t F.SYS_RSTCAUSE_ACTIVATE s.strapBoot ∧
        (s.stagedSlot = 1 → s.strapBoot = 0 → t.flash.slotA.state = slotBOOTED)) ∧
    (s.performs .steward 0x4001C = true → s.get F.CFG_TRIAL_ACTIVE = 0 →
      ∃ t, exec (.trialHealthy .steward) s = .next t ∧ t.get F.CFG_TRIAL_HEALTHY = 1 ∧ t.get F.CFG_SESS_STATUS = stOK ∧
        s.OnlyRegs t [F.CFG_TRIAL_HEALTHY, F.CFG_SESS_STATUS, F.CFG_SESS_REASON]) ∧
    (s.performs .steward 0x4001C = true → s.get F.CFG_TRIAL_ACTIVE ≠ 0 → natBit (mfFlags s.runManifest) 0 = false →
      s.get F.CFG_CHAIN_EN = 0 → s.role ≠ roleSOLO → s.linkUp = true →
      ∃ t, exec (.trialHealthy .steward) s = .next t ∧ t.get F.CFG_TRIAL_HEALTHY = 1 ∧ t.get F.CFG_TRIAL_ACTIVE = 1 ∧
        t.twin.tx.getLast?.map (fun f => (f.kind, f.seq, f.words)) =
          some (7, s.get I.TWN_TXSEQ, 4 :: (sha256 s.runManifest).map (·.toNat)) ∧
        s.OnlyTwin t [F.CFG_TRIAL_HEALTHY, F.CFG_SESS_STATUS, F.CFG_SESS_REASON, I.TWN_TXSEQ]) ∧
    (∀ k : Nat, s.performs m 0x4001C = true → s.holdsSession m = true → s.get F.CFG_TRIAL_ACTIVE ≠ 0 →
      s.get F.CFG_TRIAL_HEALTHY ≠ 0 → s.pairHealthy = true → s.get I.CH_HEAD = 0 → s.bootSlot = k → k = 1 ∨ k = 2 →
      ∃ t, exec (.trialCommit m) s = .next t ∧ (t.flash.slot k).state = slotGOOD ∧
        (t.flash.slot k).commitno = ((s.flash.slot (3 - k)).commitno + 1) % 2 ^ 32 ∧ t.get F.CFG_TRIAL_ACTIVE = 0 ∧
        t.get F.CFG_EVT_EVT / 64 % 2 = 1 ∧ t.get F.CFG_SESS_STATUS = stOK ∧
        t = { s with regs := t.regs, toDeliver := t.toDeliver, flash := t.flash } ∧
        s.KeepsNames t [F.CFG_TRIAL_ACTIVE, F.CFG_EVT_EVT, I.SET_SLOT, I.KEY_REV 0, F.CFG_SESS_STATUS, F.CFG_SESS_REASON]) ∧
    (s.performs m 0x4001C = true → s.holdsSession m = true →
      s.get F.CFG_TRIAL_ACTIVE = 0 ∨ s.get F.CFG_TRIAL_HEALTHY = 0 →
      ∃ t, exec (.trialCommit m) s = .next t ∧ t.get F.CFG_SESS_STATUS = stREFUSED ∧
        s.OnlyRegs t [F.CFG_SESS_STATUS, F.CFG_SESS_REASON]) ∧
    (∀ k : Nat, s.performs .steward 0x4001C = true → s.get F.CFG_TRIAL_ACTIVE ≠ 0 → s.get I.PW_HOLD = 0 → s.bootSlot = k →
      k = 1 ∨ k = 2 →
      ∃ t, exec (.trialFail .steward) s = .next t ∧ s.WarmDone t F.SYS_RSTCAUSE_FALLBACK s.strapBoot ∧
        t.get I.FB_PEND = 1 ∧ (t.flash.slot k).state = slotFAILED) ∧
    (∀ k : Nat, s.get F.CFG_TRIAL_ACTIVE ≠ 0 → s.get I.PW_HOLD = 0 → s.bootSlot = k → k = 1 ∨ k = 2 →
      ∃ t, exec .trialTimeout s = .next t ∧ s.WarmDone t F.SYS_RSTCAUSE_FALLBACK s.strapBoot ∧
        t.get I.FB_PEND = 1 ∧ (t.flash.slot k).state = slotFAILED) ∧
    (∀ (format : BitVec 16) (body : List Byte), s.get I.BOOT_PH = 1 → body.length ≤ 1048544 →
      s.get F.CFG_TRIAL_ACTIVE = 0 →
      ∃ t, exec (.settingsCopyWrite format body true) s = .next t ∧ t.get I.SET_OK = 1 ∧
        (if writesCopy1 s.flash then t.flash.copy1 else t.flash.copy0) =
          copyHeader format.toNat ((State.highSeq s.flash + 1) % 2 ^ 32) body ++ body ∧
        (if writesCopy1 s.flash then t.flash.copy0 = s.flash.copy0 else t.flash.copy1 = s.flash.copy1) ∧
        t.flash.slotA = s.flash.slotA ∧ t.flash.slotB = s.flash.slotB ∧ t = { s with regs := t.regs, flash := t.flash } ∧
        s.KeepsNames t [I.SET_OK, I.SET_COPY, I.OWN_DIG 0]) ∧
    (∀ (w : Word) (ds : List Nat), s.performs m 0x40050 = true → s.get F.CFG_SESS_SRC ≠ 0 → s.get I.CFG_LOCKO = 0 →
      State.bcdDigits w.toNat = some ds → s.ownerMatches ds = true →
      ∃ t, exec (.ownerCodeEntry m w) s = .next t ∧ t.get I.CFG_UNL = 1 ∧ t.get F.CFG_SESS_STATUS = stOK ∧
        s.OnlyRegs t [I.CFG_UNL, F.CFG_SESS_STATUS, F.CFG_SESS_REASON]) ∧
    (∀ (w : Word) (ds : List Nat), s.performs m 0x40050 = true → s.get F.CFG_SESS_SRC ≠ 0 → s.get I.CFG_LOCKO = 0 →
      State.bcdDigits w.toNat = some ds → s.ownerMatches ds = false →
      ∃ t, exec (.ownerCodeEntry m w) s = .next t ∧ t.get I.CFG_WRONG = min (s.get I.CFG_WRONG + 1) 7 ∧
        t.get I.CFG_LOCKO = b2n (decide (4 ≤ s.get I.CFG_WRONG)) ∧ t.get F.CFG_SESS_STATUS = stAUTH ∧
        s.OnlyRegs t [I.CFG_WRONG, I.CFG_LOCKO, F.CFG_SESS_STATUS, F.CFG_SESS_REASON]) ∧
    (∃ t, exec .unlockLockoutEnd s = .next t ∧ t.get I.CFG_LOCKO = 0 ∧ t.get I.CFG_WRONG = 0 ∧
      s.OnlyRegs t [I.CFG_LOCKO, I.CFG_WRONG])

/-- R378, R380, R384, R388 to R392: the pair is enabled and disabled, a partner found or missed, lanes go ON and OFF,
the watchdog is kicked and expires, and roles change at a takeover, a swap, a forced take or a demotion. Where the
spec leaves a point open the clauses follow the model's choices: log entries 67, 72, 73, 74. -/
def Obligations.TwinRoleCommandsComplete : Prop :=
  ∀ (s : State) (m : Master) (w : Word) (l : Fin 4),
    (s.performs m 0x110000 = true → bits w.toNat [20, 22, 23] = 0 → F.TWN_CTRL_MATCHN.of w.toNat ≠ 0 →
      s.get F.TWN_CTRL_EN = 0 →
      ∃ t, exec (.twinEnable m w) s = .next t ∧ t.get F.TWN_CTRL_EN = 1 ∧ t.get F.TWN_CTRL_STATUS = stOK ∧
        t.get F.TWN_CTRL_MATCHN = natBits w.toNat 15 8 ∧ t.get F.TWN_CTRL_COLD = natBits w.toNat 21 21 ∧
        t.get F.TWN_CTRL_STATE = (if s.get F.TWN_STAT_LANES = 0 then unitSTARTING else unitON) ∧
        t.get I.TWN_ENAT = s.get I.PCLK % 2 ^ 64 ∧
        s.OnlyRegs t [F.TWN_CTRL_COLD, F.TWN_CTRL_MATCHN, F.TWN_CTRL_STATUS, F.TWN_CTRL_EN, F.TWN_CTRL_STATE,
          I.TWN_ENAT]) ∧
    (s.performs m 0x110000 = true → F.TWN_CTRL_MATCHN.of w.toNat = 0 → bits w.toNat [20, 22, 23] ≠ 1 →
      ∃ t, exec (.twinEnable m w) s = .next t ∧ t.get F.TWN_CTRL_STATUS = stBADARG ∧ s.OnlyRegs t [F.TWN_CTRL_STATUS]) ∧
    (s.performs m 0x110000 = true → bits w.toNat [20, 22, 23] = 0 → F.TWN_CTRL_MATCHN.of w.toNat ≠ 0 →
      s.get F.TWN_CTRL_EN ≠ 0 →
      ∃ t, exec (.twinDisable m w) s = .next t ∧ t.get F.TWN_CTRL_EN = 0 ∧ t.get F.TWN_STAT_ROLE = 0 ∧
        t.get F.TWN_STAT_SYNC = 0 ∧ t.get F.TWN_CTRL_STATE = unitOFF ∧ t.get F.TWN_CTRL_STATUS = stOK ∧
        t = { s with regs := t.regs, toDeliver := t.toDeliver, free := t.free } ∧
        s.KeepsFields t ([F.TWN_CTRL_COLD, F.TWN_CTRL_MATCHN, F.TWN_CTRL_STATUS, F.TWN_CTRL_EN, F.TWN_CTRL_STATE,
          F.TWN_STAT_SYNC, I.TWN_CPASS] ++ State.roleNames ++ State.lostNames)) ∧
    (∀ same : Bool, s.linkUp = true → s.get F.TWN_STAT_ROLE = 0 → s.get F.CFG_TRIAL_ACTIVE = 0 →
      ∃ t, exec (.twinPartnerFound ⟨.standby, same⟩) s = .next t ∧ t.get F.TWN_STAT_ROLE = 1 ∧ t.get F.TWN_EVT_EVT % 2 = 1 ∧
        s.Resyncs t ∧ t.get I.TWN_SAME = b2n same ∧ t.get I.TWN_CPASS = b2n same ∧
        t = { s with regs := t.regs, toDeliver := t.toDeliver, dirty := [], twin := { s.twin with pages := [] } } ∧
        s.KeepsFields t ([F.TWN_STAT_ROLE, I.TWN_SAME, I.TWN_PHLT] ++ State.copyNames)) ∧
    (∀ (p : Partner) (same : Bool), s.linkUp = true → s.get F.TWN_STAT_ROLE = 0 → s.get F.CFG_TRIAL_ACTIVE = 0 →
      p = .active ∨ (p = .undecided ∧ s.get F.TWN_STAT_STRAP = 0) →
      ∃ t, exec (.twinPartnerFound ⟨p, same⟩) s = .next t ∧ t.get F.TWN_STAT_ROLE = 2 ∧ t.get F.TWN_EVT_EVT % 2 = 1 ∧
        s.Resyncs t ∧ t.get I.TWN_SAME = b2n same ∧
        s.KeepsNames t ([I.TWN_SAME, I.TWN_PHLT] ++ State.roleNames ++ State.resyncNames)) ∧
    (∀ same : Bool, s.linkUp = true → s.get F.TWN_STAT_ROLE = 0 → s.get F.CFG_TRIAL_ACTIVE ≠ 0 →
      s.get F.CFG_TRIAL_HEALTHY ≠ 0 →
      ∃ t, exec (.twinPartnerFound ⟨.standby, same⟩) s = .next t ∧ t.get F.TWN_STAT_ROLE = 1 ∧ s.Resyncs t ∧
        t.twin.tx.getLast?.map (fun f => (f.kind, f.seq, f.words)) =
          some (7, s.get I.TWN_TXSEQ, 4 :: (sha256 s.runManifest).map (·.toNat))) ∧
    (∀ hb : Bool, s.get F.TWN_CTRL_EN ≠ 0 → s.get F.TWN_STAT_ROLE = 0 → s.get F.TWN_STAT_LANES = 0 →
      s.lasted (s.get I.TWN_ENAT) (100000 * s.get F.TWN_TIME_BOOTWAIT) = true →
      s.get F.TWN_STAT_STRAP ≠ 0 ∨ hb = false →
      ∃ t, exec (.twinBootwaitExpire hb) s = .next t ∧ t.get F.TWN_STAT_ROLE = 1 ∧ t.get F.TWN_EVT_EVT % 2 = 1 ∧
        s.OnlyRegsEv t [F.TWN_STAT_ROLE, F.TWN_EVT_EVT]) ∧
    (s.performs m (0x110080 + 4 * l) = true → s.get (F.TWN_LANE_STATE l) = unitOFF →
      ∃ t, exec (.twinLaneEnable m l) s = .next t ∧ t.get (F.TWN_LANE_EN l) = 1 ∧
        t.get (F.TWN_LANE_STATE l) = unitSTARTING ∧ t.get F.TWN_CTRL_STATUS = stOK ∧
        s.OnlyRegs t [F.TWN_LANE_EN l, F.TWN_LANE_STATE l, F.TWN_CTRL_STATUS]) ∧
    (s.performs m (0x110080 + 4 * l) = true → s.get (F.TWN_LANE_STATE l) = unitON → s.get (F.TWN_LANE_EN l) ≠ 0 →
      ∃ t, exec (.twinLaneDisable m l) s = .next t ∧ t.get (F.TWN_LANE_EN l) = 0 ∧
        t.get (F.TWN_LANE_STATE l) = unitOFF ∧ natBit (t.get F.TWN_STAT_LANES) l = false ∧
        s.OnlyRegsEv t ([F.TWN_LANE_EN l, F.TWN_LANE_STATE l, F.TWN_CTRL_STATUS, F.TWN_STAT_LANES, F.TWN_CTRL_STATE] ++
          State.lostNames)) ∧
    (s.get (F.TWN_LANE_STATE l) = unitSTARTING →
      ∃ t, exec (.twinLaneOn l) s = .next t ∧ t.get (F.TWN_LANE_STATE l) = unitON ∧
        natBit (t.get F.TWN_STAT_LANES) l = true ∧ (s.get F.TWN_CTRL_EN ≠ 0 → t.get F.TWN_CTRL_STATE = unitON) ∧
        t.get F.TWN_EVT_EVT / 16 % 2 = 1 ∧
        s.OnlyRegsEv t [F.TWN_LANE_STATE l, F.TWN_STAT_LANES, F.TWN_CTRL_STATE, F.TWN_EVT_EVT]) ∧
    (s.get (F.TWN_LANE_STATE l) = unitON →
      ∃ t, exec (.twinLaneCrcRetire l) s = .next t ∧ t.get (F.TWN_LANE_STATE l) = unitOFF ∧
        natBit (t.get F.TWN_STAT_LANES) l = false ∧ t.get F.TWN_CNT_LANE = min (s.get F.TWN_CNT_LANE + 1) 255 ∧
        t.get F.TWN_EVT_EVT / 16 % 2 = 1 ∧
        s.OnlyRegsEv t ([F.TWN_LANE_EN l, F.TWN_LANE_STATE l, F.TWN_STAT_LANES, F.TWN_CTRL_STATE, F.TWN_CNT_LANE,
          F.TWN_EVT_EVT] ++ State.lostNames)) ∧
    (s.frc % s.blockLen = s.blockLen / 2 →
      s.get F.TWN_STAT_HBIN ≠ 0 ∨ (∀ k ∈ s.tmActive, s.get (F.TMR_CAPCFG_CSRC k) ≠ 89) →
      ∃ t, exec (.heartbeatSample true) s = .next t ∧ t.get F.TWN_STAT_HBIN = 1 ∧
        t.get F.TWN_STAT_PEERHB = b2n (decide (s.get F.TWN_STAT_HBIN = 0)) ∧
        s.OnlyRegs t [F.TWN_STAT_PEERHB, F.TWN_STAT_HBIN]) ∧
    (s.frc % s.blockLen = s.blockLen / 2 →
      ∃ t, exec (.heartbeatSample false) s = .next t ∧ t.get F.TWN_STAT_HBIN = 0 ∧
        t.get F.TWN_STAT_PEERHB = b2n (decide (s.get F.TWN_STAT_HBIN ≠ 0)) ∧
        s.OnlyRegs t [F.TWN_STAT_PEERHB, F.TWN_STAT_HBIN]) ∧
    (∀ i : Nat, s.frc % s.blockLen = 0 → s.get I.TWN_DEMOTE = 0 → s.get I.TWN_XCH = 0 → s.get F.TWN_STAT_ROLE = 2 →
      s.get F.TWN_STAT_PEERHB = 0 → s.get F.TWN_STAT_SYNC = 2 → s.get I.TWN_HBP ≠ 0 →
      s.get F.CLK_STAT_MODE ≠ clkACQUIRE → s.ownRef = some i →
      ∃ t, exec .takeover s = .next t ∧ t.get F.TWN_STAT_ROLE = 1 ∧ t.get F.TWN_STAT_SYNC = 0 ∧
        t.get F.CLK_STAT_ACTIVE = i ∧ t.get F.CLK_STAT_MODE = clkPULLING ∧ t.get F.TWN_EVT_EVT % 2 = 1 ∧
        s.OnlyRegsFree t (F.TWN_STAT_SYNC :: State.roleNames)) ∧
    (s.frc % s.blockLen = 0 → s.get I.TWN_DEMOTE = 0 → s.get I.TWN_XCH = 0 → s.get F.TWN_STAT_ROLE = 1 →
      s.get I.TWN_HBF ≠ 0 → s.get I.TWN_HBF ≤ s.frc → s.get F.TWN_STAT_PEERHB ≠ 0 →
      ∃ t, exec .takeover s = .next t ∧ t.get F.TWN_STAT_ROLE = 2 ∧ t.get F.TWN_STAT_SYNC = 0 ∧
        t.get F.TWN_EVT_EVT % 2 = 1 ∧
        (s.get F.CLK_STAT_MODE ≠ clkACQUIRE → t.get F.CLK_STAT_ACTIVE = 7 ∧ t.get F.CLK_STAT_MODE = clkPULLING) ∧
        s.OnlyRegsFree t ([F.TWN_STAT_SYNC, I.TWN_HBF, I.TWN_SWAP] ++ State.roleNames)) ∧
    (s.frc % s.blockLen = 0 → s.get I.TWN_DEMOTE ≠ 0 → s.get F.TWN_STAT_ROLE ≠ 2 →
      ∃ t, exec .takeover s = .next t ∧ t.get F.TWN_STAT_ROLE = 2 ∧ t.get I.TWN_DEMOTE = 0 ∧ s.Resyncs t ∧
        s.KeepsNames t (I.TWN_DEMOTE :: State.roleNames ++ State.resyncNames)) ∧
    (s.frc % s.blockLen ≠ 0 → ∃ t, exec .takeover s = .next t ∧ t = s) ∧
    (s.performs m 0x110000 = true → bits w.toNat [20, 22] = 0 → natBit w.toNat 4 = true →
      s.get F.TWN_CTRL_EN ≠ 0 → F.TWN_CTRL_MATCHN.of w.toNat ≠ 0 → s.get F.TWN_STAT_ROLE = 1 → s.get F.TWN_STAT_SYNC = 2 →
      ∃ t, exec (.twinSwap m w) s = .next t ∧ t.get I.TWN_SWAP = 1 ∧ t.get F.TWN_CTRL_STATUS = stOK ∧
        t.twin.tx.getLast?.map (fun f => f.kind) = some 8 ∧
        s.OnlyTwin t [F.TWN_CTRL_COLD, F.TWN_CTRL_MATCHN, F.TWN_CTRL_STATUS, I.TWN_SWAP, I.TWN_TXSEQ]) ∧
    (s.performs m 0x110000 = true → bits w.toNat [20, 23] = 0 → natBit w.toNat 4 = true →
      F.TWN_CTRL_MATCHN.of w.toNat ≠ 0 → s.get F.TWN_STAT_ROLE = 2 → s.linkUp = true →
      ∃ t, exec (.twinTake m w) s = .next t ∧
        t.get I.TWN_XCH = (roundUp (s.frc + 1) s.blockLen + s.blockLen + 1) % 2 ^ 64 ∧
        t.get F.TWN_CTRL_STATUS = stOK ∧ t.twin.tx.getLast?.map (fun f => f.kind) = some 8 ∧
        s.OnlyTwin t [F.TWN_CTRL_COLD, F.TWN_CTRL_MATCHN, F.TWN_CTRL_STATUS, I.TWN_XCH, I.TWN_TXSEQ]) ∧
    (s.performs m 0x110000 = true → bits w.toNat [22, 23] = 0 → natBit w.toNat 4 = true →
      s.get F.TWN_CTRL_EN ≠ 0 → F.TWN_CTRL_MATCHN.of w.toNat ≠ 0 → s.get F.TWN_STAT_ROLE ≠ 0 →
      ∃ t, exec (.twinResync m w) s = .next t ∧ s.Resyncs t ∧ t.get F.TWN_CTRL_STATUS = stOK ∧
        s.KeepsNames t ([F.TWN_CTRL_COLD, F.TWN_CTRL_MATCHN, F.TWN_CTRL_STATUS] ++ State.resyncNames)) ∧
    (s.performs m 0x110000 = true → bits w.toNat [20, 23] = 0 → natBit w.toNat 4 = true →
      s.get F.TWN_CTRL_EN ≠ 0 → s.get F.TWN_STAT_ROLE ≠ 2 →
      ∃ t, exec (.twinTake m w) s = .next t ∧ t.get F.TWN_CTRL_STATUS = stREFUSED ∧ s.OnlyRegs t [F.TWN_CTRL_STATUS]) ∧
    (s.performs m 0x110000 = true → bits w.toNat [20, 22] = 0 → s.get F.TWN_STAT_ROLE ≠ 1 ∨ s.get F.TWN_STAT_SYNC ≠ 2 →
      ∃ t, exec (.twinSwap m w) s = .next t ∧ t.get F.TWN_CTRL_STATUS = stREFUSED ∧ s.OnlyRegs t [F.TWN_CTRL_STATUS]) ∧
    (s.performs m 0x110000 = true → bits w.toNat [22, 23] = 0 → s.get F.TWN_STAT_ROLE = 0 →
      ∃ t, exec (.twinResync m w) s = .next t ∧ t.get F.TWN_CTRL_STATUS = stREFUSED ∧ s.OnlyRegs t [F.TWN_CTRL_STATUS]) ∧
    (s.performs .steward 0x110008 = true →
      ∃ t, exec (.watchdogKick .steward w) s = .next t ∧ t.get I.TWN_WDX = 0 ∧
        t.get I.TWN_WDAT = s.get I.PCLK % 2 ^ 64 ∧
        t.get F.TWN_WDOG_PERIOD = natBits w.toNat 15 0 ∧ t.get F.TWN_CTRL_STATUS = stOK ∧
        s.OnlyRegs t [F.TWN_WDOG_PERIOD, F.TWN_CTRL_STATUS, I.TWN_WDX, I.TWN_WDAT]) ∧
    (s.lasted (s.get I.TWN_WDAT) (1000 * s.get F.TWN_WDOG_PERIOD) = true →
      ∃ t, exec .watchdogExpire s = .next t ∧ t.get I.TWN_WDX = 1 ∧ s.OnlyRegs t [I.TWN_WDX])

/-- R381 to R388: a frame of each kind received in turn takes its effect and is acknowledged, one out of turn is
answered by a NAK, frames are resent, and resynchronisation copies and starts the standby's engine at T. Where the
spec leaves a point open the clauses follow the model's choices: log entries 68, 69, 70, 71, 73, 75, 76. -/
def Obligations.TwinFrameCommandsComplete : Prop :=
  ∀ (s : State) (seq : BitVec 24),
    (∀ (tick : Nat) (item : MirrorItem), s.inTurn seq.toNat = true → s.get F.TWN_STAT_ROLE = 2 →
      ∃ t, exec (.twinMirrorFrame seq true tick item) s = .next t ∧ s.Acked t seq.toNat 1 ∧
        t.twin.items = s.twin.items ++ [{ tick := tick, item := item, seq := seq.toNat, acked := true }] ∧
        t = { s with regs := t.regs, twin := { s.twin with tx := t.twin.tx, items := t.twin.items } } ∧
        s.KeepsFields t [I.TWN_RXSEQ, I.TWN_LOST, I.TWN_OWED]) ∧
    (∀ (tick : Nat) (item : MirrorItem), s.linkUp = true → s.get I.TWN_RXSEQ ≠ seq.toNat →
      ∃ t, exec (.twinMirrorFrame seq true tick item) s = .next t ∧
        t.twin.tx.getLast?.map (fun f => (f.kind, f.seq)) = some (3, s.get I.TWN_RXSEQ) ∧
        t = { s with twin := { s.twin with tx := t.twin.tx } }) ∧
    (∀ credits : Fin 65, s.linkUp = true → s.twin.tx.any (fun f => decide (f.seq = seq.toNat) && !f.acked) = false →
      ∃ t, exec (.twinAckFrame seq ⟨true, credits⟩) s = .next t ∧ t = s) ∧
    (∀ credits : Fin 65, s.linkUp = true → s.twin.tx.any (fun f => decide (f.seq = seq.toNat) && !f.acked) = true →
      s.twin.waiting = [] →
      ∃ t, exec (.twinAckFrame seq ⟨true, credits⟩) s = .next t ∧
        t.twin.tx = s.twin.tx.map (fun g => if g.seq = seq.toNat then { g with acked := true } else g) ∧
        t.get I.TWN_CREDIT = min 64 (s.get I.TWN_CREDIT + credits.val) ∧ t.get I.TWN_LOST = 0 ∧
        t.twin.items = s.twin.items.map (fun x => if x.seq = seq.toNat then { x with acked := true } else x) ∧
        t = { s with regs := t.regs, twin := { s.twin with tx := t.twin.tx, items := t.twin.items } } ∧
        s.KeepsFields t [I.TWN_CREDIT, I.TWN_LOST]) ∧
    (∀ f : TxFrame, s.linkUp = true → s.twin.tx = [f] → f.seq = seq.toNat → f.acked = false → f.tries < 4 →
      ∃ t, exec (.twinNakFrame seq true) s = .next t ∧
        t.twin.tx = [{ f with tries := f.tries + 1, sent := s.get I.PCLK }] ∧
        t = { s with twin := { s.twin with tx := t.twin.tx } }) ∧
    (∀ f : TxFrame, s.twin.tx = [f] → f.seq = seq.toNat → f.acked = false → f.tries < 4 → s.lasted f.sent 64 = true →
      ∃ t, exec (.frameResendTimeout seq) s = .next t ∧
        t.twin.tx = [{ f with tries := f.tries + 1, sent := s.get I.PCLK }] ∧
        t = { s with twin := { s.twin with tx := t.twin.tx } }) ∧
    (∀ f : TxFrame, s.twin.tx = [f] → f.seq = seq.toNat → f.acked = false → 4 ≤ f.tries → s.lasted f.sent 64 = true →
      s.get I.TWN_LOST = 0 →
      ∃ t, exec (.frameResendTimeout seq) s = .next t ∧ t.get I.TWN_LOST = 1 ∧ t.get F.TWN_STAT_SYNC = 0 ∧
        t.get F.TWN_EVT_EVT / 2 % 2 = 1 ∧ s.OnlyRegsEv t [I.TWN_LOST, F.TWN_STAT_SYNC, F.TWN_EVT_EVT, I.TWN_CPASS]) ∧
    (∀ (blk : Nat) (crc : Word), s.inTurn seq.toNat = true → s.twin.crcs.find? (fun c => decide (c.1 = blk)) = none →
      ∃ t, exec (.twinStatusFrame seq true blk crc) s = .next t ∧ s.Acked t seq.toNat 0 ∧ t.get I.TWN_GOT = 1 ∧
        t.get I.TWN_PV = 1 ∧ t.get I.TWN_PCRC = crc.toNat ∧ t.get I.TWN_SEEN = (blk + 1) % 2 ^ 64 ∧
        t = { s with regs := t.regs, twin := { s.twin with tx := t.twin.tx } } ∧
        s.KeepsFields t [I.TWN_RXSEQ, I.TWN_LOST, I.TWN_OWED, I.TWN_SEEN, I.TWN_GOT, I.TWN_MISS, I.TWN_PV, I.TWN_PBLK, I.TWN_PCRC]) ∧
    (∀ (blk : Nat) (crc : Word), s.inTurn seq.toNat = true →
      s.twin.crcs.find? (fun c => decide (c.1 = blk)) = some (blk, crc.toNat) → s.get F.TWN_STAT_ROLE = 2 →
      s.get F.TWN_STAT_SYNC = 1 → s.get F.TWN_CTRL_MATCHN ≤ s.get I.TWN_MATCH + 1 → s.get I.TWN_MATCH < 255 →
      blk % 2 ^ 32 = (s.get F.TWN_CRCBLK_J + 1) % 2 ^ 32 →
      ∃ t, exec (.twinStatusFrame seq true blk crc) s = .next t ∧ s.Acked t seq.toNat 0 ∧ t.get F.TWN_STAT_SYNC = 2 ∧
        t.get F.TWN_CRC_L_C = crc.toNat ∧ t.get F.TWN_CRC_P_C = crc.toNat ∧ t.get F.TWN_EVT_EVT / 8 % 2 = 1 ∧
        s.OnlyTwin t [I.TWN_RXSEQ, I.TWN_LOST, I.TWN_OWED, I.TWN_SEEN, I.TWN_GOT, I.TWN_MISS, I.TWN_PV, F.TWN_CRC_L_C, F.TWN_CRC_P_C, F.TWN_CRCBLK_J,
          I.TWN_MATCH, F.TWN_STAT_SYNC, F.TWN_EVT_EVT]) ∧
    (∀ (blk own : Nat) (crc : Word), s.inTurn seq.toNat = true →
      s.twin.crcs.find? (fun c => decide (c.1 = blk)) = some (blk, own) → own ≠ crc.toNat → s.get F.TWN_STAT_ROLE = 2 →
      ∃ t, exec (.twinStatusFrame seq true blk crc) s = .next t ∧ s.Acked t seq.toNat 0 ∧ s.Resyncs t ∧
        t.get F.TWN_CNT_MISM = min (s.get F.TWN_CNT_MISM + 1) (2 ^ 16 - 1) ∧ t.get F.TWN_EVT_EVT / 4 % 2 = 1) ∧
    (∀ (blk : Nat) (c : Fin 128) (xs : List Word), s.inTurn seq.toNat = true →
      ∃ t, exec (.twinAudioFrame seq true blk c xs) s = .next t ∧ s.Acked t seq.toNat 0 ∧
        t.twin.audio.dropLast = s.twin.audio.filter (fun a => !(decide (a.1 = blk + 3) && decide (a.2.1 = c.val))) ∧
        t.twin.audio.getLast? = some (blk + 3, c.val,
          ((s.twin.audio.find? (fun a => decide (a.1 = blk + 3) && decide (a.2.1 = c.val))).map (fun a => a.2.2)).getD [] ++
            xs.map (·.toNat)) ∧
        t = { s with regs := t.regs, twin := { s.twin with tx := t.twin.tx, audio := t.twin.audio } } ∧
        s.KeepsFields t [I.TWN_RXSEQ, I.TWN_LOST, I.TWN_OWED, I.TWN_SEEN]) ∧
    (∀ w : Word, s.inTurn seq.toNat = true → s.get F.TWN_STAT_ROLE = 2 → s.get F.TWN_STAT_SYNC = 1 →
      s.get I.RATE_PEND = 0 →
      ∃ t, exec (.twinCopyFrame seq true (.reg 0x10024 w)) s = .next t ∧ s.Acked t seq.toNat 0 ∧
        t.frc = (s.get I.TWN_FRCLO + 2 ^ 32 * w.toNat) % 2 ^ 64 ∧ t.mems = s.mems ∧ t.pending = s.pending ∧
        s.KeepsFields t [I.TWN_RXSEQ, I.TWN_LOST, I.TWN_OWED, I.TICKED]) ∧
    (∀ (a : Fin 67108864) (b : Byte), s.inTurn seq.toNat = true → s.get F.TWN_STAT_ROLE = 2 → s.get F.TWN_STAT_SYNC = 1 →
      s.bankRetired (bankOf a.val) = false →
      ∃ t, exec (.twinCopyFrame seq true (.orchard a.val [b])) s = .next t ∧ s.Acked t seq.toNat 0 ∧
        memGet t.orchard a.val = b ∧ (∀ x : Nat, x ≠ a.val → memGet t.orchard x = memGet s.orchard x) ∧
        (∀ f ∈ t.orcFlaws, f ∈ s.orcFlaws ∧ f.ix ≠ a.val / 4) ∧
        t = { s with regs := t.regs, orchard := t.orchard, orcFlaws := t.orcFlaws, dirty := t.dirty,
                     twin := { s.twin with tx := t.twin.tx } } ∧
        s.KeepsFields t [I.TWN_RXSEQ, I.TWN_LOST, I.TWN_OWED]) ∧
    (s.inTurn seq.toNat = true → s.get F.TWN_STAT_ROLE = 1 → s.get I.TWN_XCH = 0 →
      ∃ t, exec (.twinHandoverFrame seq true) s = .next t ∧ s.Acked t seq.toNat 0 ∧
        t.get I.TWN_XCH = (roundUp (s.frc + 1) s.blockLen + s.blockLen + 1) % 2 ^ 64 ∧
        s.OnlyTwin t [I.TWN_RXSEQ, I.TWN_LOST, I.TWN_OWED, I.TWN_XCH]) ∧
    (s.get F.TWN_STAT_ROLE = 2 → s.get F.TWN_STAT_SYNC = 1 → s.get I.TWN_CPD = 0 →
      ∃ t, exec .resyncCopyComplete s = .next t ∧ t.get I.TWN_CPD = 1 ∧
        t.get I.TWN_T = roundUp (s.frc + 1) s.blockLen % 2 ^ 64 ∧ s.OnlyRegs t [I.TWN_CPD, I.TWN_T]) ∧
    (s.get F.TWN_STAT_ROLE = 2 → s.get F.TWN_STAT_SYNC = 1 → s.get I.TWN_CPD ≠ 0 → s.get F.SYS_ENGINE_STATE = 0 →
      s.get I.TWN_T ≤ s.frc + s.blockLen → s.get I.TWN_T < 2 ^ 64 →
      ∃ t, exec .resyncEngineStart s = .next t ∧ t.get F.SYS_ENGINE_STATE = 1 ∧ t.get F.SYS_ENGINE_RUN = 1 ∧
        t.get I.ENG_TGT = s.get I.TWN_T ∧
        s.KeepsRegs t [I.ENG_TGT, I.ENG_LANDED, I.ENG_STOPP, I.ENG_RESTART, F.SYS_ENGINE_STATE, F.SYS_PWR_STATE,
          F.SYS_EVT_STATE, F.SYS_ENGINE_RUN]) ∧
    (s.get F.TWN_STAT_ROLE ≠ 0 → s.get F.TWN_STAT_SYNC = 1 →
      s.lasted (s.get I.TWN_RSAT) (1000000 * s.get F.TWN_TIME_RSYNC_T) = true →
      ∃ t, exec .resyncTimeout s = .next t ∧ s.Resyncs t ∧ t.get F.TWN_CNT_RSYNC = min (s.get F.TWN_CNT_RSYNC + 1) 255 ∧
        s.KeepsNames t (F.TWN_CNT_RSYNC :: State.resyncNames))

/-- R449 to R459: the service link answers, changes its echo and rate, reads and writes registers, and drives,
releases and reads balls. Where the spec leaves a point open the clauses follow the model's choices: log entries 128,
130, 131, 132, 133, 137. -/
def Obligations.ServiceLinkLinesComplete : Prop :=
  ∀ (s : State), s.firmwareUp = true →
    (∃ t, exec .hello s = .next t ∧ s.Replies t
      ["KX7 " ++ hexStr 8 (s.regWord 0) ++ " SEQ " ++ toString (if s.runManifest = [] then 0 else mfSeq s.runManifest) ++
        " ROLE " ++ s.roleName ++ " ENG " ++ s.engineName, "OK"] []) ∧
    (∃ t, exec .ping s = .next t ∧ s.Replies t ["OK"] [] ∧ t.get I.SL_NEW = 0) ∧
    (∃ t, exec .echoOn s = .next t ∧ t.get I.SL_ECHO = 1 ∧ s.Replies t ["OK"] [I.SL_ECHO]) ∧
    (∃ t, exec .echoOff s = .next t ∧ t.get I.SL_ECHO = 0 ∧ s.Replies t ["OK"] [I.SL_ECHO]) ∧
    (∀ n : Nat, linkRates.contains n = true →
      ∃ t, exec (.baud n) s = .next t ∧ t.get I.SL_BAUD = n ∧ t.get I.SL_NEW = 1 ∧
        s.Replies t ["OK"] [I.SL_BAUD, F.U_DIV_DIVI 0, F.U_DIV_DIVF 0, F.U_CTRL_STATUS 0, I.U_DIVE 0, I.U_DIVR 0,
          I.U_TPEND 0, I.U_RPEND 0, F.U_STAT_DPEND 0]) ∧
    (∀ n : Nat, linkRates.contains n = false →
      ∃ t, exec (.baud n) s = .next t ∧ s.Replies t ["ERR 04"] []) ∧
    (s.get I.SL_NEW ≠ 0 →
      ∃ t, exec .baudRevertTimeout s = .next t ∧ t.get I.SL_BAUD = 115200 ∧ t.get I.SL_NEW = 0 ∧
        s.OnlyRegs t [I.SL_NEW, I.SL_BAUD, F.U_DIV_DIVI 0, F.U_DIV_DIVF 0, F.U_CTRL_STATUS 0, I.U_DIVE 0, I.U_DIVR 0,
          I.U_TPEND 0, I.U_RPEND 0, F.U_STAT_DPEND 0]) ∧
    (∃ t, exec .commandLineTooLong s = .next t ∧ s.Replies t ["ERR 04"] []) ∧
    (∃ t, exec .unknownCommand s = .next t ∧ s.Replies t ["ERR 04"] []) ∧
    (∃ t, exec (.rd 0x30004 1) s = .next t ∧
      s.Replies t [hexStr 8 0x30004 ++ " " ++ hexStr 8 (s.regWord 0x30004 % 2 ^ 32), "OK"] [I.RDATA 0x50]) ∧
    (∀ a n : Nat, a % 4 ≠ 0 ∨ n = 0 ∨ 64 < n ∨ 0x1000000 < a + 4 * n →
      ∃ t, exec (.rd a n) s = .next t ∧ s.Replies t ["ERR 04"] []) ∧
    (∀ w : Word, ∃ t, exec (.wr 0x11000C w) s = .next t ∧ t.get F.TWN_TIME_LEADT = natBits w.toNat 7 0 ∧
      t.get F.TWN_TIME_BOOTWAIT = natBits w.toNat 23 16 ∧
      s.Replies t ["OK"] [F.TWN_TIME_LEADT, F.TWN_TIME_RSYNC_T, F.TWN_TIME_BOOTWAIT, F.TWN_CTRL_STATUS]) ∧
    (∀ (a : Nat) (w : Word), a % 4 = 0 → a < 0x1000000 → s.get F.TWN_STAT_SYNC = 2 → pairLocal a = false →
      ∃ t, exec (.wr a w) s = .next t ∧ s.Replies t ["ERR 03 TRACKING"] []) ∧
    (∀ (n : Fin 1024) (l : DriveLevel), (State.driveName (.slot n)).isSome = true →
      s.svc.drives.all (fun d => decide (d.1 ≠ .slot n) && decide (d.1 ≠ ballDACCLR)) = true → s.get F.SYS_SHOW_SHOW = 0 →
      s.get F.TWN_STAT_ROLE ≠ 2 → s.get (F.SYS_CLAIM_OWNER n) = 0 → s.on I.DMS_LOW = s.on I.DMS_OUTER →
      ∃ t, exec (.drive (.slot n) l) s = .next t ∧ t.get (F.SYS_CLAIM_OWNER n) = 0x1400 ∧
        t.svc.drives = s.svc.drives ++ [(.slot n, l)] ∧ t.svc.out = ["OK"] ∧
        t = { s with regs := t.regs, svc := t.svc } ∧ s.KeepsFields t [I.SL_NEW, F.SYS_CLAIM_OWNER n]) ∧
    (∀ (n : Fin 1024) (l : DriveLevel), (State.driveName (.slot n)).isSome = true →
      s.svc.drives.any (fun d => decide (d.1 = .slot n)) = false → s.get F.SYS_SHOW_SHOW ≠ 0 →
      ∃ t, exec (.drive (.slot n) l) s = .next t ∧ s.Replies t ["ERR 03 SHOW"] []) ∧
    (∀ (n : Fin 1024) (l : DriveLevel), s.svc.drives = [(.slot n, l)] → s.get (F.SYS_CLAIM_OWNER n) = 0x1400 →
      s.on I.DMS_LOW = s.on I.DMS_OUTER →
      ∃ t, exec (.release none) s = .next t ∧ t.get (F.SYS_CLAIM_OWNER n) = 0 ∧ t.svc.drives = [] ∧ t.svc.out = ["OK"] ∧
        t = { s with regs := t.regs, svc := t.svc } ∧ s.KeepsFields t [I.SL_NEW, F.SYS_CLAIM_OWNER n]) ∧
    (∀ (b : Ball) (name : String) (x : Bool), ballName b = some name →
      ∃ t, exec (.read b [x]) s = .next t ∧ s.Replies t [name ++ (if x then " H" else " L"), "OK"] []) ∧
    (∀ (b : Ball) (name : String) (xs : List Bool), ballName b = some name → 1 < xs.length → xs.length ≤ 1000 →
      ∃ t, exec (.read b xs) s = .next t ∧ s.Replies t [name ++ " H " ++ toString (xs.filter (fun x => x)).length ++ " L " ++
        toString (xs.length - (xs.filter (fun x => x)).length), "OK"] []) ∧
    (s.get (F.U_STAT_RXST 0) ≠ 0 → s.get (F.U_STAT_LINE_LVL 0) ≠ 0 →
      ∃ t, exec .serviceLinkRearm s = .next t ∧ t.get (F.U_STAT_RXST 0) = 0 ∧ t.svc.out = s.svc.out ++ ["KX7 READY"] ∧
        s.KeepsNames t State.uartNames)

/-- R460 to R464: loopback tests of a UART, of two ports and of an AES3 transceiver pair, and the setting of an
analogue output and its check. Where the spec leaves a point open the clauses follow the model's choices: log entries
134, 135. -/
def Obligations.ServiceLinkTestsComplete : Prop :=
  ∀ (s : State), s.firmwareUp = true →
    (∀ n : Fin 6, n ≠ 0 → s.chainSession = false → s.get (F.U_CTRL_STATE n) = unitOFF → s.get (F.U_CTRL_EN n) = 0 →
      s.get (F.SYS_CLAIM_OWNER (uartSlot n 0)) = 0 → s.get (F.SYS_CLAIM_OWNER (uartSlot n 1)) = 0 →
      s.uart n = Uart.reset →
      ∃ t, exec (.loopUart n false []) s = .next t ∧ t.svc.out = ["PASS 256/256", "OK"] ∧
        t.get (F.U_CTRL_STATE n) = unitOFF ∧ t.get (F.SYS_CLAIM_OWNER (uartSlot n 0)) = 0 ∧ t.mems = s.mems ∧
        t.frc = s.frc ∧ t.pending = s.pending ∧ s.KeepsNames t (I.SL_NEW :: State.uartNames)) ∧
    (∀ (n : Fin 6) (ext : Bool), n ≠ 0 → s.chainSession = false → s.get (F.U_CTRL_STATE n) ≠ unitOFF →
      ∃ t, exec (.loopUart n ext []) s = .next t ∧ s.Replies t ["ERR 03 NOTOFF"] []) ∧
    (∀ n : Fin 32, s.get (F.AP_CTRL_STATE n) = unitOFF → s.get F.TWN_STAT_ROLE ≠ 2 →
      s.get (F.SYS_CLAIM_OWNER (96 + n)) = 0 → s.svc.drives = [] → s.on I.DMS_LOW = s.on I.DMS_OUTER →
      ∃ t, exec (.loopPort n n [.pass]) s = .next t ∧
        s.Replies t [State.pairReport (96 + n, 64 + n) .pass, "OK"] []) ∧
    (∀ (a b : Fin 8) (cs : BitVec 192), s.get (F.AES_TXCTRL_STATE a) = unitOFF → s.get (F.AES_TXCTRL_EN a) = 0 →
      s.get (F.AES_RXCTRL_STATE b) = unitOFF → s.get (F.AES_RXCTRL_EN b) = 0 → s.get F.TWN_STAT_ROLE ≠ 2 →
      s.multM = 1 → s.get (F.AES_RXCFG_PATH b) = 0 → s.get I.RATE_F = 0 →
      s.get (F.SYS_CLAIM_OWNER (aesOutSlot a)) = 0 → s.get (F.SYS_CLAIM_OWNER (aesInSlot b)) = 0 →
      ∃ t, exec (.loopAes a b none cs) s = .next t ∧ t.svc.out = ["ERR 06"] ∧
        t.get (F.AES_TXCTRL_STATE a) = unitOFF ∧ t.get (F.AES_RXCTRL_STATE b) = unitOFF ∧ t.mems = s.mems ∧
        t.frc = s.frc ∧ t.pending = s.pending ∧
        s.KeepsNames t (I.SL_NEW :: (State.aesNames ++ State.asrcNames ++ State.lostNames))) ∧
    (∀ (a b : Fin 8) (ms : Nat) (cs : BitVec 192), ms ≤ 50 → s.get (F.AES_TXCTRL_STATE a) = unitOFF →
      s.get (F.AES_TXCTRL_EN a) = 0 → s.get (F.AES_RXCTRL_STATE b) = unitOFF → s.get (F.AES_RXCTRL_EN b) = 0 →
      s.get F.TWN_STAT_ROLE ≠ 2 → s.multM = 1 → s.get (F.AES_RXCFG_PATH b) = 0 → s.get I.RATE_F = 0 →
      s.get (F.SYS_CLAIM_OWNER (aesOutSlot a)) = 0 → s.get (F.SYS_CLAIM_OWNER (aesInSlot b)) = 0 →
      ∃ t, exec (.loopAes a b (some ms) cs) s = .next t ∧
        t.svc.out = ["LOCK " ++ toString ms,
          (match State.aesMiss cs.toNat with | none => "CS PASS" | some k => "CS FAIL byte " ++ toString k),
          (if natBits cs.toNat 191 184 = State.crcc cs.toNat then "CRC PASS" else "CRC FAIL"), "OK"] ∧
        t.get (F.AES_TXCTRL_STATE a) = unitOFF ∧ t.get (F.AES_RXCTRL_STATE b) = unitOFF ∧ t.mems = s.mems ∧
        t.frc = s.frc ∧ t.pending = s.pending ∧
        s.KeepsNames t (I.SL_NEW :: (State.aesNames ++ State.asrcNames ++ State.lostNames))) ∧
    (∀ (n : Fin 16) (uv : Int) (span : Fin 4), s.get (F.DMS_STAT_RET n) = 0 → s.get F.SYS_SHOW_SHOW = 0 →
      s.get F.TWN_STAT_ROLE ≠ 2 → s.get (F.DMS_CTRL_STATE n) = unitOFF → s.get F.SYS_ENGINE_STATE = 0 →
      0 ≤ State.dsetCode span uv → State.dsetCode span uv ≤ 0xFFFFFF →
      ∃ t, exec (.dset n uv span) s = .next t ∧ t.get (I.DSET_ON n) = 1 ∧
        t.get (F.DMS_CODE_C n) = (State.dsetCode span uv).toNat ∧ t.get (F.DMS_SPAN_SPAN n) = span.val ∧
        t.free = s.free + 1 ∧ t.svc.out.length = 2 ∧ t.svc.out.getLast? = some "OK" ∧ t.mems = s.mems ∧ t.frc = s.frc ∧
        t.pending = s.pending ∧ s.KeepsNames t (I.SL_NEW :: State.dmsNames)) ∧
    (∀ n : Fin 16, s.get (I.DSET_ON n) ≠ 0 → s.get (F.DMS_CODE_C n) ≠ s.get (I.DSET_CODE n) →
      ∃ t, exec (.dsetHoldCheck n) s = .next t ∧ t.get (I.DSET_ON n) = 0 ∧
        t = { s with regs := t.regs, svc := { s.svc with out := s.svc.out ++ ["! DSET " ++ toString n.val ++ " LOST"] } } ∧
        s.KeepsFields t [I.DSET_ON n]) ∧
    (∀ n : Fin 16, s.get (F.DMS_CTRL_STATE n) = unitON → s.get (F.DMS_CTRL_EN n) ≠ 0 →
      ∃ t, exec (.doff n) s = .next t ∧ t.get (F.DMS_CTRL_STATE n) = unitSHUTTING ∧ t.get (F.DMS_CTRL_EN n) = 0 ∧
        t.get (I.DSET_ON n) = 0 ∧ t.get (I.DMS_TO n) = 0 ∧
        s.Replies t ["OK"] ([F.DMS_CTRL_EN n, F.DMS_CTRL_STATUS n, F.DMS_CTRL_STATE n, I.DMS_PH n, F.DMS_STAT_FORCED n,
          F.DMS_SPAN_PEND n, I.DSET_ON n] ++ State.slewFields n ++ State.rampFields n))

/-- R455, R465 to R468: the service link's reports, `UNFREEZE`, owner codes, updates and the way into recovery. Where
the spec leaves a point open the clauses follow the model's choices: log entry 136. -/
def Obligations.ServiceLinkReportsComplete : Prop :=
  ∀ (s : State), s.firmwareUp = true →
    (∀ n : Fin 16, ∃ t, exec (.dmeas n) s = .next t ∧ s.Replies t
      ["AOUT" ++ toString n.val ++ " READ " ++ voltStr (codeMicro (s.get (F.CUR_RES_CODE n)) 1) ++ " V", "OK"] []) ∧
    (∀ n : Fin 8, ∃ t, exec (.ain n) s = .next t ∧ s.Replies t
      ["AIN" ++ toString n.val ++ " " ++ voltStr (codeMicro (s.get (F.CUR_RES_CODE (16 + n))) 1) ++ " V CODE " ++
        hexStr 4 (s.get (F.CUR_RES_CODE (16 + n))), "OK"] []) ∧
    (∃ t, exec .mon s = .next t ∧ s.Replies t
      ((List.range 12).map (fun k => s.monLine (28 + k)) ++ [24, 25, 26, 27].map s.monLine ++ ["OK"]) []) ∧
    (∀ k : Fin 257, k ≠ 0 → ∃ t, exec (.faults k) s = .next t ∧ s.Replies t
      ((List.range (min k (s.get I.MDL_LOGN))).map (fun j => s.faultLine ((s.get F.MDL_LOGHEAD_NEXT + 255 - j) % 256)) ++
        ["OK"]) []) ∧
    (∃ t, exec .spares s = .next t ∧ t.svc.out.length = 3 ∧ t.svc.out.getLast? = some "OK" ∧ s.Replies t t.svc.out []) ∧
    (∃ t, exec .map s = .next t ∧ s.Replies t
      ((List.range 64).map (fun n => "EC" ++ toString n ++ " P" ++ hexStr 2 (s.get (F.MDL_MAP_PHYS n))) ++
        (List.range 64).map (fun n => "OB" ++ toString n ++ " P" ++ hexStr 2 (s.get (F.ORC_MAP_PHYS n))) ++ ["OK"]) []) ∧
    (s.get (F.PRT_VLOG_W 0 0) / 2 ^ 24 ≠ 0 → ∃ t, exec (.viol 1) s = .next t ∧ s.Replies t
      [hexStr 8 (s.get (F.PRT_VLOG_W 0 0)) ++ " " ++ hexStr 8 (s.get (F.PRT_VLOG_W 0 1)) ++ " " ++
        hexStr 8 (s.get (F.PRT_VLOG_W 0 2)) ++ " " ++ hexStr 8 (s.get (F.PRT_VLOG_W 0 3)), "OK"] []) ∧
    (∀ n : Nat, n = 0x58 ∨ n = 0x59 ∨ n = 0x5B → s.isFrozen n = true →
      ∃ t, exec (.unfreeze n false) s = .next t ∧ t.isFrozen n = false ∧
        s.Replies t ["OK"] [F.PRT_FROZEN_M 2, F.SYS_UNFREEZE_STATUS]) ∧
    (s.get F.CFG_SESS_SRC = 0 → ∃ t, exec (.code [1]) s = .next t ∧ t.get F.CFG_SESS_STATUS = stREFUSED ∧
      s.Replies t ["ERR 03"] [F.CFG_SESS_STATUS, F.CFG_SESS_REASON]) ∧
    (∀ ds : List (Fin 10), s.get F.CFG_SESS_SRC ≠ 0 → s.get I.CFG_LOCKO = 0 → ds ≠ [] → ds.length ≤ 8 →
      s.ownerMatches (ds.map (fun d => d.val)) = true →
      ∃ t, exec (.code ds) s = .next t ∧ t.get I.CFG_UNL = 1 ∧
        s.Replies t ["OK"] [I.CFG_UNL, F.CFG_SESS_STATUS, F.CFG_SESS_REASON]) ∧
    (s.get F.CFG_SESS_SRC = 0 → s.get F.CFG_TRIAL_ACTIVE = 0 → s.get F.CFG_CHAIN_EN = 0 →
      ∃ t, exec .updOpen s = .next t ∧ t.get F.CFG_SESS_SRC = 1 ∧ t.get F.CFG_SESS_HOLDER = 0x50 ∧ t.svc.out = ["OK"] ∧
        t.get F.CFG_EVT_EVT % 2 = 1 ∧ t.svc.drives = s.svc.drives ∧
        t = { s with regs := t.regs, toDeliver := t.toDeliver, graft := { s.graft with sent := [], hops := [] }, svc := t.svc } ∧
        s.KeepsFields t [I.SL_NEW, F.CFG_SESS_SRC, F.CFG_SESS_HOLDER, I.CFG_UNL, I.CFG_WRONG, F.CFG_SESS_STATUS,
          F.CFG_SESS_REASON, F.CFG_EVT_EVT, I.CH_BAD, I.CH_CANT, I.CH_SENT, I.CH_HEAD]) ∧
    (∀ b : Byte, s.holdsSession .steward = true → s.get F.CFG_STAGE_BUSY = 0 → s.get F.CFG_ACT_STATE = 0 →
      s.get I.CH_HEAD = 0 → s.get F.CFG_STAGE_STATE = 0 →
      ∃ t, exec (.updLoad [b]) s = .next t ∧ t.graft.pkg = [b] ∧ t.get F.CFG_STAGE_STATE = 1 ∧
        t.svc.out = ["ACK 0", "OK"] ∧
        t = { s with regs := t.regs, svc := t.svc, graft := { s.graft with piece := [], pkg := [b], parts := [] } } ∧
        s.KeepsFields t [I.SL_NEW, I.CFG_LATE, F.CFG_STAGE_BUSY, F.CFG_STAGE_STATE, F.CFG_XFER_OFF_N, F.CFG_STAGE_REASON,
          F.CFG_SESS_STATUS, F.CFG_SESS_REASON]) ∧
    (∃ t, exec .updStat s = .next t ∧ s.Replies t [hexStr 8 (s.viewWord .steward 0x4000C), "OK"] []) ∧
    (∀ u : Nat, s.holdsSession .steward = true → s.stagedSlot ≠ 0 → s.stagedPair = false → s.refusal = none →
      s.get I.CH_HEAD = 0 → s.frc + s.rateHz ≤ u → u < 2 ^ 64 →
      ∃ t, exec (.updArm false u) s = .next t ∧ t.get F.CFG_ACT_STATE = 1 ∧ t.activationF = u ∧ t.svc.out = ["OK"] ∧
        t.get F.CFG_EVT_EVT / 8 % 2 = 1 ∧ t.svc.drives = s.svc.drives ∧
        t = { s with regs := t.regs, toDeliver := t.toDeliver, svc := t.svc } ∧
        s.KeepsFields t [I.SL_NEW, F.CFG_ACT_FRC_LO_F, F.CFG_ACT_FRC_HI_F, F.CFG_ACT_STATE, F.CFG_ACT_REASON,
          F.CFG_SESS_STATUS, F.CFG_SESS_REASON, F.CFG_EVT_EVT]) ∧
    (s.holdsSession .steward = true → s.role = roleSOLO →
      ∃ t, exec .updDisarm s = .next t ∧ t.get F.CFG_ACT_STATE = 0 ∧
        s.Replies t ["OK"] [F.CFG_ACT_STATE, F.CFG_SESS_STATUS, F.CFG_SESS_REASON]) ∧
    (s.holdsSession .steward = true → s.get F.CFG_TRIAL_ACTIVE = 0 →
      ∃ t, exec .updCommit s = .next t ∧ t.get F.CFG_SESS_STATUS = stREFUSED ∧
        s.Replies t t.svc.out [F.CFG_SESS_STATUS, F.CFG_SESS_REASON]) ∧
    (∀ k : Nat, s.holdsSession .steward = true → s.get F.CFG_TRIAL_ACTIVE ≠ 0 → s.get F.CFG_TRIAL_HEALTHY ≠ 0 →
      s.pairHealthy = true → s.get I.CH_HEAD = 0 → s.bootSlot = k → k = 1 ∨ k = 2 →
      ∃ t, exec .updCommit s = .next t ∧ (t.flash.slot k).state = slotGOOD ∧ t.get F.CFG_TRIAL_ACTIVE = 0 ∧
        t.svc.out = ["OK"] ∧ t = { s with regs := t.regs, toDeliver := t.toDeliver, flash := t.flash, svc := t.svc } ∧
        s.KeepsNames t [I.SL_NEW, F.CFG_TRIAL_ACTIVE, F.CFG_EVT_EVT, I.SET_SLOT, I.KEY_REV 0, F.CFG_SESS_STATUS,
          F.CFG_SESS_REASON]) ∧
    (s.holdsSession .steward = true → s.get F.CFG_STAGE_STATE ≠ 1 → s.get F.CFG_STAGE_STATE ≠ 2 →
      s.get F.CFG_ACT_STATE = 0 →
      ∃ t, exec .updClose s = .next t ∧ t.get F.CFG_SESS_SRC = 0 ∧ t.svc.out = ["OK"] ∧ t.svc.drives = s.svc.drives ∧
        t = { s with regs := t.regs, toDeliver := t.toDeliver, svc := t.svc } ∧
        s.KeepsFields t [I.SL_NEW, F.CFG_SESS_SRC, F.CFG_SESS_HOLDER, I.CFG_UNL, F.CFG_SESS_STATUS, F.CFG_SESS_REASON,
          F.CFG_EVT_EVT]) ∧
    (∃ t, exec .updInfo s = .next t ∧ t.svc.out.length = 4 ∧ t.svc.out.getLast? = some "OK" ∧ s.Replies t t.svc.out []) ∧
    (s.refusal = none →
      ∃ t, exec .recover s = .next t ∧ t.get I.BOOT_PH = 2 ∧ t.get F.SYS_RSTCAUSE_WARM = 1 ∧ t.svc.out = ["OK", "RIND 1"] ∧
        t.frc = s.frc ∧ t.mems = s.mems ∧ t.pending = s.pending ∧ t.get F.SYS_ENGINE_STATE = 0) ∧
    (∀ r : Nat, s.refusal = some r →
      ∃ t, exec .recover s = .next t ∧ s.Replies t ["ERR 03 " ++ reasonName r] [])

/-- R470 to R484, R442, R447: supplies and `PORST#` enter and leave hold-safe, a cold reset and each warm reset, the
boot's digest check and firmware start, the recovery check, STANDBY and the wakes from it. Where the spec leaves a
point open the clauses follow the model's choices: log entries 1, 77, 78, 79, 80, 81, 84, 85. -/
def Obligations.PowerCommandsComplete : Prop :=
  ∀ (s : State) (m : Master) (k : Fin 12) (boot : BitVec 2),
    (s.get I.PW_HOLD = 0 →
      ∃ t, exec (.supplyBad k) s = .next t ∧ t.get (I.PW_BAD k) = 1 ∧ t.get I.PW_HOLD = 1 ∧ t.get I.PW_LOST = 1 ∧
        (∀ f : Fld, State.coldKeeps (f.id, f.ix) = false → t.get f = f.rst) ∧
        (∀ f : Fld, State.coldKeeps (f.id, f.ix) = true →
          (f.id, f.ix) ∉ [I.PW_BAD k, I.PW_HOLD, I.PW_LOST].map (fun g => (g.id, g.ix)) → t.get f = s.get f) ∧
        t = { State.reset with regs := t.regs, free := s.free, flash := s.flash, jtag := s.jtag, pending := s.pending,
                               svc := { drives := [], out := s.svc.out } }) ∧
    (s.get I.PW_HOLD ≠ 0 →
      ∃ t, exec (.supplyBad k) s = .next t ∧ t.get (I.PW_BAD k) = 1 ∧ s.OnlyRegs t [I.PW_BAD k]) ∧
    (∃ t, exec (.supplyGood k) s = .next t ∧ t.get (I.PW_BAD k) = 0 ∧ s.OnlyRegs t [I.PW_BAD k]) ∧
    (s.get I.PW_HOLD = 0 →
      ∃ t, exec (.porstAssert true) s = .next t ∧ t.get I.PW_PORST = 1 ∧ t.get I.PW_HOLD = 1 ∧ t.get I.PW_LOST = 0 ∧
        (∀ f : Fld, State.coldKeeps (f.id, f.ix) = false → t.get f = f.rst) ∧
        t = { State.reset with regs := t.regs, free := s.free, flash := s.flash, jtag := s.jtag, pending := s.pending,
                               svc := { drives := [], out := s.svc.out } }) ∧
    (∃ t, exec (.porstAssert false) s = .next t ∧ t.get I.PW_PORST = 0 ∧ s.OnlyRegs t [I.PW_PORST]) ∧
    (∀ role : Bool, s.holdEnds = true →
      ∃ t, exec (.coldReset boot role) s = .next t ∧ t.get I.PW_HOLD = 0 ∧ t.frc = 0 ∧ t.pending = s.pending ∧
        t.get (if s.get I.PW_LOST = 0 then F.SYS_RSTCAUSE_COLD else F.SYS_RSTCAUSE_SUPPLY) = 1 ∧
        t.get F.SYS_RSTCAUSE_BOOT = boot.toNat ∧ t.get F.TWN_STAT_STRAP = b2n role ∧ t.get F.SYS_ENGINE_STATE = 0 ∧
        t.qn.queue = [] ∧ t.get F.SYS_RSTCAUSE_BADSTRAP = b2n (boot == 3) ∧ t.get F.SYS_RSTCAUSE_SAFE = b2n (boot == 2)) ∧
    (s.get I.BOOT_PH = 0 → s.bootSlot ≠ 0 →
      ∃ t, exec (.digestCheckComplete true) s = .next t ∧ t.get I.BOOT_DIG = 1 ∧ s.OnlyRegs t [I.BOOT_DIG]) ∧
    (∀ n : Nat, s.get I.BOOT_PH = 0 → s.bootSlot = n → n = 1 ∨ n = 2 →
      ∃ t, exec (.digestCheckComplete false) s = .next t ∧ (t.flash.slot n).state = slotFAILED ∧ t.mems = s.mems ∧
        t.frc = s.frc ∧ t.pending = s.pending) ∧
    (s.get I.BOOT_PH = 0 → s.bootSlot ≠ 0 → s.get I.BOOT_DIG ≠ 0 → s.get I.BOOT_U0 ≠ 0 →
      s.get F.CLK_STAT_MODE ≠ clkACQUIRE → s.get F.DMC_STAT_STATE ≠ unitSTARTING →
      ∃ t, exec .firmwareStart s = .next t ∧ t.get I.BOOT_PH = 1 ∧ t.core 64 = Core.steward Config.firmwareEntry.toNat ∧
        t.svc.out = s.svc.out ++ ["KX7 READY"] ∧ (s.get I.BOOT_TRIAL ≠ 0 → t.get F.CFG_TRIAL_ACTIVE = 1) ∧
        t = { s with regs := t.regs, toDeliver := t.toDeliver, cores := t.cores, svc := { s.svc with out := t.svc.out } } ∧
        s.KeepsNames t [I.BOOT_PH, F.U_CTRL_EN 0, F.U_CTRL_STATE 0, F.U_CTRL_STATUS 0, F.U_CTRL_WAKE 0, F.U_CTRL_LOOP 0,
          F.U_CTRL_DRAIN 0, F.U_STAT_RTS 0, F.U_EVT_EVT 0, F.SYS_CLAIM_OWNER 0, F.SYS_CLAIMSTAT_CLAIM_OWNER,
          F.SYS_CLAIMSTAT_SLOT, F.SYS_CLAIMREQ_REQUESTER, F.SYS_EVT_CONFLICT, F.CFG_TRIAL_ACTIVE, I.TRIAL_AT, I.BOOT_TRIAL,
          F.CFG_EVT_EVT, I.FB_PEND]) ∧
    (s.get I.PW_HOLD = 0 → ∃ t, exec (.warmReset boot) s = .next t ∧ s.WarmDone t F.SYS_RSTCAUSE_SRST boot.toNat) ∧
    (s.performs .steward 0x64 = true → s.get I.PW_HOLD = 0 →
      ∃ t, exec (.sysRstWarm .steward boot) s = .next t ∧ s.WarmDone t F.SYS_RSTCAUSE_WARM boot.toNat) ∧
    (m ≠ .steward → s.performs m 0x64 = true →
      ∃ t, exec (.sysRstWarm m boot) s = .next t ∧ s.OnlyRegs t [F.SYS_RST_RSTOUT]) ∧
    (∀ held : Nat, s.get I.BOOT_PH = 0 → s.get I.BOOT_U0 = 0 → 100 ≤ held → held ≤ 2000 →
      ∃ t, exec (.recoveryRequest held true [0x55, 0x55, 0x4B, 0x58]) s = .next t ∧ t.get I.BOOT_PH = 2 ∧
        t.get I.RL_BAUD = 115200 ∧ t.svc.out = s.svc.out ++ ["RIND 1"] ∧
        t = { s with regs := t.regs, svc := { s.svc with out := t.svc.out } } ∧
        s.KeepsFields t [I.BOOT_U0, I.BOOT_PH, I.BOOT_SLOT, I.RL_UNL, I.RL_BAUD]) ∧
    (∀ (held : Nat) (sync : List Byte), s.get I.BOOT_PH = 0 → s.get I.BOOT_U0 = 0 → 2000 < held →
      ∃ t, exec (.recoveryRequest held false sync) s = .next t ∧ t.get I.BOOT_U0 = 1 ∧ t.get (F.U_STAT_RXST 0) = 1 ∧
        s.OnlyRegs t [I.BOOT_U0, F.U_STAT_RXST 0, F.U_STAT_LINE_LVL 0]) ∧
    (∀ w : Word, s.performs .steward 0x60 = true → s.standbyReady = true → s.get F.SYS_PWR_STATE = 1 →
      ∃ t, exec (.standbyRequest .steward w) s = .next t ∧ t.get F.SYS_PWR_STATE = 2 ∧ t.get F.SYS_PWR_STATUS = stOK ∧
        t.get F.SYS_PWR_WTIMER = natBits w.toNat 6 6 ∧
        s.OnlyRegs t [F.SYS_PWR_STATE, F.SYS_PWR_STATUS, F.SYS_PWR_PEW, F.SYS_PWR_WTIMER, F.SYS_PWR_WPCIE, F.SYS_PWR_WSPI]) ∧
    (∀ w : Word, s.performs m 0x60 = true → s.standbyReady = false →
      ∃ t, exec (.standbyRequest m w) s = .next t ∧ t.get F.SYS_PWR_STATUS = stREFUSED ∧
        s.OnlyRegs t [F.SYS_PWR_STATUS]) ∧
    (s.get F.SYS_PWR_STATE = 2 →
      ∃ t, exec .standbyEntered s = .next t ∧ t.get F.SYS_PWR_STATE = 3 ∧ t.get F.HIF_LINK_UP = 0 ∧
        (s.get F.HIF_LINK_UP ≠ 0 → t.get F.HIF_EVT_EVT % 2 = 1) ∧
        s.OnlyRegsEv t [F.SYS_PWR_STATE, F.HIF_LINK_UP, F.HIF_LINK_L1, F.HIF_LINK_WIDTH, F.HIF_LINK_GEN,
          F.HIF_EVT_EVT]) ∧
    (s.get F.SYS_PWR_STATE = 3 → s.get F.SYS_PWR_WSPI ≠ 0 →
      ∃ t, exec (.wake .spi) s = .next t ∧ t.get F.SYS_PWR_STATE = 1 ∧ t.get F.SYS_PWR_WK_SPI = 1 ∧
        t.get F.SYS_PWR_WK_TIMER = 0 ∧ t.get I.SPI_ST = stWAIT ∧ t.get F.CLK_STAT_MODE = clkACQUIRE ∧
        s.OnlyRegsFree t (State.modeFields ++ [F.SYS_PWR_STATE, F.SYS_PWR_WK_UART, F.SYS_PWR_WK_SPI, F.SYS_PWR_WK_PCIE,
          F.SYS_PWR_WK_TIMER, I.SPI_ST, I.PEWAKE])) ∧
    (s.get F.SYS_PWR_STATE = 2 → s.get F.SYS_PWR_WPCIE ≠ 0 →
      ∃ t, exec (.wake .pcie) s = .next t ∧ t.get F.SYS_PWR_STATE = 1 ∧ t.get F.SYS_PWR_WK_PCIE = 1 ∧
        s.OnlyRegs t [F.SYS_PWR_STATE, F.SYS_PWR_WK_UART, F.SYS_PWR_WK_SPI, F.SYS_PWR_WK_PCIE, F.SYS_PWR_WK_TIMER,
          I.PEWAKE]) ∧
    (s.get F.SYS_PWR_STATE = 3 → s.get F.SYS_PWR_WTIMER ≠ 0 → s.get F.SYS_WAKET_T ≠ 0 →
      ∃ t, exec .wakeTimerExpire s = .next t ∧ t.get F.SYS_PWR_STATE = 1 ∧ t.get F.SYS_PWR_WK_TIMER = 1 ∧
        t.get F.SYS_PWR_WK_SPI = 0 ∧ t.get F.CLK_STAT_MODE = clkACQUIRE ∧
        s.OnlyRegsFree t (State.modeFields ++ [F.SYS_PWR_STATE, F.SYS_PWR_WK_UART, F.SYS_PWR_WK_SPI, F.SYS_PWR_WK_PCIE,
          F.SYS_PWR_WK_TIMER, I.PEWAKE])) ∧
    (∀ n : Fin 6, s.get F.SYS_PWR_STATE = 3 → s.get (F.U_CTRL_WAKE n) ≠ 0 → s.get (F.U_STAT_RXST n) = 0 →
      s.uAccepts n = false →
      ∃ t, exec (.uartWake n) s = .next t ∧ t.get F.SYS_PWR_STATE = 1 ∧ t.get F.SYS_PWR_WK_UART = 1 ∧
        t.get (F.U_EVT_EVT n) / 256 % 2 = 1 ∧ t.get F.CLK_STAT_MODE = clkACQUIRE ∧ t.get (F.U_STAT_LINE_LVL n) = 0 ∧
        s.OnlyRegsFree t (State.modeFields ++ [F.SYS_PWR_STATE, F.SYS_PWR_WK_UART, F.SYS_PWR_WK_SPI, F.SYS_PWR_WK_PCIE,
          F.SYS_PWR_WK_TIMER, I.PEWAKE, F.U_EVT_EVT n, F.U_STAT_LINE_LVL n])) ∧
    (∀ n : Fin 6, s.get F.SYS_PWR_STATE = 3 → s.get (F.U_CTRL_WAKE n) ≠ 0 → s.uAccepts n = true →
      s.get (F.U_CTRL_LOOP n) = 0 → s.boundary = false → (∀ c ∈ s.tmActive, s.get (F.TMR_CAPCFG_CSRC c) ≠ 65 + n) →
      ∃ t, exec (.uartWake n) s = .next t ∧ t.get F.SYS_PWR_STATE = 1 ∧ t.get F.SYS_PWR_WK_UART = 1 ∧
        t.get (F.U_EVT_EVT n) / 256 % 2 = 1 ∧ t.get (I.U_RXON n) = 1 ∧ t.get (I.U_EDGE n) = s.frc % 2 ^ 64 ∧
        s.OnlyRegsFree t (State.modeFields ++ [F.SYS_PWR_STATE, F.SYS_PWR_WK_UART, F.SYS_PWR_WK_SPI, F.SYS_PWR_WK_PCIE,
          F.SYS_PWR_WK_TIMER, I.PEWAKE, F.U_EVT_EVT n, F.U_STAT_LINE_LVL n, I.U_RXON n, I.U_EDGE n, I.U_DIVR n, I.U_RPEND n,
          F.U_STAT_DPEND n]))

/-- R15, R62. The model's choice (log entry 4): with no command waiting the tick due at the present sample is raised,
or one engine sample passes, with the deadline that falls in it and the tick that it reaches; where FRC stands it goes
on standing, and no command comes or goes. -/
def Obligations.AnEmptyQueueLetsOneSamplePass : Prop :=
  ∀ s : State, s.pending = [] →
    (s.clockRuns = false →
      ∃ t, step s = .next t ∧ t.frc = s.frc ∧ t.mems = s.mems ∧ t.pending = [] ∧ t.cores = s.cores ∧
        (s.get F.SYS_PWR_STATE = 3 ∨ s.get I.PW_HOLD ≠ 0 → t = s)) ∧
    (s.clockRuns = true → s.tickDue = true →
      ∃ t, step s = .next t ∧ t = s.tickHere ∧ (s.twin.items = [] → t.frc = s.frc ∧ t.cclk = 0 ∧
        t.get F.CLK_EVT_EVT % 2 = 1 ∧ (s.frc < 2 ^ 64 → t.tickDue = false))) ∧
    (s.clockRuns = true → s.tickDue = false → (s.frc + 1) % 2 ^ 64 % s.blockLen ≠ 0 →
      s.deadline ≤ s.cclk ∨ s.cclk + s.sampleCycles < s.deadline →
      ∃ t, step s = .next t ∧ t = s.advance 1 ∧ t.frc = (s.frc + 1) % 2 ^ 64 ∧ t.cclk = s.cclk + s.sampleCycles ∧
        t.tclk = s.tclk + s.sampleTclks) ∧
    (s.clockRuns = true → s.tickDue = false → (s.frc + 1) % 2 ^ 64 % s.blockLen ≠ 0 → s.cclk < s.deadline →
      s.deadline ≤ s.cclk + s.sampleCycles →
      ∃ t, step s = .next t ∧ t = s.checkSinks.advance 1 ∧ t.frc = (s.frc + 1) % 2 ^ 64) ∧
    (s.clockRuns = true → s.tickDue = false → (s.frc + 1) % 2 ^ 64 % s.blockLen = 0 →
      s.get I.TICKED ≠ (s.frc + 1) % 2 ^ 64 + 1 → s.twin.items = [] →
      ∃ t, step s = .next t ∧ t.frc = (s.frc + 1) % 2 ^ 64 ∧ t.cclk = 0 ∧ t.get F.CLK_EVT_EVT % 2 = 1)

/-- What reset leaves where the spec gives a value: registers of every unit that has one other than 0, an empty queue
of commands, every core idle, no unit fault. -/
def Obligations.ResetHoldsTheSpecsValues : Prop :=
  (∀ e ∈ [(0x0, 0x4B580700), (0x20, 0x14), (0x10000, 0x410A0064), (0x10004, 0x70000), (0x20000, 1), (0x28100, 4),
      (0x30000, 0xC000000A), (0x3000C, 0x200408), (0x50000, 0x400000), (0x50010, 0xF000000), (0x60000, 0x10000080),
      (0x6000C, 0x40), (0x110000, 0x4000), (0x60, 1)],
    State.reset.regWord e.1 = e.2) ∧
  State.reset.pending = [] ∧ (∀ n : Fin 64, (State.reset.core n).p.run = none ∧ (State.reset.core n).frozen = false)

/-- Orchard and external memory at reset are in the model's canonical form (log entry 3). -/
def Obligations.ResetMemoriesAreInForm : Prop := State.reset.MemOk

/-- Every step keeps Orchard and external memory in their canonical form: rising addresses, no zero byte listed (log
entry 3). -/
def Obligations.EveryStepKeepsMemoryForm : Prop :=
  ∀ s t : State, s.MemOk → step s = .next t → t.MemOk

/-- R84: a circular post-modify leaves the pointer within its buffer, wherever the pointer was, and an access with
offset 0 uses the pointer as it stands. -/
def Obligations.PostModifyFoldsIntoTheBuffer : Prop :=
  ∀ (x : Seen) (i j : Nat), x.reg 2 i ≠ 0 → x.reg 3 i + x.reg 2 i ≤ 2 ^ 32 →
    x.reg 3 i ≤ x.postmod i j true ∧ x.postmod i j true < x.reg 3 i + x.reg 2 i ∧
    ((x.postmod i j true : Int) - (x.X i + sint 32 (x.reg 1 j))) % (x.reg 2 i : Int) = 0 ∧
    (x.X i < 2 ^ 32 → x.addr i true 0 = x.X i)

/-- R85: the instruction directly after a write of XLi or XBi folds with the old value, for its access and for its
post-modify, and the second one reads the new value. -/
def Obligations.CircularRegistersChangeForTheSecondInstruction : Prop :=
  ∀ (s : State) (c : CoreSel) (i : CoreWord) (n : Nat) (x : Seen) (g r : Nat), CoreSel.ix c = n → s.seen n i = x →
    s.ready n = true → g = 2 ∨ g = 3 →
    x.b.pend.all (fun p => decide (p.idx ≠ ixReg 2 r ∧ p.idx ≠ ixReg 3 r)) = true →
    (natBit i.sub.toNat 2 = true → natBits i.sub.toNat 1 0 = g → i.vd % 16 = r →
      ∃ t, exec (.ldi c i) s = .next t ∧ (∀ j : CoreWord, (t.seen n j).reg g r = x.reg g r) ∧
        (∀ (j : CoreWord) (a : Nat), (t.seen n j).fold r a = x.fold r a) ∧
        (t.liveBank n).readIn 1 (ixReg g r) = x.regMask g i.mv.toNat) ∧
    (natBits i.sub.toNat 1 0 = g → i.vd % 16 = r →
      ∃ t, exec (.aimm c i) s = .next t ∧ (∀ j : CoreWord, (t.seen n j).reg g r = x.reg g r) ∧
        (∀ (j : CoreWord) (a : Nat), (t.seen n j).fold r a = x.fold r a) ∧
        (t.liveBank n).readIn 1 (ixReg g r) = x.regMask g (x.reg g r + i.mv.toNat)) ∧
    (x.moves = true → natBits i.mv.toNat 31 30 = 0 → natBits i.sub.toNat 2 0 = g → i.flg = true → i.vb % 16 = r →
      ∃ t, exec (.amovx c i) s = .next t ∧ (∀ j : CoreWord, (t.seen n j).reg g r = x.reg g r) ∧
        (∀ (j : CoreWord) (a : Nat), (t.seen n j).fold r a = x.fold r a) ∧
        (t.liveBank n).readIn 1 (ixReg g r) = x.regMask g (x.va (if c = .steward then 0 else natBits i.sub.toNat 4 3)))

/-- R194, R195: a NOTE_OFF for a note that is FADING or detached, or whose slots are IDLE or another note's, is
counted as an orphan and changes no slot; any other reaches only the slots of the addressable note with its group and
note ID. Where the spec leaves a point open the clauses follow the model's choices: log entry 24. -/
def Obligations.NoteOffReachesOnlyItsAddressableNote : Prop :=
  ∀ (s : State) (src : BitVec 8) (w : Quad) (v : VWord), s.takesNow 2 src.toNat w.toNat v = true →
    ((∀ k : Nat, s.get (F.VT0_GROUP k) = State.vwGroup w.toNat → s.get (F.VT0_NOTE k) = State.vwNote w.toNat →
        s.get (F.VT0_STATE k) = 0 ∨ s.get (F.VT0_STATE k) = 4 ∨ s.get (F.VT0_DET k) ≠ 0) →
      ∃ t, exec (.noteOff src w) s = .next t ∧ t.get F.VM_ORPHANS_N = min (s.get F.VM_ORPHANS_N + 1) (2 ^ 32 - 1) ∧
        (∀ k : Nat, t.get (F.VT0_STATE k) = s.get (F.VT0_STATE k) ∧ t.get (F.VT5_FADEEND k) = s.get (F.VT5_FADEEND k)) ∧
        t.vm.words = s.vm.words.erase v ∧ t.vm.attach = s.vm.attach) ∧
    (∃ t, exec (.noteOff src w) s = .next t ∧
      (∀ k : Nat, s.get (F.VT0_GROUP k) ≠ State.vwGroup w.toNat ∨ s.get (F.VT0_NOTE k) ≠ State.vwNote w.toNat ∨
          s.get (F.VT0_STATE k) = 0 ∨ s.get (F.VT0_STATE k) = 4 ∨ s.get (F.VT0_DET k) ≠ 0 →
        t.get (F.VT0_STATE k) = s.get (F.VT0_STATE k)) ∧
      (∀ a ∈ t.vm.attach, a ∈ s.vm.attach ∨
        s.get (F.VT0_GROUP a.slot) = State.vwGroup w.toNat ∧ s.get (F.VT0_NOTE a.slot) = State.vwNote w.toNat ∧
        s.get (F.VT0_STATE a.slot) ≠ 0 ∧ s.get (F.VT0_STATE a.slot) ≠ 4))
end

