-- ==== Sys2Proof/Laws/Tables.lean ====
section
/-! SUPPORT. The laws of tables: what reads after a write, and the canonical form of a memory. -/

namespace Sys2Proof.Machine

section
variable {K V : Type} [DecidableEq K]

theorem tabGet_del_ne (d : V) (m : List (K × V)) {k k' : K} (h : k' ≠ k) : tabGet d (tabDel k m) k' = tabGet d m k' := by
  induction m with
  | nil => rfl
  | cons e t ih =>
    obtain ⟨a, v⟩ := e
    unfold tabDel at ih ⊢
    by_cases ha : a = k
    · subst ha
      simp [List.filter, tabGet, ih, Ne.symm h]
    · simp [List.filter, tabGet, ih, ha]

theorem tabGet_del_same (d : V) (m : List (K × V)) (k : K) : tabGet d (tabDel k m) k = d := by
  induction m with
  | nil => rfl
  | cons e t ih =>
    obtain ⟨a, v⟩ := e
    unfold tabDel at ih ⊢
    by_cases ha : a = k
    · simp [List.filter, ha, ih]
    · simp [List.filter, tabGet, ha, ih]

theorem tabGet_ins_ne (lt : K → K → Bool) (d v : V) (m : List (K × V)) {k k' : K} (h : k' ≠ k) :
    tabGet d (tabIns lt k v m) k' = tabGet d m k' := by
  induction m with
  | nil => simp [tabIns, tabGet, Ne.symm h]
  | cons e t ih =>
    obtain ⟨a, w⟩ := e
    by_cases hl : lt k a
    · simp [tabIns, hl, tabGet, Ne.symm h]
    · simp [tabIns, hl, tabGet, ih]

theorem tabGet_ins_same (lt : K → K → Bool) (d v : V) (m : List (K × V)) (k : K) (h : ∀ e ∈ m, e.1 ≠ k) :
    tabGet d (tabIns lt k v m) k = v := by
  induction m with
  | nil => simp [tabIns, tabGet]
  | cons e t ih =>
    obtain ⟨a, w⟩ := e
    have ha : a ≠ k := h (a, w) (by simp)
    have ht := ih (fun e he => h e (by simp [he]))
    by_cases hl : lt k a
    · simp [tabIns, hl, tabGet]
    · simp [tabIns, hl, tabGet, ha, ht]

theorem tabDel_keys (m : List (K × V)) (k : K) : ∀ e ∈ tabDel k m, e.1 ≠ k := by
  intro e he
  simpa using (List.mem_filter.mp he).2

variable [DecidableEq V]

/-- A table reads what was written to a key last. -/
theorem tabGet_set_same (lt : K → K → Bool) (d : V) (m : List (K × V)) (k : K) (v : V) :
    tabGet d (tabSet lt d m k v) k = v := by
  unfold tabSet
  split
  next h => rw [tabGet_del_same, h]
  next => exact tabGet_ins_same lt d v _ k (tabDel_keys m k)

/-- A write leaves every other key alone. -/
theorem tabGet_set_ne (lt : K → K → Bool) (d d' : V) (m : List (K × V)) {k k' : K} (v : V) (h : k' ≠ k) :
    tabGet d (tabSet lt d' m k v) k' = tabGet d m k' := by
  unfold tabSet
  split
  next => exact tabGet_del_ne d m h
  next => rw [tabGet_ins_ne lt d v _ h, tabGet_del_ne d m h]

end

/-! ### Memories -/

/-- A read of the byte just written, and of any other byte. -/
@[simp] theorem memGet_memSet_same (m : Mem) (a : Nat) (b : Byte) : memGet (memSet m a b) a = b :=
  tabGet_set_same natLt 0 m a b

theorem memGet_memSet_ne (m : Mem) {a a' : Nat} (b : Byte) (h : a' ≠ a) : memGet (memSet m a b) a' = memGet m a' :=
  tabGet_set_ne natLt 0 0 m b h

/-- The canonical form, as a property of the list. -/
theorem memory_wf_iff (m : Mem) : Memory.wf m = true ↔ m.Pairwise (fun c d => c.1 < d.1) ∧ ∀ c ∈ m, c.2 ≠ 0 := by
  unfold Memory.wf
  induction m with
  | nil => simp [memSorted]
  | cons c t ih =>
    cases t with
    | nil => simp [memSorted]
    | cons d t =>
      simp only [memSorted, Bool.and_eq_true, decide_eq_true_eq, ih]
      constructor
      · rintro ⟨⟨h0, h1⟩, h2, h3⟩
        refine ⟨List.pairwise_cons.mpr ⟨fun e he => ?_, h2⟩, fun e he => ?_⟩
        · rcases List.mem_cons.mp he with rfl | he
          · exact h1
          · exact Nat.lt_trans h1 ((List.pairwise_cons.mp h2).1 e he)
        · rcases List.mem_cons.mp he with rfl | he
          · exact h0
          · exact h3 e he
      · rintro ⟨h1, h2⟩
        have h := List.pairwise_cons.mp h1
        exact ⟨⟨h2 c (by simp), h.1 d (by simp)⟩, h.2, fun e he => h2 e (by simp [he])⟩

theorem memory_wf_nil : Memory.wf [] = true := rfl

/-- The keys of an insertion. -/
theorem mem_tabIns {lt : Nat → Nat → Bool} {k : Nat} {v : Byte} {m : Mem} {e : Host.Cell}
    (h : e ∈ tabIns lt k v m) : e = (k, v) ∨ e ∈ m := by
  induction m with
  | nil => simpa [tabIns] using h
  | cons c t ih =>
    obtain ⟨a, w⟩ := c
    by_cases hl : lt k a
    · simp [tabIns, hl] at h
      simpa using h
    · simp [tabIns, hl] at h
      rcases h with rfl | h
      · simp
      · rcases ih h with h | h <;> simp [h]

theorem tabIns_pairwise (k : Nat) (v : Byte) (m : Mem) (h : m.Pairwise (fun c d => c.1 < d.1)) (hk : ∀ e ∈ m, e.1 ≠ k) :
    (tabIns natLt k v m).Pairwise (fun c d => c.1 < d.1) := by
  induction m with
  | nil => simp [tabIns]
  | cons c t ih =>
    obtain ⟨a, w⟩ := c
    have hp := List.pairwise_cons.mp h
    by_cases hl : k < a
    · simp only [tabIns, natLt, hl, decide_true, if_true]
      refine List.pairwise_cons.mpr ⟨fun e he => ?_, h⟩
      rcases List.mem_cons.mp he with rfl | he
      · exact hl
      · exact Nat.lt_trans hl (hp.1 e he)
    · simp only [tabIns, natLt, hl, decide_false, Bool.false_eq_true, if_false]
      refine List.pairwise_cons.mpr ⟨fun e he => ?_, ih hp.2 (fun e he => hk e (by simp [he]))⟩
      rcases mem_tabIns he with rfl | he
      · exact Nat.lt_of_le_of_ne (Nat.le_of_not_lt hl) (hk (a, w) (by simp))
      · exact hp.1 e he

/-- A write of one byte keeps the canonical form. -/
theorem memSet_wf {m : Mem} (a : Nat) (b : Byte) (h : Memory.wf m = true) : Memory.wf (memSet m a b) = true := by
  rw [memory_wf_iff] at h ⊢
  have hd : (tabDel a m).Pairwise (fun c d => c.1 < d.1) := h.1.filter _
  have hz : ∀ c ∈ tabDel a m, c.2 ≠ 0 := fun c hc => h.2 c (List.mem_of_mem_filter hc)
  unfold memSet tabSet
  split
  next => exact ⟨hd, hz⟩
  next hb =>
    refine ⟨tabIns_pairwise a b _ hd (tabDel_keys m a), fun c hc => ?_⟩
    rcases mem_tabIns hc with rfl | hc
    · exact hb
    · exact hz c hc

theorem memWrite_wf (bs : List Byte) : ∀ (m : Mem) (a : Nat), Memory.wf m = true → Memory.wf (memWrite m a bs) = true := by
  induction bs with
  | nil => exact fun m a h => h
  | cons b t ih => exact fun m a h => ih _ _ (memSet_wf a b h)

theorem memCells_wf (cs : List Host.Cell) : ∀ m : Mem, Memory.wf m = true → Memory.wf (memCells m cs) = true := by
  induction cs with
  | nil => exact fun m h => h
  | cons c t ih => exact fun m h => ih _ (memSet_wf c.1 c.2 h)

theorem memSet32_wf {m : Mem} (a w : Nat) (h : Memory.wf m = true) : Memory.wf (memSet32 m a w) = true :=
  memWrite_wf _ m a h

theorem memSet128_wf {m : Mem} (a w : Nat) (h : Memory.wf m = true) : Memory.wf (memSet128 m a w) = true :=
  memWrite_wf _ m a h

/-- Bytes written from `a` leave every address outside them alone. -/
theorem memGet_memWrite_outside (bs : List Byte) :
    ∀ (m : Mem) (a x : Nat), (x < a ∨ a + bs.length ≤ x) → memGet (memWrite m a bs) x = memGet m x := by
  induction bs with
  | nil => exact fun m a x _ => rfl
  | cons b t ih =>
    intro m a x h
    have hl : (b :: t).length = t.length + 1 := rfl
    rw [memWrite, ih _ _ _ (by omega), memGet_memSet_ne _ _ (by omega)]

theorem memGet_memCells_outside (cs : List Host.Cell) :
    ∀ (m : Mem) (x : Nat), (∀ c ∈ cs, c.1 ≠ x) → memGet (memCells m cs) x = memGet m x := by
  induction cs with
  | nil => exact fun m x _ => rfl
  | cons c t ih =>
    intro m x h
    have := ih (memSet m c.1 c.2) x (fun d hd => h d (by simp [hd]))
    rw [memCells, List.foldl_cons, ← memCells, this, memGet_memSet_ne _ _ (fun e => h c (by simp) e.symm)]

end Sys2Proof.Machine
end

