-- ==== Sys2Proof/Laws/Frames.lean ====
section
/-! SUPPORT. Which operations leave the addressed memories (`State.mems`: Orchard and external memory) as they are: one
lemma for each operation on the state that does not write them. -/

namespace Sys2Proof.Machine

set_option linter.all false
set_option linter.unusedSimpArgs false

theorem mems_mk (regs frc frcPrev cclk tclk free staged latches toDeliver stewardQ swiq cores orchard dram orcFlaws
    dramFlaws dirty qn faults vm scn uarts routes hold twin svc host flash graft jtag pending : _) :
    State.mems (State.mk regs frc frcPrev cclk tclk free staged latches toDeliver stewardQ swiq cores orchard dram
        orcFlaws dramFlaws dirty qn faults vm scn uarts routes hold twin svc host flash graft jtag pending) =
    (orchard, dram) := Eq.trans rfl rfl
theorem mems_eta (s : State) : (s.orchard, s.dram) = s.mems := Eq.trans rfl rfl
theorem mems_ite (c : Prop) [Decidable c] (a b : State) :
    (if c then a else b).mems = if c then a.mems else b.mems := by
  split <;> rfl
theorem mems_foldl {α : Type} (g : State → α → State) (l : List α) (h : ∀ s x, (g s x).mems = s.mems) (s : State) :
    (l.foldl g s).mems = s.mems := by
  induction l generalizing s with
  | nil => rfl
  | cons x t ih => rw [List.foldl_cons, ih, h]
theorem mems_foldr {α : Type} (g : α → State → State) (l : List α) (h : ∀ x s, (g x s).mems = s.mems) (s : State) :
    (l.foldr g s).mems = s.mems := by
  induction l with
  | nil => rfl
  | cons x t ih => rw [List.foldr_cons, h, ih]

theorem State.set_mems (s : State) (f : _) (v : _) : (State.set s f v).mems = s.mems := by
  simp only [State.set, ↓mems_ite, ↓mems_mk, mems_eta, ite_self, implies_true, id_eq]

theorem State.put_mems (s : State) (f : _) (w : _) : (State.put s f w).mems = s.mems := by
  simp only [State.put, ↓mems_ite, ↓mems_mk, mems_eta, ↓State.set_mems, ite_self, implies_true, id_eq]

theorem State.puts_mems (s : State) (fs : _) (w : _) : (State.puts s fs w).mems = s.mems := by
  simp only [State.puts, ↓mems_ite, ↓mems_mk, mems_eta, ↓State.put_mems, ↓mems_foldl, ite_self, implies_true, id_eq]

theorem State.flag_mems (s : State) (f : _) (b : _) : (State.flag s f b).mems = s.mems := by
  simp only [State.flag, ↓mems_ite, ↓mems_mk, mems_eta, ↓State.set_mems, ite_self, implies_true, id_eq]

theorem State.bump_mems (s : State) (f : _) (n : _) : (State.bump s f n).mems = s.mems := by
  simp only [State.bump, ↓mems_ite, ↓mems_mk, mems_eta, ↓State.set_mems, ite_self, implies_true, id_eq]

theorem State.clear1_mems (s : State) (f : _) (w : _) : (State.clear1 s f w).mems = s.mems := by
  simp only [State.clear1, ↓mems_ite, ↓mems_mk, mems_eta, ↓State.set_mems, ite_self, implies_true, id_eq]

theorem State.regClear_mems (s : State) (addr : _) : (State.regClear s addr).mems = s.mems := by
  unfold State.regClear
  (repeat' split) <;> simp only [↓mems_ite, ↓mems_mk, mems_eta, ↓State.set_mems, ↓mems_foldl, ite_self,
      implies_true, id_eq]

theorem State.rowStore_mems (s : State) (r : _) (i : _) (ix : _) (w : _) :
    (State.rowStore s r i ix w).mems = s.mems := by
  unfold State.rowStore
  refine mems_foldl _ _ (fun s f => ?_) s
  split <;> first | rfl | exact State.put_mems _ _ _ | exact State.clear1_mems _ _ _ | exact State.set_mems _ _ _

theorem State.regStore_mems (s : State) (addr : _) (w : _) : (State.regStore s addr w).mems = s.mems := by
  unfold State.regStore
  (repeat' split) <;> simp only [↓mems_ite, ↓mems_mk, mems_eta, ↓State.rowStore_mems, ite_self, implies_true, id_eq]

theorem State.setLatch_mems (s : State) (m : _) (table : _) (entry : _) (ws : _) :
    (State.setLatch s m table entry ws).mems = s.mems := by
  simp only [State.setLatch, ↓mems_ite, ↓mems_mk, mems_eta, ite_self, implies_true, id_eq]

theorem State.stage_mems (s : State) (m : _) (addr : _) (w : _) : (State.stage s m addr w).mems = s.mems := by
  simp only [State.stage, ↓mems_ite, ↓mems_mk, mems_eta, ite_self, implies_true, id_eq]

theorem State.setCore_mems (s : State) (n : _) (c : _) : (State.setCore s n c).mems = s.mems := by
  simp only [State.setCore, ↓mems_ite, ↓mems_mk, mems_eta, ite_self, implies_true, id_eq]

theorem State.notify_mems (s : State) (n : _) (was : _) : (State.notify s n was).mems = s.mems := by
  simp only [State.notify, ↓mems_ite, ↓mems_mk, mems_eta, ite_self, implies_true, id_eq]

theorem State.raiseBits_mems (s : State) (n : _) (c : _) : (State.raiseBits s n c).mems = s.mems := by
  unfold State.raiseBits
  (repeat' split) <;> simp only [↓mems_ite, ↓mems_mk, mems_eta, ↓State.notify_mems, ↓State.set_mems, ite_self,
      implies_true, id_eq]

theorem State.raise_mems (s : State) (n : _) : (State.raise s n).mems = s.mems := by
  unfold State.raise
  (repeat' split) <;> simp only [↓mems_ite, ↓mems_mk, mems_eta, ↓State.raiseBits_mems, ite_self, implies_true, id_eq]

theorem State.raiseCause_mems (s : State) (n : _) (c : _) : (State.raiseCause s n c).mems = s.mems := by
  simp only [State.raiseCause, ↓mems_ite, ↓mems_mk, mems_eta, ↓State.raiseBits_mems, ite_self, implies_true, id_eq]

theorem State.setEngine_mems (s : State) (st : _) : (State.setEngine s st).mems = s.mems := by
  simp only [State.setEngine, ↓mems_ite, ↓mems_mk, mems_eta, ↓State.raise_mems, ↓State.set_mems, ite_self,
      implies_true, id_eq]

theorem State.conflict_mems (s : State) (slot : _) (requester : _) :
    (State.conflict s slot requester).mems = s.mems := by
  simp only [State.conflict, ↓mems_ite, ↓mems_mk, mems_eta, ↓State.raise_mems, ↓State.set_mems, ite_self,
      implies_true, id_eq]

theorem State.claimAll_mems (s : State) (fid : _) (slots : _) : (State.claimAll s fid slots).mems = s.mems := by
  simp only [State.claimAll, ↓mems_ite, ↓mems_mk, mems_eta, ↓State.set_mems, ↓mems_foldl, ite_self, implies_true,
      id_eq]

theorem State.withClaims_mems (s : State) (fid : _) (slots : _) (status : _) (go : _) (hgo : ∀ x,
    (go x).mems = x.mems) : (State.withClaims s fid slots status go).mems = s.mems := by
  unfold State.withClaims
  (repeat' split) <;> simp only [↓mems_ite, ↓mems_mk, mems_eta, ↓State.set_mems, ↓State.conflict_mems,
      ↓State.claimAll_mems, ↓hgo, ite_self, implies_true, id_eq]

theorem State.unclaim_mems (s : State) (fid : _) (slots : _) : (State.unclaim s fid slots).mems = s.mems := by
  simp only [State.unclaim, ↓mems_ite, ↓mems_mk, mems_eta, ↓State.set_mems, ↓mems_foldl, ite_self, implies_true,
      id_eq]

theorem State.unclaimAll_mems (s : State) (fid : _) : (State.unclaimAll s fid).mems = s.mems := by
  simp only [State.unclaimAll, ↓mems_ite, ↓mems_mk, mems_eta, ite_self, implies_true, id_eq]

theorem State.setFrozen_mems (s : State) (m : _) (b : _) : (State.setFrozen s m b).mems = s.mems := by
  unfold State.setFrozen
  (repeat' split) <;> simp only [↓mems_ite, ↓mems_mk, mems_eta, ↓State.set_mems, ite_self, implies_true, id_eq]

theorem State.vlogShift_mems (x0 : _) (x1 : State) : (State.vlogShift x0 x1).mems = x1.mems := by
  induction x0 generalizing x1 with
  | zero => rfl
  | succ k ih =>
    unfold State.vlogShift
    rw [ih]
    exact mems_foldl _ _ (fun s x => State.set_mems _ _ _) _

theorem State.setWords_mems (s : State) (f : _) (ws : _) : (State.setWords s f ws).mems = s.mems := by
  simp only [State.setWords, ↓mems_ite, ↓mems_mk, mems_eta, ↓State.set_mems, ↓mems_foldl, ite_self, implies_true,
      id_eq]

theorem State.violate_mems (s : State) (m : _) (kind : _) (bank : _) (pip : _) (addr : _) (pc : _) :
    (State.violate s m kind bank pip addr pc).mems = s.mems := by
  simp only [State.violate, ↓mems_ite, ↓mems_mk, mems_eta, ↓State.raise_mems, ↓State.setFrozen_mems,
      ↓State.bump_mems, ↓State.setWords_mems, ↓State.vlogShift_mems, ite_self, implies_true, id_eq]

theorem State.mdlEntry_mems (s : State) (fault : _) (unit : _) (inst : _) (perm : _) (action : _) (wcount :
    _) (detail : _) (logical : _) :
    (State.mdlEntry s fault unit inst perm action wcount detail logical).mems = s.mems := by
  simp only [State.mdlEntry, ↓mems_ite, ↓mems_mk, mems_eta, ↓State.set_mems, ↓State.setWords_mems,
      ↓State.raise_mems, ite_self, implies_true, id_eq]

theorem State.mdlFault_mems (s : State) (fault : _) (unit : _) (inst : _) (ok : _) (tact : _) (pact : _) (detail :
    _) (logical : _) : (State.mdlFault s fault unit inst ok tact pact detail logical).mems = s.mems := by
  simp only [State.mdlFault, ↓mems_ite, ↓mems_mk, mems_eta, ↓State.mdlEntry_mems, ite_self, implies_true, id_eq]

theorem State.hostReject_mems (s : State) (m : _) : (State.hostReject s m).mems = s.mems := by
  unfold State.hostReject
  (repeat' split) <;> simp only [↓mems_ite, ↓mems_mk, mems_eta, ↓State.bump_mems, ite_self, implies_true, id_eq]

theorem State.sendFrame_mems (s : State) (kind : _) (tick : _) (item : _) (words : _) :
    (State.sendFrame s kind tick item words).mems = s.mems := by
  simp only [State.sendFrame, ↓mems_ite, ↓mems_mk, mems_eta, ↓State.set_mems, ite_self, implies_true, id_eq]

theorem State.mirror_mems (s : State) (item : _) : (State.mirror s item).mems = s.mems := by
  simp only [State.mirror, ↓mems_ite, ↓mems_mk, mems_eta, ↓State.set_mems, ↓State.sendFrame_mems, ite_self,
      implies_true, id_eq]

theorem State.pcieWait_mems (s : State) (r : _) : (State.pcieWait s r).mems = s.mems := by
  simp only [State.pcieWait, ↓mems_ite, ↓mems_mk, mems_eta, ite_self, implies_true, id_eq]

theorem State.guardWrite_mems (s : State) (m : _) (addr : _) (w : _) (eff : _) (heff : ∀ x,
    (eff x).mems = x.mems) : (State.guardWrite s m addr w eff).mems = s.mems := by
  simp only [State.guardWrite, ↓mems_ite, ↓mems_mk, mems_eta, ↓State.pcieWait_mems, ↓State.hostReject_mems,
      ↓State.violate_mems, ↓State.mirror_mems, ↓heff, ite_self, implies_true, id_eq]

theorem State.answerRead_mems (s : State) (m : _) (abort : _) : (State.answerRead s m abort).mems = s.mems := by
  simp only [State.answerRead, ↓mems_ite, ↓mems_mk, mems_eta, ↓State.flag_mems, ite_self, implies_true, id_eq]

theorem State.guardRead_mems (s : State) (m : _) (addr : _) (eff : _) (heff : ∀ x, (eff x).mems = x.mems) :
    (State.guardRead s m addr eff).mems = s.mems := by
  simp only [State.guardRead, ↓mems_ite, ↓mems_mk, mems_eta, ↓State.pcieWait_mems, ↓State.answerRead_mems,
      ↓State.hostReject_mems, ↓heff, ite_self, implies_true, id_eq]

theorem State.mirrorPost_mems (s : State) (m : _) (item : _) (eff : _) (heff : ∀ x, (eff x).mems = x.mems) :
    (State.mirrorPost s m item eff).mems = s.mems := by
  simp only [State.mirrorPost, ↓mems_ite, ↓mems_mk, mems_eta, ↓State.mirror_mems, ↓heff, ite_self, implies_true,
      id_eq]

theorem State.reply_mems (s : State) (m : _) (w : _) : (State.reply s m w).mems = s.mems := by
  simp only [State.reply, ↓mems_ite, ↓mems_mk, mems_eta, ↓State.set_mems, ite_self, implies_true, id_eq]

theorem State.enableWrite_mems (s : State) (en : _) (st : _) (want : _) (start : _) (shut : _) (hstart : ∀ x,
    (start x).mems = x.mems) (hshut : ∀ x, (shut x).mems = x.mems) :
    (State.enableWrite s en st want start shut).mems = s.mems := by
  simp only [State.enableWrite, ↓mems_ite, ↓mems_mk, mems_eta, ↓State.set_mems, ↓hstart, ↓hshut, ite_self,
      implies_true, id_eq]

theorem State.shutDone_mems (s : State) (en : _) (st : _) (off : _) (restart : _) (hoff : ∀ x,
    (off x).mems = x.mems) (hrestart : ∀ x, (restart x).mems = x.mems) :
    (State.shutDone s en st off restart).mems = s.mems := by
  simp only [State.shutDone, ↓mems_ite, ↓mems_mk, mems_eta, ↓State.set_mems, ↓hoff, ↓hrestart, ite_self,
      implies_true, id_eq]

theorem State.startDone_mems (s : State) (st : _) (go : _) (hgo : ∀ x, (go x).mems = x.mems) :
    (State.startDone s st go).mems = s.mems := by
  simp only [State.startDone, ↓mems_ite, ↓mems_mk, mems_eta, ↓State.set_mems, ↓hgo, ite_self, implies_true, id_eq]

theorem State.clkStatus_mems (s : State) (v : _) : (State.clkStatus s v).mems = s.mems := by
  simp only [State.clkStatus, ↓mems_ite, ↓mems_mk, mems_eta, ↓State.set_mems, ite_self, implies_true, id_eq]

theorem State.setPpm_mems (s : State) (x : _) : (State.setPpm s x).mems = s.mems := by
  simp only [State.setPpm, ↓mems_ite, ↓mems_mk, mems_eta, ↓State.set_mems, ↓mems_foldl, ↓mems_foldr, ite_self,
      implies_true, id_eq]

theorem State.drawn_mems (s : State) : (State.drawn s).mems = s.mems := by
  simp only [State.drawn, ↓mems_ite, ↓mems_mk, mems_eta, ↓mems_foldl, ↓mems_foldr, ite_self, implies_true, id_eq]

theorem State.ppmNow_mems (s : State) : (State.ppmNow s).mems = s.mems := by
  simp only [State.ppmNow, ↓mems_ite, ↓mems_mk, mems_eta, ↓State.setPpm_mems, ↓State.drawn_mems, ↓mems_foldl,
      ↓mems_foldr, ite_self, implies_true, id_eq]

theorem State.drawRef_mems (s : State) : (State.drawRef s).mems = s.mems := by
  simp only [State.drawRef, ↓mems_ite, ↓mems_mk, mems_eta, ↓State.set_mems, ↓State.drawn_mems, ↓mems_foldl,
      ↓mems_foldr, ite_self, implies_true, id_eq]

theorem State.selectRef_mems (s : State) (i : _) : (State.selectRef s i).mems = s.mems := by
  simp only [State.selectRef, ↓mems_ite, ↓mems_mk, mems_eta, ↓State.ppmNow_mems, ↓State.set_mems, ↓State.drawRef_mems,
      ↓State.raise_mems, ↓mems_foldl, ↓mems_foldr, ite_self, implies_true, id_eq]

theorem State.holdOver_mems (s : State) : (State.holdOver s).mems = s.mems := by
  simp only [State.holdOver, ↓mems_ite, ↓mems_mk, mems_eta, ↓State.ppmNow_mems, ↓State.set_mems, ↓State.raise_mems,
      ↓mems_foldl, ↓mems_foldr, ite_self, implies_true, id_eq]

theorem State.holdoverEnd_mems (s : State) : (State.holdoverEnd s).mems = s.mems := by
  unfold State.holdoverEnd
  (repeat' split) <;> simp only [↓mems_ite, ↓mems_mk, mems_eta, ↓State.selectRef_mems, ↓State.set_mems, ite_self,
      implies_true, id_eq]

theorem State.enterHoldover_mems (s : State) : (State.enterHoldover s).mems = s.mems := by
  simp only [State.enterHoldover, ↓mems_ite, ↓mems_mk, mems_eta, ↓State.holdOver_mems, ↓State.holdoverEnd_mems,
      ↓mems_foldl, ↓mems_foldr, ite_self, implies_true, id_eq]

theorem State.enterAcquire_mems (s : State) : (State.enterAcquire s).mems = s.mems := by
  simp only [State.enterAcquire, ↓mems_ite, ↓mems_mk, mems_eta, ↓State.ppmNow_mems, ↓State.set_mems, ↓mems_foldl,
      ↓mems_foldr, ite_self, implies_true, id_eq]

theorem State.reselect_mems (s : State) : (State.reselect s).mems = s.mems := by
  unfold State.reselect
  (repeat' split) <;> simp only [↓mems_ite, ↓mems_mk, mems_eta, ↓State.holdOver_mems, ↓State.set_mems,
      ↓State.selectRef_mems, ↓mems_foldl, ↓mems_foldr, ite_self, implies_true, id_eq]

theorem State.qualified_mems (s : State) (i : _) : (State.qualified s i).mems = s.mems := by
  simp only [State.qualified, ↓mems_ite, ↓mems_mk, mems_eta, ↓State.selectRef_mems, ↓State.enterAcquire_mems,
      ite_self, implies_true, id_eq]

theorem State.refTake_mems (s : State) (i : _) : (State.refTake s i).mems = s.mems := by
  simp only [State.refTake, ↓mems_ite, ↓mems_mk, mems_eta, ↓State.set_mems, ↓mems_foldl, ↓mems_foldr, ite_self,
      implies_true, id_eq]

theorem State.refGate_mems (s : State) (i : _) (g : _) : (State.refGate s i g).mems = s.mems := by
  unfold State.refGate
  (repeat' split) <;> simp only [↓mems_ite, ↓mems_mk, mems_eta, ↓State.qualified_mems, ↓State.refTake_mems,
      ↓State.set_mems, ↓State.raise_mems, ↓State.enterHoldover_mems, ↓mems_foldl, ↓mems_foldr, ite_self, implies_true,
          id_eq]

theorem State.refGlitched_mems (s : State) : (State.refGlitched s).mems = s.mems := by
  simp only [State.refGlitched, ↓mems_ite, ↓mems_mk, mems_eta, ↓State.bump_mems, ↓State.set_mems, ↓State.raise_mems,
      ↓mems_foldl, ↓mems_foldr, ite_self, implies_true, id_eq]

theorem State.refStopped_mems (s : State) (missing : _) : (State.refStopped s missing).mems = s.mems := by
  simp only [State.refStopped, ↓mems_ite, ↓mems_mk, mems_eta, ↓State.enterHoldover_mems, ↓State.set_mems, ite_self,
      implies_true, id_eq]

theorem State.pullInDone_mems (s : State) : (State.pullInDone s).mems = s.mems := by
  simp only [State.pullInDone, ↓mems_ite, ↓mems_mk, mems_eta, ↓State.set_mems, ↓State.setPpm_mems, ↓State.raise_mems,
      ↓mems_foldl, ↓mems_foldr, ite_self, implies_true, id_eq]

theorem State.revertTo_mems (s : State) (i : _) : (State.revertTo s i).mems = s.mems := by
  simp only [State.revertTo, ↓mems_ite, ↓mems_mk, mems_eta, ↓State.selectRef_mems, ite_self, implies_true, id_eq]

theorem State.refpriSet_mems (s : State) (i : _) (w : _) : (State.refpriSet s i w).mems = s.mems := by
  simp only [State.refpriSet, ↓mems_ite, ↓mems_mk, mems_eta, ↓State.puts_mems, ↓State.clkStatus_mems,
      ↓State.refTake_mems, ↓State.set_mems, ↓State.reselect_mems, ↓mems_foldl, ↓mems_foldr, ite_self, implies_true,
          id_eq]

theorem State.clkCtrlSet_mems (s : State) (w : _) : (State.clkCtrlSet s w).mems = s.mems := by
  simp only [State.clkCtrlSet, ↓mems_ite, ↓mems_mk, mems_eta, ↓State.clkStatus_mems, ↓State.enterAcquire_mems,
      ↓State.puts_mems, ite_self, implies_true, id_eq]

theorem State.acquireDone_mems (s : State) : (State.acquireDone s).mems = s.mems := by
  unfold State.acquireDone
  (repeat' split) <;> simp only [↓mems_ite, ↓mems_mk, mems_eta, ↓State.set_mems, ↓State.drawRef_mems,
      ↓State.setPpm_mems, ↓State.raise_mems, ↓mems_foldl, ↓mems_foldr, ite_self, implies_true, id_eq]

theorem State.acquireTimeout_mems (s : State) : (State.acquireTimeout s).mems = s.mems := by
  unfold State.acquireTimeout
  (repeat' split) <;> simp only [↓mems_ite, ↓mems_mk, mems_eta, ↓State.set_mems, ↓State.setPpm_mems, ↓mems_foldl,
      ↓mems_foldr, ite_self, implies_true, id_eq]

theorem State.mclkoSet_mems (s : State) (n : _) (w : _) : (State.mclkoSet s n w).mems = s.mems := by
  simp only [State.mclkoSet, ↓mems_ite, ↓mems_mk, mems_eta, ↓State.clkStatus_mems, ↓State.set_mems,
      ↓State.withClaims_mems, ↓State.enableWrite_mems, ite_self, implies_true, id_eq]

theorem State.syncoutSet_mems (s : State) (w : _) : (State.syncoutSet s w).mems = s.mems := by
  simp only [State.syncoutSet, ↓mems_ite, ↓mems_mk, mems_eta, ↓State.clkStatus_mems, ↓State.withClaims_mems,
      ↓State.set_mems, ↓State.enableWrite_mems, ite_self, implies_true, id_eq]

theorem State.frcLoadSet_mems (s : State) (w : _) : (State.frcLoadSet s w).mems = s.mems := by
  simp only [State.frcLoadSet, ↓mems_ite, ↓mems_mk, mems_eta, ↓State.clkStatus_mems, ↓State.set_mems, ite_self,
      implies_true, id_eq]

theorem State.frcSet_mems (s : State) (v : _) : (State.frcSet s v).mems = s.mems := by
  simp only [State.frcSet, ↓mems_ite, ↓mems_mk, mems_eta, ↓State.set_mems, ite_self, implies_true, id_eq]

theorem State.frcLoadDone_mems (s : State) : (State.frcLoadDone s).mems = s.mems := by
  simp only [State.frcLoadDone, ↓mems_ite, ↓mems_mk, mems_eta, ↓State.frcSet_mems, ↓State.set_mems, ite_self,
      implies_true, id_eq]

theorem State.frcLoRead_mems (s : State) (m : _) : (State.frcLoRead s m).mems = s.mems := by
  simp only [State.frcLoRead, ↓mems_ite, ↓mems_mk, mems_eta, ↓State.reply_mems, ↓State.setLatch_mems, ite_self,
      implies_true, id_eq]

theorem State.rateSet_mems (s : State) (w : _) : (State.rateSet s w).mems = s.mems := by
  simp only [State.rateSet, ↓mems_ite, ↓mems_mk, mems_eta, ↓State.set_mems, ↓State.puts_mems, ite_self,
      implies_true, id_eq]

theorem State.deadlineClamp_mems (s : State) : (State.deadlineClamp s).mems = s.mems := by
  simp only [State.deadlineClamp, ↓mems_ite, ↓mems_mk, mems_eta, ↓State.raise_mems, ↓State.set_mems, ite_self,
      implies_true, id_eq]

theorem State.rateApply_mems (s : State) : (State.rateApply s).mems = s.mems := by
  simp only [State.rateApply, ↓mems_ite, ↓mems_mk, mems_eta, ↓State.set_mems, ↓State.deadlineClamp_mems,
      ↓State.enterAcquire_mems, ite_self, implies_true, id_eq]

theorem State.dmsStatus_mems (s : State) (n : _) (v : _) : (State.dmsStatus s n v).mems = s.mems := by
  simp only [State.dmsStatus, ↓mems_ite, ↓mems_mk, mems_eta, ↓State.set_mems, ite_self, implies_true, id_eq]

theorem State.dmsJump_mems (s : State) (n : _) (v : _) : (State.dmsJump s n v).mems = s.mems := by
  simp only [State.dmsJump, ↓mems_ite, ↓mems_mk, mems_eta, ↓State.set_mems, ite_self, implies_true, id_eq]

theorem State.dmsSlewAt_mems (s : State) (n : _) (v : _) (t : _) : (State.dmsSlewAt s n v t).mems = s.mems := by
  simp only [State.dmsSlewAt, ↓mems_ite, ↓mems_mk, mems_eta, ↓State.set_mems, ↓State.flag_mems, ↓mems_foldl,
      ↓mems_foldr, ite_self, implies_true, id_eq]

theorem State.dmsSlewTo_mems (s : State) (n : _) (v : _) : (State.dmsSlewTo s n v).mems = s.mems := by
  simp only [State.dmsSlewTo, ↓mems_ite, ↓mems_mk, mems_eta, ↓State.dmsSlewAt_mems, ↓mems_foldl, ↓mems_foldr, ite_self,
      implies_true, id_eq]

theorem State.dmsRamp_mems (s : State) (n : _) (dir : _) : (State.dmsRamp s n dir).mems = s.mems := by
  simp only [State.dmsRamp, ↓mems_ite, ↓mems_mk, mems_eta, ↓State.set_mems, ↓mems_foldl, ↓mems_foldr, ite_self,
      implies_true, id_eq]

theorem State.dmsStart_mems (s : State) (n : _) (t : _) : (State.dmsStart s n t).mems = s.mems := by
  simp only [State.dmsStart, ↓mems_ite, ↓mems_mk, mems_eta, ↓State.dmsSlewAt_mems, ↓State.set_mems,
      ↓State.dmsJump_mems, ↓State.flag_mems, ↓State.dmsRamp_mems, ↓mems_foldl, ↓mems_foldr, ite_self, implies_true,
          id_eq]

theorem State.dmsSpanBegin_mems (s : State) (n : _) (sp : _) (t : _) : (State.dmsSpanBegin s n sp t).mems = s.mems := by
  simp only [State.dmsSpanBegin, ↓mems_ite, ↓mems_mk, mems_eta, ↓State.dmsSlewAt_mems, ↓State.set_mems, ↓mems_foldl,
      ↓mems_foldr, ite_self, implies_true, id_eq]

theorem State.dmsHeldSpan_mems (s : State) (n : _) (t : _) : (State.dmsHeldSpan s n t).mems = s.mems := by
  simp only [State.dmsHeldSpan, ↓mems_ite, ↓mems_mk, mems_eta, ↓State.set_mems, ↓State.dmsSpanBegin_mems, ↓mems_foldl,
      ↓mems_foldr, ite_self, implies_true, id_eq]

theorem State.dmsOn_mems (s : State) (n : _) : (State.dmsOn s n).mems = s.mems := by
  simp only [State.dmsOn, ↓mems_ite, ↓mems_mk, mems_eta, ↓State.set_mems, ↓State.dmsJump_mems, ↓State.raiseCause_mems,
      ↓State.dmsHeldSpan_mems, ↓mems_foldl, ↓mems_foldr, ite_self, implies_true, id_eq]

theorem State.dmsShut_mems (s : State) (n : _) : (State.dmsShut s n).mems = s.mems := by
  simp only [State.dmsShut, ↓mems_ite, ↓mems_mk, mems_eta, ↓State.dmsSlewAt_mems, ↓State.set_mems, ↓State.dmsJump_mems,
      ↓State.dmsSlewTo_mems, ↓State.flag_mems, ↓State.dmsRamp_mems, ↓mems_foldl, ↓mems_foldr, ite_self, implies_true,
          id_eq]

theorem State.dmsCtrlSet_mems (s : State) (n : _) (w : _) : (State.dmsCtrlSet s n w).mems = s.mems := by
  simp only [State.dmsCtrlSet, ↓mems_ite, ↓mems_mk, mems_eta, ↓State.dmsStart_mems, ↓State.dmsStatus_mems,
      ↓State.set_mems, ↓State.dmsShut_mems, ↓mems_foldl, ↓mems_foldr, ite_self, implies_true, id_eq]

theorem State.dmsSpanOff_mems (s : State) (n : _) : (State.dmsSpanOff s n).mems = s.mems := by
  simp only [State.dmsSpanOff, ↓mems_ite, ↓mems_mk, mems_eta, ↓State.set_mems, ↓mems_foldl, ↓mems_foldr, ite_self,
      implies_true, id_eq]

theorem State.dmsOff_mems (s : State) (n : _) : (State.dmsOff s n).mems = s.mems := by
  simp only [State.dmsOff, ↓mems_ite, ↓mems_mk, mems_eta, ↓State.dmsStart_mems, ↓State.dmsSpanOff_mems,
      ↓State.set_mems, ↓State.dmsJump_mems, ↓State.raiseCause_mems, ↓mems_foldl, ↓mems_foldr, ite_self, implies_true,
          id_eq]

theorem State.dmsCode_mems (s : State) (n : _) (code : _) : (State.dmsCode s n code).mems = s.mems := by
  simp only [State.dmsCode, ↓mems_ite, ↓mems_mk, mems_eta, ↓State.dmsStatus_mems, ↓State.set_mems,
      ↓State.dmsSlewTo_mems, ↓State.dmsJump_mems, ite_self, implies_true, id_eq]

theorem State.dmsHoldEnd_mems (s : State) (n : _) : (State.dmsHoldEnd s n).mems = s.mems := by
  simp only [State.dmsHoldEnd, ↓mems_ite, ↓mems_mk, mems_eta, ↓State.dmsSlewAt_mems, ↓mems_foldl, ↓mems_foldr,
      ite_self, implies_true, id_eq]

theorem State.dmsSlewDone_mems (s : State) (n : _) : (State.dmsSlewDone s n).mems = s.mems := by
  simp only [State.dmsSlewDone, ↓mems_ite, ↓mems_mk, mems_eta, ↓State.set_mems, ↓State.dmsJump_mems,
      ↓State.raiseCause_mems, ↓State.dmsHeldSpan_mems, ↓State.dmsRamp_mems, ↓mems_foldl, ↓mems_foldr, ite_self,
          implies_true, id_eq]

theorem State.dmsRetarget_mems (s : State) (n : _) (code : _) : (State.dmsRetarget s n code).mems = s.mems := by
  simp only [State.dmsRetarget, ↓mems_ite, ↓mems_mk, mems_eta, ↓State.set_mems, ↓State.dmsSlewTo_mems, ite_self,
      implies_true, id_eq]

theorem State.dmsForce_mems (s : State) (n : _) : (State.dmsForce s n).mems = s.mems := by
  simp only [State.dmsForce, ↓mems_ite, ↓mems_mk, mems_eta, ↓State.flag_mems, ↓State.dmsRamp_mems,
      ↓State.dmsRetarget_mems, ↓mems_foldl, ↓mems_foldr, ite_self, implies_true, id_eq]

theorem State.dmsClrLevel_mems (s : State) (high : _) : (State.dmsClrLevel s high).mems = s.mems := by
  simp only [State.dmsClrLevel, ↓mems_ite, ↓mems_mk, mems_eta, ↓State.dmsForce_mems, ↓State.flag_mems, ↓mems_foldl,
      ite_self, implies_true, id_eq]

theorem State.dmsSpanSet_mems (s : State) (n : _) (w : _) : (State.dmsSpanSet s n w).mems = s.mems := by
  simp only [State.dmsSpanSet, ↓mems_ite, ↓mems_mk, mems_eta, ↓State.dmsStatus_mems, ↓State.set_mems,
      ↓State.dmsSpanBegin_mems, ↓State.dmsSlewTo_mems, ↓mems_foldl, ↓mems_foldr, ite_self, implies_true, id_eq]

theorem State.dmsSafeReached_mems (s : State) (n : _) : (State.dmsSafeReached s n).mems = s.mems := by
  simp only [State.dmsSafeReached, ↓mems_ite, ↓mems_mk, mems_eta, ↓State.set_mems, ↓State.dmsJump_mems, ite_self,
      implies_true, id_eq]

theorem State.dmsSwitch_mems (s : State) (n : _) : (State.dmsSwitch s n).mems = s.mems := by
  simp only [State.dmsSwitch, ↓mems_ite, ↓mems_mk, mems_eta, ↓State.set_mems, ite_self, implies_true, id_eq]

theorem State.dmsSettled_mems (s : State) (n : _) : (State.dmsSettled s n).mems = s.mems := by
  simp only [State.dmsSettled, ↓mems_ite, ↓mems_mk, mems_eta, ↓State.dmsSlewAt_mems, ↓State.set_mems, ↓mems_foldl,
      ↓mems_foldr, ite_self, implies_true, id_eq]

theorem State.dmsStageSwap_mems (s : State) (n : _) : (State.dmsStageSwap s n).mems = s.mems := by
  simp only [State.dmsStageSwap, ↓mems_ite, ↓mems_mk, mems_eta, ↓State.raiseCause_mems, ↓State.set_mems, ite_self,
      implies_true, id_eq]

theorem State.dmsRetire_mems (s : State) (n : _) : (State.dmsRetire s n).mems = s.mems := by
  simp only [State.dmsRetire, ↓mems_ite, ↓mems_mk, mems_eta, ↓State.dmsSpanOff_mems, ↓State.dmsStatus_mems,
      ↓State.set_mems, ↓State.dmsJump_mems, ↓State.raiseCause_mems, ↓mems_foldl, ↓mems_foldr, ite_self, implies_true,
          id_eq]

theorem State.dmsShort_mems (s : State) (n : _) : (State.dmsShort s n).mems = s.mems := by
  simp only [State.dmsShort, ↓mems_ite, ↓mems_mk, mems_eta, ↓State.raiseCause_mems, ↓State.set_mems, ite_self,
      implies_true, id_eq]

theorem State.dmsUnshort_mems (s : State) (n : _) : (State.dmsUnshort s n).mems = s.mems := by
  simp only [State.dmsUnshort, ↓mems_ite, ↓mems_mk, mems_eta, ↓State.set_mems, ↓State.dmsSlewTo_mems,
      ↓State.dmsJump_mems, ite_self, implies_true, id_eq]

theorem State.plainStore_mems (s : State) (addr : _) (w : _) (report : State → State) (hreport : ∀ (x0 : State),
    (report x0).mems = x0.mems) : (State.plainStore s addr w report).mems = s.mems := by
  simp only [State.plainStore, ↓mems_ite, ↓mems_mk, mems_eta, ↓State.regStore_mems, ↓mems_foldl, ↓mems_foldr, ↓hreport,
      ite_self, implies_true, id_eq]

theorem State.dmsPlain_mems (s : State) (n : _) (o : _) (w : _) : (State.dmsPlain s n o w).mems = s.mems := by
  simp only [State.dmsPlain, ↓mems_ite, ↓mems_mk, mems_eta, ↓State.dmsStatus_mems, ↓State.dmsForce_mems,
      ↓State.set_mems, ↓State.plainStore_mems, ↓State.dmsRetarget_mems, ↓mems_foldl, ↓mems_foldr, ite_self,
          implies_true, id_eq]

theorem State.say_mems (s : State) (l : _) : (State.say s l).mems = s.mems := by
  simp only [State.say, ↓mems_ite, ↓mems_mk, mems_eta, ite_self, implies_true, id_eq]

theorem State.dacclrRefresh_mems (s : State) : (State.dacclrRefresh s).mems = s.mems := by
  unfold State.dacclrRefresh
  (repeat' split) <;> simp only [↓mems_ite, ↓mems_mk, mems_eta, ↓State.dmsClrLevel_mems, ite_self, implies_true,
      id_eq]

theorem State.dacclrOutside_mems (s : State) (high : _) : (State.dacclrOutside s high).mems = s.mems := by
  simp only [State.dacclrOutside, ↓mems_ite, ↓mems_mk, mems_eta, ↓State.dacclrRefresh_mems, ↓State.flag_mems,
      ite_self, implies_true, id_eq]

theorem State.endSlotlessDrives_mems (s : State) : (State.endSlotlessDrives s).mems = s.mems := by
  simp only [State.endSlotlessDrives, ↓mems_ite, ↓mems_mk, mems_eta, ↓State.dacclrRefresh_mems, ↓State.say_mems,
      ↓mems_foldl, ite_self, implies_true, id_eq]

theorem State.engineAccept_mems (s : State) (run : _) (at_ : _) : (State.engineAccept s run at_).mems = s.mems := by
  simp only [State.engineAccept, ↓mems_ite, ↓mems_mk, mems_eta, ↓State.set_mems, ↓State.flag_mems, ite_self,
      implies_true, id_eq]

theorem State.engineStart_mems (s : State) (f : _) : (State.engineStart s f).mems = s.mems := by
  simp only [State.engineStart, ↓mems_ite, ↓mems_mk, mems_eta, ↓State.setEngine_mems,
      ↓State.endSlotlessDrives_mems, ↓State.set_mems, ite_self, implies_true, id_eq]

theorem State.engineRun_mems (s : State) (at_ : _) : (State.engineRun s at_).mems = s.mems := by
  unfold State.engineRun
  (repeat' split) <;> simp only [↓mems_ite, ↓mems_mk, mems_eta, ↓State.set_mems, ↓State.engineAccept_mems,
      ↓State.engineStart_mems, ite_self, implies_true, id_eq]

theorem State.engineStop_mems (s : State) (at_ : _) : (State.engineStop s at_).mems = s.mems := by
  unfold State.engineStop
  (repeat' split) <;> simp only [↓mems_ite, ↓mems_mk, mems_eta, ↓State.set_mems, ↓State.engineAccept_mems,
      ↓State.setEngine_mems, ite_self, implies_true, id_eq]

theorem State.engineSet_mems (s : State) (w : _) : (State.engineSet s w).mems = s.mems := by
  simp only [State.engineSet, ↓mems_ite, ↓mems_mk, mems_eta, ↓State.engineStop_mems, ↓State.set_mems,
      ↓State.clear1_mems, ↓State.engineRun_mems, ↓mems_foldl, ↓mems_foldr, ite_self, implies_true, id_eq]

theorem State.claimReq_mems (s : State) (m : _) (status : _) : (State.claimReq s m status).mems = s.mems := by
  simp only [State.claimReq, ↓mems_ite, ↓mems_mk, mems_eta, ↓State.set_mems, ite_self, implies_true, id_eq]

theorem State.claimTake_mems (s : State) (m : _) (slot : _) : (State.claimTake s m slot).mems = s.mems := by
  simp only [State.claimTake, ↓mems_ite, ↓mems_mk, mems_eta, ↓State.claimReq_mems, ↓State.set_mems,
      ↓State.conflict_mems, ite_self, implies_true, id_eq]

theorem State.claimDrop_mems (s : State) (m : _) (slot : _) : (State.claimDrop s m slot).mems = s.mems := by
  simp only [State.claimDrop, ↓mems_ite, ↓mems_mk, mems_eta, ↓State.set_mems, ↓State.claimReq_mems, ite_self,
      implies_true, id_eq]

theorem State.claimSet_mems (s : State) (m : _) (slot : _) (w : _) : (State.claimSet s m slot w).mems = s.mems := by
  simp only [State.claimSet, ↓mems_ite, ↓mems_mk, mems_eta, ↓State.claimReq_mems, ↓State.claimTake_mems,
      ↓State.claimDrop_mems, ite_self, implies_true, id_eq]

theorem State.evrouteSet_mems (s : State) (n : _) (w : _) : (State.evrouteSet s n w).mems = s.mems := by
  simp only [State.evrouteSet, ↓mems_ite, ↓mems_mk, mems_eta, ↓State.puts_mems, ↓State.raise_mems, ↓State.set_mems,
      ↓State.notify_mems, ite_self, implies_true, id_eq]

theorem State.orcStatus_mems (s : State) (v : _) : (State.orcStatus s v).mems = s.mems := by
  simp only [State.orcStatus, ↓mems_ite, ↓mems_mk, mems_eta, ↓State.set_mems, ite_self, implies_true, id_eq]

theorem State.ownSet_mems (s : State) (m : _) (n : _) (w : _) (drain : State → State) (hdrain : ∀ (x0 : State), (drain
    x0).mems = x0.mems) : (State.ownSet s m n w drain).mems = s.mems := by
  simp only [State.ownSet, ↓mems_ite, ↓mems_mk, mems_eta, ↓State.set_mems, ↓State.orcStatus_mems, ↓mems_foldl,
      ↓mems_foldr, ↓hdrain, ite_self, implies_true, id_eq]

theorem State.handoverDone_mems (s : State) (n : _) : (State.handoverDone s n).mems = s.mems := by
  simp only [State.handoverDone, ↓mems_ite, ↓mems_mk, mems_eta, ↓State.raise_mems, ↓State.set_mems, ite_self,
      implies_true, id_eq]

theorem State.groupSet_mems (s : State) (g : _) (k : _) (w : _) : (State.groupSet s g k w).mems = s.mems := by
  simp only [State.groupSet, ↓mems_ite, ↓mems_mk, mems_eta, ↓State.orcStatus_mems, ↓State.set_mems,
      ↓State.puts_mems, ite_self, implies_true, id_eq]

theorem State.orcUncorrectable_mems (s : State) (off : _) (lanes : _) :
    (State.orcUncorrectable s off lanes).mems = s.mems := by
  simp only [State.orcUncorrectable, ↓mems_ite, ↓mems_mk, mems_eta, ↓State.raise_mems, ↓State.set_mems,
      ↓State.bump_mems, ite_self, implies_true, id_eq]

theorem State.dramError_mems (s : State) (a : _) (corrected : _) : (State.dramError s a corrected).mems = s.mems := by
  simp only [State.dramError, ↓mems_ite, ↓mems_mk, mems_eta, ↓State.mdlFault_mems, ↓State.bump_mems,
      ↓State.raise_mems, ↓State.set_mems, ite_self, implies_true, id_eq]

theorem State.dmcStatus_mems (s : State) (v : _) : (State.dmcStatus s v).mems = s.mems := by
  simp only [State.dmcStatus, ↓mems_ite, ↓mems_mk, mems_eta, ↓State.set_mems, ite_self, implies_true, id_eq]

theorem State.dmcSet_mems (s : State) (w : _) : (State.dmcSet s w).mems = s.mems := by
  simp only [State.dmcSet, ↓mems_ite, ↓mems_mk, mems_eta, ↓State.dmcStatus_mems, ↓State.enableWrite_mems,
      ↓State.set_mems, ite_self, implies_true, id_eq]

theorem State.dmcCfgSet_mems (s : State) (w : _) : (State.dmcCfgSet s w).mems = s.mems := by
  simp only [State.dmcCfgSet, ↓mems_ite, ↓mems_mk, mems_eta, ↓State.dmcStatus_mems, ↓State.puts_mems, ite_self,
      implies_true, id_eq]

theorem State.dmcTrained_mems (s : State) : (State.dmcTrained s).mems = s.mems := by
  simp only [State.dmcTrained, ↓mems_ite, ↓mems_mk, mems_eta, ↓State.startDone_mems, ↓State.raise_mems,
      ↓State.dmcStatus_mems, ↓State.set_mems, ite_self, implies_true, id_eq]

theorem State.dmcFailed_mems (s : State) : (State.dmcFailed s).mems = s.mems := by
  simp only [State.dmcFailed, ↓mems_ite, ↓mems_mk, mems_eta, ↓State.raise_mems, ↓State.dmcStatus_mems,
      ↓State.set_mems, ite_self, implies_true, id_eq]

theorem State.dmcOff_mems (s : State) : (State.dmcOff s).mems = s.mems := by
  simp only [State.dmcOff, ↓mems_ite, ↓mems_mk, mems_eta, ↓State.shutDone_mems, ite_self, implies_true, id_eq]

theorem State.setQueue_mems (s : State) (q : _) : (State.setQueue s q).mems = s.mems := by
  simp only [State.setQueue, ↓mems_ite, ↓mems_mk, mems_eta, ite_self, implies_true, id_eq]

theorem State.setHeld_mems (s : State) (h : _) : (State.setHeld s h).mems = s.mems := by
  simp only [State.setHeld, ↓mems_ite, ↓mems_mk, mems_eta, ite_self, implies_true, id_eq]

theorem State.qnStatus_mems (s : State) (v : _) : (State.qnStatus s v).mems = s.mems := by
  simp only [State.qnStatus, ↓mems_ite, ↓mems_mk, mems_eta, ↓State.set_mems, ite_self, implies_true, id_eq]

theorem State.pipFresh_mems (s : State) (p : _) : (State.pipFresh s p).mems = s.mems := by
  simp only [State.pipFresh, ↓mems_ite, ↓mems_mk, mems_eta, ↓State.set_mems, ite_self, implies_true, id_eq]

theorem State.pipWord1_mems (s : State) (p : _) (w : _) : (State.pipWord1 s p w).mems = s.mems := by
  simp only [State.pipWord1, ↓mems_ite, ↓mems_mk, mems_eta, ↓State.qnStatus_mems, ↓State.set_mems,
      ↓State.puts_mems, ↓State.pipFresh_mems, ite_self, implies_true, id_eq]

theorem State.pipWord_mems (s : State) (p : _) (k : _) (w : _) : (State.pipWord s p k w).mems = s.mems := by
  simp only [State.pipWord, ↓mems_ite, ↓mems_mk, mems_eta, ↓State.pipWord1_mems, ↓State.qnStatus_mems,
      ↓State.regStore_mems, ite_self, implies_true, id_eq]

theorem State.checkCores_mems (s : State) (p : _) : (State.checkCores s p).mems = s.mems := by
  simp only [State.checkCores, ↓mems_ite, ↓mems_mk, mems_eta, ↓State.raise_mems, ite_self, implies_true, id_eq]

theorem State.refreshEvent_mems (s : State) (p : _) : (State.refreshEvent s p).mems = s.mems := by
  simp only [State.refreshEvent, ↓mems_ite, ↓mems_mk, mems_eta, ↓State.set_mems, ite_self, implies_true, id_eq]

theorem State.syncUsed_mems (s : State) : (State.syncUsed s).mems = s.mems := by
  simp only [State.syncUsed, ↓mems_ite, ↓mems_mk, mems_eta, ↓State.set_mems, ↓State.raise_mems, ite_self,
      implies_true, id_eq]

theorem State.recordRefusal_mems (s : State) (reason : _) (src : _) (p : _) :
    (State.recordRefusal s reason src p).mems = s.mems := by
  simp only [State.recordRefusal, ↓mems_ite, ↓mems_mk, mems_eta, ↓State.raise_mems, ↓State.set_mems, ite_self,
      implies_true, id_eq]

theorem State.takeReady_mems (s : State) : (State.takeReady s).mems = s.mems := by
  simp only [State.takeReady, ↓mems_ite, ↓mems_mk, mems_eta, ↓State.set_mems, ite_self, implies_true, id_eq]

theorem State.accept_mems (s : State) (p : _) (word : _) (level : _) (src : _) (timed : _) (entry : _) : (State.accept
    s p word level src timed entry).mems = s.mems := by
  simp only [State.accept, ↓mems_ite, ↓mems_mk, mems_eta, ↓State.bump_mems, ↓State.setQueue_mems, ↓State.set_mems,
      ↓State.takeReady_mems, ↓State.raise_mems, ↓State.checkCores_mems, ↓State.syncUsed_mems, ↓State.refreshEvent_mems,
          ↓mems_foldl, ↓mems_foldr, ite_self, implies_true, id_eq]

theorem State.settlePost_mems (s : State) (p : _) (word : _) (level : _) (src : _) (timed : _) (entry : _) :
    (State.settlePost s p word level src timed entry).mems = s.mems := by
  unfold State.settlePost
  (repeat' split) <;> simp only [↓mems_ite, ↓mems_mk, mems_eta, ↓State.recordRefusal_mems, ↓State.accept_mems,
      ↓mems_foldl, ↓mems_foldr, ite_self, implies_true, id_eq]

theorem State.postPip_mems (s : State) (p : _) (word : _) (src : _) (core : _) :
    (State.postPip s p word src core).mems = s.mems := by
  simp only [State.postPip, ↓mems_ite, ↓mems_mk, mems_eta, ↓State.setHeld_mems, ↓State.settlePost_mems, ite_self,
      implies_true, id_eq]

theorem State.releaseHeld_mems (s : State) : (State.releaseHeld s).mems = s.mems := by
  unfold State.releaseHeld
  (repeat' split) <;> simp only [↓mems_ite, ↓mems_mk, mems_eta, ↓State.refreshEvent_mems, ↓State.checkCores_mems,
      ↓State.takeReady_mems, ↓State.setQueue_mems, ↓mems_foldl, ite_self, implies_true, id_eq]

theorem State.makeReady_mems (s : State) (p : _) : (State.makeReady s p).mems = s.mems := by
  simp only [State.makeReady, ↓mems_ite, ↓mems_mk, mems_eta, ↓State.checkCores_mems, ↓State.takeReady_mems,
      ↓State.set_mems, ite_self, implies_true, id_eq]

theorem State.dropNext_mems (s : State) (n : _) : (State.dropNext s n).mems = s.mems := by
  unfold State.dropNext
  repeat' (first
      | with_reducible rfl
      | simp only [↓mems_ite, ↓mems_mk, mems_eta, ↓State.setCore_mems, ite_self, implies_true, id_eq]
      | split)

theorem State.disarm_mems (s : State) (gone : ℕ → Bool) : (State.disarm s gone).mems = s.mems := by
  simp only [State.disarm, ↓mems_ite, ↓mems_mk, mems_eta, ↓State.set_mems, ↓mems_foldl, ↓mems_foldr, ite_self,
      implies_true, id_eq]

theorem State.graphLate_mems (s : State) : (State.graphLate s).mems = s.mems := by
  unfold State.graphLate
  repeat' (first
      | with_reducible rfl
      | refine (mems_foldl _ _ (fun s x => ?_) _).trans ?_
      | simp only [↓mems_ite, ↓mems_mk, mems_eta, ↓State.dropNext_mems, ↓State.setCore_mems, ↓mems_foldl, ↓mems_foldr,
          ite_self, implies_true, id_eq]
      | split)

theorem State.withdrawGraph_mems (s : State) : (State.withdrawGraph s).mems = s.mems := by
  simp only [State.withdrawGraph, ↓mems_ite, ↓mems_mk, mems_eta, ↓State.disarm_mems, ↓State.set_mems,
      ↓State.graphLate_mems, ↓mems_foldl, ↓mems_foldr, ite_self, implies_true, id_eq]

theorem State.rearm_mems (s : State) (j : _) : (State.rearm s j).mems = s.mems := by
  simp only [State.rearm, ↓mems_ite, ↓mems_mk, mems_eta, ↓State.set_mems, ↓State.makeReady_mems, ↓mems_foldl,
      ite_self, implies_true, id_eq]

theorem State.decrement_mems (s : State) (p : _) (j : _) : (State.decrement s p j).mems = s.mems := by
  simp only [State.decrement, ↓mems_ite, ↓mems_mk, mems_eta, ↓State.raise_mems, ↓State.set_mems,
      ↓State.makeReady_mems, ite_self, implies_true, id_eq]

theorem State.countCompletion_mems (s : State) (p : _) (blk : _) (late : _) :
    (State.countCompletion s p blk late).mems = s.mems := by
  simp only [State.countCompletion, ↓mems_ite, ↓mems_mk, mems_eta, ↓State.set_mems, ↓State.decrement_mems,
      ↓mems_foldl, ite_self, implies_true, id_eq]

theorem State.graphAfterRun_mems (s : State) (p : _) (blk : _) (late : _) :
    (State.graphAfterRun s p blk late).mems = s.mems := by
  simp only [State.graphAfterRun, ↓mems_ite, ↓mems_mk, mems_eta, ↓State.makeReady_mems, ↓State.set_mems, ite_self,
      implies_true, id_eq]

theorem State.dropRotation_mems (s : State) (n : _) : (State.dropRotation s n).mems = s.mems := by
  simp only [State.dropRotation, ↓mems_ite, ↓mems_mk, mems_eta, ↓State.set_mems, ite_self, implies_true, id_eq]

theorem State.freezeCore_mems (s : State) (n : _) (kind : _) (pip : _) (addr : _) (pc : _) :
    (State.freezeCore s n kind pip addr pc).mems = s.mems := by
  simp only [State.freezeCore, ↓mems_ite, ↓mems_mk, mems_eta, ↓State.dropRotation_mems, ↓State.setCore_mems,
      ↓State.violate_mems, ite_self, implies_true, id_eq]

theorem State.prefetchViolation_mems (s : State) (n : _) (r : _) (kind : _) (addr : _) :
    (State.prefetchViolation s n r kind addr).mems = s.mems := by
  simp only [State.prefetchViolation, ↓mems_ite, ↓mems_mk, mems_eta, ↓State.dropNext_mems, ↓State.set_mems,
      ↓State.refreshEvent_mems, ↓State.freezeCore_mems, ite_self, implies_true, id_eq]

theorem State.place_mems (s : State) (n : _) (p : _) (ev : _) (ready : _) :
    (State.place s n p ev ready).mems = s.mems := by
  unfold State.place
  repeat' (first
      | with_reducible rfl
      | simp only [↓mems_ite, ↓mems_mk, mems_eta, ↓State.setCore_mems, ↓State.set_mems, ↓State.syncUsed_mems,
          ↓State.refreshEvent_mems, ↓State.prefetchViolation_mems, ite_self, implies_true, id_eq]
      | split)

theorem State.unqueue_mems (s : State) (e : _) : (State.unqueue s e).mems = s.mems := by
  simp only [State.unqueue, ↓mems_ite, ↓mems_mk, mems_eta, ↓State.setQueue_mems, ite_self, implies_true, id_eq]

theorem State.discardEvent_mems (s : State) (e : _) : (State.discardEvent s e).mems = s.mems := by
  simp only [State.discardEvent, ↓mems_ite, ↓mems_mk, mems_eta, ↓State.syncUsed_mems, ↓State.refreshEvent_mems,
      ↓State.recordRefusal_mems, ↓State.unqueue_mems, ite_self, implies_true, id_eq]

theorem State.returnNext_mems (s : State) (n : _) : (State.returnNext s n).mems = s.mems := by
  unfold State.returnNext
  (repeat' split) <;> simp only [↓mems_ite, ↓mems_mk, mems_eta, ↓State.dropNext_mems, ↓State.refreshEvent_mems,
      ↓State.setQueue_mems, ↓State.set_mems, ite_self, implies_true, id_eq]

theorem State.placeUrgent_mems (s : State) : (State.placeUrgent s).mems = s.mems := by
  unfold State.placeUrgent
  generalize State.readyEvents s true = l
  suffices h : ∀ acc : State × Bool, (l.foldl (fun (acc : State × Bool) e =>
      let (s, done) := acc
      if done then (s, true)
      else if !s.on (F.PIP1_EN e.pip) then (s.discardEvent e, false)
      else match s.urgentCore e.pip with
        | some n => (((s.returnNext n).unqueue e).place n e.pip (some e) e.ready, true)
        | none => (s, false)) acc).1.mems = acc.1.mems from h (s, false)
  induction l with
  | nil => exact fun acc => rfl
  | cons e t ih =>
    intro acc
    rw [List.foldl_cons, ih]
    obtain ⟨x, d⟩ := acc
    dsimp only
    split
    · rfl
    · split
      · exact State.discardEvent_mems _ _
      · split
        · simp only [↓State.place_mems, ↓State.unqueue_mems, ↓State.returnNext_mems]
        · rfl

theorem State.purgeDisabled_mems (n k : Nat) (s : State) : (State.purgeDisabled n k s).mems = s.mems := by
  induction k generalizing s with
  | zero => rfl
  | succ k ih =>
    unfold State.purgeDisabled
    split
    · split
      · rfl
      · rw [ih, State.discardEvent_mems]
    · rfl

theorem State.placeRoundRobin_mems (s : State) (n : _) : (State.placeRoundRobin s n).mems = s.mems := by
  unfold State.placeRoundRobin
  repeat' (first
      | with_reducible rfl
      | refine (mems_foldl _ _ (fun s x => ?_) _).trans ?_
      | simp only [↓mems_ite, ↓mems_mk, mems_eta, ↓State.purgeDisabled_mems, ↓State.place_mems, ↓State.unqueue_mems,
          ↓mems_foldl, ↓mems_foldr, ite_self, implies_true, id_eq]
      | split)

theorem State.deadlineSet_mems (s : State) (w : _) : (State.deadlineSet s w).mems = s.mems := by
  simp only [State.deadlineSet, ↓mems_ite, ↓mems_mk, mems_eta, ↓State.qnStatus_mems, ↓State.set_mems, ite_self,
      implies_true, id_eq]

theorem State.takeStaged_mems (s : State) (m : _) (addr : _) (f : _) : (State.takeStaged s m addr f).mems = s.mems := by
  unfold State.takeStaged
  (repeat' split) <;> simp only [↓mems_ite, ↓mems_mk, mems_eta, ↓State.set_mems, ↓mems_foldl, ↓mems_foldr, ite_self,
      implies_true, id_eq]

theorem State.slistSet_mems (s : State) (m : _) (k : _) (w : _) : (State.slistSet s m k w).mems = s.mems := by
  simp only [State.slistSet, ↓mems_ite, ↓mems_mk, mems_eta, ↓State.takeStaged_mems, ↓State.stage_mems, ↓State.set_mems,
      ↓State.qnStatus_mems, ↓mems_foldl, ↓mems_foldr, ite_self, implies_true, id_eq]

theorem State.affSet_mems (s : State) (m : _) (k : _) (hi : _) (w : _) : (State.affSet s m k hi w).mems = s.mems := by
  simp only [State.affSet, ↓mems_ite, ↓mems_mk, mems_eta, ↓State.takeStaged_mems, ↓State.stage_mems, ↓State.set_mems,
      ↓State.qnStatus_mems, ↓mems_foldl, ↓mems_foldr, ite_self, implies_true, id_eq]

theorem State.dropImage_mems (s : State) (i : _) : (State.dropImage s i).mems = s.mems := by
  simp only [State.dropImage, ↓mems_ite, ↓mems_mk, mems_eta, ↓State.setCore_mems, ↓mems_foldl, ite_self,
      implies_true, id_eq]

theorem State.imgSet_mems (s : State) (m : _) (i : _) (k : _) (w : _) : (State.imgSet s m i k w).mems = s.mems := by
  simp only [State.imgSet, ↓mems_ite, ↓mems_mk, mems_eta, ↓State.takeStaged_mems, ↓State.stage_mems, ↓State.puts_mems,
      ↓State.dropImage_mems, ↓State.qnStatus_mems, ↓mems_foldl, ↓mems_foldr, ite_self, implies_true, id_eq]

theorem State.qnPlain_mems (s : State) (a : _) (w : _) : (State.qnPlain s a w).mems = s.mems := by
  simp only [State.qnPlain, ↓mems_ite, ↓mems_mk, mems_eta, ↓State.plainStore_mems, ↓State.qnStatus_mems, ↓mems_foldl,
      ↓mems_foldr, ite_self, implies_true, id_eq]

theorem State.hostPost_mems (s : State) (m : _) (p : _) : (State.hostPost s m p).mems = s.mems := by
  simp only [State.hostPost, ↓mems_ite, ↓mems_mk, mems_eta, ↓State.qnStatus_mems, ↓State.mirrorPost_mems,
      ↓State.postPip_mems, ite_self, implies_true, id_eq]

theorem State.coreCtrlSet_mems (s : State) (n : _) (w : _) : (State.coreCtrlSet s n w).mems = s.mems := by
  unfold State.coreCtrlSet
  repeat' (first
      | with_reducible rfl
      | simp only [↓mems_ite, ↓mems_mk, mems_eta, ↓State.returnNext_mems, ↓State.set_mems, ↓State.setCore_mems,
          ↓State.checkCores_mems, ite_self, implies_true, id_eq]
      | split)

theorem State.setCurve_mems (s : State) (k : _) (c : _) : (State.setCurve s k c).mems = s.mems := by
  simp only [State.setCurve, ↓mems_ite, ↓mems_mk, mems_eta, ite_self, implies_true, id_eq]

theorem State.scnStatus_mems (s : State) (v : _) : (State.scnStatus s v).mems = s.mems := by
  simp only [State.scnStatus, ↓mems_ite, ↓mems_mk, mems_eta, ↓State.set_mems, ite_self, implies_true, id_eq]

theorem State.refuseCmd_mems (s : State) (reason : _) (src : _) (index : _) :
    (State.refuseCmd s reason src index).mems = s.mems := by
  simp only [State.refuseCmd, ↓mems_ite, ↓mems_mk, mems_eta, ↓State.raise_mems, ↓State.set_mems, ite_self,
      implies_true, id_eq]

theorem State.prmSet_mems (s : State) (k : _) (v : _) : (State.prmSet s k v).mems = s.mems := by
  simp only [State.prmSet, ↓mems_ite, ↓mems_mk, mems_eta, ↓State.setCurve_mems, ite_self, implies_true, id_eq]

theorem State.applyCmd_mems (s : State) (c : _) (extra : _) : (State.applyCmd s c extra).mems = s.mems := by
  simp only [State.applyCmd, ↓mems_ite, ↓mems_mk, mems_eta, ↓State.prmSet_mems, ↓State.refuseCmd_mems,
      ↓State.setCurve_mems, ite_self, implies_true, id_eq]

theorem State.vmRamp_mems (s : State) (k : _) (n : _) (v1 : _) (len : _) (shape : _) :
    (State.vmRamp s k n v1 len shape).mems = s.mems := by
  simp only [State.vmRamp, ↓mems_ite, ↓mems_mk, mems_eta, ↓State.prmSet_mems, ↓State.setCurve_mems, ite_self,
      implies_true, id_eq]

theorem State.abandonRamp_mems (s : State) (k : _) : (State.abandonRamp s k).mems = s.mems := by
  simp only [State.abandonRamp, ↓mems_ite, ↓mems_mk, mems_eta, ↓State.setCurve_mems, ite_self, implies_true, id_eq]

theorem State.applyDue_mems (s : State) : (State.applyDue s).mems = s.mems := by
  simp only [State.applyDue, ↓mems_ite, ↓mems_mk, mems_eta, ↓State.applyCmd_mems, ↓mems_foldl, ↓mems_foldr, ite_self,
      implies_true, id_eq]

theorem State.waitCmd_mems (s : State) (src : _) (w : _) : (State.waitCmd s src w).mems = s.mems := by
  simp only [State.waitCmd, ↓mems_ite, ↓mems_mk, mems_eta, ↓mems_foldl, ↓mems_foldr, ite_self, implies_true, id_eq]

theorem State.paramNow_mems (s : State) (src : _) (w : _) : (State.paramNow s src w).mems = s.mems := by
  simp only [State.paramNow, ↓mems_ite, ↓mems_mk, mems_eta, ↓State.bump_mems, ↓State.applyDue_mems,
      ↓State.refuseCmd_mems, ↓State.waitCmd_mems, ↓State.raise_mems, ↓State.applyCmd_mems, ↓mems_foldl, ↓mems_foldr,
          ite_self, implies_true, id_eq]

theorem State.paramCmd_mems (s : State) (src : _) (w : _) : (State.paramCmd s src w).mems = s.mems := by
  simp only [State.paramCmd, ↓mems_ite, ↓mems_mk, mems_eta, ↓State.paramNow_mems, ↓State.waitCmd_mems, ↓mems_foldl,
      ↓mems_foldr, ite_self, implies_true, id_eq]

theorem State.paramRetry_mems (s : State) : (State.paramRetry s).mems = s.mems := by
  simp only [State.paramRetry, ↓mems_ite, ↓mems_mk, mems_eta, ↓State.paramCmd_mems, ↓mems_foldl, ↓mems_foldr, ite_self,
      implies_true, id_eq]

theorem State.applyHeld_mems (s : State) : (State.applyHeld s).mems = s.mems := by
  simp only [State.applyHeld, ↓mems_ite, ↓mems_mk, mems_eta, ↓State.applyDue_mems, ↓State.paramRetry_mems, ↓mems_foldl,
      ↓mems_foldr, ite_self, implies_true, id_eq]

theorem State.flushParams_mems (s : State) : (State.flushParams s).mems = s.mems := by
  simp only [State.flushParams, ↓mems_ite, ↓mems_mk, mems_eta, ↓State.paramRetry_mems, ↓State.prmSet_mems, ↓mems_foldl,
      ↓mems_foldr, ite_self, implies_true, id_eq]

theorem State.trimCurves_mems (s : State) : (State.trimCurves s).mems = s.mems := by
  simp only [State.trimCurves, ↓mems_ite, ↓mems_mk, mems_eta, ↓State.setCurve_mems, ↓mems_foldl, ite_self,
      implies_true, id_eq]

theorem State.dirSet_mems (s : State) (m : _) (i : _) (k : _) (w : _) : (State.dirSet s m i k w).mems = s.mems := by
  simp only [State.dirSet, ↓mems_ite, ↓mems_mk, mems_eta, ↓State.takeStaged_mems, ↓State.stage_mems, ↓State.puts_mems,
      ↓State.scnStatus_mems, ↓mems_foldl, ↓mems_foldr, ite_self, implies_true, id_eq]

theorem State.phSet_mems (s : State) (p : _) (P : _) (D : _) (G : _) : (State.phSet s p P D G).mems = s.mems := by
  simp only [State.phSet, ↓mems_ite, ↓mems_mk, mems_eta, ↓State.set_mems, ite_self, implies_true, id_eq]

theorem State.phApply_mems (s : State) (w : _) (o : _) : (State.phApply s w o).mems = s.mems := by
  unfold State.phApply
  (repeat' split) <;> simp only [↓mems_ite, ↓mems_mk, mems_eta, ↓State.phSet_mems, ite_self, implies_true, id_eq]

theorem State.phCommand_mems (s : State) (w : _) : (State.phCommand s w).mems = s.mems := by
  simp only [State.phCommand, ↓mems_ite, ↓mems_mk, mems_eta, ↓State.phApply_mems, ite_self, implies_true, id_eq]

theorem State.phRelease_mems (s : State) : (State.phRelease s).mems = s.mems := by
  simp only [State.phRelease, ↓mems_ite, ↓mems_mk, mems_eta, ↓State.phApply_mems, ↓mems_foldl, ite_self,
      implies_true, id_eq]

theorem State.phFlush_mems (s : State) : (State.phFlush s).mems = s.mems := by
  simp only [State.phFlush, ↓mems_ite, ↓mems_mk, mems_eta, ↓State.phApply_mems, ↓mems_foldl, ite_self,
      implies_true, id_eq]

theorem State.phAdvance_mems (s : State) : (State.phAdvance s).mems = s.mems := by
  simp only [State.phAdvance, ↓mems_ite, ↓mems_mk, mems_eta, ↓State.phSet_mems, ↓mems_foldl, ite_self,
      implies_true, id_eq]

theorem State.phUnstage_mems (s : State) (m : _) (keep : _) : (State.phUnstage s m keep).mems = s.mems := by
  simp only [State.phUnstage, ↓mems_ite, ↓mems_mk, mems_eta, ite_self, implies_true, id_eq]

theorem State.phDirect_mems (s : State) (m : _) (p : _) (k : _) (w : _) : (State.phDirect s m p k w).mems = s.mems := by
  simp only [State.phDirect, ↓mems_ite, ↓mems_mk, mems_eta, ↓State.stage_mems, ↓State.phSet_mems,
      ↓State.phUnstage_mems, ↓mems_foldl, ↓mems_foldr, ite_self, implies_true, id_eq]

theorem State.vmRefuse_mems (s : State) (reason : _) (w : _) : (State.vmRefuse s reason w).mems = s.mems := by
  simp only [State.vmRefuse, ↓mems_ite, ↓mems_mk, mems_eta, ↓State.raise_mems, ↓State.set_mems, ite_self,
      implies_true, id_eq]

theorem State.orphan_mems (s : State) : (State.orphan s).mems = s.mems := by
  simp only [State.orphan, ↓mems_ite, ↓mems_mk, mems_eta, ↓State.raise_mems, ↓State.bump_mems, ite_self,
      implies_true, id_eq]

theorem State.attach_mems (s : State) (k : _) (w : _) : (State.attach s k w).mems = s.mems := by
  simp only [State.attach, ↓mems_ite, ↓mems_mk, mems_eta, ↓State.raise_mems, ite_self, implies_true, id_eq]

theorem State.attachNote_mems (s : State) (num : _) (w : _) : (State.attachNote s num w).mems = s.mems := by
  simp only [State.attachNote, ↓mems_ite, ↓mems_mk, mems_eta, ↓State.attach_mems, ↓mems_foldl, ite_self,
      implies_true, id_eq]

theorem State.setNote_mems (s : State) (num : _) (st : _) : (State.setNote s num st).mems = s.mems := by
  simp only [State.setNote, ↓mems_ite, ↓mems_mk, mems_eta, ↓State.set_mems, ↓mems_foldl, ite_self, implies_true,
      id_eq]

theorem State.fadeNote_mems (s : State) (num : _) (n : _) (w : _) : (State.fadeNote s num n w).mems = s.mems := by
  simp only [State.fadeNote, ↓mems_ite, ↓mems_mk, mems_eta, ↓State.vmRamp_mems, ↓State.set_mems,
      ↓State.attach_mems, ↓mems_foldl, ite_self, implies_true, id_eq]

theorem State.killGroup_mems (s : State) (g : _) : (State.killGroup s g).mems = s.mems := by
  simp only [State.killGroup, ↓mems_ite, ↓mems_mk, mems_eta, ↓State.bump_mems, ↓State.fadeNote_mems, ↓State.flag_mems,
      ↓mems_foldl, ↓mems_foldr, ite_self, implies_true, id_eq]

theorem State.endSlot_mems (s : State) (k : _) : (State.endSlot s k).mems = s.mems := by
  simp only [State.endSlot, ↓mems_ite, ↓mems_mk, mems_eta, ↓State.set_mems, ite_self, implies_true, id_eq]

theorem State.copyPip_mems (s : State) (tpl : _) (dst : _) (k : _) (layer : _) (g : _) : (State.copyPip s tpl dst k
    layer g).mems = s.mems := by
  simp only [State.copyPip, ↓mems_ite, ↓mems_mk, mems_eta, ↓State.puts_mems, ↓State.set_mems, ↓State.qnStatus_mems,
      ↓State.regStore_mems, ↓State.pipFresh_mems, ↓mems_foldl, ↓mems_foldr, ite_self, implies_true, id_eq]

theorem State.takeSlot_mems (s : State) (w : _) (src : _) (n : _) (num : _) (first : _) (k : _) (i : _) :
    (State.takeSlot s w src n num first k i).mems = s.mems := by
  unfold State.takeSlot
  extract_lets g s1 s2 s3 s4 p s5
  have h1 : s1.mems = s.mems := by
    change (State.set _ _ _).mems = _
    simp only [↓State.set_mems]
  have h4 : s4.mems = s.mems := by simp only [s4, s3, s2, ↓State.copyPip_mems, ↓State.vmRamp_mems, h1]
  have h5 : s5.mems = s.mems := by simp only [s5, ↓mems_ite, ↓State.set_mems, h4, ite_self]
  exact (State.settlePost_mems _ _ _ _ _ _ _).trans ((State.attach_mems _ _ _).trans h5)

theorem State.allocate_mems (s : State) (w : _) (src : _) (n : _) (slots : _) :
    (State.allocate s w src n slots).mems = s.mems := by
  simp only [State.allocate, ↓mems_ite, ↓mems_mk, mems_eta, ↓State.set_mems, ↓State.takeSlot_mems, ↓mems_foldl,
      ite_self, implies_true, id_eq]

theorem State.noteOff_mems (s : State) (w : _) : (State.noteOff s w).mems = s.mems := by
  unfold State.noteOff
  (repeat' split) <;> simp only [↓mems_ite, ↓mems_mk, mems_eta, ↓State.orphan_mems, ↓State.setNote_mems,
      ↓State.attachNote_mems, ite_self, implies_true, id_eq]

theorem State.noteAttach_mems (s : State) (w : _) : (State.noteAttach s w).mems = s.mems := by
  unfold State.noteAttach
  (repeat' split) <;> simp only [↓mems_ite, ↓mems_mk, mems_eta, ↓State.orphan_mems, ↓State.attachNote_mems,
      ite_self, implies_true, id_eq]

theorem State.noteCtrl_mems (s : State) (w : _) : (State.noteCtrl s w).mems = s.mems := by
  simp only [State.noteCtrl, ↓mems_ite, ↓mems_mk, mems_eta, ↓State.attachNote_mems, ↓State.noteAttach_mems,
      ↓mems_foldl, ite_self, implies_true, id_eq]

theorem State.releaseNotes_mems (s : State) (g : _) (n : _) (st : _) :
    (State.releaseNotes s g n st).mems = s.mems := by
  unfold State.releaseNotes
  (repeat' split) <;> simp only [↓mems_ite, ↓mems_mk, mems_eta, ↓State.setNote_mems, ↓State.attachNote_mems,
      ↓mems_foldl, ite_self, implies_true, id_eq]

theorem State.groupHold_mems (s : State) (w : _) (n : _) : (State.groupHold s w n).mems = s.mems := by
  simp only [State.groupHold, ↓mems_ite, ↓mems_mk, mems_eta, ↓State.set_mems, ↓State.releaseNotes_mems, ite_self,
      implies_true, id_eq]

theorem State.allOff_mems (s : State) (w : _) (n : _) : (State.allOff s w n).mems = s.mems := by
  simp only [State.allOff, ↓mems_ite, ↓mems_mk, mems_eta, ↓State.releaseNotes_mems, ite_self, implies_true, id_eq]

/-- Whatever a word's handling has done, the memories are `m`. -/
def State.Handled.keeps (m : Mem × Mem) : State.Handled → Prop
  | .done t => t.mems = m
  | .refused _ => True
  | .waits _ t => t.mems = m

theorem stealWhile_keeps (exceeds : State → Bool) (ok : Nat → Bool) (policy n : Nat) :
    ∀ (fuel : Nat) (s : State), (State.stealWhile exceeds ok policy n fuel s).keeps s.mems := by
  intro fuel
  induction fuel with
  | zero => exact fun s => rfl
  | succ k ih =>
    intro s
    unfold State.stealWhile
    split
    · split
      · trivial
      · split
        · rfl
        · rename_i v _ _
          have h := ih ((s.fadeNote v n (s.killWord v n true)).bump F.VM_STEALS_N 1)
          rwa [State.bump_mems, State.fadeNote_mems] at h
    · rfl

theorem State.cutRuns_mems (s : State) (p : _) : (State.cutRuns s p).mems = s.mems := by
  simp only [State.cutRuns, ↓mems_ite, ↓mems_mk, mems_eta, ↓State.setCore_mems, ↓mems_foldl, ↓mems_foldr, ite_self,
      implies_true, id_eq]

theorem State.cutSlot_mems (s : State) (n : _) (k : _) : (State.cutSlot s n k).mems = s.mems := by
  simp only [State.cutSlot, ↓mems_ite, ↓mems_mk, mems_eta, ↓State.bump_mems, ↓State.cutRuns_mems, ↓State.endSlot_mems,
      ↓State.vmRamp_mems, ↓mems_foldl, ↓mems_foldr, ite_self, implies_true, id_eq]

theorem noteOnFree_keeps (s : State) (w src n : Nat) : (s.noteOnFree w src n).keeps s.mems := by
  unfold State.noteOnFree
  dsimp only
  split
  · trivial
  · rename_i d t ht
    exact (ht ▸ stealWhile_keeps _ _ _ _ _ s : (State.Handled.waits d t).keeps s.mems)
  · rename_i t ht
    have h1 : t.mems = s.mems := (ht ▸ stealWhile_keeps _ _ _ _ _ s : (State.Handled.done t).keeps s.mems)
    split
    · trivial
    · rename_i d u hu
      exact Eq.trans (hu ▸ stealWhile_keeps _ _ _ _ _ t : (State.Handled.waits d u).keeps t.mems) h1
    · rename_i u hu
      have h2 : u.mems = s.mems := Eq.trans (hu ▸ stealWhile_keeps _ _ _ _ _ t :
          (State.Handled.done u).keeps t.mems) h1
      split
      · exact (State.allocate_mems _ _ _ _ _).trans h2
      · split
        · refine (State.allocate_mems _ _ _ _ _).trans (Eq.trans ?_ h2)
          exact mems_foldl _ _ (fun s k => State.cutSlot_mems _ _ _) _
        · exact h2

theorem noteOn_keeps (s : State) (w src n : Nat) : (s.noteOn w src n).keeps s.mems := by
  unfold State.noteOn
  dsimp only
  split
  · trivial
  · split
    · exact noteOnFree_keeps s w src n
    · rename_i num _
      split
      · exact (State.setNote_mems _ _ _).trans (State.attachNote_mems _ _ _)
      · split
        · rfl
        · have h := noteOnFree_keeps (s.fadeNote num n (s.killWord num n false)) w src n
          rwa [State.fadeNote_mems] at h
      · refine Eq.subst (motive := fun m => State.Handled.keeps m _) ?_ (noteOnFree_keeps _ w src n)
        rw [mems_foldl _ _ (fun s k => State.set_mems _ _ _)]
        simp only [↓mems_ite, ↓State.setNote_mems, ↓State.attachNote_mems, ite_self]

theorem killNotes_keeps (s : State) (w n : Nat) : (s.killNotes w n).keeps s.mems := by
  unfold State.killNotes
  dsimp only
  split
  · have h (l : List Nat) : (l.foldl (fun s num => if s.fadeTooMany num then s else s.fadeNote num n w) s).mems =
        s.mems := mems_foldl _ _ (fun s k => by split <;> first | rfl | exact State.fadeNote_mems _ _ _ _) _
    split <;> exact h _
  · split
    · exact State.orphan_mems s
    · split
      · rfl
      · exact State.fadeNote_mems _ _ _ _

/-- The handling of a voice word leaves the memories alone. -/
theorem handleWord_keeps (s : State) (w src n : Nat) : (s.handleWord w src n).keeps s.mems := by
  unfold State.handleWord
  split
  · trivial
  · split
    · trivial
    · split
      · exact noteOn_keeps s w src n
      · exact State.noteOff_mems _ _
      · exact State.noteAttach_mems _ _
      · exact State.groupHold_mems _ _ _
      · exact State.allOff_mems _ _ _
      · exact killNotes_keeps s w n
      · exact State.noteCtrl_mems _ _

theorem State.setWaiting_mems (s : State) (ws : _) : (State.setWaiting s ws).mems = s.mems := by
  simp only [State.setWaiting, ↓mems_ite, ↓mems_mk, mems_eta, ↓mems_foldl, ↓mems_foldr, ite_self, implies_true, id_eq]

theorem State.handled_mems (s : State) (v : _) (again : _) : (State.handled s v again).mems = s.mems := by
  unfold State.handled
  dsimp only
  have hw : (s.setWaiting (s.vm.words.erase v)).mems = s.mems := State.setWaiting_mems _ _
  have h := handleWord_keeps (s.setWaiting (s.vm.words.erase v)) v.word v.src (s.wordSample v)
  rw [hw] at h
  generalize State.handleWord _ _ _ _ = r at h ⊢
  cases r with
  | done t =>
    have h' : t.mems = s.mems := h
    simp only [↓mems_ite, ↓State.syncUsed_mems, ↓State.set_mems, ↓State.raise_mems, ↓State.bump_mems, h', ite_self]
  | refused k => simp only [↓State.syncUsed_mems, ↓State.set_mems, ↓State.vmRefuse_mems, hw]
  | waits d t =>
    have h' : t.mems = s.mems := h
    simp only [↓mems_ite, ↓State.setWaiting_mems, ↓State.set_mems, ↓State.raise_mems, ↓State.bump_mems, h', ite_self]

theorem State.takeWord_mems (s : State) (v : _) : (State.takeWord s v).mems = s.mems := by
  simp only [State.takeWord, ↓mems_ite, ↓mems_mk, mems_eta, ↓State.handled_mems, ↓mems_foldl, ↓mems_foldr, ite_self,
      implies_true, id_eq]

theorem State.takeNamed_mems (s : State) (type : _) (src : _) (w : _) :
    (State.takeNamed s type src w).mems = s.mems := by
  unfold State.takeNamed
  (repeat' split) <;> simp only [↓mems_ite, ↓mems_mk, mems_eta, ↓State.takeWord_mems, ite_self, implies_true, id_eq]

theorem State.retryGroup_mems (s : State) (g : _) (noteOn : _) : (State.retryGroup s g noteOn).mems = s.mems := by
  unfold State.retryGroup
  (repeat' split) <;> simp only [↓mems_ite, ↓mems_mk, mems_eta, ↓State.set_mems, ↓State.handled_mems, ↓mems_foldl,
      ↓mems_foldr, ite_self, implies_true, id_eq]

theorem State.acceptVoice_mems (s : State) (w : _) (src : _) : (State.acceptVoice s w src).mems = s.mems := by
  unfold State.acceptVoice
  split
  · split
    · exact State.phCommand_mems _ _
    · exact State.vmRefuse_mems _ _ _
  · refine (State.syncUsed_mems _).trans ?_
    simp only [↓mems_mk, mems_eta, ↓mems_ite, ↓State.raise_mems, ↓State.bump_mems, ite_self]

theorem State.settleVoice_mems (s : State) (w : _) (src : _) : (State.settleVoice s w src).mems = s.mems := by
  unfold State.settleVoice
  (repeat' split) <;> simp only [↓mems_ite, ↓mems_mk, mems_eta, ↓State.vmRefuse_mems, ↓State.acceptVoice_mems,
      ite_self, implies_true, id_eq]

theorem State.postVoice_mems (s : State) (w : _) (src : _) (core : _) :
    (State.postVoice s w src core).mems = s.mems := by
  simp only [State.postVoice, ↓mems_ite, ↓mems_mk, mems_eta, ↓State.setHeld_mems, ↓State.settleVoice_mems,
      ite_self, implies_true, id_eq]

theorem State.settleHeld_mems (s : State) (h : _) : (State.settleHeld s h).mems = s.mems := by
  unfold State.settleHeld
  (repeat' split) <;> simp only [↓mems_ite, ↓mems_mk, mems_eta, ↓State.setHeld_mems, ↓State.settlePost_mems,
      ↓State.settleVoice_mems, ↓State.setCore_mems, ite_self, implies_true, id_eq]

theorem State.acceptHeldPost_mems (s : State) : (State.acceptHeldPost s).mems = s.mems := by
  unfold State.acceptHeldPost
  repeat' (first
      | with_reducible rfl
      | simp only [↓mems_ite, ↓mems_mk, mems_eta, ↓State.settleHeld_mems, ite_self, implies_true, id_eq]
      | split)

theorem State.releaseWords_mems (s : State) : (State.releaseWords s).mems = s.mems := by
  simp only [State.releaseWords, ↓mems_ite, ↓mems_mk, mems_eta, ↓State.setWaiting_mems, ↓mems_foldl, ↓mems_foldr,
      ite_self, implies_true, id_eq]

theorem State.hostVoice_mems (s : State) (m : _) : (State.hostVoice s m).mems = s.mems := by
  simp only [State.hostVoice, ↓mems_ite, ↓mems_mk, mems_eta, ↓State.qnStatus_mems, ↓State.mirrorPost_mems,
      ↓State.postVoice_mems, ite_self, implies_true, id_eq]

theorem State.postCmd_mems (s : State) (m : _) (w : _) : (State.postCmd s m w).mems = s.mems := by
  unfold State.postCmd
  (repeat' split) <;> simp only [↓mems_ite, ↓mems_mk, mems_eta, ↓State.hostPost_mems, ↓State.hostVoice_mems,
      ↓State.qnStatus_mems, ite_self, implies_true, id_eq]

theorem State.joinDown_mems (s : State) (g : _) : (State.joinDown s g).mems = s.mems := by
  simp only [State.joinDown, ↓mems_ite, ↓mems_mk, mems_eta, ↓State.set_mems, ↓State.decrement_mems, ite_self,
      implies_true, id_eq]

theorem State.vmStatus_mems (s : State) (v : _) : (State.vmStatus s v).mems = s.mems := by
  simp only [State.vmStatus, ↓mems_ite, ↓mems_mk, mems_eta, ↓State.set_mems, ite_self, implies_true, id_eq]

theorem State.vmShut_mems (s : State) : (State.vmShut s).mems = s.mems := by
  simp only [State.vmShut, ↓mems_ite, ↓mems_mk, mems_eta, ↓State.killGroup_mems, ↓mems_foldl, ite_self,
      implies_true, id_eq]

theorem State.vmSet_mems (s : State) (w : _) : (State.vmSet s w).mems = s.mems := by
  simp only [State.vmSet, ↓mems_ite, ↓mems_mk, mems_eta, ↓State.vmStatus_mems, ↓State.puts_mems, ↓State.set_mems,
      ↓State.enableWrite_mems, ↓State.vmShut_mems, ite_self, implies_true, id_eq]

theorem State.vmOff_mems (s : State) : (State.vmOff s).mems = s.mems := by
  simp only [State.vmOff, ↓mems_ite, ↓mems_mk, mems_eta, ↓State.shutDone_mems, ↓State.set_mems, ite_self,
      implies_true, id_eq]

theorem State.grpSet_mems (s : State) (g : _) (w : _) : (State.grpSet s g w).mems = s.mems := by
  simp only [State.grpSet, ↓mems_ite, ↓mems_mk, mems_eta, ↓State.vmStatus_mems, ↓State.killGroup_mems,
      ↓State.set_mems, ↓State.puts_mems, ite_self, implies_true, id_eq]

theorem State.grpWord_mems (s : State) (g : _) (k : _) (w : _) : (State.grpWord s g k w).mems = s.mems := by
  simp only [State.grpWord, ↓mems_ite, ↓mems_mk, mems_eta, ↓State.grpSet_mems, ↓State.vmStatus_mems,
      ↓State.regStore_mems, ite_self, implies_true, id_eq]

theorem State.vmPlain_mems (s : State) (a : _) (w : _) : (State.vmPlain s a w).mems = s.mems := by
  simp only [State.vmPlain, ↓mems_ite, ↓mems_mk, mems_eta, ↓State.plainStore_mems, ↓State.vmStatus_mems, ↓mems_foldl,
      ↓mems_foldr, ite_self, implies_true, id_eq]

/-- The events taken at a start leave the memories alone. -/
theorem startEvents_mems (s : State) (r : PipRun) : (s.startEvents r).1.mems = s.mems := by
  unfold State.startEvents
  split
  · rfl
  · split
    · rfl
    · split
      · unfold State.fillEvents
        simp only [↓mems_ite, ↓State.raise_mems, ↓State.bump_mems, ↓mems_mk, mems_eta, ite_self]
      · rfl

theorem State.startPip_mems (s : State) (n : _) (r : _) : (State.startPip s n r).mems = s.mems := by
  unfold State.startPip
  have h := startEvents_mems s r
  generalize s.startEvents r = p at h ⊢
  obtain ⟨t, ev⟩ := p
  dsimp only at h ⊢
  rw [← h]
  simp only [↓mems_ite, ↓State.set_mems, ↓State.setCore_mems, ↓State.refreshEvent_mems, ite_self]

theorem State.pipStart_mems (s : State) (n : _) : (State.pipStart s n).mems = s.mems := by
  unfold State.pipStart
  repeat' (first
      | with_reducible rfl
      | simp only [↓mems_ite, ↓mems_mk, mems_eta, ↓State.startPip_mems, ite_self, implies_true, id_eq]
      | split)

theorem State.preempt_mems (s : State) (n : _) : (State.preempt s n).mems = s.mems := by
  unfold State.preempt
  repeat' (first
      | with_reducible rfl
      | refine (mems_foldl _ _ (fun s x => ?_) _).trans ?_
      | simp only [↓mems_ite, ↓mems_mk, mems_eta, ↓State.startPip_mems, ↓State.setCore_mems, ↓mems_foldl, ↓mems_foldr,
          ite_self, implies_true, id_eq]
      | split)

theorem State.renderDone_mems (s : State) (r : _) : (State.renderDone s r).mems = s.mems := by
  unfold State.renderDone
  repeat' (first
      | with_reducible rfl
      | simp only [↓mems_ite, ↓mems_mk, mems_eta, ↓State.set_mems, ↓State.abandonRamp_mems, ↓State.endSlot_mems,
          ite_self, implies_true, id_eq]
      | split)

theorem State.noteOnDone_mems (s : State) (p : _) : (State.noteOnDone s p).mems = s.mems := by
  unfold State.noteOnDone
  (repeat' split) <;> simp only [↓mems_ite, ↓mems_mk, mems_eta, ↓State.decrement_mems, ite_self, implies_true, id_eq]

theorem State.completeRun_mems (s : State) (r : _) : (State.completeRun s r).mems = s.mems := by
  unfold State.completeRun
  repeat' (first
      | with_reducible rfl
      | simp only [↓mems_ite, ↓mems_mk, mems_eta, ↓State.noteOnDone_mems, ↓State.refreshEvent_mems,
          ↓State.graphAfterRun_mems, ↓State.countCompletion_mems, ↓State.renderDone_mems, ite_self, implies_true,
          id_eq]
      | split)

theorem State.qdoneDone_mems (s : State) (n : _) : (State.qdoneDone s n).mems = s.mems := by
  unfold State.qdoneDone
  repeat' (first
      | with_reducible rfl
      | simp only [↓mems_ite, ↓mems_mk, mems_eta, ↓State.completeRun_mems, ↓State.setCore_mems, ite_self,
          implies_true, id_eq]
      | split)

theorem State.phasorRow_mems (s : State) (type : _) (w : _) : (State.phasorRow s type w).mems = s.mems := by
  simp only [State.phasorRow, ↓mems_ite, ↓mems_mk, mems_eta, ↓State.settleVoice_mems, ite_self, implies_true, id_eq]

theorem State.setRoute_mems (s : State) (d : _) (r : _) : (State.setRoute s d r).mems = s.mems := by
  simp only [State.setRoute, ↓mems_ite, ↓mems_mk, mems_eta, ite_self, implies_true, id_eq]

theorem State.brmStatus_mems (s : State) (v : _) : (State.brmStatus s v).mems = s.mems := by
  simp only [State.brmStatus, ↓mems_ite, ↓mems_mk, mems_eta, ↓State.set_mems, ite_self, implies_true, id_eq]

theorem State.quadSet_mems (s : State) (q : _) (k : _) (w : _) : (State.quadSet s q k w).mems = s.mems := by
  simp only [State.quadSet, ↓mems_ite, ↓mems_mk, mems_eta, ↓State.brmStatus_mems, ↓State.set_mems, ↓State.put_mems,
      ↓State.puts_mems, ite_self, implies_true, id_eq]

theorem State.nextPut_mems (s : State) (d : _) (w : _) : (State.nextPut s d w).mems = s.mems := by
  simp only [State.nextPut, ↓mems_ite, ↓mems_mk, mems_eta, ↓State.puts_mems, ite_self, implies_true, id_eq]

theorem State.nextSet_mems (s : State) (d : _) (w : _) : (State.nextSet s d w).mems = s.mems := by
  simp only [State.nextSet, ↓mems_ite, ↓mems_mk, mems_eta, ↓State.brmStatus_mems, ↓State.nextPut_mems, ite_self,
      implies_true, id_eq]

theorem State.swapArm_mems (s : State) (id : _) (S : _) : (State.swapArm s id S).mems = s.mems := by
  unfold State.swapArm
  (repeat' split) <;> simp only [↓mems_ite, ↓mems_mk, mems_eta, ↓State.brmStatus_mems, ↓State.set_mems, ite_self,
      implies_true, id_eq]

theorem State.swapDisarm_mems (s : State) : (State.swapDisarm s).mems = s.mems := by
  simp only [State.swapDisarm, ↓mems_ite, ↓mems_mk, mems_eta, ↓State.brmStatus_mems, ↓State.set_mems, ite_self,
      implies_true, id_eq]

theorem State.swapSet_mems (s : State) (m : _) (w : _) : (State.swapSet s m w).mems = s.mems := by
  simp only [State.swapSet, ↓mems_ite, ↓mems_mk, mems_eta, ↓State.brmStatus_mems, ↓State.swapArm_mems,
      ↓State.swapDisarm_mems, ite_self, implies_true, id_eq]

theorem State.swapDest_mems (s : State) (S : _) (d : _) : (State.swapDest s S d).mems = s.mems := by
  simp only [State.swapDest, ↓mems_ite, ↓mems_mk, mems_eta, ↓State.set_mems, ↓State.setRoute_mems, ite_self,
      implies_true, id_eq]

theorem State.swapTick_mems (s : State) : (State.swapTick s).mems = s.mems := by
  simp only [State.swapTick, ↓mems_ite, ↓mems_mk, mems_eta, ↓State.raise_mems, ↓State.set_mems,
      ↓State.swapDest_mems, ↓mems_foldl, ite_self, implies_true, id_eq]

theorem State.swapDone_mems (s : State) : (State.swapDone s).mems = s.mems := by
  simp only [State.swapDone, ↓mems_ite, ↓mems_mk, mems_eta, ↓State.set_mems, ↓State.raise_mems, ↓mems_foldl,
      ite_self, implies_true, id_eq]

theorem State.takeChange_mems (s : State) (d : _) (S : _) (w : _) (j : _) :
    (State.takeChange s d S w j).mems = s.mems := by
  simp only [State.takeChange, ↓mems_ite, ↓mems_mk, mems_eta, ↓State.setRoute_mems, ↓State.raise_mems,
      ↓State.bump_mems, ite_self, implies_true, id_eq]

theorem State.routeSample_mems (s : State) (d : _) (m : _) (zero : _) (tail : _) : (State.routeSample s d m zero
    tail).mems = s.mems := by
  unfold State.routeSample
  (repeat' split) <;> simp only [↓mems_ite, ↓mems_mk, mems_eta, ↓State.setRoute_mems, ↓State.takeChange_mems,
      ↓mems_foldl, ↓mems_foldr, ite_self, implies_true, id_eq]

theorem State.silenceAll_mems (s : State) : (State.silenceAll s).mems = s.mems := by
  simp only [State.silenceAll, ↓mems_ite, ↓mems_mk, mems_eta, ite_self, implies_true, id_eq]

theorem State.quadTick_mems (s : State) (k : _) (q : _) : (State.quadTick s k q).mems = s.mems := by
  simp only [State.quadTick, ↓mems_ite, ↓mems_mk, mems_eta, ↓State.set_mems, ↓State.raise_mems, ↓State.flag_mems,
      ↓mems_foldl, ↓mems_foldr, ite_self, implies_true, id_eq]

theorem State.brmEnables_mems (s : State) (k : _) : (State.brmEnables s k).mems = s.mems := by
  simp only [State.brmEnables, ↓mems_ite, ↓mems_mk, mems_eta, ↓State.quadTick_mems, ↓State.set_mems, ↓State.raise_mems,
      ↓mems_foldl, ↓mems_foldr, ite_self, implies_true, id_eq]

theorem State.fadeEnd_mems (s : State) (d : _) : (State.fadeEnd s d).mems = s.mems := by
  simp only [State.fadeEnd, ↓mems_ite, ↓mems_mk, mems_eta, ↓State.setRoute_mems, ite_self, implies_true, id_eq]

theorem State.setRcl_mems (s : State) (r : _) : (State.setRcl s r).mems = s.mems := by
  simp only [State.setRcl, ↓mems_ite, ↓mems_mk, mems_eta, ite_self, implies_true, id_eq]

theorem State.rclStatus_mems (s : State) (v : _) : (State.rclStatus s v).mems = s.mems := by
  simp only [State.rclStatus, ↓mems_ite, ↓mems_mk, mems_eta, ↓State.set_mems, ite_self, implies_true, id_eq]

theorem State.recallEnd_mems (s : State) (status : _) : (State.recallEnd s status).mems = s.mems := by
  unfold State.recallEnd
  (repeat' split) <;> simp only [↓mems_ite, ↓mems_mk, mems_eta, ↓State.set_mems, ↓State.rclStatus_mems,
      ↓State.setRcl_mems, ite_self, implies_true, id_eq]

theorem State.recallAbandon_mems (s : State) (status : _) : (State.recallAbandon s status).mems = s.mems := by
  simp only [State.recallAbandon, ↓mems_ite, ↓mems_mk, mems_eta, ↓State.raise_mems, ↓State.recallEnd_mems,
      ite_self, implies_true, id_eq]

theorem State.recallRefuse_mems (s : State) (status : _) (reason : _) (src : _) (index : _) :
    (State.recallRefuse s status reason src index).mems = s.mems := by
  simp only [State.recallRefuse, ↓mems_ite, ↓mems_mk, mems_eta, ↓State.recallAbandon_mems, ↓State.set_mems,
      ite_self, implies_true, id_eq]

theorem State.recallRequest_mems (s : State) (src : _) (scene : _) (S : _) :
    (State.recallRequest s src scene S).mems = s.mems := by
  unfold State.recallRequest
  (repeat' split) <;> simp only [↓mems_ite, ↓mems_mk, mems_eta, ↓State.rclStatus_mems, ↓State.refuseCmd_mems,
      ↓State.set_mems, ↓State.setRcl_mems, ite_self, implies_true, id_eq]

theorem State.recallCmd_mems (s : State) (src : _) (w : _) : (State.recallCmd s src w).mems = s.mems := by
  simp only [State.recallCmd, ↓mems_ite, ↓mems_mk, mems_eta, ↓State.refuseCmd_mems, ↓State.recallRequest_mems,
      ite_self, implies_true, id_eq]

theorem State.rclSet_mems (s : State) (m : _) (w : _) : (State.rclSet s m w).mems = s.mems := by
  simp only [State.rclSet, ↓mems_ite, ↓mems_mk, mems_eta, ↓State.rclStatus_mems, ↓State.recallRequest_mems,
      ↓State.set_mems, ↓State.recallEnd_mems, ite_self, implies_true, id_eq]

theorem State.recallTimeout_mems (s : State) : (State.recallTimeout s).mems = s.mems := by
  unfold State.recallTimeout
  (repeat' split) <;> simp only [↓mems_ite, ↓mems_mk, mems_eta, ↓State.recallAbandon_mems, ite_self, implies_true,
      id_eq]

theorem State.writeRoutes_mems (s : State) (es : _) : (State.writeRoutes s es).mems = s.mems := by
  simp only [State.writeRoutes, ↓mems_ite, ↓mems_mk, mems_eta, ↓State.nextPut_mems, ↓mems_foldl, ite_self,
      implies_true, id_eq]

theorem State.recallChecked_mems (s : State) : (State.recallChecked s).mems = s.mems := by
  unfold State.recallChecked
  (repeat' split) <;> simp only [↓mems_ite, ↓mems_mk, mems_eta, ↓State.recallAbandon_mems,
      ↓State.recallRefuse_mems, ↓State.set_mems, ↓State.setRcl_mems, ↓State.swapArm_mems, ↓State.writeRoutes_mems,
      ite_self, implies_true, id_eq]

theorem State.recallApply_mems (s : State) : (State.recallApply s).mems = s.mems := by
  unfold State.recallApply
  (repeat' split) <;> simp only [↓mems_ite, ↓mems_mk, mems_eta, ↓State.set_mems, ↓State.setRcl_mems,
      ↓State.applyHeld_mems, ↓State.raise_mems, ↓State.applyCmd_mems, ↓mems_foldl, ite_self, implies_true, id_eq]

theorem State.asrcJoin_mems (s : State) (fid : _) (exact : _) (c : _) : (State.asrcJoin s fid exact c).mems = s.mems :=
    by
  unfold State.asrcJoin
  (repeat' split) <;> simp only [↓mems_ite, ↓mems_mk, mems_eta, ↓State.set_mems, ↓State.raise_mems, ↓mems_foldl,
      ↓mems_foldr, ite_self, implies_true, id_eq]

theorem State.asrcTake_mems (s : State) (fid : _) (dir : _) (exact : _) (c : _) : (State.asrcTake s fid dir exact
    c).mems = s.mems := by
  simp only [State.asrcTake, ↓mems_ite, ↓mems_mk, mems_eta, ↓State.asrcJoin_mems, ↓State.set_mems, ↓mems_foldl,
      ↓mems_foldr, ite_self, implies_true, id_eq]

theorem State.asrcDrop_mems (s : State) (c : _) : (State.asrcDrop s c).mems = s.mems := by
  simp only [State.asrcDrop, ↓mems_ite, ↓mems_mk, mems_eta, ↓State.set_mems, ite_self, implies_true, id_eq]

theorem State.asrcRelease_mems (s : State) (c : _) : (State.asrcRelease s c).mems = s.mems := by
  simp only [State.asrcRelease, ↓mems_ite, ↓mems_mk, mems_eta, ↓State.set_mems, ↓State.unclaim_mems, ite_self,
      implies_true, id_eq]

theorem State.asrcOff_mems (s : State) (c : _) : (State.asrcOff s c).mems = s.mems := by
  simp only [State.asrcOff, ↓mems_ite, ↓mems_mk, mems_eta, ↓State.set_mems, ↓State.asrcRelease_mems, ite_self,
      implies_true, id_eq]

theorem State.asrcOn_mems (s : State) (c : _) : (State.asrcOn s c).mems = s.mems := by
  simp only [State.asrcOn, ↓mems_ite, ↓mems_mk, mems_eta, ↓State.set_mems, ite_self, implies_true, id_eq]

theorem State.asrcFreewheel_mems (s : State) (fid : _) : (State.asrcFreewheel s fid).mems = s.mems := by
  simp only [State.asrcFreewheel, ↓mems_ite, ↓mems_mk, mems_eta, ↓State.raise_mems, ↓State.set_mems, ↓mems_foldl,
      ite_self, implies_true, id_eq]

theorem State.asrcReturn_mems (s : State) (fid : _) : (State.asrcReturn s fid).mems = s.mems := by
  simp only [State.asrcReturn, ↓mems_ite, ↓mems_mk, mems_eta, ↓State.set_mems, ↓mems_foldl, ite_self, implies_true,
      id_eq]

theorem State.asrcLocked_mems (s : State) (t : _) (ratio : _) : (State.asrcLocked s t ratio).mems = s.mems := by
  simp only [State.asrcLocked, ↓mems_ite, ↓mems_mk, mems_eta, ↓State.raise_mems, ↓State.set_mems, ↓mems_foldl,
      ite_self, implies_true, id_eq]

theorem State.asrcRange_mems (s : State) (c : _) (out : _) : (State.asrcRange s c out).mems = s.mems := by
  simp only [State.asrcRange, ↓mems_ite, ↓mems_mk, mems_eta, ↓State.raise_mems, ↓State.set_mems, ite_self,
      implies_true, id_eq]

theorem State.apStatus_mems (s : State) (n : _) (v : _) : (State.apStatus s n v).mems = s.mems := by
  simp only [State.apStatus, ↓mems_ite, ↓mems_mk, mems_eta, ↓State.set_mems, ite_self, implies_true, id_eq]

theorem State.apTakeChans_mems (s : State) (n : _) (im : _) (om : _) :
    (State.apTakeChans s n im om).mems = s.mems := by
  simp only [State.apTakeChans, ↓mems_ite, ↓mems_mk, mems_eta, ↓State.asrcTake_mems, ↓mems_foldl, ite_self,
      implies_true, id_eq]

theorem State.apMeasured_mems (s : State) (n : _) (direct : _) : (State.apMeasured s n direct).mems = s.mems := by
  simp only [State.apMeasured, ↓mems_ite, ↓mems_mk, mems_eta, ↓State.set_mems, ↓mems_foldl, ↓mems_foldr, ite_self,
      implies_true, id_eq]

theorem State.apMeasure_mems (s : State) (n : _) : (State.apMeasure s n).mems = s.mems := by
  simp only [State.apMeasure, ↓mems_ite, ↓mems_mk, mems_eta, ↓State.apMeasured_mems, ↓State.set_mems, ↓mems_foldl,
      ↓mems_foldr, ite_self, implies_true, id_eq]

theorem State.apStart_mems (s : State) (n : _) : (State.apStart s n).mems = s.mems := by
  simp only [State.apStart, ↓mems_ite, ↓mems_mk, mems_eta, ↓State.set_mems, ↓State.flag_mems, ↓State.apMeasure_mems,
      ↓mems_foldl, ↓mems_foldr, ite_self, implies_true, id_eq]

theorem State.apEnable_mems (s : State) (n : _) : (State.apEnable s n).mems = s.mems := by
  simp only [State.apEnable, ↓mems_ite, ↓mems_mk, mems_eta, ↓State.apStatus_mems, ↓State.withClaims_mems,
      ↓State.apStart_mems, ↓State.apTakeChans_mems, ↓State.set_mems, ite_self, implies_true, id_eq]

theorem State.asrcDropAll_mems (s : State) (fid : _) : (State.asrcDropAll s fid).mems = s.mems := by
  simp only [State.asrcDropAll, ↓mems_ite, ↓mems_mk, mems_eta, ↓State.asrcDrop_mems, ↓mems_foldl, ↓mems_foldr,
      ite_self, implies_true, id_eq]

theorem State.losing_mems (s : State) (es : _) (f : State → State) (hf : ∀ (x0 : State), (f x0).mems = x0.mems) :
    (State.losing s es f).mems = s.mems := by
  unfold State.losing
  repeat' (first
      | with_reducible rfl
      | refine (mems_foldl _ _ (fun s x => ?_) _).trans ?_
      | simp only [↓mems_ite, ↓mems_mk, mems_eta, ↓State.set_mems, ↓State.raise_mems, ↓mems_foldl, ↓mems_foldr, ↓hf,
          ite_self, implies_true, id_eq]
      | split)

theorem State.refDrop_mems (s : State) (kind : _) (inst : _) : (State.refDrop s kind inst).mems = s.mems := by
  simp only [State.refDrop, ↓mems_ite, ↓mems_mk, mems_eta, ↓State.set_mems, ↓mems_foldl, ↓mems_foldr, ite_self,
      implies_true, id_eq]

theorem State.apShut_mems (s : State) (n : _) : (State.apShut s n).mems = s.mems := by
  simp only [State.apShut, ↓mems_ite, ↓mems_mk, mems_eta, ↓State.set_mems, ↓State.asrcDropAll_mems, ↓State.losing_mems,
      ↓State.refDrop_mems, ↓mems_foldl, ↓mems_foldr, ite_self, implies_true, id_eq]

theorem State.apDisable_mems (s : State) (n : _) : (State.apDisable s n).mems = s.mems := by
  simp only [State.apDisable, ↓mems_ite, ↓mems_mk, mems_eta, ↓State.set_mems, ↓State.apShut_mems, ↓mems_foldl,
      ↓mems_foldr, ite_self, implies_true, id_eq]

theorem State.apCtrlSet_mems (s : State) (n : _) (w : _) : (State.apCtrlSet s n w).mems = s.mems := by
  simp only [State.apCtrlSet, ↓mems_ite, ↓mems_mk, mems_eta, ↓State.apDisable_mems, ↓State.apStatus_mems,
      ↓State.apEnable_mems, ↓mems_foldl, ↓mems_foldr, ite_self, implies_true, id_eq]

theorem State.apOn_mems (s : State) (n : _) : (State.apOn s n).mems = s.mems := by
  simp only [State.apOn, ↓mems_ite, ↓mems_mk, mems_eta, ↓State.set_mems, ↓State.raiseCause_mems, ↓mems_foldl,
      ↓mems_foldr, ite_self, implies_true, id_eq]

theorem State.apMasks_mems (s : State) (n : _) : (State.apMasks s n).mems = s.mems := by
  simp only [State.apMasks, ↓mems_ite, ↓mems_mk, mems_eta, ↓State.set_mems, ite_self, implies_true, id_eq]

theorem State.unclaimBut_mems (s : State) (fid : _) (keep : _) : (State.unclaimBut s fid keep).mems = s.mems := by
  simp only [State.unclaimBut, ↓mems_ite, ↓mems_mk, mems_eta, ↓mems_foldl, ↓mems_foldr, ite_self, implies_true, id_eq]

theorem State.apReleaseAll_mems (s : State) (n : _) : (State.apReleaseAll s n).mems = s.mems := by
  simp only [State.apReleaseAll, ↓mems_ite, ↓mems_mk, mems_eta, ↓State.asrcRelease_mems, ↓State.unclaimBut_mems,
      ↓mems_foldl, ↓mems_foldr, ite_self, implies_true, id_eq]

theorem State.apShutDone_mems (s : State) (n : _) : (State.apShutDone s n).mems = s.mems := by
  simp only [State.apShutDone, ↓mems_ite, ↓mems_mk, mems_eta, ↓State.apReleaseAll_mems, ↓State.set_mems,
      ↓State.raiseCause_mems, ↓State.apStart_mems, ↓State.unclaimBut_mems, ↓State.apTakeChans_mems,
          ↓State.apMasks_mems, ↓mems_foldl, ↓mems_foldr, ite_self, implies_true, id_eq]

theorem State.apLost_mems (s : State) (n : _) (rateErr : _) : (State.apLost s n rateErr).mems = s.mems := by
  simp only [State.apLost, ↓mems_ite, ↓mems_mk, mems_eta, ↓State.apMeasured_mems, ↓State.asrcFreewheel_mems,
      ↓State.set_mems, ↓State.raiseCause_mems, ↓State.flag_mems, ↓State.losing_mems, ↓mems_foldl, ↓mems_foldr,
          ite_self, implies_true, id_eq]

theorem State.apFraming_mems (s : State) (n : _) : (State.apFraming s n).mems = s.mems := by
  simp only [State.apFraming, ↓mems_ite, ↓mems_mk, mems_eta, ↓State.bump_mems, ↓State.set_mems, ↓State.apLost_mems,
      ↓State.raiseCause_mems, ↓mems_foldl, ↓mems_foldr, ite_self, implies_true, id_eq]

theorem State.apSlip_mems (s : State) (n : _) (again : _) : (State.apSlip s n again).mems = s.mems := by
  simp only [State.apSlip, ↓mems_ite, ↓mems_mk, mems_eta, ↓State.bump_mems, ↓State.set_mems, ↓State.raiseCause_mems,
      ↓mems_foldl, ↓mems_foldr, ite_self, implies_true, id_eq]

theorem State.apBack_mems (s : State) (n : _) : (State.apBack s n).mems = s.mems := by
  simp only [State.apBack, ↓mems_ite, ↓mems_mk, mems_eta, ↓State.asrcReturn_mems, ↓State.set_mems,
      ↓State.raiseCause_mems, ↓mems_foldl, ↓mems_foldr, ite_self, implies_true, id_eq]

theorem State.apMaskPend_mems (s : State) (n : _) (out : _) (w : _) : (State.apMaskPend s n out w).mems = s.mems := by
  simp only [State.apMaskPend, ↓mems_ite, ↓mems_mk, mems_eta, ↓State.set_mems, ↓State.apStatus_mems, ↓mems_foldl,
      ↓mems_foldr, ite_self, implies_true, id_eq]

theorem State.apMaskSet_mems (s : State) (n : _) (out : _) (w : _) : (State.apMaskSet s n out w).mems = s.mems := by
  simp only [State.apMaskSet, ↓mems_ite, ↓mems_mk, mems_eta, ↓State.withClaims_mems, ↓State.set_mems,
      ↓State.apMaskPend_mems, ↓State.apStatus_mems, ↓State.apMasks_mems, ↓mems_foldl, ↓mems_foldr, ite_self,
          implies_true, id_eq]

theorem State.apMaskApply_mems (s : State) (n : _) : (State.apMaskApply s n).mems = s.mems := by
  simp only [State.apMaskApply, ↓mems_ite, ↓mems_mk, mems_eta, ↓State.set_mems, ↓State.asrcDrop_mems,
      ↓State.unclaimBut_mems, ↓State.losing_mems, ↓State.apTakeChans_mems, ↓State.apMasks_mems, ↓mems_foldl,
          ↓mems_foldr, ite_self, implies_true, id_eq]

theorem State.apPlain_mems (s : State) (n : _) (a : _) (w : _) : (State.apPlain s n a w).mems = s.mems := by
  simp only [State.apPlain, ↓mems_ite, ↓mems_mk, mems_eta, ↓State.plainStore_mems, ↓State.apStatus_mems, ↓mems_foldl,
      ↓mems_foldr, ite_self, implies_true, id_eq]

theorem State.apDisarm_mems (s : State) (g : _) : (State.apDisarm s g).mems = s.mems := by
  simp only [State.apDisarm, ↓mems_ite, ↓mems_mk, mems_eta, ↓State.set_mems, ↓mems_foldl, ↓mems_foldr, ite_self,
      implies_true, id_eq]

theorem State.apGroupSet_mems (s : State) (g : _) (w : _) : (State.apGroupSet s g w).mems = s.mems := by
  simp only [State.apGroupSet, ↓mems_ite, ↓mems_mk, mems_eta, ↓State.set_mems, ↓State.apDisarm_mems, ↓mems_foldl,
      ↓mems_foldr, ite_self, implies_true, id_eq]

theorem State.apGroupStart_mems (s : State) (g : _) : (State.apGroupStart s g).mems = s.mems := by
  simp only [State.apGroupStart, ↓mems_ite, ↓mems_mk, mems_eta, ↓State.set_mems, ↓mems_foldl, ite_self,
      implies_true, id_eq]

theorem State.rxStatus_mems (s : State) (r : _) (v : _) : (State.rxStatus s r v).mems = s.mems := by
  simp only [State.rxStatus, ↓mems_ite, ↓mems_mk, mems_eta, ↓State.set_mems, ite_self, implies_true, id_eq]

theorem State.rxUnlock_mems (s : State) (r : _) : (State.rxUnlock s r).mems = s.mems := by
  simp only [State.rxUnlock, ↓mems_ite, ↓mems_mk, mems_eta, ↓State.asrcFreewheel_mems, ↓State.set_mems,
      ↓State.raiseCause_mems, ↓State.losing_mems, ↓State.refDrop_mems, ↓mems_foldl, ↓mems_foldr, ite_self,
          implies_true, id_eq]

theorem State.rxCtrlSet_mems (s : State) (r : _) (w : _) : (State.rxCtrlSet s r w).mems = s.mems := by
  simp only [State.rxCtrlSet, ↓mems_ite, ↓mems_mk, mems_eta, ↓State.withClaims_mems, ↓State.set_mems,
      ↓State.unclaim_mems, ↓State.asrcDropAll_mems, ↓State.asrcTake_mems, ↓State.rxStatus_mems, ↓State.losing_mems,
          ↓State.rxUnlock_mems, ↓mems_foldl, ↓mems_foldr, ite_self, implies_true, id_eq]

theorem State.rxLock_mems (s : State) (r : _) (nom : _) : (State.rxLock s r nom).mems = s.mems := by
  simp only [State.rxLock, ↓mems_ite, ↓mems_mk, mems_eta, ↓State.asrcReturn_mems, ↓State.set_mems,
      ↓State.raiseCause_mems, ↓State.drawn_mems, ↓mems_foldl, ↓mems_foldr, ite_self, implies_true, id_eq]

theorem State.rxWords_mems (s : State) (r : _) (u : _) (cs : _) (us : _) :
    (State.rxWords s r u cs us).mems = s.mems := by
  simp only [State.rxWords, ↓mems_ite, ↓mems_mk, mems_eta, ↓State.set_mems, ↓mems_foldl, ite_self, implies_true,
      id_eq]

theorem State.setBit2_mems (s : State) (f : _) (u : _) (b : _) : (State.setBit2 s f u b).mems = s.mems := by
  simp only [State.setBit2, ↓mems_ite, ↓mems_mk, mems_eta, ↓State.set_mems, ite_self, implies_true, id_eq]

theorem State.rxBlock_mems (s : State) (r : _) (u : _) (len : _) (cs : _) (us : _) :
    (State.rxBlock s r u len cs us).mems = s.mems := by
  simp only [State.rxBlock, ↓mems_ite, ↓mems_mk, mems_eta, ↓State.bump_mems, ↓State.raiseCause_mems,
      ↓State.setBit2_mems, ↓State.rxWords_mems, ite_self, implies_true, id_eq]

theorem State.rxParity_mems (s : State) (r : _) (u : _) : (State.rxParity s r u).mems = s.mems := by
  simp only [State.rxParity, ↓mems_ite, ↓mems_mk, mems_eta, ↓State.bump_mems, ↓State.set_mems, ↓mems_foldl,
      ↓mems_foldr, ite_self, implies_true, id_eq]

theorem State.txStatus_mems (s : State) (t : _) (v : _) : (State.txStatus s t v).mems = s.mems := by
  simp only [State.txStatus, ↓mems_ite, ↓mems_mk, mems_eta, ↓State.set_mems, ite_self, implies_true, id_eq]

theorem State.txTake_mems (s : State) (t : _) : (State.txTake s t).mems = s.mems := by
  simp only [State.txTake, ↓mems_ite, ↓mems_mk, mems_eta, ↓State.asrcTake_mems, ↓mems_foldl, ite_self,
      implies_true, id_eq]

theorem State.txStart_mems (s : State) (t : _) : (State.txStart s t).mems = s.mems := by
  simp only [State.txStart, ↓mems_ite, ↓mems_mk, mems_eta, ↓State.txTake_mems, ↓State.set_mems, ↓State.flag_mems,
      ↓mems_foldl, ↓mems_foldr, ite_self, implies_true, id_eq]

theorem State.txShut_mems (s : State) (t : _) : (State.txShut s t).mems = s.mems := by
  simp only [State.txShut, ↓mems_ite, ↓mems_mk, mems_eta, ↓State.set_mems, ↓State.asrcDropAll_mems, ↓mems_foldl,
      ↓mems_foldr, ite_self, implies_true, id_eq]

theorem State.txCtrlSet_mems (s : State) (t : _) (w : _) : (State.txCtrlSet s t w).mems = s.mems := by
  simp only [State.txCtrlSet, ↓mems_ite, ↓mems_mk, mems_eta, ↓State.withClaims_mems, ↓State.set_mems,
      ↓State.txStatus_mems, ↓State.txStart_mems, ↓State.txShut_mems, ↓mems_foldl, ↓mems_foldr, ite_self, implies_true,
          id_eq]

theorem State.txOnNow_mems (s : State) (t : _) : (State.txOnNow s t).mems = s.mems := by
  simp only [State.txOnNow, ↓mems_ite, ↓mems_mk, mems_eta, ↓State.raiseCause_mems, ↓State.startDone_mems, ↓mems_foldl,
      ↓mems_foldr, ite_self, implies_true, id_eq]

theorem State.txOn_mems (s : State) (t : _) : (State.txOn s t).mems = s.mems := by
  simp only [State.txOn, ↓mems_ite, ↓mems_mk, mems_eta, ↓State.txOnNow_mems, ↓mems_foldl, ↓mems_foldr, ite_self,
      implies_true, id_eq]

theorem State.txOffNow_mems (s : State) (t : _) : (State.txOffNow s t).mems = s.mems := by
  simp only [State.txOffNow, ↓mems_ite, ↓mems_mk, mems_eta, ↓State.set_mems, ↓State.unclaim_mems,
      ↓State.raiseCause_mems, ↓State.txStart_mems, ↓State.shutDone_mems, ↓mems_foldl, ↓mems_foldr, ite_self,
          implies_true, id_eq]

theorem State.txOff_mems (s : State) (t : _) : (State.txOff s t).mems = s.mems := by
  simp only [State.txOff, ↓mems_ite, ↓mems_mk, mems_eta, ↓State.txOffNow_mems, ↓mems_foldl, ↓mems_foldr, ite_self,
      implies_true, id_eq]

theorem State.txSetWord_mems (s : State) (t : _) (u : _) (user : _) (k : _) (w : _) : (State.txSetWord s t u user k
    w).mems = s.mems := by
  simp only [State.txSetWord, ↓mems_ite, ↓mems_mk, mems_eta, ↓State.set_mems, ↓State.txStatus_mems, ↓mems_foldl,
      ↓mems_foldr, ite_self, implies_true, id_eq]

theorem State.txApply_mems (s : State) (t : _) : (State.txApply s t).mems = s.mems := by
  unfold State.txApply
  (repeat' split) <;> simp only [↓mems_ite, ↓mems_mk, mems_eta, ↓State.set_mems, ↓State.raiseCause_mems, ↓mems_foldl,
      ↓mems_foldr, ite_self, implies_true, id_eq]

theorem State.tmStatus_mems (s : State) (n : _) (v : _) : (State.tmStatus s n v).mems = s.mems := by
  simp only [State.tmStatus, ↓mems_ite, ↓mems_mk, mems_eta, ↓State.set_mems, ite_self, implies_true, id_eq]

theorem State.tmLevel_mems (s : State) (n : _) (act : _) : (State.tmLevel s n act).mems = s.mems := by
  simp only [State.tmLevel, ↓mems_ite, ↓mems_mk, mems_eta, ↓State.set_mems, ite_self, implies_true, id_eq]

theorem State.cmpLap_mems (s : State) (n : _) (b : _) : (State.cmpLap s n b).mems = s.mems := by
  simp only [State.cmpLap, ↓mems_ite, ↓mems_mk, mems_eta, ↓State.set_mems, ite_self, implies_true, id_eq]

theorem State.lapOne_mems (s : State) (n : _) : (State.lapOne s n).mems = s.mems := by
  simp only [State.lapOne, ↓mems_ite, ↓mems_mk, mems_eta, ↓State.set_mems, ↓State.raiseCause_mems, ↓State.tmLevel_mems,
      ↓State.cmpLap_mems, ↓mems_foldl, ↓mems_foldr, ite_self, implies_true, id_eq]

theorem State.cmpMatch_mems (s : State) (n : _) (b : _) (c : _) : (State.cmpMatch s n b c).mems = s.mems := by
  simp only [State.cmpMatch, ↓mems_ite, ↓mems_mk, mems_eta, ↓State.set_mems, ↓State.raiseCause_mems,
      ↓State.tmLevel_mems, ↓mems_foldl, ↓mems_foldr, ite_self, implies_true, id_eq]

theorem State.tmStep_mems (s : State) (k : _) : (State.tmStep s k).mems = s.mems := by
  simp only [State.tmStep, ↓mems_ite, ↓mems_mk, mems_eta, ↓State.lapOne_mems, ↓State.set_mems, ↓State.cmpMatch_mems,
      ↓mems_foldl, ↓mems_foldr, ite_self, implies_true, id_eq]

theorem State.tmRebase_mems (s : State) (n : _) : (State.tmRebase s n).mems = s.mems := by
  simp only [State.tmRebase, ↓mems_ite, ↓mems_mk, mems_eta, ↓State.set_mems, ↓mems_foldl, ↓mems_foldr, ite_self,
      implies_true, id_eq]

theorem State.cmpSet_mems (s : State) (n : _) (b : _) (v : _) : (State.cmpSet s n b v).mems = s.mems := by
  simp only [State.cmpSet, ↓mems_ite, ↓mems_mk, mems_eta, ↓State.tmRebase_mems, ↓State.set_mems, ↓State.tmStatus_mems,
      ↓mems_foldl, ↓mems_foldr, ite_self, implies_true, id_eq]

theorem State.tmAll_mems (s : State) (n : _) (st : _) : (State.tmAll s n st).mems = s.mems := by
  simp only [State.tmAll, ↓mems_ite, ↓mems_mk, mems_eta, ↓State.set_mems, ↓mems_foldl, ite_self, implies_true, id_eq]

theorem State.tmStarting_mems (s : State) (n : _) (t : _) : (State.tmStarting s n t).mems = s.mems := by
  simp only [State.tmStarting, ↓mems_ite, ↓mems_mk, mems_eta, ↓State.set_mems, ↓State.tmAll_mems, ↓mems_foldl,
      ↓mems_foldr, ite_self, implies_true, id_eq]

theorem State.tmEnable_mems (s : State) (n : _) (want : _) : (State.tmEnable s n want).mems = s.mems := by
  simp only [State.tmEnable, ↓mems_ite, ↓mems_mk, mems_eta, ↓State.tmStarting_mems, ↓State.withClaims_mems,
      ↓State.set_mems, ↓State.tmAll_mems, ↓State.tmStatus_mems, ↓mems_foldl, ↓mems_foldr, ite_self, implies_true, id_eq]

theorem State.tmStartOne_mems (s : State) (k : _) (t : _) : (State.tmStartOne s k t).mems = s.mems := by
  simp only [State.tmStartOne, ↓mems_ite, ↓mems_mk, mems_eta, ↓State.set_mems, ↓State.raiseCause_mems,
      ↓State.flag_mems, ↓mems_foldl, ↓mems_foldr, ite_self, implies_true, id_eq]

theorem State.tmStart_mems (s : State) (n : _) (t : _) : (State.tmStart s n t).mems = s.mems := by
  simp only [State.tmStart, ↓mems_ite, ↓mems_mk, mems_eta, ↓State.tmStartOne_mems, ↓mems_foldl, ↓mems_foldr, ite_self,
      implies_true, id_eq]

theorem State.tmCapture_mems (s : State) (n : _) (t : _) : (State.tmCapture s n t).mems = s.mems := by
  simp only [State.tmCapture, ↓mems_ite, ↓mems_mk, mems_eta, ↓State.set_mems, ↓State.raiseCause_mems, ↓mems_foldl,
      ↓mems_foldr, ite_self, implies_true, id_eq]

theorem State.tmCtrlSet_mems (s : State) (n : _) (w : _) : (State.tmCtrlSet s n w).mems = s.mems := by
  simp only [State.tmCtrlSet, ↓mems_ite, ↓mems_mk, mems_eta, ↓State.tmEnable_mems, ↓State.tmCapture_mems, ↓mems_foldl,
      ↓mems_foldr, ite_self, implies_true, id_eq]

theorem State.tmReload_mems (s : State) (n : _) (w : _) : (State.tmReload s n w).mems = s.mems := by
  simp only [State.tmReload, ↓mems_ite, ↓mems_mk, mems_eta, ↓State.tmStatus_mems, ↓State.set_mems, ite_self,
      implies_true, id_eq]

theorem State.tmPlain_mems (s : State) (n : _) (o : _) (w : _) : (State.tmPlain s n o w).mems = s.mems := by
  simp only [State.tmPlain, ↓mems_ite, ↓mems_mk, mems_eta, ↓State.set_mems, ↓State.plainStore_mems,
      ↓State.tmStatus_mems, ↓mems_foldl, ↓mems_foldr, ite_self, implies_true, id_eq]

theorem State.tmCntRead_mems (s : State) (m : _) (n : _) : (State.tmCntRead s m n).mems = s.mems := by
  simp only [State.tmCntRead, ↓mems_ite, ↓mems_mk, mems_eta, ↓State.set_mems, ↓State.reply_mems, ↓mems_foldl,
      ite_self, implies_true, id_eq]

theorem State.tmCaptRead_mems (s : State) (m : _) (n : _) : (State.tmCaptRead s m n).mems = s.mems := by
  simp only [State.tmCaptRead, ↓mems_ite, ↓mems_mk, mems_eta, ↓State.reply_mems, ↓State.set_mems, ↓mems_foldl,
      ite_self, implies_true, id_eq]

theorem State.tmGroupGo_mems (s : State) (g : _) (t : _) : (State.tmGroupGo s g t).mems = s.mems := by
  unfold State.tmGroupGo
  (repeat' split) <;> simp only [↓mems_ite, ↓mems_mk, mems_eta, ↓State.tmStart_mems, ↓State.set_mems, ↓mems_foldl,
      ↓mems_foldr, ite_self, implies_true, id_eq]

theorem State.tmGroupsAt_mems (s : State) (m : _) (t : _) : (State.tmGroupsAt s m t).mems = s.mems := by
  simp only [State.tmGroupsAt, ↓mems_ite, ↓mems_mk, mems_eta, ↓State.tmGroupGo_mems, ↓mems_foldl, ↓mems_foldr,
      ite_self, implies_true, id_eq]

theorem State.tmOff_mems (s : State) (n : _) (t : _) : (State.tmOff s n t).mems = s.mems := by
  unfold State.tmOff
  (repeat' split) <;> simp only [↓mems_ite, ↓mems_mk, mems_eta, ↓State.tmStarting_mems, ↓State.unclaimAll_mems,
      ↓State.set_mems, ↓State.raiseCause_mems, ↓State.unclaimBut_mems, ↓State.tmAll_mems, ↓mems_foldl, ↓mems_foldr,
          ite_self, implies_true, id_eq]

theorem State.tmSteps_mems (ks : List Nat) (s : State) : (State.tmSteps ks s).mems = s.mems := by
  induction ks generalizing s with
  | nil => rfl
  | cons k ks ih =>
    unfold State.tmSteps
    split
    · rw [ih, State.tmStep_mems]
    · exact State.tmStep_mems _ _

theorem State.tmHappens_mems (s : State) (n : _) (t : _) : (State.tmHappens s n t).mems = s.mems := by
  unfold State.tmHappens
  repeat' (first
      | with_reducible rfl
      | refine (mems_foldl _ _ (fun s x => ?_) _).trans ?_
      | simp only [↓mems_ite, ↓mems_mk, mems_eta, ↓State.tmOff_mems, ↓State.tmStart_mems, ↓State.tmSteps_mems,
          ↓State.set_mems, ↓mems_foldl, ↓mems_foldr, ite_self, implies_true, id_eq]
      | split)

theorem State.tmRun_mems (n t fuel : Nat) (s : State) : (State.tmRun n t fuel s).mems = s.mems := by
  induction fuel generalizing s with
  | zero => rfl
  | succ k ih =>
    unfold State.tmRun
    split
    · split
      · rfl
      · rw [ih, State.tmHappens_mems]
    · rfl

theorem State.tmRunTo_mems (s : State) (n : _) (t : _) : (State.tmRunTo s n t).mems = s.mems := by
  unfold State.tmRunTo
  repeat' (first
      | with_reducible rfl
      | refine (mems_foldl _ _ (fun s x => ?_) _).trans ?_
      | simp only [↓mems_ite, ↓mems_mk, mems_eta, ↓State.tmRun_mems, ↓mems_foldl, ↓mems_foldr, ite_self, implies_true,
          id_eq]
      | split)

theorem State.tmRunAll_mems (s : State) (t : _) : (State.tmRunAll s t).mems = s.mems := by
  simp only [State.tmRunAll, ↓mems_ite, ↓mems_mk, mems_eta, ↓State.set_mems, ↓State.tmGroupsAt_mems,
      ↓State.tmRunTo_mems, ↓mems_foldl, ↓mems_foldr, ite_self, implies_true, id_eq]

theorem State.tmReach_mems (s : State) (t : _) : (State.tmReach s t).mems = s.mems := by
  unfold State.tmReach
  (repeat' split) <;> simp only [↓mems_ite, ↓mems_mk, mems_eta, ↓State.tmRunAll_mems, ↓mems_foldl, ↓mems_foldr,
      ite_self, implies_true, id_eq]

theorem State.tmGroupSet_mems (s : State) (g : _) (w : _) : (State.tmGroupSet s g w).mems = s.mems := by
  simp only [State.tmGroupSet, ↓mems_ite, ↓mems_mk, mems_eta, ↓State.set_mems, ↓State.tmReach_mems, ↓mems_foldl,
      ↓mems_foldr, ite_self, implies_true, id_eq]

theorem State.tmGroupStart_mems (s : State) (g : _) : (State.tmGroupStart s g).mems = s.mems := by
  simp only [State.tmGroupStart, ↓mems_ite, ↓mems_mk, mems_eta, ↓State.tmGroupGo_mems, ↓mems_foldl, ↓mems_foldr,
      ite_self, implies_true, id_eq]

theorem State.setUart_mems (s : State) (n : _) (u : _) : (State.setUart s n u).mems = s.mems := by
  simp only [State.setUart, ↓mems_ite, ↓mems_mk, mems_eta, ite_self, implies_true, id_eq]

theorem State.uStatus_mems (s : State) (n : _) (v : _) : (State.uStatus s n v).mems = s.mems := by
  simp only [State.uStatus, ↓mems_ite, ↓mems_mk, mems_eta, ↓State.set_mems, ite_self, implies_true, id_eq]

theorem State.uLevels_mems (s : State) (n : _) : (State.uLevels s n).mems = s.mems := by
  simp only [State.uLevels, ↓mems_ite, ↓mems_mk, mems_eta, ↓State.set_mems, ↓State.raiseCause_mems, ite_self,
      implies_true, id_eq]

theorem State.uCommit_mems (s : State) (n : _) (p : _) : (State.uCommit s n p).mems = s.mems := by
  simp only [State.uCommit, ↓mems_ite, ↓mems_mk, mems_eta, ↓State.setUart_mems, ↓State.raiseCause_mems,
      ↓State.bump_mems, ite_self, implies_true, id_eq]

theorem State.uDrain_mems (n : _) (x1 : _) (x2 : State) : (State.uDrain n x1 x2).mems = x2.mems := by
  induction x1 generalizing x2 with
  | zero => rfl
  | succ k ih =>
    unfold State.uDrain
    split
    · simp only [↓mems_ite, ih, ↓State.uCommit_mems, ite_self]
    · rfl

theorem State.uPost_mems (s : State) (n : _) (word : _) : (State.uPost s n word).mems = s.mems := by
  simp only [State.uPost, ↓mems_ite, ↓mems_mk, mems_eta, ↓State.mirror_mems, ↓State.postPip_mems, ite_self,
      implies_true, id_eq]

theorem State.uMidiEvent_mems (s : State) (n : _) (kind : _) : (State.uMidiEvent s n kind).mems = s.mems := by
  unfold State.uMidiEvent
  (repeat' split) <;> simp only [↓mems_ite, ↓mems_mk, mems_eta, ↓State.uLevels_mems, ↓State.uDrain_mems,
      ↓State.uPost_mems, ↓State.uCommit_mems, ite_self, implies_true, id_eq]

theorem State.uReceive_mems (s : State) (n : _) (c : _) : (State.uReceive s n c).mems = s.mems := by
  simp only [State.uReceive, ↓mems_ite, ↓mems_mk, mems_eta, ↓State.set_mems, ↓State.raiseCause_mems,
      ↓State.bump_mems, ↓State.setUart_mems, ↓State.uLevels_mems, ↓State.uDrain_mems, ite_self, implies_true, id_eq]

theorem State.uRxRead_mems (s : State) (m : _) (n : _) : (State.uRxRead s m n).mems = s.mems := by
  simp only [State.uRxRead, ↓mems_ite, ↓mems_mk, mems_eta, ↓State.reply_mems, ↓State.uLevels_mems,
      ↓State.setUart_mems, ite_self, implies_true, id_eq]

theorem State.uWrite_mems (s : State) (m : _) (n : _) (eff : _) (heff : ∀ x, (eff x).mems = x.mems) :
    (State.uWrite s m n eff).mems = s.mems := by
  simp only [State.uWrite, ↓mems_ite, ↓mems_mk, mems_eta, ↓State.uStatus_mems, ↓heff, ite_self, implies_true, id_eq]

theorem State.uTxWrite_mems (s : State) (n : _) (b : _) : (State.uTxWrite s n b).mems = s.mems := by
  simp only [State.uTxWrite, ↓mems_ite, ↓mems_mk, mems_eta, ↓State.uStatus_mems, ↓State.uLevels_mems,
      ↓State.setUart_mems, ite_self, implies_true, id_eq]

theorem State.uTake_mems (s : State) (n : _) (rx : _) : (State.uTake s n rx).mems = s.mems := by
  simp only [State.uTake, ↓mems_ite, ↓mems_mk, mems_eta, ↓State.set_mems, ↓State.flag_mems, ↓mems_foldl, ↓mems_foldr,
      ite_self, implies_true, id_eq]

theorem State.tmFire_mems (s : State) (src : _) : (State.tmFire s src).mems = s.mems := by
  unfold State.tmFire
  (repeat' split) <;> simp only [↓mems_ite, ↓mems_mk, mems_eta, ↓State.tmCapture_mems, ↓mems_foldl, ↓mems_foldr,
      ite_self, implies_true, id_eq]

theorem State.uStart_mems (s : State) (n : _) : (State.uStart s n).mems = s.mems := by
  simp only [State.uStart, ↓mems_ite, ↓mems_mk, mems_eta, ↓State.uTake_mems, ↓State.set_mems, ↓State.tmFire_mems,
      ↓mems_foldl, ↓mems_foldr, ite_self, implies_true, id_eq]

theorem State.uTransmit_mems (s : State) (n : _) (cts : _) : (State.uTransmit s n cts).mems = s.mems := by
  unfold State.uTransmit
  repeat' (first
      | with_reducible rfl
      | refine (mems_foldl _ _ (fun s x => ?_) _).trans ?_
      | simp only [↓mems_ite, ↓mems_mk, mems_eta, ↓State.uReceive_mems, ↓State.uTake_mems, ↓State.uStart_mems,
          ↓State.set_mems, ↓State.setUart_mems, ↓State.flag_mems, ↓State.uLevels_mems, ↓mems_foldl, ↓mems_foldr,
              ite_self, implies_true, id_eq]
      | split)

theorem State.uDivSet_mems (s : State) (n : _) (w : _) : (State.uDivSet s n w).mems = s.mems := by
  simp only [State.uDivSet, ↓mems_ite, ↓mems_mk, mems_eta, ↓State.uTake_mems, ↓State.uStatus_mems, ↓State.puts_mems,
      ↓State.set_mems, ↓mems_foldl, ↓mems_foldr, ite_self, implies_true, id_eq]

theorem State.uCtrlSet_mems (s : State) (n : _) (w : _) : (State.uCtrlSet s n w).mems = s.mems := by
  simp only [State.uCtrlSet, ↓mems_ite, ↓mems_mk, mems_eta, ↓State.puts_mems, ↓State.uStatus_mems,
      ↓State.withClaims_mems, ↓State.uLevels_mems, ↓State.set_mems, ↓State.enableWrite_mems, ite_self,
      implies_true, id_eq]

theorem State.uOn_mems (s : State) (n : _) : (State.uOn s n).mems = s.mems := by
  simp only [State.uOn, ↓mems_ite, ↓mems_mk, mems_eta, ↓State.startDone_mems, ↓State.uLevels_mems,
      ↓State.raiseCause_mems, ite_self, implies_true, id_eq]

theorem State.uEmpty_mems (s : State) (n : _) : (State.uEmpty s n).mems = s.mems := by
  simp only [State.uEmpty, ↓mems_ite, ↓mems_mk, mems_eta, ↓State.uTake_mems, ↓State.setUart_mems, ↓mems_foldl,
      ↓mems_foldr, ite_self, implies_true, id_eq]

theorem State.uOff_mems (s : State) (n : _) : (State.uOff s n).mems = s.mems := by
  simp only [State.uOff, ↓mems_ite, ↓mems_mk, mems_eta, ↓State.shutDone_mems, ↓State.raiseCause_mems,
      ↓State.uLevels_mems, ↓State.unclaimAll_mems, ↓State.uEmpty_mems, ite_self, implies_true, id_eq]

theorem State.uBroken_mems (s : State) (n : _) : (State.uBroken s n).mems = s.mems := by
  simp only [State.uBroken, ↓mems_ite, ↓mems_mk, mems_eta, ↓State.bump_mems, ↓State.raiseCause_mems, ↓mems_foldl,
      ↓mems_foldr, ite_self, implies_true, id_eq]

theorem State.uBreak_mems (s : State) (n : _) : (State.uBreak s n).mems = s.mems := by
  simp only [State.uBreak, ↓mems_ite, ↓mems_mk, mems_eta, ↓State.set_mems, ↓State.uBroken_mems, ↓mems_foldl,
      ↓mems_foldr, ite_self, implies_true, id_eq]

theorem State.uRetire_mems (s : State) (n : _) : (State.uRetire s n).mems = s.mems := by
  simp only [State.uRetire, ↓mems_ite, ↓mems_mk, mems_eta, ↓State.raise_mems, ↓State.mdlFault_mems,
      ↓State.raiseCause_mems, ↓State.set_mems, ite_self, implies_true, id_eq]

theorem State.uLineSet_mems (s : State) (n : _) (w : _) : (State.uLineSet s n w).mems = s.mems := by
  simp only [State.uLineSet, ↓mems_ite, ↓mems_mk, mems_eta, ↓State.uStatus_mems, ↓State.uLevels_mems,
      ↓State.set_mems, ↓State.put_mems, ite_self, implies_true, id_eq]

theorem State.uPlain_mems (s : State) (n : _) (o : _) (w : _) : (State.uPlain s n o w).mems = s.mems := by
  simp only [State.uPlain, ↓mems_ite, ↓mems_mk, mems_eta, ↓State.uStatus_mems, ↓State.plainStore_mems,
      ↓State.uLevels_mems, ↓mems_foldl, ↓mems_foldr, ite_self, implies_true, id_eq]

theorem State.curStatus_mems (s : State) (v : _) : (State.curStatus s v).mems = s.mems := by
  simp only [State.curStatus, ↓mems_ite, ↓mems_mk, mems_eta, ↓State.set_mems, ite_self, implies_true, id_eq]

theorem State.runOf_mems (s : State) (ch : _) (other : _) (flip : _) (hflip : ∀ x, (flip x).mems = x.mems) :
    (State.runOf s ch other flip).mems = s.mems := by
  simp only [State.runOf, ↓mems_ite, ↓mems_mk, mems_eta, ↓State.set_mems, ↓hflip, ite_self, implies_true, id_eq]

theorem State.monJudge_mems (s : State) (ch : _) (code : _) : (State.monJudge s ch code).mems = s.mems := by
  simp only [State.monJudge, ↓mems_ite, ↓mems_mk, mems_eta, ↓State.runOf_mems, ↓State.set_mems,
      ↓State.mdlFault_mems, ↓State.raise_mems, ite_self, implies_true, id_eq]

theorem State.tempAction_mems (s : State) (crit : _) (ch : _) : (State.tempAction s crit ch).mems = s.mems := by
  simp only [State.tempAction, ↓mems_ite, ↓mems_mk, mems_eta, ↓State.raise_mems, ↓State.mdlFault_mems,
      ↓State.engineStop_mems, ↓State.set_mems, ite_self, implies_true, id_eq]

theorem State.tempJudge_mems (s : State) (ch : _) (t : _) (crit : _) :
    (State.tempJudge s ch t crit).mems = s.mems := by
  simp only [State.tempJudge, ↓mems_ite, ↓mems_mk, mems_eta, ↓State.set_mems, ↓State.tempAction_mems, ite_self,
      implies_true, id_eq]

theorem State.curResult_mems (s : State) (ch : _) (code : _) : (State.curResult s ch code).mems = s.mems := by
  simp only [State.curResult, ↓mems_ite, ↓mems_mk, mems_eta, ↓State.set_mems, ↓State.tempJudge_mems,
      ↓State.monJudge_mems, ite_self, implies_true, id_eq]

theorem State.dmsPermanent_mems (s : State) (n : _) : (State.dmsPermanent s n).mems = s.mems := by
  simp only [State.dmsPermanent, ↓mems_ite, ↓mems_mk, mems_eta, ↓State.raise_mems, ↓State.set_mems,
      ↓State.dmsRetire_mems, ite_self, implies_true, id_eq]

theorem State.tapFault_mems (s : State) (n : _) (ok : _) : (State.tapFault s n ok).mems = s.mems := by
  simp only [State.tapFault, ↓mems_ite, ↓mems_mk, mems_eta, ↓State.mdlFault_mems, ↓State.dmsPermanent_mems,
      ↓State.set_mems, ite_self, implies_true, id_eq]

theorem State.tapJudge_mems (s : State) (n : _) (code : _) : (State.tapJudge s n code).mems = s.mems := by
  simp only [State.tapJudge, ↓mems_ite, ↓mems_mk, mems_eta, ↓State.set_mems, ↓State.tapFault_mems,
      ↓State.runOf_mems, ↓State.raise_mems, ite_self, implies_true, id_eq]

theorem State.rotation_mems (s : State) (code : _) : (State.rotation s code).mems = s.mems := by
  simp only [State.rotation, ↓mems_ite, ↓mems_mk, mems_eta, ↓State.curResult_mems, ↓State.set_mems,
      ↓State.tapJudge_mems, ite_self, implies_true, id_eq]

theorem State.beginPass_mems (s : State) : (State.beginPass s).mems = s.mems := by
  unfold State.beginPass
  repeat' (first
      | with_reducible rfl
      | simp only [↓mems_ite, ↓mems_mk, mems_eta, ↓State.set_mems, ↓mems_foldl, ite_self, implies_true, id_eq]
      | split)

theorem State.scanStep_mems (s : State) (code : _) : (State.scanStep s code).mems = s.mems := by
  unfold State.scanStep
  repeat' (first
      | with_reducible rfl
      | simp only [↓mems_ite, ↓mems_mk, mems_eta, ↓State.set_mems, ↓State.curResult_mems, ite_self, implies_true,
          id_eq]
      | split)

theorem State.scanSlot_mems (s : State) (code : _) : (State.scanSlot s code).mems = s.mems := by
  simp only [State.scanSlot, ↓mems_ite, ↓mems_mk, mems_eta, ↓State.beginPass_mems, ↓State.scanStep_mems, ite_self,
      implies_true, id_eq]

theorem State.curCtrlSet_mems (s : State) (w : _) : (State.curCtrlSet s w).mems = s.mems := by
  simp only [State.curCtrlSet, ↓mems_ite, ↓mems_mk, mems_eta, ↓State.curStatus_mems, ↓State.put_mems,
      ↓State.set_mems, ite_self, implies_true, id_eq]

theorem State.curScanSet_mems (s : State) (e : _) (w : _) : (State.curScanSet s e w).mems = s.mems := by
  simp only [State.curScanSet, ↓mems_ite, ↓mems_mk, mems_eta, ↓State.curStatus_mems, ↓State.regStore_mems,
      ite_self, implies_true, id_eq]

theorem State.curPost_mems (s : State) (w : _) : (State.curPost s w).mems = s.mems := by
  simp only [State.curPost, ↓mems_ite, ↓mems_mk, mems_eta, ↓State.mirror_mems, ↓State.paramCmd_mems, ite_self,
      implies_true, id_eq]

theorem State.wiperPosts_mems (s : State) : (State.wiperPosts s).mems = s.mems := by
  simp only [State.wiperPosts, ↓mems_ite, ↓mems_mk, mems_eta, ↓State.set_mems, ↓State.curPost_mems, ↓mems_foldl,
      ite_self, implies_true, id_eq]

theorem State.meterReset_mems (s : State) (k : _) : (State.meterReset s k).mems = s.mems := by
  simp only [State.meterReset, ↓mems_ite, ↓mems_mk, mems_eta, ↓State.set_mems, ↓mems_foldl, ite_self, implies_true,
      id_eq]

theorem State.displayPeak_mems (s : State) (m : _) (tpk : _) (t : _) : (State.displayPeak s m tpk t).mems = s.mems := by
  simp only [State.displayPeak, ↓mems_ite, ↓mems_mk, mems_eta, ↓State.set_mems, ↓mems_foldl, ↓mems_foldr, ite_self,
      implies_true, id_eq]

theorem State.meterTake_mems (s : State) (m : _) (x : _) (now : _) : (State.meterTake s m x now).mems = s.mems := by
  unfold State.meterTake State.fresh
  simp only []
  simp only [↓mems_ite, ↓State.set_mems, ↓State.raise_mems, ↓State.bump_mems, ↓State.displayPeak_mems, ↓mems_mk,
      mems_eta, ite_self]

theorem State.live60_mems (s : State) : (State.live60 s).mems = s.mems := by
  simp only [State.live60, ↓mems_ite, ↓mems_mk, mems_eta, ↓State.flag_mems, ite_self, implies_true, id_eq]

theorem State.tapTick_mems (s : State) (m : _) : (State.tapTick s m).mems = s.mems := by
  simp only [State.tapTick, ↓mems_ite, ↓mems_mk, mems_eta, ↓State.meterReset_mems, ↓State.set_mems, ite_self,
      implies_true, id_eq]

theorem State.lgRestart_mems (s : State) (g : _) : (State.lgRestart s g).mems = s.mems := by
  simp only [State.lgRestart, ↓mems_ite, ↓mems_mk, mems_eta, ↓State.set_mems, ite_self, implies_true, id_eq]

theorem State.meterTick_mems (s : State) : (State.meterTick s).mems = s.mems := by
  simp only [State.meterTick, ↓mems_ite, ↓mems_mk, mems_eta, ↓State.tapTick_mems, ↓State.lgRestart_mems, ↓mems_foldl,
      ↓mems_foldr, ite_self, implies_true, id_eq]

theorem State.mcfgSet_mems (s : State) (m : _) (w : _) : (State.mcfgSet s m w).mems = s.mems := by
  simp only [State.mcfgSet, ↓mems_ite, ↓mems_mk, mems_eta, ↓State.curStatus_mems, ↓State.regStore_mems,
      ↓State.set_mems, ite_self, implies_true, id_eq]

theorem State.meterRead_mems (s : State) (m : _) (k : _) : (State.meterRead s m k).mems = s.mems := by
  simp only [State.meterRead, ↓mems_ite, ↓mems_mk, mems_eta, ↓State.reply_mems, ↓State.setLatch_mems,
      ↓State.set_mems, ite_self, implies_true, id_eq]

theorem State.latchTake_mems (s : State) (k : _) (v : _) : (State.latchTake s k v).mems = s.mems := by
  simp only [State.latchTake, ↓mems_ite, ↓mems_mk, mems_eta, ↓mems_foldl, ↓mems_foldr, ite_self, implies_true, id_eq]

theorem State.meterOvRead_mems (s : State) (m : _) (k : _) : (State.meterOvRead s m k).mems = s.mems := by
  simp only [State.meterOvRead, ↓mems_ite, ↓mems_mk, mems_eta, ↓State.reply_mems, ↓State.set_mems,
      ↓State.latchTake_mems, ↓mems_foldl, ↓mems_foldr, ite_self, implies_true, id_eq]

theorem State.peakFall_mems (s : State) (k : _) : (State.peakFall s k).mems = s.mems := by
  simp only [State.peakFall, ↓mems_ite, ↓mems_mk, mems_eta, ↓State.set_mems, ite_self, implies_true, id_eq]

theorem State.lgSet_mems (s : State) (g : _) (w : _) : (State.lgSet s g w).mems = s.mems := by
  simp only [State.lgSet, ↓mems_ite, ↓mems_mk, mems_eta, ↓State.lgRestart_mems, ↓State.set_mems, ↓State.put_mems,
      ↓State.curStatus_mems, ↓mems_foldl, ↓mems_foldr, ite_self, implies_true, id_eq]

theorem State.lgUpdate_mems (s : State) (g : _) : (State.lgUpdate s g).mems = s.mems := by
  unfold State.lgUpdate
  repeat' (first
      | with_reducible rfl
      | simp only [↓mems_ite, ↓mems_mk, mems_eta, State.fresh, ↓State.set_mems, ite_self, implies_true, id_eq]
      | split)

theorem State.syncSpares_mems (s : State) : (State.syncSpares s).mems = s.mems := by
  simp only [State.syncSpares, ↓mems_ite, ↓mems_mk, mems_eta, ↓State.set_mems, ite_self, implies_true, id_eq]

theorem State.syncCover_mems (s : State) : (State.syncCover s).mems = s.mems := by
  simp only [State.syncCover, ↓mems_ite, ↓mems_mk, mems_eta, ↓State.set_mems, ite_self, implies_true, id_eq]

theorem State.rerun_mems (s : State) (n : _) (load : _) : (State.rerun s n load).mems = s.mems := by
  unfold State.rerun
  repeat' (first
      | with_reducible rfl
      | simp only [↓mems_ite, ↓mems_mk, mems_eta, ↓State.setCore_mems, ite_self, implies_true, id_eq]
      | split)

theorem State.retireCore_mems (s : State) (n : _) : (State.retireCore s n).mems = s.mems := by
  unfold State.retireCore
  repeat' (first
      | with_reducible rfl
      | simp only [↓mems_ite, ↓mems_mk, mems_eta, ↓State.set_mems, ↓State.setCore_mems, ↓State.returnNext_mems,
          ↓State.raise_mems, ↓State.syncSpares_mems, ↓State.refreshEvent_mems, ite_self, implies_true, id_eq]
      | split)

theorem State.swapBegin_mems (s : State) (n : _) : (State.swapBegin s n).mems = s.mems := by
  unfold State.swapBegin
  repeat' (first
      | with_reducible rfl
      | simp only [↓mems_ite, ↓mems_mk, mems_eta, ↓State.dropRotation_mems, ↓State.syncSpares_mems,
          ↓State.set_mems, ↓State.retireCore_mems, ite_self, implies_true, id_eq]
      | split)

theorem State.swapNext_mems (s : State) : (State.swapNext s).mems = s.mems := by
  unfold State.swapNext
  (repeat' split) <;> simp only [↓mems_ite, ↓mems_mk, mems_eta, ↓State.swapBegin_mems, ite_self, implies_true, id_eq]

theorem State.copyAgain_mems (s : State) (n : _) : (State.copyAgain s n).mems = s.mems := by
  unfold State.copyAgain
  repeat' (first
      | with_reducible rfl
      | simp only [↓mems_ite, ↓mems_mk, mems_eta, ↓State.set_mems, ↓State.swapBegin_mems, ↓mems_foldl, ↓mems_foldr,
          ite_self, implies_true, id_eq]
      | split)

theorem State.coreRetired_mems (s : State) (p : _) : (State.coreRetired s p).mems = s.mems := by
  unfold State.coreRetired
  split
  · dsimp only
    split
    · exact (State.syncSpares_mems _).trans ((State.copyAgain_mems _ _).trans (by simp only [↓State.set_mems]))
    · exact (State.syncSpares_mems _).trans (by simp only [↓State.set_mems])
  · split
    · rfl
    · simp only [↓State.swapNext_mems, ↓State.set_mems, ↓State.setCore_mems, ↓State.returnNext_mems,
        ↓State.dropRotation_mems]

theorem State.parityError_mems (s : State) (n : _) (imem : _) : (State.parityError s n imem).mems = s.mems := by
  unfold State.parityError
  (repeat' split) <;> simp only [↓mems_ite, ↓mems_mk, mems_eta, ↓State.rerun_mems, ↓State.mdlFault_mems,
      ↓State.coreRetired_mems, ↓mems_foldl, ↓mems_foldr, ite_self, implies_true, id_eq]

theorem State.repairDone_mems (s : State) : (State.repairDone s).mems = s.mems := by
  simp only [State.repairDone, ↓mems_ite, ↓mems_mk, mems_eta, ↓State.raise_mems, ↓State.set_mems,
      ↓State.setCore_mems, ↓State.swapNext_mems, ↓State.syncSpares_mems, ↓State.rerun_mems, ite_self, implies_true,
      id_eq]

theorem State.lend_mems (s : State) (n : _) (p : _) : (State.lend s n p).mems = s.mems := by
  simp only [State.lend, ↓mems_ite, ↓mems_mk, mems_eta, ↓State.syncSpares_mems, ↓State.set_mems, ite_self,
      implies_true, id_eq]

theorem State.dropLoan_mems (s : State) (n : _) : (State.dropLoan s n).mems = s.mems := by
  simp only [State.dropLoan, ↓mems_ite, ↓mems_mk, mems_eta, ↓State.set_mems, ite_self, implies_true, id_eq]

theorem State.retireBank_mems (s : State) (n : _) : (State.retireBank s n).mems = s.mems := by
  simp only [State.retireBank, ↓mems_ite, ↓mems_mk, mems_eta, ↓State.syncSpares_mems, ↓State.raise_mems,
      ↓State.set_mems, ite_self, implies_true, id_eq]

theorem State.repairLoan_mems (s : State) (n : _) : (State.repairLoan s n).mems = s.mems := by
  unfold State.repairLoan
  repeat' (first
      | with_reducible rfl
      | simp only [↓mems_ite, ↓mems_mk, mems_eta, ↓State.dropLoan_mems, ↓State.lend_mems, ↓State.set_mems,
          ↓State.retireBank_mems, ite_self, implies_true, id_eq]
      | split)

theorem State.loanNext_mems (s : State) : (State.loanNext s).mems = s.mems := by
  unfold State.loanNext
  (repeat' split) <;> simp only [↓mems_ite, ↓mems_mk, mems_eta, ↓State.repairLoan_mems, ite_self, implies_true, id_eq]

theorem State.loanEnd_mems (s : State) (n : _) : (State.loanEnd s n).mems = s.mems := by
  simp only [State.loanEnd, ↓mems_ite, ↓mems_mk, mems_eta, ↓State.set_mems, ite_self, implies_true, id_eq]

theorem State.standInFails_mems (s : State) (n : _) : (State.standInFails s n).mems = s.mems := by
  simp only [State.standInFails, ↓mems_ite, ↓mems_mk, mems_eta, ↓State.loanEnd_mems, ↓State.syncSpares_mems,
      ↓State.set_mems, ↓mems_foldl, ↓mems_foldr, ite_self, implies_true, id_eq]

theorem State.bankRepair_mems (s : State) (n : _) (test : _) : (State.bankRepair s n test).mems = s.mems := by
  simp only [State.bankRepair, ↓mems_ite, ↓mems_mk, mems_eta, ↓State.loanNext_mems, ↓State.set_mems, ↓State.flag_mems,
      ↓State.standInFails_mems, ↓mems_foldl, ↓mems_foldr, ite_self, implies_true, id_eq]

theorem State.bankFault_mems (s : State) (fault : _) (off : _) : (State.bankFault s fault off).mems = s.mems := by
  simp only [State.bankFault, ↓mems_ite, ↓mems_mk, mems_eta, ↓State.mdlFault_mems, ↓State.bankRepair_mems,
      ite_self, implies_true, id_eq]

theorem State.meetOrcWord_mems (s : State) (w : _) : (State.meetOrcWord s w).mems = s.mems := by
  simp only [State.meetOrcWord, ↓mems_ite, ↓mems_mk, mems_eta, ↓State.bump_mems, ↓State.orcUncorrectable_mems,
      ↓State.bankFault_mems, ↓mems_foldl, ↓mems_foldr, ite_self, implies_true, id_eq]

theorem State.meetOrc_mems (s : State) (off : _) (n : _) : (State.meetOrc s off n).mems = s.mems := by
  simp only [State.meetOrc, ↓mems_ite, ↓mems_mk, mems_eta, ↓State.meetOrcWord_mems, ↓mems_foldl, ↓mems_foldr, ite_self,
      implies_true, id_eq]

theorem State.meetDram_mems (s : State) (a : _) (n : _) : (State.meetDram s a n).mems = s.mems := by
  simp only [State.meetDram, ↓mems_ite, ↓mems_mk, mems_eta, ↓State.dramError_mems, ↓mems_foldl, ↓mems_foldr, ite_self,
      implies_true, id_eq]

theorem State.meetSource_mems (s : State) (dram : _) (a : _) (n : _) : (State.meetSource s dram a n).mems = s.mems := by
  simp only [State.meetSource, ↓mems_ite, ↓mems_mk, mems_eta, ↓State.meetOrc_mems, ↓State.meetDram_mems, ↓mems_foldl,
      ↓mems_foldr, ite_self, implies_true, id_eq]

theorem State.meetSources_mems (s : State) (r : _) : (State.meetSources s r).mems = s.mems := by
  simp only [State.meetSources, ↓mems_ite, ↓mems_mk, mems_eta, ↓State.meetSource_mems, ↓mems_foldl, ↓mems_foldr,
      ite_self, implies_true, id_eq]

theorem State.rerunLanded_mems (s : State) (n : _) (r : _) : (State.rerunLanded s n r).mems = s.mems := by
  simp only [State.rerunLanded, ↓mems_ite, ↓mems_mk, mems_eta, ↓State.meetSources_mems, ↓State.setCore_mems,
      ↓mems_foldl, ↓mems_foldr, ite_self, implies_true, id_eq]

theorem State.prefetchedNext_mems (s : State) (n : _) : (State.prefetchedNext s n).mems = s.mems := by
  unfold State.prefetchedNext
  repeat' (first
      | with_reducible rfl
      | refine (mems_foldl _ _ (fun s x => ?_) _).trans ?_
      | simp only [↓mems_ite, ↓mems_mk, mems_eta, ↓State.meetSources_mems, ↓State.prefetchViolation_mems,
          ↓State.setCore_mems, ↓mems_foldl, ↓mems_foldr, ite_self, implies_true, id_eq]
      | split)

theorem State.prefetched_mems (s : State) (n : _) : (State.prefetched s n).mems = s.mems := by
  unfold State.prefetched
  repeat' (first
      | with_reducible rfl
      | simp only [↓mems_ite, ↓mems_mk, mems_eta, ↓State.prefetchedNext_mems, ↓State.rerunLanded_mems, ite_self,
          implies_true, id_eq]
      | split)

theorem State.rotStart_mems (s : State) : (State.rotStart s).mems = s.mems := by
  unfold State.rotStart
  (repeat' split) <;> simp only [↓mems_ite, ↓mems_mk, mems_eta, ↓State.raise_mems, ↓State.set_mems,
      ↓State.syncSpares_mems, ite_self, implies_true, id_eq]

theorem State.rotCopied_mems (s : State) : (State.rotCopied s).mems = s.mems := by
  simp only [State.rotCopied, ↓mems_ite, ↓mems_mk, mems_eta, ↓State.set_mems, ite_self, implies_true, id_eq]

theorem State.rotSwitch_mems (s : State) : (State.rotSwitch s).mems = s.mems := by
  simp only [State.rotSwitch, ↓mems_ite, ↓mems_mk, mems_eta, ↓State.syncSpares_mems, ↓State.set_mems,
      ↓State.setCore_mems, ↓mems_foldl, ↓mems_foldr, ite_self, implies_true, id_eq]

theorem State.rotTested_mems (s : State) (pass : _) (march : _) : (State.rotTested s pass march).mems = s.mems := by
  simp only [State.rotTested, ↓mems_ite, ↓mems_mk, mems_eta, ↓State.syncSpares_mems, ↓State.syncCover_mems,
      ↓State.set_mems, ↓State.mdlFault_mems, ↓State.raise_mems, ↓State.rotStart_mems, ↓State.swapNext_mems,
          ↓mems_foldl, ↓mems_foldr, ite_self, implies_true, id_eq]

theorem State.loanBegin_mems (s : State) : (State.loanBegin s).mems = s.mems := by
  unfold State.loanBegin
  (repeat' split) <;> simp only [↓mems_ite, ↓mems_mk, mems_eta, ↓State.raise_mems, ↓State.set_mems,
      ↓State.lend_mems, ite_self, implies_true, id_eq]

theorem State.loanCopied_mems (s : State) (repair : _) : (State.loanCopied s repair).mems = s.mems := by
  simp only [State.loanCopied, ↓mems_ite, ↓mems_mk, mems_eta, ↓State.loanNext_mems, ↓State.syncSpares_mems,
      ↓State.raise_mems, ↓State.set_mems, ↓State.loanEnd_mems, ite_self, implies_true, id_eq]

theorem State.loanTested_mems (s : State) (repair : _) (pass : _) : (State.loanTested s repair pass).mems = s.mems := by
  simp only [State.loanTested, ↓mems_ite, ↓mems_mk, mems_eta, ↓State.loanEnd_mems, ↓State.loanNext_mems,
      ↓State.syncSpares_mems, ↓State.syncCover_mems, ↓State.set_mems, ↓State.mdlFault_mems, ↓State.raise_mems,
          ↓State.loanBegin_mems, ↓mems_foldl, ↓mems_foldr, ite_self, implies_true, id_eq]

theorem State.asrcReplace_mems (s : State) (c : _) (failed : _) : (State.asrcReplace s c failed).mems = s.mems := by
  unfold State.asrcReplace
  split
  · rfl
  · refine State.losing_mems _ _ _ (fun x => ?_)
    dsimp only
    split
    · exact (State.raise_mems _ _).trans ((State.syncSpares_mems _).trans (by simp only [↓State.set_mems, ↓State.flag_mems]))
    · exact (State.raise_mems _ _).trans ((State.raise_mems _ _).trans (by simp only [↓State.set_mems]))

theorem State.asrcTakeover_mems (s : State) (c : _) : (State.asrcTakeover s c).mems = s.mems := by
  simp only [State.asrcTakeover, ↓mems_ite, ↓mems_mk, mems_eta, ↓State.set_mems, ↓State.raise_mems, ite_self,
      implies_true, id_eq]

theorem State.asrcParity_mems (s : State) (c : _) (again : _) : (State.asrcParity s c again).mems = s.mems := by
  simp only [State.asrcParity, ↓mems_ite, ↓mems_mk, mems_eta, ↓State.set_mems, ↓State.mdlFault_mems,
      ↓State.asrcReplace_mems, ite_self, implies_true, id_eq]

theorem State.spareBankRetired_mems (s : State) (p : _) : (State.spareBankRetired s p).mems = s.mems := by
  unfold State.spareBankRetired
  repeat' (first
      | with_reducible rfl
      | simp only [↓mems_ite, ↓mems_mk, mems_eta, ↓State.lend_mems, ↓State.syncSpares_mems, ↓State.set_mems,
          ↓State.repairLoan_mems, ↓mems_foldl, ↓mems_foldr, ite_self, implies_true, id_eq]
      | split)

theorem State.worn_mems (s : State) (k : _) : (State.worn s k).mems = s.mems := by
  unfold State.worn
  dsimp only
  repeat' (first
      | with_reducible rfl
      | simp only [↓mems_ite, ↓mems_mk, mems_eta, ↓State.syncSpares_mems, ↓State.bankRepair_mems, ↓State.set_mems,
          ↓State.mdlFault_mems, ↓State.raise_mems, ↓State.dmsPermanent_mems, ↓State.coreRetired_mems,
          ↓State.spareBankRetired_mems, ↓State.asrcReplace_mems, ↓mems_foldl, ite_self, implies_true, id_eq]
      | split)

theorem State.ageing_mems (s : State) (k : _) (slow : _) : (State.ageing s k slow).mems = s.mems := by
  simp only [State.ageing, ↓mems_ite, ↓mems_mk, mems_eta, ↓State.set_mems, ↓State.worn_mems, ite_self,
      implies_true, id_eq]

theorem State.mdlSet_mems (s : State) (a : _) (w : _) : (State.mdlSet s a w).mems = s.mems := by
  simp only [State.mdlSet, ↓mems_ite, ↓mems_mk, mems_eta, ↓State.regStore_mems, ite_self, implies_true, id_eq]

theorem State.linkChange_mems (s : State) (up : _) (l1 : _) (width : _) (gen : _) :
    (State.linkChange s up l1 width gen).mems = s.mems := by
  simp only [State.linkChange, ↓mems_ite, ↓mems_mk, mems_eta, ↓State.set_mems, ↓State.flag_mems, ↓State.raise_mems,
      ite_self, implies_true, id_eq]

theorem State.msixFlush_mems (s : State) (v : _) : (State.msixFlush s v).mems = s.mems := by
  simp only [State.msixFlush, ↓mems_ite, ↓mems_mk, mems_eta, ↓State.set_mems, ite_self, implies_true, id_eq]

theorem State.msixPend_mems (s : State) (v : _) : (State.msixPend s v).mems = s.mems := by
  simp only [State.msixPend, ↓mems_ite, ↓mems_mk, mems_eta, ↓State.msixFlush_mems, ↓State.set_mems, ite_self,
      implies_true, id_eq]

theorem State.msixSet_mems (s : State) (a : _) (w : _) : (State.msixSet s a w).mems = s.mems := by
  simp only [State.msixSet, ↓mems_ite, ↓mems_mk, mems_eta, ↓State.msixFlush_mems, ↓State.regStore_mems, ite_self,
      implies_true, id_eq]

theorem State.ringSet_mems (s : State) (d : _) (w : _) : (State.ringSet s d w).mems = s.mems := by
  simp only [State.ringSet, ↓mems_ite, ↓mems_mk, mems_eta, ↓State.set_mems, ↓State.puts_mems, ite_self,
      implies_true, id_eq]

theorem State.ringBase_mems (s : State) (d : _) (w : _) : (State.ringBase s d w).mems = s.mems := by
  simp only [State.ringBase, ↓mems_ite, ↓mems_mk, mems_eta, ↓State.set_mems, ite_self, implies_true, id_eq]

theorem State.ringReady_mems (s : State) (j : _) : (State.ringReady s j).mems = s.mems := by
  simp only [State.ringReady, ↓mems_ite, ↓mems_mk, mems_eta, ↓State.raise_mems, ↓State.set_mems, ite_self,
      implies_true, id_eq]

theorem State.ringDue_mems (s : State) (k : _) : (State.ringDue s k).mems = s.mems := by
  simp only [State.ringDue, ↓mems_ite, ↓mems_mk, mems_eta, ↓State.set_mems, ↓State.raise_mems, ↓State.bump_mems,
      ite_self, implies_true, id_eq]

theorem State.hifSet_mems (s : State) (m : _) (a : _) (w : _) : (State.hifSet s m a w).mems = s.mems := by
  simp only [State.hifSet, ↓mems_ite, ↓mems_mk, mems_eta, ↓State.stage_mems, ↓State.ringBase_mems,
      ↓State.ringSet_mems, ↓State.msixSet_mems, ↓State.regStore_mems, ite_self, implies_true, id_eq]

theorem State.twnStatus_mems (s : State) (v : _) : (State.twnStatus s v).mems = s.mems := by
  simp only [State.twnStatus, ↓mems_ite, ↓mems_mk, mems_eta, ↓State.set_mems, ite_self, implies_true, id_eq]

theorem State.setSync_mems (s : State) (v : _) : (State.setSync s v).mems = s.mems := by
  simp only [State.setSync, ↓mems_ite, ↓mems_mk, mems_eta, ↓State.set_mems, ite_self, implies_true, id_eq]

theorem State.ownClock_mems (s : State) : (State.ownClock s).mems = s.mems := by
  unfold State.ownClock
  (repeat' split) <;> simp only [↓mems_ite, ↓mems_mk, mems_eta, ↓State.holdOver_mems, ↓State.set_mems,
      ↓State.selectRef_mems, ↓mems_foldl, ↓mems_foldr, ite_self, implies_true, id_eq]

theorem State.partnerClock_mems (s : State) : (State.partnerClock s).mems = s.mems := by
  simp only [State.partnerClock, ↓mems_ite, ↓mems_mk, mems_eta, ↓State.ppmNow_mems, ↓State.set_mems,
      ↓State.drawRef_mems, ↓mems_foldl, ↓mems_foldr, ite_self, implies_true, id_eq]

theorem State.setRole_mems (s : State) (r : _) : (State.setRole s r).mems = s.mems := by
  simp only [State.setRole, ↓mems_ite, ↓mems_mk, mems_eta, ↓State.partnerClock_mems, ↓State.set_mems,
      ↓State.raise_mems, ↓State.ownClock_mems, ↓State.reselect_mems, ↓mems_foldl, ↓mems_foldr, ite_self, implies_true,
          id_eq]

theorem State.copyStart_mems (s : State) (pass : _) : (State.copyStart s pass).mems = s.mems := by
  simp only [State.copyStart, ↓mems_ite, ↓mems_mk, mems_eta, ↓State.set_mems, ↓mems_foldl, ↓mems_foldr, ite_self,
      implies_true, id_eq]

theorem State.standbyStop_mems (s : State) : (State.standbyStop s).mems = s.mems := by
  simp only [State.standbyStop, ↓mems_ite, ↓mems_mk, mems_eta, ↓State.phFlush_mems, ↓State.set_mems,
      ↓State.setEngine_mems, ↓State.silenceAll_mems, ↓mems_foldl, ↓mems_foldr, ite_self, implies_true, id_eq]

theorem State.resyncStart_mems (s : State) : (State.resyncStart s).mems = s.mems := by
  simp only [State.resyncStart, ↓mems_ite, ↓mems_mk, mems_eta, ↓State.copyStart_mems, ↓State.setSync_mems,
      ↓State.standbyStop_mems, ↓State.set_mems, ↓State.raise_mems, ↓mems_foldl, ↓mems_foldr, ite_self, implies_true,
          id_eq]

theorem State.becomeStandby_mems (s : State) : (State.becomeStandby s).mems = s.mems := by
  simp only [State.becomeStandby, ↓mems_ite, ↓mems_mk, mems_eta, ↓State.resyncStart_mems, ↓State.setRole_mems,
      ite_self, implies_true, id_eq]

theorem State.partnerFound_mems (s : State) (p : _) (same : _) : (State.partnerFound s p same).mems = s.mems := by
  unfold State.partnerFound
  (repeat' split) <;> simp only [↓mems_ite, ↓mems_mk, mems_eta, ↓State.becomeStandby_mems, ↓State.setRole_mems,
      ↓State.set_mems, ↓State.flag_mems, ↓State.resyncStart_mems, ↓mems_foldl, ↓mems_foldr, ite_self, implies_true,
          id_eq]

theorem State.bootwaitEnd_mems (s : State) (hb : _) : (State.bootwaitEnd s hb).mems = s.mems := by
  simp only [State.bootwaitEnd, ↓mems_ite, ↓mems_mk, mems_eta, ↓State.setRole_mems, ite_self, implies_true, id_eq]

theorem State.syncLink_mems (s : State) : (State.syncLink s).mems = s.mems := by
  simp only [State.syncLink, ↓mems_ite, ↓mems_mk, mems_eta, ↓State.set_mems, ite_self, implies_true, id_eq]

theorem State.laneBit_mems (s : State) (l : _) (b : _) : (State.laneBit s l b).mems = s.mems := by
  simp only [State.laneBit, ↓mems_ite, ↓mems_mk, mems_eta, ↓State.syncLink_mems, ↓State.set_mems, ↓State.losing_mems,
      ↓mems_foldl, ↓mems_foldr, ite_self, implies_true, id_eq]

theorem State.laneSet_mems (s : State) (l : _) (w : _) : (State.laneSet s l w).mems = s.mems := by
  simp only [State.laneSet, ↓mems_ite, ↓mems_mk, mems_eta, ↓State.twnStatus_mems, ↓State.enableWrite_mems,
      ↓State.set_mems, ↓State.laneBit_mems, ite_self, implies_true, id_eq]

theorem State.laneOn_mems (s : State) (l : _) : (State.laneOn s l).mems = s.mems := by
  simp only [State.laneOn, ↓mems_ite, ↓mems_mk, mems_eta, ↓State.laneBit_mems, ↓State.raise_mems,
      ↓State.startDone_mems, ↓mems_foldl, ↓mems_foldr, ite_self, implies_true, id_eq]

theorem State.laneRetire_mems (s : State) (l : _) : (State.laneRetire s l).mems = s.mems := by
  simp only [State.laneRetire, ↓mems_ite, ↓mems_mk, mems_eta, ↓State.raise_mems, ↓State.bump_mems,
      ↓State.laneBit_mems, ↓State.set_mems, ite_self, implies_true, id_eq]

theorem State.sendControl_mems (s : State) (kind : _) (seq : _) (ws : _) : (State.sendControl s kind seq ws).mems =
    s.mems := by
  simp only [State.sendControl, ↓mems_ite, ↓mems_mk, mems_eta, ↓mems_foldl, ↓mems_foldr, ite_self, implies_true, id_eq]

theorem State.ackTx_mems (s : State) (seq : _) (k : _) : (State.ackTx s seq k).mems = s.mems := by
  unfold State.ackTx
  (repeat' split) <;> simp only [↓mems_ite, ↓mems_mk, mems_eta, ↓State.sendControl_mems, ↓State.set_mems, ↓mems_foldl,
      ↓mems_foldr, ite_self, implies_true, id_eq]

theorem State.received_mems (s : State) (seq : _) (crcOk : _) (k : _) (eff : State → State) (heff : ∀ (x0 : State),
    (eff x0).mems = x0.mems) : (State.received s seq crcOk k eff).mems = s.mems := by
  simp only [State.received, ↓mems_ite, ↓mems_mk, mems_eta, ↓State.bump_mems, ↓State.ackTx_mems,
      ↓State.sendControl_mems, ↓State.set_mems, ↓mems_foldl, ↓mems_foldr, ↓heff, ite_self, implies_true, id_eq]

theorem State.partnerLost_mems (s : State) : (State.partnerLost s).mems = s.mems := by
  simp only [State.partnerLost, ↓mems_ite, ↓mems_mk, mems_eta, ↓State.raise_mems, ↓State.setSync_mems,
      ↓State.set_mems, ite_self, implies_true, id_eq]

theorem State.resend_mems (s : State) (seq : _) : (State.resend s seq).mems = s.mems := by
  unfold State.resend
  (repeat' split) <;> simp only [↓mems_ite, ↓mems_mk, mems_eta, ↓State.partnerLost_mems, ite_self, implies_true,
      id_eq]

theorem State.sendWaiting_mems (s : State) : (State.sendWaiting s).mems = s.mems := by
  unfold State.sendWaiting
  (repeat' split) <;> simp only [↓mems_ite, ↓mems_mk, mems_eta, ↓State.set_mems, ↓State.sendFrame_mems, ite_self,
      implies_true, id_eq]

theorem State.credited_mems (s : State) (k : _) : (State.credited s k).mems = s.mems := by
  simp only [State.credited, ↓mems_ite, ↓mems_mk, mems_eta, ↓State.set_mems, ↓State.sendWaiting_mems, ↓mems_foldl,
      ↓mems_foldr, ite_self, implies_true, id_eq]

theorem State.ackRx_mems (s : State) (seq : _) (crcOk : _) (credits : _) : (State.ackRx s seq crcOk credits).mems =
    s.mems := by
  simp only [State.ackRx, ↓mems_ite, ↓mems_mk, mems_eta, ↓State.bump_mems, ↓State.set_mems, ↓State.credited_mems,
      ↓mems_foldl, ↓mems_foldr, ite_self, implies_true, id_eq]

theorem State.nakRx_mems (s : State) (seq : _) (crcOk : _) : (State.nakRx s seq crcOk).mems = s.mems := by
  simp only [State.nakRx, ↓mems_ite, ↓mems_mk, mems_eta, ↓State.bump_mems, ↓State.resend_mems, ↓mems_foldl,
      ite_self, implies_true, id_eq]

theorem State.mirrorRx_mems (s : State) (tick : _) (seq : _) (item : _) :
    (State.mirrorRx s tick seq item).mems = s.mems := by
  simp only [State.mirrorRx, ↓mems_ite, ↓mems_mk, mems_eta, ite_self, implies_true, id_eq]

theorem State.compareCrc_mems (s : State) (blk : _) (own : _) (partner : _) :
    (State.compareCrc s blk own partner).mems = s.mems := by
  simp only [State.compareCrc, ↓mems_ite, ↓mems_mk, mems_eta, ↓State.set_mems, ↓State.setSync_mems,
      ↓State.raise_mems, ↓State.resyncStart_mems, ↓State.bump_mems, ite_self, implies_true, id_eq]

theorem State.statusRx_mems (s : State) (blk : _) (crc : _) : (State.statusRx s blk crc).mems = s.mems := by
  unfold State.statusRx
  repeat' (first
      | with_reducible rfl
      | simp only [↓mems_ite, ↓mems_mk, mems_eta, ↓State.set_mems, ↓State.compareCrc_mems, ite_self, implies_true,
          id_eq]
      | split)

theorem State.keepCrc_mems (s : State) (blk : _) : (State.keepCrc s blk).mems = s.mems := by
  simp only [State.keepCrc, ↓mems_ite, ↓mems_mk, mems_eta, ite_self, implies_true, id_eq]

theorem State.reportCrc_mems (s : State) (blk : _) : (State.reportCrc s blk).mems = s.mems := by
  unfold State.reportCrc
  (repeat' split) <;> simp only [↓mems_ite, ↓mems_mk, mems_eta, ↓State.sendFrame_mems, ↓State.compareCrc_mems,
      ite_self, implies_true, id_eq]

theorem State.statusMissing_mems (s : State) : (State.statusMissing s).mems = s.mems := by
  simp only [State.statusMissing, ↓mems_ite, ↓mems_mk, mems_eta, ↓State.set_mems, ↓State.setSync_mems, ite_self,
      implies_true, id_eq]

theorem State.poke_mems (s : State) (addr : _) (w : _) : (State.poke s addr w).mems = s.mems := by
  unfold State.poke
  (repeat' split) <;> simp only [↓mems_ite, ↓mems_mk, mems_eta, ↓State.set_mems, ↓State.prmSet_mems,
      ↓State.put_mems, ↓mems_foldl, ite_self, implies_true, id_eq]

theorem State.audioRx_mems (s : State) (blk : _) (c : _) (xs : _) : (State.audioRx s blk c xs).mems = s.mems := by
  simp only [State.audioRx, ↓mems_ite, ↓mems_mk, mems_eta, ↓State.set_mems, ↓mems_foldl, ↓mems_foldr, ite_self,
      implies_true, id_eq]

theorem State.audioDrop_mems (s : State) : (State.audioDrop s).mems = s.mems := by
  simp only [State.audioDrop, ↓mems_ite, ↓mems_mk, mems_eta, ↓State.set_mems, ↓mems_foldl, ↓mems_foldr, ite_self,
      implies_true, id_eq]

theorem State.audioSend_mems (s : State) (blk : _) : (State.audioSend s blk).mems = s.mems := by
  simp only [State.audioSend, ↓mems_ite, ↓mems_mk, mems_eta, ↓State.sendFrame_mems, ↓mems_foldl, ite_self,
      implies_true, id_eq]

theorem State.copyDone_mems (s : State) : (State.copyDone s).mems = s.mems := by
  simp only [State.copyDone, ↓mems_ite, ↓mems_mk, mems_eta, ↓State.set_mems, ite_self, implies_true, id_eq]

theorem State.resyncEngine_mems (s : State) : (State.resyncEngine s).mems = s.mems := by
  simp only [State.resyncEngine, ↓mems_ite, ↓mems_mk, mems_eta, ↓State.set_mems, ↓State.engineStart_mems, ite_self,
      implies_true, id_eq]

theorem State.resyncAgain_mems (s : State) : (State.resyncAgain s).mems = s.mems := by
  simp only [State.resyncAgain, ↓mems_ite, ↓mems_mk, mems_eta, ↓State.resyncStart_mems, ↓State.bump_mems, ite_self,
      implies_true, id_eq]

theorem State.hbTick_mems (s : State) : (State.hbTick s).mems = s.mems := by
  simp only [State.hbTick, ↓mems_ite, ↓mems_mk, mems_eta, ↓State.set_mems, ite_self, implies_true, id_eq]

theorem State.hbSample_mems (s : State) (level : _) : (State.hbSample s level).mems = s.mems := by
  simp only [State.hbSample, ↓mems_ite, ↓mems_mk, mems_eta, ↓State.flag_mems, ↓State.tmFire_mems, ↓mems_foldl,
      ↓mems_foldr, ite_self, implies_true, id_eq]

theorem State.takeover_mems (s : State) : (State.takeover s).mems = s.mems := by
  simp only [State.takeover, ↓mems_ite, ↓mems_mk, mems_eta, ↓State.becomeStandby_mems, ↓State.set_mems,
      ↓State.setSync_mems, ↓State.setRole_mems, ↓State.raise_mems, ite_self, implies_true, id_eq]

theorem State.handoverRx_mems (s : State) : (State.handoverRx s).mems = s.mems := by
  simp only [State.handoverRx, ↓mems_ite, ↓mems_mk, mems_eta, ↓State.set_mems, ite_self, implies_true, id_eq]

theorem State.pairOff_mems (s : State) : (State.pairOff s).mems = s.mems := by
  simp only [State.pairOff, ↓mems_ite, ↓mems_mk, mems_eta, ↓State.syncLink_mems, ↓State.setSync_mems,
      ↓State.setRole_mems, ↓State.set_mems, ↓State.losing_mems, ↓mems_foldl, ↓mems_foldr, ite_self, implies_true, id_eq]

theorem State.twnEnable_mems (s : State) (want : _) : (State.twnEnable s want).mems = s.mems := by
  simp only [State.twnEnable, ↓mems_ite, ↓mems_mk, mems_eta, ↓State.syncLink_mems, ↓State.pairOff_mems,
      ↓State.set_mems, ↓mems_foldl, ↓mems_foldr, ite_self, implies_true, id_eq]

theorem State.twnSet_mems (s : State) (w : _) : (State.twnSet s w).mems = s.mems := by
  simp only [State.twnSet, ↓mems_ite, ↓mems_mk, mems_eta, ↓State.puts_mems, ↓State.sendFrame_mems, ↓State.set_mems,
      ↓State.twnStatus_mems, ↓State.resyncStart_mems, ↓State.twnEnable_mems, ↓mems_foldl, ↓mems_foldr, ite_self,
          implies_true, id_eq]

theorem State.wdogSet_mems (s : State) (m : _) (w : _) : (State.wdogSet s m w).mems = s.mems := by
  simp only [State.wdogSet, ↓mems_ite, ↓mems_mk, mems_eta, ↓State.twnStatus_mems, ↓State.put_mems, ↓State.set_mems,
      ite_self, implies_true, id_eq]

theorem State.twnPlain_mems (s : State) (a : _) (w : _) : (State.twnPlain s a w).mems = s.mems := by
  simp only [State.twnPlain, ↓mems_ite, ↓mems_mk, mems_eta, ↓State.plainStore_mems, ↓State.twnStatus_mems, ↓mems_foldl,
      ↓mems_foldr, ite_self, implies_true, id_eq]

theorem State.setFlash_mems (s : State) (f : _) : (State.setFlash s f).mems = s.mems := by
  simp only [State.setFlash, ↓mems_ite, ↓mems_mk, mems_eta, ite_self, implies_true, id_eq]

theorem State.enterRecovery_mems (s : State) : (State.enterRecovery s).mems = s.mems := by
  simp only [State.enterRecovery, ↓mems_ite, ↓mems_mk, mems_eta, ↓State.say_mems, ↓State.set_mems, ite_self,
      implies_true, id_eq]

theorem State.selectSlot_mems (s : State) : (State.selectSlot s).mems = s.mems := by
  unfold State.selectSlot
  (repeat' split) <;> simp only [↓mems_ite, ↓mems_mk, mems_eta, ↓State.set_mems, ↓State.flag_mems,
      ↓State.setFlash_mems, ↓State.enterRecovery_mems, ite_self, implies_true, id_eq]

theorem State.bootDamson_mems (s : State) (body : _) (n : _) : (State.bootDamson s body n).mems = s.mems := by
  simp only [State.bootDamson, ↓mems_ite, ↓mems_mk, mems_eta, ↓State.dmsSpanSet_mems, ↓State.dmsPlain_mems,
      ↓State.dmsCtrlSet_mems, ite_self, implies_true, id_eq]

theorem State.bootRecord_mems (s : State) : (State.bootRecord s).mems = s.mems := by
  simp only [State.bootRecord, ↓mems_ite, ↓mems_mk, mems_eta, ↓State.set_mems, ↓State.dmsCtrlSet_mems,
      ↓State.bootDamson_mems, ↓State.refpriSet_mems, ↓State.regStore_mems, ↓State.dmcCfgSet_mems,
      ↓State.clkCtrlSet_mems, ↓mems_foldl, ite_self, implies_true, id_eq]

theorem State.bootSteps_mems (s : State) : (State.bootSteps s).mems = s.mems := by
  simp only [State.bootSteps, ↓mems_ite, ↓mems_mk, mems_eta, ↓State.selectSlot_mems, ↓State.dmsCtrlSet_mems,
      ↓State.dmcSet_mems, ↓State.set_mems, ↓State.bootRecord_mems, ↓mems_foldl, ite_self, implies_true, id_eq]

theorem State.release_mems (s : State) (boot : _) : (State.release s boot).mems = s.mems := by
  simp only [State.release, ↓mems_ite, ↓mems_mk, mems_eta, ↓State.set_mems, ↓State.flag_mems,
      ↓State.dmsCtrlSet_mems, ↓State.enterRecovery_mems, ↓State.bootSteps_mems, ↓mems_foldl, ite_self,
      implies_true, id_eq]

theorem State.digestsChecked_mems (s : State) (good : _) : (State.digestsChecked s good).mems = s.mems := by
  simp only [State.digestsChecked, ↓mems_ite, ↓mems_mk, mems_eta, ↓State.set_mems, ↓State.selectSlot_mems,
      ↓State.setFlash_mems, ↓State.bootRecord_mems, ite_self, implies_true, id_eq]

theorem State.recoveryCheck_mems (s : State) (held : _) (inTime : _) (sync : _) :
    (State.recoveryCheck s held inTime sync).mems = s.mems := by
  simp only [State.recoveryCheck, ↓mems_ite, ↓mems_mk, mems_eta, ↓State.set_mems, ↓State.enterRecovery_mems,
      ite_self, implies_true, id_eq]

theorem State.firmwareRuns_mems (s : State) : (State.firmwareRuns s).mems = s.mems := by
  simp only [State.firmwareRuns, ↓mems_ite, ↓mems_mk, mems_eta, ↓State.uCtrlSet_mems, ↓State.setCore_mems,
      ↓State.set_mems, ↓State.raise_mems, ↓State.say_mems, ite_self, implies_true, id_eq]

theorem State.pwrSet_mems (s : State) (m : _) (w : _) : (State.pwrSet s m w).mems = s.mems := by
  simp only [State.pwrSet, ↓mems_ite, ↓mems_mk, mems_eta, ↓State.set_mems, ↓State.regStore_mems, ite_self,
      implies_true, id_eq]

theorem State.standbyOn_mems (s : State) : (State.standbyOn s).mems = s.mems := by
  simp only [State.standbyOn, ↓mems_ite, ↓mems_mk, mems_eta, ↓State.linkChange_mems, ↓State.set_mems, ↓mems_foldl,
      ↓mems_foldr, ite_self, implies_true, id_eq]

theorem State.wakeSrc_mems (s : State) (src : _) : (State.wakeSrc s src).mems = s.mems := by
  unfold State.wakeSrc
  (repeat' split) <;> simp only [↓mems_ite, ↓mems_mk, mems_eta, ↓State.flag_mems, ite_self, implies_true, id_eq]

theorem State.uEdge_mems (s : State) (n : _) : (State.uEdge s n).mems = s.mems := by
  simp only [State.uEdge, ↓mems_ite, ↓mems_mk, mems_eta, ↓State.uStart_mems, ↓State.set_mems, ↓mems_foldl, ↓mems_foldr,
      ite_self, implies_true, id_eq]

theorem State.wakeBy_mems (s : State) (src : _) : (State.wakeBy s src).mems = s.mems := by
  unfold State.wakeBy
  repeat' (first
      | with_reducible rfl
      | refine (mems_foldl _ _ (fun s x => ?_) _).trans ?_
      | simp only [↓mems_ite, ↓mems_mk, mems_eta, ↓State.enterAcquire_mems, ↓State.uEdge_mems, ↓State.set_mems,
          ↓State.raiseCause_mems, ↓State.wakeSrc_mems, ↓mems_foldl, ↓mems_foldr, ite_self, implies_true, id_eq]
      | split)

theorem State.coreViolation_mems (s : State) (n : _) (kind : _) (addr : _) (chan : _) :
    (State.coreViolation s n kind addr chan).mems = s.mems := by
  simp only [State.coreViolation, ↓mems_ite, ↓mems_mk, mems_eta, ↓State.freezeCore_mems, ↓State.setCore_mems,
      ite_self, implies_true, id_eq]

theorem State.resumeCore_mems (s : State) (n : _) : (State.resumeCore s n).mems = s.mems := by
  unfold State.resumeCore
  (repeat' split) <;> simp only [↓mems_ite, ↓mems_mk, mems_eta, ↓State.setCore_mems, ite_self, implies_true, id_eq]

theorem State.endPip_mems (s : State) (r : _) : (State.endPip s r).mems = s.mems := by
  unfold State.endPip
  (repeat' split) <;> simp only [↓mems_ite, ↓mems_mk, mems_eta, ↓State.set_mems, ↓State.refreshEvent_mems,
      ite_self, implies_true, id_eq]

theorem State.abandonCore_mems (s : State) (n : _) : (State.abandonCore s n).mems = s.mems := by
  unfold State.abandonCore
  repeat' (first
      | with_reducible rfl
      | simp only [↓mems_ite, ↓mems_mk, mems_eta, ↓State.setCore_mems, ↓State.setHeld_mems, ↓State.endPip_mems,
          ite_self, implies_true, id_eq]
      | split)

theorem State.unfreezeCore_mems (s : State) (n : _) (action : _) : (State.unfreezeCore s n action).mems = s.mems := by
  simp only [State.unfreezeCore, ↓mems_ite, ↓mems_mk, mems_eta, ↓State.abandonCore_mems, ↓State.resumeCore_mems,
      ite_self, implies_true, id_eq]

theorem State.unfreezeStatus_mems (s : State) (v : _) : (State.unfreezeStatus s v).mems = s.mems := by
  simp only [State.unfreezeStatus, ↓mems_ite, ↓mems_mk, mems_eta, ↓State.set_mems, ite_self, implies_true, id_eq]

theorem State.unfreezeMaster_mems (s : State) (m : _) (action : _) :
    (State.unfreezeMaster s m action).mems = s.mems := by
  unfold State.unfreezeMaster
  repeat' (first
      | with_reducible rfl
      | simp only [↓mems_ite, ↓mems_mk, mems_eta, ↓State.setFrozen_mems, ↓State.unfreezeCore_mems,
          ↓State.resumeCore_mems, ite_self, implies_true, id_eq]
      | split)

theorem State.unfreezeSet_mems (s : State) (m : _) (w : _) : (State.unfreezeSet s m w).mems = s.mems := by
  simp only [State.unfreezeSet, ↓mems_ite, ↓mems_mk, mems_eta, ↓State.unfreezeStatus_mems,
      ↓State.unfreezeMaster_mems, ite_self, implies_true, id_eq]

theorem State.gpEdge_mems (s : State) (n : _) (rising : _) : (State.gpEdge s n rising).mems = s.mems := by
  simp only [State.gpEdge, ↓mems_ite, ↓mems_mk, mems_eta, ↓State.notify_mems, ↓State.set_mems, ite_self,
      implies_true, id_eq]

theorem State.gpChanged_mems (s : State) (n : _) (was : _) : (State.gpChanged s n was).mems = s.mems := by
  simp only [State.gpChanged, ↓mems_ite, ↓mems_mk, mems_eta, ↓State.flag_mems, ↓State.gpEdge_mems, ite_self,
      implies_true, id_eq]

theorem State.gpSet_mems (s : State) (n : _) (w : _) : (State.gpSet s n w).mems = s.mems := by
  simp only [State.gpSet, ↓mems_ite, ↓mems_mk, mems_eta, ↓State.set_mems, ↓State.withClaims_mems,
      ↓State.gpChanged_mems, ↓State.puts_mems, ↓State.unclaim_mems, ite_self, implies_true, id_eq]

theorem State.gpOutside_mems (s : State) (n : _) (rising : _) : (State.gpOutside s n rising).mems = s.mems := by
  simp only [State.gpOutside, ↓mems_ite, ↓mems_mk, mems_eta, ↓State.gpEdge_mems, ↓State.flag_mems, ite_self,
      implies_true, id_eq]

theorem State.jtagIr_mems (s : State) (k : _) : (State.jtagIr s k).mems = s.mems := by
  simp only [State.jtagIr, ↓mems_ite, ↓mems_mk, mems_eta, ↓State.set_mems, ite_self, implies_true, id_eq]

theorem State.cfgStatus_mems (s : State) (st : _) (reason : _) : (State.cfgStatus s st reason).mems = s.mems := by
  simp only [State.cfgStatus, ↓mems_ite, ↓mems_mk, mems_eta, ↓State.set_mems, ite_self, implies_true, id_eq]

theorem State.cfgOk_mems (s : State) : (State.cfgOk s).mems = s.mems := by
  simp only [State.cfgOk, ↓mems_ite, ↓mems_mk, mems_eta, ↓State.cfgStatus_mems, ite_self, implies_true, id_eq]

theorem State.setGraft_mems (s : State) (g : _) : (State.setGraft s g).mems = s.mems := by
  simp only [State.setGraft, ↓mems_ite, ↓mems_mk, mems_eta, ite_self, implies_true, id_eq]

theorem State.sendChain_mems (s : State) (type : _) (hop : _) (up : _) (bs : _) :
    (State.sendChain s type hop up bs).mems = s.mems := by
  simp only [State.sendChain, ↓mems_ite, ↓mems_mk, mems_eta, ↓State.setGraft_mems, ite_self, implies_true, id_eq]

theorem State.asHolder_mems (s : State) (m : _) (go : _) (hgo : ∀ x, (go x).mems = x.mems) :
    (State.asHolder s m go).mems = s.mems := by
  simp only [State.asHolder, ↓mems_ite, ↓mems_mk, mems_eta, ↓State.cfgStatus_mems, ↓hgo, ite_self, implies_true,
      id_eq]

theorem State.sessBegin_mems (s : State) (m : _) (src : _) : (State.sessBegin s m src).mems = s.mems := by
  simp only [State.sessBegin, ↓mems_ite, ↓mems_mk, mems_eta, ↓State.raise_mems, ↓State.cfgOk_mems, ↓State.set_mems,
      ↓State.setGraft_mems, ↓State.sendChain_mems, ite_self, implies_true, id_eq]

theorem State.sessOpen_mems (s : State) (m : _) (chain : _) : (State.sessOpen s m chain).mems = s.mems := by
  simp only [State.sessOpen, ↓mems_ite, ↓mems_mk, mems_eta, ↓State.cfgStatus_mems, ↓State.sessBegin_mems, ite_self,
      implies_true, id_eq]

theorem State.putSlot_mems (s : State) (k : _) (x : _) : (State.putSlot s k x).mems = s.mems := by
  simp only [State.putSlot, ↓mems_ite, ↓mems_mk, mems_eta, ↓State.setFlash_mems, ite_self, implies_true, id_eq]

theorem State.stageDrop_mems (s : State) (st : _) : (State.stageDrop s st).mems = s.mems := by
  simp only [State.stageDrop, ↓mems_ite, ↓mems_mk, mems_eta, ↓State.putSlot_mems, ↓State.set_mems,
      ↓State.setGraft_mems, ite_self, implies_true, id_eq]

theorem State.tellPartner_mems (s : State) : (State.tellPartner s).mems = s.mems := by
  simp only [State.tellPartner, ↓mems_ite, ↓mems_mk, mems_eta, ↓State.sendFrame_mems, ite_self, implies_true, id_eq]

theorem State.tellChain_mems (s : State) (st : _) (reason : _) : (State.tellChain s st reason).mems = s.mems := by
  simp only [State.tellChain, ↓mems_ite, ↓mems_mk, mems_eta, ↓State.sendChain_mems, ↓State.set_mems, ite_self,
      implies_true, id_eq]

theorem State.stageFail_mems (s : State) (st : _) (reason : _) : (State.stageFail s st reason).mems = s.mems := by
  simp only [State.stageFail, ↓mems_ite, ↓mems_mk, mems_eta, ↓State.tellChain_mems, ↓State.tellPartner_mems,
      ↓State.raise_mems, ↓State.cfgStatus_mems, ↓State.set_mems, ↓State.stageDrop_mems, ite_self, implies_true, id_eq]

theorem State.stageDone_mems (s : State) (m : _) : (State.stageDone s m).mems = s.mems := by
  simp only [State.stageDone, ↓mems_ite, ↓mems_mk, mems_eta, ↓State.putSlot_mems, ↓State.tellChain_mems,
      ↓State.tellPartner_mems, ↓State.raise_mems, ↓State.set_mems, ↓State.setGraft_mems, ite_self, implies_true,
      id_eq]

theorem State.stageSteps_mems (x0 : _) (x1 : State) : (State.stageSteps x0 x1).mems = x1.mems := by
  induction x0 generalizing x1 with
  | zero => rfl
  | succ k ih =>
    unfold State.stageSteps
    simp only [↓mems_ite, ↓ih, ↓State.set_mems, ↓State.putSlot_mems, ↓State.stageDone_mems, ↓State.stageFail_mems,
      ↓State.sendFrame_mems, ↓State.setGraft_mems, ite_self]
    (repeat' split) <;> simp only [↓mems_ite, ↓ih, ↓State.set_mems, ↓State.putSlot_mems, ↓State.stageDone_mems,
        ↓State.stageFail_mems,
      ↓State.sendFrame_mems, ↓State.setGraft_mems, ite_self]

theorem State.stageBytes_mems (s : State) (bs : _) : (State.stageBytes s bs).mems = s.mems := by
  simp only [State.stageBytes, ↓mems_ite, ↓mems_mk, mems_eta, ↓State.set_mems, ↓State.setGraft_mems,
      ↓State.stageSteps_mems, ite_self, implies_true, id_eq]

theorem State.sendData_mems (x0 : _) (x1 : _) (x2 : State) : (State.sendData x0 x1 x2).mems = x2.mems := by
  induction x0 generalizing x1 x2 with
  | zero => rfl
  | succ k ih =>
    unfold State.sendData
    simp only [↓mems_ite, ih, ↓State.sendChain_mems, ite_self]

theorem State.xferSet_mems (s : State) (m : _) (w : _) : (State.xferSet s m w).mems = s.mems := by
  simp only [State.xferSet, ↓mems_ite, ↓mems_mk, mems_eta, ↓State.asHolder_mems, ↓State.setGraft_mems, ↓State.set_mems,
      ↓State.meetOrc_mems, ↓State.cfgStatus_mems, ↓State.put_mems, ↓State.cfgOk_mems, ↓mems_foldl, ↓mems_foldr,
          ite_self, implies_true, id_eq]

theorem State.pieceDone_mems (s : State) : (State.pieceDone s).mems = s.mems := by
  unfold State.pieceDone
  have h : (s.takePiece).2.mems = s.mems := by
    unfold State.takePiece
    repeat' (first | with_reducible rfl | simp only [↓State.set_mems, ↓State.meetOrc_mems] | split)
  split
  · rfl
  · generalize s.takePiece = p at h ⊢
    obtain ⟨bs, t⟩ := p
    dsimp only at h ⊢
    simp only [↓State.stageBytes_mems, ↓mems_ite, ↓State.sendData_mems, ↓State.set_mems, ↓State.setGraft_mems, h,
      ite_self]

theorem State.armNow_mems (s : State) : (State.armNow s).mems = s.mems := by
  simp only [State.armNow, ↓mems_ite, ↓mems_mk, mems_eta, ↓State.raise_mems, ↓State.cfgOk_mems, ↓State.set_mems,
      ↓State.sendFrame_mems, ↓State.sendChain_mems, ite_self, implies_true, id_eq]

theorem State.actArm_mems (s : State) : (State.actArm s).mems = s.mems := by
  unfold State.actArm
  (repeat' split) <;> simp only [↓mems_ite, ↓mems_mk, mems_eta, ↓State.cfgStatus_mems, ↓State.set_mems,
      ↓State.armNow_mems, ite_self, implies_true, id_eq]

theorem State.actDisarm_mems (s : State) : (State.actDisarm s).mems = s.mems := by
  simp only [State.actDisarm, ↓mems_ite, ↓mems_mk, mems_eta, ↓State.sendFrame_mems, ↓State.cfgOk_mems,
      ↓State.set_mems, ite_self, implies_true, id_eq]

theorem State.actSet_mems (s : State) (m : _) (w : _) : (State.actSet s m w).mems = s.mems := by
  simp only [State.actSet, ↓mems_ite, ↓mems_mk, mems_eta, ↓State.asHolder_mems, ↓State.cfgStatus_mems,
      ↓State.actArm_mems, ↓State.actDisarm_mems, ↓State.cfgOk_mems, ite_self, implies_true, id_eq]

theorem State.actDrop_mems (s : State) (reason : _) : (State.actDrop s reason).mems = s.mems := by
  simp only [State.actDrop, ↓mems_ite, ↓mems_mk, mems_eta, ↓State.raise_mems, ↓State.set_mems,
      ↓State.sendChain_mems, ite_self, implies_true, id_eq]

theorem State.sessEnd_mems (s : State) : (State.sessEnd s).mems = s.mems := by
  simp only [State.sessEnd, ↓mems_ite, ↓mems_mk, mems_eta, ↓State.stageDrop_mems, ↓State.actDisarm_mems,
      ↓State.raise_mems, ↓State.set_mems, ite_self, implies_true, id_eq]

theorem State.sessClose_mems (s : State) (m : _) : (State.sessClose s m).mems = s.mems := by
  simp only [State.sessClose, ↓mems_ite, ↓mems_mk, mems_eta, ↓State.cfgOk_mems, ↓State.cfgStatus_mems,
      ↓State.sessEnd_mems, ite_self, implies_true, id_eq]

theorem State.sessSet_mems (s : State) (m : _) (chain : _) (w : _) : (State.sessSet s m chain w).mems = s.mems := by
  simp only [State.sessSet, ↓mems_ite, ↓mems_mk, mems_eta, ↓State.cfgStatus_mems, ↓State.sessOpen_mems,
      ↓State.sessClose_mems, ↓State.cfgOk_mems, ite_self, implies_true, id_eq]

theorem State.revoke_mems (s : State) (m : _) : (State.revoke s m).mems = s.mems := by
  simp only [State.revoke, ↓mems_ite, ↓mems_mk, mems_eta, ↓State.set_mems, ↓mems_foldl, ite_self, implies_true, id_eq]

theorem State.commitNow_mems (s : State) : (State.commitNow s).mems = s.mems := by
  simp only [State.commitNow, ↓mems_ite, ↓mems_mk, mems_eta, ↓State.putSlot_mems, ↓State.raise_mems,
      ↓State.set_mems, ↓State.revoke_mems, ite_self, implies_true, id_eq]

theorem State.tellHealthy_mems (s : State) : (State.tellHealthy s).mems = s.mems := by
  simp only [State.tellHealthy, ↓mems_ite, ↓mems_mk, mems_eta, ↓State.sendFrame_mems, ↓mems_foldl, ↓mems_foldr,
      ite_self, implies_true, id_eq]

theorem State.healthy_mems (s : State) : (State.healthy s).mems = s.mems := by
  simp only [State.healthy, ↓mems_ite, ↓mems_mk, mems_eta, ↓State.set_mems, ↓State.cfgOk_mems, ↓State.tellHealthy_mems,
      ↓State.commitNow_mems, ↓State.sendChain_mems, ↓mems_foldl, ↓mems_foldr, ite_self, implies_true, id_eq]

theorem State.trialCommit_mems (s : State) : (State.trialCommit s).mems = s.mems := by
  simp only [State.trialCommit, ↓mems_ite, ↓mems_mk, mems_eta, ↓State.cfgStatus_mems, ↓State.cfgOk_mems,
      ↓State.commitNow_mems, ↓State.sendChain_mems, ite_self, implies_true, id_eq]

theorem State.loadOwner_mems (s : State) (body : _) : (State.loadOwner s body).mems = s.mems := by
  simp only [State.loadOwner, ↓mems_ite, ↓mems_mk, mems_eta, ↓State.set_mems, ↓mems_foldl, ite_self, implies_true,
      id_eq]

theorem State.settingsWrite_mems (s : State) (format : _) (body : _) (ok : _) :
    (State.settingsWrite s format body ok).mems = s.mems := by
  simp only [State.settingsWrite, ↓mems_ite, ↓mems_mk, mems_eta, ↓State.set_mems, ↓State.setFlash_mems,
      ↓State.flag_mems, ↓State.loadOwner_mems, ite_self, implies_true, id_eq]

theorem State.ownerEntry_mems (s : State) (ds : _) : (State.ownerEntry s ds).mems = s.mems := by
  unfold State.ownerEntry
  (repeat' split) <;> simp only [↓mems_ite, ↓mems_mk, mems_eta, ↓State.cfgStatus_mems, ↓State.cfgOk_mems,
      ↓State.set_mems, ↓State.bump_mems, ite_self, implies_true, id_eq]

theorem State.optSet_mems (s : State) (w : _) : (State.optSet s w).mems = s.mems := by
  simp only [State.optSet, ↓mems_ite, ↓mems_mk, mems_eta, ↓State.cfgOk_mems, ↓State.put_mems,
      ↓State.cfgStatus_mems, ite_self, implies_true, id_eq]

theorem State.updateRx_mems (s : State) (bs : _) : (State.updateRx s bs).mems = s.mems := by
  unfold State.updateRx
  (repeat' split) <;> simp only [↓mems_ite, ↓mems_mk, mems_eta, ↓State.set_mems, ↓State.raise_mems, ↓State.flag_mems,
      ↓State.stageBytes_mems, ↓mems_foldl, ↓mems_foldr, ite_self, implies_true, id_eq]

theorem State.chainFrame_mems (s : State) (h : _) (eff : _) (heff : ∀ x, (eff x).mems = x.mems) :
    (State.chainFrame s h eff).mems = s.mems := by
  unfold State.chainFrame
  (repeat' split) <;> simp only [↓mems_ite, ↓mems_mk, mems_eta, ↓State.sendChain_mems, ↓heff, ite_self,
      implies_true, id_eq]

theorem State.passDown_mems (s : State) (type : _) (h : _) (bs : _) : (State.passDown s type h bs).mems = s.mems := by
  simp only [State.passDown, ↓mems_ite, ↓mems_mk, mems_eta, ↓State.sendChain_mems, ite_self, implies_true, id_eq]

theorem State.passUp_mems (s : State) (type : _) (h : _) (bs : _) : (State.passUp s type h bs).mems = s.mems := by
  simp only [State.passUp, ↓mems_ite, ↓mems_mk, mems_eta, ↓State.sendChain_mems, ite_self, implies_true, id_eq]

theorem State.offerRx_mems (s : State) (h : _) : (State.offerRx s h).mems = s.mems := by
  simp only [State.offerRx, ↓mems_ite, ↓mems_mk, mems_eta, ↓State.passDown_mems, ↓State.sendChain_mems,
      ↓State.set_mems, ↓State.sessBegin_mems, ite_self, implies_true, id_eq]

theorem State.dataRx_mems (s : State) (h : _) (bs : _) : (State.dataRx s h bs).mems = s.mems := by
  simp only [State.dataRx, ↓mems_ite, ↓mems_mk, mems_eta, ↓State.passDown_mems, ↓State.stageBytes_mems, ite_self,
      implies_true, id_eq]

theorem State.answerRx_mems (s : State) (k : _) (type : _) (h : _) (bs : _) (bad : _) :
    (State.answerRx s k type h bs bad).mems = s.mems := by
  simp only [State.answerRx, ↓mems_ite, ↓mems_mk, mems_eta, ↓State.setGraft_mems, ↓State.set_mems,
      ↓State.passUp_mems, ite_self, implies_true, id_eq]

theorem State.setF_mems (s : State) (f : _) : (State.setF s f).mems = s.mems := by
  simp only [State.setF, ↓mems_ite, ↓mems_mk, mems_eta, ↓State.set_mems, ite_self, implies_true, id_eq]

theorem State.armRx_mems (s : State) (h : _) (digest : _) (f : _) : (State.armRx s h digest f).mems = s.mems := by
  unfold State.armRx
  repeat' (first
      | with_reducible rfl
      | simp only [↓mems_ite, ↓mems_mk, mems_eta, ↓State.setF_mems, ↓State.passDown_mems, ↓State.sendChain_mems,
          ite_self, implies_true, id_eq]
      | split)

theorem State.readyRx_mems (s : State) (h : _) : (State.readyRx s h).mems = s.mems := by
  simp only [State.readyRx, ↓mems_ite, ↓mems_mk, mems_eta, ↓State.answerRx_mems, ↓State.sendChain_mems, ite_self,
      implies_true, id_eq]

theorem State.goRx_mems (s : State) (h : _) (digest : _) (f : _) : (State.goRx s h digest f).mems = s.mems := by
  simp only [State.goRx, ↓mems_ite, ↓mems_mk, mems_eta, ↓State.setF_mems, ↓State.passDown_mems, ↓State.raise_mems,
      ↓State.set_mems, ↓State.sendChain_mems, ite_self, implies_true, id_eq]

theorem State.commitRx_mems (s : State) (h : _) : (State.commitRx s h).mems = s.mems := by
  simp only [State.commitRx, ↓mems_ite, ↓mems_mk, mems_eta, ↓State.passDown_mems, ↓State.commitNow_mems, ite_self,
      implies_true, id_eq]

theorem State.inRecovery_mems (s : State) (go : _) (hgo : ∀ x, (go x).mems = x.mems) :
    (State.inRecovery s go).mems = s.mems := by
  simp only [State.inRecovery, ↓mems_ite, ↓mems_mk, mems_eta, ↓hgo, ite_self, implies_true, id_eq]

theorem State.sayOk_mems (s : State) : (State.sayOk s).mems = s.mems := by
  simp only [State.sayOk, ↓mems_ite, ↓mems_mk, mems_eta, ↓State.say_mems, ite_self, implies_true, id_eq]

theorem State.sayErr_mems (s : State) (st : _) : (State.sayErr s st).mems = s.mems := by
  simp only [State.sayErr, ↓mems_ite, ↓mems_mk, mems_eta, ↓State.say_mems, ite_self, implies_true, id_eq]

theorem State.rindInfo_mems (s : State) : (State.rindInfo s).mems = s.mems := by
  simp only [State.rindInfo, ↓mems_ite, ↓mems_mk, mems_eta, ↓State.say_mems, ite_self, implies_true, id_eq]

theorem State.rindCode_mems (s : State) (ds : _) : (State.rindCode s ds).mems = s.mems := by
  simp only [State.rindCode, ↓mems_ite, ↓mems_mk, mems_eta, ↓State.sayErr_mems, ↓State.sayOk_mems, ↓State.set_mems,
      ↓State.bump_mems, ite_self, implies_true, id_eq]

theorem State.rindLoad_mems (s : State) (n : _) : (State.rindLoad s n).mems = s.mems := by
  simp only [State.rindLoad, ↓mems_ite, ↓mems_mk, mems_eta, ↓State.sayErr_mems, ↓State.setGraft_mems,
      ↓State.set_mems, ite_self, implies_true, id_eq]

theorem State.rindStage_mems (s : State) : (State.rindStage s).mems = s.mems := by
  unfold State.rindStage
  repeat' (first
      | with_reducible rfl
      | simp only [↓mems_ite, ↓mems_mk, mems_eta, ↓State.setGraft_mems, ↓State.sayErr_mems, ↓State.putSlot_mems,
          ↓State.sayOk_mems, ite_self, implies_true, id_eq]
      | split)

theorem State.rindBlock_mems (s : State) (k : _) (bs : _) (ok : _) : (State.rindBlock s k bs ok).mems = s.mems := by
  simp only [State.rindBlock, ↓mems_ite, ↓mems_mk, mems_eta, ↓State.say_mems, ↓State.setGraft_mems,
      ↓State.set_mems, ↓State.rindStage_mems, ite_self, implies_true, id_eq]

theorem State.clkWrite_mems (s : State) (a : _) (w : _) : (State.clkWrite s a w).mems = s.mems := by
  simp only [State.clkWrite, ↓mems_ite, ↓mems_mk, mems_eta, ↓State.syncoutSet_mems, ↓State.clkCtrlSet_mems,
      ↓State.clkStatus_mems, ↓State.mclkoSet_mems, ↓State.plainStore_mems, ↓State.frcLoadSet_mems,
          ↓State.refpriSet_mems, ↓mems_foldl, ↓mems_foldr, ite_self, implies_true, id_eq]

theorem State.qnWrite_mems (s : State) (m : _) (a : _) (w : _) : (State.qnWrite s m a w).mems = s.mems := by
  simp only [State.qnWrite, ↓mems_ite, ↓mems_mk, mems_eta, ↓State.deadlineSet_mems, ↓State.affSet_mems,
      ↓State.slistSet_mems, ↓State.qnStatus_mems, ↓State.stage_mems, ↓State.postCmd_mems, ↓State.imgSet_mems,
      ↓State.qnPlain_mems, ite_self, implies_true, id_eq]

theorem State.vmWrite_mems (s : State) (a : _) (w : _) : (State.vmWrite s a w).mems = s.mems := by
  simp only [State.vmWrite, ↓mems_ite, ↓mems_mk, mems_eta, ↓State.vmSet_mems, ↓State.grpWord_mems,
      ↓State.vmPlain_mems, ite_self, implies_true, id_eq]

theorem State.postScene_mems (s : State) (m : _) (w : _) : (State.postScene s m w).mems = s.mems := by
  simp only [State.postScene, ↓mems_ite, ↓mems_mk, mems_eta, ↓State.scnStatus_mems, ↓State.pcieWait_mems,
      ↓State.mirrorPost_mems, ↓State.recallCmd_mems, ↓State.paramCmd_mems, ite_self, implies_true, id_eq]

theorem State.scnWrite_mems (s : State) (m : _) (a : _) (w : _) : (State.scnWrite s m a w).mems = s.mems := by
  simp only [State.scnWrite, ↓mems_ite, ↓mems_mk, mems_eta, ↓State.stage_mems, ↓State.plainStore_mems,
      ↓State.postScene_mems, ↓State.dirSet_mems, ↓State.rclSet_mems, ↓State.scnStatus_mems, ↓mems_foldl, ↓mems_foldr,
          ite_self, implies_true, id_eq]

theorem State.brmWrite_mems (s : State) (m : _) (a : _) (w : _) : (State.brmWrite s m a w).mems = s.mems := by
  simp only [State.brmWrite, ↓mems_ite, ↓mems_mk, mems_eta, ↓State.quadSet_mems, ↓State.brmStatus_mems,
      ↓State.plainStore_mems, ↓State.swapSet_mems, ↓mems_foldl, ↓mems_foldr, ite_self, implies_true, id_eq]

theorem State.apWrite_mems (s : State) (a : _) (w : _) : (State.apWrite s a w).mems = s.mems := by
  simp only [State.apWrite, ↓mems_ite, ↓mems_mk, mems_eta, ↓State.apPlain_mems, ↓State.plainStore_mems,
      ↓State.apGroupSet_mems, ↓State.apMaskSet_mems, ↓State.apCtrlSet_mems, ↓State.apStatus_mems, ↓State.regStore_mems,
          ↓mems_foldl, ↓mems_foldr, ite_self, implies_true, id_eq]

theorem State.aesWrite_mems (s : State) (a : _) (w : _) : (State.aesWrite s a w).mems = s.mems := by
  simp only [State.aesWrite, ↓mems_ite, ↓mems_mk, mems_eta, ↓State.txSetWord_mems, ↓State.plainStore_mems,
      ↓State.txCtrlSet_mems, ↓State.txStatus_mems, ↓State.rxStatus_mems, ↓State.rxCtrlSet_mems, ↓State.regStore_mems,
          ↓mems_foldl, ↓mems_foldr, ite_self, implies_true, id_eq]

theorem State.tmrWrite_mems (s : State) (a : _) (w : _) : (State.tmrWrite s a w).mems = s.mems := by
  simp only [State.tmrWrite, ↓mems_ite, ↓mems_mk, mems_eta, ↓State.tmGroupSet_mems, ↓State.regStore_mems,
      ↓State.tmCtrlSet_mems, ↓State.tmReload_mems, ↓State.cmpSet_mems, ↓State.tmPlain_mems, ite_self, implies_true,
      id_eq]

theorem State.uartWrite_mems (s : State) (m : _) (a : _) (w : _) : (State.uartWrite s m a w).mems = s.mems := by
  simp only [State.uartWrite, ↓mems_ite, ↓mems_mk, mems_eta, ↓State.uWrite_mems, ↓State.uCtrlSet_mems,
      ↓State.uDivSet_mems, ↓State.uTxWrite_mems, ↓State.uLineSet_mems, ↓State.uPlain_mems, ite_self, implies_true,
      id_eq]

theorem State.dmsWrite_mems (s : State) (a : _) (w : _) : (State.dmsWrite s a w).mems = s.mems := by
  simp only [State.dmsWrite, ↓mems_ite, ↓mems_mk, mems_eta, ↓State.regStore_mems, ↓State.dmsCtrlSet_mems,
      ↓State.dmsSpanSet_mems, ↓State.dmsCode_mems, ↓State.dmsPlain_mems, ite_self, implies_true, id_eq]

theorem State.curWrite_mems (s : State) (a : _) (w : _) : (State.curWrite s a w).mems = s.mems := by
  simp only [State.curWrite, ↓mems_ite, ↓mems_mk, mems_eta, ↓State.curScanSet_mems, ↓State.curCtrlSet_mems,
      ↓State.lgSet_mems, ↓State.plainStore_mems, ↓State.mcfgSet_mems, ↓State.curStatus_mems, ↓mems_foldl, ↓mems_foldr,
          ite_self, implies_true, id_eq]

theorem State.twnWrite_mems (s : State) (m : _) (a : _) (w : _) : (State.twnWrite s m a w).mems = s.mems := by
  simp only [State.twnWrite, ↓mems_ite, ↓mems_mk, mems_eta, ↓State.twnSet_mems, ↓State.wdogSet_mems,
      ↓State.laneSet_mems, ↓State.twnPlain_mems, ite_self, implies_true, id_eq]

theorem State.dmcWrite_mems (s : State) (a : _) (w : _) : (State.dmcWrite s a w).mems = s.mems := by
  simp only [State.dmcWrite, ↓mems_ite, ↓mems_mk, mems_eta, ↓State.dmcSet_mems, ↓State.dmcCfgSet_mems,
      ↓State.plainStore_mems, ↓State.dmcStatus_mems, ↓mems_foldl, ↓mems_foldr, ite_self, implies_true, id_eq]

theorem State.pinWrite_mems (s : State) (a : _) (w : _) : (State.pinWrite s a w).mems = s.mems := by
  simp only [State.pinWrite, ↓mems_ite, ↓mems_mk, mems_eta, ↓State.gpSet_mems, ↓State.regStore_mems, ite_self,
      implies_true, id_eq]

theorem State.nextWord1_mems (s : State) (d : _) : (State.nextWord1 s d).mems = s.mems := by
  simp only [State.nextWord1, ↓mems_ite, ↓mems_mk, mems_eta, ↓State.brmStatus_mems, ↓mems_foldl, ↓mems_foldr, ite_self,
      implies_true, id_eq]

theorem State.tableWrite_mems (s : State) (m : _) (a : _) (w : _) : (State.tableWrite s m a w).mems = s.mems := by
  simp only [State.tableWrite, ↓mems_ite, ↓mems_mk, mems_eta, ↓State.nextSet_mems, ↓State.pipWord_mems,
      ↓State.phDirect_mems, ↓State.nextWord1_mems, ↓State.coreCtrlSet_mems, ↓State.regStore_mems,
          ↓State.scnStatus_mems, ↓mems_foldl, ↓mems_foldr, ite_self, implies_true, id_eq]

theorem State.latchRead_mems (s : State) (m : _) (table : _) (entry : _) (n : _) (k : _) (live : _) :
    (State.latchRead s m table entry n k live).mems = s.mems := by
  simp only [State.latchRead, ↓mems_ite, ↓mems_mk, mems_eta, ↓State.reply_mems, ↓State.setLatch_mems, ite_self,
      implies_true, id_eq]

theorem State.swiqTake_mems (s : State) (m : _) : (State.swiqTake s m).mems = s.mems := by
  simp only [State.swiqTake, ↓mems_ite, ↓mems_mk, mems_eta, ↓State.reply_mems, ite_self, implies_true, id_eq]

theorem State.plainRead_mems (s : State) (m : _) (a : _) : (State.plainRead s m a).mems = s.mems := by
  simp only [State.plainRead, ↓mems_ite, ↓mems_mk, mems_eta, ↓State.regClear_mems, ↓State.reply_mems, ite_self,
      implies_true, id_eq]

theorem State.regRead_mems (s : State) (m : _) (a : _) : (State.regRead s m a).mems = s.mems := by
  simp only [State.regRead, ↓mems_ite, ↓mems_mk, mems_eta, ↓State.reply_mems, ↓State.ppmNow_mems,
      ↓State.meterRead_mems, ↓State.latchRead_mems, ↓State.plainRead_mems, ↓State.swiqTake_mems, ↓State.frcLoRead_mems,
          ↓State.meterOvRead_mems, ↓State.uRxRead_mems, ↓State.tmCaptRead_mems, ↓State.tmCntRead_mems, ↓mems_foldl,
              ↓mems_foldr, ite_self, implies_true, id_eq]

theorem State.seqRefuse_mems (s : State) (m : _) : (State.seqRefuse s m).mems = s.mems := by
  simp only [State.seqRefuse, ↓mems_ite, ↓mems_mk, mems_eta, ↓State.raise_mems, ↓State.hostReject_mems, ite_self,
      implies_true, id_eq]

theorem State.seqApply_mems (s : State) (m : _) (h : _) (n : _) (eff : _) (heff : ∀ x, (eff x).mems = x.mems) :
    (State.seqApply s m h n eff).mems = s.mems := by
  unfold State.seqApply
  (repeat' split) <;> simp only [↓mems_ite, ↓mems_mk, mems_eta, ↓State.seqRefuse_mems, ↓State.hostReject_mems,
      ↓State.set_mems, ↓heff, ite_self, implies_true, id_eq]

theorem State.returnBytes_mems (s : State) (bs : _) : (State.returnBytes s bs).mems = s.mems := by
  simp only [State.returnBytes, ↓mems_ite, ↓mems_mk, mems_eta, ite_self, implies_true, id_eq]

theorem State.pcieRefuse_mems (s : State) (write : _) : (State.pcieRefuse s write).mems = s.mems := by
  simp only [State.pcieRefuse, ↓mems_ite, ↓mems_mk, mems_eta, ↓State.hostReject_mems, ↓State.answerRead_mems,
      ↓State.returnBytes_mems, ite_self, implies_true, id_eq]

theorem State.pcieAnswer_mems (s : State) (bs : _) : (State.pcieAnswer s bs).mems = s.mems := by
  simp only [State.pcieAnswer, ↓mems_ite, ↓mems_mk, mems_eta, ↓State.answerRead_mems, ↓State.returnBytes_mems,
      ite_self, implies_true, id_eq]

theorem State.pcieOrdered_mems (s : State) (r : _) (go : _) (hgo : ∀ x, (go x).mems = x.mems) :
    (State.pcieOrdered s r go).mems = s.mems := by
  simp only [State.pcieOrdered, ↓mems_ite, ↓mems_mk, mems_eta, ↓State.pcieWait_mems, ↓hgo, ite_self, implies_true,
      id_eq]

theorem State.spiEnd_mems (s : State) (st : _) (data : _) : (State.spiEnd s st data).mems = s.mems := by
  simp only [State.spiEnd, ↓mems_ite, ↓mems_mk, mems_eta, ↓State.set_mems, ite_self, implies_true, id_eq]

theorem State.spiForget_mems (s : State) : (State.spiForget s).mems = s.mems := by
  simp only [State.spiForget, ↓mems_ite, ↓mems_mk, mems_eta, ite_self, implies_true, id_eq]

theorem State.spiRefuse_mems (s : State) (st : _) : (State.spiRefuse s st).mems = s.mems := by
  simp only [State.spiRefuse, ↓mems_ite, ↓mems_mk, mems_eta, ↓State.spiEnd_mems, ↓State.hostReject_mems, ite_self,
      implies_true, id_eq]

theorem State.spiViolate_mems (s : State) (k : _) (addr : _) : (State.spiViolate s k addr).mems = s.mems := by
  simp only [State.spiViolate, ↓mems_ite, ↓mems_mk, mems_eta, ↓State.spiRefuse_mems, ↓State.violate_mems, ite_self,
      implies_true, id_eq]

theorem State.spiWriteChecked_mems (s : State) (ps : _) (go : _) (hgo : ∀ x, (go x).mems = x.mems) :
    (State.spiWriteChecked s ps go).mems = s.mems := by
  unfold State.spiWriteChecked
  (repeat' split) <;> simp only [↓mems_ite, ↓mems_mk, mems_eta, ↓State.spiRefuse_mems, ↓State.spiViolate_mems,
      ↓hgo, ite_self, implies_true, id_eq]

/-- The words of a read transaction leave the memories alone. -/
theorem spiGetAll_mems (ps : List SpiPlace) : ∀ s : State, (State.spiGetAll ps s).1.mems = s.mems := by
  induction ps with
  | nil => exact fun s => rfl
  | cons p t ih =>
    intro s
    unfold State.spiGetAll
    have h : (s.spiGet p).1.mems = s.mems := by
      unfold State.spiGet
      split
      · exact State.regRead_mems _ _ _
      · exact State.meetOrc_mems _ _ _
      · exact State.meetDram_mems _ _ _
      · rfl
    exact (ih _).trans h

theorem State.spiRead_mems (s : State) (a : _) (len : _) (ready : _) (early : _) :
    (State.spiRead s a len ready early).mems = s.mems := by
  unfold State.spiRead
  dsimp only
  split
  · simp only [↓State.raise_mems, ↓State.spiForget_mems]
  · split
    · simp only [↓State.spiRefuse_mems, ↓State.spiForget_mems]
    · split
      · simp only [↓State.spiEnd_mems, ↓State.spiForget_mems]
      · split
        · simp only [↓State.spiViolate_mems, ↓State.spiForget_mems]
        · split
          · simp only [↓State.spiEnd_mems, ↓State.spiForget_mems]
          · have h := spiGetAll_mems ((List.range (len + 1)).map (fun i => spiPlace (a + 4 * i))) s.spiForget
            generalize State.spiGetAll _ s.spiForget = p at h ⊢
            obtain ⟨t, ws⟩ := p
            dsimp only at h ⊢
            split
            · exact (State.spiEnd_mems _ _ _).trans (h.trans (State.spiForget_mems _))
            · exact (State.spiEnd_mems _ _ _).trans (h.trans (State.spiForget_mems _))

theorem State.spiStat_mems (s : State) : (State.spiStat s).mems = s.mems := by
  simp only [State.spiStat, ↓mems_ite, ↓mems_mk, mems_eta, ↓State.spiForget_mems, ite_self, implies_true, id_eq]

theorem State.delivered_mems (s : State) (n : _) : (State.delivered s n).mems = s.mems := by
  simp only [State.delivered, ↓mems_ite, ↓mems_mk, mems_eta, ite_self, implies_true, id_eq]

theorem State.toSteward_mems (s : State) (n : _) (frc : _) : (State.toSteward s n frc).mems = s.mems := by
  simp only [State.toSteward, ↓mems_ite, ↓mems_mk, mems_eta, ↓State.setCore_mems, ite_self, implies_true, id_eq]

theorem State.routeFallback_mems (s : State) (n : _) : (State.routeFallback s n).mems = s.mems := by
  simp only [State.routeFallback, ↓mems_ite, ↓mems_mk, mems_eta, ↓State.raise_mems, ↓State.set_mems, ite_self,
      implies_true, id_eq]

theorem State.postEvent_mems (s : State) (n : _) (frc : _) (src : _) (hold : _) :
    (State.postEvent s n frc src hold).mems = s.mems := by
  simp only [State.postEvent, ↓mems_ite, ↓mems_mk, mems_eta, ↓State.setHeld_mems, ↓State.settlePost_mems, ite_self,
      implies_true, id_eq]

theorem State.deliver_mems (s : State) (n : _) (frc : _) : (State.deliver s n frc).mems = s.mems := by
  unfold State.deliver
  (repeat' split) <;> simp only [↓mems_ite, ↓mems_mk, mems_eta, ↓State.delivered_mems, ↓State.msixPend_mems,
      ↓State.routeFallback_mems, ↓State.toSteward_mems, ↓State.mirror_mems, ↓State.postEvent_mems, ite_self,
      implies_true, id_eq]

theorem State.unitEvent_mems (s : State) (n : _) : (State.unitEvent s n).mems = s.mems := by
  unfold State.unitEvent
  (repeat' split) <;> simp only [↓mems_ite, ↓mems_mk, mems_eta, ↓State.deliver_mems, ite_self, implies_true, id_eq]

theorem State.sceneCmd_mems (s : State) (src : _) (q : _) : (State.sceneCmd s src q).mems = s.mems := by
  simp only [State.sceneCmd, ↓mems_ite, ↓mems_mk, mems_eta, ↓State.recallCmd_mems, ↓State.paramCmd_mems, ite_self,
      implies_true, id_eq]

theorem State.regLoad_mems (s : State) (n : _) (l : _) : (State.regLoad s n l).mems = s.mems := by
  simp only [State.regLoad, ↓mems_ite, ↓mems_mk, mems_eta, ↓State.guardRead_mems, ↓State.regRead_mems,
      ↓State.setCore_mems, ite_self, implies_true, id_eq]

theorem State.corePost_mems (s : State) (n : _) (k : _) (p : _) (w : _) :
    (State.corePost s n k p w).mems = s.mems := by
  unfold State.corePost
  (repeat' split) <;> simp only [↓mems_ite, ↓mems_mk, mems_eta, ↓State.postPip_mems, ↓State.postVoice_mems,
      ↓State.sceneCmd_mems, ite_self, implies_true, id_eq]

theorem State.stallOnHeld_mems (s : State) (n : _) : (State.stallOnHeld s n).mems = s.mems := by
  simp only [State.stallOnHeld, ↓mems_ite, ↓mems_mk, mems_eta, ↓State.setCore_mems, ite_self, implies_true, id_eq]

theorem State.onRun_mems (s : State) (n : _) (f : _) : (State.onRun s n f).mems = s.mems := by
  simp only [State.onRun, ↓mems_ite, ↓mems_mk, mems_eta, ↓State.setCore_mems, ite_self, implies_true, id_eq]

theorem State.runPost_mems (s : State) (n : _) (k : _) (p : _) (w : _) : (State.runPost s n k p w).mems = s.mems := by
  unfold State.runPost
  repeat' (first
      | with_reducible rfl
      | simp only [↓mems_ite, ↓mems_mk, mems_eta, ↓State.onRun_mems, ↓State.stallOnHeld_mems, ↓State.corePost_mems,
          ite_self, implies_true, id_eq]
      | split)

theorem Seen.dmaQueue_mems (x : _) (s : State) : (Seen.dmaQueue x s).mems = s.mems := by
  simp only [Seen.dmaQueue, ↓mems_ite, ↓mems_mk, mems_eta, ↓State.setCore_mems, ite_self, implies_true, id_eq]

theorem State.dmaStart_mems (s : State) (n : _) (ch : _) : (State.dmaStart s n ch).mems = s.mems := by
  unfold State.dmaStart
  repeat' (first
      | with_reducible rfl
      | simp only [↓mems_ite, ↓mems_mk, mems_eta, ↓State.setCore_mems, ite_self, implies_true, id_eq]
      | split)

theorem State.sayErrWord_mems (s : State) (st : _) (word : _) : (State.sayErrWord s st word).mems = s.mems := by
  simp only [State.sayErrWord, ↓mems_ite, ↓mems_mk, mems_eta, ↓State.say_mems, ite_self, implies_true, id_eq]

theorem State.sayResult_mems (s : State) (st : _) (reason : _) : (State.sayResult s st reason).mems = s.mems := by
  simp only [State.sayResult, ↓mems_ite, ↓mems_mk, mems_eta, ↓State.sayOk_mems, ↓State.sayErrWord_mems,
      ↓State.sayErr_mems, ite_self, implies_true, id_eq]

theorem State.sayCfg_mems (s : State) : (State.sayCfg s).mems = s.mems := by
  simp only [State.sayCfg, ↓mems_ite, ↓mems_mk, mems_eta, ↓State.sayResult_mems, ite_self, implies_true, id_eq]

theorem State.linkLine_mems (s : State) (go : _) (hgo : ∀ x, (go x).mems = x.mems) :
    (State.linkLine s go).mems = s.mems := by
  simp only [State.linkLine, ↓mems_ite, ↓mems_mk, mems_eta, ↓State.set_mems, ↓hgo, ite_self, implies_true, id_eq]

theorem State.linkBaud_mems (s : State) (n : _) : (State.linkBaud s n).mems = s.mems := by
  simp only [State.linkBaud, ↓mems_ite, ↓mems_mk, mems_eta, ↓State.set_mems, ↓State.uDivSet_mems,
      ↓State.sayOk_mems, ↓State.sayErr_mems, ite_self, implies_true, id_eq]

theorem State.linkRevert_mems (s : State) : (State.linkRevert s).mems = s.mems := by
  simp only [State.linkRevert, ↓mems_ite, ↓mems_mk, mems_eta, ↓State.set_mems, ↓State.uDivSet_mems, ite_self,
      implies_true, id_eq]

theorem State.linkBreak_mems (s : State) : (State.linkBreak s).mems = s.mems := by
  simp only [State.linkBreak, ↓mems_ite, ↓mems_mk, mems_eta, ↓State.say_mems, ↓State.set_mems, ↓State.uDivSet_mems,
      ↓State.uBreak_mems, ite_self, implies_true, id_eq]

theorem State.linkRearm_mems (s : State) : (State.linkRearm s).mems = s.mems := by
  simp only [State.linkRearm, ↓mems_ite, ↓mems_mk, mems_eta, ↓State.say_mems, ↓State.uLineSet_mems, ite_self,
      implies_true, id_eq]

theorem State.linkHello_mems (s : State) : (State.linkHello s).mems = s.mems := by
  simp only [State.linkHello, ↓mems_ite, ↓mems_mk, mems_eta, ↓State.sayOk_mems, ↓State.say_mems, ite_self,
      implies_true, id_eq]

theorem State.linkWord_mems (s : State) (a : _) : (State.linkWord s a).mems = s.mems := by
  simp only [State.linkWord, ↓mems_ite, ↓mems_mk, mems_eta, ↓State.regRead_mems, ↓State.say_mems, ite_self,
      implies_true, id_eq]

theorem State.linkRd_mems (s : State) (a : _) (n : _) : (State.linkRd s a n).mems = s.mems := by
  simp only [State.linkRd, ↓mems_ite, ↓mems_mk, mems_eta, ↓State.sayErr_mems, ↓State.sayOk_mems,
      ↓State.linkWord_mems, ↓mems_foldl, ite_self, implies_true, id_eq]

theorem State.putDrive_mems (s : State) (b : _) (l : _) : (State.putDrive s b l).mems = s.mems := by
  simp only [State.putDrive, ↓mems_ite, ↓mems_mk, mems_eta, ite_self, implies_true, id_eq]

theorem State.beginDrive_mems (s : State) (b : _) (l : _) (name : _) :
    (State.beginDrive s b l name).mems = s.mems := by
  unfold State.beginDrive
  (repeat' split) <;> simp only [↓mems_ite, ↓mems_mk, mems_eta, ↓State.sayOk_mems, ↓State.dacclrRefresh_mems,
      ↓State.putDrive_mems, ↓State.claimAll_mems, ↓State.say_mems, ite_self, implies_true, id_eq]

theorem State.linkDrive_mems (s : State) (b : _) (l : _) : (State.linkDrive s b l).mems = s.mems := by
  unfold State.linkDrive
  (repeat' split) <;> simp only [↓mems_ite, ↓mems_mk, mems_eta, ↓State.sayErr_mems, ↓State.sayOk_mems,
      ↓State.dacclrRefresh_mems, ↓State.putDrive_mems, ↓State.sayErrWord_mems, ↓State.beginDrive_mems, ite_self,
      implies_true, id_eq]

theorem State.endDrives_mems (s : State) (gone : _) : (State.endDrives s gone).mems = s.mems := by
  simp only [State.endDrives, ↓mems_ite, ↓mems_mk, mems_eta, ↓State.dacclrRefresh_mems, ↓State.unclaim_mems,
      ↓mems_foldl, ite_self, implies_true, id_eq]

theorem State.linkRelease_mems (s : State) (b : _) : (State.linkRelease s b).mems = s.mems := by
  unfold State.linkRelease
  (repeat' split) <;> simp only [↓mems_ite, ↓mems_mk, mems_eta, ↓State.sayOk_mems, ↓State.endDrives_mems,
      ↓State.sayErr_mems, ite_self, implies_true, id_eq]

theorem State.linkRead_mems (s : State) (b : _) (xs : _) : (State.linkRead s b xs).mems = s.mems := by
  unfold State.linkRead
  (repeat' split) <;> simp only [↓mems_ite, ↓mems_mk, mems_eta, ↓State.sayErr_mems, ↓State.sayOk_mems,
      ↓State.say_mems, ite_self, implies_true, id_eq]

theorem State.loopByte_mems (s : State) (n : _) (e : _) : (State.loopByte s n e).mems = s.mems := by
  unfold State.loopByte
  (repeat' split) <;> simp only [↓mems_ite, ↓mems_mk, mems_eta, ↓State.uRxRead_mems, ↓State.uReceive_mems,
      ite_self, implies_true, id_eq]

theorem State.linkLoopUart_mems (s : State) (n : _) (ext : _) (got : _) :
    (State.linkLoopUart s n ext got).mems = s.mems := by
  simp only [State.linkLoopUart, ↓mems_ite, ↓mems_mk, mems_eta, ↓State.sayErr_mems, ↓State.sayErrWord_mems,
      ↓State.set_mems, ↓State.uCtrlSet_mems, ↓State.uDivSet_mems, ↓State.loopByte_mems, ↓State.uOn_mems,
      ↓State.sayOk_mems, ↓State.say_mems, ↓State.uOff_mems, ↓mems_foldl, ite_self, implies_true, id_eq]

theorem State.linkLoopPort_mems (s : State) (n : _) (m : _) (seen : _) :
    (State.linkLoopPort s n m seen).mems = s.mems := by
  unfold State.linkLoopPort
  (repeat' split) <;> simp only [↓mems_ite, ↓mems_mk, mems_eta, ↓State.sayErrWord_mems, ↓State.sayOk_mems,
      ↓State.say_mems, ↓State.endDrives_mems, ↓mems_foldl, ite_self, implies_true, id_eq]

theorem State.aesTestTx_mems (s : State) (t : _) : (State.aesTestTx s t).mems = s.mems := by
  simp only [State.aesTestTx, ↓mems_ite, ↓mems_mk, mems_eta, ↓State.flag_mems, ↓State.set_mems, ↓mems_foldl,
      ite_self, implies_true, id_eq]

theorem State.aesTestOff_mems (s : State) (t : _) (r : _) : (State.aesTestOff s t r).mems = s.mems := by
  simp only [State.aesTestOff, ↓mems_ite, ↓mems_mk, mems_eta, ↓State.txOffNow_mems, ↓State.txCtrlSet_mems,
      ↓State.rxCtrlSet_mems, ↓mems_foldl, ↓mems_foldr, ite_self, implies_true, id_eq]

theorem State.linkLoopAes_mems (s : State) (t : _) (r : _) (lock : _) (cs : _) : (State.linkLoopAes s t r lock cs).mems
    = s.mems := by
  unfold State.linkLoopAes
  (repeat' split) <;> simp only [↓mems_ite, ↓mems_mk, mems_eta, ↓State.rxLock_mems, ↓State.sayErrWord_mems,
      ↓State.txCtrlSet_mems, ↓State.say_mems, ↓State.aesTestOff_mems, ↓State.txOnNow_mems, ↓State.aesTestTx_mems,
          ↓State.rxCtrlSet_mems, ↓State.rxBlock_mems, ↓State.sayOk_mems, ↓State.sayErr_mems, ↓mems_foldl, ↓mems_foldr,
              ite_self, implies_true, id_eq]

theorem State.dsetWait_mems (s : State) (n : _) : (State.dsetWait s n).mems = s.mems := by
  simp only [State.dsetWait, ↓mems_ite, ↓mems_mk, mems_eta, ↓State.dmsSlewDone_mems, ↓State.dmsHoldEnd_mems,
      ↓State.dmsSettled_mems, ↓State.dmsSwitch_mems, ↓State.dmsSafeReached_mems, ↓State.dmsOn_mems, ite_self,
      implies_true, id_eq]

theorem State.dsetRun_mems (s : State) (n : _) (code : _) (span : _) (uv : _) :
    (State.dsetRun s n code span uv).mems = s.mems := by
  simp only [State.dsetRun, State.fresh, ↓State.sayOk_mems, ↓State.say_mems, ↓mems_mk, mems_eta, ↓State.set_mems,
      ↓State.dsetWait_mems,
    ↓State.dmsCtrlSet_mems, ↓State.dmsCode_mems, ↓State.dmsSpanSet_mems, ↓mems_ite, ite_self]

theorem State.linkDset_mems (s : State) (n : _) (uv : _) (span : _) : (State.linkDset s n uv span).mems = s.mems := by
  simp only [State.linkDset, ↓mems_ite, ↓mems_mk, mems_eta, ↓State.sayErr_mems, ↓State.sayErrWord_mems,
      ↓State.dsetRun_mems, ite_self, implies_true, id_eq]

theorem State.dsetCheck_mems (s : State) (n : _) : (State.dsetCheck s n).mems = s.mems := by
  simp only [State.dsetCheck, ↓mems_ite, ↓mems_mk, mems_eta, ↓State.say_mems, ↓State.set_mems, ite_self,
      implies_true, id_eq]

theorem State.linkDmeas_mems (s : State) (n : _) : (State.linkDmeas s n).mems = s.mems := by
  simp only [State.linkDmeas, ↓mems_ite, ↓mems_mk, mems_eta, ↓State.sayOk_mems, ↓State.say_mems, ite_self,
      implies_true, id_eq]

theorem State.linkDoff_mems (s : State) (n : _) : (State.linkDoff s n).mems = s.mems := by
  simp only [State.linkDoff, ↓mems_ite, ↓mems_mk, mems_eta, ↓State.sayOk_mems, ↓State.set_mems,
      ↓State.dmsCtrlSet_mems, ite_self, implies_true, id_eq]

theorem State.linkAin_mems (s : State) (n : _) : (State.linkAin s n).mems = s.mems := by
  simp only [State.linkAin, ↓mems_ite, ↓mems_mk, mems_eta, ↓State.sayOk_mems, ↓State.say_mems, ite_self,
      implies_true, id_eq]

theorem State.linkMon_mems (s : State) : (State.linkMon s).mems = s.mems := by
  simp only [State.linkMon, ↓mems_ite, ↓mems_mk, mems_eta, ↓State.sayOk_mems, ↓State.say_mems, ↓mems_foldl,
      ite_self, implies_true, id_eq]

theorem State.linkFaults_mems (s : State) (k : _) : (State.linkFaults s k).mems = s.mems := by
  simp only [State.linkFaults, ↓mems_ite, ↓mems_mk, mems_eta, ↓State.sayErr_mems, ↓State.sayOk_mems,
      ↓State.say_mems, ↓mems_foldl, ite_self, implies_true, id_eq]

theorem State.linkSpares_mems (s : State) : (State.linkSpares s).mems = s.mems := by
  simp only [State.linkSpares, ↓mems_ite, ↓mems_mk, mems_eta, ↓State.syncCover_mems, ↓State.sayOk_mems,
      ↓State.say_mems, ↓mems_foldl, ite_self, implies_true, id_eq]

theorem State.linkMap_mems (s : State) : (State.linkMap s).mems = s.mems := by
  simp only [State.linkMap, ↓mems_ite, ↓mems_mk, mems_eta, ↓State.say_mems, ↓State.sayOk_mems, ↓mems_foldl,
      ite_self, implies_true, id_eq]

theorem State.linkViol_mems (s : State) (k : _) : (State.linkViol s k).mems = s.mems := by
  simp only [State.linkViol, ↓mems_ite, ↓mems_mk, mems_eta, ↓State.sayErr_mems, ↓State.sayOk_mems, ↓State.say_mems,
      ↓mems_foldl, ite_self, implies_true, id_eq]

theorem State.linkUnfreeze_mems (s : State) (who : _) (abandon : _) :
    (State.linkUnfreeze s who abandon).mems = s.mems := by
  simp only [State.linkUnfreeze, ↓mems_ite, ↓mems_mk, mems_eta, ↓State.sayErr_mems, ↓State.unfreezeSet_mems,
      ↓State.sayResult_mems, ite_self, implies_true, id_eq]

theorem State.linkCode_mems (s : State) (ds : _) : (State.linkCode s ds).mems = s.mems := by
  simp only [State.linkCode, ↓mems_ite, ↓mems_mk, mems_eta, ↓State.sayCfg_mems, ↓State.ownerEntry_mems, ite_self,
      implies_true, id_eq]

theorem State.linkOpen_mems (s : State) : (State.linkOpen s).mems = s.mems := by
  simp only [State.linkOpen, ↓mems_ite, ↓mems_mk, mems_eta, ↓State.sayCfg_mems, ↓State.sessOpen_mems, ite_self,
      implies_true, id_eq]

theorem State.linkPieces_mems (x0 : _) (x1 : _) (x2 : State) : (State.linkPieces x0 x1 x2).mems = x2.mems := by
  induction x0 generalizing x1 x2 with
  | zero => rfl
  | succ k ih =>
    unfold State.linkPieces
    simp only [↓mems_ite, ih, ↓State.pieceDone_mems, ↓State.set_mems, ↓State.setGraft_mems, ite_self]

theorem State.linkLoad_mems (s : State) (bs : _) : (State.linkLoad s bs).mems = s.mems := by
  simp only [State.linkLoad, ↓mems_ite, ↓mems_mk, mems_eta, ↓State.sayErr_mems, ↓State.sayCfg_mems,
      ↓State.asHolder_mems, ↓State.say_mems, ↓State.linkPieces_mems, ↓State.cfgOk_mems, ↓State.sayResult_mems,
      ↓State.sayOk_mems, ↓mems_foldl, ite_self, implies_true, id_eq]

theorem State.linkArm_mems (s : State) (rel : _) (t : _) : (State.linkArm s rel t).mems = s.mems := by
  simp only [State.linkArm, ↓mems_ite, ↓mems_mk, mems_eta, ↓State.sayCfg_mems, ↓State.asHolder_mems,
      ↓State.actSet_mems, ↓State.set_mems, ite_self, implies_true, id_eq]

theorem State.linkInfo_mems (s : State) : (State.linkInfo s).mems = s.mems := by
  simp only [State.linkInfo, ↓mems_ite, ↓mems_mk, mems_eta, ↓State.say_mems, ↓State.sayOk_mems, ↓mems_foldl,
      ite_self, implies_true, id_eq]

theorem State.rearmTick_mems (s : State) : (State.rearmTick s).mems = s.mems := by
  simp only [State.rearmTick, ↓mems_ite, ↓mems_mk, mems_eta, ↓State.phAdvance_mems, ↓State.rearm_mems, ite_self,
      implies_true, id_eq]

theorem State.creditsZero_mems (s : State) : (State.creditsZero s).mems = s.mems := by
  simp only [State.creditsZero, ↓mems_ite, ↓mems_mk, mems_eta, ↓State.set_mems, ↓mems_foldl, ite_self,
      implies_true, id_eq]

theorem State.latchCore_mems (s : State) (n : _) : (State.latchCore s n).mems = s.mems := by
  simp only [State.latchCore, ↓mems_ite, ↓mems_mk, mems_eta, ↓State.set_mems, ↓State.flag_mems, ↓mems_foldl,
      ↓mems_foldr, ite_self, implies_true, id_eq]

theorem State.brmLoad_mems (s : State) : (State.brmLoad s).mems = s.mems := by
  simp only [State.brmLoad, ↓mems_ite, ↓mems_mk, mems_eta, ↓State.set_mems, ↓mems_foldl, ↓mems_foldr, ite_self,
      implies_true, id_eq]

theorem State.latchLoads_mems (s : State) : (State.latchLoads s).mems = s.mems := by
  unfold State.latchLoads State.fresh
  dsimp only
  refine (State.set_mems _ _ _).trans ((State.brmLoad_mems _).trans ?_)
  rw [mems_mk, mems_eta]
  exact mems_foldl _ _ (fun s n => State.latchCore_mems s n) s

theorem State.withdrawReady_mems (s : State) : (State.withdrawReady s).mems = s.mems := by
  simp only [State.withdrawReady, ↓mems_ite, ↓mems_mk, mems_eta, ↓State.disarm_mems, ↓State.graphLate_mems,
      ↓mems_foldl, ↓mems_foldr, ite_self, implies_true, id_eq]

theorem State.overrun_mems (s : State) (j : _) (ps : _) : (State.overrun s j ps).mems = s.mems := by
  simp only [State.overrun, ↓mems_ite, ↓mems_mk, mems_eta, ↓State.bump_mems, ↓State.set_mems, ↓State.mdlFault_mems,
      ↓State.raise_mems, ↓State.withdrawReady_mems, ↓mems_foldl, ↓mems_foldr, ite_self, implies_true, id_eq]

theorem State.checkSinks_mems (s : State) : (State.checkSinks s).mems = s.mems := by
  simp only [State.checkSinks, ↓mems_ite, ↓mems_mk, mems_eta, ↓State.overrun_mems, ite_self, implies_true, id_eq]

theorem State.startTarget_mems (s : State) : (State.startTarget s).mems = s.mems := by
  simp only [State.startTarget, ↓mems_ite, ↓mems_mk, mems_eta, ↓State.set_mems, ite_self, implies_true, id_eq]

theorem State.firstDispatch_mems (s : State) : (State.firstDispatch s).mems = s.mems := by
  simp only [State.firstDispatch, ↓mems_ite, ↓mems_mk, mems_eta, ↓State.rearmTick_mems, ↓State.setEngine_mems,
      ite_self, implies_true, id_eq]

theorem State.stopRecall_mems (s : State) : (State.stopRecall s).mems = s.mems := by
  simp only [State.stopRecall, ↓mems_ite, ↓mems_mk, mems_eta, ↓State.recallAbandon_mems, ite_self, implies_true,
      id_eq]

theorem State.stopTarget_mems (s : State) : (State.stopTarget s).mems = s.mems := by
  simp only [State.stopTarget, ↓mems_ite, ↓mems_mk, mems_eta, ↓State.stopRecall_mems, ↓State.flushParams_mems,
      ↓State.setEngine_mems, ↓State.rearmTick_mems, ite_self, implies_true, id_eq]

theorem State.stopped_mems (s : State) : (State.stopped s).mems = s.mems := by
  simp only [State.stopped, ↓mems_ite, ↓mems_mk, mems_eta, ↓State.silenceAll_mems, ↓State.phFlush_mems,
      ↓State.setEngine_mems, ↓State.set_mems, ↓State.engineStart_mems, ite_self, implies_true, id_eq]

theorem State.tmPass_mems (s : State) (m : _) (t0 : _) (t1 : _) (src : ℕ → List ℕ) : (State.tmPass s m t0 t1 src).mems
    = s.mems := by
  unfold State.tmPass
  (repeat' split) <;> simp only [↓mems_ite, ↓mems_mk, mems_eta, ↓State.tmCapture_mems, ↓State.tmGroupsAt_mems,
      ↓State.tmRunTo_mems, ↓mems_foldl, ↓mems_foldr, ite_self, implies_true, id_eq]

theorem State.timersPass_mems (s : State) (u : State) (m : _) (t0 : _) (t1 : _) :
    (State.timersPass s u m t0 t1).mems = u.mems := State.tmPass_mems _ _ _ _ _

theorem State.sendPage_mems (s : State) (page : _) (q : _) : (State.sendPage s page q).mems = s.mems := by
  simp only [State.sendPage, ↓mems_ite, ↓mems_mk, mems_eta, ↓State.sendFrame_mems, ↓mems_foldl, ↓mems_foldr, ite_self,
      implies_true, id_eq]

theorem State.sendCopy_mems (s : State) : (State.sendCopy s).mems = s.mems := by
  unfold State.sendCopy
  extract_lets pass i next endPass
  have hn (t : State) : (next t).mems = t.mems := State.set_mems _ _ _
  have he (t : State) : (endPass t).mems = t.mems := by
    simp only [endPass, ↓mems_ite, ↓State.copyStart_mems, ↓mems_mk, mems_eta, ↓State.set_mems, ite_self]
  split
  · split
    · split
      · rw [hn, State.sendFrame_mems]
      · rw [hn]
    · split
      · rw [hn, State.sendPage_mems]
      · rw [he]
  · split
    · rw [hn, State.sendPage_mems]
    · rw [he]

theorem State.sendCopies_mems (n : Nat) (s : State) : (State.sendCopies n s).mems = s.mems := by
  induction n generalizing s with
  | zero => rfl
  | succ k ih =>
    unfold State.sendCopies
    split
    · rfl
    · rw [ih, State.sendCopy_mems]

theorem State.countMoves_mems (s : State) (sb : _) : (State.countMoves s sb).mems = s.mems := by
  simp only [State.countMoves, ↓mems_ite, ↓mems_mk, mems_eta, ↓State.set_mems, ↓mems_foldl, ↓mems_foldr, ite_self,
      implies_true, id_eq]

theorem State.aesRamp_mems (s : State) (r : _) (u : _) : (State.aesRamp s r u).mems = s.mems := by
  simp only [State.aesRamp, ↓mems_ite, ↓mems_mk, mems_eta, ↓State.set_mems, ↓mems_foldl, ↓mems_foldr, ite_self,
      implies_true, id_eq]

theorem State.pclkRun_mems (s : State) (n : _) : (State.pclkRun s n).mems = s.mems := by
  simp only [State.pclkRun, ↓mems_ite, ↓mems_mk, mems_eta, ↓State.set_mems, ↓mems_foldl, ↓mems_foldr, ite_self,
      implies_true, id_eq]

theorem State.apLeadIn_mems (s : State) (n : _) (m : _) : (State.apLeadIn s n m).mems = s.mems := by
  simp only [State.apLeadIn, ↓mems_ite, ↓mems_mk, mems_eta, ↓State.set_mems, ↓mems_foldl, ↓mems_foldr, ite_self,
      implies_true, id_eq]

theorem State.apFrame_mems (s : State) (n : _) (m : _) (k : _) : (State.apFrame s n m k).mems = s.mems := by
  simp only [State.apFrame, ↓mems_ite, ↓mems_mk, mems_eta, ↓State.set_mems, ↓State.apShut_mems, ↓State.flag_mems,
      ↓State.apLeadIn_mems, ↓mems_foldl, ↓mems_foldr, ite_self, implies_true, id_eq]

theorem State.apPass_mems (s : State) (m : _) (t0 : _) (t1 : _) : (State.apPass s m t0 t1).mems = s.mems := by
  simp only [State.apPass, ↓mems_ite, ↓mems_mk, mems_eta, ↓State.apFrame_mems, ↓State.set_mems, ↓mems_foldl,
      ↓mems_foldr, ite_self, implies_true, id_eq]

theorem State.gpTimers_mems (s : State) : (State.gpTimers s).mems = s.mems := by
  simp only [State.gpTimers, ↓mems_ite, ↓mems_mk, mems_eta, ↓State.gpChanged_mems, ↓mems_foldl, ↓mems_foldr, ite_self,
      implies_true, id_eq]

theorem State.txPass_mems (s : State) (t0 : _) (t1 : _) : (State.txPass s t0 t1).mems = s.mems := by
  simp only [State.txPass, ↓mems_ite, ↓mems_mk, mems_eta, ↓State.set_mems, ↓State.flag_mems, ↓mems_foldl, ↓mems_foldr,
      ite_self, implies_true, id_eq]

theorem State.holdTime_mems (s : State) : (State.holdTime s).mems = s.mems := by
  simp only [State.holdTime, ↓mems_ite, ↓mems_mk, mems_eta, ↓State.pclkRun_mems, ↓State.apPass_mems,
      ↓State.live60_mems, ↓State.dacclrRefresh_mems, ↓State.gpTimers_mems, ↓State.txPass_mems, ↓State.timersPass_mems,
          ↓mems_foldl, ↓mems_foldr, ite_self, implies_true, id_eq]

theorem State.copyTick_mems (s : State) : (State.copyTick s).mems = s.mems := by
  simp only [State.copyTick, ↓mems_ite, ↓mems_mk, mems_eta, ↓State.sendFrame_mems, ↓State.set_mems, ↓mems_foldl,
      ↓mems_foldr, ite_self, implies_true, id_eq]

theorem State.asrcRamp_mems (s : State) (c : _) : (State.asrcRamp s c).mems = s.mems := by
  simp only [State.asrcRamp, ↓mems_ite, ↓mems_mk, mems_eta, ↓State.set_mems, ↓mems_foldl, ↓mems_foldr, ite_self,
      implies_true, id_eq]

theorem State.asrcRamps_mems (s : State) : (State.asrcRamps s).mems = s.mems := by
  simp only [State.asrcRamps, ↓mems_ite, ↓mems_mk, mems_eta, ↓State.asrcRamp_mems, ↓mems_foldl, ↓mems_foldr, ite_self,
      implies_true, id_eq]

theorem State.recordIn_mems (s : State) (m : _) : (State.recordIn s m).mems = s.mems := by
  unfold State.recordIn
  (repeat' split) <;> simp only [↓mems_ite, ↓mems_mk, mems_eta, ↓mems_foldl, ↓mems_foldr, ite_self, implies_true, id_eq]

theorem State.checkWithin_mems (s : State) (n : _) : (State.checkWithin s n).mems = s.mems := by
  simp only [State.checkWithin, ↓mems_ite, ↓mems_mk, mems_eta, ↓State.checkSinks_mems, ↓mems_foldl, ↓mems_foldr,
      ite_self, implies_true, id_eq]

theorem State.resendDue_mems (s : State) (seq : _) : (State.resendDue s seq).mems = s.mems := by
  simp only [State.resendDue, ↓mems_ite, ↓mems_mk, mems_eta, ↓State.resend_mems, ↓mems_foldl, ↓mems_foldr, ite_self,
      implies_true, id_eq]

theorem State.lostAtTick_mems (s : State) (old : _) : (State.lostAtTick s old).mems = s.mems := by
  unfold State.lostAtTick
  repeat' (first
      | with_reducible rfl
      | refine (mems_foldl _ _ (fun s x => ?_) _).trans ?_
      | simp only [↓mems_ite, ↓mems_mk, mems_eta, ↓State.set_mems, ↓State.raise_mems, ↓mems_foldl, ↓mems_foldr,
          ite_self, implies_true, id_eq]
      | split)

theorem State.moveBlocks_mems (s : State) (k : _) : (State.moveBlocks s k).mems = s.mems := by
  unfold State.moveBlocks
  (repeat' split) <;> simp only [↓mems_ite, ↓mems_mk, mems_eta, ↓State.ringReady_mems, ↓State.audioDrop_mems,
      ↓State.reportCrc_mems, ↓State.lostAtTick_mems, ↓State.ringDue_mems, ↓State.keepCrc_mems, ↓State.meterTick_mems,
          ↓State.brmEnables_mems, ↓mems_foldl, ↓mems_foldr, ite_self, implies_true, id_eq]

theorem State.dmsAtArrival_mems (s : State) (n : _) (f : State → State) (hf : ∀ (x0 : State), (f x0).mems = x0.mems) :
    (State.dmsAtArrival s n f).mems = s.mems := by
  simp only [State.dmsAtArrival, ↓mems_ite, ↓mems_mk, mems_eta, ↓mems_foldl, ↓mems_foldr, ↓hf, ite_self, implies_true,
      id_eq]

theorem State.meterSample_mems (s : State) (m : _) (i : _) (landing : _) : (State.meterSample s m i landing).mems =
    s.mems := by
  unfold State.meterSample
  (repeat' split) <;> simp only [↓mems_ite, ↓mems_mk, mems_eta, ↓State.meterTake_mems, ↓mems_foldl, ↓mems_foldr,
      ite_self, implies_true, id_eq]

theorem State.meetDmem_mems (s : State) (n : _) (a : _) (len : _) : (State.meetDmem s n a len).mems = s.mems := by
  unfold State.meetDmem
  (repeat' split) <;> simp only [↓mems_ite, ↓mems_mk, mems_eta, ↓State.parityError_mems, ↓State.mdlFault_mems,
      ↓State.setCore_mems, ↓State.coreRetired_mems, ↓mems_foldl, ↓mems_foldr, ite_self, implies_true, id_eq]

theorem State.uartDrives_mems (s : State) : (State.uartDrives s).mems = s.mems := by
  simp only [State.uartDrives, ↓mems_ite, ↓mems_mk, mems_eta, ↓State.flag_mems, ↓mems_foldl, ↓mems_foldr, ite_self,
      implies_true, id_eq]

theorem State.uEnds_mems (s : State) (n : _) (bits : _) : (State.uEnds s n bits).mems = s.mems := by
  simp only [State.uEnds, ↓mems_ite, ↓mems_mk, mems_eta, ↓State.uReceive_mems, ↓State.set_mems, ↓State.uBroken_mems,
      ↓State.flag_mems, ↓mems_foldl, ↓mems_foldr, ite_self, implies_true, id_eq]

theorem State.tmInput_mems (s : State) (n : _) (rising : _) (held : _) : (State.tmInput s n rising held).mems = s.mems
    := by
  unfold State.tmInput
  (repeat' split) <;> simp only [↓mems_ite, ↓mems_mk, mems_eta, ↓State.tmCapture_mems, ↓mems_foldl, ↓mems_foldr,
      ite_self, implies_true, id_eq]

theorem State.dmaMeets_mems (s : State) (n : _) (d : _) (k : _) : (State.dmaMeets s n d k).mems = s.mems := by
  simp only [State.dmaMeets, ↓mems_ite, ↓mems_mk, mems_eta, ↓State.meetOrc_mems, ↓State.meetDmem_mems,
      ↓State.meetDram_mems, ↓mems_foldl, ↓mems_foldr, ite_self, implies_true, id_eq]

theorem State.inSlot_mems (s : State) (rot : _) (f : State → State) (hf : ∀ (x0 : State), (f x0).mems = x0.mems) :
    (State.inSlot s rot f).mems = s.mems := by
  simp only [State.inSlot, ↓mems_ite, ↓mems_mk, mems_eta, ↓State.set_mems, ↓mems_foldl, ↓mems_foldr, ↓hf, ite_self,
      implies_true, id_eq]

theorem State.dmsAtDue_mems (s : State) (n : _) (f : State → State) (hf : ∀ (x0 : State), (f x0).mems = x0.mems) :
    (State.dmsAtDue s n f).mems = s.mems := by
  simp only [State.dmsAtDue, ↓mems_ite, ↓mems_mk, mems_eta, ↓mems_foldl, ↓mems_foldr, ↓hf, ite_self, implies_true,
      id_eq]

theorem State.listChecked_mems (s : State) : (State.listChecked s).mems = s.mems := by
  unfold State.listChecked
  (repeat' split) <;> simp only [↓mems_ite, ↓mems_mk, mems_eta, ↓State.meetSource_mems, ↓State.recallChecked_mems,
      ↓mems_foldl, ↓mems_foldr, ite_self, implies_true, id_eq]

theorem State.meetBramble_mems (s : State) (es : _) (m : _) : (State.meetBramble s es m).mems = s.mems := by
  simp only [State.meetBramble, ↓mems_ite, ↓mems_mk, mems_eta, ↓State.meetOrc_mems, ↓mems_foldl, ↓mems_foldr, ite_self,
      implies_true, id_eq]

theorem State.outputWraps_mems (s : State) (t : _) : (State.outputWraps s t).mems = s.mems := by
  simp only [State.outputWraps, ↓mems_ite, ↓mems_mk, mems_eta, ↓State.set_mems, ↓mems_foldl, ↓mems_foldr, ite_self,
      implies_true, id_eq]

theorem State.copyRun_mems (s : State) : (State.copyRun s).mems = s.mems := by
  unfold State.copyRun
  repeat' (first
      | with_reducible rfl
      | refine (mems_foldl _ _ (fun s x => ?_) _).trans ?_
      | simp only [↓mems_ite, ↓mems_mk, mems_eta, ↓State.sendCopies_mems, ↓mems_foldl, ↓mems_foldr, ite_self,
          implies_true, id_eq]
      | split)

theorem State.aesRamps_mems (s : State) : (State.aesRamps s).mems = s.mems := by
  simp only [State.aesRamps, ↓mems_ite, ↓mems_mk, mems_eta, ↓State.aesRamp_mems, ↓mems_foldl, ↓mems_foldr, ite_self,
      implies_true, id_eq]

theorem State.wdogExpire_mems (s : State) : (State.wdogExpire s).mems = s.mems := by
  simp only [State.wdogExpire, ↓mems_ite, ↓mems_mk, mems_eta, ↓State.set_mems, ↓mems_foldl, ↓mems_foldr, ite_self,
      implies_true, id_eq]

end Sys2Proof.Machine
end

