-- ==== Sys2Proof/Laws/CommandFrames.lean ====
section
/-! SUPPORT. The commands that leave the addressed memories as they are: one lemma for each. -/

namespace Sys2Proof.Machine

set_option linter.all false
set_option linter.unusedSimpArgs false

theorem execRefQualificationGate_mems (i : _) (g : _) (s : State) : ∀ z, execRefQualificationGate i g s = .next z →
    z.mems = s.mems := by
  intro z hz
  cases hz
  repeat' (first
      | with_reducible rfl
      | simp only [↓mems_ite, ↓mems_mk, mems_eta, ↓State.refGate_mems, ite_self, implies_true, id_eq]
      | split)

theorem execRefGlitch_mems (s : State) : ∀ z, execRefGlitch s = .next z → z.mems = s.mems :=
    by
  intro z hz
  cases hz
  repeat' (first
      | with_reducible rfl
      | simp only [↓mems_ite, ↓mems_mk, mems_eta, ↓State.refGlitched_mems, ↓mems_foldl, ↓mems_foldr, ite_self,
          implies_true, id_eq]
      | split)

theorem execRefStop_mems (missing : _) (s : State) : ∀ z, execRefStop missing s = .next z → z.mems = s.mems := by
  intro z hz
  cases hz
  repeat' (first
      | with_reducible rfl
      | simp only [↓mems_ite, ↓mems_mk, mems_eta, ↓State.refStopped_mems, ite_self, implies_true, id_eq]
      | split)

theorem execHoldoverTimeout_mems (s : State) : ∀ z, execHoldoverTimeout s = .next z → z.mems = s.mems := by
  intro z hz
  cases hz
  repeat' (first
      | with_reducible rfl
      | simp only [↓mems_ite, ↓mems_mk, mems_eta, ↓State.holdoverEnd_mems, ite_self, implies_true, id_eq]
      | split)

theorem execPullInComplete_mems (s : State) : ∀ z, execPullInComplete s = .next z → z.mems = s.mems := by
  intro z hz
  cases hz
  repeat' (first
      | with_reducible rfl
      | simp only [↓mems_ite, ↓mems_mk, mems_eta, ↓State.pullInDone_mems, ite_self, implies_true, id_eq]
      | split)

theorem execRevertTimeout_mems (i : _) (s : State) : ∀ z, execRevertTimeout i s = .next z → z.mems = s.mems := by
  intro z hz
  cases hz
  repeat' (first
      | with_reducible rfl
      | simp only [↓mems_ite, ↓mems_mk, mems_eta, ↓State.revertTo_mems, ite_self, implies_true, id_eq]
      | split)

theorem execRefpriWrite_mems (m : _) (i : _) (w : _) (s : State) : ∀ z, execRefpriWrite m i w s = .next z →
    z.mems = s.mems := by
  intro z hz
  cases hz
  repeat' (first
      | with_reducible rfl
      | simp only [↓mems_ite, ↓mems_mk, mems_eta, ↓State.guardWrite_mems, ↓State.refpriSet_mems, ite_self,
          implies_true, id_eq]
      | split)

theorem execReacq_mems (m : _) (w : _) (s : State) : ∀ z, execReacq m w s = .next z → z.mems = s.mems := by
  intro z hz
  cases hz
  repeat' (first
      | with_reducible rfl
      | simp only [↓mems_ite, ↓mems_mk, mems_eta, ↓State.guardWrite_mems, ↓State.clkCtrlSet_mems, ite_self,
          implies_true, id_eq]
      | split)

theorem execAcquireLock_mems (s : State) : ∀ z, execAcquireLock s = .next z → z.mems = s.mems := by
  intro z hz
  cases hz
  repeat' (first
      | with_reducible rfl
      | simp only [↓mems_ite, ↓mems_mk, mems_eta, ↓State.acquireDone_mems, ite_self, implies_true, id_eq]
      | split)

theorem execFreerunTimeout_mems (s : State) : ∀ z, execFreerunTimeout s = .next z → z.mems = s.mems := by
  intro z hz
  cases hz
  repeat' (first
      | with_reducible rfl
      | simp only [↓mems_ite, ↓mems_mk, mems_eta, ↓State.acquireTimeout_mems, ite_self, implies_true, id_eq]
      | split)

theorem execMclkoEnable_mems (m : _) (n : _) (s : State) : ∀ z, execMclkoEnable m n s = .next z →
    z.mems = s.mems := by
  intro z hz
  cases hz
  repeat' (first
      | with_reducible rfl
      | simp only [↓mems_ite, ↓mems_mk, mems_eta, ↓State.guardWrite_mems, ↓State.mclkoSet_mems, ite_self,
          implies_true, id_eq]
      | split)

theorem execMclkoDisable_mems (m : _) (n : _) (s : State) : ∀ z, execMclkoDisable m n s = .next z →
    z.mems = s.mems := by
  intro z hz
  cases hz
  repeat' (first
      | with_reducible rfl
      | simp only [↓mems_ite, ↓mems_mk, mems_eta, ↓State.guardWrite_mems, ↓State.mclkoSet_mems, ite_self,
          implies_true, id_eq]
      | split)

theorem execMclkoDivWrite_mems (m : _) (n : _) (div : _) (s : State) : ∀ z, execMclkoDivWrite m n div s = .next z →
    z.mems = s.mems := by
  intro z hz
  cases hz
  repeat' (first
      | with_reducible rfl
      | simp only [↓mems_ite, ↓mems_mk, mems_eta, ↓State.guardWrite_mems, ↓State.mclkoSet_mems, ite_self,
          implies_true, id_eq]
      | split)

theorem execMclkoStarted_mems (n : _) (s : State) : ∀ z, execMclkoStarted n s = .next z → z.mems = s.mems := by
  intro z hz
  cases hz
  repeat' (first
      | with_reducible rfl
      | simp only [↓mems_ite, ↓mems_mk, mems_eta, ↓State.startDone_mems, ↓State.set_mems, ite_self, implies_true,
          id_eq]
      | split)

theorem execMclkoStopped_mems (n : _) (s : State) : ∀ z, execMclkoStopped n s = .next z → z.mems = s.mems := by
  intro z hz
  cases hz
  repeat' (first
      | with_reducible rfl
      | simp only [↓mems_ite, ↓mems_mk, mems_eta, ↓State.shutDone_mems, ↓State.set_mems, ↓State.unclaimAll_mems,
          ite_self, implies_true, id_eq]
      | split)

theorem execSyncoutEnable_mems (m : _) (src : _) (s : State) : ∀ z, execSyncoutEnable m src s = .next z →
    z.mems = s.mems := by
  intro z hz
  cases hz
  repeat' (first
      | with_reducible rfl
      | simp only [↓mems_ite, ↓mems_mk, mems_eta, ↓State.guardWrite_mems, ↓State.syncoutSet_mems, ite_self,
          implies_true, id_eq]
      | split)

theorem execSyncoutDisable_mems (m : _) (s : State) : ∀ z, execSyncoutDisable m s = .next z → z.mems = s.mems := by
  intro z hz
  cases hz
  repeat' (first
      | with_reducible rfl
      | simp only [↓mems_ite, ↓mems_mk, mems_eta, ↓State.guardWrite_mems, ↓State.syncoutSet_mems, ite_self,
          implies_true, id_eq]
      | split)

theorem execSyncoutStarted_mems (s : State) : ∀ z, execSyncoutStarted s = .next z → z.mems = s.mems := by
  intro z hz
  cases hz
  repeat' (first
      | with_reducible rfl
      | simp only [↓mems_ite, ↓mems_mk, mems_eta, ↓State.startDone_mems, ↓State.set_mems, ite_self, implies_true,
          id_eq]
      | split)

theorem execSyncoutStopped_mems (s : State) : ∀ z, execSyncoutStopped s = .next z → z.mems = s.mems := by
  intro z hz
  cases hz
  repeat' (first
      | with_reducible rfl
      | simp only [↓mems_ite, ↓mems_mk, mems_eta, ↓State.shutDone_mems, ↓State.unclaimAll_mems, ite_self,
          implies_true, id_eq]
      | split)

theorem execFrcLoadGo_mems (m : _) (s : State) : ∀ z, execFrcLoadGo m s = .next z → z.mems = s.mems := by
  intro z hz
  cases hz
  repeat' (first
      | with_reducible rfl
      | simp only [↓mems_ite, ↓mems_mk, mems_eta, ↓State.guardWrite_mems, ↓State.frcLoadSet_mems, ite_self,
          implies_true, id_eq]
      | split)

theorem execFrcLoadApply_mems (s : State) : ∀ z, execFrcLoadApply s = .next z → z.mems = s.mems := by
  intro z hz
  cases hz
  repeat' (first
      | with_reducible rfl
      | simp only [↓mems_ite, ↓mems_mk, mems_eta, ↓State.frcLoadDone_mems, ite_self, implies_true, id_eq]
      | split)

theorem execRateWrite_mems (m : _) (w : _) (s : State) : ∀ z, execRateWrite m w s = .next z → z.mems = s.mems := by
  intro z hz
  cases hz
  repeat' (first
      | with_reducible rfl
      | simp only [↓mems_ite, ↓mems_mk, mems_eta, ↓State.guardWrite_mems, ↓State.rateSet_mems, ite_self,
          implies_true, id_eq]
      | split)

theorem execRateChangeApply_mems (s : State) : ∀ z, execRateChangeApply s = .next z → z.mems = s.mems := by
  intro z hz
  cases hz
  repeat' (first
      | with_reducible rfl
      | simp only [↓mems_ite, ↓mems_mk, mems_eta, ↓State.rateApply_mems, ite_self, implies_true, id_eq]
      | split)

theorem execDamsonEnable_mems (m : _) (n : _) (s : State) : ∀ z, execDamsonEnable m n s = .next z →
    z.mems = s.mems := by
  intro z hz
  cases hz
  repeat' (first
      | with_reducible rfl
      | simp only [↓mems_ite, ↓mems_mk, mems_eta, ↓State.guardWrite_mems, ↓State.dmsCtrlSet_mems, ite_self,
          implies_true, id_eq]
      | split)

theorem execDamsonDisable_mems (m : _) (n : _) (s : State) : ∀ z, execDamsonDisable m n s = .next z →
    z.mems = s.mems := by
  intro z hz
  cases hz
  repeat' (first
      | with_reducible rfl
      | simp only [↓mems_ite, ↓mems_mk, mems_eta, ↓State.guardWrite_mems, ↓State.dmsCtrlSet_mems, ite_self,
          implies_true, id_eq]
      | split)

theorem execDamsonOn_mems (n : _) (s : State) : ∀ z, execDamsonOn n s = .next z → z.mems = s.mems := by
  intro z hz
  cases hz
  repeat' (first
      | with_reducible rfl
      | simp only [↓mems_ite, ↓mems_mk, mems_eta, ↓State.dmsAtArrival_mems, ↓State.dmsOn_mems, ↓mems_foldl,
          ↓mems_foldr, ite_self, implies_true, id_eq]
      | split)

theorem execDamsonOff_mems (n : _) (s : State) : ∀ z, execDamsonOff n s = .next z → z.mems = s.mems := by
  intro z hz
  cases hz
  repeat' (first
      | with_reducible rfl
      | simp only [↓mems_ite, ↓mems_mk, mems_eta, ↓State.dmsAtArrival_mems, ↓State.dmsOff_mems, ↓mems_foldl,
          ↓mems_foldr, ite_self, implies_true, id_eq]
      | split)

theorem execDamsonCodeWrite_mems (m : _) (n : _) (code : _) (s : State) : ∀ z,
    execDamsonCodeWrite m n code s = .next z → z.mems = s.mems := by
  intro z hz
  cases hz
  repeat' (first
      | with_reducible rfl
      | simp only [↓mems_ite, ↓mems_mk, mems_eta, ↓State.guardWrite_mems, ↓State.dmsCode_mems, ite_self,
          implies_true, id_eq]
      | split)

theorem execDeglitchHoldEnd_mems (n : _) (s : State) : ∀ z, execDeglitchHoldEnd n s = .next z → z.mems = s.mems := by
  intro z hz
  cases hz
  repeat' (first
      | with_reducible rfl
      | simp only [↓mems_ite, ↓mems_mk, mems_eta, ↓State.dmsAtDue_mems, ↓State.dmsHoldEnd_mems, ↓mems_foldl,
          ↓mems_foldr, ite_self, implies_true, id_eq]
      | split)

theorem execSlewComplete_mems (n : _) (s : State) : ∀ z, execSlewComplete n s = .next z → z.mems = s.mems := by
  intro z hz
  cases hz
  repeat' (first
      | with_reducible rfl
      | simp only [↓mems_ite, ↓mems_mk, mems_eta, ↓State.dmsSlewDone_mems, ↓State.dmsAtArrival_mems, ↓mems_foldl,
          ↓mems_foldr, ite_self, implies_true, id_eq]
      | split)

theorem execSpanWrite_mems (m : _) (n : _) (span : _) (s : State) : ∀ z, execSpanWrite m n span s = .next z →
    z.mems = s.mems := by
  intro z hz
  cases hz
  repeat' (first
      | with_reducible rfl
      | simp only [↓mems_ite, ↓mems_mk, mems_eta, ↓State.guardWrite_mems, ↓State.dmsSpanSet_mems, ite_self,
          implies_true, id_eq]
      | split)

theorem execSpanSafeReached_mems (n : _) (s : State) : ∀ z, execSpanSafeReached n s = .next z → z.mems = s.mems := by
  intro z hz
  cases hz
  repeat' (first
      | with_reducible rfl
      | simp only [↓mems_ite, ↓mems_mk, mems_eta, ↓State.dmsAtArrival_mems, ↓State.dmsSafeReached_mems, ↓mems_foldl,
          ↓mems_foldr, ite_self, implies_true, id_eq]
      | split)

theorem execSpanSwitch_mems (n : _) (s : State) : ∀ z, execSpanSwitch n s = .next z → z.mems = s.mems := by
  intro z hz
  cases hz
  repeat' (first
      | with_reducible rfl
      | simp only [↓mems_ite, ↓mems_mk, mems_eta, ↓State.dmsSwitch_mems, ↓State.dmsAtDue_mems, ↓mems_foldl,
          ↓mems_foldr, ite_self, implies_true, id_eq]
      | split)

theorem execSpanSettleEnd_mems (n : _) (s : State) : ∀ z, execSpanSettleEnd n s = .next z → z.mems = s.mems := by
  intro z hz
  cases hz
  repeat' (first
      | with_reducible rfl
      | simp only [↓mems_ite, ↓mems_mk, mems_eta, ↓State.dmsAtDue_mems, ↓State.dmsSettled_mems, ↓mems_foldl,
          ↓mems_foldr, ite_self, implies_true, id_eq]
      | split)

theorem execDamsonStageSwap_mems (n : _) (s : State) : ∀ z, execDamsonStageSwap n s = .next z → z.mems = s.mems := by
  intro z hz
  cases hz
  repeat' (first
      | with_reducible rfl
      | simp only [↓mems_ite, ↓mems_mk, mems_eta, ↓State.dmsStageSwap_mems, ite_self, implies_true, id_eq]
      | split)

theorem execShortCircuitOnset_mems (n : _) (s : State) : ∀ z, execShortCircuitOnset n s = .next z →
    z.mems = s.mems := by
  intro z hz
  cases hz
  repeat' (first
      | with_reducible rfl
      | simp only [↓mems_ite, ↓mems_mk, mems_eta, ↓State.dmsShort_mems, ite_self, implies_true, id_eq]
      | split)

theorem execShortCircuitCleared_mems (n : _) (s : State) : ∀ z, execShortCircuitCleared n s = .next z →
    z.mems = s.mems := by
  intro z hz
  cases hz
  repeat' (first
      | with_reducible rfl
      | simp only [↓mems_ite, ↓mems_mk, mems_eta, ↓State.dmsUnshort_mems, ite_self, implies_true, id_eq]
      | split)

theorem execDacclrAssert_mems (s : State) : ∀ z, execDacclrAssert s = .next z → z.mems = s.mems := by
  intro z hz
  cases hz
  repeat' (first
      | with_reducible rfl
      | simp only [↓mems_ite, ↓mems_mk, mems_eta, ↓State.dacclrOutside_mems, ite_self, implies_true, id_eq]
      | split)

theorem execDacclrRelease_mems (s : State) : ∀ z, execDacclrRelease s = .next z → z.mems = s.mems := by
  intro z hz
  cases hz
  repeat' (first
      | with_reducible rfl
      | simp only [↓mems_ite, ↓mems_mk, mems_eta, ↓State.dacclrOutside_mems, ite_self, implies_true, id_eq]
      | split)

theorem execEngineRunRequest_mems (m : _) (atFrc : _) (s : State) : ∀ z, execEngineRunRequest m atFrc s = .next z →
    z.mems = s.mems := by
  intro z hz
  cases hz
  repeat' (first
      | with_reducible rfl
      | simp only [↓mems_ite, ↓mems_mk, mems_eta, ↓State.guardWrite_mems, ↓State.engineSet_mems, ite_self,
          implies_true, id_eq]
      | split)

theorem execEngineStopRequest_mems (m : _) (atFrc : _) (s : State) : ∀ z,
    execEngineStopRequest m atFrc s = .next z → z.mems = s.mems := by
  intro z hz
  cases hz
  repeat' (first
      | with_reducible rfl
      | simp only [↓mems_ite, ↓mems_mk, mems_eta, ↓State.guardWrite_mems, ↓State.engineSet_mems, ite_self,
          implies_true, id_eq]
      | split)

theorem execClaimTake_mems (m : _) (slot : _) (s : State) : ∀ z, execClaimTake m slot s = .next z →
    z.mems = s.mems := by
  intro z hz
  cases hz
  repeat' (first
      | with_reducible rfl
      | simp only [↓mems_ite, ↓mems_mk, mems_eta, ↓State.guardWrite_mems, ↓State.claimSet_mems, ite_self,
          implies_true, id_eq]
      | split)

theorem execClaimDrop_mems (m : _) (slot : _) (s : State) : ∀ z, execClaimDrop m slot s = .next z →
    z.mems = s.mems := by
  intro z hz
  cases hz
  repeat' (first
      | with_reducible rfl
      | simp only [↓mems_ite, ↓mems_mk, mems_eta, ↓State.guardWrite_mems, ↓State.claimSet_mems, ite_self,
          implies_true, id_eq]
      | split)

theorem execEvrouteWrite_mems (m : _) (n : _) (w : _) (s : State) : ∀ z, execEvrouteWrite m n w s = .next z →
    z.mems = s.mems := by
  intro z hz
  cases hz
  repeat' (first
      | with_reducible rfl
      | simp only [↓mems_ite, ↓mems_mk, mems_eta, ↓State.guardWrite_mems, ↓State.evrouteSet_mems, ite_self,
          implies_true, id_eq]
      | split)

theorem execOwnerGroupWrite_mems (m : _) (g : _) (k : _) (w : _) (s : State) : ∀ z,
    execOwnerGroupWrite m g k w s = .next z → z.mems = s.mems := by
  intro z hz
  cases hz
  repeat' (first
      | with_reducible rfl
      | simp only [↓mems_ite, ↓mems_mk, mems_eta, ↓State.guardWrite_mems, ↓State.groupSet_mems, ite_self,
          implies_true, id_eq]
      | split)

theorem execDmcEnable_mems (m : _) (s : State) : ∀ z, execDmcEnable m s = .next z → z.mems = s.mems := by
  intro z hz
  cases hz
  repeat' (first
      | with_reducible rfl
      | simp only [↓mems_ite, ↓mems_mk, mems_eta, ↓State.guardWrite_mems, ↓State.dmcSet_mems, ite_self,
          implies_true, id_eq]
      | split)

theorem execDmcDisable_mems (m : _) (s : State) : ∀ z, execDmcDisable m s = .next z → z.mems = s.mems := by
  intro z hz
  cases hz
  repeat' (first
      | with_reducible rfl
      | simp only [↓mems_ite, ↓mems_mk, mems_eta, ↓State.guardWrite_mems, ↓State.dmcSet_mems, ite_self,
          implies_true, id_eq]
      | split)

theorem execDmcTrainingComplete_mems (s : State) : ∀ z, execDmcTrainingComplete s = .next z → z.mems = s.mems := by
  intro z hz
  cases hz
  repeat' (first
      | with_reducible rfl
      | simp only [↓mems_ite, ↓mems_mk, mems_eta, ↓State.dmcTrained_mems, ite_self, implies_true, id_eq]
      | split)

theorem execDmcTrainingFailed_mems (s : State) : ∀ z, execDmcTrainingFailed s = .next z → z.mems = s.mems := by
  intro z hz
  cases hz
  repeat' (first
      | with_reducible rfl
      | simp only [↓mems_ite, ↓mems_mk, mems_eta, ↓State.dmcFailed_mems, ite_self, implies_true, id_eq]
      | split)

theorem execDmcShutdownComplete_mems (s : State) : ∀ z, execDmcShutdownComplete s = .next z → z.mems = s.mems := by
  intro z hz
  cases hz
  repeat' (first
      | with_reducible rfl
      | simp only [↓mems_ite, ↓mems_mk, mems_eta, ↓State.dmcOff_mems, ite_self, implies_true, id_eq]
      | split)

theorem execCoreHalt_mems (m : _) (c : _) (s : State) : ∀ z, execCoreHalt m c s = .next z → z.mems = s.mems := by
  intro z hz
  cases hz
  repeat' (first
      | with_reducible rfl
      | simp only [↓mems_ite, ↓mems_mk, mems_eta, ↓State.guardWrite_mems, ↓State.coreCtrlSet_mems, ite_self,
          implies_true, id_eq]
      | split)

theorem execCoreResume_mems (m : _) (c : _) (s : State) : ∀ z, execCoreResume m c s = .next z → z.mems = s.mems := by
  intro z hz
  cases hz
  repeat' (first
      | with_reducible rfl
      | simp only [↓mems_ite, ↓mems_mk, mems_eta, ↓State.guardWrite_mems, ↓State.coreCtrlSet_mems, ite_self,
          implies_true, id_eq]
      | split)

theorem execPipWrite_mems (m : _) (p : _) (k : _) (w : _) (s : State) : ∀ z, execPipWrite m p k w s = .next z →
    z.mems = s.mems := by
  intro z hz
  cases hz
  repeat' (first
      | with_reducible rfl
      | simp only [↓mems_ite, ↓mems_mk, mems_eta, ↓State.guardWrite_mems, ↓State.pipWord_mems, ite_self,
          implies_true, id_eq]
      | split)

theorem execPipEnable_mems (m : _) (p : _) (w : _) (s : State) : ∀ z, execPipEnable m p w s = .next z →
    z.mems = s.mems := by
  intro z hz
  cases hz
  repeat' (first
      | with_reducible rfl
      | simp only [↓mems_ite, ↓mems_mk, mems_eta, ↓State.guardWrite_mems, ↓State.pipWord1_mems, ite_self,
          implies_true, id_eq]
      | split)

theorem execPipDisable_mems (m : _) (p : _) (s : State) : ∀ z, execPipDisable m p s = .next z → z.mems = s.mems := by
  intro z hz
  cases hz
  repeat' (first
      | with_reducible rfl
      | simp only [↓mems_ite, ↓mems_mk, mems_eta, ↓State.guardWrite_mems, ↓State.pipWord1_mems, ite_self,
          implies_true, id_eq]
      | split)

theorem execSlistCommit_mems (m : _) (w : _) (s : State) : ∀ z, execSlistCommit m w s = .next z →
    z.mems = s.mems := by
  intro z hz
  cases hz
  repeat' (first
      | with_reducible rfl
      | simp only [↓mems_ite, ↓mems_mk, mems_eta, ↓State.guardWrite_mems, ↓State.slistSet_mems, ite_self,
          implies_true, id_eq]
      | split)

theorem execAffinityCommit_mems (m : _) (c : _) (w : _) (s : State) : ∀ z, execAffinityCommit m c w s = .next z →
    z.mems = s.mems := by
  intro z hz
  cases hz
  repeat' (first
      | with_reducible rfl
      | simp only [↓mems_ite, ↓mems_mk, mems_eta, ↓State.guardWrite_mems, ↓State.affSet_mems, ite_self,
          implies_true, id_eq]
      | split)

theorem execQnDeadlineWrite_mems (m : _) (w : _) (s : State) : ∀ z, execQnDeadlineWrite m w s = .next z →
    z.mems = s.mems := by
  intro z hz
  cases hz
  repeat' (first
      | with_reducible rfl
      | simp only [↓mems_ite, ↓mems_mk, mems_eta, ↓State.guardWrite_mems, ↓State.deadlineSet_mems, ite_self,
          implies_true, id_eq]
      | split)

theorem execQnImgWrite_mems (m : _) (i : _) (w : _) (s : State) : ∀ z, execQnImgWrite m i w s = .next z →
    z.mems = s.mems := by
  intro z hz
  cases hz
  repeat' (first
      | with_reducible rfl
      | simp only [↓mems_ite, ↓mems_mk, mems_eta, ↓State.guardWrite_mems, ↓State.imgSet_mems, ite_self,
          implies_true, id_eq]
      | split)

theorem execHostPostPip_mems (m : _) (p : _) (s : State) : ∀ z, execHostPostPip m p s = .next z →
    z.mems = s.mems := by
  intro z hz
  cases hz
  repeat' (first
      | with_reducible rfl
      | simp only [↓mems_ite, ↓mems_mk, mems_eta, ↓State.guardWrite_mems, ↓State.hostPost_mems, ite_self,
          implies_true, id_eq]
      | split)

theorem execUrgentPlacement_mems (s : State) : ∀ z, execUrgentPlacement s = .next z → z.mems = s.mems := by
  intro z hz
  cases hz
  repeat' (first
      | with_reducible rfl
      | simp only [↓mems_ite, ↓mems_mk, mems_eta, ↓State.placeUrgent_mems, ite_self, implies_true, id_eq]
      | split)

theorem execRoundRobinPlacement_mems (c : _) (s : State) : ∀ z, execRoundRobinPlacement c s = .next z →
    z.mems = s.mems := by
  intro z hz
  cases hz
  repeat' (first
      | with_reducible rfl
      | simp only [↓mems_ite, ↓mems_mk, mems_eta, ↓State.placeRoundRobin_mems, ite_self, implies_true, id_eq]
      | split)

theorem execParamCommand_mems (src : _) (w : _) (s : State) : ∀ z, execParamCommand src w s = .next z →
    z.mems = s.mems := by
  intro z hz
  cases hz
  repeat' (first
      | with_reducible rfl
      | simp only [↓mems_ite, ↓mems_mk, mems_eta, ↓State.paramCmd_mems, ite_self, implies_true, id_eq]
      | split)

theorem execPhasorHeldApply_mems (s : State) : ∀ z, execPhasorHeldApply s = .next z → z.mems = s.mems := by
  intro z hz
  cases hz
  repeat' (first
      | with_reducible rfl
      | simp only [↓mems_ite, ↓mems_mk, mems_eta, ↓State.phRelease_mems, ite_self, implies_true, id_eq]
      | split)

theorem execPhasorDirectWrite_mems (m : _) (p : _) (w : _) (s : State) : ∀ z,
    execPhasorDirectWrite m p w s = .next z → z.mems = s.mems := by
  intro z hz
  cases hz
  repeat' (first
      | with_reducible rfl
      | simp only [↓mems_ite, ↓mems_mk, mems_eta, ↓State.guardWrite_mems, ↓State.phDirect_mems, ite_self,
          implies_true, id_eq]
      | split)

theorem execNoteOn_mems (src : _) (w : _) (s : State) : ∀ z, execNoteOn src w s = .next z → z.mems = s.mems := by
  intro z hz
  cases hz
  repeat' (first
      | with_reducible rfl
      | simp only [↓mems_ite, ↓mems_mk, mems_eta, ↓State.takeNamed_mems, ite_self, implies_true, id_eq]
      | split)

theorem execNoteOff_mems (src : _) (w : _) (s : State) : ∀ z, execNoteOff src w s = .next z → z.mems = s.mems := by
  intro z hz
  cases hz
  repeat' (first
      | with_reducible rfl
      | simp only [↓mems_ite, ↓mems_mk, mems_eta, ↓State.takeNamed_mems, ite_self, implies_true, id_eq]
      | split)

theorem execNoteChange_mems (src : _) (w : _) (s : State) : ∀ z, execNoteChange src w s = .next z →
    z.mems = s.mems := by
  intro z hz
  cases hz
  repeat' (first
      | with_reducible rfl
      | simp only [↓mems_ite, ↓mems_mk, mems_eta, ↓State.takeNamed_mems, ite_self, implies_true, id_eq]
      | split)

theorem execHold_mems (src : _) (w : _) (s : State) : ∀ z, execHold src w s = .next z → z.mems = s.mems := by
  intro z hz
  cases hz
  repeat' (first
      | with_reducible rfl
      | simp only [↓mems_ite, ↓mems_mk, mems_eta, ↓State.takeNamed_mems, ite_self, implies_true, id_eq]
      | split)

theorem execAllOff_mems (src : _) (w : _) (s : State) : ∀ z, execAllOff src w s = .next z → z.mems = s.mems := by
  intro z hz
  cases hz
  repeat' (first
      | with_reducible rfl
      | simp only [↓mems_ite, ↓mems_mk, mems_eta, ↓State.takeNamed_mems, ite_self, implies_true, id_eq]
      | split)

theorem execKill_mems (src : _) (w : _) (s : State) : ∀ z, execKill src w s = .next z → z.mems = s.mems := by
  intro z hz
  cases hz
  repeat' (first
      | with_reducible rfl
      | simp only [↓mems_ite, ↓mems_mk, mems_eta, ↓State.takeNamed_mems, ite_self, implies_true, id_eq]
      | split)

theorem execCtrl_mems (src : _) (w : _) (s : State) : ∀ z, execCtrl src w s = .next z → z.mems = s.mems := by
  intro z hz
  cases hz
  repeat' (first
      | with_reducible rfl
      | simp only [↓mems_ite, ↓mems_mk, mems_eta, ↓State.takeNamed_mems, ite_self, implies_true, id_eq]
      | split)

theorem execDeferredNoteStart_mems (g : _) (s : State) : ∀ z, execDeferredNoteStart g s = .next z →
    z.mems = s.mems := by
  intro z hz
  cases hz
  repeat' (first
      | with_reducible rfl
      | simp only [↓mems_ite, ↓mems_mk, mems_eta, ↓State.retryGroup_mems, ite_self, implies_true, id_eq]
      | split)

theorem execStealResume_mems (g : _) (s : State) : ∀ z, execStealResume g s = .next z → z.mems = s.mems := by
  intro z hz
  cases hz
  repeat' (first
      | with_reducible rfl
      | simp only [↓mems_ite, ↓mems_mk, mems_eta, ↓State.killGroup_mems, ↓State.retryGroup_mems, ite_self,
          implies_true, id_eq]
      | split)

theorem execPhPhase_mems (w : _) (s : State) : ∀ z, execPhPhase w s = .next z → z.mems = s.mems := by
  intro z hz
  cases hz
  repeat' (first
      | with_reducible rfl
      | simp only [↓mems_ite, ↓mems_mk, mems_eta, ↓State.phasorRow_mems, ite_self, implies_true, id_eq]
      | split)

theorem execPhRate_mems (w : _) (s : State) : ∀ z, execPhRate w s = .next z → z.mems = s.mems := by
  intro z hz
  cases hz
  repeat' (first
      | with_reducible rfl
      | simp only [↓mems_ite, ↓mems_mk, mems_eta, ↓State.phasorRow_mems, ite_self, implies_true, id_eq]
      | split)

theorem execPhSlope_mems (w : _) (s : State) : ∀ z, execPhSlope w s = .next z → z.mems = s.mems := by
  intro z hz
  cases hz
  repeat' (first
      | with_reducible rfl
      | simp only [↓mems_ite, ↓mems_mk, mems_eta, ↓State.phasorRow_mems, ite_self, implies_true, id_eq]
      | split)

theorem execJoinDecrement_mems (g : _) (s : State) : ∀ z, execJoinDecrement g s = .next z → z.mems = s.mems := by
  intro z hz
  cases hz
  repeat' (first
      | with_reducible rfl
      | simp only [↓mems_ite, ↓mems_mk, mems_eta, ↓State.joinDown_mems, ite_self, implies_true, id_eq]
      | split)

theorem execVmEnable_mems (m : _) (w : _) (s : State) : ∀ z, execVmEnable m w s = .next z → z.mems = s.mems := by
  intro z hz
  cases hz
  repeat' (first
      | with_reducible rfl
      | simp only [↓mems_ite, ↓mems_mk, mems_eta, ↓State.guardWrite_mems, ↓State.vmSet_mems, ite_self,
          implies_true, id_eq]
      | split)

theorem execVmDisable_mems (m : _) (s : State) : ∀ z, execVmDisable m s = .next z → z.mems = s.mems := by
  intro z hz
  cases hz
  repeat' (first
      | with_reducible rfl
      | simp only [↓mems_ite, ↓mems_mk, mems_eta, ↓State.guardWrite_mems, ↓State.vmSet_mems, ite_self,
          implies_true, id_eq]
      | split)

theorem execVmShutdownComplete_mems (s : State) : ∀ z, execVmShutdownComplete s = .next z → z.mems = s.mems := by
  intro z hz
  cases hz
  repeat' (first
      | with_reducible rfl
      | simp only [↓mems_ite, ↓mems_mk, mems_eta, ↓State.vmOff_mems, ite_self, implies_true, id_eq]
      | split)

theorem execVoiceGroupEnable_mems (m : _) (g : _) (w : _) (s : State) : ∀ z,
    execVoiceGroupEnable m g w s = .next z → z.mems = s.mems := by
  intro z hz
  cases hz
  repeat' (first
      | with_reducible rfl
      | simp only [↓mems_ite, ↓mems_mk, mems_eta, ↓State.guardWrite_mems, ↓State.grpSet_mems, ite_self,
          implies_true, id_eq]
      | split)

theorem execVoiceGroupDisable_mems (m : _) (g : _) (s : State) : ∀ z, execVoiceGroupDisable m g s = .next z →
    z.mems = s.mems := by
  intro z hz
  cases hz
  repeat' (first
      | with_reducible rfl
      | simp only [↓mems_ite, ↓mems_mk, mems_eta, ↓State.guardWrite_mems, ↓State.grpSet_mems, ite_self,
          implies_true, id_eq]
      | split)

theorem execHostPostVoice_mems (m : _) (s : State) : ∀ z, execHostPostVoice m s = .next z → z.mems = s.mems := by
  intro z hz
  cases hz
  repeat' (first
      | with_reducible rfl
      | simp only [↓mems_ite, ↓mems_mk, mems_eta, ↓State.guardWrite_mems, ↓State.hostVoice_mems, ite_self,
          implies_true, id_eq]
      | split)

theorem execHeldEventReady_mems (s : State) : ∀ z, execHeldEventReady s = .next z → z.mems = s.mems := by
  intro z hz
  cases hz
  repeat' (first
      | with_reducible rfl
      | simp only [↓mems_ite, ↓mems_mk, mems_eta, ↓State.releaseWords_mems, ↓State.releaseHeld_mems, ite_self,
          implies_true, id_eq]
      | split)

theorem execPipStart_mems (c : _) (s : State) : ∀ z, execPipStart c s = .next z → z.mems = s.mems := by
  intro z hz
  cases hz
  repeat' (first
      | with_reducible rfl
      | simp only [↓mems_ite, ↓mems_mk, mems_eta, ↓State.pipStart_mems, ite_self, implies_true, id_eq]
      | split)

theorem execUrgentPreempt_mems (c : _) (s : State) : ∀ z, execUrgentPreempt c s = .next z → z.mems = s.mems := by
  intro z hz
  cases hz
  repeat' (first
      | with_reducible rfl
      | simp only [↓mems_ite, ↓mems_mk, mems_eta, ↓State.preempt_mems, ite_self, implies_true, id_eq]
      | split)

theorem execQdoneComplete_mems (c : _) (s : State) : ∀ z, execQdoneComplete c s = .next z → z.mems = s.mems := by
  intro z hz
  cases hz
  repeat' (first
      | with_reducible rfl
      | simp only [↓mems_ite, ↓mems_mk, mems_eta, ↓State.qdoneDone_mems, ite_self, implies_true, id_eq]
      | split)

theorem execQuadEnable_mems (m : _) (q : _) (w : _) (s : State) : ∀ z, execQuadEnable m q w s = .next z →
    z.mems = s.mems := by
  intro z hz
  cases hz
  repeat' (first
      | with_reducible rfl
      | simp only [↓mems_ite, ↓mems_mk, mems_eta, ↓State.guardWrite_mems, ↓State.quadSet_mems, ite_self,
          implies_true, id_eq]
      | split)

theorem execQuadDisable_mems (m : _) (q : _) (s : State) : ∀ z, execQuadDisable m q s = .next z →
    z.mems = s.mems := by
  intro z hz
  cases hz
  repeat' (first
      | with_reducible rfl
      | simp only [↓mems_ite, ↓mems_mk, mems_eta, ↓State.guardWrite_mems, ↓State.quadSet_mems, ite_self,
          implies_true, id_eq]
      | split)

theorem execNextEntryWrite_mems (m : _) (d : _) (w : _) (s : State) : ∀ z, execNextEntryWrite m d w s = .next z →
    z.mems = s.mems := by
  intro z hz
  cases hz
  repeat' (first
      | with_reducible rfl
      | simp only [↓mems_ite, ↓mems_mk, mems_eta, ↓State.guardWrite_mems, ↓State.nextSet_mems, ite_self,
          implies_true, id_eq]
      | split)

theorem execSwapArm_mems (m : _) (s : State) : ∀ z, execSwapArm m s = .next z → z.mems = s.mems := by
  intro z hz
  cases hz
  repeat' (first
      | with_reducible rfl
      | simp only [↓mems_ite, ↓mems_mk, mems_eta, ↓State.guardWrite_mems, ↓State.swapSet_mems, ite_self,
          implies_true, id_eq]
      | split)

theorem execSwapDisarm_mems (m : _) (s : State) : ∀ z, execSwapDisarm m s = .next z → z.mems = s.mems := by
  intro z hz
  cases hz
  repeat' (first
      | with_reducible rfl
      | simp only [↓mems_ite, ↓mems_mk, mems_eta, ↓State.guardWrite_mems, ↓State.swapSet_mems, ite_self,
          implies_true, id_eq]
      | split)

theorem execSwapAtTick_mems (s : State) : ∀ z, execSwapAtTick s = .next z → z.mems = s.mems := by
  intro z hz
  cases hz
  repeat' (first
      | with_reducible rfl
      | simp only [↓mems_ite, ↓mems_mk, mems_eta, ↓State.swapTick_mems, ite_self, implies_true, id_eq]
      | split)

theorem execSwapComplete_mems (s : State) : ∀ z, execSwapComplete s = .next z → z.mems = s.mems := by
  intro z hz
  cases hz
  repeat' (first
      | with_reducible rfl
      | simp only [↓mems_ite, ↓mems_mk, mems_eta, ↓State.swapDone_mems, ite_self, implies_true, id_eq]
      | split)

theorem execCrossfadeEnd_mems (d : _) (s : State) : ∀ z, execCrossfadeEnd d s = .next z → z.mems = s.mems := by
  intro z hz
  cases hz
  repeat' (first
      | with_reducible rfl
      | simp only [↓mems_ite, ↓mems_mk, mems_eta, ↓State.fadeEnd_mems, ite_self, implies_true, id_eq]
      | split)

theorem execRecallCommand_mems (src : _) (w : _) (s : State) : ∀ z, execRecallCommand src w s = .next z →
    z.mems = s.mems := by
  intro z hz
  cases hz
  repeat' (first
      | with_reducible rfl
      | simp only [↓mems_ite, ↓mems_mk, mems_eta, ↓State.recallCmd_mems, ite_self, implies_true, id_eq]
      | split)

theorem execRecallArm_mems (m : _) (scene : _) (s : State) : ∀ z, execRecallArm m scene s = .next z →
    z.mems = s.mems := by
  intro z hz
  cases hz
  repeat' (first
      | with_reducible rfl
      | simp only [↓mems_ite, ↓mems_mk, mems_eta, ↓State.guardWrite_mems, ↓State.rclSet_mems, ite_self,
          implies_true, id_eq]
      | split)

theorem execRecallDisarm_mems (m : _) (s : State) : ∀ z, execRecallDisarm m s = .next z → z.mems = s.mems := by
  intro z hz
  cases hz
  repeat' (first
      | with_reducible rfl
      | simp only [↓mems_ite, ↓mems_mk, mems_eta, ↓State.guardWrite_mems, ↓State.rclSet_mems, ite_self,
          implies_true, id_eq]
      | split)

theorem execRecallListChecked_mems (s : State) : ∀ z, execRecallListChecked s = .next z → z.mems = s.mems := by
  intro z hz
  cases hz
  repeat' (first
      | with_reducible rfl
      | simp only [↓mems_ite, ↓mems_mk, mems_eta, ↓State.listChecked_mems, ↓mems_foldl, ↓mems_foldr, ite_self,
          implies_true, id_eq]
      | split)

theorem execRecallTimeout_mems (s : State) : ∀ z, execRecallTimeout s = .next z → z.mems = s.mems := by
  intro z hz
  cases hz
  repeat' (first
      | with_reducible rfl
      | simp only [↓mems_ite, ↓mems_mk, mems_eta, ↓State.recallTimeout_mems, ite_self, implies_true, id_eq]
      | split)

theorem execRecallApply_mems (s : State) : ∀ z, execRecallApply s = .next z → z.mems = s.mems := by
  intro z hz
  cases hz
  repeat' (first
      | with_reducible rfl
      | simp only [↓mems_ite, ↓mems_mk, mems_eta, ↓State.recallApply_mems, ite_self, implies_true, id_eq]
      | split)

theorem execPortEnable_mems (m : _) (n : _) (s : State) : ∀ z, execPortEnable m n s = .next z → z.mems = s.mems := by
  intro z hz
  cases hz
  repeat' (first
      | with_reducible rfl
      | simp only [↓mems_ite, ↓mems_mk, mems_eta, ↓State.guardWrite_mems, ↓State.apCtrlSet_mems, ite_self,
          implies_true, id_eq]
      | split)

theorem execPortDisable_mems (m : _) (n : _) (s : State) : ∀ z, execPortDisable m n s = .next z →
    z.mems = s.mems := by
  intro z hz
  cases hz
  repeat' (first
      | with_reducible rfl
      | simp only [↓mems_ite, ↓mems_mk, mems_eta, ↓State.guardWrite_mems, ↓State.apCtrlSet_mems, ite_self,
          implies_true, id_eq]
      | split)

theorem execPortOn_mems (n : _) (s : State) : ∀ z, execPortOn n s = .next z → z.mems = s.mems := by
  intro z hz
  cases hz
  repeat' (first
      | with_reducible rfl
      | simp only [↓mems_ite, ↓mems_mk, mems_eta, ↓State.apOn_mems, ite_self, implies_true, id_eq]
      | split)

theorem execPortShutdownComplete_mems (n : _) (s : State) : ∀ z, execPortShutdownComplete n s = .next z →
    z.mems = s.mems := by
  intro z hz
  cases hz
  repeat' (first
      | with_reducible rfl
      | simp only [↓mems_ite, ↓mems_mk, mems_eta, ↓State.apShutDone_mems, ite_self, implies_true, id_eq]
      | split)

theorem execPortFramingError_mems (n : _) (s : State) : ∀ z, execPortFramingError n s = .next z →
    z.mems = s.mems := by
  intro z hz
  cases hz
  repeat' (first
      | with_reducible rfl
      | simp only [↓mems_ite, ↓mems_mk, mems_eta, ↓State.apFraming_mems, ite_self, implies_true, id_eq]
      | split)

theorem execPortSlip_mems (x : _) (s : State) : ∀ z, execPortSlip x s = .next z → z.mems = s.mems :=
    by
  intro z hz
  cases hz
  repeat' (first
      | with_reducible rfl
      | simp only [↓mems_ite, ↓mems_mk, mems_eta, ↓State.apSlip_mems, ↓mems_foldl, ↓mems_foldr, ite_self, implies_true,
          id_eq]
      | split)

theorem execPortClockLost_mems (n : _) (rateErr : _) (s : State) : ∀ z, execPortClockLost n rateErr s = .next z →
    z.mems = s.mems := by
  intro z hz
  cases hz
  repeat' (first
      | with_reducible rfl
      | simp only [↓mems_ite, ↓mems_mk, mems_eta, ↓State.apLost_mems, ite_self, implies_true, id_eq]
      | split)

theorem execPortClockReturn_mems (n : _) (s : State) : ∀ z, execPortClockReturn n s = .next z → z.mems = s.mems := by
  intro z hz
  cases hz
  repeat' (first
      | with_reducible rfl
      | simp only [↓mems_ite, ↓mems_mk, mems_eta, ↓State.apBack_mems, ite_self, implies_true, id_eq]
      | split)

theorem execMaskWrite_mems (m : _) (n : _) (out : _) (mask : _) (s : State) : ∀ z,
    execMaskWrite m n out mask s = .next z → z.mems = s.mems := by
  intro z hz
  cases hz
  repeat' (first
      | with_reducible rfl
      | simp only [↓mems_ite, ↓mems_mk, mems_eta, ↓State.guardWrite_mems, ↓State.apMaskSet_mems, ite_self,
          implies_true, id_eq]
      | split)

theorem execMaskApply_mems (n : _) (s : State) : ∀ z, execMaskApply n s = .next z → z.mems = s.mems := by
  intro z hz
  cases hz
  repeat' (first
      | with_reducible rfl
      | simp only [↓mems_ite, ↓mems_mk, mems_eta, ↓State.apMaskApply_mems, ite_self, implies_true, id_eq]
      | split)

theorem execPortGroupArm_mems (m : _) (g : _) (s : State) : ∀ z, execPortGroupArm m g s = .next z →
    z.mems = s.mems := by
  intro z hz
  cases hz
  repeat' (first
      | with_reducible rfl
      | simp only [↓mems_ite, ↓mems_mk, mems_eta, ↓State.guardWrite_mems, ↓State.apGroupSet_mems, ite_self,
          implies_true, id_eq]
      | split)

theorem execPortGroupDisarm_mems (m : _) (g : _) (s : State) : ∀ z, execPortGroupDisarm m g s = .next z →
    z.mems = s.mems := by
  intro z hz
  cases hz
  repeat' (first
      | with_reducible rfl
      | simp only [↓mems_ite, ↓mems_mk, mems_eta, ↓State.guardWrite_mems, ↓State.apGroupSet_mems, ite_self,
          implies_true, id_eq]
      | split)

theorem execPortGroupStart_mems (g : _) (s : State) : ∀ z, execPortGroupStart g s = .next z → z.mems = s.mems := by
  intro z hz
  cases hz
  repeat' (first
      | with_reducible rfl
      | simp only [↓mems_ite, ↓mems_mk, mems_eta, ↓State.apGroupStart_mems, ite_self, implies_true, id_eq]
      | split)

theorem execAsrcLock_mems (t : _) (ratio : _) (s : State) : ∀ z, execAsrcLock t ratio s = .next z →
    z.mems = s.mems := by
  intro z hz
  cases hz
  repeat' (first
      | with_reducible rfl
      | simp only [↓mems_ite, ↓mems_mk, mems_eta, ↓State.asrcLocked_mems, ite_self, implies_true, id_eq]
      | split)

theorem execAsrcChannelOn_mems (c : _) (s : State) : ∀ z, execAsrcChannelOn c s = .next z → z.mems = s.mems := by
  intro z hz
  cases hz
  repeat' (first
      | with_reducible rfl
      | simp only [↓mems_ite, ↓mems_mk, mems_eta, ↓State.asrcOn_mems, ite_self, implies_true, id_eq]
      | split)

theorem execAsrcChannelOff_mems (c : _) (s : State) : ∀ z, execAsrcChannelOff c s = .next z → z.mems = s.mems := by
  intro z hz
  cases hz
  repeat' (first
      | with_reducible rfl
      | simp only [↓mems_ite, ↓mems_mk, mems_eta, ↓State.asrcOff_mems, ite_self, implies_true, id_eq]
      | split)

theorem execAsrcRangeError_mems (c : _) (s : State) : ∀ z, execAsrcRangeError c s = .next z → z.mems = s.mems := by
  intro z hz
  cases hz
  repeat' (first
      | with_reducible rfl
      | simp only [↓mems_ite, ↓mems_mk, mems_eta, ↓State.asrcRange_mems, ite_self, implies_true, id_eq]
      | split)

theorem execAsrcRangeReturn_mems (c : _) (s : State) : ∀ z, execAsrcRangeReturn c s = .next z → z.mems = s.mems := by
  intro z hz
  cases hz
  repeat' (first
      | with_reducible rfl
      | simp only [↓mems_ite, ↓mems_mk, mems_eta, ↓State.asrcRange_mems, ite_self, implies_true, id_eq]
      | split)

theorem execAesRxEnable_mems (m : _) (r : _) (s : State) : ∀ z, execAesRxEnable m r s = .next z →
    z.mems = s.mems := by
  intro z hz
  cases hz
  repeat' (first
      | with_reducible rfl
      | simp only [↓mems_ite, ↓mems_mk, mems_eta, ↓State.guardWrite_mems, ↓State.rxCtrlSet_mems, ite_self,
          implies_true, id_eq]
      | split)

theorem execAesRxDisable_mems (m : _) (r : _) (s : State) : ∀ z, execAesRxDisable m r s = .next z →
    z.mems = s.mems := by
  intro z hz
  cases hz
  repeat' (first
      | with_reducible rfl
      | simp only [↓mems_ite, ↓mems_mk, mems_eta, ↓State.guardWrite_mems, ↓State.rxCtrlSet_mems, ite_self,
          implies_true, id_eq]
      | split)

theorem execAesRxLock_mems (r : _) (nom : _) (s : State) : ∀ z, execAesRxLock r nom s = .next z →
    z.mems = s.mems := by
  intro z hz
  cases hz
  repeat' (first
      | with_reducible rfl
      | simp only [↓mems_ite, ↓mems_mk, mems_eta, ↓State.rxLock_mems, ite_self, implies_true, id_eq]
      | split)

theorem execAesRxUnlock_mems (r : _) (s : State) : ∀ z, execAesRxUnlock r s = .next z → z.mems = s.mems := by
  intro z hz
  cases hz
  repeat' (first
      | with_reducible rfl
      | simp only [↓mems_ite, ↓mems_mk, mems_eta, ↓State.rxUnlock_mems, ite_self, implies_true, id_eq]
      | split)

theorem execAesBlockStored_mems (r : _) (u : _) (len : _) (cs : _) (us : _) (s : State) : ∀ z,
    execAesBlockStored r u len cs us s = .next z → z.mems = s.mems := by
  intro z hz
  cases hz
  repeat' (first
      | with_reducible rfl
      | simp only [↓mems_ite, ↓mems_mk, mems_eta, ↓State.rxBlock_mems, ite_self, implies_true, id_eq]
      | split)

theorem execAesSubframeParityError_mems (r : _) (_u : _) (s : State) : ∀ z,
    execAesSubframeParityError r _u s = .next z → z.mems = s.mems := by
  intro z hz
  cases hz
  repeat' (first
      | with_reducible rfl
      | simp only [↓mems_ite, ↓mems_mk, mems_eta, ↓State.rxParity_mems, ite_self, implies_true, id_eq]
      | split)

theorem execAesTxEnable_mems (m : _) (t : _) (s : State) : ∀ z, execAesTxEnable m t s = .next z →
    z.mems = s.mems := by
  intro z hz
  cases hz
  repeat' (first
      | with_reducible rfl
      | simp only [↓mems_ite, ↓mems_mk, mems_eta, ↓State.guardWrite_mems, ↓State.txCtrlSet_mems, ite_self,
          implies_true, id_eq]
      | split)

theorem execAesTxDisable_mems (m : _) (t : _) (s : State) : ∀ z, execAesTxDisable m t s = .next z →
    z.mems = s.mems := by
  intro z hz
  cases hz
  repeat' (first
      | with_reducible rfl
      | simp only [↓mems_ite, ↓mems_mk, mems_eta, ↓State.guardWrite_mems, ↓State.txCtrlSet_mems, ite_self,
          implies_true, id_eq]
      | split)

theorem execAesTxOn_mems (t : _) (s : State) : ∀ z, execAesTxOn t s = .next z → z.mems = s.mems := by
  intro z hz
  cases hz
  repeat' (first
      | with_reducible rfl
      | simp only [↓mems_ite, ↓mems_mk, mems_eta, ↓State.txOn_mems, ite_self, implies_true, id_eq]
      | split)

theorem execAesTxOff_mems (t : _) (s : State) : ∀ z, execAesTxOff t s = .next z → z.mems = s.mems := by
  intro z hz
  cases hz
  repeat' (first
      | with_reducible rfl
      | simp only [↓mems_ite, ↓mems_mk, mems_eta, ↓State.txOff_mems, ite_self, implies_true, id_eq]
      | split)

theorem execAesTxCsWrite_mems (m : _) (t : _) (u : _) (user : _) (w : _) (s : State) : ∀ z,
    execAesTxCsWrite m t u user w s = .next z → z.mems = s.mems := by
  intro z hz
  cases hz
  repeat' (first
      | with_reducible rfl
      | simp only [↓mems_ite, ↓mems_mk, mems_eta, ↓State.guardWrite_mems, ↓State.txSetWord_mems, ite_self,
          implies_true, id_eq]
      | split)

theorem execAesTxCsApply_mems (t : _) (s : State) : ∀ z, execAesTxCsApply t s = .next z → z.mems = s.mems := by
  intro z hz
  cases hz
  repeat' (first
      | with_reducible rfl
      | simp only [↓mems_ite, ↓mems_mk, mems_eta, ↓State.txApply_mems, ite_self, implies_true, id_eq]
      | split)

theorem execTimerEnable_mems (m : _) (n : _) (s : State) : ∀ z, execTimerEnable m n s = .next z →
    z.mems = s.mems := by
  intro z hz
  cases hz
  repeat' (first
      | with_reducible rfl
      | simp only [↓mems_ite, ↓mems_mk, mems_eta, ↓State.guardWrite_mems, ↓State.tmCtrlSet_mems, ite_self,
          implies_true, id_eq]
      | split)

theorem execTimerDisable_mems (m : _) (n : _) (s : State) : ∀ z, execTimerDisable m n s = .next z →
    z.mems = s.mems := by
  intro z hz
  cases hz
  repeat' (first
      | with_reducible rfl
      | simp only [↓mems_ite, ↓mems_mk, mems_eta, ↓State.guardWrite_mems, ↓State.tmCtrlSet_mems, ite_self,
          implies_true, id_eq]
      | split)

theorem execTimerStart_mems (n : _) (s : State) : ∀ z, execTimerStart n s = .next z → z.mems = s.mems := by
  intro z hz
  cases hz
  repeat' (first
      | with_reducible rfl
      | simp only [↓mems_ite, ↓mems_mk, mems_eta, ↓State.tmReach_mems, ↓mems_foldl, ↓mems_foldr, ite_self,
          implies_true, id_eq]
      | split)

theorem execLapStart_mems (n : _) (s : State) : ∀ z, execLapStart n s = .next z → z.mems = s.mems := by
  intro z hz
  cases hz
  repeat' (first
      | with_reducible rfl
      | simp only [↓mems_ite, ↓mems_mk, mems_eta, ↓State.tmReach_mems, ↓mems_foldl, ↓mems_foldr, ite_self,
          implies_true, id_eq]
      | split)

theorem execCompareMatch_mems (n : _) (b : _) (s : State) : ∀ z, execCompareMatch n b s = .next z → z.mems = s.mems :=
    by
  intro z hz
  cases hz
  repeat' (first
      | with_reducible rfl
      | simp only [↓mems_ite, ↓mems_mk, mems_eta, ↓State.tmReach_mems, ↓mems_foldl, ↓mems_foldr, ite_self,
          implies_true, id_eq]
      | split)

theorem execTimerShutdownComplete_mems (n : _) (s : State) : ∀ z, execTimerShutdownComplete n s = .next z → z.mems =
    s.mems := by
  intro z hz
  cases hz
  repeat' (first
      | with_reducible rfl
      | simp only [↓mems_ite, ↓mems_mk, mems_eta, ↓State.tmReach_mems, ↓mems_foldl, ↓mems_foldr, ite_self,
          implies_true, id_eq]
      | split)

theorem execTimerReloadWrite_mems (m : _) (n : _) (w : _) (s : State) : ∀ z,
    execTimerReloadWrite m n w s = .next z → z.mems = s.mems := by
  intro z hz
  cases hz
  repeat' (first
      | with_reducible rfl
      | simp only [↓mems_ite, ↓mems_mk, mems_eta, ↓State.guardWrite_mems, ↓State.tmReload_mems, ite_self,
          implies_true, id_eq]
      | split)

theorem execCompareWrite_mems (m : _) (n : _) (b : _) (w : _) (s : State) : ∀ z,
    execCompareWrite m n b w s = .next z → z.mems = s.mems := by
  intro z hz
  cases hz
  repeat' (first
      | with_reducible rfl
      | simp only [↓mems_ite, ↓mems_mk, mems_eta, ↓State.guardWrite_mems, ↓State.cmpSet_mems, ite_self,
          implies_true, id_eq]
      | split)

theorem execTimerCntRead_mems (m : _) (n : _) (s : State) : ∀ z, execTimerCntRead m n s = .next z →
    z.mems = s.mems := by
  intro z hz
  cases hz
  repeat' (first
      | with_reducible rfl
      | simp only [↓mems_ite, ↓mems_mk, mems_eta, ↓State.guardRead_mems, ↓State.tmCntRead_mems, ite_self,
          implies_true, id_eq]
      | split)

theorem execTimerGroupArm_mems (m : _) (g : _) (s : State) : ∀ z, execTimerGroupArm m g s = .next z →
    z.mems = s.mems := by
  intro z hz
  cases hz
  repeat' (first
      | with_reducible rfl
      | simp only [↓mems_ite, ↓mems_mk, mems_eta, ↓State.guardWrite_mems, ↓State.tmGroupSet_mems, ite_self,
          implies_true, id_eq]
      | split)

theorem execTimerGroupDisarm_mems (m : _) (g : _) (s : State) : ∀ z, execTimerGroupDisarm m g s = .next z →
    z.mems = s.mems := by
  intro z hz
  cases hz
  repeat' (first
      | with_reducible rfl
      | simp only [↓mems_ite, ↓mems_mk, mems_eta, ↓State.guardWrite_mems, ↓State.tmGroupSet_mems, ite_self,
          implies_true, id_eq]
      | split)

theorem execTimerGroupGo_mems (m : _) (g : _) (s : State) : ∀ z, execTimerGroupGo m g s = .next z →
    z.mems = s.mems := by
  intro z hz
  cases hz
  repeat' (first
      | with_reducible rfl
      | simp only [↓mems_ite, ↓mems_mk, mems_eta, ↓State.guardWrite_mems, ↓State.tmGroupSet_mems, ite_self,
          implies_true, id_eq]
      | split)

theorem execTimerGroupStart_mems (g : _) (s : State) : ∀ z, execTimerGroupStart g s = .next z → z.mems = s.mems := by
  intro z hz
  cases hz
  repeat' (first
      | with_reducible rfl
      | simp only [↓mems_ite, ↓mems_mk, mems_eta, ↓State.tmGroupStart_mems, ite_self, implies_true, id_eq]
      | split)

theorem execCapture_mems (x : _) (s : State) : ∀ z, execCapture x s = .next z →
    z.mems = s.mems := by
  intro z hz
  cases hz
  repeat' (first
      | with_reducible rfl
      | simp only [↓mems_ite, ↓mems_mk, mems_eta, ↓State.tmInput_mems, ↓mems_foldl, ↓mems_foldr, ite_self,
          implies_true, id_eq]
      | split)

theorem execCaptRead_mems (m : _) (n : _) (s : State) : ∀ z, execCaptRead m n s = .next z → z.mems = s.mems := by
  intro z hz
  cases hz
  repeat' (first
      | with_reducible rfl
      | simp only [↓mems_ite, ↓mems_mk, mems_eta, ↓State.guardRead_mems, ↓State.tmCaptRead_mems, ite_self,
          implies_true, id_eq]
      | split)

theorem execSwcap_mems (m : _) (n : _) (s : State) : ∀ z, execSwcap m n s = .next z → z.mems = s.mems := by
  intro z hz
  cases hz
  repeat' (first
      | with_reducible rfl
      | simp only [↓mems_ite, ↓mems_mk, mems_eta, ↓State.guardWrite_mems, ↓State.tmCtrlSet_mems, ite_self,
          implies_true, id_eq]
      | split)

theorem execUartEnable_mems (m : _) (n : _) (w : _) (s : State) : ∀ z, execUartEnable m n w s = .next z →
    z.mems = s.mems := by
  intro z hz
  cases hz
  repeat' (first
      | with_reducible rfl
      | simp only [↓mems_ite, ↓mems_mk, mems_eta, ↓State.guardWrite_mems, ↓State.uWrite_mems, ↓State.uCtrlSet_mems,
          ite_self, implies_true, id_eq]
      | split)

theorem execUartDisable_mems (m : _) (n : _) (w : _) (s : State) : ∀ z, execUartDisable m n w s = .next z →
    z.mems = s.mems := by
  intro z hz
  cases hz
  repeat' (first
      | with_reducible rfl
      | simp only [↓mems_ite, ↓mems_mk, mems_eta, ↓State.guardWrite_mems, ↓State.uWrite_mems, ↓State.uCtrlSet_mems,
          ite_self, implies_true, id_eq]
      | split)

theorem execUartOn_mems (n : _) (s : State) : ∀ z, execUartOn n s = .next z → z.mems = s.mems := by
  intro z hz
  cases hz
  repeat' (first
      | with_reducible rfl
      | simp only [↓mems_ite, ↓mems_mk, mems_eta, ↓State.uOn_mems, ite_self, implies_true, id_eq]
      | split)

theorem execUartOff_mems (n : _) (s : State) : ∀ z, execUartOff n s = .next z → z.mems = s.mems := by
  intro z hz
  cases hz
  repeat' (first
      | with_reducible rfl
      | simp only [↓mems_ite, ↓mems_mk, mems_eta, ↓State.uOff_mems, ite_self, implies_true, id_eq]
      | split)

theorem execCharacterReceived_mems (n start first data par stops : _) (s : State) : ∀ z,
    execCharacterReceived n start first data par stops s = .next z → z.mems = s.mems := by
  intro z hz
  cases hz
  repeat' (first
      | with_reducible rfl
      | simp only [↓mems_ite, ↓mems_mk, mems_eta, ↓State.uEdge_mems, ↓State.uEnds_mems, ↓mems_foldl, ↓mems_foldr,
          ite_self, implies_true, id_eq]
      | split)

theorem execRxRead_mems (m : _) (n : _) (s : State) : ∀ z, execRxRead m n s = .next z → z.mems = s.mems := by
  intro z hz
  cases hz
  repeat' (first
      | with_reducible rfl
      | simp only [↓mems_ite, ↓mems_mk, mems_eta, ↓State.guardRead_mems, ↓State.uRxRead_mems, ite_self,
          implies_true, id_eq]
      | split)

theorem execTxWrite_mems (m : _) (n : _) (data : _) (s : State) : ∀ z, execTxWrite m n data s = .next z →
    z.mems = s.mems := by
  intro z hz
  cases hz
  repeat' (first
      | with_reducible rfl
      | simp only [↓mems_ite, ↓mems_mk, mems_eta, ↓State.guardWrite_mems, ↓State.uWrite_mems, ↓State.uTxWrite_mems,
          ite_self, implies_true, id_eq]
      | split)

theorem execCharacterTransmit_mems (x : _) (s : State) : ∀ z, execCharacterTransmit x s = .next z →
    z.mems = s.mems := by
  intro z hz
  cases hz
  repeat' (first
      | with_reducible rfl
      | simp only [↓mems_ite, ↓mems_mk, mems_eta, ↓State.uTransmit_mems, ↓mems_foldl, ↓mems_foldr, ite_self,
          implies_true, id_eq]
      | split)

theorem execDivisorWrite_mems (m : _) (n : _) (w : _) (s : State) : ∀ z, execDivisorWrite m n w s = .next z →
    z.mems = s.mems := by
  intro z hz
  cases hz
  repeat' (first
      | with_reducible rfl
      | simp only [↓mems_ite, ↓mems_mk, mems_eta, ↓State.guardWrite_mems, ↓State.uWrite_mems, ↓State.uDivSet_mems,
          ite_self, implies_true, id_eq]
      | split)

theorem execLineRetire_mems (n : _) (s : State) : ∀ z, execLineRetire n s = .next z → z.mems = s.mems := by
  intro z hz
  cases hz
  repeat' (first
      | with_reducible rfl
      | simp only [↓mems_ite, ↓mems_mk, mems_eta, ↓State.uRetire_mems, ite_self, implies_true, id_eq]
      | split)

theorem execLineRearm_mems (m : _) (n : _) (w : _) (s : State) : ∀ z, execLineRearm m n w s = .next z →
    z.mems = s.mems := by
  intro z hz
  cases hz
  repeat' (first
      | with_reducible rfl
      | simp only [↓mems_ite, ↓mems_mk, mems_eta, ↓State.guardWrite_mems, ↓State.uWrite_mems, ↓State.uLineSet_mems,
          ite_self, implies_true, id_eq]
      | split)

theorem execMidiChannelMessage_mems (n : _) (s : State) : ∀ z, execMidiChannelMessage n s = .next z →
    z.mems = s.mems := by
  intro z hz
  cases hz
  repeat' (first
      | with_reducible rfl
      | simp only [↓mems_ite, ↓mems_mk, mems_eta, ↓State.uMidiEvent_mems, ite_self, implies_true, id_eq]
      | split)

theorem execMidiCommonMessage_mems (n : _) (s : State) : ∀ z, execMidiCommonMessage n s = .next z →
    z.mems = s.mems := by
  intro z hz
  cases hz
  repeat' (first
      | with_reducible rfl
      | simp only [↓mems_ite, ↓mems_mk, mems_eta, ↓State.uMidiEvent_mems, ite_self, implies_true, id_eq]
      | split)

theorem execMidiRealtimeMessage_mems (n : _) (s : State) : ∀ z, execMidiRealtimeMessage n s = .next z →
    z.mems = s.mems := by
  intro z hz
  cases hz
  repeat' (first
      | with_reducible rfl
      | simp only [↓mems_ite, ↓mems_mk, mems_eta, ↓State.uMidiEvent_mems, ite_self, implies_true, id_eq]
      | split)

theorem execMidiSysexEvent_mems (n : _) (s : State) : ∀ z, execMidiSysexEvent n s = .next z → z.mems = s.mems := by
  intro z hz
  cases hz
  repeat' (first
      | with_reducible rfl
      | simp only [↓mems_ite, ↓mems_mk, mems_eta, ↓State.uMidiEvent_mems, ite_self, implies_true, id_eq]
      | split)

theorem execRotationConversion_mems (code : _) (s : State) : ∀ z, execRotationConversion code s = .next z → z.mems =
    s.mems := by
  intro z hz
  cases hz
  repeat' (first
      | with_reducible rfl
      | simp only [↓mems_ite, ↓mems_mk, mems_eta, ↓State.inSlot_mems, ↓State.rotation_mems, ↓mems_foldl, ↓mems_foldr,
          ite_self, implies_true, id_eq]
      | split)

theorem execScanConversion_mems (code : _) (s : State) : ∀ z, execScanConversion code s = .next z → z.mems = s.mems :=
    by
  intro z hz
  cases hz
  repeat' (first
      | with_reducible rfl
      | simp only [↓mems_ite, ↓mems_mk, mems_eta, ↓State.inSlot_mems, ↓State.scanSlot_mems, ↓mems_foldl, ↓mems_foldr,
          ite_self, implies_true, id_eq]
      | split)

theorem execMeterPeakRead_mems (m : _) (k : _) (s : State) : ∀ z, execMeterPeakRead m k s = .next z →
    z.mems = s.mems := by
  intro z hz
  cases hz
  repeat' (first
      | with_reducible rfl
      | simp only [↓mems_ite, ↓mems_mk, mems_eta, ↓State.guardRead_mems, ↓State.meterRead_mems, ite_self,
          implies_true, id_eq]
      | split)

theorem execPeakHoldExpire_mems (k : _) (s : State) : ∀ z, execPeakHoldExpire k s = .next z → z.mems = s.mems := by
  intro z hz
  cases hz
  repeat' (first
      | with_reducible rfl
      | simp only [↓mems_ite, ↓mems_mk, mems_eta, ↓State.peakFall_mems, ite_self, implies_true, id_eq]
      | split)

theorem execLoudnessReset_mems (m : _) (g : _) (w : _) (s : State) : ∀ z, execLoudnessReset m g w s = .next z →
    z.mems = s.mems := by
  intro z hz
  cases hz
  repeat' (first
      | with_reducible rfl
      | simp only [↓mems_ite, ↓mems_mk, mems_eta, ↓State.guardWrite_mems, ↓State.lgSet_mems, ite_self,
          implies_true, id_eq]
      | split)

theorem execLoudnessUpdate_mems (g : _) (s : State) : ∀ z, execLoudnessUpdate g s = .next z → z.mems = s.mems := by
  intro z hz
  cases hz
  repeat' (first
      | with_reducible rfl
      | simp only [↓mems_ite, ↓mems_mk, mems_eta, ↓State.lgUpdate_mems, ite_self, implies_true, id_eq]
      | split)

theorem execPrefetchComplete_mems (c : _) (s : State) : ∀ z, execPrefetchComplete c s = .next z →
    z.mems = s.mems := by
  intro z hz
  cases hz
  repeat' (first
      | with_reducible rfl
      | simp only [↓mems_ite, ↓mems_mk, mems_eta, ↓State.prefetched_mems, ite_self, implies_true, id_eq]
      | split)

theorem execCoreParityError_mems (c : _) (imem : _) (s : State) : ∀ z, execCoreParityError c imem s = .next z →
    z.mems = s.mems := by
  intro z hz
  cases hz
  repeat' (first
      | with_reducible rfl
      | simp only [↓mems_ite, ↓mems_mk, mems_eta, ↓State.parityError_mems, ite_self, implies_true, id_eq]
      | split)

theorem execRepairCopyComplete_mems (s : State) : ∀ z, execRepairCopyComplete s = .next z → z.mems = s.mems := by
  intro z hz
  cases hz
  repeat' (first
      | with_reducible rfl
      | simp only [↓mems_ite, ↓mems_mk, mems_eta, ↓State.repairDone_mems, ite_self, implies_true, id_eq]
      | split)

theorem execRotationStart_mems (s : State) : ∀ z, execRotationStart s = .next z → z.mems = s.mems := by
  intro z hz
  cases hz
  repeat' (first
      | with_reducible rfl
      | simp only [↓mems_ite, ↓mems_mk, mems_eta, ↓State.rotStart_mems, ite_self, implies_true, id_eq]
      | split)

theorem execRotationCopyComplete_mems (s : State) : ∀ z, execRotationCopyComplete s = .next z → z.mems = s.mems := by
  intro z hz
  cases hz
  repeat' (first
      | with_reducible rfl
      | simp only [↓mems_ite, ↓mems_mk, mems_eta, ↓State.rotCopied_mems, ite_self, implies_true, id_eq]
      | split)

theorem execRotationSwitch_mems (s : State) : ∀ z, execRotationSwitch s = .next z → z.mems = s.mems := by
  intro z hz
  cases hz
  repeat' (first
      | with_reducible rfl
      | simp only [↓mems_ite, ↓mems_mk, mems_eta, ↓State.rotSwitch_mems, ite_self, implies_true, id_eq]
      | split)

theorem execRotationTestComplete_mems (pass : _) (march : _) (s : State) : ∀ z,
    execRotationTestComplete pass march s = .next z → z.mems = s.mems := by
  intro z hz
  cases hz
  repeat' (first
      | with_reducible rfl
      | simp only [↓mems_ite, ↓mems_mk, mems_eta, ↓State.rotTested_mems, ite_self, implies_true, id_eq]
      | split)

theorem execLoanStart_mems (s : State) : ∀ z, execLoanStart s = .next z → z.mems = s.mems := by
  intro z hz
  cases hz
  repeat' (first
      | with_reducible rfl
      | simp only [↓mems_ite, ↓mems_mk, mems_eta, ↓State.loanBegin_mems, ite_self, implies_true, id_eq]
      | split)

theorem execLoanCopyComplete_mems (repair : _) (s : State) : ∀ z, execLoanCopyComplete repair s = .next z →
    z.mems = s.mems := by
  intro z hz
  cases hz
  repeat' (first
      | with_reducible rfl
      | simp only [↓mems_ite, ↓mems_mk, mems_eta, ↓State.loanCopied_mems, ite_self, implies_true, id_eq]
      | split)

theorem execLoanTestComplete_mems (repair : _) (pass : _) (s : State) : ∀ z,
    execLoanTestComplete repair pass s = .next z → z.mems = s.mems := by
  intro z hz
  cases hz
  repeat' (first
      | with_reducible rfl
      | simp only [↓mems_ite, ↓mems_mk, mems_eta, ↓State.loanTested_mems, ite_self, implies_true, id_eq]
      | split)

theorem execAsrcSpareTakeover_mems (c : _) (s : State) : ∀ z, execAsrcSpareTakeover c s = .next z →
    z.mems = s.mems := by
  intro z hz
  cases hz
  repeat' (first
      | with_reducible rfl
      | simp only [↓mems_ite, ↓mems_mk, mems_eta, ↓State.asrcTakeover_mems, ite_self, implies_true, id_eq]
      | split)

theorem execAsrcCoefficientParityError_mems (c : _) (again : _) (s : State) : ∀ z,
    execAsrcCoefficientParityError c again s = .next z → z.mems = s.mems := by
  intro z hz
  cases hz
  repeat' (first
      | with_reducible rfl
      | simp only [↓mems_ite, ↓mems_mk, mems_eta, ↓State.asrcParity_mems, ite_self, implies_true, id_eq]
      | split)

theorem execAgeingRead_mems (k : _) (slow : _) (s : State) : ∀ z, execAgeingRead k slow s = .next z →
    z.mems = s.mems := by
  intro z hz
  cases hz
  repeat' (first
      | with_reducible rfl
      | simp only [↓mems_ite, ↓mems_mk, mems_eta, ↓State.ageing_mems, ite_self, implies_true, id_eq]
      | split)

theorem execPcieLinkChange_mems (up : _) (l1 : _) (width : _) (gen : _) (s : State) : ∀ z,
    execPcieLinkChange up l1 width gen s = .next z → z.mems = s.mems := by
  intro z hz
  cases hz
  repeat' (first
      | with_reducible rfl
      | simp only [↓mems_ite, ↓mems_mk, mems_eta, ↓State.linkChange_mems, ite_self, implies_true, id_eq]
      | split)

theorem execHostStreamBlockWrite_mems (m : _) (w : _) (s : State) : ∀ z, execHostStreamBlockWrite m w s = .next z →
    z.mems = s.mems := by
  intro z hz
  cases hz
  repeat' (first
      | with_reducible rfl
      | simp only [↓mems_ite, ↓mems_mk, mems_eta, ↓State.guardWrite_mems, ↓State.regStore_mems, ite_self,
          implies_true, id_eq]
      | split)

theorem execTwinEnable_mems (m : _) (w : _) (s : State) : ∀ z, execTwinEnable m w s = .next z → z.mems = s.mems := by
  intro z hz
  cases hz
  repeat' (first
      | with_reducible rfl
      | simp only [↓mems_ite, ↓mems_mk, mems_eta, ↓State.guardWrite_mems, ↓State.twnSet_mems, ite_self,
          implies_true, id_eq]
      | split)

theorem execTwinDisable_mems (m : _) (w : _) (s : State) : ∀ z, execTwinDisable m w s = .next z →
    z.mems = s.mems := by
  intro z hz
  cases hz
  repeat' (first
      | with_reducible rfl
      | simp only [↓mems_ite, ↓mems_mk, mems_eta, ↓State.guardWrite_mems, ↓State.twnSet_mems, ite_self,
          implies_true, id_eq]
      | split)

theorem execTwinSwap_mems (m : _) (w : _) (s : State) : ∀ z, execTwinSwap m w s = .next z → z.mems = s.mems := by
  intro z hz
  cases hz
  repeat' (first
      | with_reducible rfl
      | simp only [↓mems_ite, ↓mems_mk, mems_eta, ↓State.guardWrite_mems, ↓State.twnSet_mems, ite_self,
          implies_true, id_eq]
      | split)

theorem execTwinTake_mems (m : _) (w : _) (s : State) : ∀ z, execTwinTake m w s = .next z → z.mems = s.mems := by
  intro z hz
  cases hz
  repeat' (first
      | with_reducible rfl
      | simp only [↓mems_ite, ↓mems_mk, mems_eta, ↓State.guardWrite_mems, ↓State.twnSet_mems, ite_self,
          implies_true, id_eq]
      | split)

theorem execTwinResync_mems (m : _) (w : _) (s : State) : ∀ z, execTwinResync m w s = .next z → z.mems = s.mems := by
  intro z hz
  cases hz
  repeat' (first
      | with_reducible rfl
      | simp only [↓mems_ite, ↓mems_mk, mems_eta, ↓State.guardWrite_mems, ↓State.twnSet_mems, ite_self,
          implies_true, id_eq]
      | split)

theorem execTwinPartnerFound_mems (x : _) (s : State) : ∀ z, execTwinPartnerFound x s =
    .next z → z.mems = s.mems := by
  intro z hz
  cases hz
  repeat' (first
      | with_reducible rfl
      | simp only [↓mems_ite, ↓mems_mk, mems_eta, ↓State.tellHealthy_mems, ↓State.partnerFound_mems, ↓mems_foldl,
          ↓mems_foldr, ite_self, implies_true, id_eq]
      | split)

theorem execTwinBootwaitExpire_mems (hb : _) (s : State) : ∀ z, execTwinBootwaitExpire hb s = .next z →
    z.mems = s.mems := by
  intro z hz
  cases hz
  repeat' (first
      | with_reducible rfl
      | simp only [↓mems_ite, ↓mems_mk, mems_eta, ↓State.bootwaitEnd_mems, ite_self, implies_true, id_eq]
      | split)

theorem execTwinLaneEnable_mems (m : _) (l : _) (s : State) : ∀ z, execTwinLaneEnable m l s = .next z →
    z.mems = s.mems := by
  intro z hz
  cases hz
  repeat' (first
      | with_reducible rfl
      | simp only [↓mems_ite, ↓mems_mk, mems_eta, ↓State.guardWrite_mems, ↓State.laneSet_mems, ite_self,
          implies_true, id_eq]
      | split)

theorem execTwinLaneDisable_mems (m : _) (l : _) (s : State) : ∀ z, execTwinLaneDisable m l s = .next z →
    z.mems = s.mems := by
  intro z hz
  cases hz
  repeat' (first
      | with_reducible rfl
      | simp only [↓mems_ite, ↓mems_mk, mems_eta, ↓State.guardWrite_mems, ↓State.laneSet_mems, ite_self,
          implies_true, id_eq]
      | split)

theorem execTwinLaneOn_mems (l : _) (s : State) : ∀ z, execTwinLaneOn l s = .next z → z.mems = s.mems := by
  intro z hz
  cases hz
  repeat' (first
      | with_reducible rfl
      | simp only [↓mems_ite, ↓mems_mk, mems_eta, ↓State.laneOn_mems, ite_self, implies_true, id_eq]
      | split)

theorem execTwinLaneCrcRetire_mems (l : _) (s : State) : ∀ z, execTwinLaneCrcRetire l s = .next z →
    z.mems = s.mems := by
  intro z hz
  cases hz
  repeat' (first
      | with_reducible rfl
      | simp only [↓mems_ite, ↓mems_mk, mems_eta, ↓State.laneRetire_mems, ite_self, implies_true, id_eq]
      | split)

theorem execTwinMirrorFrame_mems (seq : _) (crcOk : _) (tick : _) (item : _) (s : State) : ∀ z,
    execTwinMirrorFrame seq crcOk tick item s = .next z → z.mems = s.mems := by
  intro z hz
  cases hz
  repeat' (first
      | with_reducible rfl
      | simp only [↓mems_ite, ↓mems_mk, mems_eta, ↓State.received_mems, ↓State.mirrorRx_mems, ite_self,
          implies_true, id_eq]
      | split)

theorem execTwinAckFrame_mems (seq : _) (a : _) (s : State) : ∀ z, execTwinAckFrame seq a s = .next z → z.mems = s.mems := by
  intro z hz
  cases hz
  repeat' (first
      | with_reducible rfl
      | simp only [↓mems_ite, ↓mems_mk, mems_eta, ↓State.ackRx_mems, ↓mems_foldl, ↓mems_foldr, ite_self, implies_true,
          id_eq]
      | split)

theorem execTwinNakFrame_mems (seq : _) (crcOk : _) (s : State) : ∀ z, execTwinNakFrame seq crcOk s = .next z →
    z.mems = s.mems := by
  intro z hz
  cases hz
  repeat' (first
      | with_reducible rfl
      | simp only [↓mems_ite, ↓mems_mk, mems_eta, ↓State.nakRx_mems, ite_self, implies_true, id_eq]
      | split)

theorem execTwinStatusFrame_mems (seq : _) (crcOk : _) (blk : _) (crc : _) (s : State) : ∀ z,
    execTwinStatusFrame seq crcOk blk crc s = .next z → z.mems = s.mems := by
  intro z hz
  cases hz
  repeat' (first
      | with_reducible rfl
      | simp only [↓mems_ite, ↓mems_mk, mems_eta, ↓State.received_mems, ↓State.statusRx_mems, ite_self,
          implies_true, id_eq]
      | split)

theorem execTwinAudioFrame_mems (seq : _) (crcOk : _) (blk : _) (c : _) (xs : _) (s : State) : ∀ z,
    execTwinAudioFrame seq crcOk blk c xs s = .next z → z.mems = s.mems := by
  intro z hz
  cases hz
  repeat' (first
      | with_reducible rfl
      | simp only [↓mems_ite, ↓mems_mk, mems_eta, ↓State.received_mems, ↓State.audioRx_mems, ite_self,
          implies_true, id_eq]
      | split)

theorem execTwinHandoverFrame_mems (seq : _) (crcOk : _) (s : State) : ∀ z,
    execTwinHandoverFrame seq crcOk s = .next z → z.mems = s.mems := by
  intro z hz
  cases hz
  repeat' (first
      | with_reducible rfl
      | simp only [↓mems_ite, ↓mems_mk, mems_eta, ↓State.received_mems, ↓State.handoverRx_mems, ite_self,
          implies_true, id_eq]
      | split)

theorem execFrameResendTimeout_mems (seq : _) (s : State) : ∀ z, execFrameResendTimeout seq s = .next z → z.mems =
    s.mems := by
  intro z hz
  cases hz
  repeat' (first
      | with_reducible rfl
      | simp only [↓mems_ite, ↓mems_mk, mems_eta, ↓State.resendDue_mems, ↓mems_foldl, ↓mems_foldr, ite_self,
          implies_true, id_eq]
      | split)

theorem execResyncCopyComplete_mems (s : State) : ∀ z, execResyncCopyComplete s = .next z → z.mems = s.mems := by
  intro z hz
  cases hz
  repeat' (first
      | with_reducible rfl
      | simp only [↓mems_ite, ↓mems_mk, mems_eta, ↓State.copyDone_mems, ite_self, implies_true, id_eq]
      | split)

theorem execResyncEngineStart_mems (s : State) : ∀ z, execResyncEngineStart s = .next z → z.mems = s.mems := by
  intro z hz
  cases hz
  repeat' (first
      | with_reducible rfl
      | simp only [↓mems_ite, ↓mems_mk, mems_eta, ↓State.resyncEngine_mems, ite_self, implies_true, id_eq]
      | split)

theorem execResyncTimeout_mems (s : State) : ∀ z, execResyncTimeout s = .next z → z.mems = s.mems := by
  intro z hz
  cases hz
  repeat' (first
      | with_reducible rfl
      | simp only [↓mems_ite, ↓mems_mk, mems_eta, ↓State.resyncAgain_mems, ite_self, implies_true, id_eq]
      | split)

theorem execHeartbeatSample_mems (level : _) (s : State) : ∀ z, execHeartbeatSample level s = .next z →
    z.mems = s.mems := by
  intro z hz
  cases hz
  repeat' (first
      | with_reducible rfl
      | simp only [↓mems_ite, ↓mems_mk, mems_eta, ↓State.hbSample_mems, ite_self, implies_true, id_eq]
      | split)

theorem execTakeover_mems (s : State) : ∀ z, execTakeover s = .next z → z.mems = s.mems := by
  intro z hz
  cases hz
  repeat' (first
      | with_reducible rfl
      | simp only [↓mems_ite, ↓mems_mk, mems_eta, ↓State.takeover_mems, ite_self, implies_true, id_eq]
      | split)

theorem execWatchdogKick_mems (m : _) (w : _) (s : State) : ∀ z, execWatchdogKick m w s = .next z →
    z.mems = s.mems := by
  intro z hz
  cases hz
  repeat' (first
      | with_reducible rfl
      | simp only [↓mems_ite, ↓mems_mk, mems_eta, ↓State.guardWrite_mems, ↓State.wdogSet_mems, ite_self,
          implies_true, id_eq]
      | split)

theorem execWatchdogExpire_mems (s : State) : ∀ z, execWatchdogExpire s = .next z → z.mems = s.mems := by
  intro z hz
  cases hz
  repeat' (first
      | with_reducible rfl
      | simp only [↓mems_ite, ↓mems_mk, mems_eta, ↓State.wdogExpire_mems, ↓mems_foldl, ↓mems_foldr, ite_self,
          implies_true, id_eq]
      | split)

theorem execSupplyGood_mems (k : _) (s : State) : ∀ z, execSupplyGood k s = .next z → z.mems = s.mems := by
  intro z hz
  cases hz
  repeat' (first
      | with_reducible rfl
      | simp only [↓mems_ite, ↓mems_mk, mems_eta, ↓State.set_mems, ite_self, implies_true, id_eq]
      | split)

theorem execDigestCheckComplete_mems (good : _) (s : State) : ∀ z, execDigestCheckComplete good s = .next z →
    z.mems = s.mems := by
  intro z hz
  cases hz
  repeat' (first
      | with_reducible rfl
      | simp only [↓mems_ite, ↓mems_mk, mems_eta, ↓State.digestsChecked_mems, ite_self, implies_true, id_eq]
      | split)

theorem execFirmwareStart_mems (s : State) : ∀ z, execFirmwareStart s = .next z → z.mems = s.mems := by
  intro z hz
  cases hz
  repeat' (first
      | with_reducible rfl
      | simp only [↓mems_ite, ↓mems_mk, mems_eta, ↓State.firmwareRuns_mems, ite_self, implies_true, id_eq]
      | split)

theorem execRecoveryRequest_mems (heldMs : _) (syncInTime : _) (sync : _) (s : State) : ∀ z,
    execRecoveryRequest heldMs syncInTime sync s = .next z → z.mems = s.mems := by
  intro z hz
  cases hz
  repeat' (first
      | with_reducible rfl
      | simp only [↓mems_ite, ↓mems_mk, mems_eta, ↓State.recoveryCheck_mems, ite_self, implies_true, id_eq]
      | split)

theorem execStandbyRequest_mems (m : _) (w : _) (s : State) : ∀ z, execStandbyRequest m w s = .next z →
    z.mems = s.mems := by
  intro z hz
  cases hz
  repeat' (first
      | with_reducible rfl
      | simp only [↓mems_ite, ↓mems_mk, mems_eta, ↓State.guardWrite_mems, ↓State.pwrSet_mems, ite_self,
          implies_true, id_eq]
      | split)

theorem execStandbyEntered_mems (s : State) : ∀ z, execStandbyEntered s = .next z → z.mems = s.mems := by
  intro z hz
  cases hz
  repeat' (first
      | with_reducible rfl
      | simp only [↓mems_ite, ↓mems_mk, mems_eta, ↓State.standbyOn_mems, ite_self, implies_true, id_eq]
      | split)

theorem execWake_mems (src : _) (s : State) : ∀ z, execWake src s = .next z → z.mems = s.mems := by
  intro z hz
  cases hz
  repeat' (first
      | with_reducible rfl
      | simp only [↓mems_ite, ↓mems_mk, mems_eta, ↓State.wakeBy_mems, ite_self, implies_true, id_eq]
      | split)

theorem execWakeTimerExpire_mems (s : State) : ∀ z, execWakeTimerExpire s = .next z → z.mems = s.mems := by
  intro z hz
  cases hz
  repeat' (first
      | with_reducible rfl
      | simp only [↓mems_ite, ↓mems_mk, mems_eta, ↓State.wakeBy_mems, ite_self, implies_true, id_eq]
      | split)

theorem execUartWake_mems (n : _) (s : State) : ∀ z, execUartWake n s = .next z → z.mems = s.mems := by
  intro z hz
  cases hz
  repeat' (first
      | with_reducible rfl
      | simp only [↓mems_ite, ↓mems_mk, mems_eta, ↓State.wakeBy_mems, ite_self, implies_true, id_eq]
      | split)

theorem execUnfreezeResume_mems (m : _) (target : _) (s : State) : ∀ z, execUnfreezeResume m target s = .next z →
    z.mems = s.mems := by
  intro z hz
  cases hz
  repeat' (first
      | with_reducible rfl
      | simp only [↓mems_ite, ↓mems_mk, mems_eta, ↓State.guardWrite_mems, ↓State.unfreezeSet_mems, ite_self,
          implies_true, id_eq]
      | split)

theorem execUnfreezeAbandon_mems (m : _) (target : _) (s : State) : ∀ z, execUnfreezeAbandon m target s = .next z →
    z.mems = s.mems := by
  intro z hz
  cases hz
  repeat' (first
      | with_reducible rfl
      | simp only [↓mems_ite, ↓mems_mk, mems_eta, ↓State.guardWrite_mems, ↓State.unfreezeSet_mems, ite_self,
          implies_true, id_eq]
      | split)

theorem execGpioEnable_mems (m : _) (n : _) (w : _) (s : State) : ∀ z, execGpioEnable m n w s = .next z →
    z.mems = s.mems := by
  intro z hz
  cases hz
  repeat' (first
      | with_reducible rfl
      | simp only [↓mems_ite, ↓mems_mk, mems_eta, ↓State.guardWrite_mems, ↓State.gpSet_mems, ite_self,
          implies_true, id_eq]
      | split)

theorem execGpioDisable_mems (m : _) (n : _) (w : _) (s : State) : ∀ z, execGpioDisable m n w s = .next z →
    z.mems = s.mems := by
  intro z hz
  cases hz
  repeat' (first
      | with_reducible rfl
      | simp only [↓mems_ite, ↓mems_mk, mems_eta, ↓State.guardWrite_mems, ↓State.gpSet_mems, ite_self,
          implies_true, id_eq]
      | split)

theorem execGpioEdge_mems (n : _) (rising : _) (s : State) : ∀ z, execGpioEdge n rising s = .next z →
    z.mems = s.mems := by
  intro z hz
  cases hz
  repeat' (first
      | with_reducible rfl
      | simp only [↓mems_ite, ↓mems_mk, mems_eta, ↓State.gpOutside_mems, ite_self, implies_true, id_eq]
      | split)

theorem execBypass_mems (s : State) : ∀ z, execBypass s = .next z → z.mems = s.mems := by
  intro z hz
  cases hz
  repeat' (first
      | with_reducible rfl
      | simp only [↓mems_ite, ↓mems_mk, mems_eta, ↓State.jtagIr_mems, ite_self, implies_true, id_eq]
      | split)

theorem execSamplePreload_mems (cells : _) (s : State) : ∀ z, execSamplePreload cells s = .next z →
    z.mems = s.mems := by
  intro z hz
  cases hz
  repeat' (first
      | with_reducible rfl
      | simp only [↓mems_ite, ↓mems_mk, mems_eta, ↓State.jtagIr_mems, ite_self, implies_true, id_eq]
      | split)

theorem execExtest_mems (s : State) : ∀ z, execExtest s = .next z → z.mems = s.mems := by
  intro z hz
  cases hz
  repeat' (first
      | with_reducible rfl
      | simp only [↓mems_ite, ↓mems_mk, mems_eta, ↓State.jtagIr_mems, ite_self, implies_true, id_eq]
      | split)

theorem execIdcode_mems (s : State) : ∀ z, execIdcode s = .next z → z.mems = s.mems := by
  intro z hz
  cases hz
  repeat' (first
      | with_reducible rfl
      | simp only [↓mems_ite, ↓mems_mk, mems_eta, ↓State.set_mems, ↓State.jtagIr_mems, ite_self, implies_true, id_eq]
      | split)

theorem execHighz_mems (s : State) : ∀ z, execHighz s = .next z → z.mems = s.mems := by
  intro z hz
  cases hz
  repeat' (first
      | with_reducible rfl
      | simp only [↓mems_ite, ↓mems_mk, mems_eta, ↓State.jtagIr_mems, ite_self, implies_true, id_eq]
      | split)

theorem execTrstAssert_mems (s : State) : ∀ z, execTrstAssert s = .next z → z.mems = s.mems := by
  intro z hz
  cases hz
  repeat' (first
      | with_reducible rfl
      | simp only [↓mems_ite, ↓mems_mk, mems_eta, ↓State.jtagIr_mems, ite_self, implies_true, id_eq]
      | split)

theorem execClamp_mems (s : State) : ∀ z, execClamp s = .next z → z.mems = s.mems := by
  intro z hz
  cases hz
  repeat' (first
      | with_reducible rfl
      | simp only [↓mems_ite, ↓mems_mk, mems_eta, ↓State.jtagIr_mems, ite_self, implies_true, id_eq]
      | split)

theorem execSessionOpen_mems (m : _) (chain : _) (s : State) : ∀ z, execSessionOpen m chain s = .next z →
    z.mems = s.mems := by
  intro z hz
  cases hz
  repeat' (first
      | with_reducible rfl
      | simp only [↓mems_ite, ↓mems_mk, mems_eta, ↓State.guardWrite_mems, ↓State.sessSet_mems, ite_self,
          implies_true, id_eq]
      | split)

theorem execSessionClose_mems (m : _) (s : State) : ∀ z, execSessionClose m s = .next z → z.mems = s.mems := by
  intro z hz
  cases hz
  repeat' (first
      | with_reducible rfl
      | simp only [↓mems_ite, ↓mems_mk, mems_eta, ↓State.guardWrite_mems, ↓State.sessSet_mems, ite_self,
          implies_true, id_eq]
      | split)

theorem execSessionTimeout_mems (s : State) : ∀ z, execSessionTimeout s = .next z → z.mems = s.mems := by
  intro z hz
  cases hz
  repeat' (first
      | with_reducible rfl
      | simp only [↓mems_ite, ↓mems_mk, mems_eta, ↓State.sessEnd_mems, ite_self, implies_true, id_eq]
      | split)

theorem execXferGo_mems (m : _) (w : _) (s : State) : ∀ z, execXferGo m w s = .next z → z.mems = s.mems := by
  intro z hz
  cases hz
  repeat' (first
      | with_reducible rfl
      | simp only [↓mems_ite, ↓mems_mk, mems_eta, ↓State.guardWrite_mems, ↓State.xferSet_mems, ite_self,
          implies_true, id_eq]
      | split)

theorem execPieceConsumed_mems (s : State) : ∀ z, execPieceConsumed s = .next z → z.mems = s.mems := by
  intro z hz
  cases hz
  repeat' (first
      | with_reducible rfl
      | simp only [↓mems_ite, ↓mems_mk, mems_eta, ↓State.pieceDone_mems, ite_self, implies_true, id_eq]
      | split)

theorem execActivationArm_mems (m : _) (s : State) : ∀ z, execActivationArm m s = .next z → z.mems = s.mems := by
  intro z hz
  cases hz
  repeat' (first
      | with_reducible rfl
      | simp only [↓mems_ite, ↓mems_mk, mems_eta, ↓State.guardWrite_mems, ↓State.actSet_mems, ite_self,
          implies_true, id_eq]
      | split)

theorem execActivationDisarm_mems (m : _) (s : State) : ∀ z, execActivationDisarm m s = .next z →
    z.mems = s.mems := by
  intro z hz
  cases hz
  repeat' (first
      | with_reducible rfl
      | simp only [↓mems_ite, ↓mems_mk, mems_eta, ↓State.guardWrite_mems, ↓State.actSet_mems, ite_self,
          implies_true, id_eq]
      | split)

theorem execSettingsCopyWrite_mems (format : _) (body : _) (readBack : _) (s : State) : ∀ z,
    execSettingsCopyWrite format body readBack s = .next z → z.mems = s.mems := by
  intro z hz
  cases hz
  repeat' (first
      | with_reducible rfl
      | simp only [↓mems_ite, ↓mems_mk, mems_eta, ↓State.settingsWrite_mems, ite_self, implies_true, id_eq]
      | split)

theorem execUnlockLockoutEnd_mems (s : State) : ∀ z, execUnlockLockoutEnd s = .next z → z.mems = s.mems := by
  intro z hz
  cases hz
  repeat' (first
      | with_reducible rfl
      | simp only [↓mems_ite, ↓mems_mk, mems_eta, ↓State.set_mems, ite_self, implies_true, id_eq]
      | split)

theorem execTwinUpdateFrame_mems (seq : _) (crcOk : _) (bytes : _) (s : State) : ∀ z,
    execTwinUpdateFrame seq crcOk bytes s = .next z → z.mems = s.mems := by
  intro z hz
  cases hz
  repeat' (first
      | with_reducible rfl
      | simp only [↓mems_ite, ↓mems_mk, mems_eta, ↓State.received_mems, ↓State.updateRx_mems, ite_self,
          implies_true, id_eq]
      | split)

theorem execChainOffer_mems (h : _) (s : State) : ∀ z, execChainOffer h s = .next z → z.mems = s.mems := by
  intro z hz
  cases hz
  repeat' (first
      | with_reducible rfl
      | simp only [↓mems_ite, ↓mems_mk, mems_eta, ↓State.chainFrame_mems, ↓State.offerRx_mems, ite_self,
          implies_true, id_eq]
      | split)

theorem execChainData_mems (h : _) (bytes : _) (s : State) : ∀ z, execChainData h bytes s = .next z →
    z.mems = s.mems := by
  intro z hz
  cases hz
  repeat' (first
      | with_reducible rfl
      | simp only [↓mems_ite, ↓mems_mk, mems_eta, ↓State.chainFrame_mems, ↓State.dataRx_mems, ite_self,
          implies_true, id_eq]
      | split)

theorem execChainStaged_mems (h : _) (status : _) (s : State) : ∀ z, execChainStaged h status s = .next z →
    z.mems = s.mems := by
  intro z hz
  cases hz
  repeat' (first
      | with_reducible rfl
      | simp only [↓mems_ite, ↓mems_mk, mems_eta, ↓State.chainFrame_mems, ↓State.answerRx_mems, ite_self,
          implies_true, id_eq]
      | split)

theorem execChainArm_mems (h : _) (digest : _) (f : _) (s : State) : ∀ z, execChainArm h digest f s = .next z →
    z.mems = s.mems := by
  intro z hz
  cases hz
  repeat' (first
      | with_reducible rfl
      | simp only [↓mems_ite, ↓mems_mk, mems_eta, ↓State.chainFrame_mems, ↓State.armRx_mems, ite_self,
          implies_true, id_eq]
      | split)

theorem execChainReady_mems (h : _) (s : State) : ∀ z, execChainReady h s = .next z → z.mems = s.mems := by
  intro z hz
  cases hz
  repeat' (first
      | with_reducible rfl
      | simp only [↓mems_ite, ↓mems_mk, mems_eta, ↓State.chainFrame_mems, ↓State.readyRx_mems, ite_self,
          implies_true, id_eq]
      | split)

theorem execChainGo_mems (h : _) (digest : _) (f : _) (s : State) : ∀ z, execChainGo h digest f s = .next z →
    z.mems = s.mems := by
  intro z hz
  cases hz
  repeat' (first
      | with_reducible rfl
      | simp only [↓mems_ite, ↓mems_mk, mems_eta, ↓State.chainFrame_mems, ↓State.goRx_mems, ite_self, implies_true,
          id_eq]
      | split)

theorem execChainVersion_mems (h : _) (s : State) : ∀ z, execChainVersion h s = .next z → z.mems = s.mems := by
  intro z hz
  cases hz
  repeat' (first
      | with_reducible rfl
      | simp only [↓mems_ite, ↓mems_mk, mems_eta, ↓State.chainFrame_mems, ↓State.answerRx_mems, ite_self,
          implies_true, id_eq]
      | split)

theorem execChainCommit_mems (h : _) (s : State) : ∀ z, execChainCommit h s = .next z → z.mems = s.mems := by
  intro z hz
  cases hz
  repeat' (first
      | with_reducible rfl
      | simp only [↓mems_ite, ↓mems_mk, mems_eta, ↓State.chainFrame_mems, ↓State.commitRx_mems, ite_self,
          implies_true, id_eq]
      | split)

theorem execRindInfo_mems (s : State) : ∀ z, execRindInfo s = .next z → z.mems = s.mems := by
  intro z hz
  cases hz
  repeat' (first
      | with_reducible rfl
      | simp only [↓mems_ite, ↓mems_mk, mems_eta, ↓State.inRecovery_mems, ↓State.rindInfo_mems, ite_self,
          implies_true, id_eq]
      | split)

theorem execRindBaud_mems (n : _) (s : State) : ∀ z, execRindBaud n s = .next z → z.mems = s.mems := by
  intro z hz
  cases hz
  repeat' (first
      | with_reducible rfl
      | simp only [↓mems_ite, ↓mems_mk, mems_eta, ↓State.inRecovery_mems, ↓State.sayErr_mems, ↓State.set_mems,
          ↓State.sayOk_mems, ite_self, implies_true, id_eq]
      | split)

theorem execRindCode_mems (digits : _) (s : State) : ∀ z, execRindCode digits s = .next z → z.mems = s.mems := by
  intro z hz
  cases hz
  repeat' (first
      | with_reducible rfl
      | simp only [↓mems_ite, ↓mems_mk, mems_eta, ↓State.inRecovery_mems, ↓State.rindCode_mems, ite_self,
          implies_true, id_eq]
      | split)

theorem execRindLoad_mems (n : _) (s : State) : ∀ z, execRindLoad n s = .next z → z.mems = s.mems := by
  intro z hz
  cases hz
  repeat' (first
      | with_reducible rfl
      | simp only [↓mems_ite, ↓mems_mk, mems_eta, ↓State.inRecovery_mems, ↓State.rindLoad_mems, ite_self,
          implies_true, id_eq]
      | split)

theorem execRindLoadBlock_mems (k : _) (bytes : _) (crcOk : _) (s : State) : ∀ z,
    execRindLoadBlock k bytes crcOk s = .next z → z.mems = s.mems := by
  intro z hz
  cases hz
  repeat' (first
      | with_reducible rfl
      | simp only [↓mems_ite, ↓mems_mk, mems_eta, ↓State.inRecovery_mems, ↓State.rindBlock_mems, ite_self,
          implies_true, id_eq]
      | split)

theorem execRindEraseset_mems (s : State) : ∀ z, execRindEraseset s = .next z → z.mems = s.mems := by
  intro z hz
  cases hz
  repeat' (first
      | with_reducible rfl
      | simp only [↓mems_ite, ↓mems_mk, mems_eta, ↓State.inRecovery_mems, ↓State.sayErr_mems, ↓State.sayOk_mems,
          ↓State.setFlash_mems, ite_self, implies_true, id_eq]
      | split)

theorem execReadClear_mems (m : _) (addr : _) (s : State) : ∀ z, execReadClear m addr s = .next z →
    z.mems = s.mems := by
  intro z hz
  cases hz
  repeat' (first
      | with_reducible rfl
      | simp only [↓mems_ite, ↓mems_mk, mems_eta, ↓State.guardRead_mems, ↓State.regRead_mems, ite_self,
          implies_true, id_eq]
      | split)

theorem execLatchingRead_mems (m : _) (addr : _) (s : State) : ∀ z, execLatchingRead m addr s = .next z →
    z.mems = s.mems := by
  intro z hz
  cases hz
  repeat' (first
      | with_reducible rfl
      | simp only [↓mems_ite, ↓mems_mk, mems_eta, ↓State.guardRead_mems, ↓State.regRead_mems, ite_self,
          implies_true, id_eq]
      | split)

theorem execSwiqPop_mems (m : _) (s : State) : ∀ z, execSwiqPop m s = .next z → z.mems = s.mems := by
  intro z hz
  cases hz
  repeat' (first
      | with_reducible rfl
      | simp only [↓mems_ite, ↓mems_mk, mems_eta, ↓State.guardRead_mems, ↓State.swiqTake_mems, ite_self,
          implies_true, id_eq]
      | split)

theorem execSpiRead_mems (addr : _) (len : _) (ready : _) (early : _) (s : State) : ∀ z,
    execSpiRead addr len ready early s = .next z → z.mems = s.mems := by
  intro z hz
  cases hz
  repeat' (first
      | with_reducible rfl
      | simp only [↓mems_ite, ↓mems_mk, mems_eta, ↓State.spiRead_mems, ite_self, implies_true, id_eq]
      | split)

theorem execSpiStat_mems (s : State) : ∀ z, execSpiStat s = .next z → z.mems = s.mems := by
  intro z hz
  cases hz
  repeat' (first
      | with_reducible rfl
      | simp only [↓mems_ite, ↓mems_mk, mems_eta, ↓State.spiStat_mems, ite_self, implies_true, id_eq]
      | split)

theorem execSpiBadCommand_mems (_cmd : _) (s : State) : ∀ z, execSpiBadCommand _cmd s = .next z →
    z.mems = s.mems := by
  intro z hz
  cases hz
  repeat' (first
      | with_reducible rfl
      | simp only [↓mems_ite, ↓mems_mk, mems_eta, ↓State.spiRefuse_mems, ↓State.spiForget_mems, ite_self,
          implies_true, id_eq]
      | split)

theorem execUnitEventDeliver_mems (n : _) (s : State) : ∀ z, execUnitEventDeliver n s = .next z →
    z.mems = s.mems := by
  intro z hz
  cases hz
  repeat' (first
      | with_reducible rfl
      | simp only [↓mems_ite, ↓mems_mk, mems_eta, ↓State.unitEvent_mems, ite_self, implies_true, id_eq]
      | split)

theorem execDmaDescriptorStart_mems (c : _) (ch : _) (s : State) : ∀ z, execDmaDescriptorStart c ch s = .next z →
    z.mems = s.mems := by
  intro z hz
  cases hz
  repeat' (first
      | with_reducible rfl
      | simp only [↓mems_ite, ↓mems_mk, mems_eta, ↓State.dmaStart_mems, ite_self, implies_true, id_eq]
      | split)

theorem execHello_mems (s : State) : ∀ z, execHello s = .next z → z.mems = s.mems := by
  intro z hz
  cases hz
  repeat' (first
      | with_reducible rfl
      | simp only [↓mems_ite, ↓mems_mk, mems_eta, ↓State.linkLine_mems, ↓State.linkHello_mems, ite_self,
          implies_true, id_eq]
      | split)

theorem execPing_mems (s : State) : ∀ z, execPing s = .next z → z.mems = s.mems := by
  intro z hz
  cases hz
  repeat' (first
      | with_reducible rfl
      | simp only [↓mems_ite, ↓mems_mk, mems_eta, ↓State.linkLine_mems, ↓State.sayOk_mems, ite_self, implies_true,
          id_eq]
      | split)

theorem execEchoOn_mems (s : State) : ∀ z, execEchoOn s = .next z → z.mems = s.mems := by
  intro z hz
  cases hz
  repeat' (first
      | with_reducible rfl
      | simp only [↓mems_ite, ↓mems_mk, mems_eta, ↓State.linkLine_mems, ↓State.sayOk_mems, ↓State.set_mems,
          ite_self, implies_true, id_eq]
      | split)

theorem execEchoOff_mems (s : State) : ∀ z, execEchoOff s = .next z → z.mems = s.mems := by
  intro z hz
  cases hz
  repeat' (first
      | with_reducible rfl
      | simp only [↓mems_ite, ↓mems_mk, mems_eta, ↓State.linkLine_mems, ↓State.sayOk_mems, ↓State.set_mems,
          ite_self, implies_true, id_eq]
      | split)

theorem execBaud_mems (n : _) (s : State) : ∀ z, execBaud n s = .next z → z.mems = s.mems := by
  intro z hz
  cases hz
  repeat' (first
      | with_reducible rfl
      | simp only [↓mems_ite, ↓mems_mk, mems_eta, ↓State.linkLine_mems, ↓State.linkBaud_mems, ite_self,
          implies_true, id_eq]
      | split)

theorem execBaudRevertTimeout_mems (s : State) : ∀ z, execBaudRevertTimeout s = .next z → z.mems = s.mems := by
  intro z hz
  cases hz
  repeat' (first
      | with_reducible rfl
      | simp only [↓mems_ite, ↓mems_mk, mems_eta, ↓State.linkRevert_mems, ite_self, implies_true, id_eq]
      | split)

theorem execCommandLineTooLong_mems (s : State) : ∀ z, execCommandLineTooLong s = .next z → z.mems = s.mems := by
  intro z hz
  cases hz
  repeat' (first
      | with_reducible rfl
      | simp only [↓mems_ite, ↓mems_mk, mems_eta, ↓State.linkLine_mems, ↓State.sayErr_mems, ite_self, implies_true,
          id_eq]
      | split)

theorem execUnknownCommand_mems (s : State) : ∀ z, execUnknownCommand s = .next z → z.mems = s.mems := by
  intro z hz
  cases hz
  repeat' (first
      | with_reducible rfl
      | simp only [↓mems_ite, ↓mems_mk, mems_eta, ↓State.linkLine_mems, ↓State.sayErr_mems, ite_self, implies_true,
          id_eq]
      | split)

theorem execRd_mems (addr : _) (n : _) (s : State) : ∀ z, execRd addr n s = .next z → z.mems = s.mems := by
  intro z hz
  cases hz
  repeat' (first
      | with_reducible rfl
      | simp only [↓mems_ite, ↓mems_mk, mems_eta, ↓State.linkLine_mems, ↓State.linkRd_mems, ite_self, implies_true,
          id_eq]
      | split)

theorem execDrive_mems (b : _) (l : _) (s : State) : ∀ z, execDrive b l s = .next z → z.mems = s.mems := by
  intro z hz
  cases hz
  repeat' (first
      | with_reducible rfl
      | simp only [↓mems_ite, ↓mems_mk, mems_eta, ↓State.linkLine_mems, ↓State.linkDrive_mems, ite_self,
          implies_true, id_eq]
      | split)

theorem execRelease_mems (b : _) (s : State) : ∀ z, execRelease b s = .next z → z.mems = s.mems := by
  intro z hz
  cases hz
  repeat' (first
      | with_reducible rfl
      | simp only [↓mems_ite, ↓mems_mk, mems_eta, ↓State.linkLine_mems, ↓State.linkRelease_mems, ite_self,
          implies_true, id_eq]
      | split)

theorem execRead_mems (b : _) (samples : _) (s : State) : ∀ z, execRead b samples s = .next z → z.mems = s.mems := by
  intro z hz
  cases hz
  repeat' (first
      | with_reducible rfl
      | simp only [↓mems_ite, ↓mems_mk, mems_eta, ↓State.linkLine_mems, ↓State.linkRead_mems, ite_self,
          implies_true, id_eq]
      | split)

theorem execLoopUart_mems (n : _) (ext : _) (got : _) (s : State) : ∀ z, execLoopUart n ext got s = .next z →
    z.mems = s.mems := by
  intro z hz
  cases hz
  repeat' (first
      | with_reducible rfl
      | simp only [↓mems_ite, ↓mems_mk, mems_eta, ↓State.linkLine_mems, ↓State.linkLoopUart_mems, ite_self,
          implies_true, id_eq]
      | split)

theorem execLoopPort_mems (n : _) (m : _) (seen : _) (s : State) : ∀ z, execLoopPort n m seen s = .next z →
    z.mems = s.mems := by
  intro z hz
  cases hz
  repeat' (first
      | with_reducible rfl
      | simp only [↓mems_ite, ↓mems_mk, mems_eta, ↓State.linkLine_mems, ↓State.linkLoopPort_mems, ite_self,
          implies_true, id_eq]
      | split)

theorem execLoopAes_mems (t : _) (r : _) (lockMs : _) (cs : _) (s : State) : ∀ z,
    execLoopAes t r lockMs cs s = .next z → z.mems = s.mems := by
  intro z hz
  cases hz
  repeat' (first
      | with_reducible rfl
      | simp only [↓mems_ite, ↓mems_mk, mems_eta, ↓State.linkLine_mems, ↓State.linkLoopAes_mems, ite_self,
          implies_true, id_eq]
      | split)

theorem execDset_mems (n : _) (uv : _) (span : _) (s : State) : ∀ z, execDset n uv span s = .next z →
    z.mems = s.mems := by
  intro z hz
  cases hz
  repeat' (first
      | with_reducible rfl
      | simp only [↓mems_ite, ↓mems_mk, mems_eta, ↓State.linkLine_mems, ↓State.linkDset_mems, ite_self,
          implies_true, id_eq]
      | split)

theorem execDsetHoldCheck_mems (n : _) (s : State) : ∀ z, execDsetHoldCheck n s = .next z → z.mems = s.mems := by
  intro z hz
  cases hz
  repeat' (first
      | with_reducible rfl
      | simp only [↓mems_ite, ↓mems_mk, mems_eta, ↓State.dsetCheck_mems, ite_self, implies_true, id_eq]
      | split)

theorem execDmeas_mems (n : _) (s : State) : ∀ z, execDmeas n s = .next z → z.mems = s.mems := by
  intro z hz
  cases hz
  repeat' (first
      | with_reducible rfl
      | simp only [↓mems_ite, ↓mems_mk, mems_eta, ↓State.linkLine_mems, ↓State.linkDmeas_mems, ite_self,
          implies_true, id_eq]
      | split)

theorem execDoff_mems (n : _) (s : State) : ∀ z, execDoff n s = .next z → z.mems = s.mems := by
  intro z hz
  cases hz
  repeat' (first
      | with_reducible rfl
      | simp only [↓mems_ite, ↓mems_mk, mems_eta, ↓State.linkLine_mems, ↓State.linkDoff_mems, ite_self,
          implies_true, id_eq]
      | split)

theorem execAin_mems (n : _) (s : State) : ∀ z, execAin n s = .next z → z.mems = s.mems := by
  intro z hz
  cases hz
  repeat' (first
      | with_reducible rfl
      | simp only [↓mems_ite, ↓mems_mk, mems_eta, ↓State.linkLine_mems, ↓State.linkAin_mems, ite_self,
          implies_true, id_eq]
      | split)

theorem execMon_mems (s : State) : ∀ z, execMon s = .next z → z.mems = s.mems := by
  intro z hz
  cases hz
  repeat' (first
      | with_reducible rfl
      | simp only [↓mems_ite, ↓mems_mk, mems_eta, ↓State.linkLine_mems, ↓State.linkMon_mems, ite_self,
          implies_true, id_eq]
      | split)

theorem execFaults_mems (k : _) (s : State) : ∀ z, execFaults k s = .next z → z.mems = s.mems := by
  intro z hz
  cases hz
  repeat' (first
      | with_reducible rfl
      | simp only [↓mems_ite, ↓mems_mk, mems_eta, ↓State.linkLine_mems, ↓State.linkFaults_mems, ite_self,
          implies_true, id_eq]
      | split)

theorem execSpares_mems (s : State) : ∀ z, execSpares s = .next z → z.mems = s.mems := by
  intro z hz
  cases hz
  repeat' (first
      | with_reducible rfl
      | simp only [↓mems_ite, ↓mems_mk, mems_eta, ↓State.linkLine_mems, ↓State.linkSpares_mems, ite_self,
          implies_true, id_eq]
      | split)

theorem execMap_mems (s : State) : ∀ z, execMap s = .next z → z.mems = s.mems := by
  intro z hz
  cases hz
  repeat' (first
      | with_reducible rfl
      | simp only [↓mems_ite, ↓mems_mk, mems_eta, ↓State.linkLine_mems, ↓State.linkMap_mems, ite_self,
          implies_true, id_eq]
      | split)

theorem execViol_mems (k : _) (s : State) : ∀ z, execViol k s = .next z → z.mems = s.mems := by
  intro z hz
  cases hz
  repeat' (first
      | with_reducible rfl
      | simp only [↓mems_ite, ↓mems_mk, mems_eta, ↓State.linkLine_mems, ↓State.linkViol_mems, ite_self,
          implies_true, id_eq]
      | split)

theorem execUnfreeze_mems (target : _) (abandon : _) (s : State) : ∀ z, execUnfreeze target abandon s = .next z →
    z.mems = s.mems := by
  intro z hz
  cases hz
  repeat' (first
      | with_reducible rfl
      | simp only [↓mems_ite, ↓mems_mk, mems_eta, ↓State.linkLine_mems, ↓State.linkUnfreeze_mems, ite_self,
          implies_true, id_eq]
      | split)

theorem execCode_mems (digits : _) (s : State) : ∀ z, execCode digits s = .next z → z.mems = s.mems := by
  intro z hz
  cases hz
  repeat' (first
      | with_reducible rfl
      | simp only [↓mems_ite, ↓mems_mk, mems_eta, ↓State.linkLine_mems, ↓State.linkCode_mems, ite_self,
          implies_true, id_eq]
      | split)

theorem execUpdOpen_mems (s : State) : ∀ z, execUpdOpen s = .next z → z.mems = s.mems := by
  intro z hz
  cases hz
  repeat' (first
      | with_reducible rfl
      | simp only [↓mems_ite, ↓mems_mk, mems_eta, ↓State.linkLine_mems, ↓State.linkOpen_mems, ite_self,
          implies_true, id_eq]
      | split)

theorem execUpdLoad_mems (bytes : _) (s : State) : ∀ z, execUpdLoad bytes s = .next z → z.mems = s.mems := by
  intro z hz
  cases hz
  repeat' (first
      | with_reducible rfl
      | simp only [↓mems_ite, ↓mems_mk, mems_eta, ↓State.linkLine_mems, ↓State.linkLoad_mems, ite_self,
          implies_true, id_eq]
      | split)

theorem execUpdStat_mems (s : State) : ∀ z, execUpdStat s = .next z → z.mems = s.mems := by
  intro z hz
  cases hz
  repeat' (first
      | with_reducible rfl
      | simp only [↓mems_ite, ↓mems_mk, mems_eta, ↓State.linkLine_mems, ↓State.sayOk_mems, ↓State.say_mems,
          ite_self, implies_true, id_eq]
      | split)

theorem execUpdArm_mems (rel : _) (t : _) (s : State) : ∀ z, execUpdArm rel t s = .next z → z.mems = s.mems := by
  intro z hz
  cases hz
  repeat' (first
      | with_reducible rfl
      | simp only [↓mems_ite, ↓mems_mk, mems_eta, ↓State.linkLine_mems, ↓State.linkArm_mems, ite_self,
          implies_true, id_eq]
      | split)

theorem execUpdDisarm_mems (s : State) : ∀ z, execUpdDisarm s = .next z → z.mems = s.mems := by
  intro z hz
  cases hz
  repeat' (first
      | with_reducible rfl
      | simp only [↓mems_ite, ↓mems_mk, mems_eta, ↓State.linkLine_mems, ↓State.sayCfg_mems, ↓State.actSet_mems,
          ite_self, implies_true, id_eq]
      | split)

theorem execUpdClose_mems (s : State) : ∀ z, execUpdClose s = .next z → z.mems = s.mems := by
  intro z hz
  cases hz
  repeat' (first
      | with_reducible rfl
      | simp only [↓mems_ite, ↓mems_mk, mems_eta, ↓State.linkLine_mems, ↓State.sayCfg_mems, ↓State.sessClose_mems,
          ite_self, implies_true, id_eq]
      | split)

theorem execUpdInfo_mems (s : State) : ∀ z, execUpdInfo s = .next z → z.mems = s.mems := by
  intro z hz
  cases hz
  repeat' (first
      | with_reducible rfl
      | simp only [↓mems_ite, ↓mems_mk, mems_eta, ↓State.linkLine_mems, ↓State.linkInfo_mems, ite_self,
          implies_true, id_eq]
      | split)

theorem execServiceLinkRearm_mems (s : State) : ∀ z, execServiceLinkRearm s = .next z → z.mems = s.mems := by
  intro z hz
  cases hz
  repeat' (first
      | with_reducible rfl
      | simp only [↓mems_ite, ↓mems_mk, mems_eta, ↓State.linkRearm_mems, ite_self, implies_true, id_eq]
      | split)

theorem execUartBreak_mems (n : _) (s : State) : ∀ z, execUartBreak n s = .next z → z.mems = s.mems := by
  intro z hz
  cases hz
  repeat' (first
      | with_reducible rfl
      | simp only [↓mems_ite, ↓mems_mk, mems_eta, ↓State.linkBreak_mems, ↓State.uBreak_mems, ite_self,
          implies_true, id_eq]
      | split)

theorem execEngineStartTarget_mems (s : State) : ∀ z, execEngineStartTarget s = .next z → z.mems = s.mems := by
  intro z hz
  cases hz
  repeat' (first
      | with_reducible rfl
      | simp only [↓mems_ite, ↓mems_mk, mems_eta, ↓State.startTarget_mems, ite_self, implies_true, id_eq]
      | split)

theorem execEngineFirstDispatch_mems (s : State) : ∀ z, execEngineFirstDispatch s = .next z → z.mems = s.mems := by
  intro z hz
  cases hz
  repeat' (first
      | with_reducible rfl
      | simp only [↓mems_ite, ↓mems_mk, mems_eta, ↓State.firstDispatch_mems, ite_self, implies_true, id_eq]
      | split)

theorem execEngineStopTarget_mems (s : State) : ∀ z, execEngineStopTarget s = .next z → z.mems = s.mems := by
  intro z hz
  cases hz
  repeat' (first
      | with_reducible rfl
      | simp only [↓mems_ite, ↓mems_mk, mems_eta, ↓State.stopTarget_mems, ite_self, implies_true, id_eq]
      | split)

theorem execEngineStopped_mems (s : State) : ∀ z, execEngineStopped s = .next z → z.mems = s.mems := by
  intro z hz
  cases hz
  repeat' (first
      | with_reducible rfl
      | simp only [↓mems_ite, ↓mems_mk, mems_eta, ↓State.stopped_mems, ite_self, implies_true, id_eq]
      | split)

end Sys2Proof.Machine
end

