-- ==== Sys2Proof/Laws/State.lean ====
section
/-! SUPPORT. One lemma for each field that each named update of the state leaves alone, and what the update itself gives,
so that no proof unfolds a record update. -/

namespace Sys2Proof.Machine

namespace State

/-! ### `set` -/

@[simp] theorem set_frc (s : State) (f : Fld) (v : Nat) : (s.set f v).frc = s.frc := rfl
@[simp] theorem set_frcPrev (s : State) (f : Fld) (v : Nat) : (s.set f v).frcPrev = s.frcPrev := rfl
@[simp] theorem set_cclk (s : State) (f : Fld) (v : Nat) : (s.set f v).cclk = s.cclk := rfl
@[simp] theorem set_tclk (s : State) (f : Fld) (v : Nat) : (s.set f v).tclk = s.tclk := rfl
@[simp] theorem set_free (s : State) (f : Fld) (v : Nat) : (s.set f v).free = s.free := rfl
@[simp] theorem set_staged (s : State) (f : Fld) (v : Nat) : (s.set f v).staged = s.staged := rfl
@[simp] theorem set_latches (s : State) (f : Fld) (v : Nat) : (s.set f v).latches = s.latches := rfl
@[simp] theorem set_toDeliver (s : State) (f : Fld) (v : Nat) : (s.set f v).toDeliver = s.toDeliver := rfl
@[simp] theorem set_stewardQ (s : State) (f : Fld) (v : Nat) : (s.set f v).stewardQ = s.stewardQ := rfl
@[simp] theorem set_swiq (s : State) (f : Fld) (v : Nat) : (s.set f v).swiq = s.swiq := rfl
@[simp] theorem set_cores (s : State) (f : Fld) (v : Nat) : (s.set f v).cores = s.cores := rfl
@[simp] theorem set_orchard (s : State) (f : Fld) (v : Nat) : (s.set f v).orchard = s.orchard := rfl
@[simp] theorem set_dram (s : State) (f : Fld) (v : Nat) : (s.set f v).dram = s.dram := rfl
@[simp] theorem set_orcFlaws (s : State) (f : Fld) (v : Nat) : (s.set f v).orcFlaws = s.orcFlaws := rfl
@[simp] theorem set_dramFlaws (s : State) (f : Fld) (v : Nat) : (s.set f v).dramFlaws = s.dramFlaws := rfl
@[simp] theorem set_dirty (s : State) (f : Fld) (v : Nat) : (s.set f v).dirty = s.dirty := rfl
@[simp] theorem set_qn (s : State) (f : Fld) (v : Nat) : (s.set f v).qn = s.qn := rfl
@[simp] theorem set_faults (s : State) (f : Fld) (v : Nat) : (s.set f v).faults = s.faults := rfl
@[simp] theorem set_vm (s : State) (f : Fld) (v : Nat) : (s.set f v).vm = s.vm := rfl
@[simp] theorem set_scn (s : State) (f : Fld) (v : Nat) : (s.set f v).scn = s.scn := rfl
@[simp] theorem set_uarts (s : State) (f : Fld) (v : Nat) : (s.set f v).uarts = s.uarts := rfl
@[simp] theorem set_routes (s : State) (f : Fld) (v : Nat) : (s.set f v).routes = s.routes := rfl
@[simp] theorem set_hold (s : State) (f : Fld) (v : Nat) : (s.set f v).hold = s.hold := rfl
@[simp] theorem set_twin (s : State) (f : Fld) (v : Nat) : (s.set f v).twin = s.twin := rfl
@[simp] theorem set_svc (s : State) (f : Fld) (v : Nat) : (s.set f v).svc = s.svc := rfl
@[simp] theorem set_host (s : State) (f : Fld) (v : Nat) : (s.set f v).host = s.host := rfl
@[simp] theorem set_flash (s : State) (f : Fld) (v : Nat) : (s.set f v).flash = s.flash := rfl
@[simp] theorem set_graft (s : State) (f : Fld) (v : Nat) : (s.set f v).graft = s.graft := rfl
@[simp] theorem set_jtag (s : State) (f : Fld) (v : Nat) : (s.set f v).jtag = s.jtag := rfl
@[simp] theorem set_pending (s : State) (f : Fld) (v : Nat) : (s.set f v).pending = s.pending := rfl
@[simp] theorem set_core (s : State) (f : Fld) (v : Nat) (kc : Nat) : (s.set f v).core kc = s.core kc := rfl

/-! ### `put` -/

@[simp] theorem put_frc (s : State) (f : Fld) (w : Nat) : (s.put f w).frc = s.frc := rfl
@[simp] theorem put_frcPrev (s : State) (f : Fld) (w : Nat) : (s.put f w).frcPrev = s.frcPrev := rfl
@[simp] theorem put_cclk (s : State) (f : Fld) (w : Nat) : (s.put f w).cclk = s.cclk := rfl
@[simp] theorem put_tclk (s : State) (f : Fld) (w : Nat) : (s.put f w).tclk = s.tclk := rfl
@[simp] theorem put_free (s : State) (f : Fld) (w : Nat) : (s.put f w).free = s.free := rfl
@[simp] theorem put_staged (s : State) (f : Fld) (w : Nat) : (s.put f w).staged = s.staged := rfl
@[simp] theorem put_latches (s : State) (f : Fld) (w : Nat) : (s.put f w).latches = s.latches := rfl
@[simp] theorem put_toDeliver (s : State) (f : Fld) (w : Nat) : (s.put f w).toDeliver = s.toDeliver := rfl
@[simp] theorem put_stewardQ (s : State) (f : Fld) (w : Nat) : (s.put f w).stewardQ = s.stewardQ := rfl
@[simp] theorem put_swiq (s : State) (f : Fld) (w : Nat) : (s.put f w).swiq = s.swiq := rfl
@[simp] theorem put_cores (s : State) (f : Fld) (w : Nat) : (s.put f w).cores = s.cores := rfl
@[simp] theorem put_orchard (s : State) (f : Fld) (w : Nat) : (s.put f w).orchard = s.orchard := rfl
@[simp] theorem put_dram (s : State) (f : Fld) (w : Nat) : (s.put f w).dram = s.dram := rfl
@[simp] theorem put_orcFlaws (s : State) (f : Fld) (w : Nat) : (s.put f w).orcFlaws = s.orcFlaws := rfl
@[simp] theorem put_dramFlaws (s : State) (f : Fld) (w : Nat) : (s.put f w).dramFlaws = s.dramFlaws := rfl
@[simp] theorem put_dirty (s : State) (f : Fld) (w : Nat) : (s.put f w).dirty = s.dirty := rfl
@[simp] theorem put_qn (s : State) (f : Fld) (w : Nat) : (s.put f w).qn = s.qn := rfl
@[simp] theorem put_faults (s : State) (f : Fld) (w : Nat) : (s.put f w).faults = s.faults := rfl
@[simp] theorem put_vm (s : State) (f : Fld) (w : Nat) : (s.put f w).vm = s.vm := rfl
@[simp] theorem put_scn (s : State) (f : Fld) (w : Nat) : (s.put f w).scn = s.scn := rfl
@[simp] theorem put_uarts (s : State) (f : Fld) (w : Nat) : (s.put f w).uarts = s.uarts := rfl
@[simp] theorem put_routes (s : State) (f : Fld) (w : Nat) : (s.put f w).routes = s.routes := rfl
@[simp] theorem put_hold (s : State) (f : Fld) (w : Nat) : (s.put f w).hold = s.hold := rfl
@[simp] theorem put_twin (s : State) (f : Fld) (w : Nat) : (s.put f w).twin = s.twin := rfl
@[simp] theorem put_svc (s : State) (f : Fld) (w : Nat) : (s.put f w).svc = s.svc := rfl
@[simp] theorem put_host (s : State) (f : Fld) (w : Nat) : (s.put f w).host = s.host := rfl
@[simp] theorem put_flash (s : State) (f : Fld) (w : Nat) : (s.put f w).flash = s.flash := rfl
@[simp] theorem put_graft (s : State) (f : Fld) (w : Nat) : (s.put f w).graft = s.graft := rfl
@[simp] theorem put_jtag (s : State) (f : Fld) (w : Nat) : (s.put f w).jtag = s.jtag := rfl
@[simp] theorem put_pending (s : State) (f : Fld) (w : Nat) : (s.put f w).pending = s.pending := rfl
@[simp] theorem put_core (s : State) (f : Fld) (w : Nat) (kc : Nat) : (s.put f w).core kc = s.core kc := rfl

/-! ### `flag` -/

@[simp] theorem flag_frc (s : State) (f : Fld) (b : Bool) : (s.flag f b).frc = s.frc := rfl
@[simp] theorem flag_frcPrev (s : State) (f : Fld) (b : Bool) : (s.flag f b).frcPrev = s.frcPrev := rfl
@[simp] theorem flag_cclk (s : State) (f : Fld) (b : Bool) : (s.flag f b).cclk = s.cclk := rfl
@[simp] theorem flag_tclk (s : State) (f : Fld) (b : Bool) : (s.flag f b).tclk = s.tclk := rfl
@[simp] theorem flag_free (s : State) (f : Fld) (b : Bool) : (s.flag f b).free = s.free := rfl
@[simp] theorem flag_staged (s : State) (f : Fld) (b : Bool) : (s.flag f b).staged = s.staged := rfl
@[simp] theorem flag_latches (s : State) (f : Fld) (b : Bool) : (s.flag f b).latches = s.latches := rfl
@[simp] theorem flag_toDeliver (s : State) (f : Fld) (b : Bool) : (s.flag f b).toDeliver = s.toDeliver := rfl
@[simp] theorem flag_stewardQ (s : State) (f : Fld) (b : Bool) : (s.flag f b).stewardQ = s.stewardQ := rfl
@[simp] theorem flag_swiq (s : State) (f : Fld) (b : Bool) : (s.flag f b).swiq = s.swiq := rfl
@[simp] theorem flag_cores (s : State) (f : Fld) (b : Bool) : (s.flag f b).cores = s.cores := rfl
@[simp] theorem flag_orchard (s : State) (f : Fld) (b : Bool) : (s.flag f b).orchard = s.orchard := rfl
@[simp] theorem flag_dram (s : State) (f : Fld) (b : Bool) : (s.flag f b).dram = s.dram := rfl
@[simp] theorem flag_orcFlaws (s : State) (f : Fld) (b : Bool) : (s.flag f b).orcFlaws = s.orcFlaws := rfl
@[simp] theorem flag_dramFlaws (s : State) (f : Fld) (b : Bool) : (s.flag f b).dramFlaws = s.dramFlaws := rfl
@[simp] theorem flag_dirty (s : State) (f : Fld) (b : Bool) : (s.flag f b).dirty = s.dirty := rfl
@[simp] theorem flag_qn (s : State) (f : Fld) (b : Bool) : (s.flag f b).qn = s.qn := rfl
@[simp] theorem flag_faults (s : State) (f : Fld) (b : Bool) : (s.flag f b).faults = s.faults := rfl
@[simp] theorem flag_vm (s : State) (f : Fld) (b : Bool) : (s.flag f b).vm = s.vm := rfl
@[simp] theorem flag_scn (s : State) (f : Fld) (b : Bool) : (s.flag f b).scn = s.scn := rfl
@[simp] theorem flag_uarts (s : State) (f : Fld) (b : Bool) : (s.flag f b).uarts = s.uarts := rfl
@[simp] theorem flag_routes (s : State) (f : Fld) (b : Bool) : (s.flag f b).routes = s.routes := rfl
@[simp] theorem flag_hold (s : State) (f : Fld) (b : Bool) : (s.flag f b).hold = s.hold := rfl
@[simp] theorem flag_twin (s : State) (f : Fld) (b : Bool) : (s.flag f b).twin = s.twin := rfl
@[simp] theorem flag_svc (s : State) (f : Fld) (b : Bool) : (s.flag f b).svc = s.svc := rfl
@[simp] theorem flag_host (s : State) (f : Fld) (b : Bool) : (s.flag f b).host = s.host := rfl
@[simp] theorem flag_flash (s : State) (f : Fld) (b : Bool) : (s.flag f b).flash = s.flash := rfl
@[simp] theorem flag_graft (s : State) (f : Fld) (b : Bool) : (s.flag f b).graft = s.graft := rfl
@[simp] theorem flag_jtag (s : State) (f : Fld) (b : Bool) : (s.flag f b).jtag = s.jtag := rfl
@[simp] theorem flag_pending (s : State) (f : Fld) (b : Bool) : (s.flag f b).pending = s.pending := rfl
@[simp] theorem flag_core (s : State) (f : Fld) (b : Bool) (kc : Nat) : (s.flag f b).core kc = s.core kc := rfl

/-! ### `bump` -/

@[simp] theorem bump_frc (s : State) (f : Fld) (n : Nat) : (s.bump f n).frc = s.frc := rfl
@[simp] theorem bump_frcPrev (s : State) (f : Fld) (n : Nat) : (s.bump f n).frcPrev = s.frcPrev := rfl
@[simp] theorem bump_cclk (s : State) (f : Fld) (n : Nat) : (s.bump f n).cclk = s.cclk := rfl
@[simp] theorem bump_tclk (s : State) (f : Fld) (n : Nat) : (s.bump f n).tclk = s.tclk := rfl
@[simp] theorem bump_free (s : State) (f : Fld) (n : Nat) : (s.bump f n).free = s.free := rfl
@[simp] theorem bump_staged (s : State) (f : Fld) (n : Nat) : (s.bump f n).staged = s.staged := rfl
@[simp] theorem bump_latches (s : State) (f : Fld) (n : Nat) : (s.bump f n).latches = s.latches := rfl
@[simp] theorem bump_toDeliver (s : State) (f : Fld) (n : Nat) : (s.bump f n).toDeliver = s.toDeliver := rfl
@[simp] theorem bump_stewardQ (s : State) (f : Fld) (n : Nat) : (s.bump f n).stewardQ = s.stewardQ := rfl
@[simp] theorem bump_swiq (s : State) (f : Fld) (n : Nat) : (s.bump f n).swiq = s.swiq := rfl
@[simp] theorem bump_cores (s : State) (f : Fld) (n : Nat) : (s.bump f n).cores = s.cores := rfl
@[simp] theorem bump_orchard (s : State) (f : Fld) (n : Nat) : (s.bump f n).orchard = s.orchard := rfl
@[simp] theorem bump_dram (s : State) (f : Fld) (n : Nat) : (s.bump f n).dram = s.dram := rfl
@[simp] theorem bump_orcFlaws (s : State) (f : Fld) (n : Nat) : (s.bump f n).orcFlaws = s.orcFlaws := rfl
@[simp] theorem bump_dramFlaws (s : State) (f : Fld) (n : Nat) : (s.bump f n).dramFlaws = s.dramFlaws := rfl
@[simp] theorem bump_dirty (s : State) (f : Fld) (n : Nat) : (s.bump f n).dirty = s.dirty := rfl
@[simp] theorem bump_qn (s : State) (f : Fld) (n : Nat) : (s.bump f n).qn = s.qn := rfl
@[simp] theorem bump_faults (s : State) (f : Fld) (n : Nat) : (s.bump f n).faults = s.faults := rfl
@[simp] theorem bump_vm (s : State) (f : Fld) (n : Nat) : (s.bump f n).vm = s.vm := rfl
@[simp] theorem bump_scn (s : State) (f : Fld) (n : Nat) : (s.bump f n).scn = s.scn := rfl
@[simp] theorem bump_uarts (s : State) (f : Fld) (n : Nat) : (s.bump f n).uarts = s.uarts := rfl
@[simp] theorem bump_routes (s : State) (f : Fld) (n : Nat) : (s.bump f n).routes = s.routes := rfl
@[simp] theorem bump_hold (s : State) (f : Fld) (n : Nat) : (s.bump f n).hold = s.hold := rfl
@[simp] theorem bump_twin (s : State) (f : Fld) (n : Nat) : (s.bump f n).twin = s.twin := rfl
@[simp] theorem bump_svc (s : State) (f : Fld) (n : Nat) : (s.bump f n).svc = s.svc := rfl
@[simp] theorem bump_host (s : State) (f : Fld) (n : Nat) : (s.bump f n).host = s.host := rfl
@[simp] theorem bump_flash (s : State) (f : Fld) (n : Nat) : (s.bump f n).flash = s.flash := rfl
@[simp] theorem bump_graft (s : State) (f : Fld) (n : Nat) : (s.bump f n).graft = s.graft := rfl
@[simp] theorem bump_jtag (s : State) (f : Fld) (n : Nat) : (s.bump f n).jtag = s.jtag := rfl
@[simp] theorem bump_pending (s : State) (f : Fld) (n : Nat) : (s.bump f n).pending = s.pending := rfl
@[simp] theorem bump_core (s : State) (f : Fld) (n : Nat) (kc : Nat) : (s.bump f n).core kc = s.core kc := rfl

/-! ### `clear1` -/

@[simp] theorem clear1_frc (s : State) (f : Fld) (w : Nat) : (s.clear1 f w).frc = s.frc := rfl
@[simp] theorem clear1_frcPrev (s : State) (f : Fld) (w : Nat) : (s.clear1 f w).frcPrev = s.frcPrev := rfl
@[simp] theorem clear1_cclk (s : State) (f : Fld) (w : Nat) : (s.clear1 f w).cclk = s.cclk := rfl
@[simp] theorem clear1_tclk (s : State) (f : Fld) (w : Nat) : (s.clear1 f w).tclk = s.tclk := rfl
@[simp] theorem clear1_free (s : State) (f : Fld) (w : Nat) : (s.clear1 f w).free = s.free := rfl
@[simp] theorem clear1_staged (s : State) (f : Fld) (w : Nat) : (s.clear1 f w).staged = s.staged := rfl
@[simp] theorem clear1_latches (s : State) (f : Fld) (w : Nat) : (s.clear1 f w).latches = s.latches := rfl
@[simp] theorem clear1_toDeliver (s : State) (f : Fld) (w : Nat) : (s.clear1 f w).toDeliver = s.toDeliver := rfl
@[simp] theorem clear1_stewardQ (s : State) (f : Fld) (w : Nat) : (s.clear1 f w).stewardQ = s.stewardQ := rfl
@[simp] theorem clear1_swiq (s : State) (f : Fld) (w : Nat) : (s.clear1 f w).swiq = s.swiq := rfl
@[simp] theorem clear1_cores (s : State) (f : Fld) (w : Nat) : (s.clear1 f w).cores = s.cores := rfl
@[simp] theorem clear1_orchard (s : State) (f : Fld) (w : Nat) : (s.clear1 f w).orchard = s.orchard := rfl
@[simp] theorem clear1_dram (s : State) (f : Fld) (w : Nat) : (s.clear1 f w).dram = s.dram := rfl
@[simp] theorem clear1_orcFlaws (s : State) (f : Fld) (w : Nat) : (s.clear1 f w).orcFlaws = s.orcFlaws := rfl
@[simp] theorem clear1_dramFlaws (s : State) (f : Fld) (w : Nat) : (s.clear1 f w).dramFlaws = s.dramFlaws := rfl
@[simp] theorem clear1_dirty (s : State) (f : Fld) (w : Nat) : (s.clear1 f w).dirty = s.dirty := rfl
@[simp] theorem clear1_qn (s : State) (f : Fld) (w : Nat) : (s.clear1 f w).qn = s.qn := rfl
@[simp] theorem clear1_faults (s : State) (f : Fld) (w : Nat) : (s.clear1 f w).faults = s.faults := rfl
@[simp] theorem clear1_vm (s : State) (f : Fld) (w : Nat) : (s.clear1 f w).vm = s.vm := rfl
@[simp] theorem clear1_scn (s : State) (f : Fld) (w : Nat) : (s.clear1 f w).scn = s.scn := rfl
@[simp] theorem clear1_uarts (s : State) (f : Fld) (w : Nat) : (s.clear1 f w).uarts = s.uarts := rfl
@[simp] theorem clear1_routes (s : State) (f : Fld) (w : Nat) : (s.clear1 f w).routes = s.routes := rfl
@[simp] theorem clear1_hold (s : State) (f : Fld) (w : Nat) : (s.clear1 f w).hold = s.hold := rfl
@[simp] theorem clear1_twin (s : State) (f : Fld) (w : Nat) : (s.clear1 f w).twin = s.twin := rfl
@[simp] theorem clear1_svc (s : State) (f : Fld) (w : Nat) : (s.clear1 f w).svc = s.svc := rfl
@[simp] theorem clear1_host (s : State) (f : Fld) (w : Nat) : (s.clear1 f w).host = s.host := rfl
@[simp] theorem clear1_flash (s : State) (f : Fld) (w : Nat) : (s.clear1 f w).flash = s.flash := rfl
@[simp] theorem clear1_graft (s : State) (f : Fld) (w : Nat) : (s.clear1 f w).graft = s.graft := rfl
@[simp] theorem clear1_jtag (s : State) (f : Fld) (w : Nat) : (s.clear1 f w).jtag = s.jtag := rfl
@[simp] theorem clear1_pending (s : State) (f : Fld) (w : Nat) : (s.clear1 f w).pending = s.pending := rfl
@[simp] theorem clear1_core (s : State) (f : Fld) (w : Nat) (kc : Nat) : (s.clear1 f w).core kc = s.core kc := rfl

/-! ### `reply` -/

@[simp] theorem reply_frc (s : State) (m : Master) (w : Nat) : (s.reply m w).frc = s.frc := rfl
@[simp] theorem reply_frcPrev (s : State) (m : Master) (w : Nat) : (s.reply m w).frcPrev = s.frcPrev := rfl
@[simp] theorem reply_cclk (s : State) (m : Master) (w : Nat) : (s.reply m w).cclk = s.cclk := rfl
@[simp] theorem reply_tclk (s : State) (m : Master) (w : Nat) : (s.reply m w).tclk = s.tclk := rfl
@[simp] theorem reply_free (s : State) (m : Master) (w : Nat) : (s.reply m w).free = s.free := rfl
@[simp] theorem reply_staged (s : State) (m : Master) (w : Nat) : (s.reply m w).staged = s.staged := rfl
@[simp] theorem reply_latches (s : State) (m : Master) (w : Nat) : (s.reply m w).latches = s.latches := rfl
@[simp] theorem reply_toDeliver (s : State) (m : Master) (w : Nat) : (s.reply m w).toDeliver = s.toDeliver := rfl
@[simp] theorem reply_stewardQ (s : State) (m : Master) (w : Nat) : (s.reply m w).stewardQ = s.stewardQ := rfl
@[simp] theorem reply_swiq (s : State) (m : Master) (w : Nat) : (s.reply m w).swiq = s.swiq := rfl
@[simp] theorem reply_cores (s : State) (m : Master) (w : Nat) : (s.reply m w).cores = s.cores := rfl
@[simp] theorem reply_orchard (s : State) (m : Master) (w : Nat) : (s.reply m w).orchard = s.orchard := rfl
@[simp] theorem reply_dram (s : State) (m : Master) (w : Nat) : (s.reply m w).dram = s.dram := rfl
@[simp] theorem reply_orcFlaws (s : State) (m : Master) (w : Nat) : (s.reply m w).orcFlaws = s.orcFlaws := rfl
@[simp] theorem reply_dramFlaws (s : State) (m : Master) (w : Nat) : (s.reply m w).dramFlaws = s.dramFlaws := rfl
@[simp] theorem reply_dirty (s : State) (m : Master) (w : Nat) : (s.reply m w).dirty = s.dirty := rfl
@[simp] theorem reply_qn (s : State) (m : Master) (w : Nat) : (s.reply m w).qn = s.qn := rfl
@[simp] theorem reply_faults (s : State) (m : Master) (w : Nat) : (s.reply m w).faults = s.faults := rfl
@[simp] theorem reply_vm (s : State) (m : Master) (w : Nat) : (s.reply m w).vm = s.vm := rfl
@[simp] theorem reply_scn (s : State) (m : Master) (w : Nat) : (s.reply m w).scn = s.scn := rfl
@[simp] theorem reply_uarts (s : State) (m : Master) (w : Nat) : (s.reply m w).uarts = s.uarts := rfl
@[simp] theorem reply_routes (s : State) (m : Master) (w : Nat) : (s.reply m w).routes = s.routes := rfl
@[simp] theorem reply_hold (s : State) (m : Master) (w : Nat) : (s.reply m w).hold = s.hold := rfl
@[simp] theorem reply_twin (s : State) (m : Master) (w : Nat) : (s.reply m w).twin = s.twin := rfl
@[simp] theorem reply_svc (s : State) (m : Master) (w : Nat) : (s.reply m w).svc = s.svc := rfl
@[simp] theorem reply_host (s : State) (m : Master) (w : Nat) : (s.reply m w).host = s.host := rfl
@[simp] theorem reply_flash (s : State) (m : Master) (w : Nat) : (s.reply m w).flash = s.flash := rfl
@[simp] theorem reply_graft (s : State) (m : Master) (w : Nat) : (s.reply m w).graft = s.graft := rfl
@[simp] theorem reply_jtag (s : State) (m : Master) (w : Nat) : (s.reply m w).jtag = s.jtag := rfl
@[simp] theorem reply_pending (s : State) (m : Master) (w : Nat) : (s.reply m w).pending = s.pending := rfl
@[simp] theorem reply_core (s : State) (m : Master) (w : Nat) (kc : Nat) : (s.reply m w).core kc = s.core kc := rfl

/-! ### `setLatch` -/

@[simp] theorem setLatch_regs (s : State) (m table entry : Nat) (ws : List Nat) : (s.setLatch m table entry ws).regs = s.regs := rfl
@[simp] theorem setLatch_frc (s : State) (m table entry : Nat) (ws : List Nat) : (s.setLatch m table entry ws).frc = s.frc := rfl
@[simp] theorem setLatch_frcPrev (s : State) (m table entry : Nat) (ws : List Nat) : (s.setLatch m table entry ws).frcPrev = s.frcPrev := rfl
@[simp] theorem setLatch_cclk (s : State) (m table entry : Nat) (ws : List Nat) : (s.setLatch m table entry ws).cclk = s.cclk := rfl
@[simp] theorem setLatch_tclk (s : State) (m table entry : Nat) (ws : List Nat) : (s.setLatch m table entry ws).tclk = s.tclk := rfl
@[simp] theorem setLatch_free (s : State) (m table entry : Nat) (ws : List Nat) : (s.setLatch m table entry ws).free = s.free := rfl
@[simp] theorem setLatch_staged (s : State) (m table entry : Nat) (ws : List Nat) : (s.setLatch m table entry ws).staged = s.staged := rfl
@[simp] theorem setLatch_toDeliver (s : State) (m table entry : Nat) (ws : List Nat) : (s.setLatch m table entry ws).toDeliver = s.toDeliver := rfl
@[simp] theorem setLatch_stewardQ (s : State) (m table entry : Nat) (ws : List Nat) : (s.setLatch m table entry ws).stewardQ = s.stewardQ := rfl
@[simp] theorem setLatch_swiq (s : State) (m table entry : Nat) (ws : List Nat) : (s.setLatch m table entry ws).swiq = s.swiq := rfl
@[simp] theorem setLatch_cores (s : State) (m table entry : Nat) (ws : List Nat) : (s.setLatch m table entry ws).cores = s.cores := rfl
@[simp] theorem setLatch_orchard (s : State) (m table entry : Nat) (ws : List Nat) : (s.setLatch m table entry ws).orchard = s.orchard := rfl
@[simp] theorem setLatch_dram (s : State) (m table entry : Nat) (ws : List Nat) : (s.setLatch m table entry ws).dram = s.dram := rfl
@[simp] theorem setLatch_orcFlaws (s : State) (m table entry : Nat) (ws : List Nat) : (s.setLatch m table entry ws).orcFlaws = s.orcFlaws := rfl
@[simp] theorem setLatch_dramFlaws (s : State) (m table entry : Nat) (ws : List Nat) : (s.setLatch m table entry ws).dramFlaws = s.dramFlaws := rfl
@[simp] theorem setLatch_dirty (s : State) (m table entry : Nat) (ws : List Nat) : (s.setLatch m table entry ws).dirty = s.dirty := rfl
@[simp] theorem setLatch_qn (s : State) (m table entry : Nat) (ws : List Nat) : (s.setLatch m table entry ws).qn = s.qn := rfl
@[simp] theorem setLatch_faults (s : State) (m table entry : Nat) (ws : List Nat) : (s.setLatch m table entry ws).faults = s.faults := rfl
@[simp] theorem setLatch_vm (s : State) (m table entry : Nat) (ws : List Nat) : (s.setLatch m table entry ws).vm = s.vm := rfl
@[simp] theorem setLatch_scn (s : State) (m table entry : Nat) (ws : List Nat) : (s.setLatch m table entry ws).scn = s.scn := rfl
@[simp] theorem setLatch_uarts (s : State) (m table entry : Nat) (ws : List Nat) : (s.setLatch m table entry ws).uarts = s.uarts := rfl
@[simp] theorem setLatch_routes (s : State) (m table entry : Nat) (ws : List Nat) : (s.setLatch m table entry ws).routes = s.routes := rfl
@[simp] theorem setLatch_hold (s : State) (m table entry : Nat) (ws : List Nat) : (s.setLatch m table entry ws).hold = s.hold := rfl
@[simp] theorem setLatch_twin (s : State) (m table entry : Nat) (ws : List Nat) : (s.setLatch m table entry ws).twin = s.twin := rfl
@[simp] theorem setLatch_svc (s : State) (m table entry : Nat) (ws : List Nat) : (s.setLatch m table entry ws).svc = s.svc := rfl
@[simp] theorem setLatch_host (s : State) (m table entry : Nat) (ws : List Nat) : (s.setLatch m table entry ws).host = s.host := rfl
@[simp] theorem setLatch_flash (s : State) (m table entry : Nat) (ws : List Nat) : (s.setLatch m table entry ws).flash = s.flash := rfl
@[simp] theorem setLatch_graft (s : State) (m table entry : Nat) (ws : List Nat) : (s.setLatch m table entry ws).graft = s.graft := rfl
@[simp] theorem setLatch_jtag (s : State) (m table entry : Nat) (ws : List Nat) : (s.setLatch m table entry ws).jtag = s.jtag := rfl
@[simp] theorem setLatch_pending (s : State) (m table entry : Nat) (ws : List Nat) : (s.setLatch m table entry ws).pending = s.pending := rfl
@[simp] theorem setLatch_get (s : State) (m table entry : Nat) (ws : List Nat) (gf : Fld) : (s.setLatch m table entry ws).get gf = s.get gf := rfl
@[simp] theorem setLatch_core (s : State) (m table entry : Nat) (ws : List Nat) (kc : Nat) : (s.setLatch m table entry ws).core kc = s.core kc := rfl

/-! ### `stage` -/

@[simp] theorem stage_regs (s : State) (m addr w : Nat) : (s.stage m addr w).regs = s.regs := rfl
@[simp] theorem stage_frc (s : State) (m addr w : Nat) : (s.stage m addr w).frc = s.frc := rfl
@[simp] theorem stage_frcPrev (s : State) (m addr w : Nat) : (s.stage m addr w).frcPrev = s.frcPrev := rfl
@[simp] theorem stage_cclk (s : State) (m addr w : Nat) : (s.stage m addr w).cclk = s.cclk := rfl
@[simp] theorem stage_tclk (s : State) (m addr w : Nat) : (s.stage m addr w).tclk = s.tclk := rfl
@[simp] theorem stage_free (s : State) (m addr w : Nat) : (s.stage m addr w).free = s.free := rfl
@[simp] theorem stage_latches (s : State) (m addr w : Nat) : (s.stage m addr w).latches = s.latches := rfl
@[simp] theorem stage_toDeliver (s : State) (m addr w : Nat) : (s.stage m addr w).toDeliver = s.toDeliver := rfl
@[simp] theorem stage_stewardQ (s : State) (m addr w : Nat) : (s.stage m addr w).stewardQ = s.stewardQ := rfl
@[simp] theorem stage_swiq (s : State) (m addr w : Nat) : (s.stage m addr w).swiq = s.swiq := rfl
@[simp] theorem stage_cores (s : State) (m addr w : Nat) : (s.stage m addr w).cores = s.cores := rfl
@[simp] theorem stage_orchard (s : State) (m addr w : Nat) : (s.stage m addr w).orchard = s.orchard := rfl
@[simp] theorem stage_dram (s : State) (m addr w : Nat) : (s.stage m addr w).dram = s.dram := rfl
@[simp] theorem stage_orcFlaws (s : State) (m addr w : Nat) : (s.stage m addr w).orcFlaws = s.orcFlaws := rfl
@[simp] theorem stage_dramFlaws (s : State) (m addr w : Nat) : (s.stage m addr w).dramFlaws = s.dramFlaws := rfl
@[simp] theorem stage_dirty (s : State) (m addr w : Nat) : (s.stage m addr w).dirty = s.dirty := rfl
@[simp] theorem stage_qn (s : State) (m addr w : Nat) : (s.stage m addr w).qn = s.qn := rfl
@[simp] theorem stage_faults (s : State) (m addr w : Nat) : (s.stage m addr w).faults = s.faults := rfl
@[simp] theorem stage_vm (s : State) (m addr w : Nat) : (s.stage m addr w).vm = s.vm := rfl
@[simp] theorem stage_scn (s : State) (m addr w : Nat) : (s.stage m addr w).scn = s.scn := rfl
@[simp] theorem stage_uarts (s : State) (m addr w : Nat) : (s.stage m addr w).uarts = s.uarts := rfl
@[simp] theorem stage_routes (s : State) (m addr w : Nat) : (s.stage m addr w).routes = s.routes := rfl
@[simp] theorem stage_hold (s : State) (m addr w : Nat) : (s.stage m addr w).hold = s.hold := rfl
@[simp] theorem stage_twin (s : State) (m addr w : Nat) : (s.stage m addr w).twin = s.twin := rfl
@[simp] theorem stage_svc (s : State) (m addr w : Nat) : (s.stage m addr w).svc = s.svc := rfl
@[simp] theorem stage_host (s : State) (m addr w : Nat) : (s.stage m addr w).host = s.host := rfl
@[simp] theorem stage_flash (s : State) (m addr w : Nat) : (s.stage m addr w).flash = s.flash := rfl
@[simp] theorem stage_graft (s : State) (m addr w : Nat) : (s.stage m addr w).graft = s.graft := rfl
@[simp] theorem stage_jtag (s : State) (m addr w : Nat) : (s.stage m addr w).jtag = s.jtag := rfl
@[simp] theorem stage_pending (s : State) (m addr w : Nat) : (s.stage m addr w).pending = s.pending := rfl
@[simp] theorem stage_get (s : State) (m addr w : Nat) (gf : Fld) : (s.stage m addr w).get gf = s.get gf := rfl
@[simp] theorem stage_core (s : State) (m addr w : Nat) (kc : Nat) : (s.stage m addr w).core kc = s.core kc := rfl

/-! ### `setCore` -/

@[simp] theorem setCore_regs (s : State) (n : Nat) (c : Core) : (s.setCore n c).regs = s.regs := rfl
@[simp] theorem setCore_frc (s : State) (n : Nat) (c : Core) : (s.setCore n c).frc = s.frc := rfl
@[simp] theorem setCore_frcPrev (s : State) (n : Nat) (c : Core) : (s.setCore n c).frcPrev = s.frcPrev := rfl
@[simp] theorem setCore_cclk (s : State) (n : Nat) (c : Core) : (s.setCore n c).cclk = s.cclk := rfl
@[simp] theorem setCore_tclk (s : State) (n : Nat) (c : Core) : (s.setCore n c).tclk = s.tclk := rfl
@[simp] theorem setCore_free (s : State) (n : Nat) (c : Core) : (s.setCore n c).free = s.free := rfl
@[simp] theorem setCore_staged (s : State) (n : Nat) (c : Core) : (s.setCore n c).staged = s.staged := rfl
@[simp] theorem setCore_latches (s : State) (n : Nat) (c : Core) : (s.setCore n c).latches = s.latches := rfl
@[simp] theorem setCore_toDeliver (s : State) (n : Nat) (c : Core) : (s.setCore n c).toDeliver = s.toDeliver := rfl
@[simp] theorem setCore_stewardQ (s : State) (n : Nat) (c : Core) : (s.setCore n c).stewardQ = s.stewardQ := rfl
@[simp] theorem setCore_swiq (s : State) (n : Nat) (c : Core) : (s.setCore n c).swiq = s.swiq := rfl
@[simp] theorem setCore_orchard (s : State) (n : Nat) (c : Core) : (s.setCore n c).orchard = s.orchard := rfl
@[simp] theorem setCore_dram (s : State) (n : Nat) (c : Core) : (s.setCore n c).dram = s.dram := rfl
@[simp] theorem setCore_orcFlaws (s : State) (n : Nat) (c : Core) : (s.setCore n c).orcFlaws = s.orcFlaws := rfl
@[simp] theorem setCore_dramFlaws (s : State) (n : Nat) (c : Core) : (s.setCore n c).dramFlaws = s.dramFlaws := rfl
@[simp] theorem setCore_dirty (s : State) (n : Nat) (c : Core) : (s.setCore n c).dirty = s.dirty := rfl
@[simp] theorem setCore_qn (s : State) (n : Nat) (c : Core) : (s.setCore n c).qn = s.qn := rfl
@[simp] theorem setCore_faults (s : State) (n : Nat) (c : Core) : (s.setCore n c).faults = s.faults := rfl
@[simp] theorem setCore_vm (s : State) (n : Nat) (c : Core) : (s.setCore n c).vm = s.vm := rfl
@[simp] theorem setCore_scn (s : State) (n : Nat) (c : Core) : (s.setCore n c).scn = s.scn := rfl
@[simp] theorem setCore_uarts (s : State) (n : Nat) (c : Core) : (s.setCore n c).uarts = s.uarts := rfl
@[simp] theorem setCore_routes (s : State) (n : Nat) (c : Core) : (s.setCore n c).routes = s.routes := rfl
@[simp] theorem setCore_hold (s : State) (n : Nat) (c : Core) : (s.setCore n c).hold = s.hold := rfl
@[simp] theorem setCore_twin (s : State) (n : Nat) (c : Core) : (s.setCore n c).twin = s.twin := rfl
@[simp] theorem setCore_svc (s : State) (n : Nat) (c : Core) : (s.setCore n c).svc = s.svc := rfl
@[simp] theorem setCore_host (s : State) (n : Nat) (c : Core) : (s.setCore n c).host = s.host := rfl
@[simp] theorem setCore_flash (s : State) (n : Nat) (c : Core) : (s.setCore n c).flash = s.flash := rfl
@[simp] theorem setCore_graft (s : State) (n : Nat) (c : Core) : (s.setCore n c).graft = s.graft := rfl
@[simp] theorem setCore_jtag (s : State) (n : Nat) (c : Core) : (s.setCore n c).jtag = s.jtag := rfl
@[simp] theorem setCore_pending (s : State) (n : Nat) (c : Core) : (s.setCore n c).pending = s.pending := rfl
@[simp] theorem setCore_get (s : State) (n : Nat) (c : Core) (gf : Fld) : (s.setCore n c).get gf = s.get gf := rfl

/-! ### `setQueue` -/

@[simp] theorem setQueue_regs (s : State) (q : List QEvent) : (s.setQueue q).regs = s.regs := rfl
@[simp] theorem setQueue_frc (s : State) (q : List QEvent) : (s.setQueue q).frc = s.frc := rfl
@[simp] theorem setQueue_frcPrev (s : State) (q : List QEvent) : (s.setQueue q).frcPrev = s.frcPrev := rfl
@[simp] theorem setQueue_cclk (s : State) (q : List QEvent) : (s.setQueue q).cclk = s.cclk := rfl
@[simp] theorem setQueue_tclk (s : State) (q : List QEvent) : (s.setQueue q).tclk = s.tclk := rfl
@[simp] theorem setQueue_free (s : State) (q : List QEvent) : (s.setQueue q).free = s.free := rfl
@[simp] theorem setQueue_staged (s : State) (q : List QEvent) : (s.setQueue q).staged = s.staged := rfl
@[simp] theorem setQueue_latches (s : State) (q : List QEvent) : (s.setQueue q).latches = s.latches := rfl
@[simp] theorem setQueue_toDeliver (s : State) (q : List QEvent) : (s.setQueue q).toDeliver = s.toDeliver := rfl
@[simp] theorem setQueue_stewardQ (s : State) (q : List QEvent) : (s.setQueue q).stewardQ = s.stewardQ := rfl
@[simp] theorem setQueue_swiq (s : State) (q : List QEvent) : (s.setQueue q).swiq = s.swiq := rfl
@[simp] theorem setQueue_cores (s : State) (q : List QEvent) : (s.setQueue q).cores = s.cores := rfl
@[simp] theorem setQueue_orchard (s : State) (q : List QEvent) : (s.setQueue q).orchard = s.orchard := rfl
@[simp] theorem setQueue_dram (s : State) (q : List QEvent) : (s.setQueue q).dram = s.dram := rfl
@[simp] theorem setQueue_orcFlaws (s : State) (q : List QEvent) : (s.setQueue q).orcFlaws = s.orcFlaws := rfl
@[simp] theorem setQueue_dramFlaws (s : State) (q : List QEvent) : (s.setQueue q).dramFlaws = s.dramFlaws := rfl
@[simp] theorem setQueue_dirty (s : State) (q : List QEvent) : (s.setQueue q).dirty = s.dirty := rfl
@[simp] theorem setQueue_faults (s : State) (q : List QEvent) : (s.setQueue q).faults = s.faults := rfl
@[simp] theorem setQueue_vm (s : State) (q : List QEvent) : (s.setQueue q).vm = s.vm := rfl
@[simp] theorem setQueue_scn (s : State) (q : List QEvent) : (s.setQueue q).scn = s.scn := rfl
@[simp] theorem setQueue_uarts (s : State) (q : List QEvent) : (s.setQueue q).uarts = s.uarts := rfl
@[simp] theorem setQueue_routes (s : State) (q : List QEvent) : (s.setQueue q).routes = s.routes := rfl
@[simp] theorem setQueue_hold (s : State) (q : List QEvent) : (s.setQueue q).hold = s.hold := rfl
@[simp] theorem setQueue_twin (s : State) (q : List QEvent) : (s.setQueue q).twin = s.twin := rfl
@[simp] theorem setQueue_svc (s : State) (q : List QEvent) : (s.setQueue q).svc = s.svc := rfl
@[simp] theorem setQueue_host (s : State) (q : List QEvent) : (s.setQueue q).host = s.host := rfl
@[simp] theorem setQueue_flash (s : State) (q : List QEvent) : (s.setQueue q).flash = s.flash := rfl
@[simp] theorem setQueue_graft (s : State) (q : List QEvent) : (s.setQueue q).graft = s.graft := rfl
@[simp] theorem setQueue_jtag (s : State) (q : List QEvent) : (s.setQueue q).jtag = s.jtag := rfl
@[simp] theorem setQueue_pending (s : State) (q : List QEvent) : (s.setQueue q).pending = s.pending := rfl
@[simp] theorem setQueue_get (s : State) (q : List QEvent) (gf : Fld) : (s.setQueue q).get gf = s.get gf := rfl
@[simp] theorem setQueue_core (s : State) (q : List QEvent) (kc : Nat) : (s.setQueue q).core kc = s.core kc := rfl

/-! ### `setHeld` -/

@[simp] theorem setHeld_regs (s : State) (h : List HeldPost) : (s.setHeld h).regs = s.regs := rfl
@[simp] theorem setHeld_frc (s : State) (h : List HeldPost) : (s.setHeld h).frc = s.frc := rfl
@[simp] theorem setHeld_frcPrev (s : State) (h : List HeldPost) : (s.setHeld h).frcPrev = s.frcPrev := rfl
@[simp] theorem setHeld_cclk (s : State) (h : List HeldPost) : (s.setHeld h).cclk = s.cclk := rfl
@[simp] theorem setHeld_tclk (s : State) (h : List HeldPost) : (s.setHeld h).tclk = s.tclk := rfl
@[simp] theorem setHeld_free (s : State) (h : List HeldPost) : (s.setHeld h).free = s.free := rfl
@[simp] theorem setHeld_staged (s : State) (h : List HeldPost) : (s.setHeld h).staged = s.staged := rfl
@[simp] theorem setHeld_latches (s : State) (h : List HeldPost) : (s.setHeld h).latches = s.latches := rfl
@[simp] theorem setHeld_toDeliver (s : State) (h : List HeldPost) : (s.setHeld h).toDeliver = s.toDeliver := rfl
@[simp] theorem setHeld_stewardQ (s : State) (h : List HeldPost) : (s.setHeld h).stewardQ = s.stewardQ := rfl
@[simp] theorem setHeld_swiq (s : State) (h : List HeldPost) : (s.setHeld h).swiq = s.swiq := rfl
@[simp] theorem setHeld_cores (s : State) (h : List HeldPost) : (s.setHeld h).cores = s.cores := rfl
@[simp] theorem setHeld_orchard (s : State) (h : List HeldPost) : (s.setHeld h).orchard = s.orchard := rfl
@[simp] theorem setHeld_dram (s : State) (h : List HeldPost) : (s.setHeld h).dram = s.dram := rfl
@[simp] theorem setHeld_orcFlaws (s : State) (h : List HeldPost) : (s.setHeld h).orcFlaws = s.orcFlaws := rfl
@[simp] theorem setHeld_dramFlaws (s : State) (h : List HeldPost) : (s.setHeld h).dramFlaws = s.dramFlaws := rfl
@[simp] theorem setHeld_dirty (s : State) (h : List HeldPost) : (s.setHeld h).dirty = s.dirty := rfl
@[simp] theorem setHeld_faults (s : State) (h : List HeldPost) : (s.setHeld h).faults = s.faults := rfl
@[simp] theorem setHeld_vm (s : State) (h : List HeldPost) : (s.setHeld h).vm = s.vm := rfl
@[simp] theorem setHeld_scn (s : State) (h : List HeldPost) : (s.setHeld h).scn = s.scn := rfl
@[simp] theorem setHeld_uarts (s : State) (h : List HeldPost) : (s.setHeld h).uarts = s.uarts := rfl
@[simp] theorem setHeld_routes (s : State) (h : List HeldPost) : (s.setHeld h).routes = s.routes := rfl
@[simp] theorem setHeld_hold (s : State) (h : List HeldPost) : (s.setHeld h).hold = s.hold := rfl
@[simp] theorem setHeld_twin (s : State) (h : List HeldPost) : (s.setHeld h).twin = s.twin := rfl
@[simp] theorem setHeld_svc (s : State) (h : List HeldPost) : (s.setHeld h).svc = s.svc := rfl
@[simp] theorem setHeld_host (s : State) (h : List HeldPost) : (s.setHeld h).host = s.host := rfl
@[simp] theorem setHeld_flash (s : State) (h : List HeldPost) : (s.setHeld h).flash = s.flash := rfl
@[simp] theorem setHeld_graft (s : State) (h : List HeldPost) : (s.setHeld h).graft = s.graft := rfl
@[simp] theorem setHeld_jtag (s : State) (h : List HeldPost) : (s.setHeld h).jtag = s.jtag := rfl
@[simp] theorem setHeld_pending (s : State) (h : List HeldPost) : (s.setHeld h).pending = s.pending := rfl
@[simp] theorem setHeld_get (s : State) (h : List HeldPost) (gf : Fld) : (s.setHeld h).get gf = s.get gf := rfl
@[simp] theorem setHeld_core (s : State) (h : List HeldPost) (kc : Nat) : (s.setHeld h).core kc = s.core kc := rfl

/-! ### `setRoute` -/

@[simp] theorem setRoute_regs (s : State) (d : Nat) (r : Route) : (s.setRoute d r).regs = s.regs := rfl
@[simp] theorem setRoute_frc (s : State) (d : Nat) (r : Route) : (s.setRoute d r).frc = s.frc := rfl
@[simp] theorem setRoute_frcPrev (s : State) (d : Nat) (r : Route) : (s.setRoute d r).frcPrev = s.frcPrev := rfl
@[simp] theorem setRoute_cclk (s : State) (d : Nat) (r : Route) : (s.setRoute d r).cclk = s.cclk := rfl
@[simp] theorem setRoute_tclk (s : State) (d : Nat) (r : Route) : (s.setRoute d r).tclk = s.tclk := rfl
@[simp] theorem setRoute_free (s : State) (d : Nat) (r : Route) : (s.setRoute d r).free = s.free := rfl
@[simp] theorem setRoute_staged (s : State) (d : Nat) (r : Route) : (s.setRoute d r).staged = s.staged := rfl
@[simp] theorem setRoute_latches (s : State) (d : Nat) (r : Route) : (s.setRoute d r).latches = s.latches := rfl
@[simp] theorem setRoute_toDeliver (s : State) (d : Nat) (r : Route) : (s.setRoute d r).toDeliver = s.toDeliver := rfl
@[simp] theorem setRoute_stewardQ (s : State) (d : Nat) (r : Route) : (s.setRoute d r).stewardQ = s.stewardQ := rfl
@[simp] theorem setRoute_swiq (s : State) (d : Nat) (r : Route) : (s.setRoute d r).swiq = s.swiq := rfl
@[simp] theorem setRoute_cores (s : State) (d : Nat) (r : Route) : (s.setRoute d r).cores = s.cores := rfl
@[simp] theorem setRoute_orchard (s : State) (d : Nat) (r : Route) : (s.setRoute d r).orchard = s.orchard := rfl
@[simp] theorem setRoute_dram (s : State) (d : Nat) (r : Route) : (s.setRoute d r).dram = s.dram := rfl
@[simp] theorem setRoute_orcFlaws (s : State) (d : Nat) (r : Route) : (s.setRoute d r).orcFlaws = s.orcFlaws := rfl
@[simp] theorem setRoute_dramFlaws (s : State) (d : Nat) (r : Route) : (s.setRoute d r).dramFlaws = s.dramFlaws := rfl
@[simp] theorem setRoute_dirty (s : State) (d : Nat) (r : Route) : (s.setRoute d r).dirty = s.dirty := rfl
@[simp] theorem setRoute_qn (s : State) (d : Nat) (r : Route) : (s.setRoute d r).qn = s.qn := rfl
@[simp] theorem setRoute_faults (s : State) (d : Nat) (r : Route) : (s.setRoute d r).faults = s.faults := rfl
@[simp] theorem setRoute_vm (s : State) (d : Nat) (r : Route) : (s.setRoute d r).vm = s.vm := rfl
@[simp] theorem setRoute_scn (s : State) (d : Nat) (r : Route) : (s.setRoute d r).scn = s.scn := rfl
@[simp] theorem setRoute_uarts (s : State) (d : Nat) (r : Route) : (s.setRoute d r).uarts = s.uarts := rfl
@[simp] theorem setRoute_hold (s : State) (d : Nat) (r : Route) : (s.setRoute d r).hold = s.hold := rfl
@[simp] theorem setRoute_twin (s : State) (d : Nat) (r : Route) : (s.setRoute d r).twin = s.twin := rfl
@[simp] theorem setRoute_svc (s : State) (d : Nat) (r : Route) : (s.setRoute d r).svc = s.svc := rfl
@[simp] theorem setRoute_host (s : State) (d : Nat) (r : Route) : (s.setRoute d r).host = s.host := rfl
@[simp] theorem setRoute_flash (s : State) (d : Nat) (r : Route) : (s.setRoute d r).flash = s.flash := rfl
@[simp] theorem setRoute_graft (s : State) (d : Nat) (r : Route) : (s.setRoute d r).graft = s.graft := rfl
@[simp] theorem setRoute_jtag (s : State) (d : Nat) (r : Route) : (s.setRoute d r).jtag = s.jtag := rfl
@[simp] theorem setRoute_pending (s : State) (d : Nat) (r : Route) : (s.setRoute d r).pending = s.pending := rfl
@[simp] theorem setRoute_get (s : State) (d : Nat) (r : Route) (gf : Fld) : (s.setRoute d r).get gf = s.get gf := rfl
@[simp] theorem setRoute_core (s : State) (d : Nat) (r : Route) (kc : Nat) : (s.setRoute d r).core kc = s.core kc := rfl

/-! ### `setCurve` -/

@[simp] theorem setCurve_regs (s : State) (k : Nat) (c : Curve) : (s.setCurve k c).regs = s.regs := rfl
@[simp] theorem setCurve_frc (s : State) (k : Nat) (c : Curve) : (s.setCurve k c).frc = s.frc := rfl
@[simp] theorem setCurve_frcPrev (s : State) (k : Nat) (c : Curve) : (s.setCurve k c).frcPrev = s.frcPrev := rfl
@[simp] theorem setCurve_cclk (s : State) (k : Nat) (c : Curve) : (s.setCurve k c).cclk = s.cclk := rfl
@[simp] theorem setCurve_tclk (s : State) (k : Nat) (c : Curve) : (s.setCurve k c).tclk = s.tclk := rfl
@[simp] theorem setCurve_free (s : State) (k : Nat) (c : Curve) : (s.setCurve k c).free = s.free := rfl
@[simp] theorem setCurve_staged (s : State) (k : Nat) (c : Curve) : (s.setCurve k c).staged = s.staged := rfl
@[simp] theorem setCurve_latches (s : State) (k : Nat) (c : Curve) : (s.setCurve k c).latches = s.latches := rfl
@[simp] theorem setCurve_toDeliver (s : State) (k : Nat) (c : Curve) : (s.setCurve k c).toDeliver = s.toDeliver := rfl
@[simp] theorem setCurve_stewardQ (s : State) (k : Nat) (c : Curve) : (s.setCurve k c).stewardQ = s.stewardQ := rfl
@[simp] theorem setCurve_swiq (s : State) (k : Nat) (c : Curve) : (s.setCurve k c).swiq = s.swiq := rfl
@[simp] theorem setCurve_cores (s : State) (k : Nat) (c : Curve) : (s.setCurve k c).cores = s.cores := rfl
@[simp] theorem setCurve_orchard (s : State) (k : Nat) (c : Curve) : (s.setCurve k c).orchard = s.orchard := rfl
@[simp] theorem setCurve_dram (s : State) (k : Nat) (c : Curve) : (s.setCurve k c).dram = s.dram := rfl
@[simp] theorem setCurve_orcFlaws (s : State) (k : Nat) (c : Curve) : (s.setCurve k c).orcFlaws = s.orcFlaws := rfl
@[simp] theorem setCurve_dramFlaws (s : State) (k : Nat) (c : Curve) : (s.setCurve k c).dramFlaws = s.dramFlaws := rfl
@[simp] theorem setCurve_dirty (s : State) (k : Nat) (c : Curve) : (s.setCurve k c).dirty = s.dirty := rfl
@[simp] theorem setCurve_qn (s : State) (k : Nat) (c : Curve) : (s.setCurve k c).qn = s.qn := rfl
@[simp] theorem setCurve_faults (s : State) (k : Nat) (c : Curve) : (s.setCurve k c).faults = s.faults := rfl
@[simp] theorem setCurve_vm (s : State) (k : Nat) (c : Curve) : (s.setCurve k c).vm = s.vm := rfl
@[simp] theorem setCurve_uarts (s : State) (k : Nat) (c : Curve) : (s.setCurve k c).uarts = s.uarts := rfl
@[simp] theorem setCurve_routes (s : State) (k : Nat) (c : Curve) : (s.setCurve k c).routes = s.routes := rfl
@[simp] theorem setCurve_hold (s : State) (k : Nat) (c : Curve) : (s.setCurve k c).hold = s.hold := rfl
@[simp] theorem setCurve_twin (s : State) (k : Nat) (c : Curve) : (s.setCurve k c).twin = s.twin := rfl
@[simp] theorem setCurve_svc (s : State) (k : Nat) (c : Curve) : (s.setCurve k c).svc = s.svc := rfl
@[simp] theorem setCurve_host (s : State) (k : Nat) (c : Curve) : (s.setCurve k c).host = s.host := rfl
@[simp] theorem setCurve_flash (s : State) (k : Nat) (c : Curve) : (s.setCurve k c).flash = s.flash := rfl
@[simp] theorem setCurve_graft (s : State) (k : Nat) (c : Curve) : (s.setCurve k c).graft = s.graft := rfl
@[simp] theorem setCurve_jtag (s : State) (k : Nat) (c : Curve) : (s.setCurve k c).jtag = s.jtag := rfl
@[simp] theorem setCurve_pending (s : State) (k : Nat) (c : Curve) : (s.setCurve k c).pending = s.pending := rfl
@[simp] theorem setCurve_get (s : State) (k : Nat) (c : Curve) (gf : Fld) : (s.setCurve k c).get gf = s.get gf := rfl
@[simp] theorem setCurve_core (s : State) (k : Nat) (c : Curve) (kc : Nat) : (s.setCurve k c).core kc = s.core kc := rfl

/-! ### `setRcl` -/

@[simp] theorem setRcl_regs (s : State) (r : Option Recall) : (s.setRcl r).regs = s.regs := rfl
@[simp] theorem setRcl_frc (s : State) (r : Option Recall) : (s.setRcl r).frc = s.frc := rfl
@[simp] theorem setRcl_frcPrev (s : State) (r : Option Recall) : (s.setRcl r).frcPrev = s.frcPrev := rfl
@[simp] theorem setRcl_cclk (s : State) (r : Option Recall) : (s.setRcl r).cclk = s.cclk := rfl
@[simp] theorem setRcl_tclk (s : State) (r : Option Recall) : (s.setRcl r).tclk = s.tclk := rfl
@[simp] theorem setRcl_free (s : State) (r : Option Recall) : (s.setRcl r).free = s.free := rfl
@[simp] theorem setRcl_staged (s : State) (r : Option Recall) : (s.setRcl r).staged = s.staged := rfl
@[simp] theorem setRcl_latches (s : State) (r : Option Recall) : (s.setRcl r).latches = s.latches := rfl
@[simp] theorem setRcl_toDeliver (s : State) (r : Option Recall) : (s.setRcl r).toDeliver = s.toDeliver := rfl
@[simp] theorem setRcl_stewardQ (s : State) (r : Option Recall) : (s.setRcl r).stewardQ = s.stewardQ := rfl
@[simp] theorem setRcl_swiq (s : State) (r : Option Recall) : (s.setRcl r).swiq = s.swiq := rfl
@[simp] theorem setRcl_cores (s : State) (r : Option Recall) : (s.setRcl r).cores = s.cores := rfl
@[simp] theorem setRcl_orchard (s : State) (r : Option Recall) : (s.setRcl r).orchard = s.orchard := rfl
@[simp] theorem setRcl_dram (s : State) (r : Option Recall) : (s.setRcl r).dram = s.dram := rfl
@[simp] theorem setRcl_orcFlaws (s : State) (r : Option Recall) : (s.setRcl r).orcFlaws = s.orcFlaws := rfl
@[simp] theorem setRcl_dramFlaws (s : State) (r : Option Recall) : (s.setRcl r).dramFlaws = s.dramFlaws := rfl
@[simp] theorem setRcl_dirty (s : State) (r : Option Recall) : (s.setRcl r).dirty = s.dirty := rfl
@[simp] theorem setRcl_qn (s : State) (r : Option Recall) : (s.setRcl r).qn = s.qn := rfl
@[simp] theorem setRcl_faults (s : State) (r : Option Recall) : (s.setRcl r).faults = s.faults := rfl
@[simp] theorem setRcl_vm (s : State) (r : Option Recall) : (s.setRcl r).vm = s.vm := rfl
@[simp] theorem setRcl_uarts (s : State) (r : Option Recall) : (s.setRcl r).uarts = s.uarts := rfl
@[simp] theorem setRcl_routes (s : State) (r : Option Recall) : (s.setRcl r).routes = s.routes := rfl
@[simp] theorem setRcl_hold (s : State) (r : Option Recall) : (s.setRcl r).hold = s.hold := rfl
@[simp] theorem setRcl_twin (s : State) (r : Option Recall) : (s.setRcl r).twin = s.twin := rfl
@[simp] theorem setRcl_svc (s : State) (r : Option Recall) : (s.setRcl r).svc = s.svc := rfl
@[simp] theorem setRcl_host (s : State) (r : Option Recall) : (s.setRcl r).host = s.host := rfl
@[simp] theorem setRcl_flash (s : State) (r : Option Recall) : (s.setRcl r).flash = s.flash := rfl
@[simp] theorem setRcl_graft (s : State) (r : Option Recall) : (s.setRcl r).graft = s.graft := rfl
@[simp] theorem setRcl_jtag (s : State) (r : Option Recall) : (s.setRcl r).jtag = s.jtag := rfl
@[simp] theorem setRcl_pending (s : State) (r : Option Recall) : (s.setRcl r).pending = s.pending := rfl
@[simp] theorem setRcl_get (s : State) (r : Option Recall) (gf : Fld) : (s.setRcl r).get gf = s.get gf := rfl
@[simp] theorem setRcl_core (s : State) (r : Option Recall) (kc : Nat) : (s.setRcl r).core kc = s.core kc := rfl

/-! ### `setUart` -/

@[simp] theorem setUart_regs (s : State) (n : Nat) (u : Uart) : (s.setUart n u).regs = s.regs := rfl
@[simp] theorem setUart_frc (s : State) (n : Nat) (u : Uart) : (s.setUart n u).frc = s.frc := rfl
@[simp] theorem setUart_frcPrev (s : State) (n : Nat) (u : Uart) : (s.setUart n u).frcPrev = s.frcPrev := rfl
@[simp] theorem setUart_cclk (s : State) (n : Nat) (u : Uart) : (s.setUart n u).cclk = s.cclk := rfl
@[simp] theorem setUart_tclk (s : State) (n : Nat) (u : Uart) : (s.setUart n u).tclk = s.tclk := rfl
@[simp] theorem setUart_free (s : State) (n : Nat) (u : Uart) : (s.setUart n u).free = s.free := rfl
@[simp] theorem setUart_staged (s : State) (n : Nat) (u : Uart) : (s.setUart n u).staged = s.staged := rfl
@[simp] theorem setUart_latches (s : State) (n : Nat) (u : Uart) : (s.setUart n u).latches = s.latches := rfl
@[simp] theorem setUart_toDeliver (s : State) (n : Nat) (u : Uart) : (s.setUart n u).toDeliver = s.toDeliver := rfl
@[simp] theorem setUart_stewardQ (s : State) (n : Nat) (u : Uart) : (s.setUart n u).stewardQ = s.stewardQ := rfl
@[simp] theorem setUart_swiq (s : State) (n : Nat) (u : Uart) : (s.setUart n u).swiq = s.swiq := rfl
@[simp] theorem setUart_cores (s : State) (n : Nat) (u : Uart) : (s.setUart n u).cores = s.cores := rfl
@[simp] theorem setUart_orchard (s : State) (n : Nat) (u : Uart) : (s.setUart n u).orchard = s.orchard := rfl
@[simp] theorem setUart_dram (s : State) (n : Nat) (u : Uart) : (s.setUart n u).dram = s.dram := rfl
@[simp] theorem setUart_orcFlaws (s : State) (n : Nat) (u : Uart) : (s.setUart n u).orcFlaws = s.orcFlaws := rfl
@[simp] theorem setUart_dramFlaws (s : State) (n : Nat) (u : Uart) : (s.setUart n u).dramFlaws = s.dramFlaws := rfl
@[simp] theorem setUart_dirty (s : State) (n : Nat) (u : Uart) : (s.setUart n u).dirty = s.dirty := rfl
@[simp] theorem setUart_qn (s : State) (n : Nat) (u : Uart) : (s.setUart n u).qn = s.qn := rfl
@[simp] theorem setUart_faults (s : State) (n : Nat) (u : Uart) : (s.setUart n u).faults = s.faults := rfl
@[simp] theorem setUart_vm (s : State) (n : Nat) (u : Uart) : (s.setUart n u).vm = s.vm := rfl
@[simp] theorem setUart_scn (s : State) (n : Nat) (u : Uart) : (s.setUart n u).scn = s.scn := rfl
@[simp] theorem setUart_routes (s : State) (n : Nat) (u : Uart) : (s.setUart n u).routes = s.routes := rfl
@[simp] theorem setUart_hold (s : State) (n : Nat) (u : Uart) : (s.setUart n u).hold = s.hold := rfl
@[simp] theorem setUart_twin (s : State) (n : Nat) (u : Uart) : (s.setUart n u).twin = s.twin := rfl
@[simp] theorem setUart_svc (s : State) (n : Nat) (u : Uart) : (s.setUart n u).svc = s.svc := rfl
@[simp] theorem setUart_host (s : State) (n : Nat) (u : Uart) : (s.setUart n u).host = s.host := rfl
@[simp] theorem setUart_flash (s : State) (n : Nat) (u : Uart) : (s.setUart n u).flash = s.flash := rfl
@[simp] theorem setUart_graft (s : State) (n : Nat) (u : Uart) : (s.setUart n u).graft = s.graft := rfl
@[simp] theorem setUart_jtag (s : State) (n : Nat) (u : Uart) : (s.setUart n u).jtag = s.jtag := rfl
@[simp] theorem setUart_pending (s : State) (n : Nat) (u : Uart) : (s.setUart n u).pending = s.pending := rfl
@[simp] theorem setUart_get (s : State) (n : Nat) (u : Uart) (gf : Fld) : (s.setUart n u).get gf = s.get gf := rfl
@[simp] theorem setUart_core (s : State) (n : Nat) (u : Uart) (kc : Nat) : (s.setUart n u).core kc = s.core kc := rfl

/-! ### `setFlash` -/

@[simp] theorem setFlash_regs (s : State) (f : Flash) : (s.setFlash f).regs = s.regs := rfl
@[simp] theorem setFlash_frc (s : State) (f : Flash) : (s.setFlash f).frc = s.frc := rfl
@[simp] theorem setFlash_frcPrev (s : State) (f : Flash) : (s.setFlash f).frcPrev = s.frcPrev := rfl
@[simp] theorem setFlash_cclk (s : State) (f : Flash) : (s.setFlash f).cclk = s.cclk := rfl
@[simp] theorem setFlash_tclk (s : State) (f : Flash) : (s.setFlash f).tclk = s.tclk := rfl
@[simp] theorem setFlash_free (s : State) (f : Flash) : (s.setFlash f).free = s.free := rfl
@[simp] theorem setFlash_staged (s : State) (f : Flash) : (s.setFlash f).staged = s.staged := rfl
@[simp] theorem setFlash_latches (s : State) (f : Flash) : (s.setFlash f).latches = s.latches := rfl
@[simp] theorem setFlash_toDeliver (s : State) (f : Flash) : (s.setFlash f).toDeliver = s.toDeliver := rfl
@[simp] theorem setFlash_stewardQ (s : State) (f : Flash) : (s.setFlash f).stewardQ = s.stewardQ := rfl
@[simp] theorem setFlash_swiq (s : State) (f : Flash) : (s.setFlash f).swiq = s.swiq := rfl
@[simp] theorem setFlash_cores (s : State) (f : Flash) : (s.setFlash f).cores = s.cores := rfl
@[simp] theorem setFlash_orchard (s : State) (f : Flash) : (s.setFlash f).orchard = s.orchard := rfl
@[simp] theorem setFlash_dram (s : State) (f : Flash) : (s.setFlash f).dram = s.dram := rfl
@[simp] theorem setFlash_orcFlaws (s : State) (f : Flash) : (s.setFlash f).orcFlaws = s.orcFlaws := rfl
@[simp] theorem setFlash_dramFlaws (s : State) (f : Flash) : (s.setFlash f).dramFlaws = s.dramFlaws := rfl
@[simp] theorem setFlash_dirty (s : State) (f : Flash) : (s.setFlash f).dirty = s.dirty := rfl
@[simp] theorem setFlash_qn (s : State) (f : Flash) : (s.setFlash f).qn = s.qn := rfl
@[simp] theorem setFlash_faults (s : State) (f : Flash) : (s.setFlash f).faults = s.faults := rfl
@[simp] theorem setFlash_vm (s : State) (f : Flash) : (s.setFlash f).vm = s.vm := rfl
@[simp] theorem setFlash_scn (s : State) (f : Flash) : (s.setFlash f).scn = s.scn := rfl
@[simp] theorem setFlash_uarts (s : State) (f : Flash) : (s.setFlash f).uarts = s.uarts := rfl
@[simp] theorem setFlash_routes (s : State) (f : Flash) : (s.setFlash f).routes = s.routes := rfl
@[simp] theorem setFlash_hold (s : State) (f : Flash) : (s.setFlash f).hold = s.hold := rfl
@[simp] theorem setFlash_twin (s : State) (f : Flash) : (s.setFlash f).twin = s.twin := rfl
@[simp] theorem setFlash_svc (s : State) (f : Flash) : (s.setFlash f).svc = s.svc := rfl
@[simp] theorem setFlash_host (s : State) (f : Flash) : (s.setFlash f).host = s.host := rfl
@[simp] theorem setFlash_graft (s : State) (f : Flash) : (s.setFlash f).graft = s.graft := rfl
@[simp] theorem setFlash_jtag (s : State) (f : Flash) : (s.setFlash f).jtag = s.jtag := rfl
@[simp] theorem setFlash_pending (s : State) (f : Flash) : (s.setFlash f).pending = s.pending := rfl
@[simp] theorem setFlash_get (s : State) (f : Flash) (gf : Fld) : (s.setFlash f).get gf = s.get gf := rfl
@[simp] theorem setFlash_core (s : State) (f : Flash) (kc : Nat) : (s.setFlash f).core kc = s.core kc := rfl

/-! ### `setGraft` -/

@[simp] theorem setGraft_regs (s : State) (g : Graft) : (s.setGraft g).regs = s.regs := rfl
@[simp] theorem setGraft_frc (s : State) (g : Graft) : (s.setGraft g).frc = s.frc := rfl
@[simp] theorem setGraft_frcPrev (s : State) (g : Graft) : (s.setGraft g).frcPrev = s.frcPrev := rfl
@[simp] theorem setGraft_cclk (s : State) (g : Graft) : (s.setGraft g).cclk = s.cclk := rfl
@[simp] theorem setGraft_tclk (s : State) (g : Graft) : (s.setGraft g).tclk = s.tclk := rfl
@[simp] theorem setGraft_free (s : State) (g : Graft) : (s.setGraft g).free = s.free := rfl
@[simp] theorem setGraft_staged (s : State) (g : Graft) : (s.setGraft g).staged = s.staged := rfl
@[simp] theorem setGraft_latches (s : State) (g : Graft) : (s.setGraft g).latches = s.latches := rfl
@[simp] theorem setGraft_toDeliver (s : State) (g : Graft) : (s.setGraft g).toDeliver = s.toDeliver := rfl
@[simp] theorem setGraft_stewardQ (s : State) (g : Graft) : (s.setGraft g).stewardQ = s.stewardQ := rfl
@[simp] theorem setGraft_swiq (s : State) (g : Graft) : (s.setGraft g).swiq = s.swiq := rfl
@[simp] theorem setGraft_cores (s : State) (g : Graft) : (s.setGraft g).cores = s.cores := rfl
@[simp] theorem setGraft_orchard (s : State) (g : Graft) : (s.setGraft g).orchard = s.orchard := rfl
@[simp] theorem setGraft_dram (s : State) (g : Graft) : (s.setGraft g).dram = s.dram := rfl
@[simp] theorem setGraft_orcFlaws (s : State) (g : Graft) : (s.setGraft g).orcFlaws = s.orcFlaws := rfl
@[simp] theorem setGraft_dramFlaws (s : State) (g : Graft) : (s.setGraft g).dramFlaws = s.dramFlaws := rfl
@[simp] theorem setGraft_dirty (s : State) (g : Graft) : (s.setGraft g).dirty = s.dirty := rfl
@[simp] theorem setGraft_qn (s : State) (g : Graft) : (s.setGraft g).qn = s.qn := rfl
@[simp] theorem setGraft_faults (s : State) (g : Graft) : (s.setGraft g).faults = s.faults := rfl
@[simp] theorem setGraft_vm (s : State) (g : Graft) : (s.setGraft g).vm = s.vm := rfl
@[simp] theorem setGraft_scn (s : State) (g : Graft) : (s.setGraft g).scn = s.scn := rfl
@[simp] theorem setGraft_uarts (s : State) (g : Graft) : (s.setGraft g).uarts = s.uarts := rfl
@[simp] theorem setGraft_routes (s : State) (g : Graft) : (s.setGraft g).routes = s.routes := rfl
@[simp] theorem setGraft_hold (s : State) (g : Graft) : (s.setGraft g).hold = s.hold := rfl
@[simp] theorem setGraft_twin (s : State) (g : Graft) : (s.setGraft g).twin = s.twin := rfl
@[simp] theorem setGraft_svc (s : State) (g : Graft) : (s.setGraft g).svc = s.svc := rfl
@[simp] theorem setGraft_host (s : State) (g : Graft) : (s.setGraft g).host = s.host := rfl
@[simp] theorem setGraft_flash (s : State) (g : Graft) : (s.setGraft g).flash = s.flash := rfl
@[simp] theorem setGraft_jtag (s : State) (g : Graft) : (s.setGraft g).jtag = s.jtag := rfl
@[simp] theorem setGraft_pending (s : State) (g : Graft) : (s.setGraft g).pending = s.pending := rfl
@[simp] theorem setGraft_get (s : State) (g : Graft) (gf : Fld) : (s.setGraft g).get gf = s.get gf := rfl
@[simp] theorem setGraft_core (s : State) (g : Graft) (kc : Nat) : (s.setGraft g).core kc = s.core kc := rfl

/-! ### `putDrive` -/

@[simp] theorem putDrive_regs (s : State) (b : Ball) (l : DriveLevel) : (s.putDrive b l).regs = s.regs := rfl
@[simp] theorem putDrive_frc (s : State) (b : Ball) (l : DriveLevel) : (s.putDrive b l).frc = s.frc := rfl
@[simp] theorem putDrive_frcPrev (s : State) (b : Ball) (l : DriveLevel) : (s.putDrive b l).frcPrev = s.frcPrev := rfl
@[simp] theorem putDrive_cclk (s : State) (b : Ball) (l : DriveLevel) : (s.putDrive b l).cclk = s.cclk := rfl
@[simp] theorem putDrive_tclk (s : State) (b : Ball) (l : DriveLevel) : (s.putDrive b l).tclk = s.tclk := rfl
@[simp] theorem putDrive_free (s : State) (b : Ball) (l : DriveLevel) : (s.putDrive b l).free = s.free := rfl
@[simp] theorem putDrive_staged (s : State) (b : Ball) (l : DriveLevel) : (s.putDrive b l).staged = s.staged := rfl
@[simp] theorem putDrive_latches (s : State) (b : Ball) (l : DriveLevel) : (s.putDrive b l).latches = s.latches := rfl
@[simp] theorem putDrive_toDeliver (s : State) (b : Ball) (l : DriveLevel) : (s.putDrive b l).toDeliver = s.toDeliver := rfl
@[simp] theorem putDrive_stewardQ (s : State) (b : Ball) (l : DriveLevel) : (s.putDrive b l).stewardQ = s.stewardQ := rfl
@[simp] theorem putDrive_swiq (s : State) (b : Ball) (l : DriveLevel) : (s.putDrive b l).swiq = s.swiq := rfl
@[simp] theorem putDrive_cores (s : State) (b : Ball) (l : DriveLevel) : (s.putDrive b l).cores = s.cores := rfl
@[simp] theorem putDrive_orchard (s : State) (b : Ball) (l : DriveLevel) : (s.putDrive b l).orchard = s.orchard := rfl
@[simp] theorem putDrive_dram (s : State) (b : Ball) (l : DriveLevel) : (s.putDrive b l).dram = s.dram := rfl
@[simp] theorem putDrive_orcFlaws (s : State) (b : Ball) (l : DriveLevel) : (s.putDrive b l).orcFlaws = s.orcFlaws := rfl
@[simp] theorem putDrive_dramFlaws (s : State) (b : Ball) (l : DriveLevel) : (s.putDrive b l).dramFlaws = s.dramFlaws := rfl
@[simp] theorem putDrive_dirty (s : State) (b : Ball) (l : DriveLevel) : (s.putDrive b l).dirty = s.dirty := rfl
@[simp] theorem putDrive_qn (s : State) (b : Ball) (l : DriveLevel) : (s.putDrive b l).qn = s.qn := rfl
@[simp] theorem putDrive_faults (s : State) (b : Ball) (l : DriveLevel) : (s.putDrive b l).faults = s.faults := rfl
@[simp] theorem putDrive_vm (s : State) (b : Ball) (l : DriveLevel) : (s.putDrive b l).vm = s.vm := rfl
@[simp] theorem putDrive_scn (s : State) (b : Ball) (l : DriveLevel) : (s.putDrive b l).scn = s.scn := rfl
@[simp] theorem putDrive_uarts (s : State) (b : Ball) (l : DriveLevel) : (s.putDrive b l).uarts = s.uarts := rfl
@[simp] theorem putDrive_routes (s : State) (b : Ball) (l : DriveLevel) : (s.putDrive b l).routes = s.routes := rfl
@[simp] theorem putDrive_hold (s : State) (b : Ball) (l : DriveLevel) : (s.putDrive b l).hold = s.hold := rfl
@[simp] theorem putDrive_twin (s : State) (b : Ball) (l : DriveLevel) : (s.putDrive b l).twin = s.twin := rfl
@[simp] theorem putDrive_host (s : State) (b : Ball) (l : DriveLevel) : (s.putDrive b l).host = s.host := rfl
@[simp] theorem putDrive_flash (s : State) (b : Ball) (l : DriveLevel) : (s.putDrive b l).flash = s.flash := rfl
@[simp] theorem putDrive_graft (s : State) (b : Ball) (l : DriveLevel) : (s.putDrive b l).graft = s.graft := rfl
@[simp] theorem putDrive_jtag (s : State) (b : Ball) (l : DriveLevel) : (s.putDrive b l).jtag = s.jtag := rfl
@[simp] theorem putDrive_pending (s : State) (b : Ball) (l : DriveLevel) : (s.putDrive b l).pending = s.pending := rfl
@[simp] theorem putDrive_get (s : State) (b : Ball) (l : DriveLevel) (gf : Fld) : (s.putDrive b l).get gf = s.get gf := rfl
@[simp] theorem putDrive_core (s : State) (b : Ball) (l : DriveLevel) (kc : Nat) : (s.putDrive b l).core kc = s.core kc := rfl

/-! ### `returnBytes` -/

@[simp] theorem returnBytes_regs (s : State) (bs : List Byte) : (s.returnBytes bs).regs = s.regs := rfl
@[simp] theorem returnBytes_frc (s : State) (bs : List Byte) : (s.returnBytes bs).frc = s.frc := rfl
@[simp] theorem returnBytes_frcPrev (s : State) (bs : List Byte) : (s.returnBytes bs).frcPrev = s.frcPrev := rfl
@[simp] theorem returnBytes_cclk (s : State) (bs : List Byte) : (s.returnBytes bs).cclk = s.cclk := rfl
@[simp] theorem returnBytes_tclk (s : State) (bs : List Byte) : (s.returnBytes bs).tclk = s.tclk := rfl
@[simp] theorem returnBytes_free (s : State) (bs : List Byte) : (s.returnBytes bs).free = s.free := rfl
@[simp] theorem returnBytes_staged (s : State) (bs : List Byte) : (s.returnBytes bs).staged = s.staged := rfl
@[simp] theorem returnBytes_latches (s : State) (bs : List Byte) : (s.returnBytes bs).latches = s.latches := rfl
@[simp] theorem returnBytes_toDeliver (s : State) (bs : List Byte) : (s.returnBytes bs).toDeliver = s.toDeliver := rfl
@[simp] theorem returnBytes_stewardQ (s : State) (bs : List Byte) : (s.returnBytes bs).stewardQ = s.stewardQ := rfl
@[simp] theorem returnBytes_swiq (s : State) (bs : List Byte) : (s.returnBytes bs).swiq = s.swiq := rfl
@[simp] theorem returnBytes_cores (s : State) (bs : List Byte) : (s.returnBytes bs).cores = s.cores := rfl
@[simp] theorem returnBytes_orchard (s : State) (bs : List Byte) : (s.returnBytes bs).orchard = s.orchard := rfl
@[simp] theorem returnBytes_dram (s : State) (bs : List Byte) : (s.returnBytes bs).dram = s.dram := rfl
@[simp] theorem returnBytes_orcFlaws (s : State) (bs : List Byte) : (s.returnBytes bs).orcFlaws = s.orcFlaws := rfl
@[simp] theorem returnBytes_dramFlaws (s : State) (bs : List Byte) : (s.returnBytes bs).dramFlaws = s.dramFlaws := rfl
@[simp] theorem returnBytes_dirty (s : State) (bs : List Byte) : (s.returnBytes bs).dirty = s.dirty := rfl
@[simp] theorem returnBytes_qn (s : State) (bs : List Byte) : (s.returnBytes bs).qn = s.qn := rfl
@[simp] theorem returnBytes_faults (s : State) (bs : List Byte) : (s.returnBytes bs).faults = s.faults := rfl
@[simp] theorem returnBytes_vm (s : State) (bs : List Byte) : (s.returnBytes bs).vm = s.vm := rfl
@[simp] theorem returnBytes_scn (s : State) (bs : List Byte) : (s.returnBytes bs).scn = s.scn := rfl
@[simp] theorem returnBytes_uarts (s : State) (bs : List Byte) : (s.returnBytes bs).uarts = s.uarts := rfl
@[simp] theorem returnBytes_routes (s : State) (bs : List Byte) : (s.returnBytes bs).routes = s.routes := rfl
@[simp] theorem returnBytes_hold (s : State) (bs : List Byte) : (s.returnBytes bs).hold = s.hold := rfl
@[simp] theorem returnBytes_twin (s : State) (bs : List Byte) : (s.returnBytes bs).twin = s.twin := rfl
@[simp] theorem returnBytes_svc (s : State) (bs : List Byte) : (s.returnBytes bs).svc = s.svc := rfl
@[simp] theorem returnBytes_flash (s : State) (bs : List Byte) : (s.returnBytes bs).flash = s.flash := rfl
@[simp] theorem returnBytes_graft (s : State) (bs : List Byte) : (s.returnBytes bs).graft = s.graft := rfl
@[simp] theorem returnBytes_jtag (s : State) (bs : List Byte) : (s.returnBytes bs).jtag = s.jtag := rfl
@[simp] theorem returnBytes_pending (s : State) (bs : List Byte) : (s.returnBytes bs).pending = s.pending := rfl
@[simp] theorem returnBytes_get (s : State) (bs : List Byte) (gf : Fld) : (s.returnBytes bs).get gf = s.get gf := rfl
@[simp] theorem returnBytes_core (s : State) (bs : List Byte) (kc : Nat) : (s.returnBytes bs).core kc = s.core kc := rfl

/-! ### `orcWrite` -/

@[simp] theorem orcWrite_regs (s : State) (cs : List Host.Cell) : (s.orcWrite cs).regs = s.regs := rfl
@[simp] theorem orcWrite_frc (s : State) (cs : List Host.Cell) : (s.orcWrite cs).frc = s.frc := rfl
@[simp] theorem orcWrite_frcPrev (s : State) (cs : List Host.Cell) : (s.orcWrite cs).frcPrev = s.frcPrev := rfl
@[simp] theorem orcWrite_cclk (s : State) (cs : List Host.Cell) : (s.orcWrite cs).cclk = s.cclk := rfl
@[simp] theorem orcWrite_tclk (s : State) (cs : List Host.Cell) : (s.orcWrite cs).tclk = s.tclk := rfl
@[simp] theorem orcWrite_free (s : State) (cs : List Host.Cell) : (s.orcWrite cs).free = s.free := rfl
@[simp] theorem orcWrite_staged (s : State) (cs : List Host.Cell) : (s.orcWrite cs).staged = s.staged := rfl
@[simp] theorem orcWrite_latches (s : State) (cs : List Host.Cell) : (s.orcWrite cs).latches = s.latches := rfl
@[simp] theorem orcWrite_toDeliver (s : State) (cs : List Host.Cell) : (s.orcWrite cs).toDeliver = s.toDeliver := rfl
@[simp] theorem orcWrite_stewardQ (s : State) (cs : List Host.Cell) : (s.orcWrite cs).stewardQ = s.stewardQ := rfl
@[simp] theorem orcWrite_swiq (s : State) (cs : List Host.Cell) : (s.orcWrite cs).swiq = s.swiq := rfl
@[simp] theorem orcWrite_cores (s : State) (cs : List Host.Cell) : (s.orcWrite cs).cores = s.cores := rfl
@[simp] theorem orcWrite_dram (s : State) (cs : List Host.Cell) : (s.orcWrite cs).dram = s.dram := rfl
@[simp] theorem orcWrite_dramFlaws (s : State) (cs : List Host.Cell) : (s.orcWrite cs).dramFlaws = s.dramFlaws := rfl
@[simp] theorem orcWrite_qn (s : State) (cs : List Host.Cell) : (s.orcWrite cs).qn = s.qn := rfl
@[simp] theorem orcWrite_faults (s : State) (cs : List Host.Cell) : (s.orcWrite cs).faults = s.faults := rfl
@[simp] theorem orcWrite_vm (s : State) (cs : List Host.Cell) : (s.orcWrite cs).vm = s.vm := rfl
@[simp] theorem orcWrite_scn (s : State) (cs : List Host.Cell) : (s.orcWrite cs).scn = s.scn := rfl
@[simp] theorem orcWrite_uarts (s : State) (cs : List Host.Cell) : (s.orcWrite cs).uarts = s.uarts := rfl
@[simp] theorem orcWrite_routes (s : State) (cs : List Host.Cell) : (s.orcWrite cs).routes = s.routes := rfl
@[simp] theorem orcWrite_hold (s : State) (cs : List Host.Cell) : (s.orcWrite cs).hold = s.hold := rfl
@[simp] theorem orcWrite_twin (s : State) (cs : List Host.Cell) : (s.orcWrite cs).twin = s.twin := rfl
@[simp] theorem orcWrite_svc (s : State) (cs : List Host.Cell) : (s.orcWrite cs).svc = s.svc := rfl
@[simp] theorem orcWrite_host (s : State) (cs : List Host.Cell) : (s.orcWrite cs).host = s.host := rfl
@[simp] theorem orcWrite_flash (s : State) (cs : List Host.Cell) : (s.orcWrite cs).flash = s.flash := rfl
@[simp] theorem orcWrite_graft (s : State) (cs : List Host.Cell) : (s.orcWrite cs).graft = s.graft := rfl
@[simp] theorem orcWrite_jtag (s : State) (cs : List Host.Cell) : (s.orcWrite cs).jtag = s.jtag := rfl
@[simp] theorem orcWrite_pending (s : State) (cs : List Host.Cell) : (s.orcWrite cs).pending = s.pending := rfl
@[simp] theorem orcWrite_get (s : State) (cs : List Host.Cell) (gf : Fld) : (s.orcWrite cs).get gf = s.get gf := rfl
@[simp] theorem orcWrite_core (s : State) (cs : List Host.Cell) (kc : Nat) : (s.orcWrite cs).core kc = s.core kc := rfl

/-! ### `dramWrite` -/

@[simp] theorem dramWrite_regs (s : State) (cs : List Host.Cell) : (s.dramWrite cs).regs = s.regs := rfl
@[simp] theorem dramWrite_frc (s : State) (cs : List Host.Cell) : (s.dramWrite cs).frc = s.frc := rfl
@[simp] theorem dramWrite_frcPrev (s : State) (cs : List Host.Cell) : (s.dramWrite cs).frcPrev = s.frcPrev := rfl
@[simp] theorem dramWrite_cclk (s : State) (cs : List Host.Cell) : (s.dramWrite cs).cclk = s.cclk := rfl
@[simp] theorem dramWrite_tclk (s : State) (cs : List Host.Cell) : (s.dramWrite cs).tclk = s.tclk := rfl
@[simp] theorem dramWrite_free (s : State) (cs : List Host.Cell) : (s.dramWrite cs).free = s.free := rfl
@[simp] theorem dramWrite_staged (s : State) (cs : List Host.Cell) : (s.dramWrite cs).staged = s.staged := rfl
@[simp] theorem dramWrite_latches (s : State) (cs : List Host.Cell) : (s.dramWrite cs).latches = s.latches := rfl
@[simp] theorem dramWrite_toDeliver (s : State) (cs : List Host.Cell) : (s.dramWrite cs).toDeliver = s.toDeliver := rfl
@[simp] theorem dramWrite_stewardQ (s : State) (cs : List Host.Cell) : (s.dramWrite cs).stewardQ = s.stewardQ := rfl
@[simp] theorem dramWrite_swiq (s : State) (cs : List Host.Cell) : (s.dramWrite cs).swiq = s.swiq := rfl
@[simp] theorem dramWrite_cores (s : State) (cs : List Host.Cell) : (s.dramWrite cs).cores = s.cores := rfl
@[simp] theorem dramWrite_orchard (s : State) (cs : List Host.Cell) : (s.dramWrite cs).orchard = s.orchard := rfl
@[simp] theorem dramWrite_orcFlaws (s : State) (cs : List Host.Cell) : (s.dramWrite cs).orcFlaws = s.orcFlaws := rfl
@[simp] theorem dramWrite_qn (s : State) (cs : List Host.Cell) : (s.dramWrite cs).qn = s.qn := rfl
@[simp] theorem dramWrite_faults (s : State) (cs : List Host.Cell) : (s.dramWrite cs).faults = s.faults := rfl
@[simp] theorem dramWrite_vm (s : State) (cs : List Host.Cell) : (s.dramWrite cs).vm = s.vm := rfl
@[simp] theorem dramWrite_scn (s : State) (cs : List Host.Cell) : (s.dramWrite cs).scn = s.scn := rfl
@[simp] theorem dramWrite_uarts (s : State) (cs : List Host.Cell) : (s.dramWrite cs).uarts = s.uarts := rfl
@[simp] theorem dramWrite_routes (s : State) (cs : List Host.Cell) : (s.dramWrite cs).routes = s.routes := rfl
@[simp] theorem dramWrite_hold (s : State) (cs : List Host.Cell) : (s.dramWrite cs).hold = s.hold := rfl
@[simp] theorem dramWrite_twin (s : State) (cs : List Host.Cell) : (s.dramWrite cs).twin = s.twin := rfl
@[simp] theorem dramWrite_svc (s : State) (cs : List Host.Cell) : (s.dramWrite cs).svc = s.svc := rfl
@[simp] theorem dramWrite_host (s : State) (cs : List Host.Cell) : (s.dramWrite cs).host = s.host := rfl
@[simp] theorem dramWrite_flash (s : State) (cs : List Host.Cell) : (s.dramWrite cs).flash = s.flash := rfl
@[simp] theorem dramWrite_graft (s : State) (cs : List Host.Cell) : (s.dramWrite cs).graft = s.graft := rfl
@[simp] theorem dramWrite_jtag (s : State) (cs : List Host.Cell) : (s.dramWrite cs).jtag = s.jtag := rfl
@[simp] theorem dramWrite_pending (s : State) (cs : List Host.Cell) : (s.dramWrite cs).pending = s.pending := rfl
@[simp] theorem dramWrite_get (s : State) (cs : List Host.Cell) (gf : Fld) : (s.dramWrite cs).get gf = s.get gf := rfl
@[simp] theorem dramWrite_core (s : State) (cs : List Host.Cell) (kc : Nat) : (s.dramWrite cs).core kc = s.core kc := rfl

/-! ### What the updates give -/

@[simp] theorem setQueue_queue (s : State) (q : List QEvent) : (s.setQueue q).qn.queue = q := rfl
@[simp] theorem setQueue_held (s : State) (q : List QEvent) : (s.setQueue q).qn.held = s.qn.held := rfl
@[simp] theorem setHeld_held (s : State) (h : List HeldPost) : (s.setHeld h).qn.held = h := rfl
@[simp] theorem setHeld_queue (s : State) (h : List HeldPost) : (s.setHeld h).qn.queue = s.qn.queue := rfl
@[simp] theorem setRcl_rcl (s : State) (r : Option Recall) : (s.setRcl r).scn.rcl = r := rfl
@[simp] theorem setRcl_curves (s : State) (r : Option Recall) : (s.setRcl r).scn.curves = s.scn.curves := rfl
@[simp] theorem setFlash_flash (s : State) (f : Flash) : (s.setFlash f).flash = f := rfl
@[simp] theorem setGraft_graft (s : State) (g : Graft) : (s.setGraft g).graft = g := rfl
@[simp] theorem returnBytes_out (s : State) (bs : List Byte) : (s.returnBytes bs).host.out = bs := rfl

/-- A core written reads as written. -/
@[simp] theorem core_setCore_same (s : State) (n : Nat) (c : Core) : (s.setCore n c).core n = c := tabGet_set_same natLt _ _ _ _
/-- The other cores read as before. -/
theorem core_setCore_ne (s : State) {n k : Nat} (c : Core) (h : k ≠ n) : (s.setCore n c).core k = s.core k := tabGet_set_ne natLt _ _ _ _ h
/-- A UART written reads as written. -/
@[simp] theorem uart_setUart_same (s : State) (n : Nat) (u : Uart) : (s.setUart n u).uart n = u := tabGet_set_same natLt _ _ _ _
/-- The other UARTs read as before. -/
theorem uart_setUart_ne (s : State) {n k : Nat} (u : Uart) (h : k ≠ n) : (s.setUart n u).uart k = s.uart k := tabGet_set_ne natLt _ _ _ _ h
/-- A curve written reads as written. -/
@[simp] theorem curve_setCurve_same (s : State) (k : Nat) (c : Curve) : (s.setCurve k c).curve k = c := tabGet_set_same natLt _ _ _ _
/-- The other curves read as before. -/
theorem curve_setCurve_ne (s : State) {k j : Nat} (c : Curve) (h : j ≠ k) : (s.setCurve k c).curve j = s.curve j := tabGet_set_ne natLt _ _ _ _ h

end State

end Sys2Proof.Machine
end

