-- ==== Sys2Proof/Laws/Issue.lean ====
section
/-! SUPPORT. What the issue of an instruction can do, said once: it goes on with an effect, waits, or is a violation; and
what going on leaves in the core (R77, R78, R106, R147). -/

namespace Sys2Proof.Machine

namespace State

theorem canIssue_of_ready {s : State} {n : Nat} (h : s.ready n = true) : s.canIssue n = true := by
  simp only [ready, Bool.and_eq_true] at h
  exact h.1

theorem fetchBad_of_ready {s : State} {n : Nat} (h : s.ready n = true) : s.fetchBad n = none := by
  simp only [ready, Bool.and_eq_true, Option.isNone_iff_eq_none] at h
  exact h.2

/-- At an issue slot an instruction that takes effect is committed. -/
theorem issue_go {s : State} {n : Nat} (h : s.ready n = true) {i : CoreWord} {f : Seen → Act} {e : Eff}
    (hf : f (s.seen n i) = .go e) : s.issue n i f = s.commit (s.seen n i) e := by
  simp [issue, canIssue_of_ready h, fetchBad_of_ready h, hf]

/-- One that must wait leaves the core stalled and nothing else changed, so that it meets the same state again (R78). -/
theorem issue_wait {s : State} {n : Nat} (h : s.ready n = true) {i : CoreWord} {f : Seen → Act}
    (hf : f (s.seen n i) = .wait) : s.issue n i f = s.setCore n { s.core n with stall := true } := by
  simp [issue, canIssue_of_ready h, fetchBad_of_ready h, hf]

/-- A violation freezes the core and nothing of the instruction takes effect (R147). -/
theorem issue_viol {s : State} {n : Nat} (h : s.ready n = true) {i : CoreWord} {f : Seen → Act} {k a : Nat}
    (hf : f (s.seen n i) = .viol k a) :
    s.issue n i f = s.coreViolation n k a none := by
  simp [issue, canIssue_of_ready h, fetchBad_of_ready h, hf]

/-- Away from an issue slot an instruction does nothing. -/
theorem issue_not {s : State} {n : Nat} (h : s.canIssue n = false) (i : CoreWord) (f : Seen → Act) :
    s.issue n i f = s := by
  simp [issue, h]

/-- An effect that reaches no register space changes its core alone, and then what `sys` says. -/
theorem commit_core (s : State) (x : Seen) {e : Eff} (hs : e.regStore = none) (hl : e.regLoad = none)
    (hf : e.flawed = []) :
    s.commit x e = e.sys (s.setCore x.n (coreAfter x e)) := by
  simp [commit, hs, hl, hf]

@[simp] theorem seen_n (s : State) (n : Nat) (i : CoreWord) : (s.seen n i).n = n := rfl
@[simp] theorem seen_i (s : State) (n : Nat) (i : CoreWord) : (s.seen n i).i = i := rfl
@[simp] theorem seen_s (s : State) (n : Nat) (i : CoreWord) : (s.seen n i).s = s := rfl

end State

/-- A move that stays within the core is its effect. -/
theorem Seen.move_of_moves {x : Seen} (h : x.moves = true) :
    x.move = .go x.moved ∧ x.moved.regLoad = none ∧ x.moved.regStore = none ∧ x.moved.flawed = [] := by
  unfold Seen.moves at h
  unfold Seen.moved
  cases hm : x.move with
  | go e => simpa [hm, Bool.and_eq_true, and_assoc] using h
  | wait => simp [hm] at h
  | viol k a => simp [hm] at h

end Sys2Proof.Machine
end

