-- ==== Sys2Proof/Laws/MemForm.lean ====
section
/-! SUPPORT. The operations and commands that may write the addressed memories keep the canonical form of both: one lemma
for each (`_ok`), and for each operation that takes another one as its argument (`_hok`). -/

namespace Sys2Proof.Machine

set_option linter.all false
set_option linter.unusedSimpArgs false

theorem ok_foldl {α : Type} (g : State → α → State) (l : List α) (h : ∀ s x, memsOk s.mems → memsOk (g s x).mems)
    (s : State) : memsOk s.mems → memsOk (l.foldl g s).mems := by
  induction l generalizing s with
  | nil => exact id
  | cons x t ih => exact fun hs => ih _ (h s x hs)

theorem memsOk_of {s t : State} (e : t.mems = s.mems) (h : memsOk s.mems) : memsOk t.mems := e ▸ h

theorem memsOk_ite (c : Prop) [Decidable c] {a b : State} (ha : memsOk a.mems) (hb : memsOk b.mems) :
    memsOk (if c then a else b).mems := by split <;> assumption

theorem State.orcWrite_ok (s : State) (cs : _) : memsOk s.mems → memsOk (State.orcWrite s cs).mems :=
    fun h => ⟨memCells_wf _ _ h.1, h.2⟩

theorem State.dramWrite_ok (s : State) (cs : _) : memsOk s.mems → memsOk (State.dramWrite s cs).mems :=
    fun h => ⟨h.1, memCells_wf _ _ h.2⟩

theorem State.upset_ok (s : State) (u : _) : memsOk s.mems → memsOk (State.upset s u).mems := by
  intro h
  unfold State.upset
  extract_lets zero f c
  have hz (m : Mem) (k : Nat) (hm : Memory.wf m = true) : Memory.wf (zero m k) = true := by
    simp only [zero]
    split
    · exact memWrite_wf _ _ _ hm
    · exact hm
  split
  · split
    · exact ⟨hz _ _ h.1, h.2⟩
    · exact h
  · split
    · exact ⟨h.1, hz _ _ h.2⟩
    · exact h
  · dsimp only
    split
    · rw [State.setCore_mems]; exact h
    · exact h

theorem State.upsetWord_ok (s : State) (mem : _) (a : _) (e : _) : memsOk s.mems →
    memsOk (State.upsetWord s mem a e).mems := by
  intro h
  unfold State.upsetWord
  dsimp only
  split
  · exact h
  · exact State.upset_ok _ _ h
  · exact ok_foldl _ _ (fun s k hs => State.upset_ok _ _ hs) _ h
  · exact h

theorem State.disturb_ok (s : State) (e : _) : memsOk s.mems → memsOk (State.disturb s e).mems := by
  intro h
  unfold State.disturb
  split
  · exact ok_foldl _ _ (fun s u hs => State.upset_ok _ _ hs) _ h
  all_goals exact h

theorem State.drainRing_ok (s : State) (j : _) : memsOk s.mems → memsOk (State.drainRing s j).mems := by
  intro h
  unfold State.drainRing
  repeat' (first
      | assumption
      | refine ok_foldl _ _ (fun s x h => ?_) _ ?_
      | refine State.orcWrite_ok _ _ ?_
      | simp only [↓mems_ite, ↓mems_mk, mems_eta, State.orcWrite_ok, ↓mems_foldl, ↓ok_foldl, ite_self,
          implies_true, id_eq, h]
      | split)

theorem State.landSample_ok (s : State) (m : _) : memsOk s.mems → memsOk (State.landSample s m).mems := by
  intro h
  unfold State.landSample
  refine ok_foldl _ _ (fun s q hs => ?_) _ ?_
  · split
    · exact hs
    · exact State.orcWrite_ok _ _ hs
  · exact ok_foldl _ _ (fun s d hs => memsOk_of (State.routeSample_mems _ _ _ _ _) hs) _ h

theorem State.drainSample_ok (s : State) (m : _) (fed : _) (tail : _) : memsOk s.mems →
    memsOk (State.drainSample s m fed tail).mems := by
  intro h
  refine State.drainRing_ok _ _ ?_
  exact ok_foldl _ _ (fun s d hs => memsOk_of (State.routeSample_mems _ _ _ _ _) hs) _ h

theorem State.moveSample_ok (s : State) (m : _) : memsOk s.mems → memsOk (State.moveSample s m).mems := by
  intro h
  unfold State.moveSample
  extract_lets s1 s2 d
  have h1 : memsOk s1.mems := memsOk_of ((State.aesRamps_mems _).trans (State.asrcRamps_mems _)) h
  have h2 : memsOk s2.mems := by
    refine memsOk_ite _ ?_ h1
    rw [State.meterSample_mems, State.meetBramble_mems, State.countMoves_mems]
    exact State.landSample_ok _ _ (memsOk_of (State.recordIn_mems _ _) h1)
  refine memsOk_ite _ ?_ h2
  rw [State.meterSample_mems, State.meetBramble_mems, State.audioSend_mems, State.countMoves_mems]
  exact State.drainSample_ok _ _ _ _ h2

theorem State.passSample_ok (s : State) (i : _) : memsOk s.mems → memsOk (State.passSample s i).mems := by
  intro h
  unfold State.passSample
  dsimp only
  rw [State.gpTimers_mems, State.timersPass_mems, State.txPass_mems, State.apPass_mems, State.uartDrives_mems,
    State.copyRun_mems, State.live60_mems]
  exact State.moveSample_ok _ _ h

theorem State.advance_ok (s : State) (n : _) : memsOk s.mems → memsOk (State.advance s n).mems := by
  intro h
  unfold State.advance
  split
  · exact h
  · rw [State.dacclrRefresh_mems, State.outputWraps_mems, State.pclkRun_mems, mems_mk, mems_eta]
    exact ok_foldl _ _ (fun s i hs => State.passSample_ok _ _ hs) _ h

theorem State.deadlineCheck_ok (s : State) : memsOk s.mems → memsOk (State.deadlineCheck s).mems := by
  intro h
  unfold State.deadlineCheck
  split
  · dsimp only
    rw [State.checkSinks_mems, mems_mk, mems_eta]
    exact State.advance_ok _ _ h
  · exact h

theorem State.dmaStore_ok (s : State) (n : _) (d : _) (bs : _) : memsOk s.mems →
    memsOk (State.dmaStore s n d bs).mems := by
  intro h
  unfold State.dmaStore
  repeat' (first
      | assumption
      | refine State.dramWrite_ok _ _ ?_
      | refine State.orcWrite_ok _ _ ?_
      | simp only [↓mems_ite, ↓mems_mk, mems_eta, State.dramWrite_ok, ↓State.setCore_mems, State.orcWrite_ok,
          ite_self, implies_true, id_eq, h]
      | split)

theorem State.dmaMove_ok (s : State) (n : _) (ch : _) (d : _) (k : _) : memsOk s.mems →
    memsOk (State.dmaMove s n ch d k).mems := by
  intro h
  unfold State.dmaMove
  dsimp only
  split
  · exact h
  · rw [State.dmaMeets_mems, State.setCore_mems]
    exact State.dmaStore_ok _ _ _ _ h

theorem State.acceptedWords_ok (s : State) (b : _) (n : _) : memsOk s.mems →
    memsOk (State.acceptedWords s b n).mems := by
  intro h
  unfold State.acceptedWords
  refine ok_foldl _ _ (fun s ch hs => ?_) _ h
  dsimp only
  split
  · split
    · exact State.dmaMove_ok _ _ _ _ _ (by unfold State.fresh; exact hs)
    · exact hs
  · exact hs

theorem State.handOver_ok (s : State) (m : _) (n : _) (w : _) : memsOk s.mems →
    memsOk (State.handOver s m n w).mems := by
  intro h
  unfold State.handOver State.ownSet
  dsimp only
  repeat' (first | with_reducible assumption | (rw [State.orcStatus_mems]) | rw [State.set_mems] | split)
  exact ok_foldl _ _ (fun s e hs => State.acceptedWords_ok _ _ _ hs) _ h

theorem State.plainStore_ok (s : State) (addr : _) (w : _) (report : State → State) (hreport : ∀ x : State,
    (report x).mems = x.mems) : memsOk s.mems → memsOk (State.plainStore s addr w report).mems :=
  memsOk_of (State.plainStore_mems _ _ _ _ hreport)

theorem State.prtWrite_ok (s : State) (m : _) (a : _) (w : _) : memsOk s.mems → memsOk (State.prtWrite s m a w).mems := by
  intro h
  unfold State.prtWrite
  split
  · exact memsOk_of (State.regStore_mems _ _ _) h
  · split
    · exact State.handOver_ok _ _ _ _ h
    · split
      · exact memsOk_of (State.groupSet_mems _ _ _ _) h
      · exact State.plainStore_ok _ _ _ _ (fun x => State.orcStatus_mems _ _) h

theorem State.copyRx_ok (s : State) (c : _) : memsOk s.mems → memsOk (State.copyRx s c).mems := by
  intro h
  unfold State.copyRx
  repeat' (first
      | assumption
      | refine State.orcWrite_ok _ _ ?_
      | refine State.dramWrite_ok _ _ ?_
      | simp only [↓mems_ite, ↓mems_mk, mems_eta, ↓State.set_mems, ↓State.frcSet_mems, ↓State.poke_mems,
          State.orcWrite_ok, State.dramWrite_ok, ite_self, implies_true, id_eq, h]
      | split)

theorem State.received_hok (s : State) (seq : _) (crcOk : _) (k : _) (eff : _) (hok : memsOk s.mems) (hf : ∀ x : State,
    memsOk x.mems → memsOk (eff x).mems) :
    memsOk (State.received s seq crcOk k eff).mems := by
  unfold State.received
  repeat' (first
      | assumption
      | (refine hf _ ?_)
      | simp only [↓mems_ite, ↓mems_mk, mems_eta, ↓State.sendControl_mems, ↓State.bump_mems, ↓State.ackTx_mems,
          ↓State.set_mems, hok, ite_self]
      | split)

theorem execTwinCopyFrame_ok (seq : _) (crcOk : _) (item : _) (s : State) : memsOk s.mems → ∀ t,
    execTwinCopyFrame seq crcOk item s = .next t → memsOk t.mems := by
  intro h t ht
  cases ht
  exact State.received_hok _ _ _ _ _ h (fun x h => State.copyRx_ok _ _ h)

theorem State.resetTo_ok (s : State) (keep : _) : memsOk s.mems → memsOk (State.resetTo s keep).mems :=
    fun _ => ⟨rfl, rfl⟩

theorem lostMem_wf (n size : Nat) : Memory.wf (State.lostMem n size) = true := memCells_wf _ [] rfl

theorem State.loseMemories_ok (s : State) : memsOk s.mems → memsOk (State.loseMemories s).mems :=
    fun _ => ⟨lostMem_wf _ _, lostMem_wf _ _⟩

theorem State.holdSafe_ok (s : State) (lost : _) : memsOk s.mems → memsOk (State.holdSafe s lost).mems := by
  intro h
  unfold State.holdSafe
  repeat' (first
      | assumption
      | refine State.resetTo_ok _ _ ?_
      | simp only [↓mems_ite, ↓mems_mk, mems_eta, State.resetTo_ok, ↓State.flag_mems, ↓State.set_mems, ite_self,
          implies_true, id_eq, h]
      | split)

theorem State.coldReset_ok (s : State) (boot : _) (role : _) : memsOk s.mems →
    memsOk (State.coldReset s boot role).mems := by
  intro h
  unfold State.coldReset
  repeat' (first
      | assumption
      | refine State.loseMemories_ok _ ?_
      | refine State.resetTo_ok _ _ ?_
      | simp only [↓mems_ite, ↓mems_mk, mems_eta, State.loseMemories_ok, ↓State.set_mems, State.resetTo_ok,
          ↓State.flag_mems, ↓State.release_mems, ite_self, implies_true, id_eq, h]
      | split)

theorem State.warmReset_ok (s : State) (cause : _) (boot : _) : memsOk s.mems →
    memsOk (State.warmReset s cause boot).mems := by
  intro h
  unfold State.warmReset
  dsimp only
  split
  · exact h
  · rw [State.release_mems, State.syncSpares_mems, State.set_mems]
    refine memsOk_ite _ ?_ h
    rw [State.enterAcquire_mems]
    exact h

theorem State.rstSet_ok (s : State) (m : _) (w : _) (boot : _) : memsOk s.mems →
    memsOk (State.rstSet s m w boot).mems := by
  intro h
  unfold State.rstSet
  repeat' (first
      | assumption
      | refine State.warmReset_ok _ _ _ ?_
      | simp only [↓mems_ite, ↓mems_mk, mems_eta, ↓State.put_mems, State.warmReset_ok, ite_self, implies_true,
          id_eq, h]
      | split)

theorem execSupplyBad_ok (k : _) (s : State) : memsOk s.mems → ∀ t, execSupplyBad k s = .next t → memsOk t.mems := by
  intro h t ht
  cases ht
  repeat' (first
      | assumption
      | refine State.holdSafe_ok _ _ ?_
      | simp only [↓mems_ite, ↓mems_mk, mems_eta, State.holdSafe_ok, ↓State.set_mems, ite_self, implies_true,
          id_eq, h]
      | split)

theorem execPorstAssert_ok (low : _) (s : State) : memsOk s.mems → ∀ t, execPorstAssert low s = .next t →
    memsOk t.mems := by
  intro h t ht
  cases ht
  repeat' (first
      | assumption
      | refine State.holdSafe_ok _ _ ?_
      | simp only [↓mems_ite, ↓mems_mk, mems_eta, State.holdSafe_ok, ↓State.set_mems, ite_self, implies_true,
          id_eq, h]
      | split)

theorem execColdReset_ok (boot : _) (role : _) (s : State) : memsOk s.mems → ∀ t,
    execColdReset boot role s = .next t → memsOk t.mems := by
  intro h t ht
  cases ht
  repeat' (first
      | assumption
      | refine State.coldReset_ok _ _ _ ?_
      | simp only [↓mems_ite, ↓mems_mk, mems_eta, State.coldReset_ok, ite_self, implies_true, id_eq, h]
      | split)

theorem execWarmReset_ok (boot : _) (s : State) : memsOk s.mems → ∀ t, execWarmReset boot s = .next t →
    memsOk t.mems := by
  intro h t ht
  cases ht
  repeat' (first
      | assumption
      | refine State.warmReset_ok _ _ _ ?_
      | simp only [↓mems_ite, ↓mems_mk, mems_eta, State.warmReset_ok, ite_self, implies_true, id_eq, h]
      | split)

theorem State.guardWrite_hok (s : State) (m : _) (addr : _) (w : _) (eff : _) (hok : memsOk s.mems) (hf : ∀ x :
    State, memsOk x.mems → memsOk (eff x).mems) :
    memsOk (State.guardWrite s m addr w eff).mems := by
  unfold State.guardWrite
  repeat' (first
      | assumption
      | (refine hf _ ?_)
      | simp only [↓mems_ite, ↓mems_mk, mems_eta, ↓State.pcieWait_mems, ↓State.hostReject_mems,
          ↓State.violate_mems, ↓State.mirror_mems, hok, ite_self]
      | split)

theorem execSysRstWarm_ok (m : _) (boot : _) (s : State) : memsOk s.mems → ∀ t, execSysRstWarm m boot s = .next t →
    memsOk t.mems := by
  intro h t ht
  cases ht
  repeat' (first
      | assumption
      | refine State.guardWrite_hok _ _ _ _ _ ?_ (fun x h => ?_)
      | refine State.rstSet_ok _ _ _ _ ?_
      | simp only [↓mems_ite, ↓mems_mk, mems_eta, ↓State.guardWrite_mems, State.rstSet_ok, ite_self, implies_true,
          id_eq, h]
      | split)

theorem State.activate_ok (s : State) : memsOk s.mems → memsOk (State.activate s).mems := by
  intro h
  unfold State.activate
  repeat' (first
      | assumption
      | refine State.warmReset_ok _ _ _ ?_
      | simp only [↓mems_ite, ↓mems_mk, mems_eta, State.warmReset_ok, ↓State.putSlot_mems, ite_self, implies_true,
          id_eq, h]
      | split)

theorem State.actAtF_ok (s : State) : memsOk s.mems → memsOk (State.actAtF s).mems := by
  intro h
  unfold State.actAtF
  repeat' (first
      | assumption
      | refine State.activate_ok _ ?_
      | simp only [↓mems_ite, ↓mems_mk, mems_eta, State.activate_ok, ↓State.actDrop_mems, ↓State.set_mems,
          ite_self, implies_true, id_eq, h]
      | split)

theorem State.fallback_ok (s : State) : memsOk s.mems → memsOk (State.fallback s).mems := by
  intro h
  unfold State.fallback
  repeat' (first
      | assumption
      | refine State.warmReset_ok _ _ _ ?_
      | simp only [↓mems_ite, ↓mems_mk, mems_eta, ↓State.set_mems, State.warmReset_ok, ↓State.putSlot_mems,
          ite_self, implies_true, id_eq, h]
      | split)

theorem State.asHolder_hok (s : State) (m : _) (go : _) (hok : memsOk s.mems) (hf : ∀ x : State, memsOk x.mems →
    memsOk (go x).mems) :
    memsOk (State.asHolder s m go).mems := by
  unfold State.asHolder
  repeat' (first
      | assumption
      | (refine hf _ ?_)
      | simp only [↓mems_ite, ↓mems_mk, mems_eta, ↓State.cfgStatus_mems, hok, ite_self]
      | split)

theorem State.trialSet_ok (s : State) (m : _) (w : _) : memsOk s.mems → memsOk (State.trialSet s m w).mems := by
  intro h
  unfold State.trialSet
  repeat' (first
      | assumption
      | refine State.asHolder_hok _ _ _ ?_ (fun x h => ?_)
      | refine State.fallback_ok _ ?_
      | simp only [↓mems_ite, ↓mems_mk, mems_eta, ↓State.cfgStatus_mems, ↓State.asHolder_mems, ↓State.healthy_mems,
          State.fallback_ok, ↓State.cfgOk_mems, ↓State.trialCommit_mems, ite_self, implies_true, id_eq, h]
      | split)

theorem State.cfgSet_ok (s : State) (m : _) (a : _) (w : _) : memsOk s.mems → memsOk (State.cfgSet s m a w).mems := by
  intro h
  unfold State.cfgSet
  repeat' (first
      | assumption
      | refine ok_foldl _ _ (fun s x h => ?_) _ ?_
      | refine State.plainStore_ok _ _ _ _ ?_
      | refine State.trialSet_ok _ _ _ ?_
      | simp only [↓mems_ite, ↓mems_mk, mems_eta, ↓State.xferSet_mems, ↓State.sessSet_mems, ↓State.optSet_mems,
          ↓State.plainStore_mems, ↓State.actSet_mems, ↓State.cfgOk_mems, ↓State.ownerEntry_mems, ↓mems_foldl,
              ↓mems_foldr, ite_self, implies_true, id_eq]
      | split)

theorem execActivationAtF_ok (s : State) : memsOk s.mems → ∀ t, execActivationAtF s = .next t → memsOk t.mems := by
  intro h t ht
  cases ht
  repeat' (first
      | assumption
      | refine State.actAtF_ok _ ?_
      | simp only [↓mems_ite, ↓mems_mk, mems_eta, State.actAtF_ok, ite_self, implies_true, id_eq, h]
      | split)

theorem execTrialHealthy_ok (m : _) (s : State) : memsOk s.mems → ∀ t, execTrialHealthy m s = .next t →
    memsOk t.mems := by
  intro h t ht
  cases ht
  repeat' (first
      | assumption
      | refine State.guardWrite_hok _ _ _ _ _ ?_ (fun x h => ?_)
      | refine State.trialSet_ok _ _ _ ?_
      | simp only [↓mems_ite, ↓mems_mk, mems_eta, ↓State.guardWrite_mems, State.trialSet_ok, ite_self,
          implies_true, id_eq, h]
      | split)

theorem execTrialCommit_ok (m : _) (s : State) : memsOk s.mems → ∀ t, execTrialCommit m s = .next t →
    memsOk t.mems := by
  intro h t ht
  cases ht
  repeat' (first
      | assumption
      | refine State.guardWrite_hok _ _ _ _ _ ?_ (fun x h => ?_)
      | refine State.trialSet_ok _ _ _ ?_
      | simp only [↓mems_ite, ↓mems_mk, mems_eta, ↓State.guardWrite_mems, State.trialSet_ok, ite_self,
          implies_true, id_eq, h]
      | split)

theorem execTrialFail_ok (m : _) (s : State) : memsOk s.mems → ∀ t, execTrialFail m s = .next t → memsOk t.mems := by
  intro h t ht
  cases ht
  repeat' (first
      | assumption
      | refine State.guardWrite_hok _ _ _ _ _ ?_ (fun x h => ?_)
      | refine State.trialSet_ok _ _ _ ?_
      | simp only [↓mems_ite, ↓mems_mk, mems_eta, ↓State.guardWrite_mems, State.trialSet_ok, ite_self,
          implies_true, id_eq, h]
      | split)

theorem execTrialTimeout_ok (s : State) : memsOk s.mems → ∀ t, execTrialTimeout s = .next t → memsOk t.mems := by
  intro h t ht
  cases ht
  repeat' (first
      | assumption
      | refine State.fallback_ok _ ?_
      | simp only [↓mems_ite, ↓mems_mk, mems_eta, State.fallback_ok, ite_self, implies_true, id_eq, h]
      | split)

theorem execOwnerCodeEntry_ok (m : _) (w : _) (s : State) : memsOk s.mems → ∀ t,
    execOwnerCodeEntry m w s = .next t → memsOk t.mems := by
  intro h t ht
  cases ht
  repeat' (first
      | assumption
      | refine State.guardWrite_hok _ _ _ _ _ ?_ (fun x h => ?_)
      | refine State.cfgSet_ok _ _ _ _ ?_
      | simp only [↓mems_ite, ↓mems_mk, mems_eta, ↓State.guardWrite_mems, State.cfgSet_ok, ite_self, implies_true,
          id_eq, h]
      | split)

theorem State.abortRx_ok (s : State) (h : _) (status : _) : memsOk s.mems →
    memsOk (State.abortRx s h status).mems := by
  intro h
  unfold State.abortRx
  repeat' (first
      | assumption
      | refine State.fallback_ok _ ?_
      | simp only [↓mems_ite, ↓mems_mk, mems_eta, ↓State.sendChain_mems, ↓State.set_mems, ↓State.passUp_mems,
          ↓State.passDown_mems, ↓State.raise_mems, State.fallback_ok, ite_self, implies_true, id_eq, h]
      | split)

theorem State.chainFrame_hok (s : State) (h : _) (eff : _) (hok : memsOk s.mems) (hf : ∀ x : State, memsOk x.mems →
    memsOk (eff x).mems) :
    memsOk (State.chainFrame s h eff).mems := by
  unfold State.chainFrame
  repeat' (first
      | assumption
      | (refine hf _ ?_)
      | simp only [↓mems_ite, ↓mems_mk, mems_eta, ↓State.sendChain_mems, hok, ite_self]
      | split)

theorem execChainAbort_ok (h : _) (status : _) (s : State) : memsOk s.mems → ∀ t,
    execChainAbort h status s = .next t → memsOk t.mems := by
  intro h t ht
  cases ht
  repeat' (first
      | assumption
      | refine State.chainFrame_hok _ _ _ ?_ (fun x h => ?_)
      | refine State.abortRx_ok _ _ _ ?_
      | simp only [↓mems_ite, ↓mems_mk, mems_eta, ↓State.chainFrame_mems, State.abortRx_ok, ite_self, implies_true,
          id_eq, h]
      | split)

theorem State.inRecovery_hok (s : State) (go : _) (hok : memsOk s.mems) (hf : ∀ x : State, memsOk x.mems →
    memsOk (go x).mems) :
    memsOk (State.inRecovery s go).mems := by
  unfold State.inRecovery
  repeat' (first | assumption | (refine hf _ ?_) | simp only [↓mems_ite, ↓mems_mk, mems_eta, hok, ite_self] | split)

theorem execRindBoot_ok (s : State) : memsOk s.mems → ∀ t, execRindBoot s = .next t → memsOk t.mems := by
  intro h t ht
  cases ht
  repeat' (first
      | assumption
      | refine State.inRecovery_hok _ _ ?_ (fun x h => ?_)
      | refine State.warmReset_ok _ _ _ ?_
      | simp only [↓mems_ite, ↓mems_mk, mems_eta, ↓State.inRecovery_mems, State.warmReset_ok, ite_self,
          implies_true, id_eq, h]
      | split)

theorem State.sysWrite_ok (s : State) (m : _) (a : _) (w : _) : memsOk s.mems →
    memsOk (State.sysWrite s m a w).mems := by
  intro h
  unfold State.sysWrite
  repeat' (first
      | assumption
      | refine State.rstSet_ok _ _ _ _ ?_
      | simp only [↓mems_ite, ↓mems_mk, mems_eta, ↓State.engineSet_mems, ↓State.rateSet_mems,
          ↓State.unfreezeSet_mems, ↓State.pwrSet_mems, State.rstSet_ok, ↓State.evrouteSet_mems,
          ↓State.claimSet_mems, ↓State.regStore_mems, ite_self, implies_true, id_eq, h]
      | split)

theorem State.regWrite0_ok (s : State) (m : _) (a : _) (w : _) : memsOk s.mems → memsOk (State.regWrite0 s m a w).mems
    := by
  intro h
  unfold State.regWrite0
  repeat' (first
      | assumption
      | refine ok_foldl _ _ (fun s x h => ?_) _ ?_
      | refine State.cfgSet_ok _ _ _ _ ?_
      | refine State.prtWrite_ok _ _ _ _ ?_
      | refine State.sysWrite_ok _ _ _ _ ?_
      | simp only [↓mems_ite, ↓mems_mk, mems_eta, ↓State.pinWrite_mems, ↓State.hifSet_mems, ↓State.qnWrite_mems,
          ↓State.twnWrite_mems, ↓State.uartWrite_mems, ↓State.brmWrite_mems, ↓State.vmWrite_mems, ↓State.dmcWrite_mems,
              ↓State.curWrite_mems, ↓State.aesWrite_mems, ↓State.tmrWrite_mems, ↓State.tableWrite_mems,
                  ↓State.scnWrite_mems, ↓State.dmsWrite_mems, ↓State.mdlSet_mems, ↓State.clkWrite_mems,
                      ↓State.regStore_mems, ↓State.apWrite_mems, ↓mems_foldl, ↓mems_foldr, ite_self, implies_true,
                          id_eq]
      | split)

theorem State.writeWords_ok (m : Master) (ws : List Nat) (s : State) (a : Nat) :
    memsOk s.mems → memsOk (s.writeWords m a ws).mems := by
  induction ws generalizing s a with
  | nil => exact id
  | cons w t ih => exact fun h => ih _ _ (State.regWrite0_ok _ _ _ _ h)

theorem State.stewardRestart_ok (s : State) : memsOk s.mems → memsOk (State.stewardRestart s).mems := by
  intro h
  unfold State.stewardRestart
  repeat' (first
      | assumption
      | refine State.fallback_ok _ ?_
      | simp only [↓mems_ite, ↓mems_mk, mems_eta, ↓State.raise_mems, ↓State.setFrozen_mems, ↓State.setCore_mems,
          State.fallback_ok, ite_self, implies_true, id_eq, h]
      | split)

theorem State.hostOrcWrite_ok (s : State) (m : _) (off : _) (bs : _) : memsOk s.mems →
    memsOk (State.hostOrcWrite s m off bs).mems := by
  intro h
  unfold State.hostOrcWrite
  repeat' (first
      | assumption
      | refine State.orcWrite_ok _ _ ?_
      | simp only [↓mems_ite, ↓mems_mk, mems_eta, ↓State.hostReject_mems, ↓State.violate_mems, State.orcWrite_ok,
          ite_self, implies_true, id_eq, h]
      | split)

theorem State.putWord_ok (s : State) (m : _) (base : _) (p : _) (w : _) : memsOk s.mems →
    memsOk (State.putWord s m base p w).mems := by
  intro h
  unfold State.putWord
  repeat' (first
      | assumption
      | refine State.regWrite0_ok _ _ _ _ ?_
      | refine State.hostOrcWrite_ok _ _ _ _ ?_
      | refine State.dramWrite_ok _ _ ?_
      | simp only [↓mems_ite, ↓mems_mk, mems_eta, State.regWrite0_ok, State.hostOrcWrite_ok, State.dramWrite_ok,
          ite_self, implies_true, id_eq, h]
      | split)

theorem State.seqWords'_ok (s : State) (m : _) (base : _) (ps : _) : memsOk s.mems →
    memsOk (State.seqWords' s m base ps).mems := by
  intro h
  unfold State.seqWords'
  repeat' (first
      | assumption
      | refine ok_foldl _ _ (fun s x h => ?_) _ ?_
      | refine State.putWord_ok _ _ _ _ _ ?_
      | simp only [↓mems_ite, ↓mems_mk, mems_eta, State.putWord_ok, ↓mems_foldl, ↓ok_foldl, ite_self, implies_true,
          id_eq, h]
      | split)

theorem State.seqApply_hok (s : State) (m : _) (h : _) (n : _) (eff : _) (hok : memsOk s.mems) (hf : ∀ x : State,
    memsOk x.mems → memsOk (eff x).mems) :
    memsOk (State.seqApply s m h n eff).mems := by
  unfold State.seqApply
  repeat' (first
      | assumption
      | (refine hf _ ?_)
      | simp only [↓mems_ite, ↓mems_mk, mems_eta, ↓State.seqRefuse_mems, ↓State.hostReject_mems, ↓State.set_mems,
          hok, ite_self]
      | split)

theorem State.seqWrite_ok (s : State) (m : _) (h : _) (n : _) (a : _) (base : _) (ws : _) : memsOk s.mems →
    memsOk (State.seqWrite s m h n a base ws).mems := by
  intro h
  unfold State.seqWrite
  repeat' (first
      | assumption
      | refine State.seqApply_hok _ _ _ _ _ ?_ (fun x h => ?_)
      | refine State.seqWords'_ok _ _ _ _ ?_
      | simp only [↓mems_ite, ↓mems_mk, mems_eta, ↓State.hostReject_mems, ↓State.violate_mems,
          ↓State.seqApply_mems, State.seqWords'_ok, ↓State.mirror_mems, ite_self, implies_true, id_eq, h]
      | split)

theorem State.swGo_ok (s : State) (m : _) (n : _) : memsOk s.mems → memsOk (State.swGo s m n).mems := by
  intro h
  unfold State.swGo
  repeat' (first
      | assumption
      | refine State.seqApply_hok _ _ _ _ _ ?_ (fun x h => ?_)
      | refine State.seqWrite_ok _ _ _ _ _ _ _ ?_
      | simp only [↓mems_ite, ↓mems_mk, mems_eta, State.seqWrite_ok, ↓State.seqApply_mems, ite_self, implies_true,
          id_eq, h]
      | split)

theorem State.regWrite_ok (s : State) (m : _) (a : _) (w : _) : memsOk s.mems →
    memsOk (State.regWrite s m a w).mems := by
  intro h
  unfold State.regWrite
  repeat' (first
      | assumption
      | refine State.swGo_ok _ _ _ ?_
      | refine State.regWrite0_ok _ _ _ _ ?_
      | simp only [↓mems_ite, ↓mems_mk, mems_eta, State.swGo_ok, State.regWrite0_ok, ite_self, implies_true, id_eq, h]
      | split)

theorem State.guardRead_hok (s : State) (m : _) (addr : _) (eff : _) (hok : memsOk s.mems) (hf : ∀ x : State,
    memsOk x.mems → memsOk (eff x).mems) :
    memsOk (State.guardRead s m addr eff).mems := by
  unfold State.guardRead
  repeat' (first
      | assumption
      | (refine hf _ ?_)
      | simp only [↓mems_ite, ↓mems_mk, mems_eta, ↓State.pcieWait_mems, ↓State.answerRead_mems,
          ↓State.hostReject_mems, hok, ite_self]
      | split)

theorem State.pcieReg_ok (s : State) (write : _) (a : _) (w : _) : memsOk s.mems →
    memsOk (State.pcieReg s write a w).mems := by
  intro h
  unfold State.pcieReg
  repeat' (first
      | assumption
      | refine State.guardWrite_hok _ _ _ _ _ ?_ (fun x h => ?_)
      | refine State.guardRead_hok _ _ _ _ ?_ (fun x h => ?_)
      | refine State.regWrite_ok _ _ _ _ ?_
      | simp only [↓mems_ite, ↓mems_mk, mems_eta, ↓State.guardWrite_mems, State.regWrite_ok, ↓State.guardRead_mems,
          ↓State.regRead_mems, ite_self, implies_true, id_eq, h]
      | split)

theorem State.pcieOrc_ok (s : State) (write : _) (off : _) (bs : _) : memsOk s.mems → memsOk (State.pcieOrc s write off
    bs).mems := by
  intro h
  unfold State.pcieOrc
  repeat' (first
      | assumption
      | refine ok_foldl _ _ (fun s x h => ?_) _ ?_
      | refine State.orcWrite_ok _ _ ?_
      | simp only [↓mems_ite, ↓mems_mk, mems_eta, ↓State.pcieAnswer_mems, ↓State.pcieRefuse_mems, ↓State.meetOrc_mems,
          ↓State.pcieWait_mems, ↓State.violate_mems, ↓State.mirror_mems, ↓mems_foldl, ↓mems_foldr, ite_self,
              implies_true, id_eq]
      | split)

theorem State.pcieDram_ok (s : State) (write : _) (off : _) (bs : _) : memsOk s.mems → memsOk (State.pcieDram s write
    off bs).mems := by
  intro h
  unfold State.pcieDram
  repeat' (first
      | assumption
      | refine ok_foldl _ _ (fun s x h => ?_) _ ?_
      | refine State.dramWrite_ok _ _ ?_
      | simp only [↓mems_ite, ↓mems_mk, mems_eta, ↓State.pcieAnswer_mems, ↓State.pcieRefuse_mems, ↓State.meetDram_mems,
          ↓State.mirror_mems, ↓mems_foldl, ↓mems_foldr, ite_self, implies_true, id_eq]
      | split)

theorem State.pcieOrdered_hok (s : State) (r : _) (go : _) (hok : memsOk s.mems) (hf : ∀ x : State, memsOk x.mems →
    memsOk (go x).mems) :
    memsOk (State.pcieOrdered s r go).mems := by
  unfold State.pcieOrdered
  repeat' (first
      | assumption
      | (refine hf _ ?_)
      | simp only [↓mems_ite, ↓mems_mk, mems_eta, ↓State.pcieWait_mems, hok, ite_self]
      | split)

theorem State.pciePerform_ok (s : State) (r : _) : memsOk s.mems → memsOk (State.pciePerform s r).mems := by
  intro h
  unfold State.pciePerform
  repeat' (first
      | assumption
      | refine State.pcieOrdered_hok _ _ _ ?_ (fun x h => ?_)
      | refine State.pcieReg_ok _ _ _ _ ?_
      | refine State.pcieOrc_ok _ _ _ _ ?_
      | refine State.pcieDram_ok _ _ _ _ ?_
      | simp only [↓mems_ite, ↓mems_mk, mems_eta, State.pcieReg_ok, ↓State.pcieOrdered_mems, State.pcieOrc_ok,
          State.pcieDram_ok, ite_self, implies_true, id_eq, h]
      | split)

theorem State.pcieDrain_ok (s : State) : memsOk s.mems → memsOk (State.pcieDrain s).mems := by
  intro h
  unfold State.pcieDrain
  repeat' (first
      | assumption
      | refine ok_foldl _ _ (fun s x h => ?_) _ ?_
      | refine State.pciePerform_ok _ _ ?_
      | simp only [↓mems_ite, ↓mems_mk, mems_eta, State.pciePerform_ok, ↓mems_foldl, ↓ok_foldl, ite_self,
          implies_true, id_eq, h]
      | split)

theorem State.spiPut_ok (s : State) (p : _) (w : _) : memsOk s.mems → memsOk (State.spiPut s p w).mems := by
  intro h
  unfold State.spiPut
  repeat' (first
      | assumption
      | refine State.guardWrite_hok _ _ _ _ _ ?_ (fun x h => ?_)
      | refine State.regWrite_ok _ _ _ _ ?_
      | refine State.orcWrite_ok _ _ ?_
      | refine State.dramWrite_ok _ _ ?_
      | simp only [↓mems_ite, ↓mems_mk, mems_eta, ↓State.guardWrite_mems, State.regWrite_ok, ↓State.mirror_mems,
          State.orcWrite_ok, State.dramWrite_ok, ite_self, implies_true, id_eq, h]
      | split)

theorem State.spiPutAll_ok (ps : List (SpiPlace × Nat)) (s t : State) (ht : State.spiPutAll ps s = some t) :
    memsOk s.mems → memsOk t.mems := by
  induction ps generalizing s with
  | nil =>
    cases ht
    exact id
  | cons p l ih =>
    intro h
    unfold State.spiPutAll at ht
    split at ht
    · cases ht
    · exact ih _ ht (State.spiPut_ok _ _ _ h)

theorem State.spiWriteChecked_hok (s : State) (ps : _) (go : _) (hok : memsOk s.mems) (hf : ∀ x : State,
    memsOk x.mems → memsOk (go x).mems) :
    memsOk (State.spiWriteChecked s ps go).mems := by
  unfold State.spiWriteChecked
  repeat' (first
      | assumption
      | (refine hf _ ?_)
      | simp only [↓mems_ite, ↓mems_mk, mems_eta, ↓State.spiRefuse_mems, ↓State.spiViolate_mems, hok, ite_self]
      | split)

theorem State.spiWrite_ok (s : State) (a : Nat) (ws : List Nat) (early : Bool) :
    memsOk s.mems → memsOk (s.spiWrite a ws early).mems := by
  intro h
  unfold State.spiWrite
  have h1 : memsOk s.spiForget.mems := by rw [State.spiForget_mems]; exact h
  dsimp only
  split
  · rw [State.raise_mems]; exact h1
  · refine State.spiWriteChecked_hok _ _ _ h1 (fun s h => ?_)
    split
    · rw [State.spiEnd_mems]; exact State.spiPutAll_ok _ _ _ (by assumption) h
    · rw [State.spiEnd_mems]; exact h

theorem State.spiSwrite_ok (s : State) (a : _) (n : _) (ws : _) (early : _) : memsOk s.mems →
    memsOk (State.spiSwrite s a n ws early).mems := by
  intro h
  unfold State.spiSwrite
  repeat' (first
      | assumption
      | refine State.spiWriteChecked_hok _ _ _ ?_ (fun x h => ?_)
      | refine State.seqWrite_ok _ _ _ _ _ _ _ ?_
      | simp only [↓mems_ite, ↓mems_mk, mems_eta, ↓State.spiForget_mems, ↓State.raise_mems,
          ↓State.spiWriteChecked_mems, ↓State.spiEnd_mems, ↓State.seqRefuse_mems, State.seqWrite_ok, ite_self,
          implies_true, id_eq, h]
      | split)

theorem State.releaseWrite_ok (s : State) (m : _) (a : _) (w : _) : memsOk s.mems →
    memsOk (State.releaseWrite s m a w).mems := by
  intro h
  unfold State.releaseWrite
  repeat' (first
      | assumption
      | refine State.regWrite_ok _ _ _ _ ?_
      | simp only [↓mems_ite, ↓mems_mk, mems_eta, ↓State.qnStatus_mems, ↓State.postPip_mems, ↓State.postVoice_mems,
          State.regWrite_ok, ite_self, implies_true, id_eq, h]
      | split)

theorem State.releaseItem_ok (s : State) (i : _) : memsOk s.mems → memsOk (State.releaseItem s i).mems := by
  intro h
  unfold State.releaseItem
  repeat' (first
      | assumption
      | refine State.seqApply_hok _ _ _ _ _ ?_ (fun x h => ?_)
      | refine State.releaseWrite_ok _ _ _ _ ?_
      | refine State.seqWords'_ok _ _ _ _ ?_
      | refine State.hostOrcWrite_ok _ _ _ _ ?_
      | refine State.dramWrite_ok _ _ ?_
      | simp only [↓mems_ite, ↓mems_mk, mems_eta, ↓State.violate_mems, State.releaseWrite_ok, ↓State.seqApply_mems,
          State.seqWords'_ok, State.hostOrcWrite_ok, State.dramWrite_ok, ↓State.postPip_mems,
          ↓State.postVoice_mems, ↓State.sceneCmd_mems, ↓State.postEvent_mems, ↓State.paramCmd_mems, ite_self,
          implies_true, id_eq, h]
      | split)

theorem State.releaseItems_ok (s : State) : memsOk s.mems → memsOk (State.releaseItems s).mems := by
  intro h
  unfold State.releaseItems
  repeat' (first
      | assumption
      | refine ok_foldl _ _ (fun s x h => ?_) _ ?_
      | refine State.releaseItem_ok _ _ ?_
      | simp only [↓mems_ite, ↓mems_mk, mems_eta, ↓State.setSync_mems, State.releaseItem_ok, ↓mems_foldl,
          ↓ok_foldl, ite_self, implies_true, id_eq, h]
      | split)

theorem execRegisterWrite_ok (m : _) (addr : _) (w : _) (s : State) : memsOk s.mems → ∀ t,
    execRegisterWrite m addr w s = .next t → memsOk t.mems := by
  intro h t ht
  cases ht
  repeat' (first
      | assumption
      | refine State.guardWrite_hok _ _ _ _ _ ?_ (fun x h => ?_)
      | refine State.regWrite_ok _ _ _ _ ?_
      | simp only [↓mems_ite, ↓mems_mk, mems_eta, ↓State.guardWrite_mems, State.regWrite_ok, ite_self,
          implies_true, id_eq, h]
      | split)

theorem execStageWordWrite_ok (m : _) (addr : _) (w : _) (s : State) : memsOk s.mems → ∀ t,
    execStageWordWrite m addr w s = .next t → memsOk t.mems := by
  intro h t ht
  cases ht
  repeat' (first
      | assumption
      | refine State.guardWrite_hok _ _ _ _ _ ?_ (fun x h => ?_)
      | refine State.regWrite_ok _ _ _ _ ?_
      | simp only [↓mems_ite, ↓mems_mk, mems_eta, ↓State.guardWrite_mems, State.regWrite_ok, ite_self,
          implies_true, id_eq, h]
      | split)

theorem execStewardRestart_ok (s : State) : memsOk s.mems → ∀ t, execStewardRestart s = .next t → memsOk t.mems := by
  intro h t ht
  cases ht
  repeat' (first
      | assumption
      | refine State.stewardRestart_ok _ ?_
      | simp only [↓mems_ite, ↓mems_mk, mems_eta, State.stewardRestart_ok, ite_self, implies_true, id_eq, h]
      | split)

theorem execPcieRegisterAccess_ok (write : _) (addr : _) (w : _) (aligned : _) (s : State) : memsOk s.mems → ∀ t,
    execPcieRegisterAccess write addr w aligned s = .next t → memsOk t.mems := by
  intro h t ht
  cases ht
  repeat' (first
      | assumption
      | refine State.pcieReg_ok _ _ _ _ ?_
      | simp only [↓mems_ite, ↓mems_mk, mems_eta, State.pcieReg_ok, ↓State.pcieRefuse_mems, ite_self, implies_true,
          id_eq, h]
      | split)

theorem execPcieOrchardAccess_ok (write : _) (off : _) (bytes : _) (s : State) : memsOk s.mems → ∀ t,
    execPcieOrchardAccess write off bytes s = .next t → memsOk t.mems := by
  intro h t ht
  cases ht
  repeat' (first
      | assumption
      | refine State.pcieOrdered_hok _ _ _ ?_ (fun x h => ?_)
      | refine State.pcieOrc_ok _ _ _ _ ?_
      | simp only [↓mems_ite, ↓mems_mk, mems_eta, ↓State.pcieOrdered_mems, State.pcieOrc_ok, ite_self,
          implies_true, id_eq, h]
      | split)

theorem execPcieDramAccess_ok (write : _) (off : _) (bytes : _) (s : State) : memsOk s.mems → ∀ t,
    execPcieDramAccess write off bytes s = .next t → memsOk t.mems := by
  intro h t ht
  cases ht
  repeat' (first
      | assumption
      | refine State.pcieOrdered_hok _ _ _ ?_ (fun x h => ?_)
      | refine State.pcieDram_ok _ _ _ _ ?_
      | simp only [↓mems_ite, ↓mems_mk, mems_eta, ↓State.pcieOrdered_mems, State.pcieDram_ok, ite_self,
          implies_true, id_eq, h]
      | split)

theorem execSequencedWriteGo_ok (m : _) (n : _) (s : State) : memsOk s.mems → ∀ t,
    execSequencedWriteGo m n s = .next t → memsOk t.mems := by
  intro h t ht
  cases ht
  repeat' (first
      | assumption
      | refine State.guardWrite_hok _ _ _ _ _ ?_ (fun x h => ?_)
      | refine State.swGo_ok _ _ _ ?_
      | simp only [↓mems_ite, ↓mems_mk, mems_eta, ↓State.guardWrite_mems, State.swGo_ok, ite_self, implies_true,
          id_eq, h]
      | split)

theorem execSpiWrite_ok (addr : _) (ws : _) (early : _) (s : State) : memsOk s.mems → ∀ t,
    execSpiWrite addr ws early s = .next t → memsOk t.mems := by
  intro h t ht
  cases ht
  repeat' (first
      | assumption
      | refine State.spiWrite_ok _ _ _ _ ?_
      | simp only [↓mems_ite, ↓mems_mk, mems_eta, State.spiWrite_ok, ite_self, implies_true, id_eq, h]
      | split)

theorem execSpiSwrite_ok (addr : _) (seq : _) (ws : _) (early : _) (s : State) : memsOk s.mems → ∀ t,
    execSpiSwrite addr seq ws early s = .next t → memsOk t.mems := by
  intro h t ht
  cases ht
  repeat' (first
      | assumption
      | refine State.spiSwrite_ok _ _ _ _ _ ?_
      | simp only [↓mems_ite, ↓mems_mk, mems_eta, State.spiSwrite_ok, ite_self, implies_true, id_eq, h]
      | split)

theorem execMirrorRelease_ok (s : State) : memsOk s.mems → ∀ t, execMirrorRelease s = .next t → memsOk t.mems := by
  intro h t ht
  cases ht
  repeat' (first
      | assumption
      | refine State.releaseItems_ok _ ?_
      | simp only [↓mems_ite, ↓mems_mk, mems_eta, State.releaseItems_ok, ite_self, implies_true, id_eq, h]
      | split)

theorem execHeldPostAccept_ok (s : State) : memsOk s.mems → ∀ t, execHeldPostAccept s = .next t → memsOk t.mems := by
  intro h t ht
  cases ht
  repeat' (first
      | assumption
      | refine State.pcieDrain_ok _ ?_
      | simp only [↓mems_ite, ↓mems_mk, mems_eta, State.pcieDrain_ok, ↓State.acceptHeldPost_mems, ite_self,
          implies_true, id_eq, h]
      | split)

theorem execHeldCommandApply_ok (s : State) : memsOk s.mems → ∀ t, execHeldCommandApply s = .next t →
    memsOk t.mems := by
  intro h t ht
  cases ht
  repeat' (first
      | assumption
      | refine State.pcieDrain_ok _ ?_
      | simp only [↓mems_ite, ↓mems_mk, mems_eta, State.pcieDrain_ok, ↓State.applyHeld_mems, ite_self,
          implies_true, id_eq, h]
      | split)

/-- What an issued instruction does beside its core keeps the form of the memories. -/
def Act.SysOk (a : Act) : Prop := ∀ e, a = .go e → ∀ s : State, memsOk s.mems → memsOk (e.sys s).mems
theorem Act.sysOk_viol (k a : Nat) : (Act.viol k a).SysOk := fun _ h => nomatch h
theorem Act.sysOk_wait : Act.wait.SysOk := fun _ h => nomatch h
theorem Act.sysOk_go {e : Eff} (h : ∀ s : State, memsOk s.mems → memsOk (e.sys s).mems) : (Act.go e).SysOk := by
  rintro _ ⟨⟩
  exact h
theorem Act.sysOk_then {a : Act} {f : Eff → Act} (h : a.SysOk)
    (hf : ∀ e : Eff, (∀ s : State, memsOk s.mems → memsOk (e.sys s).mems) → (f e).SysOk) : (a.then f).SysOk := by
  cases a with
  | viol k x => exact sysOk_viol k x
  | wait => exact sysOk_wait
  | go e => exact hf e (h e rfl)
theorem Act.sysOk_wr {a : Act} (h : a.SysOk) (w : List Wr) : (a.wr w).SysOk := sysOk_then h fun _ he => sysOk_go he
theorem Act.sysOk_bank {a : Act} (h : a.SysOk) (f : Bank → Bank) : (a.bank f).SysOk :=
    sysOk_then h fun _ he => sysOk_go he
theorem Act.sysOk_meets {a : Act} (h : a.SysOk) (l : List Nat) : (a.meets l).SysOk :=
    sysOk_then h fun _ he => sysOk_go he
theorem Act.sysOk_sys {a : Act} (h : a.SysOk) {f : State → State} (hf : ∀ s : State, memsOk s.mems →
    memsOk (f s).mems) :
    (a.sys f).SysOk := sysOk_then h fun _ _ => sysOk_go hf
theorem Eff.none_sysOk (s : State) (h : memsOk s.mems) : memsOk (Eff.none.sys s).mems := h
theorem sysOk_results (w : List Wr) : (results w).SysOk := Act.sysOk_wr (Act.sysOk_go Eff.none_sysOk) w
theorem Seen.sysOk_illop (x : Seen) : x.illop.SysOk := Act.sysOk_viol _ _
theorem Seen.sysOk_loads (x : Seen) (a : Nat) (d o : List (Nat × Nat)) {e : Eff}
    (h : ∀ s : State, memsOk s.mems → memsOk (e.sys s).mems) : (x.loads a d o e).SysOk := by
  unfold Seen.loads
  dsimp only
  repeat' (first | exact Act.sysOk_go h | exact Act.sysOk_viol _ _ | exact Act.sysOk_wait | split)

theorem Seen.sysOk_stores (x : Seen) (a : Nat) (ws : List (Nat × Nat)) {e : Eff}
    (h : ∀ s : State, memsOk s.mems → memsOk (e.sys s).mems) : (x.stores a ws e).SysOk := by
  unfold Seen.stores
  dsimp only
  repeat' (first | exact Act.sysOk_go h | exact Act.sysOk_viol _ _ | exact Act.sysOk_wait | split)
theorem Seen.sysOk_modifies (x : Seen) (i j : Nat) (c : Bool) {a : Act} (h : a.SysOk) : (x.modifies i j c a).SysOk :=
  Act.sysOk_then h fun _ he => Act.sysOk_go he
theorem Seen.sysOk_move (x : Seen) : x.move.SysOk := by
  unfold Seen.move
  split
  · exact Act.sysOk_go Eff.none_sysOk
  · exact x.sysOk_modifies _ _ _ (x.sysOk_loads _ _ _ Eff.none_sysOk)
  · exact x.sysOk_modifies _ _ _ (x.sysOk_stores _ _ Eff.none_sysOk)
  · dsimp only
    have h := x.sysOk_modifies x.xi x.mj x.circF
      (Act.sysOk_then (x.sysOk_loads x.tapLoad (x.vecDst x.tapLoad x.vr) [] Eff.none_sysOk)
        fun _ he => x.sysOk_stores x.tapStore (x.vecSrc x.tapStore (x.mvf 6 2)) he)
    split
    · exact h
    · exact x.sysOk_modifies _ _ _ h
theorem Seen.sysOk_compute (x : Seen) (w : List Wr) : (x.compute w).SysOk := Act.sysOk_wr x.sysOk_move w
theorem Seen.sysOk_vectorOnly (x : Seen) (w : List Wr) : (x.vectorOnly w).SysOk := by
  unfold Seen.vectorOnly
  split
  · exact x.sysOk_illop
  · exact x.sysOk_compute w

theorem State.commit_ok (s : State) (x : Seen) {e : Eff} (he : ∀ s : State, memsOk s.mems → memsOk (e.sys s).mems) :
    memsOk s.mems → memsOk (State.commit s x e).mems := by
  intro h
  unfold State.commit
  refine ok_foldl _ _ (fun s a hs => memsOk_of (State.meetDmem_mems _ _ _ _) hs) _ (he _ ?_)
  have h1 : memsOk (s.setCore x.n (State.coreAfter x e)).mems := by rw [State.setCore_mems]; exact h
  have h2 : ∀ s : State, memsOk s.mems → memsOk (match e.regStore with
      | some (a, w) => s.guardWrite .steward a w (fun s => s.regWrite .steward a w)
      | none => s).mems := by
    intro s hs
    split
    · exact State.guardWrite_hok _ _ _ _ _ hs (fun x h => State.regWrite_ok _ _ _ _ h)
    · exact hs
  split
  · rw [State.regLoad_mems]; exact h2 _ h1
  · exact h2 _ h1

theorem State.issue_ok (s : State) (n : Nat) (i : CoreWord) {f : Seen → Act} (hf : ∀ x, (f x).SysOk) :
    memsOk s.mems → memsOk (State.issue s n i f).mems := by
  intro h
  unfold State.issue
  split
  · exact h
  split
  · rw [State.coreViolation_mems]; exact h
  dsimp only
  split
  · simp only [State.coreViolation_mems, State.setCore_mems]; exact h
  · rw [State.setCore_mems]; exact h
  · rename_i e he
    exact State.commit_ok s _ (hf _ e he) h

theorem Seen.sysOk_flowBad (x : Seen) {v : Act} (h : x.flowBad = some v) : v.SysOk := by
  unfold Seen.flowBad at h
  repeat' (first
      | (cases h; first
      | exact Act.sysOk_viol _ _
      | exact Act.sysOk_wait
      | exact x.sysOk_illop)
      | split at h
      | cases h)
theorem Seen.sysOk_loopBad (x : Seen) {v : Act} (h : x.loopBad = some v) : v.SysOk := by
  unfold Seen.loopBad at h
  split at h
  · cases h
    rename_i hv
    exact x.sysOk_flowBad hv
  · split at h
    · cases h; exact Act.sysOk_viol _ _
    · cases h
theorem Seen.sysOk_jump (x : Seen) (t : Option Nat) (b : Bool) (w : List Wr) : (x.jump t b w).SysOk := by
  unfold Seen.jump
  split
  · exact x.sysOk_flowBad (by assumption)
  · exact Act.sysOk_bank (sysOk_results _) _
theorem Seen.sysOk_loopOf (x : Seen) (k : Nat) : (x.loopOf k).SysOk := by
  unfold Seen.loopOf
  split
  · exact x.sysOk_loopBad (by assumption)
  · exact Act.sysOk_bank (sysOk_results _) _
theorem Seen.sysOk_rdsys (x : Seen) (f : Nat → Nat) : (x.rdsys f).SysOk := x.sysOk_compute _
theorem Seen.sysOk_report (x : Seen) (f : PipRun → PipRun) : (x.report f).SysOk := by
  unfold Seen.report
  split
  · exact x.sysOk_illop
  · exact Act.sysOk_bank x.sysOk_move _
theorem Seen.sysOk_popSteward (x : Seen) : x.popSteward.SysOk := by
  unfold Seen.popSteward
  split
  · exact x.sysOk_compute _
  · refine Act.sysOk_sys (x.sysOk_compute _) (fun s h => ?_)
    simp only [mems_mk, mems_eta]; exact h
theorem Seen.sysOk_opEvpop (x : Seen) : x.opEvpop.SysOk := by
  unfold Seen.opEvpop Seen.popCore
  split
  · exact x.sysOk_popSteward
  · split
    · exact x.sysOk_compute _
    · exact Act.sysOk_bank (x.sysOk_compute _) _
theorem Seen.sysOk_qpost (k : Nat) (x : Seen) : (x.qpost k).SysOk := by
  unfold Seen.qpost
  split
  · exact x.sysOk_illop
  split
  · exact Act.sysOk_wait
  · refine Act.sysOk_sys x.sysOk_move (fun s h => ?_)
    rw [State.runPost_mems]; exact h
theorem Seen.sysOk_opStewardWait (x : Seen) : x.opStewardWait.SysOk := by
  unfold Seen.opStewardWait
  split
  · exact x.sysOk_illop
  · refine Act.sysOk_sys (sysOk_results _) (fun s h => ?_)
    simp only [mems_ite, State.setCore_mems, ite_self]; exact h
theorem Seen.sysOk_opSwi (x : Seen) : x.opSwi.SysOk := by
  unfold Seen.opSwi
  split
  · exact x.sysOk_opStewardWait
  split
  · exact Act.sysOk_wait
  · refine Act.sysOk_sys (sysOk_results _) (fun s h => ?_)
    simp only [mems_ite, State.set_mems, State.setCore_mems, State.notify_mems, mems_mk, mems_eta, ite_self]; exact h
theorem Seen.sysOk_opDma (x : Seen) : x.opDma.SysOk := by
  unfold Seen.opDma
  split
  · exact Act.sysOk_wait
  split
  · exact Act.sysOk_viol _ _
  split
  · exact Act.sysOk_viol _ _
  · refine Act.sysOk_sys x.sysOk_move (fun s h => ?_)
    unfold Seen.dmaQueue
    simp only [mems_ite, State.setCore_mems, ite_self]; exact h
theorem Seen.sysOk_illegal (x : Seen) (op : Nat) : ((x.illegal op).getD .wait).SysOk := by
  rcases hv : x.illegal op with _ | v
  · exact Act.sysOk_wait
  · show v.SysOk
    unfold Seen.illegal at hv
    split at hv
    · cases hv; exact x.sysOk_illop
    split at hv
    · exact x.sysOk_flowBad hv
    split at hv
    · exact x.sysOk_loopBad hv
    · cases hv

theorem execNop_ok (c : CoreSel) (i : CoreWord) (s : State) :
    memsOk s.mems → ∀ t, execNop c i s = .next t → memsOk t.mems := by
  intro h t ht
  cases ht
  refine State.issue_ok _ _ _ (fun x => by
    unfold Seen.opNop
    repeat' (first
        | exact Act.sysOk_viol _ _
        | exact Act.sysOk_wait
        | exact sysOk_results _
        | exact Seen.sysOk_compute _ _
        | exact Seen.sysOk_vectorOnly _ _
        | exact Seen.sysOk_move _
        | exact Seen.sysOk_illop _
        | exact Seen.sysOk_jump _ _ _ _
        | exact Seen.sysOk_loopOf _ _
        | refine Act.sysOk_bank ?_ _
        | refine Act.sysOk_wr ?_ _
        | exact Seen.sysOk_rdsys _ _
        | refine Seen.sysOk_modifies _ _ _ _ ?_
        | exact Seen.sysOk_loads _ _ _ _ Eff.none_sysOk
        | exact Seen.sysOk_stores _ _ _ Eff.none_sysOk
        | split)) h

theorem execVadd_ok (c : CoreSel) (i : CoreWord) (s : State) :
    memsOk s.mems → ∀ t, execVadd c i s = .next t → memsOk t.mems := by
  intro h t ht
  cases ht
  refine State.issue_ok _ _ _ (fun x => by
    unfold Seen.opVadd
    repeat' (first
        | exact Act.sysOk_viol _ _
        | exact Act.sysOk_wait
        | exact sysOk_results _
        | exact Seen.sysOk_compute _ _
        | exact Seen.sysOk_vectorOnly _ _
        | exact Seen.sysOk_move _
        | exact Seen.sysOk_illop _
        | exact Seen.sysOk_jump _ _ _ _
        | exact Seen.sysOk_loopOf _ _
        | refine Act.sysOk_bank ?_ _
        | refine Act.sysOk_wr ?_ _
        | exact Seen.sysOk_rdsys _ _
        | refine Seen.sysOk_modifies _ _ _ _ ?_
        | exact Seen.sysOk_loads _ _ _ _ Eff.none_sysOk
        | exact Seen.sysOk_stores _ _ _ Eff.none_sysOk
        | split)) h

theorem execVsub_ok (c : CoreSel) (i : CoreWord) (s : State) :
    memsOk s.mems → ∀ t, execVsub c i s = .next t → memsOk t.mems := by
  intro h t ht
  cases ht
  refine State.issue_ok _ _ _ (fun x => by
    unfold Seen.opVsub
    repeat' (first
        | exact Act.sysOk_viol _ _
        | exact Act.sysOk_wait
        | exact sysOk_results _
        | exact Seen.sysOk_compute _ _
        | exact Seen.sysOk_vectorOnly _ _
        | exact Seen.sysOk_move _
        | exact Seen.sysOk_illop _
        | exact Seen.sysOk_jump _ _ _ _
        | exact Seen.sysOk_loopOf _ _
        | refine Act.sysOk_bank ?_ _
        | refine Act.sysOk_wr ?_ _
        | exact Seen.sysOk_rdsys _ _
        | refine Seen.sysOk_modifies _ _ _ _ ?_
        | exact Seen.sysOk_loads _ _ _ _ Eff.none_sysOk
        | exact Seen.sysOk_stores _ _ _ Eff.none_sysOk
        | split)) h

theorem execVmul_ok (c : CoreSel) (i : CoreWord) (s : State) :
    memsOk s.mems → ∀ t, execVmul c i s = .next t → memsOk t.mems := by
  intro h t ht
  cases ht
  refine State.issue_ok _ _ _ (fun x => by
    unfold Seen.opVmul
    repeat' (first
        | exact Act.sysOk_viol _ _
        | exact Act.sysOk_wait
        | exact sysOk_results _
        | exact Seen.sysOk_compute _ _
        | exact Seen.sysOk_vectorOnly _ _
        | exact Seen.sysOk_move _
        | exact Seen.sysOk_illop _
        | exact Seen.sysOk_jump _ _ _ _
        | exact Seen.sysOk_loopOf _ _
        | refine Act.sysOk_bank ?_ _
        | refine Act.sysOk_wr ?_ _
        | exact Seen.sysOk_rdsys _ _
        | refine Seen.sysOk_modifies _ _ _ _ ?_
        | exact Seen.sysOk_loads _ _ _ _ Eff.none_sysOk
        | exact Seen.sysOk_stores _ _ _ Eff.none_sysOk
        | split)) h

theorem execVmin_ok (c : CoreSel) (i : CoreWord) (s : State) :
    memsOk s.mems → ∀ t, execVmin c i s = .next t → memsOk t.mems := by
  intro h t ht
  cases ht
  refine State.issue_ok _ _ _ (fun x => by
    unfold Seen.opVmin
    repeat' (first
        | exact Act.sysOk_viol _ _
        | exact Act.sysOk_wait
        | exact sysOk_results _
        | exact Seen.sysOk_compute _ _
        | exact Seen.sysOk_vectorOnly _ _
        | exact Seen.sysOk_move _
        | exact Seen.sysOk_illop _
        | exact Seen.sysOk_jump _ _ _ _
        | exact Seen.sysOk_loopOf _ _
        | refine Act.sysOk_bank ?_ _
        | refine Act.sysOk_wr ?_ _
        | exact Seen.sysOk_rdsys _ _
        | refine Seen.sysOk_modifies _ _ _ _ ?_
        | exact Seen.sysOk_loads _ _ _ _ Eff.none_sysOk
        | exact Seen.sysOk_stores _ _ _ Eff.none_sysOk
        | split)) h

theorem execVmax_ok (c : CoreSel) (i : CoreWord) (s : State) :
    memsOk s.mems → ∀ t, execVmax c i s = .next t → memsOk t.mems := by
  intro h t ht
  cases ht
  refine State.issue_ok _ _ _ (fun x => by
    unfold Seen.opVmax
    repeat' (first
        | exact Act.sysOk_viol _ _
        | exact Act.sysOk_wait
        | exact sysOk_results _
        | exact Seen.sysOk_compute _ _
        | exact Seen.sysOk_vectorOnly _ _
        | exact Seen.sysOk_move _
        | exact Seen.sysOk_illop _
        | exact Seen.sysOk_jump _ _ _ _
        | exact Seen.sysOk_loopOf _ _
        | refine Act.sysOk_bank ?_ _
        | refine Act.sysOk_wr ?_ _
        | exact Seen.sysOk_rdsys _ _
        | refine Seen.sysOk_modifies _ _ _ _ ?_
        | exact Seen.sysOk_loads _ _ _ _ Eff.none_sysOk
        | exact Seen.sysOk_stores _ _ _ Eff.none_sysOk
        | split)) h

theorem execVabs_ok (c : CoreSel) (i : CoreWord) (s : State) :
    memsOk s.mems → ∀ t, execVabs c i s = .next t → memsOk t.mems := by
  intro h t ht
  cases ht
  refine State.issue_ok _ _ _ (fun x => by
    unfold Seen.opVabs
    repeat' (first
        | exact Act.sysOk_viol _ _
        | exact Act.sysOk_wait
        | exact sysOk_results _
        | exact Seen.sysOk_compute _ _
        | exact Seen.sysOk_vectorOnly _ _
        | exact Seen.sysOk_move _
        | exact Seen.sysOk_illop _
        | exact Seen.sysOk_jump _ _ _ _
        | exact Seen.sysOk_loopOf _ _
        | refine Act.sysOk_bank ?_ _
        | refine Act.sysOk_wr ?_ _
        | exact Seen.sysOk_rdsys _ _
        | refine Seen.sysOk_modifies _ _ _ _ ?_
        | exact Seen.sysOk_loads _ _ _ _ Eff.none_sysOk
        | exact Seen.sysOk_stores _ _ _ Eff.none_sysOk
        | split)) h

theorem execVneg_ok (c : CoreSel) (i : CoreWord) (s : State) :
    memsOk s.mems → ∀ t, execVneg c i s = .next t → memsOk t.mems := by
  intro h t ht
  cases ht
  refine State.issue_ok _ _ _ (fun x => by
    unfold Seen.opVneg
    repeat' (first
        | exact Act.sysOk_viol _ _
        | exact Act.sysOk_wait
        | exact sysOk_results _
        | exact Seen.sysOk_compute _ _
        | exact Seen.sysOk_vectorOnly _ _
        | exact Seen.sysOk_move _
        | exact Seen.sysOk_illop _
        | exact Seen.sysOk_jump _ _ _ _
        | exact Seen.sysOk_loopOf _ _
        | refine Act.sysOk_bank ?_ _
        | refine Act.sysOk_wr ?_ _
        | exact Seen.sysOk_rdsys _ _
        | refine Seen.sysOk_modifies _ _ _ _ ?_
        | exact Seen.sysOk_loads _ _ _ _ Eff.none_sysOk
        | exact Seen.sysOk_stores _ _ _ Eff.none_sysOk
        | split)) h

theorem execVshl_ok (c : CoreSel) (i : CoreWord) (s : State) :
    memsOk s.mems → ∀ t, execVshl c i s = .next t → memsOk t.mems := by
  intro h t ht
  cases ht
  refine State.issue_ok _ _ _ (fun x => by
    unfold Seen.opVshl
    repeat' (first
        | exact Act.sysOk_viol _ _
        | exact Act.sysOk_wait
        | exact sysOk_results _
        | exact Seen.sysOk_compute _ _
        | exact Seen.sysOk_vectorOnly _ _
        | exact Seen.sysOk_move _
        | exact Seen.sysOk_illop _
        | exact Seen.sysOk_jump _ _ _ _
        | exact Seen.sysOk_loopOf _ _
        | refine Act.sysOk_bank ?_ _
        | refine Act.sysOk_wr ?_ _
        | exact Seen.sysOk_rdsys _ _
        | refine Seen.sysOk_modifies _ _ _ _ ?_
        | exact Seen.sysOk_loads _ _ _ _ Eff.none_sysOk
        | exact Seen.sysOk_stores _ _ _ Eff.none_sysOk
        | split)) h

theorem execVshr_ok (c : CoreSel) (i : CoreWord) (s : State) :
    memsOk s.mems → ∀ t, execVshr c i s = .next t → memsOk t.mems := by
  intro h t ht
  cases ht
  refine State.issue_ok _ _ _ (fun x => by
    unfold Seen.opVshr
    repeat' (first
        | exact Act.sysOk_viol _ _
        | exact Act.sysOk_wait
        | exact sysOk_results _
        | exact Seen.sysOk_compute _ _
        | exact Seen.sysOk_vectorOnly _ _
        | exact Seen.sysOk_move _
        | exact Seen.sysOk_illop _
        | exact Seen.sysOk_jump _ _ _ _
        | exact Seen.sysOk_loopOf _ _
        | refine Act.sysOk_bank ?_ _
        | refine Act.sysOk_wr ?_ _
        | exact Seen.sysOk_rdsys _ _
        | refine Seen.sysOk_modifies _ _ _ _ ?_
        | exact Seen.sysOk_loads _ _ _ _ Eff.none_sysOk
        | exact Seen.sysOk_stores _ _ _ Eff.none_sysOk
        | split)) h

theorem execVand_ok (c : CoreSel) (i : CoreWord) (s : State) :
    memsOk s.mems → ∀ t, execVand c i s = .next t → memsOk t.mems := by
  intro h t ht
  cases ht
  refine State.issue_ok _ _ _ (fun x => by
    unfold Seen.opVand
    repeat' (first
        | exact Act.sysOk_viol _ _
        | exact Act.sysOk_wait
        | exact sysOk_results _
        | exact Seen.sysOk_compute _ _
        | exact Seen.sysOk_vectorOnly _ _
        | exact Seen.sysOk_move _
        | exact Seen.sysOk_illop _
        | exact Seen.sysOk_jump _ _ _ _
        | exact Seen.sysOk_loopOf _ _
        | refine Act.sysOk_bank ?_ _
        | refine Act.sysOk_wr ?_ _
        | exact Seen.sysOk_rdsys _ _
        | refine Seen.sysOk_modifies _ _ _ _ ?_
        | exact Seen.sysOk_loads _ _ _ _ Eff.none_sysOk
        | exact Seen.sysOk_stores _ _ _ Eff.none_sysOk
        | split)) h

theorem execVor_ok (c : CoreSel) (i : CoreWord) (s : State) :
    memsOk s.mems → ∀ t, execVor c i s = .next t → memsOk t.mems := by
  intro h t ht
  cases ht
  refine State.issue_ok _ _ _ (fun x => by
    unfold Seen.opVor
    repeat' (first
        | exact Act.sysOk_viol _ _
        | exact Act.sysOk_wait
        | exact sysOk_results _
        | exact Seen.sysOk_compute _ _
        | exact Seen.sysOk_vectorOnly _ _
        | exact Seen.sysOk_move _
        | exact Seen.sysOk_illop _
        | exact Seen.sysOk_jump _ _ _ _
        | exact Seen.sysOk_loopOf _ _
        | refine Act.sysOk_bank ?_ _
        | refine Act.sysOk_wr ?_ _
        | exact Seen.sysOk_rdsys _ _
        | refine Seen.sysOk_modifies _ _ _ _ ?_
        | exact Seen.sysOk_loads _ _ _ _ Eff.none_sysOk
        | exact Seen.sysOk_stores _ _ _ Eff.none_sysOk
        | split)) h

theorem execVxor_ok (c : CoreSel) (i : CoreWord) (s : State) :
    memsOk s.mems → ∀ t, execVxor c i s = .next t → memsOk t.mems := by
  intro h t ht
  cases ht
  refine State.issue_ok _ _ _ (fun x => by
    unfold Seen.opVxor
    repeat' (first
        | exact Act.sysOk_viol _ _
        | exact Act.sysOk_wait
        | exact sysOk_results _
        | exact Seen.sysOk_compute _ _
        | exact Seen.sysOk_vectorOnly _ _
        | exact Seen.sysOk_move _
        | exact Seen.sysOk_illop _
        | exact Seen.sysOk_jump _ _ _ _
        | exact Seen.sysOk_loopOf _ _
        | refine Act.sysOk_bank ?_ _
        | refine Act.sysOk_wr ?_ _
        | exact Seen.sysOk_rdsys _ _
        | refine Seen.sysOk_modifies _ _ _ _ ?_
        | exact Seen.sysOk_loads _ _ _ _ Eff.none_sysOk
        | exact Seen.sysOk_stores _ _ _ Eff.none_sysOk
        | split)) h

theorem execVcmp_ok (c : CoreSel) (i : CoreWord) (s : State) :
    memsOk s.mems → ∀ t, execVcmp c i s = .next t → memsOk t.mems := by
  intro h t ht
  cases ht
  refine State.issue_ok _ _ _ (fun x => by
    unfold Seen.opVcmp
    repeat' (first
        | exact Act.sysOk_viol _ _
        | exact Act.sysOk_wait
        | exact sysOk_results _
        | exact Seen.sysOk_compute _ _
        | exact Seen.sysOk_vectorOnly _ _
        | exact Seen.sysOk_move _
        | exact Seen.sysOk_illop _
        | exact Seen.sysOk_jump _ _ _ _
        | exact Seen.sysOk_loopOf _ _
        | refine Act.sysOk_bank ?_ _
        | refine Act.sysOk_wr ?_ _
        | exact Seen.sysOk_rdsys _ _
        | refine Seen.sysOk_modifies _ _ _ _ ?_
        | exact Seen.sysOk_loads _ _ _ _ Eff.none_sysOk
        | exact Seen.sysOk_stores _ _ _ Eff.none_sysOk
        | split)) h

theorem execVsel_ok (c : CoreSel) (i : CoreWord) (s : State) :
    memsOk s.mems → ∀ t, execVsel c i s = .next t → memsOk t.mems := by
  intro h t ht
  cases ht
  refine State.issue_ok _ _ _ (fun x => by
    unfold Seen.opVsel
    repeat' (first
        | exact Act.sysOk_viol _ _
        | exact Act.sysOk_wait
        | exact sysOk_results _
        | exact Seen.sysOk_compute _ _
        | exact Seen.sysOk_vectorOnly _ _
        | exact Seen.sysOk_move _
        | exact Seen.sysOk_illop _
        | exact Seen.sysOk_jump _ _ _ _
        | exact Seen.sysOk_loopOf _ _
        | refine Act.sysOk_bank ?_ _
        | refine Act.sysOk_wr ?_ _
        | exact Seen.sysOk_rdsys _ _
        | refine Seen.sysOk_modifies _ _ _ _ ?_
        | exact Seen.sysOk_loads _ _ _ _ Eff.none_sysOk
        | exact Seen.sysOk_stores _ _ _ Eff.none_sysOk
        | split)) h

theorem execVperm_ok (c : CoreSel) (i : CoreWord) (s : State) :
    memsOk s.mems → ∀ t, execVperm c i s = .next t → memsOk t.mems := by
  intro h t ht
  cases ht
  refine State.issue_ok _ _ _ (fun x => by
    unfold Seen.opVperm
    repeat' (first
        | exact Act.sysOk_viol _ _
        | exact Act.sysOk_wait
        | exact sysOk_results _
        | exact Seen.sysOk_compute _ _
        | exact Seen.sysOk_vectorOnly _ _
        | exact Seen.sysOk_move _
        | exact Seen.sysOk_illop _
        | exact Seen.sysOk_jump _ _ _ _
        | exact Seen.sysOk_loopOf _ _
        | refine Act.sysOk_bank ?_ _
        | refine Act.sysOk_wr ?_ _
        | exact Seen.sysOk_rdsys _ _
        | refine Seen.sysOk_modifies _ _ _ _ ?_
        | exact Seen.sysOk_loads _ _ _ _ Eff.none_sysOk
        | exact Seen.sysOk_stores _ _ _ Eff.none_sysOk
        | split)) h

theorem execMac_ok (c : CoreSel) (i : CoreWord) (s : State) :
    memsOk s.mems → ∀ t, execMac c i s = .next t → memsOk t.mems := by
  intro h t ht
  cases ht
  refine State.issue_ok _ _ _ (fun x => by
    unfold Seen.opMac
    repeat' (first
        | exact Act.sysOk_viol _ _
        | exact Act.sysOk_wait
        | exact sysOk_results _
        | exact Seen.sysOk_compute _ _
        | exact Seen.sysOk_vectorOnly _ _
        | exact Seen.sysOk_move _
        | exact Seen.sysOk_illop _
        | exact Seen.sysOk_jump _ _ _ _
        | exact Seen.sysOk_loopOf _ _
        | refine Act.sysOk_bank ?_ _
        | refine Act.sysOk_wr ?_ _
        | exact Seen.sysOk_rdsys _ _
        | refine Seen.sysOk_modifies _ _ _ _ ?_
        | exact Seen.sysOk_loads _ _ _ _ Eff.none_sysOk
        | exact Seen.sysOk_stores _ _ _ Eff.none_sysOk
        | split)) h

theorem execMsu_ok (c : CoreSel) (i : CoreWord) (s : State) :
    memsOk s.mems → ∀ t, execMsu c i s = .next t → memsOk t.mems := by
  intro h t ht
  cases ht
  refine State.issue_ok _ _ _ (fun x => by
    unfold Seen.opMsu
    repeat' (first
        | exact Act.sysOk_viol _ _
        | exact Act.sysOk_wait
        | exact sysOk_results _
        | exact Seen.sysOk_compute _ _
        | exact Seen.sysOk_vectorOnly _ _
        | exact Seen.sysOk_move _
        | exact Seen.sysOk_illop _
        | exact Seen.sysOk_jump _ _ _ _
        | exact Seen.sysOk_loopOf _ _
        | refine Act.sysOk_bank ?_ _
        | refine Act.sysOk_wr ?_ _
        | exact Seen.sysOk_rdsys _ _
        | refine Seen.sysOk_modifies _ _ _ _ ?_
        | exact Seen.sysOk_loads _ _ _ _ Eff.none_sysOk
        | exact Seen.sysOk_stores _ _ _ Eff.none_sysOk
        | split)) h

theorem execMpy_ok (c : CoreSel) (i : CoreWord) (s : State) :
    memsOk s.mems → ∀ t, execMpy c i s = .next t → memsOk t.mems := by
  intro h t ht
  cases ht
  refine State.issue_ok _ _ _ (fun x => by
    unfold Seen.opMpy
    repeat' (first
        | exact Act.sysOk_viol _ _
        | exact Act.sysOk_wait
        | exact sysOk_results _
        | exact Seen.sysOk_compute _ _
        | exact Seen.sysOk_vectorOnly _ _
        | exact Seen.sysOk_move _
        | exact Seen.sysOk_illop _
        | exact Seen.sysOk_jump _ _ _ _
        | exact Seen.sysOk_loopOf _ _
        | refine Act.sysOk_bank ?_ _
        | refine Act.sysOk_wr ?_ _
        | exact Seen.sysOk_rdsys _ _
        | refine Seen.sysOk_modifies _ _ _ _ ?_
        | exact Seen.sysOk_loads _ _ _ _ Eff.none_sysOk
        | exact Seen.sysOk_stores _ _ _ Eff.none_sysOk
        | split)) h

theorem execFtap_ok (c : CoreSel) (i : CoreWord) (s : State) :
    memsOk s.mems → ∀ t, execFtap c i s = .next t → memsOk t.mems := by
  intro h t ht
  cases ht
  refine State.issue_ok _ _ _ (fun x => by
    unfold Seen.opFtap
    repeat' (first
        | exact Act.sysOk_viol _ _
        | exact Act.sysOk_wait
        | exact sysOk_results _
        | exact Seen.sysOk_compute _ _
        | exact Seen.sysOk_vectorOnly _ _
        | exact Seen.sysOk_move _
        | exact Seen.sysOk_illop _
        | exact Seen.sysOk_jump _ _ _ _
        | exact Seen.sysOk_loopOf _ _
        | refine Act.sysOk_bank ?_ _
        | refine Act.sysOk_wr ?_ _
        | exact Seen.sysOk_rdsys _ _
        | refine Seen.sysOk_modifies _ _ _ _ ?_
        | exact Seen.sysOk_loads _ _ _ _ Eff.none_sysOk
        | exact Seen.sysOk_stores _ _ _ Eff.none_sysOk
        | split)) h

theorem execFtap2_ok (c : CoreSel) (i : CoreWord) (s : State) :
    memsOk s.mems → ∀ t, execFtap2 c i s = .next t → memsOk t.mems := by
  intro h t ht
  cases ht
  refine State.issue_ok _ _ _ (fun x => by
    unfold Seen.opFtap2
    repeat' (first
        | exact Act.sysOk_viol _ _
        | exact Act.sysOk_wait
        | exact sysOk_results _
        | exact Seen.sysOk_compute _ _
        | exact Seen.sysOk_vectorOnly _ _
        | exact Seen.sysOk_move _
        | exact Seen.sysOk_illop _
        | exact Seen.sysOk_jump _ _ _ _
        | exact Seen.sysOk_loopOf _ _
        | refine Act.sysOk_bank ?_ _
        | refine Act.sysOk_wr ?_ _
        | exact Seen.sysOk_rdsys _ _
        | refine Seen.sysOk_modifies _ _ _ _ ?_
        | exact Seen.sysOk_loads _ _ _ _ Eff.none_sysOk
        | exact Seen.sysOk_stores _ _ _ Eff.none_sysOk
        | split)) h

theorem execCmac_ok (c : CoreSel) (i : CoreWord) (s : State) :
    memsOk s.mems → ∀ t, execCmac c i s = .next t → memsOk t.mems := by
  intro h t ht
  cases ht
  refine State.issue_ok _ _ _ (fun x => by
    unfold Seen.opCmac
    repeat' (first
        | exact Act.sysOk_viol _ _
        | exact Act.sysOk_wait
        | exact sysOk_results _
        | exact Seen.sysOk_compute _ _
        | exact Seen.sysOk_vectorOnly _ _
        | exact Seen.sysOk_move _
        | exact Seen.sysOk_illop _
        | exact Seen.sysOk_jump _ _ _ _
        | exact Seen.sysOk_loopOf _ _
        | refine Act.sysOk_bank ?_ _
        | refine Act.sysOk_wr ?_ _
        | exact Seen.sysOk_rdsys _ _
        | refine Seen.sysOk_modifies _ _ _ _ ?_
        | exact Seen.sysOk_loads _ _ _ _ Eff.none_sysOk
        | exact Seen.sysOk_stores _ _ _ Eff.none_sysOk
        | split)) h

theorem execCmpy_ok (c : CoreSel) (i : CoreWord) (s : State) :
    memsOk s.mems → ∀ t, execCmpy c i s = .next t → memsOk t.mems := by
  intro h t ht
  cases ht
  refine State.issue_ok _ _ _ (fun x => by
    unfold Seen.opCmpy
    repeat' (first
        | exact Act.sysOk_viol _ _
        | exact Act.sysOk_wait
        | exact sysOk_results _
        | exact Seen.sysOk_compute _ _
        | exact Seen.sysOk_vectorOnly _ _
        | exact Seen.sysOk_move _
        | exact Seen.sysOk_illop _
        | exact Seen.sysOk_jump _ _ _ _
        | exact Seen.sysOk_loopOf _ _
        | refine Act.sysOk_bank ?_ _
        | refine Act.sysOk_wr ?_ _
        | exact Seen.sysOk_rdsys _ _
        | refine Seen.sysOk_modifies _ _ _ _ ?_
        | exact Seen.sysOk_loads _ _ _ _ Eff.none_sysOk
        | exact Seen.sysOk_stores _ _ _ Eff.none_sysOk
        | split)) h

theorem execCmacj_ok (c : CoreSel) (i : CoreWord) (s : State) :
    memsOk s.mems → ∀ t, execCmacj c i s = .next t → memsOk t.mems := by
  intro h t ht
  cases ht
  refine State.issue_ok _ _ _ (fun x => by
    unfold Seen.opCmacj
    repeat' (first
        | exact Act.sysOk_viol _ _
        | exact Act.sysOk_wait
        | exact sysOk_results _
        | exact Seen.sysOk_compute _ _
        | exact Seen.sysOk_vectorOnly _ _
        | exact Seen.sysOk_move _
        | exact Seen.sysOk_illop _
        | exact Seen.sysOk_jump _ _ _ _
        | exact Seen.sysOk_loopOf _ _
        | refine Act.sysOk_bank ?_ _
        | refine Act.sysOk_wr ?_ _
        | exact Seen.sysOk_rdsys _ _
        | refine Seen.sysOk_modifies _ _ _ _ ?_
        | exact Seen.sysOk_loads _ _ _ _ Eff.none_sysOk
        | exact Seen.sysOk_stores _ _ _ Eff.none_sysOk
        | split)) h

theorem execRdacc_ok (c : CoreSel) (i : CoreWord) (s : State) :
    memsOk s.mems → ∀ t, execRdacc c i s = .next t → memsOk t.mems := by
  intro h t ht
  cases ht
  refine State.issue_ok _ _ _ (fun x => by
    unfold Seen.opRdacc
    repeat' (first
        | exact Act.sysOk_viol _ _
        | exact Act.sysOk_wait
        | exact sysOk_results _
        | exact Seen.sysOk_compute _ _
        | exact Seen.sysOk_vectorOnly _ _
        | exact Seen.sysOk_move _
        | exact Seen.sysOk_illop _
        | exact Seen.sysOk_jump _ _ _ _
        | exact Seen.sysOk_loopOf _ _
        | refine Act.sysOk_bank ?_ _
        | refine Act.sysOk_wr ?_ _
        | exact Seen.sysOk_rdsys _ _
        | refine Seen.sysOk_modifies _ _ _ _ ?_
        | exact Seen.sysOk_loads _ _ _ _ Eff.none_sysOk
        | exact Seen.sysOk_stores _ _ _ Eff.none_sysOk
        | split)) h

theorem execClra_ok (c : CoreSel) (i : CoreWord) (s : State) :
    memsOk s.mems → ∀ t, execClra c i s = .next t → memsOk t.mems := by
  intro h t ht
  cases ht
  refine State.issue_ok _ _ _ (fun x => by
    unfold Seen.opClra
    repeat' (first
        | exact Act.sysOk_viol _ _
        | exact Act.sysOk_wait
        | exact sysOk_results _
        | exact Seen.sysOk_compute _ _
        | exact Seen.sysOk_vectorOnly _ _
        | exact Seen.sysOk_move _
        | exact Seen.sysOk_illop _
        | exact Seen.sysOk_jump _ _ _ _
        | exact Seen.sysOk_loopOf _ _
        | refine Act.sysOk_bank ?_ _
        | refine Act.sysOk_wr ?_ _
        | exact Seen.sysOk_rdsys _ _
        | refine Seen.sysOk_modifies _ _ _ _ ?_
        | exact Seen.sysOk_loads _ _ _ _ Eff.none_sysOk
        | exact Seen.sysOk_stores _ _ _ Eff.none_sysOk
        | split)) h

theorem execAshf_ok (c : CoreSel) (i : CoreWord) (s : State) :
    memsOk s.mems → ∀ t, execAshf c i s = .next t → memsOk t.mems := by
  intro h t ht
  cases ht
  refine State.issue_ok _ _ _ (fun x => by
    unfold Seen.opAshf
    repeat' (first
        | exact Act.sysOk_viol _ _
        | exact Act.sysOk_wait
        | exact sysOk_results _
        | exact Seen.sysOk_compute _ _
        | exact Seen.sysOk_vectorOnly _ _
        | exact Seen.sysOk_move _
        | exact Seen.sysOk_illop _
        | exact Seen.sysOk_jump _ _ _ _
        | exact Seen.sysOk_loopOf _ _
        | refine Act.sysOk_bank ?_ _
        | refine Act.sysOk_wr ?_ _
        | exact Seen.sysOk_rdsys _ _
        | refine Seen.sysOk_modifies _ _ _ _ ?_
        | exact Seen.sysOk_loads _ _ _ _ Eff.none_sysOk
        | exact Seen.sysOk_stores _ _ _ Eff.none_sysOk
        | split)) h

theorem execAmov_ok (c : CoreSel) (i : CoreWord) (s : State) :
    memsOk s.mems → ∀ t, execAmov c i s = .next t → memsOk t.mems := by
  intro h t ht
  cases ht
  refine State.issue_ok _ _ _ (fun x => by
    unfold Seen.opAmov
    repeat' (first
        | exact Act.sysOk_viol _ _
        | exact Act.sysOk_wait
        | exact sysOk_results _
        | exact Seen.sysOk_compute _ _
        | exact Seen.sysOk_vectorOnly _ _
        | exact Seen.sysOk_move _
        | exact Seen.sysOk_illop _
        | exact Seen.sysOk_jump _ _ _ _
        | exact Seen.sysOk_loopOf _ _
        | refine Act.sysOk_bank ?_ _
        | refine Act.sysOk_wr ?_ _
        | exact Seen.sysOk_rdsys _ _
        | refine Seen.sysOk_modifies _ _ _ _ ?_
        | exact Seen.sysOk_loads _ _ _ _ Eff.none_sysOk
        | exact Seen.sysOk_stores _ _ _ Eff.none_sysOk
        | split)) h

theorem execTlerp_ok (c : CoreSel) (i : CoreWord) (s : State) :
    memsOk s.mems → ∀ t, execTlerp c i s = .next t → memsOk t.mems := by
  intro h t ht
  cases ht
  refine State.issue_ok _ _ _ (fun x => by
    unfold Seen.opTlerp
    repeat' (first
        | exact Act.sysOk_viol _ _
        | exact Act.sysOk_wait
        | exact sysOk_results _
        | exact Seen.sysOk_compute _ _
        | exact Seen.sysOk_vectorOnly _ _
        | exact Seen.sysOk_move _
        | exact Seen.sysOk_illop _
        | exact Seen.sysOk_jump _ _ _ _
        | exact Seen.sysOk_loopOf _ _
        | refine Act.sysOk_bank ?_ _
        | refine Act.sysOk_meets ?_ _
        | refine Act.sysOk_wr ?_ _
        | exact Seen.sysOk_rdsys _ _
        | refine Seen.sysOk_modifies _ _ _ _ ?_
        | exact Seen.sysOk_loads _ _ _ _ Eff.none_sysOk
        | exact Seen.sysOk_stores _ _ _ Eff.none_sysOk
        | split)) h

theorem execPhrd_ok (c : CoreSel) (i : CoreWord) (s : State) :
    memsOk s.mems → ∀ t, execPhrd c i s = .next t → memsOk t.mems := by
  intro h t ht
  cases ht
  refine State.issue_ok _ _ _ (fun x => by
    unfold Seen.opPhrd
    repeat' (first
        | exact Act.sysOk_viol _ _
        | exact Act.sysOk_wait
        | exact sysOk_results _
        | exact Seen.sysOk_compute _ _
        | exact Seen.sysOk_vectorOnly _ _
        | exact Seen.sysOk_move _
        | exact Seen.sysOk_illop _
        | exact Seen.sysOk_jump _ _ _ _
        | exact Seen.sysOk_loopOf _ _
        | refine Act.sysOk_bank ?_ _
        | refine Act.sysOk_wr ?_ _
        | exact Seen.sysOk_rdsys _ _
        | refine Seen.sysOk_modifies _ _ _ _ ?_
        | exact Seen.sysOk_loads _ _ _ _ Eff.none_sysOk
        | exact Seen.sysOk_stores _ _ _ Eff.none_sysOk
        | split)) h

theorem execPrmrd_ok (c : CoreSel) (i : CoreWord) (s : State) :
    memsOk s.mems → ∀ t, execPrmrd c i s = .next t → memsOk t.mems := by
  intro h t ht
  cases ht
  refine State.issue_ok _ _ _ (fun x => by
    unfold Seen.opPrmrd
    repeat' (first
        | exact Act.sysOk_viol _ _
        | exact Act.sysOk_wait
        | exact sysOk_results _
        | exact Seen.sysOk_compute _ _
        | exact Seen.sysOk_vectorOnly _ _
        | exact Seen.sysOk_move _
        | exact Seen.sysOk_illop _
        | exact Seen.sysOk_jump _ _ _ _
        | exact Seen.sysOk_loopOf _ _
        | refine Act.sysOk_bank ?_ _
        | refine Act.sysOk_wr ?_ _
        | exact Seen.sysOk_rdsys _ _
        | refine Seen.sysOk_modifies _ _ _ _ ?_
        | exact Seen.sysOk_loads _ _ _ _ Eff.none_sysOk
        | exact Seen.sysOk_stores _ _ _ Eff.none_sysOk
        | split)) h

theorem execEvpop_ok (c : CoreSel) (i : CoreWord) (s : State) :
    memsOk s.mems → ∀ t, execEvpop c i s = .next t → memsOk t.mems := by
  intro h t ht
  cases ht
  refine State.issue_ok _ _ _ (Seen.sysOk_opEvpop) h

theorem execStewardEvpop_ok (i : _) (s : State) : memsOk s.mems → ∀ t, execStewardEvpop i s = .next t →
    memsOk t.mems := by
  intro h t ht
  cases ht
  exact State.issue_ok _ _ _ Seen.sysOk_popSteward h

theorem State.storeWritten_ok (s : State) (n : _) : memsOk s.mems → memsOk (State.storeWritten s n).mems := by
  intro h
  unfold State.storeWritten
  repeat' (first
      | assumption
      | refine State.orcWrite_ok _ _ ?_
      | simp only [↓mems_ite, ↓mems_mk, mems_eta, State.orcWrite_ok, ↓State.setCore_mems, ite_self, implies_true,
          id_eq, h]
      | split)

theorem State.storesUpTo_ok (n upto k : Nat) (s : State) :
    memsOk s.mems → memsOk (State.storesUpTo n upto k s).mems := by
  induction k generalizing s with
  | zero => exact id
  | succ k ih =>
    intro h
    unfold State.storesUpTo
    split
    · exact ih _ (State.storeWritten_ok _ _ h)
    · exact h

theorem State.loadArrives_ok (s : State) (n : _) (e : _) : memsOk s.mems → memsOk (State.loadArrives s n e).mems := by
  intro h
  unfold State.loadArrives
  split
  · exact h
  · rename_i sh _
    split
    · exact h
    · rename_i l _
      have h1 : memsOk (State.storesUpTo n l.after (s.core n).stores.length s).mems := State.storesUpTo_ok _ _ _ _ h
      dsimp only
      split
      · exact h1
      · rw [State.meetOrc_mems, State.setCore_mems]
        exact State.upsetWord_ok _ _ _ _ h1

theorem execLd_ok (c : CoreSel) (i : CoreWord) (s : State) :
    memsOk s.mems → ∀ t, execLd c i s = .next t → memsOk t.mems := by
  intro h t ht
  cases ht
  refine State.issue_ok _ _ _ (fun x => by
    unfold Seen.opLd
    repeat' (first
        | exact Act.sysOk_viol _ _
        | exact Act.sysOk_wait
        | exact sysOk_results _
        | exact Seen.sysOk_compute _ _
        | exact Seen.sysOk_vectorOnly _ _
        | exact Seen.sysOk_move _
        | exact Seen.sysOk_illop _
        | exact Seen.sysOk_jump _ _ _ _
        | exact Seen.sysOk_loopOf _ _
        | refine Act.sysOk_bank ?_ _
        | refine Act.sysOk_wr ?_ _
        | exact Seen.sysOk_rdsys _ _
        | refine Seen.sysOk_modifies _ _ _ _ ?_
        | exact Seen.sysOk_loads _ _ _ _ Eff.none_sysOk
        | exact Seen.sysOk_stores _ _ _ Eff.none_sysOk
        | split)) h

theorem execSt_ok (c : CoreSel) (i : CoreWord) (s : State) :
    memsOk s.mems → ∀ t, execSt c i s = .next t → memsOk t.mems := by
  intro h t ht
  cases ht
  refine State.issue_ok _ _ _ (fun x => by
    unfold Seen.opSt
    repeat' (first
        | exact Act.sysOk_viol _ _
        | exact Act.sysOk_wait
        | exact sysOk_results _
        | exact Seen.sysOk_compute _ _
        | exact Seen.sysOk_vectorOnly _ _
        | exact Seen.sysOk_move _
        | exact Seen.sysOk_illop _
        | exact Seen.sysOk_jump _ _ _ _
        | exact Seen.sysOk_loopOf _ _
        | refine Act.sysOk_bank ?_ _
        | refine Act.sysOk_wr ?_ _
        | exact Seen.sysOk_rdsys _ _
        | refine Seen.sysOk_modifies _ _ _ _ ?_
        | exact Seen.sysOk_loads _ _ _ _ Eff.none_sysOk
        | exact Seen.sysOk_stores _ _ _ Eff.none_sysOk
        | split)) h

theorem execLds_ok (c : CoreSel) (i : CoreWord) (s : State) :
    memsOk s.mems → ∀ t, execLds c i s = .next t → memsOk t.mems := by
  intro h t ht
  cases ht
  refine State.issue_ok _ _ _ (fun x => by
    unfold Seen.opLds
    repeat' (first
        | exact Act.sysOk_viol _ _
        | exact Act.sysOk_wait
        | exact sysOk_results _
        | exact Seen.sysOk_compute _ _
        | exact Seen.sysOk_vectorOnly _ _
        | exact Seen.sysOk_move _
        | exact Seen.sysOk_illop _
        | exact Seen.sysOk_jump _ _ _ _
        | exact Seen.sysOk_loopOf _ _
        | refine Act.sysOk_bank ?_ _
        | refine Act.sysOk_wr ?_ _
        | exact Seen.sysOk_rdsys _ _
        | refine Seen.sysOk_modifies _ _ _ _ ?_
        | exact Seen.sysOk_loads _ _ _ _ Eff.none_sysOk
        | exact Seen.sysOk_stores _ _ _ Eff.none_sysOk
        | split)) h

theorem execLdi_ok (c : CoreSel) (i : CoreWord) (s : State) :
    memsOk s.mems → ∀ t, execLdi c i s = .next t → memsOk t.mems := by
  intro h t ht
  cases ht
  refine State.issue_ok _ _ _ (fun x => by
    unfold Seen.opLdi
    repeat' (first
        | exact Act.sysOk_viol _ _
        | exact Act.sysOk_wait
        | exact sysOk_results _
        | exact Seen.sysOk_compute _ _
        | exact Seen.sysOk_vectorOnly _ _
        | exact Seen.sysOk_move _
        | exact Seen.sysOk_illop _
        | exact Seen.sysOk_jump _ _ _ _
        | exact Seen.sysOk_loopOf _ _
        | refine Act.sysOk_bank ?_ _
        | refine Act.sysOk_wr ?_ _
        | exact Seen.sysOk_rdsys _ _
        | refine Seen.sysOk_modifies _ _ _ _ ?_
        | exact Seen.sysOk_loads _ _ _ _ Eff.none_sysOk
        | exact Seen.sysOk_stores _ _ _ Eff.none_sysOk
        | split)) h

theorem execAimm_ok (c : CoreSel) (i : CoreWord) (s : State) :
    memsOk s.mems → ∀ t, execAimm c i s = .next t → memsOk t.mems := by
  intro h t ht
  cases ht
  refine State.issue_ok _ _ _ (fun x => by
    unfold Seen.opAimm
    repeat' (first
        | exact Act.sysOk_viol _ _
        | exact Act.sysOk_wait
        | exact sysOk_results _
        | exact Seen.sysOk_compute _ _
        | exact Seen.sysOk_vectorOnly _ _
        | exact Seen.sysOk_move _
        | exact Seen.sysOk_illop _
        | exact Seen.sysOk_jump _ _ _ _
        | exact Seen.sysOk_loopOf _ _
        | refine Act.sysOk_bank ?_ _
        | refine Act.sysOk_wr ?_ _
        | exact Seen.sysOk_rdsys _ _
        | refine Seen.sysOk_modifies _ _ _ _ ?_
        | exact Seen.sysOk_loads _ _ _ _ Eff.none_sysOk
        | exact Seen.sysOk_stores _ _ _ Eff.none_sysOk
        | split)) h

theorem execAadd_ok (c : CoreSel) (i : CoreWord) (s : State) :
    memsOk s.mems → ∀ t, execAadd c i s = .next t → memsOk t.mems := by
  intro h t ht
  cases ht
  refine State.issue_ok _ _ _ (fun x => by
    unfold Seen.opAadd
    repeat' (first
        | exact Act.sysOk_viol _ _
        | exact Act.sysOk_wait
        | exact sysOk_results _
        | exact Seen.sysOk_compute _ _
        | exact Seen.sysOk_vectorOnly _ _
        | exact Seen.sysOk_move _
        | exact Seen.sysOk_illop _
        | exact Seen.sysOk_jump _ _ _ _
        | exact Seen.sysOk_loopOf _ _
        | refine Act.sysOk_bank ?_ _
        | refine Act.sysOk_wr ?_ _
        | exact Seen.sysOk_rdsys _ _
        | refine Seen.sysOk_modifies _ _ _ _ ?_
        | exact Seen.sysOk_loads _ _ _ _ Eff.none_sysOk
        | exact Seen.sysOk_stores _ _ _ Eff.none_sysOk
        | split)) h

theorem execAfold_ok (c : CoreSel) (i : CoreWord) (s : State) :
    memsOk s.mems → ∀ t, execAfold c i s = .next t → memsOk t.mems := by
  intro h t ht
  cases ht
  refine State.issue_ok _ _ _ (fun x => by
    unfold Seen.opAfold
    repeat' (first
        | exact Act.sysOk_viol _ _
        | exact Act.sysOk_wait
        | exact sysOk_results _
        | exact Seen.sysOk_compute _ _
        | exact Seen.sysOk_vectorOnly _ _
        | exact Seen.sysOk_move _
        | exact Seen.sysOk_illop _
        | exact Seen.sysOk_jump _ _ _ _
        | exact Seen.sysOk_loopOf _ _
        | refine Act.sysOk_bank ?_ _
        | refine Act.sysOk_wr ?_ _
        | exact Seen.sysOk_rdsys _ _
        | refine Seen.sysOk_modifies _ _ _ _ ?_
        | exact Seen.sysOk_loads _ _ _ _ Eff.none_sysOk
        | exact Seen.sysOk_stores _ _ _ Eff.none_sysOk
        | split)) h

theorem execAmovx_ok (c : CoreSel) (i : CoreWord) (s : State) :
    memsOk s.mems → ∀ t, execAmovx c i s = .next t → memsOk t.mems := by
  intro h t ht
  cases ht
  refine State.issue_ok _ _ _ (fun x => by
    unfold Seen.opAmovx
    dsimp only
    repeat' (first
        | exact Act.sysOk_viol _ _
        | exact Act.sysOk_wait
        | exact sysOk_results _
        | exact Seen.sysOk_compute _ _
        | exact Seen.sysOk_vectorOnly _ _
        | exact Seen.sysOk_move _
        | exact Seen.sysOk_illop _
        | exact Seen.sysOk_jump _ _ _ _
        | exact Seen.sysOk_loopOf _ _
        | refine Act.sysOk_bank ?_ _
        | refine Act.sysOk_wr ?_ _
        | exact Seen.sysOk_rdsys _ _
        | refine Seen.sysOk_modifies _ _ _ _ ?_
        | exact Seen.sysOk_loads _ _ _ _ Eff.none_sysOk
        | exact Seen.sysOk_stores _ _ _ Eff.none_sysOk
        | split)) h

theorem execOrchardLoadComplete_ok (c : _) (e : _) (s : State) : memsOk s.mems → ∀ t,
    execOrchardLoadComplete c e s = .next t → memsOk t.mems := by
  intro h t ht
  cases ht
  repeat' (first
      | assumption
      | refine State.loadArrives_ok _ _ _ (State.disturb_ok _ _ ?_)
      | simp only [↓mems_ite, ↓mems_mk, mems_eta, State.loadArrives_ok, ite_self, implies_true, id_eq, h]
      | split)

theorem execOrchardStoreWritten_ok (c : _) (s : State) : memsOk s.mems → ∀ t,
    execOrchardStoreWritten c s = .next t → memsOk t.mems := by
  intro h t ht
  cases ht
  repeat' (first
      | assumption
      | refine State.storeWritten_ok _ _ ?_
      | simp only [↓mems_ite, ↓mems_mk, mems_eta, State.storeWritten_ok, ite_self, implies_true, id_eq, h]
      | split)

theorem execBr_ok (c : CoreSel) (i : CoreWord) (s : State) :
    memsOk s.mems → ∀ t, execBr c i s = .next t → memsOk t.mems := by
  intro h t ht
  cases ht
  refine State.issue_ok _ _ _ (fun x => by
    unfold Seen.opBr
    repeat' (first
        | exact Act.sysOk_viol _ _
        | exact Act.sysOk_wait
        | exact sysOk_results _
        | exact Seen.sysOk_compute _ _
        | exact Seen.sysOk_vectorOnly _ _
        | exact Seen.sysOk_move _
        | exact Seen.sysOk_illop _
        | exact Seen.sysOk_jump _ _ _ _
        | exact Seen.sysOk_loopOf _ _
        | refine Act.sysOk_bank ?_ _
        | refine Act.sysOk_wr ?_ _
        | exact Seen.sysOk_rdsys _ _
        | refine Seen.sysOk_modifies _ _ _ _ ?_
        | exact Seen.sysOk_loads _ _ _ _ Eff.none_sysOk
        | exact Seen.sysOk_stores _ _ _ Eff.none_sysOk
        | split)) h

theorem execBrc_ok (c : CoreSel) (i : CoreWord) (s : State) :
    memsOk s.mems → ∀ t, execBrc c i s = .next t → memsOk t.mems := by
  intro h t ht
  cases ht
  refine State.issue_ok _ _ _ (fun x => by
    unfold Seen.opBrc
    repeat' (first
        | exact Act.sysOk_viol _ _
        | exact Act.sysOk_wait
        | exact sysOk_results _
        | exact Seen.sysOk_compute _ _
        | exact Seen.sysOk_vectorOnly _ _
        | exact Seen.sysOk_move _
        | exact Seen.sysOk_illop _
        | exact Seen.sysOk_jump _ _ _ _
        | exact Seen.sysOk_loopOf _ _
        | refine Act.sysOk_bank ?_ _
        | refine Act.sysOk_wr ?_ _
        | exact Seen.sysOk_rdsys _ _
        | refine Seen.sysOk_modifies _ _ _ _ ?_
        | exact Seen.sysOk_loads _ _ _ _ Eff.none_sysOk
        | exact Seen.sysOk_stores _ _ _ Eff.none_sysOk
        | split)) h

theorem execCall_ok (c : CoreSel) (i : CoreWord) (s : State) :
    memsOk s.mems → ∀ t, execCall c i s = .next t → memsOk t.mems := by
  intro h t ht
  cases ht
  refine State.issue_ok _ _ _ (fun x => by
    unfold Seen.opCall
    repeat' (first
        | exact Act.sysOk_viol _ _
        | exact Act.sysOk_wait
        | exact sysOk_results _
        | exact Seen.sysOk_compute _ _
        | exact Seen.sysOk_vectorOnly _ _
        | exact Seen.sysOk_move _
        | exact Seen.sysOk_illop _
        | exact Seen.sysOk_jump _ _ _ _
        | exact Seen.sysOk_loopOf _ _
        | refine Act.sysOk_bank ?_ _
        | refine Act.sysOk_wr ?_ _
        | exact Seen.sysOk_rdsys _ _
        | refine Seen.sysOk_modifies _ _ _ _ ?_
        | exact Seen.sysOk_loads _ _ _ _ Eff.none_sysOk
        | exact Seen.sysOk_stores _ _ _ Eff.none_sysOk
        | split)) h

theorem execRet_ok (c : CoreSel) (i : CoreWord) (s : State) :
    memsOk s.mems → ∀ t, execRet c i s = .next t → memsOk t.mems := by
  intro h t ht
  cases ht
  refine State.issue_ok _ _ _ (fun x => by
    unfold Seen.opRet
    repeat' (first
        | exact Act.sysOk_viol _ _
        | exact Act.sysOk_wait
        | exact sysOk_results _
        | exact Seen.sysOk_compute _ _
        | exact Seen.sysOk_vectorOnly _ _
        | exact Seen.sysOk_move _
        | exact Seen.sysOk_illop _
        | exact Seen.sysOk_jump _ _ _ _
        | exact Seen.sysOk_loopOf _ _
        | refine Act.sysOk_bank ?_ _
        | refine Act.sysOk_wr ?_ _
        | exact Seen.sysOk_rdsys _ _
        | refine Seen.sysOk_modifies _ _ _ _ ?_
        | exact Seen.sysOk_loads _ _ _ _ Eff.none_sysOk
        | exact Seen.sysOk_stores _ _ _ Eff.none_sysOk
        | split)) h

theorem execLoop_ok (c : CoreSel) (i : CoreWord) (s : State) :
    memsOk s.mems → ∀ t, execLoop c i s = .next t → memsOk t.mems := by
  intro h t ht
  cases ht
  refine State.issue_ok _ _ _ (fun x => by
    unfold Seen.opLoop
    repeat' (first
        | exact Act.sysOk_viol _ _
        | exact Act.sysOk_wait
        | exact sysOk_results _
        | exact Seen.sysOk_compute _ _
        | exact Seen.sysOk_vectorOnly _ _
        | exact Seen.sysOk_move _
        | exact Seen.sysOk_illop _
        | exact Seen.sysOk_jump _ _ _ _
        | exact Seen.sysOk_loopOf _ _
        | refine Act.sysOk_bank ?_ _
        | refine Act.sysOk_wr ?_ _
        | exact Seen.sysOk_rdsys _ _
        | refine Seen.sysOk_modifies _ _ _ _ ?_
        | exact Seen.sysOk_loads _ _ _ _ Eff.none_sysOk
        | exact Seen.sysOk_stores _ _ _ Eff.none_sysOk
        | split)) h

theorem execLoopv_ok (c : CoreSel) (i : CoreWord) (s : State) :
    memsOk s.mems → ∀ t, execLoopv c i s = .next t → memsOk t.mems := by
  intro h t ht
  cases ht
  refine State.issue_ok _ _ _ (fun x => by
    unfold Seen.opLoopv
    repeat' (first
        | exact Act.sysOk_viol _ _
        | exact Act.sysOk_wait
        | exact sysOk_results _
        | exact Seen.sysOk_compute _ _
        | exact Seen.sysOk_vectorOnly _ _
        | exact Seen.sysOk_move _
        | exact Seen.sysOk_illop _
        | exact Seen.sysOk_jump _ _ _ _
        | exact Seen.sysOk_loopOf _ _
        | refine Act.sysOk_bank ?_ _
        | refine Act.sysOk_wr ?_ _
        | exact Seen.sysOk_rdsys _ _
        | refine Seen.sysOk_modifies _ _ _ _ ?_
        | exact Seen.sysOk_loads _ _ _ _ Eff.none_sysOk
        | exact Seen.sysOk_stores _ _ _ Eff.none_sysOk
        | split)) h

theorem execQpostPip_ok (c : CoreSel) (i : CoreWord) (s : State) :
    memsOk s.mems → ∀ t, execQpostPip c i s = .next t → memsOk t.mems := by
  intro h t ht
  cases ht
  refine State.issue_ok _ _ _ (Seen.sysOk_qpost 0) h

theorem execQpostVoice_ok (c : CoreSel) (i : CoreWord) (s : State) :
    memsOk s.mems → ∀ t, execQpostVoice c i s = .next t → memsOk t.mems := by
  intro h t ht
  cases ht
  refine State.issue_ok _ _ _ (Seen.sysOk_qpost 1) h

theorem execQpostScene_ok (c : CoreSel) (i : CoreWord) (s : State) :
    memsOk s.mems → ∀ t, execQpostScene c i s = .next t → memsOk t.mems := by
  intro h t ht
  cases ht
  refine State.issue_ok _ _ _ (Seen.sysOk_qpost 2) h

theorem execQdone_ok (c : CoreSel) (i : CoreWord) (s : State) :
    memsOk s.mems → ∀ t, execQdone c i s = .next t → memsOk t.mems := by
  intro h t ht
  cases ht
  refine State.issue_ok _ _ _ (fun x => by
    unfold Seen.opQdone
    repeat' (first
        | exact Act.sysOk_viol _ _
        | exact Act.sysOk_wait
        | exact sysOk_results _
        | exact Seen.sysOk_compute _ _
        | exact Seen.sysOk_vectorOnly _ _
        | exact Seen.sysOk_move _
        | exact Seen.sysOk_illop _
        | exact Seen.sysOk_jump _ _ _ _
        | exact Seen.sysOk_loopOf _ _
        | refine Act.sysOk_bank ?_ _
        | refine Act.sysOk_wr ?_ _
        | exact Seen.sysOk_rdsys _ _
        | refine Seen.sysOk_modifies _ _ _ _ ?_
        | exact Seen.sysOk_loads _ _ _ _ Eff.none_sysOk
        | exact Seen.sysOk_stores _ _ _ Eff.none_sysOk
        | split)) h

theorem execVmrptLevel_ok (c : CoreSel) (i : CoreWord) (s : State) :
    memsOk s.mems → ∀ t, execVmrptLevel c i s = .next t → memsOk t.mems := by
  intro h t ht
  cases ht
  refine State.issue_ok _ _ _ (fun x => x.sysOk_report _) h

theorem execVmrptEnded_ok (c : CoreSel) (i : CoreWord) (s : State) :
    memsOk s.mems → ∀ t, execVmrptEnded c i s = .next t → memsOk t.mems := by
  intro h t ht
  cases ht
  refine State.issue_ok _ _ _ (fun x => x.sysOk_report _) h

theorem execFence_ok (c : CoreSel) (i : CoreWord) (s : State) :
    memsOk s.mems → ∀ t, execFence c i s = .next t → memsOk t.mems := by
  intro h t ht
  cases ht
  refine State.issue_ok _ _ _ (fun x => by
    unfold Seen.opFence
    repeat' (first
        | exact Act.sysOk_viol _ _
        | exact Act.sysOk_wait
        | exact sysOk_results _
        | exact Seen.sysOk_compute _ _
        | exact Seen.sysOk_vectorOnly _ _
        | exact Seen.sysOk_move _
        | exact Seen.sysOk_illop _
        | exact Seen.sysOk_jump _ _ _ _
        | exact Seen.sysOk_loopOf _ _
        | refine Act.sysOk_bank ?_ _
        | refine Act.sysOk_wr ?_ _
        | exact Seen.sysOk_rdsys _ _
        | refine Seen.sysOk_modifies _ _ _ _ ?_
        | exact Seen.sysOk_loads _ _ _ _ Eff.none_sysOk
        | exact Seen.sysOk_stores _ _ _ Eff.none_sysOk
        | split)) h

theorem execSwi_ok (c : CoreSel) (i : CoreWord) (s : State) :
    memsOk s.mems → ∀ t, execSwi c i s = .next t → memsOk t.mems := by
  intro h t ht
  cases ht
  refine State.issue_ok _ _ _ (Seen.sysOk_opSwi) h

theorem execRdsysTime_ok (c : CoreSel) (i : CoreWord) (s : State) :
    memsOk s.mems → ∀ t, execRdsysTime c i s = .next t → memsOk t.mems := by
  intro h t ht
  cases ht
  refine State.issue_ok _ _ _ (fun x => by
    unfold Seen.opRdsysTime
    repeat' (first
        | exact Act.sysOk_viol _ _
        | exact Act.sysOk_wait
        | exact sysOk_results _
        | exact Seen.sysOk_compute _ _
        | exact Seen.sysOk_vectorOnly _ _
        | exact Seen.sysOk_move _
        | exact Seen.sysOk_illop _
        | exact Seen.sysOk_jump _ _ _ _
        | exact Seen.sysOk_loopOf _ _
        | refine Act.sysOk_bank ?_ _
        | refine Act.sysOk_wr ?_ _
        | exact Seen.sysOk_rdsys _ _
        | refine Seen.sysOk_modifies _ _ _ _ ?_
        | exact Seen.sysOk_loads _ _ _ _ Eff.none_sysOk
        | exact Seen.sysOk_stores _ _ _ Eff.none_sysOk
        | split)) h

theorem execRdsysIdent_ok (c : CoreSel) (i : CoreWord) (s : State) :
    memsOk s.mems → ∀ t, execRdsysIdent c i s = .next t → memsOk t.mems := by
  intro h t ht
  cases ht
  refine State.issue_ok _ _ _ (fun x => by
    unfold Seen.opRdsysIdent
    repeat' (first
        | exact Act.sysOk_viol _ _
        | exact Act.sysOk_wait
        | exact sysOk_results _
        | exact Seen.sysOk_compute _ _
        | exact Seen.sysOk_vectorOnly _ _
        | exact Seen.sysOk_move _
        | exact Seen.sysOk_illop _
        | exact Seen.sysOk_jump _ _ _ _
        | exact Seen.sysOk_loopOf _ _
        | refine Act.sysOk_bank ?_ _
        | refine Act.sysOk_wr ?_ _
        | exact Seen.sysOk_rdsys _ _
        | refine Seen.sysOk_modifies _ _ _ _ ?_
        | exact Seen.sysOk_loads _ _ _ _ Eff.none_sysOk
        | exact Seen.sysOk_stores _ _ _ Eff.none_sysOk
        | split)) h

theorem execRdsysState_ok (c : CoreSel) (i : CoreWord) (s : State) :
    memsOk s.mems → ∀ t, execRdsysState c i s = .next t → memsOk t.mems := by
  intro h t ht
  cases ht
  refine State.issue_ok _ _ _ (fun x => by
    unfold Seen.opRdsysState
    repeat' (first
        | exact Act.sysOk_viol _ _
        | exact Act.sysOk_wait
        | exact sysOk_results _
        | exact Seen.sysOk_compute _ _
        | exact Seen.sysOk_vectorOnly _ _
        | exact Seen.sysOk_move _
        | exact Seen.sysOk_illop _
        | exact Seen.sysOk_jump _ _ _ _
        | exact Seen.sysOk_loopOf _ _
        | refine Act.sysOk_bank ?_ _
        | refine Act.sysOk_wr ?_ _
        | exact Seen.sysOk_rdsys _ _
        | refine Seen.sysOk_modifies _ _ _ _ ?_
        | exact Seen.sysOk_loads _ _ _ _ Eff.none_sysOk
        | exact Seen.sysOk_stores _ _ _ Eff.none_sysOk
        | split)) h

theorem execRdsysRate_ok (c : CoreSel) (i : CoreWord) (s : State) :
    memsOk s.mems → ∀ t, execRdsysRate c i s = .next t → memsOk t.mems := by
  intro h t ht
  cases ht
  refine State.issue_ok _ _ _ (fun x => by
    unfold Seen.opRdsysRate
    repeat' (first
        | exact Act.sysOk_viol _ _
        | exact Act.sysOk_wait
        | exact sysOk_results _
        | exact Seen.sysOk_compute _ _
        | exact Seen.sysOk_vectorOnly _ _
        | exact Seen.sysOk_move _
        | exact Seen.sysOk_illop _
        | exact Seen.sysOk_jump _ _ _ _
        | exact Seen.sysOk_loopOf _ _
        | refine Act.sysOk_bank ?_ _
        | refine Act.sysOk_wr ?_ _
        | exact Seen.sysOk_rdsys _ _
        | refine Seen.sysOk_modifies _ _ _ _ ?_
        | exact Seen.sysOk_loads _ _ _ _ Eff.none_sysOk
        | exact Seen.sysOk_stores _ _ _ Eff.none_sysOk
        | split)) h

theorem execRdsysDma_ok (c : CoreSel) (i : CoreWord) (s : State) :
    memsOk s.mems → ∀ t, execRdsysDma c i s = .next t → memsOk t.mems := by
  intro h t ht
  cases ht
  refine State.issue_ok _ _ _ (fun x => by
    unfold Seen.opRdsysDma
    repeat' (first
        | exact Act.sysOk_viol _ _
        | exact Act.sysOk_wait
        | exact sysOk_results _
        | exact Seen.sysOk_compute _ _
        | exact Seen.sysOk_vectorOnly _ _
        | exact Seen.sysOk_move _
        | exact Seen.sysOk_illop _
        | exact Seen.sysOk_jump _ _ _ _
        | exact Seen.sysOk_loopOf _ _
        | refine Act.sysOk_bank ?_ _
        | refine Act.sysOk_wr ?_ _
        | exact Seen.sysOk_rdsys _ _
        | refine Seen.sysOk_modifies _ _ _ _ ?_
        | exact Seen.sysOk_loads _ _ _ _ Eff.none_sysOk
        | exact Seen.sysOk_stores _ _ _ Eff.none_sysOk
        | split)) h

theorem execIllegalInstruction_ok (c : _) (op : _) (i : _) (s : State) : memsOk s.mems → ∀ t,
    execIllegalInstruction c op i s = .next t → memsOk t.mems := by
  intro h t ht
  cases ht
  split
  · exact State.issue_ok _ _ _ (fun x => x.sysOk_illegal _) h
  · exact h

theorem execStewardSwiWait_ok (i : _) (s : State) : memsOk s.mems → ∀ t, execStewardSwiWait i s = .next t →
    memsOk t.mems := by
  intro h t ht
  cases ht
  exact State.issue_ok _ _ _ Seen.sysOk_opStewardWait h

theorem State.dmaFinds_ok (s : State) (n : _) (d : _) (e : _) : memsOk s.mems →
    memsOk (State.dmaFinds s n d e).mems := by
  intro h
  unfold State.dmaFinds
  repeat' (first | assumption | exact State.upsetWord_ok _ _ _ _ h | split)

theorem State.dmaDone_ok (s : State) (n : _) (ch : _) (e : _) : memsOk s.mems →
    memsOk (State.dmaDone s n ch e).mems := by
  intro h
  unfold State.dmaDone
  dsimp only
  split
  · exact h
  · rename_i d _
    split
    · exact h
    · have h1 : ∀ k, memsOk ((s.dmaFinds n d e).dmaMove n ch d k).mems := fun k =>
        State.dmaMove_ok _ _ _ _ _ (State.dmaFinds_ok _ _ _ _ h)
      split
      · exact h1 _
      · split
        · rw [State.meetDmem_mems]; exact h1 _
        · split
          · exact h1 _
          · rw [State.coreViolation_mems]; exact h1 _

theorem execDma_ok (c : CoreSel) (i : CoreWord) (s : State) :
    memsOk s.mems → ∀ t, execDma c i s = .next t → memsOk t.mems := by
  intro h t ht
  cases ht
  refine State.issue_ok _ _ _ (Seen.sysOk_opDma) h

theorem execDmaw_ok (c : CoreSel) (i : CoreWord) (s : State) :
    memsOk s.mems → ∀ t, execDmaw c i s = .next t → memsOk t.mems := by
  intro h t ht
  cases ht
  refine State.issue_ok _ _ _ (fun x => by
    unfold Seen.opDmaw
    dsimp only
    repeat' (first
        | exact Act.sysOk_viol _ _
        | exact Act.sysOk_wait
        | exact sysOk_results _
        | exact Seen.sysOk_compute _ _
        | exact Seen.sysOk_vectorOnly _ _
        | exact Seen.sysOk_move _
        | exact Seen.sysOk_illop _
        | exact Seen.sysOk_jump _ _ _ _
        | exact Seen.sysOk_loopOf _ _
        | refine Act.sysOk_bank ?_ _
        | refine Act.sysOk_wr ?_ _
        | exact Seen.sysOk_rdsys _ _
        | refine Seen.sysOk_modifies _ _ _ _ ?_
        | exact Seen.sysOk_loads _ _ _ _ Eff.none_sysOk
        | exact Seen.sysOk_stores _ _ _ Eff.none_sysOk
        | split)) h

theorem execDmaDescriptorDone_ok (c : _) (ch : _) (e : _) (s : State) : memsOk s.mems → ∀ t,
    execDmaDescriptorDone c ch e s = .next t → memsOk t.mems := by
  intro h t ht
  cases ht
  repeat' (first
      | assumption
      | refine State.dmaDone_ok _ _ _ _ (State.disturb_ok _ _ ?_)
      | simp only [↓mems_ite, ↓mems_mk, mems_eta, State.dmaDone_ok, ite_self, implies_true, id_eq, h]
      | split)

theorem State.linkWr_ok (s : State) (a : _) (w : _) : memsOk s.mems → memsOk (State.linkWr s a w).mems := by
  intro h
  unfold State.linkWr
  repeat' (first
      | assumption
      | refine State.regWrite_ok _ _ _ _ ?_
      | simp only [↓mems_ite, ↓mems_mk, mems_eta, ↓State.sayErr_mems, ↓State.sayErrWord_mems, ↓State.sayOk_mems,
          State.regWrite_ok, ite_self, implies_true, id_eq, h]
      | split)

theorem State.linkRecover_ok (s : State) : memsOk s.mems → memsOk (State.linkRecover s).mems := by
  intro h
  unfold State.linkRecover
  repeat' (first
      | assumption
      | refine State.warmReset_ok _ _ _ ?_
      | simp only [↓mems_ite, ↓mems_mk, mems_eta, ↓State.sayErrWord_mems, State.warmReset_ok,
          ↓State.enterRecovery_mems, ite_self, implies_true, id_eq, h]
      | split)

theorem State.linkLine_hok (s : State) (go : _) (hok : memsOk s.mems) (hf : ∀ x : State, memsOk x.mems →
    memsOk (go x).mems) :
    memsOk (State.linkLine s go).mems := by
  unfold State.linkLine
  repeat' (first
      | assumption
      | (refine hf _ ?_)
      | simp only [↓mems_ite, ↓mems_mk, mems_eta, ↓State.set_mems, hok, ite_self]
      | split)

theorem execWr_ok (addr : _) (w : _) (s : State) : memsOk s.mems → ∀ t, execWr addr w s = .next t →
    memsOk t.mems := by
  intro h t ht
  cases ht
  repeat' (first
      | assumption
      | refine State.linkLine_hok _ _ ?_ (fun x h => ?_)
      | refine State.linkWr_ok _ _ _ ?_
      | simp only [↓mems_ite, ↓mems_mk, mems_eta, ↓State.linkLine_mems, State.linkWr_ok, ite_self, implies_true,
          id_eq, h]
      | split)

theorem execUpdCommit_ok (s : State) : memsOk s.mems → ∀ t, execUpdCommit s = .next t → memsOk t.mems := by
  intro h t ht
  cases ht
  repeat' (first
      | assumption
      | refine State.linkLine_hok _ _ ?_ (fun x h => ?_)
      | refine State.trialSet_ok _ _ _ ?_
      | simp only [↓mems_ite, ↓mems_mk, mems_eta, ↓State.linkLine_mems, ↓State.sayCfg_mems, State.trialSet_ok,
          ite_self, implies_true, id_eq, h]
      | split)

theorem execRecover_ok (s : State) : memsOk s.mems → ∀ t, execRecover s = .next t → memsOk t.mems := by
  intro h t ht
  cases ht
  repeat' (first
      | assumption
      | refine State.linkLine_hok _ _ ?_ (fun x h => ?_)
      | refine State.linkRecover_ok _ ?_
      | simp only [↓mems_ite, ↓mems_mk, mems_eta, ↓State.linkLine_mems, State.linkRecover_ok, ite_self,
          implies_true, id_eq, h]
      | split)

theorem State.moveBlocks_ok (s : State) (k : _) : memsOk s.mems → memsOk (State.moveBlocks s k).mems :=
  memsOk_of (State.moveBlocks_mems _ _)

theorem State.tickWork_ok (s : State) (k : _) : memsOk s.mems → memsOk (State.tickWork s k).mems := by
  intro h
  unfold State.tickWork
  extract_lets s1 s2 s3 s4
  have h1 : memsOk s1.mems := memsOk_of ((State.moveBlocks_mems _ _).trans (State.raise_mems _ _)) h
  have h2 : memsOk s2.mems := memsOk_of (State.copyTick_mems _) (memsOk_ite _ h1 (State.releaseItems_ok _ h1))
  have h3 : memsOk s3.mems := memsOk_of ((State.creditsZero_mems _).trans (State.withdrawGraph_mems _)) h2
  have h4 : memsOk s4.mems := memsOk_ite _ (memsOk_of (State.rearmTick_mems _) h3) h3
  rw [State.latchLoads_mems, State.statusMissing_mems, State.hbTick_mems, State.wiperPosts_mems, State.trimCurves_mems]
  exact h4

theorem State.tickHere_ok (s : State) : memsOk s.mems → memsOk (State.tickHere s).mems := by
  intro h
  unfold State.tickHere
  refine State.tickWork_ok _ _ ?_
  rw [State.tmFire_mems, State.set_mems]
  exact h

theorem State.blockTick_ok (s : State) : memsOk s.mems → memsOk (State.blockTick s).mems := by
  intro h
  unfold State.blockTick
  dsimp only
  split
  · refine State.tickHere_ok _ (State.advance_ok _ _ ?_)
    rw [State.checkWithin_mems]; exact h
  · exact h

theorem State.idle_ok (s : State) : memsOk s.mems → memsOk (State.idle s).mems := by
  intro h
  unfold State.idle
  dsimp only
  split
  · split
    · exact State.tickHere_ok _ h
    · have h1 : memsOk ((s.checkWithin 1).advance 1).mems := State.advance_ok _ _ (by rw [State.checkWithin_mems]; exact h)
      exact memsOk_ite _ (State.tickHere_ok _ h1) h1
  · rw [State.holdTime_mems]; exact h

theorem execBlockTick_ok (s : State) : memsOk s.mems → ∀ t, execBlockTick s = .next t → memsOk t.mems := by
  intro h t ht
  cases ht
  exact State.blockTick_ok _ h

theorem execDeadlineCheck_ok (s : State) : memsOk s.mems → ∀ t, execDeadlineCheck s = .next t → memsOk t.mems := by
  intro h t ht
  cases ht
  exact State.deadlineCheck_ok _ h

theorem execOrcOwnWrite_ok (m : _) (n : _) (owner : _) (s : State) : memsOk s.mems → ∀ t,
    execOrcOwnWrite m n owner s = .next t → memsOk t.mems := by
  intro h t ht
  cases ht
  exact State.guardWrite_hok _ _ _ _ _ h (fun x h => State.handOver_ok _ _ _ _ h)

theorem execHandoverDrainComplete_ok (n : _) (s : State) : memsOk s.mems → ∀ t,
    execHandoverDrainComplete n s = .next t → memsOk t.mems := by
  intro h t ht
  cases ht
  exact State.pcieDrain_ok _ (memsOk_of (State.handoverDone_mems _ _) h)

end Sys2Proof.Machine
end

