-- ==== Sys2Proof/Laws/Regs.lean ====
section
/-! SUPPORT. The laws of register fields: what a field reads after a write, and which fields a change leaves alone. -/

namespace Sys2Proof.Machine

namespace State

/-- A field reads what was written to it last, cut to its width. -/
@[simp] theorem get_set_same (s : State) (f : Fld) (v : Nat) : (s.set f v).get f = v % 2 ^ f.width :=
  tabGet_set_same _ _ _ _ _

/-- A write of one field leaves every other field alone. -/
theorem get_set_ne (s : State) {f g : Fld} (v : Nat) (h : (g.id, g.ix) ≠ (f.id, f.ix)) : (s.set f v).get g = s.get g := by
  unfold set get tabSet
  dsimp only
  split
  · exact tabGet_del_ne _ _ h
  · rw [tabGet_ins_ne _ _ _ _ h, tabGet_del_ne _ _ h]

/-- A write of a field leaves the fields of every other register place alone, whatever their index. -/
theorem get_set_other (s : State) {f g : Fld} (v : Nat) (h : (g.id == f.id) = false) : (s.set f v).get g = s.get g :=
  s.get_set_ne v (fun e => by
    have h1 : g.id = f.id := congrArg Prod.fst e
    simp [h1] at h)

/-- A write of a field leaves the same field of every other index alone. -/
theorem get_set_index (s : State) {f g : Fld} (v : Nat) (h : g.ix ≠ f.ix) : (s.set f v).get g = s.get g :=
  s.get_set_ne v (fun e => h (congrArg Prod.snd e))

theorem get_put_same (s : State) (f : Fld) (w : Nat) : (s.put f w).get f = f.of w := by
  simp [put, Fld.of]

theorem get_put_ne (s : State) {f g : Fld} (w : Nat) (h : (g.id, g.ix) ≠ (f.id, f.ix)) : (s.put f w).get g = s.get g :=
  s.get_set_ne _ h

theorem get_flag_same (s : State) (f : Fld) (b : Bool) (h : 0 < f.width) : (s.flag f b).get f = b2n b := by
  rw [flag, get_set_same]
  refine Nat.mod_eq_of_lt (Nat.lt_of_lt_of_le ?_ (Nat.pow_le_pow_right (by decide : 0 < 2) h))
  cases b <;> decide

/-- A counter never passes the top of its width (R13). -/
theorem get_bump_same (s : State) (f : Fld) (n : Nat) : (s.bump f n).get f = min (s.get f + n) (2 ^ f.width - 1) := by
  rw [bump, get_set_same]
  have := Nat.two_pow_pos f.width
  exact Nat.mod_eq_of_lt (by omega)

/-- The fields' values decide the same flags. -/
theorem on_of_get {s t : State} {f : Fld} (h : t.get f = s.get f) : t.on f = s.on f := by rw [on, on, h]

/-! ### Changes of some fields only -/

theorem OnlyRegs.refl (s : State) (fs : List Fld) : s.OnlyRegs s fs := ⟨rfl, fun _ _ => rfl⟩

theorem OnlyRegs.set (s : State) (f : Fld) (v : Nat) : s.OnlyRegs (s.set f v) [f] :=
  ⟨rfl, fun _ h => s.get_set_ne v (by simpa using h)⟩

theorem OnlyRegs.trans {s t u : State} {fs gs : List Fld} (h : s.OnlyRegs t fs) (k : t.OnlyRegs u gs) :
    s.OnlyRegs u (fs ++ gs) := by
  refine ⟨?_, fun f hf => ?_⟩
  · rw [k.1, h.1]
  · rw [List.map_append, List.mem_append, not_or] at hf
    rw [k.2 f hf.2, h.2 f hf.1]

theorem OnlyRegs.mono {s t : State} {fs gs : List Fld} (h : s.OnlyRegs t fs)
    (hs : ∀ f ∈ fs, (f.id, f.ix) ∈ gs.map (fun g => (g.id, g.ix))) : s.OnlyRegs t gs := by
  refine ⟨h.1, fun f hf => h.2 f (fun hm => hf ?_)⟩
  obtain ⟨g, hg, he⟩ := List.mem_map.mp hm
  rw [← he]
  exact hs g hg

/-- One more write of a listed field. -/
theorem OnlyRegs.thenSet {s t : State} {fs : List Fld} (h : s.OnlyRegs t fs) {f : Fld} (hf : f ∈ fs) (v : Nat) :
    s.OnlyRegs (t.set f v) fs := by
  refine ⟨?_, fun g hg => ?_⟩
  · rw [State.set, h.1]
  · have hn : (g.id, g.ix) ≠ (f.id, f.ix) := fun e => hg (by rw [e]; exact List.mem_map.mpr ⟨f, hf, rfl⟩)
    rw [get_set_ne t v hn, h.2 g hg]

/-- Writes of listed fields, one after another. -/
theorem OnlyRegs.thenFold {α : Type} {s : State} {fs : List Fld} {g : State → α → State} (l : List α)
    (hg : ∀ t x, x ∈ l → s.OnlyRegs t fs → s.OnlyRegs (g t x) fs) {t : State} (h : s.OnlyRegs t fs) :
    s.OnlyRegs (l.foldl g t) fs := by
  induction l generalizing t with
  | nil => exact h
  | cons x l ih =>
    exact ih (fun t y hy => hg t y (List.mem_cons_of_mem _ hy)) (hg t x List.mem_cons_self h)

theorem OnlyRegs.ev {s t : State} {fs : List Fld} (h : s.OnlyRegs t fs) : s.OnlyRegsEv t fs := by
  refine ⟨?_, h.2⟩
  rw [h.1]

theorem OnlyRegsEv.refl (s : State) (fs : List Fld) : s.OnlyRegsEv s fs := (OnlyRegs.refl s fs).ev

theorem OnlyRegsEv.thenSet {s t : State} {fs : List Fld} (h : s.OnlyRegsEv t fs) {f : Fld} (hf : f ∈ fs) (v : Nat) :
    s.OnlyRegsEv (t.set f v) fs := by
  refine ⟨?_, fun g hg => ?_⟩
  · rw [State.set, h.1]
  · have hn : (g.id, g.ix) ≠ (f.id, f.ix) := fun e => hg (by rw [e]; exact List.mem_map.mpr ⟨f, hf, rfl⟩)
    rw [get_set_ne t v hn, h.2 g hg]

theorem OnlyRegsEv.thenFold {α : Type} {s : State} {fs : List Fld} {g : State → α → State} (l : List α)
    (hg : ∀ t x, x ∈ l → s.OnlyRegsEv t fs → s.OnlyRegsEv (g t x) fs) {t : State} (h : s.OnlyRegsEv t fs) :
    s.OnlyRegsEv (l.foldl g t) fs := by
  induction l generalizing t with
  | nil => exact h
  | cons x l ih =>
    exact ih (fun t y hy => hg t y (List.mem_cons_of_mem _ hy)) (hg t x List.mem_cons_self h)

theorem OnlyRegsEv.trans {s t u : State} {fs gs : List Fld} (h : s.OnlyRegsEv t fs) (k : t.OnlyRegsEv u gs) :
    s.OnlyRegsEv u (fs ++ gs) := by
  refine ⟨?_, fun f hf => ?_⟩
  · rw [k.1, h.1]
  · rw [List.map_append, List.mem_append, not_or] at hf
    rw [k.2 f hf.2, h.2 f hf.1]

theorem OnlyRegsEv.mono {s t : State} {fs gs : List Fld} (h : s.OnlyRegsEv t fs)
    (hs : ∀ f ∈ fs, (f.id, f.ix) ∈ gs.map (fun g => (g.id, g.ix))) : s.OnlyRegsEv t gs := by
  refine ⟨h.1, fun f hf => h.2 f (fun hm => hf ?_)⟩
  obtain ⟨g, hg, he⟩ := List.mem_map.mp hm
  rw [← he]
  exact hs g hg

theorem OnlyRegsEv.notify (s : State) (n : Nat) (b : Bool) : s.OnlyRegsEv (s.notify n b) [] := by
  unfold State.notify
  split
  · exact (OnlyRegs.refl s []).ev
  · exact ⟨rfl, fun _ _ => rfl⟩

/-- A raised event sets its cause bits and may make a delivery due; nothing else changes. -/
theorem OnlyRegsEv.raiseBits (s : State) (n c : Nat) {f : Fld} {m : Nat} (h : evCause n = some (f, m)) :
    s.OnlyRegsEv (s.raiseBits n c) [f] := by
  unfold State.raiseBits
  rw [h]
  exact (OnlyRegs.set s f _).ev.trans (OnlyRegsEv.notify _ _ _)

theorem OnlyRegsEv.thenNotify {s t : State} {fs : List Fld} (h : s.OnlyRegsEv t fs) (n : Nat) (b : Bool) :
    s.OnlyRegsEv (t.notify n b) fs := by
  unfold State.notify
  split
  · exact h
  · exact ⟨by rw [h.1], fun g hg => h.2 g hg⟩

/-- One more event raised, its status field among those listed. -/
theorem OnlyRegsEv.thenRaiseBits {s t : State} {fs : List Fld} (h : s.OnlyRegsEv t fs) {n : Nat} {f : Fld} {m : Nat}
    (he : evCause n = some (f, m)) (hf : f ∈ fs) (c : Nat) : s.OnlyRegsEv (t.raiseBits n c) fs := by
  unfold State.raiseBits
  rw [he]
  exact (h.thenSet hf _).thenNotify _ _

theorem OnlyRegsEv.thenRaise {s t : State} {fs : List Fld} (h : s.OnlyRegsEv t fs) {n : Nat} {f : Fld} {m : Nat}
    (he : evCause n = some (f, m)) (hf : f ∈ fs) : s.OnlyRegsEv (t.raise n) fs := by
  unfold State.raise
  rw [he]
  exact h.thenRaiseBits he hf _

theorem get_notify (s : State) (n : Nat) (b : Bool) (f : Fld) : (s.notify n b).get f = s.get f := by
  unfold notify
  split <;> rfl

theorem get_raiseBits_same (s : State) (n c : Nat) {f : Fld} {m : Nat} (h : evCause n = some (f, m)) :
    (s.raiseBits n c).get f = (s.get f ||| c) % 2 ^ f.width := by
  unfold raiseBits
  rw [h]
  simp [get_notify]

theorem get_raiseBits_ne (s : State) (n c : Nat) {f g : Fld} {m : Nat} (h : evCause n = some (f, m))
    (hg : (g.id, g.ix) ≠ (f.id, f.ix)) : (s.raiseBits n c).get g = s.get g := by
  unfold raiseBits
  rw [h]
  simp only [get_notify]
  exact get_set_ne _ _ hg

theorem get_raise_same (s : State) (n : Nat) {f : Fld} {m : Nat} (h : evCause n = some (f, m)) :
    (s.raise n).get f = (s.get f ||| m) % 2 ^ f.width := by
  unfold raise
  rw [h]
  exact s.get_raiseBits_same n m h

theorem get_raise_ne (s : State) (n : Nat) {f g : Fld} {m : Nat} (h : evCause n = some (f, m))
    (hg : (g.id, g.ix) ≠ (f.id, f.ix)) : (s.raise n).get g = s.get g := by
  unfold raise
  rw [h]
  exact s.get_raiseBits_ne n m h hg

theorem get_raiseBits_other (s : State) (n c : Nat) {f g : Fld} {m : Nat} (h : evCause n = some (f, m))
    (hg : (g.id == f.id) = false) : (s.raiseBits n c).get g = s.get g := by
  unfold raiseBits
  rw [h]
  simp only [get_notify]
  exact get_set_other _ _ hg

theorem get_raise_other (s : State) (n : Nat) {f g : Fld} {m : Nat} (h : evCause n = some (f, m))
    (hg : (g.id == f.id) = false) : (s.raise n).get g = s.get g := by
  unfold raise
  rw [h]
  exact s.get_raiseBits_other n m h hg

/-! ### A register write under the rules of its master -/

/-- A write that is performed at once is its effect. -/
theorem guardWrite_performs {s : State} {m : Master} {addr : Nat} (h : s.performs m addr = true) (w : Nat)
    (eff : State → State) : s.guardWrite m addr w eff = eff s := by
  unfold performs at h
  simp only [Bool.and_eq_true, Bool.not_eq_true', Bool.and_eq_false_imp, Bool.or_eq_false_iff] at h
  obtain ⟨⟨⟨h1, h2⟩, h3⟩, h4⟩ := h
  unfold guardWrite
  cases hm : decide (m = .pcie) <;> cases hf : s.isFrozen m.id <;> cases hh : isHost m <;> cases hp : pairLocal addr <;>
    simp_all

/-- A read that is answered at once is its effect, with the port's answer. -/
theorem guardRead_reads {s : State} {m : Master} {addr : Nat} (h : s.reads m addr = true) (eff : State → State) :
    s.guardRead m addr eff = eff (s.answerRead m false) := by
  unfold reads at h
  unfold guardRead
  cases hm : decide (m = .pcie) <;> cases hf : s.isFrozen m.id <;> cases hh : isHost m <;> simp_all

/-! ### Changes of one index after another -/

theorem get_foldl_keep {α : Type} {g : State → α → State} (l : List α) {f : Fld} (h : ∀ t x, x ∈ l → (g t x).get f = t.get f)
    (s : State) : (l.foldl g s).get f = s.get f := by
  induction l generalizing s with
  | nil => rfl
  | cons x l ih =>
    rw [List.foldl_cons, ih (fun t y hy => h t y (List.mem_cons_of_mem _ hy)), h s x List.mem_cons_self]

/-- What a change makes true at its own index, under a condition `P` that every change keeps, is true after them all. -/
theorem foldl_reaches {α : Type} [DecidableEq α] {g : State → α → State} {l : List α} {P Q : State → Prop} {k : α} (hk : k ∈ l)
    (hP : ∀ t x, P t → P (g t x)) (hg : ∀ t, P t → Q (g t k)) (hQ : ∀ t x, x ≠ k → P t → Q t → Q (g t x)) {s : State}
    (h : P s) : Q (l.foldl g s) := by
  have keep : ∀ (l : List α) (t : State), P t → Q t → Q (l.foldl g t) := by
    intro l
    induction l with
    | nil => exact fun _ _ hq => hq
    | cons x l ih =>
      intro t hp hq
      refine ih _ (hP t x hp) ?_
      by_cases hx : x = k
      · rw [hx]
        exact hg t hp
      · exact hQ t x hx hp hq
  induction l generalizing s with
  | nil => cases hk
  | cons x l ih =>
    rcases List.mem_cons.mp hk with rfl | hk
    · exact keep l _ (hP s k h) (hg s h)
    · exact ih hk (hP s x h)

/-- The same field written at each of several indices leaves other fields alone. -/
theorem get_setEach_other (F : Nat → Fld) (v : State → Nat → Nat) (l : List Nat) (s : State) {g : Fld}
    (h : ∀ k, (g.id == (F k).id) = false) : (l.foldl (fun s k => s.set (F k) (v s k)) s).get g = s.get g :=
  get_foldl_keep l (fun t k _ => get_set_other t _ (h k)) s

/-- It reads, at each index, what was written there, where the value written depends on other fields only. -/
theorem get_setEach_at (F : Nat → Fld) (v : State → Nat → Nat) {l : List Nat} {k : Nat} (hk : k ∈ l) (s : State)
    (hx : ∀ x, x ≠ k → (F k).ix ≠ (F x).ix)
    (hv : ∀ t : State, (∀ g : Fld, (∀ x, (g.id == (F x).id) = false) → t.get g = s.get g) → v t k = v s k) :
    (l.foldl (fun s k => s.set (F k) (v s k)) s).get (F k) = v s k % 2 ^ (F k).width := by
  refine foldl_reaches (P := fun t => ∀ g : Fld, (∀ x, (g.id == (F x).id) = false) → t.get g = s.get g)
    (Q := fun t => t.get (F k) = v s k % 2 ^ (F k).width) hk ?_ ?_ ?_ (fun _ _ => rfl)
  · intro t x ht g hg
    rw [get_set_other _ _ (hg x), ht g hg]
  · intro t ht
    rw [get_set_same, hv t ht]
  · intro t x hne _ hq
    rw [get_set_index _ _ (hx x hne), hq]

theorem get_claimAll_other (s : State) (fid : Nat) (l : List Nat) {g : Fld}
    (h : (g.id == (F.SYS_CLAIM_OWNER 0).id) = false) : (s.claimAll fid l).get g = s.get g :=
  get_setEach_other F.SYS_CLAIM_OWNER (fun _ _ => fid) l s (fun _ => h)

/-- Every slot claimed is the claimer's. -/
theorem get_claimAll_at (s : State) (fid : Nat) {l : List Nat} {k : Nat} (h : k ∈ l) :
    (s.claimAll fid l).get (F.SYS_CLAIM_OWNER k) = fid % 2 ^ 16 :=
  get_setEach_at F.SYS_CLAIM_OWNER (fun _ _ => fid) h s (fun _ hx => Ne.symm hx) (fun _ _ => rfl)

theorem OnlyRegs.thenClaimAll {s t : State} {fs : List Fld} (h : s.OnlyRegs t fs) (fid : Nat) (l : List Nat)
    (hl : ∀ k ∈ l, F.SYS_CLAIM_OWNER k ∈ fs) : s.OnlyRegs (t.claimAll fid l) fs :=
  OnlyRegs.thenFold l (fun _ x hx ht => ht.thenSet (hl x hx) _) h

/-- A claim request that no slot bars takes all its slots (R33). -/
theorem withClaims_free {s : State} {fid : Nat} {slots : List Nat} (h : s.claimBar fid slots = none) (status : Fld)
    (go : State → State) : s.withClaims fid slots status go = go (s.claimAll fid slots) := by
  unfold withClaims
  rw [h]

theorem get_unclaim_other (s : State) (fid : Nat) (l : List Nat) {g : Fld}
    (h : (g.id == (F.SYS_CLAIM_OWNER 0).id) = false) : (s.unclaim fid l).get g = s.get g := by
  refine get_foldl_keep l (fun t k _ => ?_) s
  split
  · exact get_set_other t _ h
  · rfl

/-- No slot released is the releaser's any more. -/
theorem get_unclaim_at (s : State) {fid : Nat} (hf : fid ≠ 0) {l : List Nat} {k : Nat} (h : k ∈ l) :
    (s.unclaim fid l).get (F.SYS_CLAIM_OWNER k) ≠ fid := by
  refine foldl_reaches (P := fun _ => True) (Q := fun t => t.get (F.SYS_CLAIM_OWNER k) ≠ fid) h (fun _ _ _ => trivial) ?_ ?_
    trivial
  · intro t _
    split
    · rw [get_set_same]
      exact Ne.symm hf
    · assumption
  · intro t x hx _ hq
    split
    · rw [get_set_index _ _ (Ne.symm hx : k ≠ x)]
      exact hq
    · exact hq

theorem OnlyRegsEv.thenUnclaim {s t : State} {fs : List Fld} (h : s.OnlyRegsEv t fs) (fid : Nat) (l : List Nat)
    (hl : ∀ k ∈ l, F.SYS_CLAIM_OWNER k ∈ fs) : s.OnlyRegsEv (t.unclaim fid l) fs := by
  refine OnlyRegsEv.thenFold l (fun _ x hx ht => ?_) h
  split
  · exact ht.thenSet (hl x hx) _
  · exact ht

end State

end Sys2Proof.Machine
end

