-- ==== Sys2Proof/Laws/TickFrames.lean ====
section
/-! SUPPORT. What the work of a tick and of a deadline leaves alone: one lemma for each operation that they use. -/

namespace Sys2Proof.Machine

set_option linter.all false
set_option linter.unusedSimpArgs false

/-- The parts of the state that a tick leaves alone once it has raised event 8. -/
structure TickPart where
  clock : Nat × Nat
  kept : List (Nat × Nat) × List SwiEntry × List (Nat × Uart) × Service × HostPort
  stores : Mem × Flash × Graft × List (Nat × Bool)
  words : Regs × List Latch
  pending : List Instr
  event : Nat
/-- What a tick settles before its units do their work: the frame counter, the queue of commands,
    and the causes of the clock. -/
def State.tickPart (s : State) : TickPart :=
  { clock := (s.frc, s.cclk), kept := (s.stewardQ, s.swiq, s.uarts, s.svc, s.host), stores := (s.dram, s.flash,
      s.graft, s.jtag),
    words := (s.staged, s.latches), pending := s.pending, event := s.get F.CLK_EVT_EVT }
theorem tick_mk (regs frc frcPrev cclk tclk free staged latches toDeliver stewardQ swiq cores orchard dram orcFlaws dramFlaws dirty qn faults vm scn uarts routes hold twin svc host flash graft jtag pending : _) : State.tickPart (State.mk regs frc frcPrev cclk tclk free staged latches toDeliver stewardQ swiq cores orchard dram orcFlaws dramFlaws dirty qn faults vm scn uarts routes hold twin svc host flash graft jtag pending) = ⟨(frc, cclk), (stewardQ, swiq, uarts, svc, host), (dram, flash, graft, jtag), (staged, latches), pending, tabGet F.CLK_EVT_EVT.rst regs (F.CLK_EVT_EVT.id, F.CLK_EVT_EVT.ix)⟩ := Eq.trans rfl rfl
theorem tick_eta (s : State) : (⟨(s.frc, s.cclk), (s.stewardQ, s.swiq, s.uarts, s.svc, s.host), (s.dram, s.flash,
    s.graft, s.jtag), (s.staged, s.latches), s.pending, tabGet F.CLK_EVT_EVT.rst s.regs (F.CLK_EVT_EVT.id,
    F.CLK_EVT_EVT.ix)⟩ : TickPart) = s.tickPart := Eq.trans rfl rfl
theorem tick_ite (c : Prop) [Decidable c] (a b : State) :
    (if c then a else b).tickPart = if c then a.tickPart else b.tickPart := by
  split <;> rfl
theorem tick_foldl {α : Type} (g : State → α → State) (l : List α) (h : ∀ s x, (g s x).tickPart = s.tickPart) (s :
    State) :
    (l.foldl g s).tickPart = s.tickPart := by
  induction l generalizing s with
  | nil => rfl
  | cons x t ih => rw [List.foldl_cons, ih, h]
theorem State.set_tick (s : State) (f : Fld) (v : Nat) (h : (F.CLK_EVT_EVT.id == f.id) = false) :
    (s.set f v).tickPart = s.tickPart := by
  have e := s.get_set_other v h
  unfold State.tickPart
  rw [e]
  rfl
theorem State.notify_tick (s : State) (n : Nat) (b : Bool) : (s.notify n b).tickPart = s.tickPart := by
  unfold State.notify
  split <;> rfl
theorem State.raise_tick (s : State) (n : Nat) (h : ((evCause n).all fun e => !(F.CLK_EVT_EVT.id == e.1.id)) = true) :
    (s.raise n).tickPart = s.tickPart := by
  unfold State.raise State.raiseBits
  rcases he : evCause n with _ | ⟨f, m⟩
  · rfl
  · rw [he] at h
    simp only [Option.all_some, Bool.not_eq_true'] at h
    dsimp only
    rw [State.notify_tick, State.set_tick _ _ _ h]
theorem State.flag_tick (s : State) (f : Fld) (b : Bool) (h : (F.CLK_EVT_EVT.id == f.id) = false) :
    (s.flag f b).tickPart = s.tickPart :=
  s.set_tick f _ h
theorem State.bump_tick (s : State) (f : Fld) (n : Nat) (h : (F.CLK_EVT_EVT.id == f.id) = false) :
    (s.bump f n).tickPart = s.tickPart :=
  s.set_tick f _ h
theorem State.setWords_tick (s : State) (f : Nat → Fld) (ws : List Nat) (h : ∀ k,
    (F.CLK_EVT_EVT.id == (f k).id) = false) :
    (s.setWords f ws).tickPart = s.tickPart := tick_foldl _ _ (fun s x => s.set_tick _ _ (h _)) s

theorem State.setCore_tick (s : State) (n : _) (c : _) : (State.setCore s n c).tickPart = s.tickPart := by
  unfold State.setCore
  repeat' (first
      | with_reducible rfl
      | (with_reducible refine (tick_foldl _ _ (fun s x => ?_) _).trans ?_)
      | simp (disch := first | exact id rfl | (intro k; exact id rfl)) only [↓tick_ite, ↓tick_mk, tick_eta, ite_self,
          implies_true, id_eq]
      | split)

theorem State.setEngine_tick (s : State) (st : _) : (State.setEngine s st).tickPart = s.tickPart := by
  unfold State.setEngine
  repeat' (first
      | with_reducible rfl
      | (with_reducible refine (tick_foldl _ _ (fun s x => ?_) _).trans ?_)
      | simp (disch := first | exact id rfl | (intro k; exact id rfl)) only [↓tick_ite, ↓tick_mk, tick_eta,
          ↓State.set_tick, ↓State.raise_tick, ite_self, implies_true, id_eq]
      | split)

theorem State.mdlEntry_tick (s : State) (fault : _) (unit : _) (inst : _) (perm : _) (action : _) (wcount : _) (detail
    : _) (logical : _) : (State.mdlEntry s fault unit inst perm action wcount detail logical).tickPart = s.tickPart :=
        by
  unfold State.mdlEntry
  repeat' (first
      | with_reducible rfl
      | (with_reducible refine (tick_foldl _ _ (fun s x => ?_) _).trans ?_)
      | simp (disch := first | exact id rfl | (intro k; exact id rfl)) only [↓tick_ite, ↓tick_mk, tick_eta,
          ↓State.setWords_tick, ↓State.set_tick, ↓State.raise_tick, ite_self, implies_true, id_eq]
      | split)

theorem State.mdlFault_tick (s : State) (fault : _) (unit : _) (inst : _) (ok : _) (tact : _) (pact : _) (detail : _)
    (logical : _) : (State.mdlFault s fault unit inst ok tact pact detail logical).tickPart = s.tickPart := by
  unfold State.mdlFault
  repeat' (first
      | with_reducible rfl
      | (with_reducible refine (tick_foldl _ _ (fun s x => ?_) _).trans ?_)
      | simp (disch := first | exact id rfl | (intro k; exact id rfl)) only [↓tick_ite, ↓tick_mk, tick_eta,
          ↓State.mdlEntry_tick, ite_self, implies_true, id_eq]
      | split)

theorem State.sendFrame_tick (s : State) (kind : _) (tick : _) (item : _) (words : _) : (State.sendFrame s kind tick
    item words).tickPart = s.tickPart := by
  unfold State.sendFrame
  repeat' (first
      | with_reducible rfl
      | (with_reducible refine (tick_foldl _ _ (fun s x => ?_) _).trans ?_)
      | simp (disch := first | exact id rfl | (intro k; exact id rfl)) only [↓tick_ite, ↓tick_mk, tick_eta,
          ↓State.set_tick, ite_self, implies_true, id_eq]
      | split)

theorem State.mirror_tick (s : State) (item : _) : (State.mirror s item).tickPart = s.tickPart := by
  unfold State.mirror
  repeat' (first
      | with_reducible rfl
      | (with_reducible refine (tick_foldl _ _ (fun s x => ?_) _).trans ?_)
      | simp (disch := first | exact id rfl | (intro k; exact id rfl)) only [↓tick_ite, ↓tick_mk, tick_eta,
          ↓State.sendFrame_tick, ↓State.set_tick, ite_self, implies_true, id_eq]
      | split)

theorem State.orcWrite_tick (s : State) (cs : _) : (State.orcWrite s cs).tickPart = s.tickPart := by
  unfold State.orcWrite
  repeat' (first
      | with_reducible rfl
      | (with_reducible refine (tick_foldl _ _ (fun s x => ?_) _).trans ?_)
      | simp (disch := first | exact id rfl | (intro k; exact id rfl)) only [↓tick_ite, ↓tick_mk, tick_eta, ite_self,
          implies_true, id_eq]
      | split)

theorem State.checkCores_tick (s : State) (p : _) : (State.checkCores s p).tickPart = s.tickPart := by
  unfold State.checkCores
  repeat' (first
      | with_reducible rfl
      | (with_reducible refine (tick_foldl _ _ (fun s x => ?_) _).trans ?_)
      | simp (disch := first | exact id rfl | (intro k; exact id rfl)) only [↓tick_ite, ↓tick_mk, tick_eta,
          ↓State.raise_tick, ite_self, implies_true, id_eq]
      | split)

theorem State.takeReady_tick (s : State) : (State.takeReady s).tickPart = s.tickPart := by
  unfold State.takeReady
  repeat' (first
      | with_reducible rfl
      | (with_reducible refine (tick_foldl _ _ (fun s x => ?_) _).trans ?_)
      | simp (disch := first | exact id rfl | (intro k; exact id rfl)) only [↓tick_ite, ↓tick_mk, tick_eta,
          ↓State.set_tick, ite_self, implies_true, id_eq]
      | split)

theorem State.makeReady_tick (s : State) (p : _) : (State.makeReady s p).tickPart = s.tickPart := by
  unfold State.makeReady
  repeat' (first
      | with_reducible rfl
      | (with_reducible refine (tick_foldl _ _ (fun s x => ?_) _).trans ?_)
      | simp (disch := first | exact id rfl | (intro k; exact id rfl)) only [↓tick_ite, ↓tick_mk, tick_eta,
          ↓State.set_tick, ↓State.takeReady_tick, ↓State.checkCores_tick, ite_self, implies_true, id_eq]
      | split)

theorem State.dropNext_tick (s : State) (n : _) : (State.dropNext s n).tickPart = s.tickPart := by
  unfold State.dropNext
  repeat' (first
      | with_reducible rfl
      | (with_reducible refine (tick_foldl _ _ (fun s x => ?_) _).trans ?_)
      | simp (disch := first | exact id rfl | (intro k; exact id rfl)) only [↓tick_ite, ↓tick_mk, tick_eta,
          ↓State.setCore_tick, ite_self, implies_true, id_eq]
      | split)

theorem State.disarm_tick (s : State) (gone : ℕ → Bool) : (State.disarm s gone).tickPart = s.tickPart := by
  unfold State.disarm
  repeat' (first
      | with_reducible rfl
      | (with_reducible refine (tick_foldl _ _ (fun s x => ?_) _).trans ?_)
      | simp (disch := first | exact id rfl | (intro k; exact id rfl)) only [↓tick_ite, ↓tick_mk, tick_eta,
          ↓State.set_tick, ite_self, implies_true, id_eq]
      | split)

theorem State.graphLate_tick (s : State) : (State.graphLate s).tickPart = s.tickPart := by
  unfold State.graphLate
  repeat' (first
      | with_reducible rfl
      | (with_reducible refine (tick_foldl _ _ (fun s x => ?_) _).trans ?_)
      | simp (disch := first | exact id rfl | (intro k; exact id rfl)) only [↓tick_ite, ↓tick_mk, tick_eta,
          ↓State.dropNext_tick, ↓State.setCore_tick, ite_self, implies_true, id_eq]
      | split)

theorem State.withdrawGraph_tick (s : State) : (State.withdrawGraph s).tickPart = s.tickPart := by
  unfold State.withdrawGraph
  repeat' (first
      | with_reducible rfl
      | (with_reducible refine (tick_foldl _ _ (fun s x => ?_) _).trans ?_)
      | simp (disch := first | exact id rfl | (intro k; exact id rfl)) only [↓tick_ite, ↓tick_mk, tick_eta,
          ↓State.disarm_tick, ↓State.set_tick, ↓State.graphLate_tick, ite_self, implies_true, id_eq]
      | split)

theorem State.rearm_tick (s : State) (j : _) : (State.rearm s j).tickPart = s.tickPart := by
  unfold State.rearm
  repeat' (first
      | with_reducible rfl
      | (with_reducible refine (tick_foldl _ _ (fun s x => ?_) _).trans ?_)
      | simp (disch := first | exact id rfl | (intro k; exact id rfl)) only [↓tick_ite, ↓tick_mk, tick_eta,
          ↓State.makeReady_tick, ↓State.set_tick, ite_self, implies_true, id_eq]
      | split)

theorem State.setCurve_tick (s : State) (k : _) (c : _) : (State.setCurve s k c).tickPart = s.tickPart := by
  unfold State.setCurve
  repeat' (first
      | with_reducible rfl
      | (with_reducible refine (tick_foldl _ _ (fun s x => ?_) _).trans ?_)
      | simp (disch := first | exact id rfl | (intro k; exact id rfl)) only [↓tick_ite, ↓tick_mk, tick_eta, ite_self,
          implies_true, id_eq]
      | split)

theorem State.refuseCmd_tick (s : State) (reason : _) (src : _) (index : _) : (State.refuseCmd s reason src
    index).tickPart = s.tickPart := by
  unfold State.refuseCmd
  repeat' (first
      | with_reducible rfl
      | (with_reducible refine (tick_foldl _ _ (fun s x => ?_) _).trans ?_)
      | simp (disch := first | exact id rfl | (intro k; exact id rfl)) only [↓tick_ite, ↓tick_mk, tick_eta,
          ↓State.set_tick, ↓State.raise_tick, ite_self, implies_true, id_eq]
      | split)

theorem State.prmSet_tick (s : State) (k : _) (v : _) : (State.prmSet s k v).tickPart = s.tickPart := by
  unfold State.prmSet
  repeat' (first
      | with_reducible rfl
      | (with_reducible refine (tick_foldl _ _ (fun s x => ?_) _).trans ?_)
      | simp (disch := first | exact id rfl | (intro k; exact id rfl)) only [↓tick_ite, ↓tick_mk, tick_eta,
          ↓State.setCurve_tick, ite_self, implies_true, id_eq]
      | split)

theorem State.applyCmd_tick (s : State) (c : _) (extra : _) : (State.applyCmd s c extra).tickPart = s.tickPart := by
  unfold State.applyCmd
  repeat' (first
      | with_reducible rfl
      | (with_reducible refine (tick_foldl _ _ (fun s x => ?_) _).trans ?_)
      | simp (disch := first | exact id rfl | (intro k; exact id rfl)) only [↓tick_ite, ↓tick_mk, tick_eta,
          ↓State.refuseCmd_tick, ↓State.prmSet_tick, ↓State.setCurve_tick, ite_self, implies_true, id_eq]
      | split)

theorem State.applyDue_tick (s : State) : (State.applyDue s).tickPart = s.tickPart := by
  unfold State.applyDue
  repeat' (first
      | with_reducible rfl
      | (with_reducible refine (tick_foldl _ _ (fun s x => ?_) _).trans ?_)
      | simp (disch := first | exact id rfl | (intro k; exact id rfl)) only [↓tick_ite, ↓tick_mk, tick_eta,
          ↓State.applyCmd_tick, ite_self, implies_true, id_eq]
      | split)

theorem State.waitCmd_tick (s : State) (src : _) (w : _) : (State.waitCmd s src w).tickPart = s.tickPart := by
  unfold State.waitCmd
  repeat' (first
      | with_reducible rfl
      | (with_reducible refine (tick_foldl _ _ (fun s x => ?_) _).trans ?_)
      | simp (disch := first | exact id rfl | (intro k; exact id rfl)) only [↓tick_ite, ↓tick_mk, tick_eta, ite_self,
          implies_true, id_eq]
      | split)

theorem State.paramNow_tick (s : State) (src : _) (w : _) : (State.paramNow s src w).tickPart = s.tickPart := by
  unfold State.paramNow
  repeat' (first
      | with_reducible rfl
      | (with_reducible refine (tick_foldl _ _ (fun s x => ?_) _).trans ?_)
      | simp (disch := first | exact id rfl | (intro k; exact id rfl)) only [↓tick_ite, ↓tick_mk, tick_eta,
          ↓State.bump_tick, ↓State.applyDue_tick, ↓State.refuseCmd_tick, ↓State.waitCmd_tick, ↓State.raise_tick,
              ↓State.applyCmd_tick, ite_self, implies_true, id_eq]
      | split)

theorem State.paramCmd_tick (s : State) (src : _) (w : _) : (State.paramCmd s src w).tickPart = s.tickPart := by
  unfold State.paramCmd
  repeat' (first
      | with_reducible rfl
      | (with_reducible refine (tick_foldl _ _ (fun s x => ?_) _).trans ?_)
      | simp (disch := first | exact id rfl | (intro k; exact id rfl)) only [↓tick_ite, ↓tick_mk, tick_eta,
          ↓State.paramNow_tick, ↓State.waitCmd_tick, ite_self, implies_true, id_eq]
      | split)

theorem State.trimCurves_tick (s : State) : (State.trimCurves s).tickPart = s.tickPart := by
  unfold State.trimCurves
  repeat' (first
      | with_reducible rfl
      | (with_reducible refine (tick_foldl _ _ (fun s x => ?_) _).trans ?_)
      | simp (disch := first | exact id rfl | (intro k; exact id rfl)) only [↓tick_ite, ↓tick_mk, tick_eta,
          ↓State.setCurve_tick, ite_self, implies_true, id_eq]
      | split)

theorem State.phSet_tick (s : State) (p : _) (P : _) (D : _) (G : _) : (State.phSet s p P D G).tickPart = s.tickPart :=
    by
  unfold State.phSet
  repeat' (first
      | with_reducible rfl
      | (with_reducible refine (tick_foldl _ _ (fun s x => ?_) _).trans ?_)
      | simp (disch := first | exact id rfl | (intro k; exact id rfl)) only [↓tick_ite, ↓tick_mk, tick_eta,
          ↓State.set_tick, ite_self, implies_true, id_eq]
      | split)

theorem State.phApply_tick (s : State) (w : _) (o : _) : (State.phApply s w o).tickPart = s.tickPart := by
  unfold State.phApply
  dsimp only
  split <;> exact State.phSet_tick _ _ _ _ _

theorem State.phFlush_tick (s : State) : (State.phFlush s).tickPart = s.tickPart := by
  unfold State.phFlush
  repeat' (first
      | with_reducible rfl
      | (with_reducible refine (tick_foldl _ _ (fun s x => ?_) _).trans ?_)
      | simp (disch := first | exact id rfl | (intro k; exact id rfl)) only [↓tick_ite, ↓tick_mk, tick_eta,
          ↓State.phApply_tick, ite_self, implies_true, id_eq]
      | split)

theorem State.phAdvance_tick (s : State) : (State.phAdvance s).tickPart = s.tickPart := by
  unfold State.phAdvance
  repeat' (first
      | with_reducible rfl
      | (with_reducible refine (tick_foldl _ _ (fun s x => ?_) _).trans ?_)
      | simp (disch := first | exact id rfl | (intro k; exact id rfl)) only [↓tick_ite, ↓tick_mk, tick_eta,
          ↓State.phSet_tick, ite_self, implies_true, id_eq]
      | split)

theorem State.setRoute_tick (s : State) (d : _) (r : _) : (State.setRoute s d r).tickPart = s.tickPart := by
  unfold State.setRoute
  repeat' (first
      | with_reducible rfl
      | (with_reducible refine (tick_foldl _ _ (fun s x => ?_) _).trans ?_)
      | simp (disch := first | exact id rfl | (intro k; exact id rfl)) only [↓tick_ite, ↓tick_mk, tick_eta, ite_self,
          implies_true, id_eq]
      | split)

theorem State.takeChange_tick (s : State) (d : _) (S : _) (w : _) (m : _) : (State.takeChange s d S w m).tickPart =
    s.tickPart := by
  unfold State.takeChange
  repeat' (first
      | with_reducible rfl
      | (with_reducible refine (tick_foldl _ _ (fun s x => ?_) _).trans ?_)
      | simp (disch := first | exact id rfl | (intro k; exact id rfl)) only [↓tick_ite, ↓tick_mk, tick_eta,
          ↓State.bump_tick, ↓State.setRoute_tick, ↓State.raise_tick, ite_self, implies_true, id_eq]
      | split)

theorem State.routeSample_tick (s : State) (d : _) (m : _) (zero : _) (tail : _) : (State.routeSample s d m zero
    tail).tickPart = s.tickPart := by
  unfold State.routeSample
  repeat' (first
      | with_reducible rfl
      | (with_reducible refine (tick_foldl _ _ (fun s x => ?_) _).trans ?_)
      | simp (disch := first | exact id rfl | (intro k; exact id rfl)) only [↓tick_ite, ↓tick_mk, tick_eta,
          ↓State.setRoute_tick, ↓State.takeChange_tick, ite_self, implies_true, id_eq]
      | split)

theorem State.drainRing_tick (s : State) (m : _) : (State.drainRing s m).tickPart = s.tickPart := by
  unfold State.drainRing
  repeat' (first
      | with_reducible rfl
      | (with_reducible refine (tick_foldl _ _ (fun s x => ?_) _).trans ?_)
      | simp (disch := first | exact id rfl | (intro k; exact id rfl)) only [↓tick_ite, ↓tick_mk, tick_eta,
          ↓State.orcWrite_tick, ite_self, implies_true, id_eq]
      | split)

theorem State.silenceAll_tick (s : State) : (State.silenceAll s).tickPart = s.tickPart := by
  unfold State.silenceAll
  repeat' (first
      | with_reducible rfl
      | (with_reducible refine (tick_foldl _ _ (fun s x => ?_) _).trans ?_)
      | simp (disch := first | exact id rfl | (intro k; exact id rfl)) only [↓tick_ite, ↓tick_mk, tick_eta, ite_self,
          implies_true, id_eq]
      | split)

theorem State.quadTick_tick (s : State) (k : _) (q : _) : (State.quadTick s k q).tickPart = s.tickPart := by
  unfold State.quadTick
  repeat' (first
      | with_reducible rfl
      | (with_reducible refine (tick_foldl _ _ (fun s x => ?_) _).trans ?_)
      | simp (disch := first | exact id rfl | (intro k; exact id rfl)) only [↓tick_ite, ↓tick_mk, tick_eta,
          ↓State.set_tick, ↓State.raise_tick, ↓State.flag_tick, ite_self, implies_true, id_eq]
      | split)

theorem State.brmEnables_tick (s : State) (k : _) : (State.brmEnables s k).tickPart = s.tickPart := by
  unfold State.brmEnables
  repeat' (first
      | with_reducible rfl
      | (with_reducible refine (tick_foldl _ _ (fun s x => ?_) _).trans ?_)
      | simp (disch := first | exact id rfl | (intro k; exact id rfl)) only [↓tick_ite, ↓tick_mk, tick_eta,
          ↓State.quadTick_tick, ↓State.set_tick, ↓State.raise_tick, ite_self, implies_true, id_eq]
      | split)

theorem State.curPost_tick (s : State) (w : _) : (State.curPost s w).tickPart = s.tickPart := by
  unfold State.curPost
  repeat' (first
      | with_reducible rfl
      | (with_reducible refine (tick_foldl _ _ (fun s x => ?_) _).trans ?_)
      | simp (disch := first | exact id rfl | (intro k; exact id rfl)) only [↓tick_ite, ↓tick_mk, tick_eta,
          ↓State.paramCmd_tick, ↓State.mirror_tick, ite_self, implies_true, id_eq]
      | split)

theorem State.wiperPosts_tick (s : State) : (State.wiperPosts s).tickPart = s.tickPart := by
  unfold State.wiperPosts
  repeat' (first
      | with_reducible rfl
      | (with_reducible refine (tick_foldl _ _ (fun s x => ?_) _).trans ?_)
      | simp (disch := first | exact id rfl | (intro k; exact id rfl)) only [↓tick_ite, ↓tick_mk, tick_eta,
          ↓State.set_tick, ↓State.curPost_tick, ite_self, implies_true, id_eq]
      | split)

theorem State.meterReset_tick (s : State) (k : _) : (State.meterReset s k).tickPart = s.tickPart := by
  unfold State.meterReset
  simp (disch := exact id rfl) only [List.foldl_cons, List.foldl_nil, State.set_tick]

theorem State.displayPeak_tick (s : State) (m : _) (tpk : _) (t : _) : (State.displayPeak s m tpk t).tickPart =
    s.tickPart := by
  unfold State.displayPeak
  repeat' (first
      | with_reducible rfl
      | (with_reducible refine (tick_foldl _ _ (fun s x => ?_) _).trans ?_)
      | simp (disch := first | exact id rfl | (intro k; exact id rfl)) only [↓tick_ite, ↓tick_mk, tick_eta,
          ↓State.set_tick, ite_self, implies_true, id_eq]
      | split)

theorem State.meterTake_tick (s : State) (m : _) (x : _) (now : _) : (State.meterTake s m x now).tickPart = s.tickPart := by
  unfold State.meterTake
  repeat' (first
      | with_reducible rfl
      | simp (disch := first | exact id rfl | (intro k; exact id rfl)) only [↓tick_ite, ↓tick_mk, tick_eta, State.fresh,
          ↓State.set_tick, ↓State.displayPeak_tick, ↓State.bump_tick, ↓State.raise_tick, ite_self, implies_true, id_eq]
      | split)

theorem State.live60_tick (s : State) : (State.live60 s).tickPart = s.tickPart := by
  unfold State.live60
  repeat' (first
      | with_reducible rfl
      | (with_reducible refine (tick_foldl _ _ (fun s x => ?_) _).trans ?_)
      | simp (disch := first | exact id rfl | (intro k; exact id rfl)) only [↓tick_ite, ↓tick_mk, tick_eta,
          ↓State.flag_tick, ite_self, implies_true, id_eq]
      | split)

theorem State.tapTick_tick (s : State) (m : _) : (State.tapTick s m).tickPart = s.tickPart := by
  unfold State.tapTick
  repeat' (first
      | with_reducible rfl
      | (with_reducible refine (tick_foldl _ _ (fun s x => ?_) _).trans ?_)
      | simp (disch := first | exact id rfl | (intro k; exact id rfl)) only [↓tick_ite, ↓tick_mk, tick_eta,
          ↓State.set_tick, ↓State.meterReset_tick, ite_self, implies_true, id_eq]
      | split)

theorem State.lgRestart_tick (s : State) (g : _) : (State.lgRestart s g).tickPart = s.tickPart := by
  unfold State.lgRestart
  repeat' (first
      | with_reducible rfl
      | (with_reducible refine (tick_foldl _ _ (fun s x => ?_) _).trans ?_)
      | simp (disch := first | exact id rfl | (intro k; exact id rfl)) only [↓tick_ite, ↓tick_mk, tick_eta,
          ↓State.set_tick, ite_self, implies_true, id_eq]
      | split)

theorem State.meterTick_tick (s : State) : (State.meterTick s).tickPart = s.tickPart := by
  unfold State.meterTick
  repeat' (first
      | with_reducible rfl
      | (with_reducible refine (tick_foldl _ _ (fun s x => ?_) _).trans ?_)
      | simp (disch := first | exact id rfl | (intro k; exact id rfl)) only [↓tick_ite, ↓tick_mk, tick_eta,
          ↓State.tapTick_tick, ↓State.lgRestart_tick, ite_self, implies_true, id_eq]
      | split)

theorem State.ringReady_tick (s : State) (j : _) : (State.ringReady s j).tickPart = s.tickPart := by
  unfold State.ringReady
  repeat' (first
      | with_reducible rfl
      | (with_reducible refine (tick_foldl _ _ (fun s x => ?_) _).trans ?_)
      | simp (disch := first | exact id rfl | (intro k; exact id rfl)) only [↓tick_ite, ↓tick_mk, tick_eta,
          ↓State.set_tick, ↓State.raise_tick, ite_self, implies_true, id_eq]
      | split)

theorem State.ringDue_tick (s : State) (k : _) : (State.ringDue s k).tickPart = s.tickPart := by
  unfold State.ringDue
  repeat' (first
      | with_reducible rfl
      | (with_reducible refine (tick_foldl _ _ (fun s x => ?_) _).trans ?_)
      | simp (disch := first | exact id rfl | (intro k; exact id rfl)) only [↓tick_ite, ↓tick_mk, tick_eta,
          ↓State.bump_tick, ↓State.set_tick, ↓State.raise_tick, ite_self, implies_true, id_eq]
      | split)

theorem State.setSync_tick (s : State) (v : _) : (State.setSync s v).tickPart = s.tickPart := by
  unfold State.setSync
  repeat' (first
      | with_reducible rfl
      | (with_reducible refine (tick_foldl _ _ (fun s x => ?_) _).trans ?_)
      | simp (disch := first | exact id rfl | (intro k; exact id rfl)) only [↓tick_ite, ↓tick_mk, tick_eta,
          ↓State.set_tick, ite_self, implies_true, id_eq]
      | split)

theorem State.copyStart_tick (s : State) (pass : _) : (State.copyStart s pass).tickPart = s.tickPart := by
  unfold State.copyStart
  repeat' (first
      | with_reducible rfl
      | (with_reducible refine (tick_foldl _ _ (fun s x => ?_) _).trans ?_)
      | simp (disch := first | exact id rfl | (intro k; exact id rfl)) only [↓tick_ite, ↓tick_mk, tick_eta,
          ↓State.set_tick, ite_self, implies_true, id_eq]
      | split)

theorem State.standbyStop_tick (s : State) : (State.standbyStop s).tickPart = s.tickPart := by
  unfold State.standbyStop
  repeat' (first
      | with_reducible rfl
      | (with_reducible refine (tick_foldl _ _ (fun s x => ?_) _).trans ?_)
      | simp (disch := first | exact id rfl | (intro k; exact id rfl)) only [↓tick_ite, ↓tick_mk, tick_eta,
          ↓State.phFlush_tick, ↓State.set_tick, ↓State.setEngine_tick, ↓State.silenceAll_tick, ite_self, implies_true,
              id_eq]
      | split)

theorem State.resyncStart_tick (s : State) : (State.resyncStart s).tickPart = s.tickPart := by
  unfold State.resyncStart
  repeat' (first
      | with_reducible rfl
      | (with_reducible refine (tick_foldl _ _ (fun s x => ?_) _).trans ?_)
      | simp (disch := first | exact id rfl | (intro k; exact id rfl)) only [↓tick_ite, ↓tick_mk, tick_eta,
          ↓State.copyStart_tick, ↓State.setSync_tick, ↓State.standbyStop_tick, ↓State.set_tick, ↓State.raise_tick,
              ite_self, implies_true, id_eq]
      | split)

theorem State.compareCrc_tick (s : State) (blk : _) (own : _) (partner : _) : (State.compareCrc s blk own
    partner).tickPart = s.tickPart := by
  unfold State.compareCrc
  repeat' (first
      | with_reducible rfl
      | (with_reducible refine (tick_foldl _ _ (fun s x => ?_) _).trans ?_)
      | simp (disch := first | exact id rfl | (intro k; exact id rfl)) only [↓tick_ite, ↓tick_mk, tick_eta,
          ↓State.bump_tick, ↓State.setSync_tick, ↓State.set_tick, ↓State.raise_tick, ↓State.resyncStart_tick, ite_self,
              implies_true, id_eq]
      | split)

theorem State.keepCrc_tick (s : State) (blk : _) : (State.keepCrc s blk).tickPart = s.tickPart := by
  unfold State.keepCrc
  repeat' (first
      | with_reducible rfl
      | (with_reducible refine (tick_foldl _ _ (fun s x => ?_) _).trans ?_)
      | simp (disch := first | exact id rfl | (intro k; exact id rfl)) only [↓tick_ite, ↓tick_mk, tick_eta, ite_self,
          implies_true, id_eq]
      | split)

theorem State.reportCrc_tick (s : State) (blk : _) : (State.reportCrc s blk).tickPart = s.tickPart := by
  unfold State.reportCrc
  repeat' (first
      | with_reducible rfl
      | (with_reducible refine (tick_foldl _ _ (fun s x => ?_) _).trans ?_)
      | simp (disch := first | exact id rfl | (intro k; exact id rfl)) only [↓tick_ite, ↓tick_mk, tick_eta,
          ↓State.sendFrame_tick, ↓State.compareCrc_tick, ite_self, implies_true, id_eq]
      | split)

theorem State.statusMissing_tick (s : State) : (State.statusMissing s).tickPart = s.tickPart := by
  unfold State.statusMissing
  repeat' (first
      | with_reducible rfl
      | (with_reducible refine (tick_foldl _ _ (fun s x => ?_) _).trans ?_)
      | simp (disch := first | exact id rfl | (intro k; exact id rfl)) only [↓tick_ite, ↓tick_mk, tick_eta,
          ↓State.setSync_tick, ↓State.set_tick, ite_self, implies_true, id_eq]
      | split)

theorem State.audioDrop_tick (s : State) : (State.audioDrop s).tickPart = s.tickPart := by
  unfold State.audioDrop
  repeat' (first
      | with_reducible rfl
      | (with_reducible refine (tick_foldl _ _ (fun s x => ?_) _).trans ?_)
      | simp (disch := first | exact id rfl | (intro k; exact id rfl)) only [↓tick_ite, ↓tick_mk, tick_eta,
          ↓State.set_tick, ite_self, implies_true, id_eq]
      | split)

theorem State.audioSend_tick (s : State) (m : _) : (State.audioSend s m).tickPart = s.tickPart := by
  unfold State.audioSend
  repeat' (first
      | with_reducible rfl
      | (with_reducible refine (tick_foldl _ _ (fun s x => ?_) _).trans ?_)
      | simp (disch := first | exact id rfl | (intro k; exact id rfl)) only [↓tick_ite, ↓tick_mk, tick_eta,
          ↓State.sendFrame_tick, ite_self, implies_true, id_eq]
      | split)

theorem State.hbTick_tick (s : State) : (State.hbTick s).tickPart = s.tickPart := by
  unfold State.hbTick
  repeat' (first
      | with_reducible rfl
      | (with_reducible refine (tick_foldl _ _ (fun s x => ?_) _).trans ?_)
      | simp (disch := first | exact id rfl | (intro k; exact id rfl)) only [↓tick_ite, ↓tick_mk, tick_eta,
          ↓State.set_tick, ite_self, implies_true, id_eq]
      | split)

theorem State.lostAtTick_tick (s : State) (old : _) : (State.lostAtTick s old).tickPart = s.tickPart := by
  unfold State.lostAtTick
  repeat' (first
      | with_reducible rfl
      | (with_reducible refine (tick_foldl _ _ (fun s x => ?_) _).trans ?_)
      | simp (disch := first | exact id rfl | (intro k; exact id rfl)) only [↓tick_ite, ↓tick_mk, tick_eta,
          ↓State.set_tick, ↓State.raise_tick, ite_self, implies_true, id_eq]
      | split)

theorem State.moveBlocks_tick (s : State) (k : _) : (State.moveBlocks s k).tickPart = s.tickPart := by
  unfold State.moveBlocks
  repeat' (first
      | with_reducible rfl
      | (with_reducible refine (tick_foldl _ _ (fun s x => ?_) _).trans ?_)
      | simp (disch := first | exact id rfl | (intro k; exact id rfl)) only [↓tick_ite, ↓tick_mk, tick_eta,
          ↓State.ringReady_tick, ↓State.audioDrop_tick, ↓State.reportCrc_tick, ↓State.lostAtTick_tick,
              ↓State.ringDue_tick, ↓State.keepCrc_tick, ↓State.meterTick_tick, ↓State.brmEnables_tick, ite_self,
                  implies_true, id_eq]
      | split)

theorem State.rearmTick_tick (s : State) : (State.rearmTick s).tickPart = s.tickPart := by
  unfold State.rearmTick
  repeat' (first
      | with_reducible rfl
      | (with_reducible refine (tick_foldl _ _ (fun s x => ?_) _).trans ?_)
      | simp (disch := first | exact id rfl | (intro k; exact id rfl)) only [↓tick_ite, ↓tick_mk, tick_eta,
          ↓State.phAdvance_tick, ↓State.rearm_tick, ite_self, implies_true, id_eq]
      | split)

theorem State.creditsZero_tick (s : State) : (State.creditsZero s).tickPart = s.tickPart := by
  unfold State.creditsZero
  repeat' (first
      | with_reducible rfl
      | (with_reducible refine (tick_foldl _ _ (fun s x => ?_) _).trans ?_)
      | simp (disch := first | exact id rfl | (intro k; exact id rfl)) only [↓tick_ite, ↓tick_mk, tick_eta,
          ↓State.set_tick, ite_self, implies_true, id_eq]
      | split)

theorem State.latchCore_tick (s : State) (n : _) : (State.latchCore s n).tickPart = s.tickPart := by
  unfold State.latchCore
  repeat' (first
      | with_reducible rfl
      | (with_reducible refine (tick_foldl _ _ (fun s x => ?_) _).trans ?_)
      | simp (disch := first | exact id rfl | (intro k; exact id rfl)) only [↓tick_ite, ↓tick_mk, tick_eta,
          ↓State.set_tick, ↓State.flag_tick, ite_self, implies_true, id_eq]
      | split)

theorem State.brmLoad_tick (s : State) : (State.brmLoad s).tickPart = s.tickPart := by
  unfold State.brmLoad
  repeat' (first
      | with_reducible rfl
      | (with_reducible refine (tick_foldl _ _ (fun s x => ?_) _).trans ?_)
      | simp (disch := first | exact id rfl | (intro k; exact id rfl)) only [↓tick_ite, ↓tick_mk, tick_eta,
          ↓State.set_tick, ite_self, implies_true, id_eq]
      | split)

theorem State.latchLoads_tick (s : State) : (State.latchLoads s).tickPart = s.tickPart := by
  unfold State.latchLoads State.fresh
  dsimp only
  rw [State.set_tick _ _ _ rfl, State.brmLoad_tick]
  simp only [tick_mk, tick_eta]
  exact tick_foldl _ _ (fun s n => State.latchCore_tick s n) _

theorem State.copyTick_tick (s : State) : (State.copyTick s).tickPart = s.tickPart := by
  unfold State.copyTick
  repeat' (first
      | with_reducible rfl
      | (with_reducible refine (tick_foldl _ _ (fun s x => ?_) _).trans ?_)
      | simp (disch := first | exact id rfl | (intro k; exact id rfl)) only [↓tick_ite, ↓tick_mk, tick_eta,
          ↓State.sendFrame_tick, ↓State.set_tick, ite_self, implies_true, id_eq]
      | split)

/-- A tick raises event 8, and where no mirrored item is due its work leaves these parts of the state alone. -/
theorem State.tickWork_tick (s : State) (k : Nat) (h : ((s.raise 8).moveBlocks k).dueItems = []) :
    (State.tickWork s k).tickPart = (s.raise 8).tickPart := by
  unfold State.tickWork
  dsimp only
  rw [if_pos h]
  simp only [State.latchLoads_tick, State.statusMissing_tick, State.hbTick_tick, State.wiperPosts_tick,
    State.trimCurves_tick, tick_ite, State.rearmTick_tick, State.creditsZero_tick, State.withdrawGraph_tick,
    State.copyTick_tick, State.moveBlocks_tick, ite_self]

theorem State.withdrawReady_tick (s : State) : (State.withdrawReady s).tickPart = s.tickPart := by
  unfold State.withdrawReady
  repeat' (first
      | with_reducible rfl
      | (with_reducible refine (tick_foldl _ _ (fun s x => ?_) _).trans ?_)
      | simp (disch := first | exact id rfl | (intro k; exact id rfl)) only [↓tick_ite, ↓tick_mk, tick_eta,
          ↓State.disarm_tick, ↓State.graphLate_tick, ite_self, implies_true, id_eq]
      | split)

theorem State.overrun_tick (s : State) (j : _) (ps : _) : (State.overrun s j ps).tickPart = s.tickPart := by
  unfold State.overrun
  repeat' (first
      | with_reducible rfl
      | (with_reducible refine (tick_foldl _ _ (fun s x => ?_) _).trans ?_)
      | simp (disch := first | exact id rfl | (intro k; exact id rfl)) only [↓tick_ite, ↓tick_mk, tick_eta,
          ↓State.bump_tick, ↓State.set_tick, ↓State.mdlFault_tick, ↓State.raise_tick, ↓State.withdrawReady_tick,
              ite_self, implies_true, id_eq]
      | split)

theorem State.checkSinks_tick (s : State) : (State.checkSinks s).tickPart = s.tickPart := by
  unfold State.checkSinks
  repeat' (first
      | with_reducible rfl
      | (with_reducible refine (tick_foldl _ _ (fun s x => ?_) _).trans ?_)
      | simp (disch := first | exact id rfl | (intro k; exact id rfl)) only [↓tick_ite, ↓tick_mk, tick_eta,
          ↓State.overrun_tick, ite_self, implies_true, id_eq]
      | split)

end Sys2Proof.Machine
end

