-- ==== Sys2Proof/Laws/Timers.lean ====
section
/-! SUPPORT. The members of a timer cascade, and the event of a timer channel. -/

namespace Sys2Proof.Machine

/-- Unit event 128 + k is channel k's, caused by its status bits (R28). -/
theorem evCause_tmr (k : Nat) (h : k < 64) : evCause (128 + k) = some (F.TMR_STAT_EVT k, 0x7F) := by
  have e : 128 + k - 128 = k := by omega
  unfold evCause
  iterate 24 rw [if_neg (by omega)]
  rw [if_pos (by omega), e]

/-- The members of a cascade are channels. -/
theorem tmMembers_lt (s : State) (n : Fin 64) : ∀ k ∈ s.tmMembers n, k < 64 := by
  intro k hk
  unfold State.tmMembers at hk
  rcases List.mem_cons.mp hk with rfl | hk
  · exact n.isLt
  · obtain ⟨i, hi, rfl⟩ := List.mem_map.mp hk
    have := List.mem_takeWhile_imp hi
    simp at this
    omega

/-- They depend on the CASC bits alone. -/
theorem tmMembers_congr {s t : State} (h : ∀ k, t.get (F.TMR_MODE_CASC k) = s.get (F.TMR_MODE_CASC k)) (n : Nat) :
    t.tmMembers n = s.tmMembers n := by
  unfold State.tmMembers State.on
  simp only [h]

theorem tmMembers_set (s : State) (f : Fld) (v n : Nat) (hf : ((F.TMR_MODE_CASC 0).id == f.id) = false) :
    (s.set f v).tmMembers n = s.tmMembers n := tmMembers_congr (fun _ => State.get_set_other _ _ hf) n

end Sys2Proof.Machine
end

