-- ==== Sys2Proof/WellFormed.lean ====
section
/-! DEFINITION. Well-formed commands: the bounds on operands that the types of Sys2Proof/Syntax.lean leave open. -/

namespace Sys2Proof

/-- A mirrored item's words are those of one transaction: up to 256 words (R371), or a payload of 256 bytes or one such
transaction (R364). -/
def MirrorItem.wf : MirrorItem → Bool
  | .seqWrite _ _ _ _ ws => decide (ws.length ≤ 256)
  | .hostOrchard _ off bs => decide (off.val + bs.length ≤ 67108864) && decide (bs.length ≤ 1024)
  | .hostDram _ a bs => decide (a.toNat + bs.length ≤ 2 ^ 36) && decide (bs.length ≤ 1024)
  | .unitEvent _ frc => decide (frc < 2 ^ 64)
  | _ => true

/-- A command's open operands are within the bounds the spec gives them. -/
def Instr.wf : Instr → Bool
  | .pcieOrchardAccess _ off bytes => decide (off.val + bytes.length ≤ 67108864)
  | .pcieDramAccess _ off bytes => decide (off.val + bytes.length ≤ 268435456)
  | .spiWrite _ ws _ => decide (1 ≤ ws.length) && decide (ws.length ≤ 256)
  | .spiSwrite _ _ ws _ => decide (1 ≤ ws.length) && decide (ws.length ≤ 256)
  | .spiBadCommand c => decide (c.toNat = 0) || decide (4 < c.toNat)
  | .aesBlockStored _ _ len _ _ => decide (len ≤ 192)
  | .twinMirrorFrame _ _ tick item => decide (tick < 2 ^ 64) && item.wf
  | .twinStatusFrame _ _ blk _ => decide (blk < 2 ^ 64)
  | .twinAudioFrame _ _ blk _ xs => decide (blk < 2 ^ 64) && decide (xs.length ≤ 64)
  | .settingsCopyWrite _ body _ => decide (body.length < 65536)
  | .chainArm _ _ f => decide (f < 2 ^ 64)
  | .chainGo _ _ f => decide (f < 2 ^ 64)
  | .rindLoadBlock _ bytes _ => decide (bytes.length ≤ 4096)
  | _ => true

end Sys2Proof
end

