-- ==== Sys2Proof/Tests/Slice0.lean ====
section
/-! SUPPORT. Tests: the spec's worked examples, the refusals of WellFormed, and a witness for the hypotheses of each
statement. -/

namespace Sys2Proof.Tests

open Sys2Proof Sys2Proof.Machine

set_option Elab.async false

namespace W

open State

/-- Register fields set to values. -/
def st (l : List (Fld × Nat)) : State := l.foldl (fun s e => s.set e.1 e.2) State.reset

/-- READY events of pip 2, an urgent one and one of level 5. -/
def ev1 : QEvent := { pip := 2, word := 7, level := 1, master := 0x58, arr := 1, ready := 1, heldBlk := none, entry := true }

/-- A READY event of level 5 of the same pip. -/
def ev2 : QEvent := { ev1 with level := 5 }

/-- An EVENT pip enabled, its image in range. -/
def evst : State := st [(F.PIP1_EN 2, 1), (F.PIP1_CLASS 2, 1), (F.QN_AFF_LO_MASK 0, 1)]

/-- The urgent event waits. -/
def urg : State := { evst with qn := { State.reset.qn with queue := [ev1] } }

/-- The event of level 5 waits. -/
def rre : State := { evst with qn := { State.reset.qn with queue := [ev2] } }

/-- A GRAPH pip READY. -/
def rr : State := st [(F.PIP1_EN 2, 1), (I.PIP_ARM 2, 1), (F.PIP13_STATE 2, 2), (F.QN_AFF_LO_MASK 0, 1)]

/-- A run of pip 2. -/
def run0 : PipRun :=
  { pip := 2, copy := [], blk := 3, ev := none, ready := 0, frame := 1, landed := true, posts := 0, skip := 0, reruns := 0,
    level := none, ended := false, qdone := false, late := false, load := false, isrc := 0, idram := false, ilen := 0,
    events := [], cut := false }

/-- Core 2 with that run in its NEXT slot. -/
def next1 : State := { st [] with cores := [(2, { Core.reset with next := some run0 })] }

/-- A recall of scene 3 under way, its list in Orchard bank 1, which the scene engine owns; byte 3 of its entry is `b`. -/
def rc : Recall := { now := true, start := 0, scene := 3, src := 0x58, entries := [], reserved := 0, swap := false }

/-- The machine with that recall under way. -/
def rcl (b state : Nat) : State :=
  { st [(F.SCN_RCL_STATE, state), (F.SCN_DIR1_COUNT 3, 1), (F.SCN_DIR0_SRCW 3, 0x1010000), (F.ORC_OWN_OWNER 1, 0x53)] with
    orchard := (if b = 0 then [] else [(0x100003, BitVec.ofNat 8 (16 * b))]), scn := { State.reset.scn with rcl := some rc } }

/-- A voice word of group 1 and note ID 7. -/
def wd (type value : Nat) : Nat := 2 ^ 72 * type + 2 ^ 64 + 2 ^ 48 * 7 + 2 ^ 16 * value

/-- That word READY, from the PCIe port. -/
def vw (w : Nat) : VWord := { word := w, src := 0x58, blk := 4, ready := true, late := false, wait := none }

/-- The voice manager ON, group 1 enabled, with the word waiting. -/
def vmS (l : List (Fld × Nat)) (w : Nat) : State :=
  { st ([(F.VM_STAT_STATE, 2), (F.VM_GRP0_EN 1, 1), (F.PIP1_CLASS 9000, 1), (F.QN_IMG1_LENW 0, 4), (F.VM_GRP1_TPL_ON 1, 9000),
      (F.VM_GRP1_TPL_RND 1, 9001)] ++ l) with
    vm := { words := [vw w], attach := [], phasor := [] } }

/-- A note in slot 3. -/
def nt (state : Nat) : List (Fld × Nat) :=
  [(F.VT0_STATE 3, state), (F.VT0_GROUP 3, 1), (F.VT0_NOTE 3, 7), (I.VT_NUM 3, 9)]

/-- The graph running, in the period that computes from sample 64. -/
def grun (l : List (Fld × Nat)) : State := { st ([(I.QN_ARMBLK, 4), (F.VM_STAT_STATE, 2)] ++ l) with frc := 64 }

/-- Core 2 between pips with the run landed in its NEXT slot, or running it. -/
def nx (r : PipRun) : State := { st [] with cores := [(2, { Core.reset with next := some r })] }

/-- Core 2 running that pip. -/
def rn (l : List (Fld × Nat)) (r : PipRun) : State :=
  { st l with cores := [(2, { Core.reset with p := { Core.reset.p with run := some r } })] }

/-- A received character. -/
def rxc (d : Nat) : RxChar := { data := d, perr := false, ferr := false, noise := false, edge := 70 }

/-- UART 1 ON in MIDI mode with that character at its head, its pip an enabled EVENT pip. -/
def midi (d : Nat) (msg : List Nat) (sx : Option (List Nat)) : State :=
  { st [(F.U_CTRL_STATE 1, 2), (F.U_CFG_MIDI 1, 1), (F.U_MIDI_PIP 1, 2), (F.PIP1_EN 2, 1), (F.PIP1_CLASS 2, 1),
      (F.PIP1_GL 2, 5), (F.QN_AFF_LO_MASK 0, 1)] with
    uarts := [(1, { Uart.reset with rx := [rxc d], msg := msg, sysex := sx })] }

/-- UART 1 in a state with its FIFOs as given. -/
def ur (l : List (Fld × Nat)) (rx : List RxChar) (tx : List Nat) : State :=
  { st l with uarts := [(1, { Uart.reset with rx := rx, tx := tx })] }

/-- A good chain frame at hop 4. -/
def hdr : ChainHdr := { hop := 4, up := false, crcOk := true }

/-- A chain unit with slot A STAGED and an empty manifest. -/
def chs (l : List (Fld × Nat)) : State :=
  { st ((F.CFG_CHAIN_EN, 1) :: l) with flash := { Flash.blank with slotA := { ImgSlot.empty with state := slotSTAGED } } }

/-- The digest of that manifest. -/
def dig0 : BitVec 256 := BitVec.ofNat 256 (beNat (sha256 []))

/-- A settings copy that holds the digest of the code 1. -/
def own1 : List Byte :=
  let b : List Byte := List.replicate 480 0 ++ sha256 [0x31]
  copyHeader 1 1 b ++ b

/-- A session of the steward's, with slot A STAGED. -/
def ses (l : List (Fld × Nat)) : State :=
  { st ([(F.CFG_SESS_SRC, 1), (F.CFG_SESS_HOLDER, 0x50)] ++ l) with
    flash := { Flash.blank with slotA := { ImgSlot.empty with state := slotSTAGED } } }

/-- The digest of the code 1 held. -/
def ownd : List (Fld × Nat) := (sha256 [0x31]).zipIdx.map (fun e => (I.OWN_DIG e.2, e.1.toNat))

/-- A twin link that is up and expects frame 5. -/
def tw (l : List (Fld × Nat)) : State :=
  st ([(I.TWN_RXSEQ, 5), (F.TWN_CTRL_EN, 1), (F.TWN_STAT_LANES, 1)] ++ l)

/-- A MIRROR frame sent and not acknowledged. -/
def fr (seq tries : Nat) : TxFrame :=
  { seq := seq, kind := 1, tick := 64, item := some (.voice .pcie 5), words := [], tries := tries, acked := false, sent := 0 }

/-- An instruction without a move: VD 3, VA 4, VB 5, ACC 1. -/
def iw0 : CoreWord := ⟨false, false, 3, 4, 5, 1, 0, 0⟩

/-- Core 2 at an issue slot in frame 0. -/
def ec (b : Bank) (k : Core) : State :=
  let k' : Core := { k with p := { b with run := some run0 }, frames := [(0, { Frame.reset with valid := true })] }
  { st [] with cores := [(2, k')] }

/-- The steward at an issue slot in its private SRAM. -/
def sw (b : Bank) : State := { st [] with cores := [(64, { Core.reset with p := b })] }

/-- The clock has left ACQUIRE. -/
def clk (frc cclk : Nat) : State := { st [(I.CLK_STARTED, 1), (F.CLK_STAT_MODE, 1)] with frc := frc, cclk := cclk }

end W

/-! ### Worked examples of the spec -/

namespace W

/-- The state an outcome answers. -/
def aft (o : Host.Outcome State Fault Refusal) : State :=
  match o with
  | .next s => s
  | _ => State.reset

/-- What register `idx` of core 2 reads `k` instructions after the one issued. -/
def rd (k idx : Nat) (o : Host.Outcome State Fault Refusal) : Nat := ((aft o).liveBank 2).readIn k idx

/-- Core 2 with V4 and V5 lane 0 as given. -/
def ab (a b : Nat) : State := ec { Bank.reset with r := [(16, a), (20, b)] } Core.reset

end W

/-- R111: the example of VADD. -/
theorem test_vadd : W.rd 1 12 (exec (.vadd (.ec 2) W.iw0) (W.ab 0x06000000 0x04000000)) = 0x0A000000 := by decide +kernel

/-- R77: its result is not visible at the next instruction. -/
theorem test_vadd_latency : W.rd 0 12 (exec (.vadd (.ec 2) W.iw0) (W.ab 0x06000000 0x04000000)) = 0 := by decide +kernel

/-- R111: the example of VSUB. -/
theorem test_vsub : W.rd 1 12 (exec (.vsub (.ec 2) W.iw0) (W.ab 0x02000000 0x06000000)) = 0xFC000000 := by decide +kernel

/-- R111: the examples of VMUL; the clamp sets SV (R69). -/
theorem test_vmul : W.rd 1 12 (exec (.vmul (.ec 2) W.iw0) (W.ab 0x0C000000 0x04000000)) = 0x06000000 := by decide +kernel
theorem test_vmul_clamps :
    W.rd 1 12 (exec (.vmul (.ec 2) { W.iw0 with sat := true }) (W.ab 0x40000000 0x40000000)) = 0x7FFFFFFF ∧
    W.rd 1 226 (exec (.vmul (.ec 2) { W.iw0 with sat := true }) (W.ab 0x40000000 0x40000000)) = 1 := by decide +kernel

/-- R111: the examples of VMIN and VMAX, signed and unsigned. -/
theorem test_vmin :
    W.rd 1 12 (exec (.vmin (.ec 2) W.iw0) (W.ab 0xF8000000 0x01000000)) = 0xF8000000 ∧
    W.rd 1 12 (exec (.vmin (.ec 2) { W.iw0 with flg := true }) (W.ab 0xF8000000 0x01000000)) = 0x01000000 := by decide +kernel
theorem test_vmax :
    W.rd 1 12 (exec (.vmax (.ec 2) W.iw0) (W.ab 0xF8000000 0x01000000)) = 0x01000000 ∧
    W.rd 1 12 (exec (.vmax (.ec 2) { W.iw0 with flg := true }) (W.ab 0xF8000000 0x01000000)) = 0xF8000000 := by decide +kernel

/-- R111: the examples of VABS and VNEG. -/
theorem test_vabs :
    W.rd 1 12 (exec (.vabs (.ec 2) { W.iw0 with sat := true }) (W.ab 0x80000000 0)) = 0x7FFFFFFF ∧
    W.rd 1 12 (exec (.vabs (.ec 2) W.iw0) (W.ab 0x80000000 0)) = 0x80000000 := by decide +kernel
theorem test_vneg : W.rd 1 12 (exec (.vneg (.ec 2) W.iw0) (W.ab 0x08000000 0)) = 0xF8000000 := by decide +kernel

/-- R111: the examples of the shifts. -/
theorem test_vshl :
    W.rd 1 12 (exec (.vshl (.ec 2) { W.iw0 with sat := true, sub := 2 }) (W.ab 0x30000000 0)) = 0x7FFFFFFF ∧
    W.rd 1 12 (exec (.vshl (.ec 2) { W.iw0 with sub := 2 }) (W.ab 0x30000000 0)) = 0xC0000000 := by decide +kernel
theorem test_vshr :
    W.rd 1 12 (exec (.vshr (.ec 2) { W.iw0 with sub := 1 }) (W.ab 3 0)) = 2 ∧
    W.rd 1 12 (exec (.vshr (.ec 2) { W.iw0 with flg := true, sub := 4 }) (W.ab 0xF0000000 0)) = 0x0F000000 := by decide +kernel

/-- R111: the examples of the logical instructions. -/
theorem test_vand :
    W.rd 1 12 (exec (.vand (.ec 2) W.iw0) (W.ab 0xFFFF0000 0x0F0F0F0F)) = 0x0F0F0000 ∧
    W.rd 1 12 (exec (.vand (.ec 2) { W.iw0 with flg := true }) (W.ab 0xFFFF0000 0x0F0F0F0F)) = 0xF0F00000 := by decide +kernel
theorem test_vor : W.rd 1 12 (exec (.vor (.ec 2) W.iw0) (W.ab 0x08000000 1)) = 0x08000001 := by decide +kernel
theorem test_vxor : W.rd 1 12 (exec (.vxor (.ec 2) W.iw0) (W.ab 0x08000000 0x80000000)) = 0x88000000 := by decide +kernel

/-- R111, R112: the example of VCMP. -/
theorem test_vcmp :
    W.rd 1 12 (exec (.vcmp (.ec 2) { W.iw0 with sub := 2 }) (W.ab 0xF8000000 0)) = 0xFFFFFFFF ∧
    W.rd 1 225 (exec (.vcmp (.ec 2) { W.iw0 with sub := 2 }) (W.ab 0xF8000000 0)) = 1 := by decide +kernel

/-- R111: the example of VSEL, with LF 0b0101. -/
theorem test_vsel :
    [12, 13, 14, 15].map (fun k => W.rd 1 k (exec (.vsel (.ec 2) W.iw0) (W.ec { Bank.reset with
      r := [(16, 1), (17, 2), (18, 3), (19, 4), (20, 5), (21, 6), (22, 7), (23, 8), (225, 5)] } Core.reset))) =
    [1, 6, 3, 8] := by decide +kernel

/-- R111: the example of VPERM, s = 0xB1. -/
theorem test_vperm :
    [12, 13, 14, 15].map (fun k => W.rd 1 k (exec (.vperm (.ec 2) { W.iw0 with flg := true, sub := 0x31 }) (W.ec { Bank.reset with
      r := [(16, 1), (17, 2), (18, 3), (19, 4)] } Core.reset))) = [2, 1, 4, 3] := by decide +kernel

/-- R113: the examples of MAC and MSU. -/
theorem test_mac : W.rd 2 148 (exec (.mac (.ec 2) W.iw0) (W.ab 0x08000000 0x04000000)) = 0x20000000000000 := by decide +kernel
theorem test_msu : W.rd 2 148 (exec (.msu (.ec 2) W.iw0) (W.ab 0x08000000 0x04000000)) = 0xFFFFE0000000000000 := by decide +kernel

/-- R114: 1j times 1j is −1. -/
theorem test_cmpy :
    [148, 149].map (fun k => W.rd 2 k (exec (.cmpy (.ec 2) W.iw0) (W.ec { Bank.reset with
      r := [(17, 0x08000000), (21, 0x08000000)] } Core.reset))) = [2 ^ 72 - 2 ^ 54, 0] := by decide +kernel

/-- R114: 0.5 + 0.5j times its conjugate is 0.5. -/
theorem test_cmacj :
    [148, 149].map (fun k => W.rd 2 k (exec (.cmacj (.ec 2) W.iw0) (W.ec { Bank.reset with
      r := [(16, 0x04000000), (17, 0x04000000), (20, 0x04000000), (21, 0x04000000)] } Core.reset))) = [2 ^ 53, 0] := by
  decide +kernel

/-- R115: the examples of RDACC and CLRA. -/
theorem test_rdacc :
    W.rd 1 12 (exec (.rdacc (.ec 2) W.iw0) (W.ec { Bank.reset with r := [(148, 0x20000000000000)] } Core.reset)) = 0x04000000 ∧
    W.rd 1 12 (exec (.rdacc (.ec 2) { W.iw0 with sub := 1 }) (W.ec { Bank.reset with r := [(148, 0x20000000000000)] } Core.reset)) =
      0x08000000 := by decide +kernel
theorem test_clra :
    W.rd 2 148 (exec (.clra (.ec 2) { W.iw0 with flg := true, sub := 3 }) (W.ab 0x08000000 0)) = 0x40000000000000 := by
  decide +kernel

/-- R118: the example of PHRD: step 2⁴⁴ and phase 3 · 2⁴² at the sample read. -/
theorem test_phrd :
    let s : State := { W.ec Bank.reset Core.reset with regs := (W.st [(I.PH_P 0, 3 * 2 ^ 42), (I.PH_D 0, 2 ^ 44)]).regs }
    W.rd 3 12 (exec (.phrd (.ec 2) W.iw0) s) = 0x0C000000 ∧ W.rd 3 16 (exec (.phrd (.ec 2) W.iw0) s) = 0x06000000 := by
  decide +kernel

namespace W

/-- The buffer of R86's example: XB0, XL0, XM1 and X0. -/
def buf (xl x0 : Nat) : Seen :=
  State.seen (ec { Bank.reset with r := [(160, x0), (177, 16), (192, xl), (208, 0x10000)] } Core.reset) 2 iw0

end W

/-- R86: the example, access by access. -/
theorem test_circular :
    (W.buf 0x400 0x103C0).addr 0 true 0 = 0x103C0 ∧ (W.buf 0x400 0x103C0).postmod 0 1 true = 0x103D0 ∧
    (W.buf 0x200 0x103D0).addr 0 true 0 = 0x103D0 ∧ (W.buf 0x200 0x103D0).postmod 0 1 true = 0x101E0 ∧
    (W.buf 0x200 0x101E0).addr 0 true 0 = 0x101E0 ∧ (W.buf 0x200 0x101E0).postmod 0 1 true = 0x101F0 := by decide +kernel

/-- R127: the example of BRC, 20 instructions back while X5 is not 0. -/
theorem test_brc :
    ((W.aft (exec (.brc (.ec 2) ⟨false, true, 0, 0, 0, 0, 0x35, 0xFFEC⟩) (W.ec { Bank.reset with
      pc := 0x1200, r := [(165, 1)] } Core.reset))).liveBank 2).target = some 0x1160 := by decide +kernel

/-- R140: the example of RDSYS with selector 3. -/
theorem test_rdsys :
    [12, 13, 14, 15].map (fun k => W.rd 1 k (exec (.rdsysRate (.ec 2) { W.iw0 with sub := 3 })
      { W.ec Bank.reset Core.reset with cclk := 40000 })) = [96000, 16, 131072, 40000] := by decide +kernel

/-- R160: the deadline at reset, and the highest value software can write. -/
theorem test_deadline :
    State.reset.deadline = 126976 ∧
    (W.aft (exec (.qnDeadlineWrite .steward 130048) State.reset)).deadline = 130048 ∧
    (W.aft (exec (.qnDeadlineWrite .steward 130049) State.reset)).deadline = 126976 := by decide +kernel

/-- R463: 1.25 V on UNI2. -/
theorem test_dset : State.dsetCode 1 1250000 = 0x800000 := by decide +kernel


/-- R169: the example's six decisions of the round-robin between groups 0 and 1 and the EV group, with weights 3, 1, 2. -/
theorem test_round_robin :
    let s0 : State := W.st [(F.QN_GRPW_W 0, 3), (F.QN_GRPW_W 1, 1), (F.QN_EVW_W, 2), (F.QN_AFF_LO_MASK 0, 4), (F.PIP1_EN 4, 1),
      (I.PIP_ARM 4, 1), (F.PIP13_STATE 4, 2), (F.PIP1_EN 5, 1), (F.PIP1_GL 5, 1), (I.PIP_ARM 5, 1), (F.PIP13_STATE 5, 2),
      (F.PIP1_EN 2, 1), (F.PIP1_CLASS 2, 1)]
    let s : State := { s0 with qn := { s0.qn with queue := [W.ev2] } }
    let go := fun (e : State × List Nat) =>
      match e.1.rrDecide 2 with
      | some (g, cur) => (({ e.1 with qn := { e.1.qn with cur := cur } } : State), e.2 ++ [g])
      | none => e
    ((go (go (go (go (go (go (s, []))))))).2 = [0, 16, 0, 1, 16, 0]) := by decide +kernel

/-- The front command is taken from the queue. -/
theorem test_step_takes_front :
    (W.aft (step { W.st [] with pending := [.claimTake .pcie 3, .coldReset 0 0] })).pending = [.coldReset 0 0] := by
  decide +kernel


/-! ### What WellFormed refuses -/

theorem test_wf_orchard_access : Instr.wf (.pcieOrchardAccess true 67108863 [none, none]) = false := by decide
theorem test_wf_dram_access : Instr.wf (.pcieDramAccess true 268435455 [none, none]) = false := by decide
theorem test_wf_write_empty : Instr.wf (.spiWrite 0 [] false) = false := by decide
theorem test_wf_write_long : Instr.wf (.spiWrite 0 (List.replicate 257 0) false) = false := by decide +kernel
theorem test_wf_swrite_empty : Instr.wf (.spiSwrite 0 0 [] false) = false := by decide
theorem test_wf_swrite_long : Instr.wf (.spiSwrite 0 0 (List.replicate 257 0) false) = false := by decide +kernel
theorem test_wf_bad_command_1 : Instr.wf (.spiBadCommand 1) = false := by decide
theorem test_wf_bad_command_2 : Instr.wf (.spiBadCommand 2) = false := by decide
theorem test_wf_bad_command_3 : Instr.wf (.spiBadCommand 3) = false := by decide
theorem test_wf_bad_command_4 : Instr.wf (.spiBadCommand 4) = false := by decide
theorem test_wf_aes_block : Instr.wf (.aesBlockStored 0 0 193 0 0) = false := by decide
theorem test_wf_mirror_tick : Instr.wf (.twinMirrorFrame 0 true (2 ^ 64) (.voice .pcie 0)) = false := by decide +kernel
theorem test_wf_mirror_words : Instr.wf (.twinMirrorFrame 0 true 0 (.seqWrite 0 0 0 0 (List.replicate 257 0))) = false := by decide +kernel
theorem test_wf_mirror_orchard : Instr.wf (.twinMirrorFrame 0 true 0 (.hostOrchard .pcie 67108863 [none, none])) = false := by decide
theorem test_wf_mirror_orchard_long : Instr.wf (.twinMirrorFrame 0 true 0 (.hostOrchard .pcie 0 (List.replicate 1025 none))) = false := by decide +kernel
theorem test_wf_mirror_dram : Instr.wf (.twinMirrorFrame 0 true 0 (.hostDram .pcie (BitVec.ofNat 36 (2 ^ 36 - 1)) [none, none])) = false := by decide +kernel
theorem test_wf_mirror_dram_long : Instr.wf (.twinMirrorFrame 0 true 0 (.hostDram .pcie 0 (List.replicate 1025 none))) = false := by decide +kernel
theorem test_wf_mirror_event : Instr.wf (.twinMirrorFrame 0 true 0 (.unitEvent 0 (2 ^ 64))) = false := by decide +kernel
theorem test_wf_status_block : Instr.wf (.twinStatusFrame 0 true (2 ^ 64) 0) = false := by decide +kernel
theorem test_wf_audio_block : Instr.wf (.twinAudioFrame 0 true (2 ^ 64) 0 []) = false := by decide +kernel
theorem test_wf_audio_samples : Instr.wf (.twinAudioFrame 0 true 0 0 (List.replicate 65 0)) = false := by decide +kernel
theorem test_wf_settings_body : Instr.wf (.settingsCopyWrite 0 (List.replicate 65536 0) true) = false := by
  simp only [Instr.wf, List.length_replicate]; decide
theorem test_wf_chain_arm : Instr.wf (.chainArm ⟨0, true, true⟩ 0 (2 ^ 64)) = false := by decide +kernel
theorem test_wf_chain_go : Instr.wf (.chainGo ⟨0, true, true⟩ 0 (2 ^ 64)) = false := by decide +kernel
theorem test_wf_rind_block : Instr.wf (.rindLoadBlock 0 (List.replicate 4097 0) true) = false := by
  simp only [Instr.wf, List.length_replicate]; decide

/-! ### Witnesses of the statements about the whole machine -/

namespace W

theorem next_of (o : Host.Outcome State Fault Refusal) (h : (match o with | .next _ => true | _ => false) = true) :
    o = .next (aft o) := by
  cases o <;> simp_all [aft]

end W

/-- A state with a command waiting, for `Obligations.StepRunsTheFrontCommand`. -/
theorem test_witness_StepRunsTheFrontCommand :
    ∃ (s : State) (c : Instr) (rest : List Instr), s.pending = c :: rest :=
  ⟨{ W.st [] with pending := [.coldReset 0 0, .blockTick] }, .coldReset 0 0, [.blockTick], rfl⟩

/-- States for the clauses of `Obligations.AnEmptyQueueLetsOneSamplePass`: the clock stands, for good or not; the tick is due;
an ordinary sample passes; the deadline lies in it; the sample reaches a tick. -/
theorem test_witness_AnEmptyQueueLetsOneSamplePass :
    (∃ s : State, s.pending = [] ∧ s.clockRuns = false) ∧
    (∃ s : State, s.pending = [] ∧ s.clockRuns = true ∧ s.tickDue = true) ∧
    (∃ s : State, s.pending = [] ∧ s.clockRuns = true ∧ s.tickDue = false ∧ (s.frc + 1) % 2 ^ 64 % s.blockLen ≠ 0 ∧
      (s.deadline ≤ s.cclk ∨ s.cclk + s.sampleCycles < s.deadline)) ∧
    (∃ s : State, s.pending = [] ∧ s.clockRuns = true ∧ s.tickDue = false ∧ (s.frc + 1) % 2 ^ 64 % s.blockLen ≠ 0 ∧
      s.cclk < s.deadline ∧ s.deadline ≤ s.cclk + s.sampleCycles) ∧
    (∃ s : State, s.pending = [] ∧ s.clockRuns = true ∧ s.tickDue = false ∧ (s.frc + 1) % 2 ^ 64 % s.blockLen = 0 ∧
      s.get I.TICKED ≠ (s.frc + 1) % 2 ^ 64 + 1 ∧ s.twin.items = []) :=
  ⟨⟨W.st [], by decide +kernel⟩, ⟨W.clk 16 0, by decide +kernel⟩, ⟨W.clk 3 0, by decide +kernel⟩,
   ⟨W.clk 3 126975, by decide +kernel⟩, ⟨W.clk 15 122880, by decide +kernel⟩⟩

/-- A step that stores to Orchard from memories in form, for `Obligations.EveryStepKeepsMemoryForm`. -/
theorem test_witness_EveryStepKeepsMemoryForm :
    ∃ s t : State, s.MemOk ∧ step s = .next t ∧ t.orchard ≠ s.orchard :=
  ⟨{ W.st [(F.ORC_OWN_OWNER 0, 0x58)] with pending := [.pcieOrchardAccess true 16 [some 7, some 0, some 9]] }, _,
    ⟨by decide +kernel, by decide +kernel⟩, W.next_of _ (by decide +kernel), by decide +kernel⟩

/-- A circular buffer for `Obligations.PostModifyFoldsIntoTheBuffer`. -/
theorem test_witness_PostModifyFoldsIntoTheBuffer :
    ∃ (x : Seen) (i : Nat), x.reg 2 i ≠ 0 ∧ x.reg 3 i + x.reg 2 i ≤ 2 ^ 32 ∧ x.X i < 2 ^ 32 :=
  ⟨W.buf 0x400 0x103C0, 0, by decide +kernel⟩

/-- Issue slots for the clauses of `Obligations.CircularRegistersChangeForTheSecondInstruction`, by LDI, AIMM and AMOVX. -/
theorem test_witness_CircularRegistersChangeForTheSecondInstruction :
    (∃ (s : State) (c : CoreSel) (i : CoreWord) (n : Nat) (x : Seen) (g r : Nat), CoreSel.ix c = n ∧ s.seen n i = x ∧
      s.ready n = true ∧ (g = 2 ∨ g = 3) ∧
      x.b.pend.all (fun p => decide (p.idx ≠ ixReg 2 r ∧ p.idx ≠ ixReg 3 r)) = true ∧
      natBit i.sub.toNat 2 = true ∧ natBits i.sub.toNat 1 0 = g ∧ i.vd % 16 = r) ∧
    (∃ (s : State) (c : CoreSel) (i : CoreWord) (n : Nat) (x : Seen) (g r : Nat), CoreSel.ix c = n ∧ s.seen n i = x ∧
      s.ready n = true ∧ (g = 2 ∨ g = 3) ∧
      x.b.pend.all (fun p => decide (p.idx ≠ ixReg 2 r ∧ p.idx ≠ ixReg 3 r)) = true ∧
      natBits i.sub.toNat 1 0 = g ∧ i.vd % 16 = r) ∧
    (∃ (s : State) (c : CoreSel) (i : CoreWord) (n : Nat) (x : Seen) (g r : Nat), CoreSel.ix c = n ∧ s.seen n i = x ∧
      s.ready n = true ∧ (g = 2 ∨ g = 3) ∧
      x.b.pend.all (fun p => decide (p.idx ≠ ixReg 2 r ∧ p.idx ≠ ixReg 3 r)) = true ∧
      x.moves = true ∧ natBits i.mv.toNat 31 30 = 0 ∧ natBits i.sub.toNat 2 0 = g ∧ i.flg = true ∧ i.vb % 16 = r) :=
  ⟨⟨W.ec { Bank.reset with r := [(195, 32), (211, 64)] } Core.reset, .ec 2, ⟨false, false, 3, 4, 5, 1, 6, 77⟩, 2, _, 2, 3,
      rfl, rfl, by decide +kernel⟩,
   ⟨W.ec { Bank.reset with r := [(195, 32), (211, 64)] } Core.reset, .ec 2, ⟨false, false, 3, 4, 5, 1, 3, 64⟩, 2, _, 3, 3,
      rfl, rfl, by decide +kernel⟩,
   ⟨W.ec { Bank.reset with r := [(195, 32), (211, 64)] } Core.reset, .ec 2, ⟨false, true, 3, 4, 5, 1, 2, 0⟩, 2, _, 2, 5,
      rfl, rfl, by decide +kernel⟩⟩

/-- Only slot 3 of that table is named. -/
theorem W.slots_of_fading (k : Nat) (h : k ≠ 3) : (W.vmS (W.nt 4) (W.wd 2 0)).get (F.VT0_GROUP k) = 0 := by
  have e : (W.vmS (W.nt 4) (W.wd 2 0)).regs.filter (fun p => p.1.1 = 335544336 ∧ p.1.2 ≠ 3) = [] := by decide +kernel
  rw [List.filter_eq_nil_iff] at e
  unfold State.get
  generalize (W.vmS (W.nt 4) (W.wd 2 0)).regs = l at e
  induction l with
  | nil => rfl
  | cons p q ih =>
    have := e p (by simp)
    rw [tabGet, if_neg, ih (fun a ha => e a (by simp [ha]))]
    intro hp
    simp [hp, F.VT0_GROUP, h] at this

/-- A NOTE_OFF for a fading note, and one for an active note, for `Obligations.NoteOffReachesOnlyItsAddressableNote`. -/
theorem test_witness_NoteOffReachesOnlyItsAddressableNote :
    (∃ (s : State) (src : BitVec 8) (w : Quad) (v : VWord), s.takesNow 2 src.toNat w.toNat v = true ∧
      ∀ k : Nat, s.get (F.VT0_GROUP k) = State.vwGroup w.toNat → s.get (F.VT0_NOTE k) = State.vwNote w.toNat →
        s.get (F.VT0_STATE k) = 0 ∨ s.get (F.VT0_STATE k) = 4 ∨ s.get (F.VT0_DET k) ≠ 0) ∧
    (∃ (s : State) (src : BitVec 8) (w : Quad) (v : VWord), s.takesNow 2 src.toNat w.toNat v = true ∧
      s.get (F.VT0_STATE 3) = 1 ∧ s.get (F.VT0_NOTE 3) = State.vwNote w.toNat) := by
  refine ⟨⟨W.vmS (W.nt 4) (W.wd 2 0), 0x58, BitVec.ofNat 128 (W.wd 2 0), W.vw (W.wd 2 0), by decide +kernel, ?_⟩,
    ⟨W.vmS (W.nt 1) (W.wd 2 0), 0x58, BitVec.ofNat 128 (W.wd 2 0), W.vw (W.wd 2 0), by decide +kernel⟩⟩
  intro k hg _
  by_cases h : k = 3
  · subst h; exact .inr (.inl (by decide +kernel))
  · rw [W.slots_of_fading k h] at hg
    exact absurd hg (by decide +kernel)

/-! ### Witnesses of the other statements, clause by clause -/

/-- States and operands that meet the hypotheses of `Obligations.RegisterAccessesComplete`, clause by clause. -/
theorem test_witness_RegisterAccessesComplete :
    (∃ (s : State) (m : Master) (a : BitVec 24), s.performs m a.toNat = true ∧ a.toNat % 4 ≠ 0) ∧
    (∃ (s : State) (m : Master), s.performs m 0x11000C = true) ∧
    (∃ (s : State) (m : Master) (p : Fin 16384), s.performs m (0xC00000 + 64 * p + 12) = true ∧ s.vmPip p = false ∧ s.get (F.PIP1_EN p) = 0) ∧
    (∃ (s : State) (m : Master) (p : Fin 16384), s.performs m (0xC00000 + 64 * p + 12) = true ∧ s.vmPip p = false ∧ s.get (F.PIP1_EN p) ≠ 0) ∧
    (∃ (s : State) (m : Master) (a : BitVec 24), m = .spi ∧ s.isFrozen m.id = true ∧ 0x10000 ≤ a.toNat) ∧
    (∃ (s : State) (m : Master) (a : BitVec 24), m = .spi ∧ s.isFrozen m.id = false ∧ regwin m a.toNat = true) ∧
    (∃ (s : State) (m : Master) (a : BitVec 24), m = .spi ∧ s.isFrozen m.id = false ∧ regwin m a.toNat = false ∧ pairLocal a.toNat = false ∧ s.get F.TWN_STAT_ROLE = 1 ∧ s.get F.TWN_STAT_LANES ≠ 0 ∧ s.get I.TWN_CREDIT = 0) ∧
    (∃ (s : State) (m : Master), m = .pcie ∧ s.pcieBusy = true) ∧
    (∃ (s : State) (m : Master) (k : Fin 4), s.performs m (0x50100 + 4 * k) = true) ∧
    (∃ (s : State), s.performs .steward 0x30020 = true) ∧
    (∃ (s : State) (m : Master), s.reads m 0x50018 = true) ∧
    (∃ (s : State) (m : Master), s.reads m 0x10020 = true) ∧
    (∃ (s : State) (m : Master) (e : SwiEntry) (rest : List SwiEntry), s.reads m 0x14010C = true ∧ s.swiq = e :: rest) ∧
    (∃ (s : State), s.isFrozen 0x50 = true ∧ s.get F.PRT_CTRL_STWRST ≠ 0 ∧ s.get F.CFG_TRIAL_ACTIVE = 0) :=
  ⟨⟨State.reset, .steward, 0x50001, by decide +kernel⟩,
   ⟨State.reset, .pcie, by decide +kernel⟩,
   ⟨State.reset, .steward, 7, by decide +kernel⟩,
   ⟨(W.st [(F.PIP1_EN 7,1)]), .steward, 7, by decide +kernel⟩,
   ⟨(W.st [(F.PRT_FROZEN_M 2, 0x2000000)]), .spi, 0x10000, by decide +kernel⟩,
   ⟨State.reset, .spi, 0x30000, by decide +kernel⟩,
   ⟨(W.st [(F.TWN_STAT_ROLE,1),(F.TWN_STAT_LANES,1),(I.TWN_CREDIT,0)]), .spi, 0x50004, by decide +kernel⟩,
   ⟨({ W.st [] with host := { State.reset.host with pcieq := [⟨.regRead, 4, 0, []⟩] } }), .pcie, by decide +kernel⟩,
   ⟨State.reset, .steward, 3, by decide +kernel⟩,
   ⟨(W.st [(F.MDL_EVT_EVT, 7)]), by decide +kernel⟩,
   ⟨(W.st [(F.QN_LATE_N, 5)]), .pcie, by decide +kernel⟩,
   ⟨({ W.st [] with frc := 0x123456789A }), .spi, by decide +kernel⟩,
   ⟨({ W.st [] with swiq := [⟨1,2,3,4⟩,⟨5,6,7,8⟩] }), .steward, (⟨1,2,3,4⟩), ([⟨5,6,7,8⟩]), by decide +kernel⟩,
   ⟨(W.st [(F.PRT_FROZEN_M 2, 0x10000),(F.PRT_CTRL_STWRST,1)]), by decide +kernel⟩⟩

/-- States and operands that meet the hypotheses of `Obligations.DeliveriesComplete`, clause by clause. -/
theorem test_witness_DeliveriesComplete :
    (∃ (s : State) (n : Fin 256) (frc : Nat), s.toDeliver.find? (fun e => decide (e.1 = n.val)) = some (n.val, frc) ∧ s.get (F.SYS_EVROUTE_KIND n) = 0) ∧
    (∃ (s : State) (n : Fin 256) (frc : Nat) (v : Nat), s.toDeliver.find? (fun e => decide (e.1 = n.val)) = some (n.val, frc) ∧ s.get (F.SYS_EVROUTE_KIND n) = 1 ∧ s.get (F.SYS_EVROUTE_VECTOR n) = v ∧ s.vecSpi v = false ∧ s.get (F.HIF_MSIXV_MASK v) = 0) ∧
    (∃ (s : State) (n : Fin 256) (frc : Nat) (v : Nat), s.toDeliver.find? (fun e => decide (e.1 = n.val)) = some (n.val, frc) ∧ s.get (F.SYS_EVROUTE_KIND n) = 1 ∧ s.get (F.SYS_EVROUTE_VECTOR n) = v ∧ s.vecSpi v = false ∧ s.get (F.HIF_MSIXV_MASK v) ≠ 0) ∧
    (∃ (s : State) (n : Fin 256) (frc : Nat) (p : Nat) (l : Nat), s.toDeliver.find? (fun e => decide (e.1 = n.val)) = some (n.val, frc) ∧ s.get (F.SYS_EVROUTE_KIND n) = 2 ∧ s.get (F.SYS_EVROUTE_PIP n) = p ∧ s.get (F.SYS_EVROUTE_LEVEL n) = l ∧ s.standby = false ∧ s.mirrors = false ∧ s.isEventPip p = true ∧ s.postReason p l = none ∧ s.queueFull l = false) ∧
    (∃ (s : State) (n : Fin 256) (frc : Nat), s.toDeliver.find? (fun e => decide (e.1 = n.val)) = some (n.val, frc) ∧ s.get (F.SYS_EVROUTE_KIND n) = 3) ∧
    (∃ (s : State) (h : HeldPost), s.qn.held = [h] ∧ h.kind = .pip ∧ h.level = none ∧ h.core = none ∧ s.host.pcieq = [] ∧ s.postReason h.pip (s.postLevel h.pip) = none ∧ s.queueFull (s.postLevel h.pip) = false ∧ s.get (F.PIP1_TS h.pip) = 0) ∧
    (∃ (s : State) (c : PCmd), s.scn.cmds = [c] ∧ c.n / s.blockLen ≤ s.blockIx ∧ s.preparing = true ∧ s.rampsFree ≠ 0 ∧ s.host.pcieq = [] ∧ s.scn.waiting = []) ∧
    (∃ (s : State) (i : MItem) (off : Fin 67108864) (bs : List (Option Byte)), s.get F.TWN_STAT_ROLE = 1 ∧ s.twin.items = [i] ∧ i.tick ≤ s.frc ∧ i.acked = true ∧ i.item = .hostOrchard .pcie off bs ∧ (enabledCells off bs).all (fun c => s.admits (bankOf c.1) (.other Master.pcie.id)) = true ∧ s.itemWaits i.item = false) ∧
    (∃ (s : State) (i : MItem), (s.isFrozen Master.twin.id = false ∨ s.standby = false) ∧ s.twin.items = [i] ∧ i.tick ≤ s.frc ∧ s.itemWaits i.item = true) ∧
    (∃ (s : State) (i : MItem) (a : BitVec 24) (w : Word), s.get F.TWN_STAT_ROLE = 2 ∧ s.get F.TWN_STAT_SYNC = 2 ∧ s.twin.items = [i] ∧ i.tick ≤ s.frc ∧ i.item = .write .pcie a w ∧ s.isFrozen Master.twin.id = false ∧ regwin .twin a.toNat = true) :=
  ⟨⟨({ W.st [(F.SYS_EVROUTE_KIND 9,0)] with toDeliver := [(9,77)] }), 9, 77, by decide +kernel⟩,
   ⟨({ W.st [(F.SYS_EVROUTE_KIND 9,1),(F.SYS_EVROUTE_VECTOR 9,35),(F.HIF_MSIXV_MASK 35,0)] with toDeliver := [(9,77),(10,3)] }), 9, 77, 35, by decide +kernel⟩,
   ⟨({ W.st [(F.SYS_EVROUTE_KIND 9,1),(F.SYS_EVROUTE_VECTOR 9,35),(F.HIF_MSIXV_MASK 35,1)] with toDeliver := [(9,77),(10,3)] }), 9, 77, 35, by decide +kernel⟩,
   ⟨((({ W.evst with toDeliver := [(9,77)] }.set (F.SYS_EVROUTE_KIND 9) 2).set (F.SYS_EVROUTE_PIP 9) 2).set (F.SYS_EVROUTE_LEVEL 9) 5), 9, 77, 2, 5, by decide +kernel⟩,
   ⟨({ W.st [(F.SYS_EVROUTE_KIND 9,3)] with toDeliver := [(9,77)] }), 9, 77, by decide +kernel⟩,
   ⟨({ W.evst with qn := { State.reset.qn with held := [⟨.pip, 3, 2, none, 99, none⟩] } }), (⟨.pip, 3, 2, none, 99, none⟩), by decide +kernel⟩,
   ⟨({ W.grun [(F.SYS_ENGINE_STATE,2)] with scn := { State.reset.scn with cmds := [⟨5, 65, 77, 8, 1, 0x58⟩] } }), (⟨5, 65, 77, 8, 1, 0x58⟩), by decide +kernel⟩,
   ⟨({ W.st [(F.TWN_STAT_ROLE,1),(F.ORC_OWN_OWNER 0,0x58)] with twin := { State.reset.twin with items := [⟨0, .hostOrchard .pcie 3 [some 5, none, some 6], 4, true⟩] } }), (⟨0, .hostOrchard .pcie 3 [some 5, none, some 6], 4, true⟩), 3, ([some 5, none, some 6]), by decide +kernel⟩,
   ⟨({ W.st [(F.TWN_STAT_ROLE,1),(F.ORC_OWN_OWNER 0,0x58),(F.ORC_OWN_PENDING 0,1)] with twin := { State.reset.twin with items := [⟨0, .hostOrchard .pcie 3 [some 5], 4, true⟩] } }), (⟨0, .hostOrchard .pcie 3 [some 5], 4, true⟩), by decide +kernel⟩,
   ⟨({ W.st [(F.TWN_STAT_ROLE,2),(F.TWN_STAT_SYNC,2)] with twin := { State.reset.twin with items := [⟨0, .write .pcie 0x20004 3, 4, true⟩] } }), (⟨0, .write .pcie 0x20004 3, 4, true⟩), 0x20004, 3, by decide +kernel⟩⟩

/-- States and operands that meet the hypotheses of `Obligations.HostAccessesComplete`, clause by clause. -/
theorem test_witness_HostAccessesComplete :
    (∃ (s : State) (a : BitVec 24), s.reads .pcie a.toNat = true ∧ a.toNat = 0x50018) ∧
    (∃ (s : State) (off : Fin 67108864) (bs : List (Option Byte)), s.pcieBusy = false ∧ s.isFrozen 0x58 = false ∧ s.standby = false ∧ s.mirrors = false ∧ (enabledCells off bs).all (fun c => s.admits (bankOf c.1) (.other 0x58)) = true ∧ (enabledCells off bs).all (fun c => decide (s.get (F.ORC_OWN_PENDING (bankOf c.1)) = 0)) = true) ∧
    (∃ (s : State) (off : Fin 67108864) (bs : List (Option Byte)), s.pcieBusy = false ∧ s.isFrozen 0x58 = false ∧ s.standby = false ∧ s.mirrors = false ∧ (enabledCells off bs).all (fun c => s.admits (bankOf c.1) (.other 0x58)) = true ∧ (enabledCells off bs).any (fun c => decide (s.get (F.ORC_OWN_PENDING (bankOf c.1)) ≠ 0)) = true) ∧
    (∃ (s : State) (off : Fin 67108864) (bs : List (Option Byte)), s.pcieBusy = false ∧ s.isFrozen 0x58 = false ∧ (enabledCells off (bs.map (fun _ => some 0))).all (fun c => s.admits (bankOf c.1) (.other 0x58)) = true ∧ (enabledCells off (bs.map (fun _ => some 0))).all (fun c => decide (s.get (F.ORC_OWN_PENDING (bankOf c.1)) = 0)) = true) ∧
    (∃ (s : State) (off : Fin 268435456) (bs : List (Option Byte)), s.pcieBusy = false ∧ s.isFrozen 0x58 = false ∧ s.standby = false ∧ s.mirrors = false ∧ s.get (F.HIF_DWIN_BASE 0) * 0x100000 + off + bs.length ≤ s.dramSize) ∧
    (∃ (s : State) (off : Fin 268435456) (bs : List (Option Byte)), s.pcieBusy = false ∧ s.isFrozen 0x58 = false ∧ s.dramSize < s.get (F.HIF_DWIN_BASE 0) * 0x100000 + off + bs.length) ∧
    (∃ (s : State) (n : Word), s.performs .pcie 0x100038 = true ∧ s.seqKind 0 n.toNat = .go ∧ s.stagedWord 0x58 0x100030 = 0x100088 ∧ s.stagedWord 0x58 0x100034 = 0) ∧
    (∃ (s : State) (n : Word), s.performs .pcie 0x100038 = true ∧ s.seqKind 0 n.toNat = .dup ∧ s.stagedWord 0x58 0x100030 = 0x100088 ∧ s.stagedWord 0x58 0x100034 = 0) ∧
    (∃ (s : State) (off : Fin 67108864), off.val % 4 = 0 ∧ s.isFrozen 0x59 = false ∧ s.standby = false ∧ s.mirrors = false ∧ s.admits (bankOf off) (.other 0x59) = true ∧ s.get (F.ORC_OWN_PENDING (bankOf off)) = 0) ∧
    (∃ (s : State) (off : Fin 67108864), off.val % 4 = 0 ∧ s.isFrozen 0x59 = false ∧ s.admits (bankOf off) (.other 0x59) = true ∧ s.host.spiHeld = none ∧ s.get (F.ORC_OWN_PENDING (bankOf off)) = 0) ∧
    (∃ (s : State) (off : Fin 67108864), off.val % 4 = 0 ∧ s.isFrozen 0x59 = false ∧ s.admits (bankOf off) (.other 0x59) = true ∧ s.host.spiHeld = none ∧ s.get (F.ORC_OWN_PENDING (bankOf off)) ≠ 0) ∧
    (∃ (s : State) (a : Word) (len : Fin 256) (ws : List Nat), s.isFrozen 0x59 = false ∧ ((List.range (len + 1)).map (fun i => spiPlace (a.toNat + 4 * i))).any (s.placeBad s.spiBase) = false ∧ s.host.spiHeld = some (a.toNat, len.val, ws)) ∧
    (∃ (s : State) (seq : Word), s.isFrozen 0x59 = false ∧ s.seqKind 1 seq.toNat = .go ∧ s.standby = false) ∧
    (∃ (s : State) (seq : Word), s.isFrozen 0x59 = false ∧ s.seqKind 1 seq.toNat = .bad) :=
  ⟨⟨(W.st [(F.QN_LATE_N, 5)]), 0x50018, by decide +kernel⟩,
   ⟨(W.st [(F.ORC_OWN_OWNER 0,0x58)]), 3, ([some 5, none, some 6]), by decide +kernel⟩,
   ⟨(W.st [(F.ORC_OWN_OWNER 0,0x58),(F.ORC_OWN_PENDING 0,1)]), 3, ([some 5]), by decide +kernel⟩,
   ⟨({ W.st [(F.ORC_OWN_OWNER 0,0x58)] with orchard := [(4,7)] }), 3, ([none, none, some 6]), by decide +kernel⟩,
   ⟨(W.st [(F.DMC_STAT_STATE,2),(F.DMC_STAT_SIZE,256),(F.HIF_DWIN_BASE 0,3)]), 3, ([some 5, none, some 6]), by decide +kernel⟩,
   ⟨State.reset, 3, ([some 5, none, some 6]), by decide +kernel⟩,
   ⟨({ W.st [] with staged := [((0x100030,0x58),2*0x100088+1),((0x100040,0x58),155)] }), 1, by decide +kernel⟩,
   ⟨({ W.st [] with staged := [((0x100030,0x58),2*0x100088+1),((0x100040,0x58),155)] }), 0, by decide +kernel⟩,
   ⟨(W.st [(F.ORC_OWN_OWNER 0,0x59)]), 8, by decide +kernel⟩,
   ⟨({ W.st [(F.ORC_OWN_OWNER 0,0x59)] with orchard := [(9,7)] }), 8, by decide +kernel⟩,
   ⟨(W.st [(F.ORC_OWN_OWNER 0,0x59),(F.ORC_OWN_PENDING 0,1)]), 8, by decide +kernel⟩,
   ⟨({ W.st [] with host := { State.reset.host with spiHeld := some (0x10000008,1,[3,4]) } }), 0x10000008, 1, ([3,4]), by decide +kernel⟩,
   ⟨State.reset, 1, by decide +kernel⟩,
   ⟨State.reset, 2, by decide +kernel⟩⟩

/-- States and operands that meet the hypotheses of `Obligations.UnfreezeCommandsComplete`, clause by clause. -/
theorem test_witness_UnfreezeCommandsComplete :
    (∃ (s : State) (m : Master) (x : BitVec 8), s.performs m 0x34 = true ∧ (isHost m = false ∨ s.isFrozen m.id = false ∨ x.toNat = m.id) ∧ State.masterValid x.toNat = false) ∧
    (∃ (s : State) (m : Master) (x : BitVec 8), s.performs m 0x34 = true ∧ (isHost m = false ∨ s.isFrozen m.id = false ∨ x.toNat = m.id) ∧ State.masterValid x.toNat = true ∧ s.isFrozen x.toNat = false) ∧
    (∃ (s : State) (m : Master) (x : BitVec 8), s.performs m 0x34 = true ∧ (isHost m = false ∨ s.isFrozen m.id = false ∨ x.toNat = m.id) ∧ (x.toNat = 0x58 ∨ x.toNat = 0x59 ∨ x.toNat = 0x5B) ∧ s.isFrozen x.toNat = true) ∧
    (∃ (s : State) (m : Master) (x : BitVec 8) (n : Nat), s.performs m 0x34 = true ∧ (isHost m = false ∨ s.isFrozen m.id = false ∨ x.toNat = m.id) ∧ x.toNat < 72 ∧ s.isFrozen x.toNat = true ∧ s.logicalOf x.toNat = some n ∧ (s.core n).vskip = true) ∧
    (∃ (s : State) (m : Master) (x : BitVec 8) (n : Nat) (r : PipRun), s.performs m 0x34 = true ∧ (isHost m = false ∨ s.isFrozen m.id = false ∨ x.toNat = m.id) ∧ x.toNat < 72 ∧ s.isFrozen x.toNat = true ∧ s.logicalOf x.toNat = some n ∧ (State.activeBank (s.core n)).run = some r ∧ r.ev = none ∧ s.qn.held = []) :=
  ⟨⟨State.reset, .steward, 200, by decide +kernel⟩,
   ⟨State.reset, .steward, 3, by decide +kernel⟩,
   ⟨(W.st [(F.PRT_FROZEN_M 2, 0x3000000)]), .steward, 0x58, by decide +kernel⟩,
   ⟨({ W.st [(F.PRT_FROZEN_M 0, 4)] with cores := [(2, { Core.reset with frozen := true, vskip := true })] }), .steward, 2, 2, by decide +kernel⟩,
   ⟨({ W.st [(F.PRT_FROZEN_M 0, 4),(F.PIP1_EN 2,1)] with cores := [(2, { Core.reset with frozen := true, vskip := true, p := { Core.reset.p with run := some W.run0 } })] }), .steward, 2, 2, W.run0, by decide +kernel⟩⟩

/-- States and operands that meet the hypotheses of `Obligations.ClaimsAndRoutesComplete`, clause by clause. -/
theorem test_witness_ClaimsAndRoutesComplete :
    (∃ (s : State) (m : Master) (slot : Fin 2048), s.performs m (0x2000 + 4 * slot) = true ∧ 1632 ≤ slot.val ∧ slot.val ≤ 1695 ∧ (s.get (F.SYS_CLAIM_OWNER slot) = 0 ∨ s.get (F.SYS_CLAIM_OWNER slot) = 0xFF00 + m.id)) ∧
    (∃ (s : State) (m : Master) (slot : Fin 2048), s.performs m (0x2000 + 4 * slot) = true ∧ 1632 ≤ slot.val ∧ slot.val ≤ 1695 ∧ s.get (F.SYS_CLAIM_OWNER slot) ≠ 0 ∧ s.get (F.SYS_CLAIM_OWNER slot) ≠ 0xFF00 + m.id) ∧
    (∃ (s : State) (m : Master) (slot : Fin 2048), s.performs m (0x2000 + 4 * slot) = true ∧ (s.get (F.SYS_CLAIM_OWNER slot) = 0xFF00 + m.id ∨ (m = .steward ∧ 0xFF00 ≤ s.get (F.SYS_CLAIM_OWNER slot)))) ∧
    (∃ (s : State) (m : Master) (slot : Fin 2048), s.performs m (0x2000 + 4 * slot) = true ∧ s.get (F.SYS_CLAIM_OWNER slot) ≠ 0xFF00 + m.id ∧ m ≠ .steward) ∧
    (∃ (s : State) (m : Master) (n : Fin 256) (w : Word), s.performs m (0x400 + 4 * n) = true ∧ natBits w.toNat 31 30 ≠ 2 ∧ (s.evPending n = false ∨ (F.SYS_EVROUTE_KIND n).of w.toNat = s.get (F.SYS_EVROUTE_KIND n) ∧ (F.SYS_EVROUTE_LEVEL n).of w.toNat = s.get (F.SYS_EVROUTE_LEVEL n) ∧ (F.SYS_EVROUTE_VECTOR n).of w.toNat = s.get (F.SYS_EVROUTE_VECTOR n) ∧ (F.SYS_EVROUTE_PIP n).of w.toNat = s.get (F.SYS_EVROUTE_PIP n))) :=
  ⟨⟨State.reset, .steward, 1650, by decide +kernel⟩,
   ⟨(W.st [(F.SYS_CLAIM_OWNER 1695, 0xC02)]), .steward, 1695, by decide +kernel⟩,
   ⟨(W.st [(F.SYS_CLAIM_OWNER 1650, 0xFF58)]), .steward, 1650, by decide +kernel⟩,
   ⟨(W.st [(F.SYS_CLAIM_OWNER 5, 0xFF50)]), .pcie, 5, by decide +kernel⟩,
   ⟨State.reset, .steward, 2, 0xF0001234, by decide +kernel⟩⟩

/-- States and operands that meet the hypotheses of `Obligations.EngineRequestsComplete`, clause by clause. -/
theorem test_witness_EngineRequestsComplete :
    (∃ (s : State) (m : Master) (a : Bool), s.performs m 0x10 = true ∧ s.get F.SYS_ENGINE_STATE = 0 ∧ s.targetOk a = true) ∧
    (∃ (s : State) (m : Master) (a : Bool), s.performs m 0x10 = true ∧ (s.get F.SYS_ENGINE_STATE = 1 ∨ s.get F.SYS_ENGINE_STATE = 2) ∧ s.get I.ENG_STOPP ≠ 0 ∧ s.targetOk a = true) ∧
    (∃ (s : State) (m : Master) (a : Bool), s.performs m 0x10 = true ∧ s.targetOk a = false) ∧
    (∃ (s : State) (m : Master) (a : Bool), s.performs m 0x10 = true ∧ s.targetOk a = false) ∧
    (∃ (s : State) (m : Master) (a : Bool), s.performs m 0x10 = true ∧ s.get F.SYS_ENGINE_STATE = 3 ∧ s.targetOk a = true) ∧
    (∃ (s : State) (m : Master) (a : Bool), s.performs m 0x10 = true ∧ s.get F.SYS_ENGINE_STATE = 2 ∧ s.get I.ENG_STOPP = 0 ∧ s.targetOk a = true) ∧
    (∃ (s : State) (m : Master) (a : Bool), s.performs m 0x10 = true ∧ s.get F.SYS_ENGINE_STATE = 1 ∧ s.get I.ENG_STOPP = 0 ∧ s.get I.ENG_LANDED = 0 ∧ s.frc < s.get I.ENG_TGT ∧ s.targetOk a = true) ∧
    (∃ (s : State) (m : Master) (a : Bool), s.performs m 0x10 = true ∧ s.get F.SYS_ENGINE_STATE = 3 ∧ s.targetOk a = true) :=
  ⟨⟨State.reset, .steward, false, by decide +kernel⟩,
   ⟨(W.st [(F.SYS_ENGINE_STATE,2),(I.ENG_STOPP,1)]), .steward, false, by decide +kernel⟩,
   ⟨({ W.st [(F.SYS_ENGINE_STATE,3)] with frc := 100 }), .steward, true, by decide +kernel⟩,
   ⟨({ W.st [(F.SYS_ENGINE_STATE,1),(I.ENG_STOPP,1)] with frc := 100 }), .steward, true, by decide +kernel⟩,
   ⟨(W.st [(F.SYS_ENGINE_STATE,3)]), .steward, false, by decide +kernel⟩,
   ⟨(W.st [(F.SYS_ENGINE_STATE,2),(F.SYS_ENGINE_RUN,1)]), .steward, false, by decide +kernel⟩,
   ⟨(W.st [(F.SYS_ENGINE_STATE,1),(F.SYS_ENGINE_RUN,1),(I.ENG_TGT,200)]), .steward, false, by decide +kernel⟩,
   ⟨(W.st [(F.SYS_ENGINE_STATE,3),(I.ENG_RESTART,1)]), .steward, false, by decide +kernel⟩⟩

/-- States and operands that meet the hypotheses of `Obligations.ReferenceEventsComplete`, clause by clause. -/
theorem test_witness_ReferenceEventsComplete :
    (∃ (s : State) (i : Fin 5), (s.refTake i).refPresent i = true ∧ s.get (F.CLK_REFPRI_EN i) = 1 ∧ s.refsServe = true ∧ s.get F.CLK_STAT_MODE = clkHOLDOVER ∧ (s.get I.CLK_LOST = i.val ∨ s.get I.CLK_HOEXP ≠ 0)) ∧
    (∃ (s : State) (i : Fin 5), (s.refTake i).refPresent i = true ∧ s.get F.CLK_STAT_MODE ≠ clkHOLDOVER ∧ s.get F.CLK_STAT_MODE ≠ clkFREERUN) ∧
    (∃ (s : State) (i : Fin 5), (s.refTake i).refPresent i = false) ∧
    (∃ (s : State) (i : Fin 5), s.following = true ∧ s.get F.CLK_STAT_ACTIVE = i.val ∧ s.get F.CLK_CTRL_HOLDOVER_MAX ≠ 0) ∧
    (∃ (s : State), s.following = true ∧ s.refsServe = true) ∧
    (∃ (s : State) (missing : Bool), s.following = true ∧ s.refsServe = true ∧ (missing = true ∨ 16 ≤ s.get I.CLK_GLRUN) ∧ s.get F.CLK_CTRL_HOLDOVER_MAX ≠ 0) ∧
    (∃ (s : State) (i : Fin 5), s.following = true ∧ s.refsServe = true ∧ s.get F.CLK_CTRL_HOLDOVER_MAX = 0 ∧ s.get F.CLK_STAT_ACTIVE < 5 ∧ s.bestRef (s.get F.CLK_STAT_ACTIVE) = some i) ∧
    (∃ (s : State) (i : Fin 5), s.get F.CLK_STAT_MODE = clkHOLDOVER ∧ s.get I.CLK_HOEXP = 0 ∧ s.refsServe = true ∧ s.bestRef (s.get I.CLK_LOST) = some i) ∧
    (∃ (s : State), s.get F.CLK_STAT_MODE = clkHOLDOVER ∧ s.get I.CLK_HOEXP = 0 ∧ s.refsServe = true ∧ s.bestRef (s.get I.CLK_LOST) = none) ∧
    (∃ (s : State), s.get F.CLK_STAT_MODE = clkPULLING ∧ s.refReached = true) ∧
    (∃ (s : State) (i : Fin 5), s.following = true ∧ s.refsServe = true ∧ s.get F.CLK_CTRL_REVERT ≠ 0 ∧ s.refUsable i = true ∧ i.val < s.get F.CLK_STAT_ACTIVE) ∧
    (∃ (s : State) (i : Fin 5), s.get F.CLK_STAT_MODE = clkACQUIRE ∧ s.refsServe = true ∧ s.bestRef 7 = some i) ∧
    (∃ (s : State), s.get F.CLK_STAT_MODE = clkACQUIRE ∧ s.bestRef 7 = none) :=
  ⟨⟨(W.st [(F.CLK_STAT_MODE, 3),(I.CLK_LOST,2),(F.CLK_REFPRI_EN 2,1)]), 2, by decide +kernel⟩,
   ⟨(W.st [(F.CLK_REFPRI_EN 2,1)]), 2, by decide +kernel⟩,
   ⟨(W.st [(F.CLK_REFPRI_EN 2,1),(F.CLK_REFPRI_KIND 2,2),(F.CLK_REFPRI_QUAL 2,1)]), 2, by decide +kernel⟩,
   ⟨(W.st [(F.CLK_STAT_MODE, 1),(F.CLK_STAT_ACTIVE,2),(F.CLK_CTRL_HOLDOVER_MAX,5)]), 2, by decide +kernel⟩,
   ⟨(W.st [(F.CLK_STAT_MODE, 1),(F.CLK_STAT_ACTIVE,2)]), by decide +kernel⟩,
   ⟨(W.st [(F.CLK_STAT_MODE, 2),(F.CLK_STAT_ACTIVE,2),(F.CLK_CTRL_HOLDOVER_MAX,5)]), true, by decide +kernel⟩,
   ⟨(W.st [(F.CLK_STAT_MODE, 2),(F.CLK_STAT_ACTIVE,1),(I.REF_EN 2,1),(F.CLK_REFPRI_QUAL 2,1),(F.CLK_CTRL_HOLDOVER_MAX,0)]), 2, by decide +kernel⟩,
   ⟨(W.st [(F.CLK_STAT_MODE, 3),(I.CLK_LOST,1),(I.REF_EN 2,1),(F.CLK_REFPRI_QUAL 2,1)]), 2, by decide +kernel⟩,
   ⟨(W.st [(F.CLK_STAT_MODE, 3),(I.CLK_LOST,1),(I.REF_EN 1,1),(F.CLK_REFPRI_QUAL 1,1)]), by decide +kernel⟩,
   ⟨(W.st [(F.CLK_STAT_MODE, 2)]), by decide +kernel⟩,
   ⟨(W.st [(F.CLK_STAT_MODE, 1),(F.CLK_STAT_ACTIVE,3),(I.REF_EN 2,1),(F.CLK_REFPRI_QUAL 2,1),(F.CLK_CTRL_REVERT,1)]), 2, by decide +kernel⟩,
   ⟨(W.st [(I.REF_EN 2,1),(F.CLK_REFPRI_QUAL 2,1)]), 2, by decide +kernel⟩,
   ⟨State.reset, by decide +kernel⟩⟩

/-- States and operands that meet the hypotheses of `Obligations.ClockWritesComplete`, clause by clause. -/
theorem test_witness_ClockWritesComplete :
    (∃ (s : State) (m : Master) (w : Word) (i : Fin 5), s.performs m (0x10040 + 4 * i) = true ∧ s.refpriBad w.toNat = false ∧ (¬(s.get F.CLK_STAT_ACTIVE = i.val ∧ s.get F.CLK_STAT_MODE ≠ clkFREERUN))) ∧
    (∃ (s : State) (m : Master) (w : Word) (i : Fin 5), s.performs m (0x10040 + 4 * i) = true ∧ s.refpriBad w.toNat = false ∧ s.get F.CLK_STAT_ACTIVE = i.val ∧ s.get F.CLK_STAT_MODE ≠ clkFREERUN ∧ s.bestRef i = none) ∧
    (∃ (s : State) (m : Master), s.performs m 0x10000 = true ∧ s.get F.SYS_ENGINE_STATE = 0 ∧ s.clockUsersOff = true) ∧
    (∃ (s : State) (m : Master), s.performs m 0x10000 = true ∧ (s.get F.SYS_ENGINE_STATE ≠ 0 ∨ s.clockUsersOff = false)) ∧
    (∃ (s : State) (m : Master), s.performs m 0x10030 = true ∧ s.get F.SYS_ENGINE_STATE = 0 ∧ s.pair F.CLK_FRC_SET_LO_V F.CLK_FRC_SET_HI_V % 64 = 0) ∧
    (∃ (s : State), s.get I.FRC_LOADP ≠ 0 ∧ s.get F.CLK_STAT_MODE ≠ clkACQUIRE) ∧
    (∃ (s : State) (m : Master) (w : Word), s.performs m 0x20 = true ∧ s.get F.SYS_ENGINE_STATE = 0 ∧ F.SYS_RATE_MULT.of w.toNat ≠ 3) ∧
    (∃ (s : State) (m : Master), s.performs m 0x20 = true ∧ s.get F.SYS_ENGINE_STATE ≠ 0) ∧
    (∃ (s : State), s.get I.RATE_PEND ≠ 0 ∧ s.get I.RATE_AT ≤ s.frc) :=
  ⟨⟨State.reset, .steward, 0x80000000, 2, by decide +kernel⟩,
   ⟨(W.st [(F.CLK_STAT_MODE, 1),(F.CLK_STAT_ACTIVE,2),(F.CLK_REFPRI_QUAL 2,1),(I.REF_EN 2,1)]), .steward, 0x80000000, 2, by decide +kernel⟩,
   ⟨State.reset, .steward, by decide +kernel⟩,
   ⟨(W.st [(F.SYS_ENGINE_STATE,2)]), .steward, by decide +kernel⟩,
   ⟨(W.st [(F.CLK_FRC_SET_LO_V,128)]), .steward, by decide +kernel⟩,
   ⟨(W.st [(I.FRC_LOADP,1),(I.FRC_LOADV,128),(F.CLK_STAT_MODE,1)]), by decide +kernel⟩,
   ⟨State.reset, .steward, 0x3, by decide +kernel⟩,
   ⟨(W.st [(F.SYS_ENGINE_STATE,2)]), .steward, by decide +kernel⟩,
   ⟨(W.st [(I.RATE_PEND,1),(F.SYS_RATE_FAMILY,1)]), by decide +kernel⟩⟩

/-- States and operands that meet the hypotheses of `Obligations.ClockOutputsComplete`, clause by clause. -/
theorem test_witness_ClockOutputsComplete :
    (∃ (s : State) (m : Master) (n : Fin 8), s.performs m (0x10060 + 4 * n) = true ∧ 6 ≤ s.get (F.CLK_MCLKO_DIV n) ∧ s.get (F.CLK_MCLKO_DIV n) < 16 ∧ s.get (F.CLK_MCLKO_EN n) = 0 ∧ s.get (F.CLK_MCLKO_STATE n) = unitOFF ∧ s.get (F.SYS_CLAIM_OWNER (State.mclkoSlot n)) = 0) ∧
    (∃ (s : State) (m : Master) (n : Fin 8), s.performs m (0x10060 + 4 * n) = true ∧ 6 ≤ s.get (F.CLK_MCLKO_DIV n) ∧ s.get (F.CLK_MCLKO_DIV n) < 16 ∧ s.get (F.CLK_MCLKO_EN n) ≠ 0 ∧ (s.get (F.CLK_MCLKO_STATE n) = unitSTARTING ∨ s.get (F.CLK_MCLKO_STATE n) = unitON)) ∧
    (∃ (s : State) (m : Master) (n : Fin 8) (div : Fin 16), s.performs m (0x10060 + 4 * n) = true ∧ 6 ≤ div.val ∧ s.get (F.CLK_MCLKO_EN n) < 2) ∧
    (∃ (s : State) (m : Master) (n : Fin 8) (div : Fin 16), s.performs m (0x10060 + 4 * n) = true ∧ div.val < 6) ∧
    (∃ (s : State) (n : Fin 8), s.get (F.CLK_MCLKO_STATE n) = unitSTARTING) ∧
    (∃ (s : State) (n : Fin 8), s.get (F.CLK_MCLKO_STATE n) = unitSHUTTING ∧ s.get (F.CLK_MCLKO_EN n) = 0) ∧
    (∃ (s : State) (n : Fin 8), s.get (F.CLK_MCLKO_STATE n) = unitSHUTTING ∧ s.get (F.CLK_MCLKO_EN n) ≠ 0) ∧
    (∃ (s : State) (m : Master) (src : Fin 4), s.performs m 0x10080 = true ∧ src.val ≠ 3 ∧ s.get F.CLK_SYNCOUT_EN = 0 ∧ s.get F.CLK_SYNCOUT_STATE = unitOFF ∧ s.get (F.SYS_CLAIM_OWNER State.syncoutSlot) = 0) ∧
    (∃ (s : State) (m : Master), s.performs m 0x10080 = true ∧ s.get F.CLK_SYNCOUT_SRC < 3 ∧ s.get F.CLK_SYNCOUT_EN ≠ 0 ∧ (s.get F.CLK_SYNCOUT_STATE = unitSTARTING ∨ s.get F.CLK_SYNCOUT_STATE = unitON)) ∧
    (∃ (s : State), s.get F.CLK_SYNCOUT_STATE = unitSTARTING) ∧
    (∃ (s : State), s.get F.CLK_SYNCOUT_STATE = unitSHUTTING ∧ s.get F.CLK_SYNCOUT_EN = 0) :=
  ⟨⟨(W.st [(F.CLK_MCLKO_DIV 2,8)]), .steward, 2, by decide +kernel⟩,
   ⟨(W.st [(F.CLK_MCLKO_DIV 2,8),(F.CLK_MCLKO_EN 2,1),(F.CLK_MCLKO_STATE 2,2)]), .steward, 2, by decide +kernel⟩,
   ⟨State.reset, .steward, 2, 7, by decide +kernel⟩,
   ⟨State.reset, .steward, 2, 5, by decide +kernel⟩,
   ⟨(W.st [(F.CLK_MCLKO_STATE 2,1)]), 2, by decide +kernel⟩,
   ⟨(W.st [(F.CLK_MCLKO_STATE 2,3),(F.SYS_CLAIM_OWNER 287,0x102)]), 2, by decide +kernel⟩,
   ⟨(W.st [(F.CLK_MCLKO_STATE 2,3),(F.CLK_MCLKO_EN 2,1)]), 2, by decide +kernel⟩,
   ⟨State.reset, .steward, 2, by decide +kernel⟩,
   ⟨(W.st [(F.CLK_SYNCOUT_EN,1),(F.CLK_SYNCOUT_STATE,2)]), .steward, by decide +kernel⟩,
   ⟨(W.st [(F.CLK_SYNCOUT_STATE,1)]), by decide +kernel⟩,
   ⟨(W.st [(F.CLK_SYNCOUT_STATE,3)]), by decide +kernel⟩⟩

/-- States and operands that meet the hypotheses of `Obligations.EngineTargetsComplete`, clause by clause. -/
theorem test_witness_EngineTargetsComplete :
    (∃ (s : State), s.get F.SYS_ENGINE_STATE = 1 ∧ s.get I.ENG_LANDED = 0 ∧ s.reached (s.get I.ENG_TGT) = true) ∧
    (∃ (s : State), s.get F.SYS_ENGINE_STATE = 1 ∧ s.get I.ENG_LANDED ≠ 0 ∧ s.get I.ENG_STOPP = 0 ∧ s.reached (s.get I.ENG_TGT + s.blockLen) = true) ∧
    (∃ (s : State), (s.get F.SYS_ENGINE_STATE = 1 ∨ s.get F.SYS_ENGINE_STATE = 2) ∧ s.get I.ENG_STOPP ≠ 0 ∧ s.reached (s.get I.ENG_STOPT) = true) ∧
    (∃ (s : State), s.get F.SYS_ENGINE_STATE = 3 ∧ s.reached (s.get I.ENG_STOPT + 2 * s.blockLen) = true ∧ s.get I.ENG_RESTART = 0) ∧
    (∃ (s : State), s.get F.SYS_ENGINE_STATE = 3 ∧ s.reached (s.get I.ENG_STOPT + 2 * s.blockLen) = true ∧ s.get I.ENG_RESTART ≠ 0) :=
  ⟨⟨(W.st [(F.SYS_ENGINE_STATE,1)]), by decide +kernel⟩,
   ⟨({ W.st [(F.SYS_ENGINE_STATE,1),(I.ENG_LANDED,1),(I.ENG_TGT,0),(F.PIP1_EN 2,1),(F.PIP1_REC 2,1)] with frc := 64 }), by decide +kernel⟩,
   ⟨({ W.st [(F.SYS_ENGINE_STATE,2),(I.ENG_STOPP,1),(I.ENG_STOPT,256),(F.SCN_RCL_STATE,1)] with frc := 256 }), by decide +kernel⟩,
   ⟨({ W.st [(F.SYS_ENGINE_STATE,3),(I.ENG_STOPT,256)] with frc := 288, frcPrev := 0 }), by decide +kernel⟩,
   ⟨({ W.st [(F.SYS_ENGINE_STATE,3),(I.ENG_STOPT,256),(I.ENG_RESTART,1)] with frc := 288 }), by decide +kernel⟩⟩

/-- States and operands that meet the hypotheses of `Obligations.TickAndDeadlineComplete`, clause by clause. -/
theorem test_witness_TickAndDeadlineComplete :
    (∃ (s : State), s.clockRuns = true ∧ s.tickFrc < 2 ^ 64 ∧ s.twin.items = []) ∧
    (∃ (s : State), s.clockRuns = true ∧ s.phRunning = true ∧ s.get I.QN_OVRBLK ≠ s.blockIx ∧ s.frc % s.blockLen = 0 ∧ s.deadline / s.sampleCycles < s.blockLen ∧ s.frc + s.blockLen ≤ 2 ^ 64 ∧ s.lateSinks (s.blockIx - 1) ≠ []) ∧
    (∃ (s : State), s.clockRuns = true ∧ s.phRunning = true ∧ s.frc % s.blockLen = 0 ∧ s.deadline / s.sampleCycles < s.blockLen ∧ s.frc + s.blockLen ≤ 2 ^ 64 ∧ s.lateSinks (s.blockIx - 1) = []) :=
  ⟨⟨({ W.st [(I.CLK_STARTED,1),(F.CLK_STAT_MODE,1),(F.SYS_PWR_STATE,1)] with frc := 5 }), by decide +kernel⟩,
   ⟨({ W.st [(I.CLK_STARTED,1),(F.CLK_STAT_MODE,1),(F.SYS_PWR_STATE,1),(I.QN_ARMBLK,2),(F.PIP1_EN 2,1),(F.PIP1_SINK 2,1),(I.PIP_ARM 2,1),(I.PIP_BLK 2,1),(F.QN_DEADLINE_V,40000)] with frc := 32 }), by decide +kernel⟩,
   ⟨({ W.st [(I.CLK_STARTED,1),(F.CLK_STAT_MODE,1),(F.SYS_PWR_STATE,1),(I.QN_ARMBLK,2),(F.QN_DEADLINE_V,40000)] with frc := 32 }), by decide +kernel⟩⟩

/-- States and operands that meet the hypotheses of `Obligations.VectorAluComplete`, clause by clause. -/
theorem test_witness_VectorAluComplete :
    (∃ (s : State) (c : CoreSel) (i : CoreWord) (n : Nat) (x : Seen), CoreSel.ix c = n ∧ s.seen n i = x ∧ s.ready n = true ∧ x.moves = true) ∧
    (∃ (s : State) (c : CoreSel) (i : CoreWord) (n : Nat) (x : Seen), CoreSel.ix c = n ∧ s.seen n i = x ∧ s.ready n = true ∧ x.moves = true) ∧
    (∃ (s : State) (c : CoreSel) (i : CoreWord) (n : Nat) (x : Seen), CoreSel.ix c = n ∧ s.seen n i = x ∧ s.ready n = true ∧ x.moves = true) ∧
    (∃ (s : State) (c : CoreSel) (i : CoreWord) (n : Nat) (x : Seen), CoreSel.ix c = n ∧ s.seen n i = x ∧ s.ready n = true ∧ x.moves = true) ∧
    (∃ (s : State) (c : CoreSel) (i : CoreWord) (n : Nat) (x : Seen), CoreSel.ix c = n ∧ s.seen n i = x ∧ s.ready n = true ∧ x.moves = true) ∧
    (∃ (s : State) (c : CoreSel) (i : CoreWord) (n : Nat) (x : Seen), CoreSel.ix c = n ∧ s.seen n i = x ∧ s.ready n = true ∧ x.moves = true) ∧
    (∃ (s : State) (c : CoreSel) (i : CoreWord) (n : Nat) (x : Seen), CoreSel.ix c = n ∧ s.seen n i = x ∧ s.ready n = true ∧ x.moves = true) ∧
    (∃ (s : State) (c : CoreSel) (i : CoreWord) (n : Nat) (x : Seen), CoreSel.ix c = n ∧ s.seen n i = x ∧ s.ready n = true ∧ x.moves = true) ∧
    (∃ (s : State) (c : CoreSel) (i : CoreWord) (n : Nat) (x : Seen), CoreSel.ix c = n ∧ s.seen n i = x ∧ s.ready n = true ∧ x.moves = true) ∧
    (∃ (s : State) (c : CoreSel) (i : CoreWord) (n : Nat) (x : Seen), CoreSel.ix c = n ∧ s.seen n i = x ∧ s.ready n = true ∧ x.moves = true) ∧
    (∃ (s : State) (c : CoreSel) (i : CoreWord) (n : Nat) (x : Seen), CoreSel.ix c = n ∧ s.seen n i = x ∧ s.ready n = true ∧ x.moves = true) ∧
    (∃ (s : State) (c : CoreSel) (i : CoreWord) (n : Nat) (x : Seen), CoreSel.ix c = n ∧ s.seen n i = x ∧ s.ready n = true ∧ x.moves = true) ∧
    (∃ (s : State) (c : CoreSel) (i : CoreWord) (n : Nat) (x : Seen), CoreSel.ix c = n ∧ s.seen n i = x ∧ s.ready n = true ∧ x.moves = true) ∧
    (∃ (s : State) (c : CoreSel) (i : CoreWord) (n : Nat) (x : Seen), CoreSel.ix c = n ∧ s.seen n i = x ∧ s.ready n = true ∧ x.moves = true) ∧
    (∃ (s : State) (c : CoreSel) (i : CoreWord) (n : Nat) (x : Seen), CoreSel.ix c = n ∧ s.seen n i = x ∧ s.ready n = true ∧ x.moves = true) ∧
    (∃ (s : State) (c : CoreSel) (i : CoreWord) (n : Nat) (x : Seen), CoreSel.ix c = n ∧ s.seen n i = x ∧ s.ready n = true ∧ x.moves = true ∧ c ≠ .steward) :=
  ⟨⟨(W.ec Bank.reset Core.reset), (.ec 2), W.iw0, 2, (State.seen (W.ec Bank.reset Core.reset) (2) (W.iw0)), by decide +kernel, rfl, by decide +kernel⟩,
   ⟨(W.ec Bank.reset Core.reset), (.ec 2), W.iw0, 2, (State.seen (W.ec Bank.reset Core.reset) (2) (W.iw0)), by decide +kernel, rfl, by decide +kernel⟩,
   ⟨(W.ec Bank.reset Core.reset), (.ec 2), W.iw0, 2, (State.seen (W.ec Bank.reset Core.reset) (2) (W.iw0)), by decide +kernel, rfl, by decide +kernel⟩,
   ⟨(W.ec Bank.reset Core.reset), (.ec 2), W.iw0, 2, (State.seen (W.ec Bank.reset Core.reset) (2) (W.iw0)), by decide +kernel, rfl, by decide +kernel⟩,
   ⟨(W.ec Bank.reset Core.reset), (.ec 2), W.iw0, 2, (State.seen (W.ec Bank.reset Core.reset) (2) (W.iw0)), by decide +kernel, rfl, by decide +kernel⟩,
   ⟨(W.ec Bank.reset Core.reset), (.ec 2), W.iw0, 2, (State.seen (W.ec Bank.reset Core.reset) (2) (W.iw0)), by decide +kernel, rfl, by decide +kernel⟩,
   ⟨(W.ec Bank.reset Core.reset), (.ec 2), W.iw0, 2, (State.seen (W.ec Bank.reset Core.reset) (2) (W.iw0)), by decide +kernel, rfl, by decide +kernel⟩,
   ⟨(W.ec Bank.reset Core.reset), (.ec 2), W.iw0, 2, (State.seen (W.ec Bank.reset Core.reset) (2) (W.iw0)), by decide +kernel, rfl, by decide +kernel⟩,
   ⟨(W.ec Bank.reset Core.reset), (.ec 2), W.iw0, 2, (State.seen (W.ec Bank.reset Core.reset) (2) (W.iw0)), by decide +kernel, rfl, by decide +kernel⟩,
   ⟨(W.ec Bank.reset Core.reset), (.ec 2), W.iw0, 2, (State.seen (W.ec Bank.reset Core.reset) (2) (W.iw0)), by decide +kernel, rfl, by decide +kernel⟩,
   ⟨(W.ec Bank.reset Core.reset), (.ec 2), W.iw0, 2, (State.seen (W.ec Bank.reset Core.reset) (2) (W.iw0)), by decide +kernel, rfl, by decide +kernel⟩,
   ⟨(W.ec Bank.reset Core.reset), (.ec 2), W.iw0, 2, (State.seen (W.ec Bank.reset Core.reset) (2) (W.iw0)), by decide +kernel, rfl, by decide +kernel⟩,
   ⟨(W.ec Bank.reset Core.reset), (.ec 2), W.iw0, 2, (State.seen (W.ec Bank.reset Core.reset) (2) (W.iw0)), by decide +kernel, rfl, by decide +kernel⟩,
   ⟨(W.ec Bank.reset Core.reset), (.ec 2), W.iw0, 2, (State.seen (W.ec Bank.reset Core.reset) (2) (W.iw0)), by decide +kernel, rfl, by decide +kernel⟩,
   ⟨(W.ec Bank.reset Core.reset), (.ec 2), W.iw0, 2, (State.seen (W.ec Bank.reset Core.reset) (2) (W.iw0)), by decide +kernel, rfl, by decide +kernel⟩,
   ⟨(W.ec Bank.reset Core.reset), (.ec 2), W.iw0, 2, (State.seen (W.ec Bank.reset Core.reset) (2) (W.iw0)), by decide +kernel, rfl, by decide +kernel⟩⟩

/-- States and operands that meet the hypotheses of `Obligations.AccumulatorInstructionsComplete`, clause by clause. -/
theorem test_witness_AccumulatorInstructionsComplete :
    (∃ (s : State) (c : CoreSel) (i : CoreWord) (n : Nat) (x : Seen), CoreSel.ix c = n ∧ s.seen n i = x ∧ s.ready n = true ∧ x.moves = true) ∧
    (∃ (s : State) (c : CoreSel) (i : CoreWord) (n : Nat) (x : Seen), CoreSel.ix c = n ∧ s.seen n i = x ∧ s.ready n = true ∧ x.moves = true) ∧
    (∃ (s : State) (c : CoreSel) (i : CoreWord) (n : Nat) (x : Seen), CoreSel.ix c = n ∧ s.seen n i = x ∧ s.ready n = true ∧ x.moves = true) ∧
    (∃ (s : State) (c : CoreSel) (i : CoreWord) (n : Nat) (x : Seen), CoreSel.ix c = n ∧ s.seen n i = x ∧ s.ready n = true ∧ x.moves = true ∧ c ≠ .steward) ∧
    (∃ (s : State) (c : CoreSel) (i : CoreWord) (n : Nat) (x : Seen), CoreSel.ix c = n ∧ s.seen n i = x ∧ s.ready n = true ∧ x.moves = true ∧ c ≠ .steward) ∧
    (∃ (s : State) (c : CoreSel) (i : CoreWord) (n : Nat) (x : Seen), CoreSel.ix c = n ∧ s.seen n i = x ∧ s.ready n = true ∧ x.moves = true ∧ c ≠ .steward) ∧
    (∃ (s : State) (c : CoreSel) (i : CoreWord) (n : Nat) (x : Seen), CoreSel.ix c = n ∧ s.seen n i = x ∧ s.ready n = true ∧ x.moves = true ∧ c ≠ .steward) ∧
    (∃ (s : State) (c : CoreSel) (i : CoreWord) (n : Nat) (x : Seen), CoreSel.ix c = n ∧ s.seen n i = x ∧ s.ready n = true ∧ x.moves = true ∧ c ≠ .steward) ∧
    (∃ (s : State) (c : CoreSel) (i : CoreWord) (n : Nat) (x : Seen), CoreSel.ix c = n ∧ s.seen n i = x ∧ s.ready n = true ∧ x.moves = true) ∧
    (∃ (s : State) (c : CoreSel) (i : CoreWord) (n : Nat) (x : Seen), CoreSel.ix c = n ∧ s.seen n i = x ∧ s.ready n = true ∧ x.moves = true) ∧
    (∃ (s : State) (c : CoreSel) (i : CoreWord) (n : Nat) (x : Seen), CoreSel.ix c = n ∧ s.seen n i = x ∧ s.ready n = true ∧ x.moves = true) ∧
    (∃ (s : State) (c : CoreSel) (i : CoreWord) (n : Nat) (x : Seen), CoreSel.ix c = n ∧ s.seen n i = x ∧ s.ready n = true ∧ x.moves = true) :=
  ⟨⟨(W.ec Bank.reset Core.reset), (.ec 2), W.iw0, 2, (State.seen (W.ec Bank.reset Core.reset) (2) (W.iw0)), by decide +kernel, rfl, by decide +kernel⟩,
   ⟨(W.ec Bank.reset Core.reset), (.ec 2), W.iw0, 2, (State.seen (W.ec Bank.reset Core.reset) (2) (W.iw0)), by decide +kernel, rfl, by decide +kernel⟩,
   ⟨(W.ec Bank.reset Core.reset), (.ec 2), W.iw0, 2, (State.seen (W.ec Bank.reset Core.reset) (2) (W.iw0)), by decide +kernel, rfl, by decide +kernel⟩,
   ⟨(W.ec Bank.reset Core.reset), (.ec 2), W.iw0, 2, (State.seen (W.ec Bank.reset Core.reset) (2) (W.iw0)), by decide +kernel, rfl, by decide +kernel⟩,
   ⟨(W.ec Bank.reset Core.reset), (.ec 2), W.iw0, 2, (State.seen (W.ec Bank.reset Core.reset) (2) (W.iw0)), by decide +kernel, rfl, by decide +kernel⟩,
   ⟨(W.ec Bank.reset Core.reset), (.ec 2), W.iw0, 2, (State.seen (W.ec Bank.reset Core.reset) (2) (W.iw0)), by decide +kernel, rfl, by decide +kernel⟩,
   ⟨(W.ec Bank.reset Core.reset), (.ec 2), W.iw0, 2, (State.seen (W.ec Bank.reset Core.reset) (2) (W.iw0)), by decide +kernel, rfl, by decide +kernel⟩,
   ⟨(W.ec Bank.reset Core.reset), (.ec 2), W.iw0, 2, (State.seen (W.ec Bank.reset Core.reset) (2) (W.iw0)), by decide +kernel, rfl, by decide +kernel⟩,
   ⟨(W.ec Bank.reset Core.reset), (.ec 2), W.iw0, 2, (State.seen (W.ec Bank.reset Core.reset) (2) (W.iw0)), by decide +kernel, rfl, by decide +kernel⟩,
   ⟨(W.ec Bank.reset Core.reset), (.ec 2), W.iw0, 2, (State.seen (W.ec Bank.reset Core.reset) (2) (W.iw0)), by decide +kernel, rfl, by decide +kernel⟩,
   ⟨(W.ec Bank.reset Core.reset), (.ec 2), W.iw0, 2, (State.seen (W.ec Bank.reset Core.reset) (2) (W.iw0)), by decide +kernel, rfl, by decide +kernel⟩,
   ⟨(W.ec Bank.reset Core.reset), (.ec 2), W.iw0, 2, (State.seen (W.ec Bank.reset Core.reset) (2) (W.iw0)), by decide +kernel, rfl, by decide +kernel⟩⟩

/-- States and operands that meet the hypotheses of `Obligations.ServiceReadsComplete`, clause by clause. -/
theorem test_witness_ServiceReadsComplete :
    (∃ (s : State) (c : CoreSel) (i : CoreWord) (n : Nat) (x : Seen), CoreSel.ix c = n ∧ s.seen n i = x ∧ s.ready n = true ∧ x.moves = true ∧ c ≠ .steward ∧ (s.core n).flaws = [] ∧ x.tabBase + 4 * 2 ^ (6 + natBits i.sub.toNat 6 4) ≤ 0x40000) ∧
    (∃ (s : State) (c : CoreSel) (i : CoreWord) (n : Nat) (x : Seen), CoreSel.ix c = n ∧ s.seen n i = x ∧ s.ready n = true ∧ x.moves = true ∧ c ≠ .steward) ∧
    (∃ (s : State) (c : CoreSel) (i : CoreWord) (n : Nat) (x : Seen), CoreSel.ix c = n ∧ s.seen n i = x ∧ s.ready n = true ∧ x.moves = true) ∧
    (∃ (s : State) (c : CoreSel) (i : CoreWord) (n : Nat) (x : Seen) (e : Nat), CoreSel.ix c = n ∧ s.seen n i = x ∧ s.ready n = true ∧ x.moves = true ∧ c ≠ .steward ∧ x.b.events[x.b.head]? = some e) ∧
    (∃ (s : State) (c : CoreSel) (i : CoreWord) (n : Nat) (x : Seen), CoreSel.ix c = n ∧ s.seen n i = x ∧ s.ready n = true ∧ x.moves = true ∧ c ≠ .steward ∧ x.b.events[x.b.head]? = none) ∧
    (∃ (s : State) (c : CoreSel) (i : CoreWord) (n : Nat) (x : Seen) (e : Nat × Nat) (rest : List (Nat × Nat)), CoreSel.ix c = n ∧ s.seen n i = x ∧ s.ready n = true ∧ x.moves = true ∧ c = .steward ∧ s.stewardQ = e :: rest) :=
  ⟨⟨(W.ec Bank.reset Core.reset), (.ec 2), W.iw0, 2, (State.seen (W.ec Bank.reset Core.reset) (2) (W.iw0)), by decide +kernel, rfl, by decide +kernel⟩,
   ⟨(W.ec Bank.reset Core.reset), (.ec 2), W.iw0, 2, (State.seen (W.ec Bank.reset Core.reset) (2) (W.iw0)), by decide +kernel, rfl, by decide +kernel⟩,
   ⟨(W.ec Bank.reset Core.reset), (.ec 2), W.iw0, 2, (State.seen (W.ec Bank.reset Core.reset) (2) (W.iw0)), by decide +kernel, rfl, by decide +kernel⟩,
   ⟨(W.ec { Bank.reset with events := [5, 6] } Core.reset), (.ec 2), W.iw0, 2, (State.seen (W.ec { Bank.reset with events := [5, 6] } Core.reset) (2) (W.iw0)), 5, by decide +kernel, rfl, by decide +kernel⟩,
   ⟨(W.ec Bank.reset Core.reset), (.ec 2), W.iw0, 2, (State.seen (W.ec Bank.reset Core.reset) (2) (W.iw0)), by decide +kernel, rfl, by decide +kernel⟩,
   ⟨({ W.sw Bank.reset with stewardQ := [(1,2)] }), .steward, W.iw0, 64, (State.seen ({ W.sw Bank.reset with stewardQ := [(1,2)] }) (64) (W.iw0)), ((1,2)), ([]), by decide +kernel, rfl, by decide +kernel⟩⟩

/-- States and operands that meet the hypotheses of `Obligations.MemoryInstructionsComplete`, clause by clause. -/
theorem test_witness_MemoryInstructionsComplete :
    (∃ (s : State) (c : CoreSel) (i : CoreWord) (n : Nat) (x : Seen), CoreSel.ix c = n ∧ s.seen n i = x ∧ s.ready n = true ∧ natBits i.sub.toNat 1 0 = 0 ∧ (s.core n).flaws = [] ∧ x.own < dmemSize n ∧ ((∀ p ∈ x.b.pend, p.idx ≠ ixReg 0 x.xi))) ∧
    (∃ (s : State) (c : CoreSel) (i : CoreWord) (n : Nat) (x : Seen), CoreSel.ix c = n ∧ s.seen n i = x ∧ s.ready n = true ∧ natBits i.sub.toNat 1 0 = 1 ∧ (s.core n).flaws = [] ∧ x.own < dmemSize n) ∧
    (∃ (s : State) (c : CoreSel) (i : CoreWord) (n : Nat) (x : Seen), CoreSel.ix c = n ∧ s.seen n i = x ∧ s.ready n = true ∧ natBits i.sub.toNat 1 0 = 2 ∧ (s.core n).flaws = [] ∧ x.own < dmemSize n) ∧
    (∃ (s : State) (c : CoreSel) (i : CoreWord) (n : Nat) (x : Seen), CoreSel.ix c = n ∧ s.seen n i = x ∧ s.ready n = true ∧ natBits i.sub.toNat 1 0 = 3 ∧ (s.core n).flaws = [] ∧ x.own < dmemSize n) ∧
    (∃ (s : State) (c : CoreSel) (i : CoreWord) (n : Nat) (x : Seen), CoreSel.ix c = n ∧ s.seen n i = x ∧ s.ready n = true ∧ natBits i.sub.toNat 1 0 = 0 ∧ dmemSize n ≤ x.own ∧ State.inOrchard x.own 1 = true ∧ s.admits (bankOf (x.own - orcBase)) (accessorOf n) = true) ∧
    (∃ (s : State) (c : CoreSel) (i : CoreWord) (n : Nat) (x : Seen), CoreSel.ix c = n ∧ s.seen n i = x ∧ s.ready n = true ∧ natBits i.sub.toNat 1 0 = 0 ∧ x.own < dmemSize n ∧ x.c.shadow = false) ∧
    (∃ (s : State) (c : CoreSel) (i : CoreWord) (n : Nat) (x : Seen), CoreSel.ix c = n ∧ s.seen n i = x ∧ s.ready n = true ∧ natBits i.sub.toNat 1 0 = 1 ∧ x.own < dmemSize n ∧ x.c.shadow = false) ∧
    (∃ (s : State) (c : CoreSel) (i : CoreWord) (n : Nat) (x : Seen) (want : Bool), CoreSel.ix c = n ∧ s.seen n i = x ∧ s.ready n = true ∧ natBits i.sub.toNat 1 0 = (if want then 2 else 3) ∧ x.own < dmemSize n ∧ x.c.shadow = false ∧ c ≠ .steward) ∧
    (∃ (s : State) (c : CoreSel) (i : CoreWord) (n : Nat) (x : Seen), CoreSel.ix c = n ∧ s.seen n i = x ∧ s.ready n = true ∧ natBits i.sub.toNat 1 0 = 0 ∧ dmemSize n ≤ x.own ∧ State.inOrchard x.own 1 = true ∧ s.admits (bankOf (x.own - orcBase)) (accessorOf n) = true ∧ (s.core n).stores.length < 8) ∧
    (∃ (s : State) (c : CoreSel) (i : CoreWord) (n : Nat) (x : Seen), CoreSel.ix c = n ∧ s.seen n i = x ∧ s.ready n = true ∧ (s.core n).flaws = [] ∧ x.own < dmemSize n ∧ ((∀ p ∈ x.b.pend, p.idx ≠ ixReg 0 x.xi))) ∧
    (∃ (s : State) (c : CoreSel) (i : CoreWord) (n : Nat) (x : Seen), CoreSel.ix c = n ∧ s.seen n i = x ∧ s.ready n = true ∧ natBit i.sub.toNat 2 = false) ∧
    (∃ (s : State) (c : CoreSel) (i : CoreWord) (n : Nat) (x : Seen), CoreSel.ix c = n ∧ s.seen n i = x ∧ s.ready n = true ∧ natBit i.sub.toNat 2 = true) ∧
    (∃ (s : State) (c : CoreSel) (i : CoreWord) (n : Nat) (x : Seen), CoreSel.ix c = n ∧ s.seen n i = x ∧ s.ready n = true) ∧
    (∃ (s : State) (c : CoreSel) (i : CoreWord) (n : Nat) (x : Seen), CoreSel.ix c = n ∧ s.seen n i = x ∧ s.ready n = true ∧ x.moves = true) ∧
    (∃ (s : State) (c : CoreSel) (i : CoreWord) (n : Nat) (x : Seen), CoreSel.ix c = n ∧ s.seen n i = x ∧ s.ready n = true ∧ x.moves = true ∧ x.reg 2 (i.vd % 16) ≠ 0) ∧
    (∃ (s : State) (c : CoreSel) (i : CoreWord) (n : Nat) (x : Seen), CoreSel.ix c = n ∧ s.seen n i = x ∧ s.ready n = true ∧ x.moves = true ∧ x.reg 2 (i.vd % 16) = 0) ∧
    (∃ (s : State) (c : CoreSel) (i : CoreWord) (n : Nat) (x : Seen), CoreSel.ix c = n ∧ s.seen n i = x ∧ s.ready n = true ∧ x.moves = true ∧ natBits i.sub.toNat 2 0 < 5 ∧ i.flg = true) ∧
    (∃ (s : State) (c : CoreSel) (i : CoreWord) (n : Nat) (x : Seen), CoreSel.ix c = n ∧ s.seen n i = x ∧ s.ready n = true ∧ x.moves = true ∧ natBits i.sub.toNat 2 0 < 5 ∧ i.flg = false) :=
  ⟨⟨(W.ec Bank.reset Core.reset), (.ec 2), (⟨false, false, 3, 4, 5, 1, 0, 0⟩), 2, (State.seen (W.ec Bank.reset Core.reset) (2) (⟨false, false, 3, 4, 5, 1, 0, 0⟩)), by decide +kernel, rfl, by decide +kernel⟩,
   ⟨(W.ec Bank.reset Core.reset), (.ec 2), (⟨false, false, 3, 4, 5, 1, 1, 0⟩), 2, (State.seen (W.ec Bank.reset Core.reset) (2) (⟨false, false, 3, 4, 5, 1, 1, 0⟩)), by decide +kernel, rfl, by decide +kernel⟩,
   ⟨(W.ec Bank.reset Core.reset), (.ec 2), (⟨false, false, 3, 4, 5, 1, 2, 0⟩), 2, (State.seen (W.ec Bank.reset Core.reset) (2) (⟨false, false, 3, 4, 5, 1, 2, 0⟩)), by decide +kernel, rfl, by decide +kernel⟩,
   ⟨(W.ec Bank.reset Core.reset), (.ec 2), (⟨false, false, 3, 4, 5, 1, 3, 0⟩), 2, (State.seen (W.ec Bank.reset Core.reset) (2) (⟨false, false, 3, 4, 5, 1, 3, 0⟩)), by decide +kernel, rfl, by decide +kernel⟩,
   ⟨({ W.ec { Bank.reset with r := [(160, 0x10000020)] } Core.reset with regs := (W.st [(F.ORC_OWN_OWNER 0, 2)]).regs }), (.ec 2), (⟨false, false, 3, 4, 5, 1, 0, 0⟩), 2, (State.seen ({ W.ec { Bank.reset with r := [(160, 0x10000020)] } Core.reset with regs := (W.st [(F.ORC_OWN_OWNER 0, 2)]).regs }) (2) (⟨false, false, 3, 4, 5, 1, 0, 0⟩)), by decide +kernel, rfl, by decide +kernel⟩,
   ⟨(W.ec Bank.reset Core.reset), (.ec 2), (⟨false, false, 3, 4, 5, 1, 0, 0⟩), 2, (State.seen (W.ec Bank.reset Core.reset) (2) (⟨false, false, 3, 4, 5, 1, 0, 0⟩)), by decide +kernel, rfl, by decide +kernel⟩,
   ⟨(W.ec Bank.reset Core.reset), (.ec 2), (⟨false, false, 3, 4, 5, 1, 1, 0⟩), 2, (State.seen (W.ec Bank.reset Core.reset) (2) (⟨false, false, 3, 4, 5, 1, 1, 0⟩)), by decide +kernel, rfl, by decide +kernel⟩,
   ⟨(W.ec Bank.reset Core.reset), (.ec 2), (⟨false, false, 3, 4, 5, 1, 2, 0⟩), 2, (State.seen (W.ec Bank.reset Core.reset) (2) (⟨false, false, 3, 4, 5, 1, 2, 0⟩)), true, by decide +kernel, rfl, by decide +kernel⟩,
   ⟨({ W.ec { Bank.reset with r := [(160, 0x10000020)] } Core.reset with regs := (W.st [(F.ORC_OWN_OWNER 0, 2)]).regs }), (.ec 2), (⟨false, false, 3, 4, 5, 1, 0, 0⟩), 2, (State.seen ({ W.ec { Bank.reset with r := [(160, 0x10000020)] } Core.reset with regs := (W.st [(F.ORC_OWN_OWNER 0, 2)]).regs }) (2) (⟨false, false, 3, 4, 5, 1, 0, 0⟩)), by decide +kernel, rfl, by decide +kernel⟩,
   ⟨(W.ec Bank.reset Core.reset), (.ec 2), (⟨false, false, 3, 4, 5, 1, 0, 0⟩), 2, (State.seen (W.ec Bank.reset Core.reset) (2) (⟨false, false, 3, 4, 5, 1, 0, 0⟩)), by decide +kernel, rfl, by decide +kernel⟩,
   ⟨(W.ec Bank.reset Core.reset), (.ec 2), (⟨false, false, 3, 4, 5, 1, 40, 0⟩), 2, (State.seen (W.ec Bank.reset Core.reset) (2) (⟨false, false, 3, 4, 5, 1, 40, 0⟩)), by decide +kernel, rfl, by decide +kernel⟩,
   ⟨(W.ec Bank.reset Core.reset), (.ec 2), (⟨false, false, 3, 4, 5, 1, 4, 77⟩), 2, (State.seen (W.ec Bank.reset Core.reset) (2) (⟨false, false, 3, 4, 5, 1, 4, 77⟩)), by decide +kernel, rfl, by decide +kernel⟩,
   ⟨(W.ec Bank.reset Core.reset), (.ec 2), (⟨false, false, 3, 4, 5, 1, 0, 5⟩), 2, (State.seen (W.ec Bank.reset Core.reset) (2) (⟨false, false, 3, 4, 5, 1, 0, 5⟩)), by decide +kernel, rfl, by decide +kernel⟩,
   ⟨(W.ec Bank.reset Core.reset), (.ec 2), W.iw0, 2, (State.seen (W.ec Bank.reset Core.reset) (2) (W.iw0)), by decide +kernel, rfl, by decide +kernel⟩,
   ⟨(W.ec { Bank.reset with r := [(160+3, 77), (192+3, 16)] } Core.reset), (.ec 2), W.iw0, 2, (State.seen (W.ec { Bank.reset with r := [(160+3, 77), (192+3, 16)] } Core.reset) (2) (W.iw0)), by decide +kernel, rfl, by decide +kernel⟩,
   ⟨(W.ec Bank.reset Core.reset), (.ec 2), W.iw0, 2, (State.seen (W.ec Bank.reset Core.reset) (2) (W.iw0)), by decide +kernel, rfl, by decide +kernel⟩,
   ⟨(W.ec Bank.reset Core.reset), (.ec 2), (⟨false, true, 3, 4, 5, 1, 0, 0⟩), 2, (State.seen (W.ec Bank.reset Core.reset) (2) (⟨false, true, 3, 4, 5, 1, 0, 0⟩)), by decide +kernel, rfl, by decide +kernel⟩,
   ⟨(W.ec Bank.reset Core.reset), (.ec 2), (⟨false, false, 3, 4, 5, 1, 0, 0⟩), 2, (State.seen (W.ec Bank.reset Core.reset) (2) (⟨false, false, 3, 4, 5, 1, 0, 0⟩)), by decide +kernel, rfl, by decide +kernel⟩⟩

/-- States and operands that meet the hypotheses of `Obligations.OrchardTrafficCompletes`, clause by clause. -/
theorem test_witness_OrchardTrafficCompletes :
    (∃ (s : State) (c : CoreSel) (n : Nat) (l : LoadWait), CoreSel.ix c = n ∧ (s.core n).shadow = false ∧ s.orcFlaws = [] ∧ l.held = false ∧ (s.core n).p.load = some l ∧ l.after ≤ (s.core n).storesDone ∧ (l.dst.map (fun d => d.1)).Nodup) ∧
    (∃ (s : State) (c : CoreSel) (n : Nat) (o : OStore) (rest : List OStore), CoreSel.ix c = n ∧ o.held = false ∧ (s.core n).stores = o :: rest ∧ (o.bytes.map (fun b => b.1)).Nodup) ∧
    (∃ (s : State) (c : CoreSel) (n : Nat) (l : LoadWait), CoreSel.ix c = n ∧ (s.core n).shadow = false ∧ s.orcFlaws = [] ∧ l.held = false ∧ (s.core n).p.load = some l ∧ l.after ≤ (s.core n).storesDone ∧ (l.dst.map (fun d => d.1)).Nodup ∧ l.addr % 16 = 0 ∧ l.addr < orcSize ∧ s.bankRetired (bankOf l.addr) = false) ∧
    (∃ (s : State) (c : CoreSel) (n : Nat) (l : LoadWait) (lanes : BitVec 4), CoreSel.ix c = n ∧ (s.core n).shadow = false ∧ s.orcFlaws = [] ∧ l.held = false ∧ (s.core n).p.load = some l ∧ l.after ≤ (s.core n).storesDone ∧ (l.dst.map (fun d => d.1)).Nodup ∧ l.addr % 16 = 0 ∧ l.addr < orcSize ∧ s.bankRetired (bankOf l.addr) = false ∧ ((∀ d ∈ l.dst, d.2 < 4)) ∧ lanes ≠ 0) ∧
    (∃ (s : State) (c : CoreSel) (n : Nat) (l : LoadWait), CoreSel.ix c = n ∧ (s.core n).shadow = false ∧ l.held = false ∧ (s.core n).p.load = some l ∧ l.after ≤ (s.core n).storesDone) :=
  ⟨⟨({ W.ec { Bank.reset with load := some ⟨32, 0, [(0,0),(1,1)], false⟩ } Core.reset with orchard := [(33,7)] }), (.ec 2), 2, (⟨32, 0, [(0,0),(1,1)], false⟩), by decide +kernel⟩,
   ⟨(W.ec Bank.reset { Core.reset with stores := [⟨[(3,5),(4,6)], false⟩] }), (.ec 2), 2, (⟨[(3,5),(4,6)], false⟩), ([]), by decide +kernel⟩,
   ⟨({ W.ec { Bank.reset with load := some ⟨32, 0, [(0,0),(1,1)], false⟩ } Core.reset with orchard := [(33,7)] }), (.ec 2), 2, (⟨32, 0, [(0,0),(1,1)], false⟩), by decide +kernel⟩,
   ⟨({ W.ec { Bank.reset with load := some ⟨32, 0, [(0,0),(1,1)], false⟩ } Core.reset with orchard := [(33,7)] }), (.ec 2), 2, (⟨32, 0, [(0,0),(1,1)], false⟩), 3, by decide +kernel⟩,
   ⟨({ W.ec { Bank.reset with load := some ⟨32, 0, [(0,0),(1,1)], false⟩ } Core.reset with orchard := [(33,7)] }), (.ec 2), 2, (⟨32, 0, [(0,0),(1,1)], false⟩), by decide +kernel⟩⟩

/-- States and operands that meet the hypotheses of `Obligations.FlowInstructionsComplete`, clause by clause. -/
theorem test_witness_FlowInstructionsComplete :
    (∃ (s : State) (c : CoreSel) (i : CoreWord) (n : Nat) (x : Seen), CoreSel.ix c = n ∧ s.seen n i = x ∧ s.ready n = true ∧ x.b.slots = 0 ∧ x.bodyEnd = false) ∧
    (∃ (s : State) (c : CoreSel) (i : CoreWord) (n : Nat) (x : Seen) (taken : Bool), CoreSel.ix c = n ∧ s.seen n i = x ∧ s.ready n = true ∧ x.b.slots = 0 ∧ x.bodyEnd = false ∧ natBits i.sub.toNat 6 4 ≠ 7 ∧ x.cond = (taken != i.flg)) ∧
    (∃ (s : State) (c : CoreSel) (i : CoreWord) (n : Nat) (x : Seen), CoreSel.ix c = n ∧ s.seen n i = x ∧ s.ready n = true ∧ x.b.slots = 0 ∧ x.bodyEnd = false) ∧
    (∃ (s : State) (c : CoreSel) (i : CoreWord) (n : Nat) (x : Seen), CoreSel.ix c = n ∧ s.seen n i = x ∧ s.ready n = true ∧ x.b.slots = 0 ∧ x.bodyEnd = false) ∧
    (∃ (s : State) (c : CoreSel) (i : CoreWord) (n : Nat) (x : Seen), CoreSel.ix c = n ∧ s.seen n i = x ∧ s.ready n = true ∧ x.b.slots = 0 ∧ x.bodyEnd = false ∧ (x.b.lv = 0 ∨ x.b.lv = 1 ∧ x.loopEnd ≤ x.b.rd (ixLE 0)) ∧ natBits i.mv.toNat 31 16 ≠ 0) ∧
    (∃ (s : State) (c : CoreSel) (i : CoreWord) (n : Nat) (x : Seen), CoreSel.ix c = n ∧ s.seen n i = x ∧ s.ready n = true ∧ x.b.slots = 0 ∧ x.bodyEnd = false ∧ (x.b.lv = 0 ∨ x.b.lv = 1 ∧ x.loopEnd ≤ x.b.rd (ixLE 0)) ∧ natBits i.mv.toNat 31 16 = 0) ∧
    (∃ (s : State) (c : CoreSel) (i : CoreWord) (n : Nat) (x : Seen), CoreSel.ix c = n ∧ s.seen n i = x ∧ s.ready n = true ∧ x.b.slots = 0 ∧ x.bodyEnd = false ∧ (x.b.lv = 0 ∨ x.b.lv = 1 ∧ x.loopEnd ≤ x.b.rd (ixLE 0)) ∧ x.X (natBits i.sub.toNat 3 0) ≠ 0) ∧
    (∃ (s : State) (c : CoreSel) (i : CoreWord) (n : Nat) (x : Seen), CoreSel.ix c = n ∧ s.seen n i = x ∧ s.ready n = true ∧ x.b.slots = 0 ∧ x.bodyEnd = false ∧ (x.b.lv = 0 ∨ x.b.lv = 1 ∧ x.loopEnd ≤ x.b.rd (ixLE 0)) ∧ x.X (natBits i.sub.toNat 3 0) = 0) :=
  ⟨⟨(W.ec Bank.reset Core.reset), (.ec 2), (⟨false, false, 3, 4, 5, 1, 0, 12⟩), 2, (State.seen (W.ec Bank.reset Core.reset) (2) (⟨false, false, 3, 4, 5, 1, 0, 12⟩)), by decide +kernel, rfl, by decide +kernel⟩,
   ⟨(W.ec Bank.reset Core.reset), (.ec 2), (⟨false, true, 3, 4, 5, 1, 0, 12⟩), 2, (State.seen (W.ec Bank.reset Core.reset) (2) (⟨false, true, 3, 4, 5, 1, 0, 12⟩)), true, by decide +kernel, rfl, by decide +kernel⟩,
   ⟨(W.ec Bank.reset Core.reset), (.ec 2), (⟨false, false, 3, 4, 5, 1, 0, 12⟩), 2, (State.seen (W.ec Bank.reset Core.reset) (2) (⟨false, false, 3, 4, 5, 1, 0, 12⟩)), by decide +kernel, rfl, by decide +kernel⟩,
   ⟨(W.ec Bank.reset Core.reset), (.ec 2), (⟨false, false, 3, 4, 5, 1, 0, 12⟩), 2, (State.seen (W.ec Bank.reset Core.reset) (2) (⟨false, false, 3, 4, 5, 1, 0, 12⟩)), by decide +kernel, rfl, by decide +kernel⟩,
   ⟨(W.ec Bank.reset Core.reset), (.ec 2), (⟨false, false, 3, 4, 5, 1, 0, 0x30005⟩), 2, (State.seen (W.ec Bank.reset Core.reset) (2) (⟨false, false, 3, 4, 5, 1, 0, 0x30005⟩)), by decide +kernel, rfl, by decide +kernel⟩,
   ⟨(W.ec Bank.reset Core.reset), (.ec 2), (⟨false, false, 3, 4, 5, 1, 0, 5⟩), 2, (State.seen (W.ec Bank.reset Core.reset) (2) (⟨false, false, 3, 4, 5, 1, 0, 5⟩)), by decide +kernel, rfl, by decide +kernel⟩,
   ⟨(W.ec { Bank.reset with r := [(162, 9)] } Core.reset), (.ec 2), (⟨false, false, 3, 4, 5, 1, 2, 5⟩), 2, (State.seen (W.ec { Bank.reset with r := [(162, 9)] } Core.reset) (2) (⟨false, false, 3, 4, 5, 1, 2, 5⟩)), by decide +kernel, rfl, by decide +kernel⟩,
   ⟨(W.ec Bank.reset Core.reset), (.ec 2), (⟨false, false, 3, 4, 5, 1, 2, 5⟩), 2, (State.seen (W.ec Bank.reset Core.reset) (2) (⟨false, false, 3, 4, 5, 1, 2, 5⟩)), by decide +kernel, rfl, by decide +kernel⟩⟩

/-- States and operands that meet the hypotheses of `Obligations.SlotsAndLoopEndsGoOn`, clause by clause. -/
theorem test_witness_SlotsAndLoopEndsGoOn :
    (∃ (s : State) (c : CoreSel) (i : CoreWord) (n : Nat) (x : Seen) (a : Nat), CoreSel.ix c = n ∧ s.seen n i = x ∧ s.ready n = true ∧ natBits i.mv.toNat 31 30 = 0 ∧ x.b.slots = 1 ∧ x.b.target = some a ∧ x.b.closes = false) ∧
    (∃ (s : State) (c : CoreSel) (i : CoreWord) (n : Nat) (x : Seen) (a : Nat), CoreSel.ix c = n ∧ s.seen n i = x ∧ s.ready n = true ∧ natBits i.mv.toNat 31 30 = 0 ∧ x.b.slots = 1 ∧ x.b.target = some a ∧ x.b.closes = true) ∧
    (∃ (s : State) (c : CoreSel) (i : CoreWord) (n : Nat) (x : Seen) (k : Nat), CoreSel.ix c = n ∧ s.seen n i = x ∧ s.ready n = true ∧ natBits i.mv.toNat 31 30 = 0 ∧ x.b.slots = 0 ∧ x.b.lv = k + 1 ∧ x.b.rd (ixLE k) = x.b.pc ∧ 1 < x.b.rd (ixLC k)) ∧
    (∃ (s : State) (c : CoreSel) (i : CoreWord) (n : Nat) (x : Seen) (k : Nat), CoreSel.ix c = n ∧ s.seen n i = x ∧ s.ready n = true ∧ natBits i.mv.toNat 31 30 = 0 ∧ x.b.slots = 0 ∧ x.b.lv = k + 1 ∧ x.b.rd (ixLE k) = x.b.pc ∧ x.b.rd (ixLC k) ≤ 1) :=
  ⟨⟨(W.ec { Bank.reset with slots := 1, target := some 0x80 } Core.reset), (.ec 2), W.iw0, 2, (State.seen (W.ec { Bank.reset with slots := 1, target := some 0x80 } Core.reset) (2) (W.iw0)), 0x80, by decide +kernel, rfl, by decide +kernel⟩,
   ⟨(W.ec { Bank.reset with slots := 1, target := some 0x80, closes := true } Core.reset), (.ec 2), W.iw0, 2, (State.seen (W.ec { Bank.reset with slots := 1, target := some 0x80, closes := true } Core.reset) (2) (W.iw0)), 0x80, by decide +kernel, rfl, by decide +kernel⟩,
   ⟨(W.ec { Bank.reset with pc := 0x48, lv := 1, r := [(ixLC 0, 3), (ixLS 0, 0x40), (ixLE 0, 0x48)] } Core.reset), (.ec 2), W.iw0, 2, (State.seen (W.ec { Bank.reset with pc := 0x48, lv := 1, r := [(ixLC 0, 3), (ixLS 0, 0x40), (ixLE 0, 0x48)] } Core.reset) (2) (W.iw0)), 0, by decide +kernel, rfl, by decide +kernel⟩,
   ⟨(W.ec { Bank.reset with pc := 0x48, lv := 1, r := [(ixLC 0, 1), (ixLS 0, 0x40), (ixLE 0, 0x48)] } Core.reset), (.ec 2), W.iw0, 2, (State.seen (W.ec { Bank.reset with pc := 0x48, lv := 1, r := [(ixLC 0, 1), (ixLS 0, 0x40), (ixLE 0, 0x48)] } Core.reset) (2) (W.iw0)), 0, by decide +kernel, rfl, by decide +kernel⟩⟩

/-- States and operands that meet the hypotheses of `Obligations.SystemInstructionsComplete`, clause by clause. -/
theorem test_witness_SystemInstructionsComplete :
    (∃ (s : State) (c : CoreSel) (i : CoreWord) (n : Nat) (x : Seen) (p : Nat), CoreSel.ix c = n ∧ s.seen n i = x ∧ s.ready n = true ∧ x.moves = true ∧ natBits i.sub.toNat 1 0 ≠ 3 ∧ x.skips = 0 ∧ s.qn.held = [] ∧ x.X (natBits i.sub.toNat 5 2) % 2 ^ 14 = p ∧ s.wouldHold p (s.masterOf n) = false ∧ s.postReason p (s.postLevel p) = none ∧ s.get (F.PIP1_TS p) = 0) ∧
    (∃ (s : State) (c : CoreSel) (i : CoreWord) (n : Nat) (x : Seen) (r : PipRun), CoreSel.ix c = n ∧ s.seen n i = x ∧ s.ready n = true ∧ x.moves = true ∧ natBits i.sub.toNat 1 0 ≠ 3 ∧ x.b.run = some r ∧ r.skip ≠ 0) ∧
    (∃ (s : State) (c : CoreSel) (i : CoreWord) (n : Nat) (x : Seen) (b : Nat), CoreSel.ix c = n ∧ s.seen n i = x ∧ s.ready n = true ∧ x.moves = true ∧ natBits i.sub.toNat 1 0 ≠ 3 ∧ x.skips = 0 ∧ s.qn.held = [] ∧ State.voiceBad x.postWord = none ∧ State.vwType x.postWord < 0x10 ∧ s.voiceHold x.postWord (s.masterOf n) = false ∧ extend48 (x.postWord / 2 ^ 80) s.frc / s.blockLen = b ∧ s.blockIx ≤ b) ∧
    (∃ (s : State) (c : CoreSel) (i : CoreWord) (n : Nat) (x : Seen), CoreSel.ix c = n ∧ s.seen n i = x ∧ s.ready n = true ∧ x.moves = true ∧ natBits i.sub.toNat 1 0 ≠ 3 ∧ x.skips = 0 ∧ s.storeFull = false ∧ s.qn.held = [] ∧ natBits x.postWord 79 72 = 1 ∧ State.cmdBad x.postWord = false ∧ s.vmGain (natBits x.postWord 47 32) = false ∧ s.preparing = false) ∧
    (∃ (s : State) (c : CoreSel) (i : CoreWord) (n : Nat) (x : Seen), CoreSel.ix c = n ∧ s.seen n i = x ∧ s.ready n = true ∧ c ≠ .steward ∧ x.moves = true) ∧
    (∃ (s : State) (c : CoreSel) (i : CoreWord) (n : Nat) (x : Seen) (r : PipRun), CoreSel.ix c = n ∧ s.seen n i = x ∧ s.ready n = true ∧ c ≠ .steward ∧ x.moves = true ∧ natBits i.sub.toNat 1 0 < 2 ∧ x.b.run = some r) ∧
    (∃ (s : State) (c : CoreSel) (i : CoreWord) (n : Nat) (x : Seen) (r : PipRun), CoreSel.ix c = n ∧ s.seen n i = x ∧ s.ready n = true ∧ c ≠ .steward ∧ x.moves = true ∧ natBits i.sub.toNat 1 0 < 2 ∧ x.b.run = some r) ∧
    (∃ (s : State) (c : CoreSel) (i : CoreWord) (n : Nat) (x : Seen), CoreSel.ix c = n ∧ s.seen n i = x ∧ s.ready n = true ∧ x.moves = true ∧ (s.core n).stores = [] ∧ (natBit i.sub.toNat 0 = false ∨ x.outstanding 0 = 0 ∧ x.outstanding 1 = 0)) ∧
    (∃ (s : State) (c : CoreSel) (i : CoreWord) (n : Nat) (x : Seen), CoreSel.ix c = n ∧ s.seen n i = x ∧ s.ready n = true ∧ ((s.core n).stores ≠ [] ∨ natBit i.sub.toNat 0 = true ∧ x.outstanding 0 ≠ 0)) ∧
    (∃ (s : State) (c : CoreSel) (i : CoreWord) (n : Nat) (x : Seen), CoreSel.ix c = n ∧ s.seen n i = x ∧ s.ready n = true ∧ c ≠ .steward ∧ s.swiq.length < 16) ∧
    (∃ (s : State) (c : CoreSel) (i : CoreWord) (n : Nat) (x : Seen), CoreSel.ix c = n ∧ s.seen n i = x ∧ s.ready n = true ∧ c ≠ .steward ∧ 16 ≤ s.swiq.length) ∧
    (∃ (s : State) (c : CoreSel) (i : CoreWord) (n : Nat) (x : Seen), CoreSel.ix c = n ∧ s.seen n i = x ∧ s.ready n = true ∧ c = .steward ∧ i.flg = true) ∧
    (∃ (s : State) (c : CoreSel) (i : CoreWord) (n : Nat) (x : Seen), CoreSel.ix c = n ∧ s.seen n i = x ∧ s.ready n = true ∧ natBits i.sub.toNat 3 0 = 0 ∧ x.moves = true) ∧
    (∃ (s : State) (c : CoreSel) (i : CoreWord) (n : Nat) (x : Seen), CoreSel.ix c = n ∧ s.seen n i = x ∧ s.ready n = true ∧ natBits i.sub.toNat 3 0 = 1 ∧ x.moves = true) ∧
    (∃ (s : State) (c : CoreSel) (i : CoreWord) (n : Nat) (x : Seen), CoreSel.ix c = n ∧ s.seen n i = x ∧ s.ready n = true ∧ natBits i.sub.toNat 3 0 = 2 ∧ x.moves = true) ∧
    (∃ (s : State) (c : CoreSel) (i : CoreWord) (n : Nat) (x : Seen), CoreSel.ix c = n ∧ s.seen n i = x ∧ s.ready n = true ∧ natBits i.sub.toNat 3 0 = 3 ∧ x.moves = true) ∧
    (∃ (s : State) (c : CoreSel) (i : CoreWord) (n : Nat) (x : Seen), CoreSel.ix c = n ∧ s.seen n i = x ∧ s.ready n = true ∧ natBits i.sub.toNat 3 0 = 4 ∧ x.moves = true) :=
  ⟨⟨({ W.ec { Bank.reset with r := [(160, 2)] } Core.reset with regs := (W.st [(F.PIP1_EN 2, 1), (F.PIP1_CLASS 2, 1), (F.QN_AFF_LO_MASK 0, 1)]).regs }), (.ec 2), W.iw0, 2, (State.seen ({ W.ec { Bank.reset with r := [(160, 2)] } Core.reset with regs := (W.st [(F.PIP1_EN 2, 1), (F.PIP1_CLASS 2, 1), (F.QN_AFF_LO_MASK 0, 1)]).regs }) (2) (W.iw0)), 2, by decide +kernel, rfl, by decide +kernel⟩,
   ⟨({ W.st [] with cores := [(2, { Core.reset with p := { Bank.reset with run := some { W.run0 with skip := 1 } }, frames := [(0, { Frame.reset with valid := true })] })] }), (.ec 2), W.iw0, 2, (State.seen ({ W.st [] with cores := [(2, { Core.reset with p := { Bank.reset with run := some { W.run0 with skip := 1 } }, frames := [(0, { Frame.reset with valid := true })] })] }) (2) (W.iw0)), ({ W.run0 with skip := 1 }), by decide +kernel, rfl, by decide +kernel⟩,
   ⟨({ W.grun [(F.SYS_ENGINE_STATE, 2)] with cores := [(2, { Core.reset with p := { Bank.reset with run := some W.run0, r := [(16, 0), (17, 7 * 2 ^ 16), (18, 0x00400101)] }, frames := [(0, { Frame.reset with valid := true })] })] }), (.ec 2), W.iw0, 2, (State.seen ({ W.grun [(F.SYS_ENGINE_STATE, 2)] with cores := [(2, { Core.reset with p := { Bank.reset with run := some W.run0, r := [(16, 0), (17, 7 * 2 ^ 16), (18, 0x00400101)] }, frames := [(0, { Frame.reset with valid := true })] })] }) (2) (W.iw0)), 4, by decide +kernel, rfl, by decide +kernel⟩,
   ⟨(W.ec { Bank.reset with r := [(16, 5), (17, 0x10000007), (18, 0x101)] } Core.reset), (.ec 2), W.iw0, 2, (State.seen (W.ec { Bank.reset with r := [(16, 5), (17, 0x10000007), (18, 0x101)] } Core.reset) (2) (W.iw0)), by decide +kernel, rfl, by decide +kernel⟩,
   ⟨(W.ec Bank.reset Core.reset), (.ec 2), W.iw0, 2, (State.seen (W.ec Bank.reset Core.reset) (2) (W.iw0)), by decide +kernel, rfl, by decide +kernel⟩,
   ⟨(W.ec Bank.reset Core.reset), (.ec 2), W.iw0, 2, (State.seen (W.ec Bank.reset Core.reset) (2) (W.iw0)), W.run0, by decide +kernel, rfl, by decide +kernel⟩,
   ⟨(W.ec Bank.reset Core.reset), (.ec 2), W.iw0, 2, (State.seen (W.ec Bank.reset Core.reset) (2) (W.iw0)), W.run0, by decide +kernel, rfl, by decide +kernel⟩,
   ⟨(W.ec Bank.reset Core.reset), (.ec 2), (⟨false, false, 3, 4, 5, 1, 1, 0⟩), 2, (State.seen (W.ec Bank.reset Core.reset) (2) (⟨false, false, 3, 4, 5, 1, 1, 0⟩)), by decide +kernel, rfl, by decide +kernel⟩,
   ⟨(W.ec Bank.reset { Core.reset with stores := [⟨[(3, 5)], false⟩] }), (.ec 2), W.iw0, 2, (State.seen (W.ec Bank.reset { Core.reset with stores := [⟨[(3, 5)], false⟩] }) (2) (W.iw0)), by decide +kernel, rfl, by decide +kernel⟩,
   ⟨(W.ec Bank.reset Core.reset), (.ec 2), (⟨true, true, 3, 4, 5, 1, 1, 77⟩), 2, (State.seen (W.ec Bank.reset Core.reset) (2) (⟨true, true, 3, 4, 5, 1, 1, 77⟩)), by decide +kernel, rfl, by decide +kernel⟩,
   ⟨({ W.ec Bank.reset Core.reset with swiq := List.replicate 16 ⟨1, 2, 3, 4⟩ }), (.ec 2), W.iw0, 2, (State.seen ({ W.ec Bank.reset Core.reset with swiq := List.replicate 16 ⟨1, 2, 3, 4⟩ }) (2) (W.iw0)), by decide +kernel, rfl, by decide +kernel⟩,
   ⟨(W.sw Bank.reset), .steward, (⟨false, true, 3, 4, 5, 1, 1, 0⟩), 64, (State.seen (W.sw Bank.reset) (64) (⟨false, true, 3, 4, 5, 1, 1, 0⟩)), by decide +kernel, rfl, by decide +kernel⟩,
   ⟨({ W.ec Bank.reset Core.reset with frc := 2 ^ 33 + 9 }), (.ec 2), W.iw0, 2, (State.seen ({ W.ec Bank.reset Core.reset with frc := 2 ^ 33 + 9 }) (2) (W.iw0)), by decide +kernel, rfl, by decide +kernel⟩,
   ⟨(W.ec Bank.reset Core.reset), (.ec 2), (⟨false, false, 3, 4, 5, 1, 1, 0⟩), 2, (State.seen (W.ec Bank.reset Core.reset) (2) (⟨false, false, 3, 4, 5, 1, 1, 0⟩)), by decide +kernel, rfl, by decide +kernel⟩,
   ⟨(W.ec { Bank.reset with r := [(ixSV, 1), (ixLF, 5)] } Core.reset), (.ec 2), (⟨false, true, 3, 4, 5, 1, 2, 0⟩), 2, (State.seen (W.ec { Bank.reset with r := [(ixSV, 1), (ixLF, 5)] } Core.reset) (2) (⟨false, true, 3, 4, 5, 1, 2, 0⟩)), by decide +kernel, rfl, by decide +kernel⟩,
   ⟨(W.ec Bank.reset Core.reset), (.ec 2), (⟨false, false, 3, 4, 5, 1, 3, 0⟩), 2, (State.seen (W.ec Bank.reset Core.reset) (2) (⟨false, false, 3, 4, 5, 1, 3, 0⟩)), by decide +kernel, rfl, by decide +kernel⟩,
   ⟨(W.ec Bank.reset { Core.reset with stores := [⟨[(3, 5)], false⟩] }), (.ec 2), (⟨false, false, 3, 4, 5, 1, 4, 0⟩), 2, (State.seen (W.ec Bank.reset { Core.reset with stores := [⟨[(3, 5)], false⟩] }) (2) (⟨false, false, 3, 4, 5, 1, 4, 0⟩)), by decide +kernel, rfl, by decide +kernel⟩⟩

/-- States and operands that meet the hypotheses of `Obligations.IllegalInstructionsFreezeTheCore`, clause by clause. -/
theorem test_witness_IllegalInstructionsFreezeTheCore :
    (∃ (s : State) (c : CoreSel) (i : CoreWord) (n : Nat) (x : Seen) (op : Fin 64), CoreSel.ix c = n ∧ s.seen n i = x ∧ s.ready n = true ∧ (op.val ∈ [0x2E, 0x2F] ∨ 0x38 ≤ op.val ∨ c = .steward ∧ op.val ∈ [0x0F, 0x13, 0x14, 0x15, 0x16, 0x17, 0x1C, 0x1D, 0x31, 0x36]) ∧ (s.masterOf n < 72 ∨ n = 64) ∧ State.runPip x.c < 2 ^ 14) :=
  ⟨(W.ec Bank.reset Core.reset), (.ec 2), W.iw0, 2, (State.seen (W.ec Bank.reset Core.reset) (2) (W.iw0)), 0x2E, by decide +kernel, rfl, by decide +kernel⟩

/-- States and operands that meet the hypotheses of `Obligations.LocalDmaCompletes`, clause by clause. -/
theorem test_witness_LocalDmaCompletes :
    (∃ (s : State) (c : CoreSel) (i : CoreWord) (n : Nat) (x : Seen), CoreSel.ix c = n ∧ s.seen n i = x ∧ s.ready n = true ∧ x.outstanding (natBits i.sub.toNat 0 0) < 4 ∧ x.moves = true ∧ x.dmaOk = true ∧ x.c.shadow = false ∧ x.dBytes ≠ 0) ∧
    (∃ (s : State) (c : CoreSel) (i : CoreWord) (n : Nat) (x : Seen), CoreSel.ix c = n ∧ s.seen n i = x ∧ s.ready n = true ∧ 4 ≤ x.outstanding (natBits i.sub.toNat 0 0)) ∧
    (∃ (s : State) (c : CoreSel) (i : CoreWord) (n : Nat) (x : Seen), CoreSel.ix c = n ∧ s.seen n i = x ∧ s.ready n = true ∧ x.moves = true ∧ ((if i.flg then x.outstanding 0 ≤ natBits i.sub.toNat 2 0 ∧ x.outstanding 1 ≤ natBits i.sub.toNat 2 0 else x.outstanding (natBits i.sub.toNat 3 3) ≤ natBits i.sub.toNat 2 0))) ∧
    (∃ (s : State) (c : CoreSel) (i : CoreWord) (n : Nat) (x : Seen), CoreSel.ix c = n ∧ s.seen n i = x ∧ s.ready n = true ∧ i.flg = false ∧ natBits i.sub.toNat 2 0 < x.outstanding (natBits i.sub.toNat 3 3)) ∧
    (∃ (s : State) (c : CoreSel) (i : CoreWord) (n : Nat) (x : Seen) (ch : Fin 4) (d : Desc) (rest : List Desc), CoreSel.ix c = n ∧ s.seen n i = x ∧ (s.core n).dma = d :: rest ∧ d.ch = ch.val ∧ d.fences ≤ (s.core n).storesDone ∧ (s.core n).frozen = false) ∧
    (∃ (s : State) (c : CoreSel) (i : CoreWord) (n : Nat) (x : Seen) (ch : Fin 4) (d : Desc), CoreSel.ix c = n ∧ s.seen n i = x ∧ (s.core n).dma = [d] ∧ d.ch = ch.val ∧ d.running = true ∧ (s.core n).frozen = false ∧ d.sd = false ∧ d.dd = false ∧ d.src + 16 * d.words ≤ dmemSize n ∧ orcBase ≤ d.dst ∧ d.dst - orcBase + 16 * d.words ≤ orcSize ∧ d.dst % 16 = 0 ∧ d.words ≤ 0x10000 ∧ ((∀ b : Fin 64, s.admits b (accessorOf n) = true ∧ s.get (F.ORC_OWN_PENDING b) = 0)) ∧ (s.core n).flaws = []) ∧
    (∃ (s : State) (c : CoreSel) (i : CoreWord) (n : Nat) (x : Seen) (ch : Fin 4) (d : Desc), CoreSel.ix c = n ∧ s.seen n i = x ∧ (s.core n).dma = [d] ∧ d.ch = ch.val ∧ d.running = true ∧ (s.core n).frozen = false ∧ d.sd = false ∧ d.dd = false ∧ d.dst + 16 * d.words ≤ dmemSize n ∧ orcBase ≤ d.src ∧ d.src - orcBase + 16 * d.words ≤ orcSize ∧ d.src % 16 = 0 ∧ d.words ≤ 0x10000 ∧ ((∀ b : Fin 64, s.admits b (accessorOf n) = true ∧ s.get (F.ORC_OWN_PENDING b) = 0)) ∧ s.orcFlaws = []) ∧
    (∃ (s : State) (c : CoreSel) (i : CoreWord) (n : Nat) (x : Seen) (ch : Fin 4) (d : Desc), CoreSel.ix c = n ∧ s.seen n i = x ∧ (s.core n).dma = [d] ∧ d.ch = ch.val ∧ d.running = true ∧ (s.core n).frozen = false ∧ d.sd = true ∧ d.dd = false ∧ d.dst + 16 * d.words ≤ dmemSize n ∧ d.src % 16 = 0 ∧ d.src + 16 * d.words ≤ s.dramSize ∧ s.dramFlaws = []) ∧
    (∃ (s : State) (c : CoreSel) (i : CoreWord) (n : Nat) (x : Seen) (ch : Fin 4) (d : Desc), CoreSel.ix c = n ∧ s.seen n i = x ∧ (s.core n).dma = [d] ∧ d.ch = ch.val ∧ d.running = true ∧ (s.core n).frozen = false ∧ d.sd = false ∧ d.dd = true ∧ d.src + 16 * d.words ≤ dmemSize n ∧ d.dst % 16 = 0 ∧ d.dst + 16 * d.words ≤ s.dramSize ∧ (s.core n).flaws = []) ∧
    (∃ (s : State) (c : CoreSel) (i : CoreWord) (n : Nat) (x : Seen) (ch : Fin 4) (d : Desc), CoreSel.ix c = n ∧ s.seen n i = x ∧ headDesc (s.core n) ch = some d ∧ d.running = true ∧ (s.core n).frozen = false) :=
  ⟨⟨({ W.ec { Bank.reset with r := [(16, 0x100), (17, 0x10000000), (19, 32)] } Core.reset with regs := (W.st [(F.ORC_OWN_OWNER 0, 2)]).regs }), (.ec 2), W.iw0, 2, (State.seen ({ W.ec { Bank.reset with r := [(16, 0x100), (17, 0x10000000), (19, 32)] } Core.reset with regs := (W.st [(F.ORC_OWN_OWNER 0, 2)]).regs }) (2) (W.iw0)), by decide +kernel, rfl, by decide +kernel⟩,
   ⟨(W.ec Bank.reset { Core.reset with dma := List.replicate 4 ⟨0, false, 0, false, 0x10000000, 1, 0, false⟩ }), (.ec 2), W.iw0, 2, (State.seen (W.ec Bank.reset { Core.reset with dma := List.replicate 4 ⟨0, false, 0, false, 0x10000000, 1, 0, false⟩ }) (2) (W.iw0)), by decide +kernel, rfl, by decide +kernel⟩,
   ⟨(W.ec Bank.reset { Core.reset with dma := [⟨0, false, 0, false, 0x10000000, 1, 0, false⟩] }), (.ec 2), (⟨false, false, 3, 4, 5, 1, 1, 0⟩), 2, (State.seen (W.ec Bank.reset { Core.reset with dma := [⟨0, false, 0, false, 0x10000000, 1, 0, false⟩] }) (2) (⟨false, false, 3, 4, 5, 1, 1, 0⟩)), by decide +kernel, rfl, by decide +kernel⟩,
   ⟨(W.ec Bank.reset { Core.reset with dma := [⟨0, false, 0, false, 0x10000000, 1, 0, false⟩] }), (.ec 2), W.iw0, 2, (State.seen (W.ec Bank.reset { Core.reset with dma := [⟨0, false, 0, false, 0x10000000, 1, 0, false⟩] }) (2) (W.iw0)), by decide +kernel, rfl, by decide +kernel⟩,
   ⟨(W.ec Bank.reset { Core.reset with dma := [⟨0, false, 0, false, 0x10000000, 1, 0, false⟩] }), (.ec 2), W.iw0, 2, (State.seen (W.ec Bank.reset { Core.reset with dma := [⟨0, false, 0, false, 0x10000000, 1, 0, false⟩] }) (2) (W.iw0)), 0, (⟨0, false, 0, false, 0x10000000, 1, 0, false⟩), ([]), by decide +kernel, rfl, by decide +kernel⟩,
   ⟨({ W.st ((List.range 64).map (fun k => (F.ORC_OWN_OWNER k, 0x50))) with cores := [(64, { Core.reset with dmem := [(3, 7)], dma := [⟨0, false, 0, false, 0x10000000, 2, 0, true⟩] })] }), .steward, W.iw0, 64, (State.seen ({ W.st ((List.range 64).map (fun k => (F.ORC_OWN_OWNER k, 0x50))) with cores := [(64, { Core.reset with dmem := [(3, 7)], dma := [⟨0, false, 0, false, 0x10000000, 2, 0, true⟩] })] }) (64) (W.iw0)), 0, (⟨0, false, 0, false, 0x10000000, 2, 0, true⟩), by decide +kernel, rfl, by decide +kernel⟩,
   ⟨({ W.st ((List.range 64).map (fun k => (F.ORC_OWN_OWNER k, 0x50))) with orchard := [(3, 7)], cores := [(64, { Core.reset with dma := [⟨0, false, 0x10000000, false, 16, 2, 0, true⟩] })] }), .steward, W.iw0, 64, (State.seen ({ W.st ((List.range 64).map (fun k => (F.ORC_OWN_OWNER k, 0x50))) with orchard := [(3, 7)], cores := [(64, { Core.reset with dma := [⟨0, false, 0x10000000, false, 16, 2, 0, true⟩] })] }) (64) (W.iw0)), 0, (⟨0, false, 0x10000000, false, 16, 2, 0, true⟩), by decide +kernel, rfl, by decide +kernel⟩,
   ⟨({ W.st [(F.DMC_STAT_STATE, 2), (F.DMC_STAT_SIZE, 64)] with dram := [(3, 7)], cores := [(2, { Core.reset with dma := [⟨0, true, 0, false, 16, 2, 0, true⟩] })] }), (.ec 2), W.iw0, 2, (State.seen ({ W.st [(F.DMC_STAT_STATE, 2), (F.DMC_STAT_SIZE, 64)] with dram := [(3, 7)], cores := [(2, { Core.reset with dma := [⟨0, true, 0, false, 16, 2, 0, true⟩] })] }) (2) (W.iw0)), 0, (⟨0, true, 0, false, 16, 2, 0, true⟩), by decide +kernel, rfl, by decide +kernel⟩,
   ⟨({ W.st [(F.DMC_STAT_STATE, 2), (F.DMC_STAT_SIZE, 64)] with cores := [(2, { Core.reset with dmem := [(17, 7)], dma := [⟨0, false, 16, true, 32, 2, 0, true⟩] })] }), (.ec 2), W.iw0, 2, (State.seen ({ W.st [(F.DMC_STAT_STATE, 2), (F.DMC_STAT_SIZE, 64)] with cores := [(2, { Core.reset with dmem := [(17, 7)], dma := [⟨0, false, 16, true, 32, 2, 0, true⟩] })] }) (2) (W.iw0)), 0, (⟨0, false, 16, true, 32, 2, 0, true⟩), by decide +kernel, rfl, by decide +kernel⟩,
   ⟨({ W.st ((List.range 64).map (fun k => (F.ORC_OWN_OWNER k, 0x50))) with orchard := [(3, 7)], cores := [(64, { Core.reset with dma := [⟨0, false, 0x10000000, false, 16, 2, 0, true⟩] })] }), .steward, W.iw0, 64, (State.seen ({ W.st ((List.range 64).map (fun k => (F.ORC_OWN_OWNER k, 0x50))) with orchard := [(3, 7)], cores := [(64, { Core.reset with dma := [⟨0, false, 0x10000000, false, 16, 2, 0, true⟩] })] }) (64) (W.iw0)), 0, (⟨0, false, 0x10000000, false, 16, 2, 0, true⟩), by decide +kernel, rfl, by decide +kernel⟩⟩

/-- States and operands that meet the hypotheses of `Obligations.QuinceWritesComplete`, clause by clause. -/
theorem test_witness_QuinceWritesComplete :
    (∃ (s : State) (m : Master) (p : Fin 16384), s.performs m (0xC00000 + 64 * p) = true ∧ s.vmPip p = false ∧ s.get (F.PIP1_EN p) = 0) ∧
    (∃ (s : State) (m : Master) (p : Fin 16384) (k : Fin 16), s.performs m (0xC00000 + 64 * p + 4 * k) = true ∧ k.val ≠ 1 ∧ k.val < 13 ∧ s.vmPip p = false ∧ s.get (F.PIP1_EN p) = 0) ∧
    (∃ (s : State) (m : Master) (p : Fin 16384) (k : Fin 16), s.performs m (0xC00000 + 64 * p + 4 * k) = true ∧ k.val ≠ 1 ∧ k.val < 13 ∧ s.get (F.PIP1_EN p) ≠ 0) ∧
    (∃ (s : State) (m : Master) (p : Fin 16384) (w : Word), s.performs m (0xC00000 + 64 * p + 4) = true ∧ s.vmPip p = false ∧ s.get (F.PIP1_EN p) = 0 ∧ (s.puts (State.pip1Fields p) (w ||| 0x20000000).toNat).pipBad p = false) ∧
    (∃ (s : State) (m : Master) (p : Fin 16384) (w : Word), s.performs m (0xC00000 + 64 * p + 4) = true ∧ s.vmPip p = false ∧ s.get (F.PIP1_EN p) = 0 ∧ (s.puts (State.pip1Fields p) (w ||| 0x20000000).toNat).pipBad p = true) ∧
    (∃ (s : State) (m : Master) (p : Fin 16384), s.performs m (0xC00000 + 64 * p + 4) = true ∧ s.vmPip p = false ∧ s.get (F.PIP1_EN p) ≠ 0) ∧
    (∃ (s : State) (m : Master), s.performs m 0x500D0 = true) ∧
    (∃ (s : State) (m : Master) (k : Fin 8), s.performs m (0x50084 + 8 * k) = true) ∧
    (∃ (s : State) (m : Master) (w : Word), s.performs m 0x50008 = true ∧ 1024 ≤ w.toNat ∧ w.toNat + 1024 ≤ s.blockCycles ∧ s.blockCycles ≤ 2 ^ 20) ∧
    (∃ (s : State) (m : Master) (w : Word), s.performs m 0x50008 = true ∧ (w.toNat < 1024 ∨ s.blockCycles < w.toNat + 1024)) ∧
    (∃ (s : State) (m : Master) (w : Word) (i : Fin 1024), s.performs m (0x58004 + 8 * i) = true ∧ natBits w.toNat 10 0 ≤ 1024 ∧ (natBit w.toNat 31 = true ∨ natBits w.toNat 30 27 = 0)) :=
  ⟨⟨State.reset, .steward, 2, by decide +kernel⟩,
   ⟨State.reset, .steward, 2, 5, by decide +kernel⟩,
   ⟨(W.st [(F.PIP1_EN 2,1)]), .steward, 2, 5, by decide +kernel⟩,
   ⟨(W.st [(F.PIP0_IMAGE 2,1),(F.QN_IMG1_LENW 1, 4)]), .steward, 2, 0, by decide +kernel⟩,
   ⟨State.reset, .steward, 2, 0, by decide +kernel⟩,
   ⟨(W.st [(F.PIP1_EN 2,1)]), .steward, 2, by decide +kernel⟩,
   ⟨(W.st [(F.QN_SLIST_IDX_I,2)]), .steward, by decide +kernel⟩,
   ⟨State.reset, .steward, 2, by decide +kernel⟩,
   ⟨State.reset, .steward, 2000, by decide +kernel⟩,
   ⟨State.reset, .steward, 0, by decide +kernel⟩,
   ⟨({ W.st [] with staged := [((0x58010, 0x50), 11)] }), .steward, 5, 2, by decide +kernel⟩⟩

/-- States and operands that meet the hypotheses of `Obligations.QuinceDispatchCompletes`, clause by clause. -/
theorem test_witness_QuinceDispatchCompletes :
    (∃ (s : State) (m : Master) (c : Fin 64), s.performs m (0x200000 + 0x4000 * c) = true) ∧
    (∃ (s : State) (m : Master) (c : Fin 64), s.performs m (0x200000 + 0x4000 * c) = true) ∧
    (∃ (s : State) (m : Master) (p : Fin 16384), s.performs m 0x50110 = true ∧ s.standby = false ∧ s.mirrors = false ∧ s.wouldHold p m.id = false ∧ s.postReason p (s.postLevel p) = none ∧ s.get (F.PIP1_TS p) = 0) ∧
    (∃ (s : State) (m : Master) (p : Fin 16384) (r : Nat), s.performs m 0x50110 = true ∧ s.standby = false ∧ s.mirrors = false ∧ s.wouldHold p m.id = false ∧ s.postReason p (s.postLevel p) = some r) ∧
    (∃ (s : State) (c : Fin 64) (e : QEvent), (s.readyEvents true).head? = some e ∧ s.get (F.PIP1_EN e.pip) ≠ 0 ∧ s.urgentCore e.pip = some c.val ∧ s.sourcesOk e.pip = true) ∧
    (∃ (s : State) (c : Fin 64) (p : Nat) (g : Nat) (cur : List (Nat × Int)), (s.core c).next = none ∧ s.takesPips c = true ∧ s.urgentWaiting c = false ∧ (s.readyEvents false).all (fun e => s.on (F.PIP1_EN e.pip)) = true ∧ s.rrDecide c = some (g, cur) ∧ g < 16 ∧ s.readyGraph g c = some p ∧ s.sourcesOk p = true) ∧
    (∃ (s : State) (c : Fin 64) (e : QEvent) (g : Nat) (cur : List (Nat × Int)), (s.core c).next = none ∧ s.takesPips c = true ∧ s.urgentWaiting c = false ∧ (s.readyEvents false).all (fun e => s.on (F.PIP1_EN e.pip)) = true ∧ s.rrDecide c = some (g, cur) ∧ 16 ≤ g ∧ s.readyEvent c = some e ∧ s.sourcesOk e.pip = true) :=
  ⟨⟨W.evst, .steward, 2, by decide +kernel⟩,
   ⟨W.next1, .steward, 2, by decide +kernel⟩,
   ⟨(W.st [(F.PIP1_EN 2,1),(F.PIP1_CLASS 2,1),(F.PIP1_GL 2,5)]), .steward, 2, by decide +kernel⟩,
   ⟨(W.st []), .steward, 2, 1, by decide +kernel⟩,
   ⟨W.urg, 0, W.ev1, by decide +kernel⟩,
   ⟨W.rr, 0, 2, 0, ([]), by decide +kernel⟩,
   ⟨W.rre, 0, W.ev2, 16, ([]), by decide +kernel⟩⟩

/-- States and operands that meet the hypotheses of `Obligations.VoiceWordsComplete`, clause by clause. -/
theorem test_witness_VoiceWordsComplete :
    (∃ (s : State) (src : BitVec 8) (w : Quad) (v : VWord), s.takesNow 1 src.toNat w.toNat v = true ∧ s.roomFor w.toNat = true ∧ s.roomToAttach (s.slotsFor w.toNat).length = true) ∧
    (∃ (s : State) (src : BitVec 8) (w : Quad) (v : VWord) (num : Nat), s.takesNow 2 src.toNat w.toNat v = true ∧ s.addressed (State.vwGroup w.toNat) (State.vwNote w.toNat) = some num ∧ s.noteState num = 1 ∧ s.get (F.VM_GCNT_HOLD (State.vwGroup w.toNat)) = 0 ∧ s.roomToAttach (s.noteSlots num).length = true) ∧
    (∃ (s : State) (src : BitVec 8) (w : Quad) (v : VWord) (num : Nat), s.takesNow 2 src.toNat w.toNat v = true ∧ s.addressed (State.vwGroup w.toNat) (State.vwNote w.toNat) = some num ∧ s.noteState num = 1 ∧ s.get (F.VM_GCNT_HOLD (State.vwGroup w.toNat)) ≠ 0) ∧
    (∃ (s : State) (src : BitVec 8) (w : Quad) (v : VWord), s.takesNow 2 src.toNat w.toNat v = true ∧ s.addressed (State.vwGroup w.toNat) (State.vwNote w.toNat) = none) ∧
    (∃ (s : State) (src : BitVec 8) (w : Quad) (v : VWord) (num : Nat), s.takesNow 3 src.toNat w.toNat v = true ∧ s.addressed (State.vwGroup w.toNat) (State.vwNote w.toNat) = some num ∧ s.roomToAttach (s.noteSlots num).length = true) ∧
    (∃ (s : State) (src : BitVec 8) (w : Quad) (v : VWord) (num : Nat), s.takesNow 3 src.toNat w.toNat v = true ∧ s.addressed (State.vwGroup w.toNat) (State.vwNote w.toNat) = some num ∧ s.roomToAttach (s.noteSlots num).length = false) ∧
    (∃ (s : State) (src : BitVec 8) (w : Quad) (v : VWord) (num : Nat), s.takesNow 7 src.toNat w.toNat v = true ∧ State.vwNote w.toNat ≠ 0xFFFF ∧ s.addressed (State.vwGroup w.toNat) (State.vwNote w.toNat) = some num ∧ s.roomToAttach (s.noteSlots num).length = true) ∧
    (∃ (s : State) (src : BitVec 8) (w : Quad) (v : VWord), s.takesNow 4 src.toNat w.toNat v = true ∧ State.vwValue w.toNat ≠ 0) ∧
    (∃ (s : State) (src : BitVec 8) (w : Quad) (v : VWord), s.takesNow 4 src.toNat w.toNat v = true ∧ State.vwValue w.toNat = 0 ∧ s.roomToAttach s.busySlots.length = true) ∧
    (∃ (s : State) (src : BitVec 8) (w : Quad) (v : VWord), s.takesNow 5 src.toNat w.toNat v = true ∧ s.roomToAttach s.busySlots.length = true) ∧
    (∃ (s : State) (src : BitVec 8) (w : Quad) (v : VWord) (num : Nat), s.takesNow 6 src.toNat w.toNat v = true ∧ State.vwNote w.toNat ≠ 0xFFFF ∧ s.addressed (State.vwGroup w.toNat) (State.vwNote w.toNat) = some num ∧ s.fadeTooMany num = false ∧ s.roomToAttach (s.noteSlots num).length = true) ∧
    (∃ (s : State) (src : BitVec 8) (w : Quad) (v : VWord), s.nextWord = some v ∧ v.word = w.toNat ∧ v.src = src.toNat ∧ State.vwType w.toNat = 1 ∧ s.get F.VM_STAT_STATE ≠ unitON) :=
  ⟨⟨(W.vmS [] (W.wd 1 0)), 0x58, (BitVec.ofNat 128 (W.wd 1 0)), (W.vw (W.wd 1 0)), by decide +kernel⟩,
   ⟨(W.vmS (W.nt 1) (W.wd 2 0)), 0x58, (BitVec.ofNat 128 (W.wd 2 0)), (W.vw (W.wd 2 0)), 9, by decide +kernel⟩,
   ⟨(W.vmS ((F.VM_GCNT_HOLD 1,1) :: W.nt 1) (W.wd 2 0)), 0x58, (BitVec.ofNat 128 (W.wd 2 0)), (W.vw (W.wd 2 0)), 9, by decide +kernel⟩,
   ⟨(W.vmS [] (W.wd 2 0)), 0x58, (BitVec.ofNat 128 (W.wd 2 0)), (W.vw (W.wd 2 0)), by decide +kernel⟩,
   ⟨(W.vmS (W.nt 1) (W.wd 3 0)), 0x58, (BitVec.ofNat 128 (W.wd 3 0)), (W.vw (W.wd 3 0)), 9, by decide +kernel⟩,
   ⟨({ W.vmS (W.nt 1 ++ [(F.VT0_STATE 4, 1), (F.VT0_GROUP 4, 1), (F.VT0_NOTE 4, 7), (I.VT_NUM 4, 9)]) (W.wd 3 0) with vm := { words := [W.vw (W.wd 3 0)], attach := List.replicate 8191 ⟨1, 2, 3⟩, phasor := [] } }), 0x58, (BitVec.ofNat 128 (W.wd 3 0)), (W.vw (W.wd 3 0)), 9, by decide +kernel⟩,
   ⟨(W.vmS (W.nt 1) (W.wd 7 0)), 0x58, (BitVec.ofNat 128 (W.wd 7 0)), (W.vw (W.wd 7 0)), 9, by decide +kernel⟩,
   ⟨(W.vmS (W.nt 1) (W.wd 4 5)), 0x58, (BitVec.ofNat 128 (W.wd 4 5)), (W.vw (W.wd 4 5)), by decide +kernel⟩,
   ⟨(W.vmS (W.nt 2) (W.wd 4 0)), 0x58, (BitVec.ofNat 128 (W.wd 4 0)), (W.vw (W.wd 4 0)), by decide +kernel⟩,
   ⟨(W.vmS (W.nt 2) (W.wd 5 0)), 0x58, (BitVec.ofNat 128 (W.wd 5 0)), (W.vw (W.wd 5 0)), by decide +kernel⟩,
   ⟨(W.vmS (W.nt 1) (W.wd 6 0)), 0x58, (BitVec.ofNat 128 (W.wd 6 0)), (W.vw (W.wd 6 0)), 9, by decide +kernel⟩,
   ⟨({ W.st [] with vm := { words := [W.vw (W.wd 1 0)], attach := [], phasor := [] } }), 0x58, (BitVec.ofNat 128 (W.wd 1 0)), (W.vw (W.wd 1 0)), by decide +kernel⟩⟩

/-- States and operands that meet the hypotheses of `Obligations.WaitingGroupsComplete`, clause by clause. -/
theorem test_witness_WaitingGroupsComplete :
    (∃ (s : State) (g : Fin 256) (v : VWord), s.get (I.VM_BLK g) ≠ 0 ∧ s.firstOf g = some v ∧ State.vwType v.word = 1 ∧ State.vwGroup v.word = g.val ∧ s.get F.VM_STAT_STATE = unitON ∧ s.get (F.VM_GRP0_EN g) ≠ 0 ∧ s.roomFor v.word = true ∧ s.roomToAttach (s.slotsFor v.word).length = true ∧ v.wait ≠ some s.handledBlk) ∧
    (∃ (s : State) (g : Fin 256) (v : VWord) (num : Nat), s.get (I.VM_GKILL g) = 0 ∧ s.get (I.VM_BLK g) ≠ 0 ∧ s.firstOf g = some v ∧ State.vwType v.word = 6 ∧ State.vwNote v.word ≠ 0xFFFF ∧ s.get F.VM_STAT_STATE = unitON ∧ s.get (F.VM_GRP0_EN g) ≠ 0 ∧ s.addressed g (State.vwNote v.word) = some num ∧ s.fadeTooMany num = false ∧ v.wait = none ∧ s.roomToAttach (s.noteSlots num).length = true) ∧
    (∃ (s : State) (g : Fin 256) (num : Nat), s.get (I.VM_GKILL g) ≠ 0 ∧ s.get (I.VM_BLK g) = 0 ∧ s.groupNotes g = [num] ∧ s.fadeTooMany num = false ∧ s.roomToAttach (s.noteSlots num).length = true) :=
  ⟨⟨(W.vmS [(I.VM_BLK 1,1)] (W.wd 1 0)), 1, (W.vw (W.wd 1 0)), by decide +kernel⟩,
   ⟨(W.vmS ((I.VM_BLK 1,1) :: W.nt 1) (W.wd 6 0)), 1, (W.vw (W.wd 6 0)), 9, by decide +kernel⟩,
   ⟨(W.vmS ((I.VM_GKILL 1,1) :: W.nt 2) 0), 1, 9, by decide +kernel⟩⟩

/-- States and operands that meet the hypotheses of `Obligations.VoiceUnitCompletes`, clause by clause. -/
theorem test_witness_VoiceUnitCompletes :
    (∃ (s : State) (m : Master) (w : Word), s.performs m 0x60000 = true ∧ s.get F.VM_STAT_STATE = unitOFF ∧ 1 ≤ natBits w.toNat 28 16 ∧ natBits w.toNat 28 16 ≤ 4096 ∧ natBits w.toNat 8 0 ≤ 256 ∧ natBits w.toNat 8 0 ≤ natBits w.toNat 28 16 ∧ s.get F.VM_BASE_PIPBASE + 2 * natBits w.toNat 28 16 ≤ 16384 ∧ s.get F.VM_BASE_GAINBASE + natBits w.toNat 28 16 ≤ 65536) ∧
    (∃ (s : State) (m : Master) (w : Word), s.performs m 0x60000 = true ∧ s.get F.VM_STAT_STATE = unitOFF ∧ (natBits w.toNat 28 16 = 0 ∨ 4096 < natBits w.toNat 28 16 ∨ 256 < natBits w.toNat 8 0)) ∧
    (∃ (s : State) (m : Master), s.performs m 0x60000 = true ∧ s.get F.VM_CTRL_EN ≠ 0 ∧ s.get F.VM_STAT_STATE = unitON) ∧
    (∃ (s : State), s.get F.VM_STAT_STATE = unitSHUTTING ∧ s.get F.VM_CTRL_EN = 0 ∧ s.busySlots = []) ∧
    (∃ (s : State) (m : Master) (g : Fin 256) (w : Word), s.performs m (0x61000 + 16 * g) = true ∧ s.get (F.VM_GRP0_EN g) = 0 ∧ (s.puts (State.grp0Fields g) (w ||| 0x80000000).toNat).grpBad g = false) ∧
    (∃ (s : State) (m : Master) (g : Fin 256) (w : Word), s.performs m (0x61000 + 16 * g) = true ∧ s.get (F.VM_GRP0_EN g) = 0 ∧ (s.puts (State.grp0Fields g) (w ||| 0x80000000).toNat).grpBad g = true) ∧
    (∃ (s : State) (m : Master) (g : Fin 256), s.performs m (0x61000 + 16 * g) = true ∧ s.get (F.VM_GRP0_EN g) ≠ 0) ∧
    (∃ (s : State) (g : Fin 256) (p : Nat), s.phRunning = true ∧ s.joinReady g = true ∧ s.get (I.VM_JOINED g) ≠ s.blockIx ∧ s.get (F.VM_GRP2_JOIN g) = p ∧ s.get (F.PIP1_EN p) ≠ 0 ∧ s.get (F.PIP1_CLASS p) = 0 ∧ s.get (I.PIP_ARM p) ≠ 0 ∧ s.get (I.PIP_BLK p) = s.handledBlk ∧ 1 < s.get (F.PIP13_CNT p)) ∧
    (∃ (s : State) (m : Master) (p : Fin 8192), s.performs m (0x400000 + 16 * p + 12) = true) :=
  ⟨⟨State.reset, .steward, 0x10000080, by decide +kernel⟩,
   ⟨State.reset, .steward, 0, by decide +kernel⟩,
   ⟨(W.st ([(F.VM_CTRL_EN,1),(F.VM_STAT_STATE,2)] ++ W.nt 1)), .steward, by decide +kernel⟩,
   ⟨(W.st [(F.VM_STAT_STATE,3)]), by decide +kernel⟩,
   ⟨(W.st [(F.PIP1_CLASS 9000,1),(F.PIP1_REC 9001,1),(F.VM_GRP1_TPL_ON 1, 9000),(F.VM_GRP1_TPL_RND 1, 9001)]), .steward, 1, 0x10000010, by decide +kernel⟩,
   ⟨State.reset, .steward, 1, 0x10, by decide +kernel⟩,
   ⟨(W.st ((F.VM_GRP0_EN 1,1) :: W.nt 1)), .steward, 1, by decide +kernel⟩,
   ⟨(W.grun [(F.VM_GRP0_EN 1,1),(F.VM_GRP2_JV 1,1),(F.VM_GRP2_JOIN 1,5),(F.PIP1_EN 5,1),(I.PIP_ARM 5,1),(I.PIP_BLK 5,3),(F.PIP13_CNT 5,2)]), 1, 5, by decide +kernel⟩,
   ⟨({ W.st [(F.VM_STAT_STATE,2)] with staged := [((0x400030, 0x50), 0x180000001)] }), .steward, 3, by decide +kernel⟩⟩

/-- States and operands that meet the hypotheses of `Obligations.PhasorCommandsComplete`, clause by clause. -/
theorem test_witness_PhasorCommandsComplete :
    (∃ (s : State) (w : Quad) (o : Int), s.get F.VM_STAT_STATE = unitON ∧ State.voiceBad w.toNat = none ∧ o = (if s.phRunning then ((extend48 (w.toNat / 2 ^ 80) s.frc : Nat) : Int) - ((s.computedFrom : Nat) : Int) else 0) ∧ State.vwType w.toNat = 0x10 ∧ (s.phRunning = false ∨ extend48 (w.toNat / 2 ^ 80) s.frc / s.blockLen < s.blockIx)) ∧
    (∃ (s : State) (w : Quad) (o : Int), s.get F.VM_STAT_STATE = unitON ∧ State.voiceBad w.toNat = none ∧ o = (if s.phRunning then ((extend48 (w.toNat / 2 ^ 80) s.frc : Nat) : Int) - ((s.computedFrom : Nat) : Int) else 0) ∧ State.vwType w.toNat = 0x11 ∧ (s.phRunning = false ∨ extend48 (w.toNat / 2 ^ 80) s.frc / s.blockLen < s.blockIx)) ∧
    (∃ (s : State) (w : Quad) (o : Int), s.get F.VM_STAT_STATE = unitON ∧ State.voiceBad w.toNat = none ∧ o = (if s.phRunning then ((extend48 (w.toNat / 2 ^ 80) s.frc : Nat) : Int) - ((s.computedFrom : Nat) : Int) else 0) ∧ State.vwType w.toNat = 0x12 ∧ (s.phRunning = false ∨ extend48 (w.toNat / 2 ^ 80) s.frc / s.blockLen < s.blockIx)) ∧
    (∃ (s : State) (w : Quad) (o : Int), s.get F.VM_STAT_STATE = unitON ∧ State.voiceBad w.toNat = none ∧ o = (if s.phRunning then ((extend48 (w.toNat / 2 ^ 80) s.frc : Nat) : Int) - ((s.computedFrom : Nat) : Int) else 0) ∧ State.vwType w.toNat = 0x10 ∧ s.phRunning = true ∧ s.blockIx ≤ extend48 (w.toNat / 2 ^ 80) s.frc / s.blockLen) ∧
    (∃ (s : State) (w : Quad) (o : Int), s.get F.VM_STAT_STATE = unitON ∧ State.voiceBad w.toNat = none ∧ o = (if s.phRunning then ((extend48 (w.toNat / 2 ^ 80) s.frc : Nat) : Int) - ((s.computedFrom : Nat) : Int) else 0) ∧ s.vm.phasor = [w.toNat] ∧ State.vwType w.toNat = 0x11 ∧ s.phRunning = true ∧ extend48 (w.toNat / 2 ^ 80) s.frc / s.blockLen < s.blockIx) :=
  ⟨⟨(W.st [(F.VM_STAT_STATE,2),(I.PH_P 2,77),(I.PH_D 2,0xFFFFFFFFFFF0),(I.PH_G 2,5)]), 0x1000000212345678ABCD, 0, by decide +kernel⟩,
   ⟨(W.grun [(I.PH_P 2,77),(I.PH_D 2,0xFFFFFFFFFFF0),(I.PH_G 2,0xFFFFFFF5)]), 0x3411000002F2345678ABCD, 4, by decide +kernel⟩,
   ⟨(W.grun [(I.PH_P 2,77),(I.PH_D 2,0xFFFFFFFFFFF0),(I.PH_G 2,0xFFFFFFF5)]), 0x3512000002F23456780000, 5, by decide +kernel⟩,
   ⟨(W.grun []), 0x441000000212345678ABCD, 20, by decide +kernel⟩,
   ⟨({ W.grun [(I.PH_P 2,77),(I.PH_G 2,0xFFFFFFF5)] with vm := { words := [], attach := [], phasor := [0x3411000002F2345678ABCD] } }), 0x3411000002F2345678ABCD, 4, by decide +kernel⟩⟩

/-- States and operands that meet the hypotheses of `Obligations.PipRunsComplete`, clause by clause. -/
theorem test_witness_PipRunsComplete :
    (∃ (s : State) (c : Fin 64) (r : PipRun), (s.core c).next = some r ∧ r.landed = true ∧ (s.core c).p.run = none ∧ (s.core c).shadow = false ∧ (s.core c).frozen = false ∧ (s.core c).halted = false ∧ r.ev = none ∧ s.slotOfRender r.pip = none ∧ r.reruns = 0) ∧
    (∃ (s : State) (c : Fin 64) (r : PipRun), (s.core c).next = some r ∧ r.landed = true ∧ (s.core c).p.run = none ∧ (s.core c).shadow = false ∧ (s.core c).frozen = false ∧ (s.core c).halted = false ∧ r.ev = none ∧ r.reruns ≠ 0) ∧
    (∃ (s : State) (c : Fin 64) (r : PipRun) (e : QEvent), (s.core c).next = some r ∧ r.landed = true ∧ r.ev = some e ∧ e.level < 4 ∧ (s.core c).p.run.isSome = true ∧ (s.core c).shadow = false ∧ (s.core c).p.slots = 0 ∧ (s.core c).frozen = false ∧ (s.core c).halted = false ∧ (s.core c).heldPost = false ∧ r.reruns = 0) ∧
    (∃ (s : State) (c : Fin 64) (r : PipRun), (s.core c).p.run = some r ∧ (s.core c).shadow = false ∧ r.qdone = true ∧ (s.core c).stores = [] ∧ (s.core c).dma = [] ∧ (s.core c).p.load = none ∧ (s.core c).frozen = false ∧ r.ev = none ∧ r.late = false ∧ s.slotOfRender r.pip = none ∧ s.get (F.PIP2_SL r.pip) = 0 ∧ (s.get (I.PIP_DONE r.pip) = 0 ∨ s.get (F.PIP14_LASTBLK r.pip) ≠ r.blk % 2 ^ 32)) ∧
    (∃ (s : State) (c : Fin 64) (r : PipRun) (k : Nat), (s.core c).p.run = some r ∧ (s.core c).shadow = false ∧ r.qdone = true ∧ (s.core c).stores = [] ∧ (s.core c).dma = [] ∧ (s.core c).p.load = none ∧ (s.core c).frozen = false ∧ r.ev = none ∧ r.ended = true ∧ s.get (I.PIP_DONE r.pip) = 0 ∧ s.slotOfRender r.pip = some k ∧ s.get (F.VT0_STATE k) ≠ 0) ∧
    (∃ (s : State) (m : Master) (b : Nat), s.performs m 0x50110 = true ∧ s.standby = false ∧ s.mirrors = false ∧ State.voiceBad (s.stagedQuad m 0x50100) = none ∧ State.vwType (s.stagedQuad m 0x50100) < 0x10 ∧ s.voiceHold (s.stagedQuad m 0x50100) m.id = false ∧ extend48 (s.stagedQuad m 0x50100 / 2 ^ 80) s.frc / s.blockLen = b ∧ s.blockIx ≤ b) :=
  ⟨⟨(W.nx { W.run0 with copy := [0x40] }), 2, ({ W.run0 with copy := [0x40] }), by decide +kernel⟩,
   ⟨(W.nx { W.run0 with copy := [0x40], reruns := 1, events := [5] }), 2, ({ W.run0 with copy := [0x40], reruns := 1, events := [5] }), by decide +kernel⟩,
   ⟨({ W.st [] with cores := [(2, { Core.reset with next := some { W.run0 with ev := some W.ev1 }, p := { Core.reset.p with run := some W.run0 } })] }), 2, ({ W.run0 with ev := some W.ev1 }), W.ev1, by decide +kernel⟩,
   ⟨(W.rn [(F.PIP1_EN 2,1)] { W.run0 with qdone := true }), 2, ({ W.run0 with qdone := true }), by decide +kernel⟩,
   ⟨(W.rn [(F.VM_STAT_STATE,2),(F.PIP1_EN 3,1),(F.VT0_STATE 1,1)] { W.run0 with pip := 3, qdone := true, ended := true }), 2, ({ W.run0 with pip := 3, qdone := true, ended := true }), 1, by decide +kernel⟩,
   ⟨({ W.st [] with staged := [((0x50108, 0x50), 0x203)] }), .steward, 0, by decide +kernel⟩⟩

/-- States and operands that meet the hypotheses of `Obligations.ParamCommandCompletes`, clause by clause. -/
theorem test_witness_ParamCommandCompletes :
    (∃ (w : BitVec 128), natBits w.toNat 79 72 = 1 ∧ State.cmdBad w.toNat = true) ∧
    (∃ (s : State) (w : BitVec 128), natBits w.toNat 79 72 = 1 ∧ State.cmdBad w.toNat = false ∧ s.vmGain (natBits w.toNat 47 32) = true) ∧
    (∃ (s : State) (w : BitVec 128), natBits w.toNat 79 72 = 1 ∧ State.cmdBad w.toNat = false ∧ s.vmGain (natBits w.toNat 47 32) = false ∧ s.preparing = false) ∧
    (∃ (s : State) (w : BitVec 128), natBits w.toNat 79 72 = 1 ∧ State.cmdBad w.toNat = false ∧ s.vmGain (natBits w.toNat 47 32) = false ∧ s.preparing = true ∧ natBit w.toNat 64 = true ∧ s.rampsFree ≠ 0) ∧
    (∃ (s : State) (w : BitVec 128) (n : Nat), natBits w.toNat 79 72 = 1 ∧ State.cmdBad w.toNat = false ∧ s.vmGain (natBits w.toNat 47 32) = false ∧ s.preparing = true ∧ natBit w.toNat 64 = false ∧ extend48 (w.toNat / 2 ^ 80) s.frc = n ∧ s.preparedFrom ≤ n ∧ n / s.blockLen ≠ s.blockIx) :=
  ⟨⟨0x01020000000000000000, by decide +kernel⟩,
   ⟨(W.st [(F.VM_STAT_STATE,2)]), 0x01000000000500000000, by decide +kernel⟩,
   ⟨State.reset, 0x01000000000580000123, by decide +kernel⟩,
   ⟨({ W.st [(F.SYS_ENGINE_STATE,2)] with frc := 64 }), 0x01011004000580000123, by decide +kernel⟩,
   ⟨({ W.st [(F.SYS_ENGINE_STATE,2)] with frc := 64 }), 0x400001000000000500000123, 0x4000, by decide +kernel⟩⟩

/-- States and operands that meet the hypotheses of `Obligations.RecallCommandsComplete`, clause by clause. -/
theorem test_witness_RecallCommandsComplete :
    (∃ (s : State) (w : BitVec 128), State.cmdBad w.toNat = false ∧ natBits w.toNat 79 72 = 2 ∧ natBit w.toNat 64 = true ∧ s.get F.SCN_RCL_STATE = 0 ∧ s.get F.SYS_ENGINE_STATE = 2 ∧ s.get (F.SCN_DIR1_COUNT (natBits w.toNat 41 32)) ≠ 0) ∧
    (∃ (s : State) (m : Master) (scene : Fin 1024), s.performs m 0x70000 = true ∧ s.get F.SCN_RCL_STATE = 0 ∧ s.get F.SYS_ENGINE_STATE = 2 ∧ s.frc + 2 * s.blockLen ≤ s.pair F.SCN_RCL_FRC_LO_S F.SCN_RCL_FRC_HI_S ∧ s.get (F.SCN_DIR1_COUNT scene) ≠ 0) ∧
    (∃ (s : State) (m : Master), s.performs m 0x70000 = true ∧ s.get F.SCN_RCL_STATE ≠ 0) ∧
    (∃ (s : State) (m : Master), s.performs m 0x70000 = true) ∧
    (∃ (s : State) (r : Recall) (es : List (Nat × Nat)) (n : Nat), s.scn.rcl = some r ∧ s.get F.SCN_RCL_STATE = 1 ∧ s.recallLate r = false ∧ s.checkList r.scene s.rampsFree (s.get (F.SCN_DIR1_COUNT r.scene)) 0 [] [] = .inr (es, n) ∧ es.any (fun e => natBit e.1 31) = false) ∧
    (∃ (s : State) (r : Recall) (reason : Nat) (i : Nat), s.scn.rcl = some r ∧ r.swap = false ∧ s.get F.SCN_RCL_STATE = 1 ∧ s.recallLate r = false ∧ s.checkList r.scene s.rampsFree (s.get (F.SCN_DIR1_COUNT r.scene)) 0 [] [] = .inl (reason, i)) ∧
    (∃ (s : State) (r : Recall), s.scn.rcl = some r ∧ s.get F.SCN_RCL_STATE = 1 ∧ s.recallLate r = true) ∧
    (∃ (s : State) (r : Recall), s.scn.rcl = some r ∧ s.get F.SCN_RCL_STATE = 2 ∧ s.reached (r.start - r.start % s.blockLen) = true) :=
  ⟨⟨(W.st [(F.SYS_ENGINE_STATE,2),(F.SCN_DIR1_COUNT 3,1)]), 0x02010000000300000000, by decide +kernel⟩,
   ⟨(W.st [(F.SYS_ENGINE_STATE,2),(F.SCN_DIR1_COUNT 3,1),(F.SCN_RCL_FRC_LO_S,4096)]), .steward, 3, by decide +kernel⟩,
   ⟨(W.st [(F.SCN_RCL_STATE,1)]), .steward, by decide +kernel⟩,
   ⟨(W.st [(F.SCN_RCL_STATE,1),(F.SCN_RCL_SCENE,5)]), .steward, by decide +kernel⟩,
   ⟨(W.rcl 0 1), W.rc, ([(0,0)]), 0, by decide +kernel⟩,
   ⟨(W.rcl 7 1), W.rc, 4, 0, by decide +kernel⟩,
   ⟨({ W.rcl 0 1 with scn := { State.reset.scn with rcl := some { W.rc with now := false } } }), ({ W.rc with now := false }), by decide +kernel⟩,
   ⟨(W.rcl 0 2), W.rc, by decide +kernel⟩⟩

/-- States and operands that meet the hypotheses of `Obligations.BrambleCommandsComplete`, clause by clause. -/
theorem test_witness_BrambleCommandsComplete :
    (∃ (s : State) (m : Master) (q : Fin 512) (w : Word), s.performs m (0x81004 + 8 * q) = true ∧ s.get (F.BRM_QUAD1_EN q) = 0 ∧ (s.puts [F.BRM_QUAD1_EN q, F.BRM_QUAD1_DIR q, F.BRM_QUAD1_DEPTH q, F.BRM_QUAD1_PRODUCER q] (w ||| 0x80000000).toNat).quadBad q = false) ∧
    (∃ (s : State) (m : Master) (q : Fin 512) (w : Word), s.performs m (0x81004 + 8 * q) = true ∧ s.get (F.BRM_QUAD1_EN q) = 0 ∧ (s.puts [F.BRM_QUAD1_EN q, F.BRM_QUAD1_DIR q, F.BRM_QUAD1_DEPTH q, F.BRM_QUAD1_PRODUCER q] (w ||| 0x80000000).toNat).quadBad q = true) ∧
    (∃ (s : State) (m : Master) (q : Fin 512), s.performs m (0x81004 + 8 * q) = true ∧ s.get (F.BRM_QUAD1_EN q) ≠ 0) ∧
    (∃ (s : State) (m : Master) (d : Fin 4096) (w : Word), s.performs m (0x908000 + 8 * d) = true ∧ s.get F.BRM_SWAP_STATE = 0 ∧ State.nextBad d w.toNat = false) ∧
    (∃ (s : State) (m : Master) (d : Fin 4096) (w : Word), s.performs m (0x908000 + 8 * d) = true ∧ s.get F.BRM_SWAP_STATE = 0 ∧ State.nextBad d w.toNat = true) ∧
    (∃ (s : State) (m : Master) (d : Fin 4096), s.performs m (0x908000 + 8 * d) = true ∧ s.get F.BRM_SWAP_STATE ≠ 0) ∧
    (∃ (s : State) (m : Master), s.performs m 0x80000 = true ∧ s.get F.BRM_SWAP_STATE = 0 ∧ s.frc + 2 * s.blockLen ≤ s.pair F.BRM_SWAP_FRC_LO_S F.BRM_SWAP_FRC_HI_S ∧ s.swapFault = none) ∧
    (∃ (s : State) (m : Master) (d : Nat) (r : Nat), s.performs m 0x80000 = true ∧ s.get F.BRM_SWAP_STATE = 0 ∧ s.frc + 2 * s.blockLen ≤ s.pair F.BRM_SWAP_FRC_LO_S F.BRM_SWAP_FRC_HI_S ∧ s.swapFault = some (d, r)) ∧
    (∃ (s : State) (m : Master), s.performs m 0x80000 = true ∧ s.get F.BRM_SWAP_STATE = 0 ∧ s.pair F.BRM_SWAP_FRC_LO_S F.BRM_SWAP_FRC_HI_S < s.frc + 2 * s.blockLen) ∧
    (∃ (s : State) (m : Master), s.performs m 0x80000 = true ∧ s.get F.BRM_SWAP_STATE ≠ 2) ∧
    (∃ (s : State) (m : Master), s.performs m 0x80000 = true ∧ s.get F.BRM_SWAP_STATE = 2) ∧
    (∃ (s : State), s.get F.BRM_SWAP_STATE = 1 ∧ s.reached (s.get I.SWAP_S - s.get I.SWAP_S % s.blockLen) = true) ∧
    (∃ (s : State), s.get F.BRM_SWAP_STATE = 2 ∧ s.get I.SWAP_F + 3 * s.blockLen ≤ s.frc) ∧
    (∃ (s : State) (d : Fin 4096) (c : Contrib), (s.route d).fade.isSome = true ∧ s.xrem d = 0 ∧ (s.route d).cs.getLast? = some c) :=
  ⟨⟨(W.st [(F.BRM_QUAD0_BASE 3, 0x10000000),(F.PIP1_SINK 0,1)]), .steward, 3, 0x40000000, by decide +kernel⟩,
   ⟨(W.st [(F.BRM_QUAD0_BASE 3, 0x8000000)]), .steward, 3, 0x70000000, by decide +kernel⟩,
   ⟨(W.st [(F.BRM_QUAD1_EN 3, 1)]), .steward, 3, by decide +kernel⟩,
   ⟨State.reset, .steward, 5, 0x84000005, by decide +kernel⟩,
   ⟨State.reset, .steward, 5, 0x80000650, by decide +kernel⟩,
   ⟨(W.st [(F.BRM_SWAP_STATE,1)]), .steward, 5, by decide +kernel⟩,
   ⟨(W.st [(F.BRM_SWAP_FRC_LO_S, 32)]), .steward, by decide +kernel⟩,
   ⟨(W.st [(F.BRM_SWAP_FRC_LO_S, 100),(F.NEXT_EN 0x801,1),(F.NEXT_SRC 0x801,0x900)]), .steward, 0x801, 1, by decide +kernel⟩,
   ⟨(W.st [(F.BRM_SWAP_FRC_LO_S, 31)]), .steward, by decide +kernel⟩,
   ⟨(W.st [(F.BRM_SWAP_STATE,1)]), .steward, by decide +kernel⟩,
   ⟨(W.st [(F.BRM_SWAP_STATE,2)]), .steward, by decide +kernel⟩,
   ⟨({ W.st [(F.BRM_SWAP_STATE,1),(I.SWAP_S,70),(F.NEXT_EN 5,1),(F.NEXT_SRC 5,7),(F.LIVE_EN 6,1),(F.LIVE_SRC 6,9)] with frc := 64, frcPrev := 63 }), by decide +kernel⟩,
   ⟨({ W.st [(F.BRM_SWAP_STATE,2),(I.SWAP_F,16),(F.NEXT_EN 5,1),(F.NEXT_SRC 5,7),(F.LIVE_EN 6,1),(F.LIVE_SRC 6,9)] with frc := 64 }), by decide +kernel⟩,
   ⟨({ W.st [] with routes := [(5, { Route.reset with cs := [⟨6,0,16,0,false,false⟩,⟨7,0,16,0,false,false⟩], fade := some ⟨4,1,2⟩, pos := 9 })] }), 5, (⟨7,0,16,0,false,false⟩), by decide +kernel⟩⟩

/-- States and operands that meet the hypotheses of `Obligations.OrchardAndDramCommandsComplete`, clause by clause. -/
theorem test_witness_OrchardAndDramCommandsComplete :
    (∃ (s : State) (m : Master) (n : Fin 64) (o : BitVec 8), s.performs m (0x28000 + 4 * n) = true ∧ s.mayHandOver m n = true ∧ s.get (F.ORC_OWN_PENDING n) = 0 ∧ ownerValid o.toNat = true ∧ o.toNat ≠ s.get (F.ORC_OWN_OWNER n)) ∧
    (∃ (s : State) (m : Master) (n : Fin 64), s.performs m (0x28000 + 4 * n) = true ∧ s.mayHandOver m n = false) ∧
    (∃ (s : State) (n : Fin 64), s.get (F.ORC_OWN_PENDING n) ≠ 0) ∧
    (∃ (s : State) (m : Master) (g : Fin 32), s.performs m (0x28200 + 16 * g) = true ∧ s.groupOwns g = false) ∧
    (∃ (s : State) (m : Master) (g : Fin 32), s.performs m (0x28200 + 16 * g + 4) = true ∧ s.groupOwns g = false) ∧
    (∃ (s : State) (m : Master) (g : Fin 32) (w : Word), s.performs m (0x28200 + 16 * g) = true ∧ s.groupOwns g = true ∧ s.get (F.ORC_GRP_LO_M g) &&& w.toNat ≠ s.get (F.ORC_GRP_LO_M g) ∧ s.get (F.ORC_GRP_LO_M g) < 2 ^ 32) ∧
    (∃ (s : State) (m : Master), s.performs m 0x120000 = true ∧ s.get F.DMC_CTRL_EN = 0 ∧ s.get F.DMC_STAT_STATE = unitOFF) ∧
    (∃ (s : State) (m : Master), s.performs m 0x120000 = true ∧ s.get F.DMC_CTRL_EN ≠ 0 ∧ (s.get F.DMC_STAT_STATE = unitSTARTING ∨ s.get F.DMC_STAT_STATE = unitON)) ∧
    (∃ (s : State), s.get F.DMC_STAT_STATE = unitSTARTING) ∧
    (∃ (s : State), s.get F.DMC_STAT_STATE = unitSTARTING) ∧
    (∃ (s : State), s.get F.DMC_STAT_STATE = unitSHUTTING ∧ s.get F.DMC_CTRL_EN = 0) :=
  ⟨⟨(W.st [(F.ORC_OWN_OWNER 2, 7)]), .steward, 2, 0x58, by decide +kernel⟩,
   ⟨(W.st [(F.ORC_OWN_OWNER 2, 0x60)]), .pcie, 2, by decide +kernel⟩,
   ⟨(W.st [(F.ORC_OWN_PENDING 2, 1)]), 2, by decide +kernel⟩,
   ⟨State.reset, .steward, 2, by decide +kernel⟩,
   ⟨State.reset, .steward, 2, by decide +kernel⟩,
   ⟨(W.st [(F.ORC_GRP_LO_M 2, 0x11), (F.ORC_OWN_OWNER 2, 0x62)]), .steward, 2, 0x1234, by decide +kernel⟩,
   ⟨State.reset, .steward, by decide +kernel⟩,
   ⟨(W.st [(F.DMC_CTRL_EN,1),(F.DMC_STAT_STATE,2)]), .steward, by decide +kernel⟩,
   ⟨(W.st [(F.DMC_STAT_STATE,1)]), by decide +kernel⟩,
   ⟨(W.st [(F.DMC_STAT_STATE,1)]), by decide +kernel⟩,
   ⟨(W.st [(F.DMC_STAT_STATE,3)]), by decide +kernel⟩⟩

/-- States and operands that meet the hypotheses of `Obligations.PortCommandsComplete`, clause by clause. -/
theorem test_witness_PortCommandsComplete :
    (∃ (s : State) (m : Master) (n : Fin 32), s.performs m (0x90000 + 0x400 * n) = true ∧ s.get (F.AP_CTRL_EN n) = 0 ∧ s.get (F.AP_CTRL_STATE n) = unitOFF ∧ s.apBad n = false ∧ s.claimBar (fidPort n) (s.apNeeds n (s.get (F.AP_IMASK_M n)) (s.get (F.AP_OMASK_M n))) = none) ∧
    (∃ (s : State) (m : Master) (n : Fin 32), s.performs m (0x90000 + 0x400 * n) = true ∧ s.get (F.AP_CTRL_EN n) = 0 ∧ s.get (F.AP_CTRL_STATE n) = unitOFF ∧ s.apBad n = true) ∧
    (∃ (s : State) (m : Master) (n : Fin 32), s.performs m (0x90000 + 0x400 * n) = true ∧ s.get (F.AP_CTRL_EN n) ≠ 0 ∧ s.get (F.AP_CTRL_STATE n) = unitSTARTING) ∧
    (∃ (s : State) (m : Master) (n : Fin 32), s.performs m (0x90000 + 0x400 * n) = true ∧ s.get (F.AP_CTRL_EN n) ≠ 0 ∧ s.get (F.AP_CTRL_STATE n) = unitON) ∧
    (∃ (s : State) (n : Fin 32), s.get (F.AP_CTRL_STATE n) = unitSTARTING ∧ s.apLed n = true ∧ s.get (F.AP_STAT_CLKLOSS n) = 0) ∧
    (∃ (s : State) (n : Fin 32), s.get (F.AP_CTRL_STATE n) = unitSHUTTING ∧ s.get (F.AP_CTRL_EN n) = 0 ∧ s.apTailed n = true) ∧
    (∃ (s : State) (n : Fin 32), s.get (F.AP_CFG_MASTER n) = 0 ∧ s.get (F.AP_CTRL_STATE n) ≠ unitOFF ∧ (s.get (I.AP_FERR n) < 3 ∨ s.get (F.AP_STAT_CLKLOSS n) ≠ 0)) ∧
    (∃ (s : State) (n : Fin 32), s.get (F.AP_CFG_MASTER n) = 0 ∧ s.get (F.AP_CTRL_STATE n) ≠ unitOFF ∧ 3 ≤ s.get (I.AP_FERR n) ∧ s.get (F.AP_STAT_CLKLOSS n) = 0) ∧
    (∃ (s : State) (n : Fin 32), s.get (F.AP_CFG_MASTER n) = 0 ∧ s.get (F.AP_CTRL_STATE n) ≠ unitOFF ∧ s.get (F.AP_CFG_PATH n) = 0) ∧
    (∃ (s : State) (n : Fin 32) (b : Bool), s.get (F.AP_CFG_MASTER n) = 0 ∧ s.get (F.AP_CTRL_STATE n) ≠ unitOFF ∧ s.get (F.AP_STAT_CLKLOSS n) = 0 ∧ ((b = true → s.get (F.AP_CFG_PATH n) = 0))) ∧
    (∃ (s : State) (n : Fin 32), s.get (F.AP_STAT_CLKLOSS n) ≠ 0) ∧
    (∃ (s : State) (m : Master) (n : Fin 32) (b : Bool), s.performs m (0x9000C + 0x400 * n + 4 * b2n b) = true ∧ s.get (F.AP_CTRL_STATE n) = unitOFF) ∧
    (∃ (s : State) (m : Master) (n : Fin 32) (b : Bool), s.performs m (0x9000C + 0x400 * n + 4 * b2n b) = true ∧ s.get (F.AP_CTRL_STATE n) = unitON ∧ s.get (F.AP_CFG_PATH n) = 0 ∧ s.get (F.SYS_CLAIM_OWNER (if b then 96 + n else 64 + n)) = 0) ∧
    (∃ (s : State) (n : Fin 32), s.get (F.AP_STAT_MPEND n) ≠ 0 ∧ s.get (I.AP_MRDY n) ≠ 0 ∧ s.get (F.AP_CTRL_STATE n) = unitON) ∧
    (∃ (s : State) (m : Master) (g : Fin 8), s.performs m (0x98000 + 16 * g) = true ∧ s.get (F.AP_GRP_STATE g) = 0 ∧ s.frc + 1024 + 2 * s.blockLen ≤ s.apGroupS g) ∧
    (∃ (s : State) (m : Master) (g : Fin 8), s.performs m (0x98000 + 16 * g) = true ∧ s.get (F.AP_GRP_STATE g) ≠ 0) ∧
    (∃ (s : State) (m : Master) (g : Fin 8), s.performs m (0x98000 + 16 * g) = true) ∧
    (∃ (s : State) (g : Fin 8), s.get (F.AP_GRP_STATE g) ≠ 0 ∧ s.get (I.AP_GS g) ≤ s.frc) :=
  ⟨⟨(W.st [(F.AP_CFG_MASTER 3,1)]), .steward, 3, by decide +kernel⟩,
   ⟨(W.st [(F.AP_CFG_MRATE 3,3)]), .steward, 3, by decide +kernel⟩,
   ⟨(W.st [(F.AP_CTRL_EN 3,1),(F.AP_CTRL_STATE 3,1),(F.ASRC_CH_OWNER 4,0x903),(I.ASRC_EN 4,1),(F.ASRC_CH_STATE 4,2)]), .steward, 3, by decide +kernel⟩,
   ⟨(W.st [(F.AP_CTRL_EN 3,1),(F.AP_CTRL_STATE 3,2),(F.ASRC_CH_OWNER 4,0x903),(I.ASRC_EN 4,1),(F.ASRC_CH_STATE 4,2)]), .steward, 3, by decide +kernel⟩,
   ⟨(W.st [(F.AP_CTRL_EN 3,1),(F.AP_CTRL_STATE 3,1),(F.AP_CFG_MASTER 3,1),(I.AP_FRM 3,1)]), 3, by decide +kernel⟩,
   ⟨(W.st [(F.AP_CTRL_STATE 3,3),(F.SYS_CLAIM_OWNER 3,0x903),(F.AP_IMASK_M 3,7)]), 3, by decide +kernel⟩,
   ⟨(W.st [(F.AP_CTRL_STATE 3,2)]), 3, by decide +kernel⟩,
   ⟨(W.st [(F.AP_CTRL_STATE 3,2),(I.AP_FERR 3,3)]), 3, by decide +kernel⟩,
   ⟨(W.st [(F.AP_CTRL_STATE 3,2),(F.AP_CNT_SLIP 3,0xFFFF)]), 3, by decide +kernel⟩,
   ⟨(W.st [(F.AP_CTRL_STATE 3,2),(F.ASRC_CH_OWNER 4,0x903)]), 3, true, by decide +kernel⟩,
   ⟨(W.st [(F.AP_STAT_CLKLOSS 3,1),(F.ASRC_CH_OWNER 4,0x903),(F.ASRC_CH_FREEW 4,1)]), 3, by decide +kernel⟩,
   ⟨State.reset, .steward, 3, true, by decide +kernel⟩,
   ⟨(W.st [(F.AP_CTRL_STATE 3,2)]), .steward, 3, true, by decide +kernel⟩,
   ⟨(W.st [(F.AP_CTRL_STATE 3,2),(F.AP_STAT_MPEND 3,1),(I.AP_MRDY 3,1),(F.AP_IMASK_M 3,3),(F.AP_CFG_PATH 3,1),(F.ASRC_CH_OWNER 7,0x903)]), 3, by decide +kernel⟩,
   ⟨(W.st [(F.AP_GRP_FRC_LO_S 1,1056),(F.AP_STAT_GWAIT 4,1),(F.AP_CFG_GRP 4,1)]), .steward, 1, by decide +kernel⟩,
   ⟨(W.st [(F.AP_GRP_STATE 1,1)]), .steward, 1, by decide +kernel⟩,
   ⟨(W.st [(F.AP_GRP_STATE 1,1),(F.AP_STAT_GWAIT 4,1),(F.AP_CFG_GRP 4,1),(I.AP_JOIN 4,1)]), .steward, 1, by decide +kernel⟩,
   ⟨({ W.st [(F.AP_GRP_STATE 1,1),(F.AP_STAT_GWAIT 4,1),(F.AP_CFG_GRP 4,1),(I.AP_JOIN 4,1),(I.AP_GS 1,64)] with frc := 64 }), 1, by decide +kernel⟩⟩

/-- States and operands that meet the hypotheses of `Obligations.AsrcCommandsComplete`, clause by clause. -/
theorem test_witness_AsrcCommandsComplete :
    (∃ (s : State) (k : Fin 48), s.trackerRuns k = true) ∧
    (∃ (s : State) (c : Fin 512), s.get (F.ASRC_CH_STATE c) = unitSTARTING ∧ s.get (F.ASRC_CH_LOCK c) ≠ 0) ∧
    (∃ (s : State) (c : Fin 512), s.get (F.ASRC_CH_STATE c) = unitSHUTTING ∧ s.get (I.ASRC_EN c) = 0 ∧ s.get (F.ASRC_CH_OWNER c) ≠ 0 ∧ s.get (I.ASRC_ATT c) = 64) ∧
    (∃ (s : State) (c : Fin 512), s.get (F.ASRC_CH_STATE c) = unitON ∧ s.get (F.ASRC_CH_RANGE c) = 0) ∧
    (∃ (s : State) (c : Fin 512), s.get (F.ASRC_CH_STATE c) = unitON ∧ s.get (F.ASRC_CH_RANGE c) ≠ 0) :=
  ⟨⟨(W.st [(F.ASRC_CH_OWNER 7,0x903),(F.AP_CTRL_STATE 3,2)]), 3, by decide +kernel⟩,
   ⟨(W.st [(F.ASRC_CH_STATE 3,1),(F.ASRC_CH_LOCK 3,1)]), 3, by decide +kernel⟩,
   ⟨(W.st [(F.ASRC_CH_STATE 3,3),(F.ASRC_CH_OWNER 3,0x903),(I.ASRC_ATT 3,64),(F.SYS_CLAIM_OWNER 1091,0x903)]), 3, by decide +kernel⟩,
   ⟨(W.st [(F.ASRC_CH_STATE 3,2)]), 3, by decide +kernel⟩,
   ⟨(W.st [(F.ASRC_CH_STATE 3,2),(F.ASRC_CH_RANGE 3,1)]), 3, by decide +kernel⟩⟩

/-- States and operands that meet the hypotheses of `Obligations.AesCommandsComplete`, clause by clause. -/
theorem test_witness_AesCommandsComplete :
    (∃ (s : State) (m : Master) (r : Fin 8), s.performs m (0xB0000 + 0x100 * r) = true ∧ s.get (F.AES_RXCTRL_EN r) = 0 ∧ s.get (F.AES_RXCFG_PATH r) = 0 ∧ s.get (F.SYS_CLAIM_OWNER (aesInSlot r)) = 0) ∧
    (∃ (s : State) (m : Master) (r : Fin 8), s.performs m (0xB0000 + 0x100 * r) = true ∧ s.get (F.AES_RXCTRL_EN r) ≠ 0) ∧
    (∃ (s : State) (r : Fin 8), s.get (F.AES_RXCTRL_STATE r) = unitON ∧ s.get (F.AES_RXSTAT_LOCK r) = 0) ∧
    (∃ (s : State) (r : Fin 8), s.get (F.AES_RXSTAT_LOCK r) ≠ 0) ∧
    (∃ (s : State) (r : Fin 8), s.get (F.AES_RXSTAT_LOCK r) ≠ 0) ∧
    (∃ (s : State) (r : Fin 8) (len : Nat), s.get (F.AES_RXSTAT_LOCK r) ≠ 0 ∧ len ≠ 192) ∧
    (∃ (s : State) (r : Fin 8), s.get (F.AES_RXSTAT_LOCK r) ≠ 0) ∧
    (∃ (s : State) (m : Master) (r : Fin 8), s.performs m (0xB1000 + 0x100 * r) = true ∧ s.get (F.AES_TXCTRL_EN r) = 0 ∧ s.get (F.AES_TXCTRL_STATE r) = unitOFF ∧ s.txBad r = false ∧ s.get (F.AES_TXCFG_PATH r) = 0 ∧ s.get (F.SYS_CLAIM_OWNER (aesOutSlot r)) = 0) ∧
    (∃ (s : State) (m : Master) (r : Fin 8), s.performs m (0xB1000 + 0x100 * r) = true ∧ s.get (F.AES_TXCTRL_EN r) = 0 ∧ s.get (F.AES_TXCTRL_STATE r) = unitOFF ∧ s.txBad r = true) ∧
    (∃ (s : State) (m : Master) (r : Fin 8), s.performs m (0xB1000 + 0x100 * r) = true ∧ s.get (F.AES_TXCTRL_EN r) ≠ 0 ∧ s.get (F.AES_TXCTRL_STATE r) = unitON) ∧
    (∃ (s : State) (r : Fin 8), s.get (F.AES_TXCTRL_STATE r) = unitSTARTING ∧ (s.get (F.AES_TXCFG_SRC r) ≠ 0 ∨ 192 < s.get (I.TX_FRM r))) ∧
    (∃ (s : State) (r : Fin 8), s.get (F.AES_TXCTRL_STATE r) = unitSHUTTING ∧ s.get (F.AES_TXCTRL_EN r) = 0 ∧ (s.get (F.AES_TXCFG_SRC r) ≠ 0 ∨ s.get (I.TX_END r) ≤ s.get (I.TX_FRM r))) ∧
    (∃ (s : State) (m : Master) (r : Fin 8) (u : Fin 2) (b : Bool), s.performs m (0xB1054 + 0x100 * r + 32 * u + 64 * b2n b) = true) ∧
    (∃ (s : State) (r : Fin 8), s.txDue r ≠ []) :=
  ⟨⟨State.reset, .steward, 3, by decide +kernel⟩,
   ⟨(W.st [(F.AES_RXCTRL_EN 3,1),(F.AES_RXCTRL_STATE 3,2),(F.SYS_CLAIM_OWNER 95,0xB03)]), .steward, 3, by decide +kernel⟩,
   ⟨(W.st [(F.AES_RXCTRL_STATE 3,2)]), 3, by decide +kernel⟩,
   ⟨(W.st [(F.AES_RXSTAT_LOCK 3,1),(F.ASRC_CH_OWNER 7,0xB03)]), 3, by decide +kernel⟩,
   ⟨(W.st [(F.AES_RXSTAT_LOCK 3,1)]), 3, by decide +kernel⟩,
   ⟨(W.st [(F.AES_RXSTAT_LOCK 3,1)]), 3, 191, by decide +kernel⟩,
   ⟨(W.st [(F.AES_RXSTAT_LOCK 3,1)]), 3, by decide +kernel⟩,
   ⟨(W.st [(F.AES_TXCFG_NOM 3,3)]), .steward, 3, by decide +kernel⟩,
   ⟨(W.st [(F.AES_TXCFG_NOM 3,5)]), .steward, 3, by decide +kernel⟩,
   ⟨(W.st [(F.AES_TXCTRL_EN 3,1),(F.AES_TXCTRL_STATE 3,2),(F.ASRC_CH_OWNER 7,0xB0B)]), .steward, 3, by decide +kernel⟩,
   ⟨(W.st [(F.AES_TXCTRL_STATE 3,1),(I.TX_FRM 3,193)]), 3, by decide +kernel⟩,
   ⟨(W.st [(F.AES_TXCTRL_STATE 3,3),(F.SYS_CLAIM_OWNER 127,0xB0B)]), 3, by decide +kernel⟩,
   ⟨State.reset, .steward, 3, 1, true, by decide +kernel⟩,
   ⟨(W.st [(I.AES_TXP 3,5),(F.AES_TXCTRL_STATE 3,2),(F.AES_TXCFG_NOM 3,2),(I.AES_TXS 74,88),(I.TX_ZAT 3,5000),(I.AES_TXAT 12,5),(I.AES_TXAT 14,4500)]), 3, by decide +kernel⟩⟩

/-- States and operands that meet the hypotheses of `Obligations.TimerEnableAndStopComplete`, clause by clause. -/
theorem test_witness_TimerEnableAndStopComplete :
    (∃ (s : State) (m : Master) (n : Fin 64), s.performs m (tmAddr n 0) = true ∧ s.get (F.TMR_CTRL_EN n) = 0 ∧ s.tmState n = unitOFF ∧ s.tmBad n = false ∧ s.claimBar (fidTmr n) (s.tmNeeds n) = none) ∧
    (∃ (s : State) (m : Master) (n : Fin 64), s.performs m (tmAddr n 0) = true ∧ s.get (F.TMR_CTRL_EN n) = 1 ∧ (s.tmState n = unitSTARTING ∨ s.tmState n = unitON)) ∧
    (∃ (s : State) (n : Fin 64) (e : Nat), s.tmStartEdge n = some e ∧ s.tmAlone n e = true) ∧
    (∃ (s : State) (n : Fin 64), s.tmState n = unitSTARTING ∧ s.get (F.TMR_MODE_CASC n) = 0 ∧ s.get (F.TMR_MODE_GRPEN n) = 1 ∧ s.get (I.TMR_GO n) = 0) ∧
    (∃ (s : State) (n : Fin 64) (e : Nat), s.tmEndEdge n = some e ∧ s.tmAlone n e = true ∧ s.get (F.TMR_CTRL_EN n) = 0) ∧
    (∃ (s : State) (m : Master) (n : Fin 64), s.performs m (tmAddr n 8) = true) ∧
    (∃ (s : State) (m : Master) (n : Fin 64) (b : Bool), s.performs m (tmAddr n (0x18 + 4 * b2n b)) = true ∧ s.tmState n = unitOFF) :=
  ⟨⟨(W.st [(F.TMR_MODE_CASC 3, 1), (F.TMR_OUT_IDLE 3,1)]), .steward, 2, by decide +kernel⟩,
   ⟨(W.st [(F.TMR_CTRL_EN 2, 1), (F.TMR_CTRL_STATE 2, 2), (F.TMR_CTRL_STATE 3, 2), (F.TMR_MODE_CASC 3, 1)]), .steward, 2, by decide +kernel⟩,
   ⟨(W.st [(I.CLK_STARTED, 1), (F.TMR_CTRL_STATE 2, 1), (F.TMR_CTRL_STATE 3, 1), (F.TMR_MODE_CASC 3, 1), (F.TMR_PHASE_V 2, 7)]), 2, 1, by decide +kernel⟩,
   ⟨(W.st [(F.TMR_CTRL_STATE 2, 1), (F.TMR_MODE_GRPEN 2, 1)]), 2, by decide +kernel⟩,
   ⟨(W.st [(I.CLK_STARTED, 1), (F.TMR_CTRL_STATE 2, 3), (I.TMR_RUN 2, 1), (I.TMR_RLD 2, 4), (F.TMR_CMPA_V 2, 3), (F.TMR_MODE_PRE 2, 2), (F.TMR_CTRL_STATE 3, 3), (F.TMR_MODE_CASC 3, 1), (F.SYS_CLAIM_OWNER 1026, 0xC02), (F.SYS_CLAIM_OWNER 1027, 0xC02)]), 2, 15, by decide +kernel⟩,
   ⟨(W.st [(F.TMR_CTRL_STATE 2, 2)]), .steward, 2, by decide +kernel⟩,
   ⟨State.reset, .steward, 2, false, by decide +kernel⟩⟩

/-- States and operands that meet the hypotheses of `Obligations.TimerCountEventsComplete`, clause by clause. -/
theorem test_witness_TimerCountEventsComplete :
    (∃ (s : State) (n : Fin 64) (e : Nat), s.get (F.TMR_MODE_CASC n) = 0 ∧ s.tmLapEdge n = some e ∧ s.tmAlone n e = true) ∧
    (∃ (s : State) (n : Fin 64) (b : Bool) (e : Nat) (v : Nat) (c : Nat), s.get (F.TMR_MODE_CASC n) = 0 ∧ s.tmMatchEdge n b = some e ∧ s.tmAlone n e = true ∧ s.get (State.cmpLive n b) = v ∧ s.get (I.TMR_BASE n) = c ∧ c < v ∧ v ≤ s.get (I.TMR_RLD n) ∧ v = c + s.tmToEvent n ∧ s.get (State.cmpMatched n b) = 0 ∧ s.get (State.cmpLive n (!b)) ≠ v) ∧
    (∃ (s : State) (n : Fin 64) (b : Bool) (e : Nat) (v : Nat) (c : Nat), s.get (F.TMR_MODE_CASC n) = 0 ∧ s.tmMatchEdge n b = some e ∧ s.tmAlone n e = true ∧ ((∀ b, s.get (State.cmpLive n b) = v ∧ s.get (State.cmpMatched n b) = 0)) ∧ s.get (I.TMR_BASE n) = c ∧ c < v ∧ v ≤ s.get (I.TMR_RLD n) ∧ v = c + s.tmToEvent n) ∧
    (∃ (s : State) (n : Fin 64) (rising : Bool) (held : Nat), s.get (F.TMR_CAPCFG_CEN n) ≠ 0 ∧ s.get (F.TMR_MODE_CASC n) = 0 ∧ 2 ≤ s.tmState n ∧ s.boundary = false ∧ s.get (F.TMR_CAPCFG_CSRC n) < 32 ∧ s.get (F.TMR_CAPCFG_FILT n) ≤ held ∧ (s.get (F.TMR_CAPCFG_EDGE n) = (if rising then 0 else 1) ∨ s.get (F.TMR_CAPCFG_EDGE n) = 2)) ∧
    (∃ (s : State) (n : Fin 64) (rising : Bool) (held : Nat), s.get (F.TMR_CAPCFG_CSRC n) < 32 ∧ (held < s.get (F.TMR_CAPCFG_FILT n) ∨ s.get (F.TMR_CAPCFG_EDGE n) = (if rising then 1 else 0))) ∧
    (∃ (s : State) (n : Fin 64), 32 ≤ s.get (F.TMR_CAPCFG_CSRC n) ∧ s.get (F.TMR_CAPCFG_CSRC n) < 71) ∧
    (∃ (s : State) (m : Master) (n : Fin 64), s.performs m (tmAddr n 0) = true ∧ s.get (F.TMR_CAPCFG_CSRC n) = 95 ∧ s.get (F.TMR_CAPCFG_CEN n) ≠ 0 ∧ s.get (F.TMR_MODE_CASC n) = 0 ∧ 2 ≤ s.tmState n ∧ s.get (F.TMR_STAT_FULL n) = 0) ∧
    (∃ (s : State) (m : Master) (n : Fin 64), s.reads m (tmAddr n 0x30) = true ∧ s.get (F.TMR_MODE_CASC n) = 0) ∧
    (∃ (s : State) (m : Master) (n : Fin 64), s.reads m (tmAddr n 0x10) = true) ∧
    (∃ (s : State) (m : Master) (g : Fin 8), s.performs m (0xC0000 + 16 * g) = true ∧ s.get (F.TMR_GRP_STATE g) = 0 ∧ s.frc + 8 ≤ s.tmGroupS g) ∧
    (∃ (s : State) (m : Master) (g : Fin 8), s.performs m (0xC0000 + 16 * g) = true) ∧
    (∃ (s : State) (m : Master) (g : Fin 8), s.performs m (0xC0000 + 16 * g) = true ∧ s.tclkRuns = true ∧ s.tmNow + 1 ≤ s.tclk + s.sampleTclks ∧ ((∀ k ∈ s.tmActive, k ∈ s.tmWaiting g)) ∧ ((∀ h : Fin 8, s.get (F.TMR_GRP_STATE h) = 0))) ∧
    (∃ (s : State) (m : Master) (g : Fin 8), s.performs m (0xC0000 + 16 * g) = true ∧ s.tclkRuns = false) ∧
    (∃ (s : State) (g : Fin 8), s.get (F.TMR_GRP_STATE g) ≠ 0 ∧ s.reached (s.tmGroupS g) = true) :=
  ⟨⟨(W.st [(I.CLK_STARTED, 1), (F.TMR_CTRL_STATE 2, 2), (I.TMR_RUN 2, 1), (I.TMR_RLD 2, 9), (F.TMR_CTRL_STATE 3, 2), (F.TMR_MODE_CASC 3, 1), (I.TMR_BASE 3, 7), (F.TMR_STAT_APEND 2, 1), (I.TMR_PA 2, 9)]), 2, 10, by decide +kernel⟩,
   ⟨(W.st [(I.CLK_STARTED, 1), (F.TMR_CTRL_STATE 2, 2), (I.TMR_RUN 2, 1), (I.TMR_RLD 2, 200), (F.TMR_CMPB_V 2, 100), (F.TMR_INTB_V 2, 50), (I.TMR_OUTE 2, 3)]), 2, true, 100, 100, 0, by decide +kernel⟩,
   ⟨(W.st [(I.CLK_STARTED, 1), (F.TMR_CTRL_STATE 2, 2), (I.TMR_RUN 2, 1), (I.TMR_RLD 2, 200), (F.TMR_CMPB_V 2, 100), (F.TMR_CMPA_V 2, 100), (I.TMR_OUTE 2, 7)]), 2, true, 100, 100, 0, by decide +kernel⟩,
   ⟨(W.st [(F.TMR_CTRL_STATE 2, 2), (F.TMR_CTRL_STATE 3, 2), (F.TMR_MODE_CASC 3, 1), (I.TMR_BASE 3, 7), (F.TMR_CAPCFG_CEN 2, 1), (F.TMR_CAPCFG_CSRC 2, 4)]), 2, true, 5, by decide +kernel⟩,
   ⟨(W.st [(F.TMR_CTRL_STATE 2, 2), (F.TMR_CAPCFG_CEN 2, 1), (F.TMR_CAPCFG_FILT 2, 6)]), 2, true, 5, by decide +kernel⟩,
   ⟨(W.st [(F.TMR_CTRL_STATE 2, 2), (F.TMR_CAPCFG_CEN 2, 1), (F.TMR_CAPCFG_CSRC 2, 60)]), 2, by decide +kernel⟩,
   ⟨(W.st [(F.TMR_CTRL_EN 2, 1), (F.TMR_CTRL_STATE 2, 2), (F.TMR_CTRL_STATE 3, 2), (F.TMR_MODE_CASC 3, 1), (I.TMR_BASE 3, 7), (F.TMR_CAPCFG_CEN 2, 1), (F.TMR_CAPCFG_CSRC 2, 95)]), .steward, 2, by decide +kernel⟩,
   ⟨(W.st [(F.TMR_MODE_CASC 3, 1), (F.TMR_CAPT_V 2, 7), (F.TMR_STAT_FULL 2, 1), (F.TMR_STAT_PEND 2, 1), (F.TMR_CAPT_PEND_V 2, 77), (F.TMR_CAPT_PEND_V 3, 78)]), .pcie, 2, by decide +kernel⟩,
   ⟨(W.st [(F.TMR_MODE_CASC 3, 1), (I.TMR_BASE 2, 9)]), .steward, 2, by decide +kernel⟩,
   ⟨(W.st [(F.TMR_GRP_FRC_LO_S 2, 900), (F.TMR_CTRL_STATE 2, 1), (F.TMR_MODE_GRPEN 2, 1), (F.TMR_MODE_GRP 2, 2)]), .steward, 2, by decide +kernel⟩,
   ⟨(W.st [(F.TMR_GRP_STATE 2, 1), (F.TMR_CTRL_STATE 2, 1), (F.TMR_MODE_GRPEN 2, 1), (F.TMR_MODE_GRP 2, 2), (I.TMR_JOIN 2, 1)]), .steward, 2, by decide +kernel⟩,
   ⟨(W.st [(I.CLK_STARTED, 1), (F.TMR_CTRL_STATE 2, 1), (F.TMR_CTRL_STATE 3, 1), (F.TMR_MODE_CASC 3, 1), (F.TMR_MODE_GRPEN 2, 1), (F.TMR_MODE_GRP 2, 2)]), .steward, 2, by decide +kernel⟩,
   ⟨(W.st [(F.TMR_CTRL_STATE 2, 1), (F.TMR_MODE_GRPEN 2, 1), (F.TMR_MODE_GRP 2, 2)]), .steward, 2, by decide +kernel⟩,
   ⟨(W.st [(F.TMR_GRP_STATE 2, 1), (F.TMR_CTRL_STATE 2, 1), (F.TMR_CTRL_STATE 3, 1), (F.TMR_MODE_CASC 3, 1), (F.TMR_MODE_GRPEN 2, 1), (F.TMR_MODE_GRP 2, 2), (I.TMR_JOIN 2, 1)]), 2, by decide +kernel⟩⟩

/-- States and operands that meet the hypotheses of `Obligations.UartCommandsComplete`, clause by clause. -/
theorem test_witness_UartCommandsComplete :
    (∃ (s : State) (m : Master) (n : Fin 6), s.performs m (uAddr n 0) = true ∧ State.uOwned n m = false ∧ s.get (F.U_CTRL_EN n) = 0 ∧ s.uState n = unitOFF ∧ s.uBad n = false ∧ s.claimBar (fidUart n) (s.uNeeds n) = none) ∧
    (∃ (s : State) (m : Master) (n : Fin 6), s.performs m (uAddr n 0) = true ∧ State.uOwned n m = true) ∧
    (∃ (s : State) (m : Master) (n : Fin 6), s.performs m (uAddr n 0) = true ∧ State.uOwned n m = false ∧ s.get (F.U_CTRL_EN n) = 1 ∧ s.uState n = unitON) ∧
    (∃ (s : State) (n : Fin 6), s.uState n = unitSTARTING) ∧
    (∃ (s : State) (n : Fin 6), s.uState n = unitSHUTTING ∧ s.get (F.U_CTRL_EN n) = 0 ∧ (s.get (F.U_CTRL_DRAIN n) = 0 ∨ (s.uart n).tx = []) ∧ s.uSending n = false ∧ s.get (I.U_RXON n) = 0) ∧
    (∃ (s : State) (n : Fin 6), s.uAccepts n = true ∧ s.get (F.U_CTRL_LOOP n) = 0 ∧ s.boundary = false ∧ ((∀ k ∈ s.tmActive, s.get (F.TMR_CAPCFG_CSRC k) ≠ 65 + n))) ∧
    (∃ (s : State) (n : Fin 6) (first : Sampled) (par : Sampled) (data : List Sampled) (stops : List Sampled) (x : RxChar), s.get (I.U_RXON n) ≠ 0 ∧ s.uRxLive n = true ∧ s.uMidi n = false ∧ (s.uart n).rx.length < 64 ∧ State.majority first = false ∧ (s.uSamples n first data par stops).any State.majority = true ∧ x = s.uChar n (s.uSamples n first data par stops)) ∧
    (∃ (s : State) (n : Fin 6) (first : Sampled) (par : Sampled) (data : List Sampled) (stops : List Sampled), s.get (I.U_RXON n) ≠ 0 ∧ s.uRxLive n = true ∧ 64 ≤ (s.uart n).rx.length ∧ State.majority first = false ∧ (s.uSamples n first data par stops).any State.majority = true) ∧
    (∃ (s : State) (n : Fin 6) (first : Sampled), s.get (I.U_RXON n) ≠ 0 ∧ State.majority first = true) ∧
    (∃ (s : State) (n : Fin 6) (first : Sampled) (par : Sampled) (data : List Sampled) (stops : List Sampled), s.get (I.U_RXON n) ≠ 0 ∧ s.uRxLive n = true ∧ (s.uSamples n first data par stops).any State.majority = false) ∧
    (∃ (s : State) (m : Master) (n : Fin 6) (c : RxChar) (rest : List RxChar), s.reads m (uAddr n 0x10) = true ∧ s.uMidi n = false ∧ (s.uart n).rx = c :: rest) ∧
    (∃ (s : State) (m : Master) (n : Fin 6), s.performs m (uAddr n 0x0C) = true ∧ State.uOwned n m = false ∧ (s.uart n).tx.length < 64) ∧
    (∃ (s : State) (m : Master) (n : Fin 6), s.performs m (uAddr n 0x0C) = true ∧ State.uOwned n m = false ∧ 64 ≤ (s.uart n).tx.length) ∧
    (∃ (s : State) (n : Fin 6) (cts : Bool) (b : Nat) (rest : List Nat), (s.uart n).tx = b :: rest ∧ s.uState n = unitON ∧ s.get (F.U_CTRL_LOOP n) = 0 ∧ s.uSending n = false ∧ (s.get (F.U_CFG_FLOW n) = 0 ∨ cts = true)) ∧
    (∃ (s : State) (n : Fin 6), s.uState n = unitON ∧ s.uSending n = false ∧ s.get (F.U_CFG_FLOW n) ≠ 0) ∧
    (∃ (s : State) (n : Fin 6) (b : Nat) (rest : List Nat), (s.uart n).tx = b :: rest ∧ s.get (F.U_CTRL_LOOP n) ≠ 0 ∧ s.get (F.U_CFG_FLOW n) = 0 ∧ s.uSending n = false ∧ s.uAccepts n = true ∧ s.uMidi n = false ∧ (s.uart n).rx.length < 64 ∧ ((∀ k ∈ s.tmActive, s.get (F.TMR_CAPCFG_CSRC k) ≠ 65 + n))) ∧
    (∃ (s : State) (m : Master) (n : Fin 6) (w : Word), s.performs m (uAddr n 8) = true ∧ State.uOwned n m = false ∧ natBits w.toNat 21 6 = 0) ∧
    (∃ (s : State) (m : Master) (n : Fin 6) (w : Word), s.performs m (uAddr n 8) = true ∧ State.uOwned n m = false ∧ natBits w.toNat 21 6 ≠ 0) ∧
    (∃ (s : State) (n : Fin 6), s.uState n ≠ unitOFF ∧ s.get (F.U_STAT_RXST n) = 0 ∧ s.get (F.U_LINE_LINEFAULT_T n) ≠ 0) ∧
    (∃ (s : State) (m : Master) (n : Fin 6), s.performs m (uAddr n 0x28) = true ∧ State.uOwned n m = false ∧ s.get (F.U_STAT_LINE_LVL n) ≠ 0) ∧
    (∃ (s : State) (m : Master) (n : Fin 6), s.performs m (uAddr n 0x28) = true ∧ State.uOwned n m = false ∧ s.get (F.U_STAT_LINE_LVL n) = 0) ∧
    (∃ (s : State) (n : Fin 6), n ≠ 0 ∧ s.uHears n = true ∧ s.uRxLive n = true) ∧
    (∃ (s : State) (n : Fin 6) (b : Nat), b < 2 ^ s.uData n) :=
  ⟨⟨State.reset, .steward, 1, by decide +kernel⟩,
   ⟨State.reset, .pcie, 0, by decide +kernel⟩,
   ⟨(W.st [(F.U_CTRL_EN 1,1),(F.U_CTRL_STATE 1,2)]), .steward, 1, by decide +kernel⟩,
   ⟨(W.st [(F.U_CTRL_STATE 1,1)]), 1, by decide +kernel⟩,
   ⟨(W.ur [(F.U_CTRL_STATE 1,3),(F.SYS_CLAIM_OWNER 736,0xD01)] [W.rxc 5] [6]), 1, by decide +kernel⟩,
   ⟨({ W.ur [(F.U_CTRL_STATE 1,2)] [W.rxc 5] [6] with frc := 99 }), 1, by decide +kernel⟩,
   ⟨(W.ur [(F.U_CTRL_STATE 1,2),(I.U_RXON 1,1),(F.U_CFG_DBITS 1,3)] [W.rxc 5] [6]), 1, ((false,true,false)), ((true,true,true)), ([(true,true,false),(true,true,true),(false,false,false)]), ([]), (⟨0xFB, false, false, true, 0⟩), by decide +kernel⟩,
   ⟨(W.ur [(F.U_CTRL_STATE 1,2),(I.U_RXON 1,1)] (List.replicate 64 (W.rxc 5)) [6]), 1, ((false,true,false)), ((true,true,true)), ([(true,true,false)]), ([]), by decide +kernel⟩,
   ⟨(W.ur [(F.U_CTRL_STATE 1,2),(I.U_RXON 1,1)] [] [6]), 1, ((false,true,true)), by decide +kernel⟩,
   ⟨(W.ur [(F.U_CTRL_STATE 1,2),(I.U_RXON 1,1)] [] [6]), 1, ((false,false,false)), ((false,false,false)), (List.replicate 9 (false,false,false)), (List.replicate 2 (false,false,false)), by decide +kernel⟩,
   ⟨(W.ur [(F.U_CTRL_STATE 1,2)] [W.rxc 5, W.rxc 6] [6]), .steward, 1, (W.rxc 5), ([W.rxc 6]), by decide +kernel⟩,
   ⟨State.reset, .steward, 1, by decide +kernel⟩,
   ⟨(W.ur [] [] (List.replicate 64 5)), .steward, 1, by decide +kernel⟩,
   ⟨(W.ur [(F.U_CTRL_STATE 1,2),(F.U_STAT_DPEND 1,1)] [] [6,7]), 1, false, 6, ([7]), by decide +kernel⟩,
   ⟨(W.ur [(F.U_CTRL_STATE 1,2),(F.U_CFG_FLOW 1,1),(F.U_STAT_CTS 1,1)] [] [6,7]), 1, by decide +kernel⟩,
   ⟨({ W.ur [(F.U_CTRL_STATE 1,2),(F.U_CTRL_LOOP 1,1),(F.U_CFG_PAR 1,1),(F.U_CFG_DBITS 1,3)] [] [6,7] with frc := 99 }), 1, 6, ([7]), by decide +kernel⟩,
   ⟨State.reset, .steward, 1, 0x3F, by decide +kernel⟩,
   ⟨State.reset, .steward, 1, 0x40, by decide +kernel⟩,
   ⟨(W.st [(F.U_CTRL_STATE 1,2)]), 1, by decide +kernel⟩,
   ⟨(W.st [(F.U_STAT_RXST 1,1)]), .steward, 1, by decide +kernel⟩,
   ⟨(W.st [(F.U_STAT_LINE_LVL 1,0)]), .steward, 1, by decide +kernel⟩,
   ⟨(W.st [(F.U_CTRL_STATE 1,2)]), 1, by decide +kernel⟩,
   ⟨(W.st [(F.U_CFG_PAR 1,1),(F.U_CFG_STOP 1,1)]), 1, 0x15, by decide +kernel⟩⟩

/-- States and operands that meet the hypotheses of `Obligations.MidiCommandsComplete`, clause by clause. -/
theorem test_witness_MidiCommandsComplete :
    (∃ (s : State) (n : Fin 6) (c : RxChar) (st : Nat) (d : Nat), s.uPosts n = true ∧ s.uHead n c none [st, d] = true ∧ 0x80 ≤ st ∧ st < 0xC0 ∧ c.data < 0x80) ∧
    (∃ (s : State) (n : Fin 6) (c : RxChar) (msg : List Nat), s.uPosts n = true ∧ s.uHead n c none msg = true ∧ c.data = 0xF6) ∧
    (∃ (s : State) (n : Fin 6) (c : RxChar) (x : Option (List Nat)) (msg : List Nat), s.uPosts n = true ∧ s.uHead n c x msg = true ∧ 0xF8 ≤ c.data ∧ c.data < 0x100 ∧ s.get (F.U_MIDI_DROPCLK n) = 0 ∧ s.get (F.U_MIDI_DROPAS n) = 0) ∧
    (∃ (s : State) (n : Fin 6) (c : RxChar) (bs : List Nat) (msg : List Nat), s.uPosts n = true ∧ s.uHead n c (some bs) msg = true ∧ c.data = 0xF7) :=
  ⟨⟨(W.midi 0x40 [0x90, 0x3C] none), 1, (W.rxc 0x40), 0x90, 0x3C, by decide +kernel⟩,
   ⟨(W.midi 0xF6 [0x90] none), 1, (W.rxc 0xF6), ([0x90]), by decide +kernel⟩,
   ⟨(W.midi 0xF8 [] (some [0xF0])), 1, (W.rxc 0xF8), (some [0xF0]), ([]), by decide +kernel⟩,
   ⟨(W.midi 0xF7 [] (some [0xF0, 1])), 1, (W.rxc 0xF7), ([0xF0, 1]), ([]), by decide +kernel⟩⟩

/-- States and operands that meet the hypotheses of `Obligations.DamsonCommandsComplete`, clause by clause. -/
theorem test_witness_DamsonCommandsComplete :
    (∃ (s : State) (m : Master) (n : Fin 16), s.performs m (dmsAddr n 0) = true ∧ s.get (F.DMS_CTRL_EN n) = 0 ∧ s.dmsState n = unitOFF ∧ s.get (F.DMS_CFG_MODE n) = 0 ∧ s.get (F.DMS_CFG_SAFESEL n) < 3 ∧ s.get (F.DMS_STAT_RET n) = 0 ∧ s.get I.DMS_LOW = 0 ∧ s.get (F.DMS_STAT_CW n) ≠ 0) ∧
    (∃ (s : State) (m : Master) (n : Fin 16), s.performs m (dmsAddr n 0) = true ∧ s.get (F.DMS_CTRL_EN n) = 0 ∧ s.dmsState n = unitOFF ∧ s.get (F.DMS_CFG_SAFESEL n) < 3 ∧ s.get (F.DMS_CFG_MODE n) = 0 ∧ s.get (F.DMS_STAT_RET n) ≠ 0) ∧
    (∃ (s : State) (m : Master) (n : Fin 16), s.performs m (dmsAddr n 0) = true ∧ s.get (F.DMS_CTRL_EN n) ≠ 0 ∧ s.dmsState n = unitON ∧ s.dmsStreaming n = false) ∧
    (∃ (s : State) (m : Master) (n : Fin 16), s.performs m (dmsAddr n 0) = true ∧ s.get (F.DMS_CTRL_EN n) ≠ 0 ∧ s.dmsState n = unitON ∧ s.dmsStreaming n = true) ∧
    (∃ (s : State) (n : Fin 16), s.dmsDue (s.dmsArrives n) = true ∧ s.dmsState n = unitSTARTING ∧ s.get (I.DMS_HELD n) = 0) ∧
    (∃ (s : State) (n : Fin 16), s.dmsDue (s.dmsArrives n) = true ∧ s.dmsState n = unitSHUTTING ∧ s.get (F.DMS_CTRL_EN n) = 0) ∧
    (∃ (s : State) (m : Master) (n : Fin 16), s.performs m (dmsAddr n 0x0C) = true ∧ s.dmsState n = unitOFF) ∧
    (∃ (s : State) (m : Master) (n : Fin 16) (code : BitVec 24), s.performs m (dmsAddr n 0x0C) = true ∧ s.dmsState n = unitON ∧ s.get (F.DMS_STAT_FORCED n) = 0 ∧ s.get (F.DMS_CFG_MODE n) = 0 ∧ s.get (F.DMS_STAT_HOLDING n) = 0 ∧ s.get (F.DMS_STAT_SLEWING n) = 0 ∧ max (s.get (I.DMS_TGT n)) code.toNat - min (s.get (I.DMS_TGT n)) code.toNat ≤ s.get (F.DMS_DGL_THR n)) ∧
    (∃ (s : State) (m : Master) (n : Fin 16) (code : BitVec 24), s.performs m (dmsAddr n 0x0C) = true ∧ s.dmsState n = unitON ∧ s.get (F.DMS_STAT_FORCED n) = 0 ∧ s.get (F.DMS_CFG_MODE n) = 0 ∧ s.get (F.DMS_STAT_HOLDING n) = 0 ∧ s.get (F.DMS_STAT_SLEWING n) = 0 ∧ s.get (F.DMS_DGL_THR n) < max (s.get (I.DMS_TGT n)) code.toNat - min (s.get (I.DMS_TGT n)) code.toNat) ∧
    (∃ (s : State) (n : Fin 16), s.dmsDue (s.get (I.DMS_DUE n)) = true ∧ s.get (F.DMS_STAT_HOLDING n) ≠ 0) ∧
    (∃ (s : State) (n : Fin 16), s.dmsDue (s.dmsArrives n) = true ∧ s.dmsState n = unitON ∧ s.get (F.DMS_STAT_SLEWING n) ≠ 0) ∧
    (∃ (s : State) (n : Fin 16), s.dmsDue (s.dmsArrives n) = true ∧ s.dmsState n = dmsSPANCHG ∧ s.get (I.DMS_PH n) = 4 ∧ s.get (I.DMS_HELD n) = 0) ∧
    (∃ (s : State) (m : Master) (n : Fin 16) (sp : Fin 4), s.performs m (dmsAddr n 8) = true ∧ s.dmsState n = unitOFF ∧ (s.get (F.DMS_CFG_MODE n) = 0 ∨ 2 ≤ sp.val)) ∧
    (∃ (s : State) (m : Master) (n : Fin 16) (sp : Fin 4), s.performs m (dmsAddr n 8) = true ∧ s.dmsState n = unitON ∧ sp.val ≠ s.get (F.DMS_SPAN_ACTIVE n) ∧ (s.get (F.DMS_CFG_MODE n) = 0 ∨ 2 ≤ sp.val)) ∧
    (∃ (s : State) (n : Fin 16), s.dmsDue (s.dmsArrives n) = true ∧ s.dmsState n = dmsSPANCHG ∧ s.get (I.DMS_PH n) = 1) ∧
    (∃ (s : State) (n : Fin 16), s.dmsDue (s.get (I.DMS_DUE n)) = true ∧ s.dmsState n = dmsSPANCHG ∧ s.get (I.DMS_PH n) = 2) ∧
    (∃ (s : State) (n : Fin 16), s.dmsDue (s.get (I.DMS_DUE n)) = true ∧ s.dmsState n = dmsSPANCHG ∧ s.get (I.DMS_PH n) = 3) ∧
    (∃ (s : State) (n : Fin 16), s.get (I.DMS_SWAP n) ≠ 0) ∧
    (∃ (s : State) (n : Fin 16), s.dmsState n ≠ unitOFF ∧ s.standby = false ∧ s.get (F.DMS_STAT_SC n) = 0) ∧
    (∃ (s : State) (n : Fin 16), s.get (F.DMS_STAT_SC n) ≠ 0) ∧
    (∃ (s : State), s.driven ballDACCLR = none ∧ s.get I.DMS_LOW = 0) ∧
    (∃ (s : State), s.driven ballDACCLR = none ∧ s.get I.DMS_LOW ≠ 0) :=
  ⟨⟨(W.st [(F.DMS_STAT_CW 3,1),(F.DMS_CODE_C 3,0x800000)]), .steward, 3, by decide +kernel⟩,
   ⟨(W.st [(F.DMS_STAT_RET 3,1)]), .steward, 3, by decide +kernel⟩,
   ⟨(W.st [(F.DMS_CTRL_EN 3,1),(F.DMS_CTRL_STATE 3,2)]), .steward, 3, by decide +kernel⟩,
   ⟨(W.st [(F.DMS_CTRL_EN 3,1),(F.DMS_CTRL_STATE 3,2),(F.DMS_CFG_MODE 3,1),(F.DMS_SPAN_ACTIVE 3,2)]), .steward, 3, by decide +kernel⟩,
   ⟨(W.st [(F.DMS_CTRL_STATE 3,1),(I.DMS_TO 3,77)]), 3, by decide +kernel⟩,
   ⟨(W.st [(F.DMS_CTRL_STATE 3,3),(F.DMS_SPAN_SPAN 3,1)]), 3, by decide +kernel⟩,
   ⟨State.reset, .steward, 3, by decide +kernel⟩,
   ⟨(W.st [(F.DMS_CTRL_STATE 3,2)]), .steward, 3, 0x100000, by decide +kernel⟩,
   ⟨(W.st [(F.DMS_CTRL_STATE 3,2)]), .steward, 3, 0x100001, by decide +kernel⟩,
   ⟨(W.st [(F.DMS_CTRL_STATE 3,2),(F.DMS_STAT_HOLDING 3,1),(I.DMS_TGT 3,5)]), 3, by decide +kernel⟩,
   ⟨(W.st [(F.DMS_CTRL_STATE 3,2),(F.DMS_STAT_SLEWING 3,1),(I.DMS_TO 3,5)]), 3, by decide +kernel⟩,
   ⟨(W.st [(F.DMS_CTRL_STATE 3,4),(I.DMS_PH 3,4),(F.DMS_STAT_SLEWING 3,1),(I.DMS_TO 3,5)]), 3, by decide +kernel⟩,
   ⟨State.reset, .steward, 3, 1, by decide +kernel⟩,
   ⟨(W.st [(F.DMS_CTRL_STATE 3,2)]), .steward, 3, 1, by decide +kernel⟩,
   ⟨(W.st [(F.DMS_CTRL_STATE 3,4),(I.DMS_PH 3,1),(I.DMS_TO 3,5)]), 3, by decide +kernel⟩,
   ⟨(W.st [(F.DMS_CTRL_STATE 3,4),(I.DMS_PH 3,2),(I.DMS_NSPAN 3,1)]), 3, by decide +kernel⟩,
   ⟨(W.st [(F.DMS_CTRL_STATE 3,4),(I.DMS_PH 3,3)]), 3, by decide +kernel⟩,
   ⟨(W.st [(I.DMS_SWAP 3,1),(F.DMS_STAT_SPOK 3,1)]), 3, by decide +kernel⟩,
   ⟨(W.st [(F.DMS_CTRL_STATE 3,2)]), 3, by decide +kernel⟩,
   ⟨(W.st [(F.DMS_STAT_SC 3,1),(I.DMS_TO 3,5)]), 3, by decide +kernel⟩,
   ⟨(W.st [(F.DMS_CTRL_STATE 3,2),(F.DMS_SLEW_CLR_EN 3,1),(F.DMS_CLRCODE_C 3,9)]), by decide +kernel⟩,
   ⟨(W.st [(I.DMS_LOW,1),(F.DMS_CTRL_STATE 3,2),(F.DMS_SLEW_CLR_EN 3,1),(F.DMS_CODE_C 3,9),(F.DMS_STAT_FORCED 3,1)]), by decide +kernel⟩⟩

/-- States and operands that meet the hypotheses of `Obligations.CurrantCommandsComplete`, clause by clause. -/
theorem test_witness_CurrantCommandsComplete :
    (∃ (s : State), s.converts true = true ∧ s.get I.CUR_ROT < 16 ∧ s.tapJudged (s.get I.CUR_ROT) = false) ∧
    (∃ (s : State) (code : BitVec 16) (ch : Nat), s.converts true = true ∧ s.get I.CUR_ROT + 8 = ch ∧ 28 ≤ ch ∧ ch < 40 ∧ s.monOutside ch code.toNat = false ∧ s.get F.CUR_MONSTAT_WIN / 2 ^ (ch - 28) % 2 = 0) ∧
    (∃ (s : State) (code : BitVec 16) (ch : Nat), s.converts true = true ∧ s.get I.CUR_ROT + 8 = ch ∧ 28 ≤ ch ∧ ch < 40 ∧ s.monOutside ch code.toNat = true ∧ s.get F.CUR_MONSTAT_WIN / 2 ^ (ch - 28) % 2 = 0 ∧ s.get (I.CUR_RUN ch) = 3) ∧
    (∃ (s : State) (e : Nat) (w : Nat), s.converts false = true ∧ s.get F.CUR_CTRL_SCAN ≠ 0 ∧ s.get I.CUR_PASS ≠ 0 ∧ s.get I.CUR_ENT = e ∧ s.get (I.CUR_LIST e) = w ∧ State.listAvg w = 0 ∧ State.listCh w < 24 ∧ s.get I.CUR_CNT = 0 ∧ s.get I.CUR_SUM = 0) ∧
    (∃ (s : State) (w : Nat), s.converts false = true ∧ s.get F.CUR_CTRL_SCAN ≠ 0 ∧ s.get I.CUR_PASS ≠ 0 ∧ s.get (I.CUR_LIST (s.get I.CUR_ENT)) = w ∧ s.get I.CUR_CNT + 1 < 2 ^ State.listAvg w) ∧
    (∃ (s : State) (m : Master) (k : Fin 1024), s.reads m (0xF4000 + 16 * k) = true) ∧
    (∃ (s : State) (k : Fin 1024), s.get (F.CUR_MCFG_EN k) ≠ 0 ∧ s.get (I.MTR_DN k) ≠ 0 ∧ s.get (I.MTR_FALL k) = 0 ∧ s.get (I.MTR_FAT k) + s.get (F.CUR_MCFG_HOLD k) * s.tclkHz / 10 < s.tclk + s.sampleTclks) ∧
    (∃ (s : State) (m : Master) (g : Fin 64), s.performs m (0xF8000 + 16 * g) = true) ∧
    (∃ (s : State) (g : Fin 64), s.get (F.CUR_LG0_RUN g) ≠ 0 ∧ s.get (I.LG_AT g) + (s.get (I.LG_N g) + 1) * s.tclkHz / 10 < s.tclk + s.sampleTclks) :=
  ⟨⟨(W.st [(I.CUR_EN,1),(I.PCLK,1000),(I.CUR_ROT,5)]), by decide +kernel⟩,
   ⟨(W.st [(I.CUR_EN,1),(I.PCLK,1000),(I.CUR_ROT,31),(F.CUR_MON_LO 11,1),(F.CUR_MON_HI 11,0xFFFF)]), 0x4000, 39, by decide +kernel⟩,
   ⟨(W.st [(I.CUR_EN,1),(I.PCLK,1000),(I.CUR_ROT,20),(F.CUR_MON_LO 0,1),(F.CUR_MON_HI 0,5),(I.CUR_RUN 28,3)]), 0xFFFF, 28, by decide +kernel⟩,
   ⟨(W.st [(I.CUR_EN,1),(F.CUR_CTRL_SCAN,1),(I.CUR_PASS,1),(I.CUR_ENT,2),(I.CUR_LIST 2,0x80050000)]), 2, 0x80050000, by decide +kernel⟩,
   ⟨(W.st [(I.CUR_EN,1),(F.CUR_CTRL_SCAN,1),(I.CUR_PASS,1),(I.CUR_ENT,2),(I.CUR_LIST 2,0x81050000)]), 0x81050000, by decide +kernel⟩,
   ⟨(W.st [(I.CUR_EN,1),(F.CUR_MTR0_TPK 5, 77),(F.CUR_MTR3_OVCNT 5,4)]), .steward, 5, by decide +kernel⟩,
   ⟨(W.st [(I.CUR_EN,1),(F.CUR_MCFG_EN 5,1),(I.MTR_DN 5,1),(F.CUR_MTR1_DPK 5,9)]), 5, by decide +kernel⟩,
   ⟨State.reset, .steward, 5, by decide +kernel⟩,
   ⟨({ W.st [(F.CUR_LG0_RUN 5,1)] with tclk := 5000000 }), 5, by decide +kernel⟩⟩

/-- States and operands that meet the hypotheses of `Obligations.MedlarCommandsComplete`, clause by clause. -/
theorem test_witness_MedlarCommandsComplete :
    (∃ (s : State) (c : Fin 64) (r : PipRun), (State.activeBank (s.core c)).run = none ∧ (s.core c).next = some r ∧ r.landed = false ∧ (s.core c).frozen = false ∧ s.unownedSource c r = none ∧ s.sourcePending r = false ∧ s.orcFlaws = [] ∧ s.dramFlaws = []) ∧
    (∃ (s : State) (c : Fin 64) (r : PipRun), (State.activeBank (s.core c)).run = some r ∧ r.reruns = 0 ∧ (s.core c).frozen = false ∧ s.mdlPermanent 3 1 (s.masterOf c) true = false) ∧
    (∃ (s : State) (n : Nat), s.get I.RPS_N = n + 1 ∧ s.nextRepair I.RPS_ORD = none) ∧
    (∃ (s : State) (n : Nat) (p : Nat) (ps : List Nat), s.get F.MDL_CTRL_CT ≠ 0 ∧ s.get I.ROT_N = 0 ∧ s.get I.ROT_TEST = 0 ∧ s.get F.CUR_MONSTAT_WARN = 0 ∧ s.freeCores = p :: ps ∧ s.rotTurn = some n) ∧
    (∃ (s : State), s.get F.MDL_CTRL_CT ≠ 0 ∧ s.get I.ROT_N = 0 ∧ s.get I.ROT_TEST = 0 ∧ s.get F.CUR_MONSTAT_WARN = 0 ∧ s.freeCores = []) ∧
    (∃ (s : State) (n : Nat), s.get I.ROT_N = n + 1 ∧ s.get (F.MDL_MAP_PHASE n) = 1) ∧
    (∃ (s : State) (n : Nat), s.get I.ROT_N = n + 1 ∧ s.get (F.MDL_MAP_PHASE n) = 2 ∧ s.rotReady n = true) ∧
    (∃ (s : State) (n : Nat), s.get I.ROT_TEST = n + 1 ∧ s.nextRepair I.RPS_ORD = none ∧ s.get I.ROT_DUE = 0) ∧
    (∃ (s : State) (n : Nat), s.get I.ROT_TEST = n + 1 ∧ s.nextRepair I.RPS_ORD = none ∧ s.get I.ROT_DUE = 0) ∧
    (∃ (s : State) (n : Nat) (k : Nat), s.get I.ROT_TEST = n + 1 ∧ s.nextRepair I.RPS_ORD = none ∧ s.get I.ROT_DUE ≠ 0 ∧ s.get F.MDL_CTRL_CT ≠ 0 ∧ s.get I.ROT_N = 0 ∧ s.get F.CUR_MONSTAT_WARN = 0 ∧ s.rotTurn = some k ∧ (s.set (I.PC_BUSY n) 0).freeCores ≠ []) ∧
    (∃ (s : State) (n : Nat) (p : Nat) (ps : List Nat), s.get F.MDL_CTRL_BT ≠ 0 ∧ s.get I.LOAN_N = 0 ∧ s.get F.CUR_MONSTAT_WARN = 0 ∧ s.freeBanks = p :: ps ∧ s.loanTurn = some n) ∧
    (∃ (s : State) (n : Nat), s.get I.LOAN_N = n + 1 ∧ s.get (F.ORC_MAP_LOAN n) = 1) ∧
    (∃ (s : State) (n : Nat), s.get I.RPL_N = n + 1 ∧ s.get (F.ORC_MAP_LOAN n) = 1 ∧ s.get I.RPL_TEST = 0 ∧ s.nextRepair I.RPL_ORD = none) ∧
    (∃ (s : State) (n : Nat), s.get I.LOAN_N = n + 1 ∧ s.get (F.ORC_MAP_LOAN n) = 2 ∧ s.nextRepair I.RPL_ORD = none ∧ s.get I.LOAN_DUE = 0) ∧
    (∃ (s : State) (n : Nat), s.get I.LOAN_N = n + 1 ∧ s.get (F.ORC_MAP_LOAN n) = 2 ∧ s.nextRepair I.RPL_ORD = none ∧ s.get I.LOAN_DUE = 0) ∧
    (∃ (s : State) (n : Nat) (h : Fin 512), s.get (I.ASRC_NEW h) = n + 1 ∧ (s.get (I.ASRC_GONE h) ≠ 0 ∨ s.frc % s.blockLen = 0 ∧ s.lasted (s.get (I.ASRC_RPAT h)) 4000 = true)) ∧
    (∃ (s : State) (h : Fin 512), s.mdlPermanent 8 3 (s.get (F.ASRC_CH_PHYS h)) true = false) ∧
    (∃ (s : State) (slow : BitVec 16), slow.toNat ≤ s.get F.MDL_AGE_THR) ∧
    (∃ (s : State) (k : Fin 72) (slow : BitVec 16), s.get F.MDL_AGE_THR < slow.toNat ∧ s.coreSpare k = true ∧ ((∀ j : Fin 64, s.get (F.MDL_MAP_PHASE j) = 0 ∨ s.get (F.MDL_MAP_SPARE j) ≠ k))) :=
  ⟨⟨(W.nx { W.run0 with landed := false }), 2, ({ W.run0 with landed := false }), by decide +kernel⟩,
   ⟨(W.rn [] W.run0), 2, W.run0, by decide +kernel⟩,
   ⟨({ W.st [(I.RPS_N,5),(F.MDL_MAP_SPARE 4,65),(I.PC_BUSY 65,1),(F.MDL_MAP_PHASE 4,3)] with cores := [(4, { Core.reset with p := { Core.reset.p with run := some W.run0 }, frozen := true })] }), 4, by decide +kernel⟩,
   ⟨State.reset, 0, 64, ([65,66,67,68,69,70,71]), by decide +kernel⟩,
   ⟨(W.st [(I.PC_RET 64,1),(I.PC_RET 65,1),(I.PC_RET 66,1),(I.PC_RET 67,1),(I.PC_RET 68,1),(I.PC_RET 69,1),(I.PC_RET 70,1),(I.PC_RET 71,1)]), by decide +kernel⟩,
   ⟨(W.st [(I.ROT_N,5),(F.MDL_MAP_PHASE 4,1),(F.MDL_MAP_SPARE 4,65),(I.PC_BUSY 65,1)]), 4, by decide +kernel⟩,
   ⟨(W.st [(I.ROT_N,5),(F.MDL_MAP_PHASE 4,2),(F.MDL_MAP_SPARE 4,65),(I.PC_BUSY 65,1)]), 4, by decide +kernel⟩,
   ⟨(W.st [(I.ROT_TEST,5),(I.PC_BUSY 4,1),(I.ROT_OF,7)]), 4, by decide +kernel⟩,
   ⟨(W.st [(I.ROT_TEST,5),(I.PC_BUSY 4,1),(I.ROT_OF,7)]), 4, by decide +kernel⟩,
   ⟨(W.st [(I.ROT_TEST,5),(I.PC_BUSY 4,1),(I.ROT_OF,7),(I.ROT_DUE,1)]), 4, 0, by decide +kernel⟩,
   ⟨State.reset, 0, 64, ([65,66,67]), by decide +kernel⟩,
   ⟨(W.st [(I.LOAN_N,5),(F.ORC_MAP_LOAN 4,1),(F.ORC_MAP_SPARE 4,65)]), 4, by decide +kernel⟩,
   ⟨(W.st [(I.RPL_N,5),(F.ORC_MAP_LOAN 4,1),(F.ORC_MAP_SPARE 4,65)]), 4, by decide +kernel⟩,
   ⟨(W.st [(I.LOAN_N,5),(F.ORC_MAP_LOAN 4,2),(F.ORC_MAP_SPARE 4,65)]), 4, by decide +kernel⟩,
   ⟨(W.st [(I.LOAN_N,5),(F.ORC_MAP_LOAN 4,2),(F.ORC_MAP_SPARE 4,65)]), 4, by decide +kernel⟩,
   ⟨(W.st [(I.ASRC_NEW 7,521),(F.SYS_CLAIM_OWNER 1095,9),(I.ASRC_GONE 7,1)]), 520, 7, by decide +kernel⟩,
   ⟨State.reset, 7, by decide +kernel⟩,
   ⟨State.reset, 500, by decide +kernel⟩,
   ⟨State.reset, 65, 501, by decide +kernel⟩⟩

/-- States and operands that meet the hypotheses of `Obligations.HostPortAndPinCommandsComplete`, clause by clause. -/
theorem test_witness_HostPortAndPinCommandsComplete :
    (∃ (s : State) (up : Bool), s.on F.HIF_LINK_UP ≠ up) ∧
    (∃ (s : State) (m : Master), s.performs m 0x100088 = true) ∧
    (∃ (s : State) (m : Master) (n : Fin 48) (w : Word), s.performs m (0x130000 + 4 * n) = true ∧ natBits w.toNat 9 8 ≠ 3 ∧ s.get (F.PIN_GP_EN n) = 0 ∧ s.get (F.SYS_CLAIM_OWNER (gpSlot n)) = 0) ∧
    (∃ (s : State) (m : Master) (n : Fin 48) (w : Word), s.performs m (0x130000 + 4 * n) = true ∧ natBits w.toNat 9 8 = 3) ∧
    (∃ (s : State) (m : Master) (n : Fin 48) (w : Word), s.performs m (0x130000 + 4 * n) = true ∧ natBits w.toNat 9 8 ≠ 3 ∧ s.get (F.PIN_GP_EN n) ≠ 0) ∧
    (∃ (s : State) (n : Fin 48) (b : Bool), s.boundary = false ∧ s.gpDrives n = false ∧ s.gpTimed n = false ∧ s.driven (.slot (Fin.ofNat 1024 (gpSlot n))) = none ∧ s.get (F.PIN_GP_IEDGE n) / (if b then 1 else 2) % 2 = 1) :=
  ⟨⟨State.reset, true, by decide +kernel⟩,
   ⟨State.reset, .steward, by decide +kernel⟩,
   ⟨State.reset, .steward, 3, 0x1C, by decide +kernel⟩,
   ⟨State.reset, .steward, 3, 0x300, by decide +kernel⟩,
   ⟨(W.st [(F.PIN_GP_EN 3,1),(F.PIN_GP_STATE 3,2),(F.SYS_CLAIM_OWNER 288,0x1303)]), .steward, 3, 0, by decide +kernel⟩,
   ⟨(W.st [(F.PIN_GP_IEDGE 3,1)]), 3, true, by decide +kernel⟩⟩

/-- States and operands that meet the hypotheses of `Obligations.ChainFramesComplete`, clause by clause. -/
theorem test_witness_ChainFramesComplete :
    (∃ (s : State) (h : ChainHdr), s.get F.CFG_CHAIN_EN ≠ 0 ∧ h.crcOk = true ∧ s.get F.CFG_SESS_SRC = 0 ∧ s.get F.CFG_TRIAL_ACTIVE = 0) ∧
    (∃ (s : State) (h : ChainHdr), s.get F.CFG_CHAIN_EN ≠ 0 ∧ h.crcOk = true ∧ s.get F.CFG_SESS_SRC ≠ 0) ∧
    (∃ (s : State) (h : ChainHdr) (bs : List Byte), s.get F.CFG_CHAIN_EN ≠ 0 ∧ h.crcOk = true ∧ s.get F.CFG_SESS_SRC = 4 ∧ s.get I.CH_SENT = 0 ∧ s.get F.CFG_STAGE_STATE = 0 ∧ bs.length < 8) ∧
    (∃ (s : State) (h : ChainHdr), s.get F.CFG_CHAIN_EN ≠ 0 ∧ h.crcOk = true ∧ s.get I.CH_HEAD ≠ 0) ∧
    (∃ (s : State) (h : ChainHdr), s.get F.CFG_CHAIN_EN ≠ 0 ∧ h.crcOk = true ∧ s.get I.CH_HEAD = 0) ∧
    (∃ (s : State) (h : ChainHdr) (d : BitVec 256) (f : Nat), s.get F.CFG_CHAIN_EN ≠ 0 ∧ h.crcOk = true ∧ s.digestIs d = true ∧ (s.setF f).armFault = none) ∧
    (∃ (s : State) (h : ChainHdr) (d : BitVec 256), s.get F.CFG_CHAIN_EN ≠ 0 ∧ h.crcOk = true ∧ s.digestIs d = false) ∧
    (∃ (s : State) (h : ChainHdr), s.get F.CFG_CHAIN_EN ≠ 0 ∧ h.crcOk = true ∧ s.get I.CH_HEAD ≠ 0 ∧ s.get F.CFG_ACT_STATE = 0) ∧
    (∃ (s : State) (h : ChainHdr), s.get F.CFG_CHAIN_EN ≠ 0 ∧ h.crcOk = true ∧ s.get I.CH_HEAD ≠ 0 ∧ s.get F.CFG_ACT_STATE ≠ 0 ∧ s.get I.CH_BAD = 0 ∧ s.goSent = false ∧ s.get F.CFG_CHAIN_LAST = 0 ∧ s.chainHops = [h.hop.val]) ∧
    (∃ (s : State) (h : ChainHdr) (d : BitVec 256) (f : Nat), s.get F.CFG_CHAIN_EN ≠ 0 ∧ h.crcOk = true ∧ s.get F.CFG_SESS_SRC = 4 ∧ s.digestIs d = true ∧ s.refusal = none ∧ 4 * s.frc + s.rateHz ≤ 4 * f) ∧
    (∃ (s : State) (h : ChainHdr), s.get F.CFG_CHAIN_EN ≠ 0 ∧ h.crcOk = true ∧ s.get I.CH_HEAD ≠ 0) ∧
    (∃ (s : State) (h : ChainHdr) (k : Nat), s.get F.CFG_CHAIN_EN ≠ 0 ∧ h.crcOk = true ∧ s.get F.CFG_TRIAL_ACTIVE ≠ 0 ∧ s.get F.CFG_TRIAL_HEALTHY ≠ 0 ∧ s.bootSlot = k ∧ (k = 1 ∨ k = 2)) ∧
    (∃ (s : State) (h : ChainHdr), s.get F.CFG_CHAIN_EN ≠ 0 ∧ h.crcOk = true ∧ s.get F.CFG_TRIAL_ACTIVE = 0 ∧ s.get F.CFG_ACT_STATE ≠ 0) :=
  ⟨⟨(W.chs []), W.hdr, by decide +kernel⟩,
   ⟨(W.chs [(F.CFG_SESS_SRC,2)]), W.hdr, by decide +kernel⟩,
   ⟨(W.chs [(F.CFG_SESS_SRC,4)]), W.hdr, ([1,2,3]), by decide +kernel⟩,
   ⟨(W.chs [(I.CH_HEAD,1)]), W.hdr, by decide +kernel⟩,
   ⟨(W.chs []), W.hdr, by decide +kernel⟩,
   ⟨(W.chs []), W.hdr, W.dig0, 100000, by decide +kernel⟩,
   ⟨(W.chs []), W.hdr, 5, by decide +kernel⟩,
   ⟨(W.chs [(I.CH_HEAD,1)]), W.hdr, by decide +kernel⟩,
   ⟨({ W.chs [(I.CH_HEAD,1),(F.CFG_ACT_STATE,1)] with graft := { Graft.reset with hops := [68] } }), W.hdr, by decide +kernel⟩,
   ⟨(W.chs [(F.CFG_SESS_SRC,4)]), W.hdr, W.dig0, 30000, by decide +kernel⟩,
   ⟨(W.chs [(I.CH_HEAD,1)]), W.hdr, by decide +kernel⟩,
   ⟨(W.chs [(F.CFG_TRIAL_ACTIVE,1),(F.CFG_TRIAL_HEALTHY,1),(I.BOOT_SLOT,2)]), W.hdr, 2, by decide +kernel⟩,
   ⟨(W.chs [(F.CFG_ACT_STATE,1)]), W.hdr, by decide +kernel⟩⟩

set_option maxRecDepth 100000 in
/-- States and operands that meet the hypotheses of `Obligations.RecoveryCommandsComplete`, clause by clause. -/
theorem test_witness_RecoveryCommandsComplete :
    (∃ (s : State), s.get I.BOOT_PH = 2) ∧
    (∃ (s : State) (n : Nat), s.get I.BOOT_PH = 2 ∧ 9600 ≤ n ∧ n ≤ 3000000) ∧
    (∃ (s : State) (n : Nat), s.get I.BOOT_PH = 2 ∧ (n < 9600 ∨ 3000000 < n)) ∧
    (∃ (s : State) (ds : List (Fin 10)), s.get I.BOOT_PH = 2 ∧ s.get I.CFG_LOCKO = 0 ∧ 1 ≤ ds.length ∧ ds.length ≤ 8 ∧ s.ownerHeld = true ∧ sha256 (ds.map (fun d => BitVec.ofNat 8 (0x30 + d.val))) = s.heldOwner) ∧
    (∃ (s : State) (ds : List (Fin 10)), s.get I.BOOT_PH = 2 ∧ s.get I.CFG_LOCKO = 0 ∧ 1 ≤ ds.length ∧ ds.length ≤ 8 ∧ s.ownerHeld = false) ∧
    (∃ (s : State) (n : Nat), s.get I.BOOT_PH = 2 ∧ s.rindLocked = false ∧ n ≠ 0) ∧
    (∃ (s : State) (k : Nat) (bs : List Byte), s.get I.BOOT_PH = 2 ∧ s.get I.RL_BLK = k ∧ 4096 < s.get I.RL_LEFT ∧ bs.length = 4096) ∧
    (∃ (s : State), s.get I.BOOT_PH = 2 ∧ s.get I.RL_LEFT ≠ 0) ∧
    (∃ (s : State), s.get I.BOOT_PH = 2 ∧ s.rindLocked = false) ∧
    (∃ (s : State), s.get I.BOOT_PH = 2 ∧ s.rindLocked = true) ∧
    (∃ (s : State), s.get I.BOOT_PH = 2 ∧ s.get I.PW_HOLD = 0) :=
  ⟨⟨(W.st [(I.BOOT_PH,2)]), by decide +kernel⟩,
   ⟨(W.st [(I.BOOT_PH,2)]), 9600, by decide +kernel⟩,
   ⟨(W.st [(I.BOOT_PH,2)]), 3000001, by decide +kernel⟩,
   ⟨({ W.st [(I.BOOT_PH,2)] with flash := { Flash.blank with copy0 := W.own1 } }), ([1]), by decide +kernel⟩,
   ⟨(W.st [(I.BOOT_PH,2),(I.CFG_WRONG,4)]), ([1]), by decide +kernel⟩,
   ⟨(W.st [(I.BOOT_PH,2)]), 9, by decide +kernel⟩,
   ⟨(W.st [(I.BOOT_PH,2),(I.RL_LEFT,5000),(I.RL_BLK,2)]), 2, (List.replicate 4096 0), by decide +kernel⟩,
   ⟨(W.st [(I.BOOT_PH,2),(I.RL_LEFT,5000)]), by decide +kernel⟩,
   ⟨(W.st [(I.BOOT_PH,2)]), by decide +kernel⟩,
   ⟨({ W.st [(I.BOOT_PH,2)] with flash := { Flash.blank with copy0 := W.own1 } }), by decide +kernel⟩,
   ⟨(W.st [(I.BOOT_PH,2)]), by decide +kernel⟩⟩

/-- States and operands that meet the hypotheses of `Obligations.GraftCommandsComplete`, clause by clause. -/
theorem test_witness_GraftCommandsComplete :
    (∃ (s : State) (seq : BitVec 24), s.inTurn seq.toNat = true ∧ s.role = roleACTIVE) ∧
    (∃ (s : State) (seq : BitVec 24) (d : List Byte), s.inTurn seq.toNat = true ∧ d = sha256 s.runManifest) ∧
    (∃ (s : State) (m : Master), s.performs m 0x40000 = true ∧ s.get F.CFG_SESS_SRC = 0 ∧ s.get F.CFG_TRIAL_ACTIVE = 0 ∧ s.get F.CFG_CHAIN_EN = 0) ∧
    (∃ (s : State) (m : Master), s.performs m 0x40000 = true ∧ s.get F.CFG_SESS_SRC ≠ 0) ∧
    (∃ (s : State) (m : Master), s.performs m 0x40000 = true ∧ s.holdsSession m = true ∧ s.get F.CFG_STAGE_STATE ≠ 1 ∧ s.get F.CFG_STAGE_STATE ≠ 2 ∧ s.get F.CFG_ACT_STATE = 0) ∧
    (∃ (s : State), s.get F.CFG_SESS_SRC ≠ 0 ∧ s.get F.CFG_STAGE_STATE ≠ 1 ∧ s.get F.CFG_STAGE_STATE ≠ 2 ∧ s.get F.CFG_ACT_STATE = 0) ∧
    (∃ (s : State) (m : Master) (w : Word), s.performs m 0x40008 = true ∧ s.holdsSession m = true ∧ s.get F.CFG_STAGE_BUSY = 0 ∧ s.get F.CFG_ACT_STATE = 0 ∧ State.inOrchard (s.get F.CFG_XFER_ADDR_ADDR) (w.toNat % 2 ^ 16 + 1) = true ∧ s.rangeAdmits (.other 0x56) (s.get F.CFG_XFER_ADDR_ADDR) (w.toNat % 2 ^ 16 + 1) = true ∧ s.rangePending (s.get F.CFG_XFER_ADDR_ADDR) (w.toNat % 2 ^ 16 + 1) = false ∧ s.orcFlaws = []) ∧
    (∃ (s : State) (m : Master) (w : Word), s.performs m 0x40008 = true ∧ s.holdsSession m = true ∧ s.get F.CFG_STAGE_BUSY = 0 ∧ s.get F.CFG_ACT_STATE = 0 ∧ State.inOrchard (s.get F.CFG_XFER_ADDR_ADDR) (w.toNat % 2 ^ 16 + 1) = true ∧ s.rangeAdmits (.other 0x56) (s.get F.CFG_XFER_ADDR_ADDR) (w.toNat % 2 ^ 16 + 1) = true ∧ s.rangePending (s.get F.CFG_XFER_ADDR_ADDR) (w.toNat % 2 ^ 16 + 1) = true) ∧
    (∃ (s : State) (m : Master) (w : Word), s.performs m 0x40008 = true ∧ s.holdsSession m = true ∧ s.get F.CFG_STAGE_BUSY = 0 ∧ s.get F.CFG_ACT_STATE = 0 ∧ State.inOrchard (s.get F.CFG_XFER_ADDR_ADDR) (w.toNat % 2 ^ 16 + 1) = false) ∧
    (∃ (s : State) (bs : List Byte), s.get F.CFG_STAGE_BUSY ≠ 0 ∧ s.get I.CH_HEAD = 0 ∧ s.get F.CFG_STAGE_STATE = 0 ∧ s.rangePending (s.get I.CFG_LATE_A) (s.get I.CFG_LATE) = false ∧ s.orcFlaws = [] ∧ bs.length < 8 ∧ bs = (if s.get I.CFG_LATE = 0 then s.graft.piece else s.orcBytes (s.get I.CFG_LATE_A - orcBase) (s.get I.CFG_LATE))) ∧
    (∃ (s : State), s.get F.CFG_STAGE_BUSY ≠ 0 ∧ s.rangePending (s.get I.CFG_LATE_A) (s.get I.CFG_LATE) = true) ∧
    (∃ (s : State) (m : Master), s.performs m 0x40010 = true ∧ s.holdsSession m = true ∧ s.armFault = none ∧ s.role = roleSOLO ∧ s.get I.CH_HEAD = 0) ∧
    (∃ (s : State) (m : Master) (st : Nat) (r : Nat), s.performs m 0x40010 = true ∧ s.holdsSession m = true ∧ s.armFault = some (st, r)) ∧
    (∃ (s : State) (m : Master), s.performs m 0x40010 = true ∧ s.holdsSession m = true ∧ s.role = roleSOLO) ∧
    (∃ (s : State) (r : Nat), s.get F.CFG_ACT_STATE ≠ 0 ∧ s.activationF ≤ s.frc ∧ s.stagedSlot ≠ 0 ∧ s.get I.ACT_PAIR = 0 ∧ s.refusal = some r) ∧
    (∃ (s : State), s.get F.CFG_ACT_STATE ≠ 0 ∧ s.activationF ≤ s.frc ∧ s.stagedSlot ≠ 0 ∧ s.get I.ACT_PAIR = 0 ∧ s.refusal = none ∧ s.get I.CH_HEAD = 0 ∧ s.role = roleSOLO ∧ s.get I.PW_HOLD = 0) ∧
    (∃ (s : State), s.performs .steward 0x4001C = true ∧ s.get F.CFG_TRIAL_ACTIVE = 0) ∧
    (∃ (s : State), s.performs .steward 0x4001C = true ∧ s.get F.CFG_TRIAL_ACTIVE ≠ 0 ∧ natBit (mfFlags s.runManifest) 0 = false ∧ s.get F.CFG_CHAIN_EN = 0 ∧ s.role ≠ roleSOLO ∧ s.linkUp = true) ∧
    (∃ (s : State) (m : Master) (k : Nat), s.performs m 0x4001C = true ∧ s.holdsSession m = true ∧ s.get F.CFG_TRIAL_ACTIVE ≠ 0 ∧ s.get F.CFG_TRIAL_HEALTHY ≠ 0 ∧ s.pairHealthy = true ∧ s.get I.CH_HEAD = 0 ∧ s.bootSlot = k ∧ (k = 1 ∨ k = 2)) ∧
    (∃ (s : State) (m : Master), s.performs m 0x4001C = true ∧ s.holdsSession m = true ∧ (s.get F.CFG_TRIAL_ACTIVE = 0 ∨ s.get F.CFG_TRIAL_HEALTHY = 0)) ∧
    (∃ (s : State) (k : Nat), s.performs .steward 0x4001C = true ∧ s.get F.CFG_TRIAL_ACTIVE ≠ 0 ∧ s.get I.PW_HOLD = 0 ∧ s.bootSlot = k ∧ (k = 1 ∨ k = 2)) ∧
    (∃ (s : State) (k : Nat), s.get F.CFG_TRIAL_ACTIVE ≠ 0 ∧ s.get I.PW_HOLD = 0 ∧ s.bootSlot = k ∧ (k = 1 ∨ k = 2)) ∧
    (∃ (s : State) (body : List Byte), s.get I.BOOT_PH = 1 ∧ body.length ≤ 1048544 ∧ s.get F.CFG_TRIAL_ACTIVE = 0) ∧
    (∃ (s : State) (m : Master) (w : Word) (ds : List Nat), s.performs m 0x40050 = true ∧ s.get F.CFG_SESS_SRC ≠ 0 ∧ s.get I.CFG_LOCKO = 0 ∧ State.bcdDigits w.toNat = some ds ∧ s.ownerMatches ds = true) ∧
    (∃ (s : State) (m : Master) (w : Word) (ds : List Nat), s.performs m 0x40050 = true ∧ s.get F.CFG_SESS_SRC ≠ 0 ∧ s.get I.CFG_LOCKO = 0 ∧ State.bcdDigits w.toNat = some ds ∧ s.ownerMatches ds = false) :=
  ⟨⟨(W.st [(I.TWN_RXSEQ,5),(F.TWN_STAT_ROLE,1),(F.TWN_CTRL_EN,1),(F.TWN_STAT_LANES,1)]), 5, by decide +kernel⟩,
   ⟨(W.st [(I.TWN_RXSEQ,5),(F.TWN_STAT_ROLE,1),(F.TWN_CTRL_EN,1),(F.TWN_STAT_LANES,1)]), 5, (sha256 (State.runManifest (W.st []))), by decide +kernel⟩,
   ⟨State.reset, .steward, by decide +kernel⟩,
   ⟨(W.st [(F.CFG_SESS_SRC,1)]), .steward, by decide +kernel⟩,
   ⟨(W.ses [(F.CFG_STAGE_STATE,3)]), .steward, by decide +kernel⟩,
   ⟨(W.ses [(F.CFG_STAGE_STATE,3)]), by decide +kernel⟩,
   ⟨(W.ses [(F.CFG_XFER_ADDR_ADDR,0x10000000),(F.ORC_OWN_OWNER 0, 0x56)]), .steward, 7, by decide +kernel⟩,
   ⟨(W.ses [(F.CFG_XFER_ADDR_ADDR,0x10000000),(F.ORC_OWN_OWNER 0, 0x56),(F.ORC_OWN_PENDING 0,1)]), .steward, 7, by decide +kernel⟩,
   ⟨(W.ses [(F.CFG_XFER_ADDR_ADDR,0)]), .steward, 7, by decide +kernel⟩,
   ⟨({ W.ses [(F.CFG_STAGE_BUSY,1)] with graft := { Graft.reset with piece := [1,2,3] } }), ([1,2,3]), by decide +kernel⟩,
   ⟨(W.ses [(F.CFG_STAGE_BUSY,1),(I.CFG_LATE,3),(I.CFG_LATE_A,0x10000000),(F.ORC_OWN_PENDING 0,1)]), by decide +kernel⟩,
   ⟨(W.ses [(F.CFG_ACT_FRC_LO_F,200000)]), .steward, by decide +kernel⟩,
   ⟨(W.ses []), .steward, 4, 0, by decide +kernel⟩,
   ⟨(W.ses [(F.CFG_ACT_STATE,1)]), .steward, by decide +kernel⟩,
   ⟨(W.ses [(F.CFG_ACT_STATE,1),(F.SYS_SHOW_SHOW,1)]), 3, by decide +kernel⟩,
   ⟨(W.ses [(F.CFG_ACT_STATE,1)]), by decide +kernel⟩,
   ⟨State.reset, by decide +kernel⟩,
   ⟨(W.st [(F.CFG_TRIAL_ACTIVE,1),(F.TWN_STAT_ROLE,1),(F.TWN_CTRL_EN,1),(F.TWN_STAT_LANES,1)]), by decide +kernel⟩,
   ⟨(W.ses [(F.CFG_TRIAL_ACTIVE,1),(F.CFG_TRIAL_HEALTHY,1),(I.BOOT_SLOT,2)]), .steward, 2, by decide +kernel⟩,
   ⟨(W.ses []), .steward, by decide +kernel⟩,
   ⟨(W.ses [(F.CFG_TRIAL_ACTIVE,1),(I.BOOT_SLOT,2)]), 2, by decide +kernel⟩,
   ⟨(W.ses [(F.CFG_TRIAL_ACTIVE,1),(I.BOOT_SLOT,1)]), 1, by decide +kernel⟩,
   ⟨(W.st [(I.BOOT_PH,1)]), ([1,2,3]), by decide +kernel⟩,
   ⟨(W.ses W.ownd), .steward, 0xFFFFFFF1, ([1]), by decide +kernel⟩,
   ⟨(W.ses [(I.CFG_WRONG,4)]), .steward, 0xFFFFFFF1, ([1]), by decide +kernel⟩⟩

/-- States and operands that meet the hypotheses of `Obligations.TwinRoleCommandsComplete`, clause by clause. -/
theorem test_witness_TwinRoleCommandsComplete :
    (∃ (s : State) (m : Master) (w : Word), s.performs m 0x110000 = true ∧ bits w.toNat [20, 22, 23] = 0 ∧ F.TWN_CTRL_MATCHN.of w.toNat ≠ 0 ∧ s.get F.TWN_CTRL_EN = 0) ∧
    (∃ (s : State) (m : Master) (w : Word), s.performs m 0x110000 = true ∧ F.TWN_CTRL_MATCHN.of w.toNat = 0 ∧ bits w.toNat [20, 22, 23] ≠ 1) ∧
    (∃ (s : State) (m : Master) (w : Word), s.performs m 0x110000 = true ∧ bits w.toNat [20, 22, 23] = 0 ∧ F.TWN_CTRL_MATCHN.of w.toNat ≠ 0 ∧ s.get F.TWN_CTRL_EN ≠ 0) ∧
    (∃ (s : State), s.linkUp = true ∧ s.get F.TWN_STAT_ROLE = 0 ∧ s.get F.CFG_TRIAL_ACTIVE = 0) ∧
    (∃ (s : State) (p : Partner), s.linkUp = true ∧ s.get F.TWN_STAT_ROLE = 0 ∧ s.get F.CFG_TRIAL_ACTIVE = 0 ∧ (p = .active ∨ (p = .undecided ∧ s.get F.TWN_STAT_STRAP = 0))) ∧
    (∃ (s : State), s.linkUp = true ∧ s.get F.TWN_STAT_ROLE = 0 ∧ s.get F.CFG_TRIAL_ACTIVE ≠ 0 ∧ s.get F.CFG_TRIAL_HEALTHY ≠ 0) ∧
    (∃ (s : State) (hb : Bool), s.get F.TWN_CTRL_EN ≠ 0 ∧ s.get F.TWN_STAT_ROLE = 0 ∧ s.get F.TWN_STAT_LANES = 0 ∧ s.lasted (s.get I.TWN_ENAT) (100000 * s.get F.TWN_TIME_BOOTWAIT) = true ∧ (s.get F.TWN_STAT_STRAP ≠ 0 ∨ hb = false)) ∧
    (∃ (s : State) (m : Master) (l : Fin 4), s.performs m (0x110080 + 4 * l) = true ∧ s.get (F.TWN_LANE_STATE l) = unitOFF) ∧
    (∃ (s : State) (m : Master) (l : Fin 4), s.performs m (0x110080 + 4 * l) = true ∧ s.get (F.TWN_LANE_STATE l) = unitON ∧ s.get (F.TWN_LANE_EN l) ≠ 0) ∧
    (∃ (s : State) (l : Fin 4), s.get (F.TWN_LANE_STATE l) = unitSTARTING) ∧
    (∃ (s : State) (l : Fin 4), s.get (F.TWN_LANE_STATE l) = unitON) ∧
    (∃ (s : State), s.frc % s.blockLen = s.blockLen / 2 ∧ (s.get F.TWN_STAT_HBIN ≠ 0 ∨ (∀ k ∈ s.tmActive, s.get (F.TMR_CAPCFG_CSRC k) ≠ 89))) ∧
    (∃ (s : State), s.frc % s.blockLen = s.blockLen / 2) ∧
    (∃ (s : State) (i : Nat), s.frc % s.blockLen = 0 ∧ s.get I.TWN_DEMOTE = 0 ∧ s.get I.TWN_XCH = 0 ∧ s.get F.TWN_STAT_ROLE = 2 ∧ s.get F.TWN_STAT_PEERHB = 0 ∧ s.get F.TWN_STAT_SYNC = 2 ∧ s.get I.TWN_HBP ≠ 0 ∧ s.get F.CLK_STAT_MODE ≠ clkACQUIRE ∧ s.ownRef = some i) ∧
    (∃ (s : State), s.frc % s.blockLen = 0 ∧ s.get I.TWN_DEMOTE = 0 ∧ s.get I.TWN_XCH = 0 ∧ s.get F.TWN_STAT_ROLE = 1 ∧ s.get I.TWN_HBF ≠ 0 ∧ s.get I.TWN_HBF ≤ s.frc ∧ s.get F.TWN_STAT_PEERHB ≠ 0) ∧
    (∃ (s : State), s.frc % s.blockLen = 0 ∧ s.get I.TWN_DEMOTE ≠ 0 ∧ s.get F.TWN_STAT_ROLE ≠ 2) ∧
    (∃ (s : State), s.frc % s.blockLen ≠ 0) ∧
    (∃ (s : State) (m : Master) (w : Word), s.performs m 0x110000 = true ∧ bits w.toNat [20, 22] = 0 ∧ natBit w.toNat 4 = true ∧ s.get F.TWN_CTRL_EN ≠ 0 ∧ F.TWN_CTRL_MATCHN.of w.toNat ≠ 0 ∧ s.get F.TWN_STAT_ROLE = 1 ∧ s.get F.TWN_STAT_SYNC = 2) ∧
    (∃ (s : State) (m : Master) (w : Word), s.performs m 0x110000 = true ∧ bits w.toNat [20, 23] = 0 ∧ natBit w.toNat 4 = true ∧ F.TWN_CTRL_MATCHN.of w.toNat ≠ 0 ∧ s.get F.TWN_STAT_ROLE = 2 ∧ s.linkUp = true) ∧
    (∃ (s : State) (m : Master) (w : Word), s.performs m 0x110000 = true ∧ bits w.toNat [22, 23] = 0 ∧ natBit w.toNat 4 = true ∧ s.get F.TWN_CTRL_EN ≠ 0 ∧ F.TWN_CTRL_MATCHN.of w.toNat ≠ 0 ∧ s.get F.TWN_STAT_ROLE ≠ 0) ∧
    (∃ (s : State) (m : Master) (w : Word), s.performs m 0x110000 = true ∧ bits w.toNat [20, 23] = 0 ∧ natBit w.toNat 4 = true ∧ s.get F.TWN_CTRL_EN ≠ 0 ∧ s.get F.TWN_STAT_ROLE ≠ 2) ∧
    (∃ (s : State) (m : Master) (w : Word), s.performs m 0x110000 = true ∧ bits w.toNat [20, 22] = 0 ∧ (s.get F.TWN_STAT_ROLE ≠ 1 ∨ s.get F.TWN_STAT_SYNC ≠ 2)) ∧
    (∃ (s : State) (m : Master) (w : Word), s.performs m 0x110000 = true ∧ bits w.toNat [22, 23] = 0 ∧ s.get F.TWN_STAT_ROLE = 0) ∧
    (∃ (s : State), s.performs .steward 0x110008 = true) ∧
    (∃ (s : State), s.lasted (s.get I.TWN_WDAT) (1000 * s.get F.TWN_WDOG_PERIOD) = true) :=
  ⟨⟨State.reset, .steward, 0x4000, by decide +kernel⟩,
   ⟨State.reset, .steward, 0x10, by decide +kernel⟩,
   ⟨(W.st [(F.TWN_CTRL_EN,1),(F.TWN_STAT_ROLE,2)]), .steward, 0x4000, by decide +kernel⟩,
   ⟨(W.st [(F.TWN_CTRL_EN,1),(F.TWN_STAT_LANES,1)]), by decide +kernel⟩,
   ⟨(W.st [(F.TWN_CTRL_EN,1),(F.TWN_STAT_LANES,1),(F.SYS_ENGINE_STATE,2)]), .active, by decide +kernel⟩,
   ⟨(W.st [(F.TWN_CTRL_EN,1),(F.TWN_STAT_LANES,1),(F.CFG_TRIAL_ACTIVE,1),(F.CFG_TRIAL_HEALTHY,1)]), by decide +kernel⟩,
   ⟨(W.st [(F.TWN_CTRL_EN,1),(I.PCLK,2000000000)]), false, by decide +kernel⟩,
   ⟨State.reset, .steward, 2, by decide +kernel⟩,
   ⟨(W.st [(F.TWN_LANE_STATE 2,2),(F.TWN_LANE_EN 2,1),(F.TWN_STAT_LANES,6)]), .steward, 2, by decide +kernel⟩,
   ⟨(W.st [(F.TWN_LANE_STATE 2,1),(F.TWN_LANE_EN 2,1),(F.TWN_CTRL_EN,1)]), 2, by decide +kernel⟩,
   ⟨(W.st [(F.TWN_LANE_STATE 2,2),(F.TWN_LANE_EN 2,1),(F.TWN_STAT_LANES,6)]), 2, by decide +kernel⟩,
   ⟨({ W.st [] with frc := 8 }), by decide +kernel⟩,
   ⟨({ W.st [(F.TWN_STAT_HBIN,1)] with frc := 8 }), by decide +kernel⟩,
   ⟨({ W.st [(F.TWN_STAT_ROLE,2),(F.TWN_STAT_SYNC,2),(I.TWN_HBP,1),(F.CLK_STAT_MODE,3),(F.CLK_REFPRI_EN 1,1),(F.CLK_REFPRI_QUAL 1,1),(I.REF_EN 1,1),(I.REF_KIND 1,1)] with frc := 128 }), 1, by decide +kernel⟩,
   ⟨({ W.st [(F.TWN_STAT_ROLE,1),(I.TWN_HBF,65),(F.TWN_STAT_PEERHB,1)] with frc := 128 }), by decide +kernel⟩,
   ⟨({ W.st [(F.TWN_STAT_ROLE,1),(I.TWN_DEMOTE,1)] with frc := 128 }), by decide +kernel⟩,
   ⟨({ W.st [] with frc := 5 }), by decide +kernel⟩,
   ⟨(W.st [(F.TWN_CTRL_EN,1),(F.TWN_STAT_ROLE,1),(F.TWN_STAT_SYNC,2),(F.TWN_STAT_LANES,1)]), .steward, 0x4010, by decide +kernel⟩,
   ⟨(W.st [(F.TWN_CTRL_EN,1),(F.TWN_STAT_ROLE,2),(F.TWN_STAT_LANES,1)]), .steward, 0x4010, by decide +kernel⟩,
   ⟨(W.st [(F.TWN_CTRL_EN,1),(F.TWN_STAT_ROLE,2),(F.TWN_STAT_LANES,1),(F.SYS_ENGINE_STATE,2)]), .steward, 0x4010, by decide +kernel⟩,
   ⟨(W.st [(F.TWN_CTRL_EN,1),(F.TWN_STAT_ROLE,1)]), .steward, 0x4010, by decide +kernel⟩,
   ⟨State.reset, .steward, 0x10, by decide +kernel⟩,
   ⟨State.reset, .steward, 0x10, by decide +kernel⟩,
   ⟨State.reset, by decide +kernel⟩,
   ⟨(W.st [(I.PCLK,20000000000)]), by decide +kernel⟩⟩

/-- States and operands that meet the hypotheses of `Obligations.TwinFrameCommandsComplete`, clause by clause. -/
theorem test_witness_TwinFrameCommandsComplete :
    (∃ (s : State) (seq : BitVec 24), s.inTurn seq.toNat = true ∧ s.get F.TWN_STAT_ROLE = 2) ∧
    (∃ (s : State) (seq : BitVec 24), s.linkUp = true ∧ s.get I.TWN_RXSEQ ≠ seq.toNat) ∧
    (∃ (s : State) (seq : BitVec 24), s.linkUp = true ∧ s.twin.tx.any (fun f => decide (f.seq = seq.toNat) && !f.acked) = false) ∧
    (∃ (s : State) (seq : BitVec 24), s.linkUp = true ∧ s.twin.tx.any (fun f => decide (f.seq = seq.toNat) && !f.acked) = true ∧ s.twin.waiting = []) ∧
    (∃ (s : State) (seq : BitVec 24) (f : TxFrame), s.linkUp = true ∧ s.twin.tx = [f] ∧ f.seq = seq.toNat ∧ f.acked = false ∧ f.tries < 4) ∧
    (∃ (s : State) (seq : BitVec 24) (f : TxFrame), s.twin.tx = [f] ∧ f.seq = seq.toNat ∧ f.acked = false ∧ f.tries < 4 ∧ s.lasted f.sent 64 = true) ∧
    (∃ (s : State) (seq : BitVec 24) (f : TxFrame), s.twin.tx = [f] ∧ f.seq = seq.toNat ∧ f.acked = false ∧ 4 ≤ f.tries ∧ s.lasted f.sent 64 = true ∧ s.get I.TWN_LOST = 0) ∧
    (∃ (s : State) (seq : BitVec 24) (blk : Nat), s.inTurn seq.toNat = true ∧ s.twin.crcs.find? (fun c => decide (c.1 = blk)) = none) ∧
    (∃ (s : State) (seq : BitVec 24) (blk : Nat) (crc : Word), s.inTurn seq.toNat = true ∧ s.twin.crcs.find? (fun c => decide (c.1 = blk)) = some (blk, crc.toNat) ∧ s.get F.TWN_STAT_ROLE = 2 ∧ s.get F.TWN_STAT_SYNC = 1 ∧ s.get F.TWN_CTRL_MATCHN ≤ s.get I.TWN_MATCH + 1 ∧ s.get I.TWN_MATCH < 255 ∧ blk % 2 ^ 32 = (s.get F.TWN_CRCBLK_J + 1) % 2 ^ 32) ∧
    (∃ (s : State) (seq : BitVec 24) (blk : Nat) (own : Nat) (crc : Word), s.inTurn seq.toNat = true ∧ s.twin.crcs.find? (fun c => decide (c.1 = blk)) = some (blk, own) ∧ own ≠ crc.toNat ∧ s.get F.TWN_STAT_ROLE = 2) ∧
    (∃ (s : State) (seq : BitVec 24), s.inTurn seq.toNat = true) ∧
    (∃ (s : State) (seq : BitVec 24), s.inTurn seq.toNat = true ∧ s.get F.TWN_STAT_ROLE = 2 ∧ s.get F.TWN_STAT_SYNC = 1 ∧ s.get I.RATE_PEND = 0) ∧
    (∃ (s : State) (seq : BitVec 24) (a : Fin 67108864), s.inTurn seq.toNat = true ∧ s.get F.TWN_STAT_ROLE = 2 ∧ s.get F.TWN_STAT_SYNC = 1 ∧ s.bankRetired (bankOf a.val) = false) ∧
    (∃ (s : State) (seq : BitVec 24), s.inTurn seq.toNat = true ∧ s.get F.TWN_STAT_ROLE = 1 ∧ s.get I.TWN_XCH = 0) ∧
    (∃ (s : State), s.get F.TWN_STAT_ROLE = 2 ∧ s.get F.TWN_STAT_SYNC = 1 ∧ s.get I.TWN_CPD = 0) ∧
    (∃ (s : State), s.get F.TWN_STAT_ROLE = 2 ∧ s.get F.TWN_STAT_SYNC = 1 ∧ s.get I.TWN_CPD ≠ 0 ∧ s.get F.SYS_ENGINE_STATE = 0 ∧ s.get I.TWN_T ≤ s.frc + s.blockLen ∧ s.get I.TWN_T < 2 ^ 64) ∧
    (∃ (s : State), s.get F.TWN_STAT_ROLE ≠ 0 ∧ s.get F.TWN_STAT_SYNC = 1 ∧ s.lasted (s.get I.TWN_RSAT) (1000000 * s.get F.TWN_TIME_RSYNC_T) = true) :=
  ⟨⟨(W.tw [(F.TWN_STAT_ROLE,2)]), 5, by decide +kernel⟩,
   ⟨(W.tw [(I.TWN_RXSEQ,6)]), 5, by decide +kernel⟩,
   ⟨(W.tw []), 5, by decide +kernel⟩,
   ⟨({ W.tw [(F.TWN_STAT_ROLE,1)] with twin := { State.reset.twin with tx := [W.fr 5 0] } }), 5, by decide +kernel⟩,
   ⟨({ W.tw [(F.TWN_STAT_ROLE,1)] with twin := { State.reset.twin with tx := [W.fr 5 0] } }), 5, (W.fr 5 0), by decide +kernel⟩,
   ⟨({ W.tw [(F.TWN_STAT_ROLE,1),(I.PCLK,20000)] with twin := { State.reset.twin with tx := [W.fr 5 0] } }), 5, (W.fr 5 0), by decide +kernel⟩,
   ⟨({ W.tw [(F.TWN_STAT_ROLE,1),(I.PCLK,20000)] with twin := { State.reset.twin with tx := [W.fr 5 4] } }), 5, (W.fr 5 4), by decide +kernel⟩,
   ⟨(W.tw [(F.TWN_STAT_ROLE,2)]), 5, 3, by decide +kernel⟩,
   ⟨({ W.tw [(F.TWN_STAT_ROLE,2),(F.TWN_STAT_SYNC,1),(I.TWN_MATCH,63),(F.TWN_CRCBLK_J,2)] with twin := { State.reset.twin with crcs := [(3,9)] } }), 5, 3, 9, by decide +kernel⟩,
   ⟨({ W.tw [(F.TWN_STAT_ROLE,2),(F.TWN_STAT_SYNC,2),(F.SYS_ENGINE_STATE,2)] with twin := { State.reset.twin with crcs := [(3,8)] } }), 5, 3, 8, 9, by decide +kernel⟩,
   ⟨(W.tw [(F.TWN_STAT_ROLE,2)]), 5, by decide +kernel⟩,
   ⟨(W.tw [(F.TWN_STAT_ROLE,2),(F.TWN_STAT_SYNC,1),(I.TWN_FRCLO,9)]), 5, by decide +kernel⟩,
   ⟨(W.tw [(F.TWN_STAT_ROLE,2),(F.TWN_STAT_SYNC,1)]), 5, 77, by decide +kernel⟩,
   ⟨(W.tw [(F.TWN_STAT_ROLE,1)]), 5, by decide +kernel⟩,
   ⟨(W.tw [(F.TWN_STAT_ROLE,2),(F.TWN_STAT_SYNC,1)]), by decide +kernel⟩,
   ⟨(W.tw [(F.TWN_STAT_ROLE,2),(F.TWN_STAT_SYNC,1),(I.TWN_CPD,1)]), by decide +kernel⟩,
   ⟨(W.tw [(F.TWN_STAT_ROLE,2),(F.TWN_STAT_SYNC,1),(F.SYS_ENGINE_STATE,2),(I.PCLK,20000000000)]), by decide +kernel⟩⟩

/-- States and operands that meet the hypotheses of `Obligations.ServiceLinkLinesComplete`, clause by clause. -/
theorem test_witness_ServiceLinkLinesComplete :
    (∃ (s : State), s.firmwareUp = true) ∧
    (∃ (s : State), s.firmwareUp = true) ∧
    (∃ (s : State), s.firmwareUp = true) ∧
    (∃ (s : State), s.firmwareUp = true) ∧
    (∃ (s : State) (n : Nat), s.firmwareUp = true ∧ linkRates.contains n = true) ∧
    (∃ (s : State) (n : Nat), s.firmwareUp = true ∧ linkRates.contains n = false) ∧
    (∃ (s : State), s.firmwareUp = true ∧ s.get I.SL_NEW ≠ 0) ∧
    (∃ (s : State), s.firmwareUp = true) ∧
    (∃ (s : State), s.firmwareUp = true) ∧
    (∃ (s : State), s.firmwareUp = true) ∧
    (∃ (s : State) (a : Nat) (n : Nat), s.firmwareUp = true ∧ (a % 4 ≠ 0 ∨ n = 0 ∨ 64 < n ∨ 0x1000000 < a + 4 * n)) ∧
    (∃ (s : State), s.firmwareUp = true) ∧
    (∃ (s : State) (a : Nat), s.firmwareUp = true ∧ a % 4 = 0 ∧ a < 0x1000000 ∧ s.get F.TWN_STAT_SYNC = 2 ∧ pairLocal a = false) ∧
    (∃ (s : State) (n : Fin 1024), s.firmwareUp = true ∧ (State.driveName (.slot n)).isSome = true ∧ s.svc.drives.all (fun d => decide (d.1 ≠ .slot n) && decide (d.1 ≠ ballDACCLR)) = true ∧ s.get F.SYS_SHOW_SHOW = 0 ∧ s.get F.TWN_STAT_ROLE ≠ 2 ∧ s.get (F.SYS_CLAIM_OWNER n) = 0 ∧ s.on I.DMS_LOW = s.on I.DMS_OUTER) ∧
    (∃ (s : State) (n : Fin 1024), s.firmwareUp = true ∧ (State.driveName (.slot n)).isSome = true ∧ s.svc.drives.any (fun d => decide (d.1 = .slot n)) = false ∧ s.get F.SYS_SHOW_SHOW ≠ 0) ∧
    (∃ (s : State) (n : Fin 1024) (l : DriveLevel), s.firmwareUp = true ∧ s.svc.drives = [(.slot n, l)] ∧ s.get (F.SYS_CLAIM_OWNER n) = 0x1400 ∧ s.on I.DMS_LOW = s.on I.DMS_OUTER) ∧
    (∃ (s : State) (b : Ball) (name : String), s.firmwareUp = true ∧ ballName b = some name) ∧
    (∃ (s : State) (b : Ball) (name : String) (xs : List Bool), s.firmwareUp = true ∧ ballName b = some name ∧ 1 < xs.length ∧ xs.length ≤ 1000) ∧
    (∃ (s : State), s.firmwareUp = true ∧ s.get (F.U_STAT_RXST 0) ≠ 0 ∧ s.get (F.U_STAT_LINE_LVL 0) ≠ 0) :=
  ⟨⟨(W.st [(I.BOOT_PH,1)]), by decide +kernel⟩,
   ⟨(W.st [(I.BOOT_PH,1)]), by decide +kernel⟩,
   ⟨(W.st [(I.BOOT_PH,1)]), by decide +kernel⟩,
   ⟨(W.st [(I.BOOT_PH,1)]), by decide +kernel⟩,
   ⟨(W.st [(I.BOOT_PH,1)]), 460800, by decide +kernel⟩,
   ⟨(W.st [(I.BOOT_PH,1)]), 9600, by decide +kernel⟩,
   ⟨(W.st [(I.BOOT_PH,1),(I.SL_NEW,1),(I.SL_BAUD,460800)]), by decide +kernel⟩,
   ⟨(W.st [(I.BOOT_PH,1)]), by decide +kernel⟩,
   ⟨(W.st [(I.BOOT_PH,1)]), by decide +kernel⟩,
   ⟨(W.st [(I.BOOT_PH,1)]), by decide +kernel⟩,
   ⟨(W.st [(I.BOOT_PH,1)]), 2, 1, by decide +kernel⟩,
   ⟨(W.st [(I.BOOT_PH,1)]), by decide +kernel⟩,
   ⟨(W.st [(I.BOOT_PH,1),(F.TWN_STAT_SYNC,2)]), 0x50000, by decide +kernel⟩,
   ⟨(W.st [(I.BOOT_PH,1)]), 3, by decide +kernel⟩,
   ⟨(W.st [(I.BOOT_PH,1),(F.SYS_SHOW_SHOW,1)]), 3, by decide +kernel⟩,
   ⟨({ W.st [(I.BOOT_PH,1),(F.SYS_CLAIM_OWNER 3,0x1400)] with svc := { drives := [(.slot 3, .low)], out := [] } }), 3, .low, by decide +kernel⟩,
   ⟨(W.st [(I.BOOT_PH,1)]), (.slot 3), ("AP3_BCLK"), by decide +kernel⟩,
   ⟨(W.st [(I.BOOT_PH,1)]), (.free 9), ("DACCLR#"), ([true,false,false]), by decide +kernel⟩,
   ⟨(W.st [(I.BOOT_PH,1),(F.U_STAT_RXST 0,1),(F.U_STAT_LINE_LVL 0,1)]), by decide +kernel⟩⟩

/-- States and operands that meet the hypotheses of `Obligations.ServiceLinkTestsComplete`, clause by clause. -/
theorem test_witness_ServiceLinkTestsComplete :
    (∃ (s : State) (n : Fin 6), s.firmwareUp = true ∧ n ≠ 0 ∧ s.chainSession = false ∧ s.get (F.U_CTRL_STATE n) = unitOFF ∧ s.get (F.U_CTRL_EN n) = 0 ∧ s.get (F.SYS_CLAIM_OWNER (uartSlot n 0)) = 0 ∧ s.get (F.SYS_CLAIM_OWNER (uartSlot n 1)) = 0 ∧ s.uart n = Uart.reset) ∧
    (∃ (s : State) (n : Fin 6), s.firmwareUp = true ∧ n ≠ 0 ∧ s.chainSession = false ∧ s.get (F.U_CTRL_STATE n) ≠ unitOFF) ∧
    (∃ (s : State) (n : Fin 32), s.firmwareUp = true ∧ s.get (F.AP_CTRL_STATE n) = unitOFF ∧ s.get F.TWN_STAT_ROLE ≠ 2 ∧ s.get (F.SYS_CLAIM_OWNER (96 + n)) = 0 ∧ s.svc.drives = [] ∧ s.on I.DMS_LOW = s.on I.DMS_OUTER) ∧
    (∃ (s : State) (a : Fin 8) (b : Fin 8), s.firmwareUp = true ∧ s.get (F.AES_TXCTRL_STATE a) = unitOFF ∧ s.get (F.AES_TXCTRL_EN a) = 0 ∧ s.get (F.AES_RXCTRL_STATE b) = unitOFF ∧ s.get (F.AES_RXCTRL_EN b) = 0 ∧ s.get F.TWN_STAT_ROLE ≠ 2 ∧ s.multM = 1 ∧ s.get (F.AES_RXCFG_PATH b) = 0 ∧ s.get I.RATE_F = 0 ∧ s.get (F.SYS_CLAIM_OWNER (aesOutSlot a)) = 0 ∧ s.get (F.SYS_CLAIM_OWNER (aesInSlot b)) = 0) ∧
    (∃ (s : State) (a : Fin 8) (b : Fin 8) (ms : Nat), s.firmwareUp = true ∧ ms ≤ 50 ∧ s.get (F.AES_TXCTRL_STATE a) = unitOFF ∧ s.get (F.AES_TXCTRL_EN a) = 0 ∧ s.get (F.AES_RXCTRL_STATE b) = unitOFF ∧ s.get (F.AES_RXCTRL_EN b) = 0 ∧ s.get F.TWN_STAT_ROLE ≠ 2 ∧ s.multM = 1 ∧ s.get (F.AES_RXCFG_PATH b) = 0 ∧ s.get I.RATE_F = 0 ∧ s.get (F.SYS_CLAIM_OWNER (aesOutSlot a)) = 0 ∧ s.get (F.SYS_CLAIM_OWNER (aesInSlot b)) = 0) ∧
    (∃ (s : State) (n : Fin 16) (uv : Int) (span : Fin 4), s.firmwareUp = true ∧ s.get (F.DMS_STAT_RET n) = 0 ∧ s.get F.SYS_SHOW_SHOW = 0 ∧ s.get F.TWN_STAT_ROLE ≠ 2 ∧ s.get (F.DMS_CTRL_STATE n) = unitOFF ∧ s.get F.SYS_ENGINE_STATE = 0 ∧ 0 ≤ State.dsetCode span uv ∧ State.dsetCode span uv ≤ 0xFFFFFF) ∧
    (∃ (s : State) (n : Fin 16), s.firmwareUp = true ∧ s.get (I.DSET_ON n) ≠ 0 ∧ s.get (F.DMS_CODE_C n) ≠ s.get (I.DSET_CODE n)) ∧
    (∃ (s : State) (n : Fin 16), s.firmwareUp = true ∧ s.get (F.DMS_CTRL_STATE n) = unitON ∧ s.get (F.DMS_CTRL_EN n) ≠ 0) :=
  ⟨⟨(W.st [(I.BOOT_PH,1)]), 1, by decide +kernel⟩,
   ⟨(W.st [(I.BOOT_PH,1),(F.U_CTRL_STATE 1,2)]), 1, by decide +kernel⟩,
   ⟨(W.st [(I.BOOT_PH,1)]), 5, by decide +kernel⟩,
   ⟨(W.st [(I.BOOT_PH,1),(I.RATE_M,0),(I.RATE_F,0),(F.AES_RXCFG_PATH 2,0)]), 1, 2, by decide +kernel⟩,
   ⟨(W.st [(I.BOOT_PH,1),(I.RATE_M,0),(I.RATE_F,0),(F.AES_RXCFG_PATH 2,0)]), 1, 2, 7, by decide +kernel⟩,
   ⟨(W.st [(I.BOOT_PH,1)]), 3, 1000000, 1, by decide +kernel⟩,
   ⟨(W.st [(I.BOOT_PH,1),(I.DSET_ON 3,1),(F.DMS_CODE_C 3,7)]), 3, by decide +kernel⟩,
   ⟨(W.st [(I.BOOT_PH,1),(F.DMS_CTRL_STATE 3,2),(F.DMS_CTRL_EN 3,1)]), 3, by decide +kernel⟩⟩

/-- States and operands that meet the hypotheses of `Obligations.ServiceLinkReportsComplete`, clause by clause. -/
theorem test_witness_ServiceLinkReportsComplete :
    (∃ (s : State), s.firmwareUp = true) ∧
    (∃ (s : State), s.firmwareUp = true) ∧
    (∃ (s : State), s.firmwareUp = true) ∧
    (∃ (s : State) (k : Fin 257), s.firmwareUp = true ∧ k ≠ 0) ∧
    (∃ (s : State), s.firmwareUp = true) ∧
    (∃ (s : State), s.firmwareUp = true) ∧
    (∃ (s : State), s.firmwareUp = true ∧ s.get (F.PRT_VLOG_W 0 0) / 2 ^ 24 ≠ 0) ∧
    (∃ (s : State) (n : Nat), s.firmwareUp = true ∧ (n = 0x58 ∨ n = 0x59 ∨ n = 0x5B) ∧ s.isFrozen n = true) ∧
    (∃ (s : State), s.firmwareUp = true ∧ s.get F.CFG_SESS_SRC = 0) ∧
    (∃ (s : State) (ds : List (Fin 10)), s.firmwareUp = true ∧ s.get F.CFG_SESS_SRC ≠ 0 ∧ s.get I.CFG_LOCKO = 0 ∧ ds ≠ [] ∧ ds.length ≤ 8 ∧ s.ownerMatches (ds.map (fun d => d.val)) = true) ∧
    (∃ (s : State), s.firmwareUp = true ∧ s.get F.CFG_SESS_SRC = 0 ∧ s.get F.CFG_TRIAL_ACTIVE = 0 ∧ s.get F.CFG_CHAIN_EN = 0) ∧
    (∃ (s : State), s.firmwareUp = true ∧ s.holdsSession .steward = true ∧ s.get F.CFG_STAGE_BUSY = 0 ∧ s.get F.CFG_ACT_STATE = 0 ∧ s.get I.CH_HEAD = 0 ∧ s.get F.CFG_STAGE_STATE = 0) ∧
    (∃ (s : State), s.firmwareUp = true) ∧
    (∃ (s : State) (u : Nat), s.firmwareUp = true ∧ s.holdsSession .steward = true ∧ s.stagedSlot ≠ 0 ∧ s.stagedPair = false ∧ s.refusal = none ∧ s.get I.CH_HEAD = 0 ∧ s.frc + s.rateHz ≤ u ∧ u < 2 ^ 64) ∧
    (∃ (s : State), s.firmwareUp = true ∧ s.holdsSession .steward = true ∧ s.role = roleSOLO) ∧
    (∃ (s : State), s.firmwareUp = true ∧ s.holdsSession .steward = true ∧ s.get F.CFG_TRIAL_ACTIVE = 0) ∧
    (∃ (s : State) (k : Nat), s.firmwareUp = true ∧ s.holdsSession .steward = true ∧ s.get F.CFG_TRIAL_ACTIVE ≠ 0 ∧ s.get F.CFG_TRIAL_HEALTHY ≠ 0 ∧ s.pairHealthy = true ∧ s.get I.CH_HEAD = 0 ∧ s.bootSlot = k ∧ (k = 1 ∨ k = 2)) ∧
    (∃ (s : State), s.firmwareUp = true ∧ s.holdsSession .steward = true ∧ s.get F.CFG_STAGE_STATE ≠ 1 ∧ s.get F.CFG_STAGE_STATE ≠ 2 ∧ s.get F.CFG_ACT_STATE = 0) ∧
    (∃ (s : State), s.firmwareUp = true) ∧
    (∃ (s : State), s.firmwareUp = true ∧ s.refusal = none) ∧
    (∃ (s : State) (r : Nat), s.firmwareUp = true ∧ s.refusal = some r) :=
  ⟨⟨(W.st [(I.BOOT_PH,1)]), by decide +kernel⟩,
   ⟨(W.st [(I.BOOT_PH,1)]), by decide +kernel⟩,
   ⟨(W.st [(I.BOOT_PH,1)]), by decide +kernel⟩,
   ⟨(W.st [(I.BOOT_PH,1),(I.MDL_LOGN,2),(F.MDL_LOGHEAD_NEXT,2)]), 3, by decide +kernel⟩,
   ⟨(W.st [(I.BOOT_PH,1)]), by decide +kernel⟩,
   ⟨(W.st [(I.BOOT_PH,1)]), by decide +kernel⟩,
   ⟨(W.st [(I.BOOT_PH,1),(F.PRT_VLOG_W 0 0,0x03580000)]), by decide +kernel⟩,
   ⟨(W.st [(I.BOOT_PH,1),(F.PRT_FROZEN_M 2,0x2000000)]), 0x59, by decide +kernel⟩,
   ⟨(W.st [(I.BOOT_PH,1)]), by decide +kernel⟩,
   ⟨(W.st (W.ownd ++ [(F.CFG_SESS_SRC, 1),(I.BOOT_PH,1)])), ([1]), by decide +kernel⟩,
   ⟨(W.st [(I.BOOT_PH,1)]), by decide +kernel⟩,
   ⟨(W.ses ((I.BOOT_PH,1) :: [])), by decide +kernel⟩,
   ⟨(W.st [(I.BOOT_PH,1)]), by decide +kernel⟩,
   ⟨(W.ses ((I.BOOT_PH,1) :: [])), 200000, by decide +kernel⟩,
   ⟨(W.ses ((I.BOOT_PH,1) :: [(F.CFG_ACT_STATE,1)])), by decide +kernel⟩,
   ⟨(W.ses ((I.BOOT_PH,1) :: [])), by decide +kernel⟩,
   ⟨(W.ses ((I.BOOT_PH,1) :: [(F.CFG_TRIAL_ACTIVE,1),(F.CFG_TRIAL_HEALTHY,1),(I.BOOT_SLOT,2)])), 2, by decide +kernel⟩,
   ⟨(W.ses ((I.BOOT_PH,1) :: [(F.CFG_STAGE_STATE,3)])), by decide +kernel⟩,
   ⟨(W.st [(I.BOOT_PH,1)]), by decide +kernel⟩,
   ⟨(W.st [(I.BOOT_PH,1)]), by decide +kernel⟩,
   ⟨(W.st [(I.BOOT_PH,1),(F.SYS_SHOW_SHOW,1)]), 3, by decide +kernel⟩⟩

/-- States and operands that meet the hypotheses of `Obligations.PowerCommandsComplete`, clause by clause. -/
theorem test_witness_PowerCommandsComplete :
    (∃ (s : State), s.get I.PW_HOLD = 0) ∧
    (∃ (s : State), s.get I.PW_HOLD ≠ 0) ∧
    (∃ (s : State), s.get I.PW_HOLD = 0) ∧
    (∃ (s : State), s.holdEnds = true) ∧
    (∃ (s : State), s.get I.BOOT_PH = 0 ∧ s.bootSlot ≠ 0) ∧
    (∃ (s : State) (n : Nat), s.get I.BOOT_PH = 0 ∧ s.bootSlot = n ∧ (n = 1 ∨ n = 2)) ∧
    (∃ (s : State), s.get I.BOOT_PH = 0 ∧ s.bootSlot ≠ 0 ∧ s.get I.BOOT_DIG ≠ 0 ∧ s.get I.BOOT_U0 ≠ 0 ∧ s.get F.CLK_STAT_MODE ≠ clkACQUIRE ∧ s.get F.DMC_STAT_STATE ≠ unitSTARTING) ∧
    (∃ (s : State), s.get I.PW_HOLD = 0) ∧
    (∃ (s : State), s.performs .steward 0x64 = true ∧ s.get I.PW_HOLD = 0) ∧
    (∃ (s : State) (m : Master), m ≠ .steward ∧ s.performs m 0x64 = true) ∧
    (∃ (s : State) (held : Nat), s.get I.BOOT_PH = 0 ∧ s.get I.BOOT_U0 = 0 ∧ 100 ≤ held ∧ held ≤ 2000) ∧
    (∃ (s : State) (held : Nat), s.get I.BOOT_PH = 0 ∧ s.get I.BOOT_U0 = 0 ∧ 2000 < held) ∧
    (∃ (s : State), s.performs .steward 0x60 = true ∧ s.standbyReady = true ∧ s.get F.SYS_PWR_STATE = 1) ∧
    (∃ (s : State) (m : Master), s.performs m 0x60 = true ∧ s.standbyReady = false) ∧
    (∃ (s : State), s.get F.SYS_PWR_STATE = 2) ∧
    (∃ (s : State), s.get F.SYS_PWR_STATE = 3 ∧ s.get F.SYS_PWR_WSPI ≠ 0) ∧
    (∃ (s : State), s.get F.SYS_PWR_STATE = 2 ∧ s.get F.SYS_PWR_WPCIE ≠ 0) ∧
    (∃ (s : State), s.get F.SYS_PWR_STATE = 3 ∧ s.get F.SYS_PWR_WTIMER ≠ 0 ∧ s.get F.SYS_WAKET_T ≠ 0) ∧
    (∃ (s : State) (n : Fin 6), s.get F.SYS_PWR_STATE = 3 ∧ s.get (F.U_CTRL_WAKE n) ≠ 0 ∧ s.get (F.U_STAT_RXST n) = 0 ∧ s.uAccepts n = false) ∧
    (∃ (s : State) (n : Fin 6), s.get F.SYS_PWR_STATE = 3 ∧ s.get (F.U_CTRL_WAKE n) ≠ 0 ∧ s.uAccepts n = true ∧ s.get (F.U_CTRL_LOOP n) = 0 ∧ s.boundary = false ∧ ((∀ c ∈ s.tmActive, s.get (F.TMR_CAPCFG_CSRC c) ≠ 65 + n))) :=
  ⟨⟨(W.st [(F.VM_GRP0_EN 3,1),(I.PWRSRC,1)]), by decide +kernel⟩,
   ⟨(W.st [(I.PW_HOLD,1)]), by decide +kernel⟩,
   ⟨State.reset, by decide +kernel⟩,
   ⟨(W.st [(I.PW_HOLD,1)]), by decide +kernel⟩,
   ⟨(W.st [(I.BOOT_SLOT,1)]), by decide +kernel⟩,
   ⟨(W.st [(I.BOOT_SLOT,1)]), 1, by decide +kernel⟩,
   ⟨(W.st [(I.BOOT_SLOT,1),(I.BOOT_DIG,1),(I.BOOT_U0,1),(F.CLK_STAT_MODE,2),(I.BOOT_TRIAL,1)]), by decide +kernel⟩,
   ⟨State.reset, by decide +kernel⟩,
   ⟨State.reset, by decide +kernel⟩,
   ⟨State.reset, .pcie, by decide +kernel⟩,
   ⟨State.reset, 100, by decide +kernel⟩,
   ⟨State.reset, 2001, by decide +kernel⟩,
   ⟨State.reset, by decide +kernel⟩,
   ⟨(W.st [(F.TWN_STAT_ROLE,1)]), .steward, by decide +kernel⟩,
   ⟨(W.st [(F.SYS_PWR_STATE,2)]), by decide +kernel⟩,
   ⟨(W.st [(F.SYS_PWR_STATE,3),(F.SYS_PWR_WSPI,1)]), by decide +kernel⟩,
   ⟨(W.st [(F.SYS_PWR_STATE,2),(F.SYS_PWR_WPCIE,1)]), by decide +kernel⟩,
   ⟨(W.st [(F.SYS_PWR_STATE,3),(F.SYS_PWR_WTIMER,1),(F.SYS_WAKET_T,5)]), by decide +kernel⟩,
   ⟨(W.st [(F.SYS_PWR_STATE,3),(F.U_CTRL_WAKE 2,1)]), 2, by decide +kernel⟩,
   ⟨(W.st [(F.SYS_PWR_STATE,3),(F.U_CTRL_WAKE 2,1),(F.U_CTRL_STATE 2,2)]), 2, by decide +kernel⟩⟩

end Sys2Proof.Tests
end

section
/-! Circular addressing: what a post-modify through a circular pointer gives (R82, R84), and when a write of its length
or base is seen (R77, R85). -/

namespace Sys2Proof.Machine

/-! ### Folding into a buffer (R82, R84) -/

/-- A number that fits in `w` bits is not changed by `wrap`. -/
theorem wrap_of_bounds {w : Nat} {z : Int} (h0 : 0 ≤ z) (h1 : z < 2 ^ w) : (wrap w z : Int) = z := by
  rw [wrap, Int.emod_eq_of_lt h0 h1, Int.toNat_of_nonneg h0]

namespace Seen

theorem base_le_fold (x : Seen) {i : Nat} (hL : x.reg 2 i ≠ 0) (a : Int) : (x.reg 3 i : Int) ≤ x.fold i a :=
  le_add_of_nonneg_right (Int.emod_nonneg _ (Int.natCast_ne_zero.mpr hL))

theorem fold_lt_end (x : Seen) {i : Nat} (hL : x.reg 2 i ≠ 0) (a : Int) : x.fold i a < x.reg 3 i + x.reg 2 i :=
  Int.add_lt_add_left (Int.emod_lt_of_pos _ (Int.natCast_pos.mpr (Nat.pos_of_ne_zero hL))) _

/-- Folding moves a value by a multiple of the buffer's length. -/
theorem fold_sub_emod (x : Seen) (i : Nat) (a : Int) : (x.fold i a - a) % (x.reg 2 i : Int) = 0 := by
  have hsub : x.fold i a - a = (a - x.reg 3 i) % (x.reg 2 i : Int) - (a - x.reg 3 i) := by
    unfold fold
    omega
  rw [hsub]
  exact Int.emod_eq_zero_of_dvd Int.dvd_emod_sub_self

/-- A circular post-modify is the fold of the modified pointer, when the buffer lies in the address space. -/
theorem postmod_circular (x : Seen) {i : Nat} (j : Nat) (hL : x.reg 2 i ≠ 0) (hfit : x.reg 3 i + x.reg 2 i ≤ 2 ^ 32) :
    (x.postmod i j true : Int) = x.fold i (x.X i + sint 32 (x.reg 1 j)) := by
  have hlo := x.base_le_fold hL (x.X i + sint 32 (x.reg 1 j))
  have hhi := x.fold_lt_end hL (x.X i + sint 32 (x.reg 1 j))
  simp only [postmod, circ, hL, ne_eq, not_false_eq_true, decide_true, Bool.and_true, if_true]
  exact wrap_of_bounds (by omega) (by omega)

/-- With offset 0 the pointer is not folded. -/
theorem addr_zero (x : Seen) {i : Nat} (c : Bool) (hX : x.X i < 2 ^ 32) : x.addr i c 0 = x.X i := by
  have hw : (wrap 32 (x.X i) : Int) = x.X i := wrap_of_bounds (by omega) (by omega)
  simpa [addr] using hw

end Seen

/-- Settles O58: the post-modify is a fold, and a fold lies within the buffer. -/
theorem postModifyFoldsIntoTheBuffer : Obligations.PostModifyFoldsIntoTheBuffer := by
  unfold Obligations.PostModifyFoldsIntoTheBuffer
  intro x i j hL hfit
  have hpost := x.postmod_circular j hL hfit
  have hlo := x.base_le_fold hL (x.X i + sint 32 (x.reg 1 j))
  have hhi := x.fold_lt_end hL (x.X i + sint 32 (x.reg 1 j))
  refine ⟨by omega, by omega, ?_, x.addr_zero true⟩
  rw [hpost]
  exact x.fold_sub_emod i _

/-! ### The register file of a bank: puts, results that become visible, and going on -/

@[simp] theorem State.activeBank_withActive (c : Core) (b : Bank) : activeBank (withActive c b) = b := by
  cases h : c.shadow <;> simp [activeBank, withActive, h]

namespace Bank

@[simp] theorem rd_put_same (b : Bank) (k v : Nat) : (b.put k v).rd k = v := tabGet_set_same natLt _ _ _ _

theorem rd_put_ne (b : Bank) {k k' : Nat} (v : Nat) (h : k' ≠ k) : (b.put k v).rd k' = b.rd k' :=
  tabGet_set_ne natLt _ _ _ _ h

/-- Results for other registers leave a register alone. -/
theorem rd_foldl_put_ne {k : Nat} (l : List Pend) :
    ∀ b : Bank, (∀ p ∈ l, p.idx ≠ k) → (l.foldl (fun b p => b.put p.idx p.val) b).rd k = b.rd k := by
  induction l with
  | nil => exact fun b _ => rfl
  | cons p t ih =>
    intro b h
    rw [List.foldl_cons, ih _ (fun q hq => h q (by simp [hq])), rd_put_ne _ _ (h p (by simp)).symm]

/-- A register that no result due names reads as before. -/
theorem rd_settle_ne (b : Bank) {k : Nat} (h : ∀ p ∈ b.pend, p.due ≤ b.n → p.idx ≠ k) : b.settle.rd k = b.rd k := by
  have hready : ∀ p ∈ b.pend.filter (fun p => decide (p.due ≤ b.n)), p.idx ≠ k := fun p hp =>
    have hp := List.mem_filter.mp hp
    h p hp.1 (of_decide_eq_true hp.2)
  have hpart (q : Pend → Bool) (b' : Bank) := rd_foldl_put_ne _ b' (fun p hp =>
    hready p (List.mem_of_mem_filter (p := q) hp))
  exact (hpart _ _).trans (hpart _ b)

/-- An explicit result that is due, issued after every other, is what its register reads (R77). -/
theorem rd_settle_last (b : Bank) (l : List Pend) {d k v : Nat} (hp : b.pend = l ++ [⟨d, k, v, false⟩]) (hd : d ≤ b.n) :
    b.settle.rd k = v := by
  have hlast : ((b.pend.filter (fun p => decide (p.due ≤ b.n))).filter (fun p => !p.post)) =
      (l.filter (fun p => decide (p.due ≤ b.n))).filter (fun p => !p.post) ++ [⟨d, k, v, false⟩] := by
    simp [hp, hd]
  simp only [settle, rd, hlast, List.foldl_append, List.foldl_cons, List.foldl_nil]
  exact rd_put_same _ k v

/-- The next PC keeps what is in flight, the instruction count and every register below those of the loops. -/
theorem seqNext_keeps (b : Bank) (m : Nat) :
    (b.seqNext m).pend = b.pend ∧ (b.seqNext m).n = b.n ∧ ∀ k < ixLC 0, (b.seqNext m).rd k = b.rd k := by
  have hcount (v w k : Nat) (hk : k < ixLC 0) : (b.put (ixLC v) w).rd k = b.rd k :=
    rd_put_ne b w (by unfold ixLC at *; omega)
  unfold seqNext
  dsimp only
  split
  · split
    · exact ⟨rfl, rfl, hcount _ _⟩
    · exact ⟨rfl, rfl, fun _ _ => rfl⟩
  · exact ⟨rfl, rfl, fun _ _ => rfl⟩

/-- So does going on, with or without delay slots. -/
theorem advance_keeps (b : Bank) (m : Nat) :
    (b.advance m).pend = b.pend ∧ (b.advance m).n = b.n ∧ ∀ k < ixLC 0, (b.advance m).rd k = b.rd k := by
  unfold advance
  dsimp only
  split
  · exact seqNext_keeps b m
  · split
    · exact ⟨rfl, rfl, fun _ _ => rfl⟩
    · exact seqNext_keeps _ m

/-- A bank whose instruction leaves one result behind, before it goes on. -/
def leaves (b : Bank) (w : Wr) : Bank :=
  { b with pend := b.pend ++ [⟨b.n + w.lat, w.idx, w.val, false⟩], load := none, n := b.n + 1 }

@[simp] theorem leaves_pend (b : Bank) (w : Wr) :
    (b.leaves w).pend = b.pend ++ [⟨b.n + w.lat, w.idx, w.val, false⟩] := rfl
@[simp] theorem leaves_n (b : Bank) (w : Wr) : (b.leaves w).n = b.n + 1 := rfl
@[simp] theorem leaves_rd (b : Bank) (w : Wr) (k : Nat) : (b.leaves w).rd k = b.rd k := rfl

end Bank

/-! ### One explicit result (R77) -/

namespace State

/-- An instruction sees its bank with every result due. -/
theorem seen_b (s : State) (n : Nat) (i : CoreWord) : (s.seen n i).b = (s.liveBank n).settle :=
  activeBank_withActive _ _

/-- The bank after an instruction whose only effect is one result. -/
theorem activeBank_coreAfter (x : Seen) (w : Wr) :
    activeBank (coreAfter x { Eff.none with wr := [w] }) = (x.b.leaves w).advance (pcMod x.n) := by
  cases hs : x.c.shadow <;> simp [activeBank, coreAfter, withActive, hs, Eff.none, Bank.leaves]

/-- Issued at an issue slot, such an instruction leaves its result in the live bank, which goes on. -/
theorem liveBank_issue_result {s : State} {n : Nat} (h : s.ready n = true) {i : CoreWord} {f : Seen → Act} {w : Wr}
    (hf : f (s.seen n i) = results [w]) :
    (s.issue n i f).liveBank n = ((s.seen n i).b.leaves w).advance (pcMod n) := by
  rw [issue_go h hf, commit_core _ _ rfl rfl rfl, liveBank, seen_n]
  simp only [Eff.none, id, core_setCore_same]
  exact activeBank_coreAfter _ w

/-- The next instruction reads a register as this one did, when no result in flight is for it and the result left is not
visible yet. -/
theorem rd_seen_issue_result {s : State} {n : Nat} (h : s.ready n = true) {i : CoreWord} {f : Seen → Act} {w : Wr}
    (hf : f (s.seen n i) = results [w]) (hlat : 2 ≤ w.lat) {k : Nat} (hk : k < ixLC 0)
    (hpend : ∀ p ∈ (s.seen n i).b.pend, p.idx ≠ k) (j : CoreWord) :
    ((s.issue n i f).seen n j).b.rd k = (s.seen n i).b.rd k := by
  obtain ⟨hflight, hn, hrd⟩ := ((s.seen n i).b.leaves w).advance_keeps (pcMod n)
  rw [seen_b, liveBank_issue_result h hf, Bank.rd_settle_ne, hrd k hk, Bank.leaves_rd]
  intro p hp hdue
  rw [hflight, Bank.leaves_pend, List.mem_append, List.mem_singleton] at hp
  rw [hn, Bank.leaves_n] at hdue
  rcases hp with hp | rfl
  · exact hpend p hp
  · dsimp only at hdue
    omega

/-- The second following instruction reads a result of latency 2. -/
theorem readIn_one_issue_result {s : State} {n : Nat} (h : s.ready n = true) {i : CoreWord} {f : Seen → Act} {w : Wr}
    (hf : f (s.seen n i) = results [w]) (hlat : w.lat = 2) :
    ((s.issue n i f).liveBank n).readIn 1 w.idx = w.val := by
  obtain ⟨hflight, hn, -⟩ := ((s.seen n i).b.leaves w).advance_keeps (pcMod n)
  rw [liveBank_issue_result h hf]
  exact Bank.rd_settle_last _ _ hflight (by simp [hn, hlat])

end State

/-- A result of latency 2 for a circular register misses the next instruction's address generation and reaches that of
the second (R85). -/
theorem circular_register_write_is_seen_second {s : State} {n g r v : Nat} {i : CoreWord} {f : Seen → Act}
    (hready : s.ready n = true) (hg : g = 2 ∨ g = 3) (hr : r < 16)
    (hpend : ∀ p ∈ (s.seen n i).b.pend, p.idx ≠ ixReg 2 r ∧ p.idx ≠ ixReg 3 r)
    (hf : f (s.seen n i) = results [⟨2, ixReg g r, v⟩]) :
    (∀ j : CoreWord, ((s.issue n i f).seen n j).reg g r = (s.seen n i).reg g r) ∧
    (∀ (j : CoreWord) (a : Nat), ((s.issue n i f).seen n j).fold r a = (s.seen n i).fold r a) ∧
    ((s.issue n i f).liveBank n).readIn 1 (ixReg g r) = v := by
  have hlen : ∀ j : CoreWord, ((s.issue n i f).seen n j).reg 2 r = (s.seen n i).reg 2 r :=
    State.rd_seen_issue_result hready hf le_rfl (by simp [ixReg, ixLC]; omega) (fun p hp => (hpend p hp).1)
  have hbase : ∀ j : CoreWord, ((s.issue n i f).seen n j).reg 3 r = (s.seen n i).reg 3 r :=
    State.rd_seen_issue_result hready hf le_rfl (by simp [ixReg, ixLC]; omega) (fun p hp => (hpend p hp).2)
  refine ⟨?_, fun j a => ?_, State.readIn_one_issue_result hready hf rfl⟩
  · rcases hg with rfl | rfl
    · exact hlen
    · exact hbase
  · rw [Seen.fold, hlen, hbase, ← Seen.fold]

namespace Seen

/-- The issuing core is the steward (R148). -/
theorem stw_seen (s : State) (c : CoreSel) (i : CoreWord) : (s.seen (CoreSel.ix c) i).stw = decide (c = .steward) := by
  cases c with
  | ec n => simp [stw, CoreSel.ix, n.isLt.ne]
  | steward => rfl

/-- LDI with an address register as its destination (R126). -/
theorem opLdi_reg {x : Seen} (h : x.subb 2 = true) :
    x.opLdi = results (x.regWr 2 (x.subf 1 0) (x.i.vd % 16) x.imm) := by
  simp [opLdi, h]

/-- AMOVX into an address register, without a parallel move (R126). -/
theorem opAmovx_reg {x : Seen} (hcls : x.subf 2 0 < 5) (hflg : x.i.flg = true) (hmv : x.mvf 31 30 = 0) :
    x.opAmovx = results (x.regWr 2 (x.subf 2 0) (x.i.vb % 16) (x.va (x.rlane (x.subf 4 3)))) := by
  simp [opAmovx, Nat.not_le.mpr hcls, hflg, compute, move, hmv, results]

end Seen

/-- Settles O59: each of the three is an instruction whose only effect is one result of latency 2. -/
theorem circularRegistersChangeForTheSecondInstruction :
    Obligations.CircularRegistersChangeForTheSecondInstruction := by
  unfold Obligations.CircularRegistersChangeForTheSecondInstruction
  rintro s c i _ _ g r rfl rfl hready hg hpend
  have hpend : ∀ p ∈ (s.seen (CoreSel.ix c) i).b.pend, p.idx ≠ ixReg 2 r ∧ p.idx ≠ ixReg 3 r := by
    simpa using hpend
  refine ⟨?_, ?_, ?_⟩
  · intro hreg hcls hvd
    refine ⟨_, rfl, circular_register_write_is_seen_second hready hg (by omega) hpend ?_⟩
    rw [Seen.opLdi_reg (x := s.seen _ i) hreg, ← hcls, ← hvd]
    rfl
  · intro hcls hvd
    refine ⟨_, rfl, circular_register_write_is_seen_second hready hg (by omega) hpend ?_⟩
    rw [← hcls, ← hvd]
    rfl
  · intro _ hmv hcls hflg hvb
    refine ⟨_, rfl, circular_register_write_is_seen_second hready hg (by omega) hpend ?_⟩
    have hlt : (s.seen (CoreSel.ix c) i).subf 2 0 < 5 := by
      change natBits i.sub.toNat 2 0 < 5
      omega
    rw [Seen.opAmovx_reg hlt hflg hmv, Seen.rlane, Seen.stw_seen, ← hcls, ← hvb]
    simp only [decide_eq_true_eq]
    rfl

end Sys2Proof.Machine
end

section
/-! NOTE_OFF: what the voice manager does with the word, and the slots that it reaches (R178, R194, R195). -/

namespace Sys2Proof.Machine

/-- A write of one key keeps the entries that a filter takes from the other keys, and their order. -/
theorem filter_tabSet {K V : Type} [DecidableEq K] [DecidableEq V] (lt : K → K → Bool) (d : V) (m : List (K × V))
    {k : K} (v : V) {p : K × V → Bool} (hp : ∀ x, p (k, x) = false) : (tabSet lt d m k v).filter p = m.filter p := by
  have hdel : (tabDel k m).filter p = m.filter p := by
    rw [tabDel, List.filter_filter]
    refine List.filter_congr fun e _ => ?_
    by_cases he : e.1 = k
    · have hpe : p e = false := by simpa [← he] using hp e.2
      simp [hpe]
    · simp [he]
  have hins : ∀ l : List (K × V), (tabIns lt k v l).filter p = l.filter p := by
    intro l
    induction l with
    | nil => simp [tabIns, hp]
    | cons e t ih =>
      by_cases hl : lt k e.1
      · simp [tabIns, hl, hp]
      · simp [tabIns, hl, List.filter_cons, ih]
  unfold tabSet
  split
  · exact hdel
  · rw [hins, hdel]

namespace State

/-! ### Slots that a word addresses (R178) -/

/-- Slot `k` sounds for the group and note ID that the word names, and its note is not detached (R178). -/
def SlotAddressed (s : State) (w k : Nat) : Prop :=
  s.get (F.VT0_GROUP k) = vwGroup w ∧ s.get (F.VT0_NOTE k) = vwNote w ∧ s.slotPlaying k = true ∧ s.get (F.VT0_DET k) = 0

/-- It is neither IDLE nor FADING. -/
theorem SlotAddressed.state_ne {s : State} {w k : Nat} (h : s.SlotAddressed w k) :
    s.get (F.VT0_STATE k) ≠ 0 ∧ s.get (F.VT0_STATE k) ≠ 4 := by
  obtain ⟨_, _, hplays, _⟩ := h
  rw [slotPlaying, Bool.and_eq_true, decide_eq_true_eq, decide_eq_true_eq, slotState] at hplays
  omega

/-- A slot of another group or note, IDLE, FADING or detached is not addressed (R194, R195). -/
theorem not_slotAddressed {s : State} {w k : Nat}
    (h : s.get (F.VT0_GROUP k) ≠ vwGroup w ∨ s.get (F.VT0_NOTE k) ≠ vwNote w ∨ s.get (F.VT0_STATE k) = 0 ∨
      s.get (F.VT0_STATE k) = 4 ∨ s.get (F.VT0_DET k) ≠ 0) : ¬ s.SlotAddressed w k := by
  intro haddr
  have ⟨hidle, hfading⟩ := haddr.state_ne
  obtain ⟨hgroup, hnote, _, hdet⟩ := haddr
  rcases h with h | h | h | h | h <;> contradiction

theorem mem_noteSlots {s : State} {num k : Nat} : k ∈ s.noteSlots num ↔ k ∈ s.busySlots ∧ s.get (I.VT_NUM k) = num := by
  simp [noteSlots]

/-- Every slot of the note that a word names is one that the word addresses. -/
theorem slotAddressed_of_mem {s : State} {w num k : Nat} (h : s.addressed (vwGroup w) (vwNote w) = some num)
    (hk : k ∈ s.noteSlots num) : s.SlotAddressed w k := by
  have hfound := List.find?_some h
  simp only [noteAddressable, noteLive, Bool.and_eq_true, List.all_eq_true, decide_eq_true_eq] at hfound
  obtain ⟨⟨hlive, hdet⟩, hname⟩ := hfound
  exact ⟨(hname k hk).1, (hname k hk).2, hlive k hk, by simpa [on] using hdet k hk⟩

/-- That note has a slot. -/
theorem exists_mem_noteSlots {s : State} {g id num : Nat} (h : s.addressed g id = some num) : ∃ k, k ∈ s.noteSlots num := by
  have hnote := List.mem_of_find?_eq_some h
  simp only [notes, List.mem_eraseDups, List.mem_map] at hnote
  obtain ⟨k, hbusy, hnum⟩ := hnote
  exact ⟨k, mem_noteSlots.mpr ⟨hbusy, hnum⟩⟩

/-- With no slot addressed, the word names no note. -/
theorem addressed_eq_none {s : State} {w : Nat} (h : ∀ k, ¬ s.SlotAddressed w k) :
    s.addressed (vwGroup w) (vwNote w) = none := by
  rw [Option.eq_none_iff_forall_ne_some]
  intro num hnum
  obtain ⟨k, hk⟩ := exists_mem_noteSlots hnum
  exact h k (slotAddressed_of_mem hnum hk)

/-! ### Attaching keeps the slot table (R183) -/

/-- A write of a field other than a slot's state leaves the same slots busy. -/
theorem busySlots_set_other (s : State) {f : Fld} (v : Nat) (h : f.id ≠ (F.VT0_STATE 0).id) :
    (s.set f v).busySlots = s.busySlots := by
  unfold busySlots
  exact congrArg _ (filter_tabSet keyLt _ _ _ fun x => by simp [h])

@[simp] theorem busySlots_notify (s : State) (n : Nat) (b : Bool) : (s.notify n b).busySlots = s.busySlots := by
  unfold notify
  split <;> rfl

/-- The event of a full attach store raised: no note's slots change. -/
theorem noteSlots_raise_51 (s : State) (num : Nat) : (s.raise 51).noteSlots num = s.noteSlots num := by
  have hbusy : (s.raise 51).busySlots = s.busySlots :=
    (busySlots_notify _ _ _).trans (s.busySlots_set_other _ (by decide))
  have hnum (k : Nat) : (s.raise 51).get (I.VT_NUM k) = s.get (I.VT_NUM k) := get_raise_other s 51 rfl rfl
  simp only [noteSlots, hbusy, hnum]

theorem raise_vm (s : State) (n : Nat) : (s.raise n).vm = s.vm := by
  unfold raise raiseBits notify
  split
  · split
    · split <;> rfl
    · rfl
  · rfl

@[simp] theorem noteSlots_attach (s : State) (k w num : Nat) : (s.attach k w).noteSlots num = s.noteSlots num := by
  unfold attach
  dsimp only
  split
  · exact noteSlots_raise_51 _ num
  · rfl

theorem get_attach_other (s : State) (k w : Nat) {f : Fld} (h : (f.id == F.VM_EVT_EVT.id) = false) :
    (s.attach k w).get f = s.get f := by
  unfold attach
  dsimp only
  split
  · exact get_raise_other _ 51 rfl h
  · rfl

theorem attach_vm_attach (s : State) (k w : Nat) :
    (s.attach k w).vm.attach = s.vm.attach ++ [{ slot := k, blk := s.handledBlk, word := w }] := by
  unfold attach
  dsimp only
  split
  · rw [raise_vm]
  · rfl

@[simp] theorem noteSlots_attachNote (s : State) (n w num : Nat) : (s.attachNote n w).noteSlots num = s.noteSlots num := by
  unfold attachNote
  generalize s.noteSlots n = l
  induction l generalizing s with
  | nil => rfl
  | cons k l ih => rw [List.foldl_cons, ih, noteSlots_attach]

theorem get_attachNote_other (s : State) (num w : Nat) {f : Fld} (h : (f.id == F.VM_EVT_EVT.id) = false) :
    (s.attachNote num w).get f = s.get f :=
  get_foldl_keep _ (fun t k _ => get_attach_other t k w h) s

/-- An event attached to a note is attached to the note's slots. -/
theorem mem_attachNote {s : State} {num w : Nat} {a : Attach} (h : a ∈ (s.attachNote num w).vm.attach) :
    a ∈ s.vm.attach ∨ a.slot ∈ s.noteSlots num := by
  unfold attachNote at h
  generalize s.noteSlots num = l at h ⊢
  induction l generalizing s with
  | nil => exact .inl h
  | cons k l ih =>
    rcases ih h with hold | hnew
    · rw [attach_vm_attach, List.mem_append, List.mem_singleton] at hold
      rcases hold with hold | rfl
      · exact .inl hold
      · exact .inr List.mem_cons_self
    · exact .inr (List.mem_cons_of_mem _ hnew)

/-- A note's change of state writes the states of its slots only. -/
theorem onlyRegs_setNote (s : State) (num st : Nat) :
    s.OnlyRegs (s.setNote num st) ((s.noteSlots num).map F.VT0_STATE) :=
  OnlyRegs.thenFold _ (fun _ _ hk ht => ht.thenSet (List.mem_map_of_mem hk) st) (OnlyRegs.refl s _)

theorem setNote_vm (s : State) (num st : Nat) : (s.setNote num st).vm = s.vm := by
  rw [(s.onlyRegs_setNote num st).1]

theorem get_setNote_of_not_mem (s : State) {num k : Nat} (st : Nat) (hk : k ∉ s.noteSlots num) :
    (s.setNote num st).get (F.VT0_STATE k) = s.get (F.VT0_STATE k) :=
  (s.onlyRegs_setNote num st).2 _ (by simpa [F.VT0_STATE] using hk)

/-- A field of a register place that a change does not list reads as before. -/
theorem OnlyRegsEv.get_other {s t : State} {fs : List Fld} (h : s.OnlyRegsEv t fs) {f : Fld}
    (hf : fs.any (fun g => f.id == g.id) = false) : t.get f = s.get f := by
  refine h.2 f fun hmem => ?_
  obtain ⟨g, hg, he⟩ := List.mem_map.mp hmem
  have hid : g.id = f.id := congrArg Prod.fst he
  exact absurd hid.symm (by simpa using List.any_eq_false.mp hf g hg)

/-! ### The NOTE_OFF itself -/

/-- An orphan changes the count of orphans and the voice manager's event causes only. -/
theorem onlyRegsEv_orphan (s : State) : s.OnlyRegsEv s.orphan [F.VM_ORPHANS_N, F.VM_EVT_EVT] :=
  ((OnlyRegsEv.refl s _).thenSet List.mem_cons_self _).thenRaise (n := 50) rfl (by simp)

theorem orphan_vm (s : State) : s.orphan.vm = s.vm := by
  rw [s.onlyRegsEv_orphan.1]

theorem get_orphan_count (s : State) : s.orphan.get F.VM_ORPHANS_N = min (s.get F.VM_ORPHANS_N + 1) (2 ^ 32 - 1) :=
  (get_raise_other _ 50 rfl rfl).trans (s.get_bump_same _ _)

theorem noteOff_eq_orphan {s : State} {w : Nat} (h : s.addressed (vwGroup w) (vwNote w) = none) : s.noteOff w = s.orphan := by
  rw [noteOff, h]

/-- What a NOTE_OFF can do: count an orphan, or act on the note it names, which is held or released when it is ON. -/
theorem noteOff_cases (s : State) (w : Nat) :
    (s.addressed (vwGroup w) (vwNote w) = none ∧ s.noteOff w = s.orphan) ∨
    ∃ num, s.addressed (vwGroup w) (vwNote w) = some num ∧
      (s.noteOff w = s ∨ s.noteOff w = s.setNote num 2 ∨ s.noteOff w = (s.attachNote num w).setNote num 3) := by
  rcases h : s.addressed (vwGroup w) (vwNote w) with _ | num
  · exact .inl ⟨rfl, noteOff_eq_orphan h⟩
  · refine .inr ⟨num, rfl, ?_⟩
    rw [noteOff, h]
    dsimp only
    split
    · split
      · exact .inr (.inl rfl)
      · exact .inr (.inr rfl)
    · exact .inl rfl

/-- A NOTE_OFF leaves the state of every slot that it does not address. -/
theorem get_noteOff_of_not_addressed {s : State} {w k : Nat} (hk : ¬ s.SlotAddressed w k) :
    (s.noteOff w).get (F.VT0_STATE k) = s.get (F.VT0_STATE k) := by
  rcases s.noteOff_cases w with ⟨_, hoff⟩ | ⟨num, hnum, hoff⟩
  · rw [hoff, s.onlyRegsEv_orphan.get_other rfl]
  · have hmem : k ∉ s.noteSlots num := fun h => hk (slotAddressed_of_mem hnum h)
    rcases hoff with hoff | hoff | hoff <;> rw [hoff]
    · exact get_setNote_of_not_mem s 2 hmem
    · rw [get_setNote_of_not_mem _ 3 (by simpa using hmem), get_attachNote_other _ _ _ rfl]

/-- What a NOTE_OFF attaches, it attaches to slots that it addresses. -/
theorem mem_noteOff_attach {s : State} {w : Nat} {a : Attach} (ha : a ∈ (s.noteOff w).vm.attach) :
    a ∈ s.vm.attach ∨ s.SlotAddressed w a.slot := by
  rcases s.noteOff_cases w with ⟨_, hoff⟩ | ⟨num, hnum, hoff⟩
  · rw [hoff, orphan_vm] at ha
    exact .inl ha
  · rcases hoff with hoff | hoff | hoff <;> rw [hoff] at ha
    · exact .inl ha
    · rw [setNote_vm] at ha
      exact .inl ha
    · rw [setNote_vm] at ha
      exact (mem_attachNote ha).imp_right (slotAddressed_of_mem hnum)

/-! ### The word taken (R181, R183) -/

/-- What is left to do when a word of group `g` has been handled: the group waits no more, the queue's count is brought up
to date. -/
def wordDone (s : State) (g : Nat) : State := (s.set (I.VM_BLK g) 0).syncUsed

/-- It changes the group's wait and the counts and event causes of the event queue only. -/
theorem onlyRegsEv_wordDone (s : State) (g : Nat) :
    s.OnlyRegsEv (s.wordDone g) [I.VM_BLK g, F.QN_EVQ_USED, F.QN_MAXQ_N, F.QN_EVT_EVT] := by
  have hset (used most : Nat) : s.OnlyRegsEv
      (((s.set (I.VM_BLK g) 0).set F.QN_EVQ_USED used).set F.QN_MAXQ_N most)
      [I.VM_BLK g, F.QN_EVQ_USED, F.QN_MAXQ_N, F.QN_EVT_EVT] :=
    (((OnlyRegsEv.refl s _).thenSet (by simp) _).thenSet (by simp) _).thenSet (by simp) _
  unfold wordDone syncUsed
  dsimp only
  split
  · exact (hset _ _).thenRaise (n := 40) rfl (by simp)
  · exact hset _ _

theorem wordDone_vm (s : State) (g : Nat) : (s.wordDone g).vm = s.vm := by
  rw [(s.onlyRegsEv_wordDone g).1]

/-- A word is taken only while the attach store has room (R183). -/
theorem attach_lt_of_nextWord {s : State} {v : VWord} (h : s.nextWord = some v) : s.vm.attach.length < 8192 := by
  by_contra hfull
  simp [nextWord, Nat.le_of_not_lt hfull] at h

/-- The parts of `takesNow`. -/
theorem takesNow_iff {s : State} {type src w : Nat} {v : VWord} :
    s.takesNow type src w v = true ↔ s.nextWord = some v ∧ v.wait = none ∧ v.word = w ∧ v.src = src ∧ vwType w = type ∧
      s.get F.VM_STAT_STATE = unitON ∧ s.on (F.VM_GRP0_EN (vwGroup w)) = true := by
  simp [takesNow, and_assoc]

/-- A NOTE_OFF that is taken: it is handled with its queue entry freed, unless the attach store cannot hold its events. -/
theorem exec_noteOff_of_takesNow {s : State} {src : BitVec 8} {w : Quad} {v : VWord}
    (h : s.takesNow 2 src.toNat w.toNat v = true) :
    exec (.noteOff src w) s = .next
      (if 8192 < ((s.setWaiting (s.vm.words.erase v)).noteOff w.toNat).vm.attach.length then s
        else ((s.setWaiting (s.vm.words.erase v)).noteOff w.toNat).wordDone (vwGroup w.toNat)) := by
  obtain ⟨hnext, hwait, hword, hsrc, htype, hon, hen⟩ := takesNow_iff.mp h
  have hhandled : (s.setWaiting (s.vm.words.erase v)).handleWord w.toNat v.src (s.wordSample v) =
      .done ((s.setWaiting (s.vm.words.erase v)).noteOff w.toNat) := by
    have hon' : (s.setWaiting (s.vm.words.erase v)).get F.VM_STAT_STATE = unitON := hon
    have hen' : (s.setWaiting (s.vm.words.erase v)).on (F.VM_GRP0_EN (vwGroup w.toNat)) = true := hen
    simp [handleWord, hon', hen', htype]
  have htake : exec (.noteOff src w) s = .next (s.handled v false) := by
    have harm : exec (.noteOff src w) s = .next (s.takeNamed 2 src.toNat w.toNat) := rfl
    simp [harm, takeNamed, hnext, hword, hsrc, htype, takeWord]
  rw [htake, handled, hword]
  dsimp only
  rw [hhandled]
  simp only [hwait, Option.isSome_none, Bool.false_and, Bool.false_eq_true, if_false]
  rfl

end State

/-- Settles O60: a NOTE_OFF acts on the note that `addressed` finds, all of whose slots it addresses, and is an orphan where
none is found. -/
theorem noteOffReachesOnlyItsAddressableNote : Obligations.NoteOffReachesOnlyItsAddressableNote := by
  unfold Obligations.NoteOffReachesOnlyItsAddressableNote
  intro s src w v htakes
  have hexec := State.exec_noteOff_of_takesNow htakes
  set free := s.setWaiting (s.vm.words.erase v)
  refine ⟨fun hnone => ?_, ?_⟩
  · have horphan : free.noteOff w.toNat = free.orphan :=
      State.noteOff_eq_orphan (State.addressed_eq_none fun k haddr =>
        State.not_slotAddressed (.inr (.inr (hnone k haddr.1 haddr.2.1))) haddr)
    have hroom : ¬ 8192 < free.orphan.vm.attach.length := by
      rw [State.orphan_vm]
      exact (State.attach_lt_of_nextWord (State.takesNow_iff.mp htakes).1).le.not_gt
    rw [horphan, if_neg hroom] at hexec
    have hdone := free.orphan.onlyRegsEv_wordDone (State.vwGroup w.toNat)
    have hcounted := free.onlyRegsEv_orphan
    refine ⟨_, hexec, (hdone.get_other rfl).trans free.get_orphan_count, fun k => ⟨?_, ?_⟩, ?_, ?_⟩
    · exact (hdone.get_other rfl).trans (hcounted.get_other rfl)
    · exact (hdone.get_other rfl).trans (hcounted.get_other rfl)
    · rw [State.wordDone_vm, State.orphan_vm]; rfl
    · rw [State.wordDone_vm, State.orphan_vm]; rfl
  · refine ⟨_, hexec, fun k hk => ?_, fun a ha => ?_⟩
    · split
      · rfl
      · calc ((free.noteOff w.toNat).wordDone (State.vwGroup w.toNat)).get (F.VT0_STATE k)
          _ = (free.noteOff w.toNat).get (F.VT0_STATE k) := (State.onlyRegsEv_wordDone _ _).get_other rfl
          _ = free.get (F.VT0_STATE k) := State.get_noteOff_of_not_addressed (State.not_slotAddressed hk)
    · split at ha
      · exact .inl ha
      · rw [State.wordDone_vm] at ha
        exact (State.mem_noteOff_attach ha).imp_right fun haddr => ⟨haddr.1, haddr.2.1, haddr.state_ne⟩

end Sys2Proof.Machine
end

section
/-! The queue of commands, and the state after reset (R62, log entries 3, 138). -/

namespace Sys2Proof.Machine

/-- Settles O1: with a command in front, `step` is that command on the queue's rest. -/
theorem stepRunsTheFrontCommand : Obligations.StepRunsTheFrontCommand := by
  unfold Obligations.StepRunsTheFrontCommand
  intro s c rest hpending
  rw [step, hpending]

/-- Settles O56: nothing is listed in either memory at reset. -/
theorem resetMemoriesAreInForm : Obligations.ResetMemoriesAreInForm :=
  ⟨memory_wf_nil, memory_wf_nil⟩

/-- Settles O55: the register words by evaluation; every core but the steward is unlisted, so as `Core.reset` has it. -/
theorem resetHoldsTheSpecsValues : Obligations.ResetHoldsTheSpecsValues := by
  unfold Obligations.ResetHoldsTheSpecsValues
  have hcore (n : Fin 64) : State.reset.core n = Core.reset := by
    have hne : (64 : Nat) ≠ n := by omega
    simp [State.core, State.reset, tabGet, hne]
  refine ⟨by decide +kernel, rfl, fun n => ?_⟩
  rw [hcore]
  exact ⟨rfl, rfl⟩

end Sys2Proof.Machine
end

section
/-! The addressed memories: every command keeps the canonical form of both (log entry 3). -/

namespace Sys2Proof.Machine

/-- Every command that answers a next state keeps Orchard and external memory in form: it leaves them alone (`_mems`), or
writes them in form (`_ok`). -/
theorem exec_keeps_memsOk (i : Instr) {s t : State} (h : memsOk s.mems) (ht : exec i s = .next t) : memsOk t.mems := by
  cases i with
  | registerWrite => exact execRegisterWrite_ok _ _ _ s h t ht
  | readClear => exact memsOk_of (execReadClear_mems _ _ s t ht) h
  | latchingRead => exact memsOk_of (execLatchingRead_mems _ _ s t ht) h
  | stageWordWrite => exact execStageWordWrite_ok _ _ _ s h t ht
  | claimTake => exact memsOk_of (execClaimTake_mems _ _ s t ht) h
  | claimDrop => exact memsOk_of (execClaimDrop_mems _ _ s t ht) h
  | evrouteWrite => exact memsOk_of (execEvrouteWrite_mems _ _ _ s t ht) h
  | unitEventDeliver => exact memsOk_of (execUnitEventDeliver_mems _ s t ht) h
  | engineRunRequest => exact memsOk_of (execEngineRunRequest_mems _ _ s t ht) h
  | engineStopRequest => exact memsOk_of (execEngineStopRequest_mems _ _ s t ht) h
  | engineStartTarget => exact memsOk_of (execEngineStartTarget_mems s t ht) h
  | engineFirstDispatch => exact memsOk_of (execEngineFirstDispatch_mems s t ht) h
  | engineStopTarget => exact memsOk_of (execEngineStopTarget_mems s t ht) h
  | engineStopped => exact memsOk_of (execEngineStopped_mems s t ht) h
  | rateWrite => exact memsOk_of (execRateWrite_mems _ _ s t ht) h
  | rateChangeApply => exact memsOk_of (execRateChangeApply_mems s t ht) h
  | blockTick => exact execBlockTick_ok s h t ht
  | deadlineCheck => exact execDeadlineCheck_ok s h t ht
  | refQualificationGate => exact memsOk_of (execRefQualificationGate_mems _ _ s t ht) h
  | refGlitch => exact memsOk_of (execRefGlitch_mems s t ht) h
  | refStop => exact memsOk_of (execRefStop_mems _ s t ht) h
  | holdoverTimeout => exact memsOk_of (execHoldoverTimeout_mems s t ht) h
  | pullInComplete => exact memsOk_of (execPullInComplete_mems s t ht) h
  | revertTimeout => exact memsOk_of (execRevertTimeout_mems _ s t ht) h
  | refpriWrite => exact memsOk_of (execRefpriWrite_mems _ _ _ s t ht) h
  | reacq => exact memsOk_of (execReacq_mems _ _ s t ht) h
  | acquireLock => exact memsOk_of (execAcquireLock_mems s t ht) h
  | freerunTimeout => exact memsOk_of (execFreerunTimeout_mems s t ht) h
  | mclkoEnable => exact memsOk_of (execMclkoEnable_mems _ _ s t ht) h
  | mclkoDisable => exact memsOk_of (execMclkoDisable_mems _ _ s t ht) h
  | mclkoDivWrite => exact memsOk_of (execMclkoDivWrite_mems _ _ _ s t ht) h
  | mclkoStarted => exact memsOk_of (execMclkoStarted_mems _ s t ht) h
  | mclkoStopped => exact memsOk_of (execMclkoStopped_mems _ s t ht) h
  | syncoutEnable => exact memsOk_of (execSyncoutEnable_mems _ _ s t ht) h
  | syncoutDisable => exact memsOk_of (execSyncoutDisable_mems _ s t ht) h
  | frcLoadGo => exact memsOk_of (execFrcLoadGo_mems _ s t ht) h
  | frcLoadApply => exact memsOk_of (execFrcLoadApply_mems s t ht) h
  | nop => exact execNop_ok _ _ s h t ht
  | vadd => exact execVadd_ok _ _ s h t ht
  | vsub => exact execVsub_ok _ _ s h t ht
  | vmul => exact execVmul_ok _ _ s h t ht
  | vmin => exact execVmin_ok _ _ s h t ht
  | vmax => exact execVmax_ok _ _ s h t ht
  | vabs => exact execVabs_ok _ _ s h t ht
  | vneg => exact execVneg_ok _ _ s h t ht
  | vshl => exact execVshl_ok _ _ s h t ht
  | vshr => exact execVshr_ok _ _ s h t ht
  | vand => exact execVand_ok _ _ s h t ht
  | vor => exact execVor_ok _ _ s h t ht
  | vxor => exact execVxor_ok _ _ s h t ht
  | vcmp => exact execVcmp_ok _ _ s h t ht
  | vsel => exact execVsel_ok _ _ s h t ht
  | vperm => exact execVperm_ok _ _ s h t ht
  | mac => exact execMac_ok _ _ s h t ht
  | msu => exact execMsu_ok _ _ s h t ht
  | mpy => exact execMpy_ok _ _ s h t ht
  | ftap => exact execFtap_ok _ _ s h t ht
  | ftap2 => exact execFtap2_ok _ _ s h t ht
  | cmac => exact execCmac_ok _ _ s h t ht
  | cmpy => exact execCmpy_ok _ _ s h t ht
  | cmacj => exact execCmacj_ok _ _ s h t ht
  | rdacc => exact execRdacc_ok _ _ s h t ht
  | clra => exact execClra_ok _ _ s h t ht
  | ashf => exact execAshf_ok _ _ s h t ht
  | amov => exact execAmov_ok _ _ s h t ht
  | tlerp => exact execTlerp_ok _ _ s h t ht
  | phrd => exact execPhrd_ok _ _ s h t ht
  | prmrd => exact execPrmrd_ok _ _ s h t ht
  | evpop => exact execEvpop_ok _ _ s h t ht
  | ld => exact execLd_ok _ _ s h t ht
  | st => exact execSt_ok _ _ s h t ht
  | lds => exact execLds_ok _ _ s h t ht
  | ldi => exact execLdi_ok _ _ s h t ht
  | aimm => exact execAimm_ok _ _ s h t ht
  | aadd => exact execAadd_ok _ _ s h t ht
  | afold => exact execAfold_ok _ _ s h t ht
  | amovx => exact execAmovx_ok _ _ s h t ht
  | br => exact execBr_ok _ _ s h t ht
  | brc => exact execBrc_ok _ _ s h t ht
  | call => exact execCall_ok _ _ s h t ht
  | ret => exact execRet_ok _ _ s h t ht
  | loop => exact execLoop_ok _ _ s h t ht
  | loopv => exact execLoopv_ok _ _ s h t ht
  | qpostPip => exact execQpostPip_ok _ _ s h t ht
  | qpostVoice => exact execQpostVoice_ok _ _ s h t ht
  | qpostScene => exact execQpostScene_ok _ _ s h t ht
  | qdone => exact execQdone_ok _ _ s h t ht
  | vmrptLevel => exact execVmrptLevel_ok _ _ s h t ht
  | vmrptEnded => exact execVmrptEnded_ok _ _ s h t ht
  | dma => exact execDma_ok _ _ s h t ht
  | dmaw => exact execDmaw_ok _ _ s h t ht
  | fence => exact execFence_ok _ _ s h t ht
  | swi => exact execSwi_ok _ _ s h t ht
  | rdsysTime => exact execRdsysTime_ok _ _ s h t ht
  | rdsysIdent => exact execRdsysIdent_ok _ _ s h t ht
  | rdsysState => exact execRdsysState_ok _ _ s h t ht
  | rdsysRate => exact execRdsysRate_ok _ _ s h t ht
  | rdsysDma => exact execRdsysDma_ok _ _ s h t ht
  | illegalInstruction => exact execIllegalInstruction_ok _ _ _ s h t ht
  | stewardEvpop => exact execStewardEvpop_ok _ s h t ht
  | stewardSwiWait => exact execStewardSwiWait_ok _ s h t ht
  | pipStart => exact memsOk_of (execPipStart_mems _ s t ht) h
  | qdoneComplete => exact memsOk_of (execQdoneComplete_mems _ s t ht) h
  | urgentPreempt => exact memsOk_of (execUrgentPreempt_mems _ s t ht) h
  | orchardLoadComplete => exact execOrchardLoadComplete_ok _ _ s h t ht
  | orchardStoreWritten => exact execOrchardStoreWritten_ok _ s h t ht
  | dmaDescriptorStart => exact memsOk_of (execDmaDescriptorStart_mems _ _ s t ht) h
  | dmaDescriptorDone => exact execDmaDescriptorDone_ok _ _ _ s h t ht
  | coreHalt => exact memsOk_of (execCoreHalt_mems _ _ s t ht) h
  | coreResume => exact memsOk_of (execCoreResume_mems _ _ s t ht) h
  | swiqPop => exact memsOk_of (execSwiqPop_mems _ s t ht) h
  | pipWrite => exact memsOk_of (execPipWrite_mems _ _ _ _ s t ht) h
  | pipEnable => exact memsOk_of (execPipEnable_mems _ _ _ s t ht) h
  | pipDisable => exact memsOk_of (execPipDisable_mems _ _ s t ht) h
  | slistCommit => exact memsOk_of (execSlistCommit_mems _ _ s t ht) h
  | affinityCommit => exact memsOk_of (execAffinityCommit_mems _ _ _ s t ht) h
  | qnDeadlineWrite => exact memsOk_of (execQnDeadlineWrite_mems _ _ s t ht) h
  | hostPostPip => exact memsOk_of (execHostPostPip_mems _ _ s t ht) h
  | hostPostVoice => exact memsOk_of (execHostPostVoice_mems _ s t ht) h
  | heldPostAccept => exact execHeldPostAccept_ok s h t ht
  | heldEventReady => exact memsOk_of (execHeldEventReady_mems s t ht) h
  | urgentPlacement => exact memsOk_of (execUrgentPlacement_mems s t ht) h
  | roundRobinPlacement => exact memsOk_of (execRoundRobinPlacement_mems _ s t ht) h
  | prefetchComplete => exact memsOk_of (execPrefetchComplete_mems _ s t ht) h
  | qnImgWrite => exact memsOk_of (execQnImgWrite_mems _ _ _ s t ht) h
  | coreParityError => exact memsOk_of (execCoreParityError_mems _ _ s t ht) h
  | repairCopyComplete => exact memsOk_of (execRepairCopyComplete_mems s t ht) h
  | noteOn => exact memsOk_of (execNoteOn_mems _ _ s t ht) h
  | deferredNoteStart => exact memsOk_of (execDeferredNoteStart_mems _ s t ht) h
  | stealResume => exact memsOk_of (execStealResume_mems _ s t ht) h
  | noteOff => exact memsOk_of (execNoteOff_mems _ _ s t ht) h
  | noteChange => exact memsOk_of (execNoteChange_mems _ _ s t ht) h
  | hold => exact memsOk_of (execHold_mems _ _ s t ht) h
  | allOff => exact memsOk_of (execAllOff_mems _ _ s t ht) h
  | kill => exact memsOk_of (execKill_mems _ _ s t ht) h
  | ctrl => exact memsOk_of (execCtrl_mems _ _ s t ht) h
  | phPhase => exact memsOk_of (execPhPhase_mems _ s t ht) h
  | phRate => exact memsOk_of (execPhRate_mems _ s t ht) h
  | phSlope => exact memsOk_of (execPhSlope_mems _ s t ht) h
  | phasorHeldApply => exact memsOk_of (execPhasorHeldApply_mems s t ht) h
  | phasorDirectWrite => exact memsOk_of (execPhasorDirectWrite_mems _ _ _ s t ht) h
  | joinDecrement => exact memsOk_of (execJoinDecrement_mems _ s t ht) h
  | vmEnable => exact memsOk_of (execVmEnable_mems _ _ s t ht) h
  | vmDisable => exact memsOk_of (execVmDisable_mems _ s t ht) h
  | vmShutdownComplete => exact memsOk_of (execVmShutdownComplete_mems s t ht) h
  | voiceGroupEnable => exact memsOk_of (execVoiceGroupEnable_mems _ _ _ s t ht) h
  | voiceGroupDisable => exact memsOk_of (execVoiceGroupDisable_mems _ _ s t ht) h
  | quadEnable => exact memsOk_of (execQuadEnable_mems _ _ _ s t ht) h
  | quadDisable => exact memsOk_of (execQuadDisable_mems _ _ s t ht) h
  | nextEntryWrite => exact memsOk_of (execNextEntryWrite_mems _ _ _ s t ht) h
  | swapArm => exact memsOk_of (execSwapArm_mems _ s t ht) h
  | swapDisarm => exact memsOk_of (execSwapDisarm_mems _ s t ht) h
  | swapAtTick => exact memsOk_of (execSwapAtTick_mems s t ht) h
  | swapComplete => exact memsOk_of (execSwapComplete_mems s t ht) h
  | crossfadeEnd => exact memsOk_of (execCrossfadeEnd_mems _ s t ht) h
  | paramCommand => exact memsOk_of (execParamCommand_mems _ _ s t ht) h
  | heldCommandApply => exact execHeldCommandApply_ok s h t ht
  | recallCommand => exact memsOk_of (execRecallCommand_mems _ _ s t ht) h
  | recallArm => exact memsOk_of (execRecallArm_mems _ _ s t ht) h
  | recallDisarm => exact memsOk_of (execRecallDisarm_mems _ s t ht) h
  | recallListChecked => exact memsOk_of (execRecallListChecked_mems s t ht) h
  | recallTimeout => exact memsOk_of (execRecallTimeout_mems s t ht) h
  | recallApply => exact memsOk_of (execRecallApply_mems s t ht) h
  | orcOwnWrite => exact execOrcOwnWrite_ok _ _ _ s h t ht
  | handoverDrainComplete => exact execHandoverDrainComplete_ok _ s h t ht
  | ownerGroupWrite => exact memsOk_of (execOwnerGroupWrite_mems _ _ _ _ s t ht) h
  | loanStart => exact memsOk_of (execLoanStart_mems s t ht) h
  | loanCopyComplete => exact memsOk_of (execLoanCopyComplete_mems _ s t ht) h
  | loanTestComplete => exact memsOk_of (execLoanTestComplete_mems _ _ s t ht) h
  | dmcEnable => exact memsOk_of (execDmcEnable_mems _ s t ht) h
  | dmcDisable => exact memsOk_of (execDmcDisable_mems _ s t ht) h
  | dmcTrainingComplete => exact memsOk_of (execDmcTrainingComplete_mems s t ht) h
  | dmcTrainingFailed => exact memsOk_of (execDmcTrainingFailed_mems s t ht) h
  | dmcShutdownComplete => exact memsOk_of (execDmcShutdownComplete_mems s t ht) h
  | portEnable => exact memsOk_of (execPortEnable_mems _ _ s t ht) h
  | portDisable => exact memsOk_of (execPortDisable_mems _ _ s t ht) h
  | portOn => exact memsOk_of (execPortOn_mems _ s t ht) h
  | portShutdownComplete => exact memsOk_of (execPortShutdownComplete_mems _ s t ht) h
  | portFramingError => exact memsOk_of (execPortFramingError_mems _ s t ht) h
  | portSlip => exact memsOk_of (execPortSlip_mems _ s t ht) h
  | portClockLost => exact memsOk_of (execPortClockLost_mems _ _ s t ht) h
  | portClockReturn => exact memsOk_of (execPortClockReturn_mems _ s t ht) h
  | maskWrite => exact memsOk_of (execMaskWrite_mems _ _ _ _ s t ht) h
  | maskApply => exact memsOk_of (execMaskApply_mems _ s t ht) h
  | portGroupArm => exact memsOk_of (execPortGroupArm_mems _ _ s t ht) h
  | portGroupDisarm => exact memsOk_of (execPortGroupDisarm_mems _ _ s t ht) h
  | portGroupStart => exact memsOk_of (execPortGroupStart_mems _ s t ht) h
  | asrcLock => exact memsOk_of (execAsrcLock_mems _ _ s t ht) h
  | asrcChannelOn => exact memsOk_of (execAsrcChannelOn_mems _ s t ht) h
  | asrcChannelOff => exact memsOk_of (execAsrcChannelOff_mems _ s t ht) h
  | asrcRangeError => exact memsOk_of (execAsrcRangeError_mems _ s t ht) h
  | asrcSpareTakeover => exact memsOk_of (execAsrcSpareTakeover_mems _ s t ht) h
  | aesRxEnable => exact memsOk_of (execAesRxEnable_mems _ _ s t ht) h
  | aesRxDisable => exact memsOk_of (execAesRxDisable_mems _ _ s t ht) h
  | aesRxLock => exact memsOk_of (execAesRxLock_mems _ _ s t ht) h
  | aesRxUnlock => exact memsOk_of (execAesRxUnlock_mems _ s t ht) h
  | aesBlockStored => exact memsOk_of (execAesBlockStored_mems _ _ _ _ _ s t ht) h
  | aesSubframeParityError => exact memsOk_of (execAesSubframeParityError_mems _ _ s t ht) h
  | aesTxEnable => exact memsOk_of (execAesTxEnable_mems _ _ s t ht) h
  | aesTxDisable => exact memsOk_of (execAesTxDisable_mems _ _ s t ht) h
  | aesTxOn => exact memsOk_of (execAesTxOn_mems _ s t ht) h
  | aesTxOff => exact memsOk_of (execAesTxOff_mems _ s t ht) h
  | aesTxCsWrite => exact memsOk_of (execAesTxCsWrite_mems _ _ _ _ _ s t ht) h
  | aesTxCsApply => exact memsOk_of (execAesTxCsApply_mems _ s t ht) h
  | timerEnable => exact memsOk_of (execTimerEnable_mems _ _ s t ht) h
  | timerDisable => exact memsOk_of (execTimerDisable_mems _ _ s t ht) h
  | timerStart => exact memsOk_of (execTimerStart_mems _ s t ht) h
  | lapStart => exact memsOk_of (execLapStart_mems _ s t ht) h
  | compareMatch => exact memsOk_of (execCompareMatch_mems _ _ s t ht) h
  | timerShutdownComplete => exact memsOk_of (execTimerShutdownComplete_mems _ s t ht) h
  | timerReloadWrite => exact memsOk_of (execTimerReloadWrite_mems _ _ _ s t ht) h
  | compareWrite => exact memsOk_of (execCompareWrite_mems _ _ _ _ s t ht) h
  | timerCntRead => exact memsOk_of (execTimerCntRead_mems _ _ s t ht) h
  | timerGroupArm => exact memsOk_of (execTimerGroupArm_mems _ _ s t ht) h
  | timerGroupDisarm => exact memsOk_of (execTimerGroupDisarm_mems _ _ s t ht) h
  | timerGroupGo => exact memsOk_of (execTimerGroupGo_mems _ _ s t ht) h
  | timerGroupStart => exact memsOk_of (execTimerGroupStart_mems _ s t ht) h
  | capture => exact memsOk_of (execCapture_mems _ s t ht) h
  | captRead => exact memsOk_of (execCaptRead_mems _ _ s t ht) h
  | swcap => exact memsOk_of (execSwcap_mems _ _ s t ht) h
  | uartEnable => exact memsOk_of (execUartEnable_mems _ _ _ s t ht) h
  | uartDisable => exact memsOk_of (execUartDisable_mems _ _ _ s t ht) h
  | uartOn => exact memsOk_of (execUartOn_mems _ s t ht) h
  | uartOff => exact memsOk_of (execUartOff_mems _ s t ht) h
  | characterReceived => exact memsOk_of (execCharacterReceived_mems _ _ _ _ _ _ s t ht) h
  | rxRead => exact memsOk_of (execRxRead_mems _ _ s t ht) h
  | txWrite => exact memsOk_of (execTxWrite_mems _ _ _ s t ht) h
  | characterTransmit => exact memsOk_of (execCharacterTransmit_mems _ s t ht) h
  | divisorWrite => exact memsOk_of (execDivisorWrite_mems _ _ _ s t ht) h
  | uartBreak => exact memsOk_of (execUartBreak_mems _ s t ht) h
  | lineRetire => exact memsOk_of (execLineRetire_mems _ s t ht) h
  | lineRearm => exact memsOk_of (execLineRearm_mems _ _ _ s t ht) h
  | recoveryRequest => exact memsOk_of (execRecoveryRequest_mems _ _ _ s t ht) h
  | uartWake => exact memsOk_of (execUartWake_mems _ s t ht) h
  | midiChannelMessage => exact memsOk_of (execMidiChannelMessage_mems _ s t ht) h
  | midiCommonMessage => exact memsOk_of (execMidiCommonMessage_mems _ s t ht) h
  | midiRealtimeMessage => exact memsOk_of (execMidiRealtimeMessage_mems _ s t ht) h
  | midiSysexEvent => exact memsOk_of (execMidiSysexEvent_mems _ s t ht) h
  | damsonEnable => exact memsOk_of (execDamsonEnable_mems _ _ s t ht) h
  | damsonDisable => exact memsOk_of (execDamsonDisable_mems _ _ s t ht) h
  | damsonOn => exact memsOk_of (execDamsonOn_mems _ s t ht) h
  | damsonOff => exact memsOk_of (execDamsonOff_mems _ s t ht) h
  | damsonCodeWrite => exact memsOk_of (execDamsonCodeWrite_mems _ _ _ s t ht) h
  | deglitchHoldEnd => exact memsOk_of (execDeglitchHoldEnd_mems _ s t ht) h
  | slewComplete => exact memsOk_of (execSlewComplete_mems _ s t ht) h
  | dacclrAssert => exact memsOk_of (execDacclrAssert_mems s t ht) h
  | dacclrRelease => exact memsOk_of (execDacclrRelease_mems s t ht) h
  | spanWrite => exact memsOk_of (execSpanWrite_mems _ _ _ s t ht) h
  | spanSafeReached => exact memsOk_of (execSpanSafeReached_mems _ s t ht) h
  | spanSwitch => exact memsOk_of (execSpanSwitch_mems _ s t ht) h
  | spanSettleEnd => exact memsOk_of (execSpanSettleEnd_mems _ s t ht) h
  | damsonStageSwap => exact memsOk_of (execDamsonStageSwap_mems _ s t ht) h
  | shortCircuitOnset => exact memsOk_of (execShortCircuitOnset_mems _ s t ht) h
  | shortCircuitCleared => exact memsOk_of (execShortCircuitCleared_mems _ s t ht) h
  | rotationConversion => exact memsOk_of (execRotationConversion_mems _ s t ht) h
  | scanConversion => exact memsOk_of (execScanConversion_mems _ s t ht) h
  | meterPeakRead => exact memsOk_of (execMeterPeakRead_mems _ _ s t ht) h
  | peakHoldExpire => exact memsOk_of (execPeakHoldExpire_mems _ s t ht) h
  | loudnessReset => exact memsOk_of (execLoudnessReset_mems _ _ _ s t ht) h
  | loudnessUpdate => exact memsOk_of (execLoudnessUpdate_mems _ s t ht) h
  | pcieRegisterAccess => exact execPcieRegisterAccess_ok _ _ _ _ s h t ht
  | pcieOrchardAccess => exact execPcieOrchardAccess_ok _ _ _ s h t ht
  | pcieDramAccess => exact execPcieDramAccess_ok _ _ _ s h t ht
  | pcieLinkChange => exact memsOk_of (execPcieLinkChange_mems _ _ _ _ s t ht) h
  | sequencedWriteGo => exact execSequencedWriteGo_ok _ _ s h t ht
  | spiWrite => exact execSpiWrite_ok _ _ _ s h t ht
  | spiRead => exact memsOk_of (execSpiRead_mems _ _ _ _ s t ht) h
  | spiSwrite => exact execSpiSwrite_ok _ _ _ _ s h t ht
  | spiStat => exact memsOk_of (execSpiStat_mems s t ht) h
  | spiBadCommand c => exact memsOk_of (execSpiBadCommand_mems c s t ht) h
  | hostStreamBlockWrite => exact memsOk_of (execHostStreamBlockWrite_mems _ _ s t ht) h
  | twinEnable => exact memsOk_of (execTwinEnable_mems _ _ s t ht) h
  | twinDisable => exact memsOk_of (execTwinDisable_mems _ _ s t ht) h
  | twinPartnerFound => exact memsOk_of (execTwinPartnerFound_mems _ s t ht) h
  | twinBootwaitExpire => exact memsOk_of (execTwinBootwaitExpire_mems _ s t ht) h
  | twinLaneEnable => exact memsOk_of (execTwinLaneEnable_mems _ _ s t ht) h
  | twinLaneDisable => exact memsOk_of (execTwinLaneDisable_mems _ _ s t ht) h
  | twinLaneCrcRetire => exact memsOk_of (execTwinLaneCrcRetire_mems _ s t ht) h
  | twinMirrorFrame => exact memsOk_of (execTwinMirrorFrame_mems _ _ _ _ s t ht) h
  | twinAckFrame => exact memsOk_of (execTwinAckFrame_mems _ _ s t ht) h
  | twinNakFrame => exact memsOk_of (execTwinNakFrame_mems _ _ s t ht) h
  | twinStatusFrame => exact memsOk_of (execTwinStatusFrame_mems _ _ _ _ s t ht) h
  | twinAudioFrame => exact memsOk_of (execTwinAudioFrame_mems _ _ _ _ _ s t ht) h
  | twinCopyFrame => exact execTwinCopyFrame_ok _ _ _ s h t ht
  | twinUpdateFrame => exact memsOk_of (execTwinUpdateFrame_mems _ _ _ s t ht) h
  | twinHandoverFrame => exact memsOk_of (execTwinHandoverFrame_mems _ _ s t ht) h
  | frameResendTimeout => exact memsOk_of (execFrameResendTimeout_mems _ s t ht) h
  | mirrorRelease => exact execMirrorRelease_ok s h t ht
  | resyncCopyComplete => exact memsOk_of (execResyncCopyComplete_mems s t ht) h
  | resyncEngineStart => exact memsOk_of (execResyncEngineStart_mems s t ht) h
  | resyncTimeout => exact memsOk_of (execResyncTimeout_mems s t ht) h
  | heartbeatSample => exact memsOk_of (execHeartbeatSample_mems _ s t ht) h
  | takeover => exact memsOk_of (execTakeover_mems s t ht) h
  | twinSwap => exact memsOk_of (execTwinSwap_mems _ _ s t ht) h
  | twinTake => exact memsOk_of (execTwinTake_mems _ _ s t ht) h
  | twinResync => exact memsOk_of (execTwinResync_mems _ _ s t ht) h
  | watchdogKick => exact memsOk_of (execWatchdogKick_mems _ _ s t ht) h
  | watchdogExpire => exact memsOk_of (execWatchdogExpire_mems s t ht) h
  | unfreezeResume => exact memsOk_of (execUnfreezeResume_mems _ _ s t ht) h
  | unfreezeAbandon => exact memsOk_of (execUnfreezeAbandon_mems _ _ s t ht) h
  | stewardRestart => exact execStewardRestart_ok s h t ht
  | rotationStart => exact memsOk_of (execRotationStart_mems s t ht) h
  | rotationCopyComplete => exact memsOk_of (execRotationCopyComplete_mems s t ht) h
  | rotationSwitch => exact memsOk_of (execRotationSwitch_mems s t ht) h
  | rotationTestComplete => exact memsOk_of (execRotationTestComplete_mems _ _ s t ht) h
  | ageingRead => exact memsOk_of (execAgeingRead_mems _ _ s t ht) h
  | sessionOpen => exact memsOk_of (execSessionOpen_mems _ _ s t ht) h
  | sessionClose => exact memsOk_of (execSessionClose_mems _ s t ht) h
  | sessionTimeout => exact memsOk_of (execSessionTimeout_mems s t ht) h
  | xferGo => exact memsOk_of (execXferGo_mems _ _ s t ht) h
  | pieceConsumed => exact memsOk_of (execPieceConsumed_mems s t ht) h
  | activationArm => exact memsOk_of (execActivationArm_mems _ s t ht) h
  | activationDisarm => exact memsOk_of (execActivationDisarm_mems _ s t ht) h
  | activationAtF => exact execActivationAtF_ok s h t ht
  | trialHealthy => exact execTrialHealthy_ok _ s h t ht
  | trialCommit => exact execTrialCommit_ok _ s h t ht
  | trialFail => exact execTrialFail_ok _ s h t ht
  | trialTimeout => exact execTrialTimeout_ok s h t ht
  | settingsCopyWrite => exact memsOk_of (execSettingsCopyWrite_mems _ _ _ s t ht) h
  | ownerCodeEntry => exact execOwnerCodeEntry_ok _ _ s h t ht
  | unlockLockoutEnd => exact memsOk_of (execUnlockLockoutEnd_mems s t ht) h
  | chainOffer => exact memsOk_of (execChainOffer_mems _ s t ht) h
  | chainData => exact memsOk_of (execChainData_mems _ _ s t ht) h
  | chainStaged => exact memsOk_of (execChainStaged_mems _ _ s t ht) h
  | chainArm => exact memsOk_of (execChainArm_mems _ _ _ s t ht) h
  | chainReady => exact memsOk_of (execChainReady_mems _ s t ht) h
  | chainGo => exact memsOk_of (execChainGo_mems _ _ _ s t ht) h
  | chainVersion => exact memsOk_of (execChainVersion_mems _ s t ht) h
  | chainCommit => exact memsOk_of (execChainCommit_mems _ s t ht) h
  | chainAbort => exact execChainAbort_ok _ _ s h t ht
  | rindInfo => exact memsOk_of (execRindInfo_mems s t ht) h
  | rindBaud => exact memsOk_of (execRindBaud_mems _ s t ht) h
  | rindCode => exact memsOk_of (execRindCode_mems _ s t ht) h
  | rindLoad => exact memsOk_of (execRindLoad_mems _ s t ht) h
  | rindLoadBlock => exact memsOk_of (execRindLoadBlock_mems _ _ _ s t ht) h
  | rindEraseset => exact memsOk_of (execRindEraseset_mems s t ht) h
  | rindBoot => exact execRindBoot_ok s h t ht
  | hello => exact memsOk_of (execHello_mems s t ht) h
  | ping => exact memsOk_of (execPing_mems s t ht) h
  | echoOn => exact memsOk_of (execEchoOn_mems s t ht) h
  | echoOff => exact memsOk_of (execEchoOff_mems s t ht) h
  | baud => exact memsOk_of (execBaud_mems _ s t ht) h
  | baudRevertTimeout => exact memsOk_of (execBaudRevertTimeout_mems s t ht) h
  | commandLineTooLong => exact memsOk_of (execCommandLineTooLong_mems s t ht) h
  | unknownCommand => exact memsOk_of (execUnknownCommand_mems s t ht) h
  | rd => exact memsOk_of (execRd_mems _ _ s t ht) h
  | wr => exact execWr_ok _ _ s h t ht
  | drive => exact memsOk_of (execDrive_mems _ _ s t ht) h
  | release => exact memsOk_of (execRelease_mems _ s t ht) h
  | read => exact memsOk_of (execRead_mems _ _ s t ht) h
  | loopUart => exact memsOk_of (execLoopUart_mems _ _ _ s t ht) h
  | loopPort => exact memsOk_of (execLoopPort_mems _ _ _ s t ht) h
  | loopAes => exact memsOk_of (execLoopAes_mems _ _ _ _ s t ht) h
  | dset => exact memsOk_of (execDset_mems _ _ _ s t ht) h
  | dsetHoldCheck => exact memsOk_of (execDsetHoldCheck_mems _ s t ht) h
  | dmeas => exact memsOk_of (execDmeas_mems _ s t ht) h
  | doff => exact memsOk_of (execDoff_mems _ s t ht) h
  | ain => exact memsOk_of (execAin_mems _ s t ht) h
  | mon => exact memsOk_of (execMon_mems s t ht) h
  | faults => exact memsOk_of (execFaults_mems _ s t ht) h
  | spares => exact memsOk_of (execSpares_mems s t ht) h
  | map => exact memsOk_of (execMap_mems s t ht) h
  | viol => exact memsOk_of (execViol_mems _ s t ht) h
  | unfreeze => exact memsOk_of (execUnfreeze_mems _ _ s t ht) h
  | code => exact memsOk_of (execCode_mems _ s t ht) h
  | updOpen => exact memsOk_of (execUpdOpen_mems s t ht) h
  | updLoad => exact memsOk_of (execUpdLoad_mems _ s t ht) h
  | updStat => exact memsOk_of (execUpdStat_mems s t ht) h
  | updArm => exact memsOk_of (execUpdArm_mems _ _ s t ht) h
  | updDisarm => exact memsOk_of (execUpdDisarm_mems s t ht) h
  | updCommit => exact execUpdCommit_ok s h t ht
  | updClose => exact memsOk_of (execUpdClose_mems s t ht) h
  | updInfo => exact memsOk_of (execUpdInfo_mems s t ht) h
  | recover => exact execRecover_ok s h t ht
  | serviceLinkRearm => exact memsOk_of (execServiceLinkRearm_mems s t ht) h
  | supplyBad => exact execSupplyBad_ok _ s h t ht
  | supplyGood => exact memsOk_of (execSupplyGood_mems _ s t ht) h
  | porstAssert => exact execPorstAssert_ok _ s h t ht
  | coldReset => exact execColdReset_ok _ _ s h t ht
  | digestCheckComplete => exact memsOk_of (execDigestCheckComplete_mems _ s t ht) h
  | firmwareStart => exact memsOk_of (execFirmwareStart_mems s t ht) h
  | warmReset => exact execWarmReset_ok _ s h t ht
  | sysRstWarm => exact execSysRstWarm_ok _ _ s h t ht
  | standbyRequest => exact memsOk_of (execStandbyRequest_mems _ _ s t ht) h
  | standbyEntered => exact memsOk_of (execStandbyEntered_mems s t ht) h
  | wake => exact memsOk_of (execWake_mems _ s t ht) h
  | wakeTimerExpire => exact memsOk_of (execWakeTimerExpire_mems s t ht) h
  | bypass => exact memsOk_of (execBypass_mems s t ht) h
  | samplePreload => exact memsOk_of (execSamplePreload_mems _ s t ht) h
  | extest => exact memsOk_of (execExtest_mems s t ht) h
  | idcode => exact memsOk_of (execIdcode_mems s t ht) h
  | highz => exact memsOk_of (execHighz_mems s t ht) h
  | clamp => exact memsOk_of (execClamp_mems s t ht) h
  | trstAssert => exact memsOk_of (execTrstAssert_mems s t ht) h
  | gpioEnable => exact memsOk_of (execGpioEnable_mems _ _ _ s t ht) h
  | gpioDisable => exact memsOk_of (execGpioDisable_mems _ _ _ s t ht) h
  | gpioEdge => exact memsOk_of (execGpioEdge_mems _ _ s t ht) h
  | syncoutStarted => exact memsOk_of (execSyncoutStarted_mems s t ht) h
  | syncoutStopped => exact memsOk_of (execSyncoutStopped_mems s t ht) h
  | asrcRangeReturn => exact memsOk_of (execAsrcRangeReturn_mems _ s t ht) h
  | asrcCoefficientParityError => exact memsOk_of (execAsrcCoefficientParityError_mems _ _ s t ht) h
  | twinLaneOn => exact memsOk_of (execTwinLaneOn_mems _ s t ht) h

/-- Settles O57: a step is one command on the queue's rest, or one idle sample, and each keeps the form. -/
theorem everyStepKeepsMemoryForm : Obligations.EveryStepKeepsMemoryForm := by
  unfold Obligations.EveryStepKeepsMemoryForm
  intro s t h ht
  unfold step at ht
  split at ht
  · cases ht
    exact s.idle_ok h
  next i rest _ => exact exec_keeps_memsOk i (s := { s with pending := rest }) h ht

end Sys2Proof.Machine
end

section
/-! Frames of the shared operations: what of the state, beyond its register fields and the deliveries due, an operation
leaves alone, and which register fields it keeps. -/

namespace Sys2Proof.Machine

namespace State

/-- The state but for its register fields and the deliveries due. -/
def rest (s : State) : State := { s with regs := [], toDeliver := [] }

theorem eq_of_rest {s t : State} (h : t.rest = s.rest) : t = { s with regs := t.regs, toDeliver := t.toDeliver } :=
  congrArg (fun u : State => { u with regs := t.regs, toDeliver := t.toDeliver }) h

theorem eq_of_rest_toDeliver {s t : State} (h : t.rest = s.rest) (hd : t.toDeliver = s.toDeliver) :
    t = { s with regs := t.regs } := by
  rw [eq_of_rest h, hd]

theorem onlyRegs_iff {s t : State} {fs : List Fld} :
    s.OnlyRegs t fs ↔ (t.rest = s.rest ∧ t.toDeliver = s.toDeliver) ∧ s.KeepsFields t fs :=
  ⟨fun h => ⟨⟨(congrArg rest h.1 :), (congrArg toDeliver h.1 :)⟩, h.2⟩, fun h => ⟨eq_of_rest_toDeliver h.1.1 h.1.2, h.2⟩⟩

theorem onlyRegsEv_iff {s t : State} {fs : List Fld} : s.OnlyRegsEv t fs ↔ t.rest = s.rest ∧ s.KeepsFields t fs :=
  ⟨fun h => ⟨(congrArg rest h.1 :), h.2⟩, fun h => ⟨eq_of_rest h.1, h.2⟩⟩

/-- A command that writes a register, performed at once, answers what its effect gives. -/
theorem next_of_write {s t : State} {m : Master} {addr w : Nat} {eff : State → State} (h : s.performs m addr = true)
    (he : eff s = t) : (.next (s.guardWrite m addr w eff) : Out) = .next t := by
  rw [guardWrite_performs h, he]

/-- A command that reads a register, answered at once. -/
theorem next_of_read {s t : State} {m : Master} {addr : Nat} {eff : State → State} (h : s.reads m addr = true)
    (he : eff (s.answerRead m false) = t) : (.next (s.guardRead m addr eff) : Out) = .next t := by
  rw [guardRead_reads h, he]

/-- A command whose effect is known answers it. -/
theorem next_of_eq {s t : State} (h : s = t) : (.next s : Out) = .next t := congrArg _ h

/-- What a clause says of the next state holds of the state that the command answers. -/
theorem of_next {o : Out} {u : State} {P : State → Prop} (ho : o = .next u) (h : ∃ t, o = .next t ∧ P t) : P u := by
  obtain ⟨t, ht, hp⟩ := h
  cases ho.symm.trans ht
  exact hp

/-! ### What an operation leaves of the rest -/

@[simp] theorem rest_set (s : State) (f : Fld) (v : Nat) : (s.set f v).rest = s.rest := rfl
@[simp] theorem rest_put (s : State) (f : Fld) (w : Nat) : (s.put f w).rest = s.rest := rfl
@[simp] theorem rest_flag (s : State) (f : Fld) (b : Bool) : (s.flag f b).rest = s.rest := rfl
@[simp] theorem rest_bump (s : State) (f : Fld) (n : Nat) : (s.bump f n).rest = s.rest := rfl
@[simp] theorem rest_clear1 (s : State) (f : Fld) (w : Nat) : (s.clear1 f w).rest = s.rest := rfl
@[simp] theorem rest_unclaimAll (s : State) (n : Nat) : (s.unclaimAll n).rest = s.rest := rfl
@[simp] theorem toDeliver_unclaimAll (s : State) (n : Nat) : (s.unclaimAll n).toDeliver = s.toDeliver := rfl

@[simp] theorem rest_notify (s : State) (n : Nat) (b : Bool) : (s.notify n b).rest = s.rest := by
  unfold notify
  split <;> rfl

@[simp] theorem rest_raiseBits (s : State) (n c : Nat) : (s.raiseBits n c).rest = s.rest := by
  unfold raiseBits
  split
  · rw [rest_notify, rest_set]
  · rfl

@[simp] theorem rest_raise (s : State) (n : Nat) : (s.raise n).rest = s.rest := by
  unfold raise
  split
  · exact s.rest_raiseBits _ _
  · rfl

@[simp] theorem rest_raiseCause (s : State) (n c : Nat) : (s.raiseCause n c).rest = s.rest := s.rest_raiseBits _ _

theorem rest_foldl {α : Type} {g : State → α → State} (l : List α) (h : ∀ s x, (g s x).rest = s.rest) (s : State) :
    (l.foldl g s).rest = s.rest := by
  induction l generalizing s with
  | nil => rfl
  | cons x l ih => rw [List.foldl_cons, ih, h]

theorem toDeliver_foldl {α : Type} {g : State → α → State} (l : List α) (h : ∀ s x, (g s x).toDeliver = s.toDeliver)
    (s : State) : (l.foldl g s).toDeliver = s.toDeliver := by
  induction l generalizing s with
  | nil => rfl
  | cons x l ih => rw [List.foldl_cons, ih, h]

@[simp] theorem rest_puts (s : State) (fs : List Fld) (w : Nat) : (s.puts fs w).rest = s.rest :=
  rest_foldl fs (fun s f => s.rest_put f w) s
@[simp] theorem toDeliver_puts (s : State) (fs : List Fld) (w : Nat) : (s.puts fs w).toDeliver = s.toDeliver :=
  toDeliver_foldl fs (fun s f => s.put_toDeliver f w) s
@[simp] theorem rest_claimAll (s : State) (n : Nat) (l : List Nat) : (s.claimAll n l).rest = s.rest :=
  rest_foldl l (fun s k => s.rest_set (F.SYS_CLAIM_OWNER k) n) s
@[simp] theorem toDeliver_claimAll (s : State) (n : Nat) (l : List Nat) : (s.claimAll n l).toDeliver = s.toDeliver :=
  toDeliver_foldl l (fun s k => s.set_toDeliver (F.SYS_CLAIM_OWNER k) n) s

/-! ### Which register fields an operation keeps -/

theorem KeepsFields.refl (s : State) (fs : List Fld) : s.KeepsFields s fs := fun _ _ => rfl

@[simp] theorem keepsFields_self (s : State) (fs : List Fld) : s.KeepsFields s fs ↔ True :=
  iff_true_intro (KeepsFields.refl s fs)

/-- A write of a listed field keeps the fields that are not listed. -/
theorem get_set_of_mem {f : Fld} {fs : List Fld} (h : f ∈ fs) (t : State) (v : Nat) {g : Fld}
    (hg : (g.id, g.ix) ∉ fs.map (fun g => (g.id, g.ix))) : (t.set f v).get g = t.get g :=
  get_set_ne t v fun e => hg (e ▸ List.mem_map.mpr ⟨f, h, rfl⟩)

@[simp] theorem keepsFields_set {s t : State} {f : Fld} {fs : List Fld} (h : f ∈ fs) (v : Nat) :
    s.KeepsFields (t.set f v) fs ↔ s.KeepsFields t fs :=
  forall₂_congr fun _ hg => by rw [get_set_of_mem h t v hg]

@[simp] theorem keepsFields_put {s t : State} {f : Fld} {fs : List Fld} (h : f ∈ fs) (w : Nat) :
    s.KeepsFields (t.put f w) fs ↔ s.KeepsFields t fs := keepsFields_set h _
@[simp] theorem keepsFields_flag {s t : State} {f : Fld} {fs : List Fld} (h : f ∈ fs) (b : Bool) :
    s.KeepsFields (t.flag f b) fs ↔ s.KeepsFields t fs := keepsFields_set h _
@[simp] theorem keepsFields_bump {s t : State} {f : Fld} {fs : List Fld} (h : f ∈ fs) (n : Nat) :
    s.KeepsFields (t.bump f n) fs ↔ s.KeepsFields t fs := keepsFields_set h _
@[simp] theorem keepsFields_clear1 {s t : State} {f : Fld} {fs : List Fld} (h : f ∈ fs) (w : Nat) :
    s.KeepsFields (t.clear1 f w) fs ↔ s.KeepsFields t fs := keepsFields_set h _

@[simp] theorem keepsFields_notify {s t : State} {fs : List Fld} (n : Nat) (b : Bool) :
    s.KeepsFields (t.notify n b) fs ↔ s.KeepsFields t fs :=
  forall₂_congr fun _ _ => by rw [get_notify]

@[simp] theorem keepsFields_raise {s t : State} {fs : List Fld} {n : Nat} (h : ∀ e, evCause n = some e → e.1 ∈ fs) :
    s.KeepsFields (t.raise n) fs ↔ s.KeepsFields t fs := by
  rcases he : evCause n with _ | ⟨f, c⟩
  · simp [raise, he]
  · simp [raise, raiseBits, he, h _ he]

@[simp] theorem keepsFields_raiseBits {s t : State} {fs : List Fld} {n : Nat} (c : Nat)
    (h : ∀ e, evCause n = some e → e.1 ∈ fs) : s.KeepsFields (t.raiseBits n c) fs ↔ s.KeepsFields t fs := by
  rcases he : evCause n with _ | ⟨f, _⟩
  · simp [raiseBits, he]
  · simp [raiseBits, he, h _ he]

theorem KeepsFields.trans {s t u : State} {fs : List Fld} (h : s.KeepsFields t fs) (k : t.KeepsFields u fs) :
    s.KeepsFields u fs := fun f hf => (k f hf).trans (h f hf)

theorem KeepsFields.mono {s t : State} {fs gs : List Fld} (h : s.KeepsFields t fs) (hs : fs ⊆ gs) : s.KeepsFields t gs :=
  fun f hf => h f fun hm => hf (by
    obtain ⟨g, hg, he⟩ := List.mem_map.mp hm
    exact List.mem_map.mpr ⟨g, hs hg, he⟩)

/-- A field of a register place that a change does not list reads as before. -/
theorem KeepsFields.get_other {s t : State} {fs : List Fld} (h : s.KeepsFields t fs) {f : Fld}
    (hf : fs.any (fun g => f.id == g.id) = false) : t.get f = s.get f := by
  refine h f fun hmem => ?_
  obtain ⟨g, hg, he⟩ := List.mem_map.mp hmem
  have hid : g.id = f.id := congrArg Prod.fst he
  exact absurd hid.symm (by simpa using List.any_eq_false.mp hf g hg)

theorem keepsFields_foldl {α : Type} {s : State} {fs : List Fld} {g : State → α → State} (l : List α)
    (h : ∀ (t : State), ∀ x ∈ l, t.KeepsFields (g t x) fs) {t : State} (ht : s.KeepsFields t fs) :
    s.KeepsFields (l.foldl g t) fs := by
  induction l generalizing t with
  | nil => exact ht
  | cons x l ih => exact ih (fun t y hy => h t y (List.mem_cons_of_mem _ hy)) (ht.trans (h t x List.mem_cons_self))

@[simp] theorem keepsFields_puts {s t : State} {gs fs : List Fld} (h : gs ⊆ fs) (w : Nat) :
    s.KeepsFields (t.puts gs w) fs ↔ s.KeepsFields t fs := by
  induction gs generalizing t with
  | nil => rfl
  | cons f gs ih => exact (ih (fun g hg => h (List.mem_cons_of_mem _ hg))).trans (keepsFields_put (h List.mem_cons_self) w)

/-! ### Free values taken -/

/-- The state but for its register fields, the deliveries due and the count of free values. -/
def restFree (s : State) : State := { s.rest with free := 0 }

theorem onlyRegsFree_iff {s t : State} {fs : List Fld} :
    s.OnlyRegsFree t fs ↔ t.restFree = s.restFree ∧ s.KeepsFields t fs :=
  ⟨fun h => ⟨(congrArg restFree h.1 :), h.2⟩, fun h =>
    ⟨congrArg (fun u : State => { u with regs := t.regs, toDeliver := t.toDeliver, free := t.free }) h.1, h.2⟩⟩

/-- Of an operation that takes no free value. -/
theorem restFree_of_rest {s t : State} (h : t.rest = s.rest) : t.restFree = s.restFree := by rw [restFree, h, restFree]

@[simp] theorem restFree_set (s : State) (f : Fld) (v : Nat) : (s.set f v).restFree = s.restFree := rfl
@[simp] theorem restFree_puts (s : State) (fs : List Fld) (w : Nat) : (s.puts fs w).restFree = s.restFree :=
  restFree_of_rest (s.rest_puts fs w)
@[simp] theorem restFree_raise (s : State) (n : Nat) : (s.raise n).restFree = s.restFree :=
  restFree_of_rest (s.rest_raise n)

/-! ### Register places kept, whatever their index -/

@[simp] theorem keepsNames_self (s : State) (fs : List Fld) : s.KeepsNames s fs ↔ True :=
  iff_true_intro fun _ _ => rfl

theorem get_set_of_any {f : Fld} {fs : List Fld} (h : fs.any (fun g => g.id == f.id) = true) (t : State) (v : Nat) {g : Fld}
    (hg : g.id ∉ fs.map (fun g => g.id)) : (t.set f v).get g = t.get g :=
  get_set_ne t v fun e => hg (by
    obtain ⟨k, hk, he⟩ := List.any_eq_true.mp h
    have hid : g.id = f.id := congrArg Prod.fst e
    exact List.mem_map.mpr ⟨k, hk, by simpa [hid] using he⟩)

theorem keepsNames_set {s t : State} {f : Fld} {fs : List Fld} (h : fs.any (fun g => g.id == f.id) = true) (v : Nat) :
    s.KeepsNames (t.set f v) fs ↔ s.KeepsNames t fs :=
  forall₂_congr fun _ hg => by rw [get_set_of_any h t v hg]

theorem keepsNames_put {s t : State} {f : Fld} {fs : List Fld} (h : fs.any (fun g => g.id == f.id) = true) (w : Nat) :
    s.KeepsNames (t.put f w) fs ↔ s.KeepsNames t fs := keepsNames_set h _
theorem keepsNames_flag {s t : State} {f : Fld} {fs : List Fld} (h : fs.any (fun g => g.id == f.id) = true) (b : Bool) :
    s.KeepsNames (t.flag f b) fs ↔ s.KeepsNames t fs := keepsNames_set h _
theorem keepsNames_bump {s t : State} {f : Fld} {fs : List Fld} (h : fs.any (fun g => g.id == f.id) = true) (n : Nat) :
    s.KeepsNames (t.bump f n) fs ↔ s.KeepsNames t fs := keepsNames_set h _

@[simp] theorem keepsNames_notify {s t : State} {fs : List Fld} (n : Nat) (b : Bool) :
    s.KeepsNames (t.notify n b) fs ↔ s.KeepsNames t fs :=
  forall₂_congr fun _ _ => by rw [get_notify]

theorem keepsNames_raise {s t : State} {fs : List Fld} {n : Nat}
    (h : (evCause n).all (fun e => fs.any (fun g => g.id == e.1.id)) = true) :
    s.KeepsNames (t.raise n) fs ↔ s.KeepsNames t fs := by
  rcases he : evCause n with _ | ⟨f, c⟩
  · simp [raise, he]
  · rw [he] at h
    simp [raise, raiseBits, he, keepsNames_set h]

theorem KeepsNames.trans {s t u : State} {fs : List Fld} (h : s.KeepsNames t fs) (k : t.KeepsNames u fs) :
    s.KeepsNames u fs := fun f hf => (k f hf).trans (h f hf)

/-- One change after another, each within the listed register places. -/
theorem keepsNames_foldl {α : Type} {s : State} {fs : List Fld} {g : State → α → State} (l : List α)
    (h : ∀ (t : State) (x : α), t.KeepsNames (g t x) fs) {t : State} (ht : s.KeepsNames t fs) : s.KeepsNames (l.foldl g t) fs := by
  induction l generalizing t with
  | nil => exact ht
  | cons x l ih => exact ih (ht.trans (h t x))

/-! ### What a raised event leaves in its status field (R28, R29) -/

/-- A field of another register place reads as before an event is raised. -/
theorem get_raise_apart (s : State) {n : Nat} {g : Fld} (h : (evCause n).all (fun e => !(g.id == e.1.id)) = true) :
    (s.raise n).get g = s.get g := by
  rcases he : evCause n with _ | ⟨f, m⟩
  · simp [raise, he]
  · rw [he] at h
    exact get_raise_other s n he (by simpa using h)

/-- The event's own cause bit is set. -/
theorem get_raise_bit (s : State) {n k : Nat} {f : Fld} (h : evCause n = some (f, 2 ^ k)) (hk : k < f.width) :
    (s.raise n).get f / 2 ^ k % 2 = 1 := by
  rw [get_raise_same s n h, ← Nat.toNat_testBit, Nat.testBit_mod_two_pow, Nat.testBit_or, Nat.testBit_two_pow_self]
  simp [hk]

/-- The one cause of an event whose status field is a flag is set. -/
theorem get_raise_flag (s : State) {n : Nat} {f : Fld} (h : evCause n = some (f, 1)) (hf : f.width = 1) :
    (s.raise n).get f = 1 := by
  have hbit := s.get_raise_bit (k := 0) h (by omega)
  have hlt : (s.raise n).get f < 2 := by
    rw [get_raise_same s n h, hf]
    exact Nat.mod_lt _ (by decide)
  simp only [pow_zero, Nat.div_one] at hbit
  omega

/-- A cause bit that is set stays set when an event with the same status field is raised. -/
theorem get_raise_keeps_bit (s : State) {n k m : Nat} {f : Fld} (he : evCause n = some (f, m)) (hk : k < f.width)
    (h : s.get f / 2 ^ k % 2 = 1) : (s.raise n).get f / 2 ^ k % 2 = 1 := by
  rw [get_raise_same s n he, ← Nat.toNat_testBit, Nat.testBit_mod_two_pow, Nat.testBit_or]
  rw [← Nat.toNat_testBit] at h
  have hbit : (s.get f).testBit k = true := by simpa using h
  simp [hk, hbit]

/-- A field reads a value written to it that fits. -/
theorem get_set_of_lt (s : State) {f : Fld} {v : Nat} (h : v < 2 ^ f.width) : (s.set f v).get f = v := by
  rw [get_set_same, Nat.mod_eq_of_lt h]

end State

end Sys2Proof.Machine
end

section
/-! The claim registers and the event routes: TAKE, DROP and the write of a route (R30 to R34, R504). -/

namespace Sys2Proof.Machine

namespace State

theorem masterId_lt (m : Master) : 0xFF00 + m.id < 2 ^ 16 := by
  cases m <;> decide

/-! ### TAKE and DROP -/

theorem claimSet_take (s : State) (m : Master) (slot : Nat) : s.claimSet m slot 1 = s.claimTake m slot := rfl
theorem claimSet_drop (s : State) (m : Master) (slot : Nat) : s.claimSet m slot 2 = s.claimDrop m slot := rfl

theorem claimTake_free {s : State} {m : Master} {slot : Nat} (hlo : 1632 ≤ slot) (hhi : slot ≤ 1695)
    (hown : s.get (F.SYS_CLAIM_OWNER slot) = 0 ∨ s.get (F.SYS_CLAIM_OWNER slot) = 0xFF00 + m.id) :
    s.claimTake m slot = (s.set (F.SYS_CLAIM_OWNER slot) (0xFF00 + m.id)).claimReq m stOK := by
  have hrange : ¬ (slot < 1632 ∨ 1695 < slot) := by omega
  simp only [claimTake, hrange, hown, if_true, if_false]

theorem claimTake_held {s : State} {m : Master} {slot : Nat} (hlo : 1632 ≤ slot) (hhi : slot ≤ 1695)
    (hfree : s.get (F.SYS_CLAIM_OWNER slot) ≠ 0) (hown : s.get (F.SYS_CLAIM_OWNER slot) ≠ 0xFF00 + m.id) :
    s.claimTake m slot = s.conflict slot (0xFF00 + m.id) := by
  have hrange : ¬ (slot < 1632 ∨ 1695 < slot) := by omega
  simp only [claimTake, hrange, hfree, hown, or_self, if_false]

theorem claimDrop_allowed {s : State} {m : Master} {slot : Nat}
    (h : s.get (F.SYS_CLAIM_OWNER slot) = 0xFF00 + m.id ∨ (m = .steward ∧ 0xFF00 ≤ s.get (F.SYS_CLAIM_OWNER slot))) :
    s.claimDrop m slot = s.set (F.SYS_CLAIM_OWNER slot) 0 := if_pos h

theorem claimDrop_refused {s : State} {m : Master} {slot : Nat} (hown : s.get (F.SYS_CLAIM_OWNER slot) ≠ 0xFF00 + m.id)
    (hm : m ≠ .steward) : s.claimDrop m slot = s.claimReq m stREFUSED :=
  if_neg (by simp [hown, hm])

/-! ### Routes -/

/-- The fields of a route. -/
def routeFields (n : Nat) : List Fld :=
  [F.SYS_EVROUTE_KIND n, F.SYS_EVROUTE_LEVEL n, F.SYS_EVROUTE_VECTOR n, F.SYS_EVROUTE_PIP n]

/-- The state with the route's fields written. -/
def routed' (s : State) (n w : Nat) : State := s.puts (routeFields n) w

theorem get_puts_route (s : State) (n w : Nat) :
    (s.routed' n w).get (F.SYS_EVROUTE_KIND n) = (F.SYS_EVROUTE_KIND n).of w ∧
    (s.routed' n w).get (F.SYS_EVROUTE_LEVEL n) = (F.SYS_EVROUTE_LEVEL n).of w ∧
    (s.routed' n w).get (F.SYS_EVROUTE_VECTOR n) = (F.SYS_EVROUTE_VECTOR n).of w ∧
    (s.routed' n w).get (F.SYS_EVROUTE_PIP n) = (F.SYS_EVROUTE_PIP n).of w := by
  refine ⟨?_, ?_, ?_, ?_⟩ <;>
    simp (disch := exact id rfl) only [get_set_same, routed', routeFields, puts, put, get_set_other, Fld.of, List.foldl_cons, List.foldl_nil, Nat.mod_mod]

theorem kind_of_route (n w : Nat) : (F.SYS_EVROUTE_KIND n).of w = natBits w 31 30 := by
  simp [Fld.of, natBits, F.SYS_EVROUTE_KIND]

/-- A route that does not name a pip, and that is the old one where the event is pending, is only written. -/
theorem evrouteSet_plain {s : State} {n w : Nat} (hkind : (F.SYS_EVROUTE_KIND n).of w ≠ 2)
    (hsame : s.evPending n = true → (s.routed' n w).routingOf n = s.routingOf n) : s.evrouteSet n w = s.routed' n w := by
  obtain ⟨hk, -⟩ := s.get_puts_route n w
  have hwritten : s.puts [F.SYS_EVROUTE_KIND n, F.SYS_EVROUTE_LEVEL n, F.SYS_EVROUTE_VECTOR n, F.SYS_EVROUTE_PIP n] w =
    s.routed' n w := rfl
  simp only [evrouteSet, hwritten, hk, hkind, false_and, if_false]
  exact if_neg fun h => h.2 (hsame h.1)

end State

open State in
/-- Settles O6, clause by clause: a claim register's write is a TAKE or a DROP, and each does one of two things. -/
theorem claimsAndRoutesComplete : Obligations.ClaimsAndRoutesComplete := by
  unfold Obligations.ClaimsAndRoutesComplete
  intro s m slot
  have hme := masterId_lt m
  have hslot : slot.val < 2 ^ 11 := slot.isLt
  refine ⟨fun h hlo hhi hown => ?_, fun h hlo hhi hfree hown => ?_, fun h hown => ?_, fun h hown hm => ?_,
    fun n w h hkind hsame => ?_⟩
  · refine ⟨_, next_of_write h (claimTake_free hlo hhi hown), ?_, ?_, get_set_of_lt _ (by decide), ?_⟩
    · simp (disch := exact id rfl) only [get_set_same, claimReq, get_set_other]
      exact Nat.mod_eq_of_lt hme
    · simp (disch := exact id rfl) only [get_set_same, claimReq, get_set_other]
      exact Nat.mod_eq_of_lt hme
    · simp [claimReq, onlyRegs_iff]
  · refine ⟨_, next_of_write h (claimTake_held hlo hhi hfree hown), ?_, ?_, ?_, ?_, ?_, ?_⟩
    · simp (disch := exact id rfl) only [get_set_same, conflict, get_raise_apart, get_set_other]
      rfl
    · simp (disch := exact id rfl) only [get_set_same, conflict, get_raise_apart, get_set_other]
      exact Nat.mod_eq_of_lt hslot
    · simp (disch := exact id rfl) only [get_set_same, conflict, get_raise_apart, get_set_other]
      exact Nat.mod_eq_of_lt hme
    · simp (disch := exact id rfl) only [get_set_same, conflict, get_raise_apart]
      rfl
    · exact get_raise_flag _ rfl rfl
    · simp [conflict, onlyRegsEv_iff, evCause]
  · refine ⟨_, next_of_write h (claimDrop_allowed hown), get_set_of_lt _ (Nat.two_pow_pos _), ?_⟩
    simp [onlyRegs_iff]
  · refine ⟨_, next_of_write h (claimDrop_refused hown hm), get_set_of_lt _ (by decide), ?_⟩
    simp [claimReq, onlyRegs_iff]
  · obtain ⟨hk, hl, hv, hp⟩ := s.get_puts_route n w.toNat
    rw [← kind_of_route n] at hkind ⊢
    have hroute : s.evPending n = true → (s.routed' n w.toNat).routingOf n = s.routingOf n := by
      intro hpend
      obtain ⟨h1, h2, h3, h4⟩ := hsame.resolve_left (by simp [hpend])
      simp only [routingOf, hk, hl, hv, hp, h1, h2, h3, h4]
    refine ⟨_, next_of_write h (evrouteSet_plain hkind hroute), hk, ?_⟩
    simp [routed', routeFields, puts, onlyRegs_iff]

end Sys2Proof.Machine
end

section
/-! The glitches of a reference: the count of TCLK periods is not bounded, but the time of a glitch is kept in 64 bits
(R50, log entry 12). -/

namespace Sys2Proof.Machine

/-- LOCKED to its reference, in TCLK period 2⁶⁴. -/
def glitchPast64Bits : State := { State.reset.set F.CLK_STAT_MODE clkLOCKED with tclk := 2 ^ 64 }

/-- Refutes O8: at TCLK count 2⁶⁴ a glitched edge leaves 0 in `I.CLK_GLAT`, which is 64 bits wide, not the count. -/
theorem not_referenceEventsComplete : ¬ Obligations.ReferenceEventsComplete := by
  unfold Obligations.ReferenceEventsComplete
  intro h
  obtain ⟨-, -, -, -, -, hglitch, -⟩ := h glitchPast64Bits 0
  obtain ⟨-, hat, -⟩ := State.of_next rfl (hglitch (by decide +kernel) (by decide +kernel))
  exact absurd hat (by decide +kernel)

end Sys2Proof.Machine
end

section
/-! The clock unit's operations: the fields they write, and that beyond registers, deliveries and free values they change
nothing (R44 to R67). -/

namespace Sys2Proof.Machine

namespace State

@[simp] theorem restFree_drawn (s : State) : s.drawn.restFree = s.restFree := rfl
@[simp] theorem get_drawn (s : State) (f : Fld) : s.drawn.get f = s.get f := rfl
@[simp] theorem restFree_setPpm (s : State) (x : Int) : (s.setPpm x).restFree = s.restFree := rfl
@[simp] theorem restFree_drawRef (s : State) : s.drawRef.restFree = s.restFree := rfl

@[simp] theorem keepsFields_setPpm {s t : State} {fs : List Fld} (hp : F.CLK_PPM_PPM ∈ fs) (hw : I.CLK_WORDAT ∈ fs) (x : Int) :
    s.KeepsFields (t.setPpm x) fs ↔ s.KeepsFields t fs := by
  simp [setPpm, hp, hw]

@[simp] theorem keepsFields_drawn {s t : State} {fs : List Fld} : s.KeepsFields t.drawn fs ↔ s.KeepsFields t fs := Iff.rfl

@[simp] theorem keepsFields_drawRef {s t : State} {fs : List Fld} (h : I.CLK_REFPPM ∈ fs) :
    s.KeepsFields t.drawRef fs ↔ s.KeepsFields t fs := by
  simp [drawRef, h]

/-- Bringing the root's offset up to date is a write of it, with free values taken, or nothing. -/
theorem ppmNow_cases (s : State) :
    s.ppmNow = s ∨ ∃ (u : State) (x : Int), (u = s.drawn ∨ u = { s with free := s.free + 2 }) ∧ s.ppmNow = u.setPpm x := by
  unfold ppmNow
  dsimp only
  split
  · split
    · exact .inr ⟨_, _, .inl rfl, rfl⟩
    · exact .inl rfl
  · split
    · exact .inl rfl
    · exact .inr ⟨_, _, .inr rfl, rfl⟩

@[simp] theorem restFree_ppmNow (s : State) : s.ppmNow.restFree = s.restFree := by
  rcases s.ppmNow_cases with h | ⟨u, x, rfl | rfl, h⟩ <;> rw [h] <;> rfl

theorem ppmNow_keeps (s : State) : s.KeepsFields s.ppmNow [F.CLK_PPM_PPM, I.CLK_WORDAT] := by
  rcases s.ppmNow_cases with h | ⟨u, x, hu, h⟩
  · rw [h]
    exact KeepsFields.refl s _
  · have hs : s.KeepsFields u [F.CLK_PPM_PPM, I.CLK_WORDAT] := by rcases hu with rfl | rfl <;> exact fun _ _ => rfl
    rw [h]
    simpa using hs

theorem get_ppmNow (s : State) {f : Fld} (h : [F.CLK_PPM_PPM, I.CLK_WORDAT].any (fun g => f.id == g.id) = false) :
    s.ppmNow.get f = s.get f := s.ppmNow_keeps.get_other h

@[simp] theorem keepsFields_ppmNow {s t : State} {fs : List Fld} (hp : F.CLK_PPM_PPM ∈ fs) (hw : I.CLK_WORDAT ∈ fs) :
    s.KeepsFields t.ppmNow fs ↔ s.KeepsFields t fs := by
  have h : t.KeepsFields t.ppmNow fs := t.ppmNow_keeps.mono (by simp [hp, hw])
  exact forall₂_congr fun f hf => by rw [h f hf]

theorem get_drawRef (s : State) {f : Fld} (h : (f.id == I.CLK_REFPPM.id) = false) : s.drawRef.get f = s.get f :=
  get_set_other _ _ h

/-! ### What the selection of a reference, HOLDOVER and ACQUIRE write -/

theorem onlyRegsFree_selectRef (s : State) (i : Nat) : s.OnlyRegsFree (s.selectRef i) modeFields := by
  have h : s.OnlyRegsFree (((((s.ppmNow.drawRef.set F.CLK_STAT_ACTIVE i).set F.CLK_STAT_MODE clkPULLING).set I.CLK_LOST 7).set
      I.CLK_HOEXP 0).set I.CLK_GLRUN 0) modeFields := by
    simp [onlyRegsFree_iff, modeFields]
  unfold selectRef
  dsimp only
  split
  · rw [onlyRegsFree_iff] at h ⊢
    exact ⟨(restFree_raise _ _).trans h.1, (keepsFields_raise (by simp [evCause, modeFields])).mpr h.2⟩
  · exact h

theorem onlyRegsFree_holdOver (s : State) : s.OnlyRegsFree s.holdOver modeFields := by
  simp [onlyRegsFree_iff, holdOver, modeFields, evCause]

theorem onlyRegsFree_enterAcquire (s : State) : s.OnlyRegsFree s.enterAcquire modeFields := by
  simp [onlyRegsFree_iff, enterAcquire, modeFields]

theorem OnlyRegsFree.keeps {s t : State} {fs : List Fld} (h : s.OnlyRegsFree t fs) : s.KeepsFields t fs := h.2

/-- One change after another, within listed fields. -/
theorem OnlyRegsFree.trans_subset {s t u : State} {fs gs : List Fld} (h : s.OnlyRegsFree t gs) (k : t.OnlyRegsFree u fs)
    (hs : fs ⊆ gs) : s.OnlyRegsFree u gs := by
  rw [onlyRegsFree_iff] at *
  exact ⟨k.1.trans h.1, h.2.trans (k.2.mono hs)⟩

end State

end Sys2Proof.Machine
end

section
/-! Writes of the clock unit's registers, and when a rate change and a load of the frame counter take effect (R47, R56 to
R66). -/

namespace Sys2Proof.Machine

namespace State

/-! ### `CLK_REFPRI` -/

/-- What a write of reference entry `i` puts there. -/
def refpriPut (s : State) (i w : Nat) : State :=
  (s.puts [F.CLK_REFPRI_EN i, F.CLK_REFPRI_KIND i, F.CLK_REFPRI_INST i, F.CLK_REFPRI_NOM i] w).clkStatus stOK

theorem refpriSet_idle {s : State} {i w : Nat} (hbad : s.refpriBad w = false)
    (h : ¬(s.get F.CLK_STAT_ACTIVE = i ∧ s.get F.CLK_STAT_MODE ≠ clkFREERUN)) : s.refpriSet i w = s.refpriPut i w := by
  simp only [refpriSet, hbad, Bool.false_eq_true, if_false, h]
  rfl

theorem get_refpriPut (s : State) (i w : Nat) :
    (s.refpriPut i w).get F.CLK_STAT_STATUS = stOK ∧
    (s.refpriPut i w).get (F.CLK_REFPRI_EN i) = (F.CLK_REFPRI_EN i).of w ∧
    (s.refpriPut i w).get (F.CLK_REFPRI_KIND i) = (F.CLK_REFPRI_KIND i).of w ∧
    (s.refpriPut i w).get (F.CLK_REFPRI_NOM i) = (F.CLK_REFPRI_NOM i).of w := by
  refine ⟨get_set_of_lt _ (by decide), ?_, ?_, ?_⟩ <;>
    simp (disch := exact id rfl) only [refpriPut, clkStatus, puts, put, get_set_other, get_set_same, Fld.of, List.foldl_cons,
      List.foldl_nil, Nat.mod_mod]

/-- Which entry is best does not depend on what is written to the entry excluded. -/
theorem bestRef_congr {s t : State} {i : Nat} (h : ∀ k, k ≠ i → t.refUsable k = s.refUsable k) :
    t.bestRef i = s.bestRef i := by
  unfold bestRef
  congr 1
  funext k
  by_cases hk : k = i
  · simp [hk]
  · simp [hk, h k hk]

/-- Entry `i` as a write of the active entry leaves it, before another one is selected. -/
def refpriDrop (s : State) (i w : Nat) : State := ((s.refpriPut i w).refTake i).set (F.CLK_REFPRI_QUAL i) 0

theorem onlyRegs_refpriDrop (s : State) (i w : Nat) :
    s.OnlyRegs (s.refpriDrop i w) ([F.CLK_STAT_STATUS, F.CLK_REFPRI_EN i, F.CLK_REFPRI_KIND i, F.CLK_REFPRI_INST i,
      F.CLK_REFPRI_NOM i] ++ refFields i) := by
  simp [onlyRegs_iff, refpriDrop, refpriPut, refTake, clkStatus, refFields]

theorem refUsable_refpriDrop (s : State) {i k : Nat} (w : Nat) (h : k ≠ i) :
    (s.refpriDrop i w).refUsable k = s.refUsable k := by
  have hrest {f : Fld} (hf : (f.id, f.ix) ∉ ([F.CLK_STAT_STATUS, F.CLK_REFPRI_EN i, F.CLK_REFPRI_KIND i, F.CLK_REFPRI_INST i,
      F.CLK_REFPRI_NOM i] ++ refFields i).map (fun g => (g.id, g.ix))) : (s.refpriDrop i w).get f = s.get f :=
    (s.onlyRegs_refpriDrop i w).2 f hf
  have hen : (s.refpriDrop i w).get (I.REF_EN k) = s.get (I.REF_EN k) :=
    hrest (by simp [refFields, I.REF_EN, I.REF_KIND, I.REF_INST, F.CLK_STAT_STATUS, F.CLK_REFPRI_EN, F.CLK_REFPRI_KIND,
      F.CLK_REFPRI_INST, F.CLK_REFPRI_NOM, F.CLK_REFPRI_QUAL, F.CLK_REFPRI_REJ, h])
  have hqual : (s.refpriDrop i w).get (F.CLK_REFPRI_QUAL k) = s.get (F.CLK_REFPRI_QUAL k) :=
    hrest (by simp [refFields, I.REF_EN, I.REF_KIND, I.REF_INST, F.CLK_STAT_STATUS, F.CLK_REFPRI_EN, F.CLK_REFPRI_KIND,
      F.CLK_REFPRI_INST, F.CLK_REFPRI_NOM, F.CLK_REFPRI_QUAL, F.CLK_REFPRI_REJ, h])
  have hkind : (s.refpriDrop i w).get (I.REF_KIND k) = s.get (I.REF_KIND k) :=
    hrest (by simp [refFields, I.REF_EN, I.REF_KIND, I.REF_INST, F.CLK_STAT_STATUS, F.CLK_REFPRI_EN, F.CLK_REFPRI_KIND,
      F.CLK_REFPRI_INST, F.CLK_REFPRI_NOM, F.CLK_REFPRI_QUAL, F.CLK_REFPRI_REJ, h])
  have hinst : (s.refpriDrop i w).get (I.REF_INST k) = s.get (I.REF_INST k) :=
    hrest (by simp [refFields, I.REF_EN, I.REF_KIND, I.REF_INST, F.CLK_STAT_STATUS, F.CLK_REFPRI_EN, F.CLK_REFPRI_KIND,
      F.CLK_REFPRI_INST, F.CLK_REFPRI_NOM, F.CLK_REFPRI_QUAL, F.CLK_REFPRI_REJ, h])
  have hother {f : Fld} (hf : ([F.CLK_STAT_STATUS, F.CLK_REFPRI_EN i, F.CLK_REFPRI_KIND i, F.CLK_REFPRI_INST i,
      F.CLK_REFPRI_NOM i] ++ refFields i).any (fun g => f.id == g.id) = false) : (s.refpriDrop i w).get f = s.get f :=
    KeepsFields.get_other (s.onlyRegs_refpriDrop i w).2 hf
  have hlock (j : Nat) : (s.refpriDrop i w).get (F.AES_RXSTAT_LOCK j) = s.get (F.AES_RXSTAT_LOCK j) := hother rfl
  have hport (j : Nat) : (s.refpriDrop i w).get (F.AP_CTRL_STATE j) = s.get (F.AP_CTRL_STATE j) := hother rfl
  have hmaster (j : Nat) : (s.refpriDrop i w).get (F.AP_CFG_MASTER j) = s.get (F.AP_CFG_MASTER j) := hother rfl
  simp only [refUsable, refPresent, on, hen, hqual, hkind, hinst, hlock, hport, hmaster]

theorem refpriSet_active {s : State} {i w : Nat} (hbad : s.refpriBad w = false) (hact : s.get F.CLK_STAT_ACTIVE = i)
    (hmode : s.get F.CLK_STAT_MODE ≠ clkFREERUN) (hbest : s.bestRef i = none) :
    s.refpriSet i w = (s.refpriDrop i w).holdOver.set I.CLK_HOEXP 1 := by
  have hdrop : (s.refpriDrop i w).get F.CLK_STAT_ACTIVE = i :=
    (KeepsFields.get_other (s.onlyRegs_refpriDrop i w).2 rfl).trans hact
  have hnone : (s.refpriDrop i w).bestRef i = none :=
    (bestRef_congr fun _ hk => s.refUsable_refpriDrop w hk).trans hbest
  have hset : s.refpriSet i w = (s.refpriDrop i w).reselect := by
    simp only [refpriSet, hbad, Bool.false_eq_true, if_false, hact, hmode, ne_eq, not_false_eq_true, and_self, if_true]
    rfl
  rw [hset, reselect, hdrop, hnone]

/-! ### `CLK_CTRL`, loads and rates -/

def ctrlFields : List Fld := [F.CLK_CTRL_REVERT, F.CLK_CTRL_BW, F.CLK_CTRL_REVERT_T, F.CLK_CTRL_HOLDOVER_MAX]

theorem reacq_word (w : Word) : natBit (w ||| 0x80000000).toNat 31 = true := by
  have h : natBit (w ||| 0x80000000).toNat 31 = (w ||| 0x80000000).toNat.testBit 31 := by
    rw [natBit, Nat.testBit_eq_decide_div_mod_eq]
    exact (Bool.beq_eq_decide_eq _ _)
  have hbit : (0x80000000 : Word).toNat.testBit 31 = true := by decide
  rw [h, BitVec.toNat_or, Nat.testBit_or, hbit, Bool.or_true]

theorem clkCtrlSet_reacq {s : State} {w : Nat} (hw : natBit w 31 = true) (hstop : s.get F.SYS_ENGINE_STATE = 0)
    (hoff : s.clockUsersOff = true) : s.clkCtrlSet w = ((s.puts ctrlFields w).enterAcquire).clkStatus stOK := by
  simp only [clkCtrlSet, hw, hstop, hoff, if_true, and_self]
  rfl

theorem clkCtrlSet_refused {s : State} {w : Nat} (hw : natBit w 31 = true)
    (h : s.get F.SYS_ENGINE_STATE ≠ 0 ∨ s.clockUsersOff = false) : s.clkCtrlSet w = s.clkStatus stREFUSED := by
  have hno : ¬(s.get F.SYS_ENGINE_STATE = 0 ∧ s.clockUsersOff = true) := by
    rcases h with h | h <;> simp [h]
  simp only [clkCtrlSet, hw, if_true, hno, if_false]

theorem frcLoadSet_go {s : State} (hstop : s.get F.SYS_ENGINE_STATE = 0)
    (hv : s.pair F.CLK_FRC_SET_LO_V F.CLK_FRC_SET_HI_V % 64 = 0) :
    s.frcLoadSet 1 =
      ((s.set I.FRC_LOADP 1).set I.FRC_LOADV (s.pair F.CLK_FRC_SET_LO_V F.CLK_FRC_SET_HI_V)).clkStatus stOK := by
  have hbit : natBit 1 0 = true := rfl
  simp [frcLoadSet, hbit, hstop, hv]

theorem frcSet_frc (s : State) (v : Nat) : (s.frcSet v).frc = v % 2 ^ 64 := by
  unfold frcSet
  dsimp only
  split <;> rfl

theorem get_frcSet (s : State) (v : Nat) {f : Fld} (hat : (f.id == I.RATE_AT.id) = false)
    (htick : (f.id == I.TICKED.id) = false) : (s.frcSet v).get f = s.get f := by
  unfold frcSet
  dsimp only
  split
  · rw [get_set_other _ _ hat, get_set_other _ _ htick]
    rfl
  · rw [get_set_other _ _ htick]
    rfl

theorem rateSet_refused {s : State} {w : Nat} (h : s.get F.SYS_ENGINE_STATE ≠ 0) :
    s.rateSet w = s.set F.SYS_RATE_STATUS stREFUSED := if_pos h

/-- The rate's fields written, with STATUS OK. -/
def ratePut (s : State) (w : Nat) : State :=
  (s.puts [F.SYS_RATE_BLOCK, F.SYS_RATE_MULT, F.SYS_RATE_FAMILY] w).set F.SYS_RATE_STATUS stOK

theorem get_ratePut (s : State) (w : Nat) :
    (s.ratePut w).get F.SYS_RATE_STATUS = stOK ∧ (s.ratePut w).get F.SYS_RATE_BLOCK = F.SYS_RATE_BLOCK.of w ∧
    (s.ratePut w).get F.SYS_RATE_MULT = F.SYS_RATE_MULT.of w ∧
    (s.ratePut w).get F.SYS_RATE_FAMILY = F.SYS_RATE_FAMILY.of w := by
  refine ⟨get_set_of_lt _ (by decide), ?_, ?_, ?_⟩ <;>
    simp (disch := exact id rfl) only [ratePut, puts, put, get_set_other, get_set_same, Fld.of, List.foldl_cons,
      List.foldl_nil, Nat.mod_mod]

/-- A rate accepted is written; it is pending unless it is the one in effect (R65, R66). -/
theorem rateSet_accepted {s : State} {w : Nat} (hstop : s.get F.SYS_ENGINE_STATE = 0) (hm : F.SYS_RATE_MULT.of w ≠ 3) :
    (s.rateSet w = (s.ratePut w).set I.RATE_PEND 0 ∧ F.SYS_RATE_BLOCK.of w = s.get I.RATE_B) ∨
    s.rateSet w = ((s.ratePut w).set I.RATE_PEND 1).set I.RATE_AT ((s.frc / 64 + 1) * 64) := by
  obtain ⟨-, hb, -⟩ := s.get_ratePut w
  by_cases h : (s.ratePut w).get F.SYS_RATE_BLOCK = s.get I.RATE_B ∧ (s.ratePut w).get F.SYS_RATE_MULT = s.get I.RATE_M ∧
    (s.ratePut w).get F.SYS_RATE_FAMILY = s.get I.RATE_F
  · refine .inl ⟨?_, hb ▸ h.1⟩
    simp only [rateSet, hstop, ne_eq, not_true_eq_false, if_false, hm]
    exact if_pos h
  · refine .inr ?_
    simp only [rateSet, hstop, ne_eq, not_true_eq_false, if_false, hm]
    exact if_neg h

/-- The pending rate as it comes into effect. -/
def rateTaken (s : State) : State :=
  (((s.set I.RATE_PEND 0).set I.RATE_M (s.get F.SYS_RATE_MULT)).set I.RATE_B (s.get F.SYS_RATE_BLOCK)).set I.RATE_F
    (s.get F.SYS_RATE_FAMILY)

theorem onlyRegsFree_deadlineClamp (s : State) :
    s.OnlyRegsFree s.deadlineClamp [F.QN_STAT_CLAMP, F.QN_EVT_EVT] := by
  unfold deadlineClamp
  split <;> simp [onlyRegsFree_iff, evCause]

theorem rateApply_pending {s : State} (hp : s.get I.RATE_PEND ≠ 0) (hat : s.get I.RATE_AT ≤ s.frc) :
    s.rateApply = (if s.get F.SYS_RATE_FAMILY ≠ s.get I.RATE_F then s.rateTaken.enterAcquire else s.rateTaken).deadlineClamp := by
  simp [rateApply, on, hp, hat, rateTaken]

/-- With a change of family ACQUIRE follows, and else nothing of the clock's mode changes. -/
theorem rateApply_frame {s : State} (hp : s.get I.RATE_PEND ≠ 0) (hat : s.get I.RATE_AT ≤ s.frc) :
    ∃ u : State, s.rateTaken.OnlyRegsFree u modeFields ∧ u.OnlyRegsFree s.rateApply [F.QN_STAT_CLAMP, F.QN_EVT_EVT] ∧
      (s.get F.SYS_RATE_FAMILY ≠ s.get I.RATE_F → u.get F.CLK_STAT_MODE = clkACQUIRE) := by
  rw [rateApply_pending hp hat]
  by_cases hfam : s.get F.SYS_RATE_FAMILY ≠ s.get I.RATE_F
  · rw [if_pos hfam]
    refine ⟨_, s.rateTaken.onlyRegsFree_enterAcquire, onlyRegsFree_deadlineClamp _, fun _ => ?_⟩
    simp (disch := exact id rfl) only [enterAcquire, get_set_other, get_set_same]
    rfl
  · rw [if_neg hfam]
    exact ⟨_, onlyRegsFree_iff.mpr ⟨rfl, KeepsFields.refl _ _⟩, onlyRegsFree_deadlineClamp _, fun h => absurd h hfam⟩

end State

open State in
/-- Settles O9, clause by clause. -/
theorem clockWritesComplete : Obligations.ClockWritesComplete := by
  unfold Obligations.ClockWritesComplete
  intro s m w
  refine ⟨fun i h hbad hidle => ?_, fun i h hbad hact hmode hbest => ?_, fun h hstop hoff => ?_, fun h href => ?_,
    fun h hstop hv => ?_, fun hp hmode => ?_, fun h hstop hm => ?_, fun h hrun => ?_, fun hp hat => ?_⟩
  · obtain ⟨hst, hen, hkind, hnom⟩ := s.get_refpriPut i w.toNat
    refine ⟨_, next_of_write h (refpriSet_idle hbad hidle), hst, hen, hkind, hnom, ?_⟩
    simp [refpriPut, clkStatus, onlyRegs_iff]
  · obtain ⟨hst, hen, -, -⟩ := s.get_refpriPut i w.toNat
    have hhold := (s.refpriDrop i w.toNat).onlyRegsFree_holdOver
    have hdrop := s.onlyRegs_refpriDrop i w.toNat
    refine ⟨_, next_of_write h (refpriSet_active hbad hact hmode hbest), ?_, ?_, ?_, get_set_of_lt _ (by decide), ?_, ?_, ?_⟩
    · rw [get_set_other _ _ rfl, hhold.keeps.get_other rfl, ← hst]
      simp (disch := exact id rfl) only [refpriDrop, refTake, get_set_other]
    · rw [get_set_other _ _ rfl, hhold.keeps.get_other rfl]
      exact get_set_of_lt _ (Nat.two_pow_pos _)
    · simp (disch := exact id rfl) only [holdOver, get_raise_apart, get_set_other, get_set_same]
      rfl
    · rw [get_set_other _ _ rfl, hhold.keeps.get_other rfl, ← hen]
      simp (disch := exact id rfl) only [refpriDrop, refTake, get_set_other]
    · rw [get_set_other _ _ rfl, hhold.keeps.get_other rfl, refpriDrop, get_set_other _ _ rfl, refTake, get_set_other _ _ rfl,
        get_set_other _ _ rfl, get_set_same, hen]
      exact Nat.mod_eq_of_lt (Nat.mod_lt _ (Nat.two_pow_pos _))
    · rw [onlyRegsFree_iff] at hhold ⊢
      rw [onlyRegs_iff] at hdrop
      exact ⟨hhold.1.trans (restFree_of_rest hdrop.1.1), (keepsFields_set (by simp [modeFields]) _).mpr
        ((hdrop.2.mono (List.subset_append_left _ _)).trans (hhold.2.mono (List.subset_append_right _ _)))⟩
  · refine ⟨_, next_of_write h (clkCtrlSet_reacq (reacq_word w) hstop hoff), get_set_of_lt _ (by decide), ?_, ?_, ?_⟩
    · simp (disch := exact id rfl) only [clkStatus, enterAcquire, get_set_other, get_set_same]
      rfl
    · simp (disch := exact id rfl) only [clkStatus, enterAcquire, get_set_other, get_set_same]
      rfl
    · simp [onlyRegsFree_iff, clkStatus, enterAcquire, modeFields, ctrlFields]
  · refine ⟨_, next_of_write h (clkCtrlSet_refused (reacq_word w) href), get_set_of_lt _ (by decide), ?_⟩
    simp [clkStatus, onlyRegs_iff]
  · refine ⟨_, next_of_write h (frcLoadSet_go hstop hv), get_set_of_lt _ (by decide), ?_, ?_, ?_⟩
    · simp (disch := exact id rfl) only [clkStatus, get_set_other, get_set_same]
      rfl
    · simp (disch := exact id rfl) only [clkStatus, get_set_other, get_set_same]
      rfl
    · simp [clkStatus, onlyRegs_iff]
  · have hgo : s.frcLoadDone = (s.set I.FRC_LOADP 0).frcSet (s.get I.FRC_LOADV) := by
      simp [frcLoadDone, on, hp, hmode]
    refine ⟨_, next_of_eq hgo, frcSet_frc _ _, ?_, ?_, fun f h1 h2 h3 => ?_⟩
    · rw [get_frcSet _ _ rfl rfl]
      exact get_set_of_lt _ (by decide)
    · unfold frcSet
      dsimp only
      split <;> rfl
    · have e1 : (f.id == I.FRC_LOADP.id) = false := by simpa using h1
      have e2 : (f.id == I.RATE_AT.id) = false := by simpa using h2
      have e3 : (f.id == I.TICKED.id) = false := by simpa using h3
      rw [get_frcSet _ _ e2 e3, get_set_other _ _ e1]
  · obtain ⟨hst, hb, hmu, hf⟩ := s.get_ratePut w.toNat
    rcases rateSet_accepted hstop hm with ⟨hset, hblock⟩ | hset
    · refine ⟨_, next_of_write h hset, ?_, ?_, ?_, ?_, fun hne => absurd hblock hne, ?_⟩
      · rw [get_set_other _ _ rfl, hst]
      · rw [get_set_other _ _ rfl, hb]
      · rw [get_set_other _ _ rfl, hmu]
      · rw [get_set_other _ _ rfl, hf]
      · simp [ratePut, onlyRegs_iff]
    · refine ⟨_, next_of_write h hset, ?_, ?_, ?_, ?_, fun _ => ?_, ?_⟩
      · rw [get_set_other _ _ rfl, get_set_other _ _ rfl, hst]
      · rw [get_set_other _ _ rfl, get_set_other _ _ rfl, hb]
      · rw [get_set_other _ _ rfl, get_set_other _ _ rfl, hmu]
      · rw [get_set_other _ _ rfl, get_set_other _ _ rfl, hf]
      · rw [get_set_other _ _ rfl]
        exact get_set_of_lt _ (by decide)
      · simp [ratePut, onlyRegs_iff]
  · exact ⟨_, next_of_write h (rateSet_refused hrun), get_set_of_lt _ (by decide), by simp [onlyRegs_iff]⟩
  · obtain ⟨u, htaken, hclamp, hmode⟩ := rateApply_frame hp hat
    have hkept {f : Fld} (h1 : [F.QN_STAT_CLAMP, F.QN_EVT_EVT].any (fun g => f.id == g.id) = false)
        (h2 : modeFields.any (fun g => f.id == g.id) = false) : s.rateApply.get f = s.rateTaken.get f :=
      (hclamp.keeps.get_other h1).trans (htaken.keeps.get_other h2)
    refine ⟨_, rfl, ?_, ?_, ?_, ?_, fun hfam => (hclamp.keeps.get_other rfl).trans (hmode hfam), ?_⟩
    · rw [hkept rfl rfl]
      simp (disch := exact id rfl) only [rateTaken, get_set_other, get_set_same]
      rfl
    · rw [hkept rfl rfl]
      simp (disch := exact id rfl) only [rateTaken, get_set_other, get_set_same]
      rfl
    · rw [hkept rfl rfl]
      simp (disch := exact id rfl) only [rateTaken, get_set_other, get_set_same]
      rfl
    · rw [hkept rfl rfl]
      exact get_set_same _ _ _
    · rw [onlyRegsFree_iff] at htaken hclamp ⊢
      have htake : s.KeepsFields s.rateTaken [I.RATE_PEND, I.RATE_M, I.RATE_B, I.RATE_F] := by simp [rateTaken]
      exact ⟨hclamp.1.trans (htaken.1.trans rfl), ((htake.mono (by simp)).trans
        (htaken.2.mono (List.subset_append_right _ _))).trans (hclamp.2.mono (by simp))⟩

end Sys2Proof.Machine
end

section
/-! A write of an MCLKO divider, in a state whose EN field holds more than its one bit (R60, log entry 2). -/

namespace Sys2Proof.Machine

/-- MCLKO0 with a field value that no write leaves: EN is one bit wide and holds 96. -/
def wideMclkoEn : State := { State.reset with regs := [(((F.CLK_MCLKO_EN 0).id, 0), 96)] }

/-- Refutes O10: EN kept by a write of DIV is 96 there, which reaches into DIV, so that a DIV of 0 is written as 6 and is not
refused with BADARG. The clause bounds DIV, not EN. -/
theorem not_clockOutputsComplete : ¬ Obligations.ClockOutputsComplete := by
  unfold Obligations.ClockOutputsComplete
  intro h
  obtain ⟨-, -, -, hrefused, -⟩ := h wideMclkoEn .steward 0
  obtain ⟨hstatus, -⟩ := State.of_next rfl (hrefused 0 (by decide +kernel) (by decide))
  exact absurd hstatus (by decide +kernel)

end Sys2Proof.Machine
end

section
/-! A late count past the 32 bits of `QN_LATE` is read whole: the word kept for a master is 64 bits wide (R10, R13). -/

namespace Sys2Proof.Machine

/-- `QN_LATE` with a value that no count leaves: its field is 32 bits wide and holds 2³². -/
def wideLateCount : State := { State.reset with regs := [((F.QN_LATE_N.id, 0), 2 ^ 32)] }

/-- Refutes O2: the read-clear of `QN_LATE` there leaves the master the word 2³², not its low 32 bits. -/
theorem not_registerAccessesComplete : ¬ Obligations.RegisterAccessesComplete := by
  unfold Obligations.RegisterAccessesComplete
  intro h
  obtain ⟨-, -, -, -, -, -, -, -, -, -, hread, -⟩ := h wideLateCount .steward 0
  obtain ⟨hword, -⟩ := State.of_next rfl (hread (by decide +kernel))
  exact absurd hword (by decide +kernel)

/-- Refutes O4: a read of `QN_LATE` over PCIe answers the word 2³² there, not its low 32 bits. -/
theorem not_hostAccessesComplete : ¬ Obligations.HostAccessesComplete := by
  unfold Obligations.HostAccessesComplete
  intro h
  obtain ⟨hread, -⟩ := h wideLateCount
  obtain ⟨hword, -⟩ := State.of_next rfl (hread 0x50018 0 (by decide +kernel) rfl)
  exact absurd hword (by decide +kernel)

end Sys2Proof.Machine
end

section
/-! An idle pip that is armed when it is enabled is disarmed (R157): the frame of O23's clause on pip enables leaves the arm bit
out. -/

namespace Sys2Proof.Machine

/-- Pip 2 is disabled, idle and armed; its image is entry 1, 4 words long. -/
def armedIdlePip : State := ((State.reset.set (F.QN_IMG1_LENW 1) 4).set (F.PIP0_IMAGE 2) 1).set (I.PIP_ARM 2) 1

/-- Refutes O23: the enable of pip 2 there clears `I.PIP_ARM 2`, a field that the clause says is kept. -/
theorem not_quinceWritesComplete : ¬ Obligations.QuinceWritesComplete := by
  unfold Obligations.QuinceWritesComplete
  intro h
  obtain ⟨-, -, -, henable, -⟩ := h armedIdlePip .steward 2 0
  obtain ⟨-, -, -, -, hkeeps⟩ := State.of_next rfl
    (henable (by decide +kernel) (by decide +kernel) (by decide +kernel) (by decide +kernel))
  exact absurd (hkeeps (I.PIP_ARM 2) (by decide)) (by decide +kernel)

end Sys2Proof.Machine
end

section
/-! A direct write of a phasor whose kept phase holds more than its 48 bits (R201, log entry 2). -/

namespace Sys2Proof.Machine

/-- Phasor 1 with a phase that no write leaves: `I.PH_P` is 48 bits wide and holds 2⁶⁴. -/
def widePhasorPhase : State := { State.reset with regs := [(((I.PH_P 1).id, 1), 2 ^ 64)] }

/-- Refutes O27: the kept word 1 there holds 2³² above the upper half of the phase, and the write of word 3 carries it into the
step, which the clause gives as 0. -/
theorem not_voiceUnitCompletes : ¬ Obligations.VoiceUnitCompletes := by
  unfold Obligations.VoiceUnitCompletes
  intro h
  obtain ⟨-, -, -, -, -, -, -, -, hdirect⟩ := h widePhasorPhase .steward 0 0
  obtain ⟨-, -, hstep, -⟩ := State.of_next rfl (hdirect 1 (by decide +kernel))
  exact absurd hstep (by decide +kernel)

end Sys2Proof.Machine
end

section
/-! A deferred note start enables the pips of its slots, and that writes Quince's status (R152, R190): the frame of O26's first
clause leaves `QN_STAT.STATUS` out. -/

namespace Sys2Proof.Machine

/-- A NOTE_ON of group 1 and note ID 7, READY. -/
def waitingNoteOn : VWord :=
  { word := 2 ^ 72 + 2 ^ 64 + 2 ^ 48 * 7, src := 0x58, blk := 4, ready := true, late := false, wait := none }

/-- The voice manager is ON, group 1 is enabled with its templates, its first word waits, and Quince's last status was not OK. -/
def deferredNote : State :=
  { [(F.VM_STAT_STATE, 2), (F.VM_GRP0_EN 1, 1), (F.PIP1_CLASS 9000, 1), (F.QN_IMG1_LENW 0, 4), (F.VM_GRP1_TPL_ON 1, 9000),
      (F.VM_GRP1_TPL_RND 1, 9001), (I.VM_BLK 1, 1), (F.QN_STAT_STATUS, stBUSY)].foldl
      (fun s e => s.set e.1 e.2) State.reset with
    vm := { words := [waitingNoteOn], attach := [], phasor := [] } }

/-- Refutes O26: the note start there leaves `QN_STAT.STATUS` OK, a field that the clause says is kept. -/
theorem not_waitingGroupsComplete : ¬ Obligations.WaitingGroupsComplete := by
  unfold Obligations.WaitingGroupsComplete
  intro h
  obtain ⟨hstart, -⟩ := h deferredNote 1 waitingNoteOn
  obtain ⟨-, -, -, -, -, -, -, hkeeps⟩ := State.of_next rfl (hstart (by decide +kernel) (by decide +kernel) (by decide +kernel)
    (by decide +kernel) (by decide +kernel) (by decide +kernel) (by decide +kernel) (by decide +kernel) (by decide +kernel))
  exact absurd (hkeeps F.QN_STAT_STATUS (by decide)) (by decide +kernel)

end Sys2Proof.Machine
end

section
/-! A meter whose peak field holds more than its 16 bits: its word is read into the 64 bits kept for a master (R360, R503). -/

namespace Sys2Proof.Machine

/-- Meter point 5 with a peak that no measurement leaves: TPK is 16 bits wide and holds 2³². -/
def widePeak : State := { State.reset with regs := [(((F.CUR_MTR0_TPK 5).id, 5), 2 ^ 32)] }

/-- Refutes O42: a read of that meter leaves the master its whole word, not the word's low 32 bits. -/
theorem not_currantCommandsComplete : ¬ Obligations.CurrantCommandsComplete := by
  unfold Obligations.CurrantCommandsComplete
  intro h
  obtain ⟨-, -, -, -, -, hpeaks, -⟩ := h widePeak .steward 0
  obtain ⟨hword, -⟩ := State.of_next rfl (hpeaks 5 (by decide +kernel))
  exact absurd hword (by decide +kernel)

end Sys2Proof.Machine
end

section
/-! The steward's EVPOP of a unit event whose number is wider than a lane (R150, log entry 90). -/

namespace Sys2Proof.Machine

/-- The steward at an issue slot, with an event 2³² at the front of its queue, which no unit raises. -/
def wideUnitEvent : State := { State.reset with cores := [(64, Core.reset)], stewardQ := [(2 ^ 32, 0)] }

/-- EVPOP into V3, without a move. -/
def evpopWord : CoreWord := ⟨false, false, 3, 4, 5, 1, 0, 0⟩

/-- Refutes O15: the number is written to lane 0 as it stands, not its low 32 bits. -/
theorem not_serviceReadsComplete : ¬ Obligations.ServiceReadsComplete := by
  unfold Obligations.ServiceReadsComplete
  intro h
  obtain ⟨-, -, -, -, -, hpop⟩ := h wideUnitEvent .steward evpopWord 64 _ rfl rfl (by decide +kernel) (by decide +kernel)
  obtain ⟨hlane, -⟩ := State.of_next rfl (hpop (2 ^ 32, 0) [] rfl rfl)
  exact absurd hlane (by decide +kernel)

end Sys2Proof.Machine
end

section
/-! RDSYS of the core's state at the end of a loop body (R88, R140): the loop's count goes down with the instruction. -/

namespace Sys2Proof.Machine

/-- The steward at the last instruction of a loop body, with two passes left; nothing is in flight. -/
def stewardAtLoopEnd : State :=
  { State.reset with cores := [(64, { Core.reset with p := { Core.reset.p with r := [(ixLC 0, 2)], lv := 1 } })] }

/-- RDSYS 2 with FLG, into V3, without a move. -/
def rdsysStateWord : CoreWord := ⟨false, true, 3, 4, 5, 1, 2, 0⟩

/-- Refutes O20: RDSYS 2 with FLG there leaves LC one lower, a register that the clause says is kept. -/
theorem not_systemInstructionsComplete : ¬ Obligations.SystemInstructionsComplete := by
  unfold Obligations.SystemInstructionsComplete
  intro h
  obtain ⟨-, -, -, -, -, -, -, -, -, -, -, -, -, -, hstate, -⟩ :=
    h stewardAtLoopEnd .steward rdsysStateWord 64 _ rfl rfl (by decide +kernel)
  obtain ⟨-, -, -, hclears⟩ := State.of_next rfl (hstate (by decide +kernel) (by decide +kernel))
  obtain ⟨-, -, hkeeps⟩ := hclears rfl (by decide +kernel)
  exact absurd (hkeeps (ixLC 0) (by decide)) (by decide +kernel)

end Sys2Proof.Machine
end

section
/-! What an instruction leaves behind, for any list of results beside its parallel move (R77, R106 to R109): the core after it,
and what a register reads when a result for it has become visible. -/

namespace Sys2Proof.Machine

/-! ### The parallel move changes neither the bank nor the rest of the machine by itself (R107) -/

/-- An action that leaves `bank` and `sys` of its effect alone. -/
def Act.Plain (a : Act) : Prop := ∀ e, a = .go e → e.bank = id ∧ e.sys = id

namespace Act

theorem plain_go {e : Eff} : Plain (.go e) ↔ e.bank = id ∧ e.sys = id :=
  ⟨fun h => h e rfl, fun h e' he => by cases he; exact h⟩

@[simp] theorem plain_wait : Plain .wait := fun _ h => nomatch h
@[simp] theorem plain_viol (k a : Nat) : Plain (.viol k a) := fun _ h => nomatch h

theorem Plain.then {a : Act} {f : Eff → Act} (ha : a.Plain) (hf : ∀ e, e.bank = id → e.sys = id → (f e).Plain) :
    (a.then f).Plain := by
  cases a with
  | viol k x => exact plain_viol k x
  | wait => exact plain_wait
  | go e => exact hf e (ha e rfl).1 (ha e rfl).2

end Act

namespace Seen

theorem plain_loads (x : Seen) (a : Nat) (dst also : List (Nat × Nat)) {e : Eff} (hb : e.bank = id) (hs : e.sys = id) :
    (x.loads a dst also e).Plain := by
  unfold loads
  dsimp only
  split
  · exact Act.plain_go.mpr ⟨hb, hs⟩
  · exact Act.plain_go.mpr ⟨hb, hs⟩
  · exact Act.plain_go.mpr ⟨hb, hs⟩
  · split
    · exact Act.plain_wait
    · exact Act.plain_go.mpr ⟨hb, hs⟩
  · exact Act.plain_viol _ _

theorem plain_stores (x : Seen) (a : Nat) (ws : List (Nat × Nat)) {e : Eff} (hb : e.bank = id) (hs : e.sys = id) :
    (x.stores a ws e).Plain := by
  unfold stores
  dsimp only
  split
  · exact Act.plain_go.mpr ⟨hb, hs⟩
  · split
    · exact Act.plain_wait
    · exact Act.plain_go.mpr ⟨hb, hs⟩
  · split
    · exact Act.plain_wait
    · exact Act.plain_go.mpr ⟨hb, hs⟩
  · exact Act.plain_viol _ _
  · exact Act.plain_viol _ _

theorem plain_modifies (x : Seen) (i j : Nat) (c : Bool) {a : Act} (ha : a.Plain) : (x.modifies i j c a).Plain :=
  ha.then (fun _ hb hs => Act.plain_go.mpr ⟨hb, hs⟩)

theorem plain_move (x : Seen) : x.move.Plain := by
  unfold move
  split
  · exact Act.plain_go.mpr ⟨rfl, rfl⟩
  · exact plain_modifies _ _ _ _ (plain_loads _ _ _ _ rfl rfl)
  · exact plain_modifies _ _ _ _ (plain_stores _ _ _ rfl rfl)
  · have htap := plain_modifies x x.xi x.mj x.circF
      ((plain_loads x x.tapLoad (x.vecDst x.tapLoad x.vr) [] (e := Eff.none) rfl rfl).then
        (fun _ hb hs => plain_stores x x.tapStore (x.vecSrc x.tapStore (x.mvf 6 2)) hb hs))
    dsimp only
    split
    · exact htap
    · exact plain_modifies _ _ _ _ htap

theorem moved_bank (x : Seen) : x.moved.bank = id := by
  unfold moved
  split
  · next e h => exact (x.plain_move e h).1
  · rfl

theorem moved_sys (x : Seen) : x.moved.sys = id := by
  unfold moved
  split
  · next e h => exact (x.plain_move e h).2
  · rfl

/-- A compute instruction whose move stays within the core adds its results to the move's. -/
theorem compute_of_moves {x : Seen} (h : x.moves = true) (w : List Wr) :
    x.compute w = .go { x.moved with wr := x.moved.wr ++ w, bank := id, sys := id } := by
  rw [compute, (move_of_moves h).1, ← x.moved_bank, ← x.moved_sys]
  rfl

theorem vectorOnly_of_not_stw {x : Seen} (h : x.stw = false) (w : List Wr) : x.vectorOnly w = x.compute w := by
  simp [vectorOnly, h]

end Seen

/-! ### Results among others in a bank (R77) -/

namespace Bank

/-- A bank with these results in flight. -/
def inFlight (b : Bank) (l : List Pend) : Bank := { b with pend := l }

@[simp] theorem inFlight_pend (b : Bank) (l : List Pend) : (b.inFlight l).pend = l := rfl
@[simp] theorem inFlight_n (b : Bank) (l : List Pend) : (b.inFlight l).n = b.n := rfl

/-- The next PC does not depend on the results in flight. -/
theorem seqNext_inFlight (b : Bank) (l : List Pend) (m : Nat) : (b.inFlight l).seqNext m = (b.seqNext m).inFlight l := by
  have hrd (k : Nat) : (b.inFlight l).rd k = b.rd k := rfl
  have hlv : (b.inFlight l).lv = b.lv := rfl
  have hpc : (b.inFlight l).pc = b.pc := rfl
  unfold seqNext
  simp only [hrd, hlv, hpc]
  split
  · split <;> rfl
  · rfl

theorem advance_inFlight (b : Bank) (l : List Pend) (m : Nat) : (b.inFlight l).advance m = (b.advance m).inFlight l := by
  have hslots : (b.inFlight l).slots = b.slots := rfl
  have htarget : (b.inFlight l).target = b.target := rfl
  unfold advance
  simp only [hslots, htarget]
  split
  · exact seqNext_inFlight b l m
  · split
    · rfl
    · exact seqNext_inFlight { b with slots := b.slots - 1 } l m

/-- What results put one after the other leave in a register that one of them is for: every one for it that is put leaves `v`. -/
theorem rd_foldl_put_eq {k v : Nat} (l : List Pend) :
    ∀ b : Bank, (∀ p ∈ l, p.idx = k → p.val = v) → (∃ p ∈ l, p.idx = k) →
      (l.foldl (fun b p => b.put p.idx p.val) b).rd k = v := by
  induction l with
  | nil => exact fun b _ h => by simp at h
  | cons p t ih =>
    intro b hall hex
    rw [List.foldl_cons]
    by_cases ht : ∃ q ∈ t, q.idx = k
    · exact ih _ (fun q hq => hall q (List.mem_cons_of_mem p hq)) ht
    · have hp : p.idx = k := by
        obtain ⟨q, hq, hk⟩ := hex
        rcases List.mem_cons.mp hq with rfl | hq
        · exact hk
        · exact absurd ⟨q, hq, hk⟩ ht
      rw [rd_foldl_put_ne t _ (fun q hq hk => ht ⟨q, hq, hk⟩), hp, rd_put_same]
      exact hall p List.mem_cons_self hp

/-- Results issued last settle a register, when those of them that are due agree on it (R77). -/
theorem readIn_eq_of_last {b : Bank} {l r : List Pend} {k j v : Nat} (hb : b.pend = l ++ r)
    (hpost : ∀ p ∈ r, p.post = false) (hall : ∀ p ∈ r, p.due ≤ b.n + j → p.idx = k → p.val = v)
    (hex : ∃ p ∈ r, p.due ≤ b.n + j ∧ p.idx = k) : b.readIn j k = v := by
  have hsplit : (b.pend.filter (fun p => decide (p.due ≤ b.n + j))).filter (fun p => !p.post) =
      (l.filter (fun p => decide (p.due ≤ b.n + j))).filter (fun p => !p.post) ++
        r.filter (fun p => decide (p.due ≤ b.n + j)) := by
    rw [hb, List.filter_append, List.filter_append]
    congr 1
    exact List.filter_eq_self.mpr (fun p hp => by simp [hpost p (List.mem_of_mem_filter hp)])
  simp only [readIn, settle, rd]
  rw [hsplit, List.foldl_append]
  refine rd_foldl_put_eq _ _ (fun p hp hk => ?_) ?_
  · obtain ⟨hp, hdue⟩ := List.mem_filter.mp hp
    exact hall p hp (of_decide_eq_true hdue) hk
  · obtain ⟨p, hp, hdue, hk⟩ := hex
    exact ⟨p, List.mem_filter.mpr ⟨hp, decide_eq_true hdue⟩, hk⟩

end Bank

/-! ### The core after an instruction with results (R77, R106) -/

/-- Results as they wait in a bank that has issued `n` instructions. -/
def waiting (n : Nat) (w : List Wr) : List Pend := w.map (fun w => Pend.mk (n + w.lat) w.idx w.val false)

/-- An instruction that sees `n` instructions issued leaves `v` in register `k`, visible with latency `lat`. -/
def Gives (w : List Wr) (lat k v : Nat) : Prop :=
  (∃ q ∈ w, q.lat ≤ lat ∧ q.idx = k) ∧ ∀ q ∈ w, q.lat ≤ lat → q.idx = k → q.val = v

namespace State

/-- The bank after an effect, before it goes on. -/
def bankAfter (x : Seen) (e : Eff) : Bank :=
  { x.b with
    pend := x.b.pend ++ e.post.map (fun p => Pend.mk (x.b.n + 1) p.1 p.2 true) ++ waiting x.b.n e.wr
    ovl := x.b.ovl ++ e.dm.map (fun c => Ovl.mk (x.b.n + 2) c.1 (memGet x.c.dmem c.1))
    load := e.load.map (fun l => LoadWait.mk l.1 (x.c.storesDone + x.c.stores.length) l.2
      (x.s.on (F.ORC_OWN_PENDING (bankOf l.1))))
    n := x.b.n + 1 }

/-- The core after an effect, with the bank that it leaves. -/
def coreWith (x : Seen) (e : Eff) (b : Bank) : Core :=
  { withActive x.c b with
    dmem := memCells x.c.dmem e.dm, flaws := mend x.c.flaws 4 e.dm
    stores := x.c.stores ++ (match e.orc with
      | some cs => [{ bytes := cs, held := cs.any (fun b => x.s.on (F.ORC_OWN_PENDING (bankOf b.1))) }]
      | none => [])
    stall := false, lastPc := x.b.pc, lastBank := x.c.shadow }

theorem coreAfter_eq (x : Seen) (e : Eff) :
    coreAfter x e = coreWith x e (e.bank ((bankAfter x e).advance (pcMod x.n))) := by
  cases hs : x.c.shadow <;> simp [coreAfter, coreWith, withActive, hs, bankAfter, waiting] <;> rfl

@[simp] theorem activeBank_coreWith (x : Seen) (e : Eff) (b : Bank) : activeBank (coreWith x e b) = b := by
  cases hs : x.c.shadow <;> simp [activeBank, coreWith, withActive, hs]

@[simp] theorem withActive_coreWith (x : Seen) (e : Eff) (b b' : Bank) :
    withActive (coreWith x e b) b' = coreWith x e b' := by
  cases hs : x.c.shadow <;> simp [withActive, coreWith, hs]

/-- The bank after an instruction that leaves it as the move does has issued one instruction more. -/
theorem activeBank_coreAfter_n (x : Seen) {e : Eff} (he : e.bank = id) : (activeBank (coreAfter x e)).n = x.b.n + 1 := by
  rw [coreAfter_eq, activeBank_coreWith, he]
  exact (Bank.advance_keeps _ _).2.1

/-- An effect that sets the bank by `f`, which does not look at the results in flight, leaves its results behind those of the
move. -/
theorem coreAfter_results (x : Seen) {e : Eff} (he : e.bank = id) (w : List Wr) {f : Bank → Bank} (g : State → State)
    (hf : ∀ b l, f (b.inFlight l) = (f b).inFlight l) :
    coreAfter x { e with wr := e.wr ++ w, bank := f, sys := g } =
      withActive (coreAfter x e) ((f (activeBank (coreAfter x e))).inFlight
        ((activeBank (coreAfter x e)).pend ++ waiting x.b.n w)) := by
  have hbank : bankAfter x { e with wr := e.wr ++ w, bank := f, sys := g } =
      (bankAfter x e).inFlight ((bankAfter x e).pend ++ waiting x.b.n w) := by
    simp [bankAfter, Bank.inFlight, waiting]
  simp only [coreAfter_eq, activeBank_coreWith, withActive_coreWith, he, id, hbank, Bank.advance_inFlight, hf,
    (Bank.advance_keeps _ _).1]
  rfl

/-- An instruction issued with results, a change of its bank and of the machine outside the cores. -/
theorem issue_results {s : State} {n : Nat} (h : s.ready n = true) {i : CoreWord} {op : Seen → Act} {e : Eff} {w : List Wr}
    {f : Bank → Bank} {g : State → State} (hop : op (s.seen n i) = .go { e with wr := e.wr ++ w, bank := f, sys := g })
    (hload : e.regLoad = none) (hstore : e.regStore = none) (hflaw : e.flawed = []) (he : e.bank = id)
    (hf : ∀ b l, f (b.inFlight l) = (f b).inFlight l) :
    s.issue n i op = g (s.setCore n (withActive (coreAfter (s.seen n i) e)
      ((f (activeBank (coreAfter (s.seen n i) e))).inFlight
        ((activeBank (coreAfter (s.seen n i) e)).pend ++ waiting (s.seen n i).b.n w)))) := by
  rw [issue_go h hop, ← coreAfter_results _ he w g hf]
  exact commit_core (e := { e with wr := e.wr ++ w, bank := f, sys := g }) _ _ hstore hload hflaw

/-- What it leaves is `ResultsAnd` with `f`, when `g` changes nothing. -/
theorem resultsAnd_of_go {s : State} {n : Nat} (h : s.ready n = true) {i : CoreWord} {op : Seen → Act} {w : List Wr}
    {f : Bank → Bank} (hmoves : (s.seen n i).moves = true)
    (hop : op (s.seen n i) = .go { (s.seen n i).moved with wr := (s.seen n i).moved.wr ++ w, bank := f, sys := id })
    (hf : ∀ b l, f (b.inFlight l) = (f b).inFlight l) {dst : List Nat} (hdst : ∀ q ∈ w, q.idx ∈ dst) :
    s.ResultsAnd (s.issue n i op) n i dst f := by
  obtain ⟨-, hload, hstore, hflaw⟩ := Seen.move_of_moves hmoves
  rw [issue_results h hop hload hstore hflaw (Seen.moved_bank _) hf]
  simp only [ResultsAnd, id, liveBank, core_setCore_same, activeBank_withActive, Bank.inFlight_pend, List.take_left,
    List.drop_left, true_and]
  refine ⟨rfl, fun p hp => ?_⟩
  obtain ⟨q, hq, rfl⟩ := List.mem_map.mp hp
  exact hdst q hq

/-- What the `j`-th instruction after the next reads in a register that the instruction leaves a result for. -/
theorem readIn_of_go {s : State} {n : Nat} (h : s.ready n = true) {i : CoreWord} {op : Seen → Act} {w : List Wr}
    {f : Bank → Bank} {g : State → State} (hmoves : (s.seen n i).moves = true)
    (hop : op (s.seen n i) = .go { (s.seen n i).moved with wr := (s.seen n i).moved.wr ++ w, bank := f, sys := g })
    (hf : ∀ b l, f (b.inFlight l) = (f b).inFlight l) (hfn : ∀ b, (f b).n = b.n) (hg : ∀ s : State, (g s).cores = s.cores)
    {j k v : Nat} (hgives : Gives w (j + 1) k v) : ((s.issue n i op).liveBank n).readIn j k = v := by
  obtain ⟨-, hload, hstore, hflaw⟩ := Seen.move_of_moves hmoves
  have hn := activeBank_coreAfter_n (s.seen n i) (Seen.moved_bank (s.seen n i))
  have hcore (t : State) : (g t).liveBank n = t.liveBank n := by simp only [liveBank, core, hg]
  rw [issue_results h hop hload hstore hflaw (Seen.moved_bank _) hf, hcore, liveBank, core_setCore_same,
    activeBank_withActive]
  obtain ⟨⟨q, hq, hlat, hidx⟩, hall⟩ := hgives
  refine Bank.readIn_eq_of_last (Bank.inFlight_pend _ _) (fun p hp => ?_) (fun p hp hdue hk => ?_)
    ⟨_, List.mem_map_of_mem hq, ?_, hidx⟩
  · obtain ⟨q, -, rfl⟩ := List.mem_map.mp hp
    rfl
  · obtain ⟨q, hq, rfl⟩ := List.mem_map.mp hp
    simp only [Bank.inFlight_n, hfn, hn] at hdue
    exact hall q hq (by omega) hk
  · simp only [Bank.inFlight_n, hfn, hn]
    omega

section
variable {s : State} {n : Nat} {i : CoreWord} {op : Seen → Act} {w : List Wr}

/-- A compute instruction leaves its results and nothing else beside its move (R109). -/
theorem resultsOnly_compute (h : s.ready n = true) (hmoves : (s.seen n i).moves = true)
    (hop : op (s.seen n i) = (s.seen n i).compute w) {dst : List Nat} (hdst : ∀ q ∈ w, q.idx ∈ dst) :
    s.ResultsOnly (s.issue n i op) n i dst :=
  resultsAnd_of_go h hmoves (hop.trans (Seen.compute_of_moves hmoves w)) (fun _ _ => rfl) hdst

theorem readIn_compute (h : s.ready n = true) (hmoves : (s.seen n i).moves = true)
    (hop : op (s.seen n i) = (s.seen n i).compute w) {j k v : Nat} (hgives : Gives w (j + 1) k v) :
    ((s.issue n i op).liveBank n).readIn j k = v :=
  readIn_of_go h hmoves (hop.trans (Seen.compute_of_moves hmoves w)) (fun _ _ => rfl) (fun _ => rfl) (fun _ => rfl) hgives

end

end State

/-! ### Which results a list of them gives -/

/-- A result for a register that no later one is for. -/
theorem Gives.append_left {w w' : List Wr} {lat k v : Nat} (h : Gives w lat k v) (hw : ∀ q ∈ w', q.idx ≠ k) :
    Gives (w ++ w') lat k v := by
  obtain ⟨⟨q, hq, hql⟩, hall⟩ := h
  refine ⟨⟨q, List.mem_append_left _ hq, hql⟩, fun p hp hl hk => ?_⟩
  rcases List.mem_append.mp hp with hp | hp
  · exact hall p hp hl hk
  · exact absurd hk (hw p hp)

theorem Gives.append_right {w w' : List Wr} {lat k v : Nat} (h : Gives w' lat k v) (hw : ∀ q ∈ w, q.idx ≠ k) :
    Gives (w ++ w') lat k v := by
  obtain ⟨⟨q, hq, hql⟩, hall⟩ := h
  refine ⟨⟨q, List.mem_append_right _ hq, hql⟩, fun p hp hl hk => ?_⟩
  rcases List.mem_append.mp hp with hp | hp
  · exact absurd hk (hw p hp)
  · exact hall p hp hl hk

theorem gives_singleton (lat k v : Nat) : Gives [⟨lat, k, v⟩] lat k v := by
  simp [Gives]

/-- The lanes of one V register are registers of their own. -/
theorem ixV_inj {r l l' : Nat} : ixV r l = ixV r l' ↔ l = l' := by
  unfold ixV
  omega

theorem ixV_lt (r : Nat) {l : Nat} (hl : l < 4) : ixV r l < 128 := by
  unfold ixV
  omega

namespace Seen

theorem lane_lt {x : Seen} {l : Nat} (h : l ∈ x.lanes) : l < 4 := by
  unfold lanes at h
  split at h <;> simp at h <;> omega

theorem lanes_of_not_stw {x : Seen} (h : x.stw = false) : x.lanes = [0, 1, 2, 3] := by
  simp [lanes, h]

/-- A vector result gives each of its lanes its value (R111). -/
theorem gives_vec {x : Seen} {lat r l : Nat} (f : Nat → Nat) (hl : l ∈ x.lanes) :
    Gives (x.vec lat r f) lat (ixV r l) (f l % 2 ^ 32) := by
  refine ⟨⟨_, List.mem_map_of_mem hl, le_rfl, rfl⟩, fun q hq _ hk => ?_⟩
  obtain ⟨l', -, rfl⟩ := List.mem_map.mp hq
  rw [ixV_inj.mp hk]

/-- The results of a vector instruction are lanes of its register. -/
theorem vec_idx {x : Seen} {lat r : Nat} {f : Nat → Nat} {q : Wr} (h : q ∈ x.vec lat r f) : ∃ l < 4, q.idx = ixV r l := by
  obtain ⟨l, hl, rfl⟩ := List.mem_map.mp h
  exact ⟨l, lane_lt hl, rfl⟩

theorem vec_mem_vDst {x : Seen} {lat : Nat} {r : Fin 32} {f : Nat → Nat} : ∀ q ∈ x.vec lat r f, q.idx ∈ State.vDst r := by
  intro q hq
  obtain ⟨l, hl, h⟩ := vec_idx hq
  rw [h, State.vDst]
  exact List.mem_map_of_mem (by simp; omega)

/-- A narrowed vector result gives each of its lanes what `fit` leaves of its value (R110, R111). -/
theorem gives_fitVec {x : Seen} {lat l : Nat} (f : Nat → Int) (hl : l ∈ x.lanes) :
    Gives (x.fitVec lat f) lat (ixV x.i.vd l) ((fit x.i.sat (f l)).1 % 2 ^ 32) := by
  refine (gives_vec (fun l => (fit x.i.sat (f l)).1) hl).append_left (fun q hq => ?_)
  have hlt := ixV_lt x.i.vd (lane_lt hl)
  split at hq
  · rw [List.mem_singleton.mp hq]
    simp only [ixSV]
    omega
  · simp at hq

/-- A clamped lane sets SV (R69). -/
theorem gives_fitVec_sv {x : Seen} {lat l : Nat} {f : Nat → Int} (hl : l ∈ x.lanes) (hclamp : (fit x.i.sat (f l)).2 = true) :
    Gives (x.fitVec lat f) lat ixSV 1 := by
  have hany : x.lanes.any (fun l => (fit x.i.sat (f l)).2) = true := List.any_eq_true.mpr ⟨l, hl, hclamp⟩
  rw [fitVec, if_pos hany]
  refine (gives_singleton lat ixSV 1).append_right (fun q hq => ?_)
  obtain ⟨l, hl, h⟩ := vec_idx hq
  have := ixV_lt x.i.vd hl
  rw [h, ixSV]
  omega

theorem fitVec_mem_fDst {x : Seen} {lat : Nat} {f : Nat → Int} : ∀ q ∈ x.fitVec lat f, q.idx ∈ State.fDst x.i.vd := by
  intro q hq
  rcases List.mem_append.mp hq with hq | hq
  · exact List.mem_cons_of_mem _ (vec_mem_vDst q hq)
  · split at hq
    · rw [List.mem_singleton.mp hq]
      exact List.mem_cons_self
    · simp at hq

/-- An accumulator result gives each lane its value for the next addend and for the third transfer after it (R77, R80). -/
theorem gives_accVec_add {x : Seen} {l : Nat} (f : Nat → Int) (hl : l ∈ x.lanes) :
    Gives (x.accVec f) 1 (ixAdd x.i.acc l) (wrap 72 (f l)) := by
  have hacc := x.i.acc.isLt
  have hl4 := lane_lt hl
  refine ⟨⟨_, List.mem_flatMap.mpr ⟨l, hl, List.mem_cons_self⟩, le_rfl, rfl⟩, fun q hq hlat hk => ?_⟩
  obtain ⟨l', hl', hq⟩ := List.mem_flatMap.mp hq
  simp only [List.mem_cons, List.not_mem_nil, or_false] at hq
  rcases hq with rfl | rfl
  · have : l' = l := by simp only [ixAdd] at hk; omega
    rw [this]
  · simp only at hlat
    omega

theorem gives_accVec_acc {x : Seen} {l : Nat} (f : Nat → Int) (hl : l ∈ x.lanes) :
    Gives (x.accVec f) 3 (ixAcc x.i.acc l) (wrap 72 (f l)) := by
  have hacc := x.i.acc.isLt
  have hl4 := lane_lt hl
  refine ⟨⟨_, List.mem_flatMap.mpr ⟨l, hl, List.mem_cons_of_mem _ List.mem_cons_self⟩, le_rfl, rfl⟩, fun q hq hlat hk => ?_⟩
  obtain ⟨l', hl', hq⟩ := List.mem_flatMap.mp hq
  have hl4' := lane_lt hl'
  simp only [List.mem_cons, List.not_mem_nil, or_false] at hq
  rcases hq with rfl | rfl
  · simp only [ixAdd, ixAcc] at hk
    omega
  · have : l' = l := by simp only [ixAcc] at hk; omega
    rw [this]

theorem accVec_mem_aDst {x : Seen} {f : Nat → Int} : ∀ q ∈ x.accVec f, q.idx ∈ State.aDst x.i.acc := by
  intro q hq
  obtain ⟨l, hl, hq⟩ := List.mem_flatMap.mp hq
  have hl4 := lane_lt hl
  simp only [List.mem_cons, List.not_mem_nil, or_false] at hq
  refine List.mem_flatMap.mpr ⟨l, by simp; omega, ?_⟩
  rcases hq with rfl | rfl <;> simp

end Seen

end Sys2Proof.Machine
end

section
/-! NOP and the vector ALU (R104, R110 to R112). -/

namespace Sys2Proof.Machine

/-! ### Narrowing and lanes as numbers -/

theorem wrap_lt (w : Nat) (z : Int) : wrap w z < 2 ^ w := by
  have hpos : (0 : Int) < 2 ^ w := by positivity
  have h := Int.emod_lt_of_pos z hpos
  have h0 := Int.emod_nonneg z hpos.ne'
  zify
  rw [wrap, Int.toNat_of_nonneg h0]
  exact_mod_cast h

theorem wrap_mod (w : Nat) (z : Int) : wrap w z % 2 ^ w = wrap w z := Nat.mod_eq_of_lt (wrap_lt w z)

theorem cast_wrap (w : Nat) (z : Int) : (wrap w z : Int) = z % 2 ^ w :=
  Int.toNat_of_nonneg (Int.emod_nonneg z (by positivity))

theorem sint_mod (v : Nat) : sint 32 (v % 2 ^ 32) = sint 32 v := by
  simp [sint]

/-- A signed 32-bit number comes back from its 32 bits. -/
theorem sint_wrap {z : Int} (h0 : -(2 ^ 31) ≤ z) (h1 : z ≤ 2 ^ 31 - 1) : sint 32 (wrap 32 z) = z := by
  have hw := cast_wrap 32 z
  have hlt := wrap_lt 32 z
  simp only [sint]
  split <;> omega

/-- What `fit` leaves is the narrowed value (R110). -/
theorem narrowed_fit (sat : Bool) (z : Int) : Narrowed sat ((fit sat z).1 % 2 ^ 32) z := by
  cases sat with
  | false => exact ⟨fun _ => by rw [fit, if_neg Bool.false_ne_true, wrap_mod, cast_wrap], by simp⟩
  | true =>
    refine ⟨by simp, fun _ => ?_⟩
    simp only [fit, if_true, sint_mod, clampI]
    rw [sint_wrap] <;> omega

theorem fit_clamps (z : Int) (h : z < -(2 ^ 31) ∨ 2 ^ 31 - 1 < z) : (fit true z).2 = true := by
  simpa [fit] using h

theorem sint_bounds (v : Nat) : -(2 ^ 31) ≤ sint 32 v ∧ sint 32 v ≤ 2 ^ 31 - 1 := by
  simp only [sint]
  split <;> omega

/-! ### An ALU instruction -/

namespace State

section
variable {s : State} {n : Nat} {i : CoreWord} {op : Seen → Act}

/-- An ALU instruction with lanes as its result. -/
theorem vec_alu (h : s.ready n = true) (hmoves : (s.seen n i).moves = true) {r : Fin 32} {f : Nat → Nat}
    (hop : op (s.seen n i) = (s.seen n i).compute ((s.seen n i).vec 2 r f)) :
    (∀ l ∈ (s.seen n i).lanes, ((s.issue n i op).liveBank n).readIn 1 (ixV r l) = f l % 2 ^ 32) ∧
    s.ResultsOnly (s.issue n i op) n i (vDst r) :=
  ⟨fun _ hl => readIn_compute h hmoves hop (Seen.gives_vec f hl), resultsOnly_compute h hmoves hop Seen.vec_mem_vDst⟩

/-- One whose lanes are narrowed. -/
theorem fitVec_alu (h : s.ready n = true) (hmoves : (s.seen n i).moves = true) {f : Nat → Int}
    (hop : op (s.seen n i) = (s.seen n i).compute ((s.seen n i).fitVec 2 f)) :
    (∀ l ∈ (s.seen n i).lanes, Narrowed i.sat (((s.issue n i op).liveBank n).readIn 1 (ixV i.vd l)) (f l)) ∧
    s.ResultsOnly (s.issue n i op) n i (fDst i.vd) := by
  refine ⟨fun l hl => ?_, resultsOnly_compute h hmoves hop Seen.fitVec_mem_fDst⟩
  rw [readIn_compute h hmoves hop (k := ixV i.vd l) (Seen.gives_fitVec f hl)]
  exact narrowed_fit _ _

/-- A clamped lane sets SV. -/
theorem fitVec_alu_sv (h : s.ready n = true) (hmoves : (s.seen n i).moves = true) {f : Nat → Int}
    (hop : op (s.seen n i) = (s.seen n i).compute ((s.seen n i).fitVec 2 f)) (hsat : i.sat = true) {l : Nat}
    (hl : l ∈ (s.seen n i).lanes) (hout : f l < -(2 ^ 31) ∨ 2 ^ 31 - 1 < f l) :
    ((s.issue n i op).liveBank n).readIn 1 ixSV = 1 := by
  refine readIn_compute h hmoves hop (Seen.gives_fitVec_sv hl ?_)
  rw [seen_i, hsat]
  exact fit_clamps _ hout

end

end State

namespace Seen

/-- The flags of VCMP: bit `l` is that of lane `l` (R112). -/
theorem natBit_flags (x : Seen) (f : Nat → Bool) {l : Nat} (hl : l ∈ x.lanes) :
    natBit (x.lanes.foldl (fun m l => m + b2n (f l) * 2 ^ l) 0) l = f l := by
  unfold lanes at hl ⊢
  split at hl
  · obtain rfl := List.mem_singleton.mp hl
    cases h : f 0 <;> simp [*, natBit, b2n]
  · simp only [List.mem_cons, List.not_mem_nil, or_false] at hl
    cases h0 : f 0 <;> cases h1 : f 1 <;> cases h2 : f 2 <;> cases h3 : f 3 <;>
      rcases hl with rfl | rfl | rfl | rfl <;> simp [*, natBit, b2n]

theorem gives_cmpVec_lane {x : Seen} {l : Nat} (hl : l ∈ x.lanes) :
    Gives x.cmpVec 2 (ixV x.i.vd l) (if cmpLanes (x.subf 2 0) (x.va l) (x.bl l) then 2 ^ 32 - 1 else 0) := by
  have hval : (if cmpLanes (x.subf 2 0) (x.va l) (x.bl l) then 2 ^ 32 - 1 else 0) % 2 ^ 32 =
      if cmpLanes (x.subf 2 0) (x.va l) (x.bl l) then 2 ^ 32 - 1 else 0 := by
    split <;> rfl
  rw [← hval]
  refine (gives_vec _ hl).append_left (fun q hq => ?_)
  have := ixV_lt x.i.vd (lane_lt hl)
  rw [List.mem_singleton.mp hq]
  simp only [ixLF]
  omega

theorem gives_cmpVec_flags (x : Seen) : Gives x.cmpVec 2 ixLF
    (x.lanes.foldl (fun m l => m + b2n (cmpLanes (x.subf 2 0) (x.va l) (x.bl l)) * 2 ^ l) 0) := by
  refine (gives_singleton 2 ixLF _).append_right (fun q hq => ?_)
  obtain ⟨l, hl, h⟩ := vec_idx hq
  have := ixV_lt x.i.vd hl
  rw [h, ixLF]
  omega

theorem cmpVec_idx {x : Seen} : ∀ q ∈ x.cmpVec, q.idx ∈ ixLF :: State.vDst x.i.vd := by
  intro q hq
  rcases List.mem_append.mp hq with hq | hq
  · exact List.mem_cons_of_mem _ (vec_mem_vDst q hq)
  · rw [List.mem_singleton.mp hq]
    exact List.mem_cons_self

end Seen

/-- The smaller of two lanes as signed numbers, and the greater. -/
theorem sint_min (a b : Nat) : sint 32 ((if sint 32 a ≤ sint 32 b then a else b) % 2 ^ 32) = min (sint 32 a) (sint 32 b) := by
  rw [sint_mod]
  split
  · next h => exact (min_eq_left h).symm
  · next h => exact (min_eq_right (Int.le_of_not_le h)).symm

theorem sint_max (a b : Nat) : sint 32 ((if sint 32 b ≤ sint 32 a then a else b) % 2 ^ 32) = max (sint 32 a) (sint 32 b) := by
  rw [sint_mod]
  split
  · next h => exact (max_eq_left h).symm
  · next h => exact (max_eq_right (Int.le_of_not_le h)).symm

open State in
/-- Settles O13: every one of the instructions is a compute instruction whose results are lanes of VD. -/
theorem vectorAluComplete : Obligations.VectorAluComplete := by
  unfold Obligations.VectorAluComplete
  rintro s c i n _ rfl rfl h hm
  have hfit {op : Seen → Act} {f : Nat → Int} := fitVec_alu (op := op) (f := f) h hm
  have hvec {op : Seen → Act} {f : Nat → Nat} := vec_alu (op := op) (r := i.vd) (f := f) h hm
  refine ⟨⟨_, rfl, resultsOnly_compute h hm rfl (by simp)⟩, ?vadd, ⟨_, rfl, hfit rfl⟩, ⟨_, rfl, hfit rfl⟩, ?vmin, ?vmax,
    ⟨_, rfl, hfit rfl⟩, ⟨_, rfl, hfit rfl⟩, ⟨_, rfl, hfit rfl⟩, ?vshr, ?vand, ⟨_, rfl, hvec rfl⟩, ⟨_, rfl, hvec rfl⟩,
    ?vcmp, ?vsel, ?vperm⟩
  case vadd =>
    obtain ⟨hlanes, hframe⟩ := hfit (op := Seen.opVadd) rfl
    refine ⟨_, rfl, hlanes, fun hsat hout => ?_, hframe⟩
    obtain ⟨l, hl, hout⟩ := hout
    exact fitVec_alu_sv h hm (op := Seen.opVadd) rfl hsat hl hout
  case vmin =>
    obtain ⟨hlanes, hframe⟩ := hvec (op := Seen.opVmin) rfl
    refine ⟨_, rfl, fun hflg l hl => ?_, fun hflg l hl => ?_, hframe⟩
    · rw [hlanes l hl, seen_i, if_pos hflg]
    · rw [hlanes l hl, seen_i, if_neg (by simp [hflg])]
      exact sint_min _ _
  case vmax =>
    obtain ⟨hlanes, hframe⟩ := hvec (op := Seen.opVmax) rfl
    refine ⟨_, rfl, fun hflg l hl => ?_, fun hflg l hl => ?_, hframe⟩
    · rw [hlanes l hl, seen_i, if_pos hflg]
    · rw [hlanes l hl, seen_i, if_neg (by simp [hflg])]
      exact sint_max _ _
  case vshr =>
    obtain ⟨hlanes, hframe⟩ := hvec (op := Seen.opVshr) rfl
    refine ⟨_, rfl, fun hflg l hl => ?_, fun hflg l hl => ?_, hframe⟩
    · rw [hlanes l hl, seen_i, if_pos hflg]
    · rw [hlanes l hl, seen_i, if_neg (by simp [hflg]), wrap_mod]
  case vand =>
    obtain ⟨hlanes, hframe⟩ := hvec (op := Seen.opVand) rfl
    refine ⟨_, rfl, fun hflg l hl => ?_, fun hflg l hl => ?_, hframe⟩
    · rw [hlanes l hl, seen_i, if_neg (by simp [hflg])]
    · rw [hlanes l hl, seen_i, if_pos hflg]
  case vcmp =>
    refine ⟨_, rfl, fun l hl => ?_, fun l hl => ?_, resultsOnly_compute h hm (op := Seen.opVcmp) rfl Seen.cmpVec_idx⟩
    · exact readIn_compute h hm (op := Seen.opVcmp) rfl (Seen.gives_cmpVec_lane hl)
    · rw [readIn_compute h hm (op := Seen.opVcmp) rfl (Seen.gives_cmpVec_flags _)]
      exact Seen.natBit_flags _ _ hl
  case vsel =>
    obtain ⟨hlanes, hframe⟩ := hvec (op := Seen.opVsel) rfl
    refine ⟨_, rfl, fun l hl => ?_, hframe⟩
    rw [hlanes l hl, Seen.LF, seen_b]
  case vperm =>
    intro hc
    have hstw : (s.seen (CoreSel.ix c) i).stw = false := by rw [Seen.stw_seen]; exact decide_eq_false hc
    obtain ⟨hlanes, hframe⟩ := hvec (op := Seen.opVperm) (Seen.vectorOnly_of_not_stw hstw _)
    exact ⟨_, rfl, fun l hl => hlanes l (by rwa [Seen.lanes_of_not_stw hstw]), hframe⟩

end Sys2Proof.Machine
end

section
/-! Multiply-accumulate instructions and accumulator transfers (R113 to R115). -/

namespace Sys2Proof.Machine

/-! ### Bits of an accumulator (R80, R115) -/

theorem wrapped_wrap (z : Int) : Wrapped (wrap 72 z) z := cast_wrap 72 z

theorem wrap_natCast (w n : Nat) : wrap w (n : Int) = n % 2 ^ w := by
  have h := cast_wrap w (n : Int)
  zify
  rw [h]

namespace Seen

/-- Slices 0 and 1 are 32 bits of the accumulator as it stands. -/
theorem slice_zero (a : Int) : slice 0 a % 2 ^ 32 = wrap 72 a % 2 ^ 32 := Nat.mod_mod _ _
theorem slice_one (a : Int) : slice 1 a % 2 ^ 32 = wrap 72 a / 2 ^ 32 % 2 ^ 32 := Nat.mod_mod _ _

/-- Slice 2 is the eight guard bits as a signed number. -/
theorem slice_two (a : Int) : sint 32 (slice 2 a % 2 ^ 32) = sint 8 (wrap 72 a / 2 ^ 64) := by
  rw [sint_mod]
  refine sint_wrap ?_ ?_ <;> simp only [sint] <;> split <;> omega

/-- Insert 0 replaces the low 32 bits; a value wider than those carries into the others. -/
theorem insert_zero_low (a : Int) (v : Nat) : wrap 72 (insert 0 a v) % 2 ^ 32 = v % 2 ^ 32 := by
  simp only [insert, wrap_natCast]
  omega

theorem insert_zero_high (a : Int) {v : Nat} (hv : v < 2 ^ 32) : wrap 72 (insert 0 a v) / 2 ^ 32 = wrap 72 a / 2 ^ 32 := by
  have := wrap_lt 72 a
  simp only [insert, wrap_natCast]
  omega

theorem insert_one (a : Int) {v : Nat} (hv : v < 2 ^ 32) : wrap 72 (insert 1 a v) / 2 ^ 32 % 2 ^ 32 = v ∧
    wrap 72 (insert 1 a v) % 2 ^ 32 = wrap 72 a % 2 ^ 32 ∧ wrap 72 (insert 1 a v) / 2 ^ 64 = wrap 72 a / 2 ^ 64 := by
  have := wrap_lt 72 a
  simp only [insert, wrap_natCast]
  omega

theorem insert_two (a : Int) (v : Nat) : wrap 72 (insert 2 a v) / 2 ^ 64 = v % 2 ^ 8 ∧
    wrap 72 (insert 2 a v) % 2 ^ 64 = wrap 72 a % 2 ^ 64 := by
  have := wrap_lt 72 a
  simp only [insert, wrap_natCast]
  omega

/-- The real part of the complex product of pair `p`, and its imaginary part (R114). -/
theorem complex_even (x : Seen) (conj : Bool) {p q : Nat} (hq : q = if x.subb 6 then x.subf 4 4 else p) :
    x.complex conj (2 * p) = x.signed (if conj then x.sva (2 * p) * x.svb (2 * q) + x.sva (2 * p + 1) * x.svb (2 * q + 1)
      else x.sva (2 * p) * x.svb (2 * q) - x.sva (2 * p + 1) * x.svb (2 * q + 1)) := by
  have hdiv : 2 * p / 2 = p := by omega
  have hmod : 2 * p % 2 = 0 := by omega
  cases conj <;> simp [complex, hdiv, hmod, ← hq]

theorem complex_odd (x : Seen) (conj : Bool) {p q : Nat} (hq : q = if x.subb 6 then x.subf 4 4 else p) :
    x.complex conj (2 * p + 1) =
      x.signed (if conj then x.sva (2 * p + 1) * x.svb (2 * q) - x.sva (2 * p) * x.svb (2 * q + 1)
        else x.sva (2 * p) * x.svb (2 * q + 1) + x.sva (2 * p + 1) * x.svb (2 * q)) := by
  have hdiv : (2 * p + 1) / 2 = p := by omega
  have hmod : (2 * p + 1) % 2 = 1 := by omega
  cases conj
  · simp [complex, hdiv, hmod, ← hq]
  · simp only [complex, hdiv, hmod, ← hq, one_ne_zero, if_false, if_true, mul_neg, neg_add_eq_sub]

end Seen

/-! ### An instruction that writes an accumulator -/

namespace State

section
variable {s : State} {n : Nat} {i : CoreWord} {op : Seen → Act} {f : Nat → Int}

/-- Its lanes are what the next addend reads, and what the third transfer after it reads (R77, R80). -/
theorem acc_op (h : s.ready n = true) (hmoves : (s.seen n i).moves = true)
    (hop : op (s.seen n i) = (s.seen n i).compute ((s.seen n i).accVec f)) :
    (∀ l ∈ (s.seen n i).lanes, ((s.issue n i op).liveBank n).readIn 0 (ixAdd i.acc l) = wrap 72 (f l) ∧
      ((s.issue n i op).liveBank n).readIn 2 (ixAcc i.acc l) = wrap 72 (f l)) ∧
    s.ResultsOnly (s.issue n i op) n i (aDst i.acc) :=
  ⟨fun l hl => ⟨readIn_compute h hmoves hop (k := ixAdd i.acc l) (Seen.gives_accVec_add f hl),
      readIn_compute h hmoves hop (k := ixAcc i.acc l) (Seen.gives_accVec_acc f hl)⟩,
    resultsOnly_compute h hmoves hop Seen.accVec_mem_aDst⟩

theorem acc_op_wrapped (h : s.ready n = true) (hmoves : (s.seen n i).moves = true)
    (hop : op (s.seen n i) = (s.seen n i).compute ((s.seen n i).accVec f)) :
    (∀ l ∈ (s.seen n i).lanes, Wrapped (((s.issue n i op).liveBank n).readIn 0 (ixAdd i.acc l)) (f l) ∧
      Wrapped (((s.issue n i op).liveBank n).readIn 2 (ixAcc i.acc l)) (f l)) ∧
    s.ResultsOnly (s.issue n i op) n i (aDst i.acc) := by
  obtain ⟨hlanes, hframe⟩ := acc_op h hmoves hop
  refine ⟨fun l hl => ?_, hframe⟩
  obtain ⟨hadd, hacc⟩ := hlanes l hl
  rw [hadd, hacc]
  exact ⟨wrapped_wrap _, wrapped_wrap _⟩

/-- A complex product, on a core: the pairs' real parts in the even lanes, their imaginary parts in the odd ones (R114). -/
theorem complex_op (h : s.ready n = true) (hmoves : (s.seen n i).moves = true) (hstw : (s.seen n i).stw = false)
    (hop : op (s.seen n i) = (s.seen n i).vectorOnly ((s.seen n i).accVec f)) {re im : Nat → Nat → Int}
    (hf : ∀ p q, q = (if natBit i.sub.toNat 6 then natBits i.sub.toNat 4 4 else p) →
      f (2 * p) = re p q ∧ f (2 * p + 1) = im p q) :
    (∀ p ∈ [0, 1], ∀ q ∈ [0, 1], q = (if natBit i.sub.toNat 6 then natBits i.sub.toNat 4 4 else p) →
      Wrapped (((s.issue n i op).liveBank n).readIn 0 (ixAdd i.acc (2 * p))) (re p q) ∧
      Wrapped (((s.issue n i op).liveBank n).readIn 2 (ixAcc i.acc (2 * p))) (re p q) ∧
      Wrapped (((s.issue n i op).liveBank n).readIn 0 (ixAdd i.acc (2 * p + 1))) (im p q) ∧
      Wrapped (((s.issue n i op).liveBank n).readIn 2 (ixAcc i.acc (2 * p + 1))) (im p q)) ∧
    s.ResultsOnly (s.issue n i op) n i (aDst i.acc) := by
  obtain ⟨hlanes, hframe⟩ := acc_op_wrapped h hmoves (hop.trans (Seen.vectorOnly_of_not_stw hstw _))
  refine ⟨fun p hp q _ hpq => ?_, hframe⟩
  obtain ⟨hre, him⟩ := hf p q hpq
  rw [Seen.lanes_of_not_stw hstw] at hlanes
  have hp : 2 * p ∈ [0, 1, 2, 3] ∧ 2 * p + 1 ∈ [0, 1, 2, 3] := by simp at hp ⊢; omega
  have heven := hlanes _ hp.1
  have hodd := hlanes _ hp.2
  rw [hre] at heven
  rw [him] at hodd
  exact ⟨heven.1, heven.2, hodd.1, hodd.2⟩

end

end State

open State in
/-- Settles O14: the instructions are compute instructions whose results are the lanes of an accumulator, and RDACC one whose
results are lanes of VD. -/
theorem accumulatorInstructionsComplete : Obligations.AccumulatorInstructionsComplete := by
  unfold Obligations.AccumulatorInstructionsComplete
  rintro s c i n _ rfl rfl h hm
  have hstw (hc : c ≠ .steward) : (s.seen (CoreSel.ix c) i).stw = false := by
    rw [Seen.stw_seen]
    exact decide_eq_false hc
  have hacc {op : Seen → Act} {f : Nat → Int} := acc_op_wrapped (op := op) (f := f) h hm
  refine ⟨⟨_, rfl, hacc rfl⟩, ?msu, ⟨_, rfl, hacc rfl⟩,
    fun hc => ⟨_, rfl, hacc (Seen.vectorOnly_of_not_stw (hstw hc) _)⟩,
    fun hc => ⟨_, rfl, hacc (Seen.vectorOnly_of_not_stw (hstw hc) _)⟩,
    fun hc => ⟨_, rfl, complex_op h hm (hstw hc) rfl (fun p q hq => ?cmac)⟩,
    fun hc => ⟨_, rfl, complex_op h hm (hstw hc) rfl (fun p q hq => ?cmpy)⟩,
    fun hc => ⟨_, rfl, complex_op h hm (hstw hc) rfl (fun p q hq => ?cmacj)⟩, ?rdacc, ?clra, ?ashf,
    ⟨_, rfl, hacc rfl⟩⟩
  case msu =>
    obtain ⟨hlanes, hframe⟩ := hacc (op := Seen.opMsu) rfl
    refine ⟨_, rfl, fun l hl => ?_, hframe⟩
    have hsigned (a p : Int) : a + (s.seen (CoreSel.ix c) i).signed (-p) = a - if i.flg then -p else p := by
      cases hflg : i.flg <;> simp [Seen.signed, hflg, sub_eq_add_neg]
    rw [← hsigned]
    exact hlanes l hl
  case cmac =>
    rw [Seen.complex_even _ _ hq, Seen.complex_odd _ _ hq]
    exact ⟨rfl, rfl⟩
  case cmpy =>
    rw [Seen.complex_even _ _ hq, Seen.complex_odd _ _ hq]
    exact ⟨rfl, rfl⟩
  case cmacj =>
    rw [Seen.complex_even _ _ hq, Seen.complex_odd _ _ hq]
    exact ⟨rfl, rfl⟩
  case rdacc =>
    cases hflg : i.flg with
    | false =>
      obtain ⟨hlanes, hframe⟩ := fitVec_alu h hm (op := Seen.opRdacc)
        (f := fun l => rhu ((s.seen (CoreSel.ix c) i).accum i.acc l) (27 - min (natBits i.sub.toNat 4 0) 27))
        (by simp [Seen.opRdacc, hflg, Seen.subf])
      exact ⟨_, rfl, fun _ => hlanes, by simp, by simp, by simp, hframe⟩
    | true =>
      obtain ⟨hlanes, hframe⟩ := vec_alu h hm (op := Seen.opRdacc) (r := i.vd)
        (f := fun l => Seen.slice (natBits i.sub.toNat 1 0) ((s.seen (CoreSel.ix c) i).accum i.acc l))
        (by simp [Seen.opRdacc, hflg, Seen.subf])
      refine ⟨_, rfl, by simp, fun _ hk l hl => ?_, fun _ hk l hl => ?_, fun _ hk l hl => ?_, ?_⟩
      · rw [hlanes l hl, hk, Seen.slice_zero]
      · rw [hlanes l hl, hk, Seen.slice_one]
      · rw [hlanes l hl, hk, Seen.slice_two]
      · obtain ⟨heq, hpend, hdst⟩ := hframe
        exact ⟨heq, hpend, fun p hp => List.mem_cons_of_mem _ (hdst p hp)⟩
  case clra =>
    obtain ⟨hlanes, hframe⟩ := acc_op h hm (op := Seen.opClra) rfl
    have hins (hflg : i.flg = true) (l : Nat) (hl : l ∈ (s.seen (CoreSel.ix c) i).lanes) {k : Nat}
        (hk : natBits i.sub.toNat 1 0 = k) :
        ((s.issue (CoreSel.ix c) i Seen.opClra).liveBank (CoreSel.ix c)).readIn 2 (ixAcc i.acc l) =
          wrap 72 (Seen.insert k ((s.seen (CoreSel.ix c) i).addend l) ((s.seen (CoreSel.ix c) i).va l)) := by
      rw [(hlanes l hl).2, seen_i, if_pos hflg, ← hk]
      rfl
    refine ⟨_, rfl, fun hflg l hl => ?_, fun hflg hk l hl => ?_, fun hflg hk l hl => ?_, fun hflg l hl hv =>
      ⟨fun hk => ?_, fun hk => ?_, fun hk => ?_⟩, hframe⟩
    · obtain ⟨hadd, htransfer⟩ := hlanes l hl
      rw [hadd, htransfer, seen_i, if_neg (by simp [hflg])]
      exact ⟨wrapped_wrap 0, wrapped_wrap 0⟩
    · rw [hins hflg l hl hk]
      exact wrapped_wrap _
    · rw [hins hflg l hl hk, Seen.insert_zero_low]
    · rw [hins hflg l hl hk, Seen.insert_zero_high _ hv]
    · rw [hins hflg l hl hk]
      exact Seen.insert_one _ hv
    · rw [hins hflg l hl hk]
      exact Seen.insert_two _ _
  case ashf =>
    obtain ⟨hlanes, hframe⟩ := hacc (op := Seen.opAshf) rfl
    exact ⟨_, rfl, fun l hl => (hlanes l hl).2, hframe⟩

end Sys2Proof.Machine
end

section
/-! What an instruction without a change of the machine outside its core leaves (R77, R106, R127): the core and its live bank. -/

namespace Sys2Proof.Machine

namespace Bank

/-- What results put one after the other leave in a register depends on what the register held. -/
theorem rd_foldl_put_congr {k : Nat} (l : List Pend) :
    ∀ b b' : Bank, b.rd k = b'.rd k → (l.foldl (fun b p => b.put p.idx p.val) b).rd k =
      (l.foldl (fun b p => b.put p.idx p.val) b').rd k := by
  induction l with
  | nil => exact fun _ _ h => h
  | cons p t ih =>
    intro b b' h
    refine ih _ _ ?_
    by_cases hp : k = p.idx
    · rw [hp, rd_put_same, rd_put_same]
    · rw [rd_put_ne _ _ hp, rd_put_ne _ _ hp, h]

/-- A register that no result issued last is for reads as it would without them. -/
theorem readIn_append_ne {b b' : Bank} {r : List Pend} {k j j' : Nat} (hpend : b.pend = b'.pend ++ r)
    (hn : b.n + j = b'.n + j') (hrd : b.rd k = b'.rd k) (hr : ∀ p ∈ r, p.idx ≠ k) : b.readIn j k = b'.readIn j' k := by
  have hdrop (q : Pend → Bool) (b : Bank) :
      (((r.filter (fun p => decide (p.due ≤ b'.n + j'))).filter q).foldl (fun b p => b.put p.idx p.val) b).rd k = b.rd k :=
    rd_foldl_put_ne _ _ (fun p hp => hr p (List.mem_of_mem_filter (List.mem_of_mem_filter hp)))
  simp only [readIn, settle, hpend, hn, List.filter_append, List.foldl_append]
  refine (hdrop _ _).trans (rd_foldl_put_congr _ _ _ ?_)
  exact (hdrop _ _).trans (rd_foldl_put_congr _ _ _ hrd)

/-- A register that has results due for it in flight, all with one value, reads that value, whatever their kind. -/
theorem readIn_eq_of_all {b : Bank} {k j v : Nat} (hall : ∀ p ∈ b.pend, p.due ≤ b.n + j → p.idx = k → p.val = v)
    (hex : ∃ p ∈ b.pend, p.due ≤ b.n + j ∧ p.idx = k) : b.readIn j k = v := by
  have hmem {q : Pend → Bool} {p : Pend} (hp : p ∈ (b.pend.filter (fun p => decide (p.due ≤ b.n + j))).filter q) :
      p ∈ b.pend ∧ p.due ≤ b.n + j := by
    obtain ⟨hp, hdue⟩ := List.mem_filter.mp (List.mem_of_mem_filter hp)
    exact ⟨hp, of_decide_eq_true hdue⟩
  obtain ⟨p, hp, hdue, hk⟩ := hex
  have hready : p ∈ b.pend.filter (fun p => decide (p.due ≤ b.n + j)) := List.mem_filter.mpr ⟨hp, decide_eq_true hdue⟩
  simp only [readIn, settle, rd]
  by_cases hexpl : ∃ q ∈ (b.pend.filter (fun p => decide (p.due ≤ b.n + j))).filter (fun p => !p.post), q.idx = k
  · exact rd_foldl_put_eq _ _ (fun q hq => hall q (hmem hq).1 (hmem hq).2) hexpl
  · refine (rd_foldl_put_ne _ _ (fun q hq hk => hexpl ⟨q, hq, hk⟩)).trans ?_
    refine rd_foldl_put_eq _ _ (fun q hq => hall q (hmem hq).1 (hmem hq).2) ⟨p, List.mem_filter.mpr ⟨hready, ?_⟩, hk⟩
    by_contra hpost
    exact hexpl ⟨p, List.mem_filter.mpr ⟨hready, by simpa using hpost⟩, hk⟩

/-- Going on keeps what belongs to no loop and no branch. -/
theorem seqNext_fields (b : Bank) (m : Nat) :
    b.seqNext m = { b with r := (b.seqNext m).r, lv := (b.seqNext m).lv, pc := (b.seqNext m).pc } := by
  unfold seqNext
  dsimp only
  split
  · split <;> rfl
  · rfl

theorem advance_ovl_load (b : Bank) (m : Nat) : (b.advance m).ovl = b.ovl ∧ (b.advance m).load = b.load := by
  have hseq (b : Bank) : (b.seqNext m).ovl = b.ovl ∧ (b.seqNext m).load = b.load := by
    rw [seqNext_fields]
    exact ⟨rfl, rfl⟩
  unfold advance
  dsimp only
  split
  · exact hseq b
  · split
    · exact ⟨rfl, rfl⟩
    · exact hseq _

/-- The next PC depends on what is in flight only through that. -/
theorem advance_congr (b : Bank) (l : List Pend) (o : List Ovl) (w : Option LoadWait) (n m : Nat) :
    ({ b with pend := l, ovl := o, load := w, n := n } : Bank).advance m =
      { b.advance m with pend := l, ovl := o, load := w, n := n } := by
  have hseq (b : Bank) : ({ b with pend := l, ovl := o, load := w, n := n } : Bank).seqNext m =
      { b.seqNext m with pend := l, ovl := o, load := w, n := n } := by
    have hrd (k : Nat) : ({ b with pend := l, ovl := o, load := w, n := n } : Bank).rd k = b.rd k := rfl
    unfold seqNext
    simp only [hrd]
    split
    · split <;> rfl
    · rfl
  unfold advance
  dsimp only
  split
  · exact hseq b
  · split
    · rfl
    · exact hseq { b with slots := b.slots - 1 }

end Bank

/-! ### Bytes stored (R71) -/

theorem mem_mend {fs : List Flaw} {u : Nat} {cs : List Host.Cell} {f : Flaw} (h : f ∈ mend fs u cs) : f ∈ fs :=
  List.mem_of_mem_filter h

@[simp] theorem mend_nil_cells (fs : List Flaw) (u : Nat) : mend fs u [] = fs := by simp [mend]
@[simp] theorem mend_nil (u : Nat) (cs : List Host.Cell) : mend [] u cs = [] := rfl
@[simp] theorem memCells_nil (m : Mem) : memCells m [] = m := rfl

/-- A byte that some of the cells written are for, all with one value. -/
theorem memGet_memCells {a : Nat} {v : Byte} (cs : List Host.Cell) :
    ∀ m : Mem, (∀ c ∈ cs, c.1 = a → c.2 = v) → (∃ c ∈ cs, c.1 = a) → memGet (memCells m cs) a = v := by
  induction cs with
  | nil => exact fun m _ h => by simp at h
  | cons c t ih =>
    intro m hall hex
    by_cases ht : ∃ d ∈ t, d.1 = a
    · exact ih _ (fun d hd => hall d (List.mem_cons_of_mem c hd)) ht
    · have hc : c.1 = a := by
        obtain ⟨d, hd, hda⟩ := hex
        rcases List.mem_cons.mp hd with rfl | hd
        · exact hda
        · exact absurd ⟨d, hd, hda⟩ ht
      have hout : ∀ d ∈ t, d.1 ≠ a := fun d hd hda => ht ⟨d, hd, hda⟩
      rw [memCells, List.foldl_cons]
      refine (memGet_memCells_outside t _ _ hout).trans ?_
      rw [← hc, memGet_memSet_same]
      exact hall c List.mem_cons_self hc

namespace State

section
variable {s : State} {n : Nat} {i : CoreWord} {op : Seen → Act} {e : Eff}

/-- An instruction that reaches no register space and meets no error changes its core alone. -/
structure PlainGo (s : State) (n : Nat) (i : CoreWord) (op : Seen → Act) (e : Eff) : Prop where
  ready : s.ready n = true
  go : op (s.seen n i) = .go e
  sys : e.sys = id
  regLoad : e.regLoad = none
  regStore : e.regStore = none
  flawed : e.flawed = []

theorem PlainGo.issue (h : PlainGo s n i op e) : s.issue n i op = s.setCore n (coreAfter (s.seen n i) e) := by
  rw [issue_go h.ready h.go, commit_core _ _ h.regStore h.regLoad h.flawed, h.sys]
  rfl

theorem PlainGo.core (h : PlainGo s n i op e) : (s.issue n i op).core n = coreAfter (s.seen n i) e := by
  rw [h.issue, core_setCore_same]

theorem PlainGo.liveBank (h : PlainGo s n i op e) :
    (s.issue n i op).liveBank n = e.bank ((bankAfter (s.seen n i) e).advance (pcMod n)) := by
  rw [State.liveBank, h.core, coreAfter_eq, activeBank_coreWith]
  rfl

theorem seen_c (s : State) (n : Nat) (i : CoreWord) :
    (s.seen n i).c = withActive (s.core n) (activeBank (s.core n)).settle := rfl

theorem withActive_fields (c : Core) (b : Bank) : (withActive c b).dmem = c.dmem ∧ (withActive c b).flaws = c.flaws ∧
    (withActive c b).stores = c.stores ∧ (withActive c b).storesDone = c.storesDone ∧ (withActive c b).shadow = c.shadow ∧
    (withActive c b).dma = c.dma := by
  unfold withActive
  split <;> exact ⟨rfl, rfl, rfl, rfl, rfl, rfl⟩

theorem seen_c_dmem (s : State) (n : Nat) (i : CoreWord) : (s.seen n i).c.dmem = (s.core n).dmem := (withActive_fields _ _).1
theorem seen_c_flaws (s : State) (n : Nat) (i : CoreWord) : (s.seen n i).c.flaws = (s.core n).flaws :=
  (withActive_fields _ _).2.1
theorem seen_c_stores (s : State) (n : Nat) (i : CoreWord) : (s.seen n i).c.stores = (s.core n).stores :=
  (withActive_fields _ _).2.2.1
theorem seen_c_storesDone (s : State) (n : Nat) (i : CoreWord) : (s.seen n i).c.storesDone = (s.core n).storesDone :=
  (withActive_fields _ _).2.2.2.1
theorem seen_c_shadow (s : State) (n : Nat) (i : CoreWord) : (s.seen n i).c.shadow = (s.core n).shadow :=
  (withActive_fields _ _).2.2.2.2.1

/-- The memories and the posted stores of the core after it. -/
theorem PlainGo.dmem (h : PlainGo s n i op e) : ((s.issue n i op).core n).dmem = memCells (s.core n).dmem e.dm := by
  rw [h.core, coreAfter_eq, ← seen_c_dmem s n i]
  rfl

theorem PlainGo.stores_same (h : PlainGo s n i op e) (ho : e.orc = none) :
    ((s.issue n i op).core n).stores = (s.core n).stores := by
  rw [h.core, coreAfter_eq, coreWith, ho, seen_c_stores]
  exact List.append_nil _

theorem PlainGo.stores_posted (h : PlainGo s n i op e) {cs : List Host.Cell} (ho : e.orc = some cs) :
    ((s.issue n i op).core n).stores = (s.core n).stores ++
      [⟨cs, cs.any (fun b => s.on (F.ORC_OWN_PENDING (bankOf b.1)))⟩] := by
  rw [h.core, coreAfter_eq, coreWith, ho, seen_c_stores]
  rfl

/-- The bank goes on with what it leaves in flight. -/
theorem PlainGo.liveBank_fields (h : PlainGo s n i op e) (hb : e.bank = id) :
    ((s.issue n i op).liveBank n).pend = (bankAfter (s.seen n i) e).pend ∧
    ((s.issue n i op).liveBank n).ovl = (bankAfter (s.seen n i) e).ovl ∧
    ((s.issue n i op).liveBank n).load = (bankAfter (s.seen n i) e).load ∧
    ((s.issue n i op).liveBank n).n = (s.seen n i).b.n + 1 ∧
    ∀ k < ixLC 0, ((s.issue n i op).liveBank n).rd k = (s.seen n i).b.rd k := by
  obtain ⟨hpend, hn, hrd⟩ := (bankAfter (s.seen n i) e).advance_keeps (pcMod n)
  obtain ⟨hovl, hload⟩ := (bankAfter (s.seen n i) e).advance_ovl_load (pcMod n)
  rw [h.liveBank, hb]
  exact ⟨hpend, hovl, hload, hn, hrd⟩

theorem settle_keeps (b : Bank) : b.settle.pc = b.pc ∧ b.settle.n = b.n ∧ b.settle.load = b.load := by
  have hput (l : List Pend) : ∀ b : Bank, (l.foldl (fun b p => b.put p.idx p.val) b).pc = b.pc ∧
      (l.foldl (fun b p => b.put p.idx p.val) b).n = b.n ∧ (l.foldl (fun b p => b.put p.idx p.val) b).load = b.load := by
    induction l with
    | nil => exact fun b => ⟨rfl, rfl, rfl⟩
    | cons p t ih => exact fun b => ih (b.put p.idx p.val)
  obtain ⟨hpc, hn, hload⟩ := hput ((b.pend.filter (fun p => decide (p.due ≤ b.n))).filter (fun p => !p.post))
    (((b.pend.filter (fun p => decide (p.due ≤ b.n))).filter (fun p => p.post)).foldl (fun b p => b.put p.idx p.val) b)
  obtain ⟨hpc', hn', hload'⟩ := hput ((b.pend.filter (fun p => decide (p.due ≤ b.n))).filter (fun p => p.post)) b
  exact ⟨hpc.trans hpc', hn.trans hn', hload.trans hload'⟩

/-- Such an instruction has gone on. -/
theorem PlainGo.wentOn (h : PlainGo s n i op e) (hb : e.bank = id) : s.WentOn (s.issue n i op) n i := by
  obtain ⟨hpc, hn, -⟩ := settle_keeps (activeBank (s.core n))
  have hbank := h.liveBank
  have hlive := h.liveBank_fields hb
  refine ⟨?_, ?_, ?_, ?_⟩
  · rw [h.core, h.issue]
  · have hadv := Bank.advance_congr (s.seen n i).b (bankAfter (s.seen n i) e).pend (bankAfter (s.seen n i) e).ovl
      (bankAfter (s.seen n i) e).load ((s.seen n i).b.n + 1) (pcMod n)
    obtain ⟨hpend, hovl, hload, -, -⟩ := hlive
    rw [hpend, hovl, hload, hbank, hb, State.liveBank, ← hn, ← State.liveBank, ← seen_b s n i, ← hadv]
    rfl
  · rw [hbank, h.core, coreAfter_eq, State.liveBank, ← hpc]
    cases hs : (s.core n).shadow <;> simp [coreWith, withActive, seen_c, seen_b, State.liveBank, hs]
  · intro f hf
    rw [h.core, coreAfter_eq] at hf
    rw [← seen_c_flaws s n i]
    exact mem_mend hf

end

end State

end Sys2Proof.Machine
end

section
/-! Branches, calls, returns and loops (R87 to R90, R127 to R131). -/

namespace Sys2Proof.Machine

namespace State

section
variable {s : State} {n : Nat} {i : CoreWord} {op : Seen → Act} {e : Eff}

/-- A core at an issue slot waits for no load (R78). -/
theorem load_of_ready (h : s.ready n = true) : (s.seen n i).b.load = none := by
  have hissue := canIssue_of_ready h
  simp only [canIssue, Bool.and_eq_true, Option.isNone_iff_eq_none] at hissue
  obtain ⟨⟨⟨⟨⟨-, hload⟩, -⟩, -⟩, -⟩, -⟩ := hissue
  rw [seen_b]
  exact (settle_keeps _).2.2.trans hload

/-- The bank after an effect, gone on, in terms of the bank that the instruction saw. -/
theorem bankAfter_advance (x : Seen) (e : Eff) (m : Nat) :
    (bankAfter x e).advance m = { x.b.advance m with
      pend := (bankAfter x e).pend, ovl := (bankAfter x e).ovl, load := (bankAfter x e).load, n := x.b.n + 1 } :=
  Bank.advance_congr x.b _ _ _ _ m

/-- An instruction that stores nothing and loads nothing, and leaves the bank `b`. -/
theorem PlainGo.flowsTo (h : PlainGo s n i op e) (hdm : e.dm = []) (horc : e.orc = none) {b : Bank}
    (hb : e.bank ((bankAfter (s.seen n i) e).advance (pcMod n)) = { b with n := (s.seen n i).b.n + 1 }) :
    s.FlowsTo (s.issue n i op) n i b := by
  rw [FlowsTo, h.issue, coreAfter_eq, seen_n, hb]
  cases hs : (s.seen n i).c.shadow <;> simp [coreWith, withActive, hs, hdm, horc]

end

end State

namespace Bank

/-- Outside delay slots and loop ends the next PC is the next word's. -/
theorem advance_of_plain {b : Bank} {m : Nat} (hslots : b.slots = 0) (hend : b.lv ≠ 0 → b.rd (ixLE (b.lv - 1)) ≠ b.pc) :
    b.advance m = { b with pc := (b.pc + 8) % m } := by
  rw [advance, if_pos hslots, seqNext]
  exact if_neg (fun h => hend h.1 h.2)

end Bank

namespace Seen

/-- LR holds a PC whole (R83, R148). -/
theorem regMask_lr (x : Seen) (v : Nat) : x.regMask 4 (v % pcMod x.n) = v % pcMod x.n := by
  by_cases hn : x.n = 64 <;> simp [regMask, stw, pcMod, hn]

/-- Away from the end of a body the innermost level does not end at the PC. -/
theorem not_loopEnd {x : Seen} (h : x.bodyEnd = false) (hlv : x.b.lv ≠ 0) : x.b.rd (ixLE (x.b.lv - 1)) ≠ x.b.pc := by
  intro heq
  have hmem : x.b.lv - 1 ∈ List.range x.b.lv := List.mem_range.mpr (by omega)
  have hany : x.bodyEnd = true := List.any_eq_true.mpr ⟨_, hmem, by simp [heq]⟩
  rw [h] at hany
  exact Bool.false_ne_true hany

theorem flowBad_none {x : Seen} (hslots : x.b.slots = 0) (hend : x.bodyEnd = false) : x.flowBad = none := by
  simp [flowBad, hslots, hend]

theorem loopBad_none {x : Seen} (hslots : x.b.slots = 0) (hend : x.bodyEnd = false)
    (hlv : x.b.lv = 0 ∨ x.b.lv = 1 ∧ x.loopEnd ≤ x.b.rd (ixLE 0)) : x.loopBad = none := by
  simp only [loopBad, flowBad_none hslots hend, ite_eq_right_iff, reduceCtorEq, imp_false]
  omega

end Seen

namespace State

section
variable {s : State} {n : Nat} {i : CoreWord} {op : Seen → Act}

/-- A branch-class instruction that no sequence forbids. -/
theorem plainGo_jump (h : s.ready n = true) (hslots : (s.seen n i).b.slots = 0) (hend : (s.seen n i).bodyEnd = false)
    {t : Option Nat} {closes : Bool} {w : List Wr} (hop : op (s.seen n i) = (s.seen n i).jump t closes w) :
    PlainGo s n i op { Eff.none with wr := w, bank := Seen.slotsTo t closes } :=
  ⟨h, by rw [hop, Seen.jump, Seen.flowBad_none hslots hend]; rfl, rfl, rfl, rfl, rfl⟩

theorem plainGo_loop (h : s.ready n = true) (hslots : (s.seen n i).b.slots = 0) (hend : (s.seen n i).bodyEnd = false)
    (hlv : (s.seen n i).b.lv = 0 ∨ (s.seen n i).b.lv = 1 ∧ (s.seen n i).loopEnd ≤ (s.seen n i).b.rd (ixLE 0)) {count : Nat}
    (hop : op (s.seen n i) = (s.seen n i).loopOf count) :
    PlainGo s n i op { Eff.none with bank := (s.seen n i).openLoop count } :=
  ⟨h, by rw [hop, Seen.loopOf, Seen.loopBad_none hslots hend hlv]; rfl, rfl, rfl, rfl, rfl⟩

/-- The bank in which a branch-class instruction or a LOOP has gone on, before what it does itself. -/
theorem bankAfter_flow (h : s.ready n = true) (hslots : (s.seen n i).b.slots = 0) (hend : (s.seen n i).bodyEnd = false)
    {w : List Wr} {f : Bank → Bank} :
    (bankAfter (s.seen n i) { Eff.none with wr := w, bank := f }).advance (pcMod n) =
      { (s.seen n i).b with
        pc := ((s.seen n i).b.pc + 8) % pcMod n, pend := (s.seen n i).b.pend ++ waiting (s.seen n i).b.n w,
        n := (s.seen n i).b.n + 1 } := by
  rw [bankAfter_advance, Bank.advance_of_plain hslots (Seen.not_loopEnd hend)]
  simp [bankAfter, Eff.none, ← load_of_ready (i := i) h]

/-- Two delay slots follow a branch-class instruction, then its target. -/
theorem flowsTo_jump (h : s.ready n = true) (hslots : (s.seen n i).b.slots = 0) (hend : (s.seen n i).bodyEnd = false)
    {t : Option Nat} {closes : Bool} {w : List Wr} (hop : op (s.seen n i) = (s.seen n i).jump t closes w) :
    s.FlowsTo (s.issue n i op) n i { (s.seen n i).b with
      pc := ((s.seen n i).b.pc + 8) % pcMod n, slots := 2, closes := closes, target := t,
      pend := (s.seen n i).b.pend ++ waiting (s.seen n i).b.n w } := by
  refine (plainGo_jump h hslots hend hop).flowsTo rfl rfl ?_
  rw [bankAfter_flow h hslots hend]
  rfl

theorem flowsTo_jump_plain (h : s.ready n = true) (hslots : (s.seen n i).b.slots = 0) (hend : (s.seen n i).bodyEnd = false)
    {t : Option Nat} {closes : Bool} (hop : op (s.seen n i) = (s.seen n i).jump t closes []) :
    s.FlowsTo (s.issue n i op) n i { (s.seen n i).b with
      pc := ((s.seen n i).b.pc + 8) % pcMod n, slots := 2, closes := closes, target := t } := by
  have hflow := flowsTo_jump h hslots hend hop
  simpa [waiting] using hflow

/-- What the live bank is after an instruction that flows to `b`. -/
theorem FlowsTo.liveBank {t : State} {b : Bank} (h : s.FlowsTo t n i b) :
    t.liveBank n = { b with n := (s.seen n i).b.n + 1 } := by
  rw [h, State.liveBank, core_setCore_same]
  cases hs : (s.seen n i).c.shadow <;> simp [activeBank, withActive, hs]

end

end State

namespace Seen

/-- The bank of a LOOP that opens a level: its three registers, and the others as they were (R88). -/
theorem openLoop_rd (x : Seen) {count : Nat} (hcount : count ≠ 0) (b : Bank) :
    (x.openLoop count b).rd (ixLC b.lv) = count ∧ (x.openLoop count b).rd (ixLS b.lv) = x.loopStart ∧
    (x.openLoop count b).rd (ixLE b.lv) = x.loopEnd ∧
    ∀ k, k ≠ ixLC b.lv → k ≠ ixLS b.lv → k ≠ ixLE b.lv → (x.openLoop count b).rd k = b.rd k := by
  have hopen (k : Nat) : (x.openLoop count b).rd k =
      (((b.put (ixLC b.lv) count).put (ixLS b.lv) x.loopStart).put (ixLE b.lv) x.loopEnd).rd k := by
    rw [openLoop, if_neg hcount]
    rfl
  have hcs : ixLC b.lv ≠ ixLS b.lv := by simp only [ixLC, ixLS]; omega
  have hce : ixLC b.lv ≠ ixLE b.lv := by simp only [ixLC, ixLE]; omega
  have hse : ixLS b.lv ≠ ixLE b.lv := by simp only [ixLS, ixLE]; omega
  refine ⟨?_, ?_, ?_, fun k hc hs he => ?_⟩
  · rw [hopen, Bank.rd_put_ne _ _ hce, Bank.rd_put_ne _ _ hcs, Bank.rd_put_same]
  · rw [hopen, Bank.rd_put_ne _ _ hse, Bank.rd_put_same]
  · rw [hopen, Bank.rd_put_same]
  · rw [hopen, Bank.rd_put_ne _ _ he, Bank.rd_put_ne _ _ hs, Bank.rd_put_ne _ _ hc]

end Seen

namespace State

section
variable {s : State} {n : Nat} {i : CoreWord} {op : Seen → Act}

/-- A LOOP with a count opens a level. -/
theorem loop_opens (h : s.ready n = true) (hslots : (s.seen n i).b.slots = 0) (hend : (s.seen n i).bodyEnd = false)
    (hlv : (s.seen n i).b.lv = 0 ∨ (s.seen n i).b.lv = 1 ∧ (s.seen n i).loopEnd ≤ (s.seen n i).b.rd (ixLE 0)) {count : Nat}
    (hcount : count ≠ 0) (hop : op (s.seen n i) = (s.seen n i).loopOf count) :
    ((s.issue n i op).liveBank n).rd (ixLC (s.seen n i).b.lv) = count ∧
    ((s.issue n i op).liveBank n).rd (ixLS (s.seen n i).b.lv) = ((s.seen n i).b.pc + 8) % pcMod n ∧
    ((s.issue n i op).liveBank n).rd (ixLE (s.seen n i).b.lv) =
      ((s.seen n i).b.pc + 8 + 8 * natBits i.mv.toNat 10 0) % pcMod n ∧
    (∀ k : Nat, k ≠ ixLC (s.seen n i).b.lv → k ≠ ixLS (s.seen n i).b.lv → k ≠ ixLE (s.seen n i).b.lv →
      ((s.issue n i op).liveBank n).rd k = (s.seen n i).b.rd k) ∧
    s.FlowsTo (s.issue n i op) n i { (s.seen n i).b with
      pc := ((s.seen n i).b.pc + 8) % pcMod n, lv := (s.seen n i).b.lv + 1, r := ((s.issue n i op).liveBank n).r } := by
  have hgo := plainGo_loop h hslots hend hlv hop
  have hbank := bankAfter_flow (f := (s.seen n i).openLoop count) (w := []) h hslots hend
  have hlive : (s.issue n i op).liveBank n = _ := hgo.liveBank.trans (congrArg _ hbank)
  obtain ⟨hlc, hls, hle, hrest⟩ := (s.seen n i).openLoop_rd hcount
    { (s.seen n i).b with
      pc := ((s.seen n i).b.pc + 8) % pcMod n, pend := (s.seen n i).b.pend ++ waiting (s.seen n i).b.n [],
      n := (s.seen n i).b.n + 1 }
  have hflow : s.FlowsTo (s.issue n i op) n i { (s.seen n i).b with
      pc := ((s.seen n i).b.pc + 8) % pcMod n, lv := (s.seen n i).b.lv + 1, r := ((s.issue n i op).liveBank n).r } := by
    refine hgo.flowsTo rfl rfl ?_
    rw [hlive]
    refine (congrArg _ hbank).trans ?_
    simp [Seen.openLoop, hcount, Bank.put, waiting]
  rw [hlive] at hflow ⊢
  exact ⟨hlc, hls, hle, hrest, hflow⟩

/-- One without a count skips its body. -/
theorem loop_skips (h : s.ready n = true) (hslots : (s.seen n i).b.slots = 0) (hend : (s.seen n i).bodyEnd = false)
    (hlv : (s.seen n i).b.lv = 0 ∨ (s.seen n i).b.lv = 1 ∧ (s.seen n i).loopEnd ≤ (s.seen n i).b.rd (ixLE 0)) {count : Nat}
    (hcount : count = 0) (hop : op (s.seen n i) = (s.seen n i).loopOf count) :
    s.FlowsTo (s.issue n i op) n i { (s.seen n i).b with
      pc := (((s.seen n i).b.pc + 8 + 8 * natBits i.mv.toNat 10 0) % pcMod n + 8) % pcMod n } := by
  refine (plainGo_loop h hslots hend hlv hop).flowsTo rfl rfl ?_
  refine (congrArg _ (bankAfter_flow h hslots hend)).trans ?_
  simp [Seen.openLoop, hcount, waiting, Seen.loopEnd, Seen.mvf, Eff.none]

end

end State

open State in
/-- Settles O18: away from delay slots and the end of a body nothing forbids the instruction, and it goes on to its two delay
slots, or into or past the body that it names. -/
theorem flowInstructionsComplete : Obligations.FlowInstructionsComplete := by
  unfold Obligations.FlowInstructionsComplete
  rintro s c i n _ rfl rfl h hslots hend
  refine ⟨⟨_, rfl, ?br⟩, fun taken hkind hcond => ⟨_, rfl, ?brc⟩, ⟨_, rfl, ?call⟩, ⟨_, rfl, ?ret⟩,
    fun hlv hcount => ⟨_, rfl, loop_opens h hslots hend hlv hcount rfl⟩,
    fun hlv hcount => ⟨_, rfl, loop_skips h hslots hend hlv hcount rfl⟩,
    fun hlv hcount => ⟨_, rfl, loop_opens h hslots hend hlv hcount rfl⟩,
    fun hlv hcount => ⟨_, rfl, loop_skips h hslots hend hlv hcount rfl⟩⟩
  case br =>
    refine flowsTo_jump_plain h hslots hend ?_
    cases hflg : i.flg <;> simp [Seen.opBr, hflg] <;> rfl
  case brc =>
    refine flowsTo_jump_plain h hslots hend ?_
    rw [Seen.opBrc, if_neg (show (s.seen (CoreSel.ix c) i).subf 6 4 ≠ 7 from hkind), hcond, seen_i]
    cases taken <;> cases i.flg <;> rfl
  case ret =>
    refine flowsTo_jump_plain h hslots hend ?_
    cases hflg : i.flg
    · simp [Seen.opRet, hflg]
    · simp [Seen.opRet, hflg]
      rfl
  case call =>
    have hjump : Seen.opCall (s.seen (CoreSel.ix c) i) = (s.seen (CoreSel.ix c) i).jump
        (some ((s.seen (CoreSel.ix c) i).target (if i.flg then (s.seen (CoreSel.ix c) i).X (natBits i.sub.toNat 3 0)
          else ((s.seen (CoreSel.ix c) i).b.pc : Int) + 8 * sint 16 (natBits i.mv.toNat 15 0)))) false
        [⟨3, ixReg 4 0, ((s.seen (CoreSel.ix c) i).b.pc + 24) % pcMod (CoreSel.ix c)⟩] := by
      rw [Seen.opCall, Seen.regWr, Seen.regMask_lr]
      cases hflg : i.flg <;> simp [hflg] <;> rfl
    have hflow := flowsTo_jump h hslots hend hjump
    have hlive := hflow.liveBank
    refine ⟨?_, ?_, ?_, ?_⟩
    · rw [hlive]
      exact Bank.readIn_eq_of_last rfl (by simp [waiting]) (by simp [waiting]) (by simp [waiting])
    · rw [hlive, List.drop_left]
      simp [waiting]
    · rw [hlive]
      exact List.take_left
    · have hpend := congrArg Bank.pend hlive
      dsimp only at hpend
      rw [hpend]
      exact hflow

end Sys2Proof.Machine
end

section
/-! Going on after the second delay slot, and at the end of a loop body (R88, R90, R127). -/

namespace Sys2Proof.Machine

namespace Bank

/-- After the second delay slot the target follows; a branch that closes levels leaves those open around it (R90, R127). -/
theorem advance_to_target {b : Bank} {a m : Nat} (hslots : b.slots = 1) (ht : b.target = some a) :
    b.advance m = { b with pc := a, slots := 0, target := none, closes := false,
                           lv := if b.closes then b.openLevels a else b.lv } := by
  simp [advance, hslots, ht]

/-- At the end of the innermost body the core goes back to its start while counts remain (R88). -/
theorem advance_goes_back {b : Bank} {k m : Nat} (hslots : b.slots = 0) (hlv : b.lv = k + 1) (hend : b.rd (ixLE k) = b.pc)
    (hcount : 1 < b.rd (ixLC k)) :
    b.advance m = { b.put (ixLC k) (b.rd (ixLC k) - 1) with pc := b.rd (ixLS k) } := by
  simp [advance, seqNext, hslots, hlv, hend, hcount]

/-- After the last pass it goes on past it. -/
theorem advance_closes {b : Bank} {k m : Nat} (hslots : b.slots = 0) (hlv : b.lv = k + 1) (hend : b.rd (ixLE k) = b.pc)
    (hcount : b.rd (ixLC k) ≤ 1) : b.advance m = { b with lv := k, pc := (b.pc + 8) % m } := by
  simp [advance, seqNext, hslots, hlv, hend, Nat.not_lt.mpr hcount]

/-- The levels that stay open around a target are as many as before at most, and contain it (R90). -/
theorem openLevels_spec (b : Bank) (t : Nat) : b.openLevels t ≤ b.lv ∧
    ∀ k ∈ [0, 1], k < b.openLevels t → b.rd (ixLS k) ≤ t ∧ t ≤ b.rd (ixLE k) := by
  unfold openLevels
  dsimp only
  split
  · exact ⟨by omega, fun k _ hk => absurd hk (Nat.not_lt_zero k)⟩
  · next houter =>
    split
    · next hinner =>
      refine ⟨by omega, fun k _ hk => ?_⟩
      obtain rfl : k = 0 := by omega
      simpa [show 1 ≤ b.lv by omega] using houter
    · next hinner =>
      refine ⟨le_rfl, fun k hmem hk => ?_⟩
      simp only [List.mem_cons, List.not_mem_nil, or_false] at hmem
      rcases hmem with rfl | rfl
      · simpa [show 1 ≤ b.lv by omega] using houter
      · simpa [show 2 ≤ b.lv by omega] using hinner

end Bank

namespace State

section
variable {s : State} {n : Nat} {i : CoreWord}

/-- A NOP without a move does nothing but go on. -/
theorem plainGo_nop (h : s.ready n = true) (hmove : natBits i.mv.toNat 31 30 = 0) :
    PlainGo s n i Seen.opNop Eff.none := by
  refine ⟨h, ?_, rfl, rfl, rfl, rfl⟩
  have hmvf : (s.seen n i).mvf 31 30 = 0 := hmove
  simp only [Seen.opNop, Seen.compute, Seen.move, hmvf]
  rfl

/-- The bank that goes on to `b` is what a NOP flows to. -/
theorem flowsTo_nop (h : s.ready n = true) (hmove : natBits i.mv.toNat 31 30 = 0) {b : Bank}
    (hb : (s.seen n i).b.advance (pcMod n) = b) (hkeep : b.pend = (s.seen n i).b.pend) :
    s.FlowsTo (s.issue n i Seen.opNop) n i b := by
  refine (plainGo_nop h hmove).flowsTo rfl rfl ?_
  have hload : b.load = none := by
    rw [← hb]
    exact (Bank.advance_ovl_load _ _).2.trans (load_of_ready h)
  have hovl : b.ovl = (s.seen n i).b.ovl := hb ▸ (Bank.advance_ovl_load _ _).1
  refine (bankAfter_advance _ _ _).trans ?_
  rw [hb]
  simp [bankAfter, Eff.none, waiting, ← hload, ← hovl, ← hkeep]

end

end State

open State in
/-- Settles O19: a NOP without a move only goes on, and where it goes is said of the bank alone. -/
theorem slotsAndLoopEndsGoOn : Obligations.SlotsAndLoopEndsGoOn := by
  unfold Obligations.SlotsAndLoopEndsGoOn
  rintro s c i n _ rfl rfl h hmove
  refine ⟨fun a hslots ht hcloses => ⟨_, rfl, flowsTo_nop h hmove ?_ rfl⟩, fun a hslots ht hcloses => ?_,
    fun k hslots hlv hend hcount => ?_, fun k hslots hlv hend hcount => ⟨_, rfl, flowsTo_nop h hmove ?_ rfl⟩⟩
  · simp [Bank.advance_to_target hslots ht, hcloses]
  · have hflow := flowsTo_nop h hmove (Bank.advance_to_target hslots ht) rfl
    have hlive := congrArg Bank.lv hflow.liveBank
    simp only [hcloses, if_true] at hlive hflow
    obtain ⟨hle, hin⟩ := (s.seen (CoreSel.ix c) i).b.openLevels_spec a
    refine ⟨_, rfl, ?_, ?_, ?_⟩
    · rwa [hlive]
    · rwa [hlive]
    · rw [hlive]
      exact hflow
  · have hflow := flowsTo_nop h hmove (Bank.advance_goes_back hslots hlv hend hcount) rfl
    have hlive := hflow.liveBank
    refine ⟨_, rfl, ?_, fun j hj => ?_, ?_⟩
    · rw [hlive]
      exact Bank.rd_put_same _ _ _
    · rw [hlive]
      exact Bank.rd_put_ne _ _ hj
    · have hr := congrArg Bank.r hlive
      dsimp only at hr
      rw [hr]
      exact hflow
  · exact Bank.advance_closes hslots hlv hend hcount

end Sys2Proof.Machine
end

section
/-! A timer channel that is ON but does not count (R297): no command leaves one so, and the statement takes every state. -/

namespace Sys2Proof.Machine

/-- The timer clock runs and channel 0 is ON, with RELOAD 9, while `I.TMR_RUN`, set by every start, is 0. -/
def onWithoutRun : State :=
  { State.reset with regs := [((I.CLK_STARTED.id, I.CLK_STARTED.ix), 1), (((F.TMR_CTRL_STATE 0).id, 0), unitON),
      (((I.TMR_RLD 0).id, 0), 9)] }

/-- Refutes O38: at the edge of its lap start, TCLK edge 10, that channel goes OFF, and the cause of a lap start is not set. -/
theorem not_timerCountEventsComplete : ¬ Obligations.TimerCountEventsComplete := by
  unfold Obligations.TimerCountEventsComplete
  intro h
  obtain ⟨hlap, -⟩ := h onWithoutRun .steward 0 0
  obtain ⟨-, -, -, hcause, -⟩ := State.of_next rfl (hlap 10 (by decide +kernel) (by decide +kernel) (by decide +kernel))
  exact absurd hcause (by decide +kernel)

end Sys2Proof.Machine
end

section
/-! A timer start at the TCLK edge 2⁶⁴, which the 64 bits of `I.TMR_AT` do not hold (R297, R303). -/

namespace Sys2Proof.Machine

/-- TCLK has reached its edge 2⁶⁴, and channel 0 was enabled one edge before. -/
def lateStart : State :=
  { State.reset with
    regs := [((I.CLK_STARTED.id, I.CLK_STARTED.ix), 1), (((F.TMR_CTRL_STATE 0).id, 0), unitSTARTING),
      (((I.TMR_AT 0).id, 0), 2 ^ 64 - 1)]
    tclk := 2 ^ 64 }

/-- Refutes O37: the edge of that start is kept as 0, so that two laps of length 1 follow before edge 2⁶⁴ is reached, and the
channel's last edge is 2 and not 2⁶⁴ mod 2⁶⁴. -/
theorem not_timerEnableAndStopComplete : ¬ Obligations.TimerEnableAndStopComplete := by
  unfold Obligations.TimerEnableAndStopComplete
  intro h
  obtain ⟨-, -, hstart, -⟩ := h lateStart .steward 0
  obtain ⟨hmembers, -⟩ := State.of_next rfl (hstart (2 ^ 64) (by decide +kernel) (by decide +kernel))
  obtain ⟨-, -, -, hedge, -⟩ := hmembers 0 (by decide +kernel)
  exact absurd hedge (by decide +kernel)

end Sys2Proof.Machine
end

section
/-! A healthy trial reported while `CFG_TRIAL.ACTIVE`, 1 bit wide, holds another number than 0 or 1 (R442, R443). -/

namespace Sys2Proof.Machine

/-- A trial of a paired, linked machine, its ACTIVE flag held as 2. -/
def wideTrial : State :=
  { State.reset with regs := [((F.CFG_TRIAL_ACTIVE.id, F.CFG_TRIAL_ACTIVE.ix), 2),
      ((F.TWN_STAT_ROLE.id, F.TWN_STAT_ROLE.ix), roleACTIVE), ((F.TWN_CTRL_EN.id, F.TWN_CTRL_EN.ix), 1),
      ((F.TWN_STAT_LANES.id, F.TWN_STAT_LANES.ix), 1)] }

/-- Refutes O47: the report there keeps the flag as it is, and the clause gives it as 1. -/
theorem not_graftCommandsComplete : ¬ Obligations.GraftCommandsComplete := by
  unfold Obligations.GraftCommandsComplete
  intro h
  obtain ⟨-, -, -, -, -, -, -, -, -, -, -, -, -, -, -, -, -, hhealthy, -⟩ := h wideTrial .steward
  obtain ⟨-, hactive, -⟩ := State.of_next rfl (hhealthy (by decide +kernel) (by decide +kernel) (by decide +kernel)
    (by decide +kernel) (by decide +kernel) (by decide +kernel))
  exact absurd hactive (by decide +kernel)

end Sys2Proof.Machine
end

section
/-! An enable of a lane of the twin link that is OFF with its EN already 1: EN does not change, so that nothing starts (R38,
R384). -/

namespace Sys2Proof.Machine

/-- Lane 0 has EN 1 and STATE OFF. -/
def laneEnabledButOff : State := { State.reset with regs := [(((F.TWN_LANE_EN 0).id, 0), 1)] }

/-- Refutes O48: the enable there leaves the lane OFF, not STARTING. -/
theorem not_twinRoleCommandsComplete : ¬ Obligations.TwinRoleCommandsComplete := by
  unfold Obligations.TwinRoleCommandsComplete
  intro h
  obtain ⟨-, -, -, -, -, -, -, hlane, -⟩ := h laneEnabledButOff .steward 0 0
  obtain ⟨-, hstarting, -⟩ := State.of_next rfl (hlane (by decide +kernel) (by decide +kernel))
  exact absurd hstarting (by decide +kernel)

end Sys2Proof.Machine
end

section
/-! Violations (R399, R400): what the record of one leaves in the log, the count, the frozen bits and the causes, and the core
that an illegal instruction leaves (R100, R147, R149). -/

namespace Sys2Proof.Machine

namespace State

/-! ### Changes of the registers of some names alone -/

/-- Between the two states only registers of these names, and the events waiting for delivery, change. -/
def OnlyNames (s t : State) (fs : List Fld) : Prop := t.rest = s.rest ∧ s.KeepsNames t fs

theorem OnlyNames.refl (s : State) (fs : List Fld) : s.OnlyNames s fs := ⟨rfl, fun _ _ => rfl⟩

theorem OnlyNames.trans {s t u : State} {fs : List Fld} (h : s.OnlyNames t fs) (k : t.OnlyNames u fs) : s.OnlyNames u fs :=
  ⟨k.1.trans h.1, h.2.trans k.2⟩

theorem OnlyNames.mono {s t : State} {fs gs : List Fld} (h : s.OnlyNames t fs) (hs : fs ⊆ gs) : s.OnlyNames t gs :=
  ⟨h.1, fun f hf => h.2 f (fun hm => hf (List.map_subset _ hs hm))⟩

theorem onlyNames_set {s : State} {f : Fld} {fs : List Fld} (h : fs.any (fun g => g.id == f.id) = true) (v : Nat) :
    s.OnlyNames (s.set f v) fs := ⟨rfl, (keepsNames_set h v).mpr fun _ _ => rfl⟩

theorem onlyNames_bump {s : State} {f : Fld} {fs : List Fld} (h : fs.any (fun g => g.id == f.id) = true) (n : Nat) :
    s.OnlyNames (s.bump f n) fs := onlyNames_set h _

theorem onlyNames_raise {s : State} {fs : List Fld} {n : Nat}
    (h : (evCause n).all (fun e => fs.any (fun g => g.id == e.1.id)) = true) : s.OnlyNames (s.raise n) fs :=
  ⟨s.rest_raise n, (keepsNames_raise h).mpr fun _ _ => rfl⟩

theorem onlyNames_foldl {α : Type} {fs : List Fld} {g : State → α → State} (h : ∀ (t : State) (x : α), t.OnlyNames (g t x) fs)
    (l : List α) (s : State) : s.OnlyNames (l.foldl g s) fs :=
  ⟨rest_foldl l (fun t x => (h t x).1) s, keepsNames_foldl l (fun t x => (h t x).2) fun _ _ => rfl⟩

theorem OnlyNames.get {s t : State} {fs : List Fld} (h : s.OnlyNames t fs) {f : Fld}
    (hf : fs.all (fun g => !(g.id == f.id)) = true) : t.get f = s.get f :=
  h.2 f fun hm => by
    obtain ⟨g, hg, he⟩ := List.mem_map.mp hm
    have := List.all_eq_true.mp hf g hg
    simp [he] at this

/-! ### The parts of a violation's record (R400) -/

/-- The register names that a violation's record writes. -/
def violNames : List Fld := [F.PRT_VLOG_W 0 0, I.VREC 0, F.PRT_VCNT_N, F.PRT_FROZEN_M 0, F.PRT_EVT_EVT]

/-- The register names that an abandoned rotation writes (R414). -/
def rotationNames : List Fld := [I.PC_BUSY 0, F.MDL_MAP_PHASE 0, F.MDL_MAP_SPARE 0, I.ROT_N]

theorem onlyNames_vlogShift (k : Nat) : ∀ s : State, s.OnlyNames (vlogShift k s) [F.PRT_VLOG_W 0 0] := by
  induction k with
  | zero => exact fun s => OnlyNames.refl s _
  | succ k ih =>
    exact fun s => (onlyNames_foldl (fun t _ => onlyNames_set (s := t) rfl _) [0, 1, 2, 3] s).trans (ih _)

theorem onlyNames_setWords {fs : List Fld} {f : Nat → Fld} (h : ∀ k, fs.any (fun g => g.id == (f k).id) = true) (ws : List Nat)
    (s : State) : s.OnlyNames (s.setWords f ws) fs :=
  onlyNames_foldl (g := fun s (e : Nat × Nat) => s.set (f e.2) e.1) (fun _ e => onlyNames_set (h e.2) _) _ s

theorem onlyNames_setFrozen (s : State) (m : Nat) (b : Bool) : s.OnlyNames (s.setFrozen m b) [F.PRT_FROZEN_M 0] := by
  unfold setFrozen
  split
  · exact onlyNames_set rfl _
  · exact OnlyNames.refl s _

/-- A master of `PRT_FROZEN` whose bit is set is frozen. -/
theorem isFrozen_setFrozen (s : State) {m : Nat} (h : (frozenBit m).isSome = true) : (s.setFrozen m true).isFrozen m = true := by
  obtain ⟨⟨w, k⟩, hb⟩ := Option.isSome_iff_exists.mp h
  have hk : k < 32 := by
    unfold frozenBit at hb
    split at hb <;> grind
  simp only [isFrozen, setFrozen, hb, get_set_same]
  have hw : (F.PRT_FROZEN_M w).width = 32 := rfl
  rw [natBit, hw, ← Nat.toNat_testBit, Nat.testBit_mod_two_pow]
  simp [hk]

/-- The record before the master is frozen and event 16 raised. -/
def recorded (s : State) (m kind bank pip addr pc : Nat) : State :=
  (((vlogShift 15 s).setWords (F.PRT_VLOG_W 0) (s.violWords m kind bank pip addr pc)).setWords (fun k => I.VREC (4 * m + k))
    (s.violWords m kind bank pip addr pc)).bump F.PRT_VCNT_N 1

theorem violate_eq (s : State) (m kind bank pip addr pc : Nat) :
    s.violate m kind bank pip addr pc = ((s.recorded m kind bank pip addr pc).setFrozen m true).raise 16 := rfl

theorem onlyNames_recorded (s : State) (m kind bank pip addr pc : Nat) :
    s.OnlyNames (s.recorded m kind bank pip addr pc) [F.PRT_VLOG_W 0 0, I.VREC 0, F.PRT_VCNT_N] :=
  (((onlyNames_vlogShift 15 s).mono (by simp)).trans (onlyNames_setWords (fun _ => rfl) _ _)).trans
    ((onlyNames_setWords (fun _ => rfl) _ _).trans (onlyNames_bump rfl 1))

theorem onlyNames_violate (s : State) (m kind bank pip addr pc : Nat) :
    s.OnlyNames (s.violate m kind bank pip addr pc) violNames := by
  rw [violate_eq]
  exact ((s.onlyNames_recorded m kind bank pip addr pc).mono (by simp [violNames])).trans
    (((onlyNames_setFrozen _ m true).mono (by simp [violNames])).trans (onlyNames_raise rfl))

/-- The newest entry of the log holds the words of the violation. -/
theorem vlog_violate (s : State) (m kind bank pip addr pc : Nat) {k : Nat} (hk : k < 4) :
    (s.violate m kind bank pip addr pc).get (F.PRT_VLOG_W 0 k) = (s.violWords m kind bank pip addr pc).getD k 0 % 2 ^ 32 := by
  rw [violate_eq, (onlyNames_raise rfl : OnlyNames _ _ [F.PRT_EVT_EVT]).get rfl, (onlyNames_setFrozen _ m true).get rfl, recorded,
    (onlyNames_bump rfl 1 : OnlyNames _ _ [F.PRT_VCNT_N]).get rfl, (onlyNames_setWords (fs := [I.VREC 0]) (fun _ => rfl) _ _).get rfl]
  have hwords : ∀ a b c d : Nat, ((vlogShift 15 s).setWords (F.PRT_VLOG_W 0) [a, b, c, d]).get (F.PRT_VLOG_W 0 k) =
      [a, b, c, d].getD k 0 % 2 ^ 32 := fun a b c d => by
    change (((((vlogShift 15 s).set (F.PRT_VLOG_W 0 0) a).set (F.PRT_VLOG_W 0 1) b).set (F.PRT_VLOG_W 0 2) c).set
      (F.PRT_VLOG_W 0 3) d).get (F.PRT_VLOG_W 0 k) = _
    interval_cases k
    · rw [get_set_index _ _ (by decide), get_set_index _ _ (by decide), get_set_index _ _ (by decide), get_set_same]; rfl
    · rw [get_set_index _ _ (by decide), get_set_index _ _ (by decide), get_set_same]; rfl
    · rw [get_set_index _ _ (by decide), get_set_same]; rfl
    · rw [get_set_same]; rfl
  exact hwords _ _ _ _

/-- One more violation is counted, up to the counter's top (R13). -/
theorem vcnt_violate (s : State) (m kind bank pip addr pc : Nat) :
    (s.violate m kind bank pip addr pc).get F.PRT_VCNT_N = min (s.get F.PRT_VCNT_N + 1) (2 ^ 16 - 1) := by
  rw [violate_eq, (onlyNames_raise rfl : OnlyNames _ _ [F.PRT_EVT_EVT]).get rfl, (onlyNames_setFrozen _ m true).get rfl, recorded,
    get_bump_same, (onlyNames_setWords (fs := [I.VREC 0]) (fun _ => rfl) _ _).get rfl,
    (onlyNames_setWords (fs := [F.PRT_VLOG_W 0 0]) (fun _ => rfl) _ _).get rfl, (onlyNames_vlogShift 15 s).get rfl]
  rfl

theorem evt_violate (s : State) (m kind bank pip addr pc : Nat) :
    (s.violate m kind bank pip addr pc).get F.PRT_EVT_EVT % 2 = 1 := by
  have := get_raise_bit ((s.recorded m kind bank pip addr pc).setFrozen m true) (n := 16) (k := 0) rfl (by decide)
  simpa [violate_eq] using this

theorem isFrozen_violate (s : State) {m : Nat} (h : (frozenBit m).isSome = true) (kind bank pip addr pc : Nat) :
    (s.violate m kind bank pip addr pc).isFrozen m = true := by
  have hkeep : ∀ w, (s.violate m kind bank pip addr pc).get (F.PRT_FROZEN_M w) =
      ((s.recorded m kind bank pip addr pc).setFrozen m true).get (F.PRT_FROZEN_M w) := fun w => by
    rw [violate_eq, (onlyNames_raise rfl : OnlyNames _ _ [F.PRT_EVT_EVT]).get rfl]
  rw [← isFrozen_setFrozen (s.recorded m kind bank pip addr pc) h]
  simp only [isFrozen, hkeep]

/-! ### A core frozen by a violation (R399) -/

theorem onlyNames_dropRotation (s : State) (n : Nat) : s.OnlyNames (s.dropRotation n) rotationNames := by
  unfold dropRotation
  split
  · exact (((onlyNames_set rfl _).trans (onlyNames_set rfl _)).trans (onlyNames_set rfl _)).trans (onlyNames_set rfl _)
  · exact OnlyNames.refl s _

theorem core_of_rest {s t : State} (h : t.rest = s.rest) (k : Nat) : t.core k = s.core k := by
  have hcores : t.cores = s.cores := (congrArg State.cores h : t.rest.cores = s.rest.cores)
  rw [State.core, State.core, hcores]

/-- A core written twice where else only registers and waiting events changed. -/
theorem eq_setCore_of_rest {s v : State} (h : v.rest = s.rest) (n : Nat) (c d : Core) :
    (v.setCore n c).setCore n d =
      { s with regs := v.regs, toDeliver := v.toDeliver, cores := ((v.setCore n c).setCore n d).cores } :=
  congrArg (fun z : State =>
    { z with regs := v.regs, toDeliver := v.toDeliver, cores := ((v.setCore n c).setCore n d).cores }) h

/-- A violation of a core is the violation's record made where its rotation has been abandoned, and the core frozen. -/
theorem coreViolation_eq (s : State) (n kind addr : Nat) (chan : Option Nat) :
    ∃ (u : State) (c : Core), s.OnlyNames u rotationNames ∧ s.coreViolation n kind addr chan =
      ((u.violate (s.masterOf n) kind (b2n (s.core n).shadow) (runPip (s.core n)) addr (activeBank (s.core n)).pc).setCore n c).setCore n
        { s.core n with frozen := true, vskip := chan.isNone, vchan := chan, stall := false } := by
  have hu : s.OnlyNames (if n < 64 then s.dropRotation n else s) rotationNames := by
    split
    · exact s.onlyNames_dropRotation n
    · exact OnlyNames.refl s _
  have hm : (if n < 64 then s.dropRotation n else s).masterOf n = s.masterOf n := by
    rw [masterOf, masterOf, hu.get rfl]
  refine ⟨_, { s.core n with frozen := true }, hu, ?_⟩
  simp only [coreViolation, freezeCore, hm, core_setCore_same]

end State

/-- The opcodes that no core has and those that the steward lacks are illegal (R147). -/
theorem Seen.illegal_of_reserved {x : Seen} {op : Nat} (h : op ∈ [0x2E, 0x2F] ∨ 0x38 ≤ op ∨
    x.stw = true ∧ op ∈ [0x0F, 0x13, 0x14, 0x15, 0x16, 0x17, 0x1C, 0x1D, 0x31, 0x36]) : x.illegal op = some x.illop := by
  have hforbidden : op = 0x2E ∨ op = 0x2F ∨ 0x38 ≤ op ∨ (x.stw ∧ (notSteward op ∨ (op = 0x35 ∧ x.i.flg = false))) := by
    simp only [notSteward, List.contains_iff_mem]
    rcases h with h | h | ⟨hs, h⟩
    · simp only [List.mem_cons, List.not_mem_nil, or_false] at h
      omega
    · exact .inr (.inr (.inl h))
    · exact .inr (.inr (.inr ⟨hs, .inl h⟩))
  unfold illegal
  rw [if_pos (by tauto)]

theorem settle_run (b : Bank) : b.settle.run = b.run := by
  have hput (l : List Pend) : ∀ b : Bank, (l.foldl (fun b p => b.put p.idx p.val) b).run = b.run := by
    induction l with
    | nil => exact fun b => rfl
    | cons p t ih => exact fun b => ih (b.put p.idx p.val)
  exact (hput _ _).trans (hput _ _)

theorem runPip_seen (s : State) (n : Nat) (i : CoreWord) : State.runPip (s.seen n i).c = State.runPip (s.core n) := by
  rw [State.seen_c, State.runPip, State.runPip, State.activeBank_withActive, settle_run]

theorem b_pc_seen (s : State) (n : Nat) (i : CoreWord) : (s.seen n i).b.pc = (State.activeBank (s.core n)).pc := by
  rw [State.seen_b]
  exact (State.settle_keeps _).1

/-- Settles O21: the record goes into the first entry of the log, and the core is frozen where the instruction stood. -/
theorem illegalInstructionsFreezeTheCore : Obligations.IllegalInstructionsFreezeTheCore := by
  unfold Obligations.IllegalInstructionsFreezeTheCore
  intro s c i n x op hn hx hready hop hmaster hpip
  subst hn hx
  have hillegal : (s.seen (CoreSel.ix c) i).illegal op = some (s.seen (CoreSel.ix c) i).illop :=
    Seen.illegal_of_reserved (by rw [Seen.stw_seen]; simpa using hop)
  have hissue := State.issue_viol hready (i := i) (f := fun x => (x.illegal op).getD .wait) (k := vkILLOP)
    (a := (s.seen (CoreSel.ix c) i).pcAt) (by rw [hillegal]; rfl)
  have hexec : exec (.illegalInstruction c op i) s = .next (s.coreViolation (CoreSel.ix c) vkILLOP
      (s.seen (CoreSel.ix c) i).pcAt none) := by
    change execIllegalInstruction c op i s = _
    rw [execIllegalInstruction, if_pos (by rw [hillegal]; rfl), hissue]
  obtain ⟨u, d, hu, heq⟩ := s.coreViolation_eq (CoreSel.ix c) vkILLOP (s.seen (CoreSel.ix c) i).pcAt none
  rw [runPip_seen] at hpip
  have hadr : (s.seen (CoreSel.ix c) i).pcAt = pcAddr (CoreSel.ix c) (State.activeBank (s.core (CoreSel.ix c))).pc := by
    rw [← b_pc_seen s _ i]; rfl
  rw [State.seen_c_shadow, runPip_seen, b_pc_seen]
  have hmaster' : s.masterOf (CoreSel.ix c) < 72 ∨ s.masterOf (CoreSel.ix c) = 0x50 :=
    hmaster.imp_right fun h => by rw [State.masterOf, h]; rfl
  have hid : s.masterOf (CoreSel.ix c) < 256 := by omega
  have hbank : b2n (s.core (CoreSel.ix c)).shadow ≤ 1 := by cases (s.core (CoreSel.ix c)).shadow <;> decide
  have hbit : (State.frozenBit (s.masterOf (CoreSel.ix c))).isSome = true := by
    rcases hmaster' with h | h
    · simp [State.frozenBit, h]
    · rw [h]; rfl
  refine ⟨_, hexec.trans (congrArg _ heq), State.core_setCore_same _ _ _, fun k hk => ?_, ?_, ?_, ?_, ?_, ?_, ?_, ?_⟩
  · rw [State.core_setCore_ne _ _ hk, State.core_setCore_ne _ _ hk]
    exact State.core_of_rest ((u.onlyNames_violate _ _ _ _ _ _).1.trans hu.1) k
  · exact (u.vlog_violate _ _ _ _ _ _ (k := 0) (by decide)).trans
      ((Nat.mod_eq_of_lt (by simp [State.violWords, vkILLOP]; omega)).trans (by simp [State.violWords, vkILLOP]; omega))
  · exact (u.vlog_violate _ _ _ _ _ _ (k := 1) (by decide)).trans (by simp [State.violWords, hadr])
  · exact (u.vcnt_violate _ _ _ _ _ _).trans (by rw [hu.get rfl])
  · exact u.evt_violate _ _ _ _ _ _
  · exact u.isFrozen_violate hbit _ _ _ _ _
  · exact State.eq_setCore_of_rest ((u.onlyNames_violate _ _ _ _ _ _).1.trans hu.1) _ _ _
  · exact (((hu.mono (by simp [State.rotationNames])).trans ((u.onlyNames_violate _ _ _ _ _ _).mono (by simp [State.violNames]))).2)

end Sys2Proof.Machine
end

section
/-! Loads, stores, immediates and address-register instructions (R123 to R126). -/

namespace Sys2Proof.Machine

/-! ### What an instruction that goes on leaves in flight -/

namespace State

section
variable {s : State} {n : Nat} {i : CoreWord} {op : Seen → Act} {e : Eff}

/-- A register that the instruction leaves a result for. -/
theorem PlainGo.readIn (h : PlainGo s n i op e) (hb : e.bank = id) {j k v : Nat} (hgives : Gives e.wr (j + 1) k v) :
    ((s.issue n i op).liveBank n).readIn j k = v := by
  obtain ⟨hpend, -, -, hn, -⟩ := h.liveBank_fields hb
  obtain ⟨⟨q, hq, hlat, hidx⟩, hall⟩ := hgives
  refine Bank.readIn_eq_of_last hpend (fun p hp => ?_) (fun p hp hdue hk => ?_) ⟨_, List.mem_map_of_mem hq, ?_, hidx⟩
  · obtain ⟨q, -, rfl⟩ := List.mem_map.mp hp
    rfl
  · obtain ⟨q, hq, rfl⟩ := List.mem_map.mp hp
    rw [hn] at hdue
    exact hall q hq (by dsimp only at hdue; omega) hk
  · rw [hn]
    dsimp only
    omega

/-- A pointer's post-modify, where nothing else in flight is for the pointer. -/
theorem PlainGo.readIn_post (h : PlainGo s n i op e) (hb : e.bank = id) {j k v : Nat} (hpost : e.post = [(k, v)])
    (hold : ∀ p ∈ (s.seen n i).b.pend, p.idx ≠ k) (hwr : ∀ w ∈ e.wr, w.idx ≠ k) :
    ((s.issue n i op).liveBank n).readIn j k = v := by
  obtain ⟨hpend, -, -, hn, -⟩ := h.liveBank_fields hb
  have hmem : ∀ p ∈ ((s.issue n i op).liveBank n).pend, p.idx = k → p = ⟨(s.seen n i).b.n + 1, k, v, true⟩ := by
    intro p hp hk
    rw [hpend] at hp
    simp only [bankAfter, hpost, List.map_cons, List.map_nil, List.mem_append, List.mem_singleton] at hp
    rcases hp with (hp | hp) | hp
    · exact absurd hk (hold p hp)
    · exact hp
    · obtain ⟨w, hw, rfl⟩ := List.mem_map.mp hp
      exact absurd hk (hwr w hw)
  refine Bank.readIn_eq_of_all (fun p hp _ hk => by rw [hmem p hp hk])
    ⟨⟨(s.seen n i).b.n + 1, k, v, true⟩, ?_, by rw [hn]; exact Nat.le_add_right _ _, rfl⟩
  rw [hpend]
  simp [bankAfter, hpost]

/-- What was in flight stays so, and what comes to it is the pointers' and the results'. -/
theorem PlainGo.pend (h : PlainGo s n i op e) (hb : e.bank = id) :
    ((s.issue n i op).liveBank n).pend.take (s.seen n i).b.pend.length = (s.seen n i).b.pend ∧
    ∀ p ∈ ((s.issue n i op).liveBank n).pend.drop (s.seen n i).b.pend.length,
      p.idx ∈ e.post.map (fun q => q.1) ∨ p.idx ∈ e.wr.map (fun w => w.idx) := by
  obtain ⟨hpend, -, -, -, -⟩ := h.liveBank_fields hb
  simp only [hpend, bankAfter, List.append_assoc, List.take_left, List.drop_left, List.mem_append, true_and]
  rintro p (hp | hp)
  · obtain ⟨q, hq, rfl⟩ := List.mem_map.mp hp
    exact .inl (List.mem_map_of_mem hq)
  · obtain ⟨w, hw, rfl⟩ := List.mem_map.mp hp
    exact .inr (List.mem_map_of_mem hw)

/-- It loads nothing from Orchard. -/
theorem PlainGo.load_none (h : PlainGo s n i op e) (hb : e.bank = id) (hload : e.load = none) :
    ((s.issue n i op).liveBank n).load = none := by
  obtain ⟨-, -, hl, -, -⟩ := h.liveBank_fields hb
  rw [hl]
  simp [bankAfter, hload]

/-- It stores nothing into DMEM. -/
theorem PlainGo.ovl_same (h : PlainGo s n i op e) (hb : e.bank = id) (hdm : e.dm = []) :
    ((s.issue n i op).liveBank n).ovl = (s.seen n i).b.ovl := by
  obtain ⟨-, ho, -, -, -⟩ := h.liveBank_fields hb
  rw [ho]
  simp [bankAfter, hdm]

theorem PlainGo.dmem_same (h : PlainGo s n i op e) (hdm : e.dm = []) :
    ((s.issue n i op).core n).dmem = (s.core n).dmem := by
  rw [h.dmem, hdm, memCells_nil]

end

end State

/-! ### Loads of DMEM (R123, R125) -/

namespace Seen

/-- The word that a load of DMEM at the instruction's address reads. -/
def word (x : Seen) : Nat := leNat (x.b.loadBytes x.c.dmem (x.own / 16 * 16) 16)

/-- The results of a load of DMEM. -/
def loaded (x : Seen) (dst also : List (Nat × Nat)) : List Wr :=
  also.map (fun d => ⟨3, d.1, d.2⟩) ++ dst.map (fun d => ⟨3, d.1, loadMask x.stw d.1 (lane x.word d.2)⟩)

/-- The pointer's post-modify. -/
def pointer (x : Seen) : List (Nat × Nat) := [(ixReg 0 x.xi, x.postmod x.xi x.mj x.circF)]

theorem loads_dmem {x : Seen} (ha : x.own < dmemSize x.n) (hf : x.c.flaws = []) (dst also : List (Nat × Nat)) :
    x.modifies x.xi x.mj x.circF (x.loads x.own dst also Eff.none) =
      .go { Eff.none with wr := x.loaded dst also, post := x.pointer } := by
  have hsite : x.site false x.own = .loc x.own := by simp [site, ha]
  have hflaw : x.flawedAt x.own = [] := by simp [flawedAt, hf, flawsIn]
  simp only [loads, hsite, hflaw]
  rfl

/-- Registers of V and the flags hold a loaded word whole. -/
theorem loadMask_of_lt {stw : Bool} {k v : Nat} (h : k < 192) : loadMask stw k v = v := by
  rw [loadMask, if_neg (by omega)]

/-- Where the destinations are apart each gets its lane of the word. -/
theorem gives_loaded {x : Seen} {dst also : List (Nat × Nat)} {d : Nat × Nat} (hd : d ∈ dst)
    (hdst : ∀ d' ∈ dst, d'.1 = d.1 → d' = d) (halso : ∀ a ∈ also, a.1 ≠ d.1) :
    Gives (x.loaded dst also) 3 d.1 (loadMask x.stw d.1 (lane x.word d.2)) := by
  refine Gives.append_right ⟨⟨_, List.mem_map_of_mem hd, le_rfl, rfl⟩, fun q hq _ hk => ?_⟩ (fun q hq => ?_)
  · obtain ⟨d', hd', rfl⟩ := List.mem_map.mp hq
    rw [hdst d' hd' hk]
  · obtain ⟨a, ha, rfl⟩ := List.mem_map.mp hq
    exact halso a ha

theorem gives_also {x : Seen} {dst also : List (Nat × Nat)} {a : Nat × Nat} (ha : a ∈ also)
    (halso : ∀ a' ∈ also, a'.1 = a.1 → a' = a) (hdst : ∀ d ∈ dst, d.1 ≠ a.1) :
    Gives (x.loaded dst also) 3 a.1 a.2 := by
  refine Gives.append_left ⟨⟨_, List.mem_map_of_mem ha, le_rfl, rfl⟩, fun q hq _ hk => ?_⟩ (fun q hq => ?_)
  · obtain ⟨a', ha', rfl⟩ := List.mem_map.mp hq
    rw [halso a' ha' hk]
  · obtain ⟨d, hd, rfl⟩ := List.mem_map.mp hq
    exact hdst d hd

end Seen

/-- The bytes of one 16-byte word lie in one bank of Orchard (R248). -/
theorem bankOf_word (a : Nat) {k : Nat} (hk : k < 16) : bankOf (a / 16 * 16 + k) = bankOf a := by
  unfold bankOf
  omega

namespace Seen

theorem vecDst_apart {x : Seen} {a r : Nat} {d d' : Nat × Nat} (hd : d ∈ x.vecDst a r) (hd' : d' ∈ x.vecDst a r)
    (h : d'.1 = d.1) : d' = d := by
  unfold vecDst at hd hd'
  by_cases hs : x.stw = true
  · rw [if_pos hs, List.mem_singleton] at hd hd'
    rw [hd, hd']
  · rw [if_neg hs] at hd hd'
    obtain ⟨l, -, rfl⟩ := List.mem_map.mp hd
    obtain ⟨l', -, rfl⟩ := List.mem_map.mp hd'
    rw [ixV_inj.mp h]

theorem vecDst_lt {x : Seen} {a r : Nat} {d : Nat × Nat} (hd : d ∈ x.vecDst a r) : d.1 < 128 := by
  unfold vecDst at hd
  split at hd
  · rw [List.mem_singleton.mp hd]
    exact ixV_lt r (by decide)
  · obtain ⟨l, hl, rfl⟩ := List.mem_map.mp hd
    exact ixV_lt r (by simp at hl; omega)

theorem ixReg_ge (cls k : Nat) : 160 ≤ ixReg cls k := by
  unfold ixReg
  split <;> omega

end Seen

namespace State

section
variable {s : State} {n : Nat} {i : CoreWord} {op : Seen → Act} {dst also : List (Nat × Nat)}

/-- A load of DMEM goes on with its results and its pointer. -/
theorem plainGo_load (hready : s.ready n = true) (hflaws : (s.core n).flaws = []) (ha : (s.seen n i).own < dmemSize n)
    (hop : op (s.seen n i) = (s.seen n i).modifies (s.seen n i).xi (s.seen n i).mj (s.seen n i).circF
      ((s.seen n i).loads (s.seen n i).own dst also Eff.none)) :
    PlainGo s n i op { Eff.none with wr := (s.seen n i).loaded dst also, post := (s.seen n i).pointer } where
  ready := hready
  go := hop.trans (Seen.loads_dmem ha (by rw [seen_c_flaws, hflaws]) dst also)
  sys := rfl
  regLoad := rfl
  regStore := rfl
  flawed := rfl

variable {x : Seen}

/-- LD without a lane field loads the lanes of its word. -/
theorem ld_vector (hx : s.seen n i = x) (hready : s.ready n = true) (hsub : natBits i.sub.toNat 1 0 = 0)
    (hflaws : (s.core n).flaws = []) (ha : x.own < dmemSize n) (hold : ∀ p ∈ x.b.pend, p.idx ≠ ixReg 0 x.xi) {t : State}
    (ht : s.issue n i Seen.opLd = t) :
    (∀ d ∈ x.vecDst x.own x.vr, (t.liveBank n).readIn 2 d.1 = lane x.word d.2) ∧
    (t.liveBank n).readIn 0 (ixReg 0 x.xi) = x.postmod x.xi x.mj x.circF ∧
    (∀ p ∈ (t.liveBank n).pend.drop x.b.pend.length, p.idx ∈ ixReg 0 x.xi :: (x.vecDst x.own x.vr).map (fun d => d.1)) ∧
    (t.core n).dmem = (s.core n).dmem ∧ (t.core n).stores = (s.core n).stores ∧ (t.liveBank n).ovl = x.b.ovl ∧
    (t.liveBank n).load = none ∧ (t.liveBank n).pend.take x.b.pend.length = x.b.pend ∧ s.WentOn t n i := by
  subst hx ht
  have h := plainGo_load (dst := (s.seen n i).vecDst (s.seen n i).own (s.seen n i).vr) (also := []) hready hflaws ha
    (op := Seen.opLd) (by simp only [Seen.opLd, Seen.subf, seen_i, hsub])
  obtain ⟨htake, hdrop⟩ := h.pend rfl
  refine ⟨fun d hd => ?_, h.readIn_post rfl rfl hold (fun w hw => ?_), fun p hp => ?_, h.dmem_same rfl, h.stores_same rfl,
    h.ovl_same rfl rfl, h.load_none rfl rfl, htake, h.wentOn rfl⟩
  · rw [h.readIn rfl (Seen.gives_loaded hd (fun d' hd' => Seen.vecDst_apart hd hd') (by simp))]
    exact Seen.loadMask_of_lt (Nat.lt_of_lt_of_le (Seen.vecDst_lt hd) (by decide))
  · obtain ⟨d, hd, rfl⟩ := List.mem_map.mp hw
    have := Seen.vecDst_lt hd
    have := Seen.ixReg_ge 0 (s.seen n i).xi
    dsimp only
    omega
  · rcases hdrop p hp with hp | hp
    · simp only [Seen.pointer, List.map_cons, List.map_nil, List.mem_singleton] at hp
      simp [hp]
    · simp only [Seen.loaded, List.map_nil, List.nil_append, List.map_map] at hp
      exact List.mem_cons_of_mem _ hp

/-- LD of one lane: the word at the address goes to it, and the other lanes are as `f` gives them. -/
theorem ld_lane (hx : s.seen n i = x) (hready : s.ready n = true) (hflaws : (s.core n).flaws = []) (ha : x.own < dmemSize n)
    {k : Nat} {f : Nat → Nat} (hk : k < 4) (hop : x.opLd = x.modifies x.xi x.mj x.circF
      (x.loads x.own [(ixV x.vr k, Seen.mlane x.own)] (x.otherLanes x.vr k f) Eff.none)) {t : State}
    (ht : s.issue n i Seen.opLd = t) :
    (t.liveBank n).readIn 2 (ixV x.vr k) = lane x.word (x.own / 4 % 4) ∧
    (∀ l ∈ x.lanes, l ≠ k → (t.liveBank n).readIn 2 (ixV x.vr l) = f l) ∧ s.WentOn t n i := by
  subst hx ht
  have h := plainGo_load hready hflaws ha hop
  refine ⟨?_, fun l hl hne => ?_, h.wentOn rfl⟩
  · rw [h.readIn rfl (k := ixV (s.seen n i).vr k) (Seen.gives_loaded (List.mem_singleton_self _) (fun d hd _ => by simpa using hd)
      (fun a ha => ?_))]
    · exact Seen.loadMask_of_lt (Nat.lt_of_lt_of_le (ixV_lt _ hk) (by decide))
    · obtain ⟨l, hl, rfl⟩ := List.mem_map.mp ha
      have hl := (List.mem_filter.mp hl).2
      exact fun he => by simp [ixV_inj.mp he] at hl
  · refine h.readIn rfl (k := ixV (s.seen n i).vr l) (v := f l) (Seen.gives_also (a := (ixV (s.seen n i).vr l, f l)) ?_
      (fun a ha he => ?_) (fun d hd he => ?_))
    · exact List.mem_map_of_mem (List.mem_filter.mpr ⟨hl, by simp [hne]⟩)
    · obtain ⟨l', -, rfl⟩ := List.mem_map.mp ha
      rw [ixV_inj.mp he]
    · rw [List.mem_singleton.mp hd] at he
      exact hne (ixV_inj.mp he).symm

/-- LD into every lane. -/
theorem ld_broadcast (hx : s.seen n i = x) (hready : s.ready n = true) (hsub : natBits i.sub.toNat 1 0 = 2)
    (hflaws : (s.core n).flaws = []) (ha : x.own < dmemSize n) {t : State} (ht : s.issue n i Seen.opLd = t) :
    (∀ l ∈ x.lanes, (t.liveBank n).readIn 2 (ixV x.vr l) = lane x.word (x.own / 4 % 4)) ∧ s.WentOn t n i := by
  subst hx ht
  have h := plainGo_load (also := []) hready hflaws ha
    (dst := (s.seen n i).lanes.map (fun l => (ixV (s.seen n i).vr l, Seen.mlane (s.seen n i).own)))
    (op := Seen.opLd) (by simp only [Seen.opLd, Seen.subf, seen_i, hsub])
  refine ⟨fun l hl => ?_, h.wentOn rfl⟩
  rw [h.readIn rfl (k := ixV (s.seen n i).vr l) (Seen.gives_loaded (List.mem_map_of_mem hl) (fun d hd he => ?_) (by simp))]
  · exact Seen.loadMask_of_lt (Nat.lt_of_lt_of_le (ixV_lt _ (Seen.lane_lt hl)) (by decide))
  · obtain ⟨l', -, rfl⟩ := List.mem_map.mp hd
    rw [ixV_inj.mp he]

/-- LDS. -/
theorem lds_dmem (hx : s.seen n i = x) (hready : s.ready n = true) (hflaws : (s.core n).flaws = []) (ha : x.own < dmemSize n)
    {t : State} (ht : s.issue n i Seen.opLds = t) :
    (t.liveBank n).readIn 2 (ixReg (natBits i.sub.toNat 1 0) (i.vd % 16)) =
      Seen.loadMask (decide (n = 64)) (ixReg (natBits i.sub.toNat 1 0) (i.vd % 16)) (lane x.word (x.own / 4 % 4)) ∧
    (∀ p ∈ (t.liveBank n).pend.drop x.b.pend.length,
      p.idx = ixReg 0 x.xi ∨ p.idx = ixReg (natBits i.sub.toNat 1 0) (i.vd % 16)) ∧
    (t.core n).dmem = (s.core n).dmem ∧ (t.core n).stores = (s.core n).stores ∧ s.WentOn t n i := by
  subst hx ht
  have h := plainGo_load (op := Seen.opLds) (also := []) hready hflaws ha rfl
  refine ⟨h.readIn rfl (Seen.gives_loaded (List.mem_singleton_self _) (fun d hd _ => by simpa using hd) (by simp)),
    fun p hp => ?_, h.dmem_same rfl, h.stores_same rfl, h.wentOn rfl⟩
  simpa [Seen.pointer, Seen.loaded, Seen.subf] using (h.pend rfl).2 p hp

/-- LD from Orchard waits for its word. -/
theorem ld_orchard (hx : s.seen n i = x) (hready : s.ready n = true) (hsub : natBits i.sub.toNat 1 0 = 0)
    (ha : dmemSize n ≤ x.own) (hin : inOrchard x.own 1 = true)
    (hown : s.admits (bankOf (x.own - orcBase)) (accessorOf n) = true) {t : State} (ht : s.issue n i Seen.opLd = t) :
    (t.liveBank n).load = some ⟨(x.own - orcBase) / 16 * 16, (s.core n).storesDone + (s.core n).stores.length,
      x.vecDst x.own x.vr, s.on (F.ORC_OWN_PENDING (bankOf (x.own - orcBase)))⟩ ∧
    (t.core n).dmem = (s.core n).dmem ∧ (t.core n).stores = (s.core n).stores ∧ s.WentOn t n i := by
  subst hx ht
  have h : PlainGo s n i Seen.opLd { Eff.none with
      load := some (((s.seen n i).own - orcBase) / 16 * 16, (s.seen n i).vecDst (s.seen n i).own (s.seen n i).vr)
      post := (s.seen n i).pointer } :=
    ⟨hready, by
      have hsite : (s.seen n i).site false (s.seen n i).own = .orc ((s.seen n i).own - orcBase) := by
        simp [Seen.site, Nat.not_lt.mpr ha, hin, hown]
      simp only [Seen.opLd, Seen.subf, seen_i, hsub, Seen.loads, hsite]
      rfl, rfl, rfl, rfl, rfl⟩
  obtain ⟨-, -, hload, -, -⟩ := h.liveBank_fields rfl
  refine ⟨?_, h.dmem_same rfl, h.stores_same rfl, h.wentOn rfl⟩
  rw [hload]
  have hbank := bankOf_word ((s.seen n i).own - orcBase) (k := 0) (by decide)
  rw [Nat.add_zero] at hbank
  simp [bankAfter, seen_c_stores, seen_c_storesDone, hbank]

end

end State

/-! ### Stores (R123, R125, R142) -/

namespace Seen

/-- The bytes of words stored at the memory lanes of the word at `a`. -/
def cells (a : Nat) (ws : List (Nat × Nat)) : List Host.Cell :=
  ws.flatMap (fun w => (leBytes w.2 4).zipIdx.map (fun b => (a / 16 * 16 + 4 * w.1 + b.2, b.1)))

theorem mem_cells {a : Nat} {ws : List (Nat × Nat)} {c : Host.Cell} :
    c ∈ cells a ws ↔ ∃ w ∈ ws, ∃ k < 4, c = (a / 16 * 16 + 4 * w.1 + k, (leBytes w.2 4).getD k 0) := by
  have hbytes (v : Nat) : leBytes v 4 = [BitVec.ofNat 8 v, BitVec.ofNat 8 (v / 256), BitVec.ofNat 8 (v / 256 / 256),
    BitVec.ofNat 8 (v / 256 / 256 / 256)] := rfl
  simp only [cells, List.mem_flatMap, hbytes, List.zipIdx_cons, List.zipIdx_nil, List.map_cons, List.map_nil, List.mem_cons,
    List.not_mem_nil, or_false]
  refine exists_congr fun w => and_congr_right fun _ => ⟨?_, ?_⟩
  · rintro (h | h | h | h)
    · exact ⟨0, by decide, h⟩
    · exact ⟨1, by decide, h⟩
    · exact ⟨2, by decide, h⟩
    · exact ⟨3, by decide, h⟩
  · rintro ⟨k, hk, rfl⟩
    interval_cases k <;> simp

/-- Words stored at lanes of their own read as stored. -/
theorem memGet_cells {a : Nat} {ws : List (Nat × Nat)} (hws : ∀ w ∈ ws, ∀ w' ∈ ws, w'.1 = w.1 → w' = w) (m : Mem)
    {w : Nat × Nat} (hw : w ∈ ws) {k : Nat} (hk : k < 4) :
    memGet (memCells m (cells a ws)) (a / 16 * 16 + 4 * w.1 + k) = (leBytes w.2 4).getD k 0 := by
  refine memGet_memCells _ _ (fun c hc he => ?_) ⟨_, mem_cells.mpr ⟨w, hw, k, hk, rfl⟩, rfl⟩
  obtain ⟨w', hw', k', hk', rfl⟩ := mem_cells.mp hc
  dsimp only at he ⊢
  rw [hws w hw w' hw' (by omega), show k' = k by omega]

/-- All of them lie in one bank of Orchard, so that they are held if its handover is pending. -/
theorem any_cells (p : Nat → Bool) {a : Nat} {ws : List (Nat × Nat)} (hws : ws ≠ []) (hlane : ∀ w ∈ ws, w.1 < 4) :
    (cells a ws).any (fun c => p (bankOf c.1)) = p (bankOf a) := by
  have hbank : ∀ c ∈ cells a ws, bankOf c.1 = bankOf a := fun c hc => by
    obtain ⟨w, hw, k, hk, rfl⟩ := mem_cells.mp hc
    have := hlane w hw
    have hword := bankOf_word a (k := 4 * w.1 + k) (by omega)
    rwa [← Nat.add_assoc] at hword
  obtain ⟨w, hw⟩ := List.exists_mem_of_ne_nil _ hws
  cases hp : p (bankOf a)
  · refine List.any_eq_false.mpr fun c hc => ?_
    rw [hbank c hc, hp]
    exact Bool.false_ne_true
  · have hc : (a / 16 * 16 + 4 * w.1 + 0, (leBytes w.2 4).getD 0 0) ∈ cells a ws := mem_cells.mpr ⟨w, hw, 0, by decide, rfl⟩
    exact List.any_eq_true.mpr ⟨_, hc, by rw [hbank _ hc, hp]⟩

/-- Other bytes stay. -/
theorem memGet_cells_other {a b : Nat} {ws : List (Nat × Nat)} (m : Mem)
    (hb : ∀ w ∈ ws, ∀ k < 4, b ≠ a / 16 * 16 + 4 * w.1 + k) : memGet (memCells m (cells a ws)) b = memGet m b :=
  memGet_memCells_outside _ _ _ fun c hc he => by
    obtain ⟨w, hw, k, hk, rfl⟩ := mem_cells.mp hc
    exact hb w hw k hk he.symm

theorem vecSrc_apart {x : Seen} {a r : Nat} : ∀ w ∈ x.vecSrc a r, ∀ w' ∈ x.vecSrc a r, w'.1 = w.1 → w' = w := by
  unfold vecSrc
  intro w hw w' hw' h
  by_cases hs : x.stw = true
  · rw [if_pos hs, List.mem_singleton] at hw hw'
    rw [hw, hw']
  · rw [if_neg hs] at hw hw'
    obtain ⟨l, -, rfl⟩ := List.mem_map.mp hw
    obtain ⟨l', -, rfl⟩ := List.mem_map.mp hw'
    dsimp only at h
    rw [h]

theorem vecSrc_ne_nil (x : Seen) (a r : Nat) : x.vecSrc a r ≠ [] := by
  unfold vecSrc
  split <;> simp

theorem vecSrc_lt {x : Seen} {a r : Nat} {w : Nat × Nat} (hw : w ∈ x.vecSrc a r) : w.1 < 4 := by
  unfold vecSrc at hw
  split at hw
  · rw [List.mem_singleton.mp hw]
    exact Nat.mod_lt _ (by decide)
  · obtain ⟨l, hl, rfl⟩ := List.mem_map.mp hw
    simp at hl
    omega

end Seen

namespace State

section
variable {s : State} {n : Nat} {i : CoreWord} {x : Seen}

/-- A store into DMEM by the primary bank goes on with its bytes and its pointer. -/
theorem plainGo_store (hx : s.seen n i = x) (hready : s.ready n = true) (ha : x.own < dmemSize n) (hshadow : x.c.shadow = false)
    {ws : List (Nat × Nat)} (hop : x.opSt = x.modifies x.xi x.mj x.circF (x.stores x.own ws Eff.none)) :
    PlainGo s n i Seen.opSt { Eff.none with dm := Seen.cells x.own ws, post := x.pointer } := by
  subst hx
  have hsite : (s.seen n i).site true (s.seen n i).own = .loc (s.seen n i).own := by simp [Seen.site, ha, hshadow]
  refine ⟨hready, hop.trans ?_, rfl, rfl, rfl, rfl⟩
  simp only [Seen.stores, hsite]
  rfl

/-- ST of a vector. -/
theorem st_vector (hx : s.seen n i = x) (hready : s.ready n = true) (hsub : natBits i.sub.toNat 1 0 = 0)
    (ha : x.own < dmemSize n) (hshadow : x.c.shadow = false) {t : State} (ht : s.issue n i Seen.opSt = t) :
    (∀ w ∈ x.vecSrc x.own x.vr, ∀ k ∈ [0, 1, 2, 3],
      memGet (t.core n).dmem (x.own / 16 * 16 + 4 * w.1 + k) = (leBytes w.2 4).getD k 0) ∧
    (∀ a : Nat, a ∉ (x.vecSrc x.own x.vr).flatMap (fun w => [0, 1, 2, 3].map (fun k => x.own / 16 * 16 + 4 * w.1 + k)) →
      memGet (t.core n).dmem a = memGet (s.core n).dmem a) ∧
    (t.core n).stores = (s.core n).stores ∧ (t.liveBank n).load = none ∧
    (∀ p ∈ (t.liveBank n).pend.drop x.b.pend.length, p.idx = ixReg 0 x.xi) ∧ s.WentOn t n i := by
  have h := plainGo_store hx hready ha hshadow (ws := x.vecSrc x.own x.vr)
    (by subst hx; simp only [Seen.opSt, Seen.subf, seen_i, hsub])
  subst hx ht
  refine ⟨fun w hw k hk => ?_, fun a hna => ?_, h.stores_same rfl, h.load_none rfl rfl, fun p hp => ?_, h.wentOn rfl⟩
  · rw [h.dmem]
    exact Seen.memGet_cells Seen.vecSrc_apart _ hw (by simp at hk; omega)
  · rw [h.dmem]
    refine Seen.memGet_cells_other _ fun w hw k hk he => hna ?_
    exact List.mem_flatMap.mpr ⟨w, hw, List.mem_map.mpr ⟨k, by simp; omega, he.symm⟩⟩
  · rcases (h.pend rfl).2 p hp with hp | hp
    · simpa [Seen.pointer] using hp
    · simp [Eff.none] at hp

/-- ST of one lane. -/
theorem st_lane (hx : s.seen n i = x) (hready : s.ready n = true) (hsub : natBits i.sub.toNat 1 0 = 1)
    (ha : x.own < dmemSize n) (hshadow : x.c.shadow = false) {t : State} (ht : s.issue n i Seen.opSt = t) :
    (∀ k ∈ [0, 1, 2, 3], memGet (t.core n).dmem (x.own / 4 * 4 + k) =
      (leBytes (x.v x.vr (x.rlane (natBits i.sub.toNat 3 2))) 4).getD k 0) ∧
    (∀ a : Nat, a / 4 ≠ x.own / 4 → memGet (t.core n).dmem a = memGet (s.core n).dmem a) ∧ s.WentOn t n i := by
  have h := plainGo_store hx hready ha hshadow
    (ws := [(Seen.mlane x.own, x.v x.vr (x.rlane (natBits i.sub.toNat 3 2)))])
    (by subst hx; simp only [Seen.opSt, Seen.subf, seen_i, hsub])
  subst hx ht
  refine ⟨fun k hk => ?_, fun a hna => ?_, h.wentOn rfl⟩
  · rw [h.dmem, show (s.seen n i).own / 4 * 4 + k = (s.seen n i).own / 16 * 16 + 4 * Seen.mlane (s.seen n i).own + k by
      unfold Seen.mlane; omega]
    exact Seen.memGet_cells (by simp) _ (List.mem_singleton_self _) (by simp at hk; omega)
  · rw [h.dmem]
    refine Seen.memGet_cells_other _ fun w hw k hk he => hna ?_
    rw [List.mem_singleton.mp hw] at he
    dsimp only [Seen.mlane] at he
    omega

/-- ST of the lanes whose flag is `want`. -/
theorem st_flagged (hx : s.seen n i = x) (hready : s.ready n = true) {want : Bool}
    (hsub : natBits i.sub.toNat 1 0 = if want then 2 else 3) (ha : x.own < dmemSize n) (hshadow : x.c.shadow = false)
    (hstw : x.stw = false) {t : State} (ht : s.issue n i Seen.opSt = t) :
    (∀ l ∈ [0, 1, 2, 3], ∀ k ∈ [0, 1, 2, 3], memGet (t.core n).dmem (x.own / 16 * 16 + 4 * l + k) =
      (if natBit (x.b.rd ixLF) l = want then (leBytes (x.v x.vr l) 4).getD k 0
       else memGet (s.core n).dmem (x.own / 16 * 16 + 4 * l + k))) ∧
    (∀ a : Nat, a / 16 ≠ x.own / 16 → memGet (t.core n).dmem a = memGet (s.core n).dmem a) ∧ s.WentOn t n i := by
  have h := plainGo_store hx hready ha hshadow (ws := x.flagged x.own want)
    (by subst hx; cases want <;> simp only [Seen.opSt, Seen.subf, seen_i, hsub] <;> rfl)
  have hmem : ∀ w : Nat × Nat, w ∈ x.flagged x.own want ↔ ∃ l < 4, natBit (x.b.rd ixLF) l = want ∧ w = (l, x.v x.vr l) := by
    intro w
    simp only [Seen.flagged, Seen.vecSrc, hstw, Bool.false_eq_true, if_false, List.mem_filter, List.mem_map, beq_iff_eq, Seen.LF]
    constructor
    · rintro ⟨⟨l, hl, rfl⟩, hf⟩
      exact ⟨l, by simp at hl; omega, hf, rfl⟩
    · rintro ⟨l, hl, hf, rfl⟩
      exact ⟨⟨l, by simp; omega, rfl⟩, hf⟩
  subst hx ht
  refine ⟨fun l hl k hk => ?_, fun a hna => ?_, h.wentOn rfl⟩
  · have hl : l < 4 := by simp at hl; omega
    have hk : k < 4 := by simp at hk; omega
    rw [h.dmem]
    split
    · next hf =>
      refine Seen.memGet_cells (w := (l, (s.seen n i).v (s.seen n i).vr l)) (fun w hw w' hw' he => ?_) _
        ((hmem _).mpr ⟨l, hl, hf, rfl⟩) hk
      obtain ⟨l₁, -, -, rfl⟩ := (hmem w).mp hw
      obtain ⟨l₂, -, -, rfl⟩ := (hmem w').mp hw'
      dsimp only at he
      rw [he]
    · next hf =>
      refine Seen.memGet_cells_other _ fun w hw k' hk' he => hf ?_
      obtain ⟨l', -, hf', rfl⟩ := (hmem w).mp hw
      rw [show l = l' by dsimp only at he; omega]
      exact hf'
  · rw [h.dmem]
    refine Seen.memGet_cells_other _ fun w hw k hk he => hna ?_
    obtain ⟨l, hl, -, rfl⟩ := (hmem w).mp hw
    rw [he]
    dsimp only
    omega

/-- ST to Orchard posts its bytes. -/
theorem st_orchard (hx : s.seen n i = x) (hready : s.ready n = true) (hsub : natBits i.sub.toNat 1 0 = 0)
    (ha : dmemSize n ≤ x.own) (hin : inOrchard x.own 1 = true)
    (hown : s.admits (bankOf (x.own - orcBase)) (accessorOf n) = true) (hroom : (s.core n).stores.length < 8) {t : State}
    (ht : s.issue n i Seen.opSt = t) :
    (t.core n).stores = (s.core n).stores ++ [⟨Seen.cells (x.own - orcBase) (x.vecSrc x.own x.vr),
      x.vecSrc x.own x.vr ≠ [] && s.on (F.ORC_OWN_PENDING (bankOf (x.own - orcBase)))⟩] ∧
    (t.core n).dmem = (s.core n).dmem ∧ s.WentOn t n i := by
  subst hx ht
  have h : PlainGo s n i Seen.opSt { Eff.none with
      orc := some (Seen.cells ((s.seen n i).own - orcBase) ((s.seen n i).vecSrc (s.seen n i).own (s.seen n i).vr))
      post := (s.seen n i).pointer } :=
    ⟨hready, by
      have hsite : (s.seen n i).site true (s.seen n i).own = .orc ((s.seen n i).own - orcBase) := by
        simp [Seen.site, Nat.not_lt.mpr ha, hin, hown]
      simp only [Seen.opSt, Seen.subf, seen_i, hsub, Seen.stores, hsite, seen_c_stores, if_neg (Nat.not_le.mpr hroom)]
      rfl, rfl, rfl, rfl, rfl⟩
  refine ⟨?_, h.dmem_same rfl, h.wentOn rfl⟩
  rw [h.stores_posted rfl]
  rw [Seen.any_cells (fun k => s.on (F.ORC_OWN_PENDING k)) (Seen.vecSrc_ne_nil _ _ _) (fun w hw => Seen.vecSrc_lt hw)]
  simp [Seen.vecSrc_ne_nil]

end

/-! ### Immediates and address registers (R124, R126) -/

section
variable {s : State} {n : Nat} {i : CoreWord} {x : Seen}

/-- An instruction with results alone. -/
theorem plainGo_results (hx : s.seen n i = x) (hready : s.ready n = true) {op : Seen → Act} {w : List Wr}
    (hop : op x = results w) : PlainGo s n i op { Eff.none with wr := w } :=
  ⟨hready, by subst hx; exact hop, rfl, rfl, rfl, rfl⟩

/-- What it leaves beside them. -/
theorem results_frame {op : Seen → Act} {w : List Wr} (h : PlainGo s n i op { Eff.none with wr := w }) :
    (∀ p ∈ ((s.issue n i op).liveBank n).pend.drop (s.seen n i).b.pend.length, p.idx ∈ w.map (fun w => w.idx)) ∧
    ((s.issue n i op).core n).dmem = (s.core n).dmem ∧ ((s.issue n i op).core n).stores = (s.core n).stores ∧
    s.WentOn (s.issue n i op) n i :=
  ⟨fun p hp => ((h.pend rfl).2 p hp).resolve_left (by simp [Eff.none]), h.dmem_same rfl, h.stores_same rfl, h.wentOn rfl⟩

/-- An immediate into an address register, or added to it. -/
theorem regWr_op (hx : s.seen n i = x) (hready : s.ready n = true) {op : Seen → Act} {cls j v : Nat}
    (hop : op x = results (x.regWr 2 cls j v)) {t : State} (ht : s.issue n i op = t) :
    (t.liveBank n).readIn 1 (ixReg cls j) = x.regMask cls v ∧
    (∀ p ∈ (t.liveBank n).pend.drop x.b.pend.length, p.idx = ixReg cls j) ∧
    (t.core n).dmem = (s.core n).dmem ∧ (t.core n).stores = (s.core n).stores ∧ s.WentOn t n i := by
  have h := plainGo_results hx hready hop
  subst hx ht
  obtain ⟨hdrop, hframe⟩ := results_frame h
  exact ⟨h.readIn rfl (gives_singleton _ _ _), fun p hp => by simpa [Seen.regWr] using hdrop p hp, hframe⟩

/-- A register that they are not for reads as it would have at the next instruction. -/
theorem results_readIn_other {op : Seen → Act} {w : List Wr} (h : PlainGo s n i op { Eff.none with wr := w }) {j k : Nat}
    (hk : k < ixLC 0) (hw : ∀ q ∈ w, q.idx ≠ k) :
    ((s.issue n i op).liveBank n).readIn j k = (s.seen n i).b.readIn (j + 1) k := by
  obtain ⟨hpend, -, -, hn, hrd⟩ := h.liveBank_fields rfl
  have hnew : (bankAfter (s.seen n i) { Eff.none with wr := w }).pend = (s.seen n i).b.pend ++ waiting (s.seen n i).b.n w := by
    simp [bankAfter, Eff.none]
  refine Bank.readIn_append_ne (hpend.trans hnew) (by rw [hn]; omega) (hrd k hk) (fun p hp he => ?_)
  obtain ⟨q, hq, rfl⟩ := List.mem_map.mp hp
  exact hw q hq he

end

end State

namespace Seen

/-- LDI's results: the immediate in the lanes that the mask names. -/
def immediate (x : Seen) : List Wr := (x.vec 2 x.i.vd (fun _ => x.imm)).filter (fun w => x.stw || x.subb (3 + w.idx % 4))

theorem mem_immediate {x : Seen} {w : Wr} : w ∈ x.immediate ↔
    ∃ l ∈ x.lanes, (x.stw || x.subb (3 + l)) = true ∧ w = ⟨2, ixV x.i.vd l, x.imm⟩ := by
  have himm : x.imm % 2 ^ 32 = x.imm := Nat.mod_eq_of_lt x.i.mv.isLt
  have hlane : ∀ l ∈ x.lanes, ixV x.i.vd l % 4 = l := fun l hl => by
    have := lane_lt hl
    unfold ixV
    omega
  simp only [immediate, vec, List.mem_filter, List.mem_map, himm]
  constructor
  · rintro ⟨⟨l, hl, rfl⟩, hmask⟩
    rw [hlane l hl] at hmask
    exact ⟨l, hl, hmask, rfl⟩
  · rintro ⟨l, hl, hmask, rfl⟩
    exact ⟨⟨l, hl, rfl⟩, by rw [hlane l hl]; exact hmask⟩

end Seen

namespace State

section
variable {s : State} {n : Nat} {i : CoreWord} {x : Seen}

theorem ldi_lanes (hx : s.seen n i = x) (hready : s.ready n = true) (hsub : x.subb 2 = false) {t : State}
    (ht : s.issue n i Seen.opLdi = t) :
    (∀ l ∈ x.lanes, (x.stw || x.subb (3 + l)) = true → (t.liveBank n).readIn 1 (ixV x.i.vd l) = x.imm) ∧
    (∀ l < 4, (x.stw || x.subb (3 + l)) = false → (t.liveBank n).readIn 1 (ixV x.i.vd l) = x.b.readIn 2 (ixV x.i.vd l)) ∧
    (∀ p ∈ (t.liveBank n).pend.drop x.b.pend.length,
      ∃ l ∈ x.lanes, (x.stw || x.subb (3 + l)) = true ∧ p.idx = ixV x.i.vd l) ∧
    (t.core n).dmem = (s.core n).dmem ∧ (t.core n).stores = (s.core n).stores ∧ s.WentOn t n i := by
  have h := plainGo_results hx hready (op := Seen.opLdi) (w := x.immediate)
    (by rw [Seen.opLdi, hsub]; rfl)
  subst hx ht
  obtain ⟨hdrop, hframe⟩ := results_frame h
  refine ⟨fun l hl hmask => h.readIn rfl (k := ixV i.vd l) ⟨⟨_, Seen.mem_immediate.mpr ⟨l, hl, hmask, rfl⟩, le_rfl, rfl⟩,
    fun w hw _ _ => ?_⟩, fun l hl hout => results_readIn_other h (Nat.lt_of_lt_of_le (ixV_lt _ hl) (by decide)) (fun w hw hk => ?_),
    fun p hp => ?_, hframe⟩
  · obtain ⟨l', -, -, rfl⟩ := Seen.mem_immediate.mp hw
    rfl
  · obtain ⟨l', -, hmask, rfl⟩ := Seen.mem_immediate.mp hw
    rw [ixV_inj.mp hk, hout] at hmask
    exact Bool.false_ne_true hmask
  · obtain ⟨w, hw, he⟩ := List.mem_map.mp (hdrop p hp)
    obtain ⟨l, hl, hmask, rfl⟩ := Seen.mem_immediate.mp hw
    exact ⟨l, hl, hmask, he.symm⟩

end

end State

/-- An address register written beside a move (R124, R126). -/
theorem State.regWr_compute {s : State} {n : Nat} {i : CoreWord} {x : Seen} (hx : s.seen n i = x) (hready : s.ready n = true)
    (hmoves : x.moves = true) {op : Seen → Act} {cls j v : Nat} (hop : op x = x.compute (x.regWr 2 cls j v)) {t : State}
    (ht : s.issue n i op = t) :
    (t.liveBank n).readIn 1 (ixReg cls j) = x.regMask cls v ∧ s.ResultsOnly t n i [ixReg cls j] := by
  subst hx ht
  exact ⟨readIn_compute hready hmoves hop (gives_singleton _ _ _), resultsOnly_compute hready hmoves hop (by simp [Seen.regWr])⟩

/-- X holds 32 bits. -/
theorem Seen.regMask_wrap (x : Seen) (z : Int) : x.regMask 0 (wrap 32 z) = wrap 32 z := by
  have hlt := wrap_lt 32 z
  simp only [regMask, OfNat.zero_ne_ofNat, if_false, false_and]
  exact Nat.mod_eq_of_lt hlt

/-- Settles O16. -/
theorem memoryInstructionsComplete : Obligations.MemoryInstructionsComplete := by
  unfold Obligations.MemoryInstructionsComplete
  intro s c i n x hn hx hready
  subst hn
  have hstw : x.stw = decide (c = .steward) := by rw [← hx]; exact Seen.stw_seen s c i
  have hi : x.i = i := by rw [← hx]; rfl
  have hlane : ∀ k, x.rlane k = if c = .steward then 0 else k := fun k => by simp [Seen.rlane, hstw]
  have hlanes : c ≠ .steward → x.lanes = [0, 1, 2, 3] := fun hc => Seen.lanes_of_not_stw (by simp [hstw, hc])
  have hk : (if c = .steward then 0 else natBits i.sub.toNat 3 2) < 4 := by
    split
    · decide
    · exact Nat.mod_lt _ (by decide)
  refine ⟨fun hsub hflaws ha hold => ⟨_, rfl, State.ld_vector hx hready hsub hflaws ha hold rfl⟩,
    fun hsub hflaws ha => ⟨_, rfl, ?_⟩,
    fun hsub hflaws ha => ⟨_, rfl, State.ld_broadcast hx hready hsub hflaws ha rfl⟩,
    fun hsub hflaws ha => ⟨_, rfl, ?_⟩,
    fun hsub ha hin hown => ⟨_, rfl, State.ld_orchard hx hready hsub ha hin hown rfl⟩,
    fun hsub ha hshadow => ⟨_, rfl, State.st_vector hx hready hsub ha hshadow rfl⟩,
    fun hsub ha hshadow => ⟨_, rfl, by
      rw [← hlane]
      exact State.st_lane hx hready hsub ha hshadow rfl⟩,
    fun want hsub ha hshadow hc => ⟨_, rfl, State.st_flagged hx hready hsub ha hshadow (by simp [hstw, hc]) rfl⟩,
    fun hsub ha hin hown hroom => ⟨_, rfl, State.st_orchard hx hready hsub ha hin hown hroom rfl⟩,
    fun hflaws ha _ => ⟨_, rfl, State.lds_dmem hx hready hflaws ha rfl⟩,
    fun hsub => ⟨_, rfl, ?_⟩,
    fun hsub => ⟨_, rfl, State.regWr_op hx hready (by subst hx; simp only [Seen.opLdi, Seen.subb, State.seen_i, hsub]; rfl) rfl⟩,
    ⟨_, rfl, State.regWr_op hx hready (by subst hx; rfl) rfl⟩,
    fun hmoves => ⟨_, rfl, ?_, ?_⟩, fun hmoves hxl => ⟨_, rfl, ?_, ?_⟩, fun hmoves hxl => ⟨_, rfl, ?_⟩,
    fun hmoves hcls hflg => ⟨_, rfl, ?_⟩, fun hmoves hcls hflg => ⟨_, rfl, ?_⟩⟩
  · obtain ⟨hword, hother, hwent⟩ := State.ld_lane hx hready hflaws ha hk (f := x.v x.vr) (by
      simp only [Seen.opLd, Seen.subf, hi, hsub, hlane]) rfl
    refine ⟨hword, fun hc l hl hne => hother l (by rw [hlanes hc]; exact hl) (by rwa [if_neg hc]), hwent⟩
  · obtain ⟨hword, hother, hwent⟩ := State.ld_lane hx hready hflaws ha hk (f := fun _ => 0) (by
      simp only [Seen.opLd, Seen.subf, hi, hsub, hlane]) rfl
    refine ⟨fun hc l hl => ?_, hwent⟩
    rw [if_neg hc] at hword hother
    by_cases hne : l = natBits i.sub.toNat 3 2
    · rw [if_pos hne, hne]
      exact hword
    · rw [if_neg hne]
      exact hother l (by rw [hlanes hc]; exact hl) hne
  · obtain ⟨hin, hout, hnew, hframe⟩ := State.ldi_lanes hx hready (by rw [← hsub, ← hi]; rfl) rfl
    have himm : x.imm = i.mv.toNat := by rw [← hi]; rfl
    have hmask : ∀ l, x.subb (3 + l) = natBit i.sub.toNat (3 + l) := fun l => by rw [← hi]; rfl
    simp only [hi, himm, hmask, hstw] at hin hout hnew
    refine ⟨fun hc l hl => ?_, fun hc => ?_, fun p hp => ?_, hframe⟩
    · have hl4 : l < 4 := by simp at hl; omega
      split
      · next hm => exact hin l (by rw [hlanes hc]; exact hl) (by simp [hm])
      · next hm => exact hout l hl4 (by simp [hc, hm])
    · exact hin 0 (by simp [Seen.lanes, hstw, hc]) (by simp [hc])
    · obtain ⟨l, hl, hm, he⟩ := hnew p hp
      rw [he]
      by_cases hc : c = .steward
      · have hl0 : l = 0 := by simpa [Seen.lanes, hstw, hc] using hl
        simp [hc, hl0]
      · rw [hlanes hc] at hl
        rw [if_neg hc]
        exact List.mem_map_of_mem (List.mem_filter.mpr ⟨hl, by simpa [hc] using hm⟩)
  · subst hx
    intro r hr
    rw [List.mem_singleton.mp hr, ← apply_ite (wrap 32)]
    exact (State.regWr_compute rfl hready hmoves (op := Seen.opAadd) rfl rfl).1.trans (Seen.regMask_wrap _ _)
  · subst hx
    exact (State.regWr_compute rfl hready hmoves (op := Seen.opAadd) rfl rfl).2
  · subst hx
    exact (State.regWr_compute rfl hready hmoves (op := Seen.opAfold) (by rw [Seen.opAfold]; exact congrArg _ (if_neg hxl)) rfl).1.trans
      (Seen.regMask_wrap _ _)
  · subst hx
    exact (State.regWr_compute rfl hready hmoves (op := Seen.opAfold) (by rw [Seen.opAfold]; exact congrArg _ (if_neg hxl)) rfl).2
  · subst hx
    exact State.resultsOnly_compute hready hmoves (op := Seen.opAfold) (w := [])
      (by rw [Seen.opAfold]; exact congrArg _ (if_pos hxl)) (by simp)
  · refine State.regWr_compute hx hready hmoves (op := Seen.opAmovx) ?_ rfl
    rw [Seen.opAmovx, hi, hlane, Seen.subf, Seen.subf, hi, if_neg (Nat.not_le.mpr hcls), if_pos hflg]
  · have hop : x.opAmovx = x.compute (x.vec 2 i.vd (fun l => if l = (if c = .steward then 0 else natBits i.sub.toNat 4 3)
        then x.reg (natBits i.sub.toNat 2 0) (i.vb % 16) else x.v i.vd l)) := by
      rw [Seen.opAmovx, hi, hlane, Seen.subf, Seen.subf, hi, if_neg (Nat.not_le.mpr hcls), if_neg (by simp [hflg])]
    subst hx
    exact ⟨fun l hl => State.readIn_compute hready hmoves hop (k := ixV i.vd l) (Seen.gives_vec _ hl),
      State.resultsOnly_compute hready hmoves hop Seen.vec_mem_vDst⟩

end Sys2Proof.Machine
end

section
/-! A request of STANDBY while a wake source's flag, 1 bit wide, holds another number than 0 or 1 (R481, R482). -/

namespace Sys2Proof.Machine

/-- The reset state with the flag of the waking timer held as 2. -/
def wideWakeFlag : State := { State.reset with regs := [((F.SYS_PWR_WK_TIMER.id, F.SYS_PWR_WK_TIMER.ix), 2)] }

/-- Refutes O53: the write of the register stores that flag again in its one bit, and the clause has it kept. -/
theorem not_powerCommandsComplete : ¬ Obligations.PowerCommandsComplete := by
  unfold Obligations.PowerCommandsComplete
  intro h
  obtain ⟨-, -, -, -, -, -, -, -, -, -, -, -, -, -, hstandby, -⟩ := h wideWakeFlag .steward 0 0
  obtain ⟨-, -, -, -, hkeeps⟩ := State.of_next rfl (hstandby 0 (by decide +kernel) (by decide +kernel) (by decide +kernel))
  exact absurd (hkeeps F.SYS_PWR_WK_TIMER (by decide)) (by decide +kernel)

end Sys2Proof.Machine
end

section
/-! A note start enables the pips of its slots, and that writes Quince's status (R152, R190): the frame of O25's first clause
leaves `QN_STAT.STATUS` out. -/

namespace Sys2Proof.Machine

/-- A NOTE_ON of group 1 and note ID 7. -/
def noteOnWord : Quad := 2 ^ 72 + 2 ^ 64 + 2 ^ 48 * 7

/-- The voice manager is ON, group 1 is enabled with its templates, its first word is handled now, and Quince's last status was
not OK. -/
def promptNote : State :=
  { [(F.VM_STAT_STATE, 2), (F.VM_GRP0_EN 1, 1), (F.PIP1_CLASS 9000, 1), (F.QN_IMG1_LENW 0, 4), (F.VM_GRP1_TPL_ON 1, 9000),
      (F.VM_GRP1_TPL_RND 1, 9001), (F.QN_STAT_STATUS, stBUSY)].foldl (fun s e => s.set e.1 e.2) State.reset with
    vm := { words := [waitingNoteOn], attach := [], phasor := [] } }

/-- Refutes O25: the note starts there at once, and `QN_STAT.STATUS` goes from BUSY to OK. -/
theorem not_voiceWordsComplete : ¬ Obligations.VoiceWordsComplete := by
  unfold Obligations.VoiceWordsComplete
  intro h
  obtain ⟨hstart, -⟩ := h promptNote 0x58 noteOnWord waitingNoteOn
  obtain ⟨-, -, -, -, hkeeps⟩ := State.of_next rfl (hstart (by decide +kernel) (by decide +kernel) (by decide +kernel))
  exact absurd (hkeeps F.QN_STAT_STATUS (by decide)) (by decide +kernel)

end Sys2Proof.Machine
end

section
/-! An enable of an audio port whose flag `AP_CFG.GRPEN`, 1 bit wide, holds another number than 0 or 1 (R278). -/

namespace Sys2Proof.Machine

/-- Port 0 is the master of its frames, and its group flag is held as 2. -/
def wideGroupFlag : State :=
  { State.reset with regs := [(((F.AP_CFG_GRPEN 0).id, 0), 2), (((F.AP_CFG_MASTER 0).id, 0), 1)] }

/-- Refutes O34: the port waits for its group, so that GWAIT is 1, and the clause gives 2 mod 2. -/
theorem not_portCommandsComplete : ¬ Obligations.PortCommandsComplete := by
  unfold Obligations.PortCommandsComplete
  intro h
  obtain ⟨henable, -⟩ := h wideGroupFlag .steward 0
  obtain ⟨-, -, -, -, hwaits, -⟩ := State.of_next rfl (henable (by decide +kernel) (by decide +kernel) (by decide +kernel)
    (by decide +kernel) (by decide +kernel))
  exact absurd hwaits (by decide +kernel)

end Sys2Proof.Machine
end

section
/-! A scene list in a bank of Orchard whose handover is pending: its check waits (R236, R255). -/

namespace Sys2Proof.Machine

/-- A recall of scene 3, requested and not yet checked. -/
def openRecall : Recall := { now := true, start := 0, scene := 3, src := 0x58, entries := [], reserved := 0, swap := false }

/-- The list of scene 3 is one entry in bank 1, which the scene engine owns and which is being handed over. -/
def pendingList : State :=
  { State.reset with
    regs := [(((F.ORC_OWN_PENDING 1).id, 1), 1), (((F.ORC_OWN_OWNER 1).id, 1), 0x53), ((F.SCN_RCL_STATE.id, F.SCN_RCL_STATE.ix), 1),
      (((F.SCN_DIR0_SRCW 3).id, 3), 0x1010000), (((F.SCN_DIR1_COUNT 3).id, 3), 1)]
    scn := { State.reset.scn with rcl := some openRecall } }

/-- Refutes O31: the check of that list leaves the recall requested, not checked. -/
theorem not_recallCommandsComplete : ¬ Obligations.RecallCommandsComplete := by
  unfold Obligations.RecallCommandsComplete
  intro h
  obtain ⟨-, -, -, -, hchecked, -⟩ := h pendingList .steward
  obtain ⟨hstate, -⟩ := State.of_next rfl (hchecked openRecall [(0, 0)] 0 rfl (by decide +kernel) (by decide +kernel)
    (by decide +kernel) (by decide +kernel))
  exact absurd hstate (by decide +kernel)

end Sys2Proof.Machine
end

section
/-! `SYS_UNFREEZE` (R401): its checks in order, RESUME and ABANDON. -/

namespace Sys2Proof.Machine

namespace State

/-! ### A frozen bit cleared (R400) -/

/-- A master whose bit is cleared is frozen no more. -/
theorem isFrozen_clear (s : State) {m : Nat} (h : s.isFrozen m = true) : (s.setFrozen m false).isFrozen m = false := by
  unfold isFrozen setFrozen at *
  split at h
  · next w k hb =>
    have hk : k < 32 := by
      unfold frozenBit at hb
      split at hb <;> grind
    have hw : (F.PRT_FROZEN_M w).width = 32 := rfl
    simp only [get_set_same, hw]
    have hbit : (s.get (F.PRT_FROZEN_M w) &&& (2 ^ 32 - 1 ^^^ 2 ^ k)).testBit k = false := by
      rw [Nat.testBit_and, Nat.testBit_xor, Nat.testBit_two_pow_self, Nat.testBit_two_pow_sub_one]
      simp [hk]
    rw [natBit, ← Nat.toNat_testBit, Nat.testBit_mod_two_pow, if_neg Bool.false_ne_true, hbit]
    simp
  · exact absurd h Bool.false_ne_true

/-- A frozen bit of the third word is that word's alone. -/
theorem onlyRegs_setFrozen_two (s : State) {m : Nat} (h : m = 0x58 ∨ m = 0x59 ∨ m = 0x5B) (b : Bool) :
    s.OnlyRegs (s.setFrozen m b) [F.PRT_FROZEN_M 2] := by
  rcases h with rfl | rfl | rfl <;> exact OnlyRegs.set s _ _

theorem isFrozen_congr {s t : State} (h : ∀ w, t.get (F.PRT_FROZEN_M w) = s.get (F.PRT_FROZEN_M w)) (m : Nat) :
    t.isFrozen m = s.isFrozen m := by
  simp only [isFrozen, h]

/-- The state without its registers and cores. -/
def besideCores (s : State) : State := { s with regs := [], cores := [] }

theorem eq_of_besideCores {s t : State} (h : t.besideCores = s.besideCores) : t = { s with regs := t.regs, cores := t.cores } :=
  congrArg (fun z : State => { z with regs := t.regs, cores := t.cores }) h

theorem besideCores_setFrozen (s : State) (m : Nat) (b : Bool) : (s.setFrozen m b).besideCores = s.besideCores := by
  unfold setFrozen
  split <;> rfl

/-! ### The effect of the write -/

/-- The checks in order, for a host that is not frozen or names itself. -/
theorem unfreezeSet_eq {s : State} {m : Master} {who action : Nat} (hact : action < 2) (hwho : who < 256)
    (hself : isHost m = false ∨ s.isFrozen m.id = false ∨ who = m.id) :
    s.unfreezeSet m (256 * action + who) =
      if masterValid who = false then s.unfreezeStatus stBADARG
      else if s.isFrozen who = false then s.unfreezeStatus stOK
      else (s.unfreezeMaster who action).unfreezeStatus stOK := by
  have hw : (256 * action + who) % 256 = who := by omega
  have ha : natBits (256 * action + who) 9 8 = action := by
    unfold natBits
    omega
  have hhost : ¬(isHost m = true ∧ s.isFrozen m.id = true ∧ who ≠ m.id) := by
    rintro ⟨h1, h2, h3⟩
    rcases hself with h | h | h
    · exact Bool.false_ne_true (h.symm.trans h1)
    · exact Bool.false_ne_true (h.symm.trans h2)
    · exact h3 h
  simp only [unfreezeSet, hw, ha, if_neg hhost, Nat.not_le.mpr hact, or_false]

theorem unfreezeResume_eq {s : State} {m : Master} {x : BitVec 8}
    (hself : isHost m = false ∨ s.isFrozen m.id = false ∨ x.toNat = m.id) :
    s.unfreezeSet m x.toNat =
      if masterValid x.toNat = false then s.unfreezeStatus stBADARG
      else if s.isFrozen x.toNat = false then s.unfreezeStatus stOK
      else (s.unfreezeMaster x.toNat 0).unfreezeStatus stOK := by
  simpa using unfreezeSet_eq (action := 0) (by decide) x.isLt hself

theorem unfreezeAbandon_eq {s : State} {m : Master} {x : BitVec 8}
    (hself : isHost m = false ∨ s.isFrozen m.id = false ∨ x.toNat = m.id) :
    s.unfreezeSet m (0x100 + x.toNat) =
      if masterValid x.toNat = false then s.unfreezeStatus stBADARG
      else if s.isFrozen x.toNat = false then s.unfreezeStatus stOK
      else (s.unfreezeMaster x.toNat 1).unfreezeStatus stOK :=
  unfreezeSet_eq (action := 1) (by decide) x.isLt hself

/-! ### A core goes on (R401) -/

/-- What a clear of a frozen bit leaves. -/
theorem core_setFrozen (s : State) (m : Nat) (b : Bool) (k : Nat) : (s.setFrozen m b).core k = s.core k :=
  core_of_rest (s.onlyNames_setFrozen m b).1 k

theorem logicalOf_setFrozen (s : State) (m p : Nat) (b : Bool) : (s.setFrozen m b).logicalOf p = s.logicalOf p := by
  have hmap : ∀ n, (s.setFrozen m b).get (F.MDL_MAP_PHYS n) = s.get (F.MDL_MAP_PHYS n) :=
    fun n => (s.onlyNames_setFrozen m b).get rfl
  simp only [logicalOf, hmap]

/-- RESUME behind the offending instruction changes its core alone. -/
theorem resumeCore_eq {s : State} {n : Nat} (hskip : (s.core n).vskip = true) :
    ∃ c : Core, s.resumeCore n = s.setCore n c ∧ c.frozen = false ∧
      activeBank c = (activeBank (s.core n)).advance (pcMod n) := by
  refine ⟨_, rfl, rfl, ?_⟩
  simp only [hskip, if_true]
  cases hs : (s.core n).shadow <;> simp [activeBank, withActive, hs]

/-- A frame that unlocks belongs to the core alone. -/
theorem unlockFrames_fields (c : Core) : (unlockFrames c).frozen = c.frozen ∧ (unlockFrames c).shadow = c.shadow ∧
    (unlockFrames c).dma = c.dma := by
  have hfold (l : List Nat) : ∀ c : Core, ∀ g : Core → Nat → Core,
      (∀ c f, (g c f).frozen = c.frozen ∧ (g c f).shadow = c.shadow ∧ (g c f).dma = c.dma) →
      (l.foldl g c).frozen = c.frozen ∧ (l.foldl g c).shadow = c.shadow ∧ (l.foldl g c).dma = c.dma := by
    induction l with
    | nil => exact fun c g _ => ⟨rfl, rfl, rfl⟩
    | cons f l ih =>
      intro c g hg
      obtain ⟨h1, h2, h3⟩ := ih (g c f) g hg
      obtain ⟨k1, k2, k3⟩ := hg c f
      exact ⟨h1.trans k1, h2.trans k2, h3.trans k3⟩
  refine hfold [0, 1, 2, 3] c _ fun c f => ?_
  dsimp only
  split <;> exact ⟨rfl, rfl, rfl⟩

theorem held_setFrozen (s : State) (x : Nat) (b : Bool) : (s.setFrozen x b).qn.held = s.qn.held := by
  have h := congrArg (fun z : State => z.qn.held) (s.besideCores_setFrozen x b)
  exact h

/-- ABANDON of a core whose frozen bank runs a GRAPH pip, nothing of which is held back. -/
theorem abandonCore_eq {s : State} {n : Nat} {r : PipRun} (hrun : (activeBank (s.core n)).run = some r) (hev : r.ev = none)
    (hheld : s.qn.held = []) :
    ∃ c : Core, s.abandonCore n = (((s.setCore n c).set (F.PIP1_EN r.pip) 0).set (F.PIP13_STATE r.pip) 0).set (I.PIP_ARM r.pip) 0 ∧
      c.frozen = false ∧ c.shadow = false ∧ c.dma = (s.core n).dma.filter (fun d => !bankChan (s.core n).shadow d) := by
  have hs : s.setHeld (s.qn.held.filter (fun h => !decide (h.core = some n))) = s := by
    rw [hheld, List.filter_nil, ← hheld]
    rfl
  simp only [abandonCore, hrun, hs, endPip, hev]
  refine ⟨_, rfl, ?_⟩
  obtain ⟨hfrozen, hshadow, hdma⟩ := unlockFrames_fields _
  rw [hfrozen, hshadow, hdma]
  split
  · exact ⟨rfl, rfl, rfl⟩
  · exact ⟨rfl, rfl, rfl⟩

end State

/-- Settles O5: each check in turn ends the write, or the named master goes on. -/
theorem unfreezeCommandsComplete : Obligations.UnfreezeCommandsComplete := by
  unfold Obligations.UnfreezeCommandsComplete
  intro s m x hperf hself
  have hresume := State.unfreezeResume_eq hself
  have habandon := State.unfreezeAbandon_eq hself
  refine ⟨fun hbad => ?_, fun hvalid hfree => ?_, fun hx hfrozen => ?_, fun n hx hfrozen hlog hskip => ?_,
    fun n r hx hfrozen hlog hrun hev hheld => ?_⟩
  · rw [if_pos hbad] at hresume
    exact ⟨_, State.next_of_write hperf hresume, State.get_set_same _ _ _, State.OnlyRegs.set _ _ _⟩
  · rw [if_neg (by simp [hvalid]), if_pos hfree] at hresume
    exact ⟨_, State.next_of_write hperf hresume, State.get_set_same _ _ _, State.OnlyRegs.set _ _ _⟩
  · have hvalid : State.masterValid x.toNat = true := by rcases hx with h | h | h <;> rw [h] <;> rfl
    have hmaster : s.unfreezeMaster x.toNat 0 = s.setFrozen x.toNat false := by
      simp only [State.unfreezeMaster]
      rw [if_neg (by omega), if_neg (by omega)]
    rw [if_neg (by simp [hvalid]), if_neg (by simp [hfrozen]), hmaster] at hresume
    refine ⟨_, State.next_of_write hperf hresume, ?_, State.get_set_same _ _ _,
      (State.onlyRegs_setFrozen_two s hx false).trans (State.OnlyRegs.set _ _ _)⟩
    exact (State.isFrozen_congr (fun w => State.get_set_other _ _ rfl) _).trans (State.isFrozen_clear s hfrozen)
  · have hvalid : State.masterValid x.toNat = true := by simp [State.masterValid, hx]
    obtain ⟨c, hcore, hgo, hbank⟩ := State.resumeCore_eq (s := s.setFrozen x.toNat false) (n := n)
      (by rw [State.core_setFrozen]; exact hskip)
    have hmaster : s.unfreezeMaster x.toNat 0 = (s.setFrozen x.toNat false).setCore n c := by
      simp only [State.unfreezeMaster, if_pos hx, State.logicalOf_setFrozen, hlog, State.unfreezeCore]
      rw [if_neg (by simp), hcore]
    rw [State.core_setFrozen] at hbank
    rw [if_neg (by simp [hvalid]), if_neg (by simp [hfrozen]), hmaster] at hresume
    refine ⟨_, State.next_of_write hperf hresume, ?_, State.get_set_same _ _ _, ?_, ?_, fun k hk => ?_, ?_, ?_⟩
    · exact (State.isFrozen_congr (fun w => State.get_set_other _ _ rfl) _).trans (State.isFrozen_clear s hfrozen)
    · exact (congrArg Core.frozen (State.core_setCore_same _ _ _)).trans hgo
    · exact (congrArg State.activeBank (State.core_setCore_same _ _ _)).trans hbank
    · exact (State.core_setCore_ne _ _ hk).trans (State.core_setFrozen _ _ _ _)
    · exact State.eq_of_besideCores (s.besideCores_setFrozen x.toNat false)
    · exact (State.keepsNames_set rfl _).mpr (((s.onlyNames_setFrozen x.toNat false).mono (by simp)).2)
  · have hvalid : State.masterValid x.toNat = true := by simp [State.masterValid, hx]
    obtain ⟨c, hcore, hgo, hback, hdma⟩ := State.abandonCore_eq (s := s.setFrozen x.toNat false) (n := n) (r := r)
      (by rw [State.core_setFrozen]; exact hrun) hev
      ((s.held_setFrozen x.toNat false).trans hheld)
    have hmaster : s.unfreezeMaster x.toNat 1 = ((((s.setFrozen x.toNat false).setCore n c).set (F.PIP1_EN r.pip) 0).set
        (F.PIP13_STATE r.pip) 0).set (I.PIP_ARM r.pip) 0 := by
      simp only [State.unfreezeMaster, if_pos hx, State.logicalOf_setFrozen, hlog, State.unfreezeCore]
      rw [if_pos (by simp [State.core_setFrozen, hrun]), hcore]
    rw [State.core_setFrozen] at hdma
    rw [if_neg (by simp [hvalid]), if_neg (by simp [hfrozen]), hmaster] at habandon
    refine ⟨_, State.next_of_write hperf habandon, ?_, State.get_set_same _ _ _, ?_, ?_, ?_, ?_, ?_, fun k hk => ?_, ?_, ?_⟩
    · refine (State.isFrozen_congr (fun w => ?_) _).trans (State.isFrozen_clear s hfrozen)
      rw [State.unfreezeStatus, State.get_set_other _ _ rfl, State.get_set_other _ _ rfl, State.get_set_other _ _ rfl,
        State.get_set_other _ _ rfl]
      rfl
    · exact (congrArg Core.frozen (State.core_setCore_same _ _ _)).trans hgo
    · exact (congrArg Core.shadow (State.core_setCore_same _ _ _)).trans hback
    · rw [State.unfreezeStatus, State.get_set_other _ _ rfl, State.get_set_other _ _ rfl, State.get_set_other _ _ rfl,
        State.get_set_same]
      rfl
    · rw [State.unfreezeStatus, State.get_set_other _ _ rfl, State.get_set_other _ _ rfl, State.get_set_same]
      rfl
    · exact (congrArg Core.dma (State.core_setCore_same _ _ _)).trans hdma
    · exact (State.core_setCore_ne _ _ hk).trans (State.core_setFrozen _ _ _ _)
    · exact State.eq_of_besideCores (s.besideCores_setFrozen x.toNat false)
    · have hsets (t : State) (h : s.KeepsNames t [F.PRT_FROZEN_M 0, F.SYS_UNFREEZE_STATUS, F.PIP1_EN 0, F.PIP13_STATE 0, I.PIP_ARM 0]) :
          s.KeepsNames ((((t.set (F.PIP1_EN r.pip) 0).set (F.PIP13_STATE r.pip) 0).set (I.PIP_ARM r.pip) 0).unfreezeStatus stOK)
            [F.PRT_FROZEN_M 0, F.SYS_UNFREEZE_STATUS, F.PIP1_EN 0, F.PIP13_STATE 0, I.PIP_ARM 0] := by
        rw [State.unfreezeStatus, State.keepsNames_set rfl, State.keepsNames_set rfl, State.keepsNames_set rfl,
          State.keepsNames_set rfl]
        exact h
      exact hsets _ ((s.onlyNames_setFrozen x.toNat false).mono (by simp)).2

end Sys2Proof.Machine
end

section
/-! A transmitted character while the peripheral clock's count is held past the 64 bits of the register that keeps the
time of a character's start (R318). -/

namespace Sys2Proof.Machine

/-- UART 0 is ON with one byte to send, and PCLK has counted to 2 ^ 64 + 1. -/
def pclkPastWidth : State :=
  { State.reset with
    regs := [((I.PCLK.id, 0), 2 ^ 64 + 1), (((F.U_CTRL_STATE 0).id, 0), unitON)],
    uarts := [(0, { State.reset.uart 0 with tx := [0] })] }

/-- Refutes O39: the start of the character is kept as 1, the count mod 2 ^ 64, and the clause gives the count itself. -/
theorem not_uartCommandsComplete : ¬ Obligations.UartCommandsComplete := by
  unfold Obligations.UartCommandsComplete
  intro h
  obtain ⟨-, -, -, -, -, -, -, -, -, -, -, -, -, hsend, -⟩ := h pclkPastWidth .steward 0 0
  obtain ⟨-, -, hat, -⟩ := State.of_next rfl (hsend true 0 [] (by decide +kernel) (by decide +kernel)
    (by decide +kernel) (by decide +kernel) (by decide +kernel))
  exact absurd hat (by decide +kernel)

end Sys2Proof.Machine
end

section
/-! Plain registers by their fields (R10, R11): what a write of one does, from the list of the fields at its address. -/

namespace Sys2Proof.Machine

/-- The fields of the register at an address with their access types; none where no register stands. -/
def regFields (addr : Nat) : Option (List (Access × Fld)) :=
  (findReg addr regTable).map (fun e => e.1.fields.map (fun f => (f.acc, f.fld e.1 e.2.1 e.2.2)))

namespace State

/-- A field written by its access type. -/
def storeField (w : Nat) (s : State) (e : Access × Fld) : State :=
  match e.1 with
  | .rw => s.put e.2 w
  | .w1c => s.clear1 e.2 w
  | .w1s => s.set e.2 (s.get e.2 ||| e.2.of w)
  | .ro | .wo | .rc => s

theorem regStore_eq {addr : Nat} {l : List (Access × Fld)} (h : regFields addr = some l) (s : State) (w : Nat) :
    s.regStore addr w = l.foldl (storeField w) s := by
  obtain ⟨⟨r, i, ix⟩, hrow, rfl⟩ := Option.map_eq_some_iff.mp h
  simp only [regStore, hrow, rowStore, List.foldl_map]
  rfl

end State

end Sys2Proof.Machine
end

section
/-! Bit fields of a word that a command composes. -/

namespace Sys2Proof.Machine

theorem natBits_or (x y hi lo : Nat) : natBits (x ||| y) hi lo = natBits x hi lo ||| natBits y hi lo := by
  simp only [natBits, ← Nat.shiftRight_eq_div_pow, Nat.shiftRight_or_distrib, Nat.or_mod_two_pow]

theorem natBits_and (x y hi lo : Nat) : natBits (x &&& y) hi lo = natBits x hi lo &&& natBits y hi lo := by
  simp only [natBits, ← Nat.shiftRight_eq_div_pow, Nat.shiftRight_and_distrib, Nat.and_mod_two_pow]

theorem natBit_eq_testBit (x b : Nat) : natBit x b = x.testBit b := by
  rw [natBit, Nat.testBit_eq_decide_div_mod_eq]
  exact Bool.beq_eq_decide_eq _ _

theorem natBit_or (x y b : Nat) : natBit (x ||| y) b = (natBit x b || natBit y b) := by
  simp only [natBit_eq_testBit, Nat.testBit_or]

theorem natBit_and (x y b : Nat) : natBit (x &&& y) b = (natBit x b && natBit y b) := by
  simp only [natBit_eq_testBit, Nat.testBit_and]

/-- A bit field is not touched by a mask that is clear there. -/
theorem natBits_or_clear {y hi lo : Nat} (h : natBits y hi lo = 0) (w : Word) (v : Word) (hv : v.toNat = y) :
    natBits (w ||| v).toNat hi lo = natBits w.toNat hi lo := by
  rw [BitVec.toNat_or, hv, natBits_or, h, Nat.or_zero]

/-- A bit field is not touched by a mask that is set throughout it. -/
theorem natBits_and_set {v : Word} {hi lo : Nat} (h : natBits v.toNat hi lo = 2 ^ (hi + 1 - lo) - 1) (w : Word) :
    natBits (w &&& v).toNat hi lo = natBits w.toNat hi lo := by
  rw [BitVec.toNat_and, natBits_and, h, Nat.and_two_pow_sub_one_eq_mod]
  exact Nat.mod_mod _ _

/-- A field's part of a word, by the bits it stands at. -/
theorem Fld.of_eq_natBits {f : Fld} {hi lo : Nat} (hlo : f.id % 32 = lo) (hhi : f.width = hi + 1 - lo) (w : Nat) :
    f.of w = natBits w hi lo := by
  rw [Fld.of, hlo, hhi]
  rfl

end Sys2Proof.Machine
end

section
/-! The rules that every unit follows: start-up, shutdown, and the release of its claims (R34, R37 to R39). -/

namespace Sys2Proof.Machine

namespace State

/-! ### The release of every claim of a feature (R34) -/

theorem tabGet_filter_ne {fid d : Nat} (hd : d ≠ fid) (id k : Nat) (l : Regs) (hid : ∀ e ∈ l, e.1.1 = id → e.2 ≠ fid) :
    tabGet d l (id, k) ≠ fid := by
  induction l with
  | nil => exact hd
  | cons e l ih =>
    obtain ⟨key, v⟩ := e
    by_cases hk : key = (id, k)
    · simp only [tabGet, hk, if_true]
      exact hid (key, v) List.mem_cons_self (by rw [hk])
    · simp only [tabGet, hk, if_false]
      exact ih fun e he => hid e (List.mem_cons_of_mem _ he)

/-- After the release the feature owns no slot. -/
theorem get_unclaimAll_ne (s : State) {fid : Nat} (h : fid ≠ 0) (k : Nat) :
    (s.unclaimAll fid).get (F.SYS_CLAIM_OWNER k) ≠ fid := by
  refine tabGet_filter_ne (Ne.symm h) _ k _ fun e he hid hv => ?_
  have hkept := (List.mem_filter.mp he).2
  have hid' : e.1.1 = (F.SYS_CLAIM_OWNER 0).id := hid
  simp [hid', hv] at hkept

theorem tabGet_filter_same {d : Nat} {key : Key} {p : Key × Nat → Bool} (l : Regs)
    (h : ∀ e ∈ l, e.1 = key → p e = true) : tabGet d (l.filter p) key = tabGet d l key := by
  induction l with
  | nil => rfl
  | cons e l ih =>
    obtain ⟨k, v⟩ := e
    have ih := ih fun e he => h e (List.mem_cons_of_mem _ he)
    by_cases hp : p (k, v) = true
    · simp only [List.filter_cons, hp, if_true, tabGet, ih]
    · have hk : k ≠ key := fun hk => hp (h (k, v) List.mem_cons_self hk)
      simp only [List.filter_cons, hp, Bool.false_eq_true, if_false, tabGet, hk, ih]

/-- It writes the slots that the feature held. -/
theorem unclaimAll_keeps (s : State) (fid : Nat) : s.KeepsFields (s.unclaimAll fid) (s.heldSlots fid) := by
  intro f hf
  refine tabGet_filter_same _ fun e he hkey => ?_
  by_contra hp
  simp only [Bool.not_eq_true', Bool.and_eq_false_iff, not_or, Bool.not_eq_false, decide_eq_true_eq] at hp
  refine hf (List.mem_map.mpr ⟨F.SYS_CLAIM_OWNER e.1.2, List.mem_map.mpr ⟨e, List.mem_filter.mpr ⟨he, ?_⟩, rfl⟩, ?_⟩)
  · simp [hp.1, hp.2]
  · have hid : (F.SYS_CLAIM_OWNER e.1.2).id = e.1.1 := hp.1.symm
    rw [hid]
    exact hkey

theorem get_unclaimAll_other (s : State) (fid : Nat) {f : Fld} (h : (f.id == (F.SYS_CLAIM_OWNER 0).id) = false) :
    (s.unclaimAll fid).get f = s.get f :=
  s.unclaimAll_keeps fid f fun hmem => by
    obtain ⟨g, hg, he⟩ := List.mem_map.mp hmem
    obtain ⟨e, -, rfl⟩ := List.mem_map.mp hg
    have hid : f.id = (F.SYS_CLAIM_OWNER 0).id := (congrArg Prod.fst he).symm
    simp [hid] at h

/-- A write of a field that is no slot's owner leaves the slots held. -/
theorem heldSlots_set (s : State) {f : Fld} (v fid : Nat) (h : f.id ≠ (F.SYS_CLAIM_OWNER 0).id) :
    (s.set f v).heldSlots fid = s.heldSlots fid := by
  unfold heldSlots
  exact congrArg _ (filter_tabSet keyLt _ _ _ fun x => by simp [h])

/-- A claim of one slot that nothing holds is not barred. -/
theorem claimBar_one {s : State} {fid k : Nat} (h : s.get (F.SYS_CLAIM_OWNER k) = 0) : s.claimBar fid [k] = none := by
  simp [claimBar, h]

theorem unclaim_one (s : State) (fid k : Nat) :
    s.unclaim fid [k] = if s.get (F.SYS_CLAIM_OWNER k) = fid then s.set (F.SYS_CLAIM_OWNER k) 0 else s := rfl

/-! ### The rules of units (R37 to R39) -/

theorem startDone_starting {s : State} {st : Fld} (h : s.get st = unitSTARTING) (go : State → State) :
    s.startDone st go = go (s.set st unitON) := if_pos h

theorem shutDone_off {s : State} {en st : Fld} (h : s.get st = unitSHUTTING) (hen : s.get en = 0) (off restart : State → State) :
    s.shutDone en st off restart = off (s.set st unitOFF) := by
  simp [shutDone, h, on, hen]

theorem shutDone_restart {s : State} {en st : Fld} (h : s.get st = unitSHUTTING) (hen : s.get en ≠ 0)
    (off restart : State → State) : s.shutDone en st off restart = restart (s.set st unitSTARTING) := by
  simp [shutDone, h, on, hen]

theorem enableWrite_same {s : State} {en : Fld} {want : Bool} (h : s.on en = want) (st : Fld) (start shut : State → State) :
    s.enableWrite en st want start shut = s := if_pos h

theorem enableWrite_shut {s : State} {en st : Fld} (hen : s.get en ≠ 0) (h : s.get st = unitSTARTING ∨ s.get st = unitON)
    (start shut : State → State) :
    s.enableWrite en st false start shut = shut ((s.set en 0).set st unitSHUTTING) := by
  simp [enableWrite, on, hen, h]

end State

end Sys2Proof.Machine
end

section
/-! The PCIe link, the host's input ring, the GPIO pins and boundary scan (R364, R368, R375, R482, R496 to R500). -/

namespace Sys2Proof.Machine

namespace State

theorem hsBlkStore (s : State) (w : Word) : s.regStore 0x100088 w.toNat = s.set F.HIF_HS_BLK0_J w.toNat := by
  have hfields : regFields 0x100088 = some [(.rw, F.HIF_HS_BLK0_J)] := by decide +kernel
  have hof : F.HIF_HS_BLK0_J.of w.toNat = w.toNat := by
    rw [Fld.of_eq_natBits (hi := 31) (lo := 0) rfl rfl, natBits, Nat.pow_zero, Nat.div_one]
    exact Nat.mod_eq_of_lt w.isLt
  rw [regStore_eq hfields]
  exact congrArg (s.set F.HIF_HS_BLK0_J) hof

/-! ### The link -/

/-- The link's fields after a change. -/
def linkPut (s : State) (up l1 : Bool) (width gen : Nat) : State :=
  (((s.flag F.HIF_LINK_UP up).flag F.HIF_LINK_L1 l1).set F.HIF_LINK_WIDTH width).set F.HIF_LINK_GEN gen

/-- The link's fields after a change; a link that comes up needs no wake. -/
def linkNow (s : State) (up l1 : Bool) (width gen : Nat) : State :=
  if up then (s.linkPut up l1 width gen).set I.PEWAKE 0 else s.linkPut up l1 width gen

theorem get_linkNow (s : State) (up l1 : Bool) {width gen : Nat} (hw : width < 4) (hg : gen < 4) :
    (s.linkNow up l1 width gen).get F.HIF_LINK_UP = b2n up ∧ (s.linkNow up l1 width gen).get F.HIF_LINK_L1 = b2n l1 ∧
    (s.linkNow up l1 width gen).get F.HIF_LINK_WIDTH = width ∧ (s.linkNow up l1 width gen).get F.HIF_LINK_GEN = gen := by
  have hapart {f : Fld} (h : (f.id == I.PEWAKE.id) = false) :
      (s.linkNow up l1 width gen).get f = (s.linkPut up l1 width gen).get f := by
    cases up
    · rfl
    · exact get_set_other _ _ h
  rw [hapart rfl, hapart rfl, hapart rfl, hapart rfl]
  refine ⟨?_, ?_, ?_, ?_⟩ <;> simp (disch := exact id rfl) only [linkPut, flag, get_set_other, get_set_same]
  · cases up <;> rfl
  · cases l1 <;> rfl
  · exact Nat.mod_eq_of_lt (by simp [F.HIF_LINK_WIDTH]; omega)
  · exact Nat.mod_eq_of_lt (by simp [F.HIF_LINK_GEN]; omega)

theorem onlyRegsEv_linkRaise (s : State) (up l1 : Bool) (width gen : Nat) :
    s.OnlyRegsEv ((s.linkNow up l1 width gen).raise 224) [F.HIF_LINK_UP, F.HIF_LINK_L1, F.HIF_LINK_WIDTH, F.HIF_LINK_GEN,
      F.HIF_EVT_EVT, I.PEWAKE] := by
  have hevt : ∀ e, evCause 224 = some e → e.1 ∈ [F.HIF_LINK_UP, F.HIF_LINK_L1, F.HIF_LINK_WIDTH, F.HIF_LINK_GEN,
      F.HIF_EVT_EVT, I.PEWAKE] := by decide
  cases up <;> simp [onlyRegsEv_iff, linkNow, linkPut, keepsFields_raise hevt]

theorem linkChange_of_up_ne {s : State} {up : Bool} (h : s.on F.HIF_LINK_UP ≠ up) (l1 : Bool) (width gen : Nat) :
    s.linkChange up l1 width gen =
      (s.linkNow up l1 width gen).raise 224 := by
  rw [linkChange, if_neg (fun hall => h hall.1)]
  rfl

/-! ### The GPIO pins -/

theorem gpPull_of (n w : Nat) : (F.PIN_GP_PULL n).of w = natBits w 9 8 :=
  Fld.of_eq_natBits (f := F.PIN_GP_PULL n) (hi := 9) (lo := 8) (by dsimp only [F.PIN_GP_PULL]) rfl w

/-- The fields that the level of a GPIO and its edge write. -/
def gpEdgeFields (n : Nat) : List Fld := [F.PIN_GP_IN n, F.PIN_EVT_LO_EDGE, F.PIN_EVT_HI_EDGE]

@[simp] theorem rest_gpEdge (s : State) (n : Nat) (b : Bool) : (s.gpEdge n b).rest = s.rest := by
  simp only [gpEdge, apply_ite rest, rest_notify, rest_set, ite_self]

theorem keepsFields_gpEdge (s : State) (n : Nat) (b : Bool) :
    s.KeepsFields (s.gpEdge n b) [F.PIN_EVT_LO_EDGE, F.PIN_EVT_HI_EDGE] := by
  simp only [gpEdge]
  generalize natBit _ _ = c
  cases c
  · exact .refl _ _
  · rw [if_pos rfl, keepsFields_notify]
    split <;> simp

@[simp] theorem rest_gpChanged (s : State) (n : Nat) (b : Bool) : (s.gpChanged n b).rest = s.rest := by
  unfold gpChanged
  dsimp only
  split <;> simp

theorem keepsFields_gpChanged (s : State) (n : Nat) (b : Bool) : s.KeepsFields (s.gpChanged n b) (gpEdgeFields n) := by
  have hlevel : s.KeepsFields (s.flag (F.PIN_GP_IN n) (s.gpLevel n)) (gpEdgeFields n) :=
    (keepsFields_flag List.mem_cons_self _).mpr (.refl _ _)
  unfold gpChanged
  dsimp only
  split
  · exact hlevel
  · exact hlevel.trans ((keepsFields_gpEdge _ n _).mono (List.subset_cons_self _ _))

theorem get_gpChanged (s : State) (n : Nat) (b : Bool) {f : Fld} (h : (gpEdgeFields n).any (fun g => f.id == g.id) = false) :
    (s.gpChanged n b).get f = s.get f := (s.keepsFields_gpChanged n b).get_other h

/-- `PIN_GP[n]` as a write of EN = 1 leaves it, its claim made. -/
def gpOpened (s : State) (n w : Nat) : State :=
  ((((s.claimAll (gpFid n) [gpSlot n]).puts (gpFields n) w).set (F.PIN_GP_EN n) 1).set (F.PIN_GP_STATE n) unitON).set
    (F.PIN_GP_STATUS n) stOK

/-- `PIN_GP[n]` as a write of EN = 0 leaves it, its claim released. -/
def gpClosed (s : State) (n w : Nat) : State :=
  ((((s.puts (gpFields n) w).set (F.PIN_GP_EN n) 0).set (F.PIN_GP_STATE n) unitOFF).unclaim (gpFid n) [gpSlot n]).set
    (F.PIN_GP_STATUS n) stOK

theorem gpSet_bad {s : State} {n w : Nat} (h : natBits w 9 8 = 3) : s.gpSet n w = s.set (F.PIN_GP_STATUS n) stBADARG := by
  have hof : (F.PIN_GP_PULL n).of w = 3 := by rwa [gpPull_of]
  rw [gpSet, if_pos hof]

theorem gpSet_enable {s : State} {n w : Nat} (hpull : natBits w 9 8 ≠ 3) (hw : natBit w 4 = true)
    (hen : s.get (F.PIN_GP_EN n) = 0) (hfree : s.get (F.SYS_CLAIM_OWNER (gpSlot n)) = 0) :
    s.gpSet n w = (s.gpOpened n w).gpChanged n (s.gpLevel n) := by
  have hoff : s.on (F.PIN_GP_EN n) = false := by simp [on, hen]
  have hpull' : (F.PIN_GP_PULL n).of w ≠ 3 := by rwa [gpPull_of]
  simp only [gpSet, hpull', hw, hoff, if_false, Bool.not_false, Bool.and_true, if_true, withClaims_free (claimBar_one hfree)]
  rfl

theorem gpSet_disable {s : State} {n w : Nat} (hpull : natBits w 9 8 ≠ 3) (hw : natBit w 4 = false)
    (hen : s.get (F.PIN_GP_EN n) ≠ 0) : s.gpSet n w = (s.gpClosed n w).gpChanged n (s.gpLevel n) := by
  have hon : s.on (F.PIN_GP_EN n) = true := by simp [on, hen]
  have hpull' : (F.PIN_GP_PULL n).of w ≠ 3 := by rwa [gpPull_of]
  simp only [gpSet, hpull', hw, hon, if_false, Bool.false_and, Bool.false_eq_true, Bool.not_false, Bool.and_true, if_true]
  rfl

/-- The fields that a write of `PIN_GP[n]` changes. -/
def gpAllFields (n : Nat) : List Fld :=
  gpFields n ++ [F.PIN_GP_EN n, F.PIN_GP_STATE n, F.PIN_GP_STATUS n, F.PIN_GP_IN n, F.PIN_EVT_LO_EDGE, F.PIN_EVT_HI_EDGE,
    F.SYS_CLAIM_OWNER (gpSlot n)]

theorem gpEdgeFields_subset (n : Nat) : gpEdgeFields n ⊆ gpAllFields n := by simp [gpEdgeFields, gpAllFields]

theorem onlyRegsEv_gpOpened (s : State) (n w : Nat) : s.OnlyRegsEv (s.gpOpened n w) (gpAllFields n) := by
  simp [onlyRegsEv_iff, gpOpened, gpAllFields, gpFields, claimAll]

theorem onlyRegsEv_gpClosed (s : State) (n w : Nat) : s.OnlyRegsEv (s.gpClosed n w) (gpAllFields n) := by
  rw [gpClosed, unclaim_one]
  split <;> simp [onlyRegsEv_iff, gpAllFields, gpFields]

theorem onlyRegsEv_gpChanged {s t : State} {n : Nat} (h : s.OnlyRegsEv t (gpAllFields n)) (b : Bool) :
    s.OnlyRegsEv (t.gpChanged n b) (gpAllFields n) := by
  rw [onlyRegsEv_iff] at h ⊢
  exact ⟨(rest_gpChanged t n b).trans h.1, h.2.trans ((t.keepsFields_gpChanged n b).mono (gpEdgeFields_subset n))⟩

theorem get_gpOpened (s : State) (n w : Nat) :
    (s.gpOpened n w).get (F.PIN_GP_EN n) = 1 ∧ (s.gpOpened n w).get (F.PIN_GP_STATE n) = unitON ∧
    (s.gpOpened n w).get (F.PIN_GP_STATUS n) = stOK ∧ (s.gpOpened n w).get (F.PIN_GP_OUT n) = natBits w 2 2 ∧
    (s.gpOpened n w).get (F.PIN_GP_DIR n) = natBits w 3 3 ∧
    (s.gpOpened n w).get (F.SYS_CLAIM_OWNER (gpSlot n)) = gpFid n % 2 ^ 16 := by
  have hout : (F.PIN_GP_OUT n).of w = natBits w 2 2 := Fld.of_eq_natBits (f := F.PIN_GP_OUT n) (hi := 2) (lo := 2) (by dsimp only [F.PIN_GP_OUT]) rfl w
  have hdir : (F.PIN_GP_DIR n).of w = natBits w 3 3 := Fld.of_eq_natBits (f := F.PIN_GP_DIR n) (hi := 3) (lo := 3) (by dsimp only [F.PIN_GP_DIR]) rfl w
  refine ⟨?_, ?_, get_set_of_lt _ (by decide : stOK < 2 ^ 8), ?_, ?_, ?_⟩ <;>
    simp (disch := exact id rfl) only [gpOpened, gpFields, puts, put, claimAll, get_set_other, get_set_same, List.foldl_cons,
      List.foldl_nil, hout, hdir]
  · rfl
  · rfl
  · exact Nat.mod_mod _ _
  · exact Nat.mod_mod _ _
  · rfl

theorem get_gpClosed (s : State) (n w : Nat) (hn : n < 48) :
    (s.gpClosed n w).get (F.PIN_GP_EN n) = 0 ∧ (s.gpClosed n w).get (F.PIN_GP_STATE n) = unitOFF ∧
    (s.gpClosed n w).get (F.PIN_GP_STATUS n) = stOK ∧ (s.gpClosed n w).get (F.SYS_CLAIM_OWNER (gpSlot n)) ≠ gpFid n := by
  refine ⟨?_, ?_, get_set_of_lt _ (by decide : stOK < 2 ^ 8), ?_⟩
  · rw [gpClosed, get_set_other _ _ rfl, get_unclaim_other _ _ _ rfl, get_set_other _ _ rfl, get_set_same]
    rfl
  · rw [gpClosed, get_set_other _ _ rfl, get_unclaim_other _ _ _ rfl, get_set_same]
    rfl
  · rw [gpClosed, get_set_other _ _ rfl]
    exact get_unclaim_at _ (by unfold gpFid; omega) List.mem_cons_self

theorem gpOutside_seen {s : State} {n : Nat} (hb : s.boundary = false) (hdrive : s.gpDrives n = false)
    (htimed : s.gpTimed n = false) (hout : s.driven (.slot (Fin.ofNat 1024 (gpSlot n))) = none) (b : Bool) :
    s.gpOutside n b = (s.flag (F.PIN_GP_IN n) b).gpEdge n b := by
  rw [gpOutside, hb, hdrive, htimed, hout]
  rfl

/-- An edge that IEDGE selects sets its cause. -/
theorem gpEdge_selected {s : State} {n : Nat} {b : Bool} (h : s.get (F.PIN_GP_IEDGE n) / (if b then 1 else 2) % 2 = 1) :
    s.gpEdge n b = (if n < 32 then s.set F.PIN_EVT_LO_EDGE (s.get F.PIN_EVT_LO_EDGE ||| 2 ^ n)
      else s.set F.PIN_EVT_HI_EDGE (s.get F.PIN_EVT_HI_EDGE ||| 2 ^ (n - 32))).notify 244 (s.evPending 244) := by
  have hbit : natBit (s.get (F.PIN_GP_IEDGE n)) (if b then 0 else 1) = true := by
    cases b <;> simpa [natBit] using h
  rw [gpEdge, if_pos hbit]

/-! ### Boundary scan -/

theorem get_jtagIr (s : State) {k : Nat} (h : k < 8) : (s.jtagIr k).get I.JTAG_IR = k := get_set_of_lt s h

theorem boundary_jtagIr (s : State) {k : Nat} (h : k < 8) :
    (s.jtagIr k).boundary = (decide (k = 2) || decide (k = 4) || decide (k = 5)) := by
  rw [boundary, s.get_jtagIr h]

/-- The IDCODE by its free part, which stays in the bits of the manufacturer. -/
theorem idcode_split : ∃ x < 2 ^ 11, idcodeWord % 2 ^ I.JTAG_DR.width = 0x10B77001 + 2 * x := by
  have hx : natBits (Config.freeWord (2 ^ 40)).toNat 10 0 < 2 ^ 11 := Nat.mod_lt _ (by decide)
  refine ⟨_, hx, Nat.mod_eq_of_lt ?_⟩
  show _ + 2 * _ < 2 ^ 32
  omega

theorem idcode_one : idcodeWord % 2 ^ I.JTAG_DR.width % 2 = 1 := by
  obtain ⟨x, hx, h⟩ := idcode_split
  omega

theorem idcode_version : idcodeWord % 2 ^ I.JTAG_DR.width / 2 ^ 28 = 1 := by
  obtain ⟨x, hx, h⟩ := idcode_split
  omega

theorem idcode_part : idcodeWord % 2 ^ I.JTAG_DR.width / 2 ^ 12 % 2 ^ 16 = 0x0B77 := by
  obtain ⟨x, hx, h⟩ := idcode_split
  omega

end State

theorem or_two_pow_bit (x : Nat) {n k : Nat} (h : n < k) : (x ||| 2 ^ n) % 2 ^ k / 2 ^ n % 2 = 1 := by
  rw [← Nat.toNat_testBit, Nat.testBit_mod_two_pow, Nat.testBit_or, Nat.testBit_two_pow_self]
  simp [h]

/-- Settles O44, command by command: each writes the fields its unit lists, and the ball of a GPIO its level and edge. -/
theorem hostPortAndPinCommandsComplete : Obligations.HostPortAndPinCommandsComplete := by
  unfold Obligations.HostPortAndPinCommandsComplete
  intro s m n w
  have hon16 : natBit (w ||| 0x10#32).toNat 4 = true := by
    rw [BitVec.toNat_or, natBit_or]
    exact Bool.or_true _
  have hpull16 : natBits (w ||| 0x10#32).toNat 9 8 = natBits w.toNat 9 8 := natBits_or_clear rfl w _ rfl
  have hoff16 : natBit (w &&& 0xFFFFFFEF#32).toNat 4 = false := by
    rw [BitVec.toNat_and, natBit_and]
    exact Bool.and_false _
  have hpullEF : natBits (w &&& 0xFFFFFFEF#32).toNat 9 8 = natBits w.toNat 9 8 := natBits_and_set rfl w
  refine ⟨fun up l1 width gen hup => ?_, fun hperf => ?_, fun hperf hpull hen hfree => ?_, fun hperf hpull => ?_,
    fun hperf hpull hen => ?_, fun b hb hdrive htimed hout hedge => ?_, ?_, fun cells => ?_, ?_, ?_, ?_, ?_, ?_⟩
  · obtain ⟨hup', hl1, hwidth, hgen⟩ := s.get_linkNow up l1 width.isLt gen.isLt
    have hevt : ((s.linkNow up l1 width gen).raise 224).get F.HIF_EVT_EVT % 2 = 1 := by
      simpa using State.get_raise_bit (s.linkNow up l1 width gen) (n := 224) (k := 0) rfl (by decide)
    exact ⟨_, State.next_of_eq (State.linkChange_of_up_ne hup l1 width gen), (State.get_raise_apart _ rfl).trans hup',
      (State.get_raise_apart _ rfl).trans hl1, (State.get_raise_apart _ rfl).trans hwidth,
      (State.get_raise_apart _ rfl).trans hgen, hevt,
      fun h => (State.get_raise_apart _ rfl).trans (h ▸ State.get_set_same _ _ _), s.onlyRegsEv_linkRaise up l1 width gen⟩
  · refine ⟨_, State.next_of_write hperf (s.hsBlkStore w), ?_, .set _ _ _⟩
    rw [State.get_set_same]
    exact Nat.mod_eq_of_lt w.isLt
  · obtain ⟨hen', hst, hstatus, houtv, hdir, hclaim⟩ := s.get_gpOpened n (w ||| 0x10#32).toNat
    have hw := State.gpSet_enable (s := s) (n := n) (w := (w ||| 0x10#32).toNat) (by rwa [hpull16]) hon16 hen hfree
    refine ⟨_, State.next_of_write hperf hw, (State.get_gpChanged _ _ _ rfl).trans hen', (State.get_gpChanged _ _ _ rfl).trans hst,
      (State.get_gpChanged _ _ _ rfl).trans hstatus, (State.get_gpChanged _ _ _ rfl).trans (houtv.trans ?_),
      (State.get_gpChanged _ _ _ rfl).trans (hdir.trans ?_), (State.get_gpChanged _ _ _ rfl).trans (hclaim.trans ?_),
      State.onlyRegsEv_gpChanged (s.onlyRegsEv_gpOpened n _) _⟩
    · exact natBits_or_clear rfl w _ rfl
    · exact natBits_or_clear rfl w _ rfl
    · exact Nat.mod_eq_of_lt (by unfold gpFid; omega)
  · exact ⟨_, State.next_of_write hperf (State.gpSet_bad (hpull16.trans hpull)), State.get_set_of_lt _ (by decide : stBADARG < 2 ^ 8),
      .set _ _ _⟩
  · obtain ⟨hen', hst, hstatus, hclaim⟩ := s.get_gpClosed n (w &&& 0xFFFFFFEF#32).toNat n.isLt
    have hw := State.gpSet_disable (s := s) (n := n) (w := (w &&& 0xFFFFFFEF#32).toNat) (by rwa [hpullEF]) hoff16 hen
    refine ⟨_, State.next_of_write hperf hw, (State.get_gpChanged _ _ _ rfl).trans hen', (State.get_gpChanged _ _ _ rfl).trans hst,
      (State.get_gpChanged _ _ _ rfl).trans hstatus, ?_, State.onlyRegsEv_gpChanged (s.onlyRegsEv_gpClosed n _) _⟩
    rwa [State.get_gpChanged _ _ _ rfl]
  · rw [show exec (.gpioEdge n b) s = .next (s.gpOutside n b) from rfl, State.gpOutside_seen hb hdrive htimed hout]
    have hflag : (s.flag (F.PIN_GP_IN n) b).get (F.PIN_GP_IEDGE n) = s.get (F.PIN_GP_IEDGE n) := State.get_set_other _ _ rfl
    have hkept := (s.flag (F.PIN_GP_IN n) b).keepsFields_gpEdge n b
    refine ⟨_, rfl, ?_, fun hlo => ?_, fun hhi => ?_, ?_⟩
    · exact (hkept.get_other rfl).trans (State.get_set_of_lt _ (by cases b <;> simp [F.PIN_GP_IN, b2n]))
    · rw [State.gpEdge_selected (hflag ▸ hedge), State.get_notify, if_pos hlo, State.get_set_same]
      exact or_two_pow_bit _ hlo
    · rw [State.gpEdge_selected (hflag ▸ hedge), State.get_notify, if_neg (by omega), State.get_set_same]
      exact or_two_pow_bit _ (by show n.val - 32 < 16; omega)
    · rw [State.onlyRegsEv_iff]
      exact ⟨by simp, ((State.keepsFields_flag List.mem_cons_self b).mpr (.refl _ _)).trans
        (hkept.mono (List.subset_cons_self _ _))⟩
  · exact ⟨_, rfl, s.get_jtagIr (by decide : 0 < 8), .set _ _ _⟩
  · exact ⟨_, rfl, State.get_jtagIr _ (by decide : 1 < 8), rfl, rfl, (State.keepsFields_set List.mem_cons_self _).mpr fun _ _ => rfl⟩
  · exact ⟨_, rfl, s.get_jtagIr (by decide : 2 < 8), s.boundary_jtagIr (by decide : 2 < 8), .set _ _ _⟩
  · refine ⟨_, rfl, (State.get_set_other _ _ rfl).trans (s.get_jtagIr (by decide : 3 < 8)), ?_, ?_, ?_, by simp [State.onlyRegs_iff, State.jtagIr]⟩
    all_goals rw [State.get_set_same]
    · exact State.idcode_one
    · exact State.idcode_version
    · exact State.idcode_part
  · exact ⟨_, rfl, s.get_jtagIr (by decide : 4 < 8), s.boundary_jtagIr (by decide : 4 < 8), .set _ _ _⟩
  · exact ⟨_, rfl, s.get_jtagIr (by decide : 5 < 8), s.boundary_jtagIr (by decide : 5 < 8), .set _ _ _⟩
  · exact ⟨_, rfl, s.boundary_jtagIr (by decide : 3 < 8), .set _ _ _⟩

end Sys2Proof.Machine
end

section
/-! The end of a bank's handover while a PCIe access waits in the host's queue (R252, R255). -/

namespace Sys2Proof.Machine

/-- Bank 0 is in handover, and the host's queue holds a register write. -/
def waitingPcieWrite : State :=
  { State.reset with
    regs := [(((F.ORC_OWN_PENDING 0).id, 0), 1)],
    host := { pcieq := [{ kind := .regWrite, addr := 0, w := 0, bytes := [] }], spiHeld := none, out := [] } }

/-- Refutes O33: the write that waits goes on when the bank's handover ends, so that the host's queue changes, which the
clause's frame does not list. -/
theorem not_orchardAndDramCommandsComplete : ¬ Obligations.OrchardAndDramCommandsComplete := by
  unfold Obligations.OrchardAndDramCommandsComplete
  intro h
  obtain ⟨-, -, hdrain, -⟩ := h waitingPcieWrite .steward
  obtain ⟨-, -, -, hrest, -⟩ := State.of_next rfl (hdrain 0 (by decide +kernel))
  have hqueue := congrArg (fun s : State => s.host.pcieq.length) hrest
  exact absurd hqueue (by decide +kernel)

end Sys2Proof.Machine
end

section
/-! The standby's engine started at T while Damson has not yet taken the present level of `DACCLR#` (R387, R343). -/

namespace Sys2Proof.Machine

/-- A standby in resynchronisation whose copy is complete; Damson last saw `DACCLR#` low, and the board leaves it high. -/
def copiedWithStaleClear : State :=
  { State.reset with regs := [((F.TWN_STAT_ROLE.id, 0), 2), ((F.TWN_STAT_SYNC.id, 0), 1), ((I.TWN_CPD.id, 0), 1),
      ((I.DMS_LOW.id, 0), 1)] }

/-- Refutes O49: the start of the engine ends the drives of balls without a slot and reads `DACCLR#` again, which changes the
level that Damson keeps; the clause's frame does not list it. -/
theorem not_twinFrameCommandsComplete : ¬ Obligations.TwinFrameCommandsComplete := by
  unfold Obligations.TwinFrameCommandsComplete
  intro h
  obtain ⟨-, -, -, -, -, -, -, -, -, -, -, -, -, -, -, hstart, -⟩ := h copiedWithStaleClear 0
  obtain ⟨-, -, -, -, hkeep⟩ := State.of_next rfl (hstart (by decide +kernel) (by decide +kernel) (by decide +kernel)
    (by decide +kernel) (by decide +kernel) (by decide +kernel))
  exact absurd (hkeep I.DMS_LOW (by decide +kernel)) (by decide +kernel)

end Sys2Proof.Machine
end

section
/-! A parameter command of a source of which another one already waits for room (R234, log entry 159). -/

namespace Sys2Proof.Machine

/-- A command of source 0 waits. -/
def waitingCommand : State := { State.reset with scn := { State.reset.scn with waiting := [(0, 0)] } }

/-- Refutes O30: a command that the table of R229 does not allow waits behind the other one, and no refusal is recorded. -/
theorem not_paramCommandCompletes : ¬ Obligations.ParamCommandCompletes := by
  unfold Obligations.ParamCommandCompletes
  intro h
  obtain ⟨hbad, -⟩ := h waitingCommand 0 (BitVec.ofNat 128 (2 ^ 72 + 2 ^ 65)) (by decide +kernel)
  obtain ⟨hreason, -⟩ := State.of_next rfl (hbad (by decide +kernel))
  exact absurd hreason (by decide +kernel)

end Sys2Proof.Machine
end

section
/-! The rules of the chain's frames (R444, R446): a frame sent or passed on changes the list of frames sent alone. -/

namespace Sys2Proof.Machine

namespace State

/-- The state with other frames sent on the chain. -/
def withSent (s : State) (l : List ChainFrame) : State := s.setGraft { s.graft with sent := l }

@[simp] theorem get_withSent (s : State) (l : List ChainFrame) (f : Fld) : (s.withSent l).get f = s.get f := rfl
@[simp] theorem keepsFields_withSent {s t : State} {fs : List Fld} (l : List ChainFrame) :
    s.KeepsFields (t.withSent l) fs ↔ s.KeepsFields t fs := Iff.rfl
theorem withSent_withSent (s : State) (l k : List ChainFrame) : (s.withSent l).withSent k = s.withSent k := rfl

theorem eq_of_rest_withSent {s t : State} {l : List ChainFrame} (h : t.rest = (s.withSent l).rest) :
    t = { s with regs := t.regs, toDeliver := t.toDeliver, graft := { s.graft with sent := t.graft.sent } } := by
  have hsent : t.graft.sent = l := by
    have hg := congrArg (fun u : State => u.graft.sent) h
    exact hg
  rw [hsent]
  exact eq_of_rest h

theorem eq_of_rest_withSent_toDeliver {s t : State} {l : List ChainFrame} (h : t.rest = (s.withSent l).rest)
    (hd : t.toDeliver = s.toDeliver) : t = { s with regs := t.regs, graft := { s.graft with sent := t.graft.sent } } := by
  rw [eq_of_rest_withSent h, hd]

theorem sendChain_eq (s : State) (type hop : Nat) (up : Bool) (bs : List Byte) :
    ∃ l, s.sendChain type hop up bs = s.withSent l := by
  unfold sendChain
  split
  · exact ⟨_, rfl⟩
  · exact ⟨s.graft.sent, rfl⟩

/-- A frame passed down changes the frames sent alone. -/
theorem passDown_eq (s : State) (type : Nat) (h : ChainHdr) (bs : List Byte) : ∃ l, s.passDown type h bs = s.withSent l := by
  unfold passDown
  split
  · exact s.sendChain_eq _ _ _ _
  · exact ⟨s.graft.sent, rfl⟩

/-- A frame for the head's side is sent by every unit of a chain. -/
theorem sendChain_up {s : State} (h : s.get F.CFG_CHAIN_EN ≠ 0) (type hop : Nat) (bs : List Byte) :
    s.sendChain type hop true bs = s.withSent (s.graft.sent ++ [⟨type, hop, true, bs⟩]) := by
  simp [sendChain, on, h, withSent]

/-- A frame for the units below is sent by every unit but the last. -/
theorem sendChain_down {s : State} (h : s.get F.CFG_CHAIN_EN ≠ 0) (hlast : s.get F.CFG_CHAIN_LAST = 0) (type hop : Nat)
    (bs : List Byte) : s.sendChain type hop false bs = s.withSent (s.graft.sent ++ [⟨type, hop, false, bs⟩]) := by
  simp [sendChain, on, h, hlast, withSent]

theorem chainFrame_good {s : State} {h : ChainHdr} (hen : s.get F.CFG_CHAIN_EN ≠ 0) (hcrc : h.crcOk = true)
    (eff : State → State) : s.chainFrame h eff = eff s := by
  simp [chainFrame, on, hen, hcrc]

@[simp] theorem get_setGraft (s : State) (g : Graft) (f : Fld) : (s.setGraft g).get f = s.get f := rfl
@[simp] theorem keepsFields_setGraft {s t : State} {fs : List Fld} (g : Graft) :
    s.KeepsFields (t.setGraft g) fs ↔ s.KeepsFields t fs := Iff.rfl
@[simp] theorem rest_setGraft (s : State) (g : Graft) : (s.setGraft g).rest = s.rest.setGraft g := rfl
theorem graft_of_rest {s t : State} (h : t.rest = s.rest) : t.graft = s.graft := by
  have hg := congrArg State.graft h
  exact hg

end State

end Sys2Proof.Machine
end

section
/-! What a unit of a chain does with each frame whose CRC is good (R444, R446). -/

namespace Sys2Proof.Machine

namespace State

/-! ### OFFER -/

/-- The fields that the opening of a session from the chain writes. -/
def offerFields : List Fld :=
  [F.CFG_SESS_SRC, F.CFG_SESS_HOLDER, I.CFG_UNL, I.CFG_WRONG, F.CFG_SESS_STATUS, F.CFG_SESS_REASON, F.CFG_EVT_EVT, I.CH_BAD,
    I.CH_CANT, I.CH_SENT, I.CH_HEAD, I.CH_HOP]

/-- The registers of a session just opened, with event 32. -/
def sessOpened (s : State) (m : Master) (src : Nat) : State :=
  ((((s.set F.CFG_SESS_SRC src).set F.CFG_SESS_HOLDER m.id).set I.CFG_UNL 0).set I.CFG_WRONG 0).cfgOk.raise 32

theorem sessBegin_chain {s : State} (m : Master) (htrial : s.get F.CFG_TRIAL_ACTIVE = 0) :
    s.sessBegin m 4 = ((((((s.sessOpened m 4).set I.CH_BAD 0).set I.CH_CANT 0).set I.CH_SENT 0).setGraft
      { s.graft with sent := [], hops := [] }).set I.CH_HEAD 0) := by
  have hoff : (s.sessOpened m 4).on F.CFG_TRIAL_ACTIVE = false := by
    simp (disch := exact id rfl) only [on, sessOpened, cfgOk, cfgStatus, get_raise_apart, get_set_other, htrial]
    rfl
  have hgraft : (s.sessOpened m 4).graft = s.graft := graft_of_rest (by simp [sessOpened, cfgOk, cfgStatus])
  unfold sessBegin
  dsimp only
  rw [← sessOpened, hoff, ← hgraft]
  rfl

/-- What OFFER leaves in a unit without a session, the frames `l` sent. -/
def offered (s : State) (h : ChainHdr) (l : List ChainFrame) : State :=
  (((((((s.withSent l).sessOpened .steward 4).set I.CH_BAD 0).set I.CH_CANT 0).set I.CH_SENT 0).setGraft
    { s.graft with sent := [], hops := [] }).set I.CH_HEAD 0).set I.CH_HOP (h.hop + 1)

theorem offerRx_free {s : State} (h : ChainHdr) (hfree : s.get F.CFG_SESS_SRC = 0) (htrial : s.get F.CFG_TRIAL_ACTIVE = 0) :
    ∃ l, s.offerRx h = s.offered h l := by
  obtain ⟨l, hl⟩ := s.passDown_eq 0x10 h []
  have hset := sessBegin_chain (s := s.withSent l) .steward htrial
  refine ⟨l, ?_⟩
  rw [offerRx, hl, get_withSent, if_neg (by simp [hfree]), hset]
  rfl

theorem get_offered (s : State) (h : ChainHdr) (l : List ChainFrame) :
    (s.offered h l).get F.CFG_SESS_SRC = 4 ∧ (s.offered h l).get F.CFG_SESS_HOLDER = 0x50 ∧
    (s.offered h l).get I.CH_HOP = (h.hop.val + 1) % 64 ∧ (s.offered h l).get I.CH_HEAD = 0 ∧
    (s.offered h l).get F.CFG_EVT_EVT % 2 = 1 := by
  refine ⟨?_, ?_, get_set_same _ _ _, ?_, ?_⟩
  · simp (disch := exact id rfl) only [offered, sessOpened, cfgOk, cfgStatus, get_raise_apart, get_set_other, get_set_same,
      get_setGraft]
    rfl
  · simp (disch := exact id rfl) only [offered, sessOpened, cfgOk, cfgStatus, get_raise_apart, get_set_other, get_set_same,
      get_setGraft]
    rfl
  · exact (get_set_other _ _ rfl).trans (get_set_same _ _ _)
  · simp (disch := exact id rfl) only [offered, sessOpened, get_set_other, get_setGraft]
    simpa using get_raise_bit (n := 32) (k := 0) (f := F.CFG_EVT_EVT) _ rfl (by decide)

theorem frame_offered (s : State) (h : ChainHdr) (l : List ChainFrame) :
    s.offered h l = { s with regs := (s.offered h l).regs, toDeliver := (s.offered h l).toDeliver,
                             graft := { s.graft with sent := [], hops := [] } } ∧
    s.KeepsFields (s.offered h l) offerFields := by
  have hevt : ∀ e, evCause 32 = some e → e.1 ∈ offerFields := by decide
  constructor
  · have hrest : (s.offered h l).rest = (s.setGraft { s.graft with sent := [], hops := [] }).rest := by
      simp only [offered, sessOpened, cfgOk, cfgStatus, rest_set, rest_raise, rest_setGraft]
      rfl
    exact eq_of_rest hrest
  · unfold offerFields at hevt ⊢
    simp [offered, sessOpened, cfgOk, cfgStatus, keepsFields_raise hevt]

theorem offerRx_held {s : State} (h : ChainHdr) (hen : s.get F.CFG_CHAIN_EN ≠ 0) (hheld : s.get F.CFG_SESS_SRC ≠ 0) :
    ∃ l, s.offerRx h = ((s.set I.CH_CANT 1).set I.CH_HOP (h.hop + 1)).withSent
      (l ++ [⟨0x12, h.hop + 1, true, statusBytes stBUSY rsnSESSION_BUSY⟩]) := by
  obtain ⟨l, hl⟩ := s.passDown_eq 0x10 h []
  have hen' : (((s.withSent l).set I.CH_CANT 1).set I.CH_HOP (h.hop + 1)).get F.CFG_CHAIN_EN ≠ 0 := by
    rwa [get_set_other _ _ rfl, get_set_other _ _ rfl]
  refine ⟨l, ?_⟩
  rw [offerRx, hl, get_withSent, if_pos hheld, sendChain_up hen']
  rfl

/-! ### DATA -/

/-- Fewer bytes than a package's head has, staged from IDLE. -/
def stagedFirst (s : State) (bs : List Byte) : State :=
  ((((s.set F.CFG_STAGE_STATE 1).set F.CFG_XFER_OFF_N 0).set F.CFG_STAGE_REASON 0).setGraft
    { s.graft with pkg := bs, parts := [] }).set F.CFG_XFER_OFF_N bs.length

theorem stageBytes_first {s : State} {bs : List Byte} (hstage : s.get F.CFG_STAGE_STATE = 0) (hlen : bs.length < 8) :
    s.stageBytes bs = s.stagedFirst bs := by
  have hoff : (((s.set F.CFG_STAGE_STATE 1).set F.CFG_XFER_OFF_N 0).set F.CFG_STAGE_REASON 0).get F.CFG_XFER_OFF_N = 0 :=
    (get_set_other _ _ rfl).trans (get_set_same _ _ _)
  have hput : s.stageBytes bs = stageSteps 12 (s.stagedFirst bs) := by
    unfold stageBytes
    dsimp only
    rw [hstage, if_neg (by decide)]
    refine congrArg (stageSteps 12) ?_
    refine (congrArg (State.set _ F.CFG_XFER_OFF_N) (?_ : _ = bs.length)).trans rfl
    exact (congrArg (· + bs.length) hoff).trans (Nat.zero_add _)
  have hstate : (s.stagedFirst bs).get F.CFG_STAGE_STATE = 1 := by
    simp (disch := exact id rfl) only [stagedFirst, get_set_other, get_setGraft, get_set_same]
    rfl
  have hpkg : (s.stagedFirst bs).graft.pkg = bs := rfl
  rw [hput, stageSteps, if_pos hstate, hpkg, if_pos (.inl hlen)]

theorem dataRx_first {s : State} (h : ChainHdr) {bs : List Byte} (hsrc : s.get F.CFG_SESS_SRC = 4)
    (hsent : s.get I.CH_SENT = 0) (hstage : s.get F.CFG_STAGE_STATE = 0) (hlen : bs.length < 8) :
    s.dataRx h bs = (s.passDown 0x11 h bs).stagedFirst bs := by
  obtain ⟨l, hl⟩ := s.passDown_eq 0x11 h bs
  have hopen : (s.withSent l).get F.CFG_SESS_SRC = 4 ∧ (s.withSent l).on I.CH_SENT = false := ⟨hsrc, by simp [on, hsent]⟩
  rw [dataRx, hl, if_pos hopen]
  exact stageBytes_first hstage hlen

/-! ### STAGED, READY and VERSION -/

/-- The hop's answer of a step counted at the head. -/
def counted (s : State) (k : Nat) (h : ChainHdr) : State :=
  s.setGraft { s.graft with hops := s.graft.hops ++ [64 * k + h.hop] }

theorem answerRx_head {s : State} (hhead : s.get I.CH_HEAD ≠ 0) (k type : Nat) (h : ChainHdr) (bs : List Byte) (bad : Bool) :
    s.answerRx k type h bs bad = if bad then (s.counted k h).set I.CH_BAD 1 else s.counted k h := by
  have hon : s.on I.CH_HEAD = true := by simp [on, hhead]
  rw [answerRx, if_pos hon]
  rfl

theorem answerRx_below {s : State} (hen : s.get F.CFG_CHAIN_EN ≠ 0) (hhead : s.get I.CH_HEAD = 0) (k type : Nat)
    (h : ChainHdr) (bs : List Byte) (bad : Bool) :
    s.answerRx k type h bs bad = s.withSent (s.graft.sent ++ [⟨type, h.hop, true, bs⟩]) := by
  have hon : s.on I.CH_HEAD = false := by simp [on, hhead]
  rw [answerRx, hon, if_neg (by decide), passUp, sendChain_up hen]

theorem readyRx_idle {s : State} (h : ChainHdr) (hhead : s.get I.CH_HEAD ≠ 0) (hact : s.get F.CFG_ACT_STATE = 0) :
    s.readyRx h = s.counted 2 h := by
  have hoff : (s.counted 2 h).on F.CFG_ACT_STATE = false := by simp [counted, on, hact]
  simp only [readyRx, answerRx_head hhead, Bool.false_eq_true, if_false, hoff, Bool.and_false, Bool.false_and]

/-- With READY from the one hop that staged, every hop has answered. -/
theorem allHops_counted {s : State} {h : ChainHdr} (hbad : s.get I.CH_BAD = 0) (hhops : s.chainHops = [h.hop.val]) :
    (s.counted 2 h).allHops 2 = true := by
  have hlt := h.hop.isLt
  have hno : (s.counted 2 h).on I.CH_BAD = false := by simp [counted, on, hbad]
  have hsame : (s.counted 2 h).chainHops = [h.hop.val] := by
    have hnew : [64 * 2 + h.hop.val].filter (fun x => decide (x / 64 = 1)) = [] := by
      rw [List.filter_cons_of_neg (by rw [decide_eq_true_iff]; omega), List.filter_nil]
    rw [← hhops, chainHops, chainHops, show (s.counted 2 h).graft.hops = s.graft.hops ++ [64 * 2 + h.hop.val] from rfl,
      List.filter_append, hnew, List.append_nil]
  have hanswer : (s.counted 2 h).hopAnswered 2 h.hop.val = true := by
    rw [hopAnswered, show (s.counted 2 h).graft.hops = s.graft.hops ++ [64 * 2 + h.hop.val] from rfl]
    simp
  simp [allHops, hno, hsame, hanswer]

theorem readyRx_last {s : State} {h : ChainHdr} (hen : s.get F.CFG_CHAIN_EN ≠ 0) (hhead : s.get I.CH_HEAD ≠ 0)
    (hact : s.get F.CFG_ACT_STATE ≠ 0) (hbad : s.get I.CH_BAD = 0) (hgo : s.goSent = false)
    (hlast : s.get F.CFG_CHAIN_LAST = 0) (hhops : s.chainHops = [h.hop.val]) :
    s.readyRx h = (s.counted 2 h).withSent (s.graft.sent ++ [⟨0x15, 0, false, s.armBytes⟩]) := by
  have hon : (s.counted 2 h).on I.CH_HEAD = true := by simp [counted, on, hhead]
  have hact' : (s.counted 2 h).on F.CFG_ACT_STATE = true := by simp [counted, on, hact]
  have hgo' : (s.counted 2 h).goSent = false := hgo
  simp only [readyRx, answerRx_head hhead, Bool.false_eq_true, if_false, hon, hact', allHops_counted hbad hhops, hgo',
    Bool.not_false, Bool.and_self, if_true]
  exact sendChain_down (s := s.counted 2 h) hen hlast _ _ _

/-! ### COMMIT and ABORT -/

/-- The running slot GOOD, with the commit number after the other one's. -/
def slotCommitted (s : State) : State :=
  s.putSlot s.bootSlot { s.flash.slot s.bootSlot with
    state := slotGOOD, commitno := ((s.flash.slot (3 - s.bootSlot)).commitno + 1) % 2 ^ 32 }

def commitNames : List Fld := [F.CFG_TRIAL_ACTIVE, F.CFG_EVT_EVT, I.SET_SLOT, I.KEY_REV 0]

theorem revoke_eq (s : State) (m : List Byte) : (s.revoke m).rest = s.rest ∧ s.KeepsNames (s.revoke m) commitNames := by
  unfold revoke
  split
  · refine ⟨rest_foldl _ (fun t k => ?_) s, keepsNames_foldl _ (fun t k => ?_) fun _ _ => rfl⟩ <;> split
    · rfl
    · rfl
    · exact (keepsNames_set rfl 1).mpr fun _ _ => rfl
    · exact fun _ _ => rfl
  · exact ⟨rfl, fun _ _ => rfl⟩

theorem commitNow_eq (s : State) : ∃ u, u.rest = s.slotCommitted.rest ∧ s.KeepsNames u commitNames ∧
    s.commitNow = ((u.set F.CFG_TRIAL_ACTIVE 0).set I.SET_SLOT 0).raise 38 :=
  ⟨s.slotCommitted.revoke s.slotCommitted.runManifest, (s.slotCommitted.revoke_eq _).1, (s.slotCommitted.revoke_eq _).2, rfl⟩

theorem eq_of_rest_commit {s t : State} {l : List ChainFrame} (h : t.rest = (s.withSent l).slotCommitted.rest) :
    t = { s with regs := t.regs, toDeliver := t.toDeliver, flash := t.flash, graft := { s.graft with sent := t.graft.sent } } := by
  have hsent : t.graft.sent = l := by
    have hg := congrArg (fun u : State => u.graft.sent) h
    exact hg
  have hflash : t.flash = s.slotCommitted.flash := by
    have hf := congrArg State.flash h
    exact hf
  rw [hsent, hflash]
  exact eq_of_rest h

theorem slot_setSlot (f : Flash) {k : Nat} (hk : k = 1 ∨ k = 2) (x : ImgSlot) :
    (f.setSlot k x).slot k = x ∧ (f.setSlot k x).slot (3 - k) = f.slot (3 - k) := by
  rcases hk with rfl | rfl <;> exact ⟨rfl, rfl⟩

theorem commitRx_trial {s : State} (h : ChainHdr) (hact : s.get F.CFG_TRIAL_ACTIVE ≠ 0) (hhealthy : s.get F.CFG_TRIAL_HEALTHY ≠ 0) :
    ∃ l, s.commitRx h = (s.withSent l).commitNow := by
  obtain ⟨l, hl⟩ := s.passDown_eq 0x17 h []
  have hon : ((s.withSent l).on F.CFG_TRIAL_ACTIVE && (s.withSent l).on F.CFG_TRIAL_HEALTHY) = true := by
    simp [on, hact, hhealthy]
  exact ⟨l, by rw [commitRx, hl, if_pos hon]⟩

/-- An ABORT on its way through the unit. -/
theorem abortRx_passes {s : State} (h : ChainHdr) (st : Byte) (htrial : s.get F.CFG_TRIAL_ACTIVE = 0)
    (hact : s.get F.CFG_ACT_STATE ≠ 0) :
    ∃ l u, (u = s ∨ u = s.set I.CH_BAD 1) ∧
      s.abortRx h st = (((u.withSent l).set F.CFG_ACT_STATE 0).set F.CFG_ACT_REASON rsnCHAIN).raise 36 := by
  have hway : ∃ l u, (u = s ∨ u = s.set I.CH_BAD 1) ∧
      (if h.up then (if s.on I.CH_HEAD then (s.set I.CH_BAD 1).sendChain 0x18 0 false [st, 0] else s.passUp 0x18 h [st, 0])
        else s.passDown 0x18 h [st, 0]) = u.withSent l := by
    split
    · split
      · exact ((s.set I.CH_BAD 1).sendChain_eq 0x18 0 false [st, 0]).imp fun l hl => ⟨_, .inr rfl, hl⟩
      · exact (s.sendChain_eq 0x18 h.hop true [st, 0]).imp fun l hl => ⟨_, .inl rfl, hl⟩
    · exact (s.passDown_eq 0x18 h [st, 0]).imp fun l hl => ⟨_, .inl rfl, hl⟩
  obtain ⟨l, u, hu, hway⟩ := hway
  have hactive : (u.withSent l).get F.CFG_ACT_STATE = s.get F.CFG_ACT_STATE := by
    rcases hu with rfl | rfl
    · rfl
    · exact get_set_other s 1 (f := I.CH_BAD) rfl
  have hon : (u.withSent l).on F.CFG_ACT_STATE = true := by simp only [on, hactive, hact, ne_eq, not_false_eq_true, decide_true]
  have hoff : ((((u.withSent l).set F.CFG_ACT_STATE 0).set F.CFG_ACT_REASON rsnCHAIN).raise 36).on F.CFG_TRIAL_ACTIVE = false := by
    have hget : ((((u.withSent l).set F.CFG_ACT_STATE 0).set F.CFG_ACT_REASON rsnCHAIN).raise 36).get F.CFG_TRIAL_ACTIVE =
        u.get F.CFG_TRIAL_ACTIVE := by
      simp (disch := exact id rfl) only [get_raise_apart, get_set_other, get_withSent]
    rcases hu with rfl | rfl
    · rw [on, hget, htrial]
      rfl
    · rw [on, hget, get_set_other _ _ rfl, htrial]
      rfl
  refine ⟨l, u, hu, ?_⟩
  unfold abortRx
  dsimp only
  rw [hway, if_pos hon, fallback, hoff]
  rfl

/-! ### ARM and GO -/

theorem armRx_ready {s : State} (h : ChainHdr) {d : BitVec 256} {f : Nat} (hen : s.get F.CFG_CHAIN_EN ≠ 0)
    (hdig : s.digestIs d = true) (harm : (s.setF f).armFault = none) :
    ∃ l, s.armRx h d f = (s.setF f).withSent (l ++ [⟨0x14, s.get I.CH_HOP, true, statusBytes stOK 0⟩]) := by
  obtain ⟨l, hl⟩ := s.passDown_eq 0x13 h (armPayload d f)
  have hdig' : ((s.withSent l).setF f).digestIs d = true := hdig
  have harm' : ((s.withSent l).setF f).armFault = none := harm
  have hen' : ((s.withSent l).setF f).get F.CFG_CHAIN_EN ≠ 0 := by
    rwa [setF, get_set_other _ _ rfl, get_set_other _ _ rfl]
  have hhop : ((s.withSent l).setF f).get I.CH_HOP = s.get I.CH_HOP := (get_set_other _ _ rfl).trans (get_set_other _ _ rfl)
  refine ⟨l, ?_⟩
  rw [armRx, hl]
  simp only [hdig', if_true, harm', sendChain_up hen', hhop]
  rfl

theorem armRx_refused {s : State} (h : ChainHdr) {d : BitVec 256} {f : Nat} (hen : s.get F.CFG_CHAIN_EN ≠ 0)
    (hdig : s.digestIs d = false) :
    ∃ l, s.armRx h d f = (s.setF f).withSent (l ++ [⟨0x18, s.get I.CH_HOP, true, statusBytes stREFUSED rsnNOTSTAGED⟩]) := by
  obtain ⟨l, hl⟩ := s.passDown_eq 0x13 h (armPayload d f)
  have hdig' : ((s.withSent l).setF f).digestIs d = false := hdig
  have hen' : ((s.withSent l).setF f).get F.CFG_CHAIN_EN ≠ 0 := by
    rwa [setF, get_set_other _ _ rfl, get_set_other _ _ rfl]
  have hhop : ((s.withSent l).setF f).get I.CH_HOP = s.get I.CH_HOP := (get_set_other _ _ rfl).trans (get_set_other _ _ rfl)
  refine ⟨l, ?_⟩
  rw [armRx, hl]
  simp only [hdig', Bool.false_eq_true, if_false, sendChain_up hen', hhop]
  rfl

theorem get_setF (s : State) (f : Nat) : (s.setF f).get F.CFG_ACT_FRC_LO_F = f % 2 ^ 32 ∧
    (s.setF f).get F.CFG_ACT_FRC_HI_F = f / 2 ^ 32 % 2 ^ 32 :=
  ⟨(get_set_other _ _ rfl).trans (get_set_same _ _ _), get_set_same _ _ _⟩

theorem get_setF_other (s : State) (f : Nat) {g : Fld} (hlo : (g.id == F.CFG_ACT_FRC_LO_F.id) = false)
    (hhi : (g.id == F.CFG_ACT_FRC_HI_F.id) = false) : (s.setF f).get g = s.get g :=
  (get_set_other _ _ hhi).trans (get_set_other _ _ hlo)

theorem rateHz_setF (s : State) (f : Nat) : (s.setF f).rateHz = s.rateHz := by
  simp (disch := exact id rfl) only [rateHz, multM, on, get_setF_other]
  rfl

theorem driven_setF (s : State) (f : Nat) (b : Ball) : (s.setF f).driven b = s.driven b := by
  have hlevel : (s.setF f).squareLevel = s.squareLevel := by
    simp (disch := exact id rfl) only [squareLevel, tclkHz, on, get_setF_other]
    rfl
  rw [driven, driven, hlevel]
  rfl

theorem refusal_setF (s : State) (f : Nat) : (s.setF f).refusal = s.refusal := by
  simp (disch := exact id rfl) only [refusal, pwrsrcHigh, on, get_setF_other, driven_setF]
  rfl

theorem goRx_arms {s : State} (h : ChainHdr) {d : BitVec 256} {f : Nat} (hsrc : s.get F.CFG_SESS_SRC = 4)
    (hdig : s.digestIs d = true) (href : s.refusal = none) (hlead : 4 * s.frc + s.rateHz ≤ 4 * f) :
    ∃ l, s.goRx h d f = (((s.withSent l).setF f).set F.CFG_ACT_STATE 1).raise 35 := by
  obtain ⟨l, hl⟩ := s.passDown_eq 0x15 h (armPayload d f)
  have hsrc' : ((s.withSent l).setF f).get F.CFG_SESS_SRC = 4 := ((get_set_other _ _ rfl).trans (get_set_other _ _ rfl)).trans hsrc
  have href' : ((s.withSent l).setF f).refusal = none := ((s.withSent l).refusal_setF f).trans href
  have hgo : ((s.withSent l).setF f).get F.CFG_SESS_SRC = 4 ∧ ((s.withSent l).setF f).digestIs d = true ∧
      ((s.withSent l).setF f).refusal = none ∧ 4 * ((s.withSent l).setF f).frc + ((s.withSent l).setF f).rateHz ≤ 4 * f :=
    ⟨hsrc', hdig, href', by rw [rateHz_setF]; exact hlead⟩
  exact ⟨l, by rw [goRx, hl, if_pos hgo]⟩

end State

/-- Settles O45, kind by kind: a frame passed on or answered changes the frames sent alone, beside what its kind does. -/
theorem chainFramesComplete : Obligations.ChainFramesComplete := by
  unfold Obligations.ChainFramesComplete
  intro s h hen hcrc
  have hgood (eff : State → State) : (.next (s.chainFrame h eff) : Out) = .next (eff s) :=
    State.next_of_eq (State.chainFrame_good hen hcrc eff)
  refine ⟨fun hfree htrial => ?_, fun hheld => ?_, fun bs hsrc hsent hstage hlen => ?_, fun st hhead => ?_,
    fun st hhead => ?_, fun d f hdig harm => ?_, fun d f hdig => ?_, fun hhead hact => ?_,
    fun hhead hact hbad hgo hlast hhops => ?_, fun d f hsrc hdig href hlead => ?_, fun hhead => ?_,
    fun k hact hhealthy hslot hk => ?_, fun st htrial hact => ?_⟩
  · obtain ⟨l, hl⟩ := State.offerRx_free h hfree htrial
    obtain ⟨hsrc, hholder, hhop, hhead, hevt⟩ := s.get_offered h l
    exact ⟨_, (hgood _).trans (State.next_of_eq hl), hsrc, hholder, hhop, hhead, hevt, s.frame_offered h l⟩
  · obtain ⟨l, hl⟩ := State.offerRx_held h hen hheld
    refine ⟨_, (hgood _).trans (State.next_of_eq hl), ?_, State.get_set_same _ _ _, ?_, ?_, ?_⟩
    · exact (State.get_set_other _ _ rfl).trans (State.get_set_same _ _ _)
    · exact List.getLast?_concat
    · rfl
    · simp
  · obtain ⟨l, hl⟩ := s.passDown_eq 0x11 h bs
    have hdata := State.dataRx_first h hsrc hsent hstage hlen
    rw [hl] at hdata
    refine ⟨_, (hgood _).trans (State.next_of_eq hdata), rfl, ?_, ?_, fun hlast hhop => ?_, ?_, ?_⟩
    · simp (disch := exact id rfl) only [State.stagedFirst, State.get_set_other, State.get_setGraft, State.get_set_same]
      rfl
    · exact State.get_set_of_lt _ (lt_of_lt_of_le hlen (by decide))
    · have hpass : s.passDown 0x11 h bs = s.withSent (s.graft.sent ++ [⟨0x11, h.hop + 1, false, bs⟩]) := by
        rw [State.passDown, if_pos hhop, State.sendChain_down hen hlast]
      have hl' : l = s.graft.sent ++ [⟨0x11, h.hop + 1, false, bs⟩] := congrArg (fun u : State => u.graft.sent) (hl.symm.trans hpass)
      rw [show (State.stagedFirst (s.withSent l) bs).graft.sent = l from rfl, hl', List.getLast?_concat]
    · rfl
    · simp [State.stagedFirst]
  · have hans := State.answerRx_head hhead 1 0x12 h [st, 0] (decide (st ≠ 0))
    by_cases hst : st = 0
    · rw [if_neg (by simp [hst])] at hans
      exact ⟨_, (hgood _).trans (State.next_of_eq hans), rfl, by rw [if_pos hst]; rfl, rfl, fun _ _ => rfl⟩
    · rw [if_pos (decide_eq_true hst)] at hans
      exact ⟨_, (hgood _).trans (State.next_of_eq hans), rfl, by rw [if_neg hst]; exact State.get_set_same _ _ _, rfl,
        (State.keepsFields_set List.mem_cons_self _).mpr fun _ _ => rfl⟩
  · exact ⟨_, (hgood _).trans (State.next_of_eq (State.answerRx_below hen hhead 1 0x12 h [st, 0] (decide (st ≠ 0)))), rfl, rfl⟩
  · obtain ⟨l, hl⟩ := State.armRx_ready h hen hdig harm
    obtain ⟨hlo, hhi⟩ := s.get_setF f
    refine ⟨_, (hgood _).trans (State.next_of_eq hl), List.getLast?_concat, hlo, hhi, rfl, ?_⟩
    simp [State.setF]
  · obtain ⟨l, hl⟩ := State.armRx_refused h (f := f) hen hdig
    refine ⟨_, (hgood _).trans (State.next_of_eq hl), List.getLast?_concat, rfl, ?_⟩
    simp [State.setF]
  · exact ⟨_, (hgood _).trans (State.next_of_eq (State.readyRx_idle h hhead hact)), rfl, rfl⟩
  · exact ⟨_, (hgood _).trans (State.next_of_eq (State.readyRx_last hen hhead hact hbad hgo hlast hhops)), rfl, rfl⟩
  · obtain ⟨l, hl⟩ := State.goRx_arms h hsrc hdig href hlead
    refine ⟨_, (hgood _).trans (State.next_of_eq hl), ?_, ?_, ?_, State.eq_of_rest_withSent (l := l) ?_, ?_⟩
    · exact (State.get_raise_apart _ rfl).trans (State.get_set_of_lt _ (by decide))
    · exact State.get_raise_bit (k := 3) _ rfl (by decide)
    · exact ((State.get_raise_apart _ rfl).trans (State.get_set_other _ _ rfl)).trans ((s.withSent l).get_setF f).1
    · simp [State.setF]
    · have hevt : ∀ e, evCause 35 = some e → e.1 ∈ [F.CFG_ACT_STATE, F.CFG_EVT_EVT, F.CFG_ACT_FRC_LO_F, F.CFG_ACT_FRC_HI_F] := by
        decide
      simp [State.setF, State.keepsFields_raise hevt]
  · have hans := State.answerRx_head hhead 3 0x16 h (State.statusBytes stOK 0) false
    exact ⟨_, (hgood _).trans (State.next_of_eq hans), rfl, rfl⟩
  · obtain ⟨l, hl⟩ := State.commitRx_trial h hact hhealthy
    obtain ⟨u, hrest, hkeep, hnow⟩ := (s.withSent l).commitNow_eq
    rw [hnow] at hl
    have hrest' : (((u.set F.CFG_TRIAL_ACTIVE 0).set I.SET_SLOT 0).raise 38).rest = (s.withSent l).slotCommitted.rest := by
      rw [State.rest_raise, State.rest_set, State.rest_set, hrest]
    have hflash : (((u.set F.CFG_TRIAL_ACTIVE 0).set I.SET_SLOT 0).raise 38).flash = s.slotCommitted.flash := by
      have hf := congrArg State.flash hrest'
      exact hf
    obtain ⟨hnew, hold⟩ := State.slot_setSlot s.flash hk
      { s.flash.slot k with state := slotGOOD, commitno := ((s.flash.slot (3 - k)).commitno + 1) % 2 ^ 32 }
    rw [State.slotCommitted, hslot] at hflash
    refine ⟨_, (hgood _).trans (State.next_of_eq hl), ?_, ?_, ?_, State.get_raise_bit (k := 6) _ rfl (by decide), ?_, ?_, ?_⟩
    · rw [hflash]
      exact congrArg ImgSlot.state hnew
    · rw [hflash]
      exact congrArg ImgSlot.commitno hnew
    · exact (State.get_raise_apart _ rfl).trans ((State.get_set_other _ _ rfl).trans (State.get_set_same _ _ _))
    · rw [hflash]
      exact hold
    · exact State.eq_of_rest_commit hrest'
    · exact (State.keepsNames_raise rfl).mpr ((State.keepsNames_set rfl _).mpr ((State.keepsNames_set rfl _).mpr hkeep))
  · obtain ⟨l, u, hu, hl⟩ := State.abortRx_passes h st htrial hact
    have hevt : ∀ e, evCause 36 = some e → e.1 ∈ [F.CFG_ACT_STATE, F.CFG_ACT_REASON, F.CFG_EVT_EVT, I.CH_BAD] := by decide
    refine ⟨_, (hgood _).trans (State.next_of_eq hl), ?_, ?_, State.get_raise_bit (k := 4) _ rfl (by decide),
      State.eq_of_rest_withSent (l := l) ?_, ?_⟩
    · exact (State.get_raise_apart _ rfl).trans ((State.get_set_other _ _ rfl).trans (State.get_set_same _ _ _))
    · exact (State.get_raise_apart _ rfl).trans (State.get_set_of_lt _ (by decide))
    · rw [State.rest_raise, State.rest_set, State.rest_set]
      rcases hu with rfl | rfl <;> rfl
    · rcases hu with rfl | rfl <;> simp [State.keepsFields_raise hevt]

end Sys2Proof.Machine
end

section
/-! Phasor commands applied at their offset, or held for their block (R198 to R201). -/

namespace Sys2Proof.Machine

/-! ### Signed and unsigned readings modulo 2 ^ w -/

theorem sint_modEq (w n : Nat) : sint w n ≡ (n : Int) [ZMOD 2 ^ w] := by
  have hmod : ((n % 2 ^ w : Nat) : Int) ≡ (n : Int) [ZMOD 2 ^ w] := by
    push_cast
    exact Int.mod_modEq _ _
  unfold sint
  split
  · exact hmod
  · exact (Int.modEq_iff_dvd.mpr ⟨1, by ring⟩ : ((n % 2 ^ w : Nat) : Int) - 2 ^ w ≡ ((n % 2 ^ w : Nat) : Int) [ZMOD 2 ^ w]).trans hmod

theorem wrap_congr {w : Nat} {x y : Int} (h : x ≡ y [ZMOD 2 ^ w]) : wrap w x = wrap w y := congrArg Int.toNat h

theorem wrap_modEq (w : Nat) (x : Int) : (wrap w x : Int) ≡ x [ZMOD 2 ^ w] := by
  rw [wrap, Int.toNat_of_nonneg (Int.emod_nonneg _ (by positivity))]
  exact Int.mod_modEq _ _

theorem sint_mod_two_pow (w n : Nat) : sint w (n % 2 ^ w) = sint w n := by
  simp only [sint, Nat.mod_mod]

theorem sint_wrap_natCast (w n : Nat) : sint w (wrap w (n : Int)) = sint w n := by
  rw [wrap_natCast, sint_mod_two_pow]

/-- A signed number that is congruent to a reading reads the same. -/
theorem sint_wrap_of_modEq {w n : Nat} {x : Int} (h : x ≡ sint w n [ZMOD 2 ^ w]) : sint w (wrap w x) = sint w n := by
  rw [wrap_congr (h.trans (sint_modEq w n)), sint_wrap_natCast]

namespace State

/-! ### A phasor's state replaced -/

theorem get_phSet (s : State) (p : Nat) (P D G : Int) :
    (s.phSet p P D G).get (I.PH_P p) = wrap 48 P % 2 ^ 48 ∧ (s.phSet p P D G).get (I.PH_D p) = wrap 48 D % 2 ^ 48 ∧
    (s.phSet p P D G).get (I.PH_G p) = wrap 32 G % 2 ^ 32 := by
  refine ⟨?_, ?_, get_set_same _ _ _⟩
  · exact (get_set_other _ _ rfl).trans ((get_set_other _ _ rfl).trans (get_set_same _ _ _))
  · exact (get_set_other _ _ rfl).trans (get_set_same _ _ _)

theorem phP_phSet (s : State) (p : Nat) (P D G : Int) : (s.phSet p P D G).phP p ≡ P [ZMOD 2 ^ 48] := by
  rw [phP, (s.get_phSet p P D G).1]
  push_cast
  exact (Int.mod_modEq _ _).trans (wrap_modEq 48 P)

theorem phD_phSet (s : State) (p : Nat) (P D G : Int) : (s.phSet p P D G).phD p = sint 48 (wrap 48 D) := by
  rw [phD, (s.get_phSet p P D G).2.1, sint_mod_two_pow]

theorem phG_phSet (s : State) (p : Nat) (P D G : Int) : (s.phSet p P D G).phG p = sint 32 (wrap 32 G) := by
  rw [phG, (s.get_phSet p P D G).2.2, sint_mod_two_pow]

theorem phD_phSet_modEq (s : State) (p : Nat) (P D G : Int) : (s.phSet p P D G).phD p ≡ D [ZMOD 2 ^ 48] := by
  rw [phD_phSet]
  exact (sint_modEq _ _).trans (wrap_modEq _ _)

/-- The slope kept is the one given, which fits its 32 bits. -/
theorem phG_phSet_sint (s : State) (p : Nat) (P D : Int) (n : Nat) : (s.phSet p P D (sint 32 n)).phG p = sint 32 n := by
  rw [phG_phSet, sint_wrap_of_modEq (Int.ModEq.refl _)]

/-- The phase at the offset of the command is the one asked for (R200). -/
theorem phPhase_phSet (s : State) (p n ph : Nat) (D o : Int) (h : ph < 2 ^ 48) :
    (s.phSet p (phBack ph D (sint 32 n) o) D (sint 32 n)).phPhase p o = ph := by
  have hmod : (s.phSet p (phBack ph D (sint 32 n) o) D (sint 32 n)).phP p +
      (s.phSet p (phBack ph D (sint 32 n) o) D (sint 32 n)).phD p * o + sint 32 n * o * (o + 1) / 2 ≡ (ph : Int) [ZMOD 2 ^ 48] := by
    calc _ ≡ phBack ph D (sint 32 n) o + D * o + sint 32 n * o * (o + 1) / 2 [ZMOD 2 ^ 48] :=
          (((s.phP_phSet p _ D _).add ((s.phD_phSet_modEq p _ D _).mul_right o)).add_right _)
      _ = (ph : Int) := by rw [phBack]; ring
  rw [phPhase, phG_phSet_sint, wrap_congr hmod, wrap_natCast, Nat.mod_eq_of_lt h]

/-- The step at the offset, by the step and slope put. -/
theorem phStep_phSet (s : State) (p n m : Nat) (P D o : Int) (h : D + sint 32 n * o = sint 48 m) :
    (s.phSet p P D (sint 32 n)).phStep p o = sint 48 m := by
  rw [phStep, phG_phSet_sint]
  refine sint_wrap_of_modEq ?_
  rw [← h]
  exact (s.phD_phSet_modEq p P D _).add_right _

theorem onlyRegs_phSet (s : State) (p : Nat) (P D G : Int) : s.OnlyRegs (s.phSet p P D G) [I.PH_P p, I.PH_D p, I.PH_G p] := by
  simp [onlyRegs_iff, phSet]

theorem phPhase_lt (s : State) (p : Nat) (o : Int) : s.phPhase p o < 2 ^ 48 := by
  have hpos : (0 : Int) < 2 ^ 48 := by norm_num
  have hlt := Int.emod_lt_of_pos (s.phP p + s.phD p * o + s.phG p * o * (o + 1) / 2) hpos
  have hnn := Int.emod_nonneg (s.phP p + s.phD p * o + s.phG p * o * (o + 1) / 2) hpos.ne'
  rw [phPhase, wrap]
  omega

/-! ### The three commands (R200) -/

theorem phApply_phase {s : State} {w : Nat} (h : vwType w = 0x10) (o : Int) :
    s.phApply w o = s.phSet (natBits w 60 48) (phBack (natBits w 47 0) (s.phD (natBits w 60 48)) (s.phG (natBits w 60 48)) o)
      (s.phD (natBits w 60 48)) (s.phG (natBits w 60 48)) := by
  have h' : natBits w 79 72 = 0x10 := h
  simp only [phApply, h']

theorem phApply_rate {s : State} {w : Nat} (h : vwType w = 0x11) (o : Int) :
    s.phApply w o = s.phSet (natBits w 60 48) (phBack (s.phPhase (natBits w 60 48) o)
        (sint 48 (natBits w 47 0) - s.phG (natBits w 60 48) * o) (s.phG (natBits w 60 48)) o)
      (sint 48 (natBits w 47 0) - s.phG (natBits w 60 48) * o) (s.phG (natBits w 60 48)) := by
  have h' : natBits w 79 72 = 0x11 := h
  simp only [phApply, h']

theorem phApply_slope {s : State} {w : Nat} (h : vwType w = 0x12) (o : Int) :
    s.phApply w o = s.phSet (natBits w 60 48) (phBack (s.phPhase (natBits w 60 48) o)
        (s.phStep (natBits w 60 48) o - sint 32 (natBits w 47 16) * o) (sint 32 (natBits w 47 16)) o)
      (s.phStep (natBits w 60 48) o - sint 32 (natBits w 47 16) * o) (sint 32 (natBits w 47 16)) := by
  have h' : natBits w 79 72 = 0x12 := h
  simp only [phApply, h']

/-- A phasor command accepted while the unit is ON. -/
theorem phasorRow_on {s : State} {type w : Nat} (hon : s.get F.VM_STAT_STATE = unitON) (hbad : voiceBad w = none)
    (h : vwType w = type) (ht : 0x10 ≤ type) : s.phasorRow type w = s.phCommand w := by
  rw [phasorRow, if_pos h, settleVoice, hbad]
  exact (if_pos (h ▸ ht)).trans (if_pos hon)

/-- The offset at which a command applies now. -/
theorem phCommand_now {s : State} {w : Nat} {o : Int}
    (ho : o = if s.phRunning then ((extend48 (w / 2 ^ 80) s.frc : Nat) : Int) - ((s.computedFrom : Nat) : Int) else 0)
    (h : s.phRunning = false ∨ extend48 (w / 2 ^ 80) s.frc / s.blockLen < s.blockIx) : s.phCommand w = s.phApply w o := by
  unfold phCommand
  dsimp only
  cases hrun : s.phRunning
  · rw [ho, hrun]
    rfl
  · have hlt := h.resolve_left (by simp [hrun])
    rw [Bool.not_true, if_neg (by decide), if_neg (by omega), ho, hrun]
    rfl

/-- The state with no command of the bank held. -/
def noneHeld (s : State) : State := { s with vm := { s.vm with phasor := [] } }

/-- The one command held applies once its block is computed. -/
theorem phRelease_one (s : State) {w : Nat} (hheld : s.vm.phasor = [w])
    (hdue : extend48 (w / 2 ^ 80) s.frc / s.blockLen < s.blockIx) :
    s.phRelease = s.noneHeld.phApply w (((extend48 (w / 2 ^ 80) s.frc : Nat) : Int) - ((s.computedFrom : Nat) : Int)) := by
  have hnil : s.vm.phasor.erase w = [] := by rw [hheld, List.erase_cons_head]
  rw [phRelease, hheld, List.foldl_cons, List.foldl_nil]
  dsimp only
  rw [if_pos hdue, hnil]
  rfl

end State

theorem natBits_lt (w hi lo : Nat) : natBits w hi lo < 2 ^ (hi + 1 - lo) := Nat.mod_lt _ (by positivity)

/-- Settles O28: what a command sets at its offset it sets exactly, modulo the widths of the phasor's state, and what it does
not name keeps its value there. -/
theorem phasorCommandsComplete : Obligations.PhasorCommandsComplete := by
  unfold Obligations.PhasorCommandsComplete
  intro s w o hon hbad ho
  have hnow {type : Nat} (htype : State.vwType w.toNat = type) (ht : 0x10 ≤ type)
      (h : s.phRunning = false ∨ extend48 (w.toNat / 2 ^ 80) s.frc / s.blockLen < s.blockIx) :
      s.phasorRow type w.toNat = s.phApply w.toNat o :=
    (State.phasorRow_on hon hbad htype ht).trans (State.phCommand_now ho h)
  refine ⟨fun htype h => ?_, fun htype h => ?_, fun htype h => ?_, fun htype hrun hlater => ?_, fun hheld htype hrun hdue => ?_⟩
  · have hset := (hnow htype (by decide) h).trans (State.phApply_phase htype o)
    refine ⟨_, State.next_of_eq hset, State.phPhase_phSet _ _ _ _ _ _ (natBits_lt _ 47 0), ?_, State.phG_phSet_sint _ _ _ _ _,
      State.onlyRegs_phSet _ _ _ _ _⟩
    rw [State.phD_phSet]
    exact sint_wrap_of_modEq (Int.ModEq.refl _)
  · have hset := (hnow htype (by decide) h).trans (State.phApply_rate htype o)
    exact ⟨_, State.next_of_eq hset, State.phStep_phSet _ _ _ _ _ _ _ (Int.sub_add_cancel _ _),
      State.phPhase_phSet _ _ _ _ _ _ (s.phPhase_lt _ _), State.phG_phSet_sint _ _ _ _ _, State.onlyRegs_phSet _ _ _ _ _⟩
  · have hset := (hnow htype (by decide) h).trans (State.phApply_slope htype o)
    exact ⟨_, State.next_of_eq hset, State.phG_phSet_sint _ _ _ _ _, State.phStep_phSet _ _ _ _ _ _ _ (Int.sub_add_cancel _ _),
      State.phPhase_phSet _ _ _ _ _ _ (s.phPhase_lt _ _), State.onlyRegs_phSet _ _ _ _ _⟩
  · refine ⟨_, State.next_of_eq ((State.phasorRow_on hon hbad htype (by decide)).trans ?_), rfl⟩
    unfold State.phCommand
    dsimp only
    rw [hrun, Bool.not_true, if_neg (by decide), if_pos hlater]
  · have hoff : o = ((extend48 (w.toNat / 2 ^ 80) s.frc : Nat) : Int) - ((s.computedFrom : Nat) : Int) := by rw [ho, hrun]; rfl
    have hset := (s.phRelease_one hheld hdue).trans ((congrArg _ hoff.symm).trans (State.phApply_rate htype o))
    obtain ⟨hregs, hkeep⟩ := s.noneHeld.onlyRegs_phSet (natBits w.toNat 60 48)
      (State.phBack (s.phPhase (natBits w.toNat 60 48) o) (sint 48 (natBits w.toNat 47 0) - s.phG (natBits w.toNat 60 48) * o)
        (s.phG (natBits w.toNat 60 48)) o) (sint 48 (natBits w.toNat 47 0) - s.phG (natBits w.toNat 60 48) * o)
      (s.phG (natBits w.toNat 60 48))
    exact ⟨_, State.next_of_eq hset, rfl, State.phStep_phSet _ _ _ _ _ _ _ (Int.sub_add_cancel _ _),
      State.phPhase_phSet _ _ _ _ _ _ (s.phPhase_lt _ _), hregs, hkeep⟩

end Sys2Proof.Machine
end

section
/-! ASRC channels lock, come ON, go OFF and leave their range (R283 to R286). -/

namespace Sys2Proof.Machine

namespace State

/-! ### A tracker's lock -/

/-- Channel `c` locked with a ratio. -/
def chLocked (s : State) (ratio c : Nat) : State := (s.set (F.ASRC_CH_LOCK c) 1).set (F.ASRC_RATIO_R c) ratio

/-- A tracker locked, and all its channels. -/
def trackLocked (s : State) (k ratio : Nat) : State :=
  (s.asrcOf (trackerFid k)).foldl (fun s c => s.chLocked ratio c) ((s.set (I.TRK_LOCK k) 1).set (I.TRK_RATIO k) ratio)

theorem asrcLocked_runs {s : State} {k : Nat} (h : s.trackerRuns k = true) (ratio : Nat) :
    s.asrcLocked k ratio = (s.trackLocked k ratio).raise 104 := if_pos h

theorem get_chLocked (s : State) (ratio c : Nat) :
    (s.chLocked ratio c).get (F.ASRC_CH_LOCK c) = 1 ∧ (s.chLocked ratio c).get (F.ASRC_RATIO_R c) = ratio % 2 ^ 32 :=
  ⟨(get_set_other _ _ rfl).trans (get_set_same _ _ _), get_set_same _ _ _⟩

/-- Locking another channel leaves a locked one as it is. -/
theorem get_chLocked_keeps {s : State} {ratio c x : Nat} (h : s.get (F.ASRC_CH_LOCK x) = 1 ∧ s.get (F.ASRC_RATIO_R x) = ratio % 2 ^ 32) :
    (s.chLocked ratio c).get (F.ASRC_CH_LOCK x) = 1 ∧ (s.chLocked ratio c).get (F.ASRC_RATIO_R x) = ratio % 2 ^ 32 := by
  by_cases hx : x = c
  · subst hx
    exact s.get_chLocked ratio x
  · rw [chLocked, get_set_other _ _ rfl, get_set_index _ _ hx, get_set_index _ _ hx, get_set_other _ _ rfl]
    exact h

theorem foldl_chLocked {ratio x : Nat} (l : List Nat) (s : State)
    (h : x ∈ l ∨ s.get (F.ASRC_CH_LOCK x) = 1 ∧ s.get (F.ASRC_RATIO_R x) = ratio % 2 ^ 32) :
    (l.foldl (fun s c => s.chLocked ratio c) s).get (F.ASRC_CH_LOCK x) = 1 ∧
    (l.foldl (fun s c => s.chLocked ratio c) s).get (F.ASRC_RATIO_R x) = ratio % 2 ^ 32 := by
  induction l generalizing s with
  | nil => exact h.resolve_left (List.not_mem_nil)
  | cons c l ih =>
    refine ih _ ?_
    rcases h with h | h
    · rcases List.mem_cons.mp h with rfl | h
      · exact .inr (s.get_chLocked ratio x)
      · exact .inl h
    · exact .inr (get_chLocked_keeps h)

/-- The fields that a tracker's lock writes. -/
def lockFields (s : State) (k : Nat) : List Fld :=
  s.chFields (trackerFid k) F.ASRC_CH_LOCK ++ s.chFields (trackerFid k) F.ASRC_RATIO_R ++
    [I.TRK_LOCK k, I.TRK_RATIO k, F.ASRC_EVT_EVT]

theorem keepsFields_trackLocked (s : State) (k ratio : Nat) : s.KeepsFields (s.trackLocked k ratio) (s.lockFields k) := by
  refine keepsFields_foldl _ (fun t c hc => ?_) ?_
  · have hlock : F.ASRC_CH_LOCK c ∈ s.lockFields k :=
      List.mem_append_left _ (List.mem_append_left _ (List.mem_map_of_mem hc))
    have hratio : F.ASRC_RATIO_R c ∈ s.lockFields k := List.mem_append_left _ (List.mem_append_right _ (List.mem_map_of_mem hc))
    exact (keepsFields_set hratio _).mpr ((keepsFields_set hlock _).mpr (.refl _ _))
  · have htrk : I.TRK_LOCK k ∈ s.lockFields k := List.mem_append_right _ (by simp)
    have hratio : I.TRK_RATIO k ∈ s.lockFields k := List.mem_append_right _ (by simp)
    exact (keepsFields_set hratio _).mpr ((keepsFields_set htrk _).mpr (.refl _ _))

theorem rest_trackLocked (s : State) (k ratio : Nat) : (s.trackLocked k ratio).rest = s.rest :=
  rest_foldl (g := fun s c => s.chLocked ratio c) _ (fun _ _ => rfl) _

theorem get_trackLocked (s : State) (k ratio : Nat) : (s.trackLocked k ratio).get (I.TRK_LOCK k) = 1 :=
  (get_foldl_keep _ (fun _ _ _ => (get_set_other _ _ rfl).trans (get_set_other _ _ rfl)) _).trans
    ((get_set_other _ _ rfl).trans (get_set_same _ _ _))

/-! ### A channel gone OFF -/

theorem asrcOff_ends {s : State} {c : Nat} (h : s.get (F.ASRC_CH_STATE c) = unitSHUTTING) (hatt : s.get (I.ASRC_ATT c) = 64)
    (hen : s.get (I.ASRC_EN c) = 0) : s.asrcOff c = (s.set (F.ASRC_CH_STATE c) unitOFF).asrcRelease c := by
  simp [asrcOff, h, hatt, on, hen]

/-- The channel's claim released, and its owner's. -/
theorem asrcRelease_off (s : State) (c : Nat) :
    (s.set (F.ASRC_CH_STATE c) unitOFF).asrcRelease c =
      ((((((s.set (F.ASRC_CH_STATE c) unitOFF).unclaim (s.get (F.ASRC_CH_OWNER c)) [s.asrcSlot c]).set (F.ASRC_CH_OWNER c) 0).set
        (F.ASRC_CH_LOCK c) 0).set (F.ASRC_RATIO_R c) 0).set (F.ASRC_CH_FREEW c) 0).set (F.ASRC_CH_RANGE c) 0 := by
  have hown : (s.set (F.ASRC_CH_STATE c) unitOFF).get (F.ASRC_CH_OWNER c) = s.get (F.ASRC_CH_OWNER c) := get_set_other _ _ rfl
  have hslot : (s.set (F.ASRC_CH_STATE c) unitOFF).asrcSlot c = s.asrcSlot c := by
    simp (disch := exact id rfl) only [asrcSlot, get_set_other]
  rw [asrcRelease, hown, hslot]

end State

/-- Settles O35: each command writes the fields of its channel, and a tracker's lock those of all its channels. -/
theorem asrcCommandsComplete : Obligations.AsrcCommandsComplete := by
  unfold Obligations.AsrcCommandsComplete
  intro s c
  refine ⟨fun k ratio hruns => ?_, fun hst hlock => ?_, fun hst hen hown hatt => ?_, fun hst hrange => ?_, fun hst hrange => ?_⟩
  · have hevt : ∀ e, evCause 104 = some e → e.1 ∈ s.lockFields k := fun e he => by
      cases he
      exact List.mem_append_right _ (by simp)
    have hratio : ratio.toNat % 2 ^ 32 = ratio.toNat := Nat.mod_eq_of_lt ratio.isLt
    refine ⟨_, State.next_of_eq (State.asrcLocked_runs hruns ratio.toNat),
      (State.get_raise_apart _ rfl).trans (s.get_trackLocked k _), fun x hx => ?_, ?_, ?_⟩
    · obtain ⟨hlock, hr⟩ := State.foldl_chLocked (ratio := ratio.toNat) _ ((s.set (I.TRK_LOCK k) 1).set (I.TRK_RATIO k) ratio.toNat)
        (.inl hx)
      exact ⟨(State.get_raise_apart _ rfl).trans hlock, (State.get_raise_apart _ rfl).trans (hr.trans hratio)⟩
    · simpa using State.get_raise_bit (s.trackLocked k ratio.toNat) (n := 104) (k := 0) rfl (by decide)
    · rw [State.onlyRegsEv_iff]
      exact ⟨(State.rest_raise _ _).trans (s.rest_trackLocked k _),
        (State.keepsFields_raise hevt).mpr (s.keepsFields_trackLocked k _)⟩
  · have hon : s.asrcOn c = s.set (F.ASRC_CH_STATE c) unitON := by simp [State.asrcOn, hst, State.on, hlock]
    exact ⟨_, State.next_of_eq hon, State.get_set_same _ _ _, .set _ _ _⟩
  · have hoff := (State.asrcOff_ends hst hatt hen).trans (s.asrcRelease_off c)
    refine ⟨_, State.next_of_eq hoff, ?_, ?_, ?_, ?_, ?_, ?_⟩
    · simp (disch := exact id rfl) only [State.get_set_other, State.get_unclaim_other, State.get_set_same]
      rfl
    · simp (disch := exact id rfl) only [State.get_set_other, State.get_set_same]
      rfl
    · simp (disch := exact id rfl) only [State.get_set_other, State.get_set_same]
      rfl
    · simp (disch := exact id rfl) only [State.get_set_other, State.get_set_same]
      rfl
    · simp (disch := exact id rfl) only [State.get_set_other]
      exact State.get_unclaim_at _ hown List.mem_cons_self
    · rw [State.unclaim_one]
      split <;> simp [State.onlyRegs_iff]
  · have hout : s.asrcRange c true = (s.set (F.ASRC_CH_RANGE c) 1).raise 106 := by
      simp [State.asrcRange, hst, State.on, hrange]
    have hevt : ∀ e, evCause 106 = some e → e.1 ∈ [F.ASRC_CH_RANGE c, F.ASRC_EVT_EVT] := fun e he => by cases he; simp
    refine ⟨_, State.next_of_eq hout, (State.get_raise_apart _ rfl).trans (State.get_set_same _ _ _),
      State.get_raise_bit (k := 2) _ rfl (by decide), ?_⟩
    simp [State.onlyRegsEv_iff, State.keepsFields_raise hevt]
  · have hback : s.asrcRange c false = s.set (F.ASRC_CH_RANGE c) 0 := by simp [State.asrcRange, hst, State.on, hrange]
    exact ⟨_, State.next_of_eq hback, State.get_set_same _ _ _, .set _ _ _⟩

end Sys2Proof.Machine
end

section
/-! Damson's operations that the level of `DACCLR#` causes: which register places they write (R343). -/

namespace Sys2Proof.Machine

namespace State

/-- What a level of `DACCLR#` writes. -/
def clrNames : List Fld :=
  [I.DMS_OUTER, I.DMS_LOW, F.DMS_GSTAT_CLRLVL, F.DMS_STAT_FORCED 0, I.DMS_TGT 0] ++ slewFields 0 ++ rampFields 0

theorem onlyNames_flag {s : State} {f : Fld} {fs : List Fld} (h : fs.any (fun g => g.id == f.id) = true) (b : Bool) :
    s.OnlyNames (s.flag f b) fs := onlyNames_set h _

theorem onlyNames_dmsRamp (s : State) (n dir : Nat) : s.OnlyNames (s.dmsRamp n dir) clrNames :=
  (onlyNames_set rfl _).trans (onlyNames_set rfl _)

theorem onlyNames_dmsSlewAt (s : State) (n v t : Nat) : s.OnlyNames (s.dmsSlewAt n v t) clrNames :=
  ((((onlyNames_set rfl _).trans (onlyNames_set rfl _)).trans (onlyNames_set rfl _)).trans (onlyNames_flag rfl _)).trans
    (onlyNames_set rfl _)

theorem onlyNames_dmsRetarget (s : State) (n code : Nat) : s.OnlyNames (s.dmsRetarget n code) clrNames := by
  unfold dmsRetarget
  dsimp only
  split
  · exact onlyNames_set rfl _
  · exact (onlyNames_set rfl _).trans (onlyNames_dmsSlewAt _ _ _ _)

theorem onlyNames_dmsForce (s : State) (n : Nat) : s.OnlyNames (s.dmsForce n) clrNames := by
  unfold dmsForce
  dsimp only
  split
  · exact .refl s _
  · exact ((onlyNames_dmsRetarget s n _).trans (onlyNames_flag rfl _)).trans (onlyNames_dmsRamp _ _ _)

theorem onlyNames_dmsClrLevel (s : State) (high : Bool) : s.OnlyNames (s.dmsClrLevel high) clrNames :=
  ((onlyNames_flag rfl _).trans (onlyNames_flag rfl _)).trans (onlyNames_foldl onlyNames_dmsForce _ _)

/-- The level of `DACCLR#` as Damson reads it: low. -/
def dacclrLow (s : State) : Bool := match s.driven ballDACCLR with | some l => !l | none => s.on I.DMS_OUTER

theorem dacclrRefresh_eq (s : State) :
    s.dacclrRefresh = if s.dacclrLow = s.on I.DMS_LOW then s else s.dmsClrLevel (!s.dacclrLow) := rfl

theorem onlyNames_dacclrRefresh (s : State) : s.OnlyNames s.dacclrRefresh clrNames := by
  rw [dacclrRefresh_eq]
  split
  · exact .refl s _
  · exact s.onlyNames_dmsClrLevel _

/-- A force does not change the level that Damson keeps. -/
theorem low_dmsForce (s : State) (n : Nat) : (s.dmsForce n).get I.DMS_LOW = s.get I.DMS_LOW := by
  have hslew (t : State) (v k : Nat) : (t.dmsSlewAt n v k).get I.DMS_LOW = t.get I.DMS_LOW := by
    simp (disch := exact id rfl) only [dmsSlewAt, flag, get_set_other]
  have hret (t : State) (c : Nat) : (t.dmsRetarget n c).get I.DMS_LOW = t.get I.DMS_LOW := by
    unfold dmsRetarget
    dsimp only
    split
    · exact get_set_other _ _ rfl
    · exact (hslew _ _ _).trans (get_set_other _ _ rfl)
  unfold dmsForce
  dsimp only
  split
  · rfl
  · simp (disch := exact id rfl) only [dmsRamp, flag, get_set_other, hret]

theorem low_dmsClrLevel (s : State) (high : Bool) : (s.dmsClrLevel high).get I.DMS_LOW = b2n (!high) := by
  refine (get_foldl_keep _ (fun t n _ => t.low_dmsForce n) _).trans ?_
  rw [flag, get_set_other _ _ rfl, flag, get_set_same]
  cases high <;> rfl

/-- Nothing is taken anew exactly where Damson has the present level. -/
theorem dacclrRefresh_self {s : State} (h : s.dacclrRefresh = s) : s.dacclrLow = s.on I.DMS_LOW := by
  by_contra hne
  rw [dacclrRefresh_eq, if_neg hne] at h
  have hlow : s.get I.DMS_LOW = b2n (!!s.dacclrLow) := by
    rw [← s.low_dmsClrLevel (!s.dacclrLow), h]
  refine hne ?_
  rw [on, hlow]
  cases s.dacclrLow <;> rfl

/-- A line said changes what the service link has sent alone. -/
theorem get_say (s : State) (l : String) (f : Fld) : (s.say l).get f = s.get f := rfl

theorem get_endSlotlessDrives (s : State) {f : Fld} (h : clrNames.all (fun g => !(g.id == f.id)) = true) :
    s.endSlotlessDrives.get f = s.get f := by
  unfold endSlotlessDrives
  dsimp only
  rw [(onlyNames_dacclrRefresh _).get h]
  exact get_foldl_keep _ (fun t d _ => get_say t _ f) _

/-- With no ball driven that has no slot, and Damson's level the present one, nothing ends. -/
theorem endSlotlessDrives_self {s : State} (hnone : s.svc.drives.filter slotlessDrive = []) (h : s.dacclrLow = s.on I.DMS_LOW) :
    s.endSlotlessDrives = s := by
  have hall : s.svc.drives.filter (fun d => !slotlessDrive d) = s.svc.drives :=
    List.filter_eq_self.mpr fun d hd => by simpa using List.filter_eq_nil_iff.mp hnone d hd
  unfold endSlotlessDrives
  dsimp only
  rw [hnone, hall, List.foldl_nil]
  exact if_pos h

end State

end Sys2Proof.Machine
end

section
/-! Requests to run and to stop the engine (R40 to R42). -/

namespace Sys2Proof.Machine

namespace State

/-- The words of a request: RUN and AT. -/
theorem engineWord (a : Bool) :
    natBit (0x10 + b2n a * 0x20) 5 = a ∧ natBit (0x10 + b2n a * 0x20) 4 = true ∧ natBit (b2n a * 0x20) 5 = a ∧
    natBit (b2n a * 0x20) 4 = false := by
  cases a <;> decide

theorem engineSet_run {s : State} {a : Bool} (h : s.targetOk a = true) :
    s.engineSet (0x10 + b2n a * 0x20) = (s.engineRun a).clear1 F.SYS_ENGINE_OVR (0x10 + b2n a * 0x20) := by
  obtain ⟨hat, hrun, -⟩ := engineWord a
  rw [engineSet, hat, if_pos h, hrun, if_pos rfl]

theorem engineSet_stop {s : State} {a : Bool} (h : s.targetOk a = true) :
    s.engineSet (b2n a * 0x20) = (s.engineStop a).clear1 F.SYS_ENGINE_OVR (b2n a * 0x20) := by
  obtain ⟨-, -, hat, hrun⟩ := engineWord a
  rw [engineSet, hat, if_pos h, hrun, if_neg (by decide)]

/-- A request with a target too near is refused whatever it asks. -/
theorem engineSet_near {s : State} {a : Bool} (h : s.targetOk a = false) :
    s.engineSet (0x10 + b2n a * 0x20) = s.set F.SYS_ENGINE_STATUS stBADARG ∧
    s.engineSet (b2n a * 0x20) = s.set F.SYS_ENGINE_STATUS stBADARG := by
  obtain ⟨hat, -, hat', -⟩ := engineWord a
  constructor
  · rw [engineSet, hat, if_neg (by simp [h])]
  · rw [engineSet, hat', if_neg (by simp [h])]

/-! ### An accepted request -/

/-- RUN, AT, STATUS and OVR as an accepted request leaves them. -/
def accepted (s : State) (run a : Bool) (w : Nat) : State := (s.engineAccept run a).clear1 F.SYS_ENGINE_OVR w

/-- The fields that every accepted request writes. -/
def acceptFields : List Fld := [F.SYS_ENGINE_RUN, F.SYS_ENGINE_AT, F.SYS_ENGINE_STATUS, F.SYS_ENGINE_OVR]

theorem onlyRegs_accepted (s : State) (run a : Bool) (w : Nat) : s.OnlyRegs (s.accepted run a w) acceptFields := by
  simp [onlyRegs_iff, accepted, engineAccept, acceptFields]

theorem get_accepted (s : State) (run a : Bool) (w : Nat) :
    (s.accepted run a w).get F.SYS_ENGINE_RUN = b2n run ∧ (s.accepted run a w).get F.SYS_ENGINE_STATUS = stOK := by
  constructor
  · simp (disch := exact id rfl) only [accepted, engineAccept, clear1, flag, get_set_other, get_set_same]
    cases run <;> rfl
  · simp (disch := exact id rfl) only [accepted, engineAccept, clear1, get_set_other, get_set_same]
    rfl

theorem get_accepted_other (s : State) (run a : Bool) (w : Nat) {f : Fld}
    (h : acceptFields.any (fun g => f.id == g.id) = false) : (s.accepted run a w).get f = s.get f :=
  KeepsFields.get_other (s.onlyRegs_accepted run a w).2 h

/-- An accepted request's fields, after others were written. -/
theorem OnlyRegs.accepted {s t : State} {fs : List Fld} (h : s.OnlyRegs t fs) (hs : acceptFields ⊆ fs) (run a : Bool) (w : Nat) :
    s.OnlyRegs (t.accepted run a w) fs := by
  obtain ⟨⟨hrest, hdue⟩, hkeep⟩ := onlyRegs_iff.mp h
  obtain ⟨⟨hrest', hdue'⟩, hkeep'⟩ := onlyRegs_iff.mp (t.onlyRegs_accepted run a w)
  exact onlyRegs_iff.mpr ⟨⟨hrest'.trans hrest, hdue'.trans hdue⟩, hkeep.trans (hkeep'.mono hs)⟩

/-! ### The requests by the engine's state -/

theorem engineRun_stopped {s : State} (a : Bool) (h : s.get F.SYS_ENGINE_STATE = 0) :
    s.engineRun a = (s.engineStart (s.targetOf a)).engineAccept true a := by
  simp only [engineRun, h]

/-- A stop not yet reached is cancelled. -/
theorem engineRun_cancels {s : State} (a : Bool) (h : s.get F.SYS_ENGINE_STATE = 1 ∨ s.get F.SYS_ENGINE_STATE = 2)
    (hstop : s.get I.ENG_STOPP ≠ 0) : s.engineRun a = (s.set I.ENG_STOPP 0).engineAccept true a := by
  rcases h with h | h <;> simp [engineRun, h, on, hstop]

theorem engineRun_stopping {s : State} (a : Bool) (h : s.get F.SYS_ENGINE_STATE = 3) :
    s.engineRun a = ((s.set I.ENG_RESTART 1).set I.ENG_REQ (if a then s.askedF else 0)).engineAccept true a := by
  simp only [engineRun, h]

theorem engineStop_running {s : State} (a : Bool) (h : s.get F.SYS_ENGINE_STATE = 2) (hstop : s.get I.ENG_STOPP = 0) :
    s.engineStop a = (((s.set I.ENG_STOPP 1).set I.ENG_FROMSTART 0).set I.ENG_STOPT (s.targetOf a)).engineAccept false a := by
  simp [engineStop, h, on, hstop]

theorem engineStop_starting {s : State} (a : Bool) (h : s.get F.SYS_ENGINE_STATE = 1) (hstop : s.get I.ENG_STOPP = 0)
    (hland : s.get I.ENG_LANDED = 0) (htgt : s.frc < s.get I.ENG_TGT) :
    s.engineStop a = (s.engineAccept false a).setEngine 0 := by
  have hlater : ¬s.get I.ENG_TGT ≤ s.frc := by omega
  simp [engineStop, h, on, hstop, hland, hlater]

theorem engineStop_stopping {s : State} (a : Bool) (h : s.get F.SYS_ENGINE_STATE = 3) :
    s.engineStop a = (s.set I.ENG_RESTART 0).engineAccept false a := by
  simp only [engineStop, h]

/-! ### Changes of the engine's state -/

theorem get_setEngine (s : State) {st : Nat} (h : st < 4) :
    (s.setEngine st).get F.SYS_ENGINE_STATE = st ∧ (s.setEngine st).get F.SYS_EVT_STATE = 1 :=
  ⟨(get_raise_apart _ rfl).trans ((get_set_other _ _ rfl).trans (get_set_of_lt _ h)), get_raise_flag _ rfl rfl⟩

theorem onlyRegsEv_setEngine (s : State) (st : Nat) :
    s.OnlyRegsEv (s.setEngine st) [F.SYS_ENGINE_STATE, F.SYS_PWR_STATE, F.SYS_EVT_STATE] := by
  have hevt : ∀ e, evCause 0 = some e → e.1 ∈ [F.SYS_ENGINE_STATE, F.SYS_PWR_STATE, F.SYS_EVT_STATE] := by decide
  simp [onlyRegsEv_iff, setEngine, keepsFields_raise hevt]

theorem get_setEngine_other (s : State) (st : Nat) {f : Fld}
    (h : [F.SYS_ENGINE_STATE, F.SYS_PWR_STATE, F.SYS_EVT_STATE].any (fun g => f.id == g.id) = false) :
    (s.setEngine st).get f = s.get f := KeepsFields.get_other (s.onlyRegsEv_setEngine st).2 h

/-- The fields of a start from STOPPED, before the drives end. -/
def startPut (s : State) (f : Nat) : State :=
  (((s.set I.ENG_TGT f).set I.ENG_LANDED 0).set I.ENG_STOPP 0).set I.ENG_RESTART 0

theorem engineStart_eq (s : State) (f : Nat) : s.engineStart f = (s.startPut f).endSlotlessDrives.setEngine 1 := rfl

/-- What Damson reads of `DACCLR#` does not depend on the engine's target. -/
theorem dacclrLow_startPut (s : State) (f : Nat) : (s.startPut f).dacclrLow = s.dacclrLow := by
  have hlevel : (s.startPut f).squareLevel = s.squareLevel := by
    simp (disch := exact id rfl) only [squareLevel, tclkHz, on, startPut, get_set_other]
    rfl
  have hdriven (b : Ball) : (s.startPut f).driven b = s.driven b := by
    rw [driven, driven, hlevel]
    rfl
  have hon : (s.startPut f).on I.DMS_OUTER = s.on I.DMS_OUTER := by
    simp (disch := exact id rfl) only [on, startPut, get_set_other]
  rw [dacclrLow, dacclrLow, hdriven, hon]

theorem startPut_quiet {s : State} (f : Nat) (hnone : s.svc.drives.filter slotlessDrive = []) (hsame : s.dacclrRefresh = s) :
    (s.startPut f).endSlotlessDrives = s.startPut f := by
  have hon : (s.startPut f).on I.DMS_LOW = s.on I.DMS_LOW := by
    simp (disch := exact id rfl) only [on, startPut, get_set_other]
  exact endSlotlessDrives_self hnone (by rw [dacclrLow_startPut, hon, dacclrRefresh_self hsame])

theorem get_engineStart (s : State) (f : Nat) :
    (s.engineStart f).get F.SYS_ENGINE_STATE = 1 ∧ (s.engineStart f).get F.SYS_EVT_STATE = 1 ∧
    (s.engineStart f).get I.ENG_TGT = f % 2 ^ 64 := by
  obtain ⟨hst, hevt⟩ := (s.startPut f).endSlotlessDrives.get_setEngine (by decide : 1 < 4)
  refine ⟨hst, hevt, ?_⟩
  rw [engineStart_eq, get_setEngine_other _ _ rfl, get_endSlotlessDrives _ rfl]
  simp (disch := exact id rfl) only [startPut, get_set_other, get_set_same]
  rfl

end State

/-- Settles O7: the request by the engine's state; a start from STOPPED takes its target before the drives of balls without a
slot end. -/
theorem engineRequestsComplete : Obligations.EngineRequestsComplete := by
  unfold Obligations.EngineRequestsComplete
  intro s m a hperf
  refine ⟨fun hst hok => ?_, fun hst hstop hok => ?_, fun hno => ?_, fun hno => ?_, fun hst hok => ?_, fun hst hstop hok => ?_,
    fun hst hstop hland htgt hok => ?_, fun hst hok => ?_⟩
  · have hset := State.engineSet_run hok
    rw [State.engineRun_stopped a hst] at hset
    obtain ⟨hrun, hstatus⟩ := (s.engineStart (s.targetOf a)).get_accepted true a (0x10 + b2n a * 0x20)
    obtain ⟨hst', hevt, htgt⟩ := s.get_engineStart (s.targetOf a)
    refine ⟨_, State.next_of_write hperf hset, (State.get_accepted_other _ _ _ _ rfl).trans hst', hrun, hstatus,
      (State.get_accepted_other _ _ _ _ rfl).trans htgt, (State.get_accepted_other _ _ _ _ rfl).trans hevt, fun hnone hsame => ?_⟩
    rw [State.engineStart_eq, State.startPut_quiet _ hnone hsame]
    have hevt0 : ∀ e, evCause 0 = some e → e.1 ∈ [F.SYS_ENGINE_STATE, F.SYS_ENGINE_RUN, F.SYS_ENGINE_AT, F.SYS_ENGINE_STATUS,
        F.SYS_ENGINE_OVR, F.SYS_PWR_STATE, F.SYS_EVT_STATE, I.ENG_TGT, I.ENG_LANDED, I.ENG_STOPP, I.ENG_RESTART] := by decide
    simp [State.onlyRegsEv_iff, State.engineAccept, State.setEngine, State.startPut, State.keepsFields_raise hevt0]
  · have hset := State.engineSet_run hok
    rw [State.engineRun_cancels a hst hstop] at hset
    obtain ⟨hrun, hstatus⟩ := (s.set I.ENG_STOPP 0).get_accepted true a (0x10 + b2n a * 0x20)
    exact ⟨_, State.next_of_write hperf hset, (State.get_accepted_other _ _ _ _ rfl).trans (State.get_set_same _ _ _), hrun, hstatus,
      (State.OnlyRegs.refl s _).thenSet (by simp) _ |>.accepted (by simp [State.acceptFields]) _ _ _⟩
  · exact ⟨_, State.next_of_write hperf (State.engineSet_near hno).1, State.get_set_of_lt _ (by decide), .set _ _ _⟩
  · exact ⟨_, State.next_of_write hperf (State.engineSet_near hno).2, State.get_set_of_lt _ (by decide), .set _ _ _⟩
  · have hset := State.engineSet_run hok
    rw [State.engineRun_stopping a hst] at hset
    obtain ⟨hrun, hstatus⟩ := ((s.set I.ENG_RESTART 1).set I.ENG_REQ (if a then s.askedF else 0)).get_accepted true a
      (0x10 + b2n a * 0x20)
    exact ⟨_, State.next_of_write hperf hset,
      (State.get_accepted_other _ _ _ _ rfl).trans ((State.get_set_other _ _ rfl).trans (State.get_set_same _ _ _)), hrun, hstatus,
      ((State.OnlyRegs.refl s _).thenSet (by simp) _ |>.thenSet (by simp) _).accepted (by simp [State.acceptFields]) _ _ _⟩
  · have hset := State.engineSet_stop hok
    rw [State.engineStop_running a hst hstop] at hset
    obtain ⟨hrun, hstatus⟩ := (((s.set I.ENG_STOPP 1).set I.ENG_FROMSTART 0).set I.ENG_STOPT (s.targetOf a)).get_accepted false a
      (b2n a * 0x20)
    exact ⟨_, State.next_of_write hperf hset, (State.get_accepted_other _ _ _ _ rfl).trans
        ((State.get_set_other _ _ rfl).trans ((State.get_set_other _ _ rfl).trans (State.get_set_same _ _ _))),
      (State.get_accepted_other _ _ _ _ rfl).trans (State.get_set_same _ _ _), hrun, hstatus,
      ((State.OnlyRegs.refl s _).thenSet (by simp) _ |>.thenSet (by simp) _ |>.thenSet (by simp) _).accepted
        (by simp [State.acceptFields]) _ _ _⟩
  · have hset := State.engineSet_stop hok
    rw [State.engineStop_starting a hst hstop hland htgt] at hset
    obtain ⟨hst', hevt⟩ := (s.engineAccept false a).get_setEngine (by decide : 0 < 4)
    refine ⟨_, State.next_of_write hperf hset, (State.get_set_other _ _ rfl).trans hst', ?_, ?_,
      (State.get_set_other _ _ rfl).trans hevt, ?_⟩
    · rw [State.clear1, State.get_set_other _ _ rfl, State.get_setEngine_other _ _ rfl, State.engineAccept,
        State.get_set_other _ _ rfl, State.flag, State.get_set_other _ _ rfl, State.flag, State.get_set_same]
      rfl
    · rw [State.clear1, State.get_set_other _ _ rfl, State.get_setEngine_other _ _ rfl, State.engineAccept, State.get_set_same]
      rfl
    · have hevt0 : ∀ e, evCause 0 = some e → e.1 ∈ [F.SYS_ENGINE_STATE, F.SYS_ENGINE_RUN, F.SYS_ENGINE_AT, F.SYS_ENGINE_STATUS,
          F.SYS_ENGINE_OVR, F.SYS_PWR_STATE, F.SYS_EVT_STATE] := by decide
      simp [State.onlyRegsEv_iff, State.engineAccept, State.setEngine, State.keepsFields_raise hevt0]
  · have hset := State.engineSet_stop hok
    rw [State.engineStop_stopping a hst] at hset
    obtain ⟨hrun, hstatus⟩ := (s.set I.ENG_RESTART 0).get_accepted false a (b2n a * 0x20)
    exact ⟨_, State.next_of_write hperf hset, (State.get_accepted_other _ _ _ _ rfl).trans (State.get_set_same _ _ _), hrun, hstatus,
      (State.OnlyRegs.refl s _).thenSet (by simp) _ |>.accepted (by simp [State.acceptFields]) _ _ _⟩

end Sys2Proof.Machine
end

section
/-! Damson's channels: start, shutdown, codes, spans, stages, shorts and `DACCLR#` (R333 to R350). -/

namespace Sys2Proof.Machine

namespace State

/-! ### The limiter (R338) -/

theorem get_dmsJump (s : State) (n v : Nat) :
    (s.dmsJump n v).get (I.DMS_FROM n) = v % 2 ^ 22 ∧ (s.dmsJump n v).get (I.DMS_TO n) = v % 2 ^ 22 ∧
    (s.dmsJump n v).get (I.DMS_SAT n) = s.dmsNow % 2 ^ 64 ∧ (s.dmsJump n v).get (F.DMS_STAT_SLEWING n) = 0 := by
  refine ⟨?_, ?_, ?_, ?_⟩ <;>
    simp (disch := exact id rfl) only [dmsJump, get_set_other, get_set_same] <;> rfl

/-- A channel whose limiter rests is at its setpoint. -/
theorem dmsOut_still {s : State} {n : Nat} (h : s.get (F.DMS_STAT_SLEWING n) = 0) : s.dmsOut n = s.get (I.DMS_TO n) := by
  simp [dmsOut, on, h]

theorem get_dmsSlewAt (s : State) (n v t : Nat) :
    (s.dmsSlewAt n v t).get (I.DMS_FROM n) = s.dmsBall n % 2 ^ 22 ∧ (s.dmsSlewAt n v t).get (I.DMS_TO n) = v % 2 ^ 22 ∧
    (s.dmsSlewAt n v t).get (I.DMS_SAT n) = t % 2 ^ 64 ∧
    (s.dmsSlewAt n v t).get (F.DMS_STAT_SLEWING n) = (if s.dmsBall n = v then 0 else 1) ∧
    (s.dmsSlewAt n v t).get (F.DMS_STAT_HOLDING n) = 0 := by
  refine ⟨?_, ?_, ?_, ?_, ?_⟩ <;>
    simp (disch := exact id rfl) only [dmsSlewAt, flag, get_set_other, get_set_same]
  case refine_4 => by_cases h : s.dmsBall n = v <;> simp [h, b2n, F.DMS_STAT_SLEWING]
  all_goals rfl

/-- The fields that a change of setpoint writes, and those alone. -/
theorem onlyRegs_dmsJump (s : State) (n v : Nat) : s.OnlyRegs (s.dmsJump n v) (slewFields n) := by
  simp [onlyRegs_iff, dmsJump, slewFields]

theorem onlyRegs_dmsSlewAt (s : State) (n v t : Nat) : s.OnlyRegs (s.dmsSlewAt n v t) (slewFields n) := by
  simp [onlyRegs_iff, dmsSlewAt, slewFields]

theorem onlyRegs_dmsRamp (s : State) (n d : Nat) : s.OnlyRegs (s.dmsRamp n d) (rampFields n) := by
  simp [onlyRegs_iff, dmsRamp, rampFields]

theorem OnlyRegs.widen {s t : State} {fs gs : List Fld} (h : s.OnlyRegs t fs) (hsub : fs ⊆ gs) : s.OnlyRegs t gs :=
  h.mono fun _ hf => List.mem_map_of_mem (hsub hf)

theorem OnlyRegs.keeps {s t : State} {fs : List Fld} (h : s.OnlyRegs t fs) : s.KeepsFields t fs := h.2

theorem OnlyRegs.andThen {s t u : State} {fs gs : List Fld} (h : s.OnlyRegs t fs) (h' : t.OnlyRegs u gs) (hsub : gs ⊆ fs) :
    s.OnlyRegs u fs :=
  (h.trans h').widen (List.append_subset.mpr ⟨List.Subset.refl fs, hsub⟩)

/-! ### Start (R342) -/

/-- A channel about to slew to its first code: STARTING at 0 V, not forced. -/
def dmsStarted (s : State) (n code : Nat) (spare : Bool) : State :=
  (((((((s.set (F.DMS_CTRL_EN n) 1).set (F.DMS_CTRL_STATE n) unitSTARTING).set (I.DMS_TGT n) code).flag (F.DMS_STAT_FORCED n)
    false).dmsJump n 0).dmsRamp n 0).set (F.DMS_STAT_SC n) 0).flag (F.DMS_STAT_SPOK n) spare

/-- The fields of a start. -/
def startFields (n : Nat) : List Fld :=
  slewFields n ++ [F.DMS_CTRL_EN n, F.DMS_CTRL_STATE n, F.DMS_CTRL_STATUS n, I.DMS_TGT n, F.DMS_STAT_FORCED n, F.DMS_STAT_SPOK n,
    F.DMS_STAT_SC n] ++ rampFields n

theorem slewFields_subset (n : Nat) : slewFields n ⊆ startFields n := fun _ h => List.mem_append_left _ (List.mem_append_left _ h)
theorem rampFields_subset (n : Nat) : rampFields n ⊆ startFields n := List.subset_append_right _ _

theorem onlyRegs_dmsStarted (s : State) (n code : Nat) (spare : Bool) : s.OnlyRegs (s.dmsStarted n code spare) (startFields n) := by
  have hbegun : s.OnlyRegs ((((s.set (F.DMS_CTRL_EN n) 1).set (F.DMS_CTRL_STATE n) unitSTARTING).set (I.DMS_TGT n) code).flag
      (F.DMS_STAT_FORCED n) false) (startFields n) := by simp [onlyRegs_iff, startFields]
  have hramped := (hbegun.andThen (onlyRegs_dmsJump _ n 0) (slewFields_subset n)).andThen (onlyRegs_dmsRamp _ n 0) (rampFields_subset n)
  exact (hramped.thenSet (by simp [startFields]) _).thenSet (by simp [startFields]) _

theorem dmsBall_dmsStarted {s : State} {n : Nat} (hmode : s.get (F.DMS_CFG_MODE n) = 0) (code : Nat) (spare : Bool) :
    (s.dmsStarted n code spare).dmsBall n = 0 := by
  have hst : (s.dmsStarted n code spare).dmsState n = unitSTARTING := by
    simp (disch := exact id rfl) only [dmsState, dmsStarted, dmsJump, dmsRamp, flag, get_set_other, get_set_same]
    rfl
  have haudio : (s.dmsStarted n code spare).dmsAudio n = false := by
    simp (disch := exact id rfl) only [dmsAudio, on, dmsStarted, dmsJump, dmsRamp, flag, get_set_other, hmode]
    rfl
  have hstill : (s.dmsStarted n code spare).get (F.DMS_STAT_SLEWING n) = 0 := by
    simp (disch := exact id rfl) only [dmsStarted, dmsJump, dmsRamp, flag, get_set_other, get_set_same]
    rfl
  have hto : (s.dmsStarted n code spare).get (I.DMS_TO n) = 0 := by
    simp (disch := exact id rfl) only [dmsStarted, dmsJump, dmsRamp, flag, get_set_other, get_set_same]
    rfl
  rw [dmsBall, hst, if_neg (by decide), dmsStreaming, haudio, Bool.false_and, if_neg (by decide), dmsOut_still hstill, hto]

theorem dmsGoal_dmsStarted {s : State} {n : Nat} (hmode : s.get (F.DMS_CFG_MODE n) = 0) (code : Nat) (spare : Bool) :
    (s.dmsStarted n code spare).dmsGoal n = codeUv (s.get (F.DMS_SPAN_ACTIVE n)) (code % 2 ^ 24) := by
  have haudio : (s.dmsStarted n code spare).dmsAudio n = false := by
    simp (disch := exact id rfl) only [dmsAudio, on, dmsStarted, dmsJump, dmsRamp, flag, get_set_other, hmode]
    rfl
  have htgt : (s.dmsStarted n code spare).get (I.DMS_TGT n) = code % 2 ^ 24 := by
    simp (disch := exact id rfl) only [dmsStarted, dmsJump, dmsRamp, flag, get_set_other, get_set_same]
    rfl
  have hspan : (s.dmsStarted n code spare).get (F.DMS_SPAN_ACTIVE n) = s.get (F.DMS_SPAN_ACTIVE n) := by
    simp (disch := exact id rfl) only [dmsStarted, dmsJump, dmsRamp, flag, get_set_other]
  rw [dmsGoal, haudio, if_neg (by decide), htgt, hspan]

/-- A channel that is OFF, with a code written, a stage in service and no force, starts towards the code. -/
theorem dmsCtrlSet_starts {s : State} {n : Nat} (hen : s.get (F.DMS_CTRL_EN n) = 0) (hst : s.dmsState n = unitOFF)
    (hmode : s.get (F.DMS_CFG_MODE n) = 0) (hsafe : s.get (F.DMS_CFG_SAFESEL n) < 3) (hret : s.get (F.DMS_STAT_RET n) = 0)
    (hlow : s.get I.DMS_LOW = 0) (hcw : s.get (F.DMS_STAT_CW n) ≠ 0) :
    ∃ spare, s.dmsCtrlSet n 0x10 = ((s.dmsStarted n (s.get (F.DMS_CODE_C n)) spare).dmsSlewAt n
      ((s.dmsStarted n (s.get (F.DMS_CODE_C n)) spare).dmsGoal n) s.dmsNow).dmsStatus n stOK := by
  have hoff : s.on (F.DMS_CTRL_EN n) = false := by simp [on, hen]
  have hgo : s.dmsCtrlSet n 0x10 = ((s.set (F.DMS_CTRL_EN n) 1).dmsStart n s.dmsNow).dmsStatus n stOK := by
    have haudio : s.dmsAudio n = false := by simp [dmsAudio, on, hmode]
    have hret' : s.on (F.DMS_STAT_RET n) = false := by simp [on, hret]
    have hbad : ((s.dmsAudio n && decide (s.get (F.DMS_SPAN_ACTIVE n) < 2)) || decide (s.get (F.DMS_CFG_SAFESEL n) = 3)) = false := by
      simp [haudio]
      omega
    have hwant : natBit 0x10 4 = true := rfl
    simp only [dmsCtrlSet, hwant, hoff, hst, hbad, hret', Bool.true_eq_false, Bool.false_eq_true, if_false, if_true, ne_eq,
      not_true_eq_false]
  have hclr : (s.set (F.DMS_CTRL_EN n) 1).dmsClr n = false := by
    rw [dmsClr, on, get_set_other _ _ rfl, hlow]
    rfl
  have hcw' : (s.set (F.DMS_CTRL_EN n) 1).on (F.DMS_STAT_CW n) = true := by
    rw [on, get_set_other _ _ rfl]
    exact decide_eq_true hcw
  have hcode : (s.set (F.DMS_CTRL_EN n) 1).get (F.DMS_CODE_C n) = s.get (F.DMS_CODE_C n) := get_set_other _ _ rfl
  rw [hgo]
  unfold dmsStart
  dsimp only
  rw [hclr, hcw', if_pos rfl, if_neg (by decide), hcode]
  exact ⟨_, rfl⟩

theorem dmsCtrlSet_retired {s : State} {n : Nat} (hen : s.get (F.DMS_CTRL_EN n) = 0) (hst : s.dmsState n = unitOFF)
    (hmode : s.get (F.DMS_CFG_MODE n) = 0) (hsafe : s.get (F.DMS_CFG_SAFESEL n) < 3) (hret : s.get (F.DMS_STAT_RET n) ≠ 0) :
    s.dmsCtrlSet n 0x10 = s.dmsStatus n stNOSPARE := by
  have hbad : ((s.dmsAudio n && decide (s.get (F.DMS_SPAN_ACTIVE n) < 2)) || decide (s.get (F.DMS_CFG_SAFESEL n) = 3)) = false := by
    simp [dmsAudio, on, hmode]
    omega
  have hoff : s.on (F.DMS_CTRL_EN n) = false := by simp [on, hen]
  have hret' : s.on (F.DMS_STAT_RET n) = true := by simp [on, hret]
  have hwant : natBit 0x10 4 = true := rfl
  simp only [dmsCtrlSet, hwant, hoff, hst, hbad, hret', Bool.true_eq_false, Bool.false_eq_true, if_false, if_true, ne_eq,
    not_true_eq_false]

/-! ### Shutdown (R346) -/

/-- The channel as a write of EN = 0 leaves its enable. -/
def dmsDropped (s : State) (n : Nat) : State := (s.set (F.DMS_CTRL_EN n) 0).dmsStatus n stOK

theorem dmsCtrlSet_shuts {s : State} {n : Nat} (hen : s.get (F.DMS_CTRL_EN n) ≠ 0) (hst : s.dmsState n = unitON) :
    s.dmsCtrlSet n 0 = (s.dmsDropped n).dmsShut n := by
  have hon : s.on (F.DMS_CTRL_EN n) = true := by simp [on, hen]
  have hwant : natBit 0 4 = false := rfl
  simp only [dmsCtrlSet, hwant, hon, hst, Bool.false_eq_true, if_false, show ¬(unitON = unitSHUTTING ∨ unitON = unitOFF) by decide]
  rfl

theorem on_set_other (s : State) {f g : Fld} (v : Nat) (h : (g.id == f.id) = false) : (s.set f v).on g = s.on g := by
  rw [on, on, get_set_other _ _ h]

theorem dmsState_dmsDropped (s : State) (n : Nat) : (s.dmsDropped n).dmsState n = s.dmsState n := by
  rw [dmsState, dmsDropped, dmsStatus, get_set_other _ _ rfl, get_set_other _ _ rfl]
  rfl

theorem dmsStreaming_dmsDropped (s : State) (n : Nat) : (s.dmsDropped n).dmsStreaming n = s.dmsStreaming n := by
  rw [dmsStreaming, dmsStreaming, dmsState_dmsDropped]
  unfold dmsAudio dmsNow dmsDropped dmsStatus
  repeat rw [on_set_other _ _ rfl]
  repeat rw [get_set_other _ _ rfl]

theorem dmsOut_dmsDropped (s : State) (n : Nat) : (s.dmsDropped n).dmsOut n = s.dmsOut n := by
  unfold dmsOut dmsNow dmsHz tclkHz dmsDropped dmsStatus
  repeat rw [on_set_other _ _ rfl]
  repeat rw [get_set_other _ _ rfl]

theorem dmsBall_dmsDropped {s : State} {n : Nat} (h : s.dmsStreaming n = false) : (s.dmsDropped n).dmsBall n = s.dmsBall n := by
  simp only [dmsBall, dmsStreaming_dmsDropped, h, dmsOut_dmsDropped, dmsState_dmsDropped, Bool.false_eq_true, if_false]

/-- The fields of a shutdown that begins at a stream. -/
def shutFields (n : Nat) : List Fld :=
  slewFields n ++ [F.DMS_CTRL_EN n, F.DMS_CTRL_STATE n, F.DMS_CTRL_STATUS n, I.DMS_PH n, F.DMS_STAT_FORCED n, F.DMS_SPAN_PEND n] ++
    rampFields n

theorem slewFields_subset_shut (n : Nat) : slewFields n ⊆ shutFields n := fun _ h => List.mem_append_left _ (List.mem_append_left _ h)
theorem rampFields_subset_shut (n : Nat) : rampFields n ⊆ shutFields n := List.subset_append_right _ _

/-- The end of a shutdown's beginning: a held span change stands, the force does not. -/
def dmsShutMarks (s : State) (n : Nat) : State :=
  ((s.set (I.DMS_PH n) 0).set (F.DMS_STAT_FORCED n) 0).flag (F.DMS_SPAN_PEND n)
    (s.on (I.DMS_HELD n) || decide (s.get (F.DMS_SPAN_SPAN n) ≠ s.get (F.DMS_SPAN_ACTIVE n)))

theorem dmsShut_still {s : State} {n : Nat} (h : s.dmsStreaming n = false) :
    s.dmsShut n = ((s.dmsSlewTo n 0).set (F.DMS_CTRL_STATE n) unitSHUTTING).dmsShutMarks n := by
  simp only [dmsShut, h, Bool.false_eq_true, if_false]
  rfl

/-- The stream ramps out to VCMO, from where the limiter goes to 0 V. -/
def dmsRampOut (s : State) (n : Nat) : State := ((s.dmsRamp n 2).dmsJump n vcmo).set (F.DMS_CTRL_STATE n) unitSHUTTING

theorem dmsShut_stream {s : State} {n : Nat} (h : s.dmsStreaming n = true) :
    s.dmsShut n = ((s.dmsRampOut n).dmsSlewAt n 0 (s.dmsNow + 64 * (4 * s.sampleTclks))).dmsShutMarks n := by
  unfold dmsShut
  dsimp only
  rw [if_pos h]
  rfl

theorem dmsBall_dmsRampOut (s : State) (n : Nat) : (s.dmsRampOut n).dmsBall n = vcmo := by
  have hst : (s.dmsRampOut n).dmsState n = unitSHUTTING := by
    rw [dmsState, dmsRampOut, get_set_same]
    rfl
  have hstill : (s.dmsRampOut n).get (F.DMS_STAT_SLEWING n) = 0 := by
    rw [dmsRampOut, get_set_other _ _ rfl, ((s.dmsRamp n 2).get_dmsJump n vcmo).2.2.2]
  have hto : (s.dmsRampOut n).get (I.DMS_TO n) = vcmo := by
    rw [dmsRampOut, get_set_other _ _ rfl, ((s.dmsRamp n 2).get_dmsJump n vcmo).2.1]
    rfl
  have hnow : (s.dmsRampOut n).dmsNow = (s.dmsRamp n 2).dmsNow := by
    simp (disch := exact id rfl) only [dmsNow, dmsRampOut, dmsJump, get_set_other]
  have hsat : (s.dmsRampOut n).get (I.DMS_SAT n) = (s.dmsRamp n 2).dmsNow % 2 ^ 64 := by
    rw [dmsRampOut, get_set_other _ _ rfl, ((s.dmsRamp n 2).get_dmsJump n vcmo).2.2.1]
  have hpast : ¬(s.dmsRampOut n).dmsNow < (s.dmsRampOut n).get (I.DMS_SAT n) := by
    rw [hnow, hsat]
    exact Nat.not_lt.mpr (Nat.mod_le _ _)
  have hquiet : (s.dmsRampOut n).dmsStreaming n = false := by
    simp [dmsStreaming, hst, hpast, unitSHUTTING, unitON]
  rw [dmsBall, hst, if_neg (by decide), hquiet, if_neg (by decide), dmsOut_still hstill, hto]

theorem sampleTclks_dmsDropped (s : State) (n : Nat) : (s.dmsDropped n).sampleTclks = s.sampleTclks := by
  unfold sampleTclks multM dmsDropped dmsStatus
  repeat rw [get_set_other _ _ rfl]

theorem dmsNow_dmsDropped (s : State) (n : Nat) : (s.dmsDropped n).dmsNow = s.dmsNow := by
  simp (disch := exact id rfl) only [dmsNow, dmsDropped, dmsStatus, get_set_other]

theorem get_dmsShutMarks (s : State) (n : Nat) {f : Fld}
    (h : [I.DMS_PH n, F.DMS_STAT_FORCED n, F.DMS_SPAN_PEND n].any (fun g => f.id == g.id) = false) :
    (s.dmsShutMarks n).get f = s.get f := by
  simp only [List.any_cons, List.any_nil, Bool.or_eq_false_iff] at h
  obtain ⟨hph, hforced, hpend, -⟩ := h
  rw [dmsShutMarks, flag, get_set_other _ _ hpend, get_set_other _ _ hforced, get_set_other _ _ hph]

theorem onlyRegs_dmsShutMarks (s : State) (n : Nat) :
    s.OnlyRegs (s.dmsShutMarks n) [I.DMS_PH n, F.DMS_STAT_FORCED n, F.DMS_SPAN_PEND n] := by
  simp [onlyRegs_iff, dmsShutMarks]

/-! ### The events of a channel -/

theorem evCause_dms (n : Fin 16) : evCause (200 + n) = some (F.DMS_EVT_EVT n, 0x3F) := by
  revert n
  decide

theorem get_dmsCause (s : State) (n : Fin 16) {c : Nat} (hc : c < 6) :
    (s.raiseCause (200 + n) c).get (F.DMS_EVT_EVT n) / 2 ^ c % 2 = 1 := by
  rw [raiseCause, get_raiseBits_same _ _ _ (evCause_dms n), ← Nat.toNat_testBit, Nat.testBit_mod_two_pow, Nat.testBit_or,
    Nat.testBit_two_pow_self]
  simp [hc, F.DMS_EVT_EVT]

theorem get_dmsCause_other (s : State) (n : Fin 16) (c : Nat) {f : Fld} (h : (f.id == (F.DMS_EVT_EVT n).id) = false) :
    (s.raiseCause (200 + n) c).get f = s.get f := get_raiseBits_other _ _ _ (evCause_dms n) h

/-- A change with its event. -/
theorem onlyRegsEv_dmsCause {s t : State} {fs : List Fld} (h : s.OnlyRegsEv t fs) (n : Fin 16) (c : Nat) (hf : F.DMS_EVT_EVT n ∈ fs) :
    s.OnlyRegsEv (t.raiseCause (200 + n) c) fs := by
  rw [onlyRegsEv_iff] at h ⊢
  exact ⟨(rest_raiseCause _ _ _).trans h.1, (keepsFields_raiseBits _ (fun e he => by
    rw [evCause_dms] at he
    cases he
    exact hf)).mpr h.2⟩

/-! ### Codes and holds (R339) -/

theorem dmsCode_off {s : State} {n : Nat} (h : s.dmsState n = unitOFF) (code : Nat) :
    s.dmsCode n code = ((s.set (F.DMS_CODE_C n) code).set (F.DMS_STAT_CW n) 1).dmsStatus n stOK := by
  have hst : (((s.set (F.DMS_CODE_C n) code).set (F.DMS_STAT_CW n) 1).dmsStatus n stOK).dmsState n = unitOFF := by
    rw [← h]
    simp (disch := exact id rfl) only [dmsState, dmsStatus, get_set_other]
  unfold dmsCode
  dsimp only
  rw [if_pos (Or.inl hst)]

/-- A code taken as the channel's target. -/
def dmsAimed (s : State) (n code : Nat) : State :=
  (((s.set (F.DMS_CODE_C n) code).set (F.DMS_STAT_CW n) 1).dmsStatus n stOK).set (I.DMS_TGT n) code

/-- What a channel that is ON at rest does with a code: it jumps, or begins a hold. -/
theorem dmsCode_on {s : State} {n : Nat} (hst : s.dmsState n = unitON) (hforced : s.get (F.DMS_STAT_FORCED n) = 0)
    (hmode : s.get (F.DMS_CFG_MODE n) = 0) (hhold : s.get (F.DMS_STAT_HOLDING n) = 0) (hslew : s.get (F.DMS_STAT_SLEWING n) = 0)
    (code : Nat) :
    s.dmsCode n code = if max (s.get (I.DMS_TGT n)) code - min (s.get (I.DMS_TGT n)) code ≤ s.get (F.DMS_DGL_THR n) then
        (s.dmsAimed n code).dmsJump n ((s.dmsAimed n code).dmsGoal n)
      else ((s.dmsAimed n code).set (F.DMS_STAT_HOLDING n) 1).set (I.DMS_DUE n)
        (s.dmsNow + s.dmsUs (s.get (F.DMS_DGL_HOLD n) + 1)) := by
  have hforced' : s.on (F.DMS_STAT_FORCED n) = false := by simp [on, hforced]
  have hmode' : s.on (F.DMS_CFG_MODE n) = false := by simp [on, hmode]
  have hhold' : s.on (F.DMS_STAT_HOLDING n) = false := by simp [on, hhold]
  have hslew' : s.on (F.DMS_STAT_SLEWING n) = false := by simp [on, hslew]
  have hus (k : Nat) : (s.dmsAimed n code).dmsUs k = s.dmsUs k := by
    unfold dmsUs dmsHz tclkHz dmsAimed dmsStatus
    repeat rw [on_set_other _ _ rfl]
  have hnow : (s.dmsAimed n code).dmsNow = s.dmsNow := by
    unfold dmsNow dmsAimed dmsStatus
    repeat rw [get_set_other _ _ rfl]
  rw [dmsState] at hst
  unfold dmsCode dmsState dmsAudio dmsStatus
  dsimp only
  repeat rw [on_set_other _ _ rfl]
  repeat rw [get_set_other _ _ rfl]
  rw [hst, hforced', hmode', hhold', hslew', if_neg (by decide), if_neg (by decide), if_neg (by decide), if_neg (by decide),
    if_neg (by decide)]
  change (if _ then _ else ((s.dmsAimed n code).set _ 1).set _ ((s.dmsAimed n code).dmsNow + (s.dmsAimed n code).dmsUs _)) = _
  rw [hus, hnow]
  rfl

theorem onlyRegs_dmsAimed (s : State) (n code : Nat) :
    s.OnlyRegs (s.dmsAimed n code) [F.DMS_CODE_C n, F.DMS_STAT_CW n, F.DMS_CTRL_STATUS n, I.DMS_TGT n] := by
  simp [onlyRegs_iff, dmsAimed, dmsStatus]

theorem dmsGoal_dmsAimed {s : State} {n : Nat} (hmode : s.get (F.DMS_CFG_MODE n) = 0) (code : BitVec 24) :
    (s.dmsAimed n code.toNat).dmsGoal n = codeUv (s.get (F.DMS_SPAN_ACTIVE n)) code.toNat := by
  have haudio : (s.dmsAimed n code.toNat).dmsAudio n = false := by
    simp (disch := exact id rfl) only [dmsAudio, on, dmsAimed, dmsStatus, get_set_other, hmode]
    rfl
  have htgt : (s.dmsAimed n code.toNat).get (I.DMS_TGT n) = code.toNat := get_set_of_lt _ code.isLt
  have hspan : (s.dmsAimed n code.toNat).get (F.DMS_SPAN_ACTIVE n) = s.get (F.DMS_SPAN_ACTIVE n) := by
    simp (disch := exact id rfl) only [dmsAimed, dmsStatus, get_set_other]
  rw [dmsGoal, haudio, if_neg (by decide), htgt, hspan]

/-! ### What the limiter's arrival causes (R338, R342 to R344, R346) -/

theorem dmsHeldSpan_none {s : State} {n : Nat} (h : s.get (I.DMS_HELD n) = 0) (t : Nat) :
    s.dmsHeldSpan n t = (s.set (I.DMS_HELD n) 0).set (F.DMS_SPAN_PEND n) 0 := by
  simp [dmsHeldSpan, on, h]

/-- A channel at its setpoint that comes ON, with event 200 + n cause `c`, no span held. -/
def dmsArrived (s : State) (n c : Nat) : State :=
  ((((s.set (F.DMS_CTRL_STATE n) unitON).raiseCause (200 + n) c).set (I.DMS_HELD n) 0).set (F.DMS_SPAN_PEND n) 0)

theorem dmsOn_starting {s : State} {n : Fin 16} (hst : s.dmsState n = unitSTARTING) (hheld : s.get (I.DMS_HELD n) = 0) :
    s.dmsOn n = (s.dmsJump n (s.get (I.DMS_TO n))).dmsArrived n 0 := by
  have hnone : (((s.dmsJump n (s.get (I.DMS_TO n))).set (F.DMS_CTRL_STATE n) unitON).raiseCause (200 + n) 0).get (I.DMS_HELD n) = 0 := by
    rw [get_dmsCause_other _ _ _ rfl]
    simp (disch := exact id rfl) only [dmsJump, get_set_other, hheld]
  rw [dmsOn, if_pos hst, dmsHeldSpan_none hnone]
  rfl

theorem get_dmsArrived (s : State) (n : Fin 16) (c : Nat) {f : Fld}
    (h : [F.DMS_CTRL_STATE n, F.DMS_EVT_EVT n, I.DMS_HELD n, F.DMS_SPAN_PEND n].any (fun g => f.id == g.id) = false) :
    (s.dmsArrived n c).get f = s.get f := by
  simp only [List.any_cons, List.any_nil, Bool.or_eq_false_iff] at h
  obtain ⟨hst, hevt, hheld, hpend, -⟩ := h
  rw [dmsArrived, get_set_other _ _ hpend, get_set_other _ _ hheld, get_dmsCause_other _ _ _ hevt, get_set_other _ _ hst]

theorem dmsState_dmsArrived (s : State) (n : Fin 16) (c : Nat) : (s.dmsArrived n c).dmsState n = unitON := by
  rw [dmsState, dmsArrived, get_set_other _ _ rfl, get_set_other _ _ rfl, get_dmsCause_other _ _ _ rfl, get_set_same]
  rfl

theorem evt_dmsArrived (s : State) (n : Fin 16) {c : Nat} (hc : c < 6) :
    (s.dmsArrived n c).get (F.DMS_EVT_EVT n) / 2 ^ c % 2 = 1 := by
  rw [dmsArrived, get_set_other _ _ rfl, get_set_other _ _ rfl]
  exact get_dmsCause _ n hc

theorem onlyRegsEv_dmsArrived {s t : State} {fs : List Fld} (h : s.OnlyRegsEv t fs) (n : Fin 16) (c : Nat)
    (hf : [F.DMS_CTRL_STATE n, F.DMS_EVT_EVT n, I.DMS_HELD n, F.DMS_SPAN_PEND n] ⊆ fs) :
    s.OnlyRegsEv (t.dmsArrived n c) fs :=
  ((onlyRegsEv_dmsCause (h.thenSet (hf (by simp)) _) n c (hf (by simp))).thenSet (hf (by simp)) _).thenSet (hf (by simp)) _

theorem dmsSlewDone_on {s : State} {n : Nat} (hst : s.dmsState n = unitON) (h : s.get (F.DMS_STAT_SLEWING n) ≠ 0) :
    s.dmsSlewDone n = (s.dmsJump n (s.get (I.DMS_TO n))).dmsRamp n 1 := if_pos ⟨hst, decide_eq_true h⟩

/-- A channel at its code in the new span, ON again. -/
def dmsSpanStill (s : State) (n : Nat) : State :=
  (((s.dmsJump n (s.get (I.DMS_TO n))).set (F.DMS_CTRL_STATE n) unitON).set (I.DMS_PH n) 0).dmsRamp n 1

/-- The end of a span change, no other span held. -/
def dmsSpanDone (s : State) (n : Nat) : State :=
  (((s.dmsSpanStill n).raiseCause (200 + n) 2).set (I.DMS_HELD n) 0).set (F.DMS_SPAN_PEND n) 0

theorem onlyRegsEv_dmsSpanDone (s : State) (n : Fin 16) :
    s.OnlyRegsEv (s.dmsSpanDone n) (slewFields n ++ [F.DMS_CTRL_STATE n, I.DMS_PH n, F.DMS_EVT_EVT n, I.DMS_HELD n,
      F.DMS_SPAN_PEND n] ++ rampFields n) := by
  have hjump := (onlyRegs_dmsJump s n (s.get (I.DMS_TO n))).widen (gs := slewFields n ++ [F.DMS_CTRL_STATE n, I.DMS_PH n,
    F.DMS_EVT_EVT n, I.DMS_HELD n, F.DMS_SPAN_PEND n] ++ rampFields n) (fun _ h => List.mem_append_left _ (List.mem_append_left _ h))
  have hon := ((hjump.thenSet (f := F.DMS_CTRL_STATE n) (by simp) unitON).thenSet (f := I.DMS_PH n) (by simp) 0).andThen
    (onlyRegs_dmsRamp _ n 1) (List.subset_append_right _ _)
  exact ((onlyRegsEv_dmsCause hon.ev n 2 (by simp)).thenSet (by simp) _).thenSet (by simp) _

theorem dmsSlewDone_span {s : State} {n : Fin 16} (hst : s.dmsState n = dmsSPANCHG) (hph : s.get (I.DMS_PH n) = 4)
    (hheld : s.get (I.DMS_HELD n) = 0) :
    s.dmsSlewDone n = s.dmsSpanDone n := by
  have hnone : ((s.dmsSpanStill n).raiseCause (200 + n) 2).get (I.DMS_HELD n) = 0 := by
    rw [get_dmsCause_other _ _ _ rfl]
    simp (disch := exact id rfl) only [dmsSpanStill, dmsJump, dmsRamp, get_set_other, hheld]
  unfold dmsSlewDone
  dsimp only
  rw [hst, if_neg (fun h => absurd h.1 (by decide)), if_pos ⟨rfl, hph⟩]
  exact dmsHeldSpan_none hnone _

/-- A channel that is OFF again at 0 V. -/
def dmsEnded (s : State) (n : Nat) : State :=
  ((((s.dmsJump n 0).dmsSpanOff n).raiseCause (200 + n) 1).set (F.DMS_CTRL_STATE n) unitOFF).set (F.DMS_STAT_SC n) 0

theorem dmsOff_shutting {s : State} {n : Fin 16} (hst : s.dmsState n = unitSHUTTING) (hen : s.get (F.DMS_CTRL_EN n) = 0) :
    s.dmsOff n = s.dmsEnded n := by
  have hoff : (((s.dmsJump n 0).dmsSpanOff n).raiseCause (200 + n) 1).on (F.DMS_CTRL_EN n) = false := by
    rw [on, get_dmsCause_other _ _ _ rfl]
    simp (disch := exact id rfl) only [dmsSpanOff, dmsJump, get_set_other, hen]
    rfl
  unfold dmsOff
  dsimp only
  rw [if_pos hst, hoff, if_neg (by decide)]
  rfl

theorem get_dmsEnded (s : State) (n : Fin 16) :
    (s.dmsEnded n).dmsState n = unitOFF ∧ (s.dmsEnded n).dmsOut n = 0 ∧ (s.dmsEnded n).get (F.DMS_EVT_EVT n) / 2 ^ 1 % 2 = 1 ∧
    (s.dmsEnded n).get (F.DMS_SPAN_ACTIVE n) = s.get (F.DMS_SPAN_SPAN n) % 4 := by
  have hkeep {f : Fld} (h : [F.DMS_CTRL_STATE n, F.DMS_EVT_EVT n, F.DMS_STAT_SC n].any (fun g => f.id == g.id) = false) :
      (s.dmsEnded n).get f = ((s.dmsJump n 0).dmsSpanOff n).get f := by
    simp only [List.any_cons, List.any_nil, Bool.or_eq_false_iff] at h
    obtain ⟨hst, hevt, hsc, -⟩ := h
    rw [dmsEnded, get_set_other _ _ hsc, get_set_other _ _ hst, get_dmsCause_other _ _ _ hevt]
  have hstill : (s.dmsEnded n).get (F.DMS_STAT_SLEWING n) = 0 := by
    rw [hkeep rfl]
    simp (disch := exact id rfl) only [dmsSpanOff, dmsJump, get_set_other, get_set_same]
    rfl
  refine ⟨?_, ?_, ?_, ?_⟩
  · rw [dmsState, dmsEnded, get_set_other _ _ rfl, get_set_same]
    rfl
  · rw [dmsOut_still hstill, hkeep rfl]
    simp (disch := exact id rfl) only [dmsSpanOff, dmsJump, get_set_other, get_set_same]
    rfl
  · rw [dmsEnded, get_set_other _ _ rfl, get_set_other _ _ rfl]
    exact get_dmsCause _ n (by decide)
  · rw [hkeep rfl]
    simp (disch := exact id rfl) only [dmsSpanOff, dmsJump, get_set_other, get_set_same]
    rfl

/-! ### Spans (R344) -/

/-- The fields of a span change's beginning. -/
def spanFields (n : Nat) : List Fld :=
  slewFields n ++ [F.DMS_SPAN_SPAN n, F.DMS_CTRL_STATUS n, F.DMS_CTRL_STATE n, I.DMS_PH n, I.DMS_NSPAN n, I.DMS_HELD n,
    F.DMS_SPAN_PEND n]

/-- The span written, its status OK. -/
def dmsSpanWritten (s : State) (n sp : Nat) : State := (s.set (F.DMS_SPAN_SPAN n) sp).dmsStatus n stOK

theorem dmsSpanSet_eq {s : State} {n : Nat} {sp : Fin 4} (h : s.get (F.DMS_CFG_MODE n) = 0 ∨ 2 ≤ sp.val)
    (hst : s.dmsState n = unitOFF ∨ s.dmsState n = unitON) :
    s.dmsSpanSet n sp =
      if s.dmsState n = unitOFF then (s.dmsSpanWritten n sp).set (F.DMS_SPAN_ACTIVE n) sp
      else if sp.val = s.get (F.DMS_SPAN_ACTIVE n) then s.dmsSpanWritten n sp else (s.dmsSpanWritten n sp).dmsSpanBegin n sp s.dmsNow := by
  have hsp : sp.val % 4 = sp.val := Nat.mod_eq_of_lt sp.isLt
  have hbad : (s.dmsAudio n && decide (sp.val < 2)) = false := by
    rcases h with h | h
    · simp [dmsAudio, on, h]
    · rw [decide_eq_false (by omega), Bool.and_false]
  have hactive : (s.dmsSpanWritten n sp).get (F.DMS_SPAN_ACTIVE n) = s.get (F.DMS_SPAN_ACTIVE n) := by
    simp (disch := exact id rfl) only [dmsSpanWritten, dmsStatus, get_set_other]
  have hnow : (s.dmsSpanWritten n sp).dmsNow = s.dmsNow := by
    simp (disch := exact id rfl) only [dmsNow, dmsSpanWritten, dmsStatus, get_set_other]
  unfold dmsSpanSet
  dsimp only
  rw [hsp, hbad, if_neg (by decide)]
  rcases hst with hst | hst
  · rw [hst, if_pos rfl, if_pos rfl]
    rfl
  · rw [hst, if_neg (by decide), if_neg (by decide), if_pos rfl, if_neg (show unitON ≠ unitOFF by decide)]
    change (if sp.val = (s.dmsSpanWritten n sp).get _ then _ else (s.dmsSpanWritten n sp).dmsSpanBegin n sp (s.dmsSpanWritten n sp).dmsNow) = _
    rw [hactive, hnow]
    rfl

theorem dmsSafe_dmsSpanWritten (s : State) (n sp x : Nat) : (s.dmsSpanWritten n sp).dmsSafe n x = s.dmsSafe n x := by
  unfold dmsSafe dmsSpanWritten dmsStatus
  repeat rw [get_set_other _ _ rfl]

theorem dmsSafeReached_eq {s : State} {n : Nat} (hst : s.dmsState n = dmsSPANCHG) (hph : s.get (I.DMS_PH n) = 1) :
    s.dmsSafeReached n = ((s.dmsJump n (s.get (I.DMS_TO n))).set (I.DMS_PH n) 2).set (I.DMS_DUE n) (s.dmsArrives n + s.dmsUs 50) :=
  if_pos ⟨hst, hph⟩

theorem dmsSwitch_eq {s : State} {n : Nat} (hst : s.dmsState n = dmsSPANCHG) (hph : s.get (I.DMS_PH n) = 2) :
    s.dmsSwitch n = ((s.set (F.DMS_SPAN_ACTIVE n) (s.get (I.DMS_NSPAN n))).set (I.DMS_PH n) 3).set (I.DMS_DUE n)
      (s.get (I.DMS_DUE n) + s.dmsUs 50) := if_pos ⟨hst, hph⟩

theorem dmsSettled_eq {s : State} {n : Nat} (hst : s.dmsState n = dmsSPANCHG) (hph : s.get (I.DMS_PH n) = 3) :
    s.dmsSettled n = (s.set (I.DMS_PH n) 4).dmsSlewAt n (s.dmsGoal n) (s.get (I.DMS_DUE n)) := if_pos ⟨hst, hph⟩

theorem dmsBall_set {s : State} {n : Nat} {f : Fld} (v : Nat)
    (h : s.dmsStreaming n = false)
    (hf : [F.DMS_CTRL_STATE n, F.DMS_CFG_MODE n, F.DMS_STAT_FORCED n, F.DMS_STAT_SLEWING n, I.PCLK, I.DMS_SAT n, I.DMS_FROM n,
      I.DMS_TO n, F.DMS_SLEW_SLEWT n, I.RATE_F].all (fun g => !(g.id == f.id)) = true) :
    (s.set f v).dmsBall n = s.dmsBall n := by
  simp only [List.all_cons, List.all_nil, Bool.and_eq_true, Bool.not_eq_true'] at hf
  obtain ⟨hst, hmode, hforced, hslew, hnow, hsat, hfrom, hto, hslewt, hrate, -⟩ := hf
  have hstream : (s.set f v).dmsStreaming n = s.dmsStreaming n := by
    unfold dmsStreaming dmsAudio dmsState dmsNow
    rw [on_set_other _ _ hmode, on_set_other _ _ hforced, on_set_other _ _ hslew, get_set_other _ _ hst, get_set_other _ _ hnow,
      get_set_other _ _ hsat]
  have hout : (s.set f v).dmsOut n = s.dmsOut n := by
    unfold dmsOut dmsNow dmsHz tclkHz
    rw [on_set_other _ _ hslew, on_set_other _ _ hrate, get_set_other _ _ hfrom, get_set_other _ _ hto, get_set_other _ _ hslewt,
      get_set_other _ _ hnow, get_set_other _ _ hsat]
  have hstate : (s.set f v).dmsState n = s.dmsState n := get_set_other _ _ hst
  rw [dmsBall, dmsBall, hstream, hout, hstate]
  simp only [h, Bool.false_eq_true, if_false]

/-! ### Stages and shorts (R347, R350) -/

theorem dmsStageSwap_eq {s : State} {n : Nat} (h : s.get (I.DMS_SWAP n) ≠ 0) :
    s.dmsStageSwap n = (((s.set (I.DMS_SWAP n) 0).set (F.DMS_STAT_STAGE n) (1 - s.get (F.DMS_STAT_STAGE n))).set
      (F.DMS_STAT_SPOK n) 0).raiseCause (200 + n) 4 := if_pos (decide_eq_true h)

theorem dmsShort_eq {s : State} {n : Nat} (hst : s.dmsState n ≠ unitOFF) (hstandby : s.standby = false)
    (hsc : s.get (F.DMS_STAT_SC n) = 0) : s.dmsShort n = (s.set (F.DMS_STAT_SC n) 1).raiseCause (200 + n) 3 := by
  simp [dmsShort, hst, hstandby, on, hsc]

/-- A channel let go by its short at voltage `v`: the limiter goes from there. -/
def dmsLetGo (s : State) (n v : Nat) : State :=
  ((({ s.set (F.DMS_STAT_SC n) 0 with free := s.free + 1 } : State).dmsJump n v).set (F.DMS_STAT_SLEWING n) 1)

theorem dmsUnshort_eq {s : State} {n : Nat} (h : s.get (F.DMS_STAT_SC n) ≠ 0) :
    ∃ v < 3000001, s.dmsUnshort n = (s.dmsLetGo n v).dmsSlewTo n (s.get (I.DMS_TO n)) :=
  ⟨_, Nat.mod_lt _ (by decide), if_pos (decide_eq_true h)⟩

theorem get_free (s : State) (k : Nat) (f : Fld) : ({ s with free := k } : State).get f = s.get f := rfl

/-- The ball is where the short left it, and at 0 V if the stage is disabled. -/
theorem dmsBall_dmsLetGo (s : State) (n : Nat) {v : Nat} (hv : v < 2 ^ 22) :
    (s.dmsLetGo n v).dmsBall n < 2 ^ 22 := by
  have hfrom : (s.dmsLetGo n v).get (I.DMS_FROM n) = v := by
    rw [dmsLetGo, get_set_other _ _ rfl, (get_dmsJump _ n v).1, Nat.mod_eq_of_lt hv]
  have hto : (s.dmsLetGo n v).get (I.DMS_TO n) = v := by
    rw [dmsLetGo, get_set_other _ _ rfl, (get_dmsJump _ n v).2.1, Nat.mod_eq_of_lt hv]
  have hpast : ¬(s.dmsLetGo n v).dmsNow < (s.dmsLetGo n v).get (I.DMS_SAT n) := by
    have hsat : (s.dmsLetGo n v).get (I.DMS_SAT n) = s.dmsNow % 2 ^ 64 := by
      rw [dmsLetGo, get_set_other _ _ rfl, (get_dmsJump _ n v).2.2.1]
      simp (disch := exact id rfl) only [dmsNow, get_free, get_set_other]
    have hnow : (s.dmsLetGo n v).dmsNow = s.dmsNow := by
      simp (disch := exact id rfl) only [dmsNow, dmsLetGo, dmsJump, get_free, get_set_other]
    rw [hsat, hnow]
    exact Nat.not_lt.mpr (Nat.mod_le _ _)
  have hslew : (s.dmsLetGo n v).on (F.DMS_STAT_SLEWING n) = true := by
    rw [on, dmsLetGo, get_set_same]
    rfl
  have hquiet : (s.dmsLetGo n v).dmsStreaming n = false := by
    simp [dmsStreaming, hslew, hpast]
  have hout : (s.dmsLetGo n v).dmsOut n ≤ v := by
    unfold dmsOut
    dsimp only
    rw [hslew, if_neg (by decide), hfrom, hto, if_pos le_rfl]
    exact min_le_left _ _
  rw [dmsBall, hquiet, if_neg Bool.false_ne_true]
  split
  · decide
  · exact hout.trans_lt hv

theorem get_dmsLetGo (s : State) (n v : Nat) {f : Fld} (h : (F.DMS_STAT_SC n :: slewFields n).any (fun g => f.id == g.id) = false) :
    (s.dmsLetGo n v).get f = s.get f := by
  simp only [slewFields, List.any_cons, List.any_nil, Bool.or_eq_false_iff] at h
  obtain ⟨hsc, hfrom, hto, hsat, hslew, -⟩ := h
  rw [dmsLetGo, dmsJump, get_set_other _ _ hslew, get_set_other _ _ hslew, get_set_other _ _ hsat, get_set_other _ _ hto,
    get_set_other _ _ hfrom, get_free, get_set_other _ _ hsc]

theorem keepsFields_dmsLetGo (s : State) (n v : Nat) : s.KeepsFields (s.dmsLetGo n v) (F.DMS_STAT_SC n :: slewFields n) := by
  have hsc : s.KeepsFields ({ s.set (F.DMS_STAT_SC n) 0 with free := s.free + 1 } : State) (F.DMS_STAT_SC n :: slewFields n) :=
    (keepsFields_set List.mem_cons_self 0).mpr (.refl _ _)
  exact (keepsFields_set (by simp [slewFields]) _).mpr (hsc.trans ((onlyRegs_dmsJump _ n v).keeps.mono (List.subset_cons_self _ _)))

theorem dmsUnshort_completes {s : State} {n : Nat} (hsc : s.get (F.DMS_STAT_SC n) ≠ 0) :
    ∃ t, (.next (s.dmsUnshort n) : Out) = .next t ∧ t.get (F.DMS_STAT_SC n) = 0 ∧
      t.get (F.DMS_STAT_SLEWING n) = (if t.get (I.DMS_FROM n) = s.get (I.DMS_TO n) then 0 else 1) ∧
      t.get (I.DMS_TO n) = s.get (I.DMS_TO n) % 2 ^ 22 ∧ t = { s with regs := t.regs, free := s.free + 1 } ∧
      s.KeepsFields t (F.DMS_STAT_SC n :: slewFields n) := by
  obtain ⟨v, hv, hgo⟩ := dmsUnshort_eq hsc
  have hball := s.dmsBall_dmsLetGo n (hv.trans (by decide))
  obtain ⟨hfrom, hto, -, hslew, -⟩ := get_dmsSlewAt (s.dmsLetGo n v) n (s.get (I.DMS_TO n)) (s.dmsLetGo n v).dmsNow
  rw [Nat.mod_eq_of_lt hball] at hfrom
  have hclear : (s.dmsLetGo n v).get (F.DMS_STAT_SC n) = 0 := by
    simp (disch := exact id rfl) only [dmsLetGo, dmsJump, get_set_other, get_free, get_set_same]
    rfl
  refine ⟨_, next_of_eq hgo, ((onlyRegs_dmsSlewAt _ n _ _).keeps.get_other rfl).trans hclear, hslew.trans ?_, hto, ?_, ?_⟩
  · rw [dmsSlewTo, hfrom]
  · have hrest := (onlyRegs_dmsSlewAt (s.dmsLetGo n v) n (s.get (I.DMS_TO n)) (s.dmsLetGo n v).dmsNow).1
    exact hrest
  · exact (s.keepsFields_dmsLetGo n v).trans ((onlyRegs_dmsSlewAt _ n _ _).keeps.mono (List.subset_cons_self _ _))

/-! ### `DACCLR#` (R343) -/

/-- The fields of one channel that a level of `DACCLR#` writes. -/
def clrFields (n : Nat) : List Fld := [F.DMS_STAT_FORCED n, I.DMS_TGT n] ++ slewFields n ++ rampFields n

theorem slewFields_subset_clr (n : Nat) : slewFields n ⊆ clrFields n := fun _ h => List.mem_append_left _ (List.mem_append_right _ h)

theorem onlyRegs_dmsRetarget (s : State) (n code : Nat) : s.OnlyRegs (s.dmsRetarget n code) (clrFields n) := by
  have htgt : s.OnlyRegs (s.set (I.DMS_TGT n) code) (clrFields n) := (OnlyRegs.set _ _ _).widen (by simp [clrFields])
  unfold dmsRetarget
  dsimp only
  split
  · exact htgt
  · exact htgt.andThen (onlyRegs_dmsSlewAt _ n _ _) (slewFields_subset_clr n)

theorem onlyRegs_dmsForce (s : State) (n : Nat) : s.OnlyRegs (s.dmsForce n) (clrFields n) := by
  unfold dmsForce
  dsimp only
  split
  · exact .refl _ _
  · exact ((s.onlyRegs_dmsRetarget n _).thenSet (by simp [clrFields]) _).andThen (onlyRegs_dmsRamp _ n 1) (List.subset_append_right _ _)

/-- A force on another channel leaves this one alone. -/
theorem get_dmsForce_ne (s : State) {j k : Nat} (hjk : j ≠ k) {f : Fld} (hf : f.ix = k) : (s.dmsForce j).get f = s.get f := by
  refine (s.onlyRegs_dmsForce j).2 f fun hmem => ?_
  obtain ⟨g, hg, he⟩ := List.mem_map.mp hmem
  have hix : g.ix = j := by
    simp only [clrFields, slewFields, rampFields, List.mem_append, List.mem_cons, List.not_mem_nil, or_false] at hg
    rcases hg with ((rfl | rfl) | rfl | rfl | rfl | rfl | rfl) | rfl | rfl <;> rfl
  exact hjk (hix.symm.trans ((congrArg Prod.snd he).trans hf))

theorem get_dmsForce_kept (s : State) (j : Nat) {f : Fld} (h : clrNames.all (fun g => !(g.id == f.id)) = true) :
    (s.dmsForce j).get f = s.get f := (onlyNames_dmsForce s j).get h

/-- A channel that is ON, and not as the level wants it, is forced or let go. -/
theorem dmsForce_turns {s : State} {n : Nat} (hst : s.dmsState n = unitON) {b : Bool} (hclr : s.dmsClr n = b)
    (h : s.on (F.DMS_STAT_FORCED n) = !b) :
    (s.dmsForce n).get (F.DMS_STAT_FORCED n) = b2n b ∧
    (s.dmsForce n).get (I.DMS_TGT n) = (if b then s.get (F.DMS_CLRCODE_C n) else s.get (F.DMS_CODE_C n)) % 2 ^ 24 := by
  have hgo : s.dmsForce n = ((s.dmsRetarget n (if b then s.get (F.DMS_CLRCODE_C n) else s.get (F.DMS_CODE_C n))).flag
      (F.DMS_STAT_FORCED n) b).dmsRamp n 1 := by
    unfold dmsForce
    dsimp only
    rw [hst, hclr, h, if_neg (by cases b <;> decide)]
  have htgt (code : Nat) : (s.dmsRetarget n code).get (I.DMS_TGT n) = code % 2 ^ 24 := by
    unfold dmsRetarget
    dsimp only
    split
    · exact get_set_same _ _ _
    · simp (disch := exact id rfl) only [dmsSlewTo, dmsSlewAt, flag, get_set_other, get_set_same]
      rfl
  rw [hgo]
  constructor
  · simp (disch := exact id rfl) only [dmsRamp, flag, get_set_other, get_set_same]
    cases b <;> rfl
  · simp (disch := exact id rfl) only [dmsRamp, flag, get_set_other, htgt]

/-- The channel is as a level has left it. -/
def ClrTurned (n : Nat) (b : Bool) (code : Nat) (t : State) : Prop :=
  t.get (F.DMS_STAT_FORCED n) = b2n b ∧ t.get (I.DMS_TGT n) = code % 2 ^ 24

/-- The channel's part of the state while the level goes through the channels: as it was, but for the force itself. -/
def ClrTurning (s : State) (n : Nat) (b : Bool) (code : Nat) (t : State) : Prop :=
  (∀ f ∈ [F.DMS_CTRL_STATE n, F.DMS_SLEW_CLR_EN n, F.DMS_CLRCODE_C n, F.DMS_CODE_C n, I.DMS_LOW], t.get f = s.get f) ∧
  (t.on (F.DMS_STAT_FORCED n) = (!b) ∨ ClrTurned n b code t)

section
variable {s t : State} {n : Nat} {b : Bool} {code : Nat}

/-- The force of a channel that is not yet turned turns it. -/
theorem ClrTurning.turn (h : ClrTurning s n b code t) (hst : s.dmsState n = unitON) (hclr : s.dmsClr n = b)
    (hcode : code = if b then s.get (F.DMS_CLRCODE_C n) else s.get (F.DMS_CODE_C n)) : ClrTurned n b code (t.dmsForce n) := by
  obtain ⟨hkept, hforced⟩ := h
  have hst' : t.dmsState n = unitON := (hkept _ (by simp)).trans hst
  have hclr' : t.dmsClr n = b := by
    rw [← hclr, dmsClr, dmsClr, on, on, on, on, hkept I.DMS_LOW (by simp), hkept (F.DMS_SLEW_CLR_EN n) (by simp)]
  have hcode' : code = if b then t.get (F.DMS_CLRCODE_C n) else t.get (F.DMS_CODE_C n) := by
    rw [hkept (F.DMS_CLRCODE_C n) (by simp), hkept (F.DMS_CODE_C n) (by simp), hcode]
  rcases hforced with hforced | hturned
  · rw [hcode']
    exact dmsForce_turns hst' hclr' hforced
  · have hon : t.on (F.DMS_STAT_FORCED n) = t.dmsClr n := by
      rw [on, hturned.1, hclr']
      cases b <;> rfl
    have hself : t.dmsForce n = t := if_pos (Or.inr (Or.inr hon))
    rwa [hself]

theorem ClrTurned.other {j : Nat} (hj : j ≠ n) (h : ClrTurned n b code t) : ClrTurned n b code (t.dmsForce j) :=
  ⟨(get_dmsForce_ne t hj rfl).trans h.1, (get_dmsForce_ne t hj rfl).trans h.2⟩

theorem ClrTurning.force (h : ClrTurning s n b code t) (hst : s.dmsState n = unitON) (hclr : s.dmsClr n = b)
    (hcode : code = if b then s.get (F.DMS_CLRCODE_C n) else s.get (F.DMS_CODE_C n)) (j : Nat) :
    ClrTurning s n b code (t.dmsForce j) := by
  refine ⟨fun f hf => Eq.trans ?_ (h.1 f hf), ?_⟩
  · simp only [List.mem_cons, List.not_mem_nil, or_false] at hf
    rcases hf with rfl | rfl | rfl | rfl | rfl
    case inr.inr.inr.inr => exact t.low_dmsForce j
    all_goals exact get_dmsForce_kept t j rfl
  · by_cases hj : j = n
    · exact .inr (hj ▸ h.turn hst hclr hcode)
    · exact h.2.imp (fun hf => by rwa [on, get_dmsForce_ne t hj rfl]) (ClrTurned.other hj)

end

/-- A level of `DACCLR#` turns each channel that is ON and not yet as it wants. -/
theorem dmsClrLevel_turns {s : State} {k : Nat} (hk : k < 16) (hst : s.dmsState k = unitON) {high b : Bool}
    (hclr : (!high && s.on (F.DMS_SLEW_CLR_EN k)) = b) (h : s.on (F.DMS_STAT_FORCED k) = !b) :
    ClrTurned k b (if b then s.get (F.DMS_CLRCODE_C k) else s.get (F.DMS_CODE_C k)) (s.dmsClrLevel high) := by
  have hkeep {f : Fld} (hlow : (f.id == I.DMS_LOW.id) = false) (hlevel : (f.id == F.DMS_GSTAT_CLRLVL.id) = false) :
      ((s.flag I.DMS_LOW (!high)).flag F.DMS_GSTAT_CLRLVL high).get f = s.get f := by
    rw [flag, flag, get_set_other _ _ hlevel, get_set_other _ _ hlow]
  have hst' : ((s.flag I.DMS_LOW (!high)).flag F.DMS_GSTAT_CLRLVL high).dmsState k = unitON := (hkeep rfl rfl).trans hst
  have hclr' : ((s.flag I.DMS_LOW (!high)).flag F.DMS_GSTAT_CLRLVL high).dmsClr k = b := by
    rw [← hclr, dmsClr, on, on, hkeep (f := F.DMS_SLEW_CLR_EN k) rfl rfl, flag, get_set_other _ _ rfl, flag, get_set_same]
    cases high <;> rfl
  have hcode : (if b then s.get (F.DMS_CLRCODE_C k) else s.get (F.DMS_CODE_C k)) =
      if b then ((s.flag I.DMS_LOW (!high)).flag F.DMS_GSTAT_CLRLVL high).get (F.DMS_CLRCODE_C k)
      else ((s.flag I.DMS_LOW (!high)).flag F.DMS_GSTAT_CLRLVL high).get (F.DMS_CODE_C k) := by
    rw [hkeep rfl rfl, hkeep rfl rfl]
  have hstart : ClrTurning ((s.flag I.DMS_LOW (!high)).flag F.DMS_GSTAT_CLRLVL high) k b
      (if b then s.get (F.DMS_CLRCODE_C k) else s.get (F.DMS_CODE_C k)) ((s.flag I.DMS_LOW (!high)).flag F.DMS_GSTAT_CLRLVL high) :=
    ⟨fun _ _ => rfl, .inl (by rwa [on, hkeep rfl rfl])⟩
  exact foldl_reaches (P := ClrTurning _ k b _) (Q := ClrTurned k b _) (List.mem_range.mpr hk)
    (fun t j ht => ht.force hst' hclr' hcode j) (fun t ht => ht.turn hst' hclr' hcode) (fun t j hj _ ht => ht.other hj) hstart

/-- What a level of `DACCLR#` changes, whatever it forces. -/
theorem frame_dmsClrLevel (s : State) (high : Bool) :
    ((s.flag I.DMS_OUTER (!high)).dmsClrLevel high) = { s with regs := ((s.flag I.DMS_OUTER (!high)).dmsClrLevel high).regs } ∧
    s.KeepsNames ((s.flag I.DMS_OUTER (!high)).dmsClrLevel high) clrNames := by
  have hnames : s.OnlyNames ((s.flag I.DMS_OUTER (!high)).dmsClrLevel high) clrNames :=
    (onlyNames_flag rfl _).trans (onlyNames_dmsClrLevel _ _)
  have hdeliver : ((s.flag I.DMS_OUTER (!high)).dmsClrLevel high).toDeliver = s.toDeliver :=
    toDeliver_foldl _ (fun t n => (onlyRegs_iff.mp (t.onlyRegs_dmsForce n)).1.2) _
  exact ⟨eq_of_rest_toDeliver hnames.1 hdeliver, hnames.2⟩

theorem clrlvl_dmsClrLevel (s : State) (high : Bool) : (s.dmsClrLevel high).get F.DMS_GSTAT_CLRLVL = b2n high := by
  refine (get_foldl_keep _ (fun t n _ => (t.onlyRegs_dmsForce n).keeps.get_other rfl) _).trans ?_
  rw [flag, get_set_same]
  cases high <;> rfl

/-- A ball that the link does not drive has no drive with it, whatever the registers are. -/
theorem driven_none {s t : State} {b : Ball} (h : s.driven b = none) (hdrives : t.svc.drives = s.svc.drives) : t.driven b = none := by
  unfold driven at h ⊢
  rw [hdrives]
  cases hfind : s.svc.drives.find? (fun d => decide (d.1 = b)) with
  | none => rfl
  | some d =>
    obtain ⟨ball, level⟩ := d
    rw [hfind] at h
    cases level <;> cases h

/-- A level of `DACCLR#` that the board changes, no drive of the link on the ball. -/
theorem dacclrOutside_turn {s : State} (hnone : s.driven ballDACCLR = none) {high : Bool} (hlow : s.on I.DMS_LOW = high) :
    s.dacclrOutside high = (s.flag I.DMS_OUTER (!high)).dmsClrLevel high := by
  have hlevel : (s.flag I.DMS_OUTER (!high)).dacclrLow = !high := by
    have hdriven : (s.flag I.DMS_OUTER (!high)).driven ballDACCLR = none := driven_none hnone rfl
    rw [dacclrLow, hdriven]
    dsimp only
    rw [on, flag, get_set_same]
    cases high <;> rfl
  have hkept : (s.flag I.DMS_OUTER (!high)).on I.DMS_LOW = high := by rw [on, flag, get_set_other _ _ rfl, ← hlow, on]
  rw [dacclrOutside, dacclrRefresh_eq, hlevel, hkept, if_neg (by cases high <;> decide), Bool.not_not]

end State


open State in
/-- Settles O41, command by command: each step of a channel is the chain of writes that its lemma gives. -/
theorem damsonCommandsComplete : Obligations.DamsonCommandsComplete := by
  unfold Obligations.DamsonCommandsComplete
  intro s m n
  refine ⟨?_, ?_, ?_, ?_, ?_, ?_, ?_, ?_, ?_, ?_, ?_, ?_, ?_, ?_, ?_, ?_, ?_, ?_, ?_, ?_, ?_, ?_⟩
  · intro hperf hen hst hmode hsafe hret hlow hcw
    obtain ⟨spare, hgo⟩ := dmsCtrlSet_starts hen hst hmode hsafe hret hlow hcw
    rw [dmsGoal_dmsStarted hmode] at hgo
    obtain ⟨hfrom, hto, -, hslew, -⟩ := get_dmsSlewAt (s.dmsStarted n (s.get (F.DMS_CODE_C n)) spare) n
      (codeUv (s.get (F.DMS_SPAN_ACTIVE n)) (s.get (F.DMS_CODE_C n) % 2 ^ 24)) s.dmsNow
    rw [dmsBall_dmsStarted hmode] at hfrom hslew
    refine ⟨_, next_of_write hperf hgo, ?_, ?_, get_set_of_lt _ (by decide : stOK < 2 ^ 8), (get_set_other _ _ rfl).trans hfrom,
      (get_set_other _ _ rfl).trans hto, (get_set_other _ _ rfl).trans (hslew.trans ?_), ?_⟩
    · simp (disch := exact id rfl) only [dmsStatus, dmsSlewAt, dmsStarted, dmsJump, dmsRamp, flag, get_set_other, get_set_same]
      rfl
    · simp (disch := exact id rfl) only [dmsState, dmsStatus, dmsSlewAt, dmsStarted, dmsJump, dmsRamp, flag, get_set_other,
        get_set_same]
      rfl
    · simp only [eq_comm]
    · exact ((s.onlyRegs_dmsStarted n _ _).andThen (onlyRegs_dmsSlewAt _ n _ _) (slewFields_subset n)).thenSet (by simp [startFields]) _
  · intro hperf hen hst hsafe hmode hret
    exact ⟨_, next_of_write hperf (dmsCtrlSet_retired hen hst hmode hsafe hret), get_set_of_lt _ (by decide : stNOSPARE < 2 ^ 8),
      .set _ _ _⟩
  · intro hperf hen hst hquiet
    have hgo := (dmsCtrlSet_shuts hen hst).trans (dmsShut_still ((s.dmsStreaming_dmsDropped n).trans hquiet))
    obtain ⟨hfrom, hto, -⟩ := (s.dmsDropped n).get_dmsSlewAt n 0 (s.dmsDropped n).dmsNow
    rw [dmsBall_dmsDropped hquiet] at hfrom
    refine ⟨_, next_of_write hperf hgo, ?_, ?_, ?_, ?_, ?_, ?_, ?_⟩
    · simp (disch := exact id rfl) only [dmsShutMarks, dmsSlewTo, dmsSlewAt, dmsDropped, dmsStatus, flag, get_set_other, get_set_same]
      rfl
    · rw [dmsState, get_dmsShutMarks _ _ rfl, get_set_same]
      rfl
    · simp (disch := exact id rfl) only [dmsShutMarks, dmsSlewTo, dmsSlewAt, dmsDropped, dmsStatus, flag, get_set_other, get_set_same]
      rfl
    · rw [get_dmsShutMarks _ _ rfl, get_set_other _ _ rfl]
      exact hfrom
    · rw [get_dmsShutMarks _ _ rfl, get_set_other _ _ rfl]
      exact hto
    · simp (disch := exact id rfl) only [dmsShutMarks, flag, get_set_other, get_set_same]
      rfl
    · simp [onlyRegs_iff, dmsShutMarks, dmsSlewTo, dmsSlewAt, dmsDropped, dmsStatus, slewFields]
  · intro hperf hen hst hstream
    have hgo := (dmsCtrlSet_shuts hen hst).trans (dmsShut_stream ((s.dmsStreaming_dmsDropped n).trans hstream))
    obtain ⟨hfrom, hto, hsat, -⟩ := ((s.dmsDropped n).dmsRampOut n).get_dmsSlewAt n 0
      ((s.dmsDropped n).dmsNow + 64 * (4 * (s.dmsDropped n).sampleTclks))
    rw [dmsBall_dmsRampOut] at hfrom
    rw [dmsNow_dmsDropped, sampleTclks_dmsDropped] at hsat
    refine ⟨_, next_of_write hperf hgo, (get_dmsShutMarks _ _ rfl).trans ?_, (get_dmsShutMarks _ _ rfl).trans ?_,
      (get_dmsShutMarks _ _ rfl).trans ?_, (get_dmsShutMarks _ _ rfl).trans ?_, (get_dmsShutMarks _ _ rfl).trans hfrom,
      (get_dmsShutMarks _ _ rfl).trans hto, ?_, ?_⟩
    · simp (disch := exact id rfl) only [dmsSlewAt, dmsRampOut, dmsJump, dmsRamp, dmsDropped, dmsStatus, flag, get_set_other,
        get_set_same]
      rfl
    · simp (disch := exact id rfl) only [dmsSlewAt, dmsRampOut, flag, get_set_other, get_set_same]
      rfl
    · simp (disch := exact id rfl) only [dmsSlewAt, dmsRampOut, dmsJump, dmsRamp, flag, get_set_other, get_set_same]
      rfl
    · simp (disch := exact id rfl) only [dmsSlewAt, dmsRampOut, dmsJump, dmsRamp, flag, get_set_other, get_set_same]
      rfl
    · rw [dmsNow_dmsDropped, sampleTclks_dmsDropped, get_dmsShutMarks _ _ rfl]
      exact hsat
    · have hdropped : s.OnlyRegs (s.dmsDropped n) (shutFields n) := by simp [onlyRegs_iff, dmsDropped, dmsStatus, shutFields]
      have hout := ((hdropped.andThen (onlyRegs_dmsRamp _ n 2) (rampFields_subset_shut n)).andThen (onlyRegs_dmsJump _ n vcmo)
        (slewFields_subset_shut n)).thenSet (f := F.DMS_CTRL_STATE n) (by simp [shutFields]) unitSHUTTING
      exact (hout.andThen (onlyRegs_dmsSlewAt ((s.dmsDropped n).dmsRampOut n) n 0 _) (slewFields_subset_shut n)).andThen
        (onlyRegs_dmsShutMarks _ n) (by simp [shutFields])
  · intro hdue hst hheld
    have hgo : s.dmsAtArrival n (fun s => s.dmsOn n) = _ := (if_pos hdue).trans (dmsOn_starting hst hheld)
    refine ⟨_, next_of_eq hgo, dmsState_dmsArrived _ n 0, ?_, (get_dmsArrived _ n 0 rfl).trans (get_dmsJump s n _).2.2.2,
      onlyRegsEv_dmsArrived ((onlyRegs_dmsJump s n _).widen (List.subset_append_left _ _)).ev n 0 (List.subset_append_right _ _)⟩
    simpa using evt_dmsArrived (s.dmsJump n (s.get (I.DMS_TO n))) n (by decide : 0 < 6)
  · intro hdue hst hen
    have hgo : s.dmsAtArrival n (fun s => s.dmsOff n) = _ := (if_pos hdue).trans (dmsOff_shutting hst hen)
    obtain ⟨hst', hout, hevt, hspan⟩ := get_dmsEnded s n
    refine ⟨_, next_of_eq hgo, hst', hout, hevt, hspan, ?_⟩
    have hlow := ((onlyRegs_dmsJump s n 0).widen (List.subset_append_left _ [F.DMS_CTRL_STATE n, F.DMS_EVT_EVT n,
      F.DMS_SPAN_ACTIVE n, F.DMS_SPAN_PEND n, I.DMS_HELD n, F.DMS_STAT_SC n]))
    have hspanned := ((hlow.thenSet (f := F.DMS_SPAN_ACTIVE n) (by simp) ((s.dmsJump n 0).get (F.DMS_SPAN_SPAN n))).thenSet (f := F.DMS_SPAN_PEND n) (by simp) 0).thenSet
      (f := I.DMS_HELD n) (by simp) 0
    exact ((onlyRegsEv_dmsCause hspanned.ev n 1 (by simp)).thenSet (by simp) _).thenSet (by simp) _
  · intro code hperf hst
    refine ⟨_, next_of_write hperf (dmsCode_off hst code.toNat), ?_, ?_, get_set_of_lt _ (by decide : stOK < 2 ^ 8), ?_⟩
    · rw [dmsStatus, get_set_other _ _ rfl, get_set_other _ _ rfl]
      exact get_set_of_lt _ code.isLt
    · rw [dmsStatus, get_set_other _ _ rfl, get_set_same]
      rfl
    · simp [onlyRegs_iff, dmsStatus]
  · intro code hperf hst hforced hmode hhold hslew hthr
    have hgo := dmsCode_on hst hforced hmode hhold hslew code.toNat
    rw [if_pos hthr, dmsGoal_dmsAimed hmode] at hgo
    obtain ⟨-, hto, -, hstill⟩ := get_dmsJump (s.dmsAimed n code.toNat) n (codeUv (s.get (F.DMS_SPAN_ACTIVE n)) code.toNat)
    refine ⟨_, next_of_write hperf hgo, (dmsOut_still hstill).trans hto, ?_, ?_⟩
    · simp (disch := exact id rfl) only [dmsJump, dmsAimed, dmsStatus, get_set_other, get_set_same]
      rfl
    · exact ((((onlyRegs_dmsAimed s n code.toNat).widen (List.subset_append_left _ [I.DMS_FROM n, I.DMS_TO n, I.DMS_SAT n,
        F.DMS_STAT_SLEWING n])).thenSet (by simp) _).thenSet (by simp) _ |>.thenSet (by simp) _).thenSet (by simp) _
  · intro code hperf hst hforced hmode hhold hslew hthr
    have hgo := dmsCode_on hst hforced hmode hhold hslew code.toNat
    rw [if_neg (Nat.not_le.mpr hthr)] at hgo
    refine ⟨_, next_of_write hperf hgo, ?_, ?_, get_set_same _ _ _, ?_⟩
    · rw [get_set_other _ _ rfl, get_set_same]
      rfl
    · rw [dmsOut_still hslew, dmsOut_still] <;>
        simp (disch := exact id rfl) only [dmsAimed, dmsStatus, get_set_other, hslew]
    · exact (((onlyRegs_dmsAimed s n code.toNat).widen (List.subset_append_left _ [F.DMS_STAT_HOLDING n, I.DMS_DUE n])).thenSet
        (by simp) _).thenSet (by simp) _
  · intro hdue hhold
    have hgo : s.dmsAtDue n (fun s => s.dmsHoldEnd n) = _ := (if_pos hdue).trans (if_pos (decide_eq_true hhold))
    obtain ⟨hfrom, hto, hsat, hslew, hhold'⟩ := get_dmsSlewAt s n (s.dmsGoal n) (s.get (I.DMS_DUE n))
    exact ⟨_, next_of_eq hgo, hhold', hslew, hsat, hfrom, hto, onlyRegs_dmsSlewAt _ _ _ _⟩
  · intro hdue hst hslew
    have hgo : s.dmsAtArrival n (fun s => s.dmsSlewDone n) = _ := (if_pos hdue).trans (dmsSlewDone_on hst hslew)
    have hstill : ((s.dmsJump n (s.get (I.DMS_TO n))).dmsRamp n 1).get (F.DMS_STAT_SLEWING n) = 0 := by
      simp (disch := exact id rfl) only [dmsRamp, dmsJump, get_set_other, get_set_same]
      rfl
    refine ⟨_, next_of_eq hgo, hstill, (dmsOut_still hstill).trans ?_, ?_, ?_, ?_⟩
    · simp (disch := exact id rfl) only [dmsRamp, dmsJump, get_set_other, get_set_same]
      rfl
    · simp (disch := exact id rfl) only [dmsRamp, get_set_other, get_set_same]
      rfl
    · exact get_set_same _ _ _
    · exact (onlyRegs_dmsJump s n _).trans (onlyRegs_dmsRamp _ n 1)
  · intro hdue hst hph hheld
    have hgo : s.dmsAtArrival n (fun s => s.dmsSlewDone n) = _ := (if_pos hdue).trans (dmsSlewDone_span hst hph hheld)
    have hkeep {f : Fld} (h : [F.DMS_EVT_EVT n, I.DMS_HELD n, F.DMS_SPAN_PEND n].any (fun g => f.id == g.id) = false) :
        (s.dmsSpanDone n).get f = (s.dmsSpanStill n).get f := by
      simp only [List.any_cons, List.any_nil, Bool.or_eq_false_iff] at h
      obtain ⟨hevt, hheld, hpend, -⟩ := h
      rw [dmsSpanDone, get_set_other _ _ hpend, get_set_other _ _ hheld, get_dmsCause_other _ _ _ hevt]
    have hstill : (s.dmsSpanDone n).get (F.DMS_STAT_SLEWING n) = 0 := by
      rw [hkeep rfl]
      simp (disch := exact id rfl) only [dmsSpanStill, dmsRamp, dmsJump, get_set_other, get_set_same]
      rfl
    refine ⟨_, next_of_eq hgo, (hkeep rfl).trans ?_, ?_, (dmsOut_still hstill).trans ((hkeep rfl).trans ?_), (hkeep rfl).trans ?_, ?_⟩
    · simp (disch := exact id rfl) only [dmsSpanStill, dmsRamp, get_set_other, get_set_same]
      rfl
    · rw [dmsSpanDone, get_set_other _ _ rfl, get_set_other _ _ rfl]
      exact get_dmsCause _ n (by decide : 2 < 6)
    · simp (disch := exact id rfl) only [dmsSpanStill, dmsRamp, dmsJump, get_set_other, get_set_same]
      rfl
    · simp (disch := exact id rfl) only [dmsSpanStill, dmsRamp, get_set_other, get_set_same]
      rfl
    · exact s.onlyRegsEv_dmsSpanDone n
  · intro sp hperf hst hmode
    have hgo := dmsSpanSet_eq (sp := sp) hmode (.inl hst)
    rw [if_pos hst] at hgo
    refine ⟨_, next_of_write hperf hgo, ?_, get_set_of_lt _ sp.isLt, ?_, ?_⟩
    · rw [get_set_other _ _ rfl, dmsSpanWritten, dmsStatus, get_set_other _ _ rfl]
      exact get_set_of_lt _ sp.isLt
    · simp (disch := exact id rfl) only [dmsSpanWritten, dmsStatus, get_set_other, get_set_same]
      rfl
    · simp [onlyRegs_iff, dmsSpanWritten, dmsStatus]
  · intro sp hperf hst hne hmode
    have hgo := dmsSpanSet_eq (sp := sp) hmode (.inr hst)
    rw [hst, if_neg (by decide), if_neg hne] at hgo
    refine ⟨_, next_of_write hperf hgo, ?_, ?_, ?_, ?_, ?_⟩
    · simp (disch := exact id rfl) only [dmsState, dmsSpanBegin, get_set_other, get_set_same]
      rfl
    · simp (disch := exact id rfl) only [dmsSpanBegin, get_set_same]
      rfl
    · simp (disch := exact id rfl) only [dmsSpanBegin, dmsSlewAt, flag, dmsSafe_dmsSpanWritten, get_set_other, get_set_same]
      rfl
    · simp (disch := exact id rfl) only [dmsSpanBegin, dmsSlewAt, flag, dmsSpanWritten, dmsStatus, get_set_other]
    · have hwritten : s.OnlyRegs (s.dmsSpanWritten n sp) (spanFields n) := by simp [onlyRegs_iff, dmsSpanWritten, dmsStatus, spanFields]
      have hslew := hwritten.andThen (onlyRegs_dmsSlewAt _ n ((s.dmsSpanWritten n sp).dmsSafe n sp) s.dmsNow) (List.subset_append_left _ _)
      exact ((((hslew.thenSet (by simp [spanFields]) _).thenSet (by simp [spanFields]) _).thenSet (by simp [spanFields]) _).thenSet
        (by simp [spanFields]) _).thenSet (by simp [spanFields]) _
  · intro hdue hst hph
    have hgo : s.dmsAtArrival n (fun s => s.dmsSafeReached n) = _ := (if_pos hdue).trans (dmsSafeReached_eq hst hph)
    obtain ⟨-, hto, -, hslew⟩ := get_dmsJump s n (s.get (I.DMS_TO n))
    refine ⟨_, next_of_eq hgo, ?_, ?_, get_set_same _ _ _, ?_⟩
    · rw [get_set_other _ _ rfl, get_set_same]
      rfl
    · rw [dmsOut_still] <;> rw [get_set_other _ _ rfl, get_set_other _ _ rfl]
      · exact hto
      · exact hslew
    · exact (((onlyRegs_dmsJump s n _).widen (gs := I.DMS_PH n :: I.DMS_DUE n :: slewFields n) (by simp)).thenSet (by simp) _).thenSet
        (by simp) _
  · intro hdue hst hph
    have hgo : s.dmsAtDue n (fun s => s.dmsSwitch n) = _ := (if_pos hdue).trans (dmsSwitch_eq hst hph)
    refine ⟨_, next_of_eq hgo, ?_, ?_, get_set_same _ _ _, ?_⟩
    · rw [get_set_other _ _ rfl, get_set_other _ _ rfl, get_set_same]
      rfl
    · rw [get_set_other _ _ rfl, get_set_same]
      rfl
    · exact ((OnlyRegs.set s (F.DMS_SPAN_ACTIVE n) _).widen (by simp)).thenSet (by simp) _ |>.thenSet (by simp) _
  · intro hdue hst hph
    have hgo : s.dmsAtDue n (fun s => s.dmsSettled n) = _ := (if_pos hdue).trans (dmsSettled_eq hst hph)
    have hquiet : s.dmsStreaming n = false := by simp [dmsStreaming, hst, dmsSPANCHG, unitON, unitSHUTTING]
    obtain ⟨-, hto, -, hslew, -⟩ := get_dmsSlewAt (s.set (I.DMS_PH n) 4) n (s.dmsGoal n) (s.get (I.DMS_DUE n))
    rw [dmsBall_set 4 hquiet rfl] at hslew
    refine ⟨_, next_of_eq hgo, ?_, hslew, hto, ?_⟩
    · simp (disch := exact id rfl) only [dmsSlewAt, flag, get_set_other, get_set_same]
      rfl
    · exact ((OnlyRegs.set s (I.DMS_PH n) 4).widen (by simp)).andThen (onlyRegs_dmsSlewAt _ n _ _) (by simp)
  · intro hswap
    refine ⟨_, next_of_eq (dmsStageSwap_eq hswap), ?_, ?_, get_dmsCause _ n (by decide : 4 < 6), ?_⟩
    · rw [get_dmsCause_other _ _ _ rfl, get_set_other _ _ rfl, get_set_same]
      rfl
    · rw [get_dmsCause_other _ _ _ rfl, get_set_same]
      rfl
    · exact onlyRegsEv_dmsCause (by simp [onlyRegsEv_iff]) n 4 (by simp)
  · intro hst hstandby hsc
    refine ⟨_, next_of_eq (dmsShort_eq hst hstandby hsc), ?_, get_dmsCause _ n (by decide : 3 < 6), ?_⟩
    · rw [get_dmsCause_other _ _ _ rfl, get_set_same]
      rfl
    · exact onlyRegsEv_dmsCause (by simp [onlyRegsEv_iff]) n 3 (by simp)
  · exact fun hsc => dmsUnshort_completes hsc
  · intro hnone hlow
    obtain ⟨hrest, hnames⟩ := s.frame_dmsClrLevel false
    refine ⟨_, next_of_eq (dacclrOutside_turn hnone (by simp [on, hlow])), low_dmsClrLevel _ _, clrlvl_dmsClrLevel _ _,
      fun k hclr hst hforced => ?_, hrest, hnames⟩
    have hturned := dmsClrLevel_turns (s := s.flag I.DMS_OUTER true) (high := false) (b := true) k.isLt
      ((get_set_other _ _ rfl).trans hst) (by rw [flag, on_set_other _ _ rfl]; simp [on, hclr])
      (by rw [flag, on_set_other _ _ rfl]; simp [on, hforced])
    exact ⟨hturned.1, hturned.2.trans (congrArg (· % 2 ^ 24) (get_set_other _ _ rfl))⟩
  · intro hnone hlow
    obtain ⟨hrest, hnames⟩ := s.frame_dmsClrLevel true
    refine ⟨_, next_of_eq (dacclrOutside_turn hnone (by simp [on, hlow])), low_dmsClrLevel _ _, clrlvl_dmsClrLevel _ _,
      fun k hst hforced => ?_, hrest, hnames⟩
    have hturned := dmsClrLevel_turns (s := s.flag I.DMS_OUTER false) (high := true) (b := false) k.isLt
      ((get_set_other _ _ rfl).trans hst) rfl (by rw [flag, on_set_other _ _ rfl]; simp [on, hforced])
    exact ⟨hturned.1, hturned.2.trans (congrArg (· % 2 ^ 24) (get_set_other _ _ rfl))⟩

end Sys2Proof.Machine
end

section
/-! Rind's commands in recovery (R447, R448), and what a boot keeps beside (R474, R477). -/

namespace Sys2Proof.Machine

namespace State

/-! ### What no step of the boot changes -/

/-- The register places that no step of the boot writes. -/
def bootKept : List Nat :=
  [F.SYS_RSTCAUSE_SRST.id, F.SYS_RSTCAUSE_WARM.id, F.SYS_RSTCAUSE_BOOT.id, F.SYS_ENGINE_STATE.id, (F.MDL_MAP_PHYS 0).id]

/-- From `s` to `t` a step of the boot: Quince, the voice manager, the memories and the listed places stand. -/
def Booting (s t : State) : Prop :=
  (t.frc = s.frc ∧ t.mems = s.mems ∧ t.pending = s.pending ∧ t.qn = s.qn ∧ t.vm = s.vm ∧ t.svc.drives = s.svc.drives) ∧
  ∀ f : Fld, bootKept.contains f.id = true → t.get f = s.get f

theorem Booting.refl (s : State) : s.Booting s := ⟨⟨rfl, rfl, rfl, rfl, rfl, rfl⟩, fun _ _ => rfl⟩

theorem Booting.trans {s t u : State} (h : s.Booting t) (k : t.Booting u) : s.Booting u := by
  obtain ⟨⟨hfrc, hmems, hpend, hqn, hvm, hdrives⟩, hget⟩ := h
  obtain ⟨⟨kfrc, kmems, kpend, kqn, kvm, kdrives⟩, kget⟩ := k
  exact ⟨⟨kfrc.trans hfrc, kmems.trans hmems, kpend.trans hpend, kqn.trans hqn, kvm.trans hvm, kdrives.trans hdrives⟩,
    fun f hf => (kget f hf).trans (hget f hf)⟩

/-- An operation within other register places. -/
theorem booting_of_restFree {s t : State} (h : t.restFree = s.restFree)
    (hget : ∀ f : Fld, bootKept.contains f.id = true → t.get f = s.get f) : s.Booting t := by
  have hfrc := congrArg (fun z : State => z.frc) h
  have hmems := congrArg (fun z : State => z.mems) h
  have hpend := congrArg (fun z : State => z.pending) h
  have hqn := congrArg (fun z : State => z.qn) h
  have hvm := congrArg (fun z : State => z.vm) h
  have hdrives := congrArg (fun z : State => z.svc.drives) h
  exact ⟨⟨hfrc, hmems, hpend, hqn, hvm, hdrives⟩, hget⟩

theorem booting_set {s : State} {f : Fld} (h : bootKept.contains f.id = false) (v : Nat) : s.Booting (s.set f v) :=
  booting_of_restFree rfl fun g hg => get_set_ne s v fun e => by
    rw [show g.id = f.id from congrArg Prod.fst e, h] at hg
    cases hg

theorem booting_flag {s : State} {f : Fld} (h : bootKept.contains f.id = false) (b : Bool) : s.Booting (s.flag f b) := booting_set h _

theorem booting_keeps {s t : State} {fs : List Fld} (h : s.OnlyRegsFree t fs)
    (hfs : fs.all (fun f => !bootKept.contains f.id) = true) : s.Booting t := by
  obtain ⟨hrest, hkeeps⟩ := onlyRegsFree_iff.mp h
  refine booting_of_restFree hrest fun f hf => hkeeps f fun hmem => ?_
  obtain ⟨g, hg, he⟩ := List.mem_map.mp hmem
  have hid : g.id = f.id := congrArg Prod.fst he
  have hout := List.all_eq_true.mp hfs g hg
  rw [hid, hf] at hout
  cases hout

theorem booting_say (s : State) (l : String) : s.Booting (s.say l) := ⟨⟨rfl, rfl, rfl, rfl, rfl, rfl⟩, fun _ _ => rfl⟩
theorem booting_setFlash (s : State) (f : Flash) : s.Booting (s.setFlash f) := ⟨⟨rfl, rfl, rfl, rfl, rfl, rfl⟩, fun _ _ => rfl⟩

theorem booting_foldl {α : Type} {g : State → α → State} (l : List α) (h : ∀ (t : State) (x : α), x ∈ l → t.Booting (g t x))
    (s : State) : s.Booting (l.foldl g s) := by
  induction l generalizing s with
  | nil => exact .refl s
  | cons x l ih => exact (h s x List.mem_cons_self).trans (ih (fun t y hy => h t y (List.mem_cons_of_mem _ hy)) _)

theorem booting_puts {fs : List Fld} (h : fs.all (fun f => !bootKept.contains f.id) = true) (s : State) (w : Nat) :
    s.Booting (s.puts fs w) :=
  booting_foldl fs (fun t f hf => booting_set (by simpa using List.all_eq_true.mp h f hf) _) s

/-- A write of a plain register whose fields are none of the kept ones. -/
theorem booting_regStore {addr : Nat} (h : (regFields addr).all (fun l => l.all (fun e => !bootKept.contains e.2.id)) = true)
    (s : State) (w : Nat) : s.Booting (s.regStore addr w) := by
  cases hl : regFields addr with
  | none =>
    have hrow : findReg addr regTable = none := Option.map_eq_none_iff.mp hl
    rw [regStore, hrow]
    exact .refl s
  | some l =>
    rw [regStore_eq hl]
    refine booting_foldl l (fun t e he => ?_) s
    rw [hl] at h
    have hout : bootKept.contains e.2.id = false := by simpa using List.all_eq_true.mp h e he
    unfold storeField
    split
    · exact booting_set hout _
    · exact booting_set hout _
    · exact booting_set hout _
    all_goals exact .refl t

/-! ### Damson's part -/

theorem booting_dmsJump (s : State) (n v : Nat) : s.Booting (s.dmsJump n v) :=
  (((booting_set rfl _).trans (booting_set rfl _)).trans (booting_set rfl _)).trans (booting_set rfl _)

theorem booting_dmsRamp (s : State) (n d : Nat) : s.Booting (s.dmsRamp n d) := (booting_set rfl _).trans (booting_set rfl _)

theorem booting_dmsSlewAt (s : State) (n v t : Nat) : s.Booting (s.dmsSlewAt n v t) :=
  ((((booting_set rfl _).trans (booting_set rfl _)).trans (booting_set rfl _)).trans (booting_flag rfl _)).trans (booting_set rfl _)

theorem booting_dmsStart (s : State) (n t : Nat) : s.Booting (s.dmsStart n t) :=
  (((((((booting_set rfl _).trans (booting_set rfl _)).trans (booting_flag rfl _)).trans (booting_dmsJump _ n 0)).trans
    (booting_dmsRamp _ n 0)).trans (booting_set rfl _)).trans (booting_flag rfl _)).trans (booting_dmsSlewAt _ n _ t)

theorem booting_dmsShut (s : State) (n : Nat) : s.Booting (s.dmsShut n) := by
  unfold dmsShut
  dsimp only
  refine Booting.trans ?_ (((booting_set rfl _).trans (booting_set rfl _)).trans (booting_flag rfl _))
  split
  · exact (((booting_dmsRamp s n 2).trans (booting_dmsJump _ n vcmo)).trans (booting_set rfl _)).trans (booting_dmsSlewAt _ n 0 _)
  · exact (booting_dmsSlewAt s n 0 _).trans (booting_set rfl _)

theorem booting_dmsCtrlSet (s : State) (n w : Nat) : s.Booting (s.dmsCtrlSet n w) := by
  have hstatus (t : State) (v : Nat) : t.Booting (t.dmsStatus n v) := booting_set rfl _
  have hen (v : Nat) : s.Booting (s.set (F.DMS_CTRL_EN n) v) := booting_set rfl _
  unfold dmsCtrlSet
  dsimp only
  split
  · exact hstatus _ _
  · split
    · split
      · exact (hen 1).trans (hstatus _ _)
      · split
        · exact hstatus _ _
        · split
          · exact hstatus _ _
          · exact ((hen 1).trans (booting_dmsStart _ n _)).trans (hstatus _ _)
    · split
      · exact (hen 0).trans (hstatus _ _)
      · exact ((hen 0).trans (hstatus _ _)).trans (booting_dmsShut _ n)

theorem booting_dmsRetarget (s : State) (n c : Nat) : s.Booting (s.dmsRetarget n c) := by
  unfold dmsRetarget
  dsimp only
  split
  · exact booting_set rfl _
  · exact (booting_set rfl _).trans (booting_dmsSlewAt _ n _ _)

theorem booting_dmsForce (s : State) (n : Nat) : s.Booting (s.dmsForce n) := by
  unfold dmsForce
  dsimp only
  split
  · exact .refl s
  · exact ((booting_dmsRetarget s n _).trans (booting_flag rfl _)).trans (booting_dmsRamp _ n 1)

theorem booting_dmsSpanBegin (s : State) (n sp t : Nat) : s.Booting (s.dmsSpanBegin n sp t) :=
  (((((booting_dmsSlewAt s n _ t).trans (booting_set rfl _)).trans (booting_set rfl _)).trans (booting_set rfl _)).trans
    (booting_set rfl _)).trans (booting_set rfl _)

theorem booting_dmsSpanSet (s : State) (n w : Nat) : s.Booting (s.dmsSpanSet n w) := by
  have hstatus (t : State) (v : Nat) : t.Booting (t.dmsStatus n v) := booting_set rfl _
  have hspan (t : State) (v : Nat) : t.Booting (t.set (F.DMS_SPAN_SPAN n) v) := booting_set rfl _
  have hhold (t : State) : t.Booting ((t.set (I.DMS_HELD n) 1).set (F.DMS_SPAN_PEND n) 1) := (booting_set rfl _).trans (booting_set rfl _)
  unfold dmsSpanSet
  dsimp only
  split
  · exact hstatus _ _
  · refine ((hspan s (w % 4)).trans (hstatus _ stOK)).trans ?_
    split
    · exact booting_set rfl _
    · split
      · exact hhold _
      · split
        · split
          · exact .refl _
          · exact booting_dmsSpanBegin _ _ _ _
        · split
          · split
            · exact booting_set rfl _
            · exact ((booting_set rfl _).trans (booting_set rfl _)).trans (booting_dmsSlewAt _ n _ _)
          · exact hhold _

/-- The registers of a channel that the BOOT record writes. -/
theorem bootDamson_registers : ∀ n : Fin 16, ∀ o ∈ [0x04, 0x1C, 0x18, 0x10, 0x14],
    (regFields (dmsAddr n o)).all (fun l => l.all (fun e => !bootKept.contains e.2.id)) = true := by decide +kernel

theorem booting_dmsPlain (s : State) (n : Fin 16) {o : Nat} (ho : o ∈ [0x04, 0x1C, 0x18, 0x10, 0x14]) (w : Nat) :
    s.Booting (s.dmsPlain n o w) := by
  have hstatus (t : State) (v : Nat) : t.Booting (t.dmsStatus n v) := booting_set rfl _
  have hstore : s.Booting (s.plainStore (dmsAddr n o) w (fun s => s.dmsStatus n stOK)) := by
    unfold plainStore
    split
    · exact (booting_regStore (bootDamson_registers n o ho) s w).trans (hstatus _ _)
    · exact .refl s
  unfold dmsPlain
  dsimp only
  split
  · exact hstatus _ _
  · have hmoved (u : State) (x y : Nat) (c : Prop) [Decidable c] :
        u.Booting (if c then (u.set (I.DMS_FROM n) x).set (I.DMS_SAT n) y else u) := by
      split
      · exact (booting_set rfl _).trans (booting_set rfl _)
      · exact .refl u
    have hpart := hstore.trans (hmoved _ (s.dmsOut n) (s.plainStore (dmsAddr n o) w (fun s => s.dmsStatus n stOK)).dmsNow
      (o = 0x1C ∧ (s.plainStore (dmsAddr n o) w (fun s => s.dmsStatus n stOK)).get (I.DMS_SAT n) ≤
        (s.plainStore (dmsAddr n o) w (fun s => s.dmsStatus n stOK)).dmsNow))
    have hforced (u : State) : u.Booting (if o = 0x1C then u.dmsForce n
        else if o = 0x10 ∧ u.on (F.DMS_STAT_FORCED n) then u.dmsRetarget n (u.get (F.DMS_CLRCODE_C n)) else u) := by
      split
      · exact booting_dmsForce _ n
      · split
        · exact booting_dmsRetarget _ n _
        · exact .refl _
    exact hpart.trans (hforced _)

theorem booting_bootDamson (s : State) (body : List Byte) (n : Fin 16) : s.Booting (s.bootDamson body n) :=
  ((((((booting_dmsPlain s n (o := 0x04) (by simp) _).trans (booting_dmsSpanSet _ n _)).trans
    (booting_dmsPlain _ n (o := 0x1C) (by simp) _)).trans (booting_dmsPlain _ n (o := 0x18) (by simp) _)).trans
    (booting_dmsPlain _ n (o := 0x10) (by simp) _)).trans (booting_dmsPlain _ n (o := 0x14) (by simp) _)).trans
    (booting_dmsCtrlSet _ n _)

/-! ### The clock unit's and the memory controller's part -/

theorem booting_enterAcquire (s : State) : s.Booting s.enterAcquire := booting_keeps (onlyRegsFree_enterAcquire s) (by decide)

theorem booting_reselect (s : State) : s.Booting s.reselect := by
  unfold reselect
  split
  · exact booting_keeps (onlyRegsFree_selectRef s _) (by decide)
  · exact (booting_keeps (onlyRegsFree_holdOver s) (by decide)).trans (booting_set rfl _)

theorem booting_refTake (s : State) (i : Nat) : s.Booting (s.refTake i) :=
  ((booting_set rfl _).trans (booting_set rfl _)).trans (booting_set rfl _)

theorem booting_clkStatus (s : State) (v : Nat) : s.Booting (s.clkStatus v) := booting_set rfl _

theorem booting_refpriSet (s : State) (i w : Nat) : s.Booting (s.refpriSet i w) := by
  have hput : s.Booting ((s.puts [F.CLK_REFPRI_EN i, F.CLK_REFPRI_KIND i, F.CLK_REFPRI_INST i, F.CLK_REFPRI_NOM i] w).clkStatus stOK) :=
    (booting_puts rfl s w).trans (booting_clkStatus _ _)
  unfold refpriSet
  dsimp only
  split
  · exact booting_clkStatus _ _
  · split
    · exact ((hput.trans (booting_refTake _ i)).trans (booting_set rfl _)).trans (booting_reselect _)
    · exact hput

theorem booting_clkCtrlSet (s : State) (w : Nat) : s.Booting (s.clkCtrlSet w) := by
  have hput : s.Booting (s.puts [F.CLK_CTRL_REVERT, F.CLK_CTRL_BW, F.CLK_CTRL_REVERT_T, F.CLK_CTRL_HOLDOVER_MAX] w) := booting_puts rfl s w
  unfold clkCtrlSet
  dsimp only
  split
  · split
    · exact (hput.trans (booting_enterAcquire _)).trans (booting_clkStatus _ _)
    · exact booting_clkStatus _ _
  · exact hput.trans (booting_clkStatus _ _)

theorem booting_dmcCfgSet (s : State) (w : Nat) : s.Booting (s.dmcCfgSet w) := by
  unfold dmcCfgSet
  split
  · exact booting_set rfl _
  · exact (booting_puts rfl s w).trans (booting_set rfl _)

theorem booting_dmcSet (s : State) (w : Nat) : s.Booting (s.dmcSet w) := by
  have hen (v : Nat) : s.Booting (s.set F.DMC_CTRL_EN v) := booting_set rfl _
  refine Booting.trans ?_ (booting_set (f := F.DMC_STAT_STATUS) rfl stOK)
  unfold enableWrite
  split
  · exact .refl s
  · split
    · split
      · exact (hen 1).trans (booting_set rfl _)
      · exact hen 1
    · split
      · exact ((hen 0).trans (booting_set rfl _)).trans (booting_set rfl _)
      · exact hen 0

/-! ### The boot -/

theorem booting_enterRecovery (s : State) : s.Booting s.enterRecovery :=
  ((((booting_set rfl _).trans (booting_set rfl _)).trans (booting_set rfl _)).trans (booting_set rfl _)).trans (booting_say _ _)

theorem booting_selectSlot (s : State) : s.Booting s.selectSlot := by
  have hchosen (f : Flash) (k : Nat) (trial booted : Bool) : s.Booting
      (if booted then ((((s.setFlash f).set I.BOOT_SLOT k).flag I.BOOT_TRIAL trial).set I.BOOT_DIG 0).set I.FB_PEND 1
        else (((s.setFlash f).set I.BOOT_SLOT k).flag I.BOOT_TRIAL trial).set I.BOOT_DIG 0) := by
    have hset : s.Booting ((((s.setFlash f).set I.BOOT_SLOT k).flag I.BOOT_TRIAL trial).set I.BOOT_DIG 0) :=
      (((booting_setFlash s f).trans (booting_set rfl _)).trans (booting_flag rfl _)).trans (booting_set rfl _)
    split
    · exact hset.trans (booting_set rfl _)
    · exact hset
  unfold selectSlot
  dsimp only
  split
  · exact (hchosen _ _ _ _).trans (booting_enterRecovery _)
  · exact hchosen _ _ _ _

theorem booting_dmsOff (s : State) : s.Booting ((List.range 16).foldl (fun s n => s.dmsCtrlSet n 0) s) :=
  booting_foldl _ (fun t n _ => booting_dmsCtrlSet t n 0) s

theorem ownerRegister : (regFields 0x40060).all (fun l => l.all (fun e => !bootKept.contains e.2.id)) = true := by decide +kernel

theorem booting_bootRecord (s : State) : s.Booting s.bootRecord := by
  unfold bootRecord
  dsimp only
  have hown (k : Nat) (v : Nat → Nat) : s.Booting ((List.range 32).foldl (fun t i => t.set (I.OWN_DIG i) (v i)) (s.set I.SET_COPY k)) :=
    (booting_set rfl k).trans (booting_foldl _ (fun t i _ => booting_set rfl _) _)
  split
  · exact (hown _ _).trans (booting_dmsOff _)
  · have hdms (body : List Byte) (t : State) : t.Booting ((List.range 16).foldl (fun s n => s.bootDamson body n) t) :=
      booting_foldl _ (fun t n hn => booting_bootDamson t body ⟨n, List.mem_range.mp hn⟩) t
    have hclk (v : Nat → Nat) (t : State) : t.Booting ((List.range 5).foldl (fun s i => s.refpriSet i (v i)) t) :=
      booting_foldl _ (fun t i _ => booting_refpriSet t i _) t
    exact (((((hown _ _).trans (hdms _ _)).trans (hclk _ _)).trans (booting_clkCtrlSet _ _)).trans (booting_dmcCfgSet _ _)).trans
      (booting_regStore ownerRegister _ _)

theorem booting_bootSteps (s : State) : s.Booting s.bootSteps := by
  unfold bootSteps
  dsimp only
  refine (booting_selectSlot s).trans ?_
  split
  · exact booting_dmsOff _
  · exact (((booting_bootRecord _).trans (booting_set rfl _)).trans (booting_set rfl _)).trans (booting_dmcSet _ _)

/-- The release of reset: the straps recorded, and the boot. -/
theorem release_boots (s : State) (boot : Nat) : (s.set F.SYS_RSTCAUSE_BOOT boot).Booting (s.release boot) := by
  unfold release
  dsimp only
  refine (((booting_flag (f := F.SYS_RSTCAUSE_BADSTRAP) rfl (decide (boot = 3))).trans
    (booting_flag (f := F.SYS_RSTCAUSE_SAFE) rfl (decide (boot = 2)))).trans
    (booting_set (f := I.RSTOUT_B) rfl 1)).trans ?_
  split
  · exact (booting_enterRecovery _).trans (booting_dmsOff _)
  · exact booting_bootSteps _

theorem booting_syncSpares (s : State) : s.Booting s.syncSpares :=
  (((booting_set rfl _).trans (booting_set rfl _)).trans (booting_set rfl _)).trans (booting_set rfl _)

/-! ### A warm reset -/

theorem tabGet_filter_gone {d : Nat} {key : Key} {p : Key × Nat → Bool} (l : Regs) (h : ∀ e ∈ l, e.1 = key → p e = false) :
    tabGet d (l.filter p) key = d := by
  induction l with
  | nil => rfl
  | cons e l ih =>
    obtain ⟨k, v⟩ := e
    have ih := ih fun e he => h e (List.mem_cons_of_mem _ he)
    by_cases hp : p (k, v) = true
    · have hk : k ≠ key := fun hk => by simp [h (k, v) List.mem_cons_self hk] at hp
      simp only [List.filter_cons, hp, if_true, tabGet, hk, if_false, ih]
    · simp only [List.filter_cons, hp, Bool.false_eq_true, if_false, ih]

/-- A register place that a reset keeps reads as before, and one that it does not reads as at reset. -/
theorem get_resetTo_kept (s : State) {keep : Key → Bool} {f : Fld} (h : keep (f.id, f.ix) = true) : (s.resetTo keep).get f = s.get f :=
  tabGet_filter_same _ fun _ _ hkey => hkey ▸ h

theorem get_resetTo_gone (s : State) {keep : Key → Bool} {f : Fld} (h : keep (f.id, f.ix) = false) : (s.resetTo keep).get f = f.rst :=
  tabGet_filter_gone _ fun _ _ hkey => hkey ▸ h

/-- The machine as a warm reset finds it: what it keeps, and the rest at reset. -/
def warmStart (s : State) : State :=
  { s.resetTo warmKeeps with
    frc := s.frc, frcPrev := s.frcPrev, cclk := s.cclk, tclk := s.tclk, orchard := s.orchard, dram := s.dram,
    orcFlaws := s.orcFlaws, dramFlaws := s.dramFlaws,
    cores := s.cores.map (fun e => if e.1 = 64 then (64, Core.steward 0x08000000) else
      (e.1, { Core.reset with dmem := e.2.dmem, flaws := e.2.flaws })),
    graft := { Graft.reset with hops := s.graft.hops } }

/-- From STANDBY the clock unit acquires again. -/
def warmWoken (s : State) : State := if s.get F.SYS_PWR_STATE = 3 then s.warmStart.enterAcquire else s.warmStart

theorem warmReset_eq {s : State} (hhold : s.get I.PW_HOLD = 0) (cause : Fld) (boot : Nat) :
    s.warmReset cause boot = ((s.warmWoken.set cause 1).syncSpares).release boot := by
  have hrun : s.on I.PW_HOLD = false := by simp [on, hhold]
  unfold warmReset
  rw [hrun, if_neg Bool.false_ne_true]
  rfl

theorem booting_warmWoken (s : State) : s.warmStart.Booting s.warmWoken := by
  unfold warmWoken
  split
  · exact booting_enterAcquire _
  · exact .refl _

/-- What a warm reset leaves (R474), its cause one of the kept places. -/
theorem warmReset_done {s : State} (hhold : s.get I.PW_HOLD = 0) (boot : Nat) {cause : Fld}
    (hcause : cause = F.SYS_RSTCAUSE_SRST ∨ cause = F.SYS_RSTCAUSE_WARM) : s.WarmDone (s.warmReset cause boot) cause boot := by
  have hplace : bootKept.contains cause.id = true ∧ (cause.id == F.SYS_RSTCAUSE_BOOT.id) = false ∧
      (F.SYS_ENGINE_STATE.id == cause.id) = false ∧ (∀ k, ((F.MDL_MAP_PHYS k).id == cause.id) = false) ∧ 1 % 2 ^ cause.width = 1 := by
    rcases hcause with rfl | rfl <;> exact ⟨rfl, rfl, rfl, fun _ => rfl, rfl⟩
  obtain ⟨hkeep, hnotBoot, hnotEngine, hnotMap, hone⟩ := hplace
  rw [warmReset_eq hhold]
  obtain ⟨⟨hfrc, hmems, hpend, hqn, hvm, hdrives⟩, hget⟩ := s.booting_warmWoken
  obtain ⟨⟨sfrc, smems, spend, sqn, svm, sdrives⟩, sget⟩ := booting_syncSpares (s.warmWoken.set cause 1)
  obtain ⟨⟨rfrc, rmems, rpend, rqn, rvm, rdrives⟩, rget⟩ := release_boots (s.warmWoken.set cause 1).syncSpares boot
  have hkept {f : Fld} (hf : bootKept.contains f.id = true) (hb : (f.id == F.SYS_RSTCAUSE_BOOT.id) = false) :
      (((s.warmWoken.set cause 1).syncSpares).release boot).get f = (s.warmWoken.set cause 1).get f := by
    rw [rget f hf, get_set_other _ _ hb, sget f hf]
  have hstart {f : Fld} (hf : bootKept.contains f.id = true) (hb : (f.id == F.SYS_RSTCAUSE_BOOT.id) = false)
      (hc : (f.id == cause.id) = false) :
      (((s.warmWoken.set cause 1).syncSpares).release boot).get f = (s.resetTo warmKeeps).get f := by
    rw [hkept hf hb, get_set_other _ _ hc, hget f hf]
    rfl
  refine ⟨rfrc.trans (sfrc.trans hfrc), rmems.trans (smems.trans hmems), rpend.trans (spend.trans hpend), ?_, ?_, ?_, ?_, ?_, ?_, ?_⟩
  · rw [hkept hkeep hnotBoot, get_set_same, hone]
  · rw [rget _ rfl, get_set_same]
    rfl
  · rw [hstart rfl rfl hnotEngine, get_resetTo_gone _ (by decide +kernel)]
    rfl
  · rw [rqn.trans (sqn.trans hqn)]
    rfl
  · rw [rvm.trans (svm.trans hvm)]
    rfl
  · exact rdrives.trans (sdrives.trans hdrives)
  · intro k
    rw [hstart rfl rfl (hnotMap k), get_resetTo_kept]
    simp [warmKeeps, F.MDL_MAP_PHYS]

/-! ### Codes and blocks in recovery -/

section
variable {s : State} {ds : List (Fin 10)}

theorem rindCode_asked (hlock : s.get I.CFG_LOCKO = 0) (hlo : 1 ≤ ds.length) (hhi : ds.length ≤ 8) :
    s.rindCode (ds.map (·.val)) =
      if s.ownerHeld ∧ sha256 (ds.map (fun d => BitVec.ofNat 8 (0x30 + d.val))) = s.heldOwner then (s.set I.RL_UNL 1).sayOk
      else (if 5 ≤ (s.bump I.CFG_WRONG 1).get I.CFG_WRONG then (s.bump I.CFG_WRONG 1).set I.CFG_LOCKO 1 else s.bump I.CFG_WRONG 1).sayErr stAUTH := by
  have hopen : s.on I.CFG_LOCKO = false := by simp [on, hlock]
  have hne : ¬(ds.map (·.val) = [] ∨ 8 < (ds.map (·.val)).length) := by
    rintro (h | h)
    · simp only [List.map_eq_nil_iff] at h
      simp [h] at hlo
    · rw [List.length_map] at h
      omega
  unfold rindCode
  rw [hopen, if_neg Bool.false_ne_true, if_neg hne, List.map_map]
  rfl

theorem rindCode_right (hlock : s.get I.CFG_LOCKO = 0) (hlo : 1 ≤ ds.length) (hhi : ds.length ≤ 8) (hheld : s.ownerHeld = true)
    (hsha : sha256 (ds.map (fun d => BitVec.ofNat 8 (0x30 + d.val))) = s.heldOwner) :
    s.rindCode (ds.map (·.val)) = (s.set I.RL_UNL 1).sayOk := by
  rw [rindCode_asked hlock hlo hhi, if_pos ⟨hheld, hsha⟩]

/-- A wrong code counted; the fifth locks. -/
def rindWrong (s : State) : State :=
  (if 5 ≤ (s.bump I.CFG_WRONG 1).get I.CFG_WRONG then (s.bump I.CFG_WRONG 1).set I.CFG_LOCKO 1 else s.bump I.CFG_WRONG 1).sayErr stAUTH

theorem rindCode_wrong (hlock : s.get I.CFG_LOCKO = 0) (hlo : 1 ≤ ds.length) (hhi : ds.length ≤ 8) (hheld : s.ownerHeld = false) :
    s.rindCode (ds.map (·.val)) = s.rindWrong := by
  rw [rindCode_asked hlock hlo hhi, if_neg (by simp [hheld])]
  rfl

theorem rindWrong_facts (s : State) :
    s.rindWrong.get I.CFG_WRONG = min (s.get I.CFG_WRONG + 1) 7 ∧ (4 ≤ s.get I.CFG_WRONG → s.rindWrong.get I.CFG_LOCKO = 1) ∧
    s.rindWrong = { s with regs := s.rindWrong.regs, svc := { s.svc with out := s.rindWrong.svc.out } } ∧
    s.KeepsFields s.rindWrong [I.CFG_WRONG, I.CFG_LOCKO] := by
  have hbump : (s.bump I.CFG_WRONG 1).get I.CFG_WRONG = min (s.get I.CFG_WRONG + 1) 7 := get_bump_same _ _ _
  have hsaid (u : State) (f : Fld) : (u.sayErr stAUTH).get f = u.get f := rfl
  have hkeeps : s.KeepsFields (s.bump I.CFG_WRONG 1) [I.CFG_WRONG, I.CFG_LOCKO] := (keepsFields_bump (by simp) 1).mpr (.refl _ _)
  unfold rindWrong
  split
  next h5 =>
    exact ⟨(hsaid _ _).trans ((get_set_other _ _ rfl).trans hbump), fun _ => (hsaid _ _).trans (get_set_same _ _ _), rfl,
      fun f hf => (hsaid _ f).trans ((keepsFields_set (by simp) 1).mpr hkeeps f hf)⟩
  next h5 =>
    refine ⟨(hsaid _ _).trans hbump, fun h4 => ?_, rfl, fun f hf => (hsaid _ f).trans (hkeeps f hf)⟩
    rw [hbump] at h5
    omega

theorem rindBlock_bad (hleft : s.get I.RL_LEFT ≠ 0) (k : Nat) (bs : List Byte) :
    s.rindBlock k bs false = s.say ("NAK " ++ toString (s.get I.RL_BLK)) := by
  have hbad : !false ∨ k ≠ s.get I.RL_BLK ∨ bs.length ≠ min (s.get I.RL_LEFT) 4096 := Or.inl rfl
  unfold rindBlock
  dsimp only
  rw [if_neg hleft, if_pos hbad]

/-- A block taken: what is left, the next block's number, the package, and the line that acknowledges it. -/
def rindTaken (s : State) (left blk : Nat) (bs : List Byte) (l : String) : State :=
  (((s.set I.RL_LEFT left).set I.RL_BLK blk).setGraft { s.graft with pkg := s.graft.pkg ++ bs }).say l

theorem rindTaken_facts (s : State) (left blk : Nat) (bs : List Byte) (l : String) :
    (s.rindTaken left blk bs l).get I.RL_LEFT = left % 2 ^ 32 ∧ (s.rindTaken left blk bs l).get I.RL_BLK = blk % 2 ^ 32 ∧
    (s.rindTaken left blk bs l).graft.pkg = s.graft.pkg ++ bs ∧ (s.rindTaken left blk bs l).svc.out = s.svc.out ++ [l] ∧
    s.rindTaken left blk bs l = { s with
      regs := (s.rindTaken left blk bs l).regs, graft := { s.graft with pkg := (s.rindTaken left blk bs l).graft.pkg },
      svc := { s.svc with out := (s.rindTaken left blk bs l).svc.out } } ∧
    s.KeepsFields (s.rindTaken left blk bs l) [I.RL_LEFT, I.RL_BLK] := by
  have hget (f : Fld) : (s.rindTaken left blk bs l).get f = ((s.set I.RL_LEFT left).set I.RL_BLK blk).get f := rfl
  refine ⟨?_, (hget _).trans (get_set_same _ _ _), rfl, rfl, rfl, fun f hf => (hget f).trans ?_⟩
  · rw [hget, get_set_other _ _ rfl]
    exact get_set_same _ _ _
  · exact (keepsFields_set (by simp) blk).mpr ((keepsFields_set (by simp) left).mpr (KeepsFields.refl s [I.RL_LEFT, I.RL_BLK])) f hf

theorem rindBlock_taken {k : Nat} {bs : List Byte} (hblk : s.get I.RL_BLK = k) (hleft : 4096 < s.get I.RL_LEFT) (hlen : bs.length = 4096) :
    s.rindBlock k bs true = s.rindTaken (s.get I.RL_LEFT - 4096) (k + 1) bs ("ACK " ++ toString k) := by
  have hmin : ¬(!true ∨ k ≠ k ∨ bs.length ≠ min (s.get I.RL_LEFT) 4096) := by
    simp only [Bool.not_true, Bool.false_eq_true, ne_eq, not_true_eq_false, false_or, not_not]
    omega
  unfold rindBlock
  dsimp only
  rw [hblk, if_neg (by omega), if_neg hmin, hlen, if_neg (by omega)]
  rfl

end

end State

open State in
/-- Settles O46, command by command; `BOOT` by what no step of the boot changes. -/
theorem recoveryCommandsComplete : Obligations.RecoveryCommandsComplete := by
  unfold Obligations.RecoveryCommandsComplete
  intro s hph
  have hgo (go : State → State) : s.inRecovery go = go s := if_pos hph
  refine ⟨?_, ?_, ?_, ?_, ?_, ?_, ?_, ?_, ?_, ?_, ?_⟩
  · exact ⟨_, next_of_eq (hgo _), rfl⟩
  · intro n hlo hhi
    refine ⟨_, next_of_eq ((hgo _).trans (if_neg (by omega))), ?_, rfl, rfl, ?_⟩
    · exact get_set_of_lt _ (lt_of_le_of_lt hhi (by decide))
    · exact (keepsFields_set List.mem_cons_self _).mpr (fun _ _ => rfl)
  · intro n hbad
    exact ⟨_, next_of_eq ((hgo _).trans (if_pos hbad)), rfl⟩
  · intro ds hlock hlo hhi hheld hsha
    have hunl : (s.set I.RL_UNL 1).get I.RL_UNL = 1 := get_set_same _ _ _
    have hkeeps : s.KeepsFields (s.set I.RL_UNL 1) [I.RL_UNL] := (keepsFields_set List.mem_cons_self 1).mpr (.refl _ _)
    exact ⟨_, next_of_eq ((hgo _).trans (rindCode_right hlock hlo hhi hheld hsha)), hunl, rfl, rfl, hkeeps⟩
  · intro ds hlock hlo hhi hheld
    obtain ⟨hwrong, hlocko, hrest, hkeeps⟩ := s.rindWrong_facts
    exact ⟨_, next_of_eq ((hgo _).trans (rindCode_wrong hlock hlo hhi hheld)), hwrong, hlocko, hrest, hkeeps⟩
  · intro n hlocked hn
    have hleft : ((s.set I.RL_LEFT n).set I.RL_BLK 0).get I.RL_LEFT = n % 2 ^ 32 := (get_set_other _ _ rfl).trans (get_set_same _ _ _)
    have hblk : ((s.set I.RL_LEFT n).set I.RL_BLK 0).get I.RL_BLK = 0 := get_set_same _ _ _
    have hkeeps : s.KeepsFields ((s.set I.RL_LEFT n).set I.RL_BLK 0) [I.RL_LEFT, I.RL_BLK] := by simp
    exact ⟨_, next_of_eq ((hgo _).trans ((if_neg (by simp [hlocked])).trans (if_neg hn))), hleft, hblk, rfl, hkeeps⟩
  · intro k bs hblk hleft hlen
    exact ⟨_, next_of_eq ((hgo _).trans (rindBlock_taken hblk hleft hlen)), s.rindTaken_facts _ _ _ _⟩
  · intro k bs hleft
    exact ⟨_, next_of_eq ((hgo _).trans (rindBlock_bad hleft k bs)), rfl⟩
  · intro hlocked
    exact ⟨_, next_of_eq ((hgo _).trans (if_neg (by simp [hlocked]))), rfl⟩
  · intro hlocked
    exact ⟨_, next_of_eq ((hgo _).trans (if_pos hlocked)), rfl, rfl⟩
  · intro hhold
    exact ⟨_, next_of_eq (hgo _), warmReset_done hhold 0 (.inl rfl)⟩

end Sys2Proof.Machine
end

section
/-! AES3 receivers and transmitters (R289 to R296). -/

namespace Sys2Proof.Machine

namespace State

/-! ### The channels of a feature (R283) -/

theorem asrcOf_set (s : State) {f : Fld} (v fid : Nat) (h : (f.id == (F.ASRC_CH_OWNER 0).id) = false) :
    (s.set f v).asrcOf fid = s.asrcOf fid := by
  unfold asrcOf
  exact congrArg _ (filter_tabSet keyLt _ _ _ fun x => by simp [beq_eq_false_iff_ne.mp h])

theorem asrcOf_raiseBits (s : State) {n : Nat} (c fid : Nat)
    (h : (evCause n).all (fun e => !(e.1.id == (F.ASRC_CH_OWNER 0).id)) = true) : (s.raiseBits n c).asrcOf fid = s.asrcOf fid := by
  unfold raiseBits
  split
  next f m he =>
    have hid : (f.id == (F.ASRC_CH_OWNER 0).id) = false := by
      rw [he] at h
      simpa using h
    have hnotify (t : State) (b : Bool) : (t.notify n b).asrcOf fid = t.asrcOf fid := by
      unfold notify
      split <;> rfl
    rw [hnotify, asrcOf_set _ _ _ hid]
  · rfl

theorem asrcOf_foldl {α : Type} {g : State → α → State} (l : List α) (fid : Nat) (h : ∀ t x, (g t x).asrcOf fid = t.asrcOf fid)
    (s : State) : (l.foldl g s).asrcOf fid = s.asrcOf fid := by
  induction l generalizing s with
  | nil => rfl
  | cons x l ih => rw [List.foldl_cons, ih, h]

theorem asrcOf_asrcReturn (s : State) (fid k : Nat) : (s.asrcReturn k).asrcOf fid = s.asrcOf fid :=
  asrcOf_foldl _ fid (fun t _ => asrcOf_set t 0 fid rfl) s

theorem asrcOf_asrcFreewheel (s : State) (fid k : Nat) : (s.asrcFreewheel k).asrcOf fid = s.asrcOf fid := by
  unfold asrcFreewheel
  dsimp only
  split
  · rfl
  · exact (asrcOf_raiseBits _ 2 fid (n := 105) (by decide)).trans (asrcOf_foldl _ fid (fun t _ => asrcOf_set t 1 fid rfl) s)

theorem asrcOf_refDrop (s : State) (fid k i : Nat) : (s.refDrop k i).asrcOf fid = s.asrcOf fid := by
  refine asrcOf_foldl _ fid (fun t c => ?_) s
  split
  · exact asrcOf_set t 0 fid rfl
  · rfl

/-! ### Freewheel and return of a far clock (R286) -/

/-- The flags of channels that a fold sets to one value. -/
theorem get_freew_foldl (v : Nat) (l : List Nat) (s : State) (c : Nat) :
    (l.foldl (fun s c => s.set (F.ASRC_CH_FREEW c) v) s).get (F.ASRC_CH_FREEW c) = if c ∈ l then v % 2 else s.get (F.ASRC_CH_FREEW c) := by
  induction l generalizing s with
  | nil => simp
  | cons x l ih =>
    rw [List.foldl_cons, ih]
    by_cases hl : c ∈ l
    · simp [hl]
    · by_cases hx : c = x
      · subst hx
        simp only [hl, if_false, List.mem_cons_self, if_true]
        exact get_set_same _ _ _
      · have hkeep : (s.set (F.ASRC_CH_FREEW x) v).get (F.ASRC_CH_FREEW c) = s.get (F.ASRC_CH_FREEW c) := get_set_index _ _ hx
        simp [hl, hx, hkeep]

/-- A channel whose far clock is back stays so, and those of the feature are. -/
theorem asrcReturn_clears (s : State) (fid c : Nat) (h : c ∈ s.asrcOf fid ∨ s.get (F.ASRC_CH_FREEW c) = 0) :
    (s.asrcReturn fid).get (F.ASRC_CH_FREEW c) = 0 := by
  rw [asrcReturn, get_freew_foldl]
  split
  · rfl
  next hc => exact h.resolve_left hc

theorem asrcReturn_foldl_clears (l : List Nat) (s : State) (c : Nat)
    (h : (∃ k ∈ l, c ∈ s.asrcOf (fidAesTx k)) ∨ s.get (F.ASRC_CH_FREEW c) = 0) :
    (l.foldl (fun s k => s.asrcReturn (fidAesTx k)) s).get (F.ASRC_CH_FREEW c) = 0 := by
  induction l generalizing s with
  | nil => exact h.resolve_left (by simp)
  | cons x l ih =>
    refine ih _ ?_
    rcases h with ⟨k, hk, hc⟩ | h
    · rcases List.mem_cons.mp hk with rfl | hk
      · exact .inr (asrcReturn_clears s _ c (.inl hc))
      · exact .inl ⟨k, hk, by rwa [asrcOf_asrcReturn]⟩
    · exact .inr (asrcReturn_clears s _ c (.inr h))

/-- A channel that freewheels goes on so, and those of the feature do. -/
theorem asrcFreewheel_sets (s : State) (fid c : Nat) (h : c ∈ s.asrcOf fid ∨ s.get (F.ASRC_CH_FREEW c) ≠ 0) :
    (s.asrcFreewheel fid).get (F.ASRC_CH_FREEW c) ≠ 0 := by
  have hset : s.get (F.ASRC_CH_FREEW c) = 0 → c ∈ (s.asrcOf fid).filter (fun c => !s.on (F.ASRC_CH_FREEW c)) := fun hz =>
    List.mem_filter.mpr ⟨h.resolve_right (fun hne => hne hz), by simp [on, hz]⟩
  unfold asrcFreewheel
  dsimp only
  split
  next hnone => exact fun hz => List.not_mem_nil (hnone ▸ hset hz)
  · rw [get_raise_apart _ rfl, get_freew_foldl]
    split
    · decide
    next hc => exact fun hz => hc (hset hz)

theorem asrcFreewheel_foldl_sets (l : List Nat) (s : State) (c : Nat)
    (h : (∃ k ∈ l, c ∈ s.asrcOf (fidAesTx k)) ∨ s.get (F.ASRC_CH_FREEW c) ≠ 0) :
    (l.foldl (fun s k => s.asrcFreewheel (fidAesTx k)) s).get (F.ASRC_CH_FREEW c) ≠ 0 := by
  induction l generalizing s with
  | nil => exact h.resolve_left (by simp)
  | cons x l ih =>
    refine ih _ ?_
    rcases h with ⟨k, hk, hc⟩ | h
    · rcases List.mem_cons.mp hk with rfl | hk
      · exact .inr (asrcFreewheel_sets s _ c (.inl hc))
      · exact .inl ⟨k, hk, by rwa [asrcOf_asrcFreewheel]⟩
    · exact .inr (asrcFreewheel_sets s _ c (.inr h))

theorem onlyNames_asrcReturn (s : State) (fid : Nat) : s.OnlyNames (s.asrcReturn fid) [F.ASRC_CH_FREEW 0] :=
  onlyNames_foldl (fun _ _ => onlyNames_set rfl _) _ _

theorem onlyNames_asrcFreewheel (s : State) (fid : Nat) : s.OnlyNames (s.asrcFreewheel fid) [F.ASRC_CH_FREEW 0, F.ASRC_EVT_EVT] := by
  unfold asrcFreewheel
  dsimp only
  split
  · exact .refl _ _
  · exact (onlyNames_foldl (fun _ _ => onlyNames_set rfl _) _ _).trans (onlyNames_raise rfl)

theorem onlyNames_refDrop (s : State) (k i : Nat) : s.OnlyNames (s.refDrop k i) [F.CLK_REFPRI_QUAL 0] := by
  refine onlyNames_foldl (fun t x => ?_) _ _
  split
  · exact onlyNames_set rfl _
  · exact .refl _ _

/-! ### Sources lost (R224) -/

theorem onlyNames_lost (s t : State) (l : List Nat) : s.OnlyNames (l.foldl (fun u e =>
    match t.absentReason e t.frc with
    | some r => ((u.set F.BRM_LOSTSRC_REASON r).set F.BRM_LOSTSRC_SRC e).raise 66
    | none => u) s) lostNames := by
  refine onlyNames_foldl (fun u e => ?_) _ _
  split
  · exact ((onlyNames_set rfl _).trans (onlyNames_set rfl _)).trans (onlyNames_raise rfl)
  · exact .refl _ _

/-- Beside what the change does, the loss of sources is recorded. -/
theorem losing_names (s : State) (l : List Nat) (f : State → State) : (f s).OnlyNames (s.losing l f) lostNames :=
  onlyNames_lost _ _ _

theorem get_losing (s : State) (l : List Nat) (f : State → State) {g : Fld} (h : lostNames.all (fun k => !(k.id == g.id)) = true) :
    (s.losing l f).get g = (f s).get g := (s.losing_names l f).get h

/-! ### The events of a transceiver -/

theorem evCause_rx (r : Fin 8) : evCause (112 + r) = some (F.AES_RXEVT_EVT r, 0xF) := by
  revert r
  decide

theorem evCause_tx (t : Fin 8) : evCause (120 + t) = some (F.AES_TXEVT_EVT t, 7) := by
  revert t
  decide

/-- A cause bit raised is set. -/
theorem get_raiseCause_bit (s : State) {n c m : Nat} {f : Fld} (he : evCause n = some (f, m)) (hc : c < f.width) :
    (s.raiseCause n c).get f / 2 ^ c % 2 = 1 := by
  rw [raiseCause, get_raiseBits_same _ _ _ he, ← Nat.toNat_testBit, Nat.testBit_mod_two_pow, Nat.testBit_or, Nat.testBit_two_pow_self]
  simp [hc]

/-- A cause bit that is set stays set when another is raised. -/
theorem get_raiseCause_keeps (s : State) {n c k m : Nat} {f : Fld} (he : evCause n = some (f, m)) (hk : k < f.width)
    (h : s.get f / 2 ^ k % 2 = 1) : (s.raiseCause n c).get f / 2 ^ k % 2 = 1 := by
  rw [raiseCause, get_raiseBits_same _ _ _ he, ← Nat.toNat_testBit, Nat.testBit_mod_two_pow, Nat.testBit_or]
  rw [← Nat.toNat_testBit] at h
  have hbit : (s.get f).testBit k = true := by simpa using h
  simp [hk, hbit]

theorem get_rxCause (s : State) (r : Fin 8) (c : Nat) {f : Fld} (h : (f.id == (F.AES_RXEVT_EVT r).id) = false) :
    (s.raiseCause (112 + r) c).get f = s.get f := get_raiseBits_other _ _ _ (evCause_rx r) h

theorem get_txCause (s : State) (t : Fin 8) (c : Nat) {f : Fld} (h : (f.id == (F.AES_TXEVT_EVT t).id) = false) :
    (s.raiseCause (120 + t) c).get f = s.get f := get_raiseBits_other _ _ _ (evCause_tx t) h

theorem onlyNames_rxCause (s : State) (r : Fin 8) (c : Nat) : s.OnlyNames (s.raiseCause (112 + r) c) [F.AES_RXEVT_EVT 0] := by
  refine ⟨rest_raiseCause _ _ _, fun f hf => get_rxCause s r c ?_⟩
  have hid : f.id ≠ (F.AES_RXEVT_EVT 0).id := by simpa using hf
  exact beq_eq_false_iff_ne.mpr hid

theorem asrcOf_rxCause (s : State) (r : Fin 8) (c fid : Nat) : (s.raiseCause (112 + r) c).asrcOf fid = s.asrcOf fid :=
  asrcOf_raiseBits _ _ _ (by rw [evCause_rx]; rfl)

theorem onlyRegsEv_txCause {s t : State} {fs : List Fld} (h : s.OnlyRegsEv t fs) (k : Fin 8) (c : Nat) (hf : F.AES_TXEVT_EVT k ∈ fs) :
    s.OnlyRegsEv (t.raiseCause (120 + k) c) fs := h.thenRaiseBits (evCause_tx k) hf _

/-! ### Receivers: lock and its loss (R289, R292) -/

/-- The transmitters that follow a receiver depend on their configuration and state alone. -/
theorem txFollowing_congr {s t : State} (h : ∀ f : Fld, f.id ∈ [(F.AES_TXCFG_SRC 0).id, (F.AES_TXCFG_RX 0).id, (F.AES_TXCTRL_STATE 0).id] →
    t.get f = s.get f) (r : Nat) : t.txFollowing r = s.txFollowing r := by
  unfold txFollowing
  refine List.filter_congr fun k _ => ?_
  rw [on, on, h (F.AES_TXCFG_SRC k) (by simp [F.AES_TXCFG_SRC]), h (F.AES_TXCFG_RX k) (by simp [F.AES_TXCFG_RX]),
    h (F.AES_TXCTRL_STATE k) (by simp [F.AES_TXCTRL_STATE])]

/-- A receiver as it locks, its event raised. -/
def rxLocking (s : State) (r : Fin 8) (nom rate : Nat) : State :=
  (((s.drawn.set (F.AES_RXSTAT_LOCK r) 1).set (F.AES_RXSTAT_NOM r) nom).set (I.RX_RATE r) rate).raiseCause (112 + r) 0

theorem rxLock_eq {s : State} {r : Fin 8} (hst : s.get (F.AES_RXCTRL_STATE r) = unitON) (hlock : s.get (F.AES_RXSTAT_LOCK r) = 0)
    (nom : Nat) : ∃ rate, s.rxLock r nom = ((s.rxLocking r nom rate).txFollowing r).foldl (fun s t => s.asrcReturn (fidAesTx t))
      ((s.rxLocking r nom rate).asrcReturn (fidAesRx r)) := ⟨_, if_pos ⟨hst, hlock⟩⟩

theorem get_rxLocking (s : State) (r : Fin 8) (nom rate : Nat) {f : Fld}
    (h : [F.AES_RXSTAT_LOCK r, F.AES_RXSTAT_NOM r, I.RX_RATE r, F.AES_RXEVT_EVT r].all (fun g => !(f.id == g.id)) = true) :
    (s.rxLocking r nom rate).get f = s.get f := by
  simp only [List.all_cons, List.all_nil, Bool.and_eq_true, Bool.not_eq_true'] at h
  obtain ⟨hlock, hnom, hrate, hevt, -⟩ := h
  rw [rxLocking, get_rxCause _ _ _ hevt, get_set_other _ _ hrate, get_set_other _ _ hnom, get_set_other _ _ hlock]
  rfl

theorem rest_rxLocking (s : State) (r : Fin 8) (nom rate : Nat) : (s.rxLocking r nom rate).rest = s.drawn.rest :=
  rest_raiseCause _ _ _

theorem asrcOf_rxLocking (s : State) (r : Fin 8) (nom rate fid : Nat) : (s.rxLocking r nom rate).asrcOf fid = s.asrcOf fid := by
  rw [rxLocking, asrcOf_rxCause, asrcOf_set _ _ _ rfl, asrcOf_set _ _ _ rfl, asrcOf_set _ _ _ rfl]
  rfl

theorem txFollowing_rxLocking (s : State) (r : Fin 8) (nom rate : Nat) : (s.rxLocking r nom rate).txFollowing r = s.txFollowing r :=
  txFollowing_congr (fun f hf => get_rxLocking s r nom rate (by
    simp only [List.mem_cons, List.not_mem_nil, or_false] at hf
    rcases hf with h | h | h <;> rw [h] <;> rfl)) r

/-- A receiver that has lost its lock, its channels freewheeling and the references that followed it dropped. -/
def rxLosing (s : State) (r : Fin 8) : State :=
  (((s.set (F.AES_RXSTAT_LOCK r) 0).raiseCause (112 + r) 1).asrcFreewheel (fidAesRx r)).refDrop 2 r

theorem rxUnlock_eq {s : State} {r : Fin 8} (h : s.get (F.AES_RXSTAT_LOCK r) ≠ 0) :
    s.rxUnlock r = s.losing (s.rxSources r) (fun s => ((s.rxLosing r).txFollowing r).foldl (fun s t => s.asrcFreewheel (fidAesTx t)) (s.rxLosing r)) :=
  if_pos (decide_eq_true h)

/-- What a lost lock writes. -/
def unlockNames : List Fld := [F.AES_RXSTAT_LOCK 0, F.AES_RXEVT_EVT 0, F.ASRC_CH_FREEW 0, F.ASRC_EVT_EVT, F.CLK_REFPRI_QUAL 0]

theorem onlyNames_rxLosing (s : State) (r : Fin 8) : s.OnlyNames (s.rxLosing r) unlockNames :=
  (((onlyNames_set rfl 0).trans ((onlyNames_rxCause _ r 1).mono (by simp [unlockNames]))).trans
    ((onlyNames_asrcFreewheel _ _).mono (by simp [unlockNames]))).trans ((onlyNames_refDrop _ _ _).mono (by simp [unlockNames]))

theorem onlyNames_followersFreewheel (l : List Nat) (s : State) :
    s.OnlyNames (l.foldl (fun s t => s.asrcFreewheel (fidAesTx t)) s) [F.ASRC_CH_FREEW 0, F.ASRC_EVT_EVT] :=
  onlyNames_foldl (fun t _ => onlyNames_asrcFreewheel t _) l s

theorem onlyNames_rxUnlock (s : State) (r : Fin 8) : s.OnlyNames (s.rxUnlock r) (unlockNames ++ lostNames) := by
  by_cases h : s.get (F.AES_RXSTAT_LOCK r) = 0
  · have hself : s.rxUnlock r = s := by simp [rxUnlock, on, h]
    rw [hself]
    exact .refl _ _
  · rw [rxUnlock_eq h]
    exact (((onlyNames_rxLosing s r).mono (List.subset_append_left _ _)).trans ((onlyNames_followersFreewheel _ _).mono
      (by simp [unlockNames]))).trans ((losing_names _ _ _).mono (List.subset_append_right _ _))

theorem get_rxUnlock (s : State) (r : Fin 8) :
    (s.rxUnlock r).get (F.AES_RXSTAT_LOCK r) = 0 ∧
    (s.get (F.AES_RXSTAT_LOCK r) ≠ 0 → (s.rxUnlock r).get (F.AES_RXEVT_EVT r) / 2 ^ 1 % 2 = 1) := by
  by_cases h : s.get (F.AES_RXSTAT_LOCK r) = 0
  · have hself : s.rxUnlock r = s := by simp [rxUnlock, on, h]
    rw [hself]
    exact ⟨h, fun hne => absurd h hne⟩
  · have hkeep {f : Fld} (hf : [F.ASRC_CH_FREEW 0, F.ASRC_EVT_EVT, F.CLK_REFPRI_QUAL 0].all (fun g => !(g.id == f.id)) = true)
        (hlost : lostNames.all (fun k => !(k.id == f.id)) = true) :
        (s.rxUnlock r).get f = ((s.set (F.AES_RXSTAT_LOCK r) 0).raiseCause (112 + r) 1).get f := by
      have hlosing : ((s.set (F.AES_RXSTAT_LOCK r) 0).raiseCause (112 + r) 1).OnlyNames (s.rxLosing r)
          [F.ASRC_CH_FREEW 0, F.ASRC_EVT_EVT, F.CLK_REFPRI_QUAL 0] :=
        ((onlyNames_asrcFreewheel _ _).mono (by simp)).trans ((onlyNames_refDrop _ 2 r).mono (by simp))
      have hnames := (hlosing.trans ((onlyNames_followersFreewheel ((s.rxLosing r).txFollowing r) _).mono (by simp))).get hf
      rw [rxUnlock_eq h, get_losing _ _ _ hlost]
      exact hnames
    rw [hkeep rfl rfl, hkeep rfl rfl]
    refine ⟨?_, fun _ => get_raiseCause_bit _ (evCause_rx r) (by simp [F.AES_RXEVT_EVT])⟩
    rw [get_rxCause _ _ _ rfl, get_set_same]
    rfl

/-- Where lock is lost, the channels of the receiver and of the transmitters that follow it freewheel. -/
theorem freew_rxUnlock {s : State} {r : Fin 8} (h : s.get (F.AES_RXSTAT_LOCK r) ≠ 0) (c : Nat)
    (hc : c ∈ s.asrcOf (fidAesRx r) ∨ ∃ k ∈ s.txFollowing r, c ∈ s.asrcOf (fidAesTx k)) :
    (s.rxUnlock r).get (F.ASRC_CH_FREEW c) ≠ 0 := by
  have hof (fid : Nat) : (s.rxLosing r).asrcOf fid = s.asrcOf fid := by
    rw [rxLosing, asrcOf_refDrop, asrcOf_asrcFreewheel, asrcOf_rxCause, asrcOf_set _ _ _ rfl]
  have hfollow : (s.rxLosing r).txFollowing r = s.txFollowing r :=
    txFollowing_congr (fun f hf => (onlyNames_rxLosing s r).get (by
      simp only [List.mem_cons, List.not_mem_nil, or_false] at hf
      rcases hf with h | h | h <;> rw [h] <;> rfl)) r
  rw [rxUnlock_eq h, get_losing _ _ _ rfl]
  refine asrcFreewheel_foldl_sets _ _ c ?_
  rcases hc with hc | ⟨k, hk, hc⟩
  · refine .inr ?_
    rw [rxLosing, (onlyNames_refDrop _ 2 r).get rfl]
    exact asrcFreewheel_sets _ _ c (.inl (by rwa [asrcOf_rxCause, asrcOf_set _ _ _ rfl]))
  · exact .inl ⟨k, by rwa [hfollow], by rwa [hof]⟩

/-! ### Receivers: enable and disable (R292) -/

/-- The receiver's part of a disable, its lock lost before. -/
def rxDown (s : State) (r : Fin 8) : State :=
  (((((s.asrcDropAll (fidAesRx r)).set (F.AES_RXCTRL_EN r) 0).set (F.AES_RXCTRL_STATE r) unitOFF).set (I.TRK_LOCK (32 + r)) 0).unclaim
    (fidAesRx r) [aesInSlot r]).rxStatus r stOK

theorem rxCtrlSet_off {s : State} {r : Fin 8} (h : s.get (F.AES_RXCTRL_EN r) ≠ 0) :
    s.rxCtrlSet r 0 = (s.rxUnlock r).losing (s.rxSources r) (fun s => s.rxDown r) := by
  have hon : s.on (F.AES_RXCTRL_EN r) = true := by simp [on, h]
  have hwant : natBit 0 4 = false := rfl
  unfold rxCtrlSet
  dsimp only
  rw [hwant, hon, if_neg (by decide), if_neg (by decide)]
  rfl

theorem rxCtrlSet_on {s : State} {r : Fin 8} (hen : s.get (F.AES_RXCTRL_EN r) = 0) (hpath : s.get (F.AES_RXCFG_PATH r) = 0)
    (hfree : s.get (F.SYS_CLAIM_OWNER (aesInSlot r)) = 0) :
    s.rxCtrlSet r 0x10 = (((s.claimAll (fidAesRx r) [aesInSlot r]).set (F.AES_RXCTRL_EN r) 1).set (F.AES_RXCTRL_STATE r) unitON).rxStatus r stOK := by
  have hoff : s.on (F.AES_RXCTRL_EN r) = false := by simp [on, hen]
  have hdirect : s.on (F.AES_RXCFG_PATH r) = false := by simp [on, hpath]
  have hwant : natBit 0x10 4 = true := rfl
  unfold rxCtrlSet
  dsimp only
  rw [hwant, hoff, hdirect, if_neg (by decide), if_pos rfl, if_neg (by simp [aesChans])]
  exact withClaims_free (claimBar_one hfree) _ _

theorem onlyNames_asrcDrop (s : State) (c : Nat) : s.OnlyNames (s.asrcDrop c) [I.ASRC_EN 0, F.ASRC_CH_STATE 0, I.ASRC_ACC 0] := by
  unfold asrcDrop
  dsimp only
  split
  · exact onlyNames_set rfl _
  · exact ((onlyNames_set rfl _).trans (onlyNames_set rfl _)).trans (onlyNames_set rfl _)

theorem onlyNames_unclaim_one (s : State) (fid k : Nat) : s.OnlyNames (s.unclaim fid [k]) [F.SYS_CLAIM_OWNER 0] := by
  rw [unclaim_one]
  split
  · exact onlyNames_set rfl _
  · exact .refl _ _

/-- What a disable of a receiver writes beside the loss of its lock. -/
def rxDownNames : List Fld :=
  [I.ASRC_EN 0, F.ASRC_CH_STATE 0, I.ASRC_ACC 0, F.AES_RXCTRL_EN 0, F.AES_RXCTRL_STATE 0, I.TRK_LOCK 0, F.SYS_CLAIM_OWNER 0,
    F.AES_RXCTRL_STATUS 0]

theorem onlyNames_rxDown (s : State) (r : Fin 8) : s.OnlyNames (s.rxDown r) rxDownNames :=
  ((((((onlyNames_foldl (fun t c => onlyNames_asrcDrop t c) _ _).mono (by simp [rxDownNames])).trans (onlyNames_set rfl _)).trans
    (onlyNames_set rfl _)).trans (onlyNames_set rfl _)).trans ((onlyNames_unclaim_one _ _ _).mono (by simp [rxDownNames]))).trans
    (onlyNames_set rfl _)

/-! ### A received block (R291) -/

/-- Word `k` of a received block's channel status or user bits. -/
def rxWord (r u k : Nat) (user : Bool) : Fld :=
  if user then if u = 0 then F.AES_RXU0_W r k else F.AES_RXU1_W r k else if u = 0 then F.AES_RXCS0_W r k else F.AES_RXCS1_W r k

theorem rxWords_eq (s : State) (r u cs us : Nat) :
    s.rxWords r u cs us = (List.range 6).foldl (fun s k => (s.set (rxWord r u k false) (cs / 2 ^ (32 * k))).set (rxWord r u k true)
      (us / 2 ^ (32 * k))) s := rfl

theorem rxWord_ix (r u k : Nat) (user : Bool) : (rxWord r u k user).ix = r * 6 + k := by
  unfold rxWord
  split <;> split <;> rfl

theorem rxWord_width (r u k : Nat) (user : Bool) : (rxWord r u k user).width = 32 := by
  unfold rxWord
  split <;> split <;> rfl

theorem rxWord_apart (r u k x : Nat) : ((rxWord r u k false).id == (rxWord r u x true).id) = false := by
  unfold rxWord
  by_cases hu : u = 0 <;> simp only [hu, if_true, Bool.false_eq_true, if_false] <;> rfl

theorem get_rxWords (s : State) (r u cs us : Nat) {k : Nat} (hk : k < 6) :
    (s.rxWords r u cs us).get (rxWord r u k false) = cs / 2 ^ (32 * k) % 2 ^ 32 ∧
    (s.rxWords r u cs us).get (rxWord r u k true) = us / 2 ^ (32 * k) % 2 ^ 32 := by
  rw [rxWords_eq]
  refine foldl_reaches (P := fun _ => True) (Q := fun t => t.get (rxWord r u k false) = cs / 2 ^ (32 * k) % 2 ^ 32 ∧
    t.get (rxWord r u k true) = us / 2 ^ (32 * k) % 2 ^ 32) (List.mem_range.mpr hk) (fun _ _ _ => trivial) (fun t _ => ?_)
    (fun t x hx _ hq => ?_) trivial
  · refine ⟨(get_set_other _ _ (rxWord_apart r u k k)).trans ?_, ?_⟩ <;> rw [get_set_same, rxWord_width]
  · have hix (a b : Bool) : (rxWord r u k a).ix ≠ (rxWord r u x b).ix := by
      rw [rxWord_ix, rxWord_ix]
      omega
    rwa [get_set_index _ _ (hix _ _), get_set_index _ _ (hix _ _), get_set_index _ _ (hix _ _), get_set_index _ _ (hix _ _)]

/-- What a complete block writes. -/
def blockNames : List Fld :=
  [F.AES_RXCS0_W 0 0, F.AES_RXCS1_W 0 0, F.AES_RXU0_W 0 0, F.AES_RXU1_W 0 0, F.AES_RXSTAT_PRO 0, F.AES_RXSTAT_CRCERR 0,
    F.AES_RXEVT_EVT 0, F.AES_RXCNT_BLKERR 0]

/-- A block stored, its PRO and CRCERR bits, and event 112 + r cause 2. -/
def rxStored (s : State) (r u cs us : Nat) : State :=
  (((s.rxWords r u cs us).setBit2 (F.AES_RXSTAT_PRO r) u (natBit cs 0)).setBit2 (F.AES_RXSTAT_CRCERR r) u
    (natBit cs 0 && decide (natBits cs 191 184 ≠ crcc cs))).raiseCause (112 + r) 2

theorem rxBlock_whole {s : State} {r : Nat} (hlock : s.get (F.AES_RXSTAT_LOCK r) ≠ 0) (u cs us : Nat) :
    s.rxBlock r u 192 cs us = if (natBit cs 0 && decide (natBits cs 191 184 ≠ crcc cs)) = true then
      ((s.rxStored r u cs us).bump (F.AES_RXCNT_BLKERR r) 1).raiseCause (112 + r) 3 else s.rxStored r u cs us := by
  have hon : s.on (F.AES_RXSTAT_LOCK r) = true := by simp [on, hlock]
  unfold rxBlock
  rw [hon, if_neg (by decide), if_neg (by simp)]
  rfl

/-- Bit `u` of a two-bit field after it is written. -/
theorem get_setBit2 (s : State) {f : Fld} (hf : f.width = 2) {u : Nat} (hu : u < 2) (b : Bool) :
    (s.setBit2 f u b).get f / 2 ^ u % 2 = b2n b := by
  rw [setBit2, get_set_same, hf, ← Nat.toNat_testBit, Nat.testBit_mod_two_pow]
  have hmask : (3 ^^^ 2 ^ u).testBit u = false := by
    rw [Nat.testBit_xor, Nat.testBit_two_pow_self]
    interval_cases u <;> rfl
  cases b
  · simp [hu, Nat.testBit_and, hmask, b2n]
  · simp [hu, Nat.testBit_or, Nat.testBit_two_pow_self, b2n]

theorem onlyNames_rxStored (s : State) (r : Fin 8) (u cs us : Nat) : s.OnlyNames (s.rxStored r u cs us) blockNames := by
  have hset (t : State) (k : Nat) (user : Bool) (v : Nat) : t.OnlyNames (t.set (rxWord r u k user) v) blockNames := by
    refine onlyNames_set ?_ v
    unfold rxWord
    split <;> split <;> rfl
  have hwords : s.OnlyNames (s.rxWords r u cs us) blockNames := by
    rw [rxWords_eq]
    exact onlyNames_foldl (fun t k => (hset t k false _).trans (hset _ k true _)) _ _
  exact ((hwords.trans (onlyNames_set rfl _)).trans (onlyNames_set rfl _)).trans ((onlyNames_rxCause _ r 2).mono (by simp [blockNames]))

/-- The words, the PRO bit and the cause of a stored block. -/
theorem rxStored_facts (s : State) (r : Fin 8) (u : Fin 2) (cs us : Nat) :
    (∀ k < 6, ∀ user, (s.rxStored r u cs us).get (rxWord r u k user) = (if user then us else cs) / 2 ^ (32 * k) % 2 ^ 32) ∧
    (s.rxStored r u cs us).get (F.AES_RXSTAT_PRO r) / 2 ^ u.val % 2 = cs % 2 ∧
    (s.rxStored r u cs us).get (F.AES_RXEVT_EVT r) / 2 ^ 2 % 2 = 1 := by
  refine ⟨fun k hk user => ?_, ?_, get_raiseCause_bit _ (evCause_rx r) (by simp [F.AES_RXEVT_EVT])⟩
  · have hid (g : Fld) (hg : [F.AES_RXSTAT_PRO 0, F.AES_RXSTAT_CRCERR 0, F.AES_RXEVT_EVT 0].any (fun f => f.id == g.id) = true) :
        ((rxWord r u k user).id == g.id) = false := by
      simp only [List.any_cons, List.any_nil, Bool.or_false, Bool.or_eq_true, beq_iff_eq] at hg
      unfold rxWord
      rcases hg with h | h | h <;> rw [← h] <;> split <;> split <;> rfl
    rw [rxStored, get_rxCause _ _ _ (hid _ rfl), setBit2, get_set_other _ _ (hid _ rfl), setBit2, get_set_other _ _ (hid _ rfl)]
    obtain ⟨hcs, hus⟩ := s.get_rxWords r u cs us hk
    cases user
    · exact hcs
    · exact hus
  · rw [rxStored, get_rxCause _ _ _ rfl, setBit2, get_set_other _ _ rfl, get_setBit2 _ rfl u.isLt]
    rcases Nat.mod_two_eq_zero_or_one cs with h | h <;> simp [natBit, b2n, h]

theorem rxBlock_good {s : State} {r : Fin 8} (hlock : s.get (F.AES_RXSTAT_LOCK r) ≠ 0) (u : Fin 2) (cs us : BitVec 192) :
    ∃ t, (.next (s.rxBlock r u 192 cs.toNat us.toNat) : Out) = .next t ∧
      (∀ k : Fin 6, t.get (if u = 0 then F.AES_RXCS0_W r k else F.AES_RXCS1_W r k) = natBits cs.toNat (32 * k + 31) (32 * k) ∧
        t.get (if u = 0 then F.AES_RXU0_W r k else F.AES_RXU1_W r k) = natBits us.toNat (32 * k + 31) (32 * k)) ∧
      t.get (F.AES_RXSTAT_PRO r) / 2 ^ u.val % 2 = cs.toNat % 2 ∧ t.get (F.AES_RXEVT_EVT r) / 4 % 2 = 1 ∧
      t = { s with regs := t.regs, toDeliver := t.toDeliver } ∧ s.KeepsNames t blockNames := by
  obtain ⟨hwords, hpro, hevt⟩ := s.rxStored_facts r u cs.toNat us.toNat
  have hnames := s.onlyNames_rxStored r u cs.toNat us.toNat
  obtain ⟨t, hgo, hkeep, hevt', hnames'⟩ : ∃ t, s.rxBlock r u 192 cs.toNat us.toNat = t ∧
      (∀ f : Fld, [F.AES_RXCNT_BLKERR 0, F.AES_RXEVT_EVT 0].all (fun g => !(g.id == f.id)) = true →
        t.get f = (s.rxStored r u cs.toNat us.toNat).get f) ∧
      t.get (F.AES_RXEVT_EVT r) / 2 ^ 2 % 2 = 1 ∧ s.OnlyNames t blockNames := by
    rw [rxBlock_whole hlock]
    split
    · have herr : (s.rxStored r u cs.toNat us.toNat).OnlyNames
          (((s.rxStored r u cs.toNat us.toNat).bump (F.AES_RXCNT_BLKERR r) 1).raiseCause (112 + r) 3)
          [F.AES_RXCNT_BLKERR 0, F.AES_RXEVT_EVT 0] :=
        (onlyNames_bump rfl 1).trans ((onlyNames_rxCause _ r 3).mono (by simp))
      refine ⟨_, rfl, fun f hf => herr.get hf, ?_, hnames.trans (herr.mono (by simp [blockNames]))⟩
      refine get_raiseCause_keeps _ (evCause_rx r) (by simp [F.AES_RXEVT_EVT]) ?_
      rwa [bump, get_set_other _ _ rfl]
    · exact ⟨_, rfl, fun _ _ => rfl, hevt, hnames⟩
  have hword (k : Fin 6) (user : Bool) :
      t.get (rxWord r u k user) = natBits (if user then us.toNat else cs.toNat) (32 * k + 31) (32 * k) := by
    have hwidth : 32 * k.val + 31 + 1 - 32 * k.val = 32 := by omega
    rw [hkeep _ (by unfold rxWord; split <;> split <;> rfl), hwords k k.isLt, natBits, hwidth]
  refine ⟨t, next_of_eq hgo, fun k => ?_, by rwa [hkeep _ rfl], hevt', eq_of_rest hnames'.1, hnames'.2⟩
  have hcs := hword k false
  have hus := hword k true
  by_cases hu : u = 0
  · subst hu
    exact ⟨hcs, hus⟩
  · obtain rfl : u = 1 := by omega
    exact ⟨hcs, hus⟩

/-! ### Transmitters (R293 to R295) -/

/-- A transmitter on the DIRECT path as it starts. -/
def txStarted (s : State) (r : Fin 8) (hiz : Bool) : State :=
  (((((((s.claimAll (fidAesTx r) [aesOutSlot r]).set (F.AES_TXCTRL_EN r) 1).set (I.TX_FRM r) 0).set (I.TX_ACC r) 0).set (I.TX_ZAT r) 0).flag
    (I.TX_HIZ r) hiz).set (F.AES_TXCTRL_STATE r) unitSTARTING).txStatus r stOK

theorem txCtrlSet_on {s : State} {r : Fin 8} (hen : s.get (F.AES_TXCTRL_EN r) = 0) (hst : s.get (F.AES_TXCTRL_STATE r) = unitOFF)
    (hbad : s.txBad r = false) (hpath : s.get (F.AES_TXCFG_PATH r) = 0) (hfree : s.get (F.SYS_CLAIM_OWNER (aesOutSlot r)) = 0) :
    ∃ hiz, s.txCtrlSet r 0x10 = s.txStarted r hiz := by
  have hoff : s.on (F.AES_TXCTRL_EN r) = false := by simp [on, hen]
  have hnone : s.txChans r = [] := by simp [txChans, aesChans, on, hpath]
  have hnone' : ((s.claimAll (fidAesTx r) [aesOutSlot r]).set (F.AES_TXCTRL_EN r) 1).txChans r = [] := by
    have hpath' : ((s.claimAll (fidAesTx r) [aesOutSlot r]).set (F.AES_TXCTRL_EN r) 1).get (F.AES_TXCFG_PATH r) = 0 := by
      rw [← hpath]
      simp (disch := exact id rfl) only [claimAll, List.foldl_cons, List.foldl_nil, get_set_other]
    simp [txChans, aesChans, on, hpath']
  have hwant : natBit 0x10 4 = true := rfl
  unfold txCtrlSet
  dsimp only
  rw [hwant, hoff, if_neg (by decide), if_pos rfl, hbad, if_neg (by decide), hnone, List.map_nil, withClaims_free (claimBar_one hfree),
    if_pos hst, txStart, txTake, hnone']
  exact ⟨_, rfl⟩

/-- A transmitter that is ON, told to shut down. -/
def txEnding (s : State) (r : Nat) : State :=
  ((s.set (F.AES_TXCTRL_EN r) 0).set (F.AES_TXCTRL_STATE r) unitSHUTTING).set (I.TX_END r) (192 * ((s.get (I.TX_FRM r) + 191) / 192 + 1) + 1)

theorem txCtrlSet_off {s : State} {r : Fin 8} (hen : s.get (F.AES_TXCTRL_EN r) ≠ 0) (hst : s.get (F.AES_TXCTRL_STATE r) = unitON) :
    s.txCtrlSet r 0 = ((s.txEnding r).asrcDropAll (fidAesTx r)).txStatus r stOK := by
  have hon : s.on (F.AES_TXCTRL_EN r) = true := by simp [on, hen]
  have hwant : natBit 0 4 = false := rfl
  unfold txCtrlSet
  dsimp only
  rw [hwant, hon, if_neg (by decide), if_neg (by decide), hst, if_neg (by decide)]
  rfl

theorem asrcOf_txEnding (s : State) (r fid : Nat) : (s.txEnding r).asrcOf fid = s.asrcOf fid := by
  rw [txEnding, asrcOf_set _ _ _ rfl, asrcOf_set _ _ _ rfl, asrcOf_set _ _ _ rfl]

theorem onlyNames_asrcDropAll (s : State) (fid : Nat) :
    s.OnlyNames (s.asrcDropAll fid) [I.ASRC_EN 0, F.ASRC_CH_STATE 0, I.ASRC_ACC 0] :=
  onlyNames_foldl (fun t c => onlyNames_asrcDrop t c) _ _

theorem en_asrcDrop (s : State) {x c : Nat} (h : c = x ∨ s.get (I.ASRC_EN c) = 0) : (s.asrcDrop x).get (I.ASRC_EN c) = 0 := by
  have hset : (s.set (I.ASRC_EN x) 0).get (I.ASRC_EN c) = 0 := by
    by_cases hx : c = x
    · rw [hx, get_set_same]
      rfl
    · rw [get_set_index s 0 hx]
      exact h.resolve_left hx
  unfold asrcDrop
  dsimp only
  split
  · exact hset
  · rw [get_set_other _ _ rfl, get_set_other _ _ rfl, hset]

theorem en_foldl_asrcDrop {c : Nat} (l : List Nat) (s : State) (h : c ∈ l ∨ s.get (I.ASRC_EN c) = 0) :
    (l.foldl (fun s c => s.asrcDrop c) s).get (I.ASRC_EN c) = 0 := by
  induction l generalizing s with
  | nil => exact h.resolve_left List.not_mem_nil
  | cons x l ih =>
    refine ih _ ?_
    rcases h with h | h
    · rcases List.mem_cons.mp h with rfl | h
      · exact .inr (en_asrcDrop s (.inl rfl))
      · exact .inl h
    · exact .inr (en_asrcDrop s (.inr h))

/-- The fields that a transmitter's shutdown begins with. -/
def txEndFields (s : State) (r : Nat) : List Fld :=
  [F.AES_TXCTRL_EN r, F.AES_TXCTRL_STATE r, F.AES_TXCTRL_STATUS r, I.TX_END r] ++ s.chFields (fidAesTx r) I.ASRC_EN ++
    s.chFields (fidAesTx r) F.ASRC_CH_STATE ++ s.chFields (fidAesTx r) I.ASRC_ACC

theorem OnlyRegs.thenAsrcDrop {s t : State} {fs : List Fld} (h : s.OnlyRegs t fs) {c : Nat} (hen : I.ASRC_EN c ∈ fs)
    (hst : F.ASRC_CH_STATE c ∈ fs) (hacc : I.ASRC_ACC c ∈ fs) : s.OnlyRegs (t.asrcDrop c) fs := by
  unfold asrcDrop
  dsimp only
  split
  · exact h.thenSet hen _
  · exact ((h.thenSet hen _).thenSet hst _).thenSet hacc _

theorem onlyRegs_txEnded (s : State) (r : Nat) :
    s.OnlyRegs (((s.txEnding r).asrcDropAll (fidAesTx r)).txStatus r stOK) (s.txEndFields r) := by
  have hending : s.OnlyRegs (s.txEnding r) (s.txEndFields r) :=
    (((OnlyRegs.refl s _).thenSet (by simp [txEndFields]) _).thenSet (by simp [txEndFields]) _).thenSet (by simp [txEndFields]) _
  refine OnlyRegs.thenSet (OnlyRegs.thenFold _ (fun t c hc ht => ?_) hending) (by simp [txEndFields]) _
  rw [asrcOf_txEnding] at hc
  have hmem (f : Nat → Fld) : f c ∈ s.chFields (fidAesTx r) f := List.mem_map_of_mem hc
  exact ht.thenAsrcDrop (by simp [txEndFields, hmem]) (by simp [txEndFields, hmem]) (by simp [txEndFields, hmem])

/-! ### Staged sets (R294) -/

theorem txWord_ix (r u k : Nat) (b : Bool) : (txWord r u b k).ix = r * 6 + k := by
  unfold txWord
  split <;> rfl

theorem txWord_width (r u k : Nat) (b : Bool) : (txWord r u b k).width = 32 := by
  unfold txWord
  split <;> rfl

theorem txWord_apart (r u k : Nat) (b : Bool) {g : Fld}
    (h : [(F.AES_TXCS0_W 0 0).id, (F.AES_TXCS1_W 0 0).id, (F.AES_TXU0_W 0 0).id, (F.AES_TXU1_W 0 0).id].all (fun i => !(i == g.id)) = true) :
    ((txWord r u b k).id == g.id) = false := by
  simp only [List.all_cons, List.all_nil, Bool.and_eq_true, Bool.not_eq_true'] at h
  obtain ⟨h0, h1, h2, h3, -⟩ := h
  unfold txWord
  split
  · exact h0
  · exact h1
  · exact h2
  · exact h3

/-- The first word of a staged set, or of one in effect. -/
def txSetBase (r j : Nat) : Nat := 24 * r + 6 * j

/-- Word 5 of a set written. -/
def txWritten (s : State) (r u : Nat) (b : Bool) (w : Nat) : State := (s.set (txWord r u b 5) w).txStatus r stOK

/-- The set's words copied to where it waits. -/
def txCopied (s : State) (r u : Nat) (b : Bool) : State :=
  (List.range 6).foldl (fun t k => t.set (I.AES_TXS (txSetBase r (txSet u b) + k)) (t.get (txWord r u b k))) s

/-- The set as its word 5 stages it. -/
def txStaged (s : State) (r u : Nat) (b : Bool) (w : Nat) : State :=
  let t := (s.txWritten r u b w).txCopied r u b
  (t.set (I.AES_TXP r) (t.get (I.AES_TXP r) ||| 2 ^ txSet u b)).set (I.AES_TXAT (4 * r + txSet u b)) t.tclk

theorem txSetWord_staged (s : State) (r u : Nat) (b : Bool) (w : Nat) : s.txSetWord r u b 5 w = s.txStaged r u b w := rfl

theorem get_txCopied (s : State) (r u : Nat) (b : Bool) {g : Fld} (h : (g.id == (I.AES_TXS 0).id) = false) :
    (s.txCopied r u b).get g = s.get g := get_setEach_other _ _ _ _ (fun _ => h)

theorem tclk_txCopied (s : State) (r u : Nat) (b : Bool) : (s.txCopied r u b).tclk = s.tclk := by
  have hrest : (s.txCopied r u b).rest = s.rest := rest_foldl _ (fun t k => rest_set t _ _) _
  have h := congrArg (fun z : State => z.tclk) hrest
  exact h

theorem get_txCopied_set (s : State) (r u : Nat) (b : Bool) {k : Nat} (hk : k < 6) :
    (s.txCopied r u b).get (I.AES_TXS (txSetBase r (txSet u b) + k)) = s.get (txWord r u b k) % 2 ^ 32 :=
  get_setEach_at (fun k => I.AES_TXS (txSetBase r (txSet u b) + k)) (fun t k => t.get (txWord r u b k)) (List.mem_range.mpr hk) s
    (fun x hx he => hx (by simpa [I.AES_TXS] using he.symm)) (fun t ht => ht _ fun _ => txWord_apart r u k b rfl)

theorem get_txWritten (s : State) (r u k : Nat) (b : Bool) (w : Word) :
    (s.txWritten r u b w.toNat).get (txWord r u b k) = if k = 5 then w.toNat else s.get (txWord r u b k) := by
  rw [txWritten, txStatus, get_set_other _ _ (txWord_apart r u k b rfl)]
  split
  next hk =>
    rw [hk, get_set_same, txWord_width]
    exact Nat.mod_eq_of_lt w.isLt
  next hk => exact get_set_index _ _ (by rw [txWord_ix, txWord_ix]; omega)

theorem get_txStaged_word (s : State) (r u : Nat) (b : Bool) (w : Word) : (s.txStaged r u b w.toNat).get (txWord r u b 5) = w.toNat := by
  have h := s.get_txWritten r u 5 b w
  rw [if_pos rfl] at h
  unfold txStaged
  dsimp only
  rw [get_set_other _ _ (txWord_apart r u 5 b rfl), get_set_other _ _ (txWord_apart r u 5 b rfl), get_txCopied _ _ _ _ (txWord_apart r u 5 b rfl), h]

theorem txSet_lt (u : Fin 2) (b : Bool) : txSet u b < 4 := by
  cases b <;> simp [txSet, b2n] <;> omega

theorem get_txStaged_pending (s : State) (r : Nat) (u : Fin 2) (b : Bool) (w : Word) :
    (s.txStaged r u b w.toNat).get (I.AES_TXP r) / 2 ^ (2 * b2n b + u.val) % 2 = 1 := by
  unfold txStaged
  dsimp only
  rw [get_set_other _ _ rfl, get_set_same]
  exact or_two_pow_bit _ (txSet_lt u b)

theorem get_txStaged_set (s : State) (r u : Nat) (b : Bool) (w : Word) {k : Nat} (hk : k < 6) :
    (s.txStaged r u b w.toNat).get (I.AES_TXS (24 * r + 6 * (2 * b2n b + u) + k)) =
      if k = 5 then w.toNat else s.get (txWord r u b k) % 2 ^ 32 := by
  have hset := (s.txWritten r u b w.toNat).get_txCopied_set r u b hk
  rw [s.get_txWritten r u k b w] at hset
  unfold txStaged
  dsimp only
  rw [get_set_other _ _ rfl, get_set_other _ _ rfl]
  refine hset.trans ?_
  split
  · exact Nat.mod_eq_of_lt w.isLt
  · rfl

theorem onlyRegs_txStaged (s : State) (r u : Nat) (b : Bool) (w : Nat) :
    s.OnlyRegs (s.txStaged r u b w) ([txWord r u b 5, I.AES_TXP r, I.AES_TXAT (4 * r + (2 * b2n b + u)), F.AES_TXCTRL_STATUS r] ++
      (List.range 6).map (fun k => I.AES_TXS (24 * r + 6 * (2 * b2n b + u) + k))) := by
  have hwritten : s.OnlyRegs (s.txWritten r u b w) ([txWord r u b 5, I.AES_TXP r, I.AES_TXAT (4 * r + (2 * b2n b + u)),
      F.AES_TXCTRL_STATUS r] ++ (List.range 6).map (fun k => I.AES_TXS (24 * r + 6 * (2 * b2n b + u) + k))) :=
    ((OnlyRegs.refl s _).thenSet (by simp) _).thenSet (by simp) _
  have hcopied := OnlyRegs.thenFold (g := fun t k => t.set (I.AES_TXS (txSetBase r (txSet u b) + k)) (t.get (txWord r u b k))) (List.range 6)
    (fun t k hk ht => ht.thenSet (List.mem_append_right _ (List.mem_map_of_mem hk)) _) hwritten
  exact (hcopied.thenSet (by simp) _).thenSet (by simp [txSet]) _

/-- A staged set taken at a Z preamble. -/
def txTaken (s : State) (r k : Nat) : State :=
  ((List.range 6).foldl (fun s i => s.set (I.AES_TXE (24 * r + 6 * k + i)) (s.get (I.AES_TXS (24 * r + 6 * k + i)))) s).set (I.AES_TXP r)
    (s.get (I.AES_TXP r) &&& (15 ^^^ 2 ^ k))

theorem txApply_due {s : State} {r : Nat} (h : s.txDue r ≠ []) :
    s.txApply r = ((s.txDue r).foldl (fun s k => s.txTaken r k) s).raiseCause (120 + r) 2 := by
  unfold txApply
  split
  next hnone => exact absurd hnone h
  next ks hks => rfl

theorem pending_txTaken (s : State) (r : Nat) {j k : Nat} (hj : j < 4) (hk : k < 4) :
    natBit ((s.txTaken r j).get (I.AES_TXP r)) k = (natBit (s.get (I.AES_TXP r)) k && !decide (k = j)) := by
  have hmask : (15 ^^^ 2 ^ j).testBit k = !decide (k = j) := by
    interval_cases j <;> interval_cases k <;> rfl
  have hwidth : k < (I.AES_TXP r).width := hk
  rw [txTaken, get_set_same, natBit_eq_testBit, natBit_eq_testBit, Nat.testBit_mod_two_pow, Nat.testBit_and, hmask]
  simp [hwidth]

theorem pending_foldl_txTaken {r k : Nat} (l : List Nat) (hl : ∀ j ∈ l, j < 4) (s : State) (hk : k < 4) :
    natBit ((l.foldl (fun s k => s.txTaken r k) s).get (I.AES_TXP r)) k = (natBit (s.get (I.AES_TXP r)) k && !l.contains k) := by
  induction l generalizing s with
  | nil => simp
  | cons j l ih =>
    rw [List.foldl_cons, ih (fun x hx => hl x (List.mem_cons_of_mem _ hx)), pending_txTaken s r (hl j List.mem_cons_self) hk,
      List.contains_cons, Bool.not_or, Bool.and_assoc]
    rfl

theorem effect_txTaken (s : State) {r j k i : Nat} (hi : i < 6) :
    (s.txTaken r j).get (I.AES_TXE (24 * r + 6 * k + i)) =
      if k = j then s.get (I.AES_TXS (24 * r + 6 * k + i)) % 2 ^ 32 else s.get (I.AES_TXE (24 * r + 6 * k + i)) := by
  rw [txTaken, get_set_other _ _ rfl]
  split
  next hkj =>
    subst hkj
    exact get_setEach_at (fun i => I.AES_TXE (24 * r + 6 * k + i)) (fun t i => t.get (I.AES_TXS (24 * r + 6 * k + i))) (List.mem_range.mpr hi) s
      (fun x hx he => hx (by simpa [I.AES_TXE] using he.symm)) (fun t ht => ht _ fun _ => rfl)
  next hkj =>
    refine get_foldl_keep _ (fun t x hx => get_set_index _ _ ?_) _
    have hx := List.mem_range.mp hx
    show 24 * r + 6 * k + i ≠ 24 * r + 6 * j + x
    omega

theorem staged_txTaken (s : State) (r j x : Nat) : (s.txTaken r j).get (I.AES_TXS x) = s.get (I.AES_TXS x) := by
  rw [txTaken, get_set_other _ _ rfl]
  exact get_foldl_keep _ (fun t y _ => get_set_other _ _ rfl) _

theorem effect_foldl_txTaken {r k i : Nat} (l : List Nat) (s : State) (hi : i < 6) :
    (l.foldl (fun s k => s.txTaken r k) s).get (I.AES_TXE (24 * r + 6 * k + i)) =
      if k ∈ l then s.get (I.AES_TXS (24 * r + 6 * k + i)) % 2 ^ 32 else s.get (I.AES_TXE (24 * r + 6 * k + i)) := by
  induction l generalizing s with
  | nil => simp
  | cons j l ih =>
    rw [List.foldl_cons, ih, staged_txTaken, effect_txTaken _ hi]
    by_cases hl : k ∈ l <;> by_cases hj : k = j <;> simp [hl, hj]

theorem OnlyRegs.thenTxTaken {s t : State} {fs : List Fld} (h : s.OnlyRegs t fs) {r k : Nat} (hk : k < 4) (hp : I.AES_TXP r ∈ fs)
    (he : (List.range 24).map (fun k => I.AES_TXE (24 * r + k)) ⊆ fs) : s.OnlyRegs (t.txTaken r k) fs := by
  refine OnlyRegs.thenSet (OnlyRegs.thenFold _ (fun u i hi hu => hu.thenSet (he ?_) _) h) hp _
  have hi := List.mem_range.mp hi
  exact List.mem_map.mpr ⟨6 * k + i, List.mem_range.mpr (by omega), by rw [Nat.add_assoc]⟩

theorem txStaged_facts (s : State) (r : Fin 8) (u : Fin 2) (b : Bool) (w : Word) :
    (s.txStaged r u b w.toNat).get (txWord r u b 5) = w.toNat ∧
    (s.txStaged r u b w.toNat).get (I.AES_TXP r) / 2 ^ (2 * b2n b + u.val) % 2 = 1 ∧
    (∀ k : Fin 6, (s.txStaged r u b w.toNat).get (I.AES_TXS (24 * r + 6 * (2 * b2n b + u) + k)) =
      (if k = 5 then w.toNat else s.get (txWord r u b k) % 2 ^ 32)) ∧
    (s.txStaged r u b w.toNat).get (I.AES_TXAT (4 * r + (2 * b2n b + u))) = s.tclk % 2 ^ 64 ∧
    s.OnlyRegs (s.txStaged r u b w.toNat) ([txWord r u b 5, I.AES_TXP r, I.AES_TXAT (4 * r + (2 * b2n b + u)), F.AES_TXCTRL_STATUS r] ++
      (List.range 6).map (fun k => I.AES_TXS (24 * r + 6 * (2 * b2n b + u) + k))) := by
  have honly := s.onlyRegs_txStaged r u b w.toNat
  have htclk : ((s.txWritten r u b w.toNat).txCopied r u b).tclk = s.tclk := tclk_txCopied _ _ _ _
  refine ⟨s.get_txStaged_word r u b w, s.get_txStaged_pending r u b w, fun k => ?_, ?_, honly⟩
  · rw [s.get_txStaged_set r u b w k.isLt]
    have hfive : k.val = 5 ↔ k = 5 := (Fin.ext_iff (a := k) (b := 5)).symm
    exact if_congr hfive rfl rfl
  · unfold txStaged
    dsimp only
    rw [htclk]
    exact get_set_same _ _ _

/-- The staged sets that are due, taken at once. -/
theorem txApplied_facts (s : State) (r : Fin 8) :
    (((s.txDue r).foldl (fun s k => s.txTaken r k) s).raiseCause (120 + r) 2).get (F.AES_TXEVT_EVT r) / 4 % 2 = 1 ∧
    (∀ k : Fin 4, natBit ((((s.txDue r).foldl (fun s k => s.txTaken r k) s).raiseCause (120 + r) 2).get (I.AES_TXP r)) k =
      (natBit (s.get (I.AES_TXP r)) k && !(s.txDue r).contains k.val)) ∧
    (∀ (k : Fin 4) (i : Fin 6), (((s.txDue r).foldl (fun s k => s.txTaken r k) s).raiseCause (120 + r) 2).get (I.AES_TXE (24 * r + 6 * k + i)) =
      (if (s.txDue r).contains k.val then s.get (I.AES_TXS (24 * r + 6 * k + i)) % 2 ^ 32 else s.get (I.AES_TXE (24 * r + 6 * k + i)))) ∧
    s.OnlyRegsEv (((s.txDue r).foldl (fun s k => s.txTaken r k) s).raiseCause (120 + r) 2)
      ([I.AES_TXP r, F.AES_TXEVT_EVT r] ++ (List.range 24).map (fun k => I.AES_TXE (24 * r.val + k))) := by
  have hlt : ∀ k ∈ s.txDue r, k < 4 := fun k hk => List.mem_range.mp (List.mem_filter.mp hk).1
  refine ⟨?_, fun k => ?_, fun k i => ?_, ?_⟩
  · simpa using get_raiseCause_bit (c := 2) ((s.txDue r).foldl (fun s k => s.txTaken r k) s) (evCause_tx r) (by simp [F.AES_TXEVT_EVT])
  · rw [get_txCause _ _ _ rfl, pending_foldl_txTaken _ hlt s k.isLt]
  · rw [get_txCause _ _ _ rfl, effect_foldl_txTaken _ s i.isLt]
    simp only [List.contains_iff_mem]
  · refine onlyRegsEv_txCause (OnlyRegs.ev ?_) r 2 (by simp)
    exact OnlyRegs.thenFold _ (fun t k hk ht => ht.thenTxTaken (hlt k hk) (by simp) (List.subset_append_right _ _)) (.refl _ _)

end State

open State in
/-- Settles O36, command by command. -/
theorem aesCommandsComplete : Obligations.AesCommandsComplete := by
  unfold Obligations.AesCommandsComplete
  intro s m r
  refine ⟨?_, ?_, ?_, ?_, ?_, ?_, ?_, ?_, ?_, ?_, ?_, ?_, ?_, ?_⟩
  · intro hperf hen hpath hfree
    refine ⟨_, next_of_write hperf (rxCtrlSet_on hen hpath hfree), ?_, ?_, get_set_of_lt _ (by decide : stOK < 2 ^ 8), ?_, ?_⟩
    · simp (disch := exact id rfl) only [rxStatus, get_set_other, get_set_same]
      rfl
    · simp (disch := exact id rfl) only [rxStatus, get_set_other, get_set_same]
      rfl
    · simp (disch := exact id rfl) only [rxStatus, claimAll, List.foldl_cons, List.foldl_nil, get_set_other, get_set_same]
      exact Nat.mod_eq_of_lt (by show 0x0B00 + r.val < 2 ^ 16; omega)
    · simp [onlyRegs_iff, rxStatus, claimAll]
  · intro hperf hen
    have hgo := rxCtrlSet_off hen
    obtain ⟨hlock, hevt⟩ := s.get_rxUnlock r
    have hnames : s.OnlyNames ((s.rxUnlock r).losing (s.rxSources r) (fun s => s.rxDown r)) (rxDownNames ++ unlockNames ++ lostNames) :=
      (((onlyNames_rxUnlock s r).mono (by simp)).trans ((onlyNames_rxDown _ r).mono (by simp))).trans ((losing_names _ _ _).mono (by simp))
    refine ⟨_, next_of_write hperf hgo, ?_, ?_, ?_, ?_, ?_, fun hlocked => ?_, eq_of_rest hnames.1, ?_⟩
    · rw [get_losing _ _ _ rfl]
      simp (disch := exact id rfl) only [rxDown, rxStatus, get_set_other, get_unclaim_other, get_set_same]
      rfl
    · rw [get_losing _ _ _ rfl]
      simp (disch := exact id rfl) only [rxDown, rxStatus, get_set_other, get_unclaim_other, get_set_same]
      rfl
    · rw [get_losing _ _ _ rfl, (onlyNames_rxDown _ r).get rfl]
      exact hlock
    · rw [get_losing _ _ _ rfl]
      exact get_set_of_lt _ (by decide : stOK < 2 ^ 8)
    · rw [get_losing _ _ _ rfl, rxDown, rxStatus, get_set_other _ _ rfl]
      exact get_unclaim_at _ (by unfold fidAesRx; omega) List.mem_cons_self
    · rw [get_losing _ _ _ rfl, (onlyNames_rxDown _ r).get rfl]
      simpa using hevt hlocked
    · refine (hnames.mono (List.append_subset.mpr ⟨?_, List.subset_append_right _ _⟩)).2
      simp [rxDownNames, unlockNames]
  · intro nom hst hlock
    obtain ⟨rate, hgo⟩ := rxLock_eq hst hlock nom.val
    rw [txFollowing_rxLocking] at hgo
    have hback : (s.rxLocking r nom rate).OnlyNames
        ((s.txFollowing r).foldl (fun s t => s.asrcReturn (fidAesTx t)) ((s.rxLocking r nom rate).asrcReturn (fidAesRx r)))
        [F.ASRC_CH_FREEW 0] :=
      (onlyNames_asrcReturn _ _).trans (onlyNames_foldl (fun t _ => onlyNames_asrcReturn t _) _ _)
    refine ⟨_, next_of_eq hgo, ?_, ?_, ?_, fun c hc => ?_, fun k hk c hc => ?_, ?_, fun f hf => ?_⟩
    · rw [hback.get rfl, rxLocking, get_rxCause _ _ _ rfl]
      simp (disch := exact id rfl) only [get_set_other, get_set_same]
      rfl
    · rw [hback.get rfl, rxLocking, get_rxCause _ _ _ rfl, get_set_other _ _ rfl]
      exact get_set_of_lt _ (by show nom.val < 2 ^ 4; omega)
    · rw [hback.get rfl, rxLocking]
      simpa using get_raiseCause_bit (c := 0) (((s.drawn.set (F.AES_RXSTAT_LOCK r) 1).set (F.AES_RXSTAT_NOM r) nom).set (I.RX_RATE r) rate)
        (evCause_rx r) (by simp [F.AES_RXEVT_EVT])
    · exact asrcReturn_foldl_clears _ _ c (.inr (asrcReturn_clears _ _ c (.inl (by rwa [asrcOf_rxLocking]))))
    · exact asrcReturn_foldl_clears _ _ c (.inl ⟨k, hk, by rwa [asrcOf_asrcReturn, asrcOf_rxLocking]⟩)
    · have hrest := hback.1.trans (rest_rxLocking s r nom rate)
      rw [eq_of_rest hrest]
      rfl
    · simp only [List.map_cons, List.map_nil, List.mem_cons, List.not_mem_nil, or_false, not_or] at hf
      obtain ⟨hlocked, hnom, hevt, hrate, hfreew⟩ := hf
      rw [hback.get (by simpa using Ne.symm hfreew)]
      refine get_rxLocking s r nom rate ?_
      simp only [List.all_cons, List.all_nil, Bool.and_true, Bool.and_eq_true, Bool.not_eq_true', beq_eq_false_iff_ne]
      exact ⟨hlocked, hnom, hrate, hevt⟩
  · intro hlock
    obtain ⟨hlock', hevt⟩ := s.get_rxUnlock r
    have hnames := onlyNames_rxUnlock s r
    exact ⟨_, rfl, hlock', by simpa using hevt hlock, fun c hc => freew_rxUnlock hlock c (.inl hc),
      fun k hk c hc => freew_rxUnlock hlock c (.inr ⟨k, hk, hc⟩), eq_of_rest hnames.1, hnames.2⟩
  · intro u cs us hlock
    exact rxBlock_good hlock u cs us
  · intro u len cs us hlock hlen
    have hgo : s.rxBlock r u len cs.toNat us.toNat = s.bump (F.AES_RXCNT_BLKERR r) 1 := by simp [rxBlock, on, hlock, hlen]
    exact ⟨_, next_of_eq hgo, get_bump_same _ _ _, .set _ _ _⟩
  · intro u hlock
    have hgo : s.rxParity r u = (s.bump (F.AES_RXCNT_PERR r) 1).set (I.AES_REP (2 * r + u)) (s.frc + 1) := if_pos (decide_eq_true hlock)
    exact ⟨_, next_of_eq hgo, (get_set_other _ _ rfl).trans (get_bump_same _ _ _), get_set_same _ _ _, by simp [onlyRegs_iff]⟩
  · intro hperf hen hst hbad hpath hfree
    obtain ⟨hiz, hgo⟩ := txCtrlSet_on hen hst hbad hpath hfree
    refine ⟨_, next_of_write hperf hgo, ?_, ?_, get_set_of_lt _ (by decide : stOK < 2 ^ 8), ?_, ?_⟩
    · simp (disch := exact id rfl) only [txStarted, txStatus, flag, get_set_other, get_set_same]
      rfl
    · simp (disch := exact id rfl) only [txStarted, txStatus, get_set_other, get_set_same]
      rfl
    · simp (disch := exact id rfl) only [txStarted, txStatus, flag, claimAll, List.foldl_cons, List.foldl_nil, get_set_other, get_set_same]
      exact Nat.mod_eq_of_lt (by show 0x0B08 + r.val < 2 ^ 16; omega)
    · simp [onlyRegs_iff, txStarted, txStatus, claimAll]
  · intro hperf hen hst hbad
    have hoff : s.on (F.AES_TXCTRL_EN r) = false := by simp [on, hen]
    have hgo : s.txCtrlSet r 0x10 = s.txStatus r stBADARG := by
      have hwant : natBit 0x10 4 = true := rfl
      unfold txCtrlSet
      dsimp only
      rw [hwant, hoff, if_neg (by decide), if_pos rfl, if_pos hbad]
    exact ⟨_, next_of_write hperf hgo, get_set_of_lt _ (by decide : stBADARG < 2 ^ 8), .set _ _ _⟩
  · intro hperf hen hst
    have hdrop := (onlyNames_asrcDropAll (s.txEnding r) (fidAesTx r))
    refine ⟨_, next_of_write hperf (txCtrlSet_off hen hst), ?_, ?_, get_set_of_lt _ (by decide : stOK < 2 ^ 8), fun c hc => ?_, ?_, ?_⟩
    · rw [txStatus, get_set_other _ _ rfl, hdrop.get rfl, txEnding, get_set_other _ _ rfl, get_set_other _ _ rfl, get_set_same]
      rfl
    · rw [txStatus, get_set_other _ _ rfl, hdrop.get rfl, txEnding, get_set_other _ _ rfl, get_set_same]
      rfl
    · rw [txStatus, get_set_other _ _ rfl]
      exact en_foldl_asrcDrop _ _ (.inl (by rwa [asrcOf_txEnding]))
    · rw [txStatus, get_set_other _ _ rfl, hdrop.get rfl]
      exact get_set_same _ _ _
    · exact s.onlyRegs_txEnded r
  · intro hst hready
    have hgo : s.txOn r = (s.set (F.AES_TXCTRL_STATE r) unitON).raiseCause (120 + r) 0 := by
      refine (if_pos ?_).trans (startDone_starting hst _)
      simpa [on] using hready
    refine ⟨_, next_of_eq hgo, ?_, ?_, onlyRegsEv_txCause (by simp [onlyRegsEv_iff]) r 0 (by simp)⟩
    · rw [get_txCause _ _ _ rfl, get_set_same]
      rfl
    · simpa using get_raiseCause_bit (c := 0) (s.set (F.AES_TXCTRL_STATE r) unitON) (evCause_tx r) (by simp [F.AES_TXEVT_EVT])
  · intro hst hen hready
    have hgo : s.txOff r = ((((s.set (F.AES_TXCTRL_STATE r) unitOFF).set (I.TRK_LOCK (40 + r)) 0).unclaim (fidAesTx r) [aesOutSlot r]).raiseCause
        (120 + r) 1) := by
      refine (if_pos ?_).trans (shutDone_off hst hen _ _)
      simpa [on] using hready
    refine ⟨_, next_of_eq hgo, ?_, ?_, ?_, ?_⟩
    · rw [get_txCause _ _ _ rfl, get_unclaim_other _ _ _ rfl, get_set_other _ _ rfl, get_set_same]
      rfl
    · simpa using get_raiseCause_bit (c := 1) (((s.set (F.AES_TXCTRL_STATE r) unitOFF).set (I.TRK_LOCK (40 + r)) 0).unclaim (fidAesTx r)
        [aesOutSlot r]) (evCause_tx r) (by simp [F.AES_TXEVT_EVT])
    · rw [get_txCause _ _ _ rfl]
      exact get_unclaim_at _ (by unfold fidAesTx; omega) List.mem_cons_self
    · refine onlyRegsEv_txCause ?_ r 1 (by simp)
      rw [unclaim_one]
      split <;> simp [onlyRegsEv_iff]
  · intro u b w hperf
    exact ⟨_, next_of_write hperf (txSetWord_staged s r u b w.toNat), txStaged_facts s r u b w⟩
  · exact fun hdue => ⟨_, next_of_eq (txApply_due hdue), txApplied_facts s r⟩

end Sys2Proof.Machine
end

section
/-! A post enters Quince's event queue (R162 to R166). -/

namespace Sys2Proof.Machine

namespace State

/-- The event that an accepted post becomes (R162, R165). -/
def queued (s : State) (p word level src : Nat) (timed entry : Bool) : QEvent :=
  { pip := p, word := word % 2 ^ 128, level := level, master := src, arr := s.get I.QN_ARR, ready := s.get I.QN_RDY,
    heldBlk := if timed && decide (s.blockIx < extend48 (word / 2 ^ 80) s.frc / s.blockLen + 1) then
      some (extend48 (word / 2 ^ 80) s.frc / s.blockLen) else none,
    entry := entry }

/-- The register places in which the queue's own state and that of pip `p` is kept (R152, R162). -/
def queueFields (p : Nat) : List Fld :=
  [I.QN_ARR, I.QN_RDY, F.QN_EVT_EVT, F.PIP13_STATE p, F.PIP13_QCOUNT p, F.QN_EVQ_USED, F.QN_MAXQ_N]

theorem syncUsed_rest (s : State) : s.syncUsed.rest = s.rest := by
  unfold syncUsed
  dsimp only
  split <;> simp

theorem syncUsed_keeps (s : State) : s.KeepsFields s.syncUsed [F.QN_EVQ_USED, F.QN_MAXQ_N, F.QN_EVT_EVT] := by
  have hset : s.KeepsFields ((s.set F.QN_EVQ_USED s.evqUsed).set F.QN_MAXQ_N (max s.evqUsed (s.get F.QN_MAXQ_N)))
      [F.QN_EVQ_USED, F.QN_MAXQ_N, F.QN_EVT_EVT] := by simp
  unfold syncUsed
  dsimp only
  split
  · exact (keepsFields_raise (by rintro e ⟨⟩; decide)).mpr hset
  · exact hset

theorem checkCores_rest (s : State) (p : Nat) : (s.checkCores p).rest = s.rest := by
  unfold checkCores
  split <;> simp

theorem checkCores_keeps (s : State) (p : Nat) : s.KeepsFields (s.checkCores p) [F.QN_EVT_EVT] := by
  unfold checkCores
  split
  · exact .refl s _
  · exact (keepsFields_raise (by rintro e ⟨⟩; decide)).mpr (.refl s _)

theorem refreshEvent_rest (s : State) (p : Nat) : (s.refreshEvent p).rest = s.rest := rfl

theorem refreshEvent_keeps (s : State) (p : Nat) :
    s.KeepsFields (s.refreshEvent p) [F.PIP13_STATE p, F.PIP13_QCOUNT p] := by
  simp [refreshEvent]

/-- A change of what is not a register. -/
theorem keepsFields_of_regs {s t : State} (h : t.regs = s.regs) (fs : List Fld) : s.KeepsFields t fs := fun f _ => by
  rw [State.get, h, State.get]

/-- The number the next event takes is counted on, and the READY event's cores are looked at. -/
def readied (s : State) (p : Nat) : State := (s.takeReady).checkCores p

theorem readied_rest (s : State) (p : Nat) : (s.readied p).rest = s.rest := checkCores_rest _ p

theorem readied_keeps (s : State) (p : Nat) : s.KeepsFields (s.readied p) [I.QN_RDY, F.QN_EVT_EVT] :=
  KeepsFields.trans (t := s.takeReady) ((keepsFields_set (by simp) _).mpr (.refl s _))
    ((checkCores_keeps _ p).mono (by simp))

/-- The event held or READY at the end of the queue (R165). -/
def joined (s : State) (e : QEvent) : State :=
  let t := (s.setQueue (s.qn.queue ++ [e])).set I.QN_ARR (s.get I.QN_ARR + 1)
  if e.heldBlk.isSome then t else t.readied e.pip

theorem joined_rest (s : State) (e : QEvent) : (s.joined e).rest = (s.setQueue (s.qn.queue ++ [e])).rest := by
  unfold joined
  dsimp only
  split
  · rfl
  · exact readied_rest _ _

theorem joined_keeps (s : State) (e : QEvent) : s.KeepsFields (s.joined e) [I.QN_ARR, I.QN_RDY, F.QN_EVT_EVT] := by
  have hjoin : s.KeepsFields ((s.setQueue (s.qn.queue ++ [e])).set I.QN_ARR (s.get I.QN_ARR + 1))
      [I.QN_ARR, I.QN_RDY, F.QN_EVT_EVT] :=
    (keepsFields_set (by simp) _).mpr (keepsFields_of_regs rfl _)
  unfold joined
  dsimp only
  split
  · exact hjoin
  · exact hjoin.trans ((readied_keeps _ _).mono (by simp))

/-- A timed event that is not held is late: counted, with event 42 (R165). -/
def lateCounted (s : State) (late : Bool) : State := if late then (s.bump F.QN_LATE_N 1).raise 42 else s

theorem lateCounted_false (s : State) : s.lateCounted false = s := rfl

theorem lateCounted_rest (s : State) (late : Bool) : (s.lateCounted late).rest = s.rest := by
  unfold lateCounted
  split <;> simp

theorem lateCounted_keeps (s : State) (late : Bool) : s.KeepsFields (s.lateCounted late) [F.QN_LATE_N, F.QN_EVT_EVT] := by
  unfold lateCounted
  split
  · exact (keepsFields_raise (by rintro e ⟨⟩; decide)).mpr ((keepsFields_bump (by simp) _).mpr (.refl s _))
  · exact .refl s _

/-- An accepted post step by step. -/
theorem accept_eq (s : State) (p word level src : Nat) (timed entry : Bool) :
    s.accept p word level src timed entry =
      (((s.joined (s.queued p word level src timed entry)).lateCounted
        (timed && (s.queued p word level src timed entry).heldBlk.isNone)).refreshEvent p).syncUsed := by
  unfold accept joined lateCounted queued
  dsimp only
  generalize extend48 (word / 2 ^ 80) s.frc / s.blockLen = blk
  generalize (timed && decide (s.blockIx < blk + 1)) = held
  cases held
  · simp only [Bool.false_eq_true, if_false, Option.isSome_none, Option.isNone_none, Bool.not_false, readied]
  · simp only [if_true, Option.isSome_some, Option.isNone_some, Bool.not_true, Bool.and_false, Bool.false_eq_true, if_false]

/-- An accepted post changes the queue, which the event joins last, and registers. -/
theorem accept_rest (s : State) (p word level src : Nat) (timed entry : Bool) :
    (s.accept p word level src timed entry).rest =
      (s.setQueue (s.qn.queue ++ [s.queued p word level src timed entry])).rest := by
  rw [accept_eq]
  exact (syncUsed_rest _).trans ((refreshEvent_rest _ _).trans ((lateCounted_rest _ _).trans (joined_rest _ _)))

/-- The registers an accepted post changes. -/
theorem accept_keeps (s : State) (p word level src : Nat) (timed entry : Bool) :
    s.KeepsFields (s.accept p word level src timed entry) (queueFields p ++ [F.QN_LATE_N]) := by
  rw [accept_eq]
  exact (((joined_keeps s _).mono (by simp [queueFields])).trans ((lateCounted_keeps _ _).mono (by simp [queueFields]))).trans
    (((refreshEvent_keeps _ p).mono (by simp [queueFields])).trans ((syncUsed_keeps _).mono (by simp [queueFields])))

/-- A post that names no time is never late. -/
theorem accept_keeps_untimed (s : State) (p word level src : Nat) (entry : Bool) :
    s.KeepsFields (s.accept p word level src false entry) (queueFields p) := by
  rw [accept_eq, Bool.false_and, lateCounted_false]
  exact ((joined_keeps s _).mono (by simp [queueFields])).trans
    (((refreshEvent_keeps _ p).mono (by simp [queueFields])).trans ((syncUsed_keeps _).mono (by simp [queueFields])))

/-- A post that is neither held back nor refused is accepted (R164, R166). -/
theorem postPip_accepts {s : State} {p src : Nat} (hw : s.wouldHold p src = false)
    (hr : s.postReason p (s.postLevel p) = none) (word : Nat) (core : Option Nat) :
    s.postPip p word src core = s.accept p word (s.postLevel p) src (s.on (F.PIP1_TS p)) := by
  rw [postPip, hw, if_neg Bool.false_ne_true, settlePost, hr]

theorem keepsNames_of_keepsFields {s t : State} {fs gs : List Fld} (h : s.KeepsFields t fs)
    (hs : fs.all (fun f => gs.any (fun g => g.id == f.id)) = true) : s.KeepsNames t gs := fun f hf => h f fun hm => hf (by
  obtain ⟨g, hg, he⟩ := List.mem_map.mp hm
  obtain ⟨k, hk, hid⟩ := List.any_eq_true.mp (List.all_eq_true.mp hs g hg)
  exact List.mem_map.mpr ⟨k, hk, (beq_iff_eq.mp hid).trans (congrArg Prod.fst he)⟩)

end State

end Sys2Proof.Machine
end

section
/-! MIDI events of the UARTs (R330 to R332). -/

namespace Sys2Proof.Machine

namespace State

/-! ### What the MIDI event path changes apart from its post -/

/-- Nothing but the UARTs, event deliveries and the listed registers of UART `n` changes. -/
def UartOnly (s t : State) (n : Nat) : Prop :=
  (∃ us, t.rest = ({ s with uarts := us } : State).rest) ∧
    s.KeepsFields t [F.U_EVT_EVT n, F.U_STAT_RTS n, F.U_CNT_ERR n]

theorem UartOnly.refl (s : State) (n : Nat) : s.UartOnly s n := ⟨⟨s.uarts, rfl⟩, .refl s _⟩

theorem UartOnly.trans {s t u : State} {n : Nat} (h : s.UartOnly t n) (k : t.UartOnly u n) : s.UartOnly u n := by
  obtain ⟨⟨us, hrest⟩, hkeep⟩ := h
  obtain ⟨⟨vs, krest⟩, kkeep⟩ := k
  refine ⟨⟨vs, krest.trans ?_⟩, hkeep.trans kkeep⟩
  exact congrArg (fun r : State => ({ r with uarts := vs } : State)) hrest

theorem UartOnly.qn {s t : State} {n : Nat} (h : s.UartOnly t n) : t.qn = s.qn := by
  obtain ⟨⟨us, hrest⟩, -⟩ := h
  have hqn : t.rest.qn = s.qn := by rw [hrest]; rfl
  exact hqn

theorem uartOnly_of_rest {s t : State} {n : Nat} (h : t.rest = s.rest)
    (k : s.KeepsFields t [F.U_EVT_EVT n, F.U_STAT_RTS n, F.U_CNT_ERR n]) : s.UartOnly t n := ⟨⟨s.uarts, h⟩, k⟩

theorem uartOnly_setUart (s : State) (n : Nat) (u : Uart) : s.UartOnly (s.setUart n u) n :=
  ⟨⟨_, rfl⟩, keepsFields_of_regs rfl _⟩

theorem uartOnly_rts (s : State) (n v : Nat) : s.UartOnly (s.set (F.U_STAT_RTS n) v) n :=
  uartOnly_of_rest rfl ((keepsFields_set (by simp) v).mpr (.refl s _))

theorem uartOnly_bump (s : State) (n : Nat) : s.UartOnly (s.bump (F.U_CNT_ERR n) 1) n :=
  uartOnly_of_rest rfl ((keepsFields_bump (by simp) 1).mpr (.refl s _))

theorem evCause_uart (n : Fin 6) : evCause (192 + n) = some (F.U_EVT_EVT n, 0x1FF) := by
  revert n
  decide +kernel

theorem uartOnly_cause (s : State) (n : Fin 6) (c : Nat) : s.UartOnly (s.raiseCause (192 + n) c) n :=
  uartOnly_of_rest (s.rest_raiseCause _ _) ((keepsFields_raiseBits _ (by
    rintro e he
    rw [evCause_uart] at he
    obtain rfl := Option.some.inj he
    exact List.mem_cons_self)).mpr (.refl s _))

theorem uartOnly_uLevels (s : State) (n : Fin 6) : s.UartOnly (s.uLevels n) n := by
  have hcause : ∀ (t : State) (c : Nat) (b : Prop) [Decidable b], t.UartOnly (if b then t.raiseCause (192 + n) c else t) n := by
    intro t c b _
    split
    · exact uartOnly_cause t n c
    · exact .refl t n
  have hrts : s.UartOnly (if s.uState n = unitOFF then s.set (F.U_STAT_RTS n) 0
      else if !s.on (F.U_CFG_FLOW n) then s.set (F.U_STAT_RTS n) 1
      else if s.get (F.U_FLOW_RTSHI n) ≤ (s.uart n).rx.length then s.set (F.U_STAT_RTS n) 0
      else if (s.uart n).rx.length ≤ s.get (F.U_FLOW_RTSLO n) then s.set (F.U_STAT_RTS n) 1 else s) n := by
    split_ifs
    · exact uartOnly_rts s n 0
    · exact uartOnly_rts s n 1
    · exact uartOnly_rts s n 0
    · exact uartOnly_rts s n 1
    · exact .refl s n
  exact hrts.trans ((hcause _ _ _).trans (hcause _ _ _))

theorem uartOnly_uCommit (s : State) (n : Fin 6) (p : MidiStep) : s.UartOnly (s.uCommit n p) n := by
  unfold uCommit
  dsimp only
  split
  · exact ((uartOnly_setUart s n _).trans (uartOnly_bump _ n)).trans (uartOnly_cause _ n 3)
  · exact uartOnly_setUart s n _

theorem uartOnly_uDrain (n : Fin 6) (fuel : Nat) (s : State) : s.UartOnly (uDrain n fuel s) n := by
  induction fuel generalizing s with
  | zero => exact .refl s n
  | succ fuel ih =>
    unfold uDrain
    cases s.uParse n with
    | none => exact .refl s n
    | some p =>
      dsimp only
      split
      · exact .refl s n
      · exact (uartOnly_uCommit s n p).trans (ih _)

/-! ### The post of a completed event -/

/-- What a post of a MIDI event with word `w` does (R332): the event joins the queue last, for the UART's pip. -/
def MidiPosted (s t : State) (n w : Nat) : Prop :=
  t.qn.queue.length = s.qn.queue.length + 1 ∧
  t.qn.queue.getLast?.map (fun q => (q.pip, q.word, q.master)) = some (s.get (F.U_MIDI_PIP n), w % 2 ^ 128, 0xF0 + n) ∧
  t = { s with regs := t.regs, toDeliver := t.toDeliver, uarts := t.uarts, qn := { s.qn with queue := t.qn.queue } } ∧
  s.KeepsNames t ([F.U_EVT_EVT 0, F.U_STAT_RTS 0, F.U_CNT_ERR 0] ++ State.postNames)

theorem keepsNames_of_uartOnly {s t : State} {n : Nat} (h : s.UartOnly t n) :
    s.KeepsNames t ([F.U_EVT_EVT 0, F.U_STAT_RTS 0, F.U_CNT_ERR 0] ++ State.postNames) := by
  obtain ⟨-, hkeep⟩ := h
  exact keepsNames_of_keepsFields hkeep rfl

/-- A change of the parser between the head and its post does not bear on the post. -/
theorem wouldHold_setUart (s : State) (n : Nat) (u : Uart) (p src : Nat) :
    (s.setUart n u).wouldHold p src = s.wouldHold p src := rfl

/-- A head that completes an event of kind `kind` is posted (R330 to R332). -/
theorem uMidiEvent_posts {s : State} {n : Fin 6} {kind : Nat} {p : MidiStep} {e : MidiEvent} (hm : s.uMidi n = true)
    (hl : s.uRxLive n = true) (hposts : s.uPosts n = true) (hp : s.uParse n = some p) (he : p.event = some e)
    (hk : e.kind = kind) (hbad : p.bad = false) :
    s.MidiPosted (s.uMidiEvent n kind) n (e.word n (s.get (F.U_MIDIDLY_DELAY n))) := by
  simp only [uPosts, Bool.and_eq_true, Bool.not_eq_true', Option.isNone_iff_eq_none] at hposts
  obtain ⟨⟨⟨hstand, hmirr⟩, hheld⟩, hreason⟩ := hposts
  generalize hw : e.word n (s.get (F.U_MIDIDLY_DELAY n)) = w
  obtain ⟨v, hv⟩ : ∃ v, s.uCommit n p = s.setUart n v := ⟨_, by rw [uCommit, hbad]; rfl⟩
  have hpost : (s.setUart n v).uPost n w =
      (s.setUart n v).accept (s.get (F.U_MIDI_PIP n)) w (s.postLevel (s.get (F.U_MIDI_PIP n))) (0xF0 + n)
        (s.on (F.PIP1_TS (s.get (F.U_MIDI_PIP n)))) true := by
    rw [uPost]
    refine (if_neg (by rw [show (s.setUart n v).standby = s.standby from rfl, hstand]; exact Bool.false_ne_true)).trans ?_
    refine (if_neg (by rw [show (s.setUart n v).mirrors = s.mirrors from rfl, hmirr]; exact Bool.false_ne_true)).trans ?_
    exact postPip_accepts (s := s.setUart n v) (p := s.get (F.U_MIDI_PIP n)) hheld hreason w none
  have hev : s.uMidiEvent n kind = (uDrain n 64 ((s.setUart n v).uPost n w)).uLevels n := by
    rw [uMidiEvent, hm, hl, hp]
    dsimp only
    rw [he]
    dsimp only
    rw [hk, hheld, hw, hv]
    exact (if_neg (by simp)).trans (if_neg (by simp))
  rw [hev, hpost]
  generalize hq : (s.setUart n v).queued (s.get (F.U_MIDI_PIP n)) w (s.postLevel (s.get (F.U_MIDI_PIP n))) (0xF0 + n)
    (s.on (F.PIP1_TS (s.get (F.U_MIDI_PIP n)))) true = q
  have hrest := (s.setUart n v).accept_rest (s.get (F.U_MIDI_PIP n)) w (s.postLevel (s.get (F.U_MIDI_PIP n))) (0xF0 + n)
    (s.on (F.PIP1_TS (s.get (F.U_MIDI_PIP n)))) true
  have hkeep := (s.setUart n v).accept_keeps (s.get (F.U_MIDI_PIP n)) w (s.postLevel (s.get (F.U_MIDI_PIP n))) (0xF0 + n)
    (s.on (F.PIP1_TS (s.get (F.U_MIDI_PIP n)))) true
  generalize (s.setUart n v).accept _ _ _ _ _ _ = a at hrest hkeep ⊢
  have htail := (uartOnly_uDrain n 64 a).trans (uartOnly_uLevels _ n)
  generalize (uDrain n 64 a).uLevels n = t at htail ⊢
  have hqueue : t.qn.queue = s.qn.queue ++ [q] := by
    rw [htail.qn, ← hq]
    exact congrArg (fun r : State => r.qn.queue) hrest
  have hqn : t.qn = { s.qn with queue := t.qn.queue } := by
    rw [hqueue, htail.qn, ← hq]
    exact congrArg State.qn hrest
  refine ⟨by rw [hqueue, List.length_append, List.length_singleton], ?_, ?_, ?_⟩
  · rw [hqueue, List.getLast?_concat, ← hq]
    rfl
  · obtain ⟨⟨us, htrest⟩, -⟩ := htail
    have hall : t.rest = ({ s with uarts := us, qn := { s.qn with queue := s.qn.queue ++ [q] } } : State).rest := by
      rw [htrest, ← hq]
      exact congrArg (fun r : State => ({ r with uarts := us } : State)) hrest
    have hu : t.uarts = us := congrArg State.uarts hall
    rw [hu, hqueue]
    exact eq_of_rest hall
  · exact (keepsNames_of_uartOnly (uartOnly_setUart s n v)).trans
      ((keepsNames_of_keepsFields hkeep rfl).trans (keepsNames_of_uartOnly htail))

/-- Data bytes of the channel messages with status below 0xC0 (R331). -/
theorem midiNeeds_two {st : Nat} (h : st < 0xC0) : midiNeeds st = 2 := by
  rw [midiNeeds, if_pos h]

/-- What stands at the head of the receive FIFO. -/
theorem uParse_of_head {s : State} {n : Nat} {c : RxChar} (h : (s.uart n).rx.head? = some c) :
    s.uParse n = some ((s.uart n).parse c (s.on (F.U_MIDI_DROPCLK n)) (s.on (F.U_MIDI_DROPAS n))) := by
  obtain ⟨l, hl⟩ := List.head?_eq_some_iff.mp h
  rw [uParse, hl]

theorem uHead_iff {s : State} {n : Nat} {c : RxChar} {x : Option (List Nat)} {msg : List Nat} :
    s.uHead n c x msg = true ↔ s.uMidi n = true ∧ s.uRxLive n = true ∧ (s.uart n).rx.head? = some c ∧ c.ferr = false ∧
      c.perr = false ∧ (s.uart n).sysex = x ∧ (s.uart n).msg = msg := by
  simp [uHead, and_assoc]

end State

/-! ### What the parser makes of a head without errors (R331) -/

/-- A second data byte completes a channel message. -/
theorem Uart.parse_channel {u : Uart} {c : RxChar} {st d : Nat} (a b : Bool) (hf : c.ferr = false) (hp : c.perr = false)
    (hx : u.sysex = none) (hm : u.msg = [st, d]) (hst : st < 0xC0) (hd : c.data < 0x80) :
    (u.parse c a b).bad = false ∧ (u.parse c a b).event =
      some ⟨0x40, u.edge, [st, d, c.data], b2n u.rs + b2n (u.noisy || c.noise) * 16⟩ := by
  have hparse : u.parse c a b = u.take 0x40 st [st, d, c.data] u.edge u.rs (u.noisy || c.noise) := by
    rw [Uart.parse, hf, hp, hx]
    refine (if_neg (by simp)).trans ((if_neg (by omega)).trans ?_)
    simp [Uart.plain, hd, hm, show st < 0xF0 by omega]
  rw [hparse, Uart.take, State.midiNeeds_two hst]
  exact ⟨rfl, rfl⟩

/-- A status byte that needs no data is a message of its own. -/
theorem Uart.parse_common {u : Uart} {c : RxChar} (a b : Bool) (hf : c.ferr = false) (hp : c.perr = false)
    (hx : u.sysex = none) (hd : c.data = 0xF6) :
    (u.parse c a b).bad = false ∧ (u.parse c a b).event = some ⟨0x41, c.edge, [0xF6], b2n c.noise * 16⟩ := by
  have hparse : u.parse c a b = ({ u.drop with run := none } : Uart).take 0x41 0xF6 [0xF6] c.edge false c.noise := by
    rw [Uart.parse, hf, hp, hx, hd]
    simp [Uart.plain, hd]
  rw [hparse]
  exact ⟨rfl, by simp [Uart.take, midiNeeds, Uart.message, b2n]⟩

/-- A realtime byte that is not dropped is an event of its own. -/
theorem Uart.parse_realtime {u : Uart} {c : RxChar} (hf : c.ferr = false) (hp : c.perr = false) (hd : 0xF8 ≤ c.data) :
    (u.parse c false false).bad = false ∧
      (u.parse c false false).event = some ⟨0x42, c.edge, [c.data], b2n c.noise * 16⟩ := by
  rw [Uart.parse, hf, hp, if_neg (by simp), if_pos hd, Bool.and_false, Bool.and_false, if_neg (by simp)]
  exact ⟨rfl, by simp [Uart.message, b2n]⟩

/-- The end of a SysEx message completes its last event. -/
theorem Uart.parse_sysex {u : Uart} {c : RxChar} {bs : List Nat} (a b : Bool) (hf : c.ferr = false) (hp : c.perr = false)
    (hx : u.sysex = some bs) (hd : c.data = 0xF7) :
    (u.parse c a b).bad = false ∧ (u.parse c a b).event =
      some ⟨0x43, c.edge, bs ++ [0xF7], 4 + b2n u.sysStart * 2 + b2n (u.noisy || c.noise) * 16⟩ := by
  have hparse : u.parse c a b = u.gather c bs := by
    rw [Uart.parse, hf, hp, hx, hd]
    simp
  rw [hparse, Uart.gather, if_pos hd, hd]
  exact ⟨rfl, rfl⟩

/-- Settles O40: each head that completes a message is posted, by `uMidiEvent_posts`. -/
theorem midiCommandsComplete : Obligations.MidiCommandsComplete := by
  intro s n c hposts
  refine ⟨fun st d hhead _ hst hd => ?_, fun msg hhead hd => ?_, fun x msg hhead hd _ hclk has => ?_,
    fun bs msg hhead hd => ?_⟩
  all_goals
    obtain ⟨hm, hl, hrx, hf, hp, hx, hmsg⟩ := State.uHead_iff.mp hhead
    refine ⟨_, rfl, ?_⟩
  · obtain ⟨hbad, hev⟩ := Uart.parse_channel (s.on (F.U_MIDI_DROPCLK n)) (s.on (F.U_MIDI_DROPAS n)) hf hp hx hmsg hst hd
    exact State.uMidiEvent_posts hm hl hposts (State.uParse_of_head hrx) hev rfl hbad
  · obtain ⟨hbad, hev⟩ := Uart.parse_common (s.on (F.U_MIDI_DROPCLK n)) (s.on (F.U_MIDI_DROPAS n)) hf hp hx hd
    exact State.uMidiEvent_posts hm hl hposts (State.uParse_of_head hrx) hev rfl hbad
  · have hparse := State.uParse_of_head hrx
    rw [State.on, State.on, hclk, has] at hparse
    obtain ⟨hbad, hev⟩ := Uart.parse_realtime (u := s.uart n) hf hp hd
    exact State.uMidiEvent_posts hm hl hposts hparse hev rfl hbad
  · obtain ⟨hbad, hev⟩ := Uart.parse_sysex (s.on (F.U_MIDI_DROPCLK n)) (s.on (F.U_MIDI_DROPAS n)) hf hp hx hd
    exact State.uMidiEvent_posts hm hl hposts (State.uParse_of_head hrx) hev rfl hbad

end Sys2Proof.Machine
end

section
/-! Bramble's quads, NEXT entries, swaps and crossfade ends (R210 to R221). -/

namespace Sys2Proof.Machine

namespace State

theorem toNat_or_bit31 (w : Word) : (w ||| 0x80000000).toNat = w.toNat ||| 2 ^ 31 := by
  rw [BitVec.toNat_or]
  rfl

theorem natBit_or_bit31 (w : Word) : natBit (w ||| 0x80000000).toNat 31 = true := by
  rw [toNat_or_bit31, natBit_or]
  exact Bool.or_true _

theorem natBit_clear_bit31 (x : Nat) : natBit (x &&& 0x7FFFFFFF) 31 = false := by
  rw [natBit_and]
  exact Bool.and_false _

/-! ### Quads (R211) -/

/-- The fields of word 1 of quad `q`. -/
def quadFields (q : Nat) : List Fld :=
  [F.BRM_QUAD1_EN q, F.BRM_QUAD1_DIR q, F.BRM_QUAD1_DEPTH q, F.BRM_QUAD1_PRODUCER q]

theorem quadSet_enable {s : State} {q w : Nat} (hen : s.get (F.BRM_QUAD1_EN q) = 0) (hw : natBit w 31 = true) :
    s.quadSet q 1 w = if (s.puts (quadFields q) w).quadBad q then s.brmStatus stBADARG
      else (s.puts (quadFields q) w).brmStatus stOK := by
  rw [quadSet, on, hen, hw]
  rfl

theorem quadSet_disable {s : State} {q w : Nat} (hen : s.get (F.BRM_QUAD1_EN q) ≠ 0) (hw : natBit w 31 = false) :
    s.quadSet q 1 w = (s.set (F.BRM_QUAD1_EN q) 0).brmStatus stOK := by
  rw [quadSet, on, if_pos (by simpa using hen), if_pos ⟨rfl, hw⟩]

theorem onlyRegs_brmStatus (s : State) (v : Nat) : s.OnlyRegs (s.brmStatus v) [F.BRM_SWAP_STATUS] :=
  OnlyRegs.set s F.BRM_SWAP_STATUS v

theorem get_brmStatus (s : State) {v : Nat} (hv : v < 256) : (s.brmStatus v).get F.BRM_SWAP_STATUS = v :=
  get_set_of_lt _ hv

/-- What the fields of word 1 hold after a write of it. -/
theorem get_puts_quad (s : State) (q w : Nat) :
    (s.puts (quadFields q) w).get (F.BRM_QUAD1_EN q) = natBits w 31 31 ∧
    (s.puts (quadFields q) w).get (F.BRM_QUAD1_DIR q) = natBits w 30 30 ∧
    (s.puts (quadFields q) w).get (F.BRM_QUAD1_DEPTH q) = natBits w 29 28 ∧
    (s.puts (quadFields q) w).get (F.BRM_QUAD1_PRODUCER q) = natBits w 13 0 := by
  have hmod (f : Fld) : f.of w % 2 ^ f.width = f.of w := Nat.mod_mod _ _
  simp (disch := exact id rfl) only [puts, quadFields, List.foldl, put, get_set_other, get_set_same, hmod]
  exact ⟨Fld.of_eq_natBits (by dsimp only [F.BRM_QUAD1_EN]) rfl w, Fld.of_eq_natBits (by dsimp only [F.BRM_QUAD1_DIR]) rfl w,
    Fld.of_eq_natBits (by dsimp only [F.BRM_QUAD1_DEPTH]) rfl w, Fld.of_eq_natBits (by dsimp only [F.BRM_QUAD1_PRODUCER]) rfl w⟩

/-! ### NEXT entries (R215) -/

def nextFields (d : Nat) : List Fld := [F.NEXT_EN d, F.NEXT_XS d, F.NEXT_XLEN d, F.NEXT_SRC d]

theorem get_nextPut (s : State) (d w : Nat) :
    (s.nextPut d w).get (F.NEXT_EN d) = natBits w 31 31 ∧ (s.nextPut d w).get (F.NEXT_XS d) = natBits w 30 29 ∧
    (s.nextPut d w).get (F.NEXT_XLEN d) = natBits w 26 16 ∧ (s.nextPut d w).get (F.NEXT_SRC d) = natBits w 11 0 := by
  have hmod (f : Fld) : f.of w % 2 ^ f.width = f.of w := Nat.mod_mod _ _
  simp (disch := exact id rfl) only [nextPut, puts, List.foldl, put, get_set_other, get_set_same, hmod]
  exact ⟨Fld.of_eq_natBits (by dsimp only [F.NEXT_EN]) rfl w, Fld.of_eq_natBits (by dsimp only [F.NEXT_XS]) rfl w,
    Fld.of_eq_natBits (by dsimp only [F.NEXT_XLEN]) rfl w, Fld.of_eq_natBits (by dsimp only [F.NEXT_SRC]) rfl w⟩

theorem nextSet_busy {s : State} (h : s.get F.BRM_SWAP_STATE ≠ 0) (d w : Nat) : s.nextSet d w = s.brmStatus stBUSY := by
  rw [nextSet, if_pos h]

theorem nextSet_idle {s : State} (h : s.get F.BRM_SWAP_STATE = 0) (d w : Nat) :
    s.nextSet d w = if nextBad d w then s.brmStatus stBADARG else (s.nextPut d w).brmStatus stOK := by
  rw [nextSet, if_neg (not_not_intro h)]

/-! ### The copy of one table's entries into the other (R219) -/

/-- The fields of an entry of LIVE and of NEXT. -/
def liveFld : Fin 4 → Nat → Fld
  | 0 => F.LIVE_EN | 1 => F.LIVE_XS | 2 => F.LIVE_XLEN | 3 => F.LIVE_SRC
def nextFld : Fin 4 → Nat → Fld
  | 0 => F.NEXT_EN | 1 => F.NEXT_XS | 2 => F.NEXT_XLEN | 3 => F.NEXT_SRC

/-- Entry `d` of the table with the fields `B` copied into the table with the fields `A`. -/
def copyEntry (A B : Fin 4 → Nat → Fld) (s : State) (d : Nat) : State :=
  (((s.set (A 0 d) (s.get (B 0 d))).set (A 1 d) (s.get (B 1 d))).set (A 2 d) (s.get (B 2 d))).set (A 3 d) (s.get (B 3 d))

section
variable {A B : Fin 4 → Nat → Fld}

theorem get_copyEntry_other (s : State) (d : Nat) {g : Fld} (h : ∀ j, (g.id == (A j d).id) = false) :
    (copyEntry A B s d).get g = s.get g := by
  rw [copyEntry, get_set_other _ _ (h 3), get_set_other _ _ (h 2), get_set_other _ _ (h 1), get_set_other _ _ (h 0)]

theorem get_copyEntry_index (s : State) {d : Nat} {g : Fld} (h : ∀ j, g.ix ≠ (A j d).ix) :
    (copyEntry A B s d).get g = s.get g := by
  rw [copyEntry, get_set_index _ _ (h 3), get_set_index _ _ (h 2), get_set_index _ _ (h 1), get_set_index _ _ (h 0)]

theorem get_copyEntry_at (s : State) (d : Nat) (hA : ∀ i j, i ≠ j → ((A i d).id == (A j d).id) = false) (j : Fin 4) :
    (copyEntry A B s d).get (A j d) = s.get (B j d) % 2 ^ (A j d).width := by
  have apart {i k : Fin 4} (h : i ≠ k) (t : State) (v : Nat) : (t.set (A k d) v).get (A i d) = t.get (A i d) :=
    get_set_other t v (hA i k h)
  match j with
  | 0 => rw [copyEntry, apart (by decide), apart (by decide), apart (by decide), get_set_same]
  | 1 => rw [copyEntry, apart (by decide), apart (by decide), get_set_same]
  | 2 => rw [copyEntry, apart (by decide), get_set_same]
  | 3 => rw [copyEntry, get_set_same]

/-- After a change that copies each listed entry, every entry is a copy, where those not listed were copies before. -/
theorem get_foldl_copyEntry {g : State → Nat → State} (hg : ∀ t x f, (g t x).get f = (copyEntry A B t x).get f)
    (hA : ∀ i j d, i ≠ j → ((A i d).id == (A j d).id) = false) (hBA : ∀ i j d e, ((B i d).id == (A j e).id) = false)
    (hix : ∀ j d, (A j d).ix = d) {l : List Nat} {s : State} {d : Nat} (j : Fin 4)
    (hd : d ∉ l → s.get (A j d) = s.get (B j d) % 2 ^ (A j d).width) :
    (l.foldl g s).get (A j d) = s.get (B j d) % 2 ^ (A j d).width := by
  by_cases hl : d ∈ l
  · refine foldl_reaches (P := fun t => t.get (B j d) = s.get (B j d))
      (Q := fun t => t.get (A j d) = s.get (B j d) % 2 ^ (A j d).width) hl ?_ ?_ ?_ rfl
    · intro t x ht
      rw [hg, get_copyEntry_other t x (fun i => hBA j i d x), ht]
    · intro t ht
      rw [hg, get_copyEntry_at t d (fun i k => hA i k d), ht]
    · intro t x hx _ hq
      rw [hg, get_copyEntry_index t (fun i => by rw [hix, hix]; exact fun e => hx e.symm), hq]
  · rw [get_foldl_keep l (fun t x hx => ?_), hd hl]
    rw [hg, get_copyEntry_index t (fun i => by rw [hix, hix]; exact fun e => hl (e ▸ hx))]

end

/-- A register place that no entry of the list holds reads as it does at reset. -/
theorem get_of_unlisted {s : State} {f : Fld} (h : ∀ e ∈ s.regs, e.1 ≠ (f.id, f.ix)) : s.get f = f.rst := by
  unfold get
  generalize s.regs = m at h ⊢
  induction m with
  | nil => rfl
  | cons e m ih =>
    obtain ⟨k, v⟩ := e
    rw [tabGet, if_neg (h (k, v) List.mem_cons_self)]
    exact ih fun e he => h e (List.mem_cons_of_mem _ he)

/-- A destination that neither table lists reads zero in both. -/
theorem get_unlistedDest {s : State} {d : Nat} (h : d ∉ s.listedDests) {f : Fld} (hix : f.ix = d)
    (hf : f.id / 32 = (F.LIVE_EN 0).id / 32 ∨ f.id / 32 = (F.NEXT_EN 0).id / 32) : s.get f = f.rst :=
  get_of_unlisted fun e he hk => h (List.mem_eraseDups.mpr (List.mem_map.mpr ⟨e, List.mem_filter.mpr ⟨he, by
    rw [hk]
    simpa using hf⟩, by rw [hk, hix]⟩))

theorem get_live_unlisted {s : State} {d : Nat} (h : d ∉ s.listedDests) (j : Fin 4) : s.get (liveFld j d) = 0 := by
  fin_cases j
  · exact get_unlistedDest (f := F.LIVE_EN d) h rfl (.inl rfl)
  · exact get_unlistedDest (f := F.LIVE_XS d) h rfl (.inl (by dsimp only [F.LIVE_EN, F.LIVE_XS]))
  · exact get_unlistedDest (f := F.LIVE_XLEN d) h rfl (.inl (by dsimp only [F.LIVE_EN, F.LIVE_XLEN]))
  · exact get_unlistedDest (f := F.LIVE_SRC d) h rfl (.inl (by dsimp only [F.LIVE_EN, F.LIVE_SRC]))

theorem get_next_unlisted {s : State} {d : Nat} (h : d ∉ s.listedDests) (j : Fin 4) : s.get (nextFld j d) = 0 := by
  fin_cases j
  · exact get_unlistedDest (f := F.NEXT_EN d) h rfl (.inr rfl)
  · exact get_unlistedDest (f := F.NEXT_XS d) h rfl (.inr (by dsimp only [F.NEXT_EN, F.NEXT_XS]))
  · exact get_unlistedDest (f := F.NEXT_XLEN d) h rfl (.inr (by dsimp only [F.NEXT_EN, F.NEXT_XLEN]))
  · exact get_unlistedDest (f := F.NEXT_SRC d) h rfl (.inr (by dsimp only [F.NEXT_EN, F.NEXT_SRC]))

theorem liveFld_id (j : Fin 4) (d : Nat) : (liveFld j d).id = (liveFld j 0).id := by fin_cases j <;> rfl
theorem nextFld_id (j : Fin 4) (d : Nat) : (nextFld j d).id = (nextFld j 0).id := by fin_cases j <;> rfl

theorem liveFld_apart (i j : Fin 4) (d : Nat) : i ≠ j → ((liveFld i d).id == (liveFld j d).id) = false := by
  rw [liveFld_id i, liveFld_id j]
  revert i j
  decide

theorem nextFld_apart (i j : Fin 4) (d : Nat) : i ≠ j → ((nextFld i d).id == (nextFld j d).id) = false := by
  rw [nextFld_id i, nextFld_id j]
  revert i j
  decide

theorem next_live_apart (i j : Fin 4) (d e : Nat) : ((nextFld i d).id == (liveFld j e).id) = false := by
  rw [nextFld_id i, liveFld_id j]
  revert i j
  decide

theorem live_next_apart (i j : Fin 4) (d e : Nat) : ((liveFld i d).id == (nextFld j e).id) = false := by
  rw [liveFld_id i, nextFld_id j]
  revert i j
  decide

theorem liveFld_ix (j : Fin 4) (d : Nat) : (liveFld j d).ix = d := by fin_cases j <;> rfl
theorem nextFld_ix (j : Fin 4) (d : Nat) : (nextFld j d).ix = d := by fin_cases j <;> rfl

theorem get_swapDest (t : State) (S x : Nat) (f : Fld) :
    (t.swapDest S x).get f = (copyEntry liveFld nextFld t x).get f := by
  unfold swapDest
  dsimp only
  split <;> rfl

/-- The swap's tick makes LIVE a copy of NEXT (R219). -/
theorem get_live_swapped (s : State) (S : Nat) (j : Fin 4) (d : Nat) :
    (s.listedDests.foldl (fun t d => t.swapDest S d) s).get (liveFld j d) =
      s.get (nextFld j d) % 2 ^ (liveFld j d).width :=
  get_foldl_copyEntry (fun t x f => get_swapDest t S x f) liveFld_apart next_live_apart liveFld_ix j
    (fun h => by rw [get_live_unlisted h, get_next_unlisted h, Nat.zero_mod])

/-- The swap's completion makes NEXT a copy of LIVE (R219). -/
theorem get_next_copied (s : State) (j : Fin 4) (d : Nat) :
    (s.listedDests.foldl (copyEntry nextFld liveFld) s).get (nextFld j d) =
      s.get (liveFld j d) % 2 ^ (nextFld j d).width :=
  get_foldl_copyEntry (fun _ _ _ => rfl) nextFld_apart live_next_apart nextFld_ix j
    (fun h => by rw [get_live_unlisted h, get_next_unlisted h, Nat.zero_mod])

/-! ### Swaps (R217 to R219) -/

theorem swapFault_reason_lt {s : State} {d r : Nat} (h : s.swapFault = some (d, r)) : r < 4 := by
  unfold swapFault at h
  dsimp only at h
  split at h
  · next x hx =>
    obtain ⟨e, -, he⟩ := List.exists_of_findSome?_eq_some hx
    cases h
    split_ifs at he <;> cases he <;> decide
  · split at h
    · obtain ⟨e, -, he⟩ := Option.map_eq_some_iff.mp h
      cases he
      decide
    · cases h

/-- Nothing but the routes, event deliveries and the listed register places changes. -/
def RoutesOnly (s t : State) (fs : List Fld) : Prop := t.rest = ({ s with routes := t.routes } : State).rest ∧ s.KeepsNames t fs

theorem RoutesOnly.trans {s t u : State} {fs : List Fld} (h : s.RoutesOnly t fs) (k : t.RoutesOnly u fs) :
    s.RoutesOnly u fs := by
  obtain ⟨hrest, hkeep⟩ := h
  obtain ⟨krest, kkeep⟩ := k
  exact ⟨krest.trans (congrArg (fun r : State => ({ r with routes := u.routes } : State)) hrest), hkeep.trans kkeep⟩

theorem routesOnly_foldl {α : Type} {fs : List Fld} {g : State → α → State} (h : ∀ t x, State.RoutesOnly t (g t x) fs)
    (l : List α) (s : State) : s.RoutesOnly (l.foldl g s) fs := by
  induction l generalizing s with
  | nil => exact ⟨rfl, fun _ _ => rfl⟩
  | cons x l ih => exact (h s x).trans (ih (g s x))

theorem routesOnly_of_onlyNames {s t : State} {fs : List Fld} (h : s.OnlyNames t fs) : s.RoutesOnly t fs := by
  obtain ⟨hrest, hkeep⟩ := h
  have hroutes : t.rest.routes = s.rest.routes := by rw [hrest]
  exact ⟨hrest.trans (congrArg (fun r => ({ s with routes := r } : State).rest) hroutes.symm), hkeep⟩

theorem onlyNames_copyEntry {A B : Fin 4 → Nat → Fld} {fs : List Fld} (h : ∀ j d, fs.any (fun g => g.id == (A j d).id) = true)
    (s : State) (d : Nat) : s.OnlyNames (copyEntry A B s d) fs :=
  (((onlyNames_set (h 0 d) _).trans (onlyNames_set (h 1 d) _)).trans (onlyNames_set (h 2 d) _)).trans
    (onlyNames_set (h 3 d) _)

/-- The register places of the tables' entries. -/
def liveNames : List Fld := [F.LIVE_EN 0, F.LIVE_XS 0, F.LIVE_XLEN 0, F.LIVE_SRC 0]
def nextNames : List Fld := [F.NEXT_EN 0, F.NEXT_XS 0, F.NEXT_XLEN 0, F.NEXT_SRC 0]

theorem liveNames_any (j : Fin 4) (d : Nat) : liveNames.any (fun g => g.id == (liveFld j d).id) = true := by
  rw [liveFld_id]
  revert j
  decide

theorem nextNames_any (j : Fin 4) (d : Nat) : nextNames.any (fun g => g.id == (nextFld j d).id) = true := by
  rw [nextFld_id]
  revert j
  decide

theorem routesOnly_swapDest (S : Nat) (s : State) (d : Nat) : s.RoutesOnly (s.swapDest S d) liveNames := by
  obtain ⟨hrest, hkeep⟩ := onlyNames_copyEntry (B := nextFld) liveNames_any s d
  have hroute : (s.swapDest S d).rest = ({ s with routes := (s.swapDest S d).routes } : State).rest := by
    unfold swapDest
    dsimp only
    split <;> rfl
  exact ⟨hroute, fun f hf => (get_swapDest s S d f).trans (hkeep f hf)⟩

/-- What a swap's tick writes after the entries. -/
def swapMarked (t : State) (n : Nat) : State := ((t.set F.BRM_SWAP_STATE 2).set I.SWAP_F n).raise 64

theorem swapTick_reached {s : State} (hst : s.get F.BRM_SWAP_STATE = 1)
    (hr : s.reached (s.get I.SWAP_S - s.get I.SWAP_S % s.blockLen) = true) :
    s.swapTick = swapMarked (s.listedDests.foldl (fun t d => t.swapDest (s.get I.SWAP_S) d) s)
      (s.get I.SWAP_S - s.get I.SWAP_S % s.blockLen) := by
  unfold swapTick
  dsimp only
  rw [if_pos ⟨hst, hr⟩]
  rfl

theorem get_swapMarked_entry (t : State) (n : Nat) {f : Fld}
    (h : [F.BRM_SWAP_STATE, I.SWAP_F, F.BRM_EVT_EVT].any (fun g => f.id == g.id) = false) :
    (t.swapMarked n).get f = t.get f := by
  simp only [List.any_cons, List.any_nil, Bool.or_false, Bool.or_eq_false_iff] at h
  obtain ⟨hst, hf, hev⟩ := h
  rw [swapMarked, get_raise_apart _ (by simpa [evCause] using hev), get_set_other _ _ hf, get_set_other _ _ hst]

theorem onlyNames_swapMarked (t : State) (n : Nat) :
    t.OnlyNames (t.swapMarked n) [F.BRM_SWAP_STATE, I.SWAP_F, F.BRM_EVT_EVT] :=
  ((onlyNames_set rfl 2).trans (onlyNames_set rfl n)).trans (onlyNames_raise rfl)

/-- What a swap's completion writes after the entries. -/
def swapEnded (t : State) : State :=
  ((t.set F.BRM_SWAP_STATE 0).set F.BRM_SWAPCNT_N (t.get F.BRM_SWAPCNT_N + 1)).raise 65

theorem swapDone_due {s : State} (hst : s.get F.BRM_SWAP_STATE = 2) (hf : s.get I.SWAP_F + 3 * s.blockLen ≤ s.frc) :
    s.swapDone = swapEnded (s.listedDests.foldl (copyEntry nextFld liveFld) s) := by
  rw [swapDone, if_pos ⟨hst, hf⟩]
  rfl

theorem get_swapEnded_entry (t : State) {f : Fld}
    (h : [F.BRM_SWAP_STATE, F.BRM_SWAPCNT_N, F.BRM_EVT_EVT].any (fun g => f.id == g.id) = false) :
    t.swapEnded.get f = t.get f := by
  simp only [List.any_cons, List.any_nil, Bool.or_false, Bool.or_eq_false_iff] at h
  obtain ⟨hst, hc, hev⟩ := h
  rw [swapEnded, get_raise_apart _ (by simpa [evCause] using hev), get_set_other _ _ hc, get_set_other _ _ hst]

theorem onlyNames_swapEnded (t : State) :
    t.OnlyNames t.swapEnded [F.BRM_SWAP_STATE, F.BRM_SWAPCNT_N, F.BRM_EVT_EVT] :=
  ((onlyNames_set rfl 0).trans (onlyNames_set rfl _)).trans (onlyNames_raise rfl)

theorem RoutesOnly.mono {s t : State} {fs gs : List Fld} (h : s.RoutesOnly t fs) (hs : fs ⊆ gs) : s.RoutesOnly t gs := by
  obtain ⟨hrest, hkeep⟩ := h
  refine ⟨hrest, fun f hf => hkeep f fun hm => hf ?_⟩
  obtain ⟨g, hg, he⟩ := List.mem_map.mp hm
  exact List.mem_map.mpr ⟨g, hs hg, he⟩

theorem eq_of_routesOnly {s t : State} {fs : List Fld} (h : s.RoutesOnly t fs) :
    t = { s with regs := t.regs, toDeliver := t.toDeliver, routes := t.routes } := eq_of_rest h.1

theorem route_setRoute (s : State) (d : Nat) (r : Route) : (s.setRoute d r).route d = r := tabGet_set_same _ _ _ _ _

theorem route_setRoute_ne (s : State) {d k : Nat} (r : Route) (h : k ≠ d) : (s.setRoute d r).route k = s.route k :=
  tabGet_set_ne _ _ _ _ _ h

theorem onlyRegs_puts (s : State) (fs : List Fld) (w : Nat) : s.OnlyRegs (s.puts fs w) fs :=
  onlyRegs_iff.mpr ⟨⟨s.rest_puts fs w, s.toDeliver_puts fs w⟩, (keepsFields_puts (List.Subset.refl fs) w).mpr (.refl s fs)⟩

/-! ### The writes of `BRM_SWAP` -/

theorem swapSet_arm (s : State) (m : Master) :
    s.swapSet m 0x10 = s.swapArm m.id (s.pair F.BRM_SWAP_FRC_LO_S F.BRM_SWAP_FRC_HI_S) := rfl

theorem swapSet_disarm (s : State) (m : Master) : s.swapSet m 0x20 = s.swapDisarm := rfl

theorem swapArm_near {s : State} {id S : Nat} (hst : s.get F.BRM_SWAP_STATE = 0) (h : S < s.frc + 2 * s.blockLen) :
    s.swapArm id S = s.brmStatus stBADARG := by
  rw [swapArm, if_neg (not_not_intro hst), if_pos h]

theorem swapArm_faulty {s : State} {id S d r : Nat} (hst : s.get F.BRM_SWAP_STATE = 0) (h : s.frc + 2 * s.blockLen ≤ S)
    (hf : s.swapFault = some (d, r)) :
    s.swapArm id S = ((s.set F.BRM_SWAP_BAD_DEST d).set F.BRM_SWAP_BAD_REASON r).brmStatus stBADARG := by
  rw [swapArm, if_neg (not_not_intro hst), if_neg (Nat.not_lt.mpr h), hf]

theorem swapArm_ok {s : State} {id S : Nat} (hst : s.get F.BRM_SWAP_STATE = 0) (h : s.frc + 2 * s.blockLen ≤ S)
    (hf : s.swapFault = none) :
    s.swapArm id S = (((s.set F.BRM_SWAP_STATE 1).set F.BRM_SWAP_MASTER id).set I.SWAP_S S).brmStatus stOK := by
  rw [swapArm, if_neg (not_not_intro hst), if_neg (Nat.not_lt.mpr h), hf]

theorem swapDisarm_swapping {s : State} (h : s.get F.BRM_SWAP_STATE = 2) : s.swapDisarm = s.brmStatus stBUSY := by
  rw [swapDisarm, if_pos h]

theorem swapDisarm_armed {s : State} (h : s.get F.BRM_SWAP_STATE ≠ 2) :
    s.swapDisarm = (s.set F.BRM_SWAP_STATE 0).brmStatus stOK := by
  rw [swapDisarm, if_neg h]

end State

/-- What remains of a list from its last element on. -/
theorem drop_pred_length {α : Type} {l : List α} {c : α} (h : l.getLast? = some c) : l.drop (l.length - 1) = [c] := by
  obtain ⟨l, rfl⟩ := List.getLast?_eq_some_iff.mp h
  simp

/-- A one-bit field with its bit set. -/
theorem one_or_lt_two {x : Nat} (h : x < 2) : x ||| 1 = 1 := by
  interval_cases x <;> rfl

theorem natBits_bit31 : natBits (2 ^ 31) 31 31 = 1 := rfl

/-- Settles O32: the writes by cases of what refuses them, the swap's tick and end by the copies of the entries. -/
theorem brambleCommandsComplete : Obligations.BrambleCommandsComplete := by
  intro s m
  refine ⟨fun q w hp hen hgood => ?_, fun q w hp hen hbad => ?_, fun q hp hen => ?_, fun d w hp hst hgood => ?_,
    fun d w hp hst hbad => ?_, fun d w hp hst => ?_, fun hp hst hfar hok => ?_, fun d r hp hst hfar hf => ?_,
    fun hp hst hnear => ?_, fun hp hst => ?_, fun hp hst => ?_, fun hst hr => ?_, fun hst hr => ?_,
    fun d c hfade hrem hlast => ?_⟩
  · obtain ⟨hen', hdir, hdepth, hprod⟩ := s.get_puts_quad q (w ||| 0x80000000).toNat
    have hput : s.quadSet q 1 (w ||| 0x80000000).toNat = (s.puts (State.quadFields q) (w ||| 0x80000000).toNat).brmStatus stOK :=
      (State.quadSet_enable hen (State.natBit_or_bit31 w)).trans (if_neg (Bool.eq_false_iff.mp hgood))
    refine ⟨_, State.next_of_write hp hput, ?_, ?_, ?_, ?_, State.get_brmStatus _ (by decide), ?_⟩
    · rw [State.brmStatus, State.get_set_other _ _ rfl, hen', State.toNat_or_bit31, natBits_or, natBits_bit31]
      exact one_or_lt_two (Nat.mod_lt _ (by decide))
    · rw [State.brmStatus, State.get_set_other _ _ rfl, hdir, natBits_or_clear rfl w 0x80000000 rfl]
    · rw [State.brmStatus, State.get_set_other _ _ rfl, hdepth, natBits_or_clear rfl w 0x80000000 rfl]
    · rw [State.brmStatus, State.get_set_other _ _ rfl, hprod, natBits_or_clear rfl w 0x80000000 rfl]
    · exact (State.onlyRegs_puts s _ _).trans (State.onlyRegs_brmStatus _ _)
  · have hput : s.quadSet q 1 (w ||| 0x80000000).toNat = s.brmStatus stBADARG :=
      (State.quadSet_enable hen (State.natBit_or_bit31 w)).trans (if_pos hbad)
    exact ⟨_, State.next_of_write hp hput, s.get_brmStatus (by decide), s.onlyRegs_brmStatus _⟩
  · refine ⟨_, State.next_of_write hp (State.quadSet_disable hen (State.natBit_clear_bit31 _)), ?_,
      State.get_brmStatus _ (by decide), ?_⟩
    · exact (State.get_set_other _ _ rfl).trans (State.get_set_same s _ 0)
    · exact (State.OnlyRegs.set s _ 0).trans (State.onlyRegs_brmStatus _ _)
  · obtain ⟨hen, hxs, hxlen, hsrc⟩ := s.get_nextPut d w.toNat
    have hput : s.nextSet d w.toNat = (s.nextPut d w.toNat).brmStatus stOK :=
      (State.nextSet_idle hst d _).trans (if_neg (Bool.eq_false_iff.mp hgood))
    refine ⟨_, State.next_of_write hp hput, ?_, ?_, ?_, ?_, State.get_brmStatus _ (by decide), ?_⟩
    · exact (State.get_set_other _ _ rfl).trans hen
    · exact (State.get_set_other _ _ rfl).trans hxs
    · exact (State.get_set_other _ _ rfl).trans hxlen
    · exact (State.get_set_other _ _ rfl).trans hsrc
    · exact (State.onlyRegs_puts s _ _).trans (State.onlyRegs_brmStatus _ _)
  · exact ⟨_, State.next_of_write hp ((State.nextSet_idle hst d _).trans (if_pos hbad)), s.get_brmStatus (by decide),
      s.onlyRegs_brmStatus _⟩
  · exact ⟨_, State.next_of_write hp (State.nextSet_busy hst d _), s.get_brmStatus (by decide), s.onlyRegs_brmStatus _⟩
  · refine ⟨_, State.next_of_write hp ((State.swapSet_arm s m).trans (State.swapArm_ok hst hfar hok)), ?_, ?_, ?_, State.get_brmStatus _ (by decide), ?_⟩
    · exact (State.get_set_other _ _ rfl).trans ((State.get_set_other _ _ rfl).trans
        ((State.get_set_other _ _ rfl).trans (State.get_set_same s _ 1)))
    · exact (State.get_set_other _ _ rfl).trans ((State.get_set_other _ _ rfl).trans
        (State.get_set_of_lt _ (by cases m <;> decide)))
    · exact (State.get_set_other _ _ rfl).trans (State.get_set_same _ _ _)
    · exact (((State.OnlyRegs.set s _ 1).trans (State.OnlyRegs.set _ _ _)).trans (State.OnlyRegs.set _ _ _)).trans
        (State.onlyRegs_brmStatus _ _)
  · refine ⟨_, State.next_of_write hp ((State.swapSet_arm s m).trans (State.swapArm_faulty hst hfar hf)), ?_, ?_,
      State.get_brmStatus _ (by decide), ?_⟩
    · exact (State.get_set_other _ _ rfl).trans ((State.get_set_other _ _ rfl).trans (State.get_set_same s _ d))
    · have hr := State.swapFault_reason_lt hf
      refine (State.get_set_other _ _ rfl).trans ((State.get_set_same _ _ r).trans ?_)
      rw [Nat.mod_eq_of_lt hr]
      exact Nat.mod_eq_of_lt (hr.trans (by decide))
    · exact ((State.OnlyRegs.set s _ d).trans (State.OnlyRegs.set _ _ r)).trans (State.onlyRegs_brmStatus _ _)
  · exact ⟨_, State.next_of_write hp ((State.swapSet_arm s m).trans (State.swapArm_near hst hnear)),
      s.get_brmStatus (by decide), s.onlyRegs_brmStatus _⟩
  · refine ⟨_, State.next_of_write hp ((State.swapSet_disarm s m).trans (State.swapDisarm_armed hst)), ?_,
      State.get_brmStatus _ (by decide), ?_⟩
    · exact (State.get_set_other _ _ rfl).trans (State.get_set_same s _ 0)
    · exact (State.OnlyRegs.set s _ 0).trans (State.onlyRegs_brmStatus _ _)
  · exact ⟨_, State.next_of_write hp ((State.swapSet_disarm s m).trans (State.swapDisarm_swapping hst)),
      s.get_brmStatus (by decide), s.onlyRegs_brmStatus _⟩
  · refine ⟨_, State.next_of_eq (State.swapTick_reached hst hr), ?_⟩
    have hentries := s.get_live_swapped (s.get I.SWAP_S)
    have honly := State.routesOnly_foldl (State.routesOnly_swapDest (s.get I.SWAP_S)) s.listedDests s
    generalize s.listedDests.foldl (fun t d => t.swapDest (s.get I.SWAP_S) d) s = t at hentries honly ⊢
    have hall := (honly.mono (List.subset_append_left _ _)).trans
      ((State.routesOnly_of_onlyNames (t.onlyNames_swapMarked (s.get I.SWAP_S - s.get I.SWAP_S % s.blockLen))).mono
        (List.subset_append_right State.liveNames _))
    refine ⟨?_, ?_, fun d => ⟨?_, ?_, ?_, ?_⟩, State.eq_of_routesOnly hall, hall.2⟩
    · exact (State.get_raise_apart _ rfl).trans ((State.get_set_other _ _ rfl).trans (State.get_set_same _ _ 2))
    · exact (congrArg (· % 2) (Nat.div_one _)).symm.trans (State.get_raise_bit _ (k := 0) rfl (by decide))
    · exact (t.get_swapMarked_entry _ rfl).trans (hentries 0 d)
    · exact (t.get_swapMarked_entry _ rfl).trans (hentries 3 d)
    · exact (t.get_swapMarked_entry _ rfl).trans (hentries 1 d)
    · exact (t.get_swapMarked_entry _ rfl).trans (hentries 2 d)
  · refine ⟨_, State.next_of_eq (State.swapDone_due hst hr), ?_⟩
    have hentries := s.get_next_copied
    have honly := State.onlyNames_foldl (State.onlyNames_copyEntry (B := State.liveFld) State.nextNames_any) s.listedDests s
    generalize s.listedDests.foldl (State.copyEntry State.nextFld State.liveFld) s = t at hentries honly ⊢
    obtain ⟨hrest, hkeep⟩ := (honly.mono (List.subset_append_left _ _)).trans
      ((t.onlyNames_swapEnded).mono (List.subset_append_right State.nextNames _))
    refine ⟨?_, ?_, ?_, fun d => ⟨?_, ?_, ?_, ?_⟩, State.eq_of_rest hrest, hkeep⟩
    · exact (State.get_raise_apart _ rfl).trans ((State.get_set_other _ _ rfl).trans (State.get_set_same _ _ 0))
    · exact State.get_raise_bit _ (k := 1) rfl (by decide)
    · refine (State.get_raise_apart _ rfl).trans ((State.get_set_same _ _ _).trans ?_)
      rw [honly.get rfl]
      rfl
    · exact (t.get_swapEnded_entry rfl).trans (hentries 0 d)
    · exact (t.get_swapEnded_entry rfl).trans (hentries 3 d)
    · exact (t.get_swapEnded_entry rfl).trans (hentries 1 d)
    · exact (t.get_swapEnded_entry rfl).trans (hentries 2 d)
  · have hend : s.fadeEnd d = s.setRoute d { s.route d with fade := none, cs := [c] } := by
      rw [State.fadeEnd, if_pos ⟨hfade, hrem⟩, drop_pred_length hlast]
    refine ⟨_, State.next_of_eq hend, ?_, ?_, ?_, fun k hk => ?_, rfl⟩
    · rw [State.route_setRoute]
    · rw [State.route_setRoute]
    · rw [State.route_setRoute]
    · exact State.route_setRoute_ne s _ fun e => hk (Fin.ext e)

end Sys2Proof.Machine
end

section
/-! Register words whose fields a change does not list (R11), and the words of a pip (R152). -/

namespace Sys2Proof.Machine

/-- A row in which an address lies is found in the table. -/
theorem findReg_some {addr : Nat} {l : List RegRow} {r : RegRow} {i ix : Nat} (h : findReg addr l = some (r, i, ix)) :
    r ∈ l ∧ r.find addr ≠ none := by
  induction l with
  | nil => cases h
  | cons x l ih =>
    unfold findReg at h
    cases hx : x.find addr with
    | none =>
      rw [hx] at h
      exact (ih h).imp_left (List.mem_cons_of_mem _)
    | some e =>
      rw [hx] at h
      cases h
      exact ⟨List.mem_cons_self, by rw [hx]; exact Option.some_ne_none _⟩

/-- Every field of the map lies within its word. -/
theorem regTable_fields_lt : ∀ r ∈ regTable, ∀ f ∈ r.fields, f.lo < 32 := by
  decide +kernel

/-- The rows that hold one of the fields `fs`. -/
def RegRow.holds (r : RegRow) (fs : List Fld) : Bool := fs.any (fun g => g.id / 32 == r.base)

namespace State

/-- A register word at an address where none of the changed fields lies reads as before. -/
theorem regWord_of_keeps {s t : State} {fs : List Fld} {addr : Nat} (h : s.KeepsNames t fs)
    (hrow : ∀ r ∈ regTable, r.holds fs = true → r.find addr = none) : t.regWord addr = s.regWord addr := by
  unfold regWord
  cases hr : findReg addr regTable with
  | none => rfl
  | some e =>
    obtain ⟨r, i, ix⟩ := e
    obtain ⟨hmem, hfind⟩ := findReg_some hr
    have hget : ∀ f ∈ r.fields, t.get (f.fld r i ix) = s.get (f.fld r i ix) := by
      refine fun f hf => h _ fun hm => hfind (hrow r hmem ?_)
      obtain ⟨g, hg, he⟩ := List.mem_map.mp hm
      have hlo := regTable_fields_lt r hmem f hf
      have hid : g.id = r.base * 32 + f.lo := he
      exact List.any_eq_true.mpr ⟨g, hg, beq_iff_eq.mpr (by omega)⟩
    dsimp only
    unfold rowWord
    generalize r.fields = l at hget
    generalize 0 = w
    induction l generalizing w with
    | nil => rfl
    | cons f l ih =>
      rw [List.foldl_cons, List.foldl_cons, hget f List.mem_cons_self]
      exact ih (fun g hg => hget g (List.mem_cons_of_mem _ hg)) _

/-- What placement and the queue write beside a pip's own words. -/
def placeNames : List Fld :=
  [I.EC_WORK 0, F.PIP13_STATE 0, F.PIP13_QCOUNT 0, F.QN_EVQ_USED, F.QN_MAXQ_N, F.QN_EVT_EVT, F.EC_CTRL_HALT 0]

/-- The rows of those fields: below the pip store, or word 13 of a pip. -/
theorem placeNames_rows : ∀ r ∈ regTable, r.holds placeNames = true → r.stride2 = 0 ∧
    ((r.stride1 = 0 ∧ r.base < 0xC00000) ∨ (0 < r.stride1 ∧ r.base + r.count1 * r.stride1 ≤ 0xC00000) ∨ (r.stride1 = 64 ∧ r.base % 64 = 52)) := by
  decide +kernel

theorem placeNames_find {r : RegRow} (hr : r ∈ regTable) (h : r.holds placeNames = true) {p k : Nat} (hk : k < 13) :
    r.find (0xC00000 + 64 * p + 4 * k) = none := by
  obtain ⟨h2, hcase⟩ := placeNames_rows r hr h
  unfold RegRow.find
  split
  · rfl
  · dsimp only
    rw [if_neg]
    rintro ⟨hz, hi, -⟩
    rcases hcase with ⟨h1, hb⟩ | ⟨h1, hb⟩ | ⟨h1, hb⟩
    · rw [if_pos h1] at hz
      omega
    · rw [if_neg h1.ne', Nat.div_lt_iff_lt_mul h1] at hi
      omega
    · rw [h1, if_neg (by decide)] at hz
      omega

/-- A change of what placement and the queue write leaves every pip's words (R152). -/
theorem pipWords_of_keeps {s t : State} (h : s.KeepsNames t placeNames) (p : Nat) : t.pipWords p = s.pipWords p :=
  List.map_congr_left fun _ hk =>
    regWord_of_keeps h fun _ hr hh => placeNames_find hr hh (List.mem_range.mp hk)

end State

end Sys2Proof.Machine
end

section
/-! Cores halt and resume, posts are queued, pips are placed in NEXT slots (R101, R162 to R169). -/

namespace Sys2Proof.Machine

namespace State

/-! ### NEXT slots emptied and filled (R168, R170) -/

theorem unlockFrames_frames (c : Core) : ∃ fr, unlockFrames c = { c with frames := fr } := by
  unfold unlockFrames
  generalize [0, 1, 2, 3] = l
  induction l generalizing c with
  | nil => exact ⟨c.frames, rfl⟩
  | cons f l ih =>
    rw [List.foldl_cons]
    dsimp only
    split
    · exact ih _
    · exact ih c

theorem abandonLoad_frames (c : Core) (f : Nat) : ∃ fr, abandonLoad c f = { c with frames := fr } := by
  unfold abandonLoad
  dsimp only
  split
  · exact ⟨_, rfl⟩
  · exact ⟨c.frames, rfl⟩

/-- A core whose NEXT slot is emptied. -/
def withoutNext (c : Core) (f : Nat) : Core := unlockFrames (abandonLoad { c with next := none } f)

theorem withoutNext_frames (c : Core) (f : Nat) : ∃ fr, withoutNext c f = { c with next := none, frames := fr } := by
  obtain ⟨fr, hload⟩ := abandonLoad_frames { c with next := none } f
  obtain ⟨gr, hlock⟩ := unlockFrames_frames (abandonLoad { c with next := none } f)
  exact ⟨gr, by rw [withoutNext, hlock, hload]⟩

theorem toDeliver_refreshEvent (s : State) (p : Nat) : (s.refreshEvent p).toDeliver = s.toDeliver := by
  unfold refreshEvent
  rfl

/-- What the removal of the NEXT pip does (R168): the slot is empty, the core's banks and every other core stand. -/
structure NextReturned (s t : State) (n : Nat) : Prop where
  rest : ∃ cs q, t.rest = ({ s with cores := cs, qn := { s.qn with queue := q } } : State).rest
  toDeliver : t.toDeliver = s.toDeliver
  keeps : s.KeepsFields t (s.returnFields n)
  core : ∃ fr, t.core n = { s.core n with next := none, frames := fr }
  others : ∀ k, k ≠ n → t.core k = s.core k

theorem returnNext_returned (s : State) (n : Nat) : s.NextReturned (s.returnNext n) n := by
  cases hn : (s.core n).next with
  | none =>
    have ht : s.returnNext n = s := by rw [returnNext, hn]
    rw [ht]
    refine ⟨⟨s.cores, s.qn.queue, rfl⟩, rfl, .refl s _, ⟨(s.core n).frames, ?_⟩, fun _ _ => rfl⟩
    rw [← hn]
  | some r =>
    have hdrop : s.dropNext n = s.setCore n (withoutNext (s.core n) r.frame) := by
      rw [dropNext, hn]
      rfl
    obtain ⟨fr, hfr⟩ := withoutNext_frames (s.core n) r.frame
    have hcore := core_setCore_same s n (withoutNext (s.core n) r.frame)
    have hother : ∀ k, k ≠ n → (s.setCore n (withoutNext (s.core n) r.frame)).core k = s.core k :=
      fun k hk => core_setCore_ne s _ hk
    generalize hc : withoutNext (s.core n) r.frame = c at hdrop hfr hcore hother
    cases he : r.ev with
    | none =>
      have hfields : s.returnFields n = [F.PIP13_STATE r.pip] := by
        rw [returnFields, hn]
        dsimp only
        rw [he]
      have ht : s.returnNext n = (s.setCore n c).set (F.PIP13_STATE r.pip) 2 := by
        rw [returnNext, hn]
        dsimp only
        rw [he, hdrop]
      rw [ht]
      refine ⟨⟨_, s.qn.queue, rfl⟩, rfl, ?_, ⟨fr, hcore.trans hfr⟩, hother⟩
      rw [hfields]
      exact (keepsFields_set (by simp) 2).mpr (keepsFields_of_regs rfl _)
    | some e =>
      have hfields : s.returnFields n = [F.PIP13_STATE e.pip, F.PIP13_QCOUNT e.pip] := by
        rw [returnFields, hn]
        dsimp only
        rw [he]
      have hsame : (s.setCore n c).qn = s.qn := rfl
      have ht : s.returnNext n = ((s.setCore n c).setQueue (s.qn.queue ++ [e])).refreshEvent e.pip := by
        rw [returnNext, hn]
        dsimp only
        rw [he, hdrop]
        dsimp only
        rw [hsame]
      have hqueue : s.KeepsFields ((s.setCore n c).setQueue (s.qn.queue ++ [e])) (s.returnFields n) := keepsFields_of_regs rfl _
      have hrest := refreshEvent_rest ((s.setCore n c).setQueue (s.qn.queue ++ [e])) e.pip
      have hdel := toDeliver_refreshEvent ((s.setCore n c).setQueue (s.qn.queue ++ [e])) e.pip
      have hkeep := refreshEvent_keeps ((s.setCore n c).setQueue (s.qn.queue ++ [e])) e.pip
      rw [← hfields] at hkeep
      have hcores (k : Nat) : (((s.setCore n c).setQueue (s.qn.queue ++ [e])).refreshEvent e.pip).core k = (s.setCore n c).core k := by
        have hsame := congrArg (fun x : State => x.core k) hrest
        exact hsame
      rw [ht]
      exact ⟨⟨_, _, hrest⟩, hdel, hqueue.trans hkeep, ⟨fr, (hcores n).trans (hcore.trans hfr)⟩,
        fun k hk => (hcores k).trans (hother k hk)⟩

/-- The run of a pip placed on core `n` (R170). -/
def placedRun (s : State) (n p : Nat) (ev : Option QEvent) (ready : Nat) : PipRun :=
  let copy := s.pipWords p
  let img := natBits (copy.getD 0 0) 31 16
  let fl := pickFrame (s.core n) (match ev with | some e => decide (e.level < 4) | none => false) img
  { pip := p, copy := copy, blk := s.get (I.PIP_BLK p), ev := ev.map (fun e => { e with entry := false }), ready := ready,
    frame := fl.1, landed := false, posts := 0, skip := 0, reruns := 0, level := none, ended := false, qdone := false,
    late := false, load := fl.2,
    isrc := 16 * (s.get (F.QN_IMG0_SRCW img) + 2 ^ 32 * s.get (F.QN_IMG1_SRCWH img)),
    idram := s.on (F.QN_IMG1_D img), ilen := 16 * s.get (F.QN_IMG1_LENW img), events := [], cut := false }

/-- Core `n` with that run in its NEXT slot. -/
def placedCore (s : State) (n p : Nat) (ev : Option QEvent) (ready : Nat) : Core :=
  let c := s.core n
  let img := natBits ((s.pipWords p).getD 0 0) 31 16
  let fl := pickFrame c (match ev with | some e => decide (e.level < 4) | none => false) img
  { (if fl.2 then setFrame c fl.1 { frame c fl.1 with valid := false, loading := true, image := img, stale := false } else c)
    with next := some (s.placedRun n p ev ready) }

/-- The state with the NEXT slot filled and the pip's own state brought up to date. -/
def placedState (s : State) (n p : Nat) (ev : Option QEvent) (ready : Nat) : State :=
  let t := (s.setCore n (s.placedCore n p ev ready)).set (I.EC_WORK n) 1
  if ev.isNone then t.set (F.PIP13_STATE p) 3 else (t.refreshEvent p).syncUsed

theorem place_eq (s : State) (n p : Nat) (ev : Option QEvent) (ready : Nat) :
    s.place n p ev ready = match (s.placedState n p ev ready).badSource (s.placedRun n p ev ready) with
      | some a => (s.placedState n p ev ready).prefetchViolation n (s.placedRun n p ev ready) 2 a
      | none => s.placedState n p ev ready := rfl

theorem placedState_keeps_graph (s : State) (n p ready : Nat) :
    s.KeepsFields (s.placedState n p none ready) [I.EC_WORK n, F.PIP13_STATE p] :=
  (keepsFields_set (by simp) 3).mpr ((keepsFields_set (by simp) 1).mpr (keepsFields_of_regs rfl _))

/-- The register places an EVENT pip's placement changes. -/
def placedFields (n p : Nat) : List Fld :=
  [I.EC_WORK n, F.PIP13_STATE p, F.PIP13_QCOUNT p, F.QN_EVQ_USED, F.QN_MAXQ_N, F.QN_EVT_EVT]

theorem placedState_keeps_event (s : State) (n p : Nat) (e : QEvent) (ready : Nat) :
    s.KeepsFields (s.placedState n p (some e) ready) (placedFields n p) := by
  have hcore : s.KeepsFields ((s.setCore n (s.placedCore n p (some e) ready)).set (I.EC_WORK n) 1) (placedFields n p) :=
    (keepsFields_set (by simp [placedFields]) 1).mpr (keepsFields_of_regs rfl _)
  exact hcore.trans (((refreshEvent_keeps _ p).mono (by simp [placedFields])).trans
    ((syncUsed_keeps _).mono (by simp [placedFields])))

theorem placedState_keepsNames (s : State) (n p : Nat) (ev : Option QEvent) (ready : Nat) :
    s.KeepsNames (s.placedState n p ev ready) placeNames := by
  cases ev with
  | none => exact keepsNames_of_keepsFields (placedState_keeps_graph s n p ready) rfl
  | some e => exact keepsNames_of_keepsFields (placedState_keeps_event s n p e ready) rfl

theorem KeepsNames.get_other {s t : State} {fs : List Fld} (h : s.KeepsNames t fs) {f : Fld}
    (hf : fs.any (fun g => g.id == f.id) = false) : t.get f = s.get f := h f fun hm => by
  obtain ⟨g, hg, he⟩ := List.mem_map.mp hm
  exact absurd (beq_iff_eq.mpr he) (List.any_eq_false.mp hf g hg)

theorem srcUnmapped_of_keeps {s t : State} (h : s.KeepsNames t placeNames) (d : Bool) (a n : Nat) :
    t.srcUnmapped d a n = s.srcUnmapped d a n := by
  rw [srcUnmapped, dramSize, h _ (by decide), h _ (by decide)]
  rfl

theorem sourcesOk_of_keeps {s t : State} (h : s.KeepsNames t placeNames) (p : Nat) : t.sourcesOk p = s.sourcesOk p := by
  unfold sourcesOk
  simp only [pipWords_of_keeps h, srcUnmapped_of_keeps h, on]
  rw [h.get_other (f := F.QN_IMG1_D _) rfl, h.get_other (f := F.QN_IMG0_SRCW _) rfl,
    h.get_other (f := F.QN_IMG1_SRCWH _) rfl, h.get_other (f := F.QN_IMG1_LENW _) rfl]

/-- A pip whose sources can be read is placed (R170, R171). -/
theorem place_good {s : State} {p : Nat} (h : s.sourcesOk p = true) (n : Nat) (ev : Option QEvent) (ready : Nat) :
    s.place n p ev ready = s.placedState n p ev ready := by
  have hbad : (s.placedState n p ev ready).badSource (s.placedRun n p ev ready) = none := by
    have hsrc := srcUnmapped_of_keeps (s.placedState_keepsNames n p ev ready)
    simp only [sourcesOk, Bool.and_eq_true, Bool.not_eq_true', List.all_eq_true] at h
    obtain ⟨himg, hsegs⟩ := h
    unfold badSource
    rw [hsrc, if_neg]
    · refine List.findSome?_eq_none_iff.mpr fun g hg => ?_
      obtain ⟨k, hk, rfl⟩ := List.mem_map.mp hg
      rw [hsrc, if_neg]
      exact Bool.eq_false_iff.mp (hsegs k hk)
    · rw [Bool.and_eq_true, not_and]
      exact fun _ => Bool.eq_false_iff.mp himg
  rw [place_eq, hbad]

theorem placedState_core (s : State) (n p : Nat) (ev : Option QEvent) (ready : Nat) :
    (s.placedState n p ev ready).cores = (s.setCore n (s.placedCore n p ev ready)).cores := by
  cases ev with
  | none => rfl
  | some e =>
    have h : (s.placedState n p (some e) ready).rest = (s.setCore n (s.placedCore n p (some e) ready)).rest :=
      (((s.setCore n (s.placedCore n p (some e) ready)).set (I.EC_WORK n) 1).refreshEvent p).syncUsed_rest
    have hcores := congrArg (fun r : State => r.cores) h
    exact hcores

theorem placedState_next (s : State) (n p : Nat) (ev : Option QEvent) (ready : Nat) :
    ((s.placedState n p ev ready).core n).next = some (s.placedRun n p ev ready) := by
  rw [core, placedState_core]
  exact congrArg Core.next (core_setCore_same s n _)

theorem placedState_others (s : State) {n k : Nat} (hk : k ≠ n) (p : Nat) (ev : Option QEvent) (ready : Nat) :
    (s.placedState n p ev ready).core k = s.core k := by
  rw [core, placedState_core]
  exact core_setCore_ne s _ hk

/-- A change of registers, deliveries, cores and Quince's queues. -/
theorem eq_of_coresQn {s t : State} {cs : List (Nat × Core)} {q : Quince}
    (h : t.rest = ({ s with cores := cs, qn := q } : State).rest) :
    t = { s with regs := t.regs, toDeliver := t.toDeliver, cores := t.cores, qn := t.qn } := by
  have hcores := congrArg (fun r : State => r.cores) h
  have hqn := congrArg (fun r : State => r.qn) h
  replace hcores : t.cores = cs := hcores
  replace hqn : t.qn = q := hqn
  rw [hcores, hqn]
  exact eq_of_rest h

/-- A change of registers, deliveries and Quince's queues. -/
theorem eq_of_qn {s t : State} {q : Quince} (h : t.rest = ({ s with qn := q } : State).rest) :
    t = { s with regs := t.regs, toDeliver := t.toDeliver, qn := t.qn } := by
  have hqn := congrArg (fun r : State => r.qn) h
  replace hqn : t.qn = q := hqn
  rw [hqn]
  exact eq_of_rest h

theorem placedState_rest (s : State) (n p : Nat) (ev : Option QEvent) (ready : Nat) :
    (s.placedState n p ev ready).rest = ({ s with cores := (s.placedState n p ev ready).cores } : State).rest := by
  rw [placedState_core]
  cases ev with
  | none => rfl
  | some e => exact (syncUsed_rest _).trans (refreshEvent_rest _ _)

/-! ### Halting (R101) -/

/-- The core halts once nothing runs on it. -/
def haltIdle (s : State) (n : Nat) : State :=
  if (s.core n).p.run.isNone ∧ (s.core n).s.run.isNone then s.setCore n { s.core n with halted := true } else s

theorem coreCtrlSet_halt (s : State) (n : Nat) :
    s.coreCtrlSet n 1 = match (s.core n).next.map (fun r => r.pip) with
      | some p => (((s.set (F.EC_CTRL_HALT n) 1).returnNext n).haltIdle n).checkCores p
      | none => ((s.set (F.EC_CTRL_HALT n) 1).returnNext n).haltIdle n := rfl

/-- What halting a core does, apart from the bits of the register that asks for it. -/
theorem haltIdle_halts (s : State) (n : Nat) :
    (∃ c, (s.haltIdle n).core n = { s.core n with halted := c }) ∧
    ((s.core n).p.run = none → (s.core n).s.run = none → ((s.haltIdle n).core n).halted = true) ∧
    (∀ k, k ≠ n → (s.haltIdle n).core k = s.core k) ∧ (s.haltIdle n).regs = s.regs ∧
    (s.haltIdle n).rest = ({ s with cores := (s.haltIdle n).cores } : State).rest := by
  unfold haltIdle
  split
  · refine ⟨⟨true, core_setCore_same s n _⟩, fun _ _ => ?_, fun k hk => core_setCore_ne s _ hk, rfl, rfl⟩
    rw [core_setCore_same]
  · next h => exact ⟨⟨_, rfl⟩, fun hp hs => absurd ⟨by rw [hp]; rfl, by rw [hs]; rfl⟩ h, fun _ _ => rfl, rfl, rfl⟩

theorem coreCtrlSet_resume (s : State) (n : Nat) :
    s.coreCtrlSet n 0 = (s.set (F.EC_CTRL_HALT n) 0).setCore n { s.core n with halted := false, swiStop := false } := rfl

theorem get_halt_of_keeps {s t : State} {n k : Nat} (h : s.KeepsFields t (s.returnFields n)) :
    t.get (F.EC_CTRL_HALT k) = s.get (F.EC_CTRL_HALT k) := by
  refine h.get_other ?_
  unfold returnFields
  split
  · rfl
  · split <;> rfl

theorem coreCtrlSet_halts (s : State) (c : Fin 64) :
    (s.coreCtrlSet c 1).get (F.EC_CTRL_HALT c) = 1 ∧ ((s.coreCtrlSet c 1).core c).next = none ∧
    ((s.core c).p.run = none → (s.core c).s.run = none → ((s.coreCtrlSet c 1).core c).halted = true) ∧
    (∀ k : Fin 65, k.val ≠ c.val → (s.coreCtrlSet c 1).core k = s.core k) ∧
    s.coreCtrlSet c 1 = { s with regs := (s.coreCtrlSet c 1).regs, toDeliver := (s.coreCtrlSet c 1).toDeliver,
                                 cores := (s.coreCtrlSet c 1).cores, qn := (s.coreCtrlSet c 1).qn } ∧
    s.KeepsFields (s.coreCtrlSet c 1) ([F.EC_CTRL_HALT c, F.QN_EVT_EVT] ++ s.returnFields c) := by
  have hret := returnNext_returned (s.set (F.EC_CTRL_HALT c) 1) c
  have hhalt := haltIdle_halts ((s.set (F.EC_CTRL_HALT c) 1).returnNext c) c
  have hcheck : ∃ t : State, s.coreCtrlSet c 1 = t ∧
      t.rest = (((s.set (F.EC_CTRL_HALT c) 1).returnNext c).haltIdle c).rest ∧
      (((s.set (F.EC_CTRL_HALT c) 1).returnNext c).haltIdle c).KeepsFields t [F.QN_EVT_EVT] := by
    rw [coreCtrlSet_halt]
    split
    · exact ⟨_, rfl, checkCores_rest _ _, checkCores_keeps _ _⟩
    · exact ⟨_, rfl, rfl, .refl _ _⟩
  generalize (s.set (F.EC_CTRL_HALT c) 1).returnNext c = u at hret hhalt hcheck
  obtain ⟨⟨b, hcoreH⟩, hruns, hothersH, hregsH, hrestH⟩ := hhalt
  generalize u.haltIdle c = v at hcoreH hruns hothersH hregsH hrestH hcheck
  obtain ⟨t, ht, hrestC, hkeepC⟩ := hcheck
  obtain ⟨⟨cs, q, hrestR⟩, -, hkeepR, ⟨fr, hcoreR⟩, hothersR⟩ := hret
  rw [ht]
  have hcore (k : Nat) : t.core k = v.core k := by
    have hsame := congrArg (fun x : State => x.core k) hrestC
    exact hsame
  have hkeep : (s.set (F.EC_CTRL_HALT c) 1).KeepsFields t ([F.EC_CTRL_HALT c, F.QN_EVT_EVT] ++ s.returnFields c) :=
    ((hkeepR.mono (List.subset_append_right _ _)).trans (keepsFields_of_regs hregsH _)).trans
      (hkeepC.mono (by simp))
  refine ⟨?_, ?_, ?_, ?_, ?_, ?_⟩
  · have hbit : t.get (F.EC_CTRL_HALT c) = v.get (F.EC_CTRL_HALT c) := hkeepC.get_other rfl
    have hsame : v.get (F.EC_CTRL_HALT c) = u.get (F.EC_CTRL_HALT c) := keepsFields_of_regs (fs := []) hregsH _ (by simp)
    have hret := get_halt_of_keeps (k := c) hkeepR
    rw [hbit, hsame, hret]
    exact get_set_same s _ 1
  · rw [hcore, hcoreH, hcoreR]
  · intro hp hs
    rw [hcore]
    refine hruns ?_ ?_
    · rw [hcoreR]
      exact hp
    · rw [hcoreR]
      exact hs
  · exact fun k hk => (hcore k).trans ((hothersH k hk).trans (hothersR k hk))
  · refine eq_of_coresQn (cs := v.cores) (q := { s.qn with queue := q }) ?_
    rw [hrestC, hrestH]
    have hmid := congrArg (fun x : State => ({ x with cores := v.cores } : State)) hrestR
    exact hmid
  · exact KeepsFields.trans ((keepsFields_set (by simp) 1).mpr (.refl s _)) hkeep

/-! ### Posts of hosts (R162, R166) -/

theorem hostPost_direct {s : State} {m : Master} {p : Nat} (hstand : s.standby = false) (hmirr : s.mirrors = false)
    (hheld : s.wouldHold p m.id = false) :
    s.hostPost m p = (s.settlePost p (s.stagedQuad m 0x50100) (s.postLevel p) m.id (s.on (F.PIP1_TS p))).qnStatus stOK := by
  have hpost : s.postPip p (s.stagedQuad m 0x50100) m.id none =
      s.settlePost p (s.stagedQuad m 0x50100) (s.postLevel p) m.id (s.on (F.PIP1_TS p)) := by
    rw [postPip, hheld, if_neg Bool.false_ne_true]
  have hmirror (item : MirrorItem) (eff : State → State) : s.mirrorPost m item eff = eff s := by
    rw [mirrorPost, hstand, hmirr]
    exact (ite_eq_left_iff.mpr fun _ => rfl)
  rw [hostPost, hheld, if_neg (by simp), hmirror, hpost]

/-- A refused post of a host is recorded (R166). -/
theorem recordRefusal_records (s : State) (r : Nat) (m : Master) {p : Nat} (hp : p < 16384) :
    ((s.recordRefusal r m.id p).qnStatus stOK).get F.QN_REFUSE_REASON = r % 16 ∧
    ((s.recordRefusal r m.id p).qnStatus stOK).get F.QN_REFUSE_MASTER = m.id ∧
    ((s.recordRefusal r m.id p).qnStatus stOK).get F.QN_REFUSE_PIP = p ∧
    ((s.recordRefusal r m.id p).qnStatus stOK).get F.QN_EVT_EVT / 2 % 2 = 1 ∧
    s.OnlyRegsEv ((s.recordRefusal r m.id p).qnStatus stOK)
      [F.QN_STAT_STATUS, F.QN_REFUSE_REASON, F.QN_REFUSE_MASTER, F.QN_REFUSE_PIP, F.QN_EVT_EVT] := by
  refine ⟨?_, ?_, ?_, ?_, ?_⟩
  · rw [qnStatus, get_set_other _ _ rfl, recordRefusal, get_raise_apart _ rfl, get_set_other _ _ rfl, get_set_other _ _ rfl,
      get_set_same]
    rfl
  · rw [qnStatus, get_set_other _ _ rfl, recordRefusal, get_raise_apart _ rfl, get_set_other _ _ rfl]
    exact get_set_of_lt _ (by cases m <;> decide)
  · rw [qnStatus, get_set_other _ _ rfl, recordRefusal, get_raise_apart _ rfl]
    exact get_set_of_lt _ hp
  · rw [qnStatus, get_set_other _ _ rfl]
    exact get_raise_bit _ (k := 1) rfl (by decide)
  · have hev : ∀ e, evCause 41 = some e → e.1 ∈ [F.QN_STAT_STATUS, F.QN_REFUSE_REASON, F.QN_REFUSE_MASTER,
        F.QN_REFUSE_PIP, F.QN_EVT_EVT] := by
      rintro e ⟨⟩
      decide
    refine onlyRegsEv_iff.mpr ⟨by simp [qnStatus, recordRefusal], (keepsFields_set (by simp) _).mpr
      ((keepsFields_raise hev).mpr ?_)⟩
    exact (keepsFields_set (by simp) _).mpr ((keepsFields_set (by simp) _).mpr ((keepsFields_set (by simp) _).mpr (.refl s _)))

/-! ### Placement decisions (R167 to R169) -/

/-- The first READY urgent event with a core goes to its NEXT slot. -/
theorem placeUrgent_head {s : State} {e : QEvent} {n : Nat} (h : (s.readyEvents true).head? = some e)
    (hen : s.get (F.PIP1_EN e.pip) ≠ 0) (hn : s.urgentCore e.pip = some n) :
    s.placeUrgent = ((s.returnNext n).unqueue e).place n e.pip (some e) e.ready := by
  obtain ⟨l, hl⟩ := List.head?_eq_some_iff.mp h
  have hon : s.on (F.PIP1_EN e.pip) = true := by simpa [on] using hen
  unfold placeUrgent
  rw [hl, List.foldl_cons]
  dsimp only
  rw [if_neg Bool.false_ne_true, hon, if_neg (by simp), hn]
  dsimp only
  generalize ((s.returnNext n).unqueue e).place n e.pip (some e) e.ready = t
  clear hl h
  induction l with
  | nil => rfl
  | cons x l ih =>
    rw [List.foldl_cons]
    exact ih

/-- With every READY event's pip enabled nothing is discarded at dispatch. -/
theorem purgeDisabled_enabled {s : State} (h : (s.readyEvents false).all (fun e => s.on (F.PIP1_EN e.pip)) = true)
    (n k : Nat) : purgeDisabled n k s = s := by
  cases k with
  | zero => rfl
  | succ k =>
    unfold purgeDisabled
    cases he : s.readyEvent n with
    | none => rfl
    | some e =>
      have hmem : e ∈ s.readyEvents false := by
        unfold readyEvent at he
        split at he
        · cases he
        · exact List.mem_of_find?_eq_some he
      exact if_pos (List.all_eq_true.mp h e hmem)

/-- The credits of the groups after a decision (R169). -/
def withCredits (s : State) (cur : List (Nat × Int)) : State := { s with qn := { s.qn with cur := cur } }

section
variable {s : State} {n g : Nat} {cur : List (Nat × Int)} (hnext : (s.core n).next = none) (htakes : s.takesPips n = true)
  (hwait : s.urgentWaiting n = false) (hen : (s.readyEvents false).all (fun e => s.on (F.PIP1_EN e.pip)) = true)
  (hrr : s.rrDecide n = some (g, cur))
include hnext htakes hwait hen hrr

/-- The decision for an empty NEXT slot falls on a group of GRAPH pips (R169). -/
theorem placeRoundRobin_graph {p : Nat} (hg : g < 16) (hp : s.readyGraph g n = some p) :
    s.placeRoundRobin n = (s.withCredits cur).place n p none (s.get (I.PIP_RDY p)) := by
  unfold placeRoundRobin
  rw [hnext, htakes, hwait, if_neg (by simp)]
  dsimp only
  rw [purgeDisabled_enabled hen, hrr]
  dsimp only
  rw [if_pos hg, hp]
  rfl

/-- The decision falls on the events (R169). -/
theorem placeRoundRobin_event {e : QEvent} (hg : 16 ≤ g) (he : s.readyEvent n = some e) :
    s.placeRoundRobin n = ((s.withCredits cur).unqueue e).place n e.pip (some e) e.ready := by
  unfold placeRoundRobin
  rw [hnext, htakes, hwait, if_neg (by simp)]
  dsimp only
  rw [purgeDisabled_enabled hen, hrr]
  dsimp only
  rw [if_neg (Nat.not_lt.mpr hg), he]
  rfl

end

/-- An event taken out of the queue is not in it. -/
theorem mem_unqueue {s : State} {e x : QEvent} (h : x ∈ (s.unqueue e).qn.queue) : x.arr ≠ e.arr := by
  obtain ⟨-, hx⟩ := List.mem_filter.mp h
  simpa using hx

/-- The returned NEXT pip leaves the words of every pip. -/
theorem NextReturned.keepsNames {s t : State} {n : Nat} (h : s.NextReturned t n) : s.KeepsNames t placeNames := by
  refine keepsNames_of_keepsFields h.keeps ?_
  unfold returnFields
  split
  · rfl
  · split <;> rfl

/-- The queue and the pips of the other cores after the placement of an event. -/
theorem placedState_event_queue (s : State) (n p : Nat) (e : QEvent) (ready : Nat) :
    (s.placedState n p (some e) ready).qn = s.qn := by
  have hrest := congrArg (fun r : State => r.qn) (placedState_rest s n p (some e) ready)
  exact hrest

/-- The placement of a GRAPH pip delivers nothing. -/
theorem placedState_graph_eq (s : State) (n p ready : Nat) :
    s.placedState n p none ready =
      { s with regs := (s.placedState n p none ready).regs, cores := (s.placedState n p none ready).cores } := by
  unfold placedState
  generalize s.placedCore n p none ready = c
  rfl

theorem placedState_graph_state (s : State) (n p ready : Nat) :
    (s.placedState n p none ready).get (F.PIP13_STATE p) = 3 := by
  unfold placedState
  exact get_set_same _ _ 3

theorem placedState_graph_qn (s : State) (n p ready : Nat) : (s.placedState n p none ready).qn = s.qn := by
  rw [placedState_graph_eq]

/-- A GRAPH pip placed by the round robin (R169). -/
theorem withCredits_graph_placed (s : State) (cur : List (Nat × Int)) (c : Fin 64) (p : Nat) :
    ∃ t, (s.withCredits cur).placedState c p none (s.get (I.PIP_RDY p)) = t ∧
      (∃ r, (t.core c).next = some r ∧ r.pip = p ∧ r.ev = none ∧ r.copy = s.pipWords p ∧ r.blk = s.get (I.PIP_BLK p)) ∧
      t.get (F.PIP13_STATE p) = 3 ∧ t.qn.cur = cur ∧ (∀ k : Fin 65, k.val ≠ c.val → t.core k = s.core k) ∧
      t = { s with regs := t.regs, cores := t.cores, qn := { s.qn with cur := t.qn.cur } } ∧
      s.KeepsFields t [I.EC_WORK c, F.PIP13_STATE p] := by
  have hnext := placedState_next (s.withCredits cur) c p none (s.get (I.PIP_RDY p))
  have hstate := placedState_graph_state (s.withCredits cur) c p (s.get (I.PIP_RDY p))
  have hothers := fun k hk => placedState_others (s.withCredits cur) (n := c) (k := k) hk p none (s.get (I.PIP_RDY p))
  have heq := placedState_graph_eq (s.withCredits cur) c p (s.get (I.PIP_RDY p))
  have hqn := placedState_graph_qn (s.withCredits cur) c p (s.get (I.PIP_RDY p))
  have hkeep := placedState_keeps_graph (s.withCredits cur) c p (s.get (I.PIP_RDY p))
  generalize (s.withCredits cur).placedState c p none (s.get (I.PIP_RDY p)) = t at hnext hstate hothers heq hqn hkeep
  refine ⟨t, rfl, ⟨_, hnext, rfl, rfl, rfl, rfl⟩, hstate, ?_, fun k hk => hothers k hk, ?_, ?_⟩
  · rw [hqn]
    rfl
  · rw [hqn]
    exact heq
  · exact (keepsFields_of_regs (t := s.withCredits cur) rfl _).trans hkeep

/-- What the placement of an event from a state `u` does that differs from `s` in its queues and in the NEXT slot of core
`c`. -/
theorem event_placed {s u : State} {c : Fin 64} {e : QEvent} {cs : List (Nat × Core)} {q : Quince} {fs : List Fld}
    (hrest : u.rest = ({ s with cores := cs, qn := q } : State).rest) (hq : ∀ x ∈ u.qn.queue, x.arr ≠ e.arr)
    (hothers : ∀ k, k ≠ c.val → u.core k = s.core k) (hkeep : s.KeepsFields u fs) (hwords : s.KeepsNames u placeNames) :
    ∃ t, u.placedState c e.pip (some e) e.ready = t ∧
      (∃ r, (t.core c).next = some r ∧ r.pip = e.pip ∧ r.ev = some { e with entry := false } ∧
        r.copy = s.pipWords e.pip) ∧
      (∀ x ∈ t.qn.queue, x.arr ≠ e.arr) ∧ t.qn = u.qn ∧ (∀ k : Fin 65, k.val ≠ c.val → t.core k = s.core k) ∧
      t = { s with regs := t.regs, toDeliver := t.toDeliver, cores := t.cores, qn := t.qn } ∧
      s.KeepsFields t (placedFields c e.pip ++ fs) := by
  have hnext := placedState_next u c e.pip (some e) e.ready
  have hcopy : (u.placedRun c e.pip (some e) e.ready).copy = s.pipWords e.pip := pipWords_of_keeps hwords e.pip
  have hcores := fun k hk => placedState_others u (n := c) (k := k) hk e.pip (some e) e.ready
  have hplaced := placedState_rest u c e.pip (some e) e.ready
  have hqn := placedState_event_queue u c e.pip e e.ready
  have hfields := placedState_keeps_event u c e.pip e e.ready
  generalize hr : u.placedRun c e.pip (some e) e.ready = r at hnext hcopy
  have hrun : r.pip = e.pip ∧ r.ev = some { e with entry := false } := by
    rw [← hr]
    exact ⟨rfl, rfl⟩
  generalize u.placedState c e.pip (some e) e.ready = t at hnext hcores hplaced hqn hfields
  have hall : t.rest = ({ s with cores := t.cores, qn := q } : State).rest :=
    hplaced.trans (congrArg (fun x : State => ({ x with cores := t.cores } : State)) hrest)
  exact ⟨t, rfl, ⟨r, hnext, hrun.1, hrun.2, hcopy⟩, fun x hx => hq x (hqn ▸ hx), hqn,
    fun k hk => (hcores k hk).trans (hothers k hk), eq_of_coresQn hall,
    (hkeep.mono (List.subset_append_right _ _)).trans (hfields.mono (List.subset_append_left _ _))⟩

theorem unqueue_rest {s u : State} {cs : List (Nat × Core)} {q : List QEvent}
    (h : u.rest = ({ s with cores := cs, qn := { s.qn with queue := q } } : State).rest) (e : QEvent) :
    (u.unqueue e).rest = ({ s with cores := cs, qn := { s.qn with
      queue := q.filter (fun x => !decide (x.arr = e.arr)) } } : State).rest := by
  have hmid := congrArg (fun x : State => x.unqueue e) h
  exact hmid

/-- An event placed by the round robin (R169). -/
theorem withCredits_event_placed (s : State) (cur : List (Nat × Int)) (c : Fin 64) (e : QEvent) :
    ∃ t, ((s.withCredits cur).unqueue e).placedState c e.pip (some e) e.ready = t ∧
      (∃ r, (t.core c).next = some r ∧ r.pip = e.pip ∧ r.ev = some { e with entry := false }) ∧
      (∀ x ∈ t.qn.queue, x.arr ≠ e.arr) ∧ t.qn.cur = cur ∧ (∀ k : Fin 65, k.val ≠ c.val → t.core k = s.core k) ∧
      t = { s with regs := t.regs, toDeliver := t.toDeliver, cores := t.cores, qn := t.qn } ∧
      s.KeepsFields t (placedFields c e.pip) := by
  have hrest : ((s.withCredits cur).unqueue e).rest =
      ({ s with cores := s.cores, qn := ((s.withCredits cur).unqueue e).qn } : State).rest := rfl
  have hkeep : s.KeepsFields ((s.withCredits cur).unqueue e) [] := keepsFields_of_regs rfl _
  have hwords : s.KeepsNames ((s.withCredits cur).unqueue e) placeNames := keepsNames_of_keepsFields hkeep rfl
  have hcur : ((s.withCredits cur).unqueue e).qn.cur = cur := rfl
  have hgone : ∀ x ∈ ((s.withCredits cur).unqueue e).qn.queue, x.arr ≠ e.arr := fun _ => mem_unqueue
  have hothers : ∀ k, k ≠ c.val → ((s.withCredits cur).unqueue e).core k = s.core k := fun _ _ => rfl
  generalize (s.withCredits cur).unqueue e = u at hrest hkeep hwords hcur hgone hothers
  obtain ⟨t, ht, ⟨r, hnext, hpip, hev, -⟩, hleft, hqn, hcores, heq, hfields⟩ :=
    event_placed hrest hgone hothers hkeep hwords
  rw [List.append_nil] at hfields
  exact ⟨t, ht, ⟨r, hnext, hpip, hev⟩, hleft, by rw [hqn, hcur], hcores, heq, hfields⟩

theorem sourcesOk_withCredits (s : State) (cur : List (Nat × Int)) (p : Nat) :
    (s.withCredits cur).sourcesOk p = s.sourcesOk p :=
  sourcesOk_of_keeps (keepsNames_of_keepsFields (keepsFields_of_regs rfl []) rfl) p

theorem sourcesOk_unqueue (s : State) (e : QEvent) (p : Nat) : (s.unqueue e).sourcesOk p = s.sourcesOk p :=
  sourcesOk_of_keeps (keepsNames_of_keepsFields (keepsFields_of_regs rfl []) rfl) p

end State

/-- Settles O24: halts by `returnNext_returned`, posts by `accept_rest`, placements by `place_good`. -/
theorem quinceDispatchCompletes : Obligations.QuinceDispatchCompletes := by
  intro s m c
  refine ⟨fun hp => ?_, fun hp => ?_, fun p hp hstand hmirr hheld hreason hts => ?_,
    fun p r hp hstand hmirr hheld hreason => ?_, fun e hhead hen hcore hsrc => ?_,
    fun p g cur hnext htakes hwait hen hrr hg hp hsrc => ?_, fun e g cur hnext htakes hwait hen hrr hg he hsrc => ?_⟩
  · refine ⟨_, State.next_of_write hp rfl, ?_⟩
    exact s.coreCtrlSet_halts c
  · refine ⟨_, State.next_of_write hp (State.coreCtrlSet_resume s c), ?_, State.core_setCore_same _ _ _,
      fun k hk => State.core_setCore_ne _ _ hk, rfl, ?_⟩
    · exact State.get_set_same s (F.EC_CTRL_HALT c) 0
    · exact (State.keepsFields_set (List.mem_singleton.mpr rfl) 0).mpr (.refl s _)
  · have hpost := State.hostPost_direct (p := p) hstand hmirr hheld
    rw [State.settlePost, hreason, State.on, hts] at hpost
    replace hpost : s.hostPost m p =
      (s.accept p (s.stagedQuad m 0x50100) (s.postLevel p) m.id false true).qnStatus stOK := hpost
    have hrest := s.accept_rest p (s.stagedQuad m 0x50100) (s.postLevel p) m.id false true
    have hkeep := s.accept_keeps_untimed p (s.stagedQuad m 0x50100) (s.postLevel p) m.id true
    refine ⟨_, State.next_of_write hp hpost, State.get_set_same _ _ _, ?_, ?_, ?_⟩
    · have hqueue := congrArg (fun r : State => r.qn.queue) hrest
      exact hqueue
    · exact State.eq_of_qn (t := State.qnStatus _ stOK) hrest
    · exact (State.keepsFields_set (by simp) _).mpr (hkeep.mono (by simp [State.queueFields]))
  · have hpost := State.hostPost_direct (p := p) hstand hmirr hheld
    rw [State.settlePost, hreason] at hpost
    refine ⟨_, State.next_of_write hp hpost, ?_⟩
    exact s.recordRefusal_records r m p.isLt
  · have hret := State.returnNext_returned s c
    have hwords := hret.keepsNames
    obtain ⟨⟨cs, q, hrest⟩, -, hkeep, -, hothers⟩ := hret
    have hsrc' : ((s.returnNext c).unqueue e).sourcesOk e.pip = true := by
      rw [← hsrc]
      exact State.sourcesOk_of_keeps (t := (s.returnNext c).unqueue e) hwords e.pip
    have hcopy : ((s.returnNext c).unqueue e).pipWords e.pip = s.pipWords e.pip :=
      State.pipWords_of_keeps (t := (s.returnNext c).unqueue e) hwords e.pip
    obtain ⟨t, ht, hrun, hgone, -, hcores, heq, hfields⟩ := State.event_placed (State.unqueue_rest hrest e) (fun x => State.mem_unqueue) hothers
      (State.KeepsFields.trans (u := (s.returnNext c).unqueue e) hkeep (State.keepsFields_of_regs rfl _)) hwords
    exact ⟨t, State.next_of_eq ((State.placeUrgent_head hhead hen hcore).trans
      ((State.place_good hsrc' c (some e) e.ready).trans ht)), hrun, hgone, hcores, heq, hfields⟩
  · obtain ⟨t, ht, hplaced⟩ := s.withCredits_graph_placed cur c p
    rw [← State.sourcesOk_withCredits s cur] at hsrc
    refine ⟨t, State.next_of_eq ?_, hplaced⟩
    rw [State.placeRoundRobin_graph hnext htakes hwait hen hrr hg hp, State.place_good hsrc, ht]
  · obtain ⟨t, ht, hplaced⟩ := s.withCredits_event_placed cur c e
    rw [← State.sourcesOk_withCredits s cur, ← State.sourcesOk_unqueue _ e] at hsrc
    refine ⟨t, State.next_of_eq ?_, hplaced⟩
    rw [State.placeRoundRobin_event hnext htakes hwait hen hrr hg he, State.place_good hsrc, ht]

end Sys2Proof.Machine
end

section
/-! A run cut by a steal (R189): its completion is not counted, and the statement's clause on a counted completion names no
such run. -/

namespace Sys2Proof.Machine

/-- The run of GRAPH pip 3 for block 1 that has executed its QDONE, cut by the stealing of its slot. -/
def cutRun : PipRun :=
  { pip := 3, copy := [], blk := 1, ev := none, ready := 0, frame := 0, landed := true, posts := 0, skip := 0, reruns := 0,
    level := none, ended := false, qdone := true, late := false, load := false, isrc := 0, idram := false, ilen := 0,
    events := [], cut := true }

/-- Core 2 runs it; the voice manager is OFF. -/
def cutRunning : State :=
  { State.reset with cores := [(2, { Core.reset with p := { Bank.reset with run := some cutRun } })] }

/-- Refutes O29: the QDONE of that run completes and leaves LASTBLK of its pip as it stood, 0, where the clause has block 1. -/
theorem not_pipRunsComplete : ¬ Obligations.PipRunsComplete := by
  unfold Obligations.PipRunsComplete
  intro h
  obtain ⟨-, -, -, hdone, -⟩ := h cutRunning .steward 2 cutRun
  obtain ⟨-, hlast, -⟩ := State.of_next rfl (hdone rfl rfl rfl rfl rfl rfl rfl rfl rfl (by decide +kernel) (by decide +kernel)
    (.inl (by decide +kernel)))
  exact absurd hlast (by decide +kernel)

end Sys2Proof.Machine
end

section
/-! What a fault of an Orchard bank, its repair and its loans change (R408 to R414): registers and the charged faults. -/

namespace Sys2Proof.Machine

namespace State

/-- What is neither a register, nor a delivery, nor a charged fault. -/
def restFaults (s : State) : State := { s.rest with faults := [] }

/-- Nothing but the charged faults, event deliveries and the listed register places changes. -/
def FaultOnly (s t : State) (fs : List Fld) : Prop := t.restFaults = s.restFaults ∧ s.KeepsNames t fs

theorem FaultOnly.refl (s : State) (fs : List Fld) : s.FaultOnly s fs := ⟨rfl, fun _ _ => rfl⟩

theorem FaultOnly.trans {s t u : State} {fs : List Fld} (h : s.FaultOnly t fs) (k : t.FaultOnly u fs) : s.FaultOnly u fs :=
  ⟨k.1.trans h.1, h.2.trans k.2⟩

theorem FaultOnly.mono {s t : State} {fs gs : List Fld} (h : s.FaultOnly t fs) (hs : fs ⊆ gs) : s.FaultOnly t gs := by
  obtain ⟨hrest, hkeep⟩ := h
  refine ⟨hrest, fun f hf => hkeep f fun hm => hf ?_⟩
  obtain ⟨g, hg, he⟩ := List.mem_map.mp hm
  exact List.mem_map.mpr ⟨g, hs hg, he⟩

theorem OnlyNames.faults {s t : State} {fs : List Fld} (h : s.OnlyNames t fs) : s.FaultOnly t fs := by
  obtain ⟨hrest, hkeep⟩ := h
  exact ⟨by rw [restFaults, hrest, restFaults], hkeep⟩

/-! ### The fault log (R409, R416) -/

def logNames : List Fld := [F.MDL_LOG_W 0 0, F.MDL_LOGHEAD_NEXT, F.MDL_LOGHEAD_WRAP, I.MDL_LOGN, F.MDL_EVT_EVT]

theorem onlyNames_mdlEntry (s : State) (fault unit inst : Nat) (perm : Bool) (action wcount detail logical : Nat) :
    s.OnlyNames (s.mdlEntry fault unit inst perm action wcount detail logical) logNames := by
  unfold mdlEntry
  dsimp only
  have hword (t : State) (f : Prop) [Decidable f] : t.OnlyNames
      (if f then t.set F.MDL_LOGHEAD_WRAP 1 else t.set I.MDL_LOGN (t.get I.MDL_LOGN + 1)) logNames := by
    split
    · exact onlyNames_set rfl 1
    · exact onlyNames_set rfl _
  have hraise (t : State) : t.OnlyNames (t.raise (if perm then 25 else 24)) logNames := by
    cases perm
    · exact onlyNames_raise rfl
    · exact onlyNames_raise rfl
  exact (((onlyNames_setWords (fun _ => rfl) _ s).trans (onlyNames_set (f := F.MDL_LOGHEAD_NEXT) rfl _)).trans
    (hword _ _)).trans (hraise _)

theorem faultOnly_mdlFault (s : State) (fault unit inst : Nat) (ok : Bool) (tact pact detail logical : Nat) :
    s.FaultOnly (s.mdlFault fault unit inst ok tact pact detail logical) logNames := by
  have hcharge : s.FaultOnly (if mdlCounted fault then { s with faults := s.mdlWindow unit inst } else s) logNames := by
    split
    · exact ⟨rfl, fun _ _ => rfl⟩
    · exact .refl s _
  unfold mdlFault
  dsimp only
  split
  · exact hcharge
  · exact hcharge.trans (onlyNames_mdlEntry _ _ _ _ _ _ _ _ _).faults

/-! ### Repairs and loans of banks (R258, R411 to R414) -/

theorem onlyNames_freeCounts (s : State) : s.OnlyNames s.syncSpares spareNames :=
  (((onlyNames_set rfl _).trans (onlyNames_set rfl _)).trans (onlyNames_set rfl _)).trans (onlyNames_set rfl _)

/-- The register places of the banks' map, repairs and loans. -/
def bankNames : List Fld :=
  [F.ORC_MAP_PHYS 0, F.ORC_MAP_LOAN 0, F.ORC_MAP_SPARE 0, I.PB_BUSY 0, I.PB_RET 0, I.LOAN_N, I.RP_SEQ, I.RPL_ORD 0,
   I.RPL_TORD 0, I.RPL_N, I.RPL_TEST] ++ spareNames ++ logNames

theorem onlyNames_bank_sync (s : State) : s.OnlyNames s.syncSpares bankNames :=
  (onlyNames_freeCounts s).mono fun _ h => List.mem_append_left _ (List.mem_append_right _ h)

theorem onlyNames_lend (s : State) (n p : Nat) : s.OnlyNames (s.lend n p) bankNames :=
  (((onlyNames_set rfl 1).trans (onlyNames_set rfl 1)).trans (onlyNames_set rfl p)).trans (onlyNames_bank_sync _)

theorem onlyNames_retireBank (s : State) (n : Nat) : s.OnlyNames (s.retireBank n) bankNames :=
  (((onlyNames_set rfl 1).trans (onlyNames_set rfl 0x7F)).trans (onlyNames_raise rfl)).trans (onlyNames_bank_sync _)

theorem onlyNames_dropLoan (s : State) (n : Nat) : s.OnlyNames (s.dropLoan n) bankNames := by
  unfold dropLoan
  split
  · exact (((onlyNames_set rfl 0).trans (onlyNames_set rfl 0)).trans (onlyNames_set rfl 0)).trans (onlyNames_set rfl 0)
  · exact .refl s _

theorem onlyNames_repairLoan (s : State) (n : Nat) : s.OnlyNames (s.repairLoan n) bankNames := by
  unfold repairLoan
  dsimp only
  have hdrop : s.OnlyNames (if (s.freeBanks = [] ∨ s.get I.LOAN_N - 1 = n) ∧ s.get I.LOAN_N ≠ 0 then
      s.dropLoan (s.get I.LOAN_N - 1) else s) bankNames := by
    split
    · exact onlyNames_dropLoan s _
    · exact .refl s _
  refine hdrop.trans ?_
  generalize (if (s.freeBanks = [] ∨ s.get I.LOAN_N - 1 = n) ∧ s.get I.LOAN_N ≠ 0 then
    s.dropLoan (s.get I.LOAN_N - 1) else s) = t
  split
  · exact .refl t _
  · split
    · exact (((onlyNames_set rfl 0).trans (onlyNames_set rfl _)).trans (onlyNames_set rfl _)).trans (onlyNames_lend _ _ _)
    · split
      · exact .refl t _
      · exact (onlyNames_set rfl 0).trans (onlyNames_retireBank _ _)

theorem onlyNames_loanNext (s : State) : s.OnlyNames s.loanNext bankNames := by
  unfold loanNext
  split
  · exact .refl s _
  · split
    · exact onlyNames_repairLoan s _
    · exact .refl s _

theorem onlyNames_loanEnd (s : State) (n : Nat) : s.OnlyNames (s.loanEnd n) bankNames :=
  (((onlyNames_set rfl _).trans (onlyNames_set rfl 0)).trans (onlyNames_set rfl 0)).trans (onlyNames_set rfl 0)

theorem onlyNames_standInFails (s : State) (n : Nat) : s.OnlyNames (s.standInFails n) bankNames := by
  have hrole (t : State) : t.OnlyNames (if t.get I.LOAN_N = n + 1 then t.set I.LOAN_N 0
      else (t.set I.RPL_N 0).set (I.PB_RET (s.get (F.ORC_MAP_PHYS n))) 1) bankNames := by
    split
    · exact onlyNames_set rfl 0
    · exact (onlyNames_set rfl 0).trans (onlyNames_set rfl 1)
  exact ((onlyNames_loanEnd s n).trans (hrole _)).trans (onlyNames_bank_sync _)

theorem onlyNames_bankRepair (s : State) (n : Nat) (test : Bool) : s.OnlyNames (s.bankRepair n test) bankNames := by
  unfold bankRepair
  dsimp only
  have hstand : s.OnlyNames (if s.get (F.ORC_MAP_LOAN n) = 2 then s.standInFails n else s) bankNames := by
    split
    · exact onlyNames_standInFails s n
    · exact .refl s _
  refine hstand.trans ?_
  generalize (if s.get (F.ORC_MAP_LOAN n) = 2 then s.standInFails n else s) = t
  split
  · exact .refl t _
  · exact (((onlyNames_set rfl _).trans (onlyNames_set rfl _)).trans (onlyNames_set rfl _)).trans (onlyNames_loanNext _)

/-- A bank's fault changes no memory and no core (R260, R408). -/
theorem faultOnly_bankFault (s : State) (fault off : Nat) : s.FaultOnly (s.bankFault fault off) bankNames := by
  unfold bankFault
  dsimp only
  have hfault := (faultOnly_mdlFault s fault 2 (s.physBank (bankOf off)) true (if fault = 2 then 1 else 0)
    (spareAction s.freeBanks) (off % 0x100000 / 16) (bankOf off)).mono (gs := bankNames) fun _ h => List.mem_append_right _ h
  refine hfault.trans ?_
  split
  · exact (onlyNames_bankRepair _ _ _).faults
  · split
    · exact (onlyNames_bankRepair _ _ _).faults
    · exact .refl _ _

end State

end Sys2Proof.Machine
end

section
/-! Orchard loads and posted stores complete (R77, R92, R142, R145, R260, R261). -/

namespace Sys2Proof.Machine

/-! ### The lanes of a 16-byte word (R9) -/

theorem leNat_append (l r : List Byte) : leNat (l ++ r) = leNat l + 256 ^ l.length * leNat r := by
  induction l with
  | nil => simp [leNat]
  | cons b l ih =>
    rw [List.cons_append, leNat, ih, leNat, List.length_cons, Nat.pow_succ]
    ring

theorem leNat_lt (l : List Byte) : leNat l < 256 ^ l.length := by
  induction l with
  | nil => simp [leNat]
  | cons b l ih =>
    have hb := b.isLt
    rw [leNat, List.length_cons, Nat.pow_succ]
    omega

namespace State

theorem orcBytes_length (s : State) (a n : Nat) : (s.orcBytes a n).length = n := by
  induction n generalizing a with
  | zero => rfl
  | succ n ih => rw [orcBytes, List.length_cons, ih]

theorem orcBytes_add (s : State) (a m n : Nat) : s.orcBytes a (m + n) = s.orcBytes a m ++ s.orcBytes (a + m) n := by
  induction m generalizing a with
  | zero => rw [Nat.zero_add, orcBytes, List.nil_append, Nat.add_zero]
  | succ m ih =>
    rw [Nat.add_right_comm, orcBytes, orcBytes, ih, List.cons_append, Nat.add_assoc, Nat.add_comm 1 m]

/-- A lane of a word is the number its four bytes spell. -/
theorem lane_orc128 (s : State) (a : Nat) {k : Nat} (hk : k < 4) : lane (s.orc128 a) k = leNat (s.orcBytes (a + 4 * k) 4) := by
  have hlow := leNat_lt (s.orcBytes a (4 * k))
  have hmid := leNat_lt (s.orcBytes (a + 4 * k) 4)
  rw [orcBytes_length] at hlow hmid
  have hsplit : s.orc128 a = leNat (s.orcBytes a (4 * k)) + 2 ^ (32 * k) *
      (leNat (s.orcBytes (a + 4 * k) 4) + 2 ^ 32 * leNat (s.orcBytes (a + 4 * k + 4) (12 - 4 * k))) := by
    have hlen : 16 = 4 * k + (4 + (12 - 4 * k)) := by omega
    rw [orc128, hlen, orcBytes_add, orcBytes_add, leNat_append, leNat_append, orcBytes_length, orcBytes_length,
      show (256 : Nat) = 2 ^ 8 from rfl, ← Nat.pow_mul, ← Nat.pow_mul, show 8 * (4 * k) = 32 * k by ring]
  rw [show (256 : Nat) ^ (4 * k) = 2 ^ (32 * k) by rw [show (256 : Nat) = 2 ^ 8 from rfl, ← Nat.pow_mul]; ring_nf] at hlow
  rw [lane, natBits, hsplit, Nat.add_mul_div_left _ _ (Nat.two_pow_pos _), Nat.div_eq_of_lt hlow, Nat.zero_add,
    show 32 * k + 31 + 1 - 32 * k = 32 by omega, Nat.add_mul_mod_self_left]
  exact Nat.mod_eq_of_lt hmid

/-- Lanes whose bytes agree are the same. -/
theorem orcBytes_congr {s t : State} {a n : Nat} (h : ∀ j < n, s.orcByte (a + j) = t.orcByte (a + j)) :
    s.orcBytes a n = t.orcBytes a n := by
  induction n generalizing a with
  | zero => rfl
  | succ n ih =>
    rw [orcBytes, orcBytes, ih fun j hj => ?_]
    · rw [show s.orcByte a = t.orcByte a from h 0 (Nat.succ_pos n)]
    · have := h (j + 1) (by omega)
      rwa [show a + (j + 1) = a + 1 + j by omega] at this

/-! ### The arrival of a word (R77, R92) -/

/-- The primary bank of core `n` once the word at the address of load `l` has arrived. -/
def arrivedBank (s : State) (n : Nat) (l : LoadWait) : Bank :=
  { (s.core n).p with load := none, pend := (s.core n).p.pend ++ l.dst.map (fun d =>
    Pend.mk (s.core n).p.n d.1 (Seen.loadMask (decide (n = 64)) d.1 (lane (s.orc128 l.addr) d.2)) false) }

/-- The state once the word has arrived, before its errors are met. -/
def arrived (s : State) (n : Nat) (l : LoadWait) : State := s.setCore n { s.core n with p := s.arrivedBank n l }

theorem storesUpTo_done {n upto : Nat} {s : State} (h : upto ≤ (s.core n).storesDone) (k : Nat) :
    storesUpTo n upto k s = s := by
  cases k with
  | zero => rfl
  | succ k => rw [storesUpTo, if_neg (Nat.not_lt.mpr h)]

/-- A load of the primary bank that waits for no store. -/
theorem loadArrives_primary {s : State} {n : Nat} {l : LoadWait} (hshadow : (s.core n).shadow = false)
    (hload : (s.core n).p.load = some l) (hheld : l.held = false) (hafter : l.after ≤ (s.core n).storesDone) (e : Ecc) :
    s.loadArrives n e = ((s.upsetWord .orchard l.addr e).arrived n l).meetOrc l.addr 16 := by
  have hbank : loadingBank (s.core n) = some false := by
    rw [loadingBank, activeBank, hshadow, if_neg Bool.false_ne_true, hload]
    rfl
  unfold loadArrives
  rw [hbank]
  dsimp only
  rw [if_neg Bool.false_ne_true, hload]
  dsimp only
  rw [storesUpTo_done hafter, if_neg (by simp [hheld, hafter])]
  rfl

theorem arrived_core (s : State) (n : Nat) (l : LoadWait) :
    (s.arrived n l).core n = { s.core n with p := s.arrivedBank n l } := core_setCore_same _ _ _

/-- A register that the load names reads the lane that arrived. -/
theorem readIn_arrived (s : State) {n : Nat} {l : LoadWait} (hdst : (l.dst.map (fun d => d.1)).Nodup) {d : Nat × Nat}
    (hd : d ∈ l.dst) : (s.arrivedBank n l).readIn 0 d.1 =
      Seen.loadMask (decide (n = 64)) d.1 (lane (s.orc128 l.addr) d.2) := by
  refine Bank.readIn_eq_of_last (b := s.arrivedBank n l) rfl (fun p hp => ?_) (fun p hp _ hk => ?_)
    ⟨_, List.mem_map_of_mem hd, Nat.le_refl _, rfl⟩
  · obtain ⟨d', -, rfl⟩ := List.mem_map.mp hp
    rfl
  · obtain ⟨d', hd', rfl⟩ := List.mem_map.mp hp
    have hsame : d' = d := List.inj_on_of_nodup_map hdst hd' hd hk
    rw [hsame]

/-! ### Errors met in the word (R260, R261) -/

theorem meetOrc_clean {s : State} (h : s.orcFlaws = []) (off n : Nat) : s.meetOrc off n = s := by
  rw [meetOrc, h]
  rfl

/-- Flaws of one word, at least one, name that word alone. -/
theorem flawWords_single {fs : List Flaw} {k w : Nat} (hne : fs ≠ []) (h : ∀ f ∈ fs, f.ix / k = w) : flawWords fs k = [w] := by
  have hstay : ∀ fs : List Flaw, (∀ f ∈ fs, f.ix / k = w) →
      fs.foldl (fun ws f => if ws.contains (f.ix / k) then ws else ws ++ [f.ix / k]) [w] = [w] := by
    intro fs
    induction fs with
    | nil => exact fun _ => rfl
    | cons f fs ih =>
      intro h
      rw [List.foldl_cons, h f List.mem_cons_self, if_pos (by simp)]
      exact ih fun g hg => h g (List.mem_cons_of_mem _ hg)
  cases fs with
  | nil => exact absurd rfl hne
  | cons f fs =>
    rw [flawWords, List.foldl_cons, h f List.mem_cons_self]
    exact hstay fs fun g hg => h g (List.mem_cons_of_mem _ hg)

/-- A read of an aligned word in which all the memory's errors lie. -/
theorem meetOrc_word {s : State} {a : Nat} (ha : a % 16 = 0) (hne : s.orcFlaws ≠ [])
    (h : ∀ f ∈ s.orcFlaws, f.ix / 4 = a / 16) : s.meetOrc a 16 = s.meetOrcWord (a / 16) := by
  have hall : flawsIn s.orcFlaws 4 (a / 16 * 16) (if 16 = 0 then 0 else (a + 16 + 15) / 16 * 16 - a / 16 * 16) = s.orcFlaws := by
    refine List.filter_eq_self.mpr fun f hf => ?_
    have hw := h f hf
    simp only [Bool.and_eq_true, decide_eq_true_eq]
    rw [if_neg (by decide)]
    omega
  rw [meetOrc, hall, flawWords_single hne h]
  rfl

/-! ### Disturbances (R260) -/

/-- The state with the memory and the errors of Orchard replaced. -/
def withOrchard (s : State) (m : Mem) (fs : List Flaw) : State := { s with orchard := m, orcFlaws := fs }

theorem upset_corrected (s : State) {ix : Nat} (h : ix < orcSize / 4) :
    s.upset { mem := .orchard, ix := ix, lost := false } =
      s.withOrchard s.orchard (s.orcFlaws ++ [{ ix := ix, lost := false }]) := if_pos h

theorem upset_lost (s : State) {ix : Nat} (h : ix < orcSize / 4) :
    s.upset { mem := .orchard, ix := ix, lost := true } =
      s.withOrchard (memWrite s.orchard (4 * ix) (List.replicate 4 0)) (s.orcFlaws ++ [{ ix := ix, lost := true }]) := if_pos h

/-- A memory with lanes of the word at lane `b` lost. -/
def lostLanes (m : Mem) (b : Nat) (ks : List Nat) : Mem :=
  ks.foldl (fun m k => memWrite m (4 * (b + k)) (List.replicate 4 0)) m

theorem foldl_upset_lost {b : Nat} {ks : List Nat} (h : ∀ k ∈ ks, b + k < orcSize / 4) (s : State) :
    ks.foldl (fun s k => s.upset { mem := .orchard, ix := b + k, lost := true }) s =
      s.withOrchard (lostLanes s.orchard b ks) (s.orcFlaws ++ ks.map (fun k => { ix := b + k, lost := true })) := by
  induction ks generalizing s with
  | nil => simp [lostLanes, withOrchard]
  | cons k ks ih =>
    rw [List.foldl_cons, upset_lost s (h k List.mem_cons_self), ih fun j hj => h j (List.mem_cons_of_mem _ hj)]
    simp [withOrchard, lostLanes]

theorem memGet_write_zero (m : Mem) (a x : Nat) :
    memGet (memWrite m (4 * a) (List.replicate 4 0)) x = if x / 4 = a then 0 else memGet m x := by
  split
  · next h =>
    have hx : x = 4 * a ∨ x = 4 * a + 1 ∨ x = 4 * a + 1 + 1 ∨ x = 4 * a + 1 + 1 + 1 := by omega
    simp only [List.replicate, memWrite]
    rcases hx with rfl | rfl | rfl | rfl
    · rw [memGet_memSet_ne _ _ (by omega), memGet_memSet_ne _ _ (by omega), memGet_memSet_ne _ _ (by omega), memGet_memSet_same]
    · rw [memGet_memSet_ne _ _ (by omega), memGet_memSet_ne _ _ (by omega), memGet_memSet_same]
    · rw [memGet_memSet_ne _ _ (by omega), memGet_memSet_same]
    · rw [memGet_memSet_same]
  · next h => exact memGet_memWrite_outside _ m _ x (by rw [List.length_replicate]; omega)

theorem memGet_lostLanes (m : Mem) (b : Nat) (ks : List Nat) (x : Nat) :
    memGet (lostLanes m b ks) x = if ∃ k ∈ ks, x / 4 = b + k then 0 else memGet m x := by
  induction ks generalizing m with
  | nil => simp [lostLanes]
  | cons k ks ih =>
    rw [show lostLanes m b (k :: ks) = lostLanes (memWrite m (4 * (b + k)) (List.replicate 4 0)) b ks from rfl, ih,
      memGet_write_zero]
    by_cases hk : x / 4 = b + k
    · simp [hk]
    · simp [hk]

/-- The lanes that an uncorrectable error takes. -/
def lostIn (lanes : BitVec 4) : List Nat := (List.range 4).filter (fun k => lanes.toNat.testBit k)

theorem mem_lostIn {lanes : BitVec 4} {k : Nat} : k ∈ lostIn lanes ↔ k < 4 ∧ lanes.getLsbD k = true := by
  rw [lostIn, List.mem_filter, List.mem_range]
  rfl

theorem lostIn_ne_nil {lanes : BitVec 4} (h : lanes ≠ 0) : lostIn lanes ≠ [] := by
  revert lanes
  decide

theorem lostIn_bits (lanes : BitVec 4) : (lostIn lanes).foldl (fun l k => l ||| 2 ^ k) 0 = lanes.toNat := by
  revert lanes
  decide

theorem upsetWord_corrected (s : State) {a : Nat} (ha : a % 16 = 0) (hsize : a < orcSize) :
    s.upsetWord .orchard a .corrected = s.withOrchard s.orchard (s.orcFlaws ++ [{ ix := a / 4, lost := false }]) := by
  have hix : a / 16 * 16 / 4 = a / 4 := by omega
  have hlt : a / 4 < orcSize / 4 := by unfold orcSize at *; omega
  exact (congrArg (fun x => s.upset { mem := .orchard, ix := x, lost := false }) hix).trans (s.upset_corrected hlt)

theorem upsetWord_uncorrectable (s : State) {a : Nat} (ha : a % 16 = 0) (hsize : a < orcSize) (lanes : BitVec 4) :
    s.upsetWord .orchard a (.uncorrectable lanes) = s.withOrchard (lostLanes s.orchard (a / 4) (lostIn lanes))
      (s.orcFlaws ++ (lostIn lanes).map (fun k => { ix := a / 4 + k, lost := true })) := by
  have hks : (List.range 4).filter (fun k => lanes.toNat.testBit k &&
      (decide (4 = 4) || decide (k % 2 = 0) || !lanes.toNat.testBit (k - 1))) = lostIn lanes :=
    List.filter_congr fun k _ => by simp
  have hix (k : Nat) : a / 16 * 16 / 4 + 4 * k / 4 = a / 4 + k := by omega
  have hlt : ∀ k ∈ lostIn lanes, a / 4 + k < orcSize / 4 := fun k hk => by
    have hk4 := (mem_lostIn.mp hk).1
    unfold orcSize at *
    omega
  rw [← foldl_upset_lost hlt s, ← hks]
  simp only [upsetWord, ← hix]
  rfl

/-- A lane that an uncorrectable error took reads 0, any other as before. -/
theorem lane_lostLanes {s : State} {a : Nat} (ha : a % 16 = 0) (hret : s.bankRetired (bankOf a) = false) (lanes : BitVec 4)
    (fs : List Flaw) {k : Nat} (hk : k < 4) :
    lane ((s.withOrchard (lostLanes s.orchard (a / 4) (lostIn lanes)) fs).orc128 a) k =
      if lanes.getLsbD k then 0 else lane (s.orc128 a) k := by
  have hbyte : ∀ j < 4, (s.withOrchard (lostLanes s.orchard (a / 4) (lostIn lanes)) fs).orcByte (a + 4 * k + j) =
      if lanes.getLsbD k then 0 else s.orcByte (a + 4 * k + j) := by
    intro j hj
    have hbank : bankOf (a + 4 * k + j) = bankOf a := by
      unfold bankOf
      omega
    have hlane : (∃ i ∈ lostIn lanes, (a + 4 * k + j) / 4 = a / 4 + i) ↔ lanes.getLsbD k = true := by
      constructor
      · rintro ⟨i, hi, he⟩
        rw [show k = i by omega]
        exact (mem_lostIn.mp hi).2
      · exact fun h => ⟨k, mem_lostIn.mpr ⟨hk, h⟩, by omega⟩
    have hgood : s.bankRetired (bankOf (a + 4 * k + j)) = false := by rw [hbank, hret]
    have hgood' : (s.withOrchard (lostLanes s.orchard (a / 4) (lostIn lanes)) fs).bankRetired (bankOf (a + 4 * k + j)) = false :=
      hgood
    rw [orcByte, orcByte, hgood, hgood', if_neg Bool.false_ne_true, if_neg Bool.false_ne_true, withOrchard, memGet_lostLanes]
    simp only [hlane]
  rw [lane_orc128 _ a hk, lane_orc128 _ a hk]
  simp only [orcBytes]
  have h0 := hbyte 0 (by decide)
  have h1 := hbyte 1 (by decide)
  have h2 := hbyte 2 (by decide)
  have h3 := hbyte 3 (by decide)
  rw [Nat.add_zero] at h0
  rw [h0, h1, show a + 4 * k + 1 + 1 = a + 4 * k + 2 by ring, h2, show a + 4 * k + 2 + 1 = a + 4 * k + 3 by ring, h3]
  split <;> rfl

/-- A corrected error found is mended, counted and charged (R260). -/
theorem meetOrcWord_corrected {s : State} {a : Nat} (ha : a % 16 = 0) (hret : s.bankRetired (bankOf a) = false)
    (hf : s.orcFlaws = [{ ix := a / 4, lost := false }]) :
    s.meetOrcWord (a / 16) = ((s.withOrchard s.orchard []).bump F.ORC_ECCCNT_CORR 1).bankFault 1 a := by
  have haddr : 16 * (a / 16) = a := by omega
  have hword : a / 4 / 4 = a / 16 := by omega
  unfold meetOrcWord
  rw [haddr, hret, hf, if_neg Bool.false_ne_true]
  simp [hword, withOrchard]

/-- An uncorrectable error found is recorded, counted and charged (R261). -/
theorem meetOrcWord_lost {s : State} {a : Nat} (ha : a % 16 = 0) (hret : s.bankRetired (bankOf a) = false) {lanes : BitVec 4}
    (hl : lanes ≠ 0) (hf : s.orcFlaws = (lostIn lanes).map (fun k => { ix := a / 4 + k, lost := true })) :
    s.meetOrcWord (a / 16) = (s.orcUncorrectable a lanes.toNat).bankFault 2 a := by
  have haddr : 16 * (a / 16) = a := by omega
  have hmine : s.orcFlaws.filter (fun f => decide (f.ix / 4 = a / 16)) = s.orcFlaws := by
    rw [hf]
    refine List.filter_eq_self.mpr fun f hf => ?_
    obtain ⟨k, hk, rfl⟩ := List.mem_map.mp hf
    have hk4 := (mem_lostIn.mp hk).1
    exact decide_eq_true (by dsimp only; omega)
  have hlost : s.orcFlaws.filter (·.lost) = s.orcFlaws := by
    rw [hf]
    refine List.filter_eq_self.mpr fun f hf => ?_
    obtain ⟨k, -, rfl⟩ := List.mem_map.mp hf
    rfl
  have hany : s.orcFlaws.any (fun f => !f.lost) = false := by
    rw [hf]
    refine List.any_eq_false.mpr fun f hf => ?_
    obtain ⟨k, -, rfl⟩ := List.mem_map.mp hf
    exact Bool.false_ne_true
  have hbits : s.orcFlaws.foldl (fun l f => l ||| 2 ^ (f.ix % 4)) 0 = lanes.toNat := by
    have hmod : ∀ k ∈ lostIn lanes, (a / 4 + k) % 4 = k := fun k hk => by
      have hk4 := (mem_lostIn.mp hk).1
      omega
    rw [hf, List.foldl_map, ← lostIn_bits lanes]
    exact List.foldl_ext _ _ _ fun l k hk => by rw [hmod k hk]
  have hne : lanes.toNat ≠ 0 := fun h => hl (BitVec.eq_of_toNat_eq h)
  unfold meetOrcWord
  dsimp only
  rw [haddr, hret, hmine, hlost, hany, hbits, if_neg Bool.false_ne_true, if_neg hne, if_neg Bool.false_ne_true]

/-- What is neither a register, nor a delivery, nor a charged fault, is as it was before a bank's fault. -/
theorem bankFault_keeps (s : State) (fault off : Nat) (n : Nat) :
    (s.bankFault fault off).core n = s.core n ∧ (s.bankFault fault off).orchard = s.orchard ∧
    (s.bankFault fault off).orcFlaws = s.orcFlaws := by
  obtain ⟨hrest, -⟩ := faultOnly_bankFault s fault off
  have hcore := congrArg (fun r : State => r.core n) hrest
  have horchard := congrArg (fun r : State => r.orchard) hrest
  have hflaws := congrArg (fun r : State => r.orcFlaws) hrest
  exact ⟨hcore, horchard, hflaws⟩

theorem get_bankFault {f : Fld} (hf : bankNames.any (fun g => g.id == f.id) = false) (s : State) (fault off : Nat) :
    (s.bankFault fault off).get f = s.get f := (faultOnly_bankFault s fault off).2.get_other hf

/-! ### Loads and stores (R142, R145) -/

theorem storeWritten_front {s : State} {n : Nat} {o : OStore} {l : List OStore} (ho : o.held = false)
    (h : (s.core n).stores = o :: l) :
    s.storeWritten n = (s.setCore n { s.core n with stores := l, storesDone := (s.core n).storesDone + 1 }).orcWrite o.bytes := by
  unfold storeWritten
  dsimp only
  rw [h]
  dsimp only
  rw [ho, if_neg Bool.false_ne_true]

/-- A cell written once reads what was written, unless its bank is retired. -/
theorem memGet_cells_kept {cs : List Host.Cell} (hcs : (cs.map (fun b => b.1)).Nodup) (p : Nat → Bool) (m : Mem)
    {b : Host.Cell} (hb : b ∈ cs) :
    memGet (memCells m (cs.filter (fun c => !p c.1))) b.1 = if p b.1 then memGet m b.1 else b.2 := by
  split
  · next hp =>
    refine memGet_memCells_outside _ m _ fun c hc he => ?_
    obtain ⟨-, hgood⟩ := List.mem_filter.mp hc
    rw [he, hp] at hgood
    exact Bool.false_ne_true hgood
  · next hp =>
    refine memGet_memCells _ m (fun c hc he => ?_) ⟨b, List.mem_filter.mpr ⟨hb, by simpa using hp⟩, rfl⟩
    rw [List.inj_on_of_nodup_map hcs (List.mem_of_mem_filter hc) hb he]

/-- A disturbance of any memory leaves what a core waits for. -/
theorem upset_core (s : State) (u : Upset) (n : Nat) :
    ∃ d fs, (s.upset u).core n = { s.core n with dmem := d, flaws := fs } := by
  have hsame : ∃ d fs, s.core n = { s.core n with dmem := d, flaws := fs } := ⟨_, _, rfl⟩
  unfold upset
  dsimp only
  split
  · split
    · exact hsame
    · exact hsame
  · split
    · exact hsame
    · exact hsame
  · next k _ =>
    split
    · by_cases hk : n = k
      · rw [hk, core_setCore_same]
        exact ⟨_, _, rfl⟩
      · rw [core_setCore_ne _ _ hk]
        exact hsame
    · exact hsame

theorem foldl_upset_core {α : Type} (g : α → Upset) (l : List α) (s : State) (n : Nat) :
    ∃ d fs, (l.foldl (fun s x => s.upset (g x)) s).core n = { s.core n with dmem := d, flaws := fs } := by
  induction l generalizing s with
  | nil => exact ⟨_, _, rfl⟩
  | cons x l ih =>
    obtain ⟨d, fs, h⟩ := ih (s.upset (g x))
    obtain ⟨d', fs', h'⟩ := upset_core s (g x) n
    exact ⟨d, fs, by rw [List.foldl_cons, h, h']⟩

theorem disturb_core (s : State) (e : Ecc) (n : Nat) :
    ∃ d fs, (s.disturb e).core n = { s.core n with dmem := d, flaws := fs } := by
  cases e with
  | disturbed us => exact foldl_upset_core id us s n
  | clean => exact ⟨_, _, rfl⟩
  | corrected => exact ⟨_, _, rfl⟩
  | uncorrectable l => exact ⟨_, _, rfl⟩

theorem upsetWord_core (s : State) (mem : FMem) (a : Nat) (e : Ecc) (n : Nat) :
    ∃ d fs, (s.upsetWord mem a e).core n = { s.core n with dmem := d, flaws := fs } := by
  cases e with
  | disturbed us => exact ⟨_, _, rfl⟩
  | clean => exact ⟨_, _, rfl⟩
  | corrected => exact upset_core s _ n
  | uncorrectable l => exact foldl_upset_core (fun k => _) _ s n

/-- A load that arrives and finds an error in its word is the load of the word as the error has left it. -/
theorem loadArrives_error {s : State} {n : Nat} {l : LoadWait} (hshadow : (s.core n).shadow = false)
    (hload : (s.core n).p.load = some l) (hheld : l.held = false) (hafter : l.after ≤ (s.core n).storesDone) (e : Ecc) :
    (s.disturb e).loadArrives n e = (((s.disturb e).upsetWord .orchard l.addr e).disturb .clean).loadArrives n .clean := by
  obtain ⟨d, fs, hcore⟩ := disturb_core s e n
  obtain ⟨d', fs', hcore'⟩ := upsetWord_core (s.disturb e) .orchard l.addr e n
  rw [hcore] at hcore'
  rw [loadArrives_primary (by rw [hcore, hshadow]) (by rw [hcore, hload]) hheld (by rw [hcore]; exact hafter)]
  exact (loadArrives_primary (s := (s.disturb e).upsetWord .orchard l.addr e) (by rw [hcore', hshadow]) (by rw [hcore', hload])
    hheld (by rw [hcore']; exact hafter) .clean).symm

/-- A word with a corrected error arrives (R260). -/
theorem arrives_corrected {s : State} {a : Nat} (hflaws : s.orcFlaws = []) (ha : a % 16 = 0) (hsize : a < orcSize)
    (hret : s.bankRetired (bankOf a) = false) (n : Nat) (l : LoadWait) :
    ∃ t, ((s.upsetWord .orchard a .corrected).arrived n l).meetOrc a 16 = t ∧
      t.core n = { s.core n with p := s.arrivedBank n l } ∧ t.orchard = s.orchard ∧ t.orcFlaws = [] ∧
      t.get F.ORC_ECCCNT_CORR = min (s.get F.ORC_ECCCNT_CORR + 1) (2 ^ 16 - 1) ∧
      t.get F.ORC_ECCCNT_UNCORR = s.get F.ORC_ECCCNT_UNCORR := by
  rw [upsetWord_corrected s ha hsize, hflaws, List.nil_append]
  have hmet := meetOrc_word (s := (s.withOrchard s.orchard [{ ix := a / 4, lost := false }]).arrived n l) ha
    (List.cons_ne_nil _ _) (fun f hf => by
      rw [List.mem_singleton.mp hf]
      dsimp only
      omega)
  have hword := meetOrcWord_corrected (s := (s.withOrchard s.orchard [{ ix := a / 4, lost := false }]).arrived n l) ha hret rfl
  have hkeeps := bankFault_keeps ((((s.withOrchard s.orchard [{ ix := a / 4, lost := false }]).arrived n l).withOrchard
    s.orchard []).bump F.ORC_ECCCNT_CORR 1) 1 a n
  obtain ⟨hcore, horchard, hgone⟩ := hkeeps
  refine ⟨_, hmet.trans hword, hcore.trans (arrived_core _ n l), horchard, hgone, ?_, ?_⟩
  · exact (get_bankFault rfl _ 1 a).trans (get_bump_same _ _ 1)
  · exact (get_bankFault rfl _ 1 a).trans (get_set_other _ _ rfl)

/-- A word with an uncorrectable error arrives, its lost lanes as 0 (R261). -/
theorem arrives_lost {s : State} {a : Nat} (hflaws : s.orcFlaws = []) (ha : a % 16 = 0) (hsize : a < orcSize)
    (hret : s.bankRetired (bankOf a) = false) (n : Nat) (l : LoadWait) {lanes : BitVec 4} (hl : lanes ≠ 0) :
    ∃ t, ((s.upsetWord .orchard a (.uncorrectable lanes)).arrived n l).meetOrc a 16 = t ∧
      t.core n = { s.core n with p := (s.withOrchard (lostLanes s.orchard (a / 4) (lostIn lanes))
        ((lostIn lanes).map (fun k => { ix := a / 4 + k, lost := true }))).arrivedBank n l } ∧
      t.get F.ORC_ECCCNT_UNCORR = min (s.get F.ORC_ECCCNT_UNCORR + 1) (2 ^ 16 - 1) ∧ t.get F.ORC_ECCLOG_V = 1 ∧
      t.get F.ORC_ECCLOG_LANES = lanes.toNat ∧ t.get F.ORC_ECCLOG_WORD = a % 0x100000 / 16 ∧
      t.get F.ORC_ECCLOG_PHYS = s.physBank (bankOf a) % 2 ^ 7 := by
  rw [upsetWord_uncorrectable s ha hsize, hflaws, List.nil_append]
  generalize hu : s.withOrchard (lostLanes s.orchard (a / 4) (lostIn lanes))
    ((lostIn lanes).map (fun k => { ix := a / 4 + k, lost := true })) = u
  have huflaws : u.orcFlaws = (lostIn lanes).map (fun k => { ix := a / 4 + k, lost := true }) := by rw [← hu]; rfl
  have hcores : u.core n = s.core n := by rw [← hu]; rfl
  have hregs : u.regs = s.regs := by rw [← hu]; rfl
  have hget (f : Fld) : (u.arrived n l).get f = s.get f := congrArg (fun m => tabGet f.rst m (f.id, f.ix)) hregs
  have hne : (u.arrived n l).orcFlaws ≠ [] := by
    refine fun h => lostIn_ne_nil hl (List.map_eq_nil_iff.mp (huflaws.symm.trans h))
  have hmet : (u.arrived n l).meetOrc a 16 = (u.arrived n l).meetOrcWord (a / 16) := by
    refine meetOrc_word ha hne fun f hf => ?_
    rw [show (u.arrived n l).orcFlaws = u.orcFlaws from rfl, huflaws] at hf
    obtain ⟨k, hk, rfl⟩ := List.mem_map.mp hf
    have hk4 := (mem_lostIn.mp hk).1
    dsimp only
    omega
  have hret' : (u.arrived n l).bankRetired (bankOf a) = false := by rw [bankRetired, hget]; exact hret
  have hphys : (u.arrived n l).physBank (bankOf a) = s.physBank (bankOf a) := by simp only [physBank, hget]
  have hword := meetOrcWord_lost ha hret' hl huflaws
  have hcore := (bankFault_keeps ((u.arrived n l).orcUncorrectable a lanes.toNat) 2 a n).1
  have hrecord : ((u.arrived n l).orcUncorrectable a lanes.toNat).rest = (u.arrived n l).rest := by
    simp [orcUncorrectable]
  have hcoreU := congrArg (fun r : State => r.core n) hrecord
  replace hcoreU : ((u.arrived n l).orcUncorrectable a lanes.toNat).core n = (u.arrived n l).core n := hcoreU
  refine ⟨_, hmet.trans hword, ?_, ?_, ?_, ?_, ?_, ?_⟩
  · rw [hcore, hcoreU, arrived_core, hcores]
  all_goals rw [get_bankFault rfl, orcUncorrectable, get_raise_apart _ rfl]
  · rw [get_set_other _ _ rfl, get_set_other _ _ rfl, get_set_other _ _ rfl, get_set_other _ _ rfl, get_bump_same, hget]
    rfl
  · rw [get_set_other _ _ rfl, get_set_other _ _ rfl, get_set_other _ _ rfl, get_set_same]
    rfl
  · rw [get_set_other _ _ rfl]
    exact get_set_of_lt _ lanes.isLt
  · refine get_set_of_lt _ ?_
    rw [show F.ORC_ECCLOG_WORD.width = 16 from rfl]
    omega
  · rw [get_set_other _ _ rfl, get_set_other _ _ rfl, get_set_same, hphys]
    rfl

end State

/-- Settles O17: a load by `loadArrives_primary` and what its read meets, a store by `storeWritten_front`. -/
theorem orchardTrafficCompletes : Obligations.OrchardTrafficCompletes := by
  rintro s c n rfl
  refine ⟨fun l hshadow hflaws hheld hload hafter hdst => ?_, fun o rest hheld hst hbytes => ?_,
    fun l hshadow hflaws hheld hload hafter hdst ha hsize hret => ?_,
    fun l lanes hshadow hflaws hheld hload hafter hdst ha hsize hret hlt hl => ?_,
    fun l e hshadow hheld hload hafter => congrArg _ (State.loadArrives_error hshadow hload hheld hafter e)⟩
  · have hdone := State.loadArrives_primary hshadow hload hheld hafter .clean
    have hclean := (s.arrived (CoreSel.ix c) l).meetOrc_clean (by exact hflaws) l.addr 16
    refine ⟨_, State.next_of_eq (hdone.trans hclean), ?_, fun d hd => ?_, fun k hk => State.core_setCore_ne _ _ hk, ?_, rfl⟩
    · rw [State.arrived_core]
      rfl
    · rw [State.arrived_core]
      exact State.readIn_arrived s hdst hd
    · rw [State.arrived_core]
  · refine ⟨_, State.next_of_eq (State.storeWritten_front hheld hst), ?_, ?_, fun b hb => ?_, fun a ha => ?_,
      fun k hk => State.core_setCore_ne _ _ hk, rfl, rfl⟩
    · exact congrArg Core.stores (State.core_setCore_same s _ _)
    · exact congrArg Core.storesDone (State.core_setCore_same s _ _)
    · exact State.memGet_cells_kept hbytes (fun x => s.bankRetired (bankOf x)) s.orchard hb
    · exact memGet_memCells_outside _ s.orchard a fun x hx he =>
        ha (List.mem_map.mpr ⟨x, List.mem_of_mem_filter hx, he⟩)
  · obtain ⟨t, ht, hcore, horchard, hflawsT, hcorr, huncorr⟩ := State.arrives_corrected hflaws ha hsize hret (CoreSel.ix c) l
    refine ⟨t, State.next_of_eq ((State.loadArrives_primary hshadow hload hheld hafter .corrected).trans ht), ?_,
      fun d hd => ?_, hcorr, huncorr, hflawsT, horchard⟩
    · rw [hcore]
      rfl
    · rw [hcore]
      exact State.readIn_arrived s hdst hd
  · obtain ⟨t, ht, hcore, hrec⟩ := State.arrives_lost hflaws ha hsize hret (CoreSel.ix c) l hl
    refine ⟨t, State.next_of_eq ((State.loadArrives_primary hshadow hload hheld hafter (.uncorrectable lanes)).trans ht), ?_,
      fun d hd => ?_, hrec⟩
    · rw [hcore]
      rfl
    · rw [hcore, ← State.lane_lostLanes ha hret lanes ((State.lostIn lanes).map (fun k => { ix := l.addr / 4 + k, lost := true }))
        (hlt d hd)]
      exact State.readIn_arrived _ hdst hd

end Sys2Proof.Machine
end

section
/-! An empty descriptor that runs (R135, R144): no command leaves one so, and the statement takes every state. -/

namespace Sys2Proof.Machine

/-- A descriptor of channel 0 from external memory to DMEM with no words to move, running. -/
def emptyDesc : Desc := { ch := 0, sd := true, src := 0, dd := false, dst := 0, words := 0, fences := 0, running := true }

/-- Core 2 holds it alone. -/
def emptyRunning : State := { State.reset with cores := [(2, { Core.reset with dma := [emptyDesc] })] }

/-- Refutes O22: the channel's move of no words leaves the descriptor at the head of its queue, where the clause on transfers
from external memory has the queue empty. -/
theorem not_localDmaCompletes : ¬ Obligations.LocalDmaCompletes := by
  unfold Obligations.LocalDmaCompletes
  intro h
  obtain ⟨-, -, -, -, -, -, -, hload, -⟩ := h emptyRunning (.ec 2) ⟨false, false, 0, 0, 0, 0, 0, 0⟩ 2 _ rfl rfl
  obtain ⟨-, -, hcore, -⟩ := State.of_next rfl (hload 0 emptyDesc rfl rfl rfl rfl rfl rfl (by decide) rfl (by decide +kernel) rfl)
  exact absurd (congrArg Core.dma hcore) (by decide +kernel)

end Sys2Proof.Machine
end

section
/-! The engine at its targets (R40 to R42): the first dispatch, the entry to STOPPING and STOPPED. -/

namespace Sys2Proof.Machine

namespace State

/-! ### The graph armed and the phasors advanced -/

/-- The fields a tick of the graph writes: each armed pip's, the queue's and the phasors'. -/
def tickNames : List Fld :=
  [I.PIP_ARM 0, I.PIP_BLK 0, F.PIP13_CNT 0, F.PIP13_STATE 0, I.PIP_RDY 0, I.QN_RDY, F.QN_EVT_EVT, I.QN_ARMBLK, I.PH_P 0,
    I.PH_D 0, I.PH_G 0]

theorem OnlyNames.frc_eq {s t : State} {fs : List Fld} (h : s.OnlyNames t fs) : t.frc = s.frc := by
  have hfrc := congrArg (fun r : State => r.frc) h.1
  exact hfrc

theorem OnlyNames.vm_eq {s t : State} {fs : List Fld} (h : s.OnlyNames t fs) : t.vm = s.vm := by
  have hvm := congrArg (fun r : State => r.vm) h.1
  exact hvm

theorem OnlyNames.scn_eq {s t : State} {fs : List Fld} (h : s.OnlyNames t fs) : t.scn = s.scn := by
  have hscn := congrArg (fun r : State => r.scn) h.1
  exact hscn

theorem onlyNames_checkCores (s : State) (p : Nat) : s.OnlyNames (s.checkCores p) tickNames := by
  unfold checkCores
  split
  · exact OnlyNames.refl s _
  · exact onlyNames_raise rfl

theorem onlyNames_makeReady (s : State) (p : Nat) : s.OnlyNames (s.makeReady p) tickNames :=
  (((onlyNames_set rfl _).trans (onlyNames_set rfl _)).trans (onlyNames_set rfl _)).trans (onlyNames_checkCores _ p)

/-- One enabled pip at the arming for block `j`. -/
def armPip (j : Nat) (s : State) (p : Nat) : State :=
  if s.on (F.PIP1_CLASS p) then s
  else
    let s := s.set (F.PIP13_CNT p) (s.get (F.PIP1_DEP p))
    let again := decide (s.get (F.PIP13_STATE p) ≠ 4) || s.on (F.PIP1_REC p)
    let s := if again then (s.set (I.PIP_ARM p) 1).set (I.PIP_BLK p) j else s
    if s.get (F.PIP13_STATE p) = 4 then s
    else if s.get (F.PIP1_DEP p) = 0 then s.makeReady p
    else s.set (F.PIP13_STATE p) 1

theorem rearm_eq (s : State) (j : Nat) : s.rearm j = (s.enabledPips.foldl (armPip j) s).set I.QN_ARMBLK (j + 1) := rfl

theorem onlyNames_armed (s : State) (p j : Nat) (again : Bool) :
    s.OnlyNames (if again then (s.set (I.PIP_ARM p) 1).set (I.PIP_BLK p) j else s) tickNames := by
  split
  · exact (onlyNames_set rfl _).trans (onlyNames_set rfl _)
  · exact OnlyNames.refl s _

theorem onlyNames_armPip (j : Nat) (s : State) (p : Nat) : s.OnlyNames (armPip j s p) tickNames := by
  unfold armPip
  split
  · exact OnlyNames.refl s _
  · dsimp only
    generalize ht : s.set (F.PIP13_CNT p) _ = t
    have hst : s.OnlyNames t tickNames := ht ▸ onlyNames_set rfl _
    generalize (decide (t.get (F.PIP13_STATE p) ≠ 4) || t.on (F.PIP1_REC p)) = again
    have hsu := hst.trans (onlyNames_armed t p j again)
    generalize (if again = true then (t.set (I.PIP_ARM p) 1).set (I.PIP_BLK p) j else t) = u at hsu ⊢
    split
    · exact hsu
    · split
      · exact hsu.trans (onlyNames_makeReady u p)
      · exact hsu.trans (onlyNames_set rfl _)

theorem onlyNames_rearm (s : State) (j : Nat) : s.OnlyNames (s.rearm j) tickNames :=
  (onlyNames_foldl (onlyNames_armPip j) _ s).trans (onlyNames_set rfl _)

theorem onlyNames_phSet (s : State) (p : Nat) (P D G : Int) : s.OnlyNames (s.phSet p P D G) [I.PH_P 0, I.PH_D 0, I.PH_G 0] :=
  ((onlyNames_set rfl _).trans (onlyNames_set rfl _)).trans (onlyNames_set rfl _)

theorem onlyNames_phAdvance (s : State) : s.OnlyNames s.phAdvance [I.PH_P 0, I.PH_D 0, I.PH_G 0] :=
  onlyNames_foldl (fun t p => onlyNames_phSet t p _ _ _) _ s

theorem onlyNames_rearmTick (s : State) : s.OnlyNames s.rearmTick tickNames := by
  unfold rearmTick
  split
  · exact OnlyNames.refl s _
  · exact (onlyNames_rearm s _).trans ((onlyNames_phAdvance _).mono (by simp [tickNames]))

theorem get_rearmTick_armed {s : State} (hix : s.blockIx ≠ 0) (hrun : s.phRunning = false) :
    s.rearmTick.get I.QN_ARMBLK = s.blockIx % 2 ^ 64 := by
  rw [rearmTick, if_neg (by simp [hix, hrun]), (onlyNames_phAdvance _).get rfl, rearm_eq, get_set_same,
    Nat.sub_add_cancel (Nat.pos_of_ne_zero hix)]
  rfl

/-! ### The first dispatch -/

theorem firstDispatch_due {s : State} (hst : s.get F.SYS_ENGINE_STATE = 1) (hland : s.get I.ENG_LANDED ≠ 0)
    (hstop : s.get I.ENG_STOPP = 0) (hdue : s.reached (s.get I.ENG_TGT + s.blockLen) = true) :
    s.firstDispatch = (s.setEngine 2).rearmTick :=
  if_pos ⟨hst, by simp [on, hland], by simp [on, hstop], hdue⟩

theorem onlyNames_setEngine (s : State) (st : Nat) :
    s.OnlyNames (s.setEngine st) [F.SYS_ENGINE_STATE, F.SYS_PWR_STATE, F.SYS_EVT_STATE] :=
  ((onlyNames_set rfl _).trans (onlyNames_set rfl _)).trans (onlyNames_raise rfl)

theorem blockIx_setEngine (s : State) (st : Nat) : (s.setEngine st).blockIx = s.blockIx := by
  rw [blockIx, blockIx, blockLen, blockLen, (s.onlyNames_setEngine st).frc_eq, get_setEngine_other s st rfl]

theorem phRunning_setEngine (s : State) (st : Nat) : (s.setEngine st).phRunning = s.phRunning := by
  rw [phRunning, phRunning, blockIx_setEngine, get_setEngine_other s st rfl]

/-! ### The entry to STOPPING -/

/-- Between the two states only registers of these names, the scene state and the events waiting for delivery change. -/
def ScnOnly (s t : State) (fs : List Fld) : Prop := t.rest = ({ s with scn := t.scn } : State).rest ∧ s.KeepsNames t fs

theorem ScnOnly.refl (s : State) (fs : List Fld) : s.ScnOnly s fs := ⟨rfl, fun _ _ => rfl⟩

theorem ScnOnly.trans {s t u : State} {fs : List Fld} (h : s.ScnOnly t fs) (k : t.ScnOnly u fs) : s.ScnOnly u fs := by
  obtain ⟨hrest, hkeep⟩ := h
  obtain ⟨krest, kkeep⟩ := k
  refine ⟨krest.trans ?_, hkeep.trans kkeep⟩
  exact congrArg (fun r : State => { r with scn := u.scn }) hrest

theorem ScnOnly.mono {s t : State} {fs gs : List Fld} (h : s.ScnOnly t fs) (hs : fs ⊆ gs) : s.ScnOnly t gs :=
  ⟨h.1, fun f hf => h.2 f (fun hm => hf (List.map_subset _ hs hm))⟩

theorem OnlyNames.scn {s t : State} {fs : List Fld} (h : s.OnlyNames t fs) : s.ScnOnly t fs := by
  exact ⟨h.1.trans (by rw [h.scn_eq]), h.2⟩

theorem scnOnly_prmSet (s : State) (k : Nat) (v : Int) : s.ScnOnly (s.prmSet k v) [] := ⟨rfl, fun _ _ => rfl⟩

theorem scnOnly_foldl {α : Type} {fs : List Fld} {g : State → α → State} (h : ∀ t x, State.ScnOnly t (g t x) fs)
    (l : List α) (s : State) : s.ScnOnly (l.foldl g s) fs := by
  induction l generalizing s with
  | nil => exact ScnOnly.refl s fs
  | cons x xs ih => exact (h s x).trans (ih _)

theorem ScnOnly.get {s t : State} {fs : List Fld} (h : s.ScnOnly t fs) {f : Fld}
    (hf : fs.all (fun g => !(g.id == f.id)) = true) : t.get f = s.get f :=
  h.2 f fun hm => by
    obtain ⟨g, hg, he⟩ := List.mem_map.mp hm
    have := List.all_eq_true.mp hf g hg
    simp [he] at this

/-- The fields of a refused scene command. -/
def refuseNames : List Fld := [F.SCN_REFUSE_REASON, F.SCN_REFUSE_MASTER, F.SCN_REFUSE_INDEX, F.SCN_EVT_EVT]

theorem onlyNames_refuseCmd (s : State) (reason src index : Nat) : s.OnlyNames (s.refuseCmd reason src index) refuseNames :=
  (((onlyNames_set rfl _).trans (onlyNames_set rfl _)).trans (onlyNames_set rfl _)).trans (onlyNames_raise rfl)

/-- While no blocks are prepared a command is refused, waits or sets its parameter: none is held. -/
theorem paramNow_idle {s : State} (hidle : s.preparing = false) (src w : Nat) :
    s.ScnOnly (s.paramNow src w) refuseNames ∧ (s.paramNow src w).scn.cmds = s.scn.cmds := by
  unfold paramNow
  dsimp only
  split
  · exact ⟨(onlyNames_refuseCmd s _ _ _).scn, congrArg Scene.cmds (onlyNames_refuseCmd s _ _ _).scn_eq⟩
  · split
    · exact ⟨(onlyNames_refuseCmd s _ _ _).scn, congrArg Scene.cmds (onlyNames_refuseCmd s _ _ _).scn_eq⟩
    · rw [if_pos (by simp [hidle]), applyCmd, if_pos (by simp [hidle])]
      exact ⟨(scnOnly_prmSet s _ _).mono (List.nil_subset _), rfl⟩

theorem paramCmd_idle {s : State} (hidle : s.preparing = false) (src w : Nat) :
    s.ScnOnly (s.paramCmd src w) refuseNames ∧ (s.paramCmd src w).scn.cmds = s.scn.cmds := by
  unfold paramCmd
  split
  · exact ⟨⟨rfl, fun _ _ => rfl⟩, rfl⟩
  · exact paramNow_idle hidle src w

theorem ScnOnly.preparing {s t : State} (h : s.ScnOnly t refuseNames) : t.preparing = s.preparing := by
  simp only [State.preparing, on, h.get (f := F.SYS_ENGINE_STATE) rfl, h.get (f := I.ENG_LANDED) rfl]

theorem foldl_paramCmd_idle (l : List (Nat × Nat)) {s : State} (hidle : s.preparing = false) :
    s.ScnOnly (l.foldl (fun s x => s.paramCmd x.1 x.2) s) refuseNames ∧
    (l.foldl (fun s x => s.paramCmd x.1 x.2) s).scn.cmds = s.scn.cmds := by
  induction l generalizing s with
  | nil => exact ⟨ScnOnly.refl s _, rfl⟩
  | cons x xs ih =>
    obtain ⟨hx, hcmds⟩ := paramCmd_idle hidle x.1 x.2
    obtain ⟨hxs, hcmds'⟩ := ih (hx.preparing.trans hidle)
    exact ⟨hx.trans hxs, hcmds'.trans hcmds⟩

theorem flushParams_idle {s : State} (hidle : s.preparing = false) :
    s.ScnOnly s.flushParams refuseNames ∧ s.flushParams.scn.cmds = [] := by
  rw [flushParams, paramRetry]
  dsimp only
  generalize ha : List.foldl _ s (s.scn.curves.filter _) = a
  have hsa : s.ScnOnly a [] := ha ▸ scnOnly_foldl (fun t x => scnOnly_prmSet t _ _) _ s
  generalize hb : List.foldl _ a a.scn.cmds = b
  have hab : a.ScnOnly b [] := hb ▸ scnOnly_foldl (fun t x => scnOnly_prmSet t _ _) _ a
  generalize hc : ({ b with scn := { b.scn with cmds := [], waiting := [] } } : State) = c
  have hbc : b.ScnOnly c [] := hc ▸ ⟨rfl, fun _ _ => rfl⟩
  have hsc : s.ScnOnly c refuseNames := ((hsa.trans hab).trans hbc).mono (List.nil_subset _)
  have hnone : c.scn.cmds = [] := by rw [← hc]
  obtain ⟨hl, hcmds⟩ := foldl_paramCmd_idle b.scn.waiting (hsc.preparing.trans hidle)
  exact ⟨hsc.trans hl, hcmds.trans hnone⟩

/-- The fields that a recall's end writes. -/
def recallNames : List Fld := [F.BRM_SWAP_STATE, F.SCN_RCL_STATE, F.SCN_RAMPS_RSV, F.SCN_RCL_STATUS, F.SCN_EVT_EVT]

/-- The swap of a recall that ends, disarmed if it is armed. -/
def swapOff (s : State) (armed : Bool) : State :=
  if armed && decide (s.get F.BRM_SWAP_STATE = 1) then s.set F.BRM_SWAP_STATE 0 else s

theorem onlyNames_swapOff (s : State) (armed : Bool) : s.OnlyNames (s.swapOff armed) recallNames := by
  unfold swapOff
  split
  · exact onlyNames_set rfl _
  · exact OnlyNames.refl s _

theorem recallAbandon_shape (s : State) (status : Nat) : ∃ armed, s.recallAbandon status =
    (((((s.swapOff armed).setRcl none).set F.SCN_RCL_STATE 0).set F.SCN_RAMPS_RSV 0).set F.SCN_RCL_STATUS status).raise 57 :=
  ⟨_, rfl⟩

theorem scnOnly_recallAbandon (s : State) (status : Nat) :
    s.ScnOnly (s.recallAbandon status) recallNames ∧ (s.recallAbandon status).scn.cmds = s.scn.cmds := by
  obtain ⟨armed, heq⟩ := s.recallAbandon_shape status
  have hoff := s.onlyNames_swapOff armed
  have hclear : (s.swapOff armed).ScnOnly ((s.swapOff armed).setRcl none) recallNames := ⟨rfl, fun _ _ => rfl⟩
  rw [heq]
  generalize ht : (s.swapOff armed).setRcl none = t at hclear
  have hend : t.OnlyNames ((((t.set F.SCN_RCL_STATE 0).set F.SCN_RAMPS_RSV 0).set F.SCN_RCL_STATUS status).raise 57) recallNames :=
    (((onlyNames_set rfl _).trans (onlyNames_set rfl _)).trans (onlyNames_set rfl _)).trans (onlyNames_raise rfl)
  refine ⟨(hoff.scn.trans hclear).trans hend.scn, ?_⟩
  have hcmds : t.scn.cmds = (s.swapOff armed).scn.cmds := by rw [← ht, setRcl]
  rw [hend.scn_eq, hcmds, hoff.scn_eq]

theorem get_recallAbandon (s : State) :
    (s.recallAbandon stREFUSED).get F.SCN_RCL_STATE = 0 ∧ (s.recallAbandon stREFUSED).get F.SCN_RCL_STATUS = stREFUSED := by
  obtain ⟨armed, heq⟩ := s.recallAbandon_shape stREFUSED
  rw [heq]
  exact ⟨(get_raise_apart _ rfl).trans ((get_set_other _ _ rfl).trans ((get_set_other _ _ rfl).trans (get_set_of_lt _ (by decide)))),
    (get_raise_apart _ rfl).trans (get_set_of_lt _ (by decide))⟩

theorem scnOnly_stopRecall (s : State) :
    s.ScnOnly s.stopRecall recallNames ∧ s.stopRecall.scn.cmds = s.scn.cmds := by
  unfold stopRecall
  split
  · exact ⟨ScnOnly.refl s _, rfl⟩
  · exact s.scnOnly_recallAbandon _

theorem get_stopRecall {s : State} (h : s.get F.SCN_RCL_STATE ≠ 0) :
    s.stopRecall.get F.SCN_RCL_STATE = 0 ∧ s.stopRecall.get F.SCN_RCL_STATUS = stREFUSED := by
  rw [stopRecall, if_neg h]
  exact s.get_recallAbandon

/-- The graph as the tick at the stop target leaves it: the last block is armed if the engine was RUNNING. -/
def lastArmed (s : State) : State := if s.get F.SYS_ENGINE_STATE = 2 then s.rearmTick else s

theorem onlyNames_lastArmed (s : State) : s.OnlyNames s.lastArmed tickNames := by
  unfold lastArmed
  split
  · exact s.onlyNames_rearmTick
  · exact OnlyNames.refl s _

theorem stopTarget_due {s : State} (hst : s.get F.SYS_ENGINE_STATE = 1 ∨ s.get F.SYS_ENGINE_STATE = 2)
    (hstop : s.get I.ENG_STOPP ≠ 0) (hdue : s.reached (s.get I.ENG_STOPT) = true) :
    s.stopTarget = (s.lastArmed.setEngine 3).flushParams.stopRecall := if_pos ⟨hst, by simp [on, hstop], hdue⟩

theorem preparing_setEngine_stopping (s : State) : (s.setEngine 3).preparing = false := by
  simp [preparing, (s.get_setEngine (by decide : 3 < 4)).1]

/-! ### STOPPED -/

theorem phApply_onlyNames (s : State) (w : Nat) (o : Int) : s.OnlyNames (s.phApply w o) [I.PH_P 0, I.PH_D 0, I.PH_G 0] := by
  unfold phApply
  dsimp only
  split <;> exact onlyNames_phSet s _ _ _ _

/-- The engine as it becomes STOPPED, before the held phasor commands apply. -/
def halted (s : State) : State := (((s.set I.ENG_STOPP 0).set I.ENG_FROMSTART 0).set I.ENG_LANDED 0).setEngine 0

/-- The names a stop writes. -/
def haltNames : List Fld :=
  [I.ENG_STOPP, I.ENG_FROMSTART, I.ENG_LANDED, F.SYS_ENGINE_STATE, F.SYS_PWR_STATE, F.SYS_EVT_STATE]

theorem onlyNames_halted (s : State) : s.OnlyNames s.halted haltNames :=
  (((onlyNames_set rfl _).trans (onlyNames_set rfl _)).trans (onlyNames_set rfl _)).trans
    ((onlyNames_setEngine _ 0).mono (by simp [haltNames]))

theorem keepsNames_phFlush (s : State) : s.KeepsNames s.phFlush.silenceAll [I.PH_P 0, I.PH_D 0, I.PH_G 0] :=
  (onlyNames_foldl (fun t w => phApply_onlyNames t w 0) s.vm.phasor s).2

theorem frc_phFlush (s : State) : s.phFlush.silenceAll.frc = s.frc :=
  (onlyNames_foldl (fun t w => phApply_onlyNames t w 0) s.vm.phasor s).frc_eq

theorem get_phFlush (s : State) {f : Fld} (hf : [I.PH_P 0, I.PH_D 0, I.PH_G 0].all (fun g => !(g.id == f.id)) = true) :
    s.phFlush.silenceAll.get f = s.get f :=
  (onlyNames_foldl (fun t w => phApply_onlyNames t w 0) s.vm.phasor s).get hf

theorem stopped_due {s : State} (hst : s.get F.SYS_ENGINE_STATE = 3)
    (hdue : s.reached (s.get I.ENG_STOPT + 2 * s.blockLen) = true) :
    s.stopped = if s.on I.ENG_RESTART then (s.halted.phFlush.silenceAll).engineStart s.halted.phFlush.silenceAll.restartTarget
      else s.halted.phFlush.silenceAll := if_pos ⟨hst, hdue⟩

theorem restartTarget_halted (s : State) : s.halted.phFlush.silenceAll.restartTarget = s.restartTarget := by
  have hreq : s.halted.phFlush.silenceAll.get I.ENG_REQ = s.get I.ENG_REQ :=
    (get_phFlush _ rfl).trans (s.onlyNames_halted.get rfl)
  have hlen : s.halted.phFlush.silenceAll.get I.RATE_B = s.get I.RATE_B :=
    (get_phFlush _ rfl).trans (s.onlyNames_halted.get rfl)
  have hfrc : s.halted.phFlush.silenceAll.frc = s.frc := (frc_phFlush _).trans s.onlyNames_halted.frc_eq
  simp only [restartTarget, earliest, blockLen, hreq, hlen, hfrc]
  rfl

theorem foldl_say_vm_frc (l : List (Ball × DriveLevel)) (t : State) :
    (l.foldl (fun s d => s.say ("! RELEASED " ++ (ballName d.1).getD "" ++ " 0000")) t).vm = t.vm ∧
    (l.foldl (fun s d => s.say ("! RELEASED " ++ (ballName d.1).getD "" ++ " 0000")) t).frc = t.frc := by
  induction l generalizing t with
  | nil => exact ⟨rfl, rfl⟩
  | cons d ds ih => exact ih _

theorem endSlotlessDrives_vm_frc (s : State) : s.endSlotlessDrives.vm = s.vm ∧ s.endSlotlessDrives.frc = s.frc := by
  unfold endSlotlessDrives
  dsimp only
  obtain ⟨hvm, hfrc⟩ := foldl_say_vm_frc (s.svc.drives.filter slotlessDrive)
    { s with svc := { s.svc with drives := s.svc.drives.filter (fun d => !slotlessDrive d) } }
  exact ⟨(onlyNames_dacclrRefresh _).vm_eq.trans hvm, (onlyNames_dacclrRefresh _).frc_eq.trans hfrc⟩

theorem engineStart_vm_frc (s : State) (f : Nat) : (s.engineStart f).vm = s.vm ∧ (s.engineStart f).frc = s.frc := by
  obtain ⟨hvm, hfrc⟩ := (s.startPut f).endSlotlessDrives_vm_frc
  have hset := (s.startPut f).endSlotlessDrives.onlyNames_setEngine 1
  rw [engineStart_eq]
  exact ⟨hset.vm_eq.trans hvm, hset.frc_eq.trans hfrc⟩

theorem get_halted (s : State) : s.halted.phFlush.silenceAll.get F.SYS_ENGINE_STATE = 0 ∧
    s.halted.phFlush.silenceAll.get F.SYS_EVT_STATE = 1 ∧ s.halted.phFlush.silenceAll.get F.SYS_PWR_STATE = 1 := by
  rw [get_phFlush _ rfl, get_phFlush _ rfl, get_phFlush _ rfl]
  obtain ⟨hst, hevt⟩ := (((s.set I.ENG_STOPP 0).set I.ENG_FROMSTART 0).set I.ENG_LANDED 0).get_setEngine (by decide : 0 < 4)
  exact ⟨hst, hevt, (get_raise_apart _ rfl).trans (get_set_of_lt _ (by decide))⟩

theorem get_halted_other (s : State) {f : Fld} (h : haltNames.all (fun g => !(g.id == f.id)) = true)
    (hf : [I.PH_P 0, I.PH_D 0, I.PH_G 0].all (fun g => !(g.id == f.id)) = true) :
    s.halted.phFlush.silenceAll.get f = s.get f := (get_phFlush _ hf).trans (s.onlyNames_halted.get h)

end State

/-- Settles O11, target by target: at the stop target no blocks are prepared any more, so that no command that waited is
held. -/
theorem engineTargetsComplete : Obligations.EngineTargetsComplete := by
  unfold Obligations.EngineTargetsComplete
  intro s
  refine ⟨fun hst hland hdue => ?_, fun hst hland hstop hdue => ?_, fun hst hstop hdue => ?_, fun hst hdue hagain => ?_,
    fun hst hdue hagain => ?_⟩
  · refine ⟨s.set I.ENG_LANDED 1, ?_, State.get_set_same _ _ _, by simp [State.onlyRegs_iff]⟩
    rw [show exec .engineStartTarget s = .next s.startTarget from rfl, State.startTarget,
      if_pos ⟨hst, by simp [State.on, hland], hdue⟩]
  · have hset := s.onlyNames_setEngine 2
    have htick := (s.setEngine 2).onlyNames_rearmTick
    obtain ⟨hrun, hevt⟩ := s.get_setEngine (by decide : 2 < 4)
    have hall := (hset.mono (gs := [F.SYS_ENGINE_STATE, F.SYS_PWR_STATE, F.SYS_EVT_STATE] ++ State.tickNames) (by simp)).trans
      (htick.mono (by simp [State.tickNames]))
    refine ⟨(s.setEngine 2).rearmTick, congrArg Host.Outcome.next (State.firstDispatch_due hst hland hstop hdue),
      (htick.get rfl).trans hrun, (htick.get rfl).trans hevt, fun hix hph => ?_, State.eq_of_rest hall.1, hall.2⟩
    rw [State.get_rearmTick_armed (by rwa [State.blockIx_setEngine]) (by rwa [State.phRunning_setEngine]),
      State.blockIx_setEngine]
  · have harm := s.onlyNames_lastArmed
    have hset := s.lastArmed.onlyNames_setEngine 3
    obtain ⟨hstp, hevt⟩ := s.lastArmed.get_setEngine (by decide : 3 < 4)
    obtain ⟨hflush, hnone⟩ := State.flushParams_idle s.lastArmed.preparing_setEngine_stopping
    obtain ⟨hrcl, hcmds⟩ := (s.lastArmed.setEngine 3).flushParams.scnOnly_stopRecall
    have hbefore {f : Fld} (h1 : State.refuseNames.all (fun g => !(g.id == f.id)) = true)
        (h2 : [F.SYS_ENGINE_STATE, F.SYS_PWR_STATE, F.SYS_EVT_STATE].all (fun g => !(g.id == f.id)) = true)
        (h3 : State.tickNames.all (fun g => !(g.id == f.id)) = true) :
        (s.lastArmed.setEngine 3).flushParams.get f = s.get f :=
      (hflush.get h1).trans ((hset.get h2).trans (harm.get h3))
    have hall : s.ScnOnly (s.lastArmed.setEngine 3).flushParams.stopRecall
        ([F.SYS_ENGINE_STATE, F.SYS_PWR_STATE, F.SYS_EVT_STATE] ++ State.tickNames ++ State.recallNames ++ State.refuseNames) :=
      (((harm.scn.mono (by simp [State.tickNames])).trans (hset.scn.mono (by simp))).trans
        (hflush.mono (by simp [State.refuseNames]))).trans (hrcl.mono (by simp [State.recallNames]))
    refine ⟨_, congrArg Host.Outcome.next (State.stopTarget_due hst hstop hdue), (hrcl.get rfl).trans ((hflush.get rfl).trans hstp),
      (hrcl.get rfl).trans ((hflush.get rfl).trans hevt), hcmds.trans hnone, fun hbusy => ?_, ?_, ?_⟩
    · exact State.get_stopRecall (by rwa [hbefore rfl rfl rfl])
    · exact State.eq_of_rest hall.1
    · exact (hall.mono (by simp [State.tickNames, State.recallNames, State.refuseNames])).2
  · obtain ⟨hstate, hevt, hpwr⟩ := s.get_halted
    have hout : exec .engineStopped s = .next s.halted.phFlush.silenceAll := by
      rw [show exec .engineStopped s = .next s.stopped from rfl, State.stopped_due hst hdue, if_neg (by simp [State.on, hagain])]
    have hmems := s.stopped_mems
    rw [State.stopped_due hst hdue, if_neg (by simp [State.on, hagain])] at hmems
    exact ⟨_, hout, hstate, hevt, hpwr, rfl, hmems, (State.frc_phFlush _).trans s.onlyNames_halted.frc_eq,
      fun k => s.get_halted_other rfl rfl, fun k => s.get_halted_other rfl rfl⟩
  · have hout : exec .engineStopped s = .next (s.halted.phFlush.silenceAll.engineStart s.restartTarget) := by
      rw [show exec .engineStopped s = .next s.stopped from rfl, State.stopped_due hst hdue, if_pos (by simp [State.on, hagain]),
        State.restartTarget_halted]
    have hmems := s.stopped_mems
    rw [State.stopped_due hst hdue, if_pos (by simp [State.on, hagain]), State.restartTarget_halted] at hmems
    obtain ⟨hstate, -, htgt⟩ := s.halted.phFlush.silenceAll.get_engineStart s.restartTarget
    obtain ⟨hvm, hfrc⟩ := s.halted.phFlush.silenceAll.engineStart_vm_frc s.restartTarget
    exact ⟨_, hout, hstate, congrArg Voice.phasor hvm, htgt, hmems,
      hfrc.trans ((State.frc_phFlush _).trans s.onlyNames_halted.frc_eq)⟩

end Sys2Proof.Machine
end

section
/-! A retired service line whose line-fault time stands past the 16 bits of its register (R454): no command leaves one so, and
the statement takes every state. -/

namespace Sys2Proof.Machine

/-- The firmware runs, U0 is retired and its line is high, and its line-fault time is 2 ^ 31. -/
def faultTimePastWidth : State :=
  ((({ State.reset with regs := [(((F.U_LINE_LINEFAULT_T 0).id, 0), 2 ^ 31)] }.set I.BOOT_PH 1).set F.SYS_PWR_STATE 0).set
    (F.U_STAT_RXST 0) 1).set (F.U_STAT_LINE_LVL 0) 1

/-- Refutes O50: the rearm is the write of 2 ^ 31 plus the time kept, whose bit 31 the time carries away, so the line stays
retired. -/
theorem not_serviceLinkLinesComplete : ¬ Obligations.ServiceLinkLinesComplete := by
  unfold Obligations.ServiceLinkLinesComplete
  intro h
  obtain ⟨-, -, -, -, -, -, -, -, -, -, -, -, -, -, -, -, -, -, hrearm⟩ := h faultTimePastWidth (by decide +kernel)
  obtain ⟨hrxst, -⟩ := State.of_next rfl (hrearm (by decide +kernel) (by decide +kernel))
  exact absurd hrxst (by decide +kernel)

end Sys2Proof.Machine
end

section
/-! An AES3 loopback on the receiver that a reference entry follows (R48, R462). -/

namespace Sys2Proof.Machine

/-- The firmware runs, and entry 0 of the references follows AES3 receiver 0, whose lock is kept, and is qualified. -/
def receiverIsReference : State :=
  ((((((State.reset.set I.BOOT_PH 1).set F.SYS_PWR_STATE 0).set I.RATE_M 0).set (I.REF_KIND 0) 2).set (I.REF_INST 0) 0).set
    (F.CLK_REFPRI_QUAL 0) 1).set (F.AES_RXSTAT_LOCK 0) 1

/-- Refutes O51: at the end of the test the receiver loses its lock, and entry 0 is no longer qualified, where the clause on a
loopback that times out keeps QUAL. The state begins with LOCK set, which no command leaves so with the receiver OFF; in the
clause on a loopback that locks the test itself sets it, at a rate that the model leaves open. -/
theorem not_serviceLinkTestsComplete : ¬ Obligations.ServiceLinkTestsComplete := by
  unfold Obligations.ServiceLinkTestsComplete
  intro h
  obtain ⟨-, -, -, htimeout, -⟩ := h receiverIsReference (by decide +kernel)
  obtain ⟨-, -, -, -, -, -, hkeep⟩ := State.of_next rfl (htimeout 0 0 0 (by decide +kernel) (by decide +kernel)
    (by decide +kernel) (by decide +kernel) (by decide +kernel) (by decide +kernel) (by decide +kernel) (by decide +kernel)
    (by decide +kernel) (by decide +kernel))
  exact absurd (hkeep (F.CLK_REFPRI_QUAL 0) (by decide +kernel)) (by decide +kernel)

end Sys2Proof.Machine
end

section
/-! Faults entered, repair swaps, rotations and loans of Medlar (R404 to R416): what each leaves where nothing else waits. -/

namespace Sys2Proof.Machine

namespace State

/-! ### A fault entered in the log -/

theorem eq_of_faultOnly {s t : State} {fs : List Fld} (h : s.FaultOnly t fs) :
    t = { s with regs := t.regs, toDeliver := t.toDeliver, faults := t.faults } :=
  congrArg (fun u : State => { u with regs := t.regs, toDeliver := t.toDeliver, faults := t.faults }) h.1

theorem FaultOnly.get {s t : State} {fs : List Fld} (h : s.FaultOnly t fs) {f : Fld}
    (hf : fs.all (fun g => !(g.id == f.id)) = true) : t.get f = s.get f :=
  h.2 f fun hm => by
    obtain ⟨g, hg, he⟩ := List.mem_map.mp hm
    have := List.all_eq_true.mp hf g hg
    simp [he] at this

theorem mdlFault_eq {s : State} {fault : Nat} (h : fault ≠ 1) (unit inst : Nat) (ok : Bool) (tact pact detail logical : Nat) :
    ∃ t : State, s.mdlFault fault unit inst ok tact pact detail logical =
      t.mdlEntry fault unit inst (s.mdlPermanent fault unit inst ok)
        (if s.mdlPermanent fault unit inst ok then pact else tact) (s.mdlCount fault unit inst) detail logical :=
  ⟨_, if_neg (by simp [h])⟩

theorem mdlEntry_cause (s : State) (fault unit inst : Nat) (perm : Bool) (action wcount detail logical : Nat) :
    ∃ t : State, s.mdlEntry fault unit inst perm action wcount detail logical = t.raise (if perm then 25 else 24) := ⟨_, rfl⟩

/-- A fault that is not permanent is event 24's cause. -/
theorem get_mdlFault_transient {s : State} {fault unit inst : Nat} {ok : Bool} (h : fault ≠ 1)
    (hperm : s.mdlPermanent fault unit inst ok = false) (tact pact detail logical : Nat) :
    (s.mdlFault fault unit inst ok tact pact detail logical).get F.MDL_EVT_EVT % 2 = 1 := by
  obtain ⟨t, ht⟩ := mdlFault_eq (s := s) h unit inst ok tact pact detail logical
  obtain ⟨u, hu⟩ := t.mdlEntry_cause fault unit inst (s.mdlPermanent fault unit inst ok)
    (if s.mdlPermanent fault unit inst ok then pact else tact) (s.mdlCount fault unit inst) detail logical
  rw [ht, hu, hperm, if_neg (by decide)]
  simpa using get_raise_bit (f := F.MDL_EVT_EVT) (k := 0) u (n := 24) rfl (by decide)

/-- A permanent fault is event 25's cause. -/
theorem get_mdlFault_permanent {s : State} {fault unit inst : Nat} {ok : Bool} (h : fault ≠ 1)
    (hperm : s.mdlPermanent fault unit inst ok = true) (tact pact detail logical : Nat) :
    (s.mdlFault fault unit inst ok tact pact detail logical).get F.MDL_EVT_EVT / 2 % 2 = 1 := by
  obtain ⟨t, ht⟩ := mdlFault_eq (s := s) h unit inst ok tact pact detail logical
  obtain ⟨u, hu⟩ := t.mdlEntry_cause fault unit inst (s.mdlPermanent fault unit inst ok)
    (if s.mdlPermanent fault unit inst ok then pact else tact) (s.mdlCount fault unit inst) detail logical
  rw [ht, hu, hperm, if_pos rfl]
  exact get_raise_bit (f := F.MDL_EVT_EVT) (k := 1) u (n := 25) rfl (by decide)

/-! ### The next repair -/

theorem nextRepair_congr {s t : State} {ord : Nat → Fld} (h : ∀ n, t.get (ord n) = s.get (ord n)) :
    t.nextRepair ord = s.nextRepair ord := by
  simp only [nextRepair, h]

theorem swapNext_quiet {s : State} (h : s.nextRepair I.RPS_ORD = none) : s.swapNext = s := by
  unfold swapNext
  split
  · rfl
  · simp only [h]

theorem loanNext_quiet {s : State} (h : s.nextRepair I.RPL_ORD = none) : s.loanNext = s := by
  unfold loanNext
  split
  · rfl
  · simp only [h]

/-! ### The counts of spares and of tested units -/

theorem keepsFields_syncSpares (s : State) : s.KeepsFields s.syncSpares spareNames := by
  simp [syncSpares, spareNames]

theorem get_syncSpares (s : State) {f : Fld} (h : spareNames.all (fun g => !(g.id == f.id)) = true) :
    s.syncSpares.get f = s.get f := (onlyNames_freeCounts s).get h

theorem onlyNames_syncCover (s : State) : s.OnlyNames s.syncCover coverNames := (onlyNames_set rfl _).trans (onlyNames_set rfl _)

theorem keepsFields_syncCover (s : State) : s.KeepsFields s.syncCover coverNames := by
  simp [syncCover, coverNames]

theorem get_syncCover (s : State) {f : Fld} (h : coverNames.all (fun g => !(g.id == f.id)) = true) :
    s.syncCover.get f = s.get f := (onlyNames_syncCover s).get h

/-! ### Repair swaps -/

/-- A re-run changes cores alone. -/
theorem rerun_cores (s : State) (n : Nat) (load : Bool) : s.rerun n load = { s with cores := (s.rerun n load).cores } := by
  unfold rerun
  dsimp only
  split <;> rfl

theorem rerun_run {s : State} {n : Nat} {r : PipRun} (h : (activeBank (s.core n)).run = some r) (load : Bool) :
    (activeBank ((s.rerun n load).core n)).run = some (repeatRun r load) ∧
    ∀ k, k ≠ n → (s.rerun n load).core k = s.core k := by
  constructor
  · simp only [rerun, h, core_setCore_same, activeBank_withActive]
  · intro k hk
    simp only [rerun, h]
    exact core_setCore_ne s _ hk

/-- The map of core `n` once its spare serves it. -/
def repaired (s : State) (n : Nat) : State :=
  ((((((s.set (I.PC_RET (s.get (F.MDL_MAP_PHYS n))) 1).set (F.MDL_MAP_PHYS n) (s.get (F.MDL_MAP_SPARE n))).set
    (F.MDL_MAP_SPARE n) 0).set (F.MDL_MAP_PHASE n) 0).set (I.PC_BUSY (s.get (F.MDL_MAP_SPARE n))) 0).set I.RPS_N 0).raise 26

theorem get_repaired_other (s : State) (n : Nat) {f : Fld}
    (h : [I.PC_RET 0, F.MDL_MAP_PHYS 0, F.MDL_MAP_SPARE 0, F.MDL_MAP_PHASE 0, I.PC_BUSY 0, I.RPS_N, F.MDL_EVT_EVT].all
      (fun g => !(g.id == f.id)) = true) : (s.repaired n).get f = s.get f :=
  OnlyNames.get (((((((onlyNames_set rfl _).trans (onlyNames_set rfl _)).trans (onlyNames_set rfl _)).trans
    (onlyNames_set rfl _)).trans (onlyNames_set rfl _)).trans (onlyNames_set rfl _)).trans (onlyNames_raise rfl) :
    s.OnlyNames (s.repaired n) [I.PC_RET 0, F.MDL_MAP_PHYS 0, F.MDL_MAP_SPARE 0, F.MDL_MAP_PHASE 0, I.PC_BUSY 0, I.RPS_N,
      F.MDL_EVT_EVT]) h

theorem repairDone_eq {s : State} {n : Nat} (hn : s.get I.RPS_N = n + 1) (hnone : s.nextRepair I.RPS_ORD = none) :
    ∃ cs, s.repairDone = ({ s.repaired n with cores := cs } : State).syncSpares := by
  have hne : ¬s.get I.RPS_N = 0 := by omega
  have hpred : s.get I.RPS_N - 1 = n := by omega
  rw [repairDone, if_neg hne, hpred]
  dsimp only
  rw [rerun_cores]
  refine ⟨_, swapNext_quiet (?_ : State.nextRepair (State.syncSpares _) I.RPS_ORD = none)⟩
  rw [← hnone]
  exact nextRepair_congr fun k => (get_syncSpares _ rfl).trans (get_repaired_other s n rfl)

/-! ### Rotations -/

/-- The rotation of core `n` to spare `p` as it begins. -/
def rotating (s : State) (n p : Nat) : State :=
  ((((((s.set F.MDL_COVER_CSUSP 0).set (I.PC_BUSY p) 1).set I.ROT_N (n + 1)).set I.ROT_NEXT (n + 1)).set
    (F.MDL_MAP_PHASE n) 1).set (F.MDL_MAP_SPARE n) p).syncSpares

theorem rotStart_free {s : State} {n p : Nat} {ps : List Nat} (hct : s.get F.MDL_CTRL_CT ≠ 0) (hrot : s.get I.ROT_N = 0)
    (htest : s.get I.ROT_TEST = 0) (hwarn : s.get F.CUR_MONSTAT_WARN = 0) (hfree : s.freeCores = p :: ps)
    (hturn : s.rotTurn = some n) : s.rotStart = s.rotating n p := by
  simp only [rotStart, hct, hrot, htest, on, hwarn, hfree, hturn, if_false, ne_eq, not_true_eq_false, or_self, decide_false,
    Bool.false_eq_true, rotating]

theorem rotStart_none {s : State} (hct : s.get F.MDL_CTRL_CT ≠ 0) (hrot : s.get I.ROT_N = 0)
    (htest : s.get I.ROT_TEST = 0) (hwarn : s.get F.CUR_MONSTAT_WARN = 0) (hfree : s.freeCores = []) :
    s.rotStart = (s.set F.MDL_COVER_CSUSP 1).raise 28 := by
  simp only [rotStart, hct, hrot, htest, on, hwarn, hfree, if_false, ne_eq, not_true_eq_false, or_self, decide_false,
    Bool.false_eq_true]

theorem onlyRegs_rotating (s : State) (n p : Nat) :
    s.OnlyRegs (s.rotating n p) (spareNames ++ [F.MDL_COVER_CSUSP, I.PC_BUSY p, I.ROT_N, I.ROT_NEXT, F.MDL_MAP_PHASE n,
      F.MDL_MAP_SPARE n]) := by
  simp [onlyRegs_iff, rotating, syncSpares, spareNames]

theorem get_rotating {s : State} {n p : Nat} (hn : n < 64) (hp : p < 72) :
    (s.rotating n p).get (F.MDL_MAP_PHASE n) = 1 ∧ (s.rotating n p).get (F.MDL_MAP_SPARE n) = p ∧
    (s.rotating n p).get I.ROT_N = n + 1 ∧ (s.rotating n p).get F.MDL_COVER_CSUSP = 0 := by
  rw [rotating, get_syncSpares _ rfl, get_syncSpares _ rfl, get_syncSpares _ rfl, get_syncSpares _ rfl]
  refine ⟨?_, ?_, ?_, ?_⟩
  · rw [get_set_other _ _ rfl]
    exact get_set_of_lt _ (show 1 < 2 ^ 2 by decide)
  · exact get_set_of_lt _ (hp.trans (show 72 < 2 ^ 7 by decide))
  · rw [get_set_other _ _ rfl, get_set_other _ _ rfl, get_set_other _ _ rfl]
    exact get_set_of_lt _ (Nat.lt_trans (by omega : n + 1 < 65) (by decide))
  · rw [get_set_other _ _ rfl, get_set_other _ _ rfl, get_set_other _ _ rfl, get_set_other _ _ rfl, get_set_other _ _ rfl]
    exact get_set_of_lt _ (by decide)

theorem freeCores_lt {s : State} {p : Nat} (h : p ∈ s.freeCores) : p < 72 := List.mem_range.mp (List.mem_filter.mp h).1

theorem rotTurn_lt {s : State} {n : Nat} (h : s.rotTurn = some n) : n < 64 := by
  obtain ⟨i, -, rfl⟩ := List.mem_map.mp (List.mem_of_find?_eq_some h)
  exact Nat.mod_lt _ (by decide)

/-- The switch to the spare. -/
def switched (s : State) (n : Nat) : State :=
  (((((((s.set (F.MDL_MAP_PHYS n) (s.get (F.MDL_MAP_SPARE n))).set (F.MDL_MAP_PHASE n) 0).set (F.MDL_MAP_SPARE n) 0).set
    (I.PC_BUSY (s.get (F.MDL_MAP_SPARE n))) 0).set (I.PC_BUSY (s.get (F.MDL_MAP_PHYS n))) 1).set I.ROT_N 0).set I.ROT_TEST
    (s.get (F.MDL_MAP_PHYS n) + 1)).set I.ROT_OF n

theorem rotSwitch_ready {s : State} {n : Nat} (hn : s.get I.ROT_N = n + 1) (hph : s.get (F.MDL_MAP_PHASE n) = 2)
    (hready : s.rotReady n = true) :
    s.rotSwitch = ((s.setCore n { s.core n with flaws := [] }).switched n).syncSpares := by
  have hpred : s.get I.ROT_N - 1 = n := by omega
  rw [rotSwitch, hpred]
  exact if_pos ⟨by omega, hph, hready⟩

/-- The test of the old core ended. -/
def testEnded (s : State) (n : Nat) : State :=
  ((s.set I.ROT_TEST 0).set (I.PC_BUSY n) 0).set (I.CTEST_AT (s.get I.ROT_OF)) (s.tclk + 1)

/-- The names the end of a test writes. -/
def testNames : List Fld := [I.ROT_TEST, I.PC_BUSY 0, I.CTEST_AT 0]

theorem onlyNames_testEnded (s : State) (n : Nat) : s.OnlyNames (s.testEnded n) testNames :=
  ((onlyNames_set rfl _).trans (onlyNames_set rfl _)).trans (onlyNames_set rfl _)

theorem rotTested_passed {s : State} {n : Nat} (march : Bool) (hn : s.get I.ROT_TEST = n + 1)
    (hnone : s.nextRepair I.RPS_ORD = none) :
    s.rotTested true march = if s.on I.ROT_DUE then ((s.testEnded n).syncSpares.syncCover.set I.ROT_DUE 0).rotStart
      else (s.testEnded n).syncSpares.syncCover := by
  have hne : ¬s.get I.ROT_TEST = 0 := by omega
  have hpred : s.get I.ROT_TEST - 1 = n := by omega
  have hquiet : (s.testEnded n).syncSpares.syncCover.swapNext = (s.testEnded n).syncSpares.syncCover :=
    swapNext_quiet (by
      rw [← hnone]
      exact nextRepair_congr fun k => (get_syncCover _ rfl).trans ((get_syncSpares _ rfl).trans
        ((s.onlyNames_testEnded n).get rfl)))
  have hdue : (s.testEnded n).syncSpares.syncCover.on I.ROT_DUE = s.on I.ROT_DUE := by
    rw [on, on, get_syncCover _ rfl, get_syncSpares _ rfl, (s.onlyNames_testEnded n).get rfl]
  rw [testEnded] at hquiet hdue ⊢
  rw [rotTested, if_neg hne, hpred]
  dsimp only
  rw [if_pos rfl, hquiet, hdue]

/-- A failed test: the core is retired, fault 0x04 or 0x05 entered, and event 26 raised. -/
def testFailed (s : State) (n : Nat) (march : Bool) : State :=
  ((s.testEnded n |>.set (I.PC_RET n) 1).mdlFault (if march then 4 else 5) 1 n false 2 2 0 0xFFFF).raise 26

theorem faultOnly_testFailed (s : State) (n : Nat) (march : Bool) :
    s.FaultOnly (s.testFailed n march) (testNames ++ [I.PC_RET 0] ++ logNames) := by
  have hret : s.OnlyNames ((s.testEnded n).set (I.PC_RET n) 1) (testNames ++ [I.PC_RET 0] ++ logNames) :=
    ((s.onlyNames_testEnded n).mono (by simp)).trans (onlyNames_set rfl 1)
  exact (hret.faults.trans ((faultOnly_mdlFault _ _ _ _ _ _ _ _ _).mono (by simp))).trans (onlyNames_raise rfl).faults

theorem get_testFailed (s : State) (n : Nat) (march : Bool) :
    (s.testFailed n march).get (I.PC_RET n) = 1 ∧ (s.testFailed n march).get F.MDL_EVT_EVT / 2 % 4 = 3 := by
  have hbad : (if march then 4 else 5) ≠ 1 := by cases march <;> decide
  have hperm (t : State) : t.mdlPermanent (if march then 4 else 5) 1 n false = true := by cases march <;> rfl
  have h25 := get_mdlFault_permanent hbad (hperm ((s.testEnded n).set (I.PC_RET n) 1)) 2 2 0 0xFFFF
  have hk25 := get_raise_keeps_bit (((s.testEnded n).set (I.PC_RET n) 1).mdlFault (if march then 4 else 5) 1 n false 2 2 0 0xFFFF)
    (n := 26) (k := 1) (f := F.MDL_EVT_EVT) rfl (by decide) h25
  have h26 := get_raise_bit (((s.testEnded n).set (I.PC_RET n) 1).mdlFault (if march then 4 else 5) 1 n false 2 2 0 0xFFFF)
    (n := 26) (k := 2) (f := F.MDL_EVT_EVT) rfl (by decide)
  constructor
  · rw [testFailed, get_raise_apart _ rfl, (faultOnly_mdlFault _ _ _ _ _ _ _ _ _).get rfl]
    exact get_set_of_lt _ (show 1 < 2 ^ 1 by decide)
  · rw [testFailed]
    omega

theorem rotTested_failed {s : State} {n : Nat} (march : Bool) (hn : s.get I.ROT_TEST = n + 1)
    (hnone : s.nextRepair I.RPS_ORD = none) (hdue : s.get I.ROT_DUE = 0) :
    s.rotTested false march = (s.testFailed n march).syncSpares.syncCover := by
  have hne : ¬s.get I.ROT_TEST = 0 := by omega
  have hpred : s.get I.ROT_TEST - 1 = n := by omega
  have hkept {f : Fld} (h1 : (testNames ++ [I.PC_RET 0] ++ logNames).all (fun g => !(g.id == f.id)) = true)
      (h2 : spareNames.all (fun g => !(g.id == f.id)) = true) (h3 : coverNames.all (fun g => !(g.id == f.id)) = true) :
      (s.testFailed n march).syncSpares.syncCover.get f = s.get f :=
    (get_syncCover _ h3).trans ((get_syncSpares _ h2).trans ((s.faultOnly_testFailed n march).get h1))
  have hquiet : (s.testFailed n march).syncSpares.syncCover.swapNext = (s.testFailed n march).syncSpares.syncCover :=
    swapNext_quiet (by
      rw [← hnone]
      exact nextRepair_congr fun k => hkept rfl rfl rfl)
  have hoff : ¬(s.testFailed n march).syncSpares.syncCover.on I.ROT_DUE = true := by
    rw [on, hkept rfl rfl rfl, hdue]
    decide
  rw [testFailed, testEnded] at hquiet hoff ⊢
  rw [rotTested, if_neg hne, hpred]
  dsimp only
  rw [if_neg Bool.false_ne_true, hquiet, if_neg hoff]

/-! ### Loans -/

/-- The background loan of bank `n` to spare `p` as it begins. -/
def lending (s : State) (n p : Nat) : State :=
  (((s.set F.MDL_COVER_BSUSP 0).set I.LOAN_N (n + 1)).set I.LOAN_NEXT (n + 1)).lend n p

theorem loanBegin_free {s : State} {n p : Nat} {ps : List Nat} (hbt : s.get F.MDL_CTRL_BT ≠ 0) (hloan : s.get I.LOAN_N = 0)
    (hwarn : s.get F.CUR_MONSTAT_WARN = 0) (hfree : s.freeBanks = p :: ps) (hturn : s.loanTurn = some n) :
    s.loanBegin = s.lending n p := by
  simp only [loanBegin, hbt, hloan, on, hwarn, hfree, hturn, if_false, ne_eq, not_true_eq_false, decide_false,
    Bool.false_eq_true, lending]

theorem onlyRegs_lending (s : State) (n p : Nat) :
    s.OnlyRegs (s.lending n p) (spareNames ++ [F.MDL_COVER_BSUSP, I.PB_BUSY p, I.LOAN_N, I.LOAN_NEXT, F.ORC_MAP_LOAN n,
      F.ORC_MAP_SPARE n]) := by
  simp [onlyRegs_iff, lending, lend, syncSpares, spareNames]

theorem freeBanks_lt {s : State} {p : Nat} (h : p ∈ s.freeBanks) : p < 68 := List.mem_range.mp (List.mem_filter.mp h).1

theorem loanTurn_lt {s : State} {n : Nat} (h : s.loanTurn = some n) : n < 64 := by
  obtain ⟨i, -, rfl⟩ := List.mem_map.mp (List.mem_of_find?_eq_some h)
  exact Nat.mod_lt _ (by decide)

theorem get_lending {s : State} {n p : Nat} (hn : n < 64) (hp : p < 68) :
    (s.lending n p).get (F.ORC_MAP_LOAN n) = 1 ∧ (s.lending n p).get (F.ORC_MAP_SPARE n) = p ∧
    (s.lending n p).get I.LOAN_N = n + 1 ∧ (s.lending n p).get F.MDL_COVER_BSUSP = 0 := by
  rw [lending, lend, get_syncSpares _ rfl, get_syncSpares _ rfl, get_syncSpares _ rfl, get_syncSpares _ rfl]
  refine ⟨?_, ?_, ?_, ?_⟩
  · rw [get_set_other _ _ rfl]
    exact get_set_of_lt _ (show 1 < 2 ^ 2 by decide)
  · exact get_set_of_lt _ (hp.trans (show 68 < 2 ^ 7 by decide))
  · rw [get_set_other _ _ rfl, get_set_other _ _ rfl, get_set_other _ _ rfl, get_set_other _ _ rfl]
    exact get_set_of_lt _ (Nat.lt_trans (by omega : n + 1 < 65) (by decide))
  · rw [get_set_other _ _ rfl, get_set_other _ _ rfl, get_set_other _ _ rfl, get_set_other _ _ rfl, get_set_other _ _ rfl]
    exact get_set_of_lt _ (by decide)

/-- Bank `n`'s errors leave with the bank. -/
def withoutFlaws (s : State) (n : Nat) : State :=
  { s with orcFlaws := s.orcFlaws.filter (fun f => !decide (f.ix / 0x40000 = n)) }

theorem loanCopied_background {s : State} {n : Nat} (hn : s.get I.LOAN_N = n + 1) (hloan : s.get (F.ORC_MAP_LOAN n) = 1) :
    s.loanCopied false = (s.withoutFlaws n).set (F.ORC_MAP_LOAN n) 2 := by
  have hpred : s.get I.LOAN_N - 1 = n := by omega
  rw [loanCopied, if_neg Bool.false_ne_true, hpred]
  dsimp only
  rw [if_neg (by omega), if_neg (by simp)]
  rfl

/-- The repair of bank `n` with its spare in service. -/
def replaced (s : State) (n : Nat) : State :=
  (((s.loanEnd n).set (I.PB_RET (s.get (F.ORC_MAP_PHYS n))) 1).set I.RPL_N 0).raise 26

theorem onlyNames_replaced (s : State) (n : Nat) : s.OnlyNames (s.replaced n) bankNames :=
  (((onlyNames_loanEnd s n).trans (onlyNames_set rfl 1)).trans (onlyNames_set rfl 0)).trans (onlyNames_raise rfl)

theorem keepsFields_replaced (s : State) (n : Nat) :
    s.KeepsFields (s.replaced n) [F.ORC_MAP_PHYS n, F.ORC_MAP_SPARE n, F.ORC_MAP_LOAN n, I.PB_BUSY (s.get (F.ORC_MAP_SPARE n)),
      I.PB_RET (s.get (F.ORC_MAP_PHYS n)), I.RPL_N, F.MDL_EVT_EVT] := by
  have hevt : ∀ e, evCause 26 = some e → e.1 ∈ [F.ORC_MAP_PHYS n, F.ORC_MAP_SPARE n, F.ORC_MAP_LOAN n,
      I.PB_BUSY (s.get (F.ORC_MAP_SPARE n)), I.PB_RET (s.get (F.ORC_MAP_PHYS n)), I.RPL_N, F.MDL_EVT_EVT] := by
    rintro e ⟨⟩
    simp
  exact (keepsFields_raise hevt).mpr (by simp [loanEnd])

theorem get_loanEnd (s : State) (n : Nat) :
    (s.loanEnd n).get (F.ORC_MAP_PHYS n) = s.get (F.ORC_MAP_SPARE n) % 128 ∧ (s.loanEnd n).get (F.ORC_MAP_LOAN n) = 0 := by
  constructor
  · simp (disch := exact id rfl) only [loanEnd, get_set_other, get_set_same]
    rfl
  · rw [loanEnd, get_set_other _ _ rfl]
    exact get_set_of_lt _ (show 0 < 2 ^ 2 by decide)

theorem get_replaced (s : State) (n : Nat) :
    (s.replaced n).get (F.ORC_MAP_PHYS n) = s.get (F.ORC_MAP_SPARE n) % 128 ∧ (s.replaced n).get (F.ORC_MAP_LOAN n) = 0 ∧
    (s.replaced n).get (I.PB_RET (s.get (F.ORC_MAP_PHYS n))) = 1 ∧ (s.replaced n).get F.MDL_EVT_EVT / 4 % 2 = 1 := by
  obtain ⟨hphys, hloan⟩ := s.get_loanEnd n
  refine ⟨?_, ?_, ?_, ?_⟩
  · rw [replaced, get_raise_apart _ rfl, get_set_other _ _ rfl, get_set_other _ _ rfl, hphys]
  · rw [replaced, get_raise_apart _ rfl, get_set_other _ _ rfl, get_set_other _ _ rfl, hloan]
  · rw [replaced, get_raise_apart _ rfl, get_set_other _ _ rfl]
    exact get_set_of_lt _ (show 1 < 2 ^ 1 by decide)
  · exact get_raise_bit _ (k := 2) (f := F.MDL_EVT_EVT) rfl (by decide)

theorem loanCopied_repair {s : State} {n : Nat} (hn : s.get I.RPL_N = n + 1) (hloan : s.get (F.ORC_MAP_LOAN n) = 1)
    (htest : s.get I.RPL_TEST = 0) (hnone : s.nextRepair I.RPL_ORD = none) :
    s.loanCopied true = ((s.withoutFlaws n).replaced n).syncSpares := by
  have hpred : s.get I.RPL_N - 1 = n := by omega
  have hquiet : ((s.withoutFlaws n).replaced n).syncSpares.loanNext = ((s.withoutFlaws n).replaced n).syncSpares :=
    loanNext_quiet (by
      rw [← hnone]
      refine nextRepair_congr fun k => (get_syncSpares _ rfl).trans ?_
      rw [replaced, get_raise_apart _ rfl, get_set_other _ _ rfl, get_set_other _ _ rfl, loanEnd, get_set_other _ _ rfl,
        get_set_other _ _ rfl, get_set_other _ _ rfl, get_set_other _ _ rfl]
      rfl)
  rw [← hquiet, loanCopied, if_pos rfl, hpred]
  dsimp only
  rw [if_neg (by omega)]
  exact if_pos ⟨rfl, htest⟩

/-- The loan of bank `n` at the end of its test: the spare stays in service. -/
def loanBack (s : State) (n : Nat) : State :=
  ((s.loanEnd n).set I.LOAN_N 0).set (I.BTEST_AT n) (s.tclk + 1)

/-- The names a loan's end writes. -/
def loanNames : List Fld := [F.ORC_MAP_PHYS 0, F.ORC_MAP_SPARE 0, F.ORC_MAP_LOAN 0, I.PB_BUSY 0, I.LOAN_N, I.BTEST_AT 0]

theorem onlyNames_loanBack (s : State) (n : Nat) : s.OnlyNames (s.loanBack n) loanNames :=
  (((((onlyNames_set rfl _).trans (onlyNames_set rfl 0)).trans (onlyNames_set rfl 0)).trans (onlyNames_set rfl 0)).trans
    (onlyNames_set rfl 0)).trans (onlyNames_set rfl _)

theorem get_loanBack (s : State) (n : Nat) :
    (s.loanBack n).get (F.ORC_MAP_PHYS n) = s.get (F.ORC_MAP_SPARE n) % 128 ∧ (s.loanBack n).get (F.ORC_MAP_LOAN n) = 0 ∧
    (s.loanBack n).get I.LOAN_N = 0 ∧ (s.loanBack n).get (I.BTEST_AT n) = (s.tclk + 1) % 2 ^ 64 := by
  obtain ⟨hphys, hloan⟩ := s.get_loanEnd n
  refine ⟨?_, ?_, ?_, get_set_same _ _ _⟩
  · rw [loanBack, get_set_other _ _ rfl, get_set_other _ _ rfl, hphys]
  · rw [loanBack, get_set_other _ _ rfl, get_set_other _ _ rfl, hloan]
  · rw [loanBack, get_set_other _ _ rfl]
    exact get_set_of_lt _ (by decide)

theorem loanTested_passed {s : State} {n : Nat} (hn : s.get I.LOAN_N = n + 1) (hloan : s.get (F.ORC_MAP_LOAN n) = 2)
    (hnone : s.nextRepair I.RPL_ORD = none) (hdue : s.get I.LOAN_DUE = 0) :
    s.loanTested false true = (s.loanBack n).syncSpares.syncCover := by
  have hpred : s.get I.LOAN_N - 1 = n := by omega
  have hkept {f : Fld} (h1 : loanNames.all (fun g => !(g.id == f.id)) = true)
      (h2 : spareNames.all (fun g => !(g.id == f.id)) = true) (h3 : coverNames.all (fun g => !(g.id == f.id)) = true) :
      (s.loanBack n).syncSpares.syncCover.get f = s.get f :=
    (get_syncCover _ h3).trans ((get_syncSpares _ h2).trans ((s.onlyNames_loanBack n).get h1))
  have hquiet : (s.loanBack n).syncSpares.syncCover.loanNext = (s.loanBack n).syncSpares.syncCover :=
    loanNext_quiet (hnone ▸ nextRepair_congr fun k => hkept rfl rfl rfl)
  have hoff : (s.loanBack n).syncSpares.syncCover.on I.LOAN_DUE = false := by
    rw [on, hkept rfl rfl rfl, hdue]
    rfl
  have htclk : (s.loanEnd n).tclk = s.tclk := rfl
  rw [loanBack] at hquiet hoff ⊢
  rw [loanTested, if_neg Bool.false_ne_true, hpred]
  dsimp only
  rw [if_neg (by omega)]
  simp only [Bool.false_and, Bool.not_true, Bool.false_eq_true, if_false, Bool.or_false, htclk]
  rw [hquiet, hoff]
  rfl

/-- A failed test of the bank that a loan released: the bank is retired, fault 0x04 entered, and event 26 raised. -/
def loanFailed (s : State) (n : Nat) : State :=
  ((s.loanBack n |>.set (I.PB_RET (s.get (F.ORC_MAP_PHYS n))) 1).mdlFault 4 2 (s.get (F.ORC_MAP_PHYS n)) false 2 2 0 0xFFFF).raise
    26

theorem faultOnly_loanFailed (s : State) (n : Nat) :
    s.FaultOnly (s.loanFailed n) (loanNames ++ [I.PB_RET 0] ++ logNames) := by
  have hret : s.OnlyNames ((s.loanBack n).set (I.PB_RET (s.get (F.ORC_MAP_PHYS n))) 1) (loanNames ++ [I.PB_RET 0] ++ logNames) :=
    ((s.onlyNames_loanBack n).mono (by simp)).trans (onlyNames_set rfl 1)
  exact (hret.faults.trans ((faultOnly_mdlFault _ _ _ _ _ _ _ _ _).mono (by simp))).trans (onlyNames_raise rfl).faults

theorem get_loanFailed (s : State) (n : Nat) :
    (s.loanFailed n).get (F.ORC_MAP_PHYS n) = s.get (F.ORC_MAP_SPARE n) % 128 ∧
    (s.loanFailed n).get (I.PB_RET (s.get (F.ORC_MAP_PHYS n))) = 1 ∧ (s.loanFailed n).get F.MDL_EVT_EVT / 2 % 4 = 3 := by
  rw [loanFailed]
  generalize hu : (s.loanBack n).set (I.PB_RET (s.get (F.ORC_MAP_PHYS n))) 1 = u
  have hfault := faultOnly_mdlFault u 4 2 (s.get (F.ORC_MAP_PHYS n)) false 2 2 0 0xFFFF
  have h25 := get_mdlFault_permanent (s := u) (fault := 4) (unit := 2) (inst := s.get (F.ORC_MAP_PHYS n)) (ok := false)
    (by decide) rfl 2 2 0 0xFFFF
  generalize u.mdlFault 4 2 (s.get (F.ORC_MAP_PHYS n)) false 2 2 0 0xFFFF = v at hfault h25
  have hk25 := get_raise_keeps_bit v (n := 26) (k := 1) (f := F.MDL_EVT_EVT) rfl (by decide) h25
  have h26 := get_raise_bit v (n := 26) (k := 2) (f := F.MDL_EVT_EVT) rfl (by decide)
  refine ⟨?_, ?_, by omega⟩
  · rw [get_raise_apart _ rfl, hfault.get rfl, ← hu, get_set_other _ _ rfl]
    exact (s.get_loanBack n).1
  · rw [get_raise_apart _ rfl, hfault.get rfl, ← hu]
    exact get_set_of_lt _ (show 1 < 2 ^ 1 by decide)

theorem loanTested_failed {s : State} {n : Nat} (hn : s.get I.LOAN_N = n + 1) (hloan : s.get (F.ORC_MAP_LOAN n) = 2)
    (hnone : s.nextRepair I.RPL_ORD = none) (hdue : s.get I.LOAN_DUE = 0) :
    s.loanTested false false = (s.loanFailed n).syncSpares.syncCover := by
  have hpred : s.get I.LOAN_N - 1 = n := by omega
  have hkept {f : Fld} (h1 : (loanNames ++ [I.PB_RET 0] ++ logNames).all (fun g => !(g.id == f.id)) = true)
      (h2 : spareNames.all (fun g => !(g.id == f.id)) = true) (h3 : coverNames.all (fun g => !(g.id == f.id)) = true) :
      (s.loanFailed n).syncSpares.syncCover.get f = s.get f :=
    (get_syncCover _ h3).trans ((get_syncSpares _ h2).trans ((s.faultOnly_loanFailed n).get h1))
  have hquiet : (s.loanFailed n).syncSpares.syncCover.loanNext = (s.loanFailed n).syncSpares.syncCover :=
    loanNext_quiet (hnone ▸ nextRepair_congr fun k => hkept rfl rfl rfl)
  have hoff : (s.loanFailed n).syncSpares.syncCover.on I.LOAN_DUE = false := by
    rw [on, hkept rfl rfl rfl, hdue]
    rfl
  have htclk : (s.loanEnd n).tclk = s.tclk := rfl
  rw [loanFailed, loanBack] at hquiet hoff ⊢
  rw [loanTested, if_neg Bool.false_ne_true, hpred]
  dsimp only
  rw [if_neg (by omega)]
  simp only [Bool.false_and, Bool.not_false, Bool.false_eq_true, if_false, if_true, Bool.or_true, htclk]
  rw [hquiet, hoff]
  rfl

/-! ### ASRC spares (R288, R408) -/

/-- The spare `k` - 1 in the place of channel `c`'s physical channel. -/
def tookOver (s : State) (c k : Nat) : State :=
  ((((s.set (F.SYS_CLAIM_OWNER (s.asrcSlot c)) 0).set (F.ASRC_CH_PHYS c) (k - 1)).set (I.ASRC_NEW c) 0).set (I.ASRC_GONE c) 0)

theorem asrcSlot_tookOver (s : State) (c n : Nat) : (s.tookOver c (n + 1)).asrcSlot c = 1088 + n % 1024 := by
  rw [asrcSlot, tookOver, get_set_other _ _ rfl, get_set_other _ _ rfl, get_set_same]
  rfl

theorem asrcTakeover_due {s : State} {c n : Nat} (hnew : s.get (I.ASRC_NEW c) = n + 1)
    (hdue : s.get (I.ASRC_GONE c) ≠ 0 ∨ s.frc % s.blockLen = 0 ∧ s.lasted (s.get (I.ASRC_RPAT c)) 4000 = true) :
    s.asrcTakeover c = ((s.tookOver c (n + 1)).set (F.SYS_CLAIM_OWNER (1088 + n % 1024))
      (s.get (F.SYS_CLAIM_OWNER (s.asrcSlot c)))).raise 107 := by
  have hgo : ¬(s.get (I.ASRC_NEW c) = 0 ∨ s.get (I.ASRC_GONE c) = 0 ∧
      (s.frc % s.blockLen ≠ 0 ∨ s.lasted (s.get (I.ASRC_RPAT c)) 4000 = false)) := by
    rcases hdue with h | ⟨hfrc, hlast⟩
    · simp [hnew, h]
    · simp [hnew, hfrc, hlast]
  rw [← asrcSlot_tookOver s c n, asrcTakeover]
  dsimp only
  rw [if_neg hgo, hnew]
  rfl

end State

end Sys2Proof.Machine
end

section
/-! Prefetches, repeats, rotations, loans, repairs and ageing reads (R170, R262, R288, R404 to R416). -/

namespace Sys2Proof.Machine

namespace State

/-- A prefetch whose sources admit the core lands. -/
theorem prefetched_lands {s : State} {n : Nat} {r : PipRun} (hrun : (activeBank (s.core n)).run = none)
    (hnext : (s.core n).next = some r) (hland : r.landed = false) (hfrozen : (s.core n).frozen = false)
    (hown : s.unownedSource n r = none) (hpend : s.sourcePending r = false) (horc : s.orcFlaws = []) (hdram : s.dramFlaws = []) :
    s.prefetched n = s.setCore n { s.landRun (s.core n) r with next := some { r with landed := true } } := by
  have hclean {t : State} (ho : t.orcFlaws = []) (hd : t.dramFlaws = []) (dram : Bool) (a k : Nat) : t.meetSource dram a k = t := by
    unfold meetSource
    split
    · rfl
    · split
      · simp [meetDram, flawsIn, hd, flawWords]
      · exact meetOrc_clean ho _ _
  have hsources {t : State} (ho : t.orcFlaws = []) (hd : t.dramFlaws = []) : t.meetSources r = t := by
    have hfold (l : List (Nat × Bool × Nat × Nat)) : l.foldl (fun s g => s.meetSource g.2.1 g.1 g.2.2.2) t = t := by
      induction l with
      | nil => rfl
      | cons g gs ih => rw [List.foldl_cons, hclean ho hd, ih]
    simp [meetSources, hclean ho hd, hfold]
  simp only [prefetched, hrun, prefetchedNext, hnext, hland, hfrozen, Bool.or_self, Bool.false_eq_true, if_false, hown, hpend]
  exact hsources horc hdram

theorem parityError_transient {s : State} {n : Nat} {r : PipRun} (imem : Bool) (hrun : (activeBank (s.core n)).run = some r)
    (hre : r.reruns = 0) (hfrozen : (s.core n).frozen = false) (hperm : s.mdlPermanent 3 1 (s.masterOf n) true = false) :
    s.parityError n imem = (s.mdlFault 3 1 (s.masterOf n) true 1 (spareAction s.freeCores) r.pip n).rerun n imem := by
  simp only [parityError, hrun, hre, hfrozen, hperm, decide_true, Bool.false_eq_true, if_false]

/-- A spare core that is worn: fault 0x06, event 29, and it is retired. -/
def wornSpare (s : State) (k : Nat) : State :=
  (((s.mdlFault 6 1 k false 2 (spareAction s.freeCores) 0 0xFFFF).raise 29).set (I.PC_RET k) 1).set (I.PC_BUSY k) 0

theorem faultOnly_wornSpare (s : State) (k : Nat) : s.FaultOnly (s.wornSpare k) (logNames ++ [I.PC_RET 0, I.PC_BUSY 0]) :=
  (((faultOnly_mdlFault _ _ _ _ _ _ _ _ _).mono (by simp)).trans (onlyNames_raise rfl).faults).trans
    ((onlyNames_set rfl _).trans (onlyNames_set rfl _)).faults

theorem get_wornSpare (s : State) (k : Nat) :
    (s.wornSpare k).get (I.PC_RET k) = 1 ∧ (s.wornSpare k).get F.MDL_EVT_EVT / 32 % 2 = 1 ∧
    (s.wornSpare k).get F.MDL_EVT_EVT / 2 % 2 = 1 := by
  have h25 := get_mdlFault_permanent (s := s) (fault := 6) (unit := 1) (inst := k) (ok := false) (by decide) rfl 2
    (spareAction s.freeCores) 0 0xFFFF
  rw [wornSpare]
  generalize s.mdlFault 6 1 k false 2 (spareAction s.freeCores) 0 0xFFFF = t at h25
  refine ⟨?_, ?_, ?_⟩
  · rw [get_set_other _ _ rfl]
    exact get_set_of_lt _ (show 1 < 2 ^ 1 by decide)
  · rw [get_set_other _ _ rfl, get_set_other _ _ rfl]
    exact get_raise_bit t (n := 29) (k := 5) (f := F.MDL_EVT_EVT) rfl (by decide)
  · rw [get_set_other _ _ rfl, get_set_other _ _ rfl]
    exact get_raise_keeps_bit t (n := 29) (k := 1) (f := F.MDL_EVT_EVT) rfl (by decide) h25

theorem worn_spare {s : State} {k : Nat} (hk : k < 72) (hspare : s.coreSpare k = true)
    (hfree : ∀ j < 64, s.get (F.MDL_MAP_PHASE j) = 0 ∨ s.get (F.MDL_MAP_SPARE j) ≠ k) :
    s.worn k = (s.wornSpare k).syncSpares := by
  obtain ⟨⟨hret, -⟩, hphys⟩ : (s.on (I.PC_RET k) = false ∧ s.on (I.PC_BUSY k) = false) ∧
      ∀ j < 64, s.get (F.MDL_MAP_PHYS j) ≠ k := by
    simpa [coreSpare] using hspare
  have hfault := faultOnly_mdlFault s 6 1 k false 2 (spareAction s.freeCores) 0 0xFFFF
  have hkept {f : Fld} (h1 : logNames.all (fun g => !(g.id == f.id)) = true) :
      ((s.mdlFault 6 1 k false 2 (spareAction s.freeCores) 0 0xFFFF).raise 29).get f = s.get f :=
    ((onlyNames_raise rfl : OnlyNames _ _ logNames).get h1).trans (hfault.get h1)
  have hnone : (List.range 64).find? (fun n => decide (s.get (F.MDL_MAP_PHYS n) = k)) = none := by
    simpa using hphys
  have hnone' : (List.range 64).find? (fun n => decide
      (((s.mdlFault 6 1 k false 2 (spareAction s.freeCores) 0 0xFFFF).raise 29).get (F.MDL_MAP_PHYS n) = k)) = none := by
    simpa only [hkept (f := F.MDL_MAP_PHYS _) rfl] using hnone
  have hidle : (List.range 64).find? (fun n => decide ((s.wornSpare k).get (F.MDL_MAP_PHASE n) ≠ 0) &&
      decide ((s.wornSpare k).get (F.MDL_MAP_SPARE n) = k)) = none := by
    have hkeep {f : Fld} (h1 : (logNames ++ [I.PC_RET 0, I.PC_BUSY 0]).all (fun g => !(g.id == f.id)) = true) :
        (s.wornSpare k).get f = s.get f := (s.faultOnly_wornSpare k).get h1
    simp only [hkeep (f := F.MDL_MAP_PHASE _) rfl, hkeep (f := F.MDL_MAP_SPARE _) rfl]
    simpa [or_iff_not_imp_left] using hfree
  have hout : ((none : Option Nat).any (fun n => decide (s.get (I.RPS_ORD n) ≠ 0) || decide (s.get I.RPS_N = n + 1))) = false := rfl
  rw [wornSpare] at hidle ⊢
  simp only [worn, hk, if_true, hret, Bool.false_eq_true, if_false, hnone, hout, Option.getD_none, coreRetired, hnone', hidle]

/-! ### What the ends of repairs and tests leave -/

theorem eq_of_rest_cores {s t : State} (h : t.rest = ({ s with cores := t.cores } : State).rest) :
    t = { s with regs := t.regs, toDeliver := t.toDeliver, cores := t.cores } :=
  congrArg (fun u : State => { u with regs := t.regs, toDeliver := t.toDeliver }) h

theorem get_repaired (s : State) (n : Nat) :
    (s.repaired n).get (F.MDL_MAP_PHYS n) = s.get (F.MDL_MAP_SPARE n) % 128 ∧ (s.repaired n).get (F.MDL_MAP_PHASE n) = 0 ∧
    (s.repaired n).get (I.PC_RET (s.get (F.MDL_MAP_PHYS n))) = 1 ∧ (s.repaired n).get F.MDL_EVT_EVT / 4 % 2 = 1 ∧
    (s.repaired n).get I.RPS_N = 0 := by
  refine ⟨?_, ?_, ?_, get_raise_bit _ (k := 2) (f := F.MDL_EVT_EVT) rfl (by decide), ?_⟩
  · rw [repaired, get_raise_apart _ rfl, get_set_other _ _ rfl, get_set_other _ _ rfl, get_set_other _ _ rfl,
      get_set_other _ _ rfl, get_set_same]
    rfl
  · rw [repaired, get_raise_apart _ rfl, get_set_other _ _ rfl, get_set_other _ _ rfl]
    exact get_set_of_lt _ (show 0 < 2 ^ 2 by decide)
  · rw [repaired, get_raise_apart _ rfl, get_set_other _ _ rfl, get_set_other _ _ rfl, get_set_other _ _ rfl,
      get_set_other _ _ rfl, get_set_other _ _ rfl]
    exact get_set_of_lt _ (show 1 < 2 ^ 1 by decide)
  · rw [repaired, get_raise_apart _ rfl]
    exact get_set_of_lt _ (by decide)

theorem keepsFields_repaired (s : State) (n : Nat) :
    s.KeepsFields (s.repaired n) [F.MDL_MAP_PHYS n, F.MDL_MAP_SPARE n, F.MDL_MAP_PHASE n, I.RPS_N,
      I.PC_RET (s.get (F.MDL_MAP_PHYS n)), I.PC_BUSY (s.get (F.MDL_MAP_SPARE n)), F.MDL_EVT_EVT] := by
  have hevt : ∀ e, evCause 26 = some e → e.1 ∈ [F.MDL_MAP_PHYS n, F.MDL_MAP_SPARE n, F.MDL_MAP_PHASE n, I.RPS_N,
      I.PC_RET (s.get (F.MDL_MAP_PHYS n)), I.PC_BUSY (s.get (F.MDL_MAP_SPARE n)), F.MDL_EVT_EVT] := by
    rintro e ⟨⟩
    simp
  exact (keepsFields_raise hevt).mpr (by simp)

theorem get_switched (s : State) (n : Nat) :
    (s.switched n).get (F.MDL_MAP_PHYS n) = s.get (F.MDL_MAP_SPARE n) % 128 ∧ (s.switched n).get (F.MDL_MAP_PHASE n) = 0 ∧
    (s.switched n).get I.ROT_N = 0 ∧ (s.switched n).get I.ROT_TEST = (s.get (F.MDL_MAP_PHYS n) + 1) % 128 := by
  refine ⟨?_, ?_, ?_, ?_⟩
  · rw [switched, get_set_other _ _ rfl, get_set_other _ _ rfl, get_set_other _ _ rfl, get_set_other _ _ rfl,
      get_set_other _ _ rfl, get_set_other _ _ rfl, get_set_other _ _ rfl, get_set_same]
    rfl
  · rw [switched, get_set_other _ _ rfl, get_set_other _ _ rfl, get_set_other _ _ rfl, get_set_other _ _ rfl,
      get_set_other _ _ rfl, get_set_other _ _ rfl]
    exact get_set_of_lt _ (show 0 < 2 ^ 2 by decide)
  · rw [switched, get_set_other _ _ rfl, get_set_other _ _ rfl]
    exact get_set_of_lt _ (by decide)
  · rw [switched, get_set_other _ _ rfl, get_set_same]
    rfl

theorem keepsFields_switched (s : State) (n : Nat) :
    s.KeepsFields (s.switched n) [F.MDL_MAP_PHYS n, F.MDL_MAP_PHASE n, F.MDL_MAP_SPARE n, I.PC_BUSY (s.get (F.MDL_MAP_SPARE n)),
      I.PC_BUSY (s.get (F.MDL_MAP_PHYS n)), I.ROT_N, I.ROT_TEST, I.ROT_OF] := by
  simp [switched]

theorem toDeliver_switched (s : State) (n : Nat) : (s.switched n).syncSpares.toDeliver = s.toDeliver := rfl

theorem switched_frame (s : State) (c : Core) (n : Nat) :
    ((s.setCore n c).switched n).syncSpares = { s with
      regs := ((s.setCore n c).switched n).syncSpares.regs, cores := ((s.setCore n c).switched n).syncSpares.cores } := by
  have hrest : ((s.setCore n c).switched n).syncSpares.rest = (s.setCore n c).rest :=
    (onlyNames_freeCounts _).1.trans (by simp [switched])
  have htimes := (s.setCore n c).toDeliver_switched n
  generalize ((s.setCore n c).switched n).syncSpares = t at hrest htimes
  have hframe := eq_of_rest_toDeliver hrest htimes
  have hcores := congrArg (fun u : State => u.cores) hframe
  replace hcores : t.cores = (s.setCore n c).cores := hcores
  rw [hcores]
  exact hframe

theorem get_testEnded (s : State) (n : Nat) :
    (s.testEnded n).get I.ROT_TEST = 0 ∧ (s.testEnded n).get (I.PC_BUSY n) = 0 ∧
    (s.testEnded n).get (I.CTEST_AT (s.get I.ROT_OF)) = (s.tclk + 1) % 2 ^ 64 := by
  refine ⟨?_, ?_, get_set_same _ _ _⟩
  · rw [testEnded, get_set_other _ _ rfl, get_set_other _ _ rfl]
    exact get_set_of_lt _ (by decide)
  · rw [testEnded, get_set_other _ _ rfl]
    exact get_set_of_lt _ (show 0 < 2 ^ 1 by decide)

theorem get_busy_testEnded (s : State) (n p : Nat) :
    (s.testEnded n).get (I.PC_BUSY p) = (s.set (I.PC_BUSY n) 0).get (I.PC_BUSY p) := by
  rw [testEnded, get_set_other _ _ rfl]
  rcases eq_or_ne p n with rfl | hne
  · rw [get_set_same, get_set_same]
  · rw [get_set_index (f := I.PC_BUSY n) _ _ hne, get_set_index (f := I.PC_BUSY n) _ _ hne, get_set_other _ _ rfl]

theorem onlyRegs_testEnded (s : State) (n : Nat) :
    s.OnlyRegs (s.testEnded n) [I.ROT_TEST, I.PC_BUSY n, I.CTEST_AT (s.get I.ROT_OF)] := by
  simp [onlyRegs_iff, testEnded]

theorem onlyRegs_loanBack (s : State) (n : Nat) :
    s.OnlyRegs (s.loanBack n) [F.ORC_MAP_PHYS n, F.ORC_MAP_SPARE n, F.ORC_MAP_LOAN n, I.PB_BUSY (s.get (F.ORC_MAP_SPARE n)),
      I.LOAN_N, I.BTEST_AT n] := by
  simp [onlyRegs_iff, loanBack, loanEnd]

/-- The counts brought up to date besides other fields. -/
theorem OnlyRegs.counted {s t : State} {fs : List Fld} (h : s.OnlyRegs t fs) :
    s.OnlyRegs t.syncSpares.syncCover (spareNames ++ coverNames ++ fs) := by
  obtain ⟨hrest, hkeep⟩ := onlyRegs_iff.mp h
  refine onlyRegs_iff.mpr ⟨hrest, (hkeep.mono (by simp)).trans ((t.keepsFields_syncSpares.mono (by simp)).trans
    (t.syncSpares.keepsFields_syncCover.mono (by simp)))⟩

theorem counted_subset {fs ls xs sp cv : List Fld} (h : fs ⊆ ls ++ xs) : fs ++ sp ++ cv ⊆ ls ++ sp ++ cv ++ xs := by
  intro f hf
  have hin := @h f
  simp only [List.mem_append] at hf hin ⊢
  tauto

/-- The names the counts write besides others. -/
theorem FaultOnly.counted {s t : State} {fs : List Fld} (h : s.FaultOnly t fs) :
    s.FaultOnly t.syncSpares.syncCover (fs ++ spareNames ++ coverNames) :=
  (h.mono (by simp)).trans (((onlyNames_freeCounts t).mono (by simp)).trans ((onlyNames_syncCover _).mono (by simp))).faults

theorem get_tookOver {s : State} {c n own : Nat} :
    (((s.tookOver c (n + 1)).set (F.SYS_CLAIM_OWNER (1088 + n % 1024)) own).raise 107).get (F.ASRC_CH_PHYS c) = n % 1024 ∧
    (((s.tookOver c (n + 1)).set (F.SYS_CLAIM_OWNER (1088 + n % 1024)) own).raise 107).get (I.ASRC_NEW c) = 0 ∧
    (((s.tookOver c (n + 1)).set (F.SYS_CLAIM_OWNER (1088 + n % 1024)) own).raise 107).get
      (F.SYS_CLAIM_OWNER (1088 + n % 1024)) = own % 2 ^ 16 := by
  refine ⟨?_, ?_, ?_⟩
  · rw [get_raise_apart _ rfl, get_set_other _ _ rfl, tookOver, get_set_other _ _ rfl, get_set_other _ _ rfl, get_set_same]
    rfl
  · rw [get_raise_apart _ rfl, get_set_other _ _ rfl, tookOver, get_set_other _ _ rfl]
    exact get_set_of_lt _ (Nat.two_pow_pos _)
  · rw [get_raise_apart _ rfl, get_set_same]
    rfl

theorem onlyRegsEv_tookOver (s : State) (c n own : Nat) :
    s.OnlyRegsEv (((s.tookOver c (n + 1)).set (F.SYS_CLAIM_OWNER (1088 + n % 1024)) own).raise 107)
      [F.SYS_CLAIM_OWNER (s.asrcSlot c), F.SYS_CLAIM_OWNER (1088 + n % 1024), F.ASRC_CH_PHYS c, I.ASRC_NEW c, I.ASRC_GONE c,
        F.ASRC_EVT_EVT] := by
  have hevt : ∀ e, evCause 107 = some e → e.1 ∈ [F.SYS_CLAIM_OWNER (s.asrcSlot c), F.SYS_CLAIM_OWNER (1088 + n % 1024),
      F.ASRC_CH_PHYS c, I.ASRC_NEW c, I.ASRC_GONE c, F.ASRC_EVT_EVT] := by
    rintro e ⟨⟩
    simp
  exact onlyRegsEv_iff.mpr ⟨by simp [tookOver], (keepsFields_raise hevt).mpr (by simp [tookOver])⟩

theorem asrcParity_transient {s : State} {c : Nat} (hperm : s.mdlPermanent 8 3 (s.get (F.ASRC_CH_PHYS c)) true = false) :
    s.asrcParity c false = (s.mdlFault 8 3 (s.get (F.ASRC_CH_PHYS c)) true 1 (spareAction s.freeAsrc) 0 c).set
      (I.ASRC_PAR (s.get (F.ASRC_CH_PHYS c))) 1 := by
  simp only [asrcParity, Bool.false_and, Bool.not_false, hperm, Bool.false_eq_true, if_false]

theorem freeCores_congr {s t : State} (hret : ∀ p, t.get (I.PC_RET p) = s.get (I.PC_RET p))
    (hbusy : ∀ p, t.get (I.PC_BUSY p) = s.get (I.PC_BUSY p)) (hphys : ∀ n, t.get (F.MDL_MAP_PHYS n) = s.get (F.MDL_MAP_PHYS n)) :
    t.freeCores = s.freeCores := by
  have hspare : t.coreSpare = s.coreSpare := funext fun p => by simp only [coreSpare, on, hret, hbusy, hphys]
  rw [freeCores, freeCores, hspare]

theorem rotTurn_congr {s t : State} (hnext : t.get I.ROT_NEXT = s.get I.ROT_NEXT)
    (hphys : ∀ n, t.get (F.MDL_MAP_PHYS n) = s.get (F.MDL_MAP_PHYS n))
    (hphase : ∀ n, t.get (F.MDL_MAP_PHASE n) = s.get (F.MDL_MAP_PHASE n)) (hcore : ∀ n, t.core n = s.core n) :
    t.rotTurn = s.rotTurn := by
  simp only [rotTurn, hnext, hphys, hphase, hcore]

/-- The fields a test and the rotation after it write. -/
def restartNames : List Fld :=
  spareNames ++ coverNames ++ [I.ROT_TEST, I.ROT_DUE, I.PC_BUSY 0, I.CTEST_AT 0, F.MDL_COVER_CSUSP, I.ROT_N, I.ROT_NEXT,
    F.MDL_MAP_PHASE 0, F.MDL_MAP_SPARE 0]

/-- The state in which the rotation that was due begins. -/
def retested (s : State) (n : Nat) : State := (s.testEnded n).syncSpares.syncCover.set I.ROT_DUE 0

theorem onlyNames_retested (s : State) (n : Nat) :
    s.OnlyNames (s.retested n) (spareNames ++ coverNames ++ (testNames ++ [I.ROT_DUE])) := by
  have hspare : spareNames ⊆ spareNames ++ coverNames ++ (testNames ++ [I.ROT_DUE]) :=
    fun _ h => List.mem_append_left _ (List.mem_append_left _ h)
  have hcover : coverNames ⊆ spareNames ++ coverNames ++ (testNames ++ [I.ROT_DUE]) :=
    fun _ h => List.mem_append_left _ (List.mem_append_right _ h)
  have htest : testNames ⊆ spareNames ++ coverNames ++ (testNames ++ [I.ROT_DUE]) :=
    fun _ h => List.mem_append_right _ (List.mem_append_left _ h)
  exact ((((s.onlyNames_testEnded n).mono htest).trans ((onlyNames_freeCounts _).mono hspare)).trans
    ((onlyNames_syncCover _).mono hcover)).trans (onlyNames_set rfl _)

theorem toDeliver_retested (s : State) (n : Nat) : (s.retested n).toDeliver = s.toDeliver := by
  rw [retested, set_toDeliver]
  exact (onlyRegs_iff.mp (s.onlyRegs_testEnded n).counted).1.2

theorem get_retested_busy (s : State) (n p : Nat) : (s.retested n).get (I.PC_BUSY p) = (s.set (I.PC_BUSY n) 0).get (I.PC_BUSY p) := by
  rw [retested, get_set_other _ _ rfl, get_syncCover _ rfl, get_syncSpares _ rfl, get_busy_testEnded]

theorem retested_freeCores (s : State) (n : Nat) : (s.retested n).freeCores = (s.set (I.PC_BUSY n) 0).freeCores :=
  freeCores_congr (fun _ => ((s.onlyNames_retested n).get rfl).trans (get_set_other _ _ rfl).symm) (s.get_retested_busy n)
    (fun _ => ((s.onlyNames_retested n).get rfl).trans (get_set_other _ _ rfl).symm)

theorem retested_rotTurn (s : State) (n : Nat) : (s.retested n).rotTurn = s.rotTurn :=
  rotTurn_congr ((s.onlyNames_retested n).get rfl) (fun _ => (s.onlyNames_retested n).get rfl)
    (fun _ => (s.onlyNames_retested n).get rfl) (fun _ => rfl)

theorem get_retested_test (s : State) (n : Nat) : (s.retested n).get I.ROT_TEST = 0 := by
  rw [retested, get_set_other _ _ rfl, get_syncCover _ rfl, get_syncSpares _ rfl, (s.get_testEnded n).1]

theorem onlyNames_rotating (s : State) (n p : Nat) : s.OnlyNames (s.rotating n p) restartNames :=
  ((((((onlyNames_set rfl _).trans (onlyNames_set rfl _)).trans (onlyNames_set rfl _)).trans (onlyNames_set rfl _)).trans
    (onlyNames_set rfl _)).trans (onlyNames_set rfl _)).trans ((onlyNames_freeCounts _).mono
      fun _ h => List.mem_append_left _ (List.mem_append_left _ h))

/-- The rotation that waited for the test begins as it ends. -/
theorem rotTested_restarts {s : State} {n k : Nat} (march : Bool) (hn : s.get I.ROT_TEST = n + 1)
    (hnone : s.nextRepair I.RPS_ORD = none) (hdue : s.get I.ROT_DUE ≠ 0) (hct : s.get F.MDL_CTRL_CT ≠ 0)
    (hrot : s.get I.ROT_N = 0) (hwarn : s.get F.CUR_MONSTAT_WARN = 0) (hturn : s.rotTurn = some k)
    (hfree : (s.set (I.PC_BUSY n) 0).freeCores ≠ []) :
    ∃ t, exec (.rotationTestComplete true march) s = .next t ∧ t.get I.ROT_DUE = 0 ∧ t.get I.ROT_TEST = 0 ∧
      t.get I.ROT_N = k + 1 ∧ t.get (F.MDL_MAP_PHASE k) = 1 ∧
      t.get (F.MDL_MAP_SPARE k) ∈ (s.set (I.PC_BUSY n) 0).freeCores ∧ t = { s with regs := t.regs } ∧
      s.KeepsNames t restartNames := by
  have hon : s.on I.ROT_DUE = true := by simp [on, hdue]
  have hkept := s.onlyNames_retested n
  obtain ⟨p, ps, hps⟩ := List.exists_cons_of_ne_nil hfree
  have hcores := (s.retested_freeCores n).trans hps
  have hin : p ∈ (s.retested n).freeCores := by simp [hcores]
  have hstart := rotStart_free (s := s.retested n) (by rwa [hkept.get rfl]) ((hkept.get rfl).trans hrot) (s.get_retested_test n)
    ((hkept.get rfl).trans hwarn) hcores ((s.retested_rotTurn n).trans hturn)
  obtain ⟨hph, hspare, hrn, -⟩ := get_rotating (s := s.retested n) (rotTurn_lt hturn) (freeCores_lt hin)
  have hrotated := (s.retested n).onlyRegs_rotating k p
  have hmono : spareNames ++ coverNames ++ (testNames ++ [I.ROT_DUE]) ⊆ restartNames := by
    have hown : testNames ++ [I.ROT_DUE] ⊆ [I.ROT_TEST, I.ROT_DUE, I.PC_BUSY 0, I.CTEST_AT 0, F.MDL_COVER_CSUSP, I.ROT_N,
        I.ROT_NEXT, F.MDL_MAP_PHASE 0, F.MDL_MAP_SPARE 0] := by decide
    exact List.append_subset.mpr ⟨List.subset_append_left _ _, fun _ h => List.mem_append_right _ (hown h)⟩
  have hother {f : Fld} (hf : (spareNames ++ [F.MDL_COVER_CSUSP, I.PC_BUSY p, I.ROT_N, I.ROT_NEXT, F.MDL_MAP_PHASE k,
      F.MDL_MAP_SPARE k]).any (fun g => f.id == g.id) = false) :
      ((s.retested n).rotating k p).get f = (s.retested n).get f := KeepsFields.get_other hrotated.2 hf
  refine ⟨_, next_of_eq (((rotTested_passed march hn hnone).trans (if_pos hon)).trans hstart), ?_, ?_, hrn, hph, ?_, ?_,
    ((hkept.mono hmono).trans (onlyNames_rotating _ k p)).2⟩
  · rw [hother rfl]
    exact get_set_of_lt _ (by decide)
  · rw [hother rfl, get_retested_test]
  · rw [hspare, ← retested_freeCores]
    exact hin
  · exact eq_of_rest_toDeliver ((onlyNames_rotating _ k p).1.trans hkept.1)
      ((onlyRegs_iff.mp hrotated).1.2.trans (s.toDeliver_retested n))

end State

/-- A first parity error of a pip: it is repeated (R170). -/
theorem coreParity_repeats {s : State} {c : Fin 64} {r : PipRun} (imem : Bool) (hrun : (State.activeBank (s.core c)).run = some r) (hre : r.reruns = 0)
    (hfrozen : (s.core c).frozen = false) (hperm : s.mdlPermanent 3 1 (s.masterOf c) true = false) :
    ∃ t, exec (.coreParityError c imem) s = .next t ∧
      (State.activeBank (t.core c)).run = some (State.repeatRun r imem) ∧ t.get F.MDL_EVT_EVT % 2 = 1 ∧
      (∀ k : Fin 65, k.val ≠ c.val → t.core k = s.core k) ∧
      t = { s with regs := t.regs, toDeliver := t.toDeliver, cores := t.cores, faults := t.faults } ∧ s.KeepsNames t State.faultNames := by
  have hfault := State.faultOnly_mdlFault s 3 1 (s.masterOf c) true 1 (State.spareAction s.freeCores) r.pip c
  have hevt := State.get_mdlFault_transient (by decide) hperm 1 (State.spareAction s.freeCores) r.pip c
  have heq := State.parityError_transient imem hrun hre hfrozen hperm
  generalize s.mdlFault 3 1 (s.masterOf c) true 1 (State.spareAction s.freeCores) r.pip c = t at hfault hevt heq
  have hcores := congrArg (fun u : State => u.cores) hfault.1
  have hcore (k : Nat) : t.core k = s.core k := congrArg (fun cs => tabGet Core.reset cs k) hcores
  obtain ⟨hr, hother⟩ := State.rerun_run (s := t) ((hcore c).symm ▸ hrun) imem
  have hframe := State.eq_of_faultOnly hfault
  refine ⟨_, State.next_of_eq heq, hr, ?_, fun k hk => (hother k hk).trans (hcore k), ?_, ?_⟩
  · rw [State.rerun_cores]
    exact hevt
  · rw [State.rerun_cores]
    exact congrArg (fun u : State => { u with cores := (t.rerun c imem).cores }) hframe
  · rw [State.rerun_cores]
    exact hfault.2

/-- The end of a repair's copy puts the spare into the bank's place (R411). -/
theorem loanCopy_repairs {s : State} {n : Nat} (hn : s.get I.RPL_N = n + 1) (hloan : s.get (F.ORC_MAP_LOAN n) = 1) (htest : s.get I.RPL_TEST = 0)
    (hnone : s.nextRepair I.RPL_ORD = none) :
    ∃ t, exec (.loanCopyComplete true) s = .next t ∧ t.get (F.ORC_MAP_PHYS n) = s.get (F.ORC_MAP_SPARE n) % 128 ∧
      t.get (F.ORC_MAP_LOAN n) = 0 ∧ t.get (I.PB_RET (s.get (F.ORC_MAP_PHYS n))) = 1 ∧ t.get F.MDL_EVT_EVT / 4 % 2 = 1 ∧
      t.orcFlaws = s.orcFlaws.filter (fun f => !decide (f.ix / 0x40000 = n)) ∧
      t = { s with regs := t.regs, toDeliver := t.toDeliver, orcFlaws := t.orcFlaws } ∧
      s.KeepsFields t (State.spareNames ++ [F.ORC_MAP_PHYS n, F.ORC_MAP_SPARE n, F.ORC_MAP_LOAN n,
        I.PB_BUSY (s.get (F.ORC_MAP_SPARE n)), I.PB_RET (s.get (F.ORC_MAP_PHYS n)), I.RPL_N, F.MDL_EVT_EVT]) := by
  obtain ⟨hphys, hloan', hret, hevt⟩ := (s.withoutFlaws n).get_replaced n
  have hrepl := ((s.withoutFlaws n).onlyNames_replaced n).trans (State.onlyNames_bank_sync _)
  have hflaws := congrArg (fun u : State => u.orcFlaws) hrepl.1
  replace hflaws : ((s.withoutFlaws n).replaced n).syncSpares.orcFlaws = (s.withoutFlaws n).orcFlaws := hflaws
  refine ⟨_, State.next_of_eq (State.loanCopied_repair hn hloan htest hnone), ?_, ?_, ?_, ?_, ?_, ?_, ?_⟩
  · exact (State.get_syncSpares _ rfl).trans hphys
  · exact (State.get_syncSpares _ rfl).trans hloan'
  · exact (State.get_syncSpares _ rfl).trans hret
  · rw [State.get_syncSpares _ rfl]
    exact hevt
  · exact hflaws
  · exact (State.eq_of_rest hrepl.1).trans (by rw [hflaws, State.withoutFlaws])
  · exact (State.KeepsFields.mono (s := s) ((s.withoutFlaws n).keepsFields_replaced n) (List.subset_append_right _ _)).trans
      ((State.keepsFields_syncSpares _).mono (List.subset_append_left _ _))

/-- Settles O43, command by command: nothing else waits for the spare, the rotation or the loan that a command ends. -/
theorem medlarCommandsComplete : Obligations.MedlarCommandsComplete := by
  unfold Obligations.MedlarCommandsComplete
  intro s c n
  refine ⟨fun r hrun hnext hland hfrozen hown hpend horc hdram => ?_, fun r imem hrun hre hfrozen hperm => ?_,
    fun hn hnone => ?_, fun p ps hct hrot htest hwarn hfree hturn => ?_, fun hct hrot htest hwarn hfree => ?_,
    fun hn hph => ?_, fun hn hph hready => ?_, fun march hn hnone hdue => ?_, fun march hn hnone hdue => ?_,
    fun march k hn hnone hdue hct hrot hwarn hturn hfree => ?_, fun p ps hbt hloan hwarn hfree hturn => ?_,
    fun hn hloan => ?_, fun hn hloan htest hnone => ?_, fun hn hloan hnone hdue => ?_, fun hn hloan hnone hdue => ?_,
    fun h hnew hdue => ?_, fun h hperm => ?_, fun k slow hslow => ?_, fun k slow hslow hspare hfree => ?_⟩
  · refine ⟨_, State.next_of_eq (State.prefetched_lands hrun hnext hland hfrozen hown hpend horc hdram), ?_, ?_,
      fun k hk => State.core_setCore_ne s _ hk, rfl⟩
    · rw [State.core_setCore_same]
    · rw [State.core_setCore_same]
  · exact coreParity_repeats imem hrun hre hfrozen hperm
  · obtain ⟨cs, heq⟩ := State.repairDone_eq hn hnone
    obtain ⟨hphys, hphase, hret, hevt, hrps⟩ := s.get_repaired n
    refine ⟨_, State.next_of_eq heq, ?_, ?_, ?_, ?_, ?_, ?_, ?_⟩
    · exact (State.get_syncSpares _ rfl).trans hphys
    · exact (State.get_syncSpares _ rfl).trans hphase
    · exact (State.get_syncSpares _ rfl).trans hret
    · rw [State.get_syncSpares _ rfl]
      exact hevt
    · exact (State.get_syncSpares _ rfl).trans hrps
    · have hrest : (s.repaired n).rest = s.rest := by simp [State.repaired]
      exact State.eq_of_rest_cores (congrArg (fun u : State => { u with cores := cs }) hrest)
    · exact (State.KeepsFields.mono (s.keepsFields_repaired n) (List.subset_append_right _ _)).trans
        ((State.keepsFields_syncSpares _).mono (List.subset_append_left _ _))
  · have hn := State.rotTurn_lt hturn
    have hp := State.freeCores_lt (s := s) (p := p) (by simp [hfree])
    obtain ⟨hph, hspare, hrn, hsusp⟩ := State.get_rotating (s := s) hn hp
    exact ⟨_, State.next_of_eq (State.rotStart_free hct hrot htest hwarn hfree hturn), hph, hspare, hrn, hsusp,
      s.onlyRegs_rotating n p⟩
  · have hevt : ∀ e, evCause 28 = some e → e.1 ∈ [F.MDL_COVER_CSUSP, F.MDL_EVT_EVT] := by
      rintro e ⟨⟩
      simp
    refine ⟨_, State.next_of_eq (State.rotStart_none hct hrot htest hwarn hfree), ?_, ?_, ?_⟩
    · rw [State.get_raise_apart _ rfl]
      exact State.get_set_of_lt _ (by decide)
    · exact State.get_raise_bit _ (k := 4) (f := F.MDL_EVT_EVT) rfl (by decide)
    · exact State.onlyRegsEv_iff.mpr ⟨by simp, (State.keepsFields_raise hevt).mpr (by simp)⟩
  · have heq : s.rotCopied = s.set (F.MDL_MAP_PHASE n) 2 := by
      have hpred : s.get I.ROT_N - 1 = n := by omega
      rw [State.rotCopied, hpred]
      exact if_pos ⟨by omega, hph⟩
    exact ⟨_, State.next_of_eq heq, State.get_set_of_lt _ (show 2 < 2 ^ 2 by decide), by simp [State.onlyRegs_iff]⟩
  · obtain ⟨hphys, hphase, hrn, htest⟩ := (s.setCore n { s.core n with flaws := [] }).get_switched n
    refine ⟨_, State.next_of_eq (State.rotSwitch_ready hn hph hready), ?_, ?_, ?_, ?_, State.core_setCore_same s n _,
      fun k hk => State.core_setCore_ne s _ hk, s.switched_frame _ n, ?_⟩
    · rw [State.get_syncSpares _ rfl, hphys]
      rfl
    · rw [State.get_syncSpares _ rfl, hphase]
    · rw [State.get_syncSpares _ rfl, hrn]
    · rw [State.get_syncSpares _ rfl, htest]
      rfl
    · have hkeep := (s.setCore n { s.core n with flaws := [] }).keepsFields_switched n
      exact (State.KeepsFields.mono (s := s) hkeep (List.subset_append_right _ _)).trans
        ((State.keepsFields_syncSpares _).mono (List.subset_append_left _ _))
  · obtain ⟨htest, hbusy, hat⟩ := s.get_testEnded n
    have hoff : ¬s.on I.ROT_DUE = true := by simp [State.on, hdue]
    refine ⟨_, State.next_of_eq ((State.rotTested_passed march hn hnone).trans (if_neg hoff)), ?_, ?_, ?_,
      (s.onlyRegs_testEnded n).counted⟩
    · rw [State.get_syncCover _ rfl, State.get_syncSpares _ rfl, htest]
    · rw [State.get_syncCover _ rfl, State.get_syncSpares _ rfl, hbusy]
    · rw [State.get_syncCover _ rfl, State.get_syncSpares _ rfl, hat]
  · obtain ⟨hret, hevt⟩ := s.get_testFailed n march
    have hfault := (s.faultOnly_testFailed n march).counted
    have hmono : State.testNames ++ [I.PC_RET 0] ++ State.logNames ++ State.spareNames ++ State.coverNames ⊆
        State.logNames ++ State.spareNames ++ State.coverNames ++ [I.ROT_TEST, I.PC_BUSY 0, I.PC_RET 0, I.CTEST_AT 0] := by
      exact State.counted_subset (by decide)
    refine ⟨_, State.next_of_eq (State.rotTested_failed march hn hnone hdue), ?_, ?_, State.eq_of_faultOnly hfault,
      (hfault.mono hmono).2⟩
    · rw [State.get_syncCover _ rfl, State.get_syncSpares _ rfl, hret]
    · rw [State.get_syncCover _ rfl, State.get_syncSpares _ rfl, hevt]
  · exact State.rotTested_restarts march hn hnone hdue hct hrot hwarn hturn hfree
  · have hn := State.loanTurn_lt hturn
    have hp := State.freeBanks_lt (s := s) (p := p) (by simp [hfree])
    obtain ⟨hloan', hspare, hln, hsusp⟩ := State.get_lending (s := s) hn hp
    exact ⟨_, State.next_of_eq (State.loanBegin_free hbt hloan hwarn hfree hturn), hloan', hspare, hln, hsusp,
      s.onlyRegs_lending n p⟩
  · exact ⟨_, State.next_of_eq (State.loanCopied_background hn hloan), State.get_set_of_lt _ (show 2 < 2 ^ 2 by decide), rfl, rfl,
      (State.keepsFields_set (by simp) _).mpr fun _ _ => rfl⟩
  · exact loanCopy_repairs hn hloan htest hnone
  · obtain ⟨hphys, hloan', hln, hat⟩ := s.get_loanBack n
    refine ⟨_, State.next_of_eq (State.loanTested_passed hn hloan hnone hdue), ?_, ?_, ?_, ?_,
      (s.onlyRegs_loanBack n).counted⟩
    · rw [State.get_syncCover _ rfl, State.get_syncSpares _ rfl, hphys]
    · rw [State.get_syncCover _ rfl, State.get_syncSpares _ rfl, hloan']
    · rw [State.get_syncCover _ rfl, State.get_syncSpares _ rfl, hln]
    · rw [State.get_syncCover _ rfl, State.get_syncSpares _ rfl, hat]
  · obtain ⟨hphys, hret, hevt⟩ := s.get_loanFailed n
    have hfault := (s.faultOnly_loanFailed n).counted
    refine ⟨_, State.next_of_eq (State.loanTested_failed hn hloan hnone hdue), ?_, ?_, ?_, State.eq_of_faultOnly hfault,
      (hfault.mono (State.counted_subset (by decide))).2⟩
    · rw [State.get_syncCover _ rfl, State.get_syncSpares _ rfl, hphys]
    · rw [State.get_syncCover _ rfl, State.get_syncSpares _ rfl, hret]
    · rw [State.get_syncCover _ rfl, State.get_syncSpares _ rfl, hevt]
  · obtain ⟨hphys, hzero, hown⟩ := State.get_tookOver (s := s) (c := h) (n := n) (own := s.get (F.SYS_CLAIM_OWNER (s.asrcSlot h)))
    exact ⟨_, State.next_of_eq (State.asrcTakeover_due hnew hdue), hphys, hzero, hown,
      State.get_raise_bit _ (k := 3) (f := F.ASRC_EVT_EVT) rfl (by decide), s.onlyRegsEv_tookOver h n _⟩
  · have hfault := State.faultOnly_mdlFault s 8 3 (s.get (F.ASRC_CH_PHYS h)) true 1 (State.spareAction s.freeAsrc) 0 h
    have hevt := State.get_mdlFault_transient (by decide) hperm 1 (State.spareAction s.freeAsrc) 0 h
    have hall := (hfault.mono (List.subset_cons_self (I.ASRC_PAR 0) _)).trans
      (State.onlyNames_set (f := I.ASRC_PAR (s.get (F.ASRC_CH_PHYS h))) rfl 1).faults
    refine ⟨_, State.next_of_eq (State.asrcParity_transient hperm), State.get_set_of_lt _ (show 1 < 2 ^ 1 by decide), ?_,
      State.eq_of_faultOnly hall, hall.2⟩
    rw [State.get_set_other _ _ rfl]
    exact hevt
  · have heq : s.ageing k slow.toNat = s.set (F.MDL_AGEV_SLOW k) slow.toNat := by
      rw [State.ageing]
      rw [State.get_set_other _ _ rfl, if_neg (by omega)]
    exact ⟨_, State.next_of_eq heq, State.get_set_of_lt _ slow.isLt, by simp [State.onlyRegs_iff]⟩
  · have hset (f : Fld) (hf : (f.id == (F.MDL_AGEV_SLOW k).id) = false) :
        (s.set (F.MDL_AGEV_SLOW k) slow.toNat).get f = s.get f := State.get_set_other _ _ hf
    have hspare' : (s.set (F.MDL_AGEV_SLOW k) slow.toNat).coreSpare k = true := by
      simpa only [State.coreSpare, State.on, hset (I.PC_RET _) rfl, hset (I.PC_BUSY _) rfl, hset (F.MDL_MAP_PHYS _) rfl] using hspare
    have heq : s.ageing k slow.toNat = ((s.set (F.MDL_AGEV_SLOW k) slow.toNat).wornSpare k).syncSpares := by
      rw [State.ageing]
      rw [hset _ rfl, if_pos hslow]
      exact State.worn_spare k.isLt hspare' fun j hj => by
        rw [hset _ rfl, hset _ rfl]
        exact hfree ⟨j, hj⟩
    have hworn := (s.set (F.MDL_AGEV_SLOW k) slow.toNat).faultOnly_wornSpare k
    obtain ⟨hret, h29, h25⟩ := (s.set (F.MDL_AGEV_SLOW k) slow.toNat).get_wornSpare k
    have hall : s.FaultOnly ((s.set (F.MDL_AGEV_SLOW k) slow.toNat).wornSpare k).syncSpares
        (State.logNames ++ State.spareNames ++ [F.MDL_AGEV_SLOW 0, I.PC_RET 0, I.PC_BUSY 0]) :=
      ((State.onlyNames_set rfl _).faults.trans (hworn.mono (by decide))).trans
        ((State.onlyNames_freeCounts _).mono (fun _ h => List.mem_append_left _ (List.mem_append_right _ h))).faults
    refine ⟨_, State.next_of_eq heq, ?_, ?_, ?_, ?_, State.eq_of_faultOnly hall, hall.2⟩
    · rw [State.get_syncSpares _ rfl, hworn.get rfl]
      exact State.get_set_of_lt _ slow.isLt
    · rw [State.get_syncSpares _ rfl, hret]
    · rw [State.get_syncSpares _ rfl, h29]
    · rw [State.get_syncSpares _ rfl, h25]

end Sys2Proof.Machine
end

section
/-! Unit events by their routes, held posts and commands, and mirrored items at their release (R29, R164, R232, R382). -/

namespace Sys2Proof.Machine

namespace State

/-! ### The delivery of a unit event (R30) -/

theorem unitEvent_due {s : State} {n frc : Nat} (h : s.toDeliver.find? (fun e => decide (e.1 = n)) = some (n, frc)) :
    s.unitEvent n = s.deliver n frc := by
  simp only [unitEvent, h]

/-- A route of kind 2 to an EVENT pip with room. -/
theorem deliver_pip {s : State} {n frc : Nat} (hkind : s.get (F.SYS_EVROUTE_KIND n) = 2) (hstandby : s.standby = false)
    (hmirrors : s.mirrors = false) (hpip : s.isEventPip (s.get (F.SYS_EVROUTE_PIP n)) = true)
    (hreason : s.postReason (s.get (F.SYS_EVROUTE_PIP n)) (s.get (F.SYS_EVROUTE_LEVEL n)) = none)
    (hfull : s.queueFull (s.get (F.SYS_EVROUTE_LEVEL n)) = false) :
    s.deliver n frc = (s.delivered n).accept (s.get (F.SYS_EVROUTE_PIP n)) (eventWord n frc) (s.get (F.SYS_EVROUTE_LEVEL n))
      srcUnitEvent false := by
  have hreason' : (s.delivered n).postReason (s.get (F.SYS_EVROUTE_PIP n)) (s.get (F.SYS_EVROUTE_LEVEL n)) = none := hreason
  have hpip' : (s.delivered n).get (F.SYS_EVROUTE_PIP n) = s.get (F.SYS_EVROUTE_PIP n) := rfl
  have hlevel' : (s.delivered n).get (F.SYS_EVROUTE_LEVEL n) = s.get (F.SYS_EVROUTE_LEVEL n) := rfl
  simp only [deliver, hkind, hstandby, hpip, hmirrors, hreason, hfull, postEvent, hpip', hlevel', settlePost, hreason',
    Bool.not_true, Bool.false_eq_true, if_false, Bool.and_false, Bool.false_and]

theorem deliver_none {s : State} {n frc : Nat} (hkind : s.get (F.SYS_EVROUTE_KIND n) = 0) : s.deliver n frc = s.delivered n := by
  simp only [deliver, hkind]

theorem deliver_msix {s : State} {n frc : Nat} (hkind : s.get (F.SYS_EVROUTE_KIND n) = 1) :
    s.deliver n frc = (s.delivered n).msixPend (s.get (F.SYS_EVROUTE_VECTOR n)) := by
  simp only [deliver, hkind]

theorem deliver_steward {s : State} {n frc : Nat} (hkind : s.get (F.SYS_EVROUTE_KIND n) = 3) :
    s.deliver n frc = (s.delivered n).toSteward n frc := by
  simp only [deliver, hkind]

/-! ### Message-signalled interrupts (R368) -/

/-- A vector with its pending bit set. -/
def pended (s : State) (v : Nat) : State :=
  s.set (F.HIF_PBA_P (v / 32)) (s.get (F.HIF_PBA_P (v / 32)) ||| 2 ^ (v % 32))

theorem natBit_pended (s : State) (v : Nat) : natBit ((s.pended v).get (F.HIF_PBA_P (v / 32))) (v % 32) = true := by
  have hlt : v % 32 < 32 := Nat.mod_lt _ (by decide)
  rw [pended, get_set_same]
  show natBit ((_ ||| 2 ^ (v % 32)) % 2 ^ 32) (v % 32) = true
  rw [natBit_eq_testBit, Nat.testBit_mod_two_pow, Nat.testBit_or, Nat.testBit_two_pow_self]
  simp [hlt]

theorem msixPend_masked {s : State} {v : Nat} (hspi : s.vecSpi v = false) (hmask : s.get (F.HIF_MSIXV_MASK v) ≠ 0) :
    s.msixPend v = s.pended v := by
  have hmask' : (s.pended v).get (F.HIF_MSIXV_MASK v) ≠ 0 := by rwa [pended, get_set_other _ _ rfl]
  rw [msixPend, hspi, if_neg Bool.false_ne_true]
  exact if_neg fun h => hmask' h.2

/-- A vector sent: its pending bit cleared, one message more. -/
def sent (s : State) (v : Nat) : State :=
  (s.set (F.HIF_PBA_P (v / 32)) (s.get (F.HIF_PBA_P (v / 32)) &&& (2 ^ 32 - 1 ^^^ 2 ^ (v % 32)))).set (I.MSIX_SENT v)
    (s.get (I.MSIX_SENT v) + 1)

theorem msixPend_unmasked {s : State} {v : Nat} (hspi : s.vecSpi v = false) (hmask : s.get (F.HIF_MSIXV_MASK v) = 0) :
    s.msixPend v = (s.pended v).sent v := by
  have hmask' : (s.pended v).get (F.HIF_MSIXV_MASK v) = 0 := by rwa [pended, get_set_other _ _ rfl]
  rw [msixPend, hspi, if_neg Bool.false_ne_true]
  exact if_pos ⟨s.natBit_pended v, hmask'⟩

theorem natBit_sent (s : State) (v : Nat) : natBit ((s.sent v).get (F.HIF_PBA_P (v / 32))) (v % 32) = false := by
  have hlt : v % 32 < 32 := Nat.mod_lt _ (by decide)
  rw [sent, get_set_other _ _ rfl, get_set_same]
  show natBit ((_ &&& (2 ^ 32 - 1 ^^^ 2 ^ (v % 32))) % 2 ^ 32) (v % 32) = false
  rw [natBit_eq_testBit, Nat.testBit_mod_two_pow, Nat.testBit_and, Nat.testBit_xor, Nat.testBit_two_pow_self,
    Nat.testBit_two_pow_sub_one]
  simp [hlt]

/-! ### Held posts (R164) -/

theorem acceptHeldPost_one {s : State} {h : HeldPost} (hheld : s.qn.held = [h]) (hkind : h.kind = .pip) (hlevel : h.level = none)
    (hcore : h.core = none) (hreason : s.postReason h.pip (s.postLevel h.pip) = none)
    (hfull : s.queueFull (s.postLevel h.pip) = false) (hts : s.get (F.PIP1_TS h.pip) = 0) :
    s.acceptHeldPost = (s.setHeld []).accept h.pip h.word (s.postLevel h.pip) h.src false := by
  have hreason' : (s.setHeld []).postReason h.pip (s.postLevel h.pip) = none := hreason
  have hfirst : firstHeld [h] [] = [h] := rfl
  have herase : [h].erase h = [] := by simp
  have hts' : (s.setHeld []).on (F.PIP1_TS h.pip) = false := by
    show decide (s.get (F.PIP1_TS h.pip) ≠ 0) = false
    simp [hts]
  have hlev : (s.setHeld []).postLevel h.pip = s.postLevel h.pip := rfl
  simp only [acceptHeldPost, hheld, hfirst, List.find?_cons, hkind, hlevel, Option.getD_none, hreason, hfull, Option.isSome_none,
    Bool.not_false, Bool.or_true, settleHeld, herase, hlev, settlePost, hreason', hcore, hts', Bool.and_false]

theorem pcieDrain_empty {s : State} (h : s.host.pcieq = []) : s.pcieDrain = s := by
  rw [pcieDrain, h]
  show ({ s with host := { s.host with pcieq := [] } } : State) = s
  rw [← h]

/-! ### Held commands (R232) -/

theorem paramRetry_empty {s : State} (h : s.scn.waiting = []) : s.paramRetry = s := by
  rw [paramRetry, h]
  show ({ s with scn := { s.scn with waiting := [] } } : State) = s
  rw [← h]

/-- A command's piece put into the curve of its parameter. -/
def curveOf (s : State) (c : PCmd) : Curve :=
  ((s.curve c.prm).trim s.computedFrom).put ⟨c.n, ((s.curve c.prm).trim s.computedFrom).at c.n, c.v1, c.len, c.shape, false⟩

theorem applyHeld_one {s : State} {c : PCmd} (hcmds : s.scn.cmds = [c]) (hdue : c.n / s.blockLen ≤ s.blockIx)
    (hprep : s.preparing = true) (hramps : s.rampsFree ≠ 0) (hwait : s.scn.waiting = []) :
    s.applyHeld = { s.setCurve c.prm (s.curveOf c) with scn := { (s.setCurve c.prm (s.curveOf c)).scn with cmds := [] } } := by
  have hsup : supersede [c] c = [c] := by simp [supersede]
  have hfree : ¬(s.rampsFree + 0 = 0) := hramps
  have happly : s.applyCmd c 0 = { s.setCurve c.prm (s.curveOf c) with scn := { (s.setCurve c.prm (s.curveOf c)).scn with cmds := [c] } } := by
    simp only [applyCmd, hprep, Bool.not_true, Bool.false_eq_true, if_false, hfree, decide_false, Bool.and_false, hcmds, hsup]
    rfl
  have hdue' : (s.scn.cmds.filter (fun c => decide (c.n / s.blockLen ≤ s.blockIx))) = [c] := by simp [hcmds, hdue]
  have hin : s.scn.cmds.contains c = true := by simp [hcmds]
  have herase : [c].erase c = [] := by simp
  rw [applyHeld, applyDue, hdue', List.foldl_cons, List.foldl_nil, if_pos hin]
  dsimp only
  rw [happly]
  dsimp only
  rw [herase]
  exact paramRetry_empty hwait

/-! ### Mirrored items (R382) -/

theorem filter_due_one (i : MItem) : [i].filter (fun x => !([i].contains x)) = [] := by simp

theorem dueItems_one {s : State} {i : MItem} (hitems : s.twin.items = [i]) (htick : i.tick ≤ s.frc)
    (hwait : s.itemWaits i.item = false) : s.dueItems = [i] := by
  simp [dueItems, hitems, htick, hwait]

theorem dueItems_waits {s : State} {i : MItem} (hitems : s.twin.items = [i]) (htick : i.tick ≤ s.frc)
    (hwait : s.itemWaits i.item = true) : s.dueItems = [] := by
  simp [dueItems, hitems, htick, hwait]

/-- The items all released. -/
def noItems (s : State) : State := { s with twin := { s.twin with items := [] } }

theorem releaseItems_waits {s : State} {i : MItem} (hlink : s.isFrozen Master.twin.id = false ∨ s.standby = false)
    (hitems : s.twin.items = [i]) (htick : i.tick ≤ s.frc) (hwait : s.itemWaits i.item = true) : s.releaseItems = s := by
  have hgo : ¬(s.standby && s.isFrozen Master.twin.id) = true := by rcases hlink with h | h <;> simp [h]
  rw [releaseItems, if_neg hgo, dueItems_waits hitems htick hwait]
  show ({ s with twin := { s.twin with items := s.twin.items.filter (fun i => !([].contains i)) } } : State) = s
  simp

/-- The one item due is released, where nothing stops the link. -/
theorem releaseItems_one {s : State} {i : MItem} (hlink : s.standby = false ∨ s.isFrozen Master.twin.id = false)
    (hitems : s.twin.items = [i]) (htick : i.tick ≤ s.frc) (hwait : s.itemWaits i.item = false)
    (hfrom : s.noItems.beforeT i = false) (hacked : s.role ≠ roleACTIVE ∨ i.acked = true) :
    s.releaseItems = s.noItems.releaseItem i.item := by
  have hgo : ¬(s.standby && s.isFrozen Master.twin.id) = true := by rcases hlink with h | h <;> simp [h]
  have hgo' : ¬(s.noItems.standby && s.noItems.isFrozen Master.twin.id) = true := hgo
  have hack : ¬(decide (s.noItems.role = roleACTIVE) && !i.acked) = true := by
    have hrole : s.noItems.role = s.role := rfl
    rcases hacked with h | h <;> simp [h, hrole]
  rw [releaseItems, if_neg hgo, dueItems_one hitems htick hwait, hitems]
  dsimp only
  rw [filter_due_one]
  rw [List.foldl_cons, List.foldl_nil]
  show (if (s.noItems.standby && s.noItems.isFrozen Master.twin.id) = true then s.noItems.setSync syncNONE
    else if s.noItems.beforeT i = true then s.noItems
    else (if (decide (s.noItems.role = roleACTIVE) && !i.acked) = true then s.noItems.setSync syncNONE else s.noItems).releaseItem
      i.item) = _
  rw [if_neg hgo', hfrom, if_neg Bool.false_ne_true, if_neg hack]

theorem hostOrcWrite_admitted {s : State} {m : Master} {off : Nat} {bs : List (Option Byte)}
    (h : (enabledCells off bs).all (fun c => s.admits (bankOf c.1) (.other m.id)) = true) :
    s.hostOrcWrite m off bs = s.orcWrite (enabledCells off bs) := by
  have hnone : (enabledCells off bs).find? (fun c => !s.admits (bankOf c.1) (.other m.id)) = none := by
    rw [List.find?_eq_none]
    intro c hc
    simp [List.all_eq_true.mp h c hc]
  simp only [hostOrcWrite, hnone]

/-- A transaction's bytes lie at rising addresses. -/
theorem enabledCells_rising (off : Nat) (bs : List (Option Byte)) (k : Nat) :
    (((bs.zipIdx k).filterMap (fun e => e.1.map (fun b => (off + e.2, b)))).map (fun c => c.1)).Pairwise (· < ·) ∧
    ∀ c ∈ (bs.zipIdx k).filterMap (fun e => e.1.map (fun b => (off + e.2, b))), off + k ≤ c.1 := by
  induction bs generalizing k with
  | nil => simp
  | cons x xs ih =>
    obtain ⟨hlt, hge⟩ := ih (k + 1)
    cases x with
    | none =>
      rw [List.zipIdx_cons, List.filterMap_cons_none rfl]
      refine ⟨hlt, fun c hc => ?_⟩
      have := hge c hc
      omega
    | some b =>
      rw [List.zipIdx_cons, List.filterMap_cons_some (f := fun e : Option Byte × Nat => e.1.map fun b => (off + e.2, b)) rfl,
        List.map_cons, List.pairwise_cons]
      refine ⟨⟨fun a ha => ?_, hlt⟩, fun c hc => ?_⟩
      · obtain ⟨c, hc, rfl⟩ := List.mem_map.mp ha
        have := hge c hc
        show off + k < c.1
        omega
      · rcases List.mem_cons.mp hc with rfl | hc
        · exact Nat.le_refl _
        · have := hge c hc
          omega

theorem enabledCells_nodup (off : Nat) (bs : List (Option Byte)) : ((enabledCells off bs).map (fun c => c.1)).Nodup :=
  (enabledCells_rising off bs 0).1.imp fun h => Nat.ne_of_lt h

/-- What an accepted post that names no time leaves. -/
theorem accept_untimed (s : State) (p word level src : Nat) :
    (s.accept p word level src false).qn = { s.qn with queue := s.qn.queue ++ [s.queued p word level src false true] } ∧
    s.accept p word level src false = { s with
      regs := (s.accept p word level src false).regs,
      toDeliver := (s.accept p word level src false).toDeliver,
      qn := (s.accept p word level src false).qn } ∧
    s.KeepsNames (s.accept p word level src false) postNames := by
  have hrest := s.accept_rest p word level src false true
  have hqn := congrArg (fun u : State => u.qn) hrest
  replace hqn : (s.accept p word level src false).qn = { s.qn with queue := s.qn.queue ++ [s.queued p word level src false true] } :=
    hqn
  refine ⟨hqn, ?_, keepsNames_of_keepsFields (s.accept_keeps_untimed p word level src true) rfl⟩
  rw [hqn]
  exact eq_of_rest hrest

end State

/-- Settles O3, route by route and item by item. -/
theorem deliveriesComplete : Obligations.DeliveriesComplete := by
  unfold Obligations.DeliveriesComplete
  intro s n
  refine ⟨fun frc hfind hkind => ?_, fun frc v hfind hkind hv hspi hmask => ?_, fun frc v hfind hkind hv hspi hmask => ?_,
    fun frc p l hfind hkind hp hl hstandby hmirrors hpip hreason hfull => ?_, fun frc hfind hkind => ?_,
    fun h hheld hkind hlevel hcore hpcie hreason hfull hts => ?_,
    fun c hcmds hdue hprep hramps hpcie hwait => ?_,
    fun i off bs hrole hitems htick hacked hitem hadmits hwait => ?_, fun i hlink hitems htick hwait => ?_,
    fun i a w hrole hsync hitems htick hitem hfrozen hreg => ?_⟩
  · have heq : s.unitEvent n = s.delivered n := by
      rw [State.unitEvent_due hfind, State.deliver_none hkind]
    exact ⟨_, State.next_of_eq heq, rfl⟩
  · have heq : s.unitEvent n = ((s.delivered n).pended v).sent v := by
      rw [State.unitEvent_due hfind, State.deliver_msix hkind, hv]
      exact State.msixPend_unmasked (s := s.delivered n) hspi hmask
    refine ⟨_, State.next_of_eq heq, ?_, State.natBit_sent _ v, rfl, ?_⟩
    · rw [State.sent, State.get_set_same, State.pended, State.get_set_other _ _ rfl]
      rfl
    · have hkeep : (s.delivered n).KeepsFields (((s.delivered n).pended v).sent v) [I.MSIX_SENT v, F.HIF_PBA_P (v / 32)] := by
        simp [State.sent, State.pended]
      exact hkeep
  · have heq : s.unitEvent n = (s.delivered n).pended v := by
      rw [State.unitEvent_due hfind, State.deliver_msix hkind, hv]
      exact State.msixPend_masked (s := s.delivered n) hspi hmask
    refine ⟨_, State.next_of_eq heq, State.natBit_pended _ v, rfl, ?_⟩
    have hkeep : (s.delivered n).KeepsFields ((s.delivered n).pended v) [F.HIF_PBA_P (v / 32)] := by
      simp [State.pended]
    exact hkeep
  · subst hp hl
    have heq := (State.unitEvent_due hfind).trans (State.deliver_pip (frc := frc) hkind hstandby hmirrors hpip hreason hfull)
    obtain ⟨hqn, -, hkeep⟩ := (s.delivered n).accept_untimed (s.get (F.SYS_EVROUTE_PIP n)) (State.eventWord n frc)
      (s.get (F.SYS_EVROUTE_LEVEL n)) State.srcUnitEvent
    refine ⟨_, State.next_of_eq heq, ?_, hkeep⟩
    rw [hqn]
    rfl
  · have heq : s.unitEvent n = (s.delivered n).toSteward n frc := by
      rw [State.unitEvent_due hfind, State.deliver_steward hkind]
    refine ⟨_, State.next_of_eq heq, rfl, ?_, fun k => ?_, rfl⟩
    · rw [State.toSteward, State.core_setCore_same]
    · exact State.core_setCore_ne _ _ (by omega)
  · have heq := State.acceptHeldPost_one hheld hkind hlevel hcore hreason hfull hts
    obtain ⟨hqn, hframe, hkeep⟩ := (s.setHeld []).accept_untimed h.pip h.word (s.postLevel h.pip) h.src
    have hdrain : ((s.setHeld []).accept h.pip h.word (s.postLevel h.pip) h.src false).pcieDrain =
        (s.setHeld []).accept h.pip h.word (s.postLevel h.pip) h.src false := State.pcieDrain_empty (by rw [hframe]; exact hpcie)
    refine ⟨_, State.next_of_eq ((congrArg State.pcieDrain heq).trans hdrain), ?_, ?_, hframe, hkeep⟩
    · rw [hqn]
      rfl
    · rw [hqn]
      rfl
  · have heq := State.applyHeld_one hcmds hdue hprep hramps hwait
    refine ⟨_, State.next_of_eq ((congrArg State.pcieDrain heq).trans (State.pcieDrain_empty hpcie)), rfl,
      tabGet_set_same _ _ _ _ _, fun k hk => tabGet_set_ne _ _ _ _ _ hk, rfl⟩
  · have hstandby : s.standby = false := by simp [State.standby, hrole]
    have hfrom : s.noItems.beforeT i = false := by
      have hs : s.noItems.standby = false := hstandby
      simp [State.beforeT, hs]
    have heq := State.releaseItems_one (.inl hstandby) hitems htick hwait hfrom (.inr hacked)
    have hout : s.releaseItems = s.noItems.orcWrite (enabledCells off bs) := by
      rw [heq, hitem]
      exact State.hostOrcWrite_admitted hadmits
    refine ⟨_, State.next_of_eq hout, rfl, fun c hc => ?_, fun x hx => ?_, rfl⟩
    · exact State.memGet_cells_kept (State.enabledCells_nodup off bs) (fun a => s.bankRetired (bankOf a)) s.orchard hc
    · exact memGet_memCells_outside _ _ _ fun c hc he => hx (List.mem_map.mpr ⟨c, List.mem_of_mem_filter hc, he⟩)
  · exact ⟨s, State.next_of_eq (State.releaseItems_waits hlink hitems htick hwait), rfl⟩
  · have hwait : s.itemWaits i.item = false := by rw [hitem]; rfl
    have hfrom : s.noItems.beforeT i = false := by
      have hs : s.noItems.sync = 2 := hsync
      simp [State.beforeT, hs, syncRESYNC]
    have hnot : s.role ≠ roleACTIVE := by
      rw [State.role, hrole]
      decide
    have heq := State.releaseItems_one (.inr hfrozen) hitems htick hwait hfrom (.inl hnot)
    have hout : s.releaseItems = s.noItems.violate Master.twin.id 8 0 0 a.toNat 0 := by
      rw [heq, hitem, State.releaseItem, if_pos (by
        have hs : s.noItems.standby = true := decide_eq_true hrole
        simp [hs, hreg])]
    have hv := s.noItems.onlyNames_violate Master.twin.id 8 0 0 a.toNat 0
    refine ⟨_, State.next_of_eq hout, ?_, State.isFrozen_violate _ rfl _ _ _ _ _, ?_, ?_, State.eq_of_rest hv.1, hv.2⟩
    · have htwin := congrArg (fun u : State => u.twin.items) hv.1
      exact htwin
    · exact State.vlog_violate _ _ _ _ _ _ _ (by decide)
    · have haddr : a.toNat % 2 ^ 32 % 2 ^ 32 = a.toNat := by omega
      exact (State.vlog_violate _ _ _ _ _ _ _ (by decide)).trans haddr

end Sys2Proof.Machine
end

section
/-! The service link's reports, `UNFREEZE`, owner codes, updates, and the way into recovery (R455, R465 to R468). -/

namespace Sys2Proof.Machine

namespace State

/-! ### A command line and its answer (R451, R452) -/

/-- A command line begun: no line is sent since, and the rate is proved. -/
def lined (s : State) : State := { s with svc := { s.svc with out := [] } }.set I.SL_NEW 0

/-- The lines sent since the command line. -/
def answered (s : State) (ls : List String) : State := { s with svc := { s.svc with out := ls } }

theorem linkLine_up {s : State} (h : s.firmwareUp = true) (go : State → State) : s.linkLine go = go s.lined := if_pos h

theorem get_lined (s : State) {f : Fld} (h : (f.id == I.SL_NEW.id) = false) : s.lined.get f = s.get f := get_set_other _ _ h

theorem get_answered (s : State) (ls : List String) (f : Fld) : (s.answered ls).get f = s.get f := rfl

theorem say_answered (s : State) (ls : List String) (l : String) : (s.answered ls).say l = s.answered (ls ++ [l]) := rfl

theorem say_first {s : State} (h : s.svc.out = []) (l : String) : s.say l = s.answered [l] := by
  rw [say, h]
  rfl

/-- Lines said one after another, each the same whatever was said before. -/
theorem foldl_say {α : Type} {line : State → α → String} (hline : ∀ u ls x, line (u.answered ls) x = line u x) (u : State)
    (ls : List String) (l : List α) :
    l.foldl (fun t x => t.say (line t x)) (u.answered ls) = u.answered (ls ++ l.map (line u)) := by
  induction l generalizing ls with
  | nil => simp
  | cons x l ih =>
    rw [List.foldl_cons, say_answered, ih, hline, List.map_cons, List.append_assoc, List.singleton_append]

/-- An answer that leaves register fields changed besides. -/
theorem replies_of {s u : State} {fs : List Fld} (h : s.lined.OnlyRegs u fs) (ls : List String) :
    s.Replies (u.answered ls) ls fs := by
  obtain ⟨hu, hkeep⟩ := h
  have hframe := congrArg (fun z : State => z.answered ls) hu
  refine ⟨hframe, fun f hf => ?_⟩
  rw [List.map_cons, List.mem_cons, not_or] at hf
  exact (hkeep f hf.2).trans (get_set_ne _ _ fun he => hf.1 he)

theorem replies_lined (s : State) (ls : List String) : s.Replies (s.lined.answered ls) ls [] :=
  replies_of ⟨rfl, fun _ _ => rfl⟩ ls

theorem out_of_onlyRegs {s u : State} {fs : List Fld} (h : s.lined.OnlyRegs u fs) : u.svc.out = [] :=
  (congrArg (fun z : State => z.svc.out) h.1 :)

/-! ### Reports (R465, R466) -/

theorem monLine_lined (s : State) (ch : Nat) : s.lined.monLine ch = s.monLine ch := by
  simp only [monLine, s.get_lined (f := F.CUR_RES_CODE _) rfl, s.get_lined (f := F.CUR_MON_LO _) rfl,
    s.get_lined (f := F.CUR_MON_HI _) rfl]

theorem faultLine_lined (s : State) (i : Nat) : s.lined.faultLine i = s.faultLine i := by
  have hw : (fun k => s.lined.get (F.MDL_LOG_W i k)) = fun k => s.get (F.MDL_LOG_W i k) := funext fun _ => s.get_lined rfl
  unfold faultLine
  rw [hw]

theorem answered_lined (s : State) : s.lined.answered [] = s.lined := rfl

theorem linkMon_says (s : State) :
    s.lined.linkMon = s.lined.answered ((List.range 12).map (fun k => s.monLine (28 + k)) ++ [24, 25, 26, 27].map s.monLine ++ ["OK"]) := by
  have hfold := foldl_say (line := monLine) (fun _ _ _ => rfl) s.lined [] ((List.range 12).map (28 + ·) ++ [24, 25, 26, 27])
  have hlines : s.lined.monLine = s.monLine := funext s.monLine_lined
  rw [hlines, List.nil_append, List.map_append, List.map_map, answered_lined] at hfold
  have hsaid := congrArg sayOk hfold
  rw [sayOk, sayOk, say_answered] at hsaid
  exact hsaid

theorem linkFaults_says (s : State) {k : Nat} (hk : k ≠ 0) :
    s.lined.linkFaults k = s.lined.answered
      ((List.range (min k (s.get I.MDL_LOGN))).map (fun j => s.faultLine ((s.get F.MDL_LOGHEAD_NEXT + 255 - j) % 256)) ++ ["OK"]) := by
  have hfold := foldl_say (line := fun t j => t.faultLine ((t.get F.MDL_LOGHEAD_NEXT + 255 - j) % 256)) (fun _ _ _ => rfl) s.lined []
    (List.range (min k (s.lined.get I.MDL_LOGN)))
  simp only [faultLine_lined, s.get_lined (f := F.MDL_LOGHEAD_NEXT) rfl, s.get_lined (f := I.MDL_LOGN) rfl, List.nil_append] at hfold
  rw [linkFaults, if_neg hk, s.get_lined (f := I.MDL_LOGN) rfl]
  exact congrArg sayOk hfold

/-- One line for each of a unit's 64 names. -/
theorem mapLines_say (s : State) (unit : String) {f : Nat → Fld} (hf : ∀ n, ((f n).id == I.SL_NEW.id) = false) (ls : List String) :
    (List.range 64).foldl (fun t n => t.say (unit ++ toString n ++ " P" ++ hexStr 2 (t.get (f n)))) (s.lined.answered ls) =
      s.lined.answered (ls ++ (List.range 64).map (fun n => unit ++ toString n ++ " P" ++ hexStr 2 (s.get (f n)))) := by
  have hfold := foldl_say (line := fun t n => unit ++ toString n ++ " P" ++ hexStr 2 (t.get (f n))) (fun _ _ _ => rfl) s.lined ls
    (List.range 64)
  simp only [get_lined _ (hf _)] at hfold
  exact hfold

theorem linkMap_says (s : State) :
    s.lined.linkMap = s.lined.answered ((List.range 64).map (fun n => "EC" ++ toString n ++ " P" ++ hexStr 2 (s.get (F.MDL_MAP_PHYS n))) ++
      (List.range 64).map (fun n => "OB" ++ toString n ++ " P" ++ hexStr 2 (s.get (F.ORC_MAP_PHYS n))) ++ ["OK"]) := by
  have hcores := s.mapLines_say "EC" (f := F.MDL_MAP_PHYS) (fun _ => rfl) []
  have hbanks := s.mapLines_say "OB" (f := F.ORC_MAP_PHYS) (fun _ => rfl)
    ((List.range 64).map (fun n => "EC" ++ toString n ++ " P" ++ hexStr 2 (s.get (F.MDL_MAP_PHYS n))))
  rw [List.nil_append] at hcores
  rw [← hcores] at hbanks
  exact congrArg sayOk hbanks

theorem linkViol_says {s : State} (h : s.get (F.PRT_VLOG_W 0 0) / 2 ^ 24 ≠ 0) :
    s.lined.linkViol 1 = s.lined.answered [hexStr 8 (s.get (F.PRT_VLOG_W 0 0)) ++ " " ++ hexStr 8 (s.get (F.PRT_VLOG_W 0 1)) ++ " " ++
      hexStr 8 (s.get (F.PRT_VLOG_W 0 2)) ++ " " ++ hexStr 8 (s.get (F.PRT_VLOG_W 0 3)), "OK"] := by
  have hone : (List.range 1).filter (fun i => decide (s.get (F.PRT_VLOG_W i 0) / 2 ^ 24 ≠ 0)) = [0] := by
    have hset : 2 ^ 24 ≤ s.get (F.PRT_VLOG_W 0 0) := by omega
    simpa [List.range_succ] using hset
  simp only [linkViol, s.get_lined (f := F.PRT_VLOG_W _ _) rfl, hone]
  rfl

/-! ### Answers with register fields changed besides -/

theorem keepsFields_answered {s u : State} {fs : List Fld} (h : s.lined.KeepsFields u fs) (ls : List String) :
    s.KeepsFields (u.answered ls) (I.SL_NEW :: fs) := fun f hf => by
  rw [List.map_cons, List.mem_cons, not_or] at hf
  exact (h f hf.2).trans (get_set_ne _ _ fun he => hf.1 he)

theorem keepsNames_answered {s u : State} {fs : List Fld} (h : s.lined.KeepsNames u fs) (ls : List String) :
    s.KeepsNames (u.answered ls) (I.SL_NEW :: fs) := fun f hf => by
  rw [List.map_cons, List.mem_cons, not_or] at hf
  exact (h f hf.2).trans (get_set_ne _ _ fun he => hf.1 (congrArg Prod.fst he))

/-- What an answer leaves beside registers and events, from what the command left. -/
theorem eq_of_rest_answered {v u : State} (h : u.rest = v.rest) (ls : List String) :
    u.answered ls = { v with
      regs := (u.answered ls).regs, toDeliver := (u.answered ls).toDeliver, svc := (u.answered ls).svc } := by
  have hframe := congrArg (fun z : State => z.answered ls) (eq_of_rest h)
  have hsvc := congrArg (fun z : State => z.svc) hframe
  exact hframe.trans (congrArg (fun x : Service => { v with regs := u.regs, toDeliver := u.toDeliver, svc := x }) hsvc.symm)

theorem sayCfg_ok {s : State} (hout : s.svc.out = []) (hst : s.get F.CFG_SESS_STATUS = stOK) : s.sayCfg = s.answered ["OK"] := by
  rw [sayCfg, hst]
  exact say_first hout "OK"

theorem get_cfgStatus (s : State) (st r : Nat) {f : Fld} (hst : (f.id == F.CFG_SESS_STATUS.id) = false)
    (hr : (f.id == F.CFG_SESS_REASON.id) = false) : (s.cfgStatus st r).get f = s.get f :=
  (get_set_other _ _ hr).trans (get_set_other _ _ hst)

theorem get_cfgOk_status (s : State) : s.cfgOk.get F.CFG_SESS_STATUS = stOK := (get_set_other _ _ rfl).trans (get_set_same _ _ _)

theorem sayCfg_refused {s : State} (h : s.svc.out = []) :
    (s.cfgStatus stREFUSED 0).sayCfg = (s.cfgStatus stREFUSED 0).answered ["ERR 03"] := by
  have hst : (s.cfgStatus stREFUSED 0).get F.CFG_SESS_STATUS = stREFUSED := (get_set_other _ _ rfl).trans (get_set_same _ _ _)
  have hrsn : (s.cfgStatus stREFUSED 0).get F.CFG_SESS_REASON = 0 := get_set_same _ _ _
  rw [sayCfg, hst, hrsn]
  exact say_first (s := s.cfgStatus stREFUSED 0) h "ERR 03"

theorem onlyRegs_cfgStatus (s : State) (st r : Nat) : s.OnlyRegs (s.cfgStatus st r) [F.CFG_SESS_STATUS, F.CFG_SESS_REASON] := by
  simp [onlyRegs_iff, cfgStatus]

theorem asHolder_held {s : State} {m : Master} (h : s.holdsSession m = true) (go : State → State) : s.asHolder m go = go s := by
  have hsrc : ¬s.get F.CFG_SESS_SRC = 0 := fun h0 => by simp [holdsSession, h0] at h
  have hheld : ¬(!s.holdsSession m) = true := by simp [h]
  rw [asHolder, if_neg hsrc, if_neg hheld]

theorem holdsSession_lined {s : State} {m : Master} (h : s.holdsSession m = true) : s.lined.holdsSession m = true := by
  simp (disch := exact id rfl) only [holdsSession, get_lined]
  exact h

/-! ### `UNFREEZE` and owner codes (R401, R445) -/

theorem linkUnfreeze_link {s : State} {n : Nat} (hn : n = 0x58 ∨ n = 0x59 ∨ n = 0x5B) (hfrozen : s.isFrozen n = true) :
    s.lined.linkUnfreeze n false = ((s.lined.setFrozen n false).unfreezeStatus stOK).answered ["OK"] := by
  have hlined : s.lined.isFrozen n = true := (isFrozen_congr (fun w => s.get_lined (f := F.PRT_FROZEN_M w) rfl) n).trans hfrozen
  have hwho : n < 256 ∧ masterValid n = true ∧ ¬n < 72 ∧ n ≠ 0x50 := by rcases hn with rfl | rfl | rfl <;> decide
  obtain ⟨hlt, hvalid, hcore, hsteward⟩ := hwho
  have hset := unfreezeSet_eq (s := s.lined) (m := .steward) (who := n) (action := 0) (by decide) hlt (.inl rfl)
  rw [if_neg (by simp [hvalid]), if_neg (by simp [hlined]), unfreezeMaster, if_neg hcore, if_neg hsteward] at hset
  have hword : n + 0x100 * b2n false = 256 * 0 + n := by simp [b2n]
  have hout : ((s.lined.setFrozen n false).unfreezeStatus stOK).svc.out = [] :=
    (congrArg (fun z : State => z.svc.out) (onlyRegs_setFrozen_two s.lined hn false).1 :)
  have hst : ((s.lined.setFrozen n false).unfreezeStatus stOK).get F.SYS_UNFREEZE_STATUS = stOK := get_set_same _ _ _
  rw [linkUnfreeze, if_neg (by omega)]
  dsimp only
  rw [hword, hset, hst]
  exact say_first hout "OK"

theorem linkCode_refused {s : State} (hfree : s.get F.CFG_SESS_SRC = 0) (ds : List Nat) :
    s.lined.linkCode ds = (s.lined.cfgStatus stREFUSED 0).answered ["ERR 03"] := by
  have hsrc : s.lined.get F.CFG_SESS_SRC = 0 := (s.get_lined rfl).trans hfree
  have hentry (x : Option (List Nat)) : s.lined.ownerEntry x = s.lined.cfgStatus stREFUSED 0 := by
    unfold ownerEntry
    exact if_pos (.inl hsrc)
  rw [linkCode, hentry]
  exact sayCfg_refused rfl

theorem ownerMatches_lined (s : State) (ds : List Nat) : s.lined.ownerMatches ds = s.ownerMatches ds := by
  simp only [ownerMatches, s.get_lined (f := I.OWN_DIG _) rfl]

theorem linkCode_right {s : State} {ds : List Nat} (hsrc : s.get F.CFG_SESS_SRC ≠ 0) (hlock : s.get I.CFG_LOCKO = 0)
    (hne : ds ≠ []) (hlen : ds.length ≤ 8) (hmatch : s.ownerMatches ds = true) :
    s.lined.linkCode ds = ((s.lined.set I.CFG_UNL 1).cfgOk).answered ["OK"] := by
  have hopen : ¬(s.lined.get F.CFG_SESS_SRC = 0 ∨ s.lined.on I.CFG_LOCKO = true) := by
    simp (disch := exact id rfl) only [on, get_lined]
    simp [hsrc, hlock]
  have hmatch' : s.lined.ownerMatches ds = true := (s.ownerMatches_lined ds).trans hmatch
  rw [linkCode, if_neg (by rintro (h | h); exacts [hne h, by omega]), ownerEntry, if_neg hopen]
  dsimp only
  rw [if_pos hmatch']
  exact sayCfg_ok rfl (get_cfgOk_status _)

/-! ### Sessions and staging (R436, R437) -/

/-- A session just opened outside a chain. -/
def sessAlone (s : State) (m : Master) (src : Nat) : State :=
  (((((s.sessOpened m src).set I.CH_BAD 0).set I.CH_CANT 0).set I.CH_SENT 0).setGraft { s.graft with sent := [], hops := [] }).set
    I.CH_HEAD 0

theorem sessBegin_alone {s : State} (m : Master) (src : Nat) (htrial : s.get F.CFG_TRIAL_ACTIVE = 0) (hen : s.get F.CFG_CHAIN_EN = 0) :
    s.sessBegin m src = s.sessAlone m src := by
  have hoff : (s.sessOpened m src).on F.CFG_TRIAL_ACTIVE = false := by
    simp (disch := exact id rfl) only [on, sessOpened, cfgOk, cfgStatus, get_raise_apart, get_set_other, htrial]
    rfl
  have hgraft : (s.sessOpened m src).graft = s.graft := graft_of_rest (by simp [sessOpened, cfgOk, cfgStatus])
  have hchain : ((((s.sessOpened m src).set I.CH_BAD 0).set I.CH_CANT 0).set I.CH_SENT 0).on F.CFG_CHAIN_EN = false := by
    simp (disch := exact id rfl) only [on, sessOpened, cfgOk, cfgStatus, get_raise_apart, get_set_other, hen]
    rfl
  unfold sessBegin
  dsimp only
  rw [← sessOpened, hoff, if_neg Bool.false_ne_true, if_neg (fun h => Bool.false_ne_true (hchain.symm.trans h.2)), sessAlone, ← hgraft]

/-- The places that the opening of a session outside a chain writes. -/
def aloneFields : List Fld :=
  [F.CFG_SESS_SRC, F.CFG_SESS_HOLDER, I.CFG_UNL, I.CFG_WRONG, F.CFG_SESS_STATUS, F.CFG_SESS_REASON, F.CFG_EVT_EVT, I.CH_BAD,
    I.CH_CANT, I.CH_SENT, I.CH_HEAD]

theorem sessAlone_facts (s : State) (m : Master) (src : Nat) :
    (s.sessAlone m src).get F.CFG_SESS_SRC = src % 2 ^ 3 ∧ (s.sessAlone m src).get F.CFG_SESS_HOLDER = m.id % 2 ^ 8 ∧
    (s.sessAlone m src).get F.CFG_EVT_EVT % 2 = 1 ∧ (s.sessAlone m src).get F.CFG_SESS_STATUS = stOK ∧
    (s.sessAlone m src).rest = (s.setGraft { s.graft with sent := [], hops := [] }).rest ∧ s.KeepsFields (s.sessAlone m src) aloneFields := by
  have hevt : ∀ e, evCause 32 = some e → e.1 ∈ aloneFields := by decide
  refine ⟨?_, ?_, ?_, ?_, ?_, ?_⟩
  · simp (disch := exact id rfl) only [sessAlone, sessOpened, cfgOk, cfgStatus, get_raise_apart, get_set_other, get_set_same,
      get_setGraft]
    rfl
  · simp (disch := exact id rfl) only [sessAlone, sessOpened, cfgOk, cfgStatus, get_raise_apart, get_set_other, get_set_same,
      get_setGraft]
    rfl
  · simp (disch := exact id rfl) only [sessAlone, sessOpened, get_set_other, get_setGraft]
    simpa using get_raise_bit (n := 32) (k := 0) (f := F.CFG_EVT_EVT) _ rfl (by decide)
  · simp (disch := exact id rfl) only [sessAlone, sessOpened, get_raise_apart, get_set_other, get_setGraft]
    exact get_cfgOk_status _
  · simp only [sessAlone, sessOpened, cfgOk, cfgStatus, rest_set, rest_raise, rest_setGraft]
  · unfold aloneFields at hevt ⊢
    simp [sessAlone, sessOpened, cfgOk, cfgStatus, keepsFields_raise hevt]

theorem linkOpen_free {s : State} (hfree : s.get F.CFG_SESS_SRC = 0) (htrial : s.get F.CFG_TRIAL_ACTIVE = 0)
    (hen : s.get F.CFG_CHAIN_EN = 0) : s.lined.linkOpen = (s.lined.sessAlone .steward 1).answered ["OK"] := by
  have hsrc : ¬s.lined.get F.CFG_SESS_SRC ≠ 0 := by rw [s.get_lined rfl, not_not]; exact hfree
  obtain ⟨-, -, -, hst, hrest, -⟩ := s.lined.sessAlone_facts .steward 1
  have hout := congrArg (fun z : State => z.svc.out) hrest
  rw [linkOpen, sessOpen, if_neg hsrc]
  rw [show sessSrc .steward false = 1 from rfl, sessBegin_alone _ _ ((s.get_lined rfl).trans htrial) ((s.get_lined rfl).trans hen)]
  exact sayCfg_ok hout hst

/-- A piece in hand is consumed. -/
theorem pieceDone_ready {s : State} (hbusy : s.get F.CFG_STAGE_BUSY ≠ 0) (hlate : s.get I.CFG_LATE = 0) (hhead : s.get I.CH_HEAD = 0) :
    s.pieceDone = ((s.setGraft { s.graft with piece := [] }).set F.CFG_STAGE_BUSY 0).stageBytes s.graft.piece := by
  have hgo : ¬(!s.on F.CFG_STAGE_BUSY || s.rangePending (s.get I.CFG_LATE_A) (s.get I.CFG_LATE)) = true := by
    simp [on, hbusy, rangePending, hlate]
  have htake : s.takePiece = (s.graft.piece, s) := by
    unfold takePiece
    exact if_pos hlate
  have hoff : ¬((s.setGraft { s.graft with piece := [] }).set F.CFG_STAGE_BUSY 0).on I.CH_HEAD = true := by
    simp (disch := exact id rfl) only [on, get_set_other, get_setGraft]
    simp [hhead]
  unfold pieceDone
  rw [if_neg hgo, htake]
  dsimp only
  rw [if_neg hoff]

/-- The one byte of a package taken as a piece. -/
def pieceHeld (s : State) (b : Byte) : State :=
  (((s.setGraft { s.graft with piece := [b] }).set I.CFG_LATE 0).set F.CFG_STAGE_BUSY 1)

/-- A first byte staged. -/
def byteStaged (s : State) (b : Byte) : State :=
  (((s.pieceHeld b).setGraft { (s.pieceHeld b).graft with piece := [] }).set F.CFG_STAGE_BUSY 0).stagedFirst [b]

theorem linkPieces_one {s : State} {b : Byte} (hstage : s.get F.CFG_STAGE_STATE = 0) (hhead : s.get I.CH_HEAD = 0) :
    linkPieces 1 [b] s = s.byteStaged b := by
  have hone : linkPieces 1 [b] s = (s.pieceHeld b).pieceDone := rfl
  have hbusy : (s.pieceHeld b).get F.CFG_STAGE_BUSY ≠ 0 := by
    rw [pieceHeld, get_set_same]
    decide
  have hlate : (s.pieceHeld b).get I.CFG_LATE = 0 := (get_set_other _ _ rfl).trans (get_set_same _ _ _)
  have hhead' : (s.pieceHeld b).get I.CH_HEAD = 0 := ((get_set_other _ _ rfl).trans (get_set_other _ _ rfl)).trans hhead
  have hstage' : (((s.pieceHeld b).setGraft { (s.pieceHeld b).graft with piece := [] }).set F.CFG_STAGE_BUSY 0).get
      F.CFG_STAGE_STATE = 0 := by
    simp (disch := exact id rfl) only [pieceHeld, get_set_other, get_setGraft]
    exact hstage
  rw [hone, pieceDone_ready hbusy hlate hhead']
  exact stageBytes_first hstage' (show 1 < 8 by decide)

/-- The places that a first byte's staging writes. -/
def byteFields : List Fld :=
  [I.CFG_LATE, F.CFG_STAGE_BUSY, F.CFG_STAGE_STATE, F.CFG_XFER_OFF_N, F.CFG_STAGE_REASON, F.CFG_SESS_STATUS, F.CFG_SESS_REASON]

theorem byteStaged_facts (s : State) (b : Byte) :
    (s.cfgOk.byteStaged b).get F.CFG_STAGE_STATE = 1 ∧ s.KeepsFields (s.cfgOk.byteStaged b) byteFields ∧
    s.cfgOk.byteStaged b = { s with
      regs := (s.cfgOk.byteStaged b).regs, graft := { s.graft with piece := [], pkg := [b], parts := [] } } := by
  refine ⟨?_, ?_, rfl⟩
  · simp (disch := exact id rfl) only [byteStaged, stagedFirst, get_set_other, get_setGraft, get_set_same]
    rfl
  · unfold byteFields
    simp [byteStaged, stagedFirst, pieceHeld, cfgOk, cfgStatus]

theorem byteStaged_answered (s : State) (b : Byte) (ls : List String) :
    ((s.answered ls).byteStaged b) = (s.byteStaged b).answered ls := rfl

theorem cfgOk_answered (s : State) (ls : List String) : (s.answered ls).cfgOk = s.cfgOk.answered ls := rfl

theorem linkLoad_byte {s : State} (b : Byte) (hheld : s.holdsSession .steward = true) (hbusy : s.get F.CFG_STAGE_BUSY = 0)
    (hact : s.get F.CFG_ACT_STATE = 0) (hhead : s.get I.CH_HEAD = 0) (hstage : s.get F.CFG_STAGE_STATE = 0) :
    s.lined.linkLoad [b] = (s.lined.cfgOk.byteStaged b).answered ["ACK 0", "OK"] := by
  have hheld' := holdsSession_lined hheld
  have hidle : ¬(s.lined.on F.CFG_STAGE_BUSY = true ∨ s.lined.on F.CFG_ACT_STATE = true) := by
    simp (disch := exact id rfl) only [on, get_lined]
    simp [hbusy, hact]
  obtain ⟨hstate, -, -⟩ := s.lined.byteStaged_facts b
  have hstage' : (s.lined.say "ACK 0").cfgOk.get F.CFG_STAGE_STATE = 0 :=
    (get_cfgStatus _ _ _ rfl rfl).trans ((s.get_lined rfl).trans hstage)
  have hhead' : (s.lined.say "ACK 0").cfgOk.get I.CH_HEAD = 0 :=
    (get_cfgStatus _ _ _ rfl rfl).trans ((s.get_lined rfl).trans hhead)
  have hpieces := linkPieces_one (b := b) hstage' hhead'
  have hdone : ((s.lined.say "ACK 0").cfgOk.byteStaged b) = (s.lined.cfgOk.byteStaged b).answered ["ACK 0"] := by
    rw [say_first (rfl : s.lined.svc.out = []), cfgOk_answered, byteStaged_answered]
  have hnot : ¬((s.lined.cfgOk.byteStaged b).answered ["ACK 0"]).get F.CFG_STAGE_STATE = 4 := by
    have hget : ((s.lined.cfgOk.byteStaged b).answered ["ACK 0"]).get F.CFG_STAGE_STATE = 1 :=
      (get_answered _ _ _).trans hstate
    rw [hget]
    decide
  have hacks : (List.range (([b].length + 4095) / 4096)).foldl (fun (s : State) k => s.say ("ACK " ++ toString k)) s.lined =
      s.lined.say "ACK 0" := by
    have hlen : ([b].length + 4095) / 4096 = 1 := by simp
    have hack : "ACK " ++ toString 0 = "ACK 0" := rfl
    rw [hlen, List.range_one, List.foldl_cons, List.foldl_nil, hack]
  have hfuel : [b].length / 65536 + 1 = 1 := by simp
  rw [linkLoad, if_neg (List.cons_ne_nil _ _), if_neg (by simp [hheld']), if_neg hidle]
  rw [hacks, hfuel]
  dsimp only
  rw [hpieces, hdone, if_neg hnot]
  exact say_answered _ _ _

/-! ### Activation (R440) -/

theorem driven_lined (s : State) (b : Ball) : s.lined.driven b = s.driven b := by
  have hlevel : s.lined.squareLevel = s.squareLevel := by
    simp (disch := exact id rfl) only [squareLevel, tclkHz, on, get_lined]
    rfl
  rw [driven, driven, hlevel]
  rfl

theorem refusal_lined (s : State) : s.lined.refusal = s.refusal := by
  simp (disch := exact id rfl) only [refusal, pwrsrcHigh, on, get_lined, driven_lined]
  rfl

theorem rateHz_lined (s : State) : s.lined.rateHz = s.rateHz := by
  simp (disch := exact id rfl) only [rateHz, multM, on, get_lined]
  rfl

/-- Armed with nobody to tell. -/
def armedAlone (s : State) : State := (((s.set F.CFG_ACT_STATE 1).set F.CFG_ACT_REASON 0).cfgOk).raise 35

theorem armNow_alone {s : State} (hpair : s.stagedPair = false) (hhead : s.get I.CH_HEAD = 0) : s.armNow = s.armedAlone := by
  have hflash : s.armedAlone.flash = s.flash := by
    have hrest : s.armedAlone.rest = s.rest := by simp [armedAlone, cfgOk, cfgStatus]
    exact (congrArg (fun z : State => z.flash) hrest :)
  have hpair' : s.armedAlone.stagedPair = false := by
    have hsame : s.armedAlone.stagedPair = s.stagedPair := by
      unfold stagedPair stagedManifest stagedSlot
      rw [hflash]
    exact hsame.trans hpair
  have hhead' : s.armedAlone.on I.CH_HEAD = false := by
    simp (disch := exact id rfl) only [on, armedAlone, cfgOk, cfgStatus, get_raise_apart, get_set_other, hhead]
    rfl
  have hone : ¬(s.armedAlone.stagedPair = true ∧ s.armedAlone.role = roleACTIVE) := by simp [hpair']
  have htwo : ¬s.armedAlone.on I.CH_HEAD = true := by simp [hhead']
  unfold armNow
  dsimp only
  rw [← armedAlone, if_neg hone, if_neg htwo]

theorem activationF_setF (s : State) {u : Nat} (hu : u < 2 ^ 64) : (s.setF u).activationF = u := by
  obtain ⟨hlo, hhi⟩ := s.get_setF u
  rw [activationF, pair, hlo, hhi]
  omega

theorem linkArm_ready {s : State} {u : Nat} (hheld : s.holdsSession .steward = true) (hslot : s.stagedSlot ≠ 0)
    (hpair : s.stagedPair = false) (href : s.refusal = none) (hhead : s.get I.CH_HEAD = 0) (hlead : s.frc + s.rateHz ≤ u)
    (hu : u < 2 ^ 64) : s.lined.linkArm false u = ((s.lined.setF u).armedAlone).answered ["OK"] := by
  have hget {g : Fld} (hlo : (g.id == F.CFG_ACT_FRC_LO_F.id) = false) (hhi : (g.id == F.CFG_ACT_FRC_HI_F.id) = false)
      (hnew : (g.id == I.SL_NEW.id) = false) : (s.lined.setF u).get g = s.get g :=
    (s.lined.get_setF_other u hlo hhi).trans (s.get_lined hnew)
  have hheld' : (s.lined.setF u).holdsSession .steward = true := by
    rw [holdsSession, hget rfl rfl rfl, hget rfl rfl rfl]
    exact hheld
  have hfault : (s.lined.setF u).armFault = none := by
    have hslot' : ¬(s.lined.setF u).stagedSlot = 0 := hslot
    have hpair' : (s.lined.setF u).stagedPair = false := hpair
    have href' : (s.lined.setF u).refusal = none := (s.lined.refusal_setF u).trans (s.refusal_lined.trans href)
    have hrate : (s.lined.setF u).rateHz = s.rateHz := (s.lined.rateHz_setF u).trans s.rateHz_lined
    have hlead' : ¬u < (s.lined.setF u).frc + s.rateHz := Nat.not_lt.mpr hlead
    simp only [armFault, if_neg hslot', hpair', href', hrate, activationF_setF _ hu, if_neg hlead', Bool.false_and,
      Bool.false_eq_true, if_false]
  have hset : (s.lined.setF u).actSet .steward 0x10 = (s.lined.setF u).armedAlone := by
    have harm : (s.lined.setF u).actArm = (s.lined.setF u).armedAlone := by
      rw [actArm, hfault]
      exact armNow_alone hpair (hget rfl rfl rfl |>.trans hhead)
    rw [actSet, asHolder_held hheld']
    exact harm
  have hst : (s.lined.setF u).armedAlone.get F.CFG_SESS_STATUS = stOK :=
    (get_raise_apart _ rfl).trans (get_cfgOk_status _)
  have hout : (s.lined.setF u).armedAlone.svc.out = [] := by
    have hrest : (s.lined.setF u).armedAlone.rest = s.lined.rest := by simp [armedAlone, cfgOk, cfgStatus, setF]
    exact (congrArg (fun z : State => z.svc.out) hrest :)
  rw [linkArm, asHolder_held (holdsSession_lined hheld)]
  have hgo : ((s.lined.set F.CFG_ACT_FRC_LO_F u).set F.CFG_ACT_FRC_HI_F (u / 2 ^ 32)).actSet .steward 0x10 =
    (s.lined.setF u).armedAlone := hset
  exact (congrArg sayCfg hgo).trans (sayCfg_ok hout hst)

theorem actDisarm_solo {s : State} (hrole : s.role = roleSOLO) : s.actDisarm = (s.set F.CFG_ACT_STATE 0).cfgOk := by
  have hnot : ¬(s.on F.CFG_ACT_STATE = true ∧ s.role = roleACTIVE ∧ s.stagedPair = true) := by
    rw [hrole]
    exact fun h => absurd h.2.1 (by decide)
  unfold actDisarm
  rw [if_neg hnot]

theorem actSet_disarms {s : State} (hheld : s.holdsSession .steward = true) (hrole : s.role = roleSOLO) :
    s.actSet .steward 0x20 = (s.set F.CFG_ACT_STATE 0).cfgOk := by
  have hset : s.actSet .steward 0x20 = s.actDisarm := by
    rw [actSet, asHolder_held hheld]
    rfl
  exact hset.trans (actDisarm_solo hrole)

/-! ### COMMIT and CLOSE (R436, R442) -/

theorem trialSet_commit {s : State} (hheld : s.holdsSession .steward = true) :
    s.trialSet .steward 0x80000000 =
      if s.trialCommit.get F.CFG_SESS_STATUS = stOK then s.trialCommit else s.cfgStatus stREFUSED 0 := by
  have hsame : ¬(s.on F.CFG_TRIAL_ACTIVE && !s.on F.CFG_TRIAL_ACTIVE) = true := by simp
  have hset : s.trialSet .steward 0x80000000 = s.asHolder .steward (fun s =>
      if s.on F.CFG_TRIAL_ACTIVE && !s.on F.CFG_TRIAL_ACTIVE then s
      else if s.trialCommit.get F.CFG_SESS_STATUS = stOK then s.trialCommit else s.cfgStatus stREFUSED 0) := rfl
  rw [hset, asHolder_held hheld, if_neg hsame]

theorem trialSet_refused {s : State} (hheld : s.holdsSession .steward = true) (htrial : s.get F.CFG_TRIAL_ACTIVE = 0) :
    s.trialSet .steward 0x80000000 = s.cfgStatus stREFUSED 0 := by
  have hcommit : s.trialCommit = s.cfgStatus stREFUSED 0 := by
    rw [trialCommit, if_pos (by simp [on, htrial])]
  have hst : ¬s.trialCommit.get F.CFG_SESS_STATUS = stOK := by
    rw [hcommit, cfgStatus, get_set_other _ _ rfl, get_set_same]
    decide
  rw [trialSet_commit hheld, if_neg hst]

theorem trialSet_commits {s : State} (hheld : s.holdsSession .steward = true) (htrial : s.get F.CFG_TRIAL_ACTIVE ≠ 0)
    (hhealthy : s.get F.CFG_TRIAL_HEALTHY ≠ 0) (hpair : s.pairHealthy = true) (hhead : s.get I.CH_HEAD = 0) :
    s.trialSet .steward 0x80000000 = s.commitNow.cfgOk := by
  obtain ⟨u, hrest, hkeep, hnow⟩ := s.commitNow_eq
  have hhead' : s.commitNow.cfgOk.on I.CH_HEAD = false := by
    have hget : u.get I.CH_HEAD = s.get I.CH_HEAD := hkeep _ (by decide)
    simp (disch := exact id rfl) only [on, hnow, get_cfgStatus, cfgOk, get_raise_apart, get_set_other, hget, hhead]
    rfl
  have hgo : ¬(!s.on F.CFG_TRIAL_ACTIVE || !s.on F.CFG_TRIAL_HEALTHY || !s.pairHealthy ||
      (s.on I.CH_HEAD && s.on F.CFG_CHAIN_EN && !s.allHops 3)) = true := by
    simp [on, htrial, hhealthy, hpair, hhead]
  have hcommit : s.trialCommit = s.commitNow.cfgOk := by
    unfold trialCommit
    rw [if_neg hgo]
    dsimp only
    rw [hhead', if_neg Bool.false_ne_true]
  rw [trialSet_commit hheld, hcommit, if_pos (get_cfgOk_status _)]

theorem pairHealthy_lined (s : State) : s.lined.pairHealthy = s.pairHealthy := by
  simp (disch := exact id rfl) only [pairHealthy, role, sync, on, get_lined]
  rfl

/-- What a healthy trial's commitment leaves. -/
theorem trialSet_commits_facts {s : State} (hheld : s.holdsSession .steward = true) (htrial : s.get F.CFG_TRIAL_ACTIVE ≠ 0)
    (hhealthy : s.get F.CFG_TRIAL_HEALTHY ≠ 0) (hpair : s.pairHealthy = true) (hhead : s.get I.CH_HEAD = 0) :
    ∃ v, s.trialSet .steward 0x80000000 = v ∧ v.get F.CFG_SESS_STATUS = stOK ∧ v.rest = s.slotCommitted.rest ∧
      v.flash = s.slotCommitted.flash ∧ v.get F.CFG_TRIAL_ACTIVE = 0 ∧
      s.KeepsNames v (commitNames ++ [F.CFG_SESS_STATUS, F.CFG_SESS_REASON]) := by
  obtain ⟨u, hrest, hkeep, hnow⟩ := s.commitNow_eq
  have hrest' : s.commitNow.cfgOk.rest = s.slotCommitted.rest := by
    rw [hnow, cfgOk, cfgStatus, rest_set, rest_set, rest_raise, rest_set, rest_set, hrest]
  have hactive : s.commitNow.cfgOk.get F.CFG_TRIAL_ACTIVE = 0 := by
    rw [hnow]
    refine (get_cfgStatus _ _ _ rfl rfl).trans ((get_raise_apart _ rfl).trans ?_)
    rw [get_set_other _ _ rfl, get_set_same]
    rfl
  have hnames : s.KeepsNames u (commitNames ++ [F.CFG_SESS_STATUS, F.CFG_SESS_REASON]) := fun f hf =>
    hkeep f fun hm => hf (by rw [List.map_append]; exact List.mem_append_left _ hm)
  refine ⟨_, trialSet_commits hheld htrial hhealthy hpair hhead, get_cfgOk_status _, hrest', (congrArg State.flash hrest' :), hactive, ?_⟩
  rw [hnow, cfgOk, cfgStatus]
  exact (keepsNames_set rfl _).mpr ((keepsNames_set rfl _).mpr ((keepsNames_raise rfl).mpr ((keepsNames_set rfl _).mpr
    ((keepsNames_set rfl _).mpr hnames))))

/-- A session closed. -/
def sessClosed (s : State) : State := ((((s.set F.CFG_SESS_SRC 0).set F.CFG_SESS_HOLDER 0).set I.CFG_UNL 0).raise 32).cfgOk

theorem sessClose_idle {s : State} (hheld : s.holdsSession .steward = true) (h1 : s.get F.CFG_STAGE_STATE ≠ 1)
    (h2 : s.get F.CFG_STAGE_STATE ≠ 2) (hact : s.get F.CFG_ACT_STATE = 0) : s.sessClose .steward = s.sessClosed := by
  have hsrc : ¬s.get F.CFG_SESS_SRC = 0 := fun h0 => by simp [holdsSession, h0] at hheld
  have hstage : ¬(s.get F.CFG_STAGE_STATE = 1 ∨ s.get F.CFG_STAGE_STATE = 2) := not_or.mpr ⟨h1, h2⟩
  have hidle : ¬s.on F.CFG_ACT_STATE = true := by simp [on, hact]
  rw [sessClose, if_neg hsrc, if_neg (by simp [hheld]), sessEnd, if_neg hsrc]
  dsimp only
  rw [if_neg hstage, if_neg hidle]
  rfl

/-! ### Recovery (R468) -/

theorem firmwareUp_supplied {s : State} (h : s.firmwareUp = true) : s.get I.PW_HOLD = 0 := by
  simp only [firmwareUp, on, Bool.and_eq_true, Bool.not_eq_true', decide_eq_false_iff_not, not_not] at h
  obtain ⟨⟨⟨-, hhold⟩, -⟩, -⟩ := h
  exact hhold

theorem linkRecover_free {s : State} (hhold : s.get I.PW_HOLD = 0) (href : s.refusal = none) :
    ∃ t, s.lined.linkRecover = t ∧ t.get I.BOOT_PH = 2 ∧ t.get F.SYS_RSTCAUSE_WARM = 1 ∧ t.svc.out = ["OK", "RIND 1"] ∧
      t.frc = s.frc ∧ t.mems = s.mems ∧ t.pending = s.pending ∧ t.get F.SYS_ENGINE_STATE = 0 := by
  obtain ⟨hfrc, hmems, hpend, hwarm, -, hengine, -⟩ :=
    warmReset_done (s := s.lined) ((s.get_lined rfl).trans hhold) s.lined.strapBoot (.inr rfl)
  have hrec : s.lined.linkRecover = ((s.lined.warmReset F.SYS_RSTCAUSE_WARM s.lined.strapBoot).answered ["OK"]).enterRecovery := by
    rw [linkRecover, s.refusal_lined, href]
    rfl
  generalize s.lined.warmReset F.SYS_RSTCAUSE_WARM s.lined.strapBoot = w at hfrc hmems hpend hwarm hengine hrec
  have hkept : bootKept.contains F.SYS_RSTCAUSE_WARM.id = true ∧ bootKept.contains F.SYS_ENGINE_STATE.id = true := by decide
  obtain ⟨⟨rfrc, rmems, rpend, -, -, -⟩, rget⟩ := booting_enterRecovery (w.answered ["OK"])
  refine ⟨_, hrec, ?_, (rget _ hkept.1).trans hwarm, rfl, rfrc.trans hfrc, rmems.trans hmems, rpend.trans hpend,
    (rget _ hkept.2).trans hengine⟩
  have hphase : (((((w.answered ["OK"]).set I.BOOT_PH 2).set I.BOOT_SLOT 0).set I.RL_UNL 0).set I.RL_BAUD 115200).get I.BOOT_PH = 2 := by
    rw [get_set_other _ _ rfl, get_set_other _ _ rfl, get_set_other _ _ rfl, get_set_same]
    rfl
  exact hphase

theorem linkRecover_refused {s : State} {r : Nat} (href : s.refusal = some r) :
    s.lined.linkRecover = s.lined.answered ["ERR 03 " ++ reasonName r] := by
  rw [linkRecover, s.refusal_lined, href]
  exact say_first rfl _

/-- `CFG_STAGE` as the steward reads it. -/
theorem viewWord_stage (s : State) : s.lined.viewWord .steward 0x4000C = s.viewWord .steward 0x4000C := by
  have hview (u : State) : u.viewWord .steward 0x4000C = u.regWord 0x4000C := rfl
  have hkeep : s.KeepsNames s.lined [I.SL_NEW] := (keepsNames_set rfl 0).mpr fun _ _ => rfl
  rw [hview, hview, regWord_of_keeps hkeep (by decide +kernel)]

end State

open State in
/-- Settles O52, command by command; `RECOVER` by what a warm reset leaves. -/
theorem serviceLinkReportsComplete : Obligations.ServiceLinkReportsComplete := by
  unfold Obligations.ServiceLinkReportsComplete
  intro s hup
  have hgo {go : State → State} {u : State} (h : go s.lined = u) : s.linkLine go = u := (linkLine_up hup go).trans h
  refine ⟨fun n => ?_, fun n => ?_, ?_, fun k hk => ?_, ?_, ?_, fun hkind => ?_, fun n hn hfrozen => ?_, fun hfree => ?_,
    fun ds hsrc hlock hne hlen hmatch => ?_, fun hfree htrial hen => ?_, fun b hheld hbusy hact hhead hstage => ?_, ?_,
    fun u hheld hslot hpair href hhead hlead hu => ?_, fun hheld hrole => ?_, fun hheld htrial => ?_,
    fun k hheld htrial hhealthy hpair hhead hslot hk => ?_, fun hheld h1 h2 hact => ?_, ?_, fun href => ?_, fun r href => ?_⟩
  · have hsays : s.lined.linkDmeas n = s.lined.answered
        ["AOUT" ++ toString n.val ++ " READ " ++ voltStr (codeMicro (s.get (F.CUR_RES_CODE n)) 1) ++ " V", "OK"] := by
      rw [linkDmeas, s.get_lined rfl]
      rfl
    exact ⟨_, next_of_eq (hgo hsays), s.replies_lined _⟩
  · have hsays : s.lined.linkAin n = s.lined.answered ["AIN" ++ toString n.val ++ " " ++
        voltStr (codeMicro (s.get (F.CUR_RES_CODE (16 + n))) 1) ++ " V CODE " ++ hexStr 4 (s.get (F.CUR_RES_CODE (16 + n))), "OK"] := by
      rw [linkAin, s.get_lined rfl]
      rfl
    exact ⟨_, next_of_eq (hgo hsays), s.replies_lined _⟩
  · exact ⟨_, next_of_eq (hgo s.linkMon_says), s.replies_lined _⟩
  · exact ⟨_, next_of_eq (hgo (s.linkFaults_says fun h => hk (Fin.ext h))), s.replies_lined _⟩
  · obtain ⟨a, b, hsays⟩ : ∃ a b, s.lined.linkSpares = s.lined.answered [a, b, "OK"] := ⟨_, _, rfl⟩
    exact ⟨_, next_of_eq (hgo hsays), rfl, rfl, s.replies_lined _⟩
  · exact ⟨_, next_of_eq (hgo s.linkMap_says), s.replies_lined _⟩
  · exact ⟨_, next_of_eq (hgo (linkViol_says hkind)), s.replies_lined _⟩
  · have honly := onlyRegs_setFrozen_two s.lined hn false
    have hall : s.lined.OnlyRegs ((s.lined.setFrozen n false).unfreezeStatus stOK) [F.PRT_FROZEN_M 2, F.SYS_UNFREEZE_STATUS] := by
      obtain ⟨hrest, hkeep⟩ := onlyRegs_iff.mp honly
      exact onlyRegs_iff.mpr ⟨hrest, (keepsFields_set (by simp) _).mpr (hkeep.mono (by simp))⟩
    have hlined : s.lined.isFrozen n = true := (isFrozen_congr (fun w => s.get_lined (f := F.PRT_FROZEN_M w) rfl) n).trans hfrozen
    refine ⟨_, next_of_eq (hgo (linkUnfreeze_link hn hfrozen)), ?_, replies_of hall _⟩
    refine Eq.trans (isFrozen_congr (s := s.lined.setFrozen n false) (fun w => ?_) n) (isFrozen_clear s.lined hlined)
    rw [get_answered]
    exact get_set_other _ _ rfl
  · refine ⟨_, next_of_eq (hgo (linkCode_refused hfree _)), ?_, replies_of (onlyRegs_cfgStatus _ _ _) _⟩
    exact (get_answered _ _ _).trans ((get_set_other _ _ rfl).trans (get_set_same _ _ _))
  · have hlen' : (ds.map (fun d => d.val)).length ≤ 8 := by simpa using hlen
    have hall : s.lined.OnlyRegs (s.lined.set I.CFG_UNL 1).cfgOk [I.CFG_UNL, F.CFG_SESS_STATUS, F.CFG_SESS_REASON] := by
      simp [onlyRegs_iff, cfgOk, cfgStatus]
    refine ⟨_, next_of_eq (hgo (linkCode_right hsrc hlock (by simpa using hne) hlen' hmatch)), ?_, replies_of hall _⟩
    exact (get_answered _ _ _).trans ((get_cfgStatus _ _ _ rfl rfl).trans (get_set_same _ _ _))
  · obtain ⟨hsrc, hholder, hevt, -, hrest, hkeep⟩ := s.lined.sessAlone_facts .steward 1
    refine ⟨_, next_of_eq (hgo (linkOpen_free hfree htrial hen)), hsrc, hholder, rfl, hevt, ?_, eq_of_rest_answered hrest _,
      keepsFields_answered hkeep _⟩
    exact (congrArg (fun z : State => z.svc.drives) hrest :)
  · obtain ⟨hstate, hkeep, hframe⟩ := s.lined.byteStaged_facts b
    have heq := linkLoad_byte b hheld hbusy hact hhead hstage
    generalize s.lined.cfgOk.byteStaged b = v at hstate hkeep hframe heq
    have hpkg := congrArg (fun z : State => z.graft.pkg) hframe
    have hsvc := congrArg (fun z : State => ({ z.svc with out := ["ACK 0", "OK"] } : Service)) hframe
    replace hsvc : (v.answered ["ACK 0", "OK"]).svc = { s.svc with out := ["ACK 0", "OK"] } := hsvc
    refine ⟨_, next_of_eq (hgo heq), hpkg, hstate, rfl, ?_, keepsFields_answered hkeep _⟩
    rw [hsvc]
    exact congrArg (fun z : State => z.answered ["ACK 0", "OK"]) hframe
  · have hsays : (s.lined.say (hexStr 8 (s.lined.viewWord .steward 0x4000C))).sayOk =
        s.lined.answered [hexStr 8 (s.viewWord .steward 0x4000C), "OK"] := by
      rw [s.viewWord_stage]
      rfl
    exact ⟨_, next_of_eq (hgo hsays), s.replies_lined _⟩
  · have hevt : ∀ e, evCause 35 = some e → e.1 ∈ [F.CFG_ACT_FRC_LO_F, F.CFG_ACT_FRC_HI_F, F.CFG_ACT_STATE, F.CFG_ACT_REASON,
        F.CFG_SESS_STATUS, F.CFG_SESS_REASON, F.CFG_EVT_EVT] := by decide
    have hrest : ((s.lined.setF u).armedAlone).rest = s.lined.rest := by simp [armedAlone, cfgOk, cfgStatus, setF]
    have hactivation : ((s.lined.setF u).armedAlone).activationF = u := by
      refine Eq.trans ?_ (s.lined.activationF_setF hu)
      simp (disch := exact id rfl) only [activationF, pair, armedAlone, cfgOk, cfgStatus, get_raise_apart, get_set_other]
    refine ⟨_, next_of_eq (hgo (linkArm_ready hheld hslot hpair href hhead hlead hu)), ?_, hactivation, rfl,
      get_raise_bit (k := 3) _ rfl (by decide), ?_, eq_of_rest_answered hrest _, keepsFields_answered ?_ _⟩
    · refine (get_raise_apart _ rfl).trans ((get_cfgStatus _ _ _ rfl rfl).trans ?_)
      rw [get_set_other _ _ rfl, get_set_same]
      rfl
    · exact (congrArg (fun z : State => z.svc.drives) hrest :)
    · simp [armedAlone, cfgOk, cfgStatus, setF, keepsFields_raise hevt]
  · have hsays : (s.lined.actSet .steward 0x20).sayCfg = ((s.lined.set F.CFG_ACT_STATE 0).cfgOk).answered ["OK"] := by
      rw [actSet_disarms (holdsSession_lined hheld) ((s.get_lined rfl).trans hrole)]
      exact sayCfg_ok rfl (get_cfgOk_status _)
    have hall : s.lined.OnlyRegs (s.lined.set F.CFG_ACT_STATE 0).cfgOk [F.CFG_ACT_STATE, F.CFG_SESS_STATUS, F.CFG_SESS_REASON] := by
      simp [onlyRegs_iff, cfgOk, cfgStatus]
    refine ⟨_, next_of_eq (hgo hsays), ?_, replies_of hall _⟩
    exact (get_answered _ _ _).trans ((get_cfgStatus _ _ _ rfl rfl).trans (get_set_same _ _ _))
  · have hsays : (s.lined.trialSet .steward 0x80000000).sayCfg = (s.lined.cfgStatus stREFUSED 0).answered ["ERR 03"] := by
      rw [trialSet_refused (holdsSession_lined hheld) ((s.get_lined rfl).trans htrial)]
      exact sayCfg_refused rfl
    refine ⟨_, next_of_eq (hgo hsays), ?_, replies_of (onlyRegs_cfgStatus _ _ _) _⟩
    exact (get_answered _ _ _).trans ((get_set_other _ _ rfl).trans (get_set_same _ _ _))
  · obtain ⟨v, hcommit, hst, hrest, hflash, hactive, hkeep⟩ := trialSet_commits_facts (s := s.lined) (holdsSession_lined hheld)
      (by rwa [s.get_lined rfl]) (by rwa [s.get_lined rfl]) (s.pairHealthy_lined.trans hpair) ((s.get_lined rfl).trans hhead)
    have hout : v.svc.out = [] := (congrArg (fun z : State => z.svc.out) hrest :)
    have hboot : s.lined.bootSlot = k := (s.get_lined rfl).trans hslot
    have hsays : (s.lined.trialSet .steward 0x80000000).sayCfg = v.answered ["OK"] := by
      rw [hcommit]
      exact sayCfg_ok hout hst
    refine ⟨_, next_of_eq (hgo hsays), ?_, hactive, rfl, ?_, keepsNames_answered hkeep _⟩
    · have hslots : (v.answered ["OK"]).flash = s.lined.slotCommitted.flash := hflash
      rw [hslots, slotCommitted, hboot]
      exact congrArg ImgSlot.state (slot_setSlot s.flash hk _).1
    · have hslots : (v.answered ["OK"]).flash = s.lined.slotCommitted.flash := hflash
      rw [hslots]
      exact eq_of_rest_answered hrest _
  · have hevt : ∀ e, evCause 32 = some e → e.1 ∈ [F.CFG_SESS_SRC, F.CFG_SESS_HOLDER, I.CFG_UNL, F.CFG_SESS_STATUS,
        F.CFG_SESS_REASON, F.CFG_EVT_EVT] := by decide
    have hrest : s.lined.sessClosed.rest = s.lined.rest := by simp [sessClosed, cfgOk, cfgStatus]
    have hout : s.lined.sessClosed.svc.out = [] := (congrArg (fun z : State => z.svc.out) hrest :)
    have hsays : (s.lined.sessClose .steward).sayCfg = s.lined.sessClosed.answered ["OK"] := by
      rw [sessClose_idle (holdsSession_lined hheld) (by rwa [s.get_lined rfl]) (by rwa [s.get_lined rfl])
        ((s.get_lined rfl).trans hact)]
      exact sayCfg_ok hout (get_cfgOk_status _)
    refine ⟨_, next_of_eq (hgo hsays), ?_, rfl, ?_, eq_of_rest_answered hrest _, keepsFields_answered ?_ _⟩
    · rw [get_answered]
      refine (get_cfgStatus _ _ _ rfl rfl).trans ((get_raise_apart _ rfl).trans ?_)
      rw [get_set_other _ _ rfl, get_set_other _ _ rfl, get_set_same]
      rfl
    · exact (congrArg (fun z : State => z.svc.drives) hrest :)
    · simp [sessClosed, cfgOk, cfgStatus, keepsFields_raise hevt]
  · obtain ⟨a, b, c, hsays⟩ : ∃ a b c, s.lined.linkInfo = s.lined.answered [a, b, c, "OK"] := ⟨_, _, _, rfl⟩
    exact ⟨_, next_of_eq (hgo hsays), rfl, rfl, s.replies_lined _⟩
  · obtain ⟨t, hrec, hfacts⟩ := linkRecover_free (firmwareUp_supplied hup) href
    exact ⟨t, next_of_eq (hgo hrec), hfacts⟩
  · exact ⟨_, next_of_eq (hgo (linkRecover_refused href)), s.replies_lined _⟩

end Sys2Proof.Machine
end

section
/-! What the passing of samples and a tick leave of the machine (R15, R62): the places they do not write, function by
function. -/

namespace Sys2Proof.Machine

namespace State

/-! ### The part of the machine that is left -/

/-- The machine without the deliveries due, its register file cut to the listed places. -/
def cut (ids : List Nat) (s : State) : State := { s with regs := s.regs.filter (fun e => ids.contains e.1.1), toDeliver := [] }

/-- The machine without what samples and ticks change, its register file cut to the listed places. -/
def kept (ids : List Nat) (s : State) : State :=
  { s.cut ids with
    free := 0, cores := [], orchard := [], orcFlaws := [], dirty := [], qn := State.reset.qn, faults := [],
    vm := State.reset.vm, scn := State.reset.scn, routes := [], hold := [],
    twin := { State.reset.twin with items := s.twin.items } }

theorem kept_of_cut {ids : List Nat} {s t : State} (h : t.cut ids = s.cut ids) : t.kept ids = s.kept ids :=
  congrArg (fun u : State => { u with
    free := 0, cores := [], orchard := [], orcFlaws := [], dirty := [], qn := State.reset.qn, faults := [],
    vm := State.reset.vm, scn := State.reset.scn, routes := [], hold := [],
    twin := { State.reset.twin with items := u.twin.items } }) h

theorem filter_tabDel {K V : Type} [DecidableEq K] (p : K × V → Bool) {k : K} (h : ∀ v, p (k, v) = false) (l : List (K × V)) :
    (tabDel k l).filter p = l.filter p := by
  unfold tabDel
  rw [List.filter_filter]
  refine List.filter_congr fun e _ => ?_
  obtain ⟨a, v⟩ := e
  by_cases ha : a = k
  · subst ha
    simp [h]
  · simp [ha]

theorem filter_tabIns {K V : Type} (lt : K → K → Bool) (p : K × V → Bool) {k : K} {v : V} (h : p (k, v) = false) (l : List (K × V)) :
    (tabIns lt k v l).filter p = l.filter p := by
  induction l with
  | nil => simp [tabIns, h]
  | cons e l ih =>
    unfold tabIns
    split
    · rw [List.filter_cons, if_neg (by simp [h])]
    · rw [List.filter_cons, List.filter_cons, ih]

/-- A change of the link that leaves its items. -/
theorem kept_twin (ids : List Nat) (s : State) {x : Twin} (h : x.items = s.twin.items) :
    ({ s with twin := x } : State).kept ids = s.kept ids :=
  congrArg (fun l : List MItem => { s.kept ids with twin := { State.reset.twin with items := l } }) h

/-- A write outside the listed places. -/
theorem cut_set {ids : List Nat} {f : Fld} (h : ids.contains f.id = false) (s : State) (v : Nat) : (s.set f v).cut ids = s.cut ids := by
  have hregs : (s.set f v).regs.filter (fun e => ids.contains e.1.1) = s.regs.filter (fun e => ids.contains e.1.1) := by
    unfold set tabSet
    dsimp only
    split
    · exact filter_tabDel _ (fun _ => h) _
    · rw [filter_tabIns _ _ h, filter_tabDel _ (fun _ => h)]
  exact congrArg (fun l : Regs => { s with regs := l, toDeliver := [] }) hregs

theorem kept_set {ids : List Nat} {f : Fld} (h : ids.contains f.id = false) (s : State) (v : Nat) : (s.set f v).kept ids = s.kept ids :=
  kept_of_cut (cut_set h s v)

theorem kept_ite (ids : List Nat) (c : Prop) [Decidable c] (a b : State) :
    (if c then a else b).kept ids = if c then a.kept ids else b.kept ids := apply_ite (kept ids) c a b

theorem kept_foldl {ids : List Nat} {α : Type} {g : State → α → State} (h : ∀ t x, (g t x).kept ids = t.kept ids) (l : List α)
    (s : State) : (l.foldl g s).kept ids = s.kept ids := by
  induction l generalizing s with
  | nil => rfl
  | cons x l ih => exact (ih _).trans (h s x)

theorem get_of_kept_regs {ids : List Nat} {s t : State} (h : (t.kept ids).regs = (s.kept ids).regs) {f : Fld}
    (hf : ids.contains f.id = true) : t.get f = s.get f := by
  have hcut (u : State) : tabGet f.rst (u.kept ids).regs (f.id, f.ix) = u.get f :=
    tabGet_filter_same _ fun _ _ hkey => hkey ▸ hf
  rw [← hcut t, ← hcut s, h]

theorem get_of_kept {ids : List Nat} {s t : State} (h : t.kept ids = s.kept ids) {f : Fld} (hf : ids.contains f.id = true) :
    t.get f = s.get f := get_of_kept_regs (congrArg State.regs h) hf

theorem cut_notify (ids : List Nat) (s : State) (n : Nat) (b : Bool) : (s.notify n b).cut ids = s.cut ids := by
  unfold notify
  split <;> rfl

/-- An event whose field is not listed. -/
theorem cut_raiseBits {ids : List Nat} {n : Nat} (h : (evCause n).all (fun e => !ids.contains e.1.id) = true) (s : State) (c : Nat) :
    (s.raiseBits n c).cut ids = s.cut ids := by
  unfold raiseBits
  split
  next f m he =>
    rw [he] at h
    rw [cut_notify]
    exact cut_set (by simpa using h) s _
  · rfl

theorem cut_raise {ids : List Nat} {n : Nat} (h : (evCause n).all (fun e => !ids.contains e.1.id) = true) (s : State) :
    (s.raise n).cut ids = s.cut ids := by
  unfold raise
  split
  · exact cut_raiseBits h s _
  · rfl

/-- Beside events 1 and 8 to 14 every event's field is another than those listed. -/
def quiet (ids : List Nat) : Bool :=
  (List.range 256).all (fun n => n == 1 || (8 ≤ n && n < 15) || (evCause n).all (fun e => !ids.contains e.1.id))

theorem evCause_quiet {ids : List Nat} (h : quiet ids = true) {n : Nat} (h1 : n ≠ 1) (h2 : n < 8 ∨ 15 ≤ n) :
    (evCause n).all (fun e => !ids.contains e.1.id) = true := by
  by_cases hn : n < 256
  · have hat := List.all_eq_true.mp h n (List.mem_range.mpr hn)
    simp only [Bool.or_eq_true, beq_iff_eq, Bool.and_eq_true, decide_eq_true_eq] at hat
    rcases hat with (h' | h') | h'
    · exact absurd h' h1
    · omega
    · exact h'
  · have hnone : evCause n = none := by
      simp (disch := omega) only [evCause, if_neg]
    rw [hnone]
    rfl

end State
end Sys2Proof.Machine
end

section
/-! What the passing of samples leaves: the register functions of the ports, the timers and the pins. -/
namespace Sys2Proof.Machine

namespace State

/-! ### What samples leave -/

/-- The places that no sample writes: the rate in effect, the tick, the engine, and what the deadline looks at. -/
def passIds : List Nat :=
  [I.TICKED.id, I.RATE_B.id, I.RATE_M.id, I.RATE_F.id, F.CLK_EVT_EVT.id, F.SYS_ENGINE_STATE.id, F.SYS_ENGINE_OVR.id,
    F.QN_OVRCNT_N.id, F.QN_DEADLINE_V.id, I.QN_ARMBLK.id, I.QN_OVRBLK.id, (I.PIP_ARM 0).id, (I.PIP_BLK 0).id,
    (I.PIP_DONE 0).id, (I.PIP_OVM 0).id, (F.PIP14_LASTBLK 0).id, (F.PIP1_SINK 0).id, (F.PIP1_CLASS 0).id]

/-- What the clocks of the ports, the transmitters and the timers leave as samples pass. -/
def tended (s : State) : State := s.cut passIds

theorem tended_set {f : Fld} (h : passIds.contains f.id = false) (s : State) (v : Nat) : (s.set f v).tended = s.tended := cut_set h s v
theorem tended_flag {f : Fld} (h : passIds.contains f.id = false) (s : State) (b : Bool) : (s.flag f b).tended = s.tended := cut_set h s _
theorem tended_notify (s : State) (n : Nat) (b : Bool) : (s.notify n b).tended = s.tended := cut_notify passIds s n b

theorem passIds_quiet : quiet passIds = true := by decide +kernel

theorem tended_raiseBits (s : State) {n : Nat} (h1 : n ≠ 1) (h2 : n < 8 ∨ 15 ≤ n) (c : Nat) : (s.raiseBits n c).tended = s.tended :=
  cut_raiseBits (evCause_quiet passIds_quiet h1 h2) s c

theorem tended_raise (s : State) {n : Nat} (h1 : n ≠ 1) (h2 : n < 8 ∨ 15 ≤ n) : (s.raise n).tended = s.tended :=
  cut_raise (evCause_quiet passIds_quiet h1 h2) s

theorem tended_raiseTmr (s : State) (n c : Nat) : (s.raiseCause (128 + n) c).tended = s.tended :=
  s.tended_raiseBits (by omega) (by omega) _

theorem tended_ite (c : Prop) [Decidable c] (a b : State) : (if c then a else b).tended = if c then a.tended else b.tended :=
  apply_ite tended c a b

theorem tended_foldl {α : Type} {g : State → α → State} (h : ∀ t x, (g t x).tended = t.tended) (l : List α) (s : State) :
    (l.foldl g s).tended = s.tended := by
  induction l generalizing s with
  | nil => rfl
  | cons x l ih => exact (ih _).trans (h s x)

theorem tended_unclaimBut (s : State) (fid : Nat) (keep : List Nat) : (s.unclaimBut fid keep).tended = s.tended := by
  have hregs : (s.unclaimBut fid keep).regs.filter (fun e => passIds.contains e.1.1) = s.regs.filter (fun e => passIds.contains e.1.1) := by
    unfold unclaimBut
    dsimp only
    rw [List.filter_filter]
    refine List.filter_congr fun e _ => ?_
    by_cases he : e.1.1 = (F.SYS_CLAIM_OWNER 0).id
    · rw [he]
      rfl
    · simp [he]
  exact congrArg (fun l : Regs => { s.tended with regs := l }) hregs

theorem tended_unclaimAll (s : State) (fid : Nat) : (s.unclaimAll fid).tended = s.tended := by
  have hregs : (s.unclaimAll fid).regs.filter (fun e => passIds.contains e.1.1) = s.regs.filter (fun e => passIds.contains e.1.1) := by
    unfold unclaimAll
    dsimp only
    rw [List.filter_filter]
    refine List.filter_congr fun e _ => ?_
    by_cases he : e.1.1 = (F.SYS_CLAIM_OWNER 0).id
    · rw [he]
      rfl
    · simp [he]
  exact congrArg (fun l : Regs => { s.tended with regs := l }) hregs

theorem tended_setWords {f : Nat → Fld} (h : ∀ k, passIds.contains (f k).id = false) (s : State) (ws : List Nat) :
    (s.setWords f ws).tended = s.tended :=
  tended_foldl (g := fun (t : State) (e : Nat × Nat) => t.set (f e.2) e.1) (fun t e => tended_set (h e.2) t e.1) _ s

theorem tended_mdlEntry (s : State) (fault unit inst : Nat) (perm : Bool) (action wcount detail logical : Nat) :
    (s.mdlEntry fault unit inst perm action wcount detail logical).tended = s.tended := by
  have hraise (u : State) : (u.raise (if perm then 25 else 24)).tended = u.tended := by
    split
    · exact u.tended_raise (by decide) (by decide)
    · exact u.tended_raise (by decide) (by decide)
  unfold mdlEntry
  dsimp only
  rw [hraise]
  simp (disch := exact id rfl) only [tended_ite, tended_set, ite_self]
  exact tended_setWords (fun _ => rfl) s _

theorem tended_refDrop (s : State) (kind inst : Nat) : (s.refDrop kind inst).tended = s.tended := by
  refine tended_foldl (fun t i => ?_) _ s
  split
  · exact tended_set rfl _ _
  · rfl

theorem tended_outputWraps (s : State) (t : Nat) : (s.outputWraps t).tended = s.tended := by
  have hdividers (u : State) : ((List.range 8).foldl (fun s n =>
      if s.get (F.CLK_MCLKO_STATE n) = unitON ∧ 64 * t / 2 ^ s.get (I.MCLKO_DIV n) ≠ 64 * s.tclk / 2 ^ s.get (I.MCLKO_DIV n) then
        s.set (I.MCLKO_DIV n) (s.get (F.CLK_MCLKO_DIV n)) else s) u).tended = u.tended := by
    refine tended_foldl (fun v n => ?_) _ u
    split
    · exact tended_set rfl _ _
    · rfl
  unfold outputWraps
  dsimp only
  rw [tended_ite, tended_set rfl, ite_self]
  exact hdividers s

/-! ### Damson's clear level -/

theorem tended_dmsRamp (s : State) (n dir : Nat) : (s.dmsRamp n dir).tended = s.tended := by
  simp (disch := exact id rfl) only [dmsRamp, tended_set]

theorem tended_dmsSlewTo (s : State) (n v : Nat) : (s.dmsSlewTo n v).tended = s.tended := by
  simp (disch := exact id rfl) only [dmsSlewTo, dmsSlewAt, tended_set, tended_flag]

theorem tended_dmsRetarget (s : State) (n code : Nat) : (s.dmsRetarget n code).tended = s.tended := by
  unfold dmsRetarget
  simp (disch := exact id rfl) only [tended_ite, tended_dmsSlewTo, tended_set, ite_self]

theorem tended_dmsForce (s : State) (n : Nat) : (s.dmsForce n).tended = s.tended := by
  unfold dmsForce
  simp (disch := exact id rfl) only [tended_ite, tended_dmsRamp, tended_flag, tended_dmsRetarget, ite_self]

theorem tended_dacclrRefresh (s : State) : s.dacclrRefresh.tended = s.tended := by
  have hlevel (b : Bool) : (s.dmsClrLevel b).tended = s.tended := by
    unfold dmsClrLevel
    rw [tended_foldl (fun t n => t.tended_dmsForce n), tended_flag rfl, tended_flag rfl]
  unfold dacclrRefresh
  rw [tended_ite, hlevel, ite_self]

/-! ### Ports, receivers and transmitters -/

theorem tended_losing (s : State) (es : List Nat) {f : State → State} (h : ∀ u, (f u).tended = u.tended) :
    (s.losing es f).tended = s.tended := by
  unfold losing
  dsimp only
  refine (tended_foldl (fun u e => ?_) _ _).trans (h s)
  split
  · rw [tended_raise _ (by decide) (by decide), tended_set rfl, tended_set rfl]
  · rfl

theorem tended_asrcDrop (s : State) (c : Nat) : (s.asrcDrop c).tended = s.tended := by
  unfold asrcDrop
  simp (disch := exact id rfl) only [tended_ite, tended_set, ite_self]

theorem tended_asrcRamp (s : State) (c : Nat) : (s.asrcRamp c).tended = s.tended := by
  unfold asrcRamp
  simp (disch := exact id rfl) only [tended_ite, tended_set, ite_self]

theorem tended_asrcRamps (s : State) : s.asrcRamps.tended = s.tended := tended_foldl (fun t c => t.tended_asrcRamp c) _ s

theorem tended_aesRamp (s : State) (r u : Nat) : (s.aesRamp r u).tended = s.tended := tended_set rfl _ _

theorem tended_aesRamps (s : State) : s.aesRamps.tended = s.tended :=
  tended_foldl (fun t r => ((t.aesRamp r 0).tended_aesRamp r 1).trans (t.tended_aesRamp r 0)) _ s

theorem tended_apShut (s : State) (n : Nat) : (s.apShut n).tended = s.tended := by
  refine s.tended_losing _ fun u => ?_
  simp only [List.foldl_cons, List.foldl_nil]
  rw [tended_set rfl, tended_set rfl, tended_set rfl, tended_set rfl, tended_refDrop, asrcDropAll,
    tended_foldl (fun t c => t.tended_asrcDrop c), tended_set rfl]

theorem tended_apLeadIn (s : State) (n m : Nat) : (s.apLeadIn n m).tended = s.tended := by
  unfold apLeadIn
  simp (disch := exact id rfl) only [tended_ite, tended_set, ite_self]

theorem tended_apFrame (s : State) (n m k : Nat) : (s.apFrame n m k).tended = s.tended := by
  unfold apFrame
  simp (disch := exact id rfl) only [tended_ite, tended_set, tended_flag, tended_apShut, tended_apLeadIn, ite_self]

theorem tended_apPass (s : State) (m t0 t1 : Nat) : (s.apPass m t0 t1).tended = s.tended := by
  refine tended_foldl (fun t n => ?_) _ s
  simp (disch := exact id rfl) only [tended_ite, tended_apFrame, tended_set, ite_self]

theorem tended_txPass (s : State) (t0 t1 : Nat) : (s.txPass t0 t1).tended = s.tended := by
  refine tended_foldl (fun t n => ?_) _ s
  simp (disch := exact id rfl) only [tended_ite, tended_flag, tended_set, ite_self]

/-! ### Timers -/

theorem tended_set_compare (s : State) (n : Nat) (b : Bool) (v : Nat) :
    (s.set (cmpMatched n b) v).tended = s.tended ∧ (s.set (cmpSoft n b) v).tended = s.tended ∧
    (s.set (cmpLive n b) v).tended = s.tended ∧ (s.set (cmpPend n b) v).tended = s.tended ∧ (s.set (cmpFlag n b) v).tended = s.tended := by
  cases b <;> exact ⟨tended_set rfl s v, tended_set rfl s v, tended_set rfl s v, tended_set rfl s v, tended_set rfl s v⟩

theorem tended_set_matched (s : State) (n : Nat) (b : Bool) (v : Nat) : (s.set (cmpMatched n b) v).tended = s.tended :=
  (s.tended_set_compare n b v).1
theorem tended_set_soft (s : State) (n : Nat) (b : Bool) (v : Nat) : (s.set (cmpSoft n b) v).tended = s.tended :=
  (s.tended_set_compare n b v).2.1
theorem tended_set_live (s : State) (n : Nat) (b : Bool) (v : Nat) : (s.set (cmpLive n b) v).tended = s.tended :=
  (s.tended_set_compare n b v).2.2.1
theorem tended_set_pend (s : State) (n : Nat) (b : Bool) (v : Nat) : (s.set (cmpPend n b) v).tended = s.tended :=
  (s.tended_set_compare n b v).2.2.2.1
theorem tended_set_flag (s : State) (n : Nat) (b : Bool) (v : Nat) : (s.set (cmpFlag n b) v).tended = s.tended :=
  (s.tended_set_compare n b v).2.2.2.2

theorem tended_tmLevel (s : State) (n act : Nat) : (s.tmLevel n act).tended = s.tended := tended_set rfl s _

theorem tended_cmpLap (s : State) (n : Nat) (b : Bool) : (s.cmpLap n b).tended = s.tended := by
  unfold cmpLap
  simp only [tended_ite, tended_set_matched, tended_set_soft, tended_set_live, tended_set_flag, ite_self]

theorem tended_cmpMatch (s : State) (n : Nat) (b : Bool) (c : Nat) : (s.cmpMatch n b c).tended = s.tended := by
  unfold cmpMatch
  simp only [tended_ite, tended_set_matched, tended_set_live, tended_set_pend, tended_set_flag, tended_raiseTmr, tended_tmLevel, ite_self]

theorem tended_lapOne (s : State) (n : Nat) : (s.lapOne n).tended = s.tended := by
  unfold lapOne
  simp (disch := exact id rfl) only [tended_raiseTmr, tended_tmLevel, tended_cmpLap, tended_set]

theorem tended_tmStep (s : State) (k : Nat) : (s.tmStep k).tended = s.tended := by
  unfold tmStep
  simp (disch := exact id rfl) only [tended_cmpMatch, tended_ite, tended_lapOne, tended_set, ite_self]

theorem tended_tmSteps (ks : List Nat) (s : State) : (tmSteps ks s).tended = s.tended := by
  induction ks generalizing s with
  | nil => rfl
  | cons k ks ih =>
    rw [tmSteps, tended_ite, ih, tended_tmStep, ite_self]

theorem tended_tmAll (s : State) (n st : Nat) : (s.tmAll n st).tended = s.tended := tended_foldl (fun t _ => tended_set rfl t _) _ s

theorem tended_tmStarting (s : State) (n t : Nat) : (s.tmStarting n t).tended = s.tended := by
  unfold tmStarting
  simp only [List.foldl_cons, List.foldl_nil]
  rw [tended_set rfl, tended_set rfl, tended_set rfl, tended_foldl (fun t _ => tended_set rfl t _), tended_tmAll]

theorem tended_tmStartOne (s : State) (k t : Nat) : (s.tmStartOne k t).tended = s.tended := by
  have hflag (u : State) (b : Bool) (c : Bool) : (u.flag (cmpMatched k b) c).tended = u.tended := u.tended_set_matched k b _
  unfold tmStartOne
  simp (disch := exact id rfl) only [List.foldl_cons, List.foldl_nil, tended_raiseTmr, hflag, tended_set]

theorem tended_tmStart (s : State) (n t : Nat) : (s.tmStart n t).tended = s.tended := by
  unfold tmStart
  rw [tended_ite, tended_foldl (fun u k => u.tended_tmStartOne k t), ite_self]

theorem tended_tmOff (s : State) (n t : Nat) : (s.tmOff n t).tended = s.tended := by
  unfold tmOff
  dsimp only
  rw [tended_ite, tended_tmStarting, tended_unclaimBut, tended_unclaimAll, tended_tmAll, ite_self]
  refine tended_foldl (fun u k => ?_) _ s
  rw [tended_raiseTmr, tended_set rfl, tended_set rfl, tended_set rfl, tended_set rfl]

theorem tended_tmHappens (s : State) (n t : Nat) : (s.tmHappens n t).tended = s.tended := by
  unfold tmHappens
  simp (disch := exact id rfl) only [tended_ite, tended_tmStart, tended_tmOff, tended_tmSteps, tended_set, ite_self]

theorem tended_tmRun (n t fuel : Nat) (s : State) : (tmRun n t fuel s).tended = s.tended := by
  induction fuel generalizing s with
  | zero => rfl
  | succ fuel ih =>
    unfold tmRun
    split
    · rw [tended_ite, ih, tended_tmHappens, ite_self]
    · rfl

theorem tended_tmRunTo (s : State) (n t : Nat) : (s.tmRunTo n t).tended = s.tended := tended_tmRun n t _ s

theorem tended_tmCapture (s : State) (n t : Nat) : (s.tmCapture n t).tended = s.tended := by
  have hcount (full : Bool) (k c : Nat) (u : State) : (u.set (if full then F.TMR_CAPT_PEND_V k else F.TMR_CAPT_V k) c).tended = u.tended := by
    cases full <;> exact tended_set rfl u c
  unfold tmCapture
  simp (disch := exact id rfl) only [tended_ite, tended_raiseTmr, tended_set, tended_foldl (fun u k => hcount _ k _ u), ite_self]

theorem tended_tmPass (s : State) (m t0 t1 : Nat) (src : Nat → List Nat) : (s.tmPass m t0 t1 src).tended = s.tended := by
  have hgroup (u : State) (g t : Nat) : (u.tmGroupGo g t).tended = u.tended := by
    rw [tmGroupGo, tended_set rfl, tended_foldl (fun v n => v.tended_tmStart n t)]
  unfold tmPass
  dsimp only
  refine (tended_foldl (fun u n => ?_) _ _).trans (tended_foldl (fun u g => hgroup u g t0) _ s)
  rw [tended_tmRunTo]
  refine tended_foldl (fun v t => ?_) _ u
  rw [tended_tmCapture, tended_tmRunTo]

/-! ### Pins and the PCLK domain -/

theorem tended_uartDrives (s : State) : s.uartDrives.tended = s.tended := by
  refine tended_foldl (fun t n => ?_) _ s
  simp (disch := exact id rfl) only [tended_ite, tended_flag, ite_self]

theorem tended_displayPeak (s : State) (m tpk t : Nat) : (s.displayPeak m tpk t).tended = s.tended := by
  unfold displayPeak
  simp (disch := exact id rfl) only [tended_ite, tended_set, ite_self]

theorem tended_live60 (s : State) : s.live60.tended = s.tended := tended_flag rfl s _

theorem tended_gpTimers (s : State) : s.gpTimers.tended = s.tended := by
  refine tended_foldl (fun t n => ?_) _ s
  have hedge (u : State) (b : Bool) : (u.gpEdge n b).tended = u.tended := by
    unfold gpEdge
    simp (disch := exact id rfl) only [tended_ite, tended_notify, tended_set, ite_self]
  unfold gpChanged
  simp (disch := exact id rfl) only [tended_ite, hedge, tended_flag, ite_self]

theorem tended_pclkRun (s : State) (n : Nat) : (s.pclkRun n).tended = s.tended := tended_set rfl s _

end State
end Sys2Proof.Machine
end

section
namespace Sys2Proof.Machine
namespace State

/-! ### What samples leave of all else -/

/-- What the passing of samples leaves. -/
def passed (s : State) : State := s.kept passIds

theorem passed_of_tended {s t : State} (h : t.tended = s.tended) : t.passed = s.passed := kept_of_cut h

theorem passed_set {f : Fld} (h : passIds.contains f.id = false) (s : State) (v : Nat) : (s.set f v).passed = s.passed := kept_set h s v
theorem passed_flag {f : Fld} (h : passIds.contains f.id = false) (s : State) (b : Bool) : (s.flag f b).passed = s.passed := kept_set h s _
theorem passed_bump {f : Fld} (h : passIds.contains f.id = false) (s : State) (n : Nat) : (s.bump f n).passed = s.passed := kept_set h s _

theorem passed_raise (s : State) {n : Nat} (h1 : n ≠ 1) (h2 : n < 8 ∨ 15 ≤ n) : (s.raise n).passed = s.passed :=
  passed_of_tended (s.tended_raise h1 h2)

theorem passed_ite (c : Prop) [Decidable c] (a b : State) : (if c then a else b).passed = if c then a.passed else b.passed :=
  kept_ite passIds c a b

theorem passed_foldl {α : Type} {g : State → α → State} (h : ∀ t x, (g t x).passed = t.passed) (l : List α) (s : State) :
    (l.foldl g s).passed = s.passed := kept_foldl h l s

theorem passed_mdlFault (s : State) (fault unit inst : Nat) (ok : Bool) (tact pact detail logical : Nat) :
    (s.mdlFault fault unit inst ok tact pact detail logical).passed = s.passed := by
  have hwindow (c : Prop) [Decidable c] (l : List (Nat × Nat × Nat)) : (if c then { s with faults := l } else s).passed = s.passed := by
    split <;> rfl
  unfold mdlFault
  dsimp only
  split
  · exact hwindow _ _
  · rw [passed_of_tended (tended_mdlEntry _ _ _ _ _ _ _ _ _)]
    exact hwindow _ _

theorem passed_sendFrame (s : State) (kind tick : Nat) (item : Option MirrorItem) (words : List Nat) :
    (s.sendFrame kind tick item words).passed = s.passed := by
  unfold sendFrame
  dsimp only
  rw [passed_set rfl]
  exact kept_twin passIds s rfl

/-! ### Meters -/

theorem passed_raiseOver (s : State) : (s.raise 220).passed = s.passed := s.passed_raise (by decide) (by decide)

theorem passed_meterTake (s : State) (m : Nat) (x : Int) (now : Nat) : (s.meterTake m x now).passed = s.passed := by
  unfold meterTake
  dsimp only [fresh]
  rw [passed_ite, passed_set rfl, ite_self, passed_ite, passed_ite, passed_raiseOver, passed_set rfl, ite_self, passed_bump rfl, ite_self,
    passed_of_tended (tended_displayPeak _ _ _ _), passed_set rfl, passed_set rfl, passed_set rfl, passed_set rfl]
  rfl

theorem passed_meterSample (s : State) (m i : Nat) (landing : Bool) : (s.meterSample m i landing).passed = s.passed :=
  passed_foldl (fun t k => t.passed_meterTake k _ _) _ s

/-! ### Orchard's errors and repairs -/

theorem passed_orcWrite (s : State) (cs : List Host.Cell) : (s.orcWrite cs).passed = s.passed := rfl

theorem passed_raise21 (s : State) : (s.raise 21).passed = s.passed := s.passed_raise (by decide) (by decide)
theorem passed_raise27 (s : State) : (s.raise 27).passed = s.passed := s.passed_raise (by decide) (by decide)

theorem passed_orcUncorrectable (s : State) (off lanes : Nat) : (s.orcUncorrectable off lanes).passed = s.passed := by
  unfold orcUncorrectable
  simp (disch := exact id rfl) only [passed_raise21, passed_set, passed_bump]

theorem passed_syncSpares (s : State) : s.syncSpares.passed = s.passed := by
  simp (disch := exact id rfl) only [syncSpares, passed_set]

theorem passed_dropLoan (s : State) (n : Nat) : (s.dropLoan n).passed = s.passed := by
  unfold dropLoan
  simp (disch := exact id rfl) only [passed_ite, passed_set, ite_self]

theorem passed_repairLoan (s : State) (n : Nat) : (s.repairLoan n).passed = s.passed := by
  have hretire (u : State) : (u.retireBank n).passed = u.passed := by
    unfold retireBank
    simp (disch := exact id rfl) only [passed_syncSpares, passed_raise27, passed_set]
  have hlend (u : State) (p : Nat) : (u.lend n p).passed = u.passed := by
    unfold lend
    simp (disch := exact id rfl) only [passed_syncSpares, passed_set]
  have hdrop (c : Prop) [Decidable c] (k : Nat) : (if c then s.dropLoan k else s).passed = s.passed := by
    rw [passed_ite, passed_dropLoan, ite_self]
  unfold repairLoan
  dsimp only
  generalize hu : (if (s.freeBanks = [] ∨ s.get I.LOAN_N - 1 = n) ∧ s.get I.LOAN_N ≠ 0 then s.dropLoan (s.get I.LOAN_N - 1) else s) = u
  have hpassed : u.passed = s.passed := hu ▸ hdrop _ _
  split
  · exact hpassed
  · split
    · rw [hlend, passed_set rfl, passed_set rfl, passed_set rfl]
      exact hpassed
    · rw [passed_ite, hretire, passed_set rfl, ite_self]
      exact hpassed

theorem passed_bankRepair (s : State) (n : Nat) (test : Bool) : (s.bankRepair n test).passed = s.passed := by
  have hfails (u : State) : (u.standInFails n).passed = u.passed := by
    unfold standInFails loanEnd
    simp (disch := exact id rfl) only [passed_syncSpares, passed_ite, passed_set, ite_self]
  have hnext (u : State) : u.loanNext.passed = u.passed := by
    unfold loanNext
    split
    · rfl
    · split
      · exact u.passed_repairLoan _
      · rfl
  unfold bankRepair
  simp (disch := exact id rfl) only [passed_ite, hnext, passed_flag, passed_set, hfails, ite_self]

theorem passed_bankFault (s : State) (fault off : Nat) : (s.bankFault fault off).passed = s.passed := by
  unfold bankFault
  simp only [passed_ite, passed_bankRepair, passed_mdlFault, ite_self]

theorem passed_meetOrcWord (s : State) (w : Nat) : (s.meetOrcWord w).passed = s.passed := by
  have hflaws (l : List Flaw) : ({ s with orcFlaws := l } : State).passed = s.passed := rfl
  unfold meetOrcWord
  simp (disch := exact id rfl) only [passed_ite, passed_bankFault, passed_orcUncorrectable, passed_bump, hflaws, ite_self]

theorem passed_meetOrc (s : State) (off n : Nat) : (s.meetOrc off n).passed = s.passed := passed_foldl (fun t w => t.passed_meetOrcWord w) _ s

theorem passed_meetBramble (s : State) (es : List Nat) (m : Nat) : (s.meetBramble es m).passed = s.passed := by
  unfold meetBramble
  rw [passed_ite, passed_foldl (fun t a => t.passed_meetOrc a 4), ite_self]

/-! ### Bramble -/

theorem passed_setRoute (s : State) (d : Nat) (r : Route) : (s.setRoute d r).passed = s.passed := rfl

theorem passed_takeChange (s : State) (d S w m : Nat) : (s.takeChange d S w m).passed = s.passed := by
  have hcross (u : State) : (u.raise 68).passed = u.passed := u.passed_raise (by decide) (by decide)
  unfold takeChange
  simp (disch := exact id rfl) only [passed_ite, passed_setRoute, hcross, passed_bump, ite_self]

theorem passed_routeSample (s : State) (d m : Nat) (zero : Bool) (tail : Option (Nat × Nat)) :
    (s.routeSample d m zero tail).passed = s.passed := by
  unfold routeSample
  dsimp only
  rw [passed_setRoute]
  split
  · rw [passed_ite, passed_takeChange, ite_self]
  · rfl

theorem passed_recordIn (s : State) (m : Nat) : (s.recordIn m).passed = s.passed := by
  unfold recordIn
  split <;> rfl

theorem passed_landSample (s : State) (m : Nat) : (s.landSample m).passed = s.passed := by
  unfold landSample
  dsimp only
  refine (passed_foldl (fun u q => ?_) _ _).trans (passed_foldl (fun u d => u.passed_routeSample d m false none) _ s)
  rw [passed_ite, passed_orcWrite, ite_self]

theorem passed_drainSample (s : State) (m : Nat) (fed : Bool) (tail : Option (Nat × Nat)) : (s.drainSample m fed tail).passed = s.passed := by
  unfold drainSample drainRing
  rw [passed_ite, passed_orcWrite, ite_self, passed_foldl (fun u d => u.passed_routeSample d m _ tail)]

theorem passed_countMoves (s : State) (sb : Bool) : (s.countMoves sb).passed = s.passed := by
  unfold countMoves
  simp (disch := exact id rfl) only [passed_set]

theorem passed_audioSend (s : State) (m : Nat) : (s.audioSend m).passed = s.passed := by
  unfold audioSend
  rw [passed_ite, passed_foldl (fun t d => t.passed_sendFrame _ _ _ _), ite_self]

theorem passed_moveSample (s : State) (m : Nat) : (s.moveSample m).passed = s.passed := by
  unfold moveSample
  simp only [passed_ite, passed_meterSample, passed_meetBramble, passed_audioSend, passed_countMoves, passed_drainSample,
    passed_landSample, passed_recordIn, passed_of_tended (tended_aesRamps _), passed_of_tended (tended_asrcRamps _), ite_self]

/-! ### Copies to the partner -/

theorem passed_copyStart (s : State) (pass : Nat) : (s.copyStart pass).passed = s.passed := by
  have hpages (u : State) (l : List Nat) : ({ u with dirty := [], twin := { u.twin with pages := l } } : State).passed = u.passed := rfl
  exact (hpages _ _).trans ((passed_set rfl _ _).trans (passed_set rfl s _))

theorem passed_sendPage (s : State) (page q : Nat) : (s.sendPage page q).passed = s.passed := by
  have hdirty (l : List Nat) : ({ s with dirty := l } : State).passed = s.passed := rfl
  unfold sendPage
  simp only [passed_sendFrame, passed_ite, hdirty, ite_self]

/-- What ends a pass of the copy. -/
theorem passed_copyPass (s : State) (l : List Nat) (p : Nat) (c : Prop) [Decidable c] :
    (if c then s.copyStart 0 else
      { (s.set I.TWN_CPASS p).set I.TWN_CPOS 0 with twin := { s.twin with pages := l } }).passed = s.passed := by
  split
  · exact s.passed_copyStart 0
  · exact (kept_twin passIds ((s.set I.TWN_CPASS p).set I.TWN_CPOS 0) (x := { s.twin with pages := l }) rfl).trans
      ((passed_set rfl _ _).trans (passed_set rfl s _))

theorem passed_sendCopy (s : State) : s.sendCopy.passed = s.passed := by
  unfold sendCopy
  extract_lets pass i next endPass
  have hnext (u : State) : (next u).passed = u.passed := passed_set rfl u _
  have hend : (endPass s).passed = s.passed := s.passed_copyPass _ _ _
  split
  · split
    · split
      · exact (hnext _).trans (s.passed_sendFrame _ _ _ _)
      · exact hnext s
    · split
      · exact (hnext _).trans (s.passed_sendPage _ _)
      · exact hend
  · split
    · exact (hnext _).trans (s.passed_sendPage _ _)
    · exact hend

theorem passed_sendCopies (n : Nat) (s : State) : (sendCopies n s).passed = s.passed := by
  induction n generalizing s with
  | zero => rfl
  | succ n ih => rw [sendCopies, passed_ite, ih, passed_sendCopy, ite_self]

theorem passed_copyRun (s : State) : s.copyRun.passed = s.passed := by
  unfold copyRun
  rw [passed_ite, passed_sendCopies, ite_self]

/-! ### A sample -/

theorem passed_passSample (s : State) (i : Nat) : (s.passSample i).passed = s.passed := by
  unfold passSample timersPass
  dsimp only
  rw [passed_of_tended (tended_gpTimers _), passed_of_tended (tended_tmPass _ _ _ _ _), passed_of_tended (tended_txPass _ _ _),
    passed_of_tended (tended_apPass _ _ _ _), passed_of_tended (tended_uartDrives _), passed_copyRun, passed_of_tended (tended_live60 _),
    passed_moveSample]

end State
end Sys2Proof.Machine
end

section
/-! What a tick leaves, function by function. -/
namespace Sys2Proof.Machine
namespace State

/-! ### What a tick leaves -/

/-- The places that the units' work at a tick does not write: the tick's number, the rate in effect and the clock's events. -/
def tickIds : List Nat := [I.TICKED.id, I.RATE_B.id, I.RATE_M.id, I.RATE_F.id, F.CLK_EVT_EVT.id]

/-- What a tick leaves. -/
def swept (s : State) : State := s.kept tickIds

theorem kept_mono {ids few : List Nat} (hsub : few.all (fun i => ids.contains i) = true) {s t : State} (h : t.kept ids = s.kept ids) :
    t.kept few = s.kept few := by
  have hcut (u : State) : (u.kept ids).kept few = u.kept few := by
    refine congrArg (fun l : Regs => { u.kept few with regs := l }) ?_
    show (u.regs.filter _).filter _ = u.regs.filter _
    rw [List.filter_filter]
    refine List.filter_congr fun e _ => ?_
    cases he : few.contains e.1.1 with
    | false => simp
    | true => simpa using List.all_eq_true.mp hsub e.1.1 (by simpa using he)
  rw [← hcut t, ← hcut s, h]

theorem swept_of_passed {s t : State} (h : t.passed = s.passed) : t.swept = s.swept := kept_mono (by decide) h

theorem items_of_swept {s t : State} (h : t.swept = s.swept) : t.twin.items = s.twin.items :=
  (congrArg (fun u : State => u.twin.items) h :)

theorem swept_set {f : Fld} (h : tickIds.contains f.id = false) (s : State) (v : Nat) : (s.set f v).swept = s.swept := kept_set h s v
theorem swept_flag {f : Fld} (h : tickIds.contains f.id = false) (s : State) (b : Bool) : (s.flag f b).swept = s.swept := kept_set h s _
theorem swept_bump {f : Fld} (h : tickIds.contains f.id = false) (s : State) (n : Nat) : (s.bump f n).swept = s.swept := kept_set h s _

theorem swept_raise {n : Nat} (h : (evCause n).all (fun e => !tickIds.contains e.1.id) = true) (s : State) : (s.raise n).swept = s.swept :=
  kept_of_cut (cut_raise h s)

theorem swept_ite (c : Prop) [Decidable c] (a b : State) : (if c then a else b).swept = if c then a.swept else b.swept :=
  kept_ite tickIds c a b

theorem swept_foldl {α : Type} {g : State → α → State} (h : ∀ t x, (g t x).swept = t.swept) (l : List α) (s : State) :
    (l.foldl g s).swept = s.swept := kept_foldl h l s

theorem swept_sendFrame (s : State) (kind tick : Nat) (item : Option MirrorItem) (words : List Nat) :
    (s.sendFrame kind tick item words).swept = s.swept := swept_of_passed (s.passed_sendFrame kind tick item words)

theorem swept_copyStart (s : State) (pass : Nat) : (s.copyStart pass).swept = s.swept := swept_of_passed (s.passed_copyStart pass)

theorem swept_tmFire (s : State) (src : Nat) : (s.tmFire src).swept = s.swept :=
  swept_foldl (fun t n => kept_mono (by decide) (kept_of_cut (t.tended_tmCapture n t.tmNow))) _ s

/-! ### The graph and the phasors -/

theorem kept_setCore (ids : List Nat) (s : State) (n : Nat) (c : Core) : (s.setCore n c).kept ids = s.kept ids := rfl

theorem kept_graphLate (ids : List Nat) (s : State) : s.graphLate.kept ids = s.kept ids := by
  refine kept_foldl (fun t n => ?_) _ s
  have hdrop (u : State) : (u.dropNext n).kept ids = u.kept ids := by
    unfold dropNext
    dsimp only
    split <;> rfl
  have hlate (u : State) (r : PipRun) (c : Core) : (if r.ev.isNone then u.setCore n c else u).kept ids = u.kept ids := by
    rw [kept_ite, kept_setCore, ite_self]
  have hif (r : PipRun) : (if r.ev.isNone then t.dropNext n else t).kept ids = t.kept ids := by
    rw [kept_ite, hdrop, ite_self]
  dsimp only
  cases (t.core n).next with
  | none =>
    dsimp only
    split
    · exact hlate _ _ _
    · rfl
  | some r =>
    dsimp only
    split
    · exact (hlate _ _ _).trans (hif r)
    · exact hif r

theorem kept_disarm {ids : List Nat} (harm : ids.contains (I.PIP_ARM 0).id = false) (hstate : ids.contains (F.PIP13_STATE 0).id = false)
    (s : State) (gone : Nat → Bool) : (s.disarm gone).kept ids = s.kept ids := by
  refine kept_foldl (fun t p => ?_) _ s
  rw [kept_ite, kept_set (f := F.PIP13_STATE p) hstate, kept_set (f := I.PIP_ARM p) harm, ite_self]

theorem kept_withdrawReady {ids : List Nat} (harm : ids.contains (I.PIP_ARM 0).id = false)
    (hstate : ids.contains (F.PIP13_STATE 0).id = false) (s : State) : s.withdrawReady.kept ids = s.kept ids :=
  (kept_disarm harm hstate _ _).trans (kept_graphLate ids s)

theorem swept_withdrawGraph (s : State) : s.withdrawGraph.swept = s.swept := by
  unfold withdrawGraph
  dsimp only
  exact (swept_foldl (fun t p => swept_set rfl t _) _ _).trans ((kept_disarm rfl rfl _ _).trans (kept_graphLate tickIds s))

theorem swept_makeReady (s : State) (p : Nat) : (s.makeReady p).swept = s.swept := by
  unfold makeReady checkCores takeReady
  simp (disch := exact id rfl) only [swept_ite, swept_raise, swept_set, ite_self]

theorem swept_rearm (s : State) (j : Nat) : (s.rearm j).swept = s.swept := by
  unfold rearm
  dsimp only
  rw [swept_set rfl]
  refine swept_foldl (fun t p => ?_) _ s
  simp (disch := exact id rfl) only [swept_ite, swept_makeReady, swept_set, ite_self]

theorem swept_phSet (s : State) (p : Nat) (P D G : Int) : (s.phSet p P D G).swept = s.swept := by
  unfold phSet
  simp (disch := exact id rfl) only [swept_set]

theorem swept_phFlush (s : State) : s.phFlush.swept = s.swept := by
  have happly (u : State) (w : Nat) : (u.phApply w 0).swept = u.swept := by
    unfold phApply
    dsimp only
    split
    · exact u.swept_phSet _ _ _ _
    · exact u.swept_phSet _ _ _ _
    · exact u.swept_phSet _ _ _ _
  exact swept_foldl happly s.vm.phasor s

theorem swept_rearmTick (s : State) : s.rearmTick.swept = s.swept := by
  unfold rearmTick phAdvance
  rw [swept_ite, swept_foldl (fun t p => t.swept_phSet p _ _ _), swept_rearm, ite_self]

theorem swept_creditsZero (s : State) : s.creditsZero.swept = s.swept :=
  (swept_foldl (fun t _ => swept_set rfl t 0) _ _).trans rfl

/-! ### Bramble, the meters and the link -/

theorem swept_tapTick (s : State) (m : Nat) : (s.tapTick m).swept = s.swept := by
  unfold tapTick meterReset
  simp (disch := exact id rfl) only [List.foldl_cons, List.foldl_nil, swept_ite, swept_set, ite_self]

theorem swept_meterTick (s : State) : s.meterTick.swept = s.swept := by
  have hgroup (u : State) (g : Nat) : (u.lgRestart g).swept = u.swept := by
    unfold lgRestart
    simp (disch := exact id rfl) only [swept_set]
  exact (swept_foldl hgroup _ _).trans (swept_foldl (fun t m => t.swept_tapTick m) _ s)

theorem swept_ringReady (s : State) (j : Nat) : (s.ringReady j).swept = s.swept := by
  unfold ringReady
  simp (disch := exact id rfl) only [swept_ite, swept_raise, swept_set, ite_self]

theorem swept_ringDue (s : State) (k : Nat) : (s.ringDue k).swept = s.swept := by
  unfold ringDue
  simp (disch := exact id rfl) only [swept_ite, swept_raise, swept_set, swept_bump, ite_self]

theorem swept_standbyStop (s : State) : s.standbyStop.swept = s.swept := by
  have hsilence (u : State) : u.silenceAll.swept = u.swept := rfl
  unfold standbyStop setEngine
  simp (disch := exact id rfl) only [swept_ite, hsilence, swept_phFlush, swept_raise, swept_set, ite_self]

theorem swept_resyncStart (s : State) : s.resyncStart.swept = s.swept := by
  unfold resyncStart setSync
  simp (disch := exact id rfl) only [swept_ite, swept_standbyStop, swept_copyStart, swept_raise, swept_set, ite_self]

theorem swept_compareCrc (s : State) (blk own partner : Nat) : (s.compareCrc blk own partner).swept = s.swept := by
  unfold compareCrc setSync
  simp (disch := exact id rfl) only [swept_ite, swept_resyncStart, swept_raise, swept_set, swept_bump, ite_self]

theorem swept_reportCrc (s : State) (blk : Nat) : (s.reportCrc blk).swept = s.swept := by
  unfold reportCrc
  split
  · rfl
  · simp only [swept_ite, swept_compareCrc, swept_sendFrame, ite_self]

theorem swept_keepCrc (s : State) (blk : Nat) : (s.keepCrc blk).swept = s.swept := rfl

theorem swept_brmEnables (s : State) (k : Nat) : (s.brmEnables k).swept = s.swept := by
  have hquad (u : State) (q : Nat) : (u.quadTick k q).swept = u.swept := by
    unfold quadTick
    simp (disch := exact id rfl) only [swept_ite, swept_raise, swept_set, swept_flag, ite_self]
  unfold brmEnables
  dsimp only
  refine (swept_foldl (fun t d => ?_) _ _).trans (swept_foldl hquad _ s)
  simp (disch := exact id rfl) only [swept_ite, swept_raise, swept_set, ite_self]

theorem swept_audioDrop (s : State) : s.audioDrop.swept = s.swept := by
  unfold audioDrop
  split
  · rfl
  · rw [swept_set rfl]
    rfl

theorem swept_lostAtTick (s old : State) : (s.lostAtTick old).swept = s.swept := by
  refine swept_foldl (fun u e => ?_) _ s
  split
  · rw [swept_raise rfl, swept_set rfl, swept_set rfl]
  · rfl

theorem swept_moveBlocks (s : State) (k : Nat) : (s.moveBlocks k).swept = s.swept := by
  unfold moveBlocks
  simp only [swept_lostAtTick, swept_ite, swept_ringDue, swept_audioDrop, swept_brmEnables, swept_reportCrc, swept_keepCrc,
    swept_ringReady, swept_meterTick, ite_self]

theorem swept_copyTick (s : State) : s.copyTick.swept = s.swept := by
  unfold copyTick
  simp (disch := exact id rfl) only [swept_ite, swept_set, swept_sendFrame, ite_self]

theorem swept_hbTick (s : State) : s.hbTick.swept = s.swept := by
  unfold hbTick
  simp (disch := exact id rfl) only [swept_ite, swept_set, ite_self]

theorem swept_statusMissing (s : State) : s.statusMissing.swept = s.swept := by
  unfold statusMissing setSync
  simp (disch := exact id rfl) only [swept_ite, swept_set, ite_self]

/-! ### The parameters and the loads -/

theorem swept_setCurve (s : State) (k : Nat) (c : Curve) : (s.setCurve k c).swept = s.swept := rfl

theorem swept_scn (s : State) (x : Scene) : ({ s with scn := x } : State).swept = s.swept := rfl

theorem swept_refuseCmd (s : State) (reason src index : Nat) : (s.refuseCmd reason src index).swept = s.swept := by
  unfold refuseCmd
  simp (disch := exact id rfl) only [swept_raise, swept_set]

theorem swept_applyCmd (s : State) (c : PCmd) (extra : Nat) : (s.applyCmd c extra).swept = s.swept := by
  unfold applyCmd prmSet
  simp only [swept_ite, swept_setCurve, swept_refuseCmd, swept_scn, ite_self]

theorem swept_applyDue (s : State) : s.applyDue.swept = s.swept := by
  refine swept_foldl (fun t c => ?_) _ s
  simp only [swept_ite, swept_scn, swept_applyCmd, ite_self]

theorem swept_paramNow (s : State) (src w : Nat) : (s.paramNow src w).swept = s.swept := by
  have hdue (c : PCmd) : (s.applyDue.applyCmd c 0).swept = s.swept := (swept_applyCmd _ c 0).trans s.swept_applyDue
  unfold paramNow
  extract_lets w0 k c n
  split
  · exact s.swept_refuseCmd _ _ _
  · split
    · exact s.swept_refuseCmd _ _ _
    · split
      · exact s.swept_applyCmd _ _
      · split
        · exact hdue _
        · split
          · rw [swept_applyCmd, swept_raise rfl, swept_bump rfl, swept_applyDue]
          · split
            · exact hdue _
            · split <;> rfl

theorem swept_paramCmd (s : State) (src w : Nat) : (s.paramCmd src w).swept = s.swept := by
  unfold paramCmd
  split
  · rfl
  · exact s.swept_paramNow src w

theorem swept_trimCurves (s : State) : s.trimCurves.swept = s.swept := swept_foldl (fun t _ => t.swept_setCurve _ _) _ s

theorem swept_latchCore (s : State) (n : Nat) : (s.latchCore n).swept = s.swept := by
  have hfree (u : State) (k : Nat) : ({ u with free := k } : State).swept = u.swept := rfl
  unfold latchCore
  dsimp only
  rw [swept_flag rfl]
  exact (hfree _ _).trans ((swept_set rfl _ _).trans ((swept_set rfl _ _).trans (swept_set rfl s _)))

theorem swept_latchLoads (s : State) : s.latchLoads.swept = s.swept := by
  have hfree (u : State) : u.fresh.2.swept = u.swept := rfl
  unfold latchLoads brmLoad
  dsimp only
  rw [swept_set rfl, swept_set rfl, swept_set rfl, swept_set rfl, hfree]
  exact swept_foldl (fun t n => t.swept_latchCore n) _ s

/-! ### The items mirrored at a tick (R382) -/

/-- What a tick leaves beside the items of the link. -/
def ticked (s : State) : State := { s.swept with twin := State.reset.twin }

theorem ticked_of_swept {s t : State} (h : t.swept = s.swept) : t.ticked = s.ticked :=
  congrArg (fun u : State => { u with twin := State.reset.twin }) h

theorem ticked_wiperPosts (s : State) : s.wiperPosts.ticked = s.ticked := by
  have hset (u : State) (f : Fld) (v : Nat) (h : tickIds.contains f.id = false) : (u.set f v).ticked = u.ticked :=
    ticked_of_swept (swept_set h u v)
  have htwin (u : State) (x : Twin) : ({ u with twin := x } : State).ticked = u.ticked := rfl
  have hite (c : Prop) [Decidable c] (a b : State) : (if c then a else b).ticked = if c then a.ticked else b.ticked := apply_ite ticked c a b
  have hmirror (u : State) (item : MirrorItem) : (u.mirror item).ticked = u.ticked := by
    unfold mirror
    dsimp only
    split
    · rw [hset _ _ _ rfl, ticked_of_swept (swept_sendFrame _ _ _ _ _)]
      rfl
    · rfl
  have hpost (u : State) (w : Nat) : (u.curPost w).ticked = u.ticked := by
    unfold curPost
    rw [hite, hite, hmirror, ticked_of_swept (u.swept_paramCmd _ _), ite_self, ite_self]
  have hfold {α : Type} {g : State → α → State} (h : ∀ t x, (g t x).ticked = t.ticked) (l : List α) (t : State) :
      (l.foldl g t).ticked = t.ticked := by
    induction l generalizing t with
    | nil => rfl
    | cons x l ih => exact (ih _).trans (h t x)
  refine hfold (fun t e => ?_) _ s
  dsimp only
  rw [hite, hite, hpost, hset _ _ _ rfl, ite_self, ite_self]

/-- What the units do at a tick once the graph has been armed again. -/
theorem ticked_tickEnd (s : State) : s.trimCurves.wiperPosts.hbTick.statusMissing.latchLoads.ticked = s.ticked := by
  rw [ticked_of_swept (swept_latchLoads _), ticked_of_swept (swept_statusMissing _), ticked_of_swept (swept_hbTick _),
    ticked_wiperPosts, ticked_of_swept (swept_trimCurves s)]

/-- With no item of the link, none is due when the blocks have moved. -/
theorem dueItems_moved {s : State} (h : s.twin.items = []) (k : Nat) : ((s.raise 8).moveBlocks k).dueItems = [] := by
  have hraise : (s.raise 8).twin.items = s.twin.items := (congrArg (fun u : State => u.twin.items) (s.rest_raise 8) :)
  have hitems : ((s.raise 8).moveBlocks k).twin.items = [] := by
    rw [items_of_swept (swept_moveBlocks _ k), hraise, h]
  unfold dueItems
  rw [hitems]
  rfl

/-- The graph withdrawn, the credits set back and, while the engine runs, the graph armed again. -/
theorem swept_graphTick (s : State) :
    (if s.withdrawGraph.creditsZero.get F.SYS_ENGINE_STATE = 2 then s.withdrawGraph.creditsZero.rearmTick
      else s.withdrawGraph.creditsZero).swept = s.swept := by
  rw [swept_ite, swept_rearmTick, ite_self, swept_creditsZero, swept_withdrawGraph]

/-- The units' work at a tick that finds no item of the link. -/
theorem ticked_tickWork {s : State} (h : s.twin.items = []) (k : Nat) : (s.tickWork k).ticked = (s.raise 8).ticked := by
  unfold tickWork
  dsimp only
  rw [if_pos (dueItems_moved h k), ticked_tickEnd]
  exact ticked_of_swept ((swept_graphTick _).trans ((swept_copyTick _).trans (swept_moveBlocks _ k)))

end State
end Sys2Proof.Machine
end

section
/-! What the clocks count as samples pass, and what the check of the deadline leaves (R20, R62, R161). -/
namespace Sys2Proof.Machine
namespace State

/-! ### The passing of samples -/

/-- The clocks moved on by `n` samples. -/
def clocked (s : State) (n : Nat) : State :=
  { s with frcPrev := s.frc, frc := (s.frc + n) % 2 ^ 64, cclk := s.cclk + n * s.sampleCycles, tclk := s.tclk + n * s.sampleTclks }

theorem passed_clocked {s t : State} (h : t.passed = s.passed) (n : Nat) : (t.clocked n).passed = (s.clocked n).passed := by
  have hfrc : t.frc = s.frc := (congrArg State.frc h :)
  have hcclk : t.cclk = s.cclk := (congrArg State.cclk h :)
  have htclk : t.tclk = s.tclk := (congrArg State.tclk h :)
  have hmult : t.multM = s.multM := congrArg (2 ^ ·) (get_of_kept h (f := I.RATE_M) rfl)
  have hparts : (t.clocked n).passed =
      { t.passed with
        frcPrev := s.frc, frc := (s.frc + n) % 2 ^ 64, cclk := s.cclk + n * s.sampleCycles, tclk := s.tclk + n * s.sampleTclks } := by
    rw [clocked, sampleCycles, sampleTclks, hfrc, hcclk, htclk, hmult]
    rfl
  rw [hparts, h]
  rfl

/-- What samples leave, but for the clocks. -/
theorem passed_advance (s : State) {n : Nat} (h : n ≠ 0) : (s.advance n).passed = (s.clocked n).passed := by
  unfold advance
  rw [if_neg h]
  dsimp only
  rw [passed_of_tended (tended_dacclrRefresh _), passed_of_tended (tended_outputWraps _ _), passed_of_tended (tended_pclkRun _ _)]
  exact passed_clocked (passed_foldl (fun t i => t.passed_passSample i) _ s) n

theorem advance_zero (s : State) : s.advance 0 = s := rfl

/-- The register places that no sample writes. -/
theorem regs_advance (s : State) (n : Nat) : (s.advance n).passed.regs = s.passed.regs := by
  by_cases h : n = 0
  · rw [h, advance_zero]
  · rw [s.passed_advance h]
    rfl

theorem get_advance (s : State) (n : Nat) {f : Fld} (hf : passIds.contains f.id = true) : (s.advance n).get f = s.get f :=
  get_of_kept_regs (s.regs_advance n) hf

theorem frc_advance {s : State} (h : s.frc < 2 ^ 64) (n : Nat) : (s.advance n).frc = (s.frc + n) % 2 ^ 64 := by
  by_cases hn : n = 0
  · rw [hn, advance_zero, Nat.add_zero, Nat.mod_eq_of_lt h]
  · exact (congrArg State.frc (s.passed_advance hn) :)

theorem frc_advance_pos (s : State) {n : Nat} (h : n ≠ 0) : (s.advance n).frc = (s.frc + n) % 2 ^ 64 :=
  (congrArg State.frc (s.passed_advance h) :)

theorem cclk_advance (s : State) (n : Nat) : (s.advance n).cclk = s.cclk + n * s.sampleCycles := by
  by_cases hn : n = 0
  · simp [hn, advance_zero]
  · exact (congrArg State.cclk (s.passed_advance hn) :)

theorem tclk_advance (s : State) {n : Nat} (h : n ≠ 0) : (s.advance n).tclk = s.tclk + n * s.sampleTclks :=
  (congrArg State.tclk (s.passed_advance h) :)

theorem dram_advance (s : State) (n : Nat) : (s.advance n).dram = s.dram := by
  by_cases hn : n = 0
  · rw [hn, advance_zero]
  · exact (congrArg State.dram (s.passed_advance hn) :)

theorem pending_advance (s : State) (n : Nat) : (s.advance n).pending = s.pending := by
  by_cases hn : n = 0
  · rw [hn, advance_zero]
  · exact (congrArg State.pending (s.passed_advance hn) :)

theorem items_advance (s : State) (n : Nat) : (s.advance n).twin.items = s.twin.items := by
  by_cases hn : n = 0
  · rw [hn, advance_zero]
  · exact (congrArg (fun u : State => u.twin.items) (s.passed_advance hn) :)

theorem blockLen_advance (s : State) (n : Nat) : (s.advance n).blockLen = s.blockLen :=
  congrArg (8 * 2 ^ ·) (s.get_advance n (f := I.RATE_B) rfl)

/-! ### The sinks that the deadline looks at -/

theorem armedPips_of_kept_regs {s t : State} (h : t.passed.regs = s.passed.regs) : t.armedPips = s.armedPips := by
  have hcut (u : State) : u.armedPips =
      (u.passed.regs.filter (fun e => decide (e.1.1 = (I.PIP_ARM 0).id) && decide (e.2 ≠ 0))).map (fun e => e.1.2) := by
    refine congrArg (List.map (fun e : Key × Nat => e.1.2)) ?_
    show u.regs.filter _ = (u.regs.filter _).filter _
    rw [List.filter_filter]
    refine List.filter_congr fun e _ => ?_
    by_cases he : e.1.1 = (I.PIP_ARM 0).id
    · rw [he]
      simp [show (I.PIP_ARM 0).id ∈ passIds by decide]
    · simp [he]
  rw [hcut, hcut, h]

theorem lateSinks_advance (s : State) (n j : Nat) : (s.advance n).lateSinks j = s.lateSinks j := by
  unfold lateSinks
  rw [armedPips_of_kept_regs (s.regs_advance n)]
  refine List.filter_congr fun p _ => ?_
  unfold sinkLate on
  rw [s.get_advance n (f := F.PIP1_SINK p) rfl, s.get_advance n (f := F.PIP1_CLASS p) rfl, s.get_advance n (f := I.PIP_ARM p) rfl,
    s.get_advance n (f := I.PIP_BLK p) rfl, s.get_advance n (f := I.PIP_DONE p) rfl, s.get_advance n (f := F.PIP14_LASTBLK p) rfl]

/-! ### An overrun -/

theorem swept_overrun (s : State) (j : Nat) (ps : List Nat) : (s.overrun j ps).swept = s.swept := by
  unfold overrun
  dsimp only
  rw [swept_set rfl, swept_bump rfl]
  refine (kept_withdrawReady rfl rfl _).trans ((swept_of_passed (passed_mdlFault _ _ _ _ _ _ _ _ _)).trans ?_)
  rw [swept_raise rfl]
  exact swept_foldl (fun t p => swept_set rfl t _) ps s

theorem swept_checkSinks (s : State) : s.checkSinks.swept = s.swept := by
  unfold checkSinks
  dsimp only
  rw [swept_ite, swept_ite, swept_overrun, ite_self, ite_self]

theorem swept_checkWithin (s : State) (n : Nat) : (s.checkWithin n).swept = s.swept := by
  unfold checkWithin
  rw [swept_ite, swept_checkSinks, ite_self]

end State
end Sys2Proof.Machine
end

section
/-! The tick and the deadline (O12). -/
namespace Sys2Proof.Machine
namespace State

/-! ### The tick at the present sample -/

/-- The machine without what samples and ticks change. -/
def lasting (s : State) : State := { s.ticked with regs := [], frc := 0, frcPrev := 0, cclk := 0, tclk := 0 }

theorem lasting_of_ticked {s t : State} (h : t.ticked = s.ticked) : t.lasting = s.lasting :=
  congrArg (fun u : State => { u with regs := [], frc := 0, frcPrev := 0, cclk := 0, tclk := 0 }) h

theorem lasting_advance (s : State) (n : Nat) : (s.advance n).lasting = s.lasting := by
  by_cases h : n = 0
  · rw [h, advance_zero]
  · exact (lasting_of_ticked (ticked_of_swept (swept_of_passed (s.passed_advance h)))).trans rfl

theorem lasting_checkWithin (s : State) (n : Nat) : (s.checkWithin n).lasting = s.lasting :=
  lasting_of_ticked (ticked_of_swept (s.swept_checkWithin n))

/-- The tick's number written, its count started over, the timers' captures made. -/
def tickBegun (s : State) : State := ({ s with cclk := 0 }.set I.TICKED (s.frc + 1)).tmFire 32

theorem swept_tickBegun (s : State) : s.tickBegun.swept = ({ s with cclk := 0 }.set I.TICKED (s.frc + 1)).swept := swept_tmFire _ 32

/-- Of the tick, its event is what the units' work leaves beside their own parts. -/
theorem ticked_tickHere {s : State} (h : s.twin.items = []) : s.tickHere.ticked = (s.tickBegun.raise 8).ticked := by
  have hitems : s.tickBegun.twin.items = s.twin.items := (items_of_swept s.swept_tickBegun :)
  exact ticked_tickWork (hitems.trans h) _

theorem get_of_ticked {s t : State} (h : t.ticked = s.ticked) {f : Fld} (hf : tickIds.contains f.id = true) : t.get f = s.get f :=
  get_of_kept_regs (congrArg State.regs h :) hf

section
variable {s : State} (hitems : s.twin.items = [])
include hitems

theorem projection_tickHere {α : Type} (g : State → α) (hg : ∀ u : State, g u = g { u.ticked with regs := [], toDeliver := [] }) :
    g s.tickHere = g { s with cclk := 0 } := by
  have hraise : { (s.tickBegun.raise 8).ticked with regs := [], toDeliver := [] } = { s.tickBegun.ticked with regs := [], toDeliver := [] } :=
    congrArg (fun u : State => { u.ticked with regs := [], toDeliver := [] }) (s.tickBegun.rest_raise 8)
  rw [hg, ticked_tickHere hitems, hraise, ticked_of_swept s.swept_tickBegun, hg { s with cclk := 0 }]
  rfl

theorem frc_tickHere : s.tickHere.frc = s.frc := projection_tickHere hitems State.frc fun _ => rfl
theorem cclk_tickHere : s.tickHere.cclk = 0 := projection_tickHere hitems State.cclk fun _ => rfl
theorem lasting_tickHere : s.tickHere.lasting = s.lasting := projection_tickHere hitems State.lasting fun _ => rfl

theorem event_tickHere : s.tickHere.get F.CLK_EVT_EVT % 2 = 1 := by
  rw [get_of_ticked (ticked_tickHere hitems) rfl]
  simpa using s.tickBegun.get_raise_bit (n := 8) (k := 0) rfl (by decide)

theorem ticked_place_tickHere : s.tickHere.get I.TICKED = (s.frc + 1) % 2 ^ 64 := by
  rw [get_of_ticked (ticked_tickHere hitems) rfl, get_raise_apart _ rfl, get_of_kept s.swept_tickBegun rfl]
  exact get_set_same _ _ _

end

/-! ### The samples up to a tick -/

theorem blockLen_pos (s : State) : 0 < s.blockLen := by
  unfold blockLen
  positivity

theorem tickFrc_eq_add (s : State) : s.tickFrc = s.frc + (s.tickFrc - s.frc) := by
  have hle : s.frc ≤ s.tickFrc := by
    unfold tickFrc
    split
    · exact Nat.le_refl _
    · exact (Nat.lt_div_mul_add s.blockLen_pos).le.trans_eq (by ring)
  omega

theorem tickFrc_mod (s : State) : s.tickFrc % s.blockLen = 0 := by
  unfold tickFrc
  split
  · rename_i h
    unfold tickDue at h
    simp only [Bool.and_eq_true, decide_eq_true_eq] at h
    exact h.1
  · exact Nat.mul_mod_left _ _

theorem frc_checkWithin (s : State) (n : Nat) : (s.checkWithin n).frc = s.frc := (congrArg State.frc (s.swept_checkWithin n) :)
theorem items_checkWithin (s : State) (n : Nat) : (s.checkWithin n).twin.items = s.twin.items := items_of_swept (s.swept_checkWithin n)
theorem get_checkWithin (s : State) (n : Nat) {f : Fld} (hf : tickIds.contains f.id = true) : (s.checkWithin n).get f = s.get f :=
  get_of_kept (s.swept_checkWithin n) hf
theorem blockLen_checkWithin (s : State) (n : Nat) : (s.checkWithin n).blockLen = s.blockLen :=
  congrArg (8 * 2 ^ ·) (s.get_checkWithin n (f := I.RATE_B) rfl)

/-- The state at which the block's tick is raised. -/
theorem toTick_parts {s : State} (h : s.tickFrc < 2 ^ 64) :
    ((s.checkWithin (s.tickFrc - s.frc)).advance (s.tickFrc - s.frc)).frc = s.tickFrc ∧
    ((s.checkWithin (s.tickFrc - s.frc)).advance (s.tickFrc - s.frc)).twin.items = s.twin.items ∧
    ((s.checkWithin (s.tickFrc - s.frc)).advance (s.tickFrc - s.frc)).lasting = s.lasting := by
  have hadd := s.tickFrc_eq_add
  refine ⟨?_, ?_, ?_⟩
  · rw [frc_advance (by rw [frc_checkWithin]; omega), frc_checkWithin, ← hadd, Nat.mod_eq_of_lt h]
  · rw [items_advance, items_checkWithin]
  · rw [lasting_advance, lasting_checkWithin]

theorem eq_of_lasting {s t : State} (h : t.lasting = s.lasting) :
    t = { s with regs := t.regs, frc := t.frc, frcPrev := t.frcPrev, cclk := t.cclk, tclk := t.tclk, free := t.free,
                 toDeliver := t.toDeliver, cores := t.cores, orchard := t.orchard, orcFlaws := t.orcFlaws,
                 dirty := t.dirty, qn := t.qn, vm := t.vm, scn := t.scn,
                 routes := t.routes, hold := t.hold, twin := t.twin, faults := t.faults } :=
  (congrArg (fun u : State =>
    { u with regs := t.regs, frc := t.frc, frcPrev := t.frcPrev, cclk := t.cclk, tclk := t.tclk, free := t.free,
             toDeliver := t.toDeliver, cores := t.cores, orchard := t.orchard, orcFlaws := t.orcFlaws,
             dirty := t.dirty, qn := t.qn, vm := t.vm, scn := t.scn,
             routes := t.routes, hold := t.hold, twin := t.twin, faults := t.faults }) h :)

theorem blockTick_lands {s : State} (hruns : s.clockRuns = true) (hfrc : s.tickFrc < 2 ^ 64) (hitems : s.twin.items = []) :
    s.blockTick.frc = s.tickFrc ∧ s.blockTick.frc % s.blockLen = 0 ∧ s.blockTick.cclk = 0 ∧
    s.blockTick.get F.CLK_EVT_EVT % 2 = 1 ∧ s.blockTick.get I.TICKED = (s.blockTick.frc + 1) % 2 ^ 64 ∧
    s.blockTick.lasting = s.lasting := by
  obtain ⟨hu, hi, hl⟩ := toTick_parts hfrc
  unfold blockTick
  dsimp only
  rw [if_pos hruns]
  generalize (s.checkWithin (s.tickFrc - s.frc)).advance (s.tickFrc - s.frc) = u at hu hi hl
  have hnone : u.twin.items = [] := hi.trans hitems
  have hsame : u.tickHere.frc = s.tickFrc := (frc_tickHere hnone).trans hu
  refine ⟨hsame, ?_, cclk_tickHere hnone, event_tickHere hnone, ?_, (lasting_tickHere hnone).trans hl⟩
  · rw [hsame, tickFrc_mod]
  · rw [ticked_place_tickHere hnone, hsame, hu]

/-! ### The check at the deadline -/

/-- The state at which the deadline's check is made. -/
def atDeadline (s : State) : State :=
  { s.advance (s.deadline / s.sampleCycles) with
    cclk := max (s.advance (s.deadline / s.sampleCycles)).cclk s.deadline }

theorem deadlineCheck_eq {s : State} (hruns : s.clockRuns = true) (hstart : s.frc % s.blockLen = 0) :
    s.deadlineCheck = s.atDeadline.checkSinks := by
  unfold deadlineCheck
  dsimp only
  rw [if_pos hruns, hstart, Nat.sub_zero]
  rfl

theorem get_atDeadline (s : State) {f : Fld} (hf : passIds.contains f.id = true) : s.atDeadline.get f = s.get f := s.get_advance _ hf

theorem lateSinks_atDeadline (s : State) (j : Nat) : s.atDeadline.lateSinks j = s.lateSinks j := s.lateSinks_advance _ j

section
variable {s : State} (hstart : s.frc % s.blockLen = 0) (hwithin : s.deadline / s.sampleCycles < s.blockLen)
  (hend : s.frc + s.blockLen ≤ 2 ^ 64)
include hwithin hend

theorem frc_atDeadline : s.atDeadline.frc = s.frc + s.deadline / s.sampleCycles := by
  have hfrc : s.atDeadline.frc = (s.frc + s.deadline / s.sampleCycles) % 2 ^ 64 := frc_advance (by have := s.blockLen_pos; omega) _
  rw [hfrc, Nat.mod_eq_of_lt (by omega)]

include hstart

theorem blockIx_atDeadline : s.atDeadline.blockIx = s.blockIx := by
  have hlen : s.atDeadline.blockLen = s.blockLen := s.blockLen_advance _
  rw [blockIx, frc_atDeadline hwithin hend, hlen, blockIx]
  obtain ⟨k, hk⟩ := Nat.dvd_of_mod_eq_zero hstart
  rw [hk, Nat.mul_add_div s.blockLen_pos, Nat.mul_div_cancel_left k s.blockLen_pos, Nat.div_eq_of_lt hwithin, Nat.add_zero]

theorem phRunning_atDeadline : s.atDeadline.phRunning = s.phRunning := by
  rw [phRunning, blockIx_atDeadline hstart hwithin hend, s.get_atDeadline rfl, phRunning]

end

theorem blockIx_pos {s : State} (h : s.phRunning = true) : s.blockIx - 1 + 1 = s.blockIx := by
  unfold phRunning at h
  simp only [Bool.and_eq_true, decide_eq_true_eq] at h
  omega

/-- No sink is late: the check finds nothing. -/
theorem checkSinks_of_none {s : State} (h : s.lateSinks (s.blockIx - 1) = []) : s.checkSinks = s := by
  unfold checkSinks
  dsimp only
  rw [if_pos h, ite_self]

/-- A sink is late: the block overruns. -/
theorem checkSinks_of_late {s : State} (hph : s.phRunning = true) (hnew : s.get I.QN_OVRBLK ≠ s.blockIx)
    (h : s.lateSinks (s.blockIx - 1) ≠ []) : s.checkSinks = s.overrun (s.blockIx - 1) (s.lateSinks (s.blockIx - 1)) := by
  unfold checkSinks
  dsimp only
  rw [if_pos ⟨hph, by rwa [blockIx_pos hph]⟩, if_neg h]

/-- The late sinks are marked with the block's number. -/
theorem get_ovm_marked (v : Nat) (ps : List Nat) (s : State) {p : Nat} (h : p ∈ ps ∨ s.get (I.PIP_OVM p) = v % 2 ^ 64) :
    (ps.foldl (fun s p => s.set (I.PIP_OVM p) v) s).get (I.PIP_OVM p) = v % 2 ^ 64 := by
  induction ps generalizing s with
  | nil => simpa using h
  | cons q ps ih =>
    refine ih _ ?_
    by_cases hq : p = q
    · exact .inr (hq ▸ get_set_same _ _ _)
    · have hne : (s.set (I.PIP_OVM q) v).get (I.PIP_OVM p) = s.get (I.PIP_OVM p) :=
        get_set_ne s v (by simpa [I.PIP_OVM] using hq)
      rcases h with hmem | hv
      · exact .inl ((List.mem_cons.mp hmem).resolve_left hq)
      · exact .inr (hne.trans hv)

/-- The places that an overrun's entry in the fault log and its withdrawal of pips leave. -/
def overrunIds : List Nat := [F.SYS_ENGINE_OVR.id, F.QN_OVRCNT_N.id, (I.PIP_OVM 0).id, F.SYS_ENGINE_STATE.id]

theorem get_bump_other (s : State) {f g : Fld} (n : Nat) (h : (g.id == f.id) = false) : (s.bump f n).get g = s.get g :=
  get_set_other s _ h

/-- The part of an overrun after its event. -/
theorem get_overrun_after (s : State) {f : Fld} (hf : overrunIds.contains f.id = true) :
    ((s.mdlFault 0x0A 8 0 true 0 0 0 0xFFFF).withdrawReady).get f = s.get f :=
  get_of_kept ((kept_withdrawReady (ids := overrunIds) rfl rfl _).trans
    (kept_mono (by decide) (s.passed_mdlFault 0x0A 8 0 true 0 0 0 0xFFFF))) hf

theorem overrun_parts (s : State) (j : Nat) (ps : List Nat) :
    (s.overrun j ps).get F.SYS_ENGINE_OVR = 1 ∧
    (s.overrun j ps).get F.QN_OVRCNT_N = min (s.get F.QN_OVRCNT_N + 1) (2 ^ 32 - 1) ∧
    (∀ p ∈ ps, (s.overrun j ps).get (I.PIP_OVM p) = (j + 1) % 2 ^ 64) ∧
    (s.overrun j ps).get F.SYS_ENGINE_STATE = s.get F.SYS_ENGINE_STATE := by
  have hmarks {f : Fld} (hf : (f.id == (I.PIP_OVM 0).id) = false) :
      (ps.foldl (fun s p => s.set (I.PIP_OVM p) (j + 1)) s).get f = s.get f := by
    refine List.foldlRecOn (motive := fun t : State => t.get f = s.get f) ps _ rfl fun t ht p _ => ?_
    exact (get_set_other (f := I.PIP_OVM p) _ _ hf).trans ht
  unfold overrun
  dsimp only
  refine ⟨?_, ?_, fun p hp => ?_, ?_⟩
  · rw [get_set_other _ _ rfl, get_bump_other _ 1 rfl, get_overrun_after _ rfl, get_raise_flag _ rfl rfl]
  · rw [get_set_other _ _ rfl, get_bump_same, get_overrun_after _ rfl, get_raise_apart _ rfl, hmarks rfl]
    rfl
  · rw [get_set_other _ _ rfl, get_bump_other _ 1 rfl, get_overrun_after _ rfl, get_raise_apart _ rfl]
    exact get_ovm_marked (j + 1) ps s (.inl hp)
  · rw [get_set_other _ _ rfl, get_bump_other _ 1 rfl, get_overrun_after _ rfl, get_raise_apart _ rfl, hmarks rfl]

theorem checkSinks_frame (s : State) :
    s.checkSinks.frc = s.frc ∧ s.checkSinks.cclk = s.cclk ∧ s.checkSinks.dram = s.dram ∧ s.checkSinks.pending = s.pending :=
  ⟨(congrArg State.frc s.swept_checkSinks :), (congrArg State.cclk s.swept_checkSinks :),
    (congrArg State.dram s.swept_checkSinks :), (congrArg State.pending s.swept_checkSinks :)⟩

/-- What the check at the deadline does beside finding late sinks. -/
theorem deadlineCheck_frame {s : State} (hruns : s.clockRuns = true) (hstart : s.frc % s.blockLen = 0)
    (hwithin : s.deadline / s.sampleCycles < s.blockLen) (hend : s.frc + s.blockLen ≤ 2 ^ 64) :
    s.deadlineCheck.frc = s.frc + s.deadline / s.sampleCycles ∧ s.deadline ≤ s.deadlineCheck.cclk ∧
    s.deadlineCheck.dram = s.dram ∧ s.deadlineCheck.pending = s.pending := by
  obtain ⟨hfrc, hcclk, hdram, hpending⟩ := s.atDeadline.checkSinks_frame
  rw [deadlineCheck_eq hruns hstart, hfrc, hcclk, hdram, hpending]
  exact ⟨frc_atDeadline hwithin hend, Nat.le_max_right _ _, s.dram_advance _, s.pending_advance _⟩

theorem deadlineCheck_late {s : State} (hruns : s.clockRuns = true) (hph : s.phRunning = true)
    (hnew : s.get I.QN_OVRBLK ≠ s.blockIx) (hstart : s.frc % s.blockLen = 0)
    (hwithin : s.deadline / s.sampleCycles < s.blockLen) (hend : s.frc + s.blockLen ≤ 2 ^ 64)
    (hlate : s.lateSinks (s.blockIx - 1) ≠ []) :
    s.deadlineCheck = s.atDeadline.overrun (s.blockIx - 1) (s.lateSinks (s.blockIx - 1)) := by
  have hix := blockIx_atDeadline hstart hwithin hend
  rw [deadlineCheck_eq hruns hstart, checkSinks_of_late ((phRunning_atDeadline hstart hwithin hend).trans hph)
    (by rwa [hix, s.get_atDeadline rfl]) (by rwa [hix, lateSinks_atDeadline]), hix, lateSinks_atDeadline]

theorem deadlineCheck_none {s : State} (hruns : s.clockRuns = true) (hstart : s.frc % s.blockLen = 0)
    (hwithin : s.deadline / s.sampleCycles < s.blockLen) (hend : s.frc + s.blockLen ≤ 2 ^ 64)
    (hnone : s.lateSinks (s.blockIx - 1) = []) : s.deadlineCheck = s.atDeadline := by
  have hix := blockIx_atDeadline hstart hwithin hend
  rw [deadlineCheck_eq hruns hstart, checkSinks_of_none (by rwa [hix, lateSinks_atDeadline])]

end State

/-- Settles O12: a tick keeps what no unit's work at it writes, and the samples before it and the check of the deadline keep
what the deadline looks at. -/
theorem tickAndDeadlineComplete : Obligations.TickAndDeadlineComplete := by
  unfold Obligations.TickAndDeadlineComplete
  intro s
  refine ⟨fun hruns hfrc hitems => ?_, fun hruns hph hnew hstart hwithin hend hlate => ?_,
    fun hruns _ hstart hwithin hend hnone => ?_⟩
  · obtain ⟨hat, hmod, hcclk, hevent, hticked, hlasting⟩ := State.blockTick_lands hruns hfrc hitems
    exact ⟨_, rfl, hat, hmod, hcclk, hevent, hticked, (congrArg State.dram hlasting :), State.eq_of_lasting hlasting⟩
  · obtain ⟨hfrc, hcclk, hdram, hpending⟩ := State.deadlineCheck_frame hruns hstart hwithin hend
    have hover := State.deadlineCheck_late hruns hph hnew hstart hwithin hend hlate
    obtain ⟨hovr, hcount, hmarks, hengine⟩ := s.atDeadline.overrun_parts (s.blockIx - 1) (s.lateSinks (s.blockIx - 1))
    rw [← hover] at hovr hcount hmarks hengine
    rw [State.blockIx_pos hph] at hmarks
    rw [s.get_atDeadline rfl] at hcount hengine
    exact ⟨_, rfl, hfrc, hcclk, hovr, hcount, hmarks, hdram, hpending, hengine⟩
  · obtain ⟨hfrc, hcclk, hdram, hpending⟩ := State.deadlineCheck_frame hruns hstart hwithin hend
    have hsame := State.deadlineCheck_none hruns hstart hwithin hend hnone
    exact ⟨_, rfl, hfrc, hcclk, by rw [hsame, s.get_atDeadline rfl], by rw [hsame, s.get_atDeadline rfl], hdram, hpending,
      by rw [hsame, s.get_atDeadline rfl]⟩

end Sys2Proof.Machine
end

section
/-! A step with no command waiting (O54). -/
namespace Sys2Proof.Machine
namespace State

/-- While FRC stands, only the register functions of the ports, the timers and the pins go on. -/
theorem tended_holdTime (s : State) : ({ s.holdTime with tclk := 0 } : State).tended = ({ s with tclk := 0 } : State).tended := by
  have hfree {t u : State} (h : t.tended = u.tended) : ({ t with tclk := 0 } : State).tended = ({ u with tclk := 0 } : State).tended :=
    congrArg (fun v : State => { v with tclk := 0 }) h
  have hrun (u : State) (t : Nat) (h : u.tended = s.tended) :
      ({ ({ u with tclk := t }.pclkRun 1).dacclrRefresh.live60 with tclk := 0 } : State).tended = ({ s with tclk := 0 } : State).tended := by
    refine (hfree ((tended_live60 _).trans ((tended_dacclrRefresh _).trans (tended_pclkRun _ 1)))).trans ?_
    exact hfree (t := u) h
  unfold holdTime
  split
  · rfl
  · split
    · refine hrun _ _ ?_
      unfold timersPass
      rw [tended_gpTimers, tended_tmPass, tended_txPass, tended_apPass]
    · exact hfree (s.tended_pclkRun 1)

theorem holdTime_frame (s : State) :
    s.holdTime.frc = s.frc ∧ s.holdTime.mems = s.mems ∧ s.holdTime.pending = s.pending ∧ s.holdTime.cores = s.cores :=
  ⟨(congrArg State.frc s.tended_holdTime :), (congrArg State.mems s.tended_holdTime :), (congrArg State.pending s.tended_holdTime :),
    (congrArg State.cores s.tended_holdTime :)⟩

theorem holdTime_stopped {s : State} (h : s.get F.SYS_PWR_STATE = 3 ∨ s.get I.PW_HOLD ≠ 0) : s.holdTime = s := by
  have hstop : s.get F.SYS_PWR_STATE = 3 ∨ s.on I.PW_HOLD = true := h.imp_right fun hhold => decide_eq_true hhold
  unfold holdTime
  rw [if_pos hstop]

/-- The tick raised at the present sample is due no more. -/
theorem tickDue_tickHere {s : State} (hitems : s.twin.items = []) (hdue : s.tickDue = true) (h : s.frc < 2 ^ 64) :
    s.tickHere.tickDue = false := by
  have hstart : s.frc % s.blockLen = 0 := by
    unfold tickDue at hdue
    simp only [Bool.and_eq_true, decide_eq_true_eq] at hdue
    exact hdue.1
  have height : s.frc % 8 = 0 := by
    rw [← Nat.mod_mul_right_mod s.frc 8 (2 ^ s.get I.RATE_B)]
    exact congrArg (· % 8) hstart
  have hnumber : s.tickHere.get I.TICKED = s.tickHere.frc + 1 := by
    rw [ticked_place_tickHere hitems, frc_tickHere hitems, Nat.mod_eq_of_lt (a := s.frc + 1) (by omega)]
  unfold tickDue
  simp [hnumber]

theorem tickDue_advance {s : State} {n : Nat} (h : n ≠ 0) :
    (s.advance n).tickDue = (decide ((s.frc + n) % 2 ^ 64 % s.blockLen = 0) && decide (s.get I.TICKED ≠ (s.frc + n) % 2 ^ 64 + 1)) := by
  rw [tickDue, frc_advance_pos s h, blockLen_advance, s.get_advance n rfl]

/-- The sample that passes, up to the tick that it may reach. -/
theorem tickDue_sample (s : State) :
    ((s.checkWithin 1).advance 1).tickDue =
      (decide ((s.frc + 1) % 2 ^ 64 % s.blockLen = 0) && decide (s.get I.TICKED ≠ (s.frc + 1) % 2 ^ 64 + 1)) := by
  rw [tickDue_advance (by decide), frc_checkWithin, blockLen_checkWithin, s.get_checkWithin 1 rfl]

theorem frc_sample (s : State) : ((s.checkWithin 1).advance 1).frc = (s.frc + 1) % 2 ^ 64 := by
  rw [frc_advance_pos _ (by decide), frc_checkWithin]

/-- A step with no command waiting. -/
theorem step_of_none {s : State} (h : s.pending = []) : step s = .next s.idle := by
  rw [step, h]

theorem idle_of_standing {s : State} (h : s.clockRuns = false) : s.idle = s.holdTime := by
  unfold idle
  rw [if_neg (by simp [h])]

theorem idle_of_due {s : State} (hruns : s.clockRuns = true) (hdue : s.tickDue = true) : s.idle = s.tickHere := by
  unfold idle
  rw [if_pos hruns, if_pos hdue]

theorem idle_of_sample {s : State} (hruns : s.clockRuns = true) (hdue : s.tickDue = false) :
    s.idle = if ((s.checkWithin 1).advance 1).tickDue then ((s.checkWithin 1).advance 1).tickHere else (s.checkWithin 1).advance 1 := by
  unfold idle
  rw [if_pos hruns, if_neg (by simp [hdue])]

/-- A sample that reaches no tick. -/
theorem idle_within {s : State} (hruns : s.clockRuns = true) (hdue : s.tickDue = false) (hin : (s.frc + 1) % 2 ^ 64 % s.blockLen ≠ 0) :
    s.idle = (s.checkWithin 1).advance 1 := by
  rw [idle_of_sample hruns hdue, tickDue_sample, decide_eq_false hin, Bool.false_and, if_neg Bool.false_ne_true]

/-- A sample that reaches a tick. -/
theorem idle_at_tick {s : State} (hruns : s.clockRuns = true) (hdue : s.tickDue = false)
    (hat : (s.frc + 1) % 2 ^ 64 % s.blockLen = 0) (hnew : s.get I.TICKED ≠ (s.frc + 1) % 2 ^ 64 + 1) :
    s.idle = ((s.checkWithin 1).advance 1).tickHere := by
  rw [idle_of_sample hruns hdue, tickDue_sample, decide_eq_true hat, decide_eq_true hnew, Bool.true_and, if_pos rfl]

end State

/-- Settles O54: a sample keeps what the tick is measured by, and a tick puts its number where it is measured. -/
theorem anEmptyQueueLetsOneSamplePass : Obligations.AnEmptyQueueLetsOneSamplePass := by
  unfold Obligations.AnEmptyQueueLetsOneSamplePass
  intro s hnone
  rw [State.step_of_none hnone]
  refine ⟨fun hstands => ?_, fun hruns hdue => ?_, fun hruns hdue hin hapart => ?_, fun hruns hdue hin hbefore hreach => ?_,
    fun hruns hdue hat hnew hitems => ?_⟩
  · obtain ⟨hfrc, hmems, hpending, hcores⟩ := s.holdTime_frame
    rw [State.idle_of_standing hstands]
    exact ⟨_, rfl, hfrc, hmems, hpending.trans hnone, hcores, State.holdTime_stopped⟩
  · rw [State.idle_of_due hruns hdue]
    exact ⟨_, rfl, rfl, fun hitems => ⟨State.frc_tickHere hitems, State.cclk_tickHere hitems, State.event_tickHere hitems,
      State.tickDue_tickHere hitems hdue⟩⟩
  · have hcheck : s.checkWithin 1 = s := if_neg (by omega)
    rw [State.idle_within hruns hdue hin, hcheck]
    refine ⟨_, rfl, rfl, s.frc_advance_pos (by decide), ?_, ?_⟩
    · rw [State.cclk_advance, Nat.one_mul]
    · rw [s.tclk_advance (by decide), Nat.one_mul]
  · have hcheck : s.checkWithin 1 = s.checkSinks := if_pos (by omega)
    rw [State.idle_within hruns hdue hin, hcheck]
    exact ⟨_, rfl, rfl, hcheck ▸ s.frc_sample⟩
  · have hfrc := s.frc_sample
    have hlink : ((s.checkWithin 1).advance 1).twin.items = [] := by
      rw [State.items_advance, State.items_checkWithin, hitems]
    rw [State.idle_at_tick hruns hdue hat hnew]
    exact ⟨_, rfl, (State.frc_tickHere hlink).trans hfrc, State.cclk_tickHere hlink, State.event_tickHere hlink⟩

end Sys2Proof.Machine
end
